-- ==== Sys2Proof/Word.lean ====
section
/-! DEFINITION. The data words of the block: a byte, a 64-B half (one CXL host line) and a 128-B line (00_scope, Notation), and the masks that enable their bytes. Byte b of a half or line stands in bits [8b+7:8b] (R4, little-endian). -/

namespace Sys2Proof

/-- One byte. -/
abbrev Byte := BitVec 8

/-- A 64-B half of a line, the unit of a host request (R51, R210). -/
abbrev Half := BitVec 512

/-- A 128-B line, the unit of Velvet and of the media (R22, R139). -/
abbrev Line := BitVec 1024

/-- Byte enables of a half (R99, R210). -/
abbrev HalfMask := BitVec 64

/-- The byte-valid mask of a Velvet line (R99). -/
abbrev LineMask := BitVec 128

end Sys2Proof
end

