-- ==== Sys2Proof/Syntax.lean ====
section
/-! DEFINITION. The commands of the block: one constructor for each row of spec/opcode_table.json, in the table's order, with the operands that the row's rule gives it.
Every command carries a `Stamp`: the instant at which it occurs, and the level of NVWP_N then. What the environment decides (the error bits a transfer arrives with, a converter's reading, a host's data) stands in the operands. -/

namespace Sys2Proof

/-- When a command occurs: `t` in ns on the block's own time line, and the level of the input pin NVWP_N at that instant (R379, R418: the one input pin that no row of the table moves). -/
structure Stamp where
  t    : Nat
  nvwp : Bool
  deriving DecidableEq, Repr

/-- A host port (R1). -/
inductive Head where
  | A
  | B
  deriving DecidableEq, Repr

/-- Where a dictionary request comes from (R265, R283): the mailbox of a head with its maintenance flag, or a CAN FD frame with its transaction number, maintenance flag, MAC counter and MAC (R287). -/
inductive Src where
  | mb  (h : Head) (maint : Bool)
  | can (trans : BitVec 8) (maint : Bool) (ctr : BitVec 32) (mac : BitVec 64)
  deriving DecidableEq, Repr

/-- What the datapath decoder reports of the beats of one half (R88, R90): nothing, one corrected symbol in some beat, an uncorrectable beat, or an address fold mismatch. -/
inductive Dp where
  | ok
  | corrected
  | uncorrectable
  | address
  deriving DecidableEq, Repr

/-- What disturbs the beats of a line on the datapath (R88 to R90): the symbols in error, by beat of the line, position of the code word (0 to 3 check symbols, 4 to 19 data symbols) and difference; the DPA of the line under which misdirected beats were sent; and whether the disturbance lies in the line as Velvet holds it, in its words or its check array, or in the way's state word or tag, and not on the way. -/
structure DpErr where
  syms  : List (Fin 8 × Fin 20 × BitVec 8) := []
  sent  : Option (BitVec 43) := none
  velvet : Bool := false
  state : Bool := false
  deriving DecidableEq, Repr

/-- What befalls a line on its way from Velvet to a channel (R90): its beats, and how often Damask's two keystreams disagree on a beat of a half. -/
structure EgressErr where
  dp    : DpErr := {}
  keystreams : Nat := 0
  half  : Bool := false
  deriving DecidableEq, Repr

/-- What the decoder of an SRAM word reports (R91, R93). -/
inductive SramErr where
  | clean
  | corrected
  | uncorrectable
  | address
  deriving DecidableEq, Repr

/-- What disturbs an SRAM word on an access (R91): the stored bits in error, and the difference of the 25 bits of bank and word address between its write and its read. -/
structure SramFlaw where
  stored : BitVec 79 := 0
  addr   : BitVec 25 := 0
  deriving DecidableEq, Repr

/-- An access of an SRAM word (R91, R92, R110): Terry's scrub, which in an unused spare bank reads back its pattern, the read of its user, or a write narrower than 64 bits. -/
inductive SramAccess where
  | scrub
  | read
  | narrow
  deriving DecidableEq, Repr

/-- Which step of deep recovery has yielded a line (R47): soft decoding of its own location; soft decoding of members and reconstruction; a new reconstruction once resets have ended. Members that still give nothing stand beside it. -/
inductive RecoveryStep where
  | own
  | members (lost : List (Fin 18))
  | again (lost : List (Fin 18))
  deriving DecidableEq, Repr

/-- What COLD_PATH_WRITE writes: a holding buffer's line, or a write-through line (R58). -/
inductive ColdTarget where
  | buffer (n : Fin 4096)
  | line (li : BitVec 36)
  deriving DecidableEq, Repr

/-- Service class of a region (R32). -/
inductive Cls where
  | voile
  | denim
  deriving DecidableEq, Repr

/-- A CXL event log (R226). -/
inductive EvLog where
  | informational
  | warning
  | failure
  | fatal
  | dynamicCapacity
  deriving DecidableEq, Repr

/-- The part of a firmware image that one Transfer FW command carries (R221, as the CXL standard names the actions). -/
inductive FwPart where
  | full
  | initiate
  | continue
  | finish
  | abort
  deriving DecidableEq, Repr

/-- A firmware image as the device judges it (R325): its header's version and security version, its length, and whether its signature passes. -/
structure FwImage where
  version : List Byte
  secVer  : Nat
  length  : Nat
  sigOk   : Bool
  deriving DecidableEq, Repr

/-- The read status pair and the checks of one Joern read transfer (R183 to R185, R194): whether a strobe came and every CRC group passed, the words ST and SG, the bits of the 144 B in error, and what disturbs the beats after the inner decode. -/
structure Xfer where
  strobe : Bool
  crcOk  : Bool
  st     : BitVec 64
  sg     : BitVec 72
  err    : BitVec 1152 := 0
  dp     : DpErr := {}
  /-- Phase of the strobe against the die's read delay in use, 1/1024 UI (R201). -/
  phase  : Int := 0
  deriving DecidableEq, Repr

/-- Why a head is reset (R231). -/
inductive ResetKind where
  | perst
  | hotReset
  | linkDisable
  deriving DecidableEq, Repr

/-- A voted field (R304). -/
inductive Voted where
  | mode
  | damask (unit : Fin 4)
  | persistence
  | domains
  | feltPolicy
  deriving DecidableEq, Repr

/-- What starts a checkpoint (R78). -/
inductive CkptTrigger where
  | time
  | lines
  | records
  | full
  deriving DecidableEq, Repr

/-- A running rail's fault (R336). -/
inductive RailKind where
  | uv
  | ov
  | pg
  deriving DecidableEq, Repr

/-- A PLL that is judged (R350, R353). -/
inductive Pll where
  | fab
  | eng
  | cry
  | jch
  | fallback
  deriving DecidableEq, Repr

/-- The clock domain whose acknowledgement of an apply is awaited, or whose registers a parity checker scans (R277, R306, R307). -/
inductive Dom where
  | fab
  | eng
  | jch
  | cry
  | aon
  | serdes
  | control (h : Head)
  deriving DecidableEq, Repr

/-- A checker of the self-test that did not report its injected error (R401). -/
inductive Checker where
  | sensor (s : Fin 16)
  | headLogic (h : Head)
  | spareEngine (e : Fin 4)
  | sramDecoder (b : Fin 66)
  | other
  deriving DecidableEq, Repr

/-- A test instruction of the TAP (R429). -/
inductive TapInstr where
  | bypass
  | idcode
  | samplePreload
  | extest
  | clamp
  | highz
  deriving DecidableEq, Repr

/-- What a write to the BAR0 component or device registers asks (R212, R221, R229): commit or uncommit of an HDM decoder, or the two interrupt enables of the mailbox control register. -/
inductive ComponentWrite where
  | decoderCommit (n : Fin 8) (base size skip : Nat) (ways : Nat) (gran : Nat) (pos : Nat) (lock : Bool)
  | decoderUncommit (n : Fin 8)
  | mailboxControl (doorbellIrq backgroundIrq : Bool)
  deriving DecidableEq, Repr

/-- A PCIe configuration request (R208, R231, R291): a read of a configuration doubleword, or a write of a BAR, of an MSI-X entry, or of another field. -/
inductive ConfigRequest where
  | readDword (off : BitVec 12)
  | writeBar (bar : Fin 6) (v : BitVec 32)
  | writeMsix (entry : Fin 8) (addr : BitVec 64) (data : BitVec 32) (masked : Bool)
  | writeField (off : BitVec 12) (v : BitVec 32)
  deriving DecidableEq, Repr

/-- A memory alert threshold setting (R221, Set Alert Configuration): `none` disables it. -/
structure AlertCfg where
  lifeUsed    : Option Nat
  overTemp    : Option Int
  underTemp   : Option Int
  corrVolatile : Option Nat
  corrPersist  : Option Nat
  deriving DecidableEq, Repr

/-- What training found on one channel (R199, R200): dies present by CA loopback, and those that passed verification. -/
structure TrainObs where
  caOk    : Bool
  present : BitVec 8
  pass    : BitVec 8
  timeUs  : Nat
  deriving DecidableEq, Repr

/-- What die discovery and the binding read found (R254, R34, R407). -/
structure BindObs where
  mediaBlank : Bool
  /-- The binding record as read: media generation, check value, serial number and operating time; none when no valid one can be read (R253). -/
  record     : Option (BitVec 8 × BitVec 64 × BitVec 128 × Nat)
  dieIds     : List (Nat × BitVec 64)
  deriving DecidableEq, Repr

/-- What the boot's load of Felt finds, by item: 0 directory, 1 calibration set, 2 persistent parameters, 3 key blobs, 4 counter record (R374). -/
structure FeltObs where
  /-- Both copies of the item are valid and carry the same sequence. -/
  twin : BitVec 5
  /-- The item has no valid copy left. -/
  gone : BitVec 5
  deriving DecidableEq, Repr

/-- The commands. -/
inductive Instr where
  -- host requests
  | memRd (a : Stamp) (h : Head) (hpa : Nat) (tag : Nat)
  | memRdData (a : Stamp) (h : Head) (hpa : Nat) (tag : Nat)
  | memSpecRd (a : Stamp) (h : Head) (hpa : Nat) (tag : Nat)
  | memWr (a : Stamp) (h : Head) (hpa : Nat) (tag : Nat) (data : Half) (poison : Bool)
  | memWrPtl (a : Stamp) (h : Head) (hpa : Nat) (tag : Nat) (data : Half) (mask : HalfMask) (poison : Bool)
  | unsupportedRequest (a : Stamp) (h : Head) (hpa : Nat) (tag : Nat) (isRead : Bool)
  | acceptance (a : Stamp) (h : Head) (i : Nat) (dp : DpErr)
  -- reads on the media
  | readIssue (a : Stamp) (ch : Fin 32) (die : Fin 8) (part : Fin 32)
  | programResume (a : Stamp) (ch : Fin 32) (die : Fin 8) (part : Fin 32)
  | readTransfer (a : Stamp) (ch : Fin 32) (die : Fin 8) (part : Fin 32) (x : Xfer)
  | reconstructionComplete (a : Stamp) (rid : Nat) (lost : List (Fin 18)) (dp : DpErr)
  | fillReturn (a : Stamp) (li : BitVec 36)
  | deadlineExpiry (a : Stamp) (rid : Nat)
  | deepRecoveryTimeout (a : Stamp) (rid : Nat)
  | deepRecoverySuccess (a : Stamp) (rid : Nat) (step : RecoveryStep) (dp : DpErr)
  | programGuard (a : Stamp) (ch : Fin 32) (die : Fin 8) (part : Fin 32)
  | resetGuard (a : Stamp) (ch : Fin 32) (die : Fin 8) (part : Fin 32)
  -- writes on the media
  | coldPathWrite (a : Stamp) (t : ColdTarget) (e : EgressErr)
  | hotAppend (a : Stamp) (b : Fin 4096) (lane : Fin 256) (e : EgressErr)
  | programComplete (a : Stamp) (ch : Fin 32) (die : Fin 8) (part : Fin 32) (ok : Bool)
  | tileResetStart (a : Stamp) (ch : Fin 32) (die : Fin 8) (part : Fin 32)
  | tileResetComplete (a : Stamp) (ch : Fin 32) (die : Fin 8) (part : Fin 32) (ok : Bool)
  | writeThroughWrite (a : Stamp) (li : BitVec 36) (lane : Fin 256) (e : EgressErr)
  -- Velvet
  | dirtyCleaning (a : Stamp)
  | rangeClean (a : Stamp) (src : Src)
  | rangeInvalidate (a : Stamp) (src : Src)
  | rangeCleanAndInvalidate (a : Stamp) (src : Src)
  | rangeOperationEnd (a : Stamp)
  | lineCleanByAddress (a : Stamp) (src : Src) (line : BitVec 57)
  | lineInvalidateByAddress (a : Stamp) (src : Src) (line : BitVec 57)
  | lineCleanInvalidateByAddress (a : Stamp) (src : Src) (line : BitVec 57)
  | lineCleanBySetAndWay (a : Stamp) (src : Src) (set : Fin 16384) (way : Fin 16)
  | lineInvalidateBySetAndWay (a : Stamp) (src : Src) (set : Fin 16384) (way : Fin 16)
  | lineCleanInvalidateBySetAndWay (a : Stamp) (src : Src) (set : Fin 16384) (way : Fin 16)
  | hint (a : Stamp) (h : Head) (rec : BitVec 128)
  | hintCancel (a : Stamp) (h : Head) (rec : BitVec 128)
  | prefetchRead (a : Stamp) (h : Head)
  -- persistence
  | startBarrier (a : Stamp) (src : Src)
  | barrierCompletion (a : Stamp)
  | gpfPhase1 (a : Stamp) (h : Head)
  | gpfPhase2 (a : Stamp) (h : Head)
  | gpfPhase2Complete (a : Stamp) (h : Head)
  -- mailbox
  | identify (a : Stamp) (h : Head)
  | backgroundOperationStatus (a : Stamp) (h : Head)
  | getEventRecords (a : Stamp) (h : Head) (log : EvLog)
  | clearEventRecords (a : Stamp) (h : Head) (log : EvLog) (all : Bool) (handles : List Nat)
  | getEventInterruptPolicy (a : Stamp) (h : Head)
  | setEventInterruptPolicy (a : Stamp) (h : Head) (policy : List (EvLog × Option Nat))
  | getFwInfo (a : Stamp) (h : Head)
  | transferFw (a : Stamp) (h : Head) (part : FwPart) (img : FwImage)
  | activateFw (a : Stamp) (h : Head) (slot : Nat) (online : Bool)
  | getTimestamp (a : Stamp) (h : Head)
  | setTimestamp (a : Stamp) (h : Head) (v : BitVec 64)
  | getSupportedLogs (a : Stamp) (h : Head)
  | getLog (a : Stamp) (h : Head) (uuid : BitVec 128)
  | identifyMemoryDevice (a : Stamp) (h : Head)
  | getHealthInfo (a : Stamp) (h : Head)
  | getAlertConfiguration (a : Stamp) (h : Head)
  | setAlertConfiguration (a : Stamp) (h : Head) (cfg : AlertCfg)
  | getShutdownState (a : Stamp) (h : Head)
  | setShutdownState (a : Stamp) (h : Head) (v : Bool)
  | sanitize (a : Stamp) (h : Head)
  | secureErase (a : Stamp) (h : Head)
  | eraseComplete (a : Stamp)
  | getDynamicCapacityConfiguration (a : Stamp) (h : Head)
  | getDynamicCapacityExtentList (a : Stamp) (h : Head)
  | addDynamicCapacityResponse (a : Stamp) (h : Head) (extents : List (Nat × Nat))
  | releaseDynamicCapacity (a : Stamp) (h : Head) (extents : List (Nat × Nat))
  | getPoisonList (a : Stamp) (h : Head) (dpa : Nat) (len : Nat)
  | injectPoison (a : Stamp) (h : Head) (dpa : Nat)
  | clearPoison (a : Stamp) (h : Head) (dpa : Nat) (data : Half)
  | getScanMediaCapabilities (a : Stamp) (h : Head) (dpa : Nat) (len : Nat)
  | scanMedia (a : Stamp) (h : Head) (dpa : Nat) (len : Nat)
  | getScanMediaResults (a : Stamp) (h : Head)
  -- object dictionary and Muslin
  | read (a : Stamp) (src : Src) (idx : BitVec 16) (sub : BitVec 8)
  | write (a : Stamp) (src : Src) (idx : BitVec 16) (sub : BitVec 8) (val : List Byte)
  | stage (a : Stamp) (src : Src) (idx : BitVec 16) (sub : BitVec 8) (val : List Byte)
  | commit (a : Stamp) (src : Src) (inst : BitVec 8) (tick : BitVec 48)
  | abort (a : Stamp) (src : Src)
  | status (a : Stamp) (src : Src)
  | commitCheckEnd (a : Stamp) (shadowOk : Bool)
  | applyInstant (a : Stamp) (noAck : List Dom) (pauseNs : Nat)
  | applyFault (a : Stamp)
  | stagingTimeout (a : Stamp)
  | parameterPersist (a : Stamp)
  | openRead (a : Stamp) (h : Head) (maint : Bool) (idx : BitVec 16) (sub : BitVec 8)
  | openWrite (a : Stamp) (h : Head) (maint : Bool) (idx : BitVec 16) (sub : BitVec 8) (total : Nat)
  | data (a : Stamp) (h : Head) (maint : Bool) (off : Nat) (len : Nat) (chunk : List Byte)
  | close (a : Stamp) (h : Head) (maint : Bool) (crc : BitVec 32)
  | bulkAbort (a : Stamp) (h : Head)
  | bulkTransferTimeout (a : Stamp) (h : Head)
  -- CAN FD sideband
  | bulkOpenRead (a : Stamp) (trans : BitVec 8) (maint : Bool) (idx : BitVec 16) (sub : BitVec 8)
  | bulkOpenWrite (a : Stamp) (trans : BitVec 8) (maint : Bool) (ctr : BitVec 32) (mac : BitVec 64) (idx : BitVec 16) (sub : BitVec 8) (total : Nat)
  | segment (a : Stamp) (trans : BitVec 8) (ctr : BitVec 32) (mac : BitVec 64) (num : Nat) (chunk : List Byte)
  | segmentAcknowledge (a : Stamp) (trans : BitVec 8) (num : Nat)
  | bulkClose (a : Stamp) (trans : BitVec 8) (ctr : BitVec 32) (mac : BitVec 64) (crc : BitVec 32)
  | canBulkAbort (a : Stamp) (trans : BitVec 8) (ctr : BitVec 32) (mac : BitVec 64)
  | canFrameIgnored (a : Stamp)
  | canTransferTimeout (a : Stamp)
  | heartbeat (a : Stamp)
  | busOffRecovery (a : Stamp)
  -- sessions and keys
  | challengeRead (a : Stamp) (src : Src)
  | response (a : Stamp) (src : Src) (v : BitVec 64)
  | closeMaintenance (a : Stamp) (src : Src)
  | maintenanceIdleTimeout (a : Stamp) (src : Src)
  | responseLockoutEnd (a : Stamp) (src : Src)
  | maintenanceKey (a : Stamp) (src : Src) (key : BitVec 256)
  | frameMacKey (a : Stamp) (src : Src) (key : BitVec 256)
  | stageDefaults (a : Stamp) (src : Src)
  -- Dynamic Capacity regions
  | add (a : Stamp) (src : Src)
  | releaseRequest (a : Stamp) (src : Src)
  | forcedRelease (a : Stamp) (src : Src)
  | addResponseTimeout (a : Stamp) (h : Head)
  | regionTeardown (a : Stamp) (rgn : Nat)
  -- actions of the dictionary
  | histogramClear (a : Stamp) (src : Src)
  | calibrationImport (a : Stamp) (src : Src) (blob : List Byte)
  | keyEncryptionKey (a : Stamp) (src : Src) (key : BitVec 256)
  | escrowExport (a : Stamp) (src : Src)
  | escrowImport (a : Stamp) (src : Src) (blob : List Byte)
  | unlockRegion (a : Stamp) (src : Src) (r : BitVec 32)
  | resetRegionCount (a : Stamp) (src : Src) (r : BitVec 32)
  | retireDie (a : Stamp) (src : Src) (d : BitVec 16)
  | retireChannel (a : Stamp) (src : Src) (c : BitVec 8)
  | retrainRequest (a : Stamp) (src : Src) (ch : Fin 32)
  | powerDownToStandby (a : Stamp) (src : Src)
  | startHealthTest (a : Stamp) (src : Src)
  | clearCounters (a : Stamp) (src : Src)
  -- registers
  | idataRead (a : Stamp) (h : Head) (bytes : Nat)
  | idataWrite (a : Stamp) (h : Head) (bytes : Nat) (v : BitVec 64)
  | indirectAcknowledge (a : Stamp) (h : Head)
  | indirectTimeout (a : Stamp) (h : Head) (tookEffect : Bool)
  | registerWrite (a : Stamp) (h : Head) (off : BitVec 12) (bytes : Nat) (v : BitVec 128)
  | gval (a : Stamp) (h : Head) (bytes : Nat) (v : BitVec 64)
  | gcmp (a : Stamp) (h : Head) (bytes : Nat) (v : BitVec 64)
  | keyZeroize (a : Stamp)
  | calibrationWriteEnableOpen (a : Stamp)
  | calibrationWriteEnableClose (a : Stamp)
  | calibrationEnableExpiry (a : Stamp)
  | feltFormat (a : Stamp)
  | safeStopRelease (a : Stamp)
  | forcedPowerCutInput (a : Stamp)
  | forcedPowerCutRail (a : Stamp)
  | forcedClockSwitchIrc (a : Stamp)
  | forcedClockSwitchRefclk (a : Stamp)
  | voteCorrection (a : Stamp) (f : Voted) (copy : Fin 3) (v : Nat)
  | voteThreeWayDisagreement (a : Stamp) (f : Voted) (v1 v2 : Nat)
  | parityMismatch (a : Stamp) (d : Dom) (off : BitVec 24)
  -- Tweed
  | consume (a : Stamp) (h : Head) (v : BitVec 64)
  | drop (a : Stamp) (h : Head)
  | telemetryWindowAccess (a : Stamp) (h : Head) (tag : Nat) (off : BitVec 26) (isWrite : Bool)
  | telemetryDump (a : Stamp)
  | queueBankSwap (a : Stamp)
  -- Linen and Felt
  | linenReport (a : Stamp) (code : BitVec 16) (cls : BitVec 8) (unit : BitVec 16) (dpa hpa : Option Nat) (data : List Byte)
  | stormWindowClose (a : Stamp) (code : BitVec 16) (cls : BitVec 8) (unit : BitVec 16)
  | tokenGain (a : Stamp)
  | ringWrite (a : Stamp)
  | feltMarginPass (a : Stamp) (weakWords : Nat)
  | counterRecordWrite (a : Stamp)
  | operatingTimeTick (a : Stamp)
  -- Twill
  | hotEpochEnd (a : Stamp)
  | demotionCommit (a : Stamp) (li : BitVec 36)
  | promotionWayTimeout (a : Stamp) (li : BitVec 36)
  | journalRecordIssue (a : Stamp) (failed : Fin 256)
  | garbageCollection (a : Stamp) (cls : Cls)
  | wearIncrement (a : Stamp) (slot : Nat)
  | trackerFold (a : Stamp) (slot : Nat)
  | rotationPassEnd (a : Stamp) (r : Nat)
  | migrationStart (a : Stamp) (r : Nat)
  | migrationEnd (a : Stamp) (r : Nat)
  | coldSwapCheck (a : Stamp)
  | refreshRegion (a : Stamp)
  | refreshBacklog (a : Stamp) (r : Nat)
  | checkpointStart (a : Stamp) (trigger : CkptTrigger)
  | checkpointCommit (a : Stamp) (failed : List (Fin 1048576))
  | resync (a : Stamp) (r : Nat)
  | weakLineRewrite (a : Stamp)
  -- Terry
  | terryStripeRead (a : Stamp) (cls : Cls)
  | sramScrub (a : Stamp) (bank : Fin 66) (word : Nat) (how : SramAccess) (e : SramFlaw)
  | scrubStarved (a : Stamp) (lap : Fin 3)
  -- Gauze
  | cellEvaluation (a : Stamp) (d : Fin 256) (b : Fin 16) (n : Fin 4) (j : Fin 3)
  | cellStale (a : Stamp) (d : Fin 256) (b : Fin 16) (n : Fin 4) (j : Fin 3)
  | probeBatch (a : Stamp) (d : Fin 256) (b : Fin 16) (n : Fin 4) (j : Fin 3)
  | weakRegionOffer (a : Stamp) (area : Nat)
  | trendFit (a : Stamp) (d : Fin 256)
  | marginEvaluation (a : Stamp)
  | gauzeSnapshot (a : Stamp) (failed : List (Fin 16384))
  -- Damask
  | tagWriteback (a : Stamp)
  | rekeyPass (a : Stamp) (r : Nat)
  -- Joern channels
  | alertService (a : Stamp) (ch : Fin 32) (reports : List (Fin 8 × BitVec 256))
  | channelTraining (a : Stamp) (obs : List TrainObs)
  | channelRetrain (a : Stamp) (ch : Fin 32)
  | zqcShortPeriod (a : Stamp) (ch : Fin 32)
  | writeDeskewCheck (a : Stamp) (ch : Fin 32) (die : Fin 8) (moved : List (Fin 36 × Bool))
  -- die commands
  | rd (a : Stamp) (ch : Fin 32) (die : Fin 8) (part : Fin 32) (line : BitVec 23) (o2 o1 o0 : BitVec 9)
  | mrd (a : Stamp) (ch : Fin 32) (die : Fin 8) (part : Fin 32) (line : BitVec 23) (o2 o1 o0 : BitVec 9)
  | rrs (a : Stamp) (ch : Fin 32) (die : Fin 8) (part : Fin 32)
  | pgm (a : Stamp) (ch : Fin 32) (die : Fin 8) (part : Fin 32) (line : BitVec 23) (content : BitVec 1152) (accepted : Bool)
  | ovw (a : Stamp) (ch : Fin 32) (die : Fin 8) (part : Fin 32) (line : BitVec 23) (content : BitVec 1152) (accepted : Bool)
  | trs (a : Stamp) (ch : Fin 32) (die : Fin 8) (part : Fin 32) (tile : BitVec 17) (count : Fin 4)
  | sus (a : Stamp) (ch : Fin 32) (die : Fin 8) (part : Fin 32)
  | rsm (a : Stamp) (ch : Fin 32) (die : Fin 8) (part : Fin 32)
  | str (a : Stamp) (ch : Fin 32) (die : Fin 8)
  | alc (a : Stamp) (ch : Fin 32) (cs : BitVec 8) (mask : BitVec 7)
  | mrw (a : Stamp) (ch : Fin 32) (cs : BitVec 8) (addr : BitVec 8) (v : BitVec 16)
  | mrr (a : Stamp) (ch : Fin 32) (die : Fin 8) (addr : BitVec 8)
  | idr (a : Stamp) (ch : Fin 32) (die : Fin 8)
  | zqc (a : Stamp) (ch : Fin 32) (cs : BitVec 8) (long : Bool)
  | trn (a : Stamp) (ch : Fin 32) (die : Fin 8) (buffer : Bool) (seed : BitVec 8)
  | tbw (a : Stamp) (ch : Fin 32) (die : Fin 8) (content : BitVec 1152)
  | sby (a : Stamp) (ch : Fin 32) (cs : BitVec 8)
  | wak (a : Stamp) (ch : Fin 32) (cs : BitVec 8)
  | rst (a : Stamp) (ch : Fin 32) (cs : BitVec 8)
  -- repair and safety
  | rebuildPosition (a : Stamp)
  | replacementCopyBack (a : Stamp) (pos : Nat)
  | engineHeartbeatMiss (a : Stamp) (e : Fin 64)
  | takeoverComplete (a : Stamp) (e : Fin 64)
  | lockstepMismatch (a : Stamp) (pair : Fin 2)
  | bankFailoverComplete (a : Stamp)
  | headFailure (a : Stamp) (h : Head)
  | selfTest (a : Stamp) (failed : List Checker)
  | safeStopEntry (a : Stamp)
  -- power
  | residentRailsGood (a : Stamp) (straps : List (Fin 4)) (pfailHigh testEn : Bool)
  | residentRailFall (a : Stamp)
  | pfailNRise (a : Stamp)
  | inputPowerLoss (a : Stamp)
  | flushEnd (a : Stamp) (errs : List (Nat × DpErr))
  | slotStepStart (a : Stamp) (slot : Fin 12)
  | pseqPgChange (a : Stamp) (slot : Fin 12) (level : Bool) (mv : Nat)
  | slotQualified (a : Stamp) (slot : Fin 12)
  | slotQualifyTimeout (a : Stamp) (slot : Fin 12)
  | slotFallen (a : Stamp) (slot : Fin 12) (mv : Nat)
  | slotFallTimeout (a : Stamp) (slot : Fin 12)
  | railFault (a : Stamp) (slot : Fin 12) (kind : RailKind) (mv : Nat)
  | huSenseSample (a : Stamp) (code : BitVec 12)
  | holdupReport (a : Stamp)
  | writeBackReturn (a : Stamp)
  | healthTest (a : Stamp)
  | healthTestEnd (a : Stamp) (stepUv totalUv : Nat)
  -- modes
  | boot (a : Stamp) (badBanks : List (Fin 66)) (felt : FeltObs)
  | bindingCheck (a : Stamp) (obs : BindObs)
  | mapRebuild (a : Stamp) (timeUs : Nat)
  | memoryActive (a : Stamp)
  | holdupReportTimeout (a : Stamp)
  | lightSleepEntry (a : Stamp)
  | deepSleepEntry (a : Stamp)
  | idleEnd (a : Stamp)
  -- clocks and thermal
  | refMonitorWindow (a : Stamp) (edges : Nat)
  | refclkLost (a : Stamp) (stopped : Bool)
  | refclkGood (a : Stamp)
  | pllJudgeWindow (a : Stamp) (pll : Pll) (count : Nat) (cref : Nat)
  | ircTrimUpdate (a : Stamp)
  | thermalSample (a : Stamp) (raw : List (BitVec 16))
  | throttleEntry (a : Stamp)
  | throttleStep (a : Stamp)
  | devloadWindow (a : Stamp) (h : Head)
  -- links
  | perstAssert (a : Stamp) (h : Head) (kind : ResetKind)
  | perstDeassert (a : Stamp) (h : Head)
  | functionLevelReset (a : Stamp) (h : Head)
  | linkDown (a : Stamp) (h : Head)
  | linkUp (a : Stamp) (h : Head) (rate : Fin 5) (width : Fin 17) (flit : Fin 3)
  | l1Entry (a : Stamp) (h : Head)
  | l1Exit (a : Stamp) (h : Head)
  -- SPDM, IDE and other DOE
  | getVersion (a : Stamp) (h : Head)
  | getCapabilities (a : Stamp) (h : Head)
  | negotiateAlgorithms (a : Stamp) (h : Head) (offered : Bool)
  | getDigests (a : Stamp) (h : Head)
  | getCertificate (a : Stamp) (h : Head) (slot : Fin 8)
  | challenge (a : Stamp) (h : Head) (slot : Fin 8) (nonce : BitVec 256)
  | getMeasurements (a : Stamp) (h : Head) (index : BitVec 8) (nonce : BitVec 256)
  | keyExchange (a : Stamp) (h : Head) (exchange : BitVec 768)
  | finish (a : Stamp) (h : Head) (verify : BitVec 384)
  | keyUpdate (a : Stamp) (h : Head)
  | spdmHeartbeat (a : Stamp) (h : Head)
  | endSession (a : Stamp) (h : Head)
  | ideKeyManagement (a : Stamp) (h : Head) (pcie : Bool) (key : BitVec 256) (skid : Bool)
  | ideFailure (a : Stamp) (h : Head) (pcie : Bool)
  | cdatRead (a : Stamp) (h : Head)
  -- rows added at the end of the table
  | channelRetrainEnd (a : Stamp) (ch : Fin 32) (ok : Bool) (timeUs : Nat)
  | returnRampEnd (a : Stamp)
  | redistributionComplete (a : Stamp)
  | addCapacityOffer (a : Stamp)
  | testEnRise (a : Stamp)
  | tapInstruction (a : Stamp) (i : TapInstr)
  | canBusJoin (a : Stamp)
  | cxlComplianceRequest (a : Stamp) (h : Head)
  | componentRegisterWrite (a : Stamp) (h : Head) (w : ComponentWrite)
  | configurationRequest (a : Stamp) (h : Head) (r : ConfigRequest)
  deriving DecidableEq, Repr

end Sys2Proof
end

