-- ==== Sys2Proof/Decode.lean ====
section
/-! DEFINITION. Words of the opcode table: the table gives none of its rows any bits (every row's `fields` is empty and no row has `fixed`), so no word spells a command. -/

namespace Sys2Proof

/-- The command that a word spells by the table's bits: none, since the table gives no bits. -/
def decodeTableWord (_nbits _w : Nat) : Option Instr := none

end Sys2Proof
end

