-- ==== Sys2Proof/Config.lean ====
section
/-! DEFINITION. What an implementation of the block fixes and the spec leaves open: constants without a body, so that no proof can see a value of them, and every statement holds for each. Each is named in a log entry. -/

namespace Sys2Proof.Config

/-! ### Ciphers (R237 to R251, R266, R287): the functions of FIPS 197, NIST SP 800-38B/38D/38F/108, FIPS 180-4 and 186-4 that the spec names and does not define (log 10). -/

/-- AES-256 of one 16-B block under a key (R240, R250, R253). -/
opaque aes256 : BitVec 256 → BitVec 128 → BitVec 128
/-- GHASH over the eight ciphertext blocks and a counter block (R240). -/
opaque ghash : BitVec 128 → BitVec 1024 → BitVec 128 → BitVec 128
/-- The counter-mode KDF with its label and context (R238): label 0 "HLX-D", 1 "HLX-T", 2 "HLX-B". -/
opaque kdf : BitVec 256 → Nat → BitVec 16 → BitVec 256
/-- First 8 B of AES-256-CMAC over a message of bytes (R266, R287). -/
opaque cmac8 : BitVec 256 → List Byte → BitVec 64
/-- AES Key Wrap of 48 B under the KEK, 56 B (R251). -/
opaque keyWrap : BitVec 256 → BitVec 384 → BitVec 448
/-- Its unwrap: none when the integrity check fails (R252). -/
opaque keyUnwrap : BitVec 256 → BitVec 448 → Option (BitVec 384)
/-- An ECDSA P-384 signature of the identity key over a message, and an SPDM session secret (R256). -/
opaque spdmSign : List Nat → BitVec 768
/-- Whether an SPDM FINISH verifies against the session's transcript (R256). -/
opaque spdmVerify : BitVec 256 → BitVec 384 → Bool

/-- SHA-384 over a message (R256). -/
opaque sha384 : List Nat → BitVec 384
/-- Digest of the boot ROM, measurement 1 (R256). -/
opaque bootRomDigest : BitVec 384
/-- The Palareus-issued device certificate of slot 0 (R256). -/
opaque certificate : List Byte

/-! ### Random and free values -/

/-- The n-th draw of the true random number generator (R31, R237, R266, R287). -/
opaque trng : Nat → BitVec 256
/-- A value the spec leaves open, fresh for each use (log 4). -/
opaque freeValue : Nat → BitVec 1152
/-- A number the spec leaves open, fresh for each use (log 4). -/
opaque freeNat : Nat → Nat

/-! ### Placement on the media -/

/-- The declustering pattern fixed at first provisioning (R29, R55): which of the channels that may follow takes a position of a slot group. -/
opaque pickChannel : Nat → Nat → Nat
/-- The die of a position of a slot group within its channel (R29, R55). -/
opaque pickDie : Nat → Nat → Nat
/-- The tile of a member position in each of its partitions (R55). -/
opaque pickTile : Nat → Nat → Nat → Nat
/-- The k-keyed bijection of the 36-bit line index that places hot-line table entries (R56). -/
opaque hotHash : BitVec 64 → Equiv.Perm (BitVec 36)
/-- The second k-keyed bijection, whose low 20 bits select a candidate counter (R63). -/
opaque candHash : BitVec 64 → Equiv.Perm (BitVec 36)
/-- The hash keyed by k by which Twill chooses among the lanes that qualify for a line's append (R30, R61): the line index and the number of the append, in that order. -/
opaque laneHash : BitVec 64 → Nat → Nat → Nat
/-- The low byte of the reduction polynomial of the stripe's Reed-Solomon field GF(2^8) (R27 gives the generator only). -/
opaque stripePoly : BitVec 8
/-- The tile rows of the hot pool that Twill draws for the next append plan (R81). -/
opaque planRow : Nat → Nat → Nat

/-! ### Codes whose generators the spec does not write out (log 34) -/

/-- The lower terms of the generator polynomial of the inner code (R96). -/
opaque innerGen : BitVec 88
/-- The lower terms of the generator polynomial of the SRAM code (R91). -/
opaque sramGen : BitVec 15
/-- What the SRAM decoder makes of four or more bits in error, by the stored bits and the folded ones. -/
opaque sramAlias : BitVec 79 → BitVec 25 → Nat

/-- The key blobs of Felt as they are wrapped under the HUK (R237, R373). -/
opaque hukWrap : List Byte → List Byte

/-! ### Factory identity (R1, R133, R290) -/

opaque stepping : List Byte
opaque steppingNumber : BitVec 4
opaque firmwareVersion : List Byte
opaque serial : BitVec 128
opaque vendorId : BitVec 16
opaque deviceId : BitVec 16
opaque revisionId : BitVec 8
opaque minSecVersion : Nat
/-- The factory's calibration set: word w of die d (R133). -/
opaque factoryCal : Nat → Nat → Nat
/-- The factory's sensor trims, offset and gain of sensor s, and the IRC trim's fields (R133, R349). -/
opaque factoryTrim : Nat → Nat → Nat
/-- Temperature in 1/64 °C that a sensor's converter code stands for, before trim (R358 does not give the converter's scale). -/
opaque sensorRaw : BitVec 16 → Int
/-- A configuration space field or component register of the CXL and PCIe standards (R208, R291). -/
opaque standardField : Nat → Nat → Nat

/-- What an internal register of the indirect space holds, by DOM * 2^24 + offset (R295, R299; the registers are counted there and not named, log 27): 0 a diagnostic, 1 a voted field or guarded target, else the key of a dictionary entry. -/
opaque internalReg : Nat → Nat

end Sys2Proof.Config
end

