-- ==== Sys2Proof/Machine/Bits.lean ====
section
/-! DEFINITION. Fields of numbers, little-endian bytes (R4), masks of bytes, the halves of a line, and the CRC-32 of IEEE 802.3. -/

namespace Sys2Proof.Machine

/-- Field of `n` bits of a number from bit `lo`. -/
def fld (w lo n : Nat) : Nat := (w >>> lo) % 2 ^ n

/-- Bit `i` of a number. -/
def bitOf (w i : Nat) : Bool := w.testBit i

/-- A number with bit `i` set or cleared. -/
def withBit (w i : Nat) (v : Bool) : Nat := if w.testBit i == v then w else w ^^^ (1 <<< i)

/-- A Bool as a number. -/
def b2n (b : Bool) : Nat := if b then 1 else 0

/-- The first `n` bytes of a number, least significant first. -/
def leBytes : Nat → Nat → List Byte
  | 0, _ => []
  | n + 1, v => BitVec.ofNat 8 v :: leBytes n (v / 256)

/-- The number that bytes spell, least significant first. -/
def leNat : List Byte → Nat
  | [] => 0
  | x :: xs => x.toNat + 256 * leNat xs

/-- Bytes packed from bit 0 of a vector upward; what is left over is 0. -/
def packBytes (w : Nat) (l : List Byte) : BitVec w := BitVec.ofNat w (leNat l)

/-- A signed number's two's complement in `bits` bits. -/
def sEnc (bits : Nat) (v : Int) : Nat := (v % (2 ^ bits : Nat)).toNat

/-- The signed number that `bits` bits stand for. -/
def sDec (bits v : Nat) : Int := if v < 2 ^ (bits - 1) then v else (v : Int) - 2 ^ bits

/-- Bits 8b+7 to 8b set for each set bit b below `n`. -/
def spread : Nat → Nat → Nat
  | 0, _ => 0
  | n + 1, m => spread n m + (if m.testBit n then 0xFF <<< (8 * n) else 0)

/-- The bytes of `new` that the mask enables over `old`. -/
def mergeBits (w : Nat) (m : Nat) (old new : BitVec w) : BitVec w :=
  let e := BitVec.ofNat w (spread (w / 8) m)
  (old &&& ~~~e) ||| (new &&& e)

/-- Half `i` (0 lower, 1 upper) of a line. -/
def halfOf (l : Line) (i : Bool) : Half := l.extractLsb' (if i then 512 else 0) 512

/-- A half as a line, in its place. -/
def halfUp (x : Half) (i : Bool) : Line := x.setWidth 1024 <<< (if i then 512 else 0)

/-- A half's byte enables as a line's, in their place. -/
def maskUp (m : HalfMask) (i : Bool) : LineMask := m.setWidth 128 <<< (if i then 64 else 0)

/-- The line mask of a whole half. -/
def halfMask (i : Bool) : LineMask := maskUp (BitVec.allOnes 64) i

/-- The line with one half written under a mask. -/
def putHalf (l : Line) (i : Bool) (m : HalfMask) (x : Half) : Line :=
  mergeBits 1024 (maskUp m i).toNat l (halfUp x i)

/-- One step of the reflected CRC-32. -/
def crc32Step (c : BitVec 32) : BitVec 32 :=
  if c.getLsbD 0 then (c >>> 1) ^^^ 0xEDB88320 else c >>> 1

/-- CRC-32 of IEEE 802.3 over bytes. -/
def crc32 (l : List Byte) : BitVec 32 :=
  ~~~ (l.foldl (fun c x =>
    crc32Step (crc32Step (crc32Step (crc32Step (crc32Step (crc32Step (crc32Step (crc32Step (c ^^^ x.setWidth 32))))))))) 0xFFFFFFFF)

/-- Bytes followed by their CRC-32. -/
def withCrc32 (l : List Byte) : List Byte := l ++ leBytes 4 (crc32 l).toNat

/-- A list with element `i` replaced. -/
def setAt {α : Type} (l : List α) (i : Nat) (v : α) : List α := l.set i v

/-- Numbers without repetition, in rising order: `x` put in. -/
def insUniq (x : Nat) : List Nat → List Nat
  | [] => [x]
  | y :: l => if x = y then y :: l else if x < y then x :: y :: l else y :: insUniq x l

/-- Majority of three copies; none when all differ (R304). -/
def majority : List Nat → Option Nat
  | [x, y, z] => if x = y ∨ x = z then some x else if y = z then some y else none
  | _ => none

/-- The leaves below a node of a 16-way tree word, the half that the node's bit names as less recently used first: bit 0 is the root, the children of node n are 2n + 1 and 2n + 2, and a clear bit names the lower half (log 36). -/
def plruWalk (t : BitVec 15) : Nat → Nat → Nat → List Nat
  | 0, _, base => [base]
  | k + 1, node, base =>
    let lo := plruWalk t k (2 * node + 1) base
    let hi := plruWalk t k (2 * node + 2) (base + 2 ^ k)
    if t.getLsbD node then hi ++ lo else lo ++ hi

/-- Ways of a set by its tree word, least recently used first (R140, R141, R247). -/
def plruOrder (t : BitVec 15) : List Nat := plruWalk t 4 0 0

/-- The tree word after a way's use: each node on its path names the other half (R140). -/
def plruTouch (t : BitVec 15) (w : Nat) : BitVec 15 :=
  (List.range 4).foldl (fun t k =>
    let node := 2 ^ k - 1 + w % 16 / 2 ^ (4 - k)
    let bit : BitVec 15 := 1 <<< node
    if w.testBit (3 - k) then t &&& ~~~bit else t ||| bit) t

end Sys2Proof.Machine
end

