-- ==== Sys2Proof/Machine/Codes.lean ====
section
/-! DEFINITION. The codes of the data path: the Reed-Solomon code of a beat with its folded address (R88 to R90), the code of an SRAM word (R91), and the inner code of a media line (R23, R96). -/

namespace Sys2Proof

/-- Bits set in a number of some width. -/
def Machine.weight (w n : Nat) : Nat := if n = 0 then 0 else (List.range w).foldl (fun k i => if n.testBit i then k + 1 else k) 0

/-- Bits of a transferred line in error (R96). -/
def Xfer.errs (x : Xfer) : Nat := Machine.weight 1152 x.err.toNat

namespace Machine

/-! ### The datapath code (R88) -/

/-- Product in GF(2^8) under x^8 + x^4 + x^3 + x^2 + 1. -/
def rsMul : Nat → Nat → Nat → Nat
  | 0, _, _ => 0
  | n + 1, x, y => (if y.testBit 0 then x else 0) ^^^ rsMul n (if x.testBit 7 then (2 * x) ^^^ 0x11D else 2 * x) (y / 2)

/-- A power of α = 0x02. -/
def rsPow : Nat → Nat
  | 0 => 1
  | n + 1 => rsMul 8 2 (rsPow n)

/-- A polynomial, its constant term first, times x + c. -/
def rsTimes (c : Nat) (l : List Nat) : List Nat := (List.range (l.length + 1)).map fun i => (if i = 0 then 0 else l.getD (i - 1) 0) ^^^ rsMul 8 c (l.getD i 0)

/-- g(x) = (x + 1)(x + α)(x + α²)(x + α³). -/
def rsGen : List Nat := (List.range 4).foldl (fun l i => rsTimes (rsPow i) l) [1]

/-- The check symbols c0 to c3 of the symbols at positions 4 to 24: the remainder of their polynomial by g, taken from position 24 down. -/
def rsChecks (m : List Nat) : List Nat :=
  m.reverse.foldl (fun r x =>
    let f := x ^^^ r.getD 3 0
    (List.range 4).map fun i => (if i = 0 then 0 else r.getD (i - 1) 0) ^^^ rsMul 8 f (rsGen.getD i 0)) [0, 0, 0, 0]

/-- The folded address symbols a0 to a4 of a DPA (R89). -/
def foldSyms (dpa : Nat) : List Nat := [fld dpa 4 8, fld dpa 12 8, fld dpa 20 8, fld dpa 28 8, fld dpa 36 7]

/-- Syndrome k of a code word: its value at α^k. -/
def rsSyndrome (word : List Nat) (k : Nat) : Nat := (word.zipIdx.foldl (fun s x => s ^^^ rsMul 8 x.1 (rsPow (k * x.2))) 0)

/-- The decoder: no syndrome, one symbol in error at a position from 0 to 19, which it corrects, at a folded position, which it does not, or any other error (R88). -/
def rsDecode (word : List Nat) : Dp :=
  let s := (List.range 4).map (rsSyndrome word)
  if s.all fun x => x == 0 then .ok
  else match (List.range 25).find? fun p => (List.range 4).all fun k => s.getD k 0 == rsMul 8 (s.getD 0 0) (rsPow (k * p)) with
    | some p => if p < 20 then .corrected else .address
    | none => .uncorrectable

/-- Data symbols of beat j of a half. -/
def beatData (x : Half) (j : Nat) : List Nat := (List.range 16).map fun i => fld x.toNat (128 * j + 8 * i) 8

/-- The graver of two reports. -/
def worseDp : Dp → Dp → Dp
  | .uncorrectable, _ => .uncorrectable
  | _, .uncorrectable => .uncorrectable
  | .address, _ => .address
  | _, .address => .address
  | .corrected, _ => .corrected
  | .ok, d => d

/-! ### Binary codes -/

/-- The remainder of the `n` low bits of a message, from the highest down, by a generator of degree w whose lower terms are given. -/
def polyRem (w : Nat) (gen : BitVec w) : Nat → Nat → BitVec w → BitVec w
  | 0, _, r => r
  | n + 1, m, r => polyRem w gen n m ((r <<< 1) ^^^ (if r.msb != m.testBit n then gen else 0))

/-- The 88 check bits of the 133 B of a media line (R23, R96). The spec fixes the field and the designed distance, not the polynomial: its lower terms are Config's (log 34). -/
def lineCheck (x : BitVec 1064) : BitVec 88 := polyRem 88 Config.innerGen 1064 x.toNat 0

/-- The 15 check bits of an SRAM word over its 64 data bits and its 25 folded address bits, bank and word (R91, log 34). -/
def wordCheck (x : BitVec 64) (addr : BitVec 25) : BitVec 15 := polyRem 15 Config.sramGen 89 (addr ++ x).toNat 0

end Machine

open Machine

/-- What the decoder reports of beat j of half i of a line: the sender's check symbols over the data and the DPA it sends under, the errors on the way, the address symbols of the DPA that the receiver expects (R88, R89). -/
def DpErr.beat (e : DpErr) (i : Bool) (x : Half) (dpa j : Nat) : Dp :=
  let at_ (d : Nat) : Nat := d / 64 * 64 + 16 * j
  let sent := match e.sent with
    | some d => d.toNat
    | none => dpa
  let data := beatData x j
  let word := rsChecks (data ++ foldSyms (at_ sent)) ++ data
  let bad := e.syms.filter fun s => s.1.val == (if i then 4 else 0) + j
  let got := word.zipIdx.map fun c => bad.foldl (fun y s => if s.2.1.val == c.2 then y ^^^ s.2.2.toNat else y) c.1
  rsDecode (got ++ foldSyms (at_ dpa))

/-- What the decoder reports of the four beats of half i of a line, with content x, at a DPA. -/
def DpErr.outcome (e : DpErr) (i : Bool) (x : Half) (dpa : Nat) : Dp :=
  if e.syms.isEmpty && e.sent.isNone then .ok else (List.range 4).foldl (fun d j => worseDp d (e.beat i x dpa j)) .ok

/-- What the decoder of an SRAM word reports of the bits in error, stored and folded (R91): up to 2 stored bits are corrected, an error that it locates in a folded position is an address error, 3 bits are detected; of more, what it makes of them is left open (log 34). -/
def SramFlaw.outcome (f : SramFlaw) : SramErr :=
  let s := weight 79 f.stored.toNat
  let a := weight 25 f.addr.toNat
  if s + a = 0 then .clean
  else if a = 0 ∧ s ≤ 2 then .corrected
  else if s + a ≤ 2 ∨ (s = 0 ∧ a = 3) then .address
  else if s + a = 3 then .uncorrectable
  else match Config.sramAlias f.stored f.addr % 4 with
    | 0 => .clean
    | 1 => .corrected
    | 2 => .address
    | _ => .uncorrectable

end Sys2Proof
end

