-- ==== Sys2Proof/Machine/State.lean ====
section
/-! DEFINITION. The block's state as plain data: every register, table, queue, counter, mode and pin the spec gives it, and the queue of the commands that wait. Each field's comment names the rule that gives it and its value at reset. A table is a list of (key, value) pairs with rising keys that lists no entry equal to what an unlisted key reads as. -/

namespace Sys2Proof.Machine

/-- A sparse table: (key, value) pairs, keys strictly rising. -/
abbrev NMap (α : Type) := List (Nat × α)

/-! ### Host requests -/

/-- Ordering of a request by its address window (R155). -/
inductive Order where
  | plain
  | relAcq
  | sync
  deriving DecidableEq, Repr

/-- Kinds of request: those that wait at ingress (R210, R104: Clear Poison waits there as a write), and the two that the device makes itself, the fill read of a write that misses (R99) and the read of a prefetched line (R152). -/
inductive ReqKind where
  | rd
  | rdData
  | wr
  | wrPtl
  | clearPoison
  | fill
  | prefetch
  deriving DecidableEq, Repr

/-- A request in a head's ingress buffer (R37, R211), its DPA with bits [44:43] cleared. -/
structure Req where
  /-- Opcode of the request (R210). -/
  kind   : ReqKind
  /-- Tag that the completion repeats (R210). -/
  tag    : Nat
  /-- Host address (R212). -/
  hpa    : Nat
  /-- Device address, bits [42:0] (R51, R155). -/
  dpa    : Nat
  /-- Ordering asked for by DPA[44:43] (R155). -/
  order  : Order
  /-- Write data (R210). -/
  data   : Half := 0
  /-- Byte enables (R99, R210). -/
  mask   : HalfMask := BitVec.allOnes 64
  /-- The write data carries poison (R101). -/
  poison : Bool := false
  /-- Sync ticket, 0 for none (R163). -/
  ticket : Nat := 0
  /-- Instant of arrival (R6). -/
  arrive : Nat := 0
  /-- Place in the order of arrival (R157). -/
  seq    : Nat := 0
  /-- Conditions that have held it: bit 0 partition (R37), bit 1 dirty budget (R146), bit 2 ordering (R161 to R163). -/
  held   : Nat := 0
  deriving DecidableEq, Repr

/-- A member of a stripe of a slot of a width (R28): the line that member `m` of slot `slot` holds of stripe `stripe`. -/
structure Mem where
  /-- Width. -/
  cls    : Cls
  /-- Slot. -/
  slot   : Nat
  /-- Stripe. -/
  stripe : Nat
  /-- Member. -/
  m      : Nat
  deriving DecidableEq, Repr

/-- Where an accepted request stands; a write that is complete but for its record of the poison list is held (R102). -/
inductive Stage where
  | queued
  | issued
  | recon
  | deep
  | fill
  | program
  | held
  deriving DecidableEq, Repr

/-- An accepted request that has not completed (R37 to R50, R99 to R102, R161 to R163). -/
structure Acc where
  /-- Number of the request, the model's own. -/
  rid      : Nat
  /-- Head that sent it. -/
  h        : Head
  /-- The request. -/
  req      : Req
  /-- Instant of acceptance (R36, R37). -/
  accAt    : Nat
  /-- Ingress hold, ns (R6, R391). -/
  hold     : Nat := 0
  /-- Configuration epoch at acceptance (R276). -/
  epoch    : Bool := false
  /-- Region that it touches (R161). -/
  rgn      : Nat := 0
  /-- What it waits for (R43 to R50). -/
  stage    : Stage := .queued
  /-- Location it reads (R57). -/
  loc      : Nat := 0
  /-- The partition it reads was busy at acceptance (R37). -/
  moved    : Bool := false
  /-- Partitions on which it holds a reservation (R38). -/
  parts    : List Nat := []
  /-- Its read suspended a program (R40). -/
  susp     : Bool := false
  /-- It was reconstructed (R43). -/
  recon    : Bool := false
  /-- It entered deep recovery (R47). -/
  deep     : Bool := false
  /-- Its head was reset: no completion is sent (R231). -/
  orphan   : Bool := false
  /-- Its write data stands in Velvet (R146, R148). -/
  wrote    : Bool := false
  /-- Members counted as erased (R44). -/
  erased   : List Nat := []
  /-- Hit in Velvet (R391). -/
  hit      : Bool := false
  /-- It is sampled (R391). -/
  sample   : Bool := false
  /-- It waits for its tag line, which the tag cache did not hold (R43, R247). -/
  tagWait  : Bool := false
  /-- Members of the tag line's stripe counted as erased; none while the tag line itself is read (R44). -/
  tagLost  : Option (List Nat) := none
  /-- Its data line has been read, with what disturbs its beats, and waits for the tag line. -/
  tagHeld  : Option DpErr := none
  /-- Lane whose next position the gate has chosen for a write-through write (R148). -/
  lane     : Option Nat := none
  /-- Record of the poison list that its completion waits for (R102). -/
  record   : Option Mem := none
  /-- It waits for the list's entry on media, its region being marked in the bitmap (R102). -/
  listWait : Bool := false
  deriving DecidableEq, Repr

/-- What a media read is for: the line of an accepted request, a member of the stripe of one (R43), its tag line or a member of the tag line's stripe (R43, R44), a stripe member that a background job reads (R37), the entry of the poison list of a request's half (R102), or the write-verify of the partition's own program (R32). -/
inductive ReadFor where
  | host (rid : Nat)
  | member (rid : Nat)
  | tag (rid : Nat)
  | tagMember (rid : Nat)
  | job (n : Nat)
  | list (rid : Nat)
  | verify
  deriving DecidableEq, Repr

/-- A read that waits in a partition queue or priority slot, or whose transfer is due (R37, R39, R43). -/
structure ReadTask where
  /-- What the read is for (R37, R43). -/
  why   : ReadFor
  /-- Location read. -/
  loc   : Nat
  /-- Stripe member that it holds. -/
  mem   : Mem
  /-- Instant at which it was queued. -/
  queuedAt : Nat
  /-- SEQ of its RD (R180). -/
  seq   : BitVec 3 := 0
  /-- Instant at which its transfer is due (R188). -/
  due   : Nat := 0
  /-- Replays so far (R194). -/
  tries : Nat := 0
  /-- Age bucket of its area (R118). -/
  age   : Nat := 0
  /-- Temperature band at issue (R117). -/
  band  : Nat := 0
  deriving DecidableEq, Repr

/-! ### Media and partitions -/

/-- A stored line: the 128 B and the 40-bit metadata (R23, R24). An unlisted location is blank. -/
structure MLine where
  /-- The 128 B (R23). -/
  data : Line
  /-- Metadata (R24). -/
  md   : BitVec 40
  deriving DecidableEq, Repr

/-- What a partition's program or overwrite belongs to: an append of a holding buffer's line (R62), a write-through program (R148), a job's append (R67, R97, R434), a line of a background job or of a cold write (R59, R69, R72, R75), a parity line of a hot stripe that closes (R62), a member written again in place (R14, R109), or a record of the poison list (R102). -/
inductive ProgFor where
  | append (b slot stripe pos : Nat)
  | writeThrough (li slot stripe pos : Nat)
  | copy (j slot stripe pos : Nat)
  | job (j : Nat) (x : Mem)
  | close (x : Mem)
  | rewrite (x : Mem)
  | record (x : Mem)
  deriving DecidableEq, Repr

/-- A margin read: its line, its offsets for boundaries 2, 1 and 0, and, of a probe of a batch, the age and band whose cells its counts enter (R125, R188). -/
structure Margin where
  /-- Line of the partition. -/
  line  : Nat
  /-- Offset of boundary 2. -/
  o2    : BitVec 9
  /-- Offset of boundary 1. -/
  o1    : BitVec 9
  /-- Offset of boundary 0. -/
  o0    : BitVec 9
  /-- Age and band of a probe. -/
  probe : Option (Nat × Nat)
  deriving DecidableEq, Repr

/-- The operation that occupies a partition (R25): after the program of a Denim line its write-verify, whose read may still wait for a queue place (R32, R37, R41). -/
inductive PartOp where
  | idle
  | program (line : Nat) (content : MLine) (why : ProgFor) (ovw denim : Bool) (tries : Nat)
  | verify (line : Nat) (content : MLine) (why : ProgFor) (ovw : Bool) (tries : Nat) (asked : Bool)
  | reset (tile count : Nat) (owner : Option Nat)
  | marginRead (x : Margin)
  deriving DecidableEq, Repr

/-- A program or overwrite that waits for its partition (R25): location, content, what it is for, whether it overwrites, whether it is verified. -/
structure Pend where
  /-- Location. -/
  loc   : Nat
  /-- Content. -/
  c     : MLine
  /-- What it is for. -/
  why   : ProgFor
  /-- Overwrite in place, not program from reset. -/
  ovw   : Bool
  /-- Write-verify follows (R32). -/
  denim : Bool
  deriving DecidableEq, Repr

/-- A partition of a die as the channel engine sees it (R37 to R42). -/
structure PartSt where
  /-- What runs on the partition (R25). -/
  op        : PartOp := .idle
  /-- The program is suspended (R40). -/
  suspended : Bool := false
  /-- Instant of the suspension. -/
  suspSince : Nat := 0
  /-- Total time suspended, ns (R41). -/
  suspTotal : Nat := 0
  /-- Suspensions so far (R148). -/
  suspCount : Nat := 0
  /-- Start of what runs. -/
  since     : Nat := 0
  /-- Instant from which it may be read again (R40). -/
  readyAt   : Nat := 0
  /-- Partition queue, oldest first (R37). -/
  queue     : List ReadTask := []
  /-- Read in the priority slot (R43). -/
  prio      : Option ReadTask := none
  /-- Read whose transfer is due (R39). -/
  sent      : Option ReadTask := none
  /-- Program guard (R41). -/
  progGuard : Bool := false
  /-- Reset guard (R38). -/
  resetGuard : Bool := false
  /-- SEQ of the program's last PGM or OVW (R195); reset 0. -/
  pseq : BitVec 3 := 0
  /-- Sends of that program refused in a row (R95, R195); reset 0. -/
  refused : Nat := 0
  /-- Tile resets that wait: first tile, tiles less one, since when, and the tile row (slot * 16 + row) for whose reuse they run (R38, R42, R67, R72); reset none. -/
  resetWait : List (Nat × Nat × Nat × Option Nat) := []
  /-- Margin read that was abandoned for a read and is to be issued again (R40); reset none. -/
  marginAgain : Option Margin := none
  deriving DecidableEq, Repr

/-- A read in deep recovery (R47, R49, R50): its line, when it began, the requests that joined, and which halves host writes have since written whole or the device has listed. -/
structure Deep where
  /-- Line. -/
  li      : Nat
  /-- Start. -/
  start   : Nat
  /-- Requests that wait for it (R50). -/
  rids    : List Nat
  /-- Lower half written whole since (R47). -/
  whole0  : Bool := false
  /-- Upper half written whole since (R47). -/
  whole1  : Bool := false
  /-- Lower half listed by the deadline policy (R49). -/
  listed0 : Bool := false
  /-- Upper half listed by the deadline policy (R49). -/
  listed1 : Bool := false
  /-- It began with a reconstructed line that failed its tag (R98). -/
  tagBad  : Bool := false
  /-- The read that began it. -/
  num     : Nat := 0
  /-- Locations that margin reads at shifted references have sensed for it (R47). -/
  soft    : List Nat := []
  deriving DecidableEq, Repr

/-- The transaction that a General Media Event names (R227). -/
inductive MediaTx where
  | hostRead
  | hostWrite
  | scrub
  | internal
  deriving DecidableEq, Repr

/-- Why a half is on the poison list (R101). -/
inductive PSource where
  | internal
  | external
  | injected
  deriving DecidableEq, Repr

/-! ### Velvet -/

/-- A valid way of Velvet: its state word's fields, the byte-valid mask and the line (R99, R140). An unlisted way is not valid. -/
structure VWay where
  /-- TAG (R139). -/
  tag   : BitVec 22
  /-- DIRTY (R140). -/
  dirty : Bool := false
  /-- FILLP (R99, R140). -/
  fillp : Bool := false
  /-- CLN (R140). -/
  cln   : Bool := false
  /-- PF (R141). -/
  pf    : Bool := false
  /-- PMARK (R58, R140). -/
  pmark : Bool := false
  /-- WT (R140, R148). -/
  wt    : Bool := false
  /-- Hot epochs since PF was set (R141). -/
  pfAge : Nat := 0
  /-- Byte-valid mask (R99). -/
  mask  : LineMask := BitVec.allOnes 128
  /-- The line. -/
  data  : Line := 0
  deriving DecidableEq, Repr

/-- An eviction holding buffer in use (R142, R153). -/
structure HBuf where
  /-- Line. -/
  li     : Nat
  /-- Its content. -/
  data   : Line
  /-- It stays resident, clean, after its program (R143). -/
  clean  : Bool := false
  /-- It takes the hot path (R58). -/
  hotPath : Bool := false
  /-- Its program has been issued (R153). -/
  issued : Bool := false
  /-- It has been written anew since (R153). -/
  again  : Bool := false
  /-- Its cold write has ended, and it waits for the record of its line's demotion (R58, R64). -/
  home   : Bool := false
  /-- Instant of the last merge (R153). -/
  mergeAt : Nat := 0
  deriving DecidableEq, Repr

/-- A maintenance operation on a range (R150): its code, and the lines resident or held at its start that it has still to deal with, each with whether the operation has passed it. -/
structure RangeOp where
  /-- Operation code of OD 0x6010.01 (R150). -/
  code  : Nat
  /-- Lines left. -/
  lines : List (Nat × Bool)
  deriving DecidableEq, Repr

/-- A single-line operation that waits for its effect (R151): its source, entry, operation and line, whether it has passed the line, and whether its reply is lost with a reset of its head (R231). -/
structure LineOp where
  /-- Source to answer. -/
  src : Src
  /-- Subindex written. -/
  sub : Nat
  /-- Operation. -/
  op  : Nat
  /-- Line. -/
  li  : Nat
  /-- The operation has passed the line. -/
  passed : Bool := false
  /-- No answer is sent. -/
  mute : Bool := false
  deriving DecidableEq, Repr

/-- A drain barrier that has started (R170). -/
structure Barrier where
  /-- Barrier number (R170). -/
  num   : Nat
  /-- Instant S (R170). -/
  start : Nat
  /-- Covered lines not yet on media. -/
  lines : List Nat
  /-- Covered lines that could not be stored (R172). -/
  lost  : List Nat := []
  deriving DecidableEq, Repr

/-! ### Twill -/

/-- A region map entry, VALID set (R52). -/
structure RegionEntry where
  /-- SLOT. -/
  slot : BitVec 22
  /-- AGE. -/
  age  : BitVec 6 := 0
  /-- HOT. -/
  hot  : BitVec 4 := 0
  /-- CLASS. -/
  cls  : Cls
  /-- MIG. -/
  mig  : Bool := false
  /-- ROTP. -/
  rotp : Bool := false
  /-- ROT. -/
  rot  : BitVec 10 := 0
  /-- WEAR. -/
  wear : BitVec 18 := 0
  deriving DecidableEq, Repr

/-- A valid entry of the hot-line table (R56), with the line index that its set and tag stand for. -/
structure HotEntry where
  /-- TAG. -/
  tag      : BitVec 17
  /-- HSLOT. -/
  hslot    : BitVec 22
  /-- STRIPE. -/
  stripe   : BitVec 10
  /-- POS. -/
  pos      : BitVec 4
  /-- IDLE. -/
  idle     : BitVec 4 := 0
  /-- WRITTEN. -/
  written  : Bool := true
  /-- DEMOTING. -/
  demoting : Bool := false
  /-- Line that the set and tag stand for. -/
  li       : Nat
  deriving DecidableEq, Repr

/-- One of the 256 lanes: its open stripe in its tile row (R61, R62). -/
structure Lane where
  /-- Class. -/
  cls    : Cls
  /-- Hot-pool slot. -/
  slot   : Nat
  /-- Tile row. -/
  row    : Nat
  /-- Open stripe in the row. -/
  stripe : Nat := 0
  /-- Next data position. -/
  pos    : Nat := 0
  /-- Stripe sequence of the row's first stripe (R81). -/
  base   : Nat
  /-- It takes lines. -/
  open_  : Bool := true
  /-- Running XOR parity (R27). -/
  parity : Line := 0
  /-- Running second parity (R27). -/
  parityQ : Line := 0
  /-- Members of the open stripe counted as erased (R193). -/
  lost   : List Nat := []
  deriving DecidableEq, Repr

/-- A tile row of a hot-pool slot (R62, R66, R67). -/
structure TileRow where
  /-- Invalid lines (R66). -/
  invalid : Nat := 0
  /-- All its stripes are closed (R62). -/
  closed  : Bool := false
  /-- Stripe sequence of its first stripe (R81). -/
  base    : Nat := 0
  /-- Under collection (R67). -/
  gc      : Bool := false
  /-- To be collected ahead of its turn (R75). -/
  ahead   : Bool := false
  /-- In an append plan (R81). -/
  planned : Bool := false
  /-- Tile resets of it that have not ended; it joins the free rows when none is left (R67). -/
  resets : Nat := 0
  /-- Class of the lane that filled it. -/
  cls : Cls := .voile
  /-- A tile of it has been retired (R434): it is not used again. -/
  bad     : Bool := false
  deriving DecidableEq, Repr

/-- The one use a slot serves (R55). -/
inductive SlotUse where
  | region
  | hotPool
  | tag
  | metadata
  | free
  | retired
  deriving DecidableEq, Repr

/-- A slot as far as it differs from its provisioned use (R55, R68, R74). -/
structure SlotSt where
  /-- What the slot is used for (R55). -/
  use  : SlotUse
  /-- L, writes to a line of it (R68). -/
  wear : BitVec 18 := 0
  /-- It is to be retired once it is empty (R74, R434). -/
  retire : Bool := false
  /-- Tile resets of it that have not ended; a slot given up is free, and a migration's destination ready, when none is left (R72). -/
  resets : Nat := 0
  /-- It has been given up and joins the free slots after its last reset (R72 step 5). -/
  leaving : Bool := false
  deriving DecidableEq, Repr

/-- A rotation pass of a region (R69, R70): one that has not started stands at cursor 1,023. -/
structure Rotation where
  /-- Cursor, 1,022 falling to -1 (R70). -/
  cursor : Int
  /-- Park stripe (R70). -/
  park   : Nat
  /-- A further pass is due (R69). -/
  again  : Bool := false
  /-- Operating time of its start, s: the stripes that it has moved are younger than that (R119). -/
  start  : Nat := 0
  deriving DecidableEq, Repr

/-- A migration in progress (R72), and why. -/
structure Migration where
  /-- Slot it leaves. -/
  old    : Nat
  /-- Slot it goes to. -/
  new    : Nat
  /-- The old slot is retired at the end (R74). -/
  retire : Bool := false
  /-- A move of a cold swap (R73). -/
  cold   : Bool := false
  /-- Stripes copied, in physical order (R72 step 3). -/
  next   : Nat := 0
  deriving DecidableEq, Repr

/-- What a stripe job of a region does: stripe 1,023 to the park stripe, stripe ps to ps + 1, the park stripe to stripe 0 (R69), a copy to a migration's new slot (R72), a refresh in place (R75), a resync of the parity (R60). -/
inductive Move where
  | park
  | shift
  | unpark
  | migrate
  | refresh
  | resync
  deriving DecidableEq, Repr

/-- What a background job does: the cold write of a holding buffer's or a write-through line (R58, R59), the home write of a demotion (R64), the copy of a line out of a tile row under collection, from a location (R67), the append of a line whose home overwrite failed (R434), the rewrite of a weak line (R97), the write-back of a tag line (R247), the re-encryption of a group's home lines under a new EPOCH and MAJOR (R245, R246), a stripe of a region (R60, R69, R72, R75), a stripe of a tag region or metadata slot in place (R129), a stripe of a position under rebuild (R406), a stripe that Terry reads (R109), halves of a line in a Scan Media range, from a half key (R104), or the reload of the poison table's records of a region (R112). -/
inductive Work where
  | cold (b : Nat)
  | through (li : Nat)
  | home (li : Nat)
  | collect (li key loc : Nat)
  | save (li : Nat) (data : Line)
  | weak (x : Mem)
  | tag (ti : Nat)
  | group (ti : Nat) (epoch : BitVec 8) (major : BitVec 24)
  | stripe (r : Nat) (m : Move) (s : Nat)
  | area (c : Cls) (slot s : Nat)
  | rebuild (key s : Nat)
  | terry (c : Cls) (slot s : Nat)
  | scan (key n : Nat)
  | list (r : Nat)
  deriving DecidableEq, Repr

/-- How far a background job is: it reads, it writes a tag line before its data lines (R245 step 3), it writes. -/
inductive Phase where
  | reading
  | tagging
  | writing
  deriving DecidableEq, Repr

/-- A background job that reads lines and then writes lines (R37, R59). -/
structure Job where
  /-- What it does. -/
  work  : Work
  /-- Instant of its start. -/
  since : Nat := 0
  /-- Stripes whose locks it holds (R59, R245). -/
  locks : List Nat := []
  /-- Members still to be read that no queue has admitted yet (R37). -/
  reads : List Mem := []
  /-- Members whose reads wait in a queue or are under way. -/
  out   : List Mem := []
  /-- Members that have been read. -/
  got   : List Mem := []
  /-- Members that could not be read: erasures of their stripe (R44). -/
  bad   : List Mem := []
  /-- How far it is. -/
  phase : Phase := .reading
  /-- Programs and overwrites not yet over. -/
  left  : Nat := 0
  /-- Lines that deep recovery works on for it (R98). -/
  deep  : List Nat := []
  /-- Lines that deep recovery has given up (R98). -/
  given : List Nat := []
  /-- Ciphertexts that it holds: of lines that deep recovery has given back (R98), and of a group under re-encryption until each is on media (R245). -/
  held  : NMap Line := []
  deriving DecidableEq, Repr

/-- A demotion in progress (R64, R65): the step it has reached. -/
structure Demotion where
  /-- Step of R64. -/
  step  : Nat
  /-- Instant of its start. -/
  since : Nat
  /-- Line promoted in its place (R65). -/
  forLi : Option Nat := none
  deriving DecidableEq, Repr

/-- A record of the intent journal: its sequence, type and items (R82). -/
structure JRec where
  /-- Sequence. -/
  seq   : Nat
  /-- Record type. -/
  type  : Nat
  /-- Items. -/
  items : List Nat
  /-- Line of the ring that holds it. -/
  line  : Nat := 0
  deriving DecidableEq, Repr

/-- A checkpoint as its header describes it (R80). -/
structure Ckpt where
  /-- Sequence. -/
  seq    : Nat
  /-- Full, not incremental. -/
  full   : Bool
  /-- Media generation. -/
  gen    : Nat
  /-- Incremental slot, 0 or 1; 0 for a full one. -/
  inc    : Nat
  /-- Sequence of its full checkpoint; for a full one, its own. -/
  base   : Nat
  /-- Journal sequence at its start. -/
  jseq   : Nat
  /-- Operating time at its start. -/
  opTime : Nat
  /-- Instant of its start. -/
  start  : Nat
  /-- Map pages it writes: region map pages by number, hot-line table pages from 65,536 on (R78). -/
  pages  : List Nat := []
  /-- The region map entries of its pages (R78). -/
  regions : NMap RegionEntry := []
  /-- The hot-line table entries of its pages (R78). -/
  hot : NMap HotEntry := []
  /-- The append plan in effect from its start, and the one that follows (R78, R81): tile row and base. -/
  plan : List (Nat × Nat) := []
  planNext : List (Nat × Nat) := []
  /-- The die substitution table (R78). -/
  subst : NMap Nat := []
  /-- The wear statistics and the slots' uses (R54, R78). -/
  slots : NMap SlotSt := []
  wide : NMap Cls := []
  /-- The regions that stood, by the model's number (R214). -/
  rgns : List Nat := []
  deriving DecidableEq, Repr

/-! ### Host-port state -/

/-- An HDM decoder (R212). -/
structure Decoder where
  /-- HPA base. -/
  base  : Nat
  /-- Size. -/
  size  : Nat
  /-- DPA skip. -/
  skip  : Nat
  /-- Interleave ways. -/
  ways  : Nat
  /-- Interleave granularity. -/
  gran  : Nat
  /-- Position among the ways. -/
  pos   : Nat
  /-- Lock on commit. -/
  lock  : Bool
  deriving DecidableEq, Repr

/-- A record of a CXL event log (R226 to R228). -/
structure EvRec where
  /-- Handle (R226). -/
  handle  : Nat
  /-- Event code (R372). -/
  code    : BitVec 16
  /-- Linen severity (R366). -/
  sev     : Nat
  /-- Unit class (R228). -/
  cls     : BitVec 8
  /-- Unit number (R228). -/
  unit    : BitVec 16
  /-- DPA. -/
  dpa     : Option Nat
  /-- HPA. -/
  hpa     : Option Nat
  /-- Storm count (R369). -/
  storm   : Nat
  /-- Operating time of the last of a storm, ms. -/
  second  : Nat
  /-- Linen sequence number. -/
  linen   : Nat
  /-- Timestamp (R228). -/
  stamp   : BitVec 64
  /-- Record format: 0 vendor, 1 General Media, 2 Memory Module (R227). -/
  kind    : Nat := 0
  /-- Event data (R228). -/
  data    : List Byte := []
  deriving DecidableEq, Repr

/-- One event log of a head (R226). -/
structure EvLogSt where
  /-- Records, oldest first. -/
  recs     : List EvRec := []
  /-- Overflow flag. -/
  overflow : Bool := false
  /-- Records lost. -/
  lost     : Nat := 0
  /-- First overflow timestamp. -/
  firstTs  : BitVec 64 := 0
  /-- Last overflow timestamp. -/
  lastTs   : BitVec 64 := 0
  deriving DecidableEq, Repr

/-- A bulk transfer that is open (R225, R284, R285). -/
structure Bulk where
  /-- An Open write. -/
  write : Bool
  /-- Dictionary key of the object. -/
  od    : Nat
  /-- Opened with the maintenance flag. -/
  maint : Bool
  /-- Total length. -/
  total : Nat
  /-- Bytes read out or taken. -/
  bytes : List Byte
  /-- Instant of the last operation. -/
  last  : Nat
  /-- CAN FD transaction (R284). -/
  trans : BitVec 8 := 0
  /-- Next segment number (R285). -/
  next  : Nat := 1
  /-- Last segment acknowledged (R285). -/
  acked : Nat := 0
  deriving DecidableEq, Repr

/-- A region at a head (R214, R236 table). -/
inductive RgnState where
  | free
  | offered
  | added
  | releasing
  deriving DecidableEq, Repr

/-- A Dynamic Capacity region (R214, R216, R217). -/
structure Rgn where
  /-- Number of the add, the model's own. -/
  id     : Nat
  /-- DPA base (R214). -/
  base   : Nat
  /-- Length. -/
  length : Nat
  /-- Class (R33). -/
  cls    : Cls
  /-- Tag (R236). -/
  tag    : BitVec 64
  /-- DC region index at head A (R214). -/
  idxA   : Option Nat
  /-- DC region index at head B (R214). -/
  idxB   : Option Nat
  /-- State at head A (R216). -/
  stA    : RgnState := .free
  /-- State at head B (R216). -/
  stB    : RgnState := .free
  /-- Accepted at head A at some time (R217). -/
  everA  : Bool := false
  /-- Accepted at head B at some time (R217). -/
  everB  : Bool := false
  /-- Added to both heads (R216). -/
  shared : Bool := false
  /-- The slots that its Add chose, one for each 2 MiB unit (R52, R216). -/
  slots : List Nat := []
  deriving DecidableEq, Repr

/-- Indirect window and guarded pair of a control block (R294 to R302). -/
structure Ctl where
  /-- IADDR: DOM and OFS (R294); reset 0. -/
  iaddr : BitVec 32 := 0
  /-- ICTL (R296); reset STEP 1. -/
  ictl : BitVec 32 := 0x10
  /-- ISTAT (R297); reset 0. -/
  istat : BitVec 32 := 0
  /-- The posted IDATA write: target address, bytes, value and start (R298); reset none. -/
  posted : Option (BitVec 32 × Nat × BitVec 64 × Nat) := none
  /-- The guarded value held and its instant, PEND (R301, R302); reset none. -/
  held : Option (BitVec 64 × Nat) := none
  /-- GSTAT.LTARGET (R301); reset 0. -/
  ltarget : BitVec 16 := 0
  /-- GSTAT.RESULT (R301); reset 0. -/
  result : BitVec 4 := 0
  /-- The halves of the hint record at 0x080 and 0x088 (R308); reset 0. -/
  hint0 : BitVec 64 := 0
  hint1 : BitVec 64 := 0
  /-- Instant of the last warning for a refused direct write (R300); reset none. -/
  refusedAt : Option Nat := none
  deriving DecidableEq, Repr

/-- An SPDM session of a head (R256). -/
structure Spdm where
  /-- GET_VERSION answered. -/
  version : Bool := false
  /-- GET_CAPABILITIES answered. -/
  caps    : Bool := false
  /-- Algorithms negotiated. -/
  algs    : Bool := false
  /-- Session secret. -/
  secret  : Option (BitVec 256) := none
  /-- The session is established. -/
  up      : Bool := false
  /-- Key updates so far. -/
  updates : Nat := 0
  deriving DecidableEq, Repr

/-- An IDE stream: its key, mode and state (R257). -/
structure Ide where
  /-- Stream key. -/
  key  : Option (BitVec 256) := none
  /-- Skid mode (else containment). -/
  skid : Bool := false
  /-- The stream has failed. -/
  failed : Bool := false
  deriving DecidableEq, Repr

/-- A head (R1, R208 to R236). -/
structure HeadSt where
  /-- Requests that wait for acceptance, in order of arrival, at most 1,024 (R157, R211); reset empty. -/
  ingress : List Req := []
  /-- Link state, OD .01: 0 down, 1 training, 2 L0, 3 L1, 4 disabled (R235); reset 0. -/
  link : Nat := 0
  /-- Link rate, OD .02 (R235); reset 0. -/
  rate : Nat := 0
  /-- Lanes, OD .03 (R235); reset 0. -/
  width : Nat := 0
  /-- Flit mode, OD .04 (R235); reset 0. -/
  flit : Nat := 0
  /-- PERSTx_N is low (R231, R423: a floating pin holds its head in reset); reset true. -/
  perst : Bool := true
  /-- Memory_Active of the CXL DVSEC (R231); reset clear. -/
  memActive : Bool := false
  /-- HDM decoders, committed ones listed by number (R212); reset none. -/
  decoders : NMap Decoder := []
  /-- Configuration fields and BARs written since their reset (R231, R291); reset none. -/
  config : NMap Nat := []
  /-- MSI-X entries: address, data, mask (R229); reset none. -/
  msix : NMap (Nat × Nat × Bool) := []
  /-- Event log to MSI-X entry (R229); reset the default use, entries 1 to 5. -/
  policy : List (EvLog × Option Nat) := [(.informational, some 1), (.warning, some 2), (.failure, some 3), (.fatal, some 4), (.dynamicCapacity, some 5)]
  /-- Mailbox doorbell interrupt enable (R229); reset 0. -/
  mbIrq : Bool := false
  /-- Background completion interrupt enable (R229); reset 0. -/
  bgIrq : Bool := false
  /-- The five event logs (R226); reset empty. -/
  logInfo : EvLogSt := {}
  logWarn : EvLogSt := {}
  logFail : EvLogSt := {}
  logFatal : EvLogSt := {}
  logDc : EvLogSt := {}
  /-- Last event record handle given (R226); reset 0. -/
  handle : Nat := 0
  /-- Instant of the last report of each check kind that the head passed to Linen (R213); reset none. -/
  checkAt : NMap Nat := []
  /-- "Access before Memory Active" has been reported since the boot (R213); reset false. -/
  preActive : Bool := false
  /-- Highest ingress fill of the DevLoad window (R230); reset 0. -/
  dlPeak : Nat := 0
  /-- Sum and number of the ingress holds of the window (R230); reset 0. -/
  dlHold : Nat := 0
  dlCount : Nat := 0
  /-- DevLoad level reported, OD .06 (R230); reset 0. -/
  devload : Nat := 0
  /-- Windows since the level last fell or rose (R230); reset 0. -/
  dlWait : Nat := 0
  /-- Conditions with a DevLoad floor met in the window (R230); reset 0. -/
  dlFloor : Nat := 0
  /-- Ingress high-water, OD .07 (R235); reset 0. -/
  high : Nat := 0
  /-- GPF phase 2 pending: its start and the writes it waits for (R169); reset none. -/
  gpf : Option (Nat × List Nat) := none
  /-- Open bulk transfer (R225); reset none. -/
  bulk : Option Bulk := none
  /-- Continuation of Get Poison List: range and next DPA (R104); reset none. -/
  poisonPos : Option (Nat × Nat × Nat) := none
  /-- Hints queued: next DPA line and lines left, at most 256 (R152); reset empty. -/
  hints : List (Nat × Nat) := []
  /-- Offers pending, oldest first: region and its offer's instant (R216); reset empty. -/
  offers : List (Nat × Nat) := []
  /-- Requests accepted in the 1-µs window of the throttle: window start and count (R361); reset 0. -/
  winStart : Nat := 0
  winCount : Nat := 0
  /-- Accepted requests since the last sample (R391); reset 0. -/
  sampled : Nat := 0
  /-- Control block (R293); reset as Ctl. -/
  ctl : Ctl := {}
  /-- Telemetry read position R (R394); reset 0. -/
  telR : Nat := 0
  /-- Lost items and their sticky bit (R394); reset 0. -/
  lost : Nat := 0
  lostSat : Bool := false
  /-- SPDM state (R256); reset no session. -/
  spdm : Spdm := {}
  /-- IDE streams for CXL.cachemem and CXL.io (R257); reset no key. -/
  ideMem : Ide := {}
  ideIo : Ide := {}
  /-- The head has failed (R411); reset false. -/
  failed : Bool := false
  /-- Firmware transfer open at this head (R221, R325); reset false. -/
  fwOpen : Bool := false
  deriving DecidableEq, Repr

/-! ### Sessions and Muslin -/

/-- A session of a transport (R265, R266). -/
structure Session where
  /-- Maintenance session open; reset closed. -/
  maint : Bool := false
  /-- Instant of the last maintenance-level request; reset 0. -/
  lastReq : Nat := 0
  /-- Challenge and its instant; reset none. -/
  chal : Option (BitVec 64 × Nat) := none
  /-- Wrong responses in a row; reset 0. -/
  wrong : Nat := 0
  /-- End of the lockout; reset none. -/
  lockout : Option Nat := none
  deriving DecidableEq, Repr

/-- When a commit applies (R274). -/
inductive ApplyAt where
  | immediate
  | modeBoundary
  | tick (ms : Nat)
  deriving DecidableEq, Repr

/-- Muslin (R272 to R279). -/
structure Muslin where
  /-- State code 0 to 4, OD 0x1200.01; reset 0. -/
  state : Nat := 0
  /-- Owner, OD 0x1200.04: 0 none, 1 mailbox A, 2 mailbox B, 3 CAN FD; reset 0. -/
  owner : Nat := 0
  /-- Staged values, by dictionary key; reset empty. -/
  staged : NMap (List Byte) := []
  /-- Level of the committing request; reset 0. -/
  level : Nat := 0
  /-- Apply instant recorded; reset immediate. -/
  when_ : ApplyAt := .immediate
  /-- Mode in effect at the Commit, 12 once another has been entered since (R274); reset 0. -/
  modeAt : Nat := 0
  /-- Operating time at the Commit (R275 rule 5); reset 0. -/
  opAt : Nat := 0
  /-- Source to answer; reset none. -/
  reply : Option Src := none
  /-- Instant of the owner's last Stage or Commit; reset 0. -/
  lastAct : Nat := 0
  /-- Instant T of the swap when domains have not acknowledged, and those domains (R278); reset none. -/
  stuck : Option (Nat × List Dom) := none
  /-- The persistent-parameter copy that waits for Felt: the RWP keys changed (R279); reset none. -/
  queued : Option (NMap Nat) := none
  /-- A calibration-set change waits for Felt (R279); reset false. -/
  calQueued : Bool := false
  /-- A calibration import that waits for the host's set to finish (R289); reset none. -/
  importWait : Option (List Byte) := none
  /-- Configuration epoch (R276); reset 0. -/
  epoch : Bool := false
  deriving DecidableEq, Repr

/-- The CAN FD controller (R280 to R288). -/
structure Can where
  /-- Node number, from STRAP[2:0] (R280); reset 0. -/
  node : Nat := 0
  /-- Access strap v3 (R280); reset 0. -/
  access : Nat := 0
  /-- On the bus (R281, R426); reset off. -/
  joined : Bool := false
  /-- Bit rates in use (R281); reset 500 kbit/s and 2 Mbit/s. -/
  arb : Nat := 0
  dat : Nat := 0
  /-- Boot nonce (R287); reset 0 until the always-on domain leaves reset. -/
  nonce : BitVec 32 := 0
  /-- Last counter accepted (R287); reset 0. -/
  ctr : BitVec 32 := 0
  /-- MAC key (R287); reset none. -/
  macKey : Option (BitVec 256) := none
  /-- Transaction in progress (R286); reset none. -/
  busy : Option (BitVec 8) := none
  /-- Last completed request: its bytes and the stored response (R286); reset none. -/
  lastReq : Option (List Nat) := none
  lastRsp : BitVec 512 := 0
  /-- Open transfer (R284, R285); reset none. -/
  bulk : Option Bulk := none
  /-- A transfer abandoned: the next frame of its transaction returns Busy (R285); reset none. -/
  abandoned : Option (BitVec 8) := none
  /-- Notifications pending, at most 64 (R288); reset empty. -/
  notes : List (BitVec 512) := []
  /-- Notifications sent in the running second: its start and number (R288); reset 0. -/
  noteWin : Nat := 0
  noteCnt : Nat := 0
  /-- Last warnings for bus-off and MAC failures (R281, R287); reset none. -/
  busWarn : Option Nat := none
  macWarn : Option Nat := none
  deriving DecidableEq, Repr

/-! ### Joern channels and dies -/

/-- A die on a channel (R180, R187, R197, R198, R405). -/
structure DieSt where
  /-- OD 0x3800+d.01: 0 absent, 1 in use, 2 present and unused, 3 failed (R207); reset 0. -/
  state : Nat := 0
  /-- Die ID (R187); reset 0. -/
  id : BitVec 64 := 0
  /-- SEQ of the next command (R180); reset 0. -/
  seq : BitVec 3 := 0
  /-- FAST bit copy: 8-beat commands (R180, R198); reset 0. -/
  fast : Bool := false
  /-- Mode registers as far as they differ from reset (R198); reset none. -/
  mr : NMap Nat := []
  /-- In standby (R204); reset false. -/
  standby : Bool := false
  /-- Instant of its last report, in a read's status or a status poll (R117); reset 0. -/
  reportAt : Nat := 0
  /-- Pending alert causes, ASTAT (R198); reset 0. -/
  astat : BitVec 7 := 0
  /-- PFAIL bits by partition (R187); reset 0. -/
  pfail : BitVec 32 := 0
  /-- WVAL and WSEQ (R187); reset 0. -/
  wseq : Option (BitVec 3) := none
  /-- Training buffer (R186); reset 0. -/
  tbuf : BitVec 1152 := 0
  /-- Temperature last reported, 1/16 °C (R117, R185); reset 0. -/
  temp : Int := 0
  /-- The die's sensor is valid, TVAL (R185); reset true. -/
  tval : Bool := true
  /-- Temperature band 0 to 3 (R117); reset 0. -/
  band : Nat := 0
  /-- THERM last reported at (R360); reset none. -/
  thermAt : Option Nat := none
  /-- TEMP has been below TALRT in every report since (R197); reset none. -/
  coolAt : Option Nat := none
  /-- Its busy time that no counter has counted yet, ns (R397); reset 0. -/
  busyNs : Nat := 0
  /-- Alert causes at the last service, OD .03 (R207); reset 0. -/
  lastAlert : BitVec 7 := 0
  /-- Services in a row in which a cause came back within 1 µs of its ALC, and the last ALC (R197); reset 0. -/
  again : Nat := 0
  alcAt : Nat := 0
  /-- Tiles with program or reset failures in the last 60 s of operating time (R405); reset empty. -/
  badTiles : List (Nat × Nat) := []
  /-- Read delay against the one that training found, 1/64 UI (R199, R201); reset 0. -/
  delay : Int := 0
  /-- Sum of the strobe phases of the running 256 transfers, 1/1024 UI, and their number (R201); reset 0. -/
  phaseSum : Int := 0
  phaseNum : Nat := 0
  /-- It replaces a failed die (R407); reset false. -/
  replacement : Bool := false
  deriving DecidableEq, Repr

/-- A partition of a die on the die's side: the read that occupies it and its output buffer (R188, R192, R194). -/
structure DiePart where
  /-- End of the read that occupies it; reset 0. -/
  until_ : Nat := 0
  /-- Output buffer: LINE and SEQ of the last read, its RSTAT, guard-band counts and content; reset none. -/
  out : Option (BitVec 23 × BitVec 3 × BitVec 3 × BitVec 72 × BitVec 1152) := none
  deriving DecidableEq, Repr

/-- A channel (R199 to R207). -/
structure ChanSt where
  /-- OD 0x3000+0x20n.01 (R207): 0 untrained to 6 failed; reset 0. -/
  state : Nat := 0
  /-- Dies present, from step 4 of training (R199); reset 0. -/
  present : BitVec 8 := 0
  /-- Last training time, µs (R207); reset 0. -/
  trainUs : Nat := 0
  /-- A retrain is asked for (R202); reset false. -/
  retrain : Bool := false
  /-- Instants of exhausted replays in the last second (R202); reset empty. -/
  exhausted : List Nat := []
  /-- Retired until a power cycle (R408); reset false. -/
  retired : Bool := false
  deriving DecidableEq, Repr

/-! ### Gauze -/

/-- A Gauze cell (R116). An unlisted cell has never come into use. -/
structure GCell where
  /-- OFFSET, 1/16 step. -/
  offset : Int := 0
  /-- CBAR, 1/16 C. -/
  cbar   : Nat := 0
  /-- SUM_ABOVE. -/
  above  : Nat := 0
  /-- SUM_BELOW. -/
  below  : Nat := 0
  /-- READS. -/
  reads  : Nat := 0
  /-- STATE. -/
  state  : Nat := 0
  /-- HALF. -/
  half   : Bool := false
  /-- SIGNS. -/
  signs  : BitVec 4 := 0
  /-- EVALS. -/
  evals  : Nat := 0
  /-- LAST, s. -/
  last   : Nat := 0
  deriving DecidableEq, Repr

/-- A die record of the calibration set (R133). -/
structure DieCal where
  /-- Die ID. -/
  dieId : BitVec 64 := 0
  /-- Flags. -/
  flags : BitVec 16 := 0
  /-- Offsets a by band and boundary. -/
  off   : List Int := []
  /-- Drift rates nu. -/
  nu    : List Nat := []
  /-- theta. -/
  theta : Nat := 0
  /-- chi. -/
  chi   : Int := 0
  deriving DecidableEq, Repr

/-- A die's fit (R127, R128): its state (OD 0x5100+d.07), t*_op in s, and the coefficients of a valid one, c0 in 1/4,096 bit and β in 1/65,536 bit per decade (R131). -/
structure Fit where
  /-- 0 the model interval, 1 a valid fit, 2 one of another band. -/
  state : Nat
  /-- t*_op, s. -/
  tOp   : Nat
  /-- c0, none without a valid fit. -/
  c0    : Option Nat
  /-- β. -/
  beta  : Nat
  deriving DecidableEq, Repr

/-- A snapshot of Gauze's tables (R130). -/
structure Snap where
  /-- Sequence. -/
  seq    : Nat
  /-- Operating time at which it was taken, ms. -/
  opTime : Nat
  /-- The cell table. -/
  cells  : NMap GCell
  /-- The working copy of the die records. -/
  work   : NMap DieCal
  /-- The hot-pool row ages. -/
  rows   : NMap Nat
  /-- The slot ages. -/
  slots  : NMap Nat
  deriving DecidableEq, Repr

/-- A calibration set as Felt holds it, while changes of it wait to be written (R279). -/
structure CalKept where
  /-- Present. -/
  present : Bool
  /-- Sequence. -/
  seq     : Nat
  /-- Die records. -/
  cal     : NMap DieCal
  /-- Sensor trims. -/
  trims   : NMap (Int × Nat)
  /-- IRC trim. -/
  ircTrim : Option (List Int)
  deriving DecidableEq, Repr

/-- Gauze and the calibration set (R116 to R138). -/
structure Gauze where
  /-- Cells by d * 192 + B * 12 + n * 3 + j (R116); reset none. -/
  cells : NMap GCell := []
  /-- Histograms by ((d * 3 + j) * 32 + bin) (R131); reset 0. -/
  hist : NMap Nat := []
  /-- Weak-region table: area to count, at most 4,096 (R120); reset empty. -/
  weakRgn : NMap Nat := []
  /-- Plan time of each hot-pool tile row, s (R118); reset none. -/
  rowAge : NMap Nat := []
  /-- Age bucket of the tag region and metadata slots (R118): that of every such slot at key 2^22, and of one refreshed on its own at its slot number; reset 0. -/
  slotAge : NMap Nat := []
  /-- Cells with a probe batch queued, and reads left (R125); reset empty. -/
  probes : NMap Nat := []
  /-- The newest fit of each die (R127, R128); reset none, model interval in use. -/
  fit : NMap Fit := []
  /-- Temperatures of each die, 1/16 °C, one for each 600 s of operating time, newest first, over the last 7 days (R128, log 92); reset none. -/
  temps : NMap (List Int) := []
  /-- Evaluation cursor: the area from which on the pass of margin evaluation goes on (R118, R129); reset 0. -/
  evalNext : Nat := 0
  /-- Operating time at which that pass began, s (R129); reset none. -/
  evalAt : Option Nat := none
  /-- Operating time of the last stale event of each die, s (R124); reset none. -/
  staleAt : NMap Nat := []
  /-- The snapshots as they were written, by generation 0 and 1 (R130); reset none. -/
  snaps : NMap Snap := []
  /-- Calibration set present in Felt (R133); reset true (factory). -/
  calPresent : Bool := true
  /-- Calibration set sequence (R133); reset 1 (DESIGN CHOICE, log 6). -/
  calSeq : Nat := 1
  /-- Die records of the set in Felt as far as they differ from the factory's (R133); reset none. -/
  cal : NMap DieCal := []
  /-- The working copy of the die records in bank 55, as far as they differ from the factory's, or from those of an unreadable set (R118, R136); reset none. -/
  work : NMap DieCal := []
  /-- Sensor trims, offset in 1/64 °C and gain, as far as they differ from the factory's (R133); reset none. -/
  trims : NMap (Int × Nat) := []
  /-- IRC trim as far as it differs from the factory's (R349); reset none. -/
  ircTrim : Option (List Int) := none
  /-- The set that Felt still holds while a change of it has not been written (R279); reset none. -/
  kept : Option CalKept := none
  /-- Calibration-set write enable: open since (R303); reset closed. -/
  calOpen : Option Nat := none
  deriving DecidableEq, Repr

/-! ### Damask -/

/-- A tag line (R242). An unlisted tag line is blank and reads as zero. -/
structure TagLine where
  /-- EPOCH. -/
  epoch : BitVec 8 := 0
  /-- MAJOR. -/
  major : BitVec 24 := 0
  /-- MINOR of the 16 lines. -/
  minor : List (BitVec 6) := List.replicate 16 0
  /-- TAG of the 16 lines. -/
  tags  : List (BitVec 56) := List.replicate 16 0
  deriving DecidableEq, Repr

/-- Secure Erase or Sanitize in progress (R259). -/
structure Erase where
  /-- Sanitize, not Secure Erase. -/
  sanitize : Bool
  /-- Step recorded (R259). -/
  step     : Nat
  deriving DecidableEq, Repr

/-- Damask (R237 to R261). -/
structure Damask where
  /-- Damask state, OD 0x6800.01 (R254); reset 0 unprovisioned. -/
  state : Nat := 0
  /-- Media master key held in Felt (R237); reset none. -/
  mkey : Option (BitVec 256) := none
  /-- Interleave key k (R31); reset none. -/
  k : Option (BitVec 64) := none
  /-- Key-encryption key (R250); reset none. -/
  kek : Option (BitVec 256) := none
  /-- Media generation (R238); reset 0 until first provisioning. -/
  gen : BitVec 8 := 0
  /-- Encryption in effect: the voted Damask enable, 4 units in 3 copies (R258, R304); reset 1. -/
  enable : List (List Bool) := List.replicate 4 [true, true, true]
  /-- Tag lines of the tag cache that are not yet on media (R247); reset none. -/
  tagDirty : NMap TagLine := []
  /-- Tag lines that the cache holds, by set * 16 + way (R247); reset none. -/
  tagWays : NMap Nat := []
  /-- Tree words of the tag cache's sets (R247); reset 0 (DESIGN CHOICE, log 6). -/
  tagPlru : NMap (BitVec 15) := []
  /-- Dirty tag lines, least recently used first (R247); reset empty. -/
  dirtyTags : List Nat := []
  /-- Groups whose lines are pinned to the hot path (R246); reset none. -/
  pinned : List Nat := []
  /-- Re-key passes: region and new EPOCH (R246); reset none. -/
  rekey : NMap Nat := []
  /-- Alarm table: region to count and lock, at most 4,096 entries (R249); reset empty. -/
  alarm : NMap (Nat × Bool) := []
  /-- Lock bitmap (R249); reset clear. -/
  locks : List Nat := []
  /-- Binding record on media: generation, check value, serial, operating time (R253); reset none. -/
  binding : Option (BitVec 8 × BitVec 64 × BitVec 128 × Nat) := none
  /-- Die IDs of the binding record (R253); reset none. -/
  bindIds : NMap (BitVec 64) := []
  /-- Erase in progress and its recorded step (R259); reset none. -/
  erase : Option Erase := none
  /-- Escrow blob of an export transfer in progress is valid (R260); reset false. -/
  exporting : Bool := false
  /-- Zeroize waits for the end of a flush (R255); reset false. -/
  zeroLater : Bool := false
  /-- Groups whose re-encryption is due: tag line, the EPOCH of a re-key pass, and lines that have been given up (R246, R248); reset none. -/
  groups : List (Nat × Option Nat × List Nat) := []
  /-- Regions that the resync has passed since a dirty shutdown; none when no resync is due (R60, R248); reset none. -/
  resynced : Option (List Nat) := none
  /-- A shutdown-loss event has been raised since the boot (R248); reset false. -/
  lossEvent : Bool := false
  deriving DecidableEq, Repr

/-! ### Linen, Felt, Tweed -/

/-- A Linen record (R365). -/
structure LRec where
  /-- Sequence number. -/
  seq    : Nat
  /-- Power-cycle count. -/
  cycle  : Nat
  /-- Operating time. -/
  opTime : Nat
  /-- Severity. -/
  sev    : Nat
  /-- Time-uncertain bit (R368). -/
  unsure : Bool := false
  /-- Storm bit (R369). -/
  storm  : Bool := false
  /-- Not-persisted bit (R366). -/
  notPersisted : Bool := false
  /-- Event code. -/
  code   : BitVec 16
  /-- Unit class. -/
  cls    : BitVec 8
  /-- Unit number. -/
  unit   : BitVec 16
  /-- Secondary reports counted (R369). -/
  second : Nat := 0
  /-- Storm count (R369). -/
  count  : Nat := 1
  /-- DPA. -/
  dpa    : Option Nat
  /-- HPA. -/
  hpa    : Option Nat
  /-- Event data. -/
  data   : List Byte
  /-- Record format at the hosts: 0 vendor, 1 General Media, 2 Memory Module (R227). -/
  kind   : Nat := 0
  deriving DecidableEq, Repr

/-- An open storm window (R369). -/
structure Window where
  /-- Event code. -/
  code   : BitVec 16
  /-- Unit class. -/
  cls    : BitVec 8
  /-- Unit number. -/
  unit   : BitVec 16
  /-- Instant it opened. -/
  opened : Nat
  /-- First record. -/
  first  : Option LRec
  /-- Highest severity. -/
  sev    : Nat
  /-- Occurrences. -/
  count  : Nat
  /-- Operating time of the last. -/
  second : Nat
  deriving DecidableEq, Repr

/-- Linen (R365 to R371). -/
structure Linen where
  /-- Newest sequence number, OD 0x8000.01; reset 0. -/
  seq : Nat := 0
  /-- Staging, 1,024 slots; reset empty. -/
  staging : List LRec := []
  /-- The Felt ring, 4,096 slots less those of worn pages; reset empty. -/
  ring : List LRec := []
  ringSlots : Nat := 4096
  /-- Sequences that wait for the ring, at most 32; reset empty. -/
  waiting : List Nat := []
  /-- Tokens of the ring's bucket, 0 to 64; reset 64 (DESIGN CHOICE, log 6). -/
  tokens : Nat := 64
  /-- Open storm windows, at most 64; reset none. -/
  windows : List Window := []
  /-- Overwrite head, OD 0x8000.03; reset 0. -/
  head : Nat := 0
  /-- The next record carries the time-uncertain bit (R368); reset false. -/
  unsure : Bool := false
  deriving DecidableEq, Repr

/-- Firmware slots (R325). -/
structure Firmware where
  /-- Slot A and slot B; reset the factory image in A (DESIGN CHOICE, log 6). -/
  slotA : Option FwImage := some { version := Config.firmwareVersion, secVer := Config.minSecVersion, length := 0, sigOk := true }
  slotB : Option FwImage := none
  /-- Active slot, OD 0x1140.01; reset 0 (DESIGN CHOICE, log 6). -/
  active : Nat := 0
  /-- Pending slot, OD 0x1140.04: 2 none; reset 2. -/
  pending : Nat := 2
  /-- The running boot is a trial of the pending slot; reset false. -/
  trial : Bool := false
  /-- Last activation result, OD 0x1140.05; reset 0. -/
  result : Nat := 0
  /-- Minimum security version, OD 0x1140.06; reset the factory's. -/
  minSec : Nat := Config.minSecVersion
  deriving DecidableEq, Repr

/-- The Felt store (R373 to R380). -/
structure Felt where
  /-- Persistent-parameter copy: RWP keys and values; none when absent (R268, R374); reset none. -/
  params : Option (NMap Nat) := none
  /-- Protect policy, voted, three copies (R304, R379); reset 0xF. -/
  policy : List Nat := [15, 15, 15]
  /-- Spare pages left, OD 0x9000.01 (R376); reset 340. -/
  spares : Nat := 340
  /-- Headers and commit markers of the copies of the A/B items, as bytes, by 32 * item + copy or record position: 0 directory, 1 calibration set, 2 parameters, 3 key blobs, 4 counter record (R374, R377); reset none. -/
  copies : NMap (List Byte) := []
  /-- Write counts of the pages, in SRAM (R376); reset 0. -/
  wear : NMap Nat := []
  /-- Those counts as the counter record and the directory last saved them (R373, R376); reset 0. -/
  wearSaved : NMap Nat := []
  /-- Records written to the Canvas log (model's own, for the page that takes the next); reset 0. -/
  canvasWrites : Nat := 0
  /-- The Canvas log holds the record of the last all-off (R338); the model's own; reset true. -/
  faultLogged : Bool := true
  /-- Read-only areas, OD 0x9000.09 (R376); reset 0. -/
  readOnly : BitVec 7 := 0
  /-- Power-cycle count: H, carry mark, Lo (R378); reset 0. -/
  cycH : Nat := 0
  cycMark : Bool := false
  cycLo : Nat := 0
  /-- Dirty shutdown count: H, carry mark, Lo (R378); reset 0. -/
  dirtyH : Nat := 0
  dirtyMark : Bool := false
  dirtyLo : Nat := 0
  /-- Operating time last stored, and whether it was stored exactly at the last stop (R368); reset 0, exact. -/
  opStored : Nat := 0
  opExact : Bool := true
  /-- Lifetime counters of the dictionary as last stored (R377); reset none. -/
  counters : NMap Nat := []
  /-- Canvas log, at most 512 records, newest first (R339); reset empty. -/
  canvasLog : List (List Nat) := []
  /-- Clean shutdown recorded (R320); reset true. -/
  clean : Bool := true
  /-- Kind of the last stop: 0 none before, 1 orderly, 2 flush, 3 dirty (R327); reset 0. -/
  stop : Nat := 0
  /-- Shutdown state bit (R219); reset 0. -/
  shutdown : Bool := false
  /-- Maintenance key (R266); reset none. -/
  maintKey : Option (BitVec 256) := none
  /-- A parameter copy was queued when power was lost (R279); reset false. -/
  notPersisted : Bool := false
  /-- Firmware slots. -/
  fw : Firmware := {}
  deriving DecidableEq, Repr

/-- A dump of the counters in the dump ring (R389). -/
structure TDump where
  /-- Dump sequence. -/
  num    : Nat
  /-- Operating time. -/
  opTime : Nat
  /-- Period. -/
  period : Nat
  /-- Flags. -/
  flags  : BitVec 8
  /-- Counters that it holds: number, value, wrapped. -/
  ctrs   : List (Nat × Nat × Bool)
  deriving DecidableEq, Repr

/-- Tweed (R383 to R397). -/
structure Tweed where
  /-- Counters 0 to 511: value and wrapped bit (R387); reset 0. -/
  ctr : NMap (Nat × Bool) := []
  /-- Dump slots by s mod 16: sequence, operating time, period, flags and counters (R389); reset none. -/
  dumps : NMap TDump := []
  /-- Newest complete dump (R385); reset 0. -/
  newest : Nat := 0
  /-- Flags due in the next dump (R389); reset first after boot. -/
  flags : BitVec 8 := 1
  /-- The filling bank's items, oldest first, each with whether it heads a packet (R392); reset empty. -/
  bank : List (BitVec 32 × Bool) := []
  /-- Ring lines by line number: first position and valid words (R392, R393); reset none. -/
  ring : NMap (Nat × List (BitVec 32)) := []
  /-- W, positions written (R393); reset 0. -/
  w : Nat := 0
  /-- Positions at which a packet header stands, newest first (R394); reset none. -/
  headers : List Nat := []
  /-- Dumps pause in M6 (R390); reset false. -/
  paused : Bool := false
  deriving DecidableEq, Repr

/-! ### Power, clocks, thermal -/

/-- A sequencer slot (R328 to R336). -/
structure PSlot where
  /-- OD 0x7010+s.07: 0 off, 1 ramping, 2 qualified, 3 falling, 4 faulted; reset 0. -/
  state : Nat := 0
  /-- Mode in force for the running order (R330); reset 0. -/
  mode : Nat := 0
  /-- PSEQ_EN; reset low. -/
  en : Bool := false
  /-- PSEQ_PG; reset low. -/
  pg : Bool := false
  /-- Monitor reading, mV; reset 0. -/
  mv : Nat := 0
  /-- Good without a break since; reset none. -/
  goodAt : Option Nat := none
  /-- Drops in the step; reset 0. -/
  drops : Nat := 0
  /-- Start of the step, or of the fall; reset 0. -/
  since : Nat := 0
  /-- Instant of qualification; reset 0. -/
  qualAt : Nat := 0
  deriving DecidableEq, Repr

/-- Canvas (R328 to R347). -/
structure Canvas where
  /-- The twelve slots; reset as PSlot. -/
  slots : NMap PSlot := []
  /-- Canvas state, OD 0x7000.01; reset 0. -/
  state : Nat := 0
  /-- Start of the running order (R332); reset 0. -/
  orderAt : Nat := 0
  /-- The first-fault record held until slot 6 qualifies (R338); reset none. -/
  faultRec : Option (List Nat) := none
  /-- Instant of that fault; reset 0. -/
  recAt : Nat := 0
  /-- HU_SENSE code last converted (R340, R424); reset 0. -/
  hu : BitVec 12 := 0
  /-- Capacitance and ESR of the last passing test, µF and mΩ (R340, R341); reset 0. -/
  cap : Nat := 0
  esr : Nat := 0
  /-- Health result, OD 0x7002.05; reset 0. -/
  health : Nat := 0
  /-- Test running since (HU_TEST high); reset none. -/
  test : Option Nat := none
  /-- E_u last reported, µJ, and its instant (R340); reset none. -/
  report : Option (Nat × Nat) := none
  /-- An off request waits for the ramping slot (R346); reset none. -/
  off : Bool := false
  /-- PFAIL_N has risen again before M1 was reached: the power cycle counts, and the on request waits for the end of power-down (R313, R346); reset false. -/
  onLater : Bool := false
  deriving DecidableEq, Repr

/-- A PLL (R350, R353, R354). -/
structure PllSt where
  /-- Judged locked. -/
  locked : Bool := false
  /-- Passing windows in a row. -/
  pass   : Nat := 0
  /-- Failing windows in a row. -/
  fail   : Nat := 0
  /-- Instants of failures within the hour (R354). -/
  fails  : List Nat := []
  deriving DecidableEq, Repr

/-- Clocks (R348 to R357). -/
structure Clocks where
  /-- REFCLK state, OD 0x7400.01; reset 0. -/
  ref : Nat := 0
  /-- Passing and failing windows in a row (R352); reset 0. -/
  pass : Nat := 0
  fail : Nat := 0
  /-- Domain sources, OD 0x7400.06: set on the fallback source (R351, OD 0x7400.06); reset 0. -/
  src : BitVec 4 := 0
  /-- Divider N of FAB, ENG and CRY (R351); reset 8. -/
  nFab : Nat := 8
  nEng : Nat := 8
  nCry : Nat := 8
  /-- The PLLs; reset not locked. -/
  fab : PllSt := {}
  eng : PllSt := {}
  cry : PllSt := {}
  jch : PllSt := {}
  fb : PllSt := {}
  /-- A failure holds the domains on their fallback sources (R354); reset false. -/
  failed : Bool := false
  /-- The guarded switch holds them there (R357); reset false. -/
  forced : Bool := false
  /-- A return ramp runs (R356); reset false. -/
  ramp : Bool := false
  /-- Returns held (R354); reset false. -/
  held : Bool := false
  /-- IRC coarse code applied (R349); reset 512. -/
  coarse : Nat := 512
  /-- IRC fine code applied (R349); reset 0. -/
  fine : Int := 0
  /-- IRC frequency measured, kHz (R364); reset 0. -/
  kHz : Nat := 0
  deriving DecidableEq, Repr

/-- A thermal sensor (R358). -/
structure Sensor where
  /-- Temperature of the last plausible sample, 1/64 °C; reset none. -/
  temp : Option Int := none
  raw  : BitVec 16 := 0
  bad  : Nat := 0
  failed : Bool := false
  /-- The last sample read 115 °C or more (R362); reset false. -/
  hot  : Bool := false
  deriving DecidableEq, Repr

/-- Thermal management (R358 to R362). -/
structure Thermal where
  /-- The sixteen sensors; reset as Sensor. -/
  sensors : NMap Sensor := []
  /-- Tj, 1/64 °C, of the last sample; reset none. -/
  tj : Option Int := none
  /-- Peak Tj since boot; reset none. -/
  peak : Option Int := none
  /-- Slow-down request raised at (R360); reset none. -/
  req : Option Nat := none
  /-- L in force; 0 none (R361); reset 0. -/
  limit : Nat := 0
  /-- Start value of L at the entry to M7 (R361); reset 0. -/
  start : Nat := 0
  /-- Instant of the last throttle step (R361); reset 0. -/
  stepAt : Nat := 0
  /-- Fewer than 8 sensors valid, until the next boot (R359); reset false. -/
  few : Bool := false
  deriving DecidableEq, Repr

/-! ### Modes and safety -/

/-- Modes, boot and stops (R311 to R327). -/
structure Modes where
  /-- Conditions of M0 to M11 that hold, bit n for Mn (R312); reset M0. -/
  cond : BitVec 12 := 1
  /-- Voted effective mode and condition flags, three copies (R304, R312); reset M0 and no flag. -/
  voted : List Nat := [0, 0, 0]
  /-- Resident rails are good (R313); reset false. -/
  rails : Bool := false
  /-- PFAIL_N is high (R313); reset false. -/
  pfailHigh : Bool := false
  /-- TEST_EN was high as the always-on domain left reset (R433); reset false. -/
  testEn : Bool := false
  /-- Standby latch, OD 0x7000.07 (R321); reset clear. -/
  standby : Bool := false
  /-- Thermal latch (R321); reset clear. -/
  thermal : Bool := false
  /-- Boot origin t0 (R314); reset 0. -/
  t0 : Nat := 0
  /-- Boot step reached: 0 none, 1 M2 started, 2 rails qualified, 5 firmware loaded and SRAM filled, 6 trained, 7 bound, 9 map and Gauze loaded, 11 Memory Active (R314); reset 0. -/
  step : Nat := 0
  /-- The running boot is a warm restart (R324); reset false. -/
  warm : Bool := false
  /-- Acceptance is closed by an apply, a flush or a stop (R277, R320, R321); reset false. -/
  closed : Bool := false
  /-- Entry into M6 by idle or by reference loss is complete (R317, R318); reset false. -/
  deep : Bool := false
  /-- Hold-up flush running: start, lines to append, cause 1 input power, 2 thermal, 3 forced (R320); reset none. -/
  flush : Option (Nat × Nat × Nat) := none
  /-- Orderly stop running (R321); reset false. -/
  stopping : Bool := false
  /-- Safe Stop cause, OD 0x1100.04; reset 0. -/
  cause : BitVec 16 := 0
  /-- Safe Stop detected, its instant and cause, entry not yet complete (R402); reset none. -/
  safe : Option (Nat × BitVec 16) := none
  /-- Degraded causes, OD 0x1100.03 (R327); reset 0. -/
  degraded : BitVec 16 := 0
  /-- Last boot kind and time, OD 0x1100.05 and .06; reset 0. -/
  bootKind : Nat := 0
  bootMs : Nat := 0
  /-- First hold-up report made since boot (R314); reset false. -/
  reported : Bool := false
  /-- FAULT_N is high, released (R403); reset true. -/
  faultN : Bool := true
  /-- THERM_N is high, released (R418); reset true. -/
  thermN : Bool := true
  deriving DecidableEq, Repr

/-- An engine (R13, R14, R413). -/
structure EngineSt where
  /-- OD state: running, failed, spare, in takeover (R413). -/
  state : Nat
  /-- Role that it carries. -/
  role  : Nat
  /-- Engine whose role it took, 255 none. -/
  took  : Nat := 255
  /-- A takeover of this role runs: the spare that takes it (R14). -/
  by_   : Option Nat := none
  deriving DecidableEq, Repr

/-- An SRAM bank (R16, R409, R413). -/
structure BankSt where
  /-- OD state (R413). -/
  state : Nat
  /-- Use (R16). -/
  use   : Nat
  /-- Instants of corrections in 24 h (R93). -/
  corr  : List Nat := []
  /-- Spare that took its place, 255 none. -/
  repl  : Nat := 255
  deriving DecidableEq, Repr

/-- A Terry lap (R106 to R111). -/
structure Lap where
  /-- Operating time at the start, ms; reset 0. -/
  start : Nat := 0
  /-- Lines read in the lap; reset 0. -/
  lines : Nat := 0
  /-- Lines the lap covers; reset 0. -/
  total : Nat := 0
  /-- Duration of the last completed lap; reset 0. -/
  last : Nat := 0
  /-- Starved (R111); reset false. -/
  starved : Bool := false
  /-- Cursor: the next stripe to read, as slot * 1024 + stripe (R106); reset 0. -/
  cursor : Nat := 0
  /-- Stripes passed over while they were locked, to which the lap returns (R112); reset none. -/
  skipped : List Nat := []
  deriving DecidableEq, Repr

/-- Safety and repair (R398 to R413). -/
structure Safety where
  /-- Operating times of contained detections of the last second, by mechanism (R399); reset none. -/
  contained : NMap (List Nat) := []
  /-- Instants of corrections by voted field (R305); reset none. -/
  votes : NMap (List Nat) := []
  /-- VSTAT: count, FAULT, CORR (R307); reset 0. -/
  vcnt : Nat := 0
  vfault : BitVec 5 := 0
  vcorr : BitVec 5 := 0
  /-- PSTAT: count, PDOM (R307); reset 0. -/
  pcnt : Nat := 0
  pdom : BitVec 7 := 0
  /-- Last parity mismatch of each register (R306); reset none. -/
  parity : NMap Nat := []
  /-- Critical domain enables, voted, three copies (R304); reset all enabled. -/
  domains : List Nat := [0x3FFFFFF, 0x3FFFFFF, 0x3FFFFFF]
  /-- Engines as far as they differ from their assignment (R13); reset none. -/
  engines : NMap EngineSt := []
  /-- Banks as far as they differ from their allocation (R16); reset none. -/
  banks : NMap BankSt := []
  /-- Bank failover running: failing bank and spare; those that wait (R409, R412); reset none. -/
  failover : Option (Nat × Nat) := none
  failoverWait : List Nat := []
  /-- Slices that take no new lines (R410); reset none. -/
  deadSlices : List Nat := []
  /-- Translation engines whose regions are being redistributed (R15); reset none. -/
  redist : List Nat := []
  /-- Translation engines that have failed with no spare left, oldest first (R15); reset none. -/
  gone : List Nat := []
  /-- Member positions to rebuild, in order (R406); reset none. -/
  rebuild : List Nat := []
  /-- Position under rebuild, or being copied back, the die that it goes to, and its next stripe (R406, R407); reset none. -/
  rebuildAt : Option (Nat × Nat × Nat) := none
  /-- Positions queued since the rebuild began (R406); reset 0. -/
  rebuildTotal : Nat := 0
  /-- A self-test has run in M6, so that the checkers of gated domains are tested at the wake (R401); reset false. -/
  testOwed : Bool := false
  /-- Die substitutions: position to substitute (R55, R82); reset none. -/
  subst : NMap Nat := []
  deriving DecidableEq, Repr

/-! ### What leaves the block -/

/-- Mailbox return codes (R104, R216, R220, R221). -/
inductive Rc where
  | success
  | backgroundStarted
  | invalidInput
  | unsupported
  | busy
  | invalidExtentList
  deriving DecidableEq, Repr

/-- An observable output, newest first in `State.out`. -/
inductive Output where
  /-- Read response with its half, none for poison, and the DevLoad level (R11, R101, R230). -/
  | memData (h : Head) (tag : Nat) (data : Option Half) (devload : Nat)
  /-- Write completion (R12, R210). -/
  | cmp (h : Head) (tag : Nat) (devload : Nat)
  /-- Mailbox reply: opcode, return code, output fields (R220 to R225). -/
  | mailbox (h : Head) (op : Nat) (rc : Rc) (out : List Nat)
  /-- Register read data (R292). -/
  | reg (h : Head) (off : Nat) (v : Nat)
  /-- MSI-X message of an entry (R229). -/
  | irq (h : Head) (entry : Nat)
  /-- A CAN FD frame sent (R282). -/
  | can (id : Nat) (bytes : BitVec 512)
  /-- A command word on a channel's CA lanes, with its chip selects (R180). -/
  | ca (ch : Nat) (cs : BitVec 8) (word : BitVec 64)
  /-- A read transfer of a die: ST, SG and the line's 144 B (R184, R185). -/
  | dq (ch die : Nat) (st : BitVec 64) (sg : BitVec 72) (content : BitVec 1152)
  /-- A short transfer of a die (R187). -/
  | short (ch die : Nat) (v : BitVec 256)
  /-- GPF phase reported complete (R169). -/
  | gpf (h : Head) (phase : Nat)
  /-- A DOE response: its kind and fields (R208, R215, R256, R257). -/
  | doe (h : Head) (kind : Nat) (out : List Nat)
  /-- A configuration completion (R231). -/
  | config (h : Head) (v : Nat)
  /-- The TAP's instruction register or IDCODE shifted out (R429). -/
  | tap (v : Nat)
  deriving DecidableEq, Repr

/-! ### Groups of fields -/

/-- Requests in flight (R37 to R50, R163, R170). -/
structure Path where
  /-- Accepted requests not completed, oldest first; reset none. -/
  acc : List Acc := []
  /-- Number of the next accepted request; reset 0. -/
  nextRid : Nat := 0
  /-- Requests that have arrived (R157); reset 0. -/
  arrived : Nat := 0
  /-- Next sync ticket, and the tickets not completed (R163); reset 1, none. -/
  ticket : Nat := 1
  tickets : List Nat := []
  /-- Reads in deep recovery (R47); reset none. -/
  deeps : List Deep := []
  /-- Fill data back from media: line, poison, data (R99); reset none. -/
  fills : NMap (Bool × Line) := []
  /-- Drain barriers, oldest first (R170); reset none. -/
  barriers : List Barrier := []
  deriving DecidableEq, Repr

/-- The media as the device knows them (R22 to R29, R37, R42). -/
structure Media where
  /-- Lines by location ((ch * 8 + die) * 32 + part) * 2^23 + line; reset blank (DESIGN CHOICE, log 5). -/
  lines : NMap MLine := []
  /-- Partitions by (ch * 8 + die) * 32 + part; reset idle. -/
  parts : NMap PartSt := []
  /-- Dies by 8 * ch + die; reset absent. -/
  dies : NMap DieSt := []
  /-- The dies' own view of their partitions; reset idle. -/
  dparts : NMap DiePart := []
  /-- Channels; reset untrained. -/
  chans : NMap ChanSt := []
  /-- Dies per channel in use (R34); reset 0. -/
  perChan : Nat := 0
  /-- Programs and overwrites that wait for their partitions, oldest first (R25, R37); reset none. -/
  pend : List Pend := []
  /-- Lines of stripes written degraded for a channel in takeover, which are written again after it (R14); reset none. -/
  owed : List Mem := []
  /-- Locations on replaced dies that a stripe still encodes and the new die does not hold, until their rebuild or their tile's reset (R254, R407); reset none. -/
  gone : List Nat := []
  /-- Programs that have ended while a request held a reservation on their line: their map switch waits (R38, R50): line, what the program was for, its start; reset none. -/
  switchDue : List (Nat × ProgFor × Nat) := []
  /-- The declustering pattern that the first provisioning has fixed and recorded in the metadata area, by the number of dies for which it was made (R29); reset none. -/
  pattern : Option Nat := none
  /-- Locations retired by R434 and their slot; reset none. -/
  retired : NMap Nat := []
  /-- Poison list: DPA[42:6] of the half to its source (R102); reset empty. -/
  poison : NMap PSource := []
  /-- 75 % and 90 % warnings raised (R105); reset false. -/
  warn75 : Bool := false
  warn90 : Bool := false
  /-- Changes of the list for which no record has been issued, oldest first: the half, and its source before (R102); reset none. -/
  changes : List (Nat × Option PSource) := []
  /-- Records of the list under way: the line, the half, and its source before (R102); reset none. -/
  records : List (Mem × Nat × Option PSource) := []
  /-- Number of the next record of the list (R102); reset 0. -/
  nextRecord : Nat := 0
  /-- Line of the list area that holds each half's entry (R102); reset none. -/
  entries : NMap Mem := []
  /-- Regions whose part of the poison table is being reloaded from the list on media (R112); reset none. -/
  reload : List Nat := []
  /-- Weak lines queued for rewrite, at most 4,096 (R97); reset empty. -/
  weak : List Mem := []
  /-- Scan Media: the next half of the range and the halves left, and the results (R104); reset none. -/
  scan : Option (Nat × Nat) := none
  scanFound : List Nat := []
  /-- Terry's laps: Voile, Denim, SRAM (R106, R110); reset as Lap. -/
  lapV : Lap := {}
  lapD : Lap := {}
  lapS : Lap := {}
  deriving DecidableEq, Repr

/-- Velvet (R139 to R154). -/
structure Velvet where
  /-- Valid ways by set * 16 + way; reset none. -/
  ways : NMap VWay := []
  /-- Tree pseudo-LRU words by set; reset 0 (DESIGN CHOICE, log 6). -/
  plru : NMap (BitVec 15) := []
  /-- Holding buffers in use, by number; reset none. -/
  bufs : NMap HBuf := []
  /-- Persistence mode, voted, three copies, as OD 0x6000.01 (R145, R304); reset 2, E_u is taken as 0 before the first report (R314). -/
  mode : List Nat := [2, 2, 2]
  /-- Dirty budget, lines (R144); reset 0. -/
  budget : Nat := 0
  /-- E_u in use, µJ (R145); reset 0. -/
  eu : Nat := 0
  /-- Start of the span of reports at 44 mJ or more (R145); reset none. -/
  span : Option Nat := none
  /-- Write-through was entered on energy (R145); reset false. -/
  onEnergy : Bool := false
  /-- Cleaning has started and has not yet reached 75 % of the budget (R143); reset false. -/
  cleaning : Bool := false
  /-- Range operation running (R150); reset none. -/
  rangeOp : Option RangeOp := none
  /-- Single-line operations not yet answered (R151); reset none. -/
  lineOps : List LineOp := []
  deriving DecidableEq, Repr

/-- Twill (R51 to R86). -/
structure Twill where
  /-- Region map entries that differ from their set-up value (R52); reset none. -/
  regions : NMap RegionEntry := []
  /-- Regions whose entry in SRAM could not be corrected and is being reloaded (R93); reset none. -/
  mapDown : List Nat := []
  /-- Sets of the hot-line table that are being rebuilt (R93); reset none. -/
  hotDown : List Nat := []
  /-- Hot-line table by set * 8 + way (R56); reset none valid. -/
  hot : NMap HotEntry := []
  /-- Hot-table ways freed for a candidate, by table key (R65); reset none. -/
  reserve : NMap Nat := []
  /-- Marked lines that wait for a way, and the instant of the mark (R65); reset none. -/
  wants : NMap Nat := []
  /-- Hot candidate counters (R63); reset 0. -/
  cand : NMap Nat := []
  /-- Host writes to each region in the hot epoch (R52); reset 0. -/
  writes : NMap Nat := []
  /-- Stripe locks held, by slot * 1024 + stripe, and the job that holds each (R59); reset none. -/
  locks : NMap Nat := []
  /-- Background jobs by number (R37, R59, R64, R67, R69, R72, R75, R97); reset none. -/
  jobs : NMap Job := []
  /-- Number of the next job, the model's own; reset 0. -/
  nextJob : Nat := 0
  /-- Refreshes in progress: region to its next stripe and the operating time of its start, s (R75, R119); reset none. -/
  fresh : NMap (Nat × Nat) := []
  /-- Group width bitmap, as far as it differs from the one set up at the first provisioning (R54, R55); reset none. -/
  wide : NMap Cls := []
  /-- Stripes that the resync has passed of the regions it works on (R60); reset none. -/
  resyncAt : NMap Nat := []
  /-- Home data lines of those regions that have failed their tag in the resync (R248); reset none. -/
  resyncBad : List Nat := []
  /-- Lanes (R61); reset none open. -/
  lanes : NMap Lane := []
  /-- Tile rows of the hot pool by slot * 16 + row (R62); reset free. -/
  rows : NMap TileRow := []
  /-- Classes whose garbage collection has started and has not yet reached its upper mark (R66); reset none. -/
  collecting : List Cls := []
  /-- Slots that differ from their state after the first provisioning (R55); reset none. -/
  slots : NMap SlotSt := []
  /-- Member positions in free slots, F of R435; reset 0 until provisioned. -/
  freePos : Nat := 0
  /-- Spare count after first provisioning, S0 (R435); reset 0. -/
  s0 : Nat := 0
  /-- Slots retired (R86); reset 0. -/
  retired : Nat := 0
  /-- Write tracker: slot to count and last use, at most 16,384 (R68); reset empty. -/
  tracker : NMap (Nat × Nat) := []
  /-- Rotation passes by region, waiting or, at most 64 of them, running (R69); reset none. -/
  rot : NMap Rotation := []
  /-- Regions whose migration is due (R71); reset none. -/
  migDue : List Nat := []
  /-- Migrations by region, at most 16 (R72); reset none. -/
  mig : NMap Migration := []
  /-- Demotions by line (R64); reset none. -/
  demote : NMap Demotion := []
  /-- Refresh queue: region and predicted instant in s, earliest first (R75); reset empty. -/
  refresh : List (Nat × Nat) := []
  /-- Hot epochs ended (R63); reset 0. -/
  epochs : Nat := 0
  /-- Slots whose retirement waits for the journal to take records: slot, reason (R78, R82); reset none. -/
  retireDue : List (Nat × Nat) := []
  /-- Journal sequence and records, newest first (R82); reset 0. -/
  jseq : Nat := 0
  journal : List JRec := []
  /-- Next line of the journal's ring, counted on over its wraps (R82); reset 0. -/
  ringNext : Nat := 0
  /-- Demotions that gather in a record, each with the instant at which it joined (R82); reset empty. -/
  gatherD : List (Nat × Nat) := []
  /-- Freed slots that gather in a record, likewise (R82); reset empty. -/
  gatherF : List (Nat × Nat) := []
  /-- Newest committed checkpoint, and its full one (R79); reset none. -/
  ckpt : Option Ckpt := none
  full : Option Ckpt := none
  /-- The valid checkpoints on media, by generation * 3, and 1 or 2 more for its incremental slots 0 and 1 (R79); reset none. -/
  stored : NMap Ckpt := []
  /-- Checkpoint being written, and a trigger that waits for its commit (R78); reset none. -/
  writing : Option Ckpt := none
  trigger : Bool := false
  /-- Data lines appended and journal records written since the start of the newest committed checkpoint, and since the start of the one being written (R78); reset 0. -/
  appended : Nat := 0
  records : Nat := 0
  appendedW : Nat := 0
  recordsW : Nat := 0
  /-- Duration of the newest committed checkpoint, µs (R78); reset 0. -/
  duration : Nat := 0
  /-- Next stripe sequence (R61, R81); reset 0. -/
  nextBase : Nat := 0
  /-- Append plan in effect and the plan that follows: row, base (R81); reset empty. -/
  plan : List (Nat × Nat) := []
  planNext : List (Nat × Nat) := []
  /-- Resync progress, per cent (R60); reset 100. -/
  resync : Nat := 100
  /-- Life has fallen to 10 %, and to 5 %, and has not risen above it since (R76); reset false. -/
  life10 : Bool := false
  life5 : Bool := false
  /-- Regions that have passed their predicted instant (R75); reset none. -/
  backlog : List Nat := []
  deriving DecidableEq, Repr

/-- Regions, persistence interfaces and the device-wide mailbox state (R214 to R221). -/
structure Device where
  /-- Dynamic Capacity regions (R214); reset none. -/
  rgns : List Rgn := []
  nextRgn : Nat := 0
  /-- An Add runs up to step 3: its region (R216, R217); reset none. -/
  adding : Option Nat := none
  /-- A release runs up to step 7 by an action: its region (R217); reset none. -/
  releasing : Option Nat := none
  /-- Device-wide timestamp and whether it has been set since boot (R221, R228); reset 0, not set. -/
  stampV : BitVec 64 := 0
  stampSet : Bool := false
  stampAt : Nat := 0
  /-- Alert thresholds (R221); reset none. -/
  alerts : AlertCfg := { lifeUsed := none, overTemp := none, underTemp := none, corrVolatile := none, corrPersist := none }
  /-- Thresholds crossed and reported (R221): life, over, under, volatile, persistent; reset none. -/
  crossed : List Nat := []
  /-- Background operation: opcode, head, and whether it has ended; none before the first (R220); reset none. -/
  bg : Option (Nat × Head × Bool) := none
  /-- Health status last reported (R222, R227); reset 0. -/
  health : Nat := 0
  deriving DecidableEq, Repr

/-- The block: everything but the queue of waiting commands. -/
structure Blk where
  /-- The block's time, ns: the latest instant a command has carried (log 1); reset 0. -/
  now : Nat := 0
  /-- Operating time, ms, 48 bits (R368); reset 0. -/
  opTime : Nat := 0
  /-- NVWP_N is high (R379, R418); reset low, the internal pull-down. -/
  nvwp : Bool := false
  /-- Draws taken from the TRNG (model's own index, log 10); reset 0. -/
  rng : Nat := 0
  /-- Free values used (model's own index, log 4); reset 0. -/
  free : Nat := 0
  /-- Outputs, newest first (model's own record, log 7); reset empty. -/
  out : List Output := []
  /-- Dictionary values in effect that differ from their Default, by index * 256 + subindex; per-transport copies at 2^24 * transport more (R236, R269, R382); reset none. -/
  od : NMap Nat := []
  /-- Values that the last commit replaced, by dictionary key: requests accepted under the other epoch use them (R19, R276); reset none. -/
  odOld : NMap Nat := []
  /-- Values that RWP entries had from their last commit or boot, of entries that a direct write has changed since: what the persistent-parameter copy holds for them (R300); reset none. -/
  direct : NMap Nat := []
  /-- Internal registers written as diagnostics, by DOM * 2^24 + offset (R295, R299); reset 0 (DESIGN CHOICE, log 6). -/
  regs : NMap Nat := []
  /-- Guarded writes applied whose effect has not run: target and value (R302, R303); reset none. -/
  due : List (BitVec 16 × BitVec 32) := []
  /-- AON cycle of head B's newest applied guarded write, while it stands last in `due` (R302); reset none. -/
  dueB : Option Nat := none
  /-- Head A and head B. -/
  hA : HeadSt := {}
  hB : HeadSt := {}
  /-- Sessions of mailbox A, mailbox B and CAN FD (R265). -/
  sesA : Session := {}
  sesB : Session := {}
  sesC : Session := {}
  /-- The staging set (R272); reset as Muslin. -/
  muslin : Muslin := {}
  /-- The CAN FD controller (R280); reset as Can. -/
  can : Can := {}
  /-- Dynamic Capacity regions and the device-wide mailbox state (R214); reset as Device. -/
  dev : Device := {}
  /-- Requests in flight (R37); reset as Path. -/
  path : Path := {}
  /-- The media and its channels (R22); reset as Media. -/
  media : Media := {}
  /-- The write-back cache (R139); reset as Velvet. -/
  velvet : Velvet := {}
  /-- Translation and media management (R51); reset as Twill. -/
  twill : Twill := {}
  /-- Drift calibration (R116); reset as Gauze. -/
  gauze : Gauze := {}
  /-- Encryption, tags and keys (R237); reset as Damask. -/
  damask : Damask := {}
  /-- The event recorder (R365); reset as Linen. -/
  linen : Linen := {}
  /-- The Felt store (R373); reset as Felt. -/
  felt : Felt := {}
  /-- Telemetry (R383); reset as Tweed. -/
  tweed : Tweed := {}
  /-- The power supervisor (R328); reset as Canvas. -/
  canvas : Canvas := {}
  /-- The clocks (R348); reset as Clocks. -/
  clocks : Clocks := {}
  /-- Thermal management (R358); reset as Thermal. -/
  thermal : Thermal := {}
  /-- Modes, boot and stops (R311); reset as Modes. -/
  modes : Modes := {}
  /-- Safety and repair (R398); reset as Safety. -/
  safety : Safety := {}
  /-- TAP instruction in effect (R429); reset IDCODE as IEEE 1149.1 gives it (PRESUMED, log 6). -/
  tap : TapInstr := .idcode
  deriving DecidableEq, Repr

/-- The state of the block: the commands that wait, and the block itself. A command's effect is on `blk` alone, so that no command can change the queue. -/
structure State where
  /-- Commands that wait, first in first out; reset empty. -/
  pending : List Instr := []
  /-- The block; reset as Blk. -/
  blk : Blk := {}
  deriving DecidableEq, Repr

/-- Faults: none. Every command of this block has a next state, because the spec gives each address, index or unit that does not exist a status, a poisoned completion or a discarded write of its own (R5, R213, R292, R295). -/
inductive Fault where
  deriving DecidableEq, Repr

/-- Refusals. -/
inductive Refusal where
  /-- Raised by an arm of `exec` whose command has no meaning yet; safe, since nothing is claimed of it. -/
  | notModelled (mnemonic : String)
  deriving DecidableEq, Repr

/-- The block with no power applied: M0, every register at its reset value (R9, R311, R313). -/
def State.reset : State := {}

end Sys2Proof.Machine
end

