-- ==== Sys2Proof/Machine/Map.lean ====
section
/-! DEFINITION. Sparse tables: look up, write, remove and change one entry of a list of (key, value) pairs whose keys rise. Each operation keeps the canonical form (Sys2Proof/Laws/Map.lean). -/

namespace Sys2Proof.Machine

/-- The value listed under a key. -/
def NMap.find {α : Type} : NMap α → Nat → Option α
  | [], _ => none
  | (j, v) :: m, k => if k = j then some v else if k < j then none else NMap.find m k

/-- The value of a key, `d` where none is listed. -/
def NMap.getD {α : Type} (m : NMap α) (k : Nat) (d : α) : α := (m.find k).getD d

/-- Lists a value under a key, in place of the one there. -/
def NMap.put {α : Type} : NMap α → Nat → α → NMap α
  | [], k, v => [(k, v)]
  | (j, w) :: m, k, v =>
    if k = j then (k, v) :: m else if k < j then (k, v) :: (j, w) :: m else (j, w) :: NMap.put m k v

/-- Takes a key off the list. -/
def NMap.del {α : Type} : NMap α → Nat → NMap α
  | [], _ => []
  | (j, w) :: m, k => if k = j then m else if k < j then (j, w) :: m else (j, w) :: NMap.del m k

/-- Writes a value under a key: the default value is not listed. -/
def NMap.set {α : Type} [DecidableEq α] (m : NMap α) (d : α) (k : Nat) (v : α) : NMap α :=
  if v = d then m.del k else m.put k v

/-- Whether a key is listed. -/
def NMap.has {α : Type} (m : NMap α) (k : Nat) : Bool := (m.find k).isSome

/-- The lowest key from `k` on that is not listed. -/
def NMap.firstFree {α : Type} : NMap α → Nat → Nat
  | [], k => k
  | (j, _) :: m, k => if j < k then NMap.firstFree m k else if j = k then NMap.firstFree m (k + 1) else k

/-- Keys rise strictly. -/
def NMap.rising {α : Type} : NMap α → Bool
  | [] => true
  | [_] => true
  | (i, _) :: (j, w) :: m => decide (i < j) && NMap.rising ((j, w) :: m)

/-- The canonical form: keys rise and no entry equals the default. -/
def NMap.wf {α : Type} [DecidableEq α] (m : NMap α) (d : α) : Bool :=
  m.rising && m.all fun e => decide (e.2 ≠ d)

end Sys2Proof.Machine
end

