-- ==== Sys2Proof/Machine/Dict.lean ====
section
/-! DEFINITION. The object dictionary: one row for each entry of the tables of R48, R86, R113, R138, R154, R171, R207, R235, R236, R261, R290, R327, R347, R364, R382, R396 and R413, with its type, access code, levels, Default, Range and transports (R7, R8, R262, R263). -/

namespace Sys2Proof.Machine

/-- Types of R262. -/
inductive OdType where
  | u8
  | u16
  | u32
  | u64
  | i32
  | bool
  | enum
  | str
  | blob
  deriving DecidableEq, Repr

/-- Access codes of R7. -/
inductive OdAcc where
  | ro
  | rw
  | rws
  | rwp
  | wo
  | blob
  deriving DecidableEq, Repr

/-- An entry, or the entries of `count` units at `base + stride * i`. Levels: 0 public, 1 driver, 2 maintenance, 3 never written. `zero` lets 0 stand beside the Range. `trans`: bit 0 mailbox A, bit 1 mailbox B, bit 2 CAN FD may write. `keep`: the value counts since manufacture. -/
structure OdRow where
  base   : Nat
  stride : Nat
  count  : Nat
  sub    : Nat
  ty     : OdType
  acc    : OdAcc
  rlevel : Nat
  wlevel : Nat
  dflt   : Nat
  lo     : Int
  hi     : Int
  zero   : Bool
  trans  : Nat
  keep   : Bool
  deriving DecidableEq, Repr

/-- Code of a type (R262). -/
def odTypeCode : OdType → Nat
  | .u8 => 1
  | .u16 => 2
  | .u32 => 3
  | .u64 => 4
  | .i32 => 5
  | .bool => 6
  | .enum => 7
  | .str => 8
  | .blob => 9

/-- Length of a value in bytes, 0 for STRING and BLOB (R262, R264). -/
def odTypeLen : OdType → Nat
  | .u8 => 1
  | .u16 => 2
  | .u32 => 4
  | .u64 => 8
  | .i32 => 4
  | .bool => 1
  | .enum => 1
  | .str => 0
  | .blob => 0

/-- Code of an access (R263). -/
def odAccCode : OdAcc → Nat
  | .ro => 1
  | .rw => 2
  | .rws => 3
  | .rwp => 4
  | .wo => 5
  | .blob => 6

/-- Entries of R48. -/
def odMedia : List OdRow := [
  ⟨0x5810, 1, 1, 0x01, .bool, .rwp, 0, 1, 0, 0, 1, false, 7, false⟩,
  ⟨0x5810, 1, 1, 0x02, .u32, .rwp, 0, 1, 10000, 2400, 50000, false, 7, false⟩,
  ⟨0x5810, 1, 1, 0x03, .u64, .ro, 0, 3, 0, 0, 18446744073709551615, false, 7, true⟩,
  ⟨0x5810, 1, 1, 0x04, .u64, .ro, 0, 3, 0, 0, 18446744073709551615, false, 7, true⟩,
  ⟨0x5810, 1, 1, 0x05, .u64, .ro, 0, 3, 0, 0, 18446744073709551615, false, 7, true⟩,
  ⟨0x5810, 1, 1, 0x06, .u64, .ro, 0, 3, 0, 0, 18446744073709551615, false, 7, true⟩]

/-- Entries of R86. -/
def odTwill1 : List OdRow := [
  ⟨0x4000, 1, 1, 0x01, .u32, .ro, 0, 3, 0, 0, 4294967295, false, 7, false⟩,
  ⟨0x4000, 1, 1, 0x02, .u32, .ro, 0, 3, 0, 0, 4294967295, false, 7, false⟩,
  ⟨0x4000, 1, 1, 0x03, .u32, .ro, 0, 3, 0, 0, 4294967295, false, 7, false⟩,
  ⟨0x4000, 1, 1, 0x04, .u32, .ro, 0, 3, 0, 0, 4294967295, false, 7, false⟩,
  ⟨0x4000, 1, 1, 0x05, .u8, .ro, 0, 3, 0, 0, 100, false, 7, false⟩,
  ⟨0x4000, 1, 1, 0x06, .u8, .ro, 0, 3, 0, 0, 100, false, 7, false⟩,
  ⟨0x4000, 1, 1, 0x07, .u8, .ro, 0, 3, 0, 0, 100, false, 7, false⟩,
  ⟨0x4000, 1, 1, 0x08, .u8, .ro, 0, 3, 0, 0, 100, false, 7, false⟩,
  ⟨0x4010, 1, 1, 0x01, .u32, .ro, 0, 3, 0, 0, 4194304, false, 7, false⟩,
  ⟨0x4010, 1, 1, 0x02, .u64, .ro, 0, 3, 0, 0, 18446744073709551615, false, 7, true⟩,
  ⟨0x4010, 1, 1, 0x03, .u64, .ro, 0, 3, 0, 0, 18446744073709551615, false, 7, true⟩,
  ⟨0x4010, 1, 1, 0x04, .u64, .ro, 0, 3, 0, 0, 18446744073709551615, false, 7, true⟩,
  ⟨0x4020, 1, 1, 0x01, .u32, .ro, 0, 3, 0, 0, 16384, false, 7, false⟩,
  ⟨0x4020, 1, 1, 0x02, .u64, .ro, 0, 3, 0, 0, 18446744073709551615, false, 7, true⟩,
  ⟨0x4020, 1, 1, 0x03, .u64, .ro, 0, 3, 0, 0, 18446744073709551615, false, 7, true⟩,
  ⟨0x4030, 1, 1, 0x01, .u32, .ro, 0, 3, 0, 0, 4294967295, false, 7, false⟩,
  ⟨0x4030, 1, 1, 0x02, .u32, .ro, 0, 3, 0, 0, 4294967295, false, 7, false⟩,
  ⟨0x4030, 1, 1, 0x03, .u64, .ro, 0, 3, 0, 0, 18446744073709551615, false, 7, true⟩,
  ⟨0x4030, 1, 1, 0x04, .u64, .ro, 0, 3, 0, 0, 18446744073709551615, false, 7, true⟩,
  ⟨0x4040, 1, 1, 0x01, .u32, .ro, 0, 3, 0, 0, 65536, false, 7, false⟩]

/-- Entries of R86. -/
def odTwill2 : List OdRow := [
  ⟨0x4040, 1, 1, 0x02, .u64, .ro, 0, 3, 0, 0, 18446744073709551615, false, 7, true⟩,
  ⟨0x4040, 1, 1, 0x03, .u64, .ro, 0, 3, 0, 0, 18446744073709551615, false, 7, true⟩,
  ⟨0x4050, 1, 1, 0x01, .u64, .ro, 0, 3, 0, 0, 18446744073709551615, false, 7, false⟩,
  ⟨0x4050, 1, 1, 0x02, .u64, .ro, 0, 3, 0, 0, 18446744073709551615, false, 7, true⟩,
  ⟨0x4050, 1, 1, 0x03, .u64, .ro, 0, 3, 0, 0, 18446744073709551615, false, 7, true⟩,
  ⟨0x4050, 1, 1, 0x04, .u32, .ro, 0, 3, 0, 0, 1048576, false, 7, false⟩,
  ⟨0x4050, 1, 1, 0x05, .u32, .ro, 0, 3, 0, 0, 4294967295, false, 7, false⟩,
  ⟨0x4050, 1, 1, 0x06, .u64, .ro, 0, 3, 0, 0, 18446744073709551615, false, 7, true⟩,
  ⟨0x4050, 1, 1, 0x07, .u8, .ro, 0, 3, 100, 0, 100, false, 7, false⟩,
  ⟨0x4050, 1, 1, 0x08, .u32, .ro, 0, 3, 0, 0, 4294967295, false, 7, false⟩]

/-- Entries of R113. -/
def odCodes1 : List OdRow := [
  ⟨0x5800, 1, 1, 0x01, .u64, .ro, 0, 3, 0, 0, 18446744073709551615, false, 7, true⟩,
  ⟨0x5800, 1, 1, 0x02, .u64, .ro, 0, 3, 0, 0, 18446744073709551615, false, 7, true⟩,
  ⟨0x5800, 1, 1, 0x03, .u64, .ro, 0, 3, 0, 0, 18446744073709551615, false, 7, true⟩,
  ⟨0x5800, 1, 1, 0x04, .u64, .ro, 0, 3, 0, 0, 18446744073709551615, false, 7, true⟩,
  ⟨0x5800, 1, 1, 0x05, .u64, .ro, 0, 3, 0, 0, 18446744073709551615, false, 7, true⟩,
  ⟨0x5800, 1, 1, 0x06, .u64, .ro, 0, 3, 0, 0, 18446744073709551615, false, 7, true⟩,
  ⟨0x5800, 1, 1, 0x07, .u64, .ro, 0, 3, 0, 0, 18446744073709551615, false, 7, true⟩,
  ⟨0x5800, 1, 1, 0x08, .u64, .ro, 0, 3, 0, 0, 18446744073709551615, false, 7, true⟩,
  ⟨0x5800, 1, 1, 0x09, .u64, .ro, 0, 3, 0, 0, 18446744073709551615, false, 7, true⟩,
  ⟨0x5800, 1, 1, 0x0A, .u64, .ro, 0, 3, 0, 0, 18446744073709551615, false, 7, true⟩,
  ⟨0x5800, 1, 1, 0x0B, .u64, .ro, 0, 3, 0, 0, 18446744073709551615, false, 7, true⟩,
  ⟨0x5800, 1, 1, 0x0C, .u8, .rwp, 0, 1, 6, 4, 8, false, 7, false⟩,
  ⟨0x5820, 1, 1, 0x01, .u32, .rwp, 0, 1, 1209600, 3600, 7776000, false, 7, false⟩,
  ⟨0x5820, 1, 1, 0x02, .u32, .rwp, 0, 1, 28800, 3600, 2592000, false, 7, false⟩,
  ⟨0x5820, 1, 1, 0x03, .u32, .ro, 0, 3, 0, 0, 4294967295, false, 7, false⟩,
  ⟨0x5820, 1, 1, 0x04, .u32, .ro, 0, 3, 0, 0, 4294967295, false, 7, false⟩,
  ⟨0x5820, 1, 1, 0x05, .u16, .ro, 0, 3, 0, 0, 10000, false, 7, false⟩,
  ⟨0x5820, 1, 1, 0x06, .u32, .ro, 0, 3, 0, 0, 4294967295, false, 7, false⟩,
  ⟨0x5820, 1, 1, 0x07, .u32, .ro, 0, 3, 0, 0, 4294967295, false, 7, false⟩,
  ⟨0x5820, 1, 1, 0x08, .u16, .ro, 0, 3, 0, 0, 10000, false, 7, false⟩]

/-- Entries of R113. -/
def odCodes2 : List OdRow := [
  ⟨0x5820, 1, 1, 0x09, .u32, .ro, 0, 3, 0, 0, 4294967295, false, 7, false⟩,
  ⟨0x5820, 1, 1, 0x0A, .u8, .ro, 0, 3, 0, 0, 7, false, 7, false⟩,
  ⟨0x5820, 1, 1, 0x0B, .u64, .ro, 0, 3, 0, 0, 18446744073709551615, false, 7, true⟩,
  ⟨0x5820, 1, 1, 0x0C, .u64, .ro, 0, 3, 0, 0, 18446744073709551615, false, 7, true⟩,
  ⟨0x5830, 1, 1, 0x01, .u32, .ro, 0, 3, 0, 0, 1048576, false, 7, false⟩,
  ⟨0x5830, 1, 1, 0x02, .u32, .ro, 0, 3, 1048576, 0, 4294967295, false, 7, false⟩,
  ⟨0x5830, 1, 1, 0x03, .bool, .rw, 0, 2, 0, 0, 1, false, 7, false⟩,
  ⟨0x5830, 1, 1, 0x04, .u64, .ro, 0, 3, 0, 0, 18446744073709551615, false, 7, true⟩]

/-- Entries of R138. -/
def odGauze1 : List OdRow := [
  ⟨0x5000, 1, 1, 0x01, .u32, .ro, 0, 3, 0, 0, 49152, false, 7, false⟩,
  ⟨0x5000, 1, 1, 0x02, .u32, .ro, 0, 3, 0, 0, 49152, false, 7, false⟩,
  ⟨0x5000, 1, 1, 0x03, .u64, .ro, 0, 3, 0, 0, 18446744073709551615, false, 7, true⟩,
  ⟨0x5000, 1, 1, 0x04, .u16, .rwp, 0, 1, 350, 100, 1000, false, 7, false⟩,
  ⟨0x5000, 1, 1, 0x05, .u32, .rwp, 0, 1, 5184000, 86400, 31536000, false, 7, false⟩,
  ⟨0x5000, 1, 1, 0x06, .u64, .ro, 0, 3, 0, 0, 18446744073709551615, false, 7, true⟩,
  ⟨0x5000, 1, 1, 0x07, .u64, .ro, 0, 3, 0, 0, 18446744073709551615, false, 7, false⟩,
  ⟨0x5000, 1, 1, 0x08, .u64, .ro, 0, 3, 0, 0, 18446744073709551615, false, 7, true⟩,
  ⟨0x5010, 1, 1, 0x01, .blob, .ro, 0, 3, 0, 0, 0, false, 7, false⟩,
  ⟨0x5010, 1, 1, 0x02, .bool, .wo, 0, 1, 0, 1, 1, false, 7, false⟩,
  ⟨0x5080, 1, 1, 0x01, .blob, .blob, 0, 2, 0, 0, 0, false, 7, false⟩,
  ⟨0x5080, 1, 1, 0x02, .u32, .ro, 0, 3, 0, 0, 4294967295, false, 7, false⟩,
  ⟨0x5080, 1, 1, 0x03, .u32, .ro, 0, 3, 0, 0, 4294967295, false, 7, false⟩,
  ⟨0x5100, 1, 256, 0x01, .u16, .rwp, 0, 1, 0, 0, 2048, false, 7, false⟩,
  ⟨0x5100, 1, 256, 0x02, .u16, .rwp, 0, 1, 0, 0, 2048, false, 7, false⟩,
  ⟨0x5100, 1, 256, 0x03, .u16, .rwp, 0, 1, 0, 0, 2048, false, 7, false⟩,
  ⟨0x5100, 1, 256, 0x04, .u16, .rwp, 0, 1, 0, 0, 13107, false, 7, false⟩,
  ⟨0x5100, 1, 256, 0x05, .i32, .rwp, 0, 1, 0, -2560, 2560, false, 7, false⟩,
  ⟨0x5100, 1, 256, 0x06, .u64, .ro, 0, 3, 0, 0, 18446744073709551615, false, 7, false⟩,
  ⟨0x5100, 1, 256, 0x07, .enum, .ro, 0, 3, 0, 0, 2, false, 7, false⟩]

/-- Entries of R138. -/
def odGauze2 : List OdRow := [
  ⟨0x5100, 1, 256, 0x08, .u32, .ro, 0, 3, 0, 0, 4294967295, false, 7, false⟩]

/-- Entries of R154. -/
def odVelvet : List OdRow := [
  ⟨0x6000, 1, 1, 0x01, .enum, .ro, 0, 3, 0, 0, 2, false, 7, false⟩,
  ⟨0x6000, 1, 1, 0x02, .bool, .rwp, 0, 1, 0, 0, 1, false, 7, false⟩,
  ⟨0x6000, 1, 1, 0x03, .u32, .ro, 0, 3, 0, 0, 196608, false, 7, false⟩,
  ⟨0x6000, 1, 1, 0x04, .u32, .ro, 0, 3, 0, 0, 200704, false, 7, false⟩,
  ⟨0x6000, 1, 1, 0x05, .u32, .ro, 0, 3, 0, 0, 4294967295, false, 7, false⟩,
  ⟨0x6000, 1, 1, 0x06, .u64, .ro, 0, 3, 0, 0, 18446744073709551615, false, 7, true⟩,
  ⟨0x6000, 1, 1, 0x07, .u64, .ro, 0, 3, 0, 0, 18446744073709551615, false, 7, true⟩,
  ⟨0x6000, 1, 1, 0x08, .u64, .ro, 0, 3, 0, 0, 18446744073709551615, false, 7, true⟩,
  ⟨0x6010, 1, 1, 0x01, .u64, .rw, 0, 1, 0, 0, 18446744073709551615, false, 7, false⟩,
  ⟨0x6010, 1, 1, 0x02, .u64, .rw, 0, 1, 0, 0, 18446744073709551615, false, 7, false⟩,
  ⟨0x6010, 1, 1, 0x03, .enum, .wo, 0, 1, 0, 1, 3, false, 7, false⟩,
  ⟨0x6010, 1, 1, 0x04, .bool, .ro, 0, 3, 0, 0, 1, false, 7, false⟩,
  ⟨0x6010, 1, 1, 0x05, .enum, .ro, 0, 3, 0, 0, 2, false, 7, false⟩,
  ⟨0x6010, 1, 1, 0x06, .u32, .ro, 0, 3, 0, 0, 4294967295, false, 7, false⟩,
  ⟨0x6020, 1, 1, 0x01, .u64, .wo, 0, 1, 0, 0, 18446744073709551615, false, 7, false⟩,
  ⟨0x6020, 1, 1, 0x02, .u32, .wo, 0, 1, 0, 0, 4294967295, false, 7, false⟩,
  ⟨0x6030, 1, 1, 0x01, .u64, .ro, 0, 3, 0, 0, 18446744073709551615, false, 7, true⟩,
  ⟨0x6030, 1, 1, 0x02, .u64, .ro, 0, 3, 0, 0, 18446744073709551615, false, 7, true⟩]

/-- Entries of R171. -/
def odBarrier : List OdRow := [
  ⟨0x6040, 1, 1, 0x01, .bool, .wo, 0, 1, 0, 1, 1, false, 7, false⟩,
  ⟨0x6040, 1, 1, 0x02, .u32, .ro, 0, 3, 0, 0, 4294967295, false, 7, false⟩,
  ⟨0x6040, 1, 1, 0x03, .u32, .ro, 0, 3, 0, 0, 4294967295, false, 7, false⟩,
  ⟨0x6040, 1, 1, 0x04, .enum, .ro, 0, 3, 0, 0, 1, false, 7, false⟩,
  ⟨0x6040, 1, 1, 0x05, .u64, .ro, 0, 3, 0, 0, 18446744073709551615, false, 7, true⟩,
  ⟨0x6040, 1, 1, 0x06, .u32, .ro, 0, 3, 0, 0, 4294967295, false, 7, false⟩]

/-- Entries of R207. -/
def odJoern : List OdRow := [
  ⟨0x3000, 32, 32, 0x01, .enum, .ro, 0, 3, 0, 0, 6, false, 7, false⟩,
  ⟨0x3000, 32, 32, 0x02, .u8, .ro, 0, 3, 0, 0, 8, false, 7, false⟩,
  ⟨0x3000, 32, 32, 0x03, .u8, .ro, 0, 3, 0, 0, 8, false, 7, false⟩,
  ⟨0x3000, 32, 32, 0x04, .u64, .ro, 0, 3, 0, 0, 18446744073709551615, false, 7, true⟩,
  ⟨0x3000, 32, 32, 0x05, .u64, .ro, 0, 3, 0, 0, 18446744073709551615, false, 7, true⟩,
  ⟨0x3000, 32, 32, 0x06, .u64, .ro, 0, 3, 0, 0, 18446744073709551615, false, 7, true⟩,
  ⟨0x3000, 32, 32, 0x07, .u64, .ro, 0, 3, 0, 0, 18446744073709551615, false, 7, true⟩,
  ⟨0x3000, 32, 32, 0x08, .u64, .ro, 0, 3, 0, 0, 18446744073709551615, false, 7, true⟩,
  ⟨0x3000, 32, 32, 0x09, .u64, .ro, 0, 3, 0, 0, 18446744073709551615, false, 7, true⟩,
  ⟨0x3000, 32, 32, 0x0A, .u32, .ro, 0, 3, 0, 0, 4294967295, false, 7, true⟩,
  ⟨0x3000, 32, 32, 0x0B, .u32, .ro, 0, 3, 0, 0, 4294967295, false, 7, false⟩,
  ⟨0x3000, 32, 32, 0x0C, .bool, .wo, 0, 2, 0, 1, 1, false, 7, false⟩,
  ⟨0x3800, 1, 256, 0x01, .enum, .ro, 0, 3, 0, 0, 3, false, 7, false⟩,
  ⟨0x3800, 1, 256, 0x02, .i32, .ro, 0, 3, 0, -2048, 2047, false, 7, false⟩,
  ⟨0x3800, 1, 256, 0x03, .u8, .ro, 0, 3, 0, 0, 127, false, 7, false⟩,
  ⟨0x3800, 1, 256, 0x04, .u64, .ro, 0, 3, 0, 0, 18446744073709551615, false, 7, true⟩,
  ⟨0x3800, 1, 256, 0x05, .u64, .ro, 0, 3, 0, 0, 18446744073709551615, false, 7, true⟩]

/-- Entries of R235, R236. -/
def odPorts1 : List OdRow := [
  ⟨0x2000, 1024, 2, 0x01, .enum, .ro, 0, 3, 0, 0, 4, false, 7, false⟩,
  ⟨0x2000, 1024, 2, 0x02, .enum, .ro, 0, 3, 0, 0, 4, false, 7, false⟩,
  ⟨0x2000, 1024, 2, 0x03, .u8, .ro, 0, 3, 0, 0, 16, false, 7, false⟩,
  ⟨0x2000, 1024, 2, 0x04, .enum, .ro, 0, 3, 0, 0, 2, false, 7, false⟩,
  ⟨0x2000, 1, 1, 0x05, .bool, .rwp, 0, 2, 1, 0, 1, false, 6, false⟩,
  ⟨0x2400, 1, 1, 0x05, .bool, .rwp, 0, 2, 1, 0, 1, false, 5, false⟩,
  ⟨0x2000, 1024, 2, 0x06, .enum, .ro, 0, 3, 0, 0, 3, false, 7, false⟩,
  ⟨0x2000, 1024, 2, 0x07, .u16, .ro, 0, 3, 0, 0, 1024, false, 7, false⟩,
  ⟨0x2000, 1024, 2, 0x08, .u64, .ro, 0, 3, 0, 0, 18446744073709551615, false, 7, true⟩,
  ⟨0x2000, 1024, 2, 0x09, .u64, .ro, 0, 3, 0, 0, 18446744073709551615, false, 7, true⟩,
  ⟨0x2000, 1024, 2, 0x0A, .u64, .ro, 0, 3, 0, 0, 18446744073709551615, false, 7, true⟩,
  ⟨0x2000, 1024, 2, 0x0B, .u64, .ro, 0, 3, 0, 0, 18446744073709551615, false, 7, true⟩,
  ⟨0x2000, 1024, 2, 0x0C, .u64, .ro, 0, 3, 0, 0, 18446744073709551615, false, 7, true⟩,
  ⟨0x2000, 1024, 2, 0x0D, .u64, .ro, 0, 3, 0, 0, 18446744073709551615, false, 7, true⟩,
  ⟨0x2000, 1024, 2, 0x0E, .u64, .ro, 0, 3, 0, 0, 18446744073709551615, false, 7, true⟩,
  ⟨0x4800, 1, 1, 0x01, .u8, .rw, 0, 1, 0, 1, 3, false, 7, false⟩,
  ⟨0x4800, 1, 1, 0x02, .u8, .rw, 0, 1, 0, 0, 7, false, 7, false⟩,
  ⟨0x4800, 1, 1, 0x03, .u8, .rw, 0, 1, 0, 0, 7, false, 7, false⟩,
  ⟨0x4800, 1, 1, 0x04, .u64, .rw, 0, 1, 0, 2097152, 8796093022208, false, 7, false⟩,
  ⟨0x4800, 1, 1, 0x05, .enum, .rw, 0, 1, 0, 0, 1, false, 7, false⟩]

/-- Entries of R235, R236. -/
def odPorts2 : List OdRow := [
  ⟨0x4800, 1, 1, 0x06, .u64, .rw, 0, 1, 0, 0, 18446744073709551615, false, 7, false⟩,
  ⟨0x4800, 1, 1, 0x07, .bool, .wo, 0, 1, 0, 1, 1, false, 3, false⟩,
  ⟨0x4800, 1, 1, 0x08, .bool, .wo, 0, 1, 0, 1, 1, false, 3, false⟩,
  ⟨0x4800, 1, 1, 0x09, .enum, .ro, 0, 3, 0, 0, 7, false, 7, false⟩,
  ⟨0x4800, 1, 1, 0x0A, .u32, .rwp, 0, 1, 10000, 100, 600000, false, 7, false⟩,
  ⟨0x4800, 1, 1, 0x0B, .bool, .wo, 0, 2, 0, 1, 1, false, 3, false⟩,
  ⟨0x4820, 1, 16, 0x01, .enum, .ro, 0, 3, 0, 0, 3, false, 7, false⟩,
  ⟨0x4820, 1, 16, 0x02, .u64, .ro, 0, 3, 0, 0, 18446744073709551615, false, 7, false⟩,
  ⟨0x4820, 1, 16, 0x03, .u64, .ro, 0, 3, 0, 0, 18446744073709551615, false, 7, false⟩,
  ⟨0x4820, 1, 16, 0x04, .enum, .ro, 0, 3, 0, 0, 1, false, 7, false⟩,
  ⟨0x4820, 1, 16, 0x05, .bool, .ro, 0, 3, 0, 0, 1, false, 7, false⟩]

/-- Entries of R261. -/
def odDamask1 : List OdRow := [
  ⟨0x6800, 1, 1, 0x01, .enum, .ro, 0, 3, 0, 0, 3, false, 7, false⟩,
  ⟨0x6800, 1, 1, 0x02, .bool, .rwp, 0, 2, 1, 0, 1, false, 7, false⟩,
  ⟨0x6800, 1, 1, 0x03, .u8, .ro, 0, 3, 0, 1, 255, false, 7, false⟩,
  ⟨0x6800, 1, 1, 0x04, .u64, .ro, 0, 3, 0, 0, 18446744073709551615, false, 7, true⟩,
  ⟨0x6800, 1, 1, 0x05, .u64, .ro, 0, 3, 0, 0, 18446744073709551615, false, 7, true⟩,
  ⟨0x6800, 1, 1, 0x06, .u64, .ro, 0, 3, 0, 0, 18446744073709551615, false, 7, true⟩,
  ⟨0x6800, 1, 1, 0x07, .u64, .ro, 0, 3, 0, 0, 18446744073709551615, false, 7, true⟩,
  ⟨0x6800, 1, 1, 0x08, .u32, .ro, 0, 3, 0, 0, 4294967295, false, 7, false⟩,
  ⟨0x6800, 1, 1, 0x09, .u16, .ro, 0, 3, 0, 0, 4096, false, 7, false⟩,
  ⟨0x6800, 1, 1, 0x0A, .u64, .ro, 0, 3, 0, 0, 18446744073709551615, false, 7, true⟩,
  ⟨0x6810, 1, 1, 0x01, .u16, .rwp, 0, 1, 1, 1, 65535, false, 7, false⟩,
  ⟨0x6810, 1, 1, 0x02, .enum, .rwp, 0, 2, 0, 0, 2, false, 7, false⟩,
  ⟨0x6810, 1, 1, 0x03, .u64, .ro, 0, 3, 0, 0, 18446744073709551615, false, 7, true⟩,
  ⟨0x6810, 1, 1, 0x04, .u32, .ro, 0, 3, 0, 0, 3365312, false, 7, false⟩,
  ⟨0x6810, 1, 1, 0x05, .u32, .wo, 0, 2, 0, 0, 4294967295, false, 7, false⟩,
  ⟨0x6810, 1, 1, 0x06, .u32, .wo, 0, 1, 0, 0, 4294967295, false, 7, false⟩,
  ⟨0x6820, 1, 1, 0x01, .blob, .blob, 0, 2, 0, 0, 0, false, 3, false⟩,
  ⟨0x6820, 1, 1, 0x02, .u64, .ro, 0, 3, 0, 0, 18446744073709551615, false, 7, false⟩,
  ⟨0x6820, 1, 1, 0x03, .blob, .blob, 2, 2, 0, 0, 0, false, 3, false⟩,
  ⟨0x6820, 1, 1, 0x04, .enum, .ro, 0, 3, 0, 0, 6, false, 7, false⟩]

/-- Entries of R261. -/
def odDamask2 : List OdRow := [
  ⟨0x6820, 1, 1, 0x05, .u64, .ro, 0, 3, 0, 0, 18446744073709551615, false, 7, false⟩,
  ⟨0x6830, 1, 1, 0x01, .bool, .rwp, 0, 2, 0, 0, 1, false, 7, false⟩,
  ⟨0x6830, 1, 1, 0x02, .u8, .ro, 0, 3, 100, 0, 100, false, 7, false⟩]

/-- Entries of R290. -/
def odMuslin1 : List OdRow := [
  ⟨0x1000, 1, 1, 0x01, .str, .ro, 0, 3, 0, 0, 0, false, 7, false⟩,
  ⟨0x1000, 1, 1, 0x02, .str, .ro, 0, 3, 0, 0, 0, false, 7, false⟩,
  ⟨0x1000, 1, 1, 0x03, .str, .ro, 0, 3, 0, 0, 0, false, 7, false⟩,
  ⟨0x1000, 1, 1, 0x04, .str, .ro, 0, 3, 0, 0, 0, false, 7, false⟩,
  ⟨0x1000, 1, 1, 0x05, .str, .ro, 0, 3, 0, 0, 0, false, 7, false⟩,
  ⟨0x1000, 1, 1, 0x06, .u16, .ro, 0, 3, 0, 0, 65535, false, 7, false⟩,
  ⟨0x1000, 1, 1, 0x07, .u16, .ro, 0, 3, 0, 0, 65535, false, 7, false⟩,
  ⟨0x1000, 1, 1, 0x08, .u8, .ro, 0, 3, 0, 0, 255, false, 7, false⟩,
  ⟨0x1000, 1, 1, 0x09, .u16, .ro, 0, 3, 1, 0, 65535, false, 7, false⟩,
  ⟨0x1010, 1, 1, 0x01, .blob, .blob, 0, 3, 0, 0, 0, false, 7, false⟩,
  ⟨0x1200, 1, 1, 0x01, .enum, .ro, 0, 3, 0, 0, 4, false, 7, false⟩,
  ⟨0x1200, 1, 1, 0x02, .u32, .ro, 0, 3, 0, 0, 1024, false, 7, false⟩,
  ⟨0x1200, 1, 1, 0x03, .u32, .ro, 0, 3, 0, 0, 65536, false, 7, false⟩,
  ⟨0x1200, 1, 1, 0x04, .enum, .ro, 0, 3, 0, 0, 3, false, 7, false⟩,
  ⟨0x1200, 1, 1, 0x05, .enum, .ro, 0, 3, 0, 0, 6, false, 7, false⟩,
  ⟨0x1200, 1, 1, 0x06, .u16, .ro, 0, 3, 0, 0, 11, false, 7, false⟩,
  ⟨0x1200, 1, 1, 0x07, .bool, .ro, 0, 3, 0, 0, 1, false, 7, false⟩,
  ⟨0x1200, 1, 1, 0x08, .u64, .ro, 0, 3, 0, 0, 18446744073709551615, false, 7, true⟩,
  ⟨0x1200, 1, 1, 0x09, .u64, .ro, 0, 3, 0, 0, 18446744073709551615, false, 7, true⟩,
  ⟨0x1200, 1, 1, 0x0A, .u32, .ro, 0, 3, 0, 0, 4294967295, false, 7, false⟩]

/-- Entries of R290. -/
def odMuslin2 : List OdRow := [
  ⟨0x1200, 1, 1, 0x0B, .u32, .ro, 0, 3, 0, 0, 4294967295, false, 7, false⟩,
  ⟨0x1200, 1, 1, 0x0C, .u32, .rwp, 0, 1, 60, 10, 3600, false, 7, false⟩,
  ⟨0x1200, 1, 1, 0x0D, .bool, .wo, 0, 2, 0, 1, 1, false, 7, false⟩,
  ⟨0x1200, 1, 1, 0x0E, .u64, .ro, 0, 3, 0, 0, 18446744073709551615, false, 7, false⟩,
  ⟨0x1200, 1, 1, 0x0F, .u32, .ro, 0, 3, 0, 0, 4294967295, false, 7, true⟩,
  ⟨0x1210, 1, 1, 0x01, .enum, .ro, 0, 3, 0, 0, 2, false, 7, false⟩,
  ⟨0x1210, 1, 1, 0x02, .u64, .ro, 0, 3, 0, 0, 18446744073709551615, false, 7, false⟩,
  ⟨0x1210, 1, 1, 0x03, .u64, .wo, 0, 1, 0, 0, 18446744073709551615, false, 7, false⟩,
  ⟨0x1210, 1, 1, 0x04, .bool, .wo, 0, 2, 0, 1, 1, false, 7, false⟩,
  ⟨0x1210, 1, 1, 0x05, .blob, .blob, 0, 2, 0, 0, 0, false, 3, false⟩,
  ⟨0x1210, 1, 1, 0x06, .bool, .ro, 0, 3, 0, 0, 1, false, 7, false⟩,
  ⟨0x1210, 1, 1, 0x07, .u32, .rwp, 0, 2, 600, 60, 86400, false, 7, false⟩,
  ⟨0x1230, 1, 1, 0x01, .enum, .rwp, 0, 1, 0, 0, 1, false, 7, false⟩,
  ⟨0x1230, 1, 1, 0x02, .enum, .rwp, 0, 1, 0, 0, 2, false, 7, false⟩,
  ⟨0x1230, 1, 1, 0x03, .u16, .rwp, 0, 1, 100, 10, 1000, true, 7, false⟩,
  ⟨0x1230, 1, 1, 0x04, .u8, .rwp, 0, 1, 4, 3, 6, false, 7, false⟩,
  ⟨0x1230, 1, 1, 0x05, .bool, .rwp, 0, 2, 0, 0, 1, false, 7, false⟩,
  ⟨0x1230, 1, 1, 0x06, .blob, .blob, 0, 2, 0, 0, 0, false, 3, false⟩,
  ⟨0x1230, 1, 1, 0x07, .u8, .ro, 0, 3, 0, 0, 63, false, 7, false⟩,
  ⟨0x1230, 1, 1, 0x08, .enum, .ro, 0, 3, 0, 0, 3, false, 7, false⟩]

/-- Entries of R290. -/
def odMuslin3 : List OdRow := [
  ⟨0x1230, 1, 1, 0x09, .u32, .ro, 0, 3, 0, 0, 4294967295, false, 7, false⟩,
  ⟨0x1230, 1, 1, 0x0A, .u64, .ro, 0, 3, 0, 0, 18446744073709551615, false, 7, true⟩,
  ⟨0x1230, 1, 1, 0x0B, .u64, .ro, 0, 3, 0, 0, 18446744073709551615, false, 7, true⟩,
  ⟨0x1230, 1, 1, 0x0C, .u64, .ro, 0, 3, 0, 0, 18446744073709551615, false, 7, true⟩,
  ⟨0x1230, 1, 1, 0x0D, .u64, .ro, 0, 3, 0, 0, 18446744073709551615, false, 7, true⟩]

/-- Entries of R327. -/
def odModes1 : List OdRow := [
  ⟨0x1100, 1, 1, 0x01, .enum, .ro, 0, 3, 0, 0, 11, false, 7, false⟩,
  ⟨0x1100, 1, 1, 0x02, .u16, .ro, 0, 3, 0, 0, 65535, false, 7, false⟩,
  ⟨0x1100, 1, 1, 0x03, .u16, .ro, 0, 3, 0, 0, 65535, false, 7, false⟩,
  ⟨0x1100, 1, 1, 0x04, .u16, .ro, 0, 3, 0, 0, 65535, false, 7, false⟩,
  ⟨0x1100, 1, 1, 0x05, .enum, .ro, 0, 3, 0, 0, 4, false, 7, false⟩,
  ⟨0x1100, 1, 1, 0x06, .u32, .ro, 0, 3, 0, 0, 4294967295, false, 7, false⟩,
  ⟨0x1100, 1, 1, 0x07, .bool, .wo, 0, 1, 0, 1, 1, false, 7, false⟩,
  ⟨0x1100, 1, 1, 0x08, .u32, .rwp, 0, 1, 1000, 100, 1000000, true, 7, false⟩,
  ⟨0x1100, 1, 1, 0x09, .u32, .rwp, 0, 1, 1000, 10, 3600000, true, 7, false⟩,
  ⟨0x1100, 1, 1, 0x0A, .enum, .rwp, 0, 2, 0, 0, 1, false, 7, false⟩,
  ⟨0x1100, 1, 1, 0x0B, .u64, .ro, 0, 3, 0, 0, 18446744073709551615, false, 7, true⟩,
  ⟨0x1100, 1, 1, 0x0C, .u32, .ro, 0, 3, 0, 0, 4294967295, false, 7, false⟩,
  ⟨0x1100, 1, 1, 0x0D, .u32, .ro, 0, 3, 0, 0, 200704, false, 7, false⟩,
  ⟨0x1100, 1, 1, 0x0E, .u32, .ro, 0, 3, 0, 0, 4294967295, false, 7, false⟩,
  ⟨0x1100, 1, 1, 0x0F, .bool, .ro, 0, 3, 0, 0, 1, false, 7, false⟩,
  ⟨0x1140, 1, 1, 0x01, .enum, .ro, 0, 3, 0, 0, 1, false, 7, false⟩,
  ⟨0x1140, 1, 1, 0x02, .str, .ro, 0, 3, 0, 0, 0, false, 7, false⟩,
  ⟨0x1140, 1, 1, 0x03, .str, .ro, 0, 3, 0, 0, 0, false, 7, false⟩,
  ⟨0x1140, 1, 1, 0x04, .enum, .ro, 0, 3, 2, 0, 2, false, 7, false⟩,
  ⟨0x1140, 1, 1, 0x05, .enum, .ro, 0, 3, 0, 0, 4, false, 7, false⟩]

/-- Entries of R327. -/
def odModes2 : List OdRow := [
  ⟨0x1140, 1, 1, 0x06, .u32, .ro, 0, 3, 0, 0, 4294967295, false, 7, false⟩]

/-- Entries of R347. -/
def odPower1 : List OdRow := [
  ⟨0x7000, 1, 1, 0x01, .enum, .ro, 0, 3, 0, 0, 3, false, 7, false⟩,
  ⟨0x7000, 1, 1, 0x02, .u8, .ro, 0, 3, 0, 0, 7, false, 7, false⟩,
  ⟨0x7000, 1, 1, 0x03, .u8, .ro, 0, 3, 255, 0, 255, false, 7, false⟩,
  ⟨0x7000, 1, 1, 0x04, .u64, .ro, 0, 3, 0, 0, 18446744073709551615, false, 7, true⟩,
  ⟨0x7000, 1, 1, 0x05, .u64, .ro, 0, 3, 0, 0, 18446744073709551615, false, 7, true⟩,
  ⟨0x7000, 1, 1, 0x06, .u32, .ro, 0, 3, 0, 0, 4294967295, false, 7, false⟩,
  ⟨0x7000, 1, 1, 0x07, .bool, .ro, 0, 3, 0, 0, 1, false, 7, false⟩,
  ⟨0x7000, 1, 1, 0x08, .blob, .blob, 0, 3, 0, 0, 0, false, 7, false⟩,
  ⟨0x7001, 1, 1, 0x01, .u16, .rwp, 0, 2, 10000, 1000, 60000, false, 7, false⟩,
  ⟨0x7001, 1, 1, 0x02, .u16, .rwp, 0, 2, 6000, 1000, 60000, false, 7, false⟩,
  ⟨0x7001, 1, 1, 0x03, .u32, .rwp, 0, 2, 2200, 100, 1000000, false, 7, false⟩,
  ⟨0x7001, 1, 1, 0x04, .u16, .rwp, 0, 2, 50, 1, 10000, false, 7, false⟩,
  ⟨0x7001, 1, 1, 0x05, .u16, .rwp, 0, 2, 500, 10, 10000, false, 7, false⟩,
  ⟨0x7001, 1, 1, 0x06, .u16, .rwp, 0, 2, 1000, 100, 10000, false, 7, false⟩,
  ⟨0x7001, 1, 1, 0x07, .u32, .rwp, 0, 1, 86400, 3600, 604800, false, 7, false⟩,
  ⟨0x7002, 1, 1, 0x01, .u32, .ro, 0, 3, 0, 0, 4294967295, false, 7, false⟩,
  ⟨0x7002, 1, 1, 0x02, .u32, .ro, 0, 3, 0, 0, 4294967295, false, 7, false⟩,
  ⟨0x7002, 1, 1, 0x03, .u16, .ro, 0, 3, 0, 0, 65535, false, 7, false⟩,
  ⟨0x7002, 1, 1, 0x04, .u32, .ro, 0, 3, 0, 0, 4294967295, false, 7, false⟩,
  ⟨0x7002, 1, 1, 0x05, .enum, .ro, 0, 3, 0, 0, 3, false, 7, false⟩]

/-- Entries of R347. -/
def odPower2 : List OdRow := [
  ⟨0x7002, 1, 1, 0x06, .bool, .wo, 0, 1, 0, 1, 1, false, 7, false⟩,
  ⟨0x7002, 1, 1, 0x07, .u64, .ro, 0, 3, 0, 0, 18446744073709551615, false, 7, false⟩,
  ⟨0x7010, 1, 12, 0x01, .enum, .rwp, 0, 2, 0, 0, 2, false, 7, false⟩,
  ⟨0x7010, 1, 7, 0x02, .u16, .ro, 0, 3, 0, 0, 12000, false, 7, false⟩,
  ⟨0x7017, 1, 5, 0x02, .u16, .rwp, 0, 2, 0, 0, 12000, false, 7, false⟩,
  ⟨0x7010, 1, 12, 0x03, .u16, .rwp, 0, 2, 0, 0, 65535, false, 7, false⟩,
  ⟨0x7010, 1, 12, 0x04, .u16, .rwp, 0, 2, 0, 0, 65535, false, 7, false⟩,
  ⟨0x7010, 1, 12, 0x05, .u16, .rwp, 0, 2, 500, 0, 10000, false, 7, false⟩,
  ⟨0x7010, 1, 12, 0x06, .u16, .rwp, 0, 2, 5, 1, 50, false, 7, false⟩,
  ⟨0x7010, 1, 12, 0x07, .enum, .ro, 0, 3, 0, 0, 4, false, 7, false⟩,
  ⟨0x7010, 1, 12, 0x08, .u8, .ro, 0, 3, 0, 0, 8, false, 7, false⟩,
  ⟨0x7010, 1, 12, 0x09, .u16, .ro, 0, 3, 0, 0, 65535, false, 7, false⟩,
  ⟨0x7100, 1, 212, 0x01, .enum, .ro, 0, 3, 0, 0, 3, false, 7, false⟩,
  ⟨0x7100, 1, 212, 0x02, .enum, .ro, 0, 3, 0, 0, 3, false, 7, false⟩,
  ⟨0x7100, 1, 212, 0x03, .u64, .ro, 0, 3, 0, 0, 18446744073709551615, false, 7, true⟩]

/-- Entries of R364. -/
def odClocks1 : List OdRow := [
  ⟨0x7400, 1, 1, 0x01, .enum, .ro, 0, 3, 0, 0, 2, false, 7, false⟩,
  ⟨0x7400, 1, 1, 0x02, .u64, .ro, 0, 3, 0, 0, 18446744073709551615, false, 7, true⟩,
  ⟨0x7400, 1, 1, 0x03, .u64, .ro, 0, 3, 0, 0, 18446744073709551615, false, 7, true⟩,
  ⟨0x7400, 1, 1, 0x04, .u64, .ro, 0, 3, 0, 0, 18446744073709551615, false, 7, true⟩,
  ⟨0x7400, 1, 1, 0x05, .u64, .ro, 0, 3, 0, 0, 18446744073709551615, false, 7, true⟩,
  ⟨0x7400, 1, 1, 0x06, .u8, .ro, 0, 3, 0, 0, 15, false, 7, false⟩,
  ⟨0x7400, 1, 1, 0x07, .bool, .ro, 0, 3, 0, 0, 1, false, 7, false⟩,
  ⟨0x7400, 1, 1, 0x08, .u32, .ro, 0, 3, 0, 0, 4294967295, false, 7, false⟩,
  ⟨0x7400, 1, 1, 0x09, .bool, .ro, 0, 3, 0, 0, 1, false, 7, false⟩,
  ⟨0x7800, 1, 1, 0x01, .i32, .ro, 0, 3, 0, -2147483648, 2147483647, false, 7, false⟩,
  ⟨0x7800, 1, 1, 0x02, .u32, .rwp, 0, 1, 250, 10, 5000, false, 7, false⟩,
  ⟨0x7800, 1, 1, 0x03, .u16, .rwp, 0, 1, 500, 63, 1000, false, 7, false⟩,
  ⟨0x7800, 1, 1, 0x04, .u16, .ro, 0, 3, 0, 0, 3437, false, 7, false⟩,
  ⟨0x7800, 1, 1, 0x05, .u64, .ro, 0, 3, 0, 0, 18446744073709551615, false, 7, true⟩,
  ⟨0x7800, 1, 1, 0x06, .u64, .ro, 0, 3, 0, 0, 18446744073709551615, false, 7, true⟩,
  ⟨0x7800, 1, 1, 0x07, .u64, .ro, 0, 3, 0, 0, 18446744073709551615, false, 7, true⟩,
  ⟨0x7800, 1, 1, 0x08, .i32, .ro, 0, 3, 0, -2147483648, 2147483647, false, 7, false⟩,
  ⟨0x7800, 1, 1, 0x09, .i32, .rwp, 0, 1, 1600, 1280, 1680, false, 7, false⟩,
  ⟨0x7800, 1, 1, 0x0A, .i32, .ro, 0, 3, 0, -2147483648, 2147483647, false, 7, false⟩,
  ⟨0x7810, 1, 16, 0x01, .i32, .ro, 0, 3, 0, -2147483648, 2147483647, false, 7, false⟩]

/-- Entries of R364. -/
def odClocks2 : List OdRow := [
  ⟨0x7810, 1, 16, 0x02, .u16, .ro, 0, 3, 0, 0, 65535, false, 7, false⟩,
  ⟨0x7810, 1, 16, 0x03, .enum, .ro, 0, 3, 0, 0, 2, false, 7, false⟩,
  ⟨0x7810, 1, 16, 0x04, .u32, .ro, 0, 3, 0, 0, 4294967295, false, 7, false⟩]

/-- Entries of R382. -/
def odLinen1 : List OdRow := [
  ⟨0x8000, 1, 1, 0x01, .u64, .ro, 0, 3, 0, 0, 18446744073709551615, false, 7, false⟩,
  ⟨0x8000, 1, 1, 0x02, .u64, .ro, 0, 3, 0, 0, 18446744073709551615, false, 7, false⟩,
  ⟨0x8000, 1, 1, 0x03, .u64, .ro, 0, 3, 0, 0, 18446744073709551615, false, 7, false⟩,
  ⟨0x8000, 1, 1, 0x04, .u64, .rw, 0, 0, 0, 0, 18446744073709551615, false, 7, false⟩,
  ⟨0x8000, 1, 1, 0x05, .blob, .blob, 0, 3, 0, 0, 0, false, 7, false⟩,
  ⟨0x8000, 1, 1, 0x06, .u8, .rwp, 0, 1, 2, 0, 5, false, 7, false⟩,
  ⟨0x8000, 1, 1, 0x07, .u64, .ro, 0, 3, 0, 0, 18446744073709551615, false, 7, true⟩,
  ⟨0x8000, 1, 1, 0x08, .u64, .ro, 0, 3, 0, 0, 18446744073709551615, false, 7, true⟩,
  ⟨0x8000, 1, 1, 0x09, .u64, .ro, 0, 3, 0, 0, 18446744073709551615, false, 7, true⟩,
  ⟨0x8000, 1, 1, 0x0A, .u64, .ro, 0, 3, 0, 0, 18446744073709551615, false, 7, true⟩,
  ⟨0x8000, 1, 1, 0x0B, .u64, .ro, 0, 3, 0, 0, 18446744073709551615, false, 7, true⟩,
  ⟨0x8000, 1, 1, 0x10, .u64, .ro, 0, 3, 0, 0, 18446744073709551615, false, 7, true⟩,
  ⟨0x8000, 1, 1, 0x11, .u64, .ro, 0, 3, 0, 0, 18446744073709551615, false, 7, true⟩,
  ⟨0x8000, 1, 1, 0x12, .u64, .ro, 0, 3, 0, 0, 18446744073709551615, false, 7, true⟩,
  ⟨0x8000, 1, 1, 0x13, .u64, .ro, 0, 3, 0, 0, 18446744073709551615, false, 7, true⟩,
  ⟨0x8000, 1, 1, 0x14, .u64, .ro, 0, 3, 0, 0, 18446744073709551615, false, 7, true⟩,
  ⟨0x8000, 1, 1, 0x15, .u64, .ro, 0, 3, 0, 0, 18446744073709551615, false, 7, true⟩,
  ⟨0x8000, 1, 1, 0x16, .u64, .ro, 0, 3, 0, 0, 18446744073709551615, false, 7, true⟩,
  ⟨0x8000, 1, 1, 0x17, .bool, .ro, 0, 3, 0, 0, 1, false, 7, false⟩,
  ⟨0x9000, 1, 1, 0x01, .u16, .ro, 0, 3, 340, 0, 340, false, 7, false⟩]

/-- Entries of R382. -/
def odLinen2 : List OdRow := [
  ⟨0x9000, 1, 1, 0x02, .u32, .ro, 0, 3, 0, 0, 950000, false, 7, false⟩,
  ⟨0x9000, 1, 1, 0x03, .u8, .ro, 0, 3, 100, 0, 100, false, 7, false⟩,
  ⟨0x9000, 1, 1, 0x04, .u8, .rwp, 0, 2, 15, 0, 15, false, 7, false⟩,
  ⟨0x9000, 1, 1, 0x05, .bool, .ro, 0, 3, 0, 0, 1, false, 7, false⟩,
  ⟨0x9000, 1, 1, 0x06, .u64, .ro, 0, 3, 0, 0, 18446744073709551615, false, 7, true⟩,
  ⟨0x9000, 1, 1, 0x07, .u64, .ro, 0, 3, 0, 0, 18446744073709551615, false, 7, true⟩,
  ⟨0x9000, 1, 1, 0x08, .u64, .ro, 0, 3, 0, 0, 18446744073709551615, false, 7, false⟩,
  ⟨0x9000, 1, 1, 0x09, .u8, .ro, 0, 3, 0, 0, 255, false, 7, false⟩,
  ⟨0x9000, 1, 1, 0x0A, .u64, .ro, 0, 3, 0, 0, 18446744073709551615, false, 7, true⟩,
  ⟨0x9000, 1, 1, 0x0B, .u32, .ro, 0, 3, 0, 0, 340, false, 7, true⟩]

/-- Entries of R396. -/
def odTweed : List OdRow := [
  ⟨0x8800, 1, 1, 0x01, .u32, .rws, 0, 1, 1000, 10, 1000000, false, 7, false⟩,
  ⟨0x8800, 1, 1, 0x02, .u64, .ro, 0, 3, 0, 0, 18446744073709551615, false, 7, false⟩,
  ⟨0x8800, 1, 1, 0x03, .bool, .rwp, 0, 2, 0, 0, 1, false, 7, false⟩,
  ⟨0x8800, 1, 1, 0x04, .bool, .rwp, 0, 2, 0, 0, 1, false, 7, false⟩,
  ⟨0x8800, 1, 1, 0x05, .bool, .rws, 0, 1, 0, 0, 1, false, 7, false⟩,
  ⟨0x8800, 1, 1, 0x06, .bool, .rws, 0, 1, 0, 0, 1, false, 7, false⟩,
  ⟨0x8800, 1, 1, 0x07, .u8, .rws, 0, 1, 16, 4, 24, false, 7, false⟩,
  ⟨0x8800, 1, 1, 0x08, .u8, .rws, 0, 1, 16, 4, 24, false, 7, false⟩,
  ⟨0x8800, 1, 1, 0x09, .u64, .ro, 0, 3, 0, 0, 18446744073709551615, false, 7, false⟩,
  ⟨0x8800, 1, 1, 0x0A, .u64, .ro, 0, 3, 0, 0, 524288, false, 7, false⟩,
  ⟨0x8800, 1, 1, 0x0B, .u64, .ro, 0, 3, 0, 0, 524288, false, 7, false⟩,
  ⟨0x8800, 1, 1, 0x0C, .u64, .ro, 0, 3, 0, 0, 18446744073709551615, false, 7, false⟩,
  ⟨0x8800, 1, 1, 0x0D, .u64, .ro, 0, 3, 0, 0, 18446744073709551615, false, 7, false⟩,
  ⟨0x8800, 1, 1, 0x0E, .bool, .wo, 0, 1, 0, 1, 1, false, 7, false⟩,
  ⟨0x8800, 1, 1, 0x0F, .u64, .ro, 0, 3, 0, 0, 18446744073709551615, false, 7, false⟩,
  ⟨0x8900, 1, 512, 0x01, .u64, .ro, 0, 3, 0, 0, 18446744073709551615, false, 7, false⟩,
  ⟨0x8980, 1, 384, 0x02, .u32, .rws, 0, 1, 0, 0, 4294967295, false, 7, false⟩]

/-- Entries of R413. -/
def odSafety1 : List OdRow := [
  ⟨0x7C00, 1, 1, 0x01, .u64, .ro, 0, 3, 0, 0, 18446744073709551615, false, 7, true⟩,
  ⟨0x7C00, 1, 1, 0x02, .u64, .ro, 0, 3, 0, 0, 18446744073709551615, false, 7, true⟩,
  ⟨0x7C00, 1, 1, 0x03, .u8, .ro, 0, 3, 0, 0, 15, false, 7, false⟩,
  ⟨0x7C00, 1, 1, 0x04, .u64, .ro, 0, 3, 0, 0, 18446744073709551615, false, 7, true⟩,
  ⟨0x7C00, 1, 1, 0x05, .u64, .ro, 0, 3, 0, 0, 18446744073709551615, false, 7, false⟩,
  ⟨0x7C00, 1, 1, 0x06, .u64, .ro, 0, 3, 0, 0, 18446744073709551615, false, 7, true⟩,
  ⟨0x7C10, 1, 1, 0x01, .u16, .ro, 0, 3, 0, 0, 256, false, 7, false⟩,
  ⟨0x7C10, 1, 1, 0x02, .u8, .ro, 0, 3, 100, 0, 100, false, 7, false⟩,
  ⟨0x7C10, 1, 1, 0x03, .u8, .rwp, 0, 1, 10, 5, 50, false, 7, false⟩,
  ⟨0x7C10, 1, 1, 0x04, .u16, .wo, 0, 2, 0, 0, 255, false, 7, false⟩,
  ⟨0x7C10, 1, 1, 0x05, .u8, .wo, 0, 2, 0, 0, 31, false, 7, false⟩,
  ⟨0x7C10, 1, 1, 0x06, .u64, .ro, 0, 3, 0, 0, 18446744073709551615, false, 7, true⟩,
  ⟨0x7C10, 1, 1, 0x07, .u64, .ro, 0, 3, 0, 0, 18446744073709551615, false, 7, true⟩,
  ⟨0x7C10, 1, 1, 0x08, .u8, .ro, 0, 3, 0, 0, 3, false, 7, false⟩,
  ⟨0xA000, 1, 64, 0x01, .enum, .ro, 0, 3, 0, 0, 3, false, 7, false⟩,
  ⟨0xA000, 1, 64, 0x02, .u8, .ro, 0, 3, 0, 0, 34, false, 7, false⟩,
  ⟨0xA000, 1, 64, 0x03, .u64, .ro, 0, 3, 0, 0, 18446744073709551615, false, 7, true⟩,
  ⟨0xA000, 1, 64, 0x04, .u8, .ro, 0, 3, 255, 0, 255, false, 7, false⟩,
  ⟨0xA100, 1, 66, 0x01, .enum, .ro, 0, 3, 0, 0, 2, false, 7, false⟩,
  ⟨0xA100, 1, 66, 0x02, .enum, .ro, 0, 3, 0, 0, 8, false, 7, false⟩]

/-- Entries of R413. -/
def odSafety2 : List OdRow := [
  ⟨0xA100, 1, 66, 0x03, .u32, .ro, 0, 3, 0, 0, 4294967295, false, 7, false⟩,
  ⟨0xA100, 1, 66, 0x04, .u64, .ro, 0, 3, 0, 0, 18446744073709551615, false, 7, true⟩,
  ⟨0xA100, 1, 66, 0x05, .u8, .ro, 0, 3, 255, 0, 255, false, 7, false⟩]

/-- The object dictionary (R269). -/
def odRows : List OdRow :=
  odMedia ++ odTwill1 ++ odTwill2 ++ odCodes1 ++ odCodes2 ++ odGauze1 ++ odGauze2 ++ odVelvet ++ odBarrier ++ odJoern ++ odPorts1 ++ odPorts2 ++ odDamask1 ++ odDamask2 ++ odMuslin1 ++ odMuslin2 ++ odMuslin3 ++ odModes1 ++ odModes2 ++ odPower1 ++ odPower2 ++ odClocks1 ++ odClocks2 ++ odLinen1 ++ odLinen2 ++ odTweed ++ odSafety1 ++ odSafety2

/-- A row covers an index and subindex. -/
def odCovers (r : OdRow) (idx sub : Nat) : Bool :=
  r.sub == sub && decide (r.base ≤ idx) && (idx - r.base) % r.stride == 0 && decide ((idx - r.base) / r.stride < r.count)

/-- The row of an index and subindex 0x01 upward (R269). -/
def odRow? (idx sub : Nat) : Option OdRow := odRows.find? fun r => odCovers r idx sub

/-- The highest subindex in use at an index, which subindex 0x00 holds (R262); none where the index has no entry. -/
def odHighest (idx : Nat) : Option Nat :=
  odRows.foldl (fun m r => if odCovers r idx r.sub then some (max (m.getD 0) r.sub) else m) none

/-- Key of an entry in the stores. -/
def odKey (idx sub : Nat) : Nat := idx * 256 + sub

/-- The unsigned number of `bits` bits that a value is stored as. -/
def odEnc (bits : Nat) (v : Int) : Nat := (v % (2 ^ bits : Nat)).toNat

/-- The integer that a stored value of a type stands for. -/
def odDec (ty : OdType) (v : Nat) : Int :=
  match ty with
  | .i32 => if v < 2 ^ 31 then v else (v : Int) - 2 ^ 32
  | _ => v

/-- Range check of R270. -/
def odInRange (r : OdRow) (v : Nat) : Bool :=
  let x := odDec r.ty v
  (r.lo ≤ x && x ≤ r.hi) || (r.zero && x == 0)

/-- Largest value of a counter. -/
def odMax (ty : OdType) : Nat := 2 ^ (8 * odTypeLen ty) - 1

/-- Factory settings of a sequencer slot (R328): nominal mV, good and fall thresholds, mode. -/
def slotFactory (s : Nat) : Nat × Nat × Nat × Nat :=
  match s with
  | 0 => (720, 662, 144, 1)
  | 1 => (800, 736, 160, 1)
  | 2 => (1000, 920, 200, 1)
  | 3 => (850, 782, 170, 1)
  | 4 => (1200, 1104, 240, 1)
  | 5 => (900, 828, 180, 1)
  | 6 => (2500, 2300, 500, 1)
  | 7 => (900, 828, 180, 1)
  | 8 => (2500, 2300, 500, 1)
  | 9 => (5000, 4600, 1000, 1)
  | _ => (0, 0, 0, 0)

/-- Default of an entry: its row's, and for the sequencer slots the factory settings of R328. -/
def odDefault (idx sub : Nat) : Nat :=
  if 0x7010 ≤ idx ∧ idx ≤ 0x701B ∧ 1 ≤ sub ∧ sub ≤ 4 then
    let f := slotFactory (idx - 0x7010)
    if sub = 1 then f.2.2.2 else if sub = 2 then f.1 else if sub = 3 then f.2.1 else f.2.2.1
  else ((odRow? idx sub).map OdRow.dflt).getD 0

/-- An entry of the calibration set (R268, R275 rule 4). -/
def odCal (key : Nat) : Bool := decide (0x5100 ≤ key / 256) && decide (key / 256 ≤ 0x51FF) && decide (1 ≤ key % 256) && decide (key % 256 ≤ 5)

/-- Every RWP entry outside the calibration set, by key, with its Default (R268). -/
def odPersistent : List (Nat × Nat) :=
  odRows.flatMap fun r =>
    if r.acc = .rwp ∧ r.base ≠ 0x5100 then
      (List.range r.count).map fun i => (odKey (r.base + r.stride * i) r.sub, odDefault (r.base + r.stride * i) r.sub)
    else []

/-- Whether the value at a key counts since manufacture. -/
def odKeeps (key : Nat) : Bool := ((odRow? (key / 256) (key % 256)).map OdRow.keep).getD false

/-- Whether the entry at a key has an access code. -/
def odHasAcc (a : OdAcc) (key : Nat) : Bool := ((odRow? (key / 256) (key % 256)).map fun r => r.acc == a).getD false

end Sys2Proof.Machine
end

