-- ==== Sys2Proof/Machine/Ops.lean ====
section
/-! DEFINITION. The operations that every family of commands shares: the stamp of a command, changes of one part of the block, outputs, dictionary values and counters, event logs and interrupts, Linen's report (R365 to R370), the mode conditions (R312) and safety detections (R399, R402). -/

namespace Sys2Proof.Machine

/-! ### One part of the block at a time -/

/-- Changes `hA`. -/
def Blk.onHA (b : Blk) (f : HeadSt → HeadSt) : Blk := { b with hA := f b.hA }

/-- Changes `hB`. -/
def Blk.onHB (b : Blk) (f : HeadSt → HeadSt) : Blk := { b with hB := f b.hB }

/-- Changes `sesA`. -/
def Blk.onSesA (b : Blk) (f : Session → Session) : Blk := { b with sesA := f b.sesA }

/-- Changes `sesB`. -/
def Blk.onSesB (b : Blk) (f : Session → Session) : Blk := { b with sesB := f b.sesB }

/-- Changes `sesC`. -/
def Blk.onSesC (b : Blk) (f : Session → Session) : Blk := { b with sesC := f b.sesC }

/-- Changes `muslin`. -/
def Blk.onMuslin (b : Blk) (f : Muslin → Muslin) : Blk := { b with muslin := f b.muslin }

/-- Changes `can`. -/
def Blk.onCan (b : Blk) (f : Can → Can) : Blk := { b with can := f b.can }

/-- Changes `dev`. -/
def Blk.onDev (b : Blk) (f : Device → Device) : Blk := { b with dev := f b.dev }

/-- Changes `path`. -/
def Blk.onPath (b : Blk) (f : Path → Path) : Blk := { b with path := f b.path }

/-- Changes `media`. -/
def Blk.onMedia (b : Blk) (f : Media → Media) : Blk := { b with media := f b.media }

/-- Changes `velvet`. -/
def Blk.onVelvet (b : Blk) (f : Velvet → Velvet) : Blk := { b with velvet := f b.velvet }

/-- Changes `twill`. -/
def Blk.onTwill (b : Blk) (f : Twill → Twill) : Blk := { b with twill := f b.twill }

/-- Changes `gauze`. -/
def Blk.onGauze (b : Blk) (f : Gauze → Gauze) : Blk := { b with gauze := f b.gauze }

/-- Changes `damask`. -/
def Blk.onDamask (b : Blk) (f : Damask → Damask) : Blk := { b with damask := f b.damask }

/-- Changes `linen`. -/
def Blk.onLinen (b : Blk) (f : Linen → Linen) : Blk := { b with linen := f b.linen }

/-- Changes `felt`. -/
def Blk.onFelt (b : Blk) (f : Felt → Felt) : Blk := { b with felt := f b.felt }

/-- Changes `tweed`. -/
def Blk.onTweed (b : Blk) (f : Tweed → Tweed) : Blk := { b with tweed := f b.tweed }

/-- Changes `canvas`. -/
def Blk.onCanvas (b : Blk) (f : Canvas → Canvas) : Blk := { b with canvas := f b.canvas }

/-- Changes `clocks`. -/
def Blk.onClocks (b : Blk) (f : Clocks → Clocks) : Blk := { b with clocks := f b.clocks }

/-- Changes `thermal`. -/
def Blk.onThermal (b : Blk) (f : Thermal → Thermal) : Blk := { b with thermal := f b.thermal }

/-- Changes `modes`. -/
def Blk.onModes (b : Blk) (f : Modes → Modes) : Blk := { b with modes := f b.modes }

/-- Changes `safety`. -/
def Blk.onSafety (b : Blk) (f : Safety → Safety) : Blk := { b with safety := f b.safety }

/-- The part of the block that belongs to a head. -/
def Blk.head (b : Blk) : Head → HeadSt
  | .A => b.hA
  | .B => b.hB

/-- Changes a head's part. -/
def Blk.onHead (b : Blk) (h : Head) (f : HeadSt → HeadSt) : Blk :=
  match h with
  | .A => b.onHA f
  | .B => b.onHB f

/-- The other head. -/
def otherHead : Head → Head
  | .A => .B
  | .B => .A

/-- Number of a head: 0 for A, 1 for B. -/
def headNum : Head → Nat
  | .A => 0
  | .B => 1

/-! ### A command -/

/-- The instant and the level of NVWP_N that a command carries; time never runs back (log 1). -/
def Blk.at (b : Blk) (a : Stamp) : Blk := { b with now := max b.now a.t, nvwp := a.nvwp }

/-- A command that occurs at a stamp: its effect on the block, the queue untouched. -/
def State.command (s : State) (a : Stamp) (f : Blk → Blk) : Host.Outcome State Fault Refusal :=
  .next { s with blk := f (s.blk.at a) }

/-- Time that has passed since an instant, ns. -/
def Blk.since (b : Blk) (t : Nat) : Nat := b.now - t

/-! ### Outputs, random draws and free values -/

/-- Puts an output on record, newest first (log 7). -/
def Blk.emit (b : Blk) (o : Output) : Blk := { b with out := o :: b.out }

/-- The next draw of the TRNG. -/
def Blk.drawn (b : Blk) : BitVec 256 := Config.trng b.rng

/-- Uses up a draw. -/
def Blk.draw (b : Blk) : Blk := { b with rng := b.rng + 1 }

/-- A value that the spec leaves open, fresh at this use (log 4). -/
def Blk.freeVal (b : Blk) (w : Nat) : BitVec w := (Config.freeValue b.free).setWidth w

/-- A number that the spec leaves open, fresh at this use (log 4). -/
def Blk.freeNum (b : Blk) : Nat := Config.freeNat b.free

/-- Uses up a free value. -/
def Blk.useFree (b : Blk) : Blk := { b with free := b.free + 1 }

/-! ### Dictionary values -/

/-- The value in effect of an entry (R236, R268, R269): the one written, else the Default. -/
def Blk.cfg (b : Blk) (idx sub : Nat) : Nat :=
  match b.od.find (odKey idx sub) with
  | some v => v
  | none => odDefault idx sub

/-- The value of an entry for a request accepted under an epoch: the one in effect then (R19, R276). -/
def Blk.cfgFor (b : Blk) (epoch : Bool) (idx sub : Nat) : Nat :=
  if epoch == b.muslin.epoch then b.cfg idx sub else (b.odOld.find (odKey idx sub)).getD (b.cfg idx sub)

/-- Puts a value into effect. -/
def Blk.odSet (b : Blk) (idx sub v : Nat) : Blk := { b with od := b.od.set (odDefault idx sub) (odKey idx sub) v }

/-- A U64 counter counts `n` more and saturates (R290). -/
def Blk.bump (b : Blk) (idx sub n : Nat) : Blk := b.odSet idx sub (min (b.cfg idx sub + n) (2 ^ 64 - 1))

/-- A U32 counter counts `n` more and saturates. -/
def Blk.bump32 (b : Blk) (idx sub n : Nat) : Blk := b.odSet idx sub (min (b.cfg idx sub + n) (2 ^ 32 - 1))

/-! ### Modes -/

/-- The highest-numbered set bit of a condition word, from bit `n` down. -/
def topBit : Nat → Nat → Nat
  | 0, _ => 0
  | n + 1, w => if w.testBit (n + 1) then n + 1 else topBit n w

/-- The effective mode: the highest-numbered mode whose condition holds (R312). -/
def Blk.eff (b : Blk) : Nat := topBit 11 b.modes.cond.toNat

/-- The condition of mode Mn holds. -/
def Blk.holds (b : Blk) (n : Nat) : Bool := b.modes.cond.getLsbD n

/-- The effective mode of a condition word. -/
def effOf (c : BitVec 12) : Nat := topBit 11 c.toNat

/-- The condition flags of a condition word: the conditions that hold below the effective mode (R312). -/
def flagsOf (c : BitVec 12) : Nat := (c.toNat &&& 0xFFE) &&& (0xFFF ^^^ (1 <<< effOf c))

/-- The voted mode word: [15:12] effective mode, [11:0] flags (R312). -/
def modeWord (c : BitVec 12) : Nat := effOf c * 4096 + flagsOf c

/-- Memory Active has been reached since the boot (R213, R314). -/
def Blk.memoryActive (b : Blk) : Bool := decide (11 ≤ b.modes.step)

/-- Heads handle requests as M11 does: in M11, from a safety detection on, and after an apply fault (R278, R402). -/
def Blk.stopped (b : Blk) : Bool := b.holds 11 || b.modes.safe.isSome

/-- The always-on domain is powered. -/
def Blk.powered (b : Blk) : Bool := b.modes.rails

/-- The management engines run (R263, R282): from their release in bring-up (R314 step 4) on. -/
def Blk.mgmt (b : Blk) : Bool := decide (3 ≤ b.eff) || (b.eff == 2 && decide (5 ≤ b.modes.step))

/-- The switched domains are powered. -/
def Blk.running (b : Blk) : Bool := decide (2 ≤ b.eff)

/-! ### Interrupts and event logs -/

/-- Raises an MSI-X entry: a message goes out when the host has programmed the entry and not masked it (R229). -/
def Blk.raise (b : Blk) (h : Head) (entry : Nat) : Blk :=
  match (b.head h).msix.find entry with
  | some (_, _, false) => b.emit (.irq h entry)
  | _ => b

/-- A log of a head. -/
def HeadSt.log (s : HeadSt) : EvLog → EvLogSt
  | .informational => s.logInfo
  | .warning => s.logWarn
  | .failure => s.logFail
  | .fatal => s.logFatal
  | .dynamicCapacity => s.logDc

/-- Changes a log of a head. -/
def HeadSt.onLog (s : HeadSt) (l : EvLog) (f : EvLogSt → EvLogSt) : HeadSt :=
  match l with
  | .informational => { s with logInfo := f s.logInfo }
  | .warning => { s with logWarn := f s.logWarn }
  | .failure => { s with logFail := f s.logFail }
  | .fatal => { s with logFatal := f s.logFatal }
  | .dynamicCapacity => { s with logDc := f s.logDc }

/-- The device-wide timestamp now: the value last set, running on in ns; 0 when it has not been set since boot (R221, R228). -/
def Blk.timestamp (b : Blk) : BitVec 64 :=
  if b.dev.stampSet then b.dev.stampV + BitVec.ofNat 64 (b.now - b.dev.stampAt) else 0

/-- A record enters a log; a full log keeps its oldest records and counts the loss (R226). -/
def logPut (l : EvLogSt) (r : EvRec) : EvLogSt :=
  if l.recs.length < 512 then { l with recs := l.recs ++ [r] }
  else { l with overflow := true, lost := l.lost + 1, firstTs := if l.overflow then l.firstTs else r.stamp, lastTs := r.stamp }

/-- An event reaches one head's log, with the interrupt that the policy maps (R226, R229). -/
def Blk.logTo (b : Blk) (h : Head) (l : EvLog) (r : EvRec) : Blk :=
  let n := (b.head h).handle + 1
  let b1 := b.onHead h fun s => { s.onLog l (fun x => logPut x { r with handle := n }) with handle := n }
  match ((b.head h).policy.find? fun p => p.1 == l) with
  | some (_, some e) => b1.raise h e
  | _ => b1

/-- The log of a Linen severity (R226). -/
def sevLog (sev : Nat) : Option EvLog :=
  if sev = 3 then some .informational else if sev = 4 then some .warning else if sev = 5 then some .failure
  else if sev = 6 then some .fatal else none

/-- The heads that an event goes to (R226): events 0x2001 to 0x2007 to the head they name, 0x2008 to the surviving head, every other to both. -/
def eventHeads (code : BitVec 16) (unit : BitVec 16) : List Head :=
  let me : Head := if unit = 0 then .A else .B
  if 0x2001 ≤ code.toNat ∧ code.toNat ≤ 0x2007 then [me]
  else if code = 0x2008 then [otherHead me]
  else [.A, .B]

/-- Pending CAN FD notifications go out: at most 100 in a second, while the controller is on the bus (R288). -/
def Blk.canPump : Nat → Blk → Blk
  | 0, b => b
  | n + 1, b =>
    let b1 := if 1000000000 ≤ b.since b.can.noteWin then b.onCan fun c => { c with noteWin := b.now, noteCnt := 0 } else b
    match b1.can.notes with
    | [] => b1
    | f :: rest =>
      if b1.can.joined && decide (b1.can.noteCnt < 100) then
        Blk.canPump n ((b1.onCan fun c => { c with notes := rest, noteCnt := c.noteCnt + 1 }).emit (.can (0x3C0 + b1.can.node) f))
      else b1

/-- A notification joins the queue of 64; a full queue drops its oldest, counted in OD 0x1230.0D (R288). -/
def Blk.notify (b : Blk) (sev : Nat) (code : BitVec 16) (cls : BitVec 8) (unit : BitVec 16) (seq : Nat) (dpa : Option Nat) : Blk :=
  if b.cfg 0x1230 0x04 ≤ sev then
    let f : BitVec 512 := packBytes 512 ([0x02, BitVec.ofNat 8 sev] ++ leBytes 2 code.toNat ++ leBytes 4 seq ++ [cls] ++ leBytes 2 unit.toNat
      ++ [0, 0, 0, 0, 0] ++ leBytes 8 (dpa.getD (2 ^ 64 - 1)))
    let b1 := if 64 ≤ b.can.notes.length then (b.onCan fun c => { c with notes := c.notes.tail ++ [f] }).bump 0x1230 0x0D 1
      else b.onCan fun c => { c with notes := c.notes ++ [f] }
    b1.canPump 65
  else b

/-- The host's event of a Linen record: one per window, with its storm and secondary counts (R226 to R228, R369), and the CAN FD notification at the same instant (R288). -/
def Blk.deliver (b : Blk) (r : LRec) (storm second : Nat) : Blk :=
  let e : EvRec := { handle := 0, code := r.code, sev := r.sev, cls := r.cls, unit := r.unit, dpa := r.dpa, hpa := r.hpa, storm := storm,
                     second := second, linen := r.seq, stamp := b.timestamp, kind := r.kind, data := r.data }
  let b1 := match sevLog r.sev with
    | none => b
    | some l => (eventHeads r.code r.unit).foldl (fun b h => b.logTo h l e) b
  b1.notify r.sev r.code r.cls r.unit r.seq r.dpa

/-! ### Linen -/

/-- Default severity of an event code (R372). -/
def sevOf (code : BitVec 16) : Nat :=
  match code.toNat with
  | 0x1101 => 2 | 0x1102 => 6 | 0x1103 => 3 | 0x1104 => 3 | 0x1105 => 5 | 0x1106 => 5 | 0x1107 => 5 | 0x1108 => 3 | 0x1109 => 4 | 0x110A => 4
  | 0x1201 => 2 | 0x1202 => 4 | 0x1203 => 6 | 0x1204 => 4 | 0x1205 => 5 | 0x1206 => 4 | 0x1207 => 3 | 0x1208 => 4 | 0x1209 => 4
  | 0x2001 => 4 | 0x2002 => 4 | 0x2003 => 4 | 0x2004 => 4 | 0x2005 => 3 | 0x2006 => 4 | 0x2007 => 5 | 0x2008 => 5
  | 0x3001 => 3 | 0x3002 => 5 | 0x3003 => 3 | 0x3004 => 4
  | 0x3801 => 5 | 0x3802 => 3 | 0x3803 => 3 | 0x3804 => 4 | 0x3805 => 4 | 0x3806 => 3
  | 0x4001 => 3 | 0x4002 => 4 | 0x4003 => 4 | 0x4004 => 5 | 0x4005 => 5 | 0x4006 => 5 | 0x4007 => 5
  | 0x4801 => 3 | 0x4802 => 3 | 0x4803 => 4
  | 0x5001 => 3 | 0x5002 => 4 | 0x5003 => 5 | 0x5004 => 3
  | 0x5801 => 5 | 0x5802 => 3 | 0x5803 => 5 | 0x5804 => 5 | 0x5805 => 4 | 0x5806 => 4 | 0x5807 => 4 | 0x5808 => 5 | 0x5809 => 6
  | 0x6001 => 4 | 0x6002 => 5 | 0x6003 => 5
  | 0x6801 => 5 | 0x6802 => 5 | 0x6803 => 3 | 0x6804 => 5 | 0x6805 => 3 | 0x6806 => 4 | 0x6807 => 4
  | 0x7001 => 5 | 0x7002 => 5 | 0x7003 => 5
  | 0x7401 => 5 | 0x7402 => 3 | 0x7403 => 3 | 0x7404 => 5 | 0x7405 => 5
  | 0x7801 => 6 | 0x7802 => 4 | 0x7803 => 4 | 0x7804 => 5 | 0x7805 => 4
  | 0x7C01 => 4 | 0x7C02 => 3 | 0x7C03 => 4 | 0x7C04 => 4 | 0x7C05 => 3 | 0x7C06 => 4 | 0x7C07 => 4
  | 0x8001 => 4 | 0x8801 => 3
  | 0x9001 => 4 | 0x9002 => 3 | 0x9003 => 5 | 0x9004 => 3 | 0x9005 => 4 | 0x9006 => 4
  | 0xA001 => 4 | 0xA002 => 5 | 0xA003 => 5
  | _ => 3

/-- Codes whose host record is a Memory Module Event (R227). -/
def moduleEvent (code : BitVec 16) : Bool := [0x1108, 0x4003, 0x4004, 0x110A, 0x1109, 0x7805].contains code.toNat

/-- A report that a block makes to Linen (R369). -/
structure Report where
  code : BitVec 16
  cls  : BitVec 8 := 0
  unit : BitVec 16 := 0
  dpa  : Option Nat := none
  hpa  : Option Nat := none
  data : List Byte := []
  sev  : Option Nat := none
  kind : Option Nat := none
  deriving DecidableEq, Repr

/-- The power-cycle count (R378). -/
def Felt.cycles (f : Felt) : Nat := f.cycH * 65536 + (if f.cycMark then 0 else f.cycLo)

/-- The dirty shutdown count (R378). -/
def Felt.dirty (f : Felt) : Nat := f.dirtyH * 65536 + (if f.dirtyMark then 0 else f.dirtyLo)

/-- One drop of a record of a severity: the counter saturates and then sets the sticky flag (R367). -/
def Blk.drop (b : Blk) (sev : Nat) : Blk :=
  let b1 := b.bump 0x8000 (0x10 + sev) 1
  if b.cfg 0x8000 (0x10 + sev) = 2 ^ 64 - 1 then b1.odSet 0x8000 0x17 1 else b1

/-- The oldest record of a store that a new one of severity `sev` may overwrite (R367). -/
def victimOf (l : List LRec) (sev : Nat) (spare : List Nat) : Option LRec :=
  l.find? fun r => decide (r.sev ≤ sev) && !spare.contains r.seq

/-- Drops a record from a store by its sequence number. -/
def dropSeq (l : List LRec) (n : Nat) : List LRec := l.filter fun r => r.seq != n

/-- A record leaves a store by overwrite; out of both stores, it moves the overwrite head (R371). -/
def Linen.overwrote (l : Linen) (n : Nat) : Linen :=
  if (l.staging.any fun r => r.seq == n) || (l.ring.any fun r => r.seq == n) then l else { l with head := max l.head n }

/-- A record enters staging (R367). -/
def Blk.stageRec (b : Blk) (r : LRec) : Blk :=
  if b.linen.staging.length < 1024 then b.onLinen fun l => { l with staging := l.staging ++ [r] }
  else match victimOf b.linen.staging r.sev b.linen.waiting with
    | some v => b.onLinen fun l => ({ l with staging := dropSeq l.staging v.seq ++ [r] } : Linen).overwrote v.seq
    | none => b.drop r.sev

/-- A record enters the Felt ring (R367). -/
def Blk.ringRec (b : Blk) (r : LRec) : Blk :=
  if b.linen.ring.length < b.linen.ringSlots then b.onLinen fun l => { l with ring := l.ring ++ [r] }
  else match victimOf b.linen.ring r.sev [] with
    | some v => b.onLinen fun l => ({ l with ring := dropSeq l.ring v.seq ++ [r] } : Linen).overwrote v.seq
    | none => b.drop r.sev

/-- The oldest record that waits for the ring is written there (R367). -/
def Blk.ringNext (b : Blk) : Blk :=
  match b.linen.waiting with
  | [] => b
  | n :: rest =>
    let b1 := b.onLinen fun l => { l with waiting := rest }
    match b.linen.staging.find? fun r => r.seq == n with
    | some r => b1.ringRec r
    | none => b1

/-- A record is admitted to the ring: it waits for its write; of more than 32, the oldest is written first (R367). -/
def Blk.admitRec (b : Blk) (n : Nat) : Blk :=
  let b1 := if 32 ≤ b.linen.waiting.length then b.ringNext else b
  b1.onLinen fun l => { l with waiting := l.waiting ++ [n] }

/-- Creates a record, puts it into staging and admits it to the ring under R366. -/
def Blk.createRec (b : Blk) (r : LRec) : Blk :=
  let meets := decide (b.cfg 0x8000 0x06 ≤ r.sev)
  let token := decide (r.sev < 5) && meets && decide (0 < b.linen.tokens)
  let toRing := decide (5 ≤ r.sev) || token
  let noTok := decide (r.sev < 5) && meets && !token
  let n := b.linen.seq + 1
  let rec1 : LRec := { r with seq := n, cycle := b.felt.cycles, opTime := b.opTime, unsure := b.linen.unsure, notPersisted := noTok }
  let b1 := b.onLinen fun l => { l with seq := n, unsure := false, tokens := if token then l.tokens - 1 else l.tokens }
  let b2 := if noTok then b1.bump 0x8000 0x07 1 else b1
  let b3 := b2.stageRec rec1
  if toRing && (b3.linen.staging.any fun x => x.seq == n) then b3.admitRec n
  else if toRing then b3.ringRec rec1 else b3

/-- The record of a report. -/
def reportRec (q : Report) : LRec :=
  { seq := 0, cycle := 0, opTime := 0, sev := q.sev.getD (sevOf q.code), code := q.code, cls := q.cls, unit := q.unit, dpa := q.dpa, hpa := q.hpa,
    data := q.data, kind := q.kind.getD (if moduleEvent q.code then 2 else 0) }

/-- The key of an open window. -/
def Window.isFor (w : Window) (code : BitVec 16) (cls : BitVec 8) (unit : BitVec 16) : Bool :=
  w.code == code && w.cls == cls && w.unit == unit

/-- State of a channel. -/
def Blk.chan (b : Blk) (c : Nat) : ChanSt := b.media.chans.getD c {}

/-- Changes a channel. -/
def Blk.onChan (b : Blk) (c : Nat) (f : ChanSt → ChanSt) : Blk :=
  b.onMedia fun m => { m with chans := m.chans.set {} c (f (m.chans.getD c {})) }

/-- State of die d = 8 * channel + die. -/
def Blk.die (b : Blk) (d : Nat) : DieSt := b.media.dies.getD d {}

/-- Changes a die. -/
def Blk.onDie (b : Blk) (d : Nat) (f : DieSt → DieSt) : Blk :=
  b.onMedia fun m => { m with dies := m.dies.set {} d (f (m.dies.getD d {})) }

/-- The engine's assignment at boot (R13): E0 to E31 channels, E32 to E55 translation, E56 to E59 management, E60 to E63 spare. -/
def engineRole (e : Nat) : Nat := if e < 32 then e else if e < 56 then 32 else if e < 60 then 33 else 34

/-- An engine as assigned, before any change. -/
def engineInit (e : Nat) : EngineSt := { state := if e < 60 then 0 else 1, role := engineRole e }

/-- State of an engine. -/
def Blk.engine (b : Blk) (e : Nat) : EngineSt := b.safety.engines.getD e (engineInit e)

/-- A sensor. -/
def Blk.sensor (b : Blk) (s : Nat) : Sensor := b.thermal.sensors.getD s {}

/-- The failure's key of a failed unit (R369): the event that its failure raises. -/
def Blk.failKey (b : Blk) (cls unit : Nat) : Option (BitVec 16) :=
  match cls with
  | 1 => if (b.head (if unit = 0 then .A else .B)).failed then some 0x2008 else none
  | 2 => if (b.chan unit).state = 6 then some 0x3002 else none
  | 3 => if (b.die unit).state = 3 then some 0x3801 else none
  | 4 => if (b.engine unit).state = 2 then some 0xA001 else none
  | 5 => match b.safety.banks.find unit with
    | some k => if k.state = 2 then some 0xA003 else none
    | none => none
  | 7 => if (b.sensor unit).failed then some 0x7803 else none
  | _ => none

/-- The failed unit that a report is secondary to, with its failure's code (R369, R370): a failed unit whose partner the report's unit is (a channel for its dies and its engine, a channel engine for its channel), or the unit itself when it is marked failed and the report is not its failure. -/
def Blk.secondaryTo (b : Blk) (q : Report) : Option (Nat × Nat × BitVec 16) :=
  let u := q.unit.toNat
  let partner : Option (Nat × Nat) :=
    if q.cls = 3 then some (2, u / 8) else if q.cls = 4 ∧ u < 32 then some (2, u) else if q.cls = 2 ∧ u < 32 then some (4, u) else none
  let viaPartner : Option (Nat × Nat × BitVec 16) := match partner with
    | some (c, n) => (b.failKey c n).map fun k => (c, n, k)
    | none => none
  let own : Option (Nat × Nat × BitVec 16) := match b.failKey q.cls.toNat u with
    | some k => if k = q.code then none else some (q.cls.toNat, u, k)
    | none => none
  match own with
  | some x => some x
  | none => match viaPartner with
    | some x => if q.code = 0x3002 then none else some x
    | none => none

/-- A report without the saturation notice (R369). -/
def Blk.reportOnce (b : Blk) (q : Report) : Blk :=
  match b.secondaryTo q with
  | some (c, n, k) =>
    let cls := BitVec.ofNat 8 c
    let unit := BitVec.ofNat 16 n
    let b1 := b.bump 0x8000 0x09 1
    if b.linen.windows.any fun w => w.isFor k cls unit then
      b1.onLinen fun l => { l with windows := l.windows.map fun w => if w.isFor k cls unit then { w with second := w.second + 1 } else w }
    else if b.linen.windows.length < 64 then
      b1.onLinen fun l => { l with windows := l.windows ++ [{ code := k, cls := cls, unit := unit, opened := b.now, first := none, sev := sevOf k, count := 0, second := 1 }] }
    else b1.bump 0x8000 0x0B 1
  | none =>
    match b.linen.windows.find? fun w => w.isFor q.code q.cls q.unit with
    | some w =>
      let b1 := b.onLinen fun l => { l with windows := l.windows.map fun w => if w.isFor q.code q.cls q.unit then { w with count := w.count + 1 } else w }
      if 1 ≤ w.count then b1.bump 0x8000 0x0A 1 else b1
    | none =>
      let b1 := b.createRec (reportRec q)
      let r : LRec := { reportRec q with seq := b.linen.seq + 1, cycle := b.felt.cycles, opTime := b.opTime, unsure := b.linen.unsure }
      if b.linen.windows.length < 64 then
        b1.onLinen fun l => { l with windows := l.windows ++ [{ code := q.code, cls := q.cls, unit := q.unit, opened := b.now, first := some r, sev := r.sev, count := 1, second := 0 }] }
      else (b1.bump 0x8000 0x0B 1).deliver r 1 0

/-- A report to Linen (R365 to R370); the first saturation of a drop counter raises its own warning (R367, event 0x8001). Nothing is recorded in M0, where Linen has no power. -/
def Blk.report (b : Blk) (q : Report) : Blk :=
  if b.powered then
    let b1 := b.reportOnce q
    if b.cfg 0x8000 0x17 = 0 ∧ b1.cfg 0x8000 0x17 = 1 then b1.reportOnce { code := 0x8001 } else b1
  else b

/-- A report that names a unit class and number. -/
def Blk.reportUnit (b : Blk) (code : BitVec 16) (cls : BitVec 8) (unit : Nat) (dpa : Option Nat := none) : Blk :=
  b.report { code := code, cls := cls, unit := BitVec.ofNat 16 unit, dpa := dpa }

/-- The storm window of a key closes (R369): a storm record when the storm count is not 1 or reports were secondary, and one event to the host. -/
def Blk.closeWindow (b : Blk) (w : Window) : Blk :=
  let b1 := b.onLinen fun l => { l with windows := l.windows.filter fun x => !x.isFor w.code w.cls w.unit }
  let first : LRec := match w.first with
    | some r => r
    | none => { seq := 0, cycle := b.felt.cycles, opTime := b.opTime, sev := w.sev, code := w.code, cls := w.cls, unit := w.unit, dpa := none, hpa := none, data := [] }
  let b2 := if w.count ≠ 1 ∨ 0 < w.second then
      (b1.createRec { first with storm := true, second := w.second, count := w.count, hpa := none, data := leBytes 8 first.seq }).bump 0x8000 0x08 1
    else b1
  b2.deliver first w.count w.second

/-! ### Replies -/

/-- The completion of a mailbox command: its return code and output, with the doorbell interrupt where the host has enabled it (R220, R229). -/
def Blk.mbReply (b : Blk) (h : Head) (op : Nat) (rc : Rc) (out : List Nat) : Blk :=
  let b1 := b.emit (.mailbox h op rc out)
  if (b.head h).mbIrq then b1.raise h 0 else b1

/-- A response frame over CAN FD (R283): operation, transaction, index and subindex echoed, bytes [7:6], status, bytes [11:10], Muslin state, value. -/
def canFrame (op : Nat) (trans : BitVec 8) (idx sub flags w67 st w1011 mst : Nat) (val : List Byte) : BitVec 512 :=
  packBytes 512 ([BitVec.ofNat 8 (op + 0x80), trans] ++ leBytes 2 idx ++ leBytes 1 sub ++ leBytes 1 flags ++ leBytes 2 w67 ++ leBytes 2 st
    ++ leBytes 2 w1011 ++ leBytes 1 mst ++ [0, 0, 0] ++ val)

/-- A frame goes out on the response identifier of the node; nothing is sent while the controller is off the bus (R281, R282). -/
def Blk.canSend (b : Blk) (f : BitVec 512) : Blk :=
  if b.can.joined then b.emit (.can (0x340 + b.can.node) f) else b

/-- A Segment frame of the device: chunk number and up to 56 B (R285). -/
def canSegment (trans : BitVec 8) (idx sub num : Nat) (more : Bool) (val : List Byte) : BitVec 512 :=
  packBytes 512 ([0x89, trans] ++ leBytes 2 idx ++ leBytes 1 sub ++ leBytes 1 (if more then 2 else 0) ++ leBytes 2 num ++ val)

/-- What a dictionary response carries besides its status (R223, R283). -/
structure Reply where
  op     : Nat
  idx    : Nat := 0
  sub    : Nat := 0
  st     : Nat
  val    : List Byte := []
  rule   : Nat := 0
  staged : Nat := 0
  mst    : Nat := 0
  deriving DecidableEq, Repr

/-- Output payload of Dictionary Access, byte by byte, each value with its lowest byte first (R4, R223). -/
def Reply.payload (r : Reply) : List Byte :=
  leBytes 2 r.st ++ leBytes 2 r.val.length ++ leBytes 2 r.rule ++ leBytes 2 0 ++ leBytes 4 r.staged ++ leBytes 1 r.mst ++ leBytes 3 0 ++ r.val

/-- The response of a dictionary operation: over a mailbox the output payload of R223 with the doorbell interrupt (R229), over CAN FD the frame of R283, kept as the stored response of R286; a Read longer than 48 B goes on in a Segment frame (R285). -/
def Blk.reply (b : Blk) (src : Src) (r : Reply) : Blk :=
  match src with
  | .mb h _ => b.mbReply h 0xC100 .success (r.payload.map BitVec.toNat)
  | .can tr _ _ _ =>
    let more := decide (48 < r.val.length)
    let f := canFrame r.op tr r.idx r.sub (if more then 2 else 0) (if r.op = 1 then r.val.length else 0) r.st (if r.op = 4 then r.rule else r.staged) r.mst (r.val.take 48)
    let b1 := (b.onCan fun c => { c with lastRsp := f, busy := none }).canSend f
    if more then b1.canSend (canSegment tr r.idx r.sub 1 false (r.val.drop 48)) else b1

/-- The bit that a head counts as in unit numbers and the copies of per-transport entries (R236, R265): 1 mailbox A, 2 mailbox B, 3 CAN FD. -/
def transOf : Src → Nat
  | .mb .A _ => 1
  | .mb .B _ => 2
  | .can _ _ _ _ => 3

/-- The session of a transport. -/
def Blk.session (b : Blk) (t : Nat) : Session := if t = 1 then b.sesA else if t = 2 then b.sesB else b.sesC

/-- Changes the session of a transport. -/
def Blk.onSession (b : Blk) (t : Nat) (f : Session → Session) : Blk :=
  if t = 1 then b.onSesA f else if t = 2 then b.onSesB f else b.onSesC f

end Sys2Proof.Machine
end

