-- ==== Sys2Proof/Machine/Queue.lean ====
section
/-! DEFINITION. Tweed's shared operations: the fixed and programmable counters (R387, R388, R397), the telemetry queue with its banks and ring (R392 to R394), and the sample of a request (R391). -/

namespace Sys2Proof.Machine

/-! ### Counters -/

/-- Counter i counts c more: 48 bits, with the wrapped bit (R387). -/
def Blk.tw (b : Blk) (i c : Nat) : Blk :=
  b.onTweed fun t =>
    let v := t.ctr.getD i (0, false)
    let n := v.1 + c
    { t with ctr := t.ctr.set (0, false) i (n % 2 ^ 48, v.2 || decide (2 ^ 48 ≤ n)) }

/-- A selector counts an event of a group, unit and head (R397). -/
def selects (sel group event unit head : Nat) : Bool :=
  fld sel 24 8 == group && fld sel 16 8 == event
    && (if group = 1 then fld sel 0 2 == 0 || fld sel 0 2 == 3 || fld sel 0 2 == head + 1
        else fld sel 8 8 == 0xFF || fld sel 8 8 == unit)

/-- Programmable counters whose selector names the event (R397): OD 0x8900 + i subindex 0x02, i from 128 to 511. -/
def Blk.selectors (b : Blk) (group event unit head : Nat) : List Nat :=
  b.od.filterMap fun e =>
    if e.1 % 256 = 2 ∧ 0x8980 ≤ e.1 / 256 ∧ e.1 / 256 ≤ 0x8AFF ∧ selects e.2 group event unit head then some (e.1 / 256 - 0x8900) else none

/-- An event counts in every programmable counter that selects it. -/
def Blk.twEvent (b : Blk) (group event unit head c : Nat) : Blk :=
  (b.selectors group event unit head).foldl (fun b i => b.tw i c) b

/-- The engine that carries a role of the boot assignment: along the spares that have taken it (R14). -/
def Blk.holderOf (b : Blk) : Nat → Nat → Nat
  | 0, e => e
  | n + 1, e => match [60, 61, 62, 63].find? fun x => (b.engine x).took == e with
    | some x => Blk.holderOf b n x
    | none => e

/-- The engine that carries a role has processed an item (R397). How many of its cycles that took is open: a free value, drawn only where a counter counts it (log 106). -/
def Blk.twEngine (b : Blk) (base : Nat) : Blk :=
  let e := b.holderOf 4 base
  let b1 := b.twEvent 4 2 e 0 1
  if (b1.selectors 4 1 e 0).isEmpty then b1 else (b1.twEvent 4 1 e 0 b1.freeNum).useFree

/-- Fixed counter 16h + off of a head (R388). -/
def Blk.twHead (b : Blk) (h : Head) (off c : Nat) : Blk := b.tw (16 * headNum h + off) c

/-- Host event of R397 at a head. -/
def Blk.twHost (b : Blk) (h : Head) (event c : Nat) : Blk := b.twEvent 1 event 0 (headNum h) c

/-- Channel event of R397; a read, program, overwrite or reset that goes out is an item of the channel's engine (log 106). -/
def Blk.twChan (b : Blk) (ch event : Nat) : Blk :=
  let b1 := b.twEvent 2 event ch 0 1
  if event ≤ 4 then b1.twEngine ch else b1

/-- Die event of R397. -/
def Blk.twDie (b : Blk) (d event c : Nat) : Blk := b.twEvent 3 event d 0 c

/-- A die has worked on a read, program or reset for some ns: its busy time counts in whole µs (R397, log 106). -/
def Blk.dieBusy (b : Blk) (d ns : Nat) : Blk :=
  let t := (b.die d).busyNs + ns
  (b.onDie d fun x => { x with busyNs := t % 1000 }).twDie d 4 (t / 1000)

/-! ### The queue ring -/

/-- Positions of the ring (R385). -/
def ringPositions : Nat := 524288

/-- Valid items of the ring from position r up to position w, padding left out. -/
def Tweed.validBetween (t : Tweed) (r w : Nat) : Nat :=
  t.ring.foldl (fun n e => n + (min w (e.2.1 + e.2.2.length) - max r e.2.1)) 0

/-- A head's read position as a line with new first position p is about to be written: inside the line's old positions it moves to p, and the valid items passed over are lost (R394). -/
def Tweed.passOver (t : Tweed) (p : Nat) (s : HeadSt) : HeadSt :=
  if ringPositions ≤ p ∧ p - ringPositions ≤ s.telR ∧ s.telR < p - ringPositions + 32 then
    let n := s.lost + t.validBetween s.telR p
    { s with telR := p, lost := min n (2 ^ 48 - 1), lostSat := s.lostSat || decide (2 ^ 48 - 1 ≤ n) }
  else s

/-- One line of items drains to the ring (R392, R393); items lost at a head raise event 0x8801. -/
def Blk.ringLine (b : Blk) (items : List (BitVec 32 × Bool)) : Blk :=
  let p := b.tweed.w
  let b1 := (b.onHA (b.tweed.passOver p)).onHB (b.tweed.passOver p)
  let b2 := [Head.A, Head.B].foldl (fun c h => if (b.head h).lost < (b1.head h).lost then c.reportUnit 0x8801 1 (headNum h) else c) b1
  let hs := (items.zipIdx.filter fun x => x.1.2).map fun x => p + x.2
  b2.onTweed fun t => { t with ring := t.ring.put (p / 32 % 16384) (p, items.map Prod.fst), w := p + 32,
                               headers := hs.reverse ++ t.headers.filter fun x => decide (p + 32 < x + ringPositions) }

/-- Items drain line by line, the last line padded. -/
def Blk.drainItems : Nat → Blk → List (BitVec 32 × Bool) → Blk
  | 0, b, _ => b
  | _ + 1, b, [] => b
  | n + 1, b, items => Blk.drainItems n (b.ringLine (items.take 32)) (items.drop 32)

/-- The banks swap: the filling bank drains to the ring (R392). -/
def Blk.bankSwap (b : Blk) : Blk :=
  (b.onTweed fun t => { t with bank := [] }).drainItems 129 b.tweed.bank

/-- An item enters the filling bank of 16 KiB; a full bank swaps (R392). -/
def Blk.pushItem (b : Blk) (x : BitVec 32 × Bool) : Blk :=
  let b1 := if 4096 ≤ b.tweed.bank.length then b.bankSwap else b
  b1.onTweed fun t => { t with bank := t.bank ++ [x] }

/-- A packet: its header item, then its payload items (R392). -/
def Blk.pushPacket (b : Blk) (type source : Nat) (items : List (BitVec 32)) : Blk :=
  items.foldl (fun b i => b.pushItem (i, false)) (b.pushItem (BitVec.ofNat 32 (type <<< 24 ||| source <<< 16 ||| items.length), true))

/-- Items of a 32-B record, bytes [3:0] first. -/
def recordItems (w : BitVec 256) : List (BitVec 32) := (List.range 8).map fun i => w.extractLsb' (32 * i) 32

/-- A stage time of a sample record: ns, saturating at 65,535 (R391). -/
def stageTime (n : Nat) : Nat := min n 65535

/-- Opcode of a sample record (R391); the device's own reads are never sampled. -/
def sampleOp : ReqKind → Nat
  | .rd => 0
  | .rdData => 1
  | .wr => 2
  | .wrPtl => 3
  | .clearPoison => 2
  | .fill => 0
  | .prefetch => 0

/-- Alias number of a request (R155). -/
def aliasOf : Order → Nat
  | .plain => 0
  | .relAcq => 1
  | .sync => 2

/-- The sample record of a completed request (R391). The stage times inside the device are not instants of any command: they are left open (log 13), the ingress hold, the acceptance instant and the total are exact. -/
def Blk.sampleRecord (b : Blk) (x : Acc) (poison : Bool) : BitVec 256 :=
  let open5 := (b.freeVal 80).toNat
  packBytes 256 (leBytes 1 (sampleOp x.req.kind)
    ++ leBytes 1 (headNum x.h + 2 * aliasOf x.req.order + 8 * b2n x.hit + 16 * b2n poison + 32 * b2n x.recon + 64 * b2n x.deep + 128 * b2n x.susp)
    ++ leBytes 6 (fld x.req.hpa 6 48) ++ leBytes 6 (x.req.dpa + aliasOf x.req.order <<< 43)
    ++ leBytes 2 (stageTime x.hold) ++ leBytes 2 (fld open5 0 16)
    ++ leBytes 2 (if x.hit then 0 else fld open5 16 16) ++ leBytes 6 (fld open5 32 48)
    ++ leBytes 2 (stageTime (b.since x.accAt)) ++ leBytes 4 x.accAt)

/-- The sample packet of a sampled request at its completion (R391). -/
def Blk.sampleOut (b : Blk) (x : Acc) (poison : Bool) : Blk :=
  if x.sample then
    let r := b.sampleRecord x poison
    (b.useFree.pushPacket 1 (headNum x.h) (recordItems r)).bump 0x8800 0x0F 1
  else b

end Sys2Proof.Machine
end

