-- ==== Sys2Proof/Machine/Conditions.lean ====
section
/-! DEFINITION. What a change of the mode conditions does (R312, R273, R403), and the degraded causes (R327). -/

namespace Sys2Proof.Machine

/-- The staging set is discarded with a last result; an immediate commit that waits for its apply is answered "Commit failed" with a rule number (R272, R273). -/
def Blk.discardStaged (b : Blk) (result rule : Nat) : Blk :=
  let b1 := (b.onMuslin fun m => { m with state := 0, owner := 0, staged := [], reply := none, stuck := none }).odSet 0x1200 0x05 result
  match b.muslin.reply with
  | some src => b1.reply src { op := 4, st := 0x0B, rule := rule }
  | none => b1

/-! ### Power domains (R343, R344) -/

/-- Column of the table of R344 for an effective mode: 0 all off, 1 running, 2 M5, 3 M6. The table does not list M11, which runs (log 24). -/
def domainColumn (eff : Nat) : Nat := if eff ≤ 1 then 0 else if eff = 5 then 2 else if eff = 6 then 3 else 1

/-- One of three states by column, off in column 0. -/
def byColumn (col run m5 m6 : Nat) : Nat := if col = 1 then run else if col = 2 then m5 else if col = 3 then m6 else 0

/-- State of a CXL quad-lane group of a head (R209, R344). -/
def HeadSt.laneGroup (s : HeadSt) (col g : Nat) : Nat :=
  let on := s.link == 1 || (s.link == 2 && decide (4 * g < s.width))
  if on && !s.failed then byColumn col 3 3 0 else 0

/-- State of domain i in a column: 3 running, 2 clock-gated, 1 retention, 0 off (R344). -/
def Blk.domainState (b : Blk) (col i : Nat) : Nat :=
  if i < 64 then
    if 2 ≤ (b.engine i).state then 0
    else if 60 ≤ i ∧ (b.engine i).state = 1 then byColumn col 2 2 0
    else if 56 ≤ i ∧ i < 60 then byColumn col 3 3 3 else byColumn col 3 2 0
  else if i < 96 then (if (b.chan (i - 64)).state = 6 then 0 else byColumn col 3 2 1)
  else if i < 128 then (if (b.chan (i - 96)).state = 6 then 0 else byColumn col 3 3 0)
  else if i < 194 then match (b.safety.banks.find (i - 128)).map BankSt.state with
    | some 2 => 0
    | some 1 => byColumn col 3 2 0
    | some _ => byColumn col 3 2 1
    | none => if 192 ≤ i then byColumn col 3 2 0 else byColumn col 3 2 1
  else if i < 198 then b.hA.laneGroup col (i - 194)
  else if i < 202 then b.hB.laneGroup col (i - 198)
  else if (i = 207 ∧ b.hA.failed) ∨ (i = 208 ∧ b.hB.failed) then 0
  else byColumn col 3 2 1

/-- Changes of state that a change of column makes are counted (OD 0x7100 + i .03). -/
def Blk.gateCount (b : Blk) (old new : Nat) : Blk :=
  if old = new then b
  else (List.range 212).foldl (fun c i => if b.domainState old i = b.domainState new i then c else c.bump (0x7100 + i) 0x03 1) b

/-- FAULT_N is low in M11 and while a domain runs from its fallback source after a failure (R403). THERM_N is low while the slow-down request holds, while M7 holds for heat, and while the thermal latch is set (R418). -/
def Blk.faultPin (b : Blk) : Blk :=
  b.onModes fun m => { m with faultN := !(m.cond.getLsbD 11 || b.clocks.failed),
                              thermN := !(b.thermal.req.isSome || (m.cond.getLsbD 7 && !b.thermal.few) || m.thermal) }

/-- The idle conditions of M5 and M6 never hold while a condition of M7, M8 or M9 does (R312); that of M6 for a clock failure may. -/
def Blk.idleBeneath (b : Blk) (c : BitVec 12) : BitVec 12 :=
  if c &&& 0x380 = 0 then c else if b.clocks.failed then c &&& 0xFDF else c &&& 0xF9F

/-- The conditions of the modes change: the voted word follows (R312), a change of the effective mode is recorded (event 0x1101), a mode boundary that a set waits for is reached (R274), a set that waits for its instant is discarded on entry to M0, M1, M10 or M11 (R273), and FAULT_N follows (R403). Tweed's queue carries a mode-change packet (R392). -/
def Blk.setConditions (b : Blk) (f : BitVec 12 → BitVec 12) : Blk :=
  let c := b.idleBeneath (f b.modes.cond)
  let new := effOf c
  let b1 := (b.onModes fun m => { m with cond := c, voted := List.replicate 3 (modeWord c) }).faultPin
  if b.eff = new then b1
  else
    let b2 := (((b1.onMuslin fun m => { m with modeAt := 12 }).gateCount (domainColumn b.eff) (domainColumn new)).report { code := 0x1101 }).pushPacket 3 0x10 [BitVec.ofNat 32 (new + flagsOf c * 16)]
    if (new ≤ 1 ∨ new = 10 ∨ new = 11) ∧ b2.muslin.state = 3 then b2.discardStaged 4 0 else b2

/-- The condition of mode Mn begins. -/
def Blk.enter (b : Blk) (n : Nat) : Blk := b.setConditions fun c => c ||| BitVec.ofNat 12 (1 <<< n)

/-- The condition of mode Mn ends. -/
def Blk.leave (b : Blk) (n : Nat) : Blk := b.setConditions fun c => c &&& ~~~BitVec.ofNat 12 (1 <<< n)

/-- A degraded cause begins or ends: bits of OD 0x1100.03, and from Memory Active on M8's condition holds while one is set (R313, R327). -/
def Blk.degrade (b : Blk) (bit : Nat) (on : Bool) : Blk :=
  let d := if on then b.modes.degraded ||| BitVec.ofNat 16 (1 <<< bit) else b.modes.degraded &&& ~~~BitVec.ofNat 16 (1 <<< bit)
  let b1 := b.onModes fun m => { m with degraded := d }
  if d = 0 then b1.leave 8 else if b.memoryActive then b1.enter 8 else b1

end Sys2Proof.Machine
end

