-- ==== Sys2Proof/Machine/Layout.lean ====
section
/-! DEFINITION. Where a line lives on the media: the fields of a DPA (R51), the keyed interleave (R30), stripes and members of a slot (R27 to R29, R55), the region map and the hot-line table (R52 to R57, R70); the capacity and the spare count (R35, R77, R435); life (R76). -/

namespace Sys2Proof.Machine

/-! ### Fields of a DPA (R51) -/

/-- DPA line index of a DPA, DPA[42:7]. -/
def lineOf (dpa : Nat) : Nat := fld dpa 7 36

/-- Half of a line that a DPA lies in. -/
def halfIdx (dpa : Nat) : Bool := dpa.testBit 6

/-- Index of a half, DPA[42:6], the key of the poison list. -/
def halfKey (dpa : Nat) : Nat := fld dpa 6 37

/-- Region index of a line. -/
def regionOfLine (li : Nat) : Nat := li >>> 14

/-- DPA of the first byte of a line. -/
def dpaOfLine (li : Nat) : Nat := li <<< 7

/-! ### Keyed interleave (R30) -/

/-- Round i of the permutation under the key. -/
def feistelRound (k : BitVec 64) (i : Nat) (p : Nat × Nat) : Nat × Nat :=
  let ki := fld k.toNat (16 * i) 16
  let t := ((p.2 ^^^ (ki &&& 0x7F)) * ((ki >>> 7) ||| 1)) &&& 0xFFFF
  let f := (t ^^^ (t >>> 7)) &&& 0x7F
  (p.2, p.1 ^^^ f)

/-- The permutation of the 16,384 line offsets of a region under the interleave key. -/
def interleave (x : Nat) (k : BitVec 64) : Nat :=
  let p := feistelRound k 3 (feistelRound k 2 (feistelRound k 1 (feistelRound k 0 (x >>> 7, x &&& 0x7F))))
  (p.1 <<< 7) ||| p.2

/-- The interleave key in use; 0 before the first provisioning. -/
def Blk.key (b : Blk) : BitVec 64 := b.damask.k.getD 0

/-! ### Classes, capacity and the spare count -/

/-- Stripe width of a class (R27, R32). -/
def widthOf : Cls → Nat
  | .voile => 17
  | .denim => 18

/-- Erasures that a class tolerates (R32). -/
def toleranceOf : Cls → Nat
  | .voile => 1
  | .denim => 2

/-- Dies in use. -/
def Blk.dieCount (b : Blk) : Nat := 32 * b.media.perChan

/-- Capacity C of N dies in units of 2 MiB (R35). -/
def capacityUnits (n : Nat) : Nat := n * 16384 * 16 * 8525 / 170000

/-- Slot groups of N dies: 306 of the 262,144 member positions of each die (R55). -/
def slotGroups (n : Nat) : Nat := n * 262144 / 306

/-- V of R435. -/
def slotsV (n : Nat) : Nat := 18 * slotGroups n

/-- Voile slots of the tag region (R435). -/
def tagSlots (n : Nat) : Nat := (slotsV n + 15) / 16

/-- A quotient rounded up. -/
def ceilDiv (a d : Nat) : Nat := (a + d - 1) / d

/-- Denim slots of the metadata area: 1.5 % of V in whole slot equivalents, in Denim slots, rounded up; 55,925 at 256 dies (R435, log 12). -/
def metaSlots (n : Nat) : Nat := ceilDiv (17 * ceilDiv (15 * slotsV n) 1000) 18

/-- Member positions in free slots after the first provisioning, with a hot pool of 1,024 Voile slots (R435). -/
def freeAtStart (n : Nat) : Nat := 306 * slotGroups n - 17 * tagSlots n - 18 * metaSlots n - 17 * 1024

/-- Positions that an allocated region of some 2 MiB units takes: 17 a unit in Voile, 18 in Denim (R35, R435). -/
def regionPositions (c : Cls) (units : Nat) : Nat := widthOf c * units

/-- Units of C allocated, times 17, over the regions that stand (R35: a Denim byte takes 18/17). -/
def Blk.allocated17 (b : Blk) : Nat := b.dev.rgns.foldl (fun n r => n + regionPositions r.cls (r.length / 2097152)) 0

/-- The spare count S (R435). -/
def Blk.spare (b : Blk) : Nat := (b.twill.freePos - (17 * capacityUnits b.dieCount - b.allocated17)) / 17

/-- The spare reserve, 0.5 % of C's units rounded up (R77). -/
def spareReserve (n : Nat) : Nat := (capacityUnits n * 5 + 999) / 1000

/-! ### Slots and their groups (R54, R55, R435) -/

/-- Slots of a group of a width: 18 of 17 positions, or 17 of 18 (R55). -/
def slotsOfGroup : Cls → Nat
  | .voile => 18
  | .denim => 17

/-- Slot groups that the first provisioning gives the tag region. -/
def tagGroups (n : Nat) : Nat := ceilDiv (tagSlots n) 18

/-- Slot groups that the first provisioning gives the metadata area. -/
def metaGroups (n : Nat) : Nat := ceilDiv (metaSlots n) 17

/-- Slot number of the k-th slot of the metadata area (R435, log 77). -/
def metaSlot (n k : Nat) : Nat := 18 * (tagGroups n + k / 17) + k % 17

/-- Slots of the metadata area before the checkpoints': the journal ring's two and those of the park stripes (log 77). -/
def ckptFirst (n : Nat) : Nat := 2 + ceilDiv (capacityUnits n) 1024

/-- Width of a group after the first provisioning: the metadata area's groups are Denim (R435); the groups are dealt to the uses in rising order (log 77). -/
def groupInit (n g : Nat) : Cls := if tagGroups n ≤ g ∧ g < tagGroups n + metaGroups n then .denim else .voile

/-- Width of a slot group (R55). -/
def Blk.groupCls (b : Blk) (g : Nat) : Cls := (b.twill.wide.find g).getD (groupInit b.dieCount g)

/-- A number names a slot: its group exists and has so many slots (R55). -/
def Blk.isSlot (b : Blk) (slot : Nat) : Bool := decide (slot / 18 < slotGroups b.dieCount) && decide (slot % 18 < slotsOfGroup (b.groupCls (slot / 18)))

/-- Use of a slot after the first provisioning (R435, log 77). -/
def slotInit (n slot : Nat) : SlotUse :=
  let t := tagGroups n
  let m := metaGroups n
  let g := slot / 18
  if g < t then (if slot < tagSlots n then .tag else .free)
  else if g < t + m then (if (g - t) * 17 + slot % 18 < metaSlots n then .metadata else .free)
  else if slot < 18 * (t + m) + 1024 then .hotPool else .free

/-- A slot's state. -/
def Blk.slotSt (b : Blk) (slot : Nat) : SlotSt := (b.twill.slots.find slot).getD { use := slotInit b.dieCount slot }

/-- What a slot is used for (R55). -/
def Blk.slotUse (b : Blk) (slot : Nat) : SlotUse := (b.slotSt slot).use

/-- WEAR of a slot that no region maps, in units of 65,536 line writes. -/
def Blk.slotWear (b : Blk) (slot : Nat) : Nat := (b.slotSt slot).wear.toNat

/-- Width of a slot's group. -/
def Blk.slotCls (b : Blk) (slot : Nat) : Cls := b.groupCls (slot / 18)

/-- The slot is free, and so counts with its positions in F (R435). -/
def Blk.isFree (b : Blk) (slot : Nat) : Bool := b.slotUse slot == .free

/-- A slot's state changes; F follows its use (R435). -/
def Blk.setSlot (b : Blk) (slot : Nat) (x : SlotSt) : Blk :=
  let w := widthOf (b.slotCls slot)
  let was := b.isFree slot
  b.onTwill fun t => { t with slots := t.slots.put slot x, freePos := if was && x.use != .free then t.freePos - w else if !was && x.use == .free then t.freePos + w else t.freePos }

/-- Free slots of a width, with their WEAR: the free-slot ledger, whose least-worn part the heap in SRAM holds (R54). -/
def Blk.freeSlots (b : Blk) (c : Cls) : List (Nat × Nat) :=
  ((List.range (slotsV b.dieCount)).filter fun n => b.isSlot n && b.slotCls n == c && b.isFree n).map fun n => (n, b.slotWear n)

/-- Groups of a width all of whose slots are free: their width may change (R55). -/
def Blk.freeGroups (b : Blk) (c : Cls) : List Nat :=
  (List.range (slotGroups b.dieCount)).filter fun g => b.groupCls g == c && (List.range (slotsOfGroup c)).all fun i => b.isFree (18 * g + i)

/-- Element `i mod length` of a list. -/
def pickOf (l : List Nat) (i : Nat) : Option Nat := if l.length = 0 then none else l[i % l.length]?

/-- Of some slots those whose WEAR no other one goes below, or, most worn, above. -/
def extreme (most : Bool) (l : List (Nat × Nat)) : List (Nat × Nat) := match l with
  | [] => []
  | x :: rest =>
    let best := rest.foldl (fun w y => if most then max w y.2 else min w y.2) x.2
    l.filter fun y => y.2 == best

/-- The other class. -/
def otherCls : Cls → Cls
  | .voile => .denim
  | .denim => .voile

/-- A group changes its width: its slots are free as before, and each takes the highest WEAR that a slot of the group had (R55, log 77). -/
def Blk.changeWidth (b : Blk) (g : Nat) (c : Cls) : Blk :=
  let wear := (List.range 18).foldl (fun m i => max m (b.slotSt (18 * g + i)).wear.toNat) 0
  b.onTwill fun t => { t with
    wide := t.wide.put g c
    slots := (List.range 18).foldl (fun m i => m.put (18 * g + i) { use := SlotUse.free, wear := BitVec.ofNat 18 wear }) t.slots }

/-- A free slot of a width is made available where none is: a free group changes to it (R55). -/
def Blk.widen (b : Blk) (c : Cls) : Blk :=
  if (b.freeSlots c).isEmpty then match pickOf (b.freeGroups (otherCls c)) b.freeNum with
    | some g => b.useFree.changeWidth g c
    | none => b
  else b

/-- The least-worn free slot of a width with its WEAR; among equals the spec leaves the choice open (log 4). -/
def Blk.leastFree (b : Blk) (c : Cls) : Option (Nat × Nat) :=
  let l := extreme false (b.freeSlots c)
  (pickOf (l.map Prod.fst) b.freeNum).map fun n => (n, b.slotWear n)

/-! ### Members of a slot (R28, R29, R55) -/

/-- The channels of a slot group's positions, newest first: each is taken among those that the last 17 positions have not, so that any 18 positions in a row lie on different channels (R28, R55). -/
def channelRun (pick : Nat → Nat) : Nat → List Nat
  | 0 => []
  | n + 1 =>
    let l := channelRun pick n
    let rest := (List.range 32).filter fun c => !(l.take 17).contains c
    rest.getD (pick n % max 1 rest.length) 0 :: l

/-- Product in GF(2^5) modulo x^5 + x^2 + 1. -/
def gf32Mul : Nat → Nat → Nat → Nat
  | 0, _, _ => 0
  | n + 1, x, y => (if y.testBit 0 then x else 0) ^^^ gf32Mul n (if x.testBit 4 then (2 * x) ^^^ 0x25 else 2 * x) (y / 2)

/-- Position j of group g under the affine maps of GF(2^5), which carry every pair of channels to every other equally often. -/
def affineChannel (g j : Nat) : Nat := gf32Mul 5 (1 + g % 31) (j % 32) ^^^ (g / 31 % 32)

/-- Pairs of channels that the slots of some groups contain, each counted once for each slot: Voile slots, as all but the metadata area's groups are provisioned. -/
def pairCount (chan : Nat → Nat → Nat) (groups a c : Nat) : Nat :=
  (List.range groups).foldl (fun n g => (List.range 18).foldl (fun n i =>
    let l := (List.range 17).map fun m => chan g (17 * i + m)
    if l.contains a && l.contains c then n + 1 else n) n) 0

/-- Over all slots, every pair of channels is contained in a number of slots within 1 % of the mean over all 496 pairs (R29). -/
def balanced (chan : Nat → Nat → Nat) (groups : Nat) : Bool :=
  let pairs := (List.range 32).flatMap fun a => (List.range a).map fun c => (a, c)
  let total := (pairs.map fun p => pairCount chan groups p.1 p.2).sum
  pairs.all fun p =>
    let n := 49600 * pairCount chan groups p.1 p.2
    decide (99 * total ≤ n) && decide (n ≤ 101 * total)

/-- The device's own pattern. -/
def ownChannel (g j : Nat) : Nat := ((channelRun (Config.pickChannel g) 306).reverse).getD j 0

/-- Channel of position j of slot group g under the declustering pattern (R29, R55): the device's own pattern, which keeps R29's balance; one that did not would stand for the affine one (log 78). -/
def groupChannel (n g j : Nat) : Nat := if balanced ownChannel (slotGroups n) then ownChannel g j else affineChannel g j

/-- Number of dies for which the pattern in use was made (R29). -/
def Blk.patternDies (b : Blk) : Nat := b.media.pattern.getD b.dieCount

/-- Member channels of a slot in the order of its record: the positions w * i to w * i + w - 1 of its group (R28, R55). -/
def Blk.memberChannels (b : Blk) (slot w : Nat) : List Nat := (List.range w).map fun m => groupChannel b.patternDies (slot / 18) (w * (slot % 18) + m)

/-- Die d = 8 * channel + die of member m of a slot, after die substitution (R29, R55). -/
def Blk.memberDie (b : Blk) (slot w m : Nat) : Nat :=
  match b.safety.subst.find (slot * 18 + m) with
  | some d => d
  | none =>
    let j := w * (slot % 18) + m
    8 * groupChannel b.patternDies (slot / 18) j + (if b.media.perChan = 0 then 0 else Config.pickDie (slot / 18) j % b.media.perChan)

/-- Member that holds parity line i of stripe s (R28). -/
def parityMember (c : Cls) (s i : Nat) : Nat :=
  match c with
  | .voile => s % 17
  | .denim => (s + i) % 18

/-- Member that holds data position p of stripe s (R28). -/
def dataMember (c : Cls) (s p : Nat) : Nat :=
  match c with
  | .voile => (s + 1 + p) % 17
  | .denim => (s + 2 + p) % 18

/-- Partition of tile row t of a slot (R28). -/
def partitionOf (slot t : Nat) : Nat := (slot + 2 * t) % 32

/-- Partition number (ch * 8 + die) * 32 + part. -/
def partId (d part : Nat) : Nat := d * 32 + part

/-- A partition number as channel, die and partition. -/
def partOf (ch : Fin 32) (die : Fin 8) (part : Fin 32) : Nat := partId (8 * ch.val + die.val) part.val

/-- Location of a line: partition number and line number within the partition. -/
def locOf (pid line : Nat) : Nat := pid * 2 ^ 23 + line

/-- Partition number of a location. -/
def pidOf (loc : Nat) : Nat := loc / 2 ^ 23

/-- Die of a location. -/
def dieOfLoc (loc : Nat) : Nat := pidOf loc / 32

/-- Location of the line that member m holds of stripe s of a slot (R28). -/
def Blk.memberLine (b : Blk) (c : Cls) (slot s m : Nat) : Nat :=
  let d := b.memberDie slot (widthOf c) m
  let t := s / 64
  locOf (partId d (partitionOf slot t)) (Config.pickTile slot m t % 131072 * 64 + s % 64)

/-- The stripe member whose line lies at a location; none where no slot has one. -/
def Blk.memAt (b : Blk) (loc : Nat) : Option Mem :=
  ((List.range (slotsV b.dieCount)).filter b.isSlot).findSome? fun slot => (List.range 1024).findSome? fun s =>
    let c := b.slotCls slot
    ((List.range (widthOf c)).find? fun m => b.memberLine c slot s m == loc).map fun m => { cls := c, slot := slot, stripe := s, m := m }

/-- Location of data position p of stripe s of a slot: `slot_line` of R57. -/
def Blk.slotLine (b : Blk) (c : Cls) (slot s p : Nat) : Nat := b.memberLine c slot s (dataMember c s p)

/-! ### The region map (R52) -/

/-- The Dynamic Capacity region that a region index lies in. -/
def Blk.rgnOf (b : Blk) (r : Nat) : Option Rgn := b.dev.rgns.find? fun g => decide (g.base ≤ r * 2097152) && decide (r * 2097152 < g.base + g.length)

/-- The region map entry of a region index; none where VALID is clear (R52). -/
def Blk.regionEntry (b : Blk) (r : Nat) : Option RegionEntry := b.twill.regions.find r

/-- Writes a region map entry. -/
def Blk.putRegion (b : Blk) (r : Nat) (e : RegionEntry) : Blk := b.onTwill fun t => { t with regions := t.regions.put r e }

/-- Region map entries with VALID set, OD 0x4000.01. -/
def Blk.regionsMapped (b : Blk) : Nat := b.twill.regions.length

/-! ### The hot-line table (R56) -/

/-- Set of a line in the hot-line table. -/
def Blk.hotSet (b : Blk) (li : Nat) : Nat := fld (Config.hotHash b.key (BitVec.ofNat 36 li)).toNat 0 19

/-- Tag of a line in the hot-line table. -/
def Blk.hotTag (b : Blk) (li : Nat) : BitVec 17 := BitVec.ofNat 17 (fld (Config.hotHash b.key (BitVec.ofNat 36 li)).toNat 19 17)

/-- The valid ways of a set: way number and entry, rising. -/
def Blk.hotWays (b : Blk) (set : Nat) : List (Nat × HotEntry) :=
  (List.range 8).filterMap fun w => (b.twill.hot.find (set * 8 + w)).map fun e => (w, e)

/-- `hot_find` of R57: the table key and the entry of a line. -/
def Blk.hotFind (b : Blk) (li : Nat) : Option (Nat × HotEntry) :=
  let set := b.hotSet li
  let tag := b.hotTag li
  ((b.hotWays set).find? fun p => p.2.tag == tag).map fun p => (set * 8 + p.1, p.2)

/-- A way of the line's set that is not valid and not kept for another candidate, lowest number first (R65). -/
def Blk.hotFree (b : Blk) (li : Nat) : Option Nat :=
  let set := b.hotSet li
  let free (w : Nat) : Bool := (b.twill.hot.find (set * 8 + w)).isNone && (match b.twill.reserve.find (set * 8 + w) with
    | some c => c == li
    | none => true)
  ((List.range 8).find? free).map fun w => set * 8 + w

/-- Writes a hot-line table entry. -/
def Blk.putHot (b : Blk) (key : Nat) (e : HotEntry) : Blk := b.onTwill fun t => { t with hot := t.hot.put key e }

/-- Clears a hot-line table entry. -/
def Blk.clearHot (b : Blk) (key : Nat) : Blk := b.onTwill fun t => { t with hot := t.hot.del key }

/-! ### Lookup (R57, R70) -/

/-- `rotation_adjust` of R70 for a pass with cursor c; none stands for the park stripe. -/
def rotationAdjust (r : Rotation) (q : Nat) : Option Nat :=
  if q = 1023 then none else if r.cursor < (q : Int) then some (q + 1) else some q

/-- Where a line is: its class, slot, stripe and position; the park stripe of a rotation pass has slot `none`. -/
structure Place where
  cls    : Cls
  slot   : Nat
  stripe : Nat
  pos    : Nat
  hot    : Bool
  loc    : Nat
  deriving DecidableEq, Repr

/-- Slot and stripe of a park stripe: the metadata area's slots from the third hold them, one stripe for each region index (R69, log 77). -/
def parkAt (n k : Nat) : Nat × Nat := (metaSlot n (2 + k / 1024), k % 1024)

/-- The home place of a line of a region entry (R57, R70). -/
def Blk.homePlace (b : Blk) (r li : Nat) (e : RegionEntry) : Place :=
  let y := interleave (li &&& 0x3FFF) b.key
  let q := ((y >>> 4) + e.rot.toNat) &&& 0x3FF
  let p := y &&& 0xF
  let at_ (c : Cls) (slot s : Nat) : Place := { cls := c, slot := slot, stripe := s, pos := p, hot := false, loc := b.slotLine c slot s p }
  if e.rotp then
    match b.twill.rot.find r with
    | some pass => match rotationAdjust pass q with
      | some q' => at_ e.cls e.slot.toNat q'
      | none => at_ .denim (parkAt b.dieCount pass.park).1 (parkAt b.dieCount pass.park).2
    | none => at_ e.cls e.slot.toNat q
  else at_ e.cls e.slot.toNat q

/-- `lookup` of R57: the line's current place, none when its region has no valid entry and it has no hot copy. -/
def Blk.lookup (b : Blk) (li : Nat) : Option Place :=
  let r := regionOfLine li
  match b.hotFind li, b.regionEntry r with
  | some (_, h), e =>
    let c := (e.map RegionEntry.cls).getD .voile
    some { cls := c, slot := h.hslot.toNat, stripe := h.stripe.toNat, pos := h.pos.toNat, hot := true, loc := b.slotLine c h.hslot.toNat h.stripe.toNat h.pos.toNat }
  | none, some e => some (b.homePlace r li e)
  | none, none => none

/-- Class of a line's region; Voile for an unmapped one. -/
def Blk.classOf (b : Blk) (li : Nat) : Cls := ((b.regionEntry (regionOfLine li)).map RegionEntry.cls).getD .voile

/-- Lock number of a stripe. -/
def stripeId (slot s : Nat) : Nat := slot * 1024 + s

/-- Location of a stripe member. -/
def Blk.memLoc (b : Blk) (x : Mem) : Nat := b.memberLine x.cls x.slot x.stripe x.m

/-- The member that holds a place's line. -/
def Place.mem (p : Place) : Mem := { cls := p.cls, slot := p.slot, stripe := p.stripe, m := dataMember p.cls p.stripe p.pos }

/-- The member that holds parity line i of a place's stripe. -/
def Place.parity (p : Place) (i : Nat) : Mem := { p.mem with m := parityMember p.cls p.stripe i }

/-- Parity lines of a class. -/
def parities (c : Cls) : Nat := widthOf c - 16

/-- Every member of a stripe. -/
def stripeMems (c : Cls) (slot s : Nat) : List Mem := (List.range (widthOf c)).map fun m => { cls := c, slot := slot, stripe := s, m := m }

/-- Data position that a member holds; none for a parity member (R28). -/
def Mem.pos (x : Mem) : Option Nat := (List.range 16).find? fun p => dataMember x.cls x.stripe p == x.m

/-- Parity line that a member holds. -/
def Mem.par (x : Mem) : Nat := if parityMember x.cls x.stripe 0 = x.m then 0 else 1

/-- Lock of a member's stripe. -/
def Mem.lock (x : Mem) : Nat := stripeId x.slot x.stripe

/-- Two members of one stripe. -/
def Mem.beside (x y : Mem) : Bool := x.slot == y.slot && x.stripe == y.stripe

/-- Locations of the members of a line's stripe but the line's own. -/
def Blk.peers (b : Blk) (p : Place) : List Nat :=
  ((List.range (widthOf p.cls)).filter fun m => m != dataMember p.cls p.stripe p.pos).map fun m => b.memberLine p.cls p.slot p.stripe m

/-- Locations of the parity lines of a stripe. -/
def Blk.parityLines (b : Blk) (c : Cls) (slot s : Nat) : List Nat :=
  (List.range (widthOf c - 16)).map fun i => b.memberLine c slot s (parityMember c s i)

/-! ### Wear (R68, R71, R76) -/

/-- Estimated location wear L of a slot by its use, its width and its WEAR, in 1/153 cycles, in which every factor of R68's table is whole: 32, 65,536 / 3,072, 65,536 / 17,408 and 65,536 / 18,432 cycles for a unit of WEAR. A free slot's L is that of a region slot of its width. -/
def wearL (u : SlotUse) (c : Cls) (wear : Nat) : Nat :=
  match u, c with
  | .metadata, _ => 544 * wear
  | .tag, _ => 4896 * wear
  | .hotPool, .voile => 576 * wear
  | .hotPool, .denim => 544 * wear
  | _, .voile => 4896 * wear
  | _, .denim => 3264 * wear

/-- A number of cycles in 1/153 cycles. -/
def cycles (n : Nat) : Nat := 153 * n

/-- Retirement ceiling of L (R68). -/
def wearCeiling : Nat := cycles 1440000

/-- Translation regions with a valid entry, by index. -/
def Blk.regionList (b : Blk) : List (Nat × RegionEntry) := b.twill.regions

/-- The region whose entry names a slot. -/
def Blk.regionAt (b : Blk) (slot : Nat) : Option (Nat × RegionEntry) := b.regionList.find? fun e => e.2.slot.toNat == slot

/-- L of a region's slot, 1/153 cycles: WEAR stands in its entry (R54). -/
def RegionEntry.l (e : RegionEntry) : Nat := wearL .region e.cls e.wear.toNat

/-- L of a slot, 1/153 cycles. -/
def Blk.slotL (b : Blk) (slot : Nat) : Nat := match b.regionAt slot with
  | some (_, e) => e.l
  | none => wearL (b.slotUse slot) (b.slotCls slot) (b.slotWear slot)

/-- Sum of L over the slots that are not retired: the mapped ones, and those of the slot table that no region maps; a slot that neither lists has no wear. -/
def Blk.wearSum (b : Blk) : Nat :=
  (b.regionList.map fun e => e.2.l).sum + ((b.twill.slots.filter fun e => e.2.use != .retired && (b.regionAt e.1).isNone).map fun e => wearL e.2.use (b.slotCls e.1) e.2.wear.toNat).sum

/-- Denim groups. -/
def Blk.denimGroups (b : Blk) : Nat :=
  metaGroups b.dieCount + (b.twill.wide.filter fun e => e.2 == .denim && groupInit b.dieCount e.1 == .voile).length - (b.twill.wide.filter fun e => e.2 == .voile && groupInit b.dieCount e.1 == .denim).length

/-- Slots that are not retired. -/
def Blk.wearNum (b : Blk) : Nat := 18 * slotGroups b.dieCount - b.denimGroups - b.twill.retired

/-- Mean L of the slots that are not retired, whole cycles (R71, OD 0x4030.01). -/
def Blk.meanWear (b : Blk) : Nat := b.wearSum / (153 * b.wearNum)

/-- Media wear reserve, per cent, 100 (1 - mean L / 1,440,000) rounded down (R76). -/
def Blk.wearReserve (b : Blk) : Nat :=
  if b.wearNum = 0 then 100 else 100 * (wearCeiling * b.wearNum - b.wearSum) / (wearCeiling * b.wearNum)

/-- Highest L of the slots that are not retired, whole cycles (OD 0x4030.02). -/
def Blk.topWear (b : Blk) : Nat :=
  ((b.regionList.map fun e => e.2.l) ++ (b.twill.slots.filter fun e => e.2.use != .retired && (b.regionAt e.1).isNone).map fun e => wearL e.2.use (b.slotCls e.1) e.2.wear.toNat).foldl max 0 / 153

/-- Spare pool remaining, per cent (R76). -/
def Blk.spareLeft (b : Blk) : Nat :=
  let r := spareReserve b.dieCount
  if b.spare ≤ r then 0 else min 100 (100 * (b.spare - r) / (b.twill.s0 - r))

/-- Highest page write count in use (R376). -/
def Felt.maxWear (f : Felt) : Nat := f.wear.foldl (fun m e => max m e.2) 0

/-- The Felt endurance component, floor(100 (P + 1 - w) / 341) with w the highest count over 950,000 (R376). -/
def Felt.endurance (f : Felt) : Nat := (100 * ((f.spares + 1) * 950000 - f.maxWear)) / (341 * 950000)

/-- Life, per cent (R76). Before the first provisioning only Felt has wear. -/
def Blk.life (b : Blk) : Nat :=
  if b.twill.s0 = 0 then b.felt.endurance else min b.felt.endurance (min b.wearReserve b.spareLeft)

/-! ### Health (R222) -/

/-- Persistence mode, the majority of the voted copies (R145, R304). -/
def Blk.persistence (b : Blk) : Nat := (majority b.velvet.mode).getD 2

/-- Health Status: bit 0 maintenance needed, bit 1 performance degraded, bit 2 hardware replacement needed (R222). -/
def Blk.healthStatus (b : Blk) : Nat :=
  let starved := b.media.lapV.starved || b.media.lapD.starved || b.media.lapS.starved
  b2n (decide (b.life ≤ 10) || starved)
    + 2 * b2n (b.holds 7 || b.holds 8 || decide (0 < b.persistence))
    + 4 * b2n (decide (b.life ≤ 5) || b.holds 9 || b.holds 11 || b.canvas.health == 2)

/-- A change of the health status raises event 0x1108 (R227, R372), from Memory Active on. -/
def Blk.healthCheck (b : Blk) : Blk :=
  let n := b.healthStatus
  if n = b.dev.health then b
  else
    let b1 := b.onDev fun d => { d with health := n }
    if b.memoryActive then b1.report { code := 0x1108 } else b1

/-- Life warnings as life falls to 10 % and to 5 % (R76), and M9: entered when S falls to the reserve, left at twice the reserve (R77). -/
def Blk.lifeCheck (b : Blk) : Blk :=
  let low10 := decide (b.life ≤ 10)
  let low5 := decide (b.life ≤ 5)
  let b0 := b.onTwill fun t => { t with life10 := low10, life5 := low5 }
  let b1 := if low10 && !b.twill.life10 then b0.report { code := 0x4003 } else b0
  let b2 := if low5 && !b.twill.life5 then b1.report { code := 0x4004 } else b1
  let r := spareReserve b.dieCount
  let b3 :=
    if b.twill.s0 = 0 then b2
    else if !b2.holds 9 && b2.memoryActive && decide (b2.spare ≤ r) then b2.enter 9
    else if b2.holds 9 && decide (2 * r ≤ b2.spare) then b2.leave 9 else b2
  b3.healthCheck

/-! ### Partitions -/

/-- State of a partition. -/
def Blk.part (b : Blk) (pid : Nat) : PartSt := b.media.parts.getD pid {}

/-- Changes a partition. -/
def Blk.onPart (b : Blk) (pid : Nat) (f : PartSt → PartSt) : Blk :=
  b.onMedia fun m => { m with parts := m.parts.set {} pid (f (m.parts.getD pid {})) }

/-- A channel whose engine is in takeover or that trains or retrains (R14, R202). -/
def Blk.chanHeld (b : Blk) (c : Nat) : Bool :=
  (b.engine c).by_.isSome || (b.chan c).state == 4 || (b.chan c).state == 1

/-- The die or its channel has failed. -/
def Blk.dieFailed (b : Blk) (d : Nat) : Bool := (b.die d).state == 3 || (b.chan (d / 8)).state == 6 || (b.chan (d / 8)).retired

/-- A location's line is gone for good: its die or channel has failed, or the die there has been replaced and does not hold it yet (R407). -/
def Blk.lineGone (b : Blk) (loc : Nat) : Bool := b.dieFailed (dieOfLoc loc) || b.media.gone.contains loc

/-- A location gives nothing back: its die or channel has failed or the die has been replaced, its engine is in takeover or its channel trains, it is retired (R434), or it was written degraded and has not been written again (R14). -/
def Blk.locLost (b : Blk) (loc : Nat) : Bool :=
  b.lineGone loc || b.chanHeld (pidOf loc / 256) || b.media.retired.has loc || b.media.owed.any fun x => b.memLoc x == loc

/-- A tile reset runs on the partition. -/
def PartSt.resetting (p : PartSt) : Bool :=
  match p.op with
  | .reset _ _ _ => true
  | _ => false

/-- A partition that counts as busy for its stripes (R42): in tile reset, of a failed die, or of a channel in takeover. -/
def Blk.busy (b : Blk) (pid : Nat) : Bool :=
  (b.part pid).resetting || b.dieFailed (pid / 32) || b.chanHeld (pid / 256)

end Sys2Proof.Machine
end

