-- ==== Sys2Proof/Machine/Crypto.lean ====
section
/-! DEFINITION. Damask's shared operations: keys and epochs (R238), counter blocks (R239), encryption and tags (R240, R258), tag lines and the tag cache (R242, R244, R247), line metadata (R24) and stripe parity (R27). -/

namespace Sys2Proof.Machine

/-! ### Keys -/

/-- Key epoch {media generation, EPOCH} (R238). -/
def Blk.epoch16 (b : Blk) (e : BitVec 8) : BitVec 16 := b.damask.gen ++ e

/-- Master key in use; 0 while the device holds none. -/
def Blk.masterKey (b : Blk) : BitVec 256 := b.damask.mkey.getD 0

/-- Data key of an epoch (R238). -/
def Blk.dataKey (b : Blk) (e : BitVec 8) : BitVec 256 := Config.kdf b.masterKey 0 (b.epoch16 e)

/-- Tag key of an epoch (R238). -/
def Blk.tagKey (b : Blk) (e : BitVec 8) : BitVec 256 := Config.kdf b.masterKey 1 (b.epoch16 e)

/-- Binding check value of a master key, first 8 B of AES-256(KB, 0) (R238, R253). -/
def bindingCheck (mkey : BitVec 256) : BitVec 64 := (Config.aes256 (Config.kdf mkey 2 0) 0).setWidth 64

/-- Check value of a KEK, first 8 B of AES-256(KEK, 0) (R250). -/
def kekCheck (kek : BitVec 256) : BitVec 64 := (Config.aes256 kek 0).setWidth 64

/-- The voted Damask enable of unit u (R258, R304). -/
def Blk.unitEnabled (b : Blk) (u : Nat) : Bool :=
  let c := (b.damask.enable.getD u [true, true, true]).map b2n
  majority c == some 1

/-- Encryption is in effect for the unit that serves a channel: unit u serves J(8u) to J(8u + 7) (R241). -/
def Blk.encrypts (b : Blk) (ch : Nat) : Bool := b.unitEnabled (ch / 8)

/-! ### Counter blocks (R239) -/

/-- How a line is encrypted: cold under MAJOR and MINOR of its tag line's EPOCH, or hot under its write sequence. -/
inductive Nonce where
  | cold (epoch : BitVec 8) (major : BitVec 24) (minor : BitVec 6)
  | hot  (wseq : BitVec 64)
  deriving DecidableEq, Repr

/-- Epoch of a nonce; a hot copy uses EPOCH 0. -/
def nonceEpoch : Nonce → BitVec 8
  | .cold e _ _ => e
  | .hot _ => 0

/-- The counter block of a line with BLOCK j. -/
def counterBlock (n : Nonce) (li : BitVec 36) (j : BitVec 4) : BitVec 128 :=
  match n with
  | .cold _ major minor => (0 : BitVec 2) ++ li ++ major ++ minor ++ (0 : BitVec 34) ++ (0 : BitVec 22) ++ j
  | .hot w => (1 : BitVec 2) ++ li ++ w.extractLsb' 40 24 ++ w.extractLsb' 34 6 ++ w.extractLsb' 0 34 ++ (0 : BitVec 22) ++ j

/-- Keystream of a line: block j is AES-256(KD, CB with BLOCK = j + 1) (R240). -/
def Blk.keystream (b : Blk) (n : Nonce) (li : BitVec 36) : Line :=
  let kd := b.dataKey (nonceEpoch n)
  let blk (j : Nat) : Line := (Config.aes256 kd (counterBlock n li (BitVec.ofNat 4 (j + 1)))).setWidth 1024 <<< (128 * j)
  (List.range 8).foldl (fun acc j => acc ||| blk j) 0

/-- Encryption, and decryption, of a line for a channel: the keystream is zero while encryption is disabled (R240, R258). -/
def Blk.crypt (b : Blk) (ch : Nat) (n : Nonce) (li : BitVec 36) (x : Line) : Line :=
  if b.encrypts ch then x ^^^ b.keystream n li else x

/-- Tag of a line's ciphertext (R240). -/
def Blk.tagOf (b : Blk) (n : Nonce) (li : BitVec 36) (cipher : Line) : BitVec 56 :=
  let kt := b.tagKey (nonceEpoch n)
  (Config.ghash (Config.aes256 kt 0) cipher (counterBlock n li 0xF) ^^^ Config.aes256 kt (counterBlock n li 0)).extractLsb' 72 56

/-! ### Tag lines (R242, R247) -/

/-- Tag line index of a line. -/
def tagIdx (li : Nat) : Nat := li / 16

/-- The 128 B of a tag line: EPOCH, MAJOR, MINOR of line 15 down to line 0, TAG of line 15 down to line 0. -/
def TagLine.bits (t : TagLine) : Line :=
  let minors : Nat := (List.range 16).foldl (fun n i => n + ((t.minor.getD i 0).toNat <<< (6 * i))) 0
  let tags : Nat := (List.range 16).foldl (fun n i => n + ((t.tags.getD i 0).toNat <<< (56 * i))) 0
  t.epoch ++ t.major ++ BitVec.ofNat 96 minors ++ BitVec.ofNat 896 tags

/-- The tag line that 128 B spell. -/
def tagLineOf (x : Line) : TagLine :=
  { epoch := x.extractLsb' 1016 8, major := x.extractLsb' 992 24,
    minor := (List.range 16).map fun i => x.extractLsb' (896 + 6 * i) 6, tags := (List.range 16).map fun i => x.extractLsb' (56 * i) 56 }

/-- The place of a tag line on the media: the tag region's slots hold them in order (R242, R435, log 77). -/
def Blk.tagPlace (b : Blk) (ti : Nat) : Place :=
  let slot := ti / 16384
  let s := ti % 16384 / 16
  { cls := .voile, slot := slot, stripe := s, pos := ti % 16, hot := false, loc := b.slotLine .voile slot s (ti % 16) }

/-! ### Metadata (R24) -/

/-- Metadata of a region slot's data line. -/
def homeMd (li : Nat) : BitVec 40 := BitVec.ofNat 40 li

/-- Metadata of a hot-pool data line: DPA line index [35:32] in [39:36], [31:0] in [35:4], position in [3:0]. -/
def hotMd (li pos : Nat) : BitVec 40 := BitVec.ofNat 40 (fld li 32 4 <<< 36 ||| fld li 0 32 <<< 4 ||| pos % 16)

/-- Metadata of a region slot's parity line: parity index and the line index at position 0. -/
def homeParityMd (i li0 : Nat) : BitVec 40 := BitVec.ofNat 40 (i <<< 36 ||| li0)

/-- Metadata of a hot-pool parity line: parity index and the low 36 bits of the stripe sequence. -/
def hotParityMd (i seq : Nat) : BitVec 40 := BitVec.ofNat 40 (i <<< 36 ||| fld seq 0 36)

/-- Metadata of a tag line and of its stripe's parity line: the tag line index, of the parity line that at position 0 (R24 states the former only, log 81). -/
def tagMd (ti : Nat) : BitVec 40 := BitVec.ofNat 40 (fld ti 0 36)

/-- Write sequence of a hot line (R24, R239). -/
def writeSeq (base stripe pos : Nat) : BitVec 64 := BitVec.ofNat 64 ((base + stripe % 64) * 16 + pos)

/-! ### Parity (R27) -/

/-- Product in GF(2^8) with the field's reduction polynomial left open (Config.stripePoly, log 14): eight steps of shift and add. -/
def gfMul : Nat → BitVec 8 → BitVec 8 → BitVec 8
  | 0, _, _ => 0
  | n + 1, x, y =>
    (if y.getLsbD 0 then x else 0) ^^^ gfMul n ((x <<< 1) ^^^ (if x.getLsbD 7 then Config.stripePoly else 0)) (y >>> 1)

/-- The p-th power of the generator 0x02. -/
def gfPow2 : Nat → BitVec 8
  | 0 => 1
  | n + 1 => gfMul 8 2 (gfPow2 n)

/-- The inverse in GF(2^8): the 254th power. -/
def gfInv (x : BitVec 8) : BitVec 8 := (List.range 253).foldl (fun a _ => gfMul 8 a x) x

/-- A line multiplied byte by byte. -/
def gfLine (c : BitVec 8) (x : Line) : Line :=
  packBytes 1024 ((leBytes 128 x.toNat).map fun y => gfMul 8 c y)

/-- Contribution of data position p with content x to parity line i of a stripe: itself for the XOR, times 0x02^p for the second; R27 gives the generator and not the power, p being this model's (DESIGN CHOICE, log 14). -/
def parityTerm (i p : Nat) (x : Line) : Line := if i = 0 then x else gfLine (gfPow2 p) x

/-- Parity line i over data contents by position. -/
def parityOver (i : Nat) (xs : List Line) : Line := (xs.zipIdx.map fun q => parityTerm i q.2 q.1).foldl (fun a x => a ^^^ x) 0

/-! ### Lines on the media -/

/-- A program or overwrite of a location that waits for its partition, the newest one. -/
def Blk.waiting (b : Blk) (loc : Nat) : Option Pend := (b.media.pend.filter fun x => x.loc == loc).getLast?

/-- Content of a location as a stripe counts it: of a line whose program or overwrite is not over, the content being written (R193); zeros where it is blank. -/
def Blk.stored (b : Blk) (loc : Nat) : Line :=
  let written : Line := ((b.media.lines.find loc).map MLine.data).getD 0
  match b.waiting loc, (b.part (pidOf loc)).op with
  | some x, _ => x.c.data
  | none, .program line c _ _ _ _ => if locOf (pidOf loc) line = loc then c.data else written
  | none, _ => written

/-- A location is blank, and nothing is being written there. -/
def Blk.blankAt (b : Blk) (loc : Nat) : Bool :=
  (b.media.lines.find loc).isNone && (b.waiting loc).isNone && (match (b.part (pidOf loc)).op with
    | .program line _ _ _ _ _ => locOf (pidOf loc) line != loc
    | _ => true)

/-- A line that is being programmed, or whose program waits, is taken from its buffer and not read (R193). -/
def Blk.underProgram (b : Blk) (loc : Nat) : Bool :=
  (b.waiting loc).isSome || (match (b.part (pidOf loc)).op with
    | .program line _ _ _ _ _ => locOf (pidOf loc) line == loc
    | _ => false)

/-! ### Tag lines in the cache and on the media -/

/-- A tag line on the media; a blank one reads as zero. -/
def Blk.mediaTag (b : Blk) (ti : Nat) : TagLine := if b.blankAt (b.tagPlace ti).loc then {} else tagLineOf (b.stored (b.tagPlace ti).loc)

/-- A tag line as the device sees it: the cache's copy, else the one on media. -/
def Blk.tagLine (b : Blk) (ti : Nat) : TagLine := (b.damask.tagDirty.find ti).getD (b.mediaTag ti)

/-- MINOR of line i of a tag line. -/
def TagLine.minorAt (t : TagLine) (i : Nat) : BitVec 6 := t.minor.getD i 0

/-- TAG of line i of a tag line. -/
def TagLine.tagAt (t : TagLine) (i : Nat) : BitVec 56 := t.tags.getD i 0

/-- A tag line with a new MINOR and TAG of line i. -/
def TagLine.put (t : TagLine) (i : Nat) (minor : BitVec 6) (tag : BitVec 56) : TagLine :=
  { t with minor := t.minor.set i minor, tags := t.tags.set i tag }

/-- A tag line changes in the tag cache: dirty, most recently used (R244, R247). -/
def Blk.putTag (b : Blk) (ti : Nat) (t : TagLine) : Blk :=
  b.onDamask fun d => { d with tagDirty := d.tagDirty.put ti t, dirtyTags := d.dirtyTags.filter (fun x => x != ti) ++ [ti] }

/-- A tag line stands on the media as the cache holds it, and is clean (R247). -/
def Blk.cleanTag (b : Blk) (ti : Nat) : Blk :=
  b.onDamask fun d => { d with tagDirty := d.tagDirty.del ti, dirtyTags := d.dirtyTags.filter fun x => x != ti }

/-- Ways of a set of the tag cache in the order of its tree word, with the tag line each holds. -/
def Blk.tagRank (b : Blk) (set : Nat) : List (Nat × Option Nat) :=
  (plruOrder (b.damask.tagPlru.getD set 0)).map fun w => (w, b.damask.tagWays.find (set * 16 + w))

/-- The bank that serves a set of the tag cache has failed with no spare left: banks 45 to 48 serve 1,024 sets each (R16, R410). -/
def Blk.tagSetLost (b : Blk) (set : Nat) : Bool :=
  let base := 45 + set / 1024
  (b.safety.banks.find base).any (fun x => x.state == 2) && !(b.safety.banks.any fun e => e.2.state == 0 && e.2.repl == base)

/-- A use of a tag line: in a set whose bank is lost it is read from media every time (R410); a hit makes its way most recently used; a miss counts in OD 0x6800.05 and Tweed and takes a free way, else the least recently used way whose tag line is clean (R247). -/
def Blk.useTag (b : Blk) (ti : Nat) : Blk :=
  let set := ti % 4096
  let touch (b : Blk) (w : Nat) : Blk := b.onDamask fun d => { d with tagPlru := d.tagPlru.set 0 set (plruTouch (d.tagPlru.getD set 0) w) }
  match (List.range 16).find? fun w => b.damask.tagWays.find (set * 16 + w) == some ti with
  | some w => touch b w
  | none =>
    let b1 := (b.bump 0x6800 0x05 1).tw 104 1
    let pick := if b.tagSetLost set then none else match (List.range 16).find? fun w => (b.damask.tagWays.find (set * 16 + w)).isNone with
      | some w => some w
      | none => ((b.tagRank set).find? fun p => match p.2 with
          | some t => !b.damask.tagDirty.has t
          | none => true).map Prod.fst
    match pick with
    | some w => touch (b1.onDamask fun d => { d with tagWays := d.tagWays.put (set * 16 + w) ti }) w
    | none => b1

/-- Writes a line to a location. -/
def Blk.storeLine (b : Blk) (loc : Nat) (x : MLine) : Blk := b.onMedia fun m => { m with lines := m.lines.put loc x }

/-- A location becomes blank. -/
def Blk.blankLine (b : Blk) (loc : Nat) : Blk := b.onMedia fun m => { m with lines := m.lines.del loc, gone := m.gone.filter fun x => x != loc }

/-- Plan base of a hot-pool tile row (R81). -/
def Blk.rowBase (b : Blk) (slot row : Nat) : Nat := (b.twill.rows.getD (slot * 16 + row) {}).base

/-- The nonce of a line at a place: cold under its tag line, hot under its write sequence (R239). -/
def Blk.nonceAt (b : Blk) (li : Nat) (p : Place) : Nonce :=
  if p.hot then .hot (writeSeq (b.rowBase p.slot (p.stripe / 64)) p.stripe p.pos)
  else
    let t := b.tagLine (tagIdx li)
    .cold t.epoch t.major (t.minorAt (li % 16))

/-- Metadata read from a stripe member is what its location lets expect (R24): in the hot pool a data line's position and a parity line's index and stripe sequence; in the tag region the tag line index; of a region's line, at its slot or at its park stripe, the line whose home that location is, and of a parity line the one at position 0. Of the metadata area's own records the spec names no further field to expect (log 81). -/
def Blk.mdFits (b : Blk) (x : Mem) (md : BitVec 40) : Bool :=
  let li := fld md.toNat 0 36
  let home (pos : Nat) : Bool := match b.regionEntry (regionOfLine li) with
    | some e =>
      let p := b.homePlace (regionOfLine li) li e
      p.slot == x.slot && p.stripe == x.stripe && p.pos == pos
    | none => false
  match b.slotUse x.slot, x.pos with
  | .hotPool, some p => fld md.toNat 0 4 == p
  | .hotPool, none => md == hotParityMd x.par (b.rowBase x.slot (x.stripe / 64) + x.stripe % 64)
  | .tag, some p => md == tagMd (x.slot * 16384 + x.stripe * 16 + p)
  | .tag, none => md == tagMd (x.slot * 16384 + x.stripe * 16)
  | .region, some p => fld md.toNat 36 4 == 0 && home p
  | .region, none => fld md.toNat 36 4 == x.par && home 0
  | _, _ => true

/-- Expected metadata of a data line at a place (R24). -/
def placeMd (li : Nat) (p : Place) : BitVec 40 := if p.hot then hotMd li p.pos else homeMd li

/-- A line that no write has reached since its region was added reads as zeros (R216, R243): MINOR 0 and no hot entry. -/
def Blk.unwritten (b : Blk) (li : Nat) : Bool :=
  (b.hotFind li).isNone && (b.tagLine (tagIdx li)).minorAt (li % 16) == 0

/-- Plaintext of ciphertext read for a line at a place, when its tag verifies (R98, R240). -/
def Blk.openLine (b : Blk) (li : Nat) (p : Place) (cipher : Line) : Option Line :=
  let n := b.nonceAt li p
  if b.tagOf n (BitVec.ofNat 36 li) cipher = (b.tagLine (tagIdx li)).tagAt (li % 16) then
    some (b.crypt (dieOfLoc p.loc / 8) n (BitVec.ofNat 36 li) cipher)
  else none

/-- The ciphertext of data position p of a place's stripe solved from the other members with some members erased, the partial parity of an open stripe standing for its parity lines (R43, R44, R62): XOR for one erasure, the Reed-Solomon equations for two data erasures. None when the erasures exceed what the stripe's parity solves. -/
def Blk.solve (b : Blk) (p : Place) (erased : List Nat) : Option Line :=
  let w := widthOf p.cls
  let lane := (b.twill.lanes.find? fun e => e.2.slot == p.slot && e.2.row == p.stripe / 64 && e.2.stripe == p.stripe % 64 && e.2.open_).map Prod.snd
  let data (q : Nat) : Line := b.stored (b.slotLine p.cls p.slot p.stripe q)
  let par (i : Nat) : Line := match lane with
    | some l => if i = 0 then l.parity else l.parityQ
    | none => b.stored (b.memberLine p.cls p.slot p.stripe (parityMember p.cls p.stripe i))
  let parLost (i : Nat) : Bool := lane.isNone && (erased.contains (parityMember p.cls p.stripe i))
  let lostData := (List.range 16).filter fun q => q != p.pos && erased.contains (dataMember p.cls p.stripe q)
  let rest (i : Nat) (skip : List Nat) : Line :=
    (List.range 16).foldl (fun a q => if skip.contains q then a else a ^^^ parityTerm i q (data q)) (par i)
  match lostData with
  | [] =>
    if !parLost 0 then some (rest 0 [p.pos])
    else if w = 18 ∧ !parLost 1 then some (gfLine (gfInv (gfPow2 p.pos)) (rest 1 [p.pos]))
    else none
  | [q] =>
    if w = 18 ∧ !parLost 0 ∧ !parLost 1 then
      let a := rest 0 [p.pos, q]
      let c := rest 1 [p.pos, q]
      some (gfLine (gfInv (gfPow2 p.pos ^^^ gfPow2 q)) (c ^^^ gfLine (gfPow2 q) a))
    else none
  | _ => none

end Sys2Proof.Machine
end

