-- ==== Sys2Proof/Machine/Serve.lean ====
section
/-! DEFINITION. How requests end: responses and completions (R11, R12, R160, R210), requests that are never accepted (R213, R311), the poison list (R101 to R105), safety detections (R399, R402) and the counts of datapath errors (R90). -/

namespace Sys2Proof.Machine

/-- Index of a head's port entries (R235). -/
def headIdx (h : Head) : Nat := 0x2000 + 0x400 * headNum h

/-- The request reads. -/
def ReqKind.isRead : ReqKind → Bool
  | .rd => true
  | .rdData => true
  | _ => false

/-- The request writes. -/
def ReqKind.isWrite : ReqKind → Bool
  | .wr => true
  | .wrPtl => true
  | .clearPoison => true
  | _ => false

/-- A host's read or write, not a read that the device makes itself. -/
def ReqKind.isHost (k : ReqKind) : Bool := k.isRead || k.isWrite

/-! ### Completion of accepted requests -/

/-- An accepted request by its number. -/
def Blk.accOf (b : Blk) (rid : Nat) : Option Acc := b.path.acc.find? fun x => x.rid == rid

/-- Changes an accepted request. -/
def Blk.onAcc (b : Blk) (rid : Nat) (f : Acc → Acc) : Blk :=
  b.onPath fun p => { p with acc := p.acc.map fun x => if x.rid == rid then f x else x }

/-- An accepted request has completed: it is forgotten, with its sync ticket (R163). -/
def Blk.endAcc (b : Blk) (x : Acc) : Blk :=
  b.onPath fun p => { p with acc := p.acc.filter (fun y => y.rid != x.rid), tickets := p.tickets.filter fun t => t != x.req.ticket }

/-- A response that no link can carry is discarded and counted (R231, R232). -/
def Blk.respond (b : Blk) (x : Acc) (o : Output) : Blk :=
  if x.orphan then b.bump (headIdx x.h) 0x09 1 else b.emit o

/-- A read that has not completed completes with its half, or with poison for none (R11, R101); Tweed counts it (R388), and a sampled one is recorded (R391). -/
def Blk.finishRead (b : Blk) (x : Acc) (data : Option Half) : Blk :=
  if (b.accOf x.rid).isNone then b else
  let t := b.since x.accAt
  let b1 := (b.endAcc x).respond x (.memData x.h x.req.tag data (b.head x.h).devload)
  let b2 := if data.isNone then (b1.twHead x.h 10 1).twHost x.h 6 1 else b1
  let b3 := if 1000 < t then b2.twHead x.h 12 1 else b2
  (b3.twHead x.h 13 t).sampleOut x data.isNone

/-- A write that has not completed completes (R12, R160); a Clear Poison is answered as its command (R104). -/
def Blk.finishWrite (b : Blk) (x : Acc) : Blk :=
  if (b.accOf x.rid).isNone then b else
  let b1 := b.endAcc x
  let b2 := if x.req.kind = .clearPoison ∧ !x.orphan then b1.mbReply x.h 0x4302 .success []
    else b1.respond x (.cmp x.h x.req.tag (b.head x.h).devload)
  (b2.twHead x.h 14 (b.since x.accAt)).sampleOut x false

/-- A request completed without acceptance: a read with poison, a write discarded with completion (R213, R311). -/
def Blk.refuse (b : Blk) (h : Head) (k : ReqKind) (tag : Nat) : Blk :=
  match k with
  | .rd => ((b.emit (.memData h tag none (b.head h).devload)).twHead h 10 1).twHost h 6 1
  | .rdData => ((b.emit (.memData h tag none (b.head h).devload)).twHead h 10 1).twHost h 6 1
  | .clearPoison => (b.mbReply h 0x4302 .success []).twHead h 11 1
  | _ => (b.emit (.cmp h tag (b.head h).devload)).twHead h 11 1

/-- Requests at a head's ingress leave it unaccepted; their sync tickets are dropped (R163, R173). -/
def Blk.clearIngress (b : Blk) (h : Head) : Blk :=
  let ts := (b.head h).ingress.map Req.ticket
  (b.onHead h fun s => { s with ingress := [] }).onPath fun p => { p with tickets := p.tickets.filter fun t => !ts.contains t }

/-- Requests at a head's ingress complete as in M11 (R311, R402). -/
def Blk.refuseIngress (b : Blk) (h : Head) : Blk :=
  (b.head h).ingress.foldl (fun b r => b.refuse h r.kind r.tag) (b.clearIngress h)

/-! ### Safe Stop's path and detections -/

/-- Step 3 of R402: what waits at ingress completes as in M11, accepted reads complete with poison and accepted writes complete. -/
def Blk.stopServe (b : Blk) : Blk :=
  let b1 := (b.refuseIngress .A).refuseIngress .B
  b1.path.acc.foldl (fun b x => if x.req.kind.isRead then b.finishRead x none else if x.req.kind.isWrite then b.finishWrite x else b) b1

/-- The safe-stop path is asserted with a cause, from M2 to M10 (R313, R402). -/
def Blk.safeStop (b : Blk) (cause : BitVec 16) : Blk :=
  if b.modes.safe.isSome || b.holds 11 || !b.running then b
  else (b.onModes fun m => { m with safe := some (b.now, cause) }).stopServe

/-- A safety detection (R399): counted, reported with its mechanism and class, and, uncontained or the eighth of its mechanism within 1 s of operating time, a Safe Stop. -/
def Blk.detect (b : Blk) (mech : Nat) (uncontained : Bool) : Blk :=
  let times := b.opTime :: (b.safety.contained.getD mech []).filter fun t => decide (b.opTime - t < 1000)
  let unc := uncontained || decide (8 ≤ times.length)
  let b1 := if uncontained then b else b.onSafety fun s => { s with contained := s.contained.set [] mech times }
  let b2 := (b1.bump 0x7C00 0x01 1).odSet 0x7C00 0x03 mech
  let b3 := if unc then b2.bump 0x7C00 0x02 1 else b2
  let b4 := b3.report { code := 0x7C01, unit := BitVec.ofNat 16 (mech + 256 * b2n unc), data := [BitVec.ofNat 8 mech, BitVec.ofNat 8 (b2n unc)],
                        sev := some (if unc then 6 else 4) }
  if unc then b4.safeStop 0x7C01 else b4

/-! ### The poison list (R101 to R105) -/

/-- Records that the list holds. -/
def poisonCapacity : Nat := 1048576

/-- A half is on the poison list. -/
def Blk.listed (b : Blk) (key : Nat) : Bool := b.media.poison.has key

/-- Warnings as the list reaches 75 % and 90 % of its capacity (R105), each again after the list has fallen below it. -/
def Blk.poisonWarn (b : Blk) : Blk :=
  let n := b.media.poison.length
  let w75 := decide (3 * poisonCapacity ≤ 4 * n)
  let w90 := decide (9 * poisonCapacity ≤ 10 * n)
  let b1 := b.onMedia fun m => { m with warn75 := w75, warn90 := w90 }
  let b2 := if w75 && !b.media.warn75 then b1.report { code := 0x5806 } else b1
  if w90 && !b.media.warn90 then b2.report { code := 0x5807 } else b2

/-- A change of the list is due for a record on media: the half, and its source before (R102). -/
def Blk.noteChange (b : Blk) (key : Nat) : Blk := b.onMedia fun m => { m with changes := m.changes ++ [(key, m.poison.find key)] }

/-- Records that the poison table in SRAM caches (R102). -/
def poisonCache : Nat := 65536

/-- A region is marked: it has records outside the cache, which holds the list's first ones in DPA order (log 89), or its part of the table is being reloaded (R102, R112). -/
def Blk.regionMarked (b : Blk) (r : Nat) : Bool := b.media.reload.contains r || (b.media.poison.drop poisonCache).any fun e => e.1 / 32768 == r

/-- A half enters the poison list with its source, which replaces the source of a half that is listed already (DESIGN CHOICE, log 89); with the list full, the device enters M11 (R101, R105). -/
def Blk.listHalf (b : Blk) (key : Nat) (src : PSource) : Blk :=
  if b.media.poison.find key = some src then b
  else if b.listed key then (b.noteChange key).onMedia fun m => { m with poison := m.poison.put key src }
  else if poisonCapacity ≤ b.media.poison.length then (b.report { code := 0x5809 }).safeStop 0x5809
  else (((b.noteChange key).onMedia fun m => { m with poison := m.poison.put key src }).bump 0x5830 0x04 1).poisonWarn

/-- Code of a transaction in a General Media Event, as the standard numbers them (PRESUMED, log 31). -/
def txCode : MediaTx → BitVec 8
  | .hostRead => 1
  | .hostWrite => 2
  | .scrub => 5
  | .internal => 6

/-- Memory event type of a General Media Event, with the standard's numbers: 1 invalid address for an address detection, 2 data path error for R90 and R93, 0 media ECC error (R227; log 31 for the numbers). -/
def memoryEvent (code : BitVec 16) (addr : Bool) : BitVec 8 := if addr then 1 else if code = 0x5803 ∨ code = 0x5804 then 2 else 0

/-- A half is poisoned by the device: it is listed with source Internal, and its General Media Event goes out, with its memory event type and transaction (R101, R227). -/
def Blk.listInternal (b : Blk) (key : Nat) (code : BitVec 16) (tx : MediaTx := .internal) (addr : Bool := false) : Blk :=
  let b1 := b.listHalf key .internal
  if b1.listed key then b1.report { code := code, dpa := some (key * 64), kind := some 1, data := [memoryEvent code addr, txCode tx] } else b1

/-- Both halves of a line are poisoned by the device. -/
def Blk.poisonLine (b : Blk) (li : Nat) (code : BitVec 16) (tx : MediaTx := .internal) (addr : Bool := false) : Blk :=
  (b.listInternal (2 * li) code tx addr).listInternal (2 * li + 1) code tx addr

/-- A half leaves the poison list (R103). -/
def Blk.unlistHalf (b : Blk) (key : Nat) : Blk := if b.listed key then ((b.noteChange key).onMedia fun m => { m with poison := m.poison.del key }).poisonWarn else b

/-! ### Datapath errors (R90) -/

/-- What a datapath decoder reports is counted; an error that it cannot correct is a safety detection of mechanism 1 (R90, R399). -/
def Blk.dpCount (b : Blk) (d : Dp) : Blk :=
  match d with
  | .ok => b
  | .corrected => b.bump 0x5800 0x01 1
  | .uncorrectable => (b.bump 0x5800 0x02 1).detect 1 false
  | .address => (b.bump 0x5800 0x03 1).detect 1 false

/-- The datapath code has detected an error that it cannot correct. -/
def dpBad : Dp → Bool
  | .uncorrectable => true
  | .address => true
  | _ => false

/-- A read completes after its datapath check: poison, without listing and with event 0x5803, when the response cannot be corrected (R90). -/
def Blk.finishReadDp (b : Blk) (x : Acc) (data : Half) (d : Dp) : Blk :=
  let b1 := b.dpCount d
  if dpBad d then (b1.report { code := 0x5803, dpa := some x.req.dpa }).finishRead x none else b1.finishRead x (some data)

end Sys2Proof.Machine
end

