-- ==== Sys2Proof/Machine/Cache.lean ====
section
/-! DEFINITION. Velvet's shared operations: sets and ways (R139, R140), victims (R141), holding buffers and the dirty count (R142, R143), the budget (R144, R145), merges and fills (R99, R153), and what every host write does to Twill's heat records (R52, R63 to R65). -/

namespace Sys2Proof.Machine

/-! ### Sets and ways -/

/-- Set of a line (R139). -/
def velvetSet (li : Nat) : Nat := fld li 0 14 ^^^ fld li 14 14 ^^^ fld li 28 8

/-- Tag of a line (R139). -/
def velvetTag (li : Nat) : BitVec 22 := BitVec.ofNat 22 (li >>> 14)

/-- The line that a set and a tag stand for (R139). -/
def wayLine (set : Nat) (tag : BitVec 22) : Nat := tag.toNat <<< 14 ||| (set ^^^ fld tag.toNat 0 14 ^^^ fld tag.toNat 14 8)

/-- Line of a valid way at a key set * 16 + way. -/
def VWay.lineAt (v : VWay) (key : Nat) : Nat := wayLine (key / 16) v.tag

/-- Every byte of a way is valid. -/
def VWay.whole (v : VWay) : Bool := v.mask == BitVec.allOnes 128

/-- Every byte of one half of a way is valid. -/
def VWay.wholeHalf (v : VWay) (i : Bool) : Bool := v.mask &&& halfMask i == halfMask i

/-- The valid way that holds a line, with its key. -/
def Blk.resident (b : Blk) (li : Nat) : Option (Nat × VWay) :=
  let set := velvetSet li
  (List.range 16).findSome? fun w => match b.velvet.ways.find (set * 16 + w) with
    | some v => if v.tag == velvetTag li then some (set * 16 + w, v) else none
    | none => none

/-- The holding buffer that holds a line, with its number (R142). -/
def Blk.bufOf (b : Blk) (li : Nat) : Option (Nat × HBuf) := b.velvet.bufs.find? fun e => e.2.li == li

/-- Writes a way. -/
def Blk.putWay (b : Blk) (key : Nat) (v : VWay) : Blk := b.onVelvet fun x => { x with ways := x.ways.put key v }

/-- A way becomes not valid. -/
def Blk.dropWay (b : Blk) (key : Nat) : Blk := b.onVelvet fun x => { x with ways := x.ways.del key }

/-- A way becomes the most recently used of its set (R140). -/
def Blk.touchWay (b : Blk) (key : Nat) : Blk :=
  b.onVelvet fun x => { x with plru := x.plru.set 0 (key / 16) (plruTouch (x.plru.getD (key / 16) 0) (key % 16)) }

/-- Ways of a set, least recently used first (R140). -/
def Blk.wayOrder (b : Blk) (set : Nat) : List Nat := plruOrder (b.velvet.plru.getD set 0)

/-- A valid way that R141 lets be chosen. -/
def VWay.choosable (v : VWay) (needClean allowPf : Bool) : Bool :=
  !(v.fillp || v.cln || v.wt || !v.whole) && (allowPf || !v.pf) && !(needClean && v.dirty)

/-- `choose_victim` of R141; a slice that takes no new lines has none (R410). -/
def Blk.victim (b : Blk) (set : Nat) (needClean : Bool) : Option Nat :=
  let order := b.wayOrder set
  let entry (w : Nat) : Option VWay := b.velvet.ways.find (set * 16 + w)
  let pick (allowPf : Bool) : Option Nat := order.find? fun w => match entry w with
    | some v => v.choosable needClean allowPf
    | none => false
  if b.safety.deadSlices.contains (set % 16) then none
  else match order.find? fun w => (entry w).isNone with
    | some w => some w
    | none => match pick false with
      | some w => some w
      | none => pick true

/-! ### Holding buffers and the dirty count -/

/-- Holding buffers of the device (R142). -/
def bufCount : Nat := 4096

/-- The lowest holding buffer not in use. -/
def Blk.freeBuf (b : Blk) : Option Nat :=
  let n := b.velvet.bufs.firstFree 0
  if n < bufCount then some n else none

/-- The dirty count (R143). -/
def Blk.dirtyCount (b : Blk) : Nat := (b.velvet.ways.filter fun e => e.2.dirty).length + b.velvet.bufs.length

/-- A line is copied into a holding buffer. -/
def Blk.putBuf (b : Blk) (n : Nat) (x : HBuf) : Blk := b.onVelvet fun v => { v with bufs := v.bufs.put n x }

/-- A dirty victim is copied into a free buffer and its way is given up (R142). -/
def Blk.evictWay (b : Blk) (key : Nat) (v : VWay) : Blk :=
  match b.freeBuf with
  | some n => ((b.putBuf n { li := v.lineAt key, data := v.data, hotPath := v.pmark }).dropWay key).tw 105 1
  | none => b

/-- A clean of a dirty way: the line is copied to a buffer, DIRTY is cleared and CLN is set (R142). -/
def Blk.cleanWay (b : Blk) (key : Nat) : Blk :=
  match b.velvet.ways.find key, b.freeBuf with
  | some v, some n =>
    if v.dirty && v.whole && !v.cln && !v.wt then
      (b.putBuf n { li := v.lineAt key, data := v.data, clean := true, hotPath := v.pmark }).putWay key { v with dirty := false, cln := true }
    else b
  | _, _ => b

/-- A line gets a way of its set: the victim is dropped, or evicted when dirty; none when R141 finds no victim. -/
def Blk.allocate (b : Blk) (li : Nat) (needClean : Bool) (v : VWay) : Option Blk :=
  let set := velvetSet li
  match b.victim set needClean with
  | none => none
  | some w =>
    let key := set * 16 + w
    let b1 := match b.velvet.ways.find key with
      | some old => if old.dirty then b.evictWay key old else b.dropWay key
      | none => b
    some ((b1.putWay key { v with tag := velvetTag li }).touchWay key)

/-! ### The dirty budget (R144, R145) -/

/-- B of R144 from E_u in µJ: 0.45 E_u / 95 W less 150 µs, at 80 GB/s, in lines of 128 B; the product in exact arithmetic. -/
def budgetOf (eu : Nat) : Nat :=
  -- 0.45 * eu µJ / 95 W = eu * 9 / 1900 µs; less 150 µs; * 80,000 B/µs / 128 B = * 625
  min 196608 (((9 * eu - 150 * 1900) * 625) / 1900)

/-- Persistence mode by E_u in µJ and a failed health test (R145), the force entry aside. -/
def modeByEnergy (eu : Nat) (healthFailed : Bool) : Nat :=
  if healthFailed || decide (eu < 32000) then 2 else if eu < 40000 then 1 else 0

/-! ### Media reads that a request waits for -/

/-- Line of an accepted request. -/
def Acc.line (x : Acc) : Nat := lineOf x.req.dpa

/-- A read task leaves every queue and slot in which it still waits. -/
def Blk.unqueue (b : Blk) (rid : Nat) : Blk :=
  b.onMedia fun m => { m with parts := m.parts.map fun e => (e.1, { e.2 with queue := e.2.queue.filter fun t => t.why != .host rid }) }

/-! ### Maintenance operations (R150, R151) -/

/-- How far a maintenance operation is with a line: it waits, it waits with the line passed, or its effect holds. -/
inductive Maint where
  | waits
  | passed
  | done
  deriving DecidableEq, Repr

/-- An Invalidate keeps a dirty line and counts it (R150). -/
def Blk.keepDirty (b : Blk) : Blk := b.odSet 0x6010 0x06 (b.cfg 0x6010 0x06 + 1)

/-- A maintenance operation acts on a line as far as it can: 1 clean, 2 invalidate, 3 both (R150). A fill or a program of the line is waited for (R151); a line dirty again while an older clean or a write-through program of it runs waits for that and is then cleaned, so that all that was dirty reaches media; a line written after the operation has passed it may stay dirty. -/
def Blk.maintLine (b : Blk) (op li : Nat) (passed : Bool) : Blk × Maint :=
  let held := (b.bufOf li).isSome
  match b.resident li with
  | none => if !held then (b, .done) else if op = 2 then (b.keepDirty, .done) else (b, .passed)
  | some (k, v) =>
    let busy := held || v.cln || v.wt
    if v.fillp then (b, if passed then .passed else .waits)
    else if op = 2 then
      if v.dirty then (b.keepDirty, .done) else if busy then (b, .passed) else (b.dropWay k, .done)
    else if v.dirty && !passed then
      (if !busy && b.freeBuf.isSome then (b.cleanWay k, .passed) else (b, .waits))
    else if busy then (b, .passed)
    else if op = 3 && !v.dirty then (b.dropWay k, .done)
    else (b, .done)

/-- The lines of a range operation, one after another: those whose effect holds leave the list. -/
def Blk.maintRange (b : Blk) (op : Nat) (lines : List (Nat × Bool)) : Blk × List (Nat × Bool) :=
  lines.foldl (fun x e => match x.1.maintLine op e.1 e.2 with
    | (c, .done) => (c, x.2)
    | (c, .waits) => (c, x.2 ++ [(e.1, false)])
    | (c, .passed) => (c, x.2 ++ [(e.1, true)])) (b, [])

/-- The single-line operations, each in turn: those whose effect holds are answered (R151). -/
def Blk.maintOps (b : Blk) (ops : List LineOp) : Blk :=
  ops.foldl (fun c o => match c.maintLine o.op o.li o.passed with
    | (d, .done) => if o.mute then d else d.reply o.src { op := 2, idx := 0x6020, sub := o.sub, st := 0 }
    | (d, .waits) => d.onVelvet fun v => { v with lineOps := v.lineOps ++ [o] }
    | (d, .passed) => d.onVelvet fun v => { v with lineOps := v.lineOps ++ [{ o with passed := true }] }) b

/-- The maintenance operations go on after a line's write or fill has ended or a buffer has become free (R150, R151). -/
def Blk.maintain (b : Blk) : Blk :=
  let b1 := match b.velvet.rangeOp with
    | none => b
    | some o =>
      let r := b.maintRange o.code o.lines
      r.1.onVelvet fun v => { v with rangeOp := some { o with lines := r.2 } }
  (b1.onVelvet fun v => { v with lineOps := [] }).maintOps b1.velvet.lineOps

/-! ### Fills (R99) -/

/-- Reads that wait for the fill of a line complete from its way, the poisoned halves with poison (R99, R112). -/
def Blk.serveJoined (b : Blk) (li : Nat) : Blk :=
  match b.resident li with
  | none => b
  | some (_, v) =>
    (b.path.acc.filter fun x => x.stage == .fill && x.line == li).foldl (fun b x =>
      let i := halfIdx x.req.dpa
      if v.wholeHalf i then b.finishRead x (if b.listed (halfKey x.req.dpa) then none else some (halfOf v.data i)) else b) b

/-- A fill whose bytes have all been written before its read was issued is cancelled (R99). -/
def Blk.cancelFill (b : Blk) (li : Nat) : Blk :=
  match b.path.acc.find? fun x => (x.req.kind == .fill || x.req.kind == .prefetch) && x.line == li && x.stage == .queued with
  | some x =>
    let b1 := (b.unqueue x.rid).endAcc x
    let b2 := match b1.resident li with
      | some (k, v) => b1.putWay k { v with fillp := false }
      | none => b1
    (b2.serveJoined li).maintain
  | none => b

/-- Fill data enter a way: only bytes whose mask bits are clear are written (R99). -/
def Blk.applyFill (b : Blk) (li : Nat) (data : Line) : Blk :=
  match b.resident li with
  | some (k, v) =>
    if v.fillp then
      ((b.putWay k { v with fillp := false, data := mergeBits 1024 (~~~v.mask).toNat v.data data, mask := BitVec.allOnes 128 }).touchWay k).serveJoined li |>.maintain
    else b
  | none => b

/-- A way with the bytes of its halves that are not whole discarded, and counted as valid: they stand under poison, which no read looks behind (R98, R99, log 101). A partial write that the half had taken is discarded with them, which is how this model reads R98 (DESIGN CHOICE, log 101). -/
def VWay.keepWhole (v : VWay) : VWay :=
  let clear (i : Bool) (x : Line) : Line := if v.wholeHalf i then x else putHalf x i (BitVec.allOnes 64) 0
  { v with fillp := false, mask := BitVec.allOnes 128, data := clear true (clear false v.data) }

/-- A fill that ended in poison (R98, R99): a half that writes have made whole stays, the bytes of one that is not are discarded under its poison, and a line with no whole half is dropped. -/
def Blk.poisonFill (b : Blk) (li : Nat) : Blk :=
  match b.resident li with
  | some (k, v) =>
    if v.fillp then
      let b1 := (b.path.acc.filter fun x => x.stage == .fill && x.line == li && !v.wholeHalf (halfIdx x.req.dpa)).foldl (fun b x => b.finishRead x none) b
      (if v.wholeHalf false || v.wholeHalf true then (b1.putWay k v.keepWhole).serveJoined li
       else b1.dropWay k).maintain
    else b
  | none => b

/-! ### What every host write does (R52, R56, R63 to R65) -/

/-- A line's hot entry may be demoted: its group is not pinned (R246), and its home location has not failed (R434). -/
def Blk.mayDemote (b : Blk) (li : Nat) : Bool :=
  !b.damask.pinned.contains (tagIdx li) && (match b.regionEntry (regionOfLine li) with
    | some e => !b.media.retired.has (b.homePlace (regionOfLine li) li e).loc
    | none => true)

/-- The demotion of a line starts: DEMOTING is set (R64, R65). -/
def Blk.startDemotion (b : Blk) (li : Nat) (cand : Option Nat) : Blk :=
  match b.hotFind li with
  | some (k, e) =>
    if e.demoting || !b.mayDemote li then b
    else (b.putHot k { e with demoting := true }).onTwill fun t => { t with demote := t.demote.put li { step := 1, since := b.now, forLi := cand } }
  | none => b

/-- The valid way of a set with the highest IDLE among those that may be demoted, ties to the lowest number (R65; R246 and R434 name entries that never are, log 82). -/
def Blk.idlest (b : Blk) (set : Nat) : Option HotEntry :=
  ((b.hotWays set).filter fun p => b.mayDemote p.2.li).foldl (fun best p => match best with
    | none => some p.2
    | some e => if e.idle < p.2.idle then some p.2 else some e) none

/-- The idlest way of a line's set is demoted for the line; a demotion of it that runs for no candidate frees its way for this one (R65). -/
def Blk.demoteFor (b : Blk) (li : Nat) : Blk :=
  match b.idlest (b.hotSet li) with
  | none => b
  | some e => match b.twill.demote.find e.li with
    | some d => if d.forLi.isSome then b else b.onTwill fun t => { t with demote := t.demote.put e.li { d with forLi := some li } }
    | none => b.startDemotion e.li (some li)

/-- A promotion that needs a way finds its set full: the idlest way is demoted for it, and the 2 ms of R65 run from the mark. -/
def Blk.promoteWay (b : Blk) (li : Nat) : Blk :=
  if (b.hotFind li).isSome || (b.hotFree li).isSome then b
  else (b.onTwill fun t => { t with wants := t.wants.put li (t.wants.getD li b.now) }).demoteFor li

/-- A line evicted before its way is free keeps its promotion mark: while it waits for the way, and while the way is kept for it (R65). -/
def Blk.marked (b : Blk) (li : Nat) : Bool := b.twill.wants.has li || b.twill.reserve.any fun e => e.2 == li

/-- The demotion of a line is abandoned: DEMOTING is cleared, the line stays hot, and a holding buffer that waited for the record is written by its path again (R64). -/
def Blk.abandonDemotion (b : Blk) (li : Nat) : Blk :=
  let b1 := b.onTwill fun t => { t with demote := t.demote.del li, gatherD := t.gatherD.filter fun x => x.1 != li }
  let b2 := match b1.hotFind li with
    | some (k, e) => b1.putHot k { e with demoting := false }
    | none => b1
  match b2.bufOf li with
  | some (n, x) => if x.home then b2.putBuf n { x with home := false, issued := false } else b2
  | none => b2

/-- A host write reaches a line: its region's writes of the epoch (R52), its hot entry's WRITTEN, and an unfinished demotion abandoned (R64). -/
def Blk.noteWrite (b : Blk) (li : Nat) : Blk :=
  let r := regionOfLine li
  let b1 := b.onTwill fun t => { t with writes := t.writes.put r (t.writes.getD r 0 + 1) }
  match b1.hotFind li with
  | some (k, e) => (b1.putHot k { e with written := true }).abandonDemotion li
  | none => b1

/-- Candidate counter of a line (R63). -/
def Blk.candKey (b : Blk) (li : Nat) : Nat := fld (Config.candHash b.key (BitVec.ofNat 36 li)).toNat 0 20

/-- A host write counts in its candidate counter, saturating at 15 (R63). -/
def Blk.countCandidate (b : Blk) (li : Nat) : Blk :=
  let k := b.candKey li
  b.onTwill fun t => { t with cand := t.cand.set 0 k (min 15 (t.cand.getD k 0 + 1)) }

/-- The write that brings a counter to 8 marks its line, in write-back mode (R63). -/
def Blk.marksLine (b : Blk) (li : Nat) : Bool := b.twill.cand.getD (b.candKey li) 0 == 7 && b.persistence == 0

/-! ### Merging a write -/

/-- A write's bytes enter a way: DIRTY is set, since they are not yet on media, in write-through mode WT and PMARK too (R99, R140, R148, R153). -/
def VWay.write (v : VWay) (i : Bool) (m : HalfMask) (x : Half) (mark through : Bool) : VWay :=
  { v with data := putHalf v.data i m x, mask := v.mask ||| maskUp m i, dirty := true, wt := v.wt || through, pf := false,
           pmark := v.pmark || mark || through }

/-- A write's bytes enter a holding buffer; one whose program has been issued is programmed again (R153). -/
def HBuf.write (x : HBuf) (now : Nat) (i : Bool) (m : HalfMask) (d : Half) (mark : Bool) : HBuf :=
  { x with data := putHalf x.data i m d, again := x.issued || x.again, mergeAt := if x.issued && !x.again then now else x.mergeAt, hotPath := x.hotPath || mark }

end Sys2Proof.Machine
end

