-- ==== Sys2Proof/Machine/Operands.lean ====
section
/-! DEFINITION. The words of the media channel: a die command and its 64-bit word (R180 to R182), the CRC-16 of a transfer group (R183), the fields of the status words ST and SG (R184, R185), the program framing word (R186) and the die status of STR (R187). -/

namespace Sys2Proof.Machine

/-- A die command with its fields (R181, R182). -/
inductive DieCmd where
  | rd (part : BitVec 5) (line : BitVec 23) (o2 o1 o0 : BitVec 9)
  | mrd (part : BitVec 5) (line : BitVec 23) (o2 o1 o0 : BitVec 9)
  | rrs (part : BitVec 5)
  | pgm (part : BitVec 5) (line : BitVec 23)
  | ovw (part : BitVec 5) (line : BitVec 23)
  | trs (part : BitVec 5) (tile : BitVec 17) (count : BitVec 2)
  | sus (part : BitVec 5)
  | rsm (part : BitVec 5)
  | str
  | alc (mask : BitVec 7)
  | mrw (addr : BitVec 8) (v : BitVec 16)
  | mrr (addr : BitVec 8)
  | idr
  | zqc (long : Bool)
  | trn (buffer : Bool) (seed : BitVec 8)
  | tbw
  | sby
  | wak
  | rst
  deriving DecidableEq, Repr

/-- Opcode of a command (R181). -/
def DieCmd.op : DieCmd → BitVec 5
  | .rd _ _ _ _ _ => 0x01
  | .mrd _ _ _ _ _ => 0x02
  | .rrs _ => 0x03
  | .pgm _ _ => 0x04
  | .ovw _ _ => 0x05
  | .trs _ _ _ => 0x06
  | .sus _ => 0x07
  | .rsm _ => 0x08
  | .str => 0x09
  | .alc _ => 0x0A
  | .mrw _ _ => 0x0B
  | .mrr _ => 0x0C
  | .idr => 0x0D
  | .zqc _ => 0x0E
  | .trn _ _ => 0x0F
  | .tbw => 0x10
  | .sby => 0x11
  | .wak => 0x12
  | .rst => 0x13

/-- Fields [58:4] of a command's word, reserved bits 0 (R182). -/
def DieCmd.fields : DieCmd → BitVec 55
  | .rd part line o2 o1 o0 => part ++ line ++ o2 ++ o1 ++ o0
  | .mrd part line o2 o1 o0 => part ++ line ++ o2 ++ o1 ++ o0
  | .rrs part => part ++ (0 : BitVec 50)
  | .pgm part line => part ++ line ++ (0 : BitVec 27)
  | .ovw part line => part ++ line ++ (0 : BitVec 27)
  | .trs part tile count => part ++ tile ++ count ++ (0 : BitVec 31)
  | .sus part => part ++ (0 : BitVec 50)
  | .rsm part => part ++ (0 : BitVec 50)
  | .str => 0
  | .alc mask => (0 : BitVec 5) ++ mask ++ (0 : BitVec 43)
  | .mrw addr v => (0 : BitVec 5) ++ addr ++ v ++ (0 : BitVec 26)
  | .mrr addr => (0 : BitVec 5) ++ addr ++ (0 : BitVec 42)
  | .idr => 0
  | .zqc long => (0 : BitVec 5) ++ BitVec.ofBool long ++ (0 : BitVec 49)
  | .trn buffer seed => (0 : BitVec 5) ++ BitVec.ofBool buffer ++ seed ++ (0 : BitVec 41)
  | .tbw => 0
  | .sby => 0
  | .wak => 0
  | .rst => 0

/-- Parity of the first `n` bits of a vector. -/
def parityBelow (w : BitVec 64) : Nat → Bool
  | 0 => false
  | n + 1 => xor (w.getLsbD n) (parityBelow w n)

/-- The number of ones in a word is odd. -/
def oddOnes (w : BitVec 64) : Bool := parityBelow w 64

/-- The 64-bit word of a command with its SEQ and even parity (R180). -/
def DieCmd.word (c : DieCmd) (seq : BitVec 3) : BitVec 64 :=
  let w : BitVec 63 := c.op ++ c.fields ++ seq
  w ++ BitVec.ofBool (oddOnes (w ++ (0 : BitVec 1)))

/-- The command that an opcode and its fields spell; none for an invalid opcode (R181). -/
def dieCmdOf (op : BitVec 5) (f : BitVec 55) : Option DieCmd :=
  let part := f.extractLsb' 50 5
  let line := f.extractLsb' 27 23
  match op.toNat with
  | 0x01 => some (.rd part line (f.extractLsb' 18 9) (f.extractLsb' 9 9) (f.extractLsb' 0 9))
  | 0x02 => some (.mrd part line (f.extractLsb' 18 9) (f.extractLsb' 9 9) (f.extractLsb' 0 9))
  | 0x03 => some (.rrs part)
  | 0x04 => some (.pgm part line)
  | 0x05 => some (.ovw part line)
  | 0x06 => some (.trs part (f.extractLsb' 33 17) (f.extractLsb' 31 2))
  | 0x07 => some (.sus part)
  | 0x08 => some (.rsm part)
  | 0x09 => some .str
  | 0x0A => some (.alc (f.extractLsb' 43 7))
  | 0x0B => some (.mrw (f.extractLsb' 42 8) (f.extractLsb' 26 16))
  | 0x0C => some (.mrr (f.extractLsb' 42 8))
  | 0x0D => some .idr
  | 0x0E => some (.zqc (f.getLsbD 49))
  | 0x0F => some (.trn (f.getLsbD 49) (f.extractLsb' 41 8))
  | 0x10 => some .tbw
  | 0x11 => some .sby
  | 0x12 => some .wak
  | 0x13 => some .rst
  | _ => none

/-- What a die reads from a word: the command and its SEQ; none for a parity error or an invalid opcode, which the die ignores (R180, R196). -/
def dieDecode (w : BitVec 64) : Option (DieCmd × BitVec 3) :=
  if oddOnes w then none else (dieCmdOf (w.extractLsb' 59 5) (w.extractLsb' 4 55)).map fun c => (c, w.extractLsb' 1 3)

/-- One bit into the CRC-16 of R183. -/
def crc16Bit (c : BitVec 16) (x : Bool) : BitVec 16 :=
  if xor (c.getLsbD 15) x then (c <<< 1) ^^^ 0x8005 else c <<< 1

/-- CRC-16 of a group's bits in order: polynomial 0x8005, initial 0xFFFF, no reflection, no inversion (R183). -/
def crc16 (l : List Bool) : BitVec 16 := l.foldl crc16Bit 0xFFFF

/-! ### The side status word ST (R185) -/

/-- LINE echoed. -/
def stLine (st : BitVec 64) : BitVec 23 := st.extractLsb' 32 23
/-- ALRT, the pending causes. -/
def stAlrt (st : BitVec 64) : BitVec 7 := st.extractLsb' 24 7
/-- RSTAT. -/
def stRstat (st : BitVec 64) : BitVec 3 := st.extractLsb' 21 3
/-- PART echoed. -/
def stPart (st : BitVec 64) : BitVec 5 := st.extractLsb' 16 5
/-- SEQ echoed. -/
def stSeq (st : BitVec 64) : BitVec 3 := st.extractLsb' 13 3
/-- TVAL. -/
def stTval (st : BitVec 64) : Bool := st.getLsbD 12
/-- TEMP, 1/16 °C. -/
def stTemp (st : BitVec 64) : Int := (st.extractLsb' 0 12).toInt

/-- ST of a transfer. -/
def stWord (line : BitVec 23) (alrt : BitVec 7) (rstat : BitVec 3) (part : BitVec 5) (seq : BitVec 3) (tval : Bool) (temp : BitVec 12) : BitVec 64 :=
  (0 : BitVec 9) ++ line ++ (0 : BitVec 1) ++ alrt ++ rstat ++ part ++ seq ++ BitVec.ofBool tval ++ temp

/-! ### The guard-band counts SG (R184) -/

/-- Cells just above boundary j. -/
def sgAbove (sg : BitVec 72) (j : Nat) : Nat := fld sg.toNat (24 * j + 12) 12
/-- Cells just below boundary j. -/
def sgBelow (sg : BitVec 72) (j : Nat) : Nat := fld sg.toNat (24 * j) 12

/-- The program framing word F of a PGM or OVW (R186). -/
def framing (op : BitVec 5) (seq : BitVec 3) (part : BitVec 5) (line : BitVec 23) : BitVec 72 :=
  (0 : BitVec 36) ++ op ++ seq ++ part ++ line

/-- The die status of STR (R187). -/
def strWord (wseq : Option (BitVec 3)) (rcnt pcnt : Nat) (alrt : BitVec 7) (tval : Bool) (temp : BitVec 12) (pfail : BitVec 32) (pstate : BitVec 64) : BitVec 256 :=
  (0 : BitVec 128) ++ BitVec.ofBool wseq.isSome ++ wseq.getD 0 ++ (0 : BitVec 1) ++ BitVec.ofNat 3 rcnt ++ BitVec.ofNat 4 pcnt ++ alrt
    ++ BitVec.ofBool tval ++ temp ++ pfail ++ pstate

end Sys2Proof.Machine
end

