-- ==== Sys2Proof/Machine/Append.lean ====
section
/-! DEFINITION. Twill's shared operations of writing: the write tracker (R68), the journal (R82), lanes and tile rows (R61, R62, R81), the choice of a path (R58), the cold path (R59, R172, R244, R245), appends (R62), and what the end of a line's write frees (R142, R170). -/

namespace Sys2Proof.Machine

/-! ### The intent journal (R78, R82) -/

/-- The journal ring's lines stand in the metadata area's first two slots (R82, log 77). -/
def ringSlot (n i : Nat) : Nat := metaSlot n (i / 16384)

/-- Stripe member that holds line i of the journal ring (R82). -/
def ringMem (n i : Nat) : Mem :=
  let s := i % 16384 / 16
  { cls := .denim, slot := ringSlot n i, stripe := s, m := dataMember .denim s (i % 16) }

/-- Location of line i of the journal ring (R82). -/
def Blk.ringLoc (b : Blk) (i : Nat) : Nat := b.slotLine .denim (ringSlot b.dieCount i) (i % 16384 / 16) (i % 16)

/-- Bytes of an item of a record: 9 B for each demotion, a DPA line index and a hot location (R82); 8 B for a number of another record (log 79). -/
def itemBytes (type v : Nat) : List Byte := leBytes (if type = 0x06 then 9 else 8) v

/-- Items in a record, byte [9]: the pairs of a demotion record, the slots of a slot-freed record, one item of any other (R82). -/
def JRec.count (x : JRec) : Nat := if x.type = 0x06 then x.items.length else if x.type = 0x07 then x.items.length / 2 else 1

/-- The 128 B of a journal record (R82): sequence, type, number of items, the CRC of bytes [11:0] and [127:16], and the items. -/
def JRec.bytes (x : JRec) : List Byte :=
  let head := leBytes 8 x.seq ++ leBytes 1 x.type ++ leBytes 1 x.count ++ [0, 0]
  let body := ((x.items.flatMap (itemBytes x.type)) ++ List.replicate 112 0).take 112
  head ++ leBytes 4 (crc32 (head ++ body)).toNat ++ body

/-- Metadata of a record of the metadata area: its type, and a record-specific part (R24). -/
def recordMd (type v : Nat) : BitVec 40 := BitVec.ofNat 40 (type % 16 <<< 36 ||| fld v 0 36)

/-- Operations that need a record wait from 8,192 records since the start of the newest committed checkpoint (R78). -/
def Blk.journalWait (b : Blk) : Bool := decide (8192 ≤ b.twill.records)

/-- The append stall (R78). -/
def Blk.appendStall (b : Blk) : Bool := decide (1048576 ≤ b.twill.appended)

/-! ### Accounting -/

/-- The tracker entry that has been unused longest gives way: its count folds (R68). The fold's WEAR is added by `foldCount`. -/
def oldestTracked (t : NMap (Nat × Nat)) : Option Nat :=
  (t.foldl (fun best e => match best with
    | none => some (e.1, e.2.2)
    | some x => if e.2.2 < x.2 then some (e.1, e.2.2) else some x) (none : Option (Nat × Nat))).map Prod.fst

/-- A region whose WEAR has incremented: a rotation pass is due, one further pass where one waits or runs (R69), and, its L past the mean's margins or at the ceiling, a migration (R71, R74). No pass and no wear migration comes due in M9, where a slot at the ceiling without a reserve slot left stays in service with a media event (R77). -/
def Blk.wearDue (b : Blk) (r : Nat) (e : RegionEntry) : Blk :=
  let pass : Rotation := match b.twill.rot.find r with
    | some x => { x with again := true }
    | none => { cursor := 1023, park := r }
  let worn := decide (wearCeiling ≤ e.l)
  let far := decide (21 * b.wearSum < 20 * e.l * b.wearNum) && decide (b.wearSum + cycles 1000 * b.wearNum ≤ e.l * b.wearNum)
  let due (c : Blk) : Blk := if c.twill.migDue.contains r || c.twill.mig.has r then c else c.onTwill fun t => { t with migDue := t.migDue ++ [r] }
  if b.holds 9 then
    if !worn then b else if 0 < b.spare then due b else b.reportUnit 0x4001 8 e.slot.toNat
  else
    let b1 := b.onTwill fun t => { t with rot := t.rot.put r pass }
    if worn || far then due b1 else b1

/-- A slot's WEAR increments, saturating (R52, R68). At the ceiling a region's slot is due to migrate, a hot-pool slot takes no new rows and is to be retired, a free slot's retirement is due at once (R74); of a tag region or metadata slot the spec gives no procedure, and it stays (log 80). -/
def Blk.wearUp (b : Blk) (slot : Nat) : Blk :=
  match b.regionAt slot with
  | some (r, e) =>
    let e1 := { e with wear := BitVec.ofNat 18 (min (e.wear.toNat + 1) 262143) }
    (b.putRegion r e1).wearDue r e1
  | none =>
    let old := b.slotSt slot
    let w := min (old.wear.toNat + 1) 262143
    let worn := decide (wearCeiling ≤ wearL old.use (b.slotCls slot) w)
    let b1 := b.setSlot slot { old with wear := BitVec.ofNat 18 w, retire := old.retire || (old.use == .hotPool && worn) }
    if worn && old.use == .free then b1.onTwill fun t => { t with retireDue := t.retireDue ++ [(slot, 0)] } else b1

/-- A tracker entry folds: WEAR increments from a count of 32,768, once, and the count is dropped, also where it has reached 65,536 before its wrap was served, of which R68 says nothing (DESIGN CHOICE, log 15); HOT of a region whose entry folds becomes 0 (R52). -/
def Blk.foldCount (b : Blk) (slot : Nat) : Blk :=
  match b.twill.tracker.find slot with
  | none => b
  | some (n, _) =>
    let b1 := b.onTwill fun t => { t with tracker := t.tracker.del slot }
    let b2 := if 32768 ≤ n then b1.wearUp slot else b1
    match b2.regionAt slot with
    | some (r, e) => b2.putRegion r { e with hot := 0 }
    | none => b2

/-- Line writes on a slot count in the tracker of 16,384 entries; a new slot displaces the entry unused longest (R68, log 15). A count that has reached 65,536 waits for its wrap to be served (WEAR_INCREMENT). -/
def Blk.countWrites (b : Blk) (slot n : Nat) : Blk :=
  let b1 := if b.twill.tracker.has slot || decide (b.twill.tracker.length < 16384) then b
    else match oldestTracked b.twill.tracker with
      | some k => b.foldCount k
      | none => b
  b1.onTwill fun t => { t with tracker := t.tracker.put slot ((t.tracker.getD slot (0, 0)).1 + n, b.now) }

/-- The next line of the ring that takes a record, counted on over the ring's wraps (R82): a retired line and one of a die that is gone are passed over (R434). -/
def Blk.ringFree (b : Blk) : Nat :=
  ((List.range 256).map fun k => b.twill.ringNext + k).find? (fun i => !(b.lineGone (b.ringLoc (i % 32768)) || b.media.retired.has (b.ringLoc (i % 32768)))) |>.getD b.twill.ringNext

/-- A journal record is written and verified at the next free line of the ring of 32,768 (R82), and its write counts on its slot (R68). -/
def Blk.journalRec (b : Blk) (type : Nat) (items : List Nat) : Blk :=
  let at_ := b.ringFree
  let i := at_ % 32768
  let x : JRec := { seq := b.twill.jseq + 1, type := type, items := items, line := i }
  let b1 := b.onTwill fun t => { t with jseq := x.seq, ringNext := at_ + 1, journal := (x :: t.journal).take 32768, records := t.records + 1, recordsW := t.recordsW + 1 }
  (b1.storeLine (b1.ringLoc i) { data := packBytes 1024 x.bytes, md := recordMd type x.seq }).countWrites (ringSlot b.dieCount i) 1

/-- A slot is retired: it is never used again (R74), with its journal record (R82) and event 0x4001; the spare count follows, and with it M9 (R77). The reason is 0 ceiling, 1 program failure, 2 failed die (log 25). While the journal takes no record, the retirement waits (R78). -/
def Blk.retireSlot (b : Blk) (slot wear reason : Nat) : Blk :=
  if b.journalWait then (b.setSlot slot { b.slotSt slot with wear := BitVec.ofNat 18 wear, leaving := true }).onTwill fun t => { t with retireDue := t.retireDue ++ [(slot, reason)] }
  else ((((b.setSlot slot { use := .retired, wear := BitVec.ofNat 18 wear }).onTwill fun t => { t with retired := t.retired + 1 }).journalRec 0x08 [slot, reason]).reportUnit 0x4001 8 slot).lifeCheck

/-- Retirements that are due are carried out while the journal takes records (R74, R78). -/
def Blk.retireWaiting (b : Blk) : Blk :=
  if b.journalWait then b
  else b.twill.retireDue.foldl (fun c x => c.retireSlot x.1 (c.slotWear x.1) x.2) (b.onTwill fun t => { t with retireDue := [] })

/-- A demotion joins the record that gathers (R82). -/
def Blk.gatherDemotion (b : Blk) (li : Nat) : Blk := b.onTwill fun t => { t with gatherD := t.gatherD ++ [(li, b.now)] }

/-- A freed slot joins the record that gathers (R82). -/
def Blk.gatherFreed (b : Blk) (slot : Nat) : Blk := b.onTwill fun t => { t with gatherF := t.gatherF ++ [(slot, b.now)] }

/-- A record that gathers is due: it is full, or its first item has waited 100 µs (R82). -/
def Blk.gatherDue (b : Blk) (l : List (Nat × Nat)) : Bool := decide (12 ≤ l.length) || (match l.head? with
  | some x => decide (x.2 + 100000 ≤ b.now)
  | none => false)

/-- The copy at a hot place becomes invalid in its tile row (R62). -/
def Blk.invalidate (b : Blk) (e : HotEntry) : Blk :=
  let k := e.hslot.toNat * 16 + e.stripe.toNat / 64
  b.onTwill fun t => { t with rows := t.rows.put k { t.rows.getD k {} with invalid := (t.rows.getD k {}).invalid + 1 } }

/-! ### Partitions -/

/-- A command word goes out to a die, with the die's next SEQ (R180). -/
def Blk.sendDie (b : Blk) (d : Nat) (c : DieCmd) : Blk :=
  (b.onDie d fun x => { x with seq := x.seq + 1 }).emit (.ca (d / 8) (BitVec.ofNat 8 (1 <<< (d % 8))) (c.word (b.die d).seq))

/-- PGM or OVW of a partition's program goes out, and its SEQ is kept (R180, R189). -/
def Blk.sendProgram (b : Blk) (pid line : Nat) (ovw : Bool) : Blk :=
  let d := pid / 32
  let c : DieCmd := if ovw then .ovw (BitVec.ofNat 5 (pid % 32)) (BitVec.ofNat 23 line) else .pgm (BitVec.ofNat 5 (pid % 32)) (BitVec.ofNat 23 line)
  (b.onPart pid fun p => { p with pseq := (b.die d).seq, refused := 0 }).sendDie d c

/-- The slot on which a program's line write counts (R68). -/
def ProgFor.slot : ProgFor → Nat
  | .append _ s _ _ => s
  | .writeThrough _ s _ _ => s
  | .copy _ s _ _ => s
  | .job _ x => x.slot
  | .close x => x.slot
  | .rewrite x => x.slot
  | .record x => x.slot

/-- A program or overwrite starts on its partition; Tweed counts it and its transfer (R388, R397), the tracker its line write (R68). -/
def Blk.startProgram (b : Blk) (x : Pend) : Blk :=
  let pid := pidOf x.loc
  let ch := pid / 256
  let b1 := b.onPart pid fun p => { p with op := .program (x.loc % 2 ^ 23) x.c x.why x.ovw x.denim 0, suspended := false, suspTotal := 0, suspCount := 0, since := b.now }
  (((b1.sendProgram pid (x.loc % 2 ^ 23) x.ovw).tw (32 + ch) 1).twChan ch (if x.ovw then 3 else 2)).countWrites x.why.slot 1

/-- Tweed counts the transfer of the lines at some locations on their channels (R388, log 75). -/
def Blk.countTransfers (b : Blk) (locs : List Nat) : Blk := locs.foldl (fun b loc => b.tw (32 + pidOf loc / 256) 1) b

/-- Transfers that the write of a line takes: with its write-verify in Denim (R32). -/
def writeTransfers (c : Cls) (locs : List Nat) : List Nat := if c = .denim then locs ++ locs else locs

/-- A line of the metadata area's own is programmed and verified, and counts on its slot (R26, R32, R68). -/
def Blk.putOwnLine (b : Blk) (x : Mem) (type v : Nat) (bytes : List Byte) : Blk :=
  let loc := b.memLoc x
  ((b.storeLine loc { data := packBytes 1024 bytes, md := recordMd type v }).countTransfers (writeTransfers .denim [loc])).countWrites x.slot 1

/-- The partition has no operation running. -/
def PartSt.isIdle (p : PartSt) : Bool := p.op == .idle

/-- Partitions of a die that program, overwrite, stand suspended or wait for their write-verify (R25, R192). -/
def Blk.programming (b : Blk) (d : Nat) : Nat :=
  (b.media.parts.filter fun e => e.1 / 32 == d && (match e.2.op with
    | .program _ _ _ _ _ _ => true
    | .verify _ _ _ _ _ _ => true
    | _ => false)).length

/-- A line's program may start on a partition: nothing runs on it and no read of it is on its way, its die and channel take writes, and fewer than 8 partitions of the die program (R25). -/
def Blk.mayProgram (b : Blk) (pid : Nat) : Bool :=
  (b.part pid).isIdle && (b.part pid).sent.isNone && !b.dieFailed (pid / 32) && !b.chanHeld (pid / 256) && decide (b.programming (pid / 32) < 8)

/-- A program starts on its partition, or waits for it (R25). -/
def Blk.program (b : Blk) (x : Pend) : Blk :=
  if b.mayProgram (pidOf x.loc) && !(b.media.pend.any fun y => pidOf y.loc == pidOf x.loc) then b.startProgram x else b.onMedia fun m => { m with pend := m.pend ++ [x] }

/-- Programs that wait for a die's partitions start as these allow, oldest first. -/
def Blk.pump (b : Blk) (d : Nat) : Blk :=
  (b.media.pend.filter fun x => dieOfLoc x.loc == d).foldl (fun b x =>
    if b.mayProgram (pidOf x.loc) then (b.onMedia fun m => { m with pend := m.pend.erase x }).startProgram x else b) b

/-! ### Lanes -/

/-- Sequence of a lane's open stripe (R81). -/
def Lane.seq (l : Lane) : Nat := l.base + l.stripe

/-- Stripe number of a lane's open stripe within its slot. -/
def Lane.stripeNo (l : Lane) : Nat := l.row * 64 + l.stripe

/-- Location of the lane's next position. -/
def Blk.laneLoc (b : Blk) (l : Lane) : Nat := b.slotLine l.cls l.slot l.stripeNo l.pos

/-- The gate has chosen a lane's next position for a write-through write (R148). -/
def Blk.laneChosen (b : Blk) (n : Nat) : Bool := b.path.acc.any fun x => x.lane == some n

/-- A lane that R61 lets a line be appended to. -/
def Blk.laneQualifies (b : Blk) (li : Nat) (l : Lane) : Bool :=
  l.open_ && decide (l.pos < 16) && l.cls == b.classOf li && (match b.hotFind li with
    | none => true
    | some (_, e) =>
      let s := b.rowBase e.hslot.toNat (e.stripe.toNat / 64) + e.stripe.toNat % 64
      decide (s < l.seq) || (s == l.seq && decide (e.pos.toNat < l.pos)))

/-- A class has a lane with an open stripe (R58). -/
def Blk.classOpen (b : Blk) (c : Cls) : Bool := b.twill.lanes.any fun e => e.2.open_ && e.2.cls == c

/-- A lane moves to the next row of its class in plan order, or has no open stripe when the plan holds none (R81). -/
def Blk.nextRow (b : Blk) (n : Nat) : Blk :=
  match b.twill.lanes.find n with
  | none => b
  | some l =>
    match b.twill.plan.find? fun x => b.slotCls (x.1 / 16) == l.cls with
    | none => b.onTwill fun t => { t with lanes := t.lanes.put n { l with open_ := false } }
    | some (row, base) =>
      b.onTwill fun t => { t with plan := t.plan.erase (row, base), rows := t.rows.put row { base := base, planned := true, cls := l.cls },
                                  lanes := t.lanes.put n { cls := l.cls, slot := row / 16, row := row % 16, base := base } }

/-- A stripe closes: its parity lines are programmed with the stripe sequence in their metadata; positions never programmed count as zeros and as invalid (R62). In one step at the hold-up flush (`now`), else each in its partition; a parity member of a failed die stays missing. Past the last stripe of the row, the lane takes its next row. -/
def Blk.closeStripe (b : Blk) (n : Nat) (now : Bool := false) : Blk :=
  match b.twill.lanes.find n with
  | none => b
  | some l =>
    if !l.open_ || l.pos == 0 then b
    else
      let put (b : Blk) (i : Nat) : Blk :=
        let x : Mem := { cls := l.cls, slot := l.slot, stripe := l.stripeNo, m := parityMember l.cls l.stripeNo i }
        let loc := b.memLoc x
        let c : MLine := { data := if i = 0 then l.parity else l.parityQ, md := hotParityMd i l.seq }
        if now || b.lineGone loc then ((b.storeLine loc c).countWrites l.slot 1).countTransfers (writeTransfers l.cls [loc])
        else b.program { loc := loc, c := c, why := .close x, ovw := false, denim := l.cls == .denim }
      let b1 := (List.range (widthOf l.cls - 16)).foldl put b
      let k := l.slot * 16 + l.row
      let b2 := b1.onTwill fun t => { t with
        rows := t.rows.put k { t.rows.getD k {} with invalid := (t.rows.getD k {}).invalid + (16 - l.pos), closed := (t.rows.getD k {}).closed || decide (l.stripe = 63) },
        lanes := t.lanes.put n { l with stripe := l.stripe + 1, pos := 0, parity := 0, parityQ := 0, lost := [] } }
      if l.stripe = 63 then b2.nextRow n else b2

/-- The line of position 15 of a lane's stripe has been programmed: the stripe is closed (R62). -/
def Blk.closeFull (b : Blk) (slot stripe pos : Nat) (now : Bool := false) : Blk :=
  if pos ≠ 15 then b else match b.twill.lanes.find? fun e => e.2.open_ && e.2.slot == slot && e.2.stripeNo == stripe && decide (16 ≤ e.2.pos) with
    | some e => b.closeStripe e.1 now
    | none => b

/-! ### Tags and appends -/

/-- A line's tag changes with its MINOR kept (R244). -/
def Blk.setTag (b : Blk) (li : Nat) (tag : BitVec 56) : Blk :=
  let ti := tagIdx li
  let t := b.tagLine ti
  (b.useTag ti).putTag ti (t.put (li % 16) (t.minorAt (li % 16)) tag)

/-- The tag cache can take another dirty tag line (R247). -/
def Blk.tagRoom (b : Blk) (li : Nat) : Bool := b.damask.tagDirty.has (tagIdx li) || decide (b.damask.tagDirty.length < 4096)

/-- A line is encrypted for a lane's next position, its data added to the partial parity, and the position taken (R61, R62, R239). Answers the block, the place and the content to program. -/
def Blk.takePosition (b : Blk) (li : Nat) (data : Line) (n : Nat) (l : Lane) : Blk × Nat × MLine :=
  let loc := b.laneLoc l
  let cipher := b.crypt (pidOf loc / 256) (.hot (writeSeq l.base l.stripeNo l.pos)) (BitVec.ofNat 36 li) data
  let b1 := (b.tw 98 1).onTwill fun t => { t with
    appended := t.appended + 1, appendedW := t.appendedW + 1,
    lanes := t.lanes.put n { l with pos := l.pos + 1, parity := l.parity ^^^ cipher, parityQ := l.parityQ ^^^ parityTerm 1 l.pos cipher } }
  (b1, loc, { data := cipher, md := hotMd li l.pos })

/-- A hot-table way for a line: its own, or a free one, kept for it until its append has ended (R62, R65). -/
def Blk.hotWayFor (b : Blk) (li : Nat) : Option Nat :=
  match b.hotFind li with
  | some (k, _) => some k
  | none => b.hotFree li

/-- The hot entry of a line is set to a location, and the copy's tag replaces the line's (R62, R242, R244); an old hot copy becomes invalid, a new entry counts as a promotion (OD 0x4010.02). -/
def Blk.setHot (b : Blk) (li slot stripe pos : Nat) : Blk :=
  match b.hotWayFor li with
  | none => b
  | some k =>
    let e : HotEntry := { tag := b.hotTag li, hslot := BitVec.ofNat 22 slot, stripe := BitVec.ofNat 10 stripe, pos := BitVec.ofNat 4 pos, li := li }
    let cipher := b.stored (b.slotLine (b.classOf li) slot stripe pos)
    let b1 := b.setTag li (b.tagOf (.hot (writeSeq (b.rowBase slot (stripe / 64)) stripe pos)) (BitVec.ofNat 36 li) cipher)
    match b.hotFind li with
    | some (_, old) => (b1.invalidate old).putHot k { e with idle := old.idle, written := old.written, demoting := old.demoting }
    | none => ((b1.putHot k e).onTwill fun t => { t with reserve := t.reserve.del k, wants := t.wants.del li }).bump 0x4010 0x02 1

/-- A line appended within one step (the flush and the write-through switch, R147, R320): programmed and, in Denim, verified, its entry switched. -/
def Blk.appendNow (b : Blk) (li : Nat) (data : Line) (n : Nat) : Blk :=
  match b.twill.lanes.find n with
  | none => b
  | some l =>
    let r := b.takePosition li data n l
    ((((r.1.storeLine r.2.1 r.2.2).countWrites l.slot 1).countTransfers (writeTransfers l.cls [r.2.1])).setHot li l.slot l.stripeNo l.pos).closeFull l.slot l.stripeNo l.pos true

/-- Lanes that a line may take, with the least-filled stripes of those that R61 admits. -/
def Blk.lanesFor (b : Blk) (li : Nat) : List Nat :=
  let l := b.twill.lanes.filter fun e => b.laneQualifies li e.2 && !b.laneChosen e.1
  (l.filter fun e => l.all fun f => decide (e.2.pos ≤ f.2.pos)).map Prod.fst

/-- The lane that a line takes: by the hash keyed by k, among the least-filled ones (R30, R61, log 16). -/
def Blk.pickLane (b : Blk) (li : Nat) : Option Nat := pickOf (b.lanesFor li) (Config.laneHash b.key li b.twill.appended)

/-! ### The cold path -/

/-- Members of a stripe that give nothing back now (R14, R44, R434). -/
def Blk.lostMembers (b : Blk) (c : Cls) (slot stripe : Nat) : List Nat :=
  (List.range (widthOf c)).filter fun m => b.locLost (b.memberLine c slot stripe m)

/-- The new content of parity line i of a place's stripe when its data line changes (R59). -/
def Blk.newParity (b : Blk) (p : Place) (i : Nat) (new : Line) : Line :=
  b.stored (b.memLoc (p.parity i)) ^^^ parityTerm i p.pos (b.stored p.loc) ^^^ parityTerm i p.pos new

/-- The line whose home is a position of a stripe of its region's slot, under a rotation offset (R57). -/
def Blk.lineHome (b : Blk) (r rot stripe pos : Nat) : Nat :=
  r * 16384 + ((List.range 16384).find? fun x =>
    let y := interleave x b.key
    ((y >>> 4) + rot) % 1024 == stripe && y % 16 == pos).getD 0

/-- Metadata of parity line i of the stripe of a region's line: the line index at position 0 of the same stripe (R24, R57). -/
def Blk.parityMd (b : Blk) (li i : Nat) : BitVec 40 :=
  let y := interleave (li &&& 0x3FFF) b.key
  homeParityMd i (b.lineHome (regionOfLine li) 0 (y >>> 4) 0)

/-- Members to write and their contents. -/
abbrev Writes := List (Mem × MLine)

/-- What a cold write puts on media: the data line and the parity lines of its stripe (R59). -/
def Blk.coldLines (b : Blk) (p : Place) (md : BitVec 40) (parMd : Nat → BitVec 40) (cipher : Line) : Writes :=
  (p.mem, { data := cipher, md := md }) :: (List.range (parities p.cls)).map fun i => (p.parity i, { data := b.newParity p i cipher, md := parMd i })

/-- Lines written within one step (the hold-up flush, R320): stored, and counted on their slots. -/
def Blk.writeNow (b : Blk) (ws : Writes) : Blk :=
  ws.foldl (fun b w => ((b.storeLine (b.memLoc w.1) w.2).countTransfers (writeTransfers w.1.cls [b.memLoc w.1])).countWrites w.1.slot 1) b

/-- What the write-back of a tag line puts on media (R247). -/
def Blk.tagWrites (b : Blk) (ti : Nat) : Writes :=
  let p := b.tagPlace ti
  b.coldLines p (tagMd ti) (fun _ => tagMd (ti - ti % 16)) (b.tagLine ti).bits

/-- A tag line is written to media within one step, by the cold path, and is clean (R247). -/
def Blk.flushTag (b : Blk) (ti : Nat) : Blk := if b.damask.tagDirty.has ti then (b.writeNow (b.tagWrites ti)).cleanTag ti else b

/-- What the write of a line's ciphertext at its home puts on media, in a migration at both slots once the stripe has been copied (R59, R72 step 3). -/
def Blk.homeWrites (b : Blk) (li : Nat) (p : Place) (cipher : Line) : Writes :=
  let here := b.coldLines p (homeMd li) (b.parityMd li) cipher
  match b.twill.mig.find (regionOfLine li) with
  | some m => if p.slot = m.old ∧ p.stripe < m.next then here ++ here.map fun w => ({ w.1 with slot := m.new }, w.2) else here
  | none => here

/-- Home place of a line whatever its hot entry. -/
def Blk.homeOf (b : Blk) (li : Nat) : Option Place := (b.regionEntry (regionOfLine li)).map fun e => b.homePlace (regionOfLine li) li e

/-- Data lines of a line's tag group that stand at home with MINOR not 0, without a hot entry (R245). -/
def Blk.groupHome (b : Blk) (ti : Nat) : List Nat :=
  let t := b.tagLine ti
  ((List.range 16).filter fun i => t.minorAt i != 0 && (b.hotFind (ti * 16 + i)).isNone).map fun i => ti * 16 + i

/-- A tag line with a new MINOR of line i. -/
def TagLine.count (t : TagLine) (i : Nat) (minor : BitVec 6) : TagLine := { t with minor := t.minor.set i minor }

/-- A tag line takes the MINOR of a line's new home copy, and its tag unless the line still has a hot copy, whose tag stands until its entry is cleared (R242, R244). -/
def Blk.homeTag (b : Blk) (t : TagLine) (li : Nat) (n : Nonce) (minor : BitVec 6) (cipher : Line) : TagLine :=
  if (b.hotFind li).isSome then t.count (li % 16) minor else t.put (li % 16) minor (b.tagOf n (BitVec.ofNat 36 li) cipher)

/-- The re-encryption of a group under a new EPOCH and MAJOR: its home lines, and the line `new` with its new data, under MINOR 1, every other MINOR 0; `src` gives the ciphertexts. Answers the new tag line and the lines with their places and ciphertexts (R245, R246). A home line that does not open is left out. -/
def Blk.regroup (b : Blk) (ti : Nat) (epoch : BitVec 8) (major : BitVec 24) (new : Option (Nat × Line)) (src : Nat → Place → Option Line) : TagLine × List (Nat × Place × Line) :=
  let kept : List (Nat × Line) := ((b.groupHome ti).filter fun l => some l != new.map Prod.fst).filterMap fun l =>
    (b.homeOf l).bind fun p => ((src l p).bind fun c => b.openLine l p c).map fun d => (l, d)
  let nonce : Nonce := .cold epoch major 1
  let lines := (kept ++ new.toList).filterMap fun x => (b.homeOf x.1).map fun p => (x.1, p, b.crypt (pidOf p.loc / 256) nonce (BitVec.ofNat 36 x.1) x.2)
  let t0 : TagLine := { b.tagLine ti with epoch := epoch, major := major, minor := List.replicate 16 0 }
  (lines.foldl (fun t x => b.homeTag t x.1 nonce 1 x.2.2) t0, lines)

/-- A group is re-encrypted within one step: its tag line reaches media first (R245). A home line that cannot be read back is poisoned (R98). -/
def Blk.reencrypt (b : Blk) (ti : Nat) (epoch : BitVec 8) (major : BitVec 24) (new : Option (Nat × Line)) : Blk :=
  let g := b.regroup ti epoch major new fun _ p => some (b.stored p.loc)
  let lost := (b.groupHome ti).filter fun l => !(g.2.any fun x => x.1 == l)
  g.2.foldl (fun b x => b.writeNow (b.homeWrites x.1 x.2.1 x.2.2)) (lost.foldl (fun b l => b.poisonLine l 0x5801) (((b.useTag ti).putTag ti g.1).flushTag ti))

/-- MAJOR of a line's group is used up and its next cold write would re-encrypt it (R246). -/
def Blk.exhausted (b : Blk) (li : Nat) : Bool :=
  let t := b.tagLine (tagIdx li)
  t.major == BitVec.allOnes 24 && t.minorAt (li % 16) == 63

/-- The next cold write of a line takes its MINOR to 64: its group is re-encrypted (R245). -/
def Blk.regroups (b : Blk) (li : Nat) : Bool := (b.tagLine (tagIdx li)).minorAt (li % 16) == 63

/-- A cold write's counter: MINOR + 1 (R244). Answers the block with the tag line updated, and the ciphertext. -/
def Blk.coldCipher (b : Blk) (li : Nat) (p : Place) (data : Line) : Blk × Line :=
  let ti := tagIdx li
  let t := b.tagLine ti
  let minor := t.minorAt (li % 16) + 1
  let n : Nonce := .cold t.epoch t.major minor
  let cipher := b.crypt (pidOf p.loc / 256) n (BitVec.ofNat 36 li) data
  ((b.useTag ti).putTag ti (b.homeTag t li n minor cipher), cipher)

/-- A line's new content is written home within one step, by the flush (R320). -/
def Blk.writeHomeNow (b : Blk) (li : Nat) (data : Line) : Blk :=
  match b.homeOf li with
  | none => b
  | some p =>
    let ti := tagIdx li
    if b.regroups li then ((b.bump 0x6800 0x06 1).reencrypt ti (b.tagLine ti).epoch ((b.tagLine ti).major + 1) (some (li, data))).tw 99 1
    else
      let r := b.coldCipher li p data
      (r.1.writeNow (r.1.homeWrites li p r.2)).tw 99 1

/-- The home copy's tag takes the place of the hot copy's, whose entry is about to be cleared (R64 step 4, R242). -/
def Blk.retag (b : Blk) (li : Nat) : Blk := match b.homeOf li with
  | none => b
  | some p =>
    let t := b.tagLine (tagIdx li)
    b.setTag li (b.tagOf (.cold t.epoch t.major (t.minorAt (li % 16))) (BitVec.ofNat 36 li) (b.stored p.loc))

/-! ### The choice of a path (R58) -/

/-- Where an evicted or write-through line goes. -/
inductive PathChoice where
  | cold
  | hot
  | wait
  deriving DecidableEq, Repr

/-- The resync after a dirty shutdown has not yet passed a line's region (R248). -/
def Blk.beforeResync (b : Blk) (li : Nat) : Bool := match b.damask.resynced with
  | some passed => !passed.contains (regionOfLine li)
  | none => false

/-- The line's home location has failed (R434). -/
def Blk.homeFailed (b : Blk) (li : Nat) : Bool := match b.homeOf li with
  | some p => b.media.retired.has p.loc
  | none => false

/-- The engine that owns a region, and the lost engines it has passed from on the way: each engine that failed without a spare leaves its regions to those that remain, a share to each in turn (R13, R15, log 83). -/
def shareOut (r : Nat) : List Nat → List Nat → Nat → List Nat × Nat
  | [], _, o => ([], o)
  | g :: rest, past, o =>
    if o = g then
      let left := ((List.range 24).map fun e => 32 + e).filter fun e => !(g :: past).contains e
      let x := shareOut r rest (g :: past) (left.getD (r / 24 % max 1 left.length) o)
      (g :: x.1, x.2)
    else shareOut r rest (g :: past) o

/-- Twill's background work pauses for a translation region: its engine is in takeover, or a share that it is part of has not been loaded by its new owner (R13 to R15). -/
def Blk.twillPaused (b : Blk) (r : Nat) : Bool :=
  let x := shareOut r b.safety.gone [] (32 + r % 24)
  (b.engine x.2).by_.isSome || x.1.any fun g => b.safety.redist.contains g

/-- The path of a line: lines of pinned and exhausted groups (R246), of regions before the resync (R248) and of failed home locations (R434) go hot and wait for a way; a line under demotion goes cold (R64 step 2); then the table of R58; a marked line whose set is full goes cold meanwhile (R65). -/
def Blk.pathFor (b : Blk) (li : Nat) (mark : Bool) : PathChoice :=
  let way := (b.hotWayFor li).isSome
  if b.damask.pinned.contains (tagIdx li) || b.exhausted li || b.beforeResync li || b.homeFailed li then
    (if way && b.classOpen (b.classOf li) && !b.appendStall then .hot else .wait)
  else if b.appendStall || !b.classOpen (b.classOf li) || b.twillPaused (regionOfLine li) then .cold
  else match b.hotFind li with
    | some (_, e) => if e.demoting then .cold else .hot
    | none => if (mark || b.marked li) && way then .hot else .cold

/-- The append stall alone sends an evicted line to the cold path (R78, OD 0x4050.06). -/
def Blk.stallsAppend (b : Blk) (li : Nat) (mark : Bool) : Bool :=
  b.appendStall && b.classOpen (b.classOf li) && !b.twillPaused (regionOfLine li) && ((b.hotFind li).isSome || (mark && (b.hotWayFor li).isSome))

/-! ### The end of a line's write -/

/-- A barrier counts one copy of a line as done (R170). -/
def Barrier.done (x : Barrier) (li : Nat) : Barrier := { x with lines := x.lines.erase li }

/-- Every barrier that started by an instant counts a line's content as written. -/
def Blk.barriersDone (b : Blk) (li upto : Nat) : Blk :=
  b.onPath fun p => { p with barriers := p.barriers.map fun x => if x.start ≤ upto then x.done li else x }

/-! ### Records of the poison list (R102) -/

/-- Line i of the list area: 128 metadata slots after the checkpoints' (log 89). -/
def recordMem (n i : Nat) : Mem :=
  { cls := .denim, slot := metaSlot n (386 + ceilDiv (capacityUnits n) 1024 + i / 16384 % 128), stripe := i % 16384 / 16, m := dataMember .denim (i % 16384 / 16) (i % 16) }

/-- The next line of the list area that can be written, by its number. -/
def Blk.recordNext (b : Blk) : Nat :=
  ((List.range 256).map fun k => b.media.nextRecord + k).find? (fun i => !(b.lineGone (b.memLoc (recordMem b.dieCount i)) || b.media.retired.has (b.memLoc (recordMem b.dieCount i)))) |>.getD b.media.nextRecord

/-- Byte for a half's source in a record, 0 for a half that leaves the list (log 89). -/
def recordSource : Option PSource → Nat
  | none => 0
  | some .external => 1
  | some .internal => 2
  | some .injected => 3

/-- The bytes of a list record: its number, the half, its source, and a CRC (log 89). -/
def recordBytes (i key : Nat) (src : Option PSource) : List Byte := withCrc32 (leBytes 8 i ++ leBytes 8 key ++ leBytes 1 (recordSource src))

/-- The record of a change is programmed and verified (R102). -/
def Blk.issueRecord (b : Blk) (e : Nat × Option PSource) : Blk :=
  let i := b.recordNext
  let x := recordMem b.dieCount i
  let c : MLine := { data := packBytes 1024 (recordBytes i e.1 (b.media.poison.find e.1)), md := recordMd 0x0D i }
  (b.onMedia fun m => { m with nextRecord := i + 1, records := m.records ++ [(x, e)] }).program { loc := b.memLoc x, c := c, why := .record x, ovw := false, denim := true }

/-- The records of every change that waits for one. -/
def Blk.issueRecords (b : Blk) : Blk := b.media.changes.foldl Blk.issueRecord (b.onMedia fun m => { m with changes := [] })

/-- The newest record of a half that is under way. -/
def Blk.recordOf (b : Blk) (key : Nat) : Option Mem := ((b.media.records.filter fun e => e.2.1 == key).getLast?).map Prod.fst

/-- A write completes, or is held until its record of the poison list is on media (R102). -/
def Blk.endWrite (b : Blk) (x : Acc) : Blk :=
  if ((b.accOf x.rid).bind Acc.record).isSome then b.onAcc x.rid fun y => { y with stage := .held } else b.finishWrite x

/-- A record is on media: the half's entry stands there, and the writes that wait for it go on (R102). -/
def Blk.recordStored (b : Blk) (x : Mem) : Blk :=
  let mine := b.media.records.filter fun e => e.1 == x
  let b1 := b.onMedia fun m => { m with
    records := m.records.filter (fun e => e.1 != x)
    entries := mine.foldl (fun l e => if m.poison.has e.2.1 then l.put e.2.1 x else l.del e.2.1) m.entries }
  (b1.path.acc.filter fun a => a.record == some x).foldl (fun b a => if a.stage == .held then b.finishWrite a else b.onAcc a.rid fun y => { y with record := none }) b1

/-- A record whose verify still mismatches is written at the next line of the list area (R102). -/
def Blk.recordAgain (b : Blk) (x : Mem) (c : MLine) : Blk :=
  let i := b.recordNext
  let y := recordMem b.dieCount i
  let b1 := (b.onMedia fun m => { m with nextRecord := i + 1, records := m.records.map fun e => if e.1 == x then (y, e.2) else e }).onPath fun p =>
    { p with acc := p.acc.map fun a => if a.record == some x then { a with record := some y } else a }
  b1.program { loc := b1.memLoc y, c := c, why := .record y, ovw := false, denim := true }

/-- Of the list only what its records on media hold survives a loss of power: changes whose record has not been stored are undone, newest first (R102). -/
def Media.undone (m : Media) : NMap PSource :=
  ((m.records.map Prod.snd) ++ m.changes).reverse.foldl (fun l e => match e.2 with
    | some s => l.put e.1 s
    | none => l.del e.1) m.poison

/-- Writes that wait for a line's program complete (R149). -/
def Blk.completeWrites (b : Blk) (li : Nat) (all : Bool) : Blk :=
  (b.path.acc.filter fun x => x.stage == .program && x.line == li && (all || x.wrote)).foldl (fun b x => b.endWrite x) b

/-- The write of a holding buffer has ended (R142): with merged data it is due again (R153); else the buffer is freed, CLN is cleared, and barriers, range and line operations and waiting writes learn of it. -/
def Blk.bufferDone (b : Blk) (n : Nat) : Blk :=
  match b.velvet.bufs.find n with
  | none => b
  | some x =>
    if x.again then (b.putBuf n { x with issued := false, again := false, home := false }).barriersDone x.li x.mergeAt
    else
      let b2 := b.onVelvet fun v => { v with bufs := v.bufs.del n }
      let b3 := match b2.resident x.li with
        | some (k, v) => if x.clean then b2.putWay k { v with cln := false } else b2
        | none => b2
      ((b3.barriersDone x.li b.now).completeWrites x.li true).maintain

/-- A line's write-through program or cold write has stored it: its writes complete; merged later writes keep WT set for a program of their own (R62, R148). The line stays in Velvet, clean. -/
def Blk.throughDone (b : Blk) (li since : Nat) : Blk :=
  let more := b.path.acc.any fun x => x.stage == .program && x.line == li && !x.wrote
  let b1 := match b.resident li with
    | some (k, v) => b.putWay k { v with wt := more, pmark := more, dirty := more }
    | none => b
  ((b1.barriersDone li (if more then since else b.now)).completeWrites li false).maintain

end Sys2Proof.Machine
end

