-- ==== Sys2Proof/Machine/Drift.lean ====
section
/-! DEFINITION. Gauze's shared operations: calibration coefficients (R115, R133), temperature bands (R117), ages (R53), the offsets of a read (R119), seeding (R126), accumulation (R121), evaluation (R122), the weak-region table (R120) and the refresh queue (R75); and what a die's status tells the device: its temperature, its alert causes and the slow-down request (R185, R360). -/

namespace Sys2Proof.Machine

/-- A quotient rounded to the nearest whole number, halves away from zero. -/
def roundDiv (n : Int) (d : Nat) : Int := if 0 ≤ n then (2 * n + d) / (2 * d) else -((2 * -n + d) / (2 * d))

/-- A number held within bounds. -/
def clampInt (v lo hi : Int) : Int := max lo (min hi v)

/-! ### Coefficients (R115, R133, R136) -/

/-- The factory's record of a die: 12 offsets, 3 exponents, θ and χ. -/
def factoryDie (d : Nat) : DieCal :=
  { off := (List.range 12).map fun i => sDec 16 (Config.factoryCal d i % 65536), nu := (List.range 3).map fun j => Config.factoryCal d (12 + j) % 65536,
    theta := Config.factoryCal d 15 % 65536, chi := sDec 16 (Config.factoryCal d 16 % 65536) }

/-- The record used when the whole set is unreadable (R136): a = 0, ν = 0.8, 1.2, 1.8, θ = 0.069, χ = 0, rounded to the units of R133. -/
def lostDie : DieCal := { off := List.replicate 12 0, nu := [205, 307, 461], theta := 4522, chi := 0 }

/-- The record of a die that no change has touched: the factory's, or R136's when the set is unreadable. -/
def Blk.baseCal (b : Blk) (d : Nat) : DieCal := if b.gauze.calPresent then factoryDie d else lostDie

/-- The record of a die in the set that Felt holds (R133). -/
def Blk.feltCal (b : Blk) (d : Nat) : DieCal := b.gauze.cal.getD d (b.baseCal d)

/-- The record of a die in Gauze's working copy (R118), whose coefficients are those in use. -/
def Blk.dieCal (b : Blk) (d : Nat) : DieCal := b.gauze.work.getD d (b.baseCal d)

/-- Before a change of the calibration set, what Felt holds of it is kept until the change is written (R279). -/
def Blk.keepCal (b : Blk) : Blk :=
  b.onGauze fun g => { g with kept := g.kept.orElse fun _ => some { present := g.calPresent, seq := g.calSeq, cal := g.cal, trims := g.trims, ircTrim := g.ircTrim } }

/-- A die record changes: in the set that goes to Felt and in the working copy (R132, R135). -/
def Blk.putCal (b : Blk) (d : Nat) (f : DieCal → DieCal) : Blk :=
  (b.keepCal).onGauze fun g => { g with cal := g.cal.put d (f (b.feltCal d)), work := g.work.put d (f (b.dieCal d)) }

/-- ν of a die and boundary, 1/256 step per decade. -/
def Blk.nuOf (b : Blk) (d j : Nat) : Int := (b.dieCal d).nu.getD j 0

/-! ### The acceleration of drift (R115): numbers in units of 2^-96 (log 92) -/

/-- One. -/
def unit96 : Nat := 2 ^ 96

/-- e^x of a small x by its power series to the 24th power. -/
def expSeries (x : Int) : Int :=
  ((List.range 24).foldl (fun (s : Int × Int) i => (s.1 + s.2, (s.2 * x).tdiv (unit96 * ((i : Int) + 1)))) (0, (unit96 : Int))).1

/-- A number squared some times. -/
def squareTimes : Nat → Nat → Nat
  | 0, v => v
  | n + 1, v => squareTimes n (v * v / unit96)

/-- e^x: the series of x / 256, squared eight times. -/
def exp96 (x : Int) : Nat := squareTimes 8 (expSeries (x.tdiv 256)).toNat

/-- The acceleration factor A(T) = e^(θ (T - 55)) of a die, of θ in 1/65,536 per °C and T in 1/16 °C (R115). -/
def accel (theta : Nat) (t : Int) : Nat := exp96 ((theta : Int) * (t - 880) * 2 ^ 76)

/-- The mean of some accelerations: their sum, and how many they are. -/
def accelSum (theta : Nat) (l : List Int) : Nat := l.foldl (fun n t => n + accel theta t) 0

/-- ln 10. -/
def ln10 : Nat := 182429585950654714090129938606

/-- 10^(p / q) - 1 rounded to the nearest whole number, at least 0 and at most 10^9. -/
def tenPower (p : Int) (q : Nat) : Nat :=
  if p ≤ 0 then 0 else if 9 * (q : Int) ≤ p then 10 ^ 9 else (2 * exp96 ((ln10 : Int) * p / q) + unit96) / (2 * unit96) - 1

/-! ### Bands and ages -/

/-- Lower threshold of a band, 1/16 °C: 25, 55 and 85 °C (R117). -/
def bandFloor (n : Nat) : Int := if n = 1 then 400 else if n = 2 then 880 else 1360

/-- The band that a temperature has reached. -/
def bandReached (t : Int) : Nat := if bandFloor 3 ≤ t then 3 else if bandFloor 2 ≤ t then 2 else if bandFloor 1 ≤ t then 1 else 0

/-- A band that a falling temperature leaves downward, 2 °C below the band's lower threshold (R117). -/
def bandDown : Nat → Int → Nat
  | 0, _ => 0
  | n + 1, t => if t ≤ bandFloor (n + 1) - 32 then bandDown n t else n + 1

/-- The band of a die after a temperature report (R117). -/
def bandNext (n : Nat) (t : Int) : Nat := if n < bandReached t then bandReached t else bandDown n t

/-- The largest number below 2^k more than a whose square is at most n. -/
def isqrtFrom : Nat → Nat → Nat → Nat
  | 0, _, a => a
  | k + 1, n, a => isqrtFrom k n (if (a + 2 ^ k) * (a + 2 ^ k) ≤ n then a + 2 ^ k else a)

/-- Integer square root of a number below 2^112. -/
def isqrt (n : Nat) : Nat := isqrtFrom 56 n 0

/-- Whole multiples of d_k = t_(k+1) - t_k = 2^(k/2) (√2 - 1) s up to a count of operating time in ms: ms (√2 + 1) / (1000 * 2^(k/2)), in exact arithmetic (R53). -/
def ageCount (ms k : Nat) : Nat :=
  if k % 2 = 0 then (ms + isqrt (2 * ms * ms)) / (1000 * 2 ^ (k / 2)) else (2 * ms + isqrt (2 * ms * ms)) / (2000 * 2 ^ (k / 2))

/-- A whole multiple of d_k is reached with a millisecond of operating time (R53). -/
def ageStep (ms k : Nat) : Bool := decide (ageCount (ms - 1) k < ageCount ms k)

/-- The age bucket, 0 to 63, of an age of t s: the highest b with t_b = 2^(b/2) - 1 at most t, that is 2^b at most (t + 1)^2 (R53). -/
def ageBucket (t : Nat) : Nat := ((List.range 64).filter fun k => decide (2 ^ k ≤ (t + 1) * (t + 1))).foldl max 0

/-- Operating time in s. -/
def Blk.opSec (b : Blk) : Nat := b.opTime / 1000

/-- Number of the area that a hot-pool tile row is (R120), by slot * 16 + row: past the region indices. -/
def rowArea (key : Nat) : Nat := 4194304 + key

/-- Number of the area that a tag region slot (Voile) or a metadata slot (Denim) is: past the tile rows. -/
def slotArea (c : Cls) (slot : Nat) : Nat := 134217728 + 2 * slot + match c with
  | .voile => 0
  | .denim => 1

/-- Age of a tag region or metadata slot (R118). -/
def Blk.slotAgeOf (b : Blk) (slot : Nat) : Nat := (b.gauze.slotAge.find slot).getD (b.gauze.slotAge.getD 4194304 0)

/-- Age of a hot-pool tile row, by its plan time (R119). -/
def Blk.rowAgeOf (b : Blk) (key : Nat) : Nat := ageBucket (b.opSec - b.gauze.rowAge.getD key 0)

/-- Age of an area (R119). -/
def Blk.areaAge (b : Blk) (area : Nat) : Nat :=
  if area < 4194304 then ((b.regionEntry area).map fun e => e.age.toNat).getD 0
  else if area < 134217728 then b.rowAgeOf (area - 4194304)
  else b.slotAgeOf ((area - 134217728) / 2)

/-- Age of a stripe of a region: of one that a rotation pass or a refresh in progress has rewritten the time since its start, else the region's AGE (R119). -/
def Blk.stripeAge (b : Blk) (r stripe : Nat) : Nat :=
  let age := ((b.regionEntry r).map fun e => e.age.toNat).getD 0
  match b.twill.rot.find r, b.twill.fresh.find r with
  | some x, f =>
    if x.cursor + 1 < (stripe : Int) then ageBucket (b.opSec - x.start)
    else match f with
      | some (next, start) => if stripe < next then ageBucket (b.opSec - start) else age
      | none => age
  | none, some (next, start) => if stripe < next then ageBucket (b.opSec - start) else age
  | none, none => age

/-- Number of the area that a stripe member lies in (R119, R120): a region, the slot that a migration copies to among its own, a hot-pool tile row, or a tag region or metadata slot. -/
def Blk.memArea (b : Blk) (x : Mem) : Nat := match b.slotUse x.slot with
  | .hotPool => rowArea (x.slot * 16 + x.stripe / 64)
  | .tag => slotArea .voile x.slot
  | .metadata => slotArea .denim x.slot
  | _ => match b.regionAt x.slot with
    | some (r, _) => r
    | none => ((b.twill.mig.find? fun e => e.2.new == x.slot).map Prod.fst).getD 0

/-- Age a of a stripe member (R119). -/
def Blk.memAge (b : Blk) (x : Mem) : Nat := match b.slotUse x.slot with
  | .region => b.stripeAge (b.memArea x) x.stripe
  | _ => b.areaAge (b.memArea x)

/-- Age a of a line (R119). -/
def Blk.placeAge (b : Blk) (li : Nat) (p : Place) : Nat :=
  if p.hot then b.rowAgeOf (p.slot * 16 + p.stripe / 64)
  else if b.slotUse p.slot == .region then b.stripeAge (regionOfLine li) p.stripe else b.memAge p.mem

/-! ### Cells (R116, R126) -/

/-- Index of a cell. -/
def cellKey (d k n j : Nat) : Nat := d * 192 + k * 12 + n * 3 + j

/-- The nearest of the numbers below a bound, ties to the lower (log 17), that satisfies a test. -/
def nearest (x bound : Nat) (ok : Nat → Bool) : Option Nat :=
  ((List.range bound).filter fun y => y != x && ok y).foldl (fun best y => match best with
    | none => some y
    | some z => if (max x y - min x y) < (max x z - min x z) then some y else some z) none

/-- Middle of a band in 1/2 °C (R126). -/
def bandMiddle2 (n : Nat) : Int := if n = 0 then -15 else if n = 1 then 80 else if n = 2 then 140 else 190

/-- OFFSET of a seeded cell, 1/16 step (R126). -/
def Blk.seedOffset (b : Blk) (d k n j : Nat) : Int :=
  let cell (k n : Nat) : Option GCell := b.gauze.cells.find (cellKey d k n j)
  let learned (k n : Nat) : Bool := match cell k n with
    | some c => decide (1 ≤ c.evals)
    | none => false
  let off (k n : Nat) : Int := ((cell k n).map GCell.offset).getD 0
  let v := match nearest k 16 fun x => learned x n with
    | some x => off x n + roundDiv (b.nuOf d j * 60206 * ((k : Int) - x)) 1600000
    | none => match nearest n 4 fun y => learned k y with
      | some y => off k y + roundDiv ((b.dieCal d).chi * (bandMiddle2 n - bandMiddle2 y)) 32
      | none => (b.dieCal d).off.getD (n * 3 + j) 0 + roundDiv (b.nuOf d j * (60206 * (k : Int) + 30103)) 1600000
  clampInt v (-4096) 4080

/-- A cell, seeded if it has never come into use (R126). -/
def Blk.cell (b : Blk) (d k n j : Nat) : GCell := (b.gauze.cells.find (cellKey d k n j)).getD { offset := b.seedOffset d k n j }

/-- Writes a cell. -/
def Blk.putCell (b : Blk) (d k n j : Nat) (c : GCell) : Blk := b.onGauze fun g => { g with cells := g.cells.put (cellKey d k n j) c }

/-- The three cells of a die, bucket and band come into use: each that has not takes its seed, which then stays (R126). -/
def Blk.openCells (b : Blk) (d a n : Nat) : Blk := (List.range 3).foldl (fun c j => c.putCell d (a / 4) n j (b.cell d (a / 4) n j)) b

/-- The stale interval L_B of a bucket, s (R124). -/
def staleInterval (k : Nat) : Nat := min 86400 (max 600 ((2 ^ (2 * k) - 1) / 4))

/-- A slot of a class has a member on a die. -/
def Blk.slotOnDie (b : Blk) (c : Cls) (slot d : Nat) : Bool := (List.range (widthOf c)).any fun m => b.memberDie slot (widthOf c) m == d

/-- Slots of the tag region and the metadata area, rising (R118). -/
def Blk.fixedSlots (b : Blk) : List Nat :=
  (List.range (slotsV b.dieCount)).filter fun slot => b.isSlot slot && (b.slotUse slot == .tag || b.slotUse slot == .metadata)

/-- Some mapped area on a die has an age in a bucket: a region, a tile row that holds lines, a tag region or a metadata slot (R124). -/
def Blk.areaIn (b : Blk) (d k : Nat) : Bool :=
  (b.regionList.any fun e => e.2.age.toNat / 4 == k && b.slotOnDie e.2.cls e.2.slot.toNat d)
    || (b.twill.rows.any fun e => b.rowAgeOf e.1 / 4 == k && b.slotOnDie (b.slotCls (e.1 / 16)) (e.1 / 16) d)
    || b.fixedSlots.any fun slot => b.slotAgeOf slot / 4 == k && b.slotOnDie (b.slotCls slot) slot d

/-- A cell of die, bucket and band is in use (R124). -/
def Blk.cellInUse (b : Blk) (d k n : Nat) : Bool := (b.die d).state == 1 && (b.die d).band == n && b.areaIn d k

/-- The offset of boundary j for a read of die d at age a in band n (R119). -/
def Blk.readOffset (b : Blk) (d j a n : Nat) : Int :=
  let o16 := (b.cell d (a / 4) n j).offset + roundDiv (b.nuOf d j * 30103 * (2 * ((a % 4 : Nat) : Int) - 3) * 4) 25600000
  clampInt (roundDiv o16 16) (-256) 255

/-- The counts of one boundary enter a cell: both sums are halved first when one would pass 65,535 (R121). -/
def GCell.add (c : GCell) (na nb errs : Nat) : GCell :=
  let half := decide (65535 < c.above + na) || decide (65535 < c.below + nb)
  { c with above := (if half then c.above / 2 else c.above) + na, below := (if half then c.below / 2 else c.below) + nb,
           reads := min 4096 (c.reads + 1), cbar := ((c.cbar : Int) + Int.tdiv (4096 * (errs : Int) - c.cbar) 4096).toNat }

/-- Bin of a histogram that an imbalance counts in (R131). -/
def histBin (na nb : Nat) : Nat := (clampInt ((na : Int) - nb) (-16) 15 + 16).toNat

/-- One boundary of a counted read: its cell and its histogram (R121, R131). -/
def Blk.gaugeOne (b : Blk) (d k n : Nat) (sg : BitVec 72) (errs j : Nat) : Blk :=
  let na := sgAbove sg j
  let nb := sgBelow sg j
  let h := (d * 3 + j) * 32 + histBin na nb
  (b.putCell d k n j ((b.cell d k n j).add na nb errs)).onGauze fun g => { g with hist := g.hist.set 0 h (min (2 ^ 32 - 1) (g.hist.getD h 0 + 1)) }

/-- A counted read adds its guard-band counts to the three cells of its die, bucket and band; a hard decode failure counts as 9 bits (R121). -/
def Blk.gauge (b : Blk) (d : Nat) (t : ReadTask) (sg : BitVec 72) (errs : Nat) : Blk :=
  (List.range 3).foldl (fun b j => b.gaugeOne d (t.age / 4) t.band sg (min errs 9) j) b

/-- One evaluation of a cell (R122). -/
def GCell.evaluate (c : GCell) (sec : Nat) : GCell :=
  let total := c.above + c.below
  let zero : GCell := { c with reads := 0, above := 0, below := 0 }
  if 64 ≤ total then
    let e := Int.tdiv (((c.above : Int) - c.below) * 4096) total
    let step0 := clampInt (Int.tdiv (-(e * 128)) 4096) (-64) 64
    let step := if c.half then Int.tdiv step0 2 else step0
    let delta := (step + 2) / 4
    let signs : BitVec 4 := if delta ≠ 0 then (c.signs <<< 1) ||| (if delta < 0 then 1 else 0) else c.signs
    let half := if delta = 0 then c.half
      else if signs = 0b0101 ∨ signs = 0b1010 then true
      else if signs &&& 0b11 = 0 ∨ signs &&& 0b11 = 0b11 then false else c.half
    { zero with offset := clampInt (c.offset + delta) (-4096) 4080, signs := signs, half := half, evals := min (c.evals + 1) 4095, last := sec, state := 1 }
  else zero

/-! ### Weak regions and the refresh queue -/

/-- Number of a line's area: its region index, or its hot-pool tile row (R120). -/
def areaOf (li : Nat) (p : Place) : Nat := if p.hot then rowArea (p.slot * 16 + p.stripe / 64) else regionOfLine li

/-- An area has been rewritten whole: its entry of the weak-region table is cleared (R120). -/
def Blk.areaNew (b : Blk) (area : Nat) : Blk := b.onGauze fun g => { g with weakRgn := g.weakRgn.del area }

/-- t*_op of a die: as last fitted, before the first fit the model refresh interval (R127, log 33), s. -/
def Blk.refreshAge (b : Blk) (d : Nat) : Nat := ((b.gauze.fit.find d).map Fit.tOp).getD (b.cfg 0x5000 0x05)

/-- The area with the lowest count; of several the one of the lowest number (DESIGN CHOICE, log 91: R120 names none). -/
def leastWeak (t : NMap Nat) : Option Nat :=
  (t.foldl (fun best e => match best with
    | none => some e
    | some x => if e.2 < x.2 then some e else some x) (none : Option (Nat × Nat))).map Prod.fst

/-- A weak line or hard decode failure counts in its area (R120). -/
def Blk.weakCount (b : Blk) (area : Nat) : Blk :=
  let t := b.gauze.weakRgn
  let t1 := if t.has area || decide (t.length < 4096) then t else match leastWeak t with
    | some k => t.del k
    | none => t
  b.onGauze fun g => { g with weakRgn := t1.put area (t1.getD area 0 + 1) }

/-- A region takes its place in the refresh queue of 65,536, earliest first; one predicted later than all of a full queue stays out (R75). -/
def Blk.offerRefresh (b : Blk) (r sec : Nat) : Blk :=
  let q := b.twill.refresh.filter fun e => e.1 != r
  let q1 := (q.takeWhile fun e => decide (e.2 ≤ sec)) ++ [(r, sec)] ++ (q.dropWhile fun e => decide (e.2 ≤ sec))
  b.onTwill fun t => { t with refresh := q1.take 65536 }

/-- A weak line, of data or of parity, is queued for rewrite, at most 4,096 (R97). -/
def Blk.queueWeak (b : Blk) (x : Mem) : Blk :=
  if b.media.weak.contains x || decide (4096 ≤ b.media.weak.length) then b
  else b.onMedia fun m => { m with weak := m.weak ++ [x] }

/-! ### What a die reports -/

/-- The slow-down request is raised: one warning, and DevLoad takes its floor (R230, R360). -/
def Blk.slowDown (b : Blk) : Blk :=
  if b.thermal.req.isSome then b
  else ((((b.onThermal fun t => { t with req := some b.now }).faultPin).bump 0x7800 0x05 1).onHA fun s => { s with dlFloor := max s.dlFloor 3 }).onHB (fun s => { s with dlFloor := max s.dlFloor 3 })
    |>.report { code := 0x7802 }

/-- A die's own temperature, or, its sensor failed, that of sensor floor(channel / 2) plus 5 °C, and 4.5 °C more without valid trims (R18, R359), 1/16 °C. -/
def Blk.dieTemp (b : Blk) (d : Nat) : Int :=
  let x := b.die d
  if x.tval then x.temp
  else (((b.sensor (d / 16)).temp).getD 0) / 4 + 80 + (if b.gauze.calPresent then 0 else 72)

/-- A mode register of a die (R198). -/
def dieMr (x : DieSt) (addr : Nat) : BitVec 16 :=
  BitVec.ofNat 16 (x.mr.getD addr (match addr with
    | 0x01 => 0x0230
    | 0x02 => 64
    | 0x03 => 8
    | 0x04 => 0x640
    | 0x05 => 0x7F
    | _ => if (0x10 ≤ addr ∧ addr ≤ 0x33) ∨ (0x50 ≤ addr ∧ addr ≤ 0x73) then 32 else 0))

/-- TALRT of a die, 1/16 °C. -/
def talrtOf (x : DieSt) : Int := ((dieMr x 0x04).setWidth 12).toInt

/-- THERM's bit of a die's AMASK is written (R197). -/
def Blk.maskTherm (b : Blk) (d : Nat) (on : Bool) : Blk :=
  let v := if on then dieMr (b.die d) 0x05 ||| 0x10 else dieMr (b.die d) 0x05 &&& 0x6F
  (b.sendDie d (.mrw 0x05 v)).onDie d fun x => { x with mr := x.mr.put 5 v.toNat }

/-- The span below TALRT goes on or ends; after 10 ms of it THERM's AMASK bit is set again (R197). -/
def Blk.coolDie (b : Blk) (d : Nat) : Blk :=
  let x := b.die d
  let since := if x.temp < talrtOf x then some (x.coolAt.getD b.now) else none
  let b1 := b.onDie d fun x => { x with coolAt := since }
  match since with
  | some t => if t + 10000000 ≤ b.now ∧ !(dieMr x 0x05).getLsbD 4 then b1.maskTherm d true else b1
  | none => b1

/-- A status a die returns: TEMP and TVAL, its band (R117), a failed sensor's warning once (R18, event 0x3804), and THERM (R197, R360). -/
def Blk.dieStatus (b : Blk) (d : Nat) (alrt : BitVec 7) (tval : Bool) (temp : Int) : Blk :=
  let was := (b.die d).tval
  let b1 := b.onDie d fun x => { x with tval := tval, temp := if tval then temp else x.temp, astat := alrt, reportAt := b.now }
  let b2 := (b1.onDie d fun x => { x with band := bandNext x.band (b1.dieTemp d) }).coolDie d
  let b3 := if was && !tval then b2.reportUnit 0x3804 3 d else b2
  if alrt.getLsbD 4 then (b3.onDie d fun x => { x with thermAt := some b.now }).slowDown else b3

end Sys2Proof.Machine
end

