-- ==== Sys2Proof/Machine/Fetch.lean ====
section
/-! DEFINITION. The read path's shared operations: the acceptance gate (R37, R38, R148), queued reads, reconstruction (R43, R44), deep recovery (R47 to R50), the delivery of a line to its readers (R10, R99), the Damask alarm (R249), and the acceptance of a request (R6, R37, R146, R161 to R163, R361). -/

namespace Sys2Proof.Machine

/-! ### The Damask alarm (R249) -/

/-- A region answers as a locked one: its alarm entry is locked, its bit is set, or the keys are zeroized, from when on reads complete with poison and writes are discarded everywhere (R255). -/
def Blk.regionLocked (b : Blk) (r : Nat) : Bool :=
  b.damask.state == 3 || b.damask.locks.contains r || (match b.damask.alarm.find r with
    | some (_, l) => l
    | none => false)

/-- The reaction of OD 0x6810.02 to an alarm. -/
def Blk.alarmReact (b : Blk) (r : Nat) : Blk :=
  match b.cfg 0x6810 0x02 with
  | 1 => match b.damask.alarm.find r with
    | some (n, _) => b.onDamask fun d => { d with alarm := d.alarm.put r (n, true) }
    | none => b.onDamask fun d => { d with locks := insUniq r d.locks }
  | 2 => b.safeStop 0x6801
  | _ => b

/-- The alarm event, which carries the region index and the DPA; the unit class is that of a region, its number the index's low 16 bits. -/
def Blk.alarmEvent (b : Blk) (r dpa : Nat) : Blk :=
  (b.bump 0x6810 0x03 1).report { code := 0x6801, cls := 8, unit := BitVec.ofNat 16 r, dpa := some dpa, data := leBytes 4 r }

/-- The unlocked entry with the lowest count. -/
def leastAlarm (t : NMap (Nat × Bool)) : Option Nat :=
  (t.foldl (fun best e => if e.2.2 then best else match best with
    | none => some (e.1, e.2.1)
    | some x => if e.2.1 < x.2 then some (e.1, e.2.1) else some x) (none : Option (Nat × Nat))).map Prod.fst

/-- A Damask failure counts for its region; at the threshold and each multiple of it the alarm is raised and the reaction applies, and with every entry locked at once (R249). -/
def Blk.damaskFailure (b : Blk) (li : Nat) : Blk :=
  let r := regionOfLine li
  let t := b.damask.alarm
  let b0 := b.bump 0x6800 0x04 1
  let slot : Option (NMap (Nat × Bool)) :=
    if t.has r || decide (t.length < 4096) then some t else (leastAlarm t).map fun k => t.del k
  match slot with
  | none => (b0.alarmEvent r (dpaOfLine li)).alarmReact r
  | some t1 =>
    let old := t1.getD r (0, false)
    let n := old.1 + 1
    let b1 := b0.onDamask fun d => { d with alarm := t1.put r (n, old.2) }
    let th := b.cfg 0x6810 0x01
    if th ≠ 0 ∧ n % th = 0 then (b1.alarmEvent r (dpaOfLine li)).alarmReact r else b1

/-! ### Queued reads and reconstruction -/

/-- A read of a stripe member joins its partition's queue (R37). -/
def Blk.enqueue (b : Blk) (x : Mem) (why : ReadFor) (acceptedAt : Nat) : Blk :=
  let loc := b.memLoc x
  b.onPart (pidOf loc) fun p => { p with queue := p.queue ++ [{ why := why, loc := loc, mem := x, queuedAt := acceptedAt }] }

/-- A write-through program runs on the partition (R148), a record of the poison list likewise (R102). -/
def PartSt.throughProgram (p : PartSt) : Bool :=
  match p.op with
  | .program _ _ (.writeThrough _ _ _ _) _ _ _ => true
  | .program _ _ (.record _) _ _ _ => true
  | .verify _ _ (.writeThrough _ _ _ _) _ _ _ => true
  | .verify _ _ (.record _) _ _ _ => true
  | _ => false

/-- A write-through program, or that of a record, has had its three suspensions (R148). -/
def PartSt.capped (p : PartSt) : Bool := decide (3 ≤ p.suspCount) && (match p.op with
  | .program _ _ (.writeThrough _ _ _ _) _ _ _ => true
  | .program _ _ (.record _) _ _ _ => true
  | _ => false)

/-- The priority slot of a partition takes no read: it holds one, or a write-through program there has been suspended three times (R44, R148). -/
def PartSt.slotTaken (p : PartSt) : Bool := p.prio.isSome || p.capped

/-- A stripe member gives nothing back now: it is lost, or its partition is in tile reset (R44). -/
def Blk.memLost (b : Blk) (x : Mem) : Bool := b.locLost (b.memLoc x) || b.busy (pidOf (b.memLoc x))

/-- A read takes the priority slot of its partition (R43). -/
def Blk.takeSlot (b : Blk) (x : Mem) (why : ReadFor) : Blk :=
  let loc := b.memLoc x
  (b.onPart (pidOf loc) fun p => { p with prio := some { why := why, loc := loc, mem := x, queuedAt := b.now } }).twChan (pidOf loc / 256) 8

/-- A member read takes the priority slot of its partition, or the member is an erasure: it is busy, failed or retired, or the slot is held (R43, R44). -/
def Blk.memberRead (b : Blk) (rid : Nat) (x : Mem) : Blk :=
  if b.memLost x || (b.part (pidOf (b.memLoc x))).slotTaken then b.onAcc rid fun y => { y with erased := y.erased ++ [x.m] } else b.takeSlot x (.member rid)

/-- The lane whose open stripe a place lies in. -/
def Blk.openLane (b : Blk) (p : Place) : Option Lane :=
  (b.twill.lanes.find? fun e => e.2.open_ && e.2.slot == p.slot && e.2.stripeNo == p.stripe && decide (0 < e.2.pos)).map Prod.snd

/-- Members that a reconstruction of a place reads: all others of its stripe, and in an open stripe the programmed data members only (R43, R62). -/
def Blk.reconMembers (b : Blk) (p : Place) : List Nat :=
  let own := dataMember p.cls p.stripe p.pos
  match b.openLane p with
  | some l => ((List.range l.pos).filter fun q => q != p.pos).map fun q => dataMember p.cls p.stripe q
  | none => (List.range (widthOf p.cls)).filter fun m => m != own

/-- The reconstruction of an accepted request's line starts (R43). -/
def Blk.startRecon (b : Blk) (rid : Nat) (p : Place) : Blk :=
  let b1 := ((b.onAcc rid fun x => { x with stage := .recon, recon := true, erased := [] }).bump 0x5800 0x0A 1).tw 96 1
  (b.reconMembers p).foldl (fun b m => let x : Mem := { p.mem with m := m }
    if b.underProgram (b.memLoc x) then b else b.memberRead rid x) b1

/-- No read for a purpose is waiting or under way. -/
def Blk.readsHome (b : Blk) (why : ReadFor) : Bool :=
  b.media.parts.all fun e => (e.2.prio.map ReadTask.why) != some why && (e.2.sent.map ReadTask.why) != some why

/-- No member read of a request is waiting or under way. -/
def Blk.membersHome (b : Blk) (rid : Nat) : Bool := b.readsHome (.member rid)

/-! ### A line reaches its readers -/

/-- The half of a line that an accepted read asks for, from its way once the way is whole there, none when the half is listed (R99, R101, R158). -/
def Blk.halfFor (b : Blk) (x : Acc) (line : Line) : Option Half :=
  let i := halfIdx x.req.dpa
  if b.listed (halfKey x.req.dpa) then none
  else match b.resident x.line with
    | some (_, v) => if v.wholeHalf i then some (halfOf v.data i) else some (halfOf line i)
    | none => some (halfOf line i)

/-- The data of a line's fill could not be used: a way that no write has reached and no read waits for is dropped; another's fill is due again. -/
def Blk.refillDue (b : Blk) (li : Nat) : Blk :=
  match b.resident li with
  | some (k, v) =>
    if !v.fillp then b
    else if v.mask = 0 && !(b.path.acc.any fun x => x.stage == .fill && x.line == li) then b.dropWay k
    else b.onPath fun p => { p with fills := p.fills.put li (true, 0) }
  | none => b

/-- A line read for an accepted request, its checks passed (R10): a host read completes and its line fills its way; a fill's or prefetch's data wait for their return (R99). A response that its datapath check cannot correct lists nothing (R90), and the way's fill is read again. -/
def Blk.lineData (b : Blk) (rid : Nat) (line : Line) (e : DpErr) : Blk :=
  match b.accOf rid with
  | none => b
  | some x =>
    let half (i : Bool) : Dp := e.outcome i (halfOf line i) x.req.dpa
    if x.req.kind.isHost then
      let d := half (halfIdx x.req.dpa)
      if dpBad d then (b.finishReadDp x 0 d).refillDue x.line
      else
        let b1 := b.applyFill x.line line
        match b1.halfFor x line with
        | some half => b1.finishReadDp x half d
        | none => b1.finishRead x none
    else (((b.dpCount (half false)).dpCount (half true)).endAcc x).onPath fun p => { p with fills := p.fills.put x.line (dpBad (half false) || dpBad (half true), line) }

/-! ### Tag-line reads (R43, R44, R100, R247) -/

/-- The tag cache holds a tag line. -/
def Blk.tagCached (b : Blk) (ti : Nat) : Bool := (List.range 16).any fun w => b.damask.tagWays.find (ti % 4096 * 16 + w) == some ti

/-- Some request waits for a tag line that is being read. -/
def Blk.tagComing (b : Blk) (ti : Nat) : Bool := b.path.acc.any fun x => x.tagWait && tagIdx x.line == ti

/-- A tag line is reconstructed: the other members of its stripe are read through their priority slots; one that gives nothing back, or whose slot is held, is an erasure (R43, R44). -/
def Blk.tagRecon (b : Blk) (rid ti : Nat) : Blk :=
  let p := b.tagPlace ti
  let lose (b : Blk) (m : Nat) : Blk := b.onAcc rid fun y => { y with tagLost := y.tagLost.map fun l => insUniq m l }
  let member (b : Blk) (x : Mem) : Blk :=
    if b.underProgram (b.memLoc x) then b else if b.memLost x || (b.part (pidOf (b.memLoc x))).slotTaken then lose b x.m else b.takeSlot x (.tagMember rid)
  if ((b.accOf rid).bind Acc.tagLost).isSome then b
  else ((stripeMems p.cls p.slot p.stripe).filter fun x => x.m != p.mem.m).foldl member (b.onAcc rid fun y => { y with tagLost := some [p.mem.m] })

/-- A tag line's read: through the priority slot of its partition; a slot that is held, or a member that gives nothing back, has the tag line's stripe read instead (R43, R44). -/
def Blk.readTag (b : Blk) (rid ti : Nat) : Blk :=
  let p := b.tagPlace ti
  if !(b.part (pidOf p.loc)).slotTaken && (b.underProgram p.loc || !b.memLost p.mem) then b.takeSlot p.mem (.tag rid)
  else b.tagRecon rid ti

/-- A request waits for its tag line, which it reads unless another request's read of it is under way. -/
def Blk.awaitTag (b : Blk) (rid ti : Nat) (held : Bool) : Blk :=
  let b1 := b.onAcc rid fun x => { x with tagWait := true, tagHeld := if held then some {} else none, stage := if held then .issued else x.stage }
  if b.tagComing ti then b1 else b1.readTag rid ti

/-- The line of the list area that a half's entry is read from; the spec does not say where the list keeps a half that it does not hold (log 89). -/
def Blk.listPlace (b : Blk) (key : Nat) : Mem := (b.media.entries.find key).getD (recordMem b.dieCount (key % max 1 b.media.nextRecord))

/-- A read in a marked region reads its half's list entry through the priority slot of the entry's partition (R102); where that gives nothing the table in SRAM answers (log 89). -/
def Blk.readList (b : Blk) (rid key : Nat) : Blk :=
  let x := b.listPlace key
  if (b.part (pidOf (b.memLoc x))).slotTaken || (b.memLost x && !b.underProgram (b.memLoc x)) then b
  else (b.onAcc rid fun y => { y with listWait := true }).takeSlot x (.list rid)

/-- The media read of an accepted request starts: a never-written line reads as zeros once its tag line is known (R243), a busy or retired member is reconstructed (R37, R43, R434), another joins its queue; a tag line that the cache does not hold is read in parallel (R247). A lookup that finds no entry is an internal fault (R57). -/
def Blk.startRead (b0 : Blk) (rid : Nat) : Blk :=
  match b0.accOf rid with
  | none => b0
  | some x =>
    let marked := x.req.kind.isHost && x.stage == .queued && !x.tagWait && !x.listWait && b0.regionMarked (regionOfLine x.line)
    let b := if marked then b0.readList rid (halfKey x.req.dpa) else b0
    let waits := ((b.accOf rid).map Acc.listWait).getD false
    match b.lookup x.line with
    | none => ((b.report { code := 0x4007, dpa := some x.req.dpa }).finishRead x none).refillDue x.line
    | some p =>
      let ti := tagIdx x.line
      let hit := b.tagCached ti && !b.tagComing ti
      let b1 := if x.tagWait then b else b.useTag ti
      if b.unwritten x.line then (if hit && waits then b1.onAcc rid fun y => { y with tagHeld := some {}, stage := .issued } else if hit then b1.lineData rid 0 {} else if x.tagWait then b1 else b1.awaitTag rid ti true)
      else
        let b2 := if hit || x.tagWait then b1 else b1.awaitTag rid ti false
        let b3 := b2.onAcc rid fun x => { x with loc := p.loc }
        if b.memLost p.mem then b3.startRecon rid p else b3.enqueue p.mem (.host rid) x.accAt

/-- A fill read, or a prefetch, of a line by the device itself. -/
def Blk.startFill (b : Blk) (h : Head) (li : Nat) (kind : ReqKind) (parts : List Nat) : Blk :=
  let rid := b.path.nextRid
  let x : Acc := { rid := rid, h := h, req := { kind := kind, tag := 0, hpa := 0, dpa := dpaOfLine li, order := .plain }, accAt := b.now, epoch := b.muslin.epoch,
                   rgn := ((b.rgnOf (regionOfLine li)).map Rgn.id).getD 0, parts := parts }
  (b.onPath fun p => { p with nextRid := rid + 1, acc := p.acc ++ [x] }).startRead rid

/-! ### Deep recovery -/

/-- Deep recovery of an accepted request's line starts, or the request joins one in progress (R47, R50); halves that writes have made whole in the line's way stay theirs (R99). -/
def Blk.startDeep (b : Blk) (rid : Nat) (tagBad : Bool) : Blk :=
  match b.accOf rid with
  | none => b
  | some x =>
    let b1 := b.onAcc rid fun x => { x with stage := .deep, deep := true }
    if b.path.deeps.any fun d => d.li == x.line then
      b1.onPath fun p => { p with deeps := p.deeps.map fun d => if d.li == x.line then { d with rids := d.rids ++ [rid], tagBad := d.tagBad || tagBad } else d }
    else
      let whole (i : Bool) : Bool := match b.resident x.line with
        | some (_, v) => v.wholeHalf i
        | none => false
      ((b1.onPath fun p => { p with deeps := p.deeps ++ [{ li := x.line, start := x.accAt, rids := [rid], whole0 := whole false, whole1 := whole true, tagBad := tagBad, num := rid }] }).bump 0x5810 0x03 1).tw 97 1

/-- A host write accepted for a line in deep recovery that writes its half whole (R50). -/
def Blk.deepWritten (b : Blk) (li : Nat) (i : Bool) : Blk :=
  b.onPath fun p => { p with deeps := p.deeps.map fun d => if d.li == li then (if i then { d with whole1 := true } else { d with whole0 := true }) else d }

/-- The deep recovery that a read began or joined. -/
def Blk.deepOf (b : Blk) (rid : Nat) : Option Deep := b.path.deeps.find? fun d => d.num == rid || d.rids.contains rid

/-- A half of a deep recovery's line has been written whole by a host write since. -/
def Deep.whole (d : Deep) (i : Bool) : Bool := if i then d.whole1 else d.whole0

/-- A recovery is over. -/
def Blk.dropDeep (b : Blk) (d : Deep) : Blk := b.onPath fun p => { p with deeps := p.deeps.filter fun x => x.num != d.num }

/-- The halves of a recovery's line that no host write has written whole are poisoned and listed (R47, R49). -/
def Blk.poisonRest (b : Blk) (d : Deep) : Blk :=
  let read (x : Acc) : Bool := d.rids.contains x.rid && x.req.kind.isRead
  let tx : MediaTx := if b.path.acc.any read then .hostRead else .internal
  let b1 := if d.whole0 then b else b.listInternal (2 * d.li) 0x5801 tx
  if d.whole1 then b1 else b1.listInternal (2 * d.li + 1) 0x5801 tx

/-- What a read of a line in recovery returns when it must complete now: the written data of a half written whole, else poison (R47, R49). -/
def Blk.answerDeep (b : Blk) (x : Acc) : Blk :=
  b.finishRead x (match b.resident x.line, b.bufOf x.line with
    | some (_, v), _ => if v.wholeHalf (halfIdx x.req.dpa) && !b.listed (halfKey x.req.dpa) then some (halfOf v.data (halfIdx x.req.dpa)) else none
    | none, some (_, y) => if b.listed (halfKey x.req.dpa) then none else some (halfOf y.data (halfIdx x.req.dpa))
    | none, none => none)

/-! ### The gate (R37, R38, R41, R148) -/

/-- Accepted requests of a channel whose reads have not been issued (R37). -/
def Blk.chanWindow (b : Blk) (c : Nat) : Nat := (b.media.parts.filter fun e => e.1 / 256 == c).foldl (fun n e => n + e.2.queue.length) 0

/-- A write-through write's lane has been chosen with its next position in the partition, and its program has not started (R148). -/
def Blk.throughHeld (b : Blk) (pid : Nat) : Bool :=
  b.path.acc.any fun x => match x.lane.bind fun n => b.twill.lanes.find n with
    | some l => pidOf (b.laneLoc l) == pid
    | none => false

/-- A partition and its channel have room for one more request (R37), and no write-through program holds it (R148). -/
def Blk.gatePart (b : Blk) (pid : Nat) : Bool :=
  decide ((b.part pid).queue.length < 2) && decide (b.chanWindow (pid / 256) < 7) && !(b.part pid).throughProgram && !b.throughHeld pid

/-- A background read may enter a partition's queue: the gate would admit it (R37), its guards included. -/
def Blk.gateRead (b : Blk) (pid : Nat) : Bool := b.gatePart pid && !(b.part pid).progGuard && !(b.part pid).resetGuard

/-- The partitions on which a request to a place holds its reservation: the target's, or, the target busy, those of the other members (R37, R38). -/
def Blk.gateParts (b : Blk) (p : Place) : List Nat := if b.busy (pidOf p.loc) then (b.peers p).map pidOf else [pidOf p.loc]

/-- The acceptance gate of R37 for a line. A line without an entry is not held; one whose entry or hot-table set is being restored is (R93). -/
def Blk.gateOpen (b : Blk) (li : Nat) : Bool :=
  !b.twill.mapDown.contains (regionOfLine li) && !b.twill.hotDown.contains (b.hotSet li) && match b.lookup li with
  | none => true
  | some p =>
    let t := b.part (pidOf p.loc)
    (b.gateParts p).all (fun q => b.gatePart q) && !t.progGuard && !t.resetGuard

/-- Partitions that a line's request reserves. -/
def Blk.reserves (b : Blk) (li : Nat) : List Nat := match b.lookup li with
  | some p => b.gateParts p
  | none => []

/-- Some request holds a reservation on a line: its map entry is not switched (R38). -/
def Blk.lineReserved (b : Blk) (li : Nat) : Bool :=
  b.path.acc.any fun x => x.line == li && (x.stage == .queued || (x.stage == .recon && x.moved)) && !x.wrote

/-- Some request holds a reservation on a partition: until its read is issued, or its member reads are (R38). -/
def Blk.reserved (b : Blk) (pid : Nat) : Bool :=
  b.path.acc.any fun x => x.parts.contains pid && (x.stage == .queued || (x.stage == .recon && x.moved))

/-! ### Ordering (R161 to R163) -/

/-- The Dynamic Capacity region of a request. -/
def Blk.reqRegion (b : Blk) (r : Req) : Option Nat := (b.rgnOf (regionOfLine (lineOf r.dpa))).map Rgn.id

/-- Requests of a head, not completed, that arrived before a request and lie in its region (R156, R157). -/
def Blk.earlier (b : Blk) (h : Head) (r : Req) : List Req :=
  let all := (b.head h).ingress ++ ((b.path.acc.filter fun x => x.h == h && x.req.kind.isHost).map Acc.req)
  all.filter fun e => decide (e.seq < r.seq) && b.reqRegion e == b.reqRegion r

/-- The ordering rules let a request be accepted: no earlier acquire or sync access to its region is open; a release or sync access has no earlier access open; a sync access has the lowest ticket open. -/
def Blk.orderOpen (b : Blk) (h : Head) (r : Req) : Bool :=
  let es := b.earlier h r
  let blocks (e : Req) : Bool := e.order == .sync || (e.order == .relAcq && e.kind.isRead)
  let strict := r.order == .sync || (r.order == .relAcq && r.kind.isWrite)
  (es.all fun e => !blocks e) && (!strict || es.isEmpty) && (r.order != .sync || b.path.tickets.all fun t => decide (r.ticket ≤ t))

/-! ### Conditions on writes (R146, R148) -/

/-- Write-through writes in flight (R145). -/
def Blk.wtInFlight (b : Blk) : Nat := (b.path.acc.filter fun x => x.stage == .program && x.req.kind.isWrite).length

/-- The write makes a line dirty: it is neither dirty in Velvet nor in a holding buffer (R146). -/
def Blk.dirtiesLine (b : Blk) (li : Nat) : Bool :=
  match b.resident li with
  | some (_, v) => !v.dirty
  | none => (b.bufOf li).isNone

/-- A lane for a write-through write of a line: it qualifies, and its next position's partition has no operation running, an empty queue and an empty priority slot (R148). -/
def Blk.throughLane (b : Blk) (li : Nat) (l : Lane) : Bool :=
  let p := b.part (pidOf (b.laneLoc l))
  b.laneQualifies li l && b.mayProgram (pidOf (b.laneLoc l)) && p.queue.isEmpty && p.prio.isNone && p.sent.isNone

/-- The lanes among which the gate chooses one for a write-through write (R148). -/
def Blk.throughLanes (b : Blk) (li : Nat) : List Nat := (b.twill.lanes.filter fun e => b.throughLane li e.2 && !b.laneChosen e.1).map Prod.fst

/-- Velvet's conditions on a write in write-back mode (R146). -/
def Blk.writeBackOpen (b : Blk) (li : Nat) : Bool :=
  let held := (b.resident li).isSome || (b.bufOf li).isSome
  let set := velvetSet li
  let place := held || (match b.victim set false with
    | none => false
    | some w => match b.velvet.ways.find (set * 16 + w) with
      | some v => !v.dirty || b.freeBuf.isSome
      | none => true)
  place && (!b.dirtiesLine li || decide (b.dirtyCount < b.velvet.budget))

/-- Velvet's conditions on a write in write-through mode, its line in Velvet (R146, R148). -/
def Blk.writeThroughOpen (b : Blk) (li : Nat) : Bool :=
  let resident := match b.resident li with
    | some (_, v) => v.whole
    | none => (b.bufOf li).isSome
  resident && decide (b.wtInFlight < 1024) && !b.appendStall && (b.hotWayFor li).isSome && !(b.throughLanes li).isEmpty

/-- The write is discarded on acceptance, so that Velvet's conditions do not apply to it: its region is locked (R249), or M9 holds (R77). -/
def Blk.discards (b : Blk) (li : Nat) : Bool := b.regionLocked (regionOfLine li) || b.holds 9

/-- Velvet's conditions on a write. -/
def Blk.velvetOpen (b : Blk) (li : Nat) : Bool :=
  b.discards li || (if b.persistence = 0 then b.writeBackOpen li else b.writeThroughOpen li)

/-! ### Serving and the rate limit -/

/-- The heads accept requests (R311): in M4, M7, M8 and M9, with no apply, flush or stop that closes acceptance. -/
def Blk.serving (b : Blk) : Bool :=
  b.memoryActive && !b.stopped && !b.modes.closed && !b.modes.stopping && (b.eff == 4 || b.eff == 7 || b.eff == 8 || b.eff == 9)

/-- Requests that a head has accepted in the 1-µs window of now (R361). -/
def Blk.windowUsed (b : Blk) (h : Head) : Nat := if (b.head h).winStart = b.now / 1000 then (b.head h).winCount else 0

/-- The rate limit lets a head accept (R361). -/
def Blk.rateOpen (b : Blk) (h : Head) : Bool := b.thermal.limit == 0 || decide (b.windowUsed h < b.thermal.limit)

/-- Conditions that hold a request now: bit 0 partition, bit 1 dirty budget and Velvet, bit 2 ordering. -/
def Blk.holdsNow (b : Blk) (h : Head) (r : Req) : Nat :=
  b2n (!b.gateOpen (lineOf r.dpa)) + 2 * b2n (r.kind.isWrite && !b.velvetOpen (lineOf r.dpa)) + 4 * b2n (!b.orderOpen h r)

/-- Holds that begin are counted once for each request and condition (R388 +7 to +9, OD 0x6000.07); a hold by the dirty budget has a DevLoad floor (R230). -/
def Blk.countHolds (b : Blk) (h : Head) (new : Nat) : Blk :=
  let b1 := if new.testBit 0 then b.twHead h 7 1 else b
  let b2 := if new.testBit 1 then ((b1.twHead h 8 1).bump 0x6000 0x07 1).onHead h fun s => { s with dlFloor := max s.dlFloor 2 } else b1
  if new.testBit 2 then b2.twHead h 9 1 else b2

/-- A request at ingress is held by what holds it now. -/
def Blk.noteHolds (b : Blk) (h : Head) (r : Req) : Blk :=
  let n := b.holdsNow h r
  (b.countHolds h ((n ^^^ r.held) &&& n)).onHead h fun s => { s with ingress := s.ingress.map fun q => if q.seq == r.seq then { q with held := q.held ||| n } else q }

/-! ### Acceptance -/

/-- A half of a way's line is lost: it is poisoned and listed with source Internal, and its bytes are discarded (R90, R93, log 101). -/
def Blk.loseHalf (b : Blk) (k : Nat) (v : VWay) (i : Bool) (code : BitVec 16) (tx : MediaTx) (addr : Bool) : Blk :=
  let gone (w : VWay) : VWay := { w with data := putHalf w.data i (BitVec.allOnes 64) 0, mask := w.mask ||| halfMask i }
  (b.listInternal (2 * v.lineAt k + b2n i) code tx addr).onVelvet fun x => { x with ways := x.ways.put k (gone (x.ways.getD k v)) }

/-- A line of Velvet whose beats fail their check (R90): of a dirty line the affected halves are poisoned and listed, their bytes discarded, an error of the state word or tag affecting both; a clean line is dropped, and what asks for it reads media. -/
def Blk.velvetCheck (b : Blk) (li : Nat) (e : DpErr) : Blk :=
  match b.resident li with
  | none => b
  | some (k, v) =>
    let half (i : Bool) : Dp := if e.state then .uncorrectable else e.outcome i (halfOf v.data i) (dpaOfLine li + b2n i * 64)
    let b1 := (b.dpCount (half false)).dpCount (half true)
    let lose (i : Bool) (b : Blk) : Blk :=
      if dpBad (half i) then b.loseHalf k v i 0x5803 .hostRead (half i == .address) else b
    if !dpBad (half false) && !dpBad (half true) then b1
    else if v.dirty then lose true (lose false b1)
    else if v.fillp then b1 else b1.dropWay k

/-- A line on its way from Velvet to a channel (R90): beats that cannot be corrected stop it, and it is read again from its SRAM words; a beat on which Damask's keystreams disagree a second time poisons its half. Answers the block, and whether the line goes on. -/
def Blk.egress (b : Blk) (li : Nat) (data : Line) (e : EgressErr) : Blk × Bool :=
  let half (i : Bool) : Dp := e.dp.outcome i (halfOf data i) (dpaOfLine li + b2n i * 64)
  let b1 := (b.dpCount (half false)).dpCount (half true)
  if dpBad (half false) || dpBad (half true) then (b1, false)
  else (if 2 ≤ e.keystreams then b1.listInternal (2 * li + b2n e.half) 0x5803 else b1, true)

/-- A read's service on acceptance: a locked region or a listed half answers poison (R101, R249), a hit its data (R99, R142), a line in fill or recovery joins (R50, R112), and a miss reads media, into a clean way where there is one (R141). Every host access of a resident line makes its way most recently used and clears PF (R140, R141). -/
def Blk.acceptRead (b0 : Blk) (x : Acc) (e : DpErr) : Blk :=
  let li := x.line
  let i := halfIdx x.req.dpa
  let b := if e.velvet then b0.velvetCheck li e else b0
  let b1 := match b.resident li with
    | some (k, v) => (b.putWay k { v with pf := false }).touchWay k
    | none => b
  let hit (b : Blk) (data : Line) : Blk := ((b.onAcc x.rid fun y => { y with hit := true }).twHead x.h 3 1).finishReadDp { x with hit := true } (halfOf data i) (if e.velvet then .ok else e.outcome i (halfOf data i) x.req.dpa)
  if b.regionLocked (regionOfLine li) || (b.listed (halfKey x.req.dpa) && (!b.regionMarked (regionOfLine li) || (b.resident li).isSome || (b.bufOf li).isSome)) then b1.finishRead x none
  else match b.resident li with
    | some (_, v) => if v.wholeHalf i then hit b1 v.data else b1.onAcc x.rid fun y => { y with stage := .fill }
    | none => match b.bufOf li with
      | some (_, y) => hit b y.data
      | none =>
        let b1 := b.twHost x.h 4 1
        if b.path.deeps.any fun d => d.li == li then b1.startDeep x.rid false
        else if (b.lookup li).isNone then (b1.report { code := 0x4007, dpa := some x.req.dpa }).finishRead x none
        else match b1.allocate li true { tag := 0, fillp := true, mask := 0 } with
          | some b2 => b2.startRead x.rid
          | none => (b1.bump 0x6000 0x08 1).startRead x.rid

/-- Poison bookkeeping of a write that is kept: host poison lists the half, a whole write without it takes the half off the list (R101, R103). -/
def Blk.writePoison (b : Blk) (x : Acc) : Blk :=
  let k := halfKey x.req.dpa
  if x.req.poison then b.listHalf k .external
  else if x.req.mask = BitVec.allOnes 64 && b.listed k then b.unlistHalf k else b

/-- A write's bytes enter Velvet: its way, its holding buffer, or a way of its own with a fill for the rest (R99, R142, R153). -/
def Blk.mergeWrite (b : Blk) (x : Acc) (mark : Bool) : Blk :=
  let li := x.line
  let i := halfIdx x.req.dpa
  let through := b.persistence != 0
  match b.resident li with
  | some (k, v) =>
    let v1 := v.write i x.req.mask x.req.data mark through
    let b1 := ((b.putWay k v1).touchWay k).twHead x.h 4 1
    let b2 := b1.onAcc x.rid fun y => { y with hit := true }
    if v.fillp && v1.whole then b2.cancelFill li else b2
  | none => match b.bufOf li with
    | some (n, y) => ((b.putBuf n (y.write b.now i x.req.mask x.req.data mark)).twHead x.h 4 1).onAcc x.rid fun y => { y with hit := true }
    | none =>
      match b.allocate li false ({ tag := 0, fillp := true, mask := 0 : VWay }.write i x.req.mask x.req.data mark through) with
      | some b1 => b1.startFill x.h li .fill x.parts
      | none => b

/-- A write's service on acceptance: discarded with completion in a locked region (R249), in M9 with its half poisoned (R77), on a datapath error with its half poisoned (R90), or without an entry (R57); else merged, complete at once in write-back mode and after its program in write-through mode (R12, R99, R148). -/
def Blk.acceptWrite (b : Blk) (x : Acc) (e : DpErr) : Blk :=
  let li := x.line
  let d := e.outcome (halfIdx x.req.dpa) x.req.data x.req.dpa
  let recorded (b : Blk) : Blk :=
    let c := b.issueRecords
    if b.media.changes.any fun e => e.1 == halfKey x.req.dpa then c.onAcc x.rid fun y => { y with record := c.recordOf (halfKey x.req.dpa) } else c
  let discard (b : Blk) : Blk := ((b.twHead x.h 11 1).issueRecords).finishWrite x
  let lost (b : Blk) : Blk := (recorded (b.twHead x.h 11 1)).endWrite x
  let mark := b.marksLine li
  let b0 := b.countCandidate li
  if b.regionLocked (regionOfLine li) then discard b0
  else if b.holds 9 then lost (b0.listInternal (halfKey x.req.dpa) 0x4005 .hostWrite)
  else if (b.lookup li).isNone then discard (b0.report { code := 0x4007, dpa := some x.req.dpa })
  else if dpBad d then lost ((b0.dpCount d).listInternal (halfKey x.req.dpa) 0x5803 .hostWrite (d == .address))
  else
    let b1 := ((b0.dpCount d).noteWrite li).writePoison x
    let b2 := if x.req.mask = BitVec.allOnes 64 then b1.deepWritten li (halfIdx x.req.dpa) else b1
    let b3 := recorded (b2.mergeWrite x mark)
    let b4 := if mark then b3.promoteWay li else b3
    if b.persistence = 0 then b4.endWrite x
    else
      let lane := if (b4.resident li).isNone || b.path.acc.any fun y => y.line == li && y.lane.isSome then none else pickOf (b.throughLanes li) (Config.laneHash b.key li b.twill.appended)
      b4.onAcc x.rid fun y => { y with stage := .program, lane := lane }

/-- Tweed's counts of an accepted request, and its place in the windows of R230 and R361; ordering waits are left out of DevLoad's hold (log 18). -/
def Blk.countAccepted (b : Blk) (h : Head) (r : Req) : Blk :=
  let hold := b.since r.arrive
  let rd := r.kind.isRead
  let b1 := (b.twHead h (if rd then 0 else 1) 1).twHost h (if rd then 1 else 2) 1
  let b2 := if rd then b1 else (b1.twHead h 2 1).twHost h 3 1
  let b3 := (b2.twHead h 5 hold).twHost h 5 hold
  let b4 := if 1000 < hold then b3.twHead h 6 1 else b3
  let b5 := match r.order with
    | .plain => b4
    | .sync => b4.tw 108 1
    | .relAcq => b4.tw (if rd then 110 else 109) 1
  b5.onHead h fun s => { s with dlHold := s.dlHold + (if r.held.testBit 2 then 0 else hold), dlCount := s.dlCount + 1,
                                winCount := (if s.winStart = b.now / 1000 then s.winCount else 0) + 1, winStart := b.now / 1000, sampled := s.sampled + 1 }

/-- The request is the one in 2^k that a head samples (R391). -/
def Blk.samples (b : Blk) (h : Head) : Bool :=
  b.cfg 0x8800 (0x05 + headNum h) == 1 && (b.head h).sampled % 2 ^ b.cfg 0x8800 (0x07 + headNum h) == 0

/-- A head accepts a request that stands at its ingress (R6, R37): it leaves the ingress buffer, is looked up in Velvet and served. -/
def Blk.acceptNow (b : Blk) (h : Head) (r : Req) (d : DpErr) : Blk :=
  let li := lineOf r.dpa
  let rid := b.path.nextRid
  let b1 := (b.countAccepted h r).onHead h fun s => { s with ingress := s.ingress.filter fun q => q.seq != r.seq }
  let x : Acc := { rid := rid, h := h, req := r, accAt := b.now, hold := b.since r.arrive, epoch := b.muslin.epoch, rgn := (b.reqRegion r).getD 0,
                   parts := b.reserves li, moved := (match b.lookup li with
                     | some p => b.busy (pidOf p.loc)
                     | none => false), sample := b1.samples h }
  let b2 := b1.onPath fun p => { p with nextRid := rid + 1, acc := p.acc ++ [x] }
  if r.kind.isRead then b2.acceptRead x d else b2.acceptWrite x d

/-- A write-through write whose line finds its hot-table set full has the idlest way demoted for it (R148). -/
def Blk.probeWay (b : Blk) (li : Nat) : Blk :=
  if b.persistence ≠ 0 && !b.discards li && (b.hotWayFor li).isNone then b.demoteFor li else b

/-- The fill that the gate probe starts for a write-through write whose line is not in Velvet (R148). -/
def Blk.probeFill (b : Blk) (h : Head) (li : Nat) : Blk :=
  if b.persistence ≠ 0 && !b.discards li && (b.resident li).isNone && (b.bufOf li).isNone && b.gateOpen li then
    match b.allocate li true { tag := 0, fillp := true, mask := 0 } with
    | some b1 => b1.startFill h li .fill (b.reserves li)
    | none => b
  else b

end Sys2Proof.Machine
end

