-- ==== Sys2Proof/Machine/Slots.lean ====
section
/-! DEFINITION. What becomes of a slot, or of a hot-pool tile row, that is given up: its tiles are reset in the background, and then it is free (R55, R67, R72, R217, R435), or the slot is retired (R74, R434). -/

namespace Sys2Proof.Machine

/-- Partition and tile number of member m in tile row t of a slot (R28). -/
def Blk.tileOf (b : Blk) (slot t m : Nat) : Nat × Nat :=
  (partId (b.memberDie slot (widthOf (b.slotCls slot)) m) (partitionOf slot t), Config.pickTile slot m t % 131072)

/-- Every line of a tile is blank. -/
def Blk.tileBlank (b : Blk) (x : Nat × Nat) : Bool :=
  b.media.lines.all fun e => decide (e.1 < locOf x.1 (x.2 * 64)) || decide (locOf x.1 (x.2 * 64) + 64 ≤ e.1)

/-- Tiles of a tile row that a reset can reach and that are not blank; those of a failed die need none. -/
def Blk.rowTiles (b : Blk) (slot t : Nat) : List (Nat × Nat) :=
  ((List.range (widthOf (b.slotCls slot))).map fun m => b.tileOf slot t m).filter fun x => !b.dieFailed (x.1 / 32) && !b.tileBlank x

/-- A tile waits on its partition for a reset that a tile row is waiting for (R42). -/
def Blk.queueReset (b : Blk) (key : Nat) (x : Nat × Nat) : Blk :=
  b.onPart x.1 fun p => { p with resetWait := p.resetWait ++ [(x.2, 0, b.now, some key)] }

/-- A slot that has been given up joins the free slots, and the record that gathers, once all its tiles have been reset (R72 step 5, R82); with a tile that has failed, or at the ceiling, it is retired (R74). -/
def Blk.slotFreed (b : Blk) (slot : Nat) : Blk :=
  let x := b.slotSt slot
  if !x.leaving || x.resets ≠ 0 || (b.twill.retireDue.any fun e => e.1 == slot) then b
  else if x.retire then b.retireSlot slot x.wear.toNat 1
  else if wearCeiling ≤ wearL .free (b.slotCls slot) x.wear.toNat then b.retireSlot slot x.wear.toNat 0
  else ((b.setSlot slot { use := .free, wear := x.wear }).gatherFreed slot).lifeCheck

/-- The tiles of a slot that are not blank wait for their resets (R72 steps 2 and 5). -/
def Blk.resetSlot (b : Blk) (slot : Nat) : Blk :=
  let l := (List.range 16).flatMap fun t => (b.rowTiles slot t).map fun x => (slot * 16 + t, x)
  l.foldl (fun b e => b.queueReset e.1 e.2) (b.setSlot slot { b.slotSt slot with resets := (b.slotSt slot).resets + l.length })

/-- A slot is given up: its wear stays with it, its tiles are reset in the background, and then it is free (R55, R72, R217). -/
def Blk.freeSlot (b : Blk) (slot wear : Nat) : Blk :=
  ((b.setSlot slot { b.slotSt slot with wear := BitVec.ofNat 18 wear, leaving := true }).resetSlot slot).slotFreed slot

/-- A region's slot is given up: retired where a location of it has failed (R434), it is at the ceiling or it still holds a failed member position (R74), else free. -/
def Blk.giveUp (b : Blk) (slot wear : Nat) : Blk :=
  let c := b.slotCls slot
  if (b.slotSt slot).retire then b.retireSlot slot wear 1
  else if wearCeiling ≤ wearL .region c wear then b.retireSlot slot wear 0
  else if (List.range (widthOf c)).any fun m => b.dieFailed (b.memberDie slot (widthOf c) m) || b.safety.rebuild.contains (slot * 18 + m) then b.retireSlot slot wear 2
  else b.freeSlot slot wear

/-! ### Hot-pool slots and rows -/

/-- The hot pool's slots: those of the first provisioning that are still in it, and those that have entered it (R55, R74). -/
def Blk.hotSlots (b : Blk) : List Nat :=
  let n := b.dieCount
  let first := 18 * (tagGroups n + metaGroups n)
  let was := (List.range 1024).map fun i => first + i
  (was.filter fun x => b.slotUse x == .hotPool) ++ (b.twill.slots.filter fun e => e.2.use == .hotPool && !was.contains e.1).map Prod.fst

/-- A tile row may enter a plan: it is in no plan, blank, and of a hot-pool slot that takes plan rows (R67, R74, R81). -/
def Blk.rowFree (b : Blk) (key : Nat) : Bool :=
  !b.twill.rows.has key && !(b.twill.plan.any fun x => x.1 == key) && !(b.twill.planNext.any fun x => x.1 == key) && !(b.slotSt (key / 16)).retire

/-- The free tile rows of a class (R66, R67). -/
def Blk.freeRows (b : Blk) (c : Cls) : List Nat :=
  ((b.hotSlots.filter fun s => b.slotCls s == c).flatMap fun s => (List.range 16).map fun t => s * 16 + t).filter fun k => b.rowFree k

/-- A hot-pool slot that holds no line and is in no plan. -/
def Blk.slotEmpty (b : Blk) (slot : Nat) : Bool :=
  (b.twill.rows.all fun e => e.1 / 16 != slot || (e.2.bad && e.2.resets == 0)) && (b.twill.hot.all fun e => e.2.hslot.toNat != slot)
    && !(b.twill.lanes.any fun e => e.2.open_ && e.2.slot == slot) && !(b.twill.plan.any fun x => x.1 / 16 == slot) && !(b.twill.planNext.any fun x => x.1 / 16 == slot)

/-- One slot leaves the hot pool and another enters it, journalled (R74, R82 type 0x09). -/
def Blk.swapHot (b : Blk) (old new : Nat) : Blk :=
  let b1 := (b.journalRec 0x09 [old, new]).setSlot new { b.slotSt new with use := .hotPool }
  (b1.resetSlot new).onTwill fun t => { t with rows := t.rows.filter fun e => e.1 / 16 != old }

/-- A hot-pool slot that is to be retired and holds no line any more leaves the pool, the least-worn free slot of its width taking its place (R74). In M9 none is left for that (R77). -/
def Blk.exchangeSlot (b : Blk) (slot reason : Nat) : Blk :=
  let x := b.slotSt slot
  if x.use != .hotPool || !x.retire || !b.slotEmpty slot || b.journalWait || b.holds 9 then b
  else
    let b0 := b.widen (b.slotCls slot)
    match b0.leastFree (b.slotCls slot) with
    | some (new, _) => (b0.useFree.swapHot slot new).retireSlot slot x.wear.toNat reason
    | none => b

/-- A reset that a tile row waited for is over: with its last one a row under collection joins the free rows (R67), and a slot that has been given up the free slots. -/
def Blk.resetOver (b : Blk) (key : Nat) : Blk :=
  let slot := key / 16
  if b.slotUse slot == .hotPool && (b.twill.rows.has key) then
    let r := b.twill.rows.getD key {}
    let r1 := { r with resets := r.resets - 1 }
    if 0 < r1.resets || r1.bad then b.onTwill fun t => { t with rows := t.rows.put key r1 }
    else (b.onTwill fun t => { t with rows := t.rows.del key }).exchangeSlot slot 0
  else (b.setSlot slot { b.slotSt slot with resets := (b.slotSt slot).resets - 1 }).slotFreed slot

/-- A tile row that holds nothing any more waits for the resets of its tiles; with no tile to reset it is free at once (R67). -/
def Blk.resetRow (b : Blk) (key : Nat) (x : TileRow) : Blk :=
  let tiles := b.rowTiles (key / 16) (key % 16)
  let b1 := b.onTwill fun t => { t with rows := t.rows.put key { base := x.base, cls := x.cls, resets := tiles.length } }
  if tiles.isEmpty then b1.resetOver key else tiles.foldl (fun b y => b.queueReset key y) b1

/-- The resets that wait or run on a partition of a failed die are over. -/
def Blk.dropResets (b : Blk) (pid : Nat) : Blk :=
  let p := b.part pid
  let run : List Nat := match p.op with
    | .reset _ _ (some k) => [k]
    | _ => []
  (run ++ p.resetWait.filterMap fun x => x.2.2.2).foldl Blk.resetOver
    (b.onPart pid fun p => { p with resetWait := [], op := if p.resetting then .idle else p.op })

end Sys2Proof.Machine
end

