-- ==== Sys2Proof/Machine/Failure.lean ====
section
/-! DEFINITION. What the failure of a unit does: a die (R405, R406, R412), a channel (R408), an engine (R14, R15) and an SRAM bank (R93, R409, R410). -/

namespace Sys2Proof.Machine

/-- A member of a reconstruction is an erasure (R44). -/
def Blk.erase (b : Blk) (rid m : Nat) : Blk := b.onAcc rid fun x => { x with erased := insUniq m x.erased }

/-- The reconstruction of an accepted request's line starts unless it has started, or deep recovery has (R43). -/
def Blk.reconOnce (b : Blk) (rid : Nat) : Blk :=
  match b.accOf rid with
  | none => b
  | some x =>
    if x.stage == .recon || x.stage == .deep then b
    else match b.lookup x.line with
      | some p => b.startRecon rid p
      | none => b

/-- Changes a background job. -/
def Blk.onJob (b : Blk) (n : Nat) (f : Job → Job) : Blk := match b.twill.jobs.find n with
  | some j => b.onTwill fun t => { t with jobs := t.jobs.put n (f j) }
  | none => b

/-- A job's read of a member has ended, `ok` or not: one that has not is an erasure (R44). -/
def Blk.jobRead (b : Blk) (n : Nat) (x : Mem) (ok : Bool) : Blk :=
  b.onJob n fun j => { j with out := j.out.erase x, got := if ok then x :: j.got else j.got, bad := if ok then j.bad else x :: j.bad }

/-- A read that can give nothing back is answered by what stands in for it: a host's by reconstruction, a member's as an erasure, a tag line's by its stripe, a job's as an erasure (R14, R42 to R44). -/
def Blk.standIn (b : Blk) (t : ReadTask) : Blk :=
  match t.why with
  | .host rid => b.reconOnce rid
  | .member rid => b.erase rid t.mem.m
  | .tag rid => match b.accOf rid with
    | some x => b.readTag rid (tagIdx x.line)
    | none => b
  | .tagMember rid => b.onAcc rid fun y => { y with tagLost := y.tagLost.map fun l => insUniq t.mem.m l }
  | .job n => b.jobRead n t.mem false
  | .list rid => b.onAcc rid fun y => { y with listWait := false }
  | .verify => b.onPart (pidOf t.loc) fun p => { p with op := match p.op with
      | .verify line c why ovw tries _ => .verify line c why ovw tries false
      | o => o }

/-- The reads that wait for a partition or are on their way from it are stood in for: the partition has become busy (R14, R42, R44). -/
def Blk.reroute (b : Blk) (pid : Nat) : Blk :=
  let p := b.part pid
  (p.queue ++ p.prio.toList ++ p.sent.toList).foldl Blk.standIn (b.onPart pid fun p => { p with queue := [], prio := none, sent := none })

/-- Every partition of a die. -/
def Blk.rerouteDie (b : Blk) (d : Nat) : Blk := (List.range 32).foldl (fun b q => b.reroute (partId d q)) b

/-- The tile resets of a failed die are over (R405). -/
def Blk.dropDieResets (b : Blk) (d : Nat) : Blk := (List.range 32).foldl (fun b q => b.dropResets (partId d q)) b

/-! ### Dies and channels -/

/-- Key of a member position. -/
def positionKey (slot m : Nat) : Nat := slot * 18 + m

/-- Member positions on a die of the slots of a use and width, in ascending slot number (R406). -/
def Blk.positionsOf (b : Blk) (d : Nat) (use : SlotUse) (c : Cls) : List Nat :=
  ((List.range (slotsV b.dieCount)).filter fun slot => b.isSlot slot && b.slotUse slot == use && b.slotCls slot == c).flatMap fun slot =>
    ((List.range (widthOf c)).filter fun m => b.memberDie slot (widthOf c) m == d).map fun m => positionKey slot m

/-- The member positions of a failed die in the order of their rebuild: Denim metadata, Denim region, tag region and Voile region slots (R406). -/
def Blk.positionsOn (b : Blk) (d : Nat) : List Nat := b.positionsOf d .metadata .denim ++ b.positionsOf d .region .denim ++ b.positionsOf d .tag .voile ++ b.positionsOf d .region .voile

/-- Members of a slot on failed dies, or whose rebuild is still to come after their die has been replaced (R406, R407). -/
def Blk.failedMembers (b : Blk) (c : Cls) (slot : Nat) : List Nat :=
  (List.range (widthOf c)).filter fun m => b.dieFailed (b.memberDie slot (widthOf c) m) || b.safety.rebuild.contains (positionKey slot m)

/-- A line that no working member, Velvet way or buffer can give back is lost: both halves are poisoned (R412). -/
def Blk.loseLine (b : Blk) (li : Nat) (p : Place) : Blk :=
  if b.lineGone p.loc && !b.unwritten li && (b.resident li).isNone && (b.bufOf li).isNone then
    (b.poisonLine li 0x5808).bump 0x7C10 0x07 2
  else b

/-- Stripes that have lost more members than their class tolerates lose the lines of those members (R412). -/
def Blk.lossCheck (b : Blk) : Blk :=
  let home := (b.regionList.filter fun e => decide (toleranceOf e.2.cls < (b.failedMembers e.2.cls e.2.slot.toNat).length)).foldl (fun b e =>
    (List.range 16384).foldl (fun b x =>
      let li := e.1 * 16384 + x
      if (b.hotFind li).isSome then b else b.loseLine li (b.homePlace e.1 li e.2)) b) b
  b.twill.hot.foldl (fun b e => match b.lookup e.2.li with
    | some p => if toleranceOf p.cls < (b.failedMembers p.cls p.slot).length then b.loseLine e.2.li p else b
    | none => b) home

/-- Dies failed, OD 0x7C10.01. -/
def Blk.failedDies (b : Blk) : Nat := (b.media.dies.filter fun e => e.2.state == 3).length

/-- A die fails: its reads are reconstructed, its positions wait for rebuild, Denim first, M8's cause bit 0 is set (R405, R406, R412). -/
def Blk.dieFail (b : Blk) (d : Nat) : Blk :=
  if (b.die d).state = 3 then b
  else
    let b1 := (b.onDie d fun x => { x with state := 3 }).reportUnit 0x3801 3 d
    let b2 := ((b1.rerouteDie d).dropDieResets d).degrade 0 true
    let new := (b2.positionsOn d).filter fun k => !b2.safety.rebuild.contains k
    (b2.onSafety fun s => { s with rebuild := s.rebuild ++ new, rebuildTotal := (if s.rebuild.isEmpty then 0 else s.rebuildTotal) + new.length }).lossCheck

/-- A channel is retired: all its dies in use fail at once (R408). -/
def Blk.channelFail (b : Blk) (c : Nat) : Blk :=
  if (b.chan c).retired then b
  else
    let b1 := ((b.onChan c fun x => { x with state := 6, retired := true, retrain := false }).reportUnit 0x3002 2 c).degrade 1 true
    (List.range b.media.perChan).foldl (fun b i => b.dieFail (8 * c + i)) b1

/-- A program or reset failure on a tile: 32 different tiles of a die within 60 s of operating time fail the die (R405). -/
def Blk.tileFailure (b : Blk) (d tile : Nat) : Blk :=
  let recent := (b.die d).badTiles.filter fun t => decide (b.opTime - t.2 ≤ 60000) && t.1 != tile
  let all := (tile, b.opTime) :: recent
  let b1 := b.onDie d fun x => { x with badTiles := all }
  if 32 ≤ all.length then b1.dieFail d else b1

/-! ### Engines -/

/-- Changes an engine. -/
def Blk.onEngine (b : Blk) (e : Nat) (f : EngineSt → EngineSt) : Blk :=
  b.onSafety fun s => { s with engines := s.engines.set (engineInit e) e (f (s.engines.getD e (engineInit e))) }

/-- The engine of the boot assignment whose role an engine holds, through the spares that have taken over. -/
def Blk.roleBase (b : Blk) : Nat → Nat → Nat
  | 0, e => e
  | n + 1, e => if e < 60 then e else if (b.engine e).took = 255 then e else Blk.roleBase b n (b.engine e).took

/-- The first spare engine that is idle, E60 first (R14). -/
def Blk.spareEngine (b : Blk) : Option Nat := [60, 61, 62, 63].find? fun e => (b.engine e).state == 1

/-- A channel or translation engine fails (R14, R15): a spare takes over, the channel's dies counting as busy meanwhile; with no spare, the channel is retired, or the engine's regions are redistributed under M8's cause bit 3. Management engines never move to spares. -/
def Blk.engineFail (b : Blk) (e : Nat) : Blk :=
  let role := (b.engine e).role
  let base := b.roleBase 4 e
  if (b.engine e).state ≠ 0 ∨ 33 ≤ role then b
  else
    let b1 := (b.onEngine e fun x => { x with state := 2 }).detect 5 false
    match b1.spareEngine with
    | some sp =>
      let b2 := b1.report { code := 0xA001, cls := 4, unit := BitVec.ofNat 16 e, data := [BitVec.ofNat 8 e, BitVec.ofNat 8 sp] }
      let b3 := (b2.onEngine base fun x => { x with by_ := some sp }).onEngine sp fun x => { x with state := 0 }
      if role < 32 then (List.range b3.media.perChan).foldl (fun b i => b.rerouteDie (8 * role + i)) b3 else b3
    | none =>
      let b2 := b1.reportUnit 0xA002 4 e
      if role < 32 then b2.channelFail role
      else (b2.onSafety fun s => { s with redist := s.redist ++ [base], gone := s.gone ++ [base] }).degrade 3 true

/-! ### SRAM banks -/

/-- Use of a bank at boot (R16), by the code of OD 0xA100.02. -/
def bankUse (k : Nat) : Nat :=
  if k ≤ 12 then 0 else if k ≤ 28 then 1 else if k ≤ 44 then 2 else if k ≤ 48 then 3 else if k ≤ 54 then 4 else if k = 55 then 5 else if k ≤ 63 then 6 else 7

/-- A bank as allocated. -/
def bankInit (k : Nat) : BankSt := { state := if k < 64 then 0 else 1, use := bankUse k }

/-- State of a bank. -/
def Blk.bank (b : Blk) (k : Nat) : BankSt := b.safety.banks.getD k (bankInit k)

/-- Changes a bank. -/
def Blk.onBank (b : Blk) (k : Nat) (f : BankSt → BankSt) : Blk :=
  b.onSafety fun s => { s with banks := s.banks.set (bankInit k) k (f (s.banks.getD k (bankInit k))) }

/-- The bank of the allocation whose use a bank serves. -/
def Blk.bankBase (b : Blk) (k : Nat) : Nat := if (b.bank k).repl = 255 then k else (b.bank k).repl

/-- The first spare bank, bank 64 first (R16). -/
def Blk.spareBank (b : Blk) : Option Nat := [64, 65].find? fun k => (b.bank k).state == 1

/-- Gauze's bank has failed with no spare: offsets are frozen at their last values (R410). -/
def Blk.gauzeFrozen (b : Blk) : Bool := (b.bank 55).state == 2 && !(b.bank 64).repl == 55 && !(b.bank 65).repl == 55

/-- Engines whose 192-KiB block of local memory lies in a bank of the engine memory. -/
def enginesIn (base : Nat) : List Nat := (List.range 64).filter fun e => decide (e * 192 / 2048 ≤ base - 49) && decide (base - 49 ≤ (e * 192 + 191) / 2048)

/-- A slice of Velvet takes no new lines: its clean lines are dropped and its dirty lines copied out as buffers allow (R410). -/
def Blk.sliceOut (b : Blk) (slice : Nat) : Blk :=
  (b.velvet.ways.filter fun e => e.1 / 16 % 16 == slice).foldl (fun b e =>
    if e.2.fillp || e.2.wt || e.2.cln then b else if e.2.dirty then b.evictWay e.1 e.2 else b.dropWay e.1)
    (b.onSafety fun s => { s with deadSlices := insUniq slice s.deadSlices })

/-- A bank fails with no spare left (R410). -/
def Blk.bankLost (b : Blk) (k : Nat) : Blk :=
  let base := b.bankBase k
  let b1 := (b.onBank k fun x => { x with state := 2, use := 8 })
  match bankUse base with
  | 2 => b1.sliceOut (base - 29)
  | 3 => b1.onDamask fun d => { d with tagWays := d.tagWays.filter fun e => decide (e.1 / 16384 ≠ base - 45) || d.tagDirty.has e.2 }
  | 4 => (enginesIn base).foldl (fun b e => b.engineFail e) b1
  | 5 => b1
  | _ => b1.detect 2 true

/-- A bank fails over to a spare, or waits for the copy that runs (R409, R412). -/
def Blk.bankFail (b : Blk) (k : Nat) : Blk :=
  if (b.bank k).state ≠ 0 ∨ b.safety.failover.map Prod.fst = some k ∨ b.safety.failoverWait.contains k then b
  else if b.safety.failover.isSome then b.onSafety fun s => { s with failoverWait := s.failoverWait ++ [k] }
  else match b.spareBank with
    | some sp => (b.onSafety fun s => { s with failover := some (k, sp) }).degrade 4 true
    | none => b.bankLost k

end Sys2Proof.Machine
end

