-- ==== Sys2Proof/Machine/Laps.lean ====
section
/-! DEFINITION. Terry's laps: what they cover and in which order (R106, R112), their pace (R108), when Terry may read (R107), their end (R111), and the member that a Denim mismatch names (R109). -/

namespace Sys2Proof.Machine

/-! ### Background operations (R220) -/

/-- A background operation runs (R220). -/
def Blk.bgRuns (b : Blk) : Bool := match b.dev.bg with
  | some (_, _, ended) => !ended
  | none => false

/-- The background operation ends, with the completion interrupt where the host has enabled it (R220, R229). -/
def Blk.bgEnds (b : Blk) : Blk := match b.dev.bg with
  | some (op, h, _) =>
    let b1 := b.onDev fun d => { d with bg := some (op, h, true) }
    if (b.head h).bgIrq then b1.raise h 0 else b1
  | none => b

/-! ### Coverage and order (R106) -/

/-- The lap of a class. -/
def Media.lap (m : Media) : Cls → Lap
  | .voile => m.lapV
  | .denim => m.lapD

/-- Changes the lap of a class. -/
def Media.onLap (m : Media) (c : Cls) (f : Lap → Lap) : Media :=
  match c with
  | .voile => { m with lapV := f m.lapV }
  | .denim => { m with lapD := f m.lapD }

/-- A tile row of the hot pool whose stripes are all closed, not being reset. -/
def Blk.closedRow (b : Blk) (slot stripe : Nat) : Bool := (b.twill.rows.find (slot * 16 + stripe / 64)).any fun x => x.closed && x.resets == 0

/-- The lap of a class covers a stripe: of a slot of its width that a region maps, that belongs to the tag region or the metadata area, or of a closed tile row (R106). -/
def Blk.lapCovers (b : Blk) (c : Cls) (slot stripe : Nat) : Bool :=
  b.isSlot slot && b.slotCls slot == c && match b.slotUse slot with
    | .region => (b.regionAt slot).isSome
    | .tag => true
    | .metadata => true
    | .hotPool => b.closedRow slot stripe
    | _ => false

/-- The first stripe that a lap covers from a stripe on, in slot order and stripe order (R106). -/
def Blk.lapNext (b : Blk) (c : Cls) (k : Nat) : Option Nat :=
  ((List.range (slotsV b.dieCount)).filter fun slot => decide (k / 1024 ≤ slot)).findSome? fun slot =>
    ((List.range 1024).map fun s => slot * 1024 + s).find? fun x => decide (k ≤ x) && b.lapCovers c slot (x % 1024)

/-- Member lines of every stripe that a class's lap covers (R106, R108). -/
def Blk.lapLines (b : Blk) (c : Cls) : Nat :=
  let regions := (b.regionList.filter fun e => e.2.cls == c).length
  let fixed := match c with
    | .voile => tagSlots b.dieCount
    | .denim => metaSlots b.dieCount
  let rows := (b.twill.rows.filter fun e => e.2.closed && e.2.resets == 0 && b.slotCls (e.1 / 16) == c).length
  widthOf c * (1024 * (regions + fixed) + 64 * rows)

/-- Words of an SRAM lap: 262,144 of 8 B in each of 66 banks (R16, R91, R110). -/
def sramWords : Nat := 66 * 262144

/-- Lap target of a class in ms (OD 0x5820.01 and .02). -/
def Blk.lapTarget (b : Blk) : Cls → Nat
  | .voile => 1000 * b.cfg 0x5820 0x01
  | .denim => 1000 * b.cfg 0x5820 0x02

/-! ### Pace and end (R108, R111) -/

/-- A new lap starts now. -/
def Lap.fresh (l : Lap) (now total : Nat) : Lap := { l with start := now, lines := 0, total := total, cursor := 0, skipped := [] }

/-- A lap ends and the next starts: a starved condition ends with a lap within its target (R111). -/
def Lap.ended (l : Lap) (now target total : Nat) : Lap :=
  { start := now, total := total, last := now - l.start, starved := l.starved && decide (target < now - l.start) }

/-- Progress is behind the pace that ends the lap in a span: the lines read have not reached total × elapsed / span (R108, R110). -/
def Lap.behind (l : Lap) (now span2 : Nat) : Bool := decide (l.lines * span2 < 2 * l.total * (now - l.start))

/-- Lines have been read in a lap; with nothing left to read it ends. -/
def Blk.lapStep (b : Blk) (c : Cls) (n : Nat) : Blk :=
  let b1 := b.onMedia fun m => m.onLap c fun l => { l with lines := l.lines + n }
  let l := b1.media.lap c
  if (b1.lapNext c l.cursor).isNone && l.skipped.isEmpty then (b1.onMedia fun m => m.onLap c fun l => l.ended b.opTime (b.lapTarget c) (b1.lapLines c)).healthCheck else b1

/-! ### When Terry may read (R107) -/

/-- The work is Terry's. -/
def Work.terrys : Work → Bool
  | .terry _ _ _ => true
  | .scan _ _ => true
  | _ => false

/-- A read task is of a request that the gate has accepted. -/
def ReadFor.isHost : ReadFor → Bool
  | .job _ => false
  | .verify => false
  | _ => true

/-- A read of Terry's waits or is under way. -/
def Blk.terryRead (b : Blk) (t : ReadTask) : Bool := match t.why with
  | .job n => (b.twill.jobs.find n).any fun j => j.work.terrys
  | _ => false

/-- Terry's reads outstanding on a channel. -/
def Blk.terryReads (b : Blk) (ch : Nat) : Nat :=
  (b.media.parts.filter fun e => e.1 / 256 == ch).foldl (fun n e => n + ((e.2.queue ++ e.2.sent.toList).filter b.terryRead).length) 0

/-- A partition has an idle cycle for Terry (R107): no operation runs on it, its queue and priority slot are empty, its channel window holds no accepted request whose read is unissued, and no read of a refresh, of garbage collection or of another job waits for it. -/
def Blk.idleCycle (b : Blk) (pid : Nat) : Bool :=
  let p := b.part pid
  let host (e : Nat × PartSt) : Bool := e.1 / 256 == pid / 256 && e.2.queue.any fun t => t.why.isHost
  let first (j : Job) : Bool := !j.work.terrys && j.reads.any fun x => pidOf (b.memLoc x) == pid
  p.op == .idle && p.queue.isEmpty && p.prio.isNone && p.sent.isNone && !b.chanHeld (pid / 256)
    && !(b.media.parts.any host) && !(b.twill.jobs.any fun e => first e.2)

/-- Terry may read from a partition for a lap or a scan (R107): in an idle cycle, with fewer than 2 of Terry's reads outstanding on the channel, and no margin read and no probe for the die waiting. -/
def Blk.terryOpen (b : Blk) (pid : Nat) : Bool :=
  b.idleCycle pid && (b.part pid).marginAgain.isNone && decide (b.terryReads (pid / 256) < 2) && !(b.gauze.probes.any fun e => e.1 / 192 == pid / 32)

/-- A member gives nothing back for good: its die has failed or its location is retired. -/
def Blk.memDead (b : Blk) (x : Mem) : Bool := b.lineGone (b.memLoc x) || b.media.retired.has (b.memLoc x)

/-! ### Stripes as Terry finds them (R109) -/

/-- A data position of a stripe as a place. -/
def Blk.placeIn (b : Blk) (c : Cls) (slot stripe pos : Nat) : Place :=
  { cls := c, slot := slot, stripe := stripe, pos := pos, hot := b.slotUse slot == .hotPool, loc := b.slotLine c slot stripe pos }

/-- The line that the metadata of a stored data line names (R24). -/
def lineOfMd (hot : Bool) (md : BitVec 40) : Nat := if hot then fld md.toNat 36 4 <<< 32 ||| fld md.toNat 4 32 else fld md.toNat 0 36

/-- The data line that a place holds, by its metadata; none where it is blank, and none in the tag region and the metadata area. -/
def Blk.lineIn (b : Blk) (p : Place) : Option Nat :=
  if b.slotUse p.slot == .tag || b.slotUse p.slot == .metadata then none else (b.media.lines.find p.loc).map fun x => lineOfMd p.hot x.md

/-- The member that the Reed-Solomon code of a Denim stripe names when one line is wrong, by its two syndromes: the data position at which both agree, or the parity line that alone differs; with the correction to XOR into it (R109). -/
def wrongMember (s0 s1 : Line) : Option (Option Nat × Nat × Line) :=
  if s0 ≠ 0 ∧ s1 ≠ 0 then ((List.range 16).find? fun p => parityTerm 1 p s0 == s1).map fun p => (some p, 0, s0)
  else if s0 ≠ 0 then some (none, 0, s0) else if s1 ≠ 0 then some (none, 1, s1) else none

end Sys2Proof.Machine
end

