-- ==== Sys2Proof/Machine/Jobs.lean ====
section
/-! DEFINITION. Twill's background jobs: reads that enter partition queues as the gate admits them (R37), reconstruction and deep recovery of what they cannot read (R43, R44, R98), the lines that they then write under their stripe locks (R59), and what the end of each does: cold writes, demotions, copies, weak lines, tag lines, re-encryptions, rotation moves, migration copies, refreshes, the resync and the rebuild. -/

namespace Sys2Proof.Machine

/-- Twill, Velvet and the channels do their own work: from Memory Active on, outside the hold-up flush and the safe stop (R311, R320, R402). -/
def Blk.works (b : Blk) : Bool := b.memoryActive && !b.stopped && b.modes.flush.isNone

/-! ### Starting and reading -/

/-- A job starts: it takes its stripe locks (R59). -/
def Blk.newJob (b : Blk) (j : Job) : Blk :=
  b.onTwill fun t => { t with jobs := t.jobs.put t.nextJob { j with since := b.now }, nextJob := t.nextJob + 1, locks := j.locks.foldl (fun l k => l.put k t.nextJob) t.locks }

/-- Some job does a work. -/
def Blk.doing (b : Blk) (w : Work) : Bool := b.twill.jobs.any fun e => e.2.work == w

/-- No stripe of some locks is held (R59). -/
def Blk.unlocked (b : Blk) (ks : List Nat) : Bool := ks.all fun k => !b.twill.locks.has k

/-- A job is over, and its locks are released (R59). -/
def Blk.dropJob (b : Blk) (n : Nat) : Blk := b.onTwill fun t => { t with jobs := t.jobs.del n, locks := t.locks.filter fun e => e.2 != n }

/-- A job's read of a member enters its partition's queue as soon as the gate admits it (R37); a member that gives nothing back is an erasure (R44), one under program is known from its buffer (R193). Terry's reads wait for an idle partition, and only a member that has failed for good is an erasure to them (R107). -/
def Blk.feedRead (n : Nat) (b : Blk) (x : Mem) : Blk :=
  let loc := b.memLoc x
  let idle := (b.twill.jobs.find n).any fun j => j.work.terrys
  if b.underProgram loc then b.onJob n fun j => { j with reads := j.reads.erase x, got := x :: j.got }
  else if (if idle then b.memDead x else b.memLost x) then b.onJob n fun j => { j with reads := j.reads.erase x, bad := x :: j.bad }
  else if b.gateRead (pidOf loc) && (!idle || b.terryOpen (pidOf loc)) then (b.onJob n fun j => { j with reads := j.reads.erase x, out := x :: j.out }).enqueue x (.job n) b.now
  else b

/-- The reads of a job that wait enter queues as the gate admits them. -/
def Blk.feedJob (b : Blk) (n : Nat) : Blk := match b.twill.jobs.find n with
  | some j => j.reads.foldl (Blk.feedRead n) b
  | none => b

/-- The waiting reads of every job, oldest job first. -/
def Blk.feedJobs (b : Blk) : Blk := b.twill.jobs.foldl (fun b e => b.feedJob e.1) b

/-- The region in which a translation engine's background job works (R13). -/
def Work.region : Work → Option Nat
  | .home li => some (regionOfLine li)
  | .collect li _ _ => some (regionOfLine li)
  | .save li _ => some (regionOfLine li)
  | .stripe r _ _ => some r
  | _ => none

/-- A job starts and its reads enter queues; of a region's background work it is an item of the engine that owns the region (log 106). -/
def Blk.startJob (b : Blk) (j : Job) : Blk :=
  let b1 := match j.work.region with
    | some r => b.twEngine (shareOut r b.safety.gone [] (32 + r % 24)).2
    | none => b
  (b1.newJob j).feedJob b1.twill.nextJob

/-! ### What a job reads back -/

/-- Members of a place's stripe that a job counts as erased. -/
def Job.erasedIn (j : Job) (p : Place) : List Nat := (j.bad.filter fun x => x.beside p.mem).map Mem.m

/-- Ciphertext of a place as a job found it: read, or solved from its stripe. -/
def Blk.jobCipher (b : Blk) (j : Job) (p : Place) : Option Line := if j.bad.contains p.mem then b.solve p (j.erasedIn p) else some (b.stored p.loc)

/-- A place is where its line's current data stand, so that its tag must pass (R98). -/
def Blk.current (b : Blk) (li : Nat) (p : Place) : Bool := (b.lookup li).map Place.loc == some p.loc && !b.unwritten li

/-- Ciphertext of a line that a job may use (R98): given back by deep recovery, or read or solved and, where the line's current data stand there, passing its tag; of a line given up what its location holds. -/
def Blk.jobLine (b : Blk) (j : Job) (li : Nat) (p : Place) : Option Line :=
  match j.held.find li with
  | some c => some c
  | none =>
    if j.given.contains li then some ((b.jobCipher j p).getD (b.stored p.loc))
    else if b.current li p then (b.jobCipher j p).filter fun c => (b.openLine li p c).isSome
    else some ((b.jobCipher j p).getD (b.stored p.loc))

/-- A stripe of a slot, by its width, slot and number. -/
abbrev StripeAt := Cls × Nat × Nat

/-- A data position of a stripe as a home place. -/
def Blk.homeAt (b : Blk) (t : StripeAt) (p : Nat) : Place := { cls := t.1, slot := t.2.1, stripe := t.2.2, pos := p, hot := false, loc := b.slotLine t.1 t.2.1 t.2.2 p }

/-- The park stripe of a region's pass. -/
def Blk.parkOf (b : Blk) (r : Nat) : StripeAt :=
  let k := match b.twill.rot.find r with
    | some x => x.park
    | none => r
  (.denim, (parkAt b.dieCount k).1, (parkAt b.dieCount k).2)

/-- Source, destination and, under the region's offset, the stripe number of the lines that a stripe job of a region handles (R60, R69, R72, R75): the resync of a region in a pass finds stripe 1,023's lines in the park stripe, in place of the stripe that the pass has emptied (R70). -/
def Blk.stripeOf (b : Blk) (r : Nat) (e : RegionEntry) (m : Move) (s : Nat) : StripeAt × StripeAt × Nat :=
  let at_ (s : Nat) : StripeAt := (e.cls, e.slot.toNat, s)
  match m with
  | .park => (at_ 1023, b.parkOf r, 1023)
  | .shift => (at_ s, at_ (s + 1), s)
  | .unpark => (b.parkOf r, at_ 0, 1023)
  | .migrate => (at_ s, (e.cls, (b.twill.mig.getD r { old := 0, new := 0 }).new, s), s)
  | .refresh => (at_ s, at_ s, s)
  | .resync => match e.rotp, b.twill.rot.find r with
    | true, some x =>
      if (s : Int) ≤ x.cursor then (at_ s, at_ s, s) else if (s : Int) = x.cursor + 1 then (b.parkOf r, b.parkOf r, 1023) else (at_ s, at_ s, s - 1)
    | _, _ => (at_ s, at_ s, s)

/-- The lines of a stripe job, each with its place in the source. -/
def Blk.stripeLines (b : Blk) (r : Nat) (e : RegionEntry) (m : Move) (s : Nat) : List (Nat × Place) :=
  let t := b.stripeOf r e m s
  (List.range 16).map fun p => (b.lineHome r e.rot.toNat t.2.2 p, b.homeAt t.1 p)

/-- The lines that a job must read back before it writes (R98). The resync takes lines as it finds them (R248). -/
def Blk.jobChecks (b : Blk) (w : Work) : List (Nat × Place) :=
  let now (li : Nat) : List (Nat × Place) := ((b.lookup li).map fun p => (li, p)).toList
  let group (ti : Nat) : List (Nat × Place) := (b.groupHome ti).filterMap fun l => (b.homeOf l).map fun p => (l, p)
  let cold (li : Nat) : List (Nat × Place) := if b.regroups li then (group (tagIdx li)).filter fun x => x.1 != li else []
  match w with
  | .cold n => match b.velvet.bufs.find n with
    | some x => cold x.li
    | none => []
  | .through li => cold li
  | .home li => now li ++ cold li
  | .collect li _ _ => now li
  | .save _ _ => []
  | .weak x => match b.media.lines.find (b.memLoc x) with
    | some y => (now (if b.slotUse x.slot == .hotPool then fld y.md.toNat 36 4 <<< 32 ||| fld y.md.toNat 4 32 else fld y.md.toNat 0 36)).filter fun q => q.2.mem == x
    | none => []
  | .tag _ => []
  | .group ti _ _ => group ti
  | .stripe _ .resync _ => []
  | .stripe r m s => match b.regionEntry r with
    | some e => b.stripeLines r e m s
    | none => []
  | .area _ _ _ => []
  | .rebuild key s =>
    let c := b.slotCls (key / 18)
    match ({ cls := c, slot := key / 18, stripe := s, m := key % 18 } : Mem).pos with
    | some p => ((b.lineIn (b.placeIn c (key / 18) s p)).map fun li => (li, b.placeIn c (key / 18) s p)).toList
    | none => []
  | .terry c slot s => (List.range 16).filterMap fun p => ((b.lineIn (b.placeIn c slot s p)).filter fun li => !(b.path.deeps.any fun d => d.li == li)).map fun li => (li, b.placeIn c slot s p)
  | .scan key _ => if b.path.deeps.any fun d => d.li == key / 2 then [] else now (key / 2)
  | .list _ => []

/-- Members of the stripes of a job's erasures that it has not asked for yet. -/
def Job.unasked (j : Job) : List Mem :=
  (j.bad.flatMap fun x => stripeMems x.cls x.slot x.stripe).eraseDups.filter fun y => !j.got.contains y && !j.bad.contains y

/-- Deep recovery of a line that a job cannot read back starts, or the job joins one in progress (R47, R98). -/
def Blk.deepForJob (n : Nat) (b : Blk) (li : Nat) : Blk :=
  let b1 := b.onJob n fun j => { j with deep := insUniq li j.deep }
  if b.path.deeps.any fun d => d.li == li then b1
  else
    let whole (i : Bool) : Bool := match b.resident li with
      | some (_, v) => v.wholeHalf i
      | none => false
    ((b1.onPath fun p => { p with nextRid := p.nextRid + 1, deeps := p.deeps ++ [{ li := li, start := b.now, rids := [], whole0 := whole false, whole1 := whole true, tagBad := true, num := p.nextRid }] }).bump 0x5810 0x03 1).tw 97 1

/-- What a job that has no read outstanding still needs: members to reconstruct from, lines whose tag fails read again through their stripe, lines for deep recovery. None when it may write. -/
inductive Need where
  | members (l : List Mem)
  | erase (l : List Mem)
  | deep (l : List Nat)
  | none
  deriving DecidableEq, Repr

/-- What a job still needs. Terry has only what does not decode solved, and leaves a line in deep recovery to that recovery (R109, R112). -/
def Blk.jobNeed (b : Blk) (j : Job) : Need :=
  if !j.unasked.isEmpty then .members j.unasked
  else
    let short := (b.jobChecks j.work).filter fun x => (!j.work.terrys || j.bad.contains x.2.mem) && (b.jobLine j x.1 x.2).isNone
    let fresh := (short.map fun x => x.2.mem).filter fun x => !j.bad.contains x
    if !fresh.isEmpty then .erase fresh else if !short.isEmpty then .deep (short.map Prod.fst) else .none

/-! ### Writing -/

/-- A line on media is written by a job, or, its member giving nothing back, kept as the content that the stripe's parity encodes; one whose channel is only held is written again afterwards (R14). Answers how many of its programs run. -/
def Blk.jobWrite (n : Nat) (ovw : Bool) (b : Blk × Nat) (w : Mem × MLine) : Blk × Nat :=
  let loc := b.1.memLoc w.1
  if b.1.locLost loc then
    let b1 := b.1.storeLine loc w.2
    (if b.1.lineGone loc || b.1.media.retired.has loc || b1.media.owed.contains w.1 then b1 else b1.onMedia fun m => { m with owed := m.owed ++ [w.1] }, b.2)
  else (b.1.program { loc := loc, c := w.2, why := .job n w.1, ovw := ovw, denim := w.1.cls == .denim }, b.2 + 1)

/-- A job issues its programs and overwrites. -/
def Blk.issueWrites (b : Blk) (n : Nat) (ph : Phase) (ovw : Bool) (ws : Writes) : Blk :=
  let r := ws.foldl (Blk.jobWrite n ovw) (b, 0)
  r.1.onJob n fun j => { j with phase := ph, left := r.2 }

/-- A stripe's lines with their parity recomputed (R69, R72, R75). -/
def Blk.stripeWrites (b : Blk) (r : Nat) (t : StripeAt) (lines : List (Nat × Line)) : Writes :=
  let p0 := b.homeAt t 0
  (lines.zipIdx.map fun x => ((b.homeAt t x.2).mem, ({ data := x.1.2, md := homeMd x.1.1 } : MLine)))
    ++ (List.range (parities t.1)).map fun i => (p0.parity i, { data := parityOver i (lines.map Prod.snd), md := homeParityMd i ((lines.map Prod.fst).getD 0 (r * 16384)) })

/-- A line is appended by a job in a lane that the hash chooses; without one the job waits (R61, R62). -/
def Blk.jobAppend (b : Blk) (n li : Nat) (data : Line) : Blk :=
  match b.pickLane li, b.hotWayFor li with
  | some k, some way => match b.twill.lanes.find k with
    | some l =>
      let b0 := if (b.hotFind li).isSome then b else b.onTwill fun t => { t with reserve := t.reserve.put way li }
      let r := b0.takePosition li data k l
      if r.1.lineGone r.2.1 then ((r.1.storeLine r.2.1 r.2.2).setHot li l.slot l.stripeNo l.pos).dropJob n
      else (r.1.program { loc := r.2.1, c := r.2.2, why := .copy n l.slot l.stripeNo l.pos, ovw := false, denim := l.cls == .denim }).onJob n fun j => { j with phase := .writing, left := 1 }
    | none => b
  | _, _ => b

/-- A re-encryption's first write: the tag line, before any data line; the ciphertexts are held until they are on media (R245). -/
def Blk.jobRegroup (b : Blk) (n : Nat) (j : Job) (ti : Nat) (epoch : BitVec 8) (major : BitVec 24) (new : Option (Nat × Line)) : Blk :=
  let g := b.regroup ti epoch major new fun l p => b.jobLine j l p
  let b1 := ((b.useTag ti).putTag ti g.1).onJob n fun j => { j with held := g.2.foldl (fun m x => m.put x.1 x.2.2) [] }
  b1.issueWrites n .tagging true (b1.tagWrites ti)

/-- The cold write of a line's data by a job (R59, R244, R245). -/
def Blk.jobCold (b : Blk) (n : Nat) (j : Job) (li : Nat) (data : Line) : Blk :=
  match b.homeOf li with
  | none => b.dropJob n
  | some p =>
    let ti := tagIdx li
    let b0 := b.tw 99 1
    if b.regroups li then (b0.bump 0x6800 0x06 1).jobRegroup n j ti (b.tagLine ti).epoch ((b.tagLine ti).major + 1) (some (li, data))
    else
      let r := b0.coldCipher li p data
      r.1.issueWrites n .writing true (r.1.homeWrites li p r.2)

/-- The plaintext of a line that a job has read back from its current place. -/
def Blk.jobPlain (b : Blk) (j : Job) (li : Nat) : Option Line :=
  (b.lookup li).bind fun p => (b.jobLine j li p).bind fun c => b.openLine li p c

/-- A job that has read takes the locks under which it writes (R112). -/
def Blk.lockJob (b : Blk) (n : Nat) (ks : List Nat) : Blk :=
  (b.onJob n fun j => { j with locks := ks }).onTwill fun t => { t with locks := ks.foldl (fun l k => l.put k n) t.locks }

/-- Content of a data position as Terry has it: as read, or, where it did not decode, solved; none where it cannot be solved or is left to deep recovery. -/
def Blk.terryData (b : Blk) (j : Job) (p : Place) : Option Line :=
  if !j.bad.contains p.mem then some (b.stored p.loc)
  else match b.lineIn p with
    | some li => if j.given.contains li || (b.path.deeps.any fun d => d.li == li) then none else b.jobLine j li p
    | none => b.jobCipher j p

/-- A line of a stripe written in place again with other data. -/
def Blk.rewriteOf (b : Blk) (x : Mem) (d : Line) : Writes := ((b.media.lines.find (b.memLoc x)).map fun y => (x, ({ y with data := d } : MLine))).toList

/-- The members of a stripe that failed hard decode, reconstructed (R109 step 1). -/
def Blk.terryFix (b : Blk) (j : Job) (c : Cls) (slot s : Nat) : Writes :=
  let datas := (List.range 16).map fun p => b.terryData j (b.placeIn c slot s p)
  (j.bad.filter fun x => !b.memDead x).flatMap fun x => match x.pos with
    | some p => match datas.getD p none with
      | some d => b.rewriteOf x d
      | none => []
    | none => if datas.all Option.isSome then b.rewriteOf x (parityOver x.par (datas.map fun d => d.getD 0)) else []

/-- A data line of a stripe fails its Damask tag (R109 step 4). -/
def Blk.tagFails (b : Blk) (p : Place) : Option Nat := (b.lineIn p).filter fun li => b.current li p && (b.openLine li p (b.stored p.loc)).isNone

/-- The parity of a stripe whose members have all decoded is checked (R109 steps 2 to 4): of a mismatch in Denim the code names the wrong member; in Voile the tags do: one failing line is rebuilt, none has the parity computed again, two or more are lost. A tag that fails is a Damask failure (R249). -/
def Blk.terryCheck (b : Blk) (c : Cls) (slot s : Nat) : Blk × Writes :=
  let place (p : Nat) : Place := b.placeIn c slot s p
  let data := (List.range 16).map fun p => b.stored (place p).loc
  let syn (i : Nat) : Line := b.stored (b.memLoc ((place 0).parity i)) ^^^ parityOver i data
  if (List.range (parities c)).all fun i => syn i == 0 then (b, [])
  else
    let b1 := b.bump 0x5820 0x0C 1
    match c with
    | .denim => match wrongMember (syn 0) (syn 1) with
      | some (some p, _, e) => (b1, b.rewriteOf (place p).mem (data.getD p 0 ^^^ e))
      | some (none, i, _) => (b1, b.rewriteOf ((place 0).parity i) (parityOver i data))
      | none => (b1, [])
    | .voile =>
      let fails := (List.range 16).filterMap fun p => (b.tagFails (place p)).map fun li => (p, li)
      let b2 := fails.foldl (fun b x => b.damaskFailure x.2) b1
      match fails with
      | [] => (b2, b.rewriteOf ((place 0).parity 0) (parityOver 0 data))
      | [(p, _)] => (b2, match b.solve (place p) [(place p).mem.m] with
        | some d => b.rewriteOf (place p).mem d
        | none => [])
      | _ => (fails.foldl (fun b x => b.poisonLine x.2 0x5808 .scrub) b2, [])

/-- Terry has read a stripe: a stripe that has been locked meanwhile is left, and the lap returns to it; else its lines are checked and rewritten under its lock (R109, R112). -/
def Blk.terryReady (b : Blk) (n : Nat) (j : Job) (c : Cls) (slot s : Nat) : Blk :=
  let k := stripeId slot s
  if b.twill.locks.has k then (b.dropJob n).onMedia fun m => m.onLap c fun l => { l with skipped := insUniq k l.skipped }
  else
    let r := if j.bad.isEmpty then b.terryCheck c slot s else (b, b.terryFix j c slot s)
    (r.1.lockJob n [k]).issueWrites n .writing true r.2

/-- With the last half of its range done, a Scan Media ends (R104). -/
def Blk.scanOver (b : Blk) : Blk :=
  let more := b.twill.jobs.any fun e => match e.2.work with
    | .scan _ _ => true
    | _ => false
  match b.media.scan with
  | some (_, 0) => if more then b else (b.onMedia fun m => { m with scan := none }).bgEnds
  | _ => b

/-- The halves of a scanned line that are on the list are found (R104, R112). -/
def Blk.scanFind (b : Blk) (key n : Nat) : Blk :=
  b.onMedia fun m => { m with scanFound := ((List.range n).filter fun i => m.poison.has (key + i)).foldl (fun l i => insUniq (key + i) l) m.scanFound }

/-- A scanned line has been read: what deep recovery has given up stands on the list and is found; a line that was reconstructed is written again in place (R104, R109). -/
def Blk.scanReady (b : Blk) (n : Nat) (j : Job) (key k : Nat) : Blk :=
  let b1 := b.scanFind key k
  match b.lookup (key / 2) with
  | some p => match b.jobLine j (key / 2) p with
    | some d =>
      if !j.bad.contains p.mem || j.given.contains (key / 2) || b.memDead p.mem || b.twill.locks.has p.mem.lock then (b1.dropJob n).scanOver
      else (b1.lockJob n [p.mem.lock]).issueWrites n .writing true (b1.rewriteOf p.mem d)
    | none => (b1.dropJob n).scanOver
  | none => (b1.dropJob n).scanOver

/-- Location of a member of the position that moves on the die that it goes to (R406, R407). -/
def Blk.movedLoc (b : Blk) (x : Mem) : Nat := match b.safety.rebuildAt with
  | some (key, d, _) => (b.onSafety fun s => { s with subst := s.subst.put key d }).memLoc x
  | none => b.memLoc x

/-- A job has read back what it needs and writes. -/
def Blk.jobReady (b : Blk) (n : Nat) (j : Job) : Blk :=
  match j.work with
  | .cold k => match b.velvet.bufs.find k with
    | some x => (b.putBuf k { x with issued := true, again := false, hotPath := false }).jobCold n j x.li x.data
    | none => b.dropJob n
  | .through li => match b.resident li with
    | some (_, v) => (b.onPath fun p => { p with acc := p.acc.map fun x => if x.stage == .program && x.line == li then { x with wrote := true, lane := none } else x }).jobCold n j li v.data
    | none => b.dropJob n
  | .home li => match b.twill.demote.find li, b.jobPlain j li with
    | some d, some data => if d.step = 2 then b.jobCold n j li data else b.dropJob n
    | _, _ => b.abandonDemotion li |>.dropJob n
  | .collect li _ loc =>
    if (b.lookup li).map Place.loc != some loc then b.dropJob n
    else match b.jobPlain j li with
      | some data => ((b.jobAppend n li data).bump 0x4020 0x03 1).tw 100 1
      | none => match b.hotFind li with
        | some (k, e) => ((b.invalidate e).clearHot k).dropJob n
        | none => b.dropJob n
  | .save li data => b.jobAppend n li data
  | .weak x => match b.jobChecks j.work with
    | (li, p) :: _ => if p.hot then match b.jobPlain j li with
        | some data => b.jobAppend n li data
        | none => b.dropJob n
      else match b.jobLine j li p with
        | some c => b.issueWrites n .writing true [(x, { data := c, md := homeMd li })]
        | none => b.dropJob n
    | [] => match b.media.lines.find (b.memLoc x) with
      | some y => if b.slotUse x.slot == .hotPool && x.pos.isSome then b.dropJob n else b.issueWrites n .writing true [(x, y)]
      | none => b.dropJob n
  | .tag ti => b.issueWrites n .writing true (b.tagWrites ti)
  | .group ti epoch major => b.jobRegroup n j ti epoch major none
  | .stripe r m s => match b.regionEntry r with
    | none => b.dropJob n
    | some e =>
      let t := b.stripeOf r e m s
      let lines := (b.stripeLines r e m s).map fun x => (x.1, (b.jobLine j x.1 x.2).getD (b.stored x.2.loc))
      if m = .resync then
        let bad := ((b.stripeLines r e m s).filter fun x => b.current x.1 x.2 && (b.openLine x.1 x.2 (b.stored x.2.loc)).isNone).map Prod.fst
        let wrong := (b.stripeWrites r t.2.1 lines).filter fun w => w.1.pos.isNone && b.stored (b.memLoc w.1) != w.2.data
        (b.onTwill fun x => { x with resyncBad := bad.foldl (fun l y => insUniq y l) x.resyncBad }).issueWrites n .writing true wrong
      else b.issueWrites n .writing (decide (m ≠ .migrate)) (b.stripeWrites r t.2.1 lines)
  | .area c slot s =>
    let data := (List.range 16).map fun p => (b.homeAt (c, slot, s) p)
    let ws : Writes := data.filterMap fun p => (b.media.lines.find p.loc).map fun y => (p.mem, { y with data := (b.jobCipher j p).getD y.data })
    let par : Writes := (List.range (parities c)).filterMap fun i =>
      (b.media.lines.find (b.memLoc ((b.homeAt (c, slot, s) 0).parity i))).map fun y => ((b.homeAt (c, slot, s) 0).parity i, { y with data := parityOver i (data.map fun p => (b.jobCipher j p).getD (b.stored p.loc)) })
    b.issueWrites n .writing true (ws ++ par)
  | .rebuild key s =>
    let c := b.slotCls (key / 18)
    let x : Mem := { cls := c, slot := key / 18, stripe := s, m := key % 18 }
    match b.media.lines.find (b.memLoc x) with
    | some y =>
      let at_ (p : Nat) : Place := b.homeAt (c, key / 18, s) p
      let data := if !j.bad.contains x then y.data
        else match x.pos with
          | some p => (b.jobCipher j (at_ p)).getD y.data
          | none => parityOver x.par ((List.range 16).map fun p => (b.jobCipher j (at_ p)).getD (b.stored (at_ p).loc))
      (b.program { loc := b.movedLoc x, c := { y with data := data }, why := .job n x, ovw := false, denim := c == .denim }).onJob n fun j => { j with phase := .writing, left := 1 }
    | none => b.issueWrites n .writing false []
  | .terry c slot s => b.terryReady n j c slot s
  | .scan key k => b.scanReady n j key k
  | .list r => (b.onMedia fun m => { m with reload := m.reload.erase r }).dropJob n

/-- A job goes on: its reads enter queues; with none outstanding it asks for what it still needs, or writes. -/
def Blk.advanceJob (b : Blk) (n : Nat) : Blk :=
  let b1 := b.feedJob n
  match b1.twill.jobs.find n with
  | none => b1
  | some j =>
    if j.phase != .reading || !j.reads.isEmpty || !j.out.isEmpty || !j.deep.isEmpty || !b1.works then b1
    else match b1.jobNeed j with
      | .members l => (b1.onJob n fun j => { j with reads := l }).feedJob n
      | .erase l =>
        let j1 : Job := { j with bad := l ++ j.bad, got := j.got.filter fun x => !l.contains x }
        (b1.onJob n fun _ => { j1 with reads := j1.unasked }).feedJob n
      | .deep l => l.foldl (Blk.deepForJob n) b1
      | .none => b1.jobReady n j

/-! ### The end of a job -/

/-- A re-encryption's tag line is on media: its lines go home, each by the cold path (R245 step 4). -/
def Blk.issueHeld (b : Blk) (n : Nat) (j : Job) : Blk :=
  let r := j.held.foldl (fun a x => match a.1.homeOf x.1 with
    | some p => (a.1.homeWrites x.1 p x.2).foldl (Blk.jobWrite n true) a
    | none => a) (b, 0)
  r.1.onJob n fun j => { j with phase := .writing, left := r.2, held := [] }

/-- A tag line has been written: it is clean unless the cache holds a newer one (R247). -/
def Blk.tagWritten (b : Blk) (ti : Nat) : Blk := if b.mediaTag ti = b.tagLine ti then b.cleanTag ti else b

/-- The tag line of the group that a work re-encrypts. -/
def Blk.workGroup (b : Blk) : Work → Nat
  | .cold n => tagIdx (((b.velvet.bufs.find n).map HBuf.li).getD 0)
  | .through li => tagIdx li
  | .home li => tagIdx li
  | .group ti _ _ => ti
  | _ => 0

/-- The cold write of a line has ended. A demotion that stands at step 2 gathers its record, and what waits goes on at its commit (R64 step 3); a line that an abandoned demotion has left hot is not stored by it. -/
def Blk.homeWritten (b : Blk) (li : Nat) (demoted stillHot stored : Blk → Blk) : Blk :=
  if (b.hotFind li).isNone then stored b
  else match b.twill.demote.find li with
    | some d => if d.step = 2 then demoted ((b.onTwill fun t => { t with demote := t.demote.put li { d with step := 3 } }).gatherDemotion li) else stillHot b
    | none => stillHot b

/-- Write-through writes of a line wait for a program again (R148). -/
def Blk.throughAgain (b : Blk) (li : Nat) : Blk :=
  b.onPath fun p => { p with acc := p.acc.map fun x => if x.stage == .program && x.line == li then { x with wrote := false, lane := none } else x }

/-- A home line that fails its tag after a dirty shutdown: its halves are poisoned and listed, and the failure counted; one failure event a boot (R248). -/
def Blk.shutdownLoss (b : Blk) (li : Nat) : Blk :=
  let b1 := ((b.listHalf (2 * li) .internal).listHalf (2 * li + 1) .internal).bump 0x6800 0x0A 1
  if b1.damask.lossEvent then b1 else (b1.onDamask fun d => { d with lossEvent := true }).report { code := 0x6802, dpa := some (dpaOfLine li) }

/-- Share of the stripes that the resync has passed, per cent (OD 0x4050.07). -/
def Blk.resyncShare (b : Blk) : Nat :=
  let all := 1024 * b.regionList.length
  let done := 1024 * ((b.damask.resynced.getD []).filter fun r => (b.regionEntry r).isSome).length + (b.twill.resyncAt.map Prod.snd).sum
  if all = 0 then 100 else min 99 (100 * done / all)

/-- The hot copies of a region's lines that fail their tags (R248). -/
def Blk.hotFailing (b : Blk) (r : Nat) : List Nat :=
  (b.twill.hot.filter fun e => regionOfLine e.2.li == r && (match b.lookup e.2.li with
    | some p => (b.openLine e.2.li p (b.stored p.loc)).isNone
    | none => false)).map fun e => e.2.li

/-- The resync has passed every stripe of a region: lines that fail are poisoned, their groups re-encrypted, and the region is passed; with every region passed the resync is over (R60, R248). -/
def Blk.passRegion (b : Blk) (r : Nat) : Blk :=
  let home := b.twill.resyncBad.filter fun li => regionOfLine li == r
  let b1 := (home ++ b.hotFailing r).foldl Blk.shutdownLoss b
  let b2 := b1.onDamask fun d => { d with groups := d.groups ++ (home.map tagIdx).eraseDups.map fun ti => (ti, none, home) }
  let passed := insUniq r (b2.damask.resynced.getD [])
  let all := b2.regionList.all fun e => passed.contains e.1
  (b2.onDamask fun d => { d with resynced := if all then none else some passed }).onTwill fun t =>
    { t with resyncAt := t.resyncAt.del r, resyncBad := t.resyncBad.filter (fun li => regionOfLine li != r), resync := if all then 100 else t.resync }

/-- A region's refresh has passed every stripe: its AGE is 0 (R75). -/
def Blk.refreshed (b : Blk) (r : Nat) : Blk :=
  let b1 := b.onTwill fun t => { t with fresh := t.fresh.del r, backlog := t.backlog.filter fun x => x != r }
  match b1.regionEntry r with
  | some e => ((b1.putRegion r { e with age := 0 }).areaNew r).bump 0x4040 0x02 1
  | none => (b1.areaNew r).onGauze fun g => { g with slotAge := g.slotAge.put ((r - 134217728) / 2) 0 }

/-- Line transfers of a stripe's refresh: 33 in Voile (R75). -/
def refreshTransfers (c : Cls) : Nat := 16 + if c = .denim then 2 * widthOf c else widthOf c

/-- A stripe of an area has been refreshed: the next is due, or the area is done. -/
def Blk.freshStep (b : Blk) (area : Nat) (c : Cls) (s : Nat) : Blk := match b.twill.fresh.find area with
  | some (_, start) =>
    let b1 := (b.tw 101 (refreshTransfers c)).onTwill fun t => { t with fresh := t.fresh.put area (s + 1, start) }
    if s = 1023 then b1.refreshed area else b1
  | none => b

/-- What the end of a stripe job of a region changes: the pass's cursor with its journal record (R69), the migration's progress (R72), the refresh's (R75), the resync's (R60). -/
def Blk.stripeDone (b : Blk) (r : Nat) (m : Move) (s : Nat) : Blk :=
  match b.regionEntry r with
  | none => b
  | some e =>
    let pass (b : Blk) (c : Int) : Blk := b.onTwill fun t => { t with rot := match t.rot.find r with
      | some x => t.rot.put r { x with cursor := c }
      | none => t.rot }
    match m with
    | .park => pass ((b.journalRec 0x03 [r, e.rot.toNat, ((b.twill.rot.find r).map Rotation.park).getD r]).putRegion r { e with rotp := true }) 1022
    | .shift => pass (if (1023 - s) % 64 = 0 then b.journalRec 0x04 [r, s - 1] else b) ((s : Int) - 1)
    | .unpark => b
    | .migrate => b.onTwill fun t => { t with mig := match t.mig.find r with
        | some x => t.mig.put r { x with next := s + 1 }
        | none => t.mig }
    | .refresh => b.freshStep r e.cls s
    | .resync =>
      let b1 := b.onTwill fun t => { t with resyncAt := t.resyncAt.put r (s + 1) }
      let b2 := b1.onTwill fun t => { t with resync := b1.resyncShare }
      if s = 1023 then b2.passRegion r else b2

/-- A job whose lines are on media waits with its effect: a move of a pass for the reads that hold a reservation on its lines (R38) and for the journal (R78), the last one for the end of the pass. -/
def Blk.jobHeld (b : Blk) (w : Work) : Bool :=
  let reserved (r : Nat) (m : Move) (s : Nat) : Bool := match b.regionEntry r with
    | some e => (b.stripeLines r e m s).any fun x => b.lineReserved x.1 && (b.hotFind x.1).isNone
    | none => false
  match w with
  | .stripe r .park s => b.journalWait || reserved r .park s
  | .stripe r .shift s => ((1023 - s) % 64 == 0 && b.journalWait) || reserved r .shift s
  | .stripe r .unpark _ => (b.twill.rot.find r).isSome
  | _ => false

/-- What a job's end does, its lines on media and its locks released. -/
def Blk.jobEffect (b : Blk) (j : Job) : Blk :=
  match j.work with
  | .cold k => match b.velvet.bufs.find k with
    | some x => b.homeWritten x.li (fun c => c.putBuf k { x with home := true }) (fun c => c.putBuf k { x with issued := false, again := false }) fun c => c.bufferDone k
    | none => b
  | .through li => b.homeWritten li id (fun c => c.throughAgain li) fun c => c.throughDone li j.since
  | .home li => b.homeWritten li id id id
  | .collect _ _ _ => b
  | .save _ _ => b
  | .weak _ => b.bump 0x5800 0x0B 1
  | .tag ti => b.tagWritten ti
  | .group _ _ _ => b
  | .stripe r m s => b.stripeDone r m s
  | .area c slot s => b.freshStep (slotArea c slot) c s
  | .rebuild key s => b.onSafety fun x => { x with rebuildAt := match x.rebuildAt with
      | some (k, d, t) => if k = key then some (k, d, s + 1) else some (k, d, t)
      | none => none }
  | .terry c _ _ => b.lapStep c (widthOf c)
  | .scan _ _ => b.scanOver
  | .list _ => b

/-- The last program of a job's phase is over: the tag line is on media and the data lines follow, or the job ends. -/
def Blk.jobOver (b : Blk) (n : Nat) : Blk := match b.twill.jobs.find n with
  | none => b
  | some j =>
    if j.left ≠ 0 then b
    else match j.phase with
      | .reading => b
      | .tagging => (b.tagWritten (b.workGroup j.work)).issueHeld n j
      | .writing => if b.jobHeld j.work then b else (b.dropJob n).jobEffect j

/-- Every job goes on as far as it can, oldest first. -/
def Blk.advanceJobs (b : Blk) : Blk := b.twill.jobs.foldl (fun b e => (b.advanceJob e.1).jobOver e.1) b

end Sys2Proof.Machine
end

