-- ==== Sys2Proof/Machine/Window.lean ====
section
/-! DEFINITION. The telemetry window of a head (R383 to R385, R389, R393, R394): its words, the two consumer words, and an access. -/

namespace Sys2Proof.Machine

/-- First DPA of the telemetry window (R383, R309). -/
def windowBase : Nat := 0x07FFFC000000

/-- A DPA lies in the telemetry window of 64 MiB. -/
def inWindow (dpa : Nat) : Bool := decide (windowBase ≤ dpa) && decide (dpa < windowBase + 0x4000000)

/-- A 4-B word of the header page (R385). -/
def Blk.headerWord (b : Blk) (h : Head) (off : Nat) : Nat :=
  let s := b.head h
  let q (v : Nat) : Nat := fld v (8 * (off % 8)) 32
  match off / 8 with
  | 0 => if off = 0 then 0x00015754 else b.cfg 0x8800 0x01
  | 1 => q b.tweed.newest
  | 2 => q b.tweed.w
  | 3 => q s.telR
  | 4 => q (b.tweed.w - s.telR)
  | 5 => q (s.lost + 2 ^ 63 * b2n s.lostSat)
  | 6 => if off = 48 then ringPositions else 0
  | _ => 0

/-- A counter as its 8-B word (R387). -/
def ctrWord (v : Nat × Bool) : Nat := v.1 + 2 ^ 63 * b2n v.2

/-- A 4-B word of a dump slot (R389). -/
def TDump.word (d : TDump) (off : Nat) : Nat :=
  if off < 8 then fld d.num (8 * off) 32
  else if off < 16 then fld d.opTime (8 * (off - 8)) (if off = 8 then 32 else 16)
  else if off = 16 then d.period
  else if off = 20 then d.flags.toNat
  else if 128 ≤ off ∧ off < 4224 then
    match d.ctrs.find? fun e => e.1 == (off - 128) / 8 with
    | some e => fld (ctrWord e.2) (8 * (off % 8)) 32
    | none => 0
  else if 8184 ≤ off then fld d.num (8 * (off - 8184)) 32
  else 0

/-- A 4-B word of the window at an offset that is a multiple of 4 (R384): header page, dump ring, line descriptors, queue ring; the rest reads as zero. -/
def Blk.windowWord (b : Blk) (h : Head) (off : Nat) : Nat :=
  if off < 0x1000 then b.headerWord h off
  else if off < 0x21000 then match b.tweed.dumps.find ((off - 0x1000) / 8192) with
    | some d => d.word ((off - 0x1000) % 8192)
    | none => 0
  else if 0x100000 ≤ off ∧ off < 0x110000 then match b.tweed.ring.find ((off - 0x100000) / 4) with
    | some (p, items) => p / 32 % 2 ^ 24 * 256 + 4 * items.length
    | none => 0
  else if 0x200000 ≤ off ∧ off < 0x400000 then match b.tweed.ring.find ((off - 0x200000) / 128) with
    | some (_, items) => (items.getD (off % 128 / 4) 0).toNat
    | none => 0
  else 0

/-- The half of the window at an offset that is a multiple of 64. -/
def Blk.windowHalf (b : Blk) (h : Head) (off : Nat) : Half :=
  packBytes 512 ((List.range 16).flatMap fun i => leBytes 4 (b.windowWord h (off / 64 * 64 + 4 * i)))

/-- A write of CONSUME: R moves to the value, at most to W, and never back (R394). -/
def Blk.consumeTo (b : Blk) (h : Head) (v : Nat) : Blk :=
  b.onHead h fun s => { s with telR := if v < s.telR then s.telR else min v b.tweed.w }

/-- A write of DROP: R moves to the first packet header at or after it; with none written there, it stays (R394, log 19). -/
def Blk.dropToHeader (b : Blk) (h : Head) : Blk :=
  b.onHead h fun s => { s with telR := ((b.tweed.headers.filter fun p => decide (s.telR ≤ p)).foldl (fun m p => match m with
    | none => some p
    | some q => some (min p q)) (none : Option Nat)).getD s.telR }

/-- Every byte of 8 from byte `i` of a half is enabled. -/
def enables8 (m : HalfMask) (i : Nat) : Bool := fld m.toNat i 8 == 255

/-- A read of the window, and a write of it: discarded with completion but for the two consumer words (R383, R394). -/
def Blk.windowAccess (b : Blk) (h : Head) (tag off : Nat) (write : Option (HalfMask × Half)) (e : DpErr) : Blk :=
  match write with
  | none =>
    let d := e.outcome (off.testBit 6) (b.windowHalf h off) (windowBase + off)
    let b1 := b.dpCount d
    b1.emit (.memData h tag (if dpBad d then none else some (b1.windowHalf h off)) (b1.head h).devload)
  | some (m, x) =>
    let here := decide (off / 64 = 4)
    let b1 := if here && enables8 m 0 then b.consumeTo h (fld x.toNat 0 64) else b
    let b2 := if here && fld m.toNat 8 8 != 0 then b1.dropToHeader h else b1
    b2.emit (.cmp h tag (b2.head h).devload)

end Sys2Proof.Machine
end

