-- ==== Sys2Proof/Machine/Requests.lean ====
section
/-! DEFINITION. Host requests: arrival with the checks of R213, and acceptance (R37, R99, R157, R161 to R163, R210 to R213). -/

namespace Sys2Proof.Machine

/-- The DPA that the committed decoders form of an HPA, the lower ones' DPA ranges passed first: base plus skip, the interleave bits removed (R212, the standard's rule, log 20). -/
def decodeHpa : NMap Decoder → Nat → Nat → Option Nat
  | [], _, _ => none
  | (_, d) :: rest, cur, hpa =>
    if d.base ≤ hpa ∧ hpa < d.base + d.size then
      some (cur + d.skip + (hpa - d.base) / (d.gran * d.ways) * d.gran + (hpa - d.base) % d.gran)
    else decodeHpa rest (cur + d.skip + d.size / d.ways) hpa

/-- A check of R213 fails at a head: counted, and reported at most once a millisecond for each kind, what is held back adding to the storm count of the report's window. -/
def Blk.failCheck (b : Blk) (h : Head) (code : BitVec 16) (sub : Nat) (hpa : Nat) (dpa : Option Nat) : Blk :=
  let b1 := b.bump (headIdx h) sub 1
  let unit := BitVec.ofNat 16 (headNum h)
  let held := match (b.head h).checkAt.find code.toNat with
    | some t => decide (b.since t < 1000000)
    | none => false
  match b1.linen.windows.find? fun w => w.isFor code 1 unit with
  | some w =>
    if held then
      let b2 := b1.onLinen fun l => { l with windows := l.windows.map fun w => if w.isFor code 1 unit then { w with count := w.count + 1 } else w }
      if 1 ≤ w.count then b2.bump 0x8000 0x0A 1 else b2
    else (b1.onHead h fun s => { s with checkAt := s.checkAt.put code.toNat b.now }).report { code := code, cls := 1, unit := unit, dpa := dpa, hpa := some hpa }
  | none => (b1.onHead h fun s => { s with checkAt := s.checkAt.put code.toNat b.now }).report { code := code, cls := 1, unit := unit, dpa := dpa, hpa := some hpa }

/-- An access before Memory Active: counted, and one event a boot (R213). -/
def Blk.failEarly (b : Blk) (h : Head) (hpa : Nat) : Blk :=
  let b1 := b.bump (headIdx h) 0x0D 1
  if (b.head h).preActive then b1
  else (b1.onHead h fun s => { s with preActive := true }).report { code := 0x2005, cls := 1, unit := BitVec.ofNat 16 (headNum h), hpa := some hpa }

/-- State of a region at a head. -/
def Rgn.at (g : Rgn) : Head → RgnState
  | .A => g.stA
  | .B => g.stB

/-- The capacity check of R213: the address lies in a region added at the head, or in the telemetry window (R383). -/
def Blk.hasCapacity (b : Blk) (h : Head) (dpa : Nat) : Bool :=
  inWindow dpa || (match b.rgnOf (regionOfLine (lineOf dpa)) with
    | some g => g.at h == .added
    | none => false)

/-- Ordering that DPA[44:43] asks for (R155). -/
def orderOf (dpa : Nat) : Order := match fld dpa 43 2 with
  | 0 => .plain
  | 1 => .relAcq
  | _ => .sync

/-- A sync access that has arrived at head B in this fabric cycle and waits: a sync access at head A takes its ticket, and it takes the next one (R163); instants of one nanosecond count as one fabric cycle (log 97). -/
def Blk.syncTwin (b : Blk) (h : Head) (sync : Bool) : Option Req := match h with
  | .A => (b.hB.ingress.find? fun q => q.order == .sync && q.arrive == b.now).filter fun _ => sync
  | .B => none

/-- A request takes its place at ingress, a sync access with its ticket (R163, R211). -/
def Blk.place (b : Blk) (h : Head) (k : ReqKind) (hpa tag dpa : Nat) (data : Half) (mask : HalfMask) (poison : Bool) : Blk :=
  let d := dpa % 2 ^ 43
  let o : Order := if inWindow d then .plain else orderOf dpa
  let sync := o == .sync
  let twin := b.syncTwin h sync
  let t := (twin.map Req.ticket).getD b.path.ticket
  let r : Req := { kind := k, tag := tag, hpa := hpa, dpa := d, order := o, data := data, mask := mask, poison := poison,
                   ticket := if sync then t else 0, arrive := b.now, seq := b.path.arrived }
  let b0 := match twin with
    | some q => b.onHB fun s => { s with ingress := s.ingress.map fun (x : Req) => if x.seq == q.seq then { x with ticket := b.path.ticket } else x }
    | none => b
  let b1 := b0.onPath fun p => { p with
    arrived := p.arrived + 1, ticket := if sync then p.ticket + 1 else p.ticket,
    tickets := if sync then p.tickets ++ [p.ticket] else p.tickets }
  let b2 := b1.onHead h fun s => { s with ingress := s.ingress ++ [r], high := max s.high (s.ingress.length + 1), dlPeak := max s.dlPeak (s.ingress.length + 1) }
  if inWindow d then b2 else b2.noteHolds h r

/-- The head takes requests: its link is in L0, it and its IDE stream have not failed, and its ingress buffer has a free place (R211, R257, log 35). -/
def Blk.takes (b : Blk) (h : Head) : Bool :=
  b.running && (b.head h).link == 2 && !(b.head h).failed && !(b.head h).ideMem.failed && decide ((b.head h).ingress.length < 1024)

/-- A request arrives at a head: the checks of R213 in order, the handling of M11 (R311, R402), then ingress. -/
def Blk.arrive (b : Blk) (h : Head) (k : ReqKind) (hpa tag : Nat) (data : Half) (mask : HalfMask) (poison : Bool) : Blk :=
  if b.takes h then
    match decodeHpa (b.head h).decoders 0 hpa with
    | none => (b.failCheck h 0x2002 0x0A hpa none).refuse h k tag
    | some dpa =>
      if 3 ≤ fld dpa 43 2 then (b.failCheck h 0x2003 0x0B hpa none).refuse h k tag
      else if !b.hasCapacity h (dpa % 2 ^ 43) then (b.failCheck h 0x2004 0x0C hpa (some (dpa % 2 ^ 43))).refuse h k tag
      else if !b.memoryActive then (b.failEarly h hpa).refuse h k tag
      else if b.stopped then b.refuse h k tag
      else b.place h k hpa tag dpa data mask poison
  else b

/-- MEM_RD (R210). -/
def execMemRd (a : Stamp) (h : Head) (hpa : Nat) (tag : Nat) (s : State) : Host.Outcome State Fault Refusal :=
  s.command a fun b => b.arrive h .rd hpa tag 0 (BitVec.allOnes 64) false

/-- MEM_RD_DATA: as MemRd (R210). -/
def execMemRdData (a : Stamp) (h : Head) (hpa : Nat) (tag : Nat) (s : State) : Host.Outcome State Fault Refusal :=
  s.command a fun b => b.arrive h .rdData hpa tag 0 (BitVec.allOnes 64) false

/-- MEM_SPEC_RD: dropped without response or access (R210). -/
def execMemSpecRd (a : Stamp) (_h : Head) (_hpa : Nat) (_tag : Nat) (s : State) : Host.Outcome State Fault Refusal :=
  s.command a id

/-- MEM_WR (R210). -/
def execMemWr (a : Stamp) (h : Head) (hpa : Nat) (tag : Nat) (data : Half) (poison : Bool) (s : State) : Host.Outcome State Fault Refusal :=
  s.command a fun b => b.arrive h .wr hpa tag data (BitVec.allOnes 64) poison

/-- MEM_WR_PTL: a byte-enabled, narrow write (R99, R210). -/
def execMemWrPtl (a : Stamp) (h : Head) (hpa : Nat) (tag : Nat) (data : Half) (mask : HalfMask) (poison : Bool) (s : State) :
    Host.Outcome State Fault Refusal :=
  s.command a fun b => b.arrive h .wrPtl hpa tag data mask poison

/-- UNSUPPORTED_REQUEST: a read completes with poison, a write is discarded with completion, and the event is raised (R210). -/
def execUnsupportedRequest (a : Stamp) (h : Head) (hpa : Nat) (tag : Nat) (isRead : Bool) (s : State) : Host.Outcome State Fault Refusal :=
  s.command a fun b =>
    if b.takes h then
      ((b.bump (headIdx h) 0x0E 1).report { code := 0x2006, cls := 1, unit := BitVec.ofNat 16 (headNum h), hpa := some hpa }).refuse h (if isRead then .rd else .wr) tag
    else b

/-- Every condition of acceptance holds for a request at ingress: the gate (R37, R38), Velvet's (R146, R148), the ordering rules (R161 to R163) and the rate limit (R361), while requests are served (R311). -/
def Blk.mayAccept (b : Blk) (h : Head) (r : Req) : Bool :=
  b.serving && b.rateOpen h && b.orderOpen h r && b.gateOpen (lineOf r.dpa) && (!r.kind.isWrite || b.velvetOpen (lineOf r.dpa))

/-- A window access at ingress is accepted and answered at once: no gate applies to it, and it is not counted or sampled (R383). -/
def Blk.acceptWindow (b : Blk) (h : Head) (r : Req) (d : DpErr) : Blk :=
  (b.onHead h fun s => { s with ingress := s.ingress.filter fun q => q.seq != r.seq }).windowAccess h r.tag (r.dpa - windowBase)
    (if r.kind.isRead then none else some (r.mask, r.data)) d

/-- A request at ingress is accepted when it may be; a write that still waits in write-through mode has its line's fill started by the gate probe (R148). -/
def Blk.tryAccept (b : Blk) (h : Head) (r : Req) (d : DpErr) : Blk :=
  if inWindow r.dpa then (if b.serving then b.acceptWindow h r d else b)
  else if b.mayAccept h r then b.acceptNow h r d
  else
    let b1 := b.noteHolds h r
    if r.kind.isWrite && b.serving then (b1.probeWay (lineOf r.dpa)).probeFill h (lineOf r.dpa) else b1

/-- ACCEPTANCE: the head passes the i-th request of its ingress buffer to the fabric when it meets every condition (R37, R146, R148, R161 to R163). -/
def execAcceptance (a : Stamp) (h : Head) (i : Nat) (dp : DpErr) (s : State) : Host.Outcome State Fault Refusal :=
  s.command a fun b => match (b.head h).ingress[i]? with
    | some r => b.tryAccept h r dp
    | none => b

/-- TELEMETRY_WINDOW_ACCESS: an access of a head's window, arrived and accepted in one (R383). A write of it carries no consumer word; CONSUME and DROP are commands of their own. -/
def execTelemetryWindowAccess (a : Stamp) (h : Head) (tag : Nat) (off : BitVec 26) (isWrite : Bool) (s : State) : Host.Outcome State Fault Refusal :=
  s.command a fun b =>
    if b.takes h && b.memoryActive && b.stopped then b.refuse h (if isWrite then .wr else .rd) tag
    else if b.takes h && b.serving then b.windowAccess h tag off.toNat (if isWrite then some (0, 0) else none) {}
    else b

end Sys2Proof.Machine
end

