-- ==== Sys2Proof/Machine/Moves.lean ====
section
/-! DEFINITION. Twill's jobs as they start: what a cold write reads and locks (R58, R59, R245), whole stripes on the move in rotation passes (R69, R70), migrations (R71 to R74), refreshes (R75), the resync (R60) and rebuilds (R406), and the step by which all background work goes on. -/

namespace Sys2Proof.Machine

/-- A translation region is on its way out: its Dynamic Capacity region stands at no head any more, and no background work on it starts (R217). -/
def Blk.leaving (b : Blk) (r : Nat) : Bool := (b.rgnOf r).any fun g => !(g.at .A == .offered || g.at .A == .added || g.at .B == .offered || g.at .B == .added)

/-! ### Cold writes -/

/-- The home places that a cold write of a line writes: its own, and, where its MINOR is used up, those of its group (R59, R245). -/
def Blk.coldPlaces (b : Blk) (li : Nat) : List Place :=
  ((if b.regroups li then b.groupHome (tagIdx li) else []) ++ [li]).eraseDups.filterMap b.homeOf

/-- The stripe locks that it takes. -/
def Blk.coldLocks (b : Blk) (li : Nat) : List Nat :=
  ((b.coldPlaces li).map (fun p => p.mem.lock) ++ (if b.regroups li then [(b.tagPlace (tagIdx li)).mem.lock] else [])).eraseDups

/-- What the cold path reads of a place's stripe: the old data line and the parity lines (R59). -/
def Place.coldMems (p : Place) : List Mem := p.mem :: (List.range (parities p.cls)).map p.parity

/-- The member of a tag line, to be read where the tag cache does not hold it (R247). -/
def Blk.tagReads (b : Blk) (ti : Nat) : List Mem := if b.damask.tagDirty.has ti || b.tagCached ti then [] else [(b.tagPlace ti).mem]

/-- What it reads: of each place the old data line and the parity lines, and its tag line (R59, R245, R247). -/
def Blk.coldReads (b : Blk) (li : Nat) : List Mem :=
  ((b.coldPlaces li).flatMap Place.coldMems).eraseDups ++ (if b.regroups li then (b.tagPlace (tagIdx li)).coldMems else b.tagReads (tagIdx li))

/-- Members of a stripe that have failed for good, takeovers and retrains left out. -/
def Blk.deadMembers (b : Blk) (c : Cls) (slot stripe : Nat) : List Nat :=
  (List.range (widthOf c)).filter fun m =>
    let loc := b.memberLine c slot stripe m
    b.lineGone loc || b.media.retired.has loc

/-- A cold write of a line may start at its home: the locks are free and the tag line can be held (R59, R247); a stripe that misses more members than its class tolerates waits, and so does one with a member to write that is only held by a takeover or a retrain, unless waiting would exceed the dirty budget (R14). -/
def Blk.coldOpen (b : Blk) (li : Nat) (p : Place) : Bool :=
  let lost := b.lostMembers p.cls p.slot p.stripe
  let dead := b.deadMembers p.cls p.slot p.stripe
  let used := p.mem.m :: (List.range (parities p.cls)).map fun i => parityMember p.cls p.stripe i
  let held := lost.any fun m => !dead.contains m && used.contains m
  b.unlocked (b.coldLocks li) && b.tagRoom li && !b.leaving (regionOfLine li) && decide (lost.length ≤ toleranceOf p.cls) && (!held || decide (b.velvet.budget ≤ b.dirtyCount))

/-- The demotion of a line that a cold write carries stands at step 2 (R58, R64). -/
def Blk.demoteByWrite (b : Blk) (li : Nat) : Blk :=
  if (b.hotFind li).isNone then b
  else
    let b1 := b.startDemotion li none
    match b1.twill.demote.find li with
    | some d => b1.onTwill fun t => { t with demote := t.demote.put li { d with step := 2 } }
    | none => b1

/-- The cold write of a line starts as a job. -/
def Blk.startCold (b : Blk) (w : Work) (li : Nat) (more : List Mem) : Blk :=
  (b.demoteByWrite li).startJob { work := w, locks := b.coldLocks li, reads := more ++ b.coldReads li }

/-- A demotion may go home from its hot copy: the line is not dirty in Velvet nor in a holding buffer, whose eviction would take it along (R64 step 2), and its background work is not paused. -/
def Blk.demotionReady (b : Blk) (li : Nat) : Bool :=
  (b.bufOf li).isNone && !b.twillPaused (regionOfLine li) && (match b.resident li with
    | some (_, v) => !v.dirty && !v.wt
    | none => true)

/-- Step 2 of a demotion starts: the hot copy is read and written home (R64). -/
def Blk.startHome (b : Blk) (li : Nat) : Blk :=
  match b.twill.demote.find li, b.lookup li, b.homeOf li with
  | some d, some h, some p =>
    if d.step = 1 && h.hot && b.demotionReady li && b.coldOpen li p && !b.doing (.home li) then b.startCold (.home li) li [h.mem] else b
  | _, _, _ => b

/-- Step 2 of every demotion that can go home. -/
def Blk.startHomes (b : Blk) : Blk := (b.twill.demote.filter fun e => e.2.step == 1).foldl (fun b e => b.startHome e.1) b

/-! ### Groups and tag lines (R245 to R248) -/

/-- The re-encryption of a group starts: it takes the stripe locks of its home lines and of its tag line and reads them (R245 step 1), under the EPOCH of a re-key pass with MAJOR 0, else with the next MAJOR. -/
def Blk.startGroup (b : Blk) (x : Nat × Option Nat × List Nat) : Blk :=
  let tag := b.tagPlace x.1
  let home := (b.groupHome x.1).filterMap b.homeOf
  let locks := ((tag :: home).map fun p => p.mem.lock).eraseDups
  let t := b.tagLine x.1
  let w : Work := match x.2.1 with
    | some e => .group x.1 (BitVec.ofNat 8 e) 0
    | none => .group x.1 t.epoch (t.major + 1)
  if !b.unlocked locks then b
  else (b.onDamask fun d => { d with groups := d.groups.erase x }).startJob { work := w, locks := locks, reads := ((tag :: home).flatMap Place.coldMems).eraseDups, given := x.2.2 }

/-- Every group that is due and whose stripes are free starts. -/
def Blk.startGroups (b : Blk) : Blk := b.damask.groups.foldl Blk.startGroup b

/-- The write-back of a dirty tag line by the cold path starts (R247). -/
def Blk.startTag (b : Blk) (ti : Nat) : Blk :=
  let p := b.tagPlace ti
  if b.doing (.tag ti) || !b.unlocked [p.mem.lock] then b else b.startJob { work := .tag ti, locks := [p.mem.lock], reads := p.coldMems }

/-! ### Stripes on the move -/

/-- A stripe lock of a slot is held (R59). -/
def Blk.slotHeld (b : Blk) (slot : Nat) : Bool := b.twill.locks.any fun e => e.1 / 1024 == slot

/-- A stripe job of a region runs. -/
def Blk.regionMoving (b : Blk) (r : Nat) : Bool := b.twill.jobs.any fun e => match e.2.work with
  | .stripe x _ _ => x == r
  | _ => false

/-- A stripe job of a region starts once the lock of the stripe that it reads is free (R59); the resync reads the parity too (R60). -/
def Blk.startStripe (b : Blk) (r : Nat) (e : RegionEntry) (m : Move) (s : Nat) : Blk :=
  let t := (b.stripeOf r e m s).1
  let lock := stripeId t.2.1 t.2.2
  let all := stripeMems t.1 t.2.1 t.2.2
  if b.unlocked [lock] then b.startJob { work := .stripe r m s, locks := [lock], reads := if m = .resync then all else all.filter fun x => x.pos.isSome } else b

/-- A slot has a member on a failed die. -/
def Blk.slotBroken (b : Blk) (slot : Nat) : Bool := !(b.failedMembers (b.slotCls slot) slot).isEmpty

/-- The next stripe job of a region: of its rotation pass, which M9 halts (R77), of its migration, once the new slot's tiles are reset, of its refresh, of its resync. -/
def Blk.nextMove (b : Blk) (r : Nat) (e : RegionEntry) : Option (Move × Nat) :=
  match e.rotp, b.twill.rot.find r with
  | true, some x => if b.holds 9 then none else if 0 ≤ x.cursor then some (.shift, x.cursor.toNat) else some (.unpark, 1023)
  | _, _ => match b.twill.mig.find r with
    | some m => if m.next < 1024 ∧ (b.slotSt m.new).resets = 0 then some (.migrate, m.next) else none
    | none => match b.twill.fresh.find r, b.twill.resyncAt.find r with
      | some (s, _), _ => some (.refresh, s)
      | none, some s => some (.resync, s)
      | none, none => none

/-- Work on a region's stripes goes on with its next one, unless its engine pauses (R14). -/
def Blk.stepMove (b : Blk) (r : Nat) : Blk := match b.regionEntry r with
  | none => b
  | some e =>
    if b.regionMoving r || b.twillPaused r || b.leaving r then b
    else match b.nextMove r e with
      | some (m, s) => b.startStripe r e m s
      | none => b

/-- The refresh of a tag region or metadata slot goes on with its next stripe (R118, R129). -/
def Blk.stepArea (b : Blk) (area : Nat) : Blk :=
  let slot := (area - 134217728) / 2
  let c := b.slotCls slot
  match b.twill.fresh.find area with
  | some (s, _) =>
    let w := Work.area c slot s
    if b.doing w || !b.unlocked [stripeId slot s] then b else b.startJob { work := w, locks := [stripeId slot s], reads := stripeMems c slot s }
  | none => b

/-- A slot is to be left: its region migrates ahead of wear migrations, and the slot is retired (R434). -/
def Blk.leaveSlot (b : Blk) (slot : Nat) : Blk :=
  let b1 := b.setSlot slot { b.slotSt slot with retire := true }
  match b.regionAt slot with
  | some (r, e) => if e.mig then b1 else b1.onTwill fun t => { t with migDue := r :: t.migDue.filter fun x => x != r }
  | none => b1

/-- The class and the die of a member position now. -/
def Blk.positionDie (b : Blk) (key : Nat) : Nat := b.memberDie (key / 18) (widthOf (b.slotCls (key / 18))) (key % 18)

/-- The die of a member position but for its substitution (R407). -/
def Blk.homeDie (b : Blk) (key : Nat) : Nat := (b.onSafety fun s => { s with subst := s.subst.del key }).positionDie key

/-- Cells of a die whose rebuild has ended are cleared (R137). -/
def Blk.clearCells (b : Blk) (d : Nat) : Blk := b.onGauze fun g => { g with cells := g.cells.filter fun e => e.1 / 192 != d }

/-- The rebuild has no position left (R406). -/
def Blk.rebuildOver (b : Blk) : Blk := if b.safety.rebuild.isEmpty then (b.onSafety fun s => { s with rebuildTotal := 0 }).degrade 0 false else b

/-- The lines of a position stand on the die that it has gone to, with what was written to a stripe after its rebuild (log 98); the place that they leave is blank. -/
def Blk.moveLines (b : Blk) (key : Nat) : Blk :=
  let c := b.slotCls (key / 18)
  (List.range 1024).foldl (fun b s =>
    let x : Mem := { cls := c, slot := key / 18, stripe := s, m := key % 18 }
    match b.media.lines.find (b.memLoc x) with
    | some y => (b.storeLine (b.movedLoc x) y).blankLine (b.memLoc x)
    | none => b.blankLine (b.movedLoc x)) b

/-- The last stripe of a position is done: the substitution takes effect, a slot that held a failed position is to be retired (R74, R406); a position copied back leaves its substitute free, which is journalled (R407). -/
def Blk.endRebuild (b : Blk) (key d : Nat) : Blk :=
  let old := b.positionDie key
  let back := b.safety.subst.has key && d == b.homeDie key
  let b1 := (b.moveLines key).onSafety fun s => { s with rebuildAt := none, rebuild := s.rebuild.filter fun k => k != key, subst := if back then s.subst.del key else s.subst.put key d }
  let b2 := (b1.onMedia fun m => { m with owed := m.owed.filter fun x => x.slot != key / 18 || x.m != key % 18 }).bump 0x7C10 0x06 1
  if back then (b2.journalRec 0x0A [key, d]).onTwill fun t => { t with freePos := t.freePos + 1 }
  else
    let b3 := b2.leaveSlot (key / 18)
    (if b3.safety.rebuild.any fun k => b3.positionDie k == old then b3 else b3.clearCells old).rebuildOver

/-- The work on a position pauses while a channel with one of its slot's members, or that of its new die, is held (R412). -/
def Blk.rebuildPaused (b : Blk) (key d : Nat) : Bool :=
  let c := b.slotCls (key / 18)
  b.chanHeld (d / 8) || (List.range (widthOf c)).any fun m => m != key % 18 && b.chanHeld (b.memberDie (key / 18) (widthOf c) m / 8)

/-- A rebuild goes on with the next stripe of its position: its line is read, or, its die having failed, reconstructed from the others (R406, R407). -/
def Blk.stepRebuild (b : Blk) : Blk := match b.safety.rebuildAt with
  | some (key, d, s) =>
    let slot := key / 18
    let w := Work.rebuild key s
    if b.rebuildPaused key d || b.twill.jobs.any (fun e => match e.2.work with
      | .rebuild _ _ => true
      | _ => false) then b
    else if 1024 ≤ s then (if b.slotHeld slot || b.journalWait then b else b.endRebuild key d)
    else if !b.unlocked [stripeId slot s] then b
    else b.startJob { work := w, locks := [stripeId slot s], reads := [{ cls := b.slotCls slot, slot := slot, stripe := s, m := key % 18 }] }
  | none => b

/-! ### Rotation (R69, R70) -/

/-- Passes that run. -/
def Blk.passesRun (b : Blk) : Nat := (b.twill.rot.filter fun e => decide (e.2.cursor < 1023) || b.doing (.stripe e.1 .park 1023)).length

/-- Step 1 of a pass: stripe 1,023 goes to the park stripe. A pass waits for a place among 64, for other work on its region's stripes, the journal and the end of M9. -/
def Blk.beginPass (b : Blk) (r : Nat) : Blk :=
  match b.twill.rot.find r, b.regionEntry r with
  | some x, some e =>
    if x.cursor ≠ 1023 || decide (64 ≤ b.passesRun) || b.holds 9 || e.mig || b.regionMoving r || b.journalWait || b.twillPaused r || b.leaving r then b
    else (b.onTwill fun t => { t with rot := t.rot.put r { x with start := b.opSec } }).startStripe r e .park 1023
  | _, _ => b

/-- Passes that wait start as places allow. -/
def Blk.beginPasses (b : Blk) : Blk := (b.twill.rot.filter fun e => e.2.cursor == 1023).foldl (fun b e => b.beginPass e.1) b

/-- The last job of a pass, whose line the pass's end releases. -/
def Blk.unparkJob (b : Blk) (r : Nat) : Option Nat :=
  (b.twill.jobs.find? fun e => e.2.work == .stripe r .unpark 1023 && e.2.phase == .writing && e.2.left == 0).map Prod.fst

/-- Step 4: ROT, ROTP and AGE in one entry write, journalled; a pass that came due meanwhile follows. -/
def Blk.endPass (b : Blk) (r n : Nat) (x : Rotation) (e : RegionEntry) : Blk :=
  let b1 := ((b.dropJob n).putRegion r { e with rot := e.rot + 1, rotp := false, age := 0 }).journalRec 0x05 [r, (e.rot + 1).toNat]
  ((b1.areaNew r).bump 0x4030 0x04 1).onTwill fun t => { t with rot := if x.again then t.rot.put r { cursor := 1023, park := x.park } else t.rot.del r }

/-! ### Migration (R71 to R74) -/

/-- A region's slot is to be retired: it is at the ceiling, or a location of it has failed (R74, R434). -/
def Blk.mustLeave (b : Blk) (e : RegionEntry) : Bool := decide (wearCeiling ≤ e.l) || (b.slotSt e.slot.toNat).retire

/-- A slot is left for a migration: for a retirement the reserve's too, for any other one beyond the reserve, and none in M9 (R77). -/
def Blk.slotLeft (b : Blk) (retire : Bool) : Bool := if retire then decide (0 < b.spare) else !b.holds 9 && decide (spareReserve b.dieCount < b.spare)

/-- A migration of a region may start: at most 16 run, no pass or other move of the region runs or, unless its slot is to be retired, waits, no member die has failed, the journal takes records and a slot is left. -/
def Blk.mayMigrate (b : Blk) (r : Nat) (e : RegionEntry) : Bool :=
  decide (b.twill.mig.length < 16) && !e.mig && !e.rotp && !b.regionMoving r && ((b.twill.rot.find r).isNone || b.mustLeave e || b.holds 9) && !b.journalWait && !b.twillPaused r && !b.leaving r
    && !b.slotBroken e.slot.toNat && b.slotLeft (b.mustLeave e)

/-- Steps 1 and 2 of a migration: the slot is taken, the start journalled, MIG set, and the tiles of the new slot that are not blank wait for their resets. -/
def Blk.beginMigration (b : Blk) (r : Nat) (e : RegionEntry) (slot : Nat) (cold : Bool) : Blk :=
  let b1 := (b.journalRec 0x01 [r, e.slot.toNat, slot]).putRegion r { e with mig := true }
  let b2 := b1.onTwill fun t => { t with mig := t.mig.put r { old := e.slot.toNat, new := slot, cold := cold }, migDue := t.migDue.filter (fun x => x != r), fresh := t.fresh.del r }
  ((b2.setSlot slot { b2.slotSt slot with use := .region }).resetSlot slot).lifeCheck

/-- A migration is abandoned: the region stays on its old slot, the copy's slot is given up, and the region's turn comes again (R85). -/
def Blk.dropMigration (b : Blk) (r : Nat) (m : Migration) (e : RegionEntry) : Blk :=
  let mine (w : Work) : Bool := match w with
    | .stripe x .migrate _ => x == r
    | _ => false
  let ns := (b.twill.jobs.filter fun x => mine x.2.work).map Prod.fst
  let b1 := (ns.foldl Blk.dropJob b).onMedia fun x => { x with pend := x.pend.filter fun p => match p.why with
    | .job n _ => !ns.contains n
    | _ => true }
  ((b1.putRegion r { e with mig := false }).onTwill fun t => { t with mig := t.mig.del r, migDue := if m.cold then t.migDue else t.migDue ++ [r] }).freeSlot m.new (b1.slotWear m.new)

/-- Steps 4 and 5 of a migration: the entry takes the new slot and its wear, lines whose old home location had failed go home by a demotion (R434), and the old slot is given up; a region whose new slot has a failed location is due again. -/
def Blk.endMigration (b : Blk) (r : Nat) (m : Migration) (e : RegionEntry) : Blk :=
  let again := (b.slotSt m.new).retire
  let failed := (b.twill.hot.filter fun x => regionOfLine x.2.li == r && b.homeFailed x.2.li).map fun x => x.2.li
  let b1 := (b.putRegion r { e with slot := BitVec.ofNat 22 m.new, wear := BitVec.ofNat 18 (b.slotWear m.new), age := 0, mig := false }).journalRec 0x02 [r, m.new]
  let b2 := b1.onTwill fun t => { t with mig := t.mig.del r, migDue := if again then r :: t.migDue.filter (fun x => x != r) else t.migDue }
  failed.foldl (fun c li => c.startDemotion li none) (((b2.areaNew r).bump 0x4030 0x03 1).giveUp m.old e.wear.toNat)

/-! ### All background work -/

/-- The migrations whose member dies have failed are abandoned (R85), and those whose new slot has a tile that does not reset. -/
def Blk.dropBroken (b : Blk) : Blk := b.twill.mig.foldl (fun b x => match b.regionEntry x.1 with
  | some e => if b.slotBroken x.2.old || b.slotBroken x.2.new || (x.2.next == 0 && (b.slotSt x.2.new).retire) then b.dropMigration x.1 x.2 e else b
  | none => b) b

/-- Moves go on: passes and re-encryptions that wait, and of every region and slot on the move the next stripe. -/
def Blk.stepMoves (b : Blk) : Blk :=
  let b1 := b.dropBroken.beginPasses.startGroups
  let rs := ((b1.twill.rot.map Prod.fst) ++ (b1.twill.mig.map Prod.fst) ++ (b1.twill.fresh.map Prod.fst) ++ (b1.twill.resyncAt.map Prod.fst)).eraseDups
  (rs.foldl (fun b r => if 134217728 ≤ r then b.stepArea r else b.stepMove r) b1).stepRebuild

/-- Background work goes on as far as it can: the records of the poison list (R102), the jobs with their reads and writes, then the moves that follow. -/
def Blk.drive (b : Blk) : Blk := if b.works then b.issueRecords.advanceJobs.stepMoves else b

end Sys2Proof.Machine
end

