-- ==== Sys2Proof/Machine/WritePath.lean ====
section
/-! DEFINITION. Writes on the media: the paths of holding buffers and write-through lines (R58, R59, R62, R148, R172), the end of a program with Denim's write-verify (R32, R189), retired locations (R434), and tile resets (R42, R191). -/

namespace Sys2Proof.Machine

/-! ### The cold path -/

/-- A line whose stripe has lost more members than its class tolerates cannot be stored: both halves are poisoned, and a barrier that covers it ends with data loss (R172). -/
def Blk.cannotStore (b : Blk) (li : Nat) : Blk :=
  (b.poisonLine li 0x5801).onPath fun p => { p with barriers := p.barriers.map fun x => if x.lines.contains li then { x with lost := insUniq li x.lost } else x }

/-- A line's stripe has lost for good more members than its class tolerates (R32, R172). -/
def Blk.pastTolerance (b : Blk) (p : Place) : Bool := decide (toleranceOf p.cls < (b.deadMembers p.cls p.slot p.stripe).length)

/-- An eviction that only the append stall has sent to the cold path is counted (OD 0x4050.06). -/
def Blk.countStall (b : Blk) (stall : Bool) : Blk := if stall then (b.bump 0x4050 0x06 1).tw 106 1 else b

/-- The cold write of a holding buffer's line starts, or its line cannot be stored (R59, R172). -/
def Blk.coldBuffer (b0 : Blk) (n : Nat) (x : HBuf) (e : EgressErr) : Blk :=
  let r := b0.egress x.li x.data e
  let b := r.1
  if x.issued || b0.pathFor x.li x.hotPath ≠ .cold then b0
  else if !r.2 then b
  else match b.homeOf x.li with
    | none => (b.report { code := 0x4007, dpa := some (dpaOfLine x.li) }).bufferDone n
    | some p =>
      if b.pastTolerance p then (b.cannotStore x.li).bufferDone n
      else if !b.coldOpen x.li p || b.doing (.cold n) then b
      else (b.startCold (.cold n) x.li []).countStall (b.stallsAppend x.li x.hotPath)

/-- Write-through writes of a line that wait for a program. -/
def Blk.throughWaiting (b : Blk) (li : Nat) : Nat := (b.path.acc.filter fun x => x.stage == .program && x.line == li && !x.wrote).length

/-- A write-through program of a line, or a cold write for it, runs. -/
def Blk.throughRuns (b : Blk) (li : Nat) : Bool := (b.path.acc.any fun x => x.stage == .program && x.line == li && x.wrote) || b.doing (.through li)

/-- The cold write of a write-through line starts, while an append stall holds or its class has no open stripe (R58). -/
def Blk.coldThrough (b0 : Blk) (li : Nat) (e : EgressErr) : Blk := match b0.resident li, b0.homeOf li with
  | some (_, v), some p =>
    let r := b0.egress li v.data e
    let b := r.1
    if b0.throughWaiting li = 0 || b0.throughRuns li || !v.wt || !v.whole || b0.pathFor li true ≠ .cold then b0
    else if !r.2 then b
    else if b.pastTolerance p then (b.cannotStore li).throughAgain li |>.completeWrites li true
    else if !b.coldOpen li p then b
    else (b.startCold (.through li) li []).countStall (b.stallsAppend li true)
  | _, _ => b0

/-- COLD_PATH_WRITE: Twill starts the write of a holding buffer, or of a write-through line, whose path is the cold one (R58, R59). -/
def execColdPathWrite (a : Stamp) (t : ColdTarget) (e : EgressErr) (s : State) : Host.Outcome State Fault Refusal :=
  s.command a fun b =>
    if !b.works then b
    else match t with
      | .buffer n => (match b.velvet.bufs.find n.val with
        | some x => b.coldBuffer n.val x e
        | none => b).drive
      | .line li => (b.coldThrough li.toNat e).drive

/-! ### Appends -/

/-- The way that a line without a hot entry is about to take is kept for it (R62, R65). -/
def Blk.keepWay (b : Blk) (li : Nat) : Blk :=
  if (b.hotFind li).isSome then b else match b.hotFree li with
    | some k => b.onTwill fun t => { t with reserve := t.reserve.put k li }
    | none => b

/-- A line has its hot entry: its promotion mark is used up (R63). -/
def Blk.markUsed (b : Blk) (li : Nat) : Blk := match b.resident li with
  | some (k, v) => if v.pmark && !v.wt then b.putWay k { v with pmark := false } else b
  | none => b

/-- A copy that no entry points to counts as invalid in its tile row (R62, R67). -/
def Blk.wasteCopy (b : Blk) (slot stripe : Nat) : Blk :=
  let k := slot * 16 + stripe / 64
  b.onTwill fun t => { t with rows := t.rows.put k { t.rows.getD k {} with invalid := (t.rows.getD k {}).invalid + 1 } }

/-- A job's copy of a line is still wanted: the line stands where the job found it (R67, R85), or, of a line saved from a failed location, still has no hot copy (R434). -/
def Blk.copyStands (b : Blk) (w : Work) : Option Nat :=
  match w with
  | .collect li _ loc => if (b.lookup li).map Place.loc = some loc then some li else none
  | .save li _ => if (b.hotFind li).isNone then some li else none
  | .weak x => ((b.jobChecks (.weak x)).head?).map Prod.fst
  | _ => none

/-- The map entry of an appended line is switched to its new copy (R62), and what waited for that goes on. -/
def Blk.applySwitch (b : Blk) (li : Nat) (why : ProgFor) (since : Nat) : Blk :=
  match why with
  | .append n slot stripe pos => ((b.setHot li slot stripe pos).markUsed li).bufferDone n
  | .writeThrough _ slot stripe pos => (b.setHot li slot stripe pos).throughDone li since
  | .copy j slot stripe pos => match b.twill.jobs.find j with
    | some x => match b.copyStands x.work with
      | some _ => ((b.setHot li slot stripe pos).dropJob j).jobEffect x
      | none => (b.wasteCopy slot stripe).dropJob j
    | none => b.wasteCopy slot stripe
  | _ => b

/-- The switch waits while a read holds a reservation on the line (R38). -/
def Blk.switchLine (b : Blk) (li : Nat) (why : ProgFor) (since : Nat) : Blk :=
  if b.lineReserved li then b.onMedia fun m => { m with switchDue := m.switchDue ++ [(li, why, since)] } else b.applySwitch li why since

/-- Switches that waited take place as the reservations end (R38). -/
def Blk.pumpSwitches (b : Blk) : Blk :=
  b.media.switchDue.foldl (fun b e => b.switchLine e.1 e.2.1 e.2.2) (b.onMedia fun m => { m with switchDue := [] })

/-- A holding buffer's line is appended in a lane (R61, R62); on a failed member, the stripe's parity encodes it. -/
def Blk.hotWrite (b : Blk) (n : Nat) (x : HBuf) (lane : Nat) (l : Lane) : Blk :=
  let loc := b.laneLoc l
  let why : ProgFor := .append n l.slot l.stripeNo l.pos
  if !b.laneQualifies x.li l || b.laneChosen lane || !b.tagRoom x.li || (b.hotWayFor x.li).isNone then b
  else
    let r := (b.keepWay x.li).takePosition x.li x.data lane l
    let b1 := r.1.putBuf n { x with issued := true, again := false, hotPath := true }
    if b.lineGone loc then (((b1.storeLine r.2.1 r.2.2).closeFull l.slot l.stripeNo l.pos).switchLine x.li why b.now)
    else b1.program { loc := r.2.1, c := r.2.2, why := why, ovw := false, denim := l.cls == .denim }

/-- HOT_APPEND: Twill appends the line of a holding buffer whose path is the hot one into a lane (R58, R61, R62). -/
def execHotAppend (a : Stamp) (n : Fin 4096) (lane : Fin 256) (e : EgressErr) (s : State) : Host.Outcome State Fault Refusal :=
  s.command a fun b =>
    match b.velvet.bufs.find n.val, b.twill.lanes.find lane.val with
    | some x, some l =>
      if x.issued || !b.works || b.pathFor x.li x.hotPath ≠ .hot then b
      else
        let r := b.egress x.li x.data e
        if r.2 then (r.1.hotWrite n.val x lane.val l).drive else r.1
    | _, _ => b

/-- The lane that the gate has chosen for a line's write-through writes (R148). -/
def Blk.chosenLane (b : Blk) (li : Nat) : Option Nat := (b.path.acc.find? fun x => x.stage == .program && x.line == li && x.lane.isSome).bind Acc.lane

/-- WRITE_THROUGH_WRITE: the line of waiting write-through writes is programmed, in the lane that the gate has chosen while that still qualifies, else in the one named; writes that came while a program of the line ran wait for its end (R148). -/
def execWriteThroughWrite (a : Stamp) (li : BitVec 36) (lane : Fin 256) (e : EgressErr) (s : State) : Host.Outcome State Fault Refusal :=
  s.command a fun b =>
    let n := b.throughWaiting li.toNat
    let k := match (b.chosenLane li.toNat).filter fun k => (b.twill.lanes.find k).any fun l => b.throughLane li.toNat l with
      | some k => k
      | none => lane.val
    match b.resident li.toNat, b.twill.lanes.find k with
    | some (_, v), some l =>
      if n = 0 || b.throughRuns li.toNat || !v.wt || !v.whole || !b.works || b.pathFor li.toNat true ≠ .hot || !b.throughLane li.toNat l || !b.tagRoom li.toNat then b
      else
        let g := b.egress li.toNat v.data e
        let r := (g.1.keepWay li.toNat).takePosition li.toNat v.data k l
        let b1 := (r.1.onPath fun p => { p with acc := p.acc.map fun x => if x.stage == .program && x.line == li.toNat then { x with wrote := true, lane := none } else x }).tw 107 n
        if !g.2 then g.1 else b1.program { loc := r.2.1, c := r.2.2, why := .writeThrough li.toNat l.slot l.stripeNo l.pos, ovw := false, denim := l.cls == .denim }
    | _, _ => b

/-! ### The end of a program -/

/-- The stripe member that a program writes. -/
def Blk.progMem (b : Blk) (why : ProgFor) : Mem :=
  let at_ (slot stripe pos : Nat) : Mem := { cls := b.slotCls slot, slot := slot, stripe := stripe, m := dataMember (b.slotCls slot) stripe pos }
  match why with
  | .append _ slot stripe pos => at_ slot stripe pos
  | .writeThrough _ slot stripe pos => at_ slot stripe pos
  | .copy _ slot stripe pos => at_ slot stripe pos
  | .job _ x => x
  | .close x => x
  | .rewrite x => x
  | .record x => x

/-- The line that an append's program stores, by what it is for. -/
def Blk.progLine (b : Blk) : ProgFor → Option Nat
  | .append n _ _ _ => (b.velvet.bufs.find n).map HBuf.li
  | .writeThrough li _ _ _ => some li
  | .copy j _ _ _ => (b.twill.jobs.find j).bind fun x => b.copyStands x.work
  | _ => none

/-- The lane's stripe closes with its 16th data line (R62). -/
def Blk.closeAfter (b : Blk) : ProgFor → Blk
  | .append _ slot stripe pos => b.closeFull slot stripe pos
  | .writeThrough _ slot stripe pos => b.closeFull slot stripe pos
  | .copy _ slot stripe pos => b.closeFull slot stripe pos
  | _ => b

/-- A program or overwrite has stored its line, in Denim verified. -/
def Blk.programStored (b : Blk) (why : ProgFor) (since : Nat) : Blk :=
  let b1 := b.closeAfter why
  match why with
  | .job j _ => b1.onJob j fun x => { x with left := x.left - 1 }
  | .close _ => b1
  | .rewrite x => b1.onMedia fun m => { m with owed := m.owed.filter fun y => y != x }
  | .record x => b1.recordStored x
  | .append _ slot stripe _ => match b1.progLine why with
    | some li => b1.switchLine li why since
    | none => b1.wasteCopy slot stripe
  | .writeThrough li _ _ _ => b1.switchLine li why since
  | .copy j slot stripe _ => match b1.progLine why with
    | some li => b1.switchLine li why since
    | none => (b1.wasteCopy slot stripe).dropJob j

/-- The lane whose stripe holds a failed position closes it, and its tile row is not used again (R85, R434). -/
def Blk.closeFailed (b : Blk) (slot stripe : Nat) : Blk :=
  let b1 := match b.twill.lanes.find? fun e => e.2.open_ && e.2.slot == slot && e.2.stripeNo == stripe with
    | some e => b.closeStripe e.1
    | none => b
  b1.onTwill fun t => { t with rows := t.rows.put (slot * 16 + stripe / 64) { t.rows.getD (slot * 16 + stripe / 64) {} with bad := true } }

/-- A line whose home location has failed while background work wrote it is appended to the hot pool, where its current data stand there (R434). -/
def Blk.saveLine (b : Blk) (loc : Nat) (c : MLine) : Blk :=
  let li := fld c.md.toNat 0 36
  match b.homeOf li with
  | some p => if p.loc = loc && b.current li p then match b.openLine li p c.data with
      | some data => b.newJob { work := .save li data }
      | none => b
    else b
  | none => b

/-- What the failure of one of a job's writes means for what it stores (R434): the data line of a cold write goes hot, of another home line is saved there; parity is left missing. -/
def Blk.jobFailed (b : Blk) (j : Nat) (x : Mem) (loc : Nat) (c : MLine) : Blk :=
  let b1 := if b.slotUse x.slot == .region then b.leaveSlot x.slot else b
  let b2 := match (b1.twill.jobs.find j).map Job.work with
    | some (.cold k) => if x.pos.isNone then b1 else match b1.velvet.bufs.find k with
      | some y => if (b1.homeOf y.li).map Place.loc = some loc then b1.putBuf k { y with again := true, hotPath := true, mergeAt := 0 } else b1.saveLine loc c
      | none => b1
    | some (.through li) => if x.pos.isNone then b1 else if (b1.homeOf li).map Place.loc = some loc then b1.throughAgain li else b1.saveLine loc c
    | some (.home li) => if x.pos.isNone then b1 else if (b1.homeOf li).map Place.loc = some loc then b1.abandonDemotion li else b1.saveLine loc c
    | some _ => if x.pos.isSome then b1.saveLine loc c else b1
    | none => b1
  b2.onJob j fun y => { y with left := y.left - 1 }

/-- A location has failed for good: it is retired with event 0x3802 (R434). Its stripe's parity encodes what it should hold, as an erasure from now on; a hot line is appended again in another lane, a copy is made again (R85). -/
def Blk.retireLocation (b : Blk) (pid line : Nat) (c : MLine) (why : ProgFor) : Blk :=
  let loc := locOf pid line
  let d := pid / 32
  let b1 := ((((b.storeLine loc c).onMedia fun m => { m with retired := m.retired.put loc why.slot }).reportUnit 0x3802 3 d)).tileFailure d ((pid % 32) * 131072 + line / 64)
  match why with
  | .append n slot stripe _ => match b1.velvet.bufs.find n with
    | some x => (b1.closeFailed slot stripe).putBuf n { x with issued := false }
    | none => b1.closeFailed slot stripe
  | .writeThrough li slot stripe _ => (b1.closeFailed slot stripe).throughAgain li
  | .copy j slot stripe _ => (b1.closeFailed slot stripe).onJob j fun x => { x with phase := .reading, left := 0 }
  | .job j x => b1.jobFailed j x loc c
  | .close x => b1.onTwill fun t => { t with rows := t.rows.put (x.slot * 16 + x.stripe / 64) { t.rows.getD (x.slot * 16 + x.stripe / 64) {} with bad := true } }
  | .rewrite x => (if b1.slotUse x.slot == .region then b1.leaveSlot x.slot else b1).onMedia fun m => { m with owed := m.owed.filter fun y => y != x }
  | .record x => b1.recordAgain x c

/-- The partition is idle again, its guard over (R41). -/
def PartSt.ended (p : PartSt) : PartSt :=
  { p with op := .idle, suspended := false, suspTotal := 0, suspCount := 0, progGuard := false }

/-- The write-verify read of a Denim line asks for a place in its partition's queue until it has one (R32, R37). -/
def Blk.askVerify (b : Blk) (pid : Nat) : Blk := match (b.part pid).op with
  | .verify line c why ovw tries false =>
    if (b.part pid).queue.length < 2 ∧ b.chanWindow (pid / 256) < 7 then
      (b.onPart pid fun p => { p with op := .verify line c why ovw tries true }).onPart pid fun p =>
        { p with queue := p.queue ++ [{ why := .verify, loc := locOf pid line, mem := b.progMem why, queuedAt := b.now }] }
    else b
  | _ => b

/-- The line is programmed again, after a mismatch of its write-verify; each time counts as a write on its slot (R32, R68). -/
def Blk.reprogram (b : Blk) (pid line : Nat) (c : MLine) (why : ProgFor) (ovw : Bool) (tries : Nat) : Blk :=
  ((((b.onPart pid fun p => { p with op := .program line c why ovw true (tries + 1), since := b.now }).sendProgram pid line ovw).countWrites why.slot 1).tw (32 + pid / 256) 1).twChan (pid / 256) (if ovw then 3 else 2)

/-- The write-verify of a partition's Denim line has ended (R32): a mismatch is programmed again up to three times, then the location is retired (R434). -/
def Blk.verifyEnds (b : Blk) (pid : Nat) (same : Bool) : Blk := match (b.part pid).op with
  | .verify line c why ovw tries _ =>
    if same then (b.onPart pid PartSt.ended).programStored why (b.part pid).since
    else if tries < 3 then b.reprogram pid line c why ovw tries
    else (b.onPart pid PartSt.ended).retireLocation pid line c why
  | _ => b

/-- A program or overwrite ends on its partition (R189): a failure retires the location, in Denim the write-verify follows (R32), else the line is stored. On a failed die the stripe's parity encodes the line, and those of the programs that wait for the partition. -/
def Blk.programEnds (b0 : Blk) (pid : Nat) (ok : Bool) : Blk :=
  let b := match (b0.part pid).op with
    | .program _ _ _ _ _ _ => b0.dieBusy (pid / 32) (b0.since (b0.part pid).since)
    | _ => b0
  if b.dieFailed (pid / 32) then
    let ended := b.onPart pid PartSt.ended
    let b1 := match (b.part pid).op with
      | .program line c why _ _ _ => (ended.storeLine (locOf pid line) c).programStored why (b.part pid).since
      | .verify _ _ why _ _ _ => ended.programStored why (b.part pid).since
      | _ => b
    (b1.media.pend.filter fun x => pidOf x.loc == pid).foldl (fun b x =>
      ((b.onMedia fun m => { m with pend := m.pend.erase x }).storeLine x.loc x.c).programStored x.why b.now) b1
  else match (b.part pid).op with
    | .program line c why ovw denim tries =>
      if !ok then ((b.onPart pid PartSt.ended).bump (0x3800 + pid / 32) 0x04 1).retireLocation pid line c why
      else
        let b1 := b.storeLine (locOf pid line) c
        if denim then (b1.onPart pid fun p => { p with op := .verify line c why ovw tries false }).askVerify pid
        else (b1.onPart pid PartSt.ended).programStored why (b.part pid).since
    | _ => b

/-- After an event on the media everything that waits goes on: programs of a die, entry switches, background work. -/
def Blk.goOn (b : Blk) (d : Nat) : Blk := ((b.pump d).pumpSwitches).drive

/-- PROGRAM_COMPLETE: a program or overwrite that is not suspended ends (R189), with whether the die reports a failure. -/
def execProgramComplete (a : Stamp) (ch : Fin 32) (die : Fin 8) (part : Fin 32) (ok : Bool) (s : State) : Host.Outcome State Fault Refusal :=
  s.command a fun b =>
    let pid := partOf ch die part
    if (b.part pid).suspended && !b.dieFailed (pid / 32) then b else (b.programEnds pid ok).goOn (pid / 32)

/-- The members on a channel that were written degraded while it was held are written, but for those of positions that wait for their rebuild (R14, R406). -/
def Blk.payOwed (b : Blk) (ch : Nat) : Blk :=
  (b.media.owed.filter fun x => pidOf (b.memLoc x) / 256 == ch && !b.safety.rebuild.contains (positionKey x.slot x.m)).foldl (fun b x =>
    let loc := b.memLoc x
    match b.media.lines.find loc with
    | some y =>
      if b.media.pend.any (fun p => p.loc == loc) || b.underProgram loc || b.lineGone loc then b
      else b.program { loc := loc, c := y, why := .rewrite x, ovw := true, denim := x.cls == .denim }
    | none => b.onMedia fun m => { m with owed := m.owed.filter fun z => z != x }) b

/-! ### Tile resets -/

/-- Two dies hold members of one stripe in a partition: some slot in use that has stripes there, tile row t lying in partition n + 2t mod 32, has a member on each (R28, R42). -/
def Blk.shareStripe (b : Blk) (d1 d2 part : Nat) : Bool :=
  (List.range (slotsV b.dieCount)).any fun slot =>
    b.isSlot slot && slot % 2 == part % 2 && b.slotUse slot != .free && b.slotUse slot != .retired &&
      (let ds := (List.range (widthOf (b.slotCls slot))).map fun m => b.memberDie slot (widthOf (b.slotCls slot)) m
       ds.contains d1 && ds.contains d2)

/-- No stripe with a member on a die in a partition has another busy member (R42). -/
def Blk.resetAlone (b : Blk) (pid : Nat) : Bool :=
  let d := pid / 32
  let other (e : Nat) : Bool := e != d && b.shareStripe d e (pid % 32)
  (b.media.parts.all fun e => e.1 == pid || e.1 % 32 != pid % 32 || !e.2.resetting || !other (e.1 / 32))
    && (List.range b.dieCount).all fun i =>
        let e := i / (max 1 b.media.perChan) * 8 + i % (max 1 b.media.perChan)
        !(b.dieFailed e || b.chanHeld (e / 8)) || !other e

/-- Partitions of a die in tile reset. -/
def Blk.resetsOf (b : Blk) (d : Nat) : Nat := (b.media.parts.filter fun e => e.1 / 32 == d && e.2.resetting).length

/-- A waiting reset may start: nothing runs, waits or is reserved on the partition (R38), fewer than 4 partitions of the die are in tile reset (R25), and no other member of its stripes is busy (R42). -/
def Blk.mayReset (b : Blk) (pid : Nat) : Bool :=
  let p := b.part pid
  p.isIdle && p.sent.isNone && p.queue.isEmpty && p.prio.isNone && !(b.media.pend.any fun x => pidOf x.loc == pid) && !b.busy pid && !b.reserved pid
    && decide (b.resetsOf (pid / 32) < 4) && b.resetAlone pid && b.works

/-- TILE_RESET_START: the reset that waits longest on a partition starts (R38, R42). -/
def execTileResetStart (a : Stamp) (ch : Fin 32) (die : Fin 8) (part : Fin 32) (s : State) : Host.Outcome State Fault Refusal :=
  s.command a fun b =>
    let pid := partOf ch die part
    match (b.part pid).resetWait with
    | [] => b
    | (tile, count, _, owner) :: rest =>
      if b.mayReset pid then
        ((b.onPart pid fun p => { p with op := .reset tile count owner, resetWait := rest, resetGuard := false, since := b.now }).twChan ch.val 4).sendDie (pid / 32)
          (.trs (BitVec.ofNat 5 part.val) (BitVec.ofNat 17 tile) (BitVec.ofNat 2 count))
      else b

/-- The lines of the tiles of a reset become blank. -/
def Blk.blankTiles (b : Blk) (pid tile count : Nat) : Blk :=
  let lo := locOf pid (tile * 64)
  let out (loc : Nat) : Bool := decide (loc < lo) || decide (lo + 64 * (count + 1) ≤ loc)
  b.onMedia fun m => { m with lines := m.lines.filter fun e => out e.1, gone := m.gone.filter out }

/-- A tile that does not reset is retired (R191): its tile row, or the slot that it lies in, is not used again (R85, R434). -/
def Blk.retireTile (b : Blk) (key : Nat) : Blk :=
  if b.slotUse (key / 16) == .hotPool then b.onTwill fun t => { t with rows := t.rows.put key { t.rows.getD key {} with bad := true } }
  else b.setSlot (key / 16) { b.slotSt (key / 16) with retire := true }

/-- A tile reset ends: its lines are blank and its partition is no longer busy; a failed one counts as a tile failure (R191, R405). -/
def Blk.resetEnds (b : Blk) (pid : Nat) (ok : Bool) : Blk :=
  match (b.part pid).op with
  | .reset tile count owner =>
    let b1 := (b.onPart pid fun p => { p with op := .idle }).dieBusy (pid / 32) (b.since (b.part pid).since)
    let finish (b : Blk) : Blk := match owner with
      | some k => b.resetOver k
      | none => b
    if ok then finish (b1.blankTiles pid tile count)
    else
      let b2 := ((b1.bump (0x3800 + pid / 32) 0x05 1).reportUnit 0x3803 3 (pid / 32)).tileFailure (pid / 32) ((pid % 32) * 131072 + tile)
      finish (match owner with
        | some k => b2.retireTile k
        | none => b2)
  | _ => b

/-- TILE_RESET_COMPLETE (R191). -/
def execTileResetComplete (a : Stamp) (ch : Fin 32) (die : Fin 8) (part : Fin 32) (ok : Bool) (s : State) : Host.Outcome State Fault Refusal :=
  s.command a fun b => (b.resetEnds (partOf ch die part) ok).goOn (partOf ch die part / 32)

end Sys2Proof.Machine
end

