-- ==== Sys2Proof/Machine/ReadPath.lean ====
section
/-! DEFINITION. Reads on the media: issue and suspension (R39 to R41), transfers with replays (R43, R95, R96, R185, R194), reconstruction (R43, R44), fills (R99) and deep recovery (R47, R49, R50). -/

namespace Sys2Proof.Machine

/-- The read that a partition sends next: the priority slot's, else the first of its queue (R43). -/
def PartSt.next (p : PartSt) : Option ReadTask := match p.prio with
  | some t => some t
  | none => p.queue.head?

/-- The partition with that read taken from its slot or queue. -/
def PartSt.taken (p : PartSt) : PartSt := if p.prio.isSome then { p with prio := none } else { p with queue := p.queue.tail }

/-- A partition is free to take a read: none of its own is on its way, no resume runs, no reset, and a write-through program has not had its three suspensions (R39, R40, R148). -/
def Blk.freeForRead (b : Blk) (pid : Nat) : Bool :=
  let p := b.part pid
  p.sent.isNone && decide (p.readyAt ≤ b.now) && !p.resetting && !b.chanHeld (pid / 256) && !p.capped

/-- Reads are issued in the order of acceptance among those whose partitions are free (R39). -/
def Blk.firstInOrder (b : Blk) (pid : Nat) (t : ReadTask) : Bool :=
  b.media.parts.all fun e => e.1 / 256 != pid / 256 || e.1 == pid || (match e.2.next with
    | some u => decide (t.queuedAt ≤ u.queuedAt) || !b.freeForRead e.1
    | none => true)

/-- The RD command of a read task, with the reference offsets of its age and band (R119, R188). -/
def Blk.rdFor (b : Blk) (t : ReadTask) : DieCmd :=
  let d := dieOfLoc t.loc
  let o (j : Nat) : BitVec 9 := BitVec.ofInt 9 (b.readOffset d j t.age t.band)
  .rd (BitVec.ofNat 5 (pidOf t.loc % 32)) (BitVec.ofNat 23 (t.loc % 2 ^ 23)) (o 2) (o 1) (o 0)

/-- What a read finds on its partition: a running program is suspended, a margin read is abandoned and will be issued again (R40). Answers the delay in ns before the read. -/
def Blk.makeWay (b : Blk) (pid : Nat) : Blk × Nat :=
  let p := b.part pid
  let d := pid / 32
  match p.op with
  | .program _ _ _ _ _ _ =>
    if p.suspended then (b.onPart pid fun p => { p with suspCount := p.suspCount + 1 }, 0)
    else (((b.sendDie d (.sus (BitVec.ofNat 5 (pid % 32)))).onPart pid fun p => { p with suspended := true, suspSince := b.now, suspCount := p.suspCount + 1 }).twChan (d / 8) 5, 180)
  | .marginRead x => ((b.sendDie d (.sus (BitVec.ofNat 5 (pid % 32)))).onPart pid fun p => { p with op := .idle, marginAgain := some x }, 180)
  | _ => (b, 0)

/-- A line as a die stores it (R23): data, metadata, and the check bits over both. -/
def lineBits (x : MLine) : BitVec 1152 :=
  let m : BitVec 1064 := x.md ++ x.data
  lineCheck m ++ m

/-- A read occupies its partition for `t` ns and leaves what it sensed in the output buffer (R188): a blank line with counts of 0 (R184), a line under program with RSTAT 3 and undefined data (R185, R193); guard-band counts are open values (log 4). -/
def Blk.occupy (b : Blk) (pid line : Nat) (seq : BitVec 3) (t : Nat) : Blk :=
  let b1 := b.useFree
  let free : BitVec 1152 := b.freeVal 1152
  let sg : BitVec 72 := b1.freeVal 72
  let r : BitVec 3 × BitVec 72 × BitVec 1152 :=
    if b.underProgram (locOf pid line) then (3, sg, free)
    else match b.media.lines.find (locOf pid line) with
      | some x => (0, sg, lineBits x)
      | none => (1, 0, free)
  b1.useFree.onMedia fun m => { m with dparts := m.dparts.set {} pid { until_ := b.now + t, out := some (BitVec.ofNat 23 line, seq, r) } }

/-- A read task leaves its queue or slot and goes out (R39): its age, band and offsets are those of now (R119), and its cells come into use (R126). -/
def Blk.issue (b : Blk) (pid : Nat) (t : ReadTask) : Blk :=
  let d := pid / 32
  let susp := match (b.part pid).op with
    | .program _ _ _ _ _ _ => !(b.part pid).suspended
    | _ => false
  let way := b.makeWay pid
  let seq := (way.1.die d).seq
  let u := { t with seq := seq, due := b.now + way.2 + 250, age := if t.why = .verify then 0 else b.memAge t.mem, band := (b.die d).band }
  let b0 := way.1.openCells d u.age u.band
  let b1 := b0.sendDie d (b0.rdFor u)
  let b2 := (b1.onPart pid fun p => { p.taken with sent := some u }).occupy pid (t.loc % 2 ^ 23) seq (way.2 + 250)
  let b2a := if b0.terryRead t then b2.tw 102 1 else b2
  let b3 := ((b2a.twChan (d / 8) 1).twDie d 1 1).dieBusy d (way.2 + 250)
  match t.why with
  | .host rid => b3.onAcc rid fun x => { x with stage := if x.stage == .queued then .issued else x.stage, susp := x.susp || susp }
  | .member rid => b3.onAcc rid fun x => { x with susp := x.susp || susp }
  | _ => b3

/-! ### Margin reads (R40, R125, R188) -/

/-- A margin read goes out: it occupies its partition until its transfer at tMRD (R188, R190). -/
def Blk.sendMargin (b : Blk) (pid : Nat) (x : Margin) : Blk :=
  let d := pid / 32
  let seq := (b.die d).seq
  (((b.sendDie d (.mrd (BitVec.ofNat 5 (pid % 32)) (BitVec.ofNat 23 x.line) x.o2 x.o1 x.o0)).occupy pid x.line seq 400).dieBusy d 400).onPart pid fun p => { p with op := .marginRead x, marginAgain := none }

/-- A probe reads with the offsets of R119 as they are now; other margin reads keep their own. -/
def Blk.marginNow (b : Blk) (pid : Nat) (x : Margin) : Margin :=
  match x.probe, b.memAt (locOf pid x.line) with
  | some _, some m =>
    let o (j : Nat) : BitVec 9 := BitVec.ofInt 9 (b.readOffset (pid / 32) j (b.memAge m) (b.die (pid / 32)).band)
    { x with o2 := o 2, o1 := o 1, o0 := o 0, probe := some (b.memAge m, (b.die (pid / 32)).band) }
  | _, _ => x

/-- A margin read that was abandoned goes out again once its partition is free and no read waits for it (R40). -/
def Blk.marginOn (b : Blk) (pid : Nat) : Blk :=
  let p := b.part pid
  match p.marginAgain with
  | some x =>
    if p.op == .idle && p.queue.isEmpty && p.prio.isNone && p.sent.isNone && decide (p.readyAt ≤ b.now) && !b.chanHeld (pid / 256) then
      let y := b.marginNow pid x
      (match y.probe with
        | some (age, n) => b.openCells (pid / 32) age n
        | none => b).sendMargin pid y
    else b
  | none => b

/-- A ciphertext of a line that background work holds: of a group under re-encryption until it is on media (R245, R260). -/
def Blk.heldCipher (b : Blk) (li : Nat) : Option Line := b.twill.jobs.findSome? fun e => e.2.held.find li

/-- The content of an accepted request's line, opened once its tag line is known, reaches its readers (R98, R240); one that fails its tag is reconstructed. -/
def Blk.openOwn (b : Blk) (rid : Nat) (a : Acc) (p : Place) (e : DpErr) : Blk :=
  if a.tagWait || a.listWait then b.onAcc rid fun y => { y with tagHeld := some e }
  else match b.openLine a.line p ((b.heldCipher a.line).getD (b.stored p.loc)) with
    | some line => b.lineData rid line e
    | none => b.reconOnce rid

/-- A request whose data line has been read goes on, with its tag line and its list entry known (R102, R247). -/
def Blk.resumeHeld (b : Blk) (x : Acc) (e : DpErr) : Blk :=
  if x.listWait then b.onAcc x.rid fun y => { y with tagHeld := some e }
  else if b.unwritten x.line then b.lineData x.rid 0 e
  else match b.lookup x.line with
    | some p => b.openOwn x.rid { x with tagWait := false } p e
    | none => b.startRead x.rid

/-- A tag line has been read: the requests that wait for it go on (R247). -/
def Blk.tagArrives (b : Blk) (ti : Nat) : Blk :=
  (b.path.acc.filter fun x => x.tagWait && tagIdx x.line == ti).foldl (fun b x =>
    let b1 := b.onAcc x.rid fun y => { y with tagWait := false, tagLost := none, tagHeld := none }
    match x.tagHeld with
    | none => b1
    | some e => b1.resumeHeld x e) b

/-- A tag line whose stripe has been read is known, or, its erasures past the class's tolerance, leaves the reads that wait for it to deep recovery (R44, R47). -/
def Blk.settleTag (b : Blk) (rid : Nat) : Blk := match b.accOf rid with
  | some x => match x.tagLost with
    | some l =>
      if !b.readsHome (.tagMember rid) then b
      else if l.length ≤ toleranceOf .voile then b.tagArrives (tagIdx x.line)
      else (b.path.acc.filter fun y => y.tagWait && tagIdx y.line == tagIdx x.line).foldl (fun b y =>
        (b.onAcc y.rid fun z => { z with tagWait := false, tagLost := none, tagHeld := none }).startDeep y.rid false) b
    | none => b
  | none => b

/-- Requests that only their list entry held back go on (R102). -/
def Blk.settleLists (b : Blk) : Blk := (b.path.acc.filter fun x => x.tagHeld.isSome && !x.tagWait && !x.listWait).foldl (fun b x => match x.tagHeld with
  | some e => (b.onAcc x.rid fun y => { y with tagHeld := none }).resumeHeld x e
  | none => b) b

/-- The reconstructions of tag lines that have all their members, and the requests that wait for nothing any more. -/
def Blk.settleTags (b : Blk) : Blk := ((b.path.acc.filter fun x => x.tagLost.isSome).foldl (fun b x => b.settleTag x.rid) b).settleLists

/-- After a read has gone out or come home everything that waits goes on: write-verify reads, background reads, entry switches, tag lines, and last the margin reads that were abandoned. -/
def Blk.readOn (b : Blk) (d : Nat) : Blk :=
  (List.range 32).foldl (fun b q => b.marginOn (partId d q)) (((b.media.parts.map Prod.fst).foldl Blk.askVerify b.settleTags).goOn d)

/-- A read whose line is under program takes its content from the buffer that the write came from (R193); a host's read of a line that background work holds is served from there (R245). -/
def Blk.fromBuffer (b : Blk) (t : ReadTask) : Blk :=
  match t.why with
  | .host rid => match b.accOf rid with
    | none => b
    | some x => match b.bufOf x.line, b.lookup x.line with
      | some (_, y), _ => b.lineData rid y.data {}
      | none, some p => if p.loc = t.loc then b.openOwn rid x p {} else b.startRead rid
      | none, none => b.startRead rid
  | .member _ => b
  | .tag rid => match b.accOf rid with
    | some x => b.tagArrives (tagIdx x.line)
    | none => b
  | .tagMember _ => b
  | .job n => b.jobRead n t.mem true
  | .list rid => b.onAcc rid fun y => { y with listWait := false }
  | .verify => b

/-- A read's line need not be read from the media: its program runs or waits, or background work holds it. -/
def Blk.buffered (b : Blk) (t : ReadTask) : Bool := b.underProgram t.loc || (match t.why with
  | .host rid => ((b.accOf rid).bind fun x => b.heldCipher x.line).isSome
  | _ => false)

/-- READ_ISSUE: the next read of a free partition goes out, in order of acceptance (R39, R40). A line whose program is running is not read: its content comes from the buffer (R193). -/
def execReadIssue (a : Stamp) (ch : Fin 32) (die : Fin 8) (part : Fin 32) (s : State) : Host.Outcome State Fault Refusal :=
  s.command a fun b =>
    let pid := partOf ch die part
    match (b.part pid).next with
    | none => b.readOn (pid / 32)
    | some t =>
      if !b.freeForRead pid || !b.firstInOrder pid t then b
      else (if b.buffered t then (b.onPart pid PartSt.taken).fromBuffer t else b.issue pid t).readOn (pid / 32)

/-- PROGRAM_RESUME: a suspended program resumes once no read waits for its partition (R40). -/
def execProgramResume (a : Stamp) (ch : Fin 32) (die : Fin 8) (part : Fin 32) (s : State) : Host.Outcome State Fault Refusal :=
  s.command a fun b =>
    let pid := partOf ch die part
    let p := b.part pid
    if p.suspended && p.queue.isEmpty && p.prio.isNone && p.sent.isNone then
      (b.onPart pid fun p => { p with suspended := false, suspTotal := p.suspTotal + (b.now - p.suspSince), readyAt := b.now + 60 }).sendDie (pid / 32) (.rsm (BitVec.ofNat 5 part.val))
    else b

/-- PROGRAM_GUARD: a program suspended for a total of 20 µs puts its partition under the program guard (R41). -/
def execProgramGuard (a : Stamp) (ch : Fin 32) (die : Fin 8) (part : Fin 32) (s : State) : Host.Outcome State Fault Refusal :=
  s.command a fun b =>
    let pid := partOf ch die part
    let p := b.part pid
    let total := p.suspTotal + (if p.suspended then b.now - p.suspSince else 0)
    match p.op with
    | .program _ _ _ _ _ _ => if 20000 ≤ total ∧ !p.progGuard then (b.onPart pid fun p => { p with progGuard := true }).tw (64 + ch.val) 1 else b
    | _ => b

/-- RESET_GUARD: a tile reset that has waited 20 µs for reservations puts its partition under the reset guard (R38). -/
def execResetGuard (a : Stamp) (ch : Fin 32) (die : Fin 8) (part : Fin 32) (s : State) : Host.Outcome State Fault Refusal :=
  s.command a fun b =>
    let pid := partOf ch die part
    match (b.part pid).resetWait with
    | (_, _, t, _) :: _ => if b.reserved pid && decide (20000 ≤ b.since t) then b.onPart pid fun p => { p with resetGuard := true } else b
    | [] => b

/-! ### Transfers -/

/-- Replays of a channel are exhausted: counted and reported, and 16 within 1 s ask for a retrain (R95, R194, R202). -/
def Blk.replaysExhausted (b : Blk) (ch : Nat) : Blk :=
  let b1 := ((b.bump 0x5800 0x07 1).bump (0x3000 + 0x20 * ch) 0x05 1).reportUnit 0x3004 2 ch
  b1.onChan ch fun c =>
    let l := b.now :: c.exhausted.filter fun t => decide (b.now - t < 1000000000)
    { c with exhausted := l, retrain := c.retrain || decide (16 ≤ l.length) }

/-- What a failed transfer starts beside its replay (R43): the reconstruction of a host's line, or of a tag line. -/
def Blk.besideReplay (b : Blk) (t : ReadTask) : Blk := match t.why with
  | .host rid => b.reconOnce rid
  | .tag rid => match b.accOf rid with
    | some x => b.tagRecon rid (tagIdx x.line)
    | none => b
  | _ => b

/-- A read that has given nothing usable back: a host's or a tag line is reconstructed, a member is an erasure, a write-verify finds a mismatch (R32, R43, R44). -/
def Blk.readLost (b : Blk) (t : ReadTask) : Blk := match t.why with
  | .host rid => b.reconOnce rid
  | .member rid => b.erase rid t.mem.m
  | .tag rid => match b.accOf rid with
    | some x => b.tagRecon rid (tagIdx x.line)
    | none => b
  | .tagMember rid => b.onAcc rid fun y => { y with tagLost := y.tagLost.map fun l => insUniq t.mem.m l }
  | .job n => b.jobRead n t.mem false
  | .list rid => b.onAcc rid fun y => { y with listWait := false }
  | .verify => b.verifyEnds (pidOf t.loc) false

/-- A failed transfer (R194): the transfer is replayed up to three times, by RRS, or by a new RD when no strobe came and the die reports a command parity error; a reconstruction starts beside it. -/
def Blk.transferFailed (b : Blk) (pid : Nat) (t : ReadTask) (strobe : Bool) : Blk :=
  let d := pid / 32
  let ch := d / 8
  let b1 := b.besideReplay t
  if t.tries < 3 then
    let b2 := ((b1.bump 0x5800 0x06 1).bump (0x3000 + 0x20 * ch) 0x04 1).twChan ch 6
    let again := !strobe && (b2.die d).astat.getLsbD 1
    let b3 := b2.sendDie d (if again then b2.rdFor t else .rrs (BitVec.ofNat 5 (pid % 32)))
    b3.onPart pid fun p => { p with sent := some { t with tries := t.tries + 1, due := b.now + (if again then 250 else 80), seq := if again then (b2.die d).seq else t.seq } }
  else ((b1.onPart pid fun p => { p with sent := none }).replaysExhausted ch).readLost t

/-- A hard decode failure, or a metadata mismatch, which counts as one (R24, R96, R120). -/
def Blk.hardFailure (b : Blk) (d area : Nat) : Blk := ((b.bump 0x5800 0x09 1).twDie d 3 1).weakCount area

/-- A weak line, of data or of parity: counted, queued for rewrite, and counted in its area (R96, R97, R120). -/
def Blk.weakLine (b : Blk) (d : Nat) (x : Mem) : Blk := ((((b.bump 0x5800 0x08 1).tw 111 1).twDie d 2 1).weakCount (b.memArea x)).queueWeak x

/-- Bits in error that make a line weak (OD 0x5800.0C). -/
def Blk.isWeak (b : Blk) (errs : Nat) : Bool := decide (b.cfg 0x5800 0x0C ≤ errs)

/-- Metadata that a read expects (R24): a host's data line exactly its own, another member what its location lets expect. -/
def Blk.mdExpected (b : Blk) (t : ReadTask) (md : BitVec 40) : Bool :=
  match t.why with
  | .host rid => match (b.accOf rid).bind fun a => (b.lookup a.line).map fun p => placeMd a.line p with
    | some m => md == m
    | none => true
  | _ => b.mdFits t.mem md

/-- A line that came from a die is checked (R96): refused and blank lines, hard decode failures, metadata (R24), Gauze's counts (R121), weak lines (R97). Answers whether the line can be used; a blank member counts as zeros (R62). -/
def Blk.checkLine (b : Blk) (t : ReadTask) (x : Xfer) : Blk × Bool :=
  let d := dieOfLoc t.loc
  let ch := d / 8
  let own := match t.why with
    | .host _ => true
    | .verify => true
    | _ => false
  match stRstat x.st, b.media.lines.find t.loc with
  | 2, _ => ((((b.bump (0x3000 + 0x20 * ch) 0x09 1).twChan ch 7).reportUnit 0x3003 2 ch), false)
  | 1, none => if own then (b.hardFailure d (b.memArea t.mem), false) else (b, true)
  | 0, some y =>
    let hard := decide (8 < x.errs) || !b.mdExpected t y.md
    let b1 := b.gauge d t x.sg (if hard then 9 else x.errs)
    if hard then (b1.hardFailure d (b1.memArea t.mem), false) else (if b1.isWeak x.errs then b1.weakLine d t.mem else b1, true)
  | _, _ => (b.hardFailure d (b.memArea t.mem), false)

/-- A checked line goes to what read it. -/
def Blk.lineRead (b : Blk) (t : ReadTask) (e : DpErr) : Blk := match t.why with
  | .host rid => match b.accOf rid with
    | none => b
    | some a => match b.lookup a.line with
      | some p => b.openOwn rid a p e
      | none => b.startRead rid
  | .member _ => b
  | .tag rid => match b.accOf rid with
    | some x => b.tagArrives (tagIdx x.line)
    | none => b
  | .tagMember _ => b
  | .job n => b.jobRead n t.mem true
  | .list rid => b.onAcc rid fun y => { y with listWait := false }
  | .verify => b.verifyEnds (pidOf t.loc) true

/-- A read's line is no longer at the location read: a host's read starts again, and what a request that is over has asked for is not counted. -/
def Blk.stale (b : Blk) (t : ReadTask) : Bool := match t.why with
  | .host rid => match b.accOf rid with
    | some a => (b.lookup a.line).map Place.loc != some t.loc
    | none => true
  | .member rid => (b.accOf rid).isNone
  | .tag rid => (b.accOf rid).isNone
  | .tagMember rid => (b.accOf rid).isNone
  | .job n => (b.twill.jobs.find n).isNone
  | .list rid => (b.accOf rid).isNone
  | .verify => false

/-- The transfer of a read that came whole (R10, R43, R96, R98). -/
def Blk.transferred (b : Blk) (t : ReadTask) (x : Xfer) : Blk :=
  if b.stale t then (match t.why with
    | .host rid => b.startRead rid
    | _ => b)
  else
    let r := b.checkLine t x
    if r.2 then r.1.lineRead t x.dp else r.1.readLost t

/-- The line that a location holds now, by its metadata as home or hot data. -/
def Blk.lineAtLoc (b : Blk) (loc : Nat) : Option (Nat × Place) :=
  match b.media.lines.find loc with
  | none => none
  | some x => match (b.lookup (lineOfMd false x.md)).filter fun p => p.loc == loc with
    | some p => some (lineOfMd false x.md, p)
    | none => ((b.lookup (lineOfMd true x.md)).filter fun p => p.loc == loc).map fun p => (lineOfMd true x.md, p)

/-- A margin read runs on the partition (R125). -/
def PartSt.marginRuns (p : PartSt) : Bool := match p.op with
  | .marginRead _ => true
  | _ => false

/-- The strobe phase of a transfer is measured: when the mean over 256 transfers lies more than 1/32 UI off the read delay in use, the delay moves by 1/64 UI towards it (R201). -/
def DieSt.phase (d : DieSt) (p : Int) : DieSt :=
  let sum := d.phaseSum + p
  if d.phaseNum + 1 < 256 then { d with phaseSum := sum, phaseNum := d.phaseNum + 1 }
  else { d with phaseSum := 0, phaseNum := 0, delay := if 8192 < sum then d.delay + 1 else if sum < -8192 then d.delay - 1 else d.delay }

/-- A transfer that came with a strobe is measured (R201). -/
def Blk.phaseSeen (b : Blk) (d : Nat) (x : Xfer) : Blk := if x.strobe then b.onDie d fun e => e.phase x.phase else b

/-- The recoveries to whose line's stripe a location belongs take note of a margin read of it (R47). -/
def Blk.softRead (b : Blk) (loc : Nat) : Blk :=
  b.onPath fun p => { p with deeps := p.deeps.map fun d => match b.lookup d.li with
    | some q => if q.loc = loc || (b.peers q).contains loc then { d with soft := insUniq loc d.soft } else d
    | none => d }

/-- A location is read by deep recovery: its margin reads there are its own, and no probes (R47, R121). -/
def Blk.inRecovery (b : Blk) (loc : Nat) : Bool := b.path.deeps.any fun d => match b.lookup d.li with
  | some q => q.loc == loc || (b.peers q).contains loc
  | none => false

/-- The transfer of a margin read: it ends the read. Of a probe the counts enter the cells of its line's age and band, a weak line or hard failure its area (R120, R121, R125); a read of deep recovery is noted there (R47). -/
def Blk.marginTransfer (b0 : Blk) (pid : Nat) (x : Xfer) : Blk :=
  match (b0.part pid).op with
  | .marginRead r =>
    let d := pid / 32
    let loc := locOf pid r.line
    let b1 := (b0.phaseSeen d x).onPart pid fun p => { p with op := .idle }
    if !x.strobe || !x.crcOk then b1
    else
      let b2 := b1.dieStatus d (stAlrt x.st) (stTval x.st) (stTemp x.st)
      match r.probe, (b2.memAt loc).filter fun _ => stRstat x.st == 0 with
      | some (age, band), some m => (b2.checkLine { why := .job b0.twill.nextJob, loc := loc, mem := m, queuedAt := b0.now, age := age, band := band } x).1
      | some _, none => b2
      | none, _ => if b0.inRecovery loc then b2.softRead loc else b2
  | _ => b0

/-- READ_TRANSFER: the transfer of the read that a partition has sent, at its slot or later: checked against its command, replayed on a failure, else decoded, compared with its metadata, decrypted and tag-checked (R43, R96, R98, R185, R194). -/
def execReadTransfer (a : Stamp) (ch : Fin 32) (die : Fin 8) (part : Fin 32) (x : Xfer) (s : State) : Host.Outcome State Fault Refusal :=
  s.command a fun b =>
    let pid := partOf ch die part
    match (b.part pid).sent with
    | none => b.marginTransfer pid x
    | some t =>
      if b.now < t.due then b
      else
        let b1 := (b.tw (32 + ch.val) 1).phaseSeen (pid / 32) x
        if !x.strobe || !x.crcOk || stSeq x.st != t.seq || (stPart x.st).toNat != part.val || (stLine x.st).toNat != t.loc % 2 ^ 23 then
          b1.transferFailed pid t x.strobe
        else
          let b2 := (b1.onPart pid fun p => { p with sent := none }).dieStatus (pid / 32) (stAlrt x.st) (stTval x.st) (stTemp x.st)
          (b2.transferred t x).readOn (pid / 32)

/-- The members of a place's stripe, its own left out, that give nothing to a reconstruction: those lost, those that its reads could not give, and those named. -/
def Blk.erasures (b : Blk) (p : Place) (known : List Nat) : List Nat :=
  ((List.range (widthOf p.cls)).filter fun m => m != p.mem.m && b.memLost { p.mem with m := m }).foldl (fun l m => insUniq m l) known

/-- RECONSTRUCTION_COMPLETE: with every member read home, the line is solved from its stripe and checked; erasures beyond the class's tolerance, or a failing tag, start deep recovery (R43, R44, R98). -/
def execReconstructionComplete (a : Stamp) (rid : Nat) (lost : List (Fin 18)) (dp : DpErr) (s : State) : Host.Outcome State Fault Refusal :=
  s.command a fun b0 =>
    let b := b0.settleTags
    match b.accOf rid with
    | none => b
    | some x =>
      if x.stage != .recon || x.tagWait || x.listWait || !b.membersHome rid then b
      else match b.lookup x.line with
        | none => b
        | some p =>
          let erased := lost.foldl (fun l m => insUniq m.val l) x.erased
          if toleranceOf p.cls < erased.length + 1 then b.startDeep rid false
          else match b.solve p erased with
            | none => b.startDeep rid false
            | some cipher => match b.openLine x.line p cipher with
              | some line => (b.lineData rid line dp).readOn 0
              | none => b.startDeep rid true

/-- FILL_RETURN: a fill read returns and writes only the bytes whose mask bits are clear (R99). Data that the datapath check could not correct are fetched again. -/
def execFillReturn (a : Stamp) (li : BitVec 36) (s : State) : Host.Outcome State Fault Refusal :=
  s.command a fun b =>
    match b.path.fills.find li.toNat with
    | none => b
    | some (bad, line) =>
      let b1 := b.onPath fun p => { p with fills := p.fills.del li.toNat }
      if bad then b1.startFill .A li.toNat .fill [] else b1.applyFill li.toNat line

/-! ### Deep recovery -/

/-- The recovery of a line lists the halves that no host write has written whole (R47, R49). -/
def Blk.deadlineList (b : Blk) (d : Deep) : Blk :=
  (b.poisonRest d).onPath fun p => { p with deeps := p.deeps.map fun e => if e.num == d.num then { e with listed0 := e.listed0 || !e.whole0, listed1 := e.listed1 || !e.whole1 } else e }

/-- The recovery that an accepted read waits for: its own, or its line's while it waits for a fill. -/
def Blk.waitsDeep (b : Blk) (x : Acc) : Option Deep :=
  if x.stage == .deep || x.stage == .fill then b.path.deeps.find? fun d => d.li == x.line else none

/-- DEADLINE_EXPIRY: with the policy on, a read in deep recovery completes at its deadline, with poison or with the data that a host write has written whole; recovery goes on (R49). -/
def execDeadlineExpiry (a : Stamp) (rid : Nat) (s : State) : Host.Outcome State Fault Refusal :=
  s.command a fun b =>
    match b.accOf rid with
    | none => b
    | some x =>
      match b.waitsDeep x with
      | none => b
      | some d =>
        if b.cfgFor x.epoch 0x5810 0x01 = 1 ∧ x.req.kind.isRead ∧ x.accAt + b.cfgFor x.epoch 0x5810 0x02 ≤ b.now then
          let b1 := b.deadlineList d
          let b2 := if d.whole (halfIdx x.req.dpa) then b1 else b1.bump 0x5810 0x05 1
          b2.answerDeep x
        else b

/-- The requests that a recovery still serves. -/
def Blk.deepAccs (b : Blk) (d : Deep) : List Acc := b.path.acc.filter fun x => d.rids.contains x.rid || (x.stage == .fill && x.line == d.li)

/-- The jobs that wait for a line's recovery go on (R98). -/
def Blk.deepJobs (b : Blk) (li : Nat) (f : Job → Job) : Blk :=
  b.onTwill fun t => { t with jobs := t.jobs.map fun e => if e.2.deep.contains li then (e.1, f { e.2 with deep := e.2.deep.erase li }) else e }

/-- DEEP_RECOVERY_TIMEOUT: 200 µs after acceptance without success, the halves that no host write has written whole are poisoned and every waiting read completes; a tag failure that has persisted is a Damask failure (R47, R98). -/
def execDeepRecoveryTimeout (a : Stamp) (rid : Nat) (s : State) : Host.Outcome State Fault Refusal :=
  s.command a fun b =>
    match b.path.deeps.find? fun d => d.num == rid with
    | none => b
    | some d =>
      if b.since d.start < 200000 then b
      else
        let b1 := b.poisonRest d
        let b2 := (b1.deepAccs d).foldl (fun b x => if x.req.kind.isHost then b.answerDeep x else b.endAcc x) b1
        let b3 := ((b2.poisonFill d.li).dropDeep d).deepJobs d.li fun j => { j with given := d.li :: j.given }
        (if d.tagBad then b3.damaskFailure d.li else b3).drive

/-- The ciphertext that a step of recovery yields, when it passes the metadata and tag checks (R47): of a line soft-decoded from margin reads of its location; of one reconstructed with members soft-decoded; of one reconstructed anew once no other member's partition is in tile reset. -/
def Blk.recovered (b : Blk) (d : Deep) (step : RecoveryStep) : Option Line :=
  match b.lookup d.li with
  | none => none
  | some p =>
    let anew (lost : List (Fin 18)) : Option Line :=
      let l := b.erasures p (lost.foldl (fun l m => insUniq m.val l) [])
      if toleranceOf p.cls < l.length + 1 then none else b.solve p l
    let found := match step with
      | .own => if d.soft.contains p.loc && !b.memLost p.mem && (b.media.lines.find p.loc).map MLine.md == some (placeMd d.li p) then some (b.stored p.loc) else none
      | .members lost => if d.soft.any fun x => x != p.loc then anew lost else none
      | .again lost => if (b.peers p).any fun x => (b.part (pidOf x)).resetting then none else anew lost
    found.filter fun c => (b.openLine d.li p c).isSome

/-- A recovered line is written back, merged under newer host writes: a clean way through a holding buffer, a line that is not resident in one of its own; a dirty or held line is written anyway (R49). -/
def Blk.writeBack (b : Blk) (li : Nat) (line : Line) : Blk :=
  match b.resident li, b.bufOf li, b.freeBuf with
  | some (k, v), _, some n =>
    if v.dirty || v.cln || v.wt then b else (b.putBuf n { li := li, data := v.data, clean := true, hotPath := v.pmark }).putWay k { v with cln := true }
  | none, none, some n => b.putBuf n { li := li, data := line }
  | _, _, _ => b

/-- A half that a recovery listed leaves the list, unless a host has poisoned it since (R49). -/
def Blk.unlistRecovered (b : Blk) (key : Nat) (was : Bool) : Blk :=
  if was && b.media.poison.find key == some .internal then b.unlistHalf key else b

/-- DEEP_RECOVERY_SUCCESS: a step has yielded the line; the reads complete with it, and the background work that waits goes on; a line poisoned at a deadline is written back, leaves the poison list and is reported (R47, R49). -/
def execDeepRecoverySuccess (a : Stamp) (rid : Nat) (step : RecoveryStep) (dp : DpErr) (s : State) : Host.Outcome State Fault Refusal :=
  s.command a fun b =>
    match b.path.deeps.find? fun d => d.num == rid with
    | none => b
    | some d => match (b.recovered d step).bind fun c => (b.lookup d.li).bind fun p => (b.openLine d.li p c).map fun line => (c, line) with
      | none => b
      | some (c, line) =>
        let was := d.listed0 || d.listed1
        if was && b.freeBuf.isNone then b
        else
          let b1 := ((b.dropDeep d).bump 0x5810 0x04 1).deepJobs d.li fun j => { j with held := j.held.put d.li c }
          let b2 := (b1.unlistRecovered (2 * d.li) d.listed0).unlistRecovered (2 * d.li + 1) d.listed1
          let b3 := ((b.deepAccs d).foldl (fun b x => if d.rids.contains x.rid then b.lineData x.rid line dp else b) b2).applyFill d.li line
          (if was then ((b3.writeBack d.li line).bump 0x5810 0x06 1).report { code := 0x5802, dpa := some (dpaOfLine d.li) } else b3).drive

end Sys2Proof.Machine
end

