-- ==== Sys2Proof/Machine/Values.lean ====
section
/-! DEFINITION. What a read of a dictionary entry returns: the values that the device computes (R86, R138, R154, R207, R235, R236, R261, R290, R327, R347, R364, R382, R396, R413), the values in effect of the others, and their encoding (R262). -/

namespace Sys2Proof.Machine

/-- Key of an entry's copy for a transport (R236, R371). -/
def copyKey (t idx sub : Nat) : Nat := 2 ^ 24 * t + odKey idx sub

/-- The entry is kept separately for each transport: 0x4800.01 to .06, and the read cursor 0x8000.04. -/
def perTransport (idx sub : Nat) : Bool := (idx == 0x4800 && decide (1 ≤ sub) && decide (sub ≤ 6)) || (idx == 0x8000 && sub == 4)

/-- Value in effect as a transport sees it. -/
def Blk.cfgOf (b : Blk) (t idx sub : Nat) : Nat :=
  if perTransport idx sub then b.od.getD (copyKey t idx sub) (odDefault idx sub) else b.cfg idx sub

/-- Writes a value in effect as a transport sees it. -/
def Blk.odSetFor (b : Blk) (t idx sub v : Nat) : Blk :=
  if perTransport idx sub then { b with od := b.od.set (odDefault idx sub) (copyKey t idx sub) v } else b.odSet idx sub v

/-- A temperature in 1/64 °C as an I32 in 1/16 °C. -/
def temp16 (t : Option Int) : Nat := sEnc 32 ((t.getD 0) / 4)

/-- The first code that satisfies a test, 0 for none. -/
def codeWhere (l : List (Bool × Nat)) : Nat := ((l.find? fun p => p.1).map Prod.snd).getD 0

/-- Values staged in all, bytes. -/
def Muslin.bytes (m : Muslin) : Nat := m.staged.foldl (fun n e => n + e.2.length) 0

/-- Head entries (R235). -/
def HeadSt.value (s : HeadSt) (sub : Nat) : Option Nat :=
  match sub with
  | 0x01 => some s.link
  | 0x02 => some (if s.link = 2 ∨ s.link = 3 then s.rate else 0)
  | 0x03 => some (if s.link = 2 ∨ s.link = 3 then s.width else 0)
  | 0x04 => some s.flit
  | 0x06 => some s.devload
  | 0x07 => some s.high
  | _ => none

/-- Modes, firmware (R327). -/
def Blk.modeValue (b : Blk) (idx sub : Nat) : Option Nat :=
  if idx = 0x1100 then match sub with
    | 0x01 => some b.eff
    | 0x02 => some (flagsOf b.modes.cond)
    | 0x03 => some b.modes.degraded.toNat
    | 0x04 => some b.modes.cause.toNat
    | 0x05 => some b.modes.bootKind
    | 0x06 => some b.modes.bootMs
    | 0x0E => some (min b.felt.cycles (2 ^ 32 - 1))
    | 0x0F => some (b2n (decide (2 ^ 32 - 1 ≤ b.felt.cycles)))
    | _ => none
  else match sub with
    | 0x01 => some b.felt.fw.active
    | 0x04 => some b.felt.fw.pending
    | 0x05 => some b.felt.fw.result
    | 0x06 => some b.felt.fw.minSec
    | _ => none

/-- Muslin, sessions, CAN FD (R290). -/
def Blk.muslinValue (b : Blk) (t idx sub : Nat) : Option Nat :=
  if idx = 0x1200 then match sub with
    | 0x01 => some b.muslin.state
    | 0x02 => some b.muslin.staged.length
    | 0x03 => some b.muslin.bytes
    | 0x04 => some b.muslin.owner
    | 0x07 => some (b2n (b.muslin.queued.isSome || b.muslin.calQueued))
    | _ => none
  else if idx = 0x1210 then match sub with
    | 0x01 => some (if (b.session t).maint then 2 else if t = 3 then (if b.can.access = 1 ∨ b.can.access = 2 then 1 else 0) else 1)
    | 0x02 => some (((b.session t).chal.map fun c => c.1.toNat).getD 0)
    | 0x06 => some (b2n b.felt.maintKey.isSome)
    | _ => none
  else match sub with
    | 0x07 => some b.can.node
    | 0x08 => some b.can.access
    | 0x09 => some b.can.nonce.toNat
    | _ => none

/-- Channel state as OD .01 shows it (R207): a running channel is in standby in M6's sleep, and at the fallback rate while JCH runs from its fallback source. -/
def Blk.chanShown (b : Blk) (c : Nat) : Nat :=
  let x := (b.chan c).state
  if x = 2 then (if b.modes.deep then 5 else if b.clocks.src.getLsbD 3 then 3 else 2) else x

/-- Channels and dies (R207). -/
def Blk.joernValue (b : Blk) (idx sub : Nat) : Option Nat :=
  if idx < 0x3800 then
    let c := (idx - 0x3000) / 32
    match sub with
    | 0x01 => some (b.chanShown c)
    | 0x02 => some ((List.range 8).filter fun i => (b.chan c).present.getLsbD i).length
    | 0x03 => some ((List.range 8).filter fun i => (b.die (8 * c + i)).state == 1).length
    | 0x0B => some (b.chan c).trainUs
    | _ => none
  else
    let x := b.die (idx - 0x3800)
    match sub with
    | 0x01 => some x.state
    | 0x02 => some (sEnc 32 (if x.tval then x.temp else -2048))
    | 0x03 => some x.lastAlert.toNat
    | _ => none

/-- Twill (R86). -/
def Blk.twillValue (b : Blk) (idx sub : Nat) : Option Nat :=
  match idx, sub with
  | 0x4000, 0x01 => some b.regionsMapped
  | 0x4000, 0x02 => some b.spare
  | 0x4000, 0x03 => some (spareReserve b.dieCount)
  | 0x4000, 0x04 => some b.twill.retired
  | 0x4000, 0x05 => some b.life
  | 0x4000, 0x06 => some b.wearReserve
  | 0x4000, 0x07 => some b.spareLeft
  | 0x4000, 0x08 => some b.felt.endurance
  | 0x4010, 0x01 => some b.twill.hot.length
  | 0x4020, 0x01 => some ((b.freeRows .voile).length + (b.freeRows .denim).length)
  | 0x4030, 0x01 => some b.meanWear
  | 0x4030, 0x02 => some b.topWear
  | 0x4040, 0x01 => some b.twill.refresh.length
  | 0x4050, 0x01 => some ((b.twill.ckpt.map Ckpt.seq).getD 0)
  | 0x4050, 0x07 => some b.twill.resync
  | 0x4050, 0x08 => some b.twill.duration
  | _, _ => none

/-- State code of a region at a head and its order at the DC index (R236). -/
def rgnCode : RgnState → Nat
  | .free => 0
  | .offered => 1
  | .added => 2
  | .releasing => 3

/-- The region that stands at a DC index of a head. -/
def Blk.rgnAt (b : Blk) (h : Head) (i : Nat) : Option Rgn :=
  b.dev.rgns.find? fun g => (match h with
    | .A => g.idxA
    | .B => g.idxB) == some i && (match h with
    | .A => g.stA
    | .B => g.stB) != .free

/-- Regions (R236). -/
def Blk.regionValue (b : Blk) (idx sub : Nat) : Option Nat :=
  if 0x4820 ≤ idx then
    let h : Head := if idx - 0x4820 < 8 then .A else .B
    match b.rgnAt h ((idx - 0x4820) % 8) with
    | none => some 0
    | some g => match sub with
      | 0x01 => some (rgnCode (match h with
          | .A => g.stA
          | .B => g.stB))
      | 0x02 => some g.base
      | 0x03 => some g.length
      | 0x04 => some (if g.cls = .denim then 1 else 0)
      | 0x05 => some (b2n (g.stA == .added && g.stB == .added))
      | _ => none
  else none

/-- Gauze (R138). -/
def Blk.gauzeValue (b : Blk) (idx sub : Nat) : Option Nat :=
  if idx = 0x5000 then match sub with
    | 0x01 => some (b.gauze.cells.filter fun e => e.2.state == 1).length
    | 0x02 => some (b.gauze.cells.filter fun e => e.2.state == 2).length
    | _ => none
  else if idx = 0x5080 then match sub with
    | 0x03 => some b.gauze.calSeq
    | _ => none
  else if 0x5100 ≤ idx ∧ idx ≤ 0x51FF then
    let d := idx - 0x5100
    let k := b.dieCal d
    match sub with
    | 0x01 => some (k.nu.getD 0 0)
    | 0x02 => some (k.nu.getD 1 0)
    | 0x03 => some (k.nu.getD 2 0)
    | 0x04 => some k.theta
    | 0x05 => some (sEnc 32 k.chi)
    | 0x06 => some (b.die d).id.toNat
    | 0x07 => some (((b.gauze.fit.find d).map Fit.state).getD 0)
    | 0x08 => some (min (b.refreshAge d) (2 ^ 32 - 1))
    | _ => none
  else none

/-- Hundredths of a per cent of a lap. -/
def Lap.progress (l : Lap) : Nat := if l.total = 0 then 0 else min 10000 (10000 * l.lines / l.total)

/-- Codes, Terry, poison (R113). -/
def Blk.codesValue (b : Blk) (idx sub : Nat) : Option Nat :=
  let m := b.media
  match idx, sub with
  | 0x5820, 0x03 => some (m.lapV.last / 1000)
  | 0x5820, 0x04 => some ((b.opTime - m.lapV.start) / 1000)
  | 0x5820, 0x05 => some m.lapV.progress
  | 0x5820, 0x06 => some (m.lapD.last / 1000)
  | 0x5820, 0x07 => some ((b.opTime - m.lapD.start) / 1000)
  | 0x5820, 0x08 => some m.lapD.progress
  | 0x5820, 0x09 => some m.lapS.last
  | 0x5820, 0x0A => some (b2n m.lapV.starved + 2 * b2n m.lapD.starved + 4 * b2n m.lapS.starved)
  | 0x5830, 0x01 => some m.poison.length
  | 0x5830, 0x02 => some poisonCapacity
  | _, _ => none

/-- Velvet (R154). -/
def Blk.velvetValue (b : Blk) (idx sub : Nat) : Option Nat :=
  match idx, sub with
  | 0x6000, 0x01 => some b.persistence
  | 0x6000, 0x03 => some b.velvet.budget
  | 0x6000, 0x04 => some b.dirtyCount
  | 0x6000, 0x05 => some b.velvet.eu
  | 0x6010, 0x04 => some (b2n b.velvet.rangeOp.isSome)
  | _, _ => none

/-- Translation regions locked, by entry or bit (R249). -/
def Blk.lockedRegions (b : Blk) : Nat := ((b.damask.alarm.filter fun e => e.2.2).map Prod.fst ++ b.damask.locks.filter fun r => (b.damask.alarm.find r).isNone || !((b.damask.alarm.find r).map Prod.snd).getD false).length

/-- Damask (R261). -/
def Blk.damaskValue (b : Blk) (idx sub : Nat) : Option Nat :=
  match idx, sub with
  | 0x6800, 0x01 => some b.damask.state
  | 0x6800, 0x03 => some b.damask.gen.toNat
  | 0x6800, 0x08 => some b.damask.pinned.length
  | 0x6800, 0x09 => some b.damask.tagDirty.length
  | 0x6810, 0x04 => some b.lockedRegions
  | 0x6820, 0x02 => some ((b.damask.kek.map fun k => (kekCheck k).toNat).getD 0)
  | 0x6820, 0x05 => some ((b.damask.binding.map fun x => x.2.1.toNat).getD 0)
  | _, _ => none

/-- Bank voltage, mV: HU_SENSE, full scale 1.2 V, times the divider ratio. -/
def Blk.bankMv (b : Blk) : Nat := b.canvas.hu.toNat * 1200 * b.cfg 0x7001 0x01 / (4095 * 1000)

/-- The IRC trim: COARSE, FINE, TC, TC2, TREF and MARK (R349). -/
def Blk.ircTrimOf (b : Blk) : List Int :=
  b.gauze.ircTrim.getD [Config.factoryTrim 16 0 % 1024, sDec 16 (Config.factoryTrim 16 1 % 65536), sDec 16 (Config.factoryTrim 16 2 % 65536),
    sDec 16 (Config.factoryTrim 16 3 % 65536), sDec 16 (Config.factoryTrim 16 4 % 65536), 0x5249]

/-- The IRC has a valid trim (R349). -/
def Blk.ircTrimmed (b : Blk) : Bool := b.gauze.calPresent && b.ircTrimOf.getD 5 0 == 0x5249

/-- Power (R347): Canvas, the hold-up bank, slots, domains. -/
def Blk.powerValue (b : Blk) (idx sub : Nat) : Option Nat :=
  if 0x7100 ≤ idx then
    let i := idx - 0x7100
    let failed := (i < 64 ∧ (b.engine i).state = 2) ∨ (64 ≤ i ∧ i < 128 ∧ (b.chan ((i - 64) % 32)).state = 6) ∨ (128 ≤ i ∧ i < 194 ∧ (b.bank (i - 128)).state = 2)
      ∨ (((194 ≤ i ∧ i < 198) ∨ i = 207) ∧ b.hA.failed) ∨ (((198 ≤ i ∧ i < 202) ∨ i = 208) ∧ b.hB.failed)
    match sub with
    | 0x01 => some (b.domainState (domainColumn b.eff) i)
    | 0x02 => some (if failed then 1
        else if (194 ≤ i ∧ i < 198 ∧ b.hA.link = 2 ∧ b.hA.width ≤ 4 * (i - 194)) ∨ (198 ≤ i ∧ i < 202 ∧ b.hB.link = 2 ∧ b.hB.width ≤ 4 * (i - 198)) then 2
        else if (i < 64 ∧ (b.engine i).state = 1) ∨ (128 ≤ i ∧ i < 194 ∧ (b.bank (i - 128)).state = 1) then 3 else 0)
    | _ => none
  else if 0x7010 ≤ idx then
    let s := b.canvas.slots.getD (idx - 0x7010) {}
    match sub with
    | 0x07 => some s.state
    | 0x08 => some s.drops
    | 0x09 => some (if idx - 0x7010 < 7 then s.mv else 0)
    | _ => none
  else match idx, sub with
    | 0x7000, 0x01 => some b.canvas.state
    | 0x7000, 0x07 => some (b2n b.modes.standby)
    | 0x7002, 0x01 => some b.bankMv
    | 0x7002, 0x02 => some b.canvas.cap
    | 0x7002, 0x03 => some b.canvas.esr
    | 0x7002, 0x04 => some ((b.canvas.report.map Prod.fst).getD 0)
    | 0x7002, 0x05 => some b.canvas.health
    | _, _ => none

/-- Clocks and thermal (R364). -/
def Blk.clockValue (b : Blk) (idx sub : Nat) : Option Nat :=
  match idx, sub with
  | 0x7400, 0x01 => some b.clocks.ref
  | 0x7400, 0x06 => some b.clocks.src.toNat
  | 0x7400, 0x07 => some (b2n b.ircTrimmed)
  | 0x7400, 0x08 => some b.clocks.kHz
  | 0x7400, 0x09 => some (b2n b.clocks.held)
  | 0x7800, 0x01 => some (temp16 b.thermal.tj)
  | 0x7800, 0x04 => some b.thermal.limit
  | 0x7800, 0x08 => some (sEnc 32 (b.media.dies.foldl (fun m e => if (e.2.state = 1 ∨ e.2.state = 2) ∧ e.2.tval then (match m with
      | none => some e.2.temp
      | some (t : Int) => some (max t e.2.temp)) else m) (none : Option Int) |>.getD 0))
  | 0x7800, 0x0A => some (temp16 b.thermal.peak)
  | _, _ =>
    if 0x7810 ≤ idx ∧ idx ≤ 0x781F then
      let i := idx - 0x7810
      let x := b.sensor i
      match sub with
      | 0x01 => some (temp16 x.temp)
      | 0x02 => some x.raw.toNat
      | 0x03 => some (if x.failed then 2 else if b.gauze.calPresent then 0 else 1)
      | 0x04 => some (3 <<< (2 * i))
      | _ => none
    else none

/-- Linen and Felt (R382). -/
def Blk.linenValue (b : Blk) (idx sub : Nat) : Option Nat :=
  match idx, sub with
  | 0x8000, 0x01 => some b.linen.seq
  | 0x8000, 0x02 => some (((b.linen.staging ++ b.linen.ring).foldl (fun m r => match m with
      | none => some r.seq
      | some n => some (min n r.seq)) (none : Option Nat)).getD 0)
  | 0x8000, 0x03 => some b.linen.head
  | 0x9000, 0x01 => some b.felt.spares
  | 0x9000, 0x02 => some b.felt.maxWear
  | 0x9000, 0x03 => some b.felt.endurance
  | 0x9000, 0x04 => some ((majority b.felt.policy).getD 15)
  | 0x9000, 0x05 => some (b2n b.nvwp)
  | 0x9000, 0x09 => some b.felt.readOnly.toNat
  | _, _ => none

/-- Tweed (R396). -/
def Blk.tweedValue (b : Blk) (idx sub : Nat) : Option Nat :=
  if idx = 0x8800 then match sub with
    | 0x02 => some b.tweed.newest
    | 0x09 => some b.tweed.w
    | 0x0A => some (b.tweed.w - b.hA.telR)
    | 0x0B => some (b.tweed.w - b.hB.telR)
    | 0x0C => some (b.hA.lost + 2 ^ 63 * b2n b.hA.lostSat)
    | 0x0D => some (b.hB.lost + 2 ^ 63 * b2n b.hB.lostSat)
    | _ => none
  else match sub with
    | 0x01 =>
      let v := b.tweed.ctr.getD (idx - 0x8900) (0, false)
      some (v.1 + 2 ^ 63 * b2n v.2)
    | _ => none

/-- Safety, engines, banks (R413). -/
def Blk.safetyValue (b : Blk) (idx sub : Nat) : Option Nat :=
  if idx = 0x7C10 then match sub with
    | 0x01 => some b.failedDies
    | 0x02 => some (if b.safety.rebuild.isEmpty ∨ b.safety.rebuildTotal = 0 then 100 else 100 * (b.safety.rebuildTotal - b.safety.rebuild.length) / b.safety.rebuildTotal)
    | 0x08 => some (b2n b.hA.failed + 2 * b2n b.hB.failed)
    | _ => none
  else if 0xA100 ≤ idx then
    let x := b.bank (idx - 0xA100)
    match sub with
    | 0x01 => some x.state
    | 0x02 => some x.use
    | 0x03 => some (x.corr.filter fun t => decide (b.opTime - t < 86400000)).length
    | 0x05 => some x.repl
    | _ => none
  else if 0xA000 ≤ idx then
    let x := b.engine (idx - 0xA000)
    match sub with
    | 0x01 => some x.state
    | 0x02 => some x.role
    | 0x04 => some x.took
    | _ => none
  else none

/-- Identity numbers (R290). -/
def identityValue (sub : Nat) : Option Nat := match sub with
  | 0x06 => some Config.vendorId.toNat
  | 0x07 => some Config.deviceId.toNat
  | 0x08 => some Config.revisionId.toNat
  | _ => none

/-- The value that the device computes for an entry, none for one that is a stored value or counter. -/
def Blk.computed (b : Blk) (t idx sub : Nat) : Option Nat :=
  if idx < 0x1010 then identityValue sub
  else if idx = 0x1100 ∨ idx = 0x1140 then b.modeValue idx sub
  else if idx < 0x2000 then b.muslinValue t idx sub
  else if idx < 0x2400 then b.hA.value sub
  else if idx < 0x2800 then b.hB.value sub
  else if idx < 0x4000 then b.joernValue idx sub
  else if idx < 0x4800 then b.twillValue idx sub
  else if idx < 0x5000 then b.regionValue idx sub
  else if idx < 0x5800 then b.gauzeValue idx sub
  else if idx < 0x6000 then b.codesValue idx sub
  else if idx < 0x6800 then b.velvetValue idx sub
  else if idx < 0x7000 then b.damaskValue idx sub
  else if idx < 0x7400 then b.powerValue idx sub
  else if idx < 0x7C00 then b.clockValue idx sub
  else if idx < 0x8000 then b.safetyValue idx sub
  else if idx < 0x8800 then b.linenValue idx sub
  else if idx < 0x9000 then b.tweedValue idx sub
  else if idx < 0xA000 then b.linenValue idx sub
  else b.safetyValue idx sub

/-- The number that an entry reads as over a transport. -/
def Blk.odNumber (b : Blk) (t idx sub : Nat) : Nat := (b.computed t idx sub).getD (b.cfgOf t idx sub)

/-- The bytes of a string of the manual. -/
def asciiBytes (s : String) : List Byte := s.toList.map fun c => BitVec.ofNat 8 c.toNat

/-- The version of a firmware slot, empty when it holds no valid image (R327). -/
def slotVersion (f : Option FwImage) : List Byte := ((f.filter FwImage.sigOk).map FwImage.version).getD []

/-- String entries (R290, R327). -/
def Blk.odString (b : Blk) (idx sub : Nat) : List Byte :=
  match idx, sub with
  | 0x1000, 0x01 => asciiBytes "Palareus Microsystems"
  | 0x1000, 0x02 => asciiBytes "HLX-7216"
  | 0x1000, 0x03 => Config.stepping
  | 0x1000, 0x04 => slotVersion (if b.felt.fw.active = 0 then b.felt.fw.slotA else b.felt.fw.slotB)
  | 0x1000, 0x05 => leBytes 16 Config.serial.toNat
  | 0x1140, 0x02 => slotVersion b.felt.fw.slotA
  | 0x1140, 0x03 => slotVersion b.felt.fw.slotB
  | _, _ => []

/-- The value that a Read returns, in the type's encoding; subindex 0 holds the highest subindex in use (R262). -/
def Blk.odBytes (b : Blk) (t idx sub : Nat) : List Byte :=
  if sub = 0 then [BitVec.ofNat 8 ((odHighest idx).getD 0)]
  else match odRow? idx sub with
    | none => []
    | some r => match r.ty with
      | .str => b.odString idx sub
      | ty => leBytes (odTypeLen ty) (b.odNumber t idx sub)

end Sys2Proof.Machine
end

