-- ==== Sys2Proof/Machine/Access.lean ====
section
/-! DEFINITION. How a dictionary request reaches the management pair and is checked: the mailbox of R223, the CAN FD frames of R282 to R287 with the frame MAC and the stored response, the levels of R265, and the checks of R270 in their order. -/

namespace Sys2Proof.Machine

/-- A request of R223 or R283 without its source. -/
structure DReq where
  op   : Nat
  idx  : Nat := 0
  sub  : Nat := 0
  w67  : Nat := 0
  data : List Byte := []
  deriving DecidableEq, Repr

/-- A source sets its maintenance flag. -/
def srcMaint : Src → Bool
  | .mb _ m => m
  | .can _ m _ _ => m

/-- A head's mailbox takes commands: its link is in L0, the head works, and the management engines run. -/
def Blk.mailboxOpen (b : Blk) (h : Head) : Bool := (b.head h).link == 2 && !(b.head h).failed && b.mgmt

/-- Level of a request (R265, R280): maintenance with its flag and an open session, else the transport's base level. -/
def Blk.level (b : Blk) (src : Src) : Nat :=
  if srcMaint src && (b.session (transOf src)).maint then 2
  else match src with
    | .mb _ _ => 1
    | .can _ _ _ _ => if b.can.access = 1 ∨ b.can.access = 2 then 1 else 0

/-- A request at maintenance level restarts the session's idle time (R266). -/
def Blk.touch (b : Blk) (src : Src) : Blk :=
  if b.level src = 2 then b.onSession (transOf src) fun x => { x with lastReq := b.now } else b

/-! ### CAN FD frames -/

/-- Bytes and zeros up to a length. -/
def padTo (n : Nat) (l : List Byte) : List Byte := l.take n ++ List.replicate (n - l.length) 0

/-- Bytes [51:0] or [55:0] of a request frame before its counter and MAC (R283, R285). -/
def canHead (tr : BitVec 8) (maint : Bool) (q : DReq) (room : Nat) : List Byte :=
  [BitVec.ofNat 8 q.op, tr] ++ leBytes 2 q.idx ++ leBytes 1 q.sub ++ leBytes 1 (b2n maint + 2 * b2n (decide (room < q.data.length))) ++ leBytes 2 q.w67
    ++ padTo room q.data

/-- The operation carries a MAC while OD 0x1230.05 is 1 (R287). -/
def Blk.macNeeded (b : Blk) (op : Nat) : Bool :=
  let writing := (b.can.bulk.map Bulk.write).getD false
  b.cfg 0x1230 0x05 == 1 && ([2, 3, 4, 5, 8].contains op || ([9, 11, 12].contains op && writing))

/-- The 64 bytes of a request frame. -/
def Blk.canBytes (b : Blk) (tr : BitVec 8) (maint : Bool) (ctr : BitVec 32) (mac : BitVec 64) (q : DReq) : List Byte :=
  if b.macNeeded q.op then canHead tr maint q 44 ++ leBytes 4 ctr.toNat ++ leBytes 8 mac.toNat else canHead tr maint q 56

/-- The MAC and counter of a frame are right (R287). -/
def Blk.macRight (b : Blk) (ctr : BitVec 32) (mac : BitVec 64) (bytes : List Byte) : Bool :=
  match b.can.macKey with
  | none => false
  | some k => decide (b.can.ctr < ctr) && Config.cmac8 k (leBytes 4 b.can.nonce.toNat ++ leBytes 2 (0x2C0 + b.can.node) ++ bytes.take 56) == mac

/-- A new boot nonce (R287): the last accepted counter is then 0. -/
def Blk.newNonce (b : Blk) : Blk := ({ b with can := { b.can with nonce := b.drawn.setWidth 32, ctr := 0 } } : Blk).draw

/-- A frame whose MAC or counter fails is discarded and counted, with at most one warning a second (R287). -/
def Blk.macFailed (b : Blk) : Blk :=
  let b1 := b.bump 0x1230 0x0A 1
  let quiet := match b.can.macWarn with
    | none => false
    | some t => decide (b.now < t + 1000000000)
  if quiet then b1 else (b1.onCan fun c => { c with macWarn := some b.now }).report { code := 0x1208 }

/-- A frame whose MAC is accepted, or that carries none, goes on (R287). -/
def Blk.withMac (b : Blk) (ctr : BitVec 32) (mac : BitVec 64) (op : Nat) (bytes : List Byte) (f : Blk → Blk) : Blk :=
  if b.macNeeded op then
    if b.macRight ctr mac bytes then f (if ctr = BitVec.allOnes 32 then b.newNonce else b.onCan fun c => { c with ctr := ctr }) else b.macFailed
  else f b

/-- Indices that the always-on domain answers by itself (R282). -/
def aonIndex (idx : Nat) : Bool :=
  idx == 0x1000 || idx == 0x1230 || (decide (0x7000 ≤ idx) && decide (idx ≤ 0x701B)) || (decide (0x8000 ≤ idx) && decide (idx ≤ 0x87FF))

/-- A status sent outside the transaction that runs. -/
def Blk.canStatus (b : Blk) (tr : BitVec 8) (q : DReq) (st : Nat) : Blk := b.canSend (canFrame q.op tr q.idx q.sub 0 0 st 0 0 [])

/-- The transaction that runs on the node (R286): one not yet answered, or an open transfer. -/
def Can.running (c : Can) : Option (BitVec 8) := match c.busy with
  | some t => some t
  | none => c.bulk.map Bulk.trans

/-- A CAN FD request is taken up (R282, R285 to R287): a repeated one is answered with the stored response, one beside a transaction that runs with "Busy". -/
def Blk.canAdmit (b : Blk) (tr : BitVec 8) (maint : Bool) (ctr : BitVec 32) (mac : BitVec 64) (q : DReq) (f : Blk → Blk) : Blk :=
  let bytes := b.canBytes tr maint ctr mac q
  if !b.can.joined then b
  else if b.can.busy.isNone && b.can.lastReq == some (bytes.map BitVec.toNat) then b.canSend b.can.lastRsp
  else if b.can.abandoned == some tr then (b.onCan fun c => { c with abandoned := none }).canStatus tr q 0x0A
  else match b.can.running with
    | some t => if t = tr ∧ b.can.busy.isSome then b else b.canStatus tr q 0x0A
    | none => b.withMac ctr mac q.op bytes fun b1 =>
        let b2 := b1.onCan fun c => { c with busy := some tr, lastReq := some (bytes.map BitVec.toNat) }
        if b2.mgmt || (q.op == 1 && aonIndex q.idx) then f b2 else b2.reply (.can tr maint ctr mac) { op := q.op, idx := q.idx, sub := q.sub, st := 0x0F }

/-- A dictionary request is taken up, an item of management pair 0 (log 106); at a mailbox that takes none it has no effect. One at maintenance level restarts the idle time. -/
def Blk.admitReq (b : Blk) (src : Src) (q : DReq) (f : Blk → Blk) : Blk :=
  match src with
  | .mb h _ => if b.mailboxOpen h then f ((b.twEngine 56).twEngine 57 |>.touch src) else b
  | .can tr m ctr mac => b.canAdmit tr m ctr mac q fun b1 => f ((b1.twEngine 56).twEngine 57 |>.touch src)

/-! ### Checks of R270 -/

/-- Modes in which an entry may be written, bit n for Mn (R263, R321). -/
def entryModes (idx sub : Nat) : Nat := if idx = 0x1100 ∧ sub = 7 then 0x390 else 0xFFC

/-- The entry may be written now. -/
def Blk.modeAllows (b : Blk) (idx sub : Nat) : Bool := (entryModes idx sub).testBit b.eff

/-- The entry's Meaning refuses it while NVWP_N is low (R135, R250, R252, R266). -/
def entryProtected (idx sub : Nat) : Bool :=
  (idx == 0x1210 && sub == 5) || (idx == 0x6820 && sub == 1) || (idx == 0x6820 && sub == 3) || (idx == 0x5080 && sub == 1)

/-- The transport may write the entry. -/
def OdRow.permits (r : OdRow) (src : Src) : Bool := r.trans.testBit (transOf src - 1)

/-- Status of a Read; 0 when it may go on. -/
def Blk.checkRead (b : Blk) (src : Src) (idx sub : Nat) : Nat :=
  if sub = 0 then (if (odHighest idx).isNone then 1 else 0)
  else match odRow? idx sub with
    | none => 1
    | some r =>
      if b.level src < r.rlevel then 6
      else if r.acc = .wo then 3
      else if r.acc = .blob ∨ r.ty = .blob then 0x0D
      else 0

/-- Length and range of a value (R262, R270). -/
def checkValue (r : OdRow) (val : List Byte) : Nat :=
  if val.length ≠ odTypeLen r.ty then 9
  else if r.ty = .bool ∧ 1 < leNat val then 8
  else if !odInRange r (leNat val) then 8
  else 0

/-- Access code of a Write (R270). -/
def writeAccess : OdAcc → Nat
  | .ro => 2
  | .rw => 0
  | .rws => 4
  | .rwp => 4
  | .wo => 0
  | .blob => 0x0D

/-- Access code of a Stage (R270). -/
def stageAccess : OdAcc → Nat
  | .ro => 5
  | .rw => 5
  | .rws => 0
  | .rwp => 0
  | .wo => 5
  | .blob => 5

/-- Level and transport of a write of an entry that has a write level (R8). -/
def Blk.checkRights (b : Blk) (src : Src) (r : OdRow) : Nat :=
  if r.wlevel = 3 then 0 else if b.level src < r.wlevel then 6 else if !r.permits src then 7 else 0

/-- Status of a Write or Stage; 0 when it may go on. -/
def Blk.checkWrite (b : Blk) (src : Src) (stage : Bool) (idx sub : Nat) (val : List Byte) : Nat :=
  if sub = 0 then (if (odHighest idx).isNone then 1 else if stage then 5 else 2)
  else match odRow? idx sub with
    | none => 1
    | some r =>
      let code := if stage then stageAccess r.acc else writeAccess r.acc
      if b.checkRights src r ≠ 0 then b.checkRights src r
      else if code ≠ 0 then code
      else if !b.modeAllows idx sub then 0x0F
      else checkValue r val

/-- Status of an Open read; 0 when it may go on (R225): the escrow blob over a mailbox only (R261), the keys not at all (R290), and the escrow blob only with a KEK (R251). -/
def Blk.checkOpenRead (b : Blk) (src : Src) (idx sub : Nat) : Nat :=
  match odRow? idx sub with
  | none => if sub = 0 ∧ (odHighest idx).isSome then 0x10 else 1
  | some r =>
    if b.level src < r.rlevel then 6
    else if idx = 0x6820 ∧ sub = 3 ∧ !r.permits src then 7
    else if r.ty ≠ .blob then 0x10
    else if (idx = 0x1210 ∧ sub = 5) ∨ (idx = 0x1230 ∧ sub = 6) then 3
    else if idx = 0x6820 ∧ sub = 3 ∧ b.damask.kek.isNone then 0x0F
    else 0

/-- Status of an Open write; 0 when it may go on (R225): the escrow blob in the foreign-media state only (R252). -/
def Blk.checkOpenWrite (b : Blk) (src : Src) (idx sub : Nat) : Nat :=
  match odRow? idx sub with
  | none => if sub = 0 ∧ (odHighest idx).isSome then 0x10 else 1
  | some r =>
    if b.checkRights src r ≠ 0 then b.checkRights src r
    else if r.acc = .ro ∧ r.ty = .blob then 2
    else if r.acc ≠ .blob then 0x10
    else if r.wlevel = 3 then 2
    else if !b.modeAllows idx sub || (idx == 0x6820 && sub == 3 && b.damask.state != 2) then 0x0F
    else if entryProtected idx sub && !b.nvwp then 0x0E
    else 0

/-- A Write of an entry: taken up, checked, and its action run on the value, or answered with the status that fails. -/
def Blk.writeReq (b : Blk) (src : Src) (idx sub : Nat) (val : List Byte) (act : Nat → Blk → Blk) : Blk :=
  b.admitReq src { op := 2, idx := idx, sub := sub, w67 := val.length, data := val } fun b1 =>
    if b1.checkWrite src false idx sub val = 0 then act (leNat val) b1
    else b1.reply src { op := 2, idx := idx, sub := sub, st := b1.checkWrite src false idx sub val }

/-- The answer to a Write. -/
def Blk.wrote (b : Blk) (src : Src) (idx sub st : Nat) : Blk := b.reply src { op := 2, idx := idx, sub := sub, st := st }

/-! ### Objects -/

/-- The transfer that is open at a source's transport (R225, R265). -/
def Blk.bulkOf (b : Blk) : Src → Option Bulk
  | .mb h _ => (b.head h).bulk
  | .can _ _ _ _ => b.can.bulk

/-- Changes the transfer that is open at a source's transport. -/
def Blk.putBulk (b : Blk) (src : Src) (x : Option Bulk) : Blk := match src with
  | .mb h _ => b.onHead h fun s => { s with bulk := x }
  | .can _ _ _ _ => b.onCan fun c => { c with bulk := x }

/-- Output payload of Bulk Object Transfer, byte by byte (R4, R225): the total length and the CRC-32 on an Open read, the chunk from byte 8. -/
def bulkPayload (st total crc : Nat) (chunk : List Byte) : List Byte := leBytes 2 st ++ leBytes 2 chunk.length ++ leBytes 4 total ++ (if chunk.isEmpty then leBytes 4 crc else chunk)

/-- The answer to a bulk operation: status, chunk length, and on an Open read the total length and the CRC-32 (R225, R284). -/
def Blk.bulkAnswer (b : Blk) (src : Src) (op idx sub st : Nat) (total crc : Nat := 0) (chunk : List Byte := []) : Blk :=
  match src with
  | .mb h _ => b.mbReply h 0xC101 .success ((bulkPayload st total crc chunk).map BitVec.toNat)
  | .can _ _ _ _ => b.reply src { op := op, idx := idx, sub := sub, st := st, val := if op = 7 then leBytes 4 total ++ leBytes 4 crc else [] }

/-- An Open write that is refused; the escrow blob's reasons show in OD 0x6820.04: 5 not in foreign media, 6 protected (R261). -/
def Blk.openRefused (b : Blk) (idx sub st : Nat) : Blk :=
  if idx = 0x6820 ∧ sub = 3 ∧ st = 0x0F then b.odSet 0x6820 0x04 5
  else if idx = 0x6820 ∧ sub = 3 ∧ st = 0x0E then b.odSet 0x6820 0x04 6
  else b

/-- A bulk write of a whole object in one command: its Open write, Data and Close (R225). -/
def Blk.objectReq (b : Blk) (src : Src) (idx sub : Nat) (bytes : List Byte) (apply : Blk → Blk × Nat) : Blk :=
  b.admitReq src { op := 8, idx := idx, sub := sub, data := leBytes 4 bytes.length } fun b1 =>
    let st := b1.checkOpenWrite src idx sub
    if (b1.bulkOf src).isSome then b1.bulkAnswer src 8 idx sub 0x0A
    else if st ≠ 0 then (b1.openRefused idx sub st).bulkAnswer src 8 idx sub st
    else
      let r := apply b1
      r.1.bulkAnswer src 11 idx sub r.2

end Sys2Proof.Machine
end

