-- ==== Sys2Proof/Machine/VelvetMaint.lean ====
section
/-! DEFINITION. Velvet's own work: cleaning down to the dirty budget (R143), the maintenance operations on ranges and single lines (R150, R151), hints and prefetch (R152). -/

namespace Sys2Proof.Machine

/-! ### Cleaning -/

/-- Dirty lines that a clean may take, least recently used rank first and by set within a rank (R143); the ways whose fill is pending or that are being cleaned wait. -/
def Blk.cleanOrder (b : Blk) : List (Nat × VWay) :=
  let cand := b.velvet.ways.filter fun e => e.2.dirty && e.2.whole && !e.2.cln
  (List.range 16).flatMap fun r => cand.filter fun e => (b.wayOrder (e.1 / 16))[r]? == some (e.1 % 16)

/-- A line that an outstanding drain barrier covers (R170). -/
def Blk.covered (b : Blk) (li : Nat) : Bool := b.path.barriers.any fun x => x.lines.contains li

/-- The first `n` of some ways are cleaned, as buffers allow. -/
def Blk.cleanList (b : Blk) (n : Nat) (l : List (Nat × VWay)) : Blk := (l.take n).foldl (fun b e => b.cleanWay e.1) b

/-- Lines that an outstanding barrier covers are cleaned ahead of others (R170). -/
def Blk.cleanCovered (b : Blk) : Blk := b.cleanList bufCount (b.cleanOrder.filter fun e => b.covered (e.2.lineAt e.1))

/-- Velvet cleans from over 90 % of the dirty budget down to 75 % of it (R143); a line in a holding buffer is on its way already. -/
def Blk.cleanBudget (b : Blk) : Blk :=
  let on := decide (9 * b.velvet.budget < 10 * b.dirtyCount) || (b.velvet.cleaning && decide (3 * b.velvet.budget < 4 * b.dirtyCount))
  let b1 := b.onVelvet fun v => { v with cleaning := on }
  if on then b1.cleanList ((b.velvet.ways.filter fun e => e.2.dirty).length - 3 * b.velvet.budget / 4) b1.cleanOrder else b1

/-- DIRTY_CLEANING: the dirty lines that barriers cover are cleaned first, then those that the dirty budget asks for (R143, R170). -/
def execDirtyCleaning (a : Stamp) (s : State) : Host.Outcome State Fault Refusal :=
  s.command a fun b => if b.works then b.cleanCovered.cleanBudget else b

/-! ### Range operations (R150) -/

/-- Bytes of a range of DPAs that lie in regions added at either head. -/
def Blk.addedBytes (b : Blk) (lo hi : Nat) : Nat :=
  b.dev.rgns.foldl (fun n g => if g.stA = .added ∨ g.stB = .added then n + (min hi (g.base + g.length) - max lo g.base) else n) 0

/-- Lines of a range that are resident or held, and that the operation has to deal with; for a Clean, the dirty ones. -/
def Blk.rangeLines (b : Blk) (code lo hi : Nat) : List (Nat × Bool) :=
  let inside (li : Nat) : Bool := decide (lo ≤ 128 * li) && decide (128 * li < hi)
  let ways := (b.velvet.ways.filter fun e => inside (e.2.lineAt e.1) && (code != 1 || e.2.dirty)).map fun e => e.2.lineAt e.1
  let held := (b.velvet.bufs.filter fun e => inside e.2.li && !ways.contains e.2.li).map fun e => e.2.li
  (ways ++ held).map fun li => (li, false)

/-- A range operation starts on the range of OD 0x6010.01 and .02, rounded outward to whole lines; answered at once, since OD 0x6010.04 tells of its end. Two points that R150 and R154 leave open (DESIGN CHOICE, log 99): the refusal of a start while busy sets OD 0x6010.05 to 1; a range of length 0 starts an operation on no line. -/
def Blk.startRange (b : Blk) (src : Src) (code : Nat) : Blk :=
  let start := b.cfg 0x6010 0x01
  let len := b.cfg 0x6010 0x02
  let lo := start / 128 * 128
  let hi := if len = 0 then lo else (start + len + 127) / 128 * 128
  if b.velvet.rangeOp.isSome then (b.odSet 0x6010 0x05 1).wrote src 0x6010 0x03 0x0A
  else if b.addedBytes lo hi ≠ hi - lo then (b.odSet 0x6010 0x05 2).wrote src 0x6010 0x03 0
  else
    let b1 := if code = 2 then b.odSet 0x6010 0x06 0 else b
    ((b1.onVelvet fun v => { v with rangeOp := some { code := code, lines := b.rangeLines code lo hi } }).maintain).wrote src 0x6010 0x03 0

/-- RANGE_CLEAN: a write of 1 to OD 0x6010.03 (R150). -/
def execRangeClean (a : Stamp) (src : Src) (s : State) : Host.Outcome State Fault Refusal :=
  s.command a fun b => b.writeReq src 0x6010 0x03 [1] fun v c => c.startRange src v

/-- RANGE_INVALIDATE: a write of 2 to OD 0x6010.03 (R150). -/
def execRangeInvalidate (a : Stamp) (src : Src) (s : State) : Host.Outcome State Fault Refusal :=
  s.command a fun b => b.writeReq src 0x6010 0x03 [2] fun v c => c.startRange src v

/-- RANGE_CLEAN_AND_INVALIDATE: a write of 3 to OD 0x6010.03 (R150). -/
def execRangeCleanAndInvalidate (a : Stamp) (src : Src) (s : State) : Host.Outcome State Fault Refusal :=
  s.command a fun b => b.writeReq src 0x6010 0x03 [3] fun v c => c.startRange src v

/-- RANGE_OPERATION_END: with every line dealt with, the operation ends (R150). -/
def execRangeOperationEnd (a : Stamp) (s : State) : Host.Outcome State Fault Refusal :=
  s.command a fun b =>
    let b1 := b.maintain
    match b1.velvet.rangeOp with
    | some o => if o.lines.isEmpty then (b1.onVelvet fun v => { v with rangeOp := none }).odSet 0x6010 0x05 0 else b1
    | none => b1

/-! ### Single-line operations (R151) -/

/-- A single-line operation on a line, or on none: refused while a range operation runs, else answered when its effect holds. Operation code 0 is none of R150's. -/
def Blk.startLine (b : Blk) (src : Src) (sub op : Nat) (li : Option Nat) : Blk :=
  if op = 0 then b.wrote src 0x6020 sub 8
  else if b.velvet.rangeOp.isSome then b.wrote src 0x6020 sub 0x0A
  else
    let b1 := if op = 2 then b.odSet 0x6010 0x06 0 else b
    match li with
    | some x => b1.maintOps [{ src := src, sub := sub, op := op, li := x }]
    | none => b1.wrote src 0x6020 sub 0

/-- The line that a value of OD 0x6020.01 names, if it is resident or held: the whole DPA line number takes part. -/
def Blk.lineNamed (b : Blk) (line : Nat) : Option Nat :=
  if line < 2 ^ 36 ∧ ((b.resident line).isSome ∨ (b.bufOf line).isSome) then some line else none

/-- The line in a way that a value of OD 0x6020.02 names. -/
def Blk.wayNamed (b : Blk) (set way : Nat) : Option Nat := (b.velvet.ways.find (set * 16 + way)).map fun v => v.lineAt (set * 16 + way)

/-- A write of OD 0x6020.01. -/
def Blk.byAddress (b : Blk) (src : Src) (v : Nat) : Blk := b.startLine src 0x01 (fld v 0 2) (b.lineNamed (fld v 7 57))

/-- A write of OD 0x6020.02. -/
def Blk.bySetWay (b : Blk) (src : Src) (v : Nat) : Blk := b.startLine src 0x02 (fld v 30 2) (b.wayNamed (fld v 16 14) (fld v 0 4))

/-- Value of OD 0x6020.01 for a line and an operation. -/
def addressForm (line : BitVec 57) (op : Nat) : List Byte := leBytes 8 (line.toNat <<< 7 ||| op)

/-- Value of OD 0x6020.02 for a set, a way and an operation. -/
def setWayForm (set : Fin 16384) (way : Fin 16) (op : Nat) : List Byte := leBytes 4 (op <<< 30 ||| set.val <<< 16 ||| way.val)

/-- LINE_CLEAN_BY_ADDRESS (R151). -/
def execLineCleanByAddress (a : Stamp) (src : Src) (line : BitVec 57) (s : State) : Host.Outcome State Fault Refusal :=
  s.command a fun b => b.writeReq src 0x6020 0x01 (addressForm line 1) fun v c => c.byAddress src v

/-- LINE_INVALIDATE_BY_ADDRESS (R151). -/
def execLineInvalidateByAddress (a : Stamp) (src : Src) (line : BitVec 57) (s : State) : Host.Outcome State Fault Refusal :=
  s.command a fun b => b.writeReq src 0x6020 0x01 (addressForm line 2) fun v c => c.byAddress src v

/-- LINE_CLEAN_INVALIDATE_BY_ADDRESS (R151). -/
def execLineCleanInvalidateByAddress (a : Stamp) (src : Src) (line : BitVec 57) (s : State) : Host.Outcome State Fault Refusal :=
  s.command a fun b => b.writeReq src 0x6020 0x01 (addressForm line 3) fun v c => c.byAddress src v

/-- LINE_CLEAN_BY_SET_AND_WAY (R151). -/
def execLineCleanBySetAndWay (a : Stamp) (src : Src) (set : Fin 16384) (way : Fin 16) (s : State) : Host.Outcome State Fault Refusal :=
  s.command a fun b => b.writeReq src 0x6020 0x02 (setWayForm set way 1) fun v c => c.bySetWay src v

/-- LINE_INVALIDATE_BY_SET_AND_WAY (R151). -/
def execLineInvalidateBySetAndWay (a : Stamp) (src : Src) (set : Fin 16384) (way : Fin 16) (s : State) : Host.Outcome State Fault Refusal :=
  s.command a fun b => b.writeReq src 0x6020 0x02 (setWayForm set way 2) fun v c => c.bySetWay src v

/-- LINE_CLEAN_INVALIDATE_BY_SET_AND_WAY (R151). -/
def execLineCleanInvalidateBySetAndWay (a : Stamp) (src : Src) (set : Fin 16384) (way : Fin 16) (s : State) : Host.Outcome State Fault Refusal :=
  s.command a fun b => b.writeReq src 0x6020 0x02 (setWayForm set way 3) fun v c => c.bySetWay src v

/-! ### Hints (R152) -/

/-- A head's BARs answer: its link is in L0, it works, and the device runs. -/
def Blk.barOpen (b : Blk) (h : Head) : Bool := (b.head h).link == 2 && !(b.head h).failed && b.running

/-- A hint record rings the doorbell of a head: it is queued, dropped by a full queue or a length outside 1 to 4,096, or cancels the queued hints that overlap its range. A cancelling record takes effect at its own head alone, is not queued and counts neither as accepted nor as dropped (DESIGN CHOICE, log 99). -/
def Blk.ringHint (b : Blk) (h : Head) (r : BitVec 128) : Blk :=
  let li := fld r.toNat 7 57
  let n := fld r.toNat 64 32
  if r.getLsbD 96 then b.onHead h fun s => { s with hints := s.hints.filter fun x => !(decide (x.1 < li + n) && decide (li < x.1 + x.2)) }
  else if n = 0 ∨ 4096 < n ∨ 256 ≤ (b.head h).hints.length then b.bump 0x6030 0x02 1
  else ((b.onHead h fun s => { s with hints := s.hints ++ [(li, n)] }).bump 0x6030 0x01 1).twHead h 15 1

/-- HINT: a 16-B write of the doorbell, which leaves its bytes in both halves (R152, R308). -/
def execHint (a : Stamp) (h : Head) (rec : BitVec 128) (s : State) : Host.Outcome State Fault Refusal :=
  s.command a fun b =>
    if b.barOpen h then (b.onHead h fun x => { x with ctl := { x.ctl with hint0 := rec.setWidth 64, hint1 := rec.extractLsb' 64 64 } }).ringHint h rec else b

/-- HINT_CANCEL: as HINT, with flag bit 0 set by the host (R152, R308). -/
def execHintCancel (a : Stamp) (h : Head) (rec : BitVec 128) (s : State) : Host.Outcome State Fault Refusal :=
  s.command a fun b =>
    let r := rec ||| (1 <<< 96)
    if b.barOpen h then (b.onHead h fun x => { x with ctl := { x.ctl with hint0 := r.setWidth 64, hint1 := r.extractLsb' 64 64 } }).ringHint h r else b

/-- A hint line is skipped: it is resident or held, in recovery, or lies in no region, a locked one included. -/
def Blk.hintSkips (b : Blk) (li : Nat) : Bool :=
  decide (2 ^ 36 ≤ li) || (b.resident li).isSome || (b.bufOf li).isSome || (b.lookup li).isNone || b.regionLocked (regionOfLine li)
    || b.path.deeps.any fun d => d.li == li

/-- The next line of a head's oldest hint is taken. -/
def nextHint : List (Nat × Nat) → Option (Nat × List (Nat × Nat))
  | [] => none
  | (li, n) :: rest => some (li, if n ≤ 1 then rest else (li + 1, n - 1) :: rest)

/-- PREFETCH_READ: the next hint line is read as a background read where the gate would admit it, into a way with PF set; one without a victim is dropped (R37, R141, R152). -/
def execPrefetchRead (a : Stamp) (h : Head) (s : State) : Host.Outcome State Fault Refusal :=
  s.command a fun b =>
    match nextHint (b.head h).hints with
    | none => b
    | some (li, rest) =>
      let b1 := b.onHead h fun x => { x with hints := rest }
      if !b.works then b
      else if b.hintSkips li then b1
      else if !b.gateOpen li then b
      else match b1.allocate li true { tag := 0, fillp := true, pf := true, mask := 0 } with
        | some b2 => b2.startFill h li .prefetch (b.reserves li)
        | none => b1

end Sys2Proof.Machine
end

