-- ==== Sys2Proof/Machine/Persist.lean ====
section
/-! DEFINITION. Persistence interfaces: the drain barrier (R170, R171) and Global Persistent Flush (R169). -/

namespace Sys2Proof.Machine

/-- Lines that a barrier covers: one entry for each dirty way, each holding buffer and each line with a write-through write in flight (R170). -/
def Blk.barrierLines (b : Blk) : List Nat :=
  ((b.velvet.ways.filter fun e => e.2.dirty).map fun e => e.2.lineAt e.1) ++ (b.velvet.bufs.map fun e => e.2.li)
    ++ ((b.path.acc.filter fun x => x.stage == .program && x.req.kind.isWrite).foldl (fun l x => insUniq x.line l) [])

/-- A barrier starts: the eight that may be outstanding, else "busy" (R170); the write is answered at once, OD 0x6040.03 tells of its end (R171). -/
def Blk.openBarrier (b : Blk) (src : Src) : Blk :=
  if 8 ≤ b.path.barriers.length then b.wrote src 0x6040 0x01 0x0A
  else
    let n := (b.cfg 0x6040 0x02 + 1) % 2 ^ 32
    let b1 := (b.onPath fun p => { p with barriers := p.barriers ++ [{ num := n, start := b.now, lines := b.barrierLines }] }).odSet 0x6040 0x02 n
    (if b.works then b1.cleanCovered else b1).wrote src 0x6040 0x01 0

/-- START_BARRIER: a write of OD 0x6040.01 (R170). -/
def execStartBarrier (a : Stamp) (src : Src) (s : State) : Host.Outcome State Fault Refusal :=
  s.command a fun b => b.writeReq src 0x6040 0x01 [1] fun _ c => c.openBarrier src

/-- Event data of a barrier with data loss: its number and the DPAs of the lines that it lost, as many as a record holds (R172, R365, log 96). -/
def barrierData (x : Barrier) : List Byte := leBytes 4 x.num ++ (x.lost.take 31).flatMap fun li => leBytes 6 (dpaOfLine li)

/-- BARRIER_COMPLETION: the oldest barrier, every covered line done, completes with its result (R170, R172). -/
def execBarrierCompletion (a : Stamp) (s : State) : Host.Outcome State Fault Refusal :=
  s.command a fun b =>
    match b.path.barriers with
    | [] => b
    | x :: rest =>
      if x.lines.isEmpty then
        let b1 := (b.onPath fun p => { p with barriers := rest }).odSet 0x6040 0x03 x.num
        let b2 := (b1.odSet 0x6040 0x04 (b2n (!x.lost.isEmpty))).odSet 0x6040 0x06 (min (b.since x.start / 1000) (2 ^ 32 - 1))
        if x.lost.isEmpty then b2 else (b2.bump 0x6040 0x05 1).report { code := 0x6003, data := barrierData x }
      else b

/-- GPF_PHASE1: complete at once (R169). -/
def execGpfPhase1 (a : Stamp) (h : Head) (s : State) : Host.Outcome State Fault Refusal :=
  s.command a fun b => if b.barOpen h then b.emit (.gpf h 1) else b

/-- Writes accepted at either head and not completed. -/
def Blk.openWrites (b : Blk) : List Nat := (b.path.acc.filter fun x => x.req.kind.isWrite).map Acc.rid

/-- GPF_PHASE2: phase 2 waits for the writes accepted before it (R169). -/
def execGpfPhase2 (a : Stamp) (h : Head) (s : State) : Host.Outcome State Fault Refusal :=
  s.command a fun b =>
    if b.barOpen h && (b.head h).gpf.isNone then b.onHead h fun x => { x with gpf := some (b.now, b.openWrites) } else b

/-- GPF_PHASE2_COMPLETE: its writes have completed, or 10 µs have passed (R169). -/
def execGpfPhase2Complete (a : Stamp) (h : Head) (s : State) : Host.Outcome State Fault Refusal :=
  s.command a fun b =>
    match (b.head h).gpf with
    | none => b
    | some (t, rids) =>
      if (rids.all fun r => !b.openWrites.contains r) || decide (t + 10000 ≤ b.now) then (b.onHead h fun x => { x with gpf := none }).emit (.gpf h 2) else b

end Sys2Proof.Machine
end

