-- ==== Sys2Proof/Machine/Mailbox.lean ====
section
/-! DEFINITION. The standard mailbox commands of R104, R219, R221, R222, R226, R228 and R229. Output payloads are lists of fields in the order of the standard's tables (log 31); a command at a mailbox that takes none has no effect. -/

namespace Sys2Proof.Machine

/-- A mailbox command at a head whose mailbox takes commands. -/
def Blk.mbox (b : Blk) (h : Head) (f : Blk → Blk) : Blk := if b.mailboxOpen h then f b else b

/-- A temperature in whole °C, 16 bits; 0x7FFF where there is none. -/
def tempField (t : Option Int) : Nat := match t with
  | some x => sEnc 16 (x / 64)
  | none => 0x7FFF

/-! ### Identity, logs of commands, background operations -/

/-- IDENTIFY (R221): vendor, device, serial number, maximum message size 2^13. -/
def execIdentify (a : Stamp) (h : Head) (s : State) : Host.Outcome State Fault Refusal :=
  s.command a fun b => b.mbox h fun b =>
    b.mbReply h 0x0001 .success [Config.vendorId.toNat, Config.deviceId.toNat, Config.serial.toNat, 13]

/-- BACKGROUND_OPERATION_STATUS: whether one runs, and the opcode of the running or last one (R220, R221). -/
def execBackgroundOperationStatus (a : Stamp) (h : Head) (s : State) : Host.Outcome State Fault Refusal :=
  s.command a fun b => b.mbox h fun b =>
    b.mbReply h 0x0002 .success (match b.dev.bg with
      | none => [0, 0]
      | some (op, _, ended) => [b2n (!ended), op])

/-- Opcodes that the device supports (R104, R221). -/
def supportedOps : List Nat :=
  [0x0001, 0x0002, 0x0100, 0x0101, 0x0102, 0x0103, 0x0200, 0x0201, 0x0202, 0x0300, 0x0301, 0x0400, 0x0401, 0x4000, 0x4200, 0x4201, 0x4202, 0x4203, 0x4204,
   0x4300, 0x4301, 0x4302, 0x4303, 0x4304, 0x4305, 0x4400, 0x4401, 0x4800, 0x4801, 0x4802, 0x4803, 0xC100, 0xC101]

/-- UUID of the Command Effects Log, as CXL 3.1 gives it (PRESUMED, log 31). -/
def celUuid : BitVec 128 := 0x0da9c0b5bf414b788f7996b1623b3f17

/-- GET_SUPPORTED_LOGS: the Command Effects Log, 4 B an opcode (R221). -/
def execGetSupportedLogs (a : Stamp) (h : Head) (s : State) : Host.Outcome State Fault Refusal :=
  s.command a fun b => b.mbox h fun b => b.mbReply h 0x0400 .success [1, celUuid.toNat, 4 * supportedOps.length]

/-- GET_LOG: the Command Effects Log only (R221). -/
def execGetLog (a : Stamp) (h : Head) (uuid : BitVec 128) (s : State) : Host.Outcome State Fault Refusal :=
  s.command a fun b => b.mbox h fun b =>
    if uuid = celUuid then b.mbReply h 0x0401 .success supportedOps else b.mbReply h 0x0401 .invalidInput []

/-! ### Event logs -/

/-- Number or all ones. -/
def orOnes (n : Option Nat) : Nat := n.getD (2 ^ 64 - 1)

/-- The 80 B of record-specific data of the vendor record (R228). -/
def EvRec.body (e : EvRec) : List Byte :=
  leBytes 8 e.linen ++ leBytes 2 e.code.toNat ++ leBytes 1 e.sev ++ leBytes 1 e.cls.toNat ++ leBytes 2 e.unit.toNat ++ [0, 0]
    ++ leBytes 8 (orOnes e.dpa) ++ leBytes 8 (orOnes e.hpa) ++ leBytes 4 (min e.storm (2 ^ 32 - 1)) ++ leBytes 2 (min e.second 65535) ++ [0, 0] ++ padTo 40 e.data

/-- Record type UUID: the vendor record's of R228; the General Media, Memory Module and Dynamic Capacity Event records' are the standard's (PRESUMED, log 31). -/
def EvRec.uuid (e : EvRec) : BitVec 128 := match e.kind with
  | 0 => 0x8f3b2c615e044a7db1c96d20e47a93f5
  | 1 => 0xfbcd0a77c260417f85a9088b1621eba6
  | 2 => 0xfe927475dd594339a58679bab113b774
  | _ => 0xca95afa7f18340188c2f95268e101a2a

/-- A record as the output carries it: its record type, handle, timestamp and the 80 B. -/
def EvRec.out (e : EvRec) : List Nat := [e.uuid.toNat, e.handle, e.stamp.toNat, leNat e.body]

/-- Records of 128 B that fit in a payload of 8 KiB behind the 32 B of the reply's head. -/
def recordsFit : Nat := 63

/-- GET_EVENT_RECORDS: the oldest records of a log of the head, with the overflow fields (R226). -/
def execGetEventRecords (a : Stamp) (h : Head) (log : EvLog) (s : State) : Host.Outcome State Fault Refusal :=
  s.command a fun b => b.mbox h fun b =>
    let l := (b.head h).log log
    b.mbReply h 0x0100 .success ([b2n l.overflow + 2 * b2n (decide (recordsFit < l.recs.length)), l.lost, l.firstTs.toNat, l.lastTs.toNat, min recordsFit l.recs.length]
      ++ (l.recs.take recordsFit).flatMap EvRec.out)

/-- CLEAR_EVENT_RECORDS: all records of the head's own log, or those named; the overflow fields go with them (R221). A handle that the log does not hold is invalid. -/
def execClearEventRecords (a : Stamp) (h : Head) (log : EvLog) (all : Bool) (handles : List Nat) (s : State) : Host.Outcome State Fault Refusal :=
  s.command a fun b => b.mbox h fun b =>
    let l := (b.head h).log log
    if all then (b.onHead h fun x => x.onLog log fun _ => {}).mbReply h 0x0101 .success []
    else if handles.all fun n => l.recs.any fun r => r.handle == n then
      (b.onHead h fun x => x.onLog log fun l => { recs := l.recs.filter fun r => !handles.contains r.handle }).mbReply h 0x0101 .success []
    else b.mbReply h 0x0101 .invalidInput []

/-- Number of a log. -/
def logNum : EvLog → Nat
  | .informational => 0
  | .warning => 1
  | .failure => 2
  | .fatal => 3
  | .dynamicCapacity => 4

/-- GET_EVENT_INTERRUPT_POLICY: for each log its entry plus 1, 0 for none (R229). -/
def execGetEventInterruptPolicy (a : Stamp) (h : Head) (s : State) : Host.Outcome State Fault Refusal :=
  s.command a fun b => b.mbox h fun b =>
    b.mbReply h 0x0102 .success ((b.head h).policy.flatMap fun p => [logNum p.1, (p.2.map (· + 1)).getD 0])

/-- SET_EVENT_INTERRUPT_POLICY: any log to any of the 8 entries, or to none (R229). -/
def execSetEventInterruptPolicy (a : Stamp) (h : Head) (policy : List (EvLog × Option Nat)) (s : State) : Host.Outcome State Fault Refusal :=
  s.command a fun b => b.mbox h fun b =>
    if policy.all fun p => (p.2.getD 0) < 8 then
      (b.onHead h fun x => { x with policy := x.policy.map fun p => (policy.find? fun q => q.1 == p.1).getD p }).mbReply h 0x0103 .success []
    else b.mbReply h 0x0103 .invalidInput []

/-! ### Firmware (R221, R325) -/

/-- A version as a number of bytes and their value. -/
def versionOut (f : Option FwImage) : List Nat := let v := slotVersion f; [v.length, leNat v]

/-- GET_FW_INFO: 2 slots, the active one, the pending one (0 none), no online activation, both versions. Slots count from 1, as in the standard. -/
def execGetFwInfo (a : Stamp) (h : Head) (s : State) : Host.Outcome State Fault Refusal :=
  s.command a fun b => b.mbox h fun b =>
    let f := b.felt.fw
    b.mbReply h 0x0200 .success ([2, f.active + 1, if f.pending < 2 then f.pending + 1 else 0, 0] ++ versionOut f.slotA ++ versionOut f.slotB)

/-- Content of the inactive slot. -/
def Blk.putInactive (b : Blk) (v : Option FwImage) : Blk :=
  b.onFelt fun f => { f with fw := if f.fw.active = 0 then { f.fw with slotB := v } else { f.fw with slotA := v } }

/-- TRANSFER_FW: into the inactive slot, which holds no image while a transfer is open; refused while NVWP_N is low; a transfer open at the other head returns Busy (R221, R325). -/
def execTransferFw (a : Stamp) (h : Head) (part : FwPart) (img : FwImage) (s : State) : Host.Outcome State Fault Refusal :=
  s.command a fun b => b.mbox h fun b =>
    let opened := (b.head h).fwOpen
    let ok (v : Bool) (c : Blk) : Blk := (c.onHead h fun x => { x with fwOpen := v }).mbReply h 0x0201 .success []
    if (b.head (otherHead h)).fwOpen then b.mbReply h 0x0201 .busy []
    else if !b.nvwp then b.mbReply h 0x0201 .invalidInput []
    else match part with
      | .full => ok false (b.putInactive (some img))
      | .initiate => ok true (b.putInactive none)
      | .continue => if opened then ok true b else b.mbReply h 0x0201 .invalidInput []
      | .finish => if opened then ok false (b.putInactive (some img)) else b.mbReply h 0x0201 .invalidInput []
      | .abort => if opened then ok false b else b.mbReply h 0x0201 .invalidInput []

/-- ACTIVATE_FW: a slot that holds an image is pending for the next boot from M1; there is no online activation (R221, R325). -/
def execActivateFw (a : Stamp) (h : Head) (slot : Nat) (online : Bool) (s : State) : Host.Outcome State Fault Refusal :=
  s.command a fun b => b.mbox h fun b =>
    let v := if slot = 1 then b.felt.fw.slotA else if slot = 2 then b.felt.fw.slotB else none
    if online || v.isNone then b.mbReply h 0x0202 .invalidInput []
    else (b.onFelt fun f => { f with fw := { f.fw with pending := slot - 1 } }).mbReply h 0x0202 .success []

/-! ### Timestamp -/

/-- GET_TIMESTAMP (R221). -/
def execGetTimestamp (a : Stamp) (h : Head) (s : State) : Host.Outcome State Fault Refusal :=
  s.command a fun b => b.mbox h fun b => b.mbReply h 0x0300 .success [b.timestamp.toNat]

/-- SET_TIMESTAMP: the last set, from either head, wins (R221). -/
def execSetTimestamp (a : Stamp) (h : Head) (v : BitVec 64) (s : State) : Host.Outcome State Fault Refusal :=
  s.command a fun b => b.mbox h fun b =>
    (b.onDev fun d => { d with stampV := v, stampSet := true, stampAt := b.now }).mbReply h 0x0301 .success []

/-! ### Memory device -/

/-- IDENTIFY_MEMORY_DEVICE: total, volatile-only and persistent-only capacity, the poison list's maximum, the inject limit, DC supported (R221). -/
def execIdentifyMemoryDevice (a : Stamp) (h : Head) (s : State) : Host.Outcome State Fault Refusal :=
  s.command a fun b => b.mbox h fun b => b.mbReply h 0x4000 .success [0, 0, 0, poisonCapacity, poisonCapacity, 1]

/-- Media Status of Get Health Info (R222), with the standard's codes: 0 normal, 1 not ready, 4 write persistency loss in the event of power loss. -/
def Blk.mediaStatus (b : Blk) : Nat := if b.eff = 2 ∨ b.eff = 3 then 1 else if b.persistence = 2 then 4 else 0

/-- Corrected volatile errors (R222). -/
def Blk.corrVolatile (b : Blk) : Nat := min (b.cfg 0x5800 0x01 + b.cfg 0x5800 0x04) (2 ^ 32 - 1)

/-- Corrected persistent errors (R222). -/
def Blk.corrPersist (b : Blk) : Nat := min (b.cfg 0x5800 0x0A) (2 ^ 32 - 1)

/-- GET_HEALTH_INFO: health status, media status, life used, device temperature, dirty shutdown count, corrected volatile and persistent errors (R222). -/
def execGetHealthInfo (a : Stamp) (h : Head) (s : State) : Host.Outcome State Fault Refusal :=
  s.command a fun b => b.mbox h fun b =>
    b.mbReply h 0x4200 .success [b.healthStatus, b.mediaStatus, 100 - b.life, tempField b.thermal.tj, b.felt.dirty, b.corrVolatile, b.corrPersist]

/-- Thresholds that are crossed now: 0 life used, 1 over- and 2 under-temperature, 3 corrected volatile and 4 persistent errors (R221). -/
def Blk.alertsNow (b : Blk) : List Nat :=
  let c := b.dev.alerts
  let above (thr : Option Nat) (v : Nat) : Bool := match thr with
    | some t => decide (t ≤ v)
    | none => false
  let warm (f : Int → Int → Bool) (thr : Option Int) : Bool := match thr, b.thermal.tj with
    | some t, some x => f (64 * t) x
    | _, _ => false
  (if above c.lifeUsed (100 - b.life) then [0] else []) ++ (if warm (fun t x => decide (t ≤ x)) c.overTemp then [1] else [])
    ++ (if warm (fun t x => decide (x ≤ t)) c.underTemp then [2] else []) ++ (if above c.corrVolatile b.corrVolatile then [3] else [])
    ++ (if above c.corrPersist b.corrPersist then [4] else [])

/-- A threshold newly crossed raises its Memory Module Event (R221, R227). -/
def Blk.alertCheck (b : Blk) : Blk :=
  let now := b.alertsNow
  let b1 := (now.filter fun i => !b.dev.crossed.contains i).foldl (fun c i =>
    c.report { code := if i = 1 ∨ i = 2 then 0x7805 else 0x110A, data := [BitVec.ofNat 8 i] }) b
  b1.onDev fun d => { d with crossed := now }

/-- An optional threshold as a flag and a value. -/
def optOut (v : Option Nat) : List Nat := [b2n v.isSome, v.getD 0]

/-- GET_ALERT_CONFIGURATION (R221). -/
def execGetAlertConfiguration (a : Stamp) (h : Head) (s : State) : Host.Outcome State Fault Refusal :=
  s.command a fun b => b.mbox h fun b =>
    let c := b.dev.alerts
    b.mbReply h 0x4201 .success (optOut c.lifeUsed ++ optOut (c.overTemp.map (sEnc 16)) ++ optOut (c.underTemp.map (sEnc 16)) ++ optOut c.corrVolatile ++ optOut c.corrPersist)

/-- SET_ALERT_CONFIGURATION: a threshold that is already passed when it is set is not a crossing (R221). -/
def execSetAlertConfiguration (a : Stamp) (h : Head) (cfg : AlertCfg) (s : State) : Host.Outcome State Fault Refusal :=
  s.command a fun b => b.mbox h fun b =>
    let b1 := b.onDev fun d => { d with alerts := cfg }
    (b1.onDev fun d => { d with crossed := b1.alertsNow }).mbReply h 0x4202 .success []

/-- GET_SHUTDOWN_STATE (R219). -/
def execGetShutdownState (a : Stamp) (h : Head) (s : State) : Host.Outcome State Fault Refusal :=
  s.command a fun b => b.mbox h fun b => b.mbReply h 0x4203 .success [b2n b.felt.shutdown]

/-- SET_SHUTDOWN_STATE: one bit in Felt, the same for both heads (R219). -/
def execSetShutdownState (a : Stamp) (h : Head) (v : Bool) (s : State) : Host.Outcome State Fault Refusal :=
  s.command a fun b => b.mbox h fun b => (b.onFelt fun f => { f with shutdown := v }).mbReply h 0x4204 .success []

/-! ### Poison (R104) -/

/-- Code of a source in a media error record, as the standard numbers them. -/
def sourceCode : PSource → Nat
  | .external => 1
  | .internal => 2
  | .injected => 3

/-- Adjacent halves of one source as one record: first key, source, halves. -/
def mergePoison : List (Nat × PSource) → List (Nat × PSource × Nat)
  | [] => []
  | (k, x) :: rest => match mergePoison rest with
    | (k2, x2, n) :: more => if k2 = k + 1 ∧ x2 = x then (k, x, n + 1) :: more else (k, x, 1) :: (k2, x2, n) :: more
    | [] => [(k, x, 1)]

/-- Media error records of 16 B that fit behind the reply's head of 32 B. -/
def poisonFit : Nat := 510

/-- GET_POISON_LIST: the records of a range of `len` units of 64 B from a DPA, going on where the last reply for the same range stopped (R104). -/
def execGetPoisonList (a : Stamp) (h : Head) (dpa len : Nat) (s : State) : Host.Outcome State Fault Refusal :=
  s.command a fun b => b.mbox h fun b =>
    let lo := halfKey dpa
    let start := match (b.head h).poisonPos with
      | some (d, l, next) => if d = dpa ∧ l = len then next else lo
      | none => lo
    let recs := mergePoison (b.media.poison.filter fun e => decide (start ≤ e.1) && decide (e.1 < lo + len))
    let out := recs.take poisonFit
    let more := decide (poisonFit < recs.length)
    let next := (out.getLast?.map fun r => r.1 + r.2.2).getD lo
    (b.onHead h fun x => { x with poisonPos := if more then some (dpa, len, next) else none }).mbReply h 0x4300 .success
      ([b2n more + 4 * b2n b.media.scan.isSome, out.length] ++ out.flatMap fun r => [r.1 * 64 ||| sourceCode r.2.1, r.2.2])

/-- A dirty copy of a half in its way is discarded: its bytes are no longer written ones and are fetched again from media (R99, R104). -/
def Blk.dropWayHalf (b : Blk) (h : Head) (key : Nat) : Blk :=
  let li := key / 2
  match b.resident li with
  | some (k, v) =>
    let w := { v with mask := v.mask &&& ~~~halfMask (key % 2 == 1), fillp := true }
    if !v.dirty || v.cln then b else if v.whole then (b.putWay k w).startFill h li .fill (b.reserves li) else b.putWay k w
  | none => b

/-- A dirty copy of a half in a holding buffer, and in the way that it cleans, is discarded: what its line's program then writes there is not in the spec, the half being poison until it is written whole (R104, log 95). -/
def Blk.dropBufHalf (b : Blk) (key : Nat) : Blk :=
  let put (d : Line) : Line := putHalf d (key % 2 == 1) (BitVec.allOnes 64) (b.freeVal 512)
  match b.bufOf (key / 2) with
  | some (n, x) =>
    let b1 := b.useFree.putBuf n { x with data := put x.data }
    match b1.resident (key / 2) with
    | some (k, v) => if v.cln then b1.putWay k { v with data := put v.data } else b1
    | none => b1
  | none => b

/-- The dirty copies of a half in Velvet are discarded (R104). -/
def Blk.dropHalf (b : Blk) (h : Head) (key : Nat) : Blk := (b.dropWayHalf h key).dropBufHalf key

/-- INJECT_POISON: only while OD 0x5830.03 is 1, for a half of an added region (R104). -/
def execInjectPoison (a : Stamp) (h : Head) (dpa : Nat) (s : State) : Host.Outcome State Fault Refusal :=
  s.command a fun b => b.mbox h fun b =>
    if b.cfg 0x5830 0x03 = 0 then b.mbReply h 0x4301 .unsupported []
    else if (b.regionEntry (regionOfLine (lineOf dpa))).isNone then b.mbReply h 0x4301 .invalidInput []
    else ((b.listHalf (halfKey dpa) .injected).dropHalf h (halfKey dpa)).mbReply h 0x4301 .success []

/-- CLEAR_POISON: the 64 B arrive at the head as a host write (R104); the command completes with it. -/
def execClearPoison (a : Stamp) (h : Head) (dpa : Nat) (data : Half) (s : State) : Host.Outcome State Fault Refusal :=
  s.command a fun b => b.mbox h fun b =>
    let d := dpa % 2 ^ 43
    if !b.memoryActive || !b.hasCapacity h d || inWindow d then b.mbReply h 0x4302 .invalidInput []
    else if b.stopped then b.refuse h .clearPoison 0
    else if b.takes h then b.place h .clearPoison 0 0 d data (BitVec.allOnes 64) false
    else b

/-- GET_SCAN_MEDIA_CAPABILITIES: an estimate from the idle rate, which is left open (log 4). -/
def execGetScanMediaCapabilities (a : Stamp) (h : Head) (_dpa _len : Nat) (s : State) : Host.Outcome State Fault Refusal :=
  s.command a fun b => b.mbox h fun b => b.useFree.mbReply h 0x4303 .success [b.freeNum]

/-- SCAN_MEDIA: a directed scan by Terry of `len` units of 64 B, as a background operation; a second one returns Busy (R104, R220). The results of the scan before are dropped. -/
def execScanMedia (a : Stamp) (h : Head) (dpa len : Nat) (s : State) : Host.Outcome State Fault Refusal :=
  s.command a fun b => b.mbox h fun b =>
    if b.bgRuns then b.mbReply h 0x4304 .busy []
    else ((b.onMedia fun m => { m with scan := some (halfKey dpa, len), scanFound := [] }).onDev fun d => { d with bg := some (0x4304, h, false) }).mbReply h 0x4304 .backgroundStarted []

/-- GET_SCAN_MEDIA_RESULTS: DPAs of the halves found, kept until the next scan (R104). -/
def execGetScanMediaResults (a : Stamp) (h : Head) (s : State) : Host.Outcome State Fault Refusal :=
  s.command a fun b => b.mbox h fun b => b.mbReply h 0x4305 .success (b.media.scanFound.map fun k => k * 64)

end Sys2Proof.Machine
end

