-- ==== Sys2Proof/Machine/Store.lean ====
section
/-! DEFINITION. The Felt store's shared operations: protection (R379), page wear and spare pages (R376), A/B items (R374), the counter record (R377), in-place counters (R378), and the bytes of Linen records (R365). -/

namespace Sys2Proof.Machine

/-- Felt refuses an area's writes now: 0 parameters, 1 calibration set, 2 key blobs, 3 firmware slots (R379). -/
def Blk.feltProtected (b : Blk) (area : Nat) : Bool := !b.nvwp && ((majority b.felt.policy).getD 15).testBit area

/-- A refused write (R379). -/
def Blk.feltRefused (b : Blk) : Blk := (b.bump 0x9000 0x0A 1).report { code := 0x9005 }

/-- Write count at which a page is replaced (R376). -/
def pageLimit : Nat := 950000

/-! ### The bodies of the A/B items -/

/-- Trim of a thermal sensor: offset in 1/64 °C and gain, 32,768 for 1 (R133); unity when the set is unreadable (R136). -/
def Blk.trimOf (b : Blk) (i : Nat) : Int × Nat :=
  if b.gauze.calPresent then b.gauze.trims.getD i (sDec 16 (Config.factoryTrim i 0 % 65536), Config.factoryTrim i 1 % 65536) else (0, 32768)

/-- A die record of the calibration set (R133); an absent die has a zero die ID. -/
def Blk.dieRecord (b : Blk) (d : Nat) (k : DieCal) : List Byte :=
  withCrc32 (leBytes 8 (b.die d).id.toNat ++ leBytes 1 (d / 8) ++ leBytes 1 (d % 8) ++ leBytes 2 k.flags.toNat
    ++ ((List.range 12).flatMap fun i => leBytes 2 (sEnc 16 (k.off.getD i 0))) ++ ((List.range 3).flatMap fun i => leBytes 2 (k.nu.getD i 0))
    ++ leBytes 2 k.theta ++ leBytes 2 (sEnc 16 k.chi) ++ List.replicate 14 0)

/-- A die's record in the set that Felt holds. -/
def Blk.calRecord (b : Blk) (d : Nat) : List Byte := b.dieRecord d (b.feltCal d)

/-- The calibration set, OD 0x5080.01 (R133). -/
def Blk.calBlob (b : Blk) : List Byte :=
  let present := (List.range 256).filter fun d => (b.die d).id != 0
  withCrc32 (leBytes 4 0x00014C43 ++ leBytes 4 b.gauze.calSeq ++ leBytes 16 Config.serial.toNat ++ leBytes 2 present.length ++ List.replicate 38 0
    ++ ((List.range 256).flatMap b.calRecord)
    ++ ((List.range 16).flatMap fun i => leBytes 2 (sEnc 16 (b.trimOf i).1) ++ leBytes 2 (b.trimOf i).2 ++ List.replicate 4 0)
    ++ (b.ircTrimOf.flatMap fun v => leBytes 2 (sEnc 16 v)) ++ List.replicate 4 0)

/-- The body of an A/B item (R373). Of the directory, the parameters, the key blobs and the counter record the spec names the content and not its layout, which is the model's (log 32). -/
def Blk.itemBody (b : Blk) (item : Nat) : List Byte := match item with
  | 1 => b.calBlob
  | 2 => (b.felt.params.getD []).flatMap fun e => leBytes 4 e.1 ++ leBytes 8 e.2
  | 3 => Config.hukWrap (leBytes 32 ((b.damask.mkey.getD 0).toNat) ++ leBytes 8 ((b.damask.k.getD 0).toNat) ++ leBytes 32 ((b.damask.kek.getD 0).toNat)
      ++ leBytes 32 ((b.felt.maintKey.getD 0).toNat) ++ leBytes 32 ((b.can.macKey.getD 0).toNat))
  | 4 => leBytes 6 b.felt.opStored ++ (b.felt.counters.flatMap fun e => leBytes 4 e.1 ++ leBytes 8 e.2) ++ b.felt.wear.flatMap fun e => leBytes 4 e.1 ++ leBytes 4 e.2
  | _ => leBytes 2 b.felt.spares ++ leBytes 4 b.felt.fw.minSec ++ b.felt.wear.flatMap fun e => leBytes 4 e.1 ++ leBytes 4 e.2

/-! ### Copies (R374) -/

/-- The header of a copy: item, sequence, body length, and the CRC-32 over its first 12 B and the body (R374). -/
def feltHeader (item seq : Nat) (body : List Byte) : List Byte :=
  let h := leBytes 2 item ++ [0, 0] ++ leBytes 4 seq ++ leBytes 4 body.length
  h ++ leBytes 4 (crc32 (h ++ body)).toNat

/-- The commit marker of a copy (R374). -/
def copyMarker : Nat := 0x3E7A91C4

/-- Highest sequence of an item. -/
def Felt.itemSeq (f : Felt) (item : Nat) : Nat := (f.copies.filter fun e => e.1 / 32 == item).foldl (fun m e => max m (leNat ((e.2.drop 4).take 4))) 0

/-- Record position of a sequence of the counter record (R377); copy of any other item (R374). -/
def itemPlace (item seq : Nat) : Nat := if item = 4 then 15 * (seq % 2) + seq / 2 % 15 else seq % 2

/-- A copy of an item is written under its next sequence: header, body, and last the marker (R374). -/
def Blk.putCopy (b : Blk) (item : Nat) : Blk :=
  let seq := b.felt.itemSeq item + 1
  let c := feltHeader item seq (b.itemBody item) ++ leBytes 4 copyMarker
  b.onFelt fun f => { f with copies := f.copies.put (32 * item + itemPlace item seq) c }

/-- No valid copy of an item is left. -/
def Blk.dropCopies (b : Blk) (item : Nat) : Blk := b.onFelt fun f => { f with copies := f.copies.filter fun e => e.1 / 32 != item }

/-- The directory records a move of pages, with the page wear (R373, R376). -/
def Blk.directoryWrite (b : Blk) : Blk :=
  let key := (b.felt.itemSeq 0 + 1) % 2
  let b1 := b.onFelt fun f => { f with wear := f.wear.set 0 key (f.wear.getD key 0 + 1), wearSaved := f.wear.set 0 key (f.wear.getD key 0 + 1) }
  b1.putCopy 0

/-- A write of a page that moves alone: the counter record's pages are 128 + p, the ring's 1000 + p, the Canvas log's 2000 + p, the in-place page 3000, the firmware slots' 4000 + slot (R376, log 32). -/
def Blk.pageWrite (b : Blk) (key : Nat) : Blk :=
  let n := b.felt.wear.getD key 0 + 1
  let put (v : Nat) (c : Blk) : Blk := c.onFelt fun f => { f with wear := f.wear.set 0 key v }
  if n < pageLimit then put n b
  else if 0 < b.felt.spares then ((((put 0 b).onFelt fun f => { f with spares := f.spares - 1 }).bump32 0x9000 0x0B 1).directoryWrite).report { code := 0x9002 }
  else if 1000 ≤ key ∧ key < 2000 then ((put 0 b).onLinen fun l => { l with ringSlots := l.ringSlots - 16 }).report { code := 0x9006 }
  else if 4000 ≤ key ∧ !b.felt.readOnly.getLsbD 6 then ((put pageLimit b).onFelt fun f => { f with readOnly := f.readOnly ||| 0x40 }).report { code := 0x9003 }
  else if key < 1000 ∧ !b.felt.readOnly.getLsbD 1 then ((put pageLimit b).onFelt fun f => { f with readOnly := f.readOnly ||| 2 }).report { code := 0x9003 }
  else put pageLimit b

/-- The read-only bit of an A/B item: calibration set 4, parameters 3, key blobs 5, counters 1 (R376, R380). -/
def itemBit (item : Nat) : Nat := if item = 1 then 4 else if item = 2 then 3 else if item = 3 then 5 else if item = 4 then 1 else 7

/-- An A/B item has become read-only. -/
def Blk.itemFixed (b : Blk) (item : Nat) : Bool := b.felt.readOnly.getLsbD (itemBit item)

/-- A new copy of an A/B item is written (R374); at the page limit both copies move to a spare pair, or the item becomes read-only; a page of the counter record, which holds two of its positions, moves alone (R376, R377). -/
def Blk.itemWrite (b : Blk) (item : Nat) : Blk :=
  let place := itemPlace item (b.felt.itemSeq item + 1)
  let key := 32 * item + place
  let n := b.felt.wear.getD key 0 + 1
  let b0 := b.putCopy item
  let b1 := b0.onFelt fun f => { f with wear := f.wear.set 0 key n }
  if item = 4 then b0.pageWrite (128 + place / 2)
  else if n < pageLimit then b1
  else if 2 ≤ b.felt.spares then
    (((b1.onFelt fun f => { f with spares := f.spares - 2, wear := (f.wear.set 0 (32 * item) 0).set 0 (32 * item + 1) 0 }).bump32 0x9000 0x0B 2).directoryWrite).report { code := 0x9002 }
  else if b.itemFixed item then b1
  else (b1.onFelt fun f => { f with readOnly := f.readOnly ||| BitVec.ofNat 7 (1 <<< itemBit item) }).report { code := 0x9003 }

/-- Key under which the counter record keeps the wrapped bit of Tweed's counter 0 (R377). -/
def wrappedKey : Nat := 2 ^ 30

/-- The counter record: operating time and the lifetime counters, with the last flush's figures, which the next boot shows, the wrapped bits of Tweed's counters and the page counts (R377, the example of R320). Once it is read-only nothing is written (R376). -/
def Blk.saveCounters (b : Blk) (exact : Bool) : Blk :=
  if b.itemFixed 4 then b
  else (b.onFelt fun f => { f with
      opStored := b.opTime
      opExact := exact
      counters := (b.od.filter fun e => odKeeps e.1 || e.1 == odKey 0x1100 0x0C || e.1 == odKey 0x1100 0x0D) ++ (b.tweed.ctr.filter fun e => e.2.2).map fun e => (wrappedKey + e.1, 1)
      wearSaved := f.wear }).itemWrite 4

/-- One more of an in-place counter H, carry mark, Lo: Lo + 1, or the carry's three steps; at 2^32 - 1 it stays (R378). -/
def inPlaceUp (h : Nat) (mark : Bool) (lo : Nat) : Nat × Bool × Nat :=
  if mark then (h, false, 1)
  else if h = 65535 ∧ lo = 65535 then (h, mark, lo)
  else if lo < 65535 then (h, false, lo + 1) else (h + 1, false, 0)

/-- The power-cycle count increments (R378). -/
def Blk.cycleUp (b : Blk) : Blk :=
  let c := inPlaceUp b.felt.cycH b.felt.cycMark b.felt.cycLo
  (b.pageWrite 3000).onFelt fun f => { f with cycH := c.1, cycMark := c.2.1, cycLo := c.2.2 }

/-- The dirty shutdown count increments, with event 0x1109 (R219, R227). -/
def Blk.dirtyUp (b : Blk) : Blk :=
  let c := inPlaceUp b.felt.dirtyH b.felt.dirtyMark b.felt.dirtyLo
  ((b.pageWrite 3000).onFelt fun f => { f with dirtyH := c.1, dirtyMark := c.2.1, dirtyLo := c.2.2 }).report { code := 0x1109 }

/-! ### Records as bytes -/

/-- A Linen record: 48 B of header and its event data (R365). -/
def LRec.bytes (r : LRec) : List Byte :=
  let data := padTo (max 40 r.data.length) r.data
  leBytes 8 r.seq ++ leBytes 4 r.cycle ++ leBytes 6 r.opTime
    ++ leBytes 1 (r.sev + 8 * b2n r.unsure + 16 * b2n r.storm + 32 * b2n r.notPersisted) ++ leBytes 1 (48 + data.length) ++ leBytes 2 r.code.toNat
    ++ leBytes 1 r.cls.toNat ++ [0] ++ leBytes 2 r.unit.toNat ++ leBytes 2 (min r.second 65535) ++ leBytes 4 (min r.count (2 ^ 32 - 1))
    ++ leBytes 8 (orOnes r.dpa) ++ leBytes 8 (orOnes r.hpa) ++ data

/-- A record takes its place by sequence; one that is there stays. -/
def seqInsert (r : LRec) : List LRec → List LRec
  | [] => [r]
  | x :: l => if r.seq = x.seq then x :: l else if r.seq < x.seq then r :: x :: l else x :: seqInsert r l

/-- The records that a read of OD 0x8000.05 returns (R371). -/
def Blk.recordsFrom (b : Blk) (cursor : Nat) : List LRec :=
  (((b.linen.staging ++ b.linen.ring).filter fun r => decide (cursor ≤ r.seq)).foldl (fun l r => seqInsert r l) []).take 4096

/-- The object of OD 0x8000.05 for a transport (R371). -/
def Blk.recordsBlob (b : Blk) (t : Nat) : List Byte :=
  let rs := b.recordsFrom (b.cfgOf t 0x8000 0x04)
  withCrc32 (leBytes 8 b.linen.head ++ leBytes 4 rs.length ++ leBytes 4 0 ++ rs.flatMap LRec.bytes)

end Sys2Proof.Machine
end

