-- ==== Sys2Proof/Machine/Damask.lean ====
section
/-! DEFINITION. Damask: the key-encryption key (R250), escrow export and import (R251, R252), the alarm table's actions (R249), write-back of tag lines (R247) and re-key passes (R246). -/

namespace Sys2Proof.Machine

/-- `n` bytes from byte `i` as a number. -/
def bytesAt (l : List Byte) (i n : Nat) : Nat := leNat ((l.drop i).take n)

/-! ### Keys -/

/-- The "escrow changed" event (R251). -/
def Blk.escrowChanged (b : Blk) : Blk := b.report { code := 0x6803 }

/-- A new KEK replaces the old one; an export transfer that is open is aborted (R250, R260). -/
def Blk.putKek (b : Blk) (key : BitVec 256) : Blk :=
  let changed := b.damask.kek != some key
  let close (x : Option Bulk) : Option Bulk := x.bind fun k => if !k.write && k.od == odKey 0x6820 0x03 then none else some k
  let b1 := ((b.onDamask fun d => { d with kek := some key, exporting := false }).itemWrite 3)
  let b2 := (b1.onHA fun s => { s with bulk := close s.bulk }).onHB fun s => { s with bulk := close s.bulk }
  if changed then b2.escrowChanged else b2

/-- The object of OD 0x6820.01 applied: 32 B (R250). -/
def Blk.applyKek (b : Blk) (bytes : List Byte) : Blk × Nat :=
  if bytes.length ≠ 32 then (b, 9) else (b.putKek (packBytes 256 bytes), 0)

/-- KEY_ENCRYPTION_KEY: a bulk write of OD 0x6820.01 (R250). -/
def execKeyEncryptionKey (a : Stamp) (src : Src) (key : BitVec 256) (s : State) : Host.Outcome State Fault Refusal :=
  s.command a fun b => b.objectReq src 0x6820 0x01 (leBytes 32 key.toNat) fun c => c.applyKek (leBytes 32 key.toNat)

/-! ### Escrow -/

/-- The 48 B that the escrow blob wraps (R251). -/
def Blk.escrowPlain (b : Blk) : BitVec 384 :=
  packBytes 384 (leBytes 32 b.masterKey.toNat ++ leBytes 8 b.key.toNat ++ leBytes 2 b.damask.gen.toNat ++ List.replicate 6 0)

/-- The escrow blob (R251). -/
def Blk.escrowBlob (b : Blk) (kek : BitVec 256) : List Byte :=
  withCrc32 (leBytes 4 0x0001424B ++ leBytes 2 b.damask.gen.toNat ++ [0, 0] ++ leBytes 16 Config.serial.toNat ++ leBytes 8 (kekCheck kek).toNat
    ++ leBytes 8 (bindingCheck b.masterKey).toNat ++ leBytes 56 (Config.keyWrap kek b.escrowPlain).toNat)

/-- ESCROW_EXPORT: an Open read of OD 0x6820.03 with its Data: the blob, its length and CRC-32 (R225, R251). -/
def execEscrowExport (a : Stamp) (src : Src) (s : State) : Host.Outcome State Fault Refusal :=
  s.command a fun b => b.admitReq src { op := 7, idx := 0x6820, sub := 0x03 } fun c =>
    let st := c.checkOpenRead src 0x6820 0x03
    if (c.bulkOf src).isSome then c.bulkAnswer src 7 0x6820 0x03 0x0A
    else match c.damask.kek with
      | none => c.bulkAnswer src 7 0x6820 0x03 (if st = 0 then 0x0F else st)
      | some kek =>
        let blob := c.escrowBlob kek
        if st ≠ 0 then c.bulkAnswer src 7 0x6820 0x03 st else c.bulkAnswer src 7 0x6820 0x03 0 blob.length (crc32 blob).toNat blob

/-- Die IDs of the dies present, by die. -/
def Blk.idsPresent (b : Blk) : NMap (BitVec 64) := (b.media.dies.filter fun e => e.2.state == 1 || e.2.state == 2).map fun e => (e.1, e.2.id)

/-- The line of the binding record: format, media generation, check value, serial number, operating time, CRC-32 (R253). -/
def bindingLine (gen : BitVec 8) (check : BitVec 64) (serial : BitVec 128) (opTime : Nat) : List Byte :=
  withCrc32 (leBytes 4 0x00014442 ++ [gen] ++ List.replicate 3 0 ++ leBytes 8 check.toNat ++ leBytes 16 serial.toNat ++ leBytes 6 opTime ++ List.replicate 86 0)

/-- The lines of the die IDs: die d at byte 8 * d (R253). A die that is absent has the ID 0 there (log 103). -/
def idLine (ids : NMap (BitVec 64)) (j : Nat) : List Byte := (List.range 16).flatMap fun i => leBytes 8 (ids.getD (16 * j + i) 0).toNat

/-- Stripe member of line j of the binding record: its slot of the metadata area follows the snapshots' (log 103). -/
def bindMem (n j : Nat) : Mem := { cls := .denim, slot := metaSlot n (ckptFirst n + 514), stripe := j / 16, m := dataMember .denim (j / 16) (j % 16) }

/-- The binding record is written with the device's own serial number and the die IDs, in 17 lines of the Denim metadata area (R253). -/
def Blk.bind (b : Blk) : Blk :=
  let ids := b.idsPresent
  let check := bindingCheck b.masterKey
  let b1 := b.onDamask fun d => { d with binding := some (d.gen, check, Config.serial, b.opTime), bindIds := ids }
  ((bindingLine b.damask.gen check Config.serial b.opTime) :: (List.range 16).map (idLine ids)).zipIdx.foldl
    (fun c x => c.putOwnLine (bindMem c.dieCount x.2) 0x0F b.damask.gen.toNat x.1) b1

/-- The import status that the checks of R252 give to a blob, 0 when they all pass, with the keys unwrapped. -/
def Blk.importCheck (b : Blk) (bytes : List Byte) : Nat × BitVec 384 :=
  if bytes.length ≠ 100 ∨ bytesAt bytes 0 4 ≠ 0x0001424B ∨ bytesAt bytes 96 4 ≠ (crc32 (bytes.take 96)).toNat then (1, 0)
  else match b.damask.kek with
    | none => (2, 0)
    | some kek =>
      if bytesAt bytes 24 8 ≠ (kekCheck kek).toNat then (2, 0)
      else match Config.keyUnwrap kek (packBytes 448 ((bytes.drop 40).take 56)) with
        | none => (3, 0)
        | some p => if b.damask.binding.map (fun x => x.2.1) = some (bindingCheck (p.setWidth 256)) then (0, p) else (4, p)

/-- The device holds M3 for its keys, its dies bound: with keys adopted or made, the boot goes on at the load of a checkpoint (R252, R254). -/
def Blk.boundNow (b : Blk) : Blk := (b.onDamask fun d => { d with state := 1 }).onModes fun m => { m with step := if m.step = 6 then 7 else m.step }

/-- An escrow blob imported (R252); an erase that runs comes first (R260). -/
def Blk.applyEscrow (b : Blk) (bytes : List Byte) : Blk × Nat :=
  if b.damask.erase.isSome then (b, 0x0A)
  else if b.damask.state ≠ 2 then (b.odSet 0x6820 0x04 5, 0x0F)
  else
    let r := b.importCheck bytes
    let b1 := b.odSet 0x6820 0x04 r.1
    if r.1 ≠ 0 then (b1, 0)
    else
      let gen : BitVec 8 := r.2.extractLsb' 320 8
      let b2 := b1.onDamask fun d => { d with mkey := some (r.2.setWidth 256), k := some (r.2.extractLsb' 256 64), gen := gen }
      let b3 := ((b2.itemWrite 3).bind.boundNow).report { code := 0x6805 }
      (if b.damask.gen = gen then b3 else b3.escrowChanged, 0)

/-- ESCROW_IMPORT: a bulk write of OD 0x6820.03 (R252). -/
def execEscrowImport (a : Stamp) (src : Src) (blob : List Byte) (s : State) : Host.Outcome State Fault Refusal :=
  s.command a fun b => b.objectReq src 0x6820 0x03 blob fun c => c.applyEscrow blob

/-! ### The alarm table's actions (R249) -/

/-- A region's lock and count are cleared. -/
def Blk.unlockRegion (b : Blk) (src : Src) (r : Nat) : Blk :=
  (b.onDamask fun d => { d with alarm := d.alarm.del r, locks := d.locks.filter fun x => x != r }).wrote src 0x6810 0x05 0

/-- A region's count is cleared; its lock stands. -/
def Blk.resetCount (b : Blk) (src : Src) (r : Nat) : Blk :=
  (b.onDamask fun d => { d with alarm := match d.alarm.find r with
    | some (_, true) => d.alarm.put r (0, true)
    | _ => d.alarm.del r }).wrote src 0x6810 0x06 0

/-- UNLOCK_REGION: a write of OD 0x6810.05 (R249). -/
def execUnlockRegion (a : Stamp) (src : Src) (r : BitVec 32) (s : State) : Host.Outcome State Fault Refusal :=
  s.command a fun b => b.writeReq src 0x6810 0x05 (leBytes 4 r.toNat) fun v c => c.unlockRegion src v

/-- RESET_REGION_COUNT: a write of OD 0x6810.06 (R249). -/
def execResetRegionCount (a : Stamp) (src : Src) (r : BitVec 32) (s : State) : Host.Outcome State Fault Refusal :=
  s.command a fun b => b.writeReq src 0x6810 0x06 (leBytes 4 r.toNat) fun v c => c.resetCount src v

/-! ### The tag cache and re-key passes -/

/-- TAG_WRITEBACK: from 3,072 dirty tag lines on, tag lines are written back by the cold path, least recently used first, until fewer are dirty (R247). -/
def execTagWriteback (a : Stamp) (s : State) : Host.Outcome State Fault Refusal :=
  s.command a fun b =>
    if b.works then ((b.damask.dirtyTags.take (b.damask.dirtyTags.length - 3071)).foldl (fun c ti => c.startTag ti) b).drive else b

/-- Tag lines of a region: 1,024 groups. -/
def regionTags (r : Nat) : List Nat := (List.range 1024).map fun i => r * 1024 + i

/-- The group has a line whose next cold write MAJOR can no longer serve (R246). -/
def Blk.groupExhausted (b : Blk) (ti : Nat) : Bool := (b.tagLine ti).major == BitVec.allOnes 24 && (List.range 16).any fun i => (b.tagLine ti).minorAt i == 63

/-- Highest EPOCH among a region's tag lines. -/
def Blk.topEpoch (b : Blk) (r : Nat) : Nat := (regionTags r).foldl (fun m ti => max m (b.tagLine ti).epoch.toNat) 0

/-- The group that a pass takes next: one that is exhausted, else the first not yet at the new EPOCH. -/
def Blk.rekeyNext (b : Blk) (r e : Nat) : Option Nat :=
  let left := (regionTags r).filter fun ti => (b.tagLine ti).epoch.toNat != e
  match left.find? fun ti => b.groupExhausted ti with
  | some ti => some ti
  | none => left.head?

/-- A re-encryption of a group of a region is due or runs. -/
def Blk.regrouping (b : Blk) (r : Nat) : Bool :=
  (b.damask.groups.any fun x => x.1 / 1024 == r) || b.twill.jobs.any fun e => match e.2.work with
    | .group ti _ _ => ti / 1024 == r
    | _ => false

/-- A pass goes on by one group, which is due once the one before it is on media; with none left it has ended (R246). -/
def Blk.rekeyGroup (b : Blk) (r e : Nat) : Blk :=
  if b.regrouping r then b.drive
  else match b.rekeyNext r e with
    | some ti => (b.onDamask fun d => { d with groups := d.groups ++ [(ti, some e, [])] }).drive
    | none => (b.onDamask fun d => { d with rekey := d.rekey.del r }).bump 0x6800 0x07 1

/-- Groups of a region that are exhausted and cannot be re-keyed are pinned to the hot path, with one warning each (R246). -/
def Blk.pinGroups (b : Blk) (r : Nat) : Blk :=
  ((regionTags r).filter fun ti => b.groupExhausted ti && !b.damask.pinned.contains ti).foldl (fun c ti =>
    (c.onDamask fun d => { d with pinned := insUniq ti d.pinned }).report { code := 0x6806, cls := 8, unit := BitVec.ofNat 16 r, dpa := some (dpaOfLine (ti * 16)) }) b

/-- REKEY_PASS: a region with an exhausted group is re-keyed under the next EPOCH, at most 4 regions at once, one group for each command; a region at EPOCH 255 has its exhausted groups pinned (R246). -/
def execRekeyPass (a : Stamp) (r : Nat) (s : State) : Host.Outcome State Fault Refusal :=
  s.command a fun b =>
    if !b.works then b
    else match b.damask.rekey.find r with
      | some e => b.rekeyGroup r e
      | none =>
        if !(regionTags r).any fun ti => b.groupExhausted ti then b
        else if b.topEpoch r = 255 then b.pinGroups r
        else if 4 ≤ b.damask.rekey.length then b
        else
          let e := b.topEpoch r + 1
          (b.onDamask fun d => { d with rekey := d.rekey.put r e }).rekeyGroup r e

end Sys2Proof.Machine
end

