-- ==== Sys2Proof/Machine/Objects.lean ====
section
/-! DEFINITION. The BLOB entries of the dictionary: the directory (R264), the histogram export (R131), the calibration set with its import (R133, R135), the Canvas log (R339), Linen's records (R371), the keys (R250, R266, R287) and the escrow blob (R251); what an Open read returns and what a Close applies. -/

namespace Sys2Proof.Machine

/-! ### The directory -/

/-- The descriptor of subindex 0x00, the REC itself (R262, R264). -/
def recDescriptor (idx : Nat) : List Byte := leBytes 2 idx ++ [0, 0x0A, 1, 0, 0, 0] ++ leBytes 4 0

/-- A descriptor of an entry (R264): one that is never written has no write level, transport or mode. -/
def odDescriptor (idx : Nat) (r : OdRow) : List Byte :=
  let w := decide (r.wlevel < 3)
  leBytes 2 idx ++ leBytes 1 r.sub ++ leBytes 1 (odTypeCode r.ty) ++ leBytes 1 (odAccCode r.acc) ++ leBytes 1 (r.rlevel + if w then 4 * r.wlevel else 0)
    ++ leBytes 1 (if w then r.trans else 0) ++ [0] ++ leBytes 2 (odTypeLen r.ty) ++ leBytes 2 (if w then entryModes idx r.sub else 0)

/-- The descriptors of an index, ascending. -/
def indexDescriptors (idx : Nat) : List (List Byte) := match odHighest idx with
  | none => []
  | some n => recDescriptor idx :: (List.range n).filterMap fun i => (odRow? idx (i + 1)).map (odDescriptor idx)

/-- The directory, OD 0x1010.01 (R264). -/
def directoryBlob : List Byte :=
  let ds := (List.range 0xA142).flatMap indexDescriptors
  withCrc32 (leBytes 4 0x00014454 ++ leBytes 2 ds.length ++ List.replicate 10 0 ++ ds.flatten)

/-! ### Gauze's objects -/

/-- A cell in its 16 B (R116). -/
def GCell.bytes (c : GCell) : List Byte :=
  leBytes 16 (c.last + c.evals <<< 32 + c.signs.toNat <<< 44 + b2n c.half <<< 48 + c.state <<< 49 + c.reads % 8192 <<< 51 + c.below <<< 64 + c.above <<< 80
    + c.cbar <<< 96 + sEnc 16 c.offset <<< 112)

/-- The mean of a die's newest temperatures, in 1/64 °C (R131). -/
def Blk.meanTemp (b : Blk) (d n : Nat) : Int :=
  let l := (b.gauze.temps.getD d []).take n
  if l.isEmpty then 4 * b.dieTemp d else roundDiv (4 * l.foldl (fun t v => t + v) 0) l.length

/-- A die's block of the histogram export (R131): the mean temperatures of 24 h and 7 days, and c0 and β of a valid fit. -/
def Blk.dieBlock (b : Blk) (d : Nat) : List Byte :=
  let x := b.die d
  leBytes 8 x.id.toNat ++ leBytes 1 d ++ leBytes 1 x.band ++ leBytes 2 (sEnc 16 (b.meanTemp d 144)) ++ leBytes 2 (sEnc 16 (b.meanTemp d 1008))
    ++ leBytes 2 (((b.gauze.fit.find d).bind Fit.c0).getD 0xFFFF) ++ leBytes 2 (((b.gauze.fit.find d).map Fit.beta).getD 0) ++ leBytes 4 (min (b.refreshAge d) (2 ^ 32 - 1)) ++ List.replicate 10 0
    ++ ((List.range 192).flatMap fun i => (b.gauze.cells.getD (d * 192 + i) { offset := b.seedOffset d (i / 12) (i / 3 % 4) (i % 3) }).bytes)
    ++ ((List.range 96).flatMap fun i => leBytes 4 (b.gauze.hist.getD (d * 96 + i) 0))

/-- Dies in use, ascending. -/
def Blk.diesInUse (b : Blk) : List Nat := (b.media.dies.filter fun e => e.2.state == 1).map Prod.fst

/-- The histogram export, OD 0x5010.01 (R131). -/
def Blk.histogramBlob (b : Blk) : List Byte :=
  let ds := b.diesInUse
  withCrc32 (leBytes 4 0x00014847 ++ leBytes 6 b.opTime ++ leBytes 2 ds.length ++ List.replicate 20 0 ++ ds.flatMap b.dieBlock)

/-- A die record read from 64 B. -/
def readDie (l : List Byte) : DieCal :=
  { dieId := BitVec.ofNat 64 (bytesAt l 0 8), flags := BitVec.ofNat 16 (bytesAt l 10 2), off := (List.range 12).map fun i => sDec 16 (bytesAt l (12 + 2 * i) 2),
    nu := (List.range 3).map fun i => bytesAt l (36 + 2 * i) 2, theta := bytesAt l 42 2, chi := sDec 16 (bytesAt l 44 2) }

/-- Die records of an imported set whose die ID is that of the die present at their channel and die number (R135). -/
def Blk.calMatches (b : Blk) (l : List Byte) : List (Nat × DieCal) :=
  (List.range 256).filterMap fun i =>
    let r := (l.drop (64 + 64 * i)).take 64
    let k := readDie r
    let d := 8 * bytesAt r 8 1 + bytesAt r 9 1
    if k.dieId ≠ 0 ∧ d < 256 ∧ bytesAt r 9 1 < 8 ∧ (b.die d).id = k.dieId then some (d, k) else none

/-- A swap takes place within a pause of acceptance: the pause and its longest, the commits, the commit's time, the last result, and the epoch (R276, R277). -/
def Blk.swapped (b : Blk) (pauseNs : Nat) : Blk :=
  ((((((b.odSet 0x1200 0x0A pauseNs).odSet 0x1200 0x0B (max (b.cfg 0x1200 0x0B) pauseNs)).bump 0x1200 0x08 1).odSet 0x1200 0x0E b.opTime).odSet 0x1200 0x05 0).tw 112 pauseNs).onMuslin
    fun m => { m with epoch := !m.epoch }

/-- No request that was accepted under the epoch before the present one is outstanding (R274). -/
def Blk.epochClear (b : Blk) : Bool := b.path.acc.all fun x => x.epoch == b.muslin.epoch

/-- A commit may be applied now, in M3, M4, M7, M8 or M9 (R274). -/
def Blk.applyOpen (b : Blk) : Bool := [3, 4, 7, 8, 9].contains b.eff && b.epochClear

/-- An accepted import is applied as one commit of its own, at once, pausing acceptance as any apply does for at most 2 µs (R19, R135): matching die records, and the trims when the serial number is the device's. The pause is an open value (log 94). The set waits for Felt (R279). -/
def Blk.calImport (b0 : Blk) (l : List Byte) : Blk :=
  let b := (b0.useFree.swapped (b0.freeNum % 2001)).report { code := 0x1201 }
  let ds := b.calMatches l
  let own := bytesAt l 8 16 == Config.serial.toNat
  let lost := !b.gauze.calPresent
  let b1 := b.keepCal.onGauze fun g =>
    { g with cal := ds.foldl (fun c e => c.put e.1 e.2) (if lost then (List.range 256).map fun d => (d, b.dieCal d) else g.cal),
             work := ds.foldl (fun c e => c.put e.1 e.2) (if lost then (List.range 256).map fun d => (d, b.dieCal d) else g.work), calSeq := g.calSeq + 1, calPresent := true,
             trims := if own then (List.range 16).foldl (fun t i => t.put i (sDec 16 (bytesAt l (16448 + 8 * i) 2), bytesAt l (16450 + 8 * i) 2)) g.trims
               else if lost then (List.range 16).map fun i => (i, ((0 : Int), 32768)) else g.trims,
             ircTrim := if own then some ((bytesAt l 16576 2 : Int) :: (((List.range 4).map fun i => sDec 16 (bytesAt l (16578 + 2 * i) 2)) ++ [(bytesAt l 16586 2 : Int)]))
               else if lost then some (List.replicate 6 0) else g.ircTrim }
  ((b1.onMuslin fun m => { m with calQueued := true }).odSet 0x5080 0x02 ((if own then 17 else 0) * 65536 + ds.length)).report { code := 0x5004 }

/-- The object of OD 0x5080.01 applied: refused in the import status without the write enable, for its format or its CRC; held while the host's set is being checked or applied, and while no apply may take place (R135, R274, R289). -/
def Blk.applyCal (b : Blk) (l : List Byte) : Blk × Nat :=
  if b.gauze.calOpen.isNone || !b.nvwp then (b.odSet 0x5080 0x02 0x03000000, 0)
  else if l.length ≠ 16596 ∨ bytesAt l 0 4 ≠ 0x00014C43 then (b.odSet 0x5080 0x02 0x01000000, 0)
  else if bytesAt l 16592 4 ≠ (crc32 (l.take 16592)).toNat then (b.odSet 0x5080 0x02 0x02000000, 0)
  else if 2 ≤ b.muslin.state ∨ !b.applyOpen then (b.onMuslin fun m => { m with importWait := some l }, 0)
  else (b.calImport l, 0)

/-- CALIBRATION_IMPORT: a bulk write of OD 0x5080.01 (R135). -/
def execCalibrationImport (a : Stamp) (src : Src) (blob : List Byte) (s : State) : Host.Outcome State Fault Refusal :=
  s.command a fun b => b.objectReq src 0x5080 0x01 blob fun c => c.applyCal blob

/-- Every histogram is cleared (R131). -/
def Blk.clearHistograms (b : Blk) (src : Src) : Blk := (b.onGauze fun g => { g with hist := [] }).wrote src 0x5010 0x02 0

/-- HISTOGRAM_CLEAR: a write of OD 0x5010.02 (R131). -/
def execHistogramClear (a : Stamp) (src : Src) (s : State) : Host.Outcome State Fault Refusal :=
  s.command a fun b => b.writeReq src 0x5010 0x02 [1] fun _ c => c.clearHistograms src

/-! ### The maintenance key and the frame MAC key -/

/-- The object of OD 0x1210.05 applied: 32 B, kept in Felt (R266). -/
def Blk.applyMaintKey (b : Blk) (l : List Byte) : Blk × Nat :=
  if l.length ≠ 32 then (b, 9) else ((b.onFelt fun f => { f with maintKey := some (packBytes 256 l) }).itemWrite 3, 0)

/-- The object of OD 0x1230.06 applied: 32 B, and a new boot nonce (R287); refused while Felt protects the key blobs (R379). -/
def Blk.applyMacKey (b : Blk) (l : List Byte) : Blk × Nat :=
  if l.length ≠ 32 then (b, 9)
  else if b.feltProtected 2 then (b.feltRefused, 0x0E)
  else (((b.onCan fun c => { c with macKey := some (packBytes 256 l) }).newNonce).itemWrite 3, 0)

/-- MAINTENANCE_KEY: a bulk write of OD 0x1210.05 (R266). -/
def execMaintenanceKey (a : Stamp) (src : Src) (key : BitVec 256) (s : State) : Host.Outcome State Fault Refusal :=
  s.command a fun b => b.objectReq src 0x1210 0x05 (leBytes 32 key.toNat) fun c => c.applyMaintKey (leBytes 32 key.toNat)

/-- FRAME_MAC_KEY: a bulk write of OD 0x1230.06 (R287). -/
def execFrameMacKey (a : Stamp) (src : Src) (key : BitVec 256) (s : State) : Host.Outcome State Fault Refusal :=
  s.command a fun b => b.objectReq src 0x1230 0x06 (leBytes 32 key.toNat) fun c => c.applyMacKey (leBytes 32 key.toNat)

/-! ### The Canvas log, and all objects -/

/-- A record of the Canvas log: power cycle, operating time, code, slot, reading, drops, secondary faults, mode, flags (R339). -/
def canvasRecord (r : List Nat) : List Byte :=
  withCrc32 (leBytes 4 (r.getD 0 0) ++ leBytes 6 (r.getD 1 0) ++ leBytes 1 (r.getD 2 0) ++ leBytes 1 (r.getD 3 0) ++ leBytes 2 (r.getD 4 0) ++ leBytes 1 (r.getD 5 0)
    ++ leBytes 1 (r.getD 6 0) ++ leBytes 1 (r.getD 7 0) ++ leBytes 1 (r.getD 8 0) ++ List.replicate 10 0)

/-- The object that an Open read of a BLOB entry returns; of the KEK its check value only (R261). -/
def Blk.objectOf (b : Blk) (t idx sub : Nat) : List Byte :=
  match idx, sub with
  | 0x1010, 0x01 => directoryBlob
  | 0x5010, 0x01 => b.histogramBlob
  | 0x5080, 0x01 => b.calBlob
  | 0x6820, 0x01 => leBytes 8 ((b.damask.kek.map fun k => (kekCheck k).toNat).getD 0)
  | 0x6820, 0x03 => (b.damask.kek.map b.escrowBlob).getD []
  | 0x7000, 0x08 => b.felt.canvasLog.reverse.flatMap canvasRecord
  | 0x8000, 0x05 => b.recordsBlob t
  | _, _ => []

/-- A completed object is applied as its entry states; answers the status of its Close. -/
def Blk.objectApply (b : Blk) (idx sub : Nat) (l : List Byte) : Blk × Nat :=
  match idx, sub with
  | 0x1210, 0x05 => b.applyMaintKey l
  | 0x1230, 0x06 => b.applyMacKey l
  | 0x5080, 0x01 => b.applyCal l
  | 0x6820, 0x01 => b.applyKek l
  | 0x6820, 0x03 => b.applyEscrow l
  | _, _ => (b, 2)

end Sys2Proof.Machine
end

