-- ==== Sys2Proof/Machine/Regions.lean ====
section
/-! DEFINITION. Dynamic Capacity regions: the Add, Release and forced release actions, offers and their answers, the teardown of a region (R214, R216, R217), and the mailbox commands about them (R221). -/

namespace Sys2Proof.Machine

/-- Bytes of a 2 MiB unit. -/
def unitBytes : Nat := 2097152

/-- Index that a region takes at a head, none when it is not for that head. -/
def Rgn.idx (g : Rgn) : Head → Option Nat
  | .A => g.idxA
  | .B => g.idxB

/-- The region with a new state at a head; offered or added, the head counts among those it was ever at. -/
def Rgn.put (g : Rgn) (h : Head) (v : RgnState) : Rgn :=
  let ever := v == .offered || v == .added
  match h with
  | .A => { g with stA := v, everA := g.everA || ever }
  | .B => { g with stB := v, everB := g.everB || ever }

/-- The region is offered or added at a head. -/
def Rgn.stands (g : Rgn) (h : Head) : Bool := g.at h == .offered || g.at h == .added

/-- The region was offered or added at a head since it was made. -/
def Rgn.ever (g : Rgn) : Head → Bool
  | .A => g.everA
  | .B => g.everB

/-- A region by its number. -/
def Blk.rgn (b : Blk) (id : Nat) : Option Rgn := b.dev.rgns.find? fun g => g.id == id

/-- Changes a region. -/
def Blk.onRgn (b : Blk) (id : Nat) (f : Rgn → Rgn) : Blk :=
  b.onDev fun d => { d with rgns := d.rgns.map fun g => if g.id == id then f g else g }

/-- A Dynamic Capacity record reaches the logs of some heads: 0 Add Capacity, 1 Release Capacity, 2 Forced Capacity Removal, 3 Region Configuration Updated, with the extent (R216, R217, R226, R227). -/
def Blk.dcRecord (b : Blk) (type : Nat) (g : Rgn) (hs : List Head) : Blk :=
  let e : EvRec := { handle := 0, code := 0, sev := 0, cls := 8, unit := BitVec.ofNat 16 (g.base / unitBytes), dpa := some g.base, hpa := none, storm := 0, second := 0,
                     linen := 0, stamp := b.timestamp, kind := 3,
                     data := leBytes 1 type ++ leBytes 8 g.base ++ leBytes 8 g.length ++ leBytes 8 g.tag.toNat ++ leBytes 2 0 }
  hs.foldl (fun b h => b.logTo h .dynamicCapacity e) b

/-- Event of a region (R372). -/
def Blk.rgnEvent (b : Blk) (code : BitVec 16) (g : Rgn) : Blk := b.reportUnit code 8 (g.base / unitBytes % 65536) (some g.base)

/-! ### Add (R216) -/

/-- Bytes below which every region lies (R214). -/
def Blk.dpaLimit (b : Blk) : Nat := min (capacityUnits b.dieCount * unitBytes) (2 ^ 43)

/-- A DPA range touches no region and lies below the limit. -/
def Blk.rangeFree (b : Blk) (base len : Nat) : Bool :=
  decide (base + len ≤ b.dpaLimit) && b.dev.rgns.all fun g => decide (base + len ≤ g.base) || decide (g.base + g.length ≤ base)

/-- The lowest free DPA range that fits (R214): it starts at 0 or at the end of a region. -/
def Blk.lowestRange (b : Blk) (len : Nat) : Option Nat :=
  ((0 :: b.dev.rgns.map fun g => g.base + g.length).filter fun x => b.rangeFree x len).foldl (fun m x => match m with
    | none => some x
    | some y => some (min x y)) none

/-- The transport's copies of OD 0x4800.01 to .06 (R236): heads, indices, length, class and tag. -/
def Blk.addWants (b : Blk) (t : Nat) : Rgn :=
  let c (sub : Nat) := b.cfgOf t 0x4800 sub
  { id := b.dev.nextRgn + 1, base := 0, length := c 4, cls := if c 5 = 1 then .denim else .voile, tag := BitVec.ofNat 64 (c 6),
    idxA := if (c 1).testBit 0 then some (c 2) else none, idxB := if (c 1).testBit 1 then some (c 3) else none, shared := c 1 == 3 }

/-- The heads that a region is for. -/
def Rgn.heads (g : Rgn) : List Head := [Head.A, Head.B].filter fun h => (g.idx h).isSome

/-- The region indices of a region. -/
def Rgn.units (g : Rgn) : List Nat := (List.range (g.length / unitBytes)).map fun i => g.base / unitBytes + i

/-- A translation region takes a least-worn free slot of its class. -/
def Blk.takeRegionSlot (b : Blk) (c : Cls) (r : Nat) : Option Blk :=
  (b.leastFree c).map fun x => (b.useFree.setSlot x.1 { use := .region, wear := BitVec.ofNat 18 x.2 }).putRegion r { slot := BitVec.ofNat 22 x.1, cls := c, wear := BitVec.ofNat 18 x.2 }

/-- A translation region gets a slot of its class, a least-worn one (log 77), and its map entry (R52, R55). -/
def Blk.takeUnit (c : Cls) (b : Option Blk) (r : Nat) : Option Blk := b.bind fun b => (b.widen c).takeRegionSlot c r

/-- The slots and map entries of a region at the lowest range that fits it; none when no slots are left. -/
def Blk.takeUnits (b : Blk) (g : Rgn) : Option Blk := ({ g with base := (b.lowestRange g.length).getD 0 } : Rgn).units.foldl (Blk.takeUnit g.cls) (some b)

/-- Status of an Add's check, 0 when it passes (R216 step 1, R236). -/
def Blk.addCheck (b : Blk) (g : Rgn) : Nat :=
  let units := g.length / unitBytes
  if g.heads = [] then 7
  else if g.length = 0 ∨ g.length % unitBytes ≠ 0 then 5
  else if 17 * capacityUnits b.dieCount < b.allocated17 + regionPositions g.cls units then 2
  else if g.heads.any fun h => (b.rgnAt h ((g.idx h).getD 0)).isSome then 4
  else if (b.lowestRange g.length).isNone then 3
  else if (b.takeUnits g).isNone then 2
  else 0

/-- An Add or Release action has not ended (R217). -/
def Blk.regionBusy (b : Blk) : Bool := b.dev.adding.isSome || b.dev.releasing.isSome

/-- The region of an Add that passed its check is made, its slots and map entries set up, and marked offered at each named head (R52, R55, R216 step 2). -/
def Blk.makeRegion (b : Blk) (g : Rgn) : Blk :=
  let g1 := g.heads.foldl (fun g h => g.put h .offered) { g with base := (b.lowestRange g.length).getD 0 }
  let b1 := (b.takeUnits g).getD b
  let slots := g1.units.map fun r => ((b1.regionEntry r).map fun e => e.slot.toNat).getD 0
  b1.onDev fun d => { d with rgns := d.rgns ++ [{ g1 with slots := slots }], nextRgn := g1.id, adding := some g1.id }

/-- The Add action (R216, R217): busy, refused in OD 0x4800.09, or begun. -/
def Blk.addAction (b : Blk) (src : Src) : Blk :=
  if b.regionBusy then (b.odSet 0x4800 0x09 1).wrote src 0x4800 0x07 0x0A
  else
    let g := b.addWants (transOf src)
    let st := b.addCheck g
    ((if st = 0 then b.makeRegion g else b).odSet 0x4800 0x09 st).wrote src 0x4800 0x07 0

/-- ADD: a write of OD 0x4800.07 (R216). -/
def execAdd (a : Stamp) (src : Src) (s : State) : Host.Outcome State Fault Refusal :=
  s.command a fun b => b.writeReq src 0x4800 0x07 [1] fun _ c => c.addAction src

/-- ADD_CAPACITY_OFFER: the slots are allocated; each named head gets its Add Capacity record and its offer, and the action has reached step 3 (R216, R217). -/
def execAddCapacityOffer (a : Stamp) (s : State) : Host.Outcome State Fault Refusal :=
  s.command a fun b =>
    match b.dev.adding.bind fun id => b.rgn id with
    | none => b
    | some g =>
      let b1 := b.onDev fun d => { d with adding := none }
      (g.heads.foldl (fun b h => b.onHead h fun x => { x with offers := x.offers ++ [(g.id, b.now)] }) b1).dcRecord 0 g g.heads

/-! ### Offers -/

/-- An offer at a head is rejected or withdrawn; a region that stands at no head is released at once (R216, R217). -/
def Blk.withdraw (b : Blk) (h : Head) (id : Nat) : Blk :=
  (b.onHead h fun x => { x with offers := x.offers.filter fun o => o.1 != id }).onRgn id fun g => g.put h .free

/-- A head accepts its oldest offer (R216 step 4). -/
def Blk.takeOffer (b : Blk) (h : Head) (g : Rgn) : Blk :=
  ((b.onHead h fun x => { x with offers := x.offers.filter fun o => o.1 != g.id }).onRgn g.id fun g => g.put h .added).rgnEvent 0x4801 g

/-- ADD_DYNAMIC_CAPACITY_RESPONSE: the reply answers the oldest offer pending at its head (R216, R234). -/
def execAddDynamicCapacityResponse (a : Stamp) (h : Head) (extents : List (Nat × Nat)) (s : State) : Host.Outcome State Fault Refusal :=
  s.command a fun b => b.mbox h fun b =>
    match (b.head h).offers.head?.bind fun o => b.rgn o.1 with
    | none => b.mbReply h 0x4802 .invalidExtentList []
    | some g => match extents with
      | [] => (b.withdraw h g.id).mbReply h 0x4802 .success []
      | [(base, len)] => if base = g.base ∧ len = g.length then (b.takeOffer h g).mbReply h 0x4802 .success [] else b.mbReply h 0x4802 .invalidExtentList []
      | _ => b.mbReply h 0x4802 .invalidExtentList []

/-- ADD_RESPONSE_TIMEOUT: offers of a head older than OD 0x4800.0A are withdrawn (R216 step 5). -/
def execAddResponseTimeout (a : Stamp) (h : Head) (s : State) : Host.Outcome State Fault Refusal :=
  s.command a fun b =>
    ((b.head h).offers.filter fun o => decide (o.2 + 1000000 * b.cfg 0x4800 0x0A ≤ b.now)).foldl (fun c o => c.withdraw h o.1) b

/-! ### Release (R217) -/

/-- Requests at a head's ingress whose region is no longer added there fail the capacity check (R213, R234). -/
def Blk.expel (b : Blk) (h : Head) : Blk :=
  ((b.head h).ingress.filter fun r => !b.hasCapacity h r.dpa).foldl (fun b r =>
    let b1 := (b.onHead h fun s => { s with ingress := s.ingress.filter fun q => q.seq != r.seq }).onPath fun p => { p with tickets := p.tickets.filter fun t => t != r.ticket }
    (b1.failCheck h 0x2004 0x0C r.hpa (some r.dpa)).refuse h r.kind r.tag) b

/-- A region is released at a head: it is releasing when it stands at no other head. -/
def Blk.releaseAt (b : Blk) (h : Head) (id : Nat) : Blk :=
  (b.onRgn id fun g => g.put h (if g.stands (otherHead h) then .free else .releasing)).expel h

/-- The region added at a head whose whole extent is named. -/
def Blk.wholeExtent (b : Blk) (h : Head) (x : Nat × Nat) : Option Rgn :=
  b.dev.rgns.find? fun g => g.at h == .added && g.base == x.1 && g.length == x.2

/-- RELEASE_DYNAMIC_CAPACITY: each extent names a whole region added at the head, else nothing is changed (R217). An empty list is invalid. -/
def execReleaseDynamicCapacity (a : Stamp) (h : Head) (extents : List (Nat × Nat)) (s : State) : Host.Outcome State Fault Refusal :=
  s.command a fun b => b.mbox h fun b =>
    if extents = [] then b.mbReply h 0x4803 .invalidInput []
    else
      let gs := extents.filterMap fun x => b.wholeExtent h x
      if gs.length = extents.length then (gs.foldl (fun c g => c.releaseAt h g.id) b).mbReply h 0x4803 .success []
      else b.mbReply h 0x4803 .invalidExtentList []

/-- The region that a release action names by OD 0x4800.01 to .03: the one that stands at the index of each named head. -/
def Blk.namedRegion (b : Blk) (t : Nat) : Option Rgn :=
  let w := b.addWants t
  match w.heads.map fun h => b.rgnAt h ((w.idx h).getD 0) with
  | [some g] => some g
  | [some g, some k] => if g.id = k.id then some g else none
  | _ => none

/-- A release action: busy, no head named, no such region, or done on the region (R217, R236). -/
def Blk.releaseAction (b : Blk) (src : Src) (sub : Nat) (f : Blk → Rgn → Blk) : Blk :=
  if b.regionBusy then (b.odSet 0x4800 0x09 1).wrote src 0x4800 sub 0x0A
  else if (b.addWants (transOf src)).heads = [] then (b.odSet 0x4800 0x09 7).wrote src 0x4800 sub 0
  else match b.namedRegion (transOf src) with
    | none => (b.odSet 0x4800 0x09 6).wrote src 0x4800 sub 0
    | some g => ((f b g).odSet 0x4800 0x09 0).wrote src 0x4800 sub 0

/-- The device asks the hosts for a release. -/
def Blk.askRelease (b : Blk) (g : Rgn) : Blk := b.dcRecord 1 g ([Head.A, Head.B].filter fun h => g.at h == .added)

/-- A forced release: its record at each head, offers withdrawn, and the region releasing everywhere. -/
def Blk.forceRelease (b : Blk) (g : Rgn) : Blk :=
  let hs := [Head.A, Head.B].filter fun h => g.stands h
  let b1 := (b.dcRecord 2 g hs).rgnEvent 0x4803 g
  let b2 := hs.foldl (fun b h => (b.onHead h fun x => { x with offers := x.offers.filter fun o => o.1 != g.id }).onRgn g.id fun g => g.put h .releasing) b1
  ((b2.onDev fun d => { d with releasing := some g.id }).expel .A).expel .B

/-- RELEASE_REQUEST: a write of OD 0x4800.08 (R217). -/
def execReleaseRequest (a : Stamp) (src : Src) (s : State) : Host.Outcome State Fault Refusal :=
  s.command a fun b => b.writeReq src 0x4800 0x08 [1] fun _ c => c.releaseAction src 0x08 Blk.askRelease

/-- FORCED_RELEASE: a write of OD 0x4800.0B (R217). -/
def execForcedRelease (a : Stamp) (src : Src) (s : State) : Host.Outcome State Fault Refusal :=
  s.command a fun b => b.writeReq src 0x4800 0x0B [1] fun _ c => c.releaseAction src 0x0B Blk.forceRelease

/-! ### Teardown (R217 steps 1 to 7) -/

/-- A line lies in a region. -/
def Rgn.hasLine (g : Rgn) (li : Nat) : Bool := decide (g.base ≤ dpaOfLine li) && decide (dpaOfLine li < g.base + g.length)

/-- Step 2: the region's lines leave Velvet and the holding buffers, dirty ones included; barriers no longer wait for them. -/
def Blk.dropRegionLines (b : Blk) (g : Rgn) : Blk :=
  let b1 := b.onVelvet fun v => { v with ways := v.ways.filter fun e => !g.hasLine (e.2.lineAt e.1), bufs := v.bufs.filter fun e => !g.hasLine e.2.li }
  let b2 := b1.onPath fun p => { p with
    barriers := p.barriers.map fun x => { x with lines := x.lines.filter fun li => !g.hasLine li }
    deeps := p.deeps.filter fun d => !g.hasLine d.li
    fills := p.fills.filter fun e => !g.hasLine e.1 }
  b2.onTwill fun t => { t with jobs := t.jobs.map fun e => (e.1, { e.2 with deep := e.2.deep.filter fun li => !g.hasLine li }) }

/-- Step 3: the region's hot entries are cleared, each copy counted invalid; so is a copy whose entry switch still waits. Ways kept for lines of the region are free again (R65). -/
def Blk.dropRegionHot (b : Blk) (g : Rgn) : Blk :=
  let b1 := (b.twill.hot.filter fun e => g.hasLine e.2.li).foldl (fun c e => ((c.invalidate e.2).clearHot e.1).onTwill fun t =>
    { t with demote := t.demote.del e.2.li, gatherD := t.gatherD.filter fun x => x.1 != e.2.li }) b
  let wasted (why : ProgFor) (c : Blk) : Blk := match why with
    | .append _ slot stripe _ => c.wasteCopy slot stripe
    | .writeThrough _ slot stripe _ => c.wasteCopy slot stripe
    | .copy _ slot stripe _ => c.wasteCopy slot stripe
    | _ => c
  let b2 := (b1.media.switchDue.filter fun e => g.hasLine e.1).foldl (fun c e => wasted e.2.1 c) b1
  (b2.onMedia fun m => { m with switchDue := m.switchDue.filter fun e => !g.hasLine e.1 }).onTwill fun t =>
    { t with wants := t.wants.filter (fun e => !g.hasLine e.1), reserve := t.reserve.filter (fun e => !g.hasLine e.2),
             demote := t.demote.map fun e => (e.1, { e.2 with forLi := e.2.forLi.filter fun li => !g.hasLine li }) }

/-- Step 4 for one tag line: TAG and MINOR 0, MAJOR + 1; MAJOR used up goes to 0 under EPOCH + 1; with EPOCH used up the group is pinned (R246). -/
def Blk.clearTagLine (b : Blk) (ti : Nat) : Blk :=
  let t := b.tagLine ti
  let put (e : BitVec 8) (m : BitVec 24) (c : Blk) : Blk := (c.putTag ti { epoch := e, major := m }).flushTag ti
  if t.major ≠ BitVec.allOnes 24 then put t.epoch (t.major + 1) b
  else if t.epoch ≠ 255 then put (t.epoch + 1) 0 b
  else (put t.epoch t.major b).onDamask fun d => { d with pinned := insUniq ti d.pinned }

/-- Step 4: the region's tag lines; re-key passes of it are abandoned (R260). -/
def Blk.clearRegionTags (b : Blk) (g : Rgn) : Blk :=
  let b1 := b.onDamask fun d => { d with rekey := d.rekey.filter fun e => !g.units.contains e.1 }
  g.units.foldl (fun c r => (regionTags r).foldl (fun c ti => c.clearTagLine ti) c) b1

/-- Step 6 for one translation region: its entry goes, a migration of it is abandoned, and its slot is given up. -/
def Blk.clearUnit (b : Blk) (r : Nat) : Blk :=
  match b.regionEntry r with
  | none => b
  | some e =>
    let b1 := match b.twill.mig.find r with
      | some m => b.dropMigration r m e
      | none => b
    let b2 := (b1.onTwill fun t => { t with
      regions := t.regions.del r, rot := t.rot.del r, migDue := t.migDue.filter (fun x => x != r), fresh := t.fresh.del r, resyncAt := t.resyncAt.del r
      resyncBad := t.resyncBad.filter (fun li => regionOfLine li != r), writes := t.writes.del r
      refresh := t.refresh.filter (fun x => x.1 != r), backlog := t.backlog.filter fun x => x != r }).areaNew r
    b2.giveUp e.slot.toNat e.wear.toNat

/-- Slots that the translation regions of a region use: their own, and those that migrations copy them to. -/
def Blk.rgnSlots (b : Blk) (g : Rgn) : List Nat :=
  g.units.flatMap fun r => ((b.regionEntry r).map fun e => e.slot.toNat).toList ++ ((b.twill.mig.find r).map Migration.new).toList

/-- Steps 5 to 7. -/
def Blk.freeRegion (b : Blk) (g : Rgn) : Blk :=
  let slots := b.rgnSlots g
  let b0 := ((b.media.poison.filter fun e => g.hasLine (e.1 / 2)).map Prod.fst).foldl Blk.unlistHalf b
  let b1 := b0.issueRecords.onMedia fun m => { m with
    weak := m.weak.filter (fun x => !slots.contains x.slot), owed := m.owed.filter fun x => !slots.contains x.slot }
  let b2 := g.units.foldl (fun c r => c.clearUnit r) b1
  let b3 := b2.onDev fun d => { d with rgns := d.rgns.filter (fun x => x.id != g.id), releasing := if d.releasing = some g.id then none else d.releasing }
  (b3.dcRecord 3 g ([Head.A, Head.B].filter fun h => g.ever h)).rgnEvent 0x4802 g

/-- Slots with a line that is being written, or waits for it, or with a stripe lock held (R59). -/
def Blk.slotsAtWork (b : Blk) : List Nat :=
  (b.media.parts.filterMap fun e => match e.2.op with
    | .program _ _ why _ _ _ => some why.slot
    | .verify _ _ why _ _ _ => some why.slot
    | _ => none) ++ (b.media.pend.map fun x => x.why.slot) ++ b.twill.locks.map fun e => e.1 / 1024

/-- The region is to be torn down: it stands at no head, its Add has reached step 3, no accepted request to it is open (R217), no background work is on a stripe of it, and the stripes of its tag lines are not locked (R59). -/
def Blk.tearable (b : Blk) (g : Rgn) : Bool :=
  !g.stands .A && !g.stands .B && b.dev.adding != some g.id && (b.path.acc.all fun x => x.rgn != g.id)
    && (b.rgnSlots g).all (fun n => !b.slotsAtWork.contains n) && g.units.all fun r => b.unlocked ((regionTags r).map fun ti => (b.tagPlace ti).mem.lock)

/-- REGION_TEARDOWN: the steps of R217. -/
def execRegionTeardown (a : Stamp) (rgn : Nat) (s : State) : Host.Outcome State Fault Refusal :=
  s.command a fun b =>
    match b.rgn rgn with
    | none => b
    | some g => if b.tearable g && b.works then ((((b.dropRegionLines g).dropRegionHot g).clearRegionTags g).freeRegion g).maintain.drive else b

/-! ### Mailbox reports -/

/-- One DC region of a configuration: base, decode length, length, block size, DSMAD handle and the sharable flag; length 0 while nothing is offered or added there (R214). -/
def Blk.dcConfig (b : Blk) (h : Head) (i : Nat) : List Nat :=
  match (b.rgnAt h i).filter fun g => g.stands h with
  | some g => [g.base, g.length, g.length, unitBytes, if g.cls = .denim then 1 else 0, b2n g.shared]
  | none => [0, 0, 0, unitBytes, 0, 0]

/-- What the device reports of its capacity, bytes (R35): C, the Voile and the Denim amounts allocated, and the amount of C still free, of which each byte in Denim takes 18/17. -/
def Blk.capacityReport (b : Blk) : List Nat :=
  let amount (c : Cls) : Nat := ((b.dev.rgns.filter fun g => g.cls == c).map Rgn.length).sum
  [capacityUnits b.dieCount * unitBytes, amount .voile, amount .denim, (17 * capacityUnits b.dieCount - b.allocated17) * unitBytes / 17]

/-- GET_DYNAMIC_CAPACITY_CONFIGURATION: the 8 DC regions of the head (R214), and the capacity report of R35 after them (log 84). -/
def execGetDynamicCapacityConfiguration (a : Stamp) (h : Head) (s : State) : Host.Outcome State Fault Refusal :=
  s.command a fun b => b.mbox h fun b => b.mbReply h 0x4800 .success ((8 :: (List.range 8).flatMap fun i => b.dcConfig h i) ++ b.capacityReport)

/-- GET_DYNAMIC_CAPACITY_EXTENT_LIST: the extents added at this head (R221). -/
def execGetDynamicCapacityExtentList (a : Stamp) (h : Head) (s : State) : Host.Outcome State Fault Refusal :=
  s.command a fun b => b.mbox h fun b =>
    let gs := b.dev.rgns.filter fun g => g.at h == .added
    b.mbReply h 0x4801 .success (gs.length :: gs.flatMap fun g => [g.base, g.length, g.tag.toNat])

end Sys2Proof.Machine
end

