-- ==== Sys2Proof/Machine/HoldUp.lean ====
section
/-! DEFINITION. The appending of every dirty line (R147 step 3, R320 step 3), the end of a demotion (R64, R65), and the persistence mode and dirty budget by the usable hold-up energy (R144, R145, R147). -/

namespace Sys2Proof.Machine

/-! ### The end of a demotion -/

/-- The candidate for which a demotion's way is kept: within 2 ms of its mark (R65), or a write-through write's line, which that limit does not release (R148). -/
def Blk.wayFor (b : Blk) (li : Nat) : Option Nat :=
  ((b.twill.demote.find li).bind Demotion.forLi).filter fun c => match b.twill.wants.find c with
    | some t => decide (b.now ≤ t + 2000000)
    | none => decide (0 < b.persistence)

/-- The entry of a demoted line is cleared and its copy counted invalid; the way is kept for the candidate that asked for it (R64, R65), for as long as it takes to use it: the spec sets no end (DESIGN CHOICE, log 85). -/
def Blk.endDemotion (b : Blk) (li key : Nat) (e : HotEntry) : Blk :=
  let keep := b.wayFor li
  (((b.invalidate e).clearHot key).onTwill fun t => { t with
    demote := t.demote.del li
    gatherD := t.gatherD.filter (fun x => x.1 != li)
    wants := match keep with
      | some c => t.wants.del c
      | none => t.wants
    reserve := match keep with
      | some c => t.reserve.put key c
      | none => t.reserve }).bump 0x4010 0x03 1

/-- A line stands at home and its hot entry is cleared: the home copy's tag is the line's again (R64 step 4, R242), and what waited for the record goes on. -/
def Blk.goHome (b : Blk) (li : Nat) : Blk := match b.hotFind li with
  | none => b.abandonDemotion li
  | some (k, e) =>
    let since := ((b.twill.demote.find li).map Demotion.since).getD b.now
    let b1 := (b.retag li).endDemotion li k e
    let b2 := match b1.bufOf li with
      | some (n, x) => if x.home then b1.bufferDone n else b1
      | none => b1
    if b2.path.acc.any fun x => x.stage == .program && x.line == li && x.wrote then b2.throughDone li since else b2

/-- Step 4 of a demotion, once no read holds a reservation on the line (R38, R64). -/
def Blk.commitDemotion (b : Blk) (li : Nat) : Blk := if b.lineReserved li then b else b.goHome li

/-! ### Every dirty line goes to media -/

/-- The items of a line's demotion record: its index and the hot location demoted, 22 bits of slot, 10 of stripe and 4 of position above the index, in 9 B (R82). -/
def Blk.demotionItem (b : Blk) (li : Nat) : Nat := match b.hotFind li with
  | some (_, e) => li + 2 ^ 36 * (e.hslot.toNat * 16384 + e.stripe.toNat * 16 + e.pos.toNat)
  | none => li

/-- A line goes home within one step; a hot entry is demoted by this write, with its record (R58, R64). -/
def Blk.sendHome (b : Blk) (li : Nat) (data : Line) : Blk :=
  let b1 := b.writeHomeNow li data
  if (b1.hotFind li).isSome then (b1.journalRec 0x06 [b1.demotionItem li]).goHome li else b1

/-- A line's content reaches the hot pool of its class, or home where its class has no lane or its set no way (R320 step 3). -/
def Blk.placeLine (b : Blk) (li : Nat) (data : Line) : Blk :=
  match (if (b.hotWayFor li).isSome then b.pickLane li else none) with
  | some n => b.appendNow li data n
  | none => b.sendHome li data

/-- The program or overwrite of a partition, suspended or not, ends with its line stored, and verified. -/
def Blk.endProgram (b : Blk) (pid : Nat) : Blk := (b.programEnds pid true).verifyEnds pid true

/-- Programs and overwrites that run end, and those that wait are carried out; twice, since a stripe that fills closes with further ones. -/
def Blk.endPrograms (b : Blk) : Blk :=
  let once (b : Blk) : Blk :=
    let b1 := b.media.parts.foldl (fun b e => b.endProgram e.1) b
    b1.media.pend.foldl (fun b x => (((b.onMedia fun m => { m with pend := m.pend.erase x }).storeLine x.loc x.c).countWrites x.why.slot 1).programStored x.why b.now) b1
  once (once b)

/-- Background work stops at the next line boundary (R320): a job whose lines are all on media takes effect, a re-encryption whose tag line is on media is carried through, any other job ends without effect. -/
def Blk.endJob (b : Blk) (n : Nat) : Blk := match b.twill.jobs.find n with
  | none => b
  | some j =>
    let held := match j.work with
      | .stripe _ _ _ => b.journalWait
      | _ => false
    if j.phase == .reading || j.left ≠ 0 || held then b.dropJob n
    else
      let b1 := if j.phase == .tagging then j.held.foldl (fun b x => match b.homeOf x.1 with
        | some p => b.writeNow (b.homeWrites x.1 p x.2)
        | none => b) (b.tagWritten (b.workGroup j.work)) else b
      (b1.dropJob n).jobEffect j

/-- Every job ends; a demotion whose record is on media takes effect, any other is abandoned; entry switches that waited take place. -/
def Blk.endWork (b : Blk) : Blk :=
  let b1 := b.twill.jobs.foldl (fun b e => b.endJob e.1) b
  let b2 := b1.twill.demote.foldl (fun b e => if e.2.step = 4 then b.goHome e.1 else b.abandonDemotion e.1) b1
  b2.media.switchDue.foldl (fun b e => b.applySwitch e.1 e.2.1 e.2.2) (b2.onMedia fun m => { m with switchDue := [] })

/-- The line of a holding buffer is stored and the buffer is free. -/
def Blk.flushBuf (b : Blk) (n : Nat) : Blk := match b.velvet.bufs.find n with
  | none => b
  | some x => ((b.placeLine x.li x.data).putBuf n { x with again := false }).bufferDone n

/-- The content of a line where it stands on media, if its tag passes. -/
def Blk.mediaLine (b : Blk) (li : Nat) : Option Line :=
  if b.unwritten li then some 0 else (b.lookup li).bind fun p => (if b.locLost p.loc then b.solve p [p.mem.m] else some (b.stored p.loc)).bind fun c => b.openLine li p c

/-- The whole content of a dirty way: bytes that its fill has not brought come from media; those that media cannot give are poisoned with their half. -/
def Blk.wholeLine (b : Blk) (li : Nat) (v : VWay) : Blk × Line :=
  if v.whole then (b, v.data)
  else match b.mediaLine li with
    | some old => (b, mergeBits 1024 v.mask.toNat old v.data)
    | none =>
      let lose (i : Bool) (b : Blk) : Blk := if v.wholeHalf i then b else b.listInternal (2 * li + b2n i) 0x5801
      (lose true (lose false b), v.keepWhole.data)

/-- A dirty way's line, that of a write-through write too, is stored, and the way is clean and whole; its writes complete. -/
def Blk.flushWay (b : Blk) (key : Nat) : Blk := match b.velvet.ways.find key with
  | none => b
  | some v =>
    if !v.dirty then b
    else
      let li := v.lineAt key
      let r := b.wholeLine li v
      (((r.1.placeLine li r.2).putWay key { v with dirty := false, wt := false, data := r.2, mask := BitVec.allOnes 128 }).barriersDone li b.now).completeWrites li true

/-- Every dirty line and holding buffer is stored (R147, R320, R324): what runs ends first, a buffer's older content comes before its way's. -/
def Blk.flushAll (b : Blk) : Blk :=
  let b1 := b.endPrograms.endWork
  let b2 := b1.velvet.bufs.foldl (fun b e => b.flushBuf e.1) b1
  (b2.velvet.ways.foldl (fun b e => b.flushWay e.1) b2).maintain

/-! ### The persistence mode (R145) -/

/-- The health test has failed, or the bank gives no energy (R145, R340). -/
def Blk.testFailed (b : Blk) : Bool := b.canvas.health == 2

/-- Mode that the energy and OD 0x6000.02 ask for; after an entry on energy, write-back only after the span of R145. -/
def Blk.wantedMode (b : Blk) : Nat :=
  let m := modeByEnergy b.velvet.eu b.testFailed
  let held := b.velvet.onEnergy && !(match b.velvet.span with
    | some t => decide (t + 60000000000 ≤ b.now)
    | none => false)
  let m1 := if held then max m 1 else m
  if b.cfg 0x6000 0x02 = 1 then max m1 1 else m1

/-- The mode and budget follow (R144, R145): on a change to write-through every dirty line is appended, one warning raised and OD 0x6000.06 counted (R147); on the loss of protection one failure event. -/
def Blk.applyMode (b : Blk) : Blk :=
  let old := b.persistence
  let new := b.wantedMode
  let onE := (b.velvet.onEnergy || (b.modes.reported && modeByEnergy b.velvet.eu b.testFailed != 0)) && new != 0
  let b1 := b.onVelvet fun v => { v with mode := List.replicate 3 new, budget := if new = 0 then budgetOf v.eu else 0, onEnergy := onE }
  let b2 := if old = 0 ∧ new ≠ 0 then ((b1.flushAll).report { code := 0x6001 }).bump 0x6000 0x06 1 else b1
  let b3 := if old < 2 ∧ new = 2 then b2.report { code := 0x6002 } else b2
  (if b3.works then b3.cleanBudget else b3).healthCheck

/-- Canvas reports E_u, µJ (R144, R145): the span of reports at 44 mJ or more goes on or ends. -/
def Blk.energyReport (b : Blk) (eu : Nat) : Blk :=
  (b.onVelvet fun v => { v with eu := eu, span := if 44000 ≤ eu then some (v.span.getD b.now) else none }).applyMode

end Sys2Proof.Machine
end

