-- ==== Sys2Proof/Machine/Twill.lean ====
section
/-! DEFINITION. Twill: lanes and append plans (R61, R81), the provisioning of the slots (R435), hot epochs and demotions (R52, R63 to R65), the journal (R82), garbage collection (R66, R67), wear (R68 to R74), refresh (R75), the resync (R60, R248), the rewrite of weak lines (R97), and the tick of operating time with the ageing of regions (R53, R368). -/

namespace Sys2Proof.Machine

/-! ### Lanes (R61) -/

/-- Units of 2 MiB added in a class. -/
def Blk.classUnits (b : Blk) (c : Cls) : Nat := (b.dev.rgns.filter fun g => g.cls == c).foldl (fun n g => n + g.length / unitBytes) 0

/-- Lanes of Denim of the 256: in proportion to the capacity, each class with a region having at least 16; with no region at all every lane is Voile's (DESIGN CHOICE, log 16). -/
def Blk.denimLanes (b : Blk) : Nat :=
  let v := b.classUnits .voile
  let d := b.classUnits .denim
  if d = 0 then 0 else if v = 0 then 256 else max 16 (min 240 (256 * d / (v + d)))

/-- Class of a lane by its number. -/
def Blk.laneClass (b : Blk) (n : Nat) : Cls := if n < b.denimLanes then .denim else .voile

/-- Lanes that the division gives a class. -/
def Blk.lanesOf (b : Blk) (c : Cls) : Nat := match c with
  | .denim => b.denimLanes
  | .voile => 256 - b.denimLanes

/-! ### Append plans (R81) -/

/-- Partitions that hold the tiles of a tile row. -/
def Blk.rowParts (b : Blk) (key : Nat) : List Nat := (List.range (widthOf (b.slotCls (key / 16)))).map fun m => (b.tileOf (key / 16) (key % 16) m).1

/-- A row of a plan, and how many tiles of the plans each partition holds. -/
abbrev Drawn := List Nat × NMap Nat

/-- A row counts in its partitions. -/
def Blk.countRow (b : Blk) (n : NMap Nat) (key : Nat) : NMap Nat := (b.rowParts key).foldl (fun n p => n.put p (n.getD p 0 + 1)) n

/-- A row enters a plan unless a partition of it holds 16 tiles of the plans already. -/
def Blk.drawRow (b : Blk) (x : Drawn) (key : Nat) : Drawn := if (b.rowParts key).all fun p => decide (x.2.getD p 0 < 16) then (x.1 ++ [key], b.countRow x.2 key) else x

/-- Free rows in an order that the spec leaves open: each is picked among those that are left (log 16). -/
def pickOrder (pick : Nat → Nat) : Nat → List Nat → List Nat
  | 0, _ => []
  | n + 1, l => match pickOf l (pick n) with
    | some k => k :: pickOrder pick n (l.erase k)
    | none => []

/-- Rows drawn for a class: five for each of its lanes, as far as free rows allow. -/
def Blk.drawClass (b : Blk) (x : Drawn) (c : Cls) : Drawn :=
  let l := b.freeRows c
  let room := 5 * b.lanesOf c + x.1.length
  (pickOrder (Config.planRow b.twill.nextBase) l.length l).foldl (fun y k => if y.1.length < room then b.drawRow y k else y) x

/-- The next append plan, of at most 1,280 blank rows: bases increase along it and exceed every earlier base, and no partition holds more than 16 tiles of it and of the plan in effect (R81). -/
def Blk.newPlan (b : Blk) : Blk :=
  let rows := ([Cls.voile, .denim].foldl b.drawClass ([], (b.twill.plan.map Prod.fst).foldl b.countRow [])).1
  b.onTwill fun t => { t with planNext := rows.zipIdx.map (fun x => (x.1, t.nextBase + 64 * x.2)), nextBase := t.nextBase + 64 * rows.length }

/-- A lane gives up its row: what it never programmed counts as invalid, and the row is closed (R62). -/
def Blk.leaveRow (b : Blk) (n : Nat) : Blk := match b.twill.lanes.find n with
  | none => b
  | some l =>
    if !l.open_ then b
    else
      let k := l.slot * 16 + l.row
      b.onTwill fun t => { t with rows := t.rows.put k { t.rows.getD k {} with closed := true, invalid := (t.rows.getD k {}).invalid + 16 * (64 - l.stripe) } }

/-- Every open stripe is closed (R62), within one step at the hold-up flush. -/
def Blk.closeStripes (b : Blk) (now : Bool) : Blk := (b.twill.lanes.map Prod.fst).foldl (fun b n => b.closeStripe n now) b

/-- The lanes, divided anew, take rows of the plan in effect (R61). -/
def Blk.openLanes (b : Blk) : Blk :=
  (List.range 256).foldl (fun c n =>
    (c.onTwill fun t => { t with lanes := t.lanes.put n { cls := b.laneClass n, slot := 0, row := 0, base := 0, open_ := false } }).nextRow n) b

/-- Hot-pool slots of a class. -/
def Blk.hotOf (b : Blk) (c : Cls) : List Nat := b.hotSlots.filter fun s => b.slotCls s == c

/-- An empty hot-pool slot of the other class, where that has more than its lanes use, leaves the pool for a least-worn free slot of `c`; `b` stands where there is none, `b1` has a free slot of the width. -/
def Blk.swapClass (b : Blk) (c : Cls) (b1 : Blk) : Blk :=
  match (b1.hotOf (otherCls c)).find? fun s => b1.slotEmpty s, b1.leastFree c with
  | some old, some (new, _) => if b1.journalWait || decide ((b1.hotOf (otherCls c)).length ≤ 4 * b1.lanesOf (otherCls c)) then b else (b1.useFree.swapHot old new).freeSlot old (b1.slotWear old)
  | _, _ => b

/-- A class that has less than four hot-pool slots for each of its lanes takes one more, in place of one of the other's (R435, log 16). -/
def Blk.balanceHot (b : Blk) : Blk :=
  match [Cls.voile, .denim].find? fun c => decide ((b.hotOf c).length < 4 * b.lanesOf c) with
  | none => b
  | some c => b.swapClass c (b.widen c)

/-- The hot pool's slots follow the lanes of the classes. -/
def Blk.balancePool (b : Blk) : Blk := (List.range 1024).foldl (fun b _ => b.balanceHot) b

/-- At a checkpoint start every open stripe is closed, unused rows of the old plan are free again, the plan that followed is in effect with a new one after it, and the lanes, divided again, take its rows (R61, R78, R81). -/
def Blk.turnPlan (b : Blk) (now : Bool) : Blk :=
  let b1 := b.closeStripes now
  let b2 := (b1.twill.lanes.map Prod.fst).foldl (fun b n => b.leaveRow n) b1
  let b3 := b2.onTwill fun t => { t with plan := t.planNext, planNext := [], lanes := [], rows := t.rows.map fun e => (e.1, { e.2 with planned := false }) }
  let b4 := b3.onGauze fun g => { g with rowAge := b2.twill.planNext.foldl (fun m x => m.put x.1 b.opSec) g.rowAge }
  b4.balancePool.newPlan.openLanes

/-! ### First provisioning (R254, R435) -/

/-- Member positions in the free slots, F (R435). -/
def Blk.countFree (b : Blk) : Nat :=
  (((List.range (slotsV b.dieCount)).filter fun n => b.isSlot n && b.isFree n).map fun n => widthOf (b.slotCls n)).sum

/-- The slots' states as the first provisioning deals them: each keeps its wear, a retired slot stays retired. -/
def Blk.dealSlots (b : Blk) : NMap SlotSt :=
  let worn := b.regionList.foldl (fun m e => m.put e.2.slot.toNat { use := SlotUse.region, wear := e.2.wear }) b.twill.slots
  worn.map fun e => (e.1, if e.2.use = .retired then e.2 else { use := slotInit b.dieCount e.1, wear := e.2.wear })

/-- The hot pool's places of retired slots are taken by free ones (R74). -/
def Blk.fillPool (b : Blk) : Blk := (List.range (1024 - b.hotSlots.length)).foldl (fun b _ => match b.leastFree .voile with
  | some (n, w) => b.useFree.setSlot n { use := .hotPool, wear := BitVec.ofNat 18 w }
  | none => b) b

/-- The slots are divided at the first provisioning, the pattern of R29 is fixed and recorded, and F and S0 are counted; the Felt and media wear of a device that is provisioned again stays. -/
def Blk.provisionSlots (b : Blk) : Blk :=
  let slots := b.dealSlots
  let b1 := b.onTwill fun t => { slots := slots, retired := t.retired, s0 := t.s0, jseq := t.jseq, ringNext := t.ringNext, nextBase := t.nextBase, life10 := t.life10, life5 := t.life5, nextJob := t.nextJob, epochs := t.epochs }
  let b2 := (b1.onMedia fun m => { m with pattern := some b.dieCount }).fillPool
  let b3 := b2.onTwill fun t => { t with freePos := b2.countFree }
  (b3.onTwill fun t => { t with s0 := if t.s0 = 0 then b3.spare else t.s0 }).onGauze fun g => { g with rowAge := [], slotAge := [(4194304, 0)], weakRgn := [] }

/-! ### Hot epochs and demotions -/

/-- HOT of a region from its host writes in the epoch (R52). -/
def heatOf (w : Nat) : BitVec 4 := BitVec.ofNat 4 (min 15 (Nat.log2 (1 + w)))

/-- HOT is updated while the region's slot has an entry in the write tracker (R52). -/
def Blk.heatRegions (b : Blk) : Blk :=
  b.regionList.foldl (fun b e => if b.twill.tracker.has e.2.slot.toNat then b.putRegion e.1 { e.2 with hot := heatOf (b.twill.writes.getD e.1 0) } else b) b

/-- An entry at the end of an epoch (R64). -/
def HotEntry.ageEpoch (e : HotEntry) : HotEntry := { e with idle := if e.written then 0 else if e.idle = 15 then 15 else e.idle + 1, written := false }

/-- A way at the end of an epoch: PF is cleared at the end of the second after the fill (R141). -/
def VWay.ageEpoch (v : VWay) : VWay :=
  if !v.pf || v.fillp then v else if v.pfAge = 0 then { v with pfAge := 1 } else { v with pf := false, pfAge := 0 }

/-- HOT_EPOCH_END: every 64 ms of operating time (R63, R64): entries age, those idle for the sixteenth epoch are demoted, HOT follows, the candidate counters are cleared; prefetched lines age (R141). -/
def execHotEpochEnd (a : Stamp) (s : State) : Host.Outcome State Fault Refusal :=
  s.command a fun b =>
    if !b.works then b
    else
      let old := (b.twill.hot.filter fun e => !e.2.written && e.2.idle == 15).map fun e => e.2.li
      let b1 := (b.heatRegions).onTwill fun t => { t with hot := t.hot.map fun e => (e.1, e.2.ageEpoch), cand := [], writes := [], epochs := t.epochs + 1 }
      let b2 := b1.onVelvet fun v => { v with ways := v.ways.map fun e => (e.1, e.2.ageEpoch) }
      (old.foldl (fun b li => b.startDemotion li none) b2).startHomes.drive

/-! ### Records that gather (R82) -/

/-- A demotion record is written: its lines have reached step 4. -/
def Blk.issueDemotions (b : Blk) : Blk :=
  let ls := (b.twill.gatherD.take 12).map Prod.fst
  if ls.isEmpty then b
  else (b.journalRec 0x06 (ls.map b.demotionItem)).onTwill fun t =>
    { t with gatherD := t.gatherD.drop 12, demote := t.demote.map fun e => if ls.contains e.1 then (e.1, { e.2 with step := 4 }) else e }

/-- A slot-freed record is written. -/
def Blk.issueFreed (b : Blk) : Blk :=
  let ls := (b.twill.gatherF.take 12).map Prod.fst
  if ls.isEmpty then b
  else (b.journalRec 0x07 (ls.flatMap fun x => [x, b.slotWear x])).onTwill fun t => { t with gatherF := t.gatherF.drop 12 }

/-- A line of the device's own still mismatches after the third reprogram, or its program has failed: its location is retired, four writes count on its slot, and the next line of its area takes its place (R68, R82, R434). What it holds then is open (R189). -/
def Blk.metaFail (b : Blk) (x : Mem) : Blk :=
  let loc := b.memLoc x
  if b.media.retired.has loc then b
  else
    let b1 := b.useFree.storeLine loc { data := b.freeVal 1024, md := b.freeVal 40 }
    let b2 := (b1.onMedia fun m => { m with retired := m.retired.put loc x.slot }).countWrites x.slot 4
    (b2.reportUnit 0x3802 3 (dieOfLoc loc)).tileFailure (dieOfLoc loc) (pidOf loc % 32 * 131072 + loc % 2 ^ 23 / 64)

/-- JOURNAL_RECORD_ISSUE: each record that gathers is written when it is full, or 100 µs after its first item (R82), while the journal takes records (R78); retirements that waited for the journal follow, and demotions that can go home start (R64). The operand is how many lines of the ring have failed for the record that comes next (R434). -/
def execJournalRecordIssue (a : Stamp) (failed : Fin 256) (s : State) : Host.Outcome State Fault Refusal :=
  s.command a fun b =>
    if !b.works then b
    else
      let b1 := ((List.range failed.val).foldl (fun c _ => c.metaFail (ringMem c.dieCount (c.ringFree % 32768))) b).startHomes.retireWaiting
      let b2 := if b1.gatherDue b1.twill.gatherD && !b1.journalWait then b1.issueDemotions else b1
      (if b2.gatherDue b2.twill.gatherF && !b2.journalWait then b2.issueFreed else b2).drive

/-- DEMOTION_COMMIT: the record of a line's demotion has committed (R64 step 4). -/
def execDemotionCommit (a : Stamp) (li : BitVec 36) (s : State) : Host.Outcome State Fault Refusal :=
  s.command a fun b => match b.twill.demote.find li.toNat with
    | some d => if d.step = 4 && b.works then (b.commitDemotion li.toNat).drive else b
    | none => b

/-- The promotion mark of a line is cleared. -/
def Blk.unmark (b : Blk) (li : Nat) : Blk :=
  let b1 := match b.resident li with
    | some (k, v) => b.putWay k { v with pmark := false }
    | none => b
  match b1.bufOf li with
  | some (n, x) => if x.issued then b1 else b1.putBuf n { x with hotPath := false }
  | none => b1

/-- PROMOTION_WAY_TIMEOUT: no way has become free for a marked line within 2 ms of its mark: the mark is cleared, the line stays cold, and the saturation is counted (R65, OD 0x4010.04). -/
def execPromotionWayTimeout (a : Stamp) (li : BitVec 36) (s : State) : Host.Outcome State Fault Refusal :=
  s.command a fun b => match b.twill.wants.find li.toNat with
    | some t =>
      if t + 2000000 < b.now then
        ((b.unmark li.toNat).bump 0x4010 0x04 1).onTwill fun t => { t with
          wants := t.wants.del li.toNat, demote := t.demote.map fun e => (e.1, { e.2 with forLi := e.2.forLi.filter fun x => x != li.toNat }) }
      else b
    | none => b

/-! ### Garbage collection (R66, R67) -/

/-- Hot entries that point into a row. -/
def Blk.rowEntries (b : Blk) (key : Nat) : List HotEntry := (b.twill.hot.filter fun e => e.2.hslot.toNat * 16 + e.2.stripe.toNat / 64 == key).map Prod.snd

/-- Rows of a class that garbage collection may take: closed, of no current plan, with no lane in them, and not being reset. -/
def Blk.closedRows (b : Blk) (c : Cls) : List (Nat × TileRow) := b.twill.rows.filter fun e =>
  e.2.closed && !e.2.planned && e.2.cls == c && e.2.resets == 0 && !(b.twill.lanes.any fun l => l.2.open_ && l.2.slot * 16 + l.2.row == e.1)

/-- The row of the most invalid lines, ties to the lowest base. -/
def mostInvalid (l : List (Nat × TileRow)) : Option (Nat × TileRow) := l.foldl (fun best e => match best with
  | none => some e
  | some x => if x.2.invalid < e.2.invalid ∨ (x.2.invalid = e.2.invalid ∧ e.2.base < x.2.base) then some e else some x) none

/-- Garbage collection runs for a class: it has fewer free rows than 12 times its lanes, or has had and has not reached 16 times (R66). -/
def Blk.collects (b : Blk) (c : Cls) : Bool :=
  let free := (b.freeRows c).length
  decide (free < 12 * b.lanesOf c) || (b.twill.collecting.contains c && decide (free < 16 * b.lanesOf c))

/-- A tile row with lines that a replaced die does not hold (R407). -/
def Blk.rowGone (b : Blk) (key : Nat) : Bool :=
  b.media.gone.any fun loc => (List.range 18).any fun m => b.tileOf (key / 16) (key % 16) m == (pidOf loc, loc % 8388608 / 64)

/-- The row to collect next: one ahead of its turn (R75), of a slot that is to be retired (R74) or with a member on a failed die (R406), else by the marks. -/
def Blk.rowToCollect (b : Blk) (c : Cls) : Option (Nat × TileRow) :=
  let rows := (b.closedRows c).filter fun e => !e.2.gc && !(e.2.bad && (b.rowEntries e.1).isEmpty)
  match mostInvalid (rows.filter fun e => e.2.ahead || (b.slotSt (e.1 / 16)).retire || b.slotBroken (e.1 / 16) || b.rowGone e.1) with
  | some x => some x
  | none => if b.collects c then mostInvalid rows else none

/-- Each line whose entry points into a row, and that no job copies yet, is read and appended as a job; those of regions whose background work pauses wait (R14, R67). -/
def Blk.copyRow (b : Blk) (key : Nat) : Blk :=
  (b.rowEntries key).foldl (fun b e => match b.lookup e.li with
    | some p =>
      let copied := b.twill.jobs.any fun j => match j.2.work with
        | .collect li _ _ => li == e.li
        | _ => false
      if copied || b.twillPaused (regionOfLine e.li) then b else b.startJob { work := .collect e.li key p.loc, reads := [p.mem] }
    | none => b) b

/-- A row under collection that no entry points into, and that no job reads, is reset, and joins the free rows after its last reset; one with a retired tile is not used again (R67, R85). -/
def Blk.reclaimRow (b : Blk) (key : Nat) (x : TileRow) : Blk :=
  let reading := b.twill.jobs.any fun j => match j.2.work with
    | .collect _ k _ => k == key
    | _ => false
  if !(b.rowEntries key).isEmpty || reading then b
  else
    let b1 := ((b.areaNew (rowArea key)).onGauze fun g => { g with rowAge := g.rowAge.del key }).bump 0x4020 0x02 1
    if x.bad then (b1.onTwill fun t => { t with rows := t.rows.put key { x with closed := false, gc := false, ahead := false } }).exchangeSlot (key / 16) 0
    else b1.resetRow key x

/-- The rows of a class under collection go on. -/
def Blk.collectRows (b : Blk) (c : Cls) : Blk :=
  ((b.closedRows c).filter fun e => e.2.gc).foldl (fun b e => (b.copyRow e.1).reclaimRow e.1 e.2) b

/-- The next row of a class is put under collection, up to 8 at once (R66). -/
def Blk.takeRow (b : Blk) (c : Cls) : Blk :=
  let b1 := b.onTwill fun t => { t with collecting := if b.collects c then c :: t.collecting.filter (fun x => x != c) else t.collecting.filter fun x => x != c }
  if 8 ≤ ((b1.closedRows c).filter fun e => e.2.gc).length then b1
  else match b1.rowToCollect c with
    | some (key, x) => b1.onTwill fun t => { t with rows := t.rows.put key { x with gc := true } }
    | none => b1

/-- GARBAGE_COLLECTION: of a class the next row is put under collection, and the rows under collection go on (R66, R67). -/
def execGarbageCollection (a : Stamp) (cls : Cls) (s : State) : Host.Outcome State Fault Refusal :=
  s.command a fun b => if b.works then ((b.takeRow cls).collectRows cls).drive else b

/-! ### Wear (R68 to R74) -/

/-- WEAR_INCREMENT: a slot's count of line writes wraps at 65,536 (R68). -/
def execWearIncrement (a : Stamp) (slot : Nat) (s : State) : Host.Outcome State Fault Refusal :=
  s.command a fun b => match b.twill.tracker.find slot with
    | some (n, t) =>
      if 65536 ≤ n then ((b.onTwill fun x => { x with tracker := x.tracker.put slot (n - 65536, t) }).wearUp slot).retireWaiting.lifeCheck.drive else b
    | none => b

/-- TRACKER_FOLD: an entry unused for 60 s folds (R68). -/
def execTrackerFold (a : Stamp) (slot : Nat) (s : State) : Host.Outcome State Fault Refusal :=
  s.command a fun b => match b.twill.tracker.find slot with
    | some (_, t) => if t + 60000000000 ≤ b.now then (b.foldCount slot).retireWaiting.lifeCheck.drive else b
    | none => b

/-- A read holds a reservation on a line of a region (R38). -/
def Blk.regionReserved (b : Blk) (r : Nat) : Bool := b.path.acc.any fun x => regionOfLine x.line == r && b.lineReserved x.line

/-- ROTATION_PASS_END: the last stripe of a region's pass stands in its place: the entry is switched (R69 step 4), with no read holding a reservation on a line of that stripe (R38). -/
def execRotationPassEnd (a : Stamp) (r : Nat) (s : State) : Host.Outcome State Fault Refusal :=
  s.command a fun b => match b.twill.rot.find r, b.regionEntry r, b.unparkJob r with
    | some x, some e, some n =>
      if !b.works || b.journalWait || b.twillPaused r || ((b.stripeLines r e .unpark 1023).any fun y => b.lineReserved y.1 && (b.hotFind y.1).isNone) then b.drive
      else (b.endPass r n x e).drive
    | _, _, _ => b.drive

/-- MIGRATION_START: a region whose migration is due takes a least-worn free slot of its width (R71, R72, R74). -/
def execMigrationStart (a : Stamp) (r : Nat) (s : State) : Host.Outcome State Fault Refusal :=
  s.command a fun b => match b.regionEntry r with
    | some e =>
      if b.works && b.twill.migDue.contains r && b.mayMigrate r e then
        let b1 := b.widen e.cls
        match b1.leastFree e.cls with
        | some (slot, _) => (b1.useFree.beginMigration r e slot false).drive
        | none => b
      else b
    | none => b

/-- MIGRATION_END: every stripe has been copied and no read holds a reservation on a line of the region (R38): the entry is switched (R72 step 4). -/
def execMigrationEnd (a : Stamp) (r : Nat) (s : State) : Host.Outcome State Fault Refusal :=
  s.command a fun b => match b.twill.mig.find r, b.regionEntry r with
    | some m, some e =>
      if !b.works || m.next < 1024 || b.regionMoving r || b.slotHeld m.old || b.slotHeld m.new || b.journalWait || b.twillPaused r || b.regionReserved r then b
      else (b.endMigration r m e).startHomes.drive
    | _, _ => b

/-- The mapped region of a class with the least L among those with HOT 0 (R73). -/
def Blk.coldest (b : Blk) (c : Cls) : Option (Nat × RegionEntry) :=
  (b.regionList.filter fun e => e.2.cls == c && e.2.hot == 0).foldl (fun best e => match best with
    | none => some e
    | some x => if e.2.wear < x.2.wear then some e else some x) none

/-- A cold swap of a width: its least-worn free slot is above the mean, the mapped region is below 0.95 of it, and the most-worn free slot whose L is below 1,296,000 takes that region (R73). -/
def Blk.coldSwap (b : Blk) (c : Cls) : Blk :=
  let l (w : Nat) : Nat := wearL .free c w
  let above := (extreme false (b.freeSlots c)).any fun x => decide (b.wearSum < l x.2 * b.wearNum)
  let to_ := (extreme true ((b.freeSlots c).filter fun x => decide (l x.2 < cycles 1296000))).map Prod.fst
  if !above || (b.twill.mig.any fun e => e.2.cold) then b
  else match b.coldest c, pickOf to_ b.freeNum with
    | some (r, e), some slot => if decide (100 * e.l * b.wearNum < 95 * b.wearSum) && b.mayMigrate r e then b.useFree.beginMigration r e slot true else b
    | _, _ => b

/-- COLD_SWAP_CHECK: once every 60 s (R73); none in M9 (R77). -/
def execColdSwapCheck (a : Stamp) (s : State) : Host.Outcome State Fault Refusal :=
  s.command a fun b => if b.works && !b.holds 9 then ((b.coldSwap .voile).coldSwap .denim).drive else b

/-! ### Refresh (R75) -/

/-- The area at the head of the refresh queue leaves it, and its refresh starts. -/
def Blk.startRefresh (b : Blk) (area : Nat) (rest : List (Nat × Nat)) : Blk :=
  b.onTwill fun t => { t with refresh := rest, fresh := t.fresh.put area (0, b.opSec) }

/-- REFRESH_REGION: the region, or tag region or metadata slot, at the head of the refresh queue is refreshed, stripe by stripe. A region in a rotation pass or a migration waits. -/
def execRefreshRegion (a : Stamp) (s : State) : Host.Outcome State Fault Refusal :=
  s.command a fun b => match b.twill.refresh with
    | [] => b
    | (r, _) :: rest =>
      if !b.works then b
      else match b.regionEntry r with
        | none => if 134217728 ≤ r then (b.startRefresh r rest).drive else b.onTwill fun t => { t with refresh := rest, backlog := t.backlog.filter fun x => x != r }
        | some e => if e.rotp || e.mig || b.twillPaused r || b.leaving r then b else (b.startRefresh r rest).drive

/-- REFRESH_BACKLOG: a queued region has passed its predicted instant: one warning (R75). -/
def execRefreshBacklog (a : Stamp) (r : Nat) (s : State) : Host.Outcome State Fault Refusal :=
  s.command a fun b => match b.twill.refresh.find? fun x => x.1 == r with
    | some (_, sec) =>
      if sec < b.opSec ∧ !b.twill.backlog.contains r then
        ((b.onTwill fun t => { t with backlog := t.backlog ++ [r] }).bump 0x4040 0x03 1).reportUnit 0x4002 8 (r % 65536) (some (r * unitBytes))
      else b
    | none => b

/-! ### The resync after a dirty shutdown (R60, R248) -/

/-- Regions that the resync takes next: those of lines that stay dirty in Velvet or in a buffer because their hot set is full (R248). -/
def Blk.resyncNext (b : Blk) : List Nat :=
  let full (li : Nat) : Bool := b.beforeResync li && !b.twill.resyncAt.has (regionOfLine li) && (b.hotWayFor li).isNone
  (((b.velvet.ways.filter fun e => e.2.dirty).map fun e => e.2.lineAt e.1) ++ b.velvet.bufs.map fun e => e.2.li).filter full |>.map regionOfLine

/-- RESYNC: the resync of a region's stripes starts: data lines and parity are read, parity that differs is overwritten, and the home lines' tags are verified (R60, R248). -/
def execResync (a : Stamp) (r : Nat) (s : State) : Host.Outcome State Fault Refusal :=
  s.command a fun b =>
    let next := b.resyncNext
    if b.works && b.damask.resynced.isSome && b.beforeResync (r * 16384) && (b.regionEntry r).isSome && !b.twill.resyncAt.has r && (next.isEmpty || next.contains r) then
      (b.onTwill fun t => { t with resyncAt := t.resyncAt.put r 0 }).drive
    else b

/-! ### Weak lines (R97) -/

/-- WEAK_LINE_REWRITE: the oldest queued weak line is rewritten, under its stripe lock: a hot line is appended again, any other overwritten in place (R97). -/
def execWeakLineRewrite (a : Stamp) (s : State) : Host.Outcome State Fault Refusal :=
  s.command a fun b => match b.media.weak with
    | [] => b
    | x :: rest =>
      if !b.works || !b.unlocked [x.lock] then b
      else ((b.onMedia fun m => { m with weak := rest }).startJob { work := .weak x, locks := [x.lock], reads := [x] }).drive

/-! ### Operating time (R53, R368) -/

/-- Regions whose bucket's multiple is reached move up (R53). -/
def Blk.ageRegions (b : Blk) : Blk :=
  b.regionList.foldl (fun b e => if e.2.age ≠ 63 ∧ ageStep b.opTime e.2.age.toNat then b.putRegion e.1 { e.2 with age := e.2.age + 1 } else b) b

/-- Ages of the tag region and metadata slots move up likewise (R118). -/
def Blk.ageSlots (b : Blk) : Blk :=
  b.onGauze fun g => { g with slotAge := g.slotAge.map fun e => if e.2 ≠ 63 ∧ ageStep b.opTime e.2 then (e.1, e.2 + 1) else e }

end Sys2Proof.Machine
end

