-- ==== Sys2Proof/Machine/Checkpoint.lean ====
section
/-! DEFINITION. Checkpoints: when one starts and commits (R78), where its lines stand, in which order they are written and when they are valid (R79), and their bytes (R52, R56, R80, R81). -/

namespace Sys2Proof.Machine

/-! ### What a checkpoint holds (R78, R80, R81) -/

/-- A region map entry's 64 bits (R52). -/
def RegionEntry.bits (e : RegionEntry) : Nat :=
  e.slot.toNat <<< 42 ||| e.age.toNat <<< 36 ||| e.hot.toNat <<< 32 ||| (if e.cls = .denim then 1 else 0) <<< 31 ||| 1 <<< 30 ||| b2n e.mig <<< 29 ||| b2n e.rotp <<< 28
    ||| e.rot.toNat <<< 18 ||| e.wear.toNat

/-- A hot-line table entry's 64 bits (R56). -/
def HotEntry.bits (e : HotEntry) : Nat :=
  1 <<< 63 ||| e.tag.toNat <<< 46 ||| e.hslot.toNat <<< 24 ||| e.stripe.toNat <<< 14 ||| e.pos.toNat <<< 10 ||| e.idle.toNat <<< 6 ||| b2n e.written <<< 5 ||| b2n e.demoting <<< 4

/-- Number from which the hot-line table's pages count; the region map's count from 0. -/
def hotPages : Nat := 65536

/-- Every page of the tables: of the region map as many as C has units (R54), of the hot-line table 8,192, 512 entries each. -/
def Blk.allPages (b : Blk) : List Nat := (List.range (ceilDiv (capacityUnits b.dieCount) 512)) ++ (List.range 8192).map fun p => hotPages + p

/-- Entries of a table that lie in a page. -/
def inPage {α : Type} (t : NMap α) (p : Nat) : NMap α := t.filter fun e => e.1 / 512 == p

/-- Pages that differ between the tables and the newest full checkpoint (R78). -/
def Blk.changedPages (b : Blk) : List Nat :=
  let full := b.twill.full.getD { seq := 0, full := true, gen := 0, inc := 0, base := 0, jseq := 0, opTime := 0, start := 0 }
  let r := ((b.twill.regions ++ full.regions).map fun e => e.1 / 512).eraseDups
  let h := ((b.twill.hot ++ full.hot).map fun e => e.1 / 512).eraseDups
  (r.filter fun p => inPage b.twill.regions p != inPage full.regions p) ++ (h.filter fun p => inPage b.twill.hot p != inPage full.hot p).map fun p => hotPages + p

/-- The 4 KiB of a page. -/
def Ckpt.page (k : Ckpt) (p : Nat) : List Byte :=
  (List.range 512).flatMap fun i => leBytes 8 (if p < hotPages then ((k.regions.find (p * 512 + i)).map RegionEntry.bits).getD 0 else ((k.hot.find ((p - hotPages) * 512 + i)).map HotEntry.bits).getD 0)

/-- The 16 B of a plan's row (R81). -/
def planEntry (x : Nat × Nat) : List Byte := leBytes 8 x.2 ++ leBytes 4 (x.1 / 16 + x.1 % 16 * 2 ^ 22) ++ leBytes 4 0

/-- Use of a slot as a number (log 86). -/
def useCode : SlotUse → Nat
  | .region => 0
  | .hotPool => 1
  | .tag => 2
  | .metadata => 3
  | .free => 4
  | .retired => 5

/-- Bytes filled with zeros to whole lines. -/
def wholeLines (l : List Byte) : List Byte := l ++ List.replicate ((128 - l.length % 128) % 128) 0

/-- The body: the numbers of the pages, the pages, the two plans, the die substitution table, the slots' wear statistics and the group widths; their order and the entries of the last three are the model's (log 86). -/
def Ckpt.body (k : Ckpt) : List Byte :=
  wholeLines (k.pages.flatMap (leBytes 8)) ++ k.pages.flatMap k.page ++ wholeLines ((k.plan ++ k.planNext).flatMap planEntry)
    ++ wholeLines (k.subst.flatMap fun e => leBytes 4 e.1 ++ leBytes 4 e.2)
    ++ wholeLines (k.slots.flatMap fun e => leBytes 4 e.1 ++ leBytes 3 e.2.wear.toNat ++ leBytes 1 (useCode e.2.use + 8 * b2n e.2.retire))
    ++ wholeLines (k.wide.flatMap fun e => leBytes 4 e.1 ++ leBytes 4 (if e.2 = .denim then 1 else 0))

/-- Bytes [123:0] of the header line (R80). -/
def Ckpt.head (k : Ckpt) : List Byte :=
  leBytes 8 k.seq ++ [if k.full then 1 else 2] ++ leBytes 1 k.gen ++ leBytes 1 k.inc ++ [0] ++ leBytes 8 k.base ++ leBytes 8 k.jseq ++ leBytes 6 k.opTime ++ [0, 0]
    ++ leBytes 4 k.pages.length ++ leBytes 4 k.plan.length ++ leBytes 4 k.planNext.length ++ leBytes 4 (k.body.length / 128) ++ leBytes 4 (crc32 k.body).toNat ++ List.replicate 68 0

/-- The header line (R80). -/
def Ckpt.header (k : Ckpt) : List Byte := withCrc32 k.head

/-- The commit marker (R79). -/
def commitMarker : Nat := 0x7C31A5E2

/-- The trailer line (R80). -/
def Ckpt.trailer (k : Ckpt) : List Byte := withCrc32 (leBytes 8 k.seq ++ leBytes 4 commitMarker) ++ List.replicate 112 0

/-! ### Where it stands (R79) -/

/-- Index of a checkpoint's place: its generation's full checkpoint, or one of its two incremental slots. -/
def Ckpt.place (k : Ckpt) : Nat := 3 * k.gen + if k.full then 0 else 1 + k.inc

/-- Slot that holds line j of place i: each place has 64 slots of 16,384 data lines (log 77). -/
def ckptSlot (n i j : Nat) : Nat := metaSlot n (ckptFirst n + 64 * i + j / 16384)

/-- Stripe member that holds line j of place i: line 0 is the header, the body and the trailer follow. -/
def ckptMem (n i j : Nat) : Mem :=
  let s := j % 16384 / 16
  { cls := .denim, slot := ckptSlot n i j, stripe := s, m := dataMember .denim s (j % 16) }

/-- Line of an area of n lines that holds the j-th of its content: retired lines are passed over (R434). -/
def Blk.areaLine (b : Blk) (mem : Nat → Mem) (n j : Nat) : Nat :=
  let bad := if b.media.retired.isEmpty then [] else (List.range n).filter fun i => b.media.retired.has (b.memLoc (mem i))
  bad.foldl (fun p _ => j + (bad.filter fun i => decide (i ≤ p)).length) j

/-- Stripe member that holds the j-th line of a checkpoint's content. -/
def Blk.ckptAt (b : Blk) (i j : Nat) : Mem := ckptMem b.dieCount i (b.areaLine (ckptMem b.dieCount i) 1048576 j)

/-- A line of a checkpoint is programmed and verified, and counts on its slot (R26, R68, R78). -/
def Blk.putCkptLine (b : Blk) (i j seq : Nat) (bytes : List Byte) : Blk := b.putOwnLine (b.ckptAt i j) 0x0C seq bytes

/-- The lines of a checkpoint in their order: the body, the header, the trailer with its marker (R79). -/
def Blk.putCkpt (b : Blk) (k : Ckpt) : Blk :=
  let n := k.body.length / 128
  let b1 := (List.range n).foldl (fun b j => b.putCkptLine k.place (j + 1) k.seq ((k.body.drop (128 * j)).take 128)) b
  (b1.putCkptLine k.place 0 k.seq k.header).putCkptLine k.place (n + 1) k.seq k.trailer

/-- Bytes of a line of a checkpoint as they can be read back: a stripe that has lost more than Denim tolerates gives nothing (R32, R79). -/
def Blk.ckptLine (b : Blk) (i j : Nat) : Option (List Byte) :=
  let x := b.ckptAt i j
  if (b.lostMembers .denim x.slot x.stripe).length ≤ 2 then some (leBytes 128 (b.stored (b.memLoc x)).toNat) else none

/-- Some bytes of a line as a number. -/
def leAt (l : List Byte) (i n : Nat) : Nat := leNat ((l.drop i).take n)

/-- The checkpoint at a place is valid (R79): its header's CRC matches, its body's CRC matches, and its trailer carries the sequence and the marker. -/
def Blk.ckptValid (b : Blk) (i : Nat) : Bool := match b.ckptLine i 0 with
  | none => false
  | some h =>
    let n := leAt h 48 4
    let body := (List.range n).map fun j => b.ckptLine i (j + 1)
    leAt h 124 4 == (crc32 (h.take 124)).toNat && body.all Option.isSome && leAt h 52 4 == (crc32 (body.flatMap fun x => x.getD [])).toNat
      && (b.ckptLine i (n + 1)).any fun t => leAt t 0 8 == leAt h 0 8 && leAt t 8 4 == commitMarker && leAt t 12 4 == (crc32 (t.take 12)).toNat

/-! ### Start and commit (R78, R79) -/

/-- A checkpoint starts at this instant T (R78, R79): its kind, generation and slot, the journal sequence and operating time at T, and the plans from T on. -/
def Blk.beginCheckpoint (b : Blk) (full now : Bool) : Blk :=
  let isFull := full || b.twill.full.isNone || decide (2048 < b.changedPages.length)
  let last := (b.twill.ckpt.map Ckpt.seq).getD 0
  let gen := match b.twill.full with
    | some f => if isFull then 1 - f.gen else f.gen
    | none => 0
  let inc := if isFull then 0 else match b.twill.ckpt with
    | some k => if k.full then 0 else 1 - k.inc
    | none => 0
  let base := if isFull then last + 1 else (b.twill.full.map Ckpt.seq).getD 0
  let b1 := b.turnPlan now
  let k : Ckpt := { seq := last + 1, full := isFull, gen := gen, inc := inc, base := base, jseq := b.twill.jseq, opTime := b.opTime, start := b.now,
                    plan := b.twill.planNext, planNext := b1.twill.planNext }
  b1.onTwill fun t => { t with trigger := false, appendedW := 0, recordsW := 0, writing := some k }

/-- A checkpoint with the pages and tables as they stand now: every page, or those that have changed since its full checkpoint (R78). -/
def Blk.withImages (b : Blk) (k : Ckpt) : Ckpt :=
  let pages := if k.full then b.allPages else b.changedPages
  let t := b.twill
  { k with
    pages := pages
    regions := t.regions.filter fun e => pages.contains (e.1 / 512)
    hot := t.hot.filter fun e => pages.contains (hotPages + e.1 / 512)
    subst := match b.safety.rebuildAt with
      | some (key, d, _) => b.safety.subst.put key d
      | none => b.safety.subst
    slots := t.slots
    wide := t.wide
    rgns := b.dev.rgns.map Rgn.id }

/-- The checkpoint being written commits: its pages as they stand (R78), its lines on media in their order (R79). -/
def Blk.commitCheckpoint (b : Blk) : Blk := match b.twill.writing with
  | none => b
  | some k0 =>
    let k := b.withImages k0
    let took := min (b.since k.start / 1000) (2 ^ 32 - 1)
    let b1 := (b.putCkpt k).onTwill fun t => { t with
      ckpt := some k, full := if k.full then some k else t.full, stored := t.stored.put k.place k, writing := none, appended := t.appendedW, records := t.recordsW, duration := took }
    b1.bump 0x4050 (if k.full then 0x02 else 0x03) 1

/-- The trigger of a checkpoint is met (R78). -/
def Blk.triggerMet (b : Blk) (t : CkptTrigger) : Bool :=
  let lastStart := match b.twill.writing with
    | some k => k.start
    | none => (b.twill.ckpt.map Ckpt.start).getD 0
  let lastFull := match b.twill.writing with
    | some k => if k.full then k.start else (b.twill.full.map Ckpt.start).getD 0
    | none => (b.twill.full.map Ckpt.start).getD 0
  match t with
  | .time => decide (lastStart + 250000000 ≤ b.now)
  | .lines => decide (786432 ≤ b.twill.appended)
  | .records => decide (4096 ≤ b.twill.records)
  | .full => decide (lastFull + 60000000000 ≤ b.now)

/-- CHECKPOINT_START: one checkpoint is written at a time; a trigger during a write waits for its commit (R78). -/
def execCheckpointStart (a : Stamp) (trigger : CkptTrigger) (s : State) : Host.Outcome State Fault Refusal :=
  s.command a fun b =>
    if !b.works || !b.triggerMet trigger then b
    else if b.twill.writing.isSome then b.onTwill fun t => { t with trigger := true }
    else (b.beginCheckpoint (trigger == .full) false).drive

/-- CHECKPOINT_COMMIT: the trailer stands with its commit marker (R79): records that waited may be written again, and a trigger that waited starts the next checkpoint (R78). The operand names the lines of its place that have failed (R434). -/
def execCheckpointCommit (a : Stamp) (failed : List (Fin 1048576)) (s : State) : Host.Outcome State Fault Refusal :=
  s.command a fun b =>
    match b.twill.writing with
    | some k =>
      if b.works then
        let b1 := (failed.foldl (fun c j => c.metaFail (ckptMem c.dieCount k.place j.val)) b).commitCheckpoint.retireWaiting
        (if b.twill.trigger then b1.beginCheckpoint (b1.triggerMet .full) false else b1).drive
      else b
    | none => b

end Sys2Proof.Machine
end

