-- ==== Sys2Proof/Machine/MapBoot.lean ====
section
/-! DEFINITION. How Twill's tables come back in M3 (R83 to R85): the choice of the checkpoint pair, its images, the replay of its plans, the journal's records, the true cursors of rotation passes, and the full scan of line metadata when no pair can be read. -/

namespace Sys2Proof.Machine

/-! ### The checkpoint pair (R79, R83 steps 1 and 2) -/

/-- The valid checkpoints at some places. -/
def Blk.validCkpts (b : Blk) (places : List Nat) : List Ckpt := places.filterMap fun i => if b.ckptValid i then b.twill.stored.find i else none

/-- The checkpoint of highest sequence. -/
def newestOf (l : List Ckpt) : Option Ckpt := l.foldl (fun best k => match best with
  | none => some k
  | some x => if x.seq < k.seq then some k else some x) none

/-- The pair that a boot uses: the newest valid full checkpoint, and the newest valid incremental one that is based on it. -/
def Blk.ckptPair (b : Blk) : Option (Ckpt × Option Ckpt) :=
  (newestOf (b.validCkpts [0, 3])).map fun f => (f, newestOf ((b.validCkpts [1, 2, 4, 5]).filter fun k => k.base == f.seq))

/-- A table of the full image with the pages of the incremental one in their place. -/
def overlay {α : Type} (full inc : NMap α) (pages : List Nat) : NMap α := inc.foldl (fun m e => m.put e.1 e.2) (full.filter fun e => !pages.contains (e.1 / 512))

/-- A substitution that the checkpoint or the journal tells: in effect, or, of a position still to be rebuilt, resumed with its substitute (R412, log 98); one that names the position's own die is over (R407). -/
def Blk.knowSubst (b : Blk) (key d : Nat) : Blk :=
  b.onSafety fun x =>
    if x.rebuild.contains key then { x with rebuildAt := some (key, d, 0) } else if d = b.homeDie key then { x with subst := x.subst.del key } else { x with subst := x.subst.put key d }

/-- The images are loaded: region map, hot-line table, substitutions, wear statistics and widths. The free-slot ledger, which stands on media, is newer for the slots that it lists (R54, R82). -/
def Blk.loadImages (b : Blk) (f : Ckpt) (inc : Option Ckpt) : Blk :=
  let k := inc.getD f
  let hot := match inc with
    | some i => overlay f.hot i.hot (i.pages.map fun p => p - hotPages)
    | none => f.hot
  let regions := match inc with
    | some i => overlay f.regions i.regions i.pages
    | none => f.regions
  let b1 := b.onTwill fun t => { t with
    regions := regions
    hot := hot.map fun e => (e.1, { e.2 with demoting := false })
    slots := t.slots.foldl (fun m e => m.put e.1 e.2) k.slots
    wide := k.wide, full := some f, ckpt := some k, plan := k.plan, planNext := k.planNext
    nextBase := (k.plan ++ k.planNext).foldl (fun n x => max n (x.2 + 64)) t.nextBase }
  k.subst.foldl (fun b e => b.knowSubst e.1 e.2) (b1.onSafety fun x => { x with subst := [] })

/-! ### Regions -/

/-- Map entries of released regions go; a region that was added after the checkpoint has the entries that its Add set up (R52, log 87). -/
def Blk.matchRegions (b : Blk) (known : List Nat) : Blk :=
  let b1 := b.onTwill fun t => { t with regions := t.regions.filter fun e => (b.rgnOf e.1).any fun g => known.contains g.id }
  let unit (g : Rgn) (c : Blk) (x : Nat × Nat) : Blk :=
    if (c.regionEntry x.1).isSome then c else c.putRegion x.1 { slot := BitVec.ofNat 22 x.2, cls := g.cls, wear := BitVec.ofNat 18 (c.slotWear x.2) }
  b1.dev.rgns.foldl (fun c g => (g.units.zip g.slots).foldl (unit g) c) b1

/-- Every mapped slot counts as a region slot. -/
def Blk.markMapped (b : Blk) : Blk := b.onTwill fun t => { t with slots := b.regionList.foldl (fun m e => m.put e.2.slot.toNat { b.slotSt e.2.slot.toNat with use := .region }) t.slots }

/-! ### Replay (R84) -/

/-- A hot line's index by its metadata (R24). -/
def hotIndex (md : BitVec 40) : Nat := fld md.toNat 36 4 <<< 32 ||| fld md.toNat 4 32

/-- A hot copy as its row's base gives its write sequence. -/
def Blk.seqOfCopy (b : Blk) (e : HotEntry) : Nat := (writeSeq (b.rowBase e.hslot.toNat (e.stripe.toNat / 64)) e.stripe.toNat e.pos.toNat).toNat

/-- The journal's records that can be read back from the ring, oldest first (R82). -/
def Blk.ringRecords (b : Blk) : List JRec :=
  (b.twill.journal.filter fun x =>
    let i := x.line
    let s := i % 16384 / 16
    decide ((b.lostMembers .denim (ringSlot b.dieCount i) s).length ≤ 2) && b.stored (b.ringLoc i) == packBytes 1024 x.bytes).reverse

/-- The records after a journal sequence. -/
def Blk.recordsAfter (b : Blk) (seq : Nat) : List JRec := b.ringRecords.filter fun x => decide (seq < x.seq)

/-- A way for a replayed line: its own, a free one, or one whose entry a demotion record that is still to be applied clears. -/
def Blk.replayWay (b : Blk) (recs : List JRec) (li : Nat) : Option Nat := match b.hotWayFor li with
  | some k => some k
  | none => ((List.range 8).map fun w => b.hotSet li * 8 + w).find? fun k => (b.twill.hot.find k).any fun e =>
      recs.any fun r => r.type == 0x06 && r.items.contains (b.demotionItem e.li)

/-- A stripe of a plan's row is closed: its parity stands on media. -/
def Blk.parityStands (b : Blk) (c : Cls) (slot s : Nat) : Bool := (b.parityLines c slot s).all fun loc => b.media.lines.has loc

/-- A line of a plan's row: a blank one is skipped; the entry is set when it is absent, points outside the two plans, or to a lower write sequence; a line that neither its location nor its stripe gives back is poisoned. -/
def Blk.replayLine (recs : List JRec) (rows : List Nat) (slot base : Nat) (b : Blk) (x : Nat × Nat) : Blk :=
  let c := b.slotCls slot
  let loc := b.slotLine c slot x.1 x.2
  match b.media.lines.find loc with
  | none => b
  | some y =>
    let li := hotIndex y.md
    let b0 := b.odSet 0x4050 0x04 (b.cfg 0x4050 0x04 + 1)
    let newer := match b0.hotFind li with
      | none => true
      | some (_, e) => !rows.contains (e.hslot.toNat * 16 + e.stripe.toNat / 64) || decide (b0.seqOfCopy e < (base + x.1 % 64) * 16 + x.2)
    if !newer then b0
    else match b0.replayWay recs li with
      | none => b0
      | some k =>
        let b1 := b0.putHot k { tag := b0.hotTag li, hslot := BitVec.ofNat 22 slot, stripe := BitVec.ofNat 10 x.1, pos := BitVec.ofNat 4 x.2, li := li }
        let lost := b0.lostMembers c slot x.1
        if b0.locLost loc && (decide (toleranceOf c < lost.length) || !b0.parityStands c slot x.1) then (b1.bump 0x5810 0x03 1).poisonLine li 0x5801 else b1

/-- The lines of a tile row, in stripe and position order. -/
def rowLines (row : Nat) : List (Nat × Nat) := (List.range 64).flatMap fun s => (List.range 16).map fun p => (row * 64 + s, p)

/-- Every row of some plans is read, in plan order (R84). -/
def Blk.replayPlans (b : Blk) (recs : List JRec) (plans : List (Nat × Nat)) : Blk :=
  let rows := plans.map Prod.fst
  let b1 := b.onTwill fun t => { t with rows := plans.foldl (fun m x => m.put x.1 { base := x.2, cls := b.slotCls (x.1 / 16) }) t.rows }
  plans.foldl (fun c x => (rowLines (x.1 % 16)).foldl (Blk.replayLine recs rows (x.1 / 16) x.2) c) b1

/-- An open stripe is closed: its parity covers the lines present (R62, R84). -/
def Blk.closeOpen (base : Nat) (slot : Nat) (b : Blk) (s : Nat) : Blk :=
  let c := b.slotCls slot
  let locs := (List.range 16).map fun p => b.slotLine c slot s p
  if (locs.all fun loc => !b.media.lines.has loc) || b.parityStands c slot s then b
  else (List.range (parities c)).foldl (fun b i =>
    let x : Mem := { cls := c, slot := slot, stripe := s, m := parityMember c s i }
    b.writeNow [(x, { data := parityOver i (locs.map fun loc => b.stored loc), md := hotParityMd i (base + s % 64) })]) b

/-- The base of a tile row as its parity lines give it (R24). -/
def Blk.mediaBase (b : Blk) (slot row : Nat) : Option Nat :=
  ((List.range 64).filterMap fun s => (b.media.lines.find (b.memberLine (b.slotCls slot) slot (row * 64 + s) (parityMember (b.slotCls slot) (row * 64 + s) 0))).map fun y => fld y.md.toNat 0 36 - s).head?

/-- The hot pool's tile rows that hold a line, as the map now stands: closed, with their invalid lines counted; the rows of the plans that hold none can still be taken (R81). -/
def Blk.rebuildRows (b : Blk) (plans : List (Nat × Nat)) : Blk :=
  let held (k : Nat) : Bool := (rowLines (k % 16)).any fun x => b.media.lines.has (b.slotLine (b.slotCls (k / 16)) (k / 16) x.1 x.2)
  let keys := (b.hotSlots.flatMap fun s => (List.range 16).map fun t => s * 16 + t).filter held
  let row (k : Nat) : TileRow :=
    { invalid := 1024 - (b.twill.hot.filter fun e => e.2.hslot.toNat * 16 + e.2.stripe.toNat / 64 == k).length, closed := true, cls := b.slotCls (k / 16)
      base := ((plans.find? fun x => x.1 == k).map Prod.snd).getD ((b.mediaBase (k / 16) (k % 16)).getD 0), planned := plans.any fun x => x.1 == k }
  b.onTwill fun t => { t with
    rows := keys.foldl (fun m k => m.put k (row k)) [], plan := t.plan.filter fun x => !keys.contains x.1, planNext := t.planNext.filter fun x => !keys.contains x.1 }

/-! ### The journal (R83 step 4) -/

/-- A record takes effect where the map still shows the state that it started from. -/
def Blk.applyRecord (b : Blk) (x : JRec) : Blk :=
  match x.type, x.items with
  | 0x01, [r, old, new] => match b.regionEntry r with
    | some e => if e.slot.toNat = old then (b.putRegion r { e with mig := true }).onTwill fun t => { t with mig := t.mig.put r { old := old, new := new } } else b
    | none => b
  | 0x02, [r, new] => match b.regionEntry r, b.twill.mig.find r with
    | some e, some m => if m.new = new ∧ e.slot.toNat = m.old then
        (b.putRegion r { e with slot := BitVec.ofNat 22 new, wear := BitVec.ofNat 18 (b.slotWear new), age := 0, mig := false }).onTwill fun t => { t with mig := t.mig.del r }
      else b
    | _, _ => b
  | 0x03, [r, rot, _] => match b.regionEntry r with
    | some e => if e.rot.toNat = rot then b.putRegion r { e with rotp := true } else b
    | none => b
  | 0x05, [r, rot] => match b.regionEntry r with
    | some e => if e.rotp ∧ (e.rot + 1).toNat = rot then b.putRegion r { e with rot := e.rot + 1, rotp := false, age := 0 } else b
    | none => b
  | 0x06, items => items.foldl (fun c v =>
      let li := v % 2 ^ 36
      match c.hotFind li with
      | some (k, _) => if c.demotionItem li = v then c.clearHot k else c
      | none => c) b
  | 0x09, [old, new] => (b.setSlot old { b.slotSt old with use := .region }).setSlot new { b.slotSt new with use := .hotPool }
  | 0x0A, [pos, d] => b.knowSubst pos d
  | _, _ => b

/-- The last start of a region's pass in the ring, with the last cursor after it: the park stripe, and the stripe that was next to be moved. -/
def passRecord (recs : List JRec) (r : Nat) : Nat × Nat := recs.foldl (fun a x => match x.type, x.items with
  | 0x03, [q, _, park] => if q = r then (park, 1022) else a
  | 0x04, [q, c] => if q = r then (a.1, c) else a
  | _, _ => a) (r, 1022)

/-- The true cursor of a pass: from the journalled one down, the first stripe whose lines the stripe above does not yet hold (R83). -/
def Blk.trueCursor (b : Blk) (r : Nat) (e : RegionEntry) : Nat → Int
  | 0 => -1
  | n + 1 =>
    let moved := (List.range 16).all fun p => (b.media.lines.find (b.slotLine e.cls e.slot.toNat (n + 1) p)).map MLine.md == some (homeMd (b.lineHome r e.rot.toNat n p))
    if moved then b.trueCursor r e n else (n : Int)

/-- A rotation start without its end resumes the pass (R83). -/
def Blk.resumePasses (b : Blk) : Blk :=
  let recs := b.ringRecords
  (b.regionList.filter fun e => e.2.rotp).foldl (fun c x =>
    let k := passRecord recs x.1
    c.onTwill fun t => { t with rot := t.rot.put x.1 { cursor := c.trueCursor x.1 x.2 (k.2 + 1), park := k.1, start := (t.ckpt.map Ckpt.opTime).getD 0 / 1000 } }) b

/-- A migration start without its end discards the copy and leaves the region on its old slot (R83). -/
def Blk.dropMigrations (b : Blk) : Blk :=
  let b1 := b.twill.mig.foldl (fun c x => match c.regionEntry x.1 with
    | some e => c.dropMigration x.1 x.2 e
    | none => c.onTwill fun t => { t with mig := t.mig.del x.1 }) b
  b1.onTwill fun t => { t with regions := t.regions.map fun e => (e.1, { e.2 with mig := false }) }

/-- Region slots that no entry names are given up; regions on slots with a failed location are due to migrate (R434). -/
def Blk.giveUpUnmapped (b : Blk) : Blk :=
  let b1 := (b.twill.slots.filter fun e => e.2.use == .region && (b.regionAt e.1).isNone).foldl (fun c e => c.freeSlot e.1 e.2.wear.toNat) b
  b1.onTwill fun t => { t with migDue := (b1.regionList.filter fun e => (b1.slotSt e.2.slot.toNat).retire).map Prod.fst, retired := (t.slots.filter fun e => e.2.use == .retired).length }

/-! ### The full scan (R85) -/

/-- A home line of a region that stands in a slot: its stripe, and its offset in the region. -/
def Blk.homeIn (b : Blk) (r slot : Nat) : Option (Nat × Nat) :=
  (List.range 1024).findSome? fun s => (List.range 16).findSome? fun p =>
    (b.media.lines.find (b.slotLine (b.slotCls slot) slot s p)).bind fun y => if fld y.md.toNat 14 26 = r then some (s, fld y.md.toNat 0 14) else none

/-- The slot of a translation region, and its rotation offset, as a scan of line metadata finds them; its Add's slot when no line of it stands anywhere. -/
def Blk.scanUnit (b : Blk) (g : Rgn) (c : Blk) (x : Nat × Nat) : Blk :=
  let cands := (List.range (slotsV b.dieCount)).filter fun n => b.isSlot n && b.slotCls n == g.cls && (b.slotUse n == .free || b.slotUse n == .region)
  let found := cands.findSome? fun n => (b.homeIn x.1 n).map fun h => (n, (1024 + h.1 - interleave h.2 b.key / 16) % 1024)
  let y := found.getD (x.2, 0)
  c.putRegion x.1 { slot := BitVec.ofNat 22 y.1, cls := g.cls, rot := BitVec.ofNat 10 y.2, wear := BitVec.ofNat 18 (c.slotWear y.1) }

/-- No checkpoint pair can be read: the region map comes from a scan of the slots, the hot-line table from the rows of the hot pool, the highest write sequence of a line winning; one failure event (R85). -/
def Blk.fullScan (b : Blk) : Blk :=
  let b1 := b.dev.rgns.foldl (fun c g => (g.units.zip g.slots).foldl (b.scanUnit g) c) (b.report { code := 0x4006 })
  let rows := (b1.hotSlots.flatMap fun s => (List.range 16).map fun t => s * 16 + t).filterMap fun k => (b1.mediaBase (k / 16) (k % 16)).map fun base => (k, base)
  (b1.markMapped).replayPlans [] rows

/-! ### MAP_REBUILD (R83) -/

/-- The tables before anything is loaded. -/
def Blk.emptyMap (b : Blk) : Blk := b.onTwill fun t => { t with regions := [], hot := [], rows := [], plan := [], planNext := [], ckpt := none, full := none }

/-- The map that the Adds set up, with what the journal records since (log 87). -/
def Blk.mapOfAdds (b : Blk) : Blk :=
  let b1 := (b.matchRegions []).markMapped
  ((b1.recordsAfter 0).foldl Blk.applyRecord b1).rebuildRows []

/-- The pair's images, the replay of its plans and the journal; without any checkpoint written since the provisioning, the map that the Adds set up (log 87). -/
def Blk.loadMap (b : Blk) : Blk :=
  match b.emptyMap.ckptPair with
  | none => if b.twill.stored.isEmpty then b.emptyMap.mapOfAdds else b.emptyMap.fullScan.rebuildRows []
  | some (f, inc) =>
    let k := inc.getD f
    let b1 := ((b.emptyMap.loadImages f inc).matchRegions k.rgns).markMapped
    let recs := b1.recordsAfter k.jseq
    let plans := k.plan ++ k.planNext
    let b2 := b1.replayPlans recs plans
    let b3 := plans.foldl (fun c x => ((List.range 64).map fun s => x.1 % 16 * 64 + s).foldl (Blk.closeOpen x.2 (x.1 / 16)) c) b2
    (recs.foldl Blk.applyRecord b3).rebuildRows plans

/-- The tables are ready: passes resume, copies of migrations are discarded, slots are counted, and a scheduled resync waits for its regions (R60, R83 step 5). -/
def Blk.mapReady (b : Blk) : Blk :=
  let b1 := b.markMapped.resumePasses.dropMigrations.giveUpUnmapped
  b1.onTwill fun t => { t with freePos := b1.countFree - b1.safety.subst.length }

end Sys2Proof.Machine
end

