-- ==== Sys2Proof/Machine/Link.lean ====
section
/-! DEFINITION. The links of the heads (R208, R209, R215, R231 to R233), DevLoad (R230), configuration space, component registers and the other DOE protocols (R208, R212, R291). -/

namespace Sys2Proof.Machine

/-! ### Link state -/

/-- A head's part changes in a way that may move its quad-lane groups (R209, R344): changes of their domains' state are counted. -/
def Blk.linkChange (b : Blk) (h : Head) (f : HeadSt → HeadSt) : Blk :=
  let c := b.onHead h f
  let col := domainColumn b.eff
  (List.range 4).foldl (fun x g =>
    let i := 194 + 4 * headNum h + g
    if b.domainState col i = c.domainState col i then x else x.bump (0x7100 + i) 0x03 1) c

/-- A sequencer slot has qualified. -/
def Blk.slotGood (b : Blk) (s : Nat) : Bool := (b.canvas.slots.getD s {}).state == 2

/-- A head may train its link (R209): PERSTx_N high, the SerDes rails and REFCLK good, the head working and its link enabled. -/
def Blk.trainable (b : Blk) (h : Head) : Bool :=
  !(b.head h).perst && !(b.head h).failed && b.slotGood 3 && b.slotGood 4 && b.clocks.ref == 1 && b.cfg (headIdx h) 0x05 == 1

/-- Link state of a head without a link: training when it may, disabled by OD 0x2000.05 (R209), else down. -/
def Blk.restLink (b : Blk) (h : Head) : Nat := if b.cfg (headIdx h) 0x05 = 0 then 4 else if b.trainable h then 1 else 0

/-- The link without a partner: no rate, width or Memory_Active. -/
def HeadSt.unlinked (s : HeadSt) (state : Nat) : HeadSt := { s with link := state, rate := 0, width := 0, flit := 0, memActive := false }

/-- A head's requests when its link is lost (R231, R232): what is not accepted is discarded, the responses of what is accepted will be. -/
def Blk.dropRequests (b : Blk) (h : Head) : Blk :=
  (b.clearIngress h).onPath fun p => { p with acc := p.acc.map fun x => if x.h == h then { x with orphan := true } else x }

/-- The output of a mailbox command that runs on is lost (R231). -/
def Blk.muteMailbox (b : Blk) (h : Head) : Blk :=
  let mine (s : Src) : Bool := match s with
    | .mb k _ => k == h
    | .can _ _ _ _ => false
  (b.onVelvet fun v => { v with lineOps := v.lineOps.map fun o => if mine o.src then { o with mute := true } else o }).onMuslin fun m =>
    { m with reply := m.reply.filter fun s => !mine s }

/-- A session of a transport closes (R266). -/
def Blk.closeSession (b : Blk) (t : Nat) : Blk := b.onSession t fun x => { x with maint := false, chal := none }

/-- Number of a head's mailbox among the transports. -/
def mbNum : Head → Nat
  | .A => 1
  | .B => 2

/-- A bulk transfer of a head is aborted (R225, R231). -/
def Blk.abortBulk (b : Blk) (h : Head) : Blk := (b.onHead h fun s => { s with bulk := none }).onDamask fun d =>
  { d with exporting := d.exporting && !(((b.head h).bulk.map fun k => k.od == odKey 0x6820 0x03 && !k.write).getD false) }

/-- The staging set of an owner that resets in state 1 is discarded (R289). -/
def Blk.resetOwner (b : Blk) (h : Head) : Blk :=
  if b.muslin.state = 1 ∧ b.muslin.owner = mbNum h then b.discardStaged 3 0 else b

/-- The head's configuration, its control block and its IDE streams are at their reset values (R231, R301). A hot reset or link disable leaves decoders committed. -/
def HeadSt.resetConfig (s : HeadSt) (keepDecoders : Bool) : HeadSt :=
  { s with config := [], msix := [], mbIrq := false, bgIrq := false, ideMem := {}, ideIo := {}, spdm := {}, ctl := {}, gpf := none,
           decoders := if keepDecoders then s.decoders else [] }

/-- PERST_ASSERT: PERSTx_N, a hot reset or a link disable resets its head (R231). -/
def execPerstAssert (a : Stamp) (h : Head) (kind : ResetKind) (s : State) : Host.Outcome State Fault Refusal :=
  s.command a fun b =>
    if !b.powered then b.onHead h fun x => { x with perst := x.perst || kind == .perst }
    else
      let b1 := (((b.dropRequests h).muteMailbox h).abortBulk h).closeSession (mbNum h)
      let b2 := (b1.resetOwner h).onHead h fun x => { x.resetConfig (kind != .perst) with perst := x.perst || kind == .perst }
      b2.linkChange h fun x => x.unlinked (if kind = .hotReset then b2.restLink h else if b2.cfg (headIdx h) 0x05 = 0 then 4 else 0)

/-- FUNCTION_LEVEL_RESET: the mailbox's foreground command loses its output and the bulk transfer is aborted, nothing else (R231). -/
def execFunctionLevelReset (a : Stamp) (h : Head) (s : State) : Host.Outcome State Fault Refusal :=
  s.command a fun b => if b.running then (b.muteMailbox h).abortBulk h else b

/-- A link that was up is lost without a reset: requests as in R231, one event for the loss, and training again at once (R232). -/
def Blk.linkFalls (b : Blk) (h : Head) : Blk :=
  if (b.head h).link = 2 ∨ (b.head h).link = 3 then
    let b1 := (((b.dropRequests h).linkChange h fun x => x.unlinked (b.restLink h)).bump (headIdx h) 0x08 1)
    b1.report { code := 0x2001, cls := 1, unit := BitVec.ofNat 16 (headNum h) }
  else b.onHead h fun x => x.unlinked (b.restLink h)

/-- LINK_DOWN (R232). -/
def execLinkDown (a : Stamp) (h : Head) (s : State) : Host.Outcome State Fault Refusal :=
  s.command a fun b => if (b.head h).link = 2 ∨ (b.head h).link = 3 then b.linkFalls h else b

/-- LINK_UP: training ends at a rate, a width and a flit mode that the head supports (R208, R209); the 68-B flit is for rates up to 32 GT/s. Memory_Active is set at once in Memory Active (R231). -/
def execLinkUp (a : Stamp) (h : Head) (rate : Fin 5) (width : Fin 17) (flit : Fin 3) (s : State) : Host.Outcome State Fault Refusal :=
  s.command a fun b =>
    if b.trainable h && (b.head h).link != 2 && (b.head h).link != 3 && rate.val != 0 && [1, 2, 4, 8, 16].contains width.val && !(flit.val == 0 && rate.val == 4) then
      b.linkChange h fun x => { x with link := 2, rate := rate.val, width := width.val, flit := flit.val, memActive := b.memoryActive && !b.stopped }
    else b

/-- L1_ENTRY (R208). -/
def execL1Entry (a : Stamp) (h : Head) (s : State) : Host.Outcome State Fault Refusal :=
  s.command a fun b => if (b.head h).link = 2 then b.linkChange h fun x => { x with link := 3 } else b

/-- L1_EXIT: the link is in L0 again. -/
def execL1Exit (a : Stamp) (h : Head) (s : State) : Host.Outcome State Fault Refusal :=
  s.command a fun b => if (b.head h).link = 3 then b.linkChange h fun x => { x with link := 2 } else b

/-! ### DevLoad (R230) -/

/-- Row of the table that an occupancy and a mean hold of `sum / n` ns fall in. -/
def loadLevel (peak sum n : Nat) : Nat :=
  if 8 * peak ≤ 1024 ∧ sum ≤ 100 * n then 0 else if 2 * peak ≤ 1024 ∧ sum ≤ 1000 * n then 1 else if 8 * peak ≤ 7 * 1024 ∧ sum ≤ 10000 * n then 2 else 3

/-- Floors in force now: a starved scrub, the dirty budget's hold, the slow-down request and M7. -/
def Blk.loadFloor (b : Blk) : Nat :=
  if b.thermal.req.isSome || b.holds 7 then 3 else if b.media.lapV.starved || b.media.lapD.starved || b.media.lapS.starved then 2 else 0

/-- DEVLOAD_WINDOW: a window of 16 µs ends; the level rises at once and falls by one step in 4 windows. -/
def execDevloadWindow (a : Stamp) (h : Head) (s : State) : Host.Outcome State Fault Refusal :=
  s.command a fun b =>
    if !b.running then b
    else
      let x := b.head h
      let want := max (loadLevel x.dlPeak x.dlHold x.dlCount) (max x.dlFloor b.loadFloor)
      let fall := decide (3 ≤ x.dlWait)
      let new := if x.devload ≤ want then want else if fall then x.devload - 1 else x.devload
      let b1 := if new = 3 then b.tw 113 1 else b
      b1.onHead h fun x => { x with devload := new, dlWait := if want < x.devload && !fall then x.dlWait + 1 else 0,
                                    dlPeak := x.ingress.length, dlHold := 0, dlCount := 0, dlFloor := b.loadFloor }

/-! ### Configuration space and component registers -/

/-- Key of a configuration field: BARs at 2^16 + bar, others at their offset. -/
def barKey (bar : Nat) : Nat := 65536 + bar

/-- A configuration doubleword: Vendor and Device ID, Revision ID with the class code 0x050210, a written field, else the standards' own (log 26). -/
def Blk.configDword (b : Blk) (h : Head) (off : Nat) : Nat :=
  let o := off / 4 * 4
  if o = 0 then Config.vendorId.toNat + 65536 * Config.deviceId.toNat
  else if o = 8 then Config.revisionId.toNat + 256 * 0x050210
  else if 0x10 ≤ o ∧ o < 0x28 then (b.head h).config.getD (barKey ((o - 0x10) / 4)) 0
  else ((b.head h).config.find o).getD (Config.standardField (headNum h) o % 2 ^ 32)

/-- The head answers configuration requests: its link is up or in L1 (R231). -/
def Blk.configOpen (b : Blk) (h : Head) : Bool := ((b.head h).link == 2 || (b.head h).link == 3) && !(b.head h).failed

/-- CONFIGURATION_REQUEST (R208, R231, R291): read-only identity fields keep their value. -/
def execConfigurationRequest (a : Stamp) (h : Head) (r : ConfigRequest) (s : State) : Host.Outcome State Fault Refusal :=
  s.command a fun b =>
    if !b.configOpen h then b
    else match r with
      | .readDword off => b.emit (.config h (b.configDword h off.toNat))
      | .writeBar bar v => b.onHead h fun x => { x with config := x.config.put (barKey bar.val) v.toNat }
      | .writeMsix e addr data masked => b.onHead h fun x => { x with msix := x.msix.put e.val (addr.toNat, data.toNat, masked) }
      | .writeField off v =>
        let o := off.toNat / 4 * 4
        if o = 0 ∨ o = 8 then b else b.onHead h fun x => { x with config := x.config.put o v.toNat }

/-- A decoder that may be committed: its number not committed or not locked, base, size and skip multiples of 256 MiB, ways 1, 2, 4 or 8, granularity 256 B to 16 KiB, and every lower decoder committed (R212). -/
def HeadSt.mayCommit (s : HeadSt) (n base size skip ways gran : Nat) : Bool :=
  !(((s.decoders.find n).map Decoder.lock).getD false) && [base, size, skip].all (fun v => v % 0x10000000 == 0) && decide (0 < size)
    && [1, 2, 4, 8].contains ways && [256, 512, 1024, 2048, 4096, 8192, 16384].contains gran && (List.range n).all fun i => s.decoders.has i

/-- COMPONENT_REGISTER_WRITE: commit or uncommit of an HDM decoder (R212), and the interrupt enables of the mailbox control register (R229). Decoders are committed in increasing and uncommitted in decreasing order. -/
def execComponentRegisterWrite (a : Stamp) (h : Head) (w : ComponentWrite) (s : State) : Host.Outcome State Fault Refusal :=
  s.command a fun b =>
    if !b.configOpen h then b
    else match w with
      | .decoderCommit n base size skip ways gran pos lock =>
        if (b.head h).mayCommit n.val base size skip ways gran then
          b.onHead h fun x => { x with decoders := x.decoders.put n.val { base := base, size := size, skip := skip, ways := ways, gran := gran, pos := pos, lock := lock } }
        else b
      | .decoderUncommit n =>
        let d := (b.head h).decoders
        if ((d.find n.val).map Decoder.lock).getD true || (d.any fun e => decide (n.val < e.1)) then b
        else b.onHead h fun x => { x with decoders := x.decoders.del n.val }
      | .mailboxControl db bg => b.onHead h fun x => { x with mbIrq := db, bgIrq := bg }

/-- CXL_COMPLIANCE_REQUEST: over DOE, answered as the standard gives it (R208, log 26). -/
def execCxlComplianceRequest (a : Stamp) (h : Head) (s : State) : Host.Outcome State Fault Refusal :=
  s.command a fun b => if b.configOpen h then (b.emit (.doe h 3 [b.freeNum])).useFree else b

/-- CDAT_READ: two DSMAS entries, Voile and Denim, both non-volatile, each with its latencies in ns and bandwidths in GB/s (R215). -/
def execCdatRead (a : Stamp) (h : Head) (s : State) : Host.Outcome State Fault Refusal :=
  s.command a fun b => if b.configOpen h then b.emit (.doe h 0 [0, 1, 2400, 350, 115, 110, 1, 1, 2400, 350, 115, 110]) else b

end Sys2Proof.Machine
end

