-- ==== Sys2Proof/Machine/Settings.lean ====
section
/-! DEFINITION. What a dictionary value does as it takes effect, at the swap of an apply (R276) or by a direct write of an internal register (R300). -/

namespace Sys2Proof.Machine

/-- A coefficient of a die's calibration record, written by the host (R133). -/
def DieCal.write (k : DieCal) (id : BitVec 64) (sub v : Nat) : DieCal :=
  let k1 : DieCal := { k with dieId := id }
  if sub ≤ 3 then { k1 with nu := k1.nu.set (sub - 1) v, flags := k1.flags ||| 2 }
  else if sub = 4 then { k1 with theta := v, flags := k1.flags ||| 4 }
  else { k1 with chi := sDec 32 v, flags := k1.flags ||| 4 }

/-- A coefficient takes effect, and goes to Felt with the set (R132, R279). -/
def Blk.calWrite (b : Blk) (key v : Nat) : Blk :=
  let d := key / 256 - 0x5100
  b.putCal d fun k => k.write (b.die d).id (key % 256) v

/-- Dies that are present, by number (R207). -/
def Blk.diesPresent (b : Blk) : List Nat := (b.media.dies.filter fun e => e.2.state == 1 || e.2.state == 2).map Prod.fst

/-- Die alert temperature, mode register TALRT (R198, OD 0x7800.09), written to every die present. -/
def Blk.writeTalrt (b : Blk) (v : Nat) : Blk :=
  b.diesPresent.foldl (fun b d => (b.sendDie d (.mrw 0x04 (BitVec.ofNat 16 v))).onDie d fun x => { x with mr := x.mr.put 4 v }) b

/-- The value of an entry has taken effect: what the entry sets in motion (R146, R145, R209, R276, R379, R397). -/
def Blk.effect (b : Blk) (key v : Nat) : Blk :=
  let idx := key / 256
  let sub := key % 256
  if (idx = 0x2000 ∨ idx = 0x2400) ∧ sub = 0x05 then
    let h : Head := if idx = 0x2000 then .A else .B
    if v = 0 then b.linkFalls h
    else if (b.head h).link = 4 then b.linkChange h fun x => x.unlinked (b.restLink h) else b
  else if idx = 0x6000 ∧ sub = 0x02 then (if b.memoryActive then b.applyMode else b)
  else if idx = 0x9000 ∧ sub = 0x04 then b.onFelt fun f => { f with policy := List.replicate 3 v }
  else if idx = 0x7800 ∧ sub = 0x09 then b.writeTalrt v
  else if 0x8980 ≤ idx ∧ idx ≤ 0x8AFF ∧ sub = 0x02 then b.onTweed fun t => { t with ctr := t.ctr.del (idx - 0x8900), flags := t.flags ||| 4 }
  else b

/-- A value as its entry keeps it: the reserved bits [7:2] of a selector are ignored and read 0 (R5, R397). -/
def keptValue (key v : Nat) : Nat := if 0x898002 ≤ key ∧ key ≤ 0x8AFF02 ∧ key % 256 = 2 then v / 256 * 256 + v % 4 else v

/-- A staged value takes effect. -/
def Blk.takeValue (b : Blk) (key v : Nat) : Blk :=
  if odCal key then b.calWrite key v
  else (({ b with direct := b.direct.del key } : Blk).odSet (key / 256) (key % 256) (keptValue key v)).effect key (keptValue key v)

/-- A direct write takes effect, in the active and the shadow bank; it never goes to Felt (R300): the persistent copy keeps the entry's earlier value, and of the calibration set only the working copy changes. -/
def Blk.takeDirect (b : Blk) (key v : Nat) : Blk :=
  let d := key / 256 - 0x5100
  if odCal key then b.onGauze fun g => { g with work := g.work.put d ((b.dieCal d).write (b.die d).id (key % 256) v) }
  else
    let old := (b.direct.find key).getD (b.cfg (key / 256) (key % 256))
    let w := keptValue key v
    let b1 : Blk := { b with direct := b.direct.put key old, odOld := if b.odOld.has key then b.odOld.put key w else b.odOld }
    (b1.odSet (key / 256) (key % 256) w).effect key w

/-- The CAN FD bit rates follow their entries once the response has gone out at the old ones; the controller then waits for 11 recessive bits (R281). -/
def Blk.newRates (b : Blk) : Blk :=
  if b.can.arb = b.cfg 0x1230 0x01 ∧ b.can.dat = b.cfg 0x1230 0x02 then b
  else b.onCan fun c => { c with arb := b.cfg 0x1230 0x01, dat := b.cfg 0x1230 0x02, joined := false }

/-- The copy that holds every RWP value, written as a whole (R268, R279); a value written directly is never in it (R300). -/
def Blk.parameterCopy (b : Blk) : NMap Nat := odPersistent.foldl (fun m e => m.put e.1 (((b.direct.find e.1).orElse fun _ => b.od.find e.1).getD e.2)) []

end Sys2Proof.Machine
end

