-- ==== Sys2Proof/Machine/Muslin.lean ====
section
/-! DEFINITION. Muslin: the staging set, the consistency rules, the single-instant apply and its persistence (R272 to R279), and the sessions of the transports (R265, R266). -/

namespace Sys2Proof.Machine

/-! ### The staging set (R272) -/

/-- A selector of the event table of R397. -/
def selectorOk (v : Nat) : Bool :=
  let event := fld v 16 8
  let unit := fld v 8 8
  match fld v 24 8 with
  | 0 => event == 0
  | 1 => decide (1 ≤ event) && decide (event ≤ 6)
  | 2 => decide (1 ≤ event) && decide (event ≤ 8) && (decide (unit ≤ 31) || unit == 255)
  | 3 => decide (1 ≤ event) && decide (event ≤ 4)
  | 4 => decide (1 ≤ event) && decide (event ≤ 2) && (decide (unit ≤ 63) || unit == 255)
  | _ => false

/-- A value that is staged has the entry's own further range (R396). -/
def stageRange (idx v : Nat) : Bool := if 0x8980 ≤ idx ∧ idx ≤ 0x8AFF then selectorOk v else true

/-- The set with an entry's value, none when it would be past 1,024 entries or 64 KiB. -/
def Muslin.stagePut (m : Muslin) (key : Nat) (val : List Byte) : Option (NMap (List Byte)) :=
  let l := m.staged.put key val
  if l.length ≤ 1024 ∧ ({ m with staged := l } : Muslin).bytes ≤ 65536 then some l else none

/-- A transport may stage now: the set is idle, or its own and not committed (R272, R273). -/
def Muslin.mayStage (m : Muslin) (t : Nat) : Bool := m.state == 0 || (m.state == 1 && m.owner == t)

/-- A Stage that has passed the checks of R270. -/
def Blk.stageAction (b : Blk) (src : Src) (idx sub : Nat) (val : List Byte) : Blk :=
  let done (c : Blk) (st : Nat) : Blk := c.reply src { op := 3, idx := idx, sub := sub, st := st }
  if !stageRange idx (leNat val) then done b 8
  else if !b.muslin.mayStage (transOf src) then done b 0x0A
  else match b.muslin.stagePut (odKey idx sub) val with
    | none => done b 8
    | some l => done (b.onMuslin fun m => { m with state := 1, owner := transOf src, staged := l, lastAct := b.now }) 0

/-- STAGE (R270, R272). -/
def execStage (a : Stamp) (src : Src) (idx : BitVec 16) (sub : BitVec 8) (val : List Byte) (s : State) : Host.Outcome State Fault Refusal :=
  s.command a fun b => b.admitReq src { op := 3, idx := idx.toNat, sub := sub.toNat, w67 := val.length, data := val } fun c =>
    let st := c.checkWrite src true idx.toNat sub.toNat val
    if st = 0 then c.stageAction src idx.toNat sub.toNat val else c.reply src { op := 3, idx := idx.toNat, sub := sub.toNat, st := st }

/-- Defaults that a write of OD 0x1200.0D stages: every RWP entry outside the calibration set and the Damask key entries, OD 0x6820 (R268). -/
def stagedDefaults : List (Nat × List Byte) :=
  (odPersistent.filter fun e => e.1 / 256 != 0x6820).map fun e =>
    (e.1, leBytes (((odRow? (e.1 / 256) (e.1 % 256)).map fun r => odTypeLen r.ty).getD 0) e.2)

/-- The defaults enter the staging set, each in place of an earlier staged value (R268). -/
def Blk.defaultsAction (b : Blk) (src : Src) : Blk :=
  if !b.muslin.mayStage (transOf src) then b.wrote src 0x1200 0x0D 0x0A
  else
    let l := stagedDefaults.foldl (fun m e => m.put e.1 e.2) b.muslin.staged
    if l.length ≤ 1024 ∧ ({ b.muslin with staged := l } : Muslin).bytes ≤ 65536 then
      (b.onMuslin fun m => { m with state := 1, owner := transOf src, staged := l, lastAct := b.now }).wrote src 0x1200 0x0D 0
    else b.wrote src 0x1200 0x0D 8

/-- STAGE_DEFAULTS: a write of OD 0x1200.0D (R268). -/
def execStageDefaults (a : Stamp) (src : Src) (s : State) : Host.Outcome State Fault Refusal :=
  s.command a fun b => b.writeReq src 0x1200 0x0D [1] fun _ c => c.defaultsAction src

/-! ### Commit, abort, status (R273, R274) -/

/-- The apply instant that a Commit names: 0 immediate, 1 next mode boundary, 2 a tick. -/
def applyAtOf (inst tick : Nat) : Option ApplyAt := match inst with
  | 0 => some .immediate
  | 1 => some .modeBoundary
  | 2 => some (.tick tick)
  | _ => none

/-- COMMIT: the set is to be checked; it is answered at the end of the checking, or, immediate, of the apply (R273). Any other apply instant is out of range. -/
def execCommit (a : Stamp) (src : Src) (inst : BitVec 8) (tick : BitVec 48) (s : State) : Host.Outcome State Fault Refusal :=
  s.command a fun b => b.admitReq src { op := 4, data := leBytes 1 inst.toNat ++ leBytes 6 tick.toNat } fun c =>
    match applyAtOf inst.toNat tick.toNat with
    | none => c.reply src { op := 4, st := 8 }
    | some w =>
      if c.muslin.state = 0 then c.reply src { op := 4, st := 0x0C }
      else if c.muslin.owner ≠ transOf src ∨ c.muslin.state ≠ 1 then c.reply src { op := 4, st := 0x0A }
      else c.onMuslin fun m => { m with state := 2, level := c.level src, when_ := w, modeAt := c.eff, opAt := c.opTime, reply := some src, lastAct := c.now }

/-- ABORT: in states 1 and 3 the set is discarded (R270, R273). -/
def execAbort (a : Stamp) (src : Src) (s : State) : Host.Outcome State Fault Refusal :=
  s.command a fun b => b.admitReq src { op := 5 } fun c =>
    if c.muslin.state = 0 then c.reply src { op := 5, st := 0x0C }
    else if c.muslin.owner = transOf src ∧ (c.muslin.state = 1 ∨ c.muslin.state = 3) then (c.discardStaged 3 0).reply src { op := 5, st := 0 }
    else c.reply src { op := 5, st := 0x0A }

/-- STATUS: the Muslin state and the number of staged entries (R270). -/
def execStatus (a : Stamp) (src : Src) (s : State) : Host.Outcome State Fault Refusal :=
  s.command a fun b => b.admitReq src { op := 6 } fun c => c.reply src { op := 6, st := 0, staged := c.muslin.staged.length, mst := c.muslin.state }

/-- STAGING_TIMEOUT: the owner has been silent for OD 0x1200.0C seconds in state 1 (R272). -/
def execStagingTimeout (a : Stamp) (s : State) : Host.Outcome State Fault Refusal :=
  s.command a fun b =>
    if b.muslin.state = 1 ∧ b.cfg 0x1200 0x0C * 1000000000 ≤ b.since b.muslin.lastAct then b.discardStaged 5 0 else b

/-! ### The consistency rules (R275) -/

/-- A value as it stands after the commit: staged, else in effect. -/
def Blk.merged (b : Blk) (idx sub : Nat) : Nat := match b.muslin.staged.find (odKey idx sub) with
  | some v => leNat v
  | none => b.odNumber b.muslin.owner idx sub

/-- Keys of the staged entries with their rows. -/
def Blk.stagedRows (b : Blk) : List (Nat × OdRow) := b.muslin.staged.filterMap fun e => (odRow? (e.1 / 256) (e.1 % 256)).map fun r => (e.1, r)

/-- A staged entry is RWP. -/
def Blk.stagesRwp (b : Blk) : Bool := b.stagedRows.any fun e => e.2.acc == .rwp

/-- A staged entry belongs to the calibration set. -/
def Blk.stagesCal (b : Blk) : Bool := b.muslin.staged.any fun e => odCal e.1

/-- Rule 8 for a sequencer slot: a device slot is not unused, a used external one has a nominal, and a used slot's thresholds stand in their ranges of R347, the fall below the good one. -/
def Blk.slotRule (b : Blk) (s : Nat) : Bool :=
  let mode := b.merged (0x7010 + s) 1
  let n := b.merged (0x7010 + s) 2
  let good := b.merged (0x7010 + s) 3
  let fall := b.merged (0x7010 + s) 4
  if mode = 0 then decide (7 ≤ s)
  else (decide (s < 7) || decide (0 < n)) && decide (fall < good) && decide (85 * n ≤ 100 * good) && decide (100 * good ≤ 97 * n) && decide (5 * n ≤ 100 * fall) && decide (100 * fall ≤ 50 * n)

/-- Bytes of one persistent-parameter copy, 16 B for each RWP entry taken as an upper bound (rule 10). -/
def copyBytes : Nat := 16 * odPersistent.length

/-- Rule n holds. -/
def Blk.ruleHolds (b : Blk) (shadowOk : Bool) (n : Nat) : Bool :=
  let m := b.muslin
  match n with
  | 1 => b.stagedRows.all fun e => decide (e.2.wlevel ≤ m.level) && e.2.trans.testBit (m.owner - 1)
  | 2 => m.staged.all fun e => b.modeAllows (e.1 / 256) (e.1 % 256)
  | 3 => !b.stagesRwp || b.nvwp
  | 4 => !b.stagesCal || (b.gauze.calOpen.isSome && b.nvwp)
  | 5 => match m.when_ with
    | .tick t => decide (m.opAt + 1 ≤ t) && decide (t ≤ m.opAt + 86400000)
    | _ => true
  | 6 => decide (b.merged 0x5820 0x02 ≤ b.merged 0x5820 0x01)
  | 7 => m.owner == 3 || !(b.merged 0x2000 0x05 == 0 && b.merged 0x2400 0x05 == 0)
  | 8 => (List.range 12).all b.slotRule
  | 9 => b.merged 0x1230 0x05 == 0 || b.can.macKey.isSome
  | 10 => decide (copyBytes ≤ 131072)
  | _ => shadowOk

/-- The first of some rules that is violated. -/
def Blk.brokenRule (b : Blk) (shadowOk : Bool) (rules : List Nat) : Option Nat := rules.find? fun n => !b.ruleHolds shadowOk n

/-- A set fails a rule: its number is kept, the failure counted, and the set discarded. -/
def Blk.failCommit (b : Blk) (result rule : Nat) : Blk := ((b.odSet 0x1200 0x06 rule).bump 0x1200 0x09 1).discardStaged result rule

/-- COMMIT_CHECK_END: the rules in number order, the last on whether every shadow bank loaded with the right CRC (R273, R275). -/
def execCommitCheckEnd (a : Stamp) (shadowOk : Bool) (s : State) : Host.Outcome State Fault Refusal :=
  s.command a fun b =>
    if b.muslin.state ≠ 2 then b
    else match b.brokenRule shadowOk [1, 2, 3, 4, 5, 6, 7, 8, 9, 10, 11] with
      | some n => b.failCommit 1 n
      | none =>
        let b1 := b.onMuslin fun m => { m with state := 3 }
        match b.muslin.when_, b.muslin.reply with
        | .immediate, _ => b1
        | _, some src => (b1.onMuslin fun m => { m with reply := none }).reply src { op := 4, st := 0 }
        | _, none => b1

/-! ### The apply (R274, R276 to R278) -/

/-- The apply instant has been reached (R274). -/
def Blk.instantReached (b : Blk) : Bool := match b.muslin.when_ with
  | .immediate => true
  | .modeBoundary => b.eff != b.muslin.modeAt
  | .tick t => decide (t ≤ b.opTime)

/-- Clock domain whose blocks hold the value of an index: heads and fabric FAB, channels JCH, Damask CRY, Canvas and CAN FD AON, engines the rest. -/
def odDomain (idx : Nat) : Dom :=
  if (0x2000 ≤ idx ∧ idx < 0x2800) ∨ (0x6000 ≤ idx ∧ idx < 0x6800) then .fab
  else if 0x3000 ≤ idx ∧ idx < 0x4000 then .jch
  else if 0x6800 ≤ idx ∧ idx < 0x7000 then .cry
  else if idx = 0x1230 ∨ (0x7000 ≤ idx ∧ idx < 0x7400) then .aon
  else .eng

/-- The staged values whose domains have swapped take effect; the values that they replace stay readable for the requests of the old epoch (R276). -/
def Blk.swapValues (b : Blk) (noAck : List Dom) : Blk :=
  let old : NMap Nat := b.muslin.staged.foldl (fun m e => NMap.put m e.1 (b.cfg (e.1 / 256) (e.1 % 256))) []
  b.muslin.staged.foldl (fun b e => if noAck.contains (odDomain (e.1 / 256)) then b else b.takeValue e.1 (leNat e.2)) { b with odOld := old }

/-- A calibration import that waited for the host's set is applied (R289), when rule 4 still holds at its instant; else it is discarded, and the import status says so (R135, R272, R273). -/
def Blk.heldImport (b : Blk) : Blk := match b.muslin.importWait with
  | some l =>
    if 2 ≤ b.muslin.state ∨ !b.applyOpen then b
    else
      let b1 := b.onMuslin fun m => { m with importWait := none }
      if b.gauze.calOpen.isNone || !b.nvwp then b1.odSet 0x5080 0x02 0x03000000 else b1.calImport l
  | none => b

/-- The swap is complete: counters, event, response, the copies that persistence is to write, and what followed at the swap (R273, R277, R279). -/
def Blk.swapDone (b : Blk) (pauseNs : Nat) (rwp cal : Bool) (src : Option Src) : Blk :=
  let b1 := b.swapped pauseNs
  let copy := if rwp then some b1.parameterCopy else b1.muslin.queued
  let b2 := (b1.onMuslin fun m => { m with state := 0, owner := 0, staged := [], reply := none, queued := copy, calQueued := m.calQueued || cal }).onGauze fun g =>
    { g with calSeq := if cal then g.calSeq + 1 else g.calSeq }
  let b3 := b2.report { code := 0x1201 }
  let b4 := match src with
    | some x => b3.reply x { op := 4, st := 0 }
    | none => b3
  b4.newRates.heldImport

/-- APPLY_INSTANT: T is reached (R273, R274, R277). Domains that do not acknowledge leave the apply stuck, acceptance closed (R278). -/
def execApplyInstant (a : Stamp) (noAck : List Dom) (pauseNs : Nat) (s : State) : Host.Outcome State Fault Refusal :=
  s.command a fun b =>
    if b.muslin.state ≠ 3 ∨ !b.instantReached ∨ !b.applyOpen then b
    else match b.brokenRule true [1, 2, 3, 4, 7] with
      | some n => (b.failCommit 2 n).report { code := 0x1202 }
      | none =>
        if noAck = [] then
          (b.swapValues []).swapDone pauseNs (b.stagedRows.any fun e => e.2.acc == .rwp && !odCal e.1) b.stagesCal b.muslin.reply
        else ((b.swapValues noAck).onMuslin fun m => { m with state := 4, stuck := some (b.now, noAck), epoch := !m.epoch }).onModes fun m => { m with closed := true }

/-- Bit of a domain in the record of an apply fault. -/
def domBit : Dom → Nat
  | .fab => 0
  | .eng => 1
  | .jch => 2
  | .cry => 3
  | .aon => 4
  | .serdes => 5
  | .control .A => 6
  | .control .B => 7

/-- APPLY_FAULT: 1.5 µs after T a domain has not acknowledged: a safety detection; the heads then handle requests as in M11, and the device enters M11 (R278). -/
def execApplyFault (a : Stamp) (s : State) : Host.Outcome State Fault Refusal :=
  s.command a fun b => match b.muslin.stuck with
    | none => b
    | some (t, ds) =>
      if b.since t < 1500 then b
      else
        let mask := ds.foldl (fun n d => n ||| 1 <<< domBit d) 0
        let b1 := ((b.report { code := 0x1203, data := leBytes 1 mask }).bump 0x1200 0x09 1).discardStaged 6 0
        ((b1.onModes fun m => { m with closed := false }).safeStop 0x1203).detect 13 true

/-! ### Persistence (R279) -/

/-- A queued copy is lost to a refusal of Felt. -/
def Blk.persistFailed (b : Blk) : Blk := (b.bump32 0x1200 0x0F 1).report { code := 0x1205 }

/-- The queued parameter copy is written to Felt, or refused. -/
def Blk.persistParams (b : Blk) : Blk := match b.muslin.queued with
  | none => b
  | some q =>
    let b1 := b.onMuslin fun m => { m with queued := none }
    if b.feltProtected 0 then b1.feltRefused.persistFailed
    else if b.itemFixed 2 then b1.persistFailed
    else (b1.onFelt fun f => { f with params := some q }).itemWrite 2

/-- The changed calibration set is written to Felt, or refused. -/
def Blk.persistCal (b : Blk) : Blk :=
  if !b.muslin.calQueued then b
  else
    let b1 := b.onMuslin fun m => { m with calQueued := false }
    if b.feltProtected 1 then b1.feltRefused.persistFailed
    else if b.itemFixed 1 then b1.persistFailed
    else (b1.onGauze fun g => { g with kept := none }).itemWrite 1

/-- PARAMETER_PERSIST: the copies that wait are written to Felt (R279). -/
def execParameterPersist (a : Stamp) (s : State) : Host.Outcome State Fault Refusal :=
  s.command a fun b => if b.running then b.persistParams.persistCal.heldImport else b

/-! ### Sessions (R265, R266) -/

/-- A Read of OD 0x1210.02: a fresh challenge in place of the last. -/
def Blk.challengeAction (b : Blk) (src : Src) : Blk :=
  let v : BitVec 64 := b.drawn.setWidth 64
  (b.draw.onSession (transOf src) fun x => { x with chal := some (v, b.now) }).reply src { op := 1, idx := 0x1210, sub := 2, st := 0, val := leBytes 8 v.toNat }

/-- CHALLENGE_READ (R266). -/
def execChallengeRead (a : Stamp) (src : Src) (s : State) : Host.Outcome State Fault Refusal :=
  s.command a fun b => b.admitReq src { op := 1, idx := 0x1210, sub := 2 } fun c => c.challengeAction src

/-- A maintenance session opens. -/
def Blk.openSession (b : Blk) (src : Src) : Blk :=
  (((b.onSession (transOf src) fun x => { x with maint := true, lastReq := b.now, wrong := 0 }).report { code := 0x1207 })).wrote src 0x1210 3 0

/-- The response that opens a session of a transport under the maintenance key: the challenge is at most 10 s old. -/
def Blk.responseRight (b : Blk) (t : Nat) (key : BitVec 256) (v : BitVec 64) : Bool := match (b.session t).chal with
  | some (c, at_) => decide (b.since at_ ≤ 10000000000) && Config.cmac8 key (leBytes 8 c.toNat ++ leBytes 1 t) == v
  | none => false

/-- A wrong or expired response; the third in a row locks the transport's responses out for 60 s. -/
def Blk.wrongResponse (b : Blk) (src : Src) : Blk :=
  (b.onSession (transOf src) fun x => if 2 ≤ x.wrong then { x with wrong := 0, lockout := some (b.now + 60000000000) } else { x with wrong := x.wrong + 1 }).wrote src 0x1210 3 6

/-- A write of OD 0x1210.03. -/
def Blk.responseAction (b : Blk) (src : Src) (v : BitVec 64) : Blk :=
  let t := transOf src
  let locked := match (b.session t).lockout with
    | some e => decide (b.now < e)
    | none => false
  if t = 3 ∧ b.can.access ≠ 2 then b.wrote src 0x1210 3 7
  else if locked then b.wrote src 0x1210 3 0x0A
  else match b.felt.maintKey with
    | none => if b.nvwp then b.openSession src else b.wrote src 0x1210 3 0x0E
    | some k => if b.responseRight t k v then b.openSession src else b.wrongResponse src

/-- RESPONSE: a write of OD 0x1210.03 (R266). -/
def execResponse (a : Stamp) (src : Src) (v : BitVec 64) (s : State) : Host.Outcome State Fault Refusal :=
  s.command a fun b => b.writeReq src 0x1210 0x03 (leBytes 8 v.toNat) fun n c => c.responseAction src (BitVec.ofNat 64 n)

/-- A write of OD 0x1210.04. -/
def Blk.closeAction (b : Blk) (src : Src) : Blk := (b.closeSession (transOf src)).wrote src 0x1210 4 0

/-- CLOSE_MAINTENANCE: a write of OD 0x1210.04 (R266). -/
def execCloseMaintenance (a : Stamp) (src : Src) (s : State) : Host.Outcome State Fault Refusal :=
  s.command a fun b => b.writeReq src 0x1210 0x04 [1] fun _ c => c.closeAction src

/-- MAINTENANCE_IDLE_TIMEOUT: OD 0x1210.07 seconds without a maintenance-level request (R266). -/
def execMaintenanceIdleTimeout (a : Stamp) (src : Src) (s : State) : Host.Outcome State Fault Refusal :=
  s.command a fun b =>
    let x := b.session (transOf src)
    if x.maint && decide (b.cfg 0x1210 0x07 * 1000000000 ≤ b.since x.lastReq) then b.closeSession (transOf src) else b

/-- RESPONSE_LOCKOUT_END: the 60 s are over (R266). -/
def execResponseLockoutEnd (a : Stamp) (src : Src) (s : State) : Host.Outcome State Fault Refusal :=
  s.command a fun b => match (b.session (transOf src)).lockout with
    | some e => if e ≤ b.now then b.onSession (transOf src) fun x => { x with lockout := none } else b
    | none => b

end Sys2Proof.Machine
end

