-- ==== Sys2Proof/Machine/Snapshot.lean ====
section
/-! DEFINITION. Gauze's snapshots (R130): their bytes (R116, R118, R133), where their lines stand, in which order they are written, when one is valid, and what a boot loads. -/

namespace Sys2Proof.Machine

/-! ### The bytes (R118, R130) -/

/-- The tile rows of the hot pool in the order of the row-age table: by slot, then by row. -/
def Blk.hotRows (b : Blk) : List Nat := b.hotSlots.flatMap fun slot => (List.range 16).map fun t => slot * 16 + t

/-- Some 6-bit ages packed, the first lowest. -/
def packAges (l : List Nat) : Nat := l.foldr (fun a n => a % 64 + 64 * n) 0

/-- A snapshot's body: the cell table, the die records, the row ages of 16,384 tile rows, the slot ages in 393,216 B; 1,261,568 B in all. The order within the last two is the model's (log 93). -/
def Blk.snapBody (b : Blk) (x : Snap) : List Byte :=
  ((List.range 49152).flatMap fun i => ((x.cells.find i).getD {}).bytes)
    ++ ((List.range 256).flatMap fun d => b.dieRecord d (x.work.getD d (b.baseCal d)))
    ++ ((List.range 16384).flatMap fun i => leBytes 4 (((b.hotRows[i]?).map fun k => x.rows.getD k 0).getD 0))
    ++ leBytes 393216 (packAges (b.fixedSlots.map fun slot => (x.slots.find slot).getD (x.slots.getD 4194304 0)))

/-- Lines of a body. -/
def snapLines : Nat := 9856

/-- The header line: sequence, operating time, the body's CRC-32; the fields' places are the model's (log 93). -/
def Snap.header (x : Snap) (crc : Nat) : List Byte := leBytes 8 x.seq ++ leBytes 6 x.opTime ++ [0, 0] ++ leBytes 4 crc ++ List.replicate 108 0

/-- The marker of a trailer (R130). -/
def snapMarker : Nat := 0x6A25C0D7

/-- The trailer line: sequence and marker. -/
def Snap.trailer (x : Snap) : List Byte := leBytes 8 x.seq ++ leBytes 4 snapMarker ++ List.replicate 116 0

/-! ### Where it stands -/

/-- The metadata slot of a generation: after those of the checkpoints and of the list records (log 93). -/
def snapSlot (n g : Nat) : Nat := metaSlot n (ckptFirst n + 512 + g)

/-- Stripe member that holds line j of a generation: line 0 the header, then the body and the trailer. -/
def snapMem (n g j : Nat) : Mem := { cls := .denim, slot := snapSlot n g, stripe := j / 16, m := dataMember .denim (j / 16) (j % 16) }

/-- Stripe member that holds the j-th line of a generation's content: retired lines are passed over (R434). -/
def Blk.snapAt (b : Blk) (g j : Nat) : Mem := snapMem b.dieCount g (b.areaLine (snapMem b.dieCount g) 16384 j)

/-- A line of a snapshot is programmed and verified, and counts on its slot (R26, R68). -/
def Blk.putSnapLine (b : Blk) (g j seq : Nat) (bytes : List Byte) : Blk := b.putOwnLine (b.snapAt g j) 0x0E seq bytes

/-- The lines of a snapshot in their order: body, header, and last the trailer. -/
def Blk.putSnap (b : Blk) (x : Snap) : Blk :=
  let body := b.snapBody x
  let g := x.seq % 2
  let b1 := (List.range snapLines).foldl (fun c j => c.putSnapLine g (j + 1) x.seq ((body.drop (128 * j)).take 128)) b
  (b1.putSnapLine g 0 x.seq (x.header (crc32 body).toNat)).putSnapLine g (snapLines + 1) x.seq x.trailer

/-- Bytes of a line of a snapshot as they can be read back. -/
def Blk.snapLine (b : Blk) (g j : Nat) : Option (List Byte) :=
  let x := b.snapAt g j
  if (b.lostMembers .denim x.slot x.stripe).length ≤ 2 then some (leBytes 128 (b.stored (b.memLoc x)).toNat) else none

/-- The snapshot of a generation is valid: its body's CRC matches, and its trailer has the header's sequence and the marker. -/
def Blk.snapValid (b : Blk) (g : Nat) : Bool := match b.snapLine g 0, b.snapLine g (snapLines + 1) with
  | some h, some t =>
    let body := (List.range snapLines).map fun j => b.snapLine g (j + 1)
    leAt t 8 4 == snapMarker && leAt t 0 8 == leAt h 0 8 && body.all Option.isSome && leAt h 16 4 == (crc32 (body.flatMap fun x => x.getD [])).toNat
  | _, _ => false

/-- The valid snapshot of highest sequence. -/
def Blk.newestSnap (b : Blk) : Option Snap :=
  ([0, 1].filterMap fun g => if b.snapValid g then b.gauze.snaps.find g else none).foldl (fun best x => match best with
    | none => some x
    | some y => if y.seq < x.seq then some x else some y) none

/-- Sequence of the snapshot that comes next. -/
def Blk.nextSnap (b : Blk) : Nat := b.gauze.snaps.foldl (fun n e => max n e.2.seq) 0 + 1

/-- A snapshot is written, in the generation that the last one did not take. -/
def Blk.snapshot (b : Blk) : Blk :=
  let g := b.gauze
  let x : Snap := { seq := b.nextSnap, opTime := b.opTime, cells := g.cells, work := g.work, rows := g.rowAge, slots := g.slotAge }
  ((b.putSnap x).onGauze fun g => { g with snaps := g.snaps.put (x.seq % 2) x }).odSet 0x5000 0x07 b.opTime

/-! ### What a boot loads (R130) -/

/-- An age bucket advanced by the rule of R53 from one operating time to another, ms: it moves on at each whole multiple of its span. -/
def ageOver : Nat → Nat → Nat → Nat → Nat
  | 0, k, _, _ => k
  | n + 1, k, t0, t1 =>
    if 63 ≤ k ∨ ageCount t1 k ≤ ageCount t0 k then k
    else
      -- the first millisecond past the next whole multiple of the bucket's span
      let t := (List.range 48).foldl (fun (r : Nat × Nat) _ => let m := (r.1 + r.2) / 2
                                                                if ageCount t0 k < ageCount m k then (r.1, m) else (m, r.2)) (t0, t1)
      ageOver n (k + 1) t.2 t1

/-- A cell in use whose last evaluation lies further back than its stale interval is stale. -/
def Blk.staleOld (b : Blk) (key : Nat) (c : GCell) : GCell :=
  if b.cellInUse (key / 192) (key % 192 / 12) (key % 12 / 3) && decide (c.last + staleInterval (key % 192 / 12) < b.opSec) then { c with state := 2 } else c

/-- The tile rows of the newest checkpoint's plans take its operating time as their plan time. -/
def Blk.planTimes (b : Blk) : Blk := match b.twill.ckpt with
  | some k => b.onGauze fun g => { g with rowAge := (k.plan ++ k.planNext).foldl (fun m x => m.put x.1 (k.opTime / 1000)) g.rowAge }
  | none => b

/-- With no valid snapshot nothing tells the plan times of the other rows and the ages of the slots: the spec gives neither, and they are open values (log 93). -/
def Blk.unknownAges (b : Blk) : Blk :=
  let b1 := b.useFree.onGauze fun g => { g with cells := [], rowAge := [], slotAge := [(4194304, b.freeNum % 64)] }
  b1.twill.rows.foldl (fun c e => c.useFree.onGauze fun g => { g with rowAge := g.rowAge.put e.1 (c.freeNum % (c.opSec + 1)) }) b1

/-- The boot loads the valid snapshot of highest sequence and adjusts it; with none every cell is seeded, and a warning event is raised. -/
def Blk.loadSnapshot (b : Blk) : Blk := match b.newestSnap with
  | none => b.unknownAges.planTimes.report { code := 0x5002 }
  | some x =>
    let b1 := (b.onGauze fun g => { g with cells := x.cells, rowAge := x.rows, slotAge := x.slots.map fun e => (e.1, ageOver 64 e.2 x.opTime b.opTime) }).planTimes
    b1.onGauze fun g => { g with cells := g.cells.map fun e => (e.1, b1.staleOld e.1 e.2) }

end Sys2Proof.Machine
end

