-- ==== Sys2Proof/Machine/Stops.lean ====
section
/-! DEFINITION. Sleep and wake (R316 to R319), zeroize (R255), the Canvas log (R338, R339), what loses its state with the switched rails, power-down (R335), the all-off (R322, R337), the hold-up flush (R320, R326), thermal shutdown and the orderly stop (R321), and the start of a boot (R313, R314, R332). -/

namespace Sys2Proof.Machine

/-! ### Commands to several dies -/

/-- Dies of a channel that a chip select mask addresses. -/
def selected (ch : Nat) (cs : BitVec 8) : List Nat := ((List.range 8).filter fun i => cs.getLsbD i).map fun i => 8 * ch + i

/-- A command word goes out on a channel with its chip selects: to one die with its SEQ, to several as a broadcast, which carries SEQ 0 and sets their counts to 0; after RST the next command carries 0 (R180). -/
def Blk.sendTo (b : Blk) (ch : Nat) (cs : BitVec 8) (c : DieCmd) : Blk :=
  let ds := selected ch cs
  let seq : BitVec 3 := match ds with
    | [d] => (b.die d).seq
    | _ => 0
  (ds.foldl (fun b d => b.onDie d fun x => { x with seq := if c = .rst then 0 else seq + 1 }) b).emit (.ca ch cs (c.word seq))

/-- Chip selects of a channel's dies that are present. -/
def Blk.presentMask (b : Blk) (ch : Nat) : BitVec 8 :=
  BitVec.ofNat 8 ((b.diesPresent.filter fun d => d / 8 == ch).foldl (fun n d => n ||| 1 <<< (d % 8)) 0)

/-- A command to every present die of every channel, broadcast channel by channel. -/
def Blk.sendEverywhere (b : Blk) (c : DieCmd) : Blk :=
  (List.range 32).foldl (fun b ch => if b.presentMask ch = 0 then b else b.sendTo ch (b.presentMask ch) c) b

/-! ### Sleep and wake -/

/-- The head's link lets the device be idle: in L1, down or disabled (R316). -/
def HeadSt.quiet (s : HeadSt) : Bool := (s.link == 3 || s.link == 0 || s.link == 4) && s.ingress.isEmpty && s.bulk.isNone

/-- The idle condition (R316). -/
def Blk.idle (b : Blk) : Bool :=
  b.hA.quiet && b.hB.quiet && b.path.acc.isEmpty && b.path.barriers.isEmpty && b.velvet.rangeOp.isNone && b.velvet.lineOps.isEmpty
    && b.muslin.state == 0 && b.can.bulk.isNone && b.twill.refresh.isEmpty && b.safety.rebuild.isEmpty && b.twill.mig.isEmpty && b.twill.migDue.isEmpty
    && b.twill.rot.isEmpty && b.twill.collecting.isEmpty && b.twill.jobs.isEmpty && b.gauze.probes.isEmpty
    && !b.media.lapV.behind b.opTime (b.lapTarget .voile) && !b.media.lapD.behind b.opTime (b.lapTarget .denim)

/-- The dies enter standby (R204). -/
def Blk.standbyDies (b : Blk) : Blk := b.diesPresent.foldl (fun b d => b.onDie d fun x => { x with standby := true }) (b.sendEverywhere .sby)

/-- The dies wake, and each gets a short calibration (R204). -/
def Blk.wakeDies (b : Blk) : Blk :=
  b.diesPresent.foldl (fun b d => (b.onDie d fun x => { x with standby := false }).sendDie d (.zqc false)) (b.sendEverywhere .wak)

/-- The work before M6: Velvet is cleaned, a full checkpoint is committed, die operations end, the dies enter standby, Tweed's dumps pause (R317, R390). -/
def Blk.fallAsleep (b : Blk) : Blk := ((((b.flushAll.beginCheckpoint true true).commitCheckpoint).standbyDies).onTweed fun t => { t with paused := true }).onModes fun m => { m with deep := true }

/-- The wake from M5 or M6 (R319): a clock failure keeps M6's condition. -/
def Blk.wake (b : Blk) : Blk :=
  let b1 := if b.modes.deep then (b.wakeDies.onTweed fun t => { t with paused := false, flags := t.flags ||| 1 }).onModes fun m => { m with deep := false } else b
  b1.setConditions fun c => if b.clocks.failed then c &&& 0xFDF else c &&& 0xF9F

/-! ### What is accepted completes -/

/-- The line that an accepted request waits for as the device holds it now: in a buffer, never written, or on media. -/
def Blk.lineNow (b : Blk) (li : Nat) : Option Line := match b.bufOf li with
  | some (_, x) => some x.data
  | none => b.mediaLine li

/-- An accepted read completes with its data, or with poison where media cannot give them. -/
def Blk.settleRead (b : Blk) (x : Acc) : Blk := b.finishRead x ((b.lineNow x.line).bind fun l => b.halfFor x l)

/-- Every accepted request completes; the device's own reads end. -/
def Blk.settle (b : Blk) : Blk :=
  let b1 := b.path.acc.foldl (fun b x => if x.req.kind.isRead then b.settleRead x else if x.req.kind.isWrite then b.finishWrite x else b) b
  b1.onPath fun p => { p with acc := [], deeps := [], fills := [], tickets := [] }

/-! ### Zeroize (R255) -/

/-- The keys are destroyed in Felt, Velvet's dirty lines are discarded, accepted requests complete first. -/
def Blk.zeroize (b : Blk) : Blk :=
  let b1 := b.settle.onVelvet fun v => { v with ways := v.ways.filter fun e => !e.2.dirty, bufs := [] }
  let b2 := b1.onDamask fun d => { d with state := 3, mkey := none, k := none, kek := none, exporting := false, zeroLater := false }
  ((b2.itemWrite 3).itemWrite 3).report { code := 0x6807 }

/-- The key blobs' other keys are absent: the maintenance key and the CAN FD MAC key (R266, R287, R373). -/
def Blk.blankKeys (b : Blk) : Blk := (b.onFelt fun f => { f with maintKey := none }).onCan fun c => { c with macKey := none }

/-! ### The Canvas log (R338, R339) -/

/-- A sequencer slot. -/
def Blk.slot (b : Blk) (s : Nat) : PSlot := b.canvas.slots.getD s {}

/-- Changes a sequencer slot. -/
def Blk.onSlot (b : Blk) (s : Nat) (f : PSlot → PSlot) : Blk :=
  b.onCanvas fun c => { c with slots := c.slots.set {} s (f (c.slots.getD s {})) }

/-- A record's fields: power cycle, operating time, code, slot, monitor reading, drops, secondary faults, effective mode, and flags: a CHATTER record by the 10 ms, and an operating time that is uncertain (R339, R368). -/
def Blk.canvasFields (b : Blk) (code slot mv drops : Nat) (timeout : Bool) : List Nat :=
  [b.felt.cycles, b.opTime, code, slot, mv, drops, 0, b.eff, b2n timeout + 2 * b2n b.linen.unsure]

/-- A record is written to the ring of 512 in Felt; its page by the writes of the ring's four pages so far (log 32). -/
def Blk.canvasWrite (b : Blk) (r : List Nat) : Blk :=
  (b.pageWrite (2000 + b.felt.canvasWrites / 128 % 4)).onFelt fun f => { f with canvasLog := (r :: f.canvasLog).take 512, canvasWrites := f.canvasWrites + 1 }

/-- A record reaches Felt at once while slot 6, which feeds it, is good; else it waits for that slot's next qualification. -/
def Blk.canvasLogged (b : Blk) (r : List Nat) : Blk :=
  let b1 := (b.odSet 0x7000 0x02 (r.getD 2 0)).odSet 0x7000 0x03 (r.getD 3 0)
  if (b.slot 6).state = 2 then b1.canvasWrite r
  else if b.canvas.faultRec.isNone then b1.onCanvas fun c => { c with faultRec := some r, recAt := b.now } else b1

/-! ### The switched rails are off -/

/-- A head without its rails: what stays is PERSTx_N's level, and, in a warm restart, its link, configuration and decoders (R324). A failed head stays failed until a power cycle (R411). -/
def HeadSt.off (s : HeadSt) (keepLink : Bool) : HeadSt :=
  if keepLink then
    { link := s.link, rate := s.rate, width := s.width, flit := s.flit, perst := s.perst, decoders := s.decoders, config := s.config, msix := s.msix,
      policy := s.policy, mbIrq := s.mbIrq, bgIrq := s.bgIrq, failed := s.failed, ideMem := s.ideMem, ideIo := s.ideIo, spdm := s.spdm }
  else { perst := s.perst, failed := s.failed }

/-- The media side keeps the media, the poison list and what has failed until a power cycle (R408). -/
def Media.off (m : Media) : Media :=
  { lines := m.lines, poison := m.undone, nextRecord := m.nextRecord, entries := m.entries.filter (fun e => (NMap.find m.undone e.1).isSome), retired := m.retired, owed := m.owed, gone := m.gone, pattern := m.pattern, perChan := m.perChan, warn75 := m.warn75,
    dies := (m.dies.filter fun e => e.2.state == 3 || e.2.replacement).map fun e => (e.1, { state := if e.2.state = 3 then 3 else 0, id := e.2.id, replacement := e.2.replacement }),
    chans := (m.chans.filter fun e => e.2.retired).map fun e => (e.1, { retired := true, state := 6 }) }

/-- Of Twill's tables only what stands on media is left: the checkpoints, the journal ring, the free-slot ledger, and the count of its first provisioning (R54, R79, R82). -/
def Twill.off (t : Twill) : Twill :=
  { stored := t.stored, jseq := t.jseq, journal := t.journal, ringNext := t.ringNext, slots := t.slots.filter fun e => e.2.use != .region, s0 := t.s0, nextBase := t.nextBase, duration := t.duration, life10 := t.life10, life5 := t.life5 }

/-- Gauze keeps the calibration set as it stands in Felt (R279), and the snapshots, which stand on media; the tables of bank 55 go (R118, R130). -/
def Gauze.off (g : Gauze) : Gauze := match g.kept with
  | some k => { snaps := g.snaps, calPresent := k.present, calSeq := k.seq, cal := k.cal, trims := k.trims, ircTrim := k.ircTrim }
  | none => { snaps := g.snaps, calPresent := g.calPresent, calSeq := g.calSeq, cal := g.cal, trims := g.trims, ircTrim := g.ircTrim }

/-- Damask keeps its keys, the tag lines on media, the alarm table and locks, and the erase in progress. -/
def Damask.off (d : Damask) : Damask :=
  { state := d.state, mkey := d.mkey, k := d.k, kek := d.kek, gen := d.gen, enable := d.enable, pinned := d.pinned, rekey := d.rekey, alarm := d.alarm,
    locks := d.locks, binding := d.binding, bindIds := d.bindIds, erase := d.erase }

/-- The CAN FD controller lives on in the always-on domain; what the management engines had in work is gone. -/
def Can.off (c : Can) : Can := { c with busy := none, bulk := none, abandoned := none, lastReq := none }

/-- Everything outside the always-on domain loses its state; Linen's staging lies in the queue banks (R16, R344). -/
def Blk.loseSwitched (b : Blk) (keepLink : Bool) : Blk :=
  let keepBg := match b.damask.erase with
    | some _ => b.dev.bg
    | none => none
  { b with
    hA := b.hA.off keepLink, hB := b.hB.off keepLink, sesA := {}, sesB := {}, sesC := {}, muslin := {}, can := b.can.off,
    dev := { rgns := b.dev.rgns, nextRgn := b.dev.nextRgn, bg := keepBg }, path := {}, media := b.media.off, velvet := {}, twill := b.twill.off, gauze := b.gauze.off,
    damask := b.damask.off, tweed := {}, regs := [], due := [], dueB := none, odOld := [], direct := [],
    safety := { rebuild := b.safety.rebuild, rebuildTotal := b.safety.rebuildTotal, subst := b.safety.subst },
    felt := { b.felt with wear := b.felt.wearSaved, notPersisted := b.felt.notPersisted || b.muslin.queued.isSome || b.muslin.calQueued },
    linen := { b.linen with staging := [], waiting := [] },
    thermal := { sensors := b.thermal.sensors, tj := b.thermal.tj } }

/-- A power cycle: failed heads work again (R411), returns to the PLLs are no longer held (R354), and the dies of retired channels stand as replacement dies until training finds them (R408). -/
def Blk.powerCycled (b : Blk) : Blk :=
  let back (e : Nat × DieSt) : Nat × DieSt :=
    if e.2.state = 3 ∧ ((b.media.chans.find (e.1 / 8)).map ChanSt.retired).getD false then (e.1, { state := 0, id := e.2.id, replacement := true }) else e
  let new (d : Nat) : Bool := (b.die d).state == 3 && ((b.media.chans.find (d / 8)).map ChanSt.retired).getD false
  (((b.onHA fun h => { h with failed := false }).onHB fun h => { h with failed := false }).onClocks fun c => { c with held := false }).onMedia fun m =>
    { m with gone := m.gone ++ (m.lines.map Prod.fst).filter (fun l => new (dieOfLoc l) && !m.gone.contains l), dies := m.dies.map back, chans := m.chans.filter fun e => !e.2.retired }

/-- Modes after the rails have gone: the latches and pins stay. -/
def Modes.off (m : Modes) : Modes :=
  { m with step := 0, warm := false, closed := false, deep := false, flush := none, stopping := false, cause := 0, safe := none, degraded := 0, reported := false }

/-- The device enters M1: its only condition is M1's, and what is switched is off; a power cycle that waited for it takes effect. -/
def Blk.enterM1 (b : Blk) : Blk :=
  let b1 := b.setConditions fun _ => 2
  let b0 := (b1.loseSwitched false).onModes Modes.off
  let b2 := if b.canvas.onLater then b0.powerCycled.onCanvas fun c => { c with onLater := false } else b0
  ((b2.onClocks fun c => { ref := c.ref, pass := c.pass, fail := c.fail, coarse := c.coarse, fine := c.fine, kHz := c.kHz, held := c.held,
                           fab := { fails := c.fab.fails }, eng := { fails := c.eng.fails }, cry := { fails := c.cry.fails }, jch := { fails := c.jch.fails } }).onCanvas fun c => { c with test := none, report := none, health := 0 }).faultPin

/-! ### The start of a boot (R313, R314, R332) -/

/-- Lowest enabled slot from `s` on that is not unused by its mode in force. -/
def Blk.nextSlot (b : Blk) (s : Nat) : Option Nat := ((List.range 12).filter fun i => decide (s ≤ i) && b.cfg (0x7010 + i) 0x01 != 0).head?

/-- M1 gives way to M2: PFAIL_N high, no latch set, Canvas idle (R313). The power-up order takes the slots' modes and nominals now (R330); the boot origin is this instant. -/
def Blk.startBoot (b : Blk) : Blk :=
  if b.eff == 1 && b.modes.rails && b.modes.pfailHigh && !b.modes.standby && !b.modes.thermal && !b.modes.testEn && b.canvas.state == 0 then
    let b1 := b.setConditions fun _ => 4
    let b2 := b1.onModes fun m => { m with t0 := b.now, step := 1 }
    b2.onCanvas fun c => { c with state := 1, orderAt := b.now, off := false, onLater := false,
                                  slots := ((List.range 12).map fun i => (i, ({ mode := b.cfg (0x7010 + i) 0x01, pg := (b.slot i).pg, mv := (b.slot i).mv } : PSlot))).filter fun e => e.2 != {} }
  else b

/-! ### Power-down (R335) -/

/-- The highest slot that is still enabled. -/
def Blk.topEnabled (b : Blk) : Option Nat := ((b.canvas.slots.filter fun e => e.2.en).map Prod.fst).getLast?

/-- The next slots of the power-down order: board slots fall without waiting, a sequenced one is waited for; past the last, Canvas is idle, and an on request starts the next boot (R335, R346). -/
def Blk.lowerNext : Nat → Blk → Blk
  | 0, b => b
  | n + 1, b => match b.topEnabled with
    | none => (b.onCanvas fun c => { c with state := 0, off := false }).startBoot
    | some s =>
      if (b.slot s).mode = 2 then Blk.lowerNext n (b.onSlot s fun x => { x with en := false, state := 0 })
      else b.onSlot s fun x => { x with en := false, state := 3, since := b.now }

/-- The rails are released in power-down order, at once or when the slot that ramps has had its step (R335, R346). -/
def Blk.powerDown (b : Blk) : Blk :=
  if b.canvas.slots.any fun e => e.2.state == 1 then b.onCanvas fun c => { c with off := true }
  else Blk.lowerNext 13 ((b.enterM1).onCanvas fun c => { c with state := 3 })

/-! ### All rails off at once (R322, R337) -/

/-- Programs that lose power leave their lines with a content that the spec does not give (log 4). -/
def Blk.tearPrograms (b : Blk) : Blk :=
  b.media.parts.foldl (fun b e => match e.2.op with
    | .program line _ _ _ _ _ => (b.useFree).storeLine (locOf e.1 line) { data := b.freeVal 1024, md := b.freeVal 40 }
    | _ => b) b

/-- Every enable falls; lines not on media are lost; the next boot follows a dirty shutdown. -/
def Blk.dropRails (b : Blk) : Blk :=
  let live := b.running
  let b1 := (if live then b.tearPrograms else b).onCanvas fun c => { c with state := 0, off := false, slots := c.slots.map fun e => (e.1, { e.2 with en := false, state := if e.2.state = 4 then 4 else 0 }) }
  let b2 := if live then b1.onFelt fun f => { f with clean := false, stop := 3, faultLogged := false } else b1
  b2.enterM1

/-- A rail or sequence fault, or the forced cut: logged as the first fault, every rail off, the standby latch set unless PFAIL_N was low. -/
def Blk.allOff (b : Blk) (code slot mv drops : Nat) (timeout : Bool) : Blk :=
  let r := b.canvasFields code slot mv drops timeout
  let b1 := if slot < 12 then b.onSlot slot fun x => { x with state := 4 } else b
  let b2 := (b1.odSet 0x7000 0x02 code).odSet 0x7000 0x03 slot
  let b3 := b2.dropRails
  (b3.onCanvas fun c => { c with faultRec := some r, recAt := b.now }).onModes fun m => { m with standby := m.standby || m.pfailHigh }

/-! ### The hold-up flush (R320, R326) -/

/-- The request waits in its partition's queue or slot for an RD of its own, or for one of its stripe's members. -/
def Blk.rdWaits (b : Blk) (rid : Nat) : Bool :=
  let mine (t : ReadTask) : Bool := t.why == .host rid || t.why == .member rid
  b.media.parts.any fun e => e.2.queue.any mine || (e.2.prio.any mine)

/-- The read for a line's fill has gone out whole. -/
def Blk.fillSent (b : Blk) (li : Nat) : Bool :=
  b.path.fills.has li || b.path.acc.any fun y => y.line == li && (y.stage == .issued || y.stage == .recon) && !b.rdWaits y.rid

/-- An accepted read completes normally in the flush: every RD that it waits for has gone out (R320 step 2). -/
def Blk.readGoesOn (b : Blk) (x : Acc) : Bool := match x.stage with
  | .issued => !b.rdWaits x.rid
  | .recon => !b.rdWaits x.rid
  | .fill => b.fillSent x.line
  | _ => false

/-- Suspended programs resume (R320 step 2). -/
def Blk.resumeAll (b : Blk) : Blk :=
  b.media.parts.foldl (fun b e => if e.2.suspended then
      (b.onPart e.1 fun p => { p with suspended := false, suspTotal := p.suspTotal + (b.now - p.suspSince), readyAt := b.now + 60 }).sendDie (e.1 / 32) (.rsm (BitVec.ofNat 5 (e.1 % 32)))
    else b) b

/-- A health test that runs is abandoned (R341). -/
def Blk.abandonTest (b : Blk) : Blk := b.onCanvas fun c => if c.test.isSome then { c with test := none, health := 3 } else c

/-- Steps 1 and 2 of the flush: cause 1 input power, 2 thermal, 3 forced. From M5 or M6 the wake runs first; ingress is discarded, background work stops, reads whose RDs have not gone out complete with poison, unlisted. -/
def Blk.beginFlush (b : Blk) (cause : Nat) : Blk :=
  let b0 := if b.modes.deep || b.holds 5 then b.wake else b
  let b1 := ((b0.clearIngress .A).clearIngress .B).resumeAll
  let b2 := b1.path.acc.foldl (fun c x => if x.req.kind.isRead && !b1.readGoesOn x then c.finishRead x none else c) b1
  let b3 := b2.onTwill fun t => { t with writing := none, trigger := false }
  ((b3.onModes fun m => { m with flush := some (b.now, b.dirtyCount, cause) }).enter 10)

/-- Loss of input power in the persistence-unprotected state is handled as a rail fault (R145, R219). -/
def Blk.unprotected (b : Blk) : Bool := b.memoryActive && b.persistence == 2

/-- The records of staging that wait for the ring are written there, at most 32 (R320 step 5, R381): what R366 keeps in staging only does not reach it (log 105). -/
def Blk.stagingToRing (b : Blk) : Blk := b.linen.waiting.foldl (fun b n => b.ringNext.pageWrite (1000 + n % 256)) b

/-- Every tag line that is not on media is written. -/
def Blk.flushTags (b : Blk) : Blk := (b.damask.tagDirty.map Prod.fst).foldl (fun b ti => b.flushTag ti) b

/-- Every count of the write tracker folds (R68). -/
def Blk.foldAll (b : Blk) : Blk := (b.twill.tracker.map Prod.fst).foldl (fun b s => b.foldCount s) b

/-- Steps 3 and 4: the dirty lines, open stripes, an incremental checkpoint and the tag lines go to media. -/
def Blk.saveMedia (b : Blk) (full : Bool) : Blk := ((((b.flushAll.settle.beginCheckpoint full true).commitCheckpoint).flushTags).issueRecords).endPrograms

/-- Steps 3 to 6 (R320). Before Memory Active there are no lines, so that only steps 5 and 6 are run (R326). -/
def Blk.endFlush (b : Blk) (start lines : Nat) : Blk :=
  let b1 := if b.memoryActive then (b.path.acc.foldl (fun c x => if x.req.kind.isRead then c.settleRead x else c) b).saveMedia false else b
  let us := b.since start / 1000
  let b2 := ((b1.bump 0x1100 0x0B 1).odSet 0x1100 0x0C us).odSet 0x1100 0x0D lines
  let b3 := ((b2.foldAll.report { code := 0x1104 }).saveCounters true).onFelt fun f => { f with clean := true, stop := 2 }
  let b4 := b3.stagingToRing
  (if b.damask.zeroLater then b4.zeroize else b4).powerDown

/-! ### Orderly stop and thermal shutdown (R321) -/

/-- The orderly stop: acceptance closes, what is accepted completes, Velvet is cleaned, a full checkpoint and a snapshot are committed, counters are written exactly, the rails are released. -/
def Blk.orderlyStop (b : Blk) : Blk :=
  let b1 := ((((b.clearIngress .A).clearIngress .B).settle.onModes fun m => { m with stopping := true, closed := true }).abandonTest)
  let b2 := (b1.onTwill fun t => { t with writing := none, trigger := false }).saveMedia true
  ((b2.snapshot.foldAll.saveCounters true).onFelt fun f => { f with clean := true, stop := 1 }).stagingToRing.powerDown

/-- The newest record goes to the ring ahead of those that wait. -/
def Blk.ringNewest (b : Blk) : Blk := match b.linen.staging.find? fun r => r.seq == b.linen.seq with
  | some r => if b.linen.waiting.contains r.seq then (b.onLinen fun l => { l with waiting := l.waiting.filter fun n => n != r.seq }).ringRec r else b
  | none => b

/-- Thermal shutdown at 115 °C: the event goes straight to Felt, the latch is set, and the flush runs; during a flush only the latch is set. -/
def Blk.thermalShutdown (b : Blk) (data : List Byte) : Blk :=
  let b1 := ((b.onModes fun m => { m with thermal := true }).faultPin).bump 0x7800 0x07 1
  if b.modes.flush.isSome || !b.running then b1
  else (b1.report { code := 0x7801, data := data }).ringNewest.beginFlush 2

end Sys2Proof.Machine
end

