-- ==== Sys2Proof/Machine/Actions.lean ====
section
/-! DEFINITION. The device actions of the dictionary (R202, R321, R341, R387, R405, R408) and the object dictionary's Read and Write (R270), which carry out every action of a WO entry and every RW value. -/

namespace Sys2Proof.Machine

/-! ### Actions -/

/-- A write of OD 0x7C10.04: a die in use, or present, is marked failed (R405). A die number without a die is left alone. -/
def Blk.retireDie (b : Blk) (src : Src) (d : Nat) : Blk :=
  (if (b.die d).state = 1 ∨ (b.die d).state = 2 then b.dieFail d else b).wrote src 0x7C10 0x04 0

/-- RETIRE_DIE (R405). -/
def execRetireDie (a : Stamp) (src : Src) (d : BitVec 16) (s : State) : Host.Outcome State Fault Refusal :=
  s.command a fun b => b.writeReq src 0x7C10 0x04 (leBytes 2 d.toNat) fun v c => c.retireDie src v

/-- A write of OD 0x7C10.05: the channel is retired and its dies fail (R408). -/
def Blk.retireChannel (b : Blk) (src : Src) (c : Nat) : Blk := (b.channelFail c).wrote src 0x7C10 0x05 0

/-- RETIRE_CHANNEL (R408). -/
def execRetireChannel (a : Stamp) (src : Src) (c : BitVec 8) (s : State) : Host.Outcome State Fault Refusal :=
  s.command a fun b => b.writeReq src 0x7C10 0x05 (leBytes 1 c.toNat) fun v x => x.retireChannel src v

/-- A write of OD 0x3000 + 0x20 n .0C: a running channel is to retrain; one that waits to or does returns "Busy" (R202, R270). -/
def Blk.askRetrain (b : Blk) (src : Src) (ch : Nat) : Blk :=
  let x := b.chan ch
  if x.state = 4 ∨ x.retrain then b.wrote src (0x3000 + 0x20 * ch) 0x0C 0x0A
  else (if x.state = 2 ∨ x.state = 3 then b.onChan ch fun y => { y with retrain := true } else b).wrote src (0x3000 + 0x20 * ch) 0x0C 0

/-- RETRAIN_REQUEST (R202). -/
def execRetrainRequest (a : Stamp) (src : Src) (ch : Fin 32) (s : State) : Host.Outcome State Fault Refusal :=
  s.command a fun b => b.writeReq src (0x3000 + 0x20 * ch.val) 0x0C [1] fun _ c => c.askRetrain src ch.val

/-- A write of OD 0x1100.07: answered, then the orderly stop with the standby latch (R321). -/
def Blk.toStandby (b : Blk) (src : Src) : Blk := ((b.wrote src 0x1100 0x07 0).onModes fun m => { m with standby := true }).orderlyStop

/-- POWER_DOWN_TO_STANDBY (R321). -/
def execPowerDownToStandby (a : Stamp) (src : Src) (s : State) : Host.Outcome State Fault Refusal :=
  s.command a fun b => b.writeReq src 0x1100 0x07 [1] fun _ c => c.toStandby src

/-- HU_TEST goes high (R341). -/
def Blk.beginTest (b : Blk) : Blk := b.onCanvas fun c => { c with test := some b.now }

/-- A write of OD 0x7002.06 (R341, R346). -/
def Blk.askTest (b : Blk) (src : Src) : Blk := if b.canvas.test.isSome then b.wrote src 0x7002 0x06 0x0A else (b.beginTest).wrote src 0x7002 0x06 0

/-- START_HEALTH_TEST (R341). -/
def execStartHealthTest (a : Stamp) (src : Src) (s : State) : Host.Outcome State Fault Refusal :=
  s.command a fun b => b.writeReq src 0x7002 0x06 [1] fun _ c => c.askTest src

/-- A write of OD 0x8800.0E: all 512 values and wrapped bits are zeroed, and the next dump says so (R389, R396). -/
def Blk.clearTweed (b : Blk) (src : Src) : Blk := (b.onTweed fun t => { t with ctr := [], flags := t.flags ||| 2 }).wrote src 0x8800 0x0E 0

/-- CLEAR_COUNTERS (R396). -/
def execClearCounters (a : Stamp) (src : Src) (s : State) : Host.Outcome State Fault Refusal :=
  s.command a fun b => b.writeReq src 0x8800 0x0E [1] fun _ c => c.clearTweed src

/-! ### Read and Write -/

/-- What a Write of an RW or WO entry does, its checks passed (R270): an RW value takes effect, a WO entry's action starts. -/
def Blk.action (b : Blk) (src : Src) (idx sub v : Nat) : Blk :=
  match idx, sub with
  | 0x5010, 0x02 => b.clearHistograms src
  | 0x6010, 0x03 => b.startRange src v
  | 0x6020, 0x01 => b.byAddress src v
  | 0x6020, 0x02 => b.bySetWay src v
  | 0x6040, 0x01 => b.openBarrier src
  | 0x4800, 0x07 => b.addAction src
  | 0x4800, 0x08 => b.releaseAction src 0x08 fun c g => c.askRelease g
  | 0x4800, 0x0B => b.releaseAction src 0x0B fun c g => c.forceRelease g
  | 0x6810, 0x05 => b.unlockRegion src v
  | 0x6810, 0x06 => b.resetCount src v
  | 0x1200, 0x0D => b.defaultsAction src
  | 0x1210, 0x03 => b.responseAction src (BitVec.ofNat 64 v)
  | 0x1210, 0x04 => b.closeAction src
  | 0x1100, 0x07 => b.toStandby src
  | 0x7002, 0x06 => b.askTest src
  | 0x8800, 0x0E => b.clearTweed src
  | 0x7C10, 0x04 => b.retireDie src v
  | 0x7C10, 0x05 => b.retireChannel src v
  | _, _ =>
    if 0x3000 ≤ idx ∧ idx < 0x3400 ∧ sub = 0x0C then b.askRetrain src ((idx - 0x3000) / 0x20)
    else (b.odSetFor (transOf src) idx sub v).wrote src idx sub 0

/-- WRITE (R270). -/
def execWrite (a : Stamp) (src : Src) (idx : BitVec 16) (sub : BitVec 8) (val : List Byte) (s : State) : Host.Outcome State Fault Refusal :=
  s.command a fun b => b.writeReq src idx.toNat sub.toNat val fun v c => c.action src idx.toNat sub.toNat v

/-- READ: the value in effect; a Read of the challenge draws one (R266, R270). -/
def execRead (a : Stamp) (src : Src) (idx : BitVec 16) (sub : BitVec 8) (s : State) : Host.Outcome State Fault Refusal :=
  s.command a fun b => b.admitReq src { op := 1, idx := idx.toNat, sub := sub.toNat } fun c =>
    let st := c.checkRead src idx.toNat sub.toNat
    if st ≠ 0 then c.reply src { op := 1, idx := idx.toNat, sub := sub.toNat, st := st }
    else if idx = 0x1210 ∧ sub = 2 then c.challengeAction src
    else c.reply src { op := 1, idx := idx.toNat, sub := sub.toNat, st := 0, val := c.odBytes (transOf src) idx.toNat sub.toNat }

end Sys2Proof.Machine
end

