-- ==== Sys2Proof/Machine/Can.lean ====
section
/-! DEFINITION. Bulk object transfer over the mailboxes (R225) and over CAN FD (R284, R285), and the rest of the CAN FD sideband: frames that are ignored, time limits, the heartbeat, bus-off and the bus (R281, R286 to R288). -/

namespace Sys2Proof.Machine

/-! ### Mailbox transfers (R225) -/

/-- A bulk sub-operation at a head: the mailbox takes it, and one at maintenance level restarts the session's idle time. -/
def Blk.bulkReq (b : Blk) (h : Head) (maint : Bool) (f : Blk → Blk) : Blk := b.mbox h fun c => f (c.touch (.mb h maint))

/-- The open transfer is one of the escrow blob, which counts while it is open (R260). -/
def Blk.markExport (b : Blk) (idx sub : Nat) : Blk := if idx = 0x6820 ∧ sub = 0x03 then b.onDamask fun d => { d with exporting := true } else b

/-- OPEN_READ (R225): the object as it is now, its length and CRC-32. -/
def execOpenRead (a : Stamp) (h : Head) (maint : Bool) (idx : BitVec 16) (sub : BitVec 8) (s : State) : Host.Outcome State Fault Refusal :=
  s.command a fun b => b.bulkReq h maint fun c =>
    let src : Src := .mb h maint
    let st := c.checkOpenRead src idx.toNat sub.toNat
    if (c.head h).bulk.isSome then c.bulkAnswer src 1 idx.toNat sub.toNat 0x0A
    else if st ≠ 0 then c.bulkAnswer src 1 idx.toNat sub.toNat st
    else
      let bytes := c.objectOf (transOf src) idx.toNat sub.toNat
      let k : Bulk := { write := false, od := odKey idx.toNat sub.toNat, maint := maint, total := bytes.length, bytes := bytes, last := c.now }
      ((c.putBulk src (some k)).markExport idx.toNat sub.toNat).bulkAnswer src 1 idx.toNat sub.toNat 0 bytes.length (crc32 bytes).toNat

/-- OPEN_WRITE (R225). -/
def execOpenWrite (a : Stamp) (h : Head) (maint : Bool) (idx : BitVec 16) (sub : BitVec 8) (total : Nat) (s : State) : Host.Outcome State Fault Refusal :=
  s.command a fun b => b.bulkReq h maint fun c =>
    let src : Src := .mb h maint
    let st := c.checkOpenWrite src idx.toNat sub.toNat
    if (c.head h).bulk.isSome then c.bulkAnswer src 2 idx.toNat sub.toNat 0x0A
    else if st ≠ 0 then (c.openRefused idx.toNat sub.toNat st).bulkAnswer src 2 idx.toNat sub.toNat st
    else
      let k : Bulk := { write := true, od := odKey idx.toNat sub.toNat, maint := maint, total := total, bytes := [], last := c.now }
      (c.putBulk src (some k)).bulkAnswer src 2 idx.toNat sub.toNat 0

/-- Bytes that one chunk may have (R225). -/
def chunkOk (n : Nat) : Bool := decide (1 ≤ n) && decide (n ≤ 8176)

/-- DATA: a chunk of a read from any offset of the object, or the next chunk of a write; one out of order is out of range and ignored (R225). -/
def execData (a : Stamp) (h : Head) (maint : Bool) (off len : Nat) (chunk : List Byte) (s : State) : Host.Outcome State Fault Refusal :=
  s.command a fun b => b.bulkReq h maint fun c =>
    let src : Src := .mb h maint
    match (c.head h).bulk with
    | none => c.bulkAnswer src 3 0 0 0x0A
    | some k =>
      let live := c.putBulk src (some { k with last := c.now })
      if k.write then
        if chunkOk chunk.length && off == k.bytes.length && decide (off + chunk.length ≤ k.total) then
          (c.putBulk src (some { k with last := c.now, bytes := k.bytes ++ chunk })).bulkAnswer src 3 0 0 0
        else live.bulkAnswer src 3 0 0 8
      else if chunkOk len && decide (off < k.total) then live.bulkAnswer src 3 0 0 0 0 0 ((k.bytes.drop off).take len)
      else live.bulkAnswer src 3 0 0 8

/-- The end of a transfer: a write is applied when its length and CRC-32 match (R225). -/
def Blk.endTransfer (b : Blk) (k : Bulk) (crc : BitVec 32) : Blk × Nat :=
  if !k.write then (b.onDamask fun d => { d with exporting := d.exporting && k.od != odKey 0x6820 0x03 }, 0)
  else if k.bytes.length ≠ k.total then (b, 9)
  else if crc ≠ crc32 k.bytes then (b, 0x11)
  else b.objectApply (k.od / 256) (k.od % 256) k.bytes

/-- CLOSE (R225). -/
def execClose (a : Stamp) (h : Head) (maint : Bool) (crc : BitVec 32) (s : State) : Host.Outcome State Fault Refusal :=
  s.command a fun b => b.bulkReq h maint fun c =>
    let src : Src := .mb h maint
    match (c.head h).bulk with
    | none => c.bulkAnswer src 4 0 0 0x0A
    | some k =>
      let r := (c.putBulk src none).endTransfer k crc
      r.1.bulkAnswer src 4 0 0 r.2

/-- BULK_ABORT (R225). -/
def execBulkAbort (a : Stamp) (h : Head) (s : State) : Host.Outcome State Fault Refusal :=
  s.command a fun b => b.mbox h fun c =>
    if (c.head h).bulk.isSome then (c.abortBulk h).bulkAnswer (.mb h false) 5 0 0 0 else c.bulkAnswer (.mb h false) 5 0 0 0x0A

/-- BULK_TRANSFER_TIMEOUT: no sub-operation for 10 s (R225). -/
def execBulkTransferTimeout (a : Stamp) (h : Head) (s : State) : Host.Outcome State Fault Refusal :=
  s.command a fun b => match (b.head h).bulk with
    | some k => if 10000000000 ≤ b.since k.last then b.abortBulk h else b
    | none => b

/-! ### CAN FD transfers (R284, R285) -/

/-- Segments that an object of the device needs. -/
def segmentsOf (n : Nat) : Nat := (n + 55) / 56

/-- Segments of a read go out while at most 16 are unacknowledged (R285). -/
def Blk.pumpSegments : Nat → Blk → Blk
  | 0, b => b
  | n + 1, b => match b.can.bulk with
    | none => b
    | some k =>
      if !k.write && decide (k.next ≤ segmentsOf k.total) && decide (k.next ≤ k.acked + 16) then
        let chunk := (k.bytes.drop (56 * (k.next - 1))).take 56
        let f := canSegment k.trans (k.od / 256) (k.od % 256) k.next (decide (k.next < segmentsOf k.total)) chunk
        Blk.pumpSegments n ((b.onCan fun c => { c with bulk := some { k with next := k.next + 1 } }).canSend f)
      else b

/-- BULK_OPEN_READ (R284): the object's length and CRC-32, then its segments. An object of more than 65,535 segments is out of range. -/
def execBulkOpenRead (a : Stamp) (trans : BitVec 8) (maint : Bool) (idx : BitVec 16) (sub : BitVec 8) (s : State) : Host.Outcome State Fault Refusal :=
  s.command a fun b => b.canAdmit trans maint 0 0 { op := 7, idx := idx.toNat, sub := sub.toNat } fun c =>
    let src : Src := .can trans maint 0 0
    let c1 := c.touch src
    let st := c1.checkOpenRead src idx.toNat sub.toNat
    let bytes := c1.objectOf 3 idx.toNat sub.toNat
    if st ≠ 0 then c1.bulkAnswer src 7 idx.toNat sub.toNat st
    else if 65535 < segmentsOf bytes.length then c1.bulkAnswer src 7 idx.toNat sub.toNat 8
    else
      let k : Bulk := { write := false, od := odKey idx.toNat sub.toNat, maint := maint, total := bytes.length, bytes := bytes, last := c1.now, trans := trans }
      Blk.pumpSegments 16 ((c1.putBulk src (some k)).bulkAnswer src 7 idx.toNat sub.toNat 0 bytes.length (crc32 bytes).toNat)

/-- Bytes of a chunk in a host's Segment frame (R285, R287). -/
def Blk.segmentRoom (b : Blk) : Nat := if b.cfg 0x1230 0x05 = 1 then 44 else 56

/-- BULK_OPEN_WRITE (R284). -/
def execBulkOpenWrite (a : Stamp) (trans : BitVec 8) (maint : Bool) (ctr : BitVec 32) (mac : BitVec 64) (idx : BitVec 16) (sub : BitVec 8) (total : Nat) (s : State) :
    Host.Outcome State Fault Refusal :=
  s.command a fun b => b.canAdmit trans maint ctr mac { op := 8, idx := idx.toNat, sub := sub.toNat, data := leBytes 4 total } fun c =>
    let src : Src := .can trans maint ctr mac
    let c1 := c.touch src
    let st := c1.checkOpenWrite src idx.toNat sub.toNat
    if st ≠ 0 then (c1.openRefused idx.toNat sub.toNat st).bulkAnswer src 8 idx.toNat sub.toNat st
    else if 65535 * c1.segmentRoom < total then c1.bulkAnswer src 8 idx.toNat sub.toNat 8
    else
      let k : Bulk := { write := true, od := odKey idx.toNat sub.toNat, maint := maint, total := total, bytes := [], last := c1.now, trans := trans }
      (c1.putBulk src (some k)).bulkAnswer src 8 idx.toNat sub.toNat 0

/-- The bytes of a frame of an open transfer: operation, transaction, the transfer's entry, flags, number, data, and counter and MAC when it carries them. -/
def Blk.frameOf (b : Blk) (k : Bulk) (op num : Nat) (more : Bool) (ctr : BitVec 32) (mac : BitVec 64) (data : List Byte) : List Byte :=
  let head := [BitVec.ofNat 8 op, k.trans] ++ leBytes 2 (k.od / 256) ++ leBytes 1 (k.od % 256) ++ leBytes 1 (b2n k.maint + 2 * b2n more) ++ leBytes 2 num
  if b.macNeeded op then head ++ padTo 44 data ++ leBytes 4 ctr.toNat ++ leBytes 8 mac.toNat else head ++ padTo 56 data

/-- A frame for the open transfer of a transaction; without one it is answered "Busy", once also for a transfer that was abandoned (R285, R286). -/
def Blk.withTransfer (b : Blk) (trans : BitVec 8) (op : Nat) (f : Bulk → Blk) : Blk :=
  if !b.can.joined then b
  else match b.can.bulk with
    | some k => if k.trans = trans then f k else b.canStatus trans { op := op } 0x0A
    | none => (b.onCan fun c => { c with abandoned := if c.abandoned = some trans then none else c.abandoned }).canStatus trans { op := op } 0x0A

/-- SEGMENT: the next chunk of a write; one out of order is discarded. Every 16th and the last are acknowledged (R285). -/
def execSegment (a : Stamp) (trans : BitVec 8) (ctr : BitVec 32) (mac : BitVec 64) (num : Nat) (chunk : List Byte) (s : State) : Host.Outcome State Fault Refusal :=
  s.command a fun b => b.withTransfer trans 9 fun k =>
    if !k.write then b
    else
      let bytes := (k.bytes ++ chunk).take k.total
      let last := decide (k.total ≤ bytes.length)
      b.withMac ctr mac 9 (b.frameOf k 9 num (!last) ctr mac chunk) fun c =>
        if num ≠ k.next ∨ c.segmentRoom < chunk.length then c
        else
          let c1 := (c.onCan fun x => { x with bulk := some { k with bytes := bytes, next := k.next + 1, last := c.now } }).touch (.can trans k.maint ctr mac)
          if num % 16 = 0 ∨ last then c1.canSend (canFrame 0x0A trans (k.od / 256) (k.od % 256) 0 num 0 0 0 []) else c1

/-- SEGMENT_ACKNOWLEDGE: the host has received a read's segments up to a number, after which the device goes on (R285). -/
def execSegmentAcknowledge (a : Stamp) (trans : BitVec 8) (num : Nat) (s : State) : Host.Outcome State Fault Refusal :=
  s.command a fun b => b.withTransfer trans 0x0A fun k =>
    if !k.write && decide (k.acked ≤ num) && decide (num < k.next) then
      Blk.pumpSegments 16 (b.onCan fun c => { c with bulk := some { k with acked := num, next := num + 1, last := b.now } })
    else b

/-- BULK_CLOSE (R284): a repeated one is answered with the stored response (R286). -/
def execBulkClose (a : Stamp) (trans : BitVec 8) (ctr : BitVec 32) (mac : BitVec 64) (crc : BitVec 32) (s : State) : Host.Outcome State Fault Refusal :=
  s.command a fun b =>
    let plain := [BitVec.ofNat 8 0x0B, trans].map BitVec.toNat ++ [ctr.toNat, mac.toNat, crc.toNat]
    if b.can.joined && b.can.bulk.isNone && b.can.lastReq == some plain then b.canSend b.can.lastRsp
    else b.withTransfer trans 0x0B fun k =>
      b.withMac ctr mac 0x0B (b.frameOf k 0x0B 0 false ctr mac (leBytes 4 crc.toNat)) fun c =>
        let r := (c.onCan fun x => { x with bulk := none, lastReq := some plain }).endTransfer k crc
        r.1.reply (.can trans k.maint ctr mac) { op := 0x0B, idx := k.od / 256, sub := k.od % 256, st := r.2 }

/-- CAN_BULK_ABORT (R284). -/
def execCanBulkAbort (a : Stamp) (trans : BitVec 8) (ctr : BitVec 32) (mac : BitVec 64) (s : State) : Host.Outcome State Fault Refusal :=
  s.command a fun b => b.withTransfer trans 0x0C fun k =>
    b.withMac ctr mac 0x0C (b.frameOf k 0x0C 0 false ctr mac []) fun c =>
      (c.onCan fun x => { x with bulk := none }).reply (.can trans k.maint ctr mac) { op := 0x0C, idx := k.od / 256, sub := k.od % 256, st := 0 }

/-- CAN_TRANSFER_TIMEOUT: a transfer with no progress for 1 s is abandoned (R285). -/
def execCanTransferTimeout (a : Stamp) (s : State) : Host.Outcome State Fault Refusal :=
  s.command a fun b => match b.can.bulk with
    | some k => if 1000000000 ≤ b.since k.last then b.onCan fun c => { c with bulk := none, abandoned := some k.trans } else b
    | none => b

/-! ### The bus -/

/-- CAN_FRAME_IGNORED: a frame that R281 or R284 lets pass is counted. -/
def execCanFrameIgnored (a : Stamp) (s : State) : Host.Outcome State Fault Refusal :=
  s.command a fun b => if b.can.joined then b.bump 0x1230 0x0C 1 else b

/-- The heartbeat frame (R288). -/
def Blk.heartbeatFrame (b : Blk) : BitVec 512 :=
  let persist := b.muslin.queued.isSome || b.muslin.calQueued
  packBytes 512 ([0x01, BitVec.ofNat 8 b.eff] ++ leBytes 2 (flagsOf b.modes.cond) ++ leBytes 4 b.can.nonce.toNat ++ leBytes 6 b.opTime ++ leBytes 1 b.muslin.state
    ++ leBytes 1 (b2n persist + 2 * b2n (b.clocks.ref != 1) + 4 * b2n b.sesC.maint) ++ leBytes 1 b.can.access ++ leBytes 1 b.can.node)

/-- HEARTBEAT: every OD 0x1230.03 ms; 0 stops it (R288). -/
def execHeartbeat (a : Stamp) (s : State) : Host.Outcome State Fault Refusal :=
  s.command a fun b => if b.can.joined && b.cfg 0x1230 0x03 != 0 then b.emit (.can (0x3C0 + b.can.node) b.heartbeatFrame) else b

/-- BUS_OFF_RECOVERY: counted, with at most one warning in 10 s (R281). -/
def execBusOffRecovery (a : Stamp) (s : State) : Host.Outcome State Fault Refusal :=
  s.command a fun b =>
    if !b.powered then b
    else
      let b1 := b.bump 0x1230 0x0B 1
      let quiet := match b.can.busWarn with
        | some t => decide (b.now < t + 10000000000)
        | none => false
      if quiet then b1 else (b1.onCan fun c => { c with busWarn := some b.now }).report { code := 0x1209 }

/-- CAN_BUS_JOIN: 11 recessive bits, the clock good enough: REFCLK judged good, or the IRC trimmed (R281, R426). What waits to be notified goes out. -/
def execCanBusJoin (a : Stamp) (s : State) : Host.Outcome State Fault Refusal :=
  s.command a fun b => if b.powered && (b.clocks.ref == 1 || b.ircTrimmed) then Blk.canPump 65 (b.onCan fun c => { c with joined := true }) else b

end Sys2Proof.Machine
end

