-- ==== Sys2Proof/Machine/Clocks.lean ====
section
/-! DEFINITION. Clocks (R348 to R357): the judging of REFCLK and the PLLs, reference loss and return, the forced clock switch, and the trim of the IRC. -/

namespace Sys2Proof.Machine

/-! ### Loss and return -/

/-- FAB, ENG and CRY on the IRC with N = 8, JCH on the fallback PLL; a ramp stops (R354). -/
def Clocks.fallBack (c : Clocks) : Clocks := { c with src := 15, nFab := 8, nEng := 8, nCry := 8, ramp := false }

/-- A PLL's reference is gone or it has failed: it has to be judged locked again (R353, R356). -/
def PllSt.unlock (p : PllSt) : PllSt := { p with locked := false, pass := 0, fail := 0 }

/-- Forced switches are counted and recorded, one for each domain (R355). -/
def Blk.forcedSwitches : Nat → Blk → Blk
  | 0, b => b
  | n + 1, b => Blk.forcedSwitches n ((b.bump 0x7400 0x04 1).report { code := 0x7403 })

/-- The M6 condition for a clock failure begins, from Memory Active on (R313, R318); the entry runs unless the device sleeps, flushes or has stopped. -/
def Blk.clockSleep (b : Blk) : Blk :=
  if !b.memoryActive then b
  else
    let b1 := if b.modes.deep || b.modes.flush.isSome || b.stopped then b else b.fallAsleep
    b1.enter 6

/-- What the loss of the reference or of a PLL does (R354): the domains fall back, FAULT_N falls, M6's condition begins. Before the boot has moved the domains to their PLLs they run from the IRC already (R314, R363). -/
def Blk.clockFailure (b : Blk) : Blk :=
  if 5 ≤ b.modes.step then ((b.onClocks fun c => { c.fallBack with failed := true }).faultPin).clockSleep else b

/-- The return runs once REFCLK is good and every PLL that uses it is locked (R356): the domains move to their PLLs at the divider of the ramp, JCH at once. -/
def Blk.startReturn (b : Blk) : Blk :=
  let c := b.clocks
  if (c.failed || c.forced) && !c.held && !c.ramp && c.ref == 1 && c.fab.locked && c.eng.locked && c.cry.locked && c.jch.locked then
    b.onClocks fun c => { c with src := 0, nFab := 32, nEng := 24, nCry := 32, ramp := true }
  else b

/-- A failure's return starts by itself. -/
def Blk.autoReturn (b : Blk) : Blk := if b.clocks.failed then b.startReturn else b

/-! ### The reference monitor (R352) -/

/-- A window of the monitor passes: 249 to 263 edges, 228 to 284 without a valid IRC trim. -/
def Blk.windowPasses (b : Blk) (edges : Nat) : Bool :=
  if b.ircTrimmed then decide (249 ≤ edges) && decide (edges ≤ 263) else decide (228 ≤ edges) && decide (edges ≤ 284)

/-- IRC frequency in kHz that the edges of a window of 1,024 IRC cycles tell against 100 MHz (R364). -/
def ircKhz (edges : Nat) : Nat := if edges = 0 then 0 else (1024 * 100000 + edges / 2) / edges

/-- REF_MONITOR_WINDOW: a window of 1,024 IRC cycles ends. -/
def execRefMonitorWindow (a : Stamp) (edges : Nat) (s : State) : Host.Outcome State Fault Refusal :=
  s.command a fun b =>
    if !b.powered then b
    else if b.windowPasses edges then b.onClocks fun c => { c with pass := c.pass + 1, fail := 0, kHz := if c.ref = 1 then ircKhz edges else 0 }
    else (b.onClocks fun c => { c with pass := 0, fail := c.fail + 1 }).bump 0x7400 0x02 1

/-- REFCLK_LOST: two failing windows in a row; `stopped`: no edge of the old clocks came in time, so that the four switches are forced (R352, R354, R355, R233); a detection of mechanism 9 (R400). -/
def execRefclkLost (a : Stamp) (stopped : Bool) (s : State) : Host.Outcome State Fault Refusal :=
  s.command a fun b =>
    if b.powered && b.clocks.ref != 2 && decide (2 ≤ b.clocks.fail) then
      let b1 := b.onClocks fun c => { c with ref := 2, kHz := 0, fab := c.fab.unlock, eng := c.eng.unlock, cry := c.cry.unlock, jch := c.jch.unlock }
      let b2 := (b1.bump 0x7400 0x03 1).report { code := 0x7401 }
      let b3 := if stopped && decide (5 ≤ b.modes.step) then Blk.forcedSwitches 4 b2 else b2
      (((b3.detect 9 false).linkFalls .A).linkFalls .B).clockFailure
    else b

/-- REFCLK_GOOD: 16 passing windows in a row; each head starts training (R233, R318, R352). -/
def execRefclkGood (a : Stamp) (s : State) : Host.Outcome State Fault Refusal :=
  s.command a fun b =>
    if b.powered && b.clocks.ref != 1 && decide (16 ≤ b.clocks.pass) then
      let b1 := b.onClocks fun c => { c with ref := 1 }
      let b2 := if b.clocks.ref = 2 then b1.report { code := 0x7402 } else b1
      let b3 := if (b2.hA.link) = 0 then b2.linkChange .A fun x => x.unlinked (b2.restLink .A) else b2
      if (b3.hB.link) = 0 then b3.linkChange .B fun x => x.unlinked (b3.restLink .B) else b3
    else b

/-! ### PLLs (R353) -/

/-- A PLL. -/
def Clocks.pll (c : Clocks) : Pll → PllSt
  | .fab => c.fab
  | .eng => c.eng
  | .cry => c.cry
  | .jch => c.jch
  | .fallback => c.fb

/-- Changes a PLL. -/
def Clocks.onPll (c : Clocks) (p : Pll) (f : PllSt → PllSt) : Clocks :=
  match p with
  | .fab => { c with fab := f c.fab }
  | .eng => { c with eng := f c.eng }
  | .cry => { c with cry := f c.cry }
  | .jch => { c with jch := f c.jch }
  | .fallback => { c with fb := f c.fb }

/-- Four times the expected count of a PLL's output divided by 16 over `cref` REFCLK edges; the fallback PLL's is 512 in 4,096 IRC cycles, and so 128 in the windows of the watch. -/
def pllExpect4 (p : Pll) (cref : Nat) (watch : Bool) : Nat :=
  match p with
  | .fab => 4 * cref
  | .eng => 3 * cref
  | .cry => 4 * cref
  | .jch => 8 * cref
  | .fallback => if watch then 512 else 2048

/-- A count lies within `perMille` of the expected one. -/
def pllWithin (count expect4 perMille : Nat) : Bool :=
  decide (1000 * (max (4 * count) expect4 - min (4 * count) expect4) ≤ perMille * expect4)

/-- The PLL has failed (R354): counted, three failures of one PLL within an hour of operating time hold the returns; a detection of mechanism 9. `stopped`: it shows no edges, so that its domain's switch is forced. -/
def Blk.pllFail (b : Blk) (p : Pll) (stopped : Bool) : Blk :=
  let recent := b.opTime :: (b.clocks.pll p).fails.filter fun t => decide (b.opTime - t < 3600000)
  let b1 := ((b.onClocks fun c => c.onPll p fun x => { x.unlock with fails := recent }).bump 0x7400 0x05 1).report { code := 0x7404 }
  if p = .fallback then b1
  else
    let b2 := (if stopped then Blk.forcedSwitches 1 b1 else b1).detect 9 false
    let b3 := if 3 ≤ recent.length ∧ !b.clocks.held then (b2.onClocks fun c => { c with held := true }).report { code := 0x7405 } else b2
    b3.clockFailure

/-- A window judges a PLL that is not locked: within ±0.5 %, four times in a row, it is locked. -/
def PllSt.judged (x : PllSt) (good : Bool) : PllSt :=
  if good then { x with pass := x.pass + 1, locked := decide (4 ≤ x.pass + 1), fail := 0 } else { x with pass := 0 }

/-- PLL_JUDGE_WINDOW: a window of 4,096 IRC cycles for a PLL that is being judged, of 1,024 for one that is watched; judging waits for REFCLK to be good, that of the fallback PLL does not (R350, R353). -/
def execPllJudgeWindow (a : Stamp) (pll : Pll) (count : Nat) (cref : Nat) (s : State) : Host.Outcome State Fault Refusal :=
  s.command a fun b =>
    let x := b.clocks.pll pll
    if !b.running then b
    else if x.locked then
      if pllWithin count (pllExpect4 pll cref true) 20 && decide (0 < count) then b.onClocks fun c => c.onPll pll fun x => { x with fail := 0 }
      else if 1 ≤ x.fail then b.pllFail pll (count == 0) else b.onClocks fun c => c.onPll pll fun x => { x with fail := 1 }
    else if b.clocks.ref = 1 ∨ pll = .fallback then
      (b.onClocks fun c => c.onPll pll fun x => x.judged (pllWithin count (pllExpect4 pll cref false) 5)).autoReturn
    else b

/-- RETURN_RAMP_END: every divider has reached 8: a failure's hold ends, FAULT_N rises, and a device that slept for it wakes (R318, R354, R356). -/
def execReturnRampEnd (a : Stamp) (s : State) : Host.Outcome State Fault Refusal :=
  s.command a fun b =>
    if b.clocks.ramp then
      let b1 := (b.onClocks fun c => { c with ramp := false, nFab := 8, nEng := 8, nCry := 8, failed := false, forced := false }).faultPin
      if b.clocks.failed && b.modes.flush.isNone && !b.stopped then b1.wake else if b.clocks.failed then b1.leave 6 else b1
    else b

/-! ### The IRC's trim (R349) -/

/-- Fine code at sensor 0's temperature: FINE + round(TC ΔT / 256 + TC2 ΔT² / 65,536), ΔT in °C from values in 1/64 °C. -/
def Blk.fineCode (b : Blk) (t0 : Int) : Int :=
  let t := b.ircTrimOf
  let d := t0 - t.getD 4 0
  t.getD 1 0 + roundDiv (t.getD 2 0 * d * 16384 + t.getD 3 0 * d * d) 268435456

/-- IRC_TRIM_UPDATE: every 1 ms; COARSE 512 and fine code 0 without a valid trim. Before sensor 0 has a reading the code stays. -/
def execIrcTrimUpdate (a : Stamp) (s : State) : Host.Outcome State Fault Refusal :=
  s.command a fun b =>
    if !b.powered then b
    else if !b.ircTrimmed then b.onClocks fun c => { c with coarse := 512, fine := 0 }
    else
      let b1 := b.onClocks fun c => { c with coarse := (b.ircTrimOf.getD 0 0).toNat }
      match (b.sensor 0).temp with
      | some t => b1.onClocks fun c => { c with fine := b.fineCode t }
      | none => b1

end Sys2Proof.Machine
end

