-- ==== Sys2Proof/Machine/Thermal.lean ====
section
/-! DEFINITION. Thermal management (R358 to R362): the sampling of the sixteen sensors, the slow-down request, the throttle and thermal shutdown. -/

namespace Sys2Proof.Machine

/-! ### Sensors (R358, R359) -/

/-- Temperature in 1/64 °C of a converter code: gain times raw plus offset. -/
def Blk.sensorTemp (b : Blk) (i : Nat) (raw : BitVec 16) : Int :=
  let t := b.trimOf i
  Config.sensorRaw raw * t.2 / 32768 + t.1

/-- A sample lies within -55 to +150 °C and within 20 °C of the last plausible one. -/
def Sensor.plausible (x : Sensor) (t : Int) : Bool :=
  decide (-3520 ≤ t) && decide (t ≤ 9600) && (match x.temp with
    | none => true
    | some l => decide (t - l ≤ 1280) && decide (l - t ≤ 1280))

/-- Margin that temperatures carry without valid trims, 1/64 °C (R359). -/
def Blk.trimMargin (b : Blk) : Int := if b.gauze.calPresent then 0 else 288

/-- Changes a sensor. -/
def Blk.onSensor (b : Blk) (i : Nat) (f : Sensor → Sensor) : Blk :=
  b.onThermal fun t => { t with sensors := t.sensors.set {} i (f (t.sensors.getD i {})) }

/-- The reading is 115 °C or more. -/
def Blk.tooHot (b : Blk) (t : Int) : Bool := decide (7360 ≤ t + b.trimMargin)

/-- One sensor's sample: three implausible ones in a row fail the sensor, a contained detection of mechanism 12 (R400). -/
def Blk.sampleSensor (b : Blk) (i : Nat) (raw : BitVec 16) : Blk :=
  let x := b.sensor i
  let t := b.sensorTemp i raw
  if x.failed then b
  else if x.plausible t then b.onSensor i fun x => { x with temp := some t, raw := raw, bad := 0, hot := b.tooHot t }
  else
    let b1 := b.onSensor i fun x => { x with raw := raw, bad := x.bad + 1, failed := decide (3 ≤ x.bad + 1) }
    if 3 ≤ x.bad + 1 then (b1.reportUnit 0x7803 7 i).detect 12 false else b1

/-- Sensors that have not failed. -/
def Blk.validSensors (b : Blk) : List Nat := (List.range 16).filter fun i => !(b.sensor i).failed

/-- Tj: the highest reading of the valid sensors with its margin. -/
def Blk.junction (b : Blk) : Option Int :=
  (b.validSensors.foldl (fun (m : Option Int) i => match m, (b.sensor i).temp with
    | none, t => t
    | some x, some t => some (max x t)
    | some x, none => some x) none).map fun t => t + b.trimMargin

/-- Highest of two temperatures. -/
def hotter (x y : Option Int) : Option Int :=
  match x, y with
  | none, t => t
  | t, none => t
  | some t, some u => some (max t u)

/-! ### The throttle (R360, R361) -/

/-- Start value of L. -/
def Blk.throttleStart (b : Blk) : Nat := 3437 * b.cfg 0x7800 0x03 / 1000

/-- M7 begins: L takes its start value. -/
def Blk.throttle (b : Blk) : Blk :=
  if b.holds 7 then b
  else (((b.onThermal fun t => { t with limit := b.throttleStart, start := b.throttleStart, stepAt := b.now }).enter 7).bump 0x7800 0x06 1).healthCheck

/-- The end of the slow-down request: Tj below 97 °C and no THERM from a die for 10 ms. -/
def Blk.coolDown (b : Blk) : Blk :=
  let therm := b.media.dies.any fun e => match e.2.thermAt with
    | some t => decide (b.now < t + 10000000)
    | none => false
  let cool := match b.thermal.tj with
    | some t => decide (t < 6208)
    | none => false
  if b.thermal.req.isSome && cool && !therm then (b.onThermal fun t => { t with req := none }).faultPin else b

/-- THROTTLE_ENTRY: the request still holds at the end of the grace time (R313, R360). -/
def execThrottleEntry (a : Stamp) (s : State) : Host.Outcome State Fault Refusal :=
  s.command a fun b => match b.thermal.req with
    | some t => if b.memoryActive && decide (t + 1000000 * b.cfg 0x7800 0x02 ≤ b.now) then b.throttle else b
    | none => b

/-- L after a step: halved to no less than 214 while the request holds, else doubled, to the start value at most while too few sensors are valid; 0 where the limit ends. -/
def nextLimit (limit start : Nat) (req few : Bool) : Nat :=
  if req then max 214 (limit / 2) else if few then min start (2 * limit) else if 3437 ≤ 2 * limit then 0 else 2 * limit

/-- THROTTLE_STEP: every 250 ms in M7. -/
def execThrottleStep (a : Stamp) (s : State) : Host.Outcome State Fault Refusal :=
  s.command a fun b =>
    if b.holds 7 && decide (b.thermal.stepAt + 250000000 ≤ b.now) then
      let n := nextLimit b.thermal.limit b.thermal.start b.thermal.req.isSome b.thermal.few
      let b1 := b.onThermal fun t => { t with limit := n, stepAt := b.now }
      if n = 0 then (b1.leave 7).healthCheck else b1
    else b

/-! ### The sample (R358 to R362, R321) -/

/-- A temperature of 1/64 °C as an I16 of 1/16 °C. -/
def temp16Bytes (t : Option Int) : List Byte := leBytes 2 (sEnc 16 ((t.getD 0) / 4))

/-- The die with the highest temperature, and that temperature in 1/16 °C. -/
def Blk.hottestDie (b : Blk) : Option (Nat × Int) :=
  b.diesPresent.foldl (fun m d => match m with
    | none => some (d, (b.die d).temp)
    | some x => if x.2 < (b.die d).temp then some (d, (b.die d).temp) else some x) none

/-- The 40 B of a thermal shutdown's record (R362). -/
def Blk.shutdownData (b : Blk) (i : Nat) (before : Option Int) : List Byte :=
  let die := b.hottestDie
  leBytes 1 i ++ leBytes 1 b.validSensors.length ++ temp16Bytes (b.sensor i).temp ++ temp16Bytes before
    ++ leBytes 2 (sEnc 16 ((die.map Prod.snd).getD 0)) ++ leBytes 2 ((die.map Prod.fst).getD 0)
    ++ leBytes 4 (match b.thermal.req with
      | some t => min (b.since t / 1000000) 0xFFFFFFFF
      | none => 0xFFFFFFFF)
    ++ leBytes 2 b.thermal.limit ++ leBytes 1 b.eff ++ List.replicate 23 0

/-- Fewer than 8 valid sensors: a failure event, and M7 until the next boot; none left is an uncontained detection (R359, R400). -/
def Blk.sensorCount (b : Blk) (before : Nat) : Blk :=
  let n := b.validSensors.length
  let b1 := if n < 8 ∧ !b.thermal.few then
      let c := (b.onThermal fun t => { t with few := true }).report { code := 0x7804 }
      if c.memoryActive then c.throttle else c.faultPin
    else b
  if n = 0 ∧ 0 < before then b1.detect 12 true else b1

/-- The AON domain clears the thermal latch below 95 °C when OD 0x1100.0A is 1, and a boot starts (R321). -/
def Blk.coolBoot (b : Blk) : Blk :=
  if b.eff == 1 && b.modes.thermal && b.cfg 0x1100 0x0A == 1 && (match b.thermal.tj with
      | some t => decide (t < 6080)
      | none => false) then ((b.onModes fun m => { m with thermal := false }).faultPin).startBoot
  else b

/-- THERMAL_SAMPLE: every 1 ms, the sixteen converter codes in order. -/
def execThermalSample (a : Stamp) (raw : List (BitVec 16)) (s : State) : Host.Outcome State Fault Refusal :=
  s.command a fun b =>
    if !b.powered then b
    else
      let wasHot := (List.range 16).filter fun i => (b.sensor i).hot
      let b1 := ((raw.take 16).zipIdx).foldl (fun c e => c.sampleSensor e.2 e.1) b
      let b2 := (b1.onThermal fun t => { t with tj := b1.junction, peak := if b.running then hotter t.peak b1.junction else t.peak })
      if !b.running then b2.coolBoot
      else
        let b3 := b2.sensorCount b.validSensors.length
        let b4 := if (match b3.thermal.tj with
            | some t => decide (6400 ≤ t)
            | none => false) then b3.slowDown else b3.coolDown
        match wasHot.find? fun i => (b4.sensor i).hot && !(b4.sensor i).failed with
        | some i => if b4.modes.thermal then b4 else b4.thermalShutdown (b4.shutdownData i b.thermal.tj)
        | none => b4

end Sys2Proof.Machine
end

