-- ==== Sys2Proof/Machine/Flags.lean ====
section
/-! DEFINITION. The status words of a head's control block (R293): ISTAT (R297), GSTAT (R301), VSTAT and PSTAT (R307), HINTQ (R308), and what each offset of the block holds. -/

namespace Sys2Proof.Machine

/-- A bit of ISTAT is set: 4 ERR, 5 REFUSED, 6 GATED, 7 TMO. -/
def Ctl.flag (c : Ctl) (i : Nat) : Ctl := { c with istat := c.istat ||| BitVec.ofNat 32 (1 <<< i) }

/-- ISTAT: the W1C bits [7:4] and WBUSY. -/
def Ctl.istatWord (c : Ctl) : BitVec 32 := (c.istat &&& 0xF0) ||| (if c.posted.isSome then 1 else 0)

/-- GSTAT: LTARGET, RESULT and PEND. -/
def Ctl.gstatWord (c : Ctl) : BitVec 32 := c.ltarget ++ (0 : BitVec 8) ++ c.result ++ (0 : BitVec 3) ++ BitVec.ofBool c.held.isSome

/-- VSTAT: VCNT, FAULT and CORR. -/
def Safety.vstatWord (s : Safety) : BitVec 64 := BitVec.ofNat 32 s.vcnt ++ (0 : BitVec 11) ++ s.vfault ++ (0 : BitVec 11) ++ s.vcorr

/-- PSTAT: PCNT and PDOM. -/
def Safety.pstatWord (s : Safety) : BitVec 64 := BitVec.ofNat 32 s.pcnt ++ (0 : BitVec 25) ++ s.pdom

/-- What a register of the control block reads as, by its offset; a reserved offset, and one that only takes writes, reads as 0. The value of IDATA is the indirect read's own (R298). -/
def Blk.controlWord (b : Blk) (h : Head) (off : Nat) : Nat :=
  let c := (b.head h).ctl
  match off with
  | 0x000 => 0x4C580001
  | 0x004 => headNum h
  | 0x010 => c.iaddr.toNat
  | 0x018 => c.ictl.toNat
  | 0x020 => c.istatWord.toNat
  | 0x050 => c.gstatWord.toNat
  | 0x060 => b.safety.vstatWord.toNat
  | 0x068 => b.safety.pstatWord.toNat
  | 0x090 => (b.head h).hints.length
  | 0x0A0 => 0x07FFFC000000
  | _ => 0

end Sys2Proof.Machine
end

