-- ==== Sys2Proof/Machine/Registers.lean ====
section
/-! DEFINITION. The control block of a head: the indirect window (R294 to R300), direct writes (R292, R293, R308), guarded writes and their effects (R301 to R303, R380), the vote and the parity checks (R304 to R307). -/

namespace Sys2Proof.Machine

/-- Changes a head's control block. -/
def Blk.onCtl (b : Blk) (h : Head) (f : Ctl → Ctl) : Blk := b.onHead h fun x => { x with ctl := f x.ctl }

/-! ### The indirect space (R295) -/

/-- Ranges of a domain: first offset and length. -/
def domRanges (dom : Nat) : List (Nat × Nat) :=
  match dom with
  | 0x00 => [(0, 0x2000), (0x10000, 0x100), (0x20000, 0x1000), (0x30000, 0x200)]
  | 0x10 => [(0, 0x1000)]
  | 0x20 => [(0, 0x2000)]
  | 0x30 => [(0, 0x400)]
  | 0x40 => [(0, 0x400), (0x10000, 0x400), (0x20000, 0x100), (0x30000, 0x100)]
  | 0x50 => [(0, 0x200)]
  | _ => []

/-- DOM of an indirect address. -/
def iDom (addr : BitVec 32) : Nat := (addr.extractLsb' 24 8).toNat

/-- OFS of an indirect address. -/
def iOfs (addr : BitVec 32) : Nat := (addr.extractLsb' 0 24).toNat

/-- The address lies in a range and is aligned to the access. -/
def iValid (addr : BitVec 32) (width : Nat) : Bool :=
  (domRanges (iDom addr)).any (fun r => decide (r.1 ≤ iOfs addr) && decide (iOfs addr < r.1 + r.2)) && iOfs addr % width == 0

/-- Power domains of R343 that hold the register; the AON domain is in none. A PHY's registers stand with its four quad-lane groups. -/
def iDomains (addr : BitVec 32) : List Nat :=
  let o := iOfs addr
  match iDom addr with
  | 0x00 => if o < 0x1000 then [207] else if o < 0x2000 then [208] else if o < 0x20000 then [206] else if o < 0x30000 then [210] else [209]
  | 0x10 => [o / 0x40]
  | 0x20 => [64 + o / 0x100]
  | 0x30 => [202 + o / 0x100]
  | 0x50 => (List.range 4).map fun g => 194 + 4 * (o / 0x100) + g
  | _ => []

/-- The register's domain is off or in retention (R297, R310). -/
def Blk.iGated (b : Blk) (addr : BitVec 32) : Bool :=
  let ds := iDomains addr
  !ds.isEmpty && ds.all fun i => decide (b.domainState (domainColumn b.eff) i ≤ 1)

/-- Width of an access in bytes, by ICTL.WIDTH (R296). -/
def Ctl.width (c : Ctl) : Nat := if c.ictl.getLsbD 0 then 8 else 4

/-- OFS advances by STEP units of 4 B, within its 24 bits. -/
def Ctl.advance (c : Ctl) : Ctl :=
  { c with iaddr := c.iaddr.extractLsb' 24 8 ++ (c.iaddr.extractLsb' 0 24 + BitVec.ofNat 24 (4 * (c.ictl.extractLsb' 4 4).toNat)) }

/-- The dictionary entry that an internal register holds, if any (R299, log 27). -/
def iEntry (addr : BitVec 32) : Option (Nat × OdRow) :=
  let k := Config.internalReg addr.toNat
  (odRow? (k / 256) (k % 256)).map fun r => (k, r)

/-- The register holds a voted field or a guarded target (R300). -/
def iGuarded (addr : BitVec 32) : Bool := Config.internalReg addr.toNat == 1

/-- What a register holds: the encoded value of its entry in its low bytes, or, as a diagnostic, what was written last (R299). What a voted field or guarded target reads as is left open. -/
def Blk.iValue (b : Blk) (addr : BitVec 32) (width : Nat) : Nat :=
  (if iGuarded addr then (b.freeVal 64).toNat
   else match iEntry addr with
    | some e => leNat (b.odBytes 0 (e.1 / 256) (e.1 % 256))
    | none => b.regs.getD addr.toNat 0) % 256 ^ width

/-- A direct write reaches its register: under maintenance access at the head an RW, RWS or RWP value takes effect, a diagnostic is written (R299, R300). -/
def Blk.iTake (b : Blk) (addr : BitVec 32) (width : Nat) (v : BitVec 64) : Blk :=
  match iEntry addr with
  | some e => b.takeDirect e.1 (v.toNat % 256 ^ min width (odTypeLen e.2.ty))
  | none => { b with regs := b.regs.set 0 addr.toNat (v.toNat % 256 ^ width) }

/-- Maintenance access is open at a head (R267). -/
def Blk.maintAt (b : Blk) (h : Head) : Bool := (b.session (mbNum h)).maint

/-- A direct write is refused (R9, R299, R300, R305): without maintenance access, of a voted field or guarded target, and of an entry that no Write can change. -/
def Blk.iRefused (b : Blk) (h : Head) (addr : BitVec 32) : Bool :=
  iGuarded addr || !b.maintAt h || (match iEntry addr with
    | some e => !(e.2.acc == .rw || e.2.acc == .rws || e.2.acc == .rwp)
    | none => false)

/-- REFUSED is set, with one warning event a second for each head where a value or a guarded target was written (R9, R300). -/
def Blk.refuseWrite (b : Blk) (h : Head) (addr : BitVec 32) : Blk :=
  let b1 := b.onCtl h fun c => c.flag 5
  let quiet := match (b.head h).ctl.refusedAt with
    | some t => decide (b.now < t + 1000000000)
    | none => false
  if quiet || (!iGuarded addr && (iEntry addr).isNone) then b1
  else (b1.onCtl h fun c => { c with refusedAt := some b.now }).report { code := 0x7C07, cls := 1, unit := BitVec.ofNat 16 (headNum h), data := leBytes 4 addr.toNat }

/-- The target acknowledges the posted write: it takes effect (R298). -/
def Blk.ackPosted (b : Blk) (h : Head) : Blk :=
  match (b.head h).ctl.posted with
  | some (addr, width, v, _) => (b.onCtl h fun c => { c with posted := none }).iTake addr width v
  | none => b

/-- The effect of a read on the window: INCR (R296). -/
def Blk.afterRead (b : Blk) (h : Head) : Blk := b.onCtl h fun c => if c.ictl.getLsbD 2 then c.advance else c

/-- A bad access of BAR2 (R292): ERR, all ones for a read. -/
def Blk.badRead (b : Blk) (h : Head) (off bytes : Nat) : Blk := (b.onCtl h fun c => c.flag 4).emit (.reg h off (256 ^ bytes - 1))

/-- IDATA_READ: it waits for a posted write's acknowledgement, then fetches the register at IADDR (R298). -/
def execIdataRead (a : Stamp) (h : Head) (bytes : Nat) (s : State) : Host.Outcome State Fault Refusal :=
  s.command a fun b =>
    let c := (b.head h).ctl
    if !b.barOpen h then b
    else if (bytes ≠ 4 ∧ bytes ≠ 8) ∨ bytes < c.width then b.badRead h 0x028 bytes
    else
      let b1 := b.ackPosted h
      let b2 := if !iValid c.iaddr c.width then (b1.onCtl h fun c => c.flag 4).emit (.reg h 0x028 0)
        else if b1.iGated c.iaddr then (b1.onCtl h fun c => c.flag 6).emit (.reg h 0x028 0)
        else
          let r := b1.emit (.reg h 0x028 (b1.iValue c.iaddr c.width))
          if iGuarded c.iaddr then r.useFree else r
      b2.afterRead h

/-- IDATA_WRITE: after a posted write's acknowledgement, the write is posted, or dropped by ERR, GATED or REFUSED; INCW moves the window (R296 to R300). -/
def execIdataWrite (a : Stamp) (h : Head) (bytes : Nat) (v : BitVec 64) (s : State) : Host.Outcome State Fault Refusal :=
  s.command a fun b =>
    let c := (b.head h).ctl
    if !b.barOpen h then b
    else if (bytes ≠ 4 ∧ bytes ≠ 8) ∨ bytes < c.width then b.onCtl h fun c => c.flag 4
    else
      let b1 := b.ackPosted h
      let b2 := if !iValid c.iaddr c.width then b1.onCtl h fun c => c.flag 4
        else if b1.iGated c.iaddr then b1.onCtl h fun c => c.flag 6
        else if b1.iRefused h c.iaddr then b1.refuseWrite h c.iaddr
        else b1.onCtl h fun x => { x with posted := some (c.iaddr, c.width, v, b1.now) }
      b2.onCtl h fun c => if c.ictl.getLsbD 3 then c.advance else c

/-- INDIRECT_ACKNOWLEDGE (R298); while an apply has acceptance closed the write waits (R310). -/
def execIndirectAcknowledge (a : Stamp) (h : Head) (s : State) : Host.Outcome State Fault Refusal :=
  s.command a fun b => if b.running && !b.modes.closed then b.ackPosted h else b

/-- INDIRECT_TIMEOUT: 1 µs after its start a posted write ends with TMO, its effect taken or not; with none posted it is a read of IDATA that ends so, and returns all ones (R298). -/
def execIndirectTimeout (a : Stamp) (h : Head) (tookEffect : Bool) (s : State) : Host.Outcome State Fault Refusal :=
  s.command a fun b =>
    match (b.head h).ctl.posted with
    | some (_, _, _, t) =>
      if t + 1000 ≤ b.now then
        let b1 := b.onCtl h fun c => c.flag 7
        if tookEffect then b1.ackPosted h else b1.onCtl h fun c => { c with posted := none }
      else b
    | none => if b.barOpen h then (((b.onCtl h fun c => c.flag 7).emit (.reg h 0x028 (256 ^ (b.head h).ctl.width - 1))).afterRead h) else b

/-! ### Direct writes of the control block (R292, R293) -/

/-- A W1C field: bits written 1 are cleared. -/
def w1c {w : Nat} (old v : BitVec w) : BitVec w := old &&& ~~~v

/-- A doubleword of the block is written. -/
def Blk.ctlWord (b : Blk) (h : Head) (off : Nat) (v : BitVec 32) : Blk :=
  match off with
  | 0x010 => (b.ackPosted h).onCtl h fun c => { c with iaddr := v }
  | 0x018 => b.onCtl h fun c => { c with ictl := v &&& 0xFD }
  | 0x020 => b.onCtl h fun c => { c with istat := w1c c.istat (v &&& 0xF0) }
  | 0x060 => b.onSafety fun s => { s with vcorr := w1c s.vcorr (v.setWidth 5) }
  | 0x068 => b.onSafety fun s => { s with pdom := w1c s.pdom (v.setWidth 7) }
  | 0x080 => b.onCtl h fun c => { c with hint0 := c.hint0.extractLsb' 32 32 ++ v }
  | 0x084 => b.onCtl h fun c => { c with hint0 := v ++ c.hint0.extractLsb' 0 32 }
  | 0x088 => b.onCtl h fun c => { c with hint1 := c.hint1.extractLsb' 32 32 ++ v }
  | 0x08C => b.onCtl h fun c => { c with hint1 := v ++ c.hint1.extractLsb' 0 32 }
  | _ => b

/-- REGISTER_WRITE: a write of 4 or 8 B, naturally aligned; others, and 4 B to GVAL or GCMP, set ERR. IDATA, GVAL, GCMP and the 16-B hint have commands of their own. A write to 0x088 rings the doorbell with both halves (R292, R308). -/
def execRegisterWrite (a : Stamp) (h : Head) (off : BitVec 12) (bytes : Nat) (v : BitVec 128) (s : State) : Host.Outcome State Fault Refusal :=
  s.command a fun b =>
    let o := off.toNat
    if !b.barOpen h then b
    else if bytes = 16 ∧ o = 0x080 then b
    else if (bytes ≠ 4 ∧ bytes ≠ 8) ∨ o % bytes ≠ 0 ∨ (0x040 ≤ o ∧ o < 0x050 ∧ bytes = 4) then b.onCtl h fun c => c.flag 4
    else
      let b1 := b.ctlWord h o (v.setWidth 32)
      let b2 := if bytes = 8 then b1.ctlWord h (o + 4) (v.extractLsb' 32 32) else b1
      if o = 0x088 then b2.ringHint h ((b2.head h).ctl.hint1 ++ (b2.head h).ctl.hint0) else b2

/-! ### Guarded writes (R301 to R303) -/

/-- An attempt ends with a result; LTARGET takes its target. Result 1 is an informational event, any other a warning, with head and target. -/
def Blk.guardEnd (b : Blk) (h : Head) (target : BitVec 16) (result : BitVec 4) : Blk :=
  let b1 := b.onCtl h fun c => { c with held := none, ltarget := target, result := result }
  b1.report { code := if result = 1 then 0x7C05 else 0x7C06, cls := 1, unit := BitVec.ofNat 16 (headNum h),
              data := leBytes 1 (headNum h) ++ leBytes 2 target.toNat ++ leBytes 1 result.toNat }

/-- VALUE is one of the target's (R303). -/
def guardValueOk (target value : Nat) : Bool :=
  match target with
  | 1 => value == 0x5A
  | 2 => decide (value ≤ 1)
  | 3 => decide (value < 128)
  | 4 => value == 1
  | 5 => value == 1 || value == 2
  | 6 => decide (value ≤ 1)
  | _ => false

/-- The target's condition is met (R303, R357). -/
def Blk.guardCond (b : Blk) (target value : Nat) : Bool :=
  let m := b.eff
  match target with
  | 1 => b.nvwp
  | 2 => value == 0 || b.nvwp
  | 3 => decide (value < 8) || b.nvwp
  | 4 => m == 11
  | 5 => if value = 1 then (decide (2 ≤ m) && decide (m ≤ 9)) || m == 11 else decide (2 ≤ m)
  | 6 => value == 0 || (b.clocks.ref == 1 && !b.clocks.failed)
  | _ => false

/-- Result of an attempt whose complement is correct and in time, in the order of R302. -/
def Blk.guardResult (b : Blk) (h : Head) (w : BitVec 64) : BitVec 4 :=
  let target := (w.extractLsb' 48 16).toNat
  let value := (w.extractLsb' 0 32).toNat
  if !b.maintAt h then 8
  else if target = 0 ∨ 6 < target then 5
  else if w.extractLsb' 32 16 ≠ 0 ∨ !guardValueOk target value then 6
  else if !b.guardCond target value then 7
  else 1

/-- GVAL: PEND is set and the 1.28 µs run; a value that was held ends with result 3 (R302). -/
def execGval (a : Stamp) (h : Head) (bytes : Nat) (v : BitVec 64) (s : State) : Host.Outcome State Fault Refusal :=
  s.command a fun b =>
    if !b.barOpen h then b
    else if bytes ≠ 8 then b.onCtl h fun c => c.flag 4
    else
      let b1 := match (b.head h).ctl.held with
        | some (w, _) => b.guardEnd h (w.extractLsb' 48 16) 3
        | none => b
      b1.onCtl h fun c => { c with held := some (v, b1.now) }

/-- An applied write takes effect in the order of its application, head A's first when both heads' fall in one AON cycle of 20 ns (R302). -/
def Blk.dueAdd (b : Blk) (h : Head) (e : BitVec 16 × BitVec 32) : Blk :=
  let cycle := b.now / 20
  match h with
  | .A => { b with due := if b.dueB = some cycle then b.due.dropLast ++ e :: b.due.drop (b.due.length - 1) else b.due ++ [e], dueB := if b.dueB = some cycle then b.dueB else none }
  | .B => { b with due := b.due ++ [e], dueB := some cycle }

/-- GCMP: the complement ends the attempt; an applied write's effect is due (R302, R303). -/
def execGcmp (a : Stamp) (h : Head) (bytes : Nat) (v : BitVec 64) (s : State) : Host.Outcome State Fault Refusal :=
  s.command a fun b =>
    if !b.barOpen h then b
    else if bytes ≠ 8 then b.onCtl h fun c => c.flag 4
    else match (b.head h).ctl.held with
      | none => b.guardEnd h (b.head h).ctl.ltarget 4
      | some (w, t) =>
        let target := w.extractLsb' 48 16
        let r : BitVec 4 := if t + 1280 < b.now then 3 else if v ≠ ~~~w then 2 else b.guardResult h w
        let b1 := b.guardEnd h target r
        if r = 1 then b1.dueAdd h (target, w.setWidth 32) else b1

/-- The first applied write of a target that waits for its effect runs it. -/
def Blk.takeDue (b : Blk) (target : Nat) (ok : Nat → Bool) (f : Nat → Blk → Blk) : Blk :=
  match b.due.find? fun e => e.1.toNat == target && ok e.2.toNat with
  | some e => f e.2.toNat { b with due := b.due.erase e, dueB := none }
  | none => b

/-- KEY_ZEROIZE (R255): in M10 after the flush. -/
def execKeyZeroize (a : Stamp) (s : State) : Host.Outcome State Fault Refusal :=
  s.command a fun b => b.takeDue 1 (fun _ => true) fun _ c =>
    if c.modes.flush.isSome then c.onDamask fun d => { d with zeroLater := true } else c.zeroize

/-- CALIBRATION_WRITE_ENABLE_OPEN (R303). -/
def execCalibrationWriteEnableOpen (a : Stamp) (s : State) : Host.Outcome State Fault Refusal :=
  s.command a fun b => b.takeDue 2 (fun v => v == 1) fun _ c => c.onGauze fun g => { g with calOpen := some c.now }

/-- CALIBRATION_WRITE_ENABLE_CLOSE (R303). -/
def execCalibrationWriteEnableClose (a : Stamp) (s : State) : Host.Outcome State Fault Refusal :=
  s.command a fun b => b.takeDue 2 (fun v => v == 0) fun _ c => c.onGauze fun g => { g with calOpen := none }

/-- CALIBRATION_ENABLE_EXPIRY: 600 s after the opening (R303). -/
def execCalibrationEnableExpiry (a : Stamp) (s : State) : Host.Outcome State Fault Refusal :=
  s.command a fun b => match b.gauze.calOpen with
    | some t => if t + 600000000000 ≤ b.now then b.onGauze fun g => { g with calOpen := none } else b
    | none => b

/-- The inactive firmware slot is empty, with a pending mark for it (R380). -/
def Firmware.emptyInactive (f : Firmware) : Firmware :=
  let p := if f.pending = 1 - f.active then 2 else f.pending
  if f.active = 0 then { f with slotB := none, pending := p } else { f with slotA := none, pending := p }

/-- The transfers of Linen's records are aborted (R381). -/
def Blk.abortRecords (b : Blk) : Blk :=
  let close (x : Option Bulk) : Option Bulk := x.filter fun k => k.write || k.od != odKey 0x8000 0x05
  ((b.onHA fun s => { s with bulk := close s.bulk }).onHB fun s => { s with bulk := close s.bulk }).onCan fun c => { c with bulk := close c.bulk }

/-- An area of the format mask is emptied (R380). The calibration set's loss takes effect at the next boot: until then its sequence 0 marks it absent. -/
def Blk.formatArea (b : Blk) (i : Nat) : Blk :=
  match i with
  | 0 => (b.abortRecords.onLinen fun l => { l with staging := [], ring := [], waiting := [], head := 0 }) |> fun c =>
      { c with od := c.od.filter fun e => !(decide (odKey 0x8000 0x10 ≤ e.1) && decide (e.1 ≤ odKey 0x8000 0x16)) }
  | 1 => (({ b with od := b.od.filter fun e => !odKeeps e.1 } : Blk).onFelt fun f => { f with counters := [], opStored := b.opTime, opExact := false }).itemWrite 4
  | 2 => b.onFelt fun f => { f with canvasLog := [] }
  | 3 => (b.onFelt fun f => { f with params := none }).dropCopies 2
  | 4 => (b.onGauze fun g => { g with calSeq := 0, kept := none }).dropCopies 1
  | 5 => (if b.modes.flush.isSome then b.onDamask fun d => { d with zeroLater := true } else b.zeroize).blankKeys.dropCopies 3
  | 6 => b.onFelt fun f => { f with fw := f.fw.emptyInactive }
  | _ => b

/-- FELT_FORMAT (R380). -/
def execFeltFormat (a : Stamp) (s : State) : Host.Outcome State Fault Refusal :=
  s.command a fun b => b.takeDue 3 (fun _ => true) fun v c =>
    (((List.range 7).filter fun i => v.testBit i).foldl (fun c i => c.formatArea i) c).report { code := 0x9004, data := leBytes 4 v }

/-- SAFE_STOP_RELEASE: Velvet's dirty lines are stored and a checkpoint committed, everything but the always-on domain and the heads' links is reset, and the boot runs from its third step (R324). -/
def execSafeStopRelease (a : Stamp) (s : State) : Host.Outcome State Fault Refusal :=
  s.command a fun b => b.takeDue 4 (fun _ => true) fun _ c =>
    if c.holds 11 then
      let c1 := c.saveMedia false
      let report := c1.modes.reported
      let c2 := (c1.loseSwitched true).onModes fun m => { m.off with step := 2, warm := true, t0 := c.now, reported := report }
      (c2.setConditions fun _ => 4).faultPin
    else c

/-- Loss of input power, or its forced likeness, in M2 to M9 or M11: the flush, or, unprotected, as a rail fault (R145, R303, R320). -/
def Blk.loseInput (b : Blk) (cause : Nat) : Blk :=
  if b.unprotected then (b.dropRails).onModes fun m => { m with standby := m.standby || m.pfailHigh } else b.beginFlush cause

/-- FORCED_POWER_CUT_INPUT (R303). -/
def execForcedPowerCutInput (a : Stamp) (s : State) : Host.Outcome State Fault Refusal :=
  s.command a fun b => b.takeDue 5 (fun v => v == 1) fun _ c => if c.running && c.modes.flush.isNone then c.loseInput 3 else c

/-- FORCED_POWER_CUT_RAIL: all-off, logged as a forced cut of no slot (R303, R337, R339). -/
def execForcedPowerCutRail (a : Stamp) (s : State) : Host.Outcome State Fault Refusal :=
  s.command a fun b => b.takeDue 5 (fun v => v == 2) fun _ c => if c.running then c.allOff 0x06 0xFF 0 0 false else c

/-- FORCED_CLOCK_SWITCH_IRC: the domains move to their fallback sources, links and mode as they are (R355, R357). -/
def execForcedClockSwitchIrc (a : Stamp) (s : State) : Host.Outcome State Fault Refusal :=
  s.command a fun b => b.takeDue 6 (fun v => v == 0) fun _ c => (c.onClocks fun k => { k.fallBack with forced := true }).report { code := 0x7403 }

/-- FORCED_CLOCK_SWITCH_REFCLK: the return of R356 (R357). -/
def execForcedClockSwitchRefclk (a : Stamp) (s : State) : Host.Outcome State Fault Refusal :=
  s.command a fun b => b.takeDue 6 (fun v => v == 1) fun _ c => if c.clocks.failed then c else c.startReturn

/-! ### Voted fields (R304, R305) -/

/-- Bit of a voted field in VSTAT (R307). -/
def votedBit : Voted → Nat
  | .mode => 0
  | .damask _ => 1
  | .persistence => 2
  | .domains => 3
  | .feltPolicy => 4

/-- Width of a voted field in bits. -/
def votedWidth : Voted → Nat
  | .mode => 16
  | .damask _ => 1
  | .persistence => 2
  | .domains => 26
  | .feltPolicy => 4

/-- The field lives in the always-on domain. -/
def votedAon : Voted → Bool
  | .mode => true
  | .damask _ => false
  | .persistence => false
  | .domains => true
  | .feltPolicy => true

/-- The three copies of a voted field. -/
def Blk.copies (b : Blk) : Voted → List Nat
  | .mode => b.modes.voted
  | .damask u => ((b.damask.enable.getD u.val []).map b2n)
  | .persistence => b.velvet.mode
  | .domains => b.safety.domains
  | .feltPolicy => b.felt.policy

/-- All three copies of a voted field take a value. -/
def Blk.putCopies (b : Blk) (f : Voted) (v : Nat) : Blk :=
  match f with
  | .mode => b.onModes fun m => { m with voted := List.replicate 3 v }
  | .damask u => b.onDamask fun d => { d with enable := d.enable.set u.val (List.replicate 3 (v == 1)) }
  | .persistence => b.onVelvet fun x => { x with mode := List.replicate 3 v }
  | .domains => b.onSafety fun s => { s with domains := List.replicate 3 v }
  | .feltPolicy => b.onFelt fun x => { x with policy := List.replicate 3 v }

/-- Fail-safe value of a voted field: M11, encryption on, write-through, all domains enabled, every area protected (R304). -/
def Blk.failSafe (b : Blk) : Voted → Nat
  | .mode => modeWord (b.modes.cond ||| 0x800)
  | .damask _ => 1
  | .persistence => 1
  | .domains => 0x3FFFFFF
  | .feltPolicy => 0xF

/-- The value that a voted field holds. -/
def Blk.votedValue (b : Blk) (f : Voted) : Nat := (majority (b.copies f)).getD (b.failSafe f)

/-- The domain that holds the field is powered. -/
def Blk.votes (b : Blk) (f : Voted) : Bool := b.running || (votedAon f && b.powered)

/-- VOTE_CORRECTION: copy `copy` has come to hold `v`, which differs from the other two: the device rewrites it, sets CORR, counts and reports; four of a field within 1 s are a warning; a contained detection of mechanism 6 (R305). -/
def execVoteCorrection (a : Stamp) (f : Voted) (copy : Fin 3) (v : Nat) (s : State) : Host.Outcome State Fault Refusal :=
  s.command a fun b =>
    let old := b.votedValue f
    let hit := (b.copies f).set copy.val (v % 2 ^ votedWidth f)
    if b.votes f && majority hit == some old && v % 2 ^ votedWidth f != old then
      let times := b.now :: (b.safety.votes.getD (votedBit f) []).filter fun t => decide (b.now - t < 1000000000)
      let b1 := (b.putCopies f old).onSafety fun s =>
        { s with vcnt := min (s.vcnt + 1) (2 ^ 32 - 1), vcorr := s.vcorr ||| BitVec.ofNat 5 (1 <<< votedBit f), votes := s.votes.set [] (votedBit f) (if 4 ≤ times.length then [] else times) }
      let b2 := b1.report { code := 0x7C02, unit := BitVec.ofNat 16 (votedBit f), data := leBytes 1 (votedBit f) ++ leBytes 1 copy.val }
      (if 4 ≤ times.length then b2.report { code := 0x7C03, unit := BitVec.ofNat 16 (votedBit f) } else b2).detect 6 false
    else b

/-- VOTE_THREE_WAY_DISAGREEMENT: the copies hold the field's value, `v1` and `v2`, all different: the field takes its fail-safe value, FAULT is set, and the detection is uncontained (R305). -/
def execVoteThreeWayDisagreement (a : Stamp) (f : Voted) (v1 v2 : Nat) (s : State) : Host.Outcome State Fault Refusal :=
  s.command a fun b =>
    let old := b.votedValue f
    let w1 := v1 % 2 ^ votedWidth f
    let w2 := v2 % 2 ^ votedWidth f
    if b.votes f && w1 != old && w2 != old && w1 != w2 then
      ((b.putCopies f (b.failSafe f)).onSafety fun s => { s with vfault := s.vfault ||| BitVec.ofNat 5 (1 <<< votedBit f) }).detect 6 true
    else b

/-! ### Parity (R306) -/

/-- Domain code of a checker (R295); the control blocks stand past the indirect space. -/
def domCode : Dom → Nat
  | .fab => 0x00
  | .eng => 0x10
  | .jch => 0x20
  | .cry => 0x30
  | .aon => 0x40
  | .serdes => 0x50
  | .control h => 0x100 + headNum h

/-- PDOM bit of a checker (R307). -/
def pdomBit : Dom → Nat
  | .fab => 0
  | .eng => 1
  | .jch => 2
  | .cry => 3
  | .aon => 4
  | .serdes => 5
  | .control _ => 6

/-- A register reloads: a value from its active bank, which is the value in effect, any other its reset value (R306). -/
def Blk.reload (b : Blk) (d : Dom) (off : Nat) : Blk :=
  match d with
  | .control h => b.onCtl h fun c => match off / 4 * 4 with
      | 0x010 => { c with iaddr := 0 }
      | 0x018 => { c with ictl := 0x10 }
      | 0x020 => { c with istat := 0 }
      | 0x040 => { c with held := none }
      | 0x044 => { c with held := none }
      | 0x050 => { c with ltarget := 0, result := 0 }
      | 0x080 => { c with hint0 := c.hint0.extractLsb' 32 32 ++ (0 : BitVec 32) }
      | 0x084 => { c with hint0 := (0 : BitVec 32) ++ c.hint0.extractLsb' 0 32 }
      | 0x088 => { c with hint1 := c.hint1.extractLsb' 32 32 ++ (0 : BitVec 32) }
      | 0x08C => { c with hint1 := (0 : BitVec 32) ++ c.hint1.extractLsb' 0 32 }
      | _ => c
  | _ =>
    let addr := BitVec.ofNat 32 (domCode d * 2 ^ 24 + off)
    if (iEntry addr).isSome then b else { b with regs := b.regs.del addr.toNat }

/-- PARITY_MISMATCH: reload, event with the register's address, PCNT and PDOM; the second in one register within 1 s is uncontained (R306, R307). -/
def execParityMismatch (a : Stamp) (d : Dom) (off : BitVec 24) (s : State) : Host.Outcome State Fault Refusal :=
  s.command a fun b =>
    let key := domCode d * 2 ^ 24 + off.toNat
    if b.running || (d == .aon && b.powered) then
      let again := match b.safety.parity.find key with
        | some t => decide (b.now - t < 1000000000)
        | none => false
      let b1 := (b.reload d off.toNat).onSafety fun s =>
        { s with pcnt := min (s.pcnt + 1) (2 ^ 32 - 1), pdom := s.pdom ||| BitVec.ofNat 7 (1 <<< pdomBit d), parity := s.parity.put key b.now }
      (b1.report { code := 0x7C04, data := leBytes 4 key }).detect 7 again
    else b

end Sys2Proof.Machine
end

