-- ==== Sys2Proof/Machine/Erase.lean ====
section
/-! DEFINITION. Secure Erase and Sanitize (R221, R259). -/

namespace Sys2Proof.Machine

/-- Step 1: Velvet, the holding buffers and the tag cache are discarded; a barrier that waits for their lines has lost them. -/
def Blk.discardCaches (b : Blk) : Blk :=
  ((b.onVelvet fun v => { v with ways := [], bufs := [] }).onDamask fun d => { d with tagDirty := [], tagWays := [], dirtyTags := [] }).onPath fun p =>
    { p with fills := [], barriers := p.barriers.map fun x => { x with lines := [], lost := x.lost ++ x.lines } }

/-- Next media generation: 1 to 255, then 1 again (R238). -/
def nextGen (g : BitVec 8) : BitVec 8 := if g = 255 then 1 else g + 1

/-- Steps 2 and 3: MK and k give way to new ones, at either operation, as R237 and R259 have it; R31 names Sanitize alone for k, and this model draws k at both (DESIGN CHOICE, log 90); the generation increments, the encryption enable takes effect (R258), the binding record is written, the escrow has changed. -/
def Blk.newKeys (b : Blk) : Blk :=
  let mkey := b.drawn
  let b1 := b.draw
  let k : BitVec 64 := b1.drawn.setWidth 64
  let on := b.cfg 0x6800 0x02 == 1
  let b2 := b1.draw.onDamask fun d => { d with mkey := some mkey, k := some k, gen := nextGen d.gen, enable := List.replicate 4 (List.replicate 3 on), exporting := false }
  (((b2.itemWrite 3).itemWrite 3).bind).escrowChanged

/-- No region is offered or added at either head (R221). -/
def Blk.noRegionStands (b : Blk) : Bool := b.dev.rgns.all fun g => !g.stands .A && !g.stands .B

/-- A Sanitize abandons a scan that runs, with its results (R112). -/
def Blk.dropScan (b : Blk) : Blk := (b.twill.jobs.filter fun e => match e.2.work with
  | .scan _ _ => true
  | _ => false).foldl (fun b e => b.dropJob e.1) (b.onMedia fun m => { m with scan := none, scanFound := [] })

/-- Acceptance of an erase and its first three steps; another background operation, other than a scan that a Sanitize abandons, or a region that stands, makes it Busy (R112, R220, R221). -/
def Blk.startErase (b0 : Blk) (h : Head) (op : Nat) (sanitize : Bool) : Blk :=
  let scans := sanitize && b0.media.scan.isSome
  let b := if scans && b0.noRegionStands then b0.dropScan else b0
  if (b.bgRuns && !scans) || !b.noRegionStands then b.mbReply h op .busy []
  else
    let b1 := (b.discardCaches.newKeys).odSet 0x6830 0x02 0
    ((b1.onDamask fun d => { d with erase := some { sanitize := sanitize, step := 3 } }).onDev fun d => { d with bg := some (op, h, false) }).mbReply h op .backgroundStarted []

/-- SANITIZE (R221, R259). -/
def execSanitize (a : Stamp) (h : Head) (s : State) : Host.Outcome State Fault Refusal :=
  s.command a fun b => b.mbox h fun b => b.startErase h 0x4400 true

/-- SECURE_ERASE (R221, R259). -/
def execSecureErase (a : Stamp) (h : Head) (s : State) : Host.Outcome State Fault Refusal :=
  s.command a fun b => b.mbox h fun b => b.startErase h 0x4401 false

/-- A location lies in a slot of some use. -/
def Blk.locIn (b : Blk) (loc : Nat) (use : SlotUse → Bool) : Bool :=
  (List.range (slotsV b.dieCount)).any fun slot => b.isSlot slot && use (b.slotUse slot) &&
    (List.range 16).any fun t => (List.range (widthOf (b.slotCls slot))).any fun m => b.tileOf slot t m == (pidOf loc, loc % 2 ^ 23 / 64)

/-- A location holds a line of the binding record, which step 3 has written. -/
def Blk.bindLoc (b : Blk) (loc : Nat) : Bool := (List.range 17).any fun j => b.memLoc (bindMem b.dieCount j) == loc

/-- The tiles of the tag region, and with Twill's tables those of the metadata area but for the binding record, are reset; what ran on the media has ended in the meantime (log 103). -/
def Blk.blankAreas (b : Blk) : Blk :=
  let gone (loc : Nat) : Bool := b.locIn loc (fun u => u == .tag || u == .metadata) && !b.bindLoc loc
  b.onMedia fun m => { m with
    lines := m.lines.filter fun e => !gone e.1
    gone := m.gone.filter fun x => !gone x
    pend := [], owed := [], switchDue := [], changes := [], records := [], entries := [], nextRecord := 0, reload := []
    parts := m.parts.map fun e => (e.1, { e.2 with op := .idle, suspended := false, resetWait := [] }) }

/-- Steps 4 and 5: the tag region is blank, the poison list, the alarm table and Twill's tables are as provisioned. -/
def Blk.blankTables (b0 : Blk) : Blk :=
  let b := b0.blankAreas.onPath fun p => { p with deeps := [] }
  let b1 := b.onDamask fun d => { d with tagDirty := [], tagWays := [], dirtyTags := [], pinned := [], rekey := [], alarm := [], locks := [], resynced := none }
  let b2 := (b1.onMedia fun m => { m with poison := [], weak := [], warn75 := false, warn90 := false }).onDev fun d => { d with rgns := [], adding := none, releasing := none }
  b2.provisionSlots

/-- Step 6: the tiles of the region, hot-pool and free slots are reset; the tag region, the metadata area and the retired slots are not. -/
def Blk.overwriteAll (b : Blk) : Blk :=
  let kept (loc : Nat) : Bool := b.locIn loc fun u => u == .tag || u == .metadata || u == .retired
  b.onMedia fun m => { m with lines := m.lines.filter fun e => kept e.1, gone := m.gone.filter kept }

/-- The tile rows of the hot pool that still hold old lines wait for the resets of their tiles before a plan takes them (R67, R81). -/
def Blk.renewPool (b : Blk) : Blk :=
  let old := (b.hotSlots.flatMap fun slot => (List.range 16).map fun t => slot * 16 + t).filter fun k => !(b.rowTiles (k / 16) (k % 16)).isEmpty
  old.foldl (fun c k => c.resetRow k {}) b

/-- ERASE_COMPLETE: steps 4 to 6; the media are bound to the new keys (R254, R259). -/
def execEraseComplete (a : Stamp) (s : State) : Host.Outcome State Fault Refusal :=
  s.command a fun b =>
    match b.damask.erase with
    | none => b
    | some e =>
      if !b.mgmt || b.modes.step < 6 then b
      else
        let b1 := b.blankTables
        let b2 := if e.sanitize && b1.cfg 0x6830 0x01 == 1 then b1.overwriteAll else b1
        ((b2.renewPool.onDamask fun d => { d with erase := none }).odSet 0x6830 0x02 100).boundNow.bgEnds

end Sys2Proof.Machine
end

