-- ==== Sys2Proof/Machine/Terry.lean ====
section
/-! DEFINITION. Terry: its stripe reads (R106 to R109), Scan Media (R104), the SRAM lap (R110), what an SRAM access finds and does (R91 to R93), starvation (R111), and how what SRAM has lost of the map is restored. -/

namespace Sys2Proof.Machine

/-! ### Stripes and scans (R104, R106, R109, R112) -/

/-- Terry reads a stripe of a class: all its members. -/
def Blk.startTerry (b : Blk) (c : Cls) (k : Nat) : Blk := b.startJob { work := .terry c (k / 1024) (k % 1024), reads := stripeMems c (k / 1024) (k % 1024) }

/-- A stripe of Terry's of a class is being read. -/
def Blk.terryBusy (b : Blk) (c : Cls) : Bool := b.twill.jobs.any fun e => match e.2.work with
  | .terry d _ _ => d == c
  | _ => false

/-- Terry cannot check a stripe now: its lock is held (R112), or the resync has not passed its region since a dirty shutdown (R109). -/
def Blk.terryLater (b : Blk) (k : Nat) : Bool :=
  b.twill.locks.has k || (match b.regionAt (k / 1024), b.damask.resynced with
    | some (r, _), some l => !l.contains r
    | _, _ => false)

/-- The lap of a class, behind its pace, goes on with the stripe at its cursor, or passes over it; at the end of its stripes it returns to those passed over (R106, R108, R112). -/
def Blk.lapRead (b : Blk) (c : Cls) : Blk :=
  let l := b.media.lap c
  if b.terryBusy c || !l.behind b.opTime (b.lapTarget c) then b
  else match b.lapNext c l.cursor with
    | some k =>
      let later := b.terryLater k
      let b1 := b.onMedia fun m => m.onLap c fun l => { l with cursor := k + 1, skipped := if later then insUniq k l.skipped else l.skipped }
      if later then b1 else b1.startTerry c k
    | none => match l.skipped.find? fun k => !b.terryLater k with
      | some k =>
        let b1 := b.onMedia fun m => m.onLap c fun l => { l with skipped := l.skipped.erase k }
        if b.lapCovers c (k / 1024) (k % 1024) then b1.startTerry c k else b1.lapStep c 0
      | none => b

/-- A line of a Scan Media range is being read. -/
def Blk.scanBusy (b : Blk) : Bool := b.twill.jobs.any fun e => match e.2.work with
  | .scan _ _ => true
  | _ => false

/-- A scan goes on with the halves of its next line, whatever the pace (R104, R108). -/
def Blk.scanNext (b : Blk) : Blk := match b.media.scan with
  | some (k, n) =>
    let m := min n (2 - k % 2)
    let b1 := (b.onMedia fun x => { x with scan := some (k + m, n - m) }).scanFind k m
    if m = 0 || b1.unwritten (k / 2) then b1.scanOver
    else match b1.lookup (k / 2) with
      | some p => b1.startJob { work := .scan k m, reads := [p.mem] }
      | none => b1.scanOver
  | none => b

/-- TERRY_STRIPE_READ: Terry reads the next line of a scan that runs, and the next stripe of the lap of a class (R104, R106 to R109). -/
def execTerryStripeRead (a : Stamp) (cls : Cls) (s : State) : Host.Outcome State Fault Refusal :=
  s.command a fun b => if b.works then ((if b.scanBusy then b else b.scanNext).lapRead cls).drive else b

/-! ### What an SRAM word that cannot be corrected does (R93) -/

/-- An uncorrectable word of a line of Velvet: the affected half of a dirty line is poisoned, its bytes discarded; a clean line is dropped (R90). The lines of a slice stand in its bank set after set (log 28). -/
def Blk.velvetWord (b : Blk) (slice word : Nat) (tx : MediaTx) (addr : Bool) : Blk :=
  let n := word / 16
  let key := ((n / 16 * 16) + slice) * 16 + n % 16
  match b.velvet.ways.find key with
  | none => b
  | some v => if v.dirty || v.wt then b.loseHalf key v (decide (8 ≤ word % 16)) 0x5804 tx addr else if v.fillp then b else b.dropWay key

/-- An uncorrectable word of the tag cache: a clean tag line is read again, a dirty one loses its sixteen lines. -/
def Blk.tagWord (b : Blk) (n : Nat) (tx : MediaTx) (addr : Bool) : Blk :=
  match b.damask.tagWays.find n with
  | none => b
  | some ti =>
    let drop (b : Blk) : Blk := b.onDamask fun d => { d with tagWays := d.tagWays.del n, tagDirty := d.tagDirty.del ti, dirtyTags := d.dirtyTags.filter fun x => x != ti }
    if b.damask.tagDirty.has ti then (drop ((List.range 16).foldl (fun b i => b.poisonLine (16 * ti + i) 0x5804 tx addr) b)).damaskFailure (16 * ti) else drop b

/-- An uncorrectable word of Gauze's tables: a cell comes from the newest snapshot and is stale. -/
def Blk.gaugeWord (b : Blk) (n : Nat) : Blk :=
  b.onGauze fun g => { g with cells := match (b.newestSnap.map Snap.cells).bind fun t => t.find n with
    | some c => g.cells.put n { c with state := 2 }
    | none => g.cells.del n }

/-- An accepted request whose queue entry is lost: a read completes with poison, a write's half is poisoned; a fill of the device's own is read again. -/
def Blk.reqLost (b : Blk) (x : Acc) (addr : Bool) : Blk :=
  if x.req.kind.isRead then b.finishRead x none
  else if x.req.kind.isWrite then (b.listInternal (halfKey x.req.dpa) 0x5804 .hostWrite addr).finishWrite x
  else (b.endAcc x).onPath fun p => { p with fills := p.fills.put x.line (true, 0) }

/-- A word of a holding buffer: the half that it lies in is poisoned and its bytes are discarded. -/
def Blk.bufLost (b : Blk) (n : Nat) (x : HBuf) (i : Bool) (tx : MediaTx) (addr : Bool) : Blk := (b.listInternal (2 * x.li + b2n i) 0x5804 tx addr).putBuf n { x with data := putHalf x.data i (BitVec.allOnes 64) 0 }

/-- A word of the poison table: the records of the region that it serves are loaded again from the list on media, whose entries reads there also read until then (R112). -/
def Blk.tableWord (b : Blk) (key : Nat) : Blk :=
  let r := key / 32768
  let reads := ((b.media.entries.filter fun e => e.1 / 32768 == r).map Prod.snd).eraseDups
  if b.media.reload.contains r then b else (b.onMedia fun m => { m with reload := r :: m.reload }).startJob { work := .list r, reads := reads }

/-- An uncorrectable word of the queues and staging: the item that owns it fails. The model counts the accepted requests, the holding buffers' halves, the staging records, Tweed's counters, Muslin's set and the poison table's records in this order (log 28). -/
def Blk.queueWord (b : Blk) (word : Nat) (tx : MediaTx) (addr : Bool) : Blk :=
  let n := b.path.acc.length
  let u := n + 2 * b.velvet.bufs.length
  let m := u + b.linen.staging.length
  let p := min poisonCache b.media.poison.length
  let i := word % (m + 513 + p)
  if i < n then match b.path.acc[i]? with
    | some x => b.reqLost x addr
    | none => b
  else if i < u then match b.velvet.bufs[(i - n) / 2]? with
    | some (k, x) => b.bufLost k x (decide ((i - n) % 2 = 1)) tx addr
    | none => b
  else if i < m then match b.linen.staging[i - u]? with
    | some r => (b.onLinen fun l => { l with staging := dropSeq l.staging r.seq, waiting := l.waiting.filter fun k => k != r.seq }).drop r.sev
    | none => b
  else if i < m + 512 then b.onTweed fun t => { t with ctr := t.ctr.put (i - m) (0, true) }
  else if i = m + 512 then (if b.muslin.state = 0 then b else b.discardStaged 4 0)
  else match b.media.poison[i - m - 513]? with
    | some (key, _) => b.tableWord key
    | none => b

/-- An uncorrectable word by the use of its bank: an entry of the region map or a set of the hot-line table is down, and gate probes that read it hold their requests, until it has been restored. A word of the map holds one entry, one of the table one way (log 28). -/
def Blk.sramLost (b : Blk) (k word : Nat) (tx : MediaTx) (addr : Bool) : Blk :=
  let base := b.bankBase k
  match (b.bank k).use with
  | 0 => if (b.regionEntry (base * 262144 + word)).isSome then b.onTwill fun t => { t with mapDown := insUniq (base * 262144 + word) t.mapDown } else b
  | 1 => b.onTwill fun t => { t with hotDown := insUniq (((base - 13) * 262144 + word) / 8) t.hotDown }
  | 2 => b.velvetWord (base - 29) word tx addr
  | 3 => b.tagWord ((base - 45) * 16384 + word / 16) tx addr
  | 4 => let e := ((base - 49) * 2097152 + word * 8) / 196608
         if e < 64 then b.engineFail e else b
  | 5 => b.gaugeWord (word % 49152)
  | 6 => b.queueWord word tx addr
  | _ => b

/-- The entries that are down are reloaded: from the newest checkpoint with the journal's records, which hold SLOT, ROT, ROTP, MIG and CLASS as they are in effect; AGE, HOT and WEAR are the checkpoint's (R93). -/
def Blk.reloadEntry (b : Blk) (old : NMap RegionEntry) (r : Nat) : Blk := match b.regionEntry r with
  | some e =>
    let o := old.getD r { slot := e.slot, cls := e.cls }
    b.putRegion r { e with age := o.age, hot := o.hot, wear := if o.slot = e.slot then o.wear else BitVec.ofNat 18 (b.slotWear e.slot.toNat) }
  | none => b

/-- The sets that are down are rebuilt: from the newest checkpoint and a replay of the plans, which give each line its newest copy; IDLE and WRITTEN are the checkpoint's where that is its copy too (R84, R93). -/
def Blk.rebuildSet (b : Blk) (old : NMap HotEntry) (set : Nat) : Blk :=
  (b.hotWays set).foldl (fun b x =>
    let e := x.2
    let o := (old.find (set * 8 + x.1)).filter fun y => y.hslot == e.hslot && y.stripe == e.stripe && y.pos == e.pos
    b.putHot (set * 8 + x.1) { e with idle := (o.map HotEntry.idle).getD 0, written := (o.map HotEntry.written).getD true }) b

/-- What SRAM has lost of the map is restored, and the probes that it holds go on (R93). -/
def Blk.restoreMap (b : Blk) : Blk :=
  if b.twill.mapDown.isEmpty && b.twill.hotDown.isEmpty then b
  else
    let c := match b.ckptPair with
      | some (f, inc) => b.loadImages f inc
      | none => b.emptyMap
    let b1 := b.twill.mapDown.foldl (fun b r => b.reloadEntry c.twill.regions r) b
    (b.twill.hotDown.foldl (fun b x => b.rebuildSet c.twill.hot x) b1).onTwill fun t => { t with mapDown := [], hotDown := [] }

/-- A spare that fails is not there to take a bank. -/
def Blk.failBank (b : Blk) (k : Nat) : Blk := if (b.bank k).state = 1 then b.onBank k fun x => { x with state := 2, use := 8 } else b.bankFail k

/-- A word of a bank is read: one corrected counts, 256 of them in 24 h fail the bank; one that is not is a contained detection of mechanism 2 and fails it (R93, R400). -/
def Blk.sramRead (b : Blk) (k word : Nat) (e : SramErr) (tx : MediaTx) : Blk :=
  match e with
  | .clean => b
  | .corrected =>
    let l := b.opTime :: (b.bank k).corr.filter fun t => decide (b.opTime - t < 86400000)
    let b1 := (b.bump 0x5800 0x04 1).onBank k fun x => { x with corr := l }
    if 256 ≤ l.length then b1.failBank k else b1
  | _ =>
    let b1 := if e = .address then b.bump 0x5800 0x03 1 else b
    let b2 := ((b1.bump 0x5800 0x05 1).bump (0xA100 + k) 0x04 1).reportUnit 0x5804 5 k
    ((b2.sramLost k word tx (e == .address)).detect 2 false).failBank k

/-! ### The SRAM lap (R110) -/

/-- The scrub of a word: the next of the lap, in bank and word order, while the lap is behind the pace that ends it in 10 s; with the last word it ends. A failed bank has no words to read. -/
def Blk.scrubWord (b : Blk) (k word : Nat) (e : SramErr) : Blk :=
  let l := b.media.lapS
  if l.lines ≠ k * 262144 + word || !l.behind b.opTime 20000 then b
  else
    let b1 := if (b.bank k).state = 2 then b else b.sramRead k word e .scrub
    let b2 := b1.onMedia fun m => { m with lapS := if sramWords ≤ l.lines + 1 then l.ended b.opTime 60000 sramWords else { l with lines := l.lines + 1 } }
    b2.healthCheck

/-- SRAM_SCRUB: an access to a word of a bank. Terry's scrub reads it in an idle cycle and rewrites a corrected word in place; in a spare bank that is not in use it writes and reads back the lap's alternating pattern (R110). A read of the device's own corrects it likewise (R91). A narrow write reads, corrects and merges: of an uncorrectable word it writes nothing, and R93 handles that word (R92). -/
def execSramScrub (a : Stamp) (bank : Fin 66) (word : Nat) (how : SramAccess) (e : SramFlaw) (s : State) : Host.Outcome State Fault Refusal :=
  s.command a fun b =>
    if !b.mgmt then b
    else match how with
      | .scrub => b.scrubWord bank.val (word % 262144) e.outcome
      | _ => if (b.bank bank.val).state = 2 then b else b.sramRead bank.val (word % 262144) e.outcome .internal

/-! ### Starvation (R111) -/

/-- A lap becomes starved: one warning, DevLoad's floor, a changed health. -/
def Blk.starve (b : Blk) (i : Nat) (l : Lap) (limit : Nat) (f : Media → Media) : Blk :=
  if !l.starved && decide (limit < b.opTime - l.start) then (((b.onMedia f).bump 0x5820 0x0B 1).report { code := 0x5805, unit := BitVec.ofNat 16 i }).healthCheck else b

/-- SCRUB_STARVED: the current lap's elapsed time exceeds its target: 0 Voile, 1 Denim, 2 SRAM. -/
def execScrubStarved (a : Stamp) (lap : Fin 3) (s : State) : Host.Outcome State Fault Refusal :=
  s.command a fun b =>
    if !b.works then b
    else match lap.val with
      | 0 => b.starve 0 b.media.lapV (b.lapTarget .voile) fun m => { m with lapV := { m.lapV with starved := true } }
      | 1 => b.starve 1 b.media.lapD (b.lapTarget .denim) fun m => { m with lapD := { m.lapD with starved := true } }
      | _ => b.starve 2 b.media.lapS 60000 fun m => { m with lapS := { m.lapS with starved := true } }

end Sys2Proof.Machine
end

