-- ==== Sys2Proof/Machine/GauzeOps.lean ====
section
/-! DEFINITION. Gauze's own work: evaluation of a cell (R122, R123), staleness and probes (R124, R125), the offer of weak regions (R120), trend fits and refresh instants (R127 to R129), snapshots (R130). -/

namespace Sys2Proof.Machine

/-! ### Cells (R122 to R125) -/

/-- CELL_EVALUATION: a cell that has counted 4,096 reads is evaluated, and the rest of its probe batch is cancelled (R122, R125); a failed bank with no spare freezes the offsets (R410). -/
def execCellEvaluation (a : Stamp) (d : Fin 256) (k : Fin 16) (n : Fin 4) (j : Fin 3) (s : State) : Host.Outcome State Fault Refusal :=
  s.command a fun b =>
    let c := b.cell d k n j
    if 4096 ≤ c.reads ∧ !b.gauzeFrozen then
      (((b.putCell d k n j (c.evaluate b.opSec)).onGauze fun g => { g with probes := g.probes.del (cellKey d k n j) }).bump 0x5000 0x03 1).tw 103 1
    else b

/-- CELL_STALE: a cell in use whose last evaluation lies more than L_B back becomes stale; one event a die and 24 h (R124). -/
def execCellStale (a : Stamp) (d : Fin 256) (k : Fin 16) (n : Fin 4) (j : Fin 3) (s : State) : Host.Outcome State Fault Refusal :=
  s.command a fun b =>
    let c := b.cell d k n j
    if b.cellInUse d k n ∧ c.state ≠ 2 ∧ c.last + staleInterval k < b.opSec then
      let b1 := b.putCell d k n j { c with state := 2 }
      let due := match b.gauze.staleAt.find d with
        | some t => decide (t + 86400 ≤ b.opSec)
        | none => true
      if due then (b1.onGauze fun g => { g with staleAt := g.staleAt.put d b.opSec }).reportUnit 0x5001 3 d else b1
    else b

/-- PROBE_BATCH: a cell in use that reaches 3/4 of L_B without an evaluation gets a batch of 4,096 probes (R125). -/
def execProbeBatch (a : Stamp) (d : Fin 256) (k : Fin 16) (n : Fin 4) (j : Fin 3) (s : State) : Host.Outcome State Fault Refusal :=
  s.command a fun b =>
    let c := b.cell d k n j
    if b.cellInUse d k n && decide (4 * c.last + 3 * staleInterval k ≤ 4 * b.opSec) && !b.gauze.probes.has (cellKey d k n j) then
      b.onGauze fun g => { g with probes := g.probes.put (cellKey d k n j) 4096 }
    else b

/-! ### Offers (R120, R127 to R129) -/

/-- An area goes to the refresh queue with an instant; a tile row is to be collected ahead of its turn instead (R129). -/
def Blk.offerArea (b : Blk) (area sec : Nat) : Blk :=
  if 4194304 ≤ area ∧ area < 134217728 then
    let key := area - 4194304
    match b.twill.rows.find key with
    | some x => b.onTwill fun t => { t with rows := t.rows.put key { x with ahead := true } }
    | none => b
  else b.offerRefresh area sec

/-- WEAK_REGION_OFFER: an area's count has reached 32: it is offered with an instant of now and its entry cleared (R120). -/
def execWeakRegionOffer (a : Stamp) (area : Nat) (s : State) : Host.Outcome State Fault Refusal :=
  s.command a fun b => if 32 ≤ b.gauze.weakRgn.getD area 0 then ((b.offerArea area b.opSec).areaNew area).bump 0x5000 0x08 1 else b

/-- Points of a die's band for the trend: bucket and CBAR of the boundary-0 cells evaluated and fresh (R127). -/
def Blk.fitPoints (b : Blk) (d n : Nat) : List (Nat × Nat) :=
  (List.range 16).filterMap fun k => match b.gauze.cells.find (cellKey d k n 0) with
    | some c => if 1 ≤ c.evals ∧ c.state = 1 then some (k, c.cbar) else none
    | none => none

/-- What a least-squares line through some points is made of, with X = 2B + 1 for x = 0.30103 X and Y = CBAR for y = Y / 4,096: the number of points n, ΣX, ΣY, D = n ΣXX - (ΣX)^2 and N = n ΣXY - ΣX ΣY. The slope is N / (4096 * 0.30103 D), the intercept (ΣY D - N ΣX) / (4096 n D) (R127). -/
structure LineFit where
  /-- Points. -/
  n  : Int
  /-- ΣX. -/
  sx : Int
  /-- ΣY. -/
  sy : Int
  /-- D. -/
  d  : Int
  /-- N. -/
  s  : Int

/-- The sums over some points, bucket and CBAR. -/
def lineFit (p : List (Nat × Nat)) : LineFit :=
  let sum (f : Nat × Nat → Nat) : Int := ((p.map f).sum : Nat)
  let x (e : Nat × Nat) : Nat := 2 * e.1 + 1
  let n : Int := (p.length : Nat)
  { n := n, sx := sum x, sy := sum Prod.snd, d := n * sum (fun e => x e * x e) - sum x * sum x, s := n * sum (fun e => x e * e.2) - sum x * sum Prod.snd }

/-- The slope exceeds 0.005 (R127). -/
def LineFit.rises (f : LineFit) : Bool := decide (0 < f.d) && decide (5 * 4096 * 30103 * f.d < 100000000 * f.s)

/-- t*_fit of a line that rises: 10^((L - c0) / β) - 1, with L in 1/1,000 bit (R127). -/
def LineFit.age (f : LineFit) (level : Nat) : Nat :=
  tenPower ((4096 * (level : Int) * f.n * f.d - 1000 * (f.sy * f.d - f.s * f.sx)) * 30103) (1000 * 100000 * f.n * f.s).toNat

/-- c0 in 1/4,096 bit, held in its 16 bits short of the code for none (R131, log 92). -/
def LineFit.c0 (f : LineFit) : Nat := (clampInt (roundDiv (f.sy * f.d - f.s * f.sx) (f.n * f.d).toNat) 0 0xFFFE).toNat

/-- β in 1/65,536 bit per decade, held in its 16 bits (R131, log 92). -/
def LineFit.beta (f : LineFit) : Nat := (clampInt (roundDiv (16 * 100000 * f.s) (30103 * f.d).toNat) 0 0xFFFF).toNat

/-- A fit is valid: at least 3 points spanning at least 1.2 in x, and a slope over 0.005 (R127). -/
def fitValid (p : List (Nat × Nat)) : Bool :=
  let lo : Nat := p.foldl (fun m e => min m e.1) 16
  let hi : Nat := p.foldl (fun m e => max m e.1) 0
  decide (3 ≤ p.length) && decide (120000 ≤ 60206 * (hi - lo)) && (lineFit p).rises

/-- The band whose valid fit stands for the die: its current band, else the one of the most points (R127); only bands with a valid fit compete, and of several with equally many points the lowest stands (DESIGN CHOICE, log 91). -/
def Blk.fitBand (b : Blk) (d : Nat) : Option Nat :=
  let n := (b.die d).band
  if fitValid (b.fitPoints d n) then some n
  else ((List.range 4).filter fun m => fitValid (b.fitPoints d m)).foldl (fun best m => match best with
    | none => some m
    | some x => if (b.fitPoints d x).length < (b.fitPoints d m).length then some m else some x) none

/-- The mean acceleration over some temperatures as a fraction of `unit96`: the sum and the count, a count of 0 standing for none. -/
def Blk.meanAccel (b : Blk) (d n : Nat) : Nat × Nat :=
  let l := ((b.gauze.temps.getD d []).take n)
  (accelSum (b.dieCal d).theta l, l.length)

/-- t*_op of a fitted t*_fit: t*_fit × Ā7 / Ā1 (R128). -/
def Blk.opAge (b : Blk) (d t : Nat) : Nat :=
  let week := b.meanAccel d 1008
  let day := b.meanAccel d 144
  t * week.1 * day.2 / (max 1 (week.2 * day.1))

/-- t*_op when the model refresh interval M stands: M / Ā1 (R128). -/
def Blk.opModel (b : Blk) (d m : Nat) : Nat :=
  let day := b.meanAccel d 144
  m * unit96 * day.2 / max 1 day.1

/-- A die's temperature enters its history: one sample for 600 s of operating time, 1,008 for 7 days (R128, log 92). -/
def Blk.sampleTemp (b : Blk) (d : Nat) : Blk := b.onGauze fun g => { g with temps := g.temps.put d ((b.dieTemp d :: g.temps.getD d []).take 1008) }

/-- The fit of a die as its points and its temperatures give it (R127, R128). -/
def Blk.fitOf (b : Blk) (d : Nat) : Fit :=
  let m := b.cfg 0x5000 0x05
  match b.fitBand d with
  | some n =>
    let f := lineFit (b.fitPoints d n)
    { state := if n = (b.die d).band then 1 else 2, tOp := b.opAge d (min (f.age (b.cfg 0x5000 0x04)) (10 * m)), c0 := some f.c0, beta := f.beta }
  | none => { state := 0, tOp := b.opModel d m, c0 := none, beta := 0 }

/-- TREND_FIT: every 600 s of operating time, the trend of a die and its refresh age (R127, R128). -/
def execTrendFit (a : Stamp) (d : Fin 256) (s : State) : Host.Outcome State Fault Refusal :=
  s.command a fun b =>
    if (b.die d).state = 1 then
      let b1 := b.sampleTemp d
      b1.onGauze fun g => { g with fit := g.fit.put d (b1.fitOf d) }
    else b

/-- Every mapped area by its number: regions, hot-pool tile rows, tag region and metadata slots (R129). -/
def Blk.mappedAreas (b : Blk) : List Nat :=
  b.regionList.map Prod.fst ++ b.twill.rows.map (fun e => rowArea e.1) ++ b.fixedSlots.map fun slot => slotArea (b.slotCls slot) slot

/-- Class and slot of a mapped area. -/
def Blk.areaSlot (b : Blk) (area : Nat) : Cls × Nat :=
  let slot := if area < 4194304 then ((b.regionEntry area).map fun e => e.slot.toNat).getD 0
    else if area < 134217728 then (area - 4194304) / 16 else (area - 134217728) / 2
  (b.slotCls slot, slot)

/-- The smallest refresh age of the member dies of a slot (R128). -/
def Blk.slotRefreshAge (b : Blk) (c : Cls) (slot : Nat) : Nat :=
  let ages := (List.range (widthOf c)).map fun m => b.refreshAge (b.memberDie slot (widthOf c) m)
  ages.foldl min (ages.headD 0)

/-- Upper bound of an age bucket, t_(a+1) = 2^((a+1)/2) - 1 s, rounded up to whole seconds (R53, R128). -/
def ageUpper (a : Nat) : Nat := if a % 2 = 1 then 2 ^ ((a + 1) / 2) - 1 else isqrt (2 ^ (a + 1))

/-- The instant of an area whose age bucket and smallest refresh age are given, now when it has passed (R128, R129); bucket 63 has no upper bound, so that its area is due (log 33). -/
def Blk.dueIn (b : Blk) (age least : Nat) : Nat := if age = 63 then b.opSec else max b.opSec (b.opSec + least - ageUpper age)

/-- An area is evaluated: offered with its predicted instant, now when that has passed. A tile row is offered ahead of its turn once its instant has come (R129, log 33). -/
def Blk.evaluateArea (b : Blk) (area : Nat) : Blk :=
  let x := b.areaSlot area
  let due := b.dueIn (b.areaAge area) (b.slotRefreshAge x.1 x.2)
  if 4194304 ≤ area ∧ area < 134217728 ∧ b.opSec < due then b else b.offerArea area due

/-- The mapped area of lowest number from one on. -/
def Blk.areaFrom (b : Blk) (k : Nat) : Option Nat :=
  (b.mappedAreas.filter fun x => decide (k ≤ x)).foldl (fun best x => match best with
    | none => some x
    | some y => some (min x y)) none

/-- A pass of margin evaluation begins: each 600 s of operating time one (R129). -/
def Blk.beginEvaluation (b : Blk) : Blk :=
  let due := match b.gauze.evalAt with
    | some t => decide (t + 600 ≤ b.opSec) && (b.areaFrom b.gauze.evalNext).isNone
    | none => true
  if due then b.onGauze fun g => { g with evalNext := 0, evalAt := some b.opSec } else b

/-- MARGIN_EVALUATION: the next mapped area of the pass is evaluated (R128, R129). -/
def execMarginEvaluation (a : Stamp) (s : State) : Host.Outcome State Fault Refusal :=
  s.command a fun b =>
    if !b.works then b
    else
      let b1 := b.beginEvaluation
      match b1.areaFrom b1.gauze.evalNext with
      | some area => ((b1.evaluateArea area).onGauze fun g => { g with evalNext := area + 1 }).drive
      | none => b1

/-! ### Snapshots (R130) -/

/-- GAUZE_SNAPSHOT: every 600 s of operating time, not during a hold-up flush (R130), with the lines of its generation that have failed (R434). -/
def execGauzeSnapshot (a : Stamp) (failed : List (Fin 16384)) (s : State) : Host.Outcome State Fault Refusal :=
  s.command a fun b =>
    if b.works then (failed.foldl (fun c j => c.metaFail (snapMem c.dieCount (b.nextSnap % 2) j.val)) b).snapshot else b

end Sys2Proof.Machine
end

