-- ==== Sys2Proof/Machine/Dies.lean ====
section
/-! DEFINITION. The commands of the media dies (R180 to R182): the word that goes out on the channel, and what the die does with it (R187 to R192, R196 to R198, R204). -/

namespace Sys2Proof.Machine

/-! ### The die's side -/

/-- A die that is present and awake takes array and register commands; one in standby takes WAK alone (R204). -/
def Blk.dieAwake (b : Blk) (d : Nat) : Bool := (b.die d).state != 0 && !(b.die d).standby

/-- A die on the die's side of a partition. -/
def Blk.dpart (b : Blk) (pid : Nat) : DiePart := b.media.dparts.getD pid {}

/-- An alert cause, by its ALRT position, becomes pending (R185). -/
def Blk.alert (b : Blk) (d cause : Nat) : Blk := b.onDie d fun x => { x with astat := x.astat ||| BitVec.ofNat 7 (1 <<< cause) }

/-- The die refuses a command (R192). -/
def Blk.dieRefuse (b : Blk) (d : Nat) : Blk := b.alert d 5

/-- ST of a die's transfer, with the temperature that the die has last reported (log 34). -/
def Blk.dieSt (b : Blk) (d : Nat) (line : BitVec 23) (rstat : BitVec 3) (part : Nat) (seq : BitVec 3) : BitVec 64 :=
  let x := b.die d
  stWord line x.astat rstat (BitVec.ofNat 5 part) seq x.tval (BitVec.ofInt 12 x.temp)

/-- A partition that takes reads: idle or suspended, and not within an earlier read (R190, R192). -/
def Blk.takesRead (b : Blk) (pid : Nat) : Bool :=
  decide ((b.dpart pid).until_ ≤ b.now) && (match (b.part pid).op with
    | .idle => true
    | .program _ _ _ _ _ _ => (b.part pid).suspended
    | _ => false)

/-- A partition that takes a program or reset: idle and not within a read. -/
def Blk.takesWrite (b : Blk) (pid : Nat) : Bool := decide ((b.dpart pid).until_ ≤ b.now) && (b.part pid).isIdle

/-- Partitions of a die in tile reset. -/
def Blk.resets (b : Blk) (d : Nat) : Nat := (b.media.parts.filter fun e => e.1 / 32 == d && e.2.resetting).length

/-- What a program without an end leaves in its line: a content that the spec does not give (log 4). -/
def Blk.tearPart (b : Blk) (pid : Nat) : Blk :=
  match (b.part pid).op with
  | .program line _ _ _ _ _ => b.useFree.storeLine (locOf pid line) { data := b.freeVal 1024, md := b.freeVal 40 }
  | .reset tile count _ => (List.range (64 * (count + 1))).foldl (fun c i => c.useFree.storeLine (locOf pid (tile * 64 + i)) { data := c.freeVal 1024, md := c.freeVal 40 }) b
  | _ => b

/-! ### Reads (R188, R194) -/

/-- RD or MRD at a die: the transfer, or a refused one with RSTAT 2 and data 0 (R192). -/
def Blk.dieRead (b : Blk) (pid line : Nat) (seq : BitVec 3) (t : Nat) : Blk :=
  let d := pid / 32
  let part := pid % 32
  if b.takesRead pid then
    let b1 := b.occupy pid line seq t
    match (b1.dpart pid).out with
    | some (l, _, rstat, sg, content) => b1.emit (.dq (d / 8) (d % 8) (b.dieSt d l rstat part seq) sg content)
    | none => b1
  else
    let b1 := b.dieRefuse d
    b1.useFree.emit (.dq (d / 8) (d % 8) (b1.dieSt d (BitVec.ofNat 23 line) 2 part seq) (b1.freeVal 72) 0)

/-- RD: senses a line with three offsets and returns it at tRD (R188). -/
def execRd (a : Stamp) (ch : Fin 32) (die : Fin 8) (part : Fin 32) (line : BitVec 23) (o2 o1 o0 : BitVec 9) (s : State) : Host.Outcome State Fault Refusal :=
  s.command a fun b =>
    let pid := partOf ch die part
    let seq := (b.die (pid / 32)).seq
    let b1 := (b.sendDie (pid / 32) (.rd (BitVec.ofNat 5 part.val) line o2 o1 o0)).twChan ch.val 1
    if b1.dieAwake (pid / 32) then b1.dieRead pid line.toNat seq 250 else b1

/-- The age and band of a probe: a margin read in an idle cycle, of a line in whose age bucket a cell of its die and band has a batch queued, at the offsets of R119 (R107, R125). -/
def Blk.probeOf (b : Blk) (pid line : Nat) (o2 o1 o0 : BitVec 9) : Option (Nat × Nat) :=
  let d := pid / 32
  let n := (b.die d).band
  if !b.idleCycle pid || b.inRecovery (locOf pid line) then none
  else match b.memAt (locOf pid line) with
    | none => none
    | some m =>
      let a := b.memAge m
      let o (j : Nat) : BitVec 9 := BitVec.ofInt 9 (b.readOffset d j a n)
      if ((List.range 3).any fun j => b.gauze.probes.has (cellKey d (a / 4) n j)) && o2 == o 2 && o1 == o 1 && o0 == o 0 then some (a, n) else none

/-- A probe is taken from the batch of its cells, which come into use with it (R125, R126). -/
def Blk.probeSent (b : Blk) (d a n : Nat) : Blk :=
  match (List.range 3).find? fun j => b.gauze.probes.has (cellKey d (a / 4) n j) with
  | some j =>
    let k := cellKey d (a / 4) n j
    let left := b.gauze.probes.getD k 0
    ((b.openCells d a n).onGauze fun g => { g with probes := if left ≤ 1 then g.probes.del k else g.probes.put k (left - 1) }).bump 0x5000 0x06 1
  | none => b

/-- MRD: a margin read, which occupies an idle partition until its transfer at tMRD (R188, R190); in an idle cycle it may be a probe of a batch (R125). -/
def execMrd (a : Stamp) (ch : Fin 32) (die : Fin 8) (part : Fin 32) (line : BitVec 23) (o2 o1 o0 : BitVec 9) (s : State) : Host.Outcome State Fault Refusal :=
  s.command a fun b =>
    let pid := partOf ch die part
    let seq := (b.die (pid / 32)).seq
    let b1 := b.sendDie (pid / 32) (.mrd (BitVec.ofNat 5 part.val) line o2 o1 o0)
    if !b1.dieAwake (pid / 32) then b1
    else if !b1.takesWrite pid then b1.dieRead pid line.toNat seq 400
    else
      let probe := b.probeOf pid line.toNat o2 o1 o0
      let b2 := match probe with
        | some (a, n) => b1.probeSent (pid / 32) a n
        | none => b1
      (b2.dieRead pid line.toNat seq 400).onPart pid fun p => { p with op := .marginRead { line := line.toNat, o2 := o2, o1 := o1, o0 := o0, probe := probe } }

/-- RRS: the output buffer once more, with the SEQ of its read (R185, R188, R194). A partition that has read nothing returns a content that the spec does not give. A refused RRS returns no transfer: R192 speaks of RD and MRD (DESIGN CHOICE, log 100). -/
def execRrs (a : Stamp) (ch : Fin 32) (die : Fin 8) (part : Fin 32) (s : State) : Host.Outcome State Fault Refusal :=
  s.command a fun b =>
    let pid := partOf ch die part
    let d := pid / 32
    let seq := (b.die d).seq
    let b1 := (b.sendDie d (.rrs (BitVec.ofNat 5 part.val))).twChan ch.val 6
    if !b1.dieAwake d then b1
    else if !b1.takesRead pid then b1.dieRefuse d
    else match (b1.dpart pid).out with
      | some (l, q, rstat, sg, content) => b1.emit (.dq ch.val die.val (b1.dieSt d l rstat part.val q) sg content)
      | none => b1.useFree.emit (.dq ch.val die.val (b1.dieSt d 0 0 part.val seq) (b1.freeVal 72) (b1.freeVal 1152))

/-! ### Programs and resets (R189, R191, R192) -/

/-- PSTATE of a partition (R187). -/
def PartSt.code (p : PartSt) : Nat :=
  match p.op with
  | .idle => 0
  | .program _ _ _ _ _ _ => if p.suspended then 2 else 1
  | .reset _ _ _ => 3
  | .verify _ _ _ _ _ _ => 0
  | .marginRead _ => 3

/-- Partitions of a die that program, overwrite or are suspended (R187, R192). -/
def Blk.dieWrites (b : Blk) (d : Nat) : Nat := (b.media.parts.filter fun e => e.1 / 32 == d && (e.2.code == 1 || e.2.code == 2)).length

/-- PGM or OVW at a die: refused outside its rules with the data discarded; with data refused, WDAT and WSEQ; else the operation runs until PROGRAM_COMPLETE. -/
def Blk.dieProgram (b : Blk) (pid line : Nat) (content : BitVec 1152) (ovw accepted : Bool) (seq : BitVec 3) : Blk :=
  let d := pid / 32
  let blank := (b.media.lines.find (locOf pid line)).isNone
  if !b.takesWrite pid || decide (8 ≤ b.dieWrites d) || (!ovw && !blank) then b.dieRefuse d
  else if !accepted then (b.alert d 0).onDie d fun x => { x with wseq := some seq }
  else
    let c : MLine := { data := content.setWidth 1024, md := content.extractLsb' 1024 40 }
    let why : ProgFor := .rewrite ((b.memAt (locOf pid line)).getD { cls := .voile, slot := slotsV b.dieCount, stripe := 0, m := 0 })
    b.onPart pid fun p => { p with op := .program line c why ovw false 0, suspended := false, suspTotal := 0, suspCount := 0, since := b.now, pseq := seq }

/-- PGM: takes its data at tCWL and programs a blank line (R189). -/
def execPgm (a : Stamp) (ch : Fin 32) (die : Fin 8) (part : Fin 32) (line : BitVec 23) (content : BitVec 1152) (accepted : Bool) (s : State) : Host.Outcome State Fault Refusal :=
  s.command a fun b =>
    let pid := partOf ch die part
    let seq := (b.die (pid / 32)).seq
    let b1 := (b.sendDie (pid / 32) (.pgm (BitVec.ofNat 5 part.val) line)).twChan ch.val 2
    if b1.dieAwake (pid / 32) then b1.dieProgram pid line.toNat content false accepted seq else b1

/-- OVW: overwrites a line in place (R189). -/
def execOvw (a : Stamp) (ch : Fin 32) (die : Fin 8) (part : Fin 32) (line : BitVec 23) (content : BitVec 1152) (accepted : Bool) (s : State) : Host.Outcome State Fault Refusal :=
  s.command a fun b =>
    let pid := partOf ch die part
    let seq := (b.die (pid / 32)).seq
    let b1 := (b.sendDie (pid / 32) (.ovw (BitVec.ofNat 5 part.val) line)).twChan ch.val 3
    if b1.dieAwake (pid / 32) then b1.dieProgram pid line.toNat content true accepted seq else b1

/-- TRS: resets 1 to 4 consecutive tiles of a partition, which run until TILE_RESET_COMPLETE (R191, R192). -/
def execTrs (a : Stamp) (ch : Fin 32) (die : Fin 8) (part : Fin 32) (tile : BitVec 17) (count : Fin 4) (s : State) : Host.Outcome State Fault Refusal :=
  s.command a fun b =>
    let pid := partOf ch die part
    let d := pid / 32
    let b1 := (b.sendDie d (.trs (BitVec.ofNat 5 part.val) tile (BitVec.ofNat 2 count.val))).twChan ch.val 4
    if !b1.dieAwake d then b1
    else if !b1.takesWrite pid || decide (4 ≤ b1.resets d) || decide (131072 ≤ tile.toNat + count.val) then b1.dieRefuse d
    else b1.onPart pid fun p => { p with op := .reset tile.toNat count.val none, since := b.now }

/-- SUS: suspends a program, abandons a margin read, is refused by a tile reset and within tRES of an RSM, and else changes nothing (R190). -/
def execSus (a : Stamp) (ch : Fin 32) (die : Fin 8) (part : Fin 32) (s : State) : Host.Outcome State Fault Refusal :=
  s.command a fun b =>
    let pid := partOf ch die part
    let d := pid / 32
    let b1 := (b.sendDie d (.sus (BitVec.ofNat 5 part.val))).twChan ch.val 5
    if !b1.dieAwake d then b1
    else match (b1.part pid).op with
      | .program _ _ _ _ _ _ =>
        if (b1.part pid).suspended then b1
        else if b1.now < (b1.part pid).readyAt then b1.dieRefuse d
        else b1.onPart pid fun p => { p with suspended := true, suspSince := b1.now, suspCount := p.suspCount + 1 }
      | .reset _ _ _ => b1.dieRefuse d
      | .verify _ _ _ _ _ _ => b1
      | .marginRead _ => (b1.onPart pid fun p => { p with op := .idle }).onMedia fun m => { m with dparts := m.dparts.set {} pid { (m.dparts.getD pid {}) with until_ := b1.now } }
      | .idle => b1

/-- RSM: a suspended operation runs on within tRES; elsewhere nothing changes (R190). -/
def execRsm (a : Stamp) (ch : Fin 32) (die : Fin 8) (part : Fin 32) (s : State) : Host.Outcome State Fault Refusal :=
  s.command a fun b =>
    let pid := partOf ch die part
    let b1 := b.sendDie (pid / 32) (.rsm (BitVec.ofNat 5 part.val))
    if b1.dieAwake (pid / 32) && (b1.part pid).suspended then
      b1.onPart pid fun p => { p with suspended := false, suspTotal := p.suspTotal + (b1.now - p.suspSince), readyAt := b1.now + 60 }
    else b1

/-! ### Status and registers (R187, R197, R198) -/

/-- The die status that STR returns (R187). -/
def Blk.dieStatusWord (b : Blk) (d : Nat) : BitVec 256 :=
  let x := b.die d
  let pstate : Nat := (List.range 32).foldl (fun n q => n + (b.part (partId d q)).code * 4 ^ q) 0
  strWord x.wseq (b.resets d) (b.dieWrites d) x.astat x.tval (BitVec.ofInt 12 x.temp) x.pfail (BitVec.ofNat 64 pstate)

/-- A die by channel and number. -/
def dieOf (ch : Fin 32) (die : Fin 8) : Nat := 8 * ch.val + die.val

/-- A die that is awake answers STR with its status (R187), which reports its temperature (R117). -/
def Blk.dieAnswers (b : Blk) (d : Nat) : Blk :=
  if b.dieAwake d then (b.emit (.short (d / 8) (d % 8) (b.dieStatusWord d))).dieStatus d (b.die d).astat (b.die d).tval (b.die d).temp else b

/-- STR: the die status in a short transfer (R187). -/
def execStr (a : Stamp) (ch : Fin 32) (die : Fin 8) (s : State) : Host.Outcome State Fault Refusal :=
  s.command a fun b =>
    let d := dieOf ch die
    (b.sendDie d .str).dieAnswers d

/-- A die in use on a channel that runs has not reported for 10 ms (R117). -/
def Blk.pollDue (b : Blk) (d : Nat) : Bool := (b.die d).state == 1 && (b.chan (d / 8)).state == 2 && !b.modes.deep && b.dieAwake d && decide ((b.die d).reportAt + 10000000 ≤ b.now)

/-- The dies that have not reported for 10 ms are polled (R117). -/
def Blk.pollDies (b : Blk) : Blk := ((List.range 256).filter b.pollDue).foldl (fun b d => (b.sendDie d .str).dieAnswers d) b

/-- OPERATING_TIME_TICK: operating time counts a millisecond in M2 to M11, at most to 48 bits (R368); regions and slots age (R53, R118); life, health and alert thresholds are watched (R76, R77, R221, R222); what SRAM has lost of the map is restored, within the bounds of R93; silent dies are polled (R117); a calibration import that waits is applied once it may be (R274). -/
def execOperatingTimeTick (a : Stamp) (s : State) : Host.Outcome State Fault Refusal :=
  s.command a fun b =>
    if b.running then ((((({ b with opTime := min (b.opTime + 1) (2 ^ 48 - 1) } : Blk).ageRegions.ageSlots.restoreMap).lifeCheck).alertCheck).pollDies).heldImport else b

/-- The causes of a mask are cleared; PFAIL or RFAIL among them clears the PFAIL bits (R187); THERM comes back while the temperature stays at or above TALRT (R185). -/
def clearCauses (x : DieSt) (mask : BitVec 7) (now : Nat) : DieSt :=
  let left := x.astat &&& ~~~mask
  { x with astat := if mask.getLsbD 4 && decide (talrtOf x ≤ x.temp) && x.tval then left ||| 0x10 else left,
           pfail := if mask.getLsbD 2 || mask.getLsbD 3 then 0 else x.pfail, alcAt := now }

/-- What a command does to each die that its chip selects address and that is awake. -/
def Blk.eachDie (b : Blk) (ch : Nat) (cs : BitVec 8) (f : DieSt → DieSt) : Blk :=
  (selected ch cs).foldl (fun c d => if b.dieAwake d then c.onDie d f else c) b

/-- ALC: alert causes are cleared by a mask (R197). -/
def execAlc (a : Stamp) (ch : Fin 32) (cs : BitVec 8) (mask : BitVec 7) (s : State) : Host.Outcome State Fault Refusal :=
  s.command a fun b => (b.sendTo ch.val cs (.alc mask)).eachDie ch.val cs fun x => clearCauses x mask b.now

/-- Bits of a mode register that hold fields; ASTAT is read-only (R198). -/
def mrMask (addr : Nat) : BitVec 16 :=
  match addr with
  | 0x00 => 0xE000
  | 0x01 => 0x0777
  | 0x02 => 0x007F
  | 0x03 => 0x001F
  | 0x04 => 0x0FFF
  | 0x05 => 0x007F
  | _ => if (0x10 ≤ addr ∧ addr ≤ 0x33) ∨ (0x50 ≤ addr ∧ addr ≤ 0x73) then 0x003F else 0

/-- A mode register is written (R198): its fields, FAST among them. Reserved registers and bits take nothing (log 34). A value outside a field's stated range, or one of its reserved codes, is stored as written: R198 gives such a write no effect of its own (DESIGN CHOICE, log 100). -/
def writeMr (x : DieSt) (addr : Nat) (v : BitVec 16) : DieSt :=
  let m := mrMask addr
  if m = 0 then x
  else { x with mr := x.mr.put addr (v &&& m).toNat, fast := if addr = 0 then v.getLsbD 15 else x.fast }

/-- MRW: writes a mode register (R198). -/
def execMrw (a : Stamp) (ch : Fin 32) (cs : BitVec 8) (addr : BitVec 8) (v : BitVec 16) (s : State) : Host.Outcome State Fault Refusal :=
  s.command a fun b => (b.sendTo ch.val cs (.mrw addr v)).eachDie ch.val cs fun x => writeMr x addr.toNat v

/-- What MRR returns: the register, ASTAT the pending causes; a reserved address has no stated value (log 4). -/
def Blk.readMr (b : Blk) (d addr : Nat) : BitVec 16 :=
  if addr = 0x06 then (b.die d).astat.setWidth 16 else if mrMask addr = 0 then b.freeVal 16 else dieMr (b.die d) addr

/-- MRR: a mode register's value in DQ[15:0] of beat 0 (R187). -/
def execMrr (a : Stamp) (ch : Fin 32) (die : Fin 8) (addr : BitVec 8) (s : State) : Host.Outcome State Fault Refusal :=
  s.command a fun b =>
    let d := dieOf ch die
    let b1 := b.sendDie d (.mrr addr)
    if b1.dieAwake d then b1.useFree.emit (.short ch.val die.val ((b1.readMr d addr.toNat).setWidth 256)) else b1

/-- IDR: the 64-bit die ID in beats 0 and 1 (R187). -/
def execIdr (a : Stamp) (ch : Fin 32) (die : Fin 8) (s : State) : Host.Outcome State Fault Refusal :=
  s.command a fun b =>
    let d := dieOf ch die
    let b1 := b.sendDie d .idr
    if b1.dieAwake d then b1.emit (.short ch.val die.val ((b1.die d).id.setWidth 256)) else b1

/-- ZQC: long or short calibration; the die's I/O is unusable for tZQL or tZQS, and no state of the die changes (R205). -/
def execZqc (a : Stamp) (ch : Fin 32) (cs : BitVec 8) (long : Bool) (s : State) : Host.Outcome State Fault Refusal :=
  s.command a fun b => b.sendTo ch.val cs (.zqc long)

/-- TRN: the training buffer, or a PRBS-31 pattern whose start from its 8-bit seed the spec does not give (log 4), with RSTAT 4 and LINE 0; no partition is touched (R185, R188). -/
def execTrn (a : Stamp) (ch : Fin 32) (die : Fin 8) (buffer : Bool) (seed : BitVec 8) (s : State) : Host.Outcome State Fault Refusal :=
  s.command a fun b =>
    let d := dieOf ch die
    let seq := (b.die d).seq
    let b1 := b.sendDie d (.trn buffer seed)
    if b1.dieAwake d then
      let b2 := b1.useFree
      b2.useFree.emit (.dq ch.val die.val (b2.dieSt d 0 4 0 seq) (b1.freeVal 72) (if buffer then (b2.die d).tbuf else b2.freeVal 1152))
    else b1

/-- TBW: the training buffer is written without any check (R186). -/
def execTbw (a : Stamp) (ch : Fin 32) (die : Fin 8) (content : BitVec 1152) (s : State) : Host.Outcome State Fault Refusal :=
  s.command a fun b =>
    let d := dieOf ch die
    let b1 := b.sendDie d .tbw
    if b1.dieAwake d then b1.onDie d fun x => { x with tbuf := content } else b1

/-! ### Standby and reset -/

/-- SBY: the dies keep content, registers and training in standby (R204). -/
def execSby (a : Stamp) (ch : Fin 32) (cs : BitVec 8) (s : State) : Host.Outcome State Fault Refusal :=
  s.command a fun b => (b.sendTo ch.val cs .sby).eachDie ch.val cs fun x => { x with standby := true }

/-- WAK: the dies leave standby (R204). -/
def execWak (a : Stamp) (ch : Fin 32) (cs : BitVec 8) (s : State) : Host.Outcome State Fault Refusal :=
  s.command a fun b => (selected ch.val cs).foldl (fun c d => if (b.die d).state = 0 then c else c.onDie d fun x => { x with standby := false }) (b.sendTo ch.val cs .wak)

/-- A die after RST: slow command mode, mode registers at reset, no cause pending, next SEQ 0 (R180, R198). -/
def resetDie (x : DieSt) : DieSt := { x with seq := 0, fast := false, mr := [], standby := false, astat := 0, pfail := 0, wseq := none, again := 0 }

/-- A die's partitions after RST: idle, what ran torn (log 34), the output buffers empty. -/
def Blk.resetParts (b : Blk) (d : Nat) : Blk :=
  let b1 := (List.range 32).foldl (fun b q => b.tearPart (partId d q)) b
  (List.range 32).foldl (fun b q => b.onPart (partId d q) fun p => { p.ended with readyAt := 0 })
    (b1.onMedia fun m => { m with dparts := m.dparts.filter fun e => e.1 / 32 != d })

/-- RST: the die is reset into slow command mode (R180). -/
def execRst (a : Stamp) (ch : Fin 32) (cs : BitVec 8) (s : State) : Host.Outcome State Fault Refusal :=
  s.command a fun b => (selected ch.val cs).foldl (fun c d => if (b.die d).state = 0 then c else (c.resetParts d).onDie d resetDie) (b.sendTo ch.val cs .rst)

end Sys2Proof.Machine
end

