-- ==== Sys2Proof/Machine/Joern.lean ====
section
/-! DEFINITION. The Joern channels: alert service (R195 to R197), training and its verification (R199, R200), retrains (R202), and the periodic calibration (R201). -/

namespace Sys2Proof.Machine

/-! ### Alert service (R197) -/

/-- Fields of the die status (R187). -/
def strAlrt (v : BitVec 256) : BitVec 7 := v.extractLsb' 109 7
/-- PFAIL bit of a partition. -/
def strPfail (v : BitVec 256) (q : Nat) : Bool := v.getLsbD (64 + q)
/-- PSTATE of a partition. -/
def strPstate (v : BitVec 256) (q : Nat) : Nat := fld v.toNat (2 * q) 2
/-- WSEQ, when it is valid. -/
def strWseq (v : BitVec 256) : Option (BitVec 3) := if v.getLsbD 127 then some (v.extractLsb' 124 3) else none

/-- A program that a die refused or ignored is sent again with a new SEQ, at most three times; the fourth send refused in a row asks for a retrain, after which it is issued again (R95, R195, R196). -/
def Blk.resend (b : Blk) (ch pid : Nat) : Blk :=
  match (b.part pid).op with
  | .program line _ _ ovw _ _ =>
    let n := (b.part pid).refused
    if 3 ≤ n then (b.onChan ch fun c => { c with retrain := true }).onPart pid fun p => { p with refused := 4 }
    else (((b.bump (0x3000 + 0x20 * ch) 0x06 1).bump 0x5800 0x06 1).sendProgram pid line ovw).onPart pid fun p => { p with since := b.now, refused := n + 1 }
  | _ => b

/-- Partitions of a die whose program satisfies a test. -/
def Blk.programsOf (b : Blk) (d : Nat) (ok : Nat → PartSt → Bool) : List Nat :=
  (List.range 32).filter fun q => (match (b.part (partId d q)).op with
    | .program _ _ _ _ _ _ => true
    | _ => false) && ok q (b.part (partId d q))

/-- WDAT: the operation whose SEQ is WSEQ is sent again. -/
def Blk.serveWdat (b : Blk) (d : Nat) (v : BitVec 256) : Blk :=
  (b.programsOf d fun _ p => some p.pseq == strWseq v).foldl (fun b q => b.resend (d / 8) (partId d q)) b

/-- CPAR and REFUS: what the die has not begun is issued again: programs whose partitions it reports idle. -/
def Blk.serveIdle (b : Blk) (d : Nat) (v : BitVec 256) : Blk :=
  (b.programsOf d fun q _ => strPstate v q == 0 && !strPfail v q).foldl (fun b q => b.resend (d / 8) (partId d q)) b

/-- REFUS: the engine adopts which programs stand suspended (R192). -/
def Blk.adopt (b : Blk) (d : Nat) (v : BitVec 256) : Blk :=
  (b.programsOf d fun q _ => strPstate v q == 1 || strPstate v q == 2).foldl (fun b q => b.onPart (partId d q) fun p => { p with suspended := strPstate v q == 2 }) b

/-- PFAIL: the operations that have failed end so, and their lines go elsewhere. -/
def Blk.servePfail (b : Blk) (d : Nat) (v : BitVec 256) : Blk :=
  (b.programsOf d fun q _ => strPfail v q).foldl (fun b q => b.programEnds (partId d q) false) b

/-- RFAIL: the tile resets that have failed end so. -/
def Blk.serveRfail (b : Blk) (d : Nat) (v : BitVec 256) : Blk :=
  ((List.range 32).filter fun q => strPfail v q && (b.part (partId d q)).resetting).foldl (fun b q => b.resetEnds (partId d q) false) b

/-- THERM that its AMASK bit keeps from ALERT_N does not count as a cause that comes back. -/
def Blk.countedCauses (b : Blk) (d : Nat) (alrt : BitVec 7) : BitVec 7 := if (dieMr (b.die d) 0x05).getLsbD 4 then alrt else alrt &&& 0x6F

/-- A cause that comes back within 1 µs of its ALC, 16 times in a row, fails the die. -/
def Blk.comesBack (b : Blk) (d : Nat) (alrt : BitVec 7) : Blk :=
  let x := b.die d
  let n := if b.countedCauses d alrt ≠ 0 ∧ 0 < x.alcAt ∧ b.now ≤ x.alcAt + 1000 then x.again + 1 else 0
  let b1 := b.onDie d fun x => { x with again := n }
  if 16 ≤ n then b1.dieFail d else b1

/-- One die's report is handled cause by cause, and the causes are cleared with one ALC. -/
def Blk.serveDie (b : Blk) (d : Nat) (v : BitVec 256) : Blk :=
  let ch := d / 8
  let alrt := strAlrt v
  let on (i : Nat) (f : Blk → Blk) (b : Blk) : Blk := if alrt.getLsbD i then f b else b
  let b1 := (b.dieStatus d alrt (v.getLsbD 108) (v.extractLsb' 96 12).toInt).onDie d fun x => { x with lastAlert := alrt }
  let b2 := (b1.comesBack d alrt).onDie d fun x => { x with wseq := strWseq v }
  let b3 := on 0 (fun b => b.serveWdat d v) b2
  let b4 := on 1 (fun b => (b.bump (0x3000 + 0x20 * ch) 0x07 1).serveIdle d v) b3
  let b5 := on 2 (fun b => b.servePfail d v) b4
  let b6 := on 3 (fun b => b.serveRfail d v) b5
  let b7 := on 5 (fun b => ((((b.bump (0x3000 + 0x20 * ch) 0x09 1).twChan ch 7).reportUnit 0x3003 2 ch).adopt d v).serveIdle d v) b6
  let b8 := if alrt = 0 then b7 else (b7.sendDie d (.alc alrt)).onDie d fun x => clearCauses x alrt b.now
  let b9 := on 4 (fun b => if (dieMr (b.die d) 0x05).getLsbD 4 then b.maskTherm d false else b) b8
  on 6 (fun b => b.dieFail d) b9

/-- ALERT_SERVICE: the engine reads the status of each die in use, in die order, and handles and clears the causes (R197). -/
def execAlertService (a : Stamp) (ch : Fin 32) (reports : List (Fin 8 × BitVec 256)) (s : State) : Host.Outcome State Fault Refusal :=
  s.command a fun b =>
    if (b.chan ch).state ≠ 2 then b
    else
      (List.range 8).foldl (fun c i =>
        let d := 8 * ch.val + i
        if (c.die d).state = 1 then
          let c1 := c.sendDie d .str
          match reports.find? fun r => r.1.val == i with
          | some r => c1.serveDie d r.2
          | none => c1
        else c) (b.bump (0x3000 + 0x20 * ch.val) 0x08 1)

/-! ### Training (R199, R200, R34) -/

/-- Dies of a mask. -/
def maskDies (m : BitVec 8) : List Nat := (List.range 8).filter fun i => m.getLsbD i

/-- Mode register of a lane's write deskew: DQ0 to DQ31, CB0 to CB3, at the full rate or the fallback rate (R198). -/
def wdskAddr (lane : Nat) (fallback : Bool) : Nat := (if fallback then 0x50 else 0x10) + lane

/-- A lane's deskew takes a value that training has found; the spec gives only its range (R199, log 102). -/
def Blk.trainLane (d : Nat) (b : Blk) (addr : Nat) : Blk := b.useFree.onDie d fun x => writeMr x addr (BitVec.ofNat 16 (b.freeNum % 64))

/-- A die's write deskew at one rate and its receive reference, as training centres them (R199 steps 7 and 8); how many commands training sends, and so the SEQ that comes next, is not in the spec (log 102). -/
def Blk.trainDie (b : Blk) (d : Nat) (fallback : Bool) : Blk :=
  let b1 := (((List.range 36).map fun i => wdskAddr i fallback).foldl (Blk.trainLane d) b).useFree
  (b1.useFree.onDie d fun x => { writeMr x 0x02 (BitVec.ofNat 16 (b1.freeNum % 113)) with seq := b1.freeVal 3 })

/-- Drive and terminations of a die (R175, R199 step 4): CK, CA and CS_N are terminated in the highest-numbered die alone; the codes are those that training chooses (log 102). -/
def Blk.driveDie (b : Blk) (d : Nat) (highest : Bool) : Blk :=
  let b1 := b.useFree
  let b2 := b1.useFree
  b2.useFree.onDie d fun x => writeMr x 0x01 (BitVec.ofNat 16 ((1 + b.freeNum % 3) * 256 + (1 + b1.freeNum % 5) * 16 + if highest then 1 + b2.freeNum % 5 else 0))

/-- Training of a channel's dies at both rates (R199 steps 4 to 9). -/
def Blk.trainDies (b : Blk) (ch : Nat) (dies : List Nat) : Blk :=
  dies.foldl (fun b i => ((b.driveDie (8 * ch + i) (dies.getLast? == some i)).trainDie (8 * ch + i) true).trainDie (8 * ch + i) false) b

/-- Training finds the dies of a channel: RST and long calibration go to all at once, and FAST, TALRT and what training finds are set in each (R198, R199 steps 2 to 9, OD 0x7800.09). -/
def Blk.findDies (b : Blk) (ch : Nat) (o : TrainObs) : Blk :=
  let b1 := (maskDies o.present).foldl (fun b i => b.onDie (8 * ch + i) fun x => { resetDie x with state := if x.state = 3 then 3 else 2, delay := 0, phaseSum := 0, phaseNum := 0 }) b
  let b2 := (b1.sendTo ch o.present .rst).sendTo ch o.present (.zqc true)
  let talrt := BitVec.ofNat 16 (b.cfg 0x7800 0x09)
  let b3 := (maskDies o.present).foldl (fun b i =>
    (((b.sendDie (8 * ch + i) (.mrw 0x00 0x8000)).sendDie (8 * ch + i) (.mrw 0x04 talrt)).onDie (8 * ch + i) fun x => writeMr (writeMr x 0 0x8000) 4 talrt)) b2
  b3.trainDies ch (maskDies o.present)

/-- Dies found on a channel from die 0 on (R34, R176). -/
def dieRun (m : BitVec 8) : Nat := ((List.range 8).filter fun i => (List.range (i + 1)).all fun j => m.getLsbD j).length

/-- Channels that count for the dies per channel: those whose step 4 has passed and that have not been retired since power-up. -/
def Blk.counting (b : Blk) (obs : List TrainObs) : List (Nat × TrainObs) := (obs.zipIdx.map fun x => (x.2, x.1)).filter fun e => e.2.caOk && decide (e.1 < 32) && !(b.chan e.1).retired

/-- A channel after training: its dies up to the count in use, less those that failed verification twice; with none left, or with step 4 failed, the channel fails (R200). -/
def Blk.channelTrained (b : Blk) (n : Nat) (ch : Nat) (o : TrainObs) : Blk :=
  let b1 := (List.range n).foldl (fun b i => if (b.die (8 * ch + i)).state = 3 then b else b.onDie (8 * ch + i) fun x => { x with state := 1 }) b
  let b2 := b1.onChan ch fun c => { c with state := 2, present := o.present, trainUs := o.timeUs }
  let bad := (List.range n).filter fun i => !o.pass.getLsbD i
  if bad.length = n then b2.channelFail ch
  else bad.foldl (fun b i => b.dieFail (8 * ch + i)) b2

/-- CHANNEL_TRAINING: every channel trains after the media rails are good; the smallest count of dies stands for all, with one warning when counts differ (R34, R199, R200, R314). A channel retired since power-up stays so (R408). -/
def execChannelTraining (a : Stamp) (obs : List TrainObs) (s : State) : Host.Outcome State Fault Refusal :=
  s.command a fun b =>
    if b.eff ≠ 2 || b.modes.step ≠ 5 then b
    else
      let live := b.counting obs
      let b1 := live.foldl (fun b e => b.findDies e.1 e.2) b
      let counts := live.map fun e => dieRun e.2.present
      let n := counts.foldl min (counts.headD 0)
      let b2 := if counts.any fun c => c != n then b1.report { code := 0x3805 } else b1
      let b3 := b2.onMedia fun m => { m with perChan := n }
      let b4 := live.foldl (fun b e => b.channelTrained n e.1 e.2) b3
      let lost := (List.range 32).filter fun c => !(live.any fun e => e.1 == c) && !(b.chan c).retired
      (lost.foldl (fun b c => b.channelFail c) b4).onModes fun m => { m with step := 6 }

/-! ### Retrains (R202) -/

/-- No other channel retrains or has its engine in takeover. -/
def Blk.aloneToRetrain (b : Blk) (ch : Nat) : Bool := (List.range 32).all fun c => c == ch || !b.chanHeld c

/-- The resets on other channels have ended whose stripes include a member on this channel. -/
def Blk.resetsClear (b : Blk) (ch : Nat) : Bool :=
  b.media.parts.all fun e => !e.2.resetting || e.1 / 256 == ch || (List.range b.media.perChan).all fun i => !b.shareStripe (e.1 / 32) (8 * ch + i) (e.1 % 32)

/-- CHANNEL_RETRAIN: a channel that has been triggered retrains; meanwhile it is handled as a channel in takeover (R202). -/
def execChannelRetrain (a : Stamp) (ch : Fin 32) (s : State) : Host.Outcome State Fault Refusal :=
  s.command a fun b =>
    let x := b.chan ch
    if !x.retrain || x.state ≠ 2 || !b.aloneToRetrain ch || !b.resetsClear ch then b
    else
      let b1 := ((b.onChan ch fun c => { c with state := 4, retrain := false }).bump32 (0x3000 + 0x20 * ch.val) 0x0A 1).reportUnit 0x3001 2 ch.val
      (List.range b.media.perChan).foldl (fun b i => b.rerouteDie (8 * ch.val + i)) b1

/-- Programs whose fourth send was refused are issued again after the retrain (R195). -/
def Blk.issueAgain (b : Blk) (d : Nat) : Blk :=
  (b.programsOf d fun _ p => p.refused == 4).foldl (fun b q => match (b.part (partId d q)).op with
    | .program line _ _ ovw _ _ => (b.sendProgram (partId d q) line ovw).onPart (partId d q) fun p => { p with since := b.now }
    | _ => b) b

/-- A channel runs again: the programs that asked for its retrain are issued again, the members that were written degraded meanwhile are written, and what waited for it goes on (R14, R195). -/
def Blk.channelBack (b : Blk) (ch timeUs : Nat) : Blk :=
  let b1 := b.onChan ch fun c => { c with state := 2, trainUs := timeUs, exhausted := [] }
  let b2 := (List.range b.media.perChan).foldl (fun b i => (b.issueAgain (8 * ch + i)).pump (8 * ch + i)) b1
  (b2.payOwed ch).drive

/-- Full training of a channel in service, after which its dies are in use again (R202). -/
def Blk.fullTraining (b : Blk) (ch : Nat) (dies : List Nat) (timeUs : Nat) : Blk :=
  let mask : BitVec 8 := BitVec.ofNat 8 (dies.foldl (fun n i => n + 2 ^ i) 0)
  dies.foldl (fun b i => b.onDie (8 * ch + i) fun x => { x with state := 1 }) (b.findDies ch { present := mask, caOk := true, pass := mask, timeUs := timeUs })

/-- CHANNEL_RETRAIN_END: a retrain that succeeds ends the hold with its dies trained anew at the rate in use; one that fails is followed by full training, and when that fails too the channel is retired (R202, R408). -/
def execChannelRetrainEnd (a : Stamp) (ch : Fin 32) (ok : Bool) (timeUs : Nat) (s : State) : Host.Outcome State Fault Refusal :=
  s.command a fun b =>
    let st := (b.chan ch).state
    if st ≠ 4 && !(st = 1 && b.memoryActive) then b
    else if ok then
      let dies := (List.range 8).filter fun i => (b.die (8 * ch.val + i)).state == 1
      let b1 := if st = 1 then b.fullTraining ch.val dies timeUs else dies.foldl (fun b i => b.trainDie (8 * ch.val + i) (b.clocks.src.getLsbD 3)) b
      b1.channelBack ch timeUs
    else if st = 4 then b.onChan ch fun c => { c with state := 1 }
    else b.channelFail ch

/-! ### Periodic calibration (R201) -/

/-- ZQC_SHORT_PERIOD: a short calibration to each die in use (R201). -/
def execZqcShortPeriod (a : Stamp) (ch : Fin 32) (s : State) : Host.Outcome State Fault Refusal :=
  s.command a fun b =>
    if (b.chan ch).state ≠ 2 || b.modes.deep then b
    else ((List.range 8).filter fun i => (b.die (8 * ch.val + i)).state == 1).foldl (fun b i => b.sendDie (8 * ch.val + i) (.zqc false)) b

/-- A lane's deskew moves one step, up or down, within its 6 bits. -/
def Blk.moveLane (b : Blk) (d : Nat) (fallback : Bool) (m : Fin 36 × Bool) : Blk :=
  let addr := wdskAddr m.1.val fallback
  let old := (dieMr (b.die d) addr).toNat
  let v := if m.2 then min 63 (old + 1) else old - 1
  (b.sendDie d (.mrw (BitVec.ofNat 8 addr) (BitVec.ofNat 16 v))).onDie d fun x => writeMr x addr (BitVec.ofNat 16 v)

/-- WRITE_DESKEW_CHECK: one round trip of TBW and TRN, and a step for each bit whose window has shifted (R201). -/
def execWriteDeskewCheck (a : Stamp) (ch : Fin 32) (die : Fin 8) (moved : List (Fin 36 × Bool)) (s : State) : Host.Outcome State Fault Refusal :=
  s.command a fun b =>
    let d := dieOf ch die
    if (b.chan ch).state ≠ 2 || (b.die d).state ≠ 1 || b.modes.deep then b
    else moved.foldl (fun b m => b.moveLane d (b.clocks.src.getLsbD 3) m) ((b.sendDie d .tbw).sendDie d (.trn true 0))

end Sys2Proof.Machine
end

