-- ==== Sys2Proof/Machine/Linen.lean ====
section
/-! DEFINITION. Linen and Felt: reports, storm windows, the ring (R365 to R370), the margin pass (R375) and the counter record (R377). -/

namespace Sys2Proof.Machine

/-- LINEN_REPORT: a block reports an event (R369). -/
def execLinenReport (a : Stamp) (code : BitVec 16) (cls : BitVec 8) (unit : BitVec 16) (dpa hpa : Option Nat) (data : List Byte) (s : State) : Host.Outcome State Fault Refusal :=
  s.command a fun b => b.report { code := code, cls := cls, unit := unit, dpa := dpa, hpa := hpa, data := data.take 192 }

/-- STORM_WINDOW_CLOSE: the window of a key closes 10 ms after it opened (R369). -/
def execStormWindowClose (a : Stamp) (code : BitVec 16) (cls : BitVec 8) (unit : BitVec 16) (s : State) : Host.Outcome State Fault Refusal :=
  s.command a fun b => match b.linen.windows.find? fun w => w.isFor code cls unit with
    | some w => if w.opened + 10000000 ≤ b.now then b.closeWindow w else b
    | none => b

/-- TOKEN_GAIN: the bucket gains a token every 250 ms of operating time, to at most 64 (R366). -/
def execTokenGain (a : Stamp) (s : State) : Host.Outcome State Fault Refusal :=
  s.command a fun b => if b.running then b.onLinen fun l => { l with tokens := min 64 (l.tokens + 1) } else b

/-- RING_WRITE: the oldest record that waits for the ring is written there (R367), to a slot of page seq mod 256 (log 32). -/
def execRingWrite (a : Stamp) (s : State) : Host.Outcome State Fault Refusal :=
  s.command a fun b => match b.linen.waiting with
    | [] => b
    | n :: _ => if b.powered then b.ringNext.pageWrite (1000 + n % 256) else b

/-- FELT_MARGIN_PASS: every 24 h of operating time weak words are refreshed in place (R375). -/
def execFeltMarginPass (a : Stamp) (weakWords : Nat) (s : State) : Host.Outcome State Fault Refusal :=
  s.command a fun b => if b.running then (b.bump 0x9000 0x07 weakWords).odSet 0x9000 0x08 b.opTime else b

/-- COUNTER_RECORD_WRITE: every 60 s (R368, R377). -/
def execCounterRecordWrite (a : Stamp) (s : State) : Host.Outcome State Fault Refusal :=
  s.command a fun b => if b.running then b.saveCounters false else b

end Sys2Proof.Machine
end

