-- ==== Sys2Proof/Machine/Balls.lean ====
section
/-! DEFINITION. The ball map (R414 to R418): what each ball of the 60 × 60 array carries. -/

namespace Sys2Proof.Machine

/-- A signal of a Joern channel's block (R415). -/
inductive JoernPin where
  | dq (i : Nat)
  | cb (i : Nat)
  | dqs (i : Nat) (pos : Bool)
  | ck (pos : Bool)
  | alertN
  | ca (i : Nat)
  | csN (i : Nat)
  deriving DecidableEq, Repr

/-- A sideband pin (R418). -/
inductive SidePin where
  | pseqEn (s : Nat)
  | pseqPg (s : Nat)
  | canTxd
  | canRxd
  | pfailN
  | huSense
  | huTest
  | nvwpN
  | faultN
  | thermN
  | strap (k : Nat)
  | tck
  | tms
  | tdi
  | tdo
  | trstN
  | testEn
  deriving DecidableEq, Repr

/-- A supply (R414, R421). -/
inductive Rail where
  | core
  | sram
  | pll
  | sd
  | sdHigh
  | joern
  | felt
  | aon
  | io
  deriving DecidableEq, Repr

/-- What a ball carries. -/
inductive Ball where
  | vss
  | rail (r : Rail)
  | joern (n : Nat) (p : JoernPin)
  | lane (h : Head) (tx : Bool) (j : Nat) (pos : Bool)
  | refclk (pos : Bool)
  | perst (h : Head)
  | side (p : SidePin)
  deriving DecidableEq, Repr

/-- DQ[i] to DQ[i + k - 1] in a row of the block. -/
def dqRun (i k : Nat) : List (Option JoernPin) := (List.range k).map fun x => some (.dq (i + x))

/-- A strobe pair. -/
def dqsPair (i : Nat) : List (Option JoernPin) := [some (.dqs i true), some (.dqs i false)]

/-- The local positions of a channel's block that hold a signal, row by row; the others hold VSS or VDDQ_J (R415). -/
def joernRow (a : Nat) : List (Option JoernPin) := match a with
  | 1 => dqRun 0 8 ++ [some (.cb 0)]
  | 2 => dqsPair 0 ++ [none] ++ dqRun 8 6
  | 3 => dqRun 14 2 ++ [some (.cb 1)] ++ dqsPair 1 ++ [none, none] ++ dqRun 16 2
  | 4 => dqRun 18 6 ++ [some (.cb 2)] ++ dqsPair 2
  | 5 => [none] ++ dqRun 24 8
  | 6 => [some (.cb 3)] ++ dqsPair 3 ++ [none, none, some (.ck true), some (.ck false), none, some .alertN]
  | 7 => (List.range 8).map (fun i => some (.ca i)) ++ [none]
  | _ => (List.range 8).map (fun i => some (.csN i)) ++ [none]

/-- The ball at local position (a, b) of channel Jn (R415). -/
def joernBall (n a b : Nat) : Ball := match (joernRow a).getD (b - 1) none with
  | some p => .joern n p
  | none => if (a, b) = (3, 7) ∨ (a, b) = (6, 5) ∨ (a, b) = (8, 9) then .rail .joern else .vss

/-- The ball of head A's region at a row and at a column counted from 19 (R416); head B's is its mirror image. -/
def headBall (h : Head) (r k : Nat) : Ball :=
  let row (tx : Bool) (lo lanes : Nat) : Ball := if k / 2 < lanes then .lane h tx (lo + k / 2) (k % 2 == 0) else .vss
  match r with
  | 2 => row true 0 6
  | 3 => row true 6 6
  | 5 => row true 12 4
  | 6 => row false 0 6
  | 8 => row false 6 6
  | 9 => row false 12 4
  | _ => .vss

/-- The supply and clock region (R417). -/
def supplyBall (r c : Nat) : Ball :=
  if r ≤ 12 then .rail .sd
  else if r = 13 then .rail .sdHigh
  else if r = 14 then
    if c ≤ 26 then .rail .pll
    else if c = 27 then .refclk true
    else if c = 28 then .refclk false
    else if c = 29 then .perst .A
    else if c = 30 then .perst .B
    else .vss
  else if (r + c) % 2 = 1 then .vss
  else if r ≤ 39 then .rail .core
  else .rail .sram

/-- The sideband region (R417, R418). -/
def sideBall (r c : Nat) : Ball :=
  let pins (l : List SidePin) : Ball := match l[c - 1]? with
    | some p => .side p
    | none => .vss
  match r with
  | 57 => if c ≤ 12 then .side (.pseqEn (c - 1)) else if c ≤ 16 then .rail .io else .vss
  | 58 => if c ≤ 12 then .side (.pseqPg (c - 1)) else if c ≤ 16 then .rail .io else .vss
  | 59 => pins ([.canTxd, .canRxd, .pfailN, .huSense, .huTest, .nvwpN, .faultN, .thermN] ++ (List.range 6).map .strap)
  | _ => pins [.tck, .tms, .tdi, .tdo, .trstN, .testEn]

/-- What ball r/c carries, rows and columns counted from 1 (R414 to R418). -/
def ballAt (r c : Nat) : Option Ball :=
  if r < 1 ∨ 60 < r ∨ c < 1 ∨ 60 < c then none
  else
    let a := (r - 1) % 8 + 1
    let pair := 2 * ((r - 1) / 8)
    some (if r ≤ 56 ∧ c ≤ 18 then joernBall (pair + (c - 1) / 9) a ((c - 1) % 9 + 1)
      else if r ≤ 56 ∧ 43 ≤ c then joernBall (14 + pair + (60 - c) / 9) a ((60 - c) % 9 + 1)
      else if 45 ≤ r ∧ 19 ≤ c ∧ c ≤ 36 then joernBall (28 + 2 * ((r - 45) / 8) + (c - 19) / 9) ((r - 45) % 8 + 1) ((c - 19) % 9 + 1)
      else if r ≤ 10 then (if c ≤ 30 then headBall .A r (c - 19) else headBall .B r (42 - c))
      else if r ≤ 44 then supplyBall r c
      else if 37 ≤ c ∧ c ≤ 42 then .vss
      else if c ≤ 18 then sideBall r c
      else if r = 57 ∧ c ≤ 48 then .rail .aon
      else if r = 57 ∧ c ≤ 52 then .rail .felt
      else .vss)

end Sys2Proof.Machine
end

