-- ==== Sys2Proof/Machine/Repair.lean ====
section
/-! DEFINITION. Safety and repair in service (R401 to R413): the rebuild of failed dies, replacement dies, engine takeover and redistribution (R14, R15), bank failover, head failure, the self-test and the entry into Safe Stop. -/

namespace Sys2Proof.Machine

/-! ### Rebuild (R406, R407) -/

/-- Dies that may take a position of a slot: in use, on a channel that is not yet a member (R55, R406). -/
def Blk.substitutes (b : Blk) (c : Cls) (slot : Nat) : List Nat :=
  let used := (List.range (widthOf c)).map fun m => b.memberDie slot (widthOf c) m / 8
  (b.media.dies.filter fun e => e.2.state == 1 && !used.contains (e.1 / 8) && !b.dieFailed e.1).map Prod.fst

/-- REBUILD_POSITION: with no position under rebuild, the next one gets a substitute, chosen among those that R55 allows (log 4); the substitution is journalled and the rebuild of its stripes begins (R406). The table holds 4,096 substitutions (R54). -/
def execRebuildPosition (a : Stamp) (s : State) : Host.Outcome State Fault Refusal :=
  s.command a fun b => match b.safety.rebuild, b.safety.rebuildAt with
    | [], _ => if b.works then b.rebuildOver else b
    | _ :: _, some _ => b.drive
    | pos :: _, none =>
      let cand := b.substitutes (b.slotCls (pos / 18)) (pos / 18)
      if !b.works || b.journalWait || cand.isEmpty || b.twill.freePos = 0 || 4096 ≤ b.safety.subst.length then b
      else
        let sub := cand.getD (b.freeNum % cand.length) 0
        let b1 := (b.useFree.journalRec 0x0A [pos, sub]).onSafety fun s => { s with rebuildAt := some (pos, sub, 0) }
        ((b1.onTwill fun t => { t with freePos := t.freePos - 1 }).lifeCheck).drive

/-- REPLACEMENT_COPY_BACK: after any rebuild, a substituted position begins to go back to its place on a replacement die (R407). -/
def execReplacementCopyBack (a : Stamp) (pos : Nat) (s : State) : Host.Outcome State Fault Refusal :=
  s.command a fun b =>
    let d := b.homeDie pos
    if b.works && b.safety.subst.has pos && b.safety.rebuild.isEmpty && b.safety.rebuildAt.isNone && (b.die d).replacement && (b.die d).state == 1 && !b.dieFailed d then
      (b.onSafety fun s => { s with rebuildAt := some (pos, d, 0) }).drive
    else b

/-! ### Engines (R14, R15, R400) -/

/-- ENGINE_HEARTBEAT_MISS: a channel or translation engine has missed its heartbeat or failed its self-check (R14). -/
def execEngineHeartbeatMiss (a : Stamp) (e : Fin 64) (s : State) : Host.Outcome State Fault Refusal :=
  s.command a fun b => if b.mgmt && (b.engine e).state == 0 then (b.bump (0xA000 + e.val) 0x03 1).engineFail e else b

/-- TAKEOVER_COMPLETE: a spare has reloaded the failed engine's state and runs its role (R14). -/
def execTakeoverComplete (a : Stamp) (e : Fin 64) (s : State) : Host.Outcome State Fault Refusal :=
  s.command a fun b => match (List.range 56).find? fun x => (b.engine x).by_ == some e.val with
    | some base =>
      let failed := b.holderOf 4 base
      let b1 := (b.onEngine base fun x => { x with by_ := none }).onEngine e fun x => { x with state := 0, role := engineRole base, took := failed }
      (if base < 32 then b1.payOwed base else b1).drive
    | none => b

/-- REDISTRIBUTION_COMPLETE: the remaining translation engines have loaded the regions (R15). -/
def execRedistributionComplete (a : Stamp) (s : State) : Host.Outcome State Fault Refusal :=
  s.command a fun b => if b.safety.redist.isEmpty then b else (b.onSafety fun s => { s with redist := [] }).degrade 3 false

/-- LOCKSTEP_MISMATCH: of a management pair, an uncontained detection of mechanism 4 (R400). -/
def execLockstepMismatch (a : Stamp) (pair : Fin 2) (s : State) : Host.Outcome State Fault Refusal :=
  s.command a fun b => if b.mgmt ∧ pair.val < 2 then b.detect 4 true else b

/-! ### Banks and heads (R409, R411) -/

/-- BANK_FAILOVER_COMPLETE: the copy has ended: the spare takes the bank's use, event 0xA003; a bank that waited is next (R409, R412). -/
def execBankFailoverComplete (a : Stamp) (s : State) : Host.Outcome State Fault Refusal :=
  s.command a fun b => match b.safety.failover with
    | none => b
    | some (k, sp) =>
      let base := b.bankBase k
      let use := (b.bank k).use
      let b1 := ((b.onBank k fun x => { x with state := 2, use := 8 }).onBank sp fun x => { x with state := 0, use := use, repl := base }).onSafety fun s => { s with failover := none }
      let b2 := (b1.reportUnit 0xA003 5 k).degrade 4 false
      match b2.safety.failoverWait with
      | [] => b2
      | n :: rest => (b2.onSafety fun s => { s with failoverWait := rest }).bankFail n

/-- What a failed head leaves: its requests, its configuration and its mailbox are gone, its link is down (R411). -/
def Blk.headDown (b : Blk) (h : Head) : Blk :=
  let b1 := ((((b.dropRequests h).muteMailbox h).abortBulk h).resetOwner h).closeSession (mbNum h)
  let b2 := b1.onHead h fun x => x.resetConfig false
  let b3 := b2.linkChange h fun x => { x.unlinked 0 with failed := true, hints := [], offers := [] }
  b3.onMuslin fun m => { m with stuck := m.stuck.map fun x => (x.1, x.2.filter fun d => d != .control h) }

/-- A head fails, the other not having failed: M8's cause bit 2 and event 0x2008 at the other head (R411). -/
def Blk.headFail (b : Blk) (h : Head) : Blk := (((b.headDown h).report { code := 0x2008, cls := 1, unit := BitVec.ofNat 16 (headNum h) }).degrade 2 true).healthCheck

/-- HEAD_FAILURE: a detection confined to one head's logic fails that head; of the second head it is uncontained, its mechanism being whichever found it (R411, log 4). -/
def execHeadFailure (a : Stamp) (h : Head) (s : State) : Host.Outcome State Fault Refusal :=
  s.command a fun b =>
    if !b.running || (b.head h).failed then b
    else if (b.head (otherHead h)).failed then b.useFree.detect (1 + b.freeNum % 13) true
    else b.headFail h

/-! ### The self-test (R401) -/

/-- A checker that did not report its injected error: a sensor check marks the sensor failed, a spare engine is held off, a head's logic fails that head, any other is an uncontained detection; an SRAM decoder's bank fails over besides (R409). -/
def Blk.checkerFailed (b : Blk) (k : Checker) : Blk :=
  let b1 := b.bump 0x7C00 0x06 1
  match k with
  | .sensor i =>
    if (b1.sensor i).failed then b1
    else ((b1.onSensor i fun x => { x with failed := true }).reportUnit 0x7803 7 i).sensorCount b1.validSensors.length
  | .spareEngine e => if (b1.engine (60 + e.val)).state = 1 then b1.onEngine (60 + e.val) fun x => { x with state := 3 } else b1
  | .headLogic h =>
    if (b1.head h).failed then b1 else if (b1.head (otherHead h)).failed then b1.detect 14 true else b1.headFail h
  | .sramDecoder k => (b1.bankFail k).detect 14 true
  | .other => b1.detect 14 true

/-- The self-test is due: 8 h of operating time after the last, or, after one in M6, at the wake (R401). -/
def Blk.selfTestDue (b : Blk) : Bool := decide (b.cfg 0x7C00 0x05 + 28800000 ≤ b.opTime) || (b.safety.testOwed && !b.modes.deep)

/-- SELF_TEST: every 8 h of operating time; one in M6 leaves the checkers of the domains that are gated there to the wake (R401). -/
def execSelfTest (a : Stamp) (failed : List Checker) (s : State) : Host.Outcome State Fault Refusal :=
  s.command a fun b =>
    if b.mgmt && b.selfTestDue then
      failed.foldl (fun b k => b.checkerFailed k) ((b.odSet 0x7C00 0x05 b.opTime).onSafety fun s => { s with testOwed := b.modes.deep })
    else b

/-! ### Safe Stop (R402) -/

/-- SAFE_STOP_ENTRY: steps 4 and 5: programs that run have ended, M11 is the effective mode, its cause is kept, and the event goes to the Felt ring. -/
def execSafeStopEntry (a : Stamp) (s : State) : Host.Outcome State Fault Refusal :=
  s.command a fun b => match b.modes.safe with
    | none => b
    | some (_, cause) =>
      let b1 := b.resumeAll.endPrograms.onModes fun m => { m with safe := none, cause := cause }
      let b2 := (b1.enter 11).bump 0x7C00 0x04 1
      ((b2.report { code := 0x1102 }).ringNewest).healthCheck

/-! ### The test pins (R429, R433) -/

/-- TEST_EN_RISE: after the always-on domain has left reset, an uncontained detection; its mechanism is open (R433, log 4). -/
def execTestEnRise (a : Stamp) (s : State) : Host.Outcome State Fault Refusal :=
  s.command a fun b => if b.powered && !b.modes.testEn then b.useFree.detect (1 + b.freeNum % 15) true else b

/-- IDCODE (R429): stepping number, 0x7216, the low 11 bits of OD 0x1000.06 and 1. -/
def idcode : Nat := Config.steppingNumber.toNat * 2 ^ 28 + 0x7216 * 4096 + (Config.vendorId.toNat % 2048) * 2 + 1

/-- Instructions of the TAP that M1 alone takes. -/
def testOnly (i : TapInstr) : Bool := match i with
  | .bypass => false
  | .idcode => false
  | .samplePreload => false
  | .extest => true
  | .clamp => true
  | .highz => true

/-- TAP_INSTRUCTION: an instruction is loaded; EXTEST, CLAMP and HIGHZ outside M1 load BYPASS (R429). IDCODE shifts the code out. -/
def execTapInstruction (a : Stamp) (i : TapInstr) (s : State) : Host.Outcome State Fault Refusal :=
  s.command a fun b =>
    if !b.powered then b
    else
      let j : TapInstr := if testOnly i && b.eff != 1 then .bypass else i
      let b1 : Blk := { b with tap := j }
      if j = .idcode then b1.emit (.tap idcode) else b1

end Sys2Proof.Machine
end

