-- ==== Sys2Proof/Machine/Power.lean ====
section
/-! DEFINITION. Power: the resident rails and what a boot loads into the dictionary (R268, R313, R330, R368, R378), loss and return of input power (R145, R320, R321), Canvas's sequencer slots and rail faults (R331 to R339, R346), and the hold-up bank (R340, R341). -/

namespace Sys2Proof.Machine

/-! ### The dictionary at a boot (R268, R377) -/

/-- Indices whose read-only entries the always-on domain holds while the resident rails stay good: CAN FD, Canvas, the hold-up bank, the slots, REFCLK, Linen, Felt. -/
def aonKept (i : Nat) : Bool :=
  i == 0x1230 || (decide (0x7000 ≤ i) && decide (i ≤ 0x7002)) || (decide (0x7010 ≤ i) && decide (i ≤ 0x701B)) || i == 0x7400 || i == 0x8000 || i == 0x9000

/-- An entry whose value outlives the switched rails without Felt. -/
def aonHeld (key : Nat) : Bool := aonKept (key / 256) && odHasAcc .ro key

/-- A stored value lies within its entry's Range. -/
def storedOk (key v : Nat) : Bool := ((odRow? (key / 256) (key % 256)).map fun r => odInRange r v).getD false

/-- The value of an RWP entry that the parameter copy gives, none where the Default is taken instead (R268). -/
def Felt.stored (f : Felt) (key : Nat) : Option Nat := (f.params.bind fun p => p.find key).filter fun v => storedOk key v

/-- RWP entries outside the calibration set that take their Default. -/
def Felt.defaulted (f : Felt) : Nat := (odPersistent.filter fun e => (f.stored e.1).isNone).length

/-- The dictionary as a boot loads it: RWP entries from the newest copy, counters from the counter record, RW and RWS entries at their Default, and what the always-on domain has held; Tweed's wrapped bits and the protect policy follow (R268, R377, R379). -/
def Blk.loadOd (b : Blk) (keepAon : Bool) : Blk :=
  let kept := b.od.filter fun e => keepAon && aonHeld e.1
  let counted := b.felt.counters.filter fun e => decide (e.1 < wrappedKey) && !(keepAon && aonHeld e.1)
  let od1 := (counted ++ kept).foldl (fun (m : NMap Nat) e => m.put e.1 e.2) []
  let od2 := odPersistent.foldl (fun (m : NMap Nat) e => match b.felt.stored e.1 with
    | some v => if v = e.2 then m else m.put e.1 v
    | none => m) od1
  let b1 : Blk := { b with od := od2 }
  let wrapped := (b.felt.counters.filter fun e => decide (wrappedKey ≤ e.1)).map fun e => (e.1 - wrappedKey, (0, true))
  (b1.onTweed fun t => { t with ctr := wrapped }).onFelt fun f => { f with policy := List.replicate 3 (b1.cfg 0x9000 0x04) }

/-! ### The resident rails (R313, R280, R287) -/

/-- The first fault's record was lost with the resident rails: the next boot's is of an unknown rail (R338, R339). -/
def Blk.unknownFault (b : Blk) : Blk :=
  if b.felt.stop = 3 ∧ !b.felt.clean ∧ !b.felt.faultLogged then
    b.onCanvas fun c => { c with faultRec := some (b.canvasFields 0x00 0xFF 0 0 false), recAt := b.now }
  else b

/-- Access strap v3 (R280): 3 is treated as 0, with a warning whose code the spec does not give (log 4). -/
def Blk.readAccess (b : Blk) (v : Nat) : Blk :=
  if v = 3 then (b.onCan fun c => { c with access := 0 }).useFree.report { code := b.freeVal 16, sev := some 4 }
  else b.onCan fun c => { c with access := v }

/-- The always-on domain has left reset: latches clear, the straps are read, the power-cycle count goes up, operating time resumes from Felt. -/
def Blk.aonReset (b : Blk) (straps : List (Fin 4)) (pfailHigh testEn : Bool) : Blk :=
  let v (i : Nat) : Nat := (straps.getD i 0).val
  let b1 := b.onModes fun _ => ({ rails := true, pfailHigh := pfailHigh, testEn := testEn } : Modes)
  let b2 : Blk := { b1 with opTime := b.felt.opStored }
  let b3 := (b2.onLinen fun l => { l with unsure := !b.felt.opExact, tokens := 64, windows := [] }).loadOd false
  let b4 := (b3.onCan fun c => { node := v 0 + 4 * v 1 + 16 * v 2, arb := b3.cfg 0x1230 0x01, dat := b3.cfg 0x1230 0x02, macKey := c.macKey }).newNonce
  ((b4.powerCycled.cycleUp.setConditions fun _ => 2).readAccess (v 3)).unknownFault

/-- RESIDENT_RAILS_GOOD (R313): M0 gives way to M1, and M1 to M2 where PFAIL_N is high. -/
def execResidentRailsGood (a : Stamp) (straps : List (Fin 4)) (pfailHigh testEn : Bool) (s : State) : Host.Outcome State Fault Refusal :=
  s.command a fun b => if b.powered then b else (b.aonReset straps pfailHigh testEn).startBoot

/-- What the fall of a resident rail leaves: the media and Felt, the pins that no rail feeds, Linen's ring and its newest sequence number. -/
def Blk.dark (b : Blk) : Blk :=
  let b1 := b.loseSwitched false
  { b1 with od := [], canvas := {}, clocks := {}, thermal := {}, modes := {}, tap := .idcode, can := { macKey := b.can.macKey },
            linen := { seq := b.linen.seq, ring := b.linen.ring, ringSlots := b.linen.ringSlots, head := b.linen.head } }

/-- RESIDENT_RAIL_FALL: M0 (R313); from a running mode without a flush, so that the next boot follows a dirty shutdown (R219). -/
def execResidentRailFall (a : Stamp) (s : State) : Host.Outcome State Fault Refusal :=
  s.command a fun b =>
    if !b.powered then b
    else (if b.running then b.tearPrograms.onFelt fun f => { f with clean := false, stop := 3, faultLogged := false } else b).dark

/-! ### Input power (R313, R320, R321) -/

/-- PFAIL_N_RISE: a power cycle: the count goes up (R378), the thermal latch clears, and a boot starts from M1, or once M1 is reached (R326, R346). -/
def execPfailNRise (a : Stamp) (s : State) : Host.Outcome State Fault Refusal :=
  s.command a fun b =>
    if !b.powered || b.modes.pfailHigh then b
    else
      let b1 := (b.onModes fun m => { m with pfailHigh := true, thermal := false }).faultPin.cycleUp
      if b.running then b1.onCanvas fun c => { c with onLater := true } else b1.powerCycled.startBoot

/-- INPUT_POWER_LOSS: PFAIL_N low for 1 µs: the standby latch clears, a health test is abandoned, and the flush runs (R320, R321, R341); in the persistence-unprotected state the loss is handled as a rail fault (R145). -/
def execInputPowerLoss (a : Stamp) (s : State) : Host.Outcome State Fault Refusal :=
  s.command a fun b =>
    if !b.powered || !b.modes.pfailHigh then b
    else
      let b1 := (b.onModes fun m => { m with pfailHigh := false, standby := false }).abandonTest
      if b1.running && b1.modes.flush.isNone then b1.loseInput 1 else b1

/-- A dirty line of Velvet, or of a holding buffer, that a flush in M11 finds failing its checks is not written; its halves are poisoned and listed (R323). -/
def Blk.flushCheck (b : Blk) (e : Nat × DpErr) : Blk :=
  let half (x : Line) (i : Bool) : Dp := e.2.outcome i (halfOf x i) (dpaOfLine e.1 + b2n i * 64)
  let bad (x : Line) : Bool := e.2.state || dpBad (half x false) || dpBad (half x true)
  match b.resident e.1, b.bufOf e.1 with
  | some (k, v), y => if v.dirty && bad v.data then (b.dropWay k).poisonLine e.1 0x5803 else match y with
    | some (n, x) => if bad x.data then (b.onVelvet fun w => { w with bufs := w.bufs.del n }).poisonLine e.1 0x5803 else b
    | none => b
  | none, some (n, x) => if bad x.data then (b.onVelvet fun w => { w with bufs := w.bufs.del n }).poisonLine e.1 0x5803 else b
  | none, none => b

/-- FLUSH_END: steps 3 to 6 of the flush (R320); in M11 each line must pass its checks, with what disturbs them (R323). -/
def execFlushEnd (a : Stamp) (errs : List (Nat × DpErr)) (s : State) : Host.Outcome State Fault Refusal :=
  s.command a fun b => match b.modes.flush with
    | some (start, lines, _) =>
      if b.canvas.off then b
      else if b.holds 11 then
        let c := errs.foldl Blk.flushCheck b
        c.endFlush start (min lines c.dirtyCount)
      else b.endFlush start lines
    | none => b

/-- PERST_DEASSERT: the rising edge ends the reset of its head and clears the standby latch, so that a boot may start (R209, R231, R314, R321, R337). -/
def execPerstDeassert (a : Stamp) (h : Head) (s : State) : Host.Outcome State Fault Refusal :=
  s.command a fun b =>
    if (b.head h).perst then
      let b1 := (b.onHead h fun x => { x with perst := false }).onModes fun m => { m with standby := false }
      (b1.linkChange h fun x => x.unlinked (b1.restLink h)).startBoot
    else b

/-! ### The power-up order (R331, R332) -/

/-- A slot is good: PSEQ_PG high and, for a device rail, its monitor at its good threshold or above (R331). -/
def Blk.railGood (b : Blk) (s : Nat) : Bool := (b.slot s).pg && (decide (7 ≤ s) || decide (b.cfg (0x7010 + s) 0x03 ≤ (b.slot s).mv))

/-- The lower slots of the order that are not unused. -/
def Blk.lowerSlots (b : Blk) (s : Nat) : List Nat := (List.range s).filter fun i => (b.slot i).mode != 0

/-- A slot's turn has come: every lower slot has qualified and the last one's delay has passed (R332). -/
def Blk.turnCome (b : Blk) (s : Nat) : Bool :=
  (b.slot s).mode != 0 && (b.slot s).state == 0 && ((b.lowerSlots s).all fun i => (b.slot i).state == 2) && match (b.lowerSlots s).getLast? with
    | some i => decide ((b.slot i).qualAt + 1000 * b.cfg (0x7010 + i) 0x05 ≤ b.now)
    | none => decide (b.canvas.orderAt ≤ b.now)

/-- SLOT_STEP_START: the slot's enable is raised and its step begins (R331, R332). -/
def execSlotStepStart (a : Stamp) (slot : Fin 12) (s : State) : Host.Outcome State Fault Refusal :=
  s.command a fun b =>
    if b.canvas.state = 1 ∧ !b.canvas.off ∧ b.turnCome slot then
      let good : Option Nat := if b.railGood slot then some b.now else none
      b.onSlot slot fun x => { x with en := true, state := 1, drops := 0, since := b.now, goodAt := good }
    else b

/-- A sequence fault: counted, logged as CHATTER, every rail off (R331, R337). -/
def Blk.chatter (b : Blk) (s : Nat) (timeout : Bool) : Blk :=
  let x := b.slot s
  ((b.bump 0x7000 0x05 1).allOff 0x04 s (if s < 7 then x.mv else 0) x.drops timeout).reportUnit 0x7002 0 s

/-- A change of PSEQ_PG in a slot's step: from good to not good is a drop, of which the eighth is a sequence fault; back to good starts the 100 µs (R331). -/
def Blk.stepChange (b : Blk) (s : Nat) (was : Bool) : Blk :=
  let good := b.railGood s
  if was && !good then
    let b1 := b.onSlot s fun x => { x with drops := x.drops + 1, goodAt := none }
    if 8 ≤ (b1.slot s).drops then b1.chatter s false else b1
  else if !was && good then b.onSlot s fun x => { x with goodAt := some b.now } else b

/-- PSEQ_PG_CHANGE: the level of PSEQ_PG and the monitor's reading change (R331). -/
def execPseqPgChange (a : Stamp) (slot : Fin 12) (level : Bool) (mv : Nat) (s : State) : Host.Outcome State Fault Refusal :=
  s.command a fun b =>
    if !b.powered then b
    else
      let b1 := b.onSlot slot fun x => { x with pg := level, mv := mv }
      if (b.slot slot).state = 1 then b1.stepChange slot (b.railGood slot) else b1

/-- Slot 6 feeds Felt: what waits for it is written: the first fault's record with its event, and, after such a fault, the operating time (R322, R338, R368). -/
def Blk.feltPowered (b : Blk) : Blk := match b.canvas.faultRec with
  | some r =>
    let b1 := (b.canvasWrite r).onCanvas fun c => { c with faultRec := none }
    let kept := decide (1 ≤ r.getD 2 0) && decide (r.getD 2 0 ≤ 6) && r.getD 2 0 != 5
    let b2 := if kept && !b.itemFixed 4 then (b1.onFelt fun f => { f with opStored := b.opTime, opExact := true, faultLogged := true }).itemWrite 4 else b1.onFelt fun f => { f with faultLogged := true }
    if [1, 2, 3, 6].contains (r.getD 2 0) || r.getD 2 0 == 0 then b2.reportUnit 0x7001 0 (r.getD 3 0) else b2
  | none => b

/-- A head without a link trains when its own conditions hold (R209, R314). -/
def Blk.mayTrain (b : Blk) (h : Head) : Blk := if (b.head h).link = 0 then b.linkChange h fun x => x.unlinked (b.restLink h) else b

/-- The order has ended with its last enabled slot: step 2 of the boot (R314, R332). -/
def Blk.orderEnds (b : Blk) : Blk :=
  ((b.onCanvas fun c => { c with state := 2 }).odSet 0x7000 0x06 (min (b.since b.canvas.orderAt / 1000) (2 ^ 32 - 1))).onModes fun m => { m with step := max m.step 2 }

/-- The slot that ramps has qualified: an off request that waited goes on with the power-down (R346); else the order goes on. -/
def Blk.qualified (b : Blk) (s : Nat) : Blk :=
  let b1 := b.onSlot s fun x => { x with state := 2, qualAt := b.now }
  let b2 := if s = 6 then b1.feltPowered else b1
  let b3 := if s = 3 ∨ s = 4 then (b2.mayTrain .A).mayTrain .B else b2
  if b.canvas.off then b3.powerDown
  else if (List.range 12).all fun i => (b3.slot i).mode == 0 || (b3.slot i).state == 2 then b3.orderEnds else b3

/-- SLOT_QUALIFIED: good without a break for 100 µs (R331). -/
def execSlotQualified (a : Stamp) (slot : Fin 12) (s : State) : Host.Outcome State Fault Refusal :=
  s.command a fun b => match (b.slot slot).goodAt with
    | some t => if (b.slot slot).state = 1 ∧ t + 100000 ≤ b.now then b.qualified slot else b
    | none => b

/-- SLOT_QUALIFY_TIMEOUT: 10 ms without qualification: a sequence fault, but none when an off request waits for the slot (R331, R346). -/
def execSlotQualifyTimeout (a : Stamp) (slot : Fin 12) (s : State) : Host.Outcome State Fault Refusal :=
  s.command a fun b =>
    if (b.slot slot).state = 1 ∧ (b.slot slot).since + 10000000 ≤ b.now then
      if b.canvas.off then (b.onSlot slot fun x => { x with state := 2, qualAt := b.now }).powerDown else b.chatter slot true
    else b

/-! ### Power-down (R335) -/

/-- The slot has fallen: its monitor below the fall threshold; for a board rail PSEQ_PG low and its fall wait passed. -/
def Blk.hasFallen (b : Blk) (s : Nat) : Bool :=
  let x := b.slot s
  if s < 7 then decide (x.mv < b.cfg (0x7010 + s) 0x04) else !x.pg && decide (x.since + 1000000 * b.cfg (0x7010 + s) 0x06 ≤ b.now)

/-- SLOT_FALLEN: Canvas proceeds to the next slot (R335). -/
def execSlotFallen (a : Stamp) (slot : Fin 12) (mv : Nat) (s : State) : Host.Outcome State Fault Refusal :=
  s.command a fun b =>
    if (b.slot slot).state = 3 then
      let b1 := b.onSlot slot fun x => { x with mv := mv }
      if b1.hasFallen slot then Blk.lowerNext 13 (b1.onSlot slot fun x => { x with state := 0 }) else b1
    else b

/-- SLOT_FALL_TIMEOUT: 50 ms after its enable fell the slot is logged, FALLSLOW, and Canvas proceeds (R335). -/
def execSlotFallTimeout (a : Stamp) (slot : Fin 12) (s : State) : Host.Outcome State Fault Refusal :=
  s.command a fun b =>
    if (b.slot slot).state = 3 ∧ (b.slot slot).since + 50000000 ≤ b.now then
      let r := b.canvasFields 0x05 slot (if slot.val < 7 then (b.slot slot).mv else 0) 0 false
      Blk.lowerNext 13 ((b.canvasLogged r).onSlot slot fun x => { x with state := 0 })
    else b

/-! ### Rail faults (R336 to R338) -/

/-- Code of a rail fault (R339). -/
def railCode : RailKind → Nat
  | .uv => 1
  | .ov => 2
  | .pg => 3

/-- The reading, or PSEQ_PG, is a fault of the kind: below the good threshold, above 112 % of nominal, or PSEQ_PG low, which alone is judged for slots 7 to 11 (R336). -/
def Blk.railFaulty (b : Blk) (s : Nat) (k : RailKind) (mv : Nat) : Bool := match k with
  | .uv => decide (s < 7) && decide (mv < b.cfg (0x7010 + s) 0x03)
  | .ov => decide (s < 7) && decide (112 * b.cfg (0x7010 + s) 0x02 < 100 * mv)
  | .pg => true

/-- A fault of another slot up to 100 µs after the first is counted in its record; of rail faults detected in the same AON cycle, of 20 ns, the lowest slot's is the first (R338). -/
def Blk.secondFault (b : Blk) (slot code mv : Nat) : Blk := match b.canvas.faultRec with
  | some r =>
    let r1 := r.set 6 (min 255 (r.getD 6 0 + 1))
    if b.canvas.recAt + 100000 < b.now then b
    else if b.now / 20 = b.canvas.recAt / 20 ∧ slot < r.getD 3 0 ∧ [1, 2, 3].contains (r.getD 2 0) then
      ((b.onCanvas fun c => { c with faultRec := some (((r1.set 2 code).set 3 slot).set 4 mv) }).odSet 0x7000 0x02 code).odSet 0x7000 0x03 slot
    else b.onCanvas fun c => { c with faultRec := some r1 }
  | none => b

/-- RAIL_FAULT: a qualified rail that is enabled faults for 2 µs: a detection of mechanism 10, counted, logged, every rail off (R322, R336, R337, R400). -/
def execRailFault (a : Stamp) (slot : Fin 12) (kind : RailKind) (mv : Nat) (s : State) : Host.Outcome State Fault Refusal :=
  s.command a fun b =>
    let x := b.slot slot
    if !b.railFaulty slot kind mv then b
    else if x.state = 2 ∧ x.en then
      let b1 := b.onSlot slot fun x => { x with mv := mv, pg := x.pg && kind != .pg }
      ((b1.bump 0x7000 0x04 1).detect 10 false).allOff (railCode kind) slot (if slot.val < 7 then mv else 0) 0 false
    else if b.powered && x.mode != 0 && x.state == 0 && b.canvas.state == 0 then b.secondFault slot (railCode kind) (if slot.val < 7 then mv else 0) else b

/-! ### The hold-up bank (R340, R341) -/

/-- E_u, µJ, from the capacitance of the last passing test; 0 while no test has passed since boot or the last has failed, and at V_min or below (R340). -/
def Blk.usable (b : Blk) : Nat :=
  let v := b.bankMv
  let m := b.cfg 0x7001 0x02
  if b.canvas.health = 1 ∧ m < v then b.canvas.cap * (v * v - m * m) / 2000000 else 0

/-- Canvas reports E_u to Velvet (R144, R145, R340). The mode of the first report after a boot is set without the 60-s rule, which holds from it on (R314). -/
def Blk.reportEnergy (b : Blk) : Blk :=
  let eu := b.usable
  let first := !b.modes.reported
  let b1 := ((b.onCanvas fun c => { c with report := some (eu, b.now) }).onModes fun m => { m with reported := true }).energyReport eu
  if first then b1.onVelvet fun v => { v with onEnergy := modeByEnergy eu b1.testFailed != 0 } else b1

/-- E_u has moved by more than 5 % from the last report. -/
def Blk.energyMoved (b : Blk) : Bool := match b.canvas.report with
  | some (old, _) => decide (old < 20 * (max old b.usable - min old b.usable))
  | none => false

/-- HU_SENSE_SAMPLE: the converter's code; a change of more than 5 % is reported at once (R340). -/
def execHuSenseSample (a : Stamp) (code : BitVec 12) (s : State) : Host.Outcome State Fault Refusal :=
  s.command a fun b =>
    if !b.powered then b
    else
      let b1 := b.onCanvas fun c => { c with hu := code }
      if b1.running && b1.modes.flush.isNone && b1.energyMoved then b1.reportEnergy else b1

/-- HOLDUP_REPORT: once per second; the first after a boot follows the boot's health test (R314, R340). -/
def execHoldupReport (a : Stamp) (s : State) : Host.Outcome State Fault Refusal :=
  s.command a fun b => if b.running && b.modes.flush.isNone && (b.modes.reported || b.canvas.health != 0) then b.reportEnergy else b

/-- WRITE_BACK_RETURN: the span of reports at 44 mJ or more has lasted 60 s (R145). -/
def execWriteBackReturn (a : Stamp) (s : State) : Host.Outcome State Fault Refusal :=
  s.command a fun b => match b.velvet.span with
    | some t => if b.running && b.velvet.onEnergy && decide (t + 60000000000 ≤ b.now) then b.applyMode else b
    | none => b

/-- A test is due: none has ended since boot, the period has passed, or the last has failed 60 s ago (R341). -/
def Blk.testDue (b : Blk) : Bool :=
  let last := b.cfg 0x7002 0x07
  b.canvas.health == 0 || b.canvas.health == 3 || decide (last + 1000 * b.cfg 0x7001 0x07 ≤ b.opTime) || (b.canvas.health == 2 && decide (last + 60000 ≤ b.opTime))

/-- HEALTH_TEST: at boot, periodic, or every 60 s after a failure: HU_TEST goes high (R341). -/
def execHealthTest (a : Stamp) (s : State) : Host.Outcome State Fault Refusal :=
  s.command a fun b => if b.running && b.modes.flush.isNone && b.canvas.test.isNone && b.testDue then b.beginTest else b

/-- Capacitance, µF, that a fall of `dv` µV under the test current tells; of a fall of 0 the spec states none (log 4). -/
def Blk.testCap (b : Blk) (dv : Nat) : Nat := if dv = 0 then b.freeNum else 1000 * b.cfg 0x7001 0x05 * b.cfg 0x7001 0x06 / dv

/-- The test passes: at least half the rated capacitance and at most twice the rated ESR (R341). -/
def Blk.testPasses (b : Blk) (stepUv dv : Nat) : Bool :=
  decide (stepUv ≤ 2 * b.cfg 0x7001 0x04 * b.cfg 0x7001 0x05)
    && (if dv = 0 then decide (b.cfg 0x7001 0x03 ≤ 2 * b.testCap dv) else decide (b.cfg 0x7001 0x03 * dv ≤ 2000 * b.cfg 0x7001 0x05 * b.cfg 0x7001 0x06))

/-- A test's result: a failure is logged, HUFAIL, with its event and a detection of mechanism 11 (R341, R400). -/
def Blk.testResult (b : Blk) (stepUv dv : Nat) : Blk :=
  let b1 := (b.onCanvas fun c => { c with test := none }).odSet 0x7002 0x07 b.opTime
  if b.testPasses stepUv dv then
    b1.onCanvas fun c => { c with health := 1, cap := b.testCap dv, esr := stepUv / b.cfg 0x7001 0x05 }
  else
    let b2 := b1.onCanvas fun c => { c with health := 2 }
    ((b2.canvasLogged (b2.canvasFields 0x07 0xFF 0 0 false)).report { code := 0x7003 }).detect 11 false

/-- HEALTH_TEST_END: the test time has passed: HU_TEST goes low, the result is judged and reported (R340, R341). -/
def execHealthTestEnd (a : Stamp) (stepUv totalUv : Nat) (s : State) : Host.Outcome State Fault Refusal :=
  s.command a fun b => match b.canvas.test with
    | some t =>
      if t + 1000 * b.cfg 0x7001 0x06 ≤ b.now then
        let dv := totalUv - stepUv
        let b1 := (if dv = 0 then b.testResult stepUv dv |>.useFree else b.testResult stepUv dv)
        (if b1.running && b1.modes.flush.isNone && (b1.energyMoved || !b1.modes.reported) then b1.reportEnergy else b1).healthCheck
      else b
    | none => b

end Sys2Proof.Machine
end

