-- ==== Sys2Proof/Machine/ModeOps.lean ====
section
/-! DEFINITION. The boot (R94, R254, R268, R314, R325), the load of the map and of Gauze (R83, R130), Memory Active (R313, R314), and sleep and wake (R316 to R319). -/

namespace Sys2Proof.Machine

/-! ### Firmware (R325) -/

/-- The image of a firmware slot. -/
def Firmware.image (f : Firmware) (slot : Nat) : Option FwImage := if slot = 0 then f.slotA else f.slotB

/-- What a slot's check gives: 0 it passes, 2 its signature fails or it is empty, 3 its security version is too low. -/
def Firmware.check (f : Firmware) (slot : Nat) : Nat := match f.image slot with
  | some i => if !i.sigOk then 2 else if i.secVer < f.minSec then 3 else 0
  | none => 2

/-- A slot is refused (R325). -/
def Blk.fwRefused (b : Blk) (slot : Nat) : Blk := b.report { code := 0x1105, data := [BitVec.ofNat 8 slot] }

/-- A trial boot that did not reach Memory Active: the previous slot, the mark cleared (R325). -/
def Blk.fwRevert (b : Blk) : Blk :=
  if b.felt.fw.trial && !b.modes.warm then (b.onFelt fun f => { f with fw := { f.fw with trial := false, pending := 2, result := 4 } }).report { code := 0x1106 } else b

/-- The active slot, or the other where it is refused; none where both are. -/
def Blk.fwActive (b : Blk) : Option Blk :=
  let f := b.felt.fw
  if f.check f.active = 0 then some b
  else
    let b1 := b.fwRefused f.active
    if f.check (1 - f.active) = 0 then some b1 else none

/-- The slot that a boot loads: the pending one from M1, on trial; else the active one. None where no slot passes. -/
def Blk.fwLoad (b : Blk) : Option Blk :=
  let b1 := b.fwRevert
  let f := b1.felt.fw
  if f.pending < 2 ∧ !b1.modes.warm then
    let c := f.check f.pending
    if c = 0 then some (b1.onFelt fun x => { x with fw := { x.fw with trial := true } })
    else
      let b2 := (b1.onFelt fun x => { x with fw := { x.fw with pending := 2, result := c } }).fwRefused f.pending
      if f.check (1 - f.pending) = 0 then some b2 else none
  else b1.fwActive

/-! ### Bring-up (R94, R314) -/

/-- A bank whose fill does not read back is failed and a good spare takes its use before release (R94, R409). -/
def Blk.fillBank (b : Blk) (bad : List Nat) (k : Nat) : Blk :=
  let b1 := b.onBank k fun x => { x with state := 2, use := 8 }
  if 64 ≤ k then b1
  else match [64, 65].find? fun sp => !bad.contains sp && (b1.bank sp).state == 1 with
    | some sp => (b1.onBank sp fun x => { x with state := 0, use := bankUse k, repl := k }).reportUnit 0xA003 5 k
    | none => b1

/-- Defaults that a boot has substituted are counted in one event (R268). -/
def Blk.defaultsEvent (b : Blk) : Blk :=
  let n := b.felt.defaulted
  if n = 0 then b else b.report { code := 0x1206, data := leBytes 2 n ++ [if b.felt.params.isNone then 1 else 0] }

/-- A boot that follows a dirty shutdown: the count goes up, the resync is due (R60, R219, R248); from now on only a stop that ends makes the next boot clean. -/
def Blk.shutdownCheck (b : Blk) : Blk :=
  let b1 := if b.felt.clean ∨ b.modes.warm then b
    else (b.dirtyUp.onDamask fun d => { d with resynced := some [] }).onTwill fun t => { t with resync := 0 }
  b1.onFelt fun f => { f with clean := false }

/-- What the last run left unfinished is told: parameters that were not persisted (R279), a calibration set that cannot be read (R136). Gauze's working copy takes the set's die records (R118). -/
def Blk.bootChecks (b : Blk) : Blk :=
  let b1 := if b.felt.notPersisted then (b.onFelt fun f => { f with notPersisted := false }).report { code := 0x1204 } else b
  if b1.gauze.calSeq = 0 then (b1.onGauze fun g => { g with calPresent := false, cal := [], work := [], trims := [], ircTrim := some [] }).report { code := 0x5003 }
  else b1.onGauze fun g => { g with work := g.cal }

/-- Sensors that had failed are judged afresh (R359); their peak starts again. -/
def Blk.freshSensors (b : Blk) : Blk :=
  b.onThermal fun t => { t with sensors := (t.sensors.map fun e => (e.1, { e.2 with failed := false, bad := 0, hot := false })).filter fun e => e.2 != {}, few := false, peak := none }

/-- Steps 3 to 5 of a boot with the banks that fill has found bad. -/
def Blk.bringUp (b : Blk) (bad : List Nat) : Blk :=
  let b1 := ((bad.foldl (fun c k => c.fillBank bad k) b).onClocks fun c => { c with src := 0, nFab := 8, nEng := 8, nCry := 8, failed := false, forced := false }).faultPin
  let b2 := ((b1.loadOd true).defaultsEvent.newRates.shutdownCheck.bootChecks).freshSensors
  b2.onModes fun m => { m with step := 5 }

/-! ### Felt as the boot finds it (R374) -/

/-- An A/B item of Felt is present: 1 calibration set, 2 persistent parameters, 3 key blobs. -/
def Blk.itemPresent (b : Blk) (i : Nat) : Bool :=
  match i with
  | 1 => b.gauze.calSeq != 0
  | 2 => b.felt.params.isSome
  | 3 => b.damask.mkey.isSome || b.damask.kek.isSome || b.felt.maintKey.isSome || b.can.macKey.isSome
  | _ => false

/-- An item with no valid copy is absent (R136, R254, R268). -/
def Blk.itemAbsent (b : Blk) (i : Nat) : Blk :=
  match i with
  | 1 => b.onGauze fun g => { g with calSeq := 0 }
  | 2 => b.onFelt fun f => { f with params := none }
  | 3 => (b.onDamask fun d => { d with mkey := none, k := none, kek := none }).blankKeys
  | _ => b

/-- Both valid copies of an item carry the same sequence: the one that the sequence's parity selects is used, the other is replaced at the next write, and the twin conflict is told (R374). -/
def Blk.twinConflict (b : Blk) (i : Nat) : Blk := if i = 0 ∨ i = 4 ∨ b.itemPresent i then (b.bump 0x9000 0x06 1).report { code := 0x9001 } else b

/-- An item that was written and has no valid copy left: absent, and a detection of mechanism 8 (R374, R400). -/
def Blk.itemGone (b : Blk) (i : Nat) : Blk := if b.itemPresent i then ((b.itemAbsent i).dropCopies i).detect 8 false else b

/-- What the load of Felt's items finds. -/
def Blk.loadFelt (b : Blk) (x : FeltObs) : Blk :=
  ((List.range 5).filter fun i => x.gone.getLsbD i).foldl Blk.itemGone (((List.range 5).filter fun i => x.twin.getLsbD i && !x.gone.getLsbD i).foldl Blk.twinConflict b)

/-- Clocks are judged for step 3 of a boot. -/
def Clocks.judged (c : Clocks) : Bool := c.ref == 1 && c.fab.locked && c.eng.locked && c.cry.locked && c.jch.locked

/-- More banks have failed their fill than good spares stand by: they are marked failed, the fault is recorded in Felt, and the boot stands at the fill until the power is cycled (R94, R315); the record's code is not in the spec (log 4). -/
def Blk.fillFails (b : Blk) (bad : List Nat) : Blk :=
  let b1 := bad.foldl (fun c k => c.onBank k fun x => { x with state := 2, use := 8 }) b
  ((b1.useFree.report { code := b1.freeVal 16, sev := some 5 }).ringNewest).onModes fun m => { m with step := 4 }

/-- BOOT: steps 3 to 5: clocks judged, SRAM filled, settings and firmware loaded (R94, R268, R314, R325, R374). With more bad banks than spares, or no slot that passes, the device stays in M2 (R315). -/
def execBoot (a : Stamp) (badBanks : List (Fin 66)) (felt : FeltObs) (s : State) : Host.Outcome State Fault Refusal :=
  s.command a fun b =>
    let bad := badBanks.foldl (fun l k => insUniq k.val l) []
    if b.eff ≠ 2 || b.modes.step ≠ 2 || !b.clocks.judged then b
    else if ([64, 65].filter fun k => !bad.contains k).length < (bad.filter fun k => decide (k < 64)).length then b.fillFails bad
    else match (b.loadFelt felt).fwLoad with
      | some c => c.bringUp bad
      | none => ((b.loadFelt felt).fwRefused 0).fwRefused 1

/-! ### Binding (R253, R254, R407) -/

/-- Die IDs as discovery reads them. -/
def Blk.readIds (b : Blk) (ids : List (Nat × BitVec 64)) : Blk := ids.foldl (fun c e => c.onDie e.1 fun x => { x with id := e.2 }) b

/-- A die that the record does not list at its place: what stood there has failed, and the new die is a replacement; it holds none of the lines that stripes encode there (R254, R407). -/
def Blk.replaceDie (b : Blk) (d : Nat) (id : BitVec 64) : Blk :=
  let b1 := if b.damask.bindIds.has d && (b.die d).state != 3 then b.dieFail d else b
  let b2 := (b1.onMedia fun m => { m with gone := m.gone ++ (m.lines.map Prod.fst).filter fun l => dieOfLoc l == d && !m.gone.contains l }).onDie d fun x => { x with state := 1, replacement := true }
  ((b2.onDamask fun k => { k with bindIds := k.bindIds.put d id }).clearCells d).reportUnit 0x3806 3 d

/-- A die of the bound media set: as recorded, replaced, or missing. -/
def Blk.checkDie (ids : List (Nat × BitVec 64)) (b : Blk) (d : Nat) : Blk :=
  match (ids.find? fun e => e.1 == d).map Prod.snd, b.damask.bindIds.find d with
  | some id, old => if old = some id ∨ ((b.die d).state ≠ 1 ∧ (b.die d).state ≠ 3) then b else b.replaceDie d id
  | none, some _ => b.dieFail d
  | none, none => b

/-- The media are the device's own: a normal boot (R254). -/
def Blk.ownMedia (b : Blk) (ids : List (Nat × BitVec 64)) : Blk := ((List.range 256).foldl (Blk.checkDie ids) b).boundNow

/-- First provisioning: MK and k from the TRNG, generation 1, the record written, the slots divided (R254, R435). -/
def Blk.firstProvision (b : Blk) : Blk :=
  let mkey := b.drawn
  let b1 := b.draw
  let b2 := (b1.draw.onDamask fun d => { d with mkey := some mkey, k := some (b1.drawn.setWidth 64), gen := 1 }).itemWrite 3
  ((b2.onFelt fun f => { f with stop := 0 }).provisionSlots.bind).boundNow

/-- The device waits in M3 with a Damask state (R254). -/
def Blk.heldMedia (b : Blk) (state : Nat) (record : Option (BitVec 8 × BitVec 64 × BitVec 128 × Nat)) : Blk :=
  let b1 := b.onDamask fun d => { d with state := state, binding := record }
  if state = 2 then b1.report { code := 0x6804 } else b1

/-- The device's own check value is that of a record. -/
def Blk.checkMatches (b : Blk) (r : BitVec 8 × BitVec 64 × BitVec 128 × Nat) : Bool := match b.damask.mkey with
  | some k => r.2.1 == bindingCheck k
  | none => false

/-- BINDING_CHECK: die discovery and the binding record: M3 (R254). -/
def execBindingCheck (a : Stamp) (obs : BindObs) (s : State) : Host.Outcome State Fault Refusal :=
  s.command a fun b =>
    if b.eff ≠ 2 || b.modes.step ≠ 6 then b
    else
      let b1 := (b.readIds obs.dieIds).setConditions fun _ => 8
      match obs.record with
      | some r => if b1.checkMatches r then (b1.onDamask fun d => { d with binding := some r }).ownMedia obs.dieIds else b1.heldMedia 2 (some r)
      | none =>
        if !obs.mediaBlank then b1.heldMedia 2 none
        else if b1.damask.mkey.isSome then b1.heldMedia 0 none else b1.firstProvision

/-! ### The map (R83 to R85, R130) -/

/-- MAP_REBUILD: the choice of the checkpoint pair, its images, the replay of its plans, the journal, and Gauze's snapshot, with the time that it took (R83, R84, R86, R130). -/
def execMapRebuild (a : Stamp) (timeUs : Nat) (s : State) : Host.Outcome State Fault Refusal :=
  s.command a fun b =>
    if b.eff ≠ 3 || b.modes.step ≠ 7 then b
    else (((b.odSet 0x4050 0x04 0).odSet 0x4050 0x05 timeUs).loadMap.mapReady.loadSnapshot).onModes fun m => { m with step := 9 }

/-! ### Memory Active (R313, R314) -/

/-- A trial image becomes the active one (R325). -/
def Blk.fwTaken (b : Blk) : Blk :=
  let f := b.felt.fw
  if f.trial then (b.onFelt fun x => { x with fw := { f with active := f.pending, pending := 2, trial := false, result := 1,
                                                             minSec := ((f.image f.pending).map FwImage.secVer).getD f.minSec } }).directoryWrite else b

/-- Memory_Active is set at a head whose link is up (R231). -/
def HeadSt.active (x : HeadSt) : HeadSt := { x with memActive := x.link == 2 || x.link == 3 }

/-- The laps start (R106, R110). -/
def Blk.startLaps (b : Blk) : Blk :=
  b.onMedia fun m => { m with lapV := m.lapV.fresh b.opTime (b.lapLines .voile), lapD := m.lapD.fresh b.opTime (b.lapLines .denim), lapS := m.lapS.fresh b.opTime sramWords }

/-- M8's causes that hold as Memory Active is reached (R315, R327). -/
def Blk.degradedNow (b : Blk) : Blk :=
  let b1 := if b.safety.rebuild.isEmpty then b else b.degrade 0 true
  let b2 := if b1.media.chans.any fun e => e.2.retired then b1.degrade 1 true else b1
  let b3 := if b2.hA.failed || b2.hB.failed then b2.degrade 2 true else b2
  if b3.modes.degraded = 0 then b3 else b3.enter 8

/-- The persistence mode at Memory Active: after a warm restart that of the last report (R324); the unprotected state has its event (R145). -/
def Blk.modeNow (b : Blk) : Blk :=
  let eu := (b.canvas.report.map Prod.fst).getD 0
  let b1 := if b.modes.warm then (b.energyReport eu).onVelvet fun v => { v with onEnergy := modeByEnergy eu b.testFailed != 0 } else b
  if b1.persistence = 2 ∧ b1.modes.reported then b1.report { code := 0x6002 } else b1

/-- Last boot kind (R327). -/
def Blk.bootKindNow (b : Blk) : Nat := if b.modes.warm then 4 else b.felt.stop

/-- The lanes take the plan that the checkpoint pair gives; before any checkpoint the first plan is drawn (R81, R83). -/
def Blk.planNow (b : Blk) : Blk := if b.twill.plan.isEmpty && b.twill.planNext.isEmpty then b.newPlan.turnPlan false else b.openLanes

/-- Memory Active at both heads; the poison list's warnings are raised again (R105); M4, or the highest mode whose condition holds. -/
def Blk.activate (b : Blk) : Blk :=
  let b1 := b.onModes fun m => { m with step := 11, bootKind := b.bootKindNow, bootMs := min (b.since m.t0 / 1000000) (2 ^ 32 - 1) }
  let b2 := ((b1.setConditions fun _ => 16).onHA HeadSt.active).onHB HeadSt.active
  let b3 := ((b2.planNow.fwTaken.modeNow).startLaps).poisonWarn
  let b4 := b3.degradedNow
  let b5 := ((if b4.thermal.few then b4.throttle else b4).lifeCheck).report { code := 0x1103 }
  ((List.range 32).foldl (fun b ch => b.payOwed ch) b5.retireWaiting).drive

/-- The map and Gauze are loaded in M3. -/
def Blk.loaded (b : Blk) : Bool := b.eff == 3 && b.modes.step == 9

/-- MEMORY_ACTIVE: the first hold-up report has been made (R313, R314). -/
def execMemoryActive (a : Stamp) (s : State) : Host.Outcome State Fault Refusal :=
  s.command a fun b => if b.loaded && b.modes.reported then b.activate else b

/-- HOLDUP_REPORT_TIMEOUT: no report by t0 + 560 ms: Memory Active in write-through, unprotected, with one failure event (R314). -/
def execHoldupReportTimeout (a : Stamp) (s : State) : Host.Outcome State Fault Refusal :=
  s.command a fun b => if b.loaded && !b.modes.reported && decide (b.modes.t0 + 560000000 ≤ b.now) then (b.report { code := 0x1107 }).activate else b

/-! ### Sleep and wake (R316 to R319) -/

/-- LIGHT_SLEEP_ENTRY: idle for OD 0x1100.08 µs in M4; a delay of 0 disables it (R313, R316). -/
def execLightSleepEntry (a : Stamp) (s : State) : Host.Outcome State Fault Refusal :=
  s.command a fun b => if b.eff == 4 && !b.stopped && b.idle && b.cfg 0x1100 0x08 != 0 then b.enter 5 else b

/-- DEEP_SLEEP_ENTRY: idle for OD 0x1100.09 ms in M4 or M5 (R313, R316, R317). -/
def execDeepSleepEntry (a : Stamp) (s : State) : Host.Outcome State Fault Refusal :=
  s.command a fun b => if (b.eff == 4 || b.eff == 5) && !b.stopped && b.idle && b.cfg 0x1100 0x09 != 0 then b.fallAsleep.enter 6 else b

/-- IDLE_END: the device wakes (R316, R319); what a clock failure holds asleep waits for the clocks (R318). -/
def execIdleEnd (a : Stamp) (s : State) : Host.Outcome State Fault Refusal :=
  s.command a fun b => if (b.eff == 5 || b.eff == 6) && !b.clocks.failed then b.wake else b

end Sys2Proof.Machine
end

