-- ==== Sys2Proof/Machine/Spdm.lean ====
section
/-! DEFINITION. SPDM over DOE (R256) and IDE (R257). The response codes, the order of the messages and the ERROR response are the SPDM standard's (PRESUMED, log 35). -/

namespace Sys2Proof.Machine

/-- A message reaches a head's SPDM responder: its configuration space answers and the management engines run. -/
def Blk.spdmReq (b : Blk) (h : Head) (f : Blk → Blk) : Blk := if b.configOpen h && b.mgmt then f b else b

/-- A response of the SPDM standard's code, as a DOE kind past those of the other protocols. -/
def Blk.spdmSay (b : Blk) (h : Head) (code : Nat) (out : List Nat) : Blk := b.emit (.doe h (256 + code) out)

/-- The ERROR response. -/
def Blk.spdmError (b : Blk) (h : Head) : Blk := b.spdmSay h 0x7F []

/-- Changes a head's SPDM state. -/
def Blk.onSpdm (b : Blk) (h : Head) (f : Spdm → Spdm) : Blk := b.onHead h fun x => { x with spdm := f x.spdm }

/-- A message that needs the negotiation to have ended. -/
def Blk.afterAlgs (b : Blk) (h : Head) (f : Blk → Blk) : Blk := if (b.head h).spdm.algs then f b else b.spdmError h

/-- A message of a secured session. -/
def Blk.inSession (b : Blk) (h : Head) (f : Blk → Blk) : Blk := if (b.head h).spdm.up then f b else b.spdmError h

/-! ### Connection -/

/-- GET_VERSION: SPDM 1.3; the connection starts afresh. -/
def execGetVersion (a : Stamp) (h : Head) (s : State) : Host.Outcome State Fault Refusal :=
  s.command a fun b => b.spdmReq h fun b => (b.onSpdm h fun _ => { version := true }).spdmSay h 0x04 [0x13]

/-- GET_CAPABILITIES: the messages that the device supports, as bits: certificates, challenge, signed measurements, key exchange, key update, heartbeat. -/
def execGetCapabilities (a : Stamp) (h : Head) (s : State) : Host.Outcome State Fault Refusal :=
  s.command a fun b => b.spdmReq h fun b =>
    if (b.head h).spdm.version then (b.onSpdm h fun x => { x with caps := true }).spdmSay h 0x61 [0x3F] else b.spdmError h

/-- NEGOTIATE_ALGORITHMS: ECDSA P-384, SHA-384, ECDHE on secp384r1 and AES-256-GCM, when they are among those offered. -/
def execNegotiateAlgorithms (a : Stamp) (h : Head) (offered : Bool) (s : State) : Host.Outcome State Fault Refusal :=
  s.command a fun b => b.spdmReq h fun b =>
    if (b.head h).spdm.caps && offered then (b.onSpdm h fun x => { x with algs := true }).spdmSay h 0x63 [384, 384, 384, 256] else b.spdmError h

/-! ### Identity -/

/-- GET_DIGESTS: slot 0 holds the device certificate. -/
def execGetDigests (a : Stamp) (h : Head) (s : State) : Host.Outcome State Fault Refusal :=
  s.command a fun b => b.spdmReq h fun b => b.afterAlgs h fun b => b.spdmSay h 0x01 [1, (Config.sha384 (Config.certificate.map BitVec.toNat)).toNat]

/-- GET_CERTIFICATE: of slot 0. -/
def execGetCertificate (a : Stamp) (h : Head) (slot : Fin 8) (s : State) : Host.Outcome State Fault Refusal :=
  s.command a fun b => b.spdmReq h fun b => b.afterAlgs h fun b =>
    if slot.val = 0 then b.spdmSay h 0x02 (Config.certificate.map BitVec.toNat) else b.spdmError h

/-- CHALLENGE: a signature of the identity key over the requester's nonce. -/
def execChallenge (a : Stamp) (h : Head) (slot : Fin 8) (nonce : BitVec 256) (s : State) : Host.Outcome State Fault Refusal :=
  s.command a fun b => b.spdmReq h fun b => b.afterAlgs h fun b =>
    if slot.val = 0 then b.spdmSay h 0x03 [(Config.spdmSign [0x03, nonce.toNat]).toNat] else b.spdmError h

/-! ### Measurements -/

/-- Digest of a firmware slot's image; zeros for an empty one. -/
def imageDigest (i : Option FwImage) : Nat := match i with
  | some x => (Config.sha384 (x.version.map BitVec.toNat ++ [x.secVer, x.length])).toNat
  | none => 0

/-- Security configuration, measurement 5: encryption in effect, alarm threshold and reaction, media generation, Damask state. -/
def Blk.securityConfig (b : Blk) : List Nat :=
  [b2n ((List.range 4).all fun u => b.unitEnabled u), b.cfg 0x6810 0x01, b.cfg 0x6810 0x02, b.damask.gen.toNat, b.damask.state]

/-- The slot of the running image: that of a trial, else the active one. -/
def Firmware.running (f : Firmware) : Nat := if f.trial then f.pending else f.active

/-- A measurement by its index (R256). -/
def Blk.measurement (b : Blk) (i : Nat) : Option (List Nat) :=
  let f := b.felt.fw
  match i with
  | 1 => some [Config.bootRomDigest.toNat]
  | 2 => some [imageDigest (f.image f.running)]
  | 3 => some [imageDigest (f.image (1 - f.running))]
  | 4 => some ((padTo 16 (((f.image f.running).map FwImage.version).getD [])).map BitVec.toNat)
  | 5 => some b.securityConfig
  | 6 => some [((b.damask.mkey.map fun k => (bindingCheck k).toNat)).getD 0]
  | _ => none

/-- What GET_MEASUREMENTS answers: index 0 their number, 0xFF all; measurement 2 carries a signature over the requester's nonce. -/
def Blk.measurements (b : Blk) (i : Nat) (nonce : BitVec 256) : Option (List Nat) :=
  if i = 0 then some [6]
  else if i = 0xFF then some ([1, 2, 3, 4, 5, 6].flatMap fun k => (b.measurement k).getD [])
  else match b.measurement i with
    | some m => some (if i = 2 then m ++ [(Config.spdmSign ([0x60, nonce.toNat] ++ m)).toNat] else m)
    | none => none

/-- GET_MEASUREMENTS (R256). -/
def execGetMeasurements (a : Stamp) (h : Head) (index : BitVec 8) (nonce : BitVec 256) (s : State) : Host.Outcome State Fault Refusal :=
  s.command a fun b => b.spdmReq h fun b => b.afterAlgs h fun b =>
    match b.measurements index.toNat nonce with
    | some m => b.spdmSay h 0x60 m
    | none => b.spdmError h

/-! ### Sessions -/

/-- KEY_EXCHANGE: an ephemeral secret is drawn, and the answer is signed; the session is up once FINISH verifies. -/
def execKeyExchange (a : Stamp) (h : Head) (exchange : BitVec 768) (s : State) : Host.Outcome State Fault Refusal :=
  s.command a fun b => b.spdmReq h fun b => b.afterAlgs h fun b =>
    if (b.head h).spdm.secret.isSome then b.spdmError h
    else (b.draw.onSpdm h fun x => { x with secret := some b.drawn }).spdmSay h 0x64 [(Config.spdmSign [0x64, exchange.toNat, b.drawn.toNat]).toNat]

/-- FINISH: a transcript that does not verify ends the session's set-up. -/
def execFinish (a : Stamp) (h : Head) (verify : BitVec 384) (s : State) : Host.Outcome State Fault Refusal :=
  s.command a fun b => b.spdmReq h fun b =>
    match (b.head h).spdm.secret with
    | none => b.spdmError h
    | some k =>
      if (b.head h).spdm.up then b.spdmError h
      else if Config.spdmVerify k verify then (b.onSpdm h fun x => { x with up := true, updates := 0 }).spdmSay h 0x65 []
      else (b.onSpdm h fun x => { x with secret := none }).spdmError h

/-- KEY_UPDATE: the session's keys are updated once more. -/
def execKeyUpdate (a : Stamp) (h : Head) (s : State) : Host.Outcome State Fault Refusal :=
  s.command a fun b => b.spdmReq h fun b => b.inSession h fun b => (b.onSpdm h fun x => { x with updates := x.updates + 1 }).spdmSay h 0x69 []

/-- SPDM_HEARTBEAT: the session stays. -/
def execSpdmHeartbeat (a : Stamp) (h : Head) (s : State) : Host.Outcome State Fault Refusal :=
  s.command a fun b => b.spdmReq h fun b => b.inSession h fun b => b.spdmSay h 0x68 []

/-- END_SESSION. -/
def execEndSession (a : Stamp) (h : Head) (s : State) : Host.Outcome State Fault Refusal :=
  s.command a fun b => b.spdmReq h fun b => b.inSession h fun b => (b.onSpdm h fun x => { x with up := false, secret := none }).spdmSay h 0x6C []

/-! ### IDE (R257) -/

/-- IDE_KEY_MANAGEMENT: over a secured session the key of the head's stream for CXL.cachemem, in skid or containment mode, or of its link stream for CXL.io is programmed or refreshed. -/
def execIdeKeyManagement (a : Stamp) (h : Head) (pcie : Bool) (key : BitVec 256) (skid : Bool) (s : State) : Host.Outcome State Fault Refusal :=
  s.command a fun b => b.spdmReq h fun b => b.inSession h fun b =>
    let b1 := b.onHead h fun x => if pcie then { x with ideIo := { key := some key } } else { x with ideMem := { key := some key, skid := skid } }
    b1.emit (.doe h 4 [b2n pcie, b2n (!pcie && skid)])

/-- IDE_FAILURE: the stream has failed, and one event is raised; requests that fail IDE checks are never accepted (R257). -/
def execIdeFailure (a : Stamp) (h : Head) (pcie : Bool) (s : State) : Host.Outcome State Fault Refusal :=
  s.command a fun b =>
    let x := b.head h
    if (x.link = 2 ∨ x.link = 3) ∧ (if pcie then x.ideIo.key else x.ideMem.key).isSome then
      let b1 := b.onHead h fun x => if pcie then { x with ideIo := { x.ideIo with failed := true } } else { x with ideMem := { x.ideMem with failed := true } }
      b1.report { code := 0x2007, cls := 1, unit := BitVec.ofNat 16 (headNum h) }
    else b

end Sys2Proof.Machine
end

