-- ==== Sys2Proof/Machine/TweedOps.lean ====
section
/-! DEFINITION. Tweed's commands: the consumer words, the dumps and the bank swap (R389, R392, R394). -/

namespace Sys2Proof.Machine

/-- CONSUME: a write of the consumer word through the window (R394). -/
def execConsume (a : Stamp) (h : Head) (v : BitVec 64) (s : State) : Host.Outcome State Fault Refusal :=
  s.command a fun b => if b.memoryActive && !b.stopped then b.consumeTo h v.toNat else b

/-- DROP (R394). -/
def execDrop (a : Stamp) (h : Head) (s : State) : Host.Outcome State Fault Refusal :=
  s.command a fun b => if b.memoryActive && !b.stopped then b.dropToHeader h else b

/-- The 512 counters as a dump takes them. -/
def Tweed.latched (t : Tweed) : List (Nat × Nat × Bool) := t.ctr.map fun e => (e.1, e.2.1, e.2.2)

/-- A dump (R389): its marker enters the queue, the banks swap, the counters are copied to slot s mod 16 and their wrapped bits cleared. -/
def Blk.dump (b : Blk) : Blk :=
  let n := b.tweed.newest + 1
  let d : TDump := { num := n, opTime := b.opTime, period := b.cfg 0x8800 0x01, flags := b.tweed.flags, ctrs := b.tweed.latched }
  let b1 := (b.pushPacket 2 0x10 [BitVec.ofNat 32 n, BitVec.ofNat 32 (n >>> 32)]).bankSwap
  b1.onTweed fun t => { t with dumps := t.dumps.put (n % 16) d, newest := n, flags := 0, ctr := (t.ctr.map fun e => (e.1, (e.2.1, false))).filter fun e => e.2 != (0, false) }

/-- TELEMETRY_DUMP: operating time passes a multiple of the dump period; dumps pause in M6 (R389, R390). -/
def execTelemetryDump (a : Stamp) (s : State) : Host.Outcome State Fault Refusal :=
  s.command a fun b => if b.running && !b.tweed.paused && b.modes.flush.isNone then b.dump else b

/-- QUEUE_BANK_SWAP: the filling bank is full (R392); in M6 the queue pauses (R395). -/
def execQueueBankSwap (a : Stamp) (s : State) : Host.Outcome State Fault Refusal :=
  s.command a fun b => if 4096 ≤ b.tweed.bank.length ∧ !b.tweed.paused then b.bankSwap else b

end Sys2Proof.Machine
end

