-- ==== Sys2Proof/Machine/Dispatch.lean ====
section
/-! DEFINITION. Dispatch: one arm for each command, in the order of spec/opcode_table.json. -/

namespace Sys2Proof.Machine

/-- What a command does to the block (the queue stays as it is). -/
def exec (i : Instr) (s : State) : Host.Outcome State Fault Refusal :=
  match i with
  | .memRd a h hpa tag => Sys2Proof.Machine.execMemRd a h hpa tag s
  | .memRdData a h hpa tag => Sys2Proof.Machine.execMemRdData a h hpa tag s
  | .memSpecRd a h hpa tag => Sys2Proof.Machine.execMemSpecRd a h hpa tag s
  | .memWr a h hpa tag data poison => Sys2Proof.Machine.execMemWr a h hpa tag data poison s
  | .memWrPtl a h hpa tag data mask poison => Sys2Proof.Machine.execMemWrPtl a h hpa tag data mask poison s
  | .unsupportedRequest a h hpa tag isRead => Sys2Proof.Machine.execUnsupportedRequest a h hpa tag isRead s
  | .acceptance a h k dp => Sys2Proof.Machine.execAcceptance a h k dp s
  | .readIssue a ch die part => Sys2Proof.Machine.execReadIssue a ch die part s
  | .programResume a ch die part => Sys2Proof.Machine.execProgramResume a ch die part s
  | .readTransfer a ch die part x => Sys2Proof.Machine.execReadTransfer a ch die part x s
  | .reconstructionComplete a rid lost dp => Sys2Proof.Machine.execReconstructionComplete a rid lost dp s
  | .fillReturn a li => Sys2Proof.Machine.execFillReturn a li s
  | .deadlineExpiry a rid => Sys2Proof.Machine.execDeadlineExpiry a rid s
  | .deepRecoveryTimeout a rid => Sys2Proof.Machine.execDeepRecoveryTimeout a rid s
  | .deepRecoverySuccess a rid step dp => Sys2Proof.Machine.execDeepRecoverySuccess a rid step dp s
  | .programGuard a ch die part => Sys2Proof.Machine.execProgramGuard a ch die part s
  | .resetGuard a ch die part => Sys2Proof.Machine.execResetGuard a ch die part s
  | .coldPathWrite a t e => Sys2Proof.Machine.execColdPathWrite a t e s
  | .hotAppend a b lane e => Sys2Proof.Machine.execHotAppend a b lane e s
  | .programComplete a ch die part ok => Sys2Proof.Machine.execProgramComplete a ch die part ok s
  | .tileResetStart a ch die part => Sys2Proof.Machine.execTileResetStart a ch die part s
  | .tileResetComplete a ch die part ok => Sys2Proof.Machine.execTileResetComplete a ch die part ok s
  | .writeThroughWrite a li lane e => Sys2Proof.Machine.execWriteThroughWrite a li lane e s
  | .dirtyCleaning a => Sys2Proof.Machine.execDirtyCleaning a s
  | .rangeClean a src => Sys2Proof.Machine.execRangeClean a src s
  | .rangeInvalidate a src => Sys2Proof.Machine.execRangeInvalidate a src s
  | .rangeCleanAndInvalidate a src => Sys2Proof.Machine.execRangeCleanAndInvalidate a src s
  | .rangeOperationEnd a => Sys2Proof.Machine.execRangeOperationEnd a s
  | .lineCleanByAddress a src line => Sys2Proof.Machine.execLineCleanByAddress a src line s
  | .lineInvalidateByAddress a src line => Sys2Proof.Machine.execLineInvalidateByAddress a src line s
  | .lineCleanInvalidateByAddress a src line => Sys2Proof.Machine.execLineCleanInvalidateByAddress a src line s
  | .lineCleanBySetAndWay a src set way => Sys2Proof.Machine.execLineCleanBySetAndWay a src set way s
  | .lineInvalidateBySetAndWay a src set way => Sys2Proof.Machine.execLineInvalidateBySetAndWay a src set way s
  | .lineCleanInvalidateBySetAndWay a src set way => Sys2Proof.Machine.execLineCleanInvalidateBySetAndWay a src set way s
  | .hint a h rec => Sys2Proof.Machine.execHint a h rec s
  | .hintCancel a h rec => Sys2Proof.Machine.execHintCancel a h rec s
  | .prefetchRead a h => Sys2Proof.Machine.execPrefetchRead a h s
  | .startBarrier a src => Sys2Proof.Machine.execStartBarrier a src s
  | .barrierCompletion a => Sys2Proof.Machine.execBarrierCompletion a s
  | .gpfPhase1 a h => Sys2Proof.Machine.execGpfPhase1 a h s
  | .gpfPhase2 a h => Sys2Proof.Machine.execGpfPhase2 a h s
  | .gpfPhase2Complete a h => Sys2Proof.Machine.execGpfPhase2Complete a h s
  | .identify a h => Sys2Proof.Machine.execIdentify a h s
  | .backgroundOperationStatus a h => Sys2Proof.Machine.execBackgroundOperationStatus a h s
  | .getEventRecords a h log => Sys2Proof.Machine.execGetEventRecords a h log s
  | .clearEventRecords a h log all handles => Sys2Proof.Machine.execClearEventRecords a h log all handles s
  | .getEventInterruptPolicy a h => Sys2Proof.Machine.execGetEventInterruptPolicy a h s
  | .setEventInterruptPolicy a h policy => Sys2Proof.Machine.execSetEventInterruptPolicy a h policy s
  | .getFwInfo a h => Sys2Proof.Machine.execGetFwInfo a h s
  | .transferFw a h part img => Sys2Proof.Machine.execTransferFw a h part img s
  | .activateFw a h slot online => Sys2Proof.Machine.execActivateFw a h slot online s
  | .getTimestamp a h => Sys2Proof.Machine.execGetTimestamp a h s
  | .setTimestamp a h v => Sys2Proof.Machine.execSetTimestamp a h v s
  | .getSupportedLogs a h => Sys2Proof.Machine.execGetSupportedLogs a h s
  | .getLog a h uuid => Sys2Proof.Machine.execGetLog a h uuid s
  | .identifyMemoryDevice a h => Sys2Proof.Machine.execIdentifyMemoryDevice a h s
  | .getHealthInfo a h => Sys2Proof.Machine.execGetHealthInfo a h s
  | .getAlertConfiguration a h => Sys2Proof.Machine.execGetAlertConfiguration a h s
  | .setAlertConfiguration a h cfg => Sys2Proof.Machine.execSetAlertConfiguration a h cfg s
  | .getShutdownState a h => Sys2Proof.Machine.execGetShutdownState a h s
  | .setShutdownState a h v => Sys2Proof.Machine.execSetShutdownState a h v s
  | .sanitize a h => Sys2Proof.Machine.execSanitize a h s
  | .secureErase a h => Sys2Proof.Machine.execSecureErase a h s
  | .eraseComplete a => Sys2Proof.Machine.execEraseComplete a s
  | .getDynamicCapacityConfiguration a h => Sys2Proof.Machine.execGetDynamicCapacityConfiguration a h s
  | .getDynamicCapacityExtentList a h => Sys2Proof.Machine.execGetDynamicCapacityExtentList a h s
  | .addDynamicCapacityResponse a h extents => Sys2Proof.Machine.execAddDynamicCapacityResponse a h extents s
  | .releaseDynamicCapacity a h extents => Sys2Proof.Machine.execReleaseDynamicCapacity a h extents s
  | .getPoisonList a h dpa len => Sys2Proof.Machine.execGetPoisonList a h dpa len s
  | .injectPoison a h dpa => Sys2Proof.Machine.execInjectPoison a h dpa s
  | .clearPoison a h dpa data => Sys2Proof.Machine.execClearPoison a h dpa data s
  | .getScanMediaCapabilities a h dpa len => Sys2Proof.Machine.execGetScanMediaCapabilities a h dpa len s
  | .scanMedia a h dpa len => Sys2Proof.Machine.execScanMedia a h dpa len s
  | .getScanMediaResults a h => Sys2Proof.Machine.execGetScanMediaResults a h s
  | .read a src idx sub => Sys2Proof.Machine.execRead a src idx sub s
  | .write a src idx sub val => Sys2Proof.Machine.execWrite a src idx sub val s
  | .stage a src idx sub val => Sys2Proof.Machine.execStage a src idx sub val s
  | .commit a src inst tick => Sys2Proof.Machine.execCommit a src inst tick s
  | .abort a src => Sys2Proof.Machine.execAbort a src s
  | .status a src => Sys2Proof.Machine.execStatus a src s
  | .commitCheckEnd a shadowOk => Sys2Proof.Machine.execCommitCheckEnd a shadowOk s
  | .applyInstant a noAck pauseNs => Sys2Proof.Machine.execApplyInstant a noAck pauseNs s
  | .applyFault a => Sys2Proof.Machine.execApplyFault a s
  | .stagingTimeout a => Sys2Proof.Machine.execStagingTimeout a s
  | .parameterPersist a => Sys2Proof.Machine.execParameterPersist a s
  | .openRead a h maint idx sub => Sys2Proof.Machine.execOpenRead a h maint idx sub s
  | .openWrite a h maint idx sub total => Sys2Proof.Machine.execOpenWrite a h maint idx sub total s
  | .data a h maint off len chunk => Sys2Proof.Machine.execData a h maint off len chunk s
  | .close a h maint crc => Sys2Proof.Machine.execClose a h maint crc s
  | .bulkAbort a h => Sys2Proof.Machine.execBulkAbort a h s
  | .bulkTransferTimeout a h => Sys2Proof.Machine.execBulkTransferTimeout a h s
  | .bulkOpenRead a tr maint idx sub => Sys2Proof.Machine.execBulkOpenRead a tr maint idx sub s
  | .bulkOpenWrite a tr maint ctr mac idx sub total => Sys2Proof.Machine.execBulkOpenWrite a tr maint ctr mac idx sub total s
  | .segment a tr ctr mac num chunk => Sys2Proof.Machine.execSegment a tr ctr mac num chunk s
  | .segmentAcknowledge a tr num => Sys2Proof.Machine.execSegmentAcknowledge a tr num s
  | .bulkClose a tr ctr mac crc => Sys2Proof.Machine.execBulkClose a tr ctr mac crc s
  | .canBulkAbort a tr ctr mac => Sys2Proof.Machine.execCanBulkAbort a tr ctr mac s
  | .canFrameIgnored a => Sys2Proof.Machine.execCanFrameIgnored a s
  | .canTransferTimeout a => Sys2Proof.Machine.execCanTransferTimeout a s
  | .heartbeat a => Sys2Proof.Machine.execHeartbeat a s
  | .busOffRecovery a => Sys2Proof.Machine.execBusOffRecovery a s
  | .challengeRead a src => Sys2Proof.Machine.execChallengeRead a src s
  | .response a src v => Sys2Proof.Machine.execResponse a src v s
  | .closeMaintenance a src => Sys2Proof.Machine.execCloseMaintenance a src s
  | .maintenanceIdleTimeout a src => Sys2Proof.Machine.execMaintenanceIdleTimeout a src s
  | .responseLockoutEnd a src => Sys2Proof.Machine.execResponseLockoutEnd a src s
  | .maintenanceKey a src key => Sys2Proof.Machine.execMaintenanceKey a src key s
  | .frameMacKey a src key => Sys2Proof.Machine.execFrameMacKey a src key s
  | .stageDefaults a src => Sys2Proof.Machine.execStageDefaults a src s
  | .add a src => Sys2Proof.Machine.execAdd a src s
  | .releaseRequest a src => Sys2Proof.Machine.execReleaseRequest a src s
  | .forcedRelease a src => Sys2Proof.Machine.execForcedRelease a src s
  | .addResponseTimeout a h => Sys2Proof.Machine.execAddResponseTimeout a h s
  | .regionTeardown a rgn => Sys2Proof.Machine.execRegionTeardown a rgn s
  | .histogramClear a src => Sys2Proof.Machine.execHistogramClear a src s
  | .calibrationImport a src blob => Sys2Proof.Machine.execCalibrationImport a src blob s
  | .keyEncryptionKey a src key => Sys2Proof.Machine.execKeyEncryptionKey a src key s
  | .escrowExport a src => Sys2Proof.Machine.execEscrowExport a src s
  | .escrowImport a src blob => Sys2Proof.Machine.execEscrowImport a src blob s
  | .unlockRegion a src r => Sys2Proof.Machine.execUnlockRegion a src r s
  | .resetRegionCount a src r => Sys2Proof.Machine.execResetRegionCount a src r s
  | .retireDie a src d => Sys2Proof.Machine.execRetireDie a src d s
  | .retireChannel a src c => Sys2Proof.Machine.execRetireChannel a src c s
  | .retrainRequest a src ch => Sys2Proof.Machine.execRetrainRequest a src ch s
  | .powerDownToStandby a src => Sys2Proof.Machine.execPowerDownToStandby a src s
  | .startHealthTest a src => Sys2Proof.Machine.execStartHealthTest a src s
  | .clearCounters a src => Sys2Proof.Machine.execClearCounters a src s
  | .idataRead a h bytes => Sys2Proof.Machine.execIdataRead a h bytes s
  | .idataWrite a h bytes v => Sys2Proof.Machine.execIdataWrite a h bytes v s
  | .indirectAcknowledge a h => Sys2Proof.Machine.execIndirectAcknowledge a h s
  | .indirectTimeout a h tookEffect => Sys2Proof.Machine.execIndirectTimeout a h tookEffect s
  | .registerWrite a h off bytes v => Sys2Proof.Machine.execRegisterWrite a h off bytes v s
  | .gval a h bytes v => Sys2Proof.Machine.execGval a h bytes v s
  | .gcmp a h bytes v => Sys2Proof.Machine.execGcmp a h bytes v s
  | .keyZeroize a => Sys2Proof.Machine.execKeyZeroize a s
  | .calibrationWriteEnableOpen a => Sys2Proof.Machine.execCalibrationWriteEnableOpen a s
  | .calibrationWriteEnableClose a => Sys2Proof.Machine.execCalibrationWriteEnableClose a s
  | .calibrationEnableExpiry a => Sys2Proof.Machine.execCalibrationEnableExpiry a s
  | .feltFormat a => Sys2Proof.Machine.execFeltFormat a s
  | .safeStopRelease a => Sys2Proof.Machine.execSafeStopRelease a s
  | .forcedPowerCutInput a => Sys2Proof.Machine.execForcedPowerCutInput a s
  | .forcedPowerCutRail a => Sys2Proof.Machine.execForcedPowerCutRail a s
  | .forcedClockSwitchIrc a => Sys2Proof.Machine.execForcedClockSwitchIrc a s
  | .forcedClockSwitchRefclk a => Sys2Proof.Machine.execForcedClockSwitchRefclk a s
  | .voteCorrection a f copy v => Sys2Proof.Machine.execVoteCorrection a f copy v s
  | .voteThreeWayDisagreement a f v1 v2 => Sys2Proof.Machine.execVoteThreeWayDisagreement a f v1 v2 s
  | .parityMismatch a d off => Sys2Proof.Machine.execParityMismatch a d off s
  | .consume a h v => Sys2Proof.Machine.execConsume a h v s
  | .drop a h => Sys2Proof.Machine.execDrop a h s
  | .telemetryWindowAccess a h tag off isWrite => Sys2Proof.Machine.execTelemetryWindowAccess a h tag off isWrite s
  | .telemetryDump a => Sys2Proof.Machine.execTelemetryDump a s
  | .queueBankSwap a => Sys2Proof.Machine.execQueueBankSwap a s
  | .linenReport a code cls unit dpa hpa data => Sys2Proof.Machine.execLinenReport a code cls unit dpa hpa data s
  | .stormWindowClose a code cls unit => Sys2Proof.Machine.execStormWindowClose a code cls unit s
  | .tokenGain a => Sys2Proof.Machine.execTokenGain a s
  | .ringWrite a => Sys2Proof.Machine.execRingWrite a s
  | .feltMarginPass a weakWords => Sys2Proof.Machine.execFeltMarginPass a weakWords s
  | .counterRecordWrite a => Sys2Proof.Machine.execCounterRecordWrite a s
  | .operatingTimeTick a => Sys2Proof.Machine.execOperatingTimeTick a s
  | .hotEpochEnd a => Sys2Proof.Machine.execHotEpochEnd a s
  | .demotionCommit a li => Sys2Proof.Machine.execDemotionCommit a li s
  | .promotionWayTimeout a li => Sys2Proof.Machine.execPromotionWayTimeout a li s
  | .journalRecordIssue a failed => Sys2Proof.Machine.execJournalRecordIssue a failed s
  | .garbageCollection a cls => Sys2Proof.Machine.execGarbageCollection a cls s
  | .wearIncrement a slot => Sys2Proof.Machine.execWearIncrement a slot s
  | .trackerFold a slot => Sys2Proof.Machine.execTrackerFold a slot s
  | .rotationPassEnd a r => Sys2Proof.Machine.execRotationPassEnd a r s
  | .migrationStart a r => Sys2Proof.Machine.execMigrationStart a r s
  | .migrationEnd a r => Sys2Proof.Machine.execMigrationEnd a r s
  | .coldSwapCheck a => Sys2Proof.Machine.execColdSwapCheck a s
  | .refreshRegion a => Sys2Proof.Machine.execRefreshRegion a s
  | .refreshBacklog a r => Sys2Proof.Machine.execRefreshBacklog a r s
  | .checkpointStart a trigger => Sys2Proof.Machine.execCheckpointStart a trigger s
  | .checkpointCommit a failed => Sys2Proof.Machine.execCheckpointCommit a failed s
  | .resync a r => Sys2Proof.Machine.execResync a r s
  | .weakLineRewrite a => Sys2Proof.Machine.execWeakLineRewrite a s
  | .terryStripeRead a cls => Sys2Proof.Machine.execTerryStripeRead a cls s
  | .sramScrub a bank word how e => Sys2Proof.Machine.execSramScrub a bank word how e s
  | .scrubStarved a lap => Sys2Proof.Machine.execScrubStarved a lap s
  | .cellEvaluation a d b n j => Sys2Proof.Machine.execCellEvaluation a d b n j s
  | .cellStale a d b n j => Sys2Proof.Machine.execCellStale a d b n j s
  | .probeBatch a d b n j => Sys2Proof.Machine.execProbeBatch a d b n j s
  | .weakRegionOffer a area => Sys2Proof.Machine.execWeakRegionOffer a area s
  | .trendFit a d => Sys2Proof.Machine.execTrendFit a d s
  | .marginEvaluation a => Sys2Proof.Machine.execMarginEvaluation a s
  | .gauzeSnapshot a failed => Sys2Proof.Machine.execGauzeSnapshot a failed s
  | .tagWriteback a => Sys2Proof.Machine.execTagWriteback a s
  | .rekeyPass a r => Sys2Proof.Machine.execRekeyPass a r s
  | .alertService a ch reports => Sys2Proof.Machine.execAlertService a ch reports s
  | .channelTraining a obs => Sys2Proof.Machine.execChannelTraining a obs s
  | .channelRetrain a ch => Sys2Proof.Machine.execChannelRetrain a ch s
  | .zqcShortPeriod a ch => Sys2Proof.Machine.execZqcShortPeriod a ch s
  | .writeDeskewCheck a ch die moved => Sys2Proof.Machine.execWriteDeskewCheck a ch die moved s
  | .rd a ch die part line o2 o1 o0 => Sys2Proof.Machine.execRd a ch die part line o2 o1 o0 s
  | .mrd a ch die part line o2 o1 o0 => Sys2Proof.Machine.execMrd a ch die part line o2 o1 o0 s
  | .rrs a ch die part => Sys2Proof.Machine.execRrs a ch die part s
  | .pgm a ch die part line content accepted => Sys2Proof.Machine.execPgm a ch die part line content accepted s
  | .ovw a ch die part line content accepted => Sys2Proof.Machine.execOvw a ch die part line content accepted s
  | .trs a ch die part tile count => Sys2Proof.Machine.execTrs a ch die part tile count s
  | .sus a ch die part => Sys2Proof.Machine.execSus a ch die part s
  | .rsm a ch die part => Sys2Proof.Machine.execRsm a ch die part s
  | .str a ch die => Sys2Proof.Machine.execStr a ch die s
  | .alc a ch cs mask => Sys2Proof.Machine.execAlc a ch cs mask s
  | .mrw a ch cs addr v => Sys2Proof.Machine.execMrw a ch cs addr v s
  | .mrr a ch die addr => Sys2Proof.Machine.execMrr a ch die addr s
  | .idr a ch die => Sys2Proof.Machine.execIdr a ch die s
  | .zqc a ch cs long => Sys2Proof.Machine.execZqc a ch cs long s
  | .trn a ch die buffer seed => Sys2Proof.Machine.execTrn a ch die buffer seed s
  | .tbw a ch die content => Sys2Proof.Machine.execTbw a ch die content s
  | .sby a ch cs => Sys2Proof.Machine.execSby a ch cs s
  | .wak a ch cs => Sys2Proof.Machine.execWak a ch cs s
  | .rst a ch cs => Sys2Proof.Machine.execRst a ch cs s
  | .rebuildPosition a => Sys2Proof.Machine.execRebuildPosition a s
  | .replacementCopyBack a pos => Sys2Proof.Machine.execReplacementCopyBack a pos s
  | .engineHeartbeatMiss a e => Sys2Proof.Machine.execEngineHeartbeatMiss a e s
  | .takeoverComplete a e => Sys2Proof.Machine.execTakeoverComplete a e s
  | .lockstepMismatch a pair => Sys2Proof.Machine.execLockstepMismatch a pair s
  | .bankFailoverComplete a => Sys2Proof.Machine.execBankFailoverComplete a s
  | .headFailure a h => Sys2Proof.Machine.execHeadFailure a h s
  | .selfTest a failed => Sys2Proof.Machine.execSelfTest a failed s
  | .safeStopEntry a => Sys2Proof.Machine.execSafeStopEntry a s
  | .residentRailsGood a straps pfailHigh testEn => Sys2Proof.Machine.execResidentRailsGood a straps pfailHigh testEn s
  | .residentRailFall a => Sys2Proof.Machine.execResidentRailFall a s
  | .pfailNRise a => Sys2Proof.Machine.execPfailNRise a s
  | .inputPowerLoss a => Sys2Proof.Machine.execInputPowerLoss a s
  | .flushEnd a errs => Sys2Proof.Machine.execFlushEnd a errs s
  | .slotStepStart a slot => Sys2Proof.Machine.execSlotStepStart a slot s
  | .pseqPgChange a slot level mv => Sys2Proof.Machine.execPseqPgChange a slot level mv s
  | .slotQualified a slot => Sys2Proof.Machine.execSlotQualified a slot s
  | .slotQualifyTimeout a slot => Sys2Proof.Machine.execSlotQualifyTimeout a slot s
  | .slotFallen a slot mv => Sys2Proof.Machine.execSlotFallen a slot mv s
  | .slotFallTimeout a slot => Sys2Proof.Machine.execSlotFallTimeout a slot s
  | .railFault a slot kind mv => Sys2Proof.Machine.execRailFault a slot kind mv s
  | .huSenseSample a code => Sys2Proof.Machine.execHuSenseSample a code s
  | .holdupReport a => Sys2Proof.Machine.execHoldupReport a s
  | .writeBackReturn a => Sys2Proof.Machine.execWriteBackReturn a s
  | .healthTest a => Sys2Proof.Machine.execHealthTest a s
  | .healthTestEnd a stepUv totalUv => Sys2Proof.Machine.execHealthTestEnd a stepUv totalUv s
  | .boot a badBanks felt => Sys2Proof.Machine.execBoot a badBanks felt s
  | .bindingCheck a obs => Sys2Proof.Machine.execBindingCheck a obs s
  | .mapRebuild a timeUs => Sys2Proof.Machine.execMapRebuild a timeUs s
  | .memoryActive a => Sys2Proof.Machine.execMemoryActive a s
  | .holdupReportTimeout a => Sys2Proof.Machine.execHoldupReportTimeout a s
  | .lightSleepEntry a => Sys2Proof.Machine.execLightSleepEntry a s
  | .deepSleepEntry a => Sys2Proof.Machine.execDeepSleepEntry a s
  | .idleEnd a => Sys2Proof.Machine.execIdleEnd a s
  | .refMonitorWindow a edges => Sys2Proof.Machine.execRefMonitorWindow a edges s
  | .refclkLost a stopped => Sys2Proof.Machine.execRefclkLost a stopped s
  | .refclkGood a => Sys2Proof.Machine.execRefclkGood a s
  | .pllJudgeWindow a pll count cref => Sys2Proof.Machine.execPllJudgeWindow a pll count cref s
  | .ircTrimUpdate a => Sys2Proof.Machine.execIrcTrimUpdate a s
  | .thermalSample a raw => Sys2Proof.Machine.execThermalSample a raw s
  | .throttleEntry a => Sys2Proof.Machine.execThrottleEntry a s
  | .throttleStep a => Sys2Proof.Machine.execThrottleStep a s
  | .devloadWindow a h => Sys2Proof.Machine.execDevloadWindow a h s
  | .perstAssert a h kind => Sys2Proof.Machine.execPerstAssert a h kind s
  | .perstDeassert a h => Sys2Proof.Machine.execPerstDeassert a h s
  | .functionLevelReset a h => Sys2Proof.Machine.execFunctionLevelReset a h s
  | .linkDown a h => Sys2Proof.Machine.execLinkDown a h s
  | .linkUp a h rate width flit => Sys2Proof.Machine.execLinkUp a h rate width flit s
  | .l1Entry a h => Sys2Proof.Machine.execL1Entry a h s
  | .l1Exit a h => Sys2Proof.Machine.execL1Exit a h s
  | .getVersion a h => Sys2Proof.Machine.execGetVersion a h s
  | .getCapabilities a h => Sys2Proof.Machine.execGetCapabilities a h s
  | .negotiateAlgorithms a h offered => Sys2Proof.Machine.execNegotiateAlgorithms a h offered s
  | .getDigests a h => Sys2Proof.Machine.execGetDigests a h s
  | .getCertificate a h slot => Sys2Proof.Machine.execGetCertificate a h slot s
  | .challenge a h slot nonce => Sys2Proof.Machine.execChallenge a h slot nonce s
  | .getMeasurements a h index nonce => Sys2Proof.Machine.execGetMeasurements a h index nonce s
  | .keyExchange a h exchange => Sys2Proof.Machine.execKeyExchange a h exchange s
  | .finish a h verify => Sys2Proof.Machine.execFinish a h verify s
  | .keyUpdate a h => Sys2Proof.Machine.execKeyUpdate a h s
  | .spdmHeartbeat a h => Sys2Proof.Machine.execSpdmHeartbeat a h s
  | .endSession a h => Sys2Proof.Machine.execEndSession a h s
  | .ideKeyManagement a h pcie key skid => Sys2Proof.Machine.execIdeKeyManagement a h pcie key skid s
  | .ideFailure a h pcie => Sys2Proof.Machine.execIdeFailure a h pcie s
  | .cdatRead a h => Sys2Proof.Machine.execCdatRead a h s
  | .channelRetrainEnd a ch ok timeUs => Sys2Proof.Machine.execChannelRetrainEnd a ch ok timeUs s
  | .returnRampEnd a => Sys2Proof.Machine.execReturnRampEnd a s
  | .redistributionComplete a => Sys2Proof.Machine.execRedistributionComplete a s
  | .addCapacityOffer a => Sys2Proof.Machine.execAddCapacityOffer a s
  | .testEnRise a => Sys2Proof.Machine.execTestEnRise a s
  | .tapInstruction a k => Sys2Proof.Machine.execTapInstruction a k s
  | .canBusJoin a => Sys2Proof.Machine.execCanBusJoin a s
  | .cxlComplianceRequest a h => Sys2Proof.Machine.execCxlComplianceRequest a h s
  | .componentRegisterWrite a h w => Sys2Proof.Machine.execComponentRegisterWrite a h w s
  | .configurationRequest a h r => Sys2Proof.Machine.execConfigurationRequest a h r s

end Sys2Proof.Machine
end

