-- ==== Sys2Proof/Safety.lean ====
section
/-! DEFINITION. What counts as a safe run, and the terms in which the statements say what a command leaves as it was: the parts of the block, and for each command the parts that it may change. -/

namespace Sys2Proof.Safety

open Sys2Proof.Machine

/-- `step` neither faults nor refuses at a state. -/
def Completes (s : State) : Prop := ∃ t, step s = .next t

/-- A dictionary request is admitted: what it does goes on from block `c` (R270, R286, R287). -/
def Requests (b : Blk) (src : Src) (q : DReq) (c : Blk) : Prop := ∀ f, b.admitReq src q f = f c

/-- A direct write is admitted and its checks pass: its action runs on block `c` (R270, R286, R287). -/
def WriteRuns (b : Blk) (src : Src) (idx sub : Nat) (val : List Byte) (c : Blk) : Prop := ∀ act, b.writeReq src idx sub val act = act (leNat val) c

/-- A CAN FD bulk open is admitted, going on from block `c` (R284 to R287). -/
def FrameAdmitted (b : Blk) (trans : BitVec 8) (maint : Bool) (ctr : BitVec 32) (mac : BitVec 64) (q : DReq) (c : Blk) : Prop :=
  ∀ f, b.canAdmit trans maint ctr mac q f = f c

/-- A CAN FD frame passes the MAC check, where one is asked for, leaving block `c` (R287). -/
def Authentic (b : Blk) (ctr : BitVec 32) (mac : BitVec 64) (op : Nat) (bytes : List Byte) (c : Blk) : Prop := ∀ f, b.withMac ctr mac op bytes f = f c

/-- An object's transfer is admitted and its checks pass: the object is applied to block `c` and the Close is answered with what that gives (R270, R284). -/
def OpensWrite (b : Blk) (src : Src) (idx sub : Nat) (bytes : List Byte) (c : Blk) : Prop :=
  ∀ f, b.objectReq src idx sub bytes f = (f c).1.bulkAnswer src 11 idx sub (f c).2

/-- `Steps n s t`: n steps lead from state s to state t. -/
inductive Steps : Nat → State → State → Prop where
  | zero (s : State) : Steps 0 s s
  | more {n : Nat} {s t u : State} (h : step s = .next t) (r : Steps n t u) : Steps (n + 1) s u

/-! ### Invariants of the block -/

/-- The stored lines stand in their canonical form: locations strictly rising, so that equal media are equal data. -/
def MediaForm (b : Blk) : Prop := b.media.lines.rising = true

/-- FAULT_N is low exactly while the condition of M11 holds or a clock domain runs from its fallback source after a failure (R403). -/
def FaultPinRight (b : Blk) : Prop := b.modes.faultN = !(b.modes.cond.getLsbD 11 || b.clocks.failed)

/-- An event log holds at most 512 records (R226). -/
def LogFits (l : EvLogSt) : Prop := l.recs.length ≤ 512

/-- A head's buffers fit: 1,024 requests at ingress (R211), 256 hints (R152), its five event logs (R226). -/
def HeadFits (x : HeadSt) : Prop :=
  x.ingress.length ≤ 1024 ∧ x.hints.length ≤ 256 ∧ LogFits x.logInfo ∧ LogFits x.logWarn ∧ LogFits x.logFail ∧ LogFits x.logFatal ∧ LogFits x.logDc

/-- Linen's stores fit: 1,024 records in staging, 32 that wait for the ring (R367), 64 write tokens (R366). -/
def LinenFits (l : Linen) : Prop := l.staging.length ≤ 1024 ∧ l.waiting.length ≤ 32 ∧ l.tokens ≤ 64

/-- Every queue holds no more than the spec gives it places: both heads' buffers, Linen's stores, 64 CAN FD notifications (R288), 512 records of Canvas's log (R339). -/
structure QueuesFit (b : Blk) : Prop where
  hA : HeadFits b.hA
  hB : HeadFits b.hB
  linen : LinenFits b.linen
  can : b.can.notes.length ≤ 64
  felt : b.felt.canvasLog.length ≤ 512

/-! ### What a command may change -/


/-- A part of the block: one field of `Blk`, and of the media apart the stored lines and the poison list. -/
inductive Part where
  | now
  | opTime
  | nvwp
  | rng
  | free
  | out
  | od
  | odOld
  | direct
  | regs
  | due
  | dueB
  | hA
  | hB
  | sesA
  | sesB
  | sesC
  | muslin
  | can
  | dev
  | path
  | lines
  | poison
  | media
  | velvet
  | twill
  | gauze
  | damask
  | linen
  | felt
  | tweed
  | canvas
  | clocks
  | thermal
  | modes
  | safety
  | tap
  deriving DecidableEq, Repr

/-- A part is the same in two blocks. -/
def same (b c : Blk) : Part → Prop
  | .now => c.now = b.now
  | .opTime => c.opTime = b.opTime
  | .nvwp => c.nvwp = b.nvwp
  | .rng => c.rng = b.rng
  | .free => c.free = b.free
  | .out => c.out = b.out
  | .od => c.od = b.od
  | .odOld => c.odOld = b.odOld
  | .direct => c.direct = b.direct
  | .regs => c.regs = b.regs
  | .due => c.due = b.due
  | .dueB => c.dueB = b.dueB
  | .hA => c.hA = b.hA
  | .hB => c.hB = b.hB
  | .sesA => c.sesA = b.sesA
  | .sesB => c.sesB = b.sesB
  | .sesC => c.sesC = b.sesC
  | .muslin => c.muslin = b.muslin
  | .can => c.can = b.can
  | .dev => c.dev = b.dev
  | .path => c.path = b.path
  | .lines => c.media.lines = b.media.lines
  | .poison => c.media.poison = b.media.poison
  | .media => { c.media with lines := [], poison := [] } = { b.media with lines := [], poison := [] }
  | .velvet => c.velvet = b.velvet
  | .twill => c.twill = b.twill
  | .gauze => c.gauze = b.gauze
  | .damask => c.damask = b.damask
  | .linen => c.linen = b.linen
  | .felt => c.felt = b.felt
  | .tweed => c.tweed = b.tweed
  | .canvas => c.canvas = b.canvas
  | .clocks => c.clocks = b.clocks
  | .thermal => c.thermal = b.thermal
  | .modes => c.modes = b.modes
  | .safety => c.safety = b.safety
  | .tap => c.tap = b.tap

/-- Nothing but the listed parts differs between two blocks. -/
structure Only (l : List Part) (b c : Blk) : Prop where
  same : ∀ p, p ∉ l → same b c p

/-- The stamp that a command carries. -/
def stampOf : Instr → Stamp
  | .memRd a _ _ _ => a
  | .memRdData a _ _ _ => a
  | .memSpecRd a _ _ _ => a
  | .memWr a _ _ _ _ _ => a
  | .memWrPtl a _ _ _ _ _ _ => a
  | .unsupportedRequest a _ _ _ _ => a
  | .acceptance a _ _ _ => a
  | .readIssue a _ _ _ => a
  | .programResume a _ _ _ => a
  | .readTransfer a _ _ _ _ => a
  | .reconstructionComplete a _ _ _ => a
  | .fillReturn a _ => a
  | .deadlineExpiry a _ => a
  | .deepRecoveryTimeout a _ => a
  | .deepRecoverySuccess a _ _ _ => a
  | .programGuard a _ _ _ => a
  | .resetGuard a _ _ _ => a
  | .coldPathWrite a _ _ => a
  | .hotAppend a _ _ _ => a
  | .programComplete a _ _ _ _ => a
  | .tileResetStart a _ _ _ => a
  | .tileResetComplete a _ _ _ _ => a
  | .writeThroughWrite a _ _ _ => a
  | .dirtyCleaning a => a
  | .rangeClean a _ => a
  | .rangeInvalidate a _ => a
  | .rangeCleanAndInvalidate a _ => a
  | .rangeOperationEnd a => a
  | .lineCleanByAddress a _ _ => a
  | .lineInvalidateByAddress a _ _ => a
  | .lineCleanInvalidateByAddress a _ _ => a
  | .lineCleanBySetAndWay a _ _ _ => a
  | .lineInvalidateBySetAndWay a _ _ _ => a
  | .lineCleanInvalidateBySetAndWay a _ _ _ => a
  | .hint a _ _ => a
  | .hintCancel a _ _ => a
  | .prefetchRead a _ => a
  | .startBarrier a _ => a
  | .barrierCompletion a => a
  | .gpfPhase1 a _ => a
  | .gpfPhase2 a _ => a
  | .gpfPhase2Complete a _ => a
  | .identify a _ => a
  | .backgroundOperationStatus a _ => a
  | .getEventRecords a _ _ => a
  | .clearEventRecords a _ _ _ _ => a
  | .getEventInterruptPolicy a _ => a
  | .setEventInterruptPolicy a _ _ => a
  | .getFwInfo a _ => a
  | .transferFw a _ _ _ => a
  | .activateFw a _ _ _ => a
  | .getTimestamp a _ => a
  | .setTimestamp a _ _ => a
  | .getSupportedLogs a _ => a
  | .getLog a _ _ => a
  | .identifyMemoryDevice a _ => a
  | .getHealthInfo a _ => a
  | .getAlertConfiguration a _ => a
  | .setAlertConfiguration a _ _ => a
  | .getShutdownState a _ => a
  | .setShutdownState a _ _ => a
  | .sanitize a _ => a
  | .secureErase a _ => a
  | .eraseComplete a => a
  | .getDynamicCapacityConfiguration a _ => a
  | .getDynamicCapacityExtentList a _ => a
  | .addDynamicCapacityResponse a _ _ => a
  | .releaseDynamicCapacity a _ _ => a
  | .getPoisonList a _ _ _ => a
  | .injectPoison a _ _ => a
  | .clearPoison a _ _ _ => a
  | .getScanMediaCapabilities a _ _ _ => a
  | .scanMedia a _ _ _ => a
  | .getScanMediaResults a _ => a
  | .read a _ _ _ => a
  | .write a _ _ _ _ => a
  | .stage a _ _ _ _ => a
  | .commit a _ _ _ => a
  | .abort a _ => a
  | .status a _ => a
  | .commitCheckEnd a _ => a
  | .applyInstant a _ _ => a
  | .applyFault a => a
  | .stagingTimeout a => a
  | .parameterPersist a => a
  | .openRead a _ _ _ _ => a
  | .openWrite a _ _ _ _ _ => a
  | .data a _ _ _ _ _ => a
  | .close a _ _ _ => a
  | .bulkAbort a _ => a
  | .bulkTransferTimeout a _ => a
  | .bulkOpenRead a _ _ _ _ => a
  | .bulkOpenWrite a _ _ _ _ _ _ _ => a
  | .segment a _ _ _ _ _ => a
  | .segmentAcknowledge a _ _ => a
  | .bulkClose a _ _ _ _ => a
  | .canBulkAbort a _ _ _ => a
  | .canFrameIgnored a => a
  | .canTransferTimeout a => a
  | .heartbeat a => a
  | .busOffRecovery a => a
  | .challengeRead a _ => a
  | .response a _ _ => a
  | .closeMaintenance a _ => a
  | .maintenanceIdleTimeout a _ => a
  | .responseLockoutEnd a _ => a
  | .maintenanceKey a _ _ => a
  | .frameMacKey a _ _ => a
  | .stageDefaults a _ => a
  | .add a _ => a
  | .releaseRequest a _ => a
  | .forcedRelease a _ => a
  | .addResponseTimeout a _ => a
  | .regionTeardown a _ => a
  | .histogramClear a _ => a
  | .calibrationImport a _ _ => a
  | .keyEncryptionKey a _ _ => a
  | .escrowExport a _ => a
  | .escrowImport a _ _ => a
  | .unlockRegion a _ _ => a
  | .resetRegionCount a _ _ => a
  | .retireDie a _ _ => a
  | .retireChannel a _ _ => a
  | .retrainRequest a _ _ => a
  | .powerDownToStandby a _ => a
  | .startHealthTest a _ => a
  | .clearCounters a _ => a
  | .idataRead a _ _ => a
  | .idataWrite a _ _ _ => a
  | .indirectAcknowledge a _ => a
  | .indirectTimeout a _ _ => a
  | .registerWrite a _ _ _ _ => a
  | .gval a _ _ _ => a
  | .gcmp a _ _ _ => a
  | .keyZeroize a => a
  | .calibrationWriteEnableOpen a => a
  | .calibrationWriteEnableClose a => a
  | .calibrationEnableExpiry a => a
  | .feltFormat a => a
  | .safeStopRelease a => a
  | .forcedPowerCutInput a => a
  | .forcedPowerCutRail a => a
  | .forcedClockSwitchIrc a => a
  | .forcedClockSwitchRefclk a => a
  | .voteCorrection a _ _ _ => a
  | .voteThreeWayDisagreement a _ _ _ => a
  | .parityMismatch a _ _ => a
  | .consume a _ _ => a
  | .drop a _ => a
  | .telemetryWindowAccess a _ _ _ _ => a
  | .telemetryDump a => a
  | .queueBankSwap a => a
  | .linenReport a _ _ _ _ _ _ => a
  | .stormWindowClose a _ _ _ => a
  | .tokenGain a => a
  | .ringWrite a => a
  | .feltMarginPass a _ => a
  | .counterRecordWrite a => a
  | .operatingTimeTick a => a
  | .hotEpochEnd a => a
  | .demotionCommit a _ => a
  | .promotionWayTimeout a _ => a
  | .journalRecordIssue a _ => a
  | .garbageCollection a _ => a
  | .wearIncrement a _ => a
  | .trackerFold a _ => a
  | .rotationPassEnd a _ => a
  | .migrationStart a _ => a
  | .migrationEnd a _ => a
  | .coldSwapCheck a => a
  | .refreshRegion a => a
  | .refreshBacklog a _ => a
  | .checkpointStart a _ => a
  | .checkpointCommit a _ => a
  | .resync a _ => a
  | .weakLineRewrite a => a
  | .terryStripeRead a _ => a
  | .sramScrub a _ _ _ _ => a
  | .scrubStarved a _ => a
  | .cellEvaluation a _ _ _ _ => a
  | .cellStale a _ _ _ _ => a
  | .probeBatch a _ _ _ _ => a
  | .weakRegionOffer a _ => a
  | .trendFit a _ => a
  | .marginEvaluation a => a
  | .gauzeSnapshot a _ => a
  | .tagWriteback a => a
  | .rekeyPass a _ => a
  | .alertService a _ _ => a
  | .channelTraining a _ => a
  | .channelRetrain a _ => a
  | .zqcShortPeriod a _ => a
  | .writeDeskewCheck a _ _ _ => a
  | .rd a _ _ _ _ _ _ _ => a
  | .mrd a _ _ _ _ _ _ _ => a
  | .rrs a _ _ _ => a
  | .pgm a _ _ _ _ _ _ => a
  | .ovw a _ _ _ _ _ _ => a
  | .trs a _ _ _ _ _ => a
  | .sus a _ _ _ => a
  | .rsm a _ _ _ => a
  | .str a _ _ => a
  | .alc a _ _ _ => a
  | .mrw a _ _ _ _ => a
  | .mrr a _ _ _ => a
  | .idr a _ _ => a
  | .zqc a _ _ _ => a
  | .trn a _ _ _ _ => a
  | .tbw a _ _ _ => a
  | .sby a _ _ => a
  | .wak a _ _ => a
  | .rst a _ _ => a
  | .rebuildPosition a => a
  | .replacementCopyBack a _ => a
  | .engineHeartbeatMiss a _ => a
  | .takeoverComplete a _ => a
  | .lockstepMismatch a _ => a
  | .bankFailoverComplete a => a
  | .headFailure a _ => a
  | .selfTest a _ => a
  | .safeStopEntry a => a
  | .residentRailsGood a _ _ _ => a
  | .residentRailFall a => a
  | .pfailNRise a => a
  | .inputPowerLoss a => a
  | .flushEnd a _ => a
  | .slotStepStart a _ => a
  | .pseqPgChange a _ _ _ => a
  | .slotQualified a _ => a
  | .slotQualifyTimeout a _ => a
  | .slotFallen a _ _ => a
  | .slotFallTimeout a _ => a
  | .railFault a _ _ _ => a
  | .huSenseSample a _ => a
  | .holdupReport a => a
  | .writeBackReturn a => a
  | .healthTest a => a
  | .healthTestEnd a _ _ => a
  | .boot a _ _ => a
  | .bindingCheck a _ => a
  | .mapRebuild a _ => a
  | .memoryActive a => a
  | .holdupReportTimeout a => a
  | .lightSleepEntry a => a
  | .deepSleepEntry a => a
  | .idleEnd a => a
  | .refMonitorWindow a _ => a
  | .refclkLost a _ => a
  | .refclkGood a => a
  | .pllJudgeWindow a _ _ _ => a
  | .ircTrimUpdate a => a
  | .thermalSample a _ => a
  | .throttleEntry a => a
  | .throttleStep a => a
  | .devloadWindow a _ => a
  | .perstAssert a _ _ => a
  | .perstDeassert a _ => a
  | .functionLevelReset a _ => a
  | .linkDown a _ => a
  | .linkUp a _ _ _ _ => a
  | .l1Entry a _ => a
  | .l1Exit a _ => a
  | .getVersion a _ => a
  | .getCapabilities a _ => a
  | .negotiateAlgorithms a _ _ => a
  | .getDigests a _ => a
  | .getCertificate a _ _ => a
  | .challenge a _ _ _ => a
  | .getMeasurements a _ _ _ => a
  | .keyExchange a _ _ => a
  | .finish a _ _ => a
  | .keyUpdate a _ => a
  | .spdmHeartbeat a _ => a
  | .endSession a _ => a
  | .ideKeyManagement a _ _ _ _ => a
  | .ideFailure a _ _ => a
  | .cdatRead a _ => a
  | .channelRetrainEnd a _ _ _ => a
  | .returnRampEnd a => a
  | .redistributionComplete a => a
  | .addCapacityOffer a => a
  | .testEnRise a => a
  | .tapInstruction a _ => a
  | .canBusJoin a => a
  | .cxlComplianceRequest a _ => a
  | .componentRegisterWrite a _ _ => a
  | .configurationRequest a _ _ => a

/-- The parts of the block that a command may change, beside its time and the level of NVWP_N: every part that is not listed is as it was. -/
def touches : Instr → List Part
  | .memRd .. => [.out, .od, .hA, .hB, .can, .path, .linen, .tweed]
  | .memRdData .. => [.out, .od, .hA, .hB, .can, .path, .linen, .tweed]
  | .memSpecRd .. => []
  | .memWr .. => [.out, .od, .hA, .hB, .can, .path, .linen, .tweed]
  | .memWrPtl .. => [.out, .od, .hA, .hB, .can, .path, .linen, .tweed]
  | .unsupportedRequest .. => [.out, .od, .hA, .hB, .can, .linen, .tweed]
  | .acceptance .. => [.free, .out, .od, .hA, .hB, .can, .path, .lines, .poison, .media, .velvet, .twill, .damask, .linen, .tweed, .modes, .safety]
  | .readIssue .. => [.free, .out, .od, .regs, .hA, .hB, .muslin, .can, .dev, .path, .lines, .poison, .media, .velvet, .twill, .gauze, .damask, .linen, .tweed, .modes, .safety]
  | .programResume .. => [.out, .media]
  | .readTransfer .. => [.free, .out, .od, .regs, .hA, .hB, .muslin, .can, .dev, .path, .lines, .poison, .media, .velvet, .twill, .gauze, .damask, .linen, .tweed, .thermal, .modes, .safety]
  | .reconstructionComplete .. => [.free, .out, .od, .regs, .hA, .hB, .muslin, .can, .dev, .path, .lines, .poison, .media, .velvet, .twill, .gauze, .damask, .linen, .tweed, .modes, .safety]
  | .fillReturn .. => [.free, .out, .od, .hA, .hB, .can, .path, .lines, .media, .velvet, .twill, .damask, .linen, .tweed, .modes, .safety]
  | .deadlineExpiry .. => [.free, .out, .od, .hA, .hB, .can, .path, .poison, .media, .linen, .tweed, .modes]
  | .deepRecoveryTimeout .. => [.free, .out, .od, .regs, .hA, .hB, .muslin, .can, .dev, .path, .lines, .poison, .media, .velvet, .twill, .gauze, .damask, .linen, .tweed, .modes, .safety]
  | .deepRecoverySuccess .. => [.free, .out, .od, .regs, .hA, .hB, .muslin, .can, .dev, .path, .lines, .poison, .media, .velvet, .twill, .gauze, .damask, .linen, .tweed, .modes, .safety]
  | .programGuard .. => [.free, .out, .od, .hA, .hB, .can, .media, .twill, .linen, .tweed]
  | .resetGuard .. => [.media]
  | .coldPathWrite .. => [.free, .out, .od, .regs, .hA, .hB, .muslin, .can, .dev, .path, .lines, .poison, .media, .velvet, .twill, .gauze, .damask, .linen, .tweed, .modes, .safety]
  | .hotAppend .. => [.free, .out, .od, .regs, .hA, .hB, .muslin, .can, .dev, .path, .lines, .poison, .media, .velvet, .twill, .gauze, .damask, .linen, .tweed, .modes, .safety]
  | .programComplete .. => [.free, .out, .od, .regs, .hA, .hB, .muslin, .can, .dev, .path, .lines, .poison, .media, .velvet, .twill, .gauze, .damask, .linen, .tweed, .modes, .safety]
  | .tileResetStart .. => [.free, .out, .media, .tweed]
  | .tileResetComplete .. => [.free, .out, .od, .regs, .hA, .hB, .muslin, .can, .dev, .path, .lines, .poison, .media, .velvet, .twill, .gauze, .damask, .linen, .tweed, .modes, .safety]
  | .writeThroughWrite .. => [.free, .out, .od, .hA, .hB, .can, .path, .poison, .media, .twill, .linen, .tweed, .modes, .safety]
  | .dirtyCleaning .. => [.velvet]
  | .rangeClean .. => [.rng, .free, .out, .od, .hA, .hB, .sesA, .sesB, .sesC, .can, .velvet, .linen, .tweed]
  | .rangeInvalidate .. => [.rng, .free, .out, .od, .hA, .hB, .sesA, .sesB, .sesC, .can, .velvet, .linen, .tweed]
  | .rangeCleanAndInvalidate .. => [.rng, .free, .out, .od, .hA, .hB, .sesA, .sesB, .sesC, .can, .velvet, .linen, .tweed]
  | .rangeOperationEnd .. => [.out, .od, .can, .velvet]
  | .lineCleanByAddress .. => [.rng, .free, .out, .od, .hA, .hB, .sesA, .sesB, .sesC, .can, .velvet, .linen, .tweed]
  | .lineInvalidateByAddress .. => [.rng, .free, .out, .od, .hA, .hB, .sesA, .sesB, .sesC, .can, .velvet, .linen, .tweed]
  | .lineCleanInvalidateByAddress .. => [.rng, .free, .out, .od, .hA, .hB, .sesA, .sesB, .sesC, .can, .velvet, .linen, .tweed]
  | .lineCleanBySetAndWay .. => [.rng, .free, .out, .od, .hA, .hB, .sesA, .sesB, .sesC, .can, .velvet, .linen, .tweed]
  | .lineInvalidateBySetAndWay .. => [.rng, .free, .out, .od, .hA, .hB, .sesA, .sesB, .sesC, .can, .velvet, .linen, .tweed]
  | .lineCleanInvalidateBySetAndWay .. => [.rng, .free, .out, .od, .hA, .hB, .sesA, .sesB, .sesC, .can, .velvet, .linen, .tweed]
  | .hint .. => [.od, .hA, .hB, .tweed]
  | .hintCancel .. => [.od, .hA, .hB, .tweed]
  | .prefetchRead .. => [.free, .out, .od, .hA, .hB, .can, .path, .lines, .media, .velvet, .twill, .damask, .linen, .tweed, .modes, .safety]
  | .startBarrier .. => [.rng, .free, .out, .od, .hA, .hB, .sesA, .sesB, .sesC, .can, .path, .velvet, .linen, .tweed]
  | .barrierCompletion .. => [.out, .od, .hA, .hB, .can, .path, .linen]
  | .gpfPhase1 .. => [.out]
  | .gpfPhase2 .. => [.hA, .hB]
  | .gpfPhase2Complete .. => [.out, .hA, .hB]
  | .identify .. => [.out]
  | .backgroundOperationStatus .. => [.out]
  | .getEventRecords .. => [.out]
  | .clearEventRecords .. => [.out, .hA, .hB]
  | .getEventInterruptPolicy .. => [.out]
  | .setEventInterruptPolicy .. => [.out, .hA, .hB]
  | .getFwInfo .. => [.out]
  | .transferFw .. => [.out, .hA, .hB, .felt]
  | .activateFw .. => [.out, .felt]
  | .getTimestamp .. => [.out]
  | .setTimestamp .. => [.out, .dev]
  | .getSupportedLogs .. => [.out]
  | .getLog .. => [.out]
  | .identifyMemoryDevice .. => [.out]
  | .getHealthInfo .. => [.out]
  | .getAlertConfiguration .. => [.out]
  | .setAlertConfiguration .. => [.out, .dev]
  | .getShutdownState .. => [.out]
  | .setShutdownState .. => [.out, .felt]
  | .sanitize .. => [.rng, .out, .od, .hA, .hB, .can, .dev, .path, .lines, .media, .velvet, .twill, .damask, .linen, .felt, .tweed]
  | .secureErase .. => [.rng, .out, .od, .hA, .hB, .can, .dev, .path, .lines, .media, .velvet, .twill, .damask, .linen, .felt, .tweed]
  | .eraseComplete .. => [.free, .out, .od, .hA, .hB, .muslin, .can, .dev, .path, .lines, .poison, .media, .twill, .gauze, .damask, .linen, .tweed, .modes]
  | .getDynamicCapacityConfiguration .. => [.out]
  | .getDynamicCapacityExtentList .. => [.out]
  | .addDynamicCapacityResponse .. => [.out, .od, .hA, .hB, .can, .dev, .linen]
  | .releaseDynamicCapacity .. => [.out, .od, .hA, .hB, .can, .dev, .path, .linen, .tweed]
  | .getPoisonList .. => [.out, .hA, .hB]
  | .injectPoison .. => [.free, .out, .od, .hA, .hB, .can, .path, .lines, .poison, .media, .velvet, .twill, .damask, .linen, .tweed, .modes, .safety]
  | .clearPoison .. => [.out, .od, .hA, .hB, .path, .tweed]
  | .getScanMediaCapabilities .. => [.free, .out]
  | .scanMedia .. => [.out, .dev, .media]
  | .getScanMediaResults .. => [.out]
  | .read .. => [.rng, .free, .out, .od, .hA, .hB, .sesA, .sesB, .sesC, .can, .linen, .tweed]
  | .write .. => [.rng, .free, .out, .od, .odOld, .direct, .regs, .due, .dueB, .hA, .hB, .sesA, .sesB, .sesC, .muslin, .can, .dev, .path, .lines, .poison, .media, .velvet, .twill, .gauze, .damask, .linen, .felt, .tweed, .canvas, .clocks, .thermal, .modes, .safety]
  | .stage .. => [.rng, .free, .out, .od, .hA, .hB, .sesA, .sesB, .sesC, .muslin, .can, .linen, .tweed]
  | .commit .. => [.rng, .free, .out, .od, .hA, .hB, .sesA, .sesB, .sesC, .muslin, .can, .linen, .tweed]
  | .abort .. => [.rng, .free, .out, .od, .hA, .hB, .sesA, .sesB, .sesC, .muslin, .can, .linen, .tweed]
  | .status .. => [.rng, .free, .out, .od, .hA, .hB, .sesA, .sesB, .sesC, .can, .linen, .tweed]
  | .commitCheckEnd .. => [.out, .od, .muslin, .can]
  | .applyInstant .. => [.free, .out, .od, .odOld, .direct, .hA, .hB, .muslin, .can, .dev, .path, .lines, .poison, .media, .velvet, .twill, .gauze, .damask, .linen, .felt, .tweed, .modes, .safety]
  | .applyFault .. => [.free, .out, .od, .hA, .hB, .muslin, .can, .path, .linen, .tweed, .modes, .safety]
  | .stagingTimeout .. => [.out, .od, .muslin, .can]
  | .parameterPersist .. => [.free, .out, .od, .hA, .hB, .muslin, .can, .gauze, .linen, .felt, .tweed]
  | .openRead .. => [.out, .hA, .hB, .sesA, .sesB, .sesC, .can, .damask]
  | .openWrite .. => [.out, .od, .hA, .hB, .sesA, .sesB, .sesC, .can]
  | .data .. => [.out, .hA, .hB, .sesA, .sesB, .sesC, .can]
  | .close .. => [.rng, .free, .out, .od, .hA, .hB, .sesA, .sesB, .sesC, .muslin, .can, .lines, .twill, .gauze, .damask, .linen, .felt, .tweed, .modes]
  | .bulkAbort .. => [.out, .hA, .hB, .can, .damask]
  | .bulkTransferTimeout .. => [.hA, .hB, .damask]
  | .bulkOpenRead .. => [.rng, .out, .od, .hA, .hB, .sesA, .sesB, .sesC, .can, .linen]
  | .bulkOpenWrite .. => [.rng, .out, .od, .hA, .hB, .sesA, .sesB, .sesC, .can, .linen]
  | .segment .. => [.rng, .out, .od, .hA, .hB, .sesA, .sesB, .sesC, .can, .linen]
  | .segmentAcknowledge .. => [.out, .can]
  | .bulkClose .. => [.rng, .free, .out, .od, .hA, .hB, .muslin, .can, .lines, .twill, .gauze, .damask, .linen, .felt, .tweed, .modes]
  | .canBulkAbort .. => [.rng, .out, .od, .hA, .hB, .can, .linen]
  | .canFrameIgnored .. => [.od]
  | .canTransferTimeout .. => [.can]
  | .heartbeat .. => [.out]
  | .busOffRecovery .. => [.out, .od, .hA, .hB, .can, .linen]
  | .challengeRead .. => [.rng, .free, .out, .od, .hA, .hB, .sesA, .sesB, .sesC, .can, .linen, .tweed]
  | .response .. => [.rng, .free, .out, .od, .hA, .hB, .sesA, .sesB, .sesC, .can, .linen, .tweed]
  | .closeMaintenance .. => [.rng, .free, .out, .od, .hA, .hB, .sesA, .sesB, .sesC, .can, .linen, .tweed]
  | .maintenanceIdleTimeout .. => [.sesA, .sesB, .sesC]
  | .responseLockoutEnd .. => [.sesA, .sesB, .sesC]
  | .maintenanceKey .. => [.rng, .free, .out, .od, .hA, .hB, .sesA, .sesB, .sesC, .can, .linen, .felt, .tweed]
  | .frameMacKey .. => [.rng, .free, .out, .od, .hA, .hB, .sesA, .sesB, .sesC, .can, .linen, .felt, .tweed]
  | .stageDefaults .. => [.rng, .free, .out, .od, .hA, .hB, .sesA, .sesB, .sesC, .muslin, .can, .linen, .tweed]
  | .add .. => [.rng, .free, .out, .od, .hA, .hB, .sesA, .sesB, .sesC, .can, .dev, .twill, .linen, .tweed]
  | .releaseRequest .. => [.rng, .free, .out, .od, .hA, .hB, .sesA, .sesB, .sesC, .can, .linen, .tweed]
  | .forcedRelease .. => [.rng, .free, .out, .od, .hA, .hB, .sesA, .sesB, .sesC, .can, .dev, .path, .linen, .tweed]
  | .addResponseTimeout .. => [.hA, .hB, .dev]
  | .regionTeardown .. => [.free, .out, .od, .regs, .hA, .hB, .muslin, .can, .dev, .path, .lines, .poison, .media, .velvet, .twill, .gauze, .damask, .linen, .tweed, .modes, .safety]
  | .histogramClear .. => [.rng, .free, .out, .od, .hA, .hB, .sesA, .sesB, .sesC, .can, .gauze, .linen, .tweed]
  | .calibrationImport .. => [.rng, .free, .out, .od, .hA, .hB, .sesA, .sesB, .sesC, .muslin, .can, .gauze, .linen, .tweed]
  | .keyEncryptionKey .. => [.rng, .free, .out, .od, .hA, .hB, .sesA, .sesB, .sesC, .can, .damask, .linen, .felt, .tweed]
  | .escrowExport .. => [.rng, .free, .out, .od, .hA, .hB, .sesA, .sesB, .sesC, .can, .linen, .tweed]
  | .escrowImport .. => [.rng, .free, .out, .od, .hA, .hB, .sesA, .sesB, .sesC, .can, .lines, .twill, .damask, .linen, .felt, .tweed, .modes]
  | .unlockRegion .. => [.rng, .free, .out, .od, .hA, .hB, .sesA, .sesB, .sesC, .can, .damask, .linen, .tweed]
  | .resetRegionCount .. => [.rng, .free, .out, .od, .hA, .hB, .sesA, .sesB, .sesC, .can, .damask, .linen, .tweed]
  | .retireDie .. => [.rng, .free, .out, .od, .hA, .hB, .sesA, .sesB, .sesC, .muslin, .can, .dev, .path, .lines, .poison, .media, .twill, .damask, .linen, .tweed, .modes, .safety]
  | .retireChannel .. => [.rng, .free, .out, .od, .hA, .hB, .sesA, .sesB, .sesC, .muslin, .can, .dev, .path, .lines, .poison, .media, .twill, .damask, .linen, .tweed, .modes, .safety]
  | .retrainRequest .. => [.rng, .free, .out, .od, .hA, .hB, .sesA, .sesB, .sesC, .can, .media, .linen, .tweed]
  | .powerDownToStandby .. => [.rng, .free, .out, .od, .odOld, .direct, .regs, .due, .dueB, .hA, .hB, .sesA, .sesB, .sesC, .muslin, .can, .dev, .path, .lines, .poison, .media, .velvet, .twill, .gauze, .damask, .linen, .felt, .tweed, .canvas, .clocks, .thermal, .modes, .safety]
  | .startHealthTest .. => [.rng, .free, .out, .od, .hA, .hB, .sesA, .sesB, .sesC, .can, .linen, .tweed, .canvas]
  | .clearCounters .. => [.rng, .free, .out, .od, .hA, .hB, .sesA, .sesB, .sesC, .can, .linen, .tweed]
  | .idataRead .. => [.free, .out, .od, .odOld, .direct, .regs, .hA, .hB, .muslin, .can, .dev, .path, .lines, .poison, .media, .velvet, .twill, .gauze, .damask, .linen, .felt, .tweed, .modes, .safety]
  | .idataWrite .. => [.free, .out, .od, .odOld, .direct, .regs, .hA, .hB, .muslin, .can, .dev, .path, .lines, .poison, .media, .velvet, .twill, .gauze, .damask, .linen, .felt, .tweed, .modes, .safety]
  | .indirectAcknowledge .. => [.free, .out, .od, .odOld, .direct, .regs, .hA, .hB, .muslin, .can, .dev, .path, .lines, .poison, .media, .velvet, .twill, .gauze, .damask, .linen, .felt, .tweed, .modes, .safety]
  | .indirectTimeout .. => [.free, .out, .od, .odOld, .direct, .regs, .hA, .hB, .muslin, .can, .dev, .path, .lines, .poison, .media, .velvet, .twill, .gauze, .damask, .linen, .felt, .tweed, .modes, .safety]
  | .registerWrite .. => [.free, .out, .od, .odOld, .direct, .regs, .hA, .hB, .muslin, .can, .dev, .path, .lines, .poison, .media, .velvet, .twill, .gauze, .damask, .linen, .felt, .tweed, .modes, .safety]
  | .gval .. => [.out, .od, .hA, .hB, .can, .linen]
  | .gcmp .. => [.out, .od, .due, .dueB, .hA, .hB, .can, .linen]
  | .keyZeroize .. => [.free, .out, .od, .due, .dueB, .hA, .hB, .can, .path, .velvet, .damask, .linen, .felt, .tweed]
  | .calibrationWriteEnableOpen .. => [.due, .dueB, .gauze]
  | .calibrationWriteEnableClose .. => [.due, .dueB, .gauze]
  | .calibrationEnableExpiry .. => [.gauze]
  | .feltFormat .. => [.free, .out, .od, .due, .dueB, .hA, .hB, .can, .path, .velvet, .gauze, .damask, .linen, .felt, .tweed]
  | .safeStopRelease .. => [.free, .out, .od, .odOld, .direct, .regs, .due, .dueB, .hA, .hB, .sesA, .sesB, .sesC, .muslin, .can, .dev, .path, .lines, .poison, .media, .velvet, .twill, .gauze, .damask, .linen, .felt, .tweed, .thermal, .modes, .safety]
  | .forcedPowerCutInput .. => [.free, .out, .od, .odOld, .direct, .regs, .due, .dueB, .hA, .hB, .sesA, .sesB, .sesC, .muslin, .can, .dev, .path, .lines, .poison, .media, .velvet, .twill, .gauze, .damask, .linen, .felt, .tweed, .canvas, .clocks, .thermal, .modes, .safety]
  | .forcedPowerCutRail .. => [.free, .out, .od, .odOld, .direct, .regs, .due, .dueB, .hA, .hB, .sesA, .sesB, .sesC, .muslin, .can, .dev, .path, .lines, .poison, .media, .velvet, .twill, .gauze, .damask, .linen, .felt, .tweed, .canvas, .clocks, .thermal, .modes, .safety]
  | .forcedClockSwitchIrc .. => [.out, .od, .due, .dueB, .hA, .hB, .can, .linen, .clocks]
  | .forcedClockSwitchRefclk .. => [.due, .dueB, .clocks]
  | .voteCorrection .. => [.free, .out, .od, .hA, .hB, .can, .path, .velvet, .damask, .linen, .felt, .tweed, .modes, .safety]
  | .voteThreeWayDisagreement .. => [.free, .out, .od, .hA, .hB, .can, .path, .velvet, .damask, .linen, .felt, .tweed, .modes, .safety]
  | .parityMismatch .. => [.free, .out, .od, .regs, .hA, .hB, .can, .path, .linen, .tweed, .modes, .safety]
  | .consume .. => [.hA, .hB]
  | .drop .. => [.hA, .hB]
  | .telemetryWindowAccess .. => [.free, .out, .od, .hA, .hB, .can, .path, .linen, .tweed, .modes, .safety]
  | .telemetryDump .. => [.out, .od, .hA, .hB, .can, .linen, .tweed]
  | .queueBankSwap .. => [.out, .od, .hA, .hB, .can, .linen, .tweed]
  | .linenReport .. => [.out, .od, .hA, .hB, .can, .linen]
  | .stormWindowClose .. => [.out, .od, .hA, .hB, .can, .linen]
  | .tokenGain .. => [.linen]
  | .ringWrite .. => [.out, .od, .hA, .hB, .can, .linen, .felt]
  | .feltMarginPass .. => [.od]
  | .counterRecordWrite .. => [.out, .od, .hA, .hB, .can, .linen, .felt]
  | .operatingTimeTick .. => [.opTime, .free, .out, .od, .hA, .hB, .muslin, .can, .dev, .media, .twill, .gauze, .linen, .tweed, .thermal, .modes, .safety]
  | .hotEpochEnd .. => [.free, .out, .od, .regs, .hA, .hB, .muslin, .can, .dev, .path, .lines, .poison, .media, .velvet, .twill, .gauze, .damask, .linen, .tweed, .modes, .safety]
  | .demotionCommit .. => [.free, .out, .od, .regs, .hA, .hB, .muslin, .can, .dev, .path, .lines, .poison, .media, .velvet, .twill, .gauze, .damask, .linen, .tweed, .modes, .safety]
  | .promotionWayTimeout .. => [.od, .velvet, .twill]
  | .journalRecordIssue .. => [.free, .out, .od, .regs, .hA, .hB, .muslin, .can, .dev, .path, .lines, .poison, .media, .velvet, .twill, .gauze, .damask, .linen, .tweed, .modes, .safety]
  | .garbageCollection .. => [.free, .out, .od, .regs, .hA, .hB, .muslin, .can, .dev, .path, .lines, .poison, .media, .velvet, .twill, .gauze, .damask, .linen, .tweed, .modes, .safety]
  | .wearIncrement .. => [.free, .out, .od, .regs, .hA, .hB, .muslin, .can, .dev, .path, .lines, .poison, .media, .velvet, .twill, .gauze, .damask, .linen, .tweed, .modes, .safety]
  | .trackerFold .. => [.free, .out, .od, .regs, .hA, .hB, .muslin, .can, .dev, .path, .lines, .poison, .media, .velvet, .twill, .gauze, .damask, .linen, .tweed, .modes, .safety]
  | .rotationPassEnd .. => [.free, .out, .od, .regs, .hA, .hB, .muslin, .can, .dev, .path, .lines, .poison, .media, .velvet, .twill, .gauze, .damask, .linen, .tweed, .modes, .safety]
  | .migrationStart .. => [.free, .out, .od, .regs, .hA, .hB, .muslin, .can, .dev, .path, .lines, .poison, .media, .velvet, .twill, .gauze, .damask, .linen, .tweed, .modes, .safety]
  | .migrationEnd .. => [.free, .out, .od, .regs, .hA, .hB, .muslin, .can, .dev, .path, .lines, .poison, .media, .velvet, .twill, .gauze, .damask, .linen, .tweed, .modes, .safety]
  | .coldSwapCheck .. => [.free, .out, .od, .regs, .hA, .hB, .muslin, .can, .dev, .path, .lines, .poison, .media, .velvet, .twill, .gauze, .damask, .linen, .tweed, .modes, .safety]
  | .refreshRegion .. => [.free, .out, .od, .regs, .hA, .hB, .muslin, .can, .dev, .path, .lines, .poison, .media, .velvet, .twill, .gauze, .damask, .linen, .tweed, .modes, .safety]
  | .refreshBacklog .. => [.out, .od, .hA, .hB, .can, .twill, .linen]
  | .checkpointStart .. => [.free, .out, .od, .regs, .hA, .hB, .muslin, .can, .dev, .path, .lines, .poison, .media, .velvet, .twill, .gauze, .damask, .linen, .tweed, .modes, .safety]
  | .checkpointCommit .. => [.free, .out, .od, .regs, .hA, .hB, .muslin, .can, .dev, .path, .lines, .poison, .media, .velvet, .twill, .gauze, .damask, .linen, .tweed, .modes, .safety]
  | .resync .. => [.free, .out, .od, .regs, .hA, .hB, .muslin, .can, .dev, .path, .lines, .poison, .media, .velvet, .twill, .gauze, .damask, .linen, .tweed, .modes, .safety]
  | .weakLineRewrite .. => [.free, .out, .od, .regs, .hA, .hB, .muslin, .can, .dev, .path, .lines, .poison, .media, .velvet, .twill, .gauze, .damask, .linen, .tweed, .modes, .safety]
  | .terryStripeRead .. => [.free, .out, .od, .regs, .hA, .hB, .muslin, .can, .dev, .path, .lines, .poison, .media, .velvet, .twill, .gauze, .damask, .linen, .tweed, .modes, .safety]
  | .sramScrub .. => [.free, .out, .od, .regs, .hA, .hB, .muslin, .can, .dev, .path, .lines, .poison, .media, .velvet, .twill, .gauze, .damask, .linen, .tweed, .modes, .safety]
  | .scrubStarved .. => [.out, .od, .hA, .hB, .can, .dev, .media, .linen]
  | .cellEvaluation .. => [.od, .gauze, .tweed]
  | .cellStale .. => [.out, .od, .hA, .hB, .can, .gauze, .linen]
  | .probeBatch .. => [.gauze]
  | .weakRegionOffer .. => [.od, .twill, .gauze]
  | .trendFit .. => [.gauze]
  | .marginEvaluation .. => [.free, .out, .od, .regs, .hA, .hB, .muslin, .can, .dev, .path, .lines, .poison, .media, .velvet, .twill, .gauze, .damask, .linen, .tweed, .modes, .safety]
  | .gauzeSnapshot .. => [.free, .out, .od, .hA, .hB, .muslin, .can, .dev, .path, .lines, .poison, .media, .twill, .gauze, .damask, .linen, .tweed, .modes, .safety]
  | .tagWriteback .. => [.free, .out, .od, .regs, .hA, .hB, .muslin, .can, .dev, .path, .lines, .poison, .media, .velvet, .twill, .gauze, .damask, .linen, .tweed, .modes, .safety]
  | .rekeyPass .. => [.free, .out, .od, .regs, .hA, .hB, .muslin, .can, .dev, .path, .lines, .poison, .media, .velvet, .twill, .gauze, .damask, .linen, .tweed, .modes, .safety]
  | .alertService .. => [.free, .out, .od, .hA, .hB, .muslin, .can, .dev, .path, .lines, .poison, .media, .velvet, .twill, .gauze, .damask, .linen, .tweed, .thermal, .modes, .safety]
  | .channelTraining .. => [.free, .out, .od, .hA, .hB, .muslin, .can, .dev, .path, .lines, .poison, .media, .twill, .damask, .linen, .tweed, .modes, .safety]
  | .channelRetrain .. => [.free, .out, .od, .hA, .hB, .can, .path, .lines, .media, .twill, .damask, .linen, .tweed]
  | .zqcShortPeriod .. => [.out, .media]
  | .writeDeskewCheck .. => [.out, .media]
  | .rd .. => [.free, .out, .media, .tweed]
  | .mrd .. => [.free, .out, .od, .media, .gauze]
  | .rrs .. => [.free, .out, .media, .tweed]
  | .pgm .. => [.free, .out, .od, .hA, .hB, .can, .media, .twill, .linen, .tweed]
  | .ovw .. => [.free, .out, .od, .hA, .hB, .can, .media, .twill, .linen, .tweed]
  | .trs .. => [.free, .out, .media, .tweed]
  | .sus .. => [.free, .out, .od, .hA, .hB, .can, .media, .twill, .linen, .tweed]
  | .rsm .. => [.out, .media]
  | .str .. => [.out, .od, .hA, .hB, .can, .media, .linen, .thermal, .modes]
  | .alc .. => [.out, .media]
  | .mrw .. => [.out, .media]
  | .mrr .. => [.free, .out, .media]
  | .idr .. => [.out, .media]
  | .zqc .. => [.out, .media]
  | .trn .. => [.free, .out, .media]
  | .tbw .. => [.out, .media]
  | .sby .. => [.out, .media]
  | .wak .. => [.out, .media]
  | .rst .. => [.free, .out, .od, .hA, .hB, .can, .lines, .media, .twill, .linen, .tweed]
  | .rebuildPosition .. => [.free, .out, .od, .regs, .hA, .hB, .muslin, .can, .dev, .path, .lines, .poison, .media, .velvet, .twill, .gauze, .damask, .linen, .tweed, .modes, .safety]
  | .replacementCopyBack .. => [.free, .out, .od, .regs, .hA, .hB, .muslin, .can, .dev, .path, .lines, .poison, .media, .velvet, .twill, .gauze, .damask, .linen, .tweed, .modes, .safety]
  | .engineHeartbeatMiss .. => [.free, .out, .od, .hA, .hB, .muslin, .can, .dev, .path, .lines, .poison, .media, .twill, .damask, .linen, .tweed, .modes, .safety]
  | .takeoverComplete .. => [.free, .out, .od, .regs, .hA, .hB, .muslin, .can, .dev, .path, .lines, .poison, .media, .velvet, .twill, .gauze, .damask, .linen, .tweed, .modes, .safety]
  | .lockstepMismatch .. => [.free, .out, .od, .hA, .hB, .can, .path, .linen, .tweed, .modes, .safety]
  | .bankFailoverComplete .. => [.free, .out, .od, .hA, .hB, .muslin, .can, .dev, .path, .lines, .poison, .media, .velvet, .twill, .damask, .linen, .tweed, .modes, .safety]
  | .headFailure .. => [.free, .out, .od, .hA, .hB, .sesA, .sesB, .sesC, .muslin, .can, .dev, .path, .velvet, .damask, .linen, .tweed, .modes, .safety]
  | .selfTest .. => [.free, .out, .od, .hA, .hB, .sesA, .sesB, .sesC, .muslin, .can, .dev, .path, .lines, .poison, .media, .velvet, .twill, .damask, .linen, .tweed, .thermal, .modes, .safety]
  | .safeStopEntry .. => [.free, .out, .od, .hA, .hB, .muslin, .can, .dev, .path, .lines, .poison, .media, .velvet, .twill, .gauze, .damask, .linen, .tweed, .modes, .safety]
  | .residentRailsGood .. => [.opTime, .rng, .free, .out, .od, .hA, .hB, .muslin, .can, .media, .linen, .felt, .tweed, .canvas, .clocks, .modes]
  | .residentRailFall .. => [.free, .out, .od, .odOld, .direct, .regs, .due, .dueB, .hA, .hB, .sesA, .sesB, .sesC, .muslin, .can, .dev, .path, .lines, .poison, .media, .velvet, .twill, .gauze, .damask, .linen, .felt, .tweed, .canvas, .clocks, .thermal, .modes, .safety, .tap]
  | .pfailNRise .. => [.out, .od, .hA, .hB, .muslin, .can, .media, .linen, .felt, .tweed, .canvas, .clocks, .modes]
  | .inputPowerLoss .. => [.free, .out, .od, .odOld, .direct, .regs, .due, .dueB, .hA, .hB, .sesA, .sesB, .sesC, .muslin, .can, .dev, .path, .lines, .poison, .media, .velvet, .twill, .gauze, .damask, .linen, .felt, .tweed, .canvas, .clocks, .thermal, .modes, .safety]
  | .flushEnd .. => [.free, .out, .od, .odOld, .direct, .regs, .due, .dueB, .hA, .hB, .sesA, .sesB, .sesC, .muslin, .can, .dev, .path, .lines, .poison, .media, .velvet, .twill, .gauze, .damask, .linen, .felt, .tweed, .canvas, .clocks, .thermal, .modes, .safety]
  | .slotStepStart .. => [.canvas]
  | .pseqPgChange .. => [.free, .out, .od, .odOld, .direct, .regs, .due, .dueB, .hA, .hB, .sesA, .sesB, .sesC, .muslin, .can, .dev, .path, .lines, .poison, .media, .velvet, .twill, .gauze, .damask, .linen, .felt, .tweed, .canvas, .clocks, .thermal, .modes, .safety]
  | .slotQualified .. => [.out, .od, .odOld, .direct, .regs, .due, .dueB, .hA, .hB, .sesA, .sesB, .sesC, .muslin, .can, .dev, .path, .poison, .media, .velvet, .twill, .gauze, .damask, .linen, .felt, .tweed, .canvas, .clocks, .thermal, .modes, .safety]
  | .slotQualifyTimeout .. => [.free, .out, .od, .odOld, .direct, .regs, .due, .dueB, .hA, .hB, .sesA, .sesB, .sesC, .muslin, .can, .dev, .path, .lines, .poison, .media, .velvet, .twill, .gauze, .damask, .linen, .felt, .tweed, .canvas, .clocks, .thermal, .modes, .safety]
  | .slotFallen .. => [.out, .od, .hA, .hB, .muslin, .can, .linen, .tweed, .canvas, .modes]
  | .slotFallTimeout .. => [.out, .od, .hA, .hB, .muslin, .can, .linen, .felt, .tweed, .canvas, .modes]
  | .railFault .. => [.free, .out, .od, .odOld, .direct, .regs, .due, .dueB, .hA, .hB, .sesA, .sesB, .sesC, .muslin, .can, .dev, .path, .lines, .poison, .media, .velvet, .twill, .gauze, .damask, .linen, .felt, .tweed, .canvas, .clocks, .thermal, .modes, .safety]
  | .huSenseSample .. => [.free, .out, .od, .hA, .hB, .muslin, .can, .dev, .path, .lines, .poison, .media, .velvet, .twill, .gauze, .damask, .linen, .tweed, .canvas, .modes, .safety]
  | .holdupReport .. => [.free, .out, .od, .hA, .hB, .muslin, .can, .dev, .path, .lines, .poison, .media, .velvet, .twill, .gauze, .damask, .linen, .tweed, .canvas, .modes, .safety]
  | .writeBackReturn .. => [.free, .out, .od, .hA, .hB, .muslin, .can, .dev, .path, .lines, .poison, .media, .velvet, .twill, .gauze, .damask, .linen, .tweed, .modes, .safety]
  | .healthTest .. => [.canvas]
  | .healthTestEnd .. => [.free, .out, .od, .hA, .hB, .muslin, .can, .dev, .path, .lines, .poison, .media, .velvet, .twill, .gauze, .damask, .linen, .felt, .tweed, .canvas, .modes, .safety]
  | .boot .. => [.free, .out, .od, .hA, .hB, .can, .path, .twill, .gauze, .damask, .linen, .felt, .tweed, .clocks, .thermal, .modes, .safety]
  | .bindingCheck .. => [.rng, .free, .out, .od, .hA, .hB, .muslin, .can, .dev, .path, .lines, .poison, .media, .twill, .gauze, .damask, .linen, .felt, .tweed, .modes, .safety]
  | .mapRebuild .. => [.free, .out, .od, .hA, .hB, .muslin, .can, .dev, .path, .lines, .poison, .media, .twill, .gauze, .linen, .tweed, .modes, .safety]
  | .memoryActive .. => [.free, .out, .od, .regs, .hA, .hB, .muslin, .can, .dev, .path, .lines, .poison, .media, .velvet, .twill, .gauze, .damask, .linen, .felt, .tweed, .thermal, .modes, .safety]
  | .holdupReportTimeout .. => [.free, .out, .od, .regs, .hA, .hB, .muslin, .can, .dev, .path, .lines, .poison, .media, .velvet, .twill, .gauze, .damask, .linen, .felt, .tweed, .thermal, .modes, .safety]
  | .lightSleepEntry .. => [.out, .od, .hA, .hB, .muslin, .can, .linen, .tweed, .modes]
  | .deepSleepEntry .. => [.free, .out, .od, .hA, .hB, .muslin, .can, .dev, .path, .lines, .poison, .media, .velvet, .twill, .gauze, .damask, .linen, .tweed, .modes, .safety]
  | .idleEnd .. => [.out, .od, .hA, .hB, .muslin, .can, .media, .linen, .tweed, .modes]
  | .refMonitorWindow .. => [.od, .clocks]
  | .refclkLost .. => [.free, .out, .od, .hA, .hB, .muslin, .can, .dev, .path, .lines, .poison, .media, .velvet, .twill, .gauze, .damask, .linen, .tweed, .clocks, .modes, .safety]
  | .refclkGood .. => [.out, .od, .hA, .hB, .can, .linen, .clocks]
  | .pllJudgeWindow .. => [.free, .out, .od, .hA, .hB, .muslin, .can, .dev, .path, .lines, .poison, .media, .velvet, .twill, .gauze, .damask, .linen, .tweed, .clocks, .modes, .safety]
  | .ircTrimUpdate .. => [.clocks]
  | .thermalSample .. => [.free, .out, .od, .hA, .hB, .muslin, .can, .dev, .path, .media, .twill, .linen, .tweed, .canvas, .thermal, .modes, .safety]
  | .throttleEntry .. => [.out, .od, .hA, .hB, .muslin, .can, .dev, .linen, .tweed, .thermal, .modes]
  | .throttleStep .. => [.out, .od, .hA, .hB, .muslin, .can, .dev, .linen, .tweed, .thermal, .modes]
  | .devloadWindow .. => [.hA, .hB, .tweed]
  | .perstAssert .. => [.out, .od, .hA, .hB, .sesA, .sesB, .sesC, .muslin, .can, .path, .velvet, .damask]
  | .perstDeassert .. => [.out, .od, .hA, .hB, .muslin, .can, .linen, .tweed, .canvas, .modes]
  | .functionLevelReset .. => [.out, .hA, .hB, .muslin, .can, .velvet, .damask]
  | .linkDown .. => [.out, .od, .hA, .hB, .can, .path, .linen]
  | .linkUp .. => [.od, .hA, .hB]
  | .l1Entry .. => [.od, .hA, .hB]
  | .l1Exit .. => [.od, .hA, .hB]
  | .getVersion .. => [.out, .hA, .hB]
  | .getCapabilities .. => [.out, .hA, .hB]
  | .negotiateAlgorithms .. => [.out, .hA, .hB]
  | .getDigests .. => [.out]
  | .getCertificate .. => [.out]
  | .challenge .. => [.out]
  | .getMeasurements .. => [.out]
  | .keyExchange .. => [.rng, .out, .hA, .hB]
  | .finish .. => [.out, .hA, .hB]
  | .keyUpdate .. => [.out, .hA, .hB]
  | .spdmHeartbeat .. => [.out]
  | .endSession .. => [.out, .hA, .hB]
  | .ideKeyManagement .. => [.out, .hA, .hB]
  | .ideFailure .. => [.out, .od, .hA, .hB, .can, .linen]
  | .cdatRead .. => [.out]
  | .channelRetrainEnd .. => [.free, .out, .od, .regs, .hA, .hB, .muslin, .can, .dev, .path, .lines, .poison, .media, .velvet, .twill, .gauze, .damask, .linen, .tweed, .modes, .safety]
  | .returnRampEnd .. => [.out, .od, .hA, .hB, .muslin, .can, .media, .linen, .tweed, .clocks, .modes]
  | .redistributionComplete .. => [.out, .od, .hA, .hB, .muslin, .can, .linen, .tweed, .modes, .safety]
  | .addCapacityOffer .. => [.out, .hA, .hB, .dev]
  | .testEnRise .. => [.free, .out, .od, .hA, .hB, .can, .path, .linen, .tweed, .modes, .safety]
  | .tapInstruction .. => [.out, .tap]
  | .canBusJoin .. => [.out, .can]
  | .cxlComplianceRequest .. => [.free, .out]
  | .componentRegisterWrite .. => [.hA, .hB]
  | .configurationRequest .. => [.out, .hA, .hB]

end Sys2Proof.Safety
end

