-- ==== Sys2Proof/Certificates/Slice0/Obligations.lean ====
section
/-! DEFINITION. The statements for the provers, over the rules of spec/. A statement of a command's effect says, for every state and operands that meet its hypotheses, that the command answers a next state, and which; b stands for the block at the command's stamp. -/

open Sys2Proof Sys2Proof.Machine Sys2Proof.Safety

/-- For every command c and state s, a step of s with c at the front of its queue is what c does to s with the queue's rest. The queue is the model's own (log 1). -/
def Obligations.StepRunsTheFrontCommand : Prop :=
  ∀ (c : Instr) (rest : List Instr) (s : State), step { s with pending := c :: rest } = exec c { s with pending := rest }

/-- On an empty queue nothing has been commanded and no instant has passed: a step leaves the state as it is. The model's choice (log 1). -/
def Obligations.IdleStepChangesNothing : Prop :=
  ∀ s : State, s.pending = [] → step s = .next s

/-- No command faults or is refused, on any state and operands: it answers a next state with the same queue. A step with a command in front therefore answers a next state with the rest of the queue. -/
def Obligations.EveryCommandAnswersANextState : Prop :=
  (∀ (c : Instr) (s : State), ∃ t, exec c s = .next t ∧ t.pending = s.pending) ∧
  (∀ (c : Instr) (rest : List Instr) (s : State), s.pending = c :: rest → ∃ t, step s = .next t ∧ t.pending = rest) ∧
  (∀ s : State, Completes s)

/-- Every command ends, so a queue of n commands is empty after exactly n steps, whatever they are. -/
def Obligations.TheQueueDrains : Prop :=
  ∀ s : State, ∃ t, Steps s.pending.length s t ∧ t.pending = []

/-- The frame of every command: when it answers a next state, every part of the block that touches does not name for the command is as it was, the dictionary, the registers, each unit's state, the stored lines and the poison list among them; only the time and the level of NVWP_N, which the stamp gives, come beside. -/
def Obligations.OnlyTheNamedPartsChange : Prop :=
  ∀ (c : Instr) (s t : State), exec c s = .next t → Only (touches c) (s.blk.at (stampOf c)) t.blk

/-- After every command the block's time is the later of what it was and the command's instant, and NVWP_N is at the level that the command carries; in particular time never runs back (the model's time, log 1). -/
def Obligations.TimeAndWritePinFollowTheStamp : Prop :=
  ∀ (c : Instr) (s t : State), exec c s = .next t →
    t.blk.now = max s.blk.now (stampOf c).t ∧ t.blk.nvwp = (stampOf c).nvwp ∧ s.blk.now ≤ t.blk.now

/-- No power is applied: the effective mode is M0 and no condition flag is shown, no request or command waits, both sessions and the CAN FD session are closed, no dictionary value differs from its Default, FAULT_N is released, no region, poisoned half, hint or event record stands, and Muslin is empty. Values that the spec does not give are the model's (log 6) and are not claimed here. -/
def Obligations.ResetState : Prop :=
  State.reset.pending = [] ∧ State.reset.blk.eff = 0 ∧ flagsOf State.reset.blk.modes.cond = 0 ∧
  State.reset.blk.hA.ingress = [] ∧ State.reset.blk.hB.ingress = [] ∧ State.reset.blk.hA.hints = [] ∧ State.reset.blk.hB.hints = [] ∧
  State.reset.blk.sesA.maint = false ∧ State.reset.blk.sesB.maint = false ∧ State.reset.blk.sesC.maint = false ∧
  (∀ idx sub, State.reset.blk.cfg idx sub = odDefault idx sub) ∧ State.reset.blk.muslin.state = 0 ∧ State.reset.blk.muslin.staged = [] ∧
  State.reset.blk.dev.rgns = [] ∧ State.reset.blk.media.poison = [] ∧ State.reset.blk.memoryActive = false ∧ State.reset.blk.modes.faultN = true ∧
  (∀ h, State.reset.blk.takes h = false) ∧ (∀ h, State.reset.blk.mailboxOpen h = false)

/-- The stored lines stand in canonical form, FAULT_N is as R403 says, and every queue is within its places. -/
def Obligations.InvariantsHoldAtReset : Prop :=
  MediaForm State.reset.blk ∧ FaultPinRight State.reset.blk ∧ QueuesFit State.reset.blk

/-- From every state whose stored lines stand in canonical form (locations strictly rising), a step leads to such a state: equal media stay equal data, and a location is listed once. -/
def Obligations.StoredLinesKeepTheirForm : Prop :=
  ∀ s t : State, MediaForm s.blk → step s = .next t → MediaForm t.blk

/-- From every state in which FAULT_N is low exactly while the condition of M11 holds or a clock domain runs from its fallback source after a failure, a step leads to such a state; where it holds, FAULT_N is low exactly while the effective mode is M11 or a domain so runs. -/
def Obligations.FaultPinShowsStopAndFallback : Prop :=
  (∀ s t : State, FaultPinRight s.blk → step s = .next t → FaultPinRight t.blk) ∧
  (∀ b : Blk, FaultPinRight b → (b.modes.faultN = false ↔ b.eff = 11 ∨ b.clocks.failed = true))

/-- From every state in which the ingress buffers (1,024), hint queues (256), event logs (512), Linen's staging (1,024), its waiting records (32) and tokens (64), the notification queue (64) and Canvas's log (512) are within their places, a step leads to such a state. -/
def Obligations.QueuesStayWithinTheirPlaces : Prop :=
  ∀ s t : State, QueuesFit s.blk → step s = .next t → QueuesFit t.blk

/-- For every die command, with every operand at every value its field holds, and every SEQ: the word has an even number of ones, and what a die reads from it is that command with that SEQ (R180 to R182). -/
def Obligations.DieWordsReadBack : Prop :=
  ∀ (c : DieCmd) (seq : BitVec 3), oddOnes (c.word seq) = false ∧ dieDecode (c.word seq) = some (c, seq)

/-- Opcodes as R181 tables them and fields as R182 lays them out: PART in [58:54], LINE in [53:31], the offsets in [30:22], [21:13] and [12:4], first tile in [53:37] and tile count less 1 in [36:35], the alert mask in [53:47], a mode register's address in [53:46] and value in [45:30], the long calibration bit and the training source in [53], the seed in [52:45]; every other bit of [58:4] is 0. SEQ stands in [3:1] (R180). A word whose opcode is 0x00 or 0x14 to 0x1F spells no command. -/
def Obligations.DieWordFields : Prop :=
  (∀ (part : BitVec 5) (line : BitVec 23) (o2 o1 o0 : BitVec 9) (seq : BitVec 3) (margin : Bool),
    let w := (if margin then DieCmd.mrd part line o2 o1 o0 else .rd part line o2 o1 o0).word seq
    w.extractLsb' 59 5 = (if margin then 2 else 1) ∧ w.extractLsb' 54 5 = part ∧ w.extractLsb' 31 23 = line ∧ w.extractLsb' 22 9 = o2 ∧
      w.extractLsb' 13 9 = o1 ∧ w.extractLsb' 4 9 = o0 ∧ w.extractLsb' 1 3 = seq) ∧
  (∀ (part : BitVec 5) (line : BitVec 23) (seq : BitVec 3) (inPlace : Bool),
    let w := (if inPlace then DieCmd.ovw part line else .pgm part line).word seq
    w.extractLsb' 59 5 = (if inPlace then 5 else 4) ∧ w.extractLsb' 54 5 = part ∧ w.extractLsb' 31 23 = line ∧ w.extractLsb' 4 27 = 0 ∧ w.extractLsb' 1 3 = seq) ∧
  (∀ (part : BitVec 5) (tile : BitVec 17) (count : BitVec 2) (seq : BitVec 3),
    let w := (DieCmd.trs part tile count).word seq
    w.extractLsb' 59 5 = 6 ∧ w.extractLsb' 54 5 = part ∧ w.extractLsb' 37 17 = tile ∧ w.extractLsb' 35 2 = count ∧ w.extractLsb' 4 31 = 0 ∧ w.extractLsb' 1 3 = seq) ∧
  (∀ (part : BitVec 5) (seq : BitVec 3), ∀ c ∈ [(DieCmd.rrs part, (3 : BitVec 5)), (.sus part, 7), (.rsm part, 8)],
    (c.1.word seq).extractLsb' 59 5 = c.2 ∧ (c.1.word seq).extractLsb' 54 5 = part ∧ (c.1.word seq).extractLsb' 4 50 = 0 ∧ (c.1.word seq).extractLsb' 1 3 = seq) ∧
  (∀ (mask : BitVec 7) (seq : BitVec 3),
    let w := (DieCmd.alc mask).word seq
    w.extractLsb' 59 5 = 0x0A ∧ w.extractLsb' 54 5 = 0 ∧ w.extractLsb' 47 7 = mask ∧ w.extractLsb' 4 43 = 0 ∧ w.extractLsb' 1 3 = seq) ∧
  (∀ (addr : BitVec 8) (v : BitVec 16) (seq : BitVec 3),
    let w := (DieCmd.mrw addr v).word seq
    w.extractLsb' 59 5 = 0x0B ∧ w.extractLsb' 54 5 = 0 ∧ w.extractLsb' 46 8 = addr ∧ w.extractLsb' 30 16 = v ∧ w.extractLsb' 4 26 = 0 ∧ w.extractLsb' 1 3 = seq) ∧
  (∀ (addr : BitVec 8) (seq : BitVec 3),
    let w := (DieCmd.mrr addr).word seq
    w.extractLsb' 59 5 = 0x0C ∧ w.extractLsb' 54 5 = 0 ∧ w.extractLsb' 46 8 = addr ∧ w.extractLsb' 4 42 = 0 ∧ w.extractLsb' 1 3 = seq) ∧
  (∀ (long : Bool) (seq : BitVec 3),
    let w := (DieCmd.zqc long).word seq
    w.extractLsb' 59 5 = 0x0E ∧ w.extractLsb' 54 5 = 0 ∧ w.getLsbD 53 = long ∧ w.extractLsb' 4 49 = 0 ∧ w.extractLsb' 1 3 = seq) ∧
  (∀ (buffer : Bool) (seed : BitVec 8) (seq : BitVec 3),
    let w := (DieCmd.trn buffer seed).word seq
    w.extractLsb' 59 5 = 0x0F ∧ w.extractLsb' 54 5 = 0 ∧ w.getLsbD 53 = buffer ∧ w.extractLsb' 45 8 = seed ∧ w.extractLsb' 4 41 = 0 ∧ w.extractLsb' 1 3 = seq) ∧
  (∀ (seq : BitVec 3), ∀ c ∈ [(DieCmd.str, (0x09 : BitVec 5)), (.idr, 0x0D), (.tbw, 0x10), (.sby, 0x11), (.wak, 0x12), (.rst, 0x13)],
    (c.1.word seq).extractLsb' 59 5 = c.2 ∧ (c.1.word seq).extractLsb' 4 55 = 0 ∧ (c.1.word seq).extractLsb' 1 3 = seq) ∧
  (∀ w : BitVec 64, w.extractLsb' 59 5 = 0 ∨ 0x14 ≤ (w.extractLsb' 59 5).toNat → dieDecode w = none)

/-- RD of line 0x123456 of partition 12, offsets +12, -3 and 0, SEQ 5: the word is 0x0B091A2B033FA00A, and a die reads that command from it (the worked example after R182). -/
def Obligations.WorkedReadCommand : Prop :=
  (DieCmd.rd 12 0x123456 12 509 0).word 5 = 0x0B091A2B033FA00A ∧
  dieDecode 0x0B091A2B033FA00A = some (.rd 12 0x123456 12 509 0, 5) ∧ dieDecode 0x0B091A2B033FA00B = none

/-- For every slot, stripe s and class: each member holds exactly one of the stripe's parity and data lines, which stand on the members R28 names; on a member die stripe s lies in tile row s[9:6], in partition (n + 2t) mod 32, at line s[5:0] of its tile, and no two stripes of a slot share a line of a member; the 16 tile rows fall in 16 different partitions; the members are on different channels, unless a failed die of the slot has been substituted. -/
def Obligations.StripesAreLaidOutOnTheirMembers : Prop :=
  (∀ s p : Nat, p < 16 → dataMember .voile s p = (s + 1 + p) % 17 ∧ dataMember .denim s p = (s + 2 + p) % 18) ∧
  (∀ s : Nat, parityMember .voile s 0 = s % 17 ∧ parityMember .denim s 0 = s % 18 ∧ parityMember .denim s 1 = (s + 1) % 18) ∧
  (∀ s m : Nat, m < 17 → (m = parityMember .voile s 0 ∧ ∀ p < 16, dataMember .voile s p ≠ m) ∨
    (m ≠ parityMember .voile s 0 ∧ ∃ p < 16, dataMember .voile s p = m ∧ ∀ q < 16, dataMember .voile s q = m → q = p)) ∧
  (∀ s m : Nat, m < 18 → ((m = parityMember .denim s 0 ∨ m = parityMember .denim s 1) ∧ ∀ p < 16, dataMember .denim s p ≠ m) ∨
    (m ≠ parityMember .denim s 0 ∧ m ≠ parityMember .denim s 1 ∧ ∃ p < 16, dataMember .denim s p = m ∧ ∀ q < 16, dataMember .denim s q = m → q = p)) ∧
  (∀ (b : Blk) (c : Cls) (slot s m : Nat), s < 1024 →
    dieOfLoc (b.memberLine c slot s m) = b.memberDie slot (widthOf c) m ∧
      pidOf (b.memberLine c slot s m) % 32 = (slot + 2 * (s / 64)) % 32 ∧ b.memberLine c slot s m % 64 = s % 64) ∧
  (∀ (b : Blk) (c : Cls) (slot s s' m : Nat), s < 1024 → s' < 1024 → s ≠ s' → b.memberLine c slot s m ≠ b.memberLine c slot s' m) ∧
  (∀ slot t t' : Nat, t < 16 → t' < 16 → t ≠ t' → partitionOf slot t ≠ partitionOf slot t') ∧
  (∀ (b : Blk) (c : Cls) (slot s p : Nat), b.slotLine c slot s p = b.memberLine c slot s (dataMember c s p)) ∧
  (∀ (b : Blk) (c : Cls) (slot m m' : Nat), slot % 18 < slotsOfGroup c → b.safety.subst = [] → b.media.perChan ≤ 8 → m < widthOf c → m' < widthOf c → m ≠ m' →
    b.memberDie slot (widthOf c) m / 8 < 32 ∧ b.memberDie slot (widthOf c) m / 8 ≠ b.memberDie slot (widthOf c) m' / 8)

/-- Offset x goes through four rounds on its 7-bit halves under the 16-bit parts of the key, as the listing of R30 has it; for every key each of the 16,384 results comes of exactly one offset; the home place of a line whose region has no rotation in progress is stripe y[13:4], moved by the rotation offset, and position y[3:0]. -/
def Obligations.TheInterleaveIsABijection : Prop :=
  (∀ (x : Nat) (k : BitVec 64),
    interleave x k =
      (let r := (List.range 4).foldl (fun (q : Nat × Nat) i =>
        let ki := (k.toNat >>> (16 * i)) &&& 0xFFFF
        let t := ((q.2 ^^^ (ki &&& 0x7F)) * ((ki >>> 7) ||| 1)) &&& 0xFFFF
        (q.2, q.1 ^^^ ((t ^^^ (t >>> 7)) &&& 0x7F))) (x >>> 7, x &&& 0x7F)
      (r.1 <<< 7) ||| r.2)) ∧
  (∀ (k : BitVec 64) (y : Nat), y < 16384 → ∃ x, x < 16384 ∧ interleave x k = y ∧ ∀ x', x' < 16384 → interleave x' k = y → x' = x) ∧
  (∀ (b : Blk) (r li : Nat) (e : RegionEntry), e.rotp = false →
    (b.homePlace r li e).slot = e.slot.toNat ∧ (b.homePlace r li e).cls = e.cls ∧ (b.homePlace r li e).hot = false ∧
      (b.homePlace r li e).stripe = (interleave (li % 16384) b.key / 16 + e.rot.toNat) % 1024 ∧ (b.homePlace r li e).pos = interleave (li % 16384) b.key % 16 ∧
      (b.homePlace r li e).loc = b.slotLine e.cls e.slot.toNat (b.homePlace r li e).stripe (b.homePlace r li e).pos)

/-- An awake die answers STR with the 256 bits that R187 lays out: WVAL and WSEQ, RCNT, PCNT, ALRT, TVAL, TEMP, PFAIL, two bits of PSTATE for each partition (0 idle, 1 a program or overwrite runs, 2 one is suspended, 3 a reset or margin read runs), and 0 in its reserved bits (a value of the model where the spec reserves them); MRR with the register in DQ[15:0] of beat 0 and IDR with the 64-bit die ID, both with zero in the other bits; ALC with bit 26 or 27 set clears PFAIL. -/
def Obligations.DieStatusWord : Prop :=
  (∀ (a : Stamp) (ch : Fin 32) (die : Fin 8) (s : State) (c : Blk), (s.blk.at a).sendDie (dieOf ch die) .str = c → c.dieAwake (dieOf ch die) = true →
    ∃ w : BitVec 256, exec (.str a ch die) s = .next { s with
        blk := (c.emit (.short ch.val die.val w)).dieStatus (dieOf ch die) (c.die (dieOf ch die)).astat (c.die (dieOf ch die)).tval (c.die (dieOf ch die)).temp } ∧
      w.extractLsb' 128 128 = 0 ∧ w.getLsbD 127 = (c.die (dieOf ch die)).wseq.isSome ∧ w.extractLsb' 124 3 = (c.die (dieOf ch die)).wseq.getD 0 ∧
      w.getLsbD 123 = false ∧ w.extractLsb' 120 3 = BitVec.ofNat 3 (c.resets (dieOf ch die)) ∧ w.extractLsb' 116 4 = BitVec.ofNat 4 (c.dieWrites (dieOf ch die)) ∧
      w.extractLsb' 109 7 = (c.die (dieOf ch die)).astat ∧ w.getLsbD 108 = (c.die (dieOf ch die)).tval ∧
      w.extractLsb' 96 12 = BitVec.ofInt 12 (c.die (dieOf ch die)).temp ∧ w.extractLsb' 64 32 = (c.die (dieOf ch die)).pfail ∧
      ∀ q < 32, w.extractLsb' (2 * q) 2 = BitVec.ofNat 2 (c.part (partId (dieOf ch die) q)).code) ∧
  (∀ (a : Stamp) (ch : Fin 32) (die : Fin 8) (addr : BitVec 8) (s : State) (c : Blk), (s.blk.at a).sendDie (dieOf ch die) (.mrr addr) = c → c.dieAwake (dieOf ch die) = true →
    ∃ w : BitVec 256, exec (.mrr a ch die addr) s = .next { s with blk := c.useFree.emit (.short ch.val die.val w) } ∧
      w.extractLsb' 0 16 = c.readMr (dieOf ch die) addr.toNat ∧ w.extractLsb' 16 240 = 0) ∧
  (∀ (a : Stamp) (ch : Fin 32) (die : Fin 8) (s : State) (c : Blk), (s.blk.at a).sendDie (dieOf ch die) .idr = c → c.dieAwake (dieOf ch die) = true →
    ∃ w : BitVec 256, exec (.idr a ch die) s = .next { s with blk := c.emit (.short ch.val die.val w) } ∧
      w.extractLsb' 0 64 = (c.die (dieOf ch die)).id ∧ w.extractLsb' 64 192 = 0) ∧
  (∀ (x : DieSt) (mask : BitVec 7) (now : Nat), mask.getLsbD 2 = true ∨ mask.getLsbD 3 = true → (clearCauses x mask now).pfail = 0)

/-- With the stored lines in canonical form: a line stored at a location reads there as stored and leaves every other location as it was; a line made blank is listed no more; blanking count + 1 tiles, as the end of a tile reset does, blanks exactly the 64 lines of each (R191). -/
def Obligations.LinesReadAsWritten : Prop :=
  (∀ (b : Blk) (loc : Nat) (x : MLine), MediaForm b → (b.storeLine loc x).media.lines.find loc = some x ∧
    (∀ l, l ≠ loc → (b.storeLine loc x).media.lines.find l = b.media.lines.find l)) ∧
  (∀ (b : Blk) (loc : Nat), MediaForm b → (b.blankLine loc).media.lines.find loc = none ∧
    (∀ l, l ≠ loc → (b.blankLine loc).media.lines.find l = b.media.lines.find l)) ∧
  (∀ (b : Blk) (pid tile count : Nat), MediaForm b → MediaForm (b.blankTiles pid tile count) ∧
    ∀ l, (b.blankTiles pid tile count).media.lines.find l = if locOf pid (tile * 64) ≤ l ∧ l < locOf pid (tile * 64) + 64 * (count + 1) then none else b.media.lines.find l)

/-- The effective mode holds, no condition of a higher-numbered mode holds, and bit n of the flags is set exactly while the condition of Mn, n from 1 to 11, holds and Mn is not in effect; the voted word carries the effective mode in [15:12] and the flags in [11:0] (R312). With no condition of M1 to M11 the mode is M0. -/
def Obligations.TheHighestConditionIsInEffect : Prop :=
  (∀ b : Blk, b.eff ≤ 11 ∧ (b.eff ≠ 0 → b.holds b.eff = true) ∧ (∀ n, b.eff < n → b.holds n = false)) ∧
  (∀ (c : BitVec 12) (n : Nat), n < 12 → (flagsOf c).testBit n = (decide (1 ≤ n) && c.getLsbD n && decide (n ≠ effOf c))) ∧
  (∀ c : BitVec 12, modeWord c / 4096 = effOf c ∧ modeWord c % 4096 = flagsOf c ∧ modeWord c < 65536)

/-- A mailbox takes dictionary requests exactly while its head's link is in L0, the head has not failed and the management engines run; then the request goes on, counted as an item of E56 and of E57 where Tweed collects, and one made at maintenance level restarts the session's idle time. A request is at maintenance level exactly with its flag set and a maintenance session open on its transport, else at the transport's base level (R265). A Write whose checks pass runs; an object's transfer whose checks pass with no transfer open is applied. -/
def Obligations.RequestsAreAdmittedAtAnOpenMailbox : Prop :=
  (∀ (b : Blk) (h : Head) (m : Bool) (q : DReq), (b.head h).link = 2 → (b.head h).failed = false → b.mgmt = true → Requests b (.mb h m) q (((b.twEngine 56).twEngine 57).touch (.mb h m))) ∧
  (∀ (b : Blk) (h : Head) (m : Bool) (q : DReq) (f : Blk → Blk), (b.head h).link ≠ 2 ∨ (b.head h).failed = true ∨ b.mgmt = false → b.admitReq (.mb h m) q f = b) ∧
  (∀ (b : Blk) (src : Src), b.level src = 2 ↔ srcMaint src = true ∧ (b.session (transOf src)).maint = true) ∧
  (∀ (b : Blk) (h : Head) (m : Bool), b.level (.mb h m) ≠ 2 → b.level (.mb h m) = 1) ∧
  (∀ (b c : Blk) (src : Src) (idx sub : Nat) (val : List Byte),
    Requests b src { op := 2, idx := idx, sub := sub, w67 := val.length, data := val } c → c.checkWrite src false idx sub val = 0 → WriteRuns b src idx sub val c) ∧
  (∀ (b c : Blk) (src : Src) (idx sub : Nat) (bytes : List Byte),
    Requests b src { op := 8, idx := idx, sub := sub, data := leBytes 4 bytes.length } c → c.bulkOf src = none → c.checkOpenWrite src idx sub = 0 → OpensWrite b src idx sub bytes c)

/-- A Read, Write or Stage that is taken up and fails a check of R270 is answered with the status of the first check that fails, and that answer is all it does; at a mailbox that takes none a request has no effect. -/
def Obligations.RefusedRequestsAreAnsweredAlone : Prop :=
  (∀ (a : Stamp) (src : Src) (idx : BitVec 16) (sub : BitVec 8) (c : Blk) (s : State) (b : Blk), s.blk.at a = b →
    Requests b src { op := 1, idx := idx.toNat, sub := sub.toNat } c → c.checkRead src idx.toNat sub.toNat ≠ 0 →
    exec (.read a src idx sub) s = .next { s with blk := c.reply src { op := 1, idx := idx.toNat, sub := sub.toNat, st := c.checkRead src idx.toNat sub.toNat } }) ∧
  (∀ (a : Stamp) (src : Src) (idx : BitVec 16) (sub : BitVec 8) (val : List Byte) (c : Blk) (s : State) (b : Blk), s.blk.at a = b →
    Requests b src { op := 2, idx := idx.toNat, sub := sub.toNat, w67 := val.length, data := val } c → c.checkWrite src false idx.toNat sub.toNat val ≠ 0 →
    exec (.write a src idx sub val) s = .next { s with blk := c.reply src { op := 2, idx := idx.toNat, sub := sub.toNat, st := c.checkWrite src false idx.toNat sub.toNat val } }) ∧
  (∀ (a : Stamp) (src : Src) (idx : BitVec 16) (sub : BitVec 8) (val : List Byte) (c : Blk) (s : State) (b : Blk), s.blk.at a = b →
    Requests b src { op := 3, idx := idx.toNat, sub := sub.toNat, w67 := val.length, data := val } c → c.checkWrite src true idx.toNat sub.toNat val ≠ 0 →
    exec (.stage a src idx sub val) s = .next { s with blk := c.reply src { op := 3, idx := idx.toNat, sub := sub.toNat, st := c.checkWrite src true idx.toNat sub.toNat val } }) ∧
  (∀ (a : Stamp) (h : Head) (m : Bool) (idx : BitVec 16) (sub : BitVec 8) (val : List Byte) (s : State) (b : Blk), s.blk.at a = b → b.mailboxOpen h = false →
    exec (.write a (.mb h m) idx sub val) s = .next { s with blk := b } ∧ exec (.read a (.mb h m) idx sub) s = .next { s with blk := b } ∧
      exec (.stage a (.mb h m) idx sub val) s = .next { s with blk := b })

/-- A read that no decoder maps, whose DPA has both alias bits set, that lies in no added region and outside the telemetry window, that comes before Memory Active, or that comes in a stop, is counted and reported under the first check it fails and refused, without entering ingress; at a head that takes no requests it has no effect. The same holds of a write. -/
def Obligations.HostRequestsTurnedAway : Prop :=
  ∀ (a : Stamp) (h : Head) (hpa tag : Nat) (data : Half) (poison : Bool) (s : State) (b : Blk), s.blk.at a = b →
    (b.takes h = false → exec (.memRd a h hpa tag) s = .next { s with blk := b } ∧ exec (.memWr a h hpa tag data poison) s = .next { s with blk := b }) ∧
    (b.takes h = true →
      (decodeHpa (b.head h).decoders 0 hpa = none →
        exec (.memRd a h hpa tag) s = .next { s with blk := (b.failCheck h 0x2002 0x0A hpa none).refuse h .rd tag } ∧
        exec (.memWr a h hpa tag data poison) s = .next { s with blk := (b.failCheck h 0x2002 0x0A hpa none).refuse h .wr tag }) ∧
      (∀ dpa, decodeHpa (b.head h).decoders 0 hpa = some dpa →
        (fld dpa 43 2 = 3 →
          exec (.memRd a h hpa tag) s = .next { s with blk := (b.failCheck h 0x2003 0x0B hpa none).refuse h .rd tag } ∧
          exec (.memWr a h hpa tag data poison) s = .next { s with blk := (b.failCheck h 0x2003 0x0B hpa none).refuse h .wr tag }) ∧
        (fld dpa 43 2 ≠ 3 → b.hasCapacity h (dpa % 2 ^ 43) = false →
          exec (.memRd a h hpa tag) s = .next { s with blk := (b.failCheck h 0x2004 0x0C hpa (some (dpa % 2 ^ 43))).refuse h .rd tag } ∧
          exec (.memWr a h hpa tag data poison) s = .next { s with blk := (b.failCheck h 0x2004 0x0C hpa (some (dpa % 2 ^ 43))).refuse h .wr tag }) ∧
        (fld dpa 43 2 ≠ 3 → b.hasCapacity h (dpa % 2 ^ 43) = true → b.memoryActive = false →
          exec (.memRd a h hpa tag) s = .next { s with blk := (b.failEarly h hpa).refuse h .rd tag } ∧
          exec (.memWr a h hpa tag data poison) s = .next { s with blk := (b.failEarly h hpa).refuse h .wr tag }) ∧
        (fld dpa 43 2 ≠ 3 → b.hasCapacity h (dpa % 2 ^ 43) = true → b.memoryActive = true → b.stopped = true →
          exec (.memRd a h hpa tag) s = .next { s with blk := b.refuse h .rd tag } ∧
          exec (.memWr a h hpa tag data poison) s = .next { s with blk := b.refuse h .wr tag })))

/-- An object transfer of OD 0x6820.01 passes its checks only through a mailbox, at maintenance level and with NVWP_N high; the 32 B then stand as the KEK in place of the old one, and OD 0x6820.02 reads the first 8 B of AES-256(KEK, 0). -/
def Obligations.KeyEncryptionKeyRule : Prop :=
  (∀ (b : Blk) (src : Src), b.checkOpenWrite src 0x6820 0x01 = 0 → (∃ h m, src = .mb h m) ∧ b.level src = 2 ∧ b.nvwp = true) ∧
  (∀ (a : Stamp) (src : Src) (key : BitVec 256) (s : State) (b c : Blk), s.blk.at a = b → OpensWrite b src 0x6820 0x01 (leBytes 32 key.toNat) c →
    ∃ t : Blk, exec (.keyEncryptionKey a src key) s = .next { s with blk := t } ∧ t.damask.kek = some key ∧
      t.odBytes (transOf src) 0x6820 0x02 = leBytes 8 ((Config.aes256 key 0).setWidth 64).toNat)

/-- Maintenance access for the register interface is open at a head exactly while a maintenance session is open on that head's mailbox. While it is not, an indirect write of a register that exists and is not gated is never posted: REFUSED is set and what the register holds is unchanged (R9, R267, R299). -/
def Obligations.MaintenanceAccessGuardsRegisters : Prop :=
  (∀ b : Blk, (b.maintAt .A = true ↔ b.sesA.maint = true) ∧ (b.maintAt .B = true ↔ b.sesB.maint = true)) ∧
  (∀ (a : Stamp) (h : Head) (bytes : Nat) (v : BitVec 64) (s : State) (b : Blk), s.blk.at a = b → b.barOpen h = true → (bytes = 4 ∨ bytes = 8) →
    (b.head h).ctl.width ≤ bytes → iValid (b.head h).ctl.iaddr (b.head h).ctl.width = true → (b.ackPosted h).iGated (b.head h).ctl.iaddr = false →
    (b.ackPosted h).maintAt h = false →
    exec (.idataWrite a h bytes v) s = .next { s with
      blk := ((b.ackPosted h).refuseWrite h (b.head h).ctl.iaddr).onCtl h fun c => if c.ictl.getLsbD 3 then c.advance else c } ∧
    ((b.head h).ctl.posted = none → ∃ t : Blk, exec (.idataWrite a h bytes v) s = .next { s with blk := t } ∧ t.regs = b.regs))

/-- A MemRd, MemRdData, MemWr or byte-enabled write that the head takes, that a decoder maps, whose DPA has no reserved alias bits and lies in added capacity, after Memory Active and with no stop, takes its place at ingress; a MemSpecRd has no effect; an unsupported request is counted, reported and refused (R210, R213). -/
def Obligations.HostRequestsEnterIngress : Prop :=
  (∀ (a : Stamp) (h : Head) (hpa tag : Nat) (dpa : Nat) (s : State) (b : Blk), s.blk.at a = b → b.takes h = true → decodeHpa (b.head h).decoders 0 hpa = some dpa → fld dpa 43 2 < 3 → b.hasCapacity h (dpa % 2 ^ 43) = true → b.memoryActive = true → b.stopped = false → 
    exec (.memRd a h hpa tag) s = .next { s with blk := b.place h .rd hpa tag dpa 0 (BitVec.allOnes 64) false }) ∧
  (∀ (a : Stamp) (h : Head) (hpa tag : Nat) (dpa : Nat) (s : State) (b : Blk), s.blk.at a = b → b.takes h = true → decodeHpa (b.head h).decoders 0 hpa = some dpa → fld dpa 43 2 < 3 → b.hasCapacity h (dpa % 2 ^ 43) = true → b.memoryActive = true → b.stopped = false → 
    exec (.memRdData a h hpa tag) s = .next { s with blk := b.place h .rdData hpa tag dpa 0 (BitVec.allOnes 64) false }) ∧
  (∀ (a : Stamp) (h : Head) (hpa tag : Nat) (data : Half) (poison : Bool) (dpa : Nat) (s : State) (b : Blk), s.blk.at a = b → b.takes h = true → decodeHpa (b.head h).decoders 0 hpa = some dpa → fld dpa 43 2 < 3 → b.hasCapacity h (dpa % 2 ^ 43) = true → b.memoryActive = true → b.stopped = false → 
    exec (.memWr a h hpa tag data poison) s = .next { s with blk := b.place h .wr hpa tag dpa data (BitVec.allOnes 64) poison }) ∧
  (∀ (a : Stamp) (h : Head) (hpa tag : Nat) (data : Half) (mask : HalfMask) (poison : Bool) (dpa : Nat) (s : State) (b : Blk), s.blk.at a = b → b.takes h = true → decodeHpa (b.head h).decoders 0 hpa = some dpa → fld dpa 43 2 < 3 → b.hasCapacity h (dpa % 2 ^ 43) = true → b.memoryActive = true → b.stopped = false → 
    exec (.memWrPtl a h hpa tag data mask poison) s = .next { s with blk := b.place h .wrPtl hpa tag dpa data mask poison }) ∧
  (∀ (a : Stamp) (h : Head) (hpa tag : Nat) (s : State) (b : Blk), s.blk.at a = b → 
    exec (.memSpecRd a h hpa tag) s = .next { s with blk := b }) ∧
  (∀ (a : Stamp) (h : Head) (hpa tag : Nat) (isRead : Bool) (s : State) (b : Blk), s.blk.at a = b → b.takes h = true → 
    exec (.unsupportedRequest a h hpa tag isRead) s = .next { s with
      blk := ((b.bump (headIdx h) 0x0E 1).report { code := 0x2006, cls := 1, unit := BitVec.ofNat 16 (headNum h), hpa := some hpa }).refuse h (if isRead then .rd else .wr) tag })

/-- With a request of a head at place i of its ingress: outside the telemetry window it is accepted when mayAccept holds, the conjunction of every condition of acceptance; in the window it is answered when requests are served. A telemetry window access that the head takes is answered from the window when requests are served, and refused in a stop after Memory Active (R37, R161 to R163, R213, R383). -/
def Obligations.AcceptanceAndWindow : Prop :=
  (∀ (a : Stamp) (h : Head) (i : Nat) (dp : DpErr) (r : Req) (s : State) (b : Blk), s.blk.at a = b → (b.head h).ingress[i]? = some r → inWindow r.dpa = false → b.mayAccept h r = true → 
    exec (.acceptance a h i dp) s = .next { s with blk := b.acceptNow h r dp }) ∧
  (∀ (a : Stamp) (h : Head) (i : Nat) (dp : DpErr) (r : Req) (s : State) (b : Blk), s.blk.at a = b → (b.head h).ingress[i]? = some r → inWindow r.dpa = true → b.serving = true → 
    exec (.acceptance a h i dp) s = .next { s with blk := b.acceptWindow h r dp }) ∧
  (∀ (a : Stamp) (h : Head) (tag : Nat) (off : BitVec 26) (isWrite : Bool) (s : State) (b : Blk), s.blk.at a = b → b.takes h = true → b.serving = true → 
    exec (.telemetryWindowAccess a h tag off isWrite) s = .next { s with blk := b.windowAccess h tag off.toNat (if isWrite then some (0, 0) else none) {} }) ∧
  (∀ (a : Stamp) (h : Head) (tag : Nat) (off : BitVec 26) (isWrite : Bool) (s : State) (b : Blk), s.blk.at a = b → b.takes h = true → b.memoryActive = true → b.stopped = true → 
    exec (.telemetryWindowAccess a h tag off isWrite) s = .next { s with blk := b.refuse h (if isWrite then .wr else .rd) tag })

/-- The read at the front of a partition that may be read, first in the die's order, is served from the buffers where they hold its line and else sent to the die. A transfer that is due and whose strobe, CRC, SEQ, partition and line are right clears the read, records the die's status and hands the line over; with any of them wrong it is a failed transfer. A reconstruction whose members are home, within the tolerance, gives its line when it solves and its tag agrees, and begins deep recovery when it does not. The line of a waiting fill enters its way, and a bad one is filled again (R40, R43 to R45, R47, R180, R194). -/
def Obligations.ReadsIssueAndReturn : Prop :=
  (∀ (a : Stamp) (ch : Fin 32) (die : Fin 8) (part : Fin 32) (t : ReadTask) (s : State) (b : Blk), s.blk.at a = b → (b.part (partOf ch die part)).next = some t → b.freeForRead (partOf ch die part) = true → b.firstInOrder (partOf ch die part) t = true → 
    exec (.readIssue a ch die part) s = .next { s with
      blk := (if b.buffered t then (b.onPart (partOf ch die part) PartSt.taken).fromBuffer t else b.issue (partOf ch die part) t).readOn (partOf ch die part / 32) }) ∧
  (∀ (a : Stamp) (ch : Fin 32) (die : Fin 8) (part : Fin 32) (x : Xfer) (t : ReadTask) (s : State) (b : Blk), s.blk.at a = b → (b.part (partOf ch die part)).sent = some t → t.due ≤ b.now → x.strobe = true → x.crcOk = true → stSeq x.st = t.seq → (stPart x.st).toNat = part.val → (stLine x.st).toNat = t.loc % 2 ^ 23 → 
    exec (.readTransfer a ch die part x) s = .next { s with
      blk := (((((b.tw (32 + ch.val) 1).phaseSeen (partOf ch die part / 32) x).onPart (partOf ch die part) fun p => { p with sent := none }).dieStatus
          (partOf ch die part / 32) (stAlrt x.st) (stTval x.st) (stTemp x.st)).transferred t x).readOn (partOf ch die part / 32) }) ∧
  (∀ (a : Stamp) (ch : Fin 32) (die : Fin 8) (part : Fin 32) (x : Xfer) (t : ReadTask) (s : State) (b : Blk), s.blk.at a = b → (b.part (partOf ch die part)).sent = some t → t.due ≤ b.now → (x.strobe = false ∨ x.crcOk = false ∨ stSeq x.st ≠ t.seq ∨ (stPart x.st).toNat ≠ part.val ∨ (stLine x.st).toNat ≠ t.loc % 2 ^ 23) → 
    exec (.readTransfer a ch die part x) s = .next { s with
      blk := ((b.tw (32 + ch.val) 1).phaseSeen (partOf ch die part / 32) x).transferFailed (partOf ch die part) t x.strobe }) ∧
  (∀ (a : Stamp) (rid : Nat) (lost : List (Fin 18)) (dp : DpErr) (c : Blk) (x : Acc) (p : Place) (erased : List Nat) (s : State) (b : Blk), s.blk.at a = b → b.settleTags = c → c.accOf rid = some x → x.stage = .recon → x.tagWait = false → x.listWait = false → c.membersHome rid = true → c.lookup x.line = some p → lost.foldl (fun l m => insUniq m.val l) x.erased = erased → erased.length < toleranceOf p.cls → 
    exec (.reconstructionComplete a rid lost dp) s = .next { s with
      blk := match c.solve p erased with
          | none => c.startDeep rid false
          | some cipher => match c.openLine x.line p cipher with
          | some line => (c.lineData rid line dp).readOn 0
          | none => c.startDeep rid true }) ∧
  (∀ (a : Stamp) (li : BitVec 36) (bad : Bool) (line : Line) (s : State) (b : Blk), s.blk.at a = b → b.path.fills.find li.toNat = some (bad, line) → 
    exec (.fillReturn a li) s = .next { s with
      blk := if bad then (b.onPath fun p => { p with fills := p.fills.del li.toNat }).startFill .A li.toNat .fill []
          else (b.onPath fun p => { p with fills := p.fills.del li.toNat }).applyFill li.toNat line })

/-- A program that is suspended resumes once no read waits at its partition, its suspended time is added up; the program guard is set at 20 µs of suspension and the reset guard when a reset has waited 20 µs (R41, R42). With the deadline response enabled a host read past its deadline is answered from deep recovery and its lost halves are listed; at 200 µs deep recovery ends with poison for every half it has not got (R47, R51, R102). -/
def Obligations.GuardsResumeAndDeepRecovery : Prop :=
  (∀ (a : Stamp) (ch : Fin 32) (die : Fin 8) (part : Fin 32) (s : State) (b : Blk), s.blk.at a = b → (b.part (partOf ch die part)).suspended = true → (b.part (partOf ch die part)).queue = [] → (b.part (partOf ch die part)).prio = none → (b.part (partOf ch die part)).sent = none → 
    exec (.programResume a ch die part) s = .next { s with
      blk := (b.onPart (partOf ch die part) fun p => { p with suspended := false, suspTotal := p.suspTotal + (b.now - p.suspSince), readyAt := b.now + 60 }).sendDie
          (partOf ch die part / 32) (.rsm (BitVec.ofNat 5 part.val)) }) ∧
  (∀ (a : Stamp) (ch : Fin 32) (die : Fin 8) (part : Fin 32) (line : Nat) (content : MLine) (why : ProgFor) (ovw denim : Bool) (tries : Nat) (s : State) (b : Blk), s.blk.at a = b → (b.part (partOf ch die part)).op = .program line content why ovw denim tries → 20000 ≤ (b.part (partOf ch die part)).suspTotal + (if (b.part (partOf ch die part)).suspended then b.now - (b.part (partOf ch die part)).suspSince else 0) → (b.part (partOf ch die part)).progGuard = false → 
    exec (.programGuard a ch die part) s = .next { s with blk := (b.onPart (partOf ch die part) fun p => { p with progGuard := true }).tw (64 + ch.val) 1 }) ∧
  (∀ (a : Stamp) (ch : Fin 32) (die : Fin 8) (part : Fin 32) (tile count t : Nat) (o : Option Nat) (rest : List (Nat × Nat × Nat × Option Nat)) (s : State) (b : Blk), s.blk.at a = b → (b.part (partOf ch die part)).resetWait = (tile, count, t, o) :: rest → b.reserved (partOf ch die part) = true → 20000 ≤ b.since t → 
    exec (.resetGuard a ch die part) s = .next { s with blk := b.onPart (partOf ch die part) fun p => { p with resetGuard := true } }) ∧
  (∀ (a : Stamp) (rid : Nat) (x : Acc) (d : Deep) (s : State) (b : Blk), s.blk.at a = b → b.accOf rid = some x → b.waitsDeep x = some d → b.cfgFor x.epoch 0x5810 0x01 = 1 → x.req.kind.isRead = true → x.accAt + b.cfgFor x.epoch 0x5810 0x02 ≤ b.now → 
    exec (.deadlineExpiry a rid) s = .next { s with
      blk := (if d.whole (halfIdx x.req.dpa) then b.deadlineList d else (b.deadlineList d).bump 0x5810 0x05 1).answerDeep x }) ∧
  (∀ (a : Stamp) (rid : Nat) (d : Deep) (s : State) (b : Blk), s.blk.at a = b → (b.path.deeps.find? fun y => y.num == rid) = some d → 200000 ≤ b.since d.start → 
    exec (.deepRecoveryTimeout a rid) s = .next { s with
      blk := (let b2 := ((b.poisonRest d).deepAccs d).foldl (fun b x => if x.req.kind.isHost then b.answerDeep x else b.endAcc x) (b.poisonRest d)
          let b3 := ((b2.poisonFill d.li).dropDeep d).deepJobs d.li fun j => { j with given := d.li :: j.given }
          (if d.tagBad then b3.damaskFailure d.li else b3).drive) }) ∧
  (∀ (a : Stamp) (rid : Nat) (step : RecoveryStep) (dp : DpErr) (d : Deep) (x : Line) (p : Place) (line : Line) (s : State) (b : Blk), s.blk.at a = b → (b.path.deeps.find? fun y => y.num == rid) = some d → b.recovered d step = some x → b.lookup d.li = some p → b.openLine d.li p x = some line → (d.listed0 || d.listed1) = false → 
    exec (.deepRecoverySuccess a rid step dp) s = .next { s with
      blk := (let b1 := ((b.dropDeep d).bump 0x5810 0x04 1).deepJobs d.li fun j => { j with held := j.held.put d.li x }
          let b2 := (b1.unlistRecovered (2 * d.li) d.listed0).unlistRecovered (2 * d.li + 1) d.listed1
          let b3 := ((b.deepAccs d).foldl (fun b x => if d.rids.contains x.rid then b.lineData x.rid line dp else b) b2).applyFill d.li line
          b3.drive) }) ∧
  (∀ (a : Stamp) (rid : Nat) (step : RecoveryStep) (dp : DpErr) (d : Deep) (x : Line) (p : Place) (line : Line) (s : State) (b : Blk), s.blk.at a = b → (b.path.deeps.find? fun y => y.num == rid) = some d → b.recovered d step = some x → b.lookup d.li = some p → b.openLine d.li p x = some line → (d.listed0 || d.listed1) = true → b.freeBuf.isNone = false → 
    exec (.deepRecoverySuccess a rid step dp) s = .next { s with
      blk := (let b1 := ((b.dropDeep d).bump 0x5810 0x04 1).deepJobs d.li fun j => { j with held := j.held.put d.li x }
          let b2 := (b1.unlistRecovered (2 * d.li) d.listed0).unlistRecovered (2 * d.li + 1) d.listed1
          let b3 := ((b.deepAccs d).foldl (fun b x => if d.rids.contains x.rid then b.lineData x.rid line dp else b) b2).applyFill d.li line
          (((b3.writeBack d.li line).bump 0x5810 0x06 1).report { code := 0x5802, dpa := some (dpaOfLine d.li) }).drive) })

/-- While Twill works: a holding buffer, or a write-through line with waiting writes, whose path is cold and whose home stripe is open for a cold write, has its datapath checked and starts its cold write: the stripe locked, its lines read, then driven on. A buffer or a write-through line whose path is hot, whose datapath check passes and for which the lane qualifies takes the lane's next position and is programmed there (R57, R58, R59, R61, R62, R90, R148). The good end of a program on a die that has not failed stores its line; a Voile program is then done and frees its partition, a Denim one goes on to its write-verify. A failed one is counted and its location retired. A tile reset that waits starts, with its TRS word, once nothing else holds the partition or forbids it. The good end of a tile reset blanks its tiles; a failed one is counted, reported and its tile noted (R25, R32, R38, R192 to R194, R196, R434). -/
def Obligations.WritesProgramsAndTileResets : Prop :=
  (∀ (a : Stamp) (e : EgressErr) (n : Fin 4096) (x : HBuf) (c : Blk) (p : Place) (s : State) (b : Blk), s.blk.at a = b → b.works = true → b.velvet.bufs.find n.val = some x → x.issued = false → b.pathFor x.li x.hotPath = .cold → b.egress x.li x.data e = (c, true) → c.homeOf x.li = some p → c.pastTolerance p = false → c.coldOpen x.li p = true → c.doing (.cold n.val) = false → 
    exec (.coldPathWrite a (.buffer n) e) s = .next { s with blk := ((c.startCold (.cold n.val) x.li []).countStall (c.stallsAppend x.li x.hotPath)).drive }) ∧
  (∀ (a : Stamp) (e : EgressErr) (li : BitVec 36) (k : Nat) (v : VWay) (c : Blk) (p : Place) (s : State) (b : Blk), s.blk.at a = b → b.works = true → b.resident li.toNat = some (k, v) → b.homeOf li.toNat = some p → b.throughWaiting li.toNat ≠ 0 → b.throughRuns li.toNat = false → v.wt = true → v.whole = true → b.pathFor li.toNat true = .cold → b.egress li.toNat v.data e = (c, true) → c.pastTolerance p = false → c.coldOpen li.toNat p = true → 
    exec (.coldPathWrite a (.line li) e) s = .next { s with
      blk := ((c.startCold (.through li.toNat) li.toNat []).countStall (c.stallsAppend li.toNat true)).drive }) ∧
  (∀ (a : Stamp) (n : Fin 4096) (lane : Fin 256) (e : EgressErr) (x : HBuf) (l : Lane) (c : Blk) (s : State) (b : Blk), s.blk.at a = b → b.velvet.bufs.find n.val = some x → b.twill.lanes.find lane.val = some l → x.issued = false → b.works = true → b.pathFor x.li x.hotPath = .hot → b.egress x.li x.data e = (c, true) → c.laneQualifies x.li l = true → c.laneChosen lane.val = false → c.tagRoom x.li = true → (c.hotWayFor x.li).isNone = false → c.lineGone (c.laneLoc l) = false → 
    exec (.hotAppend a n lane e) s = .next { s with
      blk := ((((c.keepWay x.li).takePosition x.li x.data lane.val l).1.putBuf n.val { x with issued := true, again := false, hotPath := true }).program
          { loc := ((c.keepWay x.li).takePosition x.li x.data lane.val l).2.1, c := ((c.keepWay x.li).takePosition x.li x.data lane.val l).2.2, why := .append n.val l.slot l.stripeNo l.pos, ovw := false, denim := l.cls == .denim }).drive }) ∧
  (∀ (a : Stamp) (li : BitVec 36) (lane : Fin 256) (e : EgressErr) (k : Nat) (v : VWay) (l : Lane) (c : Blk) (s : State) (b : Blk), s.blk.at a = b → b.chosenLane li.toNat = none → b.resident li.toNat = some (k, v) → b.twill.lanes.find lane.val = some l → b.throughWaiting li.toNat ≠ 0 → b.throughRuns li.toNat = false → v.wt = true → v.whole = true → b.works = true → b.pathFor li.toNat true = .hot → b.throughLane li.toNat l = true → b.tagRoom li.toNat = true → b.egress li.toNat v.data e = (c, true) → 
    exec (.writeThroughWrite a li lane e) s = .next { s with
      blk := ((((c.keepWay li.toNat).takePosition li.toNat v.data lane.val l).1.onPath fun p => { p with acc := p.acc.map fun x => if x.stage == .program && x.line == li.toNat then { x with wrote := true, lane := none } else x }).tw 107 (b.throughWaiting li.toNat)).program
          { loc := ((c.keepWay li.toNat).takePosition li.toNat v.data lane.val l).2.1, c := ((c.keepWay li.toNat).takePosition li.toNat v.data lane.val l).2.2, why := .writeThrough li.toNat l.slot l.stripeNo l.pos, ovw := false, denim := l.cls == .denim } }) ∧
  (∀ (a : Stamp) (ch : Fin 32) (die : Fin 8) (part : Fin 32) (ok : Bool) (line : Nat) (content : MLine) (why : ProgFor) (ovw denim : Bool) (tries : Nat) (c : Blk) (s : State) (b : Blk), s.blk.at a = b → (b.part (partOf ch die part)).suspended = false → (b.part (partOf ch die part)).op = .program line content why ovw denim tries → b.dieBusy (partOf ch die part / 32) (b.since (b.part (partOf ch die part)).since) = c → c.dieFailed (partOf ch die part / 32) = false → (c.part (partOf ch die part)).op = .program line content why ovw denim tries → ok = true → denim = false → 
    exec (.programComplete a ch die part ok) s = .next { s with
      blk := (((c.storeLine (locOf (partOf ch die part) line) content).onPart (partOf ch die part) PartSt.ended).programStored why (c.part (partOf ch die part)).since).goOn (partOf ch die part / 32) }) ∧
  (∀ (a : Stamp) (ch : Fin 32) (die : Fin 8) (part : Fin 32) (ok : Bool) (line : Nat) (content : MLine) (why : ProgFor) (ovw denim : Bool) (tries : Nat) (c : Blk) (s : State) (b : Blk), s.blk.at a = b → (b.part (partOf ch die part)).suspended = false → (b.part (partOf ch die part)).op = .program line content why ovw denim tries → b.dieBusy (partOf ch die part / 32) (b.since (b.part (partOf ch die part)).since) = c → c.dieFailed (partOf ch die part / 32) = false → (c.part (partOf ch die part)).op = .program line content why ovw denim tries → ok = true → denim = true → 
    exec (.programComplete a ch die part ok) s = .next { s with
      blk := (((c.storeLine (locOf (partOf ch die part) line) content).onPart (partOf ch die part) fun p => { p with op := .verify line content why ovw tries false }).askVerify (partOf ch die part)).goOn (partOf ch die part / 32) }) ∧
  (∀ (a : Stamp) (ch : Fin 32) (die : Fin 8) (part : Fin 32) (ok : Bool) (line : Nat) (content : MLine) (why : ProgFor) (ovw denim : Bool) (tries : Nat) (c : Blk) (s : State) (b : Blk), s.blk.at a = b → (b.part (partOf ch die part)).suspended = false → (b.part (partOf ch die part)).op = .program line content why ovw denim tries → b.dieBusy (partOf ch die part / 32) (b.since (b.part (partOf ch die part)).since) = c → c.dieFailed (partOf ch die part / 32) = false → (c.part (partOf ch die part)).op = .program line content why ovw denim tries → ok = false → 
    exec (.programComplete a ch die part ok) s = .next { s with
      blk := (((c.onPart (partOf ch die part) PartSt.ended).bump (0x3800 + partOf ch die part / 32) 0x04 1).retireLocation (partOf ch die part) line content why).goOn (partOf ch die part / 32) }) ∧
  (∀ (a : Stamp) (ch : Fin 32) (die : Fin 8) (part : Fin 32) (tile count t : Nat) (o : Option Nat) (rest : List (Nat × Nat × Nat × Option Nat)) (s : State) (b : Blk), s.blk.at a = b → (b.part (partOf ch die part)).resetWait = (tile, count, t, o) :: rest → b.mayReset (partOf ch die part) = true → 
    exec (.tileResetStart a ch die part) s = .next { s with
      blk := ((b.onPart (partOf ch die part) fun p => { p with op := .reset tile count o, resetWait := rest, resetGuard := false, since := b.now }).twChan ch.val 4).sendDie (partOf ch die part / 32)
          (.trs (BitVec.ofNat 5 part.val) (BitVec.ofNat 17 tile) (BitVec.ofNat 2 count)) }) ∧
  (∀ (a : Stamp) (ch : Fin 32) (die : Fin 8) (part : Fin 32) (ok : Bool) (tile count : Nat) (s : State) (b : Blk), s.blk.at a = b → (b.part (partOf ch die part)).op = .reset tile count none → ok = true → 
    exec (.tileResetComplete a ch die part ok) s = .next { s with
      blk := (((b.onPart (partOf ch die part) fun p => { p with op := .idle }).dieBusy (partOf ch die part / 32) (b.since (b.part (partOf ch die part)).since)).blankTiles (partOf ch die part) tile count).goOn (partOf ch die part / 32) }) ∧
  (∀ (a : Stamp) (ch : Fin 32) (die : Fin 8) (part : Fin 32) (ok : Bool) (tile count k : Nat) (s : State) (b : Blk), s.blk.at a = b → (b.part (partOf ch die part)).op = .reset tile count (some k) → ok = true → 
    exec (.tileResetComplete a ch die part ok) s = .next { s with
      blk := ((((b.onPart (partOf ch die part) fun p => { p with op := .idle }).dieBusy (partOf ch die part / 32) (b.since (b.part (partOf ch die part)).since)).blankTiles (partOf ch die part) tile count).resetOver k).goOn (partOf ch die part / 32) }) ∧
  (∀ (a : Stamp) (ch : Fin 32) (die : Fin 8) (part : Fin 32) (ok : Bool) (tile count : Nat) (s : State) (b : Blk), s.blk.at a = b → (b.part (partOf ch die part)).op = .reset tile count none → ok = false → 
    exec (.tileResetComplete a ch die part ok) s = .next { s with
      blk := (((((b.onPart (partOf ch die part) fun p => { p with op := .idle }).dieBusy (partOf ch die part / 32) (b.since (b.part (partOf ch die part)).since)).bump (0x3800 + partOf ch die part / 32) 0x05 1).reportUnit 0x3803 3 (partOf ch die part / 32)).tileFailure (partOf ch die part / 32) ((partOf ch die part % 32) * 131072 + tile)).goOn (partOf ch die part / 32) }) ∧
  (∀ (a : Stamp) (ch : Fin 32) (die : Fin 8) (part : Fin 32) (ok : Bool) (tile count k : Nat) (s : State) (b : Blk), s.blk.at a = b → (b.part (partOf ch die part)).op = .reset tile count (some k) → ok = false → 
    exec (.tileResetComplete a ch die part ok) s = .next { s with
      blk := ((((((b.onPart (partOf ch die part) fun p => { p with op := .idle }).dieBusy (partOf ch die part / 32) (b.since (b.part (partOf ch die part)).since)).bump (0x3800 + partOf ch die part / 32) 0x05 1).reportUnit 0x3803 3 (partOf ch die part / 32)).tileFailure (partOf ch die part / 32) ((partOf ch die part % 32) * 131072 + tile)).retireTile k |>.resetOver k).goOn (partOf ch die part / 32) })

/-- An admitted request starts a clean, invalidate or clean-and-invalidate of a range whose bytes all lie in added regions, and one line by address or by set and way, when no range operation runs (R150, R151). -/
def Obligations.CacheMaintenanceByRequest : Prop :=
  (∀ (a : Stamp) (src : Src) (c : Blk) (s : State) (b : Blk), s.blk.at a = b → WriteRuns b src 0x6010 0x03 [1] c → c.velvet.rangeOp = none → c.cfg 0x6010 0x02 ≠ 0 → c.addedBytes (c.cfg 0x6010 0x01 / 128 * 128) ((c.cfg 0x6010 0x01 + c.cfg 0x6010 0x02 + 127) / 128 * 128) = ((c.cfg 0x6010 0x01 + c.cfg 0x6010 0x02 + 127) / 128 * 128) - (c.cfg 0x6010 0x01 / 128 * 128) → 
    exec (.rangeClean a src) s = .next { s with
      blk := (((c.onVelvet fun v => { v with rangeOp := some { code := 1, lines := c.rangeLines 1 (c.cfg 0x6010 0x01 / 128 * 128) ((c.cfg 0x6010 0x01 + c.cfg 0x6010 0x02 + 127) / 128 * 128) } }).maintain).wrote src 0x6010 0x03 0) }) ∧
  (∀ (a : Stamp) (src : Src) (c : Blk) (s : State) (b : Blk), s.blk.at a = b → WriteRuns b src 0x6010 0x03 [2] c → c.velvet.rangeOp = none → c.cfg 0x6010 0x02 ≠ 0 → c.addedBytes (c.cfg 0x6010 0x01 / 128 * 128) ((c.cfg 0x6010 0x01 + c.cfg 0x6010 0x02 + 127) / 128 * 128) = ((c.cfg 0x6010 0x01 + c.cfg 0x6010 0x02 + 127) / 128 * 128) - (c.cfg 0x6010 0x01 / 128 * 128) → 
    exec (.rangeInvalidate a src) s = .next { s with
      blk := ((((c.odSet 0x6010 0x06 0).onVelvet fun v => { v with rangeOp := some { code := 2, lines := c.rangeLines 2 (c.cfg 0x6010 0x01 / 128 * 128) ((c.cfg 0x6010 0x01 + c.cfg 0x6010 0x02 + 127) / 128 * 128) } }).maintain).wrote src 0x6010 0x03 0) }) ∧
  (∀ (a : Stamp) (src : Src) (c : Blk) (s : State) (b : Blk), s.blk.at a = b → WriteRuns b src 0x6010 0x03 [3] c → c.velvet.rangeOp = none → c.cfg 0x6010 0x02 ≠ 0 → c.addedBytes (c.cfg 0x6010 0x01 / 128 * 128) ((c.cfg 0x6010 0x01 + c.cfg 0x6010 0x02 + 127) / 128 * 128) = ((c.cfg 0x6010 0x01 + c.cfg 0x6010 0x02 + 127) / 128 * 128) - (c.cfg 0x6010 0x01 / 128 * 128) → 
    exec (.rangeCleanAndInvalidate a src) s = .next { s with
      blk := (((c.onVelvet fun v => { v with rangeOp := some { code := 3, lines := c.rangeLines 3 (c.cfg 0x6010 0x01 / 128 * 128) ((c.cfg 0x6010 0x01 + c.cfg 0x6010 0x02 + 127) / 128 * 128) } }).maintain).wrote src 0x6010 0x03 0) }) ∧
  (∀ (a : Stamp) (src : Src) (line : BitVec 57) (c : Blk) (li : Nat) (s : State) (b : Blk), s.blk.at a = b → WriteRuns b src 0x6020 0x01 (addressForm line 1) c → c.velvet.rangeOp = none → c.lineNamed line.toNat = some li → 
    exec (.lineCleanByAddress a src line) s = .next { s with blk := c.maintOps [{ src := src, sub := 0x01, op := 1, li := li }] }) ∧
  (∀ (a : Stamp) (src : Src) (line : BitVec 57) (c : Blk) (li : Nat) (s : State) (b : Blk), s.blk.at a = b → WriteRuns b src 0x6020 0x01 (addressForm line 2) c → c.velvet.rangeOp = none → c.lineNamed line.toNat = some li → 
    exec (.lineInvalidateByAddress a src line) s = .next { s with blk := (c.odSet 0x6010 0x06 0).maintOps [{ src := src, sub := 0x01, op := 2, li := li }] }) ∧
  (∀ (a : Stamp) (src : Src) (line : BitVec 57) (c : Blk) (li : Nat) (s : State) (b : Blk), s.blk.at a = b → WriteRuns b src 0x6020 0x01 (addressForm line 3) c → c.velvet.rangeOp = none → c.lineNamed line.toNat = some li → 
    exec (.lineCleanInvalidateByAddress a src line) s = .next { s with blk := c.maintOps [{ src := src, sub := 0x01, op := 3, li := li }] }) ∧
  (∀ (a : Stamp) (src : Src) (set : Fin 16384) (way : Fin 16) (c : Blk) (li : Nat) (s : State) (b : Blk), s.blk.at a = b → WriteRuns b src 0x6020 0x02 (setWayForm set way 1) c → c.velvet.rangeOp = none → c.wayNamed set.val way.val = some li → 
    exec (.lineCleanBySetAndWay a src set way) s = .next { s with blk := c.maintOps [{ src := src, sub := 0x02, op := 1, li := li }] }) ∧
  (∀ (a : Stamp) (src : Src) (set : Fin 16384) (way : Fin 16) (c : Blk) (li : Nat) (s : State) (b : Blk), s.blk.at a = b → WriteRuns b src 0x6020 0x02 (setWayForm set way 2) c → c.velvet.rangeOp = none → c.wayNamed set.val way.val = some li → 
    exec (.lineInvalidateBySetAndWay a src set way) s = .next { s with blk := (c.odSet 0x6010 0x06 0).maintOps [{ src := src, sub := 0x02, op := 2, li := li }] }) ∧
  (∀ (a : Stamp) (src : Src) (set : Fin 16384) (way : Fin 16) (c : Blk) (li : Nat) (s : State) (b : Blk), s.blk.at a = b → WriteRuns b src 0x6020 0x02 (setWayForm set way 3) c → c.velvet.rangeOp = none → c.wayNamed set.val way.val = some li → 
    exec (.lineCleanInvalidateBySetAndWay a src set way) s = .next { s with blk := c.maintOps [{ src := src, sub := 0x02, op := 3, li := li }] })

/-- A cleaning pass cleans the lines a barrier covers and then what is above the budget; a range operation with no line left ends with result 0; a hint of 1 to 4,096 lines with room is queued and counted and any other counted as dropped, a cancel takes the hints that overlap off, and a prefetch read takes the next line of the first hint, passes over it where it is to be skipped, and starts its fill where a way and the gate are open (R143, R150, R152, R153). A barrier request with fewer than 8 outstanding opens a barrier with the next number over the lines that must drain; the oldest barrier completes once none is left, with its number, loss flag and time recorded, and event 0x6003 where lines were lost; GPF phase 1 is answered at once and phase 2 when the writes accepted before it have completed or after 10 µs (R169, R170 to R173). -/
def Obligations.CleaningHintsBarriersAndFlush : Prop :=
  (∀ (a : Stamp) (s : State) (b : Blk), s.blk.at a = b → b.works = true → 
    exec (.dirtyCleaning a) s = .next { s with blk := b.cleanCovered.cleanBudget }) ∧
  (∀ (a : Stamp) (o : RangeOp) (s : State) (b : Blk), s.blk.at a = b → b.maintain.velvet.rangeOp = some o → o.lines = [] → 
    exec (.rangeOperationEnd a) s = .next { s with blk := (b.maintain.onVelvet fun v => { v with rangeOp := none }).odSet 0x6010 0x05 0 }) ∧
  (∀ (a : Stamp) (h : Head) (rec : BitVec 128) (s : State) (b : Blk), s.blk.at a = b → b.barOpen h = true → rec.getLsbD 96 = false → fld rec.toNat 64 32 ≠ 0 → fld rec.toNat 64 32 ≤ 4096 → (b.head h).hints.length < 256 → 
    exec (.hint a h rec) s = .next { s with
      blk := ((((b.onHead h fun x => { x with ctl := { x.ctl with hint0 := rec.setWidth 64, hint1 := rec.extractLsb' 64 64 } }).onHead h fun x => { x with hints := x.hints ++ [(fld rec.toNat 7 57, fld rec.toNat 64 32)] }).bump 0x6030 0x01 1).twHead h 15 1) }) ∧
  (∀ (a : Stamp) (h : Head) (rec : BitVec 128) (s : State) (b : Blk), s.blk.at a = b → b.barOpen h = true → rec.getLsbD 96 = false → (fld rec.toNat 64 32 = 0 ∨ 4096 < fld rec.toNat 64 32 ∨ 256 ≤ (b.head h).hints.length) → 
    exec (.hint a h rec) s = .next { s with
      blk := (b.onHead h fun x => { x with ctl := { x.ctl with hint0 := rec.setWidth 64, hint1 := rec.extractLsb' 64 64 } }).bump 0x6030 0x02 1 }) ∧
  (∀ (a : Stamp) (h : Head) (rec : BitVec 128) (s : State) (b : Blk), s.blk.at a = b → b.barOpen h = true → 
    exec (.hintCancel a h rec) s = .next { s with
      blk := (b.onHead h fun x => { x with ctl := { x.ctl with hint0 := (rec ||| (1 <<< 96)).setWidth 64, hint1 := (rec ||| (1 <<< 96)).extractLsb' 64 64 } }).onHead h fun x =>
          { x with hints := x.hints.filter fun y => !(decide (y.1 < fld (rec ||| (1 <<< 96)).toNat 7 57 + fld (rec ||| (1 <<< 96)).toNat 64 32) && decide (fld (rec ||| (1 <<< 96)).toNat 7 57 < y.1 + y.2)) } }) ∧
  (∀ (a : Stamp) (h : Head) (li : Nat) (rest : List (Nat × Nat)) (s : State) (b : Blk), s.blk.at a = b → nextHint (b.head h).hints = some (li, rest) → b.works = true → b.hintSkips li = false → b.gateOpen li = true → ((b.onHead h fun x => { x with hints := rest }).allocate li true { tag := 0, fillp := true, pf := true, mask := 0 }).isSome = true → 
    exec (.prefetchRead a h) s = .next { s with
      blk := (((b.onHead h fun x => { x with hints := rest }).allocate li true { tag := 0, fillp := true, pf := true, mask := 0 }).getD b).startFill h li .prefetch (b.reserves li) }) ∧
  (∀ (a : Stamp) (h : Head) (li : Nat) (rest : List (Nat × Nat)) (s : State) (b : Blk), s.blk.at a = b → nextHint (b.head h).hints = some (li, rest) → b.works = true → b.hintSkips li = true → 
    exec (.prefetchRead a h) s = .next { s with blk := b.onHead h fun x => { x with hints := rest } }) ∧
  (∀ (a : Stamp) (src : Src) (c : Blk) (s : State) (b : Blk), s.blk.at a = b → WriteRuns b src 0x6040 0x01 [1] c → c.path.barriers.length < 8 → 
    exec (.startBarrier a src) s = .next { s with
      blk := (let n := (c.cfg 0x6040 0x02 + 1) % 2 ^ 32
          let c1 := (c.onPath fun p => { p with barriers := p.barriers ++ [{ num := n, start := c.now, lines := c.barrierLines }] }).odSet 0x6040 0x02 n
          (if c.works then c1.cleanCovered else c1).wrote src 0x6040 0x01 0) }) ∧
  (∀ (a : Stamp) (x : Barrier) (rest : List Barrier) (s : State) (b : Blk), s.blk.at a = b → b.path.barriers = x :: rest → x.lines = [] → x.lost = [] → 
    exec (.barrierCompletion a) s = .next { s with
      blk := (((b.onPath fun p => { p with barriers := rest }).odSet 0x6040 0x03 x.num).odSet 0x6040 0x04 0).odSet 0x6040 0x06 (min (b.since x.start / 1000) (2 ^ 32 - 1)) }) ∧
  (∀ (a : Stamp) (x : Barrier) (rest : List Barrier) (s : State) (b : Blk), s.blk.at a = b → b.path.barriers = x :: rest → x.lines = [] → x.lost ≠ [] → 
    exec (.barrierCompletion a) s = .next { s with
      blk := (((((b.onPath fun p => { p with barriers := rest }).odSet 0x6040 0x03 x.num).odSet 0x6040 0x04 1).odSet 0x6040 0x06 (min (b.since x.start / 1000) (2 ^ 32 - 1))).bump 0x6040 0x05 1).report { code := 0x6003, data := barrierData x } }) ∧
  (∀ (a : Stamp) (h : Head) (s : State) (b : Blk), s.blk.at a = b → b.barOpen h = true → 
    exec (.gpfPhase1 a h) s = .next { s with blk := b.emit (.gpf h 1) }) ∧
  (∀ (a : Stamp) (h : Head) (s : State) (b : Blk), s.blk.at a = b → b.barOpen h = true → (b.head h).gpf = none → 
    exec (.gpfPhase2 a h) s = .next { s with blk := b.onHead h fun x => { x with gpf := some (b.now, b.openWrites) } }) ∧
  (∀ (a : Stamp) (h : Head) (t : Nat) (rids : List Nat) (s : State) (b : Blk), s.blk.at a = b → (b.head h).gpf = some (t, rids) → ((rids.all fun r => !b.openWrites.contains r) || decide (t + 10000 ≤ b.now)) = true → 
    exec (.gpfPhase2Complete a h) s = .next { s with blk := (b.onHead h fun x => { x with gpf := none }).emit (.gpf h 2) })

/-- With the mailbox open, Identify, Background Operation Status, Get Event Records, Get Event Interrupt Policy, Get FW Info, Get Timestamp, Get Supported Logs, Get Log of the command effects log, Identify Memory Device, Get Health Info, Get Alert Configuration and Get Shutdown State are answered Success with their fields (R219 to R228; the payload lists are the model's, log 31). -/
def Obligations.MailboxReports : Prop :=
  (∀ (a : Stamp) (h : Head) (s : State) (b : Blk), s.blk.at a = b → b.mailboxOpen h = true → 
    exec (.identify a h) s = .next { s with
      blk := b.mbReply h 0x0001 .success [Config.vendorId.toNat, Config.deviceId.toNat, Config.serial.toNat, 13] }) ∧
  (∀ (a : Stamp) (h : Head) (s : State) (b : Blk), s.blk.at a = b → b.mailboxOpen h = true → 
    exec (.backgroundOperationStatus a h) s = .next { s with
      blk := b.mbReply h 0x0002 .success (match b.dev.bg with | none => [0, 0] | some (op, _, ended) => [b2n (!ended), op]) }) ∧
  (∀ (a : Stamp) (h : Head) (log : EvLog) (s : State) (b : Blk), s.blk.at a = b → b.mailboxOpen h = true → 
    exec (.getEventRecords a h log) s = .next { s with
      blk := b.mbReply h 0x0100 .success ([b2n ((b.head h).log log).overflow + 2 * b2n (decide (recordsFit < ((b.head h).log log).recs.length)), ((b.head h).log log).lost, ((b.head h).log log).firstTs.toNat,
          ((b.head h).log log).lastTs.toNat, min recordsFit ((b.head h).log log).recs.length] ++ (((b.head h).log log).recs.take recordsFit).flatMap EvRec.out) }) ∧
  (∀ (a : Stamp) (h : Head) (s : State) (b : Blk), s.blk.at a = b → b.mailboxOpen h = true → 
    exec (.getEventInterruptPolicy a h) s = .next { s with
      blk := b.mbReply h 0x0102 .success ((b.head h).policy.flatMap fun p => [logNum p.1, (p.2.map (· + 1)).getD 0]) }) ∧
  (∀ (a : Stamp) (h : Head) (s : State) (b : Blk), s.blk.at a = b → b.mailboxOpen h = true → 
    exec (.getFwInfo a h) s = .next { s with
      blk := b.mbReply h 0x0200 .success ([2, b.felt.fw.active + 1, if b.felt.fw.pending < 2 then b.felt.fw.pending + 1 else 0, 0] ++ versionOut b.felt.fw.slotA ++ versionOut b.felt.fw.slotB) }) ∧
  (∀ (a : Stamp) (h : Head) (s : State) (b : Blk), s.blk.at a = b → b.mailboxOpen h = true → 
    exec (.getTimestamp a h) s = .next { s with blk := b.mbReply h 0x0300 .success [b.timestamp.toNat] }) ∧
  (∀ (a : Stamp) (h : Head) (s : State) (b : Blk), s.blk.at a = b → b.mailboxOpen h = true → 
    exec (.getSupportedLogs a h) s = .next { s with blk := b.mbReply h 0x0400 .success [1, celUuid.toNat, 4 * supportedOps.length] }) ∧
  (∀ (a : Stamp) (h : Head) (s : State) (b : Blk), s.blk.at a = b → b.mailboxOpen h = true → 
    exec (.getLog a h celUuid) s = .next { s with blk := b.mbReply h 0x0401 .success supportedOps }) ∧
  (∀ (a : Stamp) (h : Head) (s : State) (b : Blk), s.blk.at a = b → b.mailboxOpen h = true → 
    exec (.identifyMemoryDevice a h) s = .next { s with blk := b.mbReply h 0x4000 .success [0, 0, 0, poisonCapacity, poisonCapacity, 1] }) ∧
  (∀ (a : Stamp) (h : Head) (s : State) (b : Blk), s.blk.at a = b → b.mailboxOpen h = true → 
    exec (.getHealthInfo a h) s = .next { s with
      blk := b.mbReply h 0x4200 .success [b.healthStatus, b.mediaStatus, 100 - b.life, tempField b.thermal.tj, b.felt.dirty, b.corrVolatile, b.corrPersist] }) ∧
  (∀ (a : Stamp) (h : Head) (s : State) (b : Blk), s.blk.at a = b → b.mailboxOpen h = true → 
    exec (.getAlertConfiguration a h) s = .next { s with
      blk := b.mbReply h 0x4201 .success (optOut b.dev.alerts.lifeUsed ++ optOut (b.dev.alerts.overTemp.map (sEnc 16)) ++ optOut (b.dev.alerts.underTemp.map (sEnc 16)) ++ optOut b.dev.alerts.corrVolatile ++ optOut b.dev.alerts.corrPersist) }) ∧
  (∀ (a : Stamp) (h : Head) (s : State) (b : Blk), s.blk.at a = b → b.mailboxOpen h = true → 
    exec (.getShutdownState a h) s = .next { s with blk := b.mbReply h 0x4203 .success [b2n b.felt.shutdown] })

/-- With the mailbox open, clearing event records, the interrupt policy, a firmware transfer and activation, the timestamp, the alert thresholds and the shutdown state take effect and are answered Success (R221, R226 to R229, R325). Get Poison List reports the merged records from its start on; Inject Poison lists the half when enabled; Clear Poison takes its place at ingress as a write; Scan Media starts a background operation and its results are reported (R102, R104, R221). -/
def Obligations.MailboxSettingsPoisonAndScan : Prop :=
  (∀ (a : Stamp) (h : Head) (log : EvLog) (handles : List Nat) (s : State) (b : Blk), s.blk.at a = b → b.mailboxOpen h = true → (handles.all fun n => ((b.head h).log log).recs.any fun r => r.handle == n) = true → 
    exec (.clearEventRecords a h log false handles) s = .next { s with
      blk := (b.onHead h fun x => x.onLog log fun l => { recs := l.recs.filter fun r => !handles.contains r.handle }).mbReply h 0x0101 .success [] }) ∧
  (∀ (a : Stamp) (h : Head) (policy : List (EvLog × Option Nat)) (s : State) (b : Blk), s.blk.at a = b → b.mailboxOpen h = true → (policy.all fun p => (p.2.getD 0) < 8) = true → 
    exec (.setEventInterruptPolicy a h policy) s = .next { s with
      blk := (b.onHead h fun x => { x with policy := x.policy.map fun p => (policy.find? fun q => q.1 == p.1).getD p }).mbReply h 0x0103 .success [] }) ∧
  (∀ (a : Stamp) (h : Head) (img : FwImage) (s : State) (b : Blk), s.blk.at a = b → b.mailboxOpen h = true → (b.head (otherHead h)).fwOpen = false → b.nvwp = true → 
    exec (.transferFw a h .full img) s = .next { s with
      blk := ((b.putInactive (some img)).onHead h fun x => { x with fwOpen := false }).mbReply h 0x0201 .success [] }) ∧
  (∀ (a : Stamp) (h : Head) (slot : Nat) (img : FwImage) (s : State) (b : Blk), s.blk.at a = b → b.mailboxOpen h = true → (if slot = 1 then b.felt.fw.slotA else if slot = 2 then b.felt.fw.slotB else none) = some img → 
    exec (.activateFw a h slot false) s = .next { s with
      blk := (b.onFelt fun f => { f with fw := { f.fw with pending := slot - 1 } }).mbReply h 0x0202 .success [] }) ∧
  (∀ (a : Stamp) (h : Head) (v : BitVec 64) (s : State) (b : Blk), s.blk.at a = b → b.mailboxOpen h = true → 
    exec (.setTimestamp a h v) s = .next { s with
      blk := (b.onDev fun d => { d with stampV := v, stampSet := true, stampAt := b.now }).mbReply h 0x0301 .success [] }) ∧
  (∀ (a : Stamp) (h : Head) (cfg : AlertCfg) (s : State) (b : Blk), s.blk.at a = b → b.mailboxOpen h = true → 
    exec (.setAlertConfiguration a h cfg) s = .next { s with
      blk := ((b.onDev fun d => { d with alerts := cfg }).onDev fun d => { d with crossed := (b.onDev fun d => { d with alerts := cfg }).alertsNow }).mbReply h 0x4202 .success [] }) ∧
  (∀ (a : Stamp) (h : Head) (v : Bool) (s : State) (b : Blk), s.blk.at a = b → b.mailboxOpen h = true → 
    exec (.setShutdownState a h v) s = .next { s with blk := (b.onFelt fun f => { f with shutdown := v }).mbReply h 0x4204 .success [] }) ∧
  (∀ (a : Stamp) (h : Head) (dpa len : Nat) (s : State) (b : Blk), s.blk.at a = b → b.mailboxOpen h = true → (b.head h).poisonPos = none → 
    exec (.getPoisonList a h dpa len) s = .next { s with
      blk := (let lo := halfKey dpa
          let recs := mergePoison (b.media.poison.filter fun e => decide (lo ≤ e.1) && decide (e.1 < lo + len))
          let out := recs.take poisonFit
          let more := decide (poisonFit < recs.length)
          let next := (out.getLast?.map fun r => r.1 + r.2.2).getD lo
          (b.onHead h fun x => { x with poisonPos := if more then some (dpa, len, next) else none }).mbReply h 0x4300 .success ([b2n more + 4 * b2n b.media.scan.isSome, out.length] ++ out.flatMap fun r => [r.1 * 64 ||| sourceCode r.2.1, r.2.2])) }) ∧
  (∀ (a : Stamp) (h : Head) (dpa : Nat) (e : RegionEntry) (s : State) (b : Blk), s.blk.at a = b → b.mailboxOpen h = true → b.cfg 0x5830 0x03 ≠ 0 → b.regionEntry (regionOfLine (lineOf dpa)) = some e → 
    exec (.injectPoison a h dpa) s = .next { s with
      blk := ((b.listHalf (halfKey dpa) .injected).dropHalf h (halfKey dpa)).mbReply h 0x4301 .success [] }) ∧
  (∀ (a : Stamp) (h : Head) (dpa : Nat) (data : Half) (s : State) (b : Blk), s.blk.at a = b → b.mailboxOpen h = true → b.memoryActive = true → b.hasCapacity h (dpa % 2 ^ 43) = true → inWindow (dpa % 2 ^ 43) = false → b.stopped = false → b.takes h = true → 
    exec (.clearPoison a h dpa data) s = .next { s with blk := b.place h .clearPoison 0 0 (dpa % 2 ^ 43) data (BitVec.allOnes 64) false }) ∧
  (∀ (a : Stamp) (h : Head) (dpa len : Nat) (s : State) (b : Blk), s.blk.at a = b → b.mailboxOpen h = true → 
    exec (.getScanMediaCapabilities a h dpa len) s = .next { s with blk := b.useFree.mbReply h 0x4303 .success [b.freeNum] }) ∧
  (∀ (a : Stamp) (h : Head) (dpa len : Nat) (s : State) (b : Blk), s.blk.at a = b → b.mailboxOpen h = true → b.bgRuns = false → 
    exec (.scanMedia a h dpa len) s = .next { s with
      blk := ((b.onMedia fun m => { m with scan := some (halfKey dpa, len), scanFound := [] }).onDev fun d => { d with bg := some (0x4304, h, false) }).mbReply h 0x4304 .backgroundStarted [] }) ∧
  (∀ (a : Stamp) (h : Head) (s : State) (b : Blk), s.blk.at a = b → b.mailboxOpen h = true → 
    exec (.getScanMediaResults a h) s = .next { s with blk := b.mbReply h 0x4305 .success (b.media.scanFound.map fun k => k * 64) })

/-- An admitted Read of a readable entry is answered with its value; an admitted Write runs its entry's action; an admitted Stage puts the value into the set; Status answers with the set's size and state (R266 to R272). -/
def Obligations.DictionaryReadAndWrite : Prop :=
  (∀ (a : Stamp) (src : Src) (idx : BitVec 16) (sub : BitVec 8) (c : Blk) (s : State) (b : Blk), s.blk.at a = b → Requests b src { op := 1, idx := idx.toNat, sub := sub.toNat } c → c.checkRead src idx.toNat sub.toNat = 0 → ¬ (idx = 0x1210 ∧ sub = 2) → 
    exec (.read a src idx sub) s = .next { s with
      blk := c.reply src { op := 1, idx := idx.toNat, sub := sub.toNat, st := 0, val := c.odBytes (transOf src) idx.toNat sub.toNat } }) ∧
  (∀ (a : Stamp) (src : Src) (idx : BitVec 16) (sub : BitVec 8) (val : List Byte) (c : Blk) (s : State) (b : Blk), s.blk.at a = b → WriteRuns b src idx.toNat sub.toNat val c → 
    exec (.write a src idx sub val) s = .next { s with blk := c.action src idx.toNat sub.toNat (leNat val) }) ∧
  (∀ (a : Stamp) (src : Src) (idx : BitVec 16) (sub : BitVec 8) (val : List Byte) (c : Blk) (l : NMap (List Byte)) (s : State) (b : Blk), s.blk.at a = b → Requests b src { op := 3, idx := idx.toNat, sub := sub.toNat, w67 := val.length, data := val } c → c.checkWrite src true idx.toNat sub.toNat val = 0 → stageRange idx.toNat (leNat val) = true → c.muslin.mayStage (transOf src) = true → c.muslin.stagePut (odKey idx.toNat sub.toNat) val = some l → 
    exec (.stage a src idx sub val) s = .next { s with
      blk := (c.onMuslin fun m => { m with state := 1, owner := transOf src, staged := l, lastAct := c.now }).reply src { op := 3, idx := idx.toNat, sub := sub.toNat, st := 0 } }) ∧
  (∀ (a : Stamp) (src : Src) (c : Blk) (s : State) (b : Blk), s.blk.at a = b → Requests b src { op := 6 } c → 
    exec (.status a src) s = .next { s with blk := c.reply src { op := 6, st := 0, staged := c.muslin.staged.length, mst := c.muslin.state } }) ∧
  (∀ (a : Stamp) (src : Src) (c : Blk) (s : State) (b : Blk), s.blk.at a = b → WriteRuns b src 0x1200 0x0D [1] c → c.muslin.mayStage (transOf src) = true → (stagedDefaults.foldl (fun m e => m.put e.1 e.2) c.muslin.staged).length ≤ 1024 → ({ c.muslin with staged := stagedDefaults.foldl (fun m e => m.put e.1 e.2) c.muslin.staged } : Muslin).bytes ≤ 65536 → 
    exec (.stageDefaults a src) s = .next { s with
      blk := (c.onMuslin fun m => { m with state := 1, owner := transOf src, staged := stagedDefaults.foldl (fun m e => m.put e.1 e.2) c.muslin.staged, lastAct := c.now }).wrote src 0x1200 0x0D 0 })

/-- A Commit of the owner's staged set with a known apply instant starts the checks; the checks' end with no broken rule makes the set wait for its instant, answering a Commit that is not immediate; at its instant the set's values are swapped; an Abort and the staging timeout discard it; an apply fault is recorded after 1,500 ns and leads to Safe Stop (R273 to R279). -/
def Obligations.StagedSets : Prop :=
  (∀ (a : Stamp) (src : Src) (inst : BitVec 8) (tick : BitVec 48) (c : Blk) (w : ApplyAt) (s : State) (b : Blk), s.blk.at a = b → Requests b src { op := 4, data := leBytes 1 inst.toNat ++ leBytes 6 tick.toNat } c → applyAtOf inst.toNat tick.toNat = some w → c.muslin.state = 1 → c.muslin.owner = transOf src → 
    exec (.commit a src inst tick) s = .next { s with
      blk := c.onMuslin fun m => { m with state := 2, level := c.level src, when_ := w, modeAt := c.eff, opAt := c.opTime, reply := some src, lastAct := c.now } }) ∧
  (∀ (a : Stamp) (src : Src) (c : Blk) (s : State) (b : Blk), s.blk.at a = b → Requests b src { op := 5 } c → c.muslin.owner = transOf src → (c.muslin.state = 1 ∨ c.muslin.state = 3) → 
    exec (.abort a src) s = .next { s with blk := (c.discardStaged 3 0).reply src { op := 5, st := 0 } }) ∧
  (∀ (a : Stamp) (s : State) (b : Blk), s.blk.at a = b → b.muslin.state = 1 → b.cfg 0x1200 0x0C * 1000000000 ≤ b.since b.muslin.lastAct → 
    exec (.stagingTimeout a) s = .next { s with blk := b.discardStaged 5 0 }) ∧
  (∀ (a : Stamp) (shadowOk : Bool) (s : State) (b : Blk), s.blk.at a = b → b.muslin.state = 2 → b.brokenRule shadowOk [1, 2, 3, 4, 5, 6, 7, 8, 9, 10, 11] = none → 
    exec (.commitCheckEnd a shadowOk) s = .next { s with
      blk := (match b.muslin.when_, b.muslin.reply with
          | .immediate, _ => b.onMuslin fun m => { m with state := 3 }
          | _, some src => ((b.onMuslin fun m => { m with state := 3 }).onMuslin fun m => { m with reply := none }).reply src { op := 4, st := 0 }
          | _, none => b.onMuslin fun m => { m with state := 3 }) }) ∧
  (∀ (a : Stamp) (noAck : List Dom) (pauseNs : Nat) (s : State) (b : Blk), s.blk.at a = b → b.muslin.state = 3 → b.instantReached = true → b.applyOpen = true → b.brokenRule true [1, 2, 3, 4, 7] = none → noAck = [] → 
    exec (.applyInstant a noAck pauseNs) s = .next { s with
      blk := (b.swapValues []).swapDone pauseNs (b.stagedRows.any fun e => e.2.acc == .rwp && !odCal e.1) b.stagesCal b.muslin.reply }) ∧
  (∀ (a : Stamp) (t : Nat) (ds : List Dom) (s : State) (b : Blk), s.blk.at a = b → b.muslin.stuck = some (t, ds) → 1500 ≤ b.since t → 
    exec (.applyFault a) s = .next { s with
      blk := (((((b.report { code := 0x1203, data := leBytes 1 (ds.foldl (fun n d => n ||| 1 <<< domBit d) 0) }).bump 0x1200 0x09 1).discardStaged 6 0).onModes fun m => { m with closed := false }).safeStop 0x1203).detect 13 true }) ∧
  (∀ (a : Stamp) (s : State) (b : Blk), s.blk.at a = b → b.running = true → 
    exec (.parameterPersist a) s = .next { s with blk := b.persistParams.persistCal.heldImport })

/-- A challenge read draws a fresh number and keeps it with its instant; a right response opens a session when no lockout holds; a session closes by request or after its idle time; a lockout ends (R266, R267). -/
def Obligations.MaintenanceSessions : Prop :=
  (∀ (a : Stamp) (src : Src) (c : Blk) (s : State) (b : Blk), s.blk.at a = b → Requests b src { op := 1, idx := 0x1210, sub := 2 } c → 
    exec (.challengeRead a src) s = .next { s with
      blk := (c.draw.onSession (transOf src) fun x => { x with chal := some ((c.drawn.setWidth 64 : BitVec 64), c.now) }).reply src { op := 1, idx := 0x1210, sub := 2, st := 0, val := leBytes 8 (c.drawn.setWidth 64 : BitVec 64).toNat } }) ∧
  (∀ (a : Stamp) (src : Src) (v : BitVec 64) (c : Blk) (s : State) (b : Blk), s.blk.at a = b → WriteRuns b src 0x1210 0x03 (leBytes 8 v.toNat) c → ¬ (transOf src = 3 ∧ c.can.access ≠ 2) → (c.session (transOf src)).lockout = none → (c.felt.maintKey = none → c.nvwp = true) → (∀ k, c.felt.maintKey = some k → c.responseRight (transOf src) k v = true) → 
    exec (.response a src v) s = .next { s with blk := c.openSession src }) ∧
  (∀ (a : Stamp) (src : Src) (c : Blk) (s : State) (b : Blk), s.blk.at a = b → WriteRuns b src 0x1210 0x04 [1] c → 
    exec (.closeMaintenance a src) s = .next { s with blk := (c.closeSession (transOf src)).wrote src 0x1210 4 0 }) ∧
  (∀ (a : Stamp) (src : Src) (s : State) (b : Blk), s.blk.at a = b → (b.session (transOf src)).maint = true → b.cfg 0x1210 0x07 * 1000000000 ≤ b.since (b.session (transOf src)).lastReq → 
    exec (.maintenanceIdleTimeout a src) s = .next { s with blk := b.closeSession (transOf src) }) ∧
  (∀ (a : Stamp) (src : Src) (e : Nat) (s : State) (b : Blk), s.blk.at a = b → (b.session (transOf src)).lockout = some e → e ≤ b.now → 
    exec (.responseLockoutEnd a src) s = .next { s with blk := b.onSession (transOf src) fun x => { x with lockout := none } })

/-- An admitted object transfer of a maintenance key, a frame MAC key or a key encryption key stores it; a calibration import and an escrow import are applied; an escrow export gives the wrapped key blob (R250 to R252, R266, R287, R289). -/
def Obligations.KeysAndObjects : Prop :=
  (∀ (a : Stamp) (src : Src) (key : BitVec 256) (c : Blk) (s : State) (b : Blk), s.blk.at a = b → OpensWrite b src 0x1210 0x05 (leBytes 32 key.toNat) c → 
    exec (.maintenanceKey a src key) s = .next { s with
      blk := ((c.onFelt fun f => { f with maintKey := some (packBytes 256 (leBytes 32 key.toNat)) }).itemWrite 3).bulkAnswer src 11 0x1210 0x05 0 }) ∧
  (∀ (a : Stamp) (src : Src) (key : BitVec 256) (c : Blk) (s : State) (b : Blk), s.blk.at a = b → OpensWrite b src 0x1230 0x06 (leBytes 32 key.toNat) c → c.feltProtected 2 = false → 
    exec (.frameMacKey a src key) s = .next { s with
      blk := (((c.onCan fun x => { x with macKey := some (packBytes 256 (leBytes 32 key.toNat)) }).newNonce).itemWrite 3).bulkAnswer src 11 0x1230 0x06 0 }) ∧
  (∀ (a : Stamp) (src : Src) (key : BitVec 256) (c : Blk) (s : State) (b : Blk), s.blk.at a = b → OpensWrite b src 0x6820 0x01 (leBytes 32 key.toNat) c → 
    exec (.keyEncryptionKey a src key) s = .next { s with blk := (c.putKek (packBytes 256 (leBytes 32 key.toNat))).bulkAnswer src 11 0x6820 0x01 0 }) ∧
  (∀ (a : Stamp) (src : Src) (blob : List Byte) (c : Blk) (s : State) (b : Blk), s.blk.at a = b → OpensWrite b src 0x5080 0x01 blob c → 
    exec (.calibrationImport a src blob) s = .next { s with blk := (c.applyCal blob).1.bulkAnswer src 11 0x5080 0x01 (c.applyCal blob).2 }) ∧
  (∀ (a : Stamp) (src : Src) (blob : List Byte) (c : Blk) (s : State) (b : Blk), s.blk.at a = b → OpensWrite b src 0x6820 0x03 blob c → 
    exec (.escrowImport a src blob) s = .next { s with blk := (c.applyEscrow blob).1.bulkAnswer src 11 0x6820 0x03 (c.applyEscrow blob).2 }) ∧
  (∀ (a : Stamp) (src : Src) (c : Blk) (kek : BitVec 256) (s : State) (b : Blk), s.blk.at a = b → Requests b src { op := 7, idx := 0x6820, sub := 0x03 } c → c.checkOpenRead src 0x6820 0x03 = 0 → c.bulkOf src = none → c.damask.kek = some kek → 
    exec (.escrowExport a src) s = .next { s with
      blk := c.bulkAnswer src 7 0x6820 0x03 0 (c.escrowBlob kek).length (crc32 (c.escrowBlob kek)).toNat (c.escrowBlob kek) })

/-- With the mailbox open, Open Read and Open Write of an object that may be read or written open a transfer when none is open; Data in order is taken or given and Close ends the transfer with the object's result; Abort and 10 s of silence end it without (R225, R268, R284). -/
def Obligations.MailboxBulkTransfers : Prop :=
  (∀ (a : Stamp) (h : Head) (maint : Bool) (idx : BitVec 16) (sub : BitVec 8) (s : State) (b : Blk), s.blk.at a = b → b.mailboxOpen h = true → ((b.touch (.mb h maint)).head h).bulk = none → (b.touch (.mb h maint)).checkOpenRead (.mb h maint) idx.toNat sub.toNat = 0 → 
    exec (.openRead a h maint idx sub) s = .next { s with
      blk := (let c := b.touch (.mb h maint)
          let bytes := c.objectOf (transOf (.mb h maint)) idx.toNat sub.toNat
          let k : Bulk := { write := false, od := odKey idx.toNat sub.toNat, maint := maint, total := bytes.length, bytes := bytes, last := c.now }
          ((c.putBulk (.mb h maint) (some k)).markExport idx.toNat sub.toNat).bulkAnswer (.mb h maint) 1 idx.toNat sub.toNat 0 bytes.length (crc32 bytes).toNat) }) ∧
  (∀ (a : Stamp) (h : Head) (maint : Bool) (idx : BitVec 16) (sub : BitVec 8) (total : Nat) (s : State) (b : Blk), s.blk.at a = b → b.mailboxOpen h = true → ((b.touch (.mb h maint)).head h).bulk = none → (b.touch (.mb h maint)).checkOpenWrite (.mb h maint) idx.toNat sub.toNat = 0 → 
    exec (.openWrite a h maint idx sub total) s = .next { s with
      blk := (let c := b.touch (.mb h maint)
          let k : Bulk := { write := true, od := odKey idx.toNat sub.toNat, maint := maint, total := total, bytes := [], last := c.now }
          (c.putBulk (.mb h maint) (some k)).bulkAnswer (.mb h maint) 2 idx.toNat sub.toNat 0) }) ∧
  (∀ (a : Stamp) (h : Head) (maint : Bool) (off len : Nat) (chunk : List Byte) (k : Bulk) (s : State) (b : Blk), s.blk.at a = b → b.mailboxOpen h = true → ((b.touch (.mb h maint)).head h).bulk = some k → k.write = true → chunkOk chunk.length = true → off = k.bytes.length → off + chunk.length ≤ k.total → 
    exec (.data a h maint off len chunk) s = .next { s with
      blk := ((b.touch (.mb h maint)).putBulk (.mb h maint) (some { k with last := (b.touch (.mb h maint)).now, bytes := k.bytes ++ chunk })).bulkAnswer (.mb h maint) 3 0 0 0 }) ∧
  (∀ (a : Stamp) (h : Head) (maint : Bool) (off len : Nat) (chunk : List Byte) (k : Bulk) (s : State) (b : Blk), s.blk.at a = b → b.mailboxOpen h = true → ((b.touch (.mb h maint)).head h).bulk = some k → k.write = false → chunkOk len = true → off < k.total → 
    exec (.data a h maint off len chunk) s = .next { s with
      blk := ((b.touch (.mb h maint)).putBulk (.mb h maint) (some { k with last := (b.touch (.mb h maint)).now })).bulkAnswer (.mb h maint) 3 0 0 0 0 0 ((k.bytes.drop off).take len) }) ∧
  (∀ (a : Stamp) (h : Head) (maint : Bool) (crc : BitVec 32) (k : Bulk) (s : State) (b : Blk), s.blk.at a = b → b.mailboxOpen h = true → ((b.touch (.mb h maint)).head h).bulk = some k → 
    exec (.close a h maint crc) s = .next { s with
      blk := (((b.touch (.mb h maint)).putBulk (.mb h maint) none).endTransfer k crc).1.bulkAnswer (.mb h maint) 4 0 0 (((b.touch (.mb h maint)).putBulk (.mb h maint) none).endTransfer k crc).2 }) ∧
  (∀ (a : Stamp) (h : Head) (s : State) (b : Blk), s.blk.at a = b → b.mailboxOpen h = true → (b.head h).bulk.isSome = true → 
    exec (.bulkAbort a h) s = .next { s with blk := (b.abortBulk h).bulkAnswer (.mb h false) 5 0 0 0 }) ∧
  (∀ (a : Stamp) (h : Head) (k : Bulk) (s : State) (b : Blk), s.blk.at a = b → (b.head h).bulk = some k → 10000000000 ≤ b.since k.last → 
    exec (.bulkTransferTimeout a h) s = .next { s with blk := b.abortBulk h })

/-- An ignored frame is counted; the heartbeat is sent at the node's identifier while it is enabled; a bus-off recovery is counted and warned of at most once in 10 s; the node joins the bus once a reference is good or the IRC is trimmed, and sends what waits (R280 to R283, R288). An admitted open of an object opens a transfer; a segment that is next is taken, and one in sixteen and the last acknowledged; an acknowledge lets the next segments go; a close ends the transfer with the object's result, an abort and 1 s of silence without (R284, R285). -/
def Obligations.CanBusAndTransfers : Prop :=
  (∀ (a : Stamp) (s : State) (b : Blk), s.blk.at a = b → b.can.joined = true → 
    exec (.canFrameIgnored a) s = .next { s with blk := b.bump 0x1230 0x0C 1 }) ∧
  (∀ (a : Stamp) (s : State) (b : Blk), s.blk.at a = b → b.can.joined = true → b.cfg 0x1230 0x03 ≠ 0 → 
    exec (.heartbeat a) s = .next { s with blk := b.emit (.can (0x3C0 + b.can.node) b.heartbeatFrame) }) ∧
  (∀ (a : Stamp) (s : State) (b : Blk), s.blk.at a = b → b.powered = true → (match b.can.busWarn with | some t => decide (b.now < t + 10000000000) | none => false) = false → 
    exec (.busOffRecovery a) s = .next { s with
      blk := ((b.bump 0x1230 0x0B 1).onCan fun c => { c with busWarn := some b.now }).report { code := 0x1209 } }) ∧
  (∀ (a : Stamp) (s : State) (b : Blk), s.blk.at a = b → b.powered = true → (b.clocks.ref == 1 || b.ircTrimmed) = true → 
    exec (.canBusJoin a) s = .next { s with blk := Blk.canPump 65 (b.onCan fun c => { c with joined := true }) }) ∧
  (∀ (a : Stamp) (trans : BitVec 8) (maint : Bool) (idx : BitVec 16) (sub : BitVec 8) (c : Blk) (s : State) (b : Blk), s.blk.at a = b → FrameAdmitted b trans maint 0 0 { op := 7, idx := idx.toNat, sub := sub.toNat } c → (c.touch (.can trans maint 0 0)).checkOpenRead (.can trans maint 0 0) idx.toNat sub.toNat = 0 → segmentsOf ((c.touch (.can trans maint 0 0)).objectOf 3 idx.toNat sub.toNat).length ≤ 65535 → 
    exec (.bulkOpenRead a trans maint idx sub) s = .next { s with
      blk := (let c1 := c.touch (.can trans maint 0 0)
          let bytes := c1.objectOf 3 idx.toNat sub.toNat
          let k : Bulk := { write := false, od := odKey idx.toNat sub.toNat, maint := maint, total := bytes.length, bytes := bytes, last := c1.now, trans := trans }
          Blk.pumpSegments 16 ((c1.putBulk (.can trans maint 0 0) (some k)).bulkAnswer (.can trans maint 0 0) 7 idx.toNat sub.toNat 0 bytes.length (crc32 bytes).toNat)) }) ∧
  (∀ (a : Stamp) (trans : BitVec 8) (maint : Bool) (ctr : BitVec 32) (mac : BitVec 64) (idx : BitVec 16) (sub : BitVec 8) (total : Nat) (c : Blk) (s : State) (b : Blk), s.blk.at a = b → FrameAdmitted b trans maint ctr mac { op := 8, idx := idx.toNat, sub := sub.toNat, data := leBytes 4 total } c → (c.touch (.can trans maint ctr mac)).checkOpenWrite (.can trans maint ctr mac) idx.toNat sub.toNat = 0 → total ≤ 65535 * (c.touch (.can trans maint ctr mac)).segmentRoom → 
    exec (.bulkOpenWrite a trans maint ctr mac idx sub total) s = .next { s with
      blk := (let c1 := c.touch (.can trans maint ctr mac)
          let k : Bulk := { write := true, od := odKey idx.toNat sub.toNat, maint := maint, total := total, bytes := [], last := c1.now, trans := trans }
          (c1.putBulk (.can trans maint ctr mac) (some k)).bulkAnswer (.can trans maint ctr mac) 8 idx.toNat sub.toNat 0) }) ∧
  (∀ (a : Stamp) (trans : BitVec 8) (ctr : BitVec 32) (mac : BitVec 64) (num : Nat) (chunk : List Byte) (k : Bulk) (c : Blk) (s : State) (b : Blk), s.blk.at a = b → b.can.joined = true → b.can.bulk = some k → k.trans = trans → k.write = true → Authentic b ctr mac 9 (b.frameOf k 9 num (!decide (k.total ≤ ((k.bytes ++ chunk).take k.total).length)) ctr mac chunk) c → num = k.next → chunk.length ≤ c.segmentRoom → 
    exec (.segment a trans ctr mac num chunk) s = .next { s with
      blk := (let bytes := (k.bytes ++ chunk).take k.total
          let c1 := (c.onCan fun x => { x with bulk := some { k with bytes := bytes, next := k.next + 1, last := c.now } }).touch (.can trans k.maint ctr mac)
          if num % 16 = 0 ∨ k.total ≤ bytes.length then c1.canSend (canFrame 0x0A trans (k.od / 256) (k.od % 256) 0 num 0 0 0 []) else c1) }) ∧
  (∀ (a : Stamp) (trans : BitVec 8) (num : Nat) (k : Bulk) (s : State) (b : Blk), s.blk.at a = b → b.can.joined = true → b.can.bulk = some k → k.trans = trans → k.write = false → k.acked ≤ num → num < k.next → 
    exec (.segmentAcknowledge a trans num) s = .next { s with
      blk := Blk.pumpSegments 16 (b.onCan fun x => { x with bulk := some { k with acked := num, next := num + 1, last := b.now } }) }) ∧
  (∀ (a : Stamp) (trans : BitVec 8) (ctr : BitVec 32) (mac : BitVec 64) (crc : BitVec 32) (k : Bulk) (c : Blk) (s : State) (b : Blk), s.blk.at a = b → b.can.joined = true → b.can.bulk = some k → k.trans = trans → (b.can.bulk.isNone && b.can.lastReq == some ([BitVec.ofNat 8 0x0B, trans].map BitVec.toNat ++ [ctr.toNat, mac.toNat, crc.toNat])) = false → Authentic b ctr mac 0x0B (b.frameOf k 0x0B 0 false ctr mac (leBytes 4 crc.toNat)) c → 
    exec (.bulkClose a trans ctr mac crc) s = .next { s with
      blk := (let r := (c.onCan fun x => { x with bulk := none, lastReq := some ([BitVec.ofNat 8 0x0B, trans].map BitVec.toNat ++ [ctr.toNat, mac.toNat, crc.toNat]) }).endTransfer k crc
          r.1.reply (.can trans k.maint ctr mac) { op := 0x0B, idx := k.od / 256, sub := k.od % 256, st := r.2 }) }) ∧
  (∀ (a : Stamp) (trans : BitVec 8) (ctr : BitVec 32) (mac : BitVec 64) (k : Bulk) (c : Blk) (s : State) (b : Blk), s.blk.at a = b → b.can.joined = true → b.can.bulk = some k → k.trans = trans → Authentic b ctr mac 0x0C (b.frameOf k 0x0C 0 false ctr mac []) c → 
    exec (.canBulkAbort a trans ctr mac) s = .next { s with
      blk := (c.onCan fun x => { x with bulk := none }).reply (.can trans k.maint ctr mac) { op := 0x0C, idx := k.od / 256, sub := k.od % 256, st := 0 } }) ∧
  (∀ (a : Stamp) (k : Bulk) (s : State) (b : Blk), s.blk.at a = b → b.can.bulk = some k → 1000000000 ≤ b.since k.last → 
    exec (.canTransferTimeout a) s = .next { s with blk := b.onCan fun x => { x with bulk := none, abandoned := some k.trans } })

/-- An Add that passes its checks makes the region and offers it; the offer puts it on each head's list with its record; a response with the offered extent takes it, an empty one declines; a response that does not come in time declines; the releases and the teardown return it (R214 to R217, R221). -/
def Obligations.DynamicCapacity : Prop :=
  (∀ (a : Stamp) (src : Src) (c : Blk) (s : State) (b : Blk), s.blk.at a = b → WriteRuns b src 0x4800 0x07 [1] c → c.regionBusy = false → c.addCheck (c.addWants (transOf src)) = 0 → 
    exec (.add a src) s = .next { s with blk := ((c.makeRegion (c.addWants (transOf src))).odSet 0x4800 0x09 0).wrote src 0x4800 0x07 0 }) ∧
  (∀ (a : Stamp) (g : Rgn) (s : State) (b : Blk), s.blk.at a = b → (b.dev.adding.bind fun id => b.rgn id) = some g → 
    exec (.addCapacityOffer a) s = .next { s with
      blk := (g.heads.foldl (fun b h => b.onHead h fun x => { x with offers := x.offers ++ [(g.id, b.now)] }) (b.onDev fun d => { d with adding := none })).dcRecord 0 g g.heads }) ∧
  (∀ (a : Stamp) (h : Head) (extents : List (Nat × Nat)) (g : Rgn) (s : State) (b : Blk), s.blk.at a = b → b.mailboxOpen h = true → ((b.head h).offers.head?.bind fun o => b.rgn o.1) = some g → extents = [(g.base, g.length)] → 
    exec (.addDynamicCapacityResponse a h extents) s = .next { s with blk := (b.takeOffer h g).mbReply h 0x4802 .success [] }) ∧
  (∀ (a : Stamp) (h : Head) (extents : List (Nat × Nat)) (g : Rgn) (s : State) (b : Blk), s.blk.at a = b → b.mailboxOpen h = true → ((b.head h).offers.head?.bind fun o => b.rgn o.1) = some g → extents = [] → 
    exec (.addDynamicCapacityResponse a h extents) s = .next { s with blk := (b.withdraw h g.id).mbReply h 0x4802 .success [] }) ∧
  (∀ (a : Stamp) (h : Head) (late : List (Nat × Nat)) (s : State) (b : Blk), s.blk.at a = b → ((b.head h).offers.filter fun o => decide (o.2 + 1000000 * b.cfg 0x4800 0x0A ≤ b.now)) = late → 
    exec (.addResponseTimeout a h) s = .next { s with blk := late.foldl (fun c o => c.withdraw h o.1) b }) ∧
  (∀ (a : Stamp) (h : Head) (extents : List (Nat × Nat)) (s : State) (b : Blk), s.blk.at a = b → b.mailboxOpen h = true → extents ≠ [] → (extents.filterMap fun x => b.wholeExtent h x).length = extents.length → 
    exec (.releaseDynamicCapacity a h extents) s = .next { s with
      blk := ((extents.filterMap fun x => b.wholeExtent h x).foldl (fun c g => c.releaseAt h g.id) b).mbReply h 0x4803 .success [] }) ∧
  (∀ (a : Stamp) (src : Src) (c : Blk) (g : Rgn) (s : State) (b : Blk), s.blk.at a = b → WriteRuns b src 0x4800 0x08 [1] c → c.regionBusy = false → (c.addWants (transOf src)).heads ≠ [] → c.namedRegion (transOf src) = some g → 
    exec (.releaseRequest a src) s = .next { s with blk := ((c.askRelease g).odSet 0x4800 0x09 0).wrote src 0x4800 0x08 0 }) ∧
  (∀ (a : Stamp) (src : Src) (c : Blk) (g : Rgn) (s : State) (b : Blk), s.blk.at a = b → WriteRuns b src 0x4800 0x0B [1] c → c.regionBusy = false → (c.addWants (transOf src)).heads ≠ [] → c.namedRegion (transOf src) = some g → 
    exec (.forcedRelease a src) s = .next { s with blk := ((c.forceRelease g).odSet 0x4800 0x09 0).wrote src 0x4800 0x0B 0 }) ∧
  (∀ (a : Stamp) (rgn : Nat) (g : Rgn) (s : State) (b : Blk), s.blk.at a = b → b.rgn rgn = some g → b.tearable g = true → b.works = true → 
    exec (.regionTeardown a rgn) s = .next { s with blk := ((((b.dropRegionLines g).dropRegionHot g).clearRegionTags g).freeRegion g).maintain.drive }) ∧
  (∀ (a : Stamp) (h : Head) (s : State) (b : Blk), s.blk.at a = b → b.mailboxOpen h = true → 
    exec (.getDynamicCapacityConfiguration a h) s = .next { s with
      blk := b.mbReply h 0x4800 .success (8 :: ((List.range 8).flatMap fun i => b.dcConfig h i) ++ b.capacityReport) }) ∧
  (∀ (a : Stamp) (h : Head) (s : State) (b : Blk), s.blk.at a = b → b.mailboxOpen h = true → 
    exec (.getDynamicCapacityExtentList a h) s = .next { s with
      blk := b.mbReply h 0x4801 .success ((b.dev.rgns.filter fun g => g.at h == .added).length :: (b.dev.rgns.filter fun g => g.at h == .added).flatMap fun g => [g.base, g.length, g.tag.toNat]) })

/-- An unlock ends a region's lock and its failure count, a count reset its count alone; a tag writeback starts the writes of the least recently used dirty tag lines above 3,071; a re-key pass of a region under one goes on with its next group, and one of a region with an exhausted group, an epoch below 255 and fewer than four passes starts at the epoch above the region's highest, with its first group (R244 to R247, R249). -/
def Obligations.RegionSecurity : Prop :=
  (∀ (a : Stamp) (src : Src) (r : BitVec 32) (c : Blk) (s : State) (b : Blk), s.blk.at a = b → WriteRuns b src 0x6810 0x05 (leBytes 4 r.toNat) c → 
    exec (.unlockRegion a src r) s = .next { s with
      blk := (c.onDamask fun d => { d with alarm := d.alarm.del r.toNat, locks := d.locks.filter fun x => x != r.toNat }).wrote src 0x6810 0x05 0 }) ∧
  (∀ (a : Stamp) (src : Src) (r : BitVec 32) (c : Blk) (s : State) (b : Blk), s.blk.at a = b → WriteRuns b src 0x6810 0x06 (leBytes 4 r.toNat) c → 
    exec (.resetRegionCount a src r) s = .next { s with
      blk := (c.onDamask fun d => { d with alarm := match d.alarm.find r.toNat with
          | some (_, true) => d.alarm.put r.toNat (0, true)
          | _ => d.alarm.del r.toNat }).wrote src 0x6810 0x06 0 }) ∧
  (∀ (a : Stamp) (s : State) (b : Blk), s.blk.at a = b → b.works = true → 
    exec (.tagWriteback a) s = .next { s with
      blk := ((b.damask.dirtyTags.take (b.damask.dirtyTags.length - 3071)).foldl (fun c ti => c.startTag ti) b).drive }) ∧
  (∀ (a : Stamp) (r : Nat) (e : Nat) (s : State) (b : Blk), s.blk.at a = b → b.works = true → b.damask.rekey.find r = some e → 
    exec (.rekeyPass a r) s = .next { s with blk := b.rekeyGroup r e }) ∧
  (∀ (a : Stamp) (r : Nat) (s : State) (b : Blk), s.blk.at a = b → b.works = true → b.damask.rekey.find r = none → ((regionTags r).any fun ti => b.groupExhausted ti) = true → b.topEpoch r ≠ 255 → b.damask.rekey.length < 4 → 
    exec (.rekeyPass a r) s = .next { s with
      blk := (b.onDamask fun d => { d with rekey := d.rekey.put r (b.topEpoch r + 1) }).rekeyGroup r (b.topEpoch r + 1) })

/-- A histogram clear empties the histograms; a die or channel that is retired fails; a retrain is asked of a channel that is trained; a power-down answers before the orderly stop; a health test starts when none runs; a counter clear empties Tweed's counters (R202, R321, R339, R389, R408, R434). -/
def Obligations.ManagementActions : Prop :=
  (∀ (a : Stamp) (src : Src) (c : Blk) (s : State) (b : Blk), s.blk.at a = b → WriteRuns b src 0x5010 0x02 [1] c → 
    exec (.histogramClear a src) s = .next { s with blk := (c.onGauze fun g => { g with hist := [] }).wrote src 0x5010 0x02 0 }) ∧
  (∀ (a : Stamp) (src : Src) (d : BitVec 16) (c : Blk) (s : State) (b : Blk), s.blk.at a = b → WriteRuns b src 0x7C10 0x04 (leBytes 2 d.toNat) c → ((c.die d.toNat).state = 1 ∨ (c.die d.toNat).state = 2) → 
    exec (.retireDie a src d) s = .next { s with blk := (c.dieFail d.toNat).wrote src 0x7C10 0x04 0 }) ∧
  (∀ (a : Stamp) (src : Src) (ch : BitVec 8) (c : Blk) (s : State) (b : Blk), s.blk.at a = b → WriteRuns b src 0x7C10 0x05 (leBytes 1 ch.toNat) c → 
    exec (.retireChannel a src ch) s = .next { s with blk := (c.channelFail ch.toNat).wrote src 0x7C10 0x05 0 }) ∧
  (∀ (a : Stamp) (src : Src) (ch : Fin 32) (c : Blk) (s : State) (b : Blk), s.blk.at a = b → WriteRuns b src (0x3000 + 0x20 * ch.val) 0x0C [1] c → ((c.chan ch.val).state = 2 ∨ (c.chan ch.val).state = 3) → (c.chan ch.val).retrain = false → 
    exec (.retrainRequest a src ch) s = .next { s with
      blk := (c.onChan ch.val fun y => { y with retrain := true }).wrote src (0x3000 + 0x20 * ch.val) 0x0C 0 }) ∧
  (∀ (a : Stamp) (src : Src) (c : Blk) (s : State) (b : Blk), s.blk.at a = b → WriteRuns b src 0x1100 0x07 [1] c → 
    exec (.powerDownToStandby a src) s = .next { s with blk := ((c.wrote src 0x1100 0x07 0).onModes fun m => { m with standby := true }).orderlyStop }) ∧
  (∀ (a : Stamp) (src : Src) (c : Blk) (s : State) (b : Blk), s.blk.at a = b → WriteRuns b src 0x7002 0x06 [1] c → c.canvas.test = none → 
    exec (.startHealthTest a src) s = .next { s with blk := c.beginTest.wrote src 0x7002 0x06 0 }) ∧
  (∀ (a : Stamp) (src : Src) (c : Blk) (s : State) (b : Blk), s.blk.at a = b → WriteRuns b src 0x8800 0x0E [1] c → 
    exec (.clearCounters a src) s = .next { s with blk := (c.onTweed fun t => { t with ctr := [], flags := t.flags ||| 2 }).wrote src 0x8800 0x0E 0 })

/-- A report goes through Linen; a storm window closes 10 ms after it opened; the token bucket gains one token up to 64; the oldest waiting record goes to the ring and its page is written; Felt's margin pass and the counter record are kept (R366 to R377). CONSUME moves the head's read position to the value given, no further than what is written and back only where the value is behind; DROP moves it to the next packet header; a dump is packed and its counters latched; a full queue bank is swapped (R389 to R394). -/
def Obligations.EventLogAndTelemetry : Prop :=
  (∀ (a : Stamp) (code : BitVec 16) (cls : BitVec 8) (unit : BitVec 16) (dpa hpa : Option Nat) (data : List Byte) (s : State) (b : Blk), s.blk.at a = b → 
    exec (.linenReport a code cls unit dpa hpa data) s = .next { s with
      blk := b.report { code := code, cls := cls, unit := unit, dpa := dpa, hpa := hpa, data := data.take 192 } }) ∧
  (∀ (a : Stamp) (code : BitVec 16) (cls : BitVec 8) (unit : BitVec 16) (w : Window) (s : State) (b : Blk), s.blk.at a = b → (b.linen.windows.find? fun w => w.isFor code cls unit) = some w → w.opened + 10000000 ≤ b.now → 
    exec (.stormWindowClose a code cls unit) s = .next { s with blk := b.closeWindow w }) ∧
  (∀ (a : Stamp) (s : State) (b : Blk), s.blk.at a = b → b.running = true → 
    exec (.tokenGain a) s = .next { s with blk := b.onLinen fun l => { l with tokens := min 64 (l.tokens + 1) } }) ∧
  (∀ (a : Stamp) (n : Nat) (rest : List Nat) (s : State) (b : Blk), s.blk.at a = b → b.linen.waiting = n :: rest → b.powered = true → 
    exec (.ringWrite a) s = .next { s with blk := b.ringNext.pageWrite (1000 + n % 256) }) ∧
  (∀ (a : Stamp) (weakWords : Nat) (s : State) (b : Blk), s.blk.at a = b → b.running = true → 
    exec (.feltMarginPass a weakWords) s = .next { s with blk := (b.bump 0x9000 0x07 weakWords).odSet 0x9000 0x08 b.opTime }) ∧
  (∀ (a : Stamp) (s : State) (b : Blk), s.blk.at a = b → b.running = true → 
    exec (.counterRecordWrite a) s = .next { s with blk := b.saveCounters false }) ∧
  (∀ (a : Stamp) (s : State) (b : Blk), s.blk.at a = b → b.running = true → 
    exec (.operatingTimeTick a) s = .next { s with
      blk := ((((({ b with opTime := min (b.opTime + 1) (2 ^ 48 - 1) } : Blk).ageRegions.ageSlots.restoreMap).lifeCheck).alertCheck).pollDies).heldImport }) ∧
  (∀ (a : Stamp) (h : Head) (v : BitVec 64) (s : State) (b : Blk), s.blk.at a = b → b.memoryActive = true → b.stopped = false → 
    exec (.consume a h v) s = .next { s with
      blk := b.onHead h fun x => { x with telR := if v.toNat < x.telR then x.telR else min v.toNat b.tweed.w } }) ∧
  (∀ (a : Stamp) (h : Head) (s : State) (b : Blk), s.blk.at a = b → b.memoryActive = true → b.stopped = false → 
    exec (.drop a h) s = .next { s with blk := b.dropToHeader h }) ∧
  (∀ (a : Stamp) (s : State) (b : Blk), s.blk.at a = b → b.running = true → b.tweed.paused = false → b.modes.flush = none → 
    exec (.telemetryDump a) s = .next { s with blk := b.dump }) ∧
  (∀ (a : Stamp) (s : State) (b : Blk), s.blk.at a = b → 4096 ≤ b.tweed.bank.length → b.tweed.paused = false → 
    exec (.queueBankSwap a) s = .next { s with blk := (b.onTweed fun t => { t with bank := [] }).drainItems 129 b.tweed.bank })

/-- A checkpoint starts at its trigger when none is being written, else the trigger waits; a commit makes it the newest and starts the one that waits; gathered demotions and freed slots go to journal records where their gather is due, at 12 entries or 100 µs after the first, and the journal takes records; a line of the place or of the ring that has failed is retired first, and the next line of its area takes its place (R78, R79, R82, R434). At the end of a hot epoch the regions' heat is updated, hot entries and prefetch marks age, candidates and write counts clear and the idle lines are demoted; a demotion at its last step commits; a promotion that has waited over 2 ms for its way is given up and counted; garbage collection takes a row where it is to and drives on the rows under collection (R52, R63 to R66, R141). -/
def Obligations.CheckpointsHeatAndDemotion : Prop :=
  (∀ (a : Stamp) (trigger : CkptTrigger) (s : State) (b : Blk), s.blk.at a = b → b.works = true → b.triggerMet trigger = true → b.twill.writing = none → 
    exec (.checkpointStart a trigger) s = .next { s with blk := (b.beginCheckpoint (trigger == .full) false).drive }) ∧
  (∀ (a : Stamp) (trigger : CkptTrigger) (k : Ckpt) (s : State) (b : Blk), s.blk.at a = b → b.works = true → b.triggerMet trigger = true → b.twill.writing = some k → 
    exec (.checkpointStart a trigger) s = .next { s with blk := b.onTwill fun t => { t with trigger := true } }) ∧
  (∀ (a : Stamp) (failed : List (Fin 1048576)) (k : Ckpt) (s : State) (b : Blk), s.blk.at a = b → b.works = true → b.twill.writing = some k → 
    exec (.checkpointCommit a failed) s = .next { s with
      blk := (let b1 := (failed.foldl (fun c j => c.metaFail (ckptMem c.dieCount k.place j.val)) b).commitCheckpoint.retireWaiting
          (if b.twill.trigger then b1.beginCheckpoint (b1.triggerMet .full) false else b1).drive) }) ∧
  (∀ (a : Stamp) (failed : Fin 256) (s : State) (b : Blk), s.blk.at a = b → b.works = true → 
    exec (.journalRecordIssue a failed) s = .next { s with
      blk := (let b1 := ((List.range failed.val).foldl (fun c _ => c.metaFail (ringMem c.dieCount (c.ringFree % 32768))) b).startHomes.retireWaiting
          let b2 := if b1.gatherDue b1.twill.gatherD && !b1.journalWait then b1.issueDemotions else b1
          (if b2.gatherDue b2.twill.gatherF && !b2.journalWait then b2.issueFreed else b2).drive) }) ∧
  (∀ (a : Stamp) (s : State) (b : Blk), s.blk.at a = b → b.works = true → 
    exec (.hotEpochEnd a) s = .next { s with
      blk := (let b1 := b.heatRegions.onTwill fun t => { t with hot := t.hot.map fun e => (e.1, e.2.ageEpoch), cand := [], writes := [], epochs := t.epochs + 1 }
          (((b.twill.hot.filter fun e => !e.2.written && e.2.idle == 15).map fun e => e.2.li).foldl (fun b li => b.startDemotion li none)
          (b1.onVelvet fun v => { v with ways := v.ways.map fun e => (e.1, e.2.ageEpoch) })).startHomes.drive) }) ∧
  (∀ (a : Stamp) (li : BitVec 36) (d : Demotion) (s : State) (b : Blk), s.blk.at a = b → b.twill.demote.find li.toNat = some d → d.step = 4 → b.works = true → 
    exec (.demotionCommit a li) s = .next { s with blk := (b.commitDemotion li.toNat).drive }) ∧
  (∀ (a : Stamp) (li : BitVec 36) (t : Nat) (s : State) (b : Blk), s.blk.at a = b → b.twill.wants.find li.toNat = some t → t + 2000000 < b.now → 
    exec (.promotionWayTimeout a li) s = .next { s with
      blk := ((b.unmark li.toNat).bump 0x4010 0x04 1).onTwill fun t => { t with
          wants := t.wants.del li.toNat, demote := t.demote.map fun e => (e.1, { e.2 with forLi := e.2.forLi.filter fun x => x != li.toNat }) } }) ∧
  (∀ (a : Stamp) (cls : Cls) (s : State) (b : Blk), s.blk.at a = b → b.works = true → 
    exec (.garbageCollection a cls) s = .next { s with blk := ((b.takeRow cls).collectRows cls).drive })

/-- A tracker entry of 65,536 writes raises its slot's wear; one unused for 60 s is folded in; a rotation pass whose last stripe is back from the park stripe ends, once no read holds one of its lines, with its region turned; a migration that is due begins with the least worn free slot of its width and ends, once every stripe is copied and nothing holds the region, with the region moved; cold swap is looked at for both classes outside M9 (R67 to R73). The area at the front of the refresh queue, a region or a slot, leaves the queue and its refresh starts; one past its instant is put on the backlog once, counted and reported; a resync of a region that it has not passed starts; the first weak line's rewrite starts (R60, R75, R97). -/
def Obligations.WearMovesAndRefresh : Prop :=
  (∀ (a : Stamp) (slot : Nat) (n t : Nat) (s : State) (b : Blk), s.blk.at a = b → b.twill.tracker.find slot = some (n, t) → 65536 ≤ n → 
    exec (.wearIncrement a slot) s = .next { s with
      blk := ((b.onTwill fun y => { y with tracker := y.tracker.put slot (n - 65536, t) }).wearUp slot).retireWaiting.lifeCheck.drive }) ∧
  (∀ (a : Stamp) (slot : Nat) (n t : Nat) (s : State) (b : Blk), s.blk.at a = b → b.twill.tracker.find slot = some (n, t) → t + 60000000000 ≤ b.now → 
    exec (.trackerFold a slot) s = .next { s with blk := (b.foldCount slot).retireWaiting.lifeCheck.drive }) ∧
  (∀ (a : Stamp) (r : Nat) (x : Rotation) (e : RegionEntry) (n : Nat) (s : State) (b : Blk), s.blk.at a = b → b.twill.rot.find r = some x → b.regionEntry r = some e → b.unparkJob r = some n → b.works = true → b.journalWait = false → b.twillPaused r = false → ((b.stripeLines r e .unpark 1023).any fun y => b.lineReserved y.1 && (b.hotFind y.1).isNone) = false → 
    exec (.rotationPassEnd a r) s = .next { s with blk := (b.endPass r n x e).drive }) ∧
  (∀ (a : Stamp) (r : Nat) (e : RegionEntry) (x : Nat × Nat) (s : State) (b : Blk), s.blk.at a = b → b.regionEntry r = some e → b.works = true → b.twill.migDue.contains r = true → b.mayMigrate r e = true → (b.widen e.cls).leastFree e.cls = some x → 
    exec (.migrationStart a r) s = .next { s with blk := ((b.widen e.cls).useFree.beginMigration r e x.1 false).drive }) ∧
  (∀ (a : Stamp) (r : Nat) (m : Migration) (e : RegionEntry) (s : State) (b : Blk), s.blk.at a = b → b.twill.mig.find r = some m → b.regionEntry r = some e → b.works = true → 1024 ≤ m.next → b.regionMoving r = false → b.slotHeld m.old = false → b.slotHeld m.new = false → b.journalWait = false → b.twillPaused r = false → b.regionReserved r = false → 
    exec (.migrationEnd a r) s = .next { s with blk := (b.endMigration r m e).startHomes.drive }) ∧
  (∀ (a : Stamp) (s : State) (b : Blk), s.blk.at a = b → b.works = true → b.holds 9 = false → 
    exec (.coldSwapCheck a) s = .next { s with blk := ((b.coldSwap .voile).coldSwap .denim).drive }) ∧
  (∀ (a : Stamp) (r sec : Nat) (rest : List (Nat × Nat)) (e : RegionEntry) (s : State) (b : Blk), s.blk.at a = b → b.twill.refresh = (r, sec) :: rest → b.works = true → b.regionEntry r = some e → e.rotp = false → e.mig = false → b.twillPaused r = false → b.leaving r = false → 
    exec (.refreshRegion a) s = .next { s with blk := (b.startRefresh r rest).drive }) ∧
  (∀ (a : Stamp) (r sec : Nat) (rest : List (Nat × Nat)) (s : State) (b : Blk), s.blk.at a = b → b.twill.refresh = (r, sec) :: rest → b.works = true → b.regionEntry r = none → 134217728 ≤ r → 
    exec (.refreshRegion a) s = .next { s with blk := (b.startRefresh r rest).drive }) ∧
  (∀ (a : Stamp) (r : Nat) (r1 sec : Nat) (s : State) (b : Blk), s.blk.at a = b → (b.twill.refresh.find? fun y => y.1 == r) = some (r1, sec) → sec < b.opSec → b.twill.backlog.contains r = false → 
    exec (.refreshBacklog a r) s = .next { s with
      blk := ((b.onTwill fun t => { t with backlog := t.backlog ++ [r] }).bump 0x4040 0x03 1).reportUnit 0x4002 8 (r % 65536) (some (r * unitBytes)) }) ∧
  (∀ (a : Stamp) (r : Nat) (s : State) (b : Blk), s.blk.at a = b → b.works = true → b.damask.resynced.isSome = true → b.beforeResync (r * 16384) = true → (b.regionEntry r).isSome = true → b.twill.resyncAt.has r = false → (b.resyncNext = [] ∨ r ∈ b.resyncNext) → 
    exec (.resync a r) s = .next { s with blk := (b.onTwill fun t => { t with resyncAt := t.resyncAt.put r 0 }).drive }) ∧
  (∀ (a : Stamp) (x : Mem) (rest : List Mem) (s : State) (b : Blk), s.blk.at a = b → b.media.weak = x :: rest → b.works = true → b.unlocked [x.lock] = true → 
    exec (.weakLineRewrite a) s = .next { s with
      blk := ((b.onMedia fun m => { m with weak := rest }).startJob { work := .weak x, locks := [x.lock], reads := [x] }).drive })

/-- A PERST, hot reset or in-band reset of a head drops its requests, mutes its mailbox, ends its transfer and session and resets its configuration; a function reset mutes the mailbox and ends the transfer; a link that may train comes up at its rate and width; it enters and leaves L1 and falls (R208, R209, R231, R233 to R235). -/
def Obligations.LinksAndResets : Prop :=
  (∀ (a : Stamp) (h : Head) (kind : ResetKind) (s : State) (b : Blk), s.blk.at a = b → b.powered = true → 
    exec (.perstAssert a h kind) s = .next { s with
      blk := (let b1 := (((b.dropRequests h).muteMailbox h).abortBulk h).closeSession (mbNum h)
          let b2 := (b1.resetOwner h).onHead h fun x => { x.resetConfig (kind != .perst) with perst := x.perst || kind == .perst }
          b2.linkChange h fun x => x.unlinked (if kind = .hotReset then b2.restLink h else if b2.cfg (headIdx h) 0x05 = 0 then 4 else 0)) }) ∧
  (∀ (a : Stamp) (h : Head) (kind : ResetKind) (s : State) (b : Blk), s.blk.at a = b → b.powered = false → 
    exec (.perstAssert a h kind) s = .next { s with blk := b.onHead h fun x => { x with perst := x.perst || kind == .perst } }) ∧
  (∀ (a : Stamp) (h : Head) (s : State) (b : Blk), s.blk.at a = b → b.running = true → 
    exec (.functionLevelReset a h) s = .next { s with blk := (b.muteMailbox h).abortBulk h }) ∧
  (∀ (a : Stamp) (h : Head) (s : State) (b : Blk), s.blk.at a = b → ((b.head h).link = 2 ∨ (b.head h).link = 3) → 
    exec (.linkDown a h) s = .next { s with blk := b.linkFalls h }) ∧
  (∀ (a : Stamp) (h : Head) (rate : Fin 5) (width : Fin 17) (flit : Fin 3) (s : State) (b : Blk), s.blk.at a = b → b.trainable h = true → (b.head h).link ≠ 2 → (b.head h).link ≠ 3 → rate.val ≠ 0 → width.val = 1 ∨ width.val = 2 ∨ width.val = 4 ∨ width.val = 8 ∨ width.val = 16 → ¬ (flit.val = 0 ∧ rate.val = 4) → 
    exec (.linkUp a h rate width flit) s = .next { s with
      blk := b.linkChange h fun x => { x with link := 2, rate := rate.val, width := width.val, flit := flit.val, memActive := b.memoryActive && !b.stopped } }) ∧
  (∀ (a : Stamp) (h : Head) (s : State) (b : Blk), s.blk.at a = b → (b.head h).link = 2 → 
    exec (.l1Entry a h) s = .next { s with blk := b.linkChange h fun x => { x with link := 3 } }) ∧
  (∀ (a : Stamp) (h : Head) (s : State) (b : Blk), s.blk.at a = b → (b.head h).link = 3 → 
    exec (.l1Exit a h) s = .next { s with blk := b.linkChange h fun x => { x with link := 2 } }) ∧
  (∀ (a : Stamp) (h : Head) (s : State) (b : Blk), s.blk.at a = b → (b.head h).perst = true → 
    exec (.perstDeassert a h) s = .next { s with
      blk := ((((b.onHead h fun x => { x with perst := false }).onModes fun m => { m with standby := false }).linkChange h fun x => x.unlinked (((b.onHead h fun x => { x with perst := false }).onModes fun m => { m with standby := false }).restLink h)).startBoot) })

/-- With the head's configuration open, a dword is read, BARs, MSI-X entries, fields and the mailbox control are written; a decoder whose commit is allowed commits; a CDAT read and a compliance request are answered; the DevLoad window sets the level it has met (R208, R212, R229, R230). -/
def Obligations.LinkRegisters : Prop :=
  (∀ (a : Stamp) (h : Head) (off : BitVec 12) (s : State) (b : Blk), s.blk.at a = b → b.configOpen h = true → 
    exec (.configurationRequest a h (.readDword off)) s = .next { s with blk := b.emit (.config h (b.configDword h off.toNat)) }) ∧
  (∀ (a : Stamp) (h : Head) (bar : Fin 6) (v : BitVec 32) (s : State) (b : Blk), s.blk.at a = b → b.configOpen h = true → 
    exec (.configurationRequest a h (.writeBar bar v)) s = .next { s with blk := b.onHead h fun x => { x with config := x.config.put (barKey bar.val) v.toNat } }) ∧
  (∀ (a : Stamp) (h : Head) (e : Fin 8) (addr : BitVec 64) (data : BitVec 32) (masked : Bool) (s : State) (b : Blk), s.blk.at a = b → b.configOpen h = true → 
    exec (.configurationRequest a h (.writeMsix e addr data masked)) s = .next { s with blk := b.onHead h fun x => { x with msix := x.msix.put e.val (addr.toNat, data.toNat, masked) } }) ∧
  (∀ (a : Stamp) (h : Head) (off : BitVec 12) (v : BitVec 32) (s : State) (b : Blk), s.blk.at a = b → b.configOpen h = true → off.toNat / 4 * 4 ≠ 0 → off.toNat / 4 * 4 ≠ 8 → 
    exec (.configurationRequest a h (.writeField off v)) s = .next { s with blk := b.onHead h fun x => { x with config := x.config.put (off.toNat / 4 * 4) v.toNat } }) ∧
  (∀ (a : Stamp) (h : Head) (n : Fin 8) (base size skip ways gran pos : Nat) (lock : Bool) (s : State) (b : Blk), s.blk.at a = b → b.configOpen h = true → (b.head h).mayCommit n.val base size skip ways gran = true → 
    exec (.componentRegisterWrite a h (.decoderCommit n base size skip ways gran pos lock)) s = .next { s with
      blk := b.onHead h fun x => { x with decoders := x.decoders.put n.val { base := base, size := size, skip := skip, ways := ways, gran := gran, pos := pos, lock := lock } } }) ∧
  (∀ (a : Stamp) (h : Head) (n : Fin 8) (s : State) (b : Blk), s.blk.at a = b → b.configOpen h = true → (((b.head h).decoders.find n.val).map Decoder.lock).getD true = false → ((b.head h).decoders.any fun e => decide (n.val < e.1)) = false → 
    exec (.componentRegisterWrite a h (.decoderUncommit n)) s = .next { s with blk := b.onHead h fun x => { x with decoders := x.decoders.del n.val } }) ∧
  (∀ (a : Stamp) (h : Head) (db bg : Bool) (s : State) (b : Blk), s.blk.at a = b → b.configOpen h = true → 
    exec (.componentRegisterWrite a h (.mailboxControl db bg)) s = .next { s with blk := b.onHead h fun x => { x with mbIrq := db, bgIrq := bg } }) ∧
  (∀ (a : Stamp) (h : Head) (s : State) (b : Blk), s.blk.at a = b → b.running = true → 
    exec (.devloadWindow a h) s = .next { s with
      blk := (let x := b.head h
          let want := max (loadLevel x.dlPeak x.dlHold x.dlCount) (max x.dlFloor b.loadFloor)
          let fall := decide (3 ≤ x.dlWait)
          let new := if x.devload ≤ want then want else if fall then x.devload - 1 else x.devload
          let b1 := if new = 3 then b.tw 113 1 else b
          b1.onHead h fun x => { x with devload := new, dlWait := if want < x.devload && !fall then x.dlWait + 1 else 0, dlPeak := x.ingress.length, dlHold := 0, dlCount := 0, dlFloor := b.loadFloor }) }) ∧
  (∀ (a : Stamp) (h : Head) (s : State) (b : Blk), s.blk.at a = b → b.configOpen h = true → 
    exec (.cxlComplianceRequest a h) s = .next { s with blk := (b.emit (.doe h 3 [b.freeNum])).useFree }) ∧
  (∀ (a : Stamp) (h : Head) (s : State) (b : Blk), s.blk.at a = b → b.configOpen h = true → 
    exec (.cdatRead a h) s = .next { s with blk := b.emit (.doe h 0 [0, 1, 2400, 350, 115, 110, 1, 1, 2400, 350, 115, 110]) })

/-- A monitor window that passes counts up and sets the frequency, one that fails counts up the failures; two failures in a row lose the reference and sixteen passes regain it; a locked PLL's window is judged against its 2 % bound, the second failure in a row being its failure, and an unlocked one's against the bound of locking; the return ramp's end gives full rate back, and after a clock failure wakes the device unless a flush or a stop forbids it; the IRC trim follows the temperature (R333, R346 to R356, R403). The sensors are sampled in order, the junction temperature and its peak follow, and slow-down, cooling and the thermal shutdown with them, and outside the running modes the boot of a cooled device; throttling begins when the slow-down request has stood for its time after Memory Active, and each step, 250 ms after the last, sets the next limit, none ending M7 (R357 to R363). -/
def Obligations.ClocksAndTemperature : Prop :=
  (∀ (a : Stamp) (edges : Nat) (s : State) (b : Blk), s.blk.at a = b → b.powered = true → b.windowPasses edges = true → 
    exec (.refMonitorWindow a edges) s = .next { s with
      blk := b.onClocks fun c => { c with pass := c.pass + 1, fail := 0, kHz := if c.ref = 1 then ircKhz edges else 0 } }) ∧
  (∀ (a : Stamp) (edges : Nat) (s : State) (b : Blk), s.blk.at a = b → b.powered = true → b.windowPasses edges = false → 
    exec (.refMonitorWindow a edges) s = .next { s with blk := (b.onClocks fun c => { c with pass := 0, fail := c.fail + 1 }).bump 0x7400 0x02 1 }) ∧
  (∀ (a : Stamp) (stopped : Bool) (s : State) (b : Blk), s.blk.at a = b → b.powered = true → b.clocks.ref ≠ 2 → 2 ≤ b.clocks.fail → 
    exec (.refclkLost a stopped) s = .next { s with
      blk := (let b1 := b.onClocks fun c => { c with ref := 2, kHz := 0, fab := c.fab.unlock, eng := c.eng.unlock, cry := c.cry.unlock, jch := c.jch.unlock }
          let b2 := (b1.bump 0x7400 0x03 1).report { code := 0x7401 }
          let b3 := if stopped && decide (5 ≤ b.modes.step) then Blk.forcedSwitches 4 b2 else b2
          (((b3.detect 9 false).linkFalls .A).linkFalls .B).clockFailure) }) ∧
  (∀ (a : Stamp) (s : State) (b : Blk), s.blk.at a = b → b.powered = true → b.clocks.ref ≠ 1 → 16 ≤ b.clocks.pass → 
    exec (.refclkGood a) s = .next { s with
      blk := (let b1 := b.onClocks fun c => { c with ref := 1 }
          let b2 := if b.clocks.ref = 2 then b1.report { code := 0x7402 } else b1
          let b3 := if (b2.hA.link) = 0 then b2.linkChange .A fun x => x.unlinked (b2.restLink .A) else b2
          if (b3.hB.link) = 0 then b3.linkChange .B fun x => x.unlinked (b3.restLink .B) else b3) }) ∧
  (∀ (a : Stamp) (pll : Pll) (count cref : Nat) (s : State) (b : Blk), s.blk.at a = b → b.running = true → (b.clocks.pll pll).locked = true → pllWithin count (pllExpect4 pll cref true) 20 = true → 0 < count → 
    exec (.pllJudgeWindow a pll count cref) s = .next { s with blk := b.onClocks fun c => c.onPll pll fun x => { x with fail := 0 } }) ∧
  (∀ (a : Stamp) (pll : Pll) (count cref : Nat) (s : State) (b : Blk), s.blk.at a = b → b.running = true → (b.clocks.pll pll).locked = false → (b.clocks.ref = 1 ∨ pll = .fallback) → 
    exec (.pllJudgeWindow a pll count cref) s = .next { s with
      blk := (b.onClocks fun c => c.onPll pll fun x => x.judged (pllWithin count (pllExpect4 pll cref false) 5)).autoReturn }) ∧
  (∀ (a : Stamp) (pll : Pll) (count cref : Nat) (s : State) (b : Blk), s.blk.at a = b → b.running = true → (b.clocks.pll pll).locked = true → (pllWithin count (pllExpect4 pll cref true) 20 = false ∨ count = 0) → (b.clocks.pll pll).fail = 0 → 
    exec (.pllJudgeWindow a pll count cref) s = .next { s with blk := b.onClocks fun c => c.onPll pll fun x => { x with fail := 1 } }) ∧
  (∀ (a : Stamp) (pll : Pll) (count cref : Nat) (s : State) (b : Blk), s.blk.at a = b → b.running = true → (b.clocks.pll pll).locked = true → (pllWithin count (pllExpect4 pll cref true) 20 = false ∨ count = 0) → 1 ≤ (b.clocks.pll pll).fail → 
    exec (.pllJudgeWindow a pll count cref) s = .next { s with blk := b.pllFail pll (count == 0) }) ∧
  (∀ (a : Stamp) (s : State) (b : Blk), s.blk.at a = b → b.clocks.ramp = true → b.clocks.failed = false → 
    exec (.returnRampEnd a) s = .next { s with
      blk := (b.onClocks fun c => { c with ramp := false, nFab := 8, nEng := 8, nCry := 8, failed := false, forced := false }).faultPin }) ∧
  (∀ (a : Stamp) (s : State) (b : Blk), s.blk.at a = b → b.clocks.ramp = true → b.clocks.failed = true → b.modes.flush = none → b.stopped = false → 
    exec (.returnRampEnd a) s = .next { s with
      blk := ((b.onClocks fun c => { c with ramp := false, nFab := 8, nEng := 8, nCry := 8, failed := false, forced := false }).faultPin).wake }) ∧
  (∀ (a : Stamp) (s : State) (b : Blk), s.blk.at a = b → b.clocks.ramp = true → b.clocks.failed = true → (b.modes.flush.isSome = true ∨ b.stopped = true) → 
    exec (.returnRampEnd a) s = .next { s with
      blk := ((b.onClocks fun c => { c with ramp := false, nFab := 8, nEng := 8, nCry := 8, failed := false, forced := false }).faultPin).leave 6 }) ∧
  (∀ (a : Stamp) (t : Int) (s : State) (b : Blk), s.blk.at a = b → b.powered = true → b.ircTrimmed = true → (b.sensor 0).temp = some t → 
    exec (.ircTrimUpdate a) s = .next { s with
      blk := (b.onClocks fun c => { c with coarse := (b.ircTrimOf.getD 0 0).toNat }).onClocks fun c => { c with fine := b.fineCode t } }) ∧
  (∀ (a : Stamp) (s : State) (b : Blk), s.blk.at a = b → b.powered = true → b.ircTrimmed = true → (b.sensor 0).temp = none → 
    exec (.ircTrimUpdate a) s = .next { s with blk := b.onClocks fun c => { c with coarse := (b.ircTrimOf.getD 0 0).toNat } }) ∧
  (∀ (a : Stamp) (s : State) (b : Blk), s.blk.at a = b → b.powered = true → b.ircTrimmed = false → 
    exec (.ircTrimUpdate a) s = .next { s with blk := b.onClocks fun c => { c with coarse := 512, fine := 0 } }) ∧
  (∀ (a : Stamp) (t : Nat) (s : State) (b : Blk), s.blk.at a = b → b.thermal.req = some t → b.memoryActive = true → t + 1000000 * b.cfg 0x7800 0x02 ≤ b.now → 
    exec (.throttleEntry a) s = .next { s with blk := b.throttle }) ∧
  (∀ (a : Stamp) (s : State) (b : Blk), s.blk.at a = b → b.holds 7 = true → b.thermal.stepAt + 250000000 ≤ b.now → 
    exec (.throttleStep a) s = .next { s with
      blk := (let n := nextLimit b.thermal.limit b.thermal.start b.thermal.req.isSome b.thermal.few
          if n = 0 then ((b.onThermal fun t => { t with limit := n, stepAt := b.now }).leave 7).healthCheck else b.onThermal fun t => { t with limit := n, stepAt := b.now }) }) ∧
  (∀ (a : Stamp) (raw : List (BitVec 16)) (s : State) (b : Blk), s.blk.at a = b → b.powered = true → b.running = true → 
    exec (.thermalSample a raw) s = .next { s with
      blk := (let wasHot := (List.range 16).filter fun i => (b.sensor i).hot
          let b1 := ((raw.take 16).zipIdx).foldl (fun c e => c.sampleSensor e.2 e.1) b
          let b2 := b1.onThermal fun t => { t with tj := b1.junction, peak := hotter t.peak b1.junction }
          let b3 := b2.sensorCount b.validSensors.length
          let b4 := if (match b3.thermal.tj with | some t => decide (6400 ≤ t) | none => false) then b3.slowDown else b3.coolDown
          match wasHot.find? fun i => (b4.sensor i).hot && !(b4.sensor i).failed with
          | some i => if b4.modes.thermal then b4 else b4.thermalShutdown (b4.shutdownData i b.thermal.tj)
          | none => b4) }) ∧
  (∀ (a : Stamp) (raw : List (BitVec 16)) (s : State) (b : Blk), s.blk.at a = b → b.powered = true → b.running = false → 
    exec (.thermalSample a raw) s = .next { s with
      blk := (let b1 := ((raw.take 16).zipIdx).foldl (fun c e => c.sampleSensor e.2 e.1) b
          (b1.onThermal fun t => { t with tj := b1.junction }).coolBoot) })

/-- With the BAR open, an indirect read of 4 or 8 B that hold the width is, once the posted write has been acknowledged, answered with the register's value, or with 0 and a flag where it does not exist or is gated; an indirect write likewise is posted, or refused, or flagged; the acknowledge takes a posted write outside an apply; the timeout sets its flag and drops the write, or takes it where it took effect, or answers all ones; an aligned write of 4 or 8 B of the control block, the hint doorbell apart, writes its words (R292 to R299). A copy that differs from the majority is corrected, counted and reported; three that differ give the fail-safe value and stop the machine; a register whose parity fails is reloaded, counted and reported, and again within a second stops the machine (R304, R305, R399). -/
def Obligations.IndirectAccessAndRegisterFaults : Prop :=
  (∀ (a : Stamp) (h : Head) (bytes : Nat) (s : State) (b : Blk), s.blk.at a = b → b.barOpen h = true → (bytes = 4 ∨ bytes = 8) → (b.head h).ctl.width ≤ bytes → iValid (b.head h).ctl.iaddr (b.head h).ctl.width = true → (b.ackPosted h).iGated (b.head h).ctl.iaddr = false → 
    exec (.idataRead a h bytes) s = .next { s with
      blk := (let r := (b.ackPosted h).emit (.reg h 0x028 ((b.ackPosted h).iValue (b.head h).ctl.iaddr (b.head h).ctl.width))
          (if iGuarded (b.head h).ctl.iaddr then r.useFree else r).afterRead h) }) ∧
  (∀ (a : Stamp) (h : Head) (bytes : Nat) (s : State) (b : Blk), s.blk.at a = b → b.barOpen h = true → (bytes = 4 ∨ bytes = 8) → (b.head h).ctl.width ≤ bytes → iValid (b.head h).ctl.iaddr (b.head h).ctl.width = false → 
    exec (.idataRead a h bytes) s = .next { s with blk := ((((b.ackPosted h).onCtl h fun c => c.flag 4).emit (.reg h 0x028 0)).afterRead h) }) ∧
  (∀ (a : Stamp) (h : Head) (bytes : Nat) (v : BitVec 64) (s : State) (b : Blk), s.blk.at a = b → b.barOpen h = true → (bytes = 4 ∨ bytes = 8) → (b.head h).ctl.width ≤ bytes → iValid (b.head h).ctl.iaddr (b.head h).ctl.width = false → 
    exec (.idataWrite a h bytes v) s = .next { s with
      blk := ((b.ackPosted h).onCtl h fun c => c.flag 4).onCtl h fun c => if c.ictl.getLsbD 3 then c.advance else c }) ∧
  (∀ (a : Stamp) (h : Head) (bytes : Nat) (s : State) (b : Blk), s.blk.at a = b → b.barOpen h = true → (bytes = 4 ∨ bytes = 8) → (b.head h).ctl.width ≤ bytes → iValid (b.head h).ctl.iaddr (b.head h).ctl.width = true → (b.ackPosted h).iGated (b.head h).ctl.iaddr = true → 
    exec (.idataRead a h bytes) s = .next { s with blk := ((((b.ackPosted h).onCtl h fun c => c.flag 6).emit (.reg h 0x028 0)).afterRead h) }) ∧
  (∀ (a : Stamp) (h : Head) (bytes : Nat) (v : BitVec 64) (s : State) (b : Blk), s.blk.at a = b → b.barOpen h = true → (bytes = 4 ∨ bytes = 8) → (b.head h).ctl.width ≤ bytes → iValid (b.head h).ctl.iaddr (b.head h).ctl.width = true → (b.ackPosted h).iGated (b.head h).ctl.iaddr = true → 
    exec (.idataWrite a h bytes v) s = .next { s with
      blk := ((b.ackPosted h).onCtl h fun c => c.flag 6).onCtl h fun c => if c.ictl.getLsbD 3 then c.advance else c }) ∧
  (∀ (a : Stamp) (h : Head) (bytes : Nat) (v : BitVec 64) (s : State) (b : Blk), s.blk.at a = b → b.barOpen h = true → (bytes = 4 ∨ bytes = 8) → (b.head h).ctl.width ≤ bytes → iValid (b.head h).ctl.iaddr (b.head h).ctl.width = true → (b.ackPosted h).iGated (b.head h).ctl.iaddr = false → 
    exec (.idataWrite a h bytes v) s = .next { s with
      blk := (let b1 := b.ackPosted h
          let b2 := if b1.iRefused h (b.head h).ctl.iaddr then b1.refuseWrite h (b.head h).ctl.iaddr else b1.onCtl h fun x => { x with posted := some ((b.head h).ctl.iaddr, (b.head h).ctl.width, v, b1.now) }
          b2.onCtl h fun c => if c.ictl.getLsbD 3 then c.advance else c) }) ∧
  (∀ (a : Stamp) (h : Head) (s : State) (b : Blk), s.blk.at a = b → b.running = true → b.modes.closed = false → 
    exec (.indirectAcknowledge a h) s = .next { s with blk := b.ackPosted h }) ∧
  (∀ (a : Stamp) (h : Head) (tookEffect : Bool) (addr : BitVec 32) (width : Nat) (v : BitVec 64) (t : Nat) (s : State) (b : Blk), s.blk.at a = b → (b.head h).ctl.posted = some (addr, width, v, t) → t + 1000 ≤ b.now → 
    exec (.indirectTimeout a h tookEffect) s = .next { s with
      blk := if tookEffect then (b.onCtl h fun c => c.flag 7).ackPosted h else (b.onCtl h fun c => c.flag 7).onCtl h fun c => { c with posted := none } }) ∧
  (∀ (a : Stamp) (h : Head) (tookEffect : Bool) (s : State) (b : Blk), s.blk.at a = b → (b.head h).ctl.posted = none → b.barOpen h = true → 
    exec (.indirectTimeout a h tookEffect) s = .next { s with
      blk := ((b.onCtl h fun c => c.flag 7).emit (.reg h 0x028 (256 ^ (b.head h).ctl.width - 1))).afterRead h }) ∧
  (∀ (a : Stamp) (h : Head) (off : BitVec 12) (bytes : Nat) (v : BitVec 128) (s : State) (b : Blk), s.blk.at a = b → b.barOpen h = true → (bytes = 4 ∨ bytes = 8) → off.toNat % bytes = 0 → ¬ (0x040 ≤ off.toNat ∧ off.toNat < 0x050 ∧ bytes = 4) → off.toNat ≠ 0x088 → 
    exec (.registerWrite a h off bytes v) s = .next { s with
      blk := if bytes = 8 then (b.ctlWord h off.toNat (v.setWidth 32)).ctlWord h (off.toNat + 4) (v.extractLsb' 32 32) else b.ctlWord h off.toNat (v.setWidth 32) }) ∧
  (∀ (a : Stamp) (f : Voted) (copy : Fin 3) (v : Nat) (s : State) (b : Blk), s.blk.at a = b → b.votes f = true → majority ((b.copies f).set copy.val (v % 2 ^ votedWidth f)) = some (b.votedValue f) → v % 2 ^ votedWidth f ≠ b.votedValue f → ((b.safety.votes.getD (votedBit f) []).filter fun t => decide (b.now - t < 1000000000)).length < 3 → 
    exec (.voteCorrection a f copy v) s = .next { s with
      blk := (let times := b.now :: (b.safety.votes.getD (votedBit f) []).filter fun t => decide (b.now - t < 1000000000)
          let b1 := (b.putCopies f (b.votedValue f)).onSafety fun s => { s with vcnt := min (s.vcnt + 1) (2 ^ 32 - 1), vcorr := s.vcorr ||| BitVec.ofNat 5 (1 <<< votedBit f), votes := s.votes.set [] (votedBit f) times }
          (b1.report { code := 0x7C02, unit := BitVec.ofNat 16 (votedBit f), data := leBytes 1 (votedBit f) ++ leBytes 1 copy.val }).detect 6 false) }) ∧
  (∀ (a : Stamp) (f : Voted) (v1 v2 : Nat) (s : State) (b : Blk), s.blk.at a = b → b.votes f = true → v1 % 2 ^ votedWidth f ≠ b.votedValue f → v2 % 2 ^ votedWidth f ≠ b.votedValue f → v1 % 2 ^ votedWidth f ≠ v2 % 2 ^ votedWidth f → 
    exec (.voteThreeWayDisagreement a f v1 v2) s = .next { s with
      blk := ((b.putCopies f (b.failSafe f)).onSafety fun s => { s with vfault := s.vfault ||| BitVec.ofNat 5 (1 <<< votedBit f) }).detect 6 true }) ∧
  (∀ (a : Stamp) (d : Dom) (off : BitVec 24) (s : State) (b : Blk), s.blk.at a = b → (b.running || (d == .aon && b.powered)) = true → b.safety.parity.find (domCode d * 2 ^ 24 + off.toNat) = none → 
    exec (.parityMismatch a d off) s = .next { s with
      blk := ((((b.reload d off.toNat).onSafety fun s => { s with pcnt := min (s.pcnt + 1) (2 ^ 32 - 1), pdom := s.pdom ||| BitVec.ofNat 7 (1 <<< pdomBit d), parity := s.parity.put (domCode d * 2 ^ 24 + off.toNat) b.now }).report
          { code := 0x7C04, data := leBytes 4 (domCode d * 2 ^ 24 + off.toNat) }).detect 7 false) })

/-- An 8-B GVAL write is held with its instant, an earlier one ending with result 3; a GCMP write within 1,280 ns that is the complement ends it with the result of the checks, and when that is 1 makes it due, a later one ends it with 3, a wrong one with 2, and one without a GVAL answers 4; each due effect then happens once: key zeroize, the calibration write enable, Felt format, Safe Stop release, the forced cuts and the forced clock switches (R300 to R303, R252, R133, R370, R402, R335, R356). -/
def Obligations.GuardedWrites : Prop :=
  (∀ (a : Stamp) (h : Head) (bytes : Nat) (v : BitVec 64) (s : State) (b : Blk), s.blk.at a = b → b.barOpen h = true → bytes = 8 → (b.head h).ctl.held = none → 
    exec (.gval a h bytes v) s = .next { s with blk := b.onCtl h fun c => { c with held := some (v, b.now) } }) ∧
  (∀ (a : Stamp) (h : Head) (bytes : Nat) (v : BitVec 64) (w : BitVec 64) (t : Nat) (s : State) (b : Blk), s.blk.at a = b → b.barOpen h = true → bytes = 8 → (b.head h).ctl.held = some (w, t) → 
    exec (.gval a h bytes v) s = .next { s with
      blk := (b.guardEnd h (w.extractLsb' 48 16) 3).onCtl h fun c => { c with held := some (v, (b.guardEnd h (w.extractLsb' 48 16) 3).now) } }) ∧
  (∀ (a : Stamp) (h : Head) (bytes : Nat) (v : BitVec 64) (w : BitVec 64) (t : Nat) (s : State) (b : Blk), s.blk.at a = b → b.barOpen h = true → bytes = 8 → (b.head h).ctl.held = some (w, t) → b.now ≤ t + 1280 → v = ~~~w → 
    exec (.gcmp a h bytes v) s = .next { s with
      blk := (let b1 := b.guardEnd h (w.extractLsb' 48 16) (b.guardResult h w)
          if b.guardResult h w = 1 then b1.dueAdd h (w.extractLsb' 48 16, w.setWidth 32) else b1) }) ∧
  (∀ (a : Stamp) (h : Head) (bytes : Nat) (v : BitVec 64) (w : BitVec 64) (t : Nat) (s : State) (b : Blk), s.blk.at a = b → b.barOpen h = true → bytes = 8 → (b.head h).ctl.held = some (w, t) → t + 1280 < b.now → 
    exec (.gcmp a h bytes v) s = .next { s with blk := b.guardEnd h (w.extractLsb' 48 16) 3 }) ∧
  (∀ (a : Stamp) (h : Head) (bytes : Nat) (v : BitVec 64) (w : BitVec 64) (t : Nat) (s : State) (b : Blk), s.blk.at a = b → b.barOpen h = true → bytes = 8 → (b.head h).ctl.held = some (w, t) → b.now ≤ t + 1280 → v ≠ ~~~w → 
    exec (.gcmp a h bytes v) s = .next { s with blk := b.guardEnd h (w.extractLsb' 48 16) 2 }) ∧
  (∀ (a : Stamp) (h : Head) (bytes : Nat) (v : BitVec 64) (s : State) (b : Blk), s.blk.at a = b → b.barOpen h = true → bytes = 8 → (b.head h).ctl.held = none → 
    exec (.gcmp a h bytes v) s = .next { s with blk := b.guardEnd h (b.head h).ctl.ltarget 4 }) ∧
  (∀ (a : Stamp) (e : BitVec 16 × BitVec 32) (s : State) (b : Blk), s.blk.at a = b → (b.due.find? fun x => x.1.toNat == 1 && true) = some e → 
    exec (.keyZeroize a) s = .next { s with
      blk := (let c : Blk := { b with due := b.due.erase e, dueB := none }
          if c.modes.flush.isSome then c.onDamask fun d => { d with zeroLater := true } else c.zeroize) }) ∧
  (∀ (a : Stamp) (e : BitVec 16 × BitVec 32) (s : State) (b : Blk), s.blk.at a = b → (b.due.find? fun x => x.1.toNat == 2 && x.2.toNat == 1) = some e → 
    exec (.calibrationWriteEnableOpen a) s = .next { s with
      blk := (let c : Blk := { b with due := b.due.erase e, dueB := none }
          c.onGauze fun g => { g with calOpen := some c.now }) }) ∧
  (∀ (a : Stamp) (e : BitVec 16 × BitVec 32) (s : State) (b : Blk), s.blk.at a = b → (b.due.find? fun x => x.1.toNat == 2 && x.2.toNat == 0) = some e → 
    exec (.calibrationWriteEnableClose a) s = .next { s with
      blk := (let c : Blk := { b with due := b.due.erase e, dueB := none }
          c.onGauze fun g => { g with calOpen := none }) }) ∧
  (∀ (a : Stamp) (e : BitVec 16 × BitVec 32) (s : State) (b : Blk), s.blk.at a = b → (b.due.find? fun x => x.1.toNat == 3 && true) = some e → 
    exec (.feltFormat a) s = .next { s with
      blk := (let c : Blk := { b with due := b.due.erase e, dueB := none }
          (((List.range 7).filter fun i => e.2.toNat.testBit i).foldl (fun c i => c.formatArea i) c).report { code := 0x9004, data := leBytes 4 e.2.toNat }) }) ∧
  (∀ (a : Stamp) (e : BitVec 16 × BitVec 32) (s : State) (b : Blk), s.blk.at a = b → (b.due.find? fun x => x.1.toNat == 4 && true) = some e → b.holds 11 = true → 
    exec (.safeStopRelease a) s = .next { s with
      blk := (let c : Blk := { b with due := b.due.erase e, dueB := none }
          let c1 := c.saveMedia false
          let c2 := (c1.loseSwitched true).onModes fun m => { m.off with step := 2, warm := true, t0 := c.now, reported := c1.modes.reported }
          (c2.setConditions fun _ => 4).faultPin) }) ∧
  (∀ (a : Stamp) (e : BitVec 16 × BitVec 32) (s : State) (b : Blk), s.blk.at a = b → (b.due.find? fun x => x.1.toNat == 5 && x.2.toNat == 1) = some e → b.running = true → b.modes.flush = none → 
    exec (.forcedPowerCutInput a) s = .next { s with
      blk := (let c : Blk := { b with due := b.due.erase e, dueB := none }
          c.loseInput 3) }) ∧
  (∀ (a : Stamp) (e : BitVec 16 × BitVec 32) (s : State) (b : Blk), s.blk.at a = b → (b.due.find? fun x => x.1.toNat == 5 && x.2.toNat == 2) = some e → b.running = true → 
    exec (.forcedPowerCutRail a) s = .next { s with
      blk := (let c : Blk := { b with due := b.due.erase e, dueB := none }
          c.allOff 0x06 0xFF 0 0 false) }) ∧
  (∀ (a : Stamp) (e : BitVec 16 × BitVec 32) (s : State) (b : Blk), s.blk.at a = b → (b.due.find? fun x => x.1.toNat == 6 && x.2.toNat == 0) = some e → 
    exec (.forcedClockSwitchIrc a) s = .next { s with
      blk := (let c : Blk := { b with due := b.due.erase e, dueB := none }
          (c.onClocks fun k => { k.fallBack with forced := true }).report { code := 0x7403 }) }) ∧
  (∀ (a : Stamp) (e : BitVec 16 × BitVec 32) (s : State) (b : Blk), s.blk.at a = b → (b.due.find? fun x => x.1.toNat == 6 && x.2.toNat == 1) = some e → b.clocks.failed = false → 
    exec (.forcedClockSwitchRefclk a) s = .next { s with
      blk := (let c : Blk := { b with due := b.due.erase e, dueB := none }
          c.startReturn) }) ∧
  (∀ (a : Stamp) (t : Nat) (s : State) (b : Blk), s.blk.at a = b → b.gauze.calOpen = some t → t + 600000000000 ≤ b.now → 
    exec (.calibrationEnableExpiry a) s = .next { s with blk := b.onGauze fun g => { g with calOpen := none } })

/-- With the mailbox open and no region standing, an erase with no other background operation discards the caches, replaces the keys and answers Background Command Started, a Sanitize ending a media scan for it; while a region stands it answers Busy. The completion blanks the tables, overwrites where it is asked to, binds the media and ends the operation. A step of Terry's takes the next read of a media scan and the next stripe of its lap; the word at the scrub's cursor is read through its decoder, when the lap is behind its pace, and the lap goes on; any other access reads its word likewise; a lap that has outlasted its target is starved once (R106 to R113, R221, R259, R399). -/
def Obligations.ErasesAndScrub : Prop :=
  (∀ (a : Stamp) (h : Head) (s : State) (b : Blk), s.blk.at a = b → b.mailboxOpen h = true → b.bgRuns = false → b.noRegionStands = true → b.media.scan = none → 
    exec (.sanitize a h) s = .next { s with
      blk := (let b1 := (b.discardCaches.newKeys).odSet 0x6830 0x02 0
          ((b1.onDamask fun d => { d with erase := some { sanitize := true, step := 3 } }).onDev fun d => { d with bg := some (0x4400, h, false) }).mbReply h 0x4400 .backgroundStarted []) }) ∧
  (∀ (a : Stamp) (h : Head) (s : State) (b : Blk), s.blk.at a = b → b.mailboxOpen h = true → b.noRegionStands = true → b.media.scan.isSome = true → b.dropScan.noRegionStands = true → 
    exec (.sanitize a h) s = .next { s with
      blk := (let b1 := (b.dropScan.discardCaches.newKeys).odSet 0x6830 0x02 0
          ((b1.onDamask fun d => { d with erase := some { sanitize := true, step := 3 } }).onDev fun d => { d with bg := some (0x4400, h, false) }).mbReply h 0x4400 .backgroundStarted []) }) ∧
  (∀ (a : Stamp) (h : Head) (s : State) (b : Blk), s.blk.at a = b → b.mailboxOpen h = true → b.bgRuns = false → b.noRegionStands = true → 
    exec (.secureErase a h) s = .next { s with
      blk := (let b1 := (b.discardCaches.newKeys).odSet 0x6830 0x02 0
          ((b1.onDamask fun d => { d with erase := some { sanitize := false, step := 3 } }).onDev fun d => { d with bg := some (0x4401, h, false) }).mbReply h 0x4401 .backgroundStarted []) }) ∧
  (∀ (a : Stamp) (h : Head) (s : State) (b : Blk), s.blk.at a = b → b.mailboxOpen h = true → b.noRegionStands = false → 
    exec (.sanitize a h) s = .next { s with blk := b.mbReply h 0x4400 .busy [] }) ∧
  (∀ (a : Stamp) (h : Head) (s : State) (b : Blk), s.blk.at a = b → b.mailboxOpen h = true → b.noRegionStands = false → 
    exec (.secureErase a h) s = .next { s with blk := b.mbReply h 0x4401 .busy [] }) ∧
  (∀ (a : Stamp) (e : Erase) (s : State) (b : Blk), s.blk.at a = b → b.damask.erase = some e → b.mgmt = true → 6 ≤ b.modes.step → 
    exec (.eraseComplete a) s = .next { s with
      blk := (let b1 := b.blankTables
          let b2 := if e.sanitize && b1.cfg 0x6830 0x01 == 1 then b1.overwriteAll else b1
          ((b2.renewPool.onDamask fun d => { d with erase := none }).odSet 0x6830 0x02 100).boundNow.bgEnds) }) ∧
  (∀ (a : Stamp) (cls : Cls) (s : State) (b : Blk), s.blk.at a = b → b.works = true → 
    exec (.terryStripeRead a cls) s = .next { s with blk := ((if b.scanBusy then b else b.scanNext).lapRead cls).drive }) ∧
  (∀ (a : Stamp) (bank : Fin 66) (word : Nat) (how : SramAccess) (e : SramFlaw) (s : State) (b : Blk), s.blk.at a = b → b.mgmt = true → how = .scrub → b.media.lapS.lines = bank.val * 262144 + word % 262144 → b.media.lapS.behind b.opTime 20000 = true → (b.bank bank.val).state ≠ 2 → 
    exec (.sramScrub a bank word how e) s = .next { s with
      blk := (let b1 := b.sramRead bank.val (word % 262144) e.outcome .scrub
          (b1.onMedia fun m => { m with lapS := if sramWords ≤ b.media.lapS.lines + 1 then b.media.lapS.ended b.opTime 60000 sramWords else { b.media.lapS with lines := b.media.lapS.lines + 1 } }).healthCheck) }) ∧
  (∀ (a : Stamp) (bank : Fin 66) (word : Nat) (how : SramAccess) (e : SramFlaw) (s : State) (b : Blk), s.blk.at a = b → b.mgmt = true → how ≠ .scrub → (b.bank bank.val).state ≠ 2 → 
    exec (.sramScrub a bank word how e) s = .next { s with blk := b.sramRead bank.val (word % 262144) e.outcome .internal }) ∧
  (∀ (a : Stamp) (lap : Fin 3) (s : State) (b : Blk), s.blk.at a = b → b.works = true → lap.val = 0 → 
    exec (.scrubStarved a lap) s = .next { s with
      blk := b.starve 0 b.media.lapV (b.lapTarget .voile) fun m => { m with lapV := { m.lapV with starved := true } } }) ∧
  (∀ (a : Stamp) (lap : Fin 3) (s : State) (b : Blk), s.blk.at a = b → b.works = true → lap.val = 1 → 
    exec (.scrubStarved a lap) s = .next { s with
      blk := b.starve 1 b.media.lapD (b.lapTarget .denim) fun m => { m with lapD := { m.lapD with starved := true } } }) ∧
  (∀ (a : Stamp) (lap : Fin 3) (s : State) (b : Blk), s.blk.at a = b → b.works = true → lap.val = 2 → 
    exec (.scrubStarved a lap) s = .next { s with blk := b.starve 2 b.media.lapS 60000 fun m => { m with lapS := { m.lapS with starved := true } } })

/-- A cell with 4,096 reads is evaluated, a cell in use that outlasts its interval becomes stale, with an event for its die at most once in 24 h, and probes are asked for at three quarters of it; a weak area is offered; a die in use has its temperature sampled and its trend fitted; a margin evaluation judges the next mapped area and moves its cursor on; a snapshot is written to the older of the two generations (R120, R122 to R125, R127 to R130). -/
def Obligations.GauzeEvaluations : Prop :=
  (∀ (a : Stamp) (d : Fin 256) (k : Fin 16) (n : Fin 4) (j : Fin 3) (s : State) (b : Blk), s.blk.at a = b → 4096 ≤ (b.cell d.val k.val n.val j.val).reads → b.gauzeFrozen = false → 
    exec (.cellEvaluation a d k n j) s = .next { s with
      blk := (((b.putCell d k n j ((b.cell d.val k.val n.val j.val).evaluate b.opSec)).onGauze fun g => { g with probes := g.probes.del (cellKey d k n j) }).bump 0x5000 0x03 1).tw 103 1 }) ∧
  (∀ (a : Stamp) (d : Fin 256) (k : Fin 16) (n : Fin 4) (j : Fin 3) (s : State) (b : Blk), s.blk.at a = b → b.cellInUse d k n = true → (b.cell d.val k.val n.val j.val).state ≠ 2 → (b.cell d.val k.val n.val j.val).last + staleInterval k < b.opSec → b.gauze.staleAt.find d = none → 
    exec (.cellStale a d k n j) s = .next { s with
      blk := ((b.putCell d k n j { b.cell d.val k.val n.val j.val with state := 2 }).onGauze fun g => { g with staleAt := g.staleAt.put d b.opSec }).reportUnit 0x5001 3 d }) ∧
  (∀ (a : Stamp) (d : Fin 256) (k : Fin 16) (n : Fin 4) (j : Fin 3) (s : State) (b : Blk), s.blk.at a = b → b.cellInUse d k n = true → 4 * (b.cell d.val k.val n.val j.val).last + 3 * staleInterval k ≤ 4 * b.opSec → b.gauze.probes.has (cellKey d k n j) = false → 
    exec (.probeBatch a d k n j) s = .next { s with blk := b.onGauze fun g => { g with probes := g.probes.put (cellKey d k n j) 4096 } }) ∧
  (∀ (a : Stamp) (area : Nat) (s : State) (b : Blk), s.blk.at a = b → 32 ≤ b.gauze.weakRgn.getD area 0 → 
    exec (.weakRegionOffer a area) s = .next { s with blk := ((b.offerArea area b.opSec).areaNew area).bump 0x5000 0x08 1 }) ∧
  (∀ (a : Stamp) (d : Fin 256) (k : Fin 16) (n : Fin 4) (j : Fin 3) (t : Nat) (s : State) (b : Blk), s.blk.at a = b → b.cellInUse d k n = true → (b.cell d.val k.val n.val j.val).state ≠ 2 → (b.cell d.val k.val n.val j.val).last + staleInterval k < b.opSec → b.gauze.staleAt.find d = some t → b.opSec < t + 86400 → 
    exec (.cellStale a d k n j) s = .next { s with blk := b.putCell d k n j { b.cell d.val k.val n.val j.val with state := 2 } }) ∧
  (∀ (a : Stamp) (d : Fin 256) (s : State) (b : Blk), s.blk.at a = b → (b.die d).state = 1 → 
    exec (.trendFit a d) s = .next { s with blk := (b.sampleTemp d).onGauze fun g => { g with fit := g.fit.put d ((b.sampleTemp d).fitOf d) } }) ∧
  (∀ (a : Stamp) (area : Nat) (s : State) (b : Blk), s.blk.at a = b → b.works = true → b.beginEvaluation.areaFrom b.beginEvaluation.gauze.evalNext = some area → 
    exec (.marginEvaluation a) s = .next { s with
      blk := ((b.beginEvaluation.evaluateArea area).onGauze fun g => { g with evalNext := area + 1 }).drive }) ∧
  (∀ (a : Stamp) (failed : List (Fin 16384)) (s : State) (b : Blk), s.blk.at a = b → b.works = true → 
    exec (.gauzeSnapshot a failed) s = .next { s with
      blk := (let b1 := failed.foldl (fun c j => c.metaFail (snapMem c.dieCount ((b.gauze.snaps.foldl (fun n e => max n e.2.seq) 0 + 1) % 2) j.val)) b
          let last := b1.gauze.snaps.foldl (fun n e => max n e.2.seq) 0
          let x : Snap := { seq := last + 1, opTime := b1.opTime, cells := b1.gauze.cells, work := b1.gauze.work, rows := b1.gauze.rowAge, slots := b1.gauze.slotAge }
          ((b1.putSnap x).onGauze fun g => { g with snaps := g.snaps.put (x.seq % 2) x }).odSet 0x5000 0x07 b1.opTime) })

/-- A service counts once and asks each die in use for its status; training at step 5 finds the dies, counts them and fails the channels that are lost; a retrain that may begin takes the channel out and reroutes its dies, its end brings it back or fails it; calibration and deskew commands go out (R197, R199 to R202, R207, R407). -/
def Obligations.JoernChannels : Prop :=
  (∀ (a : Stamp) (ch : Fin 32) (reports : List (Fin 8 × BitVec 256)) (s : State) (b : Blk), s.blk.at a = b → (b.chan ch).state = 2 → 
    exec (.alertService a ch reports) s = .next { s with
      blk := ((List.range 8).foldl (fun c i =>
          if (c.die (8 * ch.val + i)).state = 1 then
          match reports.find? fun r => r.1.val == i with
          | some r => (c.sendDie (8 * ch.val + i) .str).serveDie (8 * ch.val + i) r.2
          | none => c.sendDie (8 * ch.val + i) .str
          else c) (b.bump (0x3000 + 0x20 * ch.val) 0x08 1)) }) ∧
  (∀ (a : Stamp) (obs : List TrainObs) (live : List (Nat × TrainObs)) (counts : List Nat) (s : State) (b : Blk), s.blk.at a = b → b.eff = 2 → b.modes.step = 5 → b.counting obs = live → (live.map fun e => dieRun e.2.present) = counts → 
    exec (.channelTraining a obs) s = .next { s with
      blk := (let n := counts.foldl min (counts.headD 0)
          let b1 := live.foldl (fun b e => b.findDies e.1 e.2) b
          let b2 := if counts.any fun c => c != n then b1.report { code := 0x3805 } else b1
          let b3 := b2.onMedia fun m => { m with perChan := n }
          let b4 := live.foldl (fun b e => b.channelTrained n e.1 e.2) b3
          let lost := (List.range 32).filter fun c => !(live.any fun e => e.1 == c) && !(b.chan c).retired
          (lost.foldl (fun b c => b.channelFail c) b4).onModes fun m => { m with step := 6 }) }) ∧
  (∀ (a : Stamp) (ch : Fin 32) (s : State) (b : Blk), s.blk.at a = b → (b.chan ch).retrain = true → (b.chan ch).state = 2 → b.aloneToRetrain ch = true → b.resetsClear ch = true → 
    exec (.channelRetrain a ch) s = .next { s with
      blk := (List.range b.media.perChan).foldl (fun b i => b.rerouteDie (8 * ch.val + i)) (((b.onChan ch fun c => { c with state := 4, retrain := false }).bump32 (0x3000 + 0x20 * ch.val) 0x0A 1).reportUnit 0x3001 2 ch.val) }) ∧
  (∀ (a : Stamp) (ch : Fin 32) (ok : Bool) (timeUs : Nat) (s : State) (b : Blk), s.blk.at a = b → (b.chan ch).state = 4 → ok = true → 
    exec (.channelRetrainEnd a ch ok timeUs) s = .next { s with
      blk := (((List.range 8).filter fun i => (b.die (8 * ch.val + i)).state == 1).foldl (fun b i => b.trainDie (8 * ch.val + i) (b.clocks.src.getLsbD 3)) b).channelBack ch timeUs }) ∧
  (∀ (a : Stamp) (ch : Fin 32) (ok : Bool) (timeUs : Nat) (s : State) (b : Blk), s.blk.at a = b → (b.chan ch).state = 1 → b.memoryActive = true → ok = true → 
    exec (.channelRetrainEnd a ch ok timeUs) s = .next { s with
      blk := (b.fullTraining ch.val ((List.range 8).filter fun i => (b.die (8 * ch.val + i)).state == 1) timeUs).channelBack ch timeUs }) ∧
  (∀ (a : Stamp) (ch : Fin 32) (ok : Bool) (timeUs : Nat) (s : State) (b : Blk), s.blk.at a = b → (b.chan ch).state = 4 → ok = false → 
    exec (.channelRetrainEnd a ch ok timeUs) s = .next { s with blk := b.onChan ch fun c => { c with state := 1 } }) ∧
  (∀ (a : Stamp) (ch : Fin 32) (ok : Bool) (timeUs : Nat) (s : State) (b : Blk), s.blk.at a = b → (b.chan ch).state = 1 → b.memoryActive = true → ok = false → 
    exec (.channelRetrainEnd a ch ok timeUs) s = .next { s with blk := b.channelFail ch }) ∧
  (∀ (a : Stamp) (ch : Fin 32) (s : State) (b : Blk), s.blk.at a = b → (b.chan ch).state = 2 → b.modes.deep = false → 
    exec (.zqcShortPeriod a ch) s = .next { s with
      blk := ((List.range 8).filter fun i => (b.die (8 * ch.val + i)).state == 1).foldl (fun b i => b.sendDie (8 * ch.val + i) (.zqc false)) b }) ∧
  (∀ (a : Stamp) (ch : Fin 32) (die : Fin 8) (moved : List (Fin 36 × Bool)) (s : State) (b : Blk), s.blk.at a = b → (b.chan ch).state = 2 → (b.die (dieOf ch die)).state = 1 → b.modes.deep = false → 
    exec (.writeDeskewCheck a ch die moved) s = .next { s with
      blk := moved.foldl (fun b m => b.moveLane (dieOf ch die) (b.clocks.src.getLsbD 3) m) ((b.sendDie (dieOf ch die) .tbw).sendDie (dieOf ch die) (.trn true 0)) })

/-- The command word goes out with the die's next SEQ; an awake die in a state that takes the command returns the sensed line, starts the margin read, repeats its buffer, starts the program or overwrite whose data it accepts, starts the resets, or suspends and resumes a program, or gives a margin read up; in another state it refuses, a read with RSTAT 2 (R180, R188 to R192, R194). -/
def Obligations.DieArrayCommands : Prop :=
  (∀ (a : Stamp) (ch : Fin 32) (die : Fin 8) (part : Fin 32) (line : BitVec 23) (o2 o1 o0 : BitVec 9) (c : Blk) (l : BitVec 23) (q r : BitVec 3) (sg : BitVec 72) (w : BitVec 1152) (s : State) (b : Blk), s.blk.at a = b → ((b.sendDie (partOf ch die part / 32) (.rd (BitVec.ofNat 5 part.val) line o2 o1 o0)).twChan ch.val 1) = c → c.dieAwake (partOf ch die part / 32) = true → c.takesRead (partOf ch die part) = true → ((c.occupy (partOf ch die part) line.toNat ((b.die (partOf ch die part / 32)).seq) 250).dpart (partOf ch die part)).out = some (l, q, r, sg, w) → 
    exec (.rd a ch die part line o2 o1 o0) s = .next { s with
      blk := (c.occupy (partOf ch die part) line.toNat ((b.die (partOf ch die part / 32)).seq) 250).emit (.dq ((partOf ch die part / 32) / 8) ((partOf ch die part / 32) % 8) (c.dieSt (partOf ch die part / 32) l r ((partOf ch die part) % 32) ((b.die (partOf ch die part / 32)).seq)) sg w) }) ∧
  (∀ (a : Stamp) (ch : Fin 32) (die : Fin 8) (part : Fin 32) (line : BitVec 23) (o2 o1 o0 : BitVec 9) (c : Blk) (s : State) (b : Blk), s.blk.at a = b → ((b.sendDie (partOf ch die part / 32) (.rd (BitVec.ofNat 5 part.val) line o2 o1 o0)).twChan ch.val 1) = c → c.dieAwake (partOf ch die part / 32) = true → c.takesRead (partOf ch die part) = false → 
    exec (.rd a ch die part line o2 o1 o0) s = .next { s with
      blk := ((c.dieRefuse (partOf ch die part / 32)).useFree.emit (.dq ((partOf ch die part / 32) / 8) ((partOf ch die part / 32) % 8) ((c.dieRefuse (partOf ch die part / 32)).dieSt (partOf ch die part / 32) (BitVec.ofNat 23 line.toNat) 2 ((partOf ch die part) % 32) ((b.die (partOf ch die part / 32)).seq)) ((c.dieRefuse (partOf ch die part / 32)).freeVal 72) 0)) }) ∧
  (∀ (a : Stamp) (ch : Fin 32) (die : Fin 8) (part : Fin 32) (line : BitVec 23) (o2 o1 o0 : BitVec 9) (c e : Blk) (l : BitVec 23) (q r : BitVec 3) (sg : BitVec 72) (w : BitVec 1152) (s : State) (b : Blk), s.blk.at a = b → (b.sendDie (partOf ch die part / 32) (.mrd (BitVec.ofNat 5 part.val) line o2 o1 o0)) = c → c.dieAwake (partOf ch die part / 32) = true → c.takesWrite (partOf ch die part) = true → (match b.probeOf (partOf ch die part) line.toNat o2 o1 o0 with | some (y, n) => c.probeSent (partOf ch die part / 32) y n | none => c) = e → e.takesRead (partOf ch die part) = true → ((e.occupy (partOf ch die part) line.toNat ((b.die (partOf ch die part / 32)).seq) 400).dpart (partOf ch die part)).out = some (l, q, r, sg, w) → 
    exec (.mrd a ch die part line o2 o1 o0) s = .next { s with
      blk := ((e.occupy (partOf ch die part) line.toNat ((b.die (partOf ch die part / 32)).seq) 400).emit (.dq ((partOf ch die part / 32) / 8) ((partOf ch die part / 32) % 8) (e.dieSt (partOf ch die part / 32) l r ((partOf ch die part) % 32) ((b.die (partOf ch die part / 32)).seq)) sg w)).onPart (partOf ch die part) fun p => { p with op := .marginRead { line := line.toNat, o2 := o2, o1 := o1, o0 := o0, probe := b.probeOf (partOf ch die part) line.toNat o2 o1 o0 } } }) ∧
  (∀ (a : Stamp) (ch : Fin 32) (die : Fin 8) (part : Fin 32) (line : BitVec 23) (o2 o1 o0 : BitVec 9) (c : Blk) (s : State) (b : Blk), s.blk.at a = b → (b.sendDie (partOf ch die part / 32) (.mrd (BitVec.ofNat 5 part.val) line o2 o1 o0)) = c → c.dieAwake (partOf ch die part / 32) = true → c.takesWrite (partOf ch die part) = false → c.takesRead (partOf ch die part) = false → 
    exec (.mrd a ch die part line o2 o1 o0) s = .next { s with
      blk := ((c.dieRefuse (partOf ch die part / 32)).useFree.emit (.dq ((partOf ch die part / 32) / 8) ((partOf ch die part / 32) % 8) ((c.dieRefuse (partOf ch die part / 32)).dieSt (partOf ch die part / 32) (BitVec.ofNat 23 line.toNat) 2 ((partOf ch die part) % 32) ((b.die (partOf ch die part / 32)).seq)) ((c.dieRefuse (partOf ch die part / 32)).freeVal 72) 0)) }) ∧
  (∀ (a : Stamp) (ch : Fin 32) (die : Fin 8) (part : Fin 32) (c : Blk) (s : State) (b : Blk), s.blk.at a = b → ((b.sendDie (partOf ch die part / 32) (.rrs (BitVec.ofNat 5 part.val))).twChan ch.val 6) = c → c.dieAwake (partOf ch die part / 32) = true → c.takesRead (partOf ch die part) = false → 
    exec (.rrs a ch die part) s = .next { s with blk := c.dieRefuse (partOf ch die part / 32) }) ∧
  (∀ (a : Stamp) (ch : Fin 32) (die : Fin 8) (part : Fin 32) (c : Blk) (l : BitVec 23) (q r : BitVec 3) (sg : BitVec 72) (w : BitVec 1152) (s : State) (b : Blk), s.blk.at a = b → ((b.sendDie (partOf ch die part / 32) (.rrs (BitVec.ofNat 5 part.val))).twChan ch.val 6) = c → c.dieAwake (partOf ch die part / 32) = true → c.takesRead (partOf ch die part) = true → (c.dpart (partOf ch die part)).out = some (l, q, r, sg, w) → 
    exec (.rrs a ch die part) s = .next { s with blk := c.emit (.dq ch.val die.val (c.dieSt (partOf ch die part / 32) l r part.val q) sg w) }) ∧
  (∀ (a : Stamp) (ch : Fin 32) (die : Fin 8) (part : Fin 32) (line : BitVec 23) (content : BitVec 1152) (accepted : Bool) (c : Blk) (s : State) (b : Blk), s.blk.at a = b → ((b.sendDie (partOf ch die part / 32) (.pgm (BitVec.ofNat 5 part.val) line)).twChan ch.val 2) = c → c.dieAwake (partOf ch die part / 32) = true → c.takesWrite (partOf ch die part) = true → c.dieWrites (partOf ch die part / 32) < 8 → c.media.lines.find (locOf (partOf ch die part) line.toNat) = none → accepted = true → 
    exec (.pgm a ch die part line content accepted) s = .next { s with
      blk := c.onPart (partOf ch die part) fun p => { p with op := .program line.toNat { data := content.setWidth 1024, md := content.extractLsb' 1024 40 } (.rewrite ((c.memAt (locOf (partOf ch die part) line.toNat)).getD { cls := .voile, slot := slotsV c.dieCount, stripe := 0, m := 0 })) false false 0, suspended := false, suspTotal := 0, suspCount := 0, since := c.now, pseq := (b.die (partOf ch die part / 32)).seq } }) ∧
  (∀ (a : Stamp) (ch : Fin 32) (die : Fin 8) (part : Fin 32) (line : BitVec 23) (content : BitVec 1152) (accepted : Bool) (c : Blk) (s : State) (b : Blk), s.blk.at a = b → ((b.sendDie (partOf ch die part / 32) (.pgm (BitVec.ofNat 5 part.val) line)).twChan ch.val 2) = c → c.dieAwake (partOf ch die part / 32) = true → c.takesWrite (partOf ch die part) = true → c.dieWrites (partOf ch die part / 32) < 8 → c.media.lines.find (locOf (partOf ch die part) line.toNat) = none → accepted = false → 
    exec (.pgm a ch die part line content accepted) s = .next { s with
      blk := (c.alert (partOf ch die part / 32) 0).onDie (partOf ch die part / 32) fun x => { x with wseq := some ((b.die (partOf ch die part / 32)).seq) } }) ∧
  (∀ (a : Stamp) (ch : Fin 32) (die : Fin 8) (part : Fin 32) (line : BitVec 23) (content : BitVec 1152) (accepted : Bool) (c : Blk) (s : State) (b : Blk), s.blk.at a = b → ((b.sendDie (partOf ch die part / 32) (.ovw (BitVec.ofNat 5 part.val) line)).twChan ch.val 3) = c → c.dieAwake (partOf ch die part / 32) = true → c.takesWrite (partOf ch die part) = true → c.dieWrites (partOf ch die part / 32) < 8 → accepted = true → 
    exec (.ovw a ch die part line content accepted) s = .next { s with
      blk := c.onPart (partOf ch die part) fun p => { p with op := .program line.toNat { data := content.setWidth 1024, md := content.extractLsb' 1024 40 } (.rewrite ((c.memAt (locOf (partOf ch die part) line.toNat)).getD { cls := .voile, slot := slotsV c.dieCount, stripe := 0, m := 0 })) true false 0, suspended := false, suspTotal := 0, suspCount := 0, since := c.now, pseq := (b.die (partOf ch die part / 32)).seq } }) ∧
  (∀ (a : Stamp) (ch : Fin 32) (die : Fin 8) (part : Fin 32) (line : BitVec 23) (content : BitVec 1152) (accepted : Bool) (c : Blk) (s : State) (b : Blk), s.blk.at a = b → ((b.sendDie (partOf ch die part / 32) (.ovw (BitVec.ofNat 5 part.val) line)).twChan ch.val 3) = c → c.dieAwake (partOf ch die part / 32) = true → c.takesWrite (partOf ch die part) = true → c.dieWrites (partOf ch die part / 32) < 8 → accepted = false → 
    exec (.ovw a ch die part line content accepted) s = .next { s with
      blk := (c.alert (partOf ch die part / 32) 0).onDie (partOf ch die part / 32) fun x => { x with wseq := some ((b.die (partOf ch die part / 32)).seq) } }) ∧
  (∀ (a : Stamp) (ch : Fin 32) (die : Fin 8) (part : Fin 32) (tile : BitVec 17) (count : Fin 4) (c : Blk) (s : State) (b : Blk), s.blk.at a = b → ((b.sendDie (partOf ch die part / 32) (.trs (BitVec.ofNat 5 part.val) tile (BitVec.ofNat 2 count.val))).twChan ch.val 4) = c → c.dieAwake (partOf ch die part / 32) = true → c.takesWrite (partOf ch die part) = true → c.resets (partOf ch die part / 32) < 4 → tile.toNat + count.val < 131072 → 
    exec (.trs a ch die part tile count) s = .next { s with
      blk := c.onPart (partOf ch die part) fun p => { p with op := .reset tile.toNat count.val none, since := b.now } }) ∧
  (∀ (a : Stamp) (ch : Fin 32) (die : Fin 8) (part : Fin 32) (tile : BitVec 17) (count : Fin 4) (c : Blk) (s : State) (b : Blk), s.blk.at a = b → ((b.sendDie (partOf ch die part / 32) (.trs (BitVec.ofNat 5 part.val) tile (BitVec.ofNat 2 count.val))).twChan ch.val 4) = c → c.dieAwake (partOf ch die part / 32) = true → (c.takesWrite (partOf ch die part) = false ∨ 4 ≤ c.resets (partOf ch die part / 32) ∨ 131072 ≤ tile.toNat + count.val) → 
    exec (.trs a ch die part tile count) s = .next { s with blk := c.dieRefuse (partOf ch die part / 32) }) ∧
  (∀ (a : Stamp) (ch : Fin 32) (die : Fin 8) (part : Fin 32) (line : BitVec 23) (content : BitVec 1152) (accepted : Bool) (c : Blk) (s : State) (b : Blk), s.blk.at a = b → ((b.sendDie (partOf ch die part / 32) (.pgm (BitVec.ofNat 5 part.val) line)).twChan ch.val 2) = c → c.dieAwake (partOf ch die part / 32) = true → (c.takesWrite (partOf ch die part) = false ∨ 8 ≤ c.dieWrites (partOf ch die part / 32) ∨ (c.media.lines.find (locOf (partOf ch die part) line.toNat)).isSome = true) → 
    exec (.pgm a ch die part line content accepted) s = .next { s with blk := c.dieRefuse (partOf ch die part / 32) }) ∧
  (∀ (a : Stamp) (ch : Fin 32) (die : Fin 8) (part : Fin 32) (line : BitVec 23) (content : BitVec 1152) (accepted : Bool) (c : Blk) (s : State) (b : Blk), s.blk.at a = b → ((b.sendDie (partOf ch die part / 32) (.ovw (BitVec.ofNat 5 part.val) line)).twChan ch.val 3) = c → c.dieAwake (partOf ch die part / 32) = true → (c.takesWrite (partOf ch die part) = false ∨ 8 ≤ c.dieWrites (partOf ch die part / 32)) → 
    exec (.ovw a ch die part line content accepted) s = .next { s with blk := c.dieRefuse (partOf ch die part / 32) }) ∧
  (∀ (a : Stamp) (ch : Fin 32) (die : Fin 8) (part : Fin 32) (c : Blk) (ln : Nat) (x : MLine) (why : ProgFor) (ov ck : Bool) (k : Nat) (s : State) (b : Blk), s.blk.at a = b → ((b.sendDie (partOf ch die part / 32) (.sus (BitVec.ofNat 5 part.val))).twChan ch.val 5) = c → c.dieAwake (partOf ch die part / 32) = true → (c.part (partOf ch die part)).op = .program ln x why ov ck k → (c.part (partOf ch die part)).suspended = false → (c.part (partOf ch die part)).readyAt ≤ c.now → 
    exec (.sus a ch die part) s = .next { s with
      blk := c.onPart (partOf ch die part) fun p => { p with suspended := true, suspSince := c.now, suspCount := p.suspCount + 1 } }) ∧
  (∀ (a : Stamp) (ch : Fin 32) (die : Fin 8) (part : Fin 32) (c : Blk) (tile count : Nat) (o : Option Nat) (s : State) (b : Blk), s.blk.at a = b → ((b.sendDie (partOf ch die part / 32) (.sus (BitVec.ofNat 5 part.val))).twChan ch.val 5) = c → c.dieAwake (partOf ch die part / 32) = true → (c.part (partOf ch die part)).op = .reset tile count o → 
    exec (.sus a ch die part) s = .next { s with blk := c.dieRefuse (partOf ch die part / 32) }) ∧
  (∀ (a : Stamp) (ch : Fin 32) (die : Fin 8) (part : Fin 32) (c : Blk) (ln : Margin) (s : State) (b : Blk), s.blk.at a = b → ((b.sendDie (partOf ch die part / 32) (.sus (BitVec.ofNat 5 part.val))).twChan ch.val 5) = c → c.dieAwake (partOf ch die part / 32) = true → (c.part (partOf ch die part)).op = .marginRead ln → 
    exec (.sus a ch die part) s = .next { s with
      blk := (c.onPart (partOf ch die part) fun p => { p with op := .idle }).onMedia fun m => { m with dparts := m.dparts.set {} (partOf ch die part) { (m.dparts.getD (partOf ch die part) {}) with until_ := c.now } } }) ∧
  (∀ (a : Stamp) (ch : Fin 32) (die : Fin 8) (part : Fin 32) (c : Blk) (s : State) (b : Blk), s.blk.at a = b → (b.sendDie (partOf ch die part / 32) (.rsm (BitVec.ofNat 5 part.val))) = c → c.dieAwake (partOf ch die part / 32) = true → (c.part (partOf ch die part)).suspended = true → 
    exec (.rsm a ch die part) s = .next { s with
      blk := c.onPart (partOf ch die part) fun p => { p with suspended := false, suspTotal := p.suspTotal + (c.now - p.suspSince), readyAt := c.now + 60 } })

/-- Status, mode registers and the die ID are returned in a short transfer; causes are cleared and mode registers written on every awake die selected; the training buffer is written and returned; dies go to standby, wake, and are reset with their partitions (R180, R185 to R187, R196 to R198, R204, R205). -/
def Obligations.DieRegisterCommands : Prop :=
  (∀ (a : Stamp) (ch : Fin 32) (die : Fin 8) (c : Blk) (s : State) (b : Blk), s.blk.at a = b → b.sendDie (dieOf ch die) (.str) = c → c.dieAwake (dieOf ch die) = true → 
    exec (.str a ch die) s = .next { s with
      blk := (c.emit (.short ((dieOf ch die) / 8) ((dieOf ch die) % 8) (c.dieStatusWord (dieOf ch die)))).dieStatus (dieOf ch die) (c.die (dieOf ch die)).astat (c.die (dieOf ch die)).tval (c.die (dieOf ch die)).temp }) ∧
  (∀ (a : Stamp) (ch : Fin 32) (die : Fin 8) (addr : BitVec 8) (c : Blk) (s : State) (b : Blk), s.blk.at a = b → b.sendDie (dieOf ch die) (.mrr addr) = c → c.dieAwake (dieOf ch die) = true → 
    exec (.mrr a ch die addr) s = .next { s with blk := c.useFree.emit (.short ch.val die.val ((c.readMr (dieOf ch die) addr.toNat).setWidth 256)) }) ∧
  (∀ (a : Stamp) (ch : Fin 32) (die : Fin 8) (c : Blk) (s : State) (b : Blk), s.blk.at a = b → b.sendDie (dieOf ch die) (.idr) = c → c.dieAwake (dieOf ch die) = true → 
    exec (.idr a ch die) s = .next { s with blk := c.emit (.short ch.val die.val ((c.die (dieOf ch die)).id.setWidth 256)) }) ∧
  (∀ (a : Stamp) (ch : Fin 32) (die : Fin 8) (content : BitVec 1152) (c : Blk) (s : State) (b : Blk), s.blk.at a = b → b.sendDie (dieOf ch die) (.tbw) = c → c.dieAwake (dieOf ch die) = true → 
    exec (.tbw a ch die content) s = .next { s with blk := c.onDie (dieOf ch die) fun x => { x with tbuf := content } }) ∧
  (∀ (a : Stamp) (ch : Fin 32) (die : Fin 8) (buffer : Bool) (seed : BitVec 8) (c : Blk) (s : State) (b : Blk), s.blk.at a = b → b.sendDie (dieOf ch die) (.trn buffer seed) = c → c.dieAwake (dieOf ch die) = true → 
    exec (.trn a ch die buffer seed) s = .next { s with
      blk := c.useFree.useFree.emit (.dq ch.val die.val (c.useFree.dieSt (dieOf ch die) 0 4 0 (b.die (dieOf ch die)).seq) (c.freeVal 72) (if buffer then (c.useFree.die (dieOf ch die)).tbuf else c.useFree.freeVal 1152)) }) ∧
  (∀ (a : Stamp) (ch : Fin 32) (cs : BitVec 8) (mask : BitVec 7) (s : State) (b : Blk), s.blk.at a = b → 
    exec (.alc a ch cs mask) s = .next { s with
      blk := (selected ch.val cs).foldl (fun e d => if (b.sendTo ch.val cs (.alc mask)).dieAwake d then e.onDie d fun x => clearCauses x mask b.now else e) (b.sendTo ch.val cs (.alc mask)) }) ∧
  (∀ (a : Stamp) (ch : Fin 32) (cs addr : BitVec 8) (v : BitVec 16) (s : State) (b : Blk), s.blk.at a = b → 
    exec (.mrw a ch cs addr v) s = .next { s with
      blk := (selected ch.val cs).foldl (fun e d => if (b.sendTo ch.val cs (.mrw addr v)).dieAwake d then e.onDie d fun x => writeMr x addr.toNat v else e) (b.sendTo ch.val cs (.mrw addr v)) }) ∧
  (∀ (a : Stamp) (ch : Fin 32) (cs : BitVec 8) (long : Bool) (s : State) (b : Blk), s.blk.at a = b → 
    exec (.zqc a ch cs long) s = .next { s with blk := b.sendTo ch.val cs (.zqc long) }) ∧
  (∀ (a : Stamp) (ch : Fin 32) (cs : BitVec 8) (s : State) (b : Blk), s.blk.at a = b → 
    exec (.sby a ch cs) s = .next { s with
      blk := (selected ch.val cs).foldl (fun e d => if (b.sendTo ch.val cs .sby).dieAwake d then e.onDie d fun x => { x with standby := true } else e) (b.sendTo ch.val cs .sby) }) ∧
  (∀ (a : Stamp) (ch : Fin 32) (cs : BitVec 8) (s : State) (b : Blk), s.blk.at a = b → 
    exec (.wak a ch cs) s = .next { s with
      blk := (selected ch.val cs).foldl (fun c d => if (b.die d).state = 0 then c else c.onDie d fun x => { x with standby := false }) (b.sendTo ch.val cs .wak) }) ∧
  (∀ (a : Stamp) (ch : Fin 32) (cs : BitVec 8) (s : State) (b : Blk), s.blk.at a = b → 
    exec (.rst a ch cs) s = .next { s with
      blk := (selected ch.val cs).foldl (fun c d => if (b.die d).state = 0 then c else (c.resetParts d).onDie d resetDie) (b.sendTo ch.val cs .rst) })

/-- The rebuild of the first position listed starts at a substitute, journalled and taken from the free positions, and goes on while it runs; a copy back to a replacement die starts; a heartbeat miss fails the engine, its takeover, redistribution and failover end as their spares take over, the next bank that waits failing in turn; a lockstep mismatch is an uncontained detection; a head failure drops the head, the second stops the device; a due self-test is run and its failures acted on; a pending Safe Stop is entered (R399 to R401, R406 to R412). -/
def Obligations.RepairAndFailover : Prop :=
  (∀ (a : Stamp) (pos : Nat) (rest cand : List Nat) (s : State) (b : Blk), s.blk.at a = b → b.safety.rebuild = pos :: rest → b.safety.rebuildAt = none → b.substitutes (b.slotCls (pos / 18)) (pos / 18) = cand → b.works = true → b.journalWait = false → cand ≠ [] → b.twill.freePos ≠ 0 → b.safety.subst.length < 4096 → 
    exec (.rebuildPosition a) s = .next { s with
      blk := (let sub := cand.getD (b.freeNum % cand.length) 0
          let b1 := (b.useFree.journalRec 0x0A [pos, sub]).onSafety fun s => { s with rebuildAt := some (pos, sub, 0) }
          ((b1.onTwill fun t => { t with freePos := t.freePos - 1 }).lifeCheck).drive) }) ∧
  (∀ (a : Stamp) (pos : Nat) (rest : List Nat) (x : Nat × Nat × Nat) (s : State) (b : Blk), s.blk.at a = b → b.safety.rebuild = pos :: rest → b.safety.rebuildAt = some x → 
    exec (.rebuildPosition a) s = .next { s with blk := b.drive }) ∧
  (∀ (a : Stamp) (pos : Nat) (d : Nat) (s : State) (b : Blk), s.blk.at a = b → b.homeDie pos = d → b.works = true → b.safety.subst.has pos = true → b.safety.rebuild = [] → b.safety.rebuildAt = none → (b.die d).replacement = true → (b.die d).state = 1 → b.dieFailed d = false → 
    exec (.replacementCopyBack a pos) s = .next { s with blk := (b.onSafety fun s => { s with rebuildAt := some (pos, d, 0) }).drive }) ∧
  (∀ (a : Stamp) (e : Fin 64) (s : State) (b : Blk), s.blk.at a = b → b.mgmt = true → (b.engine e).state = 0 → 
    exec (.engineHeartbeatMiss a e) s = .next { s with blk := (b.bump (0xA000 + e.val) 0x03 1).engineFail e }) ∧
  (∀ (a : Stamp) (e : Fin 64) (base : Nat) (s : State) (b : Blk), s.blk.at a = b → ((List.range 56).find? fun x => (b.engine x).by_ == some e.val) = some base → 
    exec (.takeoverComplete a e) s = .next { s with
      blk := (if base < 32 then ((b.onEngine base fun x => { x with by_ := none }).onEngine e fun x => { x with state := 0, role := engineRole base, took := b.holderOf 4 base }).payOwed base else ((b.onEngine base fun x => { x with by_ := none }).onEngine e fun x => { x with state := 0, role := engineRole base, took := b.holderOf 4 base })).drive }) ∧
  (∀ (a : Stamp) (s : State) (b : Blk), s.blk.at a = b → b.safety.redist ≠ [] → 
    exec (.redistributionComplete a) s = .next { s with blk := (b.onSafety fun s => { s with redist := [] }).degrade 3 false }) ∧
  (∀ (a : Stamp) (pair : Fin 2) (s : State) (b : Blk), s.blk.at a = b → b.mgmt = true → 
    exec (.lockstepMismatch a pair) s = .next { s with blk := b.detect 4 true }) ∧
  (∀ (a : Stamp) (k sp : Nat) (e : Blk) (s : State) (b : Blk), s.blk.at a = b → b.safety.failover = some (k, sp) → (((((b.onBank k fun x => { x with state := 2, use := 8 }).onBank sp fun x => { x with state := 0, use := (b.bank k).use, repl := b.bankBase k }).onSafety fun s => { s with failover := none }).reportUnit 0xA003 5 k).degrade 4 false) = e → e.safety.failoverWait = [] → 
    exec (.bankFailoverComplete a) s = .next { s with blk := e }) ∧
  (∀ (a : Stamp) (k sp n : Nat) (rest : List Nat) (e : Blk) (s : State) (b : Blk), s.blk.at a = b → b.safety.failover = some (k, sp) → (((((b.onBank k fun x => { x with state := 2, use := 8 }).onBank sp fun x => { x with state := 0, use := (b.bank k).use, repl := b.bankBase k }).onSafety fun s => { s with failover := none }).reportUnit 0xA003 5 k).degrade 4 false) = e → e.safety.failoverWait = n :: rest → 
    exec (.bankFailoverComplete a) s = .next { s with blk := (e.onSafety fun s => { s with failoverWait := rest }).bankFail n }) ∧
  (∀ (a : Stamp) (h : Head) (s : State) (b : Blk), s.blk.at a = b → b.running = true → (b.head h).failed = false → (b.head (otherHead h)).failed = false → 
    exec (.headFailure a h) s = .next { s with blk := b.headFail h }) ∧
  (∀ (a : Stamp) (h : Head) (s : State) (b : Blk), s.blk.at a = b → b.running = true → (b.head h).failed = false → (b.head (otherHead h)).failed = true → 
    exec (.headFailure a h) s = .next { s with blk := b.useFree.detect (1 + b.freeNum % 13) true }) ∧
  (∀ (a : Stamp) (failed : List Checker) (s : State) (b : Blk), s.blk.at a = b → b.mgmt = true → b.selfTestDue = true → 
    exec (.selfTest a failed) s = .next { s with
      blk := failed.foldl (fun b k => b.checkerFailed k) ((b.odSet 0x7C00 0x05 b.opTime).onSafety fun s => { s with testOwed := b.modes.deep }) }) ∧
  (∀ (a : Stamp) (m : Nat) (cause : BitVec 16) (s : State) (b : Blk), s.blk.at a = b → b.modes.safe = some (m, cause) → 
    exec (.safeStopEntry a) s = .next { s with
      blk := (((((b.resumeAll.endPrograms.onModes fun m => { m with safe := none, cause := cause }).enter 11).bump 0x7C00 0x04 1).report { code := 0x1102 }).ringNewest).healthCheck }) ∧
  (∀ (a : Stamp) (s : State) (b : Blk), s.blk.at a = b → b.powered = true → b.modes.testEn = false → 
    exec (.testEnRise a) s = .next { s with blk := b.useFree.detect (1 + b.freeNum % 15) true }) ∧
  (∀ (a : Stamp) (i : TapInstr) (j : TapInstr) (s : State) (b : Blk), s.blk.at a = b → b.powered = true → (if testOnly i && b.eff != 1 then .bypass else i) = j → 
    exec (.tapInstruction a i) s = .next { s with
      blk := (let b1 : Blk := { b with tap := j }
          if j = .idcode then b1.emit (.tap idcode) else b1) })

/-- With the resident rails good the always-on domain leaves reset and a boot may start; their fall leaves what needs no power; PFAIL_N rising counts a power cycle and starts a boot from M1; its fall in a running mode starts the flush; the flush ends when Canvas has no off request, in M11 with the datapath errors of its lines judged first (R219, R313, R320, R321, R378). -/
def Obligations.InputPowerAndRails : Prop :=
  (∀ (a : Stamp) (straps : List (Fin 4)) (pfailHigh testEn : Bool) (s : State) (b : Blk), s.blk.at a = b → b.powered = false → 
    exec (.residentRailsGood a straps pfailHigh testEn) s = .next { s with blk := (b.aonReset straps pfailHigh testEn).startBoot }) ∧
  (∀ (a : Stamp) (s : State) (b : Blk), s.blk.at a = b → b.powered = true → b.running = true → 
    exec (.residentRailFall a) s = .next { s with
      blk := (b.tearPrograms.onFelt fun f => { f with clean := false, stop := 3, faultLogged := false }).dark }) ∧
  (∀ (a : Stamp) (s : State) (b : Blk), s.blk.at a = b → b.powered = true → b.running = false → 
    exec (.residentRailFall a) s = .next { s with blk := b.dark }) ∧
  (∀ (a : Stamp) (s : State) (b : Blk), s.blk.at a = b → b.powered = true → b.modes.pfailHigh = false → b.running = false → 
    exec (.pfailNRise a) s = .next { s with
      blk := ((b.onModes fun m => { m with pfailHigh := true, thermal := false }).faultPin.cycleUp).powerCycled.startBoot }) ∧
  (∀ (a : Stamp) (s : State) (b : Blk), s.blk.at a = b → b.powered = true → b.modes.pfailHigh = false → b.running = true → 
    exec (.pfailNRise a) s = .next { s with
      blk := ((b.onModes fun m => { m with pfailHigh := true, thermal := false }).faultPin.cycleUp).onCanvas fun c => { c with onLater := true } }) ∧
  (∀ (a : Stamp) (e : Blk) (s : State) (b : Blk), s.blk.at a = b → b.powered = true → b.modes.pfailHigh = true → ((b.onModes fun m => { m with pfailHigh := false, standby := false }).abandonTest) = e → e.running = true → e.modes.flush = none → 
    exec (.inputPowerLoss a) s = .next { s with blk := e.loseInput 1 }) ∧
  (∀ (a : Stamp) (e : Blk) (s : State) (b : Blk), s.blk.at a = b → b.powered = true → b.modes.pfailHigh = true → ((b.onModes fun m => { m with pfailHigh := false, standby := false }).abandonTest) = e → e.running = false → 
    exec (.inputPowerLoss a) s = .next { s with blk := e }) ∧
  (∀ (a : Stamp) (errs : List (Nat × DpErr)) (start lines x : Nat) (s : State) (b : Blk), s.blk.at a = b → b.modes.flush = some (start, lines, x) → b.canvas.off = false → b.holds 11 = false → 
    exec (.flushEnd a errs) s = .next { s with blk := b.endFlush start lines }) ∧
  (∀ (a : Stamp) (errs : List (Nat × DpErr)) (start lines x : Nat) (s : State) (b : Blk), s.blk.at a = b → b.modes.flush = some (start, lines, x) → b.canvas.off = false → b.holds 11 = true → 
    exec (.flushEnd a errs) s = .next { s with
      blk := (errs.foldl Blk.flushCheck b).endFlush start (min lines (errs.foldl Blk.flushCheck b).dirtyCount) })

/-- The bank's code is kept and a move of more than 5 % of the usable energy is reported; the report of each second is made; write-back returns after 60 s of enough energy; a due health test begins and its end judges capacitance and ESR, then reports (R145, R340, R341). A slot whose turn has come has its enable raised; levels and readings are kept; 100 µs of good end its step, 10 ms without end the order with CHATTER, or on the way down the wait; on the way down a fallen slot hands over to the next, and after 50 ms is logged first; a faulty rail that is up is counted, is a detection of mechanism 10 and takes every rail off, and a further one after that is noted (R331, R332, R335 to R339). -/
def Obligations.HoldUpAndPowerSequence : Prop :=
  (∀ (a : Stamp) (code : BitVec 12) (e : Blk) (s : State) (b : Blk), s.blk.at a = b → b.powered = true → (b.onCanvas fun c => { c with hu := code }) = e → 
    exec (.huSenseSample a code) s = .next { s with blk := (if e.running && e.modes.flush.isNone && e.energyMoved then e.reportEnergy else e) }) ∧
  (∀ (a : Stamp) (s : State) (b : Blk), s.blk.at a = b → b.running = true → b.modes.flush = none → (b.modes.reported = true ∨ b.canvas.health ≠ 0) → 
    exec (.holdupReport a) s = .next { s with blk := b.reportEnergy }) ∧
  (∀ (a : Stamp) (t : Nat) (s : State) (b : Blk), s.blk.at a = b → b.velvet.span = some t → b.running = true → b.velvet.onEnergy = true → t + 60000000000 ≤ b.now → 
    exec (.writeBackReturn a) s = .next { s with blk := b.applyMode }) ∧
  (∀ (a : Stamp) (s : State) (b : Blk), s.blk.at a = b → b.running = true → b.modes.flush = none → b.canvas.test = none → b.testDue = true → 
    exec (.healthTest a) s = .next { s with blk := b.beginTest }) ∧
  (∀ (a : Stamp) (stepUv totalUv : Nat) (t : Nat) (e : Blk) (s : State) (b : Blk), s.blk.at a = b → b.canvas.test = some t → t + 1000 * b.cfg 0x7001 0x06 ≤ b.now → totalUv - stepUv ≠ 0 → b.testResult stepUv (totalUv - stepUv) = e → 
    exec (.healthTestEnd a stepUv totalUv) s = .next { s with
      blk := (if e.running && e.modes.flush.isNone && (e.energyMoved || !e.modes.reported) then e.reportEnergy else e).healthCheck }) ∧
  (∀ (a : Stamp) (slot : Fin 12) (s : State) (b : Blk), s.blk.at a = b → b.canvas.state = 1 → b.canvas.off = false → b.turnCome slot = true → 
    exec (.slotStepStart a slot) s = .next { s with
      blk := b.onSlot slot fun x => { x with en := true, state := 1, drops := 0, since := b.now, goodAt := if b.railGood slot then some b.now else none } }) ∧
  (∀ (a : Stamp) (slot : Fin 12) (level : Bool) (mv : Nat) (s : State) (b : Blk), s.blk.at a = b → b.powered = true → (b.slot slot).state ≠ 1 → 
    exec (.pseqPgChange a slot level mv) s = .next { s with blk := b.onSlot slot fun x => { x with pg := level, mv := mv } }) ∧
  (∀ (a : Stamp) (slot : Fin 12) (level : Bool) (mv : Nat) (s : State) (b : Blk), s.blk.at a = b → b.powered = true → (b.slot slot).state = 1 → 
    exec (.pseqPgChange a slot level mv) s = .next { s with
      blk := (b.onSlot slot fun x => { x with pg := level, mv := mv }).stepChange slot (b.railGood slot) }) ∧
  (∀ (a : Stamp) (slot : Fin 12) (t : Nat) (s : State) (b : Blk), s.blk.at a = b → (b.slot slot).goodAt = some t → (b.slot slot).state = 1 → t + 100000 ≤ b.now → 
    exec (.slotQualified a slot) s = .next { s with blk := b.qualified slot }) ∧
  (∀ (a : Stamp) (slot : Fin 12) (s : State) (b : Blk), s.blk.at a = b → (b.slot slot).state = 1 → (b.slot slot).since + 10000000 ≤ b.now → b.canvas.off = false → 
    exec (.slotQualifyTimeout a slot) s = .next { s with blk := b.chatter slot true }) ∧
  (∀ (a : Stamp) (slot : Fin 12) (s : State) (b : Blk), s.blk.at a = b → (b.slot slot).state = 1 → (b.slot slot).since + 10000000 ≤ b.now → b.canvas.off = true → 
    exec (.slotQualifyTimeout a slot) s = .next { s with blk := (b.onSlot slot fun x => { x with state := 2, qualAt := b.now }).powerDown }) ∧
  (∀ (a : Stamp) (slot : Fin 12) (mv : Nat) (e : Blk) (s : State) (b : Blk), s.blk.at a = b → (b.slot slot).state = 3 → (b.onSlot slot fun x => { x with mv := mv }) = e → e.hasFallen slot = true → 
    exec (.slotFallen a slot mv) s = .next { s with blk := Blk.lowerNext 13 (e.onSlot slot fun x => { x with state := 0 }) }) ∧
  (∀ (a : Stamp) (slot : Fin 12) (s : State) (b : Blk), s.blk.at a = b → (b.slot slot).state = 3 → (b.slot slot).since + 50000000 ≤ b.now → 
    exec (.slotFallTimeout a slot) s = .next { s with
      blk := Blk.lowerNext 13 ((b.canvasLogged (b.canvasFields 0x05 slot (if slot.val < 7 then (b.slot slot).mv else 0) 0 false)).onSlot slot fun x => { x with state := 0 }) }) ∧
  (∀ (a : Stamp) (slot : Fin 12) (kind : RailKind) (mv : Nat) (s : State) (b : Blk), s.blk.at a = b → b.railFaulty slot kind mv = true → (b.slot slot).state = 2 → (b.slot slot).en = true → 
    exec (.railFault a slot kind mv) s = .next { s with
      blk := (((b.onSlot slot fun x => { x with mv := mv, pg := x.pg && kind != .pg }).bump 0x7000 0x04 1).detect 10 false).allOff (railCode kind) slot (if slot.val < 7 then mv else 0) 0 false }) ∧
  (∀ (a : Stamp) (slot : Fin 12) (kind : RailKind) (mv : Nat) (s : State) (b : Blk), s.blk.at a = b → b.railFaulty slot kind mv = true → (b.slot slot).state = 0 → b.powered = true → (b.slot slot).mode ≠ 0 → b.canvas.state = 0 → 
    exec (.railFault a slot kind mv) s = .next { s with blk := b.secondFault slot (railCode kind) (if slot.val < 7 then mv else 0) })

/-- With clocks judged and a spare for every bad bank the boot takes the items of Felt as it finds them and loads firmware and settings, or refuses both images; with too few spares the fill fails; the binding check takes the media for its own, holds them or provisions; the map and Gauze are loaded; the first report makes memory active, or its time runs out; an idle device sleeps and wakes (R83 to R85, R254, R314, R316 to R319, R374). -/
def Obligations.BootAndSleep : Prop :=
  (∀ (a : Stamp) (badBanks : List (Fin 66)) (felt : FeltObs) (bad : List Nat) (c : Blk) (s : State) (b : Blk), s.blk.at a = b → b.eff = 2 → b.modes.step = 2 → b.clocks.judged = true → (badBanks.foldl (fun l k => insUniq k.val l) []) = bad → (bad.filter fun k => decide (k < 64)).length ≤ ([64, 65].filter fun k => !bad.contains k).length → (b.loadFelt felt).fwLoad = some c → 
    exec (.boot a badBanks felt) s = .next { s with blk := c.bringUp bad }) ∧
  (∀ (a : Stamp) (badBanks : List (Fin 66)) (felt : FeltObs) (bad : List Nat) (s : State) (b : Blk), s.blk.at a = b → b.eff = 2 → b.modes.step = 2 → b.clocks.judged = true → (badBanks.foldl (fun l k => insUniq k.val l) []) = bad → (bad.filter fun k => decide (k < 64)).length ≤ ([64, 65].filter fun k => !bad.contains k).length → (b.loadFelt felt).fwLoad = none → 
    exec (.boot a badBanks felt) s = .next { s with blk := ((b.loadFelt felt).fwRefused 0).fwRefused 1 }) ∧
  (∀ (a : Stamp) (badBanks : List (Fin 66)) (felt : FeltObs) (bad : List Nat) (s : State) (b : Blk), s.blk.at a = b → b.eff = 2 → b.modes.step = 2 → b.clocks.judged = true → (badBanks.foldl (fun l k => insUniq k.val l) []) = bad → ([64, 65].filter fun k => !bad.contains k).length < (bad.filter fun k => decide (k < 64)).length → 
    exec (.boot a badBanks felt) s = .next { s with blk := b.fillFails bad }) ∧
  (∀ (a : Stamp) (obs : BindObs) (e : Blk) (r : BitVec 8 × BitVec 64 × BitVec 128 × Nat) (s : State) (b : Blk), s.blk.at a = b → b.eff = 2 → b.modes.step = 6 → ((b.readIds obs.dieIds).setConditions fun _ => 8) = e → obs.record = some r → e.checkMatches r = true → 
    exec (.bindingCheck a obs) s = .next { s with blk := (e.onDamask fun d => { d with binding := some r }).ownMedia obs.dieIds }) ∧
  (∀ (a : Stamp) (obs : BindObs) (e : Blk) (s : State) (b : Blk), s.blk.at a = b → b.eff = 2 → b.modes.step = 6 → ((b.readIds obs.dieIds).setConditions fun _ => 8) = e → obs.record = none → obs.mediaBlank = true → e.damask.mkey = none → 
    exec (.bindingCheck a obs) s = .next { s with blk := e.firstProvision }) ∧
  (∀ (a : Stamp) (obs : BindObs) (e : Blk) (r : BitVec 8 × BitVec 64 × BitVec 128 × Nat) (s : State) (b : Blk), s.blk.at a = b → b.eff = 2 → b.modes.step = 6 → ((b.readIds obs.dieIds).setConditions fun _ => 8) = e → obs.record = some r → e.checkMatches r = false → 
    exec (.bindingCheck a obs) s = .next { s with blk := e.heldMedia 2 (some r) }) ∧
  (∀ (a : Stamp) (obs : BindObs) (e : Blk) (s : State) (b : Blk), s.blk.at a = b → b.eff = 2 → b.modes.step = 6 → ((b.readIds obs.dieIds).setConditions fun _ => 8) = e → obs.record = none → obs.mediaBlank = false → 
    exec (.bindingCheck a obs) s = .next { s with blk := e.heldMedia 2 none }) ∧
  (∀ (a : Stamp) (obs : BindObs) (e : Blk) (s : State) (b : Blk), s.blk.at a = b → b.eff = 2 → b.modes.step = 6 → ((b.readIds obs.dieIds).setConditions fun _ => 8) = e → obs.record = none → obs.mediaBlank = true → e.damask.mkey.isSome = true → 
    exec (.bindingCheck a obs) s = .next { s with blk := e.heldMedia 0 none }) ∧
  (∀ (a : Stamp) (timeUs : Nat) (s : State) (b : Blk), s.blk.at a = b → b.eff = 3 → b.modes.step = 7 → 
    exec (.mapRebuild a timeUs) s = .next { s with
      blk := (((b.odSet 0x4050 0x04 0).odSet 0x4050 0x05 timeUs).loadMap.mapReady.loadSnapshot).onModes fun m => { m with step := 9 } }) ∧
  (∀ (a : Stamp) (s : State) (b : Blk), s.blk.at a = b → b.loaded = true → b.modes.reported = true → 
    exec (.memoryActive a) s = .next { s with blk := b.activate }) ∧
  (∀ (a : Stamp) (s : State) (b : Blk), s.blk.at a = b → b.loaded = true → b.modes.reported = false → b.modes.t0 + 560000000 ≤ b.now → 
    exec (.holdupReportTimeout a) s = .next { s with blk := (b.report { code := 0x1107 }).activate }) ∧
  (∀ (a : Stamp) (s : State) (b : Blk), s.blk.at a = b → b.eff = 4 → b.stopped = false → b.idle = true → b.cfg 0x1100 0x08 ≠ 0 → 
    exec (.lightSleepEntry a) s = .next { s with blk := b.enter 5 }) ∧
  (∀ (a : Stamp) (s : State) (b : Blk), s.blk.at a = b → (b.eff = 4 ∨ b.eff = 5) → b.stopped = false → b.idle = true → b.cfg 0x1100 0x09 ≠ 0 → 
    exec (.deepSleepEntry a) s = .next { s with blk := b.fallAsleep.enter 6 }) ∧
  (∀ (a : Stamp) (s : State) (b : Blk), s.blk.at a = b → (b.eff = 5 ∨ b.eff = 6) → b.clocks.failed = false → 
    exec (.idleEnd a) s = .next { s with blk := b.wake })

/-- With the head's configuration open and the management engines running, each SPDM message that its connection state admits is answered: version, capabilities, algorithms, digests, certificate, challenge, measurements, key exchange, finish, update, heartbeat and end of session; IDE keys are programmed over a session, and a failed stream is marked and reported once (R256, R257). The response codes and the order of messages are the model's choice (log 35). -/
def Obligations.SpdmAndIde : Prop :=
  (∀ (a : Stamp) (h : Head) (s : State) (b : Blk), s.blk.at a = b → b.configOpen h = true → b.mgmt = true → 
    exec (.getVersion a h) s = .next { s with blk := (b.onSpdm h fun _ => { version := true }).spdmSay h 0x04 [0x13] }) ∧
  (∀ (a : Stamp) (h : Head) (s : State) (b : Blk), s.blk.at a = b → b.configOpen h = true → b.mgmt = true → (b.head h).spdm.version = true → 
    exec (.getCapabilities a h) s = .next { s with blk := (b.onSpdm h fun x => { x with caps := true }).spdmSay h 0x61 [0x3F] }) ∧
  (∀ (a : Stamp) (h : Head) (offered : Bool) (s : State) (b : Blk), s.blk.at a = b → b.configOpen h = true → b.mgmt = true → (b.head h).spdm.caps = true → offered = true → 
    exec (.negotiateAlgorithms a h offered) s = .next { s with blk := (b.onSpdm h fun x => { x with algs := true }).spdmSay h 0x63 [384, 384, 384, 256] }) ∧
  (∀ (a : Stamp) (h : Head) (s : State) (b : Blk), s.blk.at a = b → b.configOpen h = true → b.mgmt = true → (b.head h).spdm.algs = true → 
    exec (.getDigests a h) s = .next { s with blk := b.spdmSay h 0x01 [1, (Config.sha384 (Config.certificate.map BitVec.toNat)).toNat] }) ∧
  (∀ (a : Stamp) (h : Head) (slot : Fin 8) (s : State) (b : Blk), s.blk.at a = b → b.configOpen h = true → b.mgmt = true → (b.head h).spdm.algs = true → slot.val = 0 → 
    exec (.getCertificate a h slot) s = .next { s with blk := b.spdmSay h 0x02 (Config.certificate.map BitVec.toNat) }) ∧
  (∀ (a : Stamp) (h : Head) (slot : Fin 8) (nonce : BitVec 256) (s : State) (b : Blk), s.blk.at a = b → b.configOpen h = true → b.mgmt = true → (b.head h).spdm.algs = true → slot.val = 0 → 
    exec (.challenge a h slot nonce) s = .next { s with blk := b.spdmSay h 0x03 [(Config.spdmSign [0x03, nonce.toNat]).toNat] }) ∧
  (∀ (a : Stamp) (h : Head) (index : BitVec 8) (nonce : BitVec 256) (m : List Nat) (s : State) (b : Blk), s.blk.at a = b → b.configOpen h = true → b.mgmt = true → (b.head h).spdm.algs = true → b.measurements index.toNat nonce = some m → 
    exec (.getMeasurements a h index nonce) s = .next { s with blk := b.spdmSay h 0x60 m }) ∧
  (∀ (a : Stamp) (h : Head) (exchange : BitVec 768) (s : State) (b : Blk), s.blk.at a = b → b.configOpen h = true → b.mgmt = true → (b.head h).spdm.algs = true → (b.head h).spdm.secret = none → 
    exec (.keyExchange a h exchange) s = .next { s with
      blk := (b.draw.onSpdm h fun x => { x with secret := some b.drawn }).spdmSay h 0x64 [(Config.spdmSign [0x64, exchange.toNat, b.drawn.toNat]).toNat] }) ∧
  (∀ (a : Stamp) (h : Head) (verify : BitVec 384) (k : BitVec 256) (s : State) (b : Blk), s.blk.at a = b → b.configOpen h = true → b.mgmt = true → (b.head h).spdm.secret = some k → (b.head h).spdm.up = false → 
    exec (.finish a h verify) s = .next { s with
      blk := (if Config.spdmVerify k verify then (b.onSpdm h fun x => { x with up := true, updates := 0 }).spdmSay h 0x65 [] else (b.onSpdm h fun x => { x with secret := none }).spdmError h) }) ∧
  (∀ (a : Stamp) (h : Head) (s : State) (b : Blk), s.blk.at a = b → b.configOpen h = true → b.mgmt = true → (b.head h).spdm.up = true → 
    exec (.keyUpdate a h) s = .next { s with blk := (b.onSpdm h fun x => { x with updates := x.updates + 1 }).spdmSay h 0x69 [] }) ∧
  (∀ (a : Stamp) (h : Head) (s : State) (b : Blk), s.blk.at a = b → b.configOpen h = true → b.mgmt = true → (b.head h).spdm.up = true → 
    exec (.spdmHeartbeat a h) s = .next { s with blk := b.spdmSay h 0x68 [] }) ∧
  (∀ (a : Stamp) (h : Head) (s : State) (b : Blk), s.blk.at a = b → b.configOpen h = true → b.mgmt = true → (b.head h).spdm.up = true → 
    exec (.endSession a h) s = .next { s with blk := (b.onSpdm h fun x => { x with up := false, secret := none }).spdmSay h 0x6C [] }) ∧
  (∀ (a : Stamp) (h : Head) (pcie : Bool) (key : BitVec 256) (skid : Bool) (s : State) (b : Blk), s.blk.at a = b → b.configOpen h = true → b.mgmt = true → (b.head h).spdm.up = true → 
    exec (.ideKeyManagement a h pcie key skid) s = .next { s with
      blk := (b.onHead h fun x => if pcie then { x with ideIo := { key := some key } } else { x with ideMem := { key := some key, skid := skid } }).emit (.doe h 4 [b2n pcie, b2n (!pcie && skid)]) }) ∧
  (∀ (a : Stamp) (h : Head) (pcie : Bool) (k : BitVec 256) (s : State) (b : Blk), s.blk.at a = b → ((b.head h).link = 2 ∨ (b.head h).link = 3) → (if pcie then (b.head h).ideIo.key else (b.head h).ideMem.key) = some k → 
    exec (.ideFailure a h pcie) s = .next { s with
      blk := (b.onHead h fun x => if pcie then { x with ideIo := { x.ideIo with failed := true } } else { x with ideMem := { x.ideMem with failed := true } }).report { code := 0x2007, cls := 1, unit := BitVec.ofNat 16 (headNum h) } })
end

