-- ==== Sys2Proof/Laws/Bits.lean ====
section
/-! SUPPORT. What the bit-field and byte-order helpers give. -/

namespace Sys2Proof.Machine

/-- Bytes read back least significant first give the number, as far as they hold it. -/
@[simp] theorem leNat_leBytes (n v : Nat) : leNat (leBytes n v) = v % 256 ^ n := by
  induction n generalizing v with
  | zero => simp [leBytes, leNat, Nat.mod_one]
  | succ n ih =>
    rw [leBytes, leNat, ih, BitVec.toNat_ofNat, show 256 ^ (n + 1) = 256 * 256 ^ n from Nat.pow_succ', Nat.mod_mul]

@[simp] theorem length_leBytes (n v : Nat) : (leBytes n v).length = n := by
  induction n generalizing v with
  | zero => rfl
  | succ n ih => simp [leBytes, ih]

/-- A field above a number shifted out of its way is the number's own. -/
theorem fld_shift_or {v k lo n : Nat} (hk : k < 2 ^ lo) : fld (v <<< lo ||| k) lo n = v % 2 ^ n := by
  unfold fld
  rw [Nat.shiftRight_or_distrib, Nat.shiftRight_eq_div_pow k, Nat.div_eq_of_lt hk, Nat.or_zero, Nat.shiftLeft_shiftRight]

/-- A field below a shifted number. -/
theorem fld_or_shift {v k lo n : Nat} (hk : k < 2 ^ n) (h : n ≤ lo) : fld (v <<< lo ||| k) 0 n = k := by
  unfold fld
  rw [Nat.shiftRight_zero, Nat.or_mod_two_pow, Nat.shiftLeft_eq, Nat.mod_eq_of_lt hk]
  have : v * 2 ^ lo % 2 ^ n = 0 := by
    obtain ⟨d, rfl⟩ := Nat.exists_eq_add_of_le h
    rw [pow_add, ← mul_assoc, mul_comm v, mul_assoc]
    exact Nat.mul_mod_right _ _
  rw [this, Nat.zero_or]

end Sys2Proof.Machine
end

