-- ==== Sys2Proof/Laws/Exec.lean ====
section
/-! SUPPORT. The arms of `exec`, one lemma each, and what a step does with the queue. -/

namespace Sys2Proof.Machine

@[simp] theorem exec_memRd (a : Stamp) (h : Head) (hpa : Nat) (tag : Nat) (s : State) : exec (.memRd a h hpa tag) s = execMemRd a h hpa tag s := rfl
@[simp] theorem exec_memRdData (a : Stamp) (h : Head) (hpa : Nat) (tag : Nat) (s : State) : exec (.memRdData a h hpa tag) s = execMemRdData a h hpa tag s := rfl
@[simp] theorem exec_memSpecRd (a : Stamp) (h : Head) (hpa : Nat) (tag : Nat) (s : State) : exec (.memSpecRd a h hpa tag) s = execMemSpecRd a h hpa tag s := rfl
@[simp] theorem exec_memWr (a : Stamp) (h : Head) (hpa : Nat) (tag : Nat) (data : Half) (poison : Bool) (s : State) : exec (.memWr a h hpa tag data poison) s = execMemWr a h hpa tag data poison s := rfl
@[simp] theorem exec_memWrPtl (a : Stamp) (h : Head) (hpa : Nat) (tag : Nat) (data : Half) (mask : HalfMask) (poison : Bool) (s : State) : exec (.memWrPtl a h hpa tag data mask poison) s = execMemWrPtl a h hpa tag data mask poison s := rfl
@[simp] theorem exec_unsupportedRequest (a : Stamp) (h : Head) (hpa : Nat) (tag : Nat) (isRead : Bool) (s : State) : exec (.unsupportedRequest a h hpa tag isRead) s = execUnsupportedRequest a h hpa tag isRead s := rfl
@[simp] theorem exec_acceptance (a : Stamp) (h : Head) (i : Nat) (dp : DpErr) (s : State) : exec (.acceptance a h i dp) s = execAcceptance a h i dp s := rfl
@[simp] theorem exec_readIssue (a : Stamp) (ch : Fin 32) (die : Fin 8) (part : Fin 32) (s : State) : exec (.readIssue a ch die part) s = execReadIssue a ch die part s := rfl
@[simp] theorem exec_programResume (a : Stamp) (ch : Fin 32) (die : Fin 8) (part : Fin 32) (s : State) : exec (.programResume a ch die part) s = execProgramResume a ch die part s := rfl
@[simp] theorem exec_readTransfer (a : Stamp) (ch : Fin 32) (die : Fin 8) (part : Fin 32) (x : Xfer) (s : State) : exec (.readTransfer a ch die part x) s = execReadTransfer a ch die part x s := rfl
@[simp] theorem exec_reconstructionComplete (a : Stamp) (rid : Nat) (lost : List (Fin 18)) (dp : DpErr) (s : State) : exec (.reconstructionComplete a rid lost dp) s = execReconstructionComplete a rid lost dp s := rfl
@[simp] theorem exec_fillReturn (a : Stamp) (li : BitVec 36) (s : State) : exec (.fillReturn a li) s = execFillReturn a li s := rfl
@[simp] theorem exec_deadlineExpiry (a : Stamp) (rid : Nat) (s : State) : exec (.deadlineExpiry a rid) s = execDeadlineExpiry a rid s := rfl
@[simp] theorem exec_deepRecoveryTimeout (a : Stamp) (rid : Nat) (s : State) : exec (.deepRecoveryTimeout a rid) s = execDeepRecoveryTimeout a rid s := rfl
@[simp] theorem exec_deepRecoverySuccess (a : Stamp) (rid : Nat) (step : RecoveryStep) (dp : DpErr) (s : State) : exec (.deepRecoverySuccess a rid step dp) s = execDeepRecoverySuccess a rid step dp s := rfl
@[simp] theorem exec_programGuard (a : Stamp) (ch : Fin 32) (die : Fin 8) (part : Fin 32) (s : State) : exec (.programGuard a ch die part) s = execProgramGuard a ch die part s := rfl
@[simp] theorem exec_resetGuard (a : Stamp) (ch : Fin 32) (die : Fin 8) (part : Fin 32) (s : State) : exec (.resetGuard a ch die part) s = execResetGuard a ch die part s := rfl
@[simp] theorem exec_coldPathWrite (a : Stamp) (t : ColdTarget) (e : EgressErr) (s : State) : exec (.coldPathWrite a t e) s = execColdPathWrite a t e s := rfl
@[simp] theorem exec_hotAppend (a : Stamp) (b : Fin 4096) (lane : Fin 256) (e : EgressErr) (s : State) : exec (.hotAppend a b lane e) s = execHotAppend a b lane e s := rfl
@[simp] theorem exec_programComplete (a : Stamp) (ch : Fin 32) (die : Fin 8) (part : Fin 32) (ok : Bool) (s : State) : exec (.programComplete a ch die part ok) s = execProgramComplete a ch die part ok s := rfl
@[simp] theorem exec_tileResetStart (a : Stamp) (ch : Fin 32) (die : Fin 8) (part : Fin 32) (s : State) : exec (.tileResetStart a ch die part) s = execTileResetStart a ch die part s := rfl
@[simp] theorem exec_tileResetComplete (a : Stamp) (ch : Fin 32) (die : Fin 8) (part : Fin 32) (ok : Bool) (s : State) : exec (.tileResetComplete a ch die part ok) s = execTileResetComplete a ch die part ok s := rfl
@[simp] theorem exec_writeThroughWrite (a : Stamp) (li : BitVec 36) (lane : Fin 256) (e : EgressErr) (s : State) : exec (.writeThroughWrite a li lane e) s = execWriteThroughWrite a li lane e s := rfl
@[simp] theorem exec_dirtyCleaning (a : Stamp) (s : State) : exec (.dirtyCleaning a) s = execDirtyCleaning a s := rfl
@[simp] theorem exec_rangeClean (a : Stamp) (src : Src) (s : State) : exec (.rangeClean a src) s = execRangeClean a src s := rfl
@[simp] theorem exec_rangeInvalidate (a : Stamp) (src : Src) (s : State) : exec (.rangeInvalidate a src) s = execRangeInvalidate a src s := rfl
@[simp] theorem exec_rangeCleanAndInvalidate (a : Stamp) (src : Src) (s : State) : exec (.rangeCleanAndInvalidate a src) s = execRangeCleanAndInvalidate a src s := rfl
@[simp] theorem exec_rangeOperationEnd (a : Stamp) (s : State) : exec (.rangeOperationEnd a) s = execRangeOperationEnd a s := rfl
@[simp] theorem exec_lineCleanByAddress (a : Stamp) (src : Src) (line : BitVec 57) (s : State) : exec (.lineCleanByAddress a src line) s = execLineCleanByAddress a src line s := rfl
@[simp] theorem exec_lineInvalidateByAddress (a : Stamp) (src : Src) (line : BitVec 57) (s : State) : exec (.lineInvalidateByAddress a src line) s = execLineInvalidateByAddress a src line s := rfl
@[simp] theorem exec_lineCleanInvalidateByAddress (a : Stamp) (src : Src) (line : BitVec 57) (s : State) : exec (.lineCleanInvalidateByAddress a src line) s = execLineCleanInvalidateByAddress a src line s := rfl
@[simp] theorem exec_lineCleanBySetAndWay (a : Stamp) (src : Src) (set : Fin 16384) (way : Fin 16) (s : State) : exec (.lineCleanBySetAndWay a src set way) s = execLineCleanBySetAndWay a src set way s := rfl
@[simp] theorem exec_lineInvalidateBySetAndWay (a : Stamp) (src : Src) (set : Fin 16384) (way : Fin 16) (s : State) : exec (.lineInvalidateBySetAndWay a src set way) s = execLineInvalidateBySetAndWay a src set way s := rfl
@[simp] theorem exec_lineCleanInvalidateBySetAndWay (a : Stamp) (src : Src) (set : Fin 16384) (way : Fin 16) (s : State) : exec (.lineCleanInvalidateBySetAndWay a src set way) s = execLineCleanInvalidateBySetAndWay a src set way s := rfl
@[simp] theorem exec_hint (a : Stamp) (h : Head) (rec : BitVec 128) (s : State) : exec (.hint a h rec) s = execHint a h rec s := rfl
@[simp] theorem exec_hintCancel (a : Stamp) (h : Head) (rec : BitVec 128) (s : State) : exec (.hintCancel a h rec) s = execHintCancel a h rec s := rfl
@[simp] theorem exec_prefetchRead (a : Stamp) (h : Head) (s : State) : exec (.prefetchRead a h) s = execPrefetchRead a h s := rfl
@[simp] theorem exec_startBarrier (a : Stamp) (src : Src) (s : State) : exec (.startBarrier a src) s = execStartBarrier a src s := rfl
@[simp] theorem exec_barrierCompletion (a : Stamp) (s : State) : exec (.barrierCompletion a) s = execBarrierCompletion a s := rfl
@[simp] theorem exec_gpfPhase1 (a : Stamp) (h : Head) (s : State) : exec (.gpfPhase1 a h) s = execGpfPhase1 a h s := rfl
@[simp] theorem exec_gpfPhase2 (a : Stamp) (h : Head) (s : State) : exec (.gpfPhase2 a h) s = execGpfPhase2 a h s := rfl
@[simp] theorem exec_gpfPhase2Complete (a : Stamp) (h : Head) (s : State) : exec (.gpfPhase2Complete a h) s = execGpfPhase2Complete a h s := rfl
@[simp] theorem exec_identify (a : Stamp) (h : Head) (s : State) : exec (.identify a h) s = execIdentify a h s := rfl
@[simp] theorem exec_backgroundOperationStatus (a : Stamp) (h : Head) (s : State) : exec (.backgroundOperationStatus a h) s = execBackgroundOperationStatus a h s := rfl
@[simp] theorem exec_getEventRecords (a : Stamp) (h : Head) (log : EvLog) (s : State) : exec (.getEventRecords a h log) s = execGetEventRecords a h log s := rfl
@[simp] theorem exec_clearEventRecords (a : Stamp) (h : Head) (log : EvLog) (all : Bool) (handles : List Nat) (s : State) : exec (.clearEventRecords a h log all handles) s = execClearEventRecords a h log all handles s := rfl
@[simp] theorem exec_getEventInterruptPolicy (a : Stamp) (h : Head) (s : State) : exec (.getEventInterruptPolicy a h) s = execGetEventInterruptPolicy a h s := rfl
@[simp] theorem exec_setEventInterruptPolicy (a : Stamp) (h : Head) (policy : List (EvLog × Option Nat)) (s : State) : exec (.setEventInterruptPolicy a h policy) s = execSetEventInterruptPolicy a h policy s := rfl
@[simp] theorem exec_getFwInfo (a : Stamp) (h : Head) (s : State) : exec (.getFwInfo a h) s = execGetFwInfo a h s := rfl
@[simp] theorem exec_transferFw (a : Stamp) (h : Head) (part : FwPart) (img : FwImage) (s : State) : exec (.transferFw a h part img) s = execTransferFw a h part img s := rfl
@[simp] theorem exec_activateFw (a : Stamp) (h : Head) (slot : Nat) (online : Bool) (s : State) : exec (.activateFw a h slot online) s = execActivateFw a h slot online s := rfl
@[simp] theorem exec_getTimestamp (a : Stamp) (h : Head) (s : State) : exec (.getTimestamp a h) s = execGetTimestamp a h s := rfl
@[simp] theorem exec_setTimestamp (a : Stamp) (h : Head) (v : BitVec 64) (s : State) : exec (.setTimestamp a h v) s = execSetTimestamp a h v s := rfl
@[simp] theorem exec_getSupportedLogs (a : Stamp) (h : Head) (s : State) : exec (.getSupportedLogs a h) s = execGetSupportedLogs a h s := rfl
@[simp] theorem exec_getLog (a : Stamp) (h : Head) (uuid : BitVec 128) (s : State) : exec (.getLog a h uuid) s = execGetLog a h uuid s := rfl
@[simp] theorem exec_identifyMemoryDevice (a : Stamp) (h : Head) (s : State) : exec (.identifyMemoryDevice a h) s = execIdentifyMemoryDevice a h s := rfl
@[simp] theorem exec_getHealthInfo (a : Stamp) (h : Head) (s : State) : exec (.getHealthInfo a h) s = execGetHealthInfo a h s := rfl
@[simp] theorem exec_getAlertConfiguration (a : Stamp) (h : Head) (s : State) : exec (.getAlertConfiguration a h) s = execGetAlertConfiguration a h s := rfl
@[simp] theorem exec_setAlertConfiguration (a : Stamp) (h : Head) (cfg : AlertCfg) (s : State) : exec (.setAlertConfiguration a h cfg) s = execSetAlertConfiguration a h cfg s := rfl
@[simp] theorem exec_getShutdownState (a : Stamp) (h : Head) (s : State) : exec (.getShutdownState a h) s = execGetShutdownState a h s := rfl
@[simp] theorem exec_setShutdownState (a : Stamp) (h : Head) (v : Bool) (s : State) : exec (.setShutdownState a h v) s = execSetShutdownState a h v s := rfl
@[simp] theorem exec_sanitize (a : Stamp) (h : Head) (s : State) : exec (.sanitize a h) s = execSanitize a h s := rfl
@[simp] theorem exec_secureErase (a : Stamp) (h : Head) (s : State) : exec (.secureErase a h) s = execSecureErase a h s := rfl
@[simp] theorem exec_eraseComplete (a : Stamp) (s : State) : exec (.eraseComplete a) s = execEraseComplete a s := rfl
@[simp] theorem exec_getDynamicCapacityConfiguration (a : Stamp) (h : Head) (s : State) : exec (.getDynamicCapacityConfiguration a h) s = execGetDynamicCapacityConfiguration a h s := rfl
@[simp] theorem exec_getDynamicCapacityExtentList (a : Stamp) (h : Head) (s : State) : exec (.getDynamicCapacityExtentList a h) s = execGetDynamicCapacityExtentList a h s := rfl
@[simp] theorem exec_addDynamicCapacityResponse (a : Stamp) (h : Head) (extents : List (Nat × Nat)) (s : State) : exec (.addDynamicCapacityResponse a h extents) s = execAddDynamicCapacityResponse a h extents s := rfl
@[simp] theorem exec_releaseDynamicCapacity (a : Stamp) (h : Head) (extents : List (Nat × Nat)) (s : State) : exec (.releaseDynamicCapacity a h extents) s = execReleaseDynamicCapacity a h extents s := rfl
@[simp] theorem exec_getPoisonList (a : Stamp) (h : Head) (dpa : Nat) (len : Nat) (s : State) : exec (.getPoisonList a h dpa len) s = execGetPoisonList a h dpa len s := rfl
@[simp] theorem exec_injectPoison (a : Stamp) (h : Head) (dpa : Nat) (s : State) : exec (.injectPoison a h dpa) s = execInjectPoison a h dpa s := rfl
@[simp] theorem exec_clearPoison (a : Stamp) (h : Head) (dpa : Nat) (data : Half) (s : State) : exec (.clearPoison a h dpa data) s = execClearPoison a h dpa data s := rfl
@[simp] theorem exec_getScanMediaCapabilities (a : Stamp) (h : Head) (dpa : Nat) (len : Nat) (s : State) : exec (.getScanMediaCapabilities a h dpa len) s = execGetScanMediaCapabilities a h dpa len s := rfl
@[simp] theorem exec_scanMedia (a : Stamp) (h : Head) (dpa : Nat) (len : Nat) (s : State) : exec (.scanMedia a h dpa len) s = execScanMedia a h dpa len s := rfl
@[simp] theorem exec_getScanMediaResults (a : Stamp) (h : Head) (s : State) : exec (.getScanMediaResults a h) s = execGetScanMediaResults a h s := rfl
@[simp] theorem exec_read (a : Stamp) (src : Src) (idx : BitVec 16) (sub : BitVec 8) (s : State) : exec (.read a src idx sub) s = execRead a src idx sub s := rfl
@[simp] theorem exec_write (a : Stamp) (src : Src) (idx : BitVec 16) (sub : BitVec 8) (val : List Byte) (s : State) : exec (.write a src idx sub val) s = execWrite a src idx sub val s := rfl
@[simp] theorem exec_stage (a : Stamp) (src : Src) (idx : BitVec 16) (sub : BitVec 8) (val : List Byte) (s : State) : exec (.stage a src idx sub val) s = execStage a src idx sub val s := rfl
@[simp] theorem exec_commit (a : Stamp) (src : Src) (inst : BitVec 8) (tick : BitVec 48) (s : State) : exec (.commit a src inst tick) s = execCommit a src inst tick s := rfl
@[simp] theorem exec_abort (a : Stamp) (src : Src) (s : State) : exec (.abort a src) s = execAbort a src s := rfl
@[simp] theorem exec_status (a : Stamp) (src : Src) (s : State) : exec (.status a src) s = execStatus a src s := rfl
@[simp] theorem exec_commitCheckEnd (a : Stamp) (shadowOk : Bool) (s : State) : exec (.commitCheckEnd a shadowOk) s = execCommitCheckEnd a shadowOk s := rfl
@[simp] theorem exec_applyInstant (a : Stamp) (noAck : List Dom) (pauseNs : Nat) (s : State) : exec (.applyInstant a noAck pauseNs) s = execApplyInstant a noAck pauseNs s := rfl
@[simp] theorem exec_applyFault (a : Stamp) (s : State) : exec (.applyFault a) s = execApplyFault a s := rfl
@[simp] theorem exec_stagingTimeout (a : Stamp) (s : State) : exec (.stagingTimeout a) s = execStagingTimeout a s := rfl
@[simp] theorem exec_parameterPersist (a : Stamp) (s : State) : exec (.parameterPersist a) s = execParameterPersist a s := rfl
@[simp] theorem exec_openRead (a : Stamp) (h : Head) (maint : Bool) (idx : BitVec 16) (sub : BitVec 8) (s : State) : exec (.openRead a h maint idx sub) s = execOpenRead a h maint idx sub s := rfl
@[simp] theorem exec_openWrite (a : Stamp) (h : Head) (maint : Bool) (idx : BitVec 16) (sub : BitVec 8) (total : Nat) (s : State) : exec (.openWrite a h maint idx sub total) s = execOpenWrite a h maint idx sub total s := rfl
@[simp] theorem exec_data (a : Stamp) (h : Head) (maint : Bool) (off : Nat) (len : Nat) (chunk : List Byte) (s : State) : exec (.data a h maint off len chunk) s = execData a h maint off len chunk s := rfl
@[simp] theorem exec_close (a : Stamp) (h : Head) (maint : Bool) (crc : BitVec 32) (s : State) : exec (.close a h maint crc) s = execClose a h maint crc s := rfl
@[simp] theorem exec_bulkAbort (a : Stamp) (h : Head) (s : State) : exec (.bulkAbort a h) s = execBulkAbort a h s := rfl
@[simp] theorem exec_bulkTransferTimeout (a : Stamp) (h : Head) (s : State) : exec (.bulkTransferTimeout a h) s = execBulkTransferTimeout a h s := rfl
@[simp] theorem exec_bulkOpenRead (a : Stamp) (trans : BitVec 8) (maint : Bool) (idx : BitVec 16) (sub : BitVec 8) (s : State) : exec (.bulkOpenRead a trans maint idx sub) s = execBulkOpenRead a trans maint idx sub s := rfl
@[simp] theorem exec_bulkOpenWrite (a : Stamp) (trans : BitVec 8) (maint : Bool) (ctr : BitVec 32) (mac : BitVec 64) (idx : BitVec 16) (sub : BitVec 8) (total : Nat) (s : State) : exec (.bulkOpenWrite a trans maint ctr mac idx sub total) s = execBulkOpenWrite a trans maint ctr mac idx sub total s := rfl
@[simp] theorem exec_segment (a : Stamp) (trans : BitVec 8) (ctr : BitVec 32) (mac : BitVec 64) (num : Nat) (chunk : List Byte) (s : State) : exec (.segment a trans ctr mac num chunk) s = execSegment a trans ctr mac num chunk s := rfl
@[simp] theorem exec_segmentAcknowledge (a : Stamp) (trans : BitVec 8) (num : Nat) (s : State) : exec (.segmentAcknowledge a trans num) s = execSegmentAcknowledge a trans num s := rfl
@[simp] theorem exec_bulkClose (a : Stamp) (trans : BitVec 8) (ctr : BitVec 32) (mac : BitVec 64) (crc : BitVec 32) (s : State) : exec (.bulkClose a trans ctr mac crc) s = execBulkClose a trans ctr mac crc s := rfl
@[simp] theorem exec_canBulkAbort (a : Stamp) (trans : BitVec 8) (ctr : BitVec 32) (mac : BitVec 64) (s : State) : exec (.canBulkAbort a trans ctr mac) s = execCanBulkAbort a trans ctr mac s := rfl
@[simp] theorem exec_canFrameIgnored (a : Stamp) (s : State) : exec (.canFrameIgnored a) s = execCanFrameIgnored a s := rfl
@[simp] theorem exec_canTransferTimeout (a : Stamp) (s : State) : exec (.canTransferTimeout a) s = execCanTransferTimeout a s := rfl
@[simp] theorem exec_heartbeat (a : Stamp) (s : State) : exec (.heartbeat a) s = execHeartbeat a s := rfl
@[simp] theorem exec_busOffRecovery (a : Stamp) (s : State) : exec (.busOffRecovery a) s = execBusOffRecovery a s := rfl
@[simp] theorem exec_challengeRead (a : Stamp) (src : Src) (s : State) : exec (.challengeRead a src) s = execChallengeRead a src s := rfl
@[simp] theorem exec_response (a : Stamp) (src : Src) (v : BitVec 64) (s : State) : exec (.response a src v) s = execResponse a src v s := rfl
@[simp] theorem exec_closeMaintenance (a : Stamp) (src : Src) (s : State) : exec (.closeMaintenance a src) s = execCloseMaintenance a src s := rfl
@[simp] theorem exec_maintenanceIdleTimeout (a : Stamp) (src : Src) (s : State) : exec (.maintenanceIdleTimeout a src) s = execMaintenanceIdleTimeout a src s := rfl
@[simp] theorem exec_responseLockoutEnd (a : Stamp) (src : Src) (s : State) : exec (.responseLockoutEnd a src) s = execResponseLockoutEnd a src s := rfl
@[simp] theorem exec_maintenanceKey (a : Stamp) (src : Src) (key : BitVec 256) (s : State) : exec (.maintenanceKey a src key) s = execMaintenanceKey a src key s := rfl
@[simp] theorem exec_frameMacKey (a : Stamp) (src : Src) (key : BitVec 256) (s : State) : exec (.frameMacKey a src key) s = execFrameMacKey a src key s := rfl
@[simp] theorem exec_stageDefaults (a : Stamp) (src : Src) (s : State) : exec (.stageDefaults a src) s = execStageDefaults a src s := rfl
@[simp] theorem exec_add (a : Stamp) (src : Src) (s : State) : exec (.add a src) s = execAdd a src s := rfl
@[simp] theorem exec_releaseRequest (a : Stamp) (src : Src) (s : State) : exec (.releaseRequest a src) s = execReleaseRequest a src s := rfl
@[simp] theorem exec_forcedRelease (a : Stamp) (src : Src) (s : State) : exec (.forcedRelease a src) s = execForcedRelease a src s := rfl
@[simp] theorem exec_addResponseTimeout (a : Stamp) (h : Head) (s : State) : exec (.addResponseTimeout a h) s = execAddResponseTimeout a h s := rfl
@[simp] theorem exec_regionTeardown (a : Stamp) (rgn : Nat) (s : State) : exec (.regionTeardown a rgn) s = execRegionTeardown a rgn s := rfl
@[simp] theorem exec_histogramClear (a : Stamp) (src : Src) (s : State) : exec (.histogramClear a src) s = execHistogramClear a src s := rfl
@[simp] theorem exec_calibrationImport (a : Stamp) (src : Src) (blob : List Byte) (s : State) : exec (.calibrationImport a src blob) s = execCalibrationImport a src blob s := rfl
@[simp] theorem exec_keyEncryptionKey (a : Stamp) (src : Src) (key : BitVec 256) (s : State) : exec (.keyEncryptionKey a src key) s = execKeyEncryptionKey a src key s := rfl
@[simp] theorem exec_escrowExport (a : Stamp) (src : Src) (s : State) : exec (.escrowExport a src) s = execEscrowExport a src s := rfl
@[simp] theorem exec_escrowImport (a : Stamp) (src : Src) (blob : List Byte) (s : State) : exec (.escrowImport a src blob) s = execEscrowImport a src blob s := rfl
@[simp] theorem exec_unlockRegion (a : Stamp) (src : Src) (r : BitVec 32) (s : State) : exec (.unlockRegion a src r) s = execUnlockRegion a src r s := rfl
@[simp] theorem exec_resetRegionCount (a : Stamp) (src : Src) (r : BitVec 32) (s : State) : exec (.resetRegionCount a src r) s = execResetRegionCount a src r s := rfl
@[simp] theorem exec_retireDie (a : Stamp) (src : Src) (d : BitVec 16) (s : State) : exec (.retireDie a src d) s = execRetireDie a src d s := rfl
@[simp] theorem exec_retireChannel (a : Stamp) (src : Src) (c : BitVec 8) (s : State) : exec (.retireChannel a src c) s = execRetireChannel a src c s := rfl
@[simp] theorem exec_retrainRequest (a : Stamp) (src : Src) (ch : Fin 32) (s : State) : exec (.retrainRequest a src ch) s = execRetrainRequest a src ch s := rfl
@[simp] theorem exec_powerDownToStandby (a : Stamp) (src : Src) (s : State) : exec (.powerDownToStandby a src) s = execPowerDownToStandby a src s := rfl
@[simp] theorem exec_startHealthTest (a : Stamp) (src : Src) (s : State) : exec (.startHealthTest a src) s = execStartHealthTest a src s := rfl
@[simp] theorem exec_clearCounters (a : Stamp) (src : Src) (s : State) : exec (.clearCounters a src) s = execClearCounters a src s := rfl
@[simp] theorem exec_idataRead (a : Stamp) (h : Head) (bytes : Nat) (s : State) : exec (.idataRead a h bytes) s = execIdataRead a h bytes s := rfl
@[simp] theorem exec_idataWrite (a : Stamp) (h : Head) (bytes : Nat) (v : BitVec 64) (s : State) : exec (.idataWrite a h bytes v) s = execIdataWrite a h bytes v s := rfl
@[simp] theorem exec_indirectAcknowledge (a : Stamp) (h : Head) (s : State) : exec (.indirectAcknowledge a h) s = execIndirectAcknowledge a h s := rfl
@[simp] theorem exec_indirectTimeout (a : Stamp) (h : Head) (tookEffect : Bool) (s : State) : exec (.indirectTimeout a h tookEffect) s = execIndirectTimeout a h tookEffect s := rfl
@[simp] theorem exec_registerWrite (a : Stamp) (h : Head) (off : BitVec 12) (bytes : Nat) (v : BitVec 128) (s : State) : exec (.registerWrite a h off bytes v) s = execRegisterWrite a h off bytes v s := rfl
@[simp] theorem exec_gval (a : Stamp) (h : Head) (bytes : Nat) (v : BitVec 64) (s : State) : exec (.gval a h bytes v) s = execGval a h bytes v s := rfl
@[simp] theorem exec_gcmp (a : Stamp) (h : Head) (bytes : Nat) (v : BitVec 64) (s : State) : exec (.gcmp a h bytes v) s = execGcmp a h bytes v s := rfl
@[simp] theorem exec_keyZeroize (a : Stamp) (s : State) : exec (.keyZeroize a) s = execKeyZeroize a s := rfl
@[simp] theorem exec_calibrationWriteEnableOpen (a : Stamp) (s : State) : exec (.calibrationWriteEnableOpen a) s = execCalibrationWriteEnableOpen a s := rfl
@[simp] theorem exec_calibrationWriteEnableClose (a : Stamp) (s : State) : exec (.calibrationWriteEnableClose a) s = execCalibrationWriteEnableClose a s := rfl
@[simp] theorem exec_calibrationEnableExpiry (a : Stamp) (s : State) : exec (.calibrationEnableExpiry a) s = execCalibrationEnableExpiry a s := rfl
@[simp] theorem exec_feltFormat (a : Stamp) (s : State) : exec (.feltFormat a) s = execFeltFormat a s := rfl
@[simp] theorem exec_safeStopRelease (a : Stamp) (s : State) : exec (.safeStopRelease a) s = execSafeStopRelease a s := rfl
@[simp] theorem exec_forcedPowerCutInput (a : Stamp) (s : State) : exec (.forcedPowerCutInput a) s = execForcedPowerCutInput a s := rfl
@[simp] theorem exec_forcedPowerCutRail (a : Stamp) (s : State) : exec (.forcedPowerCutRail a) s = execForcedPowerCutRail a s := rfl
@[simp] theorem exec_forcedClockSwitchIrc (a : Stamp) (s : State) : exec (.forcedClockSwitchIrc a) s = execForcedClockSwitchIrc a s := rfl
@[simp] theorem exec_forcedClockSwitchRefclk (a : Stamp) (s : State) : exec (.forcedClockSwitchRefclk a) s = execForcedClockSwitchRefclk a s := rfl
@[simp] theorem exec_voteCorrection (a : Stamp) (f : Voted) (copy : Fin 3) (v : Nat) (s : State) : exec (.voteCorrection a f copy v) s = execVoteCorrection a f copy v s := rfl
@[simp] theorem exec_voteThreeWayDisagreement (a : Stamp) (f : Voted) (v1 v2 : Nat) (s : State) : exec (.voteThreeWayDisagreement a f v1 v2) s = execVoteThreeWayDisagreement a f v1 v2 s := rfl
@[simp] theorem exec_parityMismatch (a : Stamp) (d : Dom) (off : BitVec 24) (s : State) : exec (.parityMismatch a d off) s = execParityMismatch a d off s := rfl
@[simp] theorem exec_consume (a : Stamp) (h : Head) (v : BitVec 64) (s : State) : exec (.consume a h v) s = execConsume a h v s := rfl
@[simp] theorem exec_drop (a : Stamp) (h : Head) (s : State) : exec (.drop a h) s = execDrop a h s := rfl
@[simp] theorem exec_telemetryWindowAccess (a : Stamp) (h : Head) (tag : Nat) (off : BitVec 26) (isWrite : Bool) (s : State) : exec (.telemetryWindowAccess a h tag off isWrite) s = execTelemetryWindowAccess a h tag off isWrite s := rfl
@[simp] theorem exec_telemetryDump (a : Stamp) (s : State) : exec (.telemetryDump a) s = execTelemetryDump a s := rfl
@[simp] theorem exec_queueBankSwap (a : Stamp) (s : State) : exec (.queueBankSwap a) s = execQueueBankSwap a s := rfl
@[simp] theorem exec_linenReport (a : Stamp) (code : BitVec 16) (cls : BitVec 8) (unit : BitVec 16) (dpa hpa : Option Nat) (data : List Byte) (s : State) : exec (.linenReport a code cls unit dpa hpa data) s = execLinenReport a code cls unit dpa hpa data s := rfl
@[simp] theorem exec_stormWindowClose (a : Stamp) (code : BitVec 16) (cls : BitVec 8) (unit : BitVec 16) (s : State) : exec (.stormWindowClose a code cls unit) s = execStormWindowClose a code cls unit s := rfl
@[simp] theorem exec_tokenGain (a : Stamp) (s : State) : exec (.tokenGain a) s = execTokenGain a s := rfl
@[simp] theorem exec_ringWrite (a : Stamp) (s : State) : exec (.ringWrite a) s = execRingWrite a s := rfl
@[simp] theorem exec_feltMarginPass (a : Stamp) (weakWords : Nat) (s : State) : exec (.feltMarginPass a weakWords) s = execFeltMarginPass a weakWords s := rfl
@[simp] theorem exec_counterRecordWrite (a : Stamp) (s : State) : exec (.counterRecordWrite a) s = execCounterRecordWrite a s := rfl
@[simp] theorem exec_operatingTimeTick (a : Stamp) (s : State) : exec (.operatingTimeTick a) s = execOperatingTimeTick a s := rfl
@[simp] theorem exec_hotEpochEnd (a : Stamp) (s : State) : exec (.hotEpochEnd a) s = execHotEpochEnd a s := rfl
@[simp] theorem exec_demotionCommit (a : Stamp) (li : BitVec 36) (s : State) : exec (.demotionCommit a li) s = execDemotionCommit a li s := rfl
@[simp] theorem exec_promotionWayTimeout (a : Stamp) (li : BitVec 36) (s : State) : exec (.promotionWayTimeout a li) s = execPromotionWayTimeout a li s := rfl
@[simp] theorem exec_journalRecordIssue (a : Stamp) (failed : Fin 256) (s : State) : exec (.journalRecordIssue a failed) s = execJournalRecordIssue a failed s := rfl
@[simp] theorem exec_garbageCollection (a : Stamp) (cls : Cls) (s : State) : exec (.garbageCollection a cls) s = execGarbageCollection a cls s := rfl
@[simp] theorem exec_wearIncrement (a : Stamp) (slot : Nat) (s : State) : exec (.wearIncrement a slot) s = execWearIncrement a slot s := rfl
@[simp] theorem exec_trackerFold (a : Stamp) (slot : Nat) (s : State) : exec (.trackerFold a slot) s = execTrackerFold a slot s := rfl
@[simp] theorem exec_rotationPassEnd (a : Stamp) (r : Nat) (s : State) : exec (.rotationPassEnd a r) s = execRotationPassEnd a r s := rfl
@[simp] theorem exec_migrationStart (a : Stamp) (r : Nat) (s : State) : exec (.migrationStart a r) s = execMigrationStart a r s := rfl
@[simp] theorem exec_migrationEnd (a : Stamp) (r : Nat) (s : State) : exec (.migrationEnd a r) s = execMigrationEnd a r s := rfl
@[simp] theorem exec_coldSwapCheck (a : Stamp) (s : State) : exec (.coldSwapCheck a) s = execColdSwapCheck a s := rfl
@[simp] theorem exec_refreshRegion (a : Stamp) (s : State) : exec (.refreshRegion a) s = execRefreshRegion a s := rfl
@[simp] theorem exec_refreshBacklog (a : Stamp) (r : Nat) (s : State) : exec (.refreshBacklog a r) s = execRefreshBacklog a r s := rfl
@[simp] theorem exec_checkpointStart (a : Stamp) (trigger : CkptTrigger) (s : State) : exec (.checkpointStart a trigger) s = execCheckpointStart a trigger s := rfl
@[simp] theorem exec_checkpointCommit (a : Stamp) (failed : List (Fin 1048576)) (s : State) : exec (.checkpointCommit a failed) s = execCheckpointCommit a failed s := rfl
@[simp] theorem exec_resync (a : Stamp) (r : Nat) (s : State) : exec (.resync a r) s = execResync a r s := rfl
@[simp] theorem exec_weakLineRewrite (a : Stamp) (s : State) : exec (.weakLineRewrite a) s = execWeakLineRewrite a s := rfl
@[simp] theorem exec_terryStripeRead (a : Stamp) (cls : Cls) (s : State) : exec (.terryStripeRead a cls) s = execTerryStripeRead a cls s := rfl
@[simp] theorem exec_sramScrub (a : Stamp) (bank : Fin 66) (word : Nat) (how : SramAccess) (e : SramFlaw) (s : State) : exec (.sramScrub a bank word how e) s = execSramScrub a bank word how e s := rfl
@[simp] theorem exec_scrubStarved (a : Stamp) (lap : Fin 3) (s : State) : exec (.scrubStarved a lap) s = execScrubStarved a lap s := rfl
@[simp] theorem exec_cellEvaluation (a : Stamp) (d : Fin 256) (b : Fin 16) (n : Fin 4) (j : Fin 3) (s : State) : exec (.cellEvaluation a d b n j) s = execCellEvaluation a d b n j s := rfl
@[simp] theorem exec_cellStale (a : Stamp) (d : Fin 256) (b : Fin 16) (n : Fin 4) (j : Fin 3) (s : State) : exec (.cellStale a d b n j) s = execCellStale a d b n j s := rfl
@[simp] theorem exec_probeBatch (a : Stamp) (d : Fin 256) (b : Fin 16) (n : Fin 4) (j : Fin 3) (s : State) : exec (.probeBatch a d b n j) s = execProbeBatch a d b n j s := rfl
@[simp] theorem exec_weakRegionOffer (a : Stamp) (area : Nat) (s : State) : exec (.weakRegionOffer a area) s = execWeakRegionOffer a area s := rfl
@[simp] theorem exec_trendFit (a : Stamp) (d : Fin 256) (s : State) : exec (.trendFit a d) s = execTrendFit a d s := rfl
@[simp] theorem exec_marginEvaluation (a : Stamp) (s : State) : exec (.marginEvaluation a) s = execMarginEvaluation a s := rfl
@[simp] theorem exec_gauzeSnapshot (a : Stamp) (failed : List (Fin 16384)) (s : State) : exec (.gauzeSnapshot a failed) s = execGauzeSnapshot a failed s := rfl
@[simp] theorem exec_tagWriteback (a : Stamp) (s : State) : exec (.tagWriteback a) s = execTagWriteback a s := rfl
@[simp] theorem exec_rekeyPass (a : Stamp) (r : Nat) (s : State) : exec (.rekeyPass a r) s = execRekeyPass a r s := rfl
@[simp] theorem exec_alertService (a : Stamp) (ch : Fin 32) (reports : List (Fin 8 × BitVec 256)) (s : State) : exec (.alertService a ch reports) s = execAlertService a ch reports s := rfl
@[simp] theorem exec_channelTraining (a : Stamp) (obs : List TrainObs) (s : State) : exec (.channelTraining a obs) s = execChannelTraining a obs s := rfl
@[simp] theorem exec_channelRetrain (a : Stamp) (ch : Fin 32) (s : State) : exec (.channelRetrain a ch) s = execChannelRetrain a ch s := rfl
@[simp] theorem exec_zqcShortPeriod (a : Stamp) (ch : Fin 32) (s : State) : exec (.zqcShortPeriod a ch) s = execZqcShortPeriod a ch s := rfl
@[simp] theorem exec_writeDeskewCheck (a : Stamp) (ch : Fin 32) (die : Fin 8) (moved : List (Fin 36 × Bool)) (s : State) : exec (.writeDeskewCheck a ch die moved) s = execWriteDeskewCheck a ch die moved s := rfl
@[simp] theorem exec_rd (a : Stamp) (ch : Fin 32) (die : Fin 8) (part : Fin 32) (line : BitVec 23) (o2 o1 o0 : BitVec 9) (s : State) : exec (.rd a ch die part line o2 o1 o0) s = execRd a ch die part line o2 o1 o0 s := rfl
@[simp] theorem exec_mrd (a : Stamp) (ch : Fin 32) (die : Fin 8) (part : Fin 32) (line : BitVec 23) (o2 o1 o0 : BitVec 9) (s : State) : exec (.mrd a ch die part line o2 o1 o0) s = execMrd a ch die part line o2 o1 o0 s := rfl
@[simp] theorem exec_rrs (a : Stamp) (ch : Fin 32) (die : Fin 8) (part : Fin 32) (s : State) : exec (.rrs a ch die part) s = execRrs a ch die part s := rfl
@[simp] theorem exec_pgm (a : Stamp) (ch : Fin 32) (die : Fin 8) (part : Fin 32) (line : BitVec 23) (content : BitVec 1152) (accepted : Bool) (s : State) : exec (.pgm a ch die part line content accepted) s = execPgm a ch die part line content accepted s := rfl
@[simp] theorem exec_ovw (a : Stamp) (ch : Fin 32) (die : Fin 8) (part : Fin 32) (line : BitVec 23) (content : BitVec 1152) (accepted : Bool) (s : State) : exec (.ovw a ch die part line content accepted) s = execOvw a ch die part line content accepted s := rfl
@[simp] theorem exec_trs (a : Stamp) (ch : Fin 32) (die : Fin 8) (part : Fin 32) (tile : BitVec 17) (count : Fin 4) (s : State) : exec (.trs a ch die part tile count) s = execTrs a ch die part tile count s := rfl
@[simp] theorem exec_sus (a : Stamp) (ch : Fin 32) (die : Fin 8) (part : Fin 32) (s : State) : exec (.sus a ch die part) s = execSus a ch die part s := rfl
@[simp] theorem exec_rsm (a : Stamp) (ch : Fin 32) (die : Fin 8) (part : Fin 32) (s : State) : exec (.rsm a ch die part) s = execRsm a ch die part s := rfl
@[simp] theorem exec_str (a : Stamp) (ch : Fin 32) (die : Fin 8) (s : State) : exec (.str a ch die) s = execStr a ch die s := rfl
@[simp] theorem exec_alc (a : Stamp) (ch : Fin 32) (cs : BitVec 8) (mask : BitVec 7) (s : State) : exec (.alc a ch cs mask) s = execAlc a ch cs mask s := rfl
@[simp] theorem exec_mrw (a : Stamp) (ch : Fin 32) (cs : BitVec 8) (addr : BitVec 8) (v : BitVec 16) (s : State) : exec (.mrw a ch cs addr v) s = execMrw a ch cs addr v s := rfl
@[simp] theorem exec_mrr (a : Stamp) (ch : Fin 32) (die : Fin 8) (addr : BitVec 8) (s : State) : exec (.mrr a ch die addr) s = execMrr a ch die addr s := rfl
@[simp] theorem exec_idr (a : Stamp) (ch : Fin 32) (die : Fin 8) (s : State) : exec (.idr a ch die) s = execIdr a ch die s := rfl
@[simp] theorem exec_zqc (a : Stamp) (ch : Fin 32) (cs : BitVec 8) (long : Bool) (s : State) : exec (.zqc a ch cs long) s = execZqc a ch cs long s := rfl
@[simp] theorem exec_trn (a : Stamp) (ch : Fin 32) (die : Fin 8) (buffer : Bool) (seed : BitVec 8) (s : State) : exec (.trn a ch die buffer seed) s = execTrn a ch die buffer seed s := rfl
@[simp] theorem exec_tbw (a : Stamp) (ch : Fin 32) (die : Fin 8) (content : BitVec 1152) (s : State) : exec (.tbw a ch die content) s = execTbw a ch die content s := rfl
@[simp] theorem exec_sby (a : Stamp) (ch : Fin 32) (cs : BitVec 8) (s : State) : exec (.sby a ch cs) s = execSby a ch cs s := rfl
@[simp] theorem exec_wak (a : Stamp) (ch : Fin 32) (cs : BitVec 8) (s : State) : exec (.wak a ch cs) s = execWak a ch cs s := rfl
@[simp] theorem exec_rst (a : Stamp) (ch : Fin 32) (cs : BitVec 8) (s : State) : exec (.rst a ch cs) s = execRst a ch cs s := rfl
@[simp] theorem exec_rebuildPosition (a : Stamp) (s : State) : exec (.rebuildPosition a) s = execRebuildPosition a s := rfl
@[simp] theorem exec_replacementCopyBack (a : Stamp) (pos : Nat) (s : State) : exec (.replacementCopyBack a pos) s = execReplacementCopyBack a pos s := rfl
@[simp] theorem exec_engineHeartbeatMiss (a : Stamp) (e : Fin 64) (s : State) : exec (.engineHeartbeatMiss a e) s = execEngineHeartbeatMiss a e s := rfl
@[simp] theorem exec_takeoverComplete (a : Stamp) (e : Fin 64) (s : State) : exec (.takeoverComplete a e) s = execTakeoverComplete a e s := rfl
@[simp] theorem exec_lockstepMismatch (a : Stamp) (pair : Fin 2) (s : State) : exec (.lockstepMismatch a pair) s = execLockstepMismatch a pair s := rfl
@[simp] theorem exec_bankFailoverComplete (a : Stamp) (s : State) : exec (.bankFailoverComplete a) s = execBankFailoverComplete a s := rfl
@[simp] theorem exec_headFailure (a : Stamp) (h : Head) (s : State) : exec (.headFailure a h) s = execHeadFailure a h s := rfl
@[simp] theorem exec_selfTest (a : Stamp) (failed : List Checker) (s : State) : exec (.selfTest a failed) s = execSelfTest a failed s := rfl
@[simp] theorem exec_safeStopEntry (a : Stamp) (s : State) : exec (.safeStopEntry a) s = execSafeStopEntry a s := rfl
@[simp] theorem exec_residentRailsGood (a : Stamp) (straps : List (Fin 4)) (pfailHigh testEn : Bool) (s : State) : exec (.residentRailsGood a straps pfailHigh testEn) s = execResidentRailsGood a straps pfailHigh testEn s := rfl
@[simp] theorem exec_residentRailFall (a : Stamp) (s : State) : exec (.residentRailFall a) s = execResidentRailFall a s := rfl
@[simp] theorem exec_pfailNRise (a : Stamp) (s : State) : exec (.pfailNRise a) s = execPfailNRise a s := rfl
@[simp] theorem exec_inputPowerLoss (a : Stamp) (s : State) : exec (.inputPowerLoss a) s = execInputPowerLoss a s := rfl
@[simp] theorem exec_flushEnd (a : Stamp) (errs : List (Nat × DpErr)) (s : State) : exec (.flushEnd a errs) s = execFlushEnd a errs s := rfl
@[simp] theorem exec_slotStepStart (a : Stamp) (slot : Fin 12) (s : State) : exec (.slotStepStart a slot) s = execSlotStepStart a slot s := rfl
@[simp] theorem exec_pseqPgChange (a : Stamp) (slot : Fin 12) (level : Bool) (mv : Nat) (s : State) : exec (.pseqPgChange a slot level mv) s = execPseqPgChange a slot level mv s := rfl
@[simp] theorem exec_slotQualified (a : Stamp) (slot : Fin 12) (s : State) : exec (.slotQualified a slot) s = execSlotQualified a slot s := rfl
@[simp] theorem exec_slotQualifyTimeout (a : Stamp) (slot : Fin 12) (s : State) : exec (.slotQualifyTimeout a slot) s = execSlotQualifyTimeout a slot s := rfl
@[simp] theorem exec_slotFallen (a : Stamp) (slot : Fin 12) (mv : Nat) (s : State) : exec (.slotFallen a slot mv) s = execSlotFallen a slot mv s := rfl
@[simp] theorem exec_slotFallTimeout (a : Stamp) (slot : Fin 12) (s : State) : exec (.slotFallTimeout a slot) s = execSlotFallTimeout a slot s := rfl
@[simp] theorem exec_railFault (a : Stamp) (slot : Fin 12) (kind : RailKind) (mv : Nat) (s : State) : exec (.railFault a slot kind mv) s = execRailFault a slot kind mv s := rfl
@[simp] theorem exec_huSenseSample (a : Stamp) (code : BitVec 12) (s : State) : exec (.huSenseSample a code) s = execHuSenseSample a code s := rfl
@[simp] theorem exec_holdupReport (a : Stamp) (s : State) : exec (.holdupReport a) s = execHoldupReport a s := rfl
@[simp] theorem exec_writeBackReturn (a : Stamp) (s : State) : exec (.writeBackReturn a) s = execWriteBackReturn a s := rfl
@[simp] theorem exec_healthTest (a : Stamp) (s : State) : exec (.healthTest a) s = execHealthTest a s := rfl
@[simp] theorem exec_healthTestEnd (a : Stamp) (stepUv totalUv : Nat) (s : State) : exec (.healthTestEnd a stepUv totalUv) s = execHealthTestEnd a stepUv totalUv s := rfl
@[simp] theorem exec_boot (a : Stamp) (badBanks : List (Fin 66)) (felt : FeltObs) (s : State) : exec (.boot a badBanks felt) s = execBoot a badBanks felt s := rfl
@[simp] theorem exec_bindingCheck (a : Stamp) (obs : BindObs) (s : State) : exec (.bindingCheck a obs) s = execBindingCheck a obs s := rfl
@[simp] theorem exec_mapRebuild (a : Stamp) (timeUs : Nat) (s : State) : exec (.mapRebuild a timeUs) s = execMapRebuild a timeUs s := rfl
@[simp] theorem exec_memoryActive (a : Stamp) (s : State) : exec (.memoryActive a) s = execMemoryActive a s := rfl
@[simp] theorem exec_holdupReportTimeout (a : Stamp) (s : State) : exec (.holdupReportTimeout a) s = execHoldupReportTimeout a s := rfl
@[simp] theorem exec_lightSleepEntry (a : Stamp) (s : State) : exec (.lightSleepEntry a) s = execLightSleepEntry a s := rfl
@[simp] theorem exec_deepSleepEntry (a : Stamp) (s : State) : exec (.deepSleepEntry a) s = execDeepSleepEntry a s := rfl
@[simp] theorem exec_idleEnd (a : Stamp) (s : State) : exec (.idleEnd a) s = execIdleEnd a s := rfl
@[simp] theorem exec_refMonitorWindow (a : Stamp) (edges : Nat) (s : State) : exec (.refMonitorWindow a edges) s = execRefMonitorWindow a edges s := rfl
@[simp] theorem exec_refclkLost (a : Stamp) (stopped : Bool) (s : State) : exec (.refclkLost a stopped) s = execRefclkLost a stopped s := rfl
@[simp] theorem exec_refclkGood (a : Stamp) (s : State) : exec (.refclkGood a) s = execRefclkGood a s := rfl
@[simp] theorem exec_pllJudgeWindow (a : Stamp) (pll : Pll) (count : Nat) (cref : Nat) (s : State) : exec (.pllJudgeWindow a pll count cref) s = execPllJudgeWindow a pll count cref s := rfl
@[simp] theorem exec_ircTrimUpdate (a : Stamp) (s : State) : exec (.ircTrimUpdate a) s = execIrcTrimUpdate a s := rfl
@[simp] theorem exec_thermalSample (a : Stamp) (raw : List (BitVec 16)) (s : State) : exec (.thermalSample a raw) s = execThermalSample a raw s := rfl
@[simp] theorem exec_throttleEntry (a : Stamp) (s : State) : exec (.throttleEntry a) s = execThrottleEntry a s := rfl
@[simp] theorem exec_throttleStep (a : Stamp) (s : State) : exec (.throttleStep a) s = execThrottleStep a s := rfl
@[simp] theorem exec_devloadWindow (a : Stamp) (h : Head) (s : State) : exec (.devloadWindow a h) s = execDevloadWindow a h s := rfl
@[simp] theorem exec_perstAssert (a : Stamp) (h : Head) (kind : ResetKind) (s : State) : exec (.perstAssert a h kind) s = execPerstAssert a h kind s := rfl
@[simp] theorem exec_perstDeassert (a : Stamp) (h : Head) (s : State) : exec (.perstDeassert a h) s = execPerstDeassert a h s := rfl
@[simp] theorem exec_functionLevelReset (a : Stamp) (h : Head) (s : State) : exec (.functionLevelReset a h) s = execFunctionLevelReset a h s := rfl
@[simp] theorem exec_linkDown (a : Stamp) (h : Head) (s : State) : exec (.linkDown a h) s = execLinkDown a h s := rfl
@[simp] theorem exec_linkUp (a : Stamp) (h : Head) (rate : Fin 5) (width : Fin 17) (flit : Fin 3) (s : State) : exec (.linkUp a h rate width flit) s = execLinkUp a h rate width flit s := rfl
@[simp] theorem exec_l1Entry (a : Stamp) (h : Head) (s : State) : exec (.l1Entry a h) s = execL1Entry a h s := rfl
@[simp] theorem exec_l1Exit (a : Stamp) (h : Head) (s : State) : exec (.l1Exit a h) s = execL1Exit a h s := rfl
@[simp] theorem exec_getVersion (a : Stamp) (h : Head) (s : State) : exec (.getVersion a h) s = execGetVersion a h s := rfl
@[simp] theorem exec_getCapabilities (a : Stamp) (h : Head) (s : State) : exec (.getCapabilities a h) s = execGetCapabilities a h s := rfl
@[simp] theorem exec_negotiateAlgorithms (a : Stamp) (h : Head) (offered : Bool) (s : State) : exec (.negotiateAlgorithms a h offered) s = execNegotiateAlgorithms a h offered s := rfl
@[simp] theorem exec_getDigests (a : Stamp) (h : Head) (s : State) : exec (.getDigests a h) s = execGetDigests a h s := rfl
@[simp] theorem exec_getCertificate (a : Stamp) (h : Head) (slot : Fin 8) (s : State) : exec (.getCertificate a h slot) s = execGetCertificate a h slot s := rfl
@[simp] theorem exec_challenge (a : Stamp) (h : Head) (slot : Fin 8) (nonce : BitVec 256) (s : State) : exec (.challenge a h slot nonce) s = execChallenge a h slot nonce s := rfl
@[simp] theorem exec_getMeasurements (a : Stamp) (h : Head) (index : BitVec 8) (nonce : BitVec 256) (s : State) : exec (.getMeasurements a h index nonce) s = execGetMeasurements a h index nonce s := rfl
@[simp] theorem exec_keyExchange (a : Stamp) (h : Head) (exchange : BitVec 768) (s : State) : exec (.keyExchange a h exchange) s = execKeyExchange a h exchange s := rfl
@[simp] theorem exec_finish (a : Stamp) (h : Head) (verify : BitVec 384) (s : State) : exec (.finish a h verify) s = execFinish a h verify s := rfl
@[simp] theorem exec_keyUpdate (a : Stamp) (h : Head) (s : State) : exec (.keyUpdate a h) s = execKeyUpdate a h s := rfl
@[simp] theorem exec_spdmHeartbeat (a : Stamp) (h : Head) (s : State) : exec (.spdmHeartbeat a h) s = execSpdmHeartbeat a h s := rfl
@[simp] theorem exec_endSession (a : Stamp) (h : Head) (s : State) : exec (.endSession a h) s = execEndSession a h s := rfl
@[simp] theorem exec_ideKeyManagement (a : Stamp) (h : Head) (pcie : Bool) (key : BitVec 256) (skid : Bool) (s : State) : exec (.ideKeyManagement a h pcie key skid) s = execIdeKeyManagement a h pcie key skid s := rfl
@[simp] theorem exec_ideFailure (a : Stamp) (h : Head) (pcie : Bool) (s : State) : exec (.ideFailure a h pcie) s = execIdeFailure a h pcie s := rfl
@[simp] theorem exec_cdatRead (a : Stamp) (h : Head) (s : State) : exec (.cdatRead a h) s = execCdatRead a h s := rfl
@[simp] theorem exec_channelRetrainEnd (a : Stamp) (ch : Fin 32) (ok : Bool) (timeUs : Nat) (s : State) : exec (.channelRetrainEnd a ch ok timeUs) s = execChannelRetrainEnd a ch ok timeUs s := rfl
@[simp] theorem exec_returnRampEnd (a : Stamp) (s : State) : exec (.returnRampEnd a) s = execReturnRampEnd a s := rfl
@[simp] theorem exec_redistributionComplete (a : Stamp) (s : State) : exec (.redistributionComplete a) s = execRedistributionComplete a s := rfl
@[simp] theorem exec_addCapacityOffer (a : Stamp) (s : State) : exec (.addCapacityOffer a) s = execAddCapacityOffer a s := rfl
@[simp] theorem exec_testEnRise (a : Stamp) (s : State) : exec (.testEnRise a) s = execTestEnRise a s := rfl
@[simp] theorem exec_tapInstruction (a : Stamp) (i : TapInstr) (s : State) : exec (.tapInstruction a i) s = execTapInstruction a i s := rfl
@[simp] theorem exec_canBusJoin (a : Stamp) (s : State) : exec (.canBusJoin a) s = execCanBusJoin a s := rfl
@[simp] theorem exec_cxlComplianceRequest (a : Stamp) (h : Head) (s : State) : exec (.cxlComplianceRequest a h) s = execCxlComplianceRequest a h s := rfl
@[simp] theorem exec_componentRegisterWrite (a : Stamp) (h : Head) (w : ComponentWrite) (s : State) : exec (.componentRegisterWrite a h w) s = execComponentRegisterWrite a h w s := rfl
@[simp] theorem exec_configurationRequest (a : Stamp) (h : Head) (r : ConfigRequest) (s : State) : exec (.configurationRequest a h r) s = execConfigurationRequest a h r s := rfl

/-- A step with a command in front runs it on the rest of the queue. -/
@[simp] theorem step_cons (c : Instr) (rest : List Instr) (s : State) (h : s.pending = c :: rest) : step s = exec c { s with pending := rest } := by
  unfold step; rw [h]

/-- A step on an empty queue. -/
@[simp] theorem step_nil (s : State) (h : s.pending = []) : step s = .next s := by
  unfold step; rw [h]

end Sys2Proof.Machine
end

