-- ==== Sys2Proof/Laws/State.lean ====
section
/-! SUPPORT. What each change of one part of the block leaves: one lemma per field per change, so that no proof unfolds a record. -/

namespace Sys2Proof.Machine

/-! ### onHA -/

@[simp] theorem Blk.onHA_now (b : Blk) (f : HeadSt → HeadSt) : (b.onHA f).now = b.now := rfl
@[simp] theorem Blk.onHA_opTime (b : Blk) (f : HeadSt → HeadSt) : (b.onHA f).opTime = b.opTime := rfl
@[simp] theorem Blk.onHA_nvwp (b : Blk) (f : HeadSt → HeadSt) : (b.onHA f).nvwp = b.nvwp := rfl
@[simp] theorem Blk.onHA_rng (b : Blk) (f : HeadSt → HeadSt) : (b.onHA f).rng = b.rng := rfl
@[simp] theorem Blk.onHA_free (b : Blk) (f : HeadSt → HeadSt) : (b.onHA f).free = b.free := rfl
@[simp] theorem Blk.onHA_out (b : Blk) (f : HeadSt → HeadSt) : (b.onHA f).out = b.out := rfl
@[simp] theorem Blk.onHA_od (b : Blk) (f : HeadSt → HeadSt) : (b.onHA f).od = b.od := rfl
@[simp] theorem Blk.onHA_odOld (b : Blk) (f : HeadSt → HeadSt) : (b.onHA f).odOld = b.odOld := rfl
@[simp] theorem Blk.onHA_direct (b : Blk) (f : HeadSt → HeadSt) : (b.onHA f).direct = b.direct := rfl
@[simp] theorem Blk.onHA_regs (b : Blk) (f : HeadSt → HeadSt) : (b.onHA f).regs = b.regs := rfl
@[simp] theorem Blk.onHA_due (b : Blk) (f : HeadSt → HeadSt) : (b.onHA f).due = b.due := rfl
@[simp] theorem Blk.onHA_dueB (b : Blk) (f : HeadSt → HeadSt) : (b.onHA f).dueB = b.dueB := rfl
@[simp] theorem Blk.onHA_hA (b : Blk) (f : HeadSt → HeadSt) : (b.onHA f).hA = f b.hA := rfl
@[simp] theorem Blk.onHA_hB (b : Blk) (f : HeadSt → HeadSt) : (b.onHA f).hB = b.hB := rfl
@[simp] theorem Blk.onHA_sesA (b : Blk) (f : HeadSt → HeadSt) : (b.onHA f).sesA = b.sesA := rfl
@[simp] theorem Blk.onHA_sesB (b : Blk) (f : HeadSt → HeadSt) : (b.onHA f).sesB = b.sesB := rfl
@[simp] theorem Blk.onHA_sesC (b : Blk) (f : HeadSt → HeadSt) : (b.onHA f).sesC = b.sesC := rfl
@[simp] theorem Blk.onHA_muslin (b : Blk) (f : HeadSt → HeadSt) : (b.onHA f).muslin = b.muslin := rfl
@[simp] theorem Blk.onHA_can (b : Blk) (f : HeadSt → HeadSt) : (b.onHA f).can = b.can := rfl
@[simp] theorem Blk.onHA_dev (b : Blk) (f : HeadSt → HeadSt) : (b.onHA f).dev = b.dev := rfl
@[simp] theorem Blk.onHA_path (b : Blk) (f : HeadSt → HeadSt) : (b.onHA f).path = b.path := rfl
@[simp] theorem Blk.onHA_media (b : Blk) (f : HeadSt → HeadSt) : (b.onHA f).media = b.media := rfl
@[simp] theorem Blk.onHA_velvet (b : Blk) (f : HeadSt → HeadSt) : (b.onHA f).velvet = b.velvet := rfl
@[simp] theorem Blk.onHA_twill (b : Blk) (f : HeadSt → HeadSt) : (b.onHA f).twill = b.twill := rfl
@[simp] theorem Blk.onHA_gauze (b : Blk) (f : HeadSt → HeadSt) : (b.onHA f).gauze = b.gauze := rfl
@[simp] theorem Blk.onHA_damask (b : Blk) (f : HeadSt → HeadSt) : (b.onHA f).damask = b.damask := rfl
@[simp] theorem Blk.onHA_linen (b : Blk) (f : HeadSt → HeadSt) : (b.onHA f).linen = b.linen := rfl
@[simp] theorem Blk.onHA_felt (b : Blk) (f : HeadSt → HeadSt) : (b.onHA f).felt = b.felt := rfl
@[simp] theorem Blk.onHA_tweed (b : Blk) (f : HeadSt → HeadSt) : (b.onHA f).tweed = b.tweed := rfl
@[simp] theorem Blk.onHA_canvas (b : Blk) (f : HeadSt → HeadSt) : (b.onHA f).canvas = b.canvas := rfl
@[simp] theorem Blk.onHA_clocks (b : Blk) (f : HeadSt → HeadSt) : (b.onHA f).clocks = b.clocks := rfl
@[simp] theorem Blk.onHA_thermal (b : Blk) (f : HeadSt → HeadSt) : (b.onHA f).thermal = b.thermal := rfl
@[simp] theorem Blk.onHA_modes (b : Blk) (f : HeadSt → HeadSt) : (b.onHA f).modes = b.modes := rfl
@[simp] theorem Blk.onHA_safety (b : Blk) (f : HeadSt → HeadSt) : (b.onHA f).safety = b.safety := rfl
@[simp] theorem Blk.onHA_tap (b : Blk) (f : HeadSt → HeadSt) : (b.onHA f).tap = b.tap := rfl

/-! ### onHB -/

@[simp] theorem Blk.onHB_now (b : Blk) (f : HeadSt → HeadSt) : (b.onHB f).now = b.now := rfl
@[simp] theorem Blk.onHB_opTime (b : Blk) (f : HeadSt → HeadSt) : (b.onHB f).opTime = b.opTime := rfl
@[simp] theorem Blk.onHB_nvwp (b : Blk) (f : HeadSt → HeadSt) : (b.onHB f).nvwp = b.nvwp := rfl
@[simp] theorem Blk.onHB_rng (b : Blk) (f : HeadSt → HeadSt) : (b.onHB f).rng = b.rng := rfl
@[simp] theorem Blk.onHB_free (b : Blk) (f : HeadSt → HeadSt) : (b.onHB f).free = b.free := rfl
@[simp] theorem Blk.onHB_out (b : Blk) (f : HeadSt → HeadSt) : (b.onHB f).out = b.out := rfl
@[simp] theorem Blk.onHB_od (b : Blk) (f : HeadSt → HeadSt) : (b.onHB f).od = b.od := rfl
@[simp] theorem Blk.onHB_odOld (b : Blk) (f : HeadSt → HeadSt) : (b.onHB f).odOld = b.odOld := rfl
@[simp] theorem Blk.onHB_direct (b : Blk) (f : HeadSt → HeadSt) : (b.onHB f).direct = b.direct := rfl
@[simp] theorem Blk.onHB_regs (b : Blk) (f : HeadSt → HeadSt) : (b.onHB f).regs = b.regs := rfl
@[simp] theorem Blk.onHB_due (b : Blk) (f : HeadSt → HeadSt) : (b.onHB f).due = b.due := rfl
@[simp] theorem Blk.onHB_dueB (b : Blk) (f : HeadSt → HeadSt) : (b.onHB f).dueB = b.dueB := rfl
@[simp] theorem Blk.onHB_hA (b : Blk) (f : HeadSt → HeadSt) : (b.onHB f).hA = b.hA := rfl
@[simp] theorem Blk.onHB_hB (b : Blk) (f : HeadSt → HeadSt) : (b.onHB f).hB = f b.hB := rfl
@[simp] theorem Blk.onHB_sesA (b : Blk) (f : HeadSt → HeadSt) : (b.onHB f).sesA = b.sesA := rfl
@[simp] theorem Blk.onHB_sesB (b : Blk) (f : HeadSt → HeadSt) : (b.onHB f).sesB = b.sesB := rfl
@[simp] theorem Blk.onHB_sesC (b : Blk) (f : HeadSt → HeadSt) : (b.onHB f).sesC = b.sesC := rfl
@[simp] theorem Blk.onHB_muslin (b : Blk) (f : HeadSt → HeadSt) : (b.onHB f).muslin = b.muslin := rfl
@[simp] theorem Blk.onHB_can (b : Blk) (f : HeadSt → HeadSt) : (b.onHB f).can = b.can := rfl
@[simp] theorem Blk.onHB_dev (b : Blk) (f : HeadSt → HeadSt) : (b.onHB f).dev = b.dev := rfl
@[simp] theorem Blk.onHB_path (b : Blk) (f : HeadSt → HeadSt) : (b.onHB f).path = b.path := rfl
@[simp] theorem Blk.onHB_media (b : Blk) (f : HeadSt → HeadSt) : (b.onHB f).media = b.media := rfl
@[simp] theorem Blk.onHB_velvet (b : Blk) (f : HeadSt → HeadSt) : (b.onHB f).velvet = b.velvet := rfl
@[simp] theorem Blk.onHB_twill (b : Blk) (f : HeadSt → HeadSt) : (b.onHB f).twill = b.twill := rfl
@[simp] theorem Blk.onHB_gauze (b : Blk) (f : HeadSt → HeadSt) : (b.onHB f).gauze = b.gauze := rfl
@[simp] theorem Blk.onHB_damask (b : Blk) (f : HeadSt → HeadSt) : (b.onHB f).damask = b.damask := rfl
@[simp] theorem Blk.onHB_linen (b : Blk) (f : HeadSt → HeadSt) : (b.onHB f).linen = b.linen := rfl
@[simp] theorem Blk.onHB_felt (b : Blk) (f : HeadSt → HeadSt) : (b.onHB f).felt = b.felt := rfl
@[simp] theorem Blk.onHB_tweed (b : Blk) (f : HeadSt → HeadSt) : (b.onHB f).tweed = b.tweed := rfl
@[simp] theorem Blk.onHB_canvas (b : Blk) (f : HeadSt → HeadSt) : (b.onHB f).canvas = b.canvas := rfl
@[simp] theorem Blk.onHB_clocks (b : Blk) (f : HeadSt → HeadSt) : (b.onHB f).clocks = b.clocks := rfl
@[simp] theorem Blk.onHB_thermal (b : Blk) (f : HeadSt → HeadSt) : (b.onHB f).thermal = b.thermal := rfl
@[simp] theorem Blk.onHB_modes (b : Blk) (f : HeadSt → HeadSt) : (b.onHB f).modes = b.modes := rfl
@[simp] theorem Blk.onHB_safety (b : Blk) (f : HeadSt → HeadSt) : (b.onHB f).safety = b.safety := rfl
@[simp] theorem Blk.onHB_tap (b : Blk) (f : HeadSt → HeadSt) : (b.onHB f).tap = b.tap := rfl

/-! ### onSesA -/

@[simp] theorem Blk.onSesA_now (b : Blk) (f : Session → Session) : (b.onSesA f).now = b.now := rfl
@[simp] theorem Blk.onSesA_opTime (b : Blk) (f : Session → Session) : (b.onSesA f).opTime = b.opTime := rfl
@[simp] theorem Blk.onSesA_nvwp (b : Blk) (f : Session → Session) : (b.onSesA f).nvwp = b.nvwp := rfl
@[simp] theorem Blk.onSesA_rng (b : Blk) (f : Session → Session) : (b.onSesA f).rng = b.rng := rfl
@[simp] theorem Blk.onSesA_free (b : Blk) (f : Session → Session) : (b.onSesA f).free = b.free := rfl
@[simp] theorem Blk.onSesA_out (b : Blk) (f : Session → Session) : (b.onSesA f).out = b.out := rfl
@[simp] theorem Blk.onSesA_od (b : Blk) (f : Session → Session) : (b.onSesA f).od = b.od := rfl
@[simp] theorem Blk.onSesA_odOld (b : Blk) (f : Session → Session) : (b.onSesA f).odOld = b.odOld := rfl
@[simp] theorem Blk.onSesA_direct (b : Blk) (f : Session → Session) : (b.onSesA f).direct = b.direct := rfl
@[simp] theorem Blk.onSesA_regs (b : Blk) (f : Session → Session) : (b.onSesA f).regs = b.regs := rfl
@[simp] theorem Blk.onSesA_due (b : Blk) (f : Session → Session) : (b.onSesA f).due = b.due := rfl
@[simp] theorem Blk.onSesA_dueB (b : Blk) (f : Session → Session) : (b.onSesA f).dueB = b.dueB := rfl
@[simp] theorem Blk.onSesA_hA (b : Blk) (f : Session → Session) : (b.onSesA f).hA = b.hA := rfl
@[simp] theorem Blk.onSesA_hB (b : Blk) (f : Session → Session) : (b.onSesA f).hB = b.hB := rfl
@[simp] theorem Blk.onSesA_sesA (b : Blk) (f : Session → Session) : (b.onSesA f).sesA = f b.sesA := rfl
@[simp] theorem Blk.onSesA_sesB (b : Blk) (f : Session → Session) : (b.onSesA f).sesB = b.sesB := rfl
@[simp] theorem Blk.onSesA_sesC (b : Blk) (f : Session → Session) : (b.onSesA f).sesC = b.sesC := rfl
@[simp] theorem Blk.onSesA_muslin (b : Blk) (f : Session → Session) : (b.onSesA f).muslin = b.muslin := rfl
@[simp] theorem Blk.onSesA_can (b : Blk) (f : Session → Session) : (b.onSesA f).can = b.can := rfl
@[simp] theorem Blk.onSesA_dev (b : Blk) (f : Session → Session) : (b.onSesA f).dev = b.dev := rfl
@[simp] theorem Blk.onSesA_path (b : Blk) (f : Session → Session) : (b.onSesA f).path = b.path := rfl
@[simp] theorem Blk.onSesA_media (b : Blk) (f : Session → Session) : (b.onSesA f).media = b.media := rfl
@[simp] theorem Blk.onSesA_velvet (b : Blk) (f : Session → Session) : (b.onSesA f).velvet = b.velvet := rfl
@[simp] theorem Blk.onSesA_twill (b : Blk) (f : Session → Session) : (b.onSesA f).twill = b.twill := rfl
@[simp] theorem Blk.onSesA_gauze (b : Blk) (f : Session → Session) : (b.onSesA f).gauze = b.gauze := rfl
@[simp] theorem Blk.onSesA_damask (b : Blk) (f : Session → Session) : (b.onSesA f).damask = b.damask := rfl
@[simp] theorem Blk.onSesA_linen (b : Blk) (f : Session → Session) : (b.onSesA f).linen = b.linen := rfl
@[simp] theorem Blk.onSesA_felt (b : Blk) (f : Session → Session) : (b.onSesA f).felt = b.felt := rfl
@[simp] theorem Blk.onSesA_tweed (b : Blk) (f : Session → Session) : (b.onSesA f).tweed = b.tweed := rfl
@[simp] theorem Blk.onSesA_canvas (b : Blk) (f : Session → Session) : (b.onSesA f).canvas = b.canvas := rfl
@[simp] theorem Blk.onSesA_clocks (b : Blk) (f : Session → Session) : (b.onSesA f).clocks = b.clocks := rfl
@[simp] theorem Blk.onSesA_thermal (b : Blk) (f : Session → Session) : (b.onSesA f).thermal = b.thermal := rfl
@[simp] theorem Blk.onSesA_modes (b : Blk) (f : Session → Session) : (b.onSesA f).modes = b.modes := rfl
@[simp] theorem Blk.onSesA_safety (b : Blk) (f : Session → Session) : (b.onSesA f).safety = b.safety := rfl
@[simp] theorem Blk.onSesA_tap (b : Blk) (f : Session → Session) : (b.onSesA f).tap = b.tap := rfl

/-! ### onSesB -/

@[simp] theorem Blk.onSesB_now (b : Blk) (f : Session → Session) : (b.onSesB f).now = b.now := rfl
@[simp] theorem Blk.onSesB_opTime (b : Blk) (f : Session → Session) : (b.onSesB f).opTime = b.opTime := rfl
@[simp] theorem Blk.onSesB_nvwp (b : Blk) (f : Session → Session) : (b.onSesB f).nvwp = b.nvwp := rfl
@[simp] theorem Blk.onSesB_rng (b : Blk) (f : Session → Session) : (b.onSesB f).rng = b.rng := rfl
@[simp] theorem Blk.onSesB_free (b : Blk) (f : Session → Session) : (b.onSesB f).free = b.free := rfl
@[simp] theorem Blk.onSesB_out (b : Blk) (f : Session → Session) : (b.onSesB f).out = b.out := rfl
@[simp] theorem Blk.onSesB_od (b : Blk) (f : Session → Session) : (b.onSesB f).od = b.od := rfl
@[simp] theorem Blk.onSesB_odOld (b : Blk) (f : Session → Session) : (b.onSesB f).odOld = b.odOld := rfl
@[simp] theorem Blk.onSesB_direct (b : Blk) (f : Session → Session) : (b.onSesB f).direct = b.direct := rfl
@[simp] theorem Blk.onSesB_regs (b : Blk) (f : Session → Session) : (b.onSesB f).regs = b.regs := rfl
@[simp] theorem Blk.onSesB_due (b : Blk) (f : Session → Session) : (b.onSesB f).due = b.due := rfl
@[simp] theorem Blk.onSesB_dueB (b : Blk) (f : Session → Session) : (b.onSesB f).dueB = b.dueB := rfl
@[simp] theorem Blk.onSesB_hA (b : Blk) (f : Session → Session) : (b.onSesB f).hA = b.hA := rfl
@[simp] theorem Blk.onSesB_hB (b : Blk) (f : Session → Session) : (b.onSesB f).hB = b.hB := rfl
@[simp] theorem Blk.onSesB_sesA (b : Blk) (f : Session → Session) : (b.onSesB f).sesA = b.sesA := rfl
@[simp] theorem Blk.onSesB_sesB (b : Blk) (f : Session → Session) : (b.onSesB f).sesB = f b.sesB := rfl
@[simp] theorem Blk.onSesB_sesC (b : Blk) (f : Session → Session) : (b.onSesB f).sesC = b.sesC := rfl
@[simp] theorem Blk.onSesB_muslin (b : Blk) (f : Session → Session) : (b.onSesB f).muslin = b.muslin := rfl
@[simp] theorem Blk.onSesB_can (b : Blk) (f : Session → Session) : (b.onSesB f).can = b.can := rfl
@[simp] theorem Blk.onSesB_dev (b : Blk) (f : Session → Session) : (b.onSesB f).dev = b.dev := rfl
@[simp] theorem Blk.onSesB_path (b : Blk) (f : Session → Session) : (b.onSesB f).path = b.path := rfl
@[simp] theorem Blk.onSesB_media (b : Blk) (f : Session → Session) : (b.onSesB f).media = b.media := rfl
@[simp] theorem Blk.onSesB_velvet (b : Blk) (f : Session → Session) : (b.onSesB f).velvet = b.velvet := rfl
@[simp] theorem Blk.onSesB_twill (b : Blk) (f : Session → Session) : (b.onSesB f).twill = b.twill := rfl
@[simp] theorem Blk.onSesB_gauze (b : Blk) (f : Session → Session) : (b.onSesB f).gauze = b.gauze := rfl
@[simp] theorem Blk.onSesB_damask (b : Blk) (f : Session → Session) : (b.onSesB f).damask = b.damask := rfl
@[simp] theorem Blk.onSesB_linen (b : Blk) (f : Session → Session) : (b.onSesB f).linen = b.linen := rfl
@[simp] theorem Blk.onSesB_felt (b : Blk) (f : Session → Session) : (b.onSesB f).felt = b.felt := rfl
@[simp] theorem Blk.onSesB_tweed (b : Blk) (f : Session → Session) : (b.onSesB f).tweed = b.tweed := rfl
@[simp] theorem Blk.onSesB_canvas (b : Blk) (f : Session → Session) : (b.onSesB f).canvas = b.canvas := rfl
@[simp] theorem Blk.onSesB_clocks (b : Blk) (f : Session → Session) : (b.onSesB f).clocks = b.clocks := rfl
@[simp] theorem Blk.onSesB_thermal (b : Blk) (f : Session → Session) : (b.onSesB f).thermal = b.thermal := rfl
@[simp] theorem Blk.onSesB_modes (b : Blk) (f : Session → Session) : (b.onSesB f).modes = b.modes := rfl
@[simp] theorem Blk.onSesB_safety (b : Blk) (f : Session → Session) : (b.onSesB f).safety = b.safety := rfl
@[simp] theorem Blk.onSesB_tap (b : Blk) (f : Session → Session) : (b.onSesB f).tap = b.tap := rfl

/-! ### onSesC -/

@[simp] theorem Blk.onSesC_now (b : Blk) (f : Session → Session) : (b.onSesC f).now = b.now := rfl
@[simp] theorem Blk.onSesC_opTime (b : Blk) (f : Session → Session) : (b.onSesC f).opTime = b.opTime := rfl
@[simp] theorem Blk.onSesC_nvwp (b : Blk) (f : Session → Session) : (b.onSesC f).nvwp = b.nvwp := rfl
@[simp] theorem Blk.onSesC_rng (b : Blk) (f : Session → Session) : (b.onSesC f).rng = b.rng := rfl
@[simp] theorem Blk.onSesC_free (b : Blk) (f : Session → Session) : (b.onSesC f).free = b.free := rfl
@[simp] theorem Blk.onSesC_out (b : Blk) (f : Session → Session) : (b.onSesC f).out = b.out := rfl
@[simp] theorem Blk.onSesC_od (b : Blk) (f : Session → Session) : (b.onSesC f).od = b.od := rfl
@[simp] theorem Blk.onSesC_odOld (b : Blk) (f : Session → Session) : (b.onSesC f).odOld = b.odOld := rfl
@[simp] theorem Blk.onSesC_direct (b : Blk) (f : Session → Session) : (b.onSesC f).direct = b.direct := rfl
@[simp] theorem Blk.onSesC_regs (b : Blk) (f : Session → Session) : (b.onSesC f).regs = b.regs := rfl
@[simp] theorem Blk.onSesC_due (b : Blk) (f : Session → Session) : (b.onSesC f).due = b.due := rfl
@[simp] theorem Blk.onSesC_dueB (b : Blk) (f : Session → Session) : (b.onSesC f).dueB = b.dueB := rfl
@[simp] theorem Blk.onSesC_hA (b : Blk) (f : Session → Session) : (b.onSesC f).hA = b.hA := rfl
@[simp] theorem Blk.onSesC_hB (b : Blk) (f : Session → Session) : (b.onSesC f).hB = b.hB := rfl
@[simp] theorem Blk.onSesC_sesA (b : Blk) (f : Session → Session) : (b.onSesC f).sesA = b.sesA := rfl
@[simp] theorem Blk.onSesC_sesB (b : Blk) (f : Session → Session) : (b.onSesC f).sesB = b.sesB := rfl
@[simp] theorem Blk.onSesC_sesC (b : Blk) (f : Session → Session) : (b.onSesC f).sesC = f b.sesC := rfl
@[simp] theorem Blk.onSesC_muslin (b : Blk) (f : Session → Session) : (b.onSesC f).muslin = b.muslin := rfl
@[simp] theorem Blk.onSesC_can (b : Blk) (f : Session → Session) : (b.onSesC f).can = b.can := rfl
@[simp] theorem Blk.onSesC_dev (b : Blk) (f : Session → Session) : (b.onSesC f).dev = b.dev := rfl
@[simp] theorem Blk.onSesC_path (b : Blk) (f : Session → Session) : (b.onSesC f).path = b.path := rfl
@[simp] theorem Blk.onSesC_media (b : Blk) (f : Session → Session) : (b.onSesC f).media = b.media := rfl
@[simp] theorem Blk.onSesC_velvet (b : Blk) (f : Session → Session) : (b.onSesC f).velvet = b.velvet := rfl
@[simp] theorem Blk.onSesC_twill (b : Blk) (f : Session → Session) : (b.onSesC f).twill = b.twill := rfl
@[simp] theorem Blk.onSesC_gauze (b : Blk) (f : Session → Session) : (b.onSesC f).gauze = b.gauze := rfl
@[simp] theorem Blk.onSesC_damask (b : Blk) (f : Session → Session) : (b.onSesC f).damask = b.damask := rfl
@[simp] theorem Blk.onSesC_linen (b : Blk) (f : Session → Session) : (b.onSesC f).linen = b.linen := rfl
@[simp] theorem Blk.onSesC_felt (b : Blk) (f : Session → Session) : (b.onSesC f).felt = b.felt := rfl
@[simp] theorem Blk.onSesC_tweed (b : Blk) (f : Session → Session) : (b.onSesC f).tweed = b.tweed := rfl
@[simp] theorem Blk.onSesC_canvas (b : Blk) (f : Session → Session) : (b.onSesC f).canvas = b.canvas := rfl
@[simp] theorem Blk.onSesC_clocks (b : Blk) (f : Session → Session) : (b.onSesC f).clocks = b.clocks := rfl
@[simp] theorem Blk.onSesC_thermal (b : Blk) (f : Session → Session) : (b.onSesC f).thermal = b.thermal := rfl
@[simp] theorem Blk.onSesC_modes (b : Blk) (f : Session → Session) : (b.onSesC f).modes = b.modes := rfl
@[simp] theorem Blk.onSesC_safety (b : Blk) (f : Session → Session) : (b.onSesC f).safety = b.safety := rfl
@[simp] theorem Blk.onSesC_tap (b : Blk) (f : Session → Session) : (b.onSesC f).tap = b.tap := rfl

/-! ### onMuslin -/

@[simp] theorem Blk.onMuslin_now (b : Blk) (f : Muslin → Muslin) : (b.onMuslin f).now = b.now := rfl
@[simp] theorem Blk.onMuslin_opTime (b : Blk) (f : Muslin → Muslin) : (b.onMuslin f).opTime = b.opTime := rfl
@[simp] theorem Blk.onMuslin_nvwp (b : Blk) (f : Muslin → Muslin) : (b.onMuslin f).nvwp = b.nvwp := rfl
@[simp] theorem Blk.onMuslin_rng (b : Blk) (f : Muslin → Muslin) : (b.onMuslin f).rng = b.rng := rfl
@[simp] theorem Blk.onMuslin_free (b : Blk) (f : Muslin → Muslin) : (b.onMuslin f).free = b.free := rfl
@[simp] theorem Blk.onMuslin_out (b : Blk) (f : Muslin → Muslin) : (b.onMuslin f).out = b.out := rfl
@[simp] theorem Blk.onMuslin_od (b : Blk) (f : Muslin → Muslin) : (b.onMuslin f).od = b.od := rfl
@[simp] theorem Blk.onMuslin_odOld (b : Blk) (f : Muslin → Muslin) : (b.onMuslin f).odOld = b.odOld := rfl
@[simp] theorem Blk.onMuslin_direct (b : Blk) (f : Muslin → Muslin) : (b.onMuslin f).direct = b.direct := rfl
@[simp] theorem Blk.onMuslin_regs (b : Blk) (f : Muslin → Muslin) : (b.onMuslin f).regs = b.regs := rfl
@[simp] theorem Blk.onMuslin_due (b : Blk) (f : Muslin → Muslin) : (b.onMuslin f).due = b.due := rfl
@[simp] theorem Blk.onMuslin_dueB (b : Blk) (f : Muslin → Muslin) : (b.onMuslin f).dueB = b.dueB := rfl
@[simp] theorem Blk.onMuslin_hA (b : Blk) (f : Muslin → Muslin) : (b.onMuslin f).hA = b.hA := rfl
@[simp] theorem Blk.onMuslin_hB (b : Blk) (f : Muslin → Muslin) : (b.onMuslin f).hB = b.hB := rfl
@[simp] theorem Blk.onMuslin_sesA (b : Blk) (f : Muslin → Muslin) : (b.onMuslin f).sesA = b.sesA := rfl
@[simp] theorem Blk.onMuslin_sesB (b : Blk) (f : Muslin → Muslin) : (b.onMuslin f).sesB = b.sesB := rfl
@[simp] theorem Blk.onMuslin_sesC (b : Blk) (f : Muslin → Muslin) : (b.onMuslin f).sesC = b.sesC := rfl
@[simp] theorem Blk.onMuslin_muslin (b : Blk) (f : Muslin → Muslin) : (b.onMuslin f).muslin = f b.muslin := rfl
@[simp] theorem Blk.onMuslin_can (b : Blk) (f : Muslin → Muslin) : (b.onMuslin f).can = b.can := rfl
@[simp] theorem Blk.onMuslin_dev (b : Blk) (f : Muslin → Muslin) : (b.onMuslin f).dev = b.dev := rfl
@[simp] theorem Blk.onMuslin_path (b : Blk) (f : Muslin → Muslin) : (b.onMuslin f).path = b.path := rfl
@[simp] theorem Blk.onMuslin_media (b : Blk) (f : Muslin → Muslin) : (b.onMuslin f).media = b.media := rfl
@[simp] theorem Blk.onMuslin_velvet (b : Blk) (f : Muslin → Muslin) : (b.onMuslin f).velvet = b.velvet := rfl
@[simp] theorem Blk.onMuslin_twill (b : Blk) (f : Muslin → Muslin) : (b.onMuslin f).twill = b.twill := rfl
@[simp] theorem Blk.onMuslin_gauze (b : Blk) (f : Muslin → Muslin) : (b.onMuslin f).gauze = b.gauze := rfl
@[simp] theorem Blk.onMuslin_damask (b : Blk) (f : Muslin → Muslin) : (b.onMuslin f).damask = b.damask := rfl
@[simp] theorem Blk.onMuslin_linen (b : Blk) (f : Muslin → Muslin) : (b.onMuslin f).linen = b.linen := rfl
@[simp] theorem Blk.onMuslin_felt (b : Blk) (f : Muslin → Muslin) : (b.onMuslin f).felt = b.felt := rfl
@[simp] theorem Blk.onMuslin_tweed (b : Blk) (f : Muslin → Muslin) : (b.onMuslin f).tweed = b.tweed := rfl
@[simp] theorem Blk.onMuslin_canvas (b : Blk) (f : Muslin → Muslin) : (b.onMuslin f).canvas = b.canvas := rfl
@[simp] theorem Blk.onMuslin_clocks (b : Blk) (f : Muslin → Muslin) : (b.onMuslin f).clocks = b.clocks := rfl
@[simp] theorem Blk.onMuslin_thermal (b : Blk) (f : Muslin → Muslin) : (b.onMuslin f).thermal = b.thermal := rfl
@[simp] theorem Blk.onMuslin_modes (b : Blk) (f : Muslin → Muslin) : (b.onMuslin f).modes = b.modes := rfl
@[simp] theorem Blk.onMuslin_safety (b : Blk) (f : Muslin → Muslin) : (b.onMuslin f).safety = b.safety := rfl
@[simp] theorem Blk.onMuslin_tap (b : Blk) (f : Muslin → Muslin) : (b.onMuslin f).tap = b.tap := rfl

/-! ### onCan -/

@[simp] theorem Blk.onCan_now (b : Blk) (f : Can → Can) : (b.onCan f).now = b.now := rfl
@[simp] theorem Blk.onCan_opTime (b : Blk) (f : Can → Can) : (b.onCan f).opTime = b.opTime := rfl
@[simp] theorem Blk.onCan_nvwp (b : Blk) (f : Can → Can) : (b.onCan f).nvwp = b.nvwp := rfl
@[simp] theorem Blk.onCan_rng (b : Blk) (f : Can → Can) : (b.onCan f).rng = b.rng := rfl
@[simp] theorem Blk.onCan_free (b : Blk) (f : Can → Can) : (b.onCan f).free = b.free := rfl
@[simp] theorem Blk.onCan_out (b : Blk) (f : Can → Can) : (b.onCan f).out = b.out := rfl
@[simp] theorem Blk.onCan_od (b : Blk) (f : Can → Can) : (b.onCan f).od = b.od := rfl
@[simp] theorem Blk.onCan_odOld (b : Blk) (f : Can → Can) : (b.onCan f).odOld = b.odOld := rfl
@[simp] theorem Blk.onCan_direct (b : Blk) (f : Can → Can) : (b.onCan f).direct = b.direct := rfl
@[simp] theorem Blk.onCan_regs (b : Blk) (f : Can → Can) : (b.onCan f).regs = b.regs := rfl
@[simp] theorem Blk.onCan_due (b : Blk) (f : Can → Can) : (b.onCan f).due = b.due := rfl
@[simp] theorem Blk.onCan_dueB (b : Blk) (f : Can → Can) : (b.onCan f).dueB = b.dueB := rfl
@[simp] theorem Blk.onCan_hA (b : Blk) (f : Can → Can) : (b.onCan f).hA = b.hA := rfl
@[simp] theorem Blk.onCan_hB (b : Blk) (f : Can → Can) : (b.onCan f).hB = b.hB := rfl
@[simp] theorem Blk.onCan_sesA (b : Blk) (f : Can → Can) : (b.onCan f).sesA = b.sesA := rfl
@[simp] theorem Blk.onCan_sesB (b : Blk) (f : Can → Can) : (b.onCan f).sesB = b.sesB := rfl
@[simp] theorem Blk.onCan_sesC (b : Blk) (f : Can → Can) : (b.onCan f).sesC = b.sesC := rfl
@[simp] theorem Blk.onCan_muslin (b : Blk) (f : Can → Can) : (b.onCan f).muslin = b.muslin := rfl
@[simp] theorem Blk.onCan_can (b : Blk) (f : Can → Can) : (b.onCan f).can = f b.can := rfl
@[simp] theorem Blk.onCan_dev (b : Blk) (f : Can → Can) : (b.onCan f).dev = b.dev := rfl
@[simp] theorem Blk.onCan_path (b : Blk) (f : Can → Can) : (b.onCan f).path = b.path := rfl
@[simp] theorem Blk.onCan_media (b : Blk) (f : Can → Can) : (b.onCan f).media = b.media := rfl
@[simp] theorem Blk.onCan_velvet (b : Blk) (f : Can → Can) : (b.onCan f).velvet = b.velvet := rfl
@[simp] theorem Blk.onCan_twill (b : Blk) (f : Can → Can) : (b.onCan f).twill = b.twill := rfl
@[simp] theorem Blk.onCan_gauze (b : Blk) (f : Can → Can) : (b.onCan f).gauze = b.gauze := rfl
@[simp] theorem Blk.onCan_damask (b : Blk) (f : Can → Can) : (b.onCan f).damask = b.damask := rfl
@[simp] theorem Blk.onCan_linen (b : Blk) (f : Can → Can) : (b.onCan f).linen = b.linen := rfl
@[simp] theorem Blk.onCan_felt (b : Blk) (f : Can → Can) : (b.onCan f).felt = b.felt := rfl
@[simp] theorem Blk.onCan_tweed (b : Blk) (f : Can → Can) : (b.onCan f).tweed = b.tweed := rfl
@[simp] theorem Blk.onCan_canvas (b : Blk) (f : Can → Can) : (b.onCan f).canvas = b.canvas := rfl
@[simp] theorem Blk.onCan_clocks (b : Blk) (f : Can → Can) : (b.onCan f).clocks = b.clocks := rfl
@[simp] theorem Blk.onCan_thermal (b : Blk) (f : Can → Can) : (b.onCan f).thermal = b.thermal := rfl
@[simp] theorem Blk.onCan_modes (b : Blk) (f : Can → Can) : (b.onCan f).modes = b.modes := rfl
@[simp] theorem Blk.onCan_safety (b : Blk) (f : Can → Can) : (b.onCan f).safety = b.safety := rfl
@[simp] theorem Blk.onCan_tap (b : Blk) (f : Can → Can) : (b.onCan f).tap = b.tap := rfl

/-! ### onDev -/

@[simp] theorem Blk.onDev_now (b : Blk) (f : Device → Device) : (b.onDev f).now = b.now := rfl
@[simp] theorem Blk.onDev_opTime (b : Blk) (f : Device → Device) : (b.onDev f).opTime = b.opTime := rfl
@[simp] theorem Blk.onDev_nvwp (b : Blk) (f : Device → Device) : (b.onDev f).nvwp = b.nvwp := rfl
@[simp] theorem Blk.onDev_rng (b : Blk) (f : Device → Device) : (b.onDev f).rng = b.rng := rfl
@[simp] theorem Blk.onDev_free (b : Blk) (f : Device → Device) : (b.onDev f).free = b.free := rfl
@[simp] theorem Blk.onDev_out (b : Blk) (f : Device → Device) : (b.onDev f).out = b.out := rfl
@[simp] theorem Blk.onDev_od (b : Blk) (f : Device → Device) : (b.onDev f).od = b.od := rfl
@[simp] theorem Blk.onDev_odOld (b : Blk) (f : Device → Device) : (b.onDev f).odOld = b.odOld := rfl
@[simp] theorem Blk.onDev_direct (b : Blk) (f : Device → Device) : (b.onDev f).direct = b.direct := rfl
@[simp] theorem Blk.onDev_regs (b : Blk) (f : Device → Device) : (b.onDev f).regs = b.regs := rfl
@[simp] theorem Blk.onDev_due (b : Blk) (f : Device → Device) : (b.onDev f).due = b.due := rfl
@[simp] theorem Blk.onDev_dueB (b : Blk) (f : Device → Device) : (b.onDev f).dueB = b.dueB := rfl
@[simp] theorem Blk.onDev_hA (b : Blk) (f : Device → Device) : (b.onDev f).hA = b.hA := rfl
@[simp] theorem Blk.onDev_hB (b : Blk) (f : Device → Device) : (b.onDev f).hB = b.hB := rfl
@[simp] theorem Blk.onDev_sesA (b : Blk) (f : Device → Device) : (b.onDev f).sesA = b.sesA := rfl
@[simp] theorem Blk.onDev_sesB (b : Blk) (f : Device → Device) : (b.onDev f).sesB = b.sesB := rfl
@[simp] theorem Blk.onDev_sesC (b : Blk) (f : Device → Device) : (b.onDev f).sesC = b.sesC := rfl
@[simp] theorem Blk.onDev_muslin (b : Blk) (f : Device → Device) : (b.onDev f).muslin = b.muslin := rfl
@[simp] theorem Blk.onDev_can (b : Blk) (f : Device → Device) : (b.onDev f).can = b.can := rfl
@[simp] theorem Blk.onDev_dev (b : Blk) (f : Device → Device) : (b.onDev f).dev = f b.dev := rfl
@[simp] theorem Blk.onDev_path (b : Blk) (f : Device → Device) : (b.onDev f).path = b.path := rfl
@[simp] theorem Blk.onDev_media (b : Blk) (f : Device → Device) : (b.onDev f).media = b.media := rfl
@[simp] theorem Blk.onDev_velvet (b : Blk) (f : Device → Device) : (b.onDev f).velvet = b.velvet := rfl
@[simp] theorem Blk.onDev_twill (b : Blk) (f : Device → Device) : (b.onDev f).twill = b.twill := rfl
@[simp] theorem Blk.onDev_gauze (b : Blk) (f : Device → Device) : (b.onDev f).gauze = b.gauze := rfl
@[simp] theorem Blk.onDev_damask (b : Blk) (f : Device → Device) : (b.onDev f).damask = b.damask := rfl
@[simp] theorem Blk.onDev_linen (b : Blk) (f : Device → Device) : (b.onDev f).linen = b.linen := rfl
@[simp] theorem Blk.onDev_felt (b : Blk) (f : Device → Device) : (b.onDev f).felt = b.felt := rfl
@[simp] theorem Blk.onDev_tweed (b : Blk) (f : Device → Device) : (b.onDev f).tweed = b.tweed := rfl
@[simp] theorem Blk.onDev_canvas (b : Blk) (f : Device → Device) : (b.onDev f).canvas = b.canvas := rfl
@[simp] theorem Blk.onDev_clocks (b : Blk) (f : Device → Device) : (b.onDev f).clocks = b.clocks := rfl
@[simp] theorem Blk.onDev_thermal (b : Blk) (f : Device → Device) : (b.onDev f).thermal = b.thermal := rfl
@[simp] theorem Blk.onDev_modes (b : Blk) (f : Device → Device) : (b.onDev f).modes = b.modes := rfl
@[simp] theorem Blk.onDev_safety (b : Blk) (f : Device → Device) : (b.onDev f).safety = b.safety := rfl
@[simp] theorem Blk.onDev_tap (b : Blk) (f : Device → Device) : (b.onDev f).tap = b.tap := rfl

/-! ### onPath -/

@[simp] theorem Blk.onPath_now (b : Blk) (f : Path → Path) : (b.onPath f).now = b.now := rfl
@[simp] theorem Blk.onPath_opTime (b : Blk) (f : Path → Path) : (b.onPath f).opTime = b.opTime := rfl
@[simp] theorem Blk.onPath_nvwp (b : Blk) (f : Path → Path) : (b.onPath f).nvwp = b.nvwp := rfl
@[simp] theorem Blk.onPath_rng (b : Blk) (f : Path → Path) : (b.onPath f).rng = b.rng := rfl
@[simp] theorem Blk.onPath_free (b : Blk) (f : Path → Path) : (b.onPath f).free = b.free := rfl
@[simp] theorem Blk.onPath_out (b : Blk) (f : Path → Path) : (b.onPath f).out = b.out := rfl
@[simp] theorem Blk.onPath_od (b : Blk) (f : Path → Path) : (b.onPath f).od = b.od := rfl
@[simp] theorem Blk.onPath_odOld (b : Blk) (f : Path → Path) : (b.onPath f).odOld = b.odOld := rfl
@[simp] theorem Blk.onPath_direct (b : Blk) (f : Path → Path) : (b.onPath f).direct = b.direct := rfl
@[simp] theorem Blk.onPath_regs (b : Blk) (f : Path → Path) : (b.onPath f).regs = b.regs := rfl
@[simp] theorem Blk.onPath_due (b : Blk) (f : Path → Path) : (b.onPath f).due = b.due := rfl
@[simp] theorem Blk.onPath_dueB (b : Blk) (f : Path → Path) : (b.onPath f).dueB = b.dueB := rfl
@[simp] theorem Blk.onPath_hA (b : Blk) (f : Path → Path) : (b.onPath f).hA = b.hA := rfl
@[simp] theorem Blk.onPath_hB (b : Blk) (f : Path → Path) : (b.onPath f).hB = b.hB := rfl
@[simp] theorem Blk.onPath_sesA (b : Blk) (f : Path → Path) : (b.onPath f).sesA = b.sesA := rfl
@[simp] theorem Blk.onPath_sesB (b : Blk) (f : Path → Path) : (b.onPath f).sesB = b.sesB := rfl
@[simp] theorem Blk.onPath_sesC (b : Blk) (f : Path → Path) : (b.onPath f).sesC = b.sesC := rfl
@[simp] theorem Blk.onPath_muslin (b : Blk) (f : Path → Path) : (b.onPath f).muslin = b.muslin := rfl
@[simp] theorem Blk.onPath_can (b : Blk) (f : Path → Path) : (b.onPath f).can = b.can := rfl
@[simp] theorem Blk.onPath_dev (b : Blk) (f : Path → Path) : (b.onPath f).dev = b.dev := rfl
@[simp] theorem Blk.onPath_path (b : Blk) (f : Path → Path) : (b.onPath f).path = f b.path := rfl
@[simp] theorem Blk.onPath_media (b : Blk) (f : Path → Path) : (b.onPath f).media = b.media := rfl
@[simp] theorem Blk.onPath_velvet (b : Blk) (f : Path → Path) : (b.onPath f).velvet = b.velvet := rfl
@[simp] theorem Blk.onPath_twill (b : Blk) (f : Path → Path) : (b.onPath f).twill = b.twill := rfl
@[simp] theorem Blk.onPath_gauze (b : Blk) (f : Path → Path) : (b.onPath f).gauze = b.gauze := rfl
@[simp] theorem Blk.onPath_damask (b : Blk) (f : Path → Path) : (b.onPath f).damask = b.damask := rfl
@[simp] theorem Blk.onPath_linen (b : Blk) (f : Path → Path) : (b.onPath f).linen = b.linen := rfl
@[simp] theorem Blk.onPath_felt (b : Blk) (f : Path → Path) : (b.onPath f).felt = b.felt := rfl
@[simp] theorem Blk.onPath_tweed (b : Blk) (f : Path → Path) : (b.onPath f).tweed = b.tweed := rfl
@[simp] theorem Blk.onPath_canvas (b : Blk) (f : Path → Path) : (b.onPath f).canvas = b.canvas := rfl
@[simp] theorem Blk.onPath_clocks (b : Blk) (f : Path → Path) : (b.onPath f).clocks = b.clocks := rfl
@[simp] theorem Blk.onPath_thermal (b : Blk) (f : Path → Path) : (b.onPath f).thermal = b.thermal := rfl
@[simp] theorem Blk.onPath_modes (b : Blk) (f : Path → Path) : (b.onPath f).modes = b.modes := rfl
@[simp] theorem Blk.onPath_safety (b : Blk) (f : Path → Path) : (b.onPath f).safety = b.safety := rfl
@[simp] theorem Blk.onPath_tap (b : Blk) (f : Path → Path) : (b.onPath f).tap = b.tap := rfl

/-! ### onMedia -/

@[simp] theorem Blk.onMedia_now (b : Blk) (f : Media → Media) : (b.onMedia f).now = b.now := rfl
@[simp] theorem Blk.onMedia_opTime (b : Blk) (f : Media → Media) : (b.onMedia f).opTime = b.opTime := rfl
@[simp] theorem Blk.onMedia_nvwp (b : Blk) (f : Media → Media) : (b.onMedia f).nvwp = b.nvwp := rfl
@[simp] theorem Blk.onMedia_rng (b : Blk) (f : Media → Media) : (b.onMedia f).rng = b.rng := rfl
@[simp] theorem Blk.onMedia_free (b : Blk) (f : Media → Media) : (b.onMedia f).free = b.free := rfl
@[simp] theorem Blk.onMedia_out (b : Blk) (f : Media → Media) : (b.onMedia f).out = b.out := rfl
@[simp] theorem Blk.onMedia_od (b : Blk) (f : Media → Media) : (b.onMedia f).od = b.od := rfl
@[simp] theorem Blk.onMedia_odOld (b : Blk) (f : Media → Media) : (b.onMedia f).odOld = b.odOld := rfl
@[simp] theorem Blk.onMedia_direct (b : Blk) (f : Media → Media) : (b.onMedia f).direct = b.direct := rfl
@[simp] theorem Blk.onMedia_regs (b : Blk) (f : Media → Media) : (b.onMedia f).regs = b.regs := rfl
@[simp] theorem Blk.onMedia_due (b : Blk) (f : Media → Media) : (b.onMedia f).due = b.due := rfl
@[simp] theorem Blk.onMedia_dueB (b : Blk) (f : Media → Media) : (b.onMedia f).dueB = b.dueB := rfl
@[simp] theorem Blk.onMedia_hA (b : Blk) (f : Media → Media) : (b.onMedia f).hA = b.hA := rfl
@[simp] theorem Blk.onMedia_hB (b : Blk) (f : Media → Media) : (b.onMedia f).hB = b.hB := rfl
@[simp] theorem Blk.onMedia_sesA (b : Blk) (f : Media → Media) : (b.onMedia f).sesA = b.sesA := rfl
@[simp] theorem Blk.onMedia_sesB (b : Blk) (f : Media → Media) : (b.onMedia f).sesB = b.sesB := rfl
@[simp] theorem Blk.onMedia_sesC (b : Blk) (f : Media → Media) : (b.onMedia f).sesC = b.sesC := rfl
@[simp] theorem Blk.onMedia_muslin (b : Blk) (f : Media → Media) : (b.onMedia f).muslin = b.muslin := rfl
@[simp] theorem Blk.onMedia_can (b : Blk) (f : Media → Media) : (b.onMedia f).can = b.can := rfl
@[simp] theorem Blk.onMedia_dev (b : Blk) (f : Media → Media) : (b.onMedia f).dev = b.dev := rfl
@[simp] theorem Blk.onMedia_path (b : Blk) (f : Media → Media) : (b.onMedia f).path = b.path := rfl
@[simp] theorem Blk.onMedia_media (b : Blk) (f : Media → Media) : (b.onMedia f).media = f b.media := rfl
@[simp] theorem Blk.onMedia_velvet (b : Blk) (f : Media → Media) : (b.onMedia f).velvet = b.velvet := rfl
@[simp] theorem Blk.onMedia_twill (b : Blk) (f : Media → Media) : (b.onMedia f).twill = b.twill := rfl
@[simp] theorem Blk.onMedia_gauze (b : Blk) (f : Media → Media) : (b.onMedia f).gauze = b.gauze := rfl
@[simp] theorem Blk.onMedia_damask (b : Blk) (f : Media → Media) : (b.onMedia f).damask = b.damask := rfl
@[simp] theorem Blk.onMedia_linen (b : Blk) (f : Media → Media) : (b.onMedia f).linen = b.linen := rfl
@[simp] theorem Blk.onMedia_felt (b : Blk) (f : Media → Media) : (b.onMedia f).felt = b.felt := rfl
@[simp] theorem Blk.onMedia_tweed (b : Blk) (f : Media → Media) : (b.onMedia f).tweed = b.tweed := rfl
@[simp] theorem Blk.onMedia_canvas (b : Blk) (f : Media → Media) : (b.onMedia f).canvas = b.canvas := rfl
@[simp] theorem Blk.onMedia_clocks (b : Blk) (f : Media → Media) : (b.onMedia f).clocks = b.clocks := rfl
@[simp] theorem Blk.onMedia_thermal (b : Blk) (f : Media → Media) : (b.onMedia f).thermal = b.thermal := rfl
@[simp] theorem Blk.onMedia_modes (b : Blk) (f : Media → Media) : (b.onMedia f).modes = b.modes := rfl
@[simp] theorem Blk.onMedia_safety (b : Blk) (f : Media → Media) : (b.onMedia f).safety = b.safety := rfl
@[simp] theorem Blk.onMedia_tap (b : Blk) (f : Media → Media) : (b.onMedia f).tap = b.tap := rfl

/-! ### onVelvet -/

@[simp] theorem Blk.onVelvet_now (b : Blk) (f : Velvet → Velvet) : (b.onVelvet f).now = b.now := rfl
@[simp] theorem Blk.onVelvet_opTime (b : Blk) (f : Velvet → Velvet) : (b.onVelvet f).opTime = b.opTime := rfl
@[simp] theorem Blk.onVelvet_nvwp (b : Blk) (f : Velvet → Velvet) : (b.onVelvet f).nvwp = b.nvwp := rfl
@[simp] theorem Blk.onVelvet_rng (b : Blk) (f : Velvet → Velvet) : (b.onVelvet f).rng = b.rng := rfl
@[simp] theorem Blk.onVelvet_free (b : Blk) (f : Velvet → Velvet) : (b.onVelvet f).free = b.free := rfl
@[simp] theorem Blk.onVelvet_out (b : Blk) (f : Velvet → Velvet) : (b.onVelvet f).out = b.out := rfl
@[simp] theorem Blk.onVelvet_od (b : Blk) (f : Velvet → Velvet) : (b.onVelvet f).od = b.od := rfl
@[simp] theorem Blk.onVelvet_odOld (b : Blk) (f : Velvet → Velvet) : (b.onVelvet f).odOld = b.odOld := rfl
@[simp] theorem Blk.onVelvet_direct (b : Blk) (f : Velvet → Velvet) : (b.onVelvet f).direct = b.direct := rfl
@[simp] theorem Blk.onVelvet_regs (b : Blk) (f : Velvet → Velvet) : (b.onVelvet f).regs = b.regs := rfl
@[simp] theorem Blk.onVelvet_due (b : Blk) (f : Velvet → Velvet) : (b.onVelvet f).due = b.due := rfl
@[simp] theorem Blk.onVelvet_dueB (b : Blk) (f : Velvet → Velvet) : (b.onVelvet f).dueB = b.dueB := rfl
@[simp] theorem Blk.onVelvet_hA (b : Blk) (f : Velvet → Velvet) : (b.onVelvet f).hA = b.hA := rfl
@[simp] theorem Blk.onVelvet_hB (b : Blk) (f : Velvet → Velvet) : (b.onVelvet f).hB = b.hB := rfl
@[simp] theorem Blk.onVelvet_sesA (b : Blk) (f : Velvet → Velvet) : (b.onVelvet f).sesA = b.sesA := rfl
@[simp] theorem Blk.onVelvet_sesB (b : Blk) (f : Velvet → Velvet) : (b.onVelvet f).sesB = b.sesB := rfl
@[simp] theorem Blk.onVelvet_sesC (b : Blk) (f : Velvet → Velvet) : (b.onVelvet f).sesC = b.sesC := rfl
@[simp] theorem Blk.onVelvet_muslin (b : Blk) (f : Velvet → Velvet) : (b.onVelvet f).muslin = b.muslin := rfl
@[simp] theorem Blk.onVelvet_can (b : Blk) (f : Velvet → Velvet) : (b.onVelvet f).can = b.can := rfl
@[simp] theorem Blk.onVelvet_dev (b : Blk) (f : Velvet → Velvet) : (b.onVelvet f).dev = b.dev := rfl
@[simp] theorem Blk.onVelvet_path (b : Blk) (f : Velvet → Velvet) : (b.onVelvet f).path = b.path := rfl
@[simp] theorem Blk.onVelvet_media (b : Blk) (f : Velvet → Velvet) : (b.onVelvet f).media = b.media := rfl
@[simp] theorem Blk.onVelvet_velvet (b : Blk) (f : Velvet → Velvet) : (b.onVelvet f).velvet = f b.velvet := rfl
@[simp] theorem Blk.onVelvet_twill (b : Blk) (f : Velvet → Velvet) : (b.onVelvet f).twill = b.twill := rfl
@[simp] theorem Blk.onVelvet_gauze (b : Blk) (f : Velvet → Velvet) : (b.onVelvet f).gauze = b.gauze := rfl
@[simp] theorem Blk.onVelvet_damask (b : Blk) (f : Velvet → Velvet) : (b.onVelvet f).damask = b.damask := rfl
@[simp] theorem Blk.onVelvet_linen (b : Blk) (f : Velvet → Velvet) : (b.onVelvet f).linen = b.linen := rfl
@[simp] theorem Blk.onVelvet_felt (b : Blk) (f : Velvet → Velvet) : (b.onVelvet f).felt = b.felt := rfl
@[simp] theorem Blk.onVelvet_tweed (b : Blk) (f : Velvet → Velvet) : (b.onVelvet f).tweed = b.tweed := rfl
@[simp] theorem Blk.onVelvet_canvas (b : Blk) (f : Velvet → Velvet) : (b.onVelvet f).canvas = b.canvas := rfl
@[simp] theorem Blk.onVelvet_clocks (b : Blk) (f : Velvet → Velvet) : (b.onVelvet f).clocks = b.clocks := rfl
@[simp] theorem Blk.onVelvet_thermal (b : Blk) (f : Velvet → Velvet) : (b.onVelvet f).thermal = b.thermal := rfl
@[simp] theorem Blk.onVelvet_modes (b : Blk) (f : Velvet → Velvet) : (b.onVelvet f).modes = b.modes := rfl
@[simp] theorem Blk.onVelvet_safety (b : Blk) (f : Velvet → Velvet) : (b.onVelvet f).safety = b.safety := rfl
@[simp] theorem Blk.onVelvet_tap (b : Blk) (f : Velvet → Velvet) : (b.onVelvet f).tap = b.tap := rfl

/-! ### onTwill -/

@[simp] theorem Blk.onTwill_now (b : Blk) (f : Twill → Twill) : (b.onTwill f).now = b.now := rfl
@[simp] theorem Blk.onTwill_opTime (b : Blk) (f : Twill → Twill) : (b.onTwill f).opTime = b.opTime := rfl
@[simp] theorem Blk.onTwill_nvwp (b : Blk) (f : Twill → Twill) : (b.onTwill f).nvwp = b.nvwp := rfl
@[simp] theorem Blk.onTwill_rng (b : Blk) (f : Twill → Twill) : (b.onTwill f).rng = b.rng := rfl
@[simp] theorem Blk.onTwill_free (b : Blk) (f : Twill → Twill) : (b.onTwill f).free = b.free := rfl
@[simp] theorem Blk.onTwill_out (b : Blk) (f : Twill → Twill) : (b.onTwill f).out = b.out := rfl
@[simp] theorem Blk.onTwill_od (b : Blk) (f : Twill → Twill) : (b.onTwill f).od = b.od := rfl
@[simp] theorem Blk.onTwill_odOld (b : Blk) (f : Twill → Twill) : (b.onTwill f).odOld = b.odOld := rfl
@[simp] theorem Blk.onTwill_direct (b : Blk) (f : Twill → Twill) : (b.onTwill f).direct = b.direct := rfl
@[simp] theorem Blk.onTwill_regs (b : Blk) (f : Twill → Twill) : (b.onTwill f).regs = b.regs := rfl
@[simp] theorem Blk.onTwill_due (b : Blk) (f : Twill → Twill) : (b.onTwill f).due = b.due := rfl
@[simp] theorem Blk.onTwill_dueB (b : Blk) (f : Twill → Twill) : (b.onTwill f).dueB = b.dueB := rfl
@[simp] theorem Blk.onTwill_hA (b : Blk) (f : Twill → Twill) : (b.onTwill f).hA = b.hA := rfl
@[simp] theorem Blk.onTwill_hB (b : Blk) (f : Twill → Twill) : (b.onTwill f).hB = b.hB := rfl
@[simp] theorem Blk.onTwill_sesA (b : Blk) (f : Twill → Twill) : (b.onTwill f).sesA = b.sesA := rfl
@[simp] theorem Blk.onTwill_sesB (b : Blk) (f : Twill → Twill) : (b.onTwill f).sesB = b.sesB := rfl
@[simp] theorem Blk.onTwill_sesC (b : Blk) (f : Twill → Twill) : (b.onTwill f).sesC = b.sesC := rfl
@[simp] theorem Blk.onTwill_muslin (b : Blk) (f : Twill → Twill) : (b.onTwill f).muslin = b.muslin := rfl
@[simp] theorem Blk.onTwill_can (b : Blk) (f : Twill → Twill) : (b.onTwill f).can = b.can := rfl
@[simp] theorem Blk.onTwill_dev (b : Blk) (f : Twill → Twill) : (b.onTwill f).dev = b.dev := rfl
@[simp] theorem Blk.onTwill_path (b : Blk) (f : Twill → Twill) : (b.onTwill f).path = b.path := rfl
@[simp] theorem Blk.onTwill_media (b : Blk) (f : Twill → Twill) : (b.onTwill f).media = b.media := rfl
@[simp] theorem Blk.onTwill_velvet (b : Blk) (f : Twill → Twill) : (b.onTwill f).velvet = b.velvet := rfl
@[simp] theorem Blk.onTwill_twill (b : Blk) (f : Twill → Twill) : (b.onTwill f).twill = f b.twill := rfl
@[simp] theorem Blk.onTwill_gauze (b : Blk) (f : Twill → Twill) : (b.onTwill f).gauze = b.gauze := rfl
@[simp] theorem Blk.onTwill_damask (b : Blk) (f : Twill → Twill) : (b.onTwill f).damask = b.damask := rfl
@[simp] theorem Blk.onTwill_linen (b : Blk) (f : Twill → Twill) : (b.onTwill f).linen = b.linen := rfl
@[simp] theorem Blk.onTwill_felt (b : Blk) (f : Twill → Twill) : (b.onTwill f).felt = b.felt := rfl
@[simp] theorem Blk.onTwill_tweed (b : Blk) (f : Twill → Twill) : (b.onTwill f).tweed = b.tweed := rfl
@[simp] theorem Blk.onTwill_canvas (b : Blk) (f : Twill → Twill) : (b.onTwill f).canvas = b.canvas := rfl
@[simp] theorem Blk.onTwill_clocks (b : Blk) (f : Twill → Twill) : (b.onTwill f).clocks = b.clocks := rfl
@[simp] theorem Blk.onTwill_thermal (b : Blk) (f : Twill → Twill) : (b.onTwill f).thermal = b.thermal := rfl
@[simp] theorem Blk.onTwill_modes (b : Blk) (f : Twill → Twill) : (b.onTwill f).modes = b.modes := rfl
@[simp] theorem Blk.onTwill_safety (b : Blk) (f : Twill → Twill) : (b.onTwill f).safety = b.safety := rfl
@[simp] theorem Blk.onTwill_tap (b : Blk) (f : Twill → Twill) : (b.onTwill f).tap = b.tap := rfl

/-! ### onGauze -/

@[simp] theorem Blk.onGauze_now (b : Blk) (f : Gauze → Gauze) : (b.onGauze f).now = b.now := rfl
@[simp] theorem Blk.onGauze_opTime (b : Blk) (f : Gauze → Gauze) : (b.onGauze f).opTime = b.opTime := rfl
@[simp] theorem Blk.onGauze_nvwp (b : Blk) (f : Gauze → Gauze) : (b.onGauze f).nvwp = b.nvwp := rfl
@[simp] theorem Blk.onGauze_rng (b : Blk) (f : Gauze → Gauze) : (b.onGauze f).rng = b.rng := rfl
@[simp] theorem Blk.onGauze_free (b : Blk) (f : Gauze → Gauze) : (b.onGauze f).free = b.free := rfl
@[simp] theorem Blk.onGauze_out (b : Blk) (f : Gauze → Gauze) : (b.onGauze f).out = b.out := rfl
@[simp] theorem Blk.onGauze_od (b : Blk) (f : Gauze → Gauze) : (b.onGauze f).od = b.od := rfl
@[simp] theorem Blk.onGauze_odOld (b : Blk) (f : Gauze → Gauze) : (b.onGauze f).odOld = b.odOld := rfl
@[simp] theorem Blk.onGauze_direct (b : Blk) (f : Gauze → Gauze) : (b.onGauze f).direct = b.direct := rfl
@[simp] theorem Blk.onGauze_regs (b : Blk) (f : Gauze → Gauze) : (b.onGauze f).regs = b.regs := rfl
@[simp] theorem Blk.onGauze_due (b : Blk) (f : Gauze → Gauze) : (b.onGauze f).due = b.due := rfl
@[simp] theorem Blk.onGauze_dueB (b : Blk) (f : Gauze → Gauze) : (b.onGauze f).dueB = b.dueB := rfl
@[simp] theorem Blk.onGauze_hA (b : Blk) (f : Gauze → Gauze) : (b.onGauze f).hA = b.hA := rfl
@[simp] theorem Blk.onGauze_hB (b : Blk) (f : Gauze → Gauze) : (b.onGauze f).hB = b.hB := rfl
@[simp] theorem Blk.onGauze_sesA (b : Blk) (f : Gauze → Gauze) : (b.onGauze f).sesA = b.sesA := rfl
@[simp] theorem Blk.onGauze_sesB (b : Blk) (f : Gauze → Gauze) : (b.onGauze f).sesB = b.sesB := rfl
@[simp] theorem Blk.onGauze_sesC (b : Blk) (f : Gauze → Gauze) : (b.onGauze f).sesC = b.sesC := rfl
@[simp] theorem Blk.onGauze_muslin (b : Blk) (f : Gauze → Gauze) : (b.onGauze f).muslin = b.muslin := rfl
@[simp] theorem Blk.onGauze_can (b : Blk) (f : Gauze → Gauze) : (b.onGauze f).can = b.can := rfl
@[simp] theorem Blk.onGauze_dev (b : Blk) (f : Gauze → Gauze) : (b.onGauze f).dev = b.dev := rfl
@[simp] theorem Blk.onGauze_path (b : Blk) (f : Gauze → Gauze) : (b.onGauze f).path = b.path := rfl
@[simp] theorem Blk.onGauze_media (b : Blk) (f : Gauze → Gauze) : (b.onGauze f).media = b.media := rfl
@[simp] theorem Blk.onGauze_velvet (b : Blk) (f : Gauze → Gauze) : (b.onGauze f).velvet = b.velvet := rfl
@[simp] theorem Blk.onGauze_twill (b : Blk) (f : Gauze → Gauze) : (b.onGauze f).twill = b.twill := rfl
@[simp] theorem Blk.onGauze_gauze (b : Blk) (f : Gauze → Gauze) : (b.onGauze f).gauze = f b.gauze := rfl
@[simp] theorem Blk.onGauze_damask (b : Blk) (f : Gauze → Gauze) : (b.onGauze f).damask = b.damask := rfl
@[simp] theorem Blk.onGauze_linen (b : Blk) (f : Gauze → Gauze) : (b.onGauze f).linen = b.linen := rfl
@[simp] theorem Blk.onGauze_felt (b : Blk) (f : Gauze → Gauze) : (b.onGauze f).felt = b.felt := rfl
@[simp] theorem Blk.onGauze_tweed (b : Blk) (f : Gauze → Gauze) : (b.onGauze f).tweed = b.tweed := rfl
@[simp] theorem Blk.onGauze_canvas (b : Blk) (f : Gauze → Gauze) : (b.onGauze f).canvas = b.canvas := rfl
@[simp] theorem Blk.onGauze_clocks (b : Blk) (f : Gauze → Gauze) : (b.onGauze f).clocks = b.clocks := rfl
@[simp] theorem Blk.onGauze_thermal (b : Blk) (f : Gauze → Gauze) : (b.onGauze f).thermal = b.thermal := rfl
@[simp] theorem Blk.onGauze_modes (b : Blk) (f : Gauze → Gauze) : (b.onGauze f).modes = b.modes := rfl
@[simp] theorem Blk.onGauze_safety (b : Blk) (f : Gauze → Gauze) : (b.onGauze f).safety = b.safety := rfl
@[simp] theorem Blk.onGauze_tap (b : Blk) (f : Gauze → Gauze) : (b.onGauze f).tap = b.tap := rfl

/-! ### onDamask -/

@[simp] theorem Blk.onDamask_now (b : Blk) (f : Damask → Damask) : (b.onDamask f).now = b.now := rfl
@[simp] theorem Blk.onDamask_opTime (b : Blk) (f : Damask → Damask) : (b.onDamask f).opTime = b.opTime := rfl
@[simp] theorem Blk.onDamask_nvwp (b : Blk) (f : Damask → Damask) : (b.onDamask f).nvwp = b.nvwp := rfl
@[simp] theorem Blk.onDamask_rng (b : Blk) (f : Damask → Damask) : (b.onDamask f).rng = b.rng := rfl
@[simp] theorem Blk.onDamask_free (b : Blk) (f : Damask → Damask) : (b.onDamask f).free = b.free := rfl
@[simp] theorem Blk.onDamask_out (b : Blk) (f : Damask → Damask) : (b.onDamask f).out = b.out := rfl
@[simp] theorem Blk.onDamask_od (b : Blk) (f : Damask → Damask) : (b.onDamask f).od = b.od := rfl
@[simp] theorem Blk.onDamask_odOld (b : Blk) (f : Damask → Damask) : (b.onDamask f).odOld = b.odOld := rfl
@[simp] theorem Blk.onDamask_direct (b : Blk) (f : Damask → Damask) : (b.onDamask f).direct = b.direct := rfl
@[simp] theorem Blk.onDamask_regs (b : Blk) (f : Damask → Damask) : (b.onDamask f).regs = b.regs := rfl
@[simp] theorem Blk.onDamask_due (b : Blk) (f : Damask → Damask) : (b.onDamask f).due = b.due := rfl
@[simp] theorem Blk.onDamask_dueB (b : Blk) (f : Damask → Damask) : (b.onDamask f).dueB = b.dueB := rfl
@[simp] theorem Blk.onDamask_hA (b : Blk) (f : Damask → Damask) : (b.onDamask f).hA = b.hA := rfl
@[simp] theorem Blk.onDamask_hB (b : Blk) (f : Damask → Damask) : (b.onDamask f).hB = b.hB := rfl
@[simp] theorem Blk.onDamask_sesA (b : Blk) (f : Damask → Damask) : (b.onDamask f).sesA = b.sesA := rfl
@[simp] theorem Blk.onDamask_sesB (b : Blk) (f : Damask → Damask) : (b.onDamask f).sesB = b.sesB := rfl
@[simp] theorem Blk.onDamask_sesC (b : Blk) (f : Damask → Damask) : (b.onDamask f).sesC = b.sesC := rfl
@[simp] theorem Blk.onDamask_muslin (b : Blk) (f : Damask → Damask) : (b.onDamask f).muslin = b.muslin := rfl
@[simp] theorem Blk.onDamask_can (b : Blk) (f : Damask → Damask) : (b.onDamask f).can = b.can := rfl
@[simp] theorem Blk.onDamask_dev (b : Blk) (f : Damask → Damask) : (b.onDamask f).dev = b.dev := rfl
@[simp] theorem Blk.onDamask_path (b : Blk) (f : Damask → Damask) : (b.onDamask f).path = b.path := rfl
@[simp] theorem Blk.onDamask_media (b : Blk) (f : Damask → Damask) : (b.onDamask f).media = b.media := rfl
@[simp] theorem Blk.onDamask_velvet (b : Blk) (f : Damask → Damask) : (b.onDamask f).velvet = b.velvet := rfl
@[simp] theorem Blk.onDamask_twill (b : Blk) (f : Damask → Damask) : (b.onDamask f).twill = b.twill := rfl
@[simp] theorem Blk.onDamask_gauze (b : Blk) (f : Damask → Damask) : (b.onDamask f).gauze = b.gauze := rfl
@[simp] theorem Blk.onDamask_damask (b : Blk) (f : Damask → Damask) : (b.onDamask f).damask = f b.damask := rfl
@[simp] theorem Blk.onDamask_linen (b : Blk) (f : Damask → Damask) : (b.onDamask f).linen = b.linen := rfl
@[simp] theorem Blk.onDamask_felt (b : Blk) (f : Damask → Damask) : (b.onDamask f).felt = b.felt := rfl
@[simp] theorem Blk.onDamask_tweed (b : Blk) (f : Damask → Damask) : (b.onDamask f).tweed = b.tweed := rfl
@[simp] theorem Blk.onDamask_canvas (b : Blk) (f : Damask → Damask) : (b.onDamask f).canvas = b.canvas := rfl
@[simp] theorem Blk.onDamask_clocks (b : Blk) (f : Damask → Damask) : (b.onDamask f).clocks = b.clocks := rfl
@[simp] theorem Blk.onDamask_thermal (b : Blk) (f : Damask → Damask) : (b.onDamask f).thermal = b.thermal := rfl
@[simp] theorem Blk.onDamask_modes (b : Blk) (f : Damask → Damask) : (b.onDamask f).modes = b.modes := rfl
@[simp] theorem Blk.onDamask_safety (b : Blk) (f : Damask → Damask) : (b.onDamask f).safety = b.safety := rfl
@[simp] theorem Blk.onDamask_tap (b : Blk) (f : Damask → Damask) : (b.onDamask f).tap = b.tap := rfl

/-! ### onLinen -/

@[simp] theorem Blk.onLinen_now (b : Blk) (f : Linen → Linen) : (b.onLinen f).now = b.now := rfl
@[simp] theorem Blk.onLinen_opTime (b : Blk) (f : Linen → Linen) : (b.onLinen f).opTime = b.opTime := rfl
@[simp] theorem Blk.onLinen_nvwp (b : Blk) (f : Linen → Linen) : (b.onLinen f).nvwp = b.nvwp := rfl
@[simp] theorem Blk.onLinen_rng (b : Blk) (f : Linen → Linen) : (b.onLinen f).rng = b.rng := rfl
@[simp] theorem Blk.onLinen_free (b : Blk) (f : Linen → Linen) : (b.onLinen f).free = b.free := rfl
@[simp] theorem Blk.onLinen_out (b : Blk) (f : Linen → Linen) : (b.onLinen f).out = b.out := rfl
@[simp] theorem Blk.onLinen_od (b : Blk) (f : Linen → Linen) : (b.onLinen f).od = b.od := rfl
@[simp] theorem Blk.onLinen_odOld (b : Blk) (f : Linen → Linen) : (b.onLinen f).odOld = b.odOld := rfl
@[simp] theorem Blk.onLinen_direct (b : Blk) (f : Linen → Linen) : (b.onLinen f).direct = b.direct := rfl
@[simp] theorem Blk.onLinen_regs (b : Blk) (f : Linen → Linen) : (b.onLinen f).regs = b.regs := rfl
@[simp] theorem Blk.onLinen_due (b : Blk) (f : Linen → Linen) : (b.onLinen f).due = b.due := rfl
@[simp] theorem Blk.onLinen_dueB (b : Blk) (f : Linen → Linen) : (b.onLinen f).dueB = b.dueB := rfl
@[simp] theorem Blk.onLinen_hA (b : Blk) (f : Linen → Linen) : (b.onLinen f).hA = b.hA := rfl
@[simp] theorem Blk.onLinen_hB (b : Blk) (f : Linen → Linen) : (b.onLinen f).hB = b.hB := rfl
@[simp] theorem Blk.onLinen_sesA (b : Blk) (f : Linen → Linen) : (b.onLinen f).sesA = b.sesA := rfl
@[simp] theorem Blk.onLinen_sesB (b : Blk) (f : Linen → Linen) : (b.onLinen f).sesB = b.sesB := rfl
@[simp] theorem Blk.onLinen_sesC (b : Blk) (f : Linen → Linen) : (b.onLinen f).sesC = b.sesC := rfl
@[simp] theorem Blk.onLinen_muslin (b : Blk) (f : Linen → Linen) : (b.onLinen f).muslin = b.muslin := rfl
@[simp] theorem Blk.onLinen_can (b : Blk) (f : Linen → Linen) : (b.onLinen f).can = b.can := rfl
@[simp] theorem Blk.onLinen_dev (b : Blk) (f : Linen → Linen) : (b.onLinen f).dev = b.dev := rfl
@[simp] theorem Blk.onLinen_path (b : Blk) (f : Linen → Linen) : (b.onLinen f).path = b.path := rfl
@[simp] theorem Blk.onLinen_media (b : Blk) (f : Linen → Linen) : (b.onLinen f).media = b.media := rfl
@[simp] theorem Blk.onLinen_velvet (b : Blk) (f : Linen → Linen) : (b.onLinen f).velvet = b.velvet := rfl
@[simp] theorem Blk.onLinen_twill (b : Blk) (f : Linen → Linen) : (b.onLinen f).twill = b.twill := rfl
@[simp] theorem Blk.onLinen_gauze (b : Blk) (f : Linen → Linen) : (b.onLinen f).gauze = b.gauze := rfl
@[simp] theorem Blk.onLinen_damask (b : Blk) (f : Linen → Linen) : (b.onLinen f).damask = b.damask := rfl
@[simp] theorem Blk.onLinen_linen (b : Blk) (f : Linen → Linen) : (b.onLinen f).linen = f b.linen := rfl
@[simp] theorem Blk.onLinen_felt (b : Blk) (f : Linen → Linen) : (b.onLinen f).felt = b.felt := rfl
@[simp] theorem Blk.onLinen_tweed (b : Blk) (f : Linen → Linen) : (b.onLinen f).tweed = b.tweed := rfl
@[simp] theorem Blk.onLinen_canvas (b : Blk) (f : Linen → Linen) : (b.onLinen f).canvas = b.canvas := rfl
@[simp] theorem Blk.onLinen_clocks (b : Blk) (f : Linen → Linen) : (b.onLinen f).clocks = b.clocks := rfl
@[simp] theorem Blk.onLinen_thermal (b : Blk) (f : Linen → Linen) : (b.onLinen f).thermal = b.thermal := rfl
@[simp] theorem Blk.onLinen_modes (b : Blk) (f : Linen → Linen) : (b.onLinen f).modes = b.modes := rfl
@[simp] theorem Blk.onLinen_safety (b : Blk) (f : Linen → Linen) : (b.onLinen f).safety = b.safety := rfl
@[simp] theorem Blk.onLinen_tap (b : Blk) (f : Linen → Linen) : (b.onLinen f).tap = b.tap := rfl

/-! ### onFelt -/

@[simp] theorem Blk.onFelt_now (b : Blk) (f : Felt → Felt) : (b.onFelt f).now = b.now := rfl
@[simp] theorem Blk.onFelt_opTime (b : Blk) (f : Felt → Felt) : (b.onFelt f).opTime = b.opTime := rfl
@[simp] theorem Blk.onFelt_nvwp (b : Blk) (f : Felt → Felt) : (b.onFelt f).nvwp = b.nvwp := rfl
@[simp] theorem Blk.onFelt_rng (b : Blk) (f : Felt → Felt) : (b.onFelt f).rng = b.rng := rfl
@[simp] theorem Blk.onFelt_free (b : Blk) (f : Felt → Felt) : (b.onFelt f).free = b.free := rfl
@[simp] theorem Blk.onFelt_out (b : Blk) (f : Felt → Felt) : (b.onFelt f).out = b.out := rfl
@[simp] theorem Blk.onFelt_od (b : Blk) (f : Felt → Felt) : (b.onFelt f).od = b.od := rfl
@[simp] theorem Blk.onFelt_odOld (b : Blk) (f : Felt → Felt) : (b.onFelt f).odOld = b.odOld := rfl
@[simp] theorem Blk.onFelt_direct (b : Blk) (f : Felt → Felt) : (b.onFelt f).direct = b.direct := rfl
@[simp] theorem Blk.onFelt_regs (b : Blk) (f : Felt → Felt) : (b.onFelt f).regs = b.regs := rfl
@[simp] theorem Blk.onFelt_due (b : Blk) (f : Felt → Felt) : (b.onFelt f).due = b.due := rfl
@[simp] theorem Blk.onFelt_dueB (b : Blk) (f : Felt → Felt) : (b.onFelt f).dueB = b.dueB := rfl
@[simp] theorem Blk.onFelt_hA (b : Blk) (f : Felt → Felt) : (b.onFelt f).hA = b.hA := rfl
@[simp] theorem Blk.onFelt_hB (b : Blk) (f : Felt → Felt) : (b.onFelt f).hB = b.hB := rfl
@[simp] theorem Blk.onFelt_sesA (b : Blk) (f : Felt → Felt) : (b.onFelt f).sesA = b.sesA := rfl
@[simp] theorem Blk.onFelt_sesB (b : Blk) (f : Felt → Felt) : (b.onFelt f).sesB = b.sesB := rfl
@[simp] theorem Blk.onFelt_sesC (b : Blk) (f : Felt → Felt) : (b.onFelt f).sesC = b.sesC := rfl
@[simp] theorem Blk.onFelt_muslin (b : Blk) (f : Felt → Felt) : (b.onFelt f).muslin = b.muslin := rfl
@[simp] theorem Blk.onFelt_can (b : Blk) (f : Felt → Felt) : (b.onFelt f).can = b.can := rfl
@[simp] theorem Blk.onFelt_dev (b : Blk) (f : Felt → Felt) : (b.onFelt f).dev = b.dev := rfl
@[simp] theorem Blk.onFelt_path (b : Blk) (f : Felt → Felt) : (b.onFelt f).path = b.path := rfl
@[simp] theorem Blk.onFelt_media (b : Blk) (f : Felt → Felt) : (b.onFelt f).media = b.media := rfl
@[simp] theorem Blk.onFelt_velvet (b : Blk) (f : Felt → Felt) : (b.onFelt f).velvet = b.velvet := rfl
@[simp] theorem Blk.onFelt_twill (b : Blk) (f : Felt → Felt) : (b.onFelt f).twill = b.twill := rfl
@[simp] theorem Blk.onFelt_gauze (b : Blk) (f : Felt → Felt) : (b.onFelt f).gauze = b.gauze := rfl
@[simp] theorem Blk.onFelt_damask (b : Blk) (f : Felt → Felt) : (b.onFelt f).damask = b.damask := rfl
@[simp] theorem Blk.onFelt_linen (b : Blk) (f : Felt → Felt) : (b.onFelt f).linen = b.linen := rfl
@[simp] theorem Blk.onFelt_felt (b : Blk) (f : Felt → Felt) : (b.onFelt f).felt = f b.felt := rfl
@[simp] theorem Blk.onFelt_tweed (b : Blk) (f : Felt → Felt) : (b.onFelt f).tweed = b.tweed := rfl
@[simp] theorem Blk.onFelt_canvas (b : Blk) (f : Felt → Felt) : (b.onFelt f).canvas = b.canvas := rfl
@[simp] theorem Blk.onFelt_clocks (b : Blk) (f : Felt → Felt) : (b.onFelt f).clocks = b.clocks := rfl
@[simp] theorem Blk.onFelt_thermal (b : Blk) (f : Felt → Felt) : (b.onFelt f).thermal = b.thermal := rfl
@[simp] theorem Blk.onFelt_modes (b : Blk) (f : Felt → Felt) : (b.onFelt f).modes = b.modes := rfl
@[simp] theorem Blk.onFelt_safety (b : Blk) (f : Felt → Felt) : (b.onFelt f).safety = b.safety := rfl
@[simp] theorem Blk.onFelt_tap (b : Blk) (f : Felt → Felt) : (b.onFelt f).tap = b.tap := rfl

/-! ### onTweed -/

@[simp] theorem Blk.onTweed_now (b : Blk) (f : Tweed → Tweed) : (b.onTweed f).now = b.now := rfl
@[simp] theorem Blk.onTweed_opTime (b : Blk) (f : Tweed → Tweed) : (b.onTweed f).opTime = b.opTime := rfl
@[simp] theorem Blk.onTweed_nvwp (b : Blk) (f : Tweed → Tweed) : (b.onTweed f).nvwp = b.nvwp := rfl
@[simp] theorem Blk.onTweed_rng (b : Blk) (f : Tweed → Tweed) : (b.onTweed f).rng = b.rng := rfl
@[simp] theorem Blk.onTweed_free (b : Blk) (f : Tweed → Tweed) : (b.onTweed f).free = b.free := rfl
@[simp] theorem Blk.onTweed_out (b : Blk) (f : Tweed → Tweed) : (b.onTweed f).out = b.out := rfl
@[simp] theorem Blk.onTweed_od (b : Blk) (f : Tweed → Tweed) : (b.onTweed f).od = b.od := rfl
@[simp] theorem Blk.onTweed_odOld (b : Blk) (f : Tweed → Tweed) : (b.onTweed f).odOld = b.odOld := rfl
@[simp] theorem Blk.onTweed_direct (b : Blk) (f : Tweed → Tweed) : (b.onTweed f).direct = b.direct := rfl
@[simp] theorem Blk.onTweed_regs (b : Blk) (f : Tweed → Tweed) : (b.onTweed f).regs = b.regs := rfl
@[simp] theorem Blk.onTweed_due (b : Blk) (f : Tweed → Tweed) : (b.onTweed f).due = b.due := rfl
@[simp] theorem Blk.onTweed_dueB (b : Blk) (f : Tweed → Tweed) : (b.onTweed f).dueB = b.dueB := rfl
@[simp] theorem Blk.onTweed_hA (b : Blk) (f : Tweed → Tweed) : (b.onTweed f).hA = b.hA := rfl
@[simp] theorem Blk.onTweed_hB (b : Blk) (f : Tweed → Tweed) : (b.onTweed f).hB = b.hB := rfl
@[simp] theorem Blk.onTweed_sesA (b : Blk) (f : Tweed → Tweed) : (b.onTweed f).sesA = b.sesA := rfl
@[simp] theorem Blk.onTweed_sesB (b : Blk) (f : Tweed → Tweed) : (b.onTweed f).sesB = b.sesB := rfl
@[simp] theorem Blk.onTweed_sesC (b : Blk) (f : Tweed → Tweed) : (b.onTweed f).sesC = b.sesC := rfl
@[simp] theorem Blk.onTweed_muslin (b : Blk) (f : Tweed → Tweed) : (b.onTweed f).muslin = b.muslin := rfl
@[simp] theorem Blk.onTweed_can (b : Blk) (f : Tweed → Tweed) : (b.onTweed f).can = b.can := rfl
@[simp] theorem Blk.onTweed_dev (b : Blk) (f : Tweed → Tweed) : (b.onTweed f).dev = b.dev := rfl
@[simp] theorem Blk.onTweed_path (b : Blk) (f : Tweed → Tweed) : (b.onTweed f).path = b.path := rfl
@[simp] theorem Blk.onTweed_media (b : Blk) (f : Tweed → Tweed) : (b.onTweed f).media = b.media := rfl
@[simp] theorem Blk.onTweed_velvet (b : Blk) (f : Tweed → Tweed) : (b.onTweed f).velvet = b.velvet := rfl
@[simp] theorem Blk.onTweed_twill (b : Blk) (f : Tweed → Tweed) : (b.onTweed f).twill = b.twill := rfl
@[simp] theorem Blk.onTweed_gauze (b : Blk) (f : Tweed → Tweed) : (b.onTweed f).gauze = b.gauze := rfl
@[simp] theorem Blk.onTweed_damask (b : Blk) (f : Tweed → Tweed) : (b.onTweed f).damask = b.damask := rfl
@[simp] theorem Blk.onTweed_linen (b : Blk) (f : Tweed → Tweed) : (b.onTweed f).linen = b.linen := rfl
@[simp] theorem Blk.onTweed_felt (b : Blk) (f : Tweed → Tweed) : (b.onTweed f).felt = b.felt := rfl
@[simp] theorem Blk.onTweed_tweed (b : Blk) (f : Tweed → Tweed) : (b.onTweed f).tweed = f b.tweed := rfl
@[simp] theorem Blk.onTweed_canvas (b : Blk) (f : Tweed → Tweed) : (b.onTweed f).canvas = b.canvas := rfl
@[simp] theorem Blk.onTweed_clocks (b : Blk) (f : Tweed → Tweed) : (b.onTweed f).clocks = b.clocks := rfl
@[simp] theorem Blk.onTweed_thermal (b : Blk) (f : Tweed → Tweed) : (b.onTweed f).thermal = b.thermal := rfl
@[simp] theorem Blk.onTweed_modes (b : Blk) (f : Tweed → Tweed) : (b.onTweed f).modes = b.modes := rfl
@[simp] theorem Blk.onTweed_safety (b : Blk) (f : Tweed → Tweed) : (b.onTweed f).safety = b.safety := rfl
@[simp] theorem Blk.onTweed_tap (b : Blk) (f : Tweed → Tweed) : (b.onTweed f).tap = b.tap := rfl

/-! ### onCanvas -/

@[simp] theorem Blk.onCanvas_now (b : Blk) (f : Canvas → Canvas) : (b.onCanvas f).now = b.now := rfl
@[simp] theorem Blk.onCanvas_opTime (b : Blk) (f : Canvas → Canvas) : (b.onCanvas f).opTime = b.opTime := rfl
@[simp] theorem Blk.onCanvas_nvwp (b : Blk) (f : Canvas → Canvas) : (b.onCanvas f).nvwp = b.nvwp := rfl
@[simp] theorem Blk.onCanvas_rng (b : Blk) (f : Canvas → Canvas) : (b.onCanvas f).rng = b.rng := rfl
@[simp] theorem Blk.onCanvas_free (b : Blk) (f : Canvas → Canvas) : (b.onCanvas f).free = b.free := rfl
@[simp] theorem Blk.onCanvas_out (b : Blk) (f : Canvas → Canvas) : (b.onCanvas f).out = b.out := rfl
@[simp] theorem Blk.onCanvas_od (b : Blk) (f : Canvas → Canvas) : (b.onCanvas f).od = b.od := rfl
@[simp] theorem Blk.onCanvas_odOld (b : Blk) (f : Canvas → Canvas) : (b.onCanvas f).odOld = b.odOld := rfl
@[simp] theorem Blk.onCanvas_direct (b : Blk) (f : Canvas → Canvas) : (b.onCanvas f).direct = b.direct := rfl
@[simp] theorem Blk.onCanvas_regs (b : Blk) (f : Canvas → Canvas) : (b.onCanvas f).regs = b.regs := rfl
@[simp] theorem Blk.onCanvas_due (b : Blk) (f : Canvas → Canvas) : (b.onCanvas f).due = b.due := rfl
@[simp] theorem Blk.onCanvas_dueB (b : Blk) (f : Canvas → Canvas) : (b.onCanvas f).dueB = b.dueB := rfl
@[simp] theorem Blk.onCanvas_hA (b : Blk) (f : Canvas → Canvas) : (b.onCanvas f).hA = b.hA := rfl
@[simp] theorem Blk.onCanvas_hB (b : Blk) (f : Canvas → Canvas) : (b.onCanvas f).hB = b.hB := rfl
@[simp] theorem Blk.onCanvas_sesA (b : Blk) (f : Canvas → Canvas) : (b.onCanvas f).sesA = b.sesA := rfl
@[simp] theorem Blk.onCanvas_sesB (b : Blk) (f : Canvas → Canvas) : (b.onCanvas f).sesB = b.sesB := rfl
@[simp] theorem Blk.onCanvas_sesC (b : Blk) (f : Canvas → Canvas) : (b.onCanvas f).sesC = b.sesC := rfl
@[simp] theorem Blk.onCanvas_muslin (b : Blk) (f : Canvas → Canvas) : (b.onCanvas f).muslin = b.muslin := rfl
@[simp] theorem Blk.onCanvas_can (b : Blk) (f : Canvas → Canvas) : (b.onCanvas f).can = b.can := rfl
@[simp] theorem Blk.onCanvas_dev (b : Blk) (f : Canvas → Canvas) : (b.onCanvas f).dev = b.dev := rfl
@[simp] theorem Blk.onCanvas_path (b : Blk) (f : Canvas → Canvas) : (b.onCanvas f).path = b.path := rfl
@[simp] theorem Blk.onCanvas_media (b : Blk) (f : Canvas → Canvas) : (b.onCanvas f).media = b.media := rfl
@[simp] theorem Blk.onCanvas_velvet (b : Blk) (f : Canvas → Canvas) : (b.onCanvas f).velvet = b.velvet := rfl
@[simp] theorem Blk.onCanvas_twill (b : Blk) (f : Canvas → Canvas) : (b.onCanvas f).twill = b.twill := rfl
@[simp] theorem Blk.onCanvas_gauze (b : Blk) (f : Canvas → Canvas) : (b.onCanvas f).gauze = b.gauze := rfl
@[simp] theorem Blk.onCanvas_damask (b : Blk) (f : Canvas → Canvas) : (b.onCanvas f).damask = b.damask := rfl
@[simp] theorem Blk.onCanvas_linen (b : Blk) (f : Canvas → Canvas) : (b.onCanvas f).linen = b.linen := rfl
@[simp] theorem Blk.onCanvas_felt (b : Blk) (f : Canvas → Canvas) : (b.onCanvas f).felt = b.felt := rfl
@[simp] theorem Blk.onCanvas_tweed (b : Blk) (f : Canvas → Canvas) : (b.onCanvas f).tweed = b.tweed := rfl
@[simp] theorem Blk.onCanvas_canvas (b : Blk) (f : Canvas → Canvas) : (b.onCanvas f).canvas = f b.canvas := rfl
@[simp] theorem Blk.onCanvas_clocks (b : Blk) (f : Canvas → Canvas) : (b.onCanvas f).clocks = b.clocks := rfl
@[simp] theorem Blk.onCanvas_thermal (b : Blk) (f : Canvas → Canvas) : (b.onCanvas f).thermal = b.thermal := rfl
@[simp] theorem Blk.onCanvas_modes (b : Blk) (f : Canvas → Canvas) : (b.onCanvas f).modes = b.modes := rfl
@[simp] theorem Blk.onCanvas_safety (b : Blk) (f : Canvas → Canvas) : (b.onCanvas f).safety = b.safety := rfl
@[simp] theorem Blk.onCanvas_tap (b : Blk) (f : Canvas → Canvas) : (b.onCanvas f).tap = b.tap := rfl

/-! ### onClocks -/

@[simp] theorem Blk.onClocks_now (b : Blk) (f : Clocks → Clocks) : (b.onClocks f).now = b.now := rfl
@[simp] theorem Blk.onClocks_opTime (b : Blk) (f : Clocks → Clocks) : (b.onClocks f).opTime = b.opTime := rfl
@[simp] theorem Blk.onClocks_nvwp (b : Blk) (f : Clocks → Clocks) : (b.onClocks f).nvwp = b.nvwp := rfl
@[simp] theorem Blk.onClocks_rng (b : Blk) (f : Clocks → Clocks) : (b.onClocks f).rng = b.rng := rfl
@[simp] theorem Blk.onClocks_free (b : Blk) (f : Clocks → Clocks) : (b.onClocks f).free = b.free := rfl
@[simp] theorem Blk.onClocks_out (b : Blk) (f : Clocks → Clocks) : (b.onClocks f).out = b.out := rfl
@[simp] theorem Blk.onClocks_od (b : Blk) (f : Clocks → Clocks) : (b.onClocks f).od = b.od := rfl
@[simp] theorem Blk.onClocks_odOld (b : Blk) (f : Clocks → Clocks) : (b.onClocks f).odOld = b.odOld := rfl
@[simp] theorem Blk.onClocks_direct (b : Blk) (f : Clocks → Clocks) : (b.onClocks f).direct = b.direct := rfl
@[simp] theorem Blk.onClocks_regs (b : Blk) (f : Clocks → Clocks) : (b.onClocks f).regs = b.regs := rfl
@[simp] theorem Blk.onClocks_due (b : Blk) (f : Clocks → Clocks) : (b.onClocks f).due = b.due := rfl
@[simp] theorem Blk.onClocks_dueB (b : Blk) (f : Clocks → Clocks) : (b.onClocks f).dueB = b.dueB := rfl
@[simp] theorem Blk.onClocks_hA (b : Blk) (f : Clocks → Clocks) : (b.onClocks f).hA = b.hA := rfl
@[simp] theorem Blk.onClocks_hB (b : Blk) (f : Clocks → Clocks) : (b.onClocks f).hB = b.hB := rfl
@[simp] theorem Blk.onClocks_sesA (b : Blk) (f : Clocks → Clocks) : (b.onClocks f).sesA = b.sesA := rfl
@[simp] theorem Blk.onClocks_sesB (b : Blk) (f : Clocks → Clocks) : (b.onClocks f).sesB = b.sesB := rfl
@[simp] theorem Blk.onClocks_sesC (b : Blk) (f : Clocks → Clocks) : (b.onClocks f).sesC = b.sesC := rfl
@[simp] theorem Blk.onClocks_muslin (b : Blk) (f : Clocks → Clocks) : (b.onClocks f).muslin = b.muslin := rfl
@[simp] theorem Blk.onClocks_can (b : Blk) (f : Clocks → Clocks) : (b.onClocks f).can = b.can := rfl
@[simp] theorem Blk.onClocks_dev (b : Blk) (f : Clocks → Clocks) : (b.onClocks f).dev = b.dev := rfl
@[simp] theorem Blk.onClocks_path (b : Blk) (f : Clocks → Clocks) : (b.onClocks f).path = b.path := rfl
@[simp] theorem Blk.onClocks_media (b : Blk) (f : Clocks → Clocks) : (b.onClocks f).media = b.media := rfl
@[simp] theorem Blk.onClocks_velvet (b : Blk) (f : Clocks → Clocks) : (b.onClocks f).velvet = b.velvet := rfl
@[simp] theorem Blk.onClocks_twill (b : Blk) (f : Clocks → Clocks) : (b.onClocks f).twill = b.twill := rfl
@[simp] theorem Blk.onClocks_gauze (b : Blk) (f : Clocks → Clocks) : (b.onClocks f).gauze = b.gauze := rfl
@[simp] theorem Blk.onClocks_damask (b : Blk) (f : Clocks → Clocks) : (b.onClocks f).damask = b.damask := rfl
@[simp] theorem Blk.onClocks_linen (b : Blk) (f : Clocks → Clocks) : (b.onClocks f).linen = b.linen := rfl
@[simp] theorem Blk.onClocks_felt (b : Blk) (f : Clocks → Clocks) : (b.onClocks f).felt = b.felt := rfl
@[simp] theorem Blk.onClocks_tweed (b : Blk) (f : Clocks → Clocks) : (b.onClocks f).tweed = b.tweed := rfl
@[simp] theorem Blk.onClocks_canvas (b : Blk) (f : Clocks → Clocks) : (b.onClocks f).canvas = b.canvas := rfl
@[simp] theorem Blk.onClocks_clocks (b : Blk) (f : Clocks → Clocks) : (b.onClocks f).clocks = f b.clocks := rfl
@[simp] theorem Blk.onClocks_thermal (b : Blk) (f : Clocks → Clocks) : (b.onClocks f).thermal = b.thermal := rfl
@[simp] theorem Blk.onClocks_modes (b : Blk) (f : Clocks → Clocks) : (b.onClocks f).modes = b.modes := rfl
@[simp] theorem Blk.onClocks_safety (b : Blk) (f : Clocks → Clocks) : (b.onClocks f).safety = b.safety := rfl
@[simp] theorem Blk.onClocks_tap (b : Blk) (f : Clocks → Clocks) : (b.onClocks f).tap = b.tap := rfl

/-! ### onThermal -/

@[simp] theorem Blk.onThermal_now (b : Blk) (f : Thermal → Thermal) : (b.onThermal f).now = b.now := rfl
@[simp] theorem Blk.onThermal_opTime (b : Blk) (f : Thermal → Thermal) : (b.onThermal f).opTime = b.opTime := rfl
@[simp] theorem Blk.onThermal_nvwp (b : Blk) (f : Thermal → Thermal) : (b.onThermal f).nvwp = b.nvwp := rfl
@[simp] theorem Blk.onThermal_rng (b : Blk) (f : Thermal → Thermal) : (b.onThermal f).rng = b.rng := rfl
@[simp] theorem Blk.onThermal_free (b : Blk) (f : Thermal → Thermal) : (b.onThermal f).free = b.free := rfl
@[simp] theorem Blk.onThermal_out (b : Blk) (f : Thermal → Thermal) : (b.onThermal f).out = b.out := rfl
@[simp] theorem Blk.onThermal_od (b : Blk) (f : Thermal → Thermal) : (b.onThermal f).od = b.od := rfl
@[simp] theorem Blk.onThermal_odOld (b : Blk) (f : Thermal → Thermal) : (b.onThermal f).odOld = b.odOld := rfl
@[simp] theorem Blk.onThermal_direct (b : Blk) (f : Thermal → Thermal) : (b.onThermal f).direct = b.direct := rfl
@[simp] theorem Blk.onThermal_regs (b : Blk) (f : Thermal → Thermal) : (b.onThermal f).regs = b.regs := rfl
@[simp] theorem Blk.onThermal_due (b : Blk) (f : Thermal → Thermal) : (b.onThermal f).due = b.due := rfl
@[simp] theorem Blk.onThermal_dueB (b : Blk) (f : Thermal → Thermal) : (b.onThermal f).dueB = b.dueB := rfl
@[simp] theorem Blk.onThermal_hA (b : Blk) (f : Thermal → Thermal) : (b.onThermal f).hA = b.hA := rfl
@[simp] theorem Blk.onThermal_hB (b : Blk) (f : Thermal → Thermal) : (b.onThermal f).hB = b.hB := rfl
@[simp] theorem Blk.onThermal_sesA (b : Blk) (f : Thermal → Thermal) : (b.onThermal f).sesA = b.sesA := rfl
@[simp] theorem Blk.onThermal_sesB (b : Blk) (f : Thermal → Thermal) : (b.onThermal f).sesB = b.sesB := rfl
@[simp] theorem Blk.onThermal_sesC (b : Blk) (f : Thermal → Thermal) : (b.onThermal f).sesC = b.sesC := rfl
@[simp] theorem Blk.onThermal_muslin (b : Blk) (f : Thermal → Thermal) : (b.onThermal f).muslin = b.muslin := rfl
@[simp] theorem Blk.onThermal_can (b : Blk) (f : Thermal → Thermal) : (b.onThermal f).can = b.can := rfl
@[simp] theorem Blk.onThermal_dev (b : Blk) (f : Thermal → Thermal) : (b.onThermal f).dev = b.dev := rfl
@[simp] theorem Blk.onThermal_path (b : Blk) (f : Thermal → Thermal) : (b.onThermal f).path = b.path := rfl
@[simp] theorem Blk.onThermal_media (b : Blk) (f : Thermal → Thermal) : (b.onThermal f).media = b.media := rfl
@[simp] theorem Blk.onThermal_velvet (b : Blk) (f : Thermal → Thermal) : (b.onThermal f).velvet = b.velvet := rfl
@[simp] theorem Blk.onThermal_twill (b : Blk) (f : Thermal → Thermal) : (b.onThermal f).twill = b.twill := rfl
@[simp] theorem Blk.onThermal_gauze (b : Blk) (f : Thermal → Thermal) : (b.onThermal f).gauze = b.gauze := rfl
@[simp] theorem Blk.onThermal_damask (b : Blk) (f : Thermal → Thermal) : (b.onThermal f).damask = b.damask := rfl
@[simp] theorem Blk.onThermal_linen (b : Blk) (f : Thermal → Thermal) : (b.onThermal f).linen = b.linen := rfl
@[simp] theorem Blk.onThermal_felt (b : Blk) (f : Thermal → Thermal) : (b.onThermal f).felt = b.felt := rfl
@[simp] theorem Blk.onThermal_tweed (b : Blk) (f : Thermal → Thermal) : (b.onThermal f).tweed = b.tweed := rfl
@[simp] theorem Blk.onThermal_canvas (b : Blk) (f : Thermal → Thermal) : (b.onThermal f).canvas = b.canvas := rfl
@[simp] theorem Blk.onThermal_clocks (b : Blk) (f : Thermal → Thermal) : (b.onThermal f).clocks = b.clocks := rfl
@[simp] theorem Blk.onThermal_thermal (b : Blk) (f : Thermal → Thermal) : (b.onThermal f).thermal = f b.thermal := rfl
@[simp] theorem Blk.onThermal_modes (b : Blk) (f : Thermal → Thermal) : (b.onThermal f).modes = b.modes := rfl
@[simp] theorem Blk.onThermal_safety (b : Blk) (f : Thermal → Thermal) : (b.onThermal f).safety = b.safety := rfl
@[simp] theorem Blk.onThermal_tap (b : Blk) (f : Thermal → Thermal) : (b.onThermal f).tap = b.tap := rfl

/-! ### onModes -/

@[simp] theorem Blk.onModes_now (b : Blk) (f : Modes → Modes) : (b.onModes f).now = b.now := rfl
@[simp] theorem Blk.onModes_opTime (b : Blk) (f : Modes → Modes) : (b.onModes f).opTime = b.opTime := rfl
@[simp] theorem Blk.onModes_nvwp (b : Blk) (f : Modes → Modes) : (b.onModes f).nvwp = b.nvwp := rfl
@[simp] theorem Blk.onModes_rng (b : Blk) (f : Modes → Modes) : (b.onModes f).rng = b.rng := rfl
@[simp] theorem Blk.onModes_free (b : Blk) (f : Modes → Modes) : (b.onModes f).free = b.free := rfl
@[simp] theorem Blk.onModes_out (b : Blk) (f : Modes → Modes) : (b.onModes f).out = b.out := rfl
@[simp] theorem Blk.onModes_od (b : Blk) (f : Modes → Modes) : (b.onModes f).od = b.od := rfl
@[simp] theorem Blk.onModes_odOld (b : Blk) (f : Modes → Modes) : (b.onModes f).odOld = b.odOld := rfl
@[simp] theorem Blk.onModes_direct (b : Blk) (f : Modes → Modes) : (b.onModes f).direct = b.direct := rfl
@[simp] theorem Blk.onModes_regs (b : Blk) (f : Modes → Modes) : (b.onModes f).regs = b.regs := rfl
@[simp] theorem Blk.onModes_due (b : Blk) (f : Modes → Modes) : (b.onModes f).due = b.due := rfl
@[simp] theorem Blk.onModes_dueB (b : Blk) (f : Modes → Modes) : (b.onModes f).dueB = b.dueB := rfl
@[simp] theorem Blk.onModes_hA (b : Blk) (f : Modes → Modes) : (b.onModes f).hA = b.hA := rfl
@[simp] theorem Blk.onModes_hB (b : Blk) (f : Modes → Modes) : (b.onModes f).hB = b.hB := rfl
@[simp] theorem Blk.onModes_sesA (b : Blk) (f : Modes → Modes) : (b.onModes f).sesA = b.sesA := rfl
@[simp] theorem Blk.onModes_sesB (b : Blk) (f : Modes → Modes) : (b.onModes f).sesB = b.sesB := rfl
@[simp] theorem Blk.onModes_sesC (b : Blk) (f : Modes → Modes) : (b.onModes f).sesC = b.sesC := rfl
@[simp] theorem Blk.onModes_muslin (b : Blk) (f : Modes → Modes) : (b.onModes f).muslin = b.muslin := rfl
@[simp] theorem Blk.onModes_can (b : Blk) (f : Modes → Modes) : (b.onModes f).can = b.can := rfl
@[simp] theorem Blk.onModes_dev (b : Blk) (f : Modes → Modes) : (b.onModes f).dev = b.dev := rfl
@[simp] theorem Blk.onModes_path (b : Blk) (f : Modes → Modes) : (b.onModes f).path = b.path := rfl
@[simp] theorem Blk.onModes_media (b : Blk) (f : Modes → Modes) : (b.onModes f).media = b.media := rfl
@[simp] theorem Blk.onModes_velvet (b : Blk) (f : Modes → Modes) : (b.onModes f).velvet = b.velvet := rfl
@[simp] theorem Blk.onModes_twill (b : Blk) (f : Modes → Modes) : (b.onModes f).twill = b.twill := rfl
@[simp] theorem Blk.onModes_gauze (b : Blk) (f : Modes → Modes) : (b.onModes f).gauze = b.gauze := rfl
@[simp] theorem Blk.onModes_damask (b : Blk) (f : Modes → Modes) : (b.onModes f).damask = b.damask := rfl
@[simp] theorem Blk.onModes_linen (b : Blk) (f : Modes → Modes) : (b.onModes f).linen = b.linen := rfl
@[simp] theorem Blk.onModes_felt (b : Blk) (f : Modes → Modes) : (b.onModes f).felt = b.felt := rfl
@[simp] theorem Blk.onModes_tweed (b : Blk) (f : Modes → Modes) : (b.onModes f).tweed = b.tweed := rfl
@[simp] theorem Blk.onModes_canvas (b : Blk) (f : Modes → Modes) : (b.onModes f).canvas = b.canvas := rfl
@[simp] theorem Blk.onModes_clocks (b : Blk) (f : Modes → Modes) : (b.onModes f).clocks = b.clocks := rfl
@[simp] theorem Blk.onModes_thermal (b : Blk) (f : Modes → Modes) : (b.onModes f).thermal = b.thermal := rfl
@[simp] theorem Blk.onModes_modes (b : Blk) (f : Modes → Modes) : (b.onModes f).modes = f b.modes := rfl
@[simp] theorem Blk.onModes_safety (b : Blk) (f : Modes → Modes) : (b.onModes f).safety = b.safety := rfl
@[simp] theorem Blk.onModes_tap (b : Blk) (f : Modes → Modes) : (b.onModes f).tap = b.tap := rfl

/-! ### onSafety -/

@[simp] theorem Blk.onSafety_now (b : Blk) (f : Safety → Safety) : (b.onSafety f).now = b.now := rfl
@[simp] theorem Blk.onSafety_opTime (b : Blk) (f : Safety → Safety) : (b.onSafety f).opTime = b.opTime := rfl
@[simp] theorem Blk.onSafety_nvwp (b : Blk) (f : Safety → Safety) : (b.onSafety f).nvwp = b.nvwp := rfl
@[simp] theorem Blk.onSafety_rng (b : Blk) (f : Safety → Safety) : (b.onSafety f).rng = b.rng := rfl
@[simp] theorem Blk.onSafety_free (b : Blk) (f : Safety → Safety) : (b.onSafety f).free = b.free := rfl
@[simp] theorem Blk.onSafety_out (b : Blk) (f : Safety → Safety) : (b.onSafety f).out = b.out := rfl
@[simp] theorem Blk.onSafety_od (b : Blk) (f : Safety → Safety) : (b.onSafety f).od = b.od := rfl
@[simp] theorem Blk.onSafety_odOld (b : Blk) (f : Safety → Safety) : (b.onSafety f).odOld = b.odOld := rfl
@[simp] theorem Blk.onSafety_direct (b : Blk) (f : Safety → Safety) : (b.onSafety f).direct = b.direct := rfl
@[simp] theorem Blk.onSafety_regs (b : Blk) (f : Safety → Safety) : (b.onSafety f).regs = b.regs := rfl
@[simp] theorem Blk.onSafety_due (b : Blk) (f : Safety → Safety) : (b.onSafety f).due = b.due := rfl
@[simp] theorem Blk.onSafety_dueB (b : Blk) (f : Safety → Safety) : (b.onSafety f).dueB = b.dueB := rfl
@[simp] theorem Blk.onSafety_hA (b : Blk) (f : Safety → Safety) : (b.onSafety f).hA = b.hA := rfl
@[simp] theorem Blk.onSafety_hB (b : Blk) (f : Safety → Safety) : (b.onSafety f).hB = b.hB := rfl
@[simp] theorem Blk.onSafety_sesA (b : Blk) (f : Safety → Safety) : (b.onSafety f).sesA = b.sesA := rfl
@[simp] theorem Blk.onSafety_sesB (b : Blk) (f : Safety → Safety) : (b.onSafety f).sesB = b.sesB := rfl
@[simp] theorem Blk.onSafety_sesC (b : Blk) (f : Safety → Safety) : (b.onSafety f).sesC = b.sesC := rfl
@[simp] theorem Blk.onSafety_muslin (b : Blk) (f : Safety → Safety) : (b.onSafety f).muslin = b.muslin := rfl
@[simp] theorem Blk.onSafety_can (b : Blk) (f : Safety → Safety) : (b.onSafety f).can = b.can := rfl
@[simp] theorem Blk.onSafety_dev (b : Blk) (f : Safety → Safety) : (b.onSafety f).dev = b.dev := rfl
@[simp] theorem Blk.onSafety_path (b : Blk) (f : Safety → Safety) : (b.onSafety f).path = b.path := rfl
@[simp] theorem Blk.onSafety_media (b : Blk) (f : Safety → Safety) : (b.onSafety f).media = b.media := rfl
@[simp] theorem Blk.onSafety_velvet (b : Blk) (f : Safety → Safety) : (b.onSafety f).velvet = b.velvet := rfl
@[simp] theorem Blk.onSafety_twill (b : Blk) (f : Safety → Safety) : (b.onSafety f).twill = b.twill := rfl
@[simp] theorem Blk.onSafety_gauze (b : Blk) (f : Safety → Safety) : (b.onSafety f).gauze = b.gauze := rfl
@[simp] theorem Blk.onSafety_damask (b : Blk) (f : Safety → Safety) : (b.onSafety f).damask = b.damask := rfl
@[simp] theorem Blk.onSafety_linen (b : Blk) (f : Safety → Safety) : (b.onSafety f).linen = b.linen := rfl
@[simp] theorem Blk.onSafety_felt (b : Blk) (f : Safety → Safety) : (b.onSafety f).felt = b.felt := rfl
@[simp] theorem Blk.onSafety_tweed (b : Blk) (f : Safety → Safety) : (b.onSafety f).tweed = b.tweed := rfl
@[simp] theorem Blk.onSafety_canvas (b : Blk) (f : Safety → Safety) : (b.onSafety f).canvas = b.canvas := rfl
@[simp] theorem Blk.onSafety_clocks (b : Blk) (f : Safety → Safety) : (b.onSafety f).clocks = b.clocks := rfl
@[simp] theorem Blk.onSafety_thermal (b : Blk) (f : Safety → Safety) : (b.onSafety f).thermal = b.thermal := rfl
@[simp] theorem Blk.onSafety_modes (b : Blk) (f : Safety → Safety) : (b.onSafety f).modes = b.modes := rfl
@[simp] theorem Blk.onSafety_safety (b : Blk) (f : Safety → Safety) : (b.onSafety f).safety = f b.safety := rfl
@[simp] theorem Blk.onSafety_tap (b : Blk) (f : Safety → Safety) : (b.onSafety f).tap = b.tap := rfl

/-! ### at -/

@[simp] theorem Blk.at_now (b : Blk) (a : Stamp) : (b.at a).now = max b.now a.t := rfl
@[simp] theorem Blk.at_opTime (b : Blk) (a : Stamp) : (b.at a).opTime = b.opTime := rfl
@[simp] theorem Blk.at_nvwp (b : Blk) (a : Stamp) : (b.at a).nvwp = a.nvwp := rfl
@[simp] theorem Blk.at_rng (b : Blk) (a : Stamp) : (b.at a).rng = b.rng := rfl
@[simp] theorem Blk.at_free (b : Blk) (a : Stamp) : (b.at a).free = b.free := rfl
@[simp] theorem Blk.at_out (b : Blk) (a : Stamp) : (b.at a).out = b.out := rfl
@[simp] theorem Blk.at_od (b : Blk) (a : Stamp) : (b.at a).od = b.od := rfl
@[simp] theorem Blk.at_odOld (b : Blk) (a : Stamp) : (b.at a).odOld = b.odOld := rfl
@[simp] theorem Blk.at_direct (b : Blk) (a : Stamp) : (b.at a).direct = b.direct := rfl
@[simp] theorem Blk.at_regs (b : Blk) (a : Stamp) : (b.at a).regs = b.regs := rfl
@[simp] theorem Blk.at_due (b : Blk) (a : Stamp) : (b.at a).due = b.due := rfl
@[simp] theorem Blk.at_dueB (b : Blk) (a : Stamp) : (b.at a).dueB = b.dueB := rfl
@[simp] theorem Blk.at_hA (b : Blk) (a : Stamp) : (b.at a).hA = b.hA := rfl
@[simp] theorem Blk.at_hB (b : Blk) (a : Stamp) : (b.at a).hB = b.hB := rfl
@[simp] theorem Blk.at_sesA (b : Blk) (a : Stamp) : (b.at a).sesA = b.sesA := rfl
@[simp] theorem Blk.at_sesB (b : Blk) (a : Stamp) : (b.at a).sesB = b.sesB := rfl
@[simp] theorem Blk.at_sesC (b : Blk) (a : Stamp) : (b.at a).sesC = b.sesC := rfl
@[simp] theorem Blk.at_muslin (b : Blk) (a : Stamp) : (b.at a).muslin = b.muslin := rfl
@[simp] theorem Blk.at_can (b : Blk) (a : Stamp) : (b.at a).can = b.can := rfl
@[simp] theorem Blk.at_dev (b : Blk) (a : Stamp) : (b.at a).dev = b.dev := rfl
@[simp] theorem Blk.at_path (b : Blk) (a : Stamp) : (b.at a).path = b.path := rfl
@[simp] theorem Blk.at_media (b : Blk) (a : Stamp) : (b.at a).media = b.media := rfl
@[simp] theorem Blk.at_velvet (b : Blk) (a : Stamp) : (b.at a).velvet = b.velvet := rfl
@[simp] theorem Blk.at_twill (b : Blk) (a : Stamp) : (b.at a).twill = b.twill := rfl
@[simp] theorem Blk.at_gauze (b : Blk) (a : Stamp) : (b.at a).gauze = b.gauze := rfl
@[simp] theorem Blk.at_damask (b : Blk) (a : Stamp) : (b.at a).damask = b.damask := rfl
@[simp] theorem Blk.at_linen (b : Blk) (a : Stamp) : (b.at a).linen = b.linen := rfl
@[simp] theorem Blk.at_felt (b : Blk) (a : Stamp) : (b.at a).felt = b.felt := rfl
@[simp] theorem Blk.at_tweed (b : Blk) (a : Stamp) : (b.at a).tweed = b.tweed := rfl
@[simp] theorem Blk.at_canvas (b : Blk) (a : Stamp) : (b.at a).canvas = b.canvas := rfl
@[simp] theorem Blk.at_clocks (b : Blk) (a : Stamp) : (b.at a).clocks = b.clocks := rfl
@[simp] theorem Blk.at_thermal (b : Blk) (a : Stamp) : (b.at a).thermal = b.thermal := rfl
@[simp] theorem Blk.at_modes (b : Blk) (a : Stamp) : (b.at a).modes = b.modes := rfl
@[simp] theorem Blk.at_safety (b : Blk) (a : Stamp) : (b.at a).safety = b.safety := rfl
@[simp] theorem Blk.at_tap (b : Blk) (a : Stamp) : (b.at a).tap = b.tap := rfl

/-! ### emit -/

@[simp] theorem Blk.emit_now (b : Blk) (o : Output) : (b.emit o).now = b.now := rfl
@[simp] theorem Blk.emit_opTime (b : Blk) (o : Output) : (b.emit o).opTime = b.opTime := rfl
@[simp] theorem Blk.emit_nvwp (b : Blk) (o : Output) : (b.emit o).nvwp = b.nvwp := rfl
@[simp] theorem Blk.emit_rng (b : Blk) (o : Output) : (b.emit o).rng = b.rng := rfl
@[simp] theorem Blk.emit_free (b : Blk) (o : Output) : (b.emit o).free = b.free := rfl
@[simp] theorem Blk.emit_out (b : Blk) (o : Output) : (b.emit o).out = o :: b.out := rfl
@[simp] theorem Blk.emit_od (b : Blk) (o : Output) : (b.emit o).od = b.od := rfl
@[simp] theorem Blk.emit_odOld (b : Blk) (o : Output) : (b.emit o).odOld = b.odOld := rfl
@[simp] theorem Blk.emit_direct (b : Blk) (o : Output) : (b.emit o).direct = b.direct := rfl
@[simp] theorem Blk.emit_regs (b : Blk) (o : Output) : (b.emit o).regs = b.regs := rfl
@[simp] theorem Blk.emit_due (b : Blk) (o : Output) : (b.emit o).due = b.due := rfl
@[simp] theorem Blk.emit_dueB (b : Blk) (o : Output) : (b.emit o).dueB = b.dueB := rfl
@[simp] theorem Blk.emit_hA (b : Blk) (o : Output) : (b.emit o).hA = b.hA := rfl
@[simp] theorem Blk.emit_hB (b : Blk) (o : Output) : (b.emit o).hB = b.hB := rfl
@[simp] theorem Blk.emit_sesA (b : Blk) (o : Output) : (b.emit o).sesA = b.sesA := rfl
@[simp] theorem Blk.emit_sesB (b : Blk) (o : Output) : (b.emit o).sesB = b.sesB := rfl
@[simp] theorem Blk.emit_sesC (b : Blk) (o : Output) : (b.emit o).sesC = b.sesC := rfl
@[simp] theorem Blk.emit_muslin (b : Blk) (o : Output) : (b.emit o).muslin = b.muslin := rfl
@[simp] theorem Blk.emit_can (b : Blk) (o : Output) : (b.emit o).can = b.can := rfl
@[simp] theorem Blk.emit_dev (b : Blk) (o : Output) : (b.emit o).dev = b.dev := rfl
@[simp] theorem Blk.emit_path (b : Blk) (o : Output) : (b.emit o).path = b.path := rfl
@[simp] theorem Blk.emit_media (b : Blk) (o : Output) : (b.emit o).media = b.media := rfl
@[simp] theorem Blk.emit_velvet (b : Blk) (o : Output) : (b.emit o).velvet = b.velvet := rfl
@[simp] theorem Blk.emit_twill (b : Blk) (o : Output) : (b.emit o).twill = b.twill := rfl
@[simp] theorem Blk.emit_gauze (b : Blk) (o : Output) : (b.emit o).gauze = b.gauze := rfl
@[simp] theorem Blk.emit_damask (b : Blk) (o : Output) : (b.emit o).damask = b.damask := rfl
@[simp] theorem Blk.emit_linen (b : Blk) (o : Output) : (b.emit o).linen = b.linen := rfl
@[simp] theorem Blk.emit_felt (b : Blk) (o : Output) : (b.emit o).felt = b.felt := rfl
@[simp] theorem Blk.emit_tweed (b : Blk) (o : Output) : (b.emit o).tweed = b.tweed := rfl
@[simp] theorem Blk.emit_canvas (b : Blk) (o : Output) : (b.emit o).canvas = b.canvas := rfl
@[simp] theorem Blk.emit_clocks (b : Blk) (o : Output) : (b.emit o).clocks = b.clocks := rfl
@[simp] theorem Blk.emit_thermal (b : Blk) (o : Output) : (b.emit o).thermal = b.thermal := rfl
@[simp] theorem Blk.emit_modes (b : Blk) (o : Output) : (b.emit o).modes = b.modes := rfl
@[simp] theorem Blk.emit_safety (b : Blk) (o : Output) : (b.emit o).safety = b.safety := rfl
@[simp] theorem Blk.emit_tap (b : Blk) (o : Output) : (b.emit o).tap = b.tap := rfl

/-! ### draw -/

@[simp] theorem Blk.draw_now (b : Blk) : (b.draw).now = b.now := rfl
@[simp] theorem Blk.draw_opTime (b : Blk) : (b.draw).opTime = b.opTime := rfl
@[simp] theorem Blk.draw_nvwp (b : Blk) : (b.draw).nvwp = b.nvwp := rfl
@[simp] theorem Blk.draw_rng (b : Blk) : (b.draw).rng = b.rng + 1 := rfl
@[simp] theorem Blk.draw_free (b : Blk) : (b.draw).free = b.free := rfl
@[simp] theorem Blk.draw_out (b : Blk) : (b.draw).out = b.out := rfl
@[simp] theorem Blk.draw_od (b : Blk) : (b.draw).od = b.od := rfl
@[simp] theorem Blk.draw_odOld (b : Blk) : (b.draw).odOld = b.odOld := rfl
@[simp] theorem Blk.draw_direct (b : Blk) : (b.draw).direct = b.direct := rfl
@[simp] theorem Blk.draw_regs (b : Blk) : (b.draw).regs = b.regs := rfl
@[simp] theorem Blk.draw_due (b : Blk) : (b.draw).due = b.due := rfl
@[simp] theorem Blk.draw_dueB (b : Blk) : (b.draw).dueB = b.dueB := rfl
@[simp] theorem Blk.draw_hA (b : Blk) : (b.draw).hA = b.hA := rfl
@[simp] theorem Blk.draw_hB (b : Blk) : (b.draw).hB = b.hB := rfl
@[simp] theorem Blk.draw_sesA (b : Blk) : (b.draw).sesA = b.sesA := rfl
@[simp] theorem Blk.draw_sesB (b : Blk) : (b.draw).sesB = b.sesB := rfl
@[simp] theorem Blk.draw_sesC (b : Blk) : (b.draw).sesC = b.sesC := rfl
@[simp] theorem Blk.draw_muslin (b : Blk) : (b.draw).muslin = b.muslin := rfl
@[simp] theorem Blk.draw_can (b : Blk) : (b.draw).can = b.can := rfl
@[simp] theorem Blk.draw_dev (b : Blk) : (b.draw).dev = b.dev := rfl
@[simp] theorem Blk.draw_path (b : Blk) : (b.draw).path = b.path := rfl
@[simp] theorem Blk.draw_media (b : Blk) : (b.draw).media = b.media := rfl
@[simp] theorem Blk.draw_velvet (b : Blk) : (b.draw).velvet = b.velvet := rfl
@[simp] theorem Blk.draw_twill (b : Blk) : (b.draw).twill = b.twill := rfl
@[simp] theorem Blk.draw_gauze (b : Blk) : (b.draw).gauze = b.gauze := rfl
@[simp] theorem Blk.draw_damask (b : Blk) : (b.draw).damask = b.damask := rfl
@[simp] theorem Blk.draw_linen (b : Blk) : (b.draw).linen = b.linen := rfl
@[simp] theorem Blk.draw_felt (b : Blk) : (b.draw).felt = b.felt := rfl
@[simp] theorem Blk.draw_tweed (b : Blk) : (b.draw).tweed = b.tweed := rfl
@[simp] theorem Blk.draw_canvas (b : Blk) : (b.draw).canvas = b.canvas := rfl
@[simp] theorem Blk.draw_clocks (b : Blk) : (b.draw).clocks = b.clocks := rfl
@[simp] theorem Blk.draw_thermal (b : Blk) : (b.draw).thermal = b.thermal := rfl
@[simp] theorem Blk.draw_modes (b : Blk) : (b.draw).modes = b.modes := rfl
@[simp] theorem Blk.draw_safety (b : Blk) : (b.draw).safety = b.safety := rfl
@[simp] theorem Blk.draw_tap (b : Blk) : (b.draw).tap = b.tap := rfl

/-! ### useFree -/

@[simp] theorem Blk.useFree_now (b : Blk) : (b.useFree).now = b.now := rfl
@[simp] theorem Blk.useFree_opTime (b : Blk) : (b.useFree).opTime = b.opTime := rfl
@[simp] theorem Blk.useFree_nvwp (b : Blk) : (b.useFree).nvwp = b.nvwp := rfl
@[simp] theorem Blk.useFree_rng (b : Blk) : (b.useFree).rng = b.rng := rfl
@[simp] theorem Blk.useFree_free (b : Blk) : (b.useFree).free = b.free + 1 := rfl
@[simp] theorem Blk.useFree_out (b : Blk) : (b.useFree).out = b.out := rfl
@[simp] theorem Blk.useFree_od (b : Blk) : (b.useFree).od = b.od := rfl
@[simp] theorem Blk.useFree_odOld (b : Blk) : (b.useFree).odOld = b.odOld := rfl
@[simp] theorem Blk.useFree_direct (b : Blk) : (b.useFree).direct = b.direct := rfl
@[simp] theorem Blk.useFree_regs (b : Blk) : (b.useFree).regs = b.regs := rfl
@[simp] theorem Blk.useFree_due (b : Blk) : (b.useFree).due = b.due := rfl
@[simp] theorem Blk.useFree_dueB (b : Blk) : (b.useFree).dueB = b.dueB := rfl
@[simp] theorem Blk.useFree_hA (b : Blk) : (b.useFree).hA = b.hA := rfl
@[simp] theorem Blk.useFree_hB (b : Blk) : (b.useFree).hB = b.hB := rfl
@[simp] theorem Blk.useFree_sesA (b : Blk) : (b.useFree).sesA = b.sesA := rfl
@[simp] theorem Blk.useFree_sesB (b : Blk) : (b.useFree).sesB = b.sesB := rfl
@[simp] theorem Blk.useFree_sesC (b : Blk) : (b.useFree).sesC = b.sesC := rfl
@[simp] theorem Blk.useFree_muslin (b : Blk) : (b.useFree).muslin = b.muslin := rfl
@[simp] theorem Blk.useFree_can (b : Blk) : (b.useFree).can = b.can := rfl
@[simp] theorem Blk.useFree_dev (b : Blk) : (b.useFree).dev = b.dev := rfl
@[simp] theorem Blk.useFree_path (b : Blk) : (b.useFree).path = b.path := rfl
@[simp] theorem Blk.useFree_media (b : Blk) : (b.useFree).media = b.media := rfl
@[simp] theorem Blk.useFree_velvet (b : Blk) : (b.useFree).velvet = b.velvet := rfl
@[simp] theorem Blk.useFree_twill (b : Blk) : (b.useFree).twill = b.twill := rfl
@[simp] theorem Blk.useFree_gauze (b : Blk) : (b.useFree).gauze = b.gauze := rfl
@[simp] theorem Blk.useFree_damask (b : Blk) : (b.useFree).damask = b.damask := rfl
@[simp] theorem Blk.useFree_linen (b : Blk) : (b.useFree).linen = b.linen := rfl
@[simp] theorem Blk.useFree_felt (b : Blk) : (b.useFree).felt = b.felt := rfl
@[simp] theorem Blk.useFree_tweed (b : Blk) : (b.useFree).tweed = b.tweed := rfl
@[simp] theorem Blk.useFree_canvas (b : Blk) : (b.useFree).canvas = b.canvas := rfl
@[simp] theorem Blk.useFree_clocks (b : Blk) : (b.useFree).clocks = b.clocks := rfl
@[simp] theorem Blk.useFree_thermal (b : Blk) : (b.useFree).thermal = b.thermal := rfl
@[simp] theorem Blk.useFree_modes (b : Blk) : (b.useFree).modes = b.modes := rfl
@[simp] theorem Blk.useFree_safety (b : Blk) : (b.useFree).safety = b.safety := rfl
@[simp] theorem Blk.useFree_tap (b : Blk) : (b.useFree).tap = b.tap := rfl

/-! ### odSet -/

@[simp] theorem Blk.odSet_now (b : Blk) (i j v : Nat) : (b.odSet i j v).now = b.now := rfl
@[simp] theorem Blk.odSet_opTime (b : Blk) (i j v : Nat) : (b.odSet i j v).opTime = b.opTime := rfl
@[simp] theorem Blk.odSet_nvwp (b : Blk) (i j v : Nat) : (b.odSet i j v).nvwp = b.nvwp := rfl
@[simp] theorem Blk.odSet_rng (b : Blk) (i j v : Nat) : (b.odSet i j v).rng = b.rng := rfl
@[simp] theorem Blk.odSet_free (b : Blk) (i j v : Nat) : (b.odSet i j v).free = b.free := rfl
@[simp] theorem Blk.odSet_out (b : Blk) (i j v : Nat) : (b.odSet i j v).out = b.out := rfl
@[simp] theorem Blk.odSet_od (b : Blk) (i j v : Nat) : (b.odSet i j v).od = b.od.set (odDefault i j) (odKey i j) v := rfl
@[simp] theorem Blk.odSet_odOld (b : Blk) (i j v : Nat) : (b.odSet i j v).odOld = b.odOld := rfl
@[simp] theorem Blk.odSet_direct (b : Blk) (i j v : Nat) : (b.odSet i j v).direct = b.direct := rfl
@[simp] theorem Blk.odSet_regs (b : Blk) (i j v : Nat) : (b.odSet i j v).regs = b.regs := rfl
@[simp] theorem Blk.odSet_due (b : Blk) (i j v : Nat) : (b.odSet i j v).due = b.due := rfl
@[simp] theorem Blk.odSet_dueB (b : Blk) (i j v : Nat) : (b.odSet i j v).dueB = b.dueB := rfl
@[simp] theorem Blk.odSet_hA (b : Blk) (i j v : Nat) : (b.odSet i j v).hA = b.hA := rfl
@[simp] theorem Blk.odSet_hB (b : Blk) (i j v : Nat) : (b.odSet i j v).hB = b.hB := rfl
@[simp] theorem Blk.odSet_sesA (b : Blk) (i j v : Nat) : (b.odSet i j v).sesA = b.sesA := rfl
@[simp] theorem Blk.odSet_sesB (b : Blk) (i j v : Nat) : (b.odSet i j v).sesB = b.sesB := rfl
@[simp] theorem Blk.odSet_sesC (b : Blk) (i j v : Nat) : (b.odSet i j v).sesC = b.sesC := rfl
@[simp] theorem Blk.odSet_muslin (b : Blk) (i j v : Nat) : (b.odSet i j v).muslin = b.muslin := rfl
@[simp] theorem Blk.odSet_can (b : Blk) (i j v : Nat) : (b.odSet i j v).can = b.can := rfl
@[simp] theorem Blk.odSet_dev (b : Blk) (i j v : Nat) : (b.odSet i j v).dev = b.dev := rfl
@[simp] theorem Blk.odSet_path (b : Blk) (i j v : Nat) : (b.odSet i j v).path = b.path := rfl
@[simp] theorem Blk.odSet_media (b : Blk) (i j v : Nat) : (b.odSet i j v).media = b.media := rfl
@[simp] theorem Blk.odSet_velvet (b : Blk) (i j v : Nat) : (b.odSet i j v).velvet = b.velvet := rfl
@[simp] theorem Blk.odSet_twill (b : Blk) (i j v : Nat) : (b.odSet i j v).twill = b.twill := rfl
@[simp] theorem Blk.odSet_gauze (b : Blk) (i j v : Nat) : (b.odSet i j v).gauze = b.gauze := rfl
@[simp] theorem Blk.odSet_damask (b : Blk) (i j v : Nat) : (b.odSet i j v).damask = b.damask := rfl
@[simp] theorem Blk.odSet_linen (b : Blk) (i j v : Nat) : (b.odSet i j v).linen = b.linen := rfl
@[simp] theorem Blk.odSet_felt (b : Blk) (i j v : Nat) : (b.odSet i j v).felt = b.felt := rfl
@[simp] theorem Blk.odSet_tweed (b : Blk) (i j v : Nat) : (b.odSet i j v).tweed = b.tweed := rfl
@[simp] theorem Blk.odSet_canvas (b : Blk) (i j v : Nat) : (b.odSet i j v).canvas = b.canvas := rfl
@[simp] theorem Blk.odSet_clocks (b : Blk) (i j v : Nat) : (b.odSet i j v).clocks = b.clocks := rfl
@[simp] theorem Blk.odSet_thermal (b : Blk) (i j v : Nat) : (b.odSet i j v).thermal = b.thermal := rfl
@[simp] theorem Blk.odSet_modes (b : Blk) (i j v : Nat) : (b.odSet i j v).modes = b.modes := rfl
@[simp] theorem Blk.odSet_safety (b : Blk) (i j v : Nat) : (b.odSet i j v).safety = b.safety := rfl
@[simp] theorem Blk.odSet_tap (b : Blk) (i j v : Nat) : (b.odSet i j v).tap = b.tap := rfl

/-! ### bump -/

@[simp] theorem Blk.bump_now (b : Blk) (i j n : Nat) : (b.bump i j n).now = b.now := rfl
@[simp] theorem Blk.bump_opTime (b : Blk) (i j n : Nat) : (b.bump i j n).opTime = b.opTime := rfl
@[simp] theorem Blk.bump_nvwp (b : Blk) (i j n : Nat) : (b.bump i j n).nvwp = b.nvwp := rfl
@[simp] theorem Blk.bump_rng (b : Blk) (i j n : Nat) : (b.bump i j n).rng = b.rng := rfl
@[simp] theorem Blk.bump_free (b : Blk) (i j n : Nat) : (b.bump i j n).free = b.free := rfl
@[simp] theorem Blk.bump_out (b : Blk) (i j n : Nat) : (b.bump i j n).out = b.out := rfl
@[simp] theorem Blk.bump_od (b : Blk) (i j n : Nat) : (b.bump i j n).od = b.od.set (odDefault i j) (odKey i j) (min (b.cfg i j + n) (2 ^ 64 - 1)) := rfl
@[simp] theorem Blk.bump_odOld (b : Blk) (i j n : Nat) : (b.bump i j n).odOld = b.odOld := rfl
@[simp] theorem Blk.bump_direct (b : Blk) (i j n : Nat) : (b.bump i j n).direct = b.direct := rfl
@[simp] theorem Blk.bump_regs (b : Blk) (i j n : Nat) : (b.bump i j n).regs = b.regs := rfl
@[simp] theorem Blk.bump_due (b : Blk) (i j n : Nat) : (b.bump i j n).due = b.due := rfl
@[simp] theorem Blk.bump_dueB (b : Blk) (i j n : Nat) : (b.bump i j n).dueB = b.dueB := rfl
@[simp] theorem Blk.bump_hA (b : Blk) (i j n : Nat) : (b.bump i j n).hA = b.hA := rfl
@[simp] theorem Blk.bump_hB (b : Blk) (i j n : Nat) : (b.bump i j n).hB = b.hB := rfl
@[simp] theorem Blk.bump_sesA (b : Blk) (i j n : Nat) : (b.bump i j n).sesA = b.sesA := rfl
@[simp] theorem Blk.bump_sesB (b : Blk) (i j n : Nat) : (b.bump i j n).sesB = b.sesB := rfl
@[simp] theorem Blk.bump_sesC (b : Blk) (i j n : Nat) : (b.bump i j n).sesC = b.sesC := rfl
@[simp] theorem Blk.bump_muslin (b : Blk) (i j n : Nat) : (b.bump i j n).muslin = b.muslin := rfl
@[simp] theorem Blk.bump_can (b : Blk) (i j n : Nat) : (b.bump i j n).can = b.can := rfl
@[simp] theorem Blk.bump_dev (b : Blk) (i j n : Nat) : (b.bump i j n).dev = b.dev := rfl
@[simp] theorem Blk.bump_path (b : Blk) (i j n : Nat) : (b.bump i j n).path = b.path := rfl
@[simp] theorem Blk.bump_media (b : Blk) (i j n : Nat) : (b.bump i j n).media = b.media := rfl
@[simp] theorem Blk.bump_velvet (b : Blk) (i j n : Nat) : (b.bump i j n).velvet = b.velvet := rfl
@[simp] theorem Blk.bump_twill (b : Blk) (i j n : Nat) : (b.bump i j n).twill = b.twill := rfl
@[simp] theorem Blk.bump_gauze (b : Blk) (i j n : Nat) : (b.bump i j n).gauze = b.gauze := rfl
@[simp] theorem Blk.bump_damask (b : Blk) (i j n : Nat) : (b.bump i j n).damask = b.damask := rfl
@[simp] theorem Blk.bump_linen (b : Blk) (i j n : Nat) : (b.bump i j n).linen = b.linen := rfl
@[simp] theorem Blk.bump_felt (b : Blk) (i j n : Nat) : (b.bump i j n).felt = b.felt := rfl
@[simp] theorem Blk.bump_tweed (b : Blk) (i j n : Nat) : (b.bump i j n).tweed = b.tweed := rfl
@[simp] theorem Blk.bump_canvas (b : Blk) (i j n : Nat) : (b.bump i j n).canvas = b.canvas := rfl
@[simp] theorem Blk.bump_clocks (b : Blk) (i j n : Nat) : (b.bump i j n).clocks = b.clocks := rfl
@[simp] theorem Blk.bump_thermal (b : Blk) (i j n : Nat) : (b.bump i j n).thermal = b.thermal := rfl
@[simp] theorem Blk.bump_modes (b : Blk) (i j n : Nat) : (b.bump i j n).modes = b.modes := rfl
@[simp] theorem Blk.bump_safety (b : Blk) (i j n : Nat) : (b.bump i j n).safety = b.safety := rfl
@[simp] theorem Blk.bump_tap (b : Blk) (i j n : Nat) : (b.bump i j n).tap = b.tap := rfl

/-! ### bump32 -/

@[simp] theorem Blk.bump32_now (b : Blk) (i j n : Nat) : (b.bump32 i j n).now = b.now := rfl
@[simp] theorem Blk.bump32_opTime (b : Blk) (i j n : Nat) : (b.bump32 i j n).opTime = b.opTime := rfl
@[simp] theorem Blk.bump32_nvwp (b : Blk) (i j n : Nat) : (b.bump32 i j n).nvwp = b.nvwp := rfl
@[simp] theorem Blk.bump32_rng (b : Blk) (i j n : Nat) : (b.bump32 i j n).rng = b.rng := rfl
@[simp] theorem Blk.bump32_free (b : Blk) (i j n : Nat) : (b.bump32 i j n).free = b.free := rfl
@[simp] theorem Blk.bump32_out (b : Blk) (i j n : Nat) : (b.bump32 i j n).out = b.out := rfl
@[simp] theorem Blk.bump32_od (b : Blk) (i j n : Nat) : (b.bump32 i j n).od = b.od.set (odDefault i j) (odKey i j) (min (b.cfg i j + n) (2 ^ 32 - 1)) := rfl
@[simp] theorem Blk.bump32_odOld (b : Blk) (i j n : Nat) : (b.bump32 i j n).odOld = b.odOld := rfl
@[simp] theorem Blk.bump32_direct (b : Blk) (i j n : Nat) : (b.bump32 i j n).direct = b.direct := rfl
@[simp] theorem Blk.bump32_regs (b : Blk) (i j n : Nat) : (b.bump32 i j n).regs = b.regs := rfl
@[simp] theorem Blk.bump32_due (b : Blk) (i j n : Nat) : (b.bump32 i j n).due = b.due := rfl
@[simp] theorem Blk.bump32_dueB (b : Blk) (i j n : Nat) : (b.bump32 i j n).dueB = b.dueB := rfl
@[simp] theorem Blk.bump32_hA (b : Blk) (i j n : Nat) : (b.bump32 i j n).hA = b.hA := rfl
@[simp] theorem Blk.bump32_hB (b : Blk) (i j n : Nat) : (b.bump32 i j n).hB = b.hB := rfl
@[simp] theorem Blk.bump32_sesA (b : Blk) (i j n : Nat) : (b.bump32 i j n).sesA = b.sesA := rfl
@[simp] theorem Blk.bump32_sesB (b : Blk) (i j n : Nat) : (b.bump32 i j n).sesB = b.sesB := rfl
@[simp] theorem Blk.bump32_sesC (b : Blk) (i j n : Nat) : (b.bump32 i j n).sesC = b.sesC := rfl
@[simp] theorem Blk.bump32_muslin (b : Blk) (i j n : Nat) : (b.bump32 i j n).muslin = b.muslin := rfl
@[simp] theorem Blk.bump32_can (b : Blk) (i j n : Nat) : (b.bump32 i j n).can = b.can := rfl
@[simp] theorem Blk.bump32_dev (b : Blk) (i j n : Nat) : (b.bump32 i j n).dev = b.dev := rfl
@[simp] theorem Blk.bump32_path (b : Blk) (i j n : Nat) : (b.bump32 i j n).path = b.path := rfl
@[simp] theorem Blk.bump32_media (b : Blk) (i j n : Nat) : (b.bump32 i j n).media = b.media := rfl
@[simp] theorem Blk.bump32_velvet (b : Blk) (i j n : Nat) : (b.bump32 i j n).velvet = b.velvet := rfl
@[simp] theorem Blk.bump32_twill (b : Blk) (i j n : Nat) : (b.bump32 i j n).twill = b.twill := rfl
@[simp] theorem Blk.bump32_gauze (b : Blk) (i j n : Nat) : (b.bump32 i j n).gauze = b.gauze := rfl
@[simp] theorem Blk.bump32_damask (b : Blk) (i j n : Nat) : (b.bump32 i j n).damask = b.damask := rfl
@[simp] theorem Blk.bump32_linen (b : Blk) (i j n : Nat) : (b.bump32 i j n).linen = b.linen := rfl
@[simp] theorem Blk.bump32_felt (b : Blk) (i j n : Nat) : (b.bump32 i j n).felt = b.felt := rfl
@[simp] theorem Blk.bump32_tweed (b : Blk) (i j n : Nat) : (b.bump32 i j n).tweed = b.tweed := rfl
@[simp] theorem Blk.bump32_canvas (b : Blk) (i j n : Nat) : (b.bump32 i j n).canvas = b.canvas := rfl
@[simp] theorem Blk.bump32_clocks (b : Blk) (i j n : Nat) : (b.bump32 i j n).clocks = b.clocks := rfl
@[simp] theorem Blk.bump32_thermal (b : Blk) (i j n : Nat) : (b.bump32 i j n).thermal = b.thermal := rfl
@[simp] theorem Blk.bump32_modes (b : Blk) (i j n : Nat) : (b.bump32 i j n).modes = b.modes := rfl
@[simp] theorem Blk.bump32_safety (b : Blk) (i j n : Nat) : (b.bump32 i j n).safety = b.safety := rfl
@[simp] theorem Blk.bump32_tap (b : Blk) (i j n : Nat) : (b.bump32 i j n).tap = b.tap := rfl

/-! ### A head, a session -/

@[simp] theorem Blk.onHead_now (b : Blk) (h : Head) (f : HeadSt → HeadSt) : (b.onHead h f).now = b.now := by cases h <;> rfl
@[simp] theorem Blk.onHead_opTime (b : Blk) (h : Head) (f : HeadSt → HeadSt) : (b.onHead h f).opTime = b.opTime := by cases h <;> rfl
@[simp] theorem Blk.onHead_nvwp (b : Blk) (h : Head) (f : HeadSt → HeadSt) : (b.onHead h f).nvwp = b.nvwp := by cases h <;> rfl
@[simp] theorem Blk.onHead_rng (b : Blk) (h : Head) (f : HeadSt → HeadSt) : (b.onHead h f).rng = b.rng := by cases h <;> rfl
@[simp] theorem Blk.onHead_free (b : Blk) (h : Head) (f : HeadSt → HeadSt) : (b.onHead h f).free = b.free := by cases h <;> rfl
@[simp] theorem Blk.onHead_out (b : Blk) (h : Head) (f : HeadSt → HeadSt) : (b.onHead h f).out = b.out := by cases h <;> rfl
@[simp] theorem Blk.onHead_od (b : Blk) (h : Head) (f : HeadSt → HeadSt) : (b.onHead h f).od = b.od := by cases h <;> rfl
@[simp] theorem Blk.onHead_odOld (b : Blk) (h : Head) (f : HeadSt → HeadSt) : (b.onHead h f).odOld = b.odOld := by cases h <;> rfl
@[simp] theorem Blk.onHead_direct (b : Blk) (h : Head) (f : HeadSt → HeadSt) : (b.onHead h f).direct = b.direct := by cases h <;> rfl
@[simp] theorem Blk.onHead_regs (b : Blk) (h : Head) (f : HeadSt → HeadSt) : (b.onHead h f).regs = b.regs := by cases h <;> rfl
@[simp] theorem Blk.onHead_due (b : Blk) (h : Head) (f : HeadSt → HeadSt) : (b.onHead h f).due = b.due := by cases h <;> rfl
@[simp] theorem Blk.onHead_dueB (b : Blk) (h : Head) (f : HeadSt → HeadSt) : (b.onHead h f).dueB = b.dueB := by cases h <;> rfl
@[simp] theorem Blk.onHead_sesA (b : Blk) (h : Head) (f : HeadSt → HeadSt) : (b.onHead h f).sesA = b.sesA := by cases h <;> rfl
@[simp] theorem Blk.onHead_sesB (b : Blk) (h : Head) (f : HeadSt → HeadSt) : (b.onHead h f).sesB = b.sesB := by cases h <;> rfl
@[simp] theorem Blk.onHead_sesC (b : Blk) (h : Head) (f : HeadSt → HeadSt) : (b.onHead h f).sesC = b.sesC := by cases h <;> rfl
@[simp] theorem Blk.onHead_muslin (b : Blk) (h : Head) (f : HeadSt → HeadSt) : (b.onHead h f).muslin = b.muslin := by cases h <;> rfl
@[simp] theorem Blk.onHead_can (b : Blk) (h : Head) (f : HeadSt → HeadSt) : (b.onHead h f).can = b.can := by cases h <;> rfl
@[simp] theorem Blk.onHead_dev (b : Blk) (h : Head) (f : HeadSt → HeadSt) : (b.onHead h f).dev = b.dev := by cases h <;> rfl
@[simp] theorem Blk.onHead_path (b : Blk) (h : Head) (f : HeadSt → HeadSt) : (b.onHead h f).path = b.path := by cases h <;> rfl
@[simp] theorem Blk.onHead_media (b : Blk) (h : Head) (f : HeadSt → HeadSt) : (b.onHead h f).media = b.media := by cases h <;> rfl
@[simp] theorem Blk.onHead_velvet (b : Blk) (h : Head) (f : HeadSt → HeadSt) : (b.onHead h f).velvet = b.velvet := by cases h <;> rfl
@[simp] theorem Blk.onHead_twill (b : Blk) (h : Head) (f : HeadSt → HeadSt) : (b.onHead h f).twill = b.twill := by cases h <;> rfl
@[simp] theorem Blk.onHead_gauze (b : Blk) (h : Head) (f : HeadSt → HeadSt) : (b.onHead h f).gauze = b.gauze := by cases h <;> rfl
@[simp] theorem Blk.onHead_damask (b : Blk) (h : Head) (f : HeadSt → HeadSt) : (b.onHead h f).damask = b.damask := by cases h <;> rfl
@[simp] theorem Blk.onHead_linen (b : Blk) (h : Head) (f : HeadSt → HeadSt) : (b.onHead h f).linen = b.linen := by cases h <;> rfl
@[simp] theorem Blk.onHead_felt (b : Blk) (h : Head) (f : HeadSt → HeadSt) : (b.onHead h f).felt = b.felt := by cases h <;> rfl
@[simp] theorem Blk.onHead_tweed (b : Blk) (h : Head) (f : HeadSt → HeadSt) : (b.onHead h f).tweed = b.tweed := by cases h <;> rfl
@[simp] theorem Blk.onHead_canvas (b : Blk) (h : Head) (f : HeadSt → HeadSt) : (b.onHead h f).canvas = b.canvas := by cases h <;> rfl
@[simp] theorem Blk.onHead_clocks (b : Blk) (h : Head) (f : HeadSt → HeadSt) : (b.onHead h f).clocks = b.clocks := by cases h <;> rfl
@[simp] theorem Blk.onHead_thermal (b : Blk) (h : Head) (f : HeadSt → HeadSt) : (b.onHead h f).thermal = b.thermal := by cases h <;> rfl
@[simp] theorem Blk.onHead_modes (b : Blk) (h : Head) (f : HeadSt → HeadSt) : (b.onHead h f).modes = b.modes := by cases h <;> rfl
@[simp] theorem Blk.onHead_safety (b : Blk) (h : Head) (f : HeadSt → HeadSt) : (b.onHead h f).safety = b.safety := by cases h <;> rfl
@[simp] theorem Blk.onHead_tap (b : Blk) (h : Head) (f : HeadSt → HeadSt) : (b.onHead h f).tap = b.tap := by cases h <;> rfl

@[simp] theorem Blk.onHead_head (b : Blk) (h : Head) (f : HeadSt → HeadSt) : (b.onHead h f).head h = f (b.head h) := by cases h <;> rfl

/-- The other head keeps everything. -/
@[simp] theorem Blk.onHead_other (b : Blk) (h : Head) (f : HeadSt → HeadSt) : (b.onHead h f).head (otherHead h) = b.head (otherHead h) := by cases h <;> rfl

@[simp] theorem Blk.onSession_now (b : Blk) (t : Nat) (f : Session → Session) : (b.onSession t f).now = b.now := by unfold Blk.onSession; split <;> [rfl; split <;> rfl]
@[simp] theorem Blk.onSession_opTime (b : Blk) (t : Nat) (f : Session → Session) : (b.onSession t f).opTime = b.opTime := by unfold Blk.onSession; split <;> [rfl; split <;> rfl]
@[simp] theorem Blk.onSession_nvwp (b : Blk) (t : Nat) (f : Session → Session) : (b.onSession t f).nvwp = b.nvwp := by unfold Blk.onSession; split <;> [rfl; split <;> rfl]
@[simp] theorem Blk.onSession_rng (b : Blk) (t : Nat) (f : Session → Session) : (b.onSession t f).rng = b.rng := by unfold Blk.onSession; split <;> [rfl; split <;> rfl]
@[simp] theorem Blk.onSession_free (b : Blk) (t : Nat) (f : Session → Session) : (b.onSession t f).free = b.free := by unfold Blk.onSession; split <;> [rfl; split <;> rfl]
@[simp] theorem Blk.onSession_out (b : Blk) (t : Nat) (f : Session → Session) : (b.onSession t f).out = b.out := by unfold Blk.onSession; split <;> [rfl; split <;> rfl]
@[simp] theorem Blk.onSession_od (b : Blk) (t : Nat) (f : Session → Session) : (b.onSession t f).od = b.od := by unfold Blk.onSession; split <;> [rfl; split <;> rfl]
@[simp] theorem Blk.onSession_odOld (b : Blk) (t : Nat) (f : Session → Session) : (b.onSession t f).odOld = b.odOld := by unfold Blk.onSession; split <;> [rfl; split <;> rfl]
@[simp] theorem Blk.onSession_direct (b : Blk) (t : Nat) (f : Session → Session) : (b.onSession t f).direct = b.direct := by unfold Blk.onSession; split <;> [rfl; split <;> rfl]
@[simp] theorem Blk.onSession_regs (b : Blk) (t : Nat) (f : Session → Session) : (b.onSession t f).regs = b.regs := by unfold Blk.onSession; split <;> [rfl; split <;> rfl]
@[simp] theorem Blk.onSession_due (b : Blk) (t : Nat) (f : Session → Session) : (b.onSession t f).due = b.due := by unfold Blk.onSession; split <;> [rfl; split <;> rfl]
@[simp] theorem Blk.onSession_dueB (b : Blk) (t : Nat) (f : Session → Session) : (b.onSession t f).dueB = b.dueB := by unfold Blk.onSession; split <;> [rfl; split <;> rfl]
@[simp] theorem Blk.onSession_hA (b : Blk) (t : Nat) (f : Session → Session) : (b.onSession t f).hA = b.hA := by unfold Blk.onSession; split <;> [rfl; split <;> rfl]
@[simp] theorem Blk.onSession_hB (b : Blk) (t : Nat) (f : Session → Session) : (b.onSession t f).hB = b.hB := by unfold Blk.onSession; split <;> [rfl; split <;> rfl]
@[simp] theorem Blk.onSession_muslin (b : Blk) (t : Nat) (f : Session → Session) : (b.onSession t f).muslin = b.muslin := by unfold Blk.onSession; split <;> [rfl; split <;> rfl]
@[simp] theorem Blk.onSession_can (b : Blk) (t : Nat) (f : Session → Session) : (b.onSession t f).can = b.can := by unfold Blk.onSession; split <;> [rfl; split <;> rfl]
@[simp] theorem Blk.onSession_dev (b : Blk) (t : Nat) (f : Session → Session) : (b.onSession t f).dev = b.dev := by unfold Blk.onSession; split <;> [rfl; split <;> rfl]
@[simp] theorem Blk.onSession_path (b : Blk) (t : Nat) (f : Session → Session) : (b.onSession t f).path = b.path := by unfold Blk.onSession; split <;> [rfl; split <;> rfl]
@[simp] theorem Blk.onSession_media (b : Blk) (t : Nat) (f : Session → Session) : (b.onSession t f).media = b.media := by unfold Blk.onSession; split <;> [rfl; split <;> rfl]
@[simp] theorem Blk.onSession_velvet (b : Blk) (t : Nat) (f : Session → Session) : (b.onSession t f).velvet = b.velvet := by unfold Blk.onSession; split <;> [rfl; split <;> rfl]
@[simp] theorem Blk.onSession_twill (b : Blk) (t : Nat) (f : Session → Session) : (b.onSession t f).twill = b.twill := by unfold Blk.onSession; split <;> [rfl; split <;> rfl]
@[simp] theorem Blk.onSession_gauze (b : Blk) (t : Nat) (f : Session → Session) : (b.onSession t f).gauze = b.gauze := by unfold Blk.onSession; split <;> [rfl; split <;> rfl]
@[simp] theorem Blk.onSession_damask (b : Blk) (t : Nat) (f : Session → Session) : (b.onSession t f).damask = b.damask := by unfold Blk.onSession; split <;> [rfl; split <;> rfl]
@[simp] theorem Blk.onSession_linen (b : Blk) (t : Nat) (f : Session → Session) : (b.onSession t f).linen = b.linen := by unfold Blk.onSession; split <;> [rfl; split <;> rfl]
@[simp] theorem Blk.onSession_felt (b : Blk) (t : Nat) (f : Session → Session) : (b.onSession t f).felt = b.felt := by unfold Blk.onSession; split <;> [rfl; split <;> rfl]
@[simp] theorem Blk.onSession_tweed (b : Blk) (t : Nat) (f : Session → Session) : (b.onSession t f).tweed = b.tweed := by unfold Blk.onSession; split <;> [rfl; split <;> rfl]
@[simp] theorem Blk.onSession_canvas (b : Blk) (t : Nat) (f : Session → Session) : (b.onSession t f).canvas = b.canvas := by unfold Blk.onSession; split <;> [rfl; split <;> rfl]
@[simp] theorem Blk.onSession_clocks (b : Blk) (t : Nat) (f : Session → Session) : (b.onSession t f).clocks = b.clocks := by unfold Blk.onSession; split <;> [rfl; split <;> rfl]
@[simp] theorem Blk.onSession_thermal (b : Blk) (t : Nat) (f : Session → Session) : (b.onSession t f).thermal = b.thermal := by unfold Blk.onSession; split <;> [rfl; split <;> rfl]
@[simp] theorem Blk.onSession_modes (b : Blk) (t : Nat) (f : Session → Session) : (b.onSession t f).modes = b.modes := by unfold Blk.onSession; split <;> [rfl; split <;> rfl]
@[simp] theorem Blk.onSession_safety (b : Blk) (t : Nat) (f : Session → Session) : (b.onSession t f).safety = b.safety := by unfold Blk.onSession; split <;> [rfl; split <;> rfl]
@[simp] theorem Blk.onSession_tap (b : Blk) (t : Nat) (f : Session → Session) : (b.onSession t f).tap = b.tap := by unfold Blk.onSession; split <;> [rfl; split <;> rfl]

/-! ### What a change of another part leaves of the reads -/

@[simp] theorem Blk.emit_head (b : Blk) (o : Output) (h : Head) : (b.emit o).head h = b.head h := by cases h <;> rfl
@[simp] theorem Blk.draw_head (b : Blk) (h : Head) : (b.draw).head h = b.head h := by cases h <;> rfl
@[simp] theorem Blk.useFree_head (b : Blk) (h : Head) : (b.useFree).head h = b.head h := by cases h <;> rfl
@[simp] theorem Blk.odSet_head (b : Blk) (i j v : Nat) (h : Head) : (b.odSet i j v).head h = b.head h := by cases h <;> rfl
@[simp] theorem Blk.onSesA_head (b : Blk) (f : Session → Session) (h : Head) : (b.onSesA f).head h = b.head h := by cases h <;> rfl
@[simp] theorem Blk.onSesB_head (b : Blk) (f : Session → Session) (h : Head) : (b.onSesB f).head h = b.head h := by cases h <;> rfl
@[simp] theorem Blk.onSesC_head (b : Blk) (f : Session → Session) (h : Head) : (b.onSesC f).head h = b.head h := by cases h <;> rfl
@[simp] theorem Blk.onMuslin_head (b : Blk) (f : Muslin → Muslin) (h : Head) : (b.onMuslin f).head h = b.head h := by cases h <;> rfl
@[simp] theorem Blk.onCan_head (b : Blk) (f : Can → Can) (h : Head) : (b.onCan f).head h = b.head h := by cases h <;> rfl
@[simp] theorem Blk.onDev_head (b : Blk) (f : Device → Device) (h : Head) : (b.onDev f).head h = b.head h := by cases h <;> rfl
@[simp] theorem Blk.onPath_head (b : Blk) (f : Path → Path) (h : Head) : (b.onPath f).head h = b.head h := by cases h <;> rfl
@[simp] theorem Blk.onMedia_head (b : Blk) (f : Media → Media) (h : Head) : (b.onMedia f).head h = b.head h := by cases h <;> rfl
@[simp] theorem Blk.onVelvet_head (b : Blk) (f : Velvet → Velvet) (h : Head) : (b.onVelvet f).head h = b.head h := by cases h <;> rfl
@[simp] theorem Blk.onTwill_head (b : Blk) (f : Twill → Twill) (h : Head) : (b.onTwill f).head h = b.head h := by cases h <;> rfl
@[simp] theorem Blk.onGauze_head (b : Blk) (f : Gauze → Gauze) (h : Head) : (b.onGauze f).head h = b.head h := by cases h <;> rfl
@[simp] theorem Blk.onDamask_head (b : Blk) (f : Damask → Damask) (h : Head) : (b.onDamask f).head h = b.head h := by cases h <;> rfl
@[simp] theorem Blk.onLinen_head (b : Blk) (f : Linen → Linen) (h : Head) : (b.onLinen f).head h = b.head h := by cases h <;> rfl
@[simp] theorem Blk.onFelt_head (b : Blk) (f : Felt → Felt) (h : Head) : (b.onFelt f).head h = b.head h := by cases h <;> rfl
@[simp] theorem Blk.onTweed_head (b : Blk) (f : Tweed → Tweed) (h : Head) : (b.onTweed f).head h = b.head h := by cases h <;> rfl
@[simp] theorem Blk.onCanvas_head (b : Blk) (f : Canvas → Canvas) (h : Head) : (b.onCanvas f).head h = b.head h := by cases h <;> rfl
@[simp] theorem Blk.onClocks_head (b : Blk) (f : Clocks → Clocks) (h : Head) : (b.onClocks f).head h = b.head h := by cases h <;> rfl
@[simp] theorem Blk.onThermal_head (b : Blk) (f : Thermal → Thermal) (h : Head) : (b.onThermal f).head h = b.head h := by cases h <;> rfl
@[simp] theorem Blk.onModes_head (b : Blk) (f : Modes → Modes) (h : Head) : (b.onModes f).head h = b.head h := by cases h <;> rfl
@[simp] theorem Blk.onSafety_head (b : Blk) (f : Safety → Safety) (h : Head) : (b.onSafety f).head h = b.head h := by cases h <;> rfl
@[simp] theorem Blk.at_head (b : Blk) (a : Stamp) (h : Head) : (b.at a).head h = b.head h := by cases h <;> rfl

@[simp] theorem Blk.onHA_cfg (b : Blk) (f : HeadSt → HeadSt) (i j : Nat) : (b.onHA f).cfg i j = b.cfg i j := rfl
@[simp] theorem Blk.onHA_eff (b : Blk) (f : HeadSt → HeadSt) : (b.onHA f).eff = b.eff := rfl
@[simp] theorem Blk.onHB_cfg (b : Blk) (f : HeadSt → HeadSt) (i j : Nat) : (b.onHB f).cfg i j = b.cfg i j := rfl
@[simp] theorem Blk.onHB_eff (b : Blk) (f : HeadSt → HeadSt) : (b.onHB f).eff = b.eff := rfl
@[simp] theorem Blk.onSesA_cfg (b : Blk) (f : Session → Session) (i j : Nat) : (b.onSesA f).cfg i j = b.cfg i j := rfl
@[simp] theorem Blk.onSesA_eff (b : Blk) (f : Session → Session) : (b.onSesA f).eff = b.eff := rfl
@[simp] theorem Blk.onSesB_cfg (b : Blk) (f : Session → Session) (i j : Nat) : (b.onSesB f).cfg i j = b.cfg i j := rfl
@[simp] theorem Blk.onSesB_eff (b : Blk) (f : Session → Session) : (b.onSesB f).eff = b.eff := rfl
@[simp] theorem Blk.onSesC_cfg (b : Blk) (f : Session → Session) (i j : Nat) : (b.onSesC f).cfg i j = b.cfg i j := rfl
@[simp] theorem Blk.onSesC_eff (b : Blk) (f : Session → Session) : (b.onSesC f).eff = b.eff := rfl
@[simp] theorem Blk.onMuslin_cfg (b : Blk) (f : Muslin → Muslin) (i j : Nat) : (b.onMuslin f).cfg i j = b.cfg i j := rfl
@[simp] theorem Blk.onMuslin_eff (b : Blk) (f : Muslin → Muslin) : (b.onMuslin f).eff = b.eff := rfl
@[simp] theorem Blk.onCan_cfg (b : Blk) (f : Can → Can) (i j : Nat) : (b.onCan f).cfg i j = b.cfg i j := rfl
@[simp] theorem Blk.onCan_eff (b : Blk) (f : Can → Can) : (b.onCan f).eff = b.eff := rfl
@[simp] theorem Blk.onDev_cfg (b : Blk) (f : Device → Device) (i j : Nat) : (b.onDev f).cfg i j = b.cfg i j := rfl
@[simp] theorem Blk.onDev_eff (b : Blk) (f : Device → Device) : (b.onDev f).eff = b.eff := rfl
@[simp] theorem Blk.onPath_cfg (b : Blk) (f : Path → Path) (i j : Nat) : (b.onPath f).cfg i j = b.cfg i j := rfl
@[simp] theorem Blk.onPath_eff (b : Blk) (f : Path → Path) : (b.onPath f).eff = b.eff := rfl
@[simp] theorem Blk.onMedia_cfg (b : Blk) (f : Media → Media) (i j : Nat) : (b.onMedia f).cfg i j = b.cfg i j := rfl
@[simp] theorem Blk.onMedia_eff (b : Blk) (f : Media → Media) : (b.onMedia f).eff = b.eff := rfl
@[simp] theorem Blk.onVelvet_cfg (b : Blk) (f : Velvet → Velvet) (i j : Nat) : (b.onVelvet f).cfg i j = b.cfg i j := rfl
@[simp] theorem Blk.onVelvet_eff (b : Blk) (f : Velvet → Velvet) : (b.onVelvet f).eff = b.eff := rfl
@[simp] theorem Blk.onTwill_cfg (b : Blk) (f : Twill → Twill) (i j : Nat) : (b.onTwill f).cfg i j = b.cfg i j := rfl
@[simp] theorem Blk.onTwill_eff (b : Blk) (f : Twill → Twill) : (b.onTwill f).eff = b.eff := rfl
@[simp] theorem Blk.onGauze_cfg (b : Blk) (f : Gauze → Gauze) (i j : Nat) : (b.onGauze f).cfg i j = b.cfg i j := rfl
@[simp] theorem Blk.onGauze_eff (b : Blk) (f : Gauze → Gauze) : (b.onGauze f).eff = b.eff := rfl
@[simp] theorem Blk.onDamask_cfg (b : Blk) (f : Damask → Damask) (i j : Nat) : (b.onDamask f).cfg i j = b.cfg i j := rfl
@[simp] theorem Blk.onDamask_eff (b : Blk) (f : Damask → Damask) : (b.onDamask f).eff = b.eff := rfl
@[simp] theorem Blk.onLinen_cfg (b : Blk) (f : Linen → Linen) (i j : Nat) : (b.onLinen f).cfg i j = b.cfg i j := rfl
@[simp] theorem Blk.onLinen_eff (b : Blk) (f : Linen → Linen) : (b.onLinen f).eff = b.eff := rfl
@[simp] theorem Blk.onFelt_cfg (b : Blk) (f : Felt → Felt) (i j : Nat) : (b.onFelt f).cfg i j = b.cfg i j := rfl
@[simp] theorem Blk.onFelt_eff (b : Blk) (f : Felt → Felt) : (b.onFelt f).eff = b.eff := rfl
@[simp] theorem Blk.onTweed_cfg (b : Blk) (f : Tweed → Tweed) (i j : Nat) : (b.onTweed f).cfg i j = b.cfg i j := rfl
@[simp] theorem Blk.onTweed_eff (b : Blk) (f : Tweed → Tweed) : (b.onTweed f).eff = b.eff := rfl
@[simp] theorem Blk.onCanvas_cfg (b : Blk) (f : Canvas → Canvas) (i j : Nat) : (b.onCanvas f).cfg i j = b.cfg i j := rfl
@[simp] theorem Blk.onCanvas_eff (b : Blk) (f : Canvas → Canvas) : (b.onCanvas f).eff = b.eff := rfl
@[simp] theorem Blk.onClocks_cfg (b : Blk) (f : Clocks → Clocks) (i j : Nat) : (b.onClocks f).cfg i j = b.cfg i j := rfl
@[simp] theorem Blk.onClocks_eff (b : Blk) (f : Clocks → Clocks) : (b.onClocks f).eff = b.eff := rfl
@[simp] theorem Blk.onThermal_cfg (b : Blk) (f : Thermal → Thermal) (i j : Nat) : (b.onThermal f).cfg i j = b.cfg i j := rfl
@[simp] theorem Blk.onThermal_eff (b : Blk) (f : Thermal → Thermal) : (b.onThermal f).eff = b.eff := rfl
@[simp] theorem Blk.onSafety_cfg (b : Blk) (f : Safety → Safety) (i j : Nat) : (b.onSafety f).cfg i j = b.cfg i j := rfl
@[simp] theorem Blk.onSafety_eff (b : Blk) (f : Safety → Safety) : (b.onSafety f).eff = b.eff := rfl

/-! ### A command -/

/-- A command leaves the queue of waiting commands as it is. -/
theorem State.command_pending {s t : State} {a : Stamp} {f : Blk → Blk} (h : s.command a f = .next t) : t.pending = s.pending := by
  cases h; rfl

/-- A command answers a next state. -/
@[simp] theorem State.command_eq (s : State) (a : Stamp) (f : Blk → Blk) : s.command a f = .next { s with blk := f (s.blk.at a) } := rfl

end Sys2Proof.Machine
end

