-- ==== Sys2Proof/Laws/Frame.lean ====
section
/-! SUPPORT. How frames compose: what `Only` gives over one operation after another, over a choice, over a fold. -/

namespace Sys2Proof.Machine

open Sys2Proof.Safety

/-- The parts of `l` are among those of `m`. -/
abbrev within (l m : List Part) : Prop := (l.all fun p => m.contains p) = true

theorem within_trans {l m k : List Part} (h : within l m) (g : within m k) : within l k := by
  simp only [within, List.all_eq_true] at *
  intro p hp
  have := h p hp
  exact g p (by simpa using this)

theorem only_refl (l : List Part) (b : Blk) : Only l b b := ⟨by intro p _; cases p <;> rfl⟩

theorem same_trans {b c d : Blk} {p : Part} (h : same b c p) (g : same c d p) : same b d p := by
  cases p <;> exact Eq.trans g h

theorem only_step {m l : List Part} {b c d : Blk} (g : Only l c d) (hs : within l m) (h : Only m b c) : Only m b d := by
  refine ⟨fun p hp => same_trans (h.same p hp) (g.same p fun hl => hp ?_)⟩
  have := List.all_eq_true.1 hs p hl
  simpa using this

/-- A frame holds with more parts listed. -/
theorem Only.mono {l m : List Part} {b c : Blk} (h : Only l b c) (hs : within l m) : Only m b c := only_step h hs (only_refl m b)

theorem only_foldl {α : Type} {m : List Part} {b : Blk} {f : Blk → α → Blk} (hf : ∀ c x, Only m b c → Only m b (f c x)) :
    ∀ (l : List α) (c : Blk), Only m b c → Only m b (l.foldl f c)
  | [], _, h => h
  | x :: l, c, h => only_foldl hf l (f c x) (hf c x h)

theorem only_foldl_pair {α β : Type} {m : List Part} {b : Blk} {f : Blk × β → α → Blk × β} (hf : ∀ c x, Only m b c.1 → Only m b (f c x).1) :
    ∀ (l : List α) (c : Blk × β), Only m b c.1 → Only m b (l.foldl f c).1
  | [], _, h => h
  | x :: l, c, h => only_foldl_pair hf l (f c x) (hf c x h)

theorem only_ite {m : List Part} {b x y : Blk} {c : Prop} [Decidable c] (hx : Only m b x) (hy : Only m b y) : Only m b (if c then x else y) := by
  split <;> assumption

theorem only_ite_fst {α : Type} {m : List Part} {b : Blk} {x y : Blk × α} {c : Prop} [Decidable c] (hx : Only m b x.1) (hy : Only m b y.1) :
    Only m b (if c then x else y).1 := by
  split <;> assumption

/-- A change of the media that leaves the lines and the poison list. -/
theorem onMedia_keep {m : List Part} {b₀ b : Blk} {f : Media → Media} (hm : within [.media] m)
    (hf : ∀ x, (f x).lines = x.lines ∧ (f x).poison = x.poison) (h : Only m b₀ b) : Only m b₀ (b.onMedia f) := by
  refine only_step (l := [.media]) ?_ hm h
  refine ⟨fun p hp => ?_⟩
  cases p <;> first | rfl | exact (hf _).1 | exact (hf _).2 | exact absurd (by decide) hp

/-- A change of the lines alone. -/
theorem onMedia_lines {m : List Part} {b₀ b : Blk} {f : Media → Media} (hm : within [.lines] m)
    (hf : ∀ x, { f x with lines := [], poison := [] } = ({ x with lines := [], poison := [] } : Media) ∧ (f x).poison = x.poison) (h : Only m b₀ b) :
    Only m b₀ (b.onMedia f) := by
  refine only_step (l := [.lines]) ?_ hm h
  refine ⟨fun p hp => ?_⟩
  cases p <;> first | rfl | exact (hf _).1 | exact (hf _).2 | exact absurd (by decide) hp

/-- A change of the poison list alone. -/
theorem onMedia_poison {m : List Part} {b₀ b : Blk} {f : Media → Media} (hm : within [.poison] m)
    (hf : ∀ x, { f x with lines := [], poison := [] } = ({ x with lines := [], poison := [] } : Media) ∧ (f x).lines = x.lines) (h : Only m b₀ b) :
    Only m b₀ (b.onMedia f) := by
  refine only_step (l := [.poison]) ?_ hm h
  refine ⟨fun p hp => ?_⟩
  cases p <;> first | rfl | exact (hf _).1 | exact (hf _).2 | exact absurd (by decide) hp

/-- A change of the media that leaves the lines. -/
theorem onMedia_listed {m : List Part} {b₀ b : Blk} {f : Media → Media} (hm : within [.poison, .media] m)
    (hf : ∀ x, (f x).lines = x.lines) (h : Only m b₀ b) : Only m b₀ (b.onMedia f) := by
  refine only_step (l := [.poison, .media]) ?_ hm h
  refine ⟨fun p hp => ?_⟩
  cases p <;> first | rfl | exact hf _ | exact absurd (by decide) hp

/-- A lap's change leaves the lines and the poison list. -/
theorem onLap_keep (m : Media) (c : Cls) (f : Lap → Lap) : (m.onLap c f).lines = m.lines ∧ (m.onLap c f).poison = m.poison := by
  cases c <;> exact ⟨rfl, rfl⟩

/-- A change of the media that leaves the poison list. -/
theorem onMedia_filled {m : List Part} {b₀ b : Blk} {f : Media → Media} (hm : within [.lines, .media] m)
    (hf : ∀ x, (f x).poison = x.poison) (h : Only m b₀ b) : Only m b₀ (b.onMedia f) := by
  refine only_step (l := [.lines, .media]) ?_ hm h
  refine ⟨fun p hp => ?_⟩
  cases p <;> first | rfl | exact hf _ | exact absurd (by decide) hp

/-- An operation that may answer no block is read as one that then answers the block before it. -/
theorem only_getD {m : List Part} {b c : Blk} {o : Option Blk} (h : ∀ r, o = some r → Only m b r) (hc : Only m b c) : Only m b (o.getD c) := by
  cases o with
  | none => exact hc
  | some r => exact h r rfl

end Sys2Proof.Machine
end

