-- ==== Sys2Proof/Laws/FrameCore.lean ====
section
/-! SUPPORT. What the operations of the host path, the cache, the background work, the read and write path and the failures may change, and so what they leave as it was: one lemma for each. -/

set_option linter.all false
set_option Elab.async false

namespace Sys2Proof.Machine

open Sys2Proof.Safety

theorem Blk.onHA_only {m₀ : List Part} {b₀ : Blk} (b : Blk) (f : HeadSt → HeadSt) (hm₀ : within [.hA] m₀) (h₀ : Only m₀ b₀ b) : Only m₀ b₀ (Blk.onHA b f) := by
  refine only_step (l := [.hA]) ?_ hm₀ h₀
  refine ⟨fun p hp => ?_⟩; cases p <;> first | rfl | exact absurd (by decide) hp

theorem Blk.onHB_only {m₀ : List Part} {b₀ : Blk} (b : Blk) (f : HeadSt → HeadSt) (hm₀ : within [.hB] m₀) (h₀ : Only m₀ b₀ b) : Only m₀ b₀ (Blk.onHB b f) := by
  refine only_step (l := [.hB]) ?_ hm₀ h₀
  refine ⟨fun p hp => ?_⟩; cases p <;> first | rfl | exact absurd (by decide) hp

theorem Blk.onSesA_only {m₀ : List Part} {b₀ : Blk} (b : Blk) (f : Session → Session) (hm₀ : within [.sesA] m₀) (h₀ : Only m₀ b₀ b) : Only m₀ b₀ (Blk.onSesA b f) := by
  refine only_step (l := [.sesA]) ?_ hm₀ h₀
  refine ⟨fun p hp => ?_⟩; cases p <;> first | rfl | exact absurd (by decide) hp

theorem Blk.onSesB_only {m₀ : List Part} {b₀ : Blk} (b : Blk) (f : Session → Session) (hm₀ : within [.sesB] m₀) (h₀ : Only m₀ b₀ b) : Only m₀ b₀ (Blk.onSesB b f) := by
  refine only_step (l := [.sesB]) ?_ hm₀ h₀
  refine ⟨fun p hp => ?_⟩; cases p <;> first | rfl | exact absurd (by decide) hp

theorem Blk.onSesC_only {m₀ : List Part} {b₀ : Blk} (b : Blk) (f : Session → Session) (hm₀ : within [.sesC] m₀) (h₀ : Only m₀ b₀ b) : Only m₀ b₀ (Blk.onSesC b f) := by
  refine only_step (l := [.sesC]) ?_ hm₀ h₀
  refine ⟨fun p hp => ?_⟩; cases p <;> first | rfl | exact absurd (by decide) hp

theorem Blk.onMuslin_only {m₀ : List Part} {b₀ : Blk} (b : Blk) (f : Muslin → Muslin) (hm₀ : within [.muslin] m₀) (h₀ : Only m₀ b₀ b) : Only m₀ b₀ (Blk.onMuslin b f) := by
  refine only_step (l := [.muslin]) ?_ hm₀ h₀
  refine ⟨fun p hp => ?_⟩; cases p <;> first | rfl | exact absurd (by decide) hp

theorem Blk.onCan_only {m₀ : List Part} {b₀ : Blk} (b : Blk) (f : Can → Can) (hm₀ : within [.can] m₀) (h₀ : Only m₀ b₀ b) : Only m₀ b₀ (Blk.onCan b f) := by
  refine only_step (l := [.can]) ?_ hm₀ h₀
  refine ⟨fun p hp => ?_⟩; cases p <;> first | rfl | exact absurd (by decide) hp

theorem Blk.onDev_only {m₀ : List Part} {b₀ : Blk} (b : Blk) (f : Device → Device) (hm₀ : within [.dev] m₀) (h₀ : Only m₀ b₀ b) : Only m₀ b₀ (Blk.onDev b f) := by
  refine only_step (l := [.dev]) ?_ hm₀ h₀
  refine ⟨fun p hp => ?_⟩; cases p <;> first | rfl | exact absurd (by decide) hp

theorem Blk.onPath_only {m₀ : List Part} {b₀ : Blk} (b : Blk) (f : Path → Path) (hm₀ : within [.path] m₀) (h₀ : Only m₀ b₀ b) : Only m₀ b₀ (Blk.onPath b f) := by
  refine only_step (l := [.path]) ?_ hm₀ h₀
  refine ⟨fun p hp => ?_⟩; cases p <;> first | rfl | exact absurd (by decide) hp

theorem Blk.onMedia_only {m₀ : List Part} {b₀ : Blk} (b : Blk) (f : Media → Media) (hm₀ : within [.lines, .poison, .media] m₀) (h₀ : Only m₀ b₀ b) : Only m₀ b₀ (Blk.onMedia b f) := by
  refine only_step (l := [.lines, .poison, .media]) ?_ hm₀ h₀
  refine ⟨fun p hp => ?_⟩; cases p <;> first | rfl | exact absurd (by decide) hp

theorem Blk.onVelvet_only {m₀ : List Part} {b₀ : Blk} (b : Blk) (f : Velvet → Velvet) (hm₀ : within [.velvet] m₀) (h₀ : Only m₀ b₀ b) : Only m₀ b₀ (Blk.onVelvet b f) := by
  refine only_step (l := [.velvet]) ?_ hm₀ h₀
  refine ⟨fun p hp => ?_⟩; cases p <;> first | rfl | exact absurd (by decide) hp

theorem Blk.onTwill_only {m₀ : List Part} {b₀ : Blk} (b : Blk) (f : Twill → Twill) (hm₀ : within [.twill] m₀) (h₀ : Only m₀ b₀ b) : Only m₀ b₀ (Blk.onTwill b f) := by
  refine only_step (l := [.twill]) ?_ hm₀ h₀
  refine ⟨fun p hp => ?_⟩; cases p <;> first | rfl | exact absurd (by decide) hp

theorem Blk.onGauze_only {m₀ : List Part} {b₀ : Blk} (b : Blk) (f : Gauze → Gauze) (hm₀ : within [.gauze] m₀) (h₀ : Only m₀ b₀ b) : Only m₀ b₀ (Blk.onGauze b f) := by
  refine only_step (l := [.gauze]) ?_ hm₀ h₀
  refine ⟨fun p hp => ?_⟩; cases p <;> first | rfl | exact absurd (by decide) hp

theorem Blk.onDamask_only {m₀ : List Part} {b₀ : Blk} (b : Blk) (f : Damask → Damask) (hm₀ : within [.damask] m₀) (h₀ : Only m₀ b₀ b) : Only m₀ b₀ (Blk.onDamask b f) := by
  refine only_step (l := [.damask]) ?_ hm₀ h₀
  refine ⟨fun p hp => ?_⟩; cases p <;> first | rfl | exact absurd (by decide) hp

theorem Blk.onLinen_only {m₀ : List Part} {b₀ : Blk} (b : Blk) (f : Linen → Linen) (hm₀ : within [.linen] m₀) (h₀ : Only m₀ b₀ b) : Only m₀ b₀ (Blk.onLinen b f) := by
  refine only_step (l := [.linen]) ?_ hm₀ h₀
  refine ⟨fun p hp => ?_⟩; cases p <;> first | rfl | exact absurd (by decide) hp

theorem Blk.onFelt_only {m₀ : List Part} {b₀ : Blk} (b : Blk) (f : Felt → Felt) (hm₀ : within [.felt] m₀) (h₀ : Only m₀ b₀ b) : Only m₀ b₀ (Blk.onFelt b f) := by
  refine only_step (l := [.felt]) ?_ hm₀ h₀
  refine ⟨fun p hp => ?_⟩; cases p <;> first | rfl | exact absurd (by decide) hp

theorem Blk.onTweed_only {m₀ : List Part} {b₀ : Blk} (b : Blk) (f : Tweed → Tweed) (hm₀ : within [.tweed] m₀) (h₀ : Only m₀ b₀ b) : Only m₀ b₀ (Blk.onTweed b f) := by
  refine only_step (l := [.tweed]) ?_ hm₀ h₀
  refine ⟨fun p hp => ?_⟩; cases p <;> first | rfl | exact absurd (by decide) hp

theorem Blk.onCanvas_only {m₀ : List Part} {b₀ : Blk} (b : Blk) (f : Canvas → Canvas) (hm₀ : within [.canvas] m₀) (h₀ : Only m₀ b₀ b) : Only m₀ b₀ (Blk.onCanvas b f) := by
  refine only_step (l := [.canvas]) ?_ hm₀ h₀
  refine ⟨fun p hp => ?_⟩; cases p <;> first | rfl | exact absurd (by decide) hp

theorem Blk.onClocks_only {m₀ : List Part} {b₀ : Blk} (b : Blk) (f : Clocks → Clocks) (hm₀ : within [.clocks] m₀) (h₀ : Only m₀ b₀ b) : Only m₀ b₀ (Blk.onClocks b f) := by
  refine only_step (l := [.clocks]) ?_ hm₀ h₀
  refine ⟨fun p hp => ?_⟩; cases p <;> first | rfl | exact absurd (by decide) hp

theorem Blk.onThermal_only {m₀ : List Part} {b₀ : Blk} (b : Blk) (f : Thermal → Thermal) (hm₀ : within [.thermal] m₀) (h₀ : Only m₀ b₀ b) : Only m₀ b₀ (Blk.onThermal b f) := by
  refine only_step (l := [.thermal]) ?_ hm₀ h₀
  refine ⟨fun p hp => ?_⟩; cases p <;> first | rfl | exact absurd (by decide) hp

theorem Blk.onModes_only {m₀ : List Part} {b₀ : Blk} (b : Blk) (f : Modes → Modes) (hm₀ : within [.modes] m₀) (h₀ : Only m₀ b₀ b) : Only m₀ b₀ (Blk.onModes b f) := by
  refine only_step (l := [.modes]) ?_ hm₀ h₀
  refine ⟨fun p hp => ?_⟩; cases p <;> first | rfl | exact absurd (by decide) hp

theorem Blk.onSafety_only {m₀ : List Part} {b₀ : Blk} (b : Blk) (f : Safety → Safety) (hm₀ : within [.safety] m₀) (h₀ : Only m₀ b₀ b) : Only m₀ b₀ (Blk.onSafety b f) := by
  refine only_step (l := [.safety]) ?_ hm₀ h₀
  refine ⟨fun p hp => ?_⟩; cases p <;> first | rfl | exact absurd (by decide) hp

theorem Blk.onHead_only {m₀ : List Part} {b₀ : Blk} (b : Blk) (h : Head) (f : HeadSt → HeadSt) (hm₀ : within [.hA, .hB] m₀) (h₀ : Only m₀ b₀ b) : Only m₀ b₀ (Blk.onHead b h f) := by
  refine only_step (l := [.hA, .hB]) ?_ hm₀ h₀
  unfold Blk.onHead
  repeat (first | assumption | with_reducible apply only_refl | (with_reducible apply Blk.onHA_only <;> [decide; skip]) | (with_reducible apply Blk.onHB_only <;> [decide; skip]) | split)

theorem Blk.at_only {m₀ : List Part} {b₀ : Blk} (b : Blk) (a : Stamp) (hm₀ : within [.now, .nvwp] m₀) (h₀ : Only m₀ b₀ b) : Only m₀ b₀ (Blk.at b a) := by
  refine only_step (l := [.now, .nvwp]) ?_ hm₀ h₀
  refine ⟨fun p hp => ?_⟩; cases p <;> first | rfl | exact absurd (by decide) hp

theorem Blk.emit_only {m₀ : List Part} {b₀ : Blk} (b : Blk) (o : Output) (hm₀ : within [.out] m₀) (h₀ : Only m₀ b₀ b) : Only m₀ b₀ (Blk.emit b o) := by
  refine only_step (l := [.out]) ?_ hm₀ h₀
  refine ⟨fun p hp => ?_⟩; cases p <;> first | rfl | exact absurd (by decide) hp

theorem Blk.draw_only {m₀ : List Part} {b₀ : Blk} (b : Blk) (hm₀ : within [.rng] m₀) (h₀ : Only m₀ b₀ b) : Only m₀ b₀ (Blk.draw b) := by
  refine only_step (l := [.rng]) ?_ hm₀ h₀
  refine ⟨fun p hp => ?_⟩; cases p <;> first | rfl | exact absurd (by decide) hp

theorem Blk.useFree_only {m₀ : List Part} {b₀ : Blk} (b : Blk) (hm₀ : within [.free] m₀) (h₀ : Only m₀ b₀ b) : Only m₀ b₀ (Blk.useFree b) := by
  refine only_step (l := [.free]) ?_ hm₀ h₀
  refine ⟨fun p hp => ?_⟩; cases p <;> first | rfl | exact absurd (by decide) hp

theorem Blk.odSet_only {m₀ : List Part} {b₀ : Blk} (b : Blk) (idx sub v : Nat) (hm₀ : within [.od] m₀) (h₀ : Only m₀ b₀ b) : Only m₀ b₀ (Blk.odSet b idx sub v) := by
  refine only_step (l := [.od]) ?_ hm₀ h₀
  refine ⟨fun p hp => ?_⟩; cases p <;> first | rfl | exact absurd (by decide) hp

theorem Blk.bump_only {m₀ : List Part} {b₀ : Blk} (b : Blk) (idx sub n : Nat) (hm₀ : within [.od] m₀) (h₀ : Only m₀ b₀ b) : Only m₀ b₀ (Blk.bump b idx sub n) := by
  refine only_step (l := [.od]) ?_ hm₀ h₀
  unfold Blk.bump
  repeat (first | assumption | with_reducible apply only_refl | (with_reducible apply Blk.odSet_only <;> [decide; skip]))

theorem Blk.bump32_only {m₀ : List Part} {b₀ : Blk} (b : Blk) (idx sub n : Nat) (hm₀ : within [.od] m₀) (h₀ : Only m₀ b₀ b) : Only m₀ b₀ (Blk.bump32 b idx sub n) := by
  refine only_step (l := [.od]) ?_ hm₀ h₀
  unfold Blk.bump32
  repeat (first | assumption | with_reducible apply only_refl | (with_reducible apply Blk.odSet_only <;> [decide; skip]))

theorem Blk.raise_only {m₀ : List Part} {b₀ : Blk} (b : Blk) (h : Head) (entry : Nat) (hm₀ : within [.out] m₀) (h₀ : Only m₀ b₀ b) : Only m₀ b₀ (Blk.raise b h entry) := by
  refine only_step (l := [.out]) ?_ hm₀ h₀
  unfold Blk.raise
  repeat (first | assumption | with_reducible apply only_refl | (with_reducible apply Blk.emit_only <;> [decide; skip]) | split)

theorem Blk.logTo_only {m₀ : List Part} {b₀ : Blk} (b : Blk) (h : Head) (l : EvLog) (r : EvRec) (hm₀ : within [.out, .hA, .hB] m₀) (h₀ : Only m₀ b₀ b) : Only m₀ b₀ (Blk.logTo b h l r) := by
  refine only_step (l := [.out, .hA, .hB]) ?_ hm₀ h₀
  unfold Blk.logTo
  repeat (first | assumption | with_reducible apply only_refl | (with_reducible apply Blk.onHead_only <;> [decide; skip]) | (with_reducible apply Blk.raise_only <;> [decide; skip]) | extract_lets | split | (dsimp +zetaDelta only))

theorem Blk.canPump_only {m₀ : List Part} {b₀ : Blk} (n : Nat) (b : Blk) (hm₀ : within [.out, .can] m₀) (h₀ : Only m₀ b₀ b) : Only m₀ b₀ (Blk.canPump n b) := by
  induction n generalizing b with
  | zero => exact h₀
  | succ n ih =>
    have hs {l : List Part} (hl : within l [.out, .can]) : within l m₀ := within_trans hl hm₀
    unfold Blk.canPump
    extract_lets b1
    have h1 : Only m₀ b₀ b1 := only_ite (Blk.onCan_only _ _ (hs (by decide)) h₀) h₀
    split
    · exact h1
    · exact only_ite (ih _ (Blk.emit_only _ _ (hs (by decide)) (Blk.onCan_only _ _ (hs (by decide)) h1))) h1

theorem Blk.notify_only {m₀ : List Part} {b₀ : Blk} (b : Blk) (sev : Nat) (code : BitVec 16) (cls : BitVec 8) (unit : BitVec 16) (seq : Nat) (dpa : Option Nat) (hm₀ : within [.out, .od, .can] m₀) (h₀ : Only m₀ b₀ b) : Only m₀ b₀ (Blk.notify b sev code cls unit seq dpa) := by
  refine only_step (l := [.out, .od, .can]) ?_ hm₀ h₀
  unfold Blk.notify
  repeat (first | assumption | with_reducible apply only_refl | (with_reducible apply Blk.onCan_only <;> [decide; skip]) | (with_reducible apply Blk.bump_only <;> [decide; skip]) | (with_reducible apply Blk.canPump_only <;> [decide; skip]) | with_reducible apply only_ite | extract_lets | (refine ⟨fun p hp => ?_⟩; cases p <;> first | rfl | exact absurd (by decide) hp) | (dsimp +zetaDelta only))

theorem Blk.deliver_only {m₀ : List Part} {b₀ : Blk} (b : Blk) (r : LRec) (storm second : Nat) (hm₀ : within [.out, .od, .hA, .hB, .can] m₀) (h₀ : Only m₀ b₀ b) : Only m₀ b₀ (Blk.deliver b r storm second) := by
  refine only_step (l := [.out, .od, .hA, .hB, .can]) ?_ hm₀ h₀
  unfold Blk.deliver
  repeat (first | assumption | with_reducible apply only_refl | (with_reducible apply Blk.logTo_only <;> [decide; skip]) | (with_reducible apply Blk.notify_only <;> [decide; skip]) | (with_reducible refine only_foldl (fun c x hc => ?_) _ _ ?_) | extract_lets | split | (dsimp +zetaDelta only))

theorem Blk.drop_only {m₀ : List Part} {b₀ : Blk} (b : Blk) (sev : Nat) (hm₀ : within [.od] m₀) (h₀ : Only m₀ b₀ b) : Only m₀ b₀ (Blk.drop b sev) := by
  refine only_step (l := [.od]) ?_ hm₀ h₀
  unfold Blk.drop
  repeat (first | assumption | with_reducible apply only_refl | (with_reducible apply Blk.odSet_only <;> [decide; skip]) | (with_reducible apply Blk.bump_only <;> [decide; skip]) | with_reducible apply only_ite | extract_lets | (dsimp +zetaDelta only))

theorem Blk.stageRec_only {m₀ : List Part} {b₀ : Blk} (b : Blk) (r : LRec) (hm₀ : within [.od, .linen] m₀) (h₀ : Only m₀ b₀ b) : Only m₀ b₀ (Blk.stageRec b r) := by
  refine only_step (l := [.od, .linen]) ?_ hm₀ h₀
  unfold Blk.stageRec
  repeat (first | assumption | with_reducible apply only_refl | (with_reducible apply Blk.onLinen_only <;> [decide; skip]) | (with_reducible apply Blk.drop_only <;> [decide; skip]) | with_reducible apply only_ite | split)

theorem Blk.ringRec_only {m₀ : List Part} {b₀ : Blk} (b : Blk) (r : LRec) (hm₀ : within [.od, .linen] m₀) (h₀ : Only m₀ b₀ b) : Only m₀ b₀ (Blk.ringRec b r) := by
  refine only_step (l := [.od, .linen]) ?_ hm₀ h₀
  unfold Blk.ringRec
  repeat (first | assumption | with_reducible apply only_refl | (with_reducible apply Blk.onLinen_only <;> [decide; skip]) | (with_reducible apply Blk.drop_only <;> [decide; skip]) | with_reducible apply only_ite | split)

theorem Blk.ringNext_only {m₀ : List Part} {b₀ : Blk} (b : Blk) (hm₀ : within [.od, .linen] m₀) (h₀ : Only m₀ b₀ b) : Only m₀ b₀ (Blk.ringNext b) := by
  refine only_step (l := [.od, .linen]) ?_ hm₀ h₀
  unfold Blk.ringNext
  repeat (first | assumption | with_reducible apply only_refl | (with_reducible apply Blk.onLinen_only <;> [decide; skip]) | (with_reducible apply Blk.ringRec_only <;> [decide; skip]) | extract_lets | split | (dsimp +zetaDelta only))

theorem Blk.admitRec_only {m₀ : List Part} {b₀ : Blk} (b : Blk) (n : Nat) (hm₀ : within [.od, .linen] m₀) (h₀ : Only m₀ b₀ b) : Only m₀ b₀ (Blk.admitRec b n) := by
  refine only_step (l := [.od, .linen]) ?_ hm₀ h₀
  unfold Blk.admitRec
  repeat (first | assumption | with_reducible apply only_refl | (with_reducible apply Blk.onLinen_only <;> [decide; skip]) | (with_reducible apply Blk.ringNext_only <;> [decide; skip]) | with_reducible apply only_ite | extract_lets | (dsimp +zetaDelta only))

theorem Blk.createRec_only {m₀ : List Part} {b₀ : Blk} (b : Blk) (r : LRec) (hm₀ : within [.od, .linen] m₀) (h₀ : Only m₀ b₀ b) : Only m₀ b₀ (Blk.createRec b r) := by
  refine only_step (l := [.od, .linen]) ?_ hm₀ h₀
  unfold Blk.createRec
  repeat (first | assumption | with_reducible apply only_refl | (with_reducible apply Blk.onLinen_only <;> [decide; skip]) | (with_reducible apply Blk.bump_only <;> [decide; skip]) | (with_reducible apply Blk.stageRec_only <;> [decide; skip]) | (with_reducible apply Blk.ringRec_only <;> [decide; skip]) | (with_reducible apply Blk.admitRec_only <;> [decide; skip]) | with_reducible apply only_ite | extract_lets | (dsimp +zetaDelta only))

theorem Blk.onChan_only {m₀ : List Part} {b₀ : Blk} (b : Blk) (c : Nat) (f : ChanSt → ChanSt) (hm₀ : within [.media] m₀) (h₀ : Only m₀ b₀ b) : Only m₀ b₀ (Blk.onChan b c f) := by
  refine only_step (l := [.media]) ?_ hm₀ h₀
  unfold Blk.onChan
  repeat (first | assumption | with_reducible apply only_refl | (with_reducible apply onMedia_keep <;> [decide; (intro; exact ⟨rfl, rfl⟩); skip]))

theorem Blk.onDie_only {m₀ : List Part} {b₀ : Blk} (b : Blk) (d : Nat) (f : DieSt → DieSt) (hm₀ : within [.media] m₀) (h₀ : Only m₀ b₀ b) : Only m₀ b₀ (Blk.onDie b d f) := by
  refine only_step (l := [.media]) ?_ hm₀ h₀
  unfold Blk.onDie
  repeat (first | assumption | with_reducible apply only_refl | (with_reducible apply onMedia_keep <;> [decide; (intro; exact ⟨rfl, rfl⟩); skip]))

theorem Blk.reportOnce_only {m₀ : List Part} {b₀ : Blk} (b : Blk) (q : Report) (hm₀ : within [.out, .od, .hA, .hB, .can, .linen] m₀) (h₀ : Only m₀ b₀ b) : Only m₀ b₀ (Blk.reportOnce b q) := by
  refine only_step (l := [.out, .od, .hA, .hB, .can, .linen]) ?_ hm₀ h₀
  unfold Blk.reportOnce
  repeat (first | assumption | with_reducible apply only_refl | (with_reducible apply Blk.onLinen_only <;> [decide; skip]) | (with_reducible apply Blk.bump_only <;> [decide; skip]) | (with_reducible apply Blk.deliver_only <;> [decide; skip]) | (with_reducible apply Blk.createRec_only <;> [decide; skip]) | with_reducible apply only_ite | extract_lets | split | (dsimp +zetaDelta only))

theorem Blk.report_only {m₀ : List Part} {b₀ : Blk} (b : Blk) (q : Report) (hm₀ : within [.out, .od, .hA, .hB, .can, .linen] m₀) (h₀ : Only m₀ b₀ b) : Only m₀ b₀ (Blk.report b q) := by
  refine only_step (l := [.out, .od, .hA, .hB, .can, .linen]) ?_ hm₀ h₀
  unfold Blk.report
  repeat (first | assumption | with_reducible apply only_refl | (with_reducible apply Blk.reportOnce_only <;> [decide; skip]) | with_reducible apply only_ite | extract_lets | (dsimp +zetaDelta only))

theorem Blk.reportUnit_only {m₀ : List Part} {b₀ : Blk} (b : Blk) (code : BitVec 16) (cls : BitVec 8) (unit : Nat) (dpa : Option Nat := none) (hm₀ : within [.out, .od, .hA, .hB, .can, .linen] m₀) (h₀ : Only m₀ b₀ b) : Only m₀ b₀ (Blk.reportUnit b code cls unit dpa) := by
  refine only_step (l := [.out, .od, .hA, .hB, .can, .linen]) ?_ hm₀ h₀
  unfold Blk.reportUnit
  repeat (first | assumption | with_reducible apply only_refl | (with_reducible apply Blk.report_only <;> [decide; skip]))

theorem Blk.closeWindow_only {m₀ : List Part} {b₀ : Blk} (b : Blk) (w : Window) (hm₀ : within [.out, .od, .hA, .hB, .can, .linen] m₀) (h₀ : Only m₀ b₀ b) : Only m₀ b₀ (Blk.closeWindow b w) := by
  refine only_step (l := [.out, .od, .hA, .hB, .can, .linen]) ?_ hm₀ h₀
  unfold Blk.closeWindow
  repeat (first | assumption | with_reducible apply only_refl | (with_reducible apply Blk.onLinen_only <;> [decide; skip]) | (with_reducible apply Blk.bump_only <;> [decide; skip]) | (with_reducible apply Blk.deliver_only <;> [decide; skip]) | (with_reducible apply Blk.createRec_only <;> [decide; skip]) | with_reducible apply only_ite | extract_lets | split | (dsimp +zetaDelta only))

theorem Blk.mbReply_only {m₀ : List Part} {b₀ : Blk} (b : Blk) (h : Head) (op : Nat) (rc : Rc) (out : List Nat) (hm₀ : within [.out] m₀) (h₀ : Only m₀ b₀ b) : Only m₀ b₀ (Blk.mbReply b h op rc out) := by
  refine only_step (l := [.out]) ?_ hm₀ h₀
  unfold Blk.mbReply
  repeat (first | assumption | with_reducible apply only_refl | (with_reducible apply Blk.emit_only <;> [decide; skip]) | (with_reducible apply Blk.raise_only <;> [decide; skip]) | with_reducible apply only_ite | extract_lets | (dsimp +zetaDelta only))

theorem Blk.canSend_only {m₀ : List Part} {b₀ : Blk} (b : Blk) (f : BitVec 512) (hm₀ : within [.out] m₀) (h₀ : Only m₀ b₀ b) : Only m₀ b₀ (Blk.canSend b f) := by
  refine only_step (l := [.out]) ?_ hm₀ h₀
  unfold Blk.canSend
  repeat (first | assumption | with_reducible apply only_refl | (with_reducible apply Blk.emit_only <;> [decide; skip]) | with_reducible apply only_ite)

theorem Blk.reply_only {m₀ : List Part} {b₀ : Blk} (b : Blk) (src : Src) (r : Reply) (hm₀ : within [.out, .can] m₀) (h₀ : Only m₀ b₀ b) : Only m₀ b₀ (Blk.reply b src r) := by
  refine only_step (l := [.out, .can]) ?_ hm₀ h₀
  unfold Blk.reply
  repeat (first | assumption | with_reducible apply only_refl | (with_reducible apply Blk.onCan_only <;> [decide; skip]) | (with_reducible apply Blk.mbReply_only <;> [decide; skip]) | (with_reducible apply Blk.canSend_only <;> [decide; skip]) | with_reducible apply only_ite | extract_lets | split | (refine ⟨fun p hp => ?_⟩; cases p <;> first | rfl | exact absurd (by decide) hp) | (dsimp +zetaDelta only))

theorem Blk.onSession_only {m₀ : List Part} {b₀ : Blk} (b : Blk) (t : Nat) (f : Session → Session) (hm₀ : within [.sesA, .sesB, .sesC] m₀) (h₀ : Only m₀ b₀ b) : Only m₀ b₀ (Blk.onSession b t f) := by
  refine only_step (l := [.sesA, .sesB, .sesC]) ?_ hm₀ h₀
  unfold Blk.onSession
  repeat (first | assumption | with_reducible apply only_refl | (with_reducible apply Blk.onSesA_only <;> [decide; skip]) | (with_reducible apply Blk.onSesB_only <;> [decide; skip]) | (with_reducible apply Blk.onSesC_only <;> [decide; skip]) | with_reducible apply only_ite)

theorem Blk.tw_only {m₀ : List Part} {b₀ : Blk} (b : Blk) (i c : Nat) (hm₀ : within [.tweed] m₀) (h₀ : Only m₀ b₀ b) : Only m₀ b₀ (Blk.tw b i c) := by
  refine only_step (l := [.tweed]) ?_ hm₀ h₀
  unfold Blk.tw
  repeat (first | assumption | with_reducible apply only_refl | (with_reducible apply Blk.onTweed_only <;> [decide; skip]) | extract_lets | (dsimp +zetaDelta only))

theorem Blk.twEvent_only {m₀ : List Part} {b₀ : Blk} (b : Blk) (group event unit head c : Nat) (hm₀ : within [.tweed] m₀) (h₀ : Only m₀ b₀ b) : Only m₀ b₀ (Blk.twEvent b group event unit head c) := by
  refine only_step (l := [.tweed]) ?_ hm₀ h₀
  unfold Blk.twEvent
  repeat (first | assumption | with_reducible apply only_refl | (with_reducible apply Blk.tw_only <;> [decide; skip]) | (with_reducible refine only_foldl (fun c x hc => ?_) _ _ ?_))

theorem Blk.twEngine_only {m₀ : List Part} {b₀ : Blk} (b : Blk) (base : Nat) (hm₀ : within [.free, .tweed] m₀) (h₀ : Only m₀ b₀ b) : Only m₀ b₀ (Blk.twEngine b base) := by
  refine only_step (l := [.free, .tweed]) ?_ hm₀ h₀
  unfold Blk.twEngine
  repeat (first | assumption | with_reducible apply only_refl | (with_reducible apply Blk.useFree_only <;> [decide; skip]) | (with_reducible apply Blk.twEvent_only <;> [decide; skip]) | with_reducible apply only_ite | extract_lets | (dsimp +zetaDelta only))

theorem Blk.twHead_only {m₀ : List Part} {b₀ : Blk} (b : Blk) (h : Head) (off c : Nat) (hm₀ : within [.tweed] m₀) (h₀ : Only m₀ b₀ b) : Only m₀ b₀ (Blk.twHead b h off c) := by
  refine only_step (l := [.tweed]) ?_ hm₀ h₀
  unfold Blk.twHead
  repeat (first | assumption | with_reducible apply only_refl | (with_reducible apply Blk.tw_only <;> [decide; skip]))

theorem Blk.twHost_only {m₀ : List Part} {b₀ : Blk} (b : Blk) (h : Head) (event c : Nat) (hm₀ : within [.tweed] m₀) (h₀ : Only m₀ b₀ b) : Only m₀ b₀ (Blk.twHost b h event c) := by
  refine only_step (l := [.tweed]) ?_ hm₀ h₀
  unfold Blk.twHost
  repeat (first | assumption | with_reducible apply only_refl | (with_reducible apply Blk.twEvent_only <;> [decide; skip]))

theorem Blk.twChan_only {m₀ : List Part} {b₀ : Blk} (b : Blk) (ch event : Nat) (hm₀ : within [.free, .tweed] m₀) (h₀ : Only m₀ b₀ b) : Only m₀ b₀ (Blk.twChan b ch event) := by
  refine only_step (l := [.free, .tweed]) ?_ hm₀ h₀
  unfold Blk.twChan
  repeat (first | assumption | with_reducible apply only_refl | (with_reducible apply Blk.twEvent_only <;> [decide; skip]) | (with_reducible apply Blk.twEngine_only <;> [decide; skip]) | with_reducible apply only_ite | extract_lets | (dsimp +zetaDelta only))

theorem Blk.twDie_only {m₀ : List Part} {b₀ : Blk} (b : Blk) (d event c : Nat) (hm₀ : within [.tweed] m₀) (h₀ : Only m₀ b₀ b) : Only m₀ b₀ (Blk.twDie b d event c) := by
  refine only_step (l := [.tweed]) ?_ hm₀ h₀
  unfold Blk.twDie
  repeat (first | assumption | with_reducible apply only_refl | (with_reducible apply Blk.twEvent_only <;> [decide; skip]))

theorem Blk.dieBusy_only {m₀ : List Part} {b₀ : Blk} (b : Blk) (d ns : Nat) (hm₀ : within [.media, .tweed] m₀) (h₀ : Only m₀ b₀ b) : Only m₀ b₀ (Blk.dieBusy b d ns) := by
  refine only_step (l := [.media, .tweed]) ?_ hm₀ h₀
  unfold Blk.dieBusy
  repeat (first | assumption | with_reducible apply only_refl | (with_reducible apply Blk.onDie_only <;> [decide; skip]) | (with_reducible apply Blk.twDie_only <;> [decide; skip]) | extract_lets | (dsimp +zetaDelta only))

theorem Blk.ringLine_only {m₀ : List Part} {b₀ : Blk} (b : Blk) (items : List (BitVec 32 × Bool)) (hm₀ : within [.out, .od, .hA, .hB, .can, .linen, .tweed] m₀) (h₀ : Only m₀ b₀ b) : Only m₀ b₀ (Blk.ringLine b items) := by
  refine only_step (l := [.out, .od, .hA, .hB, .can, .linen, .tweed]) ?_ hm₀ h₀
  unfold Blk.ringLine
  repeat (first | assumption | with_reducible apply only_refl | (with_reducible apply Blk.onHA_only <;> [decide; skip]) | (with_reducible apply Blk.onHB_only <;> [decide; skip]) | (with_reducible apply Blk.onTweed_only <;> [decide; skip]) | (with_reducible apply Blk.reportUnit_only <;> [decide; skip]) | (with_reducible refine only_foldl (fun c x hc => ?_) _ _ ?_) | with_reducible apply only_ite | extract_lets | (dsimp +zetaDelta only))

theorem Blk.drainItems_only {m₀ : List Part} {b₀ : Blk} (n : Nat) (b : Blk) (items : List (BitVec 32 × Bool)) (hm₀ : within [.out, .od, .hA, .hB, .can, .linen, .tweed] m₀) (h₀ : Only m₀ b₀ b) : Only m₀ b₀ (Blk.drainItems n b items) := by
  induction n generalizing b items with
  | zero => exact h₀
  | succ n ih =>
    have hs {l : List Part} (hl : within l [.out, .od, .hA, .hB, .can, .linen, .tweed]) : within l m₀ := within_trans hl hm₀
    cases items with
    | nil => exact h₀
    | cons x l => exact ih _ _ (Blk.ringLine_only _ _ (hs (by decide)) h₀)

theorem Blk.bankSwap_only {m₀ : List Part} {b₀ : Blk} (b : Blk) (hm₀ : within [.out, .od, .hA, .hB, .can, .linen, .tweed] m₀) (h₀ : Only m₀ b₀ b) : Only m₀ b₀ (Blk.bankSwap b) := by
  refine only_step (l := [.out, .od, .hA, .hB, .can, .linen, .tweed]) ?_ hm₀ h₀
  unfold Blk.bankSwap
  repeat (first | assumption | with_reducible apply only_refl | (with_reducible apply Blk.onTweed_only <;> [decide; skip]) | (with_reducible apply Blk.drainItems_only <;> [decide; skip]))

theorem Blk.pushItem_only {m₀ : List Part} {b₀ : Blk} (b : Blk) (x : BitVec 32 × Bool) (hm₀ : within [.out, .od, .hA, .hB, .can, .linen, .tweed] m₀) (h₀ : Only m₀ b₀ b) : Only m₀ b₀ (Blk.pushItem b x) := by
  refine only_step (l := [.out, .od, .hA, .hB, .can, .linen, .tweed]) ?_ hm₀ h₀
  unfold Blk.pushItem
  repeat (first | assumption | with_reducible apply only_refl | (with_reducible apply Blk.onTweed_only <;> [decide; skip]) | (with_reducible apply Blk.bankSwap_only <;> [decide; skip]) | with_reducible apply only_ite | extract_lets | (dsimp +zetaDelta only))

theorem Blk.pushPacket_only {m₀ : List Part} {b₀ : Blk} (b : Blk) (type source : Nat) (items : List (BitVec 32)) (hm₀ : within [.out, .od, .hA, .hB, .can, .linen, .tweed] m₀) (h₀ : Only m₀ b₀ b) : Only m₀ b₀ (Blk.pushPacket b type source items) := by
  refine only_step (l := [.out, .od, .hA, .hB, .can, .linen, .tweed]) ?_ hm₀ h₀
  unfold Blk.pushPacket
  repeat (first | assumption | with_reducible apply only_refl | (with_reducible apply Blk.pushItem_only <;> [decide; skip]) | (with_reducible refine only_foldl (fun c x hc => ?_) _ _ ?_))

theorem Blk.sampleOut_only {m₀ : List Part} {b₀ : Blk} (b : Blk) (x : Acc) (poison : Bool) (hm₀ : within [.free, .out, .od, .hA, .hB, .can, .linen, .tweed] m₀) (h₀ : Only m₀ b₀ b) : Only m₀ b₀ (Blk.sampleOut b x poison) := by
  refine only_step (l := [.free, .out, .od, .hA, .hB, .can, .linen, .tweed]) ?_ hm₀ h₀
  unfold Blk.sampleOut
  repeat (first | assumption | with_reducible apply only_refl | (with_reducible apply Blk.useFree_only <;> [decide; skip]) | (with_reducible apply Blk.bump_only <;> [decide; skip]) | (with_reducible apply Blk.pushPacket_only <;> [decide; skip]) | with_reducible apply only_ite | extract_lets | (dsimp +zetaDelta only))

theorem Blk.discardStaged_only {m₀ : List Part} {b₀ : Blk} (b : Blk) (result rule : Nat) (hm₀ : within [.out, .od, .muslin, .can] m₀) (h₀ : Only m₀ b₀ b) : Only m₀ b₀ (Blk.discardStaged b result rule) := by
  refine only_step (l := [.out, .od, .muslin, .can]) ?_ hm₀ h₀
  unfold Blk.discardStaged
  repeat (first | assumption | with_reducible apply only_refl | (with_reducible apply Blk.onMuslin_only <;> [decide; skip]) | (with_reducible apply Blk.odSet_only <;> [decide; skip]) | (with_reducible apply Blk.reply_only <;> [decide; skip]) | extract_lets | split | (dsimp +zetaDelta only))

theorem Blk.gateCount_only {m₀ : List Part} {b₀ : Blk} (b : Blk) (old new : Nat) (hm₀ : within [.od] m₀) (h₀ : Only m₀ b₀ b) : Only m₀ b₀ (Blk.gateCount b old new) := by
  refine only_step (l := [.od]) ?_ hm₀ h₀
  unfold Blk.gateCount
  repeat (first | assumption | with_reducible apply only_refl | (with_reducible apply Blk.bump_only <;> [decide; skip]) | (with_reducible refine only_foldl (fun c x hc => ?_) _ _ ?_) | with_reducible apply only_ite)

theorem Blk.faultPin_only {m₀ : List Part} {b₀ : Blk} (b : Blk) (hm₀ : within [.modes] m₀) (h₀ : Only m₀ b₀ b) : Only m₀ b₀ (Blk.faultPin b) := by
  refine only_step (l := [.modes]) ?_ hm₀ h₀
  unfold Blk.faultPin
  repeat (first | assumption | with_reducible apply only_refl | (with_reducible apply Blk.onModes_only <;> [decide; skip]))

theorem Blk.setConditions_only {m₀ : List Part} {b₀ : Blk} (b : Blk) (f : BitVec 12 → BitVec 12) (hm₀ : within [.out, .od, .hA, .hB, .muslin, .can, .linen, .tweed, .modes] m₀) (h₀ : Only m₀ b₀ b) : Only m₀ b₀ (Blk.setConditions b f) := by
  refine only_step (l := [.out, .od, .hA, .hB, .muslin, .can, .linen, .tweed, .modes]) ?_ hm₀ h₀
  unfold Blk.setConditions
  repeat (first | assumption | with_reducible apply only_refl | (with_reducible apply Blk.onMuslin_only <;> [decide; skip]) | (with_reducible apply Blk.onModes_only <;> [decide; skip]) | (with_reducible apply Blk.report_only <;> [decide; skip]) | (with_reducible apply Blk.pushPacket_only <;> [decide; skip]) | (with_reducible apply Blk.discardStaged_only <;> [decide; skip]) | (with_reducible apply Blk.gateCount_only <;> [decide; skip]) | (with_reducible apply Blk.faultPin_only <;> [decide; skip]) | with_reducible apply only_ite | extract_lets | (dsimp +zetaDelta only))

theorem Blk.enter_only {m₀ : List Part} {b₀ : Blk} (b : Blk) (n : Nat) (hm₀ : within [.out, .od, .hA, .hB, .muslin, .can, .linen, .tweed, .modes] m₀) (h₀ : Only m₀ b₀ b) : Only m₀ b₀ (Blk.enter b n) := by
  refine only_step (l := [.out, .od, .hA, .hB, .muslin, .can, .linen, .tweed, .modes]) ?_ hm₀ h₀
  unfold Blk.enter
  repeat (first | assumption | with_reducible apply only_refl | (with_reducible apply Blk.setConditions_only <;> [decide; skip]))

theorem Blk.leave_only {m₀ : List Part} {b₀ : Blk} (b : Blk) (n : Nat) (hm₀ : within [.out, .od, .hA, .hB, .muslin, .can, .linen, .tweed, .modes] m₀) (h₀ : Only m₀ b₀ b) : Only m₀ b₀ (Blk.leave b n) := by
  refine only_step (l := [.out, .od, .hA, .hB, .muslin, .can, .linen, .tweed, .modes]) ?_ hm₀ h₀
  unfold Blk.leave
  repeat (first | assumption | with_reducible apply only_refl | (with_reducible apply Blk.setConditions_only <;> [decide; skip]))

theorem Blk.degrade_only {m₀ : List Part} {b₀ : Blk} (b : Blk) (bit : Nat) (on : Bool) (hm₀ : within [.out, .od, .hA, .hB, .muslin, .can, .linen, .tweed, .modes] m₀) (h₀ : Only m₀ b₀ b) : Only m₀ b₀ (Blk.degrade b bit on) := by
  refine only_step (l := [.out, .od, .hA, .hB, .muslin, .can, .linen, .tweed, .modes]) ?_ hm₀ h₀
  unfold Blk.degrade
  repeat (first | assumption | with_reducible apply only_refl | (with_reducible apply Blk.onModes_only <;> [decide; skip]) | (with_reducible apply Blk.enter_only <;> [decide; skip]) | (with_reducible apply Blk.leave_only <;> [decide; skip]) | with_reducible apply only_ite | extract_lets | (dsimp +zetaDelta only))

theorem Blk.setSlot_only {m₀ : List Part} {b₀ : Blk} (b : Blk) (slot : Nat) (x : SlotSt) (hm₀ : within [.twill] m₀) (h₀ : Only m₀ b₀ b) : Only m₀ b₀ (Blk.setSlot b slot x) := by
  refine only_step (l := [.twill]) ?_ hm₀ h₀
  unfold Blk.setSlot
  repeat (first | assumption | with_reducible apply only_refl | (with_reducible apply Blk.onTwill_only <;> [decide; skip]) | with_reducible apply only_ite | extract_lets | (dsimp +zetaDelta only))

theorem Blk.changeWidth_only {m₀ : List Part} {b₀ : Blk} (b : Blk) (g : Nat) (c : Cls) (hm₀ : within [.twill] m₀) (h₀ : Only m₀ b₀ b) : Only m₀ b₀ (Blk.changeWidth b g c) := by
  refine only_step (l := [.twill]) ?_ hm₀ h₀
  unfold Blk.changeWidth
  repeat (first | assumption | with_reducible apply only_refl | (with_reducible apply Blk.onTwill_only <;> [decide; skip]) | (with_reducible refine only_foldl (fun c x hc => ?_) _ _ ?_) | extract_lets | (dsimp +zetaDelta only))

theorem Blk.widen_only {m₀ : List Part} {b₀ : Blk} (b : Blk) (c : Cls) (hm₀ : within [.free, .twill] m₀) (h₀ : Only m₀ b₀ b) : Only m₀ b₀ (Blk.widen b c) := by
  refine only_step (l := [.free, .twill]) ?_ hm₀ h₀
  unfold Blk.widen
  repeat (first | assumption | with_reducible apply only_refl | (with_reducible apply Blk.useFree_only <;> [decide; skip]) | (with_reducible apply Blk.changeWidth_only <;> [decide; skip]) | with_reducible apply only_ite | split)

theorem Blk.putRegion_only {m₀ : List Part} {b₀ : Blk} (b : Blk) (r : Nat) (e : RegionEntry) (hm₀ : within [.twill] m₀) (h₀ : Only m₀ b₀ b) : Only m₀ b₀ (Blk.putRegion b r e) := by
  refine only_step (l := [.twill]) ?_ hm₀ h₀
  unfold Blk.putRegion
  repeat (first | assumption | with_reducible apply only_refl | (with_reducible apply Blk.onTwill_only <;> [decide; skip]))

theorem Blk.putHot_only {m₀ : List Part} {b₀ : Blk} (b : Blk) (key : Nat) (e : HotEntry) (hm₀ : within [.twill] m₀) (h₀ : Only m₀ b₀ b) : Only m₀ b₀ (Blk.putHot b key e) := by
  refine only_step (l := [.twill]) ?_ hm₀ h₀
  unfold Blk.putHot
  repeat (first | assumption | with_reducible apply only_refl | (with_reducible apply Blk.onTwill_only <;> [decide; skip]))

theorem Blk.clearHot_only {m₀ : List Part} {b₀ : Blk} (b : Blk) (key : Nat) (hm₀ : within [.twill] m₀) (h₀ : Only m₀ b₀ b) : Only m₀ b₀ (Blk.clearHot b key) := by
  refine only_step (l := [.twill]) ?_ hm₀ h₀
  unfold Blk.clearHot
  repeat (first | assumption | with_reducible apply only_refl | (with_reducible apply Blk.onTwill_only <;> [decide; skip]))

theorem Blk.healthCheck_only {m₀ : List Part} {b₀ : Blk} (b : Blk) (hm₀ : within [.out, .od, .hA, .hB, .can, .dev, .linen] m₀) (h₀ : Only m₀ b₀ b) : Only m₀ b₀ (Blk.healthCheck b) := by
  refine only_step (l := [.out, .od, .hA, .hB, .can, .dev, .linen]) ?_ hm₀ h₀
  unfold Blk.healthCheck
  repeat (first | assumption | with_reducible apply only_refl | (with_reducible apply Blk.onDev_only <;> [decide; skip]) | (with_reducible apply Blk.report_only <;> [decide; skip]) | with_reducible apply only_ite | extract_lets | (dsimp +zetaDelta only))

theorem Blk.lifeCheck_only {m₀ : List Part} {b₀ : Blk} (b : Blk) (hm₀ : within [.out, .od, .hA, .hB, .muslin, .can, .dev, .twill, .linen, .tweed, .modes] m₀) (h₀ : Only m₀ b₀ b) : Only m₀ b₀ (Blk.lifeCheck b) := by
  refine only_step (l := [.out, .od, .hA, .hB, .muslin, .can, .dev, .twill, .linen, .tweed, .modes]) ?_ hm₀ h₀
  unfold Blk.lifeCheck
  repeat (first | assumption | with_reducible apply only_refl | (with_reducible apply Blk.onTwill_only <;> [decide; skip]) | (with_reducible apply Blk.report_only <;> [decide; skip]) | (with_reducible apply Blk.enter_only <;> [decide; skip]) | (with_reducible apply Blk.leave_only <;> [decide; skip]) | (with_reducible apply Blk.healthCheck_only <;> [decide; skip]) | with_reducible apply only_ite | extract_lets | (dsimp +zetaDelta only))

theorem Blk.onPart_only {m₀ : List Part} {b₀ : Blk} (b : Blk) (pid : Nat) (f : PartSt → PartSt) (hm₀ : within [.media] m₀) (h₀ : Only m₀ b₀ b) : Only m₀ b₀ (Blk.onPart b pid f) := by
  refine only_step (l := [.media]) ?_ hm₀ h₀
  unfold Blk.onPart
  repeat (first | assumption | with_reducible apply only_refl | (with_reducible apply onMedia_keep <;> [decide; (intro; exact ⟨rfl, rfl⟩); skip]))

theorem Blk.putTag_only {m₀ : List Part} {b₀ : Blk} (b : Blk) (ti : Nat) (t : TagLine) (hm₀ : within [.damask] m₀) (h₀ : Only m₀ b₀ b) : Only m₀ b₀ (Blk.putTag b ti t) := by
  refine only_step (l := [.damask]) ?_ hm₀ h₀
  unfold Blk.putTag
  repeat (first | assumption | with_reducible apply only_refl | (with_reducible apply Blk.onDamask_only <;> [decide; skip]))

theorem Blk.cleanTag_only {m₀ : List Part} {b₀ : Blk} (b : Blk) (ti : Nat) (hm₀ : within [.damask] m₀) (h₀ : Only m₀ b₀ b) : Only m₀ b₀ (Blk.cleanTag b ti) := by
  refine only_step (l := [.damask]) ?_ hm₀ h₀
  unfold Blk.cleanTag
  repeat (first | assumption | with_reducible apply only_refl | (with_reducible apply Blk.onDamask_only <;> [decide; skip]))

theorem Blk.useTag_only {m₀ : List Part} {b₀ : Blk} (b : Blk) (ti : Nat) (hm₀ : within [.od, .damask, .tweed] m₀) (h₀ : Only m₀ b₀ b) : Only m₀ b₀ (Blk.useTag b ti) := by
  refine only_step (l := [.od, .damask, .tweed]) ?_ hm₀ h₀
  unfold Blk.useTag
  extract_lets _ touch b1 pick
  split
  · repeat (first | assumption | with_reducible apply only_refl | (with_reducible apply Blk.onDamask_only <;> [decide; skip]) | (with_reducible apply Blk.bump_only <;> [decide; skip]) | (with_reducible apply Blk.tw_only <;> [decide; skip]))
  · rcases pick with _ | w <;> repeat (first | assumption | with_reducible apply only_refl | (with_reducible apply Blk.onDamask_only <;> [decide; skip]) | (with_reducible apply Blk.bump_only <;> [decide; skip]) | (with_reducible apply Blk.tw_only <;> [decide; skip]))

theorem Blk.storeLine_only {m₀ : List Part} {b₀ : Blk} (b : Blk) (loc : Nat) (x : MLine) (hm₀ : within [.lines] m₀) (h₀ : Only m₀ b₀ b) : Only m₀ b₀ (Blk.storeLine b loc x) := by
  refine only_step (l := [.lines]) ?_ hm₀ h₀
  unfold Blk.storeLine
  repeat (first | assumption | with_reducible apply only_refl | (with_reducible apply onMedia_lines <;> [decide; (intro; exact ⟨rfl, rfl⟩); skip]))

theorem Blk.blankLine_only {m₀ : List Part} {b₀ : Blk} (b : Blk) (loc : Nat) (hm₀ : within [.lines, .media] m₀) (h₀ : Only m₀ b₀ b) : Only m₀ b₀ (Blk.blankLine b loc) := by
  refine only_step (l := [.lines, .media]) ?_ hm₀ h₀
  unfold Blk.blankLine
  repeat (first | assumption | with_reducible apply only_refl | (with_reducible apply onMedia_filled <;> [decide; (intro; rfl); skip]) | (with_reducible apply onMedia_lines <;> [decide; (intro; exact ⟨rfl, rfl⟩); skip]))

theorem Blk.onAcc_only {m₀ : List Part} {b₀ : Blk} (b : Blk) (rid : Nat) (f : Acc → Acc) (hm₀ : within [.path] m₀) (h₀ : Only m₀ b₀ b) : Only m₀ b₀ (Blk.onAcc b rid f) := by
  refine only_step (l := [.path]) ?_ hm₀ h₀
  unfold Blk.onAcc
  repeat (first | assumption | with_reducible apply only_refl | (with_reducible apply Blk.onPath_only <;> [decide; skip]) | with_reducible apply only_ite)

theorem Blk.endAcc_only {m₀ : List Part} {b₀ : Blk} (b : Blk) (x : Acc) (hm₀ : within [.path] m₀) (h₀ : Only m₀ b₀ b) : Only m₀ b₀ (Blk.endAcc b x) := by
  refine only_step (l := [.path]) ?_ hm₀ h₀
  unfold Blk.endAcc
  repeat (first | assumption | with_reducible apply only_refl | (with_reducible apply Blk.onPath_only <;> [decide; skip]))

theorem Blk.respond_only {m₀ : List Part} {b₀ : Blk} (b : Blk) (x : Acc) (o : Output) (hm₀ : within [.out, .od] m₀) (h₀ : Only m₀ b₀ b) : Only m₀ b₀ (Blk.respond b x o) := by
  refine only_step (l := [.out, .od]) ?_ hm₀ h₀
  unfold Blk.respond
  repeat (first | assumption | with_reducible apply only_refl | (with_reducible apply Blk.emit_only <;> [decide; skip]) | (with_reducible apply Blk.bump_only <;> [decide; skip]) | with_reducible apply only_ite)

theorem Blk.finishRead_only {m₀ : List Part} {b₀ : Blk} (b : Blk) (x : Acc) (data : Option Half) (hm₀ : within [.free, .out, .od, .hA, .hB, .can, .path, .linen, .tweed] m₀) (h₀ : Only m₀ b₀ b) : Only m₀ b₀ (Blk.finishRead b x data) := by
  refine only_step (l := [.free, .out, .od, .hA, .hB, .can, .path, .linen, .tweed]) ?_ hm₀ h₀
  unfold Blk.finishRead
  repeat (first | assumption | with_reducible apply only_refl | (with_reducible apply Blk.twHead_only <;> [decide; skip]) | (with_reducible apply Blk.twHost_only <;> [decide; skip]) | (with_reducible apply Blk.sampleOut_only <;> [decide; skip]) | (with_reducible apply Blk.endAcc_only <;> [decide; skip]) | (with_reducible apply Blk.respond_only <;> [decide; skip]) | with_reducible apply only_ite | extract_lets | (dsimp +zetaDelta only))

theorem Blk.finishWrite_only {m₀ : List Part} {b₀ : Blk} (b : Blk) (x : Acc) (hm₀ : within [.free, .out, .od, .hA, .hB, .can, .path, .linen, .tweed] m₀) (h₀ : Only m₀ b₀ b) : Only m₀ b₀ (Blk.finishWrite b x) := by
  refine only_step (l := [.free, .out, .od, .hA, .hB, .can, .path, .linen, .tweed]) ?_ hm₀ h₀
  unfold Blk.finishWrite
  repeat (first | assumption | with_reducible apply only_refl | (with_reducible apply Blk.mbReply_only <;> [decide; skip]) | (with_reducible apply Blk.twHead_only <;> [decide; skip]) | (with_reducible apply Blk.sampleOut_only <;> [decide; skip]) | (with_reducible apply Blk.endAcc_only <;> [decide; skip]) | (with_reducible apply Blk.respond_only <;> [decide; skip]) | with_reducible apply only_ite | extract_lets | (dsimp +zetaDelta only))

theorem Blk.refuse_only {m₀ : List Part} {b₀ : Blk} (b : Blk) (h : Head) (k : ReqKind) (tag : Nat) (hm₀ : within [.out, .tweed] m₀) (h₀ : Only m₀ b₀ b) : Only m₀ b₀ (Blk.refuse b h k tag) := by
  refine only_step (l := [.out, .tweed]) ?_ hm₀ h₀
  unfold Blk.refuse
  repeat (first | assumption | with_reducible apply only_refl | (with_reducible apply Blk.emit_only <;> [decide; skip]) | (with_reducible apply Blk.mbReply_only <;> [decide; skip]) | (with_reducible apply Blk.twHead_only <;> [decide; skip]) | (with_reducible apply Blk.twHost_only <;> [decide; skip]) | split)

theorem Blk.clearIngress_only {m₀ : List Part} {b₀ : Blk} (b : Blk) (h : Head) (hm₀ : within [.hA, .hB, .path] m₀) (h₀ : Only m₀ b₀ b) : Only m₀ b₀ (Blk.clearIngress b h) := by
  refine only_step (l := [.hA, .hB, .path]) ?_ hm₀ h₀
  unfold Blk.clearIngress
  repeat (first | assumption | with_reducible apply only_refl | (with_reducible apply Blk.onPath_only <;> [decide; skip]) | (with_reducible apply Blk.onHead_only <;> [decide; skip]) | extract_lets | (dsimp +zetaDelta only))

theorem Blk.refuseIngress_only {m₀ : List Part} {b₀ : Blk} (b : Blk) (h : Head) (hm₀ : within [.out, .hA, .hB, .path, .tweed] m₀) (h₀ : Only m₀ b₀ b) : Only m₀ b₀ (Blk.refuseIngress b h) := by
  refine only_step (l := [.out, .hA, .hB, .path, .tweed]) ?_ hm₀ h₀
  unfold Blk.refuseIngress
  repeat (first | assumption | with_reducible apply only_refl | (with_reducible apply Blk.refuse_only <;> [decide; skip]) | (with_reducible apply Blk.clearIngress_only <;> [decide; skip]) | (with_reducible refine only_foldl (fun c x hc => ?_) _ _ ?_))

theorem Blk.stopServe_only {m₀ : List Part} {b₀ : Blk} (b : Blk) (hm₀ : within [.free, .out, .od, .hA, .hB, .can, .path, .linen, .tweed] m₀) (h₀ : Only m₀ b₀ b) : Only m₀ b₀ (Blk.stopServe b) := by
  refine only_step (l := [.free, .out, .od, .hA, .hB, .can, .path, .linen, .tweed]) ?_ hm₀ h₀
  unfold Blk.stopServe
  repeat (first | assumption | with_reducible apply only_refl | (with_reducible apply Blk.finishRead_only <;> [decide; skip]) | (with_reducible apply Blk.finishWrite_only <;> [decide; skip]) | (with_reducible apply Blk.refuseIngress_only <;> [decide; skip]) | (with_reducible refine only_foldl (fun c x hc => ?_) _ _ ?_) | with_reducible apply only_ite | extract_lets | (dsimp +zetaDelta only))

theorem Blk.safeStop_only {m₀ : List Part} {b₀ : Blk} (b : Blk) (cause : BitVec 16) (hm₀ : within [.free, .out, .od, .hA, .hB, .can, .path, .linen, .tweed, .modes] m₀) (h₀ : Only m₀ b₀ b) : Only m₀ b₀ (Blk.safeStop b cause) := by
  refine only_step (l := [.free, .out, .od, .hA, .hB, .can, .path, .linen, .tweed, .modes]) ?_ hm₀ h₀
  unfold Blk.safeStop
  repeat (first | assumption | with_reducible apply only_refl | (with_reducible apply Blk.onModes_only <;> [decide; skip]) | (with_reducible apply Blk.stopServe_only <;> [decide; skip]) | with_reducible apply only_ite)

theorem Blk.detect_only {m₀ : List Part} {b₀ : Blk} (b : Blk) (mech : Nat) (uncontained : Bool) (hm₀ : within [.free, .out, .od, .hA, .hB, .can, .path, .linen, .tweed, .modes, .safety] m₀) (h₀ : Only m₀ b₀ b) : Only m₀ b₀ (Blk.detect b mech uncontained) := by
  refine only_step (l := [.free, .out, .od, .hA, .hB, .can, .path, .linen, .tweed, .modes, .safety]) ?_ hm₀ h₀
  unfold Blk.detect
  repeat (first | assumption | with_reducible apply only_refl | (with_reducible apply Blk.onSafety_only <;> [decide; skip]) | (with_reducible apply Blk.odSet_only <;> [decide; skip]) | (with_reducible apply Blk.bump_only <;> [decide; skip]) | (with_reducible apply Blk.report_only <;> [decide; skip]) | (with_reducible apply Blk.safeStop_only <;> [decide; skip]) | with_reducible apply only_ite | extract_lets | (dsimp +zetaDelta only))

theorem Blk.poisonWarn_only {m₀ : List Part} {b₀ : Blk} (b : Blk) (hm₀ : within [.out, .od, .hA, .hB, .can, .media, .linen] m₀) (h₀ : Only m₀ b₀ b) : Only m₀ b₀ (Blk.poisonWarn b) := by
  refine only_step (l := [.out, .od, .hA, .hB, .can, .media, .linen]) ?_ hm₀ h₀
  unfold Blk.poisonWarn
  repeat (first | assumption | with_reducible apply only_refl | (with_reducible apply onMedia_keep <;> [decide; (intro; exact ⟨rfl, rfl⟩); skip]) | (with_reducible apply Blk.report_only <;> [decide; skip]) | with_reducible apply only_ite | extract_lets | (dsimp +zetaDelta only))

theorem Blk.noteChange_only {m₀ : List Part} {b₀ : Blk} (b : Blk) (key : Nat) (hm₀ : within [.media] m₀) (h₀ : Only m₀ b₀ b) : Only m₀ b₀ (Blk.noteChange b key) := by
  refine only_step (l := [.media]) ?_ hm₀ h₀
  unfold Blk.noteChange
  repeat (first | assumption | with_reducible apply only_refl | (with_reducible apply onMedia_keep <;> [decide; (intro; exact ⟨rfl, rfl⟩); skip]))

theorem Blk.listHalf_only {m₀ : List Part} {b₀ : Blk} (b : Blk) (key : Nat) (src : PSource) (hm₀ : within [.free, .out, .od, .hA, .hB, .can, .path, .poison, .media, .linen, .tweed, .modes] m₀) (h₀ : Only m₀ b₀ b) : Only m₀ b₀ (Blk.listHalf b key src) := by
  refine only_step (l := [.free, .out, .od, .hA, .hB, .can, .path, .poison, .media, .linen, .tweed, .modes]) ?_ hm₀ h₀
  unfold Blk.listHalf
  repeat (first | assumption | with_reducible apply only_refl | (with_reducible apply onMedia_poison <;> [decide; (intro; exact ⟨rfl, rfl⟩); skip]) | (with_reducible apply onMedia_listed <;> [decide; (intro; rfl); skip]) | (with_reducible apply Blk.bump_only <;> [decide; skip]) | (with_reducible apply Blk.report_only <;> [decide; skip]) | (with_reducible apply Blk.safeStop_only <;> [decide; skip]) | (with_reducible apply Blk.poisonWarn_only <;> [decide; skip]) | (with_reducible apply Blk.noteChange_only <;> [decide; skip]) | with_reducible apply only_ite)

theorem Blk.listInternal_only {m₀ : List Part} {b₀ : Blk} (b : Blk) (key : Nat) (code : BitVec 16) (tx : MediaTx := .internal) (addr : Bool := false) (hm₀ : within [.free, .out, .od, .hA, .hB, .can, .path, .poison, .media, .linen, .tweed, .modes] m₀) (h₀ : Only m₀ b₀ b) : Only m₀ b₀ (Blk.listInternal b key code tx addr) := by
  refine only_step (l := [.free, .out, .od, .hA, .hB, .can, .path, .poison, .media, .linen, .tweed, .modes]) ?_ hm₀ h₀
  unfold Blk.listInternal
  repeat (first | assumption | with_reducible apply only_refl | (with_reducible apply Blk.report_only <;> [decide; skip]) | (with_reducible apply Blk.listHalf_only <;> [decide; skip]) | with_reducible apply only_ite | extract_lets | (dsimp +zetaDelta only))

theorem Blk.poisonLine_only {m₀ : List Part} {b₀ : Blk} (b : Blk) (li : Nat) (code : BitVec 16) (tx : MediaTx := .internal) (addr : Bool := false) (hm₀ : within [.free, .out, .od, .hA, .hB, .can, .path, .poison, .media, .linen, .tweed, .modes] m₀) (h₀ : Only m₀ b₀ b) : Only m₀ b₀ (Blk.poisonLine b li code tx addr) := by
  refine only_step (l := [.free, .out, .od, .hA, .hB, .can, .path, .poison, .media, .linen, .tweed, .modes]) ?_ hm₀ h₀
  unfold Blk.poisonLine
  repeat (first | assumption | with_reducible apply only_refl | (with_reducible apply Blk.listInternal_only <;> [decide; skip]))

theorem Blk.unlistHalf_only {m₀ : List Part} {b₀ : Blk} (b : Blk) (key : Nat) (hm₀ : within [.out, .od, .hA, .hB, .can, .poison, .media, .linen] m₀) (h₀ : Only m₀ b₀ b) : Only m₀ b₀ (Blk.unlistHalf b key) := by
  refine only_step (l := [.out, .od, .hA, .hB, .can, .poison, .media, .linen]) ?_ hm₀ h₀
  unfold Blk.unlistHalf
  repeat (first | assumption | with_reducible apply only_refl | (with_reducible apply onMedia_poison <;> [decide; (intro; exact ⟨rfl, rfl⟩); skip]) | (with_reducible apply onMedia_listed <;> [decide; (intro; rfl); skip]) | (with_reducible apply Blk.poisonWarn_only <;> [decide; skip]) | (with_reducible apply Blk.noteChange_only <;> [decide; skip]) | with_reducible apply only_ite)

theorem Blk.dpCount_only {m₀ : List Part} {b₀ : Blk} (b : Blk) (d : Dp) (hm₀ : within [.free, .out, .od, .hA, .hB, .can, .path, .linen, .tweed, .modes, .safety] m₀) (h₀ : Only m₀ b₀ b) : Only m₀ b₀ (Blk.dpCount b d) := by
  refine only_step (l := [.free, .out, .od, .hA, .hB, .can, .path, .linen, .tweed, .modes, .safety]) ?_ hm₀ h₀
  unfold Blk.dpCount
  repeat (first | assumption | with_reducible apply only_refl | (with_reducible apply Blk.bump_only <;> [decide; skip]) | (with_reducible apply Blk.detect_only <;> [decide; skip]) | split)

theorem Blk.finishReadDp_only {m₀ : List Part} {b₀ : Blk} (b : Blk) (x : Acc) (data : Half) (d : Dp) (hm₀ : within [.free, .out, .od, .hA, .hB, .can, .path, .linen, .tweed, .modes, .safety] m₀) (h₀ : Only m₀ b₀ b) : Only m₀ b₀ (Blk.finishReadDp b x data d) := by
  refine only_step (l := [.free, .out, .od, .hA, .hB, .can, .path, .linen, .tweed, .modes, .safety]) ?_ hm₀ h₀
  unfold Blk.finishReadDp
  repeat (first | assumption | with_reducible apply only_refl | (with_reducible apply Blk.report_only <;> [decide; skip]) | (with_reducible apply Blk.finishRead_only <;> [decide; skip]) | (with_reducible apply Blk.dpCount_only <;> [decide; skip]) | with_reducible apply only_ite | extract_lets | (dsimp +zetaDelta only))

theorem Blk.putWay_only {m₀ : List Part} {b₀ : Blk} (b : Blk) (key : Nat) (v : VWay) (hm₀ : within [.velvet] m₀) (h₀ : Only m₀ b₀ b) : Only m₀ b₀ (Blk.putWay b key v) := by
  refine only_step (l := [.velvet]) ?_ hm₀ h₀
  unfold Blk.putWay
  repeat (first | assumption | with_reducible apply only_refl | (with_reducible apply Blk.onVelvet_only <;> [decide; skip]))

theorem Blk.dropWay_only {m₀ : List Part} {b₀ : Blk} (b : Blk) (key : Nat) (hm₀ : within [.velvet] m₀) (h₀ : Only m₀ b₀ b) : Only m₀ b₀ (Blk.dropWay b key) := by
  refine only_step (l := [.velvet]) ?_ hm₀ h₀
  unfold Blk.dropWay
  repeat (first | assumption | with_reducible apply only_refl | (with_reducible apply Blk.onVelvet_only <;> [decide; skip]))

theorem Blk.touchWay_only {m₀ : List Part} {b₀ : Blk} (b : Blk) (key : Nat) (hm₀ : within [.velvet] m₀) (h₀ : Only m₀ b₀ b) : Only m₀ b₀ (Blk.touchWay b key) := by
  refine only_step (l := [.velvet]) ?_ hm₀ h₀
  unfold Blk.touchWay
  repeat (first | assumption | with_reducible apply only_refl | (with_reducible apply Blk.onVelvet_only <;> [decide; skip]))

theorem Blk.putBuf_only {m₀ : List Part} {b₀ : Blk} (b : Blk) (n : Nat) (x : HBuf) (hm₀ : within [.velvet] m₀) (h₀ : Only m₀ b₀ b) : Only m₀ b₀ (Blk.putBuf b n x) := by
  refine only_step (l := [.velvet]) ?_ hm₀ h₀
  unfold Blk.putBuf
  repeat (first | assumption | with_reducible apply only_refl | (with_reducible apply Blk.onVelvet_only <;> [decide; skip]))

theorem Blk.evictWay_only {m₀ : List Part} {b₀ : Blk} (b : Blk) (key : Nat) (v : VWay) (hm₀ : within [.velvet, .tweed] m₀) (h₀ : Only m₀ b₀ b) : Only m₀ b₀ (Blk.evictWay b key v) := by
  refine only_step (l := [.velvet, .tweed]) ?_ hm₀ h₀
  unfold Blk.evictWay
  repeat (first | assumption | with_reducible apply only_refl | (with_reducible apply Blk.tw_only <;> [decide; skip]) | (with_reducible apply Blk.dropWay_only <;> [decide; skip]) | (with_reducible apply Blk.putBuf_only <;> [decide; skip]) | split)

theorem Blk.cleanWay_only {m₀ : List Part} {b₀ : Blk} (b : Blk) (key : Nat) (hm₀ : within [.velvet] m₀) (h₀ : Only m₀ b₀ b) : Only m₀ b₀ (Blk.cleanWay b key) := by
  refine only_step (l := [.velvet]) ?_ hm₀ h₀
  unfold Blk.cleanWay
  repeat (first | assumption | with_reducible apply only_refl | (with_reducible apply Blk.putWay_only <;> [decide; skip]) | (with_reducible apply Blk.putBuf_only <;> [decide; skip]) | with_reducible apply only_ite | split)

theorem Blk.allocate_only {m₀ : List Part} {b₀ : Blk} (b : Blk) (li : Nat) (needClean : Bool) (v : VWay) {r : Blk} (hr : (Blk.allocate b li needClean v) = some r) (hm₀ : within [.velvet, .tweed] m₀) (h₀ : Only m₀ b₀ b) : Only m₀ b₀ r := by
  refine only_step (l := [.velvet, .tweed]) ?_ hm₀ h₀
  unfold Blk.allocate at hr
  dsimp only at hr
  split at hr
  · cases hr
  · cases hr
    repeat (first | assumption | with_reducible apply only_refl | (with_reducible apply Blk.putWay_only <;> [decide; skip]) | (with_reducible apply Blk.dropWay_only <;> [decide; skip]) | (with_reducible apply Blk.touchWay_only <;> [decide; skip]) | (with_reducible apply Blk.evictWay_only <;> [decide; skip]) | split | with_reducible apply only_ite)

theorem Blk.unqueue_only {m₀ : List Part} {b₀ : Blk} (b : Blk) (rid : Nat) (hm₀ : within [.media] m₀) (h₀ : Only m₀ b₀ b) : Only m₀ b₀ (Blk.unqueue b rid) := by
  refine only_step (l := [.media]) ?_ hm₀ h₀
  unfold Blk.unqueue
  repeat (first | assumption | with_reducible apply only_refl | (with_reducible apply onMedia_keep <;> [decide; (intro; exact ⟨rfl, rfl⟩); skip]))

theorem Blk.keepDirty_only {m₀ : List Part} {b₀ : Blk} (b : Blk) (hm₀ : within [.od] m₀) (h₀ : Only m₀ b₀ b) : Only m₀ b₀ (Blk.keepDirty b) := by
  refine only_step (l := [.od]) ?_ hm₀ h₀
  unfold Blk.keepDirty
  repeat (first | assumption | with_reducible apply only_refl | (with_reducible apply Blk.odSet_only <;> [decide; skip]))

theorem Blk.maintLine_only {m₀ : List Part} {b₀ : Blk} (b : Blk) (op li : Nat) (passed : Bool) (hm₀ : within [.od, .velvet] m₀) (h₀ : Only m₀ b₀ b) : Only m₀ b₀ (Blk.maintLine b op li passed).1 := by
  refine only_step (l := [.od, .velvet]) ?_ hm₀ h₀
  unfold Blk.maintLine
  repeat (first | assumption | with_reducible apply only_refl | (with_reducible apply Blk.dropWay_only <;> [decide; skip]) | (with_reducible apply Blk.cleanWay_only <;> [decide; skip]) | (with_reducible apply Blk.keepDirty_only <;> [decide; skip]) | with_reducible apply only_ite | extract_lets | split | with_reducible apply only_ite_fst | dsimp only | (dsimp +zetaDelta only))

theorem Blk.maintRange_only {m₀ : List Part} {b₀ : Blk} (b : Blk) (op : Nat) (lines : List (Nat × Bool)) (hm₀ : within [.od, .velvet] m₀) (h₀ : Only m₀ b₀ b) : Only m₀ b₀ (Blk.maintRange b op lines).1 := by
  refine only_step (l := [.od, .velvet]) ?_ hm₀ h₀
  unfold Blk.maintRange
  refine only_foldl_pair (fun c x hc => ?_) _ _ (only_refl _ _)
  have h1 := Blk.maintLine_only (m₀ := [.od, .velvet]) c.1 op x.1 x.2 (by decide) hc
  split <;> simp_all

theorem Blk.maintOps_only {m₀ : List Part} {b₀ : Blk} (b : Blk) (ops : List LineOp) (hm₀ : within [.out, .od, .can, .velvet] m₀) (h₀ : Only m₀ b₀ b) : Only m₀ b₀ (Blk.maintOps b ops) := by
  refine only_step (l := [.out, .od, .can, .velvet]) ?_ hm₀ h₀
  unfold Blk.maintOps
  refine only_foldl (fun c x hc => ?_) _ _ (only_refl _ _)
  have h1 := Blk.maintLine_only (m₀ := [.out, .od, .can, .velvet]) c x.op x.li x.passed (by decide) hc
  split <;> (rename_i heq; rw [heq] at h1) <;> repeat (first | assumption | with_reducible apply only_refl | (with_reducible apply Blk.onVelvet_only <;> [decide; skip]) | (with_reducible apply Blk.reply_only <;> [decide; skip]) | (with_reducible apply Blk.maintLine_only <;> [decide; skip]) | with_reducible apply only_ite)

theorem Blk.maintain_only {m₀ : List Part} {b₀ : Blk} (b : Blk) (hm₀ : within [.out, .od, .can, .velvet] m₀) (h₀ : Only m₀ b₀ b) : Only m₀ b₀ (Blk.maintain b) := by
  refine only_step (l := [.out, .od, .can, .velvet]) ?_ hm₀ h₀
  unfold Blk.maintain
  repeat (first | assumption | with_reducible apply only_refl | (with_reducible apply Blk.onVelvet_only <;> [decide; skip]) | (with_reducible apply Blk.maintRange_only <;> [decide; skip]) | (with_reducible apply Blk.maintOps_only <;> [decide; skip]) | extract_lets | split | (dsimp +zetaDelta only))

theorem Blk.serveJoined_only {m₀ : List Part} {b₀ : Blk} (b : Blk) (li : Nat) (hm₀ : within [.free, .out, .od, .hA, .hB, .can, .path, .linen, .tweed] m₀) (h₀ : Only m₀ b₀ b) : Only m₀ b₀ (Blk.serveJoined b li) := by
  refine only_step (l := [.free, .out, .od, .hA, .hB, .can, .path, .linen, .tweed]) ?_ hm₀ h₀
  unfold Blk.serveJoined
  repeat (first | assumption | with_reducible apply only_refl | (with_reducible apply Blk.finishRead_only <;> [decide; skip]) | (with_reducible refine only_foldl (fun c x hc => ?_) _ _ ?_) | with_reducible apply only_ite | extract_lets | split | (dsimp +zetaDelta only))

theorem Blk.cancelFill_only {m₀ : List Part} {b₀ : Blk} (b : Blk) (li : Nat) (hm₀ : within [.free, .out, .od, .hA, .hB, .can, .path, .media, .velvet, .linen, .tweed] m₀) (h₀ : Only m₀ b₀ b) : Only m₀ b₀ (Blk.cancelFill b li) := by
  refine only_step (l := [.free, .out, .od, .hA, .hB, .can, .path, .media, .velvet, .linen, .tweed]) ?_ hm₀ h₀
  unfold Blk.cancelFill
  repeat (first | assumption | with_reducible apply only_refl | (with_reducible apply Blk.endAcc_only <;> [decide; skip]) | (with_reducible apply Blk.putWay_only <;> [decide; skip]) | (with_reducible apply Blk.unqueue_only <;> [decide; skip]) | (with_reducible apply Blk.maintain_only <;> [decide; skip]) | (with_reducible apply Blk.serveJoined_only <;> [decide; skip]) | extract_lets | split | (dsimp +zetaDelta only))

theorem Blk.applyFill_only {m₀ : List Part} {b₀ : Blk} (b : Blk) (li : Nat) (data : Line) (hm₀ : within [.free, .out, .od, .hA, .hB, .can, .path, .velvet, .linen, .tweed] m₀) (h₀ : Only m₀ b₀ b) : Only m₀ b₀ (Blk.applyFill b li data) := by
  refine only_step (l := [.free, .out, .od, .hA, .hB, .can, .path, .velvet, .linen, .tweed]) ?_ hm₀ h₀
  unfold Blk.applyFill
  repeat (first | assumption | with_reducible apply only_refl | (with_reducible apply Blk.putWay_only <;> [decide; skip]) | (with_reducible apply Blk.touchWay_only <;> [decide; skip]) | (with_reducible apply Blk.maintain_only <;> [decide; skip]) | (with_reducible apply Blk.serveJoined_only <;> [decide; skip]) | with_reducible apply only_ite | split)

theorem Blk.poisonFill_only {m₀ : List Part} {b₀ : Blk} (b : Blk) (li : Nat) (hm₀ : within [.free, .out, .od, .hA, .hB, .can, .path, .velvet, .linen, .tweed] m₀) (h₀ : Only m₀ b₀ b) : Only m₀ b₀ (Blk.poisonFill b li) := by
  refine only_step (l := [.free, .out, .od, .hA, .hB, .can, .path, .velvet, .linen, .tweed]) ?_ hm₀ h₀
  unfold Blk.poisonFill
  repeat (first | assumption | with_reducible apply only_refl | (with_reducible apply Blk.finishRead_only <;> [decide; skip]) | (with_reducible apply Blk.putWay_only <;> [decide; skip]) | (with_reducible apply Blk.dropWay_only <;> [decide; skip]) | (with_reducible apply Blk.maintain_only <;> [decide; skip]) | (with_reducible apply Blk.serveJoined_only <;> [decide; skip]) | (with_reducible refine only_foldl (fun c x hc => ?_) _ _ ?_) | with_reducible apply only_ite | extract_lets | split | (dsimp +zetaDelta only))

theorem Blk.startDemotion_only {m₀ : List Part} {b₀ : Blk} (b : Blk) (li : Nat) (cand : Option Nat) (hm₀ : within [.twill] m₀) (h₀ : Only m₀ b₀ b) : Only m₀ b₀ (Blk.startDemotion b li cand) := by
  refine only_step (l := [.twill]) ?_ hm₀ h₀
  unfold Blk.startDemotion
  repeat (first | assumption | with_reducible apply only_refl | (with_reducible apply Blk.onTwill_only <;> [decide; skip]) | (with_reducible apply Blk.putHot_only <;> [decide; skip]) | with_reducible apply only_ite | split)

theorem Blk.demoteFor_only {m₀ : List Part} {b₀ : Blk} (b : Blk) (li : Nat) (hm₀ : within [.twill] m₀) (h₀ : Only m₀ b₀ b) : Only m₀ b₀ (Blk.demoteFor b li) := by
  refine only_step (l := [.twill]) ?_ hm₀ h₀
  unfold Blk.demoteFor
  repeat (first | assumption | with_reducible apply only_refl | (with_reducible apply Blk.onTwill_only <;> [decide; skip]) | (with_reducible apply Blk.startDemotion_only <;> [decide; skip]) | with_reducible apply only_ite | split)

theorem Blk.promoteWay_only {m₀ : List Part} {b₀ : Blk} (b : Blk) (li : Nat) (hm₀ : within [.twill] m₀) (h₀ : Only m₀ b₀ b) : Only m₀ b₀ (Blk.promoteWay b li) := by
  refine only_step (l := [.twill]) ?_ hm₀ h₀
  unfold Blk.promoteWay
  repeat (first | assumption | with_reducible apply only_refl | (with_reducible apply Blk.onTwill_only <;> [decide; skip]) | (with_reducible apply Blk.demoteFor_only <;> [decide; skip]) | with_reducible apply only_ite)

theorem Blk.abandonDemotion_only {m₀ : List Part} {b₀ : Blk} (b : Blk) (li : Nat) (hm₀ : within [.velvet, .twill] m₀) (h₀ : Only m₀ b₀ b) : Only m₀ b₀ (Blk.abandonDemotion b li) := by
  refine only_step (l := [.velvet, .twill]) ?_ hm₀ h₀
  unfold Blk.abandonDemotion
  repeat (first | assumption | with_reducible apply only_refl | (with_reducible apply Blk.onTwill_only <;> [decide; skip]) | (with_reducible apply Blk.putHot_only <;> [decide; skip]) | (with_reducible apply Blk.putBuf_only <;> [decide; skip]) | with_reducible apply only_ite | extract_lets | split | (dsimp +zetaDelta only))

theorem Blk.noteWrite_only {m₀ : List Part} {b₀ : Blk} (b : Blk) (li : Nat) (hm₀ : within [.velvet, .twill] m₀) (h₀ : Only m₀ b₀ b) : Only m₀ b₀ (Blk.noteWrite b li) := by
  refine only_step (l := [.velvet, .twill]) ?_ hm₀ h₀
  unfold Blk.noteWrite
  repeat (first | assumption | with_reducible apply only_refl | (with_reducible apply Blk.onTwill_only <;> [decide; skip]) | (with_reducible apply Blk.putHot_only <;> [decide; skip]) | (with_reducible apply Blk.abandonDemotion_only <;> [decide; skip]) | extract_lets | split | (dsimp +zetaDelta only))

theorem Blk.countCandidate_only {m₀ : List Part} {b₀ : Blk} (b : Blk) (li : Nat) (hm₀ : within [.twill] m₀) (h₀ : Only m₀ b₀ b) : Only m₀ b₀ (Blk.countCandidate b li) := by
  refine only_step (l := [.twill]) ?_ hm₀ h₀
  unfold Blk.countCandidate
  repeat (first | assumption | with_reducible apply only_refl | (with_reducible apply Blk.onTwill_only <;> [decide; skip]) | extract_lets | (dsimp +zetaDelta only))

theorem Blk.wearDue_only {m₀ : List Part} {b₀ : Blk} (b : Blk) (r : Nat) (e : RegionEntry) (hm₀ : within [.out, .od, .hA, .hB, .can, .twill, .linen] m₀) (h₀ : Only m₀ b₀ b) : Only m₀ b₀ (Blk.wearDue b r e) := by
  refine only_step (l := [.out, .od, .hA, .hB, .can, .twill, .linen]) ?_ hm₀ h₀
  unfold Blk.wearDue
  repeat (first | assumption | with_reducible apply only_refl | (with_reducible apply Blk.onTwill_only <;> [decide; skip]) | (with_reducible apply Blk.reportUnit_only <;> [decide; skip]) | with_reducible apply only_ite | extract_lets | split | (dsimp +zetaDelta only))

theorem Blk.wearUp_only {m₀ : List Part} {b₀ : Blk} (b : Blk) (slot : Nat) (hm₀ : within [.out, .od, .hA, .hB, .can, .twill, .linen] m₀) (h₀ : Only m₀ b₀ b) : Only m₀ b₀ (Blk.wearUp b slot) := by
  refine only_step (l := [.out, .od, .hA, .hB, .can, .twill, .linen]) ?_ hm₀ h₀
  unfold Blk.wearUp
  repeat (first | assumption | with_reducible apply only_refl | (with_reducible apply Blk.onTwill_only <;> [decide; skip]) | (with_reducible apply Blk.setSlot_only <;> [decide; skip]) | (with_reducible apply Blk.putRegion_only <;> [decide; skip]) | (with_reducible apply Blk.wearDue_only <;> [decide; skip]) | with_reducible apply only_ite | extract_lets | split | (dsimp +zetaDelta only))

theorem Blk.foldCount_only {m₀ : List Part} {b₀ : Blk} (b : Blk) (slot : Nat) (hm₀ : within [.out, .od, .hA, .hB, .can, .twill, .linen] m₀) (h₀ : Only m₀ b₀ b) : Only m₀ b₀ (Blk.foldCount b slot) := by
  refine only_step (l := [.out, .od, .hA, .hB, .can, .twill, .linen]) ?_ hm₀ h₀
  unfold Blk.foldCount
  repeat (first | assumption | with_reducible apply only_refl | (with_reducible apply Blk.onTwill_only <;> [decide; skip]) | (with_reducible apply Blk.putRegion_only <;> [decide; skip]) | (with_reducible apply Blk.wearUp_only <;> [decide; skip]) | with_reducible apply only_ite | extract_lets | split | (dsimp +zetaDelta only))

theorem Blk.countWrites_only {m₀ : List Part} {b₀ : Blk} (b : Blk) (slot n : Nat) (hm₀ : within [.out, .od, .hA, .hB, .can, .twill, .linen] m₀) (h₀ : Only m₀ b₀ b) : Only m₀ b₀ (Blk.countWrites b slot n) := by
  refine only_step (l := [.out, .od, .hA, .hB, .can, .twill, .linen]) ?_ hm₀ h₀
  unfold Blk.countWrites
  repeat (first | assumption | with_reducible apply only_refl | (with_reducible apply Blk.onTwill_only <;> [decide; skip]) | (with_reducible apply Blk.foldCount_only <;> [decide; skip]) | with_reducible apply only_ite | extract_lets | split | (dsimp +zetaDelta only))

theorem Blk.journalRec_only {m₀ : List Part} {b₀ : Blk} (b : Blk) (type : Nat) (items : List Nat) (hm₀ : within [.out, .od, .hA, .hB, .can, .lines, .twill, .linen] m₀) (h₀ : Only m₀ b₀ b) : Only m₀ b₀ (Blk.journalRec b type items) := by
  refine only_step (l := [.out, .od, .hA, .hB, .can, .lines, .twill, .linen]) ?_ hm₀ h₀
  unfold Blk.journalRec
  repeat (first | assumption | with_reducible apply only_refl | (with_reducible apply Blk.onTwill_only <;> [decide; skip]) | (with_reducible apply Blk.storeLine_only <;> [decide; skip]) | (with_reducible apply Blk.countWrites_only <;> [decide; skip]) | extract_lets | (dsimp +zetaDelta only))

theorem Blk.retireSlot_only {m₀ : List Part} {b₀ : Blk} (b : Blk) (slot wear reason : Nat) (hm₀ : within [.out, .od, .hA, .hB, .muslin, .can, .dev, .lines, .twill, .linen, .tweed, .modes] m₀) (h₀ : Only m₀ b₀ b) : Only m₀ b₀ (Blk.retireSlot b slot wear reason) := by
  refine only_step (l := [.out, .od, .hA, .hB, .muslin, .can, .dev, .lines, .twill, .linen, .tweed, .modes]) ?_ hm₀ h₀
  unfold Blk.retireSlot
  repeat (first | assumption | with_reducible apply only_refl | (with_reducible apply Blk.onTwill_only <;> [decide; skip]) | (with_reducible apply Blk.reportUnit_only <;> [decide; skip]) | (with_reducible apply Blk.setSlot_only <;> [decide; skip]) | (with_reducible apply Blk.lifeCheck_only <;> [decide; skip]) | (with_reducible apply Blk.journalRec_only <;> [decide; skip]) | with_reducible apply only_ite)

theorem Blk.retireWaiting_only {m₀ : List Part} {b₀ : Blk} (b : Blk) (hm₀ : within [.out, .od, .hA, .hB, .muslin, .can, .dev, .lines, .twill, .linen, .tweed, .modes] m₀) (h₀ : Only m₀ b₀ b) : Only m₀ b₀ (Blk.retireWaiting b) := by
  refine only_step (l := [.out, .od, .hA, .hB, .muslin, .can, .dev, .lines, .twill, .linen, .tweed, .modes]) ?_ hm₀ h₀
  unfold Blk.retireWaiting
  repeat (first | assumption | with_reducible apply only_refl | (with_reducible apply Blk.onTwill_only <;> [decide; skip]) | (with_reducible apply Blk.retireSlot_only <;> [decide; skip]) | (with_reducible refine only_foldl (fun c x hc => ?_) _ _ ?_) | with_reducible apply only_ite)

theorem Blk.gatherDemotion_only {m₀ : List Part} {b₀ : Blk} (b : Blk) (li : Nat) (hm₀ : within [.twill] m₀) (h₀ : Only m₀ b₀ b) : Only m₀ b₀ (Blk.gatherDemotion b li) := by
  refine only_step (l := [.twill]) ?_ hm₀ h₀
  unfold Blk.gatherDemotion
  repeat (first | assumption | with_reducible apply only_refl | (with_reducible apply Blk.onTwill_only <;> [decide; skip]))

theorem Blk.gatherFreed_only {m₀ : List Part} {b₀ : Blk} (b : Blk) (slot : Nat) (hm₀ : within [.twill] m₀) (h₀ : Only m₀ b₀ b) : Only m₀ b₀ (Blk.gatherFreed b slot) := by
  refine only_step (l := [.twill]) ?_ hm₀ h₀
  unfold Blk.gatherFreed
  repeat (first | assumption | with_reducible apply only_refl | (with_reducible apply Blk.onTwill_only <;> [decide; skip]))

theorem Blk.invalidate_only {m₀ : List Part} {b₀ : Blk} (b : Blk) (e : HotEntry) (hm₀ : within [.twill] m₀) (h₀ : Only m₀ b₀ b) : Only m₀ b₀ (Blk.invalidate b e) := by
  refine only_step (l := [.twill]) ?_ hm₀ h₀
  unfold Blk.invalidate
  repeat (first | assumption | with_reducible apply only_refl | (with_reducible apply Blk.onTwill_only <;> [decide; skip]) | extract_lets | (dsimp +zetaDelta only))

theorem Blk.sendDie_only {m₀ : List Part} {b₀ : Blk} (b : Blk) (d : Nat) (c : DieCmd) (hm₀ : within [.out, .media] m₀) (h₀ : Only m₀ b₀ b) : Only m₀ b₀ (Blk.sendDie b d c) := by
  refine only_step (l := [.out, .media]) ?_ hm₀ h₀
  unfold Blk.sendDie
  repeat (first | assumption | with_reducible apply only_refl | (with_reducible apply Blk.emit_only <;> [decide; skip]) | (with_reducible apply Blk.onDie_only <;> [decide; skip]))

theorem Blk.sendProgram_only {m₀ : List Part} {b₀ : Blk} (b : Blk) (pid line : Nat) (ovw : Bool) (hm₀ : within [.out, .media] m₀) (h₀ : Only m₀ b₀ b) : Only m₀ b₀ (Blk.sendProgram b pid line ovw) := by
  refine only_step (l := [.out, .media]) ?_ hm₀ h₀
  unfold Blk.sendProgram
  repeat (first | assumption | with_reducible apply only_refl | (with_reducible apply Blk.onPart_only <;> [decide; skip]) | (with_reducible apply Blk.sendDie_only <;> [decide; skip]) | with_reducible apply only_ite | extract_lets | (dsimp +zetaDelta only))

theorem Blk.startProgram_only {m₀ : List Part} {b₀ : Blk} (b : Blk) (x : Pend) (hm₀ : within [.free, .out, .od, .hA, .hB, .can, .media, .twill, .linen, .tweed] m₀) (h₀ : Only m₀ b₀ b) : Only m₀ b₀ (Blk.startProgram b x) := by
  refine only_step (l := [.free, .out, .od, .hA, .hB, .can, .media, .twill, .linen, .tweed]) ?_ hm₀ h₀
  unfold Blk.startProgram
  repeat (first | assumption | with_reducible apply only_refl | (with_reducible apply Blk.tw_only <;> [decide; skip]) | (with_reducible apply Blk.twChan_only <;> [decide; skip]) | (with_reducible apply Blk.onPart_only <;> [decide; skip]) | (with_reducible apply Blk.countWrites_only <;> [decide; skip]) | (with_reducible apply Blk.sendProgram_only <;> [decide; skip]) | with_reducible apply only_ite | extract_lets | (dsimp +zetaDelta only))

theorem Blk.countTransfers_only {m₀ : List Part} {b₀ : Blk} (b : Blk) (locs : List Nat) (hm₀ : within [.tweed] m₀) (h₀ : Only m₀ b₀ b) : Only m₀ b₀ (Blk.countTransfers b locs) := by
  refine only_step (l := [.tweed]) ?_ hm₀ h₀
  unfold Blk.countTransfers
  repeat (first | assumption | with_reducible apply only_refl | (with_reducible apply Blk.tw_only <;> [decide; skip]) | (with_reducible refine only_foldl (fun c x hc => ?_) _ _ ?_))

theorem Blk.putOwnLine_only {m₀ : List Part} {b₀ : Blk} (b : Blk) (x : Mem) (type v : Nat) (bytes : List Byte) (hm₀ : within [.out, .od, .hA, .hB, .can, .lines, .twill, .linen, .tweed] m₀) (h₀ : Only m₀ b₀ b) : Only m₀ b₀ (Blk.putOwnLine b x type v bytes) := by
  refine only_step (l := [.out, .od, .hA, .hB, .can, .lines, .twill, .linen, .tweed]) ?_ hm₀ h₀
  unfold Blk.putOwnLine
  repeat (first | assumption | with_reducible apply only_refl | (with_reducible apply Blk.storeLine_only <;> [decide; skip]) | (with_reducible apply Blk.countWrites_only <;> [decide; skip]) | (with_reducible apply Blk.countTransfers_only <;> [decide; skip]) | extract_lets | (dsimp +zetaDelta only))

theorem Blk.program_only {m₀ : List Part} {b₀ : Blk} (b : Blk) (x : Pend) (hm₀ : within [.free, .out, .od, .hA, .hB, .can, .media, .twill, .linen, .tweed] m₀) (h₀ : Only m₀ b₀ b) : Only m₀ b₀ (Blk.program b x) := by
  refine only_step (l := [.free, .out, .od, .hA, .hB, .can, .media, .twill, .linen, .tweed]) ?_ hm₀ h₀
  unfold Blk.program
  repeat (first | assumption | with_reducible apply only_refl | (with_reducible apply onMedia_keep <;> [decide; (intro; exact ⟨rfl, rfl⟩); skip]) | (with_reducible apply Blk.startProgram_only <;> [decide; skip]) | with_reducible apply only_ite)

theorem Blk.pump_only {m₀ : List Part} {b₀ : Blk} (b : Blk) (d : Nat) (hm₀ : within [.free, .out, .od, .hA, .hB, .can, .media, .twill, .linen, .tweed] m₀) (h₀ : Only m₀ b₀ b) : Only m₀ b₀ (Blk.pump b d) := by
  refine only_step (l := [.free, .out, .od, .hA, .hB, .can, .media, .twill, .linen, .tweed]) ?_ hm₀ h₀
  unfold Blk.pump
  repeat (first | assumption | with_reducible apply only_refl | (with_reducible apply onMedia_keep <;> [decide; (intro; exact ⟨rfl, rfl⟩); skip]) | (with_reducible apply Blk.startProgram_only <;> [decide; skip]) | (with_reducible refine only_foldl (fun c x hc => ?_) _ _ ?_) | with_reducible apply only_ite)

theorem Blk.nextRow_only {m₀ : List Part} {b₀ : Blk} (b : Blk) (n : Nat) (hm₀ : within [.twill] m₀) (h₀ : Only m₀ b₀ b) : Only m₀ b₀ (Blk.nextRow b n) := by
  refine only_step (l := [.twill]) ?_ hm₀ h₀
  unfold Blk.nextRow
  repeat (first | assumption | with_reducible apply only_refl | (with_reducible apply Blk.onTwill_only <;> [decide; skip]) | split)

theorem Blk.closeStripe_only {m₀ : List Part} {b₀ : Blk} (b : Blk) (n : Nat) (now : Bool := false) (hm₀ : within [.free, .out, .od, .hA, .hB, .can, .lines, .media, .twill, .linen, .tweed] m₀) (h₀ : Only m₀ b₀ b) : Only m₀ b₀ (Blk.closeStripe b n now) := by
  refine only_step (l := [.free, .out, .od, .hA, .hB, .can, .lines, .media, .twill, .linen, .tweed]) ?_ hm₀ h₀
  unfold Blk.closeStripe
  repeat (first | assumption | with_reducible apply only_refl | (with_reducible apply Blk.onTwill_only <;> [decide; skip]) | (with_reducible apply Blk.storeLine_only <;> [decide; skip]) | (with_reducible apply Blk.countWrites_only <;> [decide; skip]) | (with_reducible apply Blk.countTransfers_only <;> [decide; skip]) | (with_reducible apply Blk.program_only <;> [decide; skip]) | (with_reducible apply Blk.nextRow_only <;> [decide; skip]) | (with_reducible refine only_foldl (fun c x hc => ?_) _ _ ?_) | with_reducible apply only_ite | extract_lets | split | (dsimp +zetaDelta only))

theorem Blk.closeFull_only {m₀ : List Part} {b₀ : Blk} (b : Blk) (slot stripe pos : Nat) (now : Bool := false) (hm₀ : within [.free, .out, .od, .hA, .hB, .can, .lines, .media, .twill, .linen, .tweed] m₀) (h₀ : Only m₀ b₀ b) : Only m₀ b₀ (Blk.closeFull b slot stripe pos now) := by
  refine only_step (l := [.free, .out, .od, .hA, .hB, .can, .lines, .media, .twill, .linen, .tweed]) ?_ hm₀ h₀
  unfold Blk.closeFull
  repeat (first | assumption | with_reducible apply only_refl | (with_reducible apply Blk.closeStripe_only <;> [decide; skip]) | with_reducible apply only_ite | split)

theorem Blk.setTag_only {m₀ : List Part} {b₀ : Blk} (b : Blk) (li : Nat) (tag : BitVec 56) (hm₀ : within [.od, .damask, .tweed] m₀) (h₀ : Only m₀ b₀ b) : Only m₀ b₀ (Blk.setTag b li tag) := by
  refine only_step (l := [.od, .damask, .tweed]) ?_ hm₀ h₀
  unfold Blk.setTag
  repeat (first | assumption | with_reducible apply only_refl | (with_reducible apply Blk.putTag_only <;> [decide; skip]) | (with_reducible apply Blk.useTag_only <;> [decide; skip]) | extract_lets | (dsimp +zetaDelta only))

theorem Blk.takePosition_only {m₀ : List Part} {b₀ : Blk} (b : Blk) (li : Nat) (data : Line) (n : Nat) (l : Lane) (hm₀ : within [.twill, .tweed] m₀) (h₀ : Only m₀ b₀ b) : Only m₀ b₀ (Blk.takePosition b li data n l).1 := by
  refine only_step (l := [.twill, .tweed]) ?_ hm₀ h₀
  unfold Blk.takePosition
  repeat (first | assumption | with_reducible apply only_refl | (with_reducible apply Blk.onTwill_only <;> [decide; skip]) | (with_reducible apply Blk.tw_only <;> [decide; skip]) | extract_lets | with_reducible apply only_ite_fst | dsimp only | (dsimp +zetaDelta only))

theorem Blk.setHot_only {m₀ : List Part} {b₀ : Blk} (b : Blk) (li slot stripe pos : Nat) (hm₀ : within [.od, .twill, .damask, .tweed] m₀) (h₀ : Only m₀ b₀ b) : Only m₀ b₀ (Blk.setHot b li slot stripe pos) := by
  refine only_step (l := [.od, .twill, .damask, .tweed]) ?_ hm₀ h₀
  unfold Blk.setHot
  repeat (first | assumption | with_reducible apply only_refl | (with_reducible apply Blk.onTwill_only <;> [decide; skip]) | (with_reducible apply Blk.bump_only <;> [decide; skip]) | (with_reducible apply Blk.putHot_only <;> [decide; skip]) | (with_reducible apply Blk.invalidate_only <;> [decide; skip]) | (with_reducible apply Blk.setTag_only <;> [decide; skip]) | extract_lets | split | (dsimp +zetaDelta only))

theorem Blk.appendNow_only {m₀ : List Part} {b₀ : Blk} (b : Blk) (li : Nat) (data : Line) (n : Nat) (hm₀ : within [.free, .out, .od, .hA, .hB, .can, .lines, .media, .twill, .damask, .linen, .tweed] m₀) (h₀ : Only m₀ b₀ b) : Only m₀ b₀ (Blk.appendNow b li data n) := by
  refine only_step (l := [.free, .out, .od, .hA, .hB, .can, .lines, .media, .twill, .damask, .linen, .tweed]) ?_ hm₀ h₀
  unfold Blk.appendNow
  repeat (first | assumption | with_reducible apply only_refl | (with_reducible apply Blk.storeLine_only <;> [decide; skip]) | (with_reducible apply Blk.countWrites_only <;> [decide; skip]) | (with_reducible apply Blk.countTransfers_only <;> [decide; skip]) | (with_reducible apply Blk.closeFull_only <;> [decide; skip]) | (with_reducible apply Blk.takePosition_only <;> [decide; skip]) | (with_reducible apply Blk.setHot_only <;> [decide; skip]) | extract_lets | split | (dsimp +zetaDelta only))

theorem Blk.writeNow_only {m₀ : List Part} {b₀ : Blk} (b : Blk) (ws : Writes) (hm₀ : within [.out, .od, .hA, .hB, .can, .lines, .twill, .linen, .tweed] m₀) (h₀ : Only m₀ b₀ b) : Only m₀ b₀ (Blk.writeNow b ws) := by
  refine only_step (l := [.out, .od, .hA, .hB, .can, .lines, .twill, .linen, .tweed]) ?_ hm₀ h₀
  unfold Blk.writeNow
  repeat (first | assumption | with_reducible apply only_refl | (with_reducible apply Blk.storeLine_only <;> [decide; skip]) | (with_reducible apply Blk.countWrites_only <;> [decide; skip]) | (with_reducible apply Blk.countTransfers_only <;> [decide; skip]) | (with_reducible refine only_foldl (fun c x hc => ?_) _ _ ?_))

theorem Blk.flushTag_only {m₀ : List Part} {b₀ : Blk} (b : Blk) (ti : Nat) (hm₀ : within [.out, .od, .hA, .hB, .can, .lines, .twill, .damask, .linen, .tweed] m₀) (h₀ : Only m₀ b₀ b) : Only m₀ b₀ (Blk.flushTag b ti) := by
  refine only_step (l := [.out, .od, .hA, .hB, .can, .lines, .twill, .damask, .linen, .tweed]) ?_ hm₀ h₀
  unfold Blk.flushTag
  repeat (first | assumption | with_reducible apply only_refl | (with_reducible apply Blk.cleanTag_only <;> [decide; skip]) | (with_reducible apply Blk.writeNow_only <;> [decide; skip]) | with_reducible apply only_ite)

theorem Blk.reencrypt_only {m₀ : List Part} {b₀ : Blk} (b : Blk) (ti : Nat) (epoch : BitVec 8) (major : BitVec 24) (new : Option (Nat × Line)) (hm₀ : within [.free, .out, .od, .hA, .hB, .can, .path, .lines, .poison, .media, .twill, .damask, .linen, .tweed, .modes] m₀) (h₀ : Only m₀ b₀ b) : Only m₀ b₀ (Blk.reencrypt b ti epoch major new) := by
  refine only_step (l := [.free, .out, .od, .hA, .hB, .can, .path, .lines, .poison, .media, .twill, .damask, .linen, .tweed, .modes]) ?_ hm₀ h₀
  unfold Blk.reencrypt
  repeat (first | assumption | with_reducible apply only_refl | (with_reducible apply Blk.putTag_only <;> [decide; skip]) | (with_reducible apply Blk.useTag_only <;> [decide; skip]) | (with_reducible apply Blk.poisonLine_only <;> [decide; skip]) | (with_reducible apply Blk.writeNow_only <;> [decide; skip]) | (with_reducible apply Blk.flushTag_only <;> [decide; skip]) | (with_reducible refine only_foldl (fun c x hc => ?_) _ _ ?_) | extract_lets | (dsimp +zetaDelta only))

theorem Blk.coldCipher_only {m₀ : List Part} {b₀ : Blk} (b : Blk) (li : Nat) (p : Place) (data : Line) (hm₀ : within [.od, .damask, .tweed] m₀) (h₀ : Only m₀ b₀ b) : Only m₀ b₀ (Blk.coldCipher b li p data).1 := by
  refine only_step (l := [.od, .damask, .tweed]) ?_ hm₀ h₀
  unfold Blk.coldCipher
  repeat (first | assumption | with_reducible apply only_refl | (with_reducible apply Blk.putTag_only <;> [decide; skip]) | (with_reducible apply Blk.useTag_only <;> [decide; skip]) | extract_lets | with_reducible apply only_ite_fst | dsimp only | (dsimp +zetaDelta only))

theorem Blk.writeHomeNow_only {m₀ : List Part} {b₀ : Blk} (b : Blk) (li : Nat) (data : Line) (hm₀ : within [.free, .out, .od, .hA, .hB, .can, .path, .lines, .poison, .media, .twill, .damask, .linen, .tweed, .modes] m₀) (h₀ : Only m₀ b₀ b) : Only m₀ b₀ (Blk.writeHomeNow b li data) := by
  refine only_step (l := [.free, .out, .od, .hA, .hB, .can, .path, .lines, .poison, .media, .twill, .damask, .linen, .tweed, .modes]) ?_ hm₀ h₀
  unfold Blk.writeHomeNow
  repeat (first | assumption | with_reducible apply only_refl | (with_reducible apply Blk.bump_only <;> [decide; skip]) | (with_reducible apply Blk.tw_only <;> [decide; skip]) | (with_reducible apply Blk.writeNow_only <;> [decide; skip]) | (with_reducible apply Blk.reencrypt_only <;> [decide; skip]) | (with_reducible apply Blk.coldCipher_only <;> [decide; skip]) | with_reducible apply only_ite | extract_lets | split | (dsimp +zetaDelta only))

theorem Blk.retag_only {m₀ : List Part} {b₀ : Blk} (b : Blk) (li : Nat) (hm₀ : within [.od, .damask, .tweed] m₀) (h₀ : Only m₀ b₀ b) : Only m₀ b₀ (Blk.retag b li) := by
  refine only_step (l := [.od, .damask, .tweed]) ?_ hm₀ h₀
  unfold Blk.retag
  repeat (first | assumption | with_reducible apply only_refl | (with_reducible apply Blk.setTag_only <;> [decide; skip]) | extract_lets | split | (dsimp +zetaDelta only))

theorem Blk.barriersDone_only {m₀ : List Part} {b₀ : Blk} (b : Blk) (li upto : Nat) (hm₀ : within [.path] m₀) (h₀ : Only m₀ b₀ b) : Only m₀ b₀ (Blk.barriersDone b li upto) := by
  refine only_step (l := [.path]) ?_ hm₀ h₀
  unfold Blk.barriersDone
  repeat (first | assumption | with_reducible apply only_refl | (with_reducible apply Blk.onPath_only <;> [decide; skip]) | with_reducible apply only_ite)

theorem Blk.issueRecord_only {m₀ : List Part} {b₀ : Blk} (b : Blk) (e : Nat × Option PSource) (hm₀ : within [.free, .out, .od, .hA, .hB, .can, .media, .twill, .linen, .tweed] m₀) (h₀ : Only m₀ b₀ b) : Only m₀ b₀ (Blk.issueRecord b e) := by
  refine only_step (l := [.free, .out, .od, .hA, .hB, .can, .media, .twill, .linen, .tweed]) ?_ hm₀ h₀
  unfold Blk.issueRecord
  repeat (first | assumption | with_reducible apply only_refl | (with_reducible apply onMedia_keep <;> [decide; (intro; exact ⟨rfl, rfl⟩); skip]) | (with_reducible apply Blk.program_only <;> [decide; skip]) | extract_lets | (dsimp +zetaDelta only))

theorem Blk.issueRecords_only {m₀ : List Part} {b₀ : Blk} (b : Blk) (hm₀ : within [.free, .out, .od, .hA, .hB, .can, .media, .twill, .linen, .tweed] m₀) (h₀ : Only m₀ b₀ b) : Only m₀ b₀ (Blk.issueRecords b) := by
  refine only_step (l := [.free, .out, .od, .hA, .hB, .can, .media, .twill, .linen, .tweed]) ?_ hm₀ h₀
  unfold Blk.issueRecords
  repeat (first | assumption | with_reducible apply only_refl | (with_reducible apply onMedia_keep <;> [decide; (intro; exact ⟨rfl, rfl⟩); skip]) | (with_reducible apply Blk.issueRecord_only <;> [decide; skip]) | (with_reducible refine only_foldl (fun c x hc => ?_) _ _ ?_))

theorem Blk.endWrite_only {m₀ : List Part} {b₀ : Blk} (b : Blk) (x : Acc) (hm₀ : within [.free, .out, .od, .hA, .hB, .can, .path, .lines, .twill, .damask, .linen, .tweed] m₀) (h₀ : Only m₀ b₀ b) : Only m₀ b₀ (Blk.endWrite b x) := by
  refine only_step (l := [.free, .out, .od, .hA, .hB, .can, .path, .lines, .twill, .damask, .linen, .tweed]) ?_ hm₀ h₀
  unfold Blk.endWrite
  repeat (first | assumption | with_reducible apply only_refl | (with_reducible apply Blk.onAcc_only <;> [decide; skip]) | (with_reducible apply Blk.finishWrite_only <;> [decide; skip]) | with_reducible apply only_ite)

theorem Blk.recordStored_only {m₀ : List Part} {b₀ : Blk} (b : Blk) (x : Mem) (hm₀ : within [.free, .out, .od, .hA, .hB, .can, .path, .media, .linen, .tweed] m₀) (h₀ : Only m₀ b₀ b) : Only m₀ b₀ (Blk.recordStored b x) := by
  refine only_step (l := [.free, .out, .od, .hA, .hB, .can, .path, .media, .linen, .tweed]) ?_ hm₀ h₀
  unfold Blk.recordStored
  repeat (first | assumption | with_reducible apply only_refl | (with_reducible apply onMedia_keep <;> [decide; (intro; exact ⟨rfl, rfl⟩); skip]) | (with_reducible apply Blk.onAcc_only <;> [decide; skip]) | (with_reducible apply Blk.finishWrite_only <;> [decide; skip]) | (with_reducible refine only_foldl (fun c x hc => ?_) _ _ ?_) | with_reducible apply only_ite | extract_lets | (dsimp +zetaDelta only))

theorem Blk.recordAgain_only {m₀ : List Part} {b₀ : Blk} (b : Blk) (x : Mem) (c : MLine) (hm₀ : within [.free, .out, .od, .hA, .hB, .can, .path, .media, .twill, .linen, .tweed] m₀) (h₀ : Only m₀ b₀ b) : Only m₀ b₀ (Blk.recordAgain b x c) := by
  refine only_step (l := [.free, .out, .od, .hA, .hB, .can, .path, .media, .twill, .linen, .tweed]) ?_ hm₀ h₀
  unfold Blk.recordAgain
  repeat (first | assumption | with_reducible apply only_refl | (with_reducible apply onMedia_keep <;> [decide; (intro; exact ⟨rfl, rfl⟩); skip]) | (with_reducible apply Blk.onPath_only <;> [decide; skip]) | (with_reducible apply Blk.program_only <;> [decide; skip]) | with_reducible apply only_ite | extract_lets | (dsimp +zetaDelta only))

theorem Blk.completeWrites_only {m₀ : List Part} {b₀ : Blk} (b : Blk) (li : Nat) (all : Bool) (hm₀ : within [.free, .out, .od, .hA, .hB, .can, .path, .lines, .media, .twill, .damask, .linen, .tweed] m₀) (h₀ : Only m₀ b₀ b) : Only m₀ b₀ (Blk.completeWrites b li all) := by
  refine only_step (l := [.free, .out, .od, .hA, .hB, .can, .path, .lines, .media, .twill, .damask, .linen, .tweed]) ?_ hm₀ h₀
  unfold Blk.completeWrites
  repeat (first | assumption | with_reducible apply only_refl | (with_reducible apply Blk.program_only <;> [decide; skip]) | (with_reducible apply Blk.endWrite_only <;> [decide; skip]) | (with_reducible refine only_foldl (fun c x hc => ?_) _ _ ?_))

theorem Blk.bufferDone_only {m₀ : List Part} {b₀ : Blk} (b : Blk) (n : Nat) (hm₀ : within [.free, .out, .od, .hA, .hB, .can, .path, .lines, .media, .velvet, .twill, .damask, .linen, .tweed] m₀) (h₀ : Only m₀ b₀ b) : Only m₀ b₀ (Blk.bufferDone b n) := by
  refine only_step (l := [.free, .out, .od, .hA, .hB, .can, .path, .lines, .media, .velvet, .twill, .damask, .linen, .tweed]) ?_ hm₀ h₀
  unfold Blk.bufferDone
  repeat (first | assumption | with_reducible apply only_refl | (with_reducible apply Blk.onVelvet_only <;> [decide; skip]) | (with_reducible apply Blk.putWay_only <;> [decide; skip]) | (with_reducible apply Blk.putBuf_only <;> [decide; skip]) | (with_reducible apply Blk.maintain_only <;> [decide; skip]) | (with_reducible apply Blk.barriersDone_only <;> [decide; skip]) | (with_reducible apply Blk.completeWrites_only <;> [decide; skip]) | with_reducible apply only_ite | extract_lets | split | (dsimp +zetaDelta only))

theorem Blk.throughDone_only {m₀ : List Part} {b₀ : Blk} (b : Blk) (li since : Nat) (hm₀ : within [.free, .out, .od, .hA, .hB, .can, .path, .lines, .media, .velvet, .twill, .damask, .linen, .tweed] m₀) (h₀ : Only m₀ b₀ b) : Only m₀ b₀ (Blk.throughDone b li since) := by
  refine only_step (l := [.free, .out, .od, .hA, .hB, .can, .path, .lines, .media, .velvet, .twill, .damask, .linen, .tweed]) ?_ hm₀ h₀
  unfold Blk.throughDone
  repeat (first | assumption | with_reducible apply only_refl | (with_reducible apply Blk.putWay_only <;> [decide; skip]) | (with_reducible apply Blk.maintain_only <;> [decide; skip]) | (with_reducible apply Blk.program_only <;> [decide; skip]) | (with_reducible apply Blk.barriersDone_only <;> [decide; skip]) | (with_reducible apply Blk.completeWrites_only <;> [decide; skip]) | with_reducible apply only_ite | extract_lets | split | (dsimp +zetaDelta only))

theorem Blk.keepCal_only {m₀ : List Part} {b₀ : Blk} (b : Blk) (hm₀ : within [.gauze] m₀) (h₀ : Only m₀ b₀ b) : Only m₀ b₀ (Blk.keepCal b) := by
  refine only_step (l := [.gauze]) ?_ hm₀ h₀
  unfold Blk.keepCal
  repeat (first | assumption | with_reducible apply only_refl | (with_reducible apply Blk.onGauze_only <;> [decide; skip]))

theorem Blk.putCal_only {m₀ : List Part} {b₀ : Blk} (b : Blk) (d : Nat) (f : DieCal → DieCal) (hm₀ : within [.gauze] m₀) (h₀ : Only m₀ b₀ b) : Only m₀ b₀ (Blk.putCal b d f) := by
  refine only_step (l := [.gauze]) ?_ hm₀ h₀
  unfold Blk.putCal
  repeat (first | assumption | with_reducible apply only_refl | (with_reducible apply Blk.onGauze_only <;> [decide; skip]) | (with_reducible apply Blk.keepCal_only <;> [decide; skip]))

theorem Blk.putCell_only {m₀ : List Part} {b₀ : Blk} (b : Blk) (d k n j : Nat) (c : GCell) (hm₀ : within [.gauze] m₀) (h₀ : Only m₀ b₀ b) : Only m₀ b₀ (Blk.putCell b d k n j c) := by
  refine only_step (l := [.gauze]) ?_ hm₀ h₀
  unfold Blk.putCell
  repeat (first | assumption | with_reducible apply only_refl | (with_reducible apply Blk.onGauze_only <;> [decide; skip]))

theorem Blk.openCells_only {m₀ : List Part} {b₀ : Blk} (b : Blk) (d a n : Nat) (hm₀ : within [.gauze] m₀) (h₀ : Only m₀ b₀ b) : Only m₀ b₀ (Blk.openCells b d a n) := by
  refine only_step (l := [.gauze]) ?_ hm₀ h₀
  unfold Blk.openCells
  repeat (first | assumption | with_reducible apply only_refl | (with_reducible apply Blk.putCell_only <;> [decide; skip]) | (with_reducible refine only_foldl (fun c x hc => ?_) _ _ ?_))

theorem Blk.gaugeOne_only {m₀ : List Part} {b₀ : Blk} (b : Blk) (d k n : Nat) (sg : BitVec 72) (errs j : Nat) (hm₀ : within [.gauze] m₀) (h₀ : Only m₀ b₀ b) : Only m₀ b₀ (Blk.gaugeOne b d k n sg errs j) := by
  refine only_step (l := [.gauze]) ?_ hm₀ h₀
  unfold Blk.gaugeOne
  repeat (first | assumption | with_reducible apply only_refl | (with_reducible apply Blk.onGauze_only <;> [decide; skip]) | (with_reducible apply Blk.putCell_only <;> [decide; skip]) | extract_lets | (dsimp +zetaDelta only))

theorem Blk.gauge_only {m₀ : List Part} {b₀ : Blk} (b : Blk) (d : Nat) (t : ReadTask) (sg : BitVec 72) (errs : Nat) (hm₀ : within [.gauze] m₀) (h₀ : Only m₀ b₀ b) : Only m₀ b₀ (Blk.gauge b d t sg errs) := by
  refine only_step (l := [.gauze]) ?_ hm₀ h₀
  unfold Blk.gauge
  repeat (first | assumption | with_reducible apply only_refl | (with_reducible apply Blk.gaugeOne_only <;> [decide; skip]) | (with_reducible refine only_foldl (fun c x hc => ?_) _ _ ?_))

theorem Blk.areaNew_only {m₀ : List Part} {b₀ : Blk} (b : Blk) (area : Nat) (hm₀ : within [.gauze] m₀) (h₀ : Only m₀ b₀ b) : Only m₀ b₀ (Blk.areaNew b area) := by
  refine only_step (l := [.gauze]) ?_ hm₀ h₀
  unfold Blk.areaNew
  repeat (first | assumption | with_reducible apply only_refl | (with_reducible apply Blk.onGauze_only <;> [decide; skip]))

theorem Blk.weakCount_only {m₀ : List Part} {b₀ : Blk} (b : Blk) (area : Nat) (hm₀ : within [.gauze] m₀) (h₀ : Only m₀ b₀ b) : Only m₀ b₀ (Blk.weakCount b area) := by
  refine only_step (l := [.gauze]) ?_ hm₀ h₀
  unfold Blk.weakCount
  repeat (first | assumption | with_reducible apply only_refl | (with_reducible apply Blk.onGauze_only <;> [decide; skip]) | with_reducible apply only_ite | extract_lets | split | (dsimp +zetaDelta only))

theorem Blk.offerRefresh_only {m₀ : List Part} {b₀ : Blk} (b : Blk) (r sec : Nat) (hm₀ : within [.twill] m₀) (h₀ : Only m₀ b₀ b) : Only m₀ b₀ (Blk.offerRefresh b r sec) := by
  refine only_step (l := [.twill]) ?_ hm₀ h₀
  unfold Blk.offerRefresh
  repeat (first | assumption | with_reducible apply only_refl | (with_reducible apply Blk.onTwill_only <;> [decide; skip]) | extract_lets | (dsimp +zetaDelta only))

theorem Blk.queueWeak_only {m₀ : List Part} {b₀ : Blk} (b : Blk) (x : Mem) (hm₀ : within [.media] m₀) (h₀ : Only m₀ b₀ b) : Only m₀ b₀ (Blk.queueWeak b x) := by
  refine only_step (l := [.media]) ?_ hm₀ h₀
  unfold Blk.queueWeak
  repeat (first | assumption | with_reducible apply only_refl | (with_reducible apply onMedia_keep <;> [decide; (intro; exact ⟨rfl, rfl⟩); skip]) | with_reducible apply only_ite)

theorem Blk.slowDown_only {m₀ : List Part} {b₀ : Blk} (b : Blk) (hm₀ : within [.out, .od, .hA, .hB, .can, .linen, .thermal, .modes] m₀) (h₀ : Only m₀ b₀ b) : Only m₀ b₀ (Blk.slowDown b) := by
  refine only_step (l := [.out, .od, .hA, .hB, .can, .linen, .thermal, .modes]) ?_ hm₀ h₀
  unfold Blk.slowDown
  repeat (first | assumption | with_reducible apply only_refl | (with_reducible apply Blk.onHA_only <;> [decide; skip]) | (with_reducible apply Blk.onHB_only <;> [decide; skip]) | (with_reducible apply Blk.onThermal_only <;> [decide; skip]) | (with_reducible apply Blk.bump_only <;> [decide; skip]) | (with_reducible apply Blk.report_only <;> [decide; skip]) | (with_reducible apply Blk.faultPin_only <;> [decide; skip]) | with_reducible apply only_ite)

theorem Blk.maskTherm_only {m₀ : List Part} {b₀ : Blk} (b : Blk) (d : Nat) (on : Bool) (hm₀ : within [.out, .media] m₀) (h₀ : Only m₀ b₀ b) : Only m₀ b₀ (Blk.maskTherm b d on) := by
  refine only_step (l := [.out, .media]) ?_ hm₀ h₀
  unfold Blk.maskTherm
  repeat (first | assumption | with_reducible apply only_refl | (with_reducible apply Blk.onDie_only <;> [decide; skip]) | (with_reducible apply Blk.sendDie_only <;> [decide; skip]) | with_reducible apply only_ite | extract_lets | (dsimp +zetaDelta only))

theorem Blk.coolDie_only {m₀ : List Part} {b₀ : Blk} (b : Blk) (d : Nat) (hm₀ : within [.out, .media] m₀) (h₀ : Only m₀ b₀ b) : Only m₀ b₀ (Blk.coolDie b d) := by
  refine only_step (l := [.out, .media]) ?_ hm₀ h₀
  unfold Blk.coolDie
  extract_lets x since b1
  rcases since with _ | t <;> repeat (first | assumption | with_reducible apply only_refl | (with_reducible apply Blk.onDie_only <;> [decide; skip]) | (with_reducible apply Blk.maskTherm_only <;> [decide; skip]) | with_reducible apply only_ite)

theorem Blk.dieStatus_only {m₀ : List Part} {b₀ : Blk} (b : Blk) (d : Nat) (alrt : BitVec 7) (tval : Bool) (temp : Int) (hm₀ : within [.out, .od, .hA, .hB, .can, .media, .linen, .thermal, .modes] m₀) (h₀ : Only m₀ b₀ b) : Only m₀ b₀ (Blk.dieStatus b d alrt tval temp) := by
  refine only_step (l := [.out, .od, .hA, .hB, .can, .media, .linen, .thermal, .modes]) ?_ hm₀ h₀
  unfold Blk.dieStatus
  repeat (first | assumption | with_reducible apply only_refl | (with_reducible apply Blk.onDie_only <;> [decide; skip]) | (with_reducible apply Blk.reportUnit_only <;> [decide; skip]) | (with_reducible apply Blk.slowDown_only <;> [decide; skip]) | (with_reducible apply Blk.coolDie_only <;> [decide; skip]) | with_reducible apply only_ite | extract_lets | (dsimp +zetaDelta only))

theorem Blk.alarmReact_only {m₀ : List Part} {b₀ : Blk} (b : Blk) (r : Nat) (hm₀ : within [.free, .out, .od, .hA, .hB, .can, .path, .damask, .linen, .tweed, .modes] m₀) (h₀ : Only m₀ b₀ b) : Only m₀ b₀ (Blk.alarmReact b r) := by
  refine only_step (l := [.free, .out, .od, .hA, .hB, .can, .path, .damask, .linen, .tweed, .modes]) ?_ hm₀ h₀
  unfold Blk.alarmReact
  repeat (first | assumption | with_reducible apply only_refl | (with_reducible apply Blk.onDamask_only <;> [decide; skip]) | (with_reducible apply Blk.safeStop_only <;> [decide; skip]) | split)

theorem Blk.alarmEvent_only {m₀ : List Part} {b₀ : Blk} (b : Blk) (r dpa : Nat) (hm₀ : within [.out, .od, .hA, .hB, .can, .linen] m₀) (h₀ : Only m₀ b₀ b) : Only m₀ b₀ (Blk.alarmEvent b r dpa) := by
  refine only_step (l := [.out, .od, .hA, .hB, .can, .linen]) ?_ hm₀ h₀
  unfold Blk.alarmEvent
  repeat (first | assumption | with_reducible apply only_refl | (with_reducible apply Blk.bump_only <;> [decide; skip]) | (with_reducible apply Blk.report_only <;> [decide; skip]))

theorem Blk.damaskFailure_only {m₀ : List Part} {b₀ : Blk} (b : Blk) (li : Nat) (hm₀ : within [.free, .out, .od, .hA, .hB, .can, .path, .damask, .linen, .tweed, .modes] m₀) (h₀ : Only m₀ b₀ b) : Only m₀ b₀ (Blk.damaskFailure b li) := by
  refine only_step (l := [.free, .out, .od, .hA, .hB, .can, .path, .damask, .linen, .tweed, .modes]) ?_ hm₀ h₀
  unfold Blk.damaskFailure
  extract_lets r t b0 slot
  rcases slot with _ | t1 <;> repeat (first | assumption | with_reducible apply only_refl | (with_reducible apply Blk.onDamask_only <;> [decide; skip]) | (with_reducible apply Blk.bump_only <;> [decide; skip]) | (with_reducible apply Blk.alarmReact_only <;> [decide; skip]) | (with_reducible apply Blk.alarmEvent_only <;> [decide; skip]) | with_reducible apply only_ite | extract_lets)

theorem Blk.enqueue_only {m₀ : List Part} {b₀ : Blk} (b : Blk) (x : Mem) (why : ReadFor) (acceptedAt : Nat) (hm₀ : within [.media] m₀) (h₀ : Only m₀ b₀ b) : Only m₀ b₀ (Blk.enqueue b x why acceptedAt) := by
  refine only_step (l := [.media]) ?_ hm₀ h₀
  unfold Blk.enqueue
  repeat (first | assumption | with_reducible apply only_refl | (with_reducible apply Blk.onPart_only <;> [decide; skip]) | extract_lets | (dsimp +zetaDelta only))

theorem Blk.takeSlot_only {m₀ : List Part} {b₀ : Blk} (b : Blk) (x : Mem) (why : ReadFor) (hm₀ : within [.free, .media, .tweed] m₀) (h₀ : Only m₀ b₀ b) : Only m₀ b₀ (Blk.takeSlot b x why) := by
  refine only_step (l := [.free, .media, .tweed]) ?_ hm₀ h₀
  unfold Blk.takeSlot
  repeat (first | assumption | with_reducible apply only_refl | (with_reducible apply Blk.twChan_only <;> [decide; skip]) | (with_reducible apply Blk.onPart_only <;> [decide; skip]) | extract_lets | (dsimp +zetaDelta only))

theorem Blk.memberRead_only {m₀ : List Part} {b₀ : Blk} (b : Blk) (rid : Nat) (x : Mem) (hm₀ : within [.free, .path, .media, .tweed] m₀) (h₀ : Only m₀ b₀ b) : Only m₀ b₀ (Blk.memberRead b rid x) := by
  refine only_step (l := [.free, .path, .media, .tweed]) ?_ hm₀ h₀
  unfold Blk.memberRead
  repeat (first | assumption | with_reducible apply only_refl | (with_reducible apply Blk.onAcc_only <;> [decide; skip]) | (with_reducible apply Blk.takeSlot_only <;> [decide; skip]) | with_reducible apply only_ite)

theorem Blk.startRecon_only {m₀ : List Part} {b₀ : Blk} (b : Blk) (rid : Nat) (p : Place) (hm₀ : within [.free, .od, .path, .media, .tweed] m₀) (h₀ : Only m₀ b₀ b) : Only m₀ b₀ (Blk.startRecon b rid p) := by
  refine only_step (l := [.free, .od, .path, .media, .tweed]) ?_ hm₀ h₀
  unfold Blk.startRecon
  repeat (first | assumption | with_reducible apply only_refl | (with_reducible apply Blk.bump_only <;> [decide; skip]) | (with_reducible apply Blk.tw_only <;> [decide; skip]) | (with_reducible apply Blk.onAcc_only <;> [decide; skip]) | (with_reducible apply Blk.memberRead_only <;> [decide; skip]) | (with_reducible refine only_foldl (fun c x hc => ?_) _ _ ?_) | with_reducible apply only_ite | extract_lets | (dsimp +zetaDelta only))

theorem Blk.refillDue_only {m₀ : List Part} {b₀ : Blk} (b : Blk) (li : Nat) (hm₀ : within [.path, .velvet] m₀) (h₀ : Only m₀ b₀ b) : Only m₀ b₀ (Blk.refillDue b li) := by
  refine only_step (l := [.path, .velvet]) ?_ hm₀ h₀
  unfold Blk.refillDue
  repeat (first | assumption | with_reducible apply only_refl | (with_reducible apply Blk.onPath_only <;> [decide; skip]) | (with_reducible apply Blk.dropWay_only <;> [decide; skip]) | with_reducible apply only_ite | split)

theorem Blk.lineData_only {m₀ : List Part} {b₀ : Blk} (b : Blk) (rid : Nat) (line : Line) (e : DpErr) (hm₀ : within [.free, .out, .od, .hA, .hB, .can, .path, .velvet, .linen, .tweed, .modes, .safety] m₀) (h₀ : Only m₀ b₀ b) : Only m₀ b₀ (Blk.lineData b rid line e) := by
  refine only_step (l := [.free, .out, .od, .hA, .hB, .can, .path, .velvet, .linen, .tweed, .modes, .safety]) ?_ hm₀ h₀
  unfold Blk.lineData
  repeat (first | assumption | with_reducible apply only_refl | (with_reducible apply Blk.onPath_only <;> [decide; skip]) | (with_reducible apply Blk.endAcc_only <;> [decide; skip]) | (with_reducible apply Blk.finishRead_only <;> [decide; skip]) | (with_reducible apply Blk.dpCount_only <;> [decide; skip]) | (with_reducible apply Blk.finishReadDp_only <;> [decide; skip]) | (with_reducible apply Blk.applyFill_only <;> [decide; skip]) | (with_reducible apply Blk.refillDue_only <;> [decide; skip]) | with_reducible apply only_ite | extract_lets | split | (dsimp +zetaDelta only))

theorem Blk.tagRecon_only {m₀ : List Part} {b₀ : Blk} (b : Blk) (rid ti : Nat) (hm₀ : within [.free, .out, .od, .hA, .hB, .can, .path, .lines, .media, .twill, .damask, .linen, .tweed] m₀) (h₀ : Only m₀ b₀ b) : Only m₀ b₀ (Blk.tagRecon b rid ti) := by
  refine only_step (l := [.free, .out, .od, .hA, .hB, .can, .path, .lines, .media, .twill, .damask, .linen, .tweed]) ?_ hm₀ h₀
  unfold Blk.tagRecon
  repeat (first | assumption | with_reducible apply only_refl | (with_reducible apply Blk.onAcc_only <;> [decide; skip]) | (with_reducible apply Blk.takeSlot_only <;> [decide; skip]) | (with_reducible refine only_foldl (fun c x hc => ?_) _ _ ?_) | with_reducible apply only_ite | extract_lets | (dsimp +zetaDelta only))

theorem Blk.readTag_only {m₀ : List Part} {b₀ : Blk} (b : Blk) (rid ti : Nat) (hm₀ : within [.free, .out, .od, .hA, .hB, .can, .path, .lines, .media, .twill, .damask, .linen, .tweed] m₀) (h₀ : Only m₀ b₀ b) : Only m₀ b₀ (Blk.readTag b rid ti) := by
  refine only_step (l := [.free, .out, .od, .hA, .hB, .can, .path, .lines, .media, .twill, .damask, .linen, .tweed]) ?_ hm₀ h₀
  unfold Blk.readTag
  repeat (first | assumption | with_reducible apply only_refl | (with_reducible apply Blk.takeSlot_only <;> [decide; skip]) | (with_reducible apply Blk.tagRecon_only <;> [decide; skip]) | with_reducible apply only_ite | extract_lets | (dsimp +zetaDelta only))

theorem Blk.awaitTag_only {m₀ : List Part} {b₀ : Blk} (b : Blk) (rid ti : Nat) (held : Bool) (hm₀ : within [.free, .out, .od, .hA, .hB, .can, .path, .lines, .media, .twill, .damask, .linen, .tweed] m₀) (h₀ : Only m₀ b₀ b) : Only m₀ b₀ (Blk.awaitTag b rid ti held) := by
  refine only_step (l := [.free, .out, .od, .hA, .hB, .can, .path, .lines, .media, .twill, .damask, .linen, .tweed]) ?_ hm₀ h₀
  unfold Blk.awaitTag
  repeat (first | assumption | with_reducible apply only_refl | (with_reducible apply Blk.onAcc_only <;> [decide; skip]) | (with_reducible apply Blk.readTag_only <;> [decide; skip]) | with_reducible apply only_ite | extract_lets | (dsimp +zetaDelta only))

theorem Blk.readList_only {m₀ : List Part} {b₀ : Blk} (b : Blk) (rid key : Nat) (hm₀ : within [.free, .path, .media, .tweed] m₀) (h₀ : Only m₀ b₀ b) : Only m₀ b₀ (Blk.readList b rid key) := by
  refine only_step (l := [.free, .path, .media, .tweed]) ?_ hm₀ h₀
  unfold Blk.readList
  repeat (first | assumption | with_reducible apply only_refl | (with_reducible apply Blk.onAcc_only <;> [decide; skip]) | (with_reducible apply Blk.takeSlot_only <;> [decide; skip]) | with_reducible apply only_ite | extract_lets | (dsimp +zetaDelta only))

theorem Blk.startRead_only {m₀ : List Part} {b₀ : Blk} (b0 : Blk) (rid : Nat) (hm₀ : within [.free, .out, .od, .hA, .hB, .can, .path, .lines, .media, .velvet, .twill, .damask, .linen, .tweed, .modes, .safety] m₀) (h₀ : Only m₀ b₀ b0) : Only m₀ b₀ (Blk.startRead b0 rid) := by
  refine only_step (l := [.free, .out, .od, .hA, .hB, .can, .path, .lines, .media, .velvet, .twill, .damask, .linen, .tweed, .modes, .safety]) ?_ hm₀ h₀
  unfold Blk.startRead
  repeat (first | assumption | with_reducible apply only_refl | (with_reducible apply Blk.report_only <;> [decide; skip]) | (with_reducible apply Blk.useTag_only <;> [decide; skip]) | (with_reducible apply Blk.onAcc_only <;> [decide; skip]) | (with_reducible apply Blk.finishRead_only <;> [decide; skip]) | (with_reducible apply Blk.enqueue_only <;> [decide; skip]) | (with_reducible apply Blk.startRecon_only <;> [decide; skip]) | (with_reducible apply Blk.refillDue_only <;> [decide; skip]) | (with_reducible apply Blk.lineData_only <;> [decide; skip]) | (with_reducible apply Blk.awaitTag_only <;> [decide; skip]) | (with_reducible apply Blk.readList_only <;> [decide; skip]) | with_reducible apply only_ite | extract_lets | split | (dsimp +zetaDelta only))

theorem Blk.startFill_only {m₀ : List Part} {b₀ : Blk} (b : Blk) (h : Head) (li : Nat) (kind : ReqKind) (parts : List Nat) (hm₀ : within [.free, .out, .od, .hA, .hB, .can, .path, .lines, .media, .velvet, .twill, .damask, .linen, .tweed, .modes, .safety] m₀) (h₀ : Only m₀ b₀ b) : Only m₀ b₀ (Blk.startFill b h li kind parts) := by
  refine only_step (l := [.free, .out, .od, .hA, .hB, .can, .path, .lines, .media, .velvet, .twill, .damask, .linen, .tweed, .modes, .safety]) ?_ hm₀ h₀
  unfold Blk.startFill
  repeat (first | assumption | with_reducible apply only_refl | (with_reducible apply Blk.onPath_only <;> [decide; skip]) | (with_reducible apply Blk.startRead_only <;> [decide; skip]) | extract_lets | (dsimp +zetaDelta only))

theorem Blk.startDeep_only {m₀ : List Part} {b₀ : Blk} (b : Blk) (rid : Nat) (tagBad : Bool) (hm₀ : within [.od, .path, .tweed] m₀) (h₀ : Only m₀ b₀ b) : Only m₀ b₀ (Blk.startDeep b rid tagBad) := by
  refine only_step (l := [.od, .path, .tweed]) ?_ hm₀ h₀
  unfold Blk.startDeep
  repeat (first | assumption | with_reducible apply only_refl | (with_reducible apply Blk.onPath_only <;> [decide; skip]) | (with_reducible apply Blk.bump_only <;> [decide; skip]) | (with_reducible apply Blk.tw_only <;> [decide; skip]) | (with_reducible apply Blk.onAcc_only <;> [decide; skip]) | with_reducible apply only_ite | extract_lets | split | (dsimp +zetaDelta only))

theorem Blk.deepWritten_only {m₀ : List Part} {b₀ : Blk} (b : Blk) (li : Nat) (i : Bool) (hm₀ : within [.path] m₀) (h₀ : Only m₀ b₀ b) : Only m₀ b₀ (Blk.deepWritten b li i) := by
  refine only_step (l := [.path]) ?_ hm₀ h₀
  unfold Blk.deepWritten
  repeat (first | assumption | with_reducible apply only_refl | (with_reducible apply Blk.onPath_only <;> [decide; skip]) | with_reducible apply only_ite)

theorem Blk.dropDeep_only {m₀ : List Part} {b₀ : Blk} (b : Blk) (d : Deep) (hm₀ : within [.path] m₀) (h₀ : Only m₀ b₀ b) : Only m₀ b₀ (Blk.dropDeep b d) := by
  refine only_step (l := [.path]) ?_ hm₀ h₀
  unfold Blk.dropDeep
  repeat (first | assumption | with_reducible apply only_refl | (with_reducible apply Blk.onPath_only <;> [decide; skip]))

theorem Blk.poisonRest_only {m₀ : List Part} {b₀ : Blk} (b : Blk) (d : Deep) (hm₀ : within [.free, .out, .od, .hA, .hB, .can, .path, .poison, .media, .linen, .tweed, .modes] m₀) (h₀ : Only m₀ b₀ b) : Only m₀ b₀ (Blk.poisonRest b d) := by
  refine only_step (l := [.free, .out, .od, .hA, .hB, .can, .path, .poison, .media, .linen, .tweed, .modes]) ?_ hm₀ h₀
  unfold Blk.poisonRest
  repeat (first | assumption | with_reducible apply only_refl | (with_reducible apply Blk.listInternal_only <;> [decide; skip]) | with_reducible apply only_ite | extract_lets | (dsimp +zetaDelta only))

theorem Blk.answerDeep_only {m₀ : List Part} {b₀ : Blk} (b : Blk) (x : Acc) (hm₀ : within [.free, .out, .od, .hA, .hB, .can, .path, .linen, .tweed] m₀) (h₀ : Only m₀ b₀ b) : Only m₀ b₀ (Blk.answerDeep b x) := by
  refine only_step (l := [.free, .out, .od, .hA, .hB, .can, .path, .linen, .tweed]) ?_ hm₀ h₀
  unfold Blk.answerDeep
  repeat (first | assumption | with_reducible apply only_refl | (with_reducible apply Blk.finishRead_only <;> [decide; skip]) | with_reducible apply only_ite | split)

theorem Blk.countHolds_only {m₀ : List Part} {b₀ : Blk} (b : Blk) (h : Head) (new : Nat) (hm₀ : within [.od, .hA, .hB, .tweed] m₀) (h₀ : Only m₀ b₀ b) : Only m₀ b₀ (Blk.countHolds b h new) := by
  refine only_step (l := [.od, .hA, .hB, .tweed]) ?_ hm₀ h₀
  unfold Blk.countHolds
  repeat (first | assumption | with_reducible apply only_refl | (with_reducible apply Blk.onHead_only <;> [decide; skip]) | (with_reducible apply Blk.bump_only <;> [decide; skip]) | (with_reducible apply Blk.twHead_only <;> [decide; skip]) | with_reducible apply only_ite | extract_lets | (dsimp +zetaDelta only))

theorem Blk.noteHolds_only {m₀ : List Part} {b₀ : Blk} (b : Blk) (h : Head) (r : Req) (hm₀ : within [.od, .hA, .hB, .tweed] m₀) (h₀ : Only m₀ b₀ b) : Only m₀ b₀ (Blk.noteHolds b h r) := by
  refine only_step (l := [.od, .hA, .hB, .tweed]) ?_ hm₀ h₀
  unfold Blk.noteHolds
  repeat (first | assumption | with_reducible apply only_refl | (with_reducible apply Blk.onHead_only <;> [decide; skip]) | (with_reducible apply Blk.countHolds_only <;> [decide; skip]) | with_reducible apply only_ite | extract_lets | (dsimp +zetaDelta only))

theorem Blk.loseHalf_only {m₀ : List Part} {b₀ : Blk} (b : Blk) (k : Nat) (v : VWay) (i : Bool) (code : BitVec 16) (tx : MediaTx) (addr : Bool) (hm₀ : within [.free, .out, .od, .hA, .hB, .can, .path, .poison, .media, .velvet, .linen, .tweed, .modes] m₀) (h₀ : Only m₀ b₀ b) : Only m₀ b₀ (Blk.loseHalf b k v i code tx addr) := by
  refine only_step (l := [.free, .out, .od, .hA, .hB, .can, .path, .poison, .media, .velvet, .linen, .tweed, .modes]) ?_ hm₀ h₀
  unfold Blk.loseHalf
  repeat (first | assumption | with_reducible apply only_refl | (with_reducible apply Blk.onVelvet_only <;> [decide; skip]) | (with_reducible apply Blk.listInternal_only <;> [decide; skip]) | extract_lets | (dsimp +zetaDelta only))

theorem Blk.velvetCheck_only {m₀ : List Part} {b₀ : Blk} (b : Blk) (li : Nat) (e : DpErr) (hm₀ : within [.free, .out, .od, .hA, .hB, .can, .path, .poison, .media, .velvet, .linen, .tweed, .modes, .safety] m₀) (h₀ : Only m₀ b₀ b) : Only m₀ b₀ (Blk.velvetCheck b li e) := by
  refine only_step (l := [.free, .out, .od, .hA, .hB, .can, .path, .poison, .media, .velvet, .linen, .tweed, .modes, .safety]) ?_ hm₀ h₀
  unfold Blk.velvetCheck
  repeat (first | assumption | with_reducible apply only_refl | (with_reducible apply Blk.dpCount_only <;> [decide; skip]) | (with_reducible apply Blk.dropWay_only <;> [decide; skip]) | (with_reducible apply Blk.loseHalf_only <;> [decide; skip]) | with_reducible apply only_ite | extract_lets | split | (dsimp +zetaDelta only))

theorem Blk.egress_only {m₀ : List Part} {b₀ : Blk} (b : Blk) (li : Nat) (data : Line) (e : EgressErr) (hm₀ : within [.free, .out, .od, .hA, .hB, .can, .path, .poison, .media, .linen, .tweed, .modes, .safety] m₀) (h₀ : Only m₀ b₀ b) : Only m₀ b₀ (Blk.egress b li data e).1 := by
  refine only_step (l := [.free, .out, .od, .hA, .hB, .can, .path, .poison, .media, .linen, .tweed, .modes, .safety]) ?_ hm₀ h₀
  unfold Blk.egress
  repeat (first | assumption | with_reducible apply only_refl | (with_reducible apply Blk.listInternal_only <;> [decide; skip]) | (with_reducible apply Blk.dpCount_only <;> [decide; skip]) | with_reducible apply only_ite | extract_lets | with_reducible apply only_ite_fst | dsimp only | (dsimp +zetaDelta only))

theorem Blk.acceptRead_only {m₀ : List Part} {b₀ : Blk} (b0 : Blk) (x : Acc) (e : DpErr) (hm₀ : within [.free, .out, .od, .hA, .hB, .can, .path, .lines, .poison, .media, .velvet, .twill, .damask, .linen, .tweed, .modes, .safety] m₀) (h₀ : Only m₀ b₀ b0) : Only m₀ b₀ (Blk.acceptRead b0 x e) := by
  refine only_step (l := [.free, .out, .od, .hA, .hB, .can, .path, .lines, .poison, .media, .velvet, .twill, .damask, .linen, .tweed, .modes, .safety]) ?_ hm₀ h₀
  unfold Blk.acceptRead
  repeat (first | assumption | with_reducible apply only_refl | (with_reducible apply Blk.bump_only <;> [decide; skip]) | (with_reducible apply Blk.report_only <;> [decide; skip]) | (with_reducible apply Blk.twHead_only <;> [decide; skip]) | (with_reducible apply Blk.twHost_only <;> [decide; skip]) | (with_reducible apply Blk.onAcc_only <;> [decide; skip]) | (with_reducible apply Blk.finishRead_only <;> [decide; skip]) | (with_reducible apply Blk.finishReadDp_only <;> [decide; skip]) | (with_reducible apply Blk.putWay_only <;> [decide; skip]) | (with_reducible apply Blk.touchWay_only <;> [decide; skip]) | (with_reducible refine Blk.allocate_only _ _ _ _ (by assumption) (by decide) ?_) | (with_reducible apply Blk.startRead_only <;> [decide; skip]) | (with_reducible apply Blk.startDeep_only <;> [decide; skip]) | (with_reducible apply Blk.velvetCheck_only <;> [decide; skip]) | with_reducible apply only_ite | extract_lets | split | (dsimp +zetaDelta only))

theorem Blk.writePoison_only {m₀ : List Part} {b₀ : Blk} (b : Blk) (x : Acc) (hm₀ : within [.free, .out, .od, .hA, .hB, .can, .path, .poison, .media, .linen, .tweed, .modes] m₀) (h₀ : Only m₀ b₀ b) : Only m₀ b₀ (Blk.writePoison b x) := by
  refine only_step (l := [.free, .out, .od, .hA, .hB, .can, .path, .poison, .media, .linen, .tweed, .modes]) ?_ hm₀ h₀
  unfold Blk.writePoison
  repeat (first | assumption | with_reducible apply only_refl | (with_reducible apply Blk.listHalf_only <;> [decide; skip]) | (with_reducible apply Blk.unlistHalf_only <;> [decide; skip]) | with_reducible apply only_ite | extract_lets | (dsimp +zetaDelta only))

theorem Blk.mergeWrite_only {m₀ : List Part} {b₀ : Blk} (b : Blk) (x : Acc) (mark : Bool) (hm₀ : within [.free, .out, .od, .hA, .hB, .can, .path, .lines, .media, .velvet, .twill, .damask, .linen, .tweed, .modes, .safety] m₀) (h₀ : Only m₀ b₀ b) : Only m₀ b₀ (Blk.mergeWrite b x mark) := by
  refine only_step (l := [.free, .out, .od, .hA, .hB, .can, .path, .lines, .media, .velvet, .twill, .damask, .linen, .tweed, .modes, .safety]) ?_ hm₀ h₀
  unfold Blk.mergeWrite
  repeat (first | assumption | with_reducible apply only_refl | (with_reducible apply Blk.twHead_only <;> [decide; skip]) | (with_reducible apply Blk.onAcc_only <;> [decide; skip]) | (with_reducible apply Blk.putWay_only <;> [decide; skip]) | (with_reducible apply Blk.touchWay_only <;> [decide; skip]) | (with_reducible apply Blk.putBuf_only <;> [decide; skip]) | (with_reducible refine Blk.allocate_only _ _ _ _ (by assumption) (by decide) ?_) | (with_reducible apply Blk.cancelFill_only <;> [decide; skip]) | (with_reducible apply Blk.startFill_only <;> [decide; skip]) | with_reducible apply only_ite | extract_lets | split | (dsimp +zetaDelta only))

theorem Blk.acceptWrite_only {m₀ : List Part} {b₀ : Blk} (b : Blk) (x : Acc) (e : DpErr) (hm₀ : within [.free, .out, .od, .hA, .hB, .can, .path, .lines, .poison, .media, .velvet, .twill, .damask, .linen, .tweed, .modes, .safety] m₀) (h₀ : Only m₀ b₀ b) : Only m₀ b₀ (Blk.acceptWrite b x e) := by
  refine only_step (l := [.free, .out, .od, .hA, .hB, .can, .path, .lines, .poison, .media, .velvet, .twill, .damask, .linen, .tweed, .modes, .safety]) ?_ hm₀ h₀
  unfold Blk.acceptWrite
  repeat (first | assumption | with_reducible apply only_refl | (with_reducible apply Blk.report_only <;> [decide; skip]) | (with_reducible apply Blk.twHead_only <;> [decide; skip]) | (with_reducible apply Blk.onAcc_only <;> [decide; skip]) | (with_reducible apply Blk.finishWrite_only <;> [decide; skip]) | (with_reducible apply Blk.listInternal_only <;> [decide; skip]) | (with_reducible apply Blk.dpCount_only <;> [decide; skip]) | (with_reducible apply Blk.promoteWay_only <;> [decide; skip]) | (with_reducible apply Blk.noteWrite_only <;> [decide; skip]) | (with_reducible apply Blk.countCandidate_only <;> [decide; skip]) | (with_reducible apply Blk.program_only <;> [decide; skip]) | (with_reducible apply Blk.issueRecords_only <;> [decide; skip]) | (with_reducible apply Blk.endWrite_only <;> [decide; skip]) | (with_reducible apply Blk.deepWritten_only <;> [decide; skip]) | (with_reducible apply Blk.writePoison_only <;> [decide; skip]) | (with_reducible apply Blk.mergeWrite_only <;> [decide; skip]) | with_reducible apply only_ite | extract_lets | (dsimp +zetaDelta only))

theorem Blk.countAccepted_only {m₀ : List Part} {b₀ : Blk} (b : Blk) (h : Head) (r : Req) (hm₀ : within [.out, .od, .hA, .hB, .can, .path, .linen, .tweed] m₀) (h₀ : Only m₀ b₀ b) : Only m₀ b₀ (Blk.countAccepted b h r) := by
  refine only_step (l := [.out, .od, .hA, .hB, .can, .path, .linen, .tweed]) ?_ hm₀ h₀
  unfold Blk.countAccepted
  repeat (first | assumption | with_reducible apply only_refl | (with_reducible apply Blk.onHead_only <;> [decide; skip]) | (with_reducible apply Blk.tw_only <;> [decide; skip]) | (with_reducible apply Blk.twHead_only <;> [decide; skip]) | (with_reducible apply Blk.twHost_only <;> [decide; skip]) | with_reducible apply only_ite | extract_lets | split | (dsimp +zetaDelta only))

theorem Blk.acceptNow_only {m₀ : List Part} {b₀ : Blk} (b : Blk) (h : Head) (r : Req) (d : DpErr) (hm₀ : within [.free, .out, .od, .hA, .hB, .can, .path, .lines, .poison, .media, .velvet, .twill, .damask, .linen, .tweed, .modes, .safety] m₀) (h₀ : Only m₀ b₀ b) : Only m₀ b₀ (Blk.acceptNow b h r d) := by
  refine only_step (l := [.free, .out, .od, .hA, .hB, .can, .path, .lines, .poison, .media, .velvet, .twill, .damask, .linen, .tweed, .modes, .safety]) ?_ hm₀ h₀
  unfold Blk.acceptNow
  repeat (first | assumption | with_reducible apply only_refl | (with_reducible apply Blk.onPath_only <;> [decide; skip]) | (with_reducible apply Blk.onHead_only <;> [decide; skip]) | (with_reducible apply Blk.acceptRead_only <;> [decide; skip]) | (with_reducible apply Blk.acceptWrite_only <;> [decide; skip]) | (with_reducible apply Blk.countAccepted_only <;> [decide; skip]) | with_reducible apply only_ite | extract_lets | split | (dsimp +zetaDelta only))

theorem Blk.probeWay_only {m₀ : List Part} {b₀ : Blk} (b : Blk) (li : Nat) (hm₀ : within [.twill] m₀) (h₀ : Only m₀ b₀ b) : Only m₀ b₀ (Blk.probeWay b li) := by
  refine only_step (l := [.twill]) ?_ hm₀ h₀
  unfold Blk.probeWay
  repeat (first | assumption | with_reducible apply only_refl | (with_reducible apply Blk.demoteFor_only <;> [decide; skip]) | with_reducible apply only_ite)

theorem Blk.probeFill_only {m₀ : List Part} {b₀ : Blk} (b : Blk) (h : Head) (li : Nat) (hm₀ : within [.free, .out, .od, .hA, .hB, .can, .path, .lines, .media, .velvet, .twill, .damask, .linen, .tweed, .modes, .safety] m₀) (h₀ : Only m₀ b₀ b) : Only m₀ b₀ (Blk.probeFill b h li) := by
  refine only_step (l := [.free, .out, .od, .hA, .hB, .can, .path, .lines, .media, .velvet, .twill, .damask, .linen, .tweed, .modes, .safety]) ?_ hm₀ h₀
  unfold Blk.probeFill
  repeat (first | assumption | with_reducible apply only_refl | (with_reducible refine Blk.allocate_only _ _ _ _ (by assumption) (by decide) ?_) | (with_reducible apply Blk.startFill_only <;> [decide; skip]) | with_reducible apply only_ite | split)

theorem Blk.consumeTo_only {m₀ : List Part} {b₀ : Blk} (b : Blk) (h : Head) (v : Nat) (hm₀ : within [.hA, .hB] m₀) (h₀ : Only m₀ b₀ b) : Only m₀ b₀ (Blk.consumeTo b h v) := by
  refine only_step (l := [.hA, .hB]) ?_ hm₀ h₀
  unfold Blk.consumeTo
  repeat (first | assumption | with_reducible apply only_refl | (with_reducible apply Blk.onHead_only <;> [decide; skip]) | with_reducible apply only_ite)

theorem Blk.dropToHeader_only {m₀ : List Part} {b₀ : Blk} (b : Blk) (h : Head) (hm₀ : within [.hA, .hB] m₀) (h₀ : Only m₀ b₀ b) : Only m₀ b₀ (Blk.dropToHeader b h) := by
  refine only_step (l := [.hA, .hB]) ?_ hm₀ h₀
  unfold Blk.dropToHeader
  repeat (first | assumption | with_reducible apply only_refl | (with_reducible apply Blk.onHead_only <;> [decide; skip]) | (with_reducible refine only_foldl (fun c x hc => ?_) _ _ ?_) | split)

theorem Blk.windowAccess_only {m₀ : List Part} {b₀ : Blk} (b : Blk) (h : Head) (tag off : Nat) (write : Option (HalfMask × Half)) (e : DpErr) (hm₀ : within [.free, .out, .od, .hA, .hB, .can, .path, .linen, .tweed, .modes, .safety] m₀) (h₀ : Only m₀ b₀ b) : Only m₀ b₀ (Blk.windowAccess b h tag off write e) := by
  refine only_step (l := [.free, .out, .od, .hA, .hB, .can, .path, .linen, .tweed, .modes, .safety]) ?_ hm₀ h₀
  unfold Blk.windowAccess
  repeat (first | assumption | with_reducible apply only_refl | (with_reducible apply Blk.emit_only <;> [decide; skip]) | (with_reducible apply Blk.dpCount_only <;> [decide; skip]) | (with_reducible apply Blk.consumeTo_only <;> [decide; skip]) | (with_reducible apply Blk.dropToHeader_only <;> [decide; skip]) | with_reducible apply only_ite | extract_lets | split | (dsimp +zetaDelta only))

theorem Blk.failCheck_only {m₀ : List Part} {b₀ : Blk} (b : Blk) (h : Head) (code : BitVec 16) (sub : Nat) (hpa : Nat) (dpa : Option Nat) (hm₀ : within [.out, .od, .hA, .hB, .can, .linen] m₀) (h₀ : Only m₀ b₀ b) : Only m₀ b₀ (Blk.failCheck b h code sub hpa dpa) := by
  refine only_step (l := [.out, .od, .hA, .hB, .can, .linen]) ?_ hm₀ h₀
  unfold Blk.failCheck
  repeat (first | assumption | with_reducible apply only_refl | (with_reducible apply Blk.onLinen_only <;> [decide; skip]) | (with_reducible apply Blk.onHead_only <;> [decide; skip]) | (with_reducible apply Blk.bump_only <;> [decide; skip]) | (with_reducible apply Blk.report_only <;> [decide; skip]) | with_reducible apply only_ite | extract_lets | split | (dsimp +zetaDelta only))

theorem Blk.failEarly_only {m₀ : List Part} {b₀ : Blk} (b : Blk) (h : Head) (hpa : Nat) (hm₀ : within [.out, .od, .hA, .hB, .can, .linen] m₀) (h₀ : Only m₀ b₀ b) : Only m₀ b₀ (Blk.failEarly b h hpa) := by
  refine only_step (l := [.out, .od, .hA, .hB, .can, .linen]) ?_ hm₀ h₀
  unfold Blk.failEarly
  repeat (first | assumption | with_reducible apply only_refl | (with_reducible apply Blk.onHead_only <;> [decide; skip]) | (with_reducible apply Blk.bump_only <;> [decide; skip]) | (with_reducible apply Blk.report_only <;> [decide; skip]) | with_reducible apply only_ite | extract_lets | (dsimp +zetaDelta only))

theorem Blk.place_only {m₀ : List Part} {b₀ : Blk} (b : Blk) (h : Head) (k : ReqKind) (hpa tag dpa : Nat) (data : Half) (mask : HalfMask) (poison : Bool) (hm₀ : within [.od, .hA, .hB, .path, .tweed] m₀) (h₀ : Only m₀ b₀ b) : Only m₀ b₀ (Blk.place b h k hpa tag dpa data mask poison) := by
  refine only_step (l := [.od, .hA, .hB, .path, .tweed]) ?_ hm₀ h₀
  unfold Blk.place
  repeat (first | assumption | with_reducible apply only_refl | (with_reducible apply Blk.onHB_only <;> [decide; skip]) | (with_reducible apply Blk.onPath_only <;> [decide; skip]) | (with_reducible apply Blk.onHead_only <;> [decide; skip]) | (with_reducible apply Blk.noteHolds_only <;> [decide; skip]) | with_reducible apply only_ite | extract_lets | split | (dsimp +zetaDelta only))

theorem Blk.arrive_only {m₀ : List Part} {b₀ : Blk} (b : Blk) (h : Head) (k : ReqKind) (hpa tag : Nat) (data : Half) (mask : HalfMask) (poison : Bool) (hm₀ : within [.out, .od, .hA, .hB, .can, .path, .linen, .tweed] m₀) (h₀ : Only m₀ b₀ b) : Only m₀ b₀ (Blk.arrive b h k hpa tag data mask poison) := by
  refine only_step (l := [.out, .od, .hA, .hB, .can, .path, .linen, .tweed]) ?_ hm₀ h₀
  unfold Blk.arrive
  repeat (first | assumption | with_reducible apply only_refl | (with_reducible apply Blk.refuse_only <;> [decide; skip]) | (with_reducible apply Blk.failCheck_only <;> [decide; skip]) | (with_reducible apply Blk.failEarly_only <;> [decide; skip]) | (with_reducible apply Blk.place_only <;> [decide; skip]) | with_reducible apply only_ite | split)

theorem Blk.acceptWindow_only {m₀ : List Part} {b₀ : Blk} (b : Blk) (h : Head) (r : Req) (d : DpErr) (hm₀ : within [.free, .out, .od, .hA, .hB, .can, .path, .linen, .tweed, .modes, .safety] m₀) (h₀ : Only m₀ b₀ b) : Only m₀ b₀ (Blk.acceptWindow b h r d) := by
  refine only_step (l := [.free, .out, .od, .hA, .hB, .can, .path, .linen, .tweed, .modes, .safety]) ?_ hm₀ h₀
  unfold Blk.acceptWindow
  repeat (first | assumption | with_reducible apply only_refl | (with_reducible apply Blk.onHead_only <;> [decide; skip]) | (with_reducible apply Blk.windowAccess_only <;> [decide; skip]) | with_reducible apply only_ite)

theorem Blk.tryAccept_only {m₀ : List Part} {b₀ : Blk} (b : Blk) (h : Head) (r : Req) (d : DpErr) (hm₀ : within [.free, .out, .od, .hA, .hB, .can, .path, .lines, .poison, .media, .velvet, .twill, .damask, .linen, .tweed, .modes, .safety] m₀) (h₀ : Only m₀ b₀ b) : Only m₀ b₀ (Blk.tryAccept b h r d) := by
  refine only_step (l := [.free, .out, .od, .hA, .hB, .can, .path, .lines, .poison, .media, .velvet, .twill, .damask, .linen, .tweed, .modes, .safety]) ?_ hm₀ h₀
  unfold Blk.tryAccept
  repeat (first | assumption | with_reducible apply only_refl | (with_reducible apply Blk.noteHolds_only <;> [decide; skip]) | (with_reducible apply Blk.acceptNow_only <;> [decide; skip]) | (with_reducible apply Blk.probeWay_only <;> [decide; skip]) | (with_reducible apply Blk.probeFill_only <;> [decide; skip]) | (with_reducible apply Blk.acceptWindow_only <;> [decide; skip]) | with_reducible apply only_ite | extract_lets | (dsimp +zetaDelta only))

theorem Blk.queueReset_only {m₀ : List Part} {b₀ : Blk} (b : Blk) (key : Nat) (x : Nat × Nat) (hm₀ : within [.media] m₀) (h₀ : Only m₀ b₀ b) : Only m₀ b₀ (Blk.queueReset b key x) := by
  refine only_step (l := [.media]) ?_ hm₀ h₀
  unfold Blk.queueReset
  repeat (first | assumption | with_reducible apply only_refl | (with_reducible apply Blk.onPart_only <;> [decide; skip]))

theorem Blk.slotFreed_only {m₀ : List Part} {b₀ : Blk} (b : Blk) (slot : Nat) (hm₀ : within [.out, .od, .hA, .hB, .muslin, .can, .dev, .lines, .twill, .linen, .tweed, .modes] m₀) (h₀ : Only m₀ b₀ b) : Only m₀ b₀ (Blk.slotFreed b slot) := by
  refine only_step (l := [.out, .od, .hA, .hB, .muslin, .can, .dev, .lines, .twill, .linen, .tweed, .modes]) ?_ hm₀ h₀
  unfold Blk.slotFreed
  repeat (first | assumption | with_reducible apply only_refl | (with_reducible apply Blk.setSlot_only <;> [decide; skip]) | (with_reducible apply Blk.lifeCheck_only <;> [decide; skip]) | (with_reducible apply Blk.retireSlot_only <;> [decide; skip]) | (with_reducible apply Blk.gatherFreed_only <;> [decide; skip]) | with_reducible apply only_ite | extract_lets | (dsimp +zetaDelta only))

theorem Blk.resetSlot_only {m₀ : List Part} {b₀ : Blk} (b : Blk) (slot : Nat) (hm₀ : within [.media, .twill] m₀) (h₀ : Only m₀ b₀ b) : Only m₀ b₀ (Blk.resetSlot b slot) := by
  refine only_step (l := [.media, .twill]) ?_ hm₀ h₀
  unfold Blk.resetSlot
  repeat (first | assumption | with_reducible apply only_refl | (with_reducible apply Blk.setSlot_only <;> [decide; skip]) | (with_reducible apply Blk.queueReset_only <;> [decide; skip]) | (with_reducible refine only_foldl (fun c x hc => ?_) _ _ ?_) | extract_lets | (dsimp +zetaDelta only))

theorem Blk.freeSlot_only {m₀ : List Part} {b₀ : Blk} (b : Blk) (slot wear : Nat) (hm₀ : within [.out, .od, .hA, .hB, .muslin, .can, .dev, .lines, .media, .twill, .linen, .tweed, .modes] m₀) (h₀ : Only m₀ b₀ b) : Only m₀ b₀ (Blk.freeSlot b slot wear) := by
  refine only_step (l := [.out, .od, .hA, .hB, .muslin, .can, .dev, .lines, .media, .twill, .linen, .tweed, .modes]) ?_ hm₀ h₀
  unfold Blk.freeSlot
  repeat (first | assumption | with_reducible apply only_refl | (with_reducible apply Blk.setSlot_only <;> [decide; skip]) | (with_reducible apply Blk.slotFreed_only <;> [decide; skip]) | (with_reducible apply Blk.resetSlot_only <;> [decide; skip]))

theorem Blk.giveUp_only {m₀ : List Part} {b₀ : Blk} (b : Blk) (slot wear : Nat) (hm₀ : within [.out, .od, .hA, .hB, .muslin, .can, .dev, .lines, .media, .twill, .linen, .tweed, .modes] m₀) (h₀ : Only m₀ b₀ b) : Only m₀ b₀ (Blk.giveUp b slot wear) := by
  refine only_step (l := [.out, .od, .hA, .hB, .muslin, .can, .dev, .lines, .media, .twill, .linen, .tweed, .modes]) ?_ hm₀ h₀
  unfold Blk.giveUp
  repeat (first | assumption | with_reducible apply only_refl | (with_reducible apply Blk.retireSlot_only <;> [decide; skip]) | (with_reducible apply Blk.freeSlot_only <;> [decide; skip]) | with_reducible apply only_ite | extract_lets | (dsimp +zetaDelta only))

theorem Blk.swapHot_only {m₀ : List Part} {b₀ : Blk} (b : Blk) (old new : Nat) (hm₀ : within [.out, .od, .hA, .hB, .can, .lines, .media, .twill, .linen] m₀) (h₀ : Only m₀ b₀ b) : Only m₀ b₀ (Blk.swapHot b old new) := by
  refine only_step (l := [.out, .od, .hA, .hB, .can, .lines, .media, .twill, .linen]) ?_ hm₀ h₀
  unfold Blk.swapHot
  repeat (first | assumption | with_reducible apply only_refl | (with_reducible apply Blk.onTwill_only <;> [decide; skip]) | (with_reducible apply Blk.setSlot_only <;> [decide; skip]) | (with_reducible apply Blk.journalRec_only <;> [decide; skip]) | (with_reducible apply Blk.resetSlot_only <;> [decide; skip]) | extract_lets | (dsimp +zetaDelta only))

theorem Blk.exchangeSlot_only {m₀ : List Part} {b₀ : Blk} (b : Blk) (slot reason : Nat) (hm₀ : within [.free, .out, .od, .hA, .hB, .muslin, .can, .dev, .lines, .media, .twill, .linen, .tweed, .modes] m₀) (h₀ : Only m₀ b₀ b) : Only m₀ b₀ (Blk.exchangeSlot b slot reason) := by
  refine only_step (l := [.free, .out, .od, .hA, .hB, .muslin, .can, .dev, .lines, .media, .twill, .linen, .tweed, .modes]) ?_ hm₀ h₀
  unfold Blk.exchangeSlot
  repeat (first | assumption | with_reducible apply only_refl | (with_reducible apply Blk.useFree_only <;> [decide; skip]) | (with_reducible apply Blk.widen_only <;> [decide; skip]) | (with_reducible apply Blk.retireSlot_only <;> [decide; skip]) | (with_reducible apply Blk.swapHot_only <;> [decide; skip]) | with_reducible apply only_ite | extract_lets | split | (dsimp +zetaDelta only))

theorem Blk.resetOver_only {m₀ : List Part} {b₀ : Blk} (b : Blk) (key : Nat) (hm₀ : within [.free, .out, .od, .hA, .hB, .muslin, .can, .dev, .lines, .media, .twill, .linen, .tweed, .modes] m₀) (h₀ : Only m₀ b₀ b) : Only m₀ b₀ (Blk.resetOver b key) := by
  refine only_step (l := [.free, .out, .od, .hA, .hB, .muslin, .can, .dev, .lines, .media, .twill, .linen, .tweed, .modes]) ?_ hm₀ h₀
  unfold Blk.resetOver
  repeat (first | assumption | with_reducible apply only_refl | (with_reducible apply Blk.onTwill_only <;> [decide; skip]) | (with_reducible apply Blk.setSlot_only <;> [decide; skip]) | (with_reducible apply Blk.slotFreed_only <;> [decide; skip]) | (with_reducible apply Blk.exchangeSlot_only <;> [decide; skip]) | with_reducible apply only_ite | extract_lets | (dsimp +zetaDelta only))

theorem Blk.resetRow_only {m₀ : List Part} {b₀ : Blk} (b : Blk) (key : Nat) (x : TileRow) (hm₀ : within [.free, .out, .od, .hA, .hB, .muslin, .can, .dev, .lines, .media, .twill, .linen, .tweed, .modes] m₀) (h₀ : Only m₀ b₀ b) : Only m₀ b₀ (Blk.resetRow b key x) := by
  refine only_step (l := [.free, .out, .od, .hA, .hB, .muslin, .can, .dev, .lines, .media, .twill, .linen, .tweed, .modes]) ?_ hm₀ h₀
  unfold Blk.resetRow
  repeat (first | assumption | with_reducible apply only_refl | (with_reducible apply Blk.onTwill_only <;> [decide; skip]) | (with_reducible apply Blk.queueReset_only <;> [decide; skip]) | (with_reducible apply Blk.resetOver_only <;> [decide; skip]) | (with_reducible refine only_foldl (fun c x hc => ?_) _ _ ?_) | with_reducible apply only_ite | extract_lets | (dsimp +zetaDelta only))

theorem Blk.dropResets_only {m₀ : List Part} {b₀ : Blk} (b : Blk) (pid : Nat) (hm₀ : within [.free, .out, .od, .hA, .hB, .muslin, .can, .dev, .lines, .media, .twill, .linen, .tweed, .modes] m₀) (h₀ : Only m₀ b₀ b) : Only m₀ b₀ (Blk.dropResets b pid) := by
  refine only_step (l := [.free, .out, .od, .hA, .hB, .muslin, .can, .dev, .lines, .media, .twill, .linen, .tweed, .modes]) ?_ hm₀ h₀
  unfold Blk.dropResets
  repeat (first | assumption | with_reducible apply only_refl | (with_reducible apply Blk.onPart_only <;> [decide; skip]) | (with_reducible apply Blk.resetOver_only <;> [decide; skip]) | (with_reducible refine only_foldl (fun c x hc => ?_) _ _ ?_) | with_reducible apply only_ite | extract_lets | split | (dsimp +zetaDelta only))

theorem Blk.erase_only {m₀ : List Part} {b₀ : Blk} (b : Blk) (rid m : Nat) (hm₀ : within [.path] m₀) (h₀ : Only m₀ b₀ b) : Only m₀ b₀ (Blk.erase b rid m) := by
  refine only_step (l := [.path]) ?_ hm₀ h₀
  unfold Blk.erase
  repeat (first | assumption | with_reducible apply only_refl | (with_reducible apply Blk.onAcc_only <;> [decide; skip]))

theorem Blk.reconOnce_only {m₀ : List Part} {b₀ : Blk} (b : Blk) (rid : Nat) (hm₀ : within [.free, .od, .path, .media, .tweed] m₀) (h₀ : Only m₀ b₀ b) : Only m₀ b₀ (Blk.reconOnce b rid) := by
  refine only_step (l := [.free, .od, .path, .media, .tweed]) ?_ hm₀ h₀
  unfold Blk.reconOnce
  repeat (first | assumption | with_reducible apply only_refl | (with_reducible apply Blk.startRecon_only <;> [decide; skip]) | with_reducible apply only_ite | split)

theorem Blk.onJob_only {m₀ : List Part} {b₀ : Blk} (b : Blk) (n : Nat) (f : Job → Job) (hm₀ : within [.twill] m₀) (h₀ : Only m₀ b₀ b) : Only m₀ b₀ (Blk.onJob b n f) := by
  refine only_step (l := [.twill]) ?_ hm₀ h₀
  unfold Blk.onJob
  repeat (first | assumption | with_reducible apply only_refl | (with_reducible apply Blk.onTwill_only <;> [decide; skip]) | split)

theorem Blk.jobRead_only {m₀ : List Part} {b₀ : Blk} (b : Blk) (n : Nat) (x : Mem) (ok : Bool) (hm₀ : within [.twill] m₀) (h₀ : Only m₀ b₀ b) : Only m₀ b₀ (Blk.jobRead b n x ok) := by
  refine only_step (l := [.twill]) ?_ hm₀ h₀
  unfold Blk.jobRead
  repeat (first | assumption | with_reducible apply only_refl | (with_reducible apply Blk.onJob_only <;> [decide; skip]) | with_reducible apply only_ite)

theorem Blk.standIn_only {m₀ : List Part} {b₀ : Blk} (b : Blk) (t : ReadTask) (hm₀ : within [.free, .out, .od, .hA, .hB, .can, .path, .lines, .media, .twill, .damask, .linen, .tweed] m₀) (h₀ : Only m₀ b₀ b) : Only m₀ b₀ (Blk.standIn b t) := by
  refine only_step (l := [.free, .out, .od, .hA, .hB, .can, .path, .lines, .media, .twill, .damask, .linen, .tweed]) ?_ hm₀ h₀
  unfold Blk.standIn
  repeat (first | assumption | with_reducible apply only_refl | (with_reducible apply Blk.onPart_only <;> [decide; skip]) | (with_reducible apply Blk.onAcc_only <;> [decide; skip]) | (with_reducible apply Blk.readTag_only <;> [decide; skip]) | (with_reducible apply Blk.erase_only <;> [decide; skip]) | (with_reducible apply Blk.reconOnce_only <;> [decide; skip]) | (with_reducible apply Blk.jobRead_only <;> [decide; skip]) | split)

theorem Blk.reroute_only {m₀ : List Part} {b₀ : Blk} (b : Blk) (pid : Nat) (hm₀ : within [.free, .out, .od, .hA, .hB, .can, .path, .lines, .media, .twill, .damask, .linen, .tweed] m₀) (h₀ : Only m₀ b₀ b) : Only m₀ b₀ (Blk.reroute b pid) := by
  refine only_step (l := [.free, .out, .od, .hA, .hB, .can, .path, .lines, .media, .twill, .damask, .linen, .tweed]) ?_ hm₀ h₀
  unfold Blk.reroute
  repeat (first | assumption | with_reducible apply only_refl | (with_reducible apply Blk.onPart_only <;> [decide; skip]) | (with_reducible apply Blk.standIn_only <;> [decide; skip]) | (with_reducible refine only_foldl (fun c x hc => ?_) _ _ ?_) | extract_lets | (dsimp +zetaDelta only))

theorem Blk.rerouteDie_only {m₀ : List Part} {b₀ : Blk} (b : Blk) (d : Nat) (hm₀ : within [.free, .out, .od, .hA, .hB, .can, .path, .lines, .media, .twill, .damask, .linen, .tweed] m₀) (h₀ : Only m₀ b₀ b) : Only m₀ b₀ (Blk.rerouteDie b d) := by
  refine only_step (l := [.free, .out, .od, .hA, .hB, .can, .path, .lines, .media, .twill, .damask, .linen, .tweed]) ?_ hm₀ h₀
  unfold Blk.rerouteDie
  repeat (first | assumption | with_reducible apply only_refl | (with_reducible apply Blk.reroute_only <;> [decide; skip]) | (with_reducible refine only_foldl (fun c x hc => ?_) _ _ ?_))

theorem Blk.dropDieResets_only {m₀ : List Part} {b₀ : Blk} (b : Blk) (d : Nat) (hm₀ : within [.free, .out, .od, .hA, .hB, .muslin, .can, .dev, .lines, .media, .twill, .linen, .tweed, .modes] m₀) (h₀ : Only m₀ b₀ b) : Only m₀ b₀ (Blk.dropDieResets b d) := by
  refine only_step (l := [.free, .out, .od, .hA, .hB, .muslin, .can, .dev, .lines, .media, .twill, .linen, .tweed, .modes]) ?_ hm₀ h₀
  unfold Blk.dropDieResets
  repeat (first | assumption | with_reducible apply only_refl | (with_reducible apply Blk.dropResets_only <;> [decide; skip]) | (with_reducible refine only_foldl (fun c x hc => ?_) _ _ ?_))

theorem Blk.loseLine_only {m₀ : List Part} {b₀ : Blk} (b : Blk) (li : Nat) (p : Place) (hm₀ : within [.free, .out, .od, .hA, .hB, .can, .path, .poison, .media, .linen, .tweed, .modes] m₀) (h₀ : Only m₀ b₀ b) : Only m₀ b₀ (Blk.loseLine b li p) := by
  refine only_step (l := [.free, .out, .od, .hA, .hB, .can, .path, .poison, .media, .linen, .tweed, .modes]) ?_ hm₀ h₀
  unfold Blk.loseLine
  repeat (first | assumption | with_reducible apply only_refl | (with_reducible apply Blk.bump_only <;> [decide; skip]) | (with_reducible apply Blk.poisonLine_only <;> [decide; skip]) | with_reducible apply only_ite)

theorem Blk.lossCheck_only {m₀ : List Part} {b₀ : Blk} (b : Blk) (hm₀ : within [.free, .out, .od, .hA, .hB, .can, .path, .poison, .media, .linen, .tweed, .modes] m₀) (h₀ : Only m₀ b₀ b) : Only m₀ b₀ (Blk.lossCheck b) := by
  refine only_step (l := [.free, .out, .od, .hA, .hB, .can, .path, .poison, .media, .linen, .tweed, .modes]) ?_ hm₀ h₀
  unfold Blk.lossCheck
  extract_lets home
  have h1 : Only [.free, .out, .od, .hA, .hB, .can, .path, .poison, .media, .linen, .tweed, .modes] b home := by
    refine only_foldl (fun c x hc => only_foldl (fun c y hc => ?_) _ _ hc) _ _ (only_refl _ _)
    repeat (first | assumption | with_reducible apply only_refl | (with_reducible apply Blk.loseLine_only <;> [decide; skip]) | with_reducible apply only_ite | extract_lets)
  refine only_foldl (fun c x hc => ?_) _ _ h1
  repeat (first | assumption | with_reducible apply only_refl | (with_reducible apply Blk.loseLine_only <;> [decide; skip]) | with_reducible apply only_ite | split)

theorem Blk.dieFail_only {m₀ : List Part} {b₀ : Blk} (b : Blk) (d : Nat) (hm₀ : within [.free, .out, .od, .hA, .hB, .muslin, .can, .dev, .path, .lines, .poison, .media, .twill, .damask, .linen, .tweed, .modes, .safety] m₀) (h₀ : Only m₀ b₀ b) : Only m₀ b₀ (Blk.dieFail b d) := by
  refine only_step (l := [.free, .out, .od, .hA, .hB, .muslin, .can, .dev, .path, .lines, .poison, .media, .twill, .damask, .linen, .tweed, .modes, .safety]) ?_ hm₀ h₀
  unfold Blk.dieFail
  repeat (first | assumption | with_reducible apply only_refl | (with_reducible apply Blk.onSafety_only <;> [decide; skip]) | (with_reducible apply Blk.onDie_only <;> [decide; skip]) | (with_reducible apply Blk.reportUnit_only <;> [decide; skip]) | (with_reducible apply Blk.degrade_only <;> [decide; skip]) | (with_reducible apply Blk.rerouteDie_only <;> [decide; skip]) | (with_reducible apply Blk.dropDieResets_only <;> [decide; skip]) | (with_reducible apply Blk.lossCheck_only <;> [decide; skip]) | with_reducible apply only_ite | extract_lets | (dsimp +zetaDelta only))

theorem Blk.channelFail_only {m₀ : List Part} {b₀ : Blk} (b : Blk) (c : Nat) (hm₀ : within [.free, .out, .od, .hA, .hB, .muslin, .can, .dev, .path, .lines, .poison, .media, .twill, .damask, .linen, .tweed, .modes, .safety] m₀) (h₀ : Only m₀ b₀ b) : Only m₀ b₀ (Blk.channelFail b c) := by
  refine only_step (l := [.free, .out, .od, .hA, .hB, .muslin, .can, .dev, .path, .lines, .poison, .media, .twill, .damask, .linen, .tweed, .modes, .safety]) ?_ hm₀ h₀
  unfold Blk.channelFail
  repeat (first | assumption | with_reducible apply only_refl | (with_reducible apply Blk.onChan_only <;> [decide; skip]) | (with_reducible apply Blk.reportUnit_only <;> [decide; skip]) | (with_reducible apply Blk.degrade_only <;> [decide; skip]) | (with_reducible apply Blk.dieFail_only <;> [decide; skip]) | (with_reducible refine only_foldl (fun c x hc => ?_) _ _ ?_) | with_reducible apply only_ite | extract_lets | (dsimp +zetaDelta only))

theorem Blk.tileFailure_only {m₀ : List Part} {b₀ : Blk} (b : Blk) (d tile : Nat) (hm₀ : within [.free, .out, .od, .hA, .hB, .muslin, .can, .dev, .path, .lines, .poison, .media, .twill, .damask, .linen, .tweed, .modes, .safety] m₀) (h₀ : Only m₀ b₀ b) : Only m₀ b₀ (Blk.tileFailure b d tile) := by
  refine only_step (l := [.free, .out, .od, .hA, .hB, .muslin, .can, .dev, .path, .lines, .poison, .media, .twill, .damask, .linen, .tweed, .modes, .safety]) ?_ hm₀ h₀
  unfold Blk.tileFailure
  repeat (first | assumption | with_reducible apply only_refl | (with_reducible apply Blk.onDie_only <;> [decide; skip]) | (with_reducible apply Blk.dieFail_only <;> [decide; skip]) | with_reducible apply only_ite | extract_lets | (dsimp +zetaDelta only))

theorem Blk.onEngine_only {m₀ : List Part} {b₀ : Blk} (b : Blk) (e : Nat) (f : EngineSt → EngineSt) (hm₀ : within [.safety] m₀) (h₀ : Only m₀ b₀ b) : Only m₀ b₀ (Blk.onEngine b e f) := by
  refine only_step (l := [.safety]) ?_ hm₀ h₀
  unfold Blk.onEngine
  repeat (first | assumption | with_reducible apply only_refl | (with_reducible apply Blk.onSafety_only <;> [decide; skip]))

theorem Blk.engineFail_only {m₀ : List Part} {b₀ : Blk} (b : Blk) (e : Nat) (hm₀ : within [.free, .out, .od, .hA, .hB, .muslin, .can, .dev, .path, .lines, .poison, .media, .twill, .damask, .linen, .tweed, .modes, .safety] m₀) (h₀ : Only m₀ b₀ b) : Only m₀ b₀ (Blk.engineFail b e) := by
  refine only_step (l := [.free, .out, .od, .hA, .hB, .muslin, .can, .dev, .path, .lines, .poison, .media, .twill, .damask, .linen, .tweed, .modes, .safety]) ?_ hm₀ h₀
  unfold Blk.engineFail
  dsimp only
  refine only_ite (only_refl _ _) ?_
  have h1 : Only [.free, .out, .od, .hA, .hB, .muslin, .can, .dev, .path, .lines, .poison, .media, .twill, .damask, .linen, .tweed, .modes, .safety] b ((b.onEngine e fun x => { x with state := 2 }).detect 5 false) := by
    repeat (first | assumption | with_reducible apply only_refl | (with_reducible apply Blk.onSafety_only <;> [decide; skip]) | (with_reducible apply Blk.report_only <;> [decide; skip]) | (with_reducible apply Blk.reportUnit_only <;> [decide; skip]) | (with_reducible apply Blk.degrade_only <;> [decide; skip]) | (with_reducible apply Blk.detect_only <;> [decide; skip]) | (with_reducible apply Blk.rerouteDie_only <;> [decide; skip]) | (with_reducible apply Blk.channelFail_only <;> [decide; skip]) | (with_reducible apply Blk.onEngine_only <;> [decide; skip]))
  generalize (b.onEngine e fun x => { x with state := 2 }).detect 5 false = b1 at h1 ⊢
  split
  · exact only_ite (only_foldl (fun c x hc => Blk.rerouteDie_only _ _ (by decide) hc) _ _ (Blk.onEngine_only _ _ _ (by decide) (Blk.onEngine_only _ _ _ (by decide) (Blk.report_only _ _ (by decide) h1))))
      (Blk.onEngine_only _ _ _ (by decide) (Blk.onEngine_only _ _ _ (by decide) (Blk.report_only _ _ (by decide) h1)))
  · repeat (first | assumption | with_reducible apply only_refl | (with_reducible apply Blk.onSafety_only <;> [decide; skip]) | (with_reducible apply Blk.report_only <;> [decide; skip]) | (with_reducible apply Blk.reportUnit_only <;> [decide; skip]) | (with_reducible apply Blk.degrade_only <;> [decide; skip]) | (with_reducible apply Blk.detect_only <;> [decide; skip]) | (with_reducible apply Blk.rerouteDie_only <;> [decide; skip]) | (with_reducible apply Blk.channelFail_only <;> [decide; skip]) | (with_reducible apply Blk.onEngine_only <;> [decide; skip]) | with_reducible apply only_ite)

theorem Blk.onBank_only {m₀ : List Part} {b₀ : Blk} (b : Blk) (k : Nat) (f : BankSt → BankSt) (hm₀ : within [.safety] m₀) (h₀ : Only m₀ b₀ b) : Only m₀ b₀ (Blk.onBank b k f) := by
  refine only_step (l := [.safety]) ?_ hm₀ h₀
  unfold Blk.onBank
  repeat (first | assumption | with_reducible apply only_refl | (with_reducible apply Blk.onSafety_only <;> [decide; skip]))

theorem Blk.sliceOut_only {m₀ : List Part} {b₀ : Blk} (b : Blk) (slice : Nat) (hm₀ : within [.velvet, .tweed, .safety] m₀) (h₀ : Only m₀ b₀ b) : Only m₀ b₀ (Blk.sliceOut b slice) := by
  refine only_step (l := [.velvet, .tweed, .safety]) ?_ hm₀ h₀
  unfold Blk.sliceOut
  repeat (first | assumption | with_reducible apply only_refl | (with_reducible apply Blk.onSafety_only <;> [decide; skip]) | (with_reducible apply Blk.dropWay_only <;> [decide; skip]) | (with_reducible apply Blk.evictWay_only <;> [decide; skip]) | (with_reducible refine only_foldl (fun c x hc => ?_) _ _ ?_) | with_reducible apply only_ite)

theorem Blk.bankLost_only {m₀ : List Part} {b₀ : Blk} (b : Blk) (k : Nat) (hm₀ : within [.free, .out, .od, .hA, .hB, .muslin, .can, .dev, .path, .lines, .poison, .media, .velvet, .twill, .damask, .linen, .tweed, .modes, .safety] m₀) (h₀ : Only m₀ b₀ b) : Only m₀ b₀ (Blk.bankLost b k) := by
  refine only_step (l := [.free, .out, .od, .hA, .hB, .muslin, .can, .dev, .path, .lines, .poison, .media, .velvet, .twill, .damask, .linen, .tweed, .modes, .safety]) ?_ hm₀ h₀
  unfold Blk.bankLost
  repeat (first | assumption | with_reducible apply only_refl | (with_reducible apply Blk.onDamask_only <;> [decide; skip]) | (with_reducible apply Blk.detect_only <;> [decide; skip]) | (with_reducible apply Blk.engineFail_only <;> [decide; skip]) | (with_reducible apply Blk.onBank_only <;> [decide; skip]) | (with_reducible apply Blk.sliceOut_only <;> [decide; skip]) | (with_reducible refine only_foldl (fun c x hc => ?_) _ _ ?_) | extract_lets | split | (dsimp +zetaDelta only))

theorem Blk.bankFail_only {m₀ : List Part} {b₀ : Blk} (b : Blk) (k : Nat) (hm₀ : within [.free, .out, .od, .hA, .hB, .muslin, .can, .dev, .path, .lines, .poison, .media, .velvet, .twill, .damask, .linen, .tweed, .modes, .safety] m₀) (h₀ : Only m₀ b₀ b) : Only m₀ b₀ (Blk.bankFail b k) := by
  refine only_step (l := [.free, .out, .od, .hA, .hB, .muslin, .can, .dev, .path, .lines, .poison, .media, .velvet, .twill, .damask, .linen, .tweed, .modes, .safety]) ?_ hm₀ h₀
  unfold Blk.bankFail
  repeat (first | assumption | with_reducible apply only_refl | (with_reducible apply Blk.onSafety_only <;> [decide; skip]) | (with_reducible apply Blk.degrade_only <;> [decide; skip]) | (with_reducible apply Blk.bankLost_only <;> [decide; skip]) | with_reducible apply only_ite | split)

theorem Blk.bgEnds_only {m₀ : List Part} {b₀ : Blk} (b : Blk) (hm₀ : within [.out, .dev] m₀) (h₀ : Only m₀ b₀ b) : Only m₀ b₀ (Blk.bgEnds b) := by
  refine only_step (l := [.out, .dev]) ?_ hm₀ h₀
  unfold Blk.bgEnds
  repeat (first | assumption | with_reducible apply only_refl | (with_reducible apply Blk.onDev_only <;> [decide; skip]) | (with_reducible apply Blk.raise_only <;> [decide; skip]) | with_reducible apply only_ite | extract_lets | split | (dsimp +zetaDelta only))

theorem Blk.lapStep_only {m₀ : List Part} {b₀ : Blk} (b : Blk) (c : Cls) (n : Nat) (hm₀ : within [.out, .od, .hA, .hB, .can, .dev, .media, .linen] m₀) (h₀ : Only m₀ b₀ b) : Only m₀ b₀ (Blk.lapStep b c n) := by
  refine only_step (l := [.out, .od, .hA, .hB, .can, .dev, .media, .linen]) ?_ hm₀ h₀
  unfold Blk.lapStep
  repeat (first | assumption | with_reducible apply only_refl | (with_reducible apply onMedia_keep <;> [decide; (intro; exact onLap_keep _ _ _); skip]) | (with_reducible apply onMedia_keep <;> [decide; (intro; exact ⟨rfl, rfl⟩); skip]) | (with_reducible apply Blk.healthCheck_only <;> [decide; skip]) | with_reducible apply only_ite | extract_lets | (dsimp +zetaDelta only))

theorem Blk.newJob_only {m₀ : List Part} {b₀ : Blk} (b : Blk) (j : Job) (hm₀ : within [.twill] m₀) (h₀ : Only m₀ b₀ b) : Only m₀ b₀ (Blk.newJob b j) := by
  refine only_step (l := [.twill]) ?_ hm₀ h₀
  unfold Blk.newJob
  repeat (first | assumption | with_reducible apply only_refl | (with_reducible apply Blk.onTwill_only <;> [decide; skip]) | (with_reducible refine only_foldl (fun c x hc => ?_) _ _ ?_))

theorem Blk.dropJob_only {m₀ : List Part} {b₀ : Blk} (b : Blk) (n : Nat) (hm₀ : within [.twill] m₀) (h₀ : Only m₀ b₀ b) : Only m₀ b₀ (Blk.dropJob b n) := by
  refine only_step (l := [.twill]) ?_ hm₀ h₀
  unfold Blk.dropJob
  repeat (first | assumption | with_reducible apply only_refl | (with_reducible apply Blk.onTwill_only <;> [decide; skip]))

theorem Blk.feedRead_only {m₀ : List Part} {b₀ : Blk} (n : Nat) (b : Blk) (x : Mem) (hm₀ : within [.media, .twill] m₀) (h₀ : Only m₀ b₀ b) : Only m₀ b₀ (Blk.feedRead n b x) := by
  refine only_step (l := [.media, .twill]) ?_ hm₀ h₀
  unfold Blk.feedRead
  repeat (first | assumption | with_reducible apply only_refl | (with_reducible apply Blk.enqueue_only <;> [decide; skip]) | (with_reducible apply Blk.onJob_only <;> [decide; skip]) | with_reducible apply only_ite | extract_lets | (dsimp +zetaDelta only))

theorem Blk.feedJob_only {m₀ : List Part} {b₀ : Blk} (b : Blk) (n : Nat) (hm₀ : within [.media, .twill] m₀) (h₀ : Only m₀ b₀ b) : Only m₀ b₀ (Blk.feedJob b n) := by
  refine only_step (l := [.media, .twill]) ?_ hm₀ h₀
  unfold Blk.feedJob
  repeat (first | assumption | with_reducible apply only_refl | (with_reducible apply Blk.feedRead_only <;> [decide; skip]) | (with_reducible refine only_foldl (fun c x hc => ?_) _ _ ?_) | split)

theorem Blk.feedJobs_only {m₀ : List Part} {b₀ : Blk} (b : Blk) (hm₀ : within [.media, .twill] m₀) (h₀ : Only m₀ b₀ b) : Only m₀ b₀ (Blk.feedJobs b) := by
  refine only_step (l := [.media, .twill]) ?_ hm₀ h₀
  unfold Blk.feedJobs
  repeat (first | assumption | with_reducible apply only_refl | (with_reducible apply Blk.feedJob_only <;> [decide; skip]) | (with_reducible refine only_foldl (fun c x hc => ?_) _ _ ?_))

theorem Blk.startJob_only {m₀ : List Part} {b₀ : Blk} (b : Blk) (j : Job) (hm₀ : within [.free, .media, .twill, .tweed] m₀) (h₀ : Only m₀ b₀ b) : Only m₀ b₀ (Blk.startJob b j) := by
  refine only_step (l := [.free, .media, .twill, .tweed]) ?_ hm₀ h₀
  unfold Blk.startJob
  repeat (first | assumption | with_reducible apply only_refl | (with_reducible apply Blk.twEngine_only <;> [decide; skip]) | (with_reducible apply Blk.newJob_only <;> [decide; skip]) | (with_reducible apply Blk.feedJob_only <;> [decide; skip]) | extract_lets | split | (dsimp +zetaDelta only))

theorem Blk.deepForJob_only {m₀ : List Part} {b₀ : Blk} (n : Nat) (b : Blk) (li : Nat) (hm₀ : within [.od, .path, .twill, .tweed] m₀) (h₀ : Only m₀ b₀ b) : Only m₀ b₀ (Blk.deepForJob n b li) := by
  refine only_step (l := [.od, .path, .twill, .tweed]) ?_ hm₀ h₀
  unfold Blk.deepForJob
  repeat (first | assumption | with_reducible apply only_refl | (with_reducible apply Blk.onPath_only <;> [decide; skip]) | (with_reducible apply Blk.bump_only <;> [decide; skip]) | (with_reducible apply Blk.tw_only <;> [decide; skip]) | (with_reducible apply Blk.onJob_only <;> [decide; skip]) | with_reducible apply only_ite | extract_lets | split | (dsimp +zetaDelta only))

theorem Blk.jobWrite_only {m₀ : List Part} {b₀ : Blk} (n : Nat) (ovw : Bool) (b : Blk × Nat) (w : Mem × MLine) (hm₀ : within [.free, .out, .od, .hA, .hB, .can, .lines, .media, .twill, .linen, .tweed] m₀) (h₀ : Only m₀ b₀ b.1) : Only m₀ b₀ (Blk.jobWrite n ovw b w).1 := by
  have hs {l : List Part} (hl : within l [.free, .out, .od, .hA, .hB, .can, .lines, .media, .twill, .linen, .tweed]) : within l m₀ := within_trans hl hm₀
  unfold Blk.jobWrite
  have h1 := Blk.storeLine_only b.1 (b.1.memLoc w.1) w.2 (hs (by decide)) h₀
  exact only_ite_fst (only_ite h1 (onMedia_keep (hs (by decide)) (fun _ => ⟨rfl, rfl⟩) h1)) (Blk.program_only _ _ (hs (by decide)) h₀)

theorem Blk.issueWrites_only {m₀ : List Part} {b₀ : Blk} (b : Blk) (n : Nat) (ph : Phase) (ovw : Bool) (ws : Writes) (hm₀ : within [.free, .out, .od, .hA, .hB, .can, .lines, .media, .twill, .linen, .tweed] m₀) (h₀ : Only m₀ b₀ b) : Only m₀ b₀ (Blk.issueWrites b n ph ovw ws) := by
  refine only_step (l := [.free, .out, .od, .hA, .hB, .can, .lines, .media, .twill, .linen, .tweed]) ?_ hm₀ h₀
  unfold Blk.issueWrites
  exact Blk.onJob_only _ _ _ (by decide) (only_foldl_pair (fun c x hc => Blk.jobWrite_only _ _ _ _ (by decide) hc) _ (b, 0) (only_refl _ _))

theorem Blk.jobAppend_only {m₀ : List Part} {b₀ : Blk} (b : Blk) (n li : Nat) (data : Line) (hm₀ : within [.free, .out, .od, .hA, .hB, .can, .lines, .media, .twill, .damask, .linen, .tweed] m₀) (h₀ : Only m₀ b₀ b) : Only m₀ b₀ (Blk.jobAppend b n li data) := by
  refine only_step (l := [.free, .out, .od, .hA, .hB, .can, .lines, .media, .twill, .damask, .linen, .tweed]) ?_ hm₀ h₀
  unfold Blk.jobAppend
  repeat (first | assumption | with_reducible apply only_refl | (with_reducible apply Blk.onTwill_only <;> [decide; skip]) | (with_reducible apply Blk.storeLine_only <;> [decide; skip]) | (with_reducible apply Blk.program_only <;> [decide; skip]) | (with_reducible apply Blk.takePosition_only <;> [decide; skip]) | (with_reducible apply Blk.setHot_only <;> [decide; skip]) | (with_reducible apply Blk.onJob_only <;> [decide; skip]) | (with_reducible apply Blk.dropJob_only <;> [decide; skip]) | with_reducible apply only_ite | extract_lets | split | (dsimp +zetaDelta only))

theorem Blk.jobRegroup_only {m₀ : List Part} {b₀ : Blk} (b : Blk) (n : Nat) (j : Job) (ti : Nat) (epoch : BitVec 8) (major : BitVec 24) (new : Option (Nat × Line)) (hm₀ : within [.free, .out, .od, .hA, .hB, .can, .lines, .media, .twill, .damask, .linen, .tweed] m₀) (h₀ : Only m₀ b₀ b) : Only m₀ b₀ (Blk.jobRegroup b n j ti epoch major new) := by
  refine only_step (l := [.free, .out, .od, .hA, .hB, .can, .lines, .media, .twill, .damask, .linen, .tweed]) ?_ hm₀ h₀
  unfold Blk.jobRegroup
  repeat (first | assumption | with_reducible apply only_refl | (with_reducible apply Blk.putTag_only <;> [decide; skip]) | (with_reducible apply Blk.useTag_only <;> [decide; skip]) | (with_reducible apply Blk.onJob_only <;> [decide; skip]) | (with_reducible apply Blk.issueWrites_only <;> [decide; skip]) | (with_reducible refine only_foldl (fun c x hc => ?_) _ _ ?_) | extract_lets | (dsimp +zetaDelta only))

theorem Blk.jobCold_only {m₀ : List Part} {b₀ : Blk} (b : Blk) (n : Nat) (j : Job) (li : Nat) (data : Line) (hm₀ : within [.free, .out, .od, .hA, .hB, .can, .lines, .media, .twill, .damask, .linen, .tweed] m₀) (h₀ : Only m₀ b₀ b) : Only m₀ b₀ (Blk.jobCold b n j li data) := by
  refine only_step (l := [.free, .out, .od, .hA, .hB, .can, .lines, .media, .twill, .damask, .linen, .tweed]) ?_ hm₀ h₀
  unfold Blk.jobCold
  repeat (first | assumption | with_reducible apply only_refl | (with_reducible apply Blk.bump_only <;> [decide; skip]) | (with_reducible apply Blk.tw_only <;> [decide; skip]) | (with_reducible apply Blk.coldCipher_only <;> [decide; skip]) | (with_reducible apply Blk.dropJob_only <;> [decide; skip]) | (with_reducible apply Blk.issueWrites_only <;> [decide; skip]) | (with_reducible apply Blk.jobRegroup_only <;> [decide; skip]) | with_reducible apply only_ite | extract_lets | split | (dsimp +zetaDelta only))

theorem Blk.lockJob_only {m₀ : List Part} {b₀ : Blk} (b : Blk) (n : Nat) (ks : List Nat) (hm₀ : within [.twill] m₀) (h₀ : Only m₀ b₀ b) : Only m₀ b₀ (Blk.lockJob b n ks) := by
  refine only_step (l := [.twill]) ?_ hm₀ h₀
  unfold Blk.lockJob
  repeat (first | assumption | with_reducible apply only_refl | (with_reducible apply Blk.onTwill_only <;> [decide; skip]) | (with_reducible apply Blk.onJob_only <;> [decide; skip]) | (with_reducible refine only_foldl (fun c x hc => ?_) _ _ ?_))

theorem Blk.terryCheck_only {m₀ : List Part} {b₀ : Blk} (b : Blk) (c : Cls) (slot s : Nat) (hm₀ : within [.free, .out, .od, .hA, .hB, .can, .path, .poison, .media, .damask, .linen, .tweed, .modes] m₀) (h₀ : Only m₀ b₀ b) : Only m₀ b₀ (Blk.terryCheck b c slot s).1 := by
  refine only_step (l := [.free, .out, .od, .hA, .hB, .can, .path, .poison, .media, .damask, .linen, .tweed, .modes]) ?_ hm₀ h₀
  unfold Blk.terryCheck
  repeat (first | assumption | with_reducible apply only_refl | (with_reducible apply Blk.bump_only <;> [decide; skip]) | (with_reducible apply Blk.poisonLine_only <;> [decide; skip]) | (with_reducible apply Blk.damaskFailure_only <;> [decide; skip]) | (with_reducible refine only_foldl_pair (fun c x hc => ?_) _ _ ?_) | (with_reducible refine only_foldl (fun c x hc => ?_) _ _ ?_) | with_reducible apply only_ite | extract_lets | split | with_reducible apply only_ite_fst | dsimp only | (dsimp +zetaDelta only))

theorem Blk.terryReady_only {m₀ : List Part} {b₀ : Blk} (b : Blk) (n : Nat) (j : Job) (c : Cls) (slot s : Nat) (hm₀ : within [.free, .out, .od, .hA, .hB, .can, .path, .lines, .poison, .media, .twill, .damask, .linen, .tweed, .modes] m₀) (h₀ : Only m₀ b₀ b) : Only m₀ b₀ (Blk.terryReady b n j c slot s) := by
  refine only_step (l := [.free, .out, .od, .hA, .hB, .can, .path, .lines, .poison, .media, .twill, .damask, .linen, .tweed, .modes]) ?_ hm₀ h₀
  unfold Blk.terryReady
  refine only_ite ?_ ?_
  · repeat (first | assumption | with_reducible apply only_refl | (with_reducible apply onMedia_keep <;> [decide; (intro; exact onLap_keep _ _ _); skip]) | (with_reducible apply onMedia_keep <;> [decide; (intro; exact ⟨rfl, rfl⟩); skip]) | (with_reducible apply Blk.dropJob_only <;> [decide; skip]) | (with_reducible apply Blk.issueWrites_only <;> [decide; skip]) | (with_reducible apply Blk.lockJob_only <;> [decide; skip]) | (with_reducible apply Blk.terryCheck_only <;> [decide; skip]))
  · refine Blk.issueWrites_only _ _ _ _ _ (by decide) (Blk.lockJob_only _ _ _ (by decide) (only_ite_fst ?_ (only_refl _ _)))
    repeat (first | assumption | with_reducible apply only_refl | (with_reducible apply onMedia_keep <;> [decide; (intro; exact onLap_keep _ _ _); skip]) | (with_reducible apply onMedia_keep <;> [decide; (intro; exact ⟨rfl, rfl⟩); skip]) | (with_reducible apply Blk.dropJob_only <;> [decide; skip]) | (with_reducible apply Blk.issueWrites_only <;> [decide; skip]) | (with_reducible apply Blk.lockJob_only <;> [decide; skip]) | (with_reducible apply Blk.terryCheck_only <;> [decide; skip]))

theorem Blk.scanOver_only {m₀ : List Part} {b₀ : Blk} (b : Blk) (hm₀ : within [.out, .dev, .media] m₀) (h₀ : Only m₀ b₀ b) : Only m₀ b₀ (Blk.scanOver b) := by
  refine only_step (l := [.out, .dev, .media]) ?_ hm₀ h₀
  unfold Blk.scanOver
  repeat (first | assumption | with_reducible apply only_refl | (with_reducible apply onMedia_keep <;> [decide; (intro; exact ⟨rfl, rfl⟩); skip]) | (with_reducible apply Blk.bgEnds_only <;> [decide; skip]) | with_reducible apply only_ite | extract_lets | split | (dsimp +zetaDelta only))

theorem Blk.scanFind_only {m₀ : List Part} {b₀ : Blk} (b : Blk) (key n : Nat) (hm₀ : within [.media] m₀) (h₀ : Only m₀ b₀ b) : Only m₀ b₀ (Blk.scanFind b key n) := by
  refine only_step (l := [.media]) ?_ hm₀ h₀
  unfold Blk.scanFind
  repeat (first | assumption | with_reducible apply only_refl | (with_reducible apply onMedia_keep <;> [decide; (intro; exact ⟨rfl, rfl⟩); skip]) | (with_reducible refine only_foldl (fun c x hc => ?_) _ _ ?_))

theorem Blk.scanReady_only {m₀ : List Part} {b₀ : Blk} (b : Blk) (n : Nat) (j : Job) (key k : Nat) (hm₀ : within [.free, .out, .od, .hA, .hB, .can, .dev, .lines, .media, .twill, .linen, .tweed] m₀) (h₀ : Only m₀ b₀ b) : Only m₀ b₀ (Blk.scanReady b n j key k) := by
  refine only_step (l := [.free, .out, .od, .hA, .hB, .can, .dev, .lines, .media, .twill, .linen, .tweed]) ?_ hm₀ h₀
  unfold Blk.scanReady
  repeat (first | assumption | with_reducible apply only_refl | (with_reducible apply Blk.dropJob_only <;> [decide; skip]) | (with_reducible apply Blk.issueWrites_only <;> [decide; skip]) | (with_reducible apply Blk.lockJob_only <;> [decide; skip]) | (with_reducible apply Blk.scanOver_only <;> [decide; skip]) | (with_reducible apply Blk.scanFind_only <;> [decide; skip]) | with_reducible apply only_ite | extract_lets | split | (dsimp +zetaDelta only))

theorem Blk.jobReady_only {m₀ : List Part} {b₀ : Blk} (b : Blk) (n : Nat) (j : Job) (hm₀ : within [.free, .out, .od, .regs, .hA, .hB, .can, .dev, .path, .lines, .poison, .media, .velvet, .twill, .damask, .linen, .tweed, .modes] m₀) (h₀ : Only m₀ b₀ b) : Only m₀ b₀ (Blk.jobReady b n j) := by
  refine only_step (l := [.free, .out, .od, .regs, .hA, .hB, .can, .dev, .path, .lines, .poison, .media, .velvet, .twill, .damask, .linen, .tweed, .modes]) ?_ hm₀ h₀
  unfold Blk.jobReady
  repeat (first | assumption | with_reducible apply only_refl | (with_reducible apply onMedia_keep <;> [decide; (intro; exact ⟨rfl, rfl⟩); skip]) | (with_reducible apply Blk.onPath_only <;> [decide; skip]) | (with_reducible apply Blk.onTwill_only <;> [decide; skip]) | (with_reducible apply Blk.bump_only <;> [decide; skip]) | (with_reducible apply Blk.tw_only <;> [decide; skip]) | (with_reducible apply Blk.clearHot_only <;> [decide; skip]) | (with_reducible apply Blk.putBuf_only <;> [decide; skip]) | (with_reducible apply Blk.abandonDemotion_only <;> [decide; skip]) | (with_reducible apply Blk.invalidate_only <;> [decide; skip]) | (with_reducible apply Blk.program_only <;> [decide; skip]) | (with_reducible apply Blk.onJob_only <;> [decide; skip]) | (with_reducible apply Blk.dropJob_only <;> [decide; skip]) | (with_reducible apply Blk.issueWrites_only <;> [decide; skip]) | (with_reducible apply Blk.jobAppend_only <;> [decide; skip]) | (with_reducible apply Blk.jobRegroup_only <;> [decide; skip]) | (with_reducible apply Blk.jobCold_only <;> [decide; skip]) | (with_reducible apply Blk.terryReady_only <;> [decide; skip]) | (with_reducible apply Blk.scanReady_only <;> [decide; skip]) | (with_reducible refine only_foldl (fun c x hc => ?_) _ _ ?_) | with_reducible apply only_ite | extract_lets | split | (dsimp +zetaDelta only))

theorem Blk.advanceJob_only {m₀ : List Part} {b₀ : Blk} (b : Blk) (n : Nat) (hm₀ : within [.free, .out, .od, .regs, .hA, .hB, .can, .dev, .path, .lines, .poison, .media, .velvet, .twill, .damask, .linen, .tweed, .modes] m₀) (h₀ : Only m₀ b₀ b) : Only m₀ b₀ (Blk.advanceJob b n) := by
  refine only_step (l := [.free, .out, .od, .regs, .hA, .hB, .can, .dev, .path, .lines, .poison, .media, .velvet, .twill, .damask, .linen, .tweed, .modes]) ?_ hm₀ h₀
  unfold Blk.advanceJob
  repeat (first | assumption | with_reducible apply only_refl | (with_reducible apply Blk.onJob_only <;> [decide; skip]) | (with_reducible apply Blk.feedJob_only <;> [decide; skip]) | (with_reducible apply Blk.deepForJob_only <;> [decide; skip]) | (with_reducible apply Blk.jobReady_only <;> [decide; skip]) | (with_reducible refine only_foldl (fun c x hc => ?_) _ _ ?_) | with_reducible apply only_ite | extract_lets | split | (dsimp +zetaDelta only))

theorem Blk.issueHeld_only {m₀ : List Part} {b₀ : Blk} (b : Blk) (n : Nat) (j : Job) (hm₀ : within [.free, .out, .od, .hA, .hB, .can, .lines, .media, .twill, .linen, .tweed] m₀) (h₀ : Only m₀ b₀ b) : Only m₀ b₀ (Blk.issueHeld b n j) := by
  refine only_step (l := [.free, .out, .od, .hA, .hB, .can, .lines, .media, .twill, .linen, .tweed]) ?_ hm₀ h₀
  unfold Blk.issueHeld
  refine Blk.onJob_only _ _ _ (by decide) (only_foldl_pair (fun c x hc => ?_) _ (b, 0) (only_refl _ _))
  split
  · exact only_foldl_pair (fun c x hc => Blk.jobWrite_only _ _ _ _ (by decide) hc) _ _ hc
  · exact hc

theorem Blk.tagWritten_only {m₀ : List Part} {b₀ : Blk} (b : Blk) (ti : Nat) (hm₀ : within [.damask] m₀) (h₀ : Only m₀ b₀ b) : Only m₀ b₀ (Blk.tagWritten b ti) := by
  refine only_step (l := [.damask]) ?_ hm₀ h₀
  unfold Blk.tagWritten
  repeat (first | assumption | with_reducible apply only_refl | (with_reducible apply Blk.cleanTag_only <;> [decide; skip]) | with_reducible apply only_ite)

theorem Blk.homeWritten_only {m₀ : List Part} {b₀ : Blk} (b : Blk) (li : Nat) (demoted stillHot stored : Blk → Blk) (hm₀ : within [.twill] m₀) (h1 : ∀ c, Only m₀ b₀ c → Only m₀ b₀ (demoted c)) (h2 : ∀ c, Only m₀ b₀ c → Only m₀ b₀ (stillHot c)) (h3 : ∀ c, Only m₀ b₀ c → Only m₀ b₀ (stored c)) (h₀ : Only m₀ b₀ b) : Only m₀ b₀ (b.homeWritten li demoted stillHot stored) := by
  have hs {l : List Part} (hl : within l [.twill]) : within l m₀ := within_trans hl hm₀
  unfold Blk.homeWritten
  refine only_ite (h3 _ h₀) ?_
  split
  · exact only_ite (h1 _ (Blk.gatherDemotion_only _ _ (hs (by decide)) (Blk.onTwill_only _ _ (hs (by decide)) h₀))) (h2 _ h₀)
  · exact h2 _ h₀

theorem Blk.throughAgain_only {m₀ : List Part} {b₀ : Blk} (b : Blk) (li : Nat) (hm₀ : within [.free, .out, .od, .hA, .hB, .can, .path, .media, .twill, .linen, .tweed] m₀) (h₀ : Only m₀ b₀ b) : Only m₀ b₀ (Blk.throughAgain b li) := by
  refine only_step (l := [.free, .out, .od, .hA, .hB, .can, .path, .media, .twill, .linen, .tweed]) ?_ hm₀ h₀
  unfold Blk.throughAgain
  repeat (first | assumption | with_reducible apply only_refl | (with_reducible apply Blk.onPath_only <;> [decide; skip]) | (with_reducible apply Blk.program_only <;> [decide; skip]) | with_reducible apply only_ite)

theorem Blk.shutdownLoss_only {m₀ : List Part} {b₀ : Blk} (b : Blk) (li : Nat) (hm₀ : within [.free, .out, .od, .hA, .hB, .can, .path, .poison, .media, .damask, .linen, .tweed, .modes] m₀) (h₀ : Only m₀ b₀ b) : Only m₀ b₀ (Blk.shutdownLoss b li) := by
  refine only_step (l := [.free, .out, .od, .hA, .hB, .can, .path, .poison, .media, .damask, .linen, .tweed, .modes]) ?_ hm₀ h₀
  unfold Blk.shutdownLoss
  repeat (first | assumption | with_reducible apply only_refl | (with_reducible apply Blk.onDamask_only <;> [decide; skip]) | (with_reducible apply Blk.bump_only <;> [decide; skip]) | (with_reducible apply Blk.report_only <;> [decide; skip]) | (with_reducible apply Blk.listHalf_only <;> [decide; skip]) | with_reducible apply only_ite | extract_lets | (dsimp +zetaDelta only))

theorem Blk.passRegion_only {m₀ : List Part} {b₀ : Blk} (b : Blk) (r : Nat) (hm₀ : within [.free, .out, .od, .hA, .hB, .can, .path, .poison, .media, .twill, .damask, .linen, .tweed, .modes] m₀) (h₀ : Only m₀ b₀ b) : Only m₀ b₀ (Blk.passRegion b r) := by
  refine only_step (l := [.free, .out, .od, .hA, .hB, .can, .path, .poison, .media, .twill, .damask, .linen, .tweed, .modes]) ?_ hm₀ h₀
  unfold Blk.passRegion
  repeat (first | assumption | with_reducible apply only_refl | (with_reducible apply Blk.onTwill_only <;> [decide; skip]) | (with_reducible apply Blk.onDamask_only <;> [decide; skip]) | (with_reducible apply Blk.shutdownLoss_only <;> [decide; skip]) | (with_reducible refine only_foldl (fun c x hc => ?_) _ _ ?_) | with_reducible apply only_ite | extract_lets | (dsimp +zetaDelta only))

theorem Blk.refreshed_only {m₀ : List Part} {b₀ : Blk} (b : Blk) (r : Nat) (hm₀ : within [.od, .twill, .gauze] m₀) (h₀ : Only m₀ b₀ b) : Only m₀ b₀ (Blk.refreshed b r) := by
  refine only_step (l := [.od, .twill, .gauze]) ?_ hm₀ h₀
  unfold Blk.refreshed
  repeat (first | assumption | with_reducible apply only_refl | (with_reducible apply Blk.onTwill_only <;> [decide; skip]) | (with_reducible apply Blk.onGauze_only <;> [decide; skip]) | (with_reducible apply Blk.bump_only <;> [decide; skip]) | (with_reducible apply Blk.putRegion_only <;> [decide; skip]) | (with_reducible apply Blk.areaNew_only <;> [decide; skip]) | extract_lets | split | (dsimp +zetaDelta only))

theorem Blk.freshStep_only {m₀ : List Part} {b₀ : Blk} (b : Blk) (area : Nat) (c : Cls) (s : Nat) (hm₀ : within [.od, .twill, .gauze, .tweed] m₀) (h₀ : Only m₀ b₀ b) : Only m₀ b₀ (Blk.freshStep b area c s) := by
  refine only_step (l := [.od, .twill, .gauze, .tweed]) ?_ hm₀ h₀
  unfold Blk.freshStep
  repeat (first | assumption | with_reducible apply only_refl | (with_reducible apply Blk.onTwill_only <;> [decide; skip]) | (with_reducible apply Blk.tw_only <;> [decide; skip]) | (with_reducible apply Blk.refreshed_only <;> [decide; skip]) | with_reducible apply only_ite | extract_lets | split | (dsimp +zetaDelta only))

theorem Blk.stripeDone_only {m₀ : List Part} {b₀ : Blk} (b : Blk) (r : Nat) (m : Move) (s : Nat) (hm₀ : within [.free, .out, .od, .hA, .hB, .can, .path, .lines, .poison, .media, .twill, .gauze, .damask, .linen, .tweed, .modes] m₀) (h₀ : Only m₀ b₀ b) : Only m₀ b₀ (Blk.stripeDone b r m s) := by
  refine only_step (l := [.free, .out, .od, .hA, .hB, .can, .path, .lines, .poison, .media, .twill, .gauze, .damask, .linen, .tweed, .modes]) ?_ hm₀ h₀
  unfold Blk.stripeDone
  repeat (first | assumption | with_reducible apply only_refl | (with_reducible apply Blk.onTwill_only <;> [decide; skip]) | (with_reducible apply Blk.putRegion_only <;> [decide; skip]) | (with_reducible apply Blk.journalRec_only <;> [decide; skip]) | (with_reducible apply Blk.passRegion_only <;> [decide; skip]) | (with_reducible apply Blk.freshStep_only <;> [decide; skip]) | with_reducible apply only_ite | extract_lets | split | (dsimp +zetaDelta only))

theorem Blk.jobEffect_only {m₀ : List Part} {b₀ : Blk} (b : Blk) (j : Job) (hm₀ : within [.free, .out, .od, .hA, .hB, .can, .dev, .path, .lines, .poison, .media, .velvet, .twill, .gauze, .damask, .linen, .tweed, .modes, .safety] m₀) (h₀ : Only m₀ b₀ b) : Only m₀ b₀ (Blk.jobEffect b j) := by
  refine only_step (l := [.free, .out, .od, .hA, .hB, .can, .dev, .path, .lines, .poison, .media, .velvet, .twill, .gauze, .damask, .linen, .tweed, .modes, .safety]) ?_ hm₀ h₀
  unfold Blk.jobEffect
  have hid (c : Blk) (hc : Only [.free, .out, .od, .hA, .hB, .can, .dev, .path, .lines, .poison, .media, .velvet, .twill, .gauze, .damask, .linen, .tweed, .modes, .safety] b c) : Only [.free, .out, .od, .hA, .hB, .can, .dev, .path, .lines, .poison, .media, .velvet, .twill, .gauze, .damask, .linen, .tweed, .modes, .safety] b (id c) := hc
  split
  · split
    · exact Blk.homeWritten_only _ _ _ _ _ (by decide) (fun c hc => Blk.putBuf_only _ _ _ (by decide) hc) (fun c hc => Blk.putBuf_only _ _ _ (by decide) hc) (fun c hc => Blk.bufferDone_only _ _ (by decide) hc) (only_refl _ _)
    · exact only_refl _ _
  · exact Blk.homeWritten_only _ _ _ _ _ (by decide) hid (fun c hc => Blk.throughAgain_only _ _ (by decide) hc) (fun c hc => Blk.throughDone_only _ _ _ (by decide) hc) (only_refl _ _)
  · exact Blk.homeWritten_only _ _ _ _ _ (by decide) hid hid hid (only_refl _ _)
  all_goals repeat (first | assumption | with_reducible apply only_refl | (with_reducible apply Blk.onSafety_only <;> [decide; skip]) | (with_reducible apply Blk.bump_only <;> [decide; skip]) | (with_reducible apply Blk.putBuf_only <;> [decide; skip]) | (with_reducible apply Blk.bufferDone_only <;> [decide; skip]) | (with_reducible apply Blk.throughDone_only <;> [decide; skip]) | (with_reducible apply Blk.lapStep_only <;> [decide; skip]) | (with_reducible apply Blk.scanOver_only <;> [decide; skip]) | (with_reducible apply Blk.tagWritten_only <;> [decide; skip]) | (with_reducible apply Blk.homeWritten_only <;> [decide; skip]) | (with_reducible apply Blk.throughAgain_only <;> [decide; skip]) | (with_reducible apply Blk.freshStep_only <;> [decide; skip]) | (with_reducible apply Blk.stripeDone_only <;> [decide; skip]))

theorem Blk.jobOver_only {m₀ : List Part} {b₀ : Blk} (b : Blk) (n : Nat) (hm₀ : within [.free, .out, .od, .hA, .hB, .can, .dev, .path, .lines, .poison, .media, .velvet, .twill, .gauze, .damask, .linen, .tweed, .modes, .safety] m₀) (h₀ : Only m₀ b₀ b) : Only m₀ b₀ (Blk.jobOver b n) := by
  refine only_step (l := [.free, .out, .od, .hA, .hB, .can, .dev, .path, .lines, .poison, .media, .velvet, .twill, .gauze, .damask, .linen, .tweed, .modes, .safety]) ?_ hm₀ h₀
  unfold Blk.jobOver
  repeat (first | assumption | with_reducible apply only_refl | (with_reducible apply Blk.dropJob_only <;> [decide; skip]) | (with_reducible apply Blk.issueHeld_only <;> [decide; skip]) | (with_reducible apply Blk.tagWritten_only <;> [decide; skip]) | (with_reducible apply Blk.jobEffect_only <;> [decide; skip]) | with_reducible apply only_ite | split)

theorem Blk.advanceJobs_only {m₀ : List Part} {b₀ : Blk} (b : Blk) (hm₀ : within [.free, .out, .od, .regs, .hA, .hB, .can, .dev, .path, .lines, .poison, .media, .velvet, .twill, .gauze, .damask, .linen, .tweed, .modes, .safety] m₀) (h₀ : Only m₀ b₀ b) : Only m₀ b₀ (Blk.advanceJobs b) := by
  refine only_step (l := [.free, .out, .od, .regs, .hA, .hB, .can, .dev, .path, .lines, .poison, .media, .velvet, .twill, .gauze, .damask, .linen, .tweed, .modes, .safety]) ?_ hm₀ h₀
  unfold Blk.advanceJobs
  repeat (first | assumption | with_reducible apply only_refl | (with_reducible apply Blk.advanceJob_only <;> [decide; skip]) | (with_reducible apply Blk.jobOver_only <;> [decide; skip]) | (with_reducible refine only_foldl (fun c x hc => ?_) _ _ ?_))

theorem Blk.demoteByWrite_only {m₀ : List Part} {b₀ : Blk} (b : Blk) (li : Nat) (hm₀ : within [.twill] m₀) (h₀ : Only m₀ b₀ b) : Only m₀ b₀ (Blk.demoteByWrite b li) := by
  refine only_step (l := [.twill]) ?_ hm₀ h₀
  unfold Blk.demoteByWrite
  repeat (first | assumption | with_reducible apply only_refl | (with_reducible apply Blk.onTwill_only <;> [decide; skip]) | (with_reducible apply Blk.startDemotion_only <;> [decide; skip]) | with_reducible apply only_ite | extract_lets | split | (dsimp +zetaDelta only))

theorem Blk.startCold_only {m₀ : List Part} {b₀ : Blk} (b : Blk) (w : Work) (li : Nat) (more : List Mem) (hm₀ : within [.free, .media, .twill, .tweed] m₀) (h₀ : Only m₀ b₀ b) : Only m₀ b₀ (Blk.startCold b w li more) := by
  refine only_step (l := [.free, .media, .twill, .tweed]) ?_ hm₀ h₀
  unfold Blk.startCold
  repeat (first | assumption | with_reducible apply only_refl | (with_reducible apply Blk.startJob_only <;> [decide; skip]) | (with_reducible apply Blk.demoteByWrite_only <;> [decide; skip]))

theorem Blk.startHome_only {m₀ : List Part} {b₀ : Blk} (b : Blk) (li : Nat) (hm₀ : within [.free, .media, .twill, .tweed] m₀) (h₀ : Only m₀ b₀ b) : Only m₀ b₀ (Blk.startHome b li) := by
  refine only_step (l := [.free, .media, .twill, .tweed]) ?_ hm₀ h₀
  unfold Blk.startHome
  repeat (first | assumption | with_reducible apply only_refl | (with_reducible apply Blk.startCold_only <;> [decide; skip]) | with_reducible apply only_ite | split)

theorem Blk.startHomes_only {m₀ : List Part} {b₀ : Blk} (b : Blk) (hm₀ : within [.free, .media, .twill, .tweed] m₀) (h₀ : Only m₀ b₀ b) : Only m₀ b₀ (Blk.startHomes b) := by
  refine only_step (l := [.free, .media, .twill, .tweed]) ?_ hm₀ h₀
  unfold Blk.startHomes
  repeat (first | assumption | with_reducible apply only_refl | (with_reducible apply Blk.startHome_only <;> [decide; skip]) | (with_reducible refine only_foldl (fun c x hc => ?_) _ _ ?_))

theorem Blk.startGroup_only {m₀ : List Part} {b₀ : Blk} (b : Blk) (x : Nat × Option Nat × List Nat) (hm₀ : within [.free, .media, .twill, .damask, .tweed] m₀) (h₀ : Only m₀ b₀ b) : Only m₀ b₀ (Blk.startGroup b x) := by
  refine only_step (l := [.free, .media, .twill, .damask, .tweed]) ?_ hm₀ h₀
  unfold Blk.startGroup
  repeat (first | assumption | with_reducible apply only_refl | (with_reducible apply Blk.onDamask_only <;> [decide; skip]) | (with_reducible apply Blk.startJob_only <;> [decide; skip]) | with_reducible apply only_ite | extract_lets | split | (dsimp +zetaDelta only))

theorem Blk.startGroups_only {m₀ : List Part} {b₀ : Blk} (b : Blk) (hm₀ : within [.free, .media, .twill, .damask, .tweed] m₀) (h₀ : Only m₀ b₀ b) : Only m₀ b₀ (Blk.startGroups b) := by
  refine only_step (l := [.free, .media, .twill, .damask, .tweed]) ?_ hm₀ h₀
  unfold Blk.startGroups
  repeat (first | assumption | with_reducible apply only_refl | (with_reducible apply Blk.startGroup_only <;> [decide; skip]) | (with_reducible refine only_foldl (fun c x hc => ?_) _ _ ?_))

theorem Blk.startTag_only {m₀ : List Part} {b₀ : Blk} (b : Blk) (ti : Nat) (hm₀ : within [.free, .media, .twill, .tweed] m₀) (h₀ : Only m₀ b₀ b) : Only m₀ b₀ (Blk.startTag b ti) := by
  refine only_step (l := [.free, .media, .twill, .tweed]) ?_ hm₀ h₀
  unfold Blk.startTag
  repeat (first | assumption | with_reducible apply only_refl | (with_reducible apply Blk.startJob_only <;> [decide; skip]) | with_reducible apply only_ite | extract_lets | (dsimp +zetaDelta only))

theorem Blk.startStripe_only {m₀ : List Part} {b₀ : Blk} (b : Blk) (r : Nat) (e : RegionEntry) (m : Move) (s : Nat) (hm₀ : within [.free, .media, .twill, .tweed] m₀) (h₀ : Only m₀ b₀ b) : Only m₀ b₀ (Blk.startStripe b r e m s) := by
  refine only_step (l := [.free, .media, .twill, .tweed]) ?_ hm₀ h₀
  unfold Blk.startStripe
  repeat (first | assumption | with_reducible apply only_refl | (with_reducible apply Blk.startJob_only <;> [decide; skip]) | with_reducible apply only_ite | extract_lets | (dsimp +zetaDelta only))

theorem Blk.stepMove_only {m₀ : List Part} {b₀ : Blk} (b : Blk) (r : Nat) (hm₀ : within [.free, .media, .twill, .tweed] m₀) (h₀ : Only m₀ b₀ b) : Only m₀ b₀ (Blk.stepMove b r) := by
  refine only_step (l := [.free, .media, .twill, .tweed]) ?_ hm₀ h₀
  unfold Blk.stepMove
  repeat (first | assumption | with_reducible apply only_refl | (with_reducible apply Blk.startStripe_only <;> [decide; skip]) | with_reducible apply only_ite | split)

theorem Blk.stepArea_only {m₀ : List Part} {b₀ : Blk} (b : Blk) (area : Nat) (hm₀ : within [.free, .media, .twill, .tweed] m₀) (h₀ : Only m₀ b₀ b) : Only m₀ b₀ (Blk.stepArea b area) := by
  refine only_step (l := [.free, .media, .twill, .tweed]) ?_ hm₀ h₀
  unfold Blk.stepArea
  repeat (first | assumption | with_reducible apply only_refl | (with_reducible apply Blk.startJob_only <;> [decide; skip]) | with_reducible apply only_ite | extract_lets | split | (dsimp +zetaDelta only))

theorem Blk.leaveSlot_only {m₀ : List Part} {b₀ : Blk} (b : Blk) (slot : Nat) (hm₀ : within [.twill] m₀) (h₀ : Only m₀ b₀ b) : Only m₀ b₀ (Blk.leaveSlot b slot) := by
  refine only_step (l := [.twill]) ?_ hm₀ h₀
  unfold Blk.leaveSlot
  repeat (first | assumption | with_reducible apply only_refl | (with_reducible apply Blk.onTwill_only <;> [decide; skip]) | (with_reducible apply Blk.setSlot_only <;> [decide; skip]) | with_reducible apply only_ite | extract_lets | split | (dsimp +zetaDelta only))

theorem Blk.clearCells_only {m₀ : List Part} {b₀ : Blk} (b : Blk) (d : Nat) (hm₀ : within [.gauze] m₀) (h₀ : Only m₀ b₀ b) : Only m₀ b₀ (Blk.clearCells b d) := by
  refine only_step (l := [.gauze]) ?_ hm₀ h₀
  unfold Blk.clearCells
  repeat (first | assumption | with_reducible apply only_refl | (with_reducible apply Blk.onGauze_only <;> [decide; skip]))

theorem Blk.rebuildOver_only {m₀ : List Part} {b₀ : Blk} (b : Blk) (hm₀ : within [.out, .od, .hA, .hB, .muslin, .can, .linen, .tweed, .modes, .safety] m₀) (h₀ : Only m₀ b₀ b) : Only m₀ b₀ (Blk.rebuildOver b) := by
  refine only_step (l := [.out, .od, .hA, .hB, .muslin, .can, .linen, .tweed, .modes, .safety]) ?_ hm₀ h₀
  unfold Blk.rebuildOver
  repeat (first | assumption | with_reducible apply only_refl | (with_reducible apply Blk.onSafety_only <;> [decide; skip]) | (with_reducible apply Blk.degrade_only <;> [decide; skip]) | with_reducible apply only_ite)

theorem Blk.moveLines_only {m₀ : List Part} {b₀ : Blk} (b : Blk) (key : Nat) (hm₀ : within [.lines, .media] m₀) (h₀ : Only m₀ b₀ b) : Only m₀ b₀ (Blk.moveLines b key) := by
  refine only_step (l := [.lines, .media]) ?_ hm₀ h₀
  unfold Blk.moveLines
  repeat (first | assumption | with_reducible apply only_refl | (with_reducible apply Blk.storeLine_only <;> [decide; skip]) | (with_reducible apply Blk.blankLine_only <;> [decide; skip]) | (with_reducible refine only_foldl (fun c x hc => ?_) _ _ ?_) | extract_lets | split | (dsimp +zetaDelta only))

theorem Blk.endRebuild_only {m₀ : List Part} {b₀ : Blk} (b : Blk) (key d : Nat) (hm₀ : within [.out, .od, .hA, .hB, .muslin, .can, .lines, .media, .twill, .gauze, .linen, .tweed, .modes, .safety] m₀) (h₀ : Only m₀ b₀ b) : Only m₀ b₀ (Blk.endRebuild b key d) := by
  refine only_step (l := [.out, .od, .hA, .hB, .muslin, .can, .lines, .media, .twill, .gauze, .linen, .tweed, .modes, .safety]) ?_ hm₀ h₀
  unfold Blk.endRebuild
  repeat (first | assumption | with_reducible apply only_refl | (with_reducible apply onMedia_keep <;> [decide; (intro; exact ⟨rfl, rfl⟩); skip]) | (with_reducible apply Blk.onTwill_only <;> [decide; skip]) | (with_reducible apply Blk.onSafety_only <;> [decide; skip]) | (with_reducible apply Blk.bump_only <;> [decide; skip]) | (with_reducible apply Blk.journalRec_only <;> [decide; skip]) | (with_reducible apply Blk.leaveSlot_only <;> [decide; skip]) | (with_reducible apply Blk.clearCells_only <;> [decide; skip]) | (with_reducible apply Blk.rebuildOver_only <;> [decide; skip]) | (with_reducible apply Blk.moveLines_only <;> [decide; skip]) | with_reducible apply only_ite | extract_lets | (dsimp +zetaDelta only))

theorem Blk.stepRebuild_only {m₀ : List Part} {b₀ : Blk} (b : Blk) (hm₀ : within [.free, .out, .od, .hA, .hB, .muslin, .can, .lines, .media, .twill, .gauze, .linen, .tweed, .modes, .safety] m₀) (h₀ : Only m₀ b₀ b) : Only m₀ b₀ (Blk.stepRebuild b) := by
  refine only_step (l := [.free, .out, .od, .hA, .hB, .muslin, .can, .lines, .media, .twill, .gauze, .linen, .tweed, .modes, .safety]) ?_ hm₀ h₀
  unfold Blk.stepRebuild
  repeat (first | assumption | with_reducible apply only_refl | (with_reducible apply Blk.startJob_only <;> [decide; skip]) | (with_reducible apply Blk.endRebuild_only <;> [decide; skip]) | with_reducible apply only_ite | extract_lets | split | (dsimp +zetaDelta only))

theorem Blk.beginPass_only {m₀ : List Part} {b₀ : Blk} (b : Blk) (r : Nat) (hm₀ : within [.free, .media, .twill, .tweed] m₀) (h₀ : Only m₀ b₀ b) : Only m₀ b₀ (Blk.beginPass b r) := by
  refine only_step (l := [.free, .media, .twill, .tweed]) ?_ hm₀ h₀
  unfold Blk.beginPass
  repeat (first | assumption | with_reducible apply only_refl | (with_reducible apply Blk.onTwill_only <;> [decide; skip]) | (with_reducible apply Blk.startStripe_only <;> [decide; skip]) | with_reducible apply only_ite | split)

theorem Blk.beginPasses_only {m₀ : List Part} {b₀ : Blk} (b : Blk) (hm₀ : within [.free, .media, .twill, .tweed] m₀) (h₀ : Only m₀ b₀ b) : Only m₀ b₀ (Blk.beginPasses b) := by
  refine only_step (l := [.free, .media, .twill, .tweed]) ?_ hm₀ h₀
  unfold Blk.beginPasses
  repeat (first | assumption | with_reducible apply only_refl | (with_reducible apply Blk.beginPass_only <;> [decide; skip]) | (with_reducible refine only_foldl (fun c x hc => ?_) _ _ ?_))

theorem Blk.endPass_only {m₀ : List Part} {b₀ : Blk} (b : Blk) (r n : Nat) (x : Rotation) (e : RegionEntry) (hm₀ : within [.out, .od, .hA, .hB, .can, .lines, .twill, .gauze, .linen] m₀) (h₀ : Only m₀ b₀ b) : Only m₀ b₀ (Blk.endPass b r n x e) := by
  refine only_step (l := [.out, .od, .hA, .hB, .can, .lines, .twill, .gauze, .linen]) ?_ hm₀ h₀
  unfold Blk.endPass
  repeat (first | assumption | with_reducible apply only_refl | (with_reducible apply Blk.onTwill_only <;> [decide; skip]) | (with_reducible apply Blk.bump_only <;> [decide; skip]) | (with_reducible apply Blk.putRegion_only <;> [decide; skip]) | (with_reducible apply Blk.journalRec_only <;> [decide; skip]) | (with_reducible apply Blk.areaNew_only <;> [decide; skip]) | (with_reducible apply Blk.dropJob_only <;> [decide; skip]) | with_reducible apply only_ite | extract_lets | (dsimp +zetaDelta only))

theorem Blk.beginMigration_only {m₀ : List Part} {b₀ : Blk} (b : Blk) (r : Nat) (e : RegionEntry) (slot : Nat) (cold : Bool) (hm₀ : within [.out, .od, .hA, .hB, .muslin, .can, .dev, .lines, .media, .twill, .linen, .tweed, .modes] m₀) (h₀ : Only m₀ b₀ b) : Only m₀ b₀ (Blk.beginMigration b r e slot cold) := by
  refine only_step (l := [.out, .od, .hA, .hB, .muslin, .can, .dev, .lines, .media, .twill, .linen, .tweed, .modes]) ?_ hm₀ h₀
  unfold Blk.beginMigration
  repeat (first | assumption | with_reducible apply only_refl | (with_reducible apply Blk.onTwill_only <;> [decide; skip]) | (with_reducible apply Blk.setSlot_only <;> [decide; skip]) | (with_reducible apply Blk.putRegion_only <;> [decide; skip]) | (with_reducible apply Blk.lifeCheck_only <;> [decide; skip]) | (with_reducible apply Blk.journalRec_only <;> [decide; skip]) | (with_reducible apply Blk.resetSlot_only <;> [decide; skip]) | extract_lets | (dsimp +zetaDelta only))

theorem Blk.dropMigration_only {m₀ : List Part} {b₀ : Blk} (b : Blk) (r : Nat) (m : Migration) (e : RegionEntry) (hm₀ : within [.out, .od, .hA, .hB, .muslin, .can, .dev, .lines, .media, .twill, .linen, .tweed, .modes] m₀) (h₀ : Only m₀ b₀ b) : Only m₀ b₀ (Blk.dropMigration b r m e) := by
  refine only_step (l := [.out, .od, .hA, .hB, .muslin, .can, .dev, .lines, .media, .twill, .linen, .tweed, .modes]) ?_ hm₀ h₀
  unfold Blk.dropMigration
  repeat (first | assumption | with_reducible apply only_refl | (with_reducible apply onMedia_keep <;> [decide; (intro; exact ⟨rfl, rfl⟩); skip]) | (with_reducible apply Blk.onTwill_only <;> [decide; skip]) | (with_reducible apply Blk.putRegion_only <;> [decide; skip]) | (with_reducible apply Blk.freeSlot_only <;> [decide; skip]) | (with_reducible apply Blk.dropJob_only <;> [decide; skip]) | (with_reducible refine only_foldl (fun c x hc => ?_) _ _ ?_) | with_reducible apply only_ite | extract_lets | split | (dsimp +zetaDelta only))

theorem Blk.endMigration_only {m₀ : List Part} {b₀ : Blk} (b : Blk) (r : Nat) (m : Migration) (e : RegionEntry) (hm₀ : within [.out, .od, .hA, .hB, .muslin, .can, .dev, .lines, .media, .twill, .gauze, .linen, .tweed, .modes] m₀) (h₀ : Only m₀ b₀ b) : Only m₀ b₀ (Blk.endMigration b r m e) := by
  refine only_step (l := [.out, .od, .hA, .hB, .muslin, .can, .dev, .lines, .media, .twill, .gauze, .linen, .tweed, .modes]) ?_ hm₀ h₀
  unfold Blk.endMigration
  repeat (first | assumption | with_reducible apply only_refl | (with_reducible apply Blk.onTwill_only <;> [decide; skip]) | (with_reducible apply Blk.bump_only <;> [decide; skip]) | (with_reducible apply Blk.putRegion_only <;> [decide; skip]) | (with_reducible apply Blk.startDemotion_only <;> [decide; skip]) | (with_reducible apply Blk.journalRec_only <;> [decide; skip]) | (with_reducible apply Blk.areaNew_only <;> [decide; skip]) | (with_reducible apply Blk.giveUp_only <;> [decide; skip]) | (with_reducible refine only_foldl (fun c x hc => ?_) _ _ ?_) | with_reducible apply only_ite | extract_lets | (dsimp +zetaDelta only))

theorem Blk.dropBroken_only {m₀ : List Part} {b₀ : Blk} (b : Blk) (hm₀ : within [.out, .od, .hA, .hB, .muslin, .can, .dev, .lines, .media, .twill, .linen, .tweed, .modes] m₀) (h₀ : Only m₀ b₀ b) : Only m₀ b₀ (Blk.dropBroken b) := by
  refine only_step (l := [.out, .od, .hA, .hB, .muslin, .can, .dev, .lines, .media, .twill, .linen, .tweed, .modes]) ?_ hm₀ h₀
  unfold Blk.dropBroken
  repeat (first | assumption | with_reducible apply only_refl | (with_reducible apply Blk.dropMigration_only <;> [decide; skip]) | (with_reducible refine only_foldl (fun c x hc => ?_) _ _ ?_) | with_reducible apply only_ite | split)

theorem Blk.stepMoves_only {m₀ : List Part} {b₀ : Blk} (b : Blk) (hm₀ : within [.free, .out, .od, .hA, .hB, .muslin, .can, .dev, .lines, .media, .twill, .gauze, .damask, .linen, .tweed, .modes, .safety] m₀) (h₀ : Only m₀ b₀ b) : Only m₀ b₀ (Blk.stepMoves b) := by
  refine only_step (l := [.free, .out, .od, .hA, .hB, .muslin, .can, .dev, .lines, .media, .twill, .gauze, .damask, .linen, .tweed, .modes, .safety]) ?_ hm₀ h₀
  unfold Blk.stepMoves
  repeat (first | assumption | with_reducible apply only_refl | (with_reducible apply Blk.startGroups_only <;> [decide; skip]) | (with_reducible apply Blk.stepMove_only <;> [decide; skip]) | (with_reducible apply Blk.stepArea_only <;> [decide; skip]) | (with_reducible apply Blk.stepRebuild_only <;> [decide; skip]) | (with_reducible apply Blk.beginPasses_only <;> [decide; skip]) | (with_reducible apply Blk.dropBroken_only <;> [decide; skip]) | (with_reducible refine only_foldl (fun c x hc => ?_) _ _ ?_) | with_reducible apply only_ite | extract_lets | (dsimp +zetaDelta only))

theorem Blk.drive_only {m₀ : List Part} {b₀ : Blk} (b : Blk) (hm₀ : within [.free, .out, .od, .regs, .hA, .hB, .muslin, .can, .dev, .path, .lines, .poison, .media, .velvet, .twill, .gauze, .damask, .linen, .tweed, .modes, .safety] m₀) (h₀ : Only m₀ b₀ b) : Only m₀ b₀ (Blk.drive b) := by
  refine only_step (l := [.free, .out, .od, .regs, .hA, .hB, .muslin, .can, .dev, .path, .lines, .poison, .media, .velvet, .twill, .gauze, .damask, .linen, .tweed, .modes, .safety]) ?_ hm₀ h₀
  unfold Blk.drive
  repeat (first | assumption | with_reducible apply only_refl | (with_reducible apply Blk.issueRecords_only <;> [decide; skip]) | (with_reducible apply Blk.advanceJobs_only <;> [decide; skip]) | (with_reducible apply Blk.stepMoves_only <;> [decide; skip]) | with_reducible apply only_ite)

theorem Blk.cannotStore_only {m₀ : List Part} {b₀ : Blk} (b : Blk) (li : Nat) (hm₀ : within [.free, .out, .od, .hA, .hB, .can, .path, .poison, .media, .linen, .tweed, .modes] m₀) (h₀ : Only m₀ b₀ b) : Only m₀ b₀ (Blk.cannotStore b li) := by
  refine only_step (l := [.free, .out, .od, .hA, .hB, .can, .path, .poison, .media, .linen, .tweed, .modes]) ?_ hm₀ h₀
  unfold Blk.cannotStore
  repeat (first | assumption | with_reducible apply only_refl | (with_reducible apply Blk.onPath_only <;> [decide; skip]) | (with_reducible apply Blk.poisonLine_only <;> [decide; skip]) | with_reducible apply only_ite)

theorem Blk.countStall_only {m₀ : List Part} {b₀ : Blk} (b : Blk) (stall : Bool) (hm₀ : within [.od, .tweed] m₀) (h₀ : Only m₀ b₀ b) : Only m₀ b₀ (Blk.countStall b stall) := by
  refine only_step (l := [.od, .tweed]) ?_ hm₀ h₀
  unfold Blk.countStall
  repeat (first | assumption | with_reducible apply only_refl | (with_reducible apply Blk.bump_only <;> [decide; skip]) | (with_reducible apply Blk.tw_only <;> [decide; skip]) | with_reducible apply only_ite)

theorem Blk.coldBuffer_only {m₀ : List Part} {b₀ : Blk} (b0 : Blk) (n : Nat) (x : HBuf) (e : EgressErr) (hm₀ : within [.free, .out, .od, .hA, .hB, .can, .path, .lines, .poison, .media, .velvet, .twill, .damask, .linen, .tweed, .modes, .safety] m₀) (h₀ : Only m₀ b₀ b0) : Only m₀ b₀ (Blk.coldBuffer b0 n x e) := by
  refine only_step (l := [.free, .out, .od, .hA, .hB, .can, .path, .lines, .poison, .media, .velvet, .twill, .damask, .linen, .tweed, .modes, .safety]) ?_ hm₀ h₀
  unfold Blk.coldBuffer
  repeat (first | assumption | with_reducible apply only_refl | (with_reducible apply Blk.report_only <;> [decide; skip]) | (with_reducible apply Blk.bufferDone_only <;> [decide; skip]) | (with_reducible apply Blk.egress_only <;> [decide; skip]) | (with_reducible apply Blk.startCold_only <;> [decide; skip]) | (with_reducible apply Blk.cannotStore_only <;> [decide; skip]) | (with_reducible apply Blk.countStall_only <;> [decide; skip]) | with_reducible apply only_ite | extract_lets | split | (dsimp +zetaDelta only))

theorem Blk.coldThrough_only {m₀ : List Part} {b₀ : Blk} (b0 : Blk) (li : Nat) (e : EgressErr) (hm₀ : within [.free, .out, .od, .hA, .hB, .can, .path, .lines, .poison, .media, .twill, .damask, .linen, .tweed, .modes, .safety] m₀) (h₀ : Only m₀ b₀ b0) : Only m₀ b₀ (Blk.coldThrough b0 li e) := by
  refine only_step (l := [.free, .out, .od, .hA, .hB, .can, .path, .lines, .poison, .media, .twill, .damask, .linen, .tweed, .modes, .safety]) ?_ hm₀ h₀
  unfold Blk.coldThrough
  repeat (first | assumption | with_reducible apply only_refl | (with_reducible apply Blk.completeWrites_only <;> [decide; skip]) | (with_reducible apply Blk.egress_only <;> [decide; skip]) | (with_reducible apply Blk.throughAgain_only <;> [decide; skip]) | (with_reducible apply Blk.startCold_only <;> [decide; skip]) | (with_reducible apply Blk.cannotStore_only <;> [decide; skip]) | (with_reducible apply Blk.countStall_only <;> [decide; skip]) | with_reducible apply only_ite | extract_lets | split | (dsimp +zetaDelta only))

theorem Blk.keepWay_only {m₀ : List Part} {b₀ : Blk} (b : Blk) (li : Nat) (hm₀ : within [.twill] m₀) (h₀ : Only m₀ b₀ b) : Only m₀ b₀ (Blk.keepWay b li) := by
  refine only_step (l := [.twill]) ?_ hm₀ h₀
  unfold Blk.keepWay
  repeat (first | assumption | with_reducible apply only_refl | (with_reducible apply Blk.onTwill_only <;> [decide; skip]) | with_reducible apply only_ite | split)

theorem Blk.markUsed_only {m₀ : List Part} {b₀ : Blk} (b : Blk) (li : Nat) (hm₀ : within [.velvet] m₀) (h₀ : Only m₀ b₀ b) : Only m₀ b₀ (Blk.markUsed b li) := by
  refine only_step (l := [.velvet]) ?_ hm₀ h₀
  unfold Blk.markUsed
  repeat (first | assumption | with_reducible apply only_refl | (with_reducible apply Blk.putWay_only <;> [decide; skip]) | with_reducible apply only_ite | split)

theorem Blk.wasteCopy_only {m₀ : List Part} {b₀ : Blk} (b : Blk) (slot stripe : Nat) (hm₀ : within [.twill] m₀) (h₀ : Only m₀ b₀ b) : Only m₀ b₀ (Blk.wasteCopy b slot stripe) := by
  refine only_step (l := [.twill]) ?_ hm₀ h₀
  unfold Blk.wasteCopy
  repeat (first | assumption | with_reducible apply only_refl | (with_reducible apply Blk.onTwill_only <;> [decide; skip]) | extract_lets | (dsimp +zetaDelta only))

theorem Blk.applySwitch_only {m₀ : List Part} {b₀ : Blk} (b : Blk) (li : Nat) (why : ProgFor) (since : Nat) (hm₀ : within [.free, .out, .od, .hA, .hB, .can, .dev, .path, .lines, .poison, .media, .velvet, .twill, .gauze, .damask, .linen, .tweed, .modes, .safety] m₀) (h₀ : Only m₀ b₀ b) : Only m₀ b₀ (Blk.applySwitch b li why since) := by
  refine only_step (l := [.free, .out, .od, .hA, .hB, .can, .dev, .path, .lines, .poison, .media, .velvet, .twill, .gauze, .damask, .linen, .tweed, .modes, .safety]) ?_ hm₀ h₀
  unfold Blk.applySwitch
  repeat (first | assumption | with_reducible apply only_refl | (with_reducible apply Blk.setHot_only <;> [decide; skip]) | (with_reducible apply Blk.bufferDone_only <;> [decide; skip]) | (with_reducible apply Blk.throughDone_only <;> [decide; skip]) | (with_reducible apply Blk.dropJob_only <;> [decide; skip]) | (with_reducible apply Blk.jobEffect_only <;> [decide; skip]) | (with_reducible apply Blk.markUsed_only <;> [decide; skip]) | (with_reducible apply Blk.wasteCopy_only <;> [decide; skip]) | split)

theorem Blk.switchLine_only {m₀ : List Part} {b₀ : Blk} (b : Blk) (li : Nat) (why : ProgFor) (since : Nat) (hm₀ : within [.free, .out, .od, .hA, .hB, .can, .dev, .path, .lines, .poison, .media, .velvet, .twill, .gauze, .damask, .linen, .tweed, .modes, .safety] m₀) (h₀ : Only m₀ b₀ b) : Only m₀ b₀ (Blk.switchLine b li why since) := by
  refine only_step (l := [.free, .out, .od, .hA, .hB, .can, .dev, .path, .lines, .poison, .media, .velvet, .twill, .gauze, .damask, .linen, .tweed, .modes, .safety]) ?_ hm₀ h₀
  unfold Blk.switchLine
  repeat (first | assumption | with_reducible apply only_refl | (with_reducible apply onMedia_keep <;> [decide; (intro; exact ⟨rfl, rfl⟩); skip]) | (with_reducible apply Blk.applySwitch_only <;> [decide; skip]) | with_reducible apply only_ite)

theorem Blk.pumpSwitches_only {m₀ : List Part} {b₀ : Blk} (b : Blk) (hm₀ : within [.free, .out, .od, .hA, .hB, .can, .dev, .path, .lines, .poison, .media, .velvet, .twill, .gauze, .damask, .linen, .tweed, .modes, .safety] m₀) (h₀ : Only m₀ b₀ b) : Only m₀ b₀ (Blk.pumpSwitches b) := by
  refine only_step (l := [.free, .out, .od, .hA, .hB, .can, .dev, .path, .lines, .poison, .media, .velvet, .twill, .gauze, .damask, .linen, .tweed, .modes, .safety]) ?_ hm₀ h₀
  unfold Blk.pumpSwitches
  repeat (first | assumption | with_reducible apply only_refl | (with_reducible apply onMedia_keep <;> [decide; (intro; exact ⟨rfl, rfl⟩); skip]) | (with_reducible apply Blk.switchLine_only <;> [decide; skip]) | (with_reducible refine only_foldl (fun c x hc => ?_) _ _ ?_))

theorem Blk.hotWrite_only {m₀ : List Part} {b₀ : Blk} (b : Blk) (n : Nat) (x : HBuf) (lane : Nat) (l : Lane) (hm₀ : within [.free, .out, .od, .hA, .hB, .can, .dev, .path, .lines, .poison, .media, .velvet, .twill, .gauze, .damask, .linen, .tweed, .modes, .safety] m₀) (h₀ : Only m₀ b₀ b) : Only m₀ b₀ (Blk.hotWrite b n x lane l) := by
  refine only_step (l := [.free, .out, .od, .hA, .hB, .can, .dev, .path, .lines, .poison, .media, .velvet, .twill, .gauze, .damask, .linen, .tweed, .modes, .safety]) ?_ hm₀ h₀
  unfold Blk.hotWrite
  repeat (first | assumption | with_reducible apply only_refl | (with_reducible apply Blk.storeLine_only <;> [decide; skip]) | (with_reducible apply Blk.putBuf_only <;> [decide; skip]) | (with_reducible apply Blk.program_only <;> [decide; skip]) | (with_reducible apply Blk.closeFull_only <;> [decide; skip]) | (with_reducible apply Blk.takePosition_only <;> [decide; skip]) | (with_reducible apply Blk.keepWay_only <;> [decide; skip]) | (with_reducible apply Blk.switchLine_only <;> [decide; skip]) | with_reducible apply only_ite | extract_lets | (dsimp +zetaDelta only))

theorem Blk.closeAfter_only {m₀ : List Part} {b₀ : Blk} (b : Blk) (why : ProgFor) (hm₀ : within [.free, .out, .od, .hA, .hB, .can, .lines, .media, .twill, .linen, .tweed] m₀) (h₀ : Only m₀ b₀ b) : Only m₀ b₀ (b.closeAfter why) := by
  refine only_step (l := [.free, .out, .od, .hA, .hB, .can, .lines, .media, .twill, .linen, .tweed]) ?_ hm₀ h₀
  cases why <;> first | exact only_refl _ _ | (apply Blk.closeFull_only <;> [decide; exact only_refl _ _])

theorem Blk.programStored_only {m₀ : List Part} {b₀ : Blk} (b : Blk) (why : ProgFor) (since : Nat) (hm₀ : within [.free, .out, .od, .hA, .hB, .can, .dev, .path, .lines, .poison, .media, .velvet, .twill, .gauze, .damask, .linen, .tweed, .modes, .safety] m₀) (h₀ : Only m₀ b₀ b) : Only m₀ b₀ (Blk.programStored b why since) := by
  refine only_step (l := [.free, .out, .od, .hA, .hB, .can, .dev, .path, .lines, .poison, .media, .velvet, .twill, .gauze, .damask, .linen, .tweed, .modes, .safety]) ?_ hm₀ h₀
  unfold Blk.programStored
  extract_lets b1
  have h1 : Only [.free, .out, .od, .hA, .hB, .can, .dev, .path, .lines, .poison, .media, .velvet, .twill, .gauze, .damask, .linen, .tweed, .modes, .safety] b b1 := Blk.closeAfter_only _ _ (by decide) (only_refl _ _)
  generalize b1 = b2 at h1 ⊢
  repeat (first | assumption | with_reducible apply only_refl | (with_reducible apply onMedia_keep <;> [decide; (intro; exact ⟨rfl, rfl⟩); skip]) | (with_reducible apply Blk.recordStored_only <;> [decide; skip]) | (with_reducible apply Blk.onJob_only <;> [decide; skip]) | (with_reducible apply Blk.dropJob_only <;> [decide; skip]) | (with_reducible apply Blk.wasteCopy_only <;> [decide; skip]) | (with_reducible apply Blk.switchLine_only <;> [decide; skip]) | (with_reducible apply Blk.closeAfter_only <;> [decide; skip]) | split)

theorem Blk.closeFailed_only {m₀ : List Part} {b₀ : Blk} (b : Blk) (slot stripe : Nat) (hm₀ : within [.free, .out, .od, .hA, .hB, .can, .lines, .media, .twill, .linen, .tweed] m₀) (h₀ : Only m₀ b₀ b) : Only m₀ b₀ (Blk.closeFailed b slot stripe) := by
  refine only_step (l := [.free, .out, .od, .hA, .hB, .can, .lines, .media, .twill, .linen, .tweed]) ?_ hm₀ h₀
  unfold Blk.closeFailed
  repeat (first | assumption | with_reducible apply only_refl | (with_reducible apply Blk.onTwill_only <;> [decide; skip]) | (with_reducible apply Blk.closeStripe_only <;> [decide; skip]) | extract_lets | split | (dsimp +zetaDelta only))

theorem Blk.saveLine_only {m₀ : List Part} {b₀ : Blk} (b : Blk) (loc : Nat) (c : MLine) (hm₀ : within [.twill] m₀) (h₀ : Only m₀ b₀ b) : Only m₀ b₀ (Blk.saveLine b loc c) := by
  refine only_step (l := [.twill]) ?_ hm₀ h₀
  unfold Blk.saveLine
  repeat (first | assumption | with_reducible apply only_refl | (with_reducible apply Blk.newJob_only <;> [decide; skip]) | with_reducible apply only_ite | extract_lets | split | (dsimp +zetaDelta only))

theorem Blk.jobFailed_only {m₀ : List Part} {b₀ : Blk} (b : Blk) (j : Nat) (x : Mem) (loc : Nat) (c : MLine) (hm₀ : within [.free, .out, .od, .hA, .hB, .can, .path, .media, .velvet, .twill, .linen, .tweed] m₀) (h₀ : Only m₀ b₀ b) : Only m₀ b₀ (Blk.jobFailed b j x loc c) := by
  refine only_step (l := [.free, .out, .od, .hA, .hB, .can, .path, .media, .velvet, .twill, .linen, .tweed]) ?_ hm₀ h₀
  unfold Blk.jobFailed
  repeat (first | assumption | with_reducible apply only_refl | (with_reducible apply Blk.putBuf_only <;> [decide; skip]) | (with_reducible apply Blk.abandonDemotion_only <;> [decide; skip]) | (with_reducible apply Blk.onJob_only <;> [decide; skip]) | (with_reducible apply Blk.throughAgain_only <;> [decide; skip]) | (with_reducible apply Blk.leaveSlot_only <;> [decide; skip]) | (with_reducible apply Blk.saveLine_only <;> [decide; skip]) | with_reducible apply only_ite | extract_lets | split | (dsimp +zetaDelta only))

theorem Blk.retireLocation_only {m₀ : List Part} {b₀ : Blk} (b : Blk) (pid line : Nat) (c : MLine) (why : ProgFor) (hm₀ : within [.free, .out, .od, .hA, .hB, .muslin, .can, .dev, .path, .lines, .poison, .media, .velvet, .twill, .damask, .linen, .tweed, .modes, .safety] m₀) (h₀ : Only m₀ b₀ b) : Only m₀ b₀ (Blk.retireLocation b pid line c why) := by
  refine only_step (l := [.free, .out, .od, .hA, .hB, .muslin, .can, .dev, .path, .lines, .poison, .media, .velvet, .twill, .damask, .linen, .tweed, .modes, .safety]) ?_ hm₀ h₀
  unfold Blk.retireLocation
  repeat (first | assumption | with_reducible apply only_refl | (with_reducible apply onMedia_keep <;> [decide; (intro; exact ⟨rfl, rfl⟩); skip]) | (with_reducible apply Blk.onTwill_only <;> [decide; skip]) | (with_reducible apply Blk.reportUnit_only <;> [decide; skip]) | (with_reducible apply Blk.storeLine_only <;> [decide; skip]) | (with_reducible apply Blk.putBuf_only <;> [decide; skip]) | (with_reducible apply Blk.recordAgain_only <;> [decide; skip]) | (with_reducible apply Blk.onJob_only <;> [decide; skip]) | (with_reducible apply Blk.tileFailure_only <;> [decide; skip]) | (with_reducible apply Blk.throughAgain_only <;> [decide; skip]) | (with_reducible apply Blk.leaveSlot_only <;> [decide; skip]) | (with_reducible apply Blk.closeFailed_only <;> [decide; skip]) | (with_reducible apply Blk.jobFailed_only <;> [decide; skip]) | with_reducible apply only_ite | extract_lets | split | (dsimp +zetaDelta only))

theorem Blk.askVerify_only {m₀ : List Part} {b₀ : Blk} (b : Blk) (pid : Nat) (hm₀ : within [.media] m₀) (h₀ : Only m₀ b₀ b) : Only m₀ b₀ (Blk.askVerify b pid) := by
  refine only_step (l := [.media]) ?_ hm₀ h₀
  unfold Blk.askVerify
  repeat (first | assumption | with_reducible apply only_refl | (with_reducible apply Blk.onPart_only <;> [decide; skip]) | with_reducible apply only_ite | split)

theorem Blk.reprogram_only {m₀ : List Part} {b₀ : Blk} (b : Blk) (pid line : Nat) (c : MLine) (why : ProgFor) (ovw : Bool) (tries : Nat) (hm₀ : within [.free, .out, .od, .hA, .hB, .can, .media, .twill, .linen, .tweed] m₀) (h₀ : Only m₀ b₀ b) : Only m₀ b₀ (Blk.reprogram b pid line c why ovw tries) := by
  refine only_step (l := [.free, .out, .od, .hA, .hB, .can, .media, .twill, .linen, .tweed]) ?_ hm₀ h₀
  unfold Blk.reprogram
  repeat (first | assumption | with_reducible apply only_refl | (with_reducible apply Blk.tw_only <;> [decide; skip]) | (with_reducible apply Blk.twChan_only <;> [decide; skip]) | (with_reducible apply Blk.onPart_only <;> [decide; skip]) | (with_reducible apply Blk.countWrites_only <;> [decide; skip]) | (with_reducible apply Blk.sendProgram_only <;> [decide; skip]) | (with_reducible apply Blk.program_only <;> [decide; skip]) | with_reducible apply only_ite)

theorem Blk.verifyEnds_only {m₀ : List Part} {b₀ : Blk} (b : Blk) (pid : Nat) (same : Bool) (hm₀ : within [.free, .out, .od, .hA, .hB, .muslin, .can, .dev, .path, .lines, .poison, .media, .velvet, .twill, .gauze, .damask, .linen, .tweed, .modes, .safety] m₀) (h₀ : Only m₀ b₀ b) : Only m₀ b₀ (Blk.verifyEnds b pid same) := by
  refine only_step (l := [.free, .out, .od, .hA, .hB, .muslin, .can, .dev, .path, .lines, .poison, .media, .velvet, .twill, .gauze, .damask, .linen, .tweed, .modes, .safety]) ?_ hm₀ h₀
  unfold Blk.verifyEnds
  repeat (first | assumption | with_reducible apply only_refl | (with_reducible apply Blk.onPart_only <;> [decide; skip]) | (with_reducible apply Blk.programStored_only <;> [decide; skip]) | (with_reducible apply Blk.retireLocation_only <;> [decide; skip]) | (with_reducible apply Blk.reprogram_only <;> [decide; skip]) | with_reducible apply only_ite | split)

theorem Blk.programEnds_only {m₀ : List Part} {b₀ : Blk} (b0 : Blk) (pid : Nat) (ok : Bool) (hm₀ : within [.free, .out, .od, .hA, .hB, .muslin, .can, .dev, .path, .lines, .poison, .media, .velvet, .twill, .gauze, .damask, .linen, .tweed, .modes, .safety] m₀) (h₀ : Only m₀ b₀ b0) : Only m₀ b₀ (Blk.programEnds b0 pid ok) := by
  refine only_step (l := [.free, .out, .od, .hA, .hB, .muslin, .can, .dev, .path, .lines, .poison, .media, .velvet, .twill, .gauze, .damask, .linen, .tweed, .modes, .safety]) ?_ hm₀ h₀
  unfold Blk.programEnds
  repeat (first | assumption | with_reducible apply only_refl | (with_reducible apply onMedia_keep <;> [decide; (intro; exact ⟨rfl, rfl⟩); skip]) | (with_reducible apply Blk.bump_only <;> [decide; skip]) | (with_reducible apply Blk.dieBusy_only <;> [decide; skip]) | (with_reducible apply Blk.onPart_only <;> [decide; skip]) | (with_reducible apply Blk.storeLine_only <;> [decide; skip]) | (with_reducible apply Blk.program_only <;> [decide; skip]) | (with_reducible apply Blk.programStored_only <;> [decide; skip]) | (with_reducible apply Blk.retireLocation_only <;> [decide; skip]) | (with_reducible apply Blk.askVerify_only <;> [decide; skip]) | (with_reducible refine only_foldl (fun c x hc => ?_) _ _ ?_) | with_reducible apply only_ite | extract_lets | split | (dsimp +zetaDelta only))

theorem Blk.goOn_only {m₀ : List Part} {b₀ : Blk} (b : Blk) (d : Nat) (hm₀ : within [.free, .out, .od, .regs, .hA, .hB, .muslin, .can, .dev, .path, .lines, .poison, .media, .velvet, .twill, .gauze, .damask, .linen, .tweed, .modes, .safety] m₀) (h₀ : Only m₀ b₀ b) : Only m₀ b₀ (Blk.goOn b d) := by
  refine only_step (l := [.free, .out, .od, .regs, .hA, .hB, .muslin, .can, .dev, .path, .lines, .poison, .media, .velvet, .twill, .gauze, .damask, .linen, .tweed, .modes, .safety]) ?_ hm₀ h₀
  unfold Blk.goOn
  repeat (first | assumption | with_reducible apply only_refl | (with_reducible apply Blk.pump_only <;> [decide; skip]) | (with_reducible apply Blk.drive_only <;> [decide; skip]) | (with_reducible apply Blk.pumpSwitches_only <;> [decide; skip]))

theorem Blk.payOwed_only {m₀ : List Part} {b₀ : Blk} (b : Blk) (ch : Nat) (hm₀ : within [.free, .out, .od, .hA, .hB, .can, .media, .twill, .linen, .tweed] m₀) (h₀ : Only m₀ b₀ b) : Only m₀ b₀ (Blk.payOwed b ch) := by
  refine only_step (l := [.free, .out, .od, .hA, .hB, .can, .media, .twill, .linen, .tweed]) ?_ hm₀ h₀
  unfold Blk.payOwed
  repeat (first | assumption | with_reducible apply only_refl | (with_reducible apply onMedia_keep <;> [decide; (intro; exact ⟨rfl, rfl⟩); skip]) | (with_reducible apply Blk.program_only <;> [decide; skip]) | (with_reducible refine only_foldl (fun c x hc => ?_) _ _ ?_) | with_reducible apply only_ite | extract_lets | split | (dsimp +zetaDelta only))

theorem Blk.blankTiles_only {m₀ : List Part} {b₀ : Blk} (b : Blk) (pid tile count : Nat) (hm₀ : within [.lines, .media] m₀) (h₀ : Only m₀ b₀ b) : Only m₀ b₀ (Blk.blankTiles b pid tile count) := by
  refine only_step (l := [.lines, .media]) ?_ hm₀ h₀
  unfold Blk.blankTiles
  repeat (first | assumption | with_reducible apply only_refl | (with_reducible apply onMedia_filled <;> [decide; (intro; rfl); skip]) | (with_reducible apply onMedia_lines <;> [decide; (intro; exact ⟨rfl, rfl⟩); skip]) | extract_lets | (dsimp +zetaDelta only))

theorem Blk.retireTile_only {m₀ : List Part} {b₀ : Blk} (b : Blk) (key : Nat) (hm₀ : within [.twill] m₀) (h₀ : Only m₀ b₀ b) : Only m₀ b₀ (Blk.retireTile b key) := by
  refine only_step (l := [.twill]) ?_ hm₀ h₀
  unfold Blk.retireTile
  repeat (first | assumption | with_reducible apply only_refl | (with_reducible apply Blk.onTwill_only <;> [decide; skip]) | (with_reducible apply Blk.setSlot_only <;> [decide; skip]) | with_reducible apply only_ite)

theorem Blk.resetEnds_only {m₀ : List Part} {b₀ : Blk} (b : Blk) (pid : Nat) (ok : Bool) (hm₀ : within [.free, .out, .od, .hA, .hB, .muslin, .can, .dev, .path, .lines, .poison, .media, .twill, .damask, .linen, .tweed, .modes, .safety] m₀) (h₀ : Only m₀ b₀ b) : Only m₀ b₀ (Blk.resetEnds b pid ok) := by
  refine only_step (l := [.free, .out, .od, .hA, .hB, .muslin, .can, .dev, .path, .lines, .poison, .media, .twill, .damask, .linen, .tweed, .modes, .safety]) ?_ hm₀ h₀
  unfold Blk.resetEnds
  repeat (first | assumption | with_reducible apply only_refl | (with_reducible apply Blk.bump_only <;> [decide; skip]) | (with_reducible apply Blk.reportUnit_only <;> [decide; skip]) | (with_reducible apply Blk.dieBusy_only <;> [decide; skip]) | (with_reducible apply Blk.onPart_only <;> [decide; skip]) | (with_reducible apply Blk.resetOver_only <;> [decide; skip]) | (with_reducible apply Blk.tileFailure_only <;> [decide; skip]) | (with_reducible apply Blk.blankTiles_only <;> [decide; skip]) | (with_reducible apply Blk.retireTile_only <;> [decide; skip]) | with_reducible apply only_ite | extract_lets | split | (dsimp +zetaDelta only))

theorem Blk.makeWay_only {m₀ : List Part} {b₀ : Blk} (b : Blk) (pid : Nat) (hm₀ : within [.free, .out, .od, .hA, .hB, .can, .media, .twill, .linen, .tweed] m₀) (h₀ : Only m₀ b₀ b) : Only m₀ b₀ (Blk.makeWay b pid).1 := by
  refine only_step (l := [.free, .out, .od, .hA, .hB, .can, .media, .twill, .linen, .tweed]) ?_ hm₀ h₀
  unfold Blk.makeWay
  repeat (first | assumption | with_reducible apply only_refl | (with_reducible apply Blk.twChan_only <;> [decide; skip]) | (with_reducible apply Blk.onPart_only <;> [decide; skip]) | (with_reducible apply Blk.sendDie_only <;> [decide; skip]) | (with_reducible apply Blk.program_only <;> [decide; skip]) | with_reducible apply only_ite | extract_lets | split | with_reducible apply only_ite_fst | dsimp only | (dsimp +zetaDelta only))

theorem Blk.occupy_only {m₀ : List Part} {b₀ : Blk} (b : Blk) (pid line : Nat) (seq : BitVec 3) (t : Nat) (hm₀ : within [.free, .media] m₀) (h₀ : Only m₀ b₀ b) : Only m₀ b₀ (Blk.occupy b pid line seq t) := by
  refine only_step (l := [.free, .media]) ?_ hm₀ h₀
  unfold Blk.occupy
  repeat (first | assumption | with_reducible apply only_refl | (with_reducible apply onMedia_keep <;> [decide; (intro; exact ⟨rfl, rfl⟩); skip]) | (with_reducible apply Blk.useFree_only <;> [decide; skip]) | with_reducible apply only_ite | extract_lets | split | (dsimp +zetaDelta only))

theorem Blk.issue_only {m₀ : List Part} {b₀ : Blk} (b : Blk) (pid : Nat) (t : ReadTask) (hm₀ : within [.free, .out, .od, .hA, .hB, .can, .path, .media, .twill, .gauze, .linen, .tweed] m₀) (h₀ : Only m₀ b₀ b) : Only m₀ b₀ (Blk.issue b pid t) := by
  refine only_step (l := [.free, .out, .od, .hA, .hB, .can, .path, .media, .twill, .gauze, .linen, .tweed]) ?_ hm₀ h₀
  unfold Blk.issue
  repeat (first | assumption | with_reducible apply only_refl | (with_reducible apply Blk.tw_only <;> [decide; skip]) | (with_reducible apply Blk.twChan_only <;> [decide; skip]) | (with_reducible apply Blk.twDie_only <;> [decide; skip]) | (with_reducible apply Blk.dieBusy_only <;> [decide; skip]) | (with_reducible apply Blk.onPart_only <;> [decide; skip]) | (with_reducible apply Blk.onAcc_only <;> [decide; skip]) | (with_reducible apply Blk.sendDie_only <;> [decide; skip]) | (with_reducible apply Blk.program_only <;> [decide; skip]) | (with_reducible apply Blk.openCells_only <;> [decide; skip]) | (with_reducible apply Blk.makeWay_only <;> [decide; skip]) | (with_reducible apply Blk.occupy_only <;> [decide; skip]) | with_reducible apply only_ite | extract_lets | split | (dsimp +zetaDelta only))

theorem Blk.sendMargin_only {m₀ : List Part} {b₀ : Blk} (b : Blk) (pid : Nat) (x : Margin) (hm₀ : within [.free, .out, .media, .tweed] m₀) (h₀ : Only m₀ b₀ b) : Only m₀ b₀ (Blk.sendMargin b pid x) := by
  refine only_step (l := [.free, .out, .media, .tweed]) ?_ hm₀ h₀
  unfold Blk.sendMargin
  repeat (first | assumption | with_reducible apply only_refl | (with_reducible apply Blk.dieBusy_only <;> [decide; skip]) | (with_reducible apply Blk.onPart_only <;> [decide; skip]) | (with_reducible apply Blk.sendDie_only <;> [decide; skip]) | (with_reducible apply Blk.occupy_only <;> [decide; skip]) | extract_lets | (dsimp +zetaDelta only))

theorem Blk.marginOn_only {m₀ : List Part} {b₀ : Blk} (b : Blk) (pid : Nat) (hm₀ : within [.free, .out, .media, .gauze, .tweed] m₀) (h₀ : Only m₀ b₀ b) : Only m₀ b₀ (Blk.marginOn b pid) := by
  refine only_step (l := [.free, .out, .media, .gauze, .tweed]) ?_ hm₀ h₀
  unfold Blk.marginOn
  repeat (first | assumption | with_reducible apply only_refl | (with_reducible apply Blk.openCells_only <;> [decide; skip]) | (with_reducible apply Blk.sendMargin_only <;> [decide; skip]) | with_reducible apply only_ite | extract_lets | split | (dsimp +zetaDelta only))

theorem Blk.openOwn_only {m₀ : List Part} {b₀ : Blk} (b : Blk) (rid : Nat) (a : Acc) (p : Place) (e : DpErr) (hm₀ : within [.free, .out, .od, .hA, .hB, .can, .path, .media, .velvet, .linen, .tweed, .modes, .safety] m₀) (h₀ : Only m₀ b₀ b) : Only m₀ b₀ (Blk.openOwn b rid a p e) := by
  refine only_step (l := [.free, .out, .od, .hA, .hB, .can, .path, .media, .velvet, .linen, .tweed, .modes, .safety]) ?_ hm₀ h₀
  unfold Blk.openOwn
  repeat (first | assumption | with_reducible apply only_refl | (with_reducible apply Blk.onAcc_only <;> [decide; skip]) | (with_reducible apply Blk.lineData_only <;> [decide; skip]) | (with_reducible apply Blk.reconOnce_only <;> [decide; skip]) | with_reducible apply only_ite | split)

theorem Blk.resumeHeld_only {m₀ : List Part} {b₀ : Blk} (b : Blk) (x : Acc) (e : DpErr) (hm₀ : within [.free, .out, .od, .hA, .hB, .can, .path, .lines, .media, .velvet, .twill, .damask, .linen, .tweed, .modes, .safety] m₀) (h₀ : Only m₀ b₀ b) : Only m₀ b₀ (Blk.resumeHeld b x e) := by
  refine only_step (l := [.free, .out, .od, .hA, .hB, .can, .path, .lines, .media, .velvet, .twill, .damask, .linen, .tweed, .modes, .safety]) ?_ hm₀ h₀
  unfold Blk.resumeHeld
  repeat (first | assumption | with_reducible apply only_refl | (with_reducible apply Blk.onAcc_only <;> [decide; skip]) | (with_reducible apply Blk.lineData_only <;> [decide; skip]) | (with_reducible apply Blk.startRead_only <;> [decide; skip]) | (with_reducible apply Blk.openOwn_only <;> [decide; skip]) | with_reducible apply only_ite | split)

theorem Blk.tagArrives_only {m₀ : List Part} {b₀ : Blk} (b : Blk) (ti : Nat) (hm₀ : within [.free, .out, .od, .hA, .hB, .can, .path, .lines, .media, .velvet, .twill, .damask, .linen, .tweed, .modes, .safety] m₀) (h₀ : Only m₀ b₀ b) : Only m₀ b₀ (Blk.tagArrives b ti) := by
  refine only_step (l := [.free, .out, .od, .hA, .hB, .can, .path, .lines, .media, .velvet, .twill, .damask, .linen, .tweed, .modes, .safety]) ?_ hm₀ h₀
  unfold Blk.tagArrives
  repeat (first | assumption | with_reducible apply only_refl | (with_reducible apply Blk.onAcc_only <;> [decide; skip]) | (with_reducible apply Blk.resumeHeld_only <;> [decide; skip]) | (with_reducible refine only_foldl (fun c x hc => ?_) _ _ ?_) | extract_lets | split | (dsimp +zetaDelta only))

theorem Blk.settleTag_only {m₀ : List Part} {b₀ : Blk} (b : Blk) (rid : Nat) (hm₀ : within [.free, .out, .od, .hA, .hB, .can, .path, .lines, .media, .velvet, .twill, .damask, .linen, .tweed, .modes, .safety] m₀) (h₀ : Only m₀ b₀ b) : Only m₀ b₀ (Blk.settleTag b rid) := by
  refine only_step (l := [.free, .out, .od, .hA, .hB, .can, .path, .lines, .media, .velvet, .twill, .damask, .linen, .tweed, .modes, .safety]) ?_ hm₀ h₀
  unfold Blk.settleTag
  repeat (first | assumption | with_reducible apply only_refl | (with_reducible apply Blk.onAcc_only <;> [decide; skip]) | (with_reducible apply Blk.startDeep_only <;> [decide; skip]) | (with_reducible apply Blk.tagArrives_only <;> [decide; skip]) | (with_reducible refine only_foldl (fun c x hc => ?_) _ _ ?_) | with_reducible apply only_ite | split)

theorem Blk.settleLists_only {m₀ : List Part} {b₀ : Blk} (b : Blk) (hm₀ : within [.free, .out, .od, .hA, .hB, .can, .path, .lines, .media, .velvet, .twill, .damask, .linen, .tweed, .modes, .safety] m₀) (h₀ : Only m₀ b₀ b) : Only m₀ b₀ (Blk.settleLists b) := by
  refine only_step (l := [.free, .out, .od, .hA, .hB, .can, .path, .lines, .media, .velvet, .twill, .damask, .linen, .tweed, .modes, .safety]) ?_ hm₀ h₀
  unfold Blk.settleLists
  repeat (first | assumption | with_reducible apply only_refl | (with_reducible apply Blk.onAcc_only <;> [decide; skip]) | (with_reducible apply Blk.resumeHeld_only <;> [decide; skip]) | (with_reducible refine only_foldl (fun c x hc => ?_) _ _ ?_) | split)

theorem Blk.settleTags_only {m₀ : List Part} {b₀ : Blk} (b : Blk) (hm₀ : within [.free, .out, .od, .hA, .hB, .can, .path, .lines, .media, .velvet, .twill, .damask, .linen, .tweed, .modes, .safety] m₀) (h₀ : Only m₀ b₀ b) : Only m₀ b₀ (Blk.settleTags b) := by
  refine only_step (l := [.free, .out, .od, .hA, .hB, .can, .path, .lines, .media, .velvet, .twill, .damask, .linen, .tweed, .modes, .safety]) ?_ hm₀ h₀
  unfold Blk.settleTags
  repeat (first | assumption | with_reducible apply only_refl | (with_reducible apply Blk.settleTag_only <;> [decide; skip]) | (with_reducible apply Blk.settleLists_only <;> [decide; skip]) | (with_reducible refine only_foldl (fun c x hc => ?_) _ _ ?_))

theorem Blk.readOn_only {m₀ : List Part} {b₀ : Blk} (b : Blk) (d : Nat) (hm₀ : within [.free, .out, .od, .regs, .hA, .hB, .muslin, .can, .dev, .path, .lines, .poison, .media, .velvet, .twill, .gauze, .damask, .linen, .tweed, .modes, .safety] m₀) (h₀ : Only m₀ b₀ b) : Only m₀ b₀ (Blk.readOn b d) := by
  refine only_step (l := [.free, .out, .od, .regs, .hA, .hB, .muslin, .can, .dev, .path, .lines, .poison, .media, .velvet, .twill, .gauze, .damask, .linen, .tweed, .modes, .safety]) ?_ hm₀ h₀
  unfold Blk.readOn
  repeat (first | assumption | with_reducible apply only_refl | (with_reducible apply Blk.askVerify_only <;> [decide; skip]) | (with_reducible apply Blk.goOn_only <;> [decide; skip]) | (with_reducible apply Blk.marginOn_only <;> [decide; skip]) | (with_reducible apply Blk.settleTags_only <;> [decide; skip]) | (with_reducible refine only_foldl (fun c x hc => ?_) _ _ ?_))

theorem Blk.fromBuffer_only {m₀ : List Part} {b₀ : Blk} (b : Blk) (t : ReadTask) (hm₀ : within [.free, .out, .od, .hA, .hB, .can, .path, .lines, .media, .velvet, .twill, .damask, .linen, .tweed, .modes, .safety] m₀) (h₀ : Only m₀ b₀ b) : Only m₀ b₀ (Blk.fromBuffer b t) := by
  refine only_step (l := [.free, .out, .od, .hA, .hB, .can, .path, .lines, .media, .velvet, .twill, .damask, .linen, .tweed, .modes, .safety]) ?_ hm₀ h₀
  unfold Blk.fromBuffer
  repeat (first | assumption | with_reducible apply only_refl | (with_reducible apply Blk.onAcc_only <;> [decide; skip]) | (with_reducible apply Blk.lineData_only <;> [decide; skip]) | (with_reducible apply Blk.startRead_only <;> [decide; skip]) | (with_reducible apply Blk.jobRead_only <;> [decide; skip]) | (with_reducible apply Blk.openOwn_only <;> [decide; skip]) | (with_reducible apply Blk.tagArrives_only <;> [decide; skip]) | with_reducible apply only_ite | split)

theorem Blk.replaysExhausted_only {m₀ : List Part} {b₀ : Blk} (b : Blk) (ch : Nat) (hm₀ : within [.out, .od, .hA, .hB, .can, .media, .linen] m₀) (h₀ : Only m₀ b₀ b) : Only m₀ b₀ (Blk.replaysExhausted b ch) := by
  refine only_step (l := [.out, .od, .hA, .hB, .can, .media, .linen]) ?_ hm₀ h₀
  unfold Blk.replaysExhausted
  repeat (first | assumption | with_reducible apply only_refl | (with_reducible apply Blk.bump_only <;> [decide; skip]) | (with_reducible apply Blk.onChan_only <;> [decide; skip]) | (with_reducible apply Blk.reportUnit_only <;> [decide; skip]) | extract_lets | (dsimp +zetaDelta only))

theorem Blk.besideReplay_only {m₀ : List Part} {b₀ : Blk} (b : Blk) (t : ReadTask) (hm₀ : within [.free, .out, .od, .hA, .hB, .can, .path, .lines, .media, .twill, .damask, .linen, .tweed] m₀) (h₀ : Only m₀ b₀ b) : Only m₀ b₀ (Blk.besideReplay b t) := by
  refine only_step (l := [.free, .out, .od, .hA, .hB, .can, .path, .lines, .media, .twill, .damask, .linen, .tweed]) ?_ hm₀ h₀
  unfold Blk.besideReplay
  repeat (first | assumption | with_reducible apply only_refl | (with_reducible apply Blk.tagRecon_only <;> [decide; skip]) | (with_reducible apply Blk.reconOnce_only <;> [decide; skip]) | split)

theorem Blk.readLost_only {m₀ : List Part} {b₀ : Blk} (b : Blk) (t : ReadTask) (hm₀ : within [.free, .out, .od, .hA, .hB, .muslin, .can, .dev, .path, .lines, .poison, .media, .velvet, .twill, .gauze, .damask, .linen, .tweed, .modes, .safety] m₀) (h₀ : Only m₀ b₀ b) : Only m₀ b₀ (Blk.readLost b t) := by
  refine only_step (l := [.free, .out, .od, .hA, .hB, .muslin, .can, .dev, .path, .lines, .poison, .media, .velvet, .twill, .gauze, .damask, .linen, .tweed, .modes, .safety]) ?_ hm₀ h₀
  unfold Blk.readLost
  repeat (first | assumption | with_reducible apply only_refl | (with_reducible apply Blk.onAcc_only <;> [decide; skip]) | (with_reducible apply Blk.tagRecon_only <;> [decide; skip]) | (with_reducible apply Blk.erase_only <;> [decide; skip]) | (with_reducible apply Blk.reconOnce_only <;> [decide; skip]) | (with_reducible apply Blk.jobRead_only <;> [decide; skip]) | (with_reducible apply Blk.verifyEnds_only <;> [decide; skip]) | split)

theorem Blk.transferFailed_only {m₀ : List Part} {b₀ : Blk} (b : Blk) (pid : Nat) (t : ReadTask) (strobe : Bool) (hm₀ : within [.free, .out, .od, .hA, .hB, .muslin, .can, .dev, .path, .lines, .poison, .media, .velvet, .twill, .gauze, .damask, .linen, .tweed, .modes, .safety] m₀) (h₀ : Only m₀ b₀ b) : Only m₀ b₀ (Blk.transferFailed b pid t strobe) := by
  refine only_step (l := [.free, .out, .od, .hA, .hB, .muslin, .can, .dev, .path, .lines, .poison, .media, .velvet, .twill, .gauze, .damask, .linen, .tweed, .modes, .safety]) ?_ hm₀ h₀
  unfold Blk.transferFailed
  repeat (first | assumption | with_reducible apply only_refl | (with_reducible apply Blk.bump_only <;> [decide; skip]) | (with_reducible apply Blk.twChan_only <;> [decide; skip]) | (with_reducible apply Blk.onPart_only <;> [decide; skip]) | (with_reducible apply Blk.sendDie_only <;> [decide; skip]) | (with_reducible apply Blk.replaysExhausted_only <;> [decide; skip]) | (with_reducible apply Blk.besideReplay_only <;> [decide; skip]) | (with_reducible apply Blk.readLost_only <;> [decide; skip]) | with_reducible apply only_ite | extract_lets | (dsimp +zetaDelta only))

theorem Blk.hardFailure_only {m₀ : List Part} {b₀ : Blk} (b : Blk) (d area : Nat) (hm₀ : within [.od, .gauze, .tweed] m₀) (h₀ : Only m₀ b₀ b) : Only m₀ b₀ (Blk.hardFailure b d area) := by
  refine only_step (l := [.od, .gauze, .tweed]) ?_ hm₀ h₀
  unfold Blk.hardFailure
  repeat (first | assumption | with_reducible apply only_refl | (with_reducible apply Blk.bump_only <;> [decide; skip]) | (with_reducible apply Blk.twDie_only <;> [decide; skip]) | (with_reducible apply Blk.weakCount_only <;> [decide; skip]))

theorem Blk.weakLine_only {m₀ : List Part} {b₀ : Blk} (b : Blk) (d : Nat) (x : Mem) (hm₀ : within [.od, .media, .gauze, .tweed] m₀) (h₀ : Only m₀ b₀ b) : Only m₀ b₀ (Blk.weakLine b d x) := by
  refine only_step (l := [.od, .media, .gauze, .tweed]) ?_ hm₀ h₀
  unfold Blk.weakLine
  repeat (first | assumption | with_reducible apply only_refl | (with_reducible apply Blk.bump_only <;> [decide; skip]) | (with_reducible apply Blk.tw_only <;> [decide; skip]) | (with_reducible apply Blk.twDie_only <;> [decide; skip]) | (with_reducible apply Blk.weakCount_only <;> [decide; skip]) | (with_reducible apply Blk.queueWeak_only <;> [decide; skip]))

theorem Blk.checkLine_only {m₀ : List Part} {b₀ : Blk} (b : Blk) (t : ReadTask) (x : Xfer) (hm₀ : within [.free, .out, .od, .hA, .hB, .can, .media, .gauze, .linen, .tweed] m₀) (h₀ : Only m₀ b₀ b) : Only m₀ b₀ (Blk.checkLine b t x).1 := by
  refine only_step (l := [.free, .out, .od, .hA, .hB, .can, .media, .gauze, .linen, .tweed]) ?_ hm₀ h₀
  unfold Blk.checkLine
  repeat (first | assumption | with_reducible apply only_refl | (with_reducible apply Blk.bump_only <;> [decide; skip]) | (with_reducible apply Blk.reportUnit_only <;> [decide; skip]) | (with_reducible apply Blk.twChan_only <;> [decide; skip]) | (with_reducible apply Blk.gauge_only <;> [decide; skip]) | (with_reducible apply Blk.hardFailure_only <;> [decide; skip]) | (with_reducible apply Blk.weakLine_only <;> [decide; skip]) | with_reducible apply only_ite | extract_lets | split | with_reducible apply only_ite_fst | dsimp only | (dsimp +zetaDelta only))

theorem Blk.lineRead_only {m₀ : List Part} {b₀ : Blk} (b : Blk) (t : ReadTask) (e : DpErr) (hm₀ : within [.free, .out, .od, .hA, .hB, .muslin, .can, .dev, .path, .lines, .poison, .media, .velvet, .twill, .gauze, .damask, .linen, .tweed, .modes, .safety] m₀) (h₀ : Only m₀ b₀ b) : Only m₀ b₀ (Blk.lineRead b t e) := by
  refine only_step (l := [.free, .out, .od, .hA, .hB, .muslin, .can, .dev, .path, .lines, .poison, .media, .velvet, .twill, .gauze, .damask, .linen, .tweed, .modes, .safety]) ?_ hm₀ h₀
  unfold Blk.lineRead
  repeat (first | assumption | with_reducible apply only_refl | (with_reducible apply Blk.onAcc_only <;> [decide; skip]) | (with_reducible apply Blk.startRead_only <;> [decide; skip]) | (with_reducible apply Blk.jobRead_only <;> [decide; skip]) | (with_reducible apply Blk.verifyEnds_only <;> [decide; skip]) | (with_reducible apply Blk.openOwn_only <;> [decide; skip]) | (with_reducible apply Blk.tagArrives_only <;> [decide; skip]) | split)

theorem Blk.transferred_only {m₀ : List Part} {b₀ : Blk} (b : Blk) (t : ReadTask) (x : Xfer) (hm₀ : within [.free, .out, .od, .hA, .hB, .muslin, .can, .dev, .path, .lines, .poison, .media, .velvet, .twill, .gauze, .damask, .linen, .tweed, .modes, .safety] m₀) (h₀ : Only m₀ b₀ b) : Only m₀ b₀ (Blk.transferred b t x) := by
  refine only_step (l := [.free, .out, .od, .hA, .hB, .muslin, .can, .dev, .path, .lines, .poison, .media, .velvet, .twill, .gauze, .damask, .linen, .tweed, .modes, .safety]) ?_ hm₀ h₀
  unfold Blk.transferred
  repeat (first | assumption | with_reducible apply only_refl | (with_reducible apply Blk.startRead_only <;> [decide; skip]) | (with_reducible apply Blk.readLost_only <;> [decide; skip]) | (with_reducible apply Blk.checkLine_only <;> [decide; skip]) | (with_reducible apply Blk.lineRead_only <;> [decide; skip]) | with_reducible apply only_ite | extract_lets | split | (dsimp +zetaDelta only))

theorem Blk.phaseSeen_only {m₀ : List Part} {b₀ : Blk} (b : Blk) (d : Nat) (x : Xfer) (hm₀ : within [.media] m₀) (h₀ : Only m₀ b₀ b) : Only m₀ b₀ (Blk.phaseSeen b d x) := by
  refine only_step (l := [.media]) ?_ hm₀ h₀
  unfold Blk.phaseSeen
  repeat (first | assumption | with_reducible apply only_refl | (with_reducible apply Blk.onDie_only <;> [decide; skip]) | with_reducible apply only_ite)

theorem Blk.softRead_only {m₀ : List Part} {b₀ : Blk} (b : Blk) (loc : Nat) (hm₀ : within [.path] m₀) (h₀ : Only m₀ b₀ b) : Only m₀ b₀ (Blk.softRead b loc) := by
  refine only_step (l := [.path]) ?_ hm₀ h₀
  unfold Blk.softRead
  repeat (first | assumption | with_reducible apply only_refl | (with_reducible apply Blk.onPath_only <;> [decide; skip]) | with_reducible apply only_ite | split)

theorem Blk.marginTransfer_only {m₀ : List Part} {b₀ : Blk} (b0 : Blk) (pid : Nat) (x : Xfer) (hm₀ : within [.free, .out, .od, .hA, .hB, .can, .path, .media, .gauze, .linen, .tweed, .thermal, .modes] m₀) (h₀ : Only m₀ b₀ b0) : Only m₀ b₀ (Blk.marginTransfer b0 pid x) := by
  refine only_step (l := [.free, .out, .od, .hA, .hB, .can, .path, .media, .gauze, .linen, .tweed, .thermal, .modes]) ?_ hm₀ h₀
  unfold Blk.marginTransfer
  repeat (first | assumption | with_reducible apply only_refl | (with_reducible apply Blk.onPart_only <;> [decide; skip]) | (with_reducible apply Blk.dieStatus_only <;> [decide; skip]) | (with_reducible apply Blk.checkLine_only <;> [decide; skip]) | (with_reducible apply Blk.phaseSeen_only <;> [decide; skip]) | (with_reducible apply Blk.softRead_only <;> [decide; skip]) | with_reducible apply only_ite | extract_lets | split | (dsimp +zetaDelta only))

theorem Blk.deadlineList_only {m₀ : List Part} {b₀ : Blk} (b : Blk) (d : Deep) (hm₀ : within [.free, .out, .od, .hA, .hB, .can, .path, .poison, .media, .linen, .tweed, .modes] m₀) (h₀ : Only m₀ b₀ b) : Only m₀ b₀ (Blk.deadlineList b d) := by
  refine only_step (l := [.free, .out, .od, .hA, .hB, .can, .path, .poison, .media, .linen, .tweed, .modes]) ?_ hm₀ h₀
  unfold Blk.deadlineList
  repeat (first | assumption | with_reducible apply only_refl | (with_reducible apply Blk.onPath_only <;> [decide; skip]) | (with_reducible apply Blk.poisonRest_only <;> [decide; skip]) | with_reducible apply only_ite)

theorem Blk.deepJobs_only {m₀ : List Part} {b₀ : Blk} (b : Blk) (li : Nat) (f : Job → Job) (hm₀ : within [.twill] m₀) (h₀ : Only m₀ b₀ b) : Only m₀ b₀ (Blk.deepJobs b li f) := by
  refine only_step (l := [.twill]) ?_ hm₀ h₀
  unfold Blk.deepJobs
  repeat (first | assumption | with_reducible apply only_refl | (with_reducible apply Blk.onTwill_only <;> [decide; skip]) | with_reducible apply only_ite)

theorem Blk.writeBack_only {m₀ : List Part} {b₀ : Blk} (b : Blk) (li : Nat) (line : Line) (hm₀ : within [.velvet] m₀) (h₀ : Only m₀ b₀ b) : Only m₀ b₀ (Blk.writeBack b li line) := by
  refine only_step (l := [.velvet]) ?_ hm₀ h₀
  unfold Blk.writeBack
  repeat (first | assumption | with_reducible apply only_refl | (with_reducible apply Blk.putWay_only <;> [decide; skip]) | (with_reducible apply Blk.putBuf_only <;> [decide; skip]) | with_reducible apply only_ite | split)

theorem Blk.unlistRecovered_only {m₀ : List Part} {b₀ : Blk} (b : Blk) (key : Nat) (was : Bool) (hm₀ : within [.out, .od, .hA, .hB, .can, .poison, .media, .linen] m₀) (h₀ : Only m₀ b₀ b) : Only m₀ b₀ (Blk.unlistRecovered b key was) := by
  refine only_step (l := [.out, .od, .hA, .hB, .can, .poison, .media, .linen]) ?_ hm₀ h₀
  unfold Blk.unlistRecovered
  repeat (first | assumption | with_reducible apply only_refl | (with_reducible apply Blk.unlistHalf_only <;> [decide; skip]) | with_reducible apply only_ite)

end Sys2Proof.Machine
end

