-- ==== Sys2Proof/Laws/FrameState.lean ====
section
/-! SUPPORT. What the operations over the dictionary, the store, the regions, the policies and the modes may change: one lemma for each. -/

set_option linter.all false
set_option Elab.async false

namespace Sys2Proof.Machine

open Sys2Proof.Safety

theorem Blk.odSetFor_only {m₀ : List Part} {b₀ : Blk} (b : Blk) (t idx sub v : Nat) (hm₀ : within [.od] m₀) (h₀ : Only m₀ b₀ b) : Only m₀ b₀ (Blk.odSetFor b t idx sub v) := by
  refine only_step (l := [.od]) ?_ hm₀ h₀
  unfold Blk.odSetFor
  repeat (first | assumption | with_reducible apply only_refl | (with_reducible apply Blk.odSet_only <;> [decide; skip]) | with_reducible apply only_ite | (refine ⟨fun p hp => ?_⟩; cases p <;> first | rfl | exact absurd (by decide) hp))

theorem Blk.touch_only {m₀ : List Part} {b₀ : Blk} (b : Blk) (src : Src) (hm₀ : within [.sesA, .sesB, .sesC] m₀) (h₀ : Only m₀ b₀ b) : Only m₀ b₀ (Blk.touch b src) := by
  refine only_step (l := [.sesA, .sesB, .sesC]) ?_ hm₀ h₀
  unfold Blk.touch
  repeat (first | assumption | with_reducible apply only_refl | (with_reducible apply Blk.onSession_only <;> [decide; skip]) | with_reducible apply only_ite)

theorem Blk.newNonce_only {m₀ : List Part} {b₀ : Blk} (b : Blk) (hm₀ : within [.rng, .can] m₀) (h₀ : Only m₀ b₀ b) : Only m₀ b₀ (Blk.newNonce b) := by
  refine only_step (l := [.rng, .can]) ?_ hm₀ h₀
  unfold Blk.newNonce
  repeat (first | assumption | with_reducible apply only_refl | (with_reducible apply Blk.draw_only <;> [decide; skip]) | (refine ⟨fun p hp => ?_⟩; cases p <;> first | rfl | exact absurd (by decide) hp))

theorem Blk.macFailed_only {m₀ : List Part} {b₀ : Blk} (b : Blk) (hm₀ : within [.out, .od, .hA, .hB, .can, .linen] m₀) (h₀ : Only m₀ b₀ b) : Only m₀ b₀ (Blk.macFailed b) := by
  refine only_step (l := [.out, .od, .hA, .hB, .can, .linen]) ?_ hm₀ h₀
  unfold Blk.macFailed
  repeat (first | assumption | with_reducible apply only_refl | (with_reducible apply Blk.onCan_only <;> [decide; skip]) | (with_reducible apply Blk.bump_only <;> [decide; skip]) | (with_reducible apply Blk.report_only <;> [decide; skip]) | with_reducible apply only_ite | extract_lets | split | (refine ⟨fun p hp => ?_⟩; cases p <;> first | rfl | exact absurd (by decide) hp) | (dsimp +zetaDelta only))

theorem Blk.withMac_only {m₀ : List Part} {b₀ : Blk} (b : Blk) (ctr : BitVec 32) (mac : BitVec 64) (op : Nat) (bytes : List Byte) (f : Blk → Blk) (hm₀ : within [.rng, .out, .od, .hA, .hB, .can, .linen] m₀) (hf : ∀ c, Only m₀ b₀ c → Only m₀ b₀ (f c)) (h₀ : Only m₀ b₀ b) : Only m₀ b₀ (Blk.withMac b ctr mac op bytes f) := by
  unfold Blk.withMac
  repeat (first | assumption | (with_reducible apply Blk.onCan_only <;> [(refine within_trans ?_ hm₀; decide); skip]) | (with_reducible apply Blk.newNonce_only <;> [(refine within_trans ?_ hm₀; decide); skip]) | (with_reducible apply Blk.macFailed_only <;> [(refine within_trans ?_ hm₀; decide); skip]) | (with_reducible apply hf) | (with_reducible apply only_ite) | extract_lets | split | (intro c hc) | (refine ⟨fun p hp => same_trans (h₀.same p hp) ?_⟩; cases p <;> first | rfl | exact absurd (by (first | assumption | (refine List.contains_iff_mem.1 (List.all_eq_true.1 hm₀ _ (by decide))))) hp))

theorem Blk.canStatus_only {m₀ : List Part} {b₀ : Blk} (b : Blk) (tr : BitVec 8) (q : DReq) (st : Nat) (hm₀ : within [.out] m₀) (h₀ : Only m₀ b₀ b) : Only m₀ b₀ (Blk.canStatus b tr q st) := by
  refine only_step (l := [.out]) ?_ hm₀ h₀
  unfold Blk.canStatus
  repeat (first | assumption | with_reducible apply only_refl | (with_reducible apply Blk.canSend_only <;> [decide; skip]))

theorem Blk.canAdmit_only {m₀ : List Part} {b₀ : Blk} (b : Blk) (tr : BitVec 8) (maint : Bool) (ctr : BitVec 32) (mac : BitVec 64) (q : DReq) (f : Blk → Blk) (hm₀ : within [.rng, .out, .od, .hA, .hB, .can, .linen] m₀) (hf : ∀ c, Only m₀ b₀ c → Only m₀ b₀ (f c)) (h₀ : Only m₀ b₀ b) : Only m₀ b₀ (Blk.canAdmit b tr maint ctr mac q f) := by
  unfold Blk.canAdmit
  repeat (first | assumption | (with_reducible apply Blk.onCan_only <;> [(refine within_trans ?_ hm₀; decide); skip]) | (with_reducible apply Blk.canSend_only <;> [(refine within_trans ?_ hm₀; decide); skip]) | (with_reducible apply Blk.reply_only <;> [(refine within_trans ?_ hm₀; decide); skip]) | (with_reducible apply Blk.withMac_only <;> [(refine within_trans ?_ hm₀; decide); (intros; try dsimp only); skip]) | (with_reducible apply Blk.canStatus_only <;> [(refine within_trans ?_ hm₀; decide); skip]) | (with_reducible apply hf) | (with_reducible apply only_ite) | extract_lets | split | (intro c hc) | (refine ⟨fun p hp => same_trans (h₀.same p hp) ?_⟩; cases p <;> first | rfl | exact absurd (by (first | assumption | (refine List.contains_iff_mem.1 (List.all_eq_true.1 hm₀ _ (by decide))))) hp))

theorem Blk.admitReq_only {m₀ : List Part} {b₀ : Blk} (b : Blk) (src : Src) (q : DReq) (f : Blk → Blk) (hm₀ : within [.rng, .free, .out, .od, .hA, .hB, .sesA, .sesB, .sesC, .can, .linen, .tweed] m₀) (hf : ∀ c, Only m₀ b₀ c → Only m₀ b₀ (f c)) (h₀ : Only m₀ b₀ b) : Only m₀ b₀ (Blk.admitReq b src q f) := by
  unfold Blk.admitReq
  repeat (first | assumption | (with_reducible apply Blk.twEngine_only <;> [(refine within_trans ?_ hm₀; decide); skip]) | (with_reducible apply Blk.touch_only <;> [(refine within_trans ?_ hm₀; decide); skip]) | (with_reducible apply Blk.canAdmit_only <;> [(refine within_trans ?_ hm₀; decide); (intros; try dsimp only); skip]) | (with_reducible apply hf) | (with_reducible apply only_ite) | extract_lets | split | (intro c hc) | (refine ⟨fun p hp => same_trans (h₀.same p hp) ?_⟩; cases p <;> first | rfl | exact absurd (by (first | assumption | (refine List.contains_iff_mem.1 (List.all_eq_true.1 hm₀ _ (by decide))))) hp))

theorem Blk.writeReq_only {m₀ : List Part} {b₀ : Blk} (b : Blk) (src : Src) (idx sub : Nat) (val : List Byte) (act : Nat → Blk → Blk) (hm₀ : within [.rng, .free, .out, .od, .hA, .hB, .sesA, .sesB, .sesC, .can, .linen, .tweed] m₀) (hf : ∀ v c, Only m₀ b₀ c → Only m₀ b₀ (act v c)) (h₀ : Only m₀ b₀ b) : Only m₀ b₀ (Blk.writeReq b src idx sub val act) := by
  unfold Blk.writeReq
  repeat (first | assumption | (with_reducible apply Blk.reply_only <;> [(refine within_trans ?_ hm₀; decide); skip]) | (with_reducible apply Blk.admitReq_only <;> [(refine within_trans ?_ hm₀; decide); (intros; try dsimp only); skip]) | (with_reducible apply hf) | (with_reducible apply only_ite) | extract_lets | split | (intro c hc) | (refine ⟨fun p hp => same_trans (h₀.same p hp) ?_⟩; cases p <;> first | rfl | exact absurd (by (first | assumption | (refine List.contains_iff_mem.1 (List.all_eq_true.1 hm₀ _ (by decide))))) hp))

theorem Blk.wrote_only {m₀ : List Part} {b₀ : Blk} (b : Blk) (src : Src) (idx sub st : Nat) (hm₀ : within [.out, .can] m₀) (h₀ : Only m₀ b₀ b) : Only m₀ b₀ (Blk.wrote b src idx sub st) := by
  refine only_step (l := [.out, .can]) ?_ hm₀ h₀
  unfold Blk.wrote
  repeat (first | assumption | with_reducible apply only_refl | (with_reducible apply Blk.reply_only <;> [decide; skip]))

theorem Blk.putBulk_only {m₀ : List Part} {b₀ : Blk} (b : Blk) (src : Src) (x : Option Bulk) (hm₀ : within [.hA, .hB, .can] m₀) (h₀ : Only m₀ b₀ b) : Only m₀ b₀ (Blk.putBulk b src x) := by
  refine only_step (l := [.hA, .hB, .can]) ?_ hm₀ h₀
  unfold Blk.putBulk
  repeat (first | assumption | with_reducible apply only_refl | (with_reducible apply Blk.onCan_only <;> [decide; skip]) | (with_reducible apply Blk.onHead_only <;> [decide; skip]) | split | (refine ⟨fun p hp => ?_⟩; cases p <;> first | rfl | exact absurd (by decide) hp))

theorem Blk.bulkAnswer_only {m₀ : List Part} {b₀ : Blk} (b : Blk) (src : Src) (op idx sub st : Nat) (total crc : Nat := 0) (chunk : List Byte := []) (hm₀ : within [.out, .can] m₀) (h₀ : Only m₀ b₀ b) : Only m₀ b₀ (Blk.bulkAnswer b src op idx sub st total crc chunk) := by
  refine only_step (l := [.out, .can]) ?_ hm₀ h₀
  unfold Blk.bulkAnswer
  repeat (first | assumption | with_reducible apply only_refl | (with_reducible apply Blk.mbReply_only <;> [decide; skip]) | (with_reducible apply Blk.reply_only <;> [decide; skip]) | with_reducible apply only_ite | split)

theorem Blk.openRefused_only {m₀ : List Part} {b₀ : Blk} (b : Blk) (idx sub st : Nat) (hm₀ : within [.od] m₀) (h₀ : Only m₀ b₀ b) : Only m₀ b₀ (Blk.openRefused b idx sub st) := by
  refine only_step (l := [.od]) ?_ hm₀ h₀
  unfold Blk.openRefused
  repeat (first | assumption | with_reducible apply only_refl | (with_reducible apply Blk.odSet_only <;> [decide; skip]) | with_reducible apply only_ite)

theorem Blk.objectReq_only {m₀ : List Part} {b₀ : Blk} (b : Blk) (src : Src) (idx sub : Nat) (bytes : List Byte) (apply : Blk → Blk × Nat) (hm₀ : within [.rng, .free, .out, .od, .hA, .hB, .sesA, .sesB, .sesC, .can, .linen, .tweed] m₀) (hf : ∀ c, Only m₀ b₀ c → Only m₀ b₀ (apply c).1) (h₀ : Only m₀ b₀ b) : Only m₀ b₀ (Blk.objectReq b src idx sub bytes apply) := by
  unfold Blk.objectReq
  repeat (first | assumption | (with_reducible apply Blk.admitReq_only <;> [(refine within_trans ?_ hm₀; decide); (intros; try dsimp only); skip]) | (with_reducible apply Blk.bulkAnswer_only <;> [(refine within_trans ?_ hm₀; decide); skip]) | (with_reducible apply Blk.openRefused_only <;> [(refine within_trans ?_ hm₀; decide); skip]) | (with_reducible apply hf) | (with_reducible apply only_ite) | extract_lets | split | (intro c hc) | (refine ⟨fun p hp => same_trans (h₀.same p hp) ?_⟩; cases p <;> first | rfl | exact absurd (by (first | assumption | (refine List.contains_iff_mem.1 (List.all_eq_true.1 hm₀ _ (by decide))))) hp))

theorem Blk.cleanList_only {m₀ : List Part} {b₀ : Blk} (b : Blk) (n : Nat) (l : List (Nat × VWay)) (hm₀ : within [.velvet] m₀) (h₀ : Only m₀ b₀ b) : Only m₀ b₀ (Blk.cleanList b n l) := by
  refine only_step (l := [.velvet]) ?_ hm₀ h₀
  unfold Blk.cleanList
  repeat (first | assumption | with_reducible apply only_refl | (with_reducible apply Blk.cleanWay_only <;> [decide; skip]) | (with_reducible refine only_foldl (fun c x hc => ?_) _ _ ?_))

theorem Blk.cleanCovered_only {m₀ : List Part} {b₀ : Blk} (b : Blk) (hm₀ : within [.velvet] m₀) (h₀ : Only m₀ b₀ b) : Only m₀ b₀ (Blk.cleanCovered b) := by
  refine only_step (l := [.velvet]) ?_ hm₀ h₀
  unfold Blk.cleanCovered
  repeat (first | assumption | with_reducible apply only_refl | (with_reducible apply Blk.cleanList_only <;> [decide; skip]))

theorem Blk.cleanBudget_only {m₀ : List Part} {b₀ : Blk} (b : Blk) (hm₀ : within [.velvet] m₀) (h₀ : Only m₀ b₀ b) : Only m₀ b₀ (Blk.cleanBudget b) := by
  refine only_step (l := [.velvet]) ?_ hm₀ h₀
  unfold Blk.cleanBudget
  repeat (first | assumption | with_reducible apply only_refl | (with_reducible apply Blk.onVelvet_only <;> [decide; skip]) | (with_reducible apply Blk.cleanList_only <;> [decide; skip]) | with_reducible apply only_ite | extract_lets | (dsimp +zetaDelta only))

theorem Blk.startRange_only {m₀ : List Part} {b₀ : Blk} (b : Blk) (src : Src) (code : Nat) (hm₀ : within [.out, .od, .can, .velvet] m₀) (h₀ : Only m₀ b₀ b) : Only m₀ b₀ (Blk.startRange b src code) := by
  refine only_step (l := [.out, .od, .can, .velvet]) ?_ hm₀ h₀
  unfold Blk.startRange
  repeat (first | assumption | with_reducible apply only_refl | (with_reducible apply Blk.onVelvet_only <;> [decide; skip]) | (with_reducible apply Blk.odSet_only <;> [decide; skip]) | (with_reducible apply Blk.maintain_only <;> [decide; skip]) | (with_reducible apply Blk.wrote_only <;> [decide; skip]) | with_reducible apply only_ite | extract_lets | (dsimp +zetaDelta only))

theorem Blk.startLine_only {m₀ : List Part} {b₀ : Blk} (b : Blk) (src : Src) (sub op : Nat) (li : Option Nat) (hm₀ : within [.out, .od, .can, .velvet] m₀) (h₀ : Only m₀ b₀ b) : Only m₀ b₀ (Blk.startLine b src sub op li) := by
  refine only_step (l := [.out, .od, .can, .velvet]) ?_ hm₀ h₀
  unfold Blk.startLine
  repeat (first | assumption | with_reducible apply only_refl | (with_reducible apply Blk.odSet_only <;> [decide; skip]) | (with_reducible apply Blk.maintOps_only <;> [decide; skip]) | (with_reducible apply Blk.wrote_only <;> [decide; skip]) | with_reducible apply only_ite | extract_lets | split | (dsimp +zetaDelta only))

theorem Blk.byAddress_only {m₀ : List Part} {b₀ : Blk} (b : Blk) (src : Src) (v : Nat) (hm₀ : within [.out, .od, .can, .velvet] m₀) (h₀ : Only m₀ b₀ b) : Only m₀ b₀ (Blk.byAddress b src v) := by
  refine only_step (l := [.out, .od, .can, .velvet]) ?_ hm₀ h₀
  unfold Blk.byAddress
  repeat (first | assumption | with_reducible apply only_refl | (with_reducible apply Blk.startLine_only <;> [decide; skip]))

theorem Blk.bySetWay_only {m₀ : List Part} {b₀ : Blk} (b : Blk) (src : Src) (v : Nat) (hm₀ : within [.out, .od, .can, .velvet] m₀) (h₀ : Only m₀ b₀ b) : Only m₀ b₀ (Blk.bySetWay b src v) := by
  refine only_step (l := [.out, .od, .can, .velvet]) ?_ hm₀ h₀
  unfold Blk.bySetWay
  repeat (first | assumption | with_reducible apply only_refl | (with_reducible apply Blk.startLine_only <;> [decide; skip]))

theorem Blk.ringHint_only {m₀ : List Part} {b₀ : Blk} (b : Blk) (h : Head) (r : BitVec 128) (hm₀ : within [.od, .hA, .hB, .tweed] m₀) (h₀ : Only m₀ b₀ b) : Only m₀ b₀ (Blk.ringHint b h r) := by
  refine only_step (l := [.od, .hA, .hB, .tweed]) ?_ hm₀ h₀
  unfold Blk.ringHint
  repeat (first | assumption | with_reducible apply only_refl | (with_reducible apply Blk.onHead_only <;> [decide; skip]) | (with_reducible apply Blk.bump_only <;> [decide; skip]) | (with_reducible apply Blk.twHead_only <;> [decide; skip]) | with_reducible apply only_ite | extract_lets | (dsimp +zetaDelta only))

theorem Blk.openBarrier_only {m₀ : List Part} {b₀ : Blk} (b : Blk) (src : Src) (hm₀ : within [.out, .od, .can, .path, .velvet] m₀) (h₀ : Only m₀ b₀ b) : Only m₀ b₀ (Blk.openBarrier b src) := by
  refine only_step (l := [.out, .od, .can, .path, .velvet]) ?_ hm₀ h₀
  unfold Blk.openBarrier
  repeat (first | assumption | with_reducible apply only_refl | (with_reducible apply Blk.onPath_only <;> [decide; skip]) | (with_reducible apply Blk.odSet_only <;> [decide; skip]) | (with_reducible apply Blk.wrote_only <;> [decide; skip]) | (with_reducible apply Blk.cleanCovered_only <;> [decide; skip]) | with_reducible apply only_ite | extract_lets | (dsimp +zetaDelta only))

theorem Blk.mbox_only {m₀ : List Part} {b₀ : Blk} (b : Blk) (h : Head) (f : Blk → Blk) (hm₀ : within [] m₀) (hf : ∀ c, Only m₀ b₀ c → Only m₀ b₀ (f c)) (h₀ : Only m₀ b₀ b) : Only m₀ b₀ (Blk.mbox b h f) := by
  unfold Blk.mbox
  repeat (first | assumption | (with_reducible apply hf) | (with_reducible apply only_ite) | extract_lets | split | (intro c hc) | (refine ⟨fun p hp => same_trans (h₀.same p hp) ?_⟩; cases p <;> first | rfl | exact absurd (by (first | assumption | (refine List.contains_iff_mem.1 (List.all_eq_true.1 hm₀ _ (by decide))))) hp))

theorem Blk.putInactive_only {m₀ : List Part} {b₀ : Blk} (b : Blk) (v : Option FwImage) (hm₀ : within [.felt] m₀) (h₀ : Only m₀ b₀ b) : Only m₀ b₀ (Blk.putInactive b v) := by
  refine only_step (l := [.felt]) ?_ hm₀ h₀
  unfold Blk.putInactive
  repeat (first | assumption | with_reducible apply only_refl | (with_reducible apply Blk.onFelt_only <;> [decide; skip]) | with_reducible apply only_ite)

theorem Blk.alertCheck_only {m₀ : List Part} {b₀ : Blk} (b : Blk) (hm₀ : within [.out, .od, .hA, .hB, .can, .dev, .linen] m₀) (h₀ : Only m₀ b₀ b) : Only m₀ b₀ (Blk.alertCheck b) := by
  refine only_step (l := [.out, .od, .hA, .hB, .can, .dev, .linen]) ?_ hm₀ h₀
  unfold Blk.alertCheck
  repeat (first | assumption | with_reducible apply only_refl | (with_reducible apply Blk.onDev_only <;> [decide; skip]) | (with_reducible apply Blk.report_only <;> [decide; skip]) | (with_reducible refine only_foldl (fun c x hc => ?_) _ _ ?_) | with_reducible apply only_ite | extract_lets | (dsimp +zetaDelta only))

theorem Blk.dropWayHalf_only {m₀ : List Part} {b₀ : Blk} (b : Blk) (h : Head) (key : Nat) (hm₀ : within [.free, .out, .od, .hA, .hB, .can, .path, .lines, .media, .velvet, .twill, .damask, .linen, .tweed, .modes, .safety] m₀) (h₀ : Only m₀ b₀ b) : Only m₀ b₀ (Blk.dropWayHalf b h key) := by
  refine only_step (l := [.free, .out, .od, .hA, .hB, .can, .path, .lines, .media, .velvet, .twill, .damask, .linen, .tweed, .modes, .safety]) ?_ hm₀ h₀
  unfold Blk.dropWayHalf
  repeat (first | assumption | with_reducible apply only_refl | (with_reducible apply Blk.putWay_only <;> [decide; skip]) | (with_reducible apply Blk.startFill_only <;> [decide; skip]) | with_reducible apply only_ite | extract_lets | split | (dsimp +zetaDelta only))

theorem Blk.dropBufHalf_only {m₀ : List Part} {b₀ : Blk} (b : Blk) (key : Nat) (hm₀ : within [.free, .velvet] m₀) (h₀ : Only m₀ b₀ b) : Only m₀ b₀ (Blk.dropBufHalf b key) := by
  refine only_step (l := [.free, .velvet]) ?_ hm₀ h₀
  unfold Blk.dropBufHalf
  repeat (first | assumption | with_reducible apply only_refl | (with_reducible apply Blk.useFree_only <;> [decide; skip]) | (with_reducible apply Blk.putWay_only <;> [decide; skip]) | (with_reducible apply Blk.putBuf_only <;> [decide; skip]) | with_reducible apply only_ite | extract_lets | split | (dsimp +zetaDelta only))

theorem Blk.dropHalf_only {m₀ : List Part} {b₀ : Blk} (b : Blk) (h : Head) (key : Nat) (hm₀ : within [.free, .out, .od, .hA, .hB, .can, .path, .lines, .media, .velvet, .twill, .damask, .linen, .tweed, .modes, .safety] m₀) (h₀ : Only m₀ b₀ b) : Only m₀ b₀ (Blk.dropHalf b h key) := by
  refine only_step (l := [.free, .out, .od, .hA, .hB, .can, .path, .lines, .media, .velvet, .twill, .damask, .linen, .tweed, .modes, .safety]) ?_ hm₀ h₀
  unfold Blk.dropHalf
  repeat (first | assumption | with_reducible apply only_refl | (with_reducible apply Blk.dropWayHalf_only <;> [decide; skip]) | (with_reducible apply Blk.dropBufHalf_only <;> [decide; skip]))

theorem Blk.feltRefused_only {m₀ : List Part} {b₀ : Blk} (b : Blk) (hm₀ : within [.out, .od, .hA, .hB, .can, .linen] m₀) (h₀ : Only m₀ b₀ b) : Only m₀ b₀ (Blk.feltRefused b) := by
  refine only_step (l := [.out, .od, .hA, .hB, .can, .linen]) ?_ hm₀ h₀
  unfold Blk.feltRefused
  repeat (first | assumption | with_reducible apply only_refl | (with_reducible apply Blk.bump_only <;> [decide; skip]) | (with_reducible apply Blk.report_only <;> [decide; skip]))

theorem Blk.putCopy_only {m₀ : List Part} {b₀ : Blk} (b : Blk) (item : Nat) (hm₀ : within [.felt] m₀) (h₀ : Only m₀ b₀ b) : Only m₀ b₀ (Blk.putCopy b item) := by
  refine only_step (l := [.felt]) ?_ hm₀ h₀
  unfold Blk.putCopy
  repeat (first | assumption | with_reducible apply only_refl | (with_reducible apply Blk.onFelt_only <;> [decide; skip]) | extract_lets | (dsimp +zetaDelta only))

theorem Blk.dropCopies_only {m₀ : List Part} {b₀ : Blk} (b : Blk) (item : Nat) (hm₀ : within [.felt] m₀) (h₀ : Only m₀ b₀ b) : Only m₀ b₀ (Blk.dropCopies b item) := by
  refine only_step (l := [.felt]) ?_ hm₀ h₀
  unfold Blk.dropCopies
  repeat (first | assumption | with_reducible apply only_refl | (with_reducible apply Blk.onFelt_only <;> [decide; skip]))

theorem Blk.directoryWrite_only {m₀ : List Part} {b₀ : Blk} (b : Blk) (hm₀ : within [.felt] m₀) (h₀ : Only m₀ b₀ b) : Only m₀ b₀ (Blk.directoryWrite b) := by
  refine only_step (l := [.felt]) ?_ hm₀ h₀
  unfold Blk.directoryWrite
  repeat (first | assumption | with_reducible apply only_refl | (with_reducible apply Blk.onFelt_only <;> [decide; skip]) | (with_reducible apply Blk.putCopy_only <;> [decide; skip]) | extract_lets | (dsimp +zetaDelta only))

theorem Blk.pageWrite_only {m₀ : List Part} {b₀ : Blk} (b : Blk) (key : Nat) (hm₀ : within [.out, .od, .hA, .hB, .can, .linen, .felt] m₀) (h₀ : Only m₀ b₀ b) : Only m₀ b₀ (Blk.pageWrite b key) := by
  refine only_step (l := [.out, .od, .hA, .hB, .can, .linen, .felt]) ?_ hm₀ h₀
  unfold Blk.pageWrite
  repeat (first | assumption | with_reducible apply only_refl | (with_reducible apply Blk.onLinen_only <;> [decide; skip]) | (with_reducible apply Blk.onFelt_only <;> [decide; skip]) | (with_reducible apply Blk.bump32_only <;> [decide; skip]) | (with_reducible apply Blk.report_only <;> [decide; skip]) | (with_reducible apply Blk.directoryWrite_only <;> [decide; skip]) | with_reducible apply only_ite | extract_lets | (dsimp +zetaDelta only))

theorem Blk.itemWrite_only {m₀ : List Part} {b₀ : Blk} (b : Blk) (item : Nat) (hm₀ : within [.out, .od, .hA, .hB, .can, .linen, .felt] m₀) (h₀ : Only m₀ b₀ b) : Only m₀ b₀ (Blk.itemWrite b item) := by
  refine only_step (l := [.out, .od, .hA, .hB, .can, .linen, .felt]) ?_ hm₀ h₀
  unfold Blk.itemWrite
  repeat (first | assumption | with_reducible apply only_refl | (with_reducible apply Blk.onFelt_only <;> [decide; skip]) | (with_reducible apply Blk.bump32_only <;> [decide; skip]) | (with_reducible apply Blk.report_only <;> [decide; skip]) | (with_reducible apply Blk.putCopy_only <;> [decide; skip]) | (with_reducible apply Blk.directoryWrite_only <;> [decide; skip]) | (with_reducible apply Blk.pageWrite_only <;> [decide; skip]) | with_reducible apply only_ite | extract_lets | (dsimp +zetaDelta only))

theorem Blk.saveCounters_only {m₀ : List Part} {b₀ : Blk} (b : Blk) (exact : Bool) (hm₀ : within [.out, .od, .hA, .hB, .can, .linen, .felt] m₀) (h₀ : Only m₀ b₀ b) : Only m₀ b₀ (Blk.saveCounters b exact) := by
  refine only_step (l := [.out, .od, .hA, .hB, .can, .linen, .felt]) ?_ hm₀ h₀
  unfold Blk.saveCounters
  repeat (first | assumption | with_reducible apply only_refl | (with_reducible apply Blk.onFelt_only <;> [decide; skip]) | (with_reducible apply Blk.itemWrite_only <;> [decide; skip]) | with_reducible apply only_ite)

theorem Blk.cycleUp_only {m₀ : List Part} {b₀ : Blk} (b : Blk) (hm₀ : within [.out, .od, .hA, .hB, .can, .linen, .felt] m₀) (h₀ : Only m₀ b₀ b) : Only m₀ b₀ (Blk.cycleUp b) := by
  refine only_step (l := [.out, .od, .hA, .hB, .can, .linen, .felt]) ?_ hm₀ h₀
  unfold Blk.cycleUp
  repeat (first | assumption | with_reducible apply only_refl | (with_reducible apply Blk.onFelt_only <;> [decide; skip]) | (with_reducible apply Blk.pageWrite_only <;> [decide; skip]) | extract_lets | (dsimp +zetaDelta only))

theorem Blk.dirtyUp_only {m₀ : List Part} {b₀ : Blk} (b : Blk) (hm₀ : within [.out, .od, .hA, .hB, .can, .linen, .felt] m₀) (h₀ : Only m₀ b₀ b) : Only m₀ b₀ (Blk.dirtyUp b) := by
  refine only_step (l := [.out, .od, .hA, .hB, .can, .linen, .felt]) ?_ hm₀ h₀
  unfold Blk.dirtyUp
  repeat (first | assumption | with_reducible apply only_refl | (with_reducible apply Blk.onFelt_only <;> [decide; skip]) | (with_reducible apply Blk.report_only <;> [decide; skip]) | (with_reducible apply Blk.pageWrite_only <;> [decide; skip]) | extract_lets | (dsimp +zetaDelta only))

theorem Blk.escrowChanged_only {m₀ : List Part} {b₀ : Blk} (b : Blk) (hm₀ : within [.out, .od, .hA, .hB, .can, .linen] m₀) (h₀ : Only m₀ b₀ b) : Only m₀ b₀ (Blk.escrowChanged b) := by
  refine only_step (l := [.out, .od, .hA, .hB, .can, .linen]) ?_ hm₀ h₀
  unfold Blk.escrowChanged
  repeat (first | assumption | with_reducible apply only_refl | (with_reducible apply Blk.report_only <;> [decide; skip]))

theorem Blk.putKek_only {m₀ : List Part} {b₀ : Blk} (b : Blk) (key : BitVec 256) (hm₀ : within [.out, .od, .hA, .hB, .can, .damask, .linen, .felt] m₀) (h₀ : Only m₀ b₀ b) : Only m₀ b₀ (Blk.putKek b key) := by
  refine only_step (l := [.out, .od, .hA, .hB, .can, .damask, .linen, .felt]) ?_ hm₀ h₀
  unfold Blk.putKek
  repeat (first | assumption | with_reducible apply only_refl | (with_reducible apply Blk.onHA_only <;> [decide; skip]) | (with_reducible apply Blk.onHB_only <;> [decide; skip]) | (with_reducible apply Blk.onDamask_only <;> [decide; skip]) | (with_reducible apply Blk.itemWrite_only <;> [decide; skip]) | (with_reducible apply Blk.escrowChanged_only <;> [decide; skip]) | with_reducible apply only_ite | extract_lets | (dsimp +zetaDelta only))

theorem Blk.applyKek_only {m₀ : List Part} {b₀ : Blk} (b : Blk) (bytes : List Byte) (hm₀ : within [.out, .od, .hA, .hB, .can, .damask, .linen, .felt] m₀) (h₀ : Only m₀ b₀ b) : Only m₀ b₀ (Blk.applyKek b bytes).1 := by
  refine only_step (l := [.out, .od, .hA, .hB, .can, .damask, .linen, .felt]) ?_ hm₀ h₀
  unfold Blk.applyKek
  repeat (first | assumption | with_reducible apply only_refl | (with_reducible apply Blk.putKek_only <;> [decide; skip]) | with_reducible apply only_ite | with_reducible apply only_ite_fst | dsimp only)

theorem Blk.bind_only {m₀ : List Part} {b₀ : Blk} (b : Blk) (hm₀ : within [.out, .od, .hA, .hB, .can, .lines, .twill, .damask, .linen, .tweed] m₀) (h₀ : Only m₀ b₀ b) : Only m₀ b₀ (Blk.bind b) := by
  refine only_step (l := [.out, .od, .hA, .hB, .can, .lines, .twill, .damask, .linen, .tweed]) ?_ hm₀ h₀
  unfold Blk.bind
  repeat (first | assumption | with_reducible apply only_refl | (with_reducible apply Blk.onDamask_only <;> [decide; skip]) | (with_reducible apply Blk.putOwnLine_only <;> [decide; skip]) | (with_reducible refine only_foldl (fun c x hc => ?_) _ _ ?_) | extract_lets | (dsimp +zetaDelta only))

theorem Blk.boundNow_only {m₀ : List Part} {b₀ : Blk} (b : Blk) (hm₀ : within [.damask, .modes] m₀) (h₀ : Only m₀ b₀ b) : Only m₀ b₀ (Blk.boundNow b) := by
  refine only_step (l := [.damask, .modes]) ?_ hm₀ h₀
  unfold Blk.boundNow
  repeat (first | assumption | with_reducible apply only_refl | (with_reducible apply Blk.onDamask_only <;> [decide; skip]) | (with_reducible apply Blk.onModes_only <;> [decide; skip]) | with_reducible apply only_ite)

theorem Blk.applyEscrow_only {m₀ : List Part} {b₀ : Blk} (b : Blk) (bytes : List Byte) (hm₀ : within [.out, .od, .hA, .hB, .can, .lines, .twill, .damask, .linen, .felt, .tweed, .modes] m₀) (h₀ : Only m₀ b₀ b) : Only m₀ b₀ (Blk.applyEscrow b bytes).1 := by
  refine only_step (l := [.out, .od, .hA, .hB, .can, .lines, .twill, .damask, .linen, .felt, .tweed, .modes]) ?_ hm₀ h₀
  unfold Blk.applyEscrow
  repeat (first | assumption | with_reducible apply only_refl | (with_reducible apply Blk.onDamask_only <;> [decide; skip]) | (with_reducible apply Blk.odSet_only <;> [decide; skip]) | (with_reducible apply Blk.report_only <;> [decide; skip]) | (with_reducible apply Blk.itemWrite_only <;> [decide; skip]) | (with_reducible apply Blk.escrowChanged_only <;> [decide; skip]) | (with_reducible apply Blk.bind_only <;> [decide; skip]) | (with_reducible apply Blk.boundNow_only <;> [decide; skip]) | with_reducible apply only_ite | extract_lets | with_reducible apply only_ite_fst | dsimp only | (dsimp +zetaDelta only))

theorem Blk.unlockRegion_only {m₀ : List Part} {b₀ : Blk} (b : Blk) (src : Src) (r : Nat) (hm₀ : within [.out, .can, .damask] m₀) (h₀ : Only m₀ b₀ b) : Only m₀ b₀ (Blk.unlockRegion b src r) := by
  refine only_step (l := [.out, .can, .damask]) ?_ hm₀ h₀
  unfold Blk.unlockRegion
  repeat (first | assumption | with_reducible apply only_refl | (with_reducible apply Blk.onDamask_only <;> [decide; skip]) | (with_reducible apply Blk.wrote_only <;> [decide; skip]))

theorem Blk.resetCount_only {m₀ : List Part} {b₀ : Blk} (b : Blk) (src : Src) (r : Nat) (hm₀ : within [.out, .can, .damask] m₀) (h₀ : Only m₀ b₀ b) : Only m₀ b₀ (Blk.resetCount b src r) := by
  refine only_step (l := [.out, .can, .damask]) ?_ hm₀ h₀
  unfold Blk.resetCount
  repeat (first | assumption | with_reducible apply only_refl | (with_reducible apply Blk.onDamask_only <;> [decide; skip]) | (with_reducible apply Blk.wrote_only <;> [decide; skip]) | split)

theorem Blk.rekeyGroup_only {m₀ : List Part} {b₀ : Blk} (b : Blk) (r e : Nat) (hm₀ : within [.free, .out, .od, .regs, .hA, .hB, .muslin, .can, .dev, .path, .lines, .poison, .media, .velvet, .twill, .gauze, .damask, .linen, .tweed, .modes, .safety] m₀) (h₀ : Only m₀ b₀ b) : Only m₀ b₀ (Blk.rekeyGroup b r e) := by
  refine only_step (l := [.free, .out, .od, .regs, .hA, .hB, .muslin, .can, .dev, .path, .lines, .poison, .media, .velvet, .twill, .gauze, .damask, .linen, .tweed, .modes, .safety]) ?_ hm₀ h₀
  unfold Blk.rekeyGroup
  repeat (first | assumption | with_reducible apply only_refl | (with_reducible apply Blk.onDamask_only <;> [decide; skip]) | (with_reducible apply Blk.bump_only <;> [decide; skip]) | (with_reducible apply Blk.drive_only <;> [decide; skip]) | with_reducible apply only_ite | split)

theorem Blk.pinGroups_only {m₀ : List Part} {b₀ : Blk} (b : Blk) (r : Nat) (hm₀ : within [.out, .od, .hA, .hB, .can, .damask, .linen] m₀) (h₀ : Only m₀ b₀ b) : Only m₀ b₀ (Blk.pinGroups b r) := by
  refine only_step (l := [.out, .od, .hA, .hB, .can, .damask, .linen]) ?_ hm₀ h₀
  unfold Blk.pinGroups
  repeat (first | assumption | with_reducible apply only_refl | (with_reducible apply Blk.onDamask_only <;> [decide; skip]) | (with_reducible apply Blk.report_only <;> [decide; skip]) | (with_reducible refine only_foldl (fun c x hc => ?_) _ _ ?_))

theorem Blk.swapped_only {m₀ : List Part} {b₀ : Blk} (b : Blk) (pauseNs : Nat) (hm₀ : within [.od, .muslin, .tweed] m₀) (h₀ : Only m₀ b₀ b) : Only m₀ b₀ (Blk.swapped b pauseNs) := by
  refine only_step (l := [.od, .muslin, .tweed]) ?_ hm₀ h₀
  unfold Blk.swapped
  repeat (first | assumption | with_reducible apply only_refl | (with_reducible apply Blk.onMuslin_only <;> [decide; skip]) | (with_reducible apply Blk.odSet_only <;> [decide; skip]) | (with_reducible apply Blk.bump_only <;> [decide; skip]) | (with_reducible apply Blk.tw_only <;> [decide; skip]))

theorem Blk.calImport_only {m₀ : List Part} {b₀ : Blk} (b0 : Blk) (l : List Byte) (hm₀ : within [.free, .out, .od, .hA, .hB, .muslin, .can, .gauze, .linen, .tweed] m₀) (h₀ : Only m₀ b₀ b0) : Only m₀ b₀ (Blk.calImport b0 l) := by
  refine only_step (l := [.free, .out, .od, .hA, .hB, .muslin, .can, .gauze, .linen, .tweed]) ?_ hm₀ h₀
  unfold Blk.calImport
  repeat (first | assumption | with_reducible apply only_refl | (with_reducible apply Blk.onMuslin_only <;> [decide; skip]) | (with_reducible apply Blk.onGauze_only <;> [decide; skip]) | (with_reducible apply Blk.useFree_only <;> [decide; skip]) | (with_reducible apply Blk.odSet_only <;> [decide; skip]) | (with_reducible apply Blk.report_only <;> [decide; skip]) | (with_reducible apply Blk.keepCal_only <;> [decide; skip]) | (with_reducible apply Blk.swapped_only <;> [decide; skip]) | (with_reducible refine only_foldl (fun c x hc => ?_) _ _ ?_) | with_reducible apply only_ite | extract_lets | (dsimp +zetaDelta only))

theorem Blk.applyCal_only {m₀ : List Part} {b₀ : Blk} (b : Blk) (l : List Byte) (hm₀ : within [.free, .out, .od, .hA, .hB, .muslin, .can, .gauze, .linen, .tweed] m₀) (h₀ : Only m₀ b₀ b) : Only m₀ b₀ (Blk.applyCal b l).1 := by
  refine only_step (l := [.free, .out, .od, .hA, .hB, .muslin, .can, .gauze, .linen, .tweed]) ?_ hm₀ h₀
  unfold Blk.applyCal
  repeat (first | assumption | with_reducible apply only_refl | (with_reducible apply Blk.onMuslin_only <;> [decide; skip]) | (with_reducible apply Blk.odSet_only <;> [decide; skip]) | (with_reducible apply Blk.calImport_only <;> [decide; skip]) | with_reducible apply only_ite | with_reducible apply only_ite_fst | dsimp only)

theorem Blk.clearHistograms_only {m₀ : List Part} {b₀ : Blk} (b : Blk) (src : Src) (hm₀ : within [.out, .can, .gauze] m₀) (h₀ : Only m₀ b₀ b) : Only m₀ b₀ (Blk.clearHistograms b src) := by
  refine only_step (l := [.out, .can, .gauze]) ?_ hm₀ h₀
  unfold Blk.clearHistograms
  repeat (first | assumption | with_reducible apply only_refl | (with_reducible apply Blk.onGauze_only <;> [decide; skip]) | (with_reducible apply Blk.wrote_only <;> [decide; skip]))

theorem Blk.applyMaintKey_only {m₀ : List Part} {b₀ : Blk} (b : Blk) (l : List Byte) (hm₀ : within [.out, .od, .hA, .hB, .can, .linen, .felt] m₀) (h₀ : Only m₀ b₀ b) : Only m₀ b₀ (Blk.applyMaintKey b l).1 := by
  refine only_step (l := [.out, .od, .hA, .hB, .can, .linen, .felt]) ?_ hm₀ h₀
  unfold Blk.applyMaintKey
  repeat (first | assumption | with_reducible apply only_refl | (with_reducible apply Blk.onFelt_only <;> [decide; skip]) | (with_reducible apply Blk.itemWrite_only <;> [decide; skip]) | with_reducible apply only_ite | with_reducible apply only_ite_fst | dsimp only)

theorem Blk.applyMacKey_only {m₀ : List Part} {b₀ : Blk} (b : Blk) (l : List Byte) (hm₀ : within [.rng, .out, .od, .hA, .hB, .can, .linen, .felt] m₀) (h₀ : Only m₀ b₀ b) : Only m₀ b₀ (Blk.applyMacKey b l).1 := by
  refine only_step (l := [.rng, .out, .od, .hA, .hB, .can, .linen, .felt]) ?_ hm₀ h₀
  unfold Blk.applyMacKey
  repeat (first | assumption | with_reducible apply only_refl | (with_reducible apply Blk.onCan_only <;> [decide; skip]) | (with_reducible apply Blk.newNonce_only <;> [decide; skip]) | (with_reducible apply Blk.feltRefused_only <;> [decide; skip]) | (with_reducible apply Blk.itemWrite_only <;> [decide; skip]) | with_reducible apply only_ite | (refine ⟨fun p hp => ?_⟩; cases p <;> first | rfl | exact absurd (by decide) hp) | with_reducible apply only_ite_fst | dsimp only)

theorem Blk.objectApply_only {m₀ : List Part} {b₀ : Blk} (b : Blk) (idx sub : Nat) (l : List Byte) (hm₀ : within [.rng, .free, .out, .od, .hA, .hB, .muslin, .can, .lines, .twill, .gauze, .damask, .linen, .felt, .tweed, .modes] m₀) (h₀ : Only m₀ b₀ b) : Only m₀ b₀ (Blk.objectApply b idx sub l).1 := by
  refine only_step (l := [.rng, .free, .out, .od, .hA, .hB, .muslin, .can, .lines, .twill, .gauze, .damask, .linen, .felt, .tweed, .modes]) ?_ hm₀ h₀
  unfold Blk.objectApply
  repeat (first | assumption | with_reducible apply only_refl | (with_reducible apply Blk.applyKek_only <;> [decide; skip]) | (with_reducible apply Blk.applyEscrow_only <;> [decide; skip]) | (with_reducible apply Blk.applyCal_only <;> [decide; skip]) | (with_reducible apply Blk.applyMaintKey_only <;> [decide; skip]) | (with_reducible apply Blk.applyMacKey_only <;> [decide; skip]) | split | with_reducible apply only_ite_fst | dsimp only)

theorem Blk.onRgn_only {m₀ : List Part} {b₀ : Blk} (b : Blk) (id : Nat) (f : Rgn → Rgn) (hm₀ : within [.dev] m₀) (h₀ : Only m₀ b₀ b) : Only m₀ b₀ (Blk.onRgn b id f) := by
  refine only_step (l := [.dev]) ?_ hm₀ h₀
  unfold Blk.onRgn
  repeat (first | assumption | with_reducible apply only_refl | (with_reducible apply Blk.onDev_only <;> [decide; skip]) | with_reducible apply only_ite)

theorem Blk.dcRecord_only {m₀ : List Part} {b₀ : Blk} (b : Blk) (type : Nat) (g : Rgn) (hs : List Head) (hm₀ : within [.out, .hA, .hB] m₀) (h₀ : Only m₀ b₀ b) : Only m₀ b₀ (Blk.dcRecord b type g hs) := by
  refine only_step (l := [.out, .hA, .hB]) ?_ hm₀ h₀
  unfold Blk.dcRecord
  repeat (first | assumption | with_reducible apply only_refl | (with_reducible apply Blk.logTo_only <;> [decide; skip]) | (with_reducible refine only_foldl (fun c x hc => ?_) _ _ ?_) | extract_lets | (dsimp +zetaDelta only))

theorem Blk.rgnEvent_only {m₀ : List Part} {b₀ : Blk} (b : Blk) (code : BitVec 16) (g : Rgn) (hm₀ : within [.out, .od, .hA, .hB, .can, .linen] m₀) (h₀ : Only m₀ b₀ b) : Only m₀ b₀ (Blk.rgnEvent b code g) := by
  refine only_step (l := [.out, .od, .hA, .hB, .can, .linen]) ?_ hm₀ h₀
  unfold Blk.rgnEvent
  repeat (first | assumption | with_reducible apply only_refl | (with_reducible apply Blk.reportUnit_only <;> [decide; skip]))

theorem Blk.takeRegionSlot_only {m₀ : List Part} {b₀ : Blk} (b : Blk) (c : Cls) (x : Nat) {r : Blk} (hr : b.takeRegionSlot c x = some r) (hm₀ : within [.free, .twill] m₀) (h₀ : Only m₀ b₀ b) : Only m₀ b₀ r := by
  have hs {l : List Part} (hl : within l [.free, .twill]) : within l m₀ := within_trans hl hm₀
  obtain ⟨y, -, rfl⟩ := Option.map_eq_some_iff.1 hr
  exact Blk.putRegion_only _ _ _ (hs (by decide)) (Blk.setSlot_only _ _ _ (hs (by decide)) (Blk.useFree_only _ (hs (by decide)) h₀))

theorem Blk.takeUnit_only {m₀ : List Part} {b₀ : Blk} (c : Cls) (o : Option Blk) (x : Nat) {r : Blk} (hr : Blk.takeUnit c o x = some r) (hm₀ : within [.free, .twill] m₀) (h₀ : ∀ b, o = some b → Only m₀ b₀ b) : Only m₀ b₀ r := by
  cases o with
  | none => cases hr
  | some b =>
    rw [Blk.takeUnit, Option.bind_some] at hr
    exact Blk.takeRegionSlot_only _ _ _ hr hm₀ (Blk.widen_only _ _ (within_trans (by decide) hm₀) (h₀ b rfl))

theorem Blk.takeUnits_only {m₀ : List Part} {b₀ : Blk} (b : Blk) (g : Rgn) {r : Blk} (hr : b.takeUnits g = some r) (hm₀ : within [.free, .twill] m₀) (h₀ : Only m₀ b₀ b) : Only m₀ b₀ r := by
  have h (l : List Nat) : ∀ o : Option Blk, (∀ c, o = some c → Only m₀ b₀ c) → ∀ c, l.foldl (Blk.takeUnit g.cls) o = some c → Only m₀ b₀ c := by
    induction l with
    | nil => exact fun o ho c hc => ho c hc
    | cons x l ih => exact fun o ho c hc => ih _ (fun d hd => Blk.takeUnit_only _ _ _ hd hm₀ ho) c hc
  exact h _ _ (fun c hc => by cases hc; exact h₀) _ hr

theorem Blk.makeRegion_only {m₀ : List Part} {b₀ : Blk} (b : Blk) (g : Rgn) (hm₀ : within [.free, .dev, .twill] m₀) (h₀ : Only m₀ b₀ b) : Only m₀ b₀ (Blk.makeRegion b g) := by
  refine only_step (l := [.free, .dev, .twill]) ?_ hm₀ h₀
  unfold Blk.makeRegion
  extract_lets g1 b1
  exact Blk.onDev_only _ _ (by decide) (only_getD (fun r hr => Blk.takeUnits_only _ _ hr (by decide) (only_refl _ _)) (only_refl _ _))

theorem Blk.addAction_only {m₀ : List Part} {b₀ : Blk} (b : Blk) (src : Src) (hm₀ : within [.free, .out, .od, .can, .dev, .twill] m₀) (h₀ : Only m₀ b₀ b) : Only m₀ b₀ (Blk.addAction b src) := by
  refine only_step (l := [.free, .out, .od, .can, .dev, .twill]) ?_ hm₀ h₀
  unfold Blk.addAction
  repeat (first | assumption | with_reducible apply only_refl | (with_reducible apply Blk.odSet_only <;> [decide; skip]) | (with_reducible apply Blk.wrote_only <;> [decide; skip]) | (with_reducible apply Blk.makeRegion_only <;> [decide; skip]) | with_reducible apply only_ite | extract_lets | (dsimp +zetaDelta only))

theorem Blk.withdraw_only {m₀ : List Part} {b₀ : Blk} (b : Blk) (h : Head) (id : Nat) (hm₀ : within [.hA, .hB, .dev] m₀) (h₀ : Only m₀ b₀ b) : Only m₀ b₀ (Blk.withdraw b h id) := by
  refine only_step (l := [.hA, .hB, .dev]) ?_ hm₀ h₀
  unfold Blk.withdraw
  repeat (first | assumption | with_reducible apply only_refl | (with_reducible apply Blk.onHead_only <;> [decide; skip]) | (with_reducible apply Blk.onRgn_only <;> [decide; skip]))

theorem Blk.takeOffer_only {m₀ : List Part} {b₀ : Blk} (b : Blk) (h : Head) (g : Rgn) (hm₀ : within [.out, .od, .hA, .hB, .can, .dev, .linen] m₀) (h₀ : Only m₀ b₀ b) : Only m₀ b₀ (Blk.takeOffer b h g) := by
  refine only_step (l := [.out, .od, .hA, .hB, .can, .dev, .linen]) ?_ hm₀ h₀
  unfold Blk.takeOffer
  repeat (first | assumption | with_reducible apply only_refl | (with_reducible apply Blk.onHead_only <;> [decide; skip]) | (with_reducible apply Blk.onRgn_only <;> [decide; skip]) | (with_reducible apply Blk.rgnEvent_only <;> [decide; skip]))

theorem Blk.expel_only {m₀ : List Part} {b₀ : Blk} (b : Blk) (h : Head) (hm₀ : within [.out, .od, .hA, .hB, .can, .path, .linen, .tweed] m₀) (h₀ : Only m₀ b₀ b) : Only m₀ b₀ (Blk.expel b h) := by
  refine only_step (l := [.out, .od, .hA, .hB, .can, .path, .linen, .tweed]) ?_ hm₀ h₀
  unfold Blk.expel
  repeat (first | assumption | with_reducible apply only_refl | (with_reducible apply Blk.onPath_only <;> [decide; skip]) | (with_reducible apply Blk.onHead_only <;> [decide; skip]) | (with_reducible apply Blk.refuse_only <;> [decide; skip]) | (with_reducible apply Blk.failCheck_only <;> [decide; skip]) | (with_reducible refine only_foldl (fun c x hc => ?_) _ _ ?_) | extract_lets | (dsimp +zetaDelta only))

theorem Blk.releaseAt_only {m₀ : List Part} {b₀ : Blk} (b : Blk) (h : Head) (id : Nat) (hm₀ : within [.out, .od, .hA, .hB, .can, .dev, .path, .linen, .tweed] m₀) (h₀ : Only m₀ b₀ b) : Only m₀ b₀ (Blk.releaseAt b h id) := by
  refine only_step (l := [.out, .od, .hA, .hB, .can, .dev, .path, .linen, .tweed]) ?_ hm₀ h₀
  unfold Blk.releaseAt
  repeat (first | assumption | with_reducible apply only_refl | (with_reducible apply Blk.onRgn_only <;> [decide; skip]) | (with_reducible apply Blk.expel_only <;> [decide; skip]) | with_reducible apply only_ite)

theorem Blk.releaseAction_only {m₀ : List Part} {b₀ : Blk} (b : Blk) (src : Src) (sub : Nat) (f : Blk → Rgn → Blk) (hm₀ : within [.out, .od, .can] m₀) (hf : ∀ c g, Only m₀ b₀ c → Only m₀ b₀ (f c g)) (h₀ : Only m₀ b₀ b) : Only m₀ b₀ (Blk.releaseAction b src sub f) := by
  unfold Blk.releaseAction
  repeat (first | assumption | (with_reducible apply Blk.odSet_only <;> [(refine within_trans ?_ hm₀; decide); skip]) | (with_reducible apply Blk.wrote_only <;> [(refine within_trans ?_ hm₀; decide); skip]) | (with_reducible apply hf) | (with_reducible apply only_ite) | extract_lets | split | (intro c hc) | (refine ⟨fun p hp => same_trans (h₀.same p hp) ?_⟩; cases p <;> first | rfl | exact absurd (by (first | assumption | (refine List.contains_iff_mem.1 (List.all_eq_true.1 hm₀ _ (by decide))))) hp))

theorem Blk.askRelease_only {m₀ : List Part} {b₀ : Blk} (b : Blk) (g : Rgn) (hm₀ : within [.out, .hA, .hB] m₀) (h₀ : Only m₀ b₀ b) : Only m₀ b₀ (Blk.askRelease b g) := by
  refine only_step (l := [.out, .hA, .hB]) ?_ hm₀ h₀
  unfold Blk.askRelease
  repeat (first | assumption | with_reducible apply only_refl | (with_reducible apply Blk.dcRecord_only <;> [decide; skip]))

theorem Blk.forceRelease_only {m₀ : List Part} {b₀ : Blk} (b : Blk) (g : Rgn) (hm₀ : within [.out, .od, .hA, .hB, .can, .dev, .path, .linen, .tweed] m₀) (h₀ : Only m₀ b₀ b) : Only m₀ b₀ (Blk.forceRelease b g) := by
  refine only_step (l := [.out, .od, .hA, .hB, .can, .dev, .path, .linen, .tweed]) ?_ hm₀ h₀
  unfold Blk.forceRelease
  repeat (first | assumption | with_reducible apply only_refl | (with_reducible apply Blk.onDev_only <;> [decide; skip]) | (with_reducible apply Blk.onHead_only <;> [decide; skip]) | (with_reducible apply Blk.onRgn_only <;> [decide; skip]) | (with_reducible apply Blk.dcRecord_only <;> [decide; skip]) | (with_reducible apply Blk.rgnEvent_only <;> [decide; skip]) | (with_reducible apply Blk.expel_only <;> [decide; skip]) | (with_reducible refine only_foldl (fun c x hc => ?_) _ _ ?_) | extract_lets | (dsimp +zetaDelta only))

theorem Blk.dropRegionLines_only {m₀ : List Part} {b₀ : Blk} (b : Blk) (g : Rgn) (hm₀ : within [.path, .velvet, .twill] m₀) (h₀ : Only m₀ b₀ b) : Only m₀ b₀ (Blk.dropRegionLines b g) := by
  refine only_step (l := [.path, .velvet, .twill]) ?_ hm₀ h₀
  unfold Blk.dropRegionLines
  repeat (first | assumption | with_reducible apply only_refl | (with_reducible apply Blk.onPath_only <;> [decide; skip]) | (with_reducible apply Blk.onVelvet_only <;> [decide; skip]) | (with_reducible apply Blk.onTwill_only <;> [decide; skip]) | extract_lets | (dsimp +zetaDelta only))

theorem Blk.dropRegionHot_only {m₀ : List Part} {b₀ : Blk} (b : Blk) (g : Rgn) (hm₀ : within [.media, .twill] m₀) (h₀ : Only m₀ b₀ b) : Only m₀ b₀ (Blk.dropRegionHot b g) := by
  refine only_step (l := [.media, .twill]) ?_ hm₀ h₀
  unfold Blk.dropRegionHot
  repeat (first | assumption | with_reducible apply only_refl | (with_reducible apply onMedia_keep <;> [decide; (intro; exact ⟨rfl, rfl⟩); skip]) | (with_reducible apply Blk.onTwill_only <;> [decide; skip]) | (with_reducible apply Blk.clearHot_only <;> [decide; skip]) | (with_reducible apply Blk.invalidate_only <;> [decide; skip]) | (with_reducible apply Blk.wasteCopy_only <;> [decide; skip]) | (with_reducible refine only_foldl (fun c x hc => ?_) _ _ ?_) | extract_lets | split | (dsimp +zetaDelta only))

theorem Blk.clearTagLine_only {m₀ : List Part} {b₀ : Blk} (b : Blk) (ti : Nat) (hm₀ : within [.out, .od, .hA, .hB, .can, .lines, .twill, .damask, .linen, .tweed] m₀) (h₀ : Only m₀ b₀ b) : Only m₀ b₀ (Blk.clearTagLine b ti) := by
  refine only_step (l := [.out, .od, .hA, .hB, .can, .lines, .twill, .damask, .linen, .tweed]) ?_ hm₀ h₀
  unfold Blk.clearTagLine
  repeat (first | assumption | with_reducible apply only_refl | (with_reducible apply Blk.onDamask_only <;> [decide; skip]) | (with_reducible apply Blk.putTag_only <;> [decide; skip]) | (with_reducible apply Blk.flushTag_only <;> [decide; skip]) | with_reducible apply only_ite | extract_lets | (dsimp +zetaDelta only))

theorem Blk.clearRegionTags_only {m₀ : List Part} {b₀ : Blk} (b : Blk) (g : Rgn) (hm₀ : within [.out, .od, .hA, .hB, .can, .lines, .twill, .damask, .linen, .tweed] m₀) (h₀ : Only m₀ b₀ b) : Only m₀ b₀ (Blk.clearRegionTags b g) := by
  refine only_step (l := [.out, .od, .hA, .hB, .can, .lines, .twill, .damask, .linen, .tweed]) ?_ hm₀ h₀
  unfold Blk.clearRegionTags
  extract_lets b1
  refine only_foldl (fun c x hc => only_foldl (fun c y hc => ?_) _ _ hc) _ _ ?_ <;> repeat (first | assumption | with_reducible apply only_refl | (with_reducible apply Blk.onDamask_only <;> [decide; skip]) | (with_reducible apply Blk.clearTagLine_only <;> [decide; skip]))

theorem Blk.clearUnit_only {m₀ : List Part} {b₀ : Blk} (b : Blk) (r : Nat) (hm₀ : within [.out, .od, .hA, .hB, .muslin, .can, .dev, .lines, .media, .twill, .gauze, .linen, .tweed, .modes] m₀) (h₀ : Only m₀ b₀ b) : Only m₀ b₀ (Blk.clearUnit b r) := by
  refine only_step (l := [.out, .od, .hA, .hB, .muslin, .can, .dev, .lines, .media, .twill, .gauze, .linen, .tweed, .modes]) ?_ hm₀ h₀
  unfold Blk.clearUnit
  repeat (first | assumption | with_reducible apply only_refl | (with_reducible apply Blk.onTwill_only <;> [decide; skip]) | (with_reducible apply Blk.areaNew_only <;> [decide; skip]) | (with_reducible apply Blk.giveUp_only <;> [decide; skip]) | (with_reducible apply Blk.dropMigration_only <;> [decide; skip]) | extract_lets | split | (dsimp +zetaDelta only))

theorem Blk.freeRegion_only {m₀ : List Part} {b₀ : Blk} (b : Blk) (g : Rgn) (hm₀ : within [.free, .out, .od, .hA, .hB, .muslin, .can, .dev, .lines, .poison, .media, .twill, .gauze, .linen, .tweed, .modes] m₀) (h₀ : Only m₀ b₀ b) : Only m₀ b₀ (Blk.freeRegion b g) := by
  refine only_step (l := [.free, .out, .od, .hA, .hB, .muslin, .can, .dev, .lines, .poison, .media, .twill, .gauze, .linen, .tweed, .modes]) ?_ hm₀ h₀
  unfold Blk.freeRegion
  repeat (first | assumption | with_reducible apply only_refl | (with_reducible apply onMedia_keep <;> [decide; (intro; exact ⟨rfl, rfl⟩); skip]) | (with_reducible apply Blk.onDev_only <;> [decide; skip]) | (with_reducible apply Blk.unlistHalf_only <;> [decide; skip]) | (with_reducible apply Blk.issueRecords_only <;> [decide; skip]) | (with_reducible apply Blk.dcRecord_only <;> [decide; skip]) | (with_reducible apply Blk.rgnEvent_only <;> [decide; skip]) | (with_reducible apply Blk.clearUnit_only <;> [decide; skip]) | (with_reducible refine only_foldl (fun c x hc => ?_) _ _ ?_) | with_reducible apply only_ite | extract_lets | (dsimp +zetaDelta only))

theorem Blk.endDemotion_only {m₀ : List Part} {b₀ : Blk} (b : Blk) (li key : Nat) (e : HotEntry) (hm₀ : within [.od, .twill] m₀) (h₀ : Only m₀ b₀ b) : Only m₀ b₀ (Blk.endDemotion b li key e) := by
  refine only_step (l := [.od, .twill]) ?_ hm₀ h₀
  unfold Blk.endDemotion
  repeat (first | assumption | with_reducible apply only_refl | (with_reducible apply Blk.onTwill_only <;> [decide; skip]) | (with_reducible apply Blk.bump_only <;> [decide; skip]) | (with_reducible apply Blk.clearHot_only <;> [decide; skip]) | (with_reducible apply Blk.invalidate_only <;> [decide; skip]) | extract_lets | split | (dsimp +zetaDelta only))

theorem Blk.goHome_only {m₀ : List Part} {b₀ : Blk} (b : Blk) (li : Nat) (hm₀ : within [.free, .out, .od, .hA, .hB, .can, .path, .lines, .media, .velvet, .twill, .damask, .linen, .tweed] m₀) (h₀ : Only m₀ b₀ b) : Only m₀ b₀ (Blk.goHome b li) := by
  refine only_step (l := [.free, .out, .od, .hA, .hB, .can, .path, .lines, .media, .velvet, .twill, .damask, .linen, .tweed]) ?_ hm₀ h₀
  unfold Blk.goHome
  repeat (first | assumption | with_reducible apply only_refl | (with_reducible apply Blk.abandonDemotion_only <;> [decide; skip]) | (with_reducible apply Blk.program_only <;> [decide; skip]) | (with_reducible apply Blk.retag_only <;> [decide; skip]) | (with_reducible apply Blk.bufferDone_only <;> [decide; skip]) | (with_reducible apply Blk.throughDone_only <;> [decide; skip]) | (with_reducible apply Blk.wrote_only <;> [decide; skip]) | (with_reducible apply Blk.endDemotion_only <;> [decide; skip]) | with_reducible apply only_ite | extract_lets | split | (dsimp +zetaDelta only))

theorem Blk.commitDemotion_only {m₀ : List Part} {b₀ : Blk} (b : Blk) (li : Nat) (hm₀ : within [.free, .out, .od, .hA, .hB, .can, .path, .lines, .media, .velvet, .twill, .damask, .linen, .tweed] m₀) (h₀ : Only m₀ b₀ b) : Only m₀ b₀ (Blk.commitDemotion b li) := by
  refine only_step (l := [.free, .out, .od, .hA, .hB, .can, .path, .lines, .media, .velvet, .twill, .damask, .linen, .tweed]) ?_ hm₀ h₀
  unfold Blk.commitDemotion
  repeat (first | assumption | with_reducible apply only_refl | (with_reducible apply Blk.goHome_only <;> [decide; skip]) | with_reducible apply only_ite)

theorem Blk.sendHome_only {m₀ : List Part} {b₀ : Blk} (b : Blk) (li : Nat) (data : Line) (hm₀ : within [.free, .out, .od, .hA, .hB, .can, .path, .lines, .poison, .media, .velvet, .twill, .damask, .linen, .tweed, .modes] m₀) (h₀ : Only m₀ b₀ b) : Only m₀ b₀ (Blk.sendHome b li data) := by
  refine only_step (l := [.free, .out, .od, .hA, .hB, .can, .path, .lines, .poison, .media, .velvet, .twill, .damask, .linen, .tweed, .modes]) ?_ hm₀ h₀
  unfold Blk.sendHome
  repeat (first | assumption | with_reducible apply only_refl | (with_reducible apply Blk.journalRec_only <;> [decide; skip]) | (with_reducible apply Blk.writeHomeNow_only <;> [decide; skip]) | (with_reducible apply Blk.goHome_only <;> [decide; skip]) | with_reducible apply only_ite | extract_lets | (dsimp +zetaDelta only))

theorem Blk.placeLine_only {m₀ : List Part} {b₀ : Blk} (b : Blk) (li : Nat) (data : Line) (hm₀ : within [.free, .out, .od, .hA, .hB, .can, .path, .lines, .poison, .media, .velvet, .twill, .damask, .linen, .tweed, .modes] m₀) (h₀ : Only m₀ b₀ b) : Only m₀ b₀ (Blk.placeLine b li data) := by
  refine only_step (l := [.free, .out, .od, .hA, .hB, .can, .path, .lines, .poison, .media, .velvet, .twill, .damask, .linen, .tweed, .modes]) ?_ hm₀ h₀
  unfold Blk.placeLine
  repeat (first | assumption | with_reducible apply only_refl | (with_reducible apply Blk.appendNow_only <;> [decide; skip]) | (with_reducible apply Blk.sendHome_only <;> [decide; skip]) | with_reducible apply only_ite | split)

theorem Blk.endProgram_only {m₀ : List Part} {b₀ : Blk} (b : Blk) (pid : Nat) (hm₀ : within [.free, .out, .od, .hA, .hB, .muslin, .can, .dev, .path, .lines, .poison, .media, .velvet, .twill, .gauze, .damask, .linen, .tweed, .modes, .safety] m₀) (h₀ : Only m₀ b₀ b) : Only m₀ b₀ (Blk.endProgram b pid) := by
  refine only_step (l := [.free, .out, .od, .hA, .hB, .muslin, .can, .dev, .path, .lines, .poison, .media, .velvet, .twill, .gauze, .damask, .linen, .tweed, .modes, .safety]) ?_ hm₀ h₀
  unfold Blk.endProgram
  repeat (first | assumption | with_reducible apply only_refl | (with_reducible apply Blk.verifyEnds_only <;> [decide; skip]) | (with_reducible apply Blk.programEnds_only <;> [decide; skip]))

theorem Blk.endPrograms_only {m₀ : List Part} {b₀ : Blk} (b : Blk) (hm₀ : within [.free, .out, .od, .hA, .hB, .muslin, .can, .dev, .path, .lines, .poison, .media, .velvet, .twill, .gauze, .damask, .linen, .tweed, .modes, .safety] m₀) (h₀ : Only m₀ b₀ b) : Only m₀ b₀ (Blk.endPrograms b) := by
  refine only_step (l := [.free, .out, .od, .hA, .hB, .muslin, .can, .dev, .path, .lines, .poison, .media, .velvet, .twill, .gauze, .damask, .linen, .tweed, .modes, .safety]) ?_ hm₀ h₀
  unfold Blk.endPrograms
  repeat (first | assumption | with_reducible apply only_refl | (with_reducible apply onMedia_keep <;> [decide; (intro; exact ⟨rfl, rfl⟩); skip]) | (with_reducible apply Blk.storeLine_only <;> [decide; skip]) | (with_reducible apply Blk.countWrites_only <;> [decide; skip]) | (with_reducible apply Blk.programStored_only <;> [decide; skip]) | (with_reducible apply Blk.endProgram_only <;> [decide; skip]) | (with_reducible refine only_foldl (fun c x hc => ?_) _ _ ?_) | extract_lets | (dsimp +zetaDelta only))

theorem Blk.endJob_only {m₀ : List Part} {b₀ : Blk} (b : Blk) (n : Nat) (hm₀ : within [.free, .out, .od, .hA, .hB, .can, .dev, .path, .lines, .poison, .media, .velvet, .twill, .gauze, .damask, .linen, .tweed, .modes, .safety] m₀) (h₀ : Only m₀ b₀ b) : Only m₀ b₀ (Blk.endJob b n) := by
  refine only_step (l := [.free, .out, .od, .hA, .hB, .can, .dev, .path, .lines, .poison, .media, .velvet, .twill, .gauze, .damask, .linen, .tweed, .modes, .safety]) ?_ hm₀ h₀
  unfold Blk.endJob
  repeat (first | assumption | with_reducible apply only_refl | (with_reducible apply Blk.writeNow_only <;> [decide; skip]) | (with_reducible apply Blk.dropJob_only <;> [decide; skip]) | (with_reducible apply Blk.tagWritten_only <;> [decide; skip]) | (with_reducible apply Blk.jobEffect_only <;> [decide; skip]) | (with_reducible refine only_foldl (fun c x hc => ?_) _ _ ?_) | with_reducible apply only_ite | extract_lets | split | (dsimp +zetaDelta only))

theorem Blk.endWork_only {m₀ : List Part} {b₀ : Blk} (b : Blk) (hm₀ : within [.free, .out, .od, .hA, .hB, .can, .dev, .path, .lines, .poison, .media, .velvet, .twill, .gauze, .damask, .linen, .tweed, .modes, .safety] m₀) (h₀ : Only m₀ b₀ b) : Only m₀ b₀ (Blk.endWork b) := by
  refine only_step (l := [.free, .out, .od, .hA, .hB, .can, .dev, .path, .lines, .poison, .media, .velvet, .twill, .gauze, .damask, .linen, .tweed, .modes, .safety]) ?_ hm₀ h₀
  unfold Blk.endWork
  repeat (first | assumption | with_reducible apply only_refl | (with_reducible apply onMedia_keep <;> [decide; (intro; exact ⟨rfl, rfl⟩); skip]) | (with_reducible apply Blk.abandonDemotion_only <;> [decide; skip]) | (with_reducible apply Blk.applySwitch_only <;> [decide; skip]) | (with_reducible apply Blk.goHome_only <;> [decide; skip]) | (with_reducible apply Blk.endJob_only <;> [decide; skip]) | (with_reducible refine only_foldl (fun c x hc => ?_) _ _ ?_) | with_reducible apply only_ite | extract_lets | (dsimp +zetaDelta only))

theorem Blk.flushBuf_only {m₀ : List Part} {b₀ : Blk} (b : Blk) (n : Nat) (hm₀ : within [.free, .out, .od, .hA, .hB, .can, .path, .lines, .poison, .media, .velvet, .twill, .damask, .linen, .tweed, .modes] m₀) (h₀ : Only m₀ b₀ b) : Only m₀ b₀ (Blk.flushBuf b n) := by
  refine only_step (l := [.free, .out, .od, .hA, .hB, .can, .path, .lines, .poison, .media, .velvet, .twill, .damask, .linen, .tweed, .modes]) ?_ hm₀ h₀
  unfold Blk.flushBuf
  repeat (first | assumption | with_reducible apply only_refl | (with_reducible apply Blk.putBuf_only <;> [decide; skip]) | (with_reducible apply Blk.bufferDone_only <;> [decide; skip]) | (with_reducible apply Blk.placeLine_only <;> [decide; skip]) | split)

theorem Blk.wholeLine_only {m₀ : List Part} {b₀ : Blk} (b : Blk) (li : Nat) (v : VWay) (hm₀ : within [.free, .out, .od, .hA, .hB, .can, .path, .poison, .media, .linen, .tweed, .modes] m₀) (h₀ : Only m₀ b₀ b) : Only m₀ b₀ (Blk.wholeLine b li v).1 := by
  refine only_step (l := [.free, .out, .od, .hA, .hB, .can, .path, .poison, .media, .linen, .tweed, .modes]) ?_ hm₀ h₀
  unfold Blk.wholeLine
  refine only_ite_fst (only_refl _ _) ?_
  split
  · exact only_refl _ _
  · repeat (first | assumption | with_reducible apply only_refl | (with_reducible apply Blk.listInternal_only <;> [decide; skip]) | with_reducible apply only_ite | extract_lets | dsimp only)

theorem Blk.flushWay_only {m₀ : List Part} {b₀ : Blk} (b : Blk) (key : Nat) (hm₀ : within [.free, .out, .od, .hA, .hB, .can, .path, .lines, .poison, .media, .velvet, .twill, .damask, .linen, .tweed, .modes] m₀) (h₀ : Only m₀ b₀ b) : Only m₀ b₀ (Blk.flushWay b key) := by
  refine only_step (l := [.free, .out, .od, .hA, .hB, .can, .path, .lines, .poison, .media, .velvet, .twill, .damask, .linen, .tweed, .modes]) ?_ hm₀ h₀
  unfold Blk.flushWay
  repeat (first | assumption | with_reducible apply only_refl | (with_reducible apply Blk.putWay_only <;> [decide; skip]) | (with_reducible apply Blk.barriersDone_only <;> [decide; skip]) | (with_reducible apply Blk.completeWrites_only <;> [decide; skip]) | (with_reducible apply Blk.placeLine_only <;> [decide; skip]) | (with_reducible apply Blk.wholeLine_only <;> [decide; skip]) | with_reducible apply only_ite | extract_lets | split | (dsimp +zetaDelta only))

theorem Blk.flushAll_only {m₀ : List Part} {b₀ : Blk} (b : Blk) (hm₀ : within [.free, .out, .od, .hA, .hB, .muslin, .can, .dev, .path, .lines, .poison, .media, .velvet, .twill, .gauze, .damask, .linen, .tweed, .modes, .safety] m₀) (h₀ : Only m₀ b₀ b) : Only m₀ b₀ (Blk.flushAll b) := by
  refine only_step (l := [.free, .out, .od, .hA, .hB, .muslin, .can, .dev, .path, .lines, .poison, .media, .velvet, .twill, .gauze, .damask, .linen, .tweed, .modes, .safety]) ?_ hm₀ h₀
  unfold Blk.flushAll
  repeat (first | assumption | with_reducible apply only_refl | (with_reducible apply Blk.maintain_only <;> [decide; skip]) | (with_reducible apply Blk.endPrograms_only <;> [decide; skip]) | (with_reducible apply Blk.endWork_only <;> [decide; skip]) | (with_reducible apply Blk.flushBuf_only <;> [decide; skip]) | (with_reducible apply Blk.flushWay_only <;> [decide; skip]) | (with_reducible refine only_foldl (fun c x hc => ?_) _ _ ?_) | extract_lets | (dsimp +zetaDelta only))

theorem Blk.applyMode_only {m₀ : List Part} {b₀ : Blk} (b : Blk) (hm₀ : within [.free, .out, .od, .hA, .hB, .muslin, .can, .dev, .path, .lines, .poison, .media, .velvet, .twill, .gauze, .damask, .linen, .tweed, .modes, .safety] m₀) (h₀ : Only m₀ b₀ b) : Only m₀ b₀ (Blk.applyMode b) := by
  refine only_step (l := [.free, .out, .od, .hA, .hB, .muslin, .can, .dev, .path, .lines, .poison, .media, .velvet, .twill, .gauze, .damask, .linen, .tweed, .modes, .safety]) ?_ hm₀ h₀
  unfold Blk.applyMode
  repeat (first | assumption | with_reducible apply only_refl | (with_reducible apply Blk.onVelvet_only <;> [decide; skip]) | (with_reducible apply Blk.bump_only <;> [decide; skip]) | (with_reducible apply Blk.report_only <;> [decide; skip]) | (with_reducible apply Blk.healthCheck_only <;> [decide; skip]) | (with_reducible apply Blk.cleanBudget_only <;> [decide; skip]) | (with_reducible apply Blk.flushAll_only <;> [decide; skip]) | with_reducible apply only_ite | extract_lets | (dsimp +zetaDelta only))

theorem Blk.energyReport_only {m₀ : List Part} {b₀ : Blk} (b : Blk) (eu : Nat) (hm₀ : within [.free, .out, .od, .hA, .hB, .muslin, .can, .dev, .path, .lines, .poison, .media, .velvet, .twill, .gauze, .damask, .linen, .tweed, .modes, .safety] m₀) (h₀ : Only m₀ b₀ b) : Only m₀ b₀ (Blk.energyReport b eu) := by
  refine only_step (l := [.free, .out, .od, .hA, .hB, .muslin, .can, .dev, .path, .lines, .poison, .media, .velvet, .twill, .gauze, .damask, .linen, .tweed, .modes, .safety]) ?_ hm₀ h₀
  unfold Blk.energyReport
  repeat (first | assumption | with_reducible apply only_refl | (with_reducible apply Blk.onVelvet_only <;> [decide; skip]) | (with_reducible apply Blk.applyMode_only <;> [decide; skip]) | with_reducible apply only_ite)

theorem Blk.linkChange_only {m₀ : List Part} {b₀ : Blk} (b : Blk) (h : Head) (f : HeadSt → HeadSt) (hm₀ : within [.od, .hA, .hB] m₀) (h₀ : Only m₀ b₀ b) : Only m₀ b₀ (Blk.linkChange b h f) := by
  refine only_step (l := [.od, .hA, .hB]) ?_ hm₀ h₀
  unfold Blk.linkChange
  repeat (first | assumption | with_reducible apply only_refl | (with_reducible apply Blk.onHead_only <;> [decide; skip]) | (with_reducible apply Blk.bump_only <;> [decide; skip]) | (with_reducible refine only_foldl (fun c x hc => ?_) _ _ ?_) | with_reducible apply only_ite | extract_lets | (dsimp +zetaDelta only))

theorem Blk.dropRequests_only {m₀ : List Part} {b₀ : Blk} (b : Blk) (h : Head) (hm₀ : within [.hA, .hB, .path] m₀) (h₀ : Only m₀ b₀ b) : Only m₀ b₀ (Blk.dropRequests b h) := by
  refine only_step (l := [.hA, .hB, .path]) ?_ hm₀ h₀
  unfold Blk.dropRequests
  repeat (first | assumption | with_reducible apply only_refl | (with_reducible apply Blk.onPath_only <;> [decide; skip]) | (with_reducible apply Blk.clearIngress_only <;> [decide; skip]) | with_reducible apply only_ite)

theorem Blk.muteMailbox_only {m₀ : List Part} {b₀ : Blk} (b : Blk) (h : Head) (hm₀ : within [.out, .muslin, .can, .velvet] m₀) (h₀ : Only m₀ b₀ b) : Only m₀ b₀ (Blk.muteMailbox b h) := by
  refine only_step (l := [.out, .muslin, .can, .velvet]) ?_ hm₀ h₀
  unfold Blk.muteMailbox
  repeat (first | assumption | with_reducible apply only_refl | (with_reducible apply Blk.onMuslin_only <;> [decide; skip]) | (with_reducible apply Blk.onVelvet_only <;> [decide; skip]) | (with_reducible apply Blk.reply_only <;> [decide; skip]) | with_reducible apply only_ite | extract_lets | split | (dsimp +zetaDelta only))

theorem Blk.closeSession_only {m₀ : List Part} {b₀ : Blk} (b : Blk) (t : Nat) (hm₀ : within [.sesA, .sesB, .sesC] m₀) (h₀ : Only m₀ b₀ b) : Only m₀ b₀ (Blk.closeSession b t) := by
  refine only_step (l := [.sesA, .sesB, .sesC]) ?_ hm₀ h₀
  unfold Blk.closeSession
  repeat (first | assumption | with_reducible apply only_refl | (with_reducible apply Blk.onSession_only <;> [decide; skip]))

theorem Blk.abortBulk_only {m₀ : List Part} {b₀ : Blk} (b : Blk) (h : Head) (hm₀ : within [.hA, .hB, .damask] m₀) (h₀ : Only m₀ b₀ b) : Only m₀ b₀ (Blk.abortBulk b h) := by
  refine only_step (l := [.hA, .hB, .damask]) ?_ hm₀ h₀
  unfold Blk.abortBulk
  repeat (first | assumption | with_reducible apply only_refl | (with_reducible apply Blk.onDamask_only <;> [decide; skip]) | (with_reducible apply Blk.onHead_only <;> [decide; skip]))

theorem Blk.resetOwner_only {m₀ : List Part} {b₀ : Blk} (b : Blk) (h : Head) (hm₀ : within [.out, .od, .muslin, .can] m₀) (h₀ : Only m₀ b₀ b) : Only m₀ b₀ (Blk.resetOwner b h) := by
  refine only_step (l := [.out, .od, .muslin, .can]) ?_ hm₀ h₀
  unfold Blk.resetOwner
  repeat (first | assumption | with_reducible apply only_refl | (with_reducible apply Blk.discardStaged_only <;> [decide; skip]) | with_reducible apply only_ite)

theorem Blk.linkFalls_only {m₀ : List Part} {b₀ : Blk} (b : Blk) (h : Head) (hm₀ : within [.out, .od, .hA, .hB, .can, .path, .linen] m₀) (h₀ : Only m₀ b₀ b) : Only m₀ b₀ (Blk.linkFalls b h) := by
  refine only_step (l := [.out, .od, .hA, .hB, .can, .path, .linen]) ?_ hm₀ h₀
  unfold Blk.linkFalls
  repeat (first | assumption | with_reducible apply only_refl | (with_reducible apply Blk.onHead_only <;> [decide; skip]) | (with_reducible apply Blk.bump_only <;> [decide; skip]) | (with_reducible apply Blk.report_only <;> [decide; skip]) | (with_reducible apply Blk.linkChange_only <;> [decide; skip]) | (with_reducible apply Blk.dropRequests_only <;> [decide; skip]) | with_reducible apply only_ite | extract_lets | (dsimp +zetaDelta only))

theorem Blk.newPlan_only {m₀ : List Part} {b₀ : Blk} (b : Blk) (hm₀ : within [.twill] m₀) (h₀ : Only m₀ b₀ b) : Only m₀ b₀ (Blk.newPlan b) := by
  refine only_step (l := [.twill]) ?_ hm₀ h₀
  unfold Blk.newPlan
  repeat (first | assumption | with_reducible apply only_refl | (with_reducible apply Blk.onTwill_only <;> [decide; skip]) | (with_reducible refine only_foldl (fun c x hc => ?_) _ _ ?_) | extract_lets | (dsimp +zetaDelta only))

theorem Blk.leaveRow_only {m₀ : List Part} {b₀ : Blk} (b : Blk) (n : Nat) (hm₀ : within [.twill] m₀) (h₀ : Only m₀ b₀ b) : Only m₀ b₀ (Blk.leaveRow b n) := by
  refine only_step (l := [.twill]) ?_ hm₀ h₀
  unfold Blk.leaveRow
  repeat (first | assumption | with_reducible apply only_refl | (with_reducible apply Blk.onTwill_only <;> [decide; skip]) | with_reducible apply only_ite | extract_lets | split | (dsimp +zetaDelta only))

theorem Blk.closeStripes_only {m₀ : List Part} {b₀ : Blk} (b : Blk) (now : Bool) (hm₀ : within [.free, .out, .od, .hA, .hB, .can, .lines, .media, .twill, .linen, .tweed] m₀) (h₀ : Only m₀ b₀ b) : Only m₀ b₀ (Blk.closeStripes b now) := by
  refine only_step (l := [.free, .out, .od, .hA, .hB, .can, .lines, .media, .twill, .linen, .tweed]) ?_ hm₀ h₀
  unfold Blk.closeStripes
  repeat (first | assumption | with_reducible apply only_refl | (with_reducible apply Blk.closeStripe_only <;> [decide; skip]) | (with_reducible refine only_foldl (fun c x hc => ?_) _ _ ?_))

theorem Blk.openLanes_only {m₀ : List Part} {b₀ : Blk} (b : Blk) (hm₀ : within [.twill] m₀) (h₀ : Only m₀ b₀ b) : Only m₀ b₀ (Blk.openLanes b) := by
  refine only_step (l := [.twill]) ?_ hm₀ h₀
  unfold Blk.openLanes
  repeat (first | assumption | with_reducible apply only_refl | (with_reducible apply Blk.onTwill_only <;> [decide; skip]) | (with_reducible apply Blk.nextRow_only <;> [decide; skip]) | (with_reducible refine only_foldl (fun c x hc => ?_) _ _ ?_))

theorem Blk.swapClass_only {m₀ : List Part} {b₀ : Blk} (b : Blk) (c : Cls) (b1 : Blk) (hm₀ : within [.free, .out, .od, .hA, .hB, .muslin, .can, .dev, .lines, .media, .twill, .linen, .tweed, .modes] m₀) (h₀ : Only m₀ b₀ b) (h₁ : Only m₀ b₀ b1) : Only m₀ b₀ (Blk.swapClass b c b1) := by
  have hs {l : List Part} (hl : within l [.free, .out, .od, .hA, .hB, .muslin, .can, .dev, .lines, .media, .twill, .linen, .tweed, .modes]) : within l m₀ := within_trans hl hm₀
  unfold Blk.swapClass
  split
  · split
    · exact h₀
    · exact Blk.freeSlot_only _ _ _ (hs (by decide)) (Blk.swapHot_only _ _ _ (hs (by decide)) (Blk.useFree_only _ (hs (by decide)) h₁))
  · exact h₀

theorem Blk.balanceHot_only {m₀ : List Part} {b₀ : Blk} (b : Blk) (hm₀ : within [.free, .out, .od, .hA, .hB, .muslin, .can, .dev, .lines, .media, .twill, .linen, .tweed, .modes] m₀) (h₀ : Only m₀ b₀ b) : Only m₀ b₀ (Blk.balanceHot b) := by
  unfold Blk.balanceHot
  split
  · exact h₀
  · exact Blk.swapClass_only _ _ _ hm₀ h₀ (Blk.widen_only _ _ (within_trans (by decide) hm₀) h₀)

theorem Blk.balancePool_only {m₀ : List Part} {b₀ : Blk} (b : Blk) (hm₀ : within [.free, .out, .od, .hA, .hB, .muslin, .can, .dev, .lines, .media, .twill, .linen, .tweed, .modes] m₀) (h₀ : Only m₀ b₀ b) : Only m₀ b₀ (Blk.balancePool b) := by
  refine only_step (l := [.free, .out, .od, .hA, .hB, .muslin, .can, .dev, .lines, .media, .twill, .linen, .tweed, .modes]) ?_ hm₀ h₀
  unfold Blk.balancePool
  repeat (first | assumption | with_reducible apply only_refl | (with_reducible apply Blk.balanceHot_only <;> [decide; skip]) | (with_reducible refine only_foldl (fun c x hc => ?_) _ _ ?_))

theorem Blk.turnPlan_only {m₀ : List Part} {b₀ : Blk} (b : Blk) (now : Bool) (hm₀ : within [.free, .out, .od, .hA, .hB, .muslin, .can, .dev, .lines, .media, .twill, .gauze, .linen, .tweed, .modes] m₀) (h₀ : Only m₀ b₀ b) : Only m₀ b₀ (Blk.turnPlan b now) := by
  refine only_step (l := [.free, .out, .od, .hA, .hB, .muslin, .can, .dev, .lines, .media, .twill, .gauze, .linen, .tweed, .modes]) ?_ hm₀ h₀
  unfold Blk.turnPlan
  repeat (first | assumption | with_reducible apply only_refl | (with_reducible apply Blk.onTwill_only <;> [decide; skip]) | (with_reducible apply Blk.onGauze_only <;> [decide; skip]) | (with_reducible apply Blk.newPlan_only <;> [decide; skip]) | (with_reducible apply Blk.leaveRow_only <;> [decide; skip]) | (with_reducible apply Blk.closeStripes_only <;> [decide; skip]) | (with_reducible apply Blk.openLanes_only <;> [decide; skip]) | (with_reducible apply Blk.balancePool_only <;> [decide; skip]) | (with_reducible refine only_foldl (fun c x hc => ?_) _ _ ?_) | extract_lets | (dsimp +zetaDelta only))

theorem Blk.fillPool_only {m₀ : List Part} {b₀ : Blk} (b : Blk) (hm₀ : within [.free, .twill] m₀) (h₀ : Only m₀ b₀ b) : Only m₀ b₀ (Blk.fillPool b) := by
  refine only_step (l := [.free, .twill]) ?_ hm₀ h₀
  unfold Blk.fillPool
  repeat (first | assumption | with_reducible apply only_refl | (with_reducible apply Blk.useFree_only <;> [decide; skip]) | (with_reducible apply Blk.setSlot_only <;> [decide; skip]) | (with_reducible refine only_foldl (fun c x hc => ?_) _ _ ?_) | split)

theorem Blk.provisionSlots_only {m₀ : List Part} {b₀ : Blk} (b : Blk) (hm₀ : within [.free, .media, .twill, .gauze] m₀) (h₀ : Only m₀ b₀ b) : Only m₀ b₀ (Blk.provisionSlots b) := by
  refine only_step (l := [.free, .media, .twill, .gauze]) ?_ hm₀ h₀
  unfold Blk.provisionSlots
  repeat (first | assumption | with_reducible apply only_refl | (with_reducible apply onMedia_keep <;> [decide; (intro; exact ⟨rfl, rfl⟩); skip]) | (with_reducible apply Blk.onTwill_only <;> [decide; skip]) | (with_reducible apply Blk.onGauze_only <;> [decide; skip]) | (with_reducible apply Blk.fillPool_only <;> [decide; skip]) | with_reducible apply only_ite | extract_lets | (dsimp +zetaDelta only))

theorem Blk.heatRegions_only {m₀ : List Part} {b₀ : Blk} (b : Blk) (hm₀ : within [.twill] m₀) (h₀ : Only m₀ b₀ b) : Only m₀ b₀ (Blk.heatRegions b) := by
  refine only_step (l := [.twill]) ?_ hm₀ h₀
  unfold Blk.heatRegions
  repeat (first | assumption | with_reducible apply only_refl | (with_reducible apply Blk.putRegion_only <;> [decide; skip]) | (with_reducible refine only_foldl (fun c x hc => ?_) _ _ ?_) | with_reducible apply only_ite)

theorem Blk.issueDemotions_only {m₀ : List Part} {b₀ : Blk} (b : Blk) (hm₀ : within [.out, .od, .hA, .hB, .can, .lines, .twill, .linen] m₀) (h₀ : Only m₀ b₀ b) : Only m₀ b₀ (Blk.issueDemotions b) := by
  refine only_step (l := [.out, .od, .hA, .hB, .can, .lines, .twill, .linen]) ?_ hm₀ h₀
  unfold Blk.issueDemotions
  repeat (first | assumption | with_reducible apply only_refl | (with_reducible apply Blk.onTwill_only <;> [decide; skip]) | (with_reducible apply Blk.journalRec_only <;> [decide; skip]) | with_reducible apply only_ite | extract_lets | (dsimp +zetaDelta only))

theorem Blk.metaFail_only {m₀ : List Part} {b₀ : Blk} (b : Blk) (x : Mem) (hm₀ : within [.free, .out, .od, .hA, .hB, .muslin, .can, .dev, .path, .lines, .poison, .media, .twill, .damask, .linen, .tweed, .modes, .safety] m₀) (h₀ : Only m₀ b₀ b) : Only m₀ b₀ (Blk.metaFail b x) := by
  refine only_step (l := [.free, .out, .od, .hA, .hB, .muslin, .can, .dev, .path, .lines, .poison, .media, .twill, .damask, .linen, .tweed, .modes, .safety]) ?_ hm₀ h₀
  unfold Blk.metaFail
  repeat (first | assumption | with_reducible apply only_refl | (with_reducible apply onMedia_keep <;> [decide; (intro; exact ⟨rfl, rfl⟩); skip]) | (with_reducible apply Blk.reportUnit_only <;> [decide; skip]) | (with_reducible apply Blk.countWrites_only <;> [decide; skip]) | (with_reducible apply Blk.storeLine_only <;> [decide; skip]) | (with_reducible apply Blk.useFree_only <;> [decide; skip]) | (with_reducible apply Blk.tileFailure_only <;> [decide; skip]) | with_reducible apply only_ite | extract_lets | (dsimp +zetaDelta only))

theorem Blk.issueFreed_only {m₀ : List Part} {b₀ : Blk} (b : Blk) (hm₀ : within [.out, .od, .hA, .hB, .can, .lines, .twill, .linen] m₀) (h₀ : Only m₀ b₀ b) : Only m₀ b₀ (Blk.issueFreed b) := by
  refine only_step (l := [.out, .od, .hA, .hB, .can, .lines, .twill, .linen]) ?_ hm₀ h₀
  unfold Blk.issueFreed
  repeat (first | assumption | with_reducible apply only_refl | (with_reducible apply Blk.onTwill_only <;> [decide; skip]) | (with_reducible apply Blk.journalRec_only <;> [decide; skip]) | with_reducible apply only_ite | extract_lets | (dsimp +zetaDelta only))

theorem Blk.unmark_only {m₀ : List Part} {b₀ : Blk} (b : Blk) (li : Nat) (hm₀ : within [.velvet] m₀) (h₀ : Only m₀ b₀ b) : Only m₀ b₀ (Blk.unmark b li) := by
  refine only_step (l := [.velvet]) ?_ hm₀ h₀
  unfold Blk.unmark
  extract_lets b1
  have h1 : Only [.velvet] b b1 := by
    show Only _ b (match b.resident li with | some (k, v) => b.putWay k { v with pmark := false } | none => b)
    repeat (first | assumption | with_reducible apply only_refl | (with_reducible apply Blk.putWay_only <;> [decide; skip]) | (with_reducible apply Blk.putBuf_only <;> [decide; skip]) | split)
  repeat (first | assumption | with_reducible apply only_refl | (with_reducible apply Blk.putWay_only <;> [decide; skip]) | (with_reducible apply Blk.putBuf_only <;> [decide; skip]) | with_reducible apply only_ite | split)

theorem Blk.copyRow_only {m₀ : List Part} {b₀ : Blk} (b : Blk) (key : Nat) (hm₀ : within [.free, .media, .twill, .tweed] m₀) (h₀ : Only m₀ b₀ b) : Only m₀ b₀ (Blk.copyRow b key) := by
  refine only_step (l := [.free, .media, .twill, .tweed]) ?_ hm₀ h₀
  unfold Blk.copyRow
  repeat (first | assumption | with_reducible apply only_refl | (with_reducible apply Blk.startJob_only <;> [decide; skip]) | (with_reducible refine only_foldl (fun c x hc => ?_) _ _ ?_) | with_reducible apply only_ite | extract_lets | split | (dsimp +zetaDelta only))

theorem Blk.reclaimRow_only {m₀ : List Part} {b₀ : Blk} (b : Blk) (key : Nat) (x : TileRow) (hm₀ : within [.free, .out, .od, .hA, .hB, .muslin, .can, .dev, .lines, .media, .twill, .gauze, .linen, .tweed, .modes] m₀) (h₀ : Only m₀ b₀ b) : Only m₀ b₀ (Blk.reclaimRow b key x) := by
  refine only_step (l := [.free, .out, .od, .hA, .hB, .muslin, .can, .dev, .lines, .media, .twill, .gauze, .linen, .tweed, .modes]) ?_ hm₀ h₀
  unfold Blk.reclaimRow
  repeat (first | assumption | with_reducible apply only_refl | (with_reducible apply Blk.onTwill_only <;> [decide; skip]) | (with_reducible apply Blk.onGauze_only <;> [decide; skip]) | (with_reducible apply Blk.bump_only <;> [decide; skip]) | (with_reducible apply Blk.areaNew_only <;> [decide; skip]) | (with_reducible apply Blk.exchangeSlot_only <;> [decide; skip]) | (with_reducible apply Blk.resetRow_only <;> [decide; skip]) | with_reducible apply only_ite | extract_lets | split | (dsimp +zetaDelta only))

theorem Blk.collectRows_only {m₀ : List Part} {b₀ : Blk} (b : Blk) (c : Cls) (hm₀ : within [.free, .out, .od, .hA, .hB, .muslin, .can, .dev, .lines, .media, .twill, .gauze, .linen, .tweed, .modes] m₀) (h₀ : Only m₀ b₀ b) : Only m₀ b₀ (Blk.collectRows b c) := by
  refine only_step (l := [.free, .out, .od, .hA, .hB, .muslin, .can, .dev, .lines, .media, .twill, .gauze, .linen, .tweed, .modes]) ?_ hm₀ h₀
  unfold Blk.collectRows
  repeat (first | assumption | with_reducible apply only_refl | (with_reducible apply Blk.copyRow_only <;> [decide; skip]) | (with_reducible apply Blk.reclaimRow_only <;> [decide; skip]) | (with_reducible refine only_foldl (fun c x hc => ?_) _ _ ?_))

theorem Blk.takeRow_only {m₀ : List Part} {b₀ : Blk} (b : Blk) (c : Cls) (hm₀ : within [.twill] m₀) (h₀ : Only m₀ b₀ b) : Only m₀ b₀ (Blk.takeRow b c) := by
  refine only_step (l := [.twill]) ?_ hm₀ h₀
  unfold Blk.takeRow
  repeat (first | assumption | with_reducible apply only_refl | (with_reducible apply Blk.onTwill_only <;> [decide; skip]) | with_reducible apply only_ite | extract_lets | split | (dsimp +zetaDelta only))

theorem Blk.coldSwap_only {m₀ : List Part} {b₀ : Blk} (b : Blk) (c : Cls) (hm₀ : within [.free, .out, .od, .hA, .hB, .muslin, .can, .dev, .lines, .media, .twill, .linen, .tweed, .modes] m₀) (h₀ : Only m₀ b₀ b) : Only m₀ b₀ (Blk.coldSwap b c) := by
  refine only_step (l := [.free, .out, .od, .hA, .hB, .muslin, .can, .dev, .lines, .media, .twill, .linen, .tweed, .modes]) ?_ hm₀ h₀
  unfold Blk.coldSwap
  repeat (first | assumption | with_reducible apply only_refl | (with_reducible apply Blk.useFree_only <;> [decide; skip]) | (with_reducible apply Blk.beginMigration_only <;> [decide; skip]) | with_reducible apply only_ite | extract_lets | split | (dsimp +zetaDelta only))

theorem Blk.startRefresh_only {m₀ : List Part} {b₀ : Blk} (b : Blk) (area : Nat) (rest : List (Nat × Nat)) (hm₀ : within [.twill] m₀) (h₀ : Only m₀ b₀ b) : Only m₀ b₀ (Blk.startRefresh b area rest) := by
  refine only_step (l := [.twill]) ?_ hm₀ h₀
  unfold Blk.startRefresh
  repeat (first | assumption | with_reducible apply only_refl | (with_reducible apply Blk.onTwill_only <;> [decide; skip]))

theorem Blk.ageRegions_only {m₀ : List Part} {b₀ : Blk} (b : Blk) (hm₀ : within [.twill] m₀) (h₀ : Only m₀ b₀ b) : Only m₀ b₀ (Blk.ageRegions b) := by
  refine only_step (l := [.twill]) ?_ hm₀ h₀
  unfold Blk.ageRegions
  repeat (first | assumption | with_reducible apply only_refl | (with_reducible apply Blk.putRegion_only <;> [decide; skip]) | (with_reducible refine only_foldl (fun c x hc => ?_) _ _ ?_) | with_reducible apply only_ite)

theorem Blk.ageSlots_only {m₀ : List Part} {b₀ : Blk} (b : Blk) (hm₀ : within [.gauze] m₀) (h₀ : Only m₀ b₀ b) : Only m₀ b₀ (Blk.ageSlots b) := by
  refine only_step (l := [.gauze]) ?_ hm₀ h₀
  unfold Blk.ageSlots
  repeat (first | assumption | with_reducible apply only_refl | (with_reducible apply Blk.onGauze_only <;> [decide; skip]) | with_reducible apply only_ite)

theorem Blk.putCkptLine_only {m₀ : List Part} {b₀ : Blk} (b : Blk) (i j seq : Nat) (bytes : List Byte) (hm₀ : within [.out, .od, .hA, .hB, .can, .lines, .twill, .linen, .tweed] m₀) (h₀ : Only m₀ b₀ b) : Only m₀ b₀ (Blk.putCkptLine b i j seq bytes) := by
  refine only_step (l := [.out, .od, .hA, .hB, .can, .lines, .twill, .linen, .tweed]) ?_ hm₀ h₀
  unfold Blk.putCkptLine
  repeat (first | assumption | with_reducible apply only_refl | (with_reducible apply Blk.putOwnLine_only <;> [decide; skip]))

theorem Blk.putCkpt_only {m₀ : List Part} {b₀ : Blk} (b : Blk) (k : Ckpt) (hm₀ : within [.out, .od, .hA, .hB, .can, .path, .lines, .twill, .linen, .tweed] m₀) (h₀ : Only m₀ b₀ b) : Only m₀ b₀ (Blk.putCkpt b k) := by
  refine only_step (l := [.out, .od, .hA, .hB, .can, .path, .lines, .twill, .linen, .tweed]) ?_ hm₀ h₀
  unfold Blk.putCkpt
  repeat (first | assumption | with_reducible apply only_refl | (with_reducible apply Blk.place_only <;> [decide; skip]) | (with_reducible apply Blk.putCkptLine_only <;> [decide; skip]) | (with_reducible refine only_foldl (fun c x hc => ?_) _ _ ?_) | extract_lets | (dsimp +zetaDelta only))

theorem Blk.beginCheckpoint_only {m₀ : List Part} {b₀ : Blk} (b : Blk) (full now : Bool) (hm₀ : within [.free, .out, .od, .hA, .hB, .muslin, .can, .dev, .lines, .media, .twill, .gauze, .linen, .tweed, .modes] m₀) (h₀ : Only m₀ b₀ b) : Only m₀ b₀ (Blk.beginCheckpoint b full now) := by
  refine only_step (l := [.free, .out, .od, .hA, .hB, .muslin, .can, .dev, .lines, .media, .twill, .gauze, .linen, .tweed, .modes]) ?_ hm₀ h₀
  unfold Blk.beginCheckpoint
  repeat (first | assumption | with_reducible apply only_refl | (with_reducible apply Blk.onTwill_only <;> [decide; skip]) | (with_reducible apply Blk.turnPlan_only <;> [decide; skip]) | with_reducible apply only_ite | extract_lets | split | (dsimp +zetaDelta only))

theorem Blk.commitCheckpoint_only {m₀ : List Part} {b₀ : Blk} (b : Blk) (hm₀ : within [.out, .od, .hA, .hB, .can, .path, .lines, .twill, .linen, .tweed] m₀) (h₀ : Only m₀ b₀ b) : Only m₀ b₀ (Blk.commitCheckpoint b) := by
  refine only_step (l := [.out, .od, .hA, .hB, .can, .path, .lines, .twill, .linen, .tweed]) ?_ hm₀ h₀
  unfold Blk.commitCheckpoint
  repeat (first | assumption | with_reducible apply only_refl | (with_reducible apply Blk.onTwill_only <;> [decide; skip]) | (with_reducible apply Blk.bump_only <;> [decide; skip]) | (with_reducible apply Blk.place_only <;> [decide; skip]) | (with_reducible apply Blk.putCkpt_only <;> [decide; skip]) | with_reducible apply only_ite | extract_lets | split | (dsimp +zetaDelta only))

theorem Blk.putSnapLine_only {m₀ : List Part} {b₀ : Blk} (b : Blk) (g j seq : Nat) (bytes : List Byte) (hm₀ : within [.out, .od, .hA, .hB, .can, .lines, .twill, .linen, .tweed] m₀) (h₀ : Only m₀ b₀ b) : Only m₀ b₀ (Blk.putSnapLine b g j seq bytes) := by
  refine only_step (l := [.out, .od, .hA, .hB, .can, .lines, .twill, .linen, .tweed]) ?_ hm₀ h₀
  unfold Blk.putSnapLine
  repeat (first | assumption | with_reducible apply only_refl | (with_reducible apply Blk.putOwnLine_only <;> [decide; skip]))

theorem Blk.putSnap_only {m₀ : List Part} {b₀ : Blk} (b : Blk) (x : Snap) (hm₀ : within [.out, .od, .hA, .hB, .can, .lines, .twill, .linen, .tweed] m₀) (h₀ : Only m₀ b₀ b) : Only m₀ b₀ (Blk.putSnap b x) := by
  refine only_step (l := [.out, .od, .hA, .hB, .can, .lines, .twill, .linen, .tweed]) ?_ hm₀ h₀
  unfold Blk.putSnap
  repeat (first | assumption | with_reducible apply only_refl | (with_reducible apply Blk.putSnapLine_only <;> [decide; skip]) | (with_reducible refine only_foldl (fun c x hc => ?_) _ _ ?_) | extract_lets | (dsimp +zetaDelta only))

theorem Blk.snapshot_only {m₀ : List Part} {b₀ : Blk} (b : Blk) (hm₀ : within [.out, .od, .hA, .hB, .can, .lines, .twill, .gauze, .linen, .tweed] m₀) (h₀ : Only m₀ b₀ b) : Only m₀ b₀ (Blk.snapshot b) := by
  refine only_step (l := [.out, .od, .hA, .hB, .can, .lines, .twill, .gauze, .linen, .tweed]) ?_ hm₀ h₀
  unfold Blk.snapshot
  repeat (first | assumption | with_reducible apply only_refl | (with_reducible apply Blk.onGauze_only <;> [decide; skip]) | (with_reducible apply Blk.odSet_only <;> [decide; skip]) | (with_reducible apply Blk.putSnap_only <;> [decide; skip]) | (with_reducible refine only_foldl (fun c x hc => ?_) _ _ ?_) | extract_lets | (dsimp +zetaDelta only))

theorem Blk.planTimes_only {m₀ : List Part} {b₀ : Blk} (b : Blk) (hm₀ : within [.gauze] m₀) (h₀ : Only m₀ b₀ b) : Only m₀ b₀ (Blk.planTimes b) := by
  refine only_step (l := [.gauze]) ?_ hm₀ h₀
  unfold Blk.planTimes
  repeat (first | assumption | with_reducible apply only_refl | (with_reducible apply Blk.onGauze_only <;> [decide; skip]) | (with_reducible refine only_foldl (fun c x hc => ?_) _ _ ?_) | split)

theorem Blk.unknownAges_only {m₀ : List Part} {b₀ : Blk} (b : Blk) (hm₀ : within [.free, .gauze] m₀) (h₀ : Only m₀ b₀ b) : Only m₀ b₀ (Blk.unknownAges b) := by
  refine only_step (l := [.free, .gauze]) ?_ hm₀ h₀
  unfold Blk.unknownAges
  repeat (first | assumption | with_reducible apply only_refl | (with_reducible apply Blk.onGauze_only <;> [decide; skip]) | (with_reducible apply Blk.useFree_only <;> [decide; skip]) | (with_reducible refine only_foldl (fun c x hc => ?_) _ _ ?_) | extract_lets | (dsimp +zetaDelta only))

theorem Blk.loadSnapshot_only {m₀ : List Part} {b₀ : Blk} (b : Blk) (hm₀ : within [.free, .out, .od, .hA, .hB, .can, .gauze, .linen] m₀) (h₀ : Only m₀ b₀ b) : Only m₀ b₀ (Blk.loadSnapshot b) := by
  refine only_step (l := [.free, .out, .od, .hA, .hB, .can, .gauze, .linen]) ?_ hm₀ h₀
  unfold Blk.loadSnapshot
  repeat (first | assumption | with_reducible apply only_refl | (with_reducible apply Blk.onGauze_only <;> [decide; skip]) | (with_reducible apply Blk.report_only <;> [decide; skip]) | (with_reducible apply Blk.planTimes_only <;> [decide; skip]) | (with_reducible apply Blk.unknownAges_only <;> [decide; skip]) | extract_lets | split | (dsimp +zetaDelta only))

theorem Blk.knowSubst_only {m₀ : List Part} {b₀ : Blk} (b : Blk) (key d : Nat) (hm₀ : within [.safety] m₀) (h₀ : Only m₀ b₀ b) : Only m₀ b₀ (Blk.knowSubst b key d) := by
  refine only_step (l := [.safety]) ?_ hm₀ h₀
  unfold Blk.knowSubst
  repeat (first | assumption | with_reducible apply only_refl | (with_reducible apply Blk.onSafety_only <;> [decide; skip]) | with_reducible apply only_ite)

theorem Blk.loadImages_only {m₀ : List Part} {b₀ : Blk} (b : Blk) (f : Ckpt) (inc : Option Ckpt) (hm₀ : within [.twill, .safety] m₀) (h₀ : Only m₀ b₀ b) : Only m₀ b₀ (Blk.loadImages b f inc) := by
  refine only_step (l := [.twill, .safety]) ?_ hm₀ h₀
  unfold Blk.loadImages
  repeat (first | assumption | with_reducible apply only_refl | (with_reducible apply Blk.onTwill_only <;> [decide; skip]) | (with_reducible apply Blk.onSafety_only <;> [decide; skip]) | (with_reducible apply Blk.knowSubst_only <;> [decide; skip]) | (with_reducible refine only_foldl (fun c x hc => ?_) _ _ ?_) | extract_lets | split | (dsimp +zetaDelta only))

theorem Blk.matchRegions_only {m₀ : List Part} {b₀ : Blk} (b : Blk) (known : List Nat) (hm₀ : within [.twill] m₀) (h₀ : Only m₀ b₀ b) : Only m₀ b₀ (Blk.matchRegions b known) := by
  refine only_step (l := [.twill]) ?_ hm₀ h₀
  unfold Blk.matchRegions
  repeat (first | assumption | with_reducible apply only_refl | (with_reducible apply Blk.onTwill_only <;> [decide; skip]) | (with_reducible apply Blk.putRegion_only <;> [decide; skip]) | (with_reducible refine only_foldl (fun c x hc => ?_) _ _ ?_) | with_reducible apply only_ite | extract_lets | (dsimp +zetaDelta only))

theorem Blk.markMapped_only {m₀ : List Part} {b₀ : Blk} (b : Blk) (hm₀ : within [.twill] m₀) (h₀ : Only m₀ b₀ b) : Only m₀ b₀ (Blk.markMapped b) := by
  refine only_step (l := [.twill]) ?_ hm₀ h₀
  unfold Blk.markMapped
  repeat (first | assumption | with_reducible apply only_refl | (with_reducible apply Blk.onTwill_only <;> [decide; skip]) | (with_reducible refine only_foldl (fun c x hc => ?_) _ _ ?_))

theorem Blk.replayLine_only {m₀ : List Part} {b₀ : Blk} (recs : List JRec) (rows : List Nat) (slot base : Nat) (b : Blk) (x : Nat × Nat) (hm₀ : within [.free, .out, .od, .hA, .hB, .can, .path, .poison, .media, .twill, .linen, .tweed, .modes] m₀) (h₀ : Only m₀ b₀ b) : Only m₀ b₀ (Blk.replayLine recs rows slot base b x) := by
  refine only_step (l := [.free, .out, .od, .hA, .hB, .can, .path, .poison, .media, .twill, .linen, .tweed, .modes]) ?_ hm₀ h₀
  unfold Blk.replayLine
  repeat (first | assumption | with_reducible apply only_refl | (with_reducible apply Blk.odSet_only <;> [decide; skip]) | (with_reducible apply Blk.bump_only <;> [decide; skip]) | (with_reducible apply Blk.putHot_only <;> [decide; skip]) | (with_reducible apply Blk.poisonLine_only <;> [decide; skip]) | with_reducible apply only_ite | extract_lets | split | (dsimp +zetaDelta only))

theorem Blk.replayPlans_only {m₀ : List Part} {b₀ : Blk} (b : Blk) (recs : List JRec) (plans : List (Nat × Nat)) (hm₀ : within [.free, .out, .od, .hA, .hB, .can, .path, .poison, .media, .twill, .linen, .tweed, .modes] m₀) (h₀ : Only m₀ b₀ b) : Only m₀ b₀ (Blk.replayPlans b recs plans) := by
  refine only_step (l := [.free, .out, .od, .hA, .hB, .can, .path, .poison, .media, .twill, .linen, .tweed, .modes]) ?_ hm₀ h₀
  unfold Blk.replayPlans
  exact only_foldl (fun c x hc => only_foldl (fun c y hc => Blk.replayLine_only _ _ _ _ _ _ (by decide) hc) _ _ hc) _ _ (Blk.onTwill_only _ _ (by decide) (only_refl _ _))

theorem Blk.closeOpen_only {m₀ : List Part} {b₀ : Blk} (base : Nat) (slot : Nat) (b : Blk) (s : Nat) (hm₀ : within [.out, .od, .hA, .hB, .can, .lines, .twill, .linen, .tweed] m₀) (h₀ : Only m₀ b₀ b) : Only m₀ b₀ (Blk.closeOpen base slot b s) := by
  refine only_step (l := [.out, .od, .hA, .hB, .can, .lines, .twill, .linen, .tweed]) ?_ hm₀ h₀
  unfold Blk.closeOpen
  repeat (first | assumption | with_reducible apply only_refl | (with_reducible apply Blk.writeNow_only <;> [decide; skip]) | (with_reducible refine only_foldl (fun c x hc => ?_) _ _ ?_) | with_reducible apply only_ite | extract_lets | (dsimp +zetaDelta only))

theorem Blk.rebuildRows_only {m₀ : List Part} {b₀ : Blk} (b : Blk) (plans : List (Nat × Nat)) (hm₀ : within [.twill] m₀) (h₀ : Only m₀ b₀ b) : Only m₀ b₀ (Blk.rebuildRows b plans) := by
  refine only_step (l := [.twill]) ?_ hm₀ h₀
  unfold Blk.rebuildRows
  repeat (first | assumption | with_reducible apply only_refl | (with_reducible apply Blk.onTwill_only <;> [decide; skip]) | (with_reducible refine only_foldl (fun c x hc => ?_) _ _ ?_) | extract_lets | (dsimp +zetaDelta only))

theorem Blk.applyRecord_only {m₀ : List Part} {b₀ : Blk} (b : Blk) (x : JRec) (hm₀ : within [.twill, .safety] m₀) (h₀ : Only m₀ b₀ b) : Only m₀ b₀ (Blk.applyRecord b x) := by
  refine only_step (l := [.twill, .safety]) ?_ hm₀ h₀
  unfold Blk.applyRecord
  repeat (first | assumption | with_reducible apply only_refl | (with_reducible apply Blk.onTwill_only <;> [decide; skip]) | (with_reducible apply Blk.setSlot_only <;> [decide; skip]) | (with_reducible apply Blk.putRegion_only <;> [decide; skip]) | (with_reducible apply Blk.clearHot_only <;> [decide; skip]) | (with_reducible apply Blk.knowSubst_only <;> [decide; skip]) | (with_reducible refine only_foldl (fun c x hc => ?_) _ _ ?_) | with_reducible apply only_ite | extract_lets | split | (dsimp +zetaDelta only))

theorem Blk.resumePasses_only {m₀ : List Part} {b₀ : Blk} (b : Blk) (hm₀ : within [.twill] m₀) (h₀ : Only m₀ b₀ b) : Only m₀ b₀ (Blk.resumePasses b) := by
  refine only_step (l := [.twill]) ?_ hm₀ h₀
  unfold Blk.resumePasses
  repeat (first | assumption | with_reducible apply only_refl | (with_reducible apply Blk.onTwill_only <;> [decide; skip]) | (with_reducible refine only_foldl (fun c x hc => ?_) _ _ ?_) | extract_lets | (dsimp +zetaDelta only))

theorem Blk.dropMigrations_only {m₀ : List Part} {b₀ : Blk} (b : Blk) (hm₀ : within [.out, .od, .hA, .hB, .muslin, .can, .dev, .lines, .media, .twill, .linen, .tweed, .modes] m₀) (h₀ : Only m₀ b₀ b) : Only m₀ b₀ (Blk.dropMigrations b) := by
  refine only_step (l := [.out, .od, .hA, .hB, .muslin, .can, .dev, .lines, .media, .twill, .linen, .tweed, .modes]) ?_ hm₀ h₀
  unfold Blk.dropMigrations
  repeat (first | assumption | with_reducible apply only_refl | (with_reducible apply Blk.onTwill_only <;> [decide; skip]) | (with_reducible apply Blk.dropMigration_only <;> [decide; skip]) | (with_reducible refine only_foldl (fun c x hc => ?_) _ _ ?_) | extract_lets | split | (dsimp +zetaDelta only))

theorem Blk.giveUpUnmapped_only {m₀ : List Part} {b₀ : Blk} (b : Blk) (hm₀ : within [.out, .od, .hA, .hB, .muslin, .can, .dev, .lines, .media, .twill, .linen, .tweed, .modes] m₀) (h₀ : Only m₀ b₀ b) : Only m₀ b₀ (Blk.giveUpUnmapped b) := by
  refine only_step (l := [.out, .od, .hA, .hB, .muslin, .can, .dev, .lines, .media, .twill, .linen, .tweed, .modes]) ?_ hm₀ h₀
  unfold Blk.giveUpUnmapped
  repeat (first | assumption | with_reducible apply only_refl | (with_reducible apply Blk.onTwill_only <;> [decide; skip]) | (with_reducible apply Blk.freeSlot_only <;> [decide; skip]) | (with_reducible refine only_foldl (fun c x hc => ?_) _ _ ?_) | extract_lets | (dsimp +zetaDelta only))

theorem Blk.scanUnit_only {m₀ : List Part} {b₀ : Blk} (b : Blk) (g : Rgn) (c : Blk) (x : Nat × Nat) (hm₀ : within [.twill] m₀) (h₀ : Only m₀ b₀ c) : Only m₀ b₀ (b.scanUnit g c x) :=
  Blk.putRegion_only _ _ _ (within_trans (by decide) hm₀) h₀

theorem Blk.fullScan_only {m₀ : List Part} {b₀ : Blk} (b : Blk) (hm₀ : within [.free, .out, .od, .hA, .hB, .can, .path, .poison, .media, .twill, .linen, .tweed, .modes] m₀) (h₀ : Only m₀ b₀ b) : Only m₀ b₀ (Blk.fullScan b) := by
  refine only_step (l := [.free, .out, .od, .hA, .hB, .can, .path, .poison, .media, .twill, .linen, .tweed, .modes]) ?_ hm₀ h₀
  unfold Blk.fullScan
  repeat (first | assumption | with_reducible apply only_refl | (with_reducible apply Blk.report_only <;> [decide; skip]) | (with_reducible apply Blk.markMapped_only <;> [decide; skip]) | (with_reducible apply Blk.replayPlans_only <;> [decide; skip]) | (with_reducible apply Blk.scanUnit_only <;> [decide; skip]) | (with_reducible refine only_foldl (fun c x hc => ?_) _ _ ?_) | extract_lets | (dsimp +zetaDelta only))

theorem Blk.emptyMap_only {m₀ : List Part} {b₀ : Blk} (b : Blk) (hm₀ : within [.twill] m₀) (h₀ : Only m₀ b₀ b) : Only m₀ b₀ (Blk.emptyMap b) := by
  refine only_step (l := [.twill]) ?_ hm₀ h₀
  unfold Blk.emptyMap
  repeat (first | assumption | with_reducible apply only_refl | (with_reducible apply Blk.onTwill_only <;> [decide; skip]))

theorem Blk.mapOfAdds_only {m₀ : List Part} {b₀ : Blk} (b : Blk) (hm₀ : within [.twill, .safety] m₀) (h₀ : Only m₀ b₀ b) : Only m₀ b₀ (Blk.mapOfAdds b) := by
  refine only_step (l := [.twill, .safety]) ?_ hm₀ h₀
  unfold Blk.mapOfAdds
  repeat (first | assumption | with_reducible apply only_refl | (with_reducible apply Blk.matchRegions_only <;> [decide; skip]) | (with_reducible apply Blk.markMapped_only <;> [decide; skip]) | (with_reducible apply Blk.rebuildRows_only <;> [decide; skip]) | (with_reducible apply Blk.applyRecord_only <;> [decide; skip]) | (with_reducible refine only_foldl (fun c x hc => ?_) _ _ ?_) | extract_lets | (dsimp +zetaDelta only))

theorem Blk.loadMap_only {m₀ : List Part} {b₀ : Blk} (b : Blk) (hm₀ : within [.free, .out, .od, .hA, .hB, .can, .path, .lines, .poison, .media, .twill, .linen, .tweed, .modes, .safety] m₀) (h₀ : Only m₀ b₀ b) : Only m₀ b₀ (Blk.loadMap b) := by
  refine only_step (l := [.free, .out, .od, .hA, .hB, .can, .path, .lines, .poison, .media, .twill, .linen, .tweed, .modes, .safety]) ?_ hm₀ h₀
  unfold Blk.loadMap
  split
  · exact only_ite (Blk.mapOfAdds_only _ (by decide) (Blk.emptyMap_only _ (by decide) (only_refl _ _))) (Blk.rebuildRows_only _ _ (by decide) (Blk.fullScan_only _ (by decide) (Blk.emptyMap_only _ (by decide) (only_refl _ _))))
  · exact Blk.rebuildRows_only _ _ (by decide) (only_foldl (fun c x hc => Blk.applyRecord_only _ _ (by decide) hc) _ _ (only_foldl (fun c x hc => only_foldl (fun c y hc => Blk.closeOpen_only _ _ _ _ (by decide) hc) _ _ hc) _ _
      (Blk.replayPlans_only _ _ _ (by decide) (Blk.markMapped_only _ (by decide) (Blk.matchRegions_only _ _ (by decide) (Blk.loadImages_only _ _ _ (by decide) (Blk.emptyMap_only _ (by decide) (only_refl _ _))))))))

theorem Blk.mapReady_only {m₀ : List Part} {b₀ : Blk} (b : Blk) (hm₀ : within [.out, .od, .hA, .hB, .muslin, .can, .dev, .lines, .media, .twill, .linen, .tweed, .modes] m₀) (h₀ : Only m₀ b₀ b) : Only m₀ b₀ (Blk.mapReady b) := by
  refine only_step (l := [.out, .od, .hA, .hB, .muslin, .can, .dev, .lines, .media, .twill, .linen, .tweed, .modes]) ?_ hm₀ h₀
  unfold Blk.mapReady
  repeat (first | assumption | with_reducible apply only_refl | (with_reducible apply Blk.onTwill_only <;> [decide; skip]) | (with_reducible apply Blk.markMapped_only <;> [decide; skip]) | (with_reducible apply Blk.resumePasses_only <;> [decide; skip]) | (with_reducible apply Blk.dropMigrations_only <;> [decide; skip]) | (with_reducible apply Blk.giveUpUnmapped_only <;> [decide; skip]) | extract_lets | (dsimp +zetaDelta only))

theorem Blk.calWrite_only {m₀ : List Part} {b₀ : Blk} (b : Blk) (key v : Nat) (hm₀ : within [.gauze] m₀) (h₀ : Only m₀ b₀ b) : Only m₀ b₀ (Blk.calWrite b key v) := by
  refine only_step (l := [.gauze]) ?_ hm₀ h₀
  unfold Blk.calWrite
  repeat (first | assumption | with_reducible apply only_refl | (with_reducible apply Blk.putCal_only <;> [decide; skip]) | extract_lets | (dsimp +zetaDelta only))

theorem Blk.writeTalrt_only {m₀ : List Part} {b₀ : Blk} (b : Blk) (v : Nat) (hm₀ : within [.out, .media] m₀) (h₀ : Only m₀ b₀ b) : Only m₀ b₀ (Blk.writeTalrt b v) := by
  refine only_step (l := [.out, .media]) ?_ hm₀ h₀
  unfold Blk.writeTalrt
  repeat (first | assumption | with_reducible apply only_refl | (with_reducible apply Blk.onDie_only <;> [decide; skip]) | (with_reducible apply Blk.sendDie_only <;> [decide; skip]) | (with_reducible refine only_foldl (fun c x hc => ?_) _ _ ?_))

theorem Blk.effect_only {m₀ : List Part} {b₀ : Blk} (b : Blk) (key v : Nat) (hm₀ : within [.free, .out, .od, .hA, .hB, .muslin, .can, .dev, .path, .lines, .poison, .media, .velvet, .twill, .gauze, .damask, .linen, .felt, .tweed, .modes, .safety] m₀) (h₀ : Only m₀ b₀ b) : Only m₀ b₀ (Blk.effect b key v) := by
  refine only_step (l := [.free, .out, .od, .hA, .hB, .muslin, .can, .dev, .path, .lines, .poison, .media, .velvet, .twill, .gauze, .damask, .linen, .felt, .tweed, .modes, .safety]) ?_ hm₀ h₀
  unfold Blk.effect
  repeat (first | assumption | with_reducible apply only_refl | (with_reducible apply Blk.onFelt_only <;> [decide; skip]) | (with_reducible apply Blk.onTweed_only <;> [decide; skip]) | (with_reducible apply Blk.applyMode_only <;> [decide; skip]) | (with_reducible apply Blk.linkChange_only <;> [decide; skip]) | (with_reducible apply Blk.linkFalls_only <;> [decide; skip]) | (with_reducible apply Blk.writeTalrt_only <;> [decide; skip]) | with_reducible apply only_ite | extract_lets | (dsimp +zetaDelta only))

theorem Blk.takeValue_only {m₀ : List Part} {b₀ : Blk} (b : Blk) (key v : Nat) (hm₀ : within [.free, .out, .od, .direct, .hA, .hB, .muslin, .can, .dev, .path, .lines, .poison, .media, .velvet, .twill, .gauze, .damask, .linen, .felt, .tweed, .modes, .safety] m₀) (h₀ : Only m₀ b₀ b) : Only m₀ b₀ (Blk.takeValue b key v) := by
  refine only_step (l := [.free, .out, .od, .direct, .hA, .hB, .muslin, .can, .dev, .path, .lines, .poison, .media, .velvet, .twill, .gauze, .damask, .linen, .felt, .tweed, .modes, .safety]) ?_ hm₀ h₀
  unfold Blk.takeValue
  repeat (first | assumption | with_reducible apply only_refl | (with_reducible apply Blk.odSet_only <;> [decide; skip]) | (with_reducible apply Blk.calWrite_only <;> [decide; skip]) | (with_reducible apply Blk.effect_only <;> [decide; skip]) | with_reducible apply only_ite | (refine ⟨fun p hp => ?_⟩; cases p <;> first | rfl | exact absurd (by decide) hp))

theorem Blk.takeDirect_only {m₀ : List Part} {b₀ : Blk} (b : Blk) (key v : Nat) (hm₀ : within [.free, .out, .od, .odOld, .direct, .hA, .hB, .muslin, .can, .dev, .path, .lines, .poison, .media, .velvet, .twill, .gauze, .damask, .linen, .felt, .tweed, .modes, .safety] m₀) (h₀ : Only m₀ b₀ b) : Only m₀ b₀ (Blk.takeDirect b key v) := by
  refine only_step (l := [.free, .out, .od, .odOld, .direct, .hA, .hB, .muslin, .can, .dev, .path, .lines, .poison, .media, .velvet, .twill, .gauze, .damask, .linen, .felt, .tweed, .modes, .safety]) ?_ hm₀ h₀
  unfold Blk.takeDirect
  repeat (first | assumption | with_reducible apply only_refl | (with_reducible apply Blk.onGauze_only <;> [decide; skip]) | (with_reducible apply Blk.odSet_only <;> [decide; skip]) | (with_reducible apply Blk.effect_only <;> [decide; skip]) | with_reducible apply only_ite | extract_lets | (refine ⟨fun p hp => ?_⟩; cases p <;> first | rfl | exact absurd (by decide) hp) | (dsimp +zetaDelta only))

theorem Blk.newRates_only {m₀ : List Part} {b₀ : Blk} (b : Blk) (hm₀ : within [.can] m₀) (h₀ : Only m₀ b₀ b) : Only m₀ b₀ (Blk.newRates b) := by
  refine only_step (l := [.can]) ?_ hm₀ h₀
  unfold Blk.newRates
  repeat (first | assumption | with_reducible apply only_refl | (with_reducible apply Blk.onCan_only <;> [decide; skip]) | with_reducible apply only_ite | (refine ⟨fun p hp => ?_⟩; cases p <;> first | rfl | exact absurd (by decide) hp))

theorem Blk.stageAction_only {m₀ : List Part} {b₀ : Blk} (b : Blk) (src : Src) (idx sub : Nat) (val : List Byte) (hm₀ : within [.out, .muslin, .can] m₀) (h₀ : Only m₀ b₀ b) : Only m₀ b₀ (Blk.stageAction b src idx sub val) := by
  refine only_step (l := [.out, .muslin, .can]) ?_ hm₀ h₀
  unfold Blk.stageAction
  repeat (first | assumption | with_reducible apply only_refl | (with_reducible apply Blk.onMuslin_only <;> [decide; skip]) | (with_reducible apply Blk.reply_only <;> [decide; skip]) | with_reducible apply only_ite | extract_lets | split | (dsimp +zetaDelta only))

theorem Blk.defaultsAction_only {m₀ : List Part} {b₀ : Blk} (b : Blk) (src : Src) (hm₀ : within [.out, .muslin, .can] m₀) (h₀ : Only m₀ b₀ b) : Only m₀ b₀ (Blk.defaultsAction b src) := by
  refine only_step (l := [.out, .muslin, .can]) ?_ hm₀ h₀
  unfold Blk.defaultsAction
  repeat (first | assumption | with_reducible apply only_refl | (with_reducible apply Blk.onMuslin_only <;> [decide; skip]) | (with_reducible apply Blk.wrote_only <;> [decide; skip]) | (with_reducible refine only_foldl (fun c x hc => ?_) _ _ ?_) | with_reducible apply only_ite | extract_lets | (dsimp +zetaDelta only))

theorem Blk.failCommit_only {m₀ : List Part} {b₀ : Blk} (b : Blk) (result rule : Nat) (hm₀ : within [.out, .od, .muslin, .can] m₀) (h₀ : Only m₀ b₀ b) : Only m₀ b₀ (Blk.failCommit b result rule) := by
  refine only_step (l := [.out, .od, .muslin, .can]) ?_ hm₀ h₀
  unfold Blk.failCommit
  repeat (first | assumption | with_reducible apply only_refl | (with_reducible apply Blk.odSet_only <;> [decide; skip]) | (with_reducible apply Blk.bump_only <;> [decide; skip]) | (with_reducible apply Blk.discardStaged_only <;> [decide; skip]))

theorem Blk.swapValues_only {m₀ : List Part} {b₀ : Blk} (b : Blk) (noAck : List Dom) (hm₀ : within [.free, .out, .od, .odOld, .direct, .hA, .hB, .muslin, .can, .dev, .path, .lines, .poison, .media, .velvet, .twill, .gauze, .damask, .linen, .felt, .tweed, .modes, .safety] m₀) (h₀ : Only m₀ b₀ b) : Only m₀ b₀ (Blk.swapValues b noAck) := by
  refine only_step (l := [.free, .out, .od, .odOld, .direct, .hA, .hB, .muslin, .can, .dev, .path, .lines, .poison, .media, .velvet, .twill, .gauze, .damask, .linen, .felt, .tweed, .modes, .safety]) ?_ hm₀ h₀
  unfold Blk.swapValues
  repeat (first | assumption | with_reducible apply only_refl | (with_reducible apply Blk.takeValue_only <;> [decide; skip]) | (with_reducible refine only_foldl (fun c x hc => ?_) _ _ ?_) | with_reducible apply only_ite | extract_lets | (refine ⟨fun p hp => ?_⟩; cases p <;> first | rfl | exact absurd (by decide) hp) | (dsimp +zetaDelta only))

theorem Blk.heldImport_only {m₀ : List Part} {b₀ : Blk} (b : Blk) (hm₀ : within [.free, .out, .od, .hA, .hB, .muslin, .can, .gauze, .linen, .tweed] m₀) (h₀ : Only m₀ b₀ b) : Only m₀ b₀ (Blk.heldImport b) := by
  refine only_step (l := [.free, .out, .od, .hA, .hB, .muslin, .can, .gauze, .linen, .tweed]) ?_ hm₀ h₀
  unfold Blk.heldImport
  repeat (first | assumption | with_reducible apply only_refl | (with_reducible apply Blk.onMuslin_only <;> [decide; skip]) | (with_reducible apply Blk.odSet_only <;> [decide; skip]) | (with_reducible apply Blk.calImport_only <;> [decide; skip]) | with_reducible apply only_ite | extract_lets | split | (dsimp +zetaDelta only))

theorem Blk.swapDone_only {m₀ : List Part} {b₀ : Blk} (b : Blk) (pauseNs : Nat) (rwp cal : Bool) (src : Option Src) (hm₀ : within [.free, .out, .od, .hA, .hB, .muslin, .can, .gauze, .linen, .tweed] m₀) (h₀ : Only m₀ b₀ b) : Only m₀ b₀ (Blk.swapDone b pauseNs rwp cal src) := by
  refine only_step (l := [.free, .out, .od, .hA, .hB, .muslin, .can, .gauze, .linen, .tweed]) ?_ hm₀ h₀
  unfold Blk.swapDone
  repeat (first | assumption | with_reducible apply only_refl | (with_reducible apply Blk.onMuslin_only <;> [decide; skip]) | (with_reducible apply Blk.onGauze_only <;> [decide; skip]) | (with_reducible apply Blk.report_only <;> [decide; skip]) | (with_reducible apply Blk.reply_only <;> [decide; skip]) | (with_reducible apply Blk.swapped_only <;> [decide; skip]) | (with_reducible apply Blk.newRates_only <;> [decide; skip]) | (with_reducible apply Blk.heldImport_only <;> [decide; skip]) | with_reducible apply only_ite | extract_lets | split | (dsimp +zetaDelta only))

theorem Blk.persistFailed_only {m₀ : List Part} {b₀ : Blk} (b : Blk) (hm₀ : within [.out, .od, .hA, .hB, .can, .linen] m₀) (h₀ : Only m₀ b₀ b) : Only m₀ b₀ (Blk.persistFailed b) := by
  refine only_step (l := [.out, .od, .hA, .hB, .can, .linen]) ?_ hm₀ h₀
  unfold Blk.persistFailed
  repeat (first | assumption | with_reducible apply only_refl | (with_reducible apply Blk.bump32_only <;> [decide; skip]) | (with_reducible apply Blk.report_only <;> [decide; skip]))

theorem Blk.persistParams_only {m₀ : List Part} {b₀ : Blk} (b : Blk) (hm₀ : within [.out, .od, .hA, .hB, .muslin, .can, .linen, .felt] m₀) (h₀ : Only m₀ b₀ b) : Only m₀ b₀ (Blk.persistParams b) := by
  refine only_step (l := [.out, .od, .hA, .hB, .muslin, .can, .linen, .felt]) ?_ hm₀ h₀
  unfold Blk.persistParams
  repeat (first | assumption | with_reducible apply only_refl | (with_reducible apply Blk.onMuslin_only <;> [decide; skip]) | (with_reducible apply Blk.onFelt_only <;> [decide; skip]) | (with_reducible apply Blk.feltRefused_only <;> [decide; skip]) | (with_reducible apply Blk.itemWrite_only <;> [decide; skip]) | (with_reducible apply Blk.persistFailed_only <;> [decide; skip]) | with_reducible apply only_ite | extract_lets | split | (dsimp +zetaDelta only))

theorem Blk.persistCal_only {m₀ : List Part} {b₀ : Blk} (b : Blk) (hm₀ : within [.out, .od, .hA, .hB, .muslin, .can, .gauze, .linen, .felt] m₀) (h₀ : Only m₀ b₀ b) : Only m₀ b₀ (Blk.persistCal b) := by
  refine only_step (l := [.out, .od, .hA, .hB, .muslin, .can, .gauze, .linen, .felt]) ?_ hm₀ h₀
  unfold Blk.persistCal
  repeat (first | assumption | with_reducible apply only_refl | (with_reducible apply Blk.onMuslin_only <;> [decide; skip]) | (with_reducible apply Blk.onGauze_only <;> [decide; skip]) | (with_reducible apply Blk.feltRefused_only <;> [decide; skip]) | (with_reducible apply Blk.itemWrite_only <;> [decide; skip]) | (with_reducible apply Blk.persistFailed_only <;> [decide; skip]) | with_reducible apply only_ite | extract_lets | (dsimp +zetaDelta only))

theorem Blk.challengeAction_only {m₀ : List Part} {b₀ : Blk} (b : Blk) (src : Src) (hm₀ : within [.rng, .out, .sesA, .sesB, .sesC, .can] m₀) (h₀ : Only m₀ b₀ b) : Only m₀ b₀ (Blk.challengeAction b src) := by
  refine only_step (l := [.rng, .out, .sesA, .sesB, .sesC, .can]) ?_ hm₀ h₀
  unfold Blk.challengeAction
  repeat (first | assumption | with_reducible apply only_refl | (with_reducible apply Blk.draw_only <;> [decide; skip]) | (with_reducible apply Blk.reply_only <;> [decide; skip]) | (with_reducible apply Blk.onSession_only <;> [decide; skip]) | extract_lets | (dsimp +zetaDelta only))

theorem Blk.openSession_only {m₀ : List Part} {b₀ : Blk} (b : Blk) (src : Src) (hm₀ : within [.out, .od, .hA, .hB, .sesA, .sesB, .sesC, .can, .linen] m₀) (h₀ : Only m₀ b₀ b) : Only m₀ b₀ (Blk.openSession b src) := by
  refine only_step (l := [.out, .od, .hA, .hB, .sesA, .sesB, .sesC, .can, .linen]) ?_ hm₀ h₀
  unfold Blk.openSession
  repeat (first | assumption | with_reducible apply only_refl | (with_reducible apply Blk.report_only <;> [decide; skip]) | (with_reducible apply Blk.onSession_only <;> [decide; skip]) | (with_reducible apply Blk.wrote_only <;> [decide; skip]))

theorem Blk.wrongResponse_only {m₀ : List Part} {b₀ : Blk} (b : Blk) (src : Src) (hm₀ : within [.out, .sesA, .sesB, .sesC, .can] m₀) (h₀ : Only m₀ b₀ b) : Only m₀ b₀ (Blk.wrongResponse b src) := by
  refine only_step (l := [.out, .sesA, .sesB, .sesC, .can]) ?_ hm₀ h₀
  unfold Blk.wrongResponse
  repeat (first | assumption | with_reducible apply only_refl | (with_reducible apply Blk.onSession_only <;> [decide; skip]) | (with_reducible apply Blk.wrote_only <;> [decide; skip]) | with_reducible apply only_ite)

theorem Blk.responseAction_only {m₀ : List Part} {b₀ : Blk} (b : Blk) (src : Src) (v : BitVec 64) (hm₀ : within [.out, .od, .hA, .hB, .sesA, .sesB, .sesC, .can, .linen] m₀) (h₀ : Only m₀ b₀ b) : Only m₀ b₀ (Blk.responseAction b src v) := by
  refine only_step (l := [.out, .od, .hA, .hB, .sesA, .sesB, .sesC, .can, .linen]) ?_ hm₀ h₀
  unfold Blk.responseAction
  repeat (first | assumption | with_reducible apply only_refl | (with_reducible apply Blk.wrote_only <;> [decide; skip]) | (with_reducible apply Blk.openSession_only <;> [decide; skip]) | (with_reducible apply Blk.wrongResponse_only <;> [decide; skip]) | with_reducible apply only_ite | extract_lets | split | (dsimp +zetaDelta only))

theorem Blk.closeAction_only {m₀ : List Part} {b₀ : Blk} (b : Blk) (src : Src) (hm₀ : within [.out, .sesA, .sesB, .sesC, .can] m₀) (h₀ : Only m₀ b₀ b) : Only m₀ b₀ (Blk.closeAction b src) := by
  refine only_step (l := [.out, .sesA, .sesB, .sesC, .can]) ?_ hm₀ h₀
  unfold Blk.closeAction
  repeat (first | assumption | with_reducible apply only_refl | (with_reducible apply Blk.wrote_only <;> [decide; skip]) | (with_reducible apply Blk.closeSession_only <;> [decide; skip]))

theorem Blk.sendTo_only {m₀ : List Part} {b₀ : Blk} (b : Blk) (ch : Nat) (cs : BitVec 8) (c : DieCmd) (hm₀ : within [.out, .media] m₀) (h₀ : Only m₀ b₀ b) : Only m₀ b₀ (Blk.sendTo b ch cs c) := by
  refine only_step (l := [.out, .media]) ?_ hm₀ h₀
  unfold Blk.sendTo
  repeat (first | assumption | with_reducible apply only_refl | (with_reducible apply Blk.emit_only <;> [decide; skip]) | (with_reducible apply Blk.onDie_only <;> [decide; skip]) | (with_reducible refine only_foldl (fun c x hc => ?_) _ _ ?_) | with_reducible apply only_ite | extract_lets | split | (dsimp +zetaDelta only))

theorem Blk.sendEverywhere_only {m₀ : List Part} {b₀ : Blk} (b : Blk) (c : DieCmd) (hm₀ : within [.out, .media] m₀) (h₀ : Only m₀ b₀ b) : Only m₀ b₀ (Blk.sendEverywhere b c) := by
  refine only_step (l := [.out, .media]) ?_ hm₀ h₀
  unfold Blk.sendEverywhere
  repeat (first | assumption | with_reducible apply only_refl | (with_reducible apply Blk.sendTo_only <;> [decide; skip]) | (with_reducible refine only_foldl (fun c x hc => ?_) _ _ ?_) | with_reducible apply only_ite)

theorem Blk.standbyDies_only {m₀ : List Part} {b₀ : Blk} (b : Blk) (hm₀ : within [.out, .media] m₀) (h₀ : Only m₀ b₀ b) : Only m₀ b₀ (Blk.standbyDies b) := by
  refine only_step (l := [.out, .media]) ?_ hm₀ h₀
  unfold Blk.standbyDies
  repeat (first | assumption | with_reducible apply only_refl | (with_reducible apply Blk.onDie_only <;> [decide; skip]) | (with_reducible apply Blk.sendEverywhere_only <;> [decide; skip]) | (with_reducible refine only_foldl (fun c x hc => ?_) _ _ ?_))

theorem Blk.wakeDies_only {m₀ : List Part} {b₀ : Blk} (b : Blk) (hm₀ : within [.out, .media] m₀) (h₀ : Only m₀ b₀ b) : Only m₀ b₀ (Blk.wakeDies b) := by
  refine only_step (l := [.out, .media]) ?_ hm₀ h₀
  unfold Blk.wakeDies
  repeat (first | assumption | with_reducible apply only_refl | (with_reducible apply Blk.onDie_only <;> [decide; skip]) | (with_reducible apply Blk.sendDie_only <;> [decide; skip]) | (with_reducible apply Blk.sendEverywhere_only <;> [decide; skip]) | (with_reducible refine only_foldl (fun c x hc => ?_) _ _ ?_))

theorem Blk.fallAsleep_only {m₀ : List Part} {b₀ : Blk} (b : Blk) (hm₀ : within [.free, .out, .od, .hA, .hB, .muslin, .can, .dev, .path, .lines, .poison, .media, .velvet, .twill, .gauze, .damask, .linen, .tweed, .modes, .safety] m₀) (h₀ : Only m₀ b₀ b) : Only m₀ b₀ (Blk.fallAsleep b) := by
  refine only_step (l := [.free, .out, .od, .hA, .hB, .muslin, .can, .dev, .path, .lines, .poison, .media, .velvet, .twill, .gauze, .damask, .linen, .tweed, .modes, .safety]) ?_ hm₀ h₀
  unfold Blk.fallAsleep
  repeat (first | assumption | with_reducible apply only_refl | (with_reducible apply Blk.onTweed_only <;> [decide; skip]) | (with_reducible apply Blk.onModes_only <;> [decide; skip]) | (with_reducible apply Blk.flushAll_only <;> [decide; skip]) | (with_reducible apply Blk.beginCheckpoint_only <;> [decide; skip]) | (with_reducible apply Blk.commitCheckpoint_only <;> [decide; skip]) | (with_reducible apply Blk.standbyDies_only <;> [decide; skip]))

theorem Blk.wake_only {m₀ : List Part} {b₀ : Blk} (b : Blk) (hm₀ : within [.out, .od, .hA, .hB, .muslin, .can, .media, .linen, .tweed, .modes] m₀) (h₀ : Only m₀ b₀ b) : Only m₀ b₀ (Blk.wake b) := by
  refine only_step (l := [.out, .od, .hA, .hB, .muslin, .can, .media, .linen, .tweed, .modes]) ?_ hm₀ h₀
  unfold Blk.wake
  repeat (first | assumption | with_reducible apply only_refl | (with_reducible apply Blk.onTweed_only <;> [decide; skip]) | (with_reducible apply Blk.onModes_only <;> [decide; skip]) | (with_reducible apply Blk.setConditions_only <;> [decide; skip]) | (with_reducible apply Blk.wakeDies_only <;> [decide; skip]) | with_reducible apply only_ite | extract_lets | (dsimp +zetaDelta only))

theorem Blk.settleRead_only {m₀ : List Part} {b₀ : Blk} (b : Blk) (x : Acc) (hm₀ : within [.free, .out, .od, .hA, .hB, .can, .path, .linen, .tweed] m₀) (h₀ : Only m₀ b₀ b) : Only m₀ b₀ (Blk.settleRead b x) := by
  refine only_step (l := [.free, .out, .od, .hA, .hB, .can, .path, .linen, .tweed]) ?_ hm₀ h₀
  unfold Blk.settleRead
  repeat (first | assumption | with_reducible apply only_refl | (with_reducible apply Blk.finishRead_only <;> [decide; skip]))

theorem Blk.settle_only {m₀ : List Part} {b₀ : Blk} (b : Blk) (hm₀ : within [.free, .out, .od, .hA, .hB, .can, .path, .linen, .tweed] m₀) (h₀ : Only m₀ b₀ b) : Only m₀ b₀ (Blk.settle b) := by
  refine only_step (l := [.free, .out, .od, .hA, .hB, .can, .path, .linen, .tweed]) ?_ hm₀ h₀
  unfold Blk.settle
  repeat (first | assumption | with_reducible apply only_refl | (with_reducible apply Blk.onPath_only <;> [decide; skip]) | (with_reducible apply Blk.finishWrite_only <;> [decide; skip]) | (with_reducible apply Blk.settleRead_only <;> [decide; skip]) | (with_reducible refine only_foldl (fun c x hc => ?_) _ _ ?_) | with_reducible apply only_ite | extract_lets | (dsimp +zetaDelta only))

theorem Blk.zeroize_only {m₀ : List Part} {b₀ : Blk} (b : Blk) (hm₀ : within [.free, .out, .od, .hA, .hB, .can, .path, .velvet, .damask, .linen, .felt, .tweed] m₀) (h₀ : Only m₀ b₀ b) : Only m₀ b₀ (Blk.zeroize b) := by
  refine only_step (l := [.free, .out, .od, .hA, .hB, .can, .path, .velvet, .damask, .linen, .felt, .tweed]) ?_ hm₀ h₀
  unfold Blk.zeroize
  repeat (first | assumption | with_reducible apply only_refl | (with_reducible apply Blk.onVelvet_only <;> [decide; skip]) | (with_reducible apply Blk.onDamask_only <;> [decide; skip]) | (with_reducible apply Blk.report_only <;> [decide; skip]) | (with_reducible apply Blk.itemWrite_only <;> [decide; skip]) | (with_reducible apply Blk.settle_only <;> [decide; skip]) | extract_lets | (dsimp +zetaDelta only))

theorem Blk.blankKeys_only {m₀ : List Part} {b₀ : Blk} (b : Blk) (hm₀ : within [.can, .felt] m₀) (h₀ : Only m₀ b₀ b) : Only m₀ b₀ (Blk.blankKeys b) := by
  refine only_step (l := [.can, .felt]) ?_ hm₀ h₀
  unfold Blk.blankKeys
  repeat (first | assumption | with_reducible apply only_refl | (with_reducible apply Blk.onCan_only <;> [decide; skip]) | (with_reducible apply Blk.onFelt_only <;> [decide; skip]) | (refine ⟨fun p hp => ?_⟩; cases p <;> first | rfl | exact absurd (by decide) hp))

theorem Blk.onSlot_only {m₀ : List Part} {b₀ : Blk} (b : Blk) (s : Nat) (f : PSlot → PSlot) (hm₀ : within [.canvas] m₀) (h₀ : Only m₀ b₀ b) : Only m₀ b₀ (Blk.onSlot b s f) := by
  refine only_step (l := [.canvas]) ?_ hm₀ h₀
  unfold Blk.onSlot
  repeat (first | assumption | with_reducible apply only_refl | (with_reducible apply Blk.onCanvas_only <;> [decide; skip]) | (refine ⟨fun p hp => ?_⟩; cases p <;> first | rfl | exact absurd (by decide) hp))

theorem Blk.canvasWrite_only {m₀ : List Part} {b₀ : Blk} (b : Blk) (r : List Nat) (hm₀ : within [.out, .od, .hA, .hB, .can, .linen, .felt] m₀) (h₀ : Only m₀ b₀ b) : Only m₀ b₀ (Blk.canvasWrite b r) := by
  refine only_step (l := [.out, .od, .hA, .hB, .can, .linen, .felt]) ?_ hm₀ h₀
  unfold Blk.canvasWrite
  repeat (first | assumption | with_reducible apply only_refl | (with_reducible apply Blk.onFelt_only <;> [decide; skip]) | (with_reducible apply Blk.pageWrite_only <;> [decide; skip]))

theorem Blk.canvasLogged_only {m₀ : List Part} {b₀ : Blk} (b : Blk) (r : List Nat) (hm₀ : within [.out, .od, .hA, .hB, .can, .linen, .felt, .canvas] m₀) (h₀ : Only m₀ b₀ b) : Only m₀ b₀ (Blk.canvasLogged b r) := by
  refine only_step (l := [.out, .od, .hA, .hB, .can, .linen, .felt, .canvas]) ?_ hm₀ h₀
  unfold Blk.canvasLogged
  repeat (first | assumption | with_reducible apply only_refl | (with_reducible apply Blk.onCanvas_only <;> [decide; skip]) | (with_reducible apply Blk.odSet_only <;> [decide; skip]) | (with_reducible apply Blk.canvasWrite_only <;> [decide; skip]) | with_reducible apply only_ite | extract_lets | (refine ⟨fun p hp => ?_⟩; cases p <;> first | rfl | exact absurd (by decide) hp) | (dsimp +zetaDelta only))

theorem Blk.loseSwitched_only {m₀ : List Part} {b₀ : Blk} (b : Blk) (keepLink : Bool) (hm₀ : within [.odOld, .direct, .regs, .due, .dueB, .hA, .hB, .sesA, .sesB, .sesC, .muslin, .can, .dev, .path, .poison, .media, .velvet, .twill, .gauze, .damask, .linen, .felt, .tweed, .thermal, .safety] m₀) (h₀ : Only m₀ b₀ b) : Only m₀ b₀ (Blk.loseSwitched b keepLink) := by
  refine only_step (l := [.odOld, .direct, .regs, .due, .dueB, .hA, .hB, .sesA, .sesB, .sesC, .muslin, .can, .dev, .path, .poison, .media, .velvet, .twill, .gauze, .damask, .linen, .felt, .tweed, .thermal, .safety]) ?_ hm₀ h₀
  unfold Blk.loseSwitched
  repeat (first | assumption | with_reducible apply only_refl | extract_lets | split | (refine ⟨fun p hp => ?_⟩; cases p <;> first | rfl | exact absurd (by decide) hp) | (dsimp +zetaDelta only))

theorem Blk.powerCycled_only {m₀ : List Part} {b₀ : Blk} (b : Blk) (hm₀ : within [.hA, .hB, .media, .clocks] m₀) (h₀ : Only m₀ b₀ b) : Only m₀ b₀ (Blk.powerCycled b) := by
  refine only_step (l := [.hA, .hB, .media, .clocks]) ?_ hm₀ h₀
  unfold Blk.powerCycled
  repeat (first | assumption | with_reducible apply only_refl | (with_reducible apply onMedia_keep <;> [decide; (intro; exact ⟨rfl, rfl⟩); skip]) | (with_reducible apply Blk.onHA_only <;> [decide; skip]) | (with_reducible apply Blk.onHB_only <;> [decide; skip]) | (with_reducible apply Blk.onClocks_only <;> [decide; skip]) | with_reducible apply only_ite | extract_lets | (refine ⟨fun p hp => ?_⟩; cases p <;> first | rfl | exact absurd (by decide) hp) | (dsimp +zetaDelta only))

theorem Blk.enterM1_only {m₀ : List Part} {b₀ : Blk} (b : Blk) (hm₀ : within [.out, .od, .odOld, .direct, .regs, .due, .dueB, .hA, .hB, .sesA, .sesB, .sesC, .muslin, .can, .dev, .path, .poison, .media, .velvet, .twill, .gauze, .damask, .linen, .felt, .tweed, .canvas, .clocks, .thermal, .modes, .safety] m₀) (h₀ : Only m₀ b₀ b) : Only m₀ b₀ (Blk.enterM1 b) := by
  refine only_step (l := [.out, .od, .odOld, .direct, .regs, .due, .dueB, .hA, .hB, .sesA, .sesB, .sesC, .muslin, .can, .dev, .path, .poison, .media, .velvet, .twill, .gauze, .damask, .linen, .felt, .tweed, .canvas, .clocks, .thermal, .modes, .safety]) ?_ hm₀ h₀
  unfold Blk.enterM1
  repeat (first | assumption | with_reducible apply only_refl | (with_reducible apply Blk.onCanvas_only <;> [decide; skip]) | (with_reducible apply Blk.onClocks_only <;> [decide; skip]) | (with_reducible apply Blk.onModes_only <;> [decide; skip]) | (with_reducible apply Blk.faultPin_only <;> [decide; skip]) | (with_reducible apply Blk.setConditions_only <;> [decide; skip]) | (with_reducible apply Blk.loseSwitched_only <;> [decide; skip]) | (with_reducible apply Blk.powerCycled_only <;> [decide; skip]) | with_reducible apply only_ite | extract_lets | (refine ⟨fun p hp => ?_⟩; cases p <;> first | rfl | exact absurd (by decide) hp) | (dsimp +zetaDelta only))

theorem Blk.startBoot_only {m₀ : List Part} {b₀ : Blk} (b : Blk) (hm₀ : within [.out, .od, .hA, .hB, .muslin, .can, .linen, .tweed, .canvas, .modes] m₀) (h₀ : Only m₀ b₀ b) : Only m₀ b₀ (Blk.startBoot b) := by
  refine only_step (l := [.out, .od, .hA, .hB, .muslin, .can, .linen, .tweed, .canvas, .modes]) ?_ hm₀ h₀
  unfold Blk.startBoot
  repeat (first | assumption | with_reducible apply only_refl | (with_reducible apply Blk.onCanvas_only <;> [decide; skip]) | (with_reducible apply Blk.onModes_only <;> [decide; skip]) | (with_reducible apply Blk.setConditions_only <;> [decide; skip]) | with_reducible apply only_ite | extract_lets | (refine ⟨fun p hp => ?_⟩; cases p <;> first | rfl | exact absurd (by decide) hp) | (dsimp +zetaDelta only))

theorem Blk.lowerNext_only {m₀ : List Part} {b₀ : Blk} (n : Nat) (b : Blk) (hm₀ : within [.out, .od, .hA, .hB, .muslin, .can, .linen, .tweed, .canvas, .modes] m₀) (h₀ : Only m₀ b₀ b) : Only m₀ b₀ (Blk.lowerNext n b) := by
  induction n generalizing b with
  | zero => exact h₀
  | succ n ih =>
    have hs {l : List Part} (hl : within l [.out, .od, .hA, .hB, .muslin, .can, .linen, .tweed, .canvas, .modes]) : within l m₀ := within_trans hl hm₀
    unfold Blk.lowerNext
    split
    · exact Blk.startBoot_only _ (hs (by decide)) (Blk.onCanvas_only _ _ (hs (by decide)) h₀)
    · exact only_ite (ih _ (Blk.onSlot_only _ _ _ (hs (by decide)) h₀)) (Blk.onSlot_only _ _ _ (hs (by decide)) h₀)

theorem Blk.powerDown_only {m₀ : List Part} {b₀ : Blk} (b : Blk) (hm₀ : within [.out, .od, .odOld, .direct, .regs, .due, .dueB, .hA, .hB, .sesA, .sesB, .sesC, .muslin, .can, .dev, .path, .poison, .media, .velvet, .twill, .gauze, .damask, .linen, .felt, .tweed, .canvas, .clocks, .thermal, .modes, .safety] m₀) (h₀ : Only m₀ b₀ b) : Only m₀ b₀ (Blk.powerDown b) := by
  refine only_step (l := [.out, .od, .odOld, .direct, .regs, .due, .dueB, .hA, .hB, .sesA, .sesB, .sesC, .muslin, .can, .dev, .path, .poison, .media, .velvet, .twill, .gauze, .damask, .linen, .felt, .tweed, .canvas, .clocks, .thermal, .modes, .safety]) ?_ hm₀ h₀
  unfold Blk.powerDown
  repeat (first | assumption | with_reducible apply only_refl | (with_reducible apply Blk.onCanvas_only <;> [decide; skip]) | (with_reducible apply Blk.enterM1_only <;> [decide; skip]) | (with_reducible apply Blk.lowerNext_only <;> [decide; skip]) | with_reducible apply only_ite | (refine ⟨fun p hp => ?_⟩; cases p <;> first | rfl | exact absurd (by decide) hp))

theorem Blk.tearPrograms_only {m₀ : List Part} {b₀ : Blk} (b : Blk) (hm₀ : within [.free, .out, .od, .hA, .hB, .can, .lines, .media, .twill, .linen, .tweed] m₀) (h₀ : Only m₀ b₀ b) : Only m₀ b₀ (Blk.tearPrograms b) := by
  refine only_step (l := [.free, .out, .od, .hA, .hB, .can, .lines, .media, .twill, .linen, .tweed]) ?_ hm₀ h₀
  unfold Blk.tearPrograms
  repeat (first | assumption | with_reducible apply only_refl | (with_reducible apply Blk.useFree_only <;> [decide; skip]) | (with_reducible apply Blk.storeLine_only <;> [decide; skip]) | (with_reducible apply Blk.program_only <;> [decide; skip]) | (with_reducible refine only_foldl (fun c x hc => ?_) _ _ ?_) | split)

theorem Blk.dropRails_only {m₀ : List Part} {b₀ : Blk} (b : Blk) (hm₀ : within [.free, .out, .od, .odOld, .direct, .regs, .due, .dueB, .hA, .hB, .sesA, .sesB, .sesC, .muslin, .can, .dev, .path, .lines, .poison, .media, .velvet, .twill, .gauze, .damask, .linen, .felt, .tweed, .canvas, .clocks, .thermal, .modes, .safety] m₀) (h₀ : Only m₀ b₀ b) : Only m₀ b₀ (Blk.dropRails b) := by
  refine only_step (l := [.free, .out, .od, .odOld, .direct, .regs, .due, .dueB, .hA, .hB, .sesA, .sesB, .sesC, .muslin, .can, .dev, .path, .lines, .poison, .media, .velvet, .twill, .gauze, .damask, .linen, .felt, .tweed, .canvas, .clocks, .thermal, .modes, .safety]) ?_ hm₀ h₀
  unfold Blk.dropRails
  repeat (first | assumption | with_reducible apply only_refl | (with_reducible apply Blk.onFelt_only <;> [decide; skip]) | (with_reducible apply Blk.onCanvas_only <;> [decide; skip]) | (with_reducible apply Blk.enterM1_only <;> [decide; skip]) | (with_reducible apply Blk.tearPrograms_only <;> [decide; skip]) | with_reducible apply only_ite | extract_lets | (refine ⟨fun p hp => ?_⟩; cases p <;> first | rfl | exact absurd (by decide) hp) | (dsimp +zetaDelta only))

theorem Blk.allOff_only {m₀ : List Part} {b₀ : Blk} (b : Blk) (code slot mv drops : Nat) (timeout : Bool) (hm₀ : within [.free, .out, .od, .odOld, .direct, .regs, .due, .dueB, .hA, .hB, .sesA, .sesB, .sesC, .muslin, .can, .dev, .path, .lines, .poison, .media, .velvet, .twill, .gauze, .damask, .linen, .felt, .tweed, .canvas, .clocks, .thermal, .modes, .safety] m₀) (h₀ : Only m₀ b₀ b) : Only m₀ b₀ (Blk.allOff b code slot mv drops timeout) := by
  refine only_step (l := [.free, .out, .od, .odOld, .direct, .regs, .due, .dueB, .hA, .hB, .sesA, .sesB, .sesC, .muslin, .can, .dev, .path, .lines, .poison, .media, .velvet, .twill, .gauze, .damask, .linen, .felt, .tweed, .canvas, .clocks, .thermal, .modes, .safety]) ?_ hm₀ h₀
  unfold Blk.allOff
  repeat (first | assumption | with_reducible apply only_refl | (with_reducible apply Blk.onCanvas_only <;> [decide; skip]) | (with_reducible apply Blk.onModes_only <;> [decide; skip]) | (with_reducible apply Blk.odSet_only <;> [decide; skip]) | (with_reducible apply Blk.onSlot_only <;> [decide; skip]) | (with_reducible apply Blk.dropRails_only <;> [decide; skip]) | with_reducible apply only_ite | extract_lets | (refine ⟨fun p hp => ?_⟩; cases p <;> first | rfl | exact absurd (by decide) hp) | (dsimp +zetaDelta only))

theorem Blk.resumeAll_only {m₀ : List Part} {b₀ : Blk} (b : Blk) (hm₀ : within [.out, .media] m₀) (h₀ : Only m₀ b₀ b) : Only m₀ b₀ (Blk.resumeAll b) := by
  refine only_step (l := [.out, .media]) ?_ hm₀ h₀
  unfold Blk.resumeAll
  repeat (first | assumption | with_reducible apply only_refl | (with_reducible apply Blk.onPart_only <;> [decide; skip]) | (with_reducible apply Blk.sendDie_only <;> [decide; skip]) | (with_reducible refine only_foldl (fun c x hc => ?_) _ _ ?_) | with_reducible apply only_ite)

theorem Blk.abandonTest_only {m₀ : List Part} {b₀ : Blk} (b : Blk) (hm₀ : within [.canvas] m₀) (h₀ : Only m₀ b₀ b) : Only m₀ b₀ (Blk.abandonTest b) := by
  refine only_step (l := [.canvas]) ?_ hm₀ h₀
  unfold Blk.abandonTest
  repeat (first | assumption | with_reducible apply only_refl | (with_reducible apply Blk.onCanvas_only <;> [decide; skip]) | with_reducible apply only_ite | (refine ⟨fun p hp => ?_⟩; cases p <;> first | rfl | exact absurd (by decide) hp))

theorem Blk.beginFlush_only {m₀ : List Part} {b₀ : Blk} (b : Blk) (cause : Nat) (hm₀ : within [.free, .out, .od, .hA, .hB, .muslin, .can, .path, .media, .twill, .linen, .tweed, .modes] m₀) (h₀ : Only m₀ b₀ b) : Only m₀ b₀ (Blk.beginFlush b cause) := by
  refine only_step (l := [.free, .out, .od, .hA, .hB, .muslin, .can, .path, .media, .twill, .linen, .tweed, .modes]) ?_ hm₀ h₀
  unfold Blk.beginFlush
  repeat (first | assumption | with_reducible apply only_refl | (with_reducible apply Blk.onTwill_only <;> [decide; skip]) | (with_reducible apply Blk.onModes_only <;> [decide; skip]) | (with_reducible apply Blk.enter_only <;> [decide; skip]) | (with_reducible apply Blk.finishRead_only <;> [decide; skip]) | (with_reducible apply Blk.clearIngress_only <;> [decide; skip]) | (with_reducible apply Blk.wake_only <;> [decide; skip]) | (with_reducible apply Blk.resumeAll_only <;> [decide; skip]) | (with_reducible refine only_foldl (fun c x hc => ?_) _ _ ?_) | with_reducible apply only_ite | extract_lets | (dsimp +zetaDelta only))

theorem Blk.stagingToRing_only {m₀ : List Part} {b₀ : Blk} (b : Blk) (hm₀ : within [.out, .od, .hA, .hB, .can, .linen, .felt] m₀) (h₀ : Only m₀ b₀ b) : Only m₀ b₀ (Blk.stagingToRing b) := by
  refine only_step (l := [.out, .od, .hA, .hB, .can, .linen, .felt]) ?_ hm₀ h₀
  unfold Blk.stagingToRing
  repeat (first | assumption | with_reducible apply only_refl | (with_reducible apply Blk.ringNext_only <;> [decide; skip]) | (with_reducible apply Blk.pageWrite_only <;> [decide; skip]) | (with_reducible refine only_foldl (fun c x hc => ?_) _ _ ?_))

theorem Blk.flushTags_only {m₀ : List Part} {b₀ : Blk} (b : Blk) (hm₀ : within [.out, .od, .hA, .hB, .can, .lines, .twill, .damask, .linen, .tweed] m₀) (h₀ : Only m₀ b₀ b) : Only m₀ b₀ (Blk.flushTags b) := by
  refine only_step (l := [.out, .od, .hA, .hB, .can, .lines, .twill, .damask, .linen, .tweed]) ?_ hm₀ h₀
  unfold Blk.flushTags
  repeat (first | assumption | with_reducible apply only_refl | (with_reducible apply Blk.flushTag_only <;> [decide; skip]) | (with_reducible refine only_foldl (fun c x hc => ?_) _ _ ?_))

theorem Blk.foldAll_only {m₀ : List Part} {b₀ : Blk} (b : Blk) (hm₀ : within [.out, .od, .hA, .hB, .can, .twill, .linen] m₀) (h₀ : Only m₀ b₀ b) : Only m₀ b₀ (Blk.foldAll b) := by
  refine only_step (l := [.out, .od, .hA, .hB, .can, .twill, .linen]) ?_ hm₀ h₀
  unfold Blk.foldAll
  repeat (first | assumption | with_reducible apply only_refl | (with_reducible apply Blk.foldCount_only <;> [decide; skip]) | (with_reducible refine only_foldl (fun c x hc => ?_) _ _ ?_))

theorem Blk.saveMedia_only {m₀ : List Part} {b₀ : Blk} (b : Blk) (full : Bool) (hm₀ : within [.free, .out, .od, .hA, .hB, .muslin, .can, .dev, .path, .lines, .poison, .media, .velvet, .twill, .gauze, .damask, .linen, .tweed, .modes, .safety] m₀) (h₀ : Only m₀ b₀ b) : Only m₀ b₀ (Blk.saveMedia b full) := by
  refine only_step (l := [.free, .out, .od, .hA, .hB, .muslin, .can, .dev, .path, .lines, .poison, .media, .velvet, .twill, .gauze, .damask, .linen, .tweed, .modes, .safety]) ?_ hm₀ h₀
  unfold Blk.saveMedia
  repeat (first | assumption | with_reducible apply only_refl | (with_reducible apply Blk.issueRecords_only <;> [decide; skip]) | (with_reducible apply Blk.endPrograms_only <;> [decide; skip]) | (with_reducible apply Blk.flushAll_only <;> [decide; skip]) | (with_reducible apply Blk.beginCheckpoint_only <;> [decide; skip]) | (with_reducible apply Blk.commitCheckpoint_only <;> [decide; skip]) | (with_reducible apply Blk.settle_only <;> [decide; skip]) | (with_reducible apply Blk.flushTags_only <;> [decide; skip]))

theorem Blk.endFlush_only {m₀ : List Part} {b₀ : Blk} (b : Blk) (start lines : Nat) (hm₀ : within [.free, .out, .od, .odOld, .direct, .regs, .due, .dueB, .hA, .hB, .sesA, .sesB, .sesC, .muslin, .can, .dev, .path, .lines, .poison, .media, .velvet, .twill, .gauze, .damask, .linen, .felt, .tweed, .canvas, .clocks, .thermal, .modes, .safety] m₀) (h₀ : Only m₀ b₀ b) : Only m₀ b₀ (Blk.endFlush b start lines) := by
  refine only_step (l := [.free, .out, .od, .odOld, .direct, .regs, .due, .dueB, .hA, .hB, .sesA, .sesB, .sesC, .muslin, .can, .dev, .path, .lines, .poison, .media, .velvet, .twill, .gauze, .damask, .linen, .felt, .tweed, .canvas, .clocks, .thermal, .modes, .safety]) ?_ hm₀ h₀
  unfold Blk.endFlush
  repeat (first | assumption | with_reducible apply only_refl | (with_reducible apply Blk.onFelt_only <;> [decide; skip]) | (with_reducible apply Blk.odSet_only <;> [decide; skip]) | (with_reducible apply Blk.bump_only <;> [decide; skip]) | (with_reducible apply Blk.report_only <;> [decide; skip]) | (with_reducible apply Blk.saveCounters_only <;> [decide; skip]) | (with_reducible apply Blk.settleRead_only <;> [decide; skip]) | (with_reducible apply Blk.zeroize_only <;> [decide; skip]) | (with_reducible apply Blk.powerDown_only <;> [decide; skip]) | (with_reducible apply Blk.stagingToRing_only <;> [decide; skip]) | (with_reducible apply Blk.foldAll_only <;> [decide; skip]) | (with_reducible apply Blk.saveMedia_only <;> [decide; skip]) | (with_reducible refine only_foldl (fun c x hc => ?_) _ _ ?_) | with_reducible apply only_ite | extract_lets | (dsimp +zetaDelta only))

theorem Blk.orderlyStop_only {m₀ : List Part} {b₀ : Blk} (b : Blk) (hm₀ : within [.free, .out, .od, .odOld, .direct, .regs, .due, .dueB, .hA, .hB, .sesA, .sesB, .sesC, .muslin, .can, .dev, .path, .lines, .poison, .media, .velvet, .twill, .gauze, .damask, .linen, .felt, .tweed, .canvas, .clocks, .thermal, .modes, .safety] m₀) (h₀ : Only m₀ b₀ b) : Only m₀ b₀ (Blk.orderlyStop b) := by
  refine only_step (l := [.free, .out, .od, .odOld, .direct, .regs, .due, .dueB, .hA, .hB, .sesA, .sesB, .sesC, .muslin, .can, .dev, .path, .lines, .poison, .media, .velvet, .twill, .gauze, .damask, .linen, .felt, .tweed, .canvas, .clocks, .thermal, .modes, .safety]) ?_ hm₀ h₀
  unfold Blk.orderlyStop
  repeat (first | assumption | with_reducible apply only_refl | (with_reducible apply Blk.onTwill_only <;> [decide; skip]) | (with_reducible apply Blk.onFelt_only <;> [decide; skip]) | (with_reducible apply Blk.onModes_only <;> [decide; skip]) | (with_reducible apply Blk.clearIngress_only <;> [decide; skip]) | (with_reducible apply Blk.saveCounters_only <;> [decide; skip]) | (with_reducible apply Blk.snapshot_only <;> [decide; skip]) | (with_reducible apply Blk.settle_only <;> [decide; skip]) | (with_reducible apply Blk.powerDown_only <;> [decide; skip]) | (with_reducible apply Blk.abandonTest_only <;> [decide; skip]) | (with_reducible apply Blk.stagingToRing_only <;> [decide; skip]) | (with_reducible apply Blk.foldAll_only <;> [decide; skip]) | (with_reducible apply Blk.saveMedia_only <;> [decide; skip]) | extract_lets | (dsimp +zetaDelta only))

theorem Blk.ringNewest_only {m₀ : List Part} {b₀ : Blk} (b : Blk) (hm₀ : within [.od, .linen] m₀) (h₀ : Only m₀ b₀ b) : Only m₀ b₀ (Blk.ringNewest b) := by
  refine only_step (l := [.od, .linen]) ?_ hm₀ h₀
  unfold Blk.ringNewest
  repeat (first | assumption | with_reducible apply only_refl | (with_reducible apply Blk.onLinen_only <;> [decide; skip]) | (with_reducible apply Blk.ringRec_only <;> [decide; skip]) | with_reducible apply only_ite | split)

theorem Blk.thermalShutdown_only {m₀ : List Part} {b₀ : Blk} (b : Blk) (data : List Byte) (hm₀ : within [.free, .out, .od, .hA, .hB, .muslin, .can, .path, .media, .twill, .linen, .tweed, .modes] m₀) (h₀ : Only m₀ b₀ b) : Only m₀ b₀ (Blk.thermalShutdown b data) := by
  refine only_step (l := [.free, .out, .od, .hA, .hB, .muslin, .can, .path, .media, .twill, .linen, .tweed, .modes]) ?_ hm₀ h₀
  unfold Blk.thermalShutdown
  repeat (first | assumption | with_reducible apply only_refl | (with_reducible apply Blk.onModes_only <;> [decide; skip]) | (with_reducible apply Blk.bump_only <;> [decide; skip]) | (with_reducible apply Blk.report_only <;> [decide; skip]) | (with_reducible apply Blk.faultPin_only <;> [decide; skip]) | (with_reducible apply Blk.beginFlush_only <;> [decide; skip]) | (with_reducible apply Blk.ringNewest_only <;> [decide; skip]) | with_reducible apply only_ite | extract_lets | (dsimp +zetaDelta only))

theorem Blk.retireDie_only {m₀ : List Part} {b₀ : Blk} (b : Blk) (src : Src) (d : Nat) (hm₀ : within [.free, .out, .od, .hA, .hB, .muslin, .can, .dev, .path, .lines, .poison, .media, .twill, .damask, .linen, .tweed, .modes, .safety] m₀) (h₀ : Only m₀ b₀ b) : Only m₀ b₀ (Blk.retireDie b src d) := by
  refine only_step (l := [.free, .out, .od, .hA, .hB, .muslin, .can, .dev, .path, .lines, .poison, .media, .twill, .damask, .linen, .tweed, .modes, .safety]) ?_ hm₀ h₀
  unfold Blk.retireDie
  repeat (first | assumption | with_reducible apply only_refl | (with_reducible apply Blk.dieFail_only <;> [decide; skip]) | (with_reducible apply Blk.wrote_only <;> [decide; skip]) | with_reducible apply only_ite)

theorem Blk.retireChannel_only {m₀ : List Part} {b₀ : Blk} (b : Blk) (src : Src) (c : Nat) (hm₀ : within [.free, .out, .od, .hA, .hB, .muslin, .can, .dev, .path, .lines, .poison, .media, .twill, .damask, .linen, .tweed, .modes, .safety] m₀) (h₀ : Only m₀ b₀ b) : Only m₀ b₀ (Blk.retireChannel b src c) := by
  refine only_step (l := [.free, .out, .od, .hA, .hB, .muslin, .can, .dev, .path, .lines, .poison, .media, .twill, .damask, .linen, .tweed, .modes, .safety]) ?_ hm₀ h₀
  unfold Blk.retireChannel
  repeat (first | assumption | with_reducible apply only_refl | (with_reducible apply Blk.channelFail_only <;> [decide; skip]) | (with_reducible apply Blk.wrote_only <;> [decide; skip]))

theorem Blk.askRetrain_only {m₀ : List Part} {b₀ : Blk} (b : Blk) (src : Src) (ch : Nat) (hm₀ : within [.out, .can, .media] m₀) (h₀ : Only m₀ b₀ b) : Only m₀ b₀ (Blk.askRetrain b src ch) := by
  refine only_step (l := [.out, .can, .media]) ?_ hm₀ h₀
  unfold Blk.askRetrain
  repeat (first | assumption | with_reducible apply only_refl | (with_reducible apply Blk.onChan_only <;> [decide; skip]) | (with_reducible apply Blk.wrote_only <;> [decide; skip]) | with_reducible apply only_ite | extract_lets | (dsimp +zetaDelta only))

theorem Blk.toStandby_only {m₀ : List Part} {b₀ : Blk} (b : Blk) (src : Src) (hm₀ : within [.free, .out, .od, .odOld, .direct, .regs, .due, .dueB, .hA, .hB, .sesA, .sesB, .sesC, .muslin, .can, .dev, .path, .lines, .poison, .media, .velvet, .twill, .gauze, .damask, .linen, .felt, .tweed, .canvas, .clocks, .thermal, .modes, .safety] m₀) (h₀ : Only m₀ b₀ b) : Only m₀ b₀ (Blk.toStandby b src) := by
  refine only_step (l := [.free, .out, .od, .odOld, .direct, .regs, .due, .dueB, .hA, .hB, .sesA, .sesB, .sesC, .muslin, .can, .dev, .path, .lines, .poison, .media, .velvet, .twill, .gauze, .damask, .linen, .felt, .tweed, .canvas, .clocks, .thermal, .modes, .safety]) ?_ hm₀ h₀
  unfold Blk.toStandby
  repeat (first | assumption | with_reducible apply only_refl | (with_reducible apply Blk.onModes_only <;> [decide; skip]) | (with_reducible apply Blk.wrote_only <;> [decide; skip]) | (with_reducible apply Blk.orderlyStop_only <;> [decide; skip]))

theorem Blk.beginTest_only {m₀ : List Part} {b₀ : Blk} (b : Blk) (hm₀ : within [.canvas] m₀) (h₀ : Only m₀ b₀ b) : Only m₀ b₀ (Blk.beginTest b) := by
  refine only_step (l := [.canvas]) ?_ hm₀ h₀
  unfold Blk.beginTest
  repeat (first | assumption | with_reducible apply only_refl | (with_reducible apply Blk.onCanvas_only <;> [decide; skip]) | (refine ⟨fun p hp => ?_⟩; cases p <;> first | rfl | exact absurd (by decide) hp))

theorem Blk.askTest_only {m₀ : List Part} {b₀ : Blk} (b : Blk) (src : Src) (hm₀ : within [.out, .can, .canvas] m₀) (h₀ : Only m₀ b₀ b) : Only m₀ b₀ (Blk.askTest b src) := by
  refine only_step (l := [.out, .can, .canvas]) ?_ hm₀ h₀
  unfold Blk.askTest
  repeat (first | assumption | with_reducible apply only_refl | (with_reducible apply Blk.wrote_only <;> [decide; skip]) | (with_reducible apply Blk.beginTest_only <;> [decide; skip]) | with_reducible apply only_ite)

theorem Blk.clearTweed_only {m₀ : List Part} {b₀ : Blk} (b : Blk) (src : Src) (hm₀ : within [.out, .can, .tweed] m₀) (h₀ : Only m₀ b₀ b) : Only m₀ b₀ (Blk.clearTweed b src) := by
  refine only_step (l := [.out, .can, .tweed]) ?_ hm₀ h₀
  unfold Blk.clearTweed
  repeat (first | assumption | with_reducible apply only_refl | (with_reducible apply Blk.onTweed_only <;> [decide; skip]) | (with_reducible apply Blk.wrote_only <;> [decide; skip]))

theorem Blk.action_only {m₀ : List Part} {b₀ : Blk} (b : Blk) (src : Src) (idx sub v : Nat) (hm₀ : within [.free, .out, .od, .odOld, .direct, .regs, .due, .dueB, .hA, .hB, .sesA, .sesB, .sesC, .muslin, .can, .dev, .path, .lines, .poison, .media, .velvet, .twill, .gauze, .damask, .linen, .felt, .tweed, .canvas, .clocks, .thermal, .modes, .safety] m₀) (h₀ : Only m₀ b₀ b) : Only m₀ b₀ (Blk.action b src idx sub v) := by
  refine only_step (l := [.free, .out, .od, .odOld, .direct, .regs, .due, .dueB, .hA, .hB, .sesA, .sesB, .sesC, .muslin, .can, .dev, .path, .lines, .poison, .media, .velvet, .twill, .gauze, .damask, .linen, .felt, .tweed, .canvas, .clocks, .thermal, .modes, .safety]) ?_ hm₀ h₀
  unfold Blk.action
  repeat (first | assumption | with_reducible apply only_refl | (with_reducible apply Blk.odSetFor_only <;> [decide; skip]) | (with_reducible apply Blk.wrote_only <;> [decide; skip]) | (with_reducible apply Blk.startRange_only <;> [decide; skip]) | (with_reducible apply Blk.byAddress_only <;> [decide; skip]) | (with_reducible apply Blk.bySetWay_only <;> [decide; skip]) | (with_reducible apply Blk.openBarrier_only <;> [decide; skip]) | (with_reducible apply Blk.unlockRegion_only <;> [decide; skip]) | (with_reducible apply Blk.resetCount_only <;> [decide; skip]) | (with_reducible apply Blk.clearHistograms_only <;> [decide; skip]) | (with_reducible apply Blk.addAction_only <;> [decide; skip]) | (with_reducible apply Blk.releaseAction_only <;> [decide; (intros; try dsimp only); skip]) | (with_reducible apply Blk.askRelease_only <;> [decide; skip]) | (with_reducible apply Blk.forceRelease_only <;> [decide; skip]) | (with_reducible apply Blk.defaultsAction_only <;> [decide; skip]) | (with_reducible apply Blk.responseAction_only <;> [decide; skip]) | (with_reducible apply Blk.closeAction_only <;> [decide; skip]) | (with_reducible apply Blk.retireDie_only <;> [decide; skip]) | (with_reducible apply Blk.retireChannel_only <;> [decide; skip]) | (with_reducible apply Blk.askRetrain_only <;> [decide; skip]) | (with_reducible apply Blk.toStandby_only <;> [decide; skip]) | (with_reducible apply Blk.askTest_only <;> [decide; skip]) | (with_reducible apply Blk.clearTweed_only <;> [decide; skip]) | with_reducible apply only_ite | split)

end Sys2Proof.Machine
end

