-- ==== Sys2Proof/Laws/FrameUnits.lean ====
section
/-! SUPPORT. What the operations over the transports, the units, the dies and the power may change: one lemma for each. -/

set_option linter.all false
set_option Elab.async false

namespace Sys2Proof.Machine

open Sys2Proof.Safety

theorem Blk.bulkReq_only {m₀ : List Part} {b₀ : Blk} (b : Blk) (h : Head) (maint : Bool) (f : Blk → Blk) (hm₀ : within [.sesA, .sesB, .sesC] m₀) (hf : ∀ c, Only m₀ b₀ c → Only m₀ b₀ (f c)) (h₀ : Only m₀ b₀ b) : Only m₀ b₀ (Blk.bulkReq b h maint f) := by
  unfold Blk.bulkReq
  repeat (first | with_reducible assumption | (with_reducible apply Blk.touch_only <;> [(refine within_trans ?_ hm₀; decide); skip]) | (with_reducible apply Blk.mbox_only <;> [(refine within_trans ?_ hm₀; decide); (intros; try dsimp only); skip]) | (with_reducible apply hf) | (with_reducible apply only_ite) | extract_lets | split | (intro c hc) | (refine ⟨fun p hp => same_trans (h₀.same p hp) ?_⟩; cases p <;> first | rfl | exact absurd (by (first | assumption | (refine List.contains_iff_mem.1 (List.all_eq_true.1 hm₀ _ (by decide))))) hp))

theorem Blk.markExport_only {m₀ : List Part} {b₀ : Blk} (b : Blk) (idx sub : Nat) (hm₀ : within [.damask] m₀) (h₀ : Only m₀ b₀ b) : Only m₀ b₀ (Blk.markExport b idx sub) := by
  refine only_step (l := [.damask]) ?_ hm₀ h₀
  unfold Blk.markExport
  repeat (first | with_reducible assumption | with_reducible apply only_refl | (with_reducible apply Blk.onDamask_only <;> [decide; skip]) | with_reducible apply only_ite)

theorem Blk.endTransfer_only {m₀ : List Part} {b₀ : Blk} (b : Blk) (k : Bulk) (crc : BitVec 32) (hm₀ : within [.rng, .free, .out, .od, .hA, .hB, .muslin, .can, .lines, .twill, .gauze, .damask, .linen, .felt, .tweed, .modes] m₀) (h₀ : Only m₀ b₀ b) : Only m₀ b₀ (Blk.endTransfer b k crc).1 := by
  refine only_step (l := [.rng, .free, .out, .od, .hA, .hB, .muslin, .can, .lines, .twill, .gauze, .damask, .linen, .felt, .tweed, .modes]) ?_ hm₀ h₀
  unfold Blk.endTransfer
  repeat (first | with_reducible assumption | with_reducible apply only_refl | (with_reducible apply Blk.onDamask_only <;> [decide; skip]) | (with_reducible apply Blk.objectApply_only <;> [decide; skip]) | with_reducible apply only_ite | with_reducible apply only_ite_fst | dsimp only)

theorem Blk.pumpSegments_only {m₀ : List Part} {b₀ : Blk} (n : Nat) (b : Blk) (hm₀ : within [.out, .can] m₀) (h₀ : Only m₀ b₀ b) : Only m₀ b₀ (Blk.pumpSegments n b) := by
  induction n generalizing b with
  | zero => exact h₀
  | succ n ih =>
    have hs {l : List Part} (hl : within l [.out, .can]) : within l m₀ := within_trans hl hm₀
    unfold Blk.pumpSegments
    split
    · exact h₀
    · exact only_ite (ih _ (Blk.canSend_only _ _ (hs (by decide)) (Blk.onCan_only _ _ (hs (by decide)) h₀))) h₀

theorem Blk.withTransfer_only {m₀ : List Part} {b₀ : Blk} (b : Blk) (trans : BitVec 8) (op : Nat) (f : Bulk → Blk) (hm₀ : within [.out, .can] m₀) (hf : ∀ k, Only m₀ b₀ (f k)) (h₀ : Only m₀ b₀ b) : Only m₀ b₀ (Blk.withTransfer b trans op f) := by
  unfold Blk.withTransfer
  repeat (first | with_reducible assumption | (with_reducible apply Blk.onCan_only <;> [(refine within_trans ?_ hm₀; decide); skip]) | (with_reducible apply Blk.canStatus_only <;> [(refine within_trans ?_ hm₀; decide); skip]) | (with_reducible apply hf) | (with_reducible apply only_ite) | extract_lets | split | (intro c hc) | (refine ⟨fun p hp => same_trans (h₀.same p hp) ?_⟩; cases p <;> first | rfl | exact absurd (by (first | assumption | (refine List.contains_iff_mem.1 (List.all_eq_true.1 hm₀ _ (by decide))))) hp))

theorem Blk.dump_only {m₀ : List Part} {b₀ : Blk} (b : Blk) (hm₀ : within [.out, .od, .hA, .hB, .can, .linen, .tweed] m₀) (h₀ : Only m₀ b₀ b) : Only m₀ b₀ (Blk.dump b) := by
  refine only_step (l := [.out, .od, .hA, .hB, .can, .linen, .tweed]) ?_ hm₀ h₀
  unfold Blk.dump
  repeat (first | with_reducible assumption | with_reducible apply only_refl | (with_reducible apply Blk.onTweed_only <;> [decide; skip]) | (with_reducible apply Blk.bankSwap_only <;> [decide; skip]) | (with_reducible apply Blk.pushPacket_only <;> [decide; skip]) | extract_lets | (dsimp +zetaDelta only))

theorem Blk.forcedSwitches_only {m₀ : List Part} {b₀ : Blk} (n : Nat) (b : Blk) (hm₀ : within [.out, .od, .hA, .hB, .can, .linen] m₀) (h₀ : Only m₀ b₀ b) : Only m₀ b₀ (Blk.forcedSwitches n b) := by
  induction n generalizing b with
  | zero => exact h₀
  | succ n ih =>
    have hs {l : List Part} (hl : within l [.out, .od, .hA, .hB, .can, .linen]) : within l m₀ := within_trans hl hm₀
    exact ih _ (Blk.report_only _ _ (hs (by decide)) (Blk.bump_only _ _ _ _ (hs (by decide)) h₀))

theorem Blk.clockSleep_only {m₀ : List Part} {b₀ : Blk} (b : Blk) (hm₀ : within [.free, .out, .od, .hA, .hB, .muslin, .can, .dev, .path, .lines, .poison, .media, .velvet, .twill, .gauze, .damask, .linen, .tweed, .modes, .safety] m₀) (h₀ : Only m₀ b₀ b) : Only m₀ b₀ (Blk.clockSleep b) := by
  refine only_step (l := [.free, .out, .od, .hA, .hB, .muslin, .can, .dev, .path, .lines, .poison, .media, .velvet, .twill, .gauze, .damask, .linen, .tweed, .modes, .safety]) ?_ hm₀ h₀
  unfold Blk.clockSleep
  repeat (first | with_reducible assumption | with_reducible apply only_refl | (with_reducible apply Blk.enter_only <;> [decide; skip]) | (with_reducible apply Blk.fallAsleep_only <;> [decide; skip]) | with_reducible apply only_ite | extract_lets | (dsimp +zetaDelta only))

theorem Blk.clockFailure_only {m₀ : List Part} {b₀ : Blk} (b : Blk) (hm₀ : within [.free, .out, .od, .hA, .hB, .muslin, .can, .dev, .path, .lines, .poison, .media, .velvet, .twill, .gauze, .damask, .linen, .tweed, .clocks, .modes, .safety] m₀) (h₀ : Only m₀ b₀ b) : Only m₀ b₀ (Blk.clockFailure b) := by
  refine only_step (l := [.free, .out, .od, .hA, .hB, .muslin, .can, .dev, .path, .lines, .poison, .media, .velvet, .twill, .gauze, .damask, .linen, .tweed, .clocks, .modes, .safety]) ?_ hm₀ h₀
  unfold Blk.clockFailure
  repeat (first | with_reducible assumption | with_reducible apply only_refl | (with_reducible apply Blk.onClocks_only <;> [decide; skip]) | (with_reducible apply Blk.faultPin_only <;> [decide; skip]) | (with_reducible apply Blk.clockSleep_only <;> [decide; skip]) | with_reducible apply only_ite)

theorem Blk.startReturn_only {m₀ : List Part} {b₀ : Blk} (b : Blk) (hm₀ : within [.clocks] m₀) (h₀ : Only m₀ b₀ b) : Only m₀ b₀ (Blk.startReturn b) := by
  refine only_step (l := [.clocks]) ?_ hm₀ h₀
  unfold Blk.startReturn
  repeat (first | with_reducible assumption | with_reducible apply only_refl | (with_reducible apply Blk.onClocks_only <;> [decide; skip]) | with_reducible apply only_ite | extract_lets | (refine ⟨fun p hp => ?_⟩; cases p <;> first | rfl | exact absurd (by decide) hp) | (dsimp +zetaDelta only))

theorem Blk.autoReturn_only {m₀ : List Part} {b₀ : Blk} (b : Blk) (hm₀ : within [.clocks] m₀) (h₀ : Only m₀ b₀ b) : Only m₀ b₀ (Blk.autoReturn b) := by
  refine only_step (l := [.clocks]) ?_ hm₀ h₀
  unfold Blk.autoReturn
  repeat (first | with_reducible assumption | with_reducible apply only_refl | (with_reducible apply Blk.startReturn_only <;> [decide; skip]) | with_reducible apply only_ite)

theorem Blk.pllFail_only {m₀ : List Part} {b₀ : Blk} (b : Blk) (p : Pll) (stopped : Bool) (hm₀ : within [.free, .out, .od, .hA, .hB, .muslin, .can, .dev, .path, .lines, .poison, .media, .velvet, .twill, .gauze, .damask, .linen, .tweed, .clocks, .modes, .safety] m₀) (h₀ : Only m₀ b₀ b) : Only m₀ b₀ (Blk.pllFail b p stopped) := by
  refine only_step (l := [.free, .out, .od, .hA, .hB, .muslin, .can, .dev, .path, .lines, .poison, .media, .velvet, .twill, .gauze, .damask, .linen, .tweed, .clocks, .modes, .safety]) ?_ hm₀ h₀
  unfold Blk.pllFail
  repeat (first | with_reducible assumption | with_reducible apply only_refl | (with_reducible apply Blk.onClocks_only <;> [decide; skip]) | (with_reducible apply Blk.bump_only <;> [decide; skip]) | (with_reducible apply Blk.report_only <;> [decide; skip]) | (with_reducible apply Blk.detect_only <;> [decide; skip]) | (with_reducible apply Blk.forcedSwitches_only <;> [decide; skip]) | (with_reducible apply Blk.clockFailure_only <;> [decide; skip]) | with_reducible apply only_ite | extract_lets | (refine ⟨fun p hp => ?_⟩; cases p <;> first | rfl | exact absurd (by decide) hp) | (dsimp +zetaDelta only))

theorem Blk.onSensor_only {m₀ : List Part} {b₀ : Blk} (b : Blk) (i : Nat) (f : Sensor → Sensor) (hm₀ : within [.thermal] m₀) (h₀ : Only m₀ b₀ b) : Only m₀ b₀ (Blk.onSensor b i f) := by
  refine only_step (l := [.thermal]) ?_ hm₀ h₀
  unfold Blk.onSensor
  repeat (first | with_reducible assumption | with_reducible apply only_refl | (with_reducible apply Blk.onThermal_only <;> [decide; skip]))

theorem Blk.sampleSensor_only {m₀ : List Part} {b₀ : Blk} (b : Blk) (i : Nat) (raw : BitVec 16) (hm₀ : within [.free, .out, .od, .hA, .hB, .can, .path, .linen, .tweed, .thermal, .modes, .safety] m₀) (h₀ : Only m₀ b₀ b) : Only m₀ b₀ (Blk.sampleSensor b i raw) := by
  refine only_step (l := [.free, .out, .od, .hA, .hB, .can, .path, .linen, .tweed, .thermal, .modes, .safety]) ?_ hm₀ h₀
  unfold Blk.sampleSensor
  repeat (first | with_reducible assumption | with_reducible apply only_refl | (with_reducible apply Blk.reportUnit_only <;> [decide; skip]) | (with_reducible apply Blk.detect_only <;> [decide; skip]) | (with_reducible apply Blk.onSensor_only <;> [decide; skip]) | with_reducible apply only_ite | extract_lets | (dsimp +zetaDelta only))

theorem Blk.throttle_only {m₀ : List Part} {b₀ : Blk} (b : Blk) (hm₀ : within [.out, .od, .hA, .hB, .muslin, .can, .dev, .linen, .tweed, .thermal, .modes] m₀) (h₀ : Only m₀ b₀ b) : Only m₀ b₀ (Blk.throttle b) := by
  refine only_step (l := [.out, .od, .hA, .hB, .muslin, .can, .dev, .linen, .tweed, .thermal, .modes]) ?_ hm₀ h₀
  unfold Blk.throttle
  repeat (first | with_reducible assumption | with_reducible apply only_refl | (with_reducible apply Blk.onThermal_only <;> [decide; skip]) | (with_reducible apply Blk.bump_only <;> [decide; skip]) | (with_reducible apply Blk.enter_only <;> [decide; skip]) | (with_reducible apply Blk.healthCheck_only <;> [decide; skip]) | with_reducible apply only_ite)

theorem Blk.coolDown_only {m₀ : List Part} {b₀ : Blk} (b : Blk) (hm₀ : within [.thermal, .modes] m₀) (h₀ : Only m₀ b₀ b) : Only m₀ b₀ (Blk.coolDown b) := by
  refine only_step (l := [.thermal, .modes]) ?_ hm₀ h₀
  unfold Blk.coolDown
  repeat (first | with_reducible assumption | with_reducible apply only_refl | (with_reducible apply Blk.onThermal_only <;> [decide; skip]) | (with_reducible apply Blk.faultPin_only <;> [decide; skip]) | with_reducible apply only_ite | extract_lets | split | (dsimp +zetaDelta only))

theorem Blk.sensorCount_only {m₀ : List Part} {b₀ : Blk} (b : Blk) (before : Nat) (hm₀ : within [.free, .out, .od, .hA, .hB, .muslin, .can, .dev, .path, .linen, .tweed, .thermal, .modes, .safety] m₀) (h₀ : Only m₀ b₀ b) : Only m₀ b₀ (Blk.sensorCount b before) := by
  refine only_step (l := [.free, .out, .od, .hA, .hB, .muslin, .can, .dev, .path, .linen, .tweed, .thermal, .modes, .safety]) ?_ hm₀ h₀
  unfold Blk.sensorCount
  repeat (first | with_reducible assumption | with_reducible apply only_refl | (with_reducible apply Blk.onThermal_only <;> [decide; skip]) | (with_reducible apply Blk.report_only <;> [decide; skip]) | (with_reducible apply Blk.faultPin_only <;> [decide; skip]) | (with_reducible apply Blk.detect_only <;> [decide; skip]) | (with_reducible apply Blk.throttle_only <;> [decide; skip]) | with_reducible apply only_ite | extract_lets | (dsimp +zetaDelta only))

theorem Blk.coolBoot_only {m₀ : List Part} {b₀ : Blk} (b : Blk) (hm₀ : within [.out, .od, .hA, .hB, .muslin, .can, .linen, .tweed, .canvas, .modes] m₀) (h₀ : Only m₀ b₀ b) : Only m₀ b₀ (Blk.coolBoot b) := by
  refine only_step (l := [.out, .od, .hA, .hB, .muslin, .can, .linen, .tweed, .canvas, .modes]) ?_ hm₀ h₀
  unfold Blk.coolBoot
  repeat (first | with_reducible assumption | with_reducible apply only_refl | (with_reducible apply Blk.onModes_only <;> [decide; skip]) | (with_reducible apply Blk.faultPin_only <;> [decide; skip]) | (with_reducible apply Blk.startBoot_only <;> [decide; skip]) | with_reducible apply only_ite | split)

theorem Blk.onCtl_only {m₀ : List Part} {b₀ : Blk} (b : Blk) (h : Head) (f : Ctl → Ctl) (hm₀ : within [.hA, .hB] m₀) (h₀ : Only m₀ b₀ b) : Only m₀ b₀ (Blk.onCtl b h f) := by
  refine only_step (l := [.hA, .hB]) ?_ hm₀ h₀
  unfold Blk.onCtl
  repeat (first | with_reducible assumption | with_reducible apply only_refl | (with_reducible apply Blk.onHead_only <;> [decide; skip]))

theorem Blk.iTake_only {m₀ : List Part} {b₀ : Blk} (b : Blk) (addr : BitVec 32) (width : Nat) (v : BitVec 64) (hm₀ : within [.free, .out, .od, .odOld, .direct, .regs, .hA, .hB, .muslin, .can, .dev, .path, .lines, .poison, .media, .velvet, .twill, .gauze, .damask, .linen, .felt, .tweed, .modes, .safety] m₀) (h₀ : Only m₀ b₀ b) : Only m₀ b₀ (Blk.iTake b addr width v) := by
  refine only_step (l := [.free, .out, .od, .odOld, .direct, .regs, .hA, .hB, .muslin, .can, .dev, .path, .lines, .poison, .media, .velvet, .twill, .gauze, .damask, .linen, .felt, .tweed, .modes, .safety]) ?_ hm₀ h₀
  unfold Blk.iTake
  repeat (first | with_reducible assumption | with_reducible apply only_refl | (with_reducible apply Blk.takeDirect_only <;> [decide; skip]) | split | (refine ⟨fun p hp => ?_⟩; cases p <;> first | rfl | exact absurd (by decide) hp))

theorem Blk.refuseWrite_only {m₀ : List Part} {b₀ : Blk} (b : Blk) (h : Head) (addr : BitVec 32) (hm₀ : within [.out, .od, .hA, .hB, .can, .linen] m₀) (h₀ : Only m₀ b₀ b) : Only m₀ b₀ (Blk.refuseWrite b h addr) := by
  refine only_step (l := [.out, .od, .hA, .hB, .can, .linen]) ?_ hm₀ h₀
  unfold Blk.refuseWrite
  repeat (first | with_reducible assumption | with_reducible apply only_refl | (with_reducible apply Blk.report_only <;> [decide; skip]) | (with_reducible apply Blk.onCtl_only <;> [decide; skip]) | with_reducible apply only_ite | extract_lets | split | (dsimp +zetaDelta only))

theorem Blk.ackPosted_only {m₀ : List Part} {b₀ : Blk} (b : Blk) (h : Head) (hm₀ : within [.free, .out, .od, .odOld, .direct, .regs, .hA, .hB, .muslin, .can, .dev, .path, .lines, .poison, .media, .velvet, .twill, .gauze, .damask, .linen, .felt, .tweed, .modes, .safety] m₀) (h₀ : Only m₀ b₀ b) : Only m₀ b₀ (Blk.ackPosted b h) := by
  refine only_step (l := [.free, .out, .od, .odOld, .direct, .regs, .hA, .hB, .muslin, .can, .dev, .path, .lines, .poison, .media, .velvet, .twill, .gauze, .damask, .linen, .felt, .tweed, .modes, .safety]) ?_ hm₀ h₀
  unfold Blk.ackPosted
  repeat (first | with_reducible assumption | with_reducible apply only_refl | (with_reducible apply Blk.onCtl_only <;> [decide; skip]) | (with_reducible apply Blk.iTake_only <;> [decide; skip]) | split)

theorem Blk.afterRead_only {m₀ : List Part} {b₀ : Blk} (b : Blk) (h : Head) (hm₀ : within [.hA, .hB] m₀) (h₀ : Only m₀ b₀ b) : Only m₀ b₀ (Blk.afterRead b h) := by
  refine only_step (l := [.hA, .hB]) ?_ hm₀ h₀
  unfold Blk.afterRead
  repeat (first | with_reducible assumption | with_reducible apply only_refl | (with_reducible apply Blk.onCtl_only <;> [decide; skip]) | with_reducible apply only_ite)

theorem Blk.badRead_only {m₀ : List Part} {b₀ : Blk} (b : Blk) (h : Head) (off bytes : Nat) (hm₀ : within [.out, .hA, .hB] m₀) (h₀ : Only m₀ b₀ b) : Only m₀ b₀ (Blk.badRead b h off bytes) := by
  refine only_step (l := [.out, .hA, .hB]) ?_ hm₀ h₀
  unfold Blk.badRead
  repeat (first | with_reducible assumption | with_reducible apply only_refl | (with_reducible apply Blk.emit_only <;> [decide; skip]) | (with_reducible apply Blk.onCtl_only <;> [decide; skip]))

theorem Blk.ctlWord_only {m₀ : List Part} {b₀ : Blk} (b : Blk) (h : Head) (off : Nat) (v : BitVec 32) (hm₀ : within [.free, .out, .od, .odOld, .direct, .regs, .hA, .hB, .muslin, .can, .dev, .path, .lines, .poison, .media, .velvet, .twill, .gauze, .damask, .linen, .felt, .tweed, .modes, .safety] m₀) (h₀ : Only m₀ b₀ b) : Only m₀ b₀ (Blk.ctlWord b h off v) := by
  refine only_step (l := [.free, .out, .od, .odOld, .direct, .regs, .hA, .hB, .muslin, .can, .dev, .path, .lines, .poison, .media, .velvet, .twill, .gauze, .damask, .linen, .felt, .tweed, .modes, .safety]) ?_ hm₀ h₀
  unfold Blk.ctlWord
  repeat (first | with_reducible assumption | with_reducible apply only_refl | (with_reducible apply Blk.onSafety_only <;> [decide; skip]) | (with_reducible apply Blk.onCtl_only <;> [decide; skip]) | (with_reducible apply Blk.ackPosted_only <;> [decide; skip]) | split | (refine ⟨fun p hp => ?_⟩; cases p <;> first | rfl | exact absurd (by decide) hp))

theorem Blk.guardEnd_only {m₀ : List Part} {b₀ : Blk} (b : Blk) (h : Head) (target : BitVec 16) (result : BitVec 4) (hm₀ : within [.out, .od, .hA, .hB, .can, .linen] m₀) (h₀ : Only m₀ b₀ b) : Only m₀ b₀ (Blk.guardEnd b h target result) := by
  refine only_step (l := [.out, .od, .hA, .hB, .can, .linen]) ?_ hm₀ h₀
  unfold Blk.guardEnd
  repeat (first | with_reducible assumption | with_reducible apply only_refl | (with_reducible apply Blk.report_only <;> [decide; skip]) | (with_reducible apply Blk.onCtl_only <;> [decide; skip]) | with_reducible apply only_ite | extract_lets | (dsimp +zetaDelta only))

theorem Blk.dueAdd_only {m₀ : List Part} {b₀ : Blk} (b : Blk) (h : Head) (e : BitVec 16 × BitVec 32) (hm₀ : within [.due, .dueB] m₀) (h₀ : Only m₀ b₀ b) : Only m₀ b₀ (Blk.dueAdd b h e) := by
  refine only_step (l := [.due, .dueB]) ?_ hm₀ h₀
  unfold Blk.dueAdd
  repeat (first | with_reducible assumption | with_reducible apply only_refl | with_reducible apply only_ite | extract_lets | split | (refine ⟨fun p hp => ?_⟩; cases p <;> first | rfl | exact absurd (by decide) hp) | (dsimp +zetaDelta only))

theorem Blk.takeDue_only {m₀ : List Part} {b₀ : Blk} (b : Blk) (target : Nat) (ok : Nat → Bool) (f : Nat → Blk → Blk) (hm₀ : within [.due, .dueB] m₀) (hf : ∀ v c, Only m₀ b₀ c → Only m₀ b₀ (f v c)) (h₀ : Only m₀ b₀ b) : Only m₀ b₀ (Blk.takeDue b target ok f) := by
  unfold Blk.takeDue
  repeat (first | with_reducible assumption | (with_reducible apply hf) | (with_reducible apply only_ite) | extract_lets | split | (intro c hc) | (refine ⟨fun p hp => same_trans (h₀.same p hp) ?_⟩; cases p <;> first | rfl | exact absurd (by (first | assumption | (refine List.contains_iff_mem.1 (List.all_eq_true.1 hm₀ _ (by decide))))) hp))

theorem Blk.abortRecords_only {m₀ : List Part} {b₀ : Blk} (b : Blk) (hm₀ : within [.hA, .hB, .can] m₀) (h₀ : Only m₀ b₀ b) : Only m₀ b₀ (Blk.abortRecords b) := by
  refine only_step (l := [.hA, .hB, .can]) ?_ hm₀ h₀
  unfold Blk.abortRecords
  repeat (first | with_reducible assumption | with_reducible apply only_refl | (with_reducible apply Blk.onHA_only <;> [decide; skip]) | (with_reducible apply Blk.onHB_only <;> [decide; skip]) | (with_reducible apply Blk.onCan_only <;> [decide; skip]) | extract_lets | (refine ⟨fun p hp => ?_⟩; cases p <;> first | rfl | exact absurd (by decide) hp) | (dsimp +zetaDelta only))

theorem Blk.formatArea_only {m₀ : List Part} {b₀ : Blk} (b : Blk) (i : Nat) (hm₀ : within [.free, .out, .od, .hA, .hB, .can, .path, .velvet, .gauze, .damask, .linen, .felt, .tweed] m₀) (h₀ : Only m₀ b₀ b) : Only m₀ b₀ (Blk.formatArea b i) := by
  refine only_step (l := [.free, .out, .od, .hA, .hB, .can, .path, .velvet, .gauze, .damask, .linen, .felt, .tweed]) ?_ hm₀ h₀
  unfold Blk.formatArea
  split
  · refine only_step (l := [.od]) (c := b.abortRecords.onLinen fun l => { l with staging := [], ring := [], waiting := [], head := 0 }) ⟨fun p hp => ?_⟩ (by decide) (Blk.onLinen_only _ _ (by decide) (Blk.abortRecords_only _ (by decide) (only_refl _ _)))
    cases p <;> first | rfl | exact absurd (by decide) hp
  · refine Blk.itemWrite_only _ _ (by decide) (Blk.onFelt_only _ _ (by decide) ⟨fun p hp => ?_⟩)
    cases p <;> first | rfl | exact absurd (by decide) hp
  all_goals repeat (first | with_reducible assumption | with_reducible apply only_refl | (with_reducible apply Blk.onGauze_only <;> [decide; skip]) | (with_reducible apply Blk.onDamask_only <;> [decide; skip]) | (with_reducible apply Blk.onLinen_only <;> [decide; skip]) | (with_reducible apply Blk.onFelt_only <;> [decide; skip]) | (with_reducible apply Blk.dropCopies_only <;> [decide; skip]) | (with_reducible apply Blk.itemWrite_only <;> [decide; skip]) | (with_reducible apply Blk.zeroize_only <;> [decide; skip]) | (with_reducible apply Blk.blankKeys_only <;> [decide; skip]) | (with_reducible apply Blk.abortRecords_only <;> [decide; skip]) | with_reducible apply only_ite)

theorem Blk.loseInput_only {m₀ : List Part} {b₀ : Blk} (b : Blk) (cause : Nat) (hm₀ : within [.free, .out, .od, .odOld, .direct, .regs, .due, .dueB, .hA, .hB, .sesA, .sesB, .sesC, .muslin, .can, .dev, .path, .lines, .poison, .media, .velvet, .twill, .gauze, .damask, .linen, .felt, .tweed, .canvas, .clocks, .thermal, .modes, .safety] m₀) (h₀ : Only m₀ b₀ b) : Only m₀ b₀ (Blk.loseInput b cause) := by
  refine only_step (l := [.free, .out, .od, .odOld, .direct, .regs, .due, .dueB, .hA, .hB, .sesA, .sesB, .sesC, .muslin, .can, .dev, .path, .lines, .poison, .media, .velvet, .twill, .gauze, .damask, .linen, .felt, .tweed, .canvas, .clocks, .thermal, .modes, .safety]) ?_ hm₀ h₀
  unfold Blk.loseInput
  repeat (first | with_reducible assumption | with_reducible apply only_refl | (with_reducible apply Blk.onModes_only <;> [decide; skip]) | (with_reducible apply Blk.dropRails_only <;> [decide; skip]) | (with_reducible apply Blk.beginFlush_only <;> [decide; skip]) | with_reducible apply only_ite)

theorem Blk.putCopies_only {m₀ : List Part} {b₀ : Blk} (b : Blk) (f : Voted) (v : Nat) (hm₀ : within [.velvet, .damask, .felt, .modes, .safety] m₀) (h₀ : Only m₀ b₀ b) : Only m₀ b₀ (Blk.putCopies b f v) := by
  refine only_step (l := [.velvet, .damask, .felt, .modes, .safety]) ?_ hm₀ h₀
  unfold Blk.putCopies
  repeat (first | with_reducible assumption | with_reducible apply only_refl | (with_reducible apply Blk.onVelvet_only <;> [decide; skip]) | (with_reducible apply Blk.onDamask_only <;> [decide; skip]) | (with_reducible apply Blk.onFelt_only <;> [decide; skip]) | (with_reducible apply Blk.onModes_only <;> [decide; skip]) | (with_reducible apply Blk.onSafety_only <;> [decide; skip]) | split)

theorem Blk.reload_only {m₀ : List Part} {b₀ : Blk} (b : Blk) (d : Dom) (off : Nat) (hm₀ : within [.regs, .hA, .hB] m₀) (h₀ : Only m₀ b₀ b) : Only m₀ b₀ (Blk.reload b d off) := by
  refine only_step (l := [.regs, .hA, .hB]) ?_ hm₀ h₀
  unfold Blk.reload
  repeat (first | with_reducible assumption | with_reducible apply only_refl | (with_reducible apply Blk.onCtl_only <;> [decide; skip]) | with_reducible apply only_ite | extract_lets | split | (refine ⟨fun p hp => ?_⟩; cases p <;> first | rfl | exact absurd (by decide) hp) | (dsimp +zetaDelta only))

theorem Blk.discardCaches_only {m₀ : List Part} {b₀ : Blk} (b : Blk) (hm₀ : within [.path, .velvet, .damask] m₀) (h₀ : Only m₀ b₀ b) : Only m₀ b₀ (Blk.discardCaches b) := by
  refine only_step (l := [.path, .velvet, .damask]) ?_ hm₀ h₀
  unfold Blk.discardCaches
  repeat (first | with_reducible assumption | with_reducible apply only_refl | (with_reducible apply Blk.onPath_only <;> [decide; skip]) | (with_reducible apply Blk.onVelvet_only <;> [decide; skip]) | (with_reducible apply Blk.onDamask_only <;> [decide; skip]))

theorem Blk.newKeys_only {m₀ : List Part} {b₀ : Blk} (b : Blk) (hm₀ : within [.rng, .out, .od, .hA, .hB, .can, .lines, .twill, .damask, .linen, .felt, .tweed] m₀) (h₀ : Only m₀ b₀ b) : Only m₀ b₀ (Blk.newKeys b) := by
  refine only_step (l := [.rng, .out, .od, .hA, .hB, .can, .lines, .twill, .damask, .linen, .felt, .tweed]) ?_ hm₀ h₀
  unfold Blk.newKeys
  repeat (first | with_reducible assumption | with_reducible apply only_refl | (with_reducible apply Blk.onDamask_only <;> [decide; skip]) | (with_reducible apply Blk.draw_only <;> [decide; skip]) | (with_reducible apply Blk.itemWrite_only <;> [decide; skip]) | (with_reducible apply Blk.escrowChanged_only <;> [decide; skip]) | (with_reducible apply Blk.bind_only <;> [decide; skip]) | extract_lets | (dsimp +zetaDelta only))

theorem Blk.dropScan_only {m₀ : List Part} {b₀ : Blk} (b : Blk) (hm₀ : within [.media, .twill] m₀) (h₀ : Only m₀ b₀ b) : Only m₀ b₀ (Blk.dropScan b) := by
  refine only_step (l := [.media, .twill]) ?_ hm₀ h₀
  unfold Blk.dropScan
  repeat (first | with_reducible assumption | with_reducible apply only_refl | (with_reducible apply onMedia_keep <;> [decide; (intro; exact ⟨rfl, rfl⟩); skip]) | (with_reducible apply Blk.dropJob_only <;> [decide; skip]) | (with_reducible refine only_foldl (fun c x hc => ?_) _ _ ?_) | split)

theorem Blk.startErase_only {m₀ : List Part} {b₀ : Blk} (b0 : Blk) (h : Head) (op : Nat) (sanitize : Bool) (hm₀ : within [.rng, .out, .od, .hA, .hB, .can, .dev, .path, .lines, .media, .velvet, .twill, .damask, .linen, .felt, .tweed] m₀) (h₀ : Only m₀ b₀ b0) : Only m₀ b₀ (Blk.startErase b0 h op sanitize) := by
  refine only_step (l := [.rng, .out, .od, .hA, .hB, .can, .dev, .path, .lines, .media, .velvet, .twill, .damask, .linen, .felt, .tweed]) ?_ hm₀ h₀
  unfold Blk.startErase
  repeat (first | with_reducible assumption | with_reducible apply only_refl | (with_reducible apply Blk.onDev_only <;> [decide; skip]) | (with_reducible apply Blk.onDamask_only <;> [decide; skip]) | (with_reducible apply Blk.odSet_only <;> [decide; skip]) | (with_reducible apply Blk.mbReply_only <;> [decide; skip]) | (with_reducible apply Blk.discardCaches_only <;> [decide; skip]) | (with_reducible apply Blk.newKeys_only <;> [decide; skip]) | (with_reducible apply Blk.dropScan_only <;> [decide; skip]) | with_reducible apply only_ite | extract_lets | (dsimp +zetaDelta only))

theorem Blk.blankAreas_only {m₀ : List Part} {b₀ : Blk} (b : Blk) (hm₀ : within [.lines, .media] m₀) (h₀ : Only m₀ b₀ b) : Only m₀ b₀ (Blk.blankAreas b) := by
  refine only_step (l := [.lines, .media]) ?_ hm₀ h₀
  unfold Blk.blankAreas
  repeat (first | with_reducible assumption | with_reducible apply only_refl | (with_reducible apply onMedia_filled <;> [decide; (intro; rfl); skip]) | (with_reducible apply onMedia_lines <;> [decide; (intro; exact ⟨rfl, rfl⟩); skip]) | extract_lets | (dsimp +zetaDelta only))

theorem Blk.blankTables_only {m₀ : List Part} {b₀ : Blk} (b0 : Blk) (hm₀ : within [.free, .dev, .path, .lines, .poison, .media, .twill, .gauze, .damask] m₀) (h₀ : Only m₀ b₀ b0) : Only m₀ b₀ (Blk.blankTables b0) := by
  refine only_step (l := [.free, .dev, .path, .lines, .poison, .media, .twill, .gauze, .damask]) ?_ hm₀ h₀
  unfold Blk.blankTables
  repeat (first | with_reducible assumption | with_reducible apply only_refl | (with_reducible apply onMedia_poison <;> [decide; (intro; exact ⟨rfl, rfl⟩); skip]) | (with_reducible apply onMedia_listed <;> [decide; (intro; rfl); skip]) | (with_reducible apply Blk.onDev_only <;> [decide; skip]) | (with_reducible apply Blk.onPath_only <;> [decide; skip]) | (with_reducible apply Blk.onDamask_only <;> [decide; skip]) | (with_reducible apply Blk.provisionSlots_only <;> [decide; skip]) | (with_reducible apply Blk.blankAreas_only <;> [decide; skip]) | extract_lets | (dsimp +zetaDelta only))

theorem Blk.overwriteAll_only {m₀ : List Part} {b₀ : Blk} (b : Blk) (hm₀ : within [.lines, .media] m₀) (h₀ : Only m₀ b₀ b) : Only m₀ b₀ (Blk.overwriteAll b) := by
  refine only_step (l := [.lines, .media]) ?_ hm₀ h₀
  unfold Blk.overwriteAll
  repeat (first | with_reducible assumption | with_reducible apply only_refl | (with_reducible apply onMedia_filled <;> [decide; (intro; rfl); skip]) | (with_reducible apply onMedia_lines <;> [decide; (intro; exact ⟨rfl, rfl⟩); skip]) | extract_lets | (dsimp +zetaDelta only))

theorem Blk.renewPool_only {m₀ : List Part} {b₀ : Blk} (b : Blk) (hm₀ : within [.free, .out, .od, .hA, .hB, .muslin, .can, .dev, .lines, .media, .twill, .linen, .tweed, .modes] m₀) (h₀ : Only m₀ b₀ b) : Only m₀ b₀ (Blk.renewPool b) := by
  refine only_step (l := [.free, .out, .od, .hA, .hB, .muslin, .can, .dev, .lines, .media, .twill, .linen, .tweed, .modes]) ?_ hm₀ h₀
  unfold Blk.renewPool
  repeat (first | with_reducible assumption | with_reducible apply only_refl | (with_reducible apply Blk.resetRow_only <;> [decide; skip]) | (with_reducible refine only_foldl (fun c x hc => ?_) _ _ ?_) | extract_lets | (dsimp +zetaDelta only))

theorem Blk.startTerry_only {m₀ : List Part} {b₀ : Blk} (b : Blk) (c : Cls) (k : Nat) (hm₀ : within [.free, .media, .twill, .tweed] m₀) (h₀ : Only m₀ b₀ b) : Only m₀ b₀ (Blk.startTerry b c k) := by
  refine only_step (l := [.free, .media, .twill, .tweed]) ?_ hm₀ h₀
  unfold Blk.startTerry
  repeat (first | with_reducible assumption | with_reducible apply only_refl | (with_reducible apply Blk.startJob_only <;> [decide; skip]))

theorem Blk.lapRead_only {m₀ : List Part} {b₀ : Blk} (b : Blk) (c : Cls) (hm₀ : within [.free, .out, .od, .hA, .hB, .can, .dev, .media, .twill, .linen, .tweed] m₀) (h₀ : Only m₀ b₀ b) : Only m₀ b₀ (Blk.lapRead b c) := by
  refine only_step (l := [.free, .out, .od, .hA, .hB, .can, .dev, .media, .twill, .linen, .tweed]) ?_ hm₀ h₀
  unfold Blk.lapRead
  repeat (first | with_reducible assumption | with_reducible apply only_refl | (with_reducible apply onMedia_keep <;> [decide; (intro; exact onLap_keep _ _ _); skip]) | (with_reducible apply onMedia_keep <;> [decide; (intro; exact ⟨rfl, rfl⟩); skip]) | (with_reducible apply Blk.lapStep_only <;> [decide; skip]) | (with_reducible apply Blk.startTerry_only <;> [decide; skip]) | with_reducible apply only_ite | extract_lets | split | (dsimp +zetaDelta only))

theorem Blk.scanNext_only {m₀ : List Part} {b₀ : Blk} (b : Blk) (hm₀ : within [.free, .out, .dev, .media, .twill, .tweed] m₀) (h₀ : Only m₀ b₀ b) : Only m₀ b₀ (Blk.scanNext b) := by
  refine only_step (l := [.free, .out, .dev, .media, .twill, .tweed]) ?_ hm₀ h₀
  unfold Blk.scanNext
  repeat (first | with_reducible assumption | with_reducible apply only_refl | (with_reducible apply onMedia_keep <;> [decide; (intro; exact ⟨rfl, rfl⟩); skip]) | (with_reducible apply Blk.startJob_only <;> [decide; skip]) | (with_reducible apply Blk.scanOver_only <;> [decide; skip]) | (with_reducible apply Blk.scanFind_only <;> [decide; skip]) | with_reducible apply only_ite | extract_lets | split | (dsimp +zetaDelta only))

theorem Blk.velvetWord_only {m₀ : List Part} {b₀ : Blk} (b : Blk) (slice word : Nat) (tx : MediaTx) (addr : Bool) (hm₀ : within [.free, .out, .od, .hA, .hB, .can, .path, .poison, .media, .velvet, .linen, .tweed, .modes] m₀) (h₀ : Only m₀ b₀ b) : Only m₀ b₀ (Blk.velvetWord b slice word tx addr) := by
  refine only_step (l := [.free, .out, .od, .hA, .hB, .can, .path, .poison, .media, .velvet, .linen, .tweed, .modes]) ?_ hm₀ h₀
  unfold Blk.velvetWord
  repeat (first | with_reducible assumption | with_reducible apply only_refl | (with_reducible apply Blk.dropWay_only <;> [decide; skip]) | (with_reducible apply Blk.loseHalf_only <;> [decide; skip]) | with_reducible apply only_ite | extract_lets | split | (dsimp +zetaDelta only))

theorem Blk.tagWord_only {m₀ : List Part} {b₀ : Blk} (b : Blk) (n : Nat) (tx : MediaTx) (addr : Bool) (hm₀ : within [.free, .out, .od, .hA, .hB, .can, .path, .poison, .media, .damask, .linen, .tweed, .modes] m₀) (h₀ : Only m₀ b₀ b) : Only m₀ b₀ (Blk.tagWord b n tx addr) := by
  refine only_step (l := [.free, .out, .od, .hA, .hB, .can, .path, .poison, .media, .damask, .linen, .tweed, .modes]) ?_ hm₀ h₀
  unfold Blk.tagWord
  repeat (first | with_reducible assumption | with_reducible apply only_refl | (with_reducible apply Blk.onDamask_only <;> [decide; skip]) | (with_reducible apply Blk.poisonLine_only <;> [decide; skip]) | (with_reducible apply Blk.damaskFailure_only <;> [decide; skip]) | (with_reducible refine only_foldl (fun c x hc => ?_) _ _ ?_) | with_reducible apply only_ite | extract_lets | split | (dsimp +zetaDelta only))

theorem Blk.gaugeWord_only {m₀ : List Part} {b₀ : Blk} (b : Blk) (n : Nat) (hm₀ : within [.gauze] m₀) (h₀ : Only m₀ b₀ b) : Only m₀ b₀ (Blk.gaugeWord b n) := by
  refine only_step (l := [.gauze]) ?_ hm₀ h₀
  unfold Blk.gaugeWord
  repeat (first | with_reducible assumption | with_reducible apply only_refl | (with_reducible apply Blk.onGauze_only <;> [decide; skip]) | split | (refine ⟨fun p hp => ?_⟩; cases p <;> first | rfl | exact absurd (by decide) hp))

theorem Blk.reqLost_only {m₀ : List Part} {b₀ : Blk} (b : Blk) (x : Acc) (addr : Bool) (hm₀ : within [.free, .out, .od, .hA, .hB, .can, .path, .poison, .media, .linen, .tweed, .modes] m₀) (h₀ : Only m₀ b₀ b) : Only m₀ b₀ (Blk.reqLost b x addr) := by
  refine only_step (l := [.free, .out, .od, .hA, .hB, .can, .path, .poison, .media, .linen, .tweed, .modes]) ?_ hm₀ h₀
  unfold Blk.reqLost
  repeat (first | with_reducible assumption | with_reducible apply only_refl | (with_reducible apply Blk.onPath_only <;> [decide; skip]) | (with_reducible apply Blk.endAcc_only <;> [decide; skip]) | (with_reducible apply Blk.finishRead_only <;> [decide; skip]) | (with_reducible apply Blk.finishWrite_only <;> [decide; skip]) | (with_reducible apply Blk.listInternal_only <;> [decide; skip]) | with_reducible apply only_ite)

theorem Blk.bufLost_only {m₀ : List Part} {b₀ : Blk} (b : Blk) (n : Nat) (x : HBuf) (i : Bool) (tx : MediaTx) (addr : Bool) (hm₀ : within [.free, .out, .od, .hA, .hB, .can, .path, .poison, .media, .velvet, .linen, .tweed, .modes] m₀) (h₀ : Only m₀ b₀ b) : Only m₀ b₀ (Blk.bufLost b n x i tx addr) := by
  refine only_step (l := [.free, .out, .od, .hA, .hB, .can, .path, .poison, .media, .velvet, .linen, .tweed, .modes]) ?_ hm₀ h₀
  unfold Blk.bufLost
  repeat (first | with_reducible assumption | with_reducible apply only_refl | (with_reducible apply Blk.listInternal_only <;> [decide; skip]) | (with_reducible apply Blk.putBuf_only <;> [decide; skip]))

theorem Blk.tableWord_only {m₀ : List Part} {b₀ : Blk} (b : Blk) (key : Nat) (hm₀ : within [.free, .regs, .hA, .hB, .media, .twill, .tweed] m₀) (h₀ : Only m₀ b₀ b) : Only m₀ b₀ (Blk.tableWord b key) := by
  refine only_step (l := [.free, .regs, .hA, .hB, .media, .twill, .tweed]) ?_ hm₀ h₀
  unfold Blk.tableWord
  repeat (first | with_reducible assumption | with_reducible apply only_refl | (with_reducible apply onMedia_keep <;> [decide; (intro; exact ⟨rfl, rfl⟩); skip]) | (with_reducible apply Blk.startJob_only <;> [decide; skip]) | (with_reducible apply Blk.reload_only <;> [decide; skip]) | with_reducible apply only_ite | extract_lets | (dsimp +zetaDelta only))

theorem Blk.queueWord_only {m₀ : List Part} {b₀ : Blk} (b : Blk) (word : Nat) (tx : MediaTx) (addr : Bool) (hm₀ : within [.free, .out, .od, .regs, .hA, .hB, .muslin, .can, .path, .poison, .media, .velvet, .twill, .linen, .tweed, .modes] m₀) (h₀ : Only m₀ b₀ b) : Only m₀ b₀ (Blk.queueWord b word tx addr) := by
  refine only_step (l := [.free, .out, .od, .regs, .hA, .hB, .muslin, .can, .path, .poison, .media, .velvet, .twill, .linen, .tweed, .modes]) ?_ hm₀ h₀
  unfold Blk.queueWord
  repeat (first | with_reducible assumption | with_reducible apply only_refl | (with_reducible apply Blk.onLinen_only <;> [decide; skip]) | (with_reducible apply Blk.onTweed_only <;> [decide; skip]) | (with_reducible apply Blk.drop_only <;> [decide; skip]) | (with_reducible apply Blk.discardStaged_only <;> [decide; skip]) | (with_reducible apply Blk.reqLost_only <;> [decide; skip]) | (with_reducible apply Blk.bufLost_only <;> [decide; skip]) | (with_reducible apply Blk.tableWord_only <;> [decide; skip]) | with_reducible apply only_ite | extract_lets | split | (dsimp +zetaDelta only))

theorem Blk.sramLost_only {m₀ : List Part} {b₀ : Blk} (b : Blk) (k word : Nat) (tx : MediaTx) (addr : Bool) (hm₀ : within [.free, .out, .od, .regs, .hA, .hB, .muslin, .can, .dev, .path, .lines, .poison, .media, .velvet, .twill, .gauze, .damask, .linen, .tweed, .modes, .safety] m₀) (h₀ : Only m₀ b₀ b) : Only m₀ b₀ (Blk.sramLost b k word tx addr) := by
  refine only_step (l := [.free, .out, .od, .regs, .hA, .hB, .muslin, .can, .dev, .path, .lines, .poison, .media, .velvet, .twill, .gauze, .damask, .linen, .tweed, .modes, .safety]) ?_ hm₀ h₀
  unfold Blk.sramLost
  repeat (first | with_reducible assumption | with_reducible apply only_refl | (with_reducible apply Blk.onTwill_only <;> [decide; skip]) | (with_reducible apply Blk.engineFail_only <;> [decide; skip]) | (with_reducible apply Blk.velvetWord_only <;> [decide; skip]) | (with_reducible apply Blk.tagWord_only <;> [decide; skip]) | (with_reducible apply Blk.gaugeWord_only <;> [decide; skip]) | (with_reducible apply Blk.queueWord_only <;> [decide; skip]) | with_reducible apply only_ite | extract_lets | split | (dsimp +zetaDelta only))

theorem Blk.reloadEntry_only {m₀ : List Part} {b₀ : Blk} (b : Blk) (old : NMap RegionEntry) (r : Nat) (hm₀ : within [.twill] m₀) (h₀ : Only m₀ b₀ b) : Only m₀ b₀ (Blk.reloadEntry b old r) := by
  refine only_step (l := [.twill]) ?_ hm₀ h₀
  unfold Blk.reloadEntry
  repeat (first | with_reducible assumption | with_reducible apply only_refl | (with_reducible apply Blk.putRegion_only <;> [decide; skip]) | with_reducible apply only_ite | extract_lets | split | (dsimp +zetaDelta only))

theorem Blk.rebuildSet_only {m₀ : List Part} {b₀ : Blk} (b : Blk) (old : NMap HotEntry) (set : Nat) (hm₀ : within [.twill] m₀) (h₀ : Only m₀ b₀ b) : Only m₀ b₀ (Blk.rebuildSet b old set) := by
  refine only_step (l := [.twill]) ?_ hm₀ h₀
  unfold Blk.rebuildSet
  repeat (first | with_reducible assumption | with_reducible apply only_refl | (with_reducible apply Blk.putHot_only <;> [decide; skip]) | (with_reducible refine only_foldl (fun c x hc => ?_) _ _ ?_) | extract_lets | (dsimp +zetaDelta only))

theorem Blk.restoreMap_only {m₀ : List Part} {b₀ : Blk} (b : Blk) (hm₀ : within [.twill, .safety] m₀) (h₀ : Only m₀ b₀ b) : Only m₀ b₀ (Blk.restoreMap b) := by
  refine only_step (l := [.twill, .safety]) ?_ hm₀ h₀
  unfold Blk.restoreMap
  repeat (first | with_reducible assumption | with_reducible apply only_refl | (with_reducible apply Blk.onTwill_only <;> [decide; skip]) | (with_reducible apply Blk.loadImages_only <;> [decide; skip]) | (with_reducible apply Blk.emptyMap_only <;> [decide; skip]) | (with_reducible apply Blk.reloadEntry_only <;> [decide; skip]) | (with_reducible apply Blk.rebuildSet_only <;> [decide; skip]) | (with_reducible refine only_foldl (fun c x hc => ?_) _ _ ?_) | with_reducible apply only_ite | extract_lets | split | (dsimp +zetaDelta only))

theorem Blk.failBank_only {m₀ : List Part} {b₀ : Blk} (b : Blk) (k : Nat) (hm₀ : within [.free, .out, .od, .hA, .hB, .muslin, .can, .dev, .path, .lines, .poison, .media, .velvet, .twill, .damask, .linen, .tweed, .modes, .safety] m₀) (h₀ : Only m₀ b₀ b) : Only m₀ b₀ (Blk.failBank b k) := by
  refine only_step (l := [.free, .out, .od, .hA, .hB, .muslin, .can, .dev, .path, .lines, .poison, .media, .velvet, .twill, .damask, .linen, .tweed, .modes, .safety]) ?_ hm₀ h₀
  unfold Blk.failBank
  repeat (first | with_reducible assumption | with_reducible apply only_refl | (with_reducible apply Blk.onBank_only <;> [decide; skip]) | (with_reducible apply Blk.bankFail_only <;> [decide; skip]) | with_reducible apply only_ite)

theorem Blk.sramRead_only {m₀ : List Part} {b₀ : Blk} (b : Blk) (k word : Nat) (e : SramErr) (tx : MediaTx) (hm₀ : within [.free, .out, .od, .regs, .hA, .hB, .muslin, .can, .dev, .path, .lines, .poison, .media, .velvet, .twill, .gauze, .damask, .linen, .tweed, .modes, .safety] m₀) (h₀ : Only m₀ b₀ b) : Only m₀ b₀ (Blk.sramRead b k word e tx) := by
  refine only_step (l := [.free, .out, .od, .regs, .hA, .hB, .muslin, .can, .dev, .path, .lines, .poison, .media, .velvet, .twill, .gauze, .damask, .linen, .tweed, .modes, .safety]) ?_ hm₀ h₀
  unfold Blk.sramRead
  repeat (first | with_reducible assumption | with_reducible apply only_refl | (with_reducible apply Blk.bump_only <;> [decide; skip]) | (with_reducible apply Blk.reportUnit_only <;> [decide; skip]) | (with_reducible apply Blk.detect_only <;> [decide; skip]) | (with_reducible apply Blk.onBank_only <;> [decide; skip]) | (with_reducible apply Blk.sramLost_only <;> [decide; skip]) | (with_reducible apply Blk.failBank_only <;> [decide; skip]) | with_reducible apply only_ite | extract_lets | split | (dsimp +zetaDelta only))

theorem Blk.scrubWord_only {m₀ : List Part} {b₀ : Blk} (b : Blk) (k word : Nat) (e : SramErr) (hm₀ : within [.free, .out, .od, .regs, .hA, .hB, .muslin, .can, .dev, .path, .lines, .poison, .media, .velvet, .twill, .gauze, .damask, .linen, .tweed, .modes, .safety] m₀) (h₀ : Only m₀ b₀ b) : Only m₀ b₀ (Blk.scrubWord b k word e) := by
  refine only_step (l := [.free, .out, .od, .regs, .hA, .hB, .muslin, .can, .dev, .path, .lines, .poison, .media, .velvet, .twill, .gauze, .damask, .linen, .tweed, .modes, .safety]) ?_ hm₀ h₀
  unfold Blk.scrubWord
  repeat (first | with_reducible assumption | with_reducible apply only_refl | (with_reducible apply onMedia_keep <;> [decide; (intro; exact ⟨rfl, rfl⟩); skip]) | (with_reducible apply Blk.healthCheck_only <;> [decide; skip]) | (with_reducible apply Blk.sramRead_only <;> [decide; skip]) | with_reducible apply only_ite | extract_lets | (dsimp +zetaDelta only))

theorem Blk.starve_only {m₀ : List Part} {b₀ : Blk} (b : Blk) (i : Nat) (l : Lap) (limit : Nat) (f : Media → Media) (hm₀ : within [.out, .od, .hA, .hB, .can, .dev, .media, .linen] m₀) (hf : ∀ x, (f x).lines = x.lines ∧ (f x).poison = x.poison) (h₀ : Only m₀ b₀ b) : Only m₀ b₀ (Blk.starve b i l limit f) := by
  unfold Blk.starve
  refine only_ite ?_ h₀
  have hs {l : List Part} (hl : within l [.out, .od, .hA, .hB, .can, .dev, .media, .linen]) : within l m₀ := within_trans hl hm₀
  exact Blk.healthCheck_only _ (hs (by decide)) (Blk.report_only _ _ (hs (by decide)) (Blk.bump_only _ _ _ _ (hs (by decide)) (onMedia_keep (hs (by decide)) hf h₀)))

theorem Blk.offerArea_only {m₀ : List Part} {b₀ : Blk} (b : Blk) (area sec : Nat) (hm₀ : within [.twill] m₀) (h₀ : Only m₀ b₀ b) : Only m₀ b₀ (Blk.offerArea b area sec) := by
  refine only_step (l := [.twill]) ?_ hm₀ h₀
  unfold Blk.offerArea
  repeat (first | with_reducible assumption | with_reducible apply only_refl | (with_reducible apply Blk.onTwill_only <;> [decide; skip]) | (with_reducible apply Blk.offerRefresh_only <;> [decide; skip]) | with_reducible apply only_ite | extract_lets | split | (dsimp +zetaDelta only))

theorem Blk.sampleTemp_only {m₀ : List Part} {b₀ : Blk} (b : Blk) (d : Nat) (hm₀ : within [.gauze] m₀) (h₀ : Only m₀ b₀ b) : Only m₀ b₀ (Blk.sampleTemp b d) := by
  refine only_step (l := [.gauze]) ?_ hm₀ h₀
  unfold Blk.sampleTemp
  repeat (first | with_reducible assumption | with_reducible apply only_refl | (with_reducible apply Blk.onGauze_only <;> [decide; skip]))

theorem Blk.evaluateArea_only {m₀ : List Part} {b₀ : Blk} (b : Blk) (area : Nat) (hm₀ : within [.twill] m₀) (h₀ : Only m₀ b₀ b) : Only m₀ b₀ (Blk.evaluateArea b area) := by
  refine only_step (l := [.twill]) ?_ hm₀ h₀
  unfold Blk.evaluateArea
  repeat (first | with_reducible assumption | with_reducible apply only_refl | (with_reducible apply Blk.offerArea_only <;> [decide; skip]) | with_reducible apply only_ite | extract_lets | (dsimp +zetaDelta only))

theorem Blk.beginEvaluation_only {m₀ : List Part} {b₀ : Blk} (b : Blk) (hm₀ : within [.gauze] m₀) (h₀ : Only m₀ b₀ b) : Only m₀ b₀ (Blk.beginEvaluation b) := by
  refine only_step (l := [.gauze]) ?_ hm₀ h₀
  unfold Blk.beginEvaluation
  repeat (first | with_reducible assumption | with_reducible apply only_refl | (with_reducible apply Blk.onGauze_only <;> [decide; skip]) | with_reducible apply only_ite | extract_lets | split | (dsimp +zetaDelta only))

theorem Blk.alert_only {m₀ : List Part} {b₀ : Blk} (b : Blk) (d cause : Nat) (hm₀ : within [.media] m₀) (h₀ : Only m₀ b₀ b) : Only m₀ b₀ (Blk.alert b d cause) := by
  refine only_step (l := [.media]) ?_ hm₀ h₀
  unfold Blk.alert
  repeat (first | with_reducible assumption | with_reducible apply only_refl | (with_reducible apply Blk.onDie_only <;> [decide; skip]))

theorem Blk.dieRefuse_only {m₀ : List Part} {b₀ : Blk} (b : Blk) (d : Nat) (hm₀ : within [.media] m₀) (h₀ : Only m₀ b₀ b) : Only m₀ b₀ (Blk.dieRefuse b d) := by
  refine only_step (l := [.media]) ?_ hm₀ h₀
  unfold Blk.dieRefuse
  repeat (first | with_reducible assumption | with_reducible apply only_refl | (with_reducible apply Blk.alert_only <;> [decide; skip]))

theorem Blk.tearPart_only {m₀ : List Part} {b₀ : Blk} (b : Blk) (pid : Nat) (hm₀ : within [.free, .out, .od, .hA, .hB, .can, .lines, .media, .twill, .linen, .tweed] m₀) (h₀ : Only m₀ b₀ b) : Only m₀ b₀ (Blk.tearPart b pid) := by
  refine only_step (l := [.free, .out, .od, .hA, .hB, .can, .lines, .media, .twill, .linen, .tweed]) ?_ hm₀ h₀
  unfold Blk.tearPart
  repeat (first | with_reducible assumption | with_reducible apply only_refl | (with_reducible apply Blk.useFree_only <;> [decide; skip]) | (with_reducible apply Blk.storeLine_only <;> [decide; skip]) | (with_reducible apply Blk.program_only <;> [decide; skip]) | (with_reducible refine only_foldl (fun c x hc => ?_) _ _ ?_) | split)

theorem Blk.dieRead_only {m₀ : List Part} {b₀ : Blk} (b : Blk) (pid line : Nat) (seq : BitVec 3) (t : Nat) (hm₀ : within [.free, .out, .media] m₀) (h₀ : Only m₀ b₀ b) : Only m₀ b₀ (Blk.dieRead b pid line seq t) := by
  refine only_step (l := [.free, .out, .media]) ?_ hm₀ h₀
  unfold Blk.dieRead
  repeat (first | with_reducible assumption | with_reducible apply only_refl | (with_reducible apply Blk.emit_only <;> [decide; skip]) | (with_reducible apply Blk.useFree_only <;> [decide; skip]) | (with_reducible apply Blk.occupy_only <;> [decide; skip]) | (with_reducible apply Blk.dieRefuse_only <;> [decide; skip]) | with_reducible apply only_ite | extract_lets | split | (dsimp +zetaDelta only))

theorem Blk.probeSent_only {m₀ : List Part} {b₀ : Blk} (b : Blk) (d a n : Nat) (hm₀ : within [.od, .gauze] m₀) (h₀ : Only m₀ b₀ b) : Only m₀ b₀ (Blk.probeSent b d a n) := by
  refine only_step (l := [.od, .gauze]) ?_ hm₀ h₀
  unfold Blk.probeSent
  repeat (first | with_reducible assumption | with_reducible apply only_refl | (with_reducible apply Blk.onGauze_only <;> [decide; skip]) | (with_reducible apply Blk.bump_only <;> [decide; skip]) | (with_reducible apply Blk.openCells_only <;> [decide; skip]) | with_reducible apply only_ite | extract_lets | split | (dsimp +zetaDelta only))

theorem Blk.dieProgram_only {m₀ : List Part} {b₀ : Blk} (b : Blk) (pid line : Nat) (content : BitVec 1152) (ovw accepted : Bool) (seq : BitVec 3) (hm₀ : within [.free, .out, .od, .hA, .hB, .can, .media, .twill, .linen, .tweed] m₀) (h₀ : Only m₀ b₀ b) : Only m₀ b₀ (Blk.dieProgram b pid line content ovw accepted seq) := by
  refine only_step (l := [.free, .out, .od, .hA, .hB, .can, .media, .twill, .linen, .tweed]) ?_ hm₀ h₀
  unfold Blk.dieProgram
  repeat (first | with_reducible assumption | with_reducible apply only_refl | (with_reducible apply Blk.onDie_only <;> [decide; skip]) | (with_reducible apply Blk.onPart_only <;> [decide; skip]) | (with_reducible apply Blk.program_only <;> [decide; skip]) | (with_reducible apply Blk.alert_only <;> [decide; skip]) | (with_reducible apply Blk.dieRefuse_only <;> [decide; skip]) | with_reducible apply only_ite | extract_lets | (dsimp +zetaDelta only))

theorem Blk.dieAnswers_only {m₀ : List Part} {b₀ : Blk} (b : Blk) (d : Nat) (hm₀ : within [.out, .od, .hA, .hB, .can, .media, .linen, .thermal, .modes] m₀) (h₀ : Only m₀ b₀ b) : Only m₀ b₀ (Blk.dieAnswers b d) := by
  refine only_step (l := [.out, .od, .hA, .hB, .can, .media, .linen, .thermal, .modes]) ?_ hm₀ h₀
  unfold Blk.dieAnswers
  repeat (first | with_reducible assumption | with_reducible apply only_refl | (with_reducible apply Blk.emit_only <;> [decide; skip]) | (with_reducible apply Blk.dieStatus_only <;> [decide; skip]) | with_reducible apply only_ite)

theorem Blk.pollDies_only {m₀ : List Part} {b₀ : Blk} (b : Blk) (hm₀ : within [.out, .od, .hA, .hB, .can, .media, .linen, .thermal, .modes] m₀) (h₀ : Only m₀ b₀ b) : Only m₀ b₀ (Blk.pollDies b) := by
  refine only_step (l := [.out, .od, .hA, .hB, .can, .media, .linen, .thermal, .modes]) ?_ hm₀ h₀
  unfold Blk.pollDies
  repeat (first | with_reducible assumption | with_reducible apply only_refl | (with_reducible apply Blk.sendDie_only <;> [decide; skip]) | (with_reducible apply Blk.dieAnswers_only <;> [decide; skip]) | (with_reducible refine only_foldl (fun c x hc => ?_) _ _ ?_))

theorem Blk.eachDie_only {m₀ : List Part} {b₀ : Blk} (b : Blk) (ch : Nat) (cs : BitVec 8) (f : DieSt → DieSt) (hm₀ : within [.media] m₀) (h₀ : Only m₀ b₀ b) : Only m₀ b₀ (Blk.eachDie b ch cs f) := by
  refine only_step (l := [.media]) ?_ hm₀ h₀
  unfold Blk.eachDie
  repeat (first | with_reducible assumption | with_reducible apply only_refl | (with_reducible apply Blk.onDie_only <;> [decide; skip]) | (with_reducible refine only_foldl (fun c x hc => ?_) _ _ ?_) | with_reducible apply only_ite)

theorem Blk.resetParts_only {m₀ : List Part} {b₀ : Blk} (b : Blk) (d : Nat) (hm₀ : within [.free, .out, .od, .hA, .hB, .can, .lines, .media, .twill, .linen, .tweed] m₀) (h₀ : Only m₀ b₀ b) : Only m₀ b₀ (Blk.resetParts b d) := by
  refine only_step (l := [.free, .out, .od, .hA, .hB, .can, .lines, .media, .twill, .linen, .tweed]) ?_ hm₀ h₀
  unfold Blk.resetParts
  repeat (first | with_reducible assumption | with_reducible apply only_refl | (with_reducible apply onMedia_keep <;> [decide; (intro; exact ⟨rfl, rfl⟩); skip]) | (with_reducible apply Blk.onPart_only <;> [decide; skip]) | (with_reducible apply Blk.tearPart_only <;> [decide; skip]) | (with_reducible refine only_foldl (fun c x hc => ?_) _ _ ?_) | extract_lets | (dsimp +zetaDelta only))

theorem Blk.resend_only {m₀ : List Part} {b₀ : Blk} (b : Blk) (ch pid : Nat) (hm₀ : within [.free, .out, .od, .hA, .hB, .can, .media, .twill, .linen, .tweed] m₀) (h₀ : Only m₀ b₀ b) : Only m₀ b₀ (Blk.resend b ch pid) := by
  refine only_step (l := [.free, .out, .od, .hA, .hB, .can, .media, .twill, .linen, .tweed]) ?_ hm₀ h₀
  unfold Blk.resend
  repeat (first | with_reducible assumption | with_reducible apply only_refl | (with_reducible apply Blk.bump_only <;> [decide; skip]) | (with_reducible apply Blk.onChan_only <;> [decide; skip]) | (with_reducible apply Blk.onPart_only <;> [decide; skip]) | (with_reducible apply Blk.sendProgram_only <;> [decide; skip]) | (with_reducible apply Blk.program_only <;> [decide; skip]) | with_reducible apply only_ite | extract_lets | split | (dsimp +zetaDelta only))

theorem Blk.serveWdat_only {m₀ : List Part} {b₀ : Blk} (b : Blk) (d : Nat) (v : BitVec 256) (hm₀ : within [.free, .out, .od, .hA, .hB, .can, .media, .twill, .linen, .tweed] m₀) (h₀ : Only m₀ b₀ b) : Only m₀ b₀ (Blk.serveWdat b d v) := by
  refine only_step (l := [.free, .out, .od, .hA, .hB, .can, .media, .twill, .linen, .tweed]) ?_ hm₀ h₀
  unfold Blk.serveWdat
  repeat (first | with_reducible assumption | with_reducible apply only_refl | (with_reducible apply Blk.resend_only <;> [decide; skip]) | (with_reducible refine only_foldl (fun c x hc => ?_) _ _ ?_))

theorem Blk.serveIdle_only {m₀ : List Part} {b₀ : Blk} (b : Blk) (d : Nat) (v : BitVec 256) (hm₀ : within [.free, .out, .od, .hA, .hB, .can, .media, .twill, .linen, .tweed] m₀) (h₀ : Only m₀ b₀ b) : Only m₀ b₀ (Blk.serveIdle b d v) := by
  refine only_step (l := [.free, .out, .od, .hA, .hB, .can, .media, .twill, .linen, .tweed]) ?_ hm₀ h₀
  unfold Blk.serveIdle
  repeat (first | with_reducible assumption | with_reducible apply only_refl | (with_reducible apply Blk.resend_only <;> [decide; skip]) | (with_reducible refine only_foldl (fun c x hc => ?_) _ _ ?_))

theorem Blk.adopt_only {m₀ : List Part} {b₀ : Blk} (b : Blk) (d : Nat) (v : BitVec 256) (hm₀ : within [.media] m₀) (h₀ : Only m₀ b₀ b) : Only m₀ b₀ (Blk.adopt b d v) := by
  refine only_step (l := [.media]) ?_ hm₀ h₀
  unfold Blk.adopt
  repeat (first | with_reducible assumption | with_reducible apply only_refl | (with_reducible apply Blk.onPart_only <;> [decide; skip]) | (with_reducible refine only_foldl (fun c x hc => ?_) _ _ ?_))

theorem Blk.servePfail_only {m₀ : List Part} {b₀ : Blk} (b : Blk) (d : Nat) (v : BitVec 256) (hm₀ : within [.free, .out, .od, .hA, .hB, .muslin, .can, .dev, .path, .lines, .poison, .media, .velvet, .twill, .gauze, .damask, .linen, .tweed, .modes, .safety] m₀) (h₀ : Only m₀ b₀ b) : Only m₀ b₀ (Blk.servePfail b d v) := by
  refine only_step (l := [.free, .out, .od, .hA, .hB, .muslin, .can, .dev, .path, .lines, .poison, .media, .velvet, .twill, .gauze, .damask, .linen, .tweed, .modes, .safety]) ?_ hm₀ h₀
  unfold Blk.servePfail
  repeat (first | with_reducible assumption | with_reducible apply only_refl | (with_reducible apply Blk.programEnds_only <;> [decide; skip]) | (with_reducible refine only_foldl (fun c x hc => ?_) _ _ ?_))

theorem Blk.serveRfail_only {m₀ : List Part} {b₀ : Blk} (b : Blk) (d : Nat) (v : BitVec 256) (hm₀ : within [.free, .out, .od, .hA, .hB, .muslin, .can, .dev, .path, .lines, .poison, .media, .twill, .damask, .linen, .tweed, .modes, .safety] m₀) (h₀ : Only m₀ b₀ b) : Only m₀ b₀ (Blk.serveRfail b d v) := by
  refine only_step (l := [.free, .out, .od, .hA, .hB, .muslin, .can, .dev, .path, .lines, .poison, .media, .twill, .damask, .linen, .tweed, .modes, .safety]) ?_ hm₀ h₀
  unfold Blk.serveRfail
  repeat (first | with_reducible assumption | with_reducible apply only_refl | (with_reducible apply Blk.resetEnds_only <;> [decide; skip]) | (with_reducible refine only_foldl (fun c x hc => ?_) _ _ ?_))

theorem Blk.comesBack_only {m₀ : List Part} {b₀ : Blk} (b : Blk) (d : Nat) (alrt : BitVec 7) (hm₀ : within [.free, .out, .od, .hA, .hB, .muslin, .can, .dev, .path, .lines, .poison, .media, .twill, .damask, .linen, .tweed, .modes, .safety] m₀) (h₀ : Only m₀ b₀ b) : Only m₀ b₀ (Blk.comesBack b d alrt) := by
  refine only_step (l := [.free, .out, .od, .hA, .hB, .muslin, .can, .dev, .path, .lines, .poison, .media, .twill, .damask, .linen, .tweed, .modes, .safety]) ?_ hm₀ h₀
  unfold Blk.comesBack
  repeat (first | with_reducible assumption | with_reducible apply only_refl | (with_reducible apply Blk.onDie_only <;> [decide; skip]) | (with_reducible apply Blk.dieFail_only <;> [decide; skip]) | with_reducible apply only_ite | extract_lets | (dsimp +zetaDelta only))

theorem Blk.serveDie_only {m₀ : List Part} {b₀ : Blk} (b : Blk) (d : Nat) (v : BitVec 256) (hm₀ : within [.free, .out, .od, .hA, .hB, .muslin, .can, .dev, .path, .lines, .poison, .media, .velvet, .twill, .gauze, .damask, .linen, .tweed, .thermal, .modes, .safety] m₀) (h₀ : Only m₀ b₀ b) : Only m₀ b₀ (Blk.serveDie b d v) := by
  refine only_step (l := [.free, .out, .od, .hA, .hB, .muslin, .can, .dev, .path, .lines, .poison, .media, .velvet, .twill, .gauze, .damask, .linen, .tweed, .thermal, .modes, .safety]) ?_ hm₀ h₀
  unfold Blk.serveDie
  repeat (first | with_reducible assumption | with_reducible apply only_refl | (with_reducible apply Blk.bump_only <;> [decide; skip]) | (with_reducible apply Blk.onDie_only <;> [decide; skip]) | (with_reducible apply Blk.reportUnit_only <;> [decide; skip]) | (with_reducible apply Blk.twChan_only <;> [decide; skip]) | (with_reducible apply Blk.sendDie_only <;> [decide; skip]) | (with_reducible apply Blk.maskTherm_only <;> [decide; skip]) | (with_reducible apply Blk.dieStatus_only <;> [decide; skip]) | (with_reducible apply Blk.dieFail_only <;> [decide; skip]) | (with_reducible apply Blk.serveWdat_only <;> [decide; skip]) | (with_reducible apply Blk.serveIdle_only <;> [decide; skip]) | (with_reducible apply Blk.adopt_only <;> [decide; skip]) | (with_reducible apply Blk.servePfail_only <;> [decide; skip]) | (with_reducible apply Blk.serveRfail_only <;> [decide; skip]) | (with_reducible apply Blk.comesBack_only <;> [decide; skip]) | with_reducible apply only_ite | extract_lets | (dsimp +zetaDelta only))

theorem Blk.trainLane_only {m₀ : List Part} {b₀ : Blk} (d : Nat) (b : Blk) (addr : Nat) (hm₀ : within [.free, .media] m₀) (h₀ : Only m₀ b₀ b) : Only m₀ b₀ (Blk.trainLane d b addr) := by
  refine only_step (l := [.free, .media]) ?_ hm₀ h₀
  unfold Blk.trainLane
  repeat (first | with_reducible assumption | with_reducible apply only_refl | (with_reducible apply Blk.useFree_only <;> [decide; skip]) | (with_reducible apply Blk.onDie_only <;> [decide; skip]))

theorem Blk.trainDie_only {m₀ : List Part} {b₀ : Blk} (b : Blk) (d : Nat) (fallback : Bool) (hm₀ : within [.free, .media] m₀) (h₀ : Only m₀ b₀ b) : Only m₀ b₀ (Blk.trainDie b d fallback) := by
  refine only_step (l := [.free, .media]) ?_ hm₀ h₀
  unfold Blk.trainDie
  repeat (first | with_reducible assumption | with_reducible apply only_refl | (with_reducible apply Blk.useFree_only <;> [decide; skip]) | (with_reducible apply Blk.onDie_only <;> [decide; skip]) | (with_reducible apply Blk.trainLane_only <;> [decide; skip]) | (with_reducible refine only_foldl (fun c x hc => ?_) _ _ ?_) | extract_lets | (dsimp +zetaDelta only))

theorem Blk.driveDie_only {m₀ : List Part} {b₀ : Blk} (b : Blk) (d : Nat) (highest : Bool) (hm₀ : within [.free, .media] m₀) (h₀ : Only m₀ b₀ b) : Only m₀ b₀ (Blk.driveDie b d highest) := by
  refine only_step (l := [.free, .media]) ?_ hm₀ h₀
  unfold Blk.driveDie
  repeat (first | with_reducible assumption | with_reducible apply only_refl | (with_reducible apply Blk.useFree_only <;> [decide; skip]) | (with_reducible apply Blk.onDie_only <;> [decide; skip]) | with_reducible apply only_ite | extract_lets | (dsimp +zetaDelta only))

theorem Blk.trainDies_only {m₀ : List Part} {b₀ : Blk} (b : Blk) (ch : Nat) (dies : List Nat) (hm₀ : within [.free, .media] m₀) (h₀ : Only m₀ b₀ b) : Only m₀ b₀ (Blk.trainDies b ch dies) := by
  refine only_step (l := [.free, .media]) ?_ hm₀ h₀
  unfold Blk.trainDies
  exact only_foldl (fun c x hc => Blk.trainDie_only _ _ _ (by decide) (Blk.trainDie_only _ _ _ (by decide) (Blk.driveDie_only _ _ _ (by decide) hc))) _ _ (only_refl _ _)

theorem Blk.findDies_only {m₀ : List Part} {b₀ : Blk} (b : Blk) (ch : Nat) (o : TrainObs) (hm₀ : within [.free, .out, .media] m₀) (h₀ : Only m₀ b₀ b) : Only m₀ b₀ (Blk.findDies b ch o) := by
  refine only_step (l := [.free, .out, .media]) ?_ hm₀ h₀
  unfold Blk.findDies
  repeat (first | with_reducible assumption | with_reducible apply only_refl | (with_reducible apply Blk.onDie_only <;> [decide; skip]) | (with_reducible apply Blk.sendDie_only <;> [decide; skip]) | (with_reducible apply Blk.sendTo_only <;> [decide; skip]) | (with_reducible apply Blk.trainDies_only <;> [decide; skip]) | (with_reducible refine only_foldl (fun c x hc => ?_) _ _ ?_) | with_reducible apply only_ite | extract_lets | (dsimp +zetaDelta only))

theorem Blk.channelTrained_only {m₀ : List Part} {b₀ : Blk} (b : Blk) (n : Nat) (ch : Nat) (o : TrainObs) (hm₀ : within [.free, .out, .od, .hA, .hB, .muslin, .can, .dev, .path, .lines, .poison, .media, .twill, .damask, .linen, .tweed, .modes, .safety] m₀) (h₀ : Only m₀ b₀ b) : Only m₀ b₀ (Blk.channelTrained b n ch o) := by
  refine only_step (l := [.free, .out, .od, .hA, .hB, .muslin, .can, .dev, .path, .lines, .poison, .media, .twill, .damask, .linen, .tweed, .modes, .safety]) ?_ hm₀ h₀
  unfold Blk.channelTrained
  repeat (first | with_reducible assumption | with_reducible apply only_refl | (with_reducible apply Blk.onChan_only <;> [decide; skip]) | (with_reducible apply Blk.onDie_only <;> [decide; skip]) | (with_reducible apply Blk.dieFail_only <;> [decide; skip]) | (with_reducible apply Blk.channelFail_only <;> [decide; skip]) | (with_reducible refine only_foldl (fun c x hc => ?_) _ _ ?_) | with_reducible apply only_ite | extract_lets | (dsimp +zetaDelta only))

theorem Blk.issueAgain_only {m₀ : List Part} {b₀ : Blk} (b : Blk) (d : Nat) (hm₀ : within [.free, .out, .od, .hA, .hB, .can, .media, .twill, .linen, .tweed] m₀) (h₀ : Only m₀ b₀ b) : Only m₀ b₀ (Blk.issueAgain b d) := by
  refine only_step (l := [.free, .out, .od, .hA, .hB, .can, .media, .twill, .linen, .tweed]) ?_ hm₀ h₀
  unfold Blk.issueAgain
  repeat (first | with_reducible assumption | with_reducible apply only_refl | (with_reducible apply Blk.onPart_only <;> [decide; skip]) | (with_reducible apply Blk.sendProgram_only <;> [decide; skip]) | (with_reducible apply Blk.program_only <;> [decide; skip]) | (with_reducible refine only_foldl (fun c x hc => ?_) _ _ ?_) | split)

theorem Blk.channelBack_only {m₀ : List Part} {b₀ : Blk} (b : Blk) (ch timeUs : Nat) (hm₀ : within [.free, .out, .od, .regs, .hA, .hB, .muslin, .can, .dev, .path, .lines, .poison, .media, .velvet, .twill, .gauze, .damask, .linen, .tweed, .modes, .safety] m₀) (h₀ : Only m₀ b₀ b) : Only m₀ b₀ (Blk.channelBack b ch timeUs) := by
  refine only_step (l := [.free, .out, .od, .regs, .hA, .hB, .muslin, .can, .dev, .path, .lines, .poison, .media, .velvet, .twill, .gauze, .damask, .linen, .tweed, .modes, .safety]) ?_ hm₀ h₀
  unfold Blk.channelBack
  repeat (first | with_reducible assumption | with_reducible apply only_refl | (with_reducible apply Blk.onChan_only <;> [decide; skip]) | (with_reducible apply Blk.pump_only <;> [decide; skip]) | (with_reducible apply Blk.drive_only <;> [decide; skip]) | (with_reducible apply Blk.payOwed_only <;> [decide; skip]) | (with_reducible apply Blk.issueAgain_only <;> [decide; skip]) | (with_reducible refine only_foldl (fun c x hc => ?_) _ _ ?_) | extract_lets | (dsimp +zetaDelta only))

theorem Blk.fullTraining_only {m₀ : List Part} {b₀ : Blk} (b : Blk) (ch : Nat) (dies : List Nat) (timeUs : Nat) (hm₀ : within [.free, .out, .media] m₀) (h₀ : Only m₀ b₀ b) : Only m₀ b₀ (Blk.fullTraining b ch dies timeUs) := by
  refine only_step (l := [.free, .out, .media]) ?_ hm₀ h₀
  unfold Blk.fullTraining
  repeat (first | with_reducible assumption | with_reducible apply only_refl | (with_reducible apply Blk.onDie_only <;> [decide; skip]) | (with_reducible apply Blk.findDies_only <;> [decide; skip]) | (with_reducible refine only_foldl (fun c x hc => ?_) _ _ ?_) | extract_lets | (dsimp +zetaDelta only))

theorem Blk.moveLane_only {m₀ : List Part} {b₀ : Blk} (b : Blk) (d : Nat) (fallback : Bool) (m : Fin 36 × Bool) (hm₀ : within [.out, .media] m₀) (h₀ : Only m₀ b₀ b) : Only m₀ b₀ (Blk.moveLane b d fallback m) := by
  refine only_step (l := [.out, .media]) ?_ hm₀ h₀
  unfold Blk.moveLane
  repeat (first | with_reducible assumption | with_reducible apply only_refl | (with_reducible apply Blk.onDie_only <;> [decide; skip]) | (with_reducible apply Blk.sendDie_only <;> [decide; skip]) | with_reducible apply only_ite | extract_lets | (dsimp +zetaDelta only))

theorem Blk.headDown_only {m₀ : List Part} {b₀ : Blk} (b : Blk) (h : Head) (hm₀ : within [.out, .od, .hA, .hB, .sesA, .sesB, .sesC, .muslin, .can, .path, .velvet, .damask] m₀) (h₀ : Only m₀ b₀ b) : Only m₀ b₀ (Blk.headDown b h) := by
  refine only_step (l := [.out, .od, .hA, .hB, .sesA, .sesB, .sesC, .muslin, .can, .path, .velvet, .damask]) ?_ hm₀ h₀
  unfold Blk.headDown
  repeat (first | with_reducible assumption | with_reducible apply only_refl | (with_reducible apply Blk.onMuslin_only <;> [decide; skip]) | (with_reducible apply Blk.onHead_only <;> [decide; skip]) | (with_reducible apply Blk.linkChange_only <;> [decide; skip]) | (with_reducible apply Blk.dropRequests_only <;> [decide; skip]) | (with_reducible apply Blk.muteMailbox_only <;> [decide; skip]) | (with_reducible apply Blk.closeSession_only <;> [decide; skip]) | (with_reducible apply Blk.abortBulk_only <;> [decide; skip]) | (with_reducible apply Blk.resetOwner_only <;> [decide; skip]) | extract_lets | (dsimp +zetaDelta only))

theorem Blk.headFail_only {m₀ : List Part} {b₀ : Blk} (b : Blk) (h : Head) (hm₀ : within [.out, .od, .hA, .hB, .sesA, .sesB, .sesC, .muslin, .can, .dev, .path, .velvet, .damask, .linen, .tweed, .modes] m₀) (h₀ : Only m₀ b₀ b) : Only m₀ b₀ (Blk.headFail b h) := by
  refine only_step (l := [.out, .od, .hA, .hB, .sesA, .sesB, .sesC, .muslin, .can, .dev, .path, .velvet, .damask, .linen, .tweed, .modes]) ?_ hm₀ h₀
  unfold Blk.headFail
  repeat (first | with_reducible assumption | with_reducible apply only_refl | (with_reducible apply Blk.report_only <;> [decide; skip]) | (with_reducible apply Blk.degrade_only <;> [decide; skip]) | (with_reducible apply Blk.healthCheck_only <;> [decide; skip]) | (with_reducible apply Blk.headDown_only <;> [decide; skip]))

theorem Blk.checkerFailed_only {m₀ : List Part} {b₀ : Blk} (b : Blk) (k : Checker) (hm₀ : within [.free, .out, .od, .hA, .hB, .sesA, .sesB, .sesC, .muslin, .can, .dev, .path, .lines, .poison, .media, .velvet, .twill, .damask, .linen, .tweed, .thermal, .modes, .safety] m₀) (h₀ : Only m₀ b₀ b) : Only m₀ b₀ (Blk.checkerFailed b k) := by
  refine only_step (l := [.free, .out, .od, .hA, .hB, .sesA, .sesB, .sesC, .muslin, .can, .dev, .path, .lines, .poison, .media, .velvet, .twill, .damask, .linen, .tweed, .thermal, .modes, .safety]) ?_ hm₀ h₀
  unfold Blk.checkerFailed
  repeat (first | with_reducible assumption | with_reducible apply only_refl | (with_reducible apply Blk.bump_only <;> [decide; skip]) | (with_reducible apply Blk.reportUnit_only <;> [decide; skip]) | (with_reducible apply Blk.detect_only <;> [decide; skip]) | (with_reducible apply Blk.onEngine_only <;> [decide; skip]) | (with_reducible apply Blk.bankFail_only <;> [decide; skip]) | (with_reducible apply Blk.onSensor_only <;> [decide; skip]) | (with_reducible apply Blk.sensorCount_only <;> [decide; skip]) | (with_reducible apply Blk.headFail_only <;> [decide; skip]) | with_reducible apply only_ite | extract_lets | split | (dsimp +zetaDelta only))

theorem Blk.loadOd_only {m₀ : List Part} {b₀ : Blk} (b : Blk) (keepAon : Bool) (hm₀ : within [.od, .felt, .tweed] m₀) (h₀ : Only m₀ b₀ b) : Only m₀ b₀ (Blk.loadOd b keepAon) := by
  refine only_step (l := [.od, .felt, .tweed]) ?_ hm₀ h₀
  unfold Blk.loadOd
  repeat (first | with_reducible assumption | with_reducible apply only_refl | (with_reducible apply Blk.onFelt_only <;> [decide; skip]) | (with_reducible apply Blk.onTweed_only <;> [decide; skip]) | (with_reducible refine only_foldl (fun c x hc => ?_) _ _ ?_) | with_reducible apply only_ite | extract_lets | split | (refine ⟨fun p hp => ?_⟩; cases p <;> first | rfl | exact absurd (by decide) hp) | (dsimp +zetaDelta only))

theorem Blk.unknownFault_only {m₀ : List Part} {b₀ : Blk} (b : Blk) (hm₀ : within [.canvas] m₀) (h₀ : Only m₀ b₀ b) : Only m₀ b₀ (Blk.unknownFault b) := by
  refine only_step (l := [.canvas]) ?_ hm₀ h₀
  unfold Blk.unknownFault
  repeat (first | with_reducible assumption | with_reducible apply only_refl | (with_reducible apply Blk.onCanvas_only <;> [decide; skip]) | with_reducible apply only_ite | (refine ⟨fun p hp => ?_⟩; cases p <;> first | rfl | exact absurd (by decide) hp))

theorem Blk.readAccess_only {m₀ : List Part} {b₀ : Blk} (b : Blk) (v : Nat) (hm₀ : within [.free, .out, .od, .hA, .hB, .can, .linen] m₀) (h₀ : Only m₀ b₀ b) : Only m₀ b₀ (Blk.readAccess b v) := by
  refine only_step (l := [.free, .out, .od, .hA, .hB, .can, .linen]) ?_ hm₀ h₀
  unfold Blk.readAccess
  repeat (first | with_reducible assumption | with_reducible apply only_refl | (with_reducible apply Blk.onCan_only <;> [decide; skip]) | (with_reducible apply Blk.useFree_only <;> [decide; skip]) | (with_reducible apply Blk.report_only <;> [decide; skip]) | with_reducible apply only_ite | (refine ⟨fun p hp => ?_⟩; cases p <;> first | rfl | exact absurd (by decide) hp))

theorem Blk.aonReset_only {m₀ : List Part} {b₀ : Blk} (b : Blk) (straps : List (Fin 4)) (pfailHigh testEn : Bool) (hm₀ : within [.opTime, .rng, .free, .out, .od, .hA, .hB, .muslin, .can, .media, .linen, .felt, .tweed, .canvas, .clocks, .modes] m₀) (h₀ : Only m₀ b₀ b) : Only m₀ b₀ (Blk.aonReset b straps pfailHigh testEn) := by
  refine only_step (l := [.opTime, .rng, .free, .out, .od, .hA, .hB, .muslin, .can, .media, .linen, .felt, .tweed, .canvas, .clocks, .modes]) ?_ hm₀ h₀
  unfold Blk.aonReset
  repeat (first | with_reducible assumption | with_reducible apply only_refl | (with_reducible apply Blk.onCan_only <;> [decide; skip]) | (with_reducible apply Blk.onLinen_only <;> [decide; skip]) | (with_reducible apply Blk.onModes_only <;> [decide; skip]) | (with_reducible apply Blk.setConditions_only <;> [decide; skip]) | (with_reducible apply Blk.newNonce_only <;> [decide; skip]) | (with_reducible apply Blk.cycleUp_only <;> [decide; skip]) | (with_reducible apply Blk.powerCycled_only <;> [decide; skip]) | (with_reducible apply Blk.loadOd_only <;> [decide; skip]) | (with_reducible apply Blk.unknownFault_only <;> [decide; skip]) | (with_reducible apply Blk.readAccess_only <;> [decide; skip]) | extract_lets | (refine ⟨fun p hp => ?_⟩; cases p <;> first | rfl | exact absurd (by decide) hp) | (dsimp +zetaDelta only))

theorem Blk.dark_only {m₀ : List Part} {b₀ : Blk} (b : Blk) (hm₀ : within [.od, .odOld, .direct, .regs, .due, .dueB, .hA, .hB, .sesA, .sesB, .sesC, .muslin, .can, .dev, .path, .poison, .media, .velvet, .twill, .gauze, .damask, .linen, .felt, .tweed, .canvas, .clocks, .thermal, .modes, .safety, .tap] m₀) (h₀ : Only m₀ b₀ b) : Only m₀ b₀ (Blk.dark b) := by
  refine only_step (l := [.od, .odOld, .direct, .regs, .due, .dueB, .hA, .hB, .sesA, .sesB, .sesC, .muslin, .can, .dev, .path, .poison, .media, .velvet, .twill, .gauze, .damask, .linen, .felt, .tweed, .canvas, .clocks, .thermal, .modes, .safety, .tap]) ?_ hm₀ h₀
  unfold Blk.dark
  repeat (first | with_reducible assumption | with_reducible apply only_refl | (with_reducible apply Blk.loseSwitched_only <;> [decide; skip]) | extract_lets | (refine ⟨fun p hp => ?_⟩; cases p <;> first | rfl | exact absurd (by decide) hp) | (dsimp +zetaDelta only))

theorem Blk.flushCheck_only {m₀ : List Part} {b₀ : Blk} (b : Blk) (e : Nat × DpErr) (hm₀ : within [.free, .out, .od, .hA, .hB, .can, .path, .poison, .media, .velvet, .linen, .tweed, .modes] m₀) (h₀ : Only m₀ b₀ b) : Only m₀ b₀ (Blk.flushCheck b e) := by
  refine only_step (l := [.free, .out, .od, .hA, .hB, .can, .path, .poison, .media, .velvet, .linen, .tweed, .modes]) ?_ hm₀ h₀
  unfold Blk.flushCheck
  repeat (first | with_reducible assumption | with_reducible apply only_refl | (with_reducible apply Blk.onVelvet_only <;> [decide; skip]) | (with_reducible apply Blk.poisonLine_only <;> [decide; skip]) | (with_reducible apply Blk.dropWay_only <;> [decide; skip]) | with_reducible apply only_ite | extract_lets | split | (dsimp +zetaDelta only))

theorem Blk.chatter_only {m₀ : List Part} {b₀ : Blk} (b : Blk) (s : Nat) (timeout : Bool) (hm₀ : within [.free, .out, .od, .odOld, .direct, .regs, .due, .dueB, .hA, .hB, .sesA, .sesB, .sesC, .muslin, .can, .dev, .path, .lines, .poison, .media, .velvet, .twill, .gauze, .damask, .linen, .felt, .tweed, .canvas, .clocks, .thermal, .modes, .safety] m₀) (h₀ : Only m₀ b₀ b) : Only m₀ b₀ (Blk.chatter b s timeout) := by
  refine only_step (l := [.free, .out, .od, .odOld, .direct, .regs, .due, .dueB, .hA, .hB, .sesA, .sesB, .sesC, .muslin, .can, .dev, .path, .lines, .poison, .media, .velvet, .twill, .gauze, .damask, .linen, .felt, .tweed, .canvas, .clocks, .thermal, .modes, .safety]) ?_ hm₀ h₀
  unfold Blk.chatter
  repeat (first | with_reducible assumption | with_reducible apply only_refl | (with_reducible apply Blk.bump_only <;> [decide; skip]) | (with_reducible apply Blk.reportUnit_only <;> [decide; skip]) | (with_reducible apply Blk.allOff_only <;> [decide; skip]) | with_reducible apply only_ite | extract_lets | (dsimp +zetaDelta only))

theorem Blk.stepChange_only {m₀ : List Part} {b₀ : Blk} (b : Blk) (s : Nat) (was : Bool) (hm₀ : within [.free, .out, .od, .odOld, .direct, .regs, .due, .dueB, .hA, .hB, .sesA, .sesB, .sesC, .muslin, .can, .dev, .path, .lines, .poison, .media, .velvet, .twill, .gauze, .damask, .linen, .felt, .tweed, .canvas, .clocks, .thermal, .modes, .safety] m₀) (h₀ : Only m₀ b₀ b) : Only m₀ b₀ (Blk.stepChange b s was) := by
  refine only_step (l := [.free, .out, .od, .odOld, .direct, .regs, .due, .dueB, .hA, .hB, .sesA, .sesB, .sesC, .muslin, .can, .dev, .path, .lines, .poison, .media, .velvet, .twill, .gauze, .damask, .linen, .felt, .tweed, .canvas, .clocks, .thermal, .modes, .safety]) ?_ hm₀ h₀
  unfold Blk.stepChange
  repeat (first | with_reducible assumption | with_reducible apply only_refl | (with_reducible apply Blk.onSlot_only <;> [decide; skip]) | (with_reducible apply Blk.chatter_only <;> [decide; skip]) | with_reducible apply only_ite | extract_lets | (dsimp +zetaDelta only))

theorem Blk.feltPowered_only {m₀ : List Part} {b₀ : Blk} (b : Blk) (hm₀ : within [.out, .od, .hA, .hB, .can, .linen, .felt, .canvas] m₀) (h₀ : Only m₀ b₀ b) : Only m₀ b₀ (Blk.feltPowered b) := by
  refine only_step (l := [.out, .od, .hA, .hB, .can, .linen, .felt, .canvas]) ?_ hm₀ h₀
  unfold Blk.feltPowered
  repeat (first | with_reducible assumption | with_reducible apply only_refl | (with_reducible apply Blk.onFelt_only <;> [decide; skip]) | (with_reducible apply Blk.onCanvas_only <;> [decide; skip]) | (with_reducible apply Blk.reportUnit_only <;> [decide; skip]) | (with_reducible apply Blk.itemWrite_only <;> [decide; skip]) | (with_reducible apply Blk.canvasWrite_only <;> [decide; skip]) | with_reducible apply only_ite | extract_lets | split | (refine ⟨fun p hp => ?_⟩; cases p <;> first | rfl | exact absurd (by decide) hp) | (dsimp +zetaDelta only))

theorem Blk.mayTrain_only {m₀ : List Part} {b₀ : Blk} (b : Blk) (h : Head) (hm₀ : within [.od, .hA, .hB] m₀) (h₀ : Only m₀ b₀ b) : Only m₀ b₀ (Blk.mayTrain b h) := by
  refine only_step (l := [.od, .hA, .hB]) ?_ hm₀ h₀
  unfold Blk.mayTrain
  repeat (first | with_reducible assumption | with_reducible apply only_refl | (with_reducible apply Blk.linkChange_only <;> [decide; skip]) | with_reducible apply only_ite)

theorem Blk.orderEnds_only {m₀ : List Part} {b₀ : Blk} (b : Blk) (hm₀ : within [.od, .canvas, .modes] m₀) (h₀ : Only m₀ b₀ b) : Only m₀ b₀ (Blk.orderEnds b) := by
  refine only_step (l := [.od, .canvas, .modes]) ?_ hm₀ h₀
  unfold Blk.orderEnds
  repeat (first | with_reducible assumption | with_reducible apply only_refl | (with_reducible apply Blk.onCanvas_only <;> [decide; skip]) | (with_reducible apply Blk.onModes_only <;> [decide; skip]) | (with_reducible apply Blk.odSet_only <;> [decide; skip]) | (refine ⟨fun p hp => ?_⟩; cases p <;> first | rfl | exact absurd (by decide) hp))

theorem Blk.qualified_only {m₀ : List Part} {b₀ : Blk} (b : Blk) (s : Nat) (hm₀ : within [.out, .od, .odOld, .direct, .regs, .due, .dueB, .hA, .hB, .sesA, .sesB, .sesC, .muslin, .can, .dev, .path, .poison, .media, .velvet, .twill, .gauze, .damask, .linen, .felt, .tweed, .canvas, .clocks, .thermal, .modes, .safety] m₀) (h₀ : Only m₀ b₀ b) : Only m₀ b₀ (Blk.qualified b s) := by
  refine only_step (l := [.out, .od, .odOld, .direct, .regs, .due, .dueB, .hA, .hB, .sesA, .sesB, .sesC, .muslin, .can, .dev, .path, .poison, .media, .velvet, .twill, .gauze, .damask, .linen, .felt, .tweed, .canvas, .clocks, .thermal, .modes, .safety]) ?_ hm₀ h₀
  unfold Blk.qualified
  repeat (first | with_reducible assumption | with_reducible apply only_refl | (with_reducible apply Blk.onSlot_only <;> [decide; skip]) | (with_reducible apply Blk.powerDown_only <;> [decide; skip]) | (with_reducible apply Blk.feltPowered_only <;> [decide; skip]) | (with_reducible apply Blk.mayTrain_only <;> [decide; skip]) | (with_reducible apply Blk.orderEnds_only <;> [decide; skip]) | with_reducible apply only_ite | extract_lets | (dsimp +zetaDelta only))

theorem Blk.secondFault_only {m₀ : List Part} {b₀ : Blk} (b : Blk) (slot code mv : Nat) (hm₀ : within [.od, .canvas] m₀) (h₀ : Only m₀ b₀ b) : Only m₀ b₀ (Blk.secondFault b slot code mv) := by
  refine only_step (l := [.od, .canvas]) ?_ hm₀ h₀
  unfold Blk.secondFault
  repeat (first | with_reducible assumption | with_reducible apply only_refl | (with_reducible apply Blk.onCanvas_only <;> [decide; skip]) | (with_reducible apply Blk.odSet_only <;> [decide; skip]) | with_reducible apply only_ite | extract_lets | split | (refine ⟨fun p hp => ?_⟩; cases p <;> first | rfl | exact absurd (by decide) hp) | (dsimp +zetaDelta only))

theorem Blk.reportEnergy_only {m₀ : List Part} {b₀ : Blk} (b : Blk) (hm₀ : within [.free, .out, .od, .hA, .hB, .muslin, .can, .dev, .path, .lines, .poison, .media, .velvet, .twill, .gauze, .damask, .linen, .tweed, .canvas, .modes, .safety] m₀) (h₀ : Only m₀ b₀ b) : Only m₀ b₀ (Blk.reportEnergy b) := by
  refine only_step (l := [.free, .out, .od, .hA, .hB, .muslin, .can, .dev, .path, .lines, .poison, .media, .velvet, .twill, .gauze, .damask, .linen, .tweed, .canvas, .modes, .safety]) ?_ hm₀ h₀
  unfold Blk.reportEnergy
  repeat (first | with_reducible assumption | with_reducible apply only_refl | (with_reducible apply Blk.onVelvet_only <;> [decide; skip]) | (with_reducible apply Blk.onCanvas_only <;> [decide; skip]) | (with_reducible apply Blk.onModes_only <;> [decide; skip]) | (with_reducible apply Blk.energyReport_only <;> [decide; skip]) | with_reducible apply only_ite | extract_lets | (refine ⟨fun p hp => ?_⟩; cases p <;> first | rfl | exact absurd (by decide) hp) | (dsimp +zetaDelta only))

theorem Blk.testResult_only {m₀ : List Part} {b₀ : Blk} (b : Blk) (stepUv dv : Nat) (hm₀ : within [.free, .out, .od, .hA, .hB, .can, .path, .linen, .felt, .tweed, .canvas, .modes, .safety] m₀) (h₀ : Only m₀ b₀ b) : Only m₀ b₀ (Blk.testResult b stepUv dv) := by
  refine only_step (l := [.free, .out, .od, .hA, .hB, .can, .path, .linen, .felt, .tweed, .canvas, .modes, .safety]) ?_ hm₀ h₀
  unfold Blk.testResult
  repeat (first | with_reducible assumption | with_reducible apply only_refl | (with_reducible apply Blk.onCanvas_only <;> [decide; skip]) | (with_reducible apply Blk.odSet_only <;> [decide; skip]) | (with_reducible apply Blk.report_only <;> [decide; skip]) | (with_reducible apply Blk.detect_only <;> [decide; skip]) | (with_reducible apply Blk.canvasLogged_only <;> [decide; skip]) | with_reducible apply only_ite | extract_lets | (refine ⟨fun p hp => ?_⟩; cases p <;> first | rfl | exact absurd (by decide) hp) | (dsimp +zetaDelta only))

theorem Blk.fwRefused_only {m₀ : List Part} {b₀ : Blk} (b : Blk) (slot : Nat) (hm₀ : within [.out, .od, .hA, .hB, .can, .linen] m₀) (h₀ : Only m₀ b₀ b) : Only m₀ b₀ (Blk.fwRefused b slot) := by
  refine only_step (l := [.out, .od, .hA, .hB, .can, .linen]) ?_ hm₀ h₀
  unfold Blk.fwRefused
  repeat (first | with_reducible assumption | with_reducible apply only_refl | (with_reducible apply Blk.report_only <;> [decide; skip]))

theorem Blk.fwRevert_only {m₀ : List Part} {b₀ : Blk} (b : Blk) (hm₀ : within [.out, .od, .hA, .hB, .can, .linen, .felt] m₀) (h₀ : Only m₀ b₀ b) : Only m₀ b₀ (Blk.fwRevert b) := by
  refine only_step (l := [.out, .od, .hA, .hB, .can, .linen, .felt]) ?_ hm₀ h₀
  unfold Blk.fwRevert
  repeat (first | with_reducible assumption | with_reducible apply only_refl | (with_reducible apply Blk.onFelt_only <;> [decide; skip]) | (with_reducible apply Blk.report_only <;> [decide; skip]) | with_reducible apply only_ite)

theorem Blk.fwActive_only {m₀ : List Part} {b₀ : Blk} (b : Blk) {r : Blk} (hr : (Blk.fwActive b) = some r) (hm₀ : within [.out, .od, .hA, .hB, .can, .linen] m₀) (h₀ : Only m₀ b₀ b) : Only m₀ b₀ r := by
  refine only_step (l := [.out, .od, .hA, .hB, .can, .linen]) ?_ hm₀ h₀
  unfold Blk.fwActive at hr
  dsimp only at hr
  split at hr
  · cases hr; repeat (first | with_reducible assumption | with_reducible apply only_refl | (with_reducible apply Blk.fwRefused_only <;> [decide; skip]))
  · split at hr
    · cases hr; repeat (first | with_reducible assumption | with_reducible apply only_refl | (with_reducible apply Blk.fwRefused_only <;> [decide; skip]))
    · cases hr

theorem Blk.fwLoad_only {m₀ : List Part} {b₀ : Blk} (b : Blk) {r : Blk} (hr : (Blk.fwLoad b) = some r) (hm₀ : within [.out, .od, .hA, .hB, .can, .linen, .felt] m₀) (h₀ : Only m₀ b₀ b) : Only m₀ b₀ r := by
  refine only_step (l := [.out, .od, .hA, .hB, .can, .linen, .felt]) ?_ hm₀ h₀
  unfold Blk.fwLoad at hr
  dsimp only at hr
  split at hr
  · split at hr
    · cases hr; repeat (first | with_reducible assumption | with_reducible apply only_refl | (with_reducible apply Blk.onFelt_only <;> [decide; skip]) | (with_reducible apply Blk.fwRefused_only <;> [decide; skip]) | (with_reducible apply Blk.fwRevert_only <;> [decide; skip]) | (with_reducible refine Blk.fwActive_only _ (by assumption) (by decide) ?_))
    · split at hr
      · cases hr; repeat (first | with_reducible assumption | with_reducible apply only_refl | (with_reducible apply Blk.onFelt_only <;> [decide; skip]) | (with_reducible apply Blk.fwRefused_only <;> [decide; skip]) | (with_reducible apply Blk.fwRevert_only <;> [decide; skip]) | (with_reducible refine Blk.fwActive_only _ (by assumption) (by decide) ?_))
      · cases hr
  · refine Blk.fwActive_only _ hr (by decide) ?_
    repeat (first | with_reducible assumption | with_reducible apply only_refl | (with_reducible apply Blk.onFelt_only <;> [decide; skip]) | (with_reducible apply Blk.fwRefused_only <;> [decide; skip]) | (with_reducible apply Blk.fwRevert_only <;> [decide; skip]) | (with_reducible refine Blk.fwActive_only _ (by assumption) (by decide) ?_))

theorem Blk.fillBank_only {m₀ : List Part} {b₀ : Blk} (b : Blk) (bad : List Nat) (k : Nat) (hm₀ : within [.out, .od, .hA, .hB, .can, .linen, .safety] m₀) (h₀ : Only m₀ b₀ b) : Only m₀ b₀ (Blk.fillBank b bad k) := by
  refine only_step (l := [.out, .od, .hA, .hB, .can, .linen, .safety]) ?_ hm₀ h₀
  unfold Blk.fillBank
  repeat (first | with_reducible assumption | with_reducible apply only_refl | (with_reducible apply Blk.reportUnit_only <;> [decide; skip]) | (with_reducible apply Blk.onBank_only <;> [decide; skip]) | with_reducible apply only_ite | extract_lets | split | (dsimp +zetaDelta only))

theorem Blk.defaultsEvent_only {m₀ : List Part} {b₀ : Blk} (b : Blk) (hm₀ : within [.out, .od, .hA, .hB, .can, .linen] m₀) (h₀ : Only m₀ b₀ b) : Only m₀ b₀ (Blk.defaultsEvent b) := by
  refine only_step (l := [.out, .od, .hA, .hB, .can, .linen]) ?_ hm₀ h₀
  unfold Blk.defaultsEvent
  repeat (first | with_reducible assumption | with_reducible apply only_refl | (with_reducible apply Blk.report_only <;> [decide; skip]) | with_reducible apply only_ite | extract_lets | (dsimp +zetaDelta only))

theorem Blk.shutdownCheck_only {m₀ : List Part} {b₀ : Blk} (b : Blk) (hm₀ : within [.out, .od, .hA, .hB, .can, .twill, .damask, .linen, .felt] m₀) (h₀ : Only m₀ b₀ b) : Only m₀ b₀ (Blk.shutdownCheck b) := by
  refine only_step (l := [.out, .od, .hA, .hB, .can, .twill, .damask, .linen, .felt]) ?_ hm₀ h₀
  unfold Blk.shutdownCheck
  repeat (first | with_reducible assumption | with_reducible apply only_refl | (with_reducible apply Blk.onTwill_only <;> [decide; skip]) | (with_reducible apply Blk.onDamask_only <;> [decide; skip]) | (with_reducible apply Blk.onFelt_only <;> [decide; skip]) | (with_reducible apply Blk.dirtyUp_only <;> [decide; skip]) | with_reducible apply only_ite | extract_lets | (dsimp +zetaDelta only))

theorem Blk.bootChecks_only {m₀ : List Part} {b₀ : Blk} (b : Blk) (hm₀ : within [.out, .od, .hA, .hB, .can, .gauze, .linen, .felt] m₀) (h₀ : Only m₀ b₀ b) : Only m₀ b₀ (Blk.bootChecks b) := by
  refine only_step (l := [.out, .od, .hA, .hB, .can, .gauze, .linen, .felt]) ?_ hm₀ h₀
  unfold Blk.bootChecks
  repeat (first | with_reducible assumption | with_reducible apply only_refl | (with_reducible apply Blk.onGauze_only <;> [decide; skip]) | (with_reducible apply Blk.onFelt_only <;> [decide; skip]) | (with_reducible apply Blk.report_only <;> [decide; skip]) | with_reducible apply only_ite | extract_lets | (dsimp +zetaDelta only))

theorem Blk.freshSensors_only {m₀ : List Part} {b₀ : Blk} (b : Blk) (hm₀ : within [.thermal] m₀) (h₀ : Only m₀ b₀ b) : Only m₀ b₀ (Blk.freshSensors b) := by
  refine only_step (l := [.thermal]) ?_ hm₀ h₀
  unfold Blk.freshSensors
  repeat (first | with_reducible assumption | with_reducible apply only_refl | (with_reducible apply Blk.onThermal_only <;> [decide; skip]))

theorem Blk.bringUp_only {m₀ : List Part} {b₀ : Blk} (b : Blk) (bad : List Nat) (hm₀ : within [.out, .od, .hA, .hB, .can, .twill, .gauze, .damask, .linen, .felt, .tweed, .clocks, .thermal, .modes, .safety] m₀) (h₀ : Only m₀ b₀ b) : Only m₀ b₀ (Blk.bringUp b bad) := by
  refine only_step (l := [.out, .od, .hA, .hB, .can, .twill, .gauze, .damask, .linen, .felt, .tweed, .clocks, .thermal, .modes, .safety]) ?_ hm₀ h₀
  unfold Blk.bringUp
  repeat (first | with_reducible assumption | with_reducible apply only_refl | (with_reducible apply Blk.onClocks_only <;> [decide; skip]) | (with_reducible apply Blk.onModes_only <;> [decide; skip]) | (with_reducible apply Blk.faultPin_only <;> [decide; skip]) | (with_reducible apply Blk.newRates_only <;> [decide; skip]) | (with_reducible apply Blk.loadOd_only <;> [decide; skip]) | (with_reducible apply Blk.fillBank_only <;> [decide; skip]) | (with_reducible apply Blk.defaultsEvent_only <;> [decide; skip]) | (with_reducible apply Blk.shutdownCheck_only <;> [decide; skip]) | (with_reducible apply Blk.bootChecks_only <;> [decide; skip]) | (with_reducible apply Blk.freshSensors_only <;> [decide; skip]) | (with_reducible refine only_foldl (fun c x hc => ?_) _ _ ?_) | extract_lets | (refine ⟨fun p hp => ?_⟩; cases p <;> first | rfl | exact absurd (by decide) hp) | (dsimp +zetaDelta only))

theorem Blk.itemAbsent_only {m₀ : List Part} {b₀ : Blk} (b : Blk) (i : Nat) (hm₀ : within [.can, .gauze, .damask, .felt] m₀) (h₀ : Only m₀ b₀ b) : Only m₀ b₀ (Blk.itemAbsent b i) := by
  refine only_step (l := [.can, .gauze, .damask, .felt]) ?_ hm₀ h₀
  unfold Blk.itemAbsent
  repeat (first | with_reducible assumption | with_reducible apply only_refl | (with_reducible apply Blk.onGauze_only <;> [decide; skip]) | (with_reducible apply Blk.onDamask_only <;> [decide; skip]) | (with_reducible apply Blk.onFelt_only <;> [decide; skip]) | (with_reducible apply Blk.blankKeys_only <;> [decide; skip]) | split)

theorem Blk.twinConflict_only {m₀ : List Part} {b₀ : Blk} (b : Blk) (i : Nat) (hm₀ : within [.out, .od, .hA, .hB, .can, .linen] m₀) (h₀ : Only m₀ b₀ b) : Only m₀ b₀ (Blk.twinConflict b i) := by
  refine only_step (l := [.out, .od, .hA, .hB, .can, .linen]) ?_ hm₀ h₀
  unfold Blk.twinConflict
  repeat (first | with_reducible assumption | with_reducible apply only_refl | (with_reducible apply Blk.bump_only <;> [decide; skip]) | (with_reducible apply Blk.report_only <;> [decide; skip]) | with_reducible apply only_ite)

theorem Blk.itemGone_only {m₀ : List Part} {b₀ : Blk} (b : Blk) (i : Nat) (hm₀ : within [.free, .out, .od, .hA, .hB, .can, .path, .gauze, .damask, .linen, .felt, .tweed, .modes, .safety] m₀) (h₀ : Only m₀ b₀ b) : Only m₀ b₀ (Blk.itemGone b i) := by
  refine only_step (l := [.free, .out, .od, .hA, .hB, .can, .path, .gauze, .damask, .linen, .felt, .tweed, .modes, .safety]) ?_ hm₀ h₀
  unfold Blk.itemGone
  repeat (first | with_reducible assumption | with_reducible apply only_refl | (with_reducible apply Blk.detect_only <;> [decide; skip]) | (with_reducible apply Blk.dropCopies_only <;> [decide; skip]) | (with_reducible apply Blk.itemAbsent_only <;> [decide; skip]) | with_reducible apply only_ite)

theorem Blk.loadFelt_only {m₀ : List Part} {b₀ : Blk} (b : Blk) (x : FeltObs) (hm₀ : within [.free, .out, .od, .hA, .hB, .can, .path, .gauze, .damask, .linen, .felt, .tweed, .modes, .safety] m₀) (h₀ : Only m₀ b₀ b) : Only m₀ b₀ (Blk.loadFelt b x) := by
  refine only_step (l := [.free, .out, .od, .hA, .hB, .can, .path, .gauze, .damask, .linen, .felt, .tweed, .modes, .safety]) ?_ hm₀ h₀
  unfold Blk.loadFelt
  repeat (first | with_reducible assumption | with_reducible apply only_refl | (with_reducible apply Blk.twinConflict_only <;> [decide; skip]) | (with_reducible apply Blk.itemGone_only <;> [decide; skip]) | (with_reducible refine only_foldl (fun c x hc => ?_) _ _ ?_))

theorem Blk.fillFails_only {m₀ : List Part} {b₀ : Blk} (b : Blk) (bad : List Nat) (hm₀ : within [.free, .out, .od, .hA, .hB, .can, .linen, .modes, .safety] m₀) (h₀ : Only m₀ b₀ b) : Only m₀ b₀ (Blk.fillFails b bad) := by
  refine only_step (l := [.free, .out, .od, .hA, .hB, .can, .linen, .modes, .safety]) ?_ hm₀ h₀
  unfold Blk.fillFails
  repeat (first | with_reducible assumption | with_reducible apply only_refl | (with_reducible apply Blk.onModes_only <;> [decide; skip]) | (with_reducible apply Blk.useFree_only <;> [decide; skip]) | (with_reducible apply Blk.report_only <;> [decide; skip]) | (with_reducible apply Blk.onBank_only <;> [decide; skip]) | (with_reducible apply Blk.ringNewest_only <;> [decide; skip]) | (with_reducible refine only_foldl (fun c x hc => ?_) _ _ ?_) | extract_lets | (dsimp +zetaDelta only))

theorem Blk.readIds_only {m₀ : List Part} {b₀ : Blk} (b : Blk) (ids : List (Nat × BitVec 64)) (hm₀ : within [.media] m₀) (h₀ : Only m₀ b₀ b) : Only m₀ b₀ (Blk.readIds b ids) := by
  refine only_step (l := [.media]) ?_ hm₀ h₀
  unfold Blk.readIds
  repeat (first | with_reducible assumption | with_reducible apply only_refl | (with_reducible apply Blk.onDie_only <;> [decide; skip]) | (with_reducible refine only_foldl (fun c x hc => ?_) _ _ ?_))

theorem Blk.replaceDie_only {m₀ : List Part} {b₀ : Blk} (b : Blk) (d : Nat) (id : BitVec 64) (hm₀ : within [.free, .out, .od, .hA, .hB, .muslin, .can, .dev, .path, .lines, .poison, .media, .twill, .gauze, .damask, .linen, .tweed, .modes, .safety] m₀) (h₀ : Only m₀ b₀ b) : Only m₀ b₀ (Blk.replaceDie b d id) := by
  refine only_step (l := [.free, .out, .od, .hA, .hB, .muslin, .can, .dev, .path, .lines, .poison, .media, .twill, .gauze, .damask, .linen, .tweed, .modes, .safety]) ?_ hm₀ h₀
  unfold Blk.replaceDie
  repeat (first | with_reducible assumption | with_reducible apply only_refl | (with_reducible apply onMedia_keep <;> [decide; (intro; exact ⟨rfl, rfl⟩); skip]) | (with_reducible apply Blk.onDamask_only <;> [decide; skip]) | (with_reducible apply Blk.onDie_only <;> [decide; skip]) | (with_reducible apply Blk.reportUnit_only <;> [decide; skip]) | (with_reducible apply Blk.dieFail_only <;> [decide; skip]) | (with_reducible apply Blk.clearCells_only <;> [decide; skip]) | with_reducible apply only_ite | extract_lets | (dsimp +zetaDelta only))

theorem Blk.checkDie_only {m₀ : List Part} {b₀ : Blk} (ids : List (Nat × BitVec 64)) (b : Blk) (d : Nat) (hm₀ : within [.free, .out, .od, .hA, .hB, .muslin, .can, .dev, .path, .lines, .poison, .media, .twill, .gauze, .damask, .linen, .tweed, .modes, .safety] m₀) (h₀ : Only m₀ b₀ b) : Only m₀ b₀ (Blk.checkDie ids b d) := by
  refine only_step (l := [.free, .out, .od, .hA, .hB, .muslin, .can, .dev, .path, .lines, .poison, .media, .twill, .gauze, .damask, .linen, .tweed, .modes, .safety]) ?_ hm₀ h₀
  unfold Blk.checkDie
  repeat (first | with_reducible assumption | with_reducible apply only_refl | (with_reducible apply Blk.dieFail_only <;> [decide; skip]) | (with_reducible apply Blk.replaceDie_only <;> [decide; skip]) | with_reducible apply only_ite | split)

theorem Blk.ownMedia_only {m₀ : List Part} {b₀ : Blk} (b : Blk) (ids : List (Nat × BitVec 64)) (hm₀ : within [.free, .out, .od, .hA, .hB, .muslin, .can, .dev, .path, .lines, .poison, .media, .twill, .gauze, .damask, .linen, .tweed, .modes, .safety] m₀) (h₀ : Only m₀ b₀ b) : Only m₀ b₀ (Blk.ownMedia b ids) := by
  refine only_step (l := [.free, .out, .od, .hA, .hB, .muslin, .can, .dev, .path, .lines, .poison, .media, .twill, .gauze, .damask, .linen, .tweed, .modes, .safety]) ?_ hm₀ h₀
  unfold Blk.ownMedia
  repeat (first | with_reducible assumption | with_reducible apply only_refl | (with_reducible apply Blk.boundNow_only <;> [decide; skip]) | (with_reducible apply Blk.checkDie_only <;> [decide; skip]) | (with_reducible refine only_foldl (fun c x hc => ?_) _ _ ?_))

theorem Blk.firstProvision_only {m₀ : List Part} {b₀ : Blk} (b : Blk) (hm₀ : within [.rng, .free, .out, .od, .hA, .hB, .can, .lines, .media, .twill, .gauze, .damask, .linen, .felt, .tweed, .modes] m₀) (h₀ : Only m₀ b₀ b) : Only m₀ b₀ (Blk.firstProvision b) := by
  refine only_step (l := [.rng, .free, .out, .od, .hA, .hB, .can, .lines, .media, .twill, .gauze, .damask, .linen, .felt, .tweed, .modes]) ?_ hm₀ h₀
  unfold Blk.firstProvision
  repeat (first | with_reducible assumption | with_reducible apply only_refl | (with_reducible apply Blk.onDamask_only <;> [decide; skip]) | (with_reducible apply Blk.onFelt_only <;> [decide; skip]) | (with_reducible apply Blk.draw_only <;> [decide; skip]) | (with_reducible apply Blk.itemWrite_only <;> [decide; skip]) | (with_reducible apply Blk.bind_only <;> [decide; skip]) | (with_reducible apply Blk.boundNow_only <;> [decide; skip]) | (with_reducible apply Blk.provisionSlots_only <;> [decide; skip]) | extract_lets | (dsimp +zetaDelta only))

theorem Blk.heldMedia_only {m₀ : List Part} {b₀ : Blk} (b : Blk) (state : Nat) (record : Option (BitVec 8 × BitVec 64 × BitVec 128 × Nat)) (hm₀ : within [.out, .od, .hA, .hB, .can, .damask, .linen] m₀) (h₀ : Only m₀ b₀ b) : Only m₀ b₀ (Blk.heldMedia b state record) := by
  refine only_step (l := [.out, .od, .hA, .hB, .can, .damask, .linen]) ?_ hm₀ h₀
  unfold Blk.heldMedia
  repeat (first | with_reducible assumption | with_reducible apply only_refl | (with_reducible apply Blk.onDamask_only <;> [decide; skip]) | (with_reducible apply Blk.report_only <;> [decide; skip]) | with_reducible apply only_ite | extract_lets | (dsimp +zetaDelta only))

theorem Blk.fwTaken_only {m₀ : List Part} {b₀ : Blk} (b : Blk) (hm₀ : within [.felt] m₀) (h₀ : Only m₀ b₀ b) : Only m₀ b₀ (Blk.fwTaken b) := by
  refine only_step (l := [.felt]) ?_ hm₀ h₀
  unfold Blk.fwTaken
  repeat (first | with_reducible assumption | with_reducible apply only_refl | (with_reducible apply Blk.onFelt_only <;> [decide; skip]) | (with_reducible apply Blk.directoryWrite_only <;> [decide; skip]) | with_reducible apply only_ite | extract_lets | (dsimp +zetaDelta only))

theorem Blk.startLaps_only {m₀ : List Part} {b₀ : Blk} (b : Blk) (hm₀ : within [.media] m₀) (h₀ : Only m₀ b₀ b) : Only m₀ b₀ (Blk.startLaps b) := by
  refine only_step (l := [.media]) ?_ hm₀ h₀
  unfold Blk.startLaps
  repeat (first | with_reducible assumption | with_reducible apply only_refl | (with_reducible apply onMedia_keep <;> [decide; (intro; exact ⟨rfl, rfl⟩); skip]))

theorem Blk.degradedNow_only {m₀ : List Part} {b₀ : Blk} (b : Blk) (hm₀ : within [.out, .od, .hA, .hB, .muslin, .can, .linen, .tweed, .modes] m₀) (h₀ : Only m₀ b₀ b) : Only m₀ b₀ (Blk.degradedNow b) := by
  refine only_step (l := [.out, .od, .hA, .hB, .muslin, .can, .linen, .tweed, .modes]) ?_ hm₀ h₀
  unfold Blk.degradedNow
  repeat (first | with_reducible assumption | with_reducible apply only_refl | (with_reducible apply Blk.enter_only <;> [decide; skip]) | (with_reducible apply Blk.degrade_only <;> [decide; skip]) | with_reducible apply only_ite | extract_lets | (dsimp +zetaDelta only))

theorem Blk.modeNow_only {m₀ : List Part} {b₀ : Blk} (b : Blk) (hm₀ : within [.free, .out, .od, .hA, .hB, .muslin, .can, .dev, .path, .lines, .poison, .media, .velvet, .twill, .gauze, .damask, .linen, .tweed, .modes, .safety] m₀) (h₀ : Only m₀ b₀ b) : Only m₀ b₀ (Blk.modeNow b) := by
  refine only_step (l := [.free, .out, .od, .hA, .hB, .muslin, .can, .dev, .path, .lines, .poison, .media, .velvet, .twill, .gauze, .damask, .linen, .tweed, .modes, .safety]) ?_ hm₀ h₀
  unfold Blk.modeNow
  repeat (first | with_reducible assumption | with_reducible apply only_refl | (with_reducible apply Blk.onVelvet_only <;> [decide; skip]) | (with_reducible apply Blk.report_only <;> [decide; skip]) | (with_reducible apply Blk.energyReport_only <;> [decide; skip]) | with_reducible apply only_ite | extract_lets | (dsimp +zetaDelta only))

theorem Blk.planNow_only {m₀ : List Part} {b₀ : Blk} (b : Blk) (hm₀ : within [.free, .out, .od, .hA, .hB, .muslin, .can, .dev, .lines, .media, .twill, .gauze, .linen, .tweed, .modes] m₀) (h₀ : Only m₀ b₀ b) : Only m₀ b₀ (Blk.planNow b) := by
  refine only_step (l := [.free, .out, .od, .hA, .hB, .muslin, .can, .dev, .lines, .media, .twill, .gauze, .linen, .tweed, .modes]) ?_ hm₀ h₀
  unfold Blk.planNow
  repeat (first | with_reducible assumption | with_reducible apply only_refl | (with_reducible apply Blk.newPlan_only <;> [decide; skip]) | (with_reducible apply Blk.openLanes_only <;> [decide; skip]) | (with_reducible apply Blk.turnPlan_only <;> [decide; skip]) | with_reducible apply only_ite)

theorem Blk.activate_only {m₀ : List Part} {b₀ : Blk} (b : Blk) (hm₀ : within [.free, .out, .od, .regs, .hA, .hB, .muslin, .can, .dev, .path, .lines, .poison, .media, .velvet, .twill, .gauze, .damask, .linen, .felt, .tweed, .thermal, .modes, .safety] m₀) (h₀ : Only m₀ b₀ b) : Only m₀ b₀ (Blk.activate b) := by
  refine only_step (l := [.free, .out, .od, .regs, .hA, .hB, .muslin, .can, .dev, .path, .lines, .poison, .media, .velvet, .twill, .gauze, .damask, .linen, .felt, .tweed, .thermal, .modes, .safety]) ?_ hm₀ h₀
  unfold Blk.activate
  repeat (first | with_reducible assumption | with_reducible apply only_refl | (with_reducible apply Blk.onHA_only <;> [decide; skip]) | (with_reducible apply Blk.onHB_only <;> [decide; skip]) | (with_reducible apply Blk.onModes_only <;> [decide; skip]) | (with_reducible apply Blk.report_only <;> [decide; skip]) | (with_reducible apply Blk.setConditions_only <;> [decide; skip]) | (with_reducible apply Blk.lifeCheck_only <;> [decide; skip]) | (with_reducible apply Blk.poisonWarn_only <;> [decide; skip]) | (with_reducible apply Blk.retireWaiting_only <;> [decide; skip]) | (with_reducible apply Blk.drive_only <;> [decide; skip]) | (with_reducible apply Blk.payOwed_only <;> [decide; skip]) | (with_reducible apply Blk.throttle_only <;> [decide; skip]) | (with_reducible apply Blk.fwTaken_only <;> [decide; skip]) | (with_reducible apply Blk.startLaps_only <;> [decide; skip]) | (with_reducible apply Blk.degradedNow_only <;> [decide; skip]) | (with_reducible apply Blk.modeNow_only <;> [decide; skip]) | (with_reducible apply Blk.planNow_only <;> [decide; skip]) | (with_reducible refine only_foldl (fun c x hc => ?_) _ _ ?_) | with_reducible apply only_ite | extract_lets | (dsimp +zetaDelta only))

theorem Blk.spdmReq_only {m₀ : List Part} {b₀ : Blk} (b : Blk) (h : Head) (f : Blk → Blk) (hm₀ : within [] m₀) (hf : ∀ c, Only m₀ b₀ c → Only m₀ b₀ (f c)) (h₀ : Only m₀ b₀ b) : Only m₀ b₀ (Blk.spdmReq b h f) := by
  unfold Blk.spdmReq
  repeat (first | with_reducible assumption | (with_reducible apply hf) | (with_reducible apply only_ite) | extract_lets | split | (intro c hc) | (refine ⟨fun p hp => same_trans (h₀.same p hp) ?_⟩; cases p <;> first | rfl | exact absurd (by (first | assumption | (refine List.contains_iff_mem.1 (List.all_eq_true.1 hm₀ _ (by decide))))) hp))

theorem Blk.spdmSay_only {m₀ : List Part} {b₀ : Blk} (b : Blk) (h : Head) (code : Nat) (out : List Nat) (hm₀ : within [.out] m₀) (h₀ : Only m₀ b₀ b) : Only m₀ b₀ (Blk.spdmSay b h code out) := by
  refine only_step (l := [.out]) ?_ hm₀ h₀
  unfold Blk.spdmSay
  repeat (first | with_reducible assumption | with_reducible apply only_refl | (with_reducible apply Blk.emit_only <;> [decide; skip]))

theorem Blk.spdmError_only {m₀ : List Part} {b₀ : Blk} (b : Blk) (h : Head) (hm₀ : within [.out] m₀) (h₀ : Only m₀ b₀ b) : Only m₀ b₀ (Blk.spdmError b h) := by
  refine only_step (l := [.out]) ?_ hm₀ h₀
  unfold Blk.spdmError
  repeat (first | with_reducible assumption | with_reducible apply only_refl | (with_reducible apply Blk.spdmSay_only <;> [decide; skip]))

theorem Blk.onSpdm_only {m₀ : List Part} {b₀ : Blk} (b : Blk) (h : Head) (f : Spdm → Spdm) (hm₀ : within [.hA, .hB] m₀) (h₀ : Only m₀ b₀ b) : Only m₀ b₀ (Blk.onSpdm b h f) := by
  refine only_step (l := [.hA, .hB]) ?_ hm₀ h₀
  unfold Blk.onSpdm
  repeat (first | with_reducible assumption | with_reducible apply only_refl | (with_reducible apply Blk.onHead_only <;> [decide; skip]))

theorem Blk.afterAlgs_only {m₀ : List Part} {b₀ : Blk} (b : Blk) (h : Head) (f : Blk → Blk) (hm₀ : within [.out] m₀) (hf : ∀ c, Only m₀ b₀ c → Only m₀ b₀ (f c)) (h₀ : Only m₀ b₀ b) : Only m₀ b₀ (Blk.afterAlgs b h f) := by
  unfold Blk.afterAlgs
  repeat (first | with_reducible assumption | (with_reducible apply Blk.spdmError_only <;> [(refine within_trans ?_ hm₀; decide); skip]) | (with_reducible apply hf) | (with_reducible apply only_ite) | extract_lets | split | (intro c hc) | (refine ⟨fun p hp => same_trans (h₀.same p hp) ?_⟩; cases p <;> first | rfl | exact absurd (by (first | assumption | (refine List.contains_iff_mem.1 (List.all_eq_true.1 hm₀ _ (by decide))))) hp))

theorem Blk.inSession_only {m₀ : List Part} {b₀ : Blk} (b : Blk) (h : Head) (f : Blk → Blk) (hm₀ : within [.out] m₀) (hf : ∀ c, Only m₀ b₀ c → Only m₀ b₀ (f c)) (h₀ : Only m₀ b₀ b) : Only m₀ b₀ (Blk.inSession b h f) := by
  unfold Blk.inSession
  repeat (first | with_reducible assumption | (with_reducible apply Blk.spdmError_only <;> [(refine within_trans ?_ hm₀; decide); skip]) | (with_reducible apply hf) | (with_reducible apply only_ite) | extract_lets | split | (intro c hc) | (refine ⟨fun p hp => same_trans (h₀.same p hp) ?_⟩; cases p <;> first | rfl | exact absurd (by (first | assumption | (refine List.contains_iff_mem.1 (List.all_eq_true.1 hm₀ _ (by decide))))) hp))

end Sys2Proof.Machine
end

