-- ==== Sys2Proof/Laws/FrameExec.lean ====
section
/-! SUPPORT. What each command may change: one lemma for each meaning, from those of the operations. -/

set_option linter.all false
set_option Elab.async false
namespace Sys2Proof.Machine
open Sys2Proof.Safety
theorem execMemRd_frame (x0 x1 x2 x3) (s t : State) (h : execMemRd x0 x1 x2 x3 s = .next t) : Only [.out, .od, .hA, .hB, .can, .path, .linen, .tweed] (s.blk.at x0) t.blk := by
  unfold execMemRd State.command at h
  cases h
  generalize s.blk.at x0 = b
  dsimp only
  repeat (first | assumption | with_reducible apply only_refl | (with_reducible apply Blk.arrive_only <;> [decide; skip]) | with_reducible apply only_ite | extract_lets | split | (intros; dsimp only) | intro _)

theorem execMemRdData_frame (x0 x1 x2 x3) (s t : State) (h : execMemRdData x0 x1 x2 x3 s = .next t) : Only [.out, .od, .hA, .hB, .can, .path, .linen, .tweed] (s.blk.at x0) t.blk := by
  unfold execMemRdData State.command at h
  cases h
  generalize s.blk.at x0 = b
  dsimp only
  repeat (first | assumption | with_reducible apply only_refl | (with_reducible apply Blk.arrive_only <;> [decide; skip]) | with_reducible apply only_ite | extract_lets | split | (intros; dsimp only) | intro _)

theorem execMemSpecRd_frame (x0 x1 x2 x3) (s t : State) (h : execMemSpecRd x0 x1 x2 x3 s = .next t) : Only [] (s.blk.at x0) t.blk := by
  unfold execMemSpecRd State.command at h
  cases h
  generalize s.blk.at x0 = b
  dsimp only
  exact only_refl _ _

theorem execMemWr_frame (x0 x1 x2 x3 x4 x5) (s t : State) (h : execMemWr x0 x1 x2 x3 x4 x5 s = .next t) : Only [.out, .od, .hA, .hB, .can, .path, .linen, .tweed] (s.blk.at x0) t.blk := by
  unfold execMemWr State.command at h
  cases h
  generalize s.blk.at x0 = b
  dsimp only
  repeat (first | assumption | with_reducible apply only_refl | (with_reducible apply Blk.arrive_only <;> [decide; skip]) | with_reducible apply only_ite | extract_lets | split | (intros; dsimp only) | intro _)

theorem execMemWrPtl_frame (x0 x1 x2 x3 x4 x5 x6) (s t : State) (h : execMemWrPtl x0 x1 x2 x3 x4 x5 x6 s = .next t) : Only [.out, .od, .hA, .hB, .can, .path, .linen, .tweed] (s.blk.at x0) t.blk := by
  unfold execMemWrPtl State.command at h
  cases h
  generalize s.blk.at x0 = b
  dsimp only
  repeat (first | assumption | with_reducible apply only_refl | (with_reducible apply Blk.arrive_only <;> [decide; skip]) | with_reducible apply only_ite | extract_lets | split | (intros; dsimp only) | intro _)

theorem execUnsupportedRequest_frame (x0 x1 x2 x3 x4) (s t : State) (h : execUnsupportedRequest x0 x1 x2 x3 x4 s = .next t) : Only [.out, .od, .hA, .hB, .can, .linen, .tweed] (s.blk.at x0) t.blk := by
  unfold execUnsupportedRequest State.command at h
  cases h
  generalize s.blk.at x0 = b
  dsimp only
  repeat (first | assumption | with_reducible apply only_refl | (with_reducible apply Blk.bump_only <;> [decide; skip]) | (with_reducible apply Blk.report_only <;> [decide; skip]) | (with_reducible apply Blk.refuse_only <;> [decide; skip]) | with_reducible apply only_ite | extract_lets | split | (intros; dsimp only) | intro _)

theorem execAcceptance_frame (x0 x1 x2 x3) (s t : State) (h : execAcceptance x0 x1 x2 x3 s = .next t) : Only [.free, .out, .od, .hA, .hB, .can, .path, .lines, .poison, .media, .velvet, .twill, .damask, .linen, .tweed, .modes, .safety] (s.blk.at x0) t.blk := by
  unfold execAcceptance State.command at h
  cases h
  generalize s.blk.at x0 = b
  dsimp only
  repeat (first | assumption | with_reducible apply only_refl | (with_reducible apply Blk.tryAccept_only <;> [decide; skip]) | with_reducible apply only_ite | extract_lets | split | (intros; dsimp only) | intro _)

theorem execReadIssue_frame (x0 x1 x2 x3) (s t : State) (h : execReadIssue x0 x1 x2 x3 s = .next t) : Only [.free, .out, .od, .regs, .hA, .hB, .muslin, .can, .dev, .path, .lines, .poison, .media, .velvet, .twill, .gauze, .damask, .linen, .tweed, .modes, .safety] (s.blk.at x0) t.blk := by
  unfold execReadIssue State.command at h
  cases h
  generalize s.blk.at x0 = b
  dsimp only
  repeat (first | assumption | with_reducible apply only_refl | (with_reducible apply Blk.onPart_only <;> [decide; skip]) | (with_reducible apply Blk.issue_only <;> [decide; skip]) | (with_reducible apply Blk.readOn_only <;> [decide; skip]) | (with_reducible apply Blk.fromBuffer_only <;> [decide; skip]) | with_reducible apply only_ite | extract_lets | split | (intros; dsimp only) | intro _)

theorem execProgramResume_frame (x0 x1 x2 x3) (s t : State) (h : execProgramResume x0 x1 x2 x3 s = .next t) : Only [.out, .media] (s.blk.at x0) t.blk := by
  unfold execProgramResume State.command at h
  cases h
  generalize s.blk.at x0 = b
  dsimp only
  repeat (first | assumption | with_reducible apply only_refl | (with_reducible apply Blk.onPart_only <;> [decide; skip]) | (with_reducible apply Blk.sendDie_only <;> [decide; skip]) | with_reducible apply only_ite | extract_lets | split | (intros; dsimp only) | intro _)

theorem execReadTransfer_frame (x0 x1 x2 x3 x4) (s t : State) (h : execReadTransfer x0 x1 x2 x3 x4 s = .next t) : Only [.free, .out, .od, .regs, .hA, .hB, .muslin, .can, .dev, .path, .lines, .poison, .media, .velvet, .twill, .gauze, .damask, .linen, .tweed, .thermal, .modes, .safety] (s.blk.at x0) t.blk := by
  unfold execReadTransfer State.command at h
  cases h
  generalize s.blk.at x0 = b
  dsimp only
  repeat (first | assumption | with_reducible apply only_refl | (with_reducible apply Blk.tw_only <;> [decide; skip]) | (with_reducible apply Blk.onPart_only <;> [decide; skip]) | (with_reducible apply Blk.dieStatus_only <;> [decide; skip]) | (with_reducible apply Blk.readOn_only <;> [decide; skip]) | (with_reducible apply Blk.transferFailed_only <;> [decide; skip]) | (with_reducible apply Blk.transferred_only <;> [decide; skip]) | (with_reducible apply Blk.phaseSeen_only <;> [decide; skip]) | (with_reducible apply Blk.marginTransfer_only <;> [decide; skip]) | with_reducible apply only_ite | extract_lets | split | (intros; dsimp only) | intro _)

theorem execReconstructionComplete_frame (x0 x1 x2 x3) (s t : State) (h : execReconstructionComplete x0 x1 x2 x3 s = .next t) : Only [.free, .out, .od, .regs, .hA, .hB, .muslin, .can, .dev, .path, .lines, .poison, .media, .velvet, .twill, .gauze, .damask, .linen, .tweed, .modes, .safety] (s.blk.at x0) t.blk := by
  unfold execReconstructionComplete State.command at h
  cases h
  generalize s.blk.at x0 = b
  dsimp only
  repeat (first | assumption | with_reducible apply only_refl | (with_reducible apply Blk.lineData_only <;> [decide; skip]) | (with_reducible apply Blk.startDeep_only <;> [decide; skip]) | (with_reducible apply Blk.settleTags_only <;> [decide; skip]) | (with_reducible apply Blk.readOn_only <;> [decide; skip]) | (with_reducible refine only_foldl (fun c x hc => ?_) _ _ ?_) | with_reducible apply only_ite | extract_lets | split | (intros; dsimp only) | intro _)

theorem execFillReturn_frame (x0 x1) (s t : State) (h : execFillReturn x0 x1 s = .next t) : Only [.free, .out, .od, .hA, .hB, .can, .path, .lines, .media, .velvet, .twill, .damask, .linen, .tweed, .modes, .safety] (s.blk.at x0) t.blk := by
  unfold execFillReturn State.command at h
  cases h
  generalize s.blk.at x0 = b
  dsimp only
  repeat (first | assumption | with_reducible apply only_refl | (with_reducible apply Blk.onPath_only <;> [decide; skip]) | (with_reducible apply Blk.applyFill_only <;> [decide; skip]) | (with_reducible apply Blk.startFill_only <;> [decide; skip]) | with_reducible apply only_ite | extract_lets | split | (intros; dsimp only) | intro _ | (refine ⟨fun p hp => ?_⟩; cases p <;> first | rfl | exact absurd (by decide) hp))

theorem execDeadlineExpiry_frame (x0 x1) (s t : State) (h : execDeadlineExpiry x0 x1 s = .next t) : Only [.free, .out, .od, .hA, .hB, .can, .path, .poison, .media, .linen, .tweed, .modes] (s.blk.at x0) t.blk := by
  unfold execDeadlineExpiry State.command at h
  cases h
  generalize s.blk.at x0 = b
  dsimp only
  repeat (first | assumption | with_reducible apply only_refl | (with_reducible apply Blk.bump_only <;> [decide; skip]) | (with_reducible apply Blk.answerDeep_only <;> [decide; skip]) | (with_reducible apply Blk.deadlineList_only <;> [decide; skip]) | with_reducible apply only_ite | extract_lets | split | (intros; dsimp only) | intro _)

theorem execDeepRecoveryTimeout_frame (x0 x1) (s t : State) (h : execDeepRecoveryTimeout x0 x1 s = .next t) : Only [.free, .out, .od, .regs, .hA, .hB, .muslin, .can, .dev, .path, .lines, .poison, .media, .velvet, .twill, .gauze, .damask, .linen, .tweed, .modes, .safety] (s.blk.at x0) t.blk := by
  unfold execDeepRecoveryTimeout State.command at h
  cases h
  generalize s.blk.at x0 = b
  dsimp only
  repeat (first | assumption | with_reducible apply only_refl | (with_reducible apply Blk.endAcc_only <;> [decide; skip]) | (with_reducible apply Blk.poisonFill_only <;> [decide; skip]) | (with_reducible apply Blk.damaskFailure_only <;> [decide; skip]) | (with_reducible apply Blk.dropDeep_only <;> [decide; skip]) | (with_reducible apply Blk.poisonRest_only <;> [decide; skip]) | (with_reducible apply Blk.answerDeep_only <;> [decide; skip]) | (with_reducible apply Blk.drive_only <;> [decide; skip]) | (with_reducible apply Blk.deepJobs_only <;> [decide; skip]) | (with_reducible refine only_foldl (fun c x hc => ?_) _ _ ?_) | with_reducible apply only_ite | extract_lets | split | (intros; dsimp only) | intro _)

theorem execDeepRecoverySuccess_frame (x0 x1 x2 x3) (s t : State) (h : execDeepRecoverySuccess x0 x1 x2 x3 s = .next t) : Only [.free, .out, .od, .regs, .hA, .hB, .muslin, .can, .dev, .path, .lines, .poison, .media, .velvet, .twill, .gauze, .damask, .linen, .tweed, .modes, .safety] (s.blk.at x0) t.blk := by
  unfold execDeepRecoverySuccess State.command at h
  cases h
  generalize s.blk.at x0 = b
  dsimp only
  repeat (first | assumption | with_reducible apply only_refl | (with_reducible apply Blk.bump_only <;> [decide; skip]) | (with_reducible apply Blk.report_only <;> [decide; skip]) | (with_reducible apply Blk.applyFill_only <;> [decide; skip]) | (with_reducible apply Blk.lineData_only <;> [decide; skip]) | (with_reducible apply Blk.dropDeep_only <;> [decide; skip]) | (with_reducible apply Blk.drive_only <;> [decide; skip]) | (with_reducible apply Blk.deepJobs_only <;> [decide; skip]) | (with_reducible apply Blk.writeBack_only <;> [decide; skip]) | (with_reducible apply Blk.unlistRecovered_only <;> [decide; skip]) | (with_reducible refine only_foldl (fun c x hc => ?_) _ _ ?_) | with_reducible apply only_ite | extract_lets | split | (intros; dsimp only) | intro _)

theorem execProgramGuard_frame (x0 x1 x2 x3) (s t : State) (h : execProgramGuard x0 x1 x2 x3 s = .next t) : Only [.free, .out, .od, .hA, .hB, .can, .media, .twill, .linen, .tweed] (s.blk.at x0) t.blk := by
  unfold execProgramGuard State.command at h
  cases h
  generalize s.blk.at x0 = b
  dsimp only
  repeat (first | assumption | with_reducible apply only_refl | (with_reducible apply Blk.tw_only <;> [decide; skip]) | (with_reducible apply Blk.onPart_only <;> [decide; skip]) | (with_reducible apply Blk.program_only <;> [decide; skip]) | with_reducible apply only_ite | extract_lets | split | (intros; dsimp only) | intro _)

theorem execResetGuard_frame (x0 x1 x2 x3) (s t : State) (h : execResetGuard x0 x1 x2 x3 s = .next t) : Only [.media] (s.blk.at x0) t.blk := by
  unfold execResetGuard State.command at h
  cases h
  generalize s.blk.at x0 = b
  dsimp only
  repeat (first | assumption | with_reducible apply only_refl | (with_reducible apply Blk.onPart_only <;> [decide; skip]) | with_reducible apply only_ite | extract_lets | split | (intros; dsimp only) | intro _)

theorem execColdPathWrite_frame (x0 x1 x2) (s t : State) (h : execColdPathWrite x0 x1 x2 s = .next t) : Only [.free, .out, .od, .regs, .hA, .hB, .muslin, .can, .dev, .path, .lines, .poison, .media, .velvet, .twill, .gauze, .damask, .linen, .tweed, .modes, .safety] (s.blk.at x0) t.blk := by
  unfold execColdPathWrite State.command at h
  cases h
  generalize s.blk.at x0 = b
  dsimp only
  repeat (first | assumption | with_reducible apply only_refl | (with_reducible apply Blk.drive_only <;> [decide; skip]) | (with_reducible apply Blk.coldBuffer_only <;> [decide; skip]) | (with_reducible apply Blk.coldThrough_only <;> [decide; skip]) | with_reducible apply only_ite | extract_lets | split | (intros; dsimp only) | intro _)

theorem execHotAppend_frame (x0 x1 x2 x3) (s t : State) (h : execHotAppend x0 x1 x2 x3 s = .next t) : Only [.free, .out, .od, .regs, .hA, .hB, .muslin, .can, .dev, .path, .lines, .poison, .media, .velvet, .twill, .gauze, .damask, .linen, .tweed, .modes, .safety] (s.blk.at x0) t.blk := by
  unfold execHotAppend State.command at h
  cases h
  generalize s.blk.at x0 = b
  dsimp only
  repeat (first | assumption | with_reducible apply only_refl | (with_reducible apply Blk.egress_only <;> [decide; skip]) | (with_reducible apply Blk.drive_only <;> [decide; skip]) | (with_reducible apply Blk.hotWrite_only <;> [decide; skip]) | with_reducible apply only_ite | extract_lets | split | (intros; dsimp only) | intro _)

theorem execProgramComplete_frame (x0 x1 x2 x3 x4) (s t : State) (h : execProgramComplete x0 x1 x2 x3 x4 s = .next t) : Only [.free, .out, .od, .regs, .hA, .hB, .muslin, .can, .dev, .path, .lines, .poison, .media, .velvet, .twill, .gauze, .damask, .linen, .tweed, .modes, .safety] (s.blk.at x0) t.blk := by
  unfold execProgramComplete State.command at h
  cases h
  generalize s.blk.at x0 = b
  dsimp only
  repeat (first | assumption | with_reducible apply only_refl | (with_reducible apply Blk.programEnds_only <;> [decide; skip]) | (with_reducible apply Blk.goOn_only <;> [decide; skip]) | with_reducible apply only_ite | extract_lets | split | (intros; dsimp only) | intro _)

theorem execTileResetStart_frame (x0 x1 x2 x3) (s t : State) (h : execTileResetStart x0 x1 x2 x3 s = .next t) : Only [.free, .out, .media, .tweed] (s.blk.at x0) t.blk := by
  unfold execTileResetStart State.command at h
  cases h
  generalize s.blk.at x0 = b
  dsimp only
  repeat (first | assumption | with_reducible apply only_refl | (with_reducible apply Blk.twChan_only <;> [decide; skip]) | (with_reducible apply Blk.onPart_only <;> [decide; skip]) | (with_reducible apply Blk.sendDie_only <;> [decide; skip]) | with_reducible apply only_ite | extract_lets | split | (intros; dsimp only) | intro _)

theorem execTileResetComplete_frame (x0 x1 x2 x3 x4) (s t : State) (h : execTileResetComplete x0 x1 x2 x3 x4 s = .next t) : Only [.free, .out, .od, .regs, .hA, .hB, .muslin, .can, .dev, .path, .lines, .poison, .media, .velvet, .twill, .gauze, .damask, .linen, .tweed, .modes, .safety] (s.blk.at x0) t.blk := by
  unfold execTileResetComplete State.command at h
  cases h
  generalize s.blk.at x0 = b
  dsimp only
  repeat (first | assumption | with_reducible apply only_refl | (with_reducible apply Blk.goOn_only <;> [decide; skip]) | (with_reducible apply Blk.resetEnds_only <;> [decide; skip]) | with_reducible apply only_ite | extract_lets | split | (intros; dsimp only) | intro _)

theorem execWriteThroughWrite_frame (x0 x1 x2 x3) (s t : State) (h : execWriteThroughWrite x0 x1 x2 x3 s = .next t) : Only [.free, .out, .od, .hA, .hB, .can, .path, .poison, .media, .twill, .linen, .tweed, .modes, .safety] (s.blk.at x0) t.blk := by
  unfold execWriteThroughWrite State.command at h
  cases h
  generalize s.blk.at x0 = b
  dsimp only
  repeat (first | assumption | with_reducible apply only_refl | (with_reducible apply Blk.onPath_only <;> [decide; skip]) | (with_reducible apply Blk.tw_only <;> [decide; skip]) | (with_reducible apply Blk.program_only <;> [decide; skip]) | (with_reducible apply Blk.takePosition_only <;> [decide; skip]) | (with_reducible apply Blk.egress_only <;> [decide; skip]) | (with_reducible apply Blk.keepWay_only <;> [decide; skip]) | with_reducible apply only_ite | extract_lets | split | (intros; dsimp only) | intro _ | (refine ⟨fun p hp => ?_⟩; cases p <;> first | rfl | exact absurd (by decide) hp))

theorem execDirtyCleaning_frame (x0) (s t : State) (h : execDirtyCleaning x0 s = .next t) : Only [.velvet] (s.blk.at x0) t.blk := by
  unfold execDirtyCleaning State.command at h
  cases h
  generalize s.blk.at x0 = b
  dsimp only
  repeat (first | assumption | with_reducible apply only_refl | (with_reducible apply Blk.cleanCovered_only <;> [decide; skip]) | (with_reducible apply Blk.cleanBudget_only <;> [decide; skip]) | with_reducible apply only_ite | extract_lets | split | (intros; dsimp only) | intro _)

theorem execRangeClean_frame (x0 x1) (s t : State) (h : execRangeClean x0 x1 s = .next t) : Only [.rng, .free, .out, .od, .hA, .hB, .sesA, .sesB, .sesC, .can, .velvet, .linen, .tweed] (s.blk.at x0) t.blk := by
  unfold execRangeClean State.command at h
  cases h
  generalize s.blk.at x0 = b
  dsimp only
  repeat (first | assumption | with_reducible apply only_refl | (with_reducible apply Blk.writeReq_only <;> [decide; (intros; try dsimp only); skip]) | (with_reducible apply Blk.startRange_only <;> [decide; skip]) | with_reducible apply only_ite | extract_lets | split | (intros; dsimp only) | intro _)

theorem execRangeInvalidate_frame (x0 x1) (s t : State) (h : execRangeInvalidate x0 x1 s = .next t) : Only [.rng, .free, .out, .od, .hA, .hB, .sesA, .sesB, .sesC, .can, .velvet, .linen, .tweed] (s.blk.at x0) t.blk := by
  unfold execRangeInvalidate State.command at h
  cases h
  generalize s.blk.at x0 = b
  dsimp only
  repeat (first | assumption | with_reducible apply only_refl | (with_reducible apply Blk.writeReq_only <;> [decide; (intros; try dsimp only); skip]) | (with_reducible apply Blk.startRange_only <;> [decide; skip]) | with_reducible apply only_ite | extract_lets | split | (intros; dsimp only) | intro _)

theorem execRangeCleanAndInvalidate_frame (x0 x1) (s t : State) (h : execRangeCleanAndInvalidate x0 x1 s = .next t) : Only [.rng, .free, .out, .od, .hA, .hB, .sesA, .sesB, .sesC, .can, .velvet, .linen, .tweed] (s.blk.at x0) t.blk := by
  unfold execRangeCleanAndInvalidate State.command at h
  cases h
  generalize s.blk.at x0 = b
  dsimp only
  repeat (first | assumption | with_reducible apply only_refl | (with_reducible apply Blk.writeReq_only <;> [decide; (intros; try dsimp only); skip]) | (with_reducible apply Blk.startRange_only <;> [decide; skip]) | with_reducible apply only_ite | extract_lets | split | (intros; dsimp only) | intro _)

theorem execRangeOperationEnd_frame (x0) (s t : State) (h : execRangeOperationEnd x0 s = .next t) : Only [.out, .od, .can, .velvet] (s.blk.at x0) t.blk := by
  unfold execRangeOperationEnd State.command at h
  cases h
  generalize s.blk.at x0 = b
  dsimp only
  repeat (first | assumption | with_reducible apply only_refl | (with_reducible apply Blk.onVelvet_only <;> [decide; skip]) | (with_reducible apply Blk.odSet_only <;> [decide; skip]) | (with_reducible apply Blk.maintain_only <;> [decide; skip]) | with_reducible apply only_ite | extract_lets | split | (intros; dsimp only) | intro _ | (refine ⟨fun p hp => ?_⟩; cases p <;> first | rfl | exact absurd (by decide) hp))

theorem execLineCleanByAddress_frame (x0 x1 x2) (s t : State) (h : execLineCleanByAddress x0 x1 x2 s = .next t) : Only [.rng, .free, .out, .od, .hA, .hB, .sesA, .sesB, .sesC, .can, .velvet, .linen, .tweed] (s.blk.at x0) t.blk := by
  unfold execLineCleanByAddress State.command at h
  cases h
  generalize s.blk.at x0 = b
  dsimp only
  repeat (first | assumption | with_reducible apply only_refl | (with_reducible apply Blk.writeReq_only <;> [decide; (intros; try dsimp only); skip]) | (with_reducible apply Blk.byAddress_only <;> [decide; skip]) | with_reducible apply only_ite | extract_lets | split | (intros; dsimp only) | intro _)

theorem execLineInvalidateByAddress_frame (x0 x1 x2) (s t : State) (h : execLineInvalidateByAddress x0 x1 x2 s = .next t) : Only [.rng, .free, .out, .od, .hA, .hB, .sesA, .sesB, .sesC, .can, .velvet, .linen, .tweed] (s.blk.at x0) t.blk := by
  unfold execLineInvalidateByAddress State.command at h
  cases h
  generalize s.blk.at x0 = b
  dsimp only
  repeat (first | assumption | with_reducible apply only_refl | (with_reducible apply Blk.writeReq_only <;> [decide; (intros; try dsimp only); skip]) | (with_reducible apply Blk.byAddress_only <;> [decide; skip]) | with_reducible apply only_ite | extract_lets | split | (intros; dsimp only) | intro _)

theorem execLineCleanInvalidateByAddress_frame (x0 x1 x2) (s t : State) (h : execLineCleanInvalidateByAddress x0 x1 x2 s = .next t) : Only [.rng, .free, .out, .od, .hA, .hB, .sesA, .sesB, .sesC, .can, .velvet, .linen, .tweed] (s.blk.at x0) t.blk := by
  unfold execLineCleanInvalidateByAddress State.command at h
  cases h
  generalize s.blk.at x0 = b
  dsimp only
  repeat (first | assumption | with_reducible apply only_refl | (with_reducible apply Blk.writeReq_only <;> [decide; (intros; try dsimp only); skip]) | (with_reducible apply Blk.byAddress_only <;> [decide; skip]) | with_reducible apply only_ite | extract_lets | split | (intros; dsimp only) | intro _)

theorem execLineCleanBySetAndWay_frame (x0 x1 x2 x3) (s t : State) (h : execLineCleanBySetAndWay x0 x1 x2 x3 s = .next t) : Only [.rng, .free, .out, .od, .hA, .hB, .sesA, .sesB, .sesC, .can, .velvet, .linen, .tweed] (s.blk.at x0) t.blk := by
  unfold execLineCleanBySetAndWay State.command at h
  cases h
  generalize s.blk.at x0 = b
  dsimp only
  repeat (first | assumption | with_reducible apply only_refl | (with_reducible apply Blk.writeReq_only <;> [decide; (intros; try dsimp only); skip]) | (with_reducible apply Blk.bySetWay_only <;> [decide; skip]) | with_reducible apply only_ite | extract_lets | split | (intros; dsimp only) | intro _)

theorem execLineInvalidateBySetAndWay_frame (x0 x1 x2 x3) (s t : State) (h : execLineInvalidateBySetAndWay x0 x1 x2 x3 s = .next t) : Only [.rng, .free, .out, .od, .hA, .hB, .sesA, .sesB, .sesC, .can, .velvet, .linen, .tweed] (s.blk.at x0) t.blk := by
  unfold execLineInvalidateBySetAndWay State.command at h
  cases h
  generalize s.blk.at x0 = b
  dsimp only
  repeat (first | assumption | with_reducible apply only_refl | (with_reducible apply Blk.writeReq_only <;> [decide; (intros; try dsimp only); skip]) | (with_reducible apply Blk.bySetWay_only <;> [decide; skip]) | with_reducible apply only_ite | extract_lets | split | (intros; dsimp only) | intro _)

theorem execLineCleanInvalidateBySetAndWay_frame (x0 x1 x2 x3) (s t : State) (h : execLineCleanInvalidateBySetAndWay x0 x1 x2 x3 s = .next t) : Only [.rng, .free, .out, .od, .hA, .hB, .sesA, .sesB, .sesC, .can, .velvet, .linen, .tweed] (s.blk.at x0) t.blk := by
  unfold execLineCleanInvalidateBySetAndWay State.command at h
  cases h
  generalize s.blk.at x0 = b
  dsimp only
  repeat (first | assumption | with_reducible apply only_refl | (with_reducible apply Blk.writeReq_only <;> [decide; (intros; try dsimp only); skip]) | (with_reducible apply Blk.bySetWay_only <;> [decide; skip]) | with_reducible apply only_ite | extract_lets | split | (intros; dsimp only) | intro _)

theorem execHint_frame (x0 x1 x2) (s t : State) (h : execHint x0 x1 x2 s = .next t) : Only [.od, .hA, .hB, .tweed] (s.blk.at x0) t.blk := by
  unfold execHint State.command at h
  cases h
  generalize s.blk.at x0 = b
  dsimp only
  repeat (first | assumption | with_reducible apply only_refl | (with_reducible apply Blk.onHead_only <;> [decide; skip]) | (with_reducible apply Blk.ringHint_only <;> [decide; skip]) | with_reducible apply only_ite | extract_lets | split | (intros; dsimp only) | intro _ | (refine ⟨fun p hp => ?_⟩; cases p <;> first | rfl | exact absurd (by decide) hp))

theorem execHintCancel_frame (x0 x1 x2) (s t : State) (h : execHintCancel x0 x1 x2 s = .next t) : Only [.od, .hA, .hB, .tweed] (s.blk.at x0) t.blk := by
  unfold execHintCancel State.command at h
  cases h
  generalize s.blk.at x0 = b
  dsimp only
  repeat (first | assumption | with_reducible apply only_refl | (with_reducible apply Blk.onHead_only <;> [decide; skip]) | (with_reducible apply Blk.ringHint_only <;> [decide; skip]) | with_reducible apply only_ite | extract_lets | split | (intros; dsimp only) | intro _ | (refine ⟨fun p hp => ?_⟩; cases p <;> first | rfl | exact absurd (by decide) hp))

theorem execPrefetchRead_frame (x0 x1) (s t : State) (h : execPrefetchRead x0 x1 s = .next t) : Only [.free, .out, .od, .hA, .hB, .can, .path, .lines, .media, .velvet, .twill, .damask, .linen, .tweed, .modes, .safety] (s.blk.at x0) t.blk := by
  unfold execPrefetchRead State.command at h
  cases h
  generalize s.blk.at x0 = b
  dsimp only
  repeat (first | assumption | with_reducible apply only_refl | (with_reducible apply Blk.onHead_only <;> [decide; skip]) | (with_reducible refine Blk.allocate_only _ _ _ _ (by assumption) (by decide) ?_) | (with_reducible apply Blk.startFill_only <;> [decide; skip]) | with_reducible apply only_ite | extract_lets | split | (intros; dsimp only) | intro _ | (refine ⟨fun p hp => ?_⟩; cases p <;> first | rfl | exact absurd (by decide) hp))

theorem execStartBarrier_frame (x0 x1) (s t : State) (h : execStartBarrier x0 x1 s = .next t) : Only [.rng, .free, .out, .od, .hA, .hB, .sesA, .sesB, .sesC, .can, .path, .velvet, .linen, .tweed] (s.blk.at x0) t.blk := by
  unfold execStartBarrier State.command at h
  cases h
  generalize s.blk.at x0 = b
  dsimp only
  repeat (first | assumption | with_reducible apply only_refl | (with_reducible apply Blk.writeReq_only <;> [decide; (intros; try dsimp only); skip]) | (with_reducible apply Blk.openBarrier_only <;> [decide; skip]) | with_reducible apply only_ite | extract_lets | split | (intros; dsimp only) | intro _)

theorem execBarrierCompletion_frame (x0) (s t : State) (h : execBarrierCompletion x0 s = .next t) : Only [.out, .od, .hA, .hB, .can, .path, .linen] (s.blk.at x0) t.blk := by
  unfold execBarrierCompletion State.command at h
  cases h
  generalize s.blk.at x0 = b
  dsimp only
  repeat (first | assumption | with_reducible apply only_refl | (with_reducible apply Blk.onPath_only <;> [decide; skip]) | (with_reducible apply Blk.odSet_only <;> [decide; skip]) | (with_reducible apply Blk.bump_only <;> [decide; skip]) | (with_reducible apply Blk.report_only <;> [decide; skip]) | with_reducible apply only_ite | extract_lets | split | (intros; dsimp only) | intro _ | (refine ⟨fun p hp => ?_⟩; cases p <;> first | rfl | exact absurd (by decide) hp))

theorem execGpfPhase1_frame (x0 x1) (s t : State) (h : execGpfPhase1 x0 x1 s = .next t) : Only [.out] (s.blk.at x0) t.blk := by
  unfold execGpfPhase1 State.command at h
  cases h
  generalize s.blk.at x0 = b
  dsimp only
  repeat (first | assumption | with_reducible apply only_refl | (with_reducible apply Blk.emit_only <;> [decide; skip]) | with_reducible apply only_ite | extract_lets | split | (intros; dsimp only) | intro _)

theorem execGpfPhase2_frame (x0 x1) (s t : State) (h : execGpfPhase2 x0 x1 s = .next t) : Only [.hA, .hB] (s.blk.at x0) t.blk := by
  unfold execGpfPhase2 State.command at h
  cases h
  generalize s.blk.at x0 = b
  dsimp only
  repeat (first | assumption | with_reducible apply only_refl | (with_reducible apply Blk.onHead_only <;> [decide; skip]) | with_reducible apply only_ite | extract_lets | split | (intros; dsimp only) | intro _ | (refine ⟨fun p hp => ?_⟩; cases p <;> first | rfl | exact absurd (by decide) hp))

theorem execGpfPhase2Complete_frame (x0 x1) (s t : State) (h : execGpfPhase2Complete x0 x1 s = .next t) : Only [.out, .hA, .hB] (s.blk.at x0) t.blk := by
  unfold execGpfPhase2Complete State.command at h
  cases h
  generalize s.blk.at x0 = b
  dsimp only
  repeat (first | assumption | with_reducible apply only_refl | (with_reducible apply Blk.onHead_only <;> [decide; skip]) | (with_reducible apply Blk.emit_only <;> [decide; skip]) | with_reducible apply only_ite | extract_lets | split | (intros; dsimp only) | intro _ | (refine ⟨fun p hp => ?_⟩; cases p <;> first | rfl | exact absurd (by decide) hp))

theorem execIdentify_frame (x0 x1) (s t : State) (h : execIdentify x0 x1 s = .next t) : Only [.out] (s.blk.at x0) t.blk := by
  unfold execIdentify State.command at h
  cases h
  generalize s.blk.at x0 = b
  dsimp only
  repeat (first | assumption | with_reducible apply only_refl | (with_reducible apply Blk.mbReply_only <;> [decide; skip]) | (with_reducible apply Blk.mbox_only <;> [decide; (intros; try dsimp only); skip]) | with_reducible apply only_ite | extract_lets | split | (intros; dsimp only) | intro _)

theorem execBackgroundOperationStatus_frame (x0 x1) (s t : State) (h : execBackgroundOperationStatus x0 x1 s = .next t) : Only [.out] (s.blk.at x0) t.blk := by
  unfold execBackgroundOperationStatus State.command at h
  cases h
  generalize s.blk.at x0 = b
  dsimp only
  repeat (first | assumption | with_reducible apply only_refl | (with_reducible apply Blk.mbReply_only <;> [decide; skip]) | (with_reducible apply Blk.mbox_only <;> [decide; (intros; try dsimp only); skip]) | with_reducible apply only_ite | extract_lets | split | (intros; dsimp only) | intro _)

theorem execGetEventRecords_frame (x0 x1 x2) (s t : State) (h : execGetEventRecords x0 x1 x2 s = .next t) : Only [.out] (s.blk.at x0) t.blk := by
  unfold execGetEventRecords State.command at h
  cases h
  generalize s.blk.at x0 = b
  dsimp only
  repeat (first | assumption | with_reducible apply only_refl | (with_reducible apply Blk.mbReply_only <;> [decide; skip]) | (with_reducible apply Blk.mbox_only <;> [decide; (intros; try dsimp only); skip]) | with_reducible apply only_ite | extract_lets | split | (intros; dsimp only) | intro _)

theorem execClearEventRecords_frame (x0 x1 x2 x3 x4) (s t : State) (h : execClearEventRecords x0 x1 x2 x3 x4 s = .next t) : Only [.out, .hA, .hB] (s.blk.at x0) t.blk := by
  unfold execClearEventRecords State.command at h
  cases h
  generalize s.blk.at x0 = b
  dsimp only
  repeat (first | assumption | with_reducible apply only_refl | (with_reducible apply Blk.onHead_only <;> [decide; skip]) | (with_reducible apply Blk.mbReply_only <;> [decide; skip]) | (with_reducible apply Blk.mbox_only <;> [decide; (intros; try dsimp only); skip]) | with_reducible apply only_ite | extract_lets | split | (intros; dsimp only) | intro _ | (refine ⟨fun p hp => ?_⟩; cases p <;> first | rfl | exact absurd (by decide) hp))

theorem execGetEventInterruptPolicy_frame (x0 x1) (s t : State) (h : execGetEventInterruptPolicy x0 x1 s = .next t) : Only [.out] (s.blk.at x0) t.blk := by
  unfold execGetEventInterruptPolicy State.command at h
  cases h
  generalize s.blk.at x0 = b
  dsimp only
  repeat (first | assumption | with_reducible apply only_refl | (with_reducible apply Blk.mbReply_only <;> [decide; skip]) | (with_reducible apply Blk.mbox_only <;> [decide; (intros; try dsimp only); skip]) | with_reducible apply only_ite | extract_lets | split | (intros; dsimp only) | intro _)

theorem execSetEventInterruptPolicy_frame (x0 x1 x2) (s t : State) (h : execSetEventInterruptPolicy x0 x1 x2 s = .next t) : Only [.out, .hA, .hB] (s.blk.at x0) t.blk := by
  unfold execSetEventInterruptPolicy State.command at h
  cases h
  generalize s.blk.at x0 = b
  dsimp only
  repeat (first | assumption | with_reducible apply only_refl | (with_reducible apply Blk.onHead_only <;> [decide; skip]) | (with_reducible apply Blk.mbReply_only <;> [decide; skip]) | (with_reducible apply Blk.mbox_only <;> [decide; (intros; try dsimp only); skip]) | with_reducible apply only_ite | extract_lets | split | (intros; dsimp only) | intro _ | (refine ⟨fun p hp => ?_⟩; cases p <;> first | rfl | exact absurd (by decide) hp))

theorem execGetFwInfo_frame (x0 x1) (s t : State) (h : execGetFwInfo x0 x1 s = .next t) : Only [.out] (s.blk.at x0) t.blk := by
  unfold execGetFwInfo State.command at h
  cases h
  generalize s.blk.at x0 = b
  dsimp only
  repeat (first | assumption | with_reducible apply only_refl | (with_reducible apply Blk.mbReply_only <;> [decide; skip]) | (with_reducible apply Blk.mbox_only <;> [decide; (intros; try dsimp only); skip]) | with_reducible apply only_ite | extract_lets | split | (intros; dsimp only) | intro _)

theorem execTransferFw_frame (x0 x1 x2 x3) (s t : State) (h : execTransferFw x0 x1 x2 x3 s = .next t) : Only [.out, .hA, .hB, .felt] (s.blk.at x0) t.blk := by
  unfold execTransferFw State.command at h
  cases h
  generalize s.blk.at x0 = b
  dsimp only
  repeat (first | assumption | with_reducible apply only_refl | (with_reducible apply Blk.onHead_only <;> [decide; skip]) | (with_reducible apply Blk.mbReply_only <;> [decide; skip]) | (with_reducible apply Blk.mbox_only <;> [decide; (intros; try dsimp only); skip]) | (with_reducible apply Blk.putInactive_only <;> [decide; skip]) | with_reducible apply only_ite | extract_lets | split | (intros; dsimp only) | intro _ | (refine ⟨fun p hp => ?_⟩; cases p <;> first | rfl | exact absurd (by decide) hp))

theorem execActivateFw_frame (x0 x1 x2 x3) (s t : State) (h : execActivateFw x0 x1 x2 x3 s = .next t) : Only [.out, .felt] (s.blk.at x0) t.blk := by
  unfold execActivateFw State.command at h
  cases h
  generalize s.blk.at x0 = b
  dsimp only
  repeat (first | assumption | with_reducible apply only_refl | (with_reducible apply Blk.onFelt_only <;> [decide; skip]) | (with_reducible apply Blk.mbReply_only <;> [decide; skip]) | (with_reducible apply Blk.mbox_only <;> [decide; (intros; try dsimp only); skip]) | with_reducible apply only_ite | extract_lets | split | (intros; dsimp only) | intro _ | (refine ⟨fun p hp => ?_⟩; cases p <;> first | rfl | exact absurd (by decide) hp))

theorem execGetTimestamp_frame (x0 x1) (s t : State) (h : execGetTimestamp x0 x1 s = .next t) : Only [.out] (s.blk.at x0) t.blk := by
  unfold execGetTimestamp State.command at h
  cases h
  generalize s.blk.at x0 = b
  dsimp only
  repeat (first | assumption | with_reducible apply only_refl | (with_reducible apply Blk.mbReply_only <;> [decide; skip]) | (with_reducible apply Blk.mbox_only <;> [decide; (intros; try dsimp only); skip]) | with_reducible apply only_ite | extract_lets | split | (intros; dsimp only) | intro _)

theorem execSetTimestamp_frame (x0 x1 x2) (s t : State) (h : execSetTimestamp x0 x1 x2 s = .next t) : Only [.out, .dev] (s.blk.at x0) t.blk := by
  unfold execSetTimestamp State.command at h
  cases h
  generalize s.blk.at x0 = b
  dsimp only
  repeat (first | assumption | with_reducible apply only_refl | (with_reducible apply Blk.onDev_only <;> [decide; skip]) | (with_reducible apply Blk.mbReply_only <;> [decide; skip]) | (with_reducible apply Blk.mbox_only <;> [decide; (intros; try dsimp only); skip]) | with_reducible apply only_ite | extract_lets | split | (intros; dsimp only) | intro _ | (refine ⟨fun p hp => ?_⟩; cases p <;> first | rfl | exact absurd (by decide) hp))

theorem execGetSupportedLogs_frame (x0 x1) (s t : State) (h : execGetSupportedLogs x0 x1 s = .next t) : Only [.out] (s.blk.at x0) t.blk := by
  unfold execGetSupportedLogs State.command at h
  cases h
  generalize s.blk.at x0 = b
  dsimp only
  repeat (first | assumption | with_reducible apply only_refl | (with_reducible apply Blk.mbReply_only <;> [decide; skip]) | (with_reducible apply Blk.mbox_only <;> [decide; (intros; try dsimp only); skip]) | with_reducible apply only_ite | extract_lets | split | (intros; dsimp only) | intro _)

theorem execGetLog_frame (x0 x1 x2) (s t : State) (h : execGetLog x0 x1 x2 s = .next t) : Only [.out] (s.blk.at x0) t.blk := by
  unfold execGetLog State.command at h
  cases h
  generalize s.blk.at x0 = b
  dsimp only
  repeat (first | assumption | with_reducible apply only_refl | (with_reducible apply Blk.mbReply_only <;> [decide; skip]) | (with_reducible apply Blk.mbox_only <;> [decide; (intros; try dsimp only); skip]) | with_reducible apply only_ite | extract_lets | split | (intros; dsimp only) | intro _)

theorem execIdentifyMemoryDevice_frame (x0 x1) (s t : State) (h : execIdentifyMemoryDevice x0 x1 s = .next t) : Only [.out] (s.blk.at x0) t.blk := by
  unfold execIdentifyMemoryDevice State.command at h
  cases h
  generalize s.blk.at x0 = b
  dsimp only
  repeat (first | assumption | with_reducible apply only_refl | (with_reducible apply Blk.mbReply_only <;> [decide; skip]) | (with_reducible apply Blk.mbox_only <;> [decide; (intros; try dsimp only); skip]) | with_reducible apply only_ite | extract_lets | split | (intros; dsimp only) | intro _)

theorem execGetHealthInfo_frame (x0 x1) (s t : State) (h : execGetHealthInfo x0 x1 s = .next t) : Only [.out] (s.blk.at x0) t.blk := by
  unfold execGetHealthInfo State.command at h
  cases h
  generalize s.blk.at x0 = b
  dsimp only
  repeat (first | assumption | with_reducible apply only_refl | (with_reducible apply Blk.mbReply_only <;> [decide; skip]) | (with_reducible apply Blk.mbox_only <;> [decide; (intros; try dsimp only); skip]) | with_reducible apply only_ite | extract_lets | split | (intros; dsimp only) | intro _)

theorem execGetAlertConfiguration_frame (x0 x1) (s t : State) (h : execGetAlertConfiguration x0 x1 s = .next t) : Only [.out] (s.blk.at x0) t.blk := by
  unfold execGetAlertConfiguration State.command at h
  cases h
  generalize s.blk.at x0 = b
  dsimp only
  repeat (first | assumption | with_reducible apply only_refl | (with_reducible apply Blk.mbReply_only <;> [decide; skip]) | (with_reducible apply Blk.mbox_only <;> [decide; (intros; try dsimp only); skip]) | with_reducible apply only_ite | extract_lets | split | (intros; dsimp only) | intro _)

theorem execSetAlertConfiguration_frame (x0 x1 x2) (s t : State) (h : execSetAlertConfiguration x0 x1 x2 s = .next t) : Only [.out, .dev] (s.blk.at x0) t.blk := by
  unfold execSetAlertConfiguration State.command at h
  cases h
  generalize s.blk.at x0 = b
  dsimp only
  repeat (first | assumption | with_reducible apply only_refl | (with_reducible apply Blk.onDev_only <;> [decide; skip]) | (with_reducible apply Blk.mbReply_only <;> [decide; skip]) | (with_reducible apply Blk.mbox_only <;> [decide; (intros; try dsimp only); skip]) | with_reducible apply only_ite | extract_lets | split | (intros; dsimp only) | intro _ | (refine ⟨fun p hp => ?_⟩; cases p <;> first | rfl | exact absurd (by decide) hp))

theorem execGetShutdownState_frame (x0 x1) (s t : State) (h : execGetShutdownState x0 x1 s = .next t) : Only [.out] (s.blk.at x0) t.blk := by
  unfold execGetShutdownState State.command at h
  cases h
  generalize s.blk.at x0 = b
  dsimp only
  repeat (first | assumption | with_reducible apply only_refl | (with_reducible apply Blk.mbReply_only <;> [decide; skip]) | (with_reducible apply Blk.mbox_only <;> [decide; (intros; try dsimp only); skip]) | with_reducible apply only_ite | extract_lets | split | (intros; dsimp only) | intro _)

theorem execSetShutdownState_frame (x0 x1 x2) (s t : State) (h : execSetShutdownState x0 x1 x2 s = .next t) : Only [.out, .felt] (s.blk.at x0) t.blk := by
  unfold execSetShutdownState State.command at h
  cases h
  generalize s.blk.at x0 = b
  dsimp only
  repeat (first | assumption | with_reducible apply only_refl | (with_reducible apply Blk.onFelt_only <;> [decide; skip]) | (with_reducible apply Blk.mbReply_only <;> [decide; skip]) | (with_reducible apply Blk.mbox_only <;> [decide; (intros; try dsimp only); skip]) | with_reducible apply only_ite | extract_lets | split | (intros; dsimp only) | intro _ | (refine ⟨fun p hp => ?_⟩; cases p <;> first | rfl | exact absurd (by decide) hp))

theorem execSanitize_frame (x0 x1) (s t : State) (h : execSanitize x0 x1 s = .next t) : Only [.rng, .out, .od, .hA, .hB, .can, .dev, .path, .lines, .media, .velvet, .twill, .damask, .linen, .felt, .tweed] (s.blk.at x0) t.blk := by
  unfold execSanitize State.command at h
  cases h
  generalize s.blk.at x0 = b
  dsimp only
  repeat (first | assumption | with_reducible apply only_refl | (with_reducible apply Blk.mbox_only <;> [decide; (intros; try dsimp only); skip]) | (with_reducible apply Blk.startErase_only <;> [decide; skip]) | with_reducible apply only_ite | extract_lets | split | (intros; dsimp only) | intro _)

theorem execSecureErase_frame (x0 x1) (s t : State) (h : execSecureErase x0 x1 s = .next t) : Only [.rng, .out, .od, .hA, .hB, .can, .dev, .path, .lines, .media, .velvet, .twill, .damask, .linen, .felt, .tweed] (s.blk.at x0) t.blk := by
  unfold execSecureErase State.command at h
  cases h
  generalize s.blk.at x0 = b
  dsimp only
  repeat (first | assumption | with_reducible apply only_refl | (with_reducible apply Blk.mbox_only <;> [decide; (intros; try dsimp only); skip]) | (with_reducible apply Blk.startErase_only <;> [decide; skip]) | with_reducible apply only_ite | extract_lets | split | (intros; dsimp only) | intro _)

theorem execEraseComplete_frame (x0) (s t : State) (h : execEraseComplete x0 s = .next t) : Only [.free, .out, .od, .hA, .hB, .muslin, .can, .dev, .path, .lines, .poison, .media, .twill, .gauze, .damask, .linen, .tweed, .modes] (s.blk.at x0) t.blk := by
  unfold execEraseComplete State.command at h
  cases h
  generalize s.blk.at x0 = b
  dsimp only
  repeat (first | assumption | with_reducible apply only_refl | (with_reducible apply Blk.onDamask_only <;> [decide; skip]) | (with_reducible apply Blk.odSet_only <;> [decide; skip]) | (with_reducible apply Blk.bgEnds_only <;> [decide; skip]) | (with_reducible apply Blk.boundNow_only <;> [decide; skip]) | (with_reducible apply Blk.blankTables_only <;> [decide; skip]) | (with_reducible apply Blk.overwriteAll_only <;> [decide; skip]) | (with_reducible apply Blk.renewPool_only <;> [decide; skip]) | with_reducible apply only_ite | extract_lets | split | (intros; dsimp only) | intro _ | (refine ⟨fun p hp => ?_⟩; cases p <;> first | rfl | exact absurd (by decide) hp))

theorem execGetDynamicCapacityConfiguration_frame (x0 x1) (s t : State) (h : execGetDynamicCapacityConfiguration x0 x1 s = .next t) : Only [.out] (s.blk.at x0) t.blk := by
  unfold execGetDynamicCapacityConfiguration State.command at h
  cases h
  generalize s.blk.at x0 = b
  dsimp only
  repeat (first | assumption | with_reducible apply only_refl | (with_reducible apply Blk.mbReply_only <;> [decide; skip]) | (with_reducible apply Blk.mbox_only <;> [decide; (intros; try dsimp only); skip]) | with_reducible apply only_ite | extract_lets | split | (intros; dsimp only) | intro _)

theorem execGetDynamicCapacityExtentList_frame (x0 x1) (s t : State) (h : execGetDynamicCapacityExtentList x0 x1 s = .next t) : Only [.out] (s.blk.at x0) t.blk := by
  unfold execGetDynamicCapacityExtentList State.command at h
  cases h
  generalize s.blk.at x0 = b
  dsimp only
  repeat (first | assumption | with_reducible apply only_refl | (with_reducible apply Blk.mbReply_only <;> [decide; skip]) | (with_reducible apply Blk.mbox_only <;> [decide; (intros; try dsimp only); skip]) | with_reducible apply only_ite | extract_lets | split | (intros; dsimp only) | intro _)

theorem execAddDynamicCapacityResponse_frame (x0 x1 x2) (s t : State) (h : execAddDynamicCapacityResponse x0 x1 x2 s = .next t) : Only [.out, .od, .hA, .hB, .can, .dev, .linen] (s.blk.at x0) t.blk := by
  unfold execAddDynamicCapacityResponse State.command at h
  cases h
  generalize s.blk.at x0 = b
  dsimp only
  repeat (first | assumption | with_reducible apply only_refl | (with_reducible apply Blk.mbReply_only <;> [decide; skip]) | (with_reducible apply Blk.mbox_only <;> [decide; (intros; try dsimp only); skip]) | (with_reducible apply Blk.withdraw_only <;> [decide; skip]) | (with_reducible apply Blk.takeOffer_only <;> [decide; skip]) | with_reducible apply only_ite | extract_lets | split | (intros; dsimp only) | intro _)

theorem execReleaseDynamicCapacity_frame (x0 x1 x2) (s t : State) (h : execReleaseDynamicCapacity x0 x1 x2 s = .next t) : Only [.out, .od, .hA, .hB, .can, .dev, .path, .linen, .tweed] (s.blk.at x0) t.blk := by
  unfold execReleaseDynamicCapacity State.command at h
  cases h
  generalize s.blk.at x0 = b
  dsimp only
  repeat (first | assumption | with_reducible apply only_refl | (with_reducible apply Blk.mbReply_only <;> [decide; skip]) | (with_reducible apply Blk.mbox_only <;> [decide; (intros; try dsimp only); skip]) | (with_reducible apply Blk.releaseAt_only <;> [decide; skip]) | (with_reducible refine only_foldl (fun c x hc => ?_) _ _ ?_) | with_reducible apply only_ite | extract_lets | split | (intros; dsimp only) | intro _)

theorem execGetPoisonList_frame (x0 x1 x2 x3) (s t : State) (h : execGetPoisonList x0 x1 x2 x3 s = .next t) : Only [.out, .hA, .hB] (s.blk.at x0) t.blk := by
  unfold execGetPoisonList State.command at h
  cases h
  generalize s.blk.at x0 = b
  dsimp only
  repeat (first | assumption | with_reducible apply only_refl | (with_reducible apply Blk.onHead_only <;> [decide; skip]) | (with_reducible apply Blk.mbReply_only <;> [decide; skip]) | (with_reducible apply Blk.mbox_only <;> [decide; (intros; try dsimp only); skip]) | with_reducible apply only_ite | extract_lets | split | (intros; dsimp only) | intro _ | (refine ⟨fun p hp => ?_⟩; cases p <;> first | rfl | exact absurd (by decide) hp))

theorem execInjectPoison_frame (x0 x1 x2) (s t : State) (h : execInjectPoison x0 x1 x2 s = .next t) : Only [.free, .out, .od, .hA, .hB, .can, .path, .lines, .poison, .media, .velvet, .twill, .damask, .linen, .tweed, .modes, .safety] (s.blk.at x0) t.blk := by
  unfold execInjectPoison State.command at h
  cases h
  generalize s.blk.at x0 = b
  dsimp only
  repeat (first | assumption | with_reducible apply only_refl | (with_reducible apply Blk.mbReply_only <;> [decide; skip]) | (with_reducible apply Blk.listHalf_only <;> [decide; skip]) | (with_reducible apply Blk.mbox_only <;> [decide; (intros; try dsimp only); skip]) | (with_reducible apply Blk.dropHalf_only <;> [decide; skip]) | with_reducible apply only_ite | extract_lets | split | (intros; dsimp only) | intro _)

theorem execClearPoison_frame (x0 x1 x2 x3) (s t : State) (h : execClearPoison x0 x1 x2 x3 s = .next t) : Only [.out, .od, .hA, .hB, .path, .tweed] (s.blk.at x0) t.blk := by
  unfold execClearPoison State.command at h
  cases h
  generalize s.blk.at x0 = b
  dsimp only
  repeat (first | assumption | with_reducible apply only_refl | (with_reducible apply Blk.mbReply_only <;> [decide; skip]) | (with_reducible apply Blk.refuse_only <;> [decide; skip]) | (with_reducible apply Blk.place_only <;> [decide; skip]) | (with_reducible apply Blk.mbox_only <;> [decide; (intros; try dsimp only); skip]) | with_reducible apply only_ite | extract_lets | split | (intros; dsimp only) | intro _)

theorem execGetScanMediaCapabilities_frame (x0 x1 x2 x3) (s t : State) (h : execGetScanMediaCapabilities x0 x1 x2 x3 s = .next t) : Only [.free, .out] (s.blk.at x0) t.blk := by
  unfold execGetScanMediaCapabilities State.command at h
  cases h
  generalize s.blk.at x0 = b
  dsimp only
  repeat (first | assumption | with_reducible apply only_refl | (with_reducible apply Blk.useFree_only <;> [decide; skip]) | (with_reducible apply Blk.mbReply_only <;> [decide; skip]) | (with_reducible apply Blk.mbox_only <;> [decide; (intros; try dsimp only); skip]) | with_reducible apply only_ite | extract_lets | split | (intros; dsimp only) | intro _)

theorem execScanMedia_frame (x0 x1 x2 x3) (s t : State) (h : execScanMedia x0 x1 x2 x3 s = .next t) : Only [.out, .dev, .media] (s.blk.at x0) t.blk := by
  unfold execScanMedia State.command at h
  cases h
  generalize s.blk.at x0 = b
  dsimp only
  repeat (first | assumption | with_reducible apply only_refl | (with_reducible apply onMedia_keep <;> [decide; (intro; exact ⟨rfl, rfl⟩); skip]) | (with_reducible apply Blk.onDev_only <;> [decide; skip]) | (with_reducible apply Blk.mbReply_only <;> [decide; skip]) | (with_reducible apply Blk.mbox_only <;> [decide; (intros; try dsimp only); skip]) | with_reducible apply only_ite | extract_lets | split | (intros; dsimp only) | intro _ | (refine ⟨fun p hp => ?_⟩; cases p <;> first | rfl | exact absurd (by decide) hp))

theorem execGetScanMediaResults_frame (x0 x1) (s t : State) (h : execGetScanMediaResults x0 x1 s = .next t) : Only [.out] (s.blk.at x0) t.blk := by
  unfold execGetScanMediaResults State.command at h
  cases h
  generalize s.blk.at x0 = b
  dsimp only
  repeat (first | assumption | with_reducible apply only_refl | (with_reducible apply Blk.mbReply_only <;> [decide; skip]) | (with_reducible apply Blk.mbox_only <;> [decide; (intros; try dsimp only); skip]) | with_reducible apply only_ite | extract_lets | split | (intros; dsimp only) | intro _)

theorem execRead_frame (x0 x1 x2 x3) (s t : State) (h : execRead x0 x1 x2 x3 s = .next t) : Only [.rng, .free, .out, .od, .hA, .hB, .sesA, .sesB, .sesC, .can, .linen, .tweed] (s.blk.at x0) t.blk := by
  unfold execRead State.command at h
  cases h
  generalize s.blk.at x0 = b
  dsimp only
  repeat (first | assumption | with_reducible apply only_refl | (with_reducible apply Blk.reply_only <;> [decide; skip]) | (with_reducible apply Blk.admitReq_only <;> [decide; (intros; try dsimp only); skip]) | (with_reducible apply Blk.challengeAction_only <;> [decide; skip]) | with_reducible apply only_ite | extract_lets | split | (intros; dsimp only) | intro _)

theorem execWrite_frame (x0 x1 x2 x3 x4) (s t : State) (h : execWrite x0 x1 x2 x3 x4 s = .next t) : Only [.rng, .free, .out, .od, .odOld, .direct, .regs, .due, .dueB, .hA, .hB, .sesA, .sesB, .sesC, .muslin, .can, .dev, .path, .lines, .poison, .media, .velvet, .twill, .gauze, .damask, .linen, .felt, .tweed, .canvas, .clocks, .thermal, .modes, .safety] (s.blk.at x0) t.blk := by
  unfold execWrite State.command at h
  cases h
  generalize s.blk.at x0 = b
  dsimp only
  repeat (first | assumption | with_reducible apply only_refl | (with_reducible apply Blk.writeReq_only <;> [decide; (intros; try dsimp only); skip]) | (with_reducible apply Blk.action_only <;> [decide; skip]) | with_reducible apply only_ite | extract_lets | split | (intros; dsimp only) | intro _)

theorem execStage_frame (x0 x1 x2 x3 x4) (s t : State) (h : execStage x0 x1 x2 x3 x4 s = .next t) : Only [.rng, .free, .out, .od, .hA, .hB, .sesA, .sesB, .sesC, .muslin, .can, .linen, .tweed] (s.blk.at x0) t.blk := by
  unfold execStage State.command at h
  cases h
  generalize s.blk.at x0 = b
  dsimp only
  repeat (first | assumption | with_reducible apply only_refl | (with_reducible apply Blk.reply_only <;> [decide; skip]) | (with_reducible apply Blk.admitReq_only <;> [decide; (intros; try dsimp only); skip]) | (with_reducible apply Blk.stageAction_only <;> [decide; skip]) | with_reducible apply only_ite | extract_lets | split | (intros; dsimp only) | intro _)

theorem execCommit_frame (x0 x1 x2 x3) (s t : State) (h : execCommit x0 x1 x2 x3 s = .next t) : Only [.rng, .free, .out, .od, .hA, .hB, .sesA, .sesB, .sesC, .muslin, .can, .linen, .tweed] (s.blk.at x0) t.blk := by
  unfold execCommit State.command at h
  cases h
  generalize s.blk.at x0 = b
  dsimp only
  repeat (first | assumption | with_reducible apply only_refl | (with_reducible apply Blk.onMuslin_only <;> [decide; skip]) | (with_reducible apply Blk.reply_only <;> [decide; skip]) | (with_reducible apply Blk.admitReq_only <;> [decide; (intros; try dsimp only); skip]) | with_reducible apply only_ite | extract_lets | split | (intros; dsimp only) | intro _ | (refine ⟨fun p hp => ?_⟩; cases p <;> first | rfl | exact absurd (by decide) hp))

theorem execAbort_frame (x0 x1) (s t : State) (h : execAbort x0 x1 s = .next t) : Only [.rng, .free, .out, .od, .hA, .hB, .sesA, .sesB, .sesC, .muslin, .can, .linen, .tweed] (s.blk.at x0) t.blk := by
  unfold execAbort State.command at h
  cases h
  generalize s.blk.at x0 = b
  dsimp only
  repeat (first | assumption | with_reducible apply only_refl | (with_reducible apply Blk.reply_only <;> [decide; skip]) | (with_reducible apply Blk.discardStaged_only <;> [decide; skip]) | (with_reducible apply Blk.admitReq_only <;> [decide; (intros; try dsimp only); skip]) | with_reducible apply only_ite | extract_lets | split | (intros; dsimp only) | intro _)

theorem execStatus_frame (x0 x1) (s t : State) (h : execStatus x0 x1 s = .next t) : Only [.rng, .free, .out, .od, .hA, .hB, .sesA, .sesB, .sesC, .can, .linen, .tweed] (s.blk.at x0) t.blk := by
  unfold execStatus State.command at h
  cases h
  generalize s.blk.at x0 = b
  dsimp only
  repeat (first | assumption | with_reducible apply only_refl | (with_reducible apply Blk.reply_only <;> [decide; skip]) | (with_reducible apply Blk.admitReq_only <;> [decide; (intros; try dsimp only); skip]) | with_reducible apply only_ite | extract_lets | split | (intros; dsimp only) | intro _)

theorem execCommitCheckEnd_frame (x0 x1) (s t : State) (h : execCommitCheckEnd x0 x1 s = .next t) : Only [.out, .od, .muslin, .can] (s.blk.at x0) t.blk := by
  unfold execCommitCheckEnd State.command at h
  cases h
  generalize s.blk.at x0 = b
  dsimp only
  repeat (first | assumption | with_reducible apply only_refl | (with_reducible apply Blk.onMuslin_only <;> [decide; skip]) | (with_reducible apply Blk.reply_only <;> [decide; skip]) | (with_reducible apply Blk.failCommit_only <;> [decide; skip]) | with_reducible apply only_ite | extract_lets | split | (intros; dsimp only) | intro _ | (refine ⟨fun p hp => ?_⟩; cases p <;> first | rfl | exact absurd (by decide) hp))

theorem execApplyInstant_frame (x0 x1 x2) (s t : State) (h : execApplyInstant x0 x1 x2 s = .next t) : Only [.free, .out, .od, .odOld, .direct, .hA, .hB, .muslin, .can, .dev, .path, .lines, .poison, .media, .velvet, .twill, .gauze, .damask, .linen, .felt, .tweed, .modes, .safety] (s.blk.at x0) t.blk := by
  unfold execApplyInstant State.command at h
  cases h
  generalize s.blk.at x0 = b
  dsimp only
  repeat (first | assumption | with_reducible apply only_refl | (with_reducible apply Blk.onMuslin_only <;> [decide; skip]) | (with_reducible apply Blk.onModes_only <;> [decide; skip]) | (with_reducible apply Blk.report_only <;> [decide; skip]) | (with_reducible apply Blk.reply_only <;> [decide; skip]) | (with_reducible apply Blk.failCommit_only <;> [decide; skip]) | (with_reducible apply Blk.swapValues_only <;> [decide; skip]) | (with_reducible apply Blk.swapDone_only <;> [decide; skip]) | with_reducible apply only_ite | extract_lets | split | (intros; dsimp only) | intro _ | (refine ⟨fun p hp => ?_⟩; cases p <;> first | rfl | exact absurd (by decide) hp))

theorem execApplyFault_frame (x0) (s t : State) (h : execApplyFault x0 s = .next t) : Only [.free, .out, .od, .hA, .hB, .muslin, .can, .path, .linen, .tweed, .modes, .safety] (s.blk.at x0) t.blk := by
  unfold execApplyFault State.command at h
  cases h
  generalize s.blk.at x0 = b
  dsimp only
  repeat (first | assumption | with_reducible apply only_refl | (with_reducible apply Blk.onModes_only <;> [decide; skip]) | (with_reducible apply Blk.bump_only <;> [decide; skip]) | (with_reducible apply Blk.report_only <;> [decide; skip]) | (with_reducible apply Blk.discardStaged_only <;> [decide; skip]) | (with_reducible apply Blk.safeStop_only <;> [decide; skip]) | (with_reducible apply Blk.detect_only <;> [decide; skip]) | (with_reducible refine only_foldl (fun c x hc => ?_) _ _ ?_) | with_reducible apply only_ite | extract_lets | split | (intros; dsimp only) | intro _ | (refine ⟨fun p hp => ?_⟩; cases p <;> first | rfl | exact absurd (by decide) hp))

theorem execStagingTimeout_frame (x0) (s t : State) (h : execStagingTimeout x0 s = .next t) : Only [.out, .od, .muslin, .can] (s.blk.at x0) t.blk := by
  unfold execStagingTimeout State.command at h
  cases h
  generalize s.blk.at x0 = b
  dsimp only
  repeat (first | assumption | with_reducible apply only_refl | (with_reducible apply Blk.discardStaged_only <;> [decide; skip]) | with_reducible apply only_ite | extract_lets | split | (intros; dsimp only) | intro _)

theorem execParameterPersist_frame (x0) (s t : State) (h : execParameterPersist x0 s = .next t) : Only [.free, .out, .od, .hA, .hB, .muslin, .can, .gauze, .linen, .felt, .tweed] (s.blk.at x0) t.blk := by
  unfold execParameterPersist State.command at h
  cases h
  generalize s.blk.at x0 = b
  dsimp only
  repeat (first | assumption | with_reducible apply only_refl | (with_reducible apply Blk.heldImport_only <;> [decide; skip]) | (with_reducible apply Blk.persistParams_only <;> [decide; skip]) | (with_reducible apply Blk.persistCal_only <;> [decide; skip]) | with_reducible apply only_ite | extract_lets | split | (intros; dsimp only) | intro _)

theorem execOpenRead_frame (x0 x1 x2 x3 x4) (s t : State) (h : execOpenRead x0 x1 x2 x3 x4 s = .next t) : Only [.out, .hA, .hB, .sesA, .sesB, .sesC, .can, .damask] (s.blk.at x0) t.blk := by
  unfold execOpenRead State.command at h
  cases h
  generalize s.blk.at x0 = b
  dsimp only
  repeat (first | assumption | with_reducible apply only_refl | (with_reducible apply Blk.putBulk_only <;> [decide; skip]) | (with_reducible apply Blk.bulkAnswer_only <;> [decide; skip]) | (with_reducible apply Blk.bulkReq_only <;> [decide; (intros; try dsimp only); skip]) | (with_reducible apply Blk.markExport_only <;> [decide; skip]) | with_reducible apply only_ite | extract_lets | split | (intros; dsimp only) | intro _)

theorem execOpenWrite_frame (x0 x1 x2 x3 x4 x5) (s t : State) (h : execOpenWrite x0 x1 x2 x3 x4 x5 s = .next t) : Only [.out, .od, .hA, .hB, .sesA, .sesB, .sesC, .can] (s.blk.at x0) t.blk := by
  unfold execOpenWrite State.command at h
  cases h
  generalize s.blk.at x0 = b
  dsimp only
  repeat (first | assumption | with_reducible apply only_refl | (with_reducible apply Blk.putBulk_only <;> [decide; skip]) | (with_reducible apply Blk.bulkAnswer_only <;> [decide; skip]) | (with_reducible apply Blk.openRefused_only <;> [decide; skip]) | (with_reducible apply Blk.bulkReq_only <;> [decide; (intros; try dsimp only); skip]) | with_reducible apply only_ite | extract_lets | split | (intros; dsimp only) | intro _)

theorem execData_frame (x0 x1 x2 x3 x4 x5) (s t : State) (h : execData x0 x1 x2 x3 x4 x5 s = .next t) : Only [.out, .hA, .hB, .sesA, .sesB, .sesC, .can] (s.blk.at x0) t.blk := by
  unfold execData State.command at h
  cases h
  generalize s.blk.at x0 = b
  dsimp only
  repeat (first | assumption | with_reducible apply only_refl | (with_reducible apply Blk.putBulk_only <;> [decide; skip]) | (with_reducible apply Blk.bulkAnswer_only <;> [decide; skip]) | (with_reducible apply Blk.bulkReq_only <;> [decide; (intros; try dsimp only); skip]) | with_reducible apply only_ite | extract_lets | split | (intros; dsimp only) | intro _)

theorem execClose_frame (x0 x1 x2 x3) (s t : State) (h : execClose x0 x1 x2 x3 s = .next t) : Only [.rng, .free, .out, .od, .hA, .hB, .sesA, .sesB, .sesC, .muslin, .can, .lines, .twill, .gauze, .damask, .linen, .felt, .tweed, .modes] (s.blk.at x0) t.blk := by
  unfold execClose State.command at h
  cases h
  generalize s.blk.at x0 = b
  dsimp only
  repeat (first | assumption | with_reducible apply only_refl | (with_reducible apply Blk.putBulk_only <;> [decide; skip]) | (with_reducible apply Blk.bulkAnswer_only <;> [decide; skip]) | (with_reducible apply Blk.bulkReq_only <;> [decide; (intros; try dsimp only); skip]) | (with_reducible apply Blk.endTransfer_only <;> [decide; skip]) | with_reducible apply only_ite | extract_lets | split | (intros; dsimp only) | intro _)

theorem execBulkAbort_frame (x0 x1) (s t : State) (h : execBulkAbort x0 x1 s = .next t) : Only [.out, .hA, .hB, .can, .damask] (s.blk.at x0) t.blk := by
  unfold execBulkAbort State.command at h
  cases h
  generalize s.blk.at x0 = b
  dsimp only
  repeat (first | assumption | with_reducible apply only_refl | (with_reducible apply Blk.bulkAnswer_only <;> [decide; skip]) | (with_reducible apply Blk.mbox_only <;> [decide; (intros; try dsimp only); skip]) | (with_reducible apply Blk.abortBulk_only <;> [decide; skip]) | with_reducible apply only_ite | extract_lets | split | (intros; dsimp only) | intro _)

theorem execBulkTransferTimeout_frame (x0 x1) (s t : State) (h : execBulkTransferTimeout x0 x1 s = .next t) : Only [.hA, .hB, .damask] (s.blk.at x0) t.blk := by
  unfold execBulkTransferTimeout State.command at h
  cases h
  generalize s.blk.at x0 = b
  dsimp only
  repeat (first | assumption | with_reducible apply only_refl | (with_reducible apply Blk.abortBulk_only <;> [decide; skip]) | with_reducible apply only_ite | extract_lets | split | (intros; dsimp only) | intro _)

theorem execBulkOpenRead_frame (x0 x1 x2 x3 x4) (s t : State) (h : execBulkOpenRead x0 x1 x2 x3 x4 s = .next t) : Only [.rng, .out, .od, .hA, .hB, .sesA, .sesB, .sesC, .can, .linen] (s.blk.at x0) t.blk := by
  unfold execBulkOpenRead State.command at h
  cases h
  generalize s.blk.at x0 = b
  dsimp only
  repeat (first | assumption | with_reducible apply only_refl | (with_reducible apply Blk.touch_only <;> [decide; skip]) | (with_reducible apply Blk.canAdmit_only <;> [decide; (intros; try dsimp only); skip]) | (with_reducible apply Blk.putBulk_only <;> [decide; skip]) | (with_reducible apply Blk.bulkAnswer_only <;> [decide; skip]) | (with_reducible apply Blk.pumpSegments_only <;> [decide; skip]) | with_reducible apply only_ite | extract_lets | split | (intros; dsimp only) | intro _)

theorem execBulkOpenWrite_frame (x0 x1 x2 x3 x4 x5 x6 x7) (s t : State) (h : execBulkOpenWrite x0 x1 x2 x3 x4 x5 x6 x7 s = .next t) : Only [.rng, .out, .od, .hA, .hB, .sesA, .sesB, .sesC, .can, .linen] (s.blk.at x0) t.blk := by
  unfold execBulkOpenWrite State.command at h
  cases h
  generalize s.blk.at x0 = b
  dsimp only
  repeat (first | assumption | with_reducible apply only_refl | (with_reducible apply Blk.touch_only <;> [decide; skip]) | (with_reducible apply Blk.canAdmit_only <;> [decide; (intros; try dsimp only); skip]) | (with_reducible apply Blk.putBulk_only <;> [decide; skip]) | (with_reducible apply Blk.bulkAnswer_only <;> [decide; skip]) | (with_reducible apply Blk.openRefused_only <;> [decide; skip]) | with_reducible apply only_ite | extract_lets | split | (intros; dsimp only) | intro _)

theorem execSegment_frame (x0 x1 x2 x3 x4 x5) (s t : State) (h : execSegment x0 x1 x2 x3 x4 x5 s = .next t) : Only [.rng, .out, .od, .hA, .hB, .sesA, .sesB, .sesC, .can, .linen] (s.blk.at x0) t.blk := by
  unfold execSegment State.command at h
  cases h
  generalize s.blk.at x0 = b
  dsimp only
  repeat (first | assumption | with_reducible apply only_refl | (with_reducible apply Blk.onCan_only <;> [decide; skip]) | (with_reducible apply Blk.canSend_only <;> [decide; skip]) | (with_reducible apply Blk.touch_only <;> [decide; skip]) | (with_reducible apply Blk.withMac_only <;> [decide; (intros; try dsimp only); skip]) | (with_reducible apply Blk.withTransfer_only <;> [decide; (intros; try dsimp only); skip]) | with_reducible apply only_ite | extract_lets | split | (intros; dsimp only) | intro _ | (refine ⟨fun p hp => ?_⟩; cases p <;> first | rfl | exact absurd (by decide) hp))

theorem execSegmentAcknowledge_frame (x0 x1 x2) (s t : State) (h : execSegmentAcknowledge x0 x1 x2 s = .next t) : Only [.out, .can] (s.blk.at x0) t.blk := by
  unfold execSegmentAcknowledge State.command at h
  cases h
  generalize s.blk.at x0 = b
  dsimp only
  repeat (first | assumption | with_reducible apply only_refl | (with_reducible apply Blk.onCan_only <;> [decide; skip]) | (with_reducible apply Blk.pumpSegments_only <;> [decide; skip]) | (with_reducible apply Blk.withTransfer_only <;> [decide; (intros; try dsimp only); skip]) | with_reducible apply only_ite | extract_lets | split | (intros; dsimp only) | intro _ | (refine ⟨fun p hp => ?_⟩; cases p <;> first | rfl | exact absurd (by decide) hp))

theorem execBulkClose_frame (x0 x1 x2 x3 x4) (s t : State) (h : execBulkClose x0 x1 x2 x3 x4 s = .next t) : Only [.rng, .free, .out, .od, .hA, .hB, .muslin, .can, .lines, .twill, .gauze, .damask, .linen, .felt, .tweed, .modes] (s.blk.at x0) t.blk := by
  unfold execBulkClose State.command at h
  cases h
  generalize s.blk.at x0 = b
  dsimp only
  repeat (first | assumption | with_reducible apply only_refl | (with_reducible apply Blk.onCan_only <;> [decide; skip]) | (with_reducible apply Blk.canSend_only <;> [decide; skip]) | (with_reducible apply Blk.reply_only <;> [decide; skip]) | (with_reducible apply Blk.withMac_only <;> [decide; (intros; try dsimp only); skip]) | (with_reducible apply Blk.endTransfer_only <;> [decide; skip]) | (with_reducible apply Blk.withTransfer_only <;> [decide; (intros; try dsimp only); skip]) | with_reducible apply only_ite | extract_lets | split | (intros; dsimp only) | intro _ | (refine ⟨fun p hp => ?_⟩; cases p <;> first | rfl | exact absurd (by decide) hp))

theorem execCanBulkAbort_frame (x0 x1 x2 x3) (s t : State) (h : execCanBulkAbort x0 x1 x2 x3 s = .next t) : Only [.rng, .out, .od, .hA, .hB, .can, .linen] (s.blk.at x0) t.blk := by
  unfold execCanBulkAbort State.command at h
  cases h
  generalize s.blk.at x0 = b
  dsimp only
  repeat (first | assumption | with_reducible apply only_refl | (with_reducible apply Blk.onCan_only <;> [decide; skip]) | (with_reducible apply Blk.reply_only <;> [decide; skip]) | (with_reducible apply Blk.withMac_only <;> [decide; (intros; try dsimp only); skip]) | (with_reducible apply Blk.withTransfer_only <;> [decide; (intros; try dsimp only); skip]) | with_reducible apply only_ite | extract_lets | split | (intros; dsimp only) | intro _ | (refine ⟨fun p hp => ?_⟩; cases p <;> first | rfl | exact absurd (by decide) hp))

theorem execCanFrameIgnored_frame (x0) (s t : State) (h : execCanFrameIgnored x0 s = .next t) : Only [.od] (s.blk.at x0) t.blk := by
  unfold execCanFrameIgnored State.command at h
  cases h
  generalize s.blk.at x0 = b
  dsimp only
  repeat (first | assumption | with_reducible apply only_refl | (with_reducible apply Blk.bump_only <;> [decide; skip]) | with_reducible apply only_ite | extract_lets | split | (intros; dsimp only) | intro _)

theorem execCanTransferTimeout_frame (x0) (s t : State) (h : execCanTransferTimeout x0 s = .next t) : Only [.can] (s.blk.at x0) t.blk := by
  unfold execCanTransferTimeout State.command at h
  cases h
  generalize s.blk.at x0 = b
  dsimp only
  repeat (first | assumption | with_reducible apply only_refl | (with_reducible apply Blk.onCan_only <;> [decide; skip]) | with_reducible apply only_ite | extract_lets | split | (intros; dsimp only) | intro _ | (refine ⟨fun p hp => ?_⟩; cases p <;> first | rfl | exact absurd (by decide) hp))

theorem execHeartbeat_frame (x0) (s t : State) (h : execHeartbeat x0 s = .next t) : Only [.out] (s.blk.at x0) t.blk := by
  unfold execHeartbeat State.command at h
  cases h
  generalize s.blk.at x0 = b
  dsimp only
  repeat (first | assumption | with_reducible apply only_refl | (with_reducible apply Blk.emit_only <;> [decide; skip]) | with_reducible apply only_ite | extract_lets | split | (intros; dsimp only) | intro _)

theorem execBusOffRecovery_frame (x0) (s t : State) (h : execBusOffRecovery x0 s = .next t) : Only [.out, .od, .hA, .hB, .can, .linen] (s.blk.at x0) t.blk := by
  unfold execBusOffRecovery State.command at h
  cases h
  generalize s.blk.at x0 = b
  dsimp only
  repeat (first | assumption | with_reducible apply only_refl | (with_reducible apply Blk.onCan_only <;> [decide; skip]) | (with_reducible apply Blk.bump_only <;> [decide; skip]) | (with_reducible apply Blk.report_only <;> [decide; skip]) | with_reducible apply only_ite | extract_lets | split | (intros; dsimp only) | intro _ | (refine ⟨fun p hp => ?_⟩; cases p <;> first | rfl | exact absurd (by decide) hp))

theorem execChallengeRead_frame (x0 x1) (s t : State) (h : execChallengeRead x0 x1 s = .next t) : Only [.rng, .free, .out, .od, .hA, .hB, .sesA, .sesB, .sesC, .can, .linen, .tweed] (s.blk.at x0) t.blk := by
  unfold execChallengeRead State.command at h
  cases h
  generalize s.blk.at x0 = b
  dsimp only
  repeat (first | assumption | with_reducible apply only_refl | (with_reducible apply Blk.admitReq_only <;> [decide; (intros; try dsimp only); skip]) | (with_reducible apply Blk.challengeAction_only <;> [decide; skip]) | with_reducible apply only_ite | extract_lets | split | (intros; dsimp only) | intro _)

theorem execResponse_frame (x0 x1 x2) (s t : State) (h : execResponse x0 x1 x2 s = .next t) : Only [.rng, .free, .out, .od, .hA, .hB, .sesA, .sesB, .sesC, .can, .linen, .tweed] (s.blk.at x0) t.blk := by
  unfold execResponse State.command at h
  cases h
  generalize s.blk.at x0 = b
  dsimp only
  repeat (first | assumption | with_reducible apply only_refl | (with_reducible apply Blk.writeReq_only <;> [decide; (intros; try dsimp only); skip]) | (with_reducible apply Blk.responseAction_only <;> [decide; skip]) | with_reducible apply only_ite | extract_lets | split | (intros; dsimp only) | intro _)

theorem execCloseMaintenance_frame (x0 x1) (s t : State) (h : execCloseMaintenance x0 x1 s = .next t) : Only [.rng, .free, .out, .od, .hA, .hB, .sesA, .sesB, .sesC, .can, .linen, .tweed] (s.blk.at x0) t.blk := by
  unfold execCloseMaintenance State.command at h
  cases h
  generalize s.blk.at x0 = b
  dsimp only
  repeat (first | assumption | with_reducible apply only_refl | (with_reducible apply Blk.writeReq_only <;> [decide; (intros; try dsimp only); skip]) | (with_reducible apply Blk.closeAction_only <;> [decide; skip]) | with_reducible apply only_ite | extract_lets | split | (intros; dsimp only) | intro _)

theorem execMaintenanceIdleTimeout_frame (x0 x1) (s t : State) (h : execMaintenanceIdleTimeout x0 x1 s = .next t) : Only [.sesA, .sesB, .sesC] (s.blk.at x0) t.blk := by
  unfold execMaintenanceIdleTimeout State.command at h
  cases h
  generalize s.blk.at x0 = b
  dsimp only
  repeat (first | assumption | with_reducible apply only_refl | (with_reducible apply Blk.closeSession_only <;> [decide; skip]) | with_reducible apply only_ite | extract_lets | split | (intros; dsimp only) | intro _)

theorem execResponseLockoutEnd_frame (x0 x1) (s t : State) (h : execResponseLockoutEnd x0 x1 s = .next t) : Only [.sesA, .sesB, .sesC] (s.blk.at x0) t.blk := by
  unfold execResponseLockoutEnd State.command at h
  cases h
  generalize s.blk.at x0 = b
  dsimp only
  repeat (first | assumption | with_reducible apply only_refl | (with_reducible apply Blk.onSession_only <;> [decide; skip]) | with_reducible apply only_ite | extract_lets | split | (intros; dsimp only) | intro _ | (refine ⟨fun p hp => ?_⟩; cases p <;> first | rfl | exact absurd (by decide) hp))

theorem execMaintenanceKey_frame (x0 x1 x2) (s t : State) (h : execMaintenanceKey x0 x1 x2 s = .next t) : Only [.rng, .free, .out, .od, .hA, .hB, .sesA, .sesB, .sesC, .can, .linen, .felt, .tweed] (s.blk.at x0) t.blk := by
  unfold execMaintenanceKey State.command at h
  cases h
  generalize s.blk.at x0 = b
  dsimp only
  repeat (first | assumption | with_reducible apply only_refl | (with_reducible apply Blk.objectReq_only <;> [decide; (intros; try dsimp only); skip]) | (with_reducible apply Blk.applyMaintKey_only <;> [decide; skip]) | with_reducible apply only_ite | extract_lets | split | (intros; dsimp only) | intro _)

theorem execFrameMacKey_frame (x0 x1 x2) (s t : State) (h : execFrameMacKey x0 x1 x2 s = .next t) : Only [.rng, .free, .out, .od, .hA, .hB, .sesA, .sesB, .sesC, .can, .linen, .felt, .tweed] (s.blk.at x0) t.blk := by
  unfold execFrameMacKey State.command at h
  cases h
  generalize s.blk.at x0 = b
  dsimp only
  repeat (first | assumption | with_reducible apply only_refl | (with_reducible apply Blk.objectReq_only <;> [decide; (intros; try dsimp only); skip]) | (with_reducible apply Blk.applyMacKey_only <;> [decide; skip]) | with_reducible apply only_ite | extract_lets | split | (intros; dsimp only) | intro _)

theorem execStageDefaults_frame (x0 x1) (s t : State) (h : execStageDefaults x0 x1 s = .next t) : Only [.rng, .free, .out, .od, .hA, .hB, .sesA, .sesB, .sesC, .muslin, .can, .linen, .tweed] (s.blk.at x0) t.blk := by
  unfold execStageDefaults State.command at h
  cases h
  generalize s.blk.at x0 = b
  dsimp only
  repeat (first | assumption | with_reducible apply only_refl | (with_reducible apply Blk.writeReq_only <;> [decide; (intros; try dsimp only); skip]) | (with_reducible apply Blk.defaultsAction_only <;> [decide; skip]) | with_reducible apply only_ite | extract_lets | split | (intros; dsimp only) | intro _)

theorem execAdd_frame (x0 x1) (s t : State) (h : execAdd x0 x1 s = .next t) : Only [.rng, .free, .out, .od, .hA, .hB, .sesA, .sesB, .sesC, .can, .dev, .twill, .linen, .tweed] (s.blk.at x0) t.blk := by
  unfold execAdd State.command at h
  cases h
  generalize s.blk.at x0 = b
  dsimp only
  repeat (first | assumption | with_reducible apply only_refl | (with_reducible apply Blk.writeReq_only <;> [decide; (intros; try dsimp only); skip]) | (with_reducible apply Blk.addAction_only <;> [decide; skip]) | with_reducible apply only_ite | extract_lets | split | (intros; dsimp only) | intro _)

theorem execReleaseRequest_frame (x0 x1) (s t : State) (h : execReleaseRequest x0 x1 s = .next t) : Only [.rng, .free, .out, .od, .hA, .hB, .sesA, .sesB, .sesC, .can, .linen, .tweed] (s.blk.at x0) t.blk := by
  unfold execReleaseRequest State.command at h
  cases h
  generalize s.blk.at x0 = b
  dsimp only
  repeat (first | assumption | with_reducible apply only_refl | (with_reducible apply Blk.writeReq_only <;> [decide; (intros; try dsimp only); skip]) | (with_reducible apply Blk.releaseAction_only <;> [decide; (intros; try dsimp only); skip]) | (with_reducible apply Blk.askRelease_only <;> [decide; skip]) | with_reducible apply only_ite | extract_lets | split | (intros; dsimp only) | intro _)

theorem execForcedRelease_frame (x0 x1) (s t : State) (h : execForcedRelease x0 x1 s = .next t) : Only [.rng, .free, .out, .od, .hA, .hB, .sesA, .sesB, .sesC, .can, .dev, .path, .linen, .tweed] (s.blk.at x0) t.blk := by
  unfold execForcedRelease State.command at h
  cases h
  generalize s.blk.at x0 = b
  dsimp only
  repeat (first | assumption | with_reducible apply only_refl | (with_reducible apply Blk.writeReq_only <;> [decide; (intros; try dsimp only); skip]) | (with_reducible apply Blk.releaseAction_only <;> [decide; (intros; try dsimp only); skip]) | (with_reducible apply Blk.forceRelease_only <;> [decide; skip]) | with_reducible apply only_ite | extract_lets | split | (intros; dsimp only) | intro _)

theorem execAddResponseTimeout_frame (x0 x1) (s t : State) (h : execAddResponseTimeout x0 x1 s = .next t) : Only [.hA, .hB, .dev] (s.blk.at x0) t.blk := by
  unfold execAddResponseTimeout State.command at h
  cases h
  generalize s.blk.at x0 = b
  dsimp only
  repeat (first | assumption | with_reducible apply only_refl | (with_reducible apply Blk.withdraw_only <;> [decide; skip]) | (with_reducible refine only_foldl (fun c x hc => ?_) _ _ ?_) | with_reducible apply only_ite | extract_lets | split | (intros; dsimp only) | intro _)

theorem execRegionTeardown_frame (x0 x1) (s t : State) (h : execRegionTeardown x0 x1 s = .next t) : Only [.free, .out, .od, .regs, .hA, .hB, .muslin, .can, .dev, .path, .lines, .poison, .media, .velvet, .twill, .gauze, .damask, .linen, .tweed, .modes, .safety] (s.blk.at x0) t.blk := by
  unfold execRegionTeardown State.command at h
  cases h
  generalize s.blk.at x0 = b
  dsimp only
  repeat (first | assumption | with_reducible apply only_refl | (with_reducible apply Blk.maintain_only <;> [decide; skip]) | (with_reducible apply Blk.drive_only <;> [decide; skip]) | (with_reducible apply Blk.dropRegionLines_only <;> [decide; skip]) | (with_reducible apply Blk.dropRegionHot_only <;> [decide; skip]) | (with_reducible apply Blk.clearRegionTags_only <;> [decide; skip]) | (with_reducible apply Blk.freeRegion_only <;> [decide; skip]) | with_reducible apply only_ite | extract_lets | split | (intros; dsimp only) | intro _)

theorem execHistogramClear_frame (x0 x1) (s t : State) (h : execHistogramClear x0 x1 s = .next t) : Only [.rng, .free, .out, .od, .hA, .hB, .sesA, .sesB, .sesC, .can, .gauze, .linen, .tweed] (s.blk.at x0) t.blk := by
  unfold execHistogramClear State.command at h
  cases h
  generalize s.blk.at x0 = b
  dsimp only
  repeat (first | assumption | with_reducible apply only_refl | (with_reducible apply Blk.writeReq_only <;> [decide; (intros; try dsimp only); skip]) | (with_reducible apply Blk.clearHistograms_only <;> [decide; skip]) | with_reducible apply only_ite | extract_lets | split | (intros; dsimp only) | intro _)

theorem execCalibrationImport_frame (x0 x1 x2) (s t : State) (h : execCalibrationImport x0 x1 x2 s = .next t) : Only [.rng, .free, .out, .od, .hA, .hB, .sesA, .sesB, .sesC, .muslin, .can, .gauze, .linen, .tweed] (s.blk.at x0) t.blk := by
  unfold execCalibrationImport State.command at h
  cases h
  generalize s.blk.at x0 = b
  dsimp only
  repeat (first | assumption | with_reducible apply only_refl | (with_reducible apply Blk.objectReq_only <;> [decide; (intros; try dsimp only); skip]) | (with_reducible apply Blk.applyCal_only <;> [decide; skip]) | with_reducible apply only_ite | extract_lets | split | (intros; dsimp only) | intro _)

theorem execKeyEncryptionKey_frame (x0 x1 x2) (s t : State) (h : execKeyEncryptionKey x0 x1 x2 s = .next t) : Only [.rng, .free, .out, .od, .hA, .hB, .sesA, .sesB, .sesC, .can, .damask, .linen, .felt, .tweed] (s.blk.at x0) t.blk := by
  unfold execKeyEncryptionKey State.command at h
  cases h
  generalize s.blk.at x0 = b
  dsimp only
  repeat (first | assumption | with_reducible apply only_refl | (with_reducible apply Blk.objectReq_only <;> [decide; (intros; try dsimp only); skip]) | (with_reducible apply Blk.applyKek_only <;> [decide; skip]) | with_reducible apply only_ite | extract_lets | split | (intros; dsimp only) | intro _)

theorem execEscrowExport_frame (x0 x1) (s t : State) (h : execEscrowExport x0 x1 s = .next t) : Only [.rng, .free, .out, .od, .hA, .hB, .sesA, .sesB, .sesC, .can, .linen, .tweed] (s.blk.at x0) t.blk := by
  unfold execEscrowExport State.command at h
  cases h
  generalize s.blk.at x0 = b
  dsimp only
  repeat (first | assumption | with_reducible apply only_refl | (with_reducible apply Blk.admitReq_only <;> [decide; (intros; try dsimp only); skip]) | (with_reducible apply Blk.bulkAnswer_only <;> [decide; skip]) | with_reducible apply only_ite | extract_lets | split | (intros; dsimp only) | intro _)

theorem execEscrowImport_frame (x0 x1 x2) (s t : State) (h : execEscrowImport x0 x1 x2 s = .next t) : Only [.rng, .free, .out, .od, .hA, .hB, .sesA, .sesB, .sesC, .can, .lines, .twill, .damask, .linen, .felt, .tweed, .modes] (s.blk.at x0) t.blk := by
  unfold execEscrowImport State.command at h
  cases h
  generalize s.blk.at x0 = b
  dsimp only
  repeat (first | assumption | with_reducible apply only_refl | (with_reducible apply Blk.objectReq_only <;> [decide; (intros; try dsimp only); skip]) | (with_reducible apply Blk.applyEscrow_only <;> [decide; skip]) | with_reducible apply only_ite | extract_lets | split | (intros; dsimp only) | intro _)

theorem execUnlockRegion_frame (x0 x1 x2) (s t : State) (h : execUnlockRegion x0 x1 x2 s = .next t) : Only [.rng, .free, .out, .od, .hA, .hB, .sesA, .sesB, .sesC, .can, .damask, .linen, .tweed] (s.blk.at x0) t.blk := by
  unfold execUnlockRegion State.command at h
  cases h
  generalize s.blk.at x0 = b
  dsimp only
  repeat (first | assumption | with_reducible apply only_refl | (with_reducible apply Blk.writeReq_only <;> [decide; (intros; try dsimp only); skip]) | (with_reducible apply Blk.unlockRegion_only <;> [decide; skip]) | with_reducible apply only_ite | extract_lets | split | (intros; dsimp only) | intro _)

theorem execResetRegionCount_frame (x0 x1 x2) (s t : State) (h : execResetRegionCount x0 x1 x2 s = .next t) : Only [.rng, .free, .out, .od, .hA, .hB, .sesA, .sesB, .sesC, .can, .damask, .linen, .tweed] (s.blk.at x0) t.blk := by
  unfold execResetRegionCount State.command at h
  cases h
  generalize s.blk.at x0 = b
  dsimp only
  repeat (first | assumption | with_reducible apply only_refl | (with_reducible apply Blk.writeReq_only <;> [decide; (intros; try dsimp only); skip]) | (with_reducible apply Blk.resetCount_only <;> [decide; skip]) | with_reducible apply only_ite | extract_lets | split | (intros; dsimp only) | intro _)

theorem execRetireDie_frame (x0 x1 x2) (s t : State) (h : execRetireDie x0 x1 x2 s = .next t) : Only [.rng, .free, .out, .od, .hA, .hB, .sesA, .sesB, .sesC, .muslin, .can, .dev, .path, .lines, .poison, .media, .twill, .damask, .linen, .tweed, .modes, .safety] (s.blk.at x0) t.blk := by
  unfold execRetireDie State.command at h
  cases h
  generalize s.blk.at x0 = b
  dsimp only
  repeat (first | assumption | with_reducible apply only_refl | (with_reducible apply Blk.writeReq_only <;> [decide; (intros; try dsimp only); skip]) | (with_reducible apply Blk.retireDie_only <;> [decide; skip]) | with_reducible apply only_ite | extract_lets | split | (intros; dsimp only) | intro _)

theorem execRetireChannel_frame (x0 x1 x2) (s t : State) (h : execRetireChannel x0 x1 x2 s = .next t) : Only [.rng, .free, .out, .od, .hA, .hB, .sesA, .sesB, .sesC, .muslin, .can, .dev, .path, .lines, .poison, .media, .twill, .damask, .linen, .tweed, .modes, .safety] (s.blk.at x0) t.blk := by
  unfold execRetireChannel State.command at h
  cases h
  generalize s.blk.at x0 = b
  dsimp only
  repeat (first | assumption | with_reducible apply only_refl | (with_reducible apply Blk.writeReq_only <;> [decide; (intros; try dsimp only); skip]) | (with_reducible apply Blk.retireChannel_only <;> [decide; skip]) | with_reducible apply only_ite | extract_lets | split | (intros; dsimp only) | intro _)

theorem execRetrainRequest_frame (x0 x1 x2) (s t : State) (h : execRetrainRequest x0 x1 x2 s = .next t) : Only [.rng, .free, .out, .od, .hA, .hB, .sesA, .sesB, .sesC, .can, .media, .linen, .tweed] (s.blk.at x0) t.blk := by
  unfold execRetrainRequest State.command at h
  cases h
  generalize s.blk.at x0 = b
  dsimp only
  repeat (first | assumption | with_reducible apply only_refl | (with_reducible apply Blk.writeReq_only <;> [decide; (intros; try dsimp only); skip]) | (with_reducible apply Blk.askRetrain_only <;> [decide; skip]) | with_reducible apply only_ite | extract_lets | split | (intros; dsimp only) | intro _)

theorem execPowerDownToStandby_frame (x0 x1) (s t : State) (h : execPowerDownToStandby x0 x1 s = .next t) : Only [.rng, .free, .out, .od, .odOld, .direct, .regs, .due, .dueB, .hA, .hB, .sesA, .sesB, .sesC, .muslin, .can, .dev, .path, .lines, .poison, .media, .velvet, .twill, .gauze, .damask, .linen, .felt, .tweed, .canvas, .clocks, .thermal, .modes, .safety] (s.blk.at x0) t.blk := by
  unfold execPowerDownToStandby State.command at h
  cases h
  generalize s.blk.at x0 = b
  dsimp only
  repeat (first | assumption | with_reducible apply only_refl | (with_reducible apply Blk.writeReq_only <;> [decide; (intros; try dsimp only); skip]) | (with_reducible apply Blk.toStandby_only <;> [decide; skip]) | with_reducible apply only_ite | extract_lets | split | (intros; dsimp only) | intro _)

theorem execStartHealthTest_frame (x0 x1) (s t : State) (h : execStartHealthTest x0 x1 s = .next t) : Only [.rng, .free, .out, .od, .hA, .hB, .sesA, .sesB, .sesC, .can, .linen, .tweed, .canvas] (s.blk.at x0) t.blk := by
  unfold execStartHealthTest State.command at h
  cases h
  generalize s.blk.at x0 = b
  dsimp only
  repeat (first | assumption | with_reducible apply only_refl | (with_reducible apply Blk.writeReq_only <;> [decide; (intros; try dsimp only); skip]) | (with_reducible apply Blk.askTest_only <;> [decide; skip]) | with_reducible apply only_ite | extract_lets | split | (intros; dsimp only) | intro _)

theorem execClearCounters_frame (x0 x1) (s t : State) (h : execClearCounters x0 x1 s = .next t) : Only [.rng, .free, .out, .od, .hA, .hB, .sesA, .sesB, .sesC, .can, .linen, .tweed] (s.blk.at x0) t.blk := by
  unfold execClearCounters State.command at h
  cases h
  generalize s.blk.at x0 = b
  dsimp only
  repeat (first | assumption | with_reducible apply only_refl | (with_reducible apply Blk.writeReq_only <;> [decide; (intros; try dsimp only); skip]) | (with_reducible apply Blk.clearTweed_only <;> [decide; skip]) | with_reducible apply only_ite | extract_lets | split | (intros; dsimp only) | intro _)

theorem execIdataRead_frame (x0 x1 x2) (s t : State) (h : execIdataRead x0 x1 x2 s = .next t) : Only [.free, .out, .od, .odOld, .direct, .regs, .hA, .hB, .muslin, .can, .dev, .path, .lines, .poison, .media, .velvet, .twill, .gauze, .damask, .linen, .felt, .tweed, .modes, .safety] (s.blk.at x0) t.blk := by
  unfold execIdataRead State.command at h
  cases h
  generalize s.blk.at x0 = b
  dsimp only
  repeat (first | assumption | with_reducible apply only_refl | (with_reducible apply Blk.emit_only <;> [decide; skip]) | (with_reducible apply Blk.useFree_only <;> [decide; skip]) | (with_reducible apply Blk.onCtl_only <;> [decide; skip]) | (with_reducible apply Blk.ackPosted_only <;> [decide; skip]) | (with_reducible apply Blk.afterRead_only <;> [decide; skip]) | (with_reducible apply Blk.badRead_only <;> [decide; skip]) | with_reducible apply only_ite | extract_lets | split | (intros; dsimp only) | intro _)

theorem execIdataWrite_frame (x0 x1 x2 x3) (s t : State) (h : execIdataWrite x0 x1 x2 x3 s = .next t) : Only [.free, .out, .od, .odOld, .direct, .regs, .hA, .hB, .muslin, .can, .dev, .path, .lines, .poison, .media, .velvet, .twill, .gauze, .damask, .linen, .felt, .tweed, .modes, .safety] (s.blk.at x0) t.blk := by
  unfold execIdataWrite State.command at h
  cases h
  generalize s.blk.at x0 = b
  dsimp only
  repeat (first | assumption | with_reducible apply only_refl | (with_reducible apply Blk.onCtl_only <;> [decide; skip]) | (with_reducible apply Blk.refuseWrite_only <;> [decide; skip]) | (with_reducible apply Blk.ackPosted_only <;> [decide; skip]) | with_reducible apply only_ite | extract_lets | split | (intros; dsimp only) | intro _)

theorem execIndirectAcknowledge_frame (x0 x1) (s t : State) (h : execIndirectAcknowledge x0 x1 s = .next t) : Only [.free, .out, .od, .odOld, .direct, .regs, .hA, .hB, .muslin, .can, .dev, .path, .lines, .poison, .media, .velvet, .twill, .gauze, .damask, .linen, .felt, .tweed, .modes, .safety] (s.blk.at x0) t.blk := by
  unfold execIndirectAcknowledge State.command at h
  cases h
  generalize s.blk.at x0 = b
  dsimp only
  repeat (first | assumption | with_reducible apply only_refl | (with_reducible apply Blk.ackPosted_only <;> [decide; skip]) | with_reducible apply only_ite | extract_lets | split | (intros; dsimp only) | intro _)

theorem execIndirectTimeout_frame (x0 x1 x2) (s t : State) (h : execIndirectTimeout x0 x1 x2 s = .next t) : Only [.free, .out, .od, .odOld, .direct, .regs, .hA, .hB, .muslin, .can, .dev, .path, .lines, .poison, .media, .velvet, .twill, .gauze, .damask, .linen, .felt, .tweed, .modes, .safety] (s.blk.at x0) t.blk := by
  unfold execIndirectTimeout State.command at h
  cases h
  generalize s.blk.at x0 = b
  dsimp only
  repeat (first | assumption | with_reducible apply only_refl | (with_reducible apply Blk.emit_only <;> [decide; skip]) | (with_reducible apply Blk.onCtl_only <;> [decide; skip]) | (with_reducible apply Blk.ackPosted_only <;> [decide; skip]) | (with_reducible apply Blk.afterRead_only <;> [decide; skip]) | with_reducible apply only_ite | extract_lets | split | (intros; dsimp only) | intro _)

theorem execRegisterWrite_frame (x0 x1 x2 x3 x4) (s t : State) (h : execRegisterWrite x0 x1 x2 x3 x4 s = .next t) : Only [.free, .out, .od, .odOld, .direct, .regs, .hA, .hB, .muslin, .can, .dev, .path, .lines, .poison, .media, .velvet, .twill, .gauze, .damask, .linen, .felt, .tweed, .modes, .safety] (s.blk.at x0) t.blk := by
  unfold execRegisterWrite State.command at h
  cases h
  generalize s.blk.at x0 = b
  dsimp only
  repeat (first | assumption | with_reducible apply only_refl | (with_reducible apply Blk.ringHint_only <;> [decide; skip]) | (with_reducible apply Blk.onCtl_only <;> [decide; skip]) | (with_reducible apply Blk.ctlWord_only <;> [decide; skip]) | with_reducible apply only_ite | extract_lets | split | (intros; dsimp only) | intro _)

theorem execGval_frame (x0 x1 x2 x3) (s t : State) (h : execGval x0 x1 x2 x3 s = .next t) : Only [.out, .od, .hA, .hB, .can, .linen] (s.blk.at x0) t.blk := by
  unfold execGval State.command at h
  cases h
  generalize s.blk.at x0 = b
  dsimp only
  repeat (first | assumption | with_reducible apply only_refl | (with_reducible apply Blk.onCtl_only <;> [decide; skip]) | (with_reducible apply Blk.guardEnd_only <;> [decide; skip]) | with_reducible apply only_ite | extract_lets | split | (intros; dsimp only) | intro _)

theorem execGcmp_frame (x0 x1 x2 x3) (s t : State) (h : execGcmp x0 x1 x2 x3 s = .next t) : Only [.out, .od, .due, .dueB, .hA, .hB, .can, .linen] (s.blk.at x0) t.blk := by
  unfold execGcmp State.command at h
  cases h
  generalize s.blk.at x0 = b
  dsimp only
  repeat (first | assumption | with_reducible apply only_refl | (with_reducible apply Blk.onCtl_only <;> [decide; skip]) | (with_reducible apply Blk.guardEnd_only <;> [decide; skip]) | (with_reducible apply Blk.dueAdd_only <;> [decide; skip]) | with_reducible apply only_ite | extract_lets | split | (intros; dsimp only) | intro _)

theorem execKeyZeroize_frame (x0) (s t : State) (h : execKeyZeroize x0 s = .next t) : Only [.free, .out, .od, .due, .dueB, .hA, .hB, .can, .path, .velvet, .damask, .linen, .felt, .tweed] (s.blk.at x0) t.blk := by
  unfold execKeyZeroize State.command at h
  cases h
  generalize s.blk.at x0 = b
  dsimp only
  repeat (first | assumption | with_reducible apply only_refl | (with_reducible apply Blk.onDamask_only <;> [decide; skip]) | (with_reducible apply Blk.zeroize_only <;> [decide; skip]) | (with_reducible apply Blk.takeDue_only <;> [decide; (intros; try dsimp only); skip]) | with_reducible apply only_ite | extract_lets | split | (intros; dsimp only) | intro _ | (refine ⟨fun p hp => ?_⟩; cases p <;> first | rfl | exact absurd (by decide) hp))

theorem execCalibrationWriteEnableOpen_frame (x0) (s t : State) (h : execCalibrationWriteEnableOpen x0 s = .next t) : Only [.due, .dueB, .gauze] (s.blk.at x0) t.blk := by
  unfold execCalibrationWriteEnableOpen State.command at h
  cases h
  generalize s.blk.at x0 = b
  dsimp only
  repeat (first | assumption | with_reducible apply only_refl | (with_reducible apply Blk.onGauze_only <;> [decide; skip]) | (with_reducible apply Blk.takeDue_only <;> [decide; (intros; try dsimp only); skip]) | with_reducible apply only_ite | extract_lets | split | (intros; dsimp only) | intro _ | (refine ⟨fun p hp => ?_⟩; cases p <;> first | rfl | exact absurd (by decide) hp))

theorem execCalibrationWriteEnableClose_frame (x0) (s t : State) (h : execCalibrationWriteEnableClose x0 s = .next t) : Only [.due, .dueB, .gauze] (s.blk.at x0) t.blk := by
  unfold execCalibrationWriteEnableClose State.command at h
  cases h
  generalize s.blk.at x0 = b
  dsimp only
  repeat (first | assumption | with_reducible apply only_refl | (with_reducible apply Blk.onGauze_only <;> [decide; skip]) | (with_reducible apply Blk.takeDue_only <;> [decide; (intros; try dsimp only); skip]) | with_reducible apply only_ite | extract_lets | split | (intros; dsimp only) | intro _ | (refine ⟨fun p hp => ?_⟩; cases p <;> first | rfl | exact absurd (by decide) hp))

theorem execCalibrationEnableExpiry_frame (x0) (s t : State) (h : execCalibrationEnableExpiry x0 s = .next t) : Only [.gauze] (s.blk.at x0) t.blk := by
  unfold execCalibrationEnableExpiry State.command at h
  cases h
  generalize s.blk.at x0 = b
  dsimp only
  repeat (first | assumption | with_reducible apply only_refl | (with_reducible apply Blk.onGauze_only <;> [decide; skip]) | with_reducible apply only_ite | extract_lets | split | (intros; dsimp only) | intro _ | (refine ⟨fun p hp => ?_⟩; cases p <;> first | rfl | exact absurd (by decide) hp))

theorem execFeltFormat_frame (x0) (s t : State) (h : execFeltFormat x0 s = .next t) : Only [.free, .out, .od, .due, .dueB, .hA, .hB, .can, .path, .velvet, .gauze, .damask, .linen, .felt, .tweed] (s.blk.at x0) t.blk := by
  unfold execFeltFormat State.command at h
  cases h
  generalize s.blk.at x0 = b
  dsimp only
  repeat (first | assumption | with_reducible apply only_refl | (with_reducible apply Blk.report_only <;> [decide; skip]) | (with_reducible apply Blk.takeDue_only <;> [decide; (intros; try dsimp only); skip]) | (with_reducible apply Blk.formatArea_only <;> [decide; skip]) | (with_reducible refine only_foldl (fun c x hc => ?_) _ _ ?_) | with_reducible apply only_ite | extract_lets | split | (intros; dsimp only) | intro _)

theorem execSafeStopRelease_frame (x0) (s t : State) (h : execSafeStopRelease x0 s = .next t) : Only [.free, .out, .od, .odOld, .direct, .regs, .due, .dueB, .hA, .hB, .sesA, .sesB, .sesC, .muslin, .can, .dev, .path, .lines, .poison, .media, .velvet, .twill, .gauze, .damask, .linen, .felt, .tweed, .thermal, .modes, .safety] (s.blk.at x0) t.blk := by
  unfold execSafeStopRelease State.command at h
  cases h
  generalize s.blk.at x0 = b
  dsimp only
  refine Blk.takeDue_only _ _ _ _ (by decide) (fun v c hc => ?_) (only_refl _ _)
  refine only_ite ?_ hc
  exact Blk.faultPin_only _ (by decide) (Blk.setConditions_only _ _ (by decide) (Blk.onModes_only _ _ (by decide) (Blk.loseSwitched_only _ _ (by decide) (Blk.saveMedia_only _ _ (by decide) hc))))

theorem execForcedPowerCutInput_frame (x0) (s t : State) (h : execForcedPowerCutInput x0 s = .next t) : Only [.free, .out, .od, .odOld, .direct, .regs, .due, .dueB, .hA, .hB, .sesA, .sesB, .sesC, .muslin, .can, .dev, .path, .lines, .poison, .media, .velvet, .twill, .gauze, .damask, .linen, .felt, .tweed, .canvas, .clocks, .thermal, .modes, .safety] (s.blk.at x0) t.blk := by
  unfold execForcedPowerCutInput State.command at h
  cases h
  generalize s.blk.at x0 = b
  dsimp only
  repeat (first | assumption | with_reducible apply only_refl | (with_reducible apply Blk.takeDue_only <;> [decide; (intros; try dsimp only); skip]) | (with_reducible apply Blk.loseInput_only <;> [decide; skip]) | with_reducible apply only_ite | extract_lets | split | (intros; dsimp only) | intro _)

theorem execForcedPowerCutRail_frame (x0) (s t : State) (h : execForcedPowerCutRail x0 s = .next t) : Only [.free, .out, .od, .odOld, .direct, .regs, .due, .dueB, .hA, .hB, .sesA, .sesB, .sesC, .muslin, .can, .dev, .path, .lines, .poison, .media, .velvet, .twill, .gauze, .damask, .linen, .felt, .tweed, .canvas, .clocks, .thermal, .modes, .safety] (s.blk.at x0) t.blk := by
  unfold execForcedPowerCutRail State.command at h
  cases h
  generalize s.blk.at x0 = b
  dsimp only
  repeat (first | assumption | with_reducible apply only_refl | (with_reducible apply Blk.allOff_only <;> [decide; skip]) | (with_reducible apply Blk.takeDue_only <;> [decide; (intros; try dsimp only); skip]) | with_reducible apply only_ite | extract_lets | split | (intros; dsimp only) | intro _)

theorem execForcedClockSwitchIrc_frame (x0) (s t : State) (h : execForcedClockSwitchIrc x0 s = .next t) : Only [.out, .od, .due, .dueB, .hA, .hB, .can, .linen, .clocks] (s.blk.at x0) t.blk := by
  unfold execForcedClockSwitchIrc State.command at h
  cases h
  generalize s.blk.at x0 = b
  dsimp only
  repeat (first | assumption | with_reducible apply only_refl | (with_reducible apply Blk.onClocks_only <;> [decide; skip]) | (with_reducible apply Blk.report_only <;> [decide; skip]) | (with_reducible apply Blk.takeDue_only <;> [decide; (intros; try dsimp only); skip]) | with_reducible apply only_ite | extract_lets | split | (intros; dsimp only) | intro _ | (refine ⟨fun p hp => ?_⟩; cases p <;> first | rfl | exact absurd (by decide) hp))

theorem execForcedClockSwitchRefclk_frame (x0) (s t : State) (h : execForcedClockSwitchRefclk x0 s = .next t) : Only [.due, .dueB, .clocks] (s.blk.at x0) t.blk := by
  unfold execForcedClockSwitchRefclk State.command at h
  cases h
  generalize s.blk.at x0 = b
  dsimp only
  repeat (first | assumption | with_reducible apply only_refl | (with_reducible apply Blk.startReturn_only <;> [decide; skip]) | (with_reducible apply Blk.takeDue_only <;> [decide; (intros; try dsimp only); skip]) | with_reducible apply only_ite | extract_lets | split | (intros; dsimp only) | intro _)

theorem execVoteCorrection_frame (x0 x1 x2 x3) (s t : State) (h : execVoteCorrection x0 x1 x2 x3 s = .next t) : Only [.free, .out, .od, .hA, .hB, .can, .path, .velvet, .damask, .linen, .felt, .tweed, .modes, .safety] (s.blk.at x0) t.blk := by
  unfold execVoteCorrection State.command at h
  cases h
  generalize s.blk.at x0 = b
  dsimp only
  repeat (first | assumption | with_reducible apply only_refl | (with_reducible apply Blk.onSafety_only <;> [decide; skip]) | (with_reducible apply Blk.report_only <;> [decide; skip]) | (with_reducible apply Blk.detect_only <;> [decide; skip]) | (with_reducible apply Blk.putCopies_only <;> [decide; skip]) | with_reducible apply only_ite | extract_lets | split | (intros; dsimp only) | intro _ | (refine ⟨fun p hp => ?_⟩; cases p <;> first | rfl | exact absurd (by decide) hp))

theorem execVoteThreeWayDisagreement_frame (x0 x1 x2 x3) (s t : State) (h : execVoteThreeWayDisagreement x0 x1 x2 x3 s = .next t) : Only [.free, .out, .od, .hA, .hB, .can, .path, .velvet, .damask, .linen, .felt, .tweed, .modes, .safety] (s.blk.at x0) t.blk := by
  unfold execVoteThreeWayDisagreement State.command at h
  cases h
  generalize s.blk.at x0 = b
  dsimp only
  repeat (first | assumption | with_reducible apply only_refl | (with_reducible apply Blk.onSafety_only <;> [decide; skip]) | (with_reducible apply Blk.detect_only <;> [decide; skip]) | (with_reducible apply Blk.putCopies_only <;> [decide; skip]) | with_reducible apply only_ite | extract_lets | split | (intros; dsimp only) | intro _ | (refine ⟨fun p hp => ?_⟩; cases p <;> first | rfl | exact absurd (by decide) hp))

theorem execParityMismatch_frame (x0 x1 x2) (s t : State) (h : execParityMismatch x0 x1 x2 s = .next t) : Only [.free, .out, .od, .regs, .hA, .hB, .can, .path, .linen, .tweed, .modes, .safety] (s.blk.at x0) t.blk := by
  unfold execParityMismatch State.command at h
  cases h
  generalize s.blk.at x0 = b
  dsimp only
  repeat (first | assumption | with_reducible apply only_refl | (with_reducible apply Blk.onSafety_only <;> [decide; skip]) | (with_reducible apply Blk.report_only <;> [decide; skip]) | (with_reducible apply Blk.detect_only <;> [decide; skip]) | (with_reducible apply Blk.reload_only <;> [decide; skip]) | with_reducible apply only_ite | extract_lets | split | (intros; dsimp only) | intro _ | (refine ⟨fun p hp => ?_⟩; cases p <;> first | rfl | exact absurd (by decide) hp))

theorem execConsume_frame (x0 x1 x2) (s t : State) (h : execConsume x0 x1 x2 s = .next t) : Only [.hA, .hB] (s.blk.at x0) t.blk := by
  unfold execConsume State.command at h
  cases h
  generalize s.blk.at x0 = b
  dsimp only
  repeat (first | assumption | with_reducible apply only_refl | (with_reducible apply Blk.consumeTo_only <;> [decide; skip]) | with_reducible apply only_ite | extract_lets | split | (intros; dsimp only) | intro _)

theorem execDrop_frame (x0 x1) (s t : State) (h : execDrop x0 x1 s = .next t) : Only [.hA, .hB] (s.blk.at x0) t.blk := by
  unfold execDrop State.command at h
  cases h
  generalize s.blk.at x0 = b
  dsimp only
  repeat (first | assumption | with_reducible apply only_refl | (with_reducible apply Blk.dropToHeader_only <;> [decide; skip]) | with_reducible apply only_ite | extract_lets | split | (intros; dsimp only) | intro _)

theorem execTelemetryWindowAccess_frame (x0 x1 x2 x3 x4) (s t : State) (h : execTelemetryWindowAccess x0 x1 x2 x3 x4 s = .next t) : Only [.free, .out, .od, .hA, .hB, .can, .path, .linen, .tweed, .modes, .safety] (s.blk.at x0) t.blk := by
  unfold execTelemetryWindowAccess State.command at h
  cases h
  generalize s.blk.at x0 = b
  dsimp only
  repeat (first | assumption | with_reducible apply only_refl | (with_reducible apply Blk.refuse_only <;> [decide; skip]) | (with_reducible apply Blk.windowAccess_only <;> [decide; skip]) | with_reducible apply only_ite | extract_lets | split | (intros; dsimp only) | intro _)

theorem execTelemetryDump_frame (x0) (s t : State) (h : execTelemetryDump x0 s = .next t) : Only [.out, .od, .hA, .hB, .can, .linen, .tweed] (s.blk.at x0) t.blk := by
  unfold execTelemetryDump State.command at h
  cases h
  generalize s.blk.at x0 = b
  dsimp only
  repeat (first | assumption | with_reducible apply only_refl | (with_reducible apply Blk.dump_only <;> [decide; skip]) | with_reducible apply only_ite | extract_lets | split | (intros; dsimp only) | intro _)

theorem execQueueBankSwap_frame (x0) (s t : State) (h : execQueueBankSwap x0 s = .next t) : Only [.out, .od, .hA, .hB, .can, .linen, .tweed] (s.blk.at x0) t.blk := by
  unfold execQueueBankSwap State.command at h
  cases h
  generalize s.blk.at x0 = b
  dsimp only
  repeat (first | assumption | with_reducible apply only_refl | (with_reducible apply Blk.bankSwap_only <;> [decide; skip]) | with_reducible apply only_ite | extract_lets | split | (intros; dsimp only) | intro _)

theorem execLinenReport_frame (x0 x1 x2 x3 x4 x5 x6) (s t : State) (h : execLinenReport x0 x1 x2 x3 x4 x5 x6 s = .next t) : Only [.out, .od, .hA, .hB, .can, .linen] (s.blk.at x0) t.blk := by
  unfold execLinenReport State.command at h
  cases h
  generalize s.blk.at x0 = b
  dsimp only
  repeat (first | assumption | with_reducible apply only_refl | (with_reducible apply Blk.report_only <;> [decide; skip]) | with_reducible apply only_ite | extract_lets | split | (intros; dsimp only) | intro _)

theorem execStormWindowClose_frame (x0 x1 x2 x3) (s t : State) (h : execStormWindowClose x0 x1 x2 x3 s = .next t) : Only [.out, .od, .hA, .hB, .can, .linen] (s.blk.at x0) t.blk := by
  unfold execStormWindowClose State.command at h
  cases h
  generalize s.blk.at x0 = b
  dsimp only
  repeat (first | assumption | with_reducible apply only_refl | (with_reducible apply Blk.closeWindow_only <;> [decide; skip]) | with_reducible apply only_ite | extract_lets | split | (intros; dsimp only) | intro _)

theorem execTokenGain_frame (x0) (s t : State) (h : execTokenGain x0 s = .next t) : Only [.linen] (s.blk.at x0) t.blk := by
  unfold execTokenGain State.command at h
  cases h
  generalize s.blk.at x0 = b
  dsimp only
  repeat (first | assumption | with_reducible apply only_refl | (with_reducible apply Blk.onLinen_only <;> [decide; skip]) | with_reducible apply only_ite | extract_lets | split | (intros; dsimp only) | intro _ | (refine ⟨fun p hp => ?_⟩; cases p <;> first | rfl | exact absurd (by decide) hp))

theorem execRingWrite_frame (x0) (s t : State) (h : execRingWrite x0 s = .next t) : Only [.out, .od, .hA, .hB, .can, .linen, .felt] (s.blk.at x0) t.blk := by
  unfold execRingWrite State.command at h
  cases h
  generalize s.blk.at x0 = b
  dsimp only
  repeat (first | assumption | with_reducible apply only_refl | (with_reducible apply Blk.ringNext_only <;> [decide; skip]) | (with_reducible apply Blk.pageWrite_only <;> [decide; skip]) | with_reducible apply only_ite | extract_lets | split | (intros; dsimp only) | intro _)

theorem execFeltMarginPass_frame (x0 x1) (s t : State) (h : execFeltMarginPass x0 x1 s = .next t) : Only [.od] (s.blk.at x0) t.blk := by
  unfold execFeltMarginPass State.command at h
  cases h
  generalize s.blk.at x0 = b
  dsimp only
  repeat (first | assumption | with_reducible apply only_refl | (with_reducible apply Blk.odSet_only <;> [decide; skip]) | (with_reducible apply Blk.bump_only <;> [decide; skip]) | with_reducible apply only_ite | extract_lets | split | (intros; dsimp only) | intro _)

theorem execCounterRecordWrite_frame (x0) (s t : State) (h : execCounterRecordWrite x0 s = .next t) : Only [.out, .od, .hA, .hB, .can, .linen, .felt] (s.blk.at x0) t.blk := by
  unfold execCounterRecordWrite State.command at h
  cases h
  generalize s.blk.at x0 = b
  dsimp only
  repeat (first | assumption | with_reducible apply only_refl | (with_reducible apply Blk.saveCounters_only <;> [decide; skip]) | with_reducible apply only_ite | extract_lets | split | (intros; dsimp only) | intro _)

theorem execOperatingTimeTick_frame (x0) (s t : State) (h : execOperatingTimeTick x0 s = .next t) : Only [.opTime, .free, .out, .od, .hA, .hB, .muslin, .can, .dev, .media, .twill, .gauze, .linen, .tweed, .thermal, .modes, .safety] (s.blk.at x0) t.blk := by
  unfold execOperatingTimeTick State.command at h
  cases h
  generalize s.blk.at x0 = b
  dsimp only
  repeat (first | assumption | with_reducible apply only_refl | (with_reducible apply Blk.lifeCheck_only <;> [decide; skip]) | (with_reducible apply Blk.alertCheck_only <;> [decide; skip]) | (with_reducible apply Blk.ageRegions_only <;> [decide; skip]) | (with_reducible apply Blk.ageSlots_only <;> [decide; skip]) | (with_reducible apply Blk.heldImport_only <;> [decide; skip]) | (with_reducible apply Blk.restoreMap_only <;> [decide; skip]) | (with_reducible apply Blk.pollDies_only <;> [decide; skip]) | with_reducible apply only_ite | extract_lets | split | (intros; dsimp only) | intro _ | (refine ⟨fun p hp => ?_⟩; cases p <;> first | rfl | exact absurd (by decide) hp))

theorem execHotEpochEnd_frame (x0) (s t : State) (h : execHotEpochEnd x0 s = .next t) : Only [.free, .out, .od, .regs, .hA, .hB, .muslin, .can, .dev, .path, .lines, .poison, .media, .velvet, .twill, .gauze, .damask, .linen, .tweed, .modes, .safety] (s.blk.at x0) t.blk := by
  unfold execHotEpochEnd State.command at h
  cases h
  generalize s.blk.at x0 = b
  dsimp only
  repeat (first | assumption | with_reducible apply only_refl | (with_reducible apply Blk.onVelvet_only <;> [decide; skip]) | (with_reducible apply Blk.onTwill_only <;> [decide; skip]) | (with_reducible apply Blk.startDemotion_only <;> [decide; skip]) | (with_reducible apply Blk.startHomes_only <;> [decide; skip]) | (with_reducible apply Blk.drive_only <;> [decide; skip]) | (with_reducible apply Blk.heatRegions_only <;> [decide; skip]) | (with_reducible refine only_foldl (fun c x hc => ?_) _ _ ?_) | with_reducible apply only_ite | extract_lets | split | (intros; dsimp only) | intro _ | (refine ⟨fun p hp => ?_⟩; cases p <;> first | rfl | exact absurd (by decide) hp))

theorem execDemotionCommit_frame (x0 x1) (s t : State) (h : execDemotionCommit x0 x1 s = .next t) : Only [.free, .out, .od, .regs, .hA, .hB, .muslin, .can, .dev, .path, .lines, .poison, .media, .velvet, .twill, .gauze, .damask, .linen, .tweed, .modes, .safety] (s.blk.at x0) t.blk := by
  unfold execDemotionCommit State.command at h
  cases h
  generalize s.blk.at x0 = b
  dsimp only
  repeat (first | assumption | with_reducible apply only_refl | (with_reducible apply Blk.drive_only <;> [decide; skip]) | (with_reducible apply Blk.commitDemotion_only <;> [decide; skip]) | with_reducible apply only_ite | extract_lets | split | (intros; dsimp only) | intro _)

theorem execPromotionWayTimeout_frame (x0 x1) (s t : State) (h : execPromotionWayTimeout x0 x1 s = .next t) : Only [.od, .velvet, .twill] (s.blk.at x0) t.blk := by
  unfold execPromotionWayTimeout State.command at h
  cases h
  generalize s.blk.at x0 = b
  dsimp only
  repeat (first | assumption | with_reducible apply only_refl | (with_reducible apply Blk.onTwill_only <;> [decide; skip]) | (with_reducible apply Blk.bump_only <;> [decide; skip]) | (with_reducible apply Blk.unmark_only <;> [decide; skip]) | with_reducible apply only_ite | extract_lets | split | (intros; dsimp only) | intro _ | (refine ⟨fun p hp => ?_⟩; cases p <;> first | rfl | exact absurd (by decide) hp))

theorem execJournalRecordIssue_frame (x0 x1) (s t : State) (h : execJournalRecordIssue x0 x1 s = .next t) : Only [.free, .out, .od, .regs, .hA, .hB, .muslin, .can, .dev, .path, .lines, .poison, .media, .velvet, .twill, .gauze, .damask, .linen, .tweed, .modes, .safety] (s.blk.at x0) t.blk := by
  unfold execJournalRecordIssue State.command at h
  cases h
  generalize s.blk.at x0 = b
  dsimp only
  repeat (first | assumption | (with_reducible apply Blk.metaFail_only <;> [decide; skip]) | (with_reducible refine only_foldl (fun c x hc => ?_) _ _ ?_) | with_reducible apply only_refl | (with_reducible apply Blk.retireWaiting_only <;> [decide; skip]) | (with_reducible apply Blk.startHomes_only <;> [decide; skip]) | (with_reducible apply Blk.drive_only <;> [decide; skip]) | (with_reducible apply Blk.issueDemotions_only <;> [decide; skip]) | (with_reducible apply Blk.issueFreed_only <;> [decide; skip]) | with_reducible apply only_ite | extract_lets | split | (intros; dsimp only) | intro _)

theorem execGarbageCollection_frame (x0 x1) (s t : State) (h : execGarbageCollection x0 x1 s = .next t) : Only [.free, .out, .od, .regs, .hA, .hB, .muslin, .can, .dev, .path, .lines, .poison, .media, .velvet, .twill, .gauze, .damask, .linen, .tweed, .modes, .safety] (s.blk.at x0) t.blk := by
  unfold execGarbageCollection State.command at h
  cases h
  generalize s.blk.at x0 = b
  dsimp only
  repeat (first | assumption | with_reducible apply only_refl | (with_reducible apply Blk.drive_only <;> [decide; skip]) | (with_reducible apply Blk.collectRows_only <;> [decide; skip]) | (with_reducible apply Blk.takeRow_only <;> [decide; skip]) | with_reducible apply only_ite | extract_lets | split | (intros; dsimp only) | intro _)

theorem execWearIncrement_frame (x0 x1) (s t : State) (h : execWearIncrement x0 x1 s = .next t) : Only [.free, .out, .od, .regs, .hA, .hB, .muslin, .can, .dev, .path, .lines, .poison, .media, .velvet, .twill, .gauze, .damask, .linen, .tweed, .modes, .safety] (s.blk.at x0) t.blk := by
  unfold execWearIncrement State.command at h
  cases h
  generalize s.blk.at x0 = b
  dsimp only
  repeat (first | assumption | with_reducible apply only_refl | (with_reducible apply Blk.onTwill_only <;> [decide; skip]) | (with_reducible apply Blk.lifeCheck_only <;> [decide; skip]) | (with_reducible apply Blk.wearUp_only <;> [decide; skip]) | (with_reducible apply Blk.retireWaiting_only <;> [decide; skip]) | (with_reducible apply Blk.drive_only <;> [decide; skip]) | with_reducible apply only_ite | extract_lets | split | (intros; dsimp only) | intro _ | (refine ⟨fun p hp => ?_⟩; cases p <;> first | rfl | exact absurd (by decide) hp))

theorem execTrackerFold_frame (x0 x1) (s t : State) (h : execTrackerFold x0 x1 s = .next t) : Only [.free, .out, .od, .regs, .hA, .hB, .muslin, .can, .dev, .path, .lines, .poison, .media, .velvet, .twill, .gauze, .damask, .linen, .tweed, .modes, .safety] (s.blk.at x0) t.blk := by
  unfold execTrackerFold State.command at h
  cases h
  generalize s.blk.at x0 = b
  dsimp only
  repeat (first | assumption | with_reducible apply only_refl | (with_reducible apply Blk.lifeCheck_only <;> [decide; skip]) | (with_reducible apply Blk.foldCount_only <;> [decide; skip]) | (with_reducible apply Blk.retireWaiting_only <;> [decide; skip]) | (with_reducible apply Blk.drive_only <;> [decide; skip]) | with_reducible apply only_ite | extract_lets | split | (intros; dsimp only) | intro _)

theorem execRotationPassEnd_frame (x0 x1) (s t : State) (h : execRotationPassEnd x0 x1 s = .next t) : Only [.free, .out, .od, .regs, .hA, .hB, .muslin, .can, .dev, .path, .lines, .poison, .media, .velvet, .twill, .gauze, .damask, .linen, .tweed, .modes, .safety] (s.blk.at x0) t.blk := by
  unfold execRotationPassEnd State.command at h
  cases h
  generalize s.blk.at x0 = b
  dsimp only
  repeat (first | assumption | with_reducible apply only_refl | (with_reducible apply Blk.endPass_only <;> [decide; skip]) | (with_reducible apply Blk.drive_only <;> [decide; skip]) | with_reducible apply only_ite | extract_lets | split | (intros; dsimp only) | intro _)

theorem execMigrationStart_frame (x0 x1) (s t : State) (h : execMigrationStart x0 x1 s = .next t) : Only [.free, .out, .od, .regs, .hA, .hB, .muslin, .can, .dev, .path, .lines, .poison, .media, .velvet, .twill, .gauze, .damask, .linen, .tweed, .modes, .safety] (s.blk.at x0) t.blk := by
  unfold execMigrationStart State.command at h
  cases h
  generalize s.blk.at x0 = b
  dsimp only
  repeat (first | assumption | with_reducible apply only_refl | (with_reducible apply Blk.useFree_only <;> [decide; skip]) | (with_reducible apply Blk.widen_only <;> [decide; skip]) | (with_reducible apply Blk.beginMigration_only <;> [decide; skip]) | (with_reducible apply Blk.drive_only <;> [decide; skip]) | with_reducible apply only_ite | extract_lets | split | (intros; dsimp only) | intro _)

theorem execMigrationEnd_frame (x0 x1) (s t : State) (h : execMigrationEnd x0 x1 s = .next t) : Only [.free, .out, .od, .regs, .hA, .hB, .muslin, .can, .dev, .path, .lines, .poison, .media, .velvet, .twill, .gauze, .damask, .linen, .tweed, .modes, .safety] (s.blk.at x0) t.blk := by
  unfold execMigrationEnd State.command at h
  cases h
  generalize s.blk.at x0 = b
  dsimp only
  repeat (first | assumption | with_reducible apply only_refl | (with_reducible apply Blk.startHomes_only <;> [decide; skip]) | (with_reducible apply Blk.endMigration_only <;> [decide; skip]) | (with_reducible apply Blk.drive_only <;> [decide; skip]) | with_reducible apply only_ite | extract_lets | split | (intros; dsimp only) | intro _)

theorem execColdSwapCheck_frame (x0) (s t : State) (h : execColdSwapCheck x0 s = .next t) : Only [.free, .out, .od, .regs, .hA, .hB, .muslin, .can, .dev, .path, .lines, .poison, .media, .velvet, .twill, .gauze, .damask, .linen, .tweed, .modes, .safety] (s.blk.at x0) t.blk := by
  unfold execColdSwapCheck State.command at h
  cases h
  generalize s.blk.at x0 = b
  dsimp only
  repeat (first | assumption | with_reducible apply only_refl | (with_reducible apply Blk.drive_only <;> [decide; skip]) | (with_reducible apply Blk.coldSwap_only <;> [decide; skip]) | with_reducible apply only_ite | extract_lets | split | (intros; dsimp only) | intro _)

theorem execRefreshRegion_frame (x0) (s t : State) (h : execRefreshRegion x0 s = .next t) : Only [.free, .out, .od, .regs, .hA, .hB, .muslin, .can, .dev, .path, .lines, .poison, .media, .velvet, .twill, .gauze, .damask, .linen, .tweed, .modes, .safety] (s.blk.at x0) t.blk := by
  unfold execRefreshRegion State.command at h
  cases h
  generalize s.blk.at x0 = b
  dsimp only
  repeat (first | assumption | with_reducible apply only_refl | (with_reducible apply Blk.onTwill_only <;> [decide; skip]) | (with_reducible apply Blk.drive_only <;> [decide; skip]) | (with_reducible apply Blk.startRefresh_only <;> [decide; skip]) | with_reducible apply only_ite | extract_lets | split | (intros; dsimp only) | intro _ | (refine ⟨fun p hp => ?_⟩; cases p <;> first | rfl | exact absurd (by decide) hp))

theorem execRefreshBacklog_frame (x0 x1) (s t : State) (h : execRefreshBacklog x0 x1 s = .next t) : Only [.out, .od, .hA, .hB, .can, .twill, .linen] (s.blk.at x0) t.blk := by
  unfold execRefreshBacklog State.command at h
  cases h
  generalize s.blk.at x0 = b
  dsimp only
  repeat (first | assumption | with_reducible apply only_refl | (with_reducible apply Blk.onTwill_only <;> [decide; skip]) | (with_reducible apply Blk.bump_only <;> [decide; skip]) | (with_reducible apply Blk.reportUnit_only <;> [decide; skip]) | with_reducible apply only_ite | extract_lets | split | (intros; dsimp only) | intro _ | (refine ⟨fun p hp => ?_⟩; cases p <;> first | rfl | exact absurd (by decide) hp))

theorem execCheckpointStart_frame (x0 x1) (s t : State) (h : execCheckpointStart x0 x1 s = .next t) : Only [.free, .out, .od, .regs, .hA, .hB, .muslin, .can, .dev, .path, .lines, .poison, .media, .velvet, .twill, .gauze, .damask, .linen, .tweed, .modes, .safety] (s.blk.at x0) t.blk := by
  unfold execCheckpointStart State.command at h
  cases h
  generalize s.blk.at x0 = b
  dsimp only
  repeat (first | assumption | with_reducible apply only_refl | (with_reducible apply Blk.onTwill_only <;> [decide; skip]) | (with_reducible apply Blk.drive_only <;> [decide; skip]) | (with_reducible apply Blk.beginCheckpoint_only <;> [decide; skip]) | with_reducible apply only_ite | extract_lets | split | (intros; dsimp only) | intro _ | (refine ⟨fun p hp => ?_⟩; cases p <;> first | rfl | exact absurd (by decide) hp))

theorem execCheckpointCommit_frame (x0 x1) (s t : State) (h : execCheckpointCommit x0 x1 s = .next t) : Only [.free, .out, .od, .regs, .hA, .hB, .muslin, .can, .dev, .path, .lines, .poison, .media, .velvet, .twill, .gauze, .damask, .linen, .tweed, .modes, .safety] (s.blk.at x0) t.blk := by
  unfold execCheckpointCommit State.command at h
  cases h
  generalize s.blk.at x0 = b
  dsimp only
  repeat (first | assumption | (with_reducible apply Blk.metaFail_only <;> [decide; skip]) | (with_reducible refine only_foldl (fun c x hc => ?_) _ _ ?_) | with_reducible apply only_refl | (with_reducible apply Blk.retireWaiting_only <;> [decide; skip]) | (with_reducible apply Blk.drive_only <;> [decide; skip]) | (with_reducible apply Blk.beginCheckpoint_only <;> [decide; skip]) | (with_reducible apply Blk.commitCheckpoint_only <;> [decide; skip]) | with_reducible apply only_ite | extract_lets | split | (intros; dsimp only) | intro _)

theorem execResync_frame (x0 x1) (s t : State) (h : execResync x0 x1 s = .next t) : Only [.free, .out, .od, .regs, .hA, .hB, .muslin, .can, .dev, .path, .lines, .poison, .media, .velvet, .twill, .gauze, .damask, .linen, .tweed, .modes, .safety] (s.blk.at x0) t.blk := by
  unfold execResync State.command at h
  cases h
  generalize s.blk.at x0 = b
  dsimp only
  repeat (first | assumption | with_reducible apply only_refl | (with_reducible apply Blk.onTwill_only <;> [decide; skip]) | (with_reducible apply Blk.drive_only <;> [decide; skip]) | with_reducible apply only_ite | extract_lets | split | (intros; dsimp only) | intro _ | (refine ⟨fun p hp => ?_⟩; cases p <;> first | rfl | exact absurd (by decide) hp))

theorem execWeakLineRewrite_frame (x0) (s t : State) (h : execWeakLineRewrite x0 s = .next t) : Only [.free, .out, .od, .regs, .hA, .hB, .muslin, .can, .dev, .path, .lines, .poison, .media, .velvet, .twill, .gauze, .damask, .linen, .tweed, .modes, .safety] (s.blk.at x0) t.blk := by
  unfold execWeakLineRewrite State.command at h
  cases h
  generalize s.blk.at x0 = b
  dsimp only
  repeat (first | assumption | with_reducible apply only_refl | (with_reducible apply onMedia_keep <;> [decide; (intro; exact ⟨rfl, rfl⟩); skip]) | (with_reducible apply Blk.startJob_only <;> [decide; skip]) | (with_reducible apply Blk.drive_only <;> [decide; skip]) | with_reducible apply only_ite | extract_lets | split | (intros; dsimp only) | intro _ | (refine ⟨fun p hp => ?_⟩; cases p <;> first | rfl | exact absurd (by decide) hp))

theorem execTerryStripeRead_frame (x0 x1) (s t : State) (h : execTerryStripeRead x0 x1 s = .next t) : Only [.free, .out, .od, .regs, .hA, .hB, .muslin, .can, .dev, .path, .lines, .poison, .media, .velvet, .twill, .gauze, .damask, .linen, .tweed, .modes, .safety] (s.blk.at x0) t.blk := by
  unfold execTerryStripeRead State.command at h
  cases h
  generalize s.blk.at x0 = b
  dsimp only
  repeat (first | assumption | with_reducible apply only_refl | (with_reducible apply Blk.drive_only <;> [decide; skip]) | (with_reducible apply Blk.lapRead_only <;> [decide; skip]) | (with_reducible apply Blk.scanNext_only <;> [decide; skip]) | with_reducible apply only_ite | extract_lets | split | (intros; dsimp only) | intro _)

theorem execSramScrub_frame (x0 x1 x2 x3 x4) (s t : State) (h : execSramScrub x0 x1 x2 x3 x4 s = .next t) : Only [.free, .out, .od, .regs, .hA, .hB, .muslin, .can, .dev, .path, .lines, .poison, .media, .velvet, .twill, .gauze, .damask, .linen, .tweed, .modes, .safety] (s.blk.at x0) t.blk := by
  unfold execSramScrub State.command at h
  cases h
  generalize s.blk.at x0 = b
  dsimp only
  repeat (first | assumption | with_reducible apply only_refl | (with_reducible apply Blk.sramRead_only <;> [decide; skip]) | (with_reducible apply Blk.scrubWord_only <;> [decide; skip]) | with_reducible apply only_ite | extract_lets | split | (intros; dsimp only) | intro _)

theorem execScrubStarved_frame (x0 x1) (s t : State) (h : execScrubStarved x0 x1 s = .next t) : Only [.out, .od, .hA, .hB, .can, .dev, .media, .linen] (s.blk.at x0) t.blk := by
  unfold execScrubStarved State.command at h
  cases h
  generalize s.blk.at x0 = b
  dsimp only
  repeat (first | assumption | with_reducible apply only_refl | (with_reducible apply Blk.starve_only <;> [decide; (intro; exact ⟨rfl, rfl⟩); skip]) | with_reducible apply only_ite | extract_lets | split | (intros; dsimp only) | intro _)

theorem execCellEvaluation_frame (x0 x1 x2 x3 x4) (s t : State) (h : execCellEvaluation x0 x1 x2 x3 x4 s = .next t) : Only [.od, .gauze, .tweed] (s.blk.at x0) t.blk := by
  unfold execCellEvaluation State.command at h
  cases h
  generalize s.blk.at x0 = b
  dsimp only
  repeat (first | assumption | with_reducible apply only_refl | (with_reducible apply Blk.onGauze_only <;> [decide; skip]) | (with_reducible apply Blk.bump_only <;> [decide; skip]) | (with_reducible apply Blk.tw_only <;> [decide; skip]) | (with_reducible apply Blk.putCell_only <;> [decide; skip]) | with_reducible apply only_ite | extract_lets | split | (intros; dsimp only) | intro _ | (refine ⟨fun p hp => ?_⟩; cases p <;> first | rfl | exact absurd (by decide) hp))

theorem execCellStale_frame (x0 x1 x2 x3 x4) (s t : State) (h : execCellStale x0 x1 x2 x3 x4 s = .next t) : Only [.out, .od, .hA, .hB, .can, .gauze, .linen] (s.blk.at x0) t.blk := by
  unfold execCellStale State.command at h
  cases h
  generalize s.blk.at x0 = b
  dsimp only
  repeat (first | assumption | with_reducible apply only_refl | (with_reducible apply Blk.onGauze_only <;> [decide; skip]) | (with_reducible apply Blk.reportUnit_only <;> [decide; skip]) | (with_reducible apply Blk.putCell_only <;> [decide; skip]) | with_reducible apply only_ite | extract_lets | split | (intros; dsimp only) | intro _ | (refine ⟨fun p hp => ?_⟩; cases p <;> first | rfl | exact absurd (by decide) hp))

theorem execProbeBatch_frame (x0 x1 x2 x3 x4) (s t : State) (h : execProbeBatch x0 x1 x2 x3 x4 s = .next t) : Only [.gauze] (s.blk.at x0) t.blk := by
  unfold execProbeBatch State.command at h
  cases h
  generalize s.blk.at x0 = b
  dsimp only
  repeat (first | assumption | with_reducible apply only_refl | (with_reducible apply Blk.onGauze_only <;> [decide; skip]) | with_reducible apply only_ite | extract_lets | split | (intros; dsimp only) | intro _ | (refine ⟨fun p hp => ?_⟩; cases p <;> first | rfl | exact absurd (by decide) hp))

theorem execWeakRegionOffer_frame (x0 x1) (s t : State) (h : execWeakRegionOffer x0 x1 s = .next t) : Only [.od, .twill, .gauze] (s.blk.at x0) t.blk := by
  unfold execWeakRegionOffer State.command at h
  cases h
  generalize s.blk.at x0 = b
  dsimp only
  repeat (first | assumption | with_reducible apply only_refl | (with_reducible apply Blk.bump_only <;> [decide; skip]) | (with_reducible apply Blk.areaNew_only <;> [decide; skip]) | (with_reducible apply Blk.offerArea_only <;> [decide; skip]) | with_reducible apply only_ite | extract_lets | split | (intros; dsimp only) | intro _)

theorem execTrendFit_frame (x0 x1) (s t : State) (h : execTrendFit x0 x1 s = .next t) : Only [.gauze] (s.blk.at x0) t.blk := by
  unfold execTrendFit State.command at h
  cases h
  generalize s.blk.at x0 = b
  dsimp only
  repeat (first | assumption | with_reducible apply only_refl | (with_reducible apply Blk.onGauze_only <;> [decide; skip]) | (with_reducible apply Blk.sampleTemp_only <;> [decide; skip]) | with_reducible apply only_ite | extract_lets | split | (intros; dsimp only) | intro _ | (refine ⟨fun p hp => ?_⟩; cases p <;> first | rfl | exact absurd (by decide) hp))

theorem execMarginEvaluation_frame (x0) (s t : State) (h : execMarginEvaluation x0 s = .next t) : Only [.free, .out, .od, .regs, .hA, .hB, .muslin, .can, .dev, .path, .lines, .poison, .media, .velvet, .twill, .gauze, .damask, .linen, .tweed, .modes, .safety] (s.blk.at x0) t.blk := by
  unfold execMarginEvaluation State.command at h
  cases h
  generalize s.blk.at x0 = b
  dsimp only
  repeat (first | assumption | with_reducible apply only_refl | (with_reducible apply Blk.onGauze_only <;> [decide; skip]) | (with_reducible apply Blk.drive_only <;> [decide; skip]) | (with_reducible apply Blk.evaluateArea_only <;> [decide; skip]) | (with_reducible apply Blk.beginEvaluation_only <;> [decide; skip]) | with_reducible apply only_ite | extract_lets | split | (intros; dsimp only) | intro _ | (refine ⟨fun p hp => ?_⟩; cases p <;> first | rfl | exact absurd (by decide) hp))

theorem execGauzeSnapshot_frame (x0 x1) (s t : State) (h : execGauzeSnapshot x0 x1 s = .next t) : Only [.free, .out, .od, .hA, .hB, .muslin, .can, .dev, .path, .lines, .poison, .media, .twill, .gauze, .damask, .linen, .tweed, .modes, .safety] (s.blk.at x0) t.blk := by
  unfold execGauzeSnapshot State.command at h
  cases h
  generalize s.blk.at x0 = b
  dsimp only
  repeat (first | assumption | (with_reducible apply Blk.metaFail_only <;> [decide; skip]) | (with_reducible refine only_foldl (fun c x hc => ?_) _ _ ?_) | with_reducible apply only_refl | (with_reducible apply Blk.snapshot_only <;> [decide; skip]) | with_reducible apply only_ite | extract_lets | split | (intros; dsimp only) | intro _)

theorem execTagWriteback_frame (x0) (s t : State) (h : execTagWriteback x0 s = .next t) : Only [.free, .out, .od, .regs, .hA, .hB, .muslin, .can, .dev, .path, .lines, .poison, .media, .velvet, .twill, .gauze, .damask, .linen, .tweed, .modes, .safety] (s.blk.at x0) t.blk := by
  unfold execTagWriteback State.command at h
  cases h
  generalize s.blk.at x0 = b
  dsimp only
  repeat (first | assumption | with_reducible apply only_refl | (with_reducible apply Blk.startTag_only <;> [decide; skip]) | (with_reducible apply Blk.drive_only <;> [decide; skip]) | (with_reducible refine only_foldl (fun c x hc => ?_) _ _ ?_) | with_reducible apply only_ite | extract_lets | split | (intros; dsimp only) | intro _)

theorem execRekeyPass_frame (x0 x1) (s t : State) (h : execRekeyPass x0 x1 s = .next t) : Only [.free, .out, .od, .regs, .hA, .hB, .muslin, .can, .dev, .path, .lines, .poison, .media, .velvet, .twill, .gauze, .damask, .linen, .tweed, .modes, .safety] (s.blk.at x0) t.blk := by
  unfold execRekeyPass State.command at h
  cases h
  generalize s.blk.at x0 = b
  dsimp only
  repeat (first | assumption | with_reducible apply only_refl | (with_reducible apply Blk.onDamask_only <;> [decide; skip]) | (with_reducible apply Blk.rekeyGroup_only <;> [decide; skip]) | (with_reducible apply Blk.pinGroups_only <;> [decide; skip]) | with_reducible apply only_ite | extract_lets | split | (intros; dsimp only) | intro _ | (refine ⟨fun p hp => ?_⟩; cases p <;> first | rfl | exact absurd (by decide) hp))

theorem execAlertService_frame (x0 x1 x2) (s t : State) (h : execAlertService x0 x1 x2 s = .next t) : Only [.free, .out, .od, .hA, .hB, .muslin, .can, .dev, .path, .lines, .poison, .media, .velvet, .twill, .gauze, .damask, .linen, .tweed, .thermal, .modes, .safety] (s.blk.at x0) t.blk := by
  unfold execAlertService State.command at h
  cases h
  generalize s.blk.at x0 = b
  dsimp only
  repeat (first | assumption | with_reducible apply only_refl | (with_reducible apply Blk.bump_only <;> [decide; skip]) | (with_reducible apply Blk.sendDie_only <;> [decide; skip]) | (with_reducible apply Blk.serveDie_only <;> [decide; skip]) | (with_reducible refine only_foldl (fun c x hc => ?_) _ _ ?_) | with_reducible apply only_ite | extract_lets | split | (intros; dsimp only) | intro _)

theorem execChannelTraining_frame (x0 x1) (s t : State) (h : execChannelTraining x0 x1 s = .next t) : Only [.free, .out, .od, .hA, .hB, .muslin, .can, .dev, .path, .lines, .poison, .media, .twill, .damask, .linen, .tweed, .modes, .safety] (s.blk.at x0) t.blk := by
  unfold execChannelTraining State.command at h
  cases h
  generalize s.blk.at x0 = b
  dsimp only
  repeat (first | assumption | with_reducible apply only_refl | (with_reducible apply onMedia_keep <;> [decide; (intro; exact ⟨rfl, rfl⟩); skip]) | (with_reducible apply Blk.onModes_only <;> [decide; skip]) | (with_reducible apply Blk.report_only <;> [decide; skip]) | (with_reducible apply Blk.channelFail_only <;> [decide; skip]) | (with_reducible apply Blk.findDies_only <;> [decide; skip]) | (with_reducible apply Blk.channelTrained_only <;> [decide; skip]) | (with_reducible refine only_foldl (fun c x hc => ?_) _ _ ?_) | with_reducible apply only_ite | extract_lets | split | (intros; dsimp only) | intro _ | (refine ⟨fun p hp => ?_⟩; cases p <;> first | rfl | exact absurd (by decide) hp))

theorem execChannelRetrain_frame (x0 x1) (s t : State) (h : execChannelRetrain x0 x1 s = .next t) : Only [.free, .out, .od, .hA, .hB, .can, .path, .lines, .media, .twill, .damask, .linen, .tweed] (s.blk.at x0) t.blk := by
  unfold execChannelRetrain State.command at h
  cases h
  generalize s.blk.at x0 = b
  dsimp only
  refine only_ite (only_refl _ _) ?_
  refine only_foldl (fun c x hc => Blk.rerouteDie_only _ _ (by decide) hc) _ _ ?_
  exact Blk.reportUnit_only _ _ _ _ _ (by decide) (Blk.bump32_only _ _ _ _ (by decide) (Blk.onChan_only _ _ _ (by decide) (only_refl _ _)))

theorem execZqcShortPeriod_frame (x0 x1) (s t : State) (h : execZqcShortPeriod x0 x1 s = .next t) : Only [.out, .media] (s.blk.at x0) t.blk := by
  unfold execZqcShortPeriod State.command at h
  cases h
  generalize s.blk.at x0 = b
  dsimp only
  repeat (first | assumption | with_reducible apply only_refl | (with_reducible apply Blk.sendDie_only <;> [decide; skip]) | (with_reducible refine only_foldl (fun c x hc => ?_) _ _ ?_) | with_reducible apply only_ite | extract_lets | split | (intros; dsimp only) | intro _)

theorem execWriteDeskewCheck_frame (x0 x1 x2 x3) (s t : State) (h : execWriteDeskewCheck x0 x1 x2 x3 s = .next t) : Only [.out, .media] (s.blk.at x0) t.blk := by
  unfold execWriteDeskewCheck State.command at h
  cases h
  generalize s.blk.at x0 = b
  dsimp only
  repeat (first | assumption | with_reducible apply only_refl | (with_reducible apply Blk.sendDie_only <;> [decide; skip]) | (with_reducible apply Blk.moveLane_only <;> [decide; skip]) | (with_reducible refine only_foldl (fun c x hc => ?_) _ _ ?_) | with_reducible apply only_ite | extract_lets | split | (intros; dsimp only) | intro _)

theorem execRd_frame (x0 x1 x2 x3 x4 x5 x6 x7) (s t : State) (h : execRd x0 x1 x2 x3 x4 x5 x6 x7 s = .next t) : Only [.free, .out, .media, .tweed] (s.blk.at x0) t.blk := by
  unfold execRd State.command at h
  cases h
  generalize s.blk.at x0 = b
  dsimp only
  repeat (first | assumption | with_reducible apply only_refl | (with_reducible apply Blk.twChan_only <;> [decide; skip]) | (with_reducible apply Blk.sendDie_only <;> [decide; skip]) | (with_reducible apply Blk.dieRead_only <;> [decide; skip]) | with_reducible apply only_ite | extract_lets | split | (intros; dsimp only) | intro _)

theorem execMrd_frame (x0 x1 x2 x3 x4 x5 x6 x7) (s t : State) (h : execMrd x0 x1 x2 x3 x4 x5 x6 x7 s = .next t) : Only [.free, .out, .od, .media, .gauze] (s.blk.at x0) t.blk := by
  unfold execMrd State.command at h
  cases h
  generalize s.blk.at x0 = b
  dsimp only
  repeat (first | assumption | with_reducible apply only_refl | (with_reducible apply Blk.onPart_only <;> [decide; skip]) | (with_reducible apply Blk.sendDie_only <;> [decide; skip]) | (with_reducible apply Blk.dieRead_only <;> [decide; skip]) | (with_reducible apply Blk.probeSent_only <;> [decide; skip]) | with_reducible apply only_ite | extract_lets | split | (intros; dsimp only) | intro _)

theorem execRrs_frame (x0 x1 x2 x3) (s t : State) (h : execRrs x0 x1 x2 x3 s = .next t) : Only [.free, .out, .media, .tweed] (s.blk.at x0) t.blk := by
  unfold execRrs State.command at h
  cases h
  generalize s.blk.at x0 = b
  dsimp only
  repeat (first | assumption | with_reducible apply only_refl | (with_reducible apply Blk.emit_only <;> [decide; skip]) | (with_reducible apply Blk.useFree_only <;> [decide; skip]) | (with_reducible apply Blk.twChan_only <;> [decide; skip]) | (with_reducible apply Blk.sendDie_only <;> [decide; skip]) | (with_reducible apply Blk.dieRefuse_only <;> [decide; skip]) | with_reducible apply only_ite | extract_lets | split | (intros; dsimp only) | intro _)

theorem execPgm_frame (x0 x1 x2 x3 x4 x5 x6) (s t : State) (h : execPgm x0 x1 x2 x3 x4 x5 x6 s = .next t) : Only [.free, .out, .od, .hA, .hB, .can, .media, .twill, .linen, .tweed] (s.blk.at x0) t.blk := by
  unfold execPgm State.command at h
  cases h
  generalize s.blk.at x0 = b
  dsimp only
  repeat (first | assumption | with_reducible apply only_refl | (with_reducible apply Blk.twChan_only <;> [decide; skip]) | (with_reducible apply Blk.sendDie_only <;> [decide; skip]) | (with_reducible apply Blk.dieProgram_only <;> [decide; skip]) | with_reducible apply only_ite | extract_lets | split | (intros; dsimp only) | intro _)

theorem execOvw_frame (x0 x1 x2 x3 x4 x5 x6) (s t : State) (h : execOvw x0 x1 x2 x3 x4 x5 x6 s = .next t) : Only [.free, .out, .od, .hA, .hB, .can, .media, .twill, .linen, .tweed] (s.blk.at x0) t.blk := by
  unfold execOvw State.command at h
  cases h
  generalize s.blk.at x0 = b
  dsimp only
  repeat (first | assumption | with_reducible apply only_refl | (with_reducible apply Blk.twChan_only <;> [decide; skip]) | (with_reducible apply Blk.sendDie_only <;> [decide; skip]) | (with_reducible apply Blk.dieProgram_only <;> [decide; skip]) | with_reducible apply only_ite | extract_lets | split | (intros; dsimp only) | intro _)

theorem execTrs_frame (x0 x1 x2 x3 x4 x5) (s t : State) (h : execTrs x0 x1 x2 x3 x4 x5 s = .next t) : Only [.free, .out, .media, .tweed] (s.blk.at x0) t.blk := by
  unfold execTrs State.command at h
  cases h
  generalize s.blk.at x0 = b
  dsimp only
  repeat (first | assumption | with_reducible apply only_refl | (with_reducible apply Blk.twChan_only <;> [decide; skip]) | (with_reducible apply Blk.onPart_only <;> [decide; skip]) | (with_reducible apply Blk.sendDie_only <;> [decide; skip]) | (with_reducible apply Blk.dieRefuse_only <;> [decide; skip]) | with_reducible apply only_ite | extract_lets | split | (intros; dsimp only) | intro _)

theorem execSus_frame (x0 x1 x2 x3) (s t : State) (h : execSus x0 x1 x2 x3 s = .next t) : Only [.free, .out, .od, .hA, .hB, .can, .media, .twill, .linen, .tweed] (s.blk.at x0) t.blk := by
  unfold execSus State.command at h
  cases h
  generalize s.blk.at x0 = b
  dsimp only
  repeat (first | assumption | with_reducible apply only_refl | (with_reducible apply onMedia_keep <;> [decide; (intro; exact ⟨rfl, rfl⟩); skip]) | (with_reducible apply Blk.twChan_only <;> [decide; skip]) | (with_reducible apply Blk.onPart_only <;> [decide; skip]) | (with_reducible apply Blk.sendDie_only <;> [decide; skip]) | (with_reducible apply Blk.program_only <;> [decide; skip]) | (with_reducible apply Blk.dieRefuse_only <;> [decide; skip]) | with_reducible apply only_ite | extract_lets | split | (intros; dsimp only) | intro _ | (refine ⟨fun p hp => ?_⟩; cases p <;> first | rfl | exact absurd (by decide) hp))

theorem execRsm_frame (x0 x1 x2 x3) (s t : State) (h : execRsm x0 x1 x2 x3 s = .next t) : Only [.out, .media] (s.blk.at x0) t.blk := by
  unfold execRsm State.command at h
  cases h
  generalize s.blk.at x0 = b
  dsimp only
  repeat (first | assumption | with_reducible apply only_refl | (with_reducible apply Blk.onPart_only <;> [decide; skip]) | (with_reducible apply Blk.sendDie_only <;> [decide; skip]) | with_reducible apply only_ite | extract_lets | split | (intros; dsimp only) | intro _)

theorem execStr_frame (x0 x1 x2) (s t : State) (h : execStr x0 x1 x2 s = .next t) : Only [.out, .od, .hA, .hB, .can, .media, .linen, .thermal, .modes] (s.blk.at x0) t.blk := by
  unfold execStr State.command at h
  cases h
  generalize s.blk.at x0 = b
  dsimp only
  repeat (first | assumption | with_reducible apply only_refl | (with_reducible apply Blk.sendDie_only <;> [decide; skip]) | (with_reducible apply Blk.dieAnswers_only <;> [decide; skip]) | with_reducible apply only_ite | extract_lets | split | (intros; dsimp only) | intro _)

theorem execAlc_frame (x0 x1 x2 x3) (s t : State) (h : execAlc x0 x1 x2 x3 s = .next t) : Only [.out, .media] (s.blk.at x0) t.blk := by
  unfold execAlc State.command at h
  cases h
  generalize s.blk.at x0 = b
  dsimp only
  repeat (first | assumption | with_reducible apply only_refl | (with_reducible apply Blk.sendTo_only <;> [decide; skip]) | (with_reducible apply Blk.eachDie_only <;> [decide; skip]) | with_reducible apply only_ite | extract_lets | split | (intros; dsimp only) | intro _)

theorem execMrw_frame (x0 x1 x2 x3 x4) (s t : State) (h : execMrw x0 x1 x2 x3 x4 s = .next t) : Only [.out, .media] (s.blk.at x0) t.blk := by
  unfold execMrw State.command at h
  cases h
  generalize s.blk.at x0 = b
  dsimp only
  repeat (first | assumption | with_reducible apply only_refl | (with_reducible apply Blk.sendTo_only <;> [decide; skip]) | (with_reducible apply Blk.eachDie_only <;> [decide; skip]) | with_reducible apply only_ite | extract_lets | split | (intros; dsimp only) | intro _)

theorem execMrr_frame (x0 x1 x2 x3) (s t : State) (h : execMrr x0 x1 x2 x3 s = .next t) : Only [.free, .out, .media] (s.blk.at x0) t.blk := by
  unfold execMrr State.command at h
  cases h
  generalize s.blk.at x0 = b
  dsimp only
  repeat (first | assumption | with_reducible apply only_refl | (with_reducible apply Blk.emit_only <;> [decide; skip]) | (with_reducible apply Blk.useFree_only <;> [decide; skip]) | (with_reducible apply Blk.sendDie_only <;> [decide; skip]) | with_reducible apply only_ite | extract_lets | split | (intros; dsimp only) | intro _)

theorem execIdr_frame (x0 x1 x2) (s t : State) (h : execIdr x0 x1 x2 s = .next t) : Only [.out, .media] (s.blk.at x0) t.blk := by
  unfold execIdr State.command at h
  cases h
  generalize s.blk.at x0 = b
  dsimp only
  repeat (first | assumption | with_reducible apply only_refl | (with_reducible apply Blk.emit_only <;> [decide; skip]) | (with_reducible apply Blk.sendDie_only <;> [decide; skip]) | with_reducible apply only_ite | extract_lets | split | (intros; dsimp only) | intro _)

theorem execZqc_frame (x0 x1 x2 x3) (s t : State) (h : execZqc x0 x1 x2 x3 s = .next t) : Only [.out, .media] (s.blk.at x0) t.blk := by
  unfold execZqc State.command at h
  cases h
  generalize s.blk.at x0 = b
  dsimp only
  repeat (first | assumption | with_reducible apply only_refl | (with_reducible apply Blk.sendTo_only <;> [decide; skip]) | with_reducible apply only_ite | extract_lets | split | (intros; dsimp only) | intro _)

theorem execTrn_frame (x0 x1 x2 x3 x4) (s t : State) (h : execTrn x0 x1 x2 x3 x4 s = .next t) : Only [.free, .out, .media] (s.blk.at x0) t.blk := by
  unfold execTrn State.command at h
  cases h
  generalize s.blk.at x0 = b
  dsimp only
  repeat (first | assumption | with_reducible apply only_refl | (with_reducible apply Blk.emit_only <;> [decide; skip]) | (with_reducible apply Blk.useFree_only <;> [decide; skip]) | (with_reducible apply Blk.sendDie_only <;> [decide; skip]) | with_reducible apply only_ite | extract_lets | split | (intros; dsimp only) | intro _)

theorem execTbw_frame (x0 x1 x2 x3) (s t : State) (h : execTbw x0 x1 x2 x3 s = .next t) : Only [.out, .media] (s.blk.at x0) t.blk := by
  unfold execTbw State.command at h
  cases h
  generalize s.blk.at x0 = b
  dsimp only
  repeat (first | assumption | with_reducible apply only_refl | (with_reducible apply Blk.onDie_only <;> [decide; skip]) | (with_reducible apply Blk.sendDie_only <;> [decide; skip]) | with_reducible apply only_ite | extract_lets | split | (intros; dsimp only) | intro _)

theorem execSby_frame (x0 x1 x2) (s t : State) (h : execSby x0 x1 x2 s = .next t) : Only [.out, .media] (s.blk.at x0) t.blk := by
  unfold execSby State.command at h
  cases h
  generalize s.blk.at x0 = b
  dsimp only
  repeat (first | assumption | with_reducible apply only_refl | (with_reducible apply Blk.sendTo_only <;> [decide; skip]) | (with_reducible apply Blk.eachDie_only <;> [decide; skip]) | with_reducible apply only_ite | extract_lets | split | (intros; dsimp only) | intro _)

theorem execWak_frame (x0 x1 x2) (s t : State) (h : execWak x0 x1 x2 s = .next t) : Only [.out, .media] (s.blk.at x0) t.blk := by
  unfold execWak State.command at h
  cases h
  generalize s.blk.at x0 = b
  dsimp only
  repeat (first | assumption | with_reducible apply only_refl | (with_reducible apply Blk.onDie_only <;> [decide; skip]) | (with_reducible apply Blk.sendTo_only <;> [decide; skip]) | (with_reducible refine only_foldl (fun c x hc => ?_) _ _ ?_) | with_reducible apply only_ite | extract_lets | split | (intros; dsimp only) | intro _)

theorem execRst_frame (x0 x1 x2) (s t : State) (h : execRst x0 x1 x2 s = .next t) : Only [.free, .out, .od, .hA, .hB, .can, .lines, .media, .twill, .linen, .tweed] (s.blk.at x0) t.blk := by
  unfold execRst State.command at h
  cases h
  generalize s.blk.at x0 = b
  dsimp only
  refine only_foldl (fun c x hc => ?_) _ _ (Blk.sendTo_only _ _ _ _ (by decide) (only_refl _ _))
  exact only_ite hc (Blk.onDie_only _ _ _ (by decide) (Blk.resetParts_only _ _ (by decide) hc))

theorem execRebuildPosition_frame (x0) (s t : State) (h : execRebuildPosition x0 s = .next t) : Only [.free, .out, .od, .regs, .hA, .hB, .muslin, .can, .dev, .path, .lines, .poison, .media, .velvet, .twill, .gauze, .damask, .linen, .tweed, .modes, .safety] (s.blk.at x0) t.blk := by
  unfold execRebuildPosition State.command at h
  cases h
  generalize s.blk.at x0 = b
  dsimp only
  repeat (first | assumption | with_reducible apply only_refl | (with_reducible apply Blk.onTwill_only <;> [decide; skip]) | (with_reducible apply Blk.onSafety_only <;> [decide; skip]) | (with_reducible apply Blk.useFree_only <;> [decide; skip]) | (with_reducible apply Blk.lifeCheck_only <;> [decide; skip]) | (with_reducible apply Blk.journalRec_only <;> [decide; skip]) | (with_reducible apply Blk.rebuildOver_only <;> [decide; skip]) | (with_reducible apply Blk.drive_only <;> [decide; skip]) | with_reducible apply only_ite | extract_lets | split | (intros; dsimp only) | intro _ | (refine ⟨fun p hp => ?_⟩; cases p <;> first | rfl | exact absurd (by decide) hp))

theorem execReplacementCopyBack_frame (x0 x1) (s t : State) (h : execReplacementCopyBack x0 x1 s = .next t) : Only [.free, .out, .od, .regs, .hA, .hB, .muslin, .can, .dev, .path, .lines, .poison, .media, .velvet, .twill, .gauze, .damask, .linen, .tweed, .modes, .safety] (s.blk.at x0) t.blk := by
  unfold execReplacementCopyBack State.command at h
  cases h
  generalize s.blk.at x0 = b
  dsimp only
  repeat (first | assumption | with_reducible apply only_refl | (with_reducible apply Blk.onSafety_only <;> [decide; skip]) | (with_reducible apply Blk.drive_only <;> [decide; skip]) | with_reducible apply only_ite | extract_lets | split | (intros; dsimp only) | intro _ | (refine ⟨fun p hp => ?_⟩; cases p <;> first | rfl | exact absurd (by decide) hp))

theorem execEngineHeartbeatMiss_frame (x0 x1) (s t : State) (h : execEngineHeartbeatMiss x0 x1 s = .next t) : Only [.free, .out, .od, .hA, .hB, .muslin, .can, .dev, .path, .lines, .poison, .media, .twill, .damask, .linen, .tweed, .modes, .safety] (s.blk.at x0) t.blk := by
  unfold execEngineHeartbeatMiss State.command at h
  cases h
  generalize s.blk.at x0 = b
  dsimp only
  repeat (first | assumption | with_reducible apply only_refl | (with_reducible apply Blk.bump_only <;> [decide; skip]) | (with_reducible apply Blk.engineFail_only <;> [decide; skip]) | with_reducible apply only_ite | extract_lets | split | (intros; dsimp only) | intro _)

theorem execTakeoverComplete_frame (x0 x1) (s t : State) (h : execTakeoverComplete x0 x1 s = .next t) : Only [.free, .out, .od, .regs, .hA, .hB, .muslin, .can, .dev, .path, .lines, .poison, .media, .velvet, .twill, .gauze, .damask, .linen, .tweed, .modes, .safety] (s.blk.at x0) t.blk := by
  unfold execTakeoverComplete State.command at h
  cases h
  generalize s.blk.at x0 = b
  dsimp only
  repeat (first | assumption | with_reducible apply only_refl | (with_reducible apply Blk.onEngine_only <;> [decide; skip]) | (with_reducible apply Blk.drive_only <;> [decide; skip]) | (with_reducible apply Blk.payOwed_only <;> [decide; skip]) | with_reducible apply only_ite | extract_lets | split | (intros; dsimp only) | intro _)

theorem execLockstepMismatch_frame (x0 x1) (s t : State) (h : execLockstepMismatch x0 x1 s = .next t) : Only [.free, .out, .od, .hA, .hB, .can, .path, .linen, .tweed, .modes, .safety] (s.blk.at x0) t.blk := by
  unfold execLockstepMismatch State.command at h
  cases h
  generalize s.blk.at x0 = b
  dsimp only
  repeat (first | assumption | with_reducible apply only_refl | (with_reducible apply Blk.detect_only <;> [decide; skip]) | with_reducible apply only_ite | extract_lets | split | (intros; dsimp only) | intro _)

theorem execBankFailoverComplete_frame (x0) (s t : State) (h : execBankFailoverComplete x0 s = .next t) : Only [.free, .out, .od, .hA, .hB, .muslin, .can, .dev, .path, .lines, .poison, .media, .velvet, .twill, .damask, .linen, .tweed, .modes, .safety] (s.blk.at x0) t.blk := by
  unfold execBankFailoverComplete State.command at h
  cases h
  generalize s.blk.at x0 = b
  dsimp only
  repeat (first | assumption | with_reducible apply only_refl | (with_reducible apply Blk.onSafety_only <;> [decide; skip]) | (with_reducible apply Blk.reportUnit_only <;> [decide; skip]) | (with_reducible apply Blk.degrade_only <;> [decide; skip]) | (with_reducible apply Blk.onBank_only <;> [decide; skip]) | (with_reducible apply Blk.bankFail_only <;> [decide; skip]) | with_reducible apply only_ite | extract_lets | split | (intros; dsimp only) | intro _ | (refine ⟨fun p hp => ?_⟩; cases p <;> first | rfl | exact absurd (by decide) hp))

theorem execHeadFailure_frame (x0 x1) (s t : State) (h : execHeadFailure x0 x1 s = .next t) : Only [.free, .out, .od, .hA, .hB, .sesA, .sesB, .sesC, .muslin, .can, .dev, .path, .velvet, .damask, .linen, .tweed, .modes, .safety] (s.blk.at x0) t.blk := by
  unfold execHeadFailure State.command at h
  cases h
  generalize s.blk.at x0 = b
  dsimp only
  repeat (first | assumption | with_reducible apply only_refl | (with_reducible apply Blk.useFree_only <;> [decide; skip]) | (with_reducible apply Blk.detect_only <;> [decide; skip]) | (with_reducible apply Blk.headFail_only <;> [decide; skip]) | with_reducible apply only_ite | extract_lets | split | (intros; dsimp only) | intro _)

theorem execSelfTest_frame (x0 x1) (s t : State) (h : execSelfTest x0 x1 s = .next t) : Only [.free, .out, .od, .hA, .hB, .sesA, .sesB, .sesC, .muslin, .can, .dev, .path, .lines, .poison, .media, .velvet, .twill, .damask, .linen, .tweed, .thermal, .modes, .safety] (s.blk.at x0) t.blk := by
  unfold execSelfTest State.command at h
  cases h
  generalize s.blk.at x0 = b
  dsimp only
  repeat (first | assumption | with_reducible apply only_refl | (with_reducible apply Blk.onSafety_only <;> [decide; skip]) | (with_reducible apply Blk.odSet_only <;> [decide; skip]) | (with_reducible apply Blk.checkerFailed_only <;> [decide; skip]) | (with_reducible refine only_foldl (fun c x hc => ?_) _ _ ?_) | with_reducible apply only_ite | extract_lets | split | (intros; dsimp only) | intro _ | (refine ⟨fun p hp => ?_⟩; cases p <;> first | rfl | exact absurd (by decide) hp))

theorem execSafeStopEntry_frame (x0) (s t : State) (h : execSafeStopEntry x0 s = .next t) : Only [.free, .out, .od, .hA, .hB, .muslin, .can, .dev, .path, .lines, .poison, .media, .velvet, .twill, .gauze, .damask, .linen, .tweed, .modes, .safety] (s.blk.at x0) t.blk := by
  unfold execSafeStopEntry State.command at h
  cases h
  generalize s.blk.at x0 = b
  dsimp only
  repeat (first | assumption | with_reducible apply only_refl | (with_reducible apply Blk.onModes_only <;> [decide; skip]) | (with_reducible apply Blk.bump_only <;> [decide; skip]) | (with_reducible apply Blk.report_only <;> [decide; skip]) | (with_reducible apply Blk.enter_only <;> [decide; skip]) | (with_reducible apply Blk.healthCheck_only <;> [decide; skip]) | (with_reducible apply Blk.endPrograms_only <;> [decide; skip]) | (with_reducible apply Blk.resumeAll_only <;> [decide; skip]) | (with_reducible apply Blk.ringNewest_only <;> [decide; skip]) | with_reducible apply only_ite | extract_lets | split | (intros; dsimp only) | intro _ | (refine ⟨fun p hp => ?_⟩; cases p <;> first | rfl | exact absurd (by decide) hp))

theorem execResidentRailsGood_frame (x0 x1 x2 x3) (s t : State) (h : execResidentRailsGood x0 x1 x2 x3 s = .next t) : Only [.opTime, .rng, .free, .out, .od, .hA, .hB, .muslin, .can, .media, .linen, .felt, .tweed, .canvas, .clocks, .modes] (s.blk.at x0) t.blk := by
  unfold execResidentRailsGood State.command at h
  cases h
  generalize s.blk.at x0 = b
  dsimp only
  repeat (first | assumption | with_reducible apply only_refl | (with_reducible apply Blk.startBoot_only <;> [decide; skip]) | (with_reducible apply Blk.aonReset_only <;> [decide; skip]) | with_reducible apply only_ite | extract_lets | split | (intros; dsimp only) | intro _)

theorem execResidentRailFall_frame (x0) (s t : State) (h : execResidentRailFall x0 s = .next t) : Only [.free, .out, .od, .odOld, .direct, .regs, .due, .dueB, .hA, .hB, .sesA, .sesB, .sesC, .muslin, .can, .dev, .path, .lines, .poison, .media, .velvet, .twill, .gauze, .damask, .linen, .felt, .tweed, .canvas, .clocks, .thermal, .modes, .safety, .tap] (s.blk.at x0) t.blk := by
  unfold execResidentRailFall State.command at h
  cases h
  generalize s.blk.at x0 = b
  dsimp only
  repeat (first | assumption | with_reducible apply only_refl | (with_reducible apply Blk.onFelt_only <;> [decide; skip]) | (with_reducible apply Blk.tearPrograms_only <;> [decide; skip]) | (with_reducible apply Blk.dark_only <;> [decide; skip]) | with_reducible apply only_ite | extract_lets | split | (intros; dsimp only) | intro _ | (refine ⟨fun p hp => ?_⟩; cases p <;> first | rfl | exact absurd (by decide) hp))

theorem execPfailNRise_frame (x0) (s t : State) (h : execPfailNRise x0 s = .next t) : Only [.out, .od, .hA, .hB, .muslin, .can, .media, .linen, .felt, .tweed, .canvas, .clocks, .modes] (s.blk.at x0) t.blk := by
  unfold execPfailNRise State.command at h
  cases h
  generalize s.blk.at x0 = b
  dsimp only
  repeat (first | assumption | with_reducible apply only_refl | (with_reducible apply Blk.onCanvas_only <;> [decide; skip]) | (with_reducible apply Blk.onModes_only <;> [decide; skip]) | (with_reducible apply Blk.faultPin_only <;> [decide; skip]) | (with_reducible apply Blk.cycleUp_only <;> [decide; skip]) | (with_reducible apply Blk.powerCycled_only <;> [decide; skip]) | (with_reducible apply Blk.startBoot_only <;> [decide; skip]) | with_reducible apply only_ite | extract_lets | split | (intros; dsimp only) | intro _ | (refine ⟨fun p hp => ?_⟩; cases p <;> first | rfl | exact absurd (by decide) hp))

theorem execInputPowerLoss_frame (x0) (s t : State) (h : execInputPowerLoss x0 s = .next t) : Only [.free, .out, .od, .odOld, .direct, .regs, .due, .dueB, .hA, .hB, .sesA, .sesB, .sesC, .muslin, .can, .dev, .path, .lines, .poison, .media, .velvet, .twill, .gauze, .damask, .linen, .felt, .tweed, .canvas, .clocks, .thermal, .modes, .safety] (s.blk.at x0) t.blk := by
  unfold execInputPowerLoss State.command at h
  cases h
  generalize s.blk.at x0 = b
  dsimp only
  repeat (first | assumption | with_reducible apply only_refl | (with_reducible apply Blk.onModes_only <;> [decide; skip]) | (with_reducible apply Blk.abandonTest_only <;> [decide; skip]) | (with_reducible apply Blk.loseInput_only <;> [decide; skip]) | with_reducible apply only_ite | extract_lets | split | (intros; dsimp only) | intro _ | (refine ⟨fun p hp => ?_⟩; cases p <;> first | rfl | exact absurd (by decide) hp))

theorem execFlushEnd_frame (x0 x1) (s t : State) (h : execFlushEnd x0 x1 s = .next t) : Only [.free, .out, .od, .odOld, .direct, .regs, .due, .dueB, .hA, .hB, .sesA, .sesB, .sesC, .muslin, .can, .dev, .path, .lines, .poison, .media, .velvet, .twill, .gauze, .damask, .linen, .felt, .tweed, .canvas, .clocks, .thermal, .modes, .safety] (s.blk.at x0) t.blk := by
  unfold execFlushEnd State.command at h
  cases h
  generalize s.blk.at x0 = b
  dsimp only
  repeat (first | assumption | with_reducible apply only_refl | (with_reducible apply Blk.endFlush_only <;> [decide; skip]) | (with_reducible apply Blk.flushCheck_only <;> [decide; skip]) | (with_reducible refine only_foldl (fun c x hc => ?_) _ _ ?_) | with_reducible apply only_ite | extract_lets | split | (intros; dsimp only) | intro _)

theorem execSlotStepStart_frame (x0 x1) (s t : State) (h : execSlotStepStart x0 x1 s = .next t) : Only [.canvas] (s.blk.at x0) t.blk := by
  unfold execSlotStepStart State.command at h
  cases h
  generalize s.blk.at x0 = b
  dsimp only
  repeat (first | assumption | with_reducible apply only_refl | (with_reducible apply Blk.onSlot_only <;> [decide; skip]) | with_reducible apply only_ite | extract_lets | split | (intros; dsimp only) | intro _)

theorem execPseqPgChange_frame (x0 x1 x2 x3) (s t : State) (h : execPseqPgChange x0 x1 x2 x3 s = .next t) : Only [.free, .out, .od, .odOld, .direct, .regs, .due, .dueB, .hA, .hB, .sesA, .sesB, .sesC, .muslin, .can, .dev, .path, .lines, .poison, .media, .velvet, .twill, .gauze, .damask, .linen, .felt, .tweed, .canvas, .clocks, .thermal, .modes, .safety] (s.blk.at x0) t.blk := by
  unfold execPseqPgChange State.command at h
  cases h
  generalize s.blk.at x0 = b
  dsimp only
  repeat (first | assumption | with_reducible apply only_refl | (with_reducible apply Blk.onSlot_only <;> [decide; skip]) | (with_reducible apply Blk.stepChange_only <;> [decide; skip]) | with_reducible apply only_ite | extract_lets | split | (intros; dsimp only) | intro _)

theorem execSlotQualified_frame (x0 x1) (s t : State) (h : execSlotQualified x0 x1 s = .next t) : Only [.out, .od, .odOld, .direct, .regs, .due, .dueB, .hA, .hB, .sesA, .sesB, .sesC, .muslin, .can, .dev, .path, .poison, .media, .velvet, .twill, .gauze, .damask, .linen, .felt, .tweed, .canvas, .clocks, .thermal, .modes, .safety] (s.blk.at x0) t.blk := by
  unfold execSlotQualified State.command at h
  cases h
  generalize s.blk.at x0 = b
  dsimp only
  repeat (first | assumption | with_reducible apply only_refl | (with_reducible apply Blk.qualified_only <;> [decide; skip]) | with_reducible apply only_ite | extract_lets | split | (intros; dsimp only) | intro _)

theorem execSlotQualifyTimeout_frame (x0 x1) (s t : State) (h : execSlotQualifyTimeout x0 x1 s = .next t) : Only [.free, .out, .od, .odOld, .direct, .regs, .due, .dueB, .hA, .hB, .sesA, .sesB, .sesC, .muslin, .can, .dev, .path, .lines, .poison, .media, .velvet, .twill, .gauze, .damask, .linen, .felt, .tweed, .canvas, .clocks, .thermal, .modes, .safety] (s.blk.at x0) t.blk := by
  unfold execSlotQualifyTimeout State.command at h
  cases h
  generalize s.blk.at x0 = b
  dsimp only
  repeat (first | assumption | with_reducible apply only_refl | (with_reducible apply Blk.onSlot_only <;> [decide; skip]) | (with_reducible apply Blk.powerDown_only <;> [decide; skip]) | (with_reducible apply Blk.chatter_only <;> [decide; skip]) | with_reducible apply only_ite | extract_lets | split | (intros; dsimp only) | intro _)

theorem execSlotFallen_frame (x0 x1 x2) (s t : State) (h : execSlotFallen x0 x1 x2 s = .next t) : Only [.out, .od, .hA, .hB, .muslin, .can, .linen, .tweed, .canvas, .modes] (s.blk.at x0) t.blk := by
  unfold execSlotFallen State.command at h
  cases h
  generalize s.blk.at x0 = b
  dsimp only
  repeat (first | assumption | with_reducible apply only_refl | (with_reducible apply Blk.onSlot_only <;> [decide; skip]) | (with_reducible apply Blk.lowerNext_only <;> [decide; skip]) | with_reducible apply only_ite | extract_lets | split | (intros; dsimp only) | intro _)

theorem execSlotFallTimeout_frame (x0 x1) (s t : State) (h : execSlotFallTimeout x0 x1 s = .next t) : Only [.out, .od, .hA, .hB, .muslin, .can, .linen, .felt, .tweed, .canvas, .modes] (s.blk.at x0) t.blk := by
  unfold execSlotFallTimeout State.command at h
  cases h
  generalize s.blk.at x0 = b
  dsimp only
  repeat (first | assumption | with_reducible apply only_refl | (with_reducible apply Blk.onSlot_only <;> [decide; skip]) | (with_reducible apply Blk.canvasLogged_only <;> [decide; skip]) | (with_reducible apply Blk.lowerNext_only <;> [decide; skip]) | with_reducible apply only_ite | extract_lets | split | (intros; dsimp only) | intro _)

theorem execRailFault_frame (x0 x1 x2 x3) (s t : State) (h : execRailFault x0 x1 x2 x3 s = .next t) : Only [.free, .out, .od, .odOld, .direct, .regs, .due, .dueB, .hA, .hB, .sesA, .sesB, .sesC, .muslin, .can, .dev, .path, .lines, .poison, .media, .velvet, .twill, .gauze, .damask, .linen, .felt, .tweed, .canvas, .clocks, .thermal, .modes, .safety] (s.blk.at x0) t.blk := by
  unfold execRailFault State.command at h
  cases h
  generalize s.blk.at x0 = b
  dsimp only
  repeat (first | assumption | with_reducible apply only_refl | (with_reducible apply Blk.bump_only <;> [decide; skip]) | (with_reducible apply Blk.detect_only <;> [decide; skip]) | (with_reducible apply Blk.onSlot_only <;> [decide; skip]) | (with_reducible apply Blk.allOff_only <;> [decide; skip]) | (with_reducible apply Blk.secondFault_only <;> [decide; skip]) | with_reducible apply only_ite | extract_lets | split | (intros; dsimp only) | intro _)

theorem execHuSenseSample_frame (x0 x1) (s t : State) (h : execHuSenseSample x0 x1 s = .next t) : Only [.free, .out, .od, .hA, .hB, .muslin, .can, .dev, .path, .lines, .poison, .media, .velvet, .twill, .gauze, .damask, .linen, .tweed, .canvas, .modes, .safety] (s.blk.at x0) t.blk := by
  unfold execHuSenseSample State.command at h
  cases h
  generalize s.blk.at x0 = b
  dsimp only
  repeat (first | assumption | with_reducible apply only_refl | (with_reducible apply Blk.onCanvas_only <;> [decide; skip]) | (with_reducible apply Blk.reportEnergy_only <;> [decide; skip]) | with_reducible apply only_ite | extract_lets | split | (intros; dsimp only) | intro _ | (refine ⟨fun p hp => ?_⟩; cases p <;> first | rfl | exact absurd (by decide) hp))

theorem execHoldupReport_frame (x0) (s t : State) (h : execHoldupReport x0 s = .next t) : Only [.free, .out, .od, .hA, .hB, .muslin, .can, .dev, .path, .lines, .poison, .media, .velvet, .twill, .gauze, .damask, .linen, .tweed, .canvas, .modes, .safety] (s.blk.at x0) t.blk := by
  unfold execHoldupReport State.command at h
  cases h
  generalize s.blk.at x0 = b
  dsimp only
  repeat (first | assumption | with_reducible apply only_refl | (with_reducible apply Blk.reportEnergy_only <;> [decide; skip]) | with_reducible apply only_ite | extract_lets | split | (intros; dsimp only) | intro _)

theorem execWriteBackReturn_frame (x0) (s t : State) (h : execWriteBackReturn x0 s = .next t) : Only [.free, .out, .od, .hA, .hB, .muslin, .can, .dev, .path, .lines, .poison, .media, .velvet, .twill, .gauze, .damask, .linen, .tweed, .modes, .safety] (s.blk.at x0) t.blk := by
  unfold execWriteBackReturn State.command at h
  cases h
  generalize s.blk.at x0 = b
  dsimp only
  repeat (first | assumption | with_reducible apply only_refl | (with_reducible apply Blk.applyMode_only <;> [decide; skip]) | with_reducible apply only_ite | extract_lets | split | (intros; dsimp only) | intro _)

theorem execHealthTest_frame (x0) (s t : State) (h : execHealthTest x0 s = .next t) : Only [.canvas] (s.blk.at x0) t.blk := by
  unfold execHealthTest State.command at h
  cases h
  generalize s.blk.at x0 = b
  dsimp only
  repeat (first | assumption | with_reducible apply only_refl | (with_reducible apply Blk.beginTest_only <;> [decide; skip]) | with_reducible apply only_ite | extract_lets | split | (intros; dsimp only) | intro _)

theorem execHealthTestEnd_frame (x0 x1 x2) (s t : State) (h : execHealthTestEnd x0 x1 x2 s = .next t) : Only [.free, .out, .od, .hA, .hB, .muslin, .can, .dev, .path, .lines, .poison, .media, .velvet, .twill, .gauze, .damask, .linen, .felt, .tweed, .canvas, .modes, .safety] (s.blk.at x0) t.blk := by
  unfold execHealthTestEnd State.command at h
  cases h
  generalize s.blk.at x0 = b
  dsimp only
  repeat (first | assumption | with_reducible apply only_refl | (with_reducible apply Blk.useFree_only <;> [decide; skip]) | (with_reducible apply Blk.healthCheck_only <;> [decide; skip]) | (with_reducible apply Blk.reportEnergy_only <;> [decide; skip]) | (with_reducible apply Blk.testResult_only <;> [decide; skip]) | with_reducible apply only_ite | extract_lets | split | (intros; dsimp only) | intro _)

theorem execBoot_frame (x0 x1 x2) (s t : State) (h : execBoot x0 x1 x2 s = .next t) : Only [.free, .out, .od, .hA, .hB, .can, .path, .twill, .gauze, .damask, .linen, .felt, .tweed, .clocks, .thermal, .modes, .safety] (s.blk.at x0) t.blk := by
  unfold execBoot State.command at h
  cases h
  generalize s.blk.at x0 = b
  dsimp only
  repeat (first | assumption | with_reducible apply only_refl | (with_reducible apply Blk.fwRefused_only <;> [decide; skip]) | (with_reducible refine Blk.fwLoad_only _ (by assumption) (by decide) ?_) | (with_reducible apply Blk.bringUp_only <;> [decide; skip]) | (with_reducible apply Blk.loadFelt_only <;> [decide; skip]) | (with_reducible apply Blk.fillFails_only <;> [decide; skip]) | (with_reducible refine only_foldl (fun c x hc => ?_) _ _ ?_) | with_reducible apply only_ite | extract_lets | split | (intros; dsimp only) | intro _)

theorem execBindingCheck_frame (x0 x1) (s t : State) (h : execBindingCheck x0 x1 s = .next t) : Only [.rng, .free, .out, .od, .hA, .hB, .muslin, .can, .dev, .path, .lines, .poison, .media, .twill, .gauze, .damask, .linen, .felt, .tweed, .modes, .safety] (s.blk.at x0) t.blk := by
  unfold execBindingCheck State.command at h
  cases h
  generalize s.blk.at x0 = b
  dsimp only
  repeat (first | assumption | with_reducible apply only_refl | (with_reducible apply Blk.onDamask_only <;> [decide; skip]) | (with_reducible apply Blk.setConditions_only <;> [decide; skip]) | (with_reducible apply Blk.readIds_only <;> [decide; skip]) | (with_reducible apply Blk.ownMedia_only <;> [decide; skip]) | (with_reducible apply Blk.firstProvision_only <;> [decide; skip]) | (with_reducible apply Blk.heldMedia_only <;> [decide; skip]) | with_reducible apply only_ite | extract_lets | split | (intros; dsimp only) | intro _ | (refine ⟨fun p hp => ?_⟩; cases p <;> first | rfl | exact absurd (by decide) hp))

theorem execMapRebuild_frame (x0 x1) (s t : State) (h : execMapRebuild x0 x1 s = .next t) : Only [.free, .out, .od, .hA, .hB, .muslin, .can, .dev, .path, .lines, .poison, .media, .twill, .gauze, .linen, .tweed, .modes, .safety] (s.blk.at x0) t.blk := by
  unfold execMapRebuild State.command at h
  cases h
  generalize s.blk.at x0 = b
  dsimp only
  repeat (first | assumption | with_reducible apply only_refl | (with_reducible apply Blk.onModes_only <;> [decide; skip]) | (with_reducible apply Blk.odSet_only <;> [decide; skip]) | (with_reducible apply Blk.loadSnapshot_only <;> [decide; skip]) | (with_reducible apply Blk.loadMap_only <;> [decide; skip]) | (with_reducible apply Blk.mapReady_only <;> [decide; skip]) | with_reducible apply only_ite | extract_lets | split | (intros; dsimp only) | intro _ | (refine ⟨fun p hp => ?_⟩; cases p <;> first | rfl | exact absurd (by decide) hp))

theorem execMemoryActive_frame (x0) (s t : State) (h : execMemoryActive x0 s = .next t) : Only [.free, .out, .od, .regs, .hA, .hB, .muslin, .can, .dev, .path, .lines, .poison, .media, .velvet, .twill, .gauze, .damask, .linen, .felt, .tweed, .thermal, .modes, .safety] (s.blk.at x0) t.blk := by
  unfold execMemoryActive State.command at h
  cases h
  generalize s.blk.at x0 = b
  dsimp only
  repeat (first | assumption | with_reducible apply only_refl | (with_reducible apply Blk.activate_only <;> [decide; skip]) | with_reducible apply only_ite | extract_lets | split | (intros; dsimp only) | intro _)

theorem execHoldupReportTimeout_frame (x0) (s t : State) (h : execHoldupReportTimeout x0 s = .next t) : Only [.free, .out, .od, .regs, .hA, .hB, .muslin, .can, .dev, .path, .lines, .poison, .media, .velvet, .twill, .gauze, .damask, .linen, .felt, .tweed, .thermal, .modes, .safety] (s.blk.at x0) t.blk := by
  unfold execHoldupReportTimeout State.command at h
  cases h
  generalize s.blk.at x0 = b
  dsimp only
  repeat (first | assumption | with_reducible apply only_refl | (with_reducible apply Blk.report_only <;> [decide; skip]) | (with_reducible apply Blk.activate_only <;> [decide; skip]) | with_reducible apply only_ite | extract_lets | split | (intros; dsimp only) | intro _)

theorem execLightSleepEntry_frame (x0) (s t : State) (h : execLightSleepEntry x0 s = .next t) : Only [.out, .od, .hA, .hB, .muslin, .can, .linen, .tweed, .modes] (s.blk.at x0) t.blk := by
  unfold execLightSleepEntry State.command at h
  cases h
  generalize s.blk.at x0 = b
  dsimp only
  repeat (first | assumption | with_reducible apply only_refl | (with_reducible apply Blk.enter_only <;> [decide; skip]) | with_reducible apply only_ite | extract_lets | split | (intros; dsimp only) | intro _)

theorem execDeepSleepEntry_frame (x0) (s t : State) (h : execDeepSleepEntry x0 s = .next t) : Only [.free, .out, .od, .hA, .hB, .muslin, .can, .dev, .path, .lines, .poison, .media, .velvet, .twill, .gauze, .damask, .linen, .tweed, .modes, .safety] (s.blk.at x0) t.blk := by
  unfold execDeepSleepEntry State.command at h
  cases h
  generalize s.blk.at x0 = b
  dsimp only
  repeat (first | assumption | with_reducible apply only_refl | (with_reducible apply Blk.enter_only <;> [decide; skip]) | (with_reducible apply Blk.fallAsleep_only <;> [decide; skip]) | with_reducible apply only_ite | extract_lets | split | (intros; dsimp only) | intro _)

theorem execIdleEnd_frame (x0) (s t : State) (h : execIdleEnd x0 s = .next t) : Only [.out, .od, .hA, .hB, .muslin, .can, .media, .linen, .tweed, .modes] (s.blk.at x0) t.blk := by
  unfold execIdleEnd State.command at h
  cases h
  generalize s.blk.at x0 = b
  dsimp only
  repeat (first | assumption | with_reducible apply only_refl | (with_reducible apply Blk.wake_only <;> [decide; skip]) | with_reducible apply only_ite | extract_lets | split | (intros; dsimp only) | intro _)

theorem execRefMonitorWindow_frame (x0 x1) (s t : State) (h : execRefMonitorWindow x0 x1 s = .next t) : Only [.od, .clocks] (s.blk.at x0) t.blk := by
  unfold execRefMonitorWindow State.command at h
  cases h
  generalize s.blk.at x0 = b
  dsimp only
  repeat (first | assumption | with_reducible apply only_refl | (with_reducible apply Blk.onClocks_only <;> [decide; skip]) | (with_reducible apply Blk.bump_only <;> [decide; skip]) | with_reducible apply only_ite | extract_lets | split | (intros; dsimp only) | intro _ | (refine ⟨fun p hp => ?_⟩; cases p <;> first | rfl | exact absurd (by decide) hp))

theorem execRefclkLost_frame (x0 x1) (s t : State) (h : execRefclkLost x0 x1 s = .next t) : Only [.free, .out, .od, .hA, .hB, .muslin, .can, .dev, .path, .lines, .poison, .media, .velvet, .twill, .gauze, .damask, .linen, .tweed, .clocks, .modes, .safety] (s.blk.at x0) t.blk := by
  unfold execRefclkLost State.command at h
  cases h
  generalize s.blk.at x0 = b
  dsimp only
  repeat (first | assumption | with_reducible apply only_refl | (with_reducible apply Blk.onClocks_only <;> [decide; skip]) | (with_reducible apply Blk.bump_only <;> [decide; skip]) | (with_reducible apply Blk.report_only <;> [decide; skip]) | (with_reducible apply Blk.detect_only <;> [decide; skip]) | (with_reducible apply Blk.linkFalls_only <;> [decide; skip]) | (with_reducible apply Blk.forcedSwitches_only <;> [decide; skip]) | (with_reducible apply Blk.clockFailure_only <;> [decide; skip]) | with_reducible apply only_ite | extract_lets | split | (intros; dsimp only) | intro _ | (refine ⟨fun p hp => ?_⟩; cases p <;> first | rfl | exact absurd (by decide) hp))

theorem execRefclkGood_frame (x0) (s t : State) (h : execRefclkGood x0 s = .next t) : Only [.out, .od, .hA, .hB, .can, .linen, .clocks] (s.blk.at x0) t.blk := by
  unfold execRefclkGood State.command at h
  cases h
  generalize s.blk.at x0 = b
  dsimp only
  repeat (first | assumption | with_reducible apply only_refl | (with_reducible apply Blk.onClocks_only <;> [decide; skip]) | (with_reducible apply Blk.report_only <;> [decide; skip]) | (with_reducible apply Blk.linkChange_only <;> [decide; skip]) | with_reducible apply only_ite | extract_lets | split | (intros; dsimp only) | intro _ | (refine ⟨fun p hp => ?_⟩; cases p <;> first | rfl | exact absurd (by decide) hp))

theorem execPllJudgeWindow_frame (x0 x1 x2 x3) (s t : State) (h : execPllJudgeWindow x0 x1 x2 x3 s = .next t) : Only [.free, .out, .od, .hA, .hB, .muslin, .can, .dev, .path, .lines, .poison, .media, .velvet, .twill, .gauze, .damask, .linen, .tweed, .clocks, .modes, .safety] (s.blk.at x0) t.blk := by
  unfold execPllJudgeWindow State.command at h
  cases h
  generalize s.blk.at x0 = b
  dsimp only
  repeat (first | assumption | with_reducible apply only_refl | (with_reducible apply Blk.onClocks_only <;> [decide; skip]) | (with_reducible apply Blk.autoReturn_only <;> [decide; skip]) | (with_reducible apply Blk.pllFail_only <;> [decide; skip]) | with_reducible apply only_ite | extract_lets | split | (intros; dsimp only) | intro _ | (refine ⟨fun p hp => ?_⟩; cases p <;> first | rfl | exact absurd (by decide) hp))

theorem execIrcTrimUpdate_frame (x0) (s t : State) (h : execIrcTrimUpdate x0 s = .next t) : Only [.clocks] (s.blk.at x0) t.blk := by
  unfold execIrcTrimUpdate State.command at h
  cases h
  generalize s.blk.at x0 = b
  dsimp only
  repeat (first | assumption | with_reducible apply only_refl | (with_reducible apply Blk.onClocks_only <;> [decide; skip]) | with_reducible apply only_ite | extract_lets | split | (intros; dsimp only) | intro _ | (refine ⟨fun p hp => ?_⟩; cases p <;> first | rfl | exact absurd (by decide) hp))

theorem execThermalSample_frame (x0 x1) (s t : State) (h : execThermalSample x0 x1 s = .next t) : Only [.free, .out, .od, .hA, .hB, .muslin, .can, .dev, .path, .media, .twill, .linen, .tweed, .canvas, .thermal, .modes, .safety] (s.blk.at x0) t.blk := by
  unfold execThermalSample State.command at h
  cases h
  generalize s.blk.at x0 = b
  dsimp only
  repeat (first | assumption | with_reducible apply only_refl | (with_reducible apply Blk.onThermal_only <;> [decide; skip]) | (with_reducible apply Blk.slowDown_only <;> [decide; skip]) | (with_reducible apply Blk.thermalShutdown_only <;> [decide; skip]) | (with_reducible apply Blk.sampleSensor_only <;> [decide; skip]) | (with_reducible apply Blk.coolDown_only <;> [decide; skip]) | (with_reducible apply Blk.sensorCount_only <;> [decide; skip]) | (with_reducible apply Blk.coolBoot_only <;> [decide; skip]) | (with_reducible refine only_foldl (fun c x hc => ?_) _ _ ?_) | with_reducible apply only_ite | extract_lets | split | (intros; dsimp only) | intro _ | (refine ⟨fun p hp => ?_⟩; cases p <;> first | rfl | exact absurd (by decide) hp))

theorem execThrottleEntry_frame (x0) (s t : State) (h : execThrottleEntry x0 s = .next t) : Only [.out, .od, .hA, .hB, .muslin, .can, .dev, .linen, .tweed, .thermal, .modes] (s.blk.at x0) t.blk := by
  unfold execThrottleEntry State.command at h
  cases h
  generalize s.blk.at x0 = b
  dsimp only
  repeat (first | assumption | with_reducible apply only_refl | (with_reducible apply Blk.throttle_only <;> [decide; skip]) | with_reducible apply only_ite | extract_lets | split | (intros; dsimp only) | intro _)

theorem execThrottleStep_frame (x0) (s t : State) (h : execThrottleStep x0 s = .next t) : Only [.out, .od, .hA, .hB, .muslin, .can, .dev, .linen, .tweed, .thermal, .modes] (s.blk.at x0) t.blk := by
  unfold execThrottleStep State.command at h
  cases h
  generalize s.blk.at x0 = b
  dsimp only
  repeat (first | assumption | with_reducible apply only_refl | (with_reducible apply Blk.onThermal_only <;> [decide; skip]) | (with_reducible apply Blk.leave_only <;> [decide; skip]) | (with_reducible apply Blk.healthCheck_only <;> [decide; skip]) | with_reducible apply only_ite | extract_lets | split | (intros; dsimp only) | intro _ | (refine ⟨fun p hp => ?_⟩; cases p <;> first | rfl | exact absurd (by decide) hp))

theorem execDevloadWindow_frame (x0 x1) (s t : State) (h : execDevloadWindow x0 x1 s = .next t) : Only [.hA, .hB, .tweed] (s.blk.at x0) t.blk := by
  unfold execDevloadWindow State.command at h
  cases h
  generalize s.blk.at x0 = b
  dsimp only
  repeat (first | assumption | with_reducible apply only_refl | (with_reducible apply Blk.onHead_only <;> [decide; skip]) | (with_reducible apply Blk.tw_only <;> [decide; skip]) | with_reducible apply only_ite | extract_lets | split | (intros; dsimp only) | intro _ | (refine ⟨fun p hp => ?_⟩; cases p <;> first | rfl | exact absurd (by decide) hp))

theorem execPerstAssert_frame (x0 x1 x2) (s t : State) (h : execPerstAssert x0 x1 x2 s = .next t) : Only [.out, .od, .hA, .hB, .sesA, .sesB, .sesC, .muslin, .can, .path, .velvet, .damask] (s.blk.at x0) t.blk := by
  unfold execPerstAssert State.command at h
  cases h
  generalize s.blk.at x0 = b
  dsimp only
  repeat (first | assumption | with_reducible apply only_refl | (with_reducible apply Blk.onHead_only <;> [decide; skip]) | (with_reducible apply Blk.linkChange_only <;> [decide; skip]) | (with_reducible apply Blk.dropRequests_only <;> [decide; skip]) | (with_reducible apply Blk.muteMailbox_only <;> [decide; skip]) | (with_reducible apply Blk.closeSession_only <;> [decide; skip]) | (with_reducible apply Blk.abortBulk_only <;> [decide; skip]) | (with_reducible apply Blk.resetOwner_only <;> [decide; skip]) | with_reducible apply only_ite | extract_lets | split | (intros; dsimp only) | intro _ | (refine ⟨fun p hp => ?_⟩; cases p <;> first | rfl | exact absurd (by decide) hp))

theorem execPerstDeassert_frame (x0 x1) (s t : State) (h : execPerstDeassert x0 x1 s = .next t) : Only [.out, .od, .hA, .hB, .muslin, .can, .linen, .tweed, .canvas, .modes] (s.blk.at x0) t.blk := by
  unfold execPerstDeassert State.command at h
  cases h
  generalize s.blk.at x0 = b
  dsimp only
  repeat (first | assumption | with_reducible apply only_refl | (with_reducible apply Blk.onModes_only <;> [decide; skip]) | (with_reducible apply Blk.onHead_only <;> [decide; skip]) | (with_reducible apply Blk.linkChange_only <;> [decide; skip]) | (with_reducible apply Blk.startBoot_only <;> [decide; skip]) | with_reducible apply only_ite | extract_lets | split | (intros; dsimp only) | intro _ | (refine ⟨fun p hp => ?_⟩; cases p <;> first | rfl | exact absurd (by decide) hp))

theorem execFunctionLevelReset_frame (x0 x1) (s t : State) (h : execFunctionLevelReset x0 x1 s = .next t) : Only [.out, .hA, .hB, .muslin, .can, .velvet, .damask] (s.blk.at x0) t.blk := by
  unfold execFunctionLevelReset State.command at h
  cases h
  generalize s.blk.at x0 = b
  dsimp only
  repeat (first | assumption | with_reducible apply only_refl | (with_reducible apply Blk.muteMailbox_only <;> [decide; skip]) | (with_reducible apply Blk.abortBulk_only <;> [decide; skip]) | with_reducible apply only_ite | extract_lets | split | (intros; dsimp only) | intro _)

theorem execLinkDown_frame (x0 x1) (s t : State) (h : execLinkDown x0 x1 s = .next t) : Only [.out, .od, .hA, .hB, .can, .path, .linen] (s.blk.at x0) t.blk := by
  unfold execLinkDown State.command at h
  cases h
  generalize s.blk.at x0 = b
  dsimp only
  repeat (first | assumption | with_reducible apply only_refl | (with_reducible apply Blk.linkFalls_only <;> [decide; skip]) | with_reducible apply only_ite | extract_lets | split | (intros; dsimp only) | intro _)

theorem execLinkUp_frame (x0 x1 x2 x3 x4) (s t : State) (h : execLinkUp x0 x1 x2 x3 x4 s = .next t) : Only [.od, .hA, .hB] (s.blk.at x0) t.blk := by
  unfold execLinkUp State.command at h
  cases h
  generalize s.blk.at x0 = b
  dsimp only
  repeat (first | assumption | with_reducible apply only_refl | (with_reducible apply Blk.linkChange_only <;> [decide; skip]) | with_reducible apply only_ite | extract_lets | split | (intros; dsimp only) | intro _)

theorem execL1Entry_frame (x0 x1) (s t : State) (h : execL1Entry x0 x1 s = .next t) : Only [.od, .hA, .hB] (s.blk.at x0) t.blk := by
  unfold execL1Entry State.command at h
  cases h
  generalize s.blk.at x0 = b
  dsimp only
  repeat (first | assumption | with_reducible apply only_refl | (with_reducible apply Blk.linkChange_only <;> [decide; skip]) | with_reducible apply only_ite | extract_lets | split | (intros; dsimp only) | intro _)

theorem execL1Exit_frame (x0 x1) (s t : State) (h : execL1Exit x0 x1 s = .next t) : Only [.od, .hA, .hB] (s.blk.at x0) t.blk := by
  unfold execL1Exit State.command at h
  cases h
  generalize s.blk.at x0 = b
  dsimp only
  repeat (first | assumption | with_reducible apply only_refl | (with_reducible apply Blk.linkChange_only <;> [decide; skip]) | with_reducible apply only_ite | extract_lets | split | (intros; dsimp only) | intro _)

theorem execGetVersion_frame (x0 x1) (s t : State) (h : execGetVersion x0 x1 s = .next t) : Only [.out, .hA, .hB] (s.blk.at x0) t.blk := by
  unfold execGetVersion State.command at h
  cases h
  generalize s.blk.at x0 = b
  dsimp only
  repeat (first | assumption | with_reducible apply only_refl | (with_reducible apply Blk.spdmReq_only <;> [decide; (intros; try dsimp only); skip]) | (with_reducible apply Blk.spdmSay_only <;> [decide; skip]) | (with_reducible apply Blk.onSpdm_only <;> [decide; skip]) | with_reducible apply only_ite | extract_lets | split | (intros; dsimp only) | intro _)

theorem execGetCapabilities_frame (x0 x1) (s t : State) (h : execGetCapabilities x0 x1 s = .next t) : Only [.out, .hA, .hB] (s.blk.at x0) t.blk := by
  unfold execGetCapabilities State.command at h
  cases h
  generalize s.blk.at x0 = b
  dsimp only
  repeat (first | assumption | with_reducible apply only_refl | (with_reducible apply Blk.spdmReq_only <;> [decide; (intros; try dsimp only); skip]) | (with_reducible apply Blk.spdmSay_only <;> [decide; skip]) | (with_reducible apply Blk.spdmError_only <;> [decide; skip]) | (with_reducible apply Blk.onSpdm_only <;> [decide; skip]) | with_reducible apply only_ite | extract_lets | split | (intros; dsimp only) | intro _)

theorem execNegotiateAlgorithms_frame (x0 x1 x2) (s t : State) (h : execNegotiateAlgorithms x0 x1 x2 s = .next t) : Only [.out, .hA, .hB] (s.blk.at x0) t.blk := by
  unfold execNegotiateAlgorithms State.command at h
  cases h
  generalize s.blk.at x0 = b
  dsimp only
  repeat (first | assumption | with_reducible apply only_refl | (with_reducible apply Blk.spdmReq_only <;> [decide; (intros; try dsimp only); skip]) | (with_reducible apply Blk.spdmSay_only <;> [decide; skip]) | (with_reducible apply Blk.spdmError_only <;> [decide; skip]) | (with_reducible apply Blk.onSpdm_only <;> [decide; skip]) | with_reducible apply only_ite | extract_lets | split | (intros; dsimp only) | intro _)

theorem execGetDigests_frame (x0 x1) (s t : State) (h : execGetDigests x0 x1 s = .next t) : Only [.out] (s.blk.at x0) t.blk := by
  unfold execGetDigests State.command at h
  cases h
  generalize s.blk.at x0 = b
  dsimp only
  repeat (first | assumption | with_reducible apply only_refl | (with_reducible apply Blk.spdmReq_only <;> [decide; (intros; try dsimp only); skip]) | (with_reducible apply Blk.spdmSay_only <;> [decide; skip]) | (with_reducible apply Blk.afterAlgs_only <;> [decide; (intros; try dsimp only); skip]) | with_reducible apply only_ite | extract_lets | split | (intros; dsimp only) | intro _)

theorem execGetCertificate_frame (x0 x1 x2) (s t : State) (h : execGetCertificate x0 x1 x2 s = .next t) : Only [.out] (s.blk.at x0) t.blk := by
  unfold execGetCertificate State.command at h
  cases h
  generalize s.blk.at x0 = b
  dsimp only
  repeat (first | assumption | with_reducible apply only_refl | (with_reducible apply Blk.spdmReq_only <;> [decide; (intros; try dsimp only); skip]) | (with_reducible apply Blk.spdmSay_only <;> [decide; skip]) | (with_reducible apply Blk.spdmError_only <;> [decide; skip]) | (with_reducible apply Blk.afterAlgs_only <;> [decide; (intros; try dsimp only); skip]) | with_reducible apply only_ite | extract_lets | split | (intros; dsimp only) | intro _)

theorem execChallenge_frame (x0 x1 x2 x3) (s t : State) (h : execChallenge x0 x1 x2 x3 s = .next t) : Only [.out] (s.blk.at x0) t.blk := by
  unfold execChallenge State.command at h
  cases h
  generalize s.blk.at x0 = b
  dsimp only
  repeat (first | assumption | with_reducible apply only_refl | (with_reducible apply Blk.spdmReq_only <;> [decide; (intros; try dsimp only); skip]) | (with_reducible apply Blk.spdmSay_only <;> [decide; skip]) | (with_reducible apply Blk.spdmError_only <;> [decide; skip]) | (with_reducible apply Blk.afterAlgs_only <;> [decide; (intros; try dsimp only); skip]) | with_reducible apply only_ite | extract_lets | split | (intros; dsimp only) | intro _)

theorem execGetMeasurements_frame (x0 x1 x2 x3) (s t : State) (h : execGetMeasurements x0 x1 x2 x3 s = .next t) : Only [.out] (s.blk.at x0) t.blk := by
  unfold execGetMeasurements State.command at h
  cases h
  generalize s.blk.at x0 = b
  dsimp only
  repeat (first | assumption | with_reducible apply only_refl | (with_reducible apply Blk.spdmReq_only <;> [decide; (intros; try dsimp only); skip]) | (with_reducible apply Blk.spdmSay_only <;> [decide; skip]) | (with_reducible apply Blk.spdmError_only <;> [decide; skip]) | (with_reducible apply Blk.afterAlgs_only <;> [decide; (intros; try dsimp only); skip]) | with_reducible apply only_ite | extract_lets | split | (intros; dsimp only) | intro _)

theorem execKeyExchange_frame (x0 x1 x2) (s t : State) (h : execKeyExchange x0 x1 x2 s = .next t) : Only [.rng, .out, .hA, .hB] (s.blk.at x0) t.blk := by
  unfold execKeyExchange State.command at h
  cases h
  generalize s.blk.at x0 = b
  dsimp only
  repeat (first | assumption | with_reducible apply only_refl | (with_reducible apply Blk.draw_only <;> [decide; skip]) | (with_reducible apply Blk.spdmReq_only <;> [decide; (intros; try dsimp only); skip]) | (with_reducible apply Blk.spdmSay_only <;> [decide; skip]) | (with_reducible apply Blk.spdmError_only <;> [decide; skip]) | (with_reducible apply Blk.onSpdm_only <;> [decide; skip]) | (with_reducible apply Blk.afterAlgs_only <;> [decide; (intros; try dsimp only); skip]) | with_reducible apply only_ite | extract_lets | split | (intros; dsimp only) | intro _)

theorem execFinish_frame (x0 x1 x2) (s t : State) (h : execFinish x0 x1 x2 s = .next t) : Only [.out, .hA, .hB] (s.blk.at x0) t.blk := by
  unfold execFinish State.command at h
  cases h
  generalize s.blk.at x0 = b
  dsimp only
  repeat (first | assumption | with_reducible apply only_refl | (with_reducible apply Blk.spdmReq_only <;> [decide; (intros; try dsimp only); skip]) | (with_reducible apply Blk.spdmSay_only <;> [decide; skip]) | (with_reducible apply Blk.spdmError_only <;> [decide; skip]) | (with_reducible apply Blk.onSpdm_only <;> [decide; skip]) | with_reducible apply only_ite | extract_lets | split | (intros; dsimp only) | intro _)

theorem execKeyUpdate_frame (x0 x1) (s t : State) (h : execKeyUpdate x0 x1 s = .next t) : Only [.out, .hA, .hB] (s.blk.at x0) t.blk := by
  unfold execKeyUpdate State.command at h
  cases h
  generalize s.blk.at x0 = b
  dsimp only
  repeat (first | assumption | with_reducible apply only_refl | (with_reducible apply Blk.spdmReq_only <;> [decide; (intros; try dsimp only); skip]) | (with_reducible apply Blk.spdmSay_only <;> [decide; skip]) | (with_reducible apply Blk.onSpdm_only <;> [decide; skip]) | (with_reducible apply Blk.inSession_only <;> [decide; (intros; try dsimp only); skip]) | with_reducible apply only_ite | extract_lets | split | (intros; dsimp only) | intro _)

theorem execSpdmHeartbeat_frame (x0 x1) (s t : State) (h : execSpdmHeartbeat x0 x1 s = .next t) : Only [.out] (s.blk.at x0) t.blk := by
  unfold execSpdmHeartbeat State.command at h
  cases h
  generalize s.blk.at x0 = b
  dsimp only
  repeat (first | assumption | with_reducible apply only_refl | (with_reducible apply Blk.spdmReq_only <;> [decide; (intros; try dsimp only); skip]) | (with_reducible apply Blk.spdmSay_only <;> [decide; skip]) | (with_reducible apply Blk.inSession_only <;> [decide; (intros; try dsimp only); skip]) | with_reducible apply only_ite | extract_lets | split | (intros; dsimp only) | intro _)

theorem execEndSession_frame (x0 x1) (s t : State) (h : execEndSession x0 x1 s = .next t) : Only [.out, .hA, .hB] (s.blk.at x0) t.blk := by
  unfold execEndSession State.command at h
  cases h
  generalize s.blk.at x0 = b
  dsimp only
  repeat (first | assumption | with_reducible apply only_refl | (with_reducible apply Blk.spdmReq_only <;> [decide; (intros; try dsimp only); skip]) | (with_reducible apply Blk.spdmSay_only <;> [decide; skip]) | (with_reducible apply Blk.onSpdm_only <;> [decide; skip]) | (with_reducible apply Blk.inSession_only <;> [decide; (intros; try dsimp only); skip]) | with_reducible apply only_ite | extract_lets | split | (intros; dsimp only) | intro _)

theorem execIdeKeyManagement_frame (x0 x1 x2 x3 x4) (s t : State) (h : execIdeKeyManagement x0 x1 x2 x3 x4 s = .next t) : Only [.out, .hA, .hB] (s.blk.at x0) t.blk := by
  unfold execIdeKeyManagement State.command at h
  cases h
  generalize s.blk.at x0 = b
  dsimp only
  repeat (first | assumption | with_reducible apply only_refl | (with_reducible apply Blk.onHead_only <;> [decide; skip]) | (with_reducible apply Blk.emit_only <;> [decide; skip]) | (with_reducible apply Blk.spdmReq_only <;> [decide; (intros; try dsimp only); skip]) | (with_reducible apply Blk.inSession_only <;> [decide; (intros; try dsimp only); skip]) | with_reducible apply only_ite | extract_lets | split | (intros; dsimp only) | intro _ | (refine ⟨fun p hp => ?_⟩; cases p <;> first | rfl | exact absurd (by decide) hp))

theorem execIdeFailure_frame (x0 x1 x2) (s t : State) (h : execIdeFailure x0 x1 x2 s = .next t) : Only [.out, .od, .hA, .hB, .can, .linen] (s.blk.at x0) t.blk := by
  unfold execIdeFailure State.command at h
  cases h
  generalize s.blk.at x0 = b
  dsimp only
  repeat (first | assumption | with_reducible apply only_refl | (with_reducible apply Blk.onHead_only <;> [decide; skip]) | (with_reducible apply Blk.report_only <;> [decide; skip]) | with_reducible apply only_ite | extract_lets | split | (intros; dsimp only) | intro _ | (refine ⟨fun p hp => ?_⟩; cases p <;> first | rfl | exact absurd (by decide) hp))

theorem execCdatRead_frame (x0 x1) (s t : State) (h : execCdatRead x0 x1 s = .next t) : Only [.out] (s.blk.at x0) t.blk := by
  unfold execCdatRead State.command at h
  cases h
  generalize s.blk.at x0 = b
  dsimp only
  repeat (first | assumption | with_reducible apply only_refl | (with_reducible apply Blk.emit_only <;> [decide; skip]) | with_reducible apply only_ite | extract_lets | split | (intros; dsimp only) | intro _)

theorem execChannelRetrainEnd_frame (x0 x1 x2 x3) (s t : State) (h : execChannelRetrainEnd x0 x1 x2 x3 s = .next t) : Only [.free, .out, .od, .regs, .hA, .hB, .muslin, .can, .dev, .path, .lines, .poison, .media, .velvet, .twill, .gauze, .damask, .linen, .tweed, .modes, .safety] (s.blk.at x0) t.blk := by
  unfold execChannelRetrainEnd State.command at h
  cases h
  generalize s.blk.at x0 = b
  dsimp only
  refine only_ite (only_refl _ _) (only_ite ?_ (only_ite (Blk.onChan_only _ _ _ (by decide) (only_refl _ _)) (Blk.channelFail_only _ _ (by decide) (only_refl _ _))))
  refine Blk.channelBack_only _ _ _ (by decide) (only_ite (Blk.fullTraining_only _ _ _ _ (by decide) (only_refl _ _)) ?_)
  exact only_foldl (fun c x hc => Blk.trainDie_only _ _ _ (by decide) hc) _ _ (only_refl _ _)

theorem execReturnRampEnd_frame (x0) (s t : State) (h : execReturnRampEnd x0 s = .next t) : Only [.out, .od, .hA, .hB, .muslin, .can, .media, .linen, .tweed, .clocks, .modes] (s.blk.at x0) t.blk := by
  unfold execReturnRampEnd State.command at h
  cases h
  generalize s.blk.at x0 = b
  dsimp only
  repeat (first | assumption | with_reducible apply only_refl | (with_reducible apply Blk.onClocks_only <;> [decide; skip]) | (with_reducible apply Blk.faultPin_only <;> [decide; skip]) | (with_reducible apply Blk.leave_only <;> [decide; skip]) | (with_reducible apply Blk.wake_only <;> [decide; skip]) | with_reducible apply only_ite | extract_lets | split | (intros; dsimp only) | intro _ | (refine ⟨fun p hp => ?_⟩; cases p <;> first | rfl | exact absurd (by decide) hp))

theorem execRedistributionComplete_frame (x0) (s t : State) (h : execRedistributionComplete x0 s = .next t) : Only [.out, .od, .hA, .hB, .muslin, .can, .linen, .tweed, .modes, .safety] (s.blk.at x0) t.blk := by
  unfold execRedistributionComplete State.command at h
  cases h
  generalize s.blk.at x0 = b
  dsimp only
  repeat (first | assumption | with_reducible apply only_refl | (with_reducible apply Blk.onSafety_only <;> [decide; skip]) | (with_reducible apply Blk.degrade_only <;> [decide; skip]) | with_reducible apply only_ite | extract_lets | split | (intros; dsimp only) | intro _ | (refine ⟨fun p hp => ?_⟩; cases p <;> first | rfl | exact absurd (by decide) hp))

theorem execAddCapacityOffer_frame (x0) (s t : State) (h : execAddCapacityOffer x0 s = .next t) : Only [.out, .hA, .hB, .dev] (s.blk.at x0) t.blk := by
  unfold execAddCapacityOffer State.command at h
  cases h
  generalize s.blk.at x0 = b
  dsimp only
  repeat (first | assumption | with_reducible apply only_refl | (with_reducible apply Blk.onDev_only <;> [decide; skip]) | (with_reducible apply Blk.onHead_only <;> [decide; skip]) | (with_reducible apply Blk.dcRecord_only <;> [decide; skip]) | (with_reducible refine only_foldl (fun c x hc => ?_) _ _ ?_) | with_reducible apply only_ite | extract_lets | split | (intros; dsimp only) | intro _ | (refine ⟨fun p hp => ?_⟩; cases p <;> first | rfl | exact absurd (by decide) hp))

theorem execTestEnRise_frame (x0) (s t : State) (h : execTestEnRise x0 s = .next t) : Only [.free, .out, .od, .hA, .hB, .can, .path, .linen, .tweed, .modes, .safety] (s.blk.at x0) t.blk := by
  unfold execTestEnRise State.command at h
  cases h
  generalize s.blk.at x0 = b
  dsimp only
  repeat (first | assumption | with_reducible apply only_refl | (with_reducible apply Blk.useFree_only <;> [decide; skip]) | (with_reducible apply Blk.detect_only <;> [decide; skip]) | with_reducible apply only_ite | extract_lets | split | (intros; dsimp only) | intro _)

theorem execTapInstruction_frame (x0 x1) (s t : State) (h : execTapInstruction x0 x1 s = .next t) : Only [.out, .tap] (s.blk.at x0) t.blk := by
  unfold execTapInstruction State.command at h
  cases h
  generalize s.blk.at x0 = b
  dsimp only
  repeat (first | assumption | with_reducible apply only_refl | (with_reducible apply Blk.emit_only <;> [decide; skip]) | with_reducible apply only_ite | extract_lets | split | (intros; dsimp only) | intro _ | (refine ⟨fun p hp => ?_⟩; cases p <;> first | rfl | exact absurd (by decide) hp))

theorem execCanBusJoin_frame (x0) (s t : State) (h : execCanBusJoin x0 s = .next t) : Only [.out, .can] (s.blk.at x0) t.blk := by
  unfold execCanBusJoin State.command at h
  cases h
  generalize s.blk.at x0 = b
  dsimp only
  repeat (first | assumption | with_reducible apply only_refl | (with_reducible apply Blk.onCan_only <;> [decide; skip]) | (with_reducible apply Blk.canPump_only <;> [decide; skip]) | with_reducible apply only_ite | extract_lets | split | (intros; dsimp only) | intro _ | (refine ⟨fun p hp => ?_⟩; cases p <;> first | rfl | exact absurd (by decide) hp))

theorem execCxlComplianceRequest_frame (x0 x1) (s t : State) (h : execCxlComplianceRequest x0 x1 s = .next t) : Only [.free, .out] (s.blk.at x0) t.blk := by
  unfold execCxlComplianceRequest State.command at h
  cases h
  generalize s.blk.at x0 = b
  dsimp only
  repeat (first | assumption | with_reducible apply only_refl | (with_reducible apply Blk.emit_only <;> [decide; skip]) | (with_reducible apply Blk.useFree_only <;> [decide; skip]) | with_reducible apply only_ite | extract_lets | split | (intros; dsimp only) | intro _)

theorem execComponentRegisterWrite_frame (x0 x1 x2) (s t : State) (h : execComponentRegisterWrite x0 x1 x2 s = .next t) : Only [.hA, .hB] (s.blk.at x0) t.blk := by
  unfold execComponentRegisterWrite State.command at h
  cases h
  generalize s.blk.at x0 = b
  dsimp only
  repeat (first | assumption | with_reducible apply only_refl | (with_reducible apply Blk.onHead_only <;> [decide; skip]) | with_reducible apply only_ite | extract_lets | split | (intros; dsimp only) | intro _ | (refine ⟨fun p hp => ?_⟩; cases p <;> first | rfl | exact absurd (by decide) hp))

theorem execConfigurationRequest_frame (x0 x1 x2) (s t : State) (h : execConfigurationRequest x0 x1 x2 s = .next t) : Only [.out, .hA, .hB] (s.blk.at x0) t.blk := by
  unfold execConfigurationRequest State.command at h
  cases h
  generalize s.blk.at x0 = b
  dsimp only
  repeat (first | assumption | with_reducible apply only_refl | (with_reducible apply Blk.onHead_only <;> [decide; skip]) | (with_reducible apply Blk.emit_only <;> [decide; skip]) | with_reducible apply only_ite | extract_lets | split | (intros; dsimp only) | intro _ | (refine ⟨fun p hp => ?_⟩; cases p <;> first | rfl | exact absurd (by decide) hp))

end Sys2Proof.Machine
end

