-- ==== Sys2Proof/Laws/Map.lean ====
section
/-! SUPPORT. Laws of the sparse tables: a read after a write, and that each operation keeps the canonical form. -/

namespace Sys2Proof.Machine

/-- Every key of the table is above `k`. -/
def NMap.above {α : Type} (k : Nat) (m : NMap α) : Prop := ∀ e ∈ m, k < e.1

theorem NMap.rising_cons {α : Type} (e : Nat × α) (m : NMap α) :
    NMap.rising (e :: m) = true ↔ NMap.above e.1 m ∧ NMap.rising m = true := by
  induction m generalizing e with
  | nil => simp [NMap.rising, NMap.above]
  | cons f m ih =>
    obtain ⟨i, v⟩ := e
    obtain ⟨j, w⟩ := f
    simp only [NMap.rising, Bool.and_eq_true, decide_eq_true_eq]
    constructor
    · rintro ⟨h, hr⟩
      refine ⟨?_, hr⟩
      have h2 := ((ih (j, w)).1 hr).1
      intro e he
      rcases List.mem_cons.1 he with rfl | he
      · exact h
      · exact lt_trans h (h2 e he)
    · rintro ⟨h, hr⟩
      exact ⟨h (j, w) (by simp), hr⟩

@[simp] theorem NMap.find_nil {α : Type} (k : Nat) : NMap.find ([] : NMap α) k = none := rfl

theorem NMap.find_of_above {α : Type} {k : Nat} {m : NMap α} (h : NMap.above k m) : m.find k = none := by
  cases m with
  | nil => rfl
  | cons e m =>
    obtain ⟨j, w⟩ := e
    have hj : k < j := h (j, w) (by simp)
    simp [NMap.find, hj, Nat.ne_of_lt hj]

@[simp] theorem NMap.find_put_same {α : Type} (m : NMap α) (k : Nat) (v : α) : (m.put k v).find k = some v := by
  induction m with
  | nil => simp [NMap.put, NMap.find]
  | cons e m ih =>
    obtain ⟨j, w⟩ := e
    by_cases h1 : k = j
    · subst h1; simp [NMap.put, NMap.find]
    · by_cases h2 : k < j <;> simp [NMap.put, NMap.find, h1, h2, ih]

theorem NMap.find_put_other {α : Type} {m : NMap α} {k i : Nat} (v : α) (h : i ≠ k) :
    (m.put k v).find i = m.find i := by
  induction m with
  | nil => simp [NMap.put, NMap.find, h]
  | cons e m ih =>
    obtain ⟨j, w⟩ := e
    by_cases h1 : k = j
    · subst h1; simp [NMap.put, NMap.find, h]
    · by_cases h2 : k < j
      · by_cases h3 : i < k
        · simp [NMap.put, NMap.find, h1, h2, h, h3, Nat.ne_of_lt (lt_trans h3 h2), lt_trans h3 h2]
        · simp [NMap.put, NMap.find, h1, h2, h, h3]
      · simp [NMap.put, NMap.find, h1, h2, ih]

theorem NMap.put_above {α : Type} {m : NMap α} {i k : Nat} {v : α} (h : NMap.above i m) (hk : i < k) :
    NMap.above i (m.put k v) := by
  induction m with
  | nil => intro e he; simp [NMap.put] at he; subst he; exact hk
  | cons e m ih =>
    obtain ⟨j, w⟩ := e
    have hm : NMap.above i m := fun e he => h e (by simp [he])
    have hj : i < j := h (j, w) (by simp)
    intro e he
    simp only [NMap.put] at he
    split at he
    · rcases List.mem_cons.1 he with rfl | he
      · exact hk
      · exact hm e he
    · split at he
      · rcases List.mem_cons.1 he with rfl | he
        · exact hk
        · exact h e he
      · rcases List.mem_cons.1 he with rfl | he
        · exact hj
        · exact ih hm e he

theorem NMap.put_rising {α : Type} {m : NMap α} (k : Nat) (v : α) (h : m.rising = true) :
    (m.put k v).rising = true := by
  induction m with
  | nil => rfl
  | cons e m ih =>
    obtain ⟨j, w⟩ := e
    obtain ⟨ha, hr⟩ := (NMap.rising_cons _ _).1 h
    simp only [NMap.put]
    split
    · next h1 => subst h1; exact (NMap.rising_cons _ _).2 ⟨ha, hr⟩
    · split
      · next h2 =>
        refine (NMap.rising_cons _ _).2 ⟨?_, h⟩
        intro e he
        rcases List.mem_cons.1 he with rfl | he
        · exact h2
        · exact lt_trans h2 (ha e he)
      · next h1 h2 => exact (NMap.rising_cons _ _).2 ⟨NMap.put_above ha (by simp at h1 h2 ⊢; omega), ih hr⟩

theorem NMap.del_above {α : Type} {m : NMap α} {i : Nat} (k : Nat) (h : NMap.above i m) : NMap.above i (m.del k) := by
  induction m with
  | nil => exact h
  | cons e m ih =>
    obtain ⟨j, w⟩ := e
    have hm : NMap.above i m := fun e he => h e (by simp [he])
    simp only [NMap.del]
    split
    · exact hm
    · split
      · exact h
      · intro e he
        rcases List.mem_cons.1 he with rfl | he
        · exact h (j, w) (by simp)
        · exact ih hm e he

theorem NMap.del_rising {α : Type} {m : NMap α} (k : Nat) (h : m.rising = true) : (m.del k).rising = true := by
  induction m with
  | nil => rfl
  | cons e m ih =>
    obtain ⟨j, w⟩ := e
    obtain ⟨ha, hr⟩ := (NMap.rising_cons _ _).1 h
    simp only [NMap.del]
    split
    · exact hr
    · split
      · exact h
      · exact (NMap.rising_cons _ _).2 ⟨NMap.del_above k ha, ih hr⟩

theorem NMap.mem_put {α : Type} {m : NMap α} {k : Nat} {v : α} {e : Nat × α} (h : e ∈ m.put k v) : e = (k, v) ∨ e ∈ m := by
  induction m with
  | nil => simp [NMap.put] at h; exact .inl h
  | cons f m ih =>
    obtain ⟨j, w⟩ := f
    simp only [NMap.put] at h
    split at h
    · rcases List.mem_cons.1 h with h | h
      · exact .inl h
      · exact .inr (by simp [h])
    · split at h
      · rcases List.mem_cons.1 h with h | h
        · exact .inl h
        · exact .inr h
      · rcases List.mem_cons.1 h with h | h
        · exact .inr (by simp [h])
        · rcases ih h with h | h
          · exact .inl h
          · exact .inr (by simp [h])

theorem NMap.mem_del {α : Type} {m : NMap α} {k : Nat} {e : Nat × α} (h : e ∈ m.del k) : e ∈ m := by
  induction m with
  | nil => exact h
  | cons f m ih =>
    obtain ⟨j, w⟩ := f
    simp only [NMap.del] at h
    split at h
    · simp [h]
    · split at h
      · exact h
      · rcases List.mem_cons.1 h with h | h
        · simp [h]
        · simp [ih h]

/-- Writing a value keeps the canonical form. -/
theorem NMap.set_wf {α : Type} [DecidableEq α] {m : NMap α} {d : α} (k : Nat) (v : α) (h : m.wf d = true) :
    (m.set d k v).wf d = true := by
  simp only [NMap.wf, Bool.and_eq_true, List.all_eq_true, decide_eq_true_eq] at h ⊢
  unfold NMap.set
  split
  · exact ⟨NMap.del_rising k h.1, fun e he => h.2 e (NMap.mem_del he)⟩
  · next hv =>
    refine ⟨NMap.put_rising k v h.1, fun e he => ?_⟩
    rcases NMap.mem_put he with rfl | he
    · exact hv
    · exact h.2 e he

/-- Taking a key off keeps the canonical form. -/
theorem NMap.del_wf {α : Type} [DecidableEq α] {m : NMap α} {d : α} (k : Nat) (h : m.wf d = true) :
    (m.del k).wf d = true := by
  simp only [NMap.wf, Bool.and_eq_true, List.all_eq_true, decide_eq_true_eq] at h ⊢
  exact ⟨NMap.del_rising k h.1, fun e he => h.2 e (NMap.mem_del he)⟩

theorem NMap.find_del_same {α : Type} {m : NMap α} (k : Nat) (h : m.rising = true) : (m.del k).find k = none := by
  induction m with
  | nil => rfl
  | cons e m ih =>
    obtain ⟨j, w⟩ := e
    obtain ⟨ha, hr⟩ := (NMap.rising_cons _ _).1 h
    simp only [NMap.del]
    split
    · next h1 => subst h1; exact NMap.find_of_above ha
    · split
      · next h1 h2 => simp [NMap.find, h1, h2]
      · next h1 h2 => simp [NMap.find, h1, h2, ih hr]

theorem NMap.find_del_other {α : Type} {m : NMap α} {k i : Nat} (h : m.rising = true) (hi : i ≠ k) :
    (m.del k).find i = m.find i := by
  induction m with
  | nil => rfl
  | cons e m ih =>
    obtain ⟨j, w⟩ := e
    obtain ⟨ha, hr⟩ := (NMap.rising_cons _ _).1 h
    simp only [NMap.del]
    split
    · next h1 =>
      subst h1
      by_cases h2 : i < k
      · simp [NMap.find, hi, h2, NMap.find_of_above (m := m) (k := i) (fun e he => lt_trans h2 (ha e he))]
      · simp [NMap.find, hi, h2]
    · split
      · rfl
      · simp [NMap.find, ih hr]

/-- A filter on keys keeps a listed value exactly where its key passes. -/
theorem NMap.find_filter {α : Type} {m : NMap α} (p : Nat → Bool) (h : m.rising = true) (k : Nat) :
    NMap.find (m.filter fun e => p e.1) k = if p k then m.find k else none := by
  induction m with
  | nil => simp
  | cons e m ih =>
    obtain ⟨j, w⟩ := e
    have h1 := (NMap.rising_cons (j, w) m).1 h
    have away : k ≤ j → NMap.find (m.filter fun e => p e.1) k = none := fun hk =>
      NMap.find_of_above fun x hx => Nat.lt_of_le_of_lt hk (h1.1 x (List.mem_filter.1 hx).1)
    have ih := ih h1.2
    by_cases hk : k = j
    · subst hk
      cases hp : p k <;> simp [hp, NMap.find, away]
    · by_cases hl : k < j
      · cases hp : p j <;> simp [hp, NMap.find, hk, hl, away (Nat.le_of_lt hl)]
      · cases hp : p j <;> simp [hp, NMap.find, hk, hl, ih]

end Sys2Proof.Machine
end

