-- ==== Sys2Proof/Laws/KeptForm.lean ====
section
/-! SUPPORT. The stored lines keep their canonical form: one lemma for each operation and each command that writes lines. -/

set_option linter.all false
set_option Elab.async false

namespace Sys2Proof.Machine

open Sys2Proof.Safety

theorem keep_form {l : List Part} {b c : Blk} (h : Only l b c) (hl : Part.lines ∉ l) (hb : MediaForm b) : MediaForm c := by
  unfold MediaForm at *
  have := h.same _ hl
  simp only [same] at this
  rw [this]; exact hb

theorem form_foldl {α : Type} {f : Blk → α → Blk} (hf : ∀ c x, MediaForm c → MediaForm (f c x)) (l : List α) (b : Blk) (hb : MediaForm b) : MediaForm (l.foldl f b) := by
  induction l generalizing b with
  | nil => exact hb
  | cons x l ih => exact ih _ (hf _ _ hb)

theorem form_ite {p : Prop} [Decidable p] {b c : Blk} (hb : MediaForm b) (hc : MediaForm c) : MediaForm (if p then b else c) := by
  split <;> assumption

theorem form_ite_fst {α : Type} {p : Prop} [Decidable p] {b c : Blk × α} (hb : MediaForm b.1) (hc : MediaForm c.1) : MediaForm (if p then b else c).1 := by
  split <;> assumption

theorem onMedia_form {b : Blk} {f : Media → Media} (hf : ∀ m, (f m).lines = m.lines) (hb : MediaForm b) : MediaForm (b.onMedia f) := by
  unfold MediaForm at *; simp only [Blk.onMedia_media, hf]; exact hb

theorem onMedia_lines' {b : Blk} {f : Media → Media} (hf : ∀ m, m.lines.rising = true → (f m).lines.rising = true) (hb : MediaForm b) : MediaForm (b.onMedia f) := by
  unfold MediaForm at *; simp only [Blk.onMedia_media]; exact hf _ hb

theorem Blk.onMedia_lap {b : Blk} {c : Cls} {f : Lap → Lap} (hb : MediaForm b) : MediaForm (b.onMedia fun m => m.onLap c f) :=
  onMedia_form (fun m => by cases c <;> rfl) hb

theorem NMap.filter_rising {α : Type} {m : NMap α} (p : Nat × α → Bool) (h : m.rising = true) : NMap.rising (m.filter p) = true := by
  induction m with
  | nil => rfl
  | cons e m ih =>
    have h1 := (NMap.rising_cons e m).1 h
    simp only [List.filter_cons]
    split
    · exact (NMap.rising_cons e _).2 ⟨fun x hx => h1.1 x (List.mem_filter.1 hx).1, ih h1.2⟩
    · exact ih h1.2

theorem form_foldl_pair {α β : Type} {f : Blk × β → α → Blk × β} (hf : ∀ c x, MediaForm c.1 → MediaForm (f c x).1) (l : List α) (c : Blk × β) (hc : MediaForm c.1) : MediaForm (l.foldl f c).1 := by
  induction l generalizing c with
  | nil => exact hc
  | cons x l ih => exact ih _ (hf _ _ hc)

theorem Blk.storeLine_form (b : Blk) (loc : Nat) (x : MLine) (h₀ : MediaForm b) : MediaForm (Blk.storeLine b loc x) := by
  unfold Blk.storeLine; exact onMedia_lines' (fun m hm => NMap.put_rising _ _ hm) h₀

theorem Blk.blankLine_form (b : Blk) (loc : Nat) (h₀ : MediaForm b) : MediaForm (Blk.blankLine b loc) := by
  unfold Blk.blankLine; exact onMedia_lines' (fun m hm => NMap.del_rising _ hm) h₀

theorem Blk.onTwill_form (b : Blk) (f : Twill → Twill) (h₀ : MediaForm b) : MediaForm (Blk.onTwill b f) :=
  keep_form (Blk.onTwill_only (m₀ := [.twill]) b f (by decide) (only_refl _ _)) (by decide) h₀

theorem Blk.countWrites_form (b : Blk) (slot n : Nat) (h₀ : MediaForm b) : MediaForm (Blk.countWrites b slot n) :=
  keep_form (Blk.countWrites_only (m₀ := [.out, .od, .hA, .hB, .can, .twill, .linen]) b slot n (by decide) (only_refl _ _)) (by decide) h₀

theorem Blk.journalRec_form (b : Blk) (type : Nat) (items : List Nat) (h₀ : MediaForm b) : MediaForm (Blk.journalRec b type items) := by
  unfold Blk.journalRec
  repeat (first | with_reducible assumption | (with_reducible apply Blk.onTwill_form) | (with_reducible apply Blk.storeLine_form) | (with_reducible apply Blk.countWrites_form) | extract_lets | (dsimp +zetaDelta only))

theorem Blk.reportUnit_form (b : Blk) (code : BitVec 16) (cls : BitVec 8) (unit : Nat) (dpa : Option Nat := none) (h₀ : MediaForm b) : MediaForm (Blk.reportUnit b code cls unit dpa) :=
  keep_form (Blk.reportUnit_only (m₀ := [.out, .od, .hA, .hB, .can, .linen]) b code cls unit dpa (by decide) (only_refl _ _)) (by decide) h₀

theorem Blk.setSlot_form (b : Blk) (slot : Nat) (x : SlotSt) (h₀ : MediaForm b) : MediaForm (Blk.setSlot b slot x) :=
  keep_form (Blk.setSlot_only (m₀ := [.twill]) b slot x (by decide) (only_refl _ _)) (by decide) h₀

theorem Blk.lifeCheck_form (b : Blk) (h₀ : MediaForm b) : MediaForm (Blk.lifeCheck b) :=
  keep_form (Blk.lifeCheck_only (m₀ := [.out, .od, .hA, .hB, .muslin, .can, .dev, .twill, .linen, .tweed, .modes]) b (by decide) (only_refl _ _)) (by decide) h₀

theorem Blk.retireSlot_form (b : Blk) (slot wear reason : Nat) (h₀ : MediaForm b) : MediaForm (Blk.retireSlot b slot wear reason) := by
  unfold Blk.retireSlot
  repeat (first | with_reducible assumption | (with_reducible apply Blk.onTwill_form) | (with_reducible apply Blk.reportUnit_form) | (with_reducible apply Blk.setSlot_form) | (with_reducible apply Blk.lifeCheck_form) | (with_reducible apply Blk.journalRec_form) | with_reducible apply form_ite)

theorem Blk.retireWaiting_form (b : Blk) (h₀ : MediaForm b) : MediaForm (Blk.retireWaiting b) := by
  unfold Blk.retireWaiting
  repeat (first | with_reducible assumption | (with_reducible apply Blk.onTwill_form) | (with_reducible apply Blk.retireSlot_form) | (with_reducible refine form_foldl (fun c x hc => ?_) _ _ ?_) | with_reducible apply form_ite)

theorem Blk.countTransfers_form (b : Blk) (locs : List Nat) (h₀ : MediaForm b) : MediaForm (Blk.countTransfers b locs) :=
  keep_form (Blk.countTransfers_only (m₀ := [.tweed]) b locs (by decide) (only_refl _ _)) (by decide) h₀

theorem Blk.putOwnLine_form (b : Blk) (x : Mem) (type v : Nat) (bytes : List Byte) (h₀ : MediaForm b) : MediaForm (Blk.putOwnLine b x type v bytes) := by
  unfold Blk.putOwnLine
  repeat (first | with_reducible assumption | (with_reducible apply Blk.storeLine_form) | (with_reducible apply Blk.countWrites_form) | (with_reducible apply Blk.countTransfers_form) | extract_lets | (dsimp +zetaDelta only))

theorem Blk.program_form (b : Blk) (x : Pend) (h₀ : MediaForm b) : MediaForm (Blk.program b x) :=
  keep_form (Blk.program_only (m₀ := [.free, .out, .od, .hA, .hB, .can, .media, .twill, .linen, .tweed]) b x (by decide) (only_refl _ _)) (by decide) h₀

theorem Blk.nextRow_form (b : Blk) (n : Nat) (h₀ : MediaForm b) : MediaForm (Blk.nextRow b n) :=
  keep_form (Blk.nextRow_only (m₀ := [.twill]) b n (by decide) (only_refl _ _)) (by decide) h₀

theorem Blk.closeStripe_form (b : Blk) (n : Nat) (now : Bool := false) (h₀ : MediaForm b) : MediaForm (Blk.closeStripe b n now) := by
  unfold Blk.closeStripe
  repeat (first | with_reducible assumption | (with_reducible apply Blk.onTwill_form) | (with_reducible apply Blk.storeLine_form) | (with_reducible apply Blk.countWrites_form) | (with_reducible apply Blk.countTransfers_form) | (with_reducible apply Blk.program_form) | (with_reducible apply Blk.nextRow_form) | (with_reducible refine form_foldl (fun c x hc => ?_) _ _ ?_) | with_reducible apply form_ite | extract_lets | split | (dsimp +zetaDelta only))

theorem Blk.closeFull_form (b : Blk) (slot stripe pos : Nat) (now : Bool := false) (h₀ : MediaForm b) : MediaForm (Blk.closeFull b slot stripe pos now) := by
  unfold Blk.closeFull
  repeat (first | with_reducible assumption | (with_reducible apply Blk.closeStripe_form) | with_reducible apply form_ite | split)

theorem Blk.takePosition_form (b : Blk) (li : Nat) (data : Line) (n : Nat) (l : Lane) (h₀ : MediaForm b) : MediaForm (Blk.takePosition b li data n l).1 :=
  keep_form (Blk.takePosition_only (m₀ := [.twill, .tweed]) b li data n l (by decide) (only_refl _ _)) (by decide) h₀

theorem Blk.setHot_form (b : Blk) (li slot stripe pos : Nat) (h₀ : MediaForm b) : MediaForm (Blk.setHot b li slot stripe pos) :=
  keep_form (Blk.setHot_only (m₀ := [.od, .twill, .damask, .tweed]) b li slot stripe pos (by decide) (only_refl _ _)) (by decide) h₀

theorem Blk.appendNow_form (b : Blk) (li : Nat) (data : Line) (n : Nat) (h₀ : MediaForm b) : MediaForm (Blk.appendNow b li data n) := by
  unfold Blk.appendNow
  repeat (first | with_reducible assumption | (with_reducible apply Blk.storeLine_form) | (with_reducible apply Blk.countWrites_form) | (with_reducible apply Blk.countTransfers_form) | (with_reducible apply Blk.closeFull_form) | (with_reducible apply Blk.takePosition_form) | (with_reducible apply Blk.setHot_form) | extract_lets | split | (dsimp +zetaDelta only))

theorem Blk.writeNow_form (b : Blk) (ws : Writes) (h₀ : MediaForm b) : MediaForm (Blk.writeNow b ws) := by
  unfold Blk.writeNow
  repeat (first | with_reducible assumption | (with_reducible apply Blk.storeLine_form) | (with_reducible apply Blk.countWrites_form) | (with_reducible apply Blk.countTransfers_form) | (with_reducible refine form_foldl (fun c x hc => ?_) _ _ ?_))

theorem Blk.cleanTag_form (b : Blk) (ti : Nat) (h₀ : MediaForm b) : MediaForm (Blk.cleanTag b ti) :=
  keep_form (Blk.cleanTag_only (m₀ := [.damask]) b ti (by decide) (only_refl _ _)) (by decide) h₀

theorem Blk.flushTag_form (b : Blk) (ti : Nat) (h₀ : MediaForm b) : MediaForm (Blk.flushTag b ti) := by
  unfold Blk.flushTag
  repeat (first | with_reducible assumption | (with_reducible apply Blk.cleanTag_form) | (with_reducible apply Blk.writeNow_form) | with_reducible apply form_ite)

theorem Blk.putTag_form (b : Blk) (ti : Nat) (t : TagLine) (h₀ : MediaForm b) : MediaForm (Blk.putTag b ti t) :=
  keep_form (Blk.putTag_only (m₀ := [.damask]) b ti t (by decide) (only_refl _ _)) (by decide) h₀

theorem Blk.useTag_form (b : Blk) (ti : Nat) (h₀ : MediaForm b) : MediaForm (Blk.useTag b ti) :=
  keep_form (Blk.useTag_only (m₀ := [.od, .damask, .tweed]) b ti (by decide) (only_refl _ _)) (by decide) h₀

theorem Blk.poisonLine_form (b : Blk) (li : Nat) (code : BitVec 16) (tx : MediaTx := .internal) (addr : Bool := false) (h₀ : MediaForm b) : MediaForm (Blk.poisonLine b li code tx addr) :=
  keep_form (Blk.poisonLine_only (m₀ := [.free, .out, .od, .hA, .hB, .can, .path, .poison, .media, .linen, .tweed, .modes]) b li code tx addr (by decide) (only_refl _ _)) (by decide) h₀

theorem Blk.reencrypt_form (b : Blk) (ti : Nat) (epoch : BitVec 8) (major : BitVec 24) (new : Option (Nat × Line)) (h₀ : MediaForm b) : MediaForm (Blk.reencrypt b ti epoch major new) := by
  unfold Blk.reencrypt
  repeat (first | with_reducible assumption | (with_reducible apply Blk.putTag_form) | (with_reducible apply Blk.useTag_form) | (with_reducible apply Blk.poisonLine_form) | (with_reducible apply Blk.writeNow_form) | (with_reducible apply Blk.flushTag_form) | (with_reducible refine form_foldl (fun c x hc => ?_) _ _ ?_) | extract_lets | (dsimp +zetaDelta only))

theorem Blk.bump_form (b : Blk) (idx sub n : Nat) (h₀ : MediaForm b) : MediaForm (Blk.bump b idx sub n) :=
  keep_form (Blk.bump_only (m₀ := [.od]) b idx sub n (by decide) (only_refl _ _)) (by decide) h₀

theorem Blk.tw_form (b : Blk) (i c : Nat) (h₀ : MediaForm b) : MediaForm (Blk.tw b i c) :=
  keep_form (Blk.tw_only (m₀ := [.tweed]) b i c (by decide) (only_refl _ _)) (by decide) h₀

theorem Blk.coldCipher_form (b : Blk) (li : Nat) (p : Place) (data : Line) (h₀ : MediaForm b) : MediaForm (Blk.coldCipher b li p data).1 :=
  keep_form (Blk.coldCipher_only (m₀ := [.od, .damask, .tweed]) b li p data (by decide) (only_refl _ _)) (by decide) h₀

theorem Blk.writeHomeNow_form (b : Blk) (li : Nat) (data : Line) (h₀ : MediaForm b) : MediaForm (Blk.writeHomeNow b li data) := by
  unfold Blk.writeHomeNow
  repeat (first | with_reducible assumption | (with_reducible apply Blk.bump_form) | (with_reducible apply Blk.tw_form) | (with_reducible apply Blk.writeNow_form) | (with_reducible apply Blk.reencrypt_form) | (with_reducible apply Blk.coldCipher_form) | with_reducible apply form_ite | extract_lets | split | (dsimp +zetaDelta only))

theorem Blk.onAcc_form (b : Blk) (rid : Nat) (f : Acc → Acc) (h₀ : MediaForm b) : MediaForm (Blk.onAcc b rid f) :=
  keep_form (Blk.onAcc_only (m₀ := [.path]) b rid f (by decide) (only_refl _ _)) (by decide) h₀

theorem Blk.finishWrite_form (b : Blk) (x : Acc) (h₀ : MediaForm b) : MediaForm (Blk.finishWrite b x) :=
  keep_form (Blk.finishWrite_only (m₀ := [.free, .out, .od, .hA, .hB, .can, .path, .linen, .tweed]) b x (by decide) (only_refl _ _)) (by decide) h₀

theorem Blk.endWrite_form (b : Blk) (x : Acc) (h₀ : MediaForm b) : MediaForm (Blk.endWrite b x) := by
  unfold Blk.endWrite
  repeat (first | with_reducible assumption | (with_reducible apply Blk.onAcc_form) | (with_reducible apply Blk.finishWrite_form) | with_reducible apply form_ite)

theorem Blk.wrote_form (b : Blk) (src : Src) (idx sub st : Nat) (h₀ : MediaForm b) : MediaForm (Blk.wrote b src idx sub st) :=
  keep_form (Blk.wrote_only (m₀ := [.out, .can]) b src idx sub st (by decide) (only_refl _ _)) (by decide) h₀

theorem Blk.completeWrites_form (b : Blk) (li : Nat) (all : Bool) (h₀ : MediaForm b) : MediaForm (Blk.completeWrites b li all) := by
  unfold Blk.completeWrites
  repeat (first | with_reducible assumption | (with_reducible apply Blk.program_form) | (with_reducible apply Blk.endWrite_form) | (with_reducible apply Blk.wrote_form) | (with_reducible refine form_foldl (fun c x hc => ?_) _ _ ?_))

theorem Blk.onVelvet_form (b : Blk) (f : Velvet → Velvet) (h₀ : MediaForm b) : MediaForm (Blk.onVelvet b f) :=
  keep_form (Blk.onVelvet_only (m₀ := [.velvet]) b f (by decide) (only_refl _ _)) (by decide) h₀

theorem Blk.putWay_form (b : Blk) (key : Nat) (v : VWay) (h₀ : MediaForm b) : MediaForm (Blk.putWay b key v) :=
  keep_form (Blk.putWay_only (m₀ := [.velvet]) b key v (by decide) (only_refl _ _)) (by decide) h₀

theorem Blk.putBuf_form (b : Blk) (n : Nat) (x : HBuf) (h₀ : MediaForm b) : MediaForm (Blk.putBuf b n x) :=
  keep_form (Blk.putBuf_only (m₀ := [.velvet]) b n x (by decide) (only_refl _ _)) (by decide) h₀

theorem Blk.maintain_form (b : Blk) (h₀ : MediaForm b) : MediaForm (Blk.maintain b) :=
  keep_form (Blk.maintain_only (m₀ := [.out, .od, .can, .velvet]) b (by decide) (only_refl _ _)) (by decide) h₀

theorem Blk.barriersDone_form (b : Blk) (li upto : Nat) (h₀ : MediaForm b) : MediaForm (Blk.barriersDone b li upto) :=
  keep_form (Blk.barriersDone_only (m₀ := [.path]) b li upto (by decide) (only_refl _ _)) (by decide) h₀

theorem Blk.bufferDone_form (b : Blk) (n : Nat) (h₀ : MediaForm b) : MediaForm (Blk.bufferDone b n) := by
  unfold Blk.bufferDone
  repeat (first | with_reducible assumption | (with_reducible apply Blk.onVelvet_form) | (with_reducible apply Blk.putWay_form) | (with_reducible apply Blk.putBuf_form) | (with_reducible apply Blk.maintain_form) | (with_reducible apply Blk.barriersDone_form) | (with_reducible apply Blk.completeWrites_form) | with_reducible apply form_ite | extract_lets | split | (dsimp +zetaDelta only))

theorem Blk.throughDone_form (b : Blk) (li since : Nat) (h₀ : MediaForm b) : MediaForm (Blk.throughDone b li since) := by
  unfold Blk.throughDone
  repeat (first | with_reducible assumption | (with_reducible apply Blk.putWay_form) | (with_reducible apply Blk.maintain_form) | (with_reducible apply Blk.program_form) | (with_reducible apply Blk.barriersDone_form) | (with_reducible apply Blk.completeWrites_form) | (with_reducible apply Blk.wrote_form) | with_reducible apply form_ite | extract_lets | split | (dsimp +zetaDelta only))

theorem Blk.takeSlot_form (b : Blk) (x : Mem) (why : ReadFor) (h₀ : MediaForm b) : MediaForm (Blk.takeSlot b x why) :=
  keep_form (Blk.takeSlot_only (m₀ := [.free, .media, .tweed]) b x why (by decide) (only_refl _ _)) (by decide) h₀

theorem Blk.tagRecon_form (b : Blk) (rid ti : Nat) (h₀ : MediaForm b) : MediaForm (Blk.tagRecon b rid ti) := by
  unfold Blk.tagRecon
  repeat (first | with_reducible assumption | (with_reducible apply Blk.onAcc_form) | (with_reducible apply Blk.takeSlot_form) | (with_reducible refine form_foldl (fun c x hc => ?_) _ _ ?_) | with_reducible apply form_ite | extract_lets | (dsimp +zetaDelta only))

theorem Blk.readTag_form (b : Blk) (rid ti : Nat) (h₀ : MediaForm b) : MediaForm (Blk.readTag b rid ti) := by
  unfold Blk.readTag
  repeat (first | with_reducible assumption | (with_reducible apply Blk.takeSlot_form) | (with_reducible apply Blk.tagRecon_form) | with_reducible apply form_ite | extract_lets | (dsimp +zetaDelta only))

theorem Blk.awaitTag_form (b : Blk) (rid ti : Nat) (held : Bool) (h₀ : MediaForm b) : MediaForm (Blk.awaitTag b rid ti held) := by
  unfold Blk.awaitTag
  repeat (first | with_reducible assumption | (with_reducible apply Blk.onAcc_form) | (with_reducible apply Blk.readTag_form) | with_reducible apply form_ite | extract_lets | (dsimp +zetaDelta only))

theorem Blk.report_form (b : Blk) (q : Report) (h₀ : MediaForm b) : MediaForm (Blk.report b q) :=
  keep_form (Blk.report_only (m₀ := [.out, .od, .hA, .hB, .can, .linen]) b q (by decide) (only_refl _ _)) (by decide) h₀

theorem Blk.finishRead_form (b : Blk) (x : Acc) (data : Option Half) (h₀ : MediaForm b) : MediaForm (Blk.finishRead b x data) :=
  keep_form (Blk.finishRead_only (m₀ := [.free, .out, .od, .hA, .hB, .can, .path, .linen, .tweed]) b x data (by decide) (only_refl _ _)) (by decide) h₀

theorem Blk.enqueue_form (b : Blk) (x : Mem) (why : ReadFor) (acceptedAt : Nat) (h₀ : MediaForm b) : MediaForm (Blk.enqueue b x why acceptedAt) :=
  keep_form (Blk.enqueue_only (m₀ := [.media]) b x why acceptedAt (by decide) (only_refl _ _)) (by decide) h₀

theorem Blk.startRecon_form (b : Blk) (rid : Nat) (p : Place) (h₀ : MediaForm b) : MediaForm (Blk.startRecon b rid p) :=
  keep_form (Blk.startRecon_only (m₀ := [.free, .od, .path, .media, .tweed]) b rid p (by decide) (only_refl _ _)) (by decide) h₀

theorem Blk.refillDue_form (b : Blk) (li : Nat) (h₀ : MediaForm b) : MediaForm (Blk.refillDue b li) :=
  keep_form (Blk.refillDue_only (m₀ := [.path, .velvet]) b li (by decide) (only_refl _ _)) (by decide) h₀

theorem Blk.lineData_form (b : Blk) (rid : Nat) (line : Line) (e : DpErr) (h₀ : MediaForm b) : MediaForm (Blk.lineData b rid line e) :=
  keep_form (Blk.lineData_only (m₀ := [.free, .out, .od, .hA, .hB, .can, .path, .velvet, .linen, .tweed, .modes, .safety]) b rid line e (by decide) (only_refl _ _)) (by decide) h₀

theorem Blk.readList_form (b : Blk) (rid key : Nat) (h₀ : MediaForm b) : MediaForm (Blk.readList b rid key) :=
  keep_form (Blk.readList_only (m₀ := [.free, .path, .media, .tweed]) b rid key (by decide) (only_refl _ _)) (by decide) h₀

theorem Blk.startRead_form (b0 : Blk) (rid : Nat) (h₀ : MediaForm b0) : MediaForm (Blk.startRead b0 rid) := by
  unfold Blk.startRead
  repeat (first | with_reducible assumption | (with_reducible apply Blk.report_form) | (with_reducible apply Blk.useTag_form) | (with_reducible apply Blk.onAcc_form) | (with_reducible apply Blk.finishRead_form) | (with_reducible apply Blk.enqueue_form) | (with_reducible apply Blk.startRecon_form) | (with_reducible apply Blk.refillDue_form) | (with_reducible apply Blk.lineData_form) | (with_reducible apply Blk.awaitTag_form) | (with_reducible apply Blk.readList_form) | with_reducible apply form_ite | extract_lets | split | (dsimp +zetaDelta only))

theorem Blk.onPath_form (b : Blk) (f : Path → Path) (h₀ : MediaForm b) : MediaForm (Blk.onPath b f) :=
  keep_form (Blk.onPath_only (m₀ := [.path]) b f (by decide) (only_refl _ _)) (by decide) h₀

theorem Blk.startFill_form (b : Blk) (h : Head) (li : Nat) (kind : ReqKind) (parts : List Nat) (h₀ : MediaForm b) : MediaForm (Blk.startFill b h li kind parts) := by
  unfold Blk.startFill
  repeat (first | with_reducible assumption | (with_reducible apply Blk.onPath_form) | (with_reducible apply Blk.startRead_form) | extract_lets | (dsimp +zetaDelta only))

theorem Blk.twHead_form (b : Blk) (h : Head) (off c : Nat) (h₀ : MediaForm b) : MediaForm (Blk.twHead b h off c) :=
  keep_form (Blk.twHead_only (m₀ := [.tweed]) b h off c (by decide) (only_refl _ _)) (by decide) h₀

theorem Blk.twHost_form (b : Blk) (h : Head) (event c : Nat) (h₀ : MediaForm b) : MediaForm (Blk.twHost b h event c) :=
  keep_form (Blk.twHost_only (m₀ := [.tweed]) b h event c (by decide) (only_refl _ _)) (by decide) h₀

theorem Blk.finishReadDp_form (b : Blk) (x : Acc) (data : Half) (d : Dp) (h₀ : MediaForm b) : MediaForm (Blk.finishReadDp b x data d) :=
  keep_form (Blk.finishReadDp_only (m₀ := [.free, .out, .od, .hA, .hB, .can, .path, .linen, .tweed, .modes, .safety]) b x data d (by decide) (only_refl _ _)) (by decide) h₀

theorem Blk.touchWay_form (b : Blk) (key : Nat) (h₀ : MediaForm b) : MediaForm (Blk.touchWay b key) :=
  keep_form (Blk.touchWay_only (m₀ := [.velvet]) b key (by decide) (only_refl _ _)) (by decide) h₀

theorem Blk.allocate_form (b : Blk) (li : Nat) (needClean : Bool) (v : VWay) {r : Blk} (hr : (Blk.allocate b li needClean v) = some r) (h₀ : MediaForm b) : MediaForm r :=
  keep_form (Blk.allocate_only (m₀ := [.velvet, .tweed]) b li needClean v hr (by decide) (only_refl _ _)) (by decide) h₀

theorem Blk.startDeep_form (b : Blk) (rid : Nat) (tagBad : Bool) (h₀ : MediaForm b) : MediaForm (Blk.startDeep b rid tagBad) :=
  keep_form (Blk.startDeep_only (m₀ := [.od, .path, .tweed]) b rid tagBad (by decide) (only_refl _ _)) (by decide) h₀

theorem Blk.velvetCheck_form (b : Blk) (li : Nat) (e : DpErr) (h₀ : MediaForm b) : MediaForm (Blk.velvetCheck b li e) :=
  keep_form (Blk.velvetCheck_only (m₀ := [.free, .out, .od, .hA, .hB, .can, .path, .poison, .media, .velvet, .linen, .tweed, .modes, .safety]) b li e (by decide) (only_refl _ _)) (by decide) h₀

theorem Blk.acceptRead_form (b0 : Blk) (x : Acc) (e : DpErr) (h₀ : MediaForm b0) : MediaForm (Blk.acceptRead b0 x e) := by
  unfold Blk.acceptRead
  repeat (first | with_reducible assumption | (with_reducible apply Blk.bump_form) | (with_reducible apply Blk.report_form) | (with_reducible apply Blk.twHead_form) | (with_reducible apply Blk.twHost_form) | (with_reducible apply Blk.onAcc_form) | (with_reducible apply Blk.finishRead_form) | (with_reducible apply Blk.finishReadDp_form) | (with_reducible apply Blk.putWay_form) | (with_reducible apply Blk.touchWay_form) | (with_reducible refine Blk.allocate_form _ _ _ _ (by assumption) ?_) | (with_reducible apply Blk.startRead_form) | (with_reducible apply Blk.startDeep_form) | (with_reducible apply Blk.velvetCheck_form) | with_reducible apply form_ite | extract_lets | split | (dsimp +zetaDelta only))

theorem Blk.cancelFill_form (b : Blk) (li : Nat) (h₀ : MediaForm b) : MediaForm (Blk.cancelFill b li) :=
  keep_form (Blk.cancelFill_only (m₀ := [.free, .out, .od, .hA, .hB, .can, .path, .media, .velvet, .linen, .tweed]) b li (by decide) (only_refl _ _)) (by decide) h₀

theorem Blk.mergeWrite_form (b : Blk) (x : Acc) (mark : Bool) (h₀ : MediaForm b) : MediaForm (Blk.mergeWrite b x mark) := by
  unfold Blk.mergeWrite
  repeat (first | with_reducible assumption | (with_reducible apply Blk.twHead_form) | (with_reducible apply Blk.onAcc_form) | (with_reducible apply Blk.putWay_form) | (with_reducible apply Blk.touchWay_form) | (with_reducible apply Blk.putBuf_form) | (with_reducible refine Blk.allocate_form _ _ _ _ (by assumption) ?_) | (with_reducible apply Blk.cancelFill_form) | (with_reducible apply Blk.startFill_form) | with_reducible apply form_ite | extract_lets | split | (dsimp +zetaDelta only))

theorem Blk.listInternal_form (b : Blk) (key : Nat) (code : BitVec 16) (tx : MediaTx := .internal) (addr : Bool := false) (h₀ : MediaForm b) : MediaForm (Blk.listInternal b key code tx addr) :=
  keep_form (Blk.listInternal_only (m₀ := [.free, .out, .od, .hA, .hB, .can, .path, .poison, .media, .linen, .tweed, .modes]) b key code tx addr (by decide) (only_refl _ _)) (by decide) h₀

theorem Blk.dpCount_form (b : Blk) (d : Dp) (h₀ : MediaForm b) : MediaForm (Blk.dpCount b d) :=
  keep_form (Blk.dpCount_only (m₀ := [.free, .out, .od, .hA, .hB, .can, .path, .linen, .tweed, .modes, .safety]) b d (by decide) (only_refl _ _)) (by decide) h₀

theorem Blk.promoteWay_form (b : Blk) (li : Nat) (h₀ : MediaForm b) : MediaForm (Blk.promoteWay b li) :=
  keep_form (Blk.promoteWay_only (m₀ := [.twill]) b li (by decide) (only_refl _ _)) (by decide) h₀

theorem Blk.noteWrite_form (b : Blk) (li : Nat) (h₀ : MediaForm b) : MediaForm (Blk.noteWrite b li) :=
  keep_form (Blk.noteWrite_only (m₀ := [.velvet, .twill]) b li (by decide) (only_refl _ _)) (by decide) h₀

theorem Blk.countCandidate_form (b : Blk) (li : Nat) (h₀ : MediaForm b) : MediaForm (Blk.countCandidate b li) :=
  keep_form (Blk.countCandidate_only (m₀ := [.twill]) b li (by decide) (only_refl _ _)) (by decide) h₀

theorem Blk.issueRecords_form (b : Blk) (h₀ : MediaForm b) : MediaForm (Blk.issueRecords b) :=
  keep_form (Blk.issueRecords_only (m₀ := [.free, .out, .od, .hA, .hB, .can, .media, .twill, .linen, .tweed]) b (by decide) (only_refl _ _)) (by decide) h₀

theorem Blk.deepWritten_form (b : Blk) (li : Nat) (i : Bool) (h₀ : MediaForm b) : MediaForm (Blk.deepWritten b li i) :=
  keep_form (Blk.deepWritten_only (m₀ := [.path]) b li i (by decide) (only_refl _ _)) (by decide) h₀

theorem Blk.writePoison_form (b : Blk) (x : Acc) (h₀ : MediaForm b) : MediaForm (Blk.writePoison b x) :=
  keep_form (Blk.writePoison_only (m₀ := [.free, .out, .od, .hA, .hB, .can, .path, .poison, .media, .linen, .tweed, .modes]) b x (by decide) (only_refl _ _)) (by decide) h₀

theorem Blk.acceptWrite_form (b : Blk) (x : Acc) (e : DpErr) (h₀ : MediaForm b) : MediaForm (Blk.acceptWrite b x e) := by
  unfold Blk.acceptWrite
  repeat (first | with_reducible assumption | (with_reducible apply Blk.report_form) | (with_reducible apply Blk.twHead_form) | (with_reducible apply Blk.onAcc_form) | (with_reducible apply Blk.finishWrite_form) | (with_reducible apply Blk.listInternal_form) | (with_reducible apply Blk.dpCount_form) | (with_reducible apply Blk.promoteWay_form) | (with_reducible apply Blk.noteWrite_form) | (with_reducible apply Blk.countCandidate_form) | (with_reducible apply Blk.program_form) | (with_reducible apply Blk.issueRecords_form) | (with_reducible apply Blk.endWrite_form) | (with_reducible apply Blk.deepWritten_form) | (with_reducible apply Blk.writePoison_form) | (with_reducible apply Blk.mergeWrite_form) | with_reducible apply form_ite | extract_lets | (dsimp +zetaDelta only))

theorem Blk.onHead_form (b : Blk) (h : Head) (f : HeadSt → HeadSt) (h₀ : MediaForm b) : MediaForm (Blk.onHead b h f) :=
  keep_form (Blk.onHead_only (m₀ := [.hA, .hB]) b h f (by decide) (only_refl _ _)) (by decide) h₀

theorem Blk.countAccepted_form (b : Blk) (h : Head) (r : Req) (h₀ : MediaForm b) : MediaForm (Blk.countAccepted b h r) :=
  keep_form (Blk.countAccepted_only (m₀ := [.out, .od, .hA, .hB, .can, .path, .linen, .tweed]) b h r (by decide) (only_refl _ _)) (by decide) h₀

theorem Blk.arrive_form (b : Blk) (h : Head) (k : ReqKind) (hpa tag : Nat) (data : Half) (mask : HalfMask) (poison : Bool) (h₀ : MediaForm b) : MediaForm (Blk.arrive b h k hpa tag data mask poison) :=
  keep_form (Blk.arrive_only (m₀ := [.out, .od, .hA, .hB, .can, .path, .linen, .tweed]) b h k hpa tag data mask poison (by decide) (only_refl _ _)) (by decide) h₀

theorem Blk.acceptNow_form (b : Blk) (h : Head) (r : Req) (d : DpErr) (h₀ : MediaForm b) : MediaForm (Blk.acceptNow b h r d) := by
  unfold Blk.acceptNow
  repeat (first | with_reducible assumption | (with_reducible apply Blk.onPath_form) | (with_reducible apply Blk.onHead_form) | (with_reducible apply Blk.acceptRead_form) | (with_reducible apply Blk.acceptWrite_form) | (with_reducible apply Blk.countAccepted_form) | (with_reducible apply Blk.arrive_form) | with_reducible apply form_ite | extract_lets | split | (dsimp +zetaDelta only))

theorem Blk.probeFill_form (b : Blk) (h : Head) (li : Nat) (h₀ : MediaForm b) : MediaForm (Blk.probeFill b h li) := by
  unfold Blk.probeFill
  repeat (first | with_reducible assumption | (with_reducible refine Blk.allocate_form _ _ _ _ (by assumption) ?_) | (with_reducible apply Blk.startFill_form) | with_reducible apply form_ite | split)

theorem Blk.noteHolds_form (b : Blk) (h : Head) (r : Req) (h₀ : MediaForm b) : MediaForm (Blk.noteHolds b h r) :=
  keep_form (Blk.noteHolds_only (m₀ := [.od, .hA, .hB, .tweed]) b h r (by decide) (only_refl _ _)) (by decide) h₀

theorem Blk.probeWay_form (b : Blk) (li : Nat) (h₀ : MediaForm b) : MediaForm (Blk.probeWay b li) :=
  keep_form (Blk.probeWay_only (m₀ := [.twill]) b li (by decide) (only_refl _ _)) (by decide) h₀

theorem Blk.acceptWindow_form (b : Blk) (h : Head) (r : Req) (d : DpErr) (h₀ : MediaForm b) : MediaForm (Blk.acceptWindow b h r d) :=
  keep_form (Blk.acceptWindow_only (m₀ := [.free, .out, .od, .hA, .hB, .can, .path, .linen, .tweed, .modes, .safety]) b h r d (by decide) (only_refl _ _)) (by decide) h₀

theorem Blk.tryAccept_form (b : Blk) (h : Head) (r : Req) (d : DpErr) (h₀ : MediaForm b) : MediaForm (Blk.tryAccept b h r d) := by
  unfold Blk.tryAccept
  repeat (first | with_reducible assumption | (with_reducible apply Blk.noteHolds_form) | (with_reducible apply Blk.acceptNow_form) | (with_reducible apply Blk.probeWay_form) | (with_reducible apply Blk.probeFill_form) | (with_reducible apply Blk.acceptWindow_form) | with_reducible apply form_ite | extract_lets | (dsimp +zetaDelta only))

theorem Blk.gatherFreed_form (b : Blk) (slot : Nat) (h₀ : MediaForm b) : MediaForm (Blk.gatherFreed b slot) :=
  keep_form (Blk.gatherFreed_only (m₀ := [.twill]) b slot (by decide) (only_refl _ _)) (by decide) h₀

theorem Blk.slotFreed_form (b : Blk) (slot : Nat) (h₀ : MediaForm b) : MediaForm (Blk.slotFreed b slot) := by
  unfold Blk.slotFreed
  repeat (first | with_reducible assumption | (with_reducible apply Blk.setSlot_form) | (with_reducible apply Blk.lifeCheck_form) | (with_reducible apply Blk.retireSlot_form) | (with_reducible apply Blk.gatherFreed_form) | with_reducible apply form_ite | extract_lets | (dsimp +zetaDelta only))

theorem Blk.resetSlot_form (b : Blk) (slot : Nat) (h₀ : MediaForm b) : MediaForm (Blk.resetSlot b slot) :=
  keep_form (Blk.resetSlot_only (m₀ := [.media, .twill]) b slot (by decide) (only_refl _ _)) (by decide) h₀

theorem Blk.freeSlot_form (b : Blk) (slot wear : Nat) (h₀ : MediaForm b) : MediaForm (Blk.freeSlot b slot wear) := by
  unfold Blk.freeSlot
  repeat (first | with_reducible assumption | (with_reducible apply Blk.setSlot_form) | (with_reducible apply Blk.slotFreed_form) | (with_reducible apply Blk.resetSlot_form))

theorem Blk.giveUp_form (b : Blk) (slot wear : Nat) (h₀ : MediaForm b) : MediaForm (Blk.giveUp b slot wear) := by
  unfold Blk.giveUp
  repeat (first | with_reducible assumption | (with_reducible apply Blk.retireSlot_form) | (with_reducible apply Blk.freeSlot_form) | with_reducible apply form_ite | extract_lets | (dsimp +zetaDelta only))

theorem Blk.swapHot_form (b : Blk) (old new : Nat) (h₀ : MediaForm b) : MediaForm (Blk.swapHot b old new) := by
  unfold Blk.swapHot
  repeat (first | with_reducible assumption | (with_reducible apply Blk.onTwill_form) | (with_reducible apply Blk.setSlot_form) | (with_reducible apply Blk.journalRec_form) | (with_reducible apply Blk.resetSlot_form) | extract_lets | (dsimp +zetaDelta only))

theorem Blk.useFree_form (b : Blk) (h₀ : MediaForm b) : MediaForm (Blk.useFree b) :=
  keep_form (Blk.useFree_only (m₀ := [.free]) b (by decide) (only_refl _ _)) (by decide) h₀

theorem Blk.widen_form (b : Blk) (c : Cls) (h₀ : MediaForm b) : MediaForm (Blk.widen b c) :=
  keep_form (Blk.widen_only (m₀ := [.free, .twill]) b c (by decide) (only_refl _ _)) (by decide) h₀

theorem Blk.exchangeSlot_form (b : Blk) (slot reason : Nat) (h₀ : MediaForm b) : MediaForm (Blk.exchangeSlot b slot reason) := by
  unfold Blk.exchangeSlot
  repeat (first | with_reducible assumption | (with_reducible apply Blk.useFree_form) | (with_reducible apply Blk.widen_form) | (with_reducible apply Blk.retireSlot_form) | (with_reducible apply Blk.swapHot_form) | with_reducible apply form_ite | extract_lets | split | (dsimp +zetaDelta only))

theorem Blk.resetOver_form (b : Blk) (key : Nat) (h₀ : MediaForm b) : MediaForm (Blk.resetOver b key) := by
  unfold Blk.resetOver
  repeat (first | with_reducible assumption | (with_reducible apply Blk.onTwill_form) | (with_reducible apply Blk.setSlot_form) | (with_reducible apply Blk.slotFreed_form) | (with_reducible apply Blk.exchangeSlot_form) | with_reducible apply form_ite | extract_lets | (dsimp +zetaDelta only))

theorem Blk.queueReset_form (b : Blk) (key : Nat) (x : Nat × Nat) (h₀ : MediaForm b) : MediaForm (Blk.queueReset b key x) :=
  keep_form (Blk.queueReset_only (m₀ := [.media]) b key x (by decide) (only_refl _ _)) (by decide) h₀

theorem Blk.resetRow_form (b : Blk) (key : Nat) (x : TileRow) (h₀ : MediaForm b) : MediaForm (Blk.resetRow b key x) := by
  unfold Blk.resetRow
  repeat (first | with_reducible assumption | (with_reducible apply Blk.onTwill_form) | (with_reducible apply Blk.queueReset_form) | (with_reducible apply Blk.resetOver_form) | (with_reducible refine form_foldl (fun c x hc => ?_) _ _ ?_) | with_reducible apply form_ite | extract_lets | (dsimp +zetaDelta only))

theorem Blk.onPart_form (b : Blk) (pid : Nat) (f : PartSt → PartSt) (h₀ : MediaForm b) : MediaForm (Blk.onPart b pid f) :=
  keep_form (Blk.onPart_only (m₀ := [.media]) b pid f (by decide) (only_refl _ _)) (by decide) h₀

theorem Blk.dropResets_form (b : Blk) (pid : Nat) (h₀ : MediaForm b) : MediaForm (Blk.dropResets b pid) := by
  unfold Blk.dropResets
  repeat (first | with_reducible assumption | (with_reducible apply Blk.onPart_form) | (with_reducible apply Blk.resetOver_form) | (with_reducible refine form_foldl (fun c x hc => ?_) _ _ ?_) | with_reducible apply form_ite | extract_lets | split | (dsimp +zetaDelta only))

theorem Blk.erase_form (b : Blk) (rid m : Nat) (h₀ : MediaForm b) : MediaForm (Blk.erase b rid m) :=
  keep_form (Blk.erase_only (m₀ := [.path]) b rid m (by decide) (only_refl _ _)) (by decide) h₀

theorem Blk.reconOnce_form (b : Blk) (rid : Nat) (h₀ : MediaForm b) : MediaForm (Blk.reconOnce b rid) :=
  keep_form (Blk.reconOnce_only (m₀ := [.free, .od, .path, .media, .tweed]) b rid (by decide) (only_refl _ _)) (by decide) h₀

theorem Blk.jobRead_form (b : Blk) (n : Nat) (x : Mem) (ok : Bool) (h₀ : MediaForm b) : MediaForm (Blk.jobRead b n x ok) :=
  keep_form (Blk.jobRead_only (m₀ := [.twill]) b n x ok (by decide) (only_refl _ _)) (by decide) h₀

theorem Blk.standIn_form (b : Blk) (t : ReadTask) (h₀ : MediaForm b) : MediaForm (Blk.standIn b t) := by
  unfold Blk.standIn
  repeat (first | with_reducible assumption | (with_reducible apply Blk.onPart_form) | (with_reducible apply Blk.onAcc_form) | (with_reducible apply Blk.readTag_form) | (with_reducible apply Blk.erase_form) | (with_reducible apply Blk.reconOnce_form) | (with_reducible apply Blk.jobRead_form) | split)

theorem Blk.reroute_form (b : Blk) (pid : Nat) (h₀ : MediaForm b) : MediaForm (Blk.reroute b pid) := by
  unfold Blk.reroute
  repeat (first | with_reducible assumption | (with_reducible apply Blk.onPart_form) | (with_reducible apply Blk.standIn_form) | (with_reducible refine form_foldl (fun c x hc => ?_) _ _ ?_) | extract_lets | (dsimp +zetaDelta only))

theorem Blk.rerouteDie_form (b : Blk) (d : Nat) (h₀ : MediaForm b) : MediaForm (Blk.rerouteDie b d) := by
  unfold Blk.rerouteDie
  repeat (first | with_reducible assumption | (with_reducible apply Blk.reroute_form) | (with_reducible refine form_foldl (fun c x hc => ?_) _ _ ?_))

theorem Blk.dropDieResets_form (b : Blk) (d : Nat) (h₀ : MediaForm b) : MediaForm (Blk.dropDieResets b d) := by
  unfold Blk.dropDieResets
  repeat (first | with_reducible assumption | (with_reducible apply Blk.dropResets_form) | (with_reducible refine form_foldl (fun c x hc => ?_) _ _ ?_))

theorem Blk.onSafety_form (b : Blk) (f : Safety → Safety) (h₀ : MediaForm b) : MediaForm (Blk.onSafety b f) :=
  keep_form (Blk.onSafety_only (m₀ := [.safety]) b f (by decide) (only_refl _ _)) (by decide) h₀

theorem Blk.onDie_form (b : Blk) (d : Nat) (f : DieSt → DieSt) (h₀ : MediaForm b) : MediaForm (Blk.onDie b d f) :=
  keep_form (Blk.onDie_only (m₀ := [.media]) b d f (by decide) (only_refl _ _)) (by decide) h₀

theorem Blk.degrade_form (b : Blk) (bit : Nat) (on : Bool) (h₀ : MediaForm b) : MediaForm (Blk.degrade b bit on) :=
  keep_form (Blk.degrade_only (m₀ := [.out, .od, .hA, .hB, .muslin, .can, .linen, .tweed, .modes]) b bit on (by decide) (only_refl _ _)) (by decide) h₀

theorem Blk.lossCheck_form (b : Blk) (h₀ : MediaForm b) : MediaForm (Blk.lossCheck b) :=
  keep_form (Blk.lossCheck_only (m₀ := [.free, .out, .od, .hA, .hB, .can, .path, .poison, .media, .linen, .tweed, .modes]) b (by decide) (only_refl _ _)) (by decide) h₀

theorem Blk.dieFail_form (b : Blk) (d : Nat) (h₀ : MediaForm b) : MediaForm (Blk.dieFail b d) := by
  unfold Blk.dieFail
  repeat (first | with_reducible assumption | (with_reducible apply Blk.onSafety_form) | (with_reducible apply Blk.onDie_form) | (with_reducible apply Blk.reportUnit_form) | (with_reducible apply Blk.degrade_form) | (with_reducible apply Blk.rerouteDie_form) | (with_reducible apply Blk.dropDieResets_form) | (with_reducible apply Blk.lossCheck_form) | with_reducible apply form_ite | extract_lets | (dsimp +zetaDelta only))

theorem Blk.onChan_form (b : Blk) (c : Nat) (f : ChanSt → ChanSt) (h₀ : MediaForm b) : MediaForm (Blk.onChan b c f) :=
  keep_form (Blk.onChan_only (m₀ := [.media]) b c f (by decide) (only_refl _ _)) (by decide) h₀

theorem Blk.channelFail_form (b : Blk) (c : Nat) (h₀ : MediaForm b) : MediaForm (Blk.channelFail b c) := by
  unfold Blk.channelFail
  repeat (first | with_reducible assumption | (with_reducible apply Blk.onChan_form) | (with_reducible apply Blk.reportUnit_form) | (with_reducible apply Blk.degrade_form) | (with_reducible apply Blk.dieFail_form) | (with_reducible refine form_foldl (fun c x hc => ?_) _ _ ?_) | with_reducible apply form_ite | extract_lets | (dsimp +zetaDelta only))

theorem Blk.tileFailure_form (b : Blk) (d tile : Nat) (h₀ : MediaForm b) : MediaForm (Blk.tileFailure b d tile) := by
  unfold Blk.tileFailure
  repeat (first | with_reducible assumption | (with_reducible apply Blk.onDie_form) | (with_reducible apply Blk.dieFail_form) | with_reducible apply form_ite | extract_lets | (dsimp +zetaDelta only))

theorem Blk.detect_form (b : Blk) (mech : Nat) (uncontained : Bool) (h₀ : MediaForm b) : MediaForm (Blk.detect b mech uncontained) :=
  keep_form (Blk.detect_only (m₀ := [.free, .out, .od, .hA, .hB, .can, .path, .linen, .tweed, .modes, .safety]) b mech uncontained (by decide) (only_refl _ _)) (by decide) h₀

theorem Blk.onEngine_form (b : Blk) (e : Nat) (f : EngineSt → EngineSt) (h₀ : MediaForm b) : MediaForm (Blk.onEngine b e f) :=
  keep_form (Blk.onEngine_only (m₀ := [.safety]) b e f (by decide) (only_refl _ _)) (by decide) h₀

theorem Blk.engineFail_form (b : Blk) (e : Nat) (h₀ : MediaForm b) : MediaForm (Blk.engineFail b e) := by
  unfold Blk.engineFail
  repeat (first | with_reducible assumption | (with_reducible apply Blk.onSafety_form) | (with_reducible apply Blk.report_form) | (with_reducible apply Blk.reportUnit_form) | (with_reducible apply Blk.degrade_form) | (with_reducible apply Blk.detect_form) | (with_reducible apply Blk.rerouteDie_form) | (with_reducible apply Blk.channelFail_form) | (with_reducible apply Blk.onEngine_form) | (with_reducible refine form_foldl (fun c x hc => ?_) _ _ ?_) | with_reducible apply form_ite | extract_lets | split | (dsimp +zetaDelta only))

theorem Blk.onDamask_form (b : Blk) (f : Damask → Damask) (h₀ : MediaForm b) : MediaForm (Blk.onDamask b f) :=
  keep_form (Blk.onDamask_only (m₀ := [.damask]) b f (by decide) (only_refl _ _)) (by decide) h₀

theorem Blk.onBank_form (b : Blk) (k : Nat) (f : BankSt → BankSt) (h₀ : MediaForm b) : MediaForm (Blk.onBank b k f) :=
  keep_form (Blk.onBank_only (m₀ := [.safety]) b k f (by decide) (only_refl _ _)) (by decide) h₀

theorem Blk.sliceOut_form (b : Blk) (slice : Nat) (h₀ : MediaForm b) : MediaForm (Blk.sliceOut b slice) :=
  keep_form (Blk.sliceOut_only (m₀ := [.velvet, .tweed, .safety]) b slice (by decide) (only_refl _ _)) (by decide) h₀

theorem Blk.bankLost_form (b : Blk) (k : Nat) (h₀ : MediaForm b) : MediaForm (Blk.bankLost b k) := by
  unfold Blk.bankLost
  repeat (first | with_reducible assumption | (with_reducible apply Blk.onDamask_form) | (with_reducible apply Blk.detect_form) | (with_reducible apply Blk.engineFail_form) | (with_reducible apply Blk.onBank_form) | (with_reducible apply Blk.sliceOut_form) | (with_reducible refine form_foldl (fun c x hc => ?_) _ _ ?_) | extract_lets | split | (dsimp +zetaDelta only))

theorem Blk.bankFail_form (b : Blk) (k : Nat) (h₀ : MediaForm b) : MediaForm (Blk.bankFail b k) := by
  unfold Blk.bankFail
  repeat (first | with_reducible assumption | (with_reducible apply Blk.onSafety_form) | (with_reducible apply Blk.degrade_form) | (with_reducible apply Blk.bankLost_form) | with_reducible apply form_ite | split)

theorem Blk.onJob_form (b : Blk) (n : Nat) (f : Job → Job) (h₀ : MediaForm b) : MediaForm (Blk.onJob b n f) :=
  keep_form (Blk.onJob_only (m₀ := [.twill]) b n f (by decide) (only_refl _ _)) (by decide) h₀

theorem Blk.jobWrite_form (n : Nat) (ovw : Bool) (b : Blk × Nat) (w : Mem × MLine) (h₀ : MediaForm b.1) : MediaForm (Blk.jobWrite n ovw b w).1 := by
  unfold Blk.jobWrite
  have hs := Blk.storeLine_form b.1 (b.1.memLoc w.1) w.2 h₀
  exact form_ite_fst (form_ite hs (onMedia_form (fun _ => rfl) hs)) (Blk.program_form _ _ h₀)

theorem Blk.issueWrites_form (b : Blk) (n : Nat) (ph : Phase) (ovw : Bool) (ws : Writes) (h₀ : MediaForm b) : MediaForm (Blk.issueWrites b n ph ovw ws) := by
  unfold Blk.issueWrites
  exact Blk.onJob_form _ _ _ (form_foldl_pair (fun c x hc => Blk.jobWrite_form _ _ _ _ hc) _ (b, 0) h₀)

theorem Blk.dropJob_form (b : Blk) (n : Nat) (h₀ : MediaForm b) : MediaForm (Blk.dropJob b n) :=
  keep_form (Blk.dropJob_only (m₀ := [.twill]) b n (by decide) (only_refl _ _)) (by decide) h₀

theorem Blk.jobAppend_form (b : Blk) (n li : Nat) (data : Line) (h₀ : MediaForm b) : MediaForm (Blk.jobAppend b n li data) := by
  unfold Blk.jobAppend
  repeat (first | with_reducible assumption | (with_reducible apply Blk.onTwill_form) | (with_reducible apply Blk.storeLine_form) | (with_reducible apply Blk.program_form) | (with_reducible apply Blk.takePosition_form) | (with_reducible apply Blk.setHot_form) | (with_reducible apply Blk.onJob_form) | (with_reducible apply Blk.dropJob_form) | with_reducible apply form_ite | extract_lets | split | (dsimp +zetaDelta only))

theorem Blk.jobRegroup_form (b : Blk) (n : Nat) (j : Job) (ti : Nat) (epoch : BitVec 8) (major : BitVec 24) (new : Option (Nat × Line)) (h₀ : MediaForm b) : MediaForm (Blk.jobRegroup b n j ti epoch major new) := by
  unfold Blk.jobRegroup
  repeat (first | with_reducible assumption | (with_reducible apply Blk.putTag_form) | (with_reducible apply Blk.useTag_form) | (with_reducible apply Blk.onJob_form) | (with_reducible apply Blk.issueWrites_form) | (with_reducible refine form_foldl (fun c x hc => ?_) _ _ ?_) | extract_lets | (dsimp +zetaDelta only))

theorem Blk.jobCold_form (b : Blk) (n : Nat) (j : Job) (li : Nat) (data : Line) (h₀ : MediaForm b) : MediaForm (Blk.jobCold b n j li data) := by
  unfold Blk.jobCold
  repeat (first | with_reducible assumption | (with_reducible apply Blk.bump_form) | (with_reducible apply Blk.tw_form) | (with_reducible apply Blk.coldCipher_form) | (with_reducible apply Blk.dropJob_form) | (with_reducible apply Blk.issueWrites_form) | (with_reducible apply Blk.jobRegroup_form) | with_reducible apply form_ite | extract_lets | split | (dsimp +zetaDelta only))

theorem Blk.lockJob_form (b : Blk) (n : Nat) (ks : List Nat) (h₀ : MediaForm b) : MediaForm (Blk.lockJob b n ks) :=
  keep_form (Blk.lockJob_only (m₀ := [.twill]) b n ks (by decide) (only_refl _ _)) (by decide) h₀

theorem Blk.terryCheck_form (b : Blk) (c : Cls) (slot s : Nat) (h₀ : MediaForm b) : MediaForm (Blk.terryCheck b c slot s).1 :=
  keep_form (Blk.terryCheck_only (m₀ := [.free, .out, .od, .hA, .hB, .can, .path, .poison, .media, .damask, .linen, .tweed, .modes]) b c slot s (by decide) (only_refl _ _)) (by decide) h₀

theorem Blk.terryReady_form (b : Blk) (n : Nat) (j : Job) (c : Cls) (slot s : Nat) (h₀ : MediaForm b) : MediaForm (Blk.terryReady b n j c slot s) := by
  unfold Blk.terryReady
  refine form_ite ?_ ?_
  · repeat (first | with_reducible assumption | (with_reducible apply onMedia_form <;> [(intro; rfl); skip]) | (with_reducible apply Blk.dropJob_form) | (with_reducible apply Blk.issueWrites_form) | (with_reducible apply Blk.lockJob_form) | (with_reducible apply Blk.terryCheck_form) | (with_reducible apply Blk.onMedia_lap))
  · refine Blk.issueWrites_form _ _ _ _ _ (Blk.lockJob_form _ _ _ (form_ite_fst ?_ h₀))
    repeat (first | with_reducible assumption | (with_reducible apply onMedia_form <;> [(intro; rfl); skip]) | (with_reducible apply Blk.dropJob_form) | (with_reducible apply Blk.issueWrites_form) | (with_reducible apply Blk.lockJob_form) | (with_reducible apply Blk.terryCheck_form))

theorem Blk.scanOver_form (b : Blk) (h₀ : MediaForm b) : MediaForm (Blk.scanOver b) :=
  keep_form (Blk.scanOver_only (m₀ := [.out, .dev, .media]) b (by decide) (only_refl _ _)) (by decide) h₀

theorem Blk.scanFind_form (b : Blk) (key n : Nat) (h₀ : MediaForm b) : MediaForm (Blk.scanFind b key n) :=
  keep_form (Blk.scanFind_only (m₀ := [.media]) b key n (by decide) (only_refl _ _)) (by decide) h₀

theorem Blk.scanReady_form (b : Blk) (n : Nat) (j : Job) (key k : Nat) (h₀ : MediaForm b) : MediaForm (Blk.scanReady b n j key k) := by
  unfold Blk.scanReady
  repeat (first | with_reducible assumption | (with_reducible apply Blk.dropJob_form) | (with_reducible apply Blk.issueWrites_form) | (with_reducible apply Blk.lockJob_form) | (with_reducible apply Blk.scanOver_form) | (with_reducible apply Blk.scanFind_form) | with_reducible apply form_ite | extract_lets | split | (dsimp +zetaDelta only))

theorem Blk.clearHot_form (b : Blk) (key : Nat) (h₀ : MediaForm b) : MediaForm (Blk.clearHot b key) :=
  keep_form (Blk.clearHot_only (m₀ := [.twill]) b key (by decide) (only_refl _ _)) (by decide) h₀

theorem Blk.abandonDemotion_form (b : Blk) (li : Nat) (h₀ : MediaForm b) : MediaForm (Blk.abandonDemotion b li) :=
  keep_form (Blk.abandonDemotion_only (m₀ := [.velvet, .twill]) b li (by decide) (only_refl _ _)) (by decide) h₀

theorem Blk.invalidate_form (b : Blk) (e : HotEntry) (h₀ : MediaForm b) : MediaForm (Blk.invalidate b e) :=
  keep_form (Blk.invalidate_only (m₀ := [.twill]) b e (by decide) (only_refl _ _)) (by decide) h₀

theorem Blk.reload_form (b : Blk) (d : Dom) (off : Nat) (h₀ : MediaForm b) : MediaForm (Blk.reload b d off) :=
  keep_form (Blk.reload_only (m₀ := [.regs, .hA, .hB]) b d off (by decide) (only_refl _ _)) (by decide) h₀

theorem Blk.jobReady_form (b : Blk) (n : Nat) (j : Job) (h₀ : MediaForm b) : MediaForm (Blk.jobReady b n j) := by
  unfold Blk.jobReady
  repeat (first | with_reducible assumption | (with_reducible apply onMedia_form <;> [(intro; rfl); skip]) | (with_reducible apply Blk.onPath_form) | (with_reducible apply Blk.onTwill_form) | (with_reducible apply Blk.bump_form) | (with_reducible apply Blk.tw_form) | (with_reducible apply Blk.clearHot_form) | (with_reducible apply Blk.putBuf_form) | (with_reducible apply Blk.abandonDemotion_form) | (with_reducible apply Blk.invalidate_form) | (with_reducible apply Blk.program_form) | (with_reducible apply Blk.onJob_form) | (with_reducible apply Blk.dropJob_form) | (with_reducible apply Blk.issueWrites_form) | (with_reducible apply Blk.jobAppend_form) | (with_reducible apply Blk.jobRegroup_form) | (with_reducible apply Blk.jobCold_form) | (with_reducible apply Blk.terryReady_form) | (with_reducible apply Blk.scanReady_form) | (with_reducible apply Blk.reload_form) | (with_reducible refine form_foldl (fun c x hc => ?_) _ _ ?_) | with_reducible apply form_ite | extract_lets | split | (dsimp +zetaDelta only))

theorem Blk.feedJob_form (b : Blk) (n : Nat) (h₀ : MediaForm b) : MediaForm (Blk.feedJob b n) :=
  keep_form (Blk.feedJob_only (m₀ := [.media, .twill]) b n (by decide) (only_refl _ _)) (by decide) h₀

theorem Blk.deepForJob_form (n : Nat) (b : Blk) (li : Nat) (h₀ : MediaForm b) : MediaForm (Blk.deepForJob n b li) :=
  keep_form (Blk.deepForJob_only (m₀ := [.od, .path, .twill, .tweed]) n b li (by decide) (only_refl _ _)) (by decide) h₀

theorem Blk.advanceJob_form (b : Blk) (n : Nat) (h₀ : MediaForm b) : MediaForm (Blk.advanceJob b n) := by
  unfold Blk.advanceJob
  repeat (first | with_reducible assumption | (with_reducible apply Blk.onJob_form) | (with_reducible apply Blk.feedJob_form) | (with_reducible apply Blk.deepForJob_form) | (with_reducible apply Blk.jobReady_form) | (with_reducible refine form_foldl (fun c x hc => ?_) _ _ ?_) | with_reducible apply form_ite | extract_lets | split | (dsimp +zetaDelta only))

theorem Blk.issueHeld_form (b : Blk) (n : Nat) (j : Job) (h₀ : MediaForm b) : MediaForm (Blk.issueHeld b n j) := by
  unfold Blk.issueHeld
  refine Blk.onJob_form _ _ _ (form_foldl_pair (fun c x hc => ?_) _ (b, 0) h₀)
  split
  · exact form_foldl_pair (fun c x hc => Blk.jobWrite_form _ _ _ _ hc) _ _ hc
  · exact hc

theorem Blk.putRegion_form (b : Blk) (r : Nat) (e : RegionEntry) (h₀ : MediaForm b) : MediaForm (Blk.putRegion b r e) :=
  keep_form (Blk.putRegion_only (m₀ := [.twill]) b r e (by decide) (only_refl _ _)) (by decide) h₀

theorem Blk.passRegion_form (b : Blk) (r : Nat) (h₀ : MediaForm b) : MediaForm (Blk.passRegion b r) :=
  keep_form (Blk.passRegion_only (m₀ := [.free, .out, .od, .hA, .hB, .can, .path, .poison, .media, .twill, .damask, .linen, .tweed, .modes]) b r (by decide) (only_refl _ _)) (by decide) h₀

theorem Blk.freshStep_form (b : Blk) (area : Nat) (c : Cls) (s : Nat) (h₀ : MediaForm b) : MediaForm (Blk.freshStep b area c s) :=
  keep_form (Blk.freshStep_only (m₀ := [.od, .twill, .gauze, .tweed]) b area c s (by decide) (only_refl _ _)) (by decide) h₀

theorem Blk.stripeDone_form (b : Blk) (r : Nat) (m : Move) (s : Nat) (h₀ : MediaForm b) : MediaForm (Blk.stripeDone b r m s) := by
  unfold Blk.stripeDone
  repeat (first | with_reducible assumption | (with_reducible apply Blk.onTwill_form) | (with_reducible apply Blk.putRegion_form) | (with_reducible apply Blk.journalRec_form) | (with_reducible apply Blk.passRegion_form) | (with_reducible apply Blk.freshStep_form) | with_reducible apply form_ite | extract_lets | split | (dsimp +zetaDelta only))

theorem Blk.lapStep_form (b : Blk) (c : Cls) (n : Nat) (h₀ : MediaForm b) : MediaForm (Blk.lapStep b c n) :=
  keep_form (Blk.lapStep_only (m₀ := [.out, .od, .hA, .hB, .can, .dev, .media, .linen]) b c n (by decide) (only_refl _ _)) (by decide) h₀

theorem Blk.tagWritten_form (b : Blk) (ti : Nat) (h₀ : MediaForm b) : MediaForm (Blk.tagWritten b ti) :=
  keep_form (Blk.tagWritten_only (m₀ := [.damask]) b ti (by decide) (only_refl _ _)) (by decide) h₀

theorem Blk.throughAgain_form (b : Blk) (li : Nat) (h₀ : MediaForm b) : MediaForm (Blk.throughAgain b li) :=
  keep_form (Blk.throughAgain_only (m₀ := [.free, .out, .od, .hA, .hB, .can, .path, .media, .twill, .linen, .tweed]) b li (by decide) (only_refl _ _)) (by decide) h₀

theorem Blk.homeWritten_form (b : Blk) (li : Nat) (demoted stillHot stored : Blk → Blk) (h₀ : MediaForm b) (h1 : ∀ c, MediaForm c → MediaForm (demoted c)) (h2 : ∀ c, MediaForm c → MediaForm (stillHot c)) (h3 : ∀ c, MediaForm c → MediaForm (stored c)) : MediaForm (Blk.homeWritten b li demoted stillHot stored) := by
  unfold Blk.homeWritten
  refine form_ite (h3 _ h₀) ?_
  split
  · exact form_ite (h1 _ (keep_form (Blk.gatherDemotion_only (m₀ := [.twill]) _ _ (by decide) (only_refl _ _)) (by decide) (Blk.onTwill_form _ _ h₀))) (h2 _ h₀)
  · exact h2 _ h₀

theorem Blk.jobEffect_form (b : Blk) (j : Job) (h₀ : MediaForm b) : MediaForm (Blk.jobEffect b j) := by
  unfold Blk.jobEffect
  have hid (c : Blk) (hc : MediaForm c) : MediaForm (id c) := hc
  split
  · split
    · exact Blk.homeWritten_form _ _ _ _ _ h₀ (fun c hc => Blk.putBuf_form _ _ _ hc) (fun c hc => Blk.putBuf_form _ _ _ hc) (fun c hc => Blk.bufferDone_form _ _ hc)
    · exact h₀
  · exact Blk.homeWritten_form _ _ _ _ _ h₀ hid (fun c hc => Blk.throughAgain_form _ _ hc) (fun c hc => Blk.throughDone_form _ _ _ hc)
  · exact Blk.homeWritten_form _ _ _ _ _ h₀ hid hid hid
  all_goals (repeat (first | with_reducible assumption | (with_reducible apply Blk.onSafety_form) | (with_reducible apply Blk.bump_form) | (with_reducible apply Blk.putBuf_form) | (with_reducible apply Blk.bufferDone_form) | (with_reducible apply Blk.throughDone_form) | (with_reducible apply Blk.lapStep_form) | (with_reducible apply Blk.scanOver_form) | (with_reducible apply Blk.tagWritten_form) | (with_reducible apply Blk.throughAgain_form) | (with_reducible apply Blk.freshStep_form) | (with_reducible apply Blk.stripeDone_form) | split))

theorem Blk.jobOver_form (b : Blk) (n : Nat) (h₀ : MediaForm b) : MediaForm (Blk.jobOver b n) := by
  unfold Blk.jobOver
  repeat (first | with_reducible assumption | (with_reducible apply Blk.dropJob_form) | (with_reducible apply Blk.issueHeld_form) | (with_reducible apply Blk.tagWritten_form) | (with_reducible apply Blk.jobEffect_form) | with_reducible apply form_ite | split)

theorem Blk.advanceJobs_form (b : Blk) (h₀ : MediaForm b) : MediaForm (Blk.advanceJobs b) := by
  unfold Blk.advanceJobs
  repeat (first | with_reducible assumption | (with_reducible apply Blk.advanceJob_form) | (with_reducible apply Blk.jobOver_form) | (with_reducible refine form_foldl (fun c x hc => ?_) _ _ ?_))

theorem Blk.moveLines_form (b : Blk) (key : Nat) (h₀ : MediaForm b) : MediaForm (Blk.moveLines b key) := by
  unfold Blk.moveLines
  repeat (first | with_reducible assumption | (with_reducible apply Blk.storeLine_form) | (with_reducible apply Blk.blankLine_form) | (with_reducible refine form_foldl (fun c x hc => ?_) _ _ ?_) | extract_lets | split | (dsimp +zetaDelta only))

theorem Blk.leaveSlot_form (b : Blk) (slot : Nat) (h₀ : MediaForm b) : MediaForm (Blk.leaveSlot b slot) :=
  keep_form (Blk.leaveSlot_only (m₀ := [.twill]) b slot (by decide) (only_refl _ _)) (by decide) h₀

theorem Blk.clearCells_form (b : Blk) (d : Nat) (h₀ : MediaForm b) : MediaForm (Blk.clearCells b d) :=
  keep_form (Blk.clearCells_only (m₀ := [.gauze]) b d (by decide) (only_refl _ _)) (by decide) h₀

theorem Blk.rebuildOver_form (b : Blk) (h₀ : MediaForm b) : MediaForm (Blk.rebuildOver b) :=
  keep_form (Blk.rebuildOver_only (m₀ := [.out, .od, .hA, .hB, .muslin, .can, .linen, .tweed, .modes, .safety]) b (by decide) (only_refl _ _)) (by decide) h₀

theorem Blk.endRebuild_form (b : Blk) (key d : Nat) (h₀ : MediaForm b) : MediaForm (Blk.endRebuild b key d) := by
  unfold Blk.endRebuild
  repeat (first | with_reducible assumption | (with_reducible apply onMedia_form <;> [(intro; rfl); skip]) | (with_reducible apply Blk.onTwill_form) | (with_reducible apply Blk.onSafety_form) | (with_reducible apply Blk.bump_form) | (with_reducible apply Blk.journalRec_form) | (with_reducible apply Blk.leaveSlot_form) | (with_reducible apply Blk.clearCells_form) | (with_reducible apply Blk.rebuildOver_form) | (with_reducible apply Blk.moveLines_form) | with_reducible apply form_ite | extract_lets | (dsimp +zetaDelta only))

theorem Blk.startJob_form (b : Blk) (j : Job) (h₀ : MediaForm b) : MediaForm (Blk.startJob b j) :=
  keep_form (Blk.startJob_only (m₀ := [.free, .media, .twill, .tweed]) b j (by decide) (only_refl _ _)) (by decide) h₀

theorem Blk.stepRebuild_form (b : Blk) (h₀ : MediaForm b) : MediaForm (Blk.stepRebuild b) := by
  unfold Blk.stepRebuild
  repeat (first | with_reducible assumption | (with_reducible apply Blk.startJob_form) | (with_reducible apply Blk.endRebuild_form) | with_reducible apply form_ite | extract_lets | split | (dsimp +zetaDelta only))

theorem Blk.areaNew_form (b : Blk) (area : Nat) (h₀ : MediaForm b) : MediaForm (Blk.areaNew b area) :=
  keep_form (Blk.areaNew_only (m₀ := [.gauze]) b area (by decide) (only_refl _ _)) (by decide) h₀

theorem Blk.endPass_form (b : Blk) (r n : Nat) (x : Rotation) (e : RegionEntry) (h₀ : MediaForm b) : MediaForm (Blk.endPass b r n x e) := by
  unfold Blk.endPass
  repeat (first | with_reducible assumption | (with_reducible apply Blk.onTwill_form) | (with_reducible apply Blk.bump_form) | (with_reducible apply Blk.putRegion_form) | (with_reducible apply Blk.journalRec_form) | (with_reducible apply Blk.areaNew_form) | (with_reducible apply Blk.dropJob_form) | with_reducible apply form_ite | extract_lets | (dsimp +zetaDelta only))

theorem Blk.beginMigration_form (b : Blk) (r : Nat) (e : RegionEntry) (slot : Nat) (cold : Bool) (h₀ : MediaForm b) : MediaForm (Blk.beginMigration b r e slot cold) := by
  unfold Blk.beginMigration
  repeat (first | with_reducible assumption | (with_reducible apply Blk.onTwill_form) | (with_reducible apply Blk.setSlot_form) | (with_reducible apply Blk.putRegion_form) | (with_reducible apply Blk.lifeCheck_form) | (with_reducible apply Blk.journalRec_form) | (with_reducible apply Blk.resetSlot_form) | extract_lets | (dsimp +zetaDelta only))

theorem Blk.dropMigration_form (b : Blk) (r : Nat) (m : Migration) (e : RegionEntry) (h₀ : MediaForm b) : MediaForm (Blk.dropMigration b r m e) := by
  unfold Blk.dropMigration
  repeat (first | with_reducible assumption | (with_reducible apply onMedia_form <;> [(intro; rfl); skip]) | (with_reducible apply Blk.onTwill_form) | (with_reducible apply Blk.putRegion_form) | (with_reducible apply Blk.freeSlot_form) | (with_reducible apply Blk.dropJob_form) | (with_reducible refine form_foldl (fun c x hc => ?_) _ _ ?_) | with_reducible apply form_ite | extract_lets | split | (dsimp +zetaDelta only))

theorem Blk.startDemotion_form (b : Blk) (li : Nat) (cand : Option Nat) (h₀ : MediaForm b) : MediaForm (Blk.startDemotion b li cand) :=
  keep_form (Blk.startDemotion_only (m₀ := [.twill]) b li cand (by decide) (only_refl _ _)) (by decide) h₀

theorem Blk.endMigration_form (b : Blk) (r : Nat) (m : Migration) (e : RegionEntry) (h₀ : MediaForm b) : MediaForm (Blk.endMigration b r m e) := by
  unfold Blk.endMigration
  repeat (first | with_reducible assumption | (with_reducible apply Blk.onTwill_form) | (with_reducible apply Blk.bump_form) | (with_reducible apply Blk.putRegion_form) | (with_reducible apply Blk.startDemotion_form) | (with_reducible apply Blk.journalRec_form) | (with_reducible apply Blk.areaNew_form) | (with_reducible apply Blk.giveUp_form) | (with_reducible refine form_foldl (fun c x hc => ?_) _ _ ?_) | with_reducible apply form_ite | extract_lets | (dsimp +zetaDelta only))

theorem Blk.dropBroken_form (b : Blk) (h₀ : MediaForm b) : MediaForm (Blk.dropBroken b) := by
  unfold Blk.dropBroken
  repeat (first | with_reducible assumption | (with_reducible apply Blk.dropMigration_form) | (with_reducible refine form_foldl (fun c x hc => ?_) _ _ ?_) | with_reducible apply form_ite | split)

theorem Blk.startGroups_form (b : Blk) (h₀ : MediaForm b) : MediaForm (Blk.startGroups b) :=
  keep_form (Blk.startGroups_only (m₀ := [.free, .media, .twill, .damask, .tweed]) b (by decide) (only_refl _ _)) (by decide) h₀

theorem Blk.stepMove_form (b : Blk) (r : Nat) (h₀ : MediaForm b) : MediaForm (Blk.stepMove b r) :=
  keep_form (Blk.stepMove_only (m₀ := [.free, .media, .twill, .tweed]) b r (by decide) (only_refl _ _)) (by decide) h₀

theorem Blk.stepArea_form (b : Blk) (area : Nat) (h₀ : MediaForm b) : MediaForm (Blk.stepArea b area) :=
  keep_form (Blk.stepArea_only (m₀ := [.free, .media, .twill, .tweed]) b area (by decide) (only_refl _ _)) (by decide) h₀

theorem Blk.beginPasses_form (b : Blk) (h₀ : MediaForm b) : MediaForm (Blk.beginPasses b) :=
  keep_form (Blk.beginPasses_only (m₀ := [.free, .media, .twill, .tweed]) b (by decide) (only_refl _ _)) (by decide) h₀

theorem Blk.stepMoves_form (b : Blk) (h₀ : MediaForm b) : MediaForm (Blk.stepMoves b) := by
  unfold Blk.stepMoves
  repeat (first | with_reducible assumption | (with_reducible apply Blk.startGroups_form) | (with_reducible apply Blk.stepMove_form) | (with_reducible apply Blk.stepArea_form) | (with_reducible apply Blk.stepRebuild_form) | (with_reducible apply Blk.beginPasses_form) | (with_reducible apply Blk.dropBroken_form) | (with_reducible refine form_foldl (fun c x hc => ?_) _ _ ?_) | with_reducible apply form_ite | extract_lets | (dsimp +zetaDelta only))

theorem Blk.drive_form (b : Blk) (h₀ : MediaForm b) : MediaForm (Blk.drive b) := by
  unfold Blk.drive
  repeat (first | with_reducible assumption | (with_reducible apply Blk.issueRecords_form) | (with_reducible apply Blk.advanceJobs_form) | (with_reducible apply Blk.stepMoves_form) | with_reducible apply form_ite)

theorem Blk.egress_form (b : Blk) (li : Nat) (data : Line) (e : EgressErr) (h₀ : MediaForm b) : MediaForm (Blk.egress b li data e).1 :=
  keep_form (Blk.egress_only (m₀ := [.free, .out, .od, .hA, .hB, .can, .path, .poison, .media, .linen, .tweed, .modes, .safety]) b li data e (by decide) (only_refl _ _)) (by decide) h₀

theorem Blk.startCold_form (b : Blk) (w : Work) (li : Nat) (more : List Mem) (h₀ : MediaForm b) : MediaForm (Blk.startCold b w li more) :=
  keep_form (Blk.startCold_only (m₀ := [.free, .media, .twill, .tweed]) b w li more (by decide) (only_refl _ _)) (by decide) h₀

theorem Blk.cannotStore_form (b : Blk) (li : Nat) (h₀ : MediaForm b) : MediaForm (Blk.cannotStore b li) :=
  keep_form (Blk.cannotStore_only (m₀ := [.free, .out, .od, .hA, .hB, .can, .path, .poison, .media, .linen, .tweed, .modes]) b li (by decide) (only_refl _ _)) (by decide) h₀

theorem Blk.countStall_form (b : Blk) (stall : Bool) (h₀ : MediaForm b) : MediaForm (Blk.countStall b stall) :=
  keep_form (Blk.countStall_only (m₀ := [.od, .tweed]) b stall (by decide) (only_refl _ _)) (by decide) h₀

theorem Blk.coldBuffer_form (b0 : Blk) (n : Nat) (x : HBuf) (e : EgressErr) (h₀ : MediaForm b0) : MediaForm (Blk.coldBuffer b0 n x e) := by
  unfold Blk.coldBuffer
  repeat (first | with_reducible assumption | (with_reducible apply Blk.report_form) | (with_reducible apply Blk.bufferDone_form) | (with_reducible apply Blk.egress_form) | (with_reducible apply Blk.startCold_form) | (with_reducible apply Blk.cannotStore_form) | (with_reducible apply Blk.countStall_form) | with_reducible apply form_ite | extract_lets | split | (dsimp +zetaDelta only))

theorem Blk.coldThrough_form (b0 : Blk) (li : Nat) (e : EgressErr) (h₀ : MediaForm b0) : MediaForm (Blk.coldThrough b0 li e) := by
  unfold Blk.coldThrough
  repeat (first | with_reducible assumption | (with_reducible apply Blk.completeWrites_form) | (with_reducible apply Blk.egress_form) | (with_reducible apply Blk.throughAgain_form) | (with_reducible apply Blk.startCold_form) | (with_reducible apply Blk.cannotStore_form) | (with_reducible apply Blk.countStall_form) | with_reducible apply form_ite | extract_lets | split | (dsimp +zetaDelta only))

theorem Blk.markUsed_form (b : Blk) (li : Nat) (h₀ : MediaForm b) : MediaForm (Blk.markUsed b li) :=
  keep_form (Blk.markUsed_only (m₀ := [.velvet]) b li (by decide) (only_refl _ _)) (by decide) h₀

theorem Blk.wasteCopy_form (b : Blk) (slot stripe : Nat) (h₀ : MediaForm b) : MediaForm (Blk.wasteCopy b slot stripe) :=
  keep_form (Blk.wasteCopy_only (m₀ := [.twill]) b slot stripe (by decide) (only_refl _ _)) (by decide) h₀

theorem Blk.applySwitch_form (b : Blk) (li : Nat) (why : ProgFor) (since : Nat) (h₀ : MediaForm b) : MediaForm (Blk.applySwitch b li why since) := by
  unfold Blk.applySwitch
  repeat (first | with_reducible assumption | (with_reducible apply Blk.setHot_form) | (with_reducible apply Blk.bufferDone_form) | (with_reducible apply Blk.throughDone_form) | (with_reducible apply Blk.dropJob_form) | (with_reducible apply Blk.jobEffect_form) | (with_reducible apply Blk.markUsed_form) | (with_reducible apply Blk.wasteCopy_form) | split)

theorem Blk.switchLine_form (b : Blk) (li : Nat) (why : ProgFor) (since : Nat) (h₀ : MediaForm b) : MediaForm (Blk.switchLine b li why since) := by
  unfold Blk.switchLine
  repeat (first | with_reducible assumption | (with_reducible apply onMedia_form <;> [(intro; rfl); skip]) | (with_reducible apply Blk.applySwitch_form) | with_reducible apply form_ite)

theorem Blk.pumpSwitches_form (b : Blk) (h₀ : MediaForm b) : MediaForm (Blk.pumpSwitches b) := by
  unfold Blk.pumpSwitches
  repeat (first | with_reducible assumption | (with_reducible apply onMedia_form <;> [(intro; rfl); skip]) | (with_reducible apply Blk.switchLine_form) | (with_reducible refine form_foldl (fun c x hc => ?_) _ _ ?_))

theorem Blk.keepWay_form (b : Blk) (li : Nat) (h₀ : MediaForm b) : MediaForm (Blk.keepWay b li) :=
  keep_form (Blk.keepWay_only (m₀ := [.twill]) b li (by decide) (only_refl _ _)) (by decide) h₀

theorem Blk.hotWrite_form (b : Blk) (n : Nat) (x : HBuf) (lane : Nat) (l : Lane) (h₀ : MediaForm b) : MediaForm (Blk.hotWrite b n x lane l) := by
  unfold Blk.hotWrite
  repeat (first | with_reducible assumption | (with_reducible apply Blk.storeLine_form) | (with_reducible apply Blk.putBuf_form) | (with_reducible apply Blk.program_form) | (with_reducible apply Blk.closeFull_form) | (with_reducible apply Blk.takePosition_form) | (with_reducible apply Blk.keepWay_form) | (with_reducible apply Blk.switchLine_form) | with_reducible apply form_ite | extract_lets | (dsimp +zetaDelta only))

theorem Blk.closeAfter_form (b : Blk) (why : ProgFor) (h₀ : MediaForm b) : MediaForm (b.closeAfter why) := by
  cases why <;> first | exact h₀ | (apply Blk.closeFull_form; exact h₀)

theorem Blk.recordStored_form (b : Blk) (x : Mem) (h₀ : MediaForm b) : MediaForm (Blk.recordStored b x) :=
  keep_form (Blk.recordStored_only (m₀ := [.free, .out, .od, .hA, .hB, .can, .path, .media, .linen, .tweed]) b x (by decide) (only_refl _ _)) (by decide) h₀

theorem Blk.programStored_form (b : Blk) (why : ProgFor) (since : Nat) (h₀ : MediaForm b) : MediaForm (Blk.programStored b why since) := by
  unfold Blk.programStored
  extract_lets b1
  have hb : MediaForm b1 := Blk.closeAfter_form b why h₀
  clear_value b1
  repeat (first | with_reducible assumption | (with_reducible apply onMedia_form <;> [(intro; rfl); skip]) | (with_reducible apply Blk.recordStored_form) | (with_reducible apply Blk.onJob_form) | (with_reducible apply Blk.dropJob_form) | (with_reducible apply Blk.wasteCopy_form) | (with_reducible apply Blk.switchLine_form) | (with_reducible apply Blk.closeAfter_form) | split)

theorem Blk.closeFailed_form (b : Blk) (slot stripe : Nat) (h₀ : MediaForm b) : MediaForm (Blk.closeFailed b slot stripe) := by
  unfold Blk.closeFailed
  repeat (first | with_reducible assumption | (with_reducible apply Blk.onTwill_form) | (with_reducible apply Blk.closeStripe_form) | extract_lets | split | (dsimp +zetaDelta only))

theorem Blk.recordAgain_form (b : Blk) (x : Mem) (c : MLine) (h₀ : MediaForm b) : MediaForm (Blk.recordAgain b x c) :=
  keep_form (Blk.recordAgain_only (m₀ := [.free, .out, .od, .hA, .hB, .can, .path, .media, .twill, .linen, .tweed]) b x c (by decide) (only_refl _ _)) (by decide) h₀

theorem Blk.jobFailed_form (b : Blk) (j : Nat) (x : Mem) (loc : Nat) (c : MLine) (h₀ : MediaForm b) : MediaForm (Blk.jobFailed b j x loc c) :=
  keep_form (Blk.jobFailed_only (m₀ := [.free, .out, .od, .hA, .hB, .can, .path, .media, .velvet, .twill, .linen, .tweed]) b j x loc c (by decide) (only_refl _ _)) (by decide) h₀

theorem Blk.retireLocation_form (b : Blk) (pid line : Nat) (c : MLine) (why : ProgFor) (h₀ : MediaForm b) : MediaForm (Blk.retireLocation b pid line c why) := by
  unfold Blk.retireLocation
  repeat (first | with_reducible assumption | (with_reducible apply onMedia_form <;> [(intro; rfl); skip]) | (with_reducible apply Blk.onTwill_form) | (with_reducible apply Blk.reportUnit_form) | (with_reducible apply Blk.storeLine_form) | (with_reducible apply Blk.putBuf_form) | (with_reducible apply Blk.recordAgain_form) | (with_reducible apply Blk.onJob_form) | (with_reducible apply Blk.tileFailure_form) | (with_reducible apply Blk.throughAgain_form) | (with_reducible apply Blk.leaveSlot_form) | (with_reducible apply Blk.closeFailed_form) | (with_reducible apply Blk.jobFailed_form) | with_reducible apply form_ite | extract_lets | split | (dsimp +zetaDelta only))

theorem Blk.reprogram_form (b : Blk) (pid line : Nat) (c : MLine) (why : ProgFor) (ovw : Bool) (tries : Nat) (h₀ : MediaForm b) : MediaForm (Blk.reprogram b pid line c why ovw tries) :=
  keep_form (Blk.reprogram_only (m₀ := [.free, .out, .od, .hA, .hB, .can, .media, .twill, .linen, .tweed]) b pid line c why ovw tries (by decide) (only_refl _ _)) (by decide) h₀

theorem Blk.verifyEnds_form (b : Blk) (pid : Nat) (same : Bool) (h₀ : MediaForm b) : MediaForm (Blk.verifyEnds b pid same) := by
  unfold Blk.verifyEnds
  repeat (first | with_reducible assumption | (with_reducible apply Blk.onPart_form) | (with_reducible apply Blk.programStored_form) | (with_reducible apply Blk.retireLocation_form) | (with_reducible apply Blk.reprogram_form) | with_reducible apply form_ite | split)

theorem Blk.dieBusy_form (b : Blk) (d ns : Nat) (h₀ : MediaForm b) : MediaForm (Blk.dieBusy b d ns) :=
  keep_form (Blk.dieBusy_only (m₀ := [.media, .tweed]) b d ns (by decide) (only_refl _ _)) (by decide) h₀

theorem Blk.askVerify_form (b : Blk) (pid : Nat) (h₀ : MediaForm b) : MediaForm (Blk.askVerify b pid) :=
  keep_form (Blk.askVerify_only (m₀ := [.media]) b pid (by decide) (only_refl _ _)) (by decide) h₀

theorem Blk.programEnds_form (b0 : Blk) (pid : Nat) (ok : Bool) (h₀ : MediaForm b0) : MediaForm (Blk.programEnds b0 pid ok) := by
  unfold Blk.programEnds
  repeat (first | with_reducible assumption | (with_reducible apply onMedia_form <;> [(intro; rfl); skip]) | (with_reducible apply Blk.bump_form) | (with_reducible apply Blk.dieBusy_form) | (with_reducible apply Blk.onPart_form) | (with_reducible apply Blk.storeLine_form) | (with_reducible apply Blk.program_form) | (with_reducible apply Blk.programStored_form) | (with_reducible apply Blk.retireLocation_form) | (with_reducible apply Blk.askVerify_form) | (with_reducible refine form_foldl (fun c x hc => ?_) _ _ ?_) | with_reducible apply form_ite | extract_lets | split | (dsimp +zetaDelta only))

theorem Blk.pump_form (b : Blk) (d : Nat) (h₀ : MediaForm b) : MediaForm (Blk.pump b d) :=
  keep_form (Blk.pump_only (m₀ := [.free, .out, .od, .hA, .hB, .can, .media, .twill, .linen, .tweed]) b d (by decide) (only_refl _ _)) (by decide) h₀

theorem Blk.goOn_form (b : Blk) (d : Nat) (h₀ : MediaForm b) : MediaForm (Blk.goOn b d) := by
  unfold Blk.goOn
  repeat (first | with_reducible assumption | (with_reducible apply Blk.pump_form) | (with_reducible apply Blk.drive_form) | (with_reducible apply Blk.pumpSwitches_form))

theorem Blk.blankTiles_form (b : Blk) (pid tile count : Nat) (h₀ : MediaForm b) : MediaForm (Blk.blankTiles b pid tile count) := by
  unfold Blk.blankTiles; extract_lets; exact onMedia_lines' (fun m hm => NMap.filter_rising _ hm) h₀

theorem Blk.retireTile_form (b : Blk) (key : Nat) (h₀ : MediaForm b) : MediaForm (Blk.retireTile b key) :=
  keep_form (Blk.retireTile_only (m₀ := [.twill]) b key (by decide) (only_refl _ _)) (by decide) h₀

theorem Blk.resetEnds_form (b : Blk) (pid : Nat) (ok : Bool) (h₀ : MediaForm b) : MediaForm (Blk.resetEnds b pid ok) := by
  unfold Blk.resetEnds
  repeat (first | with_reducible assumption | (with_reducible apply Blk.bump_form) | (with_reducible apply Blk.reportUnit_form) | (with_reducible apply Blk.dieBusy_form) | (with_reducible apply Blk.onPart_form) | (with_reducible apply Blk.resetOver_form) | (with_reducible apply Blk.tileFailure_form) | (with_reducible apply Blk.blankTiles_form) | (with_reducible apply Blk.retireTile_form) | with_reducible apply form_ite | extract_lets | split | (dsimp +zetaDelta only))

theorem Blk.openOwn_form (b : Blk) (rid : Nat) (a : Acc) (p : Place) (e : DpErr) (h₀ : MediaForm b) : MediaForm (Blk.openOwn b rid a p e) :=
  keep_form (Blk.openOwn_only (m₀ := [.free, .out, .od, .hA, .hB, .can, .path, .media, .velvet, .linen, .tweed, .modes, .safety]) b rid a p e (by decide) (only_refl _ _)) (by decide) h₀

theorem Blk.resumeHeld_form (b : Blk) (x : Acc) (e : DpErr) (h₀ : MediaForm b) : MediaForm (Blk.resumeHeld b x e) := by
  unfold Blk.resumeHeld
  repeat (first | with_reducible assumption | (with_reducible apply Blk.onAcc_form) | (with_reducible apply Blk.lineData_form) | (with_reducible apply Blk.startRead_form) | (with_reducible apply Blk.openOwn_form) | with_reducible apply form_ite | split)

theorem Blk.tagArrives_form (b : Blk) (ti : Nat) (h₀ : MediaForm b) : MediaForm (Blk.tagArrives b ti) := by
  unfold Blk.tagArrives
  repeat (first | with_reducible assumption | (with_reducible apply Blk.onAcc_form) | (with_reducible apply Blk.resumeHeld_form) | (with_reducible refine form_foldl (fun c x hc => ?_) _ _ ?_) | extract_lets | split | (dsimp +zetaDelta only))

theorem Blk.settleTag_form (b : Blk) (rid : Nat) (h₀ : MediaForm b) : MediaForm (Blk.settleTag b rid) := by
  unfold Blk.settleTag
  repeat (first | with_reducible assumption | (with_reducible apply Blk.onAcc_form) | (with_reducible apply Blk.startDeep_form) | (with_reducible apply Blk.tagArrives_form) | (with_reducible refine form_foldl (fun c x hc => ?_) _ _ ?_) | with_reducible apply form_ite | split)

theorem Blk.settleLists_form (b : Blk) (h₀ : MediaForm b) : MediaForm (Blk.settleLists b) := by
  unfold Blk.settleLists
  repeat (first | with_reducible assumption | (with_reducible apply Blk.onAcc_form) | (with_reducible apply Blk.resumeHeld_form) | (with_reducible refine form_foldl (fun c x hc => ?_) _ _ ?_) | split)

theorem Blk.settleTags_form (b : Blk) (h₀ : MediaForm b) : MediaForm (Blk.settleTags b) := by
  unfold Blk.settleTags
  repeat (first | with_reducible assumption | (with_reducible apply Blk.settleTag_form) | (with_reducible apply Blk.settleLists_form) | (with_reducible refine form_foldl (fun c x hc => ?_) _ _ ?_))

theorem Blk.marginOn_form (b : Blk) (pid : Nat) (h₀ : MediaForm b) : MediaForm (Blk.marginOn b pid) :=
  keep_form (Blk.marginOn_only (m₀ := [.free, .out, .media, .gauze, .tweed]) b pid (by decide) (only_refl _ _)) (by decide) h₀

theorem Blk.readOn_form (b : Blk) (d : Nat) (h₀ : MediaForm b) : MediaForm (Blk.readOn b d) := by
  unfold Blk.readOn
  repeat (first | with_reducible assumption | (with_reducible apply Blk.askVerify_form) | (with_reducible apply Blk.goOn_form) | (with_reducible apply Blk.marginOn_form) | (with_reducible apply Blk.settleTags_form) | (with_reducible refine form_foldl (fun c x hc => ?_) _ _ ?_))

theorem Blk.fromBuffer_form (b : Blk) (t : ReadTask) (h₀ : MediaForm b) : MediaForm (Blk.fromBuffer b t) := by
  unfold Blk.fromBuffer
  repeat (first | with_reducible assumption | (with_reducible apply Blk.onAcc_form) | (with_reducible apply Blk.lineData_form) | (with_reducible apply Blk.startRead_form) | (with_reducible apply Blk.jobRead_form) | (with_reducible apply Blk.openOwn_form) | (with_reducible apply Blk.tagArrives_form) | with_reducible apply form_ite | split)

theorem Blk.besideReplay_form (b : Blk) (t : ReadTask) (h₀ : MediaForm b) : MediaForm (Blk.besideReplay b t) := by
  unfold Blk.besideReplay
  repeat (first | with_reducible assumption | (with_reducible apply Blk.tagRecon_form) | (with_reducible apply Blk.reconOnce_form) | split)

theorem Blk.readLost_form (b : Blk) (t : ReadTask) (h₀ : MediaForm b) : MediaForm (Blk.readLost b t) := by
  unfold Blk.readLost
  repeat (first | with_reducible assumption | (with_reducible apply Blk.onAcc_form) | (with_reducible apply Blk.tagRecon_form) | (with_reducible apply Blk.erase_form) | (with_reducible apply Blk.reconOnce_form) | (with_reducible apply Blk.jobRead_form) | (with_reducible apply Blk.verifyEnds_form) | split)

theorem Blk.twChan_form (b : Blk) (ch event : Nat) (h₀ : MediaForm b) : MediaForm (Blk.twChan b ch event) :=
  keep_form (Blk.twChan_only (m₀ := [.free, .tweed]) b ch event (by decide) (only_refl _ _)) (by decide) h₀

theorem Blk.sendDie_form (b : Blk) (d : Nat) (c : DieCmd) (h₀ : MediaForm b) : MediaForm (Blk.sendDie b d c) :=
  keep_form (Blk.sendDie_only (m₀ := [.out, .media]) b d c (by decide) (only_refl _ _)) (by decide) h₀

theorem Blk.replaysExhausted_form (b : Blk) (ch : Nat) (h₀ : MediaForm b) : MediaForm (Blk.replaysExhausted b ch) :=
  keep_form (Blk.replaysExhausted_only (m₀ := [.out, .od, .hA, .hB, .can, .media, .linen]) b ch (by decide) (only_refl _ _)) (by decide) h₀

theorem Blk.transferFailed_form (b : Blk) (pid : Nat) (t : ReadTask) (strobe : Bool) (h₀ : MediaForm b) : MediaForm (Blk.transferFailed b pid t strobe) := by
  unfold Blk.transferFailed
  repeat (first | with_reducible assumption | (with_reducible apply Blk.bump_form) | (with_reducible apply Blk.twChan_form) | (with_reducible apply Blk.onPart_form) | (with_reducible apply Blk.sendDie_form) | (with_reducible apply Blk.replaysExhausted_form) | (with_reducible apply Blk.besideReplay_form) | (with_reducible apply Blk.readLost_form) | with_reducible apply form_ite | extract_lets | (dsimp +zetaDelta only))

theorem Blk.lineRead_form (b : Blk) (t : ReadTask) (e : DpErr) (h₀ : MediaForm b) : MediaForm (Blk.lineRead b t e) := by
  unfold Blk.lineRead
  repeat (first | with_reducible assumption | (with_reducible apply Blk.onAcc_form) | (with_reducible apply Blk.startRead_form) | (with_reducible apply Blk.jobRead_form) | (with_reducible apply Blk.verifyEnds_form) | (with_reducible apply Blk.openOwn_form) | (with_reducible apply Blk.tagArrives_form) | split)

theorem Blk.checkLine_form (b : Blk) (t : ReadTask) (x : Xfer) (h₀ : MediaForm b) : MediaForm (Blk.checkLine b t x).1 :=
  keep_form (Blk.checkLine_only (m₀ := [.free, .out, .od, .hA, .hB, .can, .media, .gauze, .linen, .tweed]) b t x (by decide) (only_refl _ _)) (by decide) h₀

theorem Blk.transferred_form (b : Blk) (t : ReadTask) (x : Xfer) (h₀ : MediaForm b) : MediaForm (Blk.transferred b t x) := by
  unfold Blk.transferred
  repeat (first | with_reducible assumption | (with_reducible apply Blk.startRead_form) | (with_reducible apply Blk.readLost_form) | (with_reducible apply Blk.checkLine_form) | (with_reducible apply Blk.lineRead_form) | with_reducible apply form_ite | extract_lets | split | (dsimp +zetaDelta only))

theorem Blk.onCan_form (b : Blk) (f : Can → Can) (h₀ : MediaForm b) : MediaForm (Blk.onCan b f) :=
  keep_form (Blk.onCan_only (m₀ := [.can]) b f (by decide) (only_refl _ _)) (by decide) h₀

theorem Blk.newNonce_form (b : Blk) (h₀ : MediaForm b) : MediaForm (Blk.newNonce b) :=
  keep_form (Blk.newNonce_only (m₀ := [.rng, .can]) b (by decide) (only_refl _ _)) (by decide) h₀

theorem Blk.macFailed_form (b : Blk) (h₀ : MediaForm b) : MediaForm (Blk.macFailed b) :=
  keep_form (Blk.macFailed_only (m₀ := [.out, .od, .hA, .hB, .can, .linen]) b (by decide) (only_refl _ _)) (by decide) h₀

theorem Blk.withMac_form (b : Blk) (ctr : BitVec 32) (mac : BitVec 64) (op : Nat) (bytes : List Byte) (f : Blk → Blk) (hf : ∀ c, MediaForm c → MediaForm (f c)) (h₀ : MediaForm b) : MediaForm (Blk.withMac b ctr mac op bytes f) := by
  unfold Blk.withMac
  repeat (first | with_reducible assumption | (with_reducible apply Blk.onCan_form) | (with_reducible apply Blk.newNonce_form) | (with_reducible apply Blk.macFailed_form) | (with_reducible apply hf) | (with_reducible apply form_ite) | extract_lets | split | (intro c hc) | exact h₀)

theorem Blk.canSend_form (b : Blk) (f : BitVec 512) (h₀ : MediaForm b) : MediaForm (Blk.canSend b f) :=
  keep_form (Blk.canSend_only (m₀ := [.out]) b f (by decide) (only_refl _ _)) (by decide) h₀

theorem Blk.reply_form (b : Blk) (src : Src) (r : Reply) (h₀ : MediaForm b) : MediaForm (Blk.reply b src r) :=
  keep_form (Blk.reply_only (m₀ := [.out, .can]) b src r (by decide) (only_refl _ _)) (by decide) h₀

theorem Blk.canStatus_form (b : Blk) (tr : BitVec 8) (q : DReq) (st : Nat) (h₀ : MediaForm b) : MediaForm (Blk.canStatus b tr q st) :=
  keep_form (Blk.canStatus_only (m₀ := [.out]) b tr q st (by decide) (only_refl _ _)) (by decide) h₀

theorem Blk.canAdmit_form (b : Blk) (tr : BitVec 8) (maint : Bool) (ctr : BitVec 32) (mac : BitVec 64) (q : DReq) (f : Blk → Blk) (hf : ∀ c, MediaForm c → MediaForm (f c)) (h₀ : MediaForm b) : MediaForm (Blk.canAdmit b tr maint ctr mac q f) := by
  unfold Blk.canAdmit
  repeat (first | with_reducible assumption | (with_reducible apply Blk.onCan_form) | (with_reducible apply Blk.canSend_form) | (with_reducible apply Blk.reply_form) | (with_reducible apply Blk.withMac_form <;> [(intros; try dsimp only); skip]) | (with_reducible apply Blk.canStatus_form) | (with_reducible apply hf) | (with_reducible apply form_ite) | extract_lets | split | (intro c hc) | exact h₀)

theorem Blk.twEngine_form (b : Blk) (base : Nat) (h₀ : MediaForm b) : MediaForm (Blk.twEngine b base) :=
  keep_form (Blk.twEngine_only (m₀ := [.free, .tweed]) b base (by decide) (only_refl _ _)) (by decide) h₀

theorem Blk.touch_form (b : Blk) (src : Src) (h₀ : MediaForm b) : MediaForm (Blk.touch b src) :=
  keep_form (Blk.touch_only (m₀ := [.sesA, .sesB, .sesC]) b src (by decide) (only_refl _ _)) (by decide) h₀

theorem Blk.admitReq_form (b : Blk) (src : Src) (q : DReq) (f : Blk → Blk) (hf : ∀ c, MediaForm c → MediaForm (f c)) (h₀ : MediaForm b) : MediaForm (Blk.admitReq b src q f) := by
  unfold Blk.admitReq
  repeat (first | with_reducible assumption | (with_reducible apply Blk.twEngine_form) | (with_reducible apply Blk.touch_form) | (with_reducible apply Blk.canAdmit_form <;> [(intros; try dsimp only); skip]) | (with_reducible apply hf) | (with_reducible apply form_ite) | extract_lets | split | (intro c hc))

theorem Blk.writeReq_form (b : Blk) (src : Src) (idx sub : Nat) (val : List Byte) (act : Nat → Blk → Blk) (hf : ∀ v c, MediaForm c → MediaForm (act v c)) (h₀ : MediaForm b) : MediaForm (Blk.writeReq b src idx sub val act) := by
  unfold Blk.writeReq
  repeat (first | with_reducible assumption | (with_reducible apply Blk.reply_form) | (with_reducible apply Blk.admitReq_form <;> [(intros; try dsimp only); skip]) | (with_reducible apply hf) | (with_reducible apply form_ite) | extract_lets | split | (intro c hc))

theorem Blk.bulkAnswer_form (b : Blk) (src : Src) (op idx sub st : Nat) (total crc : Nat := 0) (chunk : List Byte := []) (h₀ : MediaForm b) : MediaForm (Blk.bulkAnswer b src op idx sub st total crc chunk) :=
  keep_form (Blk.bulkAnswer_only (m₀ := [.out, .can]) b src op idx sub st total crc chunk (by decide) (only_refl _ _)) (by decide) h₀

theorem Blk.openRefused_form (b : Blk) (idx sub st : Nat) (h₀ : MediaForm b) : MediaForm (Blk.openRefused b idx sub st) :=
  keep_form (Blk.openRefused_only (m₀ := [.od]) b idx sub st (by decide) (only_refl _ _)) (by decide) h₀

theorem Blk.objectReq_form (b : Blk) (src : Src) (idx sub : Nat) (bytes : List Byte) (apply : Blk → Blk × Nat) (hf : ∀ c, MediaForm c → MediaForm (apply c).1) (h₀ : MediaForm b) : MediaForm (Blk.objectReq b src idx sub bytes apply) := by
  unfold Blk.objectReq
  repeat (first | with_reducible assumption | (with_reducible apply Blk.admitReq_form <;> [(intros; try dsimp only); skip]) | (with_reducible apply Blk.bulkAnswer_form) | (with_reducible apply Blk.openRefused_form) | (with_reducible apply hf) | (with_reducible apply form_ite) | extract_lets | split | (intro c hc))

theorem Blk.mbox_form (b : Blk) (h : Head) (f : Blk → Blk) (hf : ∀ c, MediaForm c → MediaForm (f c)) (h₀ : MediaForm b) : MediaForm (Blk.mbox b h f) := by
  unfold Blk.mbox
  repeat (first | with_reducible assumption | (with_reducible apply hf) | (with_reducible apply form_ite) | extract_lets | split | (intro c hc))

theorem Blk.dropWayHalf_form (b : Blk) (h : Head) (key : Nat) (h₀ : MediaForm b) : MediaForm (Blk.dropWayHalf b h key) := by
  unfold Blk.dropWayHalf
  repeat (first | with_reducible assumption | (with_reducible apply Blk.putWay_form) | (with_reducible apply Blk.startFill_form) | with_reducible apply form_ite | extract_lets | split | (dsimp +zetaDelta only))

theorem Blk.dropBufHalf_form (b : Blk) (key : Nat) (h₀ : MediaForm b) : MediaForm (Blk.dropBufHalf b key) :=
  keep_form (Blk.dropBufHalf_only (m₀ := [.free, .velvet]) b key (by decide) (only_refl _ _)) (by decide) h₀

theorem Blk.dropHalf_form (b : Blk) (h : Head) (key : Nat) (h₀ : MediaForm b) : MediaForm (Blk.dropHalf b h key) := by
  unfold Blk.dropHalf
  repeat (first | with_reducible assumption | (with_reducible apply Blk.dropWayHalf_form) | (with_reducible apply Blk.dropBufHalf_form))

theorem Blk.bind_form (b : Blk) (h₀ : MediaForm b) : MediaForm (Blk.bind b) := by
  unfold Blk.bind
  repeat (first | with_reducible assumption | (with_reducible apply Blk.onDamask_form) | (with_reducible apply Blk.putOwnLine_form) | (with_reducible refine form_foldl (fun c x hc => ?_) _ _ ?_) | extract_lets | (dsimp +zetaDelta only))

theorem Blk.odSet_form (b : Blk) (idx sub v : Nat) (h₀ : MediaForm b) : MediaForm (Blk.odSet b idx sub v) :=
  keep_form (Blk.odSet_only (m₀ := [.od]) b idx sub v (by decide) (only_refl _ _)) (by decide) h₀

theorem Blk.itemWrite_form (b : Blk) (item : Nat) (h₀ : MediaForm b) : MediaForm (Blk.itemWrite b item) :=
  keep_form (Blk.itemWrite_only (m₀ := [.out, .od, .hA, .hB, .can, .linen, .felt]) b item (by decide) (only_refl _ _)) (by decide) h₀

theorem Blk.escrowChanged_form (b : Blk) (h₀ : MediaForm b) : MediaForm (Blk.escrowChanged b) :=
  keep_form (Blk.escrowChanged_only (m₀ := [.out, .od, .hA, .hB, .can, .linen]) b (by decide) (only_refl _ _)) (by decide) h₀

theorem Blk.boundNow_form (b : Blk) (h₀ : MediaForm b) : MediaForm (Blk.boundNow b) :=
  keep_form (Blk.boundNow_only (m₀ := [.damask, .modes]) b (by decide) (only_refl _ _)) (by decide) h₀

theorem Blk.applyEscrow_form (b : Blk) (bytes : List Byte) (h₀ : MediaForm b) : MediaForm (Blk.applyEscrow b bytes).1 := by
  unfold Blk.applyEscrow
  repeat (first | with_reducible assumption | (with_reducible apply Blk.onDamask_form) | (with_reducible apply Blk.odSet_form) | (with_reducible apply Blk.report_form) | (with_reducible apply Blk.itemWrite_form) | (with_reducible apply Blk.escrowChanged_form) | (with_reducible apply Blk.bind_form) | (with_reducible apply Blk.boundNow_form) | with_reducible apply form_ite | extract_lets | with_reducible apply form_ite_fst | dsimp only | (dsimp +zetaDelta only))

theorem Blk.rekeyGroup_form (b : Blk) (r e : Nat) (h₀ : MediaForm b) : MediaForm (Blk.rekeyGroup b r e) := by
  unfold Blk.rekeyGroup
  repeat (first | with_reducible assumption | (with_reducible apply Blk.onDamask_form) | (with_reducible apply Blk.bump_form) | (with_reducible apply Blk.drive_form) | with_reducible apply form_ite | split)

theorem Blk.applyKek_form (b : Blk) (bytes : List Byte) (h₀ : MediaForm b) : MediaForm (Blk.applyKek b bytes).1 :=
  keep_form (Blk.applyKek_only (m₀ := [.out, .od, .hA, .hB, .can, .damask, .linen, .felt]) b bytes (by decide) (only_refl _ _)) (by decide) h₀

theorem Blk.applyCal_form (b : Blk) (l : List Byte) (h₀ : MediaForm b) : MediaForm (Blk.applyCal b l).1 :=
  keep_form (Blk.applyCal_only (m₀ := [.free, .out, .od, .hA, .hB, .muslin, .can, .gauze, .linen, .tweed]) b l (by decide) (only_refl _ _)) (by decide) h₀

theorem Blk.applyMaintKey_form (b : Blk) (l : List Byte) (h₀ : MediaForm b) : MediaForm (Blk.applyMaintKey b l).1 :=
  keep_form (Blk.applyMaintKey_only (m₀ := [.out, .od, .hA, .hB, .can, .linen, .felt]) b l (by decide) (only_refl _ _)) (by decide) h₀

theorem Blk.applyMacKey_form (b : Blk) (l : List Byte) (h₀ : MediaForm b) : MediaForm (Blk.applyMacKey b l).1 :=
  keep_form (Blk.applyMacKey_only (m₀ := [.rng, .out, .od, .hA, .hB, .can, .linen, .felt]) b l (by decide) (only_refl _ _)) (by decide) h₀

theorem Blk.objectApply_form (b : Blk) (idx sub : Nat) (l : List Byte) (h₀ : MediaForm b) : MediaForm (Blk.objectApply b idx sub l).1 := by
  unfold Blk.objectApply
  repeat (first | with_reducible assumption | (with_reducible apply Blk.applyKek_form) | (with_reducible apply Blk.applyEscrow_form) | (with_reducible apply Blk.applyCal_form) | (with_reducible apply Blk.applyMaintKey_form) | (with_reducible apply Blk.applyMacKey_form) | split | with_reducible apply form_ite_fst | dsimp only)

theorem Blk.releaseAction_form (b : Blk) (src : Src) (sub : Nat) (f : Blk → Rgn → Blk) (hf : ∀ c g, MediaForm c → MediaForm (f c g)) (h₀ : MediaForm b) : MediaForm (Blk.releaseAction b src sub f) := by
  unfold Blk.releaseAction
  repeat (first | with_reducible assumption | (with_reducible apply Blk.odSet_form) | (with_reducible apply Blk.wrote_form) | (with_reducible apply hf) | (with_reducible apply form_ite) | extract_lets | split | (intro c hc))

theorem Blk.clearTagLine_form (b : Blk) (ti : Nat) (h₀ : MediaForm b) : MediaForm (Blk.clearTagLine b ti) := by
  unfold Blk.clearTagLine
  repeat (first | with_reducible assumption | (with_reducible apply Blk.onDamask_form) | (with_reducible apply Blk.putTag_form) | (with_reducible apply Blk.flushTag_form) | with_reducible apply form_ite | extract_lets | (dsimp +zetaDelta only))

theorem Blk.clearRegionTags_form (b : Blk) (g : Rgn) (h₀ : MediaForm b) : MediaForm (Blk.clearRegionTags b g) := by
  unfold Blk.clearRegionTags
  repeat (first | with_reducible assumption | (with_reducible apply Blk.onDamask_form) | (with_reducible apply Blk.clearTagLine_form) | (with_reducible refine form_foldl (fun c x hc => ?_) _ _ ?_) | extract_lets | (dsimp +zetaDelta only))

theorem Blk.clearUnit_form (b : Blk) (r : Nat) (h₀ : MediaForm b) : MediaForm (Blk.clearUnit b r) := by
  unfold Blk.clearUnit
  repeat (first | with_reducible assumption | (with_reducible apply Blk.onTwill_form) | (with_reducible apply Blk.areaNew_form) | (with_reducible apply Blk.giveUp_form) | (with_reducible apply Blk.dropMigration_form) | extract_lets | split | (dsimp +zetaDelta only))

theorem Blk.onDev_form (b : Blk) (f : Device → Device) (h₀ : MediaForm b) : MediaForm (Blk.onDev b f) :=
  keep_form (Blk.onDev_only (m₀ := [.dev]) b f (by decide) (only_refl _ _)) (by decide) h₀

theorem Blk.unlistHalf_form (b : Blk) (key : Nat) (h₀ : MediaForm b) : MediaForm (Blk.unlistHalf b key) :=
  keep_form (Blk.unlistHalf_only (m₀ := [.out, .od, .hA, .hB, .can, .poison, .media, .linen]) b key (by decide) (only_refl _ _)) (by decide) h₀

theorem Blk.dcRecord_form (b : Blk) (type : Nat) (g : Rgn) (hs : List Head) (h₀ : MediaForm b) : MediaForm (Blk.dcRecord b type g hs) :=
  keep_form (Blk.dcRecord_only (m₀ := [.out, .hA, .hB]) b type g hs (by decide) (only_refl _ _)) (by decide) h₀

theorem Blk.rgnEvent_form (b : Blk) (code : BitVec 16) (g : Rgn) (h₀ : MediaForm b) : MediaForm (Blk.rgnEvent b code g) :=
  keep_form (Blk.rgnEvent_only (m₀ := [.out, .od, .hA, .hB, .can, .linen]) b code g (by decide) (only_refl _ _)) (by decide) h₀

theorem Blk.freeRegion_form (b : Blk) (g : Rgn) (h₀ : MediaForm b) : MediaForm (Blk.freeRegion b g) := by
  unfold Blk.freeRegion
  repeat (first | with_reducible assumption | (with_reducible apply onMedia_form <;> [(intro; rfl); skip]) | (with_reducible apply Blk.onDev_form) | (with_reducible apply Blk.unlistHalf_form) | (with_reducible apply Blk.issueRecords_form) | (with_reducible apply Blk.dcRecord_form) | (with_reducible apply Blk.rgnEvent_form) | (with_reducible apply Blk.clearUnit_form) | (with_reducible refine form_foldl (fun c x hc => ?_) _ _ ?_) | with_reducible apply form_ite | extract_lets | (dsimp +zetaDelta only))

theorem Blk.retag_form (b : Blk) (li : Nat) (h₀ : MediaForm b) : MediaForm (Blk.retag b li) :=
  keep_form (Blk.retag_only (m₀ := [.od, .damask, .tweed]) b li (by decide) (only_refl _ _)) (by decide) h₀

theorem Blk.endDemotion_form (b : Blk) (li key : Nat) (e : HotEntry) (h₀ : MediaForm b) : MediaForm (Blk.endDemotion b li key e) :=
  keep_form (Blk.endDemotion_only (m₀ := [.od, .twill]) b li key e (by decide) (only_refl _ _)) (by decide) h₀

theorem Blk.goHome_form (b : Blk) (li : Nat) (h₀ : MediaForm b) : MediaForm (Blk.goHome b li) := by
  unfold Blk.goHome
  repeat (first | with_reducible assumption | (with_reducible apply Blk.abandonDemotion_form) | (with_reducible apply Blk.program_form) | (with_reducible apply Blk.retag_form) | (with_reducible apply Blk.bufferDone_form) | (with_reducible apply Blk.throughDone_form) | (with_reducible apply Blk.wrote_form) | (with_reducible apply Blk.endDemotion_form) | with_reducible apply form_ite | extract_lets | split | (dsimp +zetaDelta only))

theorem Blk.commitDemotion_form (b : Blk) (li : Nat) (h₀ : MediaForm b) : MediaForm (Blk.commitDemotion b li) := by
  unfold Blk.commitDemotion
  repeat (first | with_reducible assumption | (with_reducible apply Blk.goHome_form) | with_reducible apply form_ite)

theorem Blk.sendHome_form (b : Blk) (li : Nat) (data : Line) (h₀ : MediaForm b) : MediaForm (Blk.sendHome b li data) := by
  unfold Blk.sendHome
  repeat (first | with_reducible assumption | (with_reducible apply Blk.journalRec_form) | (with_reducible apply Blk.writeHomeNow_form) | (with_reducible apply Blk.goHome_form) | with_reducible apply form_ite | extract_lets | (dsimp +zetaDelta only))

theorem Blk.placeLine_form (b : Blk) (li : Nat) (data : Line) (h₀ : MediaForm b) : MediaForm (Blk.placeLine b li data) := by
  unfold Blk.placeLine
  repeat (first | with_reducible assumption | (with_reducible apply Blk.appendNow_form) | (with_reducible apply Blk.sendHome_form) | with_reducible apply form_ite | split)

theorem Blk.endProgram_form (b : Blk) (pid : Nat) (h₀ : MediaForm b) : MediaForm (Blk.endProgram b pid) := by
  unfold Blk.endProgram
  repeat (first | with_reducible assumption | (with_reducible apply Blk.verifyEnds_form) | (with_reducible apply Blk.programEnds_form))

theorem Blk.endPrograms_form (b : Blk) (h₀ : MediaForm b) : MediaForm (Blk.endPrograms b) := by
  unfold Blk.endPrograms
  repeat (first | with_reducible assumption | (with_reducible apply onMedia_form <;> [(intro; rfl); skip]) | (with_reducible apply Blk.storeLine_form) | (with_reducible apply Blk.countWrites_form) | (with_reducible apply Blk.programStored_form) | (with_reducible apply Blk.endProgram_form) | (with_reducible refine form_foldl (fun c x hc => ?_) _ _ ?_) | extract_lets | (dsimp +zetaDelta only))

theorem Blk.endJob_form (b : Blk) (n : Nat) (h₀ : MediaForm b) : MediaForm (Blk.endJob b n) := by
  unfold Blk.endJob
  repeat (first | with_reducible assumption | (with_reducible apply Blk.writeNow_form) | (with_reducible apply Blk.dropJob_form) | (with_reducible apply Blk.tagWritten_form) | (with_reducible apply Blk.jobEffect_form) | (with_reducible refine form_foldl (fun c x hc => ?_) _ _ ?_) | with_reducible apply form_ite | extract_lets | split | (dsimp +zetaDelta only))

theorem Blk.endWork_form (b : Blk) (h₀ : MediaForm b) : MediaForm (Blk.endWork b) := by
  unfold Blk.endWork
  repeat (first | with_reducible assumption | (with_reducible apply onMedia_form <;> [(intro; rfl); skip]) | (with_reducible apply Blk.abandonDemotion_form) | (with_reducible apply Blk.applySwitch_form) | (with_reducible apply Blk.goHome_form) | (with_reducible apply Blk.endJob_form) | (with_reducible refine form_foldl (fun c x hc => ?_) _ _ ?_) | with_reducible apply form_ite | extract_lets | (dsimp +zetaDelta only))

theorem Blk.flushBuf_form (b : Blk) (n : Nat) (h₀ : MediaForm b) : MediaForm (Blk.flushBuf b n) := by
  unfold Blk.flushBuf
  repeat (first | with_reducible assumption | (with_reducible apply Blk.putBuf_form) | (with_reducible apply Blk.bufferDone_form) | (with_reducible apply Blk.placeLine_form) | split)

theorem Blk.wholeLine_form (b : Blk) (li : Nat) (v : VWay) (h₀ : MediaForm b) : MediaForm (Blk.wholeLine b li v).1 :=
  keep_form (Blk.wholeLine_only (m₀ := [.free, .out, .od, .hA, .hB, .can, .path, .poison, .media, .linen, .tweed, .modes]) b li v (by decide) (only_refl _ _)) (by decide) h₀

theorem Blk.flushWay_form (b : Blk) (key : Nat) (h₀ : MediaForm b) : MediaForm (Blk.flushWay b key) := by
  unfold Blk.flushWay
  repeat (first | with_reducible assumption | (with_reducible apply Blk.putWay_form) | (with_reducible apply Blk.barriersDone_form) | (with_reducible apply Blk.completeWrites_form) | (with_reducible apply Blk.placeLine_form) | (with_reducible apply Blk.wholeLine_form) | with_reducible apply form_ite | extract_lets | split | (dsimp +zetaDelta only))

theorem Blk.flushAll_form (b : Blk) (h₀ : MediaForm b) : MediaForm (Blk.flushAll b) := by
  unfold Blk.flushAll
  repeat (first | with_reducible assumption | (with_reducible apply Blk.maintain_form) | (with_reducible apply Blk.endPrograms_form) | (with_reducible apply Blk.endWork_form) | (with_reducible apply Blk.flushBuf_form) | (with_reducible apply Blk.flushWay_form) | (with_reducible refine form_foldl (fun c x hc => ?_) _ _ ?_) | extract_lets | (dsimp +zetaDelta only))

theorem Blk.healthCheck_form (b : Blk) (h₀ : MediaForm b) : MediaForm (Blk.healthCheck b) :=
  keep_form (Blk.healthCheck_only (m₀ := [.out, .od, .hA, .hB, .can, .dev, .linen]) b (by decide) (only_refl _ _)) (by decide) h₀

theorem Blk.cleanBudget_form (b : Blk) (h₀ : MediaForm b) : MediaForm (Blk.cleanBudget b) :=
  keep_form (Blk.cleanBudget_only (m₀ := [.velvet]) b (by decide) (only_refl _ _)) (by decide) h₀

theorem Blk.applyMode_form (b : Blk) (h₀ : MediaForm b) : MediaForm (Blk.applyMode b) := by
  unfold Blk.applyMode
  repeat (first | with_reducible assumption | (with_reducible apply Blk.onVelvet_form) | (with_reducible apply Blk.bump_form) | (with_reducible apply Blk.report_form) | (with_reducible apply Blk.healthCheck_form) | (with_reducible apply Blk.cleanBudget_form) | (with_reducible apply Blk.flushAll_form) | with_reducible apply form_ite | extract_lets | (dsimp +zetaDelta only))

theorem Blk.energyReport_form (b : Blk) (eu : Nat) (h₀ : MediaForm b) : MediaForm (Blk.energyReport b eu) := by
  unfold Blk.energyReport
  repeat (first | with_reducible assumption | (with_reducible apply Blk.onVelvet_form) | (with_reducible apply Blk.applyMode_form) | with_reducible apply form_ite)

theorem Blk.closeStripes_form (b : Blk) (now : Bool) (h₀ : MediaForm b) : MediaForm (Blk.closeStripes b now) := by
  unfold Blk.closeStripes
  repeat (first | with_reducible assumption | (with_reducible apply Blk.closeStripe_form) | (with_reducible refine form_foldl (fun c x hc => ?_) _ _ ?_))

theorem Blk.swapClass_form (b : Blk) (c : Cls) (b1 : Blk) (h₀ : MediaForm b) (h₁ : MediaForm b1) : MediaForm (Blk.swapClass b c b1) := by
  unfold Blk.swapClass
  split
  · split
    · exact h₀
    · exact Blk.freeSlot_form _ _ _ (Blk.swapHot_form _ _ _ (Blk.useFree_form _ h₁))
  · exact h₀

theorem Blk.balanceHot_form (b : Blk) (h₀ : MediaForm b) : MediaForm (Blk.balanceHot b) := by
  unfold Blk.balanceHot
  split
  · exact h₀
  · exact Blk.swapClass_form _ _ _ h₀ (Blk.widen_form _ _ h₀)

theorem Blk.balancePool_form (b : Blk) (h₀ : MediaForm b) : MediaForm (Blk.balancePool b) := by
  unfold Blk.balancePool
  repeat (first | with_reducible assumption | (with_reducible apply Blk.balanceHot_form) | (with_reducible refine form_foldl (fun c x hc => ?_) _ _ ?_))

theorem Blk.onGauze_form (b : Blk) (f : Gauze → Gauze) (h₀ : MediaForm b) : MediaForm (Blk.onGauze b f) :=
  keep_form (Blk.onGauze_only (m₀ := [.gauze]) b f (by decide) (only_refl _ _)) (by decide) h₀

theorem Blk.newPlan_form (b : Blk) (h₀ : MediaForm b) : MediaForm (Blk.newPlan b) :=
  keep_form (Blk.newPlan_only (m₀ := [.twill]) b (by decide) (only_refl _ _)) (by decide) h₀

theorem Blk.leaveRow_form (b : Blk) (n : Nat) (h₀ : MediaForm b) : MediaForm (Blk.leaveRow b n) :=
  keep_form (Blk.leaveRow_only (m₀ := [.twill]) b n (by decide) (only_refl _ _)) (by decide) h₀

theorem Blk.openLanes_form (b : Blk) (h₀ : MediaForm b) : MediaForm (Blk.openLanes b) :=
  keep_form (Blk.openLanes_only (m₀ := [.twill]) b (by decide) (only_refl _ _)) (by decide) h₀

theorem Blk.turnPlan_form (b : Blk) (now : Bool) (h₀ : MediaForm b) : MediaForm (Blk.turnPlan b now) := by
  unfold Blk.turnPlan
  repeat (first | with_reducible assumption | (with_reducible apply Blk.onTwill_form) | (with_reducible apply Blk.onGauze_form) | (with_reducible apply Blk.newPlan_form) | (with_reducible apply Blk.leaveRow_form) | (with_reducible apply Blk.closeStripes_form) | (with_reducible apply Blk.openLanes_form) | (with_reducible apply Blk.balancePool_form) | (with_reducible refine form_foldl (fun c x hc => ?_) _ _ ?_) | extract_lets | (dsimp +zetaDelta only))

theorem Blk.issueDemotions_form (b : Blk) (h₀ : MediaForm b) : MediaForm (Blk.issueDemotions b) := by
  unfold Blk.issueDemotions
  repeat (first | with_reducible assumption | (with_reducible apply Blk.onTwill_form) | (with_reducible apply Blk.journalRec_form) | with_reducible apply form_ite | extract_lets | (dsimp +zetaDelta only))

theorem Blk.metaFail_form (b : Blk) (x : Mem) (h₀ : MediaForm b) : MediaForm (Blk.metaFail b x) := by
  unfold Blk.metaFail
  repeat (first | with_reducible assumption | (with_reducible apply onMedia_form <;> [(intro; rfl); skip]) | (with_reducible apply Blk.reportUnit_form) | (with_reducible apply Blk.countWrites_form) | (with_reducible apply Blk.storeLine_form) | (with_reducible apply Blk.useFree_form) | (with_reducible apply Blk.tileFailure_form) | with_reducible apply onMedia_form | with_reducible apply form_ite | extract_lets | (dsimp +zetaDelta only))

theorem Blk.issueFreed_form (b : Blk) (h₀ : MediaForm b) : MediaForm (Blk.issueFreed b) := by
  unfold Blk.issueFreed
  repeat (first | with_reducible assumption | (with_reducible apply Blk.onTwill_form) | (with_reducible apply Blk.journalRec_form) | with_reducible apply form_ite | extract_lets | (dsimp +zetaDelta only))

theorem Blk.reclaimRow_form (b : Blk) (key : Nat) (x : TileRow) (h₀ : MediaForm b) : MediaForm (Blk.reclaimRow b key x) := by
  unfold Blk.reclaimRow
  repeat (first | with_reducible assumption | (with_reducible apply Blk.onTwill_form) | (with_reducible apply Blk.onGauze_form) | (with_reducible apply Blk.bump_form) | (with_reducible apply Blk.areaNew_form) | (with_reducible apply Blk.exchangeSlot_form) | (with_reducible apply Blk.resetRow_form) | with_reducible apply form_ite | extract_lets | split | (dsimp +zetaDelta only))

theorem Blk.copyRow_form (b : Blk) (key : Nat) (h₀ : MediaForm b) : MediaForm (Blk.copyRow b key) :=
  keep_form (Blk.copyRow_only (m₀ := [.free, .media, .twill, .tweed]) b key (by decide) (only_refl _ _)) (by decide) h₀

theorem Blk.collectRows_form (b : Blk) (c : Cls) (h₀ : MediaForm b) : MediaForm (Blk.collectRows b c) := by
  unfold Blk.collectRows
  repeat (first | with_reducible assumption | (with_reducible apply Blk.copyRow_form) | (with_reducible apply Blk.reclaimRow_form) | (with_reducible refine form_foldl (fun c x hc => ?_) _ _ ?_))

theorem Blk.coldSwap_form (b : Blk) (c : Cls) (h₀ : MediaForm b) : MediaForm (Blk.coldSwap b c) := by
  unfold Blk.coldSwap
  repeat (first | with_reducible assumption | (with_reducible apply Blk.useFree_form) | (with_reducible apply Blk.beginMigration_form) | with_reducible apply form_ite | extract_lets | split | (dsimp +zetaDelta only))

theorem Blk.putCkptLine_form (b : Blk) (i j seq : Nat) (bytes : List Byte) (h₀ : MediaForm b) : MediaForm (Blk.putCkptLine b i j seq bytes) := by
  unfold Blk.putCkptLine
  repeat (first | with_reducible assumption | (with_reducible apply Blk.putOwnLine_form))

theorem Blk.place_form (b : Blk) (h : Head) (k : ReqKind) (hpa tag dpa : Nat) (data : Half) (mask : HalfMask) (poison : Bool) (h₀ : MediaForm b) : MediaForm (Blk.place b h k hpa tag dpa data mask poison) :=
  keep_form (Blk.place_only (m₀ := [.od, .hA, .hB, .path, .tweed]) b h k hpa tag dpa data mask poison (by decide) (only_refl _ _)) (by decide) h₀

theorem Blk.putCkpt_form (b : Blk) (k : Ckpt) (h₀ : MediaForm b) : MediaForm (Blk.putCkpt b k) := by
  unfold Blk.putCkpt
  repeat (first | with_reducible assumption | (with_reducible apply Blk.place_form) | (with_reducible apply Blk.putCkptLine_form) | (with_reducible refine form_foldl (fun c x hc => ?_) _ _ ?_) | extract_lets | (dsimp +zetaDelta only))

theorem Blk.beginCheckpoint_form (b : Blk) (full now : Bool) (h₀ : MediaForm b) : MediaForm (Blk.beginCheckpoint b full now) := by
  unfold Blk.beginCheckpoint
  repeat (first | with_reducible assumption | (with_reducible apply Blk.onTwill_form) | (with_reducible apply Blk.turnPlan_form) | with_reducible apply form_ite | extract_lets | split | (dsimp +zetaDelta only))

theorem Blk.commitCheckpoint_form (b : Blk) (h₀ : MediaForm b) : MediaForm (Blk.commitCheckpoint b) := by
  unfold Blk.commitCheckpoint
  repeat (first | with_reducible assumption | (with_reducible apply Blk.onTwill_form) | (with_reducible apply Blk.bump_form) | (with_reducible apply Blk.place_form) | (with_reducible apply Blk.putCkpt_form) | with_reducible apply form_ite | extract_lets | split | (dsimp +zetaDelta only))

theorem Blk.putSnapLine_form (b : Blk) (g j seq : Nat) (bytes : List Byte) (h₀ : MediaForm b) : MediaForm (Blk.putSnapLine b g j seq bytes) := by
  unfold Blk.putSnapLine
  repeat (first | with_reducible assumption | (with_reducible apply Blk.putOwnLine_form))

theorem Blk.putSnap_form (b : Blk) (x : Snap) (h₀ : MediaForm b) : MediaForm (Blk.putSnap b x) := by
  unfold Blk.putSnap
  repeat (first | with_reducible assumption | (with_reducible apply Blk.putSnapLine_form) | (with_reducible refine form_foldl (fun c x hc => ?_) _ _ ?_) | extract_lets | (dsimp +zetaDelta only))

theorem Blk.snapshot_form (b : Blk) (h₀ : MediaForm b) : MediaForm (Blk.snapshot b) := by
  unfold Blk.snapshot
  repeat (first | with_reducible assumption | (with_reducible apply Blk.onGauze_form) | (with_reducible apply Blk.odSet_form) | (with_reducible apply Blk.putSnap_form) | (with_reducible refine form_foldl (fun c x hc => ?_) _ _ ?_) | extract_lets | (dsimp +zetaDelta only))

theorem Blk.closeOpen_form (base : Nat) (slot : Nat) (b : Blk) (s : Nat) (h₀ : MediaForm b) : MediaForm (Blk.closeOpen base slot b s) := by
  unfold Blk.closeOpen
  repeat (first | with_reducible assumption | (with_reducible apply Blk.writeNow_form) | (with_reducible refine form_foldl (fun c x hc => ?_) _ _ ?_) | with_reducible apply form_ite | extract_lets | (dsimp +zetaDelta only))

theorem Blk.dropMigrations_form (b : Blk) (h₀ : MediaForm b) : MediaForm (Blk.dropMigrations b) := by
  unfold Blk.dropMigrations
  repeat (first | with_reducible assumption | (with_reducible apply Blk.onTwill_form) | (with_reducible apply Blk.dropMigration_form) | (with_reducible refine form_foldl (fun c x hc => ?_) _ _ ?_) | extract_lets | split | (dsimp +zetaDelta only))

theorem Blk.giveUpUnmapped_form (b : Blk) (h₀ : MediaForm b) : MediaForm (Blk.giveUpUnmapped b) := by
  unfold Blk.giveUpUnmapped
  repeat (first | with_reducible assumption | (with_reducible apply Blk.onTwill_form) | (with_reducible apply Blk.freeSlot_form) | (with_reducible refine form_foldl (fun c x hc => ?_) _ _ ?_) | extract_lets | (dsimp +zetaDelta only))

theorem Blk.loadImages_form (b : Blk) (f : Ckpt) (inc : Option Ckpt) (h₀ : MediaForm b) : MediaForm (Blk.loadImages b f inc) :=
  keep_form (Blk.loadImages_only (m₀ := [.twill, .safety]) b f inc (by decide) (only_refl _ _)) (by decide) h₀

theorem Blk.matchRegions_form (b : Blk) (known : List Nat) (h₀ : MediaForm b) : MediaForm (Blk.matchRegions b known) :=
  keep_form (Blk.matchRegions_only (m₀ := [.twill]) b known (by decide) (only_refl _ _)) (by decide) h₀

theorem Blk.markMapped_form (b : Blk) (h₀ : MediaForm b) : MediaForm (Blk.markMapped b) :=
  keep_form (Blk.markMapped_only (m₀ := [.twill]) b (by decide) (only_refl _ _)) (by decide) h₀

theorem Blk.replayPlans_form (b : Blk) (recs : List JRec) (plans : List (Nat × Nat)) (h₀ : MediaForm b) : MediaForm (Blk.replayPlans b recs plans) :=
  keep_form (Blk.replayPlans_only (m₀ := [.free, .out, .od, .hA, .hB, .can, .path, .poison, .media, .twill, .linen, .tweed, .modes]) b recs plans (by decide) (only_refl _ _)) (by decide) h₀

theorem Blk.rebuildRows_form (b : Blk) (plans : List (Nat × Nat)) (h₀ : MediaForm b) : MediaForm (Blk.rebuildRows b plans) :=
  keep_form (Blk.rebuildRows_only (m₀ := [.twill]) b plans (by decide) (only_refl _ _)) (by decide) h₀

theorem Blk.applyRecord_form (b : Blk) (x : JRec) (h₀ : MediaForm b) : MediaForm (Blk.applyRecord b x) :=
  keep_form (Blk.applyRecord_only (m₀ := [.twill, .safety]) b x (by decide) (only_refl _ _)) (by decide) h₀

theorem Blk.fullScan_form (b : Blk) (h₀ : MediaForm b) : MediaForm (Blk.fullScan b) :=
  keep_form (Blk.fullScan_only (m₀ := [.free, .out, .od, .hA, .hB, .can, .path, .poison, .media, .twill, .linen, .tweed, .modes]) b (by decide) (only_refl _ _)) (by decide) h₀

theorem Blk.emptyMap_form (b : Blk) (h₀ : MediaForm b) : MediaForm (Blk.emptyMap b) :=
  keep_form (Blk.emptyMap_only (m₀ := [.twill]) b (by decide) (only_refl _ _)) (by decide) h₀

theorem Blk.mapOfAdds_form (b : Blk) (h₀ : MediaForm b) : MediaForm (Blk.mapOfAdds b) :=
  keep_form (Blk.mapOfAdds_only (m₀ := [.twill, .safety]) b (by decide) (only_refl _ _)) (by decide) h₀

theorem Blk.loadMap_form (b : Blk) (h₀ : MediaForm b) : MediaForm (Blk.loadMap b) := by
  unfold Blk.loadMap
  repeat (first | with_reducible assumption | (with_reducible apply Blk.loadImages_form) | (with_reducible apply Blk.matchRegions_form) | (with_reducible apply Blk.markMapped_form) | (with_reducible apply Blk.replayPlans_form) | (with_reducible apply Blk.closeOpen_form) | (with_reducible apply Blk.rebuildRows_form) | (with_reducible apply Blk.applyRecord_form) | (with_reducible apply Blk.fullScan_form) | (with_reducible apply Blk.emptyMap_form) | (with_reducible apply Blk.mapOfAdds_form) | (with_reducible refine form_foldl (fun c x hc => ?_) _ _ ?_) | with_reducible apply form_ite | extract_lets | split | (dsimp +zetaDelta only))

theorem Blk.resumePasses_form (b : Blk) (h₀ : MediaForm b) : MediaForm (Blk.resumePasses b) :=
  keep_form (Blk.resumePasses_only (m₀ := [.twill]) b (by decide) (only_refl _ _)) (by decide) h₀

theorem Blk.mapReady_form (b : Blk) (h₀ : MediaForm b) : MediaForm (Blk.mapReady b) := by
  unfold Blk.mapReady
  repeat (first | with_reducible assumption | (with_reducible apply Blk.onTwill_form) | (with_reducible apply Blk.markMapped_form) | (with_reducible apply Blk.resumePasses_form) | (with_reducible apply Blk.dropMigrations_form) | (with_reducible apply Blk.giveUpUnmapped_form) | extract_lets | (dsimp +zetaDelta only))

theorem Blk.onFelt_form (b : Blk) (f : Felt → Felt) (h₀ : MediaForm b) : MediaForm (Blk.onFelt b f) :=
  keep_form (Blk.onFelt_only (m₀ := [.felt]) b f (by decide) (only_refl _ _)) (by decide) h₀

theorem Blk.onTweed_form (b : Blk) (f : Tweed → Tweed) (h₀ : MediaForm b) : MediaForm (Blk.onTweed b f) :=
  keep_form (Blk.onTweed_only (m₀ := [.tweed]) b f (by decide) (only_refl _ _)) (by decide) h₀

theorem Blk.linkChange_form (b : Blk) (h : Head) (f : HeadSt → HeadSt) (h₀ : MediaForm b) : MediaForm (Blk.linkChange b h f) :=
  keep_form (Blk.linkChange_only (m₀ := [.od, .hA, .hB]) b h f (by decide) (only_refl _ _)) (by decide) h₀

theorem Blk.linkFalls_form (b : Blk) (h : Head) (h₀ : MediaForm b) : MediaForm (Blk.linkFalls b h) :=
  keep_form (Blk.linkFalls_only (m₀ := [.out, .od, .hA, .hB, .can, .path, .linen]) b h (by decide) (only_refl _ _)) (by decide) h₀

theorem Blk.writeTalrt_form (b : Blk) (v : Nat) (h₀ : MediaForm b) : MediaForm (Blk.writeTalrt b v) :=
  keep_form (Blk.writeTalrt_only (m₀ := [.out, .media]) b v (by decide) (only_refl _ _)) (by decide) h₀

theorem Blk.effect_form (b : Blk) (key v : Nat) (h₀ : MediaForm b) : MediaForm (Blk.effect b key v) := by
  unfold Blk.effect
  repeat (first | with_reducible assumption | (with_reducible apply Blk.onFelt_form) | (with_reducible apply Blk.onTweed_form) | (with_reducible apply Blk.applyMode_form) | (with_reducible apply Blk.linkChange_form) | (with_reducible apply Blk.linkFalls_form) | (with_reducible apply Blk.writeTalrt_form) | with_reducible apply form_ite | extract_lets | (dsimp +zetaDelta only))

theorem Blk.calWrite_form (b : Blk) (key v : Nat) (h₀ : MediaForm b) : MediaForm (Blk.calWrite b key v) :=
  keep_form (Blk.calWrite_only (m₀ := [.gauze]) b key v (by decide) (only_refl _ _)) (by decide) h₀

theorem Blk.takeValue_form (b : Blk) (key v : Nat) (h₀ : MediaForm b) : MediaForm (Blk.takeValue b key v) := by
  unfold Blk.takeValue
  repeat (first | with_reducible assumption | (with_reducible apply Blk.odSet_form) | (with_reducible apply Blk.calWrite_form) | (with_reducible apply Blk.effect_form) | with_reducible apply form_ite | exact h₀)

theorem Blk.takeDirect_form (b : Blk) (key v : Nat) (h₀ : MediaForm b) : MediaForm (Blk.takeDirect b key v) := by
  unfold Blk.takeDirect
  repeat (first | with_reducible assumption | (with_reducible apply Blk.onGauze_form) | (with_reducible apply Blk.odSet_form) | (with_reducible apply Blk.effect_form) | with_reducible apply form_ite | extract_lets | (dsimp +zetaDelta only) | exact h₀)

theorem Blk.swapValues_form (b : Blk) (noAck : List Dom) (h₀ : MediaForm b) : MediaForm (Blk.swapValues b noAck) := by
  unfold Blk.swapValues
  repeat (first | with_reducible assumption | (with_reducible apply Blk.takeValue_form) | (with_reducible refine form_foldl (fun c x hc => ?_) _ _ ?_) | with_reducible apply form_ite | extract_lets | (dsimp +zetaDelta only) | exact h₀)

theorem Blk.onModes_form (b : Blk) (f : Modes → Modes) (h₀ : MediaForm b) : MediaForm (Blk.onModes b f) :=
  keep_form (Blk.onModes_only (m₀ := [.modes]) b f (by decide) (only_refl _ _)) (by decide) h₀

theorem Blk.standbyDies_form (b : Blk) (h₀ : MediaForm b) : MediaForm (Blk.standbyDies b) :=
  keep_form (Blk.standbyDies_only (m₀ := [.out, .media]) b (by decide) (only_refl _ _)) (by decide) h₀

theorem Blk.fallAsleep_form (b : Blk) (h₀ : MediaForm b) : MediaForm (Blk.fallAsleep b) := by
  unfold Blk.fallAsleep
  repeat (first | with_reducible assumption | (with_reducible apply Blk.onTweed_form) | (with_reducible apply Blk.onModes_form) | (with_reducible apply Blk.flushAll_form) | (with_reducible apply Blk.beginCheckpoint_form) | (with_reducible apply Blk.commitCheckpoint_form) | (with_reducible apply Blk.standbyDies_form))

theorem Blk.tearPrograms_form (b : Blk) (h₀ : MediaForm b) : MediaForm (Blk.tearPrograms b) := by
  unfold Blk.tearPrograms
  repeat (first | with_reducible assumption | (with_reducible apply Blk.useFree_form) | (with_reducible apply Blk.storeLine_form) | (with_reducible apply Blk.program_form) | (with_reducible refine form_foldl (fun c x hc => ?_) _ _ ?_) | split)

theorem Blk.onCanvas_form (b : Blk) (f : Canvas → Canvas) (h₀ : MediaForm b) : MediaForm (Blk.onCanvas b f) :=
  keep_form (Blk.onCanvas_only (m₀ := [.canvas]) b f (by decide) (only_refl _ _)) (by decide) h₀

theorem Blk.enterM1_form (b : Blk) (h₀ : MediaForm b) : MediaForm (Blk.enterM1 b) :=
  keep_form (Blk.enterM1_only (m₀ := [.out, .od, .odOld, .direct, .regs, .due, .dueB, .hA, .hB, .sesA, .sesB, .sesC, .muslin, .can, .dev, .path, .poison, .media, .velvet, .twill, .gauze, .damask, .linen, .felt, .tweed, .canvas, .clocks, .thermal, .modes, .safety]) b (by decide) (only_refl _ _)) (by decide) h₀

theorem Blk.dropRails_form (b : Blk) (h₀ : MediaForm b) : MediaForm (Blk.dropRails b) := by
  unfold Blk.dropRails
  repeat (first | with_reducible assumption | (with_reducible apply Blk.onFelt_form) | (with_reducible apply Blk.onCanvas_form) | (with_reducible apply Blk.enterM1_form) | (with_reducible apply Blk.tearPrograms_form) | with_reducible apply form_ite | extract_lets | (dsimp +zetaDelta only) | exact h₀)

theorem Blk.onSlot_form (b : Blk) (s : Nat) (f : PSlot → PSlot) (h₀ : MediaForm b) : MediaForm (Blk.onSlot b s f) :=
  keep_form (Blk.onSlot_only (m₀ := [.canvas]) b s f (by decide) (only_refl _ _)) (by decide) h₀

theorem Blk.allOff_form (b : Blk) (code slot mv drops : Nat) (timeout : Bool) (h₀ : MediaForm b) : MediaForm (Blk.allOff b code slot mv drops timeout) := by
  unfold Blk.allOff
  repeat (first | with_reducible assumption | (with_reducible apply Blk.onCanvas_form) | (with_reducible apply Blk.onModes_form) | (with_reducible apply Blk.odSet_form) | (with_reducible apply Blk.onSlot_form) | (with_reducible apply Blk.dropRails_form) | with_reducible apply form_ite | extract_lets | (dsimp +zetaDelta only) | exact h₀)

theorem Blk.flushTags_form (b : Blk) (h₀ : MediaForm b) : MediaForm (Blk.flushTags b) := by
  unfold Blk.flushTags
  repeat (first | with_reducible assumption | (with_reducible apply Blk.flushTag_form) | (with_reducible refine form_foldl (fun c x hc => ?_) _ _ ?_))

theorem Blk.settle_form (b : Blk) (h₀ : MediaForm b) : MediaForm (Blk.settle b) :=
  keep_form (Blk.settle_only (m₀ := [.free, .out, .od, .hA, .hB, .can, .path, .linen, .tweed]) b (by decide) (only_refl _ _)) (by decide) h₀

theorem Blk.saveMedia_form (b : Blk) (full : Bool) (h₀ : MediaForm b) : MediaForm (Blk.saveMedia b full) := by
  unfold Blk.saveMedia
  repeat (first | with_reducible assumption | (with_reducible apply Blk.issueRecords_form) | (with_reducible apply Blk.endPrograms_form) | (with_reducible apply Blk.flushAll_form) | (with_reducible apply Blk.beginCheckpoint_form) | (with_reducible apply Blk.commitCheckpoint_form) | (with_reducible apply Blk.settle_form) | (with_reducible apply Blk.flushTags_form))

theorem Blk.saveCounters_form (b : Blk) (exact : Bool) (h₀ : MediaForm b) : MediaForm (Blk.saveCounters b exact) :=
  keep_form (Blk.saveCounters_only (m₀ := [.out, .od, .hA, .hB, .can, .linen, .felt]) b exact (by decide) (only_refl _ _)) (by decide) h₀

theorem Blk.settleRead_form (b : Blk) (x : Acc) (h₀ : MediaForm b) : MediaForm (Blk.settleRead b x) :=
  keep_form (Blk.settleRead_only (m₀ := [.free, .out, .od, .hA, .hB, .can, .path, .linen, .tweed]) b x (by decide) (only_refl _ _)) (by decide) h₀

theorem Blk.zeroize_form (b : Blk) (h₀ : MediaForm b) : MediaForm (Blk.zeroize b) :=
  keep_form (Blk.zeroize_only (m₀ := [.free, .out, .od, .hA, .hB, .can, .path, .velvet, .damask, .linen, .felt, .tweed]) b (by decide) (only_refl _ _)) (by decide) h₀

theorem Blk.powerDown_form (b : Blk) (h₀ : MediaForm b) : MediaForm (Blk.powerDown b) :=
  keep_form (Blk.powerDown_only (m₀ := [.out, .od, .odOld, .direct, .regs, .due, .dueB, .hA, .hB, .sesA, .sesB, .sesC, .muslin, .can, .dev, .path, .poison, .media, .velvet, .twill, .gauze, .damask, .linen, .felt, .tweed, .canvas, .clocks, .thermal, .modes, .safety]) b (by decide) (only_refl _ _)) (by decide) h₀

theorem Blk.stagingToRing_form (b : Blk) (h₀ : MediaForm b) : MediaForm (Blk.stagingToRing b) :=
  keep_form (Blk.stagingToRing_only (m₀ := [.out, .od, .hA, .hB, .can, .linen, .felt]) b (by decide) (only_refl _ _)) (by decide) h₀

theorem Blk.foldAll_form (b : Blk) (h₀ : MediaForm b) : MediaForm (Blk.foldAll b) :=
  keep_form (Blk.foldAll_only (m₀ := [.out, .od, .hA, .hB, .can, .twill, .linen]) b (by decide) (only_refl _ _)) (by decide) h₀

theorem Blk.endFlush_form (b : Blk) (start lines : Nat) (h₀ : MediaForm b) : MediaForm (Blk.endFlush b start lines) := by
  unfold Blk.endFlush
  repeat (first | with_reducible assumption | (with_reducible apply Blk.onFelt_form) | (with_reducible apply Blk.odSet_form) | (with_reducible apply Blk.bump_form) | (with_reducible apply Blk.report_form) | (with_reducible apply Blk.saveCounters_form) | (with_reducible apply Blk.settleRead_form) | (with_reducible apply Blk.zeroize_form) | (with_reducible apply Blk.powerDown_form) | (with_reducible apply Blk.stagingToRing_form) | (with_reducible apply Blk.foldAll_form) | (with_reducible apply Blk.saveMedia_form) | (with_reducible refine form_foldl (fun c x hc => ?_) _ _ ?_) | with_reducible apply form_ite | extract_lets | (dsimp +zetaDelta only))

theorem Blk.clearIngress_form (b : Blk) (h : Head) (h₀ : MediaForm b) : MediaForm (Blk.clearIngress b h) :=
  keep_form (Blk.clearIngress_only (m₀ := [.hA, .hB, .path]) b h (by decide) (only_refl _ _)) (by decide) h₀

theorem Blk.abandonTest_form (b : Blk) (h₀ : MediaForm b) : MediaForm (Blk.abandonTest b) :=
  keep_form (Blk.abandonTest_only (m₀ := [.canvas]) b (by decide) (only_refl _ _)) (by decide) h₀

theorem Blk.orderlyStop_form (b : Blk) (h₀ : MediaForm b) : MediaForm (Blk.orderlyStop b) := by
  unfold Blk.orderlyStop
  repeat (first | with_reducible assumption | (with_reducible apply Blk.onTwill_form) | (with_reducible apply Blk.onFelt_form) | (with_reducible apply Blk.onModes_form) | (with_reducible apply Blk.clearIngress_form) | (with_reducible apply Blk.saveCounters_form) | (with_reducible apply Blk.snapshot_form) | (with_reducible apply Blk.settle_form) | (with_reducible apply Blk.powerDown_form) | (with_reducible apply Blk.abandonTest_form) | (with_reducible apply Blk.stagingToRing_form) | (with_reducible apply Blk.foldAll_form) | (with_reducible apply Blk.saveMedia_form) | extract_lets | (dsimp +zetaDelta only))

theorem Blk.retireDie_form (b : Blk) (src : Src) (d : Nat) (h₀ : MediaForm b) : MediaForm (Blk.retireDie b src d) := by
  unfold Blk.retireDie
  repeat (first | with_reducible assumption | (with_reducible apply Blk.dieFail_form) | (with_reducible apply Blk.wrote_form) | with_reducible apply form_ite)

theorem Blk.retireChannel_form (b : Blk) (src : Src) (c : Nat) (h₀ : MediaForm b) : MediaForm (Blk.retireChannel b src c) := by
  unfold Blk.retireChannel
  repeat (first | with_reducible assumption | (with_reducible apply Blk.channelFail_form) | (with_reducible apply Blk.wrote_form))

theorem Blk.toStandby_form (b : Blk) (src : Src) (h₀ : MediaForm b) : MediaForm (Blk.toStandby b src) := by
  unfold Blk.toStandby
  repeat (first | with_reducible assumption | (with_reducible apply Blk.onModes_form) | (with_reducible apply Blk.wrote_form) | (with_reducible apply Blk.orderlyStop_form))

theorem Blk.odSetFor_form (b : Blk) (t idx sub v : Nat) (h₀ : MediaForm b) : MediaForm (Blk.odSetFor b t idx sub v) :=
  keep_form (Blk.odSetFor_only (m₀ := [.od]) b t idx sub v (by decide) (only_refl _ _)) (by decide) h₀

theorem Blk.startRange_form (b : Blk) (src : Src) (code : Nat) (h₀ : MediaForm b) : MediaForm (Blk.startRange b src code) :=
  keep_form (Blk.startRange_only (m₀ := [.out, .od, .can, .velvet]) b src code (by decide) (only_refl _ _)) (by decide) h₀

theorem Blk.byAddress_form (b : Blk) (src : Src) (v : Nat) (h₀ : MediaForm b) : MediaForm (Blk.byAddress b src v) :=
  keep_form (Blk.byAddress_only (m₀ := [.out, .od, .can, .velvet]) b src v (by decide) (only_refl _ _)) (by decide) h₀

theorem Blk.bySetWay_form (b : Blk) (src : Src) (v : Nat) (h₀ : MediaForm b) : MediaForm (Blk.bySetWay b src v) :=
  keep_form (Blk.bySetWay_only (m₀ := [.out, .od, .can, .velvet]) b src v (by decide) (only_refl _ _)) (by decide) h₀

theorem Blk.openBarrier_form (b : Blk) (src : Src) (h₀ : MediaForm b) : MediaForm (Blk.openBarrier b src) :=
  keep_form (Blk.openBarrier_only (m₀ := [.out, .od, .can, .path, .velvet]) b src (by decide) (only_refl _ _)) (by decide) h₀

theorem Blk.unlockRegion_form (b : Blk) (src : Src) (r : Nat) (h₀ : MediaForm b) : MediaForm (Blk.unlockRegion b src r) :=
  keep_form (Blk.unlockRegion_only (m₀ := [.out, .can, .damask]) b src r (by decide) (only_refl _ _)) (by decide) h₀

theorem Blk.resetCount_form (b : Blk) (src : Src) (r : Nat) (h₀ : MediaForm b) : MediaForm (Blk.resetCount b src r) :=
  keep_form (Blk.resetCount_only (m₀ := [.out, .can, .damask]) b src r (by decide) (only_refl _ _)) (by decide) h₀

theorem Blk.clearHistograms_form (b : Blk) (src : Src) (h₀ : MediaForm b) : MediaForm (Blk.clearHistograms b src) :=
  keep_form (Blk.clearHistograms_only (m₀ := [.out, .can, .gauze]) b src (by decide) (only_refl _ _)) (by decide) h₀

theorem Blk.addAction_form (b : Blk) (src : Src) (h₀ : MediaForm b) : MediaForm (Blk.addAction b src) :=
  keep_form (Blk.addAction_only (m₀ := [.free, .out, .od, .can, .dev, .twill]) b src (by decide) (only_refl _ _)) (by decide) h₀

theorem Blk.askRelease_form (b : Blk) (g : Rgn) (h₀ : MediaForm b) : MediaForm (Blk.askRelease b g) :=
  keep_form (Blk.askRelease_only (m₀ := [.out, .hA, .hB]) b g (by decide) (only_refl _ _)) (by decide) h₀

theorem Blk.forceRelease_form (b : Blk) (g : Rgn) (h₀ : MediaForm b) : MediaForm (Blk.forceRelease b g) :=
  keep_form (Blk.forceRelease_only (m₀ := [.out, .od, .hA, .hB, .can, .dev, .path, .linen, .tweed]) b g (by decide) (only_refl _ _)) (by decide) h₀

theorem Blk.defaultsAction_form (b : Blk) (src : Src) (h₀ : MediaForm b) : MediaForm (Blk.defaultsAction b src) :=
  keep_form (Blk.defaultsAction_only (m₀ := [.out, .muslin, .can]) b src (by decide) (only_refl _ _)) (by decide) h₀

theorem Blk.responseAction_form (b : Blk) (src : Src) (v : BitVec 64) (h₀ : MediaForm b) : MediaForm (Blk.responseAction b src v) :=
  keep_form (Blk.responseAction_only (m₀ := [.out, .od, .hA, .hB, .sesA, .sesB, .sesC, .can, .linen]) b src v (by decide) (only_refl _ _)) (by decide) h₀

theorem Blk.closeAction_form (b : Blk) (src : Src) (h₀ : MediaForm b) : MediaForm (Blk.closeAction b src) :=
  keep_form (Blk.closeAction_only (m₀ := [.out, .sesA, .sesB, .sesC, .can]) b src (by decide) (only_refl _ _)) (by decide) h₀

theorem Blk.askRetrain_form (b : Blk) (src : Src) (ch : Nat) (h₀ : MediaForm b) : MediaForm (Blk.askRetrain b src ch) :=
  keep_form (Blk.askRetrain_only (m₀ := [.out, .can, .media]) b src ch (by decide) (only_refl _ _)) (by decide) h₀

theorem Blk.askTest_form (b : Blk) (src : Src) (h₀ : MediaForm b) : MediaForm (Blk.askTest b src) :=
  keep_form (Blk.askTest_only (m₀ := [.out, .can, .canvas]) b src (by decide) (only_refl _ _)) (by decide) h₀

theorem Blk.clearTweed_form (b : Blk) (src : Src) (h₀ : MediaForm b) : MediaForm (Blk.clearTweed b src) :=
  keep_form (Blk.clearTweed_only (m₀ := [.out, .can, .tweed]) b src (by decide) (only_refl _ _)) (by decide) h₀

theorem Blk.action_form (b : Blk) (src : Src) (idx sub v : Nat) (h₀ : MediaForm b) : MediaForm (Blk.action b src idx sub v) := by
  unfold Blk.action
  repeat (first | with_reducible assumption | (with_reducible apply Blk.odSetFor_form) | (with_reducible apply Blk.wrote_form) | (with_reducible apply Blk.startRange_form) | (with_reducible apply Blk.byAddress_form) | (with_reducible apply Blk.bySetWay_form) | (with_reducible apply Blk.openBarrier_form) | (with_reducible apply Blk.unlockRegion_form) | (with_reducible apply Blk.resetCount_form) | (with_reducible apply Blk.clearHistograms_form) | (with_reducible apply Blk.addAction_form) | (with_reducible apply Blk.releaseAction_form <;> [(intros; try dsimp only); skip]) | (with_reducible apply Blk.askRelease_form) | (with_reducible apply Blk.forceRelease_form) | (with_reducible apply Blk.defaultsAction_form) | (with_reducible apply Blk.responseAction_form) | (with_reducible apply Blk.closeAction_form) | (with_reducible apply Blk.retireDie_form) | (with_reducible apply Blk.retireChannel_form) | (with_reducible apply Blk.askRetrain_form) | (with_reducible apply Blk.toStandby_form) | (with_reducible apply Blk.askTest_form) | (with_reducible apply Blk.clearTweed_form) | with_reducible apply form_ite | split)

theorem Blk.bulkReq_form (b : Blk) (h : Head) (maint : Bool) (f : Blk → Blk) (hf : ∀ c, MediaForm c → MediaForm (f c)) (h₀ : MediaForm b) : MediaForm (Blk.bulkReq b h maint f) := by
  unfold Blk.bulkReq
  repeat (first | with_reducible assumption | (with_reducible apply Blk.touch_form) | (with_reducible apply Blk.mbox_form <;> [(intros; try dsimp only); skip]) | (with_reducible apply hf) | (with_reducible apply form_ite) | extract_lets | split | (intro c hc))

theorem Blk.endTransfer_form (b : Blk) (k : Bulk) (crc : BitVec 32) (h₀ : MediaForm b) : MediaForm (Blk.endTransfer b k crc).1 := by
  unfold Blk.endTransfer
  repeat (first | with_reducible assumption | (with_reducible apply Blk.onDamask_form) | (with_reducible apply Blk.objectApply_form) | with_reducible apply form_ite | with_reducible apply form_ite_fst | dsimp only)

theorem Blk.withTransfer_form (b : Blk) (trans : BitVec 8) (op : Nat) (f : Bulk → Blk) (hf : ∀ k, MediaForm (f k)) (h₀ : MediaForm b) : MediaForm (Blk.withTransfer b trans op f) := by
  unfold Blk.withTransfer
  repeat (first | with_reducible assumption | (with_reducible apply Blk.onCan_form) | (with_reducible apply Blk.canStatus_form) | (with_reducible apply hf) | (with_reducible apply form_ite) | extract_lets | split | (intro c hc) | exact h₀)

theorem Blk.enter_form (b : Blk) (n : Nat) (h₀ : MediaForm b) : MediaForm (Blk.enter b n) :=
  keep_form (Blk.enter_only (m₀ := [.out, .od, .hA, .hB, .muslin, .can, .linen, .tweed, .modes]) b n (by decide) (only_refl _ _)) (by decide) h₀

theorem Blk.clockSleep_form (b : Blk) (h₀ : MediaForm b) : MediaForm (Blk.clockSleep b) := by
  unfold Blk.clockSleep
  repeat (first | with_reducible assumption | (with_reducible apply Blk.enter_form) | (with_reducible apply Blk.fallAsleep_form) | with_reducible apply form_ite | extract_lets | (dsimp +zetaDelta only))

theorem Blk.onClocks_form (b : Blk) (f : Clocks → Clocks) (h₀ : MediaForm b) : MediaForm (Blk.onClocks b f) :=
  keep_form (Blk.onClocks_only (m₀ := [.clocks]) b f (by decide) (only_refl _ _)) (by decide) h₀

theorem Blk.faultPin_form (b : Blk) (h₀ : MediaForm b) : MediaForm (Blk.faultPin b) :=
  keep_form (Blk.faultPin_only (m₀ := [.modes]) b (by decide) (only_refl _ _)) (by decide) h₀

theorem Blk.clockFailure_form (b : Blk) (h₀ : MediaForm b) : MediaForm (Blk.clockFailure b) := by
  unfold Blk.clockFailure
  repeat (first | with_reducible assumption | (with_reducible apply Blk.onClocks_form) | (with_reducible apply Blk.faultPin_form) | (with_reducible apply Blk.clockSleep_form) | with_reducible apply form_ite)

theorem Blk.pllFail_form (b : Blk) (p : Pll) (stopped : Bool) (h₀ : MediaForm b) : MediaForm (Blk.pllFail b p stopped) := by
  unfold Blk.pllFail
  repeat (first | with_reducible assumption | (with_reducible refine keep_form (Blk.forcedSwitches_only (m₀ := [.out, .od, .hA, .hB, .can, .linen, .tweed]) _ _ (by decide) (only_refl _ _)) (by decide) ?_) | (with_reducible apply Blk.onClocks_form) | (with_reducible apply Blk.bump_form) | (with_reducible apply Blk.report_form) | (with_reducible apply Blk.detect_form) | (with_reducible apply Blk.clockFailure_form) | with_reducible apply form_ite | extract_lets | (dsimp +zetaDelta only) | exact h₀)

theorem Blk.iTake_form (b : Blk) (addr : BitVec 32) (width : Nat) (v : BitVec 64) (h₀ : MediaForm b) : MediaForm (Blk.iTake b addr width v) := by
  unfold Blk.iTake
  repeat (first | with_reducible assumption | (with_reducible apply Blk.takeDirect_form) | split | exact h₀)

theorem Blk.onCtl_form (b : Blk) (h : Head) (f : Ctl → Ctl) (h₀ : MediaForm b) : MediaForm (Blk.onCtl b h f) :=
  keep_form (Blk.onCtl_only (m₀ := [.hA, .hB]) b h f (by decide) (only_refl _ _)) (by decide) h₀

theorem Blk.ackPosted_form (b : Blk) (h : Head) (h₀ : MediaForm b) : MediaForm (Blk.ackPosted b h) := by
  unfold Blk.ackPosted
  repeat (first | with_reducible assumption | (with_reducible apply Blk.onCtl_form) | (with_reducible apply Blk.iTake_form) | split | exact h₀)

theorem Blk.ctlWord_form (b : Blk) (h : Head) (off : Nat) (v : BitVec 32) (h₀ : MediaForm b) : MediaForm (Blk.ctlWord b h off v) := by
  unfold Blk.ctlWord
  repeat (first | with_reducible assumption | (with_reducible apply Blk.onSafety_form) | (with_reducible apply Blk.onCtl_form) | (with_reducible apply Blk.ackPosted_form) | split | exact h₀)

theorem Blk.takeDue_form (b : Blk) (target : Nat) (ok : Nat → Bool) (f : Nat → Blk → Blk) (hf : ∀ v c, MediaForm c → MediaForm (f v c)) (h₀ : MediaForm b) : MediaForm (Blk.takeDue b target ok f) := by
  unfold Blk.takeDue
  repeat (first | with_reducible assumption | (with_reducible apply hf) | (with_reducible apply form_ite) | extract_lets | split | (intro c hc) | exact h₀)

theorem Blk.beginFlush_form (b : Blk) (cause : Nat) (h₀ : MediaForm b) : MediaForm (Blk.beginFlush b cause) :=
  keep_form (Blk.beginFlush_only (m₀ := [.free, .out, .od, .hA, .hB, .muslin, .can, .path, .media, .twill, .linen, .tweed, .modes]) b cause (by decide) (only_refl _ _)) (by decide) h₀

theorem Blk.loseInput_form (b : Blk) (cause : Nat) (h₀ : MediaForm b) : MediaForm (Blk.loseInput b cause) := by
  unfold Blk.loseInput
  repeat (first | with_reducible assumption | (with_reducible apply Blk.onModes_form) | (with_reducible apply Blk.dropRails_form) | (with_reducible apply Blk.beginFlush_form) | with_reducible apply form_ite)

theorem Blk.draw_form (b : Blk) (h₀ : MediaForm b) : MediaForm (Blk.draw b) :=
  keep_form (Blk.draw_only (m₀ := [.rng]) b (by decide) (only_refl _ _)) (by decide) h₀

theorem Blk.newKeys_form (b : Blk) (h₀ : MediaForm b) : MediaForm (Blk.newKeys b) := by
  unfold Blk.newKeys
  repeat (first | with_reducible assumption | (with_reducible apply Blk.onDamask_form) | (with_reducible apply Blk.draw_form) | (with_reducible apply Blk.itemWrite_form) | (with_reducible apply Blk.escrowChanged_form) | (with_reducible apply Blk.bind_form) | extract_lets | (dsimp +zetaDelta only))

theorem Blk.mbReply_form (b : Blk) (h : Head) (op : Nat) (rc : Rc) (out : List Nat) (h₀ : MediaForm b) : MediaForm (Blk.mbReply b h op rc out) :=
  keep_form (Blk.mbReply_only (m₀ := [.out]) b h op rc out (by decide) (only_refl _ _)) (by decide) h₀

theorem Blk.discardCaches_form (b : Blk) (h₀ : MediaForm b) : MediaForm (Blk.discardCaches b) :=
  keep_form (Blk.discardCaches_only (m₀ := [.path, .velvet, .damask]) b (by decide) (only_refl _ _)) (by decide) h₀

theorem Blk.dropScan_form (b : Blk) (h₀ : MediaForm b) : MediaForm (Blk.dropScan b) :=
  keep_form (Blk.dropScan_only (m₀ := [.media, .twill]) b (by decide) (only_refl _ _)) (by decide) h₀

theorem Blk.startErase_form (b0 : Blk) (h : Head) (op : Nat) (sanitize : Bool) (h₀ : MediaForm b0) : MediaForm (Blk.startErase b0 h op sanitize) := by
  unfold Blk.startErase
  repeat (first | with_reducible assumption | (with_reducible apply Blk.onDev_form) | (with_reducible apply Blk.onDamask_form) | (with_reducible apply Blk.odSet_form) | (with_reducible apply Blk.mbReply_form) | (with_reducible apply Blk.discardCaches_form) | (with_reducible apply Blk.newKeys_form) | (with_reducible apply Blk.dropScan_form) | with_reducible apply form_ite | extract_lets | (dsimp +zetaDelta only))

theorem Blk.blankAreas_form (b : Blk) (h₀ : MediaForm b) : MediaForm (Blk.blankAreas b) := by
  unfold Blk.blankAreas; extract_lets; exact onMedia_lines' (fun m hm => NMap.filter_rising _ hm) h₀

theorem Blk.provisionSlots_form (b : Blk) (h₀ : MediaForm b) : MediaForm (Blk.provisionSlots b) :=
  keep_form (Blk.provisionSlots_only (m₀ := [.free, .media, .twill, .gauze]) b (by decide) (only_refl _ _)) (by decide) h₀

theorem Blk.blankTables_form (b0 : Blk) (h₀ : MediaForm b0) : MediaForm (Blk.blankTables b0) := by
  unfold Blk.blankTables
  repeat (first | with_reducible assumption | (with_reducible apply onMedia_form <;> [(intro; rfl); skip]) | (with_reducible apply Blk.onDev_form) | (with_reducible apply Blk.onPath_form) | (with_reducible apply Blk.onDamask_form) | (with_reducible apply Blk.provisionSlots_form) | (with_reducible apply Blk.blankAreas_form) | extract_lets | (dsimp +zetaDelta only))

theorem Blk.overwriteAll_form (b : Blk) (h₀ : MediaForm b) : MediaForm (Blk.overwriteAll b) := by
  unfold Blk.overwriteAll; extract_lets; exact onMedia_lines' (fun m hm => NMap.filter_rising _ hm) h₀

theorem Blk.renewPool_form (b : Blk) (h₀ : MediaForm b) : MediaForm (Blk.renewPool b) := by
  unfold Blk.renewPool
  repeat (first | with_reducible assumption | (with_reducible apply Blk.resetRow_form) | (with_reducible refine form_foldl (fun c x hc => ?_) _ _ ?_) | extract_lets | (dsimp +zetaDelta only))

theorem Blk.velvetWord_form (b : Blk) (slice word : Nat) (tx : MediaTx) (addr : Bool) (h₀ : MediaForm b) : MediaForm (Blk.velvetWord b slice word tx addr) :=
  keep_form (Blk.velvetWord_only (m₀ := [.free, .out, .od, .hA, .hB, .can, .path, .poison, .media, .velvet, .linen, .tweed, .modes]) b slice word tx addr (by decide) (only_refl _ _)) (by decide) h₀

theorem Blk.tagWord_form (b : Blk) (n : Nat) (tx : MediaTx) (addr : Bool) (h₀ : MediaForm b) : MediaForm (Blk.tagWord b n tx addr) :=
  keep_form (Blk.tagWord_only (m₀ := [.free, .out, .od, .hA, .hB, .can, .path, .poison, .media, .damask, .linen, .tweed, .modes]) b n tx addr (by decide) (only_refl _ _)) (by decide) h₀

theorem Blk.gaugeWord_form (b : Blk) (n : Nat) (h₀ : MediaForm b) : MediaForm (Blk.gaugeWord b n) :=
  keep_form (Blk.gaugeWord_only (m₀ := [.gauze]) b n (by decide) (only_refl _ _)) (by decide) h₀

theorem Blk.queueWord_form (b : Blk) (word : Nat) (tx : MediaTx) (addr : Bool) (h₀ : MediaForm b) : MediaForm (Blk.queueWord b word tx addr) :=
  keep_form (Blk.queueWord_only (m₀ := [.free, .out, .od, .regs, .hA, .hB, .muslin, .can, .path, .poison, .media, .velvet, .twill, .linen, .tweed, .modes]) b word tx addr (by decide) (only_refl _ _)) (by decide) h₀

theorem Blk.sramLost_form (b : Blk) (k word : Nat) (tx : MediaTx) (addr : Bool) (h₀ : MediaForm b) : MediaForm (Blk.sramLost b k word tx addr) := by
  unfold Blk.sramLost
  repeat (first | with_reducible assumption | (with_reducible apply Blk.onTwill_form) | (with_reducible apply Blk.engineFail_form) | (with_reducible apply Blk.velvetWord_form) | (with_reducible apply Blk.tagWord_form) | (with_reducible apply Blk.gaugeWord_form) | (with_reducible apply Blk.queueWord_form) | with_reducible apply form_ite | extract_lets | split | (dsimp +zetaDelta only))

theorem Blk.failBank_form (b : Blk) (k : Nat) (h₀ : MediaForm b) : MediaForm (Blk.failBank b k) := by
  unfold Blk.failBank
  repeat (first | with_reducible assumption | (with_reducible apply Blk.onBank_form) | (with_reducible apply Blk.bankFail_form) | with_reducible apply form_ite)

theorem Blk.sramRead_form (b : Blk) (k word : Nat) (e : SramErr) (tx : MediaTx) (h₀ : MediaForm b) : MediaForm (Blk.sramRead b k word e tx) := by
  unfold Blk.sramRead
  repeat (first | with_reducible assumption | (with_reducible apply Blk.bump_form) | (with_reducible apply Blk.reportUnit_form) | (with_reducible apply Blk.detect_form) | (with_reducible apply Blk.onBank_form) | (with_reducible apply Blk.sramLost_form) | (with_reducible apply Blk.failBank_form) | with_reducible apply form_ite | extract_lets | split | (dsimp +zetaDelta only))

theorem Blk.scrubWord_form (b : Blk) (k word : Nat) (e : SramErr) (h₀ : MediaForm b) : MediaForm (Blk.scrubWord b k word e) := by
  unfold Blk.scrubWord
  repeat (first | with_reducible assumption | (with_reducible apply onMedia_form <;> [(intro; rfl); skip]) | (with_reducible apply Blk.healthCheck_form) | (with_reducible apply Blk.sramRead_form) | with_reducible apply form_ite | extract_lets | (dsimp +zetaDelta only))

theorem Blk.tearPart_form (b : Blk) (pid : Nat) (h₀ : MediaForm b) : MediaForm (Blk.tearPart b pid) := by
  unfold Blk.tearPart
  repeat (first | with_reducible assumption | (with_reducible apply Blk.useFree_form) | (with_reducible apply Blk.storeLine_form) | (with_reducible apply Blk.program_form) | (with_reducible refine form_foldl (fun c x hc => ?_) _ _ ?_) | split)

theorem Blk.resetParts_form (b : Blk) (d : Nat) (h₀ : MediaForm b) : MediaForm (Blk.resetParts b d) := by
  unfold Blk.resetParts
  repeat (first | with_reducible assumption | (with_reducible apply onMedia_form <;> [(intro; rfl); skip]) | (with_reducible apply Blk.onPart_form) | (with_reducible apply Blk.tearPart_form) | (with_reducible refine form_foldl (fun c x hc => ?_) _ _ ?_) | extract_lets | (dsimp +zetaDelta only))

theorem Blk.servePfail_form (b : Blk) (d : Nat) (v : BitVec 256) (h₀ : MediaForm b) : MediaForm (Blk.servePfail b d v) := by
  unfold Blk.servePfail
  repeat (first | with_reducible assumption | (with_reducible apply Blk.programEnds_form) | (with_reducible refine form_foldl (fun c x hc => ?_) _ _ ?_))

theorem Blk.serveRfail_form (b : Blk) (d : Nat) (v : BitVec 256) (h₀ : MediaForm b) : MediaForm (Blk.serveRfail b d v) := by
  unfold Blk.serveRfail
  repeat (first | with_reducible assumption | (with_reducible apply Blk.resetEnds_form) | (with_reducible refine form_foldl (fun c x hc => ?_) _ _ ?_))

theorem Blk.comesBack_form (b : Blk) (d : Nat) (alrt : BitVec 7) (h₀ : MediaForm b) : MediaForm (Blk.comesBack b d alrt) := by
  unfold Blk.comesBack
  repeat (first | with_reducible assumption | (with_reducible apply Blk.onDie_form) | (with_reducible apply Blk.dieFail_form) | with_reducible apply form_ite | extract_lets | (dsimp +zetaDelta only))

theorem Blk.maskTherm_form (b : Blk) (d : Nat) (on : Bool) (h₀ : MediaForm b) : MediaForm (Blk.maskTherm b d on) :=
  keep_form (Blk.maskTherm_only (m₀ := [.out, .media]) b d on (by decide) (only_refl _ _)) (by decide) h₀

theorem Blk.dieStatus_form (b : Blk) (d : Nat) (alrt : BitVec 7) (tval : Bool) (temp : Int) (h₀ : MediaForm b) : MediaForm (Blk.dieStatus b d alrt tval temp) :=
  keep_form (Blk.dieStatus_only (m₀ := [.out, .od, .hA, .hB, .can, .media, .linen, .thermal, .modes]) b d alrt tval temp (by decide) (only_refl _ _)) (by decide) h₀

theorem Blk.serveWdat_form (b : Blk) (d : Nat) (v : BitVec 256) (h₀ : MediaForm b) : MediaForm (Blk.serveWdat b d v) :=
  keep_form (Blk.serveWdat_only (m₀ := [.free, .out, .od, .hA, .hB, .can, .media, .twill, .linen, .tweed]) b d v (by decide) (only_refl _ _)) (by decide) h₀

theorem Blk.serveIdle_form (b : Blk) (d : Nat) (v : BitVec 256) (h₀ : MediaForm b) : MediaForm (Blk.serveIdle b d v) :=
  keep_form (Blk.serveIdle_only (m₀ := [.free, .out, .od, .hA, .hB, .can, .media, .twill, .linen, .tweed]) b d v (by decide) (only_refl _ _)) (by decide) h₀

theorem Blk.adopt_form (b : Blk) (d : Nat) (v : BitVec 256) (h₀ : MediaForm b) : MediaForm (Blk.adopt b d v) :=
  keep_form (Blk.adopt_only (m₀ := [.media]) b d v (by decide) (only_refl _ _)) (by decide) h₀

theorem Blk.serveDie_form (b : Blk) (d : Nat) (v : BitVec 256) (h₀ : MediaForm b) : MediaForm (Blk.serveDie b d v) := by
  unfold Blk.serveDie
  repeat (first | with_reducible assumption | (with_reducible apply Blk.bump_form) | (with_reducible apply Blk.onDie_form) | (with_reducible apply Blk.reportUnit_form) | (with_reducible apply Blk.twChan_form) | (with_reducible apply Blk.sendDie_form) | (with_reducible apply Blk.maskTherm_form) | (with_reducible apply Blk.dieStatus_form) | (with_reducible apply Blk.dieFail_form) | (with_reducible apply Blk.serveWdat_form) | (with_reducible apply Blk.serveIdle_form) | (with_reducible apply Blk.adopt_form) | (with_reducible apply Blk.servePfail_form) | (with_reducible apply Blk.serveRfail_form) | (with_reducible apply Blk.comesBack_form) | with_reducible apply form_ite | extract_lets | (dsimp +zetaDelta only))

theorem Blk.channelTrained_form (b : Blk) (n : Nat) (ch : Nat) (o : TrainObs) (h₀ : MediaForm b) : MediaForm (Blk.channelTrained b n ch o) := by
  unfold Blk.channelTrained
  repeat (first | with_reducible assumption | (with_reducible apply Blk.onChan_form) | (with_reducible apply Blk.onDie_form) | (with_reducible apply Blk.dieFail_form) | (with_reducible apply Blk.channelFail_form) | (with_reducible refine form_foldl (fun c x hc => ?_) _ _ ?_) | with_reducible apply form_ite | extract_lets | (dsimp +zetaDelta only) | exact h₀)

theorem Blk.payOwed_form (b : Blk) (ch : Nat) (h₀ : MediaForm b) : MediaForm (Blk.payOwed b ch) :=
  keep_form (Blk.payOwed_only (m₀ := [.free, .out, .od, .hA, .hB, .can, .media, .twill, .linen, .tweed]) b ch (by decide) (only_refl _ _)) (by decide) h₀

theorem Blk.issueAgain_form (b : Blk) (d : Nat) (h₀ : MediaForm b) : MediaForm (Blk.issueAgain b d) :=
  keep_form (Blk.issueAgain_only (m₀ := [.free, .out, .od, .hA, .hB, .can, .media, .twill, .linen, .tweed]) b d (by decide) (only_refl _ _)) (by decide) h₀

theorem Blk.channelBack_form (b : Blk) (ch timeUs : Nat) (h₀ : MediaForm b) : MediaForm (Blk.channelBack b ch timeUs) := by
  unfold Blk.channelBack
  repeat (first | with_reducible assumption | (with_reducible apply Blk.onChan_form) | (with_reducible apply Blk.pump_form) | (with_reducible apply Blk.drive_form) | (with_reducible apply Blk.payOwed_form) | (with_reducible apply Blk.issueAgain_form) | (with_reducible refine form_foldl (fun c x hc => ?_) _ _ ?_) | extract_lets | (dsimp +zetaDelta only) | exact h₀)

theorem Blk.onSensor_form (b : Blk) (i : Nat) (f : Sensor → Sensor) (h₀ : MediaForm b) : MediaForm (Blk.onSensor b i f) :=
  keep_form (Blk.onSensor_only (m₀ := [.thermal]) b i f (by decide) (only_refl _ _)) (by decide) h₀

theorem Blk.sensorCount_form (b : Blk) (before : Nat) (h₀ : MediaForm b) : MediaForm (Blk.sensorCount b before) :=
  keep_form (Blk.sensorCount_only (m₀ := [.free, .out, .od, .hA, .hB, .muslin, .can, .dev, .path, .linen, .tweed, .thermal, .modes, .safety]) b before (by decide) (only_refl _ _)) (by decide) h₀

theorem Blk.headFail_form (b : Blk) (h : Head) (h₀ : MediaForm b) : MediaForm (Blk.headFail b h) :=
  keep_form (Blk.headFail_only (m₀ := [.out, .od, .hA, .hB, .sesA, .sesB, .sesC, .muslin, .can, .dev, .path, .velvet, .damask, .linen, .tweed, .modes]) b h (by decide) (only_refl _ _)) (by decide) h₀

theorem Blk.checkerFailed_form (b : Blk) (k : Checker) (h₀ : MediaForm b) : MediaForm (Blk.checkerFailed b k) := by
  unfold Blk.checkerFailed
  repeat (first | with_reducible assumption | (with_reducible apply Blk.bump_form) | (with_reducible apply Blk.reportUnit_form) | (with_reducible apply Blk.detect_form) | (with_reducible apply Blk.onEngine_form) | (with_reducible apply Blk.bankFail_form) | (with_reducible apply Blk.onSensor_form) | (with_reducible apply Blk.sensorCount_form) | (with_reducible apply Blk.headFail_form) | with_reducible apply form_ite | extract_lets | split | (dsimp +zetaDelta only))

theorem Blk.chatter_form (b : Blk) (s : Nat) (timeout : Bool) (h₀ : MediaForm b) : MediaForm (Blk.chatter b s timeout) := by
  unfold Blk.chatter
  repeat (first | with_reducible assumption | (with_reducible apply Blk.bump_form) | (with_reducible apply Blk.reportUnit_form) | (with_reducible apply Blk.allOff_form) | with_reducible apply form_ite | extract_lets | (dsimp +zetaDelta only))

theorem Blk.stepChange_form (b : Blk) (s : Nat) (was : Bool) (h₀ : MediaForm b) : MediaForm (Blk.stepChange b s was) := by
  unfold Blk.stepChange
  repeat (first | with_reducible assumption | (with_reducible apply Blk.onSlot_form) | (with_reducible apply Blk.chatter_form) | with_reducible apply form_ite | extract_lets | (dsimp +zetaDelta only))

theorem Blk.reportEnergy_form (b : Blk) (h₀ : MediaForm b) : MediaForm (Blk.reportEnergy b) := by
  unfold Blk.reportEnergy
  repeat (first | with_reducible assumption | (with_reducible apply Blk.onVelvet_form) | (with_reducible apply Blk.onCanvas_form) | (with_reducible apply Blk.onModes_form) | (with_reducible apply Blk.energyReport_form) | with_reducible apply form_ite | extract_lets | (dsimp +zetaDelta only) | exact h₀)

theorem Blk.replaceDie_form (b : Blk) (d : Nat) (id : BitVec 64) (h₀ : MediaForm b) : MediaForm (Blk.replaceDie b d id) := by
  unfold Blk.replaceDie
  repeat (first | with_reducible assumption | (with_reducible apply onMedia_lines' <;> [(intro m hm; first | exact NMap.filter_rising _ hm | with_unfolding_all rfl | exact hm); skip]) | (with_reducible apply onMedia_form <;> [(intro; rfl); skip]) | (with_reducible apply Blk.onDamask_form) | (with_reducible apply Blk.onDie_form) | (with_reducible apply Blk.reportUnit_form) | (with_reducible apply Blk.dieFail_form) | (with_reducible apply Blk.clearCells_form) | with_reducible apply form_ite | extract_lets | (dsimp +zetaDelta only))

theorem Blk.checkDie_form (ids : List (Nat × BitVec 64)) (b : Blk) (d : Nat) (h₀ : MediaForm b) : MediaForm (Blk.checkDie ids b d) := by
  unfold Blk.checkDie
  repeat (first | with_reducible assumption | (with_reducible apply Blk.dieFail_form) | (with_reducible apply Blk.replaceDie_form) | with_reducible apply form_ite | split)

theorem Blk.ownMedia_form (b : Blk) (ids : List (Nat × BitVec 64)) (h₀ : MediaForm b) : MediaForm (Blk.ownMedia b ids) := by
  unfold Blk.ownMedia
  repeat (first | with_reducible assumption | (with_reducible apply Blk.boundNow_form) | (with_reducible apply Blk.checkDie_form) | (with_reducible refine form_foldl (fun c x hc => ?_) _ _ ?_))

theorem Blk.firstProvision_form (b : Blk) (h₀ : MediaForm b) : MediaForm (Blk.firstProvision b) := by
  unfold Blk.firstProvision
  repeat (first | with_reducible assumption | (with_reducible apply Blk.onDamask_form) | (with_reducible apply Blk.onFelt_form) | (with_reducible apply Blk.draw_form) | (with_reducible apply Blk.itemWrite_form) | (with_reducible apply Blk.bind_form) | (with_reducible apply Blk.boundNow_form) | (with_reducible apply Blk.provisionSlots_form) | extract_lets | (dsimp +zetaDelta only))

theorem Blk.modeNow_form (b : Blk) (h₀ : MediaForm b) : MediaForm (Blk.modeNow b) := by
  unfold Blk.modeNow
  repeat (first | with_reducible assumption | (with_reducible apply Blk.onVelvet_form) | (with_reducible apply Blk.report_form) | (with_reducible apply Blk.energyReport_form) | with_reducible apply form_ite | extract_lets | (dsimp +zetaDelta only))

theorem Blk.planNow_form (b : Blk) (h₀ : MediaForm b) : MediaForm (Blk.planNow b) := by
  unfold Blk.planNow
  repeat (first | with_reducible assumption | (with_reducible apply Blk.newPlan_form) | (with_reducible apply Blk.openLanes_form) | (with_reducible apply Blk.turnPlan_form) | with_reducible apply form_ite)

theorem Blk.onHA_form (b : Blk) (f : HeadSt → HeadSt) (h₀ : MediaForm b) : MediaForm (Blk.onHA b f) :=
  keep_form (Blk.onHA_only (m₀ := [.hA]) b f (by decide) (only_refl _ _)) (by decide) h₀

theorem Blk.onHB_form (b : Blk) (f : HeadSt → HeadSt) (h₀ : MediaForm b) : MediaForm (Blk.onHB b f) :=
  keep_form (Blk.onHB_only (m₀ := [.hB]) b f (by decide) (only_refl _ _)) (by decide) h₀

theorem Blk.setConditions_form (b : Blk) (f : BitVec 12 → BitVec 12) (h₀ : MediaForm b) : MediaForm (Blk.setConditions b f) :=
  keep_form (Blk.setConditions_only (m₀ := [.out, .od, .hA, .hB, .muslin, .can, .linen, .tweed, .modes]) b f (by decide) (only_refl _ _)) (by decide) h₀

theorem Blk.poisonWarn_form (b : Blk) (h₀ : MediaForm b) : MediaForm (Blk.poisonWarn b) :=
  keep_form (Blk.poisonWarn_only (m₀ := [.out, .od, .hA, .hB, .can, .media, .linen]) b (by decide) (only_refl _ _)) (by decide) h₀

theorem Blk.throttle_form (b : Blk) (h₀ : MediaForm b) : MediaForm (Blk.throttle b) :=
  keep_form (Blk.throttle_only (m₀ := [.out, .od, .hA, .hB, .muslin, .can, .dev, .linen, .tweed, .thermal, .modes]) b (by decide) (only_refl _ _)) (by decide) h₀

theorem Blk.fwTaken_form (b : Blk) (h₀ : MediaForm b) : MediaForm (Blk.fwTaken b) :=
  keep_form (Blk.fwTaken_only (m₀ := [.felt]) b (by decide) (only_refl _ _)) (by decide) h₀

theorem Blk.startLaps_form (b : Blk) (h₀ : MediaForm b) : MediaForm (Blk.startLaps b) :=
  keep_form (Blk.startLaps_only (m₀ := [.media]) b (by decide) (only_refl _ _)) (by decide) h₀

theorem Blk.degradedNow_form (b : Blk) (h₀ : MediaForm b) : MediaForm (Blk.degradedNow b) :=
  keep_form (Blk.degradedNow_only (m₀ := [.out, .od, .hA, .hB, .muslin, .can, .linen, .tweed, .modes]) b (by decide) (only_refl _ _)) (by decide) h₀

theorem Blk.activate_form (b : Blk) (h₀ : MediaForm b) : MediaForm (Blk.activate b) := by
  unfold Blk.activate
  repeat (first | with_reducible assumption | (with_reducible apply Blk.onHA_form) | (with_reducible apply Blk.onHB_form) | (with_reducible apply Blk.onModes_form) | (with_reducible apply Blk.report_form) | (with_reducible apply Blk.setConditions_form) | (with_reducible apply Blk.lifeCheck_form) | (with_reducible apply Blk.poisonWarn_form) | (with_reducible apply Blk.retireWaiting_form) | (with_reducible apply Blk.drive_form) | (with_reducible apply Blk.payOwed_form) | (with_reducible apply Blk.throttle_form) | (with_reducible apply Blk.fwTaken_form) | (with_reducible apply Blk.startLaps_form) | (with_reducible apply Blk.degradedNow_form) | (with_reducible apply Blk.modeNow_form) | (with_reducible apply Blk.planNow_form) | (with_reducible refine form_foldl (fun c x hc => ?_) _ _ ?_) | with_reducible apply form_ite | extract_lets | (dsimp +zetaDelta only))

theorem Blk.spdmReq_form (b : Blk) (h : Head) (f : Blk → Blk) (hf : ∀ c, MediaForm c → MediaForm (f c)) (h₀ : MediaForm b) : MediaForm (Blk.spdmReq b h f) := by
  unfold Blk.spdmReq
  repeat (first | with_reducible assumption | (with_reducible apply hf) | (with_reducible apply form_ite) | extract_lets | split | (intro c hc))

theorem Blk.spdmError_form (b : Blk) (h : Head) (h₀ : MediaForm b) : MediaForm (Blk.spdmError b h) :=
  keep_form (Blk.spdmError_only (m₀ := [.out]) b h (by decide) (only_refl _ _)) (by decide) h₀

theorem Blk.afterAlgs_form (b : Blk) (h : Head) (f : Blk → Blk) (hf : ∀ c, MediaForm c → MediaForm (f c)) (h₀ : MediaForm b) : MediaForm (Blk.afterAlgs b h f) := by
  unfold Blk.afterAlgs
  repeat (first | with_reducible assumption | (with_reducible apply Blk.spdmError_form) | (with_reducible apply hf) | (with_reducible apply form_ite) | extract_lets | split | (intro c hc))

theorem Blk.inSession_form (b : Blk) (h : Head) (f : Blk → Blk) (hf : ∀ c, MediaForm c → MediaForm (f c)) (h₀ : MediaForm b) : MediaForm (Blk.inSession b h f) := by
  unfold Blk.inSession
  repeat (first | with_reducible assumption | (with_reducible apply Blk.spdmError_form) | (with_reducible apply hf) | (with_reducible apply form_ite) | extract_lets | split | (intro c hc))

theorem Blk.issue_form (b : Blk) (pid : Nat) (t : ReadTask) (h₀ : MediaForm b) : MediaForm (Blk.issue b pid t) :=
  keep_form (Blk.issue_only (m₀ := [.free, .out, .od, .hA, .hB, .can, .path, .media, .twill, .gauze, .linen, .tweed]) b pid t (by decide) (only_refl _ _)) (by decide) h₀

theorem Blk.phaseSeen_form (b : Blk) (d : Nat) (x : Xfer) (h₀ : MediaForm b) : MediaForm (Blk.phaseSeen b d x) :=
  keep_form (Blk.phaseSeen_only (m₀ := [.media]) b d x (by decide) (only_refl _ _)) (by decide) h₀

theorem Blk.marginTransfer_form (b0 : Blk) (pid : Nat) (x : Xfer) (h₀ : MediaForm b0) : MediaForm (Blk.marginTransfer b0 pid x) :=
  keep_form (Blk.marginTransfer_only (m₀ := [.free, .out, .od, .hA, .hB, .can, .path, .media, .gauze, .linen, .tweed, .thermal, .modes]) b0 pid x (by decide) (only_refl _ _)) (by decide) h₀

theorem Blk.applyFill_form (b : Blk) (li : Nat) (data : Line) (h₀ : MediaForm b) : MediaForm (Blk.applyFill b li data) :=
  keep_form (Blk.applyFill_only (m₀ := [.free, .out, .od, .hA, .hB, .can, .path, .velvet, .linen, .tweed]) b li data (by decide) (only_refl _ _)) (by decide) h₀

theorem Blk.endAcc_form (b : Blk) (x : Acc) (h₀ : MediaForm b) : MediaForm (Blk.endAcc b x) :=
  keep_form (Blk.endAcc_only (m₀ := [.path]) b x (by decide) (only_refl _ _)) (by decide) h₀

theorem Blk.poisonFill_form (b : Blk) (li : Nat) (h₀ : MediaForm b) : MediaForm (Blk.poisonFill b li) :=
  keep_form (Blk.poisonFill_only (m₀ := [.free, .out, .od, .hA, .hB, .can, .path, .velvet, .linen, .tweed]) b li (by decide) (only_refl _ _)) (by decide) h₀

theorem Blk.damaskFailure_form (b : Blk) (li : Nat) (h₀ : MediaForm b) : MediaForm (Blk.damaskFailure b li) :=
  keep_form (Blk.damaskFailure_only (m₀ := [.free, .out, .od, .hA, .hB, .can, .path, .damask, .linen, .tweed, .modes]) b li (by decide) (only_refl _ _)) (by decide) h₀

theorem Blk.dropDeep_form (b : Blk) (d : Deep) (h₀ : MediaForm b) : MediaForm (Blk.dropDeep b d) :=
  keep_form (Blk.dropDeep_only (m₀ := [.path]) b d (by decide) (only_refl _ _)) (by decide) h₀

theorem Blk.poisonRest_form (b : Blk) (d : Deep) (h₀ : MediaForm b) : MediaForm (Blk.poisonRest b d) :=
  keep_form (Blk.poisonRest_only (m₀ := [.free, .out, .od, .hA, .hB, .can, .path, .poison, .media, .linen, .tweed, .modes]) b d (by decide) (only_refl _ _)) (by decide) h₀

theorem Blk.answerDeep_form (b : Blk) (x : Acc) (h₀ : MediaForm b) : MediaForm (Blk.answerDeep b x) :=
  keep_form (Blk.answerDeep_only (m₀ := [.free, .out, .od, .hA, .hB, .can, .path, .linen, .tweed]) b x (by decide) (only_refl _ _)) (by decide) h₀

theorem Blk.deepJobs_form (b : Blk) (li : Nat) (f : Job → Job) (h₀ : MediaForm b) : MediaForm (Blk.deepJobs b li f) :=
  keep_form (Blk.deepJobs_only (m₀ := [.twill]) b li f (by decide) (only_refl _ _)) (by decide) h₀

theorem Blk.writeBack_form (b : Blk) (li : Nat) (line : Line) (h₀ : MediaForm b) : MediaForm (Blk.writeBack b li line) :=
  keep_form (Blk.writeBack_only (m₀ := [.velvet]) b li line (by decide) (only_refl _ _)) (by decide) h₀

theorem Blk.unlistRecovered_form (b : Blk) (key : Nat) (was : Bool) (h₀ : MediaForm b) : MediaForm (Blk.unlistRecovered b key was) :=
  keep_form (Blk.unlistRecovered_only (m₀ := [.out, .od, .hA, .hB, .can, .poison, .media, .linen]) b key was (by decide) (only_refl _ _)) (by decide) h₀

theorem Blk.bgEnds_form (b : Blk) (h₀ : MediaForm b) : MediaForm (Blk.bgEnds b) :=
  keep_form (Blk.bgEnds_only (m₀ := [.out, .dev]) b (by decide) (only_refl _ _)) (by decide) h₀

theorem Blk.listHalf_form (b : Blk) (key : Nat) (src : PSource) (h₀ : MediaForm b) : MediaForm (Blk.listHalf b key src) :=
  keep_form (Blk.listHalf_only (m₀ := [.free, .out, .od, .hA, .hB, .can, .path, .poison, .media, .linen, .tweed, .modes]) b key src (by decide) (only_refl _ _)) (by decide) h₀

theorem Blk.onMuslin_form (b : Blk) (f : Muslin → Muslin) (h₀ : MediaForm b) : MediaForm (Blk.onMuslin b f) :=
  keep_form (Blk.onMuslin_only (m₀ := [.muslin]) b f (by decide) (only_refl _ _)) (by decide) h₀

theorem Blk.failCommit_form (b : Blk) (result rule : Nat) (h₀ : MediaForm b) : MediaForm (Blk.failCommit b result rule) :=
  keep_form (Blk.failCommit_only (m₀ := [.out, .od, .muslin, .can]) b result rule (by decide) (only_refl _ _)) (by decide) h₀

theorem Blk.swapDone_form (b : Blk) (pauseNs : Nat) (rwp cal : Bool) (src : Option Src) (h₀ : MediaForm b) : MediaForm (Blk.swapDone b pauseNs rwp cal src) :=
  keep_form (Blk.swapDone_only (m₀ := [.free, .out, .od, .hA, .hB, .muslin, .can, .gauze, .linen, .tweed]) b pauseNs rwp cal src (by decide) (only_refl _ _)) (by decide) h₀

theorem Blk.putBulk_form (b : Blk) (src : Src) (x : Option Bulk) (h₀ : MediaForm b) : MediaForm (Blk.putBulk b src x) :=
  keep_form (Blk.putBulk_only (m₀ := [.hA, .hB, .can]) b src x (by decide) (only_refl _ _)) (by decide) h₀

theorem Blk.dropRegionLines_form (b : Blk) (g : Rgn) (h₀ : MediaForm b) : MediaForm (Blk.dropRegionLines b g) :=
  keep_form (Blk.dropRegionLines_only (m₀ := [.path, .velvet, .twill]) b g (by decide) (only_refl _ _)) (by decide) h₀

theorem Blk.dropRegionHot_form (b : Blk) (g : Rgn) (h₀ : MediaForm b) : MediaForm (Blk.dropRegionHot b g) :=
  keep_form (Blk.dropRegionHot_only (m₀ := [.media, .twill]) b g (by decide) (only_refl _ _)) (by decide) h₀

theorem Blk.emit_form (b : Blk) (o : Output) (h₀ : MediaForm b) : MediaForm (Blk.emit b o) :=
  keep_form (Blk.emit_only (m₀ := [.out]) b o (by decide) (only_refl _ _)) (by decide) h₀

theorem Blk.afterRead_form (b : Blk) (h : Head) (h₀ : MediaForm b) : MediaForm (Blk.afterRead b h) :=
  keep_form (Blk.afterRead_only (m₀ := [.hA, .hB]) b h (by decide) (only_refl _ _)) (by decide) h₀

theorem Blk.badRead_form (b : Blk) (h : Head) (off bytes : Nat) (h₀ : MediaForm b) : MediaForm (Blk.badRead b h off bytes) :=
  keep_form (Blk.badRead_only (m₀ := [.out, .hA, .hB]) b h off bytes (by decide) (only_refl _ _)) (by decide) h₀

theorem Blk.refuseWrite_form (b : Blk) (h : Head) (addr : BitVec 32) (h₀ : MediaForm b) : MediaForm (Blk.refuseWrite b h addr) :=
  keep_form (Blk.refuseWrite_only (m₀ := [.out, .od, .hA, .hB, .can, .linen]) b h addr (by decide) (only_refl _ _)) (by decide) h₀

theorem Blk.ringHint_form (b : Blk) (h : Head) (r : BitVec 128) (h₀ : MediaForm b) : MediaForm (Blk.ringHint b h r) :=
  keep_form (Blk.ringHint_only (m₀ := [.od, .hA, .hB, .tweed]) b h r (by decide) (only_refl _ _)) (by decide) h₀

theorem Blk.loseSwitched_form (b : Blk) (keepLink : Bool) (h₀ : MediaForm b) : MediaForm (Blk.loseSwitched b keepLink) :=
  keep_form (Blk.loseSwitched_only (m₀ := [.odOld, .direct, .regs, .due, .dueB, .hA, .hB, .sesA, .sesB, .sesC, .muslin, .can, .dev, .path, .poison, .media, .velvet, .twill, .gauze, .damask, .linen, .felt, .tweed, .thermal, .safety]) b keepLink (by decide) (only_refl _ _)) (by decide) h₀

theorem Blk.startHomes_form (b : Blk) (h₀ : MediaForm b) : MediaForm (Blk.startHomes b) :=
  keep_form (Blk.startHomes_only (m₀ := [.free, .media, .twill, .tweed]) b (by decide) (only_refl _ _)) (by decide) h₀

theorem Blk.heatRegions_form (b : Blk) (h₀ : MediaForm b) : MediaForm (Blk.heatRegions b) :=
  keep_form (Blk.heatRegions_only (m₀ := [.twill]) b (by decide) (only_refl _ _)) (by decide) h₀

theorem Blk.takeRow_form (b : Blk) (c : Cls) (h₀ : MediaForm b) : MediaForm (Blk.takeRow b c) :=
  keep_form (Blk.takeRow_only (m₀ := [.twill]) b c (by decide) (only_refl _ _)) (by decide) h₀

theorem Blk.wearUp_form (b : Blk) (slot : Nat) (h₀ : MediaForm b) : MediaForm (Blk.wearUp b slot) :=
  keep_form (Blk.wearUp_only (m₀ := [.out, .od, .hA, .hB, .can, .twill, .linen]) b slot (by decide) (only_refl _ _)) (by decide) h₀

theorem Blk.foldCount_form (b : Blk) (slot : Nat) (h₀ : MediaForm b) : MediaForm (Blk.foldCount b slot) :=
  keep_form (Blk.foldCount_only (m₀ := [.out, .od, .hA, .hB, .can, .twill, .linen]) b slot (by decide) (only_refl _ _)) (by decide) h₀

theorem Blk.startRefresh_form (b : Blk) (area : Nat) (rest : List (Nat × Nat)) (h₀ : MediaForm b) : MediaForm (Blk.startRefresh b area rest) :=
  keep_form (Blk.startRefresh_only (m₀ := [.twill]) b area rest (by decide) (only_refl _ _)) (by decide) h₀

theorem Blk.lapRead_form (b : Blk) (c : Cls) (h₀ : MediaForm b) : MediaForm (Blk.lapRead b c) :=
  keep_form (Blk.lapRead_only (m₀ := [.free, .out, .od, .hA, .hB, .can, .dev, .media, .twill, .linen, .tweed]) b c (by decide) (only_refl _ _)) (by decide) h₀

theorem Blk.scanNext_form (b : Blk) (h₀ : MediaForm b) : MediaForm (Blk.scanNext b) :=
  keep_form (Blk.scanNext_only (m₀ := [.free, .out, .dev, .media, .twill, .tweed]) b (by decide) (only_refl _ _)) (by decide) h₀

theorem Blk.evaluateArea_form (b : Blk) (area : Nat) (h₀ : MediaForm b) : MediaForm (Blk.evaluateArea b area) :=
  keep_form (Blk.evaluateArea_only (m₀ := [.twill]) b area (by decide) (only_refl _ _)) (by decide) h₀

theorem Blk.beginEvaluation_form (b : Blk) (h₀ : MediaForm b) : MediaForm (Blk.beginEvaluation b) :=
  keep_form (Blk.beginEvaluation_only (m₀ := [.gauze]) b (by decide) (only_refl _ _)) (by decide) h₀

theorem Blk.startTag_form (b : Blk) (ti : Nat) (h₀ : MediaForm b) : MediaForm (Blk.startTag b ti) :=
  keep_form (Blk.startTag_only (m₀ := [.free, .media, .twill, .tweed]) b ti (by decide) (only_refl _ _)) (by decide) h₀

theorem Blk.pinGroups_form (b : Blk) (r : Nat) (h₀ : MediaForm b) : MediaForm (Blk.pinGroups b r) :=
  keep_form (Blk.pinGroups_only (m₀ := [.out, .od, .hA, .hB, .can, .damask, .linen]) b r (by decide) (only_refl _ _)) (by decide) h₀

theorem Blk.findDies_form (b : Blk) (ch : Nat) (o : TrainObs) (h₀ : MediaForm b) : MediaForm (Blk.findDies b ch o) :=
  keep_form (Blk.findDies_only (m₀ := [.free, .out, .media]) b ch o (by decide) (only_refl _ _)) (by decide) h₀

theorem Blk.bump32_form (b : Blk) (idx sub n : Nat) (h₀ : MediaForm b) : MediaForm (Blk.bump32 b idx sub n) :=
  keep_form (Blk.bump32_only (m₀ := [.od]) b idx sub n (by decide) (only_refl _ _)) (by decide) h₀

theorem Blk.sendTo_form (b : Blk) (ch : Nat) (cs : BitVec 8) (c : DieCmd) (h₀ : MediaForm b) : MediaForm (Blk.sendTo b ch cs c) :=
  keep_form (Blk.sendTo_only (m₀ := [.out, .media]) b ch cs c (by decide) (only_refl _ _)) (by decide) h₀

theorem Blk.resumeAll_form (b : Blk) (h₀ : MediaForm b) : MediaForm (Blk.resumeAll b) :=
  keep_form (Blk.resumeAll_only (m₀ := [.out, .media]) b (by decide) (only_refl _ _)) (by decide) h₀

theorem Blk.ringNewest_form (b : Blk) (h₀ : MediaForm b) : MediaForm (Blk.ringNewest b) :=
  keep_form (Blk.ringNewest_only (m₀ := [.od, .linen]) b (by decide) (only_refl _ _)) (by decide) h₀

theorem Blk.dark_form (b : Blk) (h₀ : MediaForm b) : MediaForm (Blk.dark b) :=
  keep_form (Blk.dark_only (m₀ := [.od, .odOld, .direct, .regs, .due, .dueB, .hA, .hB, .sesA, .sesB, .sesC, .muslin, .can, .dev, .path, .poison, .media, .velvet, .twill, .gauze, .damask, .linen, .felt, .tweed, .canvas, .clocks, .thermal, .modes, .safety, .tap]) b (by decide) (only_refl _ _)) (by decide) h₀

theorem Blk.flushCheck_form (b : Blk) (e : Nat × DpErr) (h₀ : MediaForm b) : MediaForm (Blk.flushCheck b e) :=
  keep_form (Blk.flushCheck_only (m₀ := [.free, .out, .od, .hA, .hB, .can, .path, .poison, .media, .velvet, .linen, .tweed, .modes]) b e (by decide) (only_refl _ _)) (by decide) h₀

theorem Blk.secondFault_form (b : Blk) (slot code mv : Nat) (h₀ : MediaForm b) : MediaForm (Blk.secondFault b slot code mv) :=
  keep_form (Blk.secondFault_only (m₀ := [.od, .canvas]) b slot code mv (by decide) (only_refl _ _)) (by decide) h₀

theorem Blk.testResult_form (b : Blk) (stepUv dv : Nat) (h₀ : MediaForm b) : MediaForm (Blk.testResult b stepUv dv) :=
  keep_form (Blk.testResult_only (m₀ := [.free, .out, .od, .hA, .hB, .can, .path, .linen, .felt, .tweed, .canvas, .modes, .safety]) b stepUv dv (by decide) (only_refl _ _)) (by decide) h₀

theorem Blk.readIds_form (b : Blk) (ids : List (Nat × BitVec 64)) (h₀ : MediaForm b) : MediaForm (Blk.readIds b ids) :=
  keep_form (Blk.readIds_only (m₀ := [.media]) b ids (by decide) (only_refl _ _)) (by decide) h₀

theorem Blk.heldMedia_form (b : Blk) (state : Nat) (record : Option (BitVec 8 × BitVec 64 × BitVec 128 × Nat)) (h₀ : MediaForm b) : MediaForm (Blk.heldMedia b state record) :=
  keep_form (Blk.heldMedia_only (m₀ := [.out, .od, .hA, .hB, .can, .damask, .linen]) b state record (by decide) (only_refl _ _)) (by decide) h₀

theorem Blk.loadSnapshot_form (b : Blk) (h₀ : MediaForm b) : MediaForm (Blk.loadSnapshot b) :=
  keep_form (Blk.loadSnapshot_only (m₀ := [.free, .out, .od, .hA, .hB, .can, .gauze, .linen]) b (by decide) (only_refl _ _)) (by decide) h₀

theorem Blk.autoReturn_form (b : Blk) (h₀ : MediaForm b) : MediaForm (Blk.autoReturn b) :=
  keep_form (Blk.autoReturn_only (m₀ := [.clocks]) b (by decide) (only_refl _ _)) (by decide) h₀

theorem Blk.trainDie_form (b : Blk) (d : Nat) (fallback : Bool) (h₀ : MediaForm b) : MediaForm (Blk.trainDie b d fallback) :=
  keep_form (Blk.trainDie_only (m₀ := [.free, .media]) b d fallback (by decide) (only_refl _ _)) (by decide) h₀

theorem Blk.fullTraining_form (b : Blk) (ch : Nat) (dies : List Nat) (timeUs : Nat) (h₀ : MediaForm b) : MediaForm (Blk.fullTraining b ch dies timeUs) :=
  keep_form (Blk.fullTraining_only (m₀ := [.free, .out, .media]) b ch dies timeUs (by decide) (only_refl _ _)) (by decide) h₀

theorem execAcceptance_form (x0 x1 x2 x3) (s t : State) (h₀ : MediaForm (s.blk.at x0)) (h : execAcceptance x0 x1 x2 x3 s = .next t) : MediaForm t.blk := by
  unfold execAcceptance State.command at h
  cases h
  generalize s.blk.at x0 = b at h₀ ⊢
  dsimp only
  repeat (first | with_reducible assumption | (with_reducible apply Blk.tryAccept_form) | with_reducible apply form_ite | extract_lets | split | (intros; dsimp only))

theorem execReadIssue_form (x0 x1 x2 x3) (s t : State) (h₀ : MediaForm (s.blk.at x0)) (h : execReadIssue x0 x1 x2 x3 s = .next t) : MediaForm t.blk := by
  unfold execReadIssue State.command at h
  cases h
  generalize s.blk.at x0 = b at h₀ ⊢
  dsimp only
  repeat (first | with_reducible assumption | (with_reducible apply Blk.onPart_form) | (with_reducible apply Blk.issue_form) | (with_reducible apply Blk.readOn_form) | (with_reducible apply Blk.fromBuffer_form) | with_reducible apply form_ite | extract_lets | split | (intros; dsimp only))

theorem execReadTransfer_form (x0 x1 x2 x3 x4) (s t : State) (h₀ : MediaForm (s.blk.at x0)) (h : execReadTransfer x0 x1 x2 x3 x4 s = .next t) : MediaForm t.blk := by
  unfold execReadTransfer State.command at h
  cases h
  generalize s.blk.at x0 = b at h₀ ⊢
  dsimp only
  repeat (first | with_reducible assumption | (with_reducible apply Blk.tw_form) | (with_reducible apply Blk.onPart_form) | (with_reducible apply Blk.dieStatus_form) | (with_reducible apply Blk.readOn_form) | (with_reducible apply Blk.transferFailed_form) | (with_reducible apply Blk.transferred_form) | (with_reducible apply Blk.phaseSeen_form) | (with_reducible apply Blk.marginTransfer_form) | with_reducible apply form_ite | extract_lets | split | (intros; dsimp only))

theorem execReconstructionComplete_form (x0 x1 x2 x3) (s t : State) (h₀ : MediaForm (s.blk.at x0)) (h : execReconstructionComplete x0 x1 x2 x3 s = .next t) : MediaForm t.blk := by
  unfold execReconstructionComplete State.command at h
  cases h
  generalize s.blk.at x0 = b at h₀ ⊢
  dsimp only
  repeat (first | with_reducible assumption | (with_reducible apply Blk.lineData_form) | (with_reducible apply Blk.startDeep_form) | (with_reducible apply Blk.settleTags_form) | (with_reducible apply Blk.readOn_form) | (with_reducible refine form_foldl (fun c x hc => ?_) _ _ ?_) | with_reducible apply form_ite | extract_lets | split | (intros; dsimp only))

theorem execFillReturn_form (x0 x1) (s t : State) (h₀ : MediaForm (s.blk.at x0)) (h : execFillReturn x0 x1 s = .next t) : MediaForm t.blk := by
  unfold execFillReturn State.command at h
  cases h
  generalize s.blk.at x0 = b at h₀ ⊢
  dsimp only
  repeat (first | with_reducible assumption | (with_reducible apply Blk.onPath_form) | (with_reducible apply Blk.applyFill_form) | (with_reducible apply Blk.startFill_form) | with_reducible apply form_ite | extract_lets | split | (intros; dsimp only))

theorem execDeepRecoveryTimeout_form (x0 x1) (s t : State) (h₀ : MediaForm (s.blk.at x0)) (h : execDeepRecoveryTimeout x0 x1 s = .next t) : MediaForm t.blk := by
  unfold execDeepRecoveryTimeout State.command at h
  cases h
  generalize s.blk.at x0 = b at h₀ ⊢
  dsimp only
  repeat (first | with_reducible assumption | (with_reducible apply Blk.endAcc_form) | (with_reducible apply Blk.poisonFill_form) | (with_reducible apply Blk.damaskFailure_form) | (with_reducible apply Blk.dropDeep_form) | (with_reducible apply Blk.poisonRest_form) | (with_reducible apply Blk.answerDeep_form) | (with_reducible apply Blk.drive_form) | (with_reducible apply Blk.deepJobs_form) | (with_reducible refine form_foldl (fun c x hc => ?_) _ _ ?_) | with_reducible apply form_ite | extract_lets | split | (intros; dsimp only))

theorem execDeepRecoverySuccess_form (x0 x1 x2 x3) (s t : State) (h₀ : MediaForm (s.blk.at x0)) (h : execDeepRecoverySuccess x0 x1 x2 x3 s = .next t) : MediaForm t.blk := by
  unfold execDeepRecoverySuccess State.command at h
  cases h
  generalize s.blk.at x0 = b at h₀ ⊢
  dsimp only
  repeat (first | with_reducible assumption | (with_reducible apply Blk.bump_form) | (with_reducible apply Blk.report_form) | (with_reducible apply Blk.applyFill_form) | (with_reducible apply Blk.lineData_form) | (with_reducible apply Blk.dropDeep_form) | (with_reducible apply Blk.drive_form) | (with_reducible apply Blk.deepJobs_form) | (with_reducible apply Blk.writeBack_form) | (with_reducible apply Blk.unlistRecovered_form) | (with_reducible refine form_foldl (fun c x hc => ?_) _ _ ?_) | with_reducible apply form_ite | extract_lets | split | (intros; dsimp only))

theorem execColdPathWrite_form (x0 x1 x2) (s t : State) (h₀ : MediaForm (s.blk.at x0)) (h : execColdPathWrite x0 x1 x2 s = .next t) : MediaForm t.blk := by
  unfold execColdPathWrite State.command at h
  cases h
  generalize s.blk.at x0 = b at h₀ ⊢
  dsimp only
  repeat (first | with_reducible assumption | (with_reducible apply Blk.drive_form) | (with_reducible apply Blk.coldBuffer_form) | (with_reducible apply Blk.coldThrough_form) | with_reducible apply form_ite | extract_lets | split | (intros; dsimp only))

theorem execHotAppend_form (x0 x1 x2 x3) (s t : State) (h₀ : MediaForm (s.blk.at x0)) (h : execHotAppend x0 x1 x2 x3 s = .next t) : MediaForm t.blk := by
  unfold execHotAppend State.command at h
  cases h
  generalize s.blk.at x0 = b at h₀ ⊢
  dsimp only
  repeat (first | with_reducible assumption | (with_reducible apply Blk.egress_form) | (with_reducible apply Blk.drive_form) | (with_reducible apply Blk.hotWrite_form) | with_reducible apply form_ite | extract_lets | split | (intros; dsimp only))

theorem execProgramComplete_form (x0 x1 x2 x3 x4) (s t : State) (h₀ : MediaForm (s.blk.at x0)) (h : execProgramComplete x0 x1 x2 x3 x4 s = .next t) : MediaForm t.blk := by
  unfold execProgramComplete State.command at h
  cases h
  generalize s.blk.at x0 = b at h₀ ⊢
  dsimp only
  repeat (first | with_reducible assumption | (with_reducible apply Blk.programEnds_form) | (with_reducible apply Blk.goOn_form) | with_reducible apply form_ite | extract_lets | split | (intros; dsimp only))

theorem execTileResetComplete_form (x0 x1 x2 x3 x4) (s t : State) (h₀ : MediaForm (s.blk.at x0)) (h : execTileResetComplete x0 x1 x2 x3 x4 s = .next t) : MediaForm t.blk := by
  unfold execTileResetComplete State.command at h
  cases h
  generalize s.blk.at x0 = b at h₀ ⊢
  dsimp only
  repeat (first | with_reducible assumption | (with_reducible apply Blk.goOn_form) | (with_reducible apply Blk.resetEnds_form) | with_reducible apply form_ite | extract_lets | split | (intros; dsimp only))

theorem execPrefetchRead_form (x0 x1) (s t : State) (h₀ : MediaForm (s.blk.at x0)) (h : execPrefetchRead x0 x1 s = .next t) : MediaForm t.blk := by
  unfold execPrefetchRead State.command at h
  cases h
  generalize s.blk.at x0 = b at h₀ ⊢
  dsimp only
  repeat (first | with_reducible assumption | (with_reducible apply Blk.onHead_form) | (with_reducible refine Blk.allocate_form _ _ _ _ (by assumption) ?_) | (with_reducible apply Blk.startFill_form) | with_reducible apply form_ite | extract_lets | split | (intros; dsimp only))

theorem execSanitize_form (x0 x1) (s t : State) (h₀ : MediaForm (s.blk.at x0)) (h : execSanitize x0 x1 s = .next t) : MediaForm t.blk := by
  unfold execSanitize State.command at h
  cases h
  generalize s.blk.at x0 = b at h₀ ⊢
  dsimp only
  repeat (first | with_reducible assumption | (with_reducible apply Blk.mbox_form <;> [(intros; try dsimp only); skip]) | (with_reducible apply Blk.startErase_form) | with_reducible apply form_ite | extract_lets | split | (intros; dsimp only))

theorem execSecureErase_form (x0 x1) (s t : State) (h₀ : MediaForm (s.blk.at x0)) (h : execSecureErase x0 x1 s = .next t) : MediaForm t.blk := by
  unfold execSecureErase State.command at h
  cases h
  generalize s.blk.at x0 = b at h₀ ⊢
  dsimp only
  repeat (first | with_reducible assumption | (with_reducible apply Blk.mbox_form <;> [(intros; try dsimp only); skip]) | (with_reducible apply Blk.startErase_form) | with_reducible apply form_ite | extract_lets | split | (intros; dsimp only))

theorem execEraseComplete_form (x0) (s t : State) (h₀ : MediaForm (s.blk.at x0)) (h : execEraseComplete x0 s = .next t) : MediaForm t.blk := by
  unfold execEraseComplete State.command at h
  cases h
  generalize s.blk.at x0 = b at h₀ ⊢
  dsimp only
  repeat (first | with_reducible assumption | (with_reducible apply onMedia_lines' <;> [(intro m hm; first | exact NMap.filter_rising _ hm | with_unfolding_all rfl | exact hm); skip]) | (with_reducible apply Blk.onDamask_form) | (with_reducible apply Blk.odSet_form) | (with_reducible apply Blk.bgEnds_form) | (with_reducible apply Blk.boundNow_form) | (with_reducible apply Blk.blankTables_form) | (with_reducible apply Blk.overwriteAll_form) | (with_reducible apply Blk.renewPool_form) | with_reducible apply form_ite | extract_lets | split | (intros; dsimp only))

theorem execInjectPoison_form (x0 x1 x2) (s t : State) (h₀ : MediaForm (s.blk.at x0)) (h : execInjectPoison x0 x1 x2 s = .next t) : MediaForm t.blk := by
  unfold execInjectPoison State.command at h
  cases h
  generalize s.blk.at x0 = b at h₀ ⊢
  dsimp only
  repeat (first | with_reducible assumption | (with_reducible apply Blk.mbReply_form) | (with_reducible apply Blk.listHalf_form) | (with_reducible apply Blk.mbox_form <;> [(intros; try dsimp only); skip]) | (with_reducible apply Blk.dropHalf_form) | with_reducible apply form_ite | extract_lets | split | (intros; dsimp only))

theorem execWrite_form (x0 x1 x2 x3 x4) (s t : State) (h₀ : MediaForm (s.blk.at x0)) (h : execWrite x0 x1 x2 x3 x4 s = .next t) : MediaForm t.blk := by
  unfold execWrite State.command at h
  cases h
  generalize s.blk.at x0 = b at h₀ ⊢
  dsimp only
  repeat (first | with_reducible assumption | (with_reducible apply Blk.writeReq_form <;> [(intros; try dsimp only); skip]) | (with_reducible apply Blk.action_form) | with_reducible apply form_ite | extract_lets | split | (intros; dsimp only))

theorem execApplyInstant_form (x0 x1 x2) (s t : State) (h₀ : MediaForm (s.blk.at x0)) (h : execApplyInstant x0 x1 x2 s = .next t) : MediaForm t.blk := by
  unfold execApplyInstant State.command at h
  cases h
  generalize s.blk.at x0 = b at h₀ ⊢
  dsimp only
  repeat (first | with_reducible assumption | (with_reducible apply Blk.onMuslin_form) | (with_reducible apply Blk.onModes_form) | (with_reducible apply Blk.report_form) | (with_reducible apply Blk.reply_form) | (with_reducible apply Blk.failCommit_form) | (with_reducible apply Blk.swapValues_form) | (with_reducible apply Blk.swapDone_form) | with_reducible apply form_ite | extract_lets | split | (intros; dsimp only))

theorem execClose_form (x0 x1 x2 x3) (s t : State) (h₀ : MediaForm (s.blk.at x0)) (h : execClose x0 x1 x2 x3 s = .next t) : MediaForm t.blk := by
  unfold execClose State.command at h
  cases h
  generalize s.blk.at x0 = b at h₀ ⊢
  dsimp only
  repeat (first | with_reducible assumption | (with_reducible apply Blk.putBulk_form) | (with_reducible apply Blk.bulkAnswer_form) | (with_reducible apply Blk.bulkReq_form <;> [(intros; try dsimp only); skip]) | (with_reducible apply Blk.endTransfer_form) | with_reducible apply form_ite | extract_lets | split | (intros; dsimp only))

theorem execBulkClose_form (x0 x1 x2 x3 x4) (s t : State) (h₀ : MediaForm (s.blk.at x0)) (h : execBulkClose x0 x1 x2 x3 x4 s = .next t) : MediaForm t.blk := by
  unfold execBulkClose State.command at h
  cases h
  generalize s.blk.at x0 = b at h₀ ⊢
  dsimp only
  repeat (first | with_reducible assumption | (with_reducible apply Blk.onCan_form) | (with_reducible apply Blk.canSend_form) | (with_reducible apply Blk.reply_form) | (with_reducible apply Blk.withMac_form <;> [(intros; try dsimp only); skip]) | (with_reducible apply Blk.endTransfer_form) | (with_reducible apply Blk.withTransfer_form <;> [(intros; try dsimp only); skip]) | with_reducible apply form_ite | extract_lets | split | (intros; dsimp only))

theorem execRegionTeardown_form (x0 x1) (s t : State) (h₀ : MediaForm (s.blk.at x0)) (h : execRegionTeardown x0 x1 s = .next t) : MediaForm t.blk := by
  unfold execRegionTeardown State.command at h
  cases h
  generalize s.blk.at x0 = b at h₀ ⊢
  dsimp only
  repeat (first | with_reducible assumption | (with_reducible apply Blk.maintain_form) | (with_reducible apply Blk.drive_form) | (with_reducible apply Blk.dropRegionLines_form) | (with_reducible apply Blk.dropRegionHot_form) | (with_reducible apply Blk.clearRegionTags_form) | (with_reducible apply Blk.freeRegion_form) | with_reducible apply form_ite | extract_lets | split | (intros; dsimp only))

theorem execEscrowImport_form (x0 x1 x2) (s t : State) (h₀ : MediaForm (s.blk.at x0)) (h : execEscrowImport x0 x1 x2 s = .next t) : MediaForm t.blk := by
  unfold execEscrowImport State.command at h
  cases h
  generalize s.blk.at x0 = b at h₀ ⊢
  dsimp only
  repeat (first | with_reducible assumption | (with_reducible apply Blk.objectReq_form <;> [(intros; try dsimp only); skip]) | (with_reducible apply Blk.applyEscrow_form) | with_reducible apply form_ite | extract_lets | split | (intros; dsimp only))

theorem execRetireDie_form (x0 x1 x2) (s t : State) (h₀ : MediaForm (s.blk.at x0)) (h : execRetireDie x0 x1 x2 s = .next t) : MediaForm t.blk := by
  unfold execRetireDie State.command at h
  cases h
  generalize s.blk.at x0 = b at h₀ ⊢
  dsimp only
  repeat (first | with_reducible assumption | (with_reducible apply Blk.writeReq_form <;> [(intros; try dsimp only); skip]) | (with_reducible apply Blk.retireDie_form) | with_reducible apply form_ite | extract_lets | split | (intros; dsimp only))

theorem execRetireChannel_form (x0 x1 x2) (s t : State) (h₀ : MediaForm (s.blk.at x0)) (h : execRetireChannel x0 x1 x2 s = .next t) : MediaForm t.blk := by
  unfold execRetireChannel State.command at h
  cases h
  generalize s.blk.at x0 = b at h₀ ⊢
  dsimp only
  repeat (first | with_reducible assumption | (with_reducible apply Blk.writeReq_form <;> [(intros; try dsimp only); skip]) | (with_reducible apply Blk.retireChannel_form) | with_reducible apply form_ite | extract_lets | split | (intros; dsimp only))

theorem execPowerDownToStandby_form (x0 x1) (s t : State) (h₀ : MediaForm (s.blk.at x0)) (h : execPowerDownToStandby x0 x1 s = .next t) : MediaForm t.blk := by
  unfold execPowerDownToStandby State.command at h
  cases h
  generalize s.blk.at x0 = b at h₀ ⊢
  dsimp only
  repeat (first | with_reducible assumption | (with_reducible apply Blk.writeReq_form <;> [(intros; try dsimp only); skip]) | (with_reducible apply Blk.toStandby_form) | with_reducible apply form_ite | extract_lets | split | (intros; dsimp only))

theorem execIdataRead_form (x0 x1 x2) (s t : State) (h₀ : MediaForm (s.blk.at x0)) (h : execIdataRead x0 x1 x2 s = .next t) : MediaForm t.blk := by
  unfold execIdataRead State.command at h
  cases h
  generalize s.blk.at x0 = b at h₀ ⊢
  dsimp only
  repeat (first | with_reducible assumption | (with_reducible apply Blk.emit_form) | (with_reducible apply Blk.useFree_form) | (with_reducible apply Blk.onCtl_form) | (with_reducible apply Blk.ackPosted_form) | (with_reducible apply Blk.afterRead_form) | (with_reducible apply Blk.badRead_form) | with_reducible apply form_ite | extract_lets | split | (intros; dsimp only))

theorem execIdataWrite_form (x0 x1 x2 x3) (s t : State) (h₀ : MediaForm (s.blk.at x0)) (h : execIdataWrite x0 x1 x2 x3 s = .next t) : MediaForm t.blk := by
  unfold execIdataWrite State.command at h
  cases h
  generalize s.blk.at x0 = b at h₀ ⊢
  dsimp only
  repeat (first | with_reducible assumption | (with_reducible apply Blk.onCtl_form) | (with_reducible apply Blk.refuseWrite_form) | (with_reducible apply Blk.ackPosted_form) | with_reducible apply form_ite | extract_lets | split | (intros; dsimp only))

theorem execIndirectAcknowledge_form (x0 x1) (s t : State) (h₀ : MediaForm (s.blk.at x0)) (h : execIndirectAcknowledge x0 x1 s = .next t) : MediaForm t.blk := by
  unfold execIndirectAcknowledge State.command at h
  cases h
  generalize s.blk.at x0 = b at h₀ ⊢
  dsimp only
  repeat (first | with_reducible assumption | (with_reducible apply Blk.ackPosted_form) | with_reducible apply form_ite | extract_lets | split | (intros; dsimp only))

theorem execIndirectTimeout_form (x0 x1 x2) (s t : State) (h₀ : MediaForm (s.blk.at x0)) (h : execIndirectTimeout x0 x1 x2 s = .next t) : MediaForm t.blk := by
  unfold execIndirectTimeout State.command at h
  cases h
  generalize s.blk.at x0 = b at h₀ ⊢
  dsimp only
  repeat (first | with_reducible assumption | (with_reducible apply Blk.emit_form) | (with_reducible apply Blk.onCtl_form) | (with_reducible apply Blk.ackPosted_form) | (with_reducible apply Blk.afterRead_form) | with_reducible apply form_ite | extract_lets | split | (intros; dsimp only))

theorem execRegisterWrite_form (x0 x1 x2 x3 x4) (s t : State) (h₀ : MediaForm (s.blk.at x0)) (h : execRegisterWrite x0 x1 x2 x3 x4 s = .next t) : MediaForm t.blk := by
  unfold execRegisterWrite State.command at h
  cases h
  generalize s.blk.at x0 = b at h₀ ⊢
  dsimp only
  repeat (first | with_reducible assumption | (with_reducible apply Blk.ringHint_form) | (with_reducible apply Blk.onCtl_form) | (with_reducible apply Blk.ctlWord_form) | with_reducible apply form_ite | extract_lets | split | (intros; dsimp only))

theorem execSafeStopRelease_form (x0) (s t : State) (h₀ : MediaForm (s.blk.at x0)) (h : execSafeStopRelease x0 s = .next t) : MediaForm t.blk := by
  unfold execSafeStopRelease State.command at h
  cases h
  generalize s.blk.at x0 = b at h₀ ⊢
  dsimp only
  repeat (first | with_reducible assumption | (with_reducible apply Blk.onModes_form) | (with_reducible apply Blk.faultPin_form) | (with_reducible apply Blk.setConditions_form) | (with_reducible apply Blk.loseSwitched_form) | (with_reducible apply Blk.saveMedia_form) | (with_reducible apply Blk.takeDue_form <;> [(intros; try dsimp only); skip]) | with_reducible apply form_ite | extract_lets | split | (intros; dsimp only))

theorem execForcedPowerCutInput_form (x0) (s t : State) (h₀ : MediaForm (s.blk.at x0)) (h : execForcedPowerCutInput x0 s = .next t) : MediaForm t.blk := by
  unfold execForcedPowerCutInput State.command at h
  cases h
  generalize s.blk.at x0 = b at h₀ ⊢
  dsimp only
  repeat (first | with_reducible assumption | (with_reducible apply Blk.takeDue_form <;> [(intros; try dsimp only); skip]) | (with_reducible apply Blk.loseInput_form) | with_reducible apply form_ite | extract_lets | split | (intros; dsimp only))

theorem execForcedPowerCutRail_form (x0) (s t : State) (h₀ : MediaForm (s.blk.at x0)) (h : execForcedPowerCutRail x0 s = .next t) : MediaForm t.blk := by
  unfold execForcedPowerCutRail State.command at h
  cases h
  generalize s.blk.at x0 = b at h₀ ⊢
  dsimp only
  repeat (first | with_reducible assumption | (with_reducible apply Blk.allOff_form) | (with_reducible apply Blk.takeDue_form <;> [(intros; try dsimp only); skip]) | with_reducible apply form_ite | extract_lets | split | (intros; dsimp only))

theorem execHotEpochEnd_form (x0) (s t : State) (h₀ : MediaForm (s.blk.at x0)) (h : execHotEpochEnd x0 s = .next t) : MediaForm t.blk := by
  unfold execHotEpochEnd State.command at h
  cases h
  generalize s.blk.at x0 = b at h₀ ⊢
  dsimp only
  repeat (first | with_reducible assumption | (with_reducible apply Blk.onVelvet_form) | (with_reducible apply Blk.onTwill_form) | (with_reducible apply Blk.startDemotion_form) | (with_reducible apply Blk.startHomes_form) | (with_reducible apply Blk.drive_form) | (with_reducible apply Blk.heatRegions_form) | (with_reducible refine form_foldl (fun c x hc => ?_) _ _ ?_) | with_reducible apply form_ite | extract_lets | split | (intros; dsimp only))

theorem execDemotionCommit_form (x0 x1) (s t : State) (h₀ : MediaForm (s.blk.at x0)) (h : execDemotionCommit x0 x1 s = .next t) : MediaForm t.blk := by
  unfold execDemotionCommit State.command at h
  cases h
  generalize s.blk.at x0 = b at h₀ ⊢
  dsimp only
  repeat (first | with_reducible assumption | (with_reducible apply Blk.drive_form) | (with_reducible apply Blk.commitDemotion_form) | with_reducible apply form_ite | extract_lets | split | (intros; dsimp only))

theorem execJournalRecordIssue_form (x0 x1) (s t : State) (h₀ : MediaForm (s.blk.at x0)) (h : execJournalRecordIssue x0 x1 s = .next t) : MediaForm t.blk := by
  unfold execJournalRecordIssue State.command at h
  cases h
  generalize s.blk.at x0 = b at h₀ ⊢
  dsimp only
  repeat (first | with_reducible assumption | (with_reducible apply Blk.metaFail_form) | (with_reducible refine form_foldl (fun c x hc => ?_) _ _ ?_) | (with_reducible apply Blk.retireWaiting_form) | (with_reducible apply Blk.startHomes_form) | (with_reducible apply Blk.drive_form) | (with_reducible apply Blk.issueDemotions_form) | (with_reducible apply Blk.issueFreed_form) | with_reducible apply form_ite | extract_lets | split | (intros; dsimp only))

theorem execGarbageCollection_form (x0 x1) (s t : State) (h₀ : MediaForm (s.blk.at x0)) (h : execGarbageCollection x0 x1 s = .next t) : MediaForm t.blk := by
  unfold execGarbageCollection State.command at h
  cases h
  generalize s.blk.at x0 = b at h₀ ⊢
  dsimp only
  repeat (first | with_reducible assumption | (with_reducible apply Blk.drive_form) | (with_reducible apply Blk.collectRows_form) | (with_reducible apply Blk.takeRow_form) | with_reducible apply form_ite | extract_lets | split | (intros; dsimp only))

theorem execWearIncrement_form (x0 x1) (s t : State) (h₀ : MediaForm (s.blk.at x0)) (h : execWearIncrement x0 x1 s = .next t) : MediaForm t.blk := by
  unfold execWearIncrement State.command at h
  cases h
  generalize s.blk.at x0 = b at h₀ ⊢
  dsimp only
  repeat (first | with_reducible assumption | (with_reducible apply Blk.onTwill_form) | (with_reducible apply Blk.lifeCheck_form) | (with_reducible apply Blk.wearUp_form) | (with_reducible apply Blk.retireWaiting_form) | (with_reducible apply Blk.drive_form) | with_reducible apply form_ite | extract_lets | split | (intros; dsimp only))

theorem execTrackerFold_form (x0 x1) (s t : State) (h₀ : MediaForm (s.blk.at x0)) (h : execTrackerFold x0 x1 s = .next t) : MediaForm t.blk := by
  unfold execTrackerFold State.command at h
  cases h
  generalize s.blk.at x0 = b at h₀ ⊢
  dsimp only
  repeat (first | with_reducible assumption | (with_reducible apply Blk.lifeCheck_form) | (with_reducible apply Blk.foldCount_form) | (with_reducible apply Blk.retireWaiting_form) | (with_reducible apply Blk.drive_form) | with_reducible apply form_ite | extract_lets | split | (intros; dsimp only))

theorem execRotationPassEnd_form (x0 x1) (s t : State) (h₀ : MediaForm (s.blk.at x0)) (h : execRotationPassEnd x0 x1 s = .next t) : MediaForm t.blk := by
  unfold execRotationPassEnd State.command at h
  cases h
  generalize s.blk.at x0 = b at h₀ ⊢
  dsimp only
  repeat (first | with_reducible assumption | (with_reducible apply Blk.endPass_form) | (with_reducible apply Blk.drive_form) | with_reducible apply form_ite | extract_lets | split | (intros; dsimp only))

theorem execMigrationStart_form (x0 x1) (s t : State) (h₀ : MediaForm (s.blk.at x0)) (h : execMigrationStart x0 x1 s = .next t) : MediaForm t.blk := by
  unfold execMigrationStart State.command at h
  cases h
  generalize s.blk.at x0 = b at h₀ ⊢
  dsimp only
  repeat (first | with_reducible assumption | (with_reducible apply Blk.useFree_form) | (with_reducible apply Blk.widen_form) | (with_reducible apply Blk.beginMigration_form) | (with_reducible apply Blk.drive_form) | with_reducible apply form_ite | extract_lets | split | (intros; dsimp only))

theorem execMigrationEnd_form (x0 x1) (s t : State) (h₀ : MediaForm (s.blk.at x0)) (h : execMigrationEnd x0 x1 s = .next t) : MediaForm t.blk := by
  unfold execMigrationEnd State.command at h
  cases h
  generalize s.blk.at x0 = b at h₀ ⊢
  dsimp only
  repeat (first | with_reducible assumption | (with_reducible apply Blk.startHomes_form) | (with_reducible apply Blk.endMigration_form) | (with_reducible apply Blk.drive_form) | with_reducible apply form_ite | extract_lets | split | (intros; dsimp only))

theorem execColdSwapCheck_form (x0) (s t : State) (h₀ : MediaForm (s.blk.at x0)) (h : execColdSwapCheck x0 s = .next t) : MediaForm t.blk := by
  unfold execColdSwapCheck State.command at h
  cases h
  generalize s.blk.at x0 = b at h₀ ⊢
  dsimp only
  repeat (first | with_reducible assumption | (with_reducible apply Blk.drive_form) | (with_reducible apply Blk.coldSwap_form) | with_reducible apply form_ite | extract_lets | split | (intros; dsimp only))

theorem execRefreshRegion_form (x0) (s t : State) (h₀ : MediaForm (s.blk.at x0)) (h : execRefreshRegion x0 s = .next t) : MediaForm t.blk := by
  unfold execRefreshRegion State.command at h
  cases h
  generalize s.blk.at x0 = b at h₀ ⊢
  dsimp only
  repeat (first | with_reducible assumption | (with_reducible apply Blk.onTwill_form) | (with_reducible apply Blk.drive_form) | (with_reducible apply Blk.startRefresh_form) | with_reducible apply form_ite | extract_lets | split | (intros; dsimp only))

theorem execCheckpointStart_form (x0 x1) (s t : State) (h₀ : MediaForm (s.blk.at x0)) (h : execCheckpointStart x0 x1 s = .next t) : MediaForm t.blk := by
  unfold execCheckpointStart State.command at h
  cases h
  generalize s.blk.at x0 = b at h₀ ⊢
  dsimp only
  repeat (first | with_reducible assumption | (with_reducible apply Blk.onTwill_form) | (with_reducible apply Blk.drive_form) | (with_reducible apply Blk.beginCheckpoint_form) | with_reducible apply form_ite | extract_lets | split | (intros; dsimp only))

theorem execCheckpointCommit_form (x0 x1) (s t : State) (h₀ : MediaForm (s.blk.at x0)) (h : execCheckpointCommit x0 x1 s = .next t) : MediaForm t.blk := by
  unfold execCheckpointCommit State.command at h
  cases h
  generalize s.blk.at x0 = b at h₀ ⊢
  dsimp only
  repeat (first | with_reducible assumption | (with_reducible apply Blk.metaFail_form) | (with_reducible refine form_foldl (fun c x hc => ?_) _ _ ?_) | (with_reducible apply Blk.retireWaiting_form) | (with_reducible apply Blk.drive_form) | (with_reducible apply Blk.beginCheckpoint_form) | (with_reducible apply Blk.commitCheckpoint_form) | with_reducible apply form_ite | extract_lets | split | (intros; dsimp only))

theorem execResync_form (x0 x1) (s t : State) (h₀ : MediaForm (s.blk.at x0)) (h : execResync x0 x1 s = .next t) : MediaForm t.blk := by
  unfold execResync State.command at h
  cases h
  generalize s.blk.at x0 = b at h₀ ⊢
  dsimp only
  repeat (first | with_reducible assumption | (with_reducible apply Blk.onTwill_form) | (with_reducible apply Blk.drive_form) | with_reducible apply form_ite | extract_lets | split | (intros; dsimp only))

theorem execWeakLineRewrite_form (x0) (s t : State) (h₀ : MediaForm (s.blk.at x0)) (h : execWeakLineRewrite x0 s = .next t) : MediaForm t.blk := by
  unfold execWeakLineRewrite State.command at h
  cases h
  generalize s.blk.at x0 = b at h₀ ⊢
  dsimp only
  repeat (first | with_reducible assumption | (with_reducible apply onMedia_form <;> [(intro; rfl); skip]) | (with_reducible apply Blk.startJob_form) | (with_reducible apply Blk.drive_form) | with_reducible apply form_ite | extract_lets | split | (intros; dsimp only))

theorem execTerryStripeRead_form (x0 x1) (s t : State) (h₀ : MediaForm (s.blk.at x0)) (h : execTerryStripeRead x0 x1 s = .next t) : MediaForm t.blk := by
  unfold execTerryStripeRead State.command at h
  cases h
  generalize s.blk.at x0 = b at h₀ ⊢
  dsimp only
  repeat (first | with_reducible assumption | (with_reducible apply Blk.onMedia_lap) | (with_reducible apply Blk.drive_form) | (with_reducible apply Blk.lapRead_form) | (with_reducible apply Blk.scanNext_form) | with_reducible apply form_ite | extract_lets | split | (intros; dsimp only))

theorem execSramScrub_form (x0 x1 x2 x3 x4) (s t : State) (h₀ : MediaForm (s.blk.at x0)) (h : execSramScrub x0 x1 x2 x3 x4 s = .next t) : MediaForm t.blk := by
  unfold execSramScrub State.command at h
  cases h
  generalize s.blk.at x0 = b at h₀ ⊢
  dsimp only
  repeat (first | with_reducible assumption | (with_reducible apply Blk.sramRead_form) | (with_reducible apply Blk.scrubWord_form) | with_reducible apply form_ite | extract_lets | split | (intros; dsimp only))

theorem execMarginEvaluation_form (x0) (s t : State) (h₀ : MediaForm (s.blk.at x0)) (h : execMarginEvaluation x0 s = .next t) : MediaForm t.blk := by
  unfold execMarginEvaluation State.command at h
  cases h
  generalize s.blk.at x0 = b at h₀ ⊢
  dsimp only
  repeat (first | with_reducible assumption | (with_reducible apply Blk.onGauze_form) | (with_reducible apply Blk.drive_form) | (with_reducible apply Blk.evaluateArea_form) | (with_reducible apply Blk.beginEvaluation_form) | with_reducible apply form_ite | extract_lets | split | (intros; dsimp only))

theorem execGauzeSnapshot_form (x0 x1) (s t : State) (h₀ : MediaForm (s.blk.at x0)) (h : execGauzeSnapshot x0 x1 s = .next t) : MediaForm t.blk := by
  unfold execGauzeSnapshot State.command at h
  cases h
  generalize s.blk.at x0 = b at h₀ ⊢
  dsimp only
  repeat (first | with_reducible assumption | (with_reducible apply Blk.metaFail_form) | (with_reducible refine form_foldl (fun c x hc => ?_) _ _ ?_) | (with_reducible apply Blk.snapshot_form) | with_reducible apply form_ite | extract_lets | split | (intros; dsimp only))

theorem execTagWriteback_form (x0) (s t : State) (h₀ : MediaForm (s.blk.at x0)) (h : execTagWriteback x0 s = .next t) : MediaForm t.blk := by
  unfold execTagWriteback State.command at h
  cases h
  generalize s.blk.at x0 = b at h₀ ⊢
  dsimp only
  repeat (first | with_reducible assumption | (with_reducible apply Blk.startTag_form) | (with_reducible apply Blk.drive_form) | (with_reducible refine form_foldl (fun c x hc => ?_) _ _ ?_) | with_reducible apply form_ite | extract_lets | split | (intros; dsimp only))

theorem execRekeyPass_form (x0 x1) (s t : State) (h₀ : MediaForm (s.blk.at x0)) (h : execRekeyPass x0 x1 s = .next t) : MediaForm t.blk := by
  unfold execRekeyPass State.command at h
  cases h
  generalize s.blk.at x0 = b at h₀ ⊢
  dsimp only
  repeat (first | with_reducible assumption | (with_reducible apply Blk.onDamask_form) | (with_reducible apply Blk.rekeyGroup_form) | (with_reducible apply Blk.pinGroups_form) | with_reducible apply form_ite | extract_lets | split | (intros; dsimp only))

theorem execAlertService_form (x0 x1 x2) (s t : State) (h₀ : MediaForm (s.blk.at x0)) (h : execAlertService x0 x1 x2 s = .next t) : MediaForm t.blk := by
  unfold execAlertService State.command at h
  cases h
  generalize s.blk.at x0 = b at h₀ ⊢
  dsimp only
  repeat (first | with_reducible assumption | (with_reducible apply Blk.bump_form) | (with_reducible apply Blk.sendDie_form) | (with_reducible apply Blk.serveDie_form) | (with_reducible refine form_foldl (fun c x hc => ?_) _ _ ?_) | with_reducible apply form_ite | extract_lets | split | (intros; dsimp only))

theorem execChannelTraining_form (x0 x1) (s t : State) (h₀ : MediaForm (s.blk.at x0)) (h : execChannelTraining x0 x1 s = .next t) : MediaForm t.blk := by
  unfold execChannelTraining State.command at h
  cases h
  generalize s.blk.at x0 = b at h₀ ⊢
  dsimp only
  repeat (first | with_reducible assumption | (with_reducible apply onMedia_form <;> [(intro; rfl); skip]) | (with_reducible apply Blk.onModes_form) | (with_reducible apply Blk.report_form) | (with_reducible apply Blk.channelFail_form) | (with_reducible apply Blk.findDies_form) | (with_reducible apply Blk.channelTrained_form) | (with_reducible refine form_foldl (fun c x hc => ?_) _ _ ?_) | with_reducible apply form_ite | extract_lets | split | (intros; dsimp only))

theorem execChannelRetrain_form (x0 x1) (s t : State) (h₀ : MediaForm (s.blk.at x0)) (h : execChannelRetrain x0 x1 s = .next t) : MediaForm t.blk := by
  unfold execChannelRetrain State.command at h
  cases h
  generalize s.blk.at x0 = b at h₀ ⊢
  dsimp only
  repeat (first | with_reducible assumption | (with_reducible apply Blk.bump32_form) | (with_reducible apply Blk.onChan_form) | (with_reducible apply Blk.reportUnit_form) | (with_reducible apply Blk.rerouteDie_form) | (with_reducible refine form_foldl (fun c x hc => ?_) _ _ ?_) | with_reducible apply form_ite | extract_lets | split | (intros; dsimp only))

theorem execRst_form (x0 x1 x2) (s t : State) (h₀ : MediaForm (s.blk.at x0)) (h : execRst x0 x1 x2 s = .next t) : MediaForm t.blk := by
  unfold execRst State.command at h
  cases h
  generalize s.blk.at x0 = b at h₀ ⊢
  dsimp only
  repeat (first | with_reducible assumption | (with_reducible apply Blk.onDie_form) | (with_reducible apply Blk.sendTo_form) | (with_reducible apply Blk.resetParts_form) | (with_reducible refine form_foldl (fun c x hc => ?_) _ _ ?_) | with_reducible apply form_ite | extract_lets | split | (intros; dsimp only))

theorem execRebuildPosition_form (x0) (s t : State) (h₀ : MediaForm (s.blk.at x0)) (h : execRebuildPosition x0 s = .next t) : MediaForm t.blk := by
  unfold execRebuildPosition State.command at h
  cases h
  generalize s.blk.at x0 = b at h₀ ⊢
  dsimp only
  repeat (first | with_reducible assumption | (with_reducible apply Blk.onTwill_form) | (with_reducible apply Blk.onSafety_form) | (with_reducible apply Blk.useFree_form) | (with_reducible apply Blk.lifeCheck_form) | (with_reducible apply Blk.journalRec_form) | (with_reducible apply Blk.rebuildOver_form) | (with_reducible apply Blk.drive_form) | with_reducible apply form_ite | extract_lets | split | (intros; dsimp only))

theorem execReplacementCopyBack_form (x0 x1) (s t : State) (h₀ : MediaForm (s.blk.at x0)) (h : execReplacementCopyBack x0 x1 s = .next t) : MediaForm t.blk := by
  unfold execReplacementCopyBack State.command at h
  cases h
  generalize s.blk.at x0 = b at h₀ ⊢
  dsimp only
  repeat (first | with_reducible assumption | (with_reducible apply Blk.onSafety_form) | (with_reducible apply Blk.drive_form) | with_reducible apply form_ite | extract_lets | split | (intros; dsimp only))

theorem execEngineHeartbeatMiss_form (x0 x1) (s t : State) (h₀ : MediaForm (s.blk.at x0)) (h : execEngineHeartbeatMiss x0 x1 s = .next t) : MediaForm t.blk := by
  unfold execEngineHeartbeatMiss State.command at h
  cases h
  generalize s.blk.at x0 = b at h₀ ⊢
  dsimp only
  repeat (first | with_reducible assumption | (with_reducible apply Blk.bump_form) | (with_reducible apply Blk.engineFail_form) | with_reducible apply form_ite | extract_lets | split | (intros; dsimp only))

theorem execTakeoverComplete_form (x0 x1) (s t : State) (h₀ : MediaForm (s.blk.at x0)) (h : execTakeoverComplete x0 x1 s = .next t) : MediaForm t.blk := by
  unfold execTakeoverComplete State.command at h
  cases h
  generalize s.blk.at x0 = b at h₀ ⊢
  dsimp only
  repeat (first | with_reducible assumption | (with_reducible apply Blk.onEngine_form) | (with_reducible apply Blk.drive_form) | (with_reducible apply Blk.payOwed_form) | with_reducible apply form_ite | extract_lets | split | (intros; dsimp only))

theorem execBankFailoverComplete_form (x0) (s t : State) (h₀ : MediaForm (s.blk.at x0)) (h : execBankFailoverComplete x0 s = .next t) : MediaForm t.blk := by
  unfold execBankFailoverComplete State.command at h
  cases h
  generalize s.blk.at x0 = b at h₀ ⊢
  dsimp only
  repeat (first | with_reducible assumption | (with_reducible apply Blk.onSafety_form) | (with_reducible apply Blk.reportUnit_form) | (with_reducible apply Blk.degrade_form) | (with_reducible apply Blk.onBank_form) | (with_reducible apply Blk.bankFail_form) | with_reducible apply form_ite | extract_lets | split | (intros; dsimp only))

theorem execSelfTest_form (x0 x1) (s t : State) (h₀ : MediaForm (s.blk.at x0)) (h : execSelfTest x0 x1 s = .next t) : MediaForm t.blk := by
  unfold execSelfTest State.command at h
  cases h
  generalize s.blk.at x0 = b at h₀ ⊢
  dsimp only
  repeat (first | with_reducible assumption | (with_reducible apply Blk.onSafety_form) | (with_reducible apply Blk.odSet_form) | (with_reducible apply Blk.checkerFailed_form) | (with_reducible refine form_foldl (fun c x hc => ?_) _ _ ?_) | with_reducible apply form_ite | extract_lets | split | (intros; dsimp only))

theorem execSafeStopEntry_form (x0) (s t : State) (h₀ : MediaForm (s.blk.at x0)) (h : execSafeStopEntry x0 s = .next t) : MediaForm t.blk := by
  unfold execSafeStopEntry State.command at h
  cases h
  generalize s.blk.at x0 = b at h₀ ⊢
  dsimp only
  repeat (first | with_reducible assumption | (with_reducible apply Blk.onModes_form) | (with_reducible apply Blk.bump_form) | (with_reducible apply Blk.report_form) | (with_reducible apply Blk.enter_form) | (with_reducible apply Blk.healthCheck_form) | (with_reducible apply Blk.endPrograms_form) | (with_reducible apply Blk.resumeAll_form) | (with_reducible apply Blk.ringNewest_form) | with_reducible apply form_ite | extract_lets | split | (intros; dsimp only))

theorem execResidentRailFall_form (x0) (s t : State) (h₀ : MediaForm (s.blk.at x0)) (h : execResidentRailFall x0 s = .next t) : MediaForm t.blk := by
  unfold execResidentRailFall State.command at h
  cases h
  generalize s.blk.at x0 = b at h₀ ⊢
  dsimp only
  repeat (first | with_reducible assumption | (with_reducible apply Blk.onFelt_form) | (with_reducible apply Blk.tearPrograms_form) | (with_reducible apply Blk.dark_form) | with_reducible apply form_ite | extract_lets | split | (intros; dsimp only))

theorem execInputPowerLoss_form (x0) (s t : State) (h₀ : MediaForm (s.blk.at x0)) (h : execInputPowerLoss x0 s = .next t) : MediaForm t.blk := by
  unfold execInputPowerLoss State.command at h
  cases h
  generalize s.blk.at x0 = b at h₀ ⊢
  dsimp only
  repeat (first | with_reducible assumption | (with_reducible apply Blk.onModes_form) | (with_reducible apply Blk.abandonTest_form) | (with_reducible apply Blk.loseInput_form) | with_reducible apply form_ite | extract_lets | split | (intros; dsimp only))

theorem execFlushEnd_form (x0 x1) (s t : State) (h₀ : MediaForm (s.blk.at x0)) (h : execFlushEnd x0 x1 s = .next t) : MediaForm t.blk := by
  unfold execFlushEnd State.command at h
  cases h
  generalize s.blk.at x0 = b at h₀ ⊢
  dsimp only
  repeat (first | with_reducible assumption | (with_reducible apply Blk.endFlush_form) | (with_reducible apply Blk.flushCheck_form) | (with_reducible refine form_foldl (fun c x hc => ?_) _ _ ?_) | with_reducible apply form_ite | extract_lets | split | (intros; dsimp only))

theorem execPseqPgChange_form (x0 x1 x2 x3) (s t : State) (h₀ : MediaForm (s.blk.at x0)) (h : execPseqPgChange x0 x1 x2 x3 s = .next t) : MediaForm t.blk := by
  unfold execPseqPgChange State.command at h
  cases h
  generalize s.blk.at x0 = b at h₀ ⊢
  dsimp only
  repeat (first | with_reducible assumption | (with_reducible apply Blk.onSlot_form) | (with_reducible apply Blk.stepChange_form) | with_reducible apply form_ite | extract_lets | split | (intros; dsimp only))

theorem execSlotQualifyTimeout_form (x0 x1) (s t : State) (h₀ : MediaForm (s.blk.at x0)) (h : execSlotQualifyTimeout x0 x1 s = .next t) : MediaForm t.blk := by
  unfold execSlotQualifyTimeout State.command at h
  cases h
  generalize s.blk.at x0 = b at h₀ ⊢
  dsimp only
  repeat (first | with_reducible assumption | (with_reducible apply Blk.onSlot_form) | (with_reducible apply Blk.powerDown_form) | (with_reducible apply Blk.chatter_form) | with_reducible apply form_ite | extract_lets | split | (intros; dsimp only))

theorem execRailFault_form (x0 x1 x2 x3) (s t : State) (h₀ : MediaForm (s.blk.at x0)) (h : execRailFault x0 x1 x2 x3 s = .next t) : MediaForm t.blk := by
  unfold execRailFault State.command at h
  cases h
  generalize s.blk.at x0 = b at h₀ ⊢
  dsimp only
  repeat (first | with_reducible assumption | (with_reducible apply Blk.bump_form) | (with_reducible apply Blk.detect_form) | (with_reducible apply Blk.onSlot_form) | (with_reducible apply Blk.allOff_form) | (with_reducible apply Blk.secondFault_form) | with_reducible apply form_ite | extract_lets | split | (intros; dsimp only))

theorem execHuSenseSample_form (x0 x1) (s t : State) (h₀ : MediaForm (s.blk.at x0)) (h : execHuSenseSample x0 x1 s = .next t) : MediaForm t.blk := by
  unfold execHuSenseSample State.command at h
  cases h
  generalize s.blk.at x0 = b at h₀ ⊢
  dsimp only
  repeat (first | with_reducible assumption | (with_reducible apply Blk.onCanvas_form) | (with_reducible apply Blk.reportEnergy_form) | with_reducible apply form_ite | extract_lets | split | (intros; dsimp only))

theorem execHoldupReport_form (x0) (s t : State) (h₀ : MediaForm (s.blk.at x0)) (h : execHoldupReport x0 s = .next t) : MediaForm t.blk := by
  unfold execHoldupReport State.command at h
  cases h
  generalize s.blk.at x0 = b at h₀ ⊢
  dsimp only
  repeat (first | with_reducible assumption | (with_reducible apply Blk.reportEnergy_form) | with_reducible apply form_ite | extract_lets | split | (intros; dsimp only))

theorem execWriteBackReturn_form (x0) (s t : State) (h₀ : MediaForm (s.blk.at x0)) (h : execWriteBackReturn x0 s = .next t) : MediaForm t.blk := by
  unfold execWriteBackReturn State.command at h
  cases h
  generalize s.blk.at x0 = b at h₀ ⊢
  dsimp only
  repeat (first | with_reducible assumption | (with_reducible apply Blk.applyMode_form) | with_reducible apply form_ite | extract_lets | split | (intros; dsimp only))

theorem execHealthTestEnd_form (x0 x1 x2) (s t : State) (h₀ : MediaForm (s.blk.at x0)) (h : execHealthTestEnd x0 x1 x2 s = .next t) : MediaForm t.blk := by
  unfold execHealthTestEnd State.command at h
  cases h
  generalize s.blk.at x0 = b at h₀ ⊢
  dsimp only
  repeat (first | with_reducible assumption | (with_reducible apply Blk.useFree_form) | (with_reducible apply Blk.healthCheck_form) | (with_reducible apply Blk.reportEnergy_form) | (with_reducible apply Blk.testResult_form) | with_reducible apply form_ite | extract_lets | split | (intros; dsimp only))

theorem execBindingCheck_form (x0 x1) (s t : State) (h₀ : MediaForm (s.blk.at x0)) (h : execBindingCheck x0 x1 s = .next t) : MediaForm t.blk := by
  unfold execBindingCheck State.command at h
  cases h
  generalize s.blk.at x0 = b at h₀ ⊢
  dsimp only
  repeat (first | with_reducible assumption | (with_reducible apply Blk.onDamask_form) | (with_reducible apply Blk.setConditions_form) | (with_reducible apply Blk.readIds_form) | (with_reducible apply Blk.ownMedia_form) | (with_reducible apply Blk.firstProvision_form) | (with_reducible apply Blk.heldMedia_form) | with_reducible apply form_ite | extract_lets | split | (intros; dsimp only))

theorem execMapRebuild_form (x0 x1) (s t : State) (h₀ : MediaForm (s.blk.at x0)) (h : execMapRebuild x0 x1 s = .next t) : MediaForm t.blk := by
  unfold execMapRebuild State.command at h
  cases h
  generalize s.blk.at x0 = b at h₀ ⊢
  dsimp only
  repeat (first | with_reducible assumption | (with_reducible apply Blk.onModes_form) | (with_reducible apply Blk.odSet_form) | (with_reducible apply Blk.loadSnapshot_form) | (with_reducible apply Blk.loadMap_form) | (with_reducible apply Blk.mapReady_form) | with_reducible apply form_ite | extract_lets | split | (intros; dsimp only))

theorem execMemoryActive_form (x0) (s t : State) (h₀ : MediaForm (s.blk.at x0)) (h : execMemoryActive x0 s = .next t) : MediaForm t.blk := by
  unfold execMemoryActive State.command at h
  cases h
  generalize s.blk.at x0 = b at h₀ ⊢
  dsimp only
  repeat (first | with_reducible assumption | (with_reducible apply Blk.activate_form) | with_reducible apply form_ite | extract_lets | split | (intros; dsimp only))

theorem execHoldupReportTimeout_form (x0) (s t : State) (h₀ : MediaForm (s.blk.at x0)) (h : execHoldupReportTimeout x0 s = .next t) : MediaForm t.blk := by
  unfold execHoldupReportTimeout State.command at h
  cases h
  generalize s.blk.at x0 = b at h₀ ⊢
  dsimp only
  repeat (first | with_reducible assumption | (with_reducible apply Blk.report_form) | (with_reducible apply Blk.activate_form) | with_reducible apply form_ite | extract_lets | split | (intros; dsimp only))

theorem execDeepSleepEntry_form (x0) (s t : State) (h₀ : MediaForm (s.blk.at x0)) (h : execDeepSleepEntry x0 s = .next t) : MediaForm t.blk := by
  unfold execDeepSleepEntry State.command at h
  cases h
  generalize s.blk.at x0 = b at h₀ ⊢
  dsimp only
  repeat (first | with_reducible assumption | (with_reducible apply Blk.enter_form) | (with_reducible apply Blk.fallAsleep_form) | with_reducible apply form_ite | extract_lets | split | (intros; dsimp only))

theorem execRefclkLost_form (x0 x1) (s t : State) (h₀ : MediaForm (s.blk.at x0)) (h : execRefclkLost x0 x1 s = .next t) : MediaForm t.blk := by
  unfold execRefclkLost State.command at h
  cases h
  generalize s.blk.at x0 = b at h₀ ⊢
  dsimp only
  repeat (first | with_reducible assumption | (with_reducible refine keep_form (Blk.forcedSwitches_only (m₀ := [.out, .od, .hA, .hB, .can, .linen, .tweed]) _ _ (by decide) (only_refl _ _)) (by decide) ?_) | (with_reducible apply Blk.onClocks_form) | (with_reducible apply Blk.bump_form) | (with_reducible apply Blk.report_form) | (with_reducible apply Blk.detect_form) | (with_reducible apply Blk.linkFalls_form) | (with_reducible apply Blk.clockFailure_form) | with_reducible apply form_ite | extract_lets | split | (intros; dsimp only))

theorem execPllJudgeWindow_form (x0 x1 x2 x3) (s t : State) (h₀ : MediaForm (s.blk.at x0)) (h : execPllJudgeWindow x0 x1 x2 x3 s = .next t) : MediaForm t.blk := by
  unfold execPllJudgeWindow State.command at h
  cases h
  generalize s.blk.at x0 = b at h₀ ⊢
  dsimp only
  repeat (first | with_reducible assumption | (with_reducible apply Blk.onClocks_form) | (with_reducible apply Blk.autoReturn_form) | (with_reducible apply Blk.pllFail_form) | with_reducible apply form_ite | extract_lets | split | (intros; dsimp only))

theorem execChannelRetrainEnd_form (x0 x1 x2 x3) (s t : State) (h₀ : MediaForm (s.blk.at x0)) (h : execChannelRetrainEnd x0 x1 x2 x3 s = .next t) : MediaForm t.blk := by
  unfold execChannelRetrainEnd State.command at h
  cases h
  generalize s.blk.at x0 = b at h₀ ⊢
  dsimp only
  repeat (first | with_reducible assumption | (with_reducible apply Blk.onChan_form) | (with_reducible apply Blk.channelFail_form) | (with_reducible apply Blk.trainDie_form) | (with_reducible apply Blk.channelBack_form) | (with_reducible apply Blk.fullTraining_form) | (with_reducible refine form_foldl (fun c x hc => ?_) _ _ ?_) | with_reducible apply form_ite | extract_lets | split | (intros; dsimp only))

end Sys2Proof.Machine
end

