-- ==== Sys2Proof/Laws/KeptPin.lean ====
section
/-! SUPPORT. FAULT_N follows the mode and the clocks: one lemma for each operation and each command that changes them. -/

set_option linter.all false
set_option Elab.async false

namespace Sys2Proof.Machine

open Sys2Proof.Safety

theorem keep_pin {l : List Part} {b c : Blk} (h : Only l b c) (hl : Part.modes ∉ l ∧ Part.clocks ∉ l) (hb : FaultPinRight b) : FaultPinRight c := by
  unfold FaultPinRight at *
  have h1 := h.same _ hl.1
  have h2 := h.same _ hl.2
  simp only [same] at h1 h2
  rw [h1, h2]; exact hb

theorem pin_foldl {α : Type} {f : Blk → α → Blk} (hf : ∀ c x, FaultPinRight c → FaultPinRight (f c x)) (l : List α) (b : Blk) (hb : FaultPinRight b) : FaultPinRight (l.foldl f b) := by
  induction l generalizing b with
  | nil => exact hb
  | cons x l ih => exact ih _ (hf _ _ hb)

theorem pin_ite {p : Prop} [Decidable p] {b c : Blk} (hb : FaultPinRight b) (hc : FaultPinRight c) : FaultPinRight (if p then b else c) := by
  split <;> assumption

theorem pin_ite_fst {α : Type} {p : Prop} [Decidable p] {b c : Blk × α} (hb : FaultPinRight b.1) (hc : FaultPinRight c.1) : FaultPinRight (if p then b else c).1 := by
  split <;> assumption

theorem onModes_pin {b : Blk} {f : Modes → Modes} (hf : ∀ m, (f m).cond = m.cond ∧ (f m).faultN = m.faultN) (hb : FaultPinRight b) : FaultPinRight (b.onModes f) := by
  unfold FaultPinRight at *; simp only [Blk.onModes_modes, Blk.onModes_clocks, (hf _).1, (hf _).2]; exact hb

theorem onClocks_pin {b : Blk} {f : Clocks → Clocks} (hf : ∀ c, (f c).failed = c.failed) (hb : FaultPinRight b) : FaultPinRight (b.onClocks f) := by
  unfold FaultPinRight at *; simp only [Blk.onClocks_modes, Blk.onClocks_clocks, hf]; exact hb

theorem pinSet (b : Blk) : FaultPinRight b.faultPin := rfl

theorem onPll_failed (c : Clocks) (p : Pll) (f : PllSt → PllSt) : (c.onPll p f).failed = c.failed := by cases p <;> rfl

theorem fallBack_failed (c : Clocks) : c.fallBack.failed = c.failed := by unfold Clocks.fallBack; (try extract_lets); (repeat split) <;> rfl

theorem onMedia_pin {b : Blk} {f : Media → Media} (_hf : ∀ m : Media, m = m) (hb : FaultPinRight b) : FaultPinRight (b.onMedia f) := hb

theorem pin_foldl_pair {α β : Type} {f : Blk × β → α → Blk × β} (hf : ∀ c x, FaultPinRight c.1 → FaultPinRight (f c x).1) (l : List α) (c : Blk × β) (hc : FaultPinRight c.1) : FaultPinRight (l.foldl f c).1 := by
  induction l generalizing c with
  | nil => exact hc
  | cons x l ih => exact ih _ (hf _ _ hc)

theorem Blk.faultPin_pin (b : Blk) (h₀ : FaultPinRight b) : FaultPinRight (Blk.faultPin b) := by
  exact pinSet b

theorem Blk.onMuslin_pin (b : Blk) (f : Muslin → Muslin) (h₀ : FaultPinRight b) : FaultPinRight (Blk.onMuslin b f) :=
  keep_pin (Blk.onMuslin_only (m₀ := [.muslin]) b f (by decide) (only_refl _ _)) (by decide) h₀

theorem Blk.report_pin (b : Blk) (q : Report) (h₀ : FaultPinRight b) : FaultPinRight (Blk.report b q) :=
  keep_pin (Blk.report_only (m₀ := [.out, .od, .hA, .hB, .can, .linen]) b q (by decide) (only_refl _ _)) (by decide) h₀

theorem Blk.pushPacket_pin (b : Blk) (type source : Nat) (items : List (BitVec 32)) (h₀ : FaultPinRight b) : FaultPinRight (Blk.pushPacket b type source items) :=
  keep_pin (Blk.pushPacket_only (m₀ := [.out, .od, .hA, .hB, .can, .linen, .tweed]) b type source items (by decide) (only_refl _ _)) (by decide) h₀

theorem Blk.discardStaged_pin (b : Blk) (result rule : Nat) (h₀ : FaultPinRight b) : FaultPinRight (Blk.discardStaged b result rule) :=
  keep_pin (Blk.discardStaged_only (m₀ := [.out, .od, .muslin, .can]) b result rule (by decide) (only_refl _ _)) (by decide) h₀

theorem Blk.gateCount_pin (b : Blk) (old new : Nat) (h₀ : FaultPinRight b) : FaultPinRight (Blk.gateCount b old new) :=
  keep_pin (Blk.gateCount_only (m₀ := [.od]) b old new (by decide) (only_refl _ _)) (by decide) h₀

theorem Blk.setConditions_pin (b : Blk) (f : BitVec 12 → BitVec 12) : FaultPinRight (b.setConditions f) := by
  unfold Blk.setConditions
  extract_lets c new b1
  have h1 : FaultPinRight b1 := rfl
  clear_value b1
  repeat (first | with_reducible assumption | (with_reducible apply pinSet) | (with_reducible refine onModes_pin (fun _ => ⟨rfl, rfl⟩) ?_) | (with_reducible apply Blk.onMuslin_pin) | (with_reducible apply Blk.report_pin) | (with_reducible apply Blk.pushPacket_pin) | (with_reducible apply Blk.discardStaged_pin) | (with_reducible apply Blk.gateCount_pin) | (with_reducible apply Blk.faultPin_pin) | with_reducible apply pin_ite | extract_lets)

theorem Blk.enter_pin (b : Blk) (n : Nat) (h₀ : FaultPinRight b) : FaultPinRight (Blk.enter b n) := by
  unfold Blk.enter
  repeat (first | with_reducible assumption | (with_reducible apply Blk.setConditions_pin) | (with_reducible apply Blk.setConditions_pin))

theorem Blk.leave_pin (b : Blk) (n : Nat) (h₀ : FaultPinRight b) : FaultPinRight (Blk.leave b n) := by
  unfold Blk.leave
  repeat (first | with_reducible assumption | (with_reducible apply Blk.setConditions_pin) | (with_reducible apply Blk.setConditions_pin))

theorem Blk.degrade_pin (b : Blk) (bit : Nat) (on : Bool) (h₀ : FaultPinRight b) : FaultPinRight (Blk.degrade b bit on) := by
  unfold Blk.degrade
  repeat (first | with_reducible assumption | (with_reducible refine onModes_pin (fun _ => ⟨rfl, rfl⟩) ?_) | (with_reducible apply Blk.enter_pin) | (with_reducible apply Blk.leave_pin) | with_reducible apply pin_ite | extract_lets | (dsimp +zetaDelta only))

theorem Blk.onTwill_pin (b : Blk) (f : Twill → Twill) (h₀ : FaultPinRight b) : FaultPinRight (Blk.onTwill b f) :=
  keep_pin (Blk.onTwill_only (m₀ := [.twill]) b f (by decide) (only_refl _ _)) (by decide) h₀

theorem Blk.healthCheck_pin (b : Blk) (h₀ : FaultPinRight b) : FaultPinRight (Blk.healthCheck b) :=
  keep_pin (Blk.healthCheck_only (m₀ := [.out, .od, .hA, .hB, .can, .dev, .linen]) b (by decide) (only_refl _ _)) (by decide) h₀

theorem Blk.lifeCheck_pin (b : Blk) (h₀ : FaultPinRight b) : FaultPinRight (Blk.lifeCheck b) := by
  unfold Blk.lifeCheck
  repeat (first | with_reducible assumption | (with_reducible apply Blk.onTwill_pin) | (with_reducible apply Blk.report_pin) | (with_reducible apply Blk.enter_pin) | (with_reducible apply Blk.leave_pin) | (with_reducible apply Blk.healthCheck_pin) | with_reducible apply pin_ite | extract_lets | (dsimp +zetaDelta only))

theorem Blk.stopServe_pin (b : Blk) (h₀ : FaultPinRight b) : FaultPinRight (Blk.stopServe b) :=
  keep_pin (Blk.stopServe_only (m₀ := [.free, .out, .od, .hA, .hB, .can, .path, .linen, .tweed]) b (by decide) (only_refl _ _)) (by decide) h₀

theorem Blk.safeStop_pin (b : Blk) (cause : BitVec 16) (h₀ : FaultPinRight b) : FaultPinRight (Blk.safeStop b cause) := by
  unfold Blk.safeStop
  repeat (first | with_reducible assumption | (with_reducible refine onModes_pin (fun _ => ⟨rfl, rfl⟩) ?_) | (with_reducible apply Blk.stopServe_pin) | with_reducible apply pin_ite)

theorem Blk.onSafety_pin (b : Blk) (f : Safety → Safety) (h₀ : FaultPinRight b) : FaultPinRight (Blk.onSafety b f) :=
  keep_pin (Blk.onSafety_only (m₀ := [.safety]) b f (by decide) (only_refl _ _)) (by decide) h₀

theorem Blk.odSet_pin (b : Blk) (idx sub v : Nat) (h₀ : FaultPinRight b) : FaultPinRight (Blk.odSet b idx sub v) :=
  keep_pin (Blk.odSet_only (m₀ := [.od]) b idx sub v (by decide) (only_refl _ _)) (by decide) h₀

theorem Blk.bump_pin (b : Blk) (idx sub n : Nat) (h₀ : FaultPinRight b) : FaultPinRight (Blk.bump b idx sub n) :=
  keep_pin (Blk.bump_only (m₀ := [.od]) b idx sub n (by decide) (only_refl _ _)) (by decide) h₀

theorem Blk.detect_pin (b : Blk) (mech : Nat) (uncontained : Bool) (h₀ : FaultPinRight b) : FaultPinRight (Blk.detect b mech uncontained) := by
  unfold Blk.detect
  repeat (first | with_reducible assumption | (with_reducible apply Blk.onSafety_pin) | (with_reducible apply Blk.odSet_pin) | (with_reducible apply Blk.bump_pin) | (with_reducible apply Blk.report_pin) | (with_reducible apply Blk.safeStop_pin) | with_reducible apply pin_ite | extract_lets | (dsimp +zetaDelta only))

theorem Blk.poisonWarn_pin (b : Blk) (h₀ : FaultPinRight b) : FaultPinRight (Blk.poisonWarn b) :=
  keep_pin (Blk.poisonWarn_only (m₀ := [.out, .od, .hA, .hB, .can, .media, .linen]) b (by decide) (only_refl _ _)) (by decide) h₀

theorem Blk.noteChange_pin (b : Blk) (key : Nat) (h₀ : FaultPinRight b) : FaultPinRight (Blk.noteChange b key) :=
  keep_pin (Blk.noteChange_only (m₀ := [.media]) b key (by decide) (only_refl _ _)) (by decide) h₀

theorem Blk.listHalf_pin (b : Blk) (key : Nat) (src : PSource) (h₀ : FaultPinRight b) : FaultPinRight (Blk.listHalf b key src) := by
  unfold Blk.listHalf
  repeat (first | with_reducible assumption | (with_reducible apply onMedia_pin <;> [(intro; rfl); skip]) | (with_reducible apply Blk.bump_pin) | (with_reducible apply Blk.report_pin) | (with_reducible apply Blk.safeStop_pin) | (with_reducible apply Blk.poisonWarn_pin) | (with_reducible apply Blk.noteChange_pin) | with_reducible apply onMedia_pin | with_reducible apply pin_ite)

theorem Blk.listInternal_pin (b : Blk) (key : Nat) (code : BitVec 16) (tx : MediaTx := .internal) (addr : Bool := false) (h₀ : FaultPinRight b) : FaultPinRight (Blk.listInternal b key code tx addr) := by
  unfold Blk.listInternal
  repeat (first | with_reducible assumption | (with_reducible apply Blk.report_pin) | (with_reducible apply Blk.listHalf_pin) | with_reducible apply pin_ite | extract_lets | (dsimp +zetaDelta only))

theorem Blk.poisonLine_pin (b : Blk) (li : Nat) (code : BitVec 16) (tx : MediaTx := .internal) (addr : Bool := false) (h₀ : FaultPinRight b) : FaultPinRight (Blk.poisonLine b li code tx addr) := by
  unfold Blk.poisonLine
  repeat (first | with_reducible assumption | (with_reducible apply Blk.listInternal_pin))

theorem Blk.dpCount_pin (b : Blk) (d : Dp) (h₀ : FaultPinRight b) : FaultPinRight (Blk.dpCount b d) := by
  unfold Blk.dpCount
  repeat (first | with_reducible assumption | (with_reducible apply Blk.bump_pin) | (with_reducible apply Blk.detect_pin) | split)

theorem Blk.finishRead_pin (b : Blk) (x : Acc) (data : Option Half) (h₀ : FaultPinRight b) : FaultPinRight (Blk.finishRead b x data) :=
  keep_pin (Blk.finishRead_only (m₀ := [.free, .out, .od, .hA, .hB, .can, .path, .linen, .tweed]) b x data (by decide) (only_refl _ _)) (by decide) h₀

theorem Blk.finishReadDp_pin (b : Blk) (x : Acc) (data : Half) (d : Dp) (h₀ : FaultPinRight b) : FaultPinRight (Blk.finishReadDp b x data d) := by
  unfold Blk.finishReadDp
  repeat (first | with_reducible assumption | (with_reducible apply Blk.report_pin) | (with_reducible apply Blk.finishRead_pin) | (with_reducible apply Blk.dpCount_pin) | with_reducible apply pin_ite | extract_lets | (dsimp +zetaDelta only))

theorem Blk.reportUnit_pin (b : Blk) (code : BitVec 16) (cls : BitVec 8) (unit : Nat) (dpa : Option Nat := none) (h₀ : FaultPinRight b) : FaultPinRight (Blk.reportUnit b code cls unit dpa) :=
  keep_pin (Blk.reportUnit_only (m₀ := [.out, .od, .hA, .hB, .can, .linen]) b code cls unit dpa (by decide) (only_refl _ _)) (by decide) h₀

theorem Blk.setSlot_pin (b : Blk) (slot : Nat) (x : SlotSt) (h₀ : FaultPinRight b) : FaultPinRight (Blk.setSlot b slot x) :=
  keep_pin (Blk.setSlot_only (m₀ := [.twill]) b slot x (by decide) (only_refl _ _)) (by decide) h₀

theorem Blk.journalRec_pin (b : Blk) (type : Nat) (items : List Nat) (h₀ : FaultPinRight b) : FaultPinRight (Blk.journalRec b type items) :=
  keep_pin (Blk.journalRec_only (m₀ := [.out, .od, .hA, .hB, .can, .lines, .twill, .linen]) b type items (by decide) (only_refl _ _)) (by decide) h₀

theorem Blk.retireSlot_pin (b : Blk) (slot wear reason : Nat) (h₀ : FaultPinRight b) : FaultPinRight (Blk.retireSlot b slot wear reason) := by
  unfold Blk.retireSlot
  repeat (first | with_reducible assumption | (with_reducible apply Blk.onTwill_pin) | (with_reducible apply Blk.reportUnit_pin) | (with_reducible apply Blk.setSlot_pin) | (with_reducible apply Blk.lifeCheck_pin) | (with_reducible apply Blk.journalRec_pin) | with_reducible apply pin_ite)

theorem Blk.retireWaiting_pin (b : Blk) (h₀ : FaultPinRight b) : FaultPinRight (Blk.retireWaiting b) := by
  unfold Blk.retireWaiting
  repeat (first | with_reducible assumption | (with_reducible apply Blk.onTwill_pin) | (with_reducible apply Blk.retireSlot_pin) | (with_reducible refine pin_foldl (fun c x hc => ?_) _ _ ?_) | with_reducible apply pin_ite)

theorem Blk.putTag_pin (b : Blk) (ti : Nat) (t : TagLine) (h₀ : FaultPinRight b) : FaultPinRight (Blk.putTag b ti t) :=
  keep_pin (Blk.putTag_only (m₀ := [.damask]) b ti t (by decide) (only_refl _ _)) (by decide) h₀

theorem Blk.useTag_pin (b : Blk) (ti : Nat) (h₀ : FaultPinRight b) : FaultPinRight (Blk.useTag b ti) :=
  keep_pin (Blk.useTag_only (m₀ := [.od, .damask, .tweed]) b ti (by decide) (only_refl _ _)) (by decide) h₀

theorem Blk.writeNow_pin (b : Blk) (ws : Writes) (h₀ : FaultPinRight b) : FaultPinRight (Blk.writeNow b ws) :=
  keep_pin (Blk.writeNow_only (m₀ := [.out, .od, .hA, .hB, .can, .lines, .twill, .linen, .tweed]) b ws (by decide) (only_refl _ _)) (by decide) h₀

theorem Blk.flushTag_pin (b : Blk) (ti : Nat) (h₀ : FaultPinRight b) : FaultPinRight (Blk.flushTag b ti) :=
  keep_pin (Blk.flushTag_only (m₀ := [.out, .od, .hA, .hB, .can, .lines, .twill, .damask, .linen, .tweed]) b ti (by decide) (only_refl _ _)) (by decide) h₀

theorem Blk.reencrypt_pin (b : Blk) (ti : Nat) (epoch : BitVec 8) (major : BitVec 24) (new : Option (Nat × Line)) (h₀ : FaultPinRight b) : FaultPinRight (Blk.reencrypt b ti epoch major new) := by
  unfold Blk.reencrypt
  repeat (first | with_reducible assumption | (with_reducible apply Blk.putTag_pin) | (with_reducible apply Blk.useTag_pin) | (with_reducible apply Blk.poisonLine_pin) | (with_reducible apply Blk.writeNow_pin) | (with_reducible apply Blk.flushTag_pin) | (with_reducible refine pin_foldl (fun c x hc => ?_) _ _ ?_) | extract_lets | (dsimp +zetaDelta only))

theorem Blk.tw_pin (b : Blk) (i c : Nat) (h₀ : FaultPinRight b) : FaultPinRight (Blk.tw b i c) :=
  keep_pin (Blk.tw_only (m₀ := [.tweed]) b i c (by decide) (only_refl _ _)) (by decide) h₀

theorem Blk.coldCipher_pin (b : Blk) (li : Nat) (p : Place) (data : Line) (h₀ : FaultPinRight b) : FaultPinRight (Blk.coldCipher b li p data).1 :=
  keep_pin (Blk.coldCipher_only (m₀ := [.od, .damask, .tweed]) b li p data (by decide) (only_refl _ _)) (by decide) h₀

theorem Blk.writeHomeNow_pin (b : Blk) (li : Nat) (data : Line) (h₀ : FaultPinRight b) : FaultPinRight (Blk.writeHomeNow b li data) := by
  unfold Blk.writeHomeNow
  repeat (first | with_reducible assumption | (with_reducible apply Blk.bump_pin) | (with_reducible apply Blk.tw_pin) | (with_reducible apply Blk.writeNow_pin) | (with_reducible apply Blk.reencrypt_pin) | (with_reducible apply Blk.coldCipher_pin) | with_reducible apply pin_ite | extract_lets | split | (dsimp +zetaDelta only))

theorem Blk.onHA_pin (b : Blk) (f : HeadSt → HeadSt) (h₀ : FaultPinRight b) : FaultPinRight (Blk.onHA b f) :=
  keep_pin (Blk.onHA_only (m₀ := [.hA]) b f (by decide) (only_refl _ _)) (by decide) h₀

theorem Blk.onHB_pin (b : Blk) (f : HeadSt → HeadSt) (h₀ : FaultPinRight b) : FaultPinRight (Blk.onHB b f) :=
  keep_pin (Blk.onHB_only (m₀ := [.hB]) b f (by decide) (only_refl _ _)) (by decide) h₀

theorem Blk.onThermal_pin (b : Blk) (f : Thermal → Thermal) (h₀ : FaultPinRight b) : FaultPinRight (Blk.onThermal b f) :=
  keep_pin (Blk.onThermal_only (m₀ := [.thermal]) b f (by decide) (only_refl _ _)) (by decide) h₀

theorem Blk.slowDown_pin (b : Blk) (h₀ : FaultPinRight b) : FaultPinRight (Blk.slowDown b) := by
  unfold Blk.slowDown
  repeat (first | with_reducible assumption | (with_reducible apply pinSet) | (with_reducible apply Blk.onHA_pin) | (with_reducible apply Blk.onHB_pin) | (with_reducible apply Blk.onThermal_pin) | (with_reducible apply Blk.bump_pin) | (with_reducible apply Blk.report_pin) | (with_reducible apply Blk.faultPin_pin) | with_reducible apply pin_ite)

theorem Blk.onDie_pin (b : Blk) (d : Nat) (f : DieSt → DieSt) (h₀ : FaultPinRight b) : FaultPinRight (Blk.onDie b d f) :=
  keep_pin (Blk.onDie_only (m₀ := [.media]) b d f (by decide) (only_refl _ _)) (by decide) h₀

theorem Blk.coolDie_pin (b : Blk) (d : Nat) (h₀ : FaultPinRight b) : FaultPinRight (Blk.coolDie b d) :=
  keep_pin (Blk.coolDie_only (m₀ := [.out, .media]) b d (by decide) (only_refl _ _)) (by decide) h₀

theorem Blk.dieStatus_pin (b : Blk) (d : Nat) (alrt : BitVec 7) (tval : Bool) (temp : Int) (h₀ : FaultPinRight b) : FaultPinRight (Blk.dieStatus b d alrt tval temp) := by
  unfold Blk.dieStatus
  repeat (first | with_reducible assumption | (with_reducible apply Blk.onDie_pin) | (with_reducible apply Blk.reportUnit_pin) | (with_reducible apply Blk.slowDown_pin) | (with_reducible apply Blk.coolDie_pin) | with_reducible apply pin_ite | extract_lets | (dsimp +zetaDelta only))

theorem Blk.onDamask_pin (b : Blk) (f : Damask → Damask) (h₀ : FaultPinRight b) : FaultPinRight (Blk.onDamask b f) :=
  keep_pin (Blk.onDamask_only (m₀ := [.damask]) b f (by decide) (only_refl _ _)) (by decide) h₀

theorem Blk.alarmReact_pin (b : Blk) (r : Nat) (h₀ : FaultPinRight b) : FaultPinRight (Blk.alarmReact b r) := by
  unfold Blk.alarmReact
  repeat (first | with_reducible assumption | (with_reducible apply Blk.onDamask_pin) | (with_reducible apply Blk.safeStop_pin) | split)

theorem Blk.alarmEvent_pin (b : Blk) (r dpa : Nat) (h₀ : FaultPinRight b) : FaultPinRight (Blk.alarmEvent b r dpa) :=
  keep_pin (Blk.alarmEvent_only (m₀ := [.out, .od, .hA, .hB, .can, .linen]) b r dpa (by decide) (only_refl _ _)) (by decide) h₀

theorem Blk.damaskFailure_pin (b : Blk) (li : Nat) (h₀ : FaultPinRight b) : FaultPinRight (Blk.damaskFailure b li) := by
  unfold Blk.damaskFailure
  extract_lets r t b0 slot
  rcases slot with _ | t1 <;> repeat (first | with_reducible assumption | (with_reducible apply Blk.onDamask_pin) | (with_reducible apply Blk.bump_pin) | (with_reducible apply Blk.alarmReact_pin) | (with_reducible apply Blk.alarmEvent_pin) | with_reducible apply pin_ite | extract_lets)

theorem Blk.onPath_pin (b : Blk) (f : Path → Path) (h₀ : FaultPinRight b) : FaultPinRight (Blk.onPath b f) :=
  keep_pin (Blk.onPath_only (m₀ := [.path]) b f (by decide) (only_refl _ _)) (by decide) h₀

theorem Blk.endAcc_pin (b : Blk) (x : Acc) (h₀ : FaultPinRight b) : FaultPinRight (Blk.endAcc b x) :=
  keep_pin (Blk.endAcc_only (m₀ := [.path]) b x (by decide) (only_refl _ _)) (by decide) h₀

theorem Blk.applyFill_pin (b : Blk) (li : Nat) (data : Line) (h₀ : FaultPinRight b) : FaultPinRight (Blk.applyFill b li data) :=
  keep_pin (Blk.applyFill_only (m₀ := [.free, .out, .od, .hA, .hB, .can, .path, .velvet, .linen, .tweed]) b li data (by decide) (only_refl _ _)) (by decide) h₀

theorem Blk.refillDue_pin (b : Blk) (li : Nat) (h₀ : FaultPinRight b) : FaultPinRight (Blk.refillDue b li) :=
  keep_pin (Blk.refillDue_only (m₀ := [.path, .velvet]) b li (by decide) (only_refl _ _)) (by decide) h₀

theorem Blk.lineData_pin (b : Blk) (rid : Nat) (line : Line) (e : DpErr) (h₀ : FaultPinRight b) : FaultPinRight (Blk.lineData b rid line e) := by
  unfold Blk.lineData
  repeat (first | with_reducible assumption | (with_reducible apply Blk.onPath_pin) | (with_reducible apply Blk.endAcc_pin) | (with_reducible apply Blk.finishRead_pin) | (with_reducible apply Blk.dpCount_pin) | (with_reducible apply Blk.finishReadDp_pin) | (with_reducible apply Blk.applyFill_pin) | (with_reducible apply Blk.refillDue_pin) | with_reducible apply pin_ite | extract_lets | split | (dsimp +zetaDelta only))

theorem Blk.onAcc_pin (b : Blk) (rid : Nat) (f : Acc → Acc) (h₀ : FaultPinRight b) : FaultPinRight (Blk.onAcc b rid f) :=
  keep_pin (Blk.onAcc_only (m₀ := [.path]) b rid f (by decide) (only_refl _ _)) (by decide) h₀

theorem Blk.enqueue_pin (b : Blk) (x : Mem) (why : ReadFor) (acceptedAt : Nat) (h₀ : FaultPinRight b) : FaultPinRight (Blk.enqueue b x why acceptedAt) :=
  keep_pin (Blk.enqueue_only (m₀ := [.media]) b x why acceptedAt (by decide) (only_refl _ _)) (by decide) h₀

theorem Blk.startRecon_pin (b : Blk) (rid : Nat) (p : Place) (h₀ : FaultPinRight b) : FaultPinRight (Blk.startRecon b rid p) :=
  keep_pin (Blk.startRecon_only (m₀ := [.free, .od, .path, .media, .tweed]) b rid p (by decide) (only_refl _ _)) (by decide) h₀

theorem Blk.awaitTag_pin (b : Blk) (rid ti : Nat) (held : Bool) (h₀ : FaultPinRight b) : FaultPinRight (Blk.awaitTag b rid ti held) :=
  keep_pin (Blk.awaitTag_only (m₀ := [.free, .out, .od, .hA, .hB, .can, .path, .lines, .media, .twill, .damask, .linen, .tweed]) b rid ti held (by decide) (only_refl _ _)) (by decide) h₀

theorem Blk.readList_pin (b : Blk) (rid key : Nat) (h₀ : FaultPinRight b) : FaultPinRight (Blk.readList b rid key) :=
  keep_pin (Blk.readList_only (m₀ := [.free, .path, .media, .tweed]) b rid key (by decide) (only_refl _ _)) (by decide) h₀

theorem Blk.startRead_pin (b0 : Blk) (rid : Nat) (h₀ : FaultPinRight b0) : FaultPinRight (Blk.startRead b0 rid) := by
  unfold Blk.startRead
  repeat (first | with_reducible assumption | (with_reducible apply Blk.report_pin) | (with_reducible apply Blk.useTag_pin) | (with_reducible apply Blk.onAcc_pin) | (with_reducible apply Blk.finishRead_pin) | (with_reducible apply Blk.enqueue_pin) | (with_reducible apply Blk.startRecon_pin) | (with_reducible apply Blk.refillDue_pin) | (with_reducible apply Blk.lineData_pin) | (with_reducible apply Blk.awaitTag_pin) | (with_reducible apply Blk.readList_pin) | with_reducible apply pin_ite | extract_lets | split | (dsimp +zetaDelta only))

theorem Blk.startFill_pin (b : Blk) (h : Head) (li : Nat) (kind : ReqKind) (parts : List Nat) (h₀ : FaultPinRight b) : FaultPinRight (Blk.startFill b h li kind parts) := by
  unfold Blk.startFill
  repeat (first | with_reducible assumption | (with_reducible apply Blk.onPath_pin) | (with_reducible apply Blk.startRead_pin) | extract_lets | (dsimp +zetaDelta only))

theorem Blk.poisonRest_pin (b : Blk) (d : Deep) (h₀ : FaultPinRight b) : FaultPinRight (Blk.poisonRest b d) := by
  unfold Blk.poisonRest
  repeat (first | with_reducible assumption | (with_reducible apply Blk.listInternal_pin) | with_reducible apply pin_ite | extract_lets | (dsimp +zetaDelta only))

theorem Blk.onVelvet_pin (b : Blk) (f : Velvet → Velvet) (h₀ : FaultPinRight b) : FaultPinRight (Blk.onVelvet b f) :=
  keep_pin (Blk.onVelvet_only (m₀ := [.velvet]) b f (by decide) (only_refl _ _)) (by decide) h₀

theorem Blk.loseHalf_pin (b : Blk) (k : Nat) (v : VWay) (i : Bool) (code : BitVec 16) (tx : MediaTx) (addr : Bool) (h₀ : FaultPinRight b) : FaultPinRight (Blk.loseHalf b k v i code tx addr) := by
  unfold Blk.loseHalf
  repeat (first | with_reducible assumption | (with_reducible apply Blk.onVelvet_pin) | (with_reducible apply Blk.listInternal_pin) | extract_lets | (dsimp +zetaDelta only))

theorem Blk.dropWay_pin (b : Blk) (key : Nat) (h₀ : FaultPinRight b) : FaultPinRight (Blk.dropWay b key) :=
  keep_pin (Blk.dropWay_only (m₀ := [.velvet]) b key (by decide) (only_refl _ _)) (by decide) h₀

theorem Blk.velvetCheck_pin (b : Blk) (li : Nat) (e : DpErr) (h₀ : FaultPinRight b) : FaultPinRight (Blk.velvetCheck b li e) := by
  unfold Blk.velvetCheck
  repeat (first | with_reducible assumption | (with_reducible apply Blk.dpCount_pin) | (with_reducible apply Blk.dropWay_pin) | (with_reducible apply Blk.loseHalf_pin) | with_reducible apply pin_ite | extract_lets | split | (dsimp +zetaDelta only))

theorem Blk.egress_pin (b : Blk) (li : Nat) (data : Line) (e : EgressErr) (h₀ : FaultPinRight b) : FaultPinRight (Blk.egress b li data e).1 := by
  unfold Blk.egress
  repeat (first | with_reducible assumption | (with_reducible apply Blk.listInternal_pin) | (with_reducible apply Blk.dpCount_pin) | with_reducible apply pin_ite | extract_lets | with_reducible apply pin_ite_fst | dsimp only | (dsimp +zetaDelta only))

theorem Blk.twHead_pin (b : Blk) (h : Head) (off c : Nat) (h₀ : FaultPinRight b) : FaultPinRight (Blk.twHead b h off c) :=
  keep_pin (Blk.twHead_only (m₀ := [.tweed]) b h off c (by decide) (only_refl _ _)) (by decide) h₀

theorem Blk.twHost_pin (b : Blk) (h : Head) (event c : Nat) (h₀ : FaultPinRight b) : FaultPinRight (Blk.twHost b h event c) :=
  keep_pin (Blk.twHost_only (m₀ := [.tweed]) b h event c (by decide) (only_refl _ _)) (by decide) h₀

theorem Blk.putWay_pin (b : Blk) (key : Nat) (v : VWay) (h₀ : FaultPinRight b) : FaultPinRight (Blk.putWay b key v) :=
  keep_pin (Blk.putWay_only (m₀ := [.velvet]) b key v (by decide) (only_refl _ _)) (by decide) h₀

theorem Blk.touchWay_pin (b : Blk) (key : Nat) (h₀ : FaultPinRight b) : FaultPinRight (Blk.touchWay b key) :=
  keep_pin (Blk.touchWay_only (m₀ := [.velvet]) b key (by decide) (only_refl _ _)) (by decide) h₀

theorem Blk.allocate_pin (b : Blk) (li : Nat) (needClean : Bool) (v : VWay) {r : Blk} (hr : (Blk.allocate b li needClean v) = some r) (h₀ : FaultPinRight b) : FaultPinRight r :=
  keep_pin (Blk.allocate_only (m₀ := [.velvet, .tweed]) b li needClean v hr (by decide) (only_refl _ _)) (by decide) h₀

theorem Blk.startDeep_pin (b : Blk) (rid : Nat) (tagBad : Bool) (h₀ : FaultPinRight b) : FaultPinRight (Blk.startDeep b rid tagBad) :=
  keep_pin (Blk.startDeep_only (m₀ := [.od, .path, .tweed]) b rid tagBad (by decide) (only_refl _ _)) (by decide) h₀

theorem Blk.acceptRead_pin (b0 : Blk) (x : Acc) (e : DpErr) (h₀ : FaultPinRight b0) : FaultPinRight (Blk.acceptRead b0 x e) := by
  unfold Blk.acceptRead
  repeat (first | with_reducible assumption | (with_reducible apply Blk.bump_pin) | (with_reducible apply Blk.report_pin) | (with_reducible apply Blk.twHead_pin) | (with_reducible apply Blk.twHost_pin) | (with_reducible apply Blk.onAcc_pin) | (with_reducible apply Blk.finishRead_pin) | (with_reducible apply Blk.finishReadDp_pin) | (with_reducible apply Blk.putWay_pin) | (with_reducible apply Blk.touchWay_pin) | (with_reducible refine Blk.allocate_pin _ _ _ _ (by assumption) ?_) | (with_reducible apply Blk.startRead_pin) | (with_reducible apply Blk.startDeep_pin) | (with_reducible apply Blk.velvetCheck_pin) | with_reducible apply pin_ite | extract_lets | split | (dsimp +zetaDelta only))

theorem Blk.unlistHalf_pin (b : Blk) (key : Nat) (h₀ : FaultPinRight b) : FaultPinRight (Blk.unlistHalf b key) :=
  keep_pin (Blk.unlistHalf_only (m₀ := [.out, .od, .hA, .hB, .can, .poison, .media, .linen]) b key (by decide) (only_refl _ _)) (by decide) h₀

theorem Blk.writePoison_pin (b : Blk) (x : Acc) (h₀ : FaultPinRight b) : FaultPinRight (Blk.writePoison b x) := by
  unfold Blk.writePoison
  repeat (first | with_reducible assumption | (with_reducible apply Blk.listHalf_pin) | (with_reducible apply Blk.unlistHalf_pin) | with_reducible apply pin_ite | extract_lets | (dsimp +zetaDelta only))

theorem Blk.putBuf_pin (b : Blk) (n : Nat) (x : HBuf) (h₀ : FaultPinRight b) : FaultPinRight (Blk.putBuf b n x) :=
  keep_pin (Blk.putBuf_only (m₀ := [.velvet]) b n x (by decide) (only_refl _ _)) (by decide) h₀

theorem Blk.cancelFill_pin (b : Blk) (li : Nat) (h₀ : FaultPinRight b) : FaultPinRight (Blk.cancelFill b li) :=
  keep_pin (Blk.cancelFill_only (m₀ := [.free, .out, .od, .hA, .hB, .can, .path, .media, .velvet, .linen, .tweed]) b li (by decide) (only_refl _ _)) (by decide) h₀

theorem Blk.mergeWrite_pin (b : Blk) (x : Acc) (mark : Bool) (h₀ : FaultPinRight b) : FaultPinRight (Blk.mergeWrite b x mark) := by
  unfold Blk.mergeWrite
  repeat (first | with_reducible assumption | (with_reducible apply Blk.twHead_pin) | (with_reducible apply Blk.onAcc_pin) | (with_reducible apply Blk.putWay_pin) | (with_reducible apply Blk.touchWay_pin) | (with_reducible apply Blk.putBuf_pin) | (with_reducible refine Blk.allocate_pin _ _ _ _ (by assumption) ?_) | (with_reducible apply Blk.cancelFill_pin) | (with_reducible apply Blk.startFill_pin) | with_reducible apply pin_ite | extract_lets | split | (dsimp +zetaDelta only))

theorem Blk.finishWrite_pin (b : Blk) (x : Acc) (h₀ : FaultPinRight b) : FaultPinRight (Blk.finishWrite b x) :=
  keep_pin (Blk.finishWrite_only (m₀ := [.free, .out, .od, .hA, .hB, .can, .path, .linen, .tweed]) b x (by decide) (only_refl _ _)) (by decide) h₀

theorem Blk.promoteWay_pin (b : Blk) (li : Nat) (h₀ : FaultPinRight b) : FaultPinRight (Blk.promoteWay b li) :=
  keep_pin (Blk.promoteWay_only (m₀ := [.twill]) b li (by decide) (only_refl _ _)) (by decide) h₀

theorem Blk.noteWrite_pin (b : Blk) (li : Nat) (h₀ : FaultPinRight b) : FaultPinRight (Blk.noteWrite b li) :=
  keep_pin (Blk.noteWrite_only (m₀ := [.velvet, .twill]) b li (by decide) (only_refl _ _)) (by decide) h₀

theorem Blk.countCandidate_pin (b : Blk) (li : Nat) (h₀ : FaultPinRight b) : FaultPinRight (Blk.countCandidate b li) :=
  keep_pin (Blk.countCandidate_only (m₀ := [.twill]) b li (by decide) (only_refl _ _)) (by decide) h₀

theorem Blk.program_pin (b : Blk) (x : Pend) (h₀ : FaultPinRight b) : FaultPinRight (Blk.program b x) :=
  keep_pin (Blk.program_only (m₀ := [.free, .out, .od, .hA, .hB, .can, .media, .twill, .linen, .tweed]) b x (by decide) (only_refl _ _)) (by decide) h₀

theorem Blk.issueRecords_pin (b : Blk) (h₀ : FaultPinRight b) : FaultPinRight (Blk.issueRecords b) :=
  keep_pin (Blk.issueRecords_only (m₀ := [.free, .out, .od, .hA, .hB, .can, .media, .twill, .linen, .tweed]) b (by decide) (only_refl _ _)) (by decide) h₀

theorem Blk.endWrite_pin (b : Blk) (x : Acc) (h₀ : FaultPinRight b) : FaultPinRight (Blk.endWrite b x) :=
  keep_pin (Blk.endWrite_only (m₀ := [.free, .out, .od, .hA, .hB, .can, .path, .lines, .twill, .damask, .linen, .tweed]) b x (by decide) (only_refl _ _)) (by decide) h₀

theorem Blk.deepWritten_pin (b : Blk) (li : Nat) (i : Bool) (h₀ : FaultPinRight b) : FaultPinRight (Blk.deepWritten b li i) :=
  keep_pin (Blk.deepWritten_only (m₀ := [.path]) b li i (by decide) (only_refl _ _)) (by decide) h₀

theorem Blk.acceptWrite_pin (b : Blk) (x : Acc) (e : DpErr) (h₀ : FaultPinRight b) : FaultPinRight (Blk.acceptWrite b x e) := by
  unfold Blk.acceptWrite
  repeat (first | with_reducible assumption | (with_reducible apply Blk.report_pin) | (with_reducible apply Blk.twHead_pin) | (with_reducible apply Blk.onAcc_pin) | (with_reducible apply Blk.finishWrite_pin) | (with_reducible apply Blk.listInternal_pin) | (with_reducible apply Blk.dpCount_pin) | (with_reducible apply Blk.promoteWay_pin) | (with_reducible apply Blk.noteWrite_pin) | (with_reducible apply Blk.countCandidate_pin) | (with_reducible apply Blk.program_pin) | (with_reducible apply Blk.issueRecords_pin) | (with_reducible apply Blk.endWrite_pin) | (with_reducible apply Blk.deepWritten_pin) | (with_reducible apply Blk.writePoison_pin) | (with_reducible apply Blk.mergeWrite_pin) | with_reducible apply pin_ite | extract_lets | (dsimp +zetaDelta only))

theorem Blk.onHead_pin (b : Blk) (h : Head) (f : HeadSt → HeadSt) (h₀ : FaultPinRight b) : FaultPinRight (Blk.onHead b h f) :=
  keep_pin (Blk.onHead_only (m₀ := [.hA, .hB]) b h f (by decide) (only_refl _ _)) (by decide) h₀

theorem Blk.countAccepted_pin (b : Blk) (h : Head) (r : Req) (h₀ : FaultPinRight b) : FaultPinRight (Blk.countAccepted b h r) :=
  keep_pin (Blk.countAccepted_only (m₀ := [.out, .od, .hA, .hB, .can, .path, .linen, .tweed]) b h r (by decide) (only_refl _ _)) (by decide) h₀

theorem Blk.arrive_pin (b : Blk) (h : Head) (k : ReqKind) (hpa tag : Nat) (data : Half) (mask : HalfMask) (poison : Bool) (h₀ : FaultPinRight b) : FaultPinRight (Blk.arrive b h k hpa tag data mask poison) :=
  keep_pin (Blk.arrive_only (m₀ := [.out, .od, .hA, .hB, .can, .path, .linen, .tweed]) b h k hpa tag data mask poison (by decide) (only_refl _ _)) (by decide) h₀

theorem Blk.acceptNow_pin (b : Blk) (h : Head) (r : Req) (d : DpErr) (h₀ : FaultPinRight b) : FaultPinRight (Blk.acceptNow b h r d) := by
  unfold Blk.acceptNow
  repeat (first | with_reducible assumption | (with_reducible apply Blk.onPath_pin) | (with_reducible apply Blk.onHead_pin) | (with_reducible apply Blk.acceptRead_pin) | (with_reducible apply Blk.acceptWrite_pin) | (with_reducible apply Blk.countAccepted_pin) | (with_reducible apply Blk.arrive_pin) | with_reducible apply pin_ite | extract_lets | split | (dsimp +zetaDelta only))

theorem Blk.probeFill_pin (b : Blk) (h : Head) (li : Nat) (h₀ : FaultPinRight b) : FaultPinRight (Blk.probeFill b h li) := by
  unfold Blk.probeFill
  repeat (first | with_reducible assumption | (with_reducible refine Blk.allocate_pin _ _ _ _ (by assumption) ?_) | (with_reducible apply Blk.startFill_pin) | with_reducible apply pin_ite | split)

theorem Blk.emit_pin (b : Blk) (o : Output) (h₀ : FaultPinRight b) : FaultPinRight (Blk.emit b o) :=
  keep_pin (Blk.emit_only (m₀ := [.out]) b o (by decide) (only_refl _ _)) (by decide) h₀

theorem Blk.consumeTo_pin (b : Blk) (h : Head) (v : Nat) (h₀ : FaultPinRight b) : FaultPinRight (Blk.consumeTo b h v) :=
  keep_pin (Blk.consumeTo_only (m₀ := [.hA, .hB]) b h v (by decide) (only_refl _ _)) (by decide) h₀

theorem Blk.dropToHeader_pin (b : Blk) (h : Head) (h₀ : FaultPinRight b) : FaultPinRight (Blk.dropToHeader b h) :=
  keep_pin (Blk.dropToHeader_only (m₀ := [.hA, .hB]) b h (by decide) (only_refl _ _)) (by decide) h₀

theorem Blk.windowAccess_pin (b : Blk) (h : Head) (tag off : Nat) (write : Option (HalfMask × Half)) (e : DpErr) (h₀ : FaultPinRight b) : FaultPinRight (Blk.windowAccess b h tag off write e) := by
  unfold Blk.windowAccess
  repeat (first | with_reducible assumption | (with_reducible apply Blk.emit_pin) | (with_reducible apply Blk.dpCount_pin) | (with_reducible apply Blk.consumeTo_pin) | (with_reducible apply Blk.dropToHeader_pin) | with_reducible apply pin_ite | extract_lets | split | (dsimp +zetaDelta only))

theorem Blk.acceptWindow_pin (b : Blk) (h : Head) (r : Req) (d : DpErr) (h₀ : FaultPinRight b) : FaultPinRight (Blk.acceptWindow b h r d) := by
  unfold Blk.acceptWindow
  repeat (first | with_reducible assumption | (with_reducible apply Blk.onHead_pin) | (with_reducible apply Blk.windowAccess_pin) | with_reducible apply pin_ite)

theorem Blk.noteHolds_pin (b : Blk) (h : Head) (r : Req) (h₀ : FaultPinRight b) : FaultPinRight (Blk.noteHolds b h r) :=
  keep_pin (Blk.noteHolds_only (m₀ := [.od, .hA, .hB, .tweed]) b h r (by decide) (only_refl _ _)) (by decide) h₀

theorem Blk.probeWay_pin (b : Blk) (li : Nat) (h₀ : FaultPinRight b) : FaultPinRight (Blk.probeWay b li) :=
  keep_pin (Blk.probeWay_only (m₀ := [.twill]) b li (by decide) (only_refl _ _)) (by decide) h₀

theorem Blk.tryAccept_pin (b : Blk) (h : Head) (r : Req) (d : DpErr) (h₀ : FaultPinRight b) : FaultPinRight (Blk.tryAccept b h r d) := by
  unfold Blk.tryAccept
  repeat (first | with_reducible assumption | (with_reducible apply Blk.noteHolds_pin) | (with_reducible apply Blk.acceptNow_pin) | (with_reducible apply Blk.probeWay_pin) | (with_reducible apply Blk.probeFill_pin) | (with_reducible apply Blk.acceptWindow_pin) | with_reducible apply pin_ite | extract_lets | (dsimp +zetaDelta only))

theorem Blk.gatherFreed_pin (b : Blk) (slot : Nat) (h₀ : FaultPinRight b) : FaultPinRight (Blk.gatherFreed b slot) :=
  keep_pin (Blk.gatherFreed_only (m₀ := [.twill]) b slot (by decide) (only_refl _ _)) (by decide) h₀

theorem Blk.slotFreed_pin (b : Blk) (slot : Nat) (h₀ : FaultPinRight b) : FaultPinRight (Blk.slotFreed b slot) := by
  unfold Blk.slotFreed
  repeat (first | with_reducible assumption | (with_reducible apply Blk.setSlot_pin) | (with_reducible apply Blk.lifeCheck_pin) | (with_reducible apply Blk.retireSlot_pin) | (with_reducible apply Blk.gatherFreed_pin) | with_reducible apply pin_ite | extract_lets | (dsimp +zetaDelta only))

theorem Blk.resetSlot_pin (b : Blk) (slot : Nat) (h₀ : FaultPinRight b) : FaultPinRight (Blk.resetSlot b slot) :=
  keep_pin (Blk.resetSlot_only (m₀ := [.media, .twill]) b slot (by decide) (only_refl _ _)) (by decide) h₀

theorem Blk.freeSlot_pin (b : Blk) (slot wear : Nat) (h₀ : FaultPinRight b) : FaultPinRight (Blk.freeSlot b slot wear) := by
  unfold Blk.freeSlot
  repeat (first | with_reducible assumption | (with_reducible apply Blk.setSlot_pin) | (with_reducible apply Blk.slotFreed_pin) | (with_reducible apply Blk.resetSlot_pin))

theorem Blk.giveUp_pin (b : Blk) (slot wear : Nat) (h₀ : FaultPinRight b) : FaultPinRight (Blk.giveUp b slot wear) := by
  unfold Blk.giveUp
  repeat (first | with_reducible assumption | (with_reducible apply Blk.retireSlot_pin) | (with_reducible apply Blk.freeSlot_pin) | with_reducible apply pin_ite | extract_lets | (dsimp +zetaDelta only))

theorem Blk.useFree_pin (b : Blk) (h₀ : FaultPinRight b) : FaultPinRight (Blk.useFree b) :=
  keep_pin (Blk.useFree_only (m₀ := [.free]) b (by decide) (only_refl _ _)) (by decide) h₀

theorem Blk.widen_pin (b : Blk) (c : Cls) (h₀ : FaultPinRight b) : FaultPinRight (Blk.widen b c) :=
  keep_pin (Blk.widen_only (m₀ := [.free, .twill]) b c (by decide) (only_refl _ _)) (by decide) h₀

theorem Blk.swapHot_pin (b : Blk) (old new : Nat) (h₀ : FaultPinRight b) : FaultPinRight (Blk.swapHot b old new) :=
  keep_pin (Blk.swapHot_only (m₀ := [.out, .od, .hA, .hB, .can, .lines, .media, .twill, .linen]) b old new (by decide) (only_refl _ _)) (by decide) h₀

theorem Blk.exchangeSlot_pin (b : Blk) (slot reason : Nat) (h₀ : FaultPinRight b) : FaultPinRight (Blk.exchangeSlot b slot reason) := by
  unfold Blk.exchangeSlot
  repeat (first | with_reducible assumption | (with_reducible apply Blk.useFree_pin) | (with_reducible apply Blk.widen_pin) | (with_reducible apply Blk.retireSlot_pin) | (with_reducible apply Blk.swapHot_pin) | with_reducible apply pin_ite | extract_lets | split | (dsimp +zetaDelta only))

theorem Blk.resetOver_pin (b : Blk) (key : Nat) (h₀ : FaultPinRight b) : FaultPinRight (Blk.resetOver b key) := by
  unfold Blk.resetOver
  repeat (first | with_reducible assumption | (with_reducible apply Blk.onTwill_pin) | (with_reducible apply Blk.setSlot_pin) | (with_reducible apply Blk.slotFreed_pin) | (with_reducible apply Blk.exchangeSlot_pin) | with_reducible apply pin_ite | extract_lets | (dsimp +zetaDelta only))

theorem Blk.queueReset_pin (b : Blk) (key : Nat) (x : Nat × Nat) (h₀ : FaultPinRight b) : FaultPinRight (Blk.queueReset b key x) :=
  keep_pin (Blk.queueReset_only (m₀ := [.media]) b key x (by decide) (only_refl _ _)) (by decide) h₀

theorem Blk.resetRow_pin (b : Blk) (key : Nat) (x : TileRow) (h₀ : FaultPinRight b) : FaultPinRight (Blk.resetRow b key x) := by
  unfold Blk.resetRow
  repeat (first | with_reducible assumption | (with_reducible apply Blk.onTwill_pin) | (with_reducible apply Blk.queueReset_pin) | (with_reducible apply Blk.resetOver_pin) | (with_reducible refine pin_foldl (fun c x hc => ?_) _ _ ?_) | with_reducible apply pin_ite | extract_lets | (dsimp +zetaDelta only))

theorem Blk.onPart_pin (b : Blk) (pid : Nat) (f : PartSt → PartSt) (h₀ : FaultPinRight b) : FaultPinRight (Blk.onPart b pid f) :=
  keep_pin (Blk.onPart_only (m₀ := [.media]) b pid f (by decide) (only_refl _ _)) (by decide) h₀

theorem Blk.dropResets_pin (b : Blk) (pid : Nat) (h₀ : FaultPinRight b) : FaultPinRight (Blk.dropResets b pid) := by
  unfold Blk.dropResets
  repeat (first | with_reducible assumption | (with_reducible apply Blk.onPart_pin) | (with_reducible apply Blk.resetOver_pin) | (with_reducible refine pin_foldl (fun c x hc => ?_) _ _ ?_) | with_reducible apply pin_ite | extract_lets | split | (dsimp +zetaDelta only))

theorem Blk.dropDieResets_pin (b : Blk) (d : Nat) (h₀ : FaultPinRight b) : FaultPinRight (Blk.dropDieResets b d) := by
  unfold Blk.dropDieResets
  repeat (first | with_reducible assumption | (with_reducible apply Blk.dropResets_pin) | (with_reducible refine pin_foldl (fun c x hc => ?_) _ _ ?_))

theorem Blk.loseLine_pin (b : Blk) (li : Nat) (p : Place) (h₀ : FaultPinRight b) : FaultPinRight (Blk.loseLine b li p) := by
  unfold Blk.loseLine
  repeat (first | with_reducible assumption | (with_reducible apply Blk.bump_pin) | (with_reducible apply Blk.poisonLine_pin) | with_reducible apply pin_ite)

theorem Blk.lossCheck_pin (b : Blk) (h₀ : FaultPinRight b) : FaultPinRight (Blk.lossCheck b) := by
  unfold Blk.lossCheck
  repeat (first | with_reducible assumption | (with_reducible apply Blk.loseLine_pin) | (with_reducible refine pin_foldl (fun c x hc => ?_) _ _ ?_) | with_reducible apply pin_ite | extract_lets | split | (dsimp +zetaDelta only))

theorem Blk.rerouteDie_pin (b : Blk) (d : Nat) (h₀ : FaultPinRight b) : FaultPinRight (Blk.rerouteDie b d) :=
  keep_pin (Blk.rerouteDie_only (m₀ := [.free, .out, .od, .hA, .hB, .can, .path, .lines, .media, .twill, .damask, .linen, .tweed]) b d (by decide) (only_refl _ _)) (by decide) h₀

theorem Blk.dieFail_pin (b : Blk) (d : Nat) (h₀ : FaultPinRight b) : FaultPinRight (Blk.dieFail b d) := by
  unfold Blk.dieFail
  repeat (first | with_reducible assumption | (with_reducible apply Blk.onSafety_pin) | (with_reducible apply Blk.onDie_pin) | (with_reducible apply Blk.reportUnit_pin) | (with_reducible apply Blk.degrade_pin) | (with_reducible apply Blk.rerouteDie_pin) | (with_reducible apply Blk.dropDieResets_pin) | (with_reducible apply Blk.lossCheck_pin) | with_reducible apply pin_ite | extract_lets | (dsimp +zetaDelta only))

theorem Blk.onChan_pin (b : Blk) (c : Nat) (f : ChanSt → ChanSt) (h₀ : FaultPinRight b) : FaultPinRight (Blk.onChan b c f) :=
  keep_pin (Blk.onChan_only (m₀ := [.media]) b c f (by decide) (only_refl _ _)) (by decide) h₀

theorem Blk.channelFail_pin (b : Blk) (c : Nat) (h₀ : FaultPinRight b) : FaultPinRight (Blk.channelFail b c) := by
  unfold Blk.channelFail
  repeat (first | with_reducible assumption | (with_reducible apply Blk.onChan_pin) | (with_reducible apply Blk.reportUnit_pin) | (with_reducible apply Blk.degrade_pin) | (with_reducible apply Blk.dieFail_pin) | (with_reducible refine pin_foldl (fun c x hc => ?_) _ _ ?_) | with_reducible apply pin_ite | extract_lets | (dsimp +zetaDelta only))

theorem Blk.tileFailure_pin (b : Blk) (d tile : Nat) (h₀ : FaultPinRight b) : FaultPinRight (Blk.tileFailure b d tile) := by
  unfold Blk.tileFailure
  repeat (first | with_reducible assumption | (with_reducible apply Blk.onDie_pin) | (with_reducible apply Blk.dieFail_pin) | with_reducible apply pin_ite | extract_lets | (dsimp +zetaDelta only))

theorem Blk.onEngine_pin (b : Blk) (e : Nat) (f : EngineSt → EngineSt) (h₀ : FaultPinRight b) : FaultPinRight (Blk.onEngine b e f) :=
  keep_pin (Blk.onEngine_only (m₀ := [.safety]) b e f (by decide) (only_refl _ _)) (by decide) h₀

theorem Blk.engineFail_pin (b : Blk) (e : Nat) (h₀ : FaultPinRight b) : FaultPinRight (Blk.engineFail b e) := by
  unfold Blk.engineFail
  repeat (first | with_reducible assumption | (with_reducible apply Blk.onSafety_pin) | (with_reducible apply Blk.report_pin) | (with_reducible apply Blk.reportUnit_pin) | (with_reducible apply Blk.degrade_pin) | (with_reducible apply Blk.detect_pin) | (with_reducible apply Blk.rerouteDie_pin) | (with_reducible apply Blk.channelFail_pin) | (with_reducible apply Blk.onEngine_pin) | (with_reducible refine pin_foldl (fun c x hc => ?_) _ _ ?_) | with_reducible apply pin_ite | extract_lets | split | (dsimp +zetaDelta only))

theorem Blk.onBank_pin (b : Blk) (k : Nat) (f : BankSt → BankSt) (h₀ : FaultPinRight b) : FaultPinRight (Blk.onBank b k f) :=
  keep_pin (Blk.onBank_only (m₀ := [.safety]) b k f (by decide) (only_refl _ _)) (by decide) h₀

theorem Blk.sliceOut_pin (b : Blk) (slice : Nat) (h₀ : FaultPinRight b) : FaultPinRight (Blk.sliceOut b slice) :=
  keep_pin (Blk.sliceOut_only (m₀ := [.velvet, .tweed, .safety]) b slice (by decide) (only_refl _ _)) (by decide) h₀

theorem Blk.bankLost_pin (b : Blk) (k : Nat) (h₀ : FaultPinRight b) : FaultPinRight (Blk.bankLost b k) := by
  unfold Blk.bankLost
  repeat (first | with_reducible assumption | (with_reducible apply Blk.onDamask_pin) | (with_reducible apply Blk.detect_pin) | (with_reducible apply Blk.engineFail_pin) | (with_reducible apply Blk.onBank_pin) | (with_reducible apply Blk.sliceOut_pin) | (with_reducible refine pin_foldl (fun c x hc => ?_) _ _ ?_) | extract_lets | split | (dsimp +zetaDelta only))

theorem Blk.bankFail_pin (b : Blk) (k : Nat) (h₀ : FaultPinRight b) : FaultPinRight (Blk.bankFail b k) := by
  unfold Blk.bankFail
  repeat (first | with_reducible assumption | (with_reducible apply Blk.onSafety_pin) | (with_reducible apply Blk.degrade_pin) | (with_reducible apply Blk.bankLost_pin) | with_reducible apply pin_ite | split)

theorem Blk.terryCheck_pin (b : Blk) (c : Cls) (slot s : Nat) (h₀ : FaultPinRight b) : FaultPinRight (Blk.terryCheck b c slot s).1 := by
  unfold Blk.terryCheck
  repeat (first | with_reducible assumption | (with_reducible apply Blk.bump_pin) | (with_reducible apply Blk.poisonLine_pin) | (with_reducible apply Blk.damaskFailure_pin) | (with_reducible refine pin_foldl (fun c x hc => ?_) _ _ ?_) | with_reducible apply pin_ite | extract_lets | split | with_reducible apply pin_ite_fst | dsimp only | (dsimp +zetaDelta only))

theorem Blk.dropJob_pin (b : Blk) (n : Nat) (h₀ : FaultPinRight b) : FaultPinRight (Blk.dropJob b n) :=
  keep_pin (Blk.dropJob_only (m₀ := [.twill]) b n (by decide) (only_refl _ _)) (by decide) h₀

theorem Blk.issueWrites_pin (b : Blk) (n : Nat) (ph : Phase) (ovw : Bool) (ws : Writes) (h₀ : FaultPinRight b) : FaultPinRight (Blk.issueWrites b n ph ovw ws) :=
  keep_pin (Blk.issueWrites_only (m₀ := [.free, .out, .od, .hA, .hB, .can, .lines, .media, .twill, .linen, .tweed]) b n ph ovw ws (by decide) (only_refl _ _)) (by decide) h₀

theorem Blk.lockJob_pin (b : Blk) (n : Nat) (ks : List Nat) (h₀ : FaultPinRight b) : FaultPinRight (Blk.lockJob b n ks) :=
  keep_pin (Blk.lockJob_only (m₀ := [.twill]) b n ks (by decide) (only_refl _ _)) (by decide) h₀

theorem Blk.terryReady_pin (b : Blk) (n : Nat) (j : Job) (c : Cls) (slot s : Nat) (h₀ : FaultPinRight b) : FaultPinRight (Blk.terryReady b n j c slot s) := by
  unfold Blk.terryReady
  refine pin_ite ?_ ?_
  · repeat (first | with_reducible assumption | (with_reducible apply onMedia_pin <;> [(intro; rfl); skip]) | (with_reducible apply Blk.dropJob_pin) | (with_reducible apply Blk.issueWrites_pin) | (with_reducible apply Blk.lockJob_pin) | (with_reducible apply Blk.terryCheck_pin) | (with_reducible apply onMedia_pin))
  · refine Blk.issueWrites_pin _ _ _ _ _ (Blk.lockJob_pin _ _ _ (pin_ite_fst ?_ h₀))
    repeat (first | with_reducible assumption | (with_reducible apply onMedia_pin <;> [(intro; rfl); skip]) | (with_reducible apply Blk.dropJob_pin) | (with_reducible apply Blk.issueWrites_pin) | (with_reducible apply Blk.lockJob_pin) | (with_reducible apply Blk.terryCheck_pin))

theorem Blk.clearHot_pin (b : Blk) (key : Nat) (h₀ : FaultPinRight b) : FaultPinRight (Blk.clearHot b key) :=
  keep_pin (Blk.clearHot_only (m₀ := [.twill]) b key (by decide) (only_refl _ _)) (by decide) h₀

theorem Blk.abandonDemotion_pin (b : Blk) (li : Nat) (h₀ : FaultPinRight b) : FaultPinRight (Blk.abandonDemotion b li) :=
  keep_pin (Blk.abandonDemotion_only (m₀ := [.velvet, .twill]) b li (by decide) (only_refl _ _)) (by decide) h₀

theorem Blk.invalidate_pin (b : Blk) (e : HotEntry) (h₀ : FaultPinRight b) : FaultPinRight (Blk.invalidate b e) :=
  keep_pin (Blk.invalidate_only (m₀ := [.twill]) b e (by decide) (only_refl _ _)) (by decide) h₀

theorem Blk.onJob_pin (b : Blk) (n : Nat) (f : Job → Job) (h₀ : FaultPinRight b) : FaultPinRight (Blk.onJob b n f) :=
  keep_pin (Blk.onJob_only (m₀ := [.twill]) b n f (by decide) (only_refl _ _)) (by decide) h₀

theorem Blk.jobAppend_pin (b : Blk) (n li : Nat) (data : Line) (h₀ : FaultPinRight b) : FaultPinRight (Blk.jobAppend b n li data) :=
  keep_pin (Blk.jobAppend_only (m₀ := [.free, .out, .od, .hA, .hB, .can, .lines, .media, .twill, .damask, .linen, .tweed]) b n li data (by decide) (only_refl _ _)) (by decide) h₀

theorem Blk.jobRegroup_pin (b : Blk) (n : Nat) (j : Job) (ti : Nat) (epoch : BitVec 8) (major : BitVec 24) (new : Option (Nat × Line)) (h₀ : FaultPinRight b) : FaultPinRight (Blk.jobRegroup b n j ti epoch major new) :=
  keep_pin (Blk.jobRegroup_only (m₀ := [.free, .out, .od, .hA, .hB, .can, .lines, .media, .twill, .damask, .linen, .tweed]) b n j ti epoch major new (by decide) (only_refl _ _)) (by decide) h₀

theorem Blk.jobCold_pin (b : Blk) (n : Nat) (j : Job) (li : Nat) (data : Line) (h₀ : FaultPinRight b) : FaultPinRight (Blk.jobCold b n j li data) :=
  keep_pin (Blk.jobCold_only (m₀ := [.free, .out, .od, .hA, .hB, .can, .lines, .media, .twill, .damask, .linen, .tweed]) b n j li data (by decide) (only_refl _ _)) (by decide) h₀

theorem Blk.scanReady_pin (b : Blk) (n : Nat) (j : Job) (key k : Nat) (h₀ : FaultPinRight b) : FaultPinRight (Blk.scanReady b n j key k) :=
  keep_pin (Blk.scanReady_only (m₀ := [.free, .out, .od, .hA, .hB, .can, .dev, .lines, .media, .twill, .linen, .tweed]) b n j key k (by decide) (only_refl _ _)) (by decide) h₀

theorem Blk.reload_pin (b : Blk) (d : Dom) (off : Nat) (h₀ : FaultPinRight b) : FaultPinRight (Blk.reload b d off) :=
  keep_pin (Blk.reload_only (m₀ := [.regs, .hA, .hB]) b d off (by decide) (only_refl _ _)) (by decide) h₀

theorem Blk.jobReady_pin (b : Blk) (n : Nat) (j : Job) (h₀ : FaultPinRight b) : FaultPinRight (Blk.jobReady b n j) := by
  unfold Blk.jobReady
  repeat (first | with_reducible assumption | (with_reducible apply onMedia_pin <;> [(intro; rfl); skip]) | (with_reducible apply Blk.onPath_pin) | (with_reducible apply Blk.onTwill_pin) | (with_reducible apply Blk.bump_pin) | (with_reducible apply Blk.tw_pin) | (with_reducible apply Blk.clearHot_pin) | (with_reducible apply Blk.putBuf_pin) | (with_reducible apply Blk.abandonDemotion_pin) | (with_reducible apply Blk.invalidate_pin) | (with_reducible apply Blk.program_pin) | (with_reducible apply Blk.onJob_pin) | (with_reducible apply Blk.dropJob_pin) | (with_reducible apply Blk.issueWrites_pin) | (with_reducible apply Blk.jobAppend_pin) | (with_reducible apply Blk.jobRegroup_pin) | (with_reducible apply Blk.jobCold_pin) | (with_reducible apply Blk.terryReady_pin) | (with_reducible apply Blk.scanReady_pin) | (with_reducible apply Blk.reload_pin) | with_reducible apply onMedia_pin | (with_reducible refine pin_foldl (fun c x hc => ?_) _ _ ?_) | with_reducible apply pin_ite | extract_lets | split | (dsimp +zetaDelta only))

theorem Blk.feedJob_pin (b : Blk) (n : Nat) (h₀ : FaultPinRight b) : FaultPinRight (Blk.feedJob b n) :=
  keep_pin (Blk.feedJob_only (m₀ := [.media, .twill]) b n (by decide) (only_refl _ _)) (by decide) h₀

theorem Blk.deepForJob_pin (n : Nat) (b : Blk) (li : Nat) (h₀ : FaultPinRight b) : FaultPinRight (Blk.deepForJob n b li) :=
  keep_pin (Blk.deepForJob_only (m₀ := [.od, .path, .twill, .tweed]) n b li (by decide) (only_refl _ _)) (by decide) h₀

theorem Blk.advanceJob_pin (b : Blk) (n : Nat) (h₀ : FaultPinRight b) : FaultPinRight (Blk.advanceJob b n) := by
  unfold Blk.advanceJob
  repeat (first | with_reducible assumption | (with_reducible apply Blk.onJob_pin) | (with_reducible apply Blk.feedJob_pin) | (with_reducible apply Blk.deepForJob_pin) | (with_reducible apply Blk.jobReady_pin) | (with_reducible refine pin_foldl (fun c x hc => ?_) _ _ ?_) | with_reducible apply pin_ite | extract_lets | split | (dsimp +zetaDelta only))

theorem Blk.shutdownLoss_pin (b : Blk) (li : Nat) (h₀ : FaultPinRight b) : FaultPinRight (Blk.shutdownLoss b li) := by
  unfold Blk.shutdownLoss
  repeat (first | with_reducible assumption | (with_reducible apply Blk.onDamask_pin) | (with_reducible apply Blk.bump_pin) | (with_reducible apply Blk.report_pin) | (with_reducible apply Blk.listHalf_pin) | with_reducible apply pin_ite | extract_lets | (dsimp +zetaDelta only))

theorem Blk.passRegion_pin (b : Blk) (r : Nat) (h₀ : FaultPinRight b) : FaultPinRight (Blk.passRegion b r) := by
  unfold Blk.passRegion
  repeat (first | with_reducible assumption | (with_reducible apply Blk.onTwill_pin) | (with_reducible apply Blk.onDamask_pin) | (with_reducible apply Blk.shutdownLoss_pin) | (with_reducible refine pin_foldl (fun c x hc => ?_) _ _ ?_) | with_reducible apply pin_ite | extract_lets | (dsimp +zetaDelta only))

theorem Blk.putRegion_pin (b : Blk) (r : Nat) (e : RegionEntry) (h₀ : FaultPinRight b) : FaultPinRight (Blk.putRegion b r e) :=
  keep_pin (Blk.putRegion_only (m₀ := [.twill]) b r e (by decide) (only_refl _ _)) (by decide) h₀

theorem Blk.freshStep_pin (b : Blk) (area : Nat) (c : Cls) (s : Nat) (h₀ : FaultPinRight b) : FaultPinRight (Blk.freshStep b area c s) :=
  keep_pin (Blk.freshStep_only (m₀ := [.od, .twill, .gauze, .tweed]) b area c s (by decide) (only_refl _ _)) (by decide) h₀

theorem Blk.stripeDone_pin (b : Blk) (r : Nat) (m : Move) (s : Nat) (h₀ : FaultPinRight b) : FaultPinRight (Blk.stripeDone b r m s) := by
  unfold Blk.stripeDone
  repeat (first | with_reducible assumption | (with_reducible apply Blk.onTwill_pin) | (with_reducible apply Blk.putRegion_pin) | (with_reducible apply Blk.journalRec_pin) | (with_reducible apply Blk.passRegion_pin) | (with_reducible apply Blk.freshStep_pin) | with_reducible apply pin_ite | extract_lets | split | (dsimp +zetaDelta only))

theorem Blk.bufferDone_pin (b : Blk) (n : Nat) (h₀ : FaultPinRight b) : FaultPinRight (Blk.bufferDone b n) :=
  keep_pin (Blk.bufferDone_only (m₀ := [.free, .out, .od, .hA, .hB, .can, .path, .lines, .media, .velvet, .twill, .damask, .linen, .tweed]) b n (by decide) (only_refl _ _)) (by decide) h₀

theorem Blk.throughDone_pin (b : Blk) (li since : Nat) (h₀ : FaultPinRight b) : FaultPinRight (Blk.throughDone b li since) :=
  keep_pin (Blk.throughDone_only (m₀ := [.free, .out, .od, .hA, .hB, .can, .path, .lines, .media, .velvet, .twill, .damask, .linen, .tweed]) b li since (by decide) (only_refl _ _)) (by decide) h₀

theorem Blk.lapStep_pin (b : Blk) (c : Cls) (n : Nat) (h₀ : FaultPinRight b) : FaultPinRight (Blk.lapStep b c n) :=
  keep_pin (Blk.lapStep_only (m₀ := [.out, .od, .hA, .hB, .can, .dev, .media, .linen]) b c n (by decide) (only_refl _ _)) (by decide) h₀

theorem Blk.scanOver_pin (b : Blk) (h₀ : FaultPinRight b) : FaultPinRight (Blk.scanOver b) :=
  keep_pin (Blk.scanOver_only (m₀ := [.out, .dev, .media]) b (by decide) (only_refl _ _)) (by decide) h₀

theorem Blk.tagWritten_pin (b : Blk) (ti : Nat) (h₀ : FaultPinRight b) : FaultPinRight (Blk.tagWritten b ti) :=
  keep_pin (Blk.tagWritten_only (m₀ := [.damask]) b ti (by decide) (only_refl _ _)) (by decide) h₀

theorem Blk.throughAgain_pin (b : Blk) (li : Nat) (h₀ : FaultPinRight b) : FaultPinRight (Blk.throughAgain b li) :=
  keep_pin (Blk.throughAgain_only (m₀ := [.free, .out, .od, .hA, .hB, .can, .path, .media, .twill, .linen, .tweed]) b li (by decide) (only_refl _ _)) (by decide) h₀

theorem Blk.homeWritten_pin (b : Blk) (li : Nat) (demoted stillHot stored : Blk → Blk) (h₀ : FaultPinRight b) (h1 : ∀ c, FaultPinRight c → FaultPinRight (demoted c)) (h2 : ∀ c, FaultPinRight c → FaultPinRight (stillHot c)) (h3 : ∀ c, FaultPinRight c → FaultPinRight (stored c)) : FaultPinRight (Blk.homeWritten b li demoted stillHot stored) := by
  unfold Blk.homeWritten
  refine pin_ite (h3 _ h₀) ?_
  split
  · exact pin_ite (h1 _ (keep_pin (Blk.gatherDemotion_only (m₀ := [.twill]) _ _ (by decide) (only_refl _ _)) (by decide) (Blk.onTwill_pin _ _ h₀))) (h2 _ h₀)
  · exact h2 _ h₀

theorem Blk.jobEffect_pin (b : Blk) (j : Job) (h₀ : FaultPinRight b) : FaultPinRight (Blk.jobEffect b j) := by
  unfold Blk.jobEffect
  have hid (c : Blk) (hc : FaultPinRight c) : FaultPinRight (id c) := hc
  split
  · split
    · exact Blk.homeWritten_pin _ _ _ _ _ h₀ (fun c hc => Blk.putBuf_pin _ _ _ hc) (fun c hc => Blk.putBuf_pin _ _ _ hc) (fun c hc => Blk.bufferDone_pin _ _ hc)
    · exact h₀
  · exact Blk.homeWritten_pin _ _ _ _ _ h₀ hid (fun c hc => Blk.throughAgain_pin _ _ hc) (fun c hc => Blk.throughDone_pin _ _ _ hc)
  · exact Blk.homeWritten_pin _ _ _ _ _ h₀ hid hid hid
  all_goals (repeat (first | with_reducible assumption | (with_reducible apply Blk.onSafety_pin) | (with_reducible apply Blk.bump_pin) | (with_reducible apply Blk.putBuf_pin) | (with_reducible apply Blk.bufferDone_pin) | (with_reducible apply Blk.throughDone_pin) | (with_reducible apply Blk.lapStep_pin) | (with_reducible apply Blk.scanOver_pin) | (with_reducible apply Blk.tagWritten_pin) | (with_reducible apply Blk.throughAgain_pin) | (with_reducible apply Blk.freshStep_pin) | (with_reducible apply Blk.stripeDone_pin) | split))

theorem Blk.issueHeld_pin (b : Blk) (n : Nat) (j : Job) (h₀ : FaultPinRight b) : FaultPinRight (Blk.issueHeld b n j) :=
  keep_pin (Blk.issueHeld_only (m₀ := [.free, .out, .od, .hA, .hB, .can, .lines, .media, .twill, .linen, .tweed]) b n j (by decide) (only_refl _ _)) (by decide) h₀

theorem Blk.jobOver_pin (b : Blk) (n : Nat) (h₀ : FaultPinRight b) : FaultPinRight (Blk.jobOver b n) := by
  unfold Blk.jobOver
  repeat (first | with_reducible assumption | (with_reducible apply Blk.dropJob_pin) | (with_reducible apply Blk.issueHeld_pin) | (with_reducible apply Blk.tagWritten_pin) | (with_reducible apply Blk.jobEffect_pin) | with_reducible apply pin_ite | split)

theorem Blk.advanceJobs_pin (b : Blk) (h₀ : FaultPinRight b) : FaultPinRight (Blk.advanceJobs b) := by
  unfold Blk.advanceJobs
  repeat (first | with_reducible assumption | (with_reducible apply Blk.advanceJob_pin) | (with_reducible apply Blk.jobOver_pin) | (with_reducible refine pin_foldl (fun c x hc => ?_) _ _ ?_))

theorem Blk.rebuildOver_pin (b : Blk) (h₀ : FaultPinRight b) : FaultPinRight (Blk.rebuildOver b) := by
  unfold Blk.rebuildOver
  repeat (first | with_reducible assumption | (with_reducible apply Blk.onSafety_pin) | (with_reducible apply Blk.degrade_pin) | with_reducible apply pin_ite)

theorem Blk.leaveSlot_pin (b : Blk) (slot : Nat) (h₀ : FaultPinRight b) : FaultPinRight (Blk.leaveSlot b slot) :=
  keep_pin (Blk.leaveSlot_only (m₀ := [.twill]) b slot (by decide) (only_refl _ _)) (by decide) h₀

theorem Blk.clearCells_pin (b : Blk) (d : Nat) (h₀ : FaultPinRight b) : FaultPinRight (Blk.clearCells b d) :=
  keep_pin (Blk.clearCells_only (m₀ := [.gauze]) b d (by decide) (only_refl _ _)) (by decide) h₀

theorem Blk.moveLines_pin (b : Blk) (key : Nat) (h₀ : FaultPinRight b) : FaultPinRight (Blk.moveLines b key) :=
  keep_pin (Blk.moveLines_only (m₀ := [.lines, .media]) b key (by decide) (only_refl _ _)) (by decide) h₀

theorem Blk.endRebuild_pin (b : Blk) (key d : Nat) (h₀ : FaultPinRight b) : FaultPinRight (Blk.endRebuild b key d) := by
  unfold Blk.endRebuild
  repeat (first | with_reducible assumption | (with_reducible apply onMedia_pin <;> [(intro; rfl); skip]) | (with_reducible apply Blk.onTwill_pin) | (with_reducible apply Blk.onSafety_pin) | (with_reducible apply Blk.bump_pin) | (with_reducible apply Blk.journalRec_pin) | (with_reducible apply Blk.leaveSlot_pin) | (with_reducible apply Blk.clearCells_pin) | (with_reducible apply Blk.rebuildOver_pin) | (with_reducible apply Blk.moveLines_pin) | with_reducible apply onMedia_pin | with_reducible apply pin_ite | extract_lets | (dsimp +zetaDelta only))

theorem Blk.startJob_pin (b : Blk) (j : Job) (h₀ : FaultPinRight b) : FaultPinRight (Blk.startJob b j) :=
  keep_pin (Blk.startJob_only (m₀ := [.free, .media, .twill, .tweed]) b j (by decide) (only_refl _ _)) (by decide) h₀

theorem Blk.stepRebuild_pin (b : Blk) (h₀ : FaultPinRight b) : FaultPinRight (Blk.stepRebuild b) := by
  unfold Blk.stepRebuild
  repeat (first | with_reducible assumption | (with_reducible apply Blk.startJob_pin) | (with_reducible apply Blk.endRebuild_pin) | with_reducible apply pin_ite | extract_lets | split | (dsimp +zetaDelta only))

theorem Blk.beginMigration_pin (b : Blk) (r : Nat) (e : RegionEntry) (slot : Nat) (cold : Bool) (h₀ : FaultPinRight b) : FaultPinRight (Blk.beginMigration b r e slot cold) := by
  unfold Blk.beginMigration
  repeat (first | with_reducible assumption | (with_reducible apply Blk.onTwill_pin) | (with_reducible apply Blk.setSlot_pin) | (with_reducible apply Blk.putRegion_pin) | (with_reducible apply Blk.lifeCheck_pin) | (with_reducible apply Blk.journalRec_pin) | (with_reducible apply Blk.resetSlot_pin) | extract_lets | (dsimp +zetaDelta only))

theorem Blk.dropMigration_pin (b : Blk) (r : Nat) (m : Migration) (e : RegionEntry) (h₀ : FaultPinRight b) : FaultPinRight (Blk.dropMigration b r m e) := by
  unfold Blk.dropMigration
  repeat (first | with_reducible assumption | (with_reducible apply onMedia_pin <;> [(intro; rfl); skip]) | (with_reducible apply Blk.onTwill_pin) | (with_reducible apply Blk.putRegion_pin) | (with_reducible apply Blk.freeSlot_pin) | (with_reducible apply Blk.dropJob_pin) | with_reducible apply onMedia_pin | (with_reducible refine pin_foldl (fun c x hc => ?_) _ _ ?_) | with_reducible apply pin_ite | extract_lets | split | (dsimp +zetaDelta only))

theorem Blk.startDemotion_pin (b : Blk) (li : Nat) (cand : Option Nat) (h₀ : FaultPinRight b) : FaultPinRight (Blk.startDemotion b li cand) :=
  keep_pin (Blk.startDemotion_only (m₀ := [.twill]) b li cand (by decide) (only_refl _ _)) (by decide) h₀

theorem Blk.areaNew_pin (b : Blk) (area : Nat) (h₀ : FaultPinRight b) : FaultPinRight (Blk.areaNew b area) :=
  keep_pin (Blk.areaNew_only (m₀ := [.gauze]) b area (by decide) (only_refl _ _)) (by decide) h₀

theorem Blk.endMigration_pin (b : Blk) (r : Nat) (m : Migration) (e : RegionEntry) (h₀ : FaultPinRight b) : FaultPinRight (Blk.endMigration b r m e) := by
  unfold Blk.endMigration
  repeat (first | with_reducible assumption | (with_reducible apply Blk.onTwill_pin) | (with_reducible apply Blk.bump_pin) | (with_reducible apply Blk.putRegion_pin) | (with_reducible apply Blk.startDemotion_pin) | (with_reducible apply Blk.journalRec_pin) | (with_reducible apply Blk.areaNew_pin) | (with_reducible apply Blk.giveUp_pin) | (with_reducible refine pin_foldl (fun c x hc => ?_) _ _ ?_) | with_reducible apply pin_ite | extract_lets | (dsimp +zetaDelta only))

theorem Blk.dropBroken_pin (b : Blk) (h₀ : FaultPinRight b) : FaultPinRight (Blk.dropBroken b) := by
  unfold Blk.dropBroken
  repeat (first | with_reducible assumption | (with_reducible apply Blk.dropMigration_pin) | (with_reducible refine pin_foldl (fun c x hc => ?_) _ _ ?_) | with_reducible apply pin_ite | split)

theorem Blk.startGroups_pin (b : Blk) (h₀ : FaultPinRight b) : FaultPinRight (Blk.startGroups b) :=
  keep_pin (Blk.startGroups_only (m₀ := [.free, .media, .twill, .damask, .tweed]) b (by decide) (only_refl _ _)) (by decide) h₀

theorem Blk.stepMove_pin (b : Blk) (r : Nat) (h₀ : FaultPinRight b) : FaultPinRight (Blk.stepMove b r) :=
  keep_pin (Blk.stepMove_only (m₀ := [.free, .media, .twill, .tweed]) b r (by decide) (only_refl _ _)) (by decide) h₀

theorem Blk.stepArea_pin (b : Blk) (area : Nat) (h₀ : FaultPinRight b) : FaultPinRight (Blk.stepArea b area) :=
  keep_pin (Blk.stepArea_only (m₀ := [.free, .media, .twill, .tweed]) b area (by decide) (only_refl _ _)) (by decide) h₀

theorem Blk.beginPasses_pin (b : Blk) (h₀ : FaultPinRight b) : FaultPinRight (Blk.beginPasses b) :=
  keep_pin (Blk.beginPasses_only (m₀ := [.free, .media, .twill, .tweed]) b (by decide) (only_refl _ _)) (by decide) h₀

theorem Blk.stepMoves_pin (b : Blk) (h₀ : FaultPinRight b) : FaultPinRight (Blk.stepMoves b) := by
  unfold Blk.stepMoves
  repeat (first | with_reducible assumption | (with_reducible apply Blk.startGroups_pin) | (with_reducible apply Blk.stepMove_pin) | (with_reducible apply Blk.stepArea_pin) | (with_reducible apply Blk.stepRebuild_pin) | (with_reducible apply Blk.beginPasses_pin) | (with_reducible apply Blk.dropBroken_pin) | (with_reducible refine pin_foldl (fun c x hc => ?_) _ _ ?_) | with_reducible apply pin_ite | extract_lets | (dsimp +zetaDelta only))

theorem Blk.drive_pin (b : Blk) (h₀ : FaultPinRight b) : FaultPinRight (Blk.drive b) := by
  unfold Blk.drive
  repeat (first | with_reducible assumption | (with_reducible apply Blk.issueRecords_pin) | (with_reducible apply Blk.advanceJobs_pin) | (with_reducible apply Blk.stepMoves_pin) | with_reducible apply pin_ite)

theorem Blk.cannotStore_pin (b : Blk) (li : Nat) (h₀ : FaultPinRight b) : FaultPinRight (Blk.cannotStore b li) := by
  unfold Blk.cannotStore
  repeat (first | with_reducible assumption | (with_reducible apply Blk.onPath_pin) | (with_reducible apply Blk.poisonLine_pin) | with_reducible apply pin_ite)

theorem Blk.startCold_pin (b : Blk) (w : Work) (li : Nat) (more : List Mem) (h₀ : FaultPinRight b) : FaultPinRight (Blk.startCold b w li more) :=
  keep_pin (Blk.startCold_only (m₀ := [.free, .media, .twill, .tweed]) b w li more (by decide) (only_refl _ _)) (by decide) h₀

theorem Blk.countStall_pin (b : Blk) (stall : Bool) (h₀ : FaultPinRight b) : FaultPinRight (Blk.countStall b stall) :=
  keep_pin (Blk.countStall_only (m₀ := [.od, .tweed]) b stall (by decide) (only_refl _ _)) (by decide) h₀

theorem Blk.coldBuffer_pin (b0 : Blk) (n : Nat) (x : HBuf) (e : EgressErr) (h₀ : FaultPinRight b0) : FaultPinRight (Blk.coldBuffer b0 n x e) := by
  unfold Blk.coldBuffer
  repeat (first | with_reducible assumption | (with_reducible apply Blk.report_pin) | (with_reducible apply Blk.bufferDone_pin) | (with_reducible apply Blk.egress_pin) | (with_reducible apply Blk.startCold_pin) | (with_reducible apply Blk.cannotStore_pin) | (with_reducible apply Blk.countStall_pin) | with_reducible apply pin_ite | extract_lets | split | (dsimp +zetaDelta only))

theorem Blk.completeWrites_pin (b : Blk) (li : Nat) (all : Bool) (h₀ : FaultPinRight b) : FaultPinRight (Blk.completeWrites b li all) :=
  keep_pin (Blk.completeWrites_only (m₀ := [.free, .out, .od, .hA, .hB, .can, .path, .lines, .media, .twill, .damask, .linen, .tweed]) b li all (by decide) (only_refl _ _)) (by decide) h₀

theorem Blk.coldThrough_pin (b0 : Blk) (li : Nat) (e : EgressErr) (h₀ : FaultPinRight b0) : FaultPinRight (Blk.coldThrough b0 li e) := by
  unfold Blk.coldThrough
  repeat (first | with_reducible assumption | (with_reducible apply Blk.completeWrites_pin) | (with_reducible apply Blk.egress_pin) | (with_reducible apply Blk.throughAgain_pin) | (with_reducible apply Blk.startCold_pin) | (with_reducible apply Blk.cannotStore_pin) | (with_reducible apply Blk.countStall_pin) | with_reducible apply pin_ite | extract_lets | split | (dsimp +zetaDelta only))

theorem Blk.setHot_pin (b : Blk) (li slot stripe pos : Nat) (h₀ : FaultPinRight b) : FaultPinRight (Blk.setHot b li slot stripe pos) :=
  keep_pin (Blk.setHot_only (m₀ := [.od, .twill, .damask, .tweed]) b li slot stripe pos (by decide) (only_refl _ _)) (by decide) h₀

theorem Blk.markUsed_pin (b : Blk) (li : Nat) (h₀ : FaultPinRight b) : FaultPinRight (Blk.markUsed b li) :=
  keep_pin (Blk.markUsed_only (m₀ := [.velvet]) b li (by decide) (only_refl _ _)) (by decide) h₀

theorem Blk.wasteCopy_pin (b : Blk) (slot stripe : Nat) (h₀ : FaultPinRight b) : FaultPinRight (Blk.wasteCopy b slot stripe) :=
  keep_pin (Blk.wasteCopy_only (m₀ := [.twill]) b slot stripe (by decide) (only_refl _ _)) (by decide) h₀

theorem Blk.applySwitch_pin (b : Blk) (li : Nat) (why : ProgFor) (since : Nat) (h₀ : FaultPinRight b) : FaultPinRight (Blk.applySwitch b li why since) := by
  unfold Blk.applySwitch
  repeat (first | with_reducible assumption | (with_reducible apply Blk.setHot_pin) | (with_reducible apply Blk.bufferDone_pin) | (with_reducible apply Blk.throughDone_pin) | (with_reducible apply Blk.dropJob_pin) | (with_reducible apply Blk.jobEffect_pin) | (with_reducible apply Blk.markUsed_pin) | (with_reducible apply Blk.wasteCopy_pin) | split)

theorem Blk.switchLine_pin (b : Blk) (li : Nat) (why : ProgFor) (since : Nat) (h₀ : FaultPinRight b) : FaultPinRight (Blk.switchLine b li why since) := by
  unfold Blk.switchLine
  repeat (first | with_reducible assumption | (with_reducible apply onMedia_pin <;> [(intro; rfl); skip]) | (with_reducible apply Blk.applySwitch_pin) | with_reducible apply onMedia_pin | with_reducible apply pin_ite)

theorem Blk.pumpSwitches_pin (b : Blk) (h₀ : FaultPinRight b) : FaultPinRight (Blk.pumpSwitches b) := by
  unfold Blk.pumpSwitches
  repeat (first | with_reducible assumption | (with_reducible apply onMedia_pin <;> [(intro; rfl); skip]) | (with_reducible apply Blk.switchLine_pin) | with_reducible apply onMedia_pin | (with_reducible refine pin_foldl (fun c x hc => ?_) _ _ ?_))

theorem Blk.storeLine_pin (b : Blk) (loc : Nat) (x : MLine) (h₀ : FaultPinRight b) : FaultPinRight (Blk.storeLine b loc x) :=
  keep_pin (Blk.storeLine_only (m₀ := [.lines]) b loc x (by decide) (only_refl _ _)) (by decide) h₀

theorem Blk.closeFull_pin (b : Blk) (slot stripe pos : Nat) (now : Bool := false) (h₀ : FaultPinRight b) : FaultPinRight (Blk.closeFull b slot stripe pos now) :=
  keep_pin (Blk.closeFull_only (m₀ := [.free, .out, .od, .hA, .hB, .can, .lines, .media, .twill, .linen, .tweed]) b slot stripe pos now (by decide) (only_refl _ _)) (by decide) h₀

theorem Blk.takePosition_pin (b : Blk) (li : Nat) (data : Line) (n : Nat) (l : Lane) (h₀ : FaultPinRight b) : FaultPinRight (Blk.takePosition b li data n l).1 :=
  keep_pin (Blk.takePosition_only (m₀ := [.twill, .tweed]) b li data n l (by decide) (only_refl _ _)) (by decide) h₀

theorem Blk.keepWay_pin (b : Blk) (li : Nat) (h₀ : FaultPinRight b) : FaultPinRight (Blk.keepWay b li) :=
  keep_pin (Blk.keepWay_only (m₀ := [.twill]) b li (by decide) (only_refl _ _)) (by decide) h₀

theorem Blk.hotWrite_pin (b : Blk) (n : Nat) (x : HBuf) (lane : Nat) (l : Lane) (h₀ : FaultPinRight b) : FaultPinRight (Blk.hotWrite b n x lane l) := by
  unfold Blk.hotWrite
  repeat (first | with_reducible assumption | (with_reducible apply Blk.storeLine_pin) | (with_reducible apply Blk.putBuf_pin) | (with_reducible apply Blk.program_pin) | (with_reducible apply Blk.closeFull_pin) | (with_reducible apply Blk.takePosition_pin) | (with_reducible apply Blk.keepWay_pin) | (with_reducible apply Blk.switchLine_pin) | with_reducible apply pin_ite | extract_lets | (dsimp +zetaDelta only))

theorem Blk.recordStored_pin (b : Blk) (x : Mem) (h₀ : FaultPinRight b) : FaultPinRight (Blk.recordStored b x) :=
  keep_pin (Blk.recordStored_only (m₀ := [.free, .out, .od, .hA, .hB, .can, .path, .media, .linen, .tweed]) b x (by decide) (only_refl _ _)) (by decide) h₀

theorem Blk.programStored_pin (b : Blk) (why : ProgFor) (since : Nat) (h₀ : FaultPinRight b) : FaultPinRight (Blk.programStored b why since) := by
  unfold Blk.programStored
  extract_lets b1
  have hb : FaultPinRight b1 := keep_pin (Blk.closeAfter_only (m₀ := [.free, .out, .od, .hA, .hB, .can, .lines, .media, .twill, .linen, .tweed]) b why (by decide) (only_refl _ _)) (by decide) h₀
  clear_value b1
  repeat (first | with_reducible assumption | (with_reducible apply onMedia_pin <;> [(intro; rfl); skip]) | (with_reducible apply Blk.recordStored_pin) | (with_reducible apply Blk.onJob_pin) | (with_reducible apply Blk.dropJob_pin) | (with_reducible apply Blk.wasteCopy_pin) | (with_reducible apply Blk.switchLine_pin) | split)

theorem Blk.recordAgain_pin (b : Blk) (x : Mem) (c : MLine) (h₀ : FaultPinRight b) : FaultPinRight (Blk.recordAgain b x c) :=
  keep_pin (Blk.recordAgain_only (m₀ := [.free, .out, .od, .hA, .hB, .can, .path, .media, .twill, .linen, .tweed]) b x c (by decide) (only_refl _ _)) (by decide) h₀

theorem Blk.closeFailed_pin (b : Blk) (slot stripe : Nat) (h₀ : FaultPinRight b) : FaultPinRight (Blk.closeFailed b slot stripe) :=
  keep_pin (Blk.closeFailed_only (m₀ := [.free, .out, .od, .hA, .hB, .can, .lines, .media, .twill, .linen, .tweed]) b slot stripe (by decide) (only_refl _ _)) (by decide) h₀

theorem Blk.jobFailed_pin (b : Blk) (j : Nat) (x : Mem) (loc : Nat) (c : MLine) (h₀ : FaultPinRight b) : FaultPinRight (Blk.jobFailed b j x loc c) :=
  keep_pin (Blk.jobFailed_only (m₀ := [.free, .out, .od, .hA, .hB, .can, .path, .media, .velvet, .twill, .linen, .tweed]) b j x loc c (by decide) (only_refl _ _)) (by decide) h₀

theorem Blk.retireLocation_pin (b : Blk) (pid line : Nat) (c : MLine) (why : ProgFor) (h₀ : FaultPinRight b) : FaultPinRight (Blk.retireLocation b pid line c why) := by
  unfold Blk.retireLocation
  repeat (first | with_reducible assumption | (with_reducible apply onMedia_pin <;> [(intro; rfl); skip]) | (with_reducible apply Blk.onTwill_pin) | (with_reducible apply Blk.reportUnit_pin) | (with_reducible apply Blk.storeLine_pin) | (with_reducible apply Blk.putBuf_pin) | (with_reducible apply Blk.recordAgain_pin) | (with_reducible apply Blk.onJob_pin) | (with_reducible apply Blk.tileFailure_pin) | (with_reducible apply Blk.throughAgain_pin) | (with_reducible apply Blk.leaveSlot_pin) | (with_reducible apply Blk.closeFailed_pin) | (with_reducible apply Blk.jobFailed_pin) | with_reducible apply onMedia_pin | with_reducible apply pin_ite | extract_lets | split | (dsimp +zetaDelta only))

theorem Blk.reprogram_pin (b : Blk) (pid line : Nat) (c : MLine) (why : ProgFor) (ovw : Bool) (tries : Nat) (h₀ : FaultPinRight b) : FaultPinRight (Blk.reprogram b pid line c why ovw tries) :=
  keep_pin (Blk.reprogram_only (m₀ := [.free, .out, .od, .hA, .hB, .can, .media, .twill, .linen, .tweed]) b pid line c why ovw tries (by decide) (only_refl _ _)) (by decide) h₀

theorem Blk.verifyEnds_pin (b : Blk) (pid : Nat) (same : Bool) (h₀ : FaultPinRight b) : FaultPinRight (Blk.verifyEnds b pid same) := by
  unfold Blk.verifyEnds
  repeat (first | with_reducible assumption | (with_reducible apply Blk.onPart_pin) | (with_reducible apply Blk.programStored_pin) | (with_reducible apply Blk.retireLocation_pin) | (with_reducible apply Blk.reprogram_pin) | with_reducible apply pin_ite | split)

theorem Blk.dieBusy_pin (b : Blk) (d ns : Nat) (h₀ : FaultPinRight b) : FaultPinRight (Blk.dieBusy b d ns) :=
  keep_pin (Blk.dieBusy_only (m₀ := [.media, .tweed]) b d ns (by decide) (only_refl _ _)) (by decide) h₀

theorem Blk.askVerify_pin (b : Blk) (pid : Nat) (h₀ : FaultPinRight b) : FaultPinRight (Blk.askVerify b pid) :=
  keep_pin (Blk.askVerify_only (m₀ := [.media]) b pid (by decide) (only_refl _ _)) (by decide) h₀

theorem Blk.programEnds_pin (b0 : Blk) (pid : Nat) (ok : Bool) (h₀ : FaultPinRight b0) : FaultPinRight (Blk.programEnds b0 pid ok) := by
  unfold Blk.programEnds
  repeat (first | with_reducible assumption | (with_reducible apply onMedia_pin <;> [(intro; rfl); skip]) | (with_reducible apply Blk.bump_pin) | (with_reducible apply Blk.dieBusy_pin) | (with_reducible apply Blk.onPart_pin) | (with_reducible apply Blk.storeLine_pin) | (with_reducible apply Blk.program_pin) | (with_reducible apply Blk.programStored_pin) | (with_reducible apply Blk.retireLocation_pin) | (with_reducible apply Blk.askVerify_pin) | with_reducible apply onMedia_pin | (with_reducible refine pin_foldl (fun c x hc => ?_) _ _ ?_) | with_reducible apply pin_ite | extract_lets | split | (dsimp +zetaDelta only))

theorem Blk.pump_pin (b : Blk) (d : Nat) (h₀ : FaultPinRight b) : FaultPinRight (Blk.pump b d) :=
  keep_pin (Blk.pump_only (m₀ := [.free, .out, .od, .hA, .hB, .can, .media, .twill, .linen, .tweed]) b d (by decide) (only_refl _ _)) (by decide) h₀

theorem Blk.goOn_pin (b : Blk) (d : Nat) (h₀ : FaultPinRight b) : FaultPinRight (Blk.goOn b d) := by
  unfold Blk.goOn
  repeat (first | with_reducible assumption | (with_reducible apply Blk.pump_pin) | (with_reducible apply Blk.drive_pin) | (with_reducible apply Blk.pumpSwitches_pin))

theorem Blk.blankTiles_pin (b : Blk) (pid tile count : Nat) (h₀ : FaultPinRight b) : FaultPinRight (Blk.blankTiles b pid tile count) :=
  keep_pin (Blk.blankTiles_only (m₀ := [.lines, .media]) b pid tile count (by decide) (only_refl _ _)) (by decide) h₀

theorem Blk.retireTile_pin (b : Blk) (key : Nat) (h₀ : FaultPinRight b) : FaultPinRight (Blk.retireTile b key) :=
  keep_pin (Blk.retireTile_only (m₀ := [.twill]) b key (by decide) (only_refl _ _)) (by decide) h₀

theorem Blk.resetEnds_pin (b : Blk) (pid : Nat) (ok : Bool) (h₀ : FaultPinRight b) : FaultPinRight (Blk.resetEnds b pid ok) := by
  unfold Blk.resetEnds
  repeat (first | with_reducible assumption | (with_reducible apply Blk.bump_pin) | (with_reducible apply Blk.reportUnit_pin) | (with_reducible apply Blk.dieBusy_pin) | (with_reducible apply Blk.onPart_pin) | (with_reducible apply Blk.resetOver_pin) | (with_reducible apply Blk.tileFailure_pin) | (with_reducible apply Blk.blankTiles_pin) | (with_reducible apply Blk.retireTile_pin) | with_reducible apply pin_ite | extract_lets | split | (dsimp +zetaDelta only))

theorem Blk.reconOnce_pin (b : Blk) (rid : Nat) (h₀ : FaultPinRight b) : FaultPinRight (Blk.reconOnce b rid) :=
  keep_pin (Blk.reconOnce_only (m₀ := [.free, .od, .path, .media, .tweed]) b rid (by decide) (only_refl _ _)) (by decide) h₀

theorem Blk.openOwn_pin (b : Blk) (rid : Nat) (a : Acc) (p : Place) (e : DpErr) (h₀ : FaultPinRight b) : FaultPinRight (Blk.openOwn b rid a p e) := by
  unfold Blk.openOwn
  repeat (first | with_reducible assumption | (with_reducible apply Blk.onAcc_pin) | (with_reducible apply Blk.lineData_pin) | (with_reducible apply Blk.reconOnce_pin) | with_reducible apply pin_ite | split)

theorem Blk.resumeHeld_pin (b : Blk) (x : Acc) (e : DpErr) (h₀ : FaultPinRight b) : FaultPinRight (Blk.resumeHeld b x e) := by
  unfold Blk.resumeHeld
  repeat (first | with_reducible assumption | (with_reducible apply Blk.onAcc_pin) | (with_reducible apply Blk.lineData_pin) | (with_reducible apply Blk.startRead_pin) | (with_reducible apply Blk.openOwn_pin) | with_reducible apply pin_ite | split)

theorem Blk.tagArrives_pin (b : Blk) (ti : Nat) (h₀ : FaultPinRight b) : FaultPinRight (Blk.tagArrives b ti) := by
  unfold Blk.tagArrives
  repeat (first | with_reducible assumption | (with_reducible apply Blk.onAcc_pin) | (with_reducible apply Blk.resumeHeld_pin) | (with_reducible refine pin_foldl (fun c x hc => ?_) _ _ ?_) | extract_lets | split | (dsimp +zetaDelta only))

theorem Blk.settleTag_pin (b : Blk) (rid : Nat) (h₀ : FaultPinRight b) : FaultPinRight (Blk.settleTag b rid) := by
  unfold Blk.settleTag
  repeat (first | with_reducible assumption | (with_reducible apply Blk.onAcc_pin) | (with_reducible apply Blk.startDeep_pin) | (with_reducible apply Blk.tagArrives_pin) | (with_reducible refine pin_foldl (fun c x hc => ?_) _ _ ?_) | with_reducible apply pin_ite | split)

theorem Blk.settleLists_pin (b : Blk) (h₀ : FaultPinRight b) : FaultPinRight (Blk.settleLists b) := by
  unfold Blk.settleLists
  repeat (first | with_reducible assumption | (with_reducible apply Blk.onAcc_pin) | (with_reducible apply Blk.resumeHeld_pin) | (with_reducible refine pin_foldl (fun c x hc => ?_) _ _ ?_) | split)

theorem Blk.settleTags_pin (b : Blk) (h₀ : FaultPinRight b) : FaultPinRight (Blk.settleTags b) := by
  unfold Blk.settleTags
  repeat (first | with_reducible assumption | (with_reducible apply Blk.settleTag_pin) | (with_reducible apply Blk.settleLists_pin) | (with_reducible refine pin_foldl (fun c x hc => ?_) _ _ ?_))

theorem Blk.marginOn_pin (b : Blk) (pid : Nat) (h₀ : FaultPinRight b) : FaultPinRight (Blk.marginOn b pid) :=
  keep_pin (Blk.marginOn_only (m₀ := [.free, .out, .media, .gauze, .tweed]) b pid (by decide) (only_refl _ _)) (by decide) h₀

theorem Blk.readOn_pin (b : Blk) (d : Nat) (h₀ : FaultPinRight b) : FaultPinRight (Blk.readOn b d) := by
  unfold Blk.readOn
  repeat (first | with_reducible assumption | (with_reducible apply Blk.askVerify_pin) | (with_reducible apply Blk.goOn_pin) | (with_reducible apply Blk.marginOn_pin) | (with_reducible apply Blk.settleTags_pin) | (with_reducible refine pin_foldl (fun c x hc => ?_) _ _ ?_))

theorem Blk.jobRead_pin (b : Blk) (n : Nat) (x : Mem) (ok : Bool) (h₀ : FaultPinRight b) : FaultPinRight (Blk.jobRead b n x ok) :=
  keep_pin (Blk.jobRead_only (m₀ := [.twill]) b n x ok (by decide) (only_refl _ _)) (by decide) h₀

theorem Blk.fromBuffer_pin (b : Blk) (t : ReadTask) (h₀ : FaultPinRight b) : FaultPinRight (Blk.fromBuffer b t) := by
  unfold Blk.fromBuffer
  repeat (first | with_reducible assumption | (with_reducible apply Blk.onAcc_pin) | (with_reducible apply Blk.lineData_pin) | (with_reducible apply Blk.startRead_pin) | (with_reducible apply Blk.jobRead_pin) | (with_reducible apply Blk.openOwn_pin) | (with_reducible apply Blk.tagArrives_pin) | with_reducible apply pin_ite | split)

theorem Blk.tagRecon_pin (b : Blk) (rid ti : Nat) (h₀ : FaultPinRight b) : FaultPinRight (Blk.tagRecon b rid ti) :=
  keep_pin (Blk.tagRecon_only (m₀ := [.free, .out, .od, .hA, .hB, .can, .path, .lines, .media, .twill, .damask, .linen, .tweed]) b rid ti (by decide) (only_refl _ _)) (by decide) h₀

theorem Blk.erase_pin (b : Blk) (rid m : Nat) (h₀ : FaultPinRight b) : FaultPinRight (Blk.erase b rid m) :=
  keep_pin (Blk.erase_only (m₀ := [.path]) b rid m (by decide) (only_refl _ _)) (by decide) h₀

theorem Blk.readLost_pin (b : Blk) (t : ReadTask) (h₀ : FaultPinRight b) : FaultPinRight (Blk.readLost b t) := by
  unfold Blk.readLost
  repeat (first | with_reducible assumption | (with_reducible apply Blk.onAcc_pin) | (with_reducible apply Blk.tagRecon_pin) | (with_reducible apply Blk.erase_pin) | (with_reducible apply Blk.reconOnce_pin) | (with_reducible apply Blk.jobRead_pin) | (with_reducible apply Blk.verifyEnds_pin) | split)

theorem Blk.twChan_pin (b : Blk) (ch event : Nat) (h₀ : FaultPinRight b) : FaultPinRight (Blk.twChan b ch event) :=
  keep_pin (Blk.twChan_only (m₀ := [.free, .tweed]) b ch event (by decide) (only_refl _ _)) (by decide) h₀

theorem Blk.sendDie_pin (b : Blk) (d : Nat) (c : DieCmd) (h₀ : FaultPinRight b) : FaultPinRight (Blk.sendDie b d c) :=
  keep_pin (Blk.sendDie_only (m₀ := [.out, .media]) b d c (by decide) (only_refl _ _)) (by decide) h₀

theorem Blk.replaysExhausted_pin (b : Blk) (ch : Nat) (h₀ : FaultPinRight b) : FaultPinRight (Blk.replaysExhausted b ch) :=
  keep_pin (Blk.replaysExhausted_only (m₀ := [.out, .od, .hA, .hB, .can, .media, .linen]) b ch (by decide) (only_refl _ _)) (by decide) h₀

theorem Blk.besideReplay_pin (b : Blk) (t : ReadTask) (h₀ : FaultPinRight b) : FaultPinRight (Blk.besideReplay b t) :=
  keep_pin (Blk.besideReplay_only (m₀ := [.free, .out, .od, .hA, .hB, .can, .path, .lines, .media, .twill, .damask, .linen, .tweed]) b t (by decide) (only_refl _ _)) (by decide) h₀

theorem Blk.transferFailed_pin (b : Blk) (pid : Nat) (t : ReadTask) (strobe : Bool) (h₀ : FaultPinRight b) : FaultPinRight (Blk.transferFailed b pid t strobe) := by
  unfold Blk.transferFailed
  repeat (first | with_reducible assumption | (with_reducible apply Blk.bump_pin) | (with_reducible apply Blk.twChan_pin) | (with_reducible apply Blk.onPart_pin) | (with_reducible apply Blk.sendDie_pin) | (with_reducible apply Blk.replaysExhausted_pin) | (with_reducible apply Blk.besideReplay_pin) | (with_reducible apply Blk.readLost_pin) | with_reducible apply pin_ite | extract_lets | (dsimp +zetaDelta only))

theorem Blk.lineRead_pin (b : Blk) (t : ReadTask) (e : DpErr) (h₀ : FaultPinRight b) : FaultPinRight (Blk.lineRead b t e) := by
  unfold Blk.lineRead
  repeat (first | with_reducible assumption | (with_reducible apply Blk.onAcc_pin) | (with_reducible apply Blk.startRead_pin) | (with_reducible apply Blk.jobRead_pin) | (with_reducible apply Blk.verifyEnds_pin) | (with_reducible apply Blk.openOwn_pin) | (with_reducible apply Blk.tagArrives_pin) | split)

theorem Blk.checkLine_pin (b : Blk) (t : ReadTask) (x : Xfer) (h₀ : FaultPinRight b) : FaultPinRight (Blk.checkLine b t x).1 :=
  keep_pin (Blk.checkLine_only (m₀ := [.free, .out, .od, .hA, .hB, .can, .media, .gauze, .linen, .tweed]) b t x (by decide) (only_refl _ _)) (by decide) h₀

theorem Blk.transferred_pin (b : Blk) (t : ReadTask) (x : Xfer) (h₀ : FaultPinRight b) : FaultPinRight (Blk.transferred b t x) := by
  unfold Blk.transferred
  repeat (first | with_reducible assumption | (with_reducible apply Blk.startRead_pin) | (with_reducible apply Blk.readLost_pin) | (with_reducible apply Blk.checkLine_pin) | (with_reducible apply Blk.lineRead_pin) | with_reducible apply pin_ite | extract_lets | split | (dsimp +zetaDelta only))

theorem Blk.phaseSeen_pin (b : Blk) (d : Nat) (x : Xfer) (h₀ : FaultPinRight b) : FaultPinRight (Blk.phaseSeen b d x) :=
  keep_pin (Blk.phaseSeen_only (m₀ := [.media]) b d x (by decide) (only_refl _ _)) (by decide) h₀

theorem Blk.softRead_pin (b : Blk) (loc : Nat) (h₀ : FaultPinRight b) : FaultPinRight (Blk.softRead b loc) :=
  keep_pin (Blk.softRead_only (m₀ := [.path]) b loc (by decide) (only_refl _ _)) (by decide) h₀

theorem Blk.marginTransfer_pin (b0 : Blk) (pid : Nat) (x : Xfer) (h₀ : FaultPinRight b0) : FaultPinRight (Blk.marginTransfer b0 pid x) := by
  unfold Blk.marginTransfer
  repeat (first | with_reducible assumption | (with_reducible apply Blk.onPart_pin) | (with_reducible apply Blk.dieStatus_pin) | (with_reducible apply Blk.checkLine_pin) | (with_reducible apply Blk.phaseSeen_pin) | (with_reducible apply Blk.softRead_pin) | with_reducible apply pin_ite | extract_lets | split | (dsimp +zetaDelta only))

theorem Blk.deadlineList_pin (b : Blk) (d : Deep) (h₀ : FaultPinRight b) : FaultPinRight (Blk.deadlineList b d) := by
  unfold Blk.deadlineList
  repeat (first | with_reducible assumption | (with_reducible apply Blk.onPath_pin) | (with_reducible apply Blk.poisonRest_pin) | with_reducible apply pin_ite)

theorem Blk.onCan_pin (b : Blk) (f : Can → Can) (h₀ : FaultPinRight b) : FaultPinRight (Blk.onCan b f) :=
  keep_pin (Blk.onCan_only (m₀ := [.can]) b f (by decide) (only_refl _ _)) (by decide) h₀

theorem Blk.newNonce_pin (b : Blk) (h₀ : FaultPinRight b) : FaultPinRight (Blk.newNonce b) :=
  keep_pin (Blk.newNonce_only (m₀ := [.rng, .can]) b (by decide) (only_refl _ _)) (by decide) h₀

theorem Blk.macFailed_pin (b : Blk) (h₀ : FaultPinRight b) : FaultPinRight (Blk.macFailed b) :=
  keep_pin (Blk.macFailed_only (m₀ := [.out, .od, .hA, .hB, .can, .linen]) b (by decide) (only_refl _ _)) (by decide) h₀

theorem Blk.withMac_pin (b : Blk) (ctr : BitVec 32) (mac : BitVec 64) (op : Nat) (bytes : List Byte) (f : Blk → Blk) (hf : ∀ c, FaultPinRight c → FaultPinRight (f c)) (h₀ : FaultPinRight b) : FaultPinRight (Blk.withMac b ctr mac op bytes f) := by
  unfold Blk.withMac
  repeat (first | with_reducible assumption | (with_reducible apply Blk.onCan_pin) | (with_reducible apply Blk.newNonce_pin) | (with_reducible apply Blk.macFailed_pin) | (exact h₀) | (with_reducible apply hf) | (with_reducible apply pin_ite) | extract_lets | split | (intro c hc) | exact h₀)

theorem Blk.canSend_pin (b : Blk) (f : BitVec 512) (h₀ : FaultPinRight b) : FaultPinRight (Blk.canSend b f) :=
  keep_pin (Blk.canSend_only (m₀ := [.out]) b f (by decide) (only_refl _ _)) (by decide) h₀

theorem Blk.reply_pin (b : Blk) (src : Src) (r : Reply) (h₀ : FaultPinRight b) : FaultPinRight (Blk.reply b src r) :=
  keep_pin (Blk.reply_only (m₀ := [.out, .can]) b src r (by decide) (only_refl _ _)) (by decide) h₀

theorem Blk.canStatus_pin (b : Blk) (tr : BitVec 8) (q : DReq) (st : Nat) (h₀ : FaultPinRight b) : FaultPinRight (Blk.canStatus b tr q st) :=
  keep_pin (Blk.canStatus_only (m₀ := [.out]) b tr q st (by decide) (only_refl _ _)) (by decide) h₀

theorem Blk.canAdmit_pin (b : Blk) (tr : BitVec 8) (maint : Bool) (ctr : BitVec 32) (mac : BitVec 64) (q : DReq) (f : Blk → Blk) (hf : ∀ c, FaultPinRight c → FaultPinRight (f c)) (h₀ : FaultPinRight b) : FaultPinRight (Blk.canAdmit b tr maint ctr mac q f) := by
  unfold Blk.canAdmit
  repeat (first | with_reducible assumption | (with_reducible apply Blk.onCan_pin) | (with_reducible apply Blk.canSend_pin) | (with_reducible apply Blk.reply_pin) | (with_reducible apply Blk.withMac_pin <;> [(intros; try dsimp only); skip]) | (with_reducible apply Blk.canStatus_pin) | (exact h₀) | (with_reducible apply hf) | (with_reducible apply pin_ite) | extract_lets | split | (intro c hc) | exact h₀)

theorem Blk.twEngine_pin (b : Blk) (base : Nat) (h₀ : FaultPinRight b) : FaultPinRight (Blk.twEngine b base) :=
  keep_pin (Blk.twEngine_only (m₀ := [.free, .tweed]) b base (by decide) (only_refl _ _)) (by decide) h₀

theorem Blk.touch_pin (b : Blk) (src : Src) (h₀ : FaultPinRight b) : FaultPinRight (Blk.touch b src) :=
  keep_pin (Blk.touch_only (m₀ := [.sesA, .sesB, .sesC]) b src (by decide) (only_refl _ _)) (by decide) h₀

theorem Blk.admitReq_pin (b : Blk) (src : Src) (q : DReq) (f : Blk → Blk) (hf : ∀ c, FaultPinRight c → FaultPinRight (f c)) (h₀ : FaultPinRight b) : FaultPinRight (Blk.admitReq b src q f) := by
  unfold Blk.admitReq
  repeat (first | with_reducible assumption | (with_reducible apply Blk.twEngine_pin) | (with_reducible apply Blk.touch_pin) | (with_reducible apply Blk.canAdmit_pin <;> [(intros; try dsimp only); skip]) | (with_reducible apply hf) | (with_reducible apply pin_ite) | extract_lets | split | (intro c hc))

theorem Blk.writeReq_pin (b : Blk) (src : Src) (idx sub : Nat) (val : List Byte) (act : Nat → Blk → Blk) (hf : ∀ v c, FaultPinRight c → FaultPinRight (act v c)) (h₀ : FaultPinRight b) : FaultPinRight (Blk.writeReq b src idx sub val act) := by
  unfold Blk.writeReq
  repeat (first | with_reducible assumption | (with_reducible apply Blk.reply_pin) | (with_reducible apply Blk.admitReq_pin <;> [(intros; try dsimp only); skip]) | (with_reducible apply hf) | (with_reducible apply pin_ite) | extract_lets | split | (intro c hc))

theorem Blk.bulkAnswer_pin (b : Blk) (src : Src) (op idx sub st : Nat) (total crc : Nat := 0) (chunk : List Byte := []) (h₀ : FaultPinRight b) : FaultPinRight (Blk.bulkAnswer b src op idx sub st total crc chunk) :=
  keep_pin (Blk.bulkAnswer_only (m₀ := [.out, .can]) b src op idx sub st total crc chunk (by decide) (only_refl _ _)) (by decide) h₀

theorem Blk.openRefused_pin (b : Blk) (idx sub st : Nat) (h₀ : FaultPinRight b) : FaultPinRight (Blk.openRefused b idx sub st) :=
  keep_pin (Blk.openRefused_only (m₀ := [.od]) b idx sub st (by decide) (only_refl _ _)) (by decide) h₀

theorem Blk.objectReq_pin (b : Blk) (src : Src) (idx sub : Nat) (bytes : List Byte) (apply : Blk → Blk × Nat) (hf : ∀ c, FaultPinRight c → FaultPinRight (apply c).1) (h₀ : FaultPinRight b) : FaultPinRight (Blk.objectReq b src idx sub bytes apply) := by
  unfold Blk.objectReq
  repeat (first | with_reducible assumption | (with_reducible apply Blk.admitReq_pin <;> [(intros; try dsimp only); skip]) | (with_reducible apply Blk.bulkAnswer_pin) | (with_reducible apply Blk.openRefused_pin) | (with_reducible apply hf) | (with_reducible apply pin_ite) | extract_lets | split | (intro c hc))

theorem Blk.mbox_pin (b : Blk) (h : Head) (f : Blk → Blk) (hf : ∀ c, FaultPinRight c → FaultPinRight (f c)) (h₀ : FaultPinRight b) : FaultPinRight (Blk.mbox b h f) := by
  unfold Blk.mbox
  repeat (first | with_reducible assumption | (with_reducible apply hf) | (with_reducible apply pin_ite) | extract_lets | split | (intro c hc))

theorem Blk.dropWayHalf_pin (b : Blk) (h : Head) (key : Nat) (h₀ : FaultPinRight b) : FaultPinRight (Blk.dropWayHalf b h key) := by
  unfold Blk.dropWayHalf
  repeat (first | with_reducible assumption | (with_reducible apply Blk.putWay_pin) | (with_reducible apply Blk.startFill_pin) | with_reducible apply pin_ite | extract_lets | split | (dsimp +zetaDelta only))

theorem Blk.dropBufHalf_pin (b : Blk) (key : Nat) (h₀ : FaultPinRight b) : FaultPinRight (Blk.dropBufHalf b key) :=
  keep_pin (Blk.dropBufHalf_only (m₀ := [.free, .velvet]) b key (by decide) (only_refl _ _)) (by decide) h₀

theorem Blk.dropHalf_pin (b : Blk) (h : Head) (key : Nat) (h₀ : FaultPinRight b) : FaultPinRight (Blk.dropHalf b h key) := by
  unfold Blk.dropHalf
  repeat (first | with_reducible assumption | (with_reducible apply Blk.dropWayHalf_pin) | (with_reducible apply Blk.dropBufHalf_pin))

theorem Blk.boundNow_pin (b : Blk) (h₀ : FaultPinRight b) : FaultPinRight (Blk.boundNow b) := by
  unfold Blk.boundNow
  repeat (first | with_reducible assumption | (with_reducible refine onModes_pin (fun _ => ⟨rfl, rfl⟩) ?_) | (with_reducible apply Blk.onDamask_pin) | with_reducible apply pin_ite)

theorem Blk.itemWrite_pin (b : Blk) (item : Nat) (h₀ : FaultPinRight b) : FaultPinRight (Blk.itemWrite b item) :=
  keep_pin (Blk.itemWrite_only (m₀ := [.out, .od, .hA, .hB, .can, .linen, .felt]) b item (by decide) (only_refl _ _)) (by decide) h₀

theorem Blk.escrowChanged_pin (b : Blk) (h₀ : FaultPinRight b) : FaultPinRight (Blk.escrowChanged b) :=
  keep_pin (Blk.escrowChanged_only (m₀ := [.out, .od, .hA, .hB, .can, .linen]) b (by decide) (only_refl _ _)) (by decide) h₀

theorem Blk.bind_pin (b : Blk) (h₀ : FaultPinRight b) : FaultPinRight (Blk.bind b) :=
  keep_pin (Blk.bind_only (m₀ := [.out, .od, .hA, .hB, .can, .lines, .twill, .damask, .linen, .tweed]) b (by decide) (only_refl _ _)) (by decide) h₀

theorem Blk.applyEscrow_pin (b : Blk) (bytes : List Byte) (h₀ : FaultPinRight b) : FaultPinRight (Blk.applyEscrow b bytes).1 := by
  unfold Blk.applyEscrow
  repeat (first | with_reducible assumption | (with_reducible apply Blk.onDamask_pin) | (with_reducible apply Blk.odSet_pin) | (with_reducible apply Blk.report_pin) | (with_reducible apply Blk.itemWrite_pin) | (with_reducible apply Blk.escrowChanged_pin) | (with_reducible apply Blk.bind_pin) | (with_reducible apply Blk.boundNow_pin) | with_reducible apply pin_ite | extract_lets | with_reducible apply pin_ite_fst | dsimp only | (dsimp +zetaDelta only))

theorem Blk.rekeyGroup_pin (b : Blk) (r e : Nat) (h₀ : FaultPinRight b) : FaultPinRight (Blk.rekeyGroup b r e) := by
  unfold Blk.rekeyGroup
  repeat (first | with_reducible assumption | (with_reducible apply Blk.onDamask_pin) | (with_reducible apply Blk.bump_pin) | (with_reducible apply Blk.drive_pin) | with_reducible apply pin_ite | split)

theorem Blk.applyKek_pin (b : Blk) (bytes : List Byte) (h₀ : FaultPinRight b) : FaultPinRight (Blk.applyKek b bytes).1 :=
  keep_pin (Blk.applyKek_only (m₀ := [.out, .od, .hA, .hB, .can, .damask, .linen, .felt]) b bytes (by decide) (only_refl _ _)) (by decide) h₀

theorem Blk.applyCal_pin (b : Blk) (l : List Byte) (h₀ : FaultPinRight b) : FaultPinRight (Blk.applyCal b l).1 :=
  keep_pin (Blk.applyCal_only (m₀ := [.free, .out, .od, .hA, .hB, .muslin, .can, .gauze, .linen, .tweed]) b l (by decide) (only_refl _ _)) (by decide) h₀

theorem Blk.applyMaintKey_pin (b : Blk) (l : List Byte) (h₀ : FaultPinRight b) : FaultPinRight (Blk.applyMaintKey b l).1 :=
  keep_pin (Blk.applyMaintKey_only (m₀ := [.out, .od, .hA, .hB, .can, .linen, .felt]) b l (by decide) (only_refl _ _)) (by decide) h₀

theorem Blk.applyMacKey_pin (b : Blk) (l : List Byte) (h₀ : FaultPinRight b) : FaultPinRight (Blk.applyMacKey b l).1 :=
  keep_pin (Blk.applyMacKey_only (m₀ := [.rng, .out, .od, .hA, .hB, .can, .linen, .felt]) b l (by decide) (only_refl _ _)) (by decide) h₀

theorem Blk.objectApply_pin (b : Blk) (idx sub : Nat) (l : List Byte) (h₀ : FaultPinRight b) : FaultPinRight (Blk.objectApply b idx sub l).1 := by
  unfold Blk.objectApply
  repeat (first | with_reducible assumption | (with_reducible apply Blk.applyKek_pin) | (with_reducible apply Blk.applyEscrow_pin) | (with_reducible apply Blk.applyCal_pin) | (with_reducible apply Blk.applyMaintKey_pin) | (with_reducible apply Blk.applyMacKey_pin) | split | with_reducible apply pin_ite_fst | dsimp only)

theorem Blk.wrote_pin (b : Blk) (src : Src) (idx sub st : Nat) (h₀ : FaultPinRight b) : FaultPinRight (Blk.wrote b src idx sub st) :=
  keep_pin (Blk.wrote_only (m₀ := [.out, .can]) b src idx sub st (by decide) (only_refl _ _)) (by decide) h₀

theorem Blk.releaseAction_pin (b : Blk) (src : Src) (sub : Nat) (f : Blk → Rgn → Blk) (hf : ∀ c g, FaultPinRight c → FaultPinRight (f c g)) (h₀ : FaultPinRight b) : FaultPinRight (Blk.releaseAction b src sub f) := by
  unfold Blk.releaseAction
  repeat (first | with_reducible assumption | (with_reducible apply Blk.odSet_pin) | (with_reducible apply Blk.wrote_pin) | (with_reducible apply hf) | (with_reducible apply pin_ite) | extract_lets | split | (intro c hc))

theorem Blk.clearUnit_pin (b : Blk) (r : Nat) (h₀ : FaultPinRight b) : FaultPinRight (Blk.clearUnit b r) := by
  unfold Blk.clearUnit
  repeat (first | with_reducible assumption | (with_reducible apply Blk.onTwill_pin) | (with_reducible apply Blk.areaNew_pin) | (with_reducible apply Blk.giveUp_pin) | (with_reducible apply Blk.dropMigration_pin) | extract_lets | split | (dsimp +zetaDelta only))

theorem Blk.onDev_pin (b : Blk) (f : Device → Device) (h₀ : FaultPinRight b) : FaultPinRight (Blk.onDev b f) :=
  keep_pin (Blk.onDev_only (m₀ := [.dev]) b f (by decide) (only_refl _ _)) (by decide) h₀

theorem Blk.dcRecord_pin (b : Blk) (type : Nat) (g : Rgn) (hs : List Head) (h₀ : FaultPinRight b) : FaultPinRight (Blk.dcRecord b type g hs) :=
  keep_pin (Blk.dcRecord_only (m₀ := [.out, .hA, .hB]) b type g hs (by decide) (only_refl _ _)) (by decide) h₀

theorem Blk.rgnEvent_pin (b : Blk) (code : BitVec 16) (g : Rgn) (h₀ : FaultPinRight b) : FaultPinRight (Blk.rgnEvent b code g) :=
  keep_pin (Blk.rgnEvent_only (m₀ := [.out, .od, .hA, .hB, .can, .linen]) b code g (by decide) (only_refl _ _)) (by decide) h₀

theorem Blk.freeRegion_pin (b : Blk) (g : Rgn) (h₀ : FaultPinRight b) : FaultPinRight (Blk.freeRegion b g) := by
  unfold Blk.freeRegion
  repeat (first | with_reducible assumption | (with_reducible apply onMedia_pin <;> [(intro; rfl); skip]) | (with_reducible apply Blk.onDev_pin) | (with_reducible apply Blk.unlistHalf_pin) | (with_reducible apply Blk.issueRecords_pin) | (with_reducible apply Blk.dcRecord_pin) | (with_reducible apply Blk.rgnEvent_pin) | (with_reducible apply Blk.clearUnit_pin) | with_reducible apply onMedia_pin | (with_reducible refine pin_foldl (fun c x hc => ?_) _ _ ?_) | with_reducible apply pin_ite | extract_lets | (dsimp +zetaDelta only))

theorem Blk.goHome_pin (b : Blk) (li : Nat) (h₀ : FaultPinRight b) : FaultPinRight (Blk.goHome b li) :=
  keep_pin (Blk.goHome_only (m₀ := [.free, .out, .od, .hA, .hB, .can, .path, .lines, .media, .velvet, .twill, .damask, .linen, .tweed]) b li (by decide) (only_refl _ _)) (by decide) h₀

theorem Blk.sendHome_pin (b : Blk) (li : Nat) (data : Line) (h₀ : FaultPinRight b) : FaultPinRight (Blk.sendHome b li data) := by
  unfold Blk.sendHome
  repeat (first | with_reducible assumption | (with_reducible apply Blk.journalRec_pin) | (with_reducible apply Blk.writeHomeNow_pin) | (with_reducible apply Blk.goHome_pin) | with_reducible apply pin_ite | extract_lets | (dsimp +zetaDelta only))

theorem Blk.appendNow_pin (b : Blk) (li : Nat) (data : Line) (n : Nat) (h₀ : FaultPinRight b) : FaultPinRight (Blk.appendNow b li data n) :=
  keep_pin (Blk.appendNow_only (m₀ := [.free, .out, .od, .hA, .hB, .can, .lines, .media, .twill, .damask, .linen, .tweed]) b li data n (by decide) (only_refl _ _)) (by decide) h₀

theorem Blk.placeLine_pin (b : Blk) (li : Nat) (data : Line) (h₀ : FaultPinRight b) : FaultPinRight (Blk.placeLine b li data) := by
  unfold Blk.placeLine
  repeat (first | with_reducible assumption | (with_reducible apply Blk.appendNow_pin) | (with_reducible apply Blk.sendHome_pin) | with_reducible apply pin_ite | split)

theorem Blk.endProgram_pin (b : Blk) (pid : Nat) (h₀ : FaultPinRight b) : FaultPinRight (Blk.endProgram b pid) := by
  unfold Blk.endProgram
  repeat (first | with_reducible assumption | (with_reducible apply Blk.verifyEnds_pin) | (with_reducible apply Blk.programEnds_pin))

theorem Blk.countWrites_pin (b : Blk) (slot n : Nat) (h₀ : FaultPinRight b) : FaultPinRight (Blk.countWrites b slot n) :=
  keep_pin (Blk.countWrites_only (m₀ := [.out, .od, .hA, .hB, .can, .twill, .linen]) b slot n (by decide) (only_refl _ _)) (by decide) h₀

theorem Blk.endPrograms_pin (b : Blk) (h₀ : FaultPinRight b) : FaultPinRight (Blk.endPrograms b) := by
  unfold Blk.endPrograms
  repeat (first | with_reducible assumption | (with_reducible apply onMedia_pin <;> [(intro; rfl); skip]) | (with_reducible apply Blk.storeLine_pin) | (with_reducible apply Blk.countWrites_pin) | (with_reducible apply Blk.programStored_pin) | (with_reducible apply Blk.endProgram_pin) | with_reducible apply onMedia_pin | (with_reducible refine pin_foldl (fun c x hc => ?_) _ _ ?_) | extract_lets | (dsimp +zetaDelta only))

theorem Blk.endJob_pin (b : Blk) (n : Nat) (h₀ : FaultPinRight b) : FaultPinRight (Blk.endJob b n) := by
  unfold Blk.endJob
  repeat (first | with_reducible assumption | (with_reducible apply Blk.writeNow_pin) | (with_reducible apply Blk.dropJob_pin) | (with_reducible apply Blk.tagWritten_pin) | (with_reducible apply Blk.jobEffect_pin) | (with_reducible refine pin_foldl (fun c x hc => ?_) _ _ ?_) | with_reducible apply pin_ite | extract_lets | split | (dsimp +zetaDelta only))

theorem Blk.endWork_pin (b : Blk) (h₀ : FaultPinRight b) : FaultPinRight (Blk.endWork b) := by
  unfold Blk.endWork
  repeat (first | with_reducible assumption | (with_reducible apply onMedia_pin <;> [(intro; rfl); skip]) | (with_reducible apply Blk.abandonDemotion_pin) | (with_reducible apply Blk.applySwitch_pin) | (with_reducible apply Blk.goHome_pin) | (with_reducible apply Blk.endJob_pin) | with_reducible apply onMedia_pin | (with_reducible refine pin_foldl (fun c x hc => ?_) _ _ ?_) | with_reducible apply pin_ite | extract_lets | (dsimp +zetaDelta only))

theorem Blk.flushBuf_pin (b : Blk) (n : Nat) (h₀ : FaultPinRight b) : FaultPinRight (Blk.flushBuf b n) := by
  unfold Blk.flushBuf
  repeat (first | with_reducible assumption | (with_reducible apply Blk.putBuf_pin) | (with_reducible apply Blk.bufferDone_pin) | (with_reducible apply Blk.placeLine_pin) | split)

theorem Blk.wholeLine_pin (b : Blk) (li : Nat) (v : VWay) (h₀ : FaultPinRight b) : FaultPinRight (Blk.wholeLine b li v).1 := by
  unfold Blk.wholeLine
  refine pin_ite_fst h₀ ?_
  split
  · exact h₀
  · dsimp only
    repeat (first | with_reducible assumption | (with_reducible apply Blk.listInternal_pin) | with_reducible apply pin_ite)

theorem Blk.barriersDone_pin (b : Blk) (li upto : Nat) (h₀ : FaultPinRight b) : FaultPinRight (Blk.barriersDone b li upto) :=
  keep_pin (Blk.barriersDone_only (m₀ := [.path]) b li upto (by decide) (only_refl _ _)) (by decide) h₀

theorem Blk.flushWay_pin (b : Blk) (key : Nat) (h₀ : FaultPinRight b) : FaultPinRight (Blk.flushWay b key) := by
  unfold Blk.flushWay
  repeat (first | with_reducible assumption | (with_reducible apply Blk.putWay_pin) | (with_reducible apply Blk.barriersDone_pin) | (with_reducible apply Blk.completeWrites_pin) | (with_reducible apply Blk.placeLine_pin) | (with_reducible apply Blk.wholeLine_pin) | with_reducible apply pin_ite | extract_lets | split | (dsimp +zetaDelta only))

theorem Blk.maintain_pin (b : Blk) (h₀ : FaultPinRight b) : FaultPinRight (Blk.maintain b) :=
  keep_pin (Blk.maintain_only (m₀ := [.out, .od, .can, .velvet]) b (by decide) (only_refl _ _)) (by decide) h₀

theorem Blk.flushAll_pin (b : Blk) (h₀ : FaultPinRight b) : FaultPinRight (Blk.flushAll b) := by
  unfold Blk.flushAll
  repeat (first | with_reducible assumption | (with_reducible apply Blk.maintain_pin) | (with_reducible apply Blk.endPrograms_pin) | (with_reducible apply Blk.endWork_pin) | (with_reducible apply Blk.flushBuf_pin) | (with_reducible apply Blk.flushWay_pin) | (with_reducible refine pin_foldl (fun c x hc => ?_) _ _ ?_) | extract_lets | (dsimp +zetaDelta only))

theorem Blk.cleanBudget_pin (b : Blk) (h₀ : FaultPinRight b) : FaultPinRight (Blk.cleanBudget b) :=
  keep_pin (Blk.cleanBudget_only (m₀ := [.velvet]) b (by decide) (only_refl _ _)) (by decide) h₀

theorem Blk.applyMode_pin (b : Blk) (h₀ : FaultPinRight b) : FaultPinRight (Blk.applyMode b) := by
  unfold Blk.applyMode
  repeat (first | with_reducible assumption | (with_reducible apply Blk.onVelvet_pin) | (with_reducible apply Blk.bump_pin) | (with_reducible apply Blk.report_pin) | (with_reducible apply Blk.healthCheck_pin) | (with_reducible apply Blk.cleanBudget_pin) | (with_reducible apply Blk.flushAll_pin) | with_reducible apply pin_ite | extract_lets | (dsimp +zetaDelta only))

theorem Blk.energyReport_pin (b : Blk) (eu : Nat) (h₀ : FaultPinRight b) : FaultPinRight (Blk.energyReport b eu) := by
  unfold Blk.energyReport
  repeat (first | with_reducible assumption | (with_reducible apply Blk.onVelvet_pin) | (with_reducible apply Blk.applyMode_pin) | with_reducible apply pin_ite)

theorem Blk.swapClass_pin (b : Blk) (c : Cls) (b1 : Blk) (h₀ : FaultPinRight b) (h₁ : FaultPinRight b1) : FaultPinRight (Blk.swapClass b c b1) := by
  unfold Blk.swapClass
  split
  · split
    · exact h₀
    · exact Blk.freeSlot_pin _ _ _ (Blk.swapHot_pin _ _ _ (Blk.useFree_pin _ h₁))
  · exact h₀

theorem Blk.balanceHot_pin (b : Blk) (h₀ : FaultPinRight b) : FaultPinRight (Blk.balanceHot b) := by
  unfold Blk.balanceHot
  split
  · exact h₀
  · exact Blk.swapClass_pin _ _ _ h₀ (Blk.widen_pin _ _ h₀)

theorem Blk.balancePool_pin (b : Blk) (h₀ : FaultPinRight b) : FaultPinRight (Blk.balancePool b) := by
  unfold Blk.balancePool
  repeat (first | with_reducible assumption | (with_reducible apply Blk.balanceHot_pin) | (with_reducible refine pin_foldl (fun c x hc => ?_) _ _ ?_))

theorem Blk.onGauze_pin (b : Blk) (f : Gauze → Gauze) (h₀ : FaultPinRight b) : FaultPinRight (Blk.onGauze b f) :=
  keep_pin (Blk.onGauze_only (m₀ := [.gauze]) b f (by decide) (only_refl _ _)) (by decide) h₀

theorem Blk.newPlan_pin (b : Blk) (h₀ : FaultPinRight b) : FaultPinRight (Blk.newPlan b) :=
  keep_pin (Blk.newPlan_only (m₀ := [.twill]) b (by decide) (only_refl _ _)) (by decide) h₀

theorem Blk.leaveRow_pin (b : Blk) (n : Nat) (h₀ : FaultPinRight b) : FaultPinRight (Blk.leaveRow b n) :=
  keep_pin (Blk.leaveRow_only (m₀ := [.twill]) b n (by decide) (only_refl _ _)) (by decide) h₀

theorem Blk.closeStripes_pin (b : Blk) (now : Bool) (h₀ : FaultPinRight b) : FaultPinRight (Blk.closeStripes b now) :=
  keep_pin (Blk.closeStripes_only (m₀ := [.free, .out, .od, .hA, .hB, .can, .lines, .media, .twill, .linen, .tweed]) b now (by decide) (only_refl _ _)) (by decide) h₀

theorem Blk.openLanes_pin (b : Blk) (h₀ : FaultPinRight b) : FaultPinRight (Blk.openLanes b) :=
  keep_pin (Blk.openLanes_only (m₀ := [.twill]) b (by decide) (only_refl _ _)) (by decide) h₀

theorem Blk.turnPlan_pin (b : Blk) (now : Bool) (h₀ : FaultPinRight b) : FaultPinRight (Blk.turnPlan b now) := by
  unfold Blk.turnPlan
  repeat (first | with_reducible assumption | (with_reducible apply Blk.onTwill_pin) | (with_reducible apply Blk.onGauze_pin) | (with_reducible apply Blk.newPlan_pin) | (with_reducible apply Blk.leaveRow_pin) | (with_reducible apply Blk.closeStripes_pin) | (with_reducible apply Blk.openLanes_pin) | (with_reducible apply Blk.balancePool_pin) | (with_reducible refine pin_foldl (fun c x hc => ?_) _ _ ?_) | extract_lets | (dsimp +zetaDelta only))

theorem Blk.reclaimRow_pin (b : Blk) (key : Nat) (x : TileRow) (h₀ : FaultPinRight b) : FaultPinRight (Blk.reclaimRow b key x) := by
  unfold Blk.reclaimRow
  repeat (first | with_reducible assumption | (with_reducible apply Blk.onTwill_pin) | (with_reducible apply Blk.onGauze_pin) | (with_reducible apply Blk.bump_pin) | (with_reducible apply Blk.areaNew_pin) | (with_reducible apply Blk.exchangeSlot_pin) | (with_reducible apply Blk.resetRow_pin) | with_reducible apply pin_ite | extract_lets | split | (dsimp +zetaDelta only))

theorem Blk.copyRow_pin (b : Blk) (key : Nat) (h₀ : FaultPinRight b) : FaultPinRight (Blk.copyRow b key) :=
  keep_pin (Blk.copyRow_only (m₀ := [.free, .media, .twill, .tweed]) b key (by decide) (only_refl _ _)) (by decide) h₀

theorem Blk.collectRows_pin (b : Blk) (c : Cls) (h₀ : FaultPinRight b) : FaultPinRight (Blk.collectRows b c) := by
  unfold Blk.collectRows
  repeat (first | with_reducible assumption | (with_reducible apply Blk.copyRow_pin) | (with_reducible apply Blk.reclaimRow_pin) | (with_reducible refine pin_foldl (fun c x hc => ?_) _ _ ?_))

theorem Blk.coldSwap_pin (b : Blk) (c : Cls) (h₀ : FaultPinRight b) : FaultPinRight (Blk.coldSwap b c) := by
  unfold Blk.coldSwap
  repeat (first | with_reducible assumption | (with_reducible apply Blk.useFree_pin) | (with_reducible apply Blk.beginMigration_pin) | with_reducible apply pin_ite | extract_lets | split | (dsimp +zetaDelta only))

theorem Blk.beginCheckpoint_pin (b : Blk) (full now : Bool) (h₀ : FaultPinRight b) : FaultPinRight (Blk.beginCheckpoint b full now) := by
  unfold Blk.beginCheckpoint
  repeat (first | with_reducible assumption | (with_reducible apply Blk.onTwill_pin) | (with_reducible apply Blk.turnPlan_pin) | with_reducible apply pin_ite | extract_lets | split | (dsimp +zetaDelta only))

theorem Blk.putHot_pin (b : Blk) (key : Nat) (e : HotEntry) (h₀ : FaultPinRight b) : FaultPinRight (Blk.putHot b key e) :=
  keep_pin (Blk.putHot_only (m₀ := [.twill]) b key e (by decide) (only_refl _ _)) (by decide) h₀

theorem Blk.replayLine_pin (recs : List JRec) (rows : List Nat) (slot base : Nat) (b : Blk) (x : Nat × Nat) (h₀ : FaultPinRight b) : FaultPinRight (Blk.replayLine recs rows slot base b x) := by
  unfold Blk.replayLine
  repeat (first | with_reducible assumption | (with_reducible apply Blk.odSet_pin) | (with_reducible apply Blk.bump_pin) | (with_reducible apply Blk.putHot_pin) | (with_reducible apply Blk.poisonLine_pin) | with_reducible apply pin_ite | extract_lets | split | (dsimp +zetaDelta only))

theorem Blk.replayPlans_pin (b : Blk) (recs : List JRec) (plans : List (Nat × Nat)) (h₀ : FaultPinRight b) : FaultPinRight (Blk.replayPlans b recs plans) := by
  unfold Blk.replayPlans
  repeat (first | with_reducible assumption | (with_reducible apply Blk.onTwill_pin) | (with_reducible apply Blk.replayLine_pin) | (with_reducible refine pin_foldl (fun c x hc => ?_) _ _ ?_) | extract_lets | (dsimp +zetaDelta only))

theorem Blk.dropMigrations_pin (b : Blk) (h₀ : FaultPinRight b) : FaultPinRight (Blk.dropMigrations b) := by
  unfold Blk.dropMigrations
  repeat (first | with_reducible assumption | (with_reducible apply Blk.onTwill_pin) | (with_reducible apply Blk.dropMigration_pin) | (with_reducible refine pin_foldl (fun c x hc => ?_) _ _ ?_) | extract_lets | split | (dsimp +zetaDelta only))

theorem Blk.giveUpUnmapped_pin (b : Blk) (h₀ : FaultPinRight b) : FaultPinRight (Blk.giveUpUnmapped b) := by
  unfold Blk.giveUpUnmapped
  repeat (first | with_reducible assumption | (with_reducible apply Blk.onTwill_pin) | (with_reducible apply Blk.freeSlot_pin) | (with_reducible refine pin_foldl (fun c x hc => ?_) _ _ ?_) | extract_lets | (dsimp +zetaDelta only))

theorem Blk.markMapped_pin (b : Blk) (h₀ : FaultPinRight b) : FaultPinRight (Blk.markMapped b) :=
  keep_pin (Blk.markMapped_only (m₀ := [.twill]) b (by decide) (only_refl _ _)) (by decide) h₀

theorem Blk.scanUnit_pin (b : Blk) (g : Rgn) (c : Blk) (x : Nat × Nat) (h₀ : FaultPinRight c) : FaultPinRight (Blk.scanUnit b g c x) :=
  keep_pin (Blk.scanUnit_only (m₀ := [.twill]) b g c x (by decide) (only_refl _ _)) (by decide) h₀

theorem Blk.fullScan_pin (b : Blk) (h₀ : FaultPinRight b) : FaultPinRight (Blk.fullScan b) := by
  unfold Blk.fullScan
  repeat (first | with_reducible assumption | (with_reducible apply Blk.report_pin) | (with_reducible apply Blk.markMapped_pin) | (with_reducible apply Blk.replayPlans_pin) | (with_reducible apply Blk.scanUnit_pin) | (with_reducible refine pin_foldl (fun c x hc => ?_) _ _ ?_) | extract_lets | (dsimp +zetaDelta only))

theorem Blk.loadImages_pin (b : Blk) (f : Ckpt) (inc : Option Ckpt) (h₀ : FaultPinRight b) : FaultPinRight (Blk.loadImages b f inc) :=
  keep_pin (Blk.loadImages_only (m₀ := [.twill, .safety]) b f inc (by decide) (only_refl _ _)) (by decide) h₀

theorem Blk.matchRegions_pin (b : Blk) (known : List Nat) (h₀ : FaultPinRight b) : FaultPinRight (Blk.matchRegions b known) :=
  keep_pin (Blk.matchRegions_only (m₀ := [.twill]) b known (by decide) (only_refl _ _)) (by decide) h₀

theorem Blk.closeOpen_pin (base : Nat) (slot : Nat) (b : Blk) (s : Nat) (h₀ : FaultPinRight b) : FaultPinRight (Blk.closeOpen base slot b s) :=
  keep_pin (Blk.closeOpen_only (m₀ := [.out, .od, .hA, .hB, .can, .lines, .twill, .linen, .tweed]) base slot b s (by decide) (only_refl _ _)) (by decide) h₀

theorem Blk.rebuildRows_pin (b : Blk) (plans : List (Nat × Nat)) (h₀ : FaultPinRight b) : FaultPinRight (Blk.rebuildRows b plans) :=
  keep_pin (Blk.rebuildRows_only (m₀ := [.twill]) b plans (by decide) (only_refl _ _)) (by decide) h₀

theorem Blk.applyRecord_pin (b : Blk) (x : JRec) (h₀ : FaultPinRight b) : FaultPinRight (Blk.applyRecord b x) :=
  keep_pin (Blk.applyRecord_only (m₀ := [.twill, .safety]) b x (by decide) (only_refl _ _)) (by decide) h₀

theorem Blk.emptyMap_pin (b : Blk) (h₀ : FaultPinRight b) : FaultPinRight (Blk.emptyMap b) :=
  keep_pin (Blk.emptyMap_only (m₀ := [.twill]) b (by decide) (only_refl _ _)) (by decide) h₀

theorem Blk.mapOfAdds_pin (b : Blk) (h₀ : FaultPinRight b) : FaultPinRight (Blk.mapOfAdds b) :=
  keep_pin (Blk.mapOfAdds_only (m₀ := [.twill, .safety]) b (by decide) (only_refl _ _)) (by decide) h₀

theorem Blk.loadMap_pin (b : Blk) (h₀ : FaultPinRight b) : FaultPinRight (Blk.loadMap b) := by
  unfold Blk.loadMap
  repeat (first | with_reducible assumption | (with_reducible apply Blk.loadImages_pin) | (with_reducible apply Blk.matchRegions_pin) | (with_reducible apply Blk.markMapped_pin) | (with_reducible apply Blk.replayPlans_pin) | (with_reducible apply Blk.closeOpen_pin) | (with_reducible apply Blk.rebuildRows_pin) | (with_reducible apply Blk.applyRecord_pin) | (with_reducible apply Blk.fullScan_pin) | (with_reducible apply Blk.emptyMap_pin) | (with_reducible apply Blk.mapOfAdds_pin) | (with_reducible refine pin_foldl (fun c x hc => ?_) _ _ ?_) | with_reducible apply pin_ite | extract_lets | split | (dsimp +zetaDelta only))

theorem Blk.resumePasses_pin (b : Blk) (h₀ : FaultPinRight b) : FaultPinRight (Blk.resumePasses b) :=
  keep_pin (Blk.resumePasses_only (m₀ := [.twill]) b (by decide) (only_refl _ _)) (by decide) h₀

theorem Blk.mapReady_pin (b : Blk) (h₀ : FaultPinRight b) : FaultPinRight (Blk.mapReady b) := by
  unfold Blk.mapReady
  repeat (first | with_reducible assumption | (with_reducible apply Blk.onTwill_pin) | (with_reducible apply Blk.markMapped_pin) | (with_reducible apply Blk.resumePasses_pin) | (with_reducible apply Blk.dropMigrations_pin) | (with_reducible apply Blk.giveUpUnmapped_pin) | extract_lets | (dsimp +zetaDelta only))

theorem Blk.onFelt_pin (b : Blk) (f : Felt → Felt) (h₀ : FaultPinRight b) : FaultPinRight (Blk.onFelt b f) :=
  keep_pin (Blk.onFelt_only (m₀ := [.felt]) b f (by decide) (only_refl _ _)) (by decide) h₀

theorem Blk.onTweed_pin (b : Blk) (f : Tweed → Tweed) (h₀ : FaultPinRight b) : FaultPinRight (Blk.onTweed b f) :=
  keep_pin (Blk.onTweed_only (m₀ := [.tweed]) b f (by decide) (only_refl _ _)) (by decide) h₀

theorem Blk.linkChange_pin (b : Blk) (h : Head) (f : HeadSt → HeadSt) (h₀ : FaultPinRight b) : FaultPinRight (Blk.linkChange b h f) :=
  keep_pin (Blk.linkChange_only (m₀ := [.od, .hA, .hB]) b h f (by decide) (only_refl _ _)) (by decide) h₀

theorem Blk.linkFalls_pin (b : Blk) (h : Head) (h₀ : FaultPinRight b) : FaultPinRight (Blk.linkFalls b h) :=
  keep_pin (Blk.linkFalls_only (m₀ := [.out, .od, .hA, .hB, .can, .path, .linen]) b h (by decide) (only_refl _ _)) (by decide) h₀

theorem Blk.writeTalrt_pin (b : Blk) (v : Nat) (h₀ : FaultPinRight b) : FaultPinRight (Blk.writeTalrt b v) :=
  keep_pin (Blk.writeTalrt_only (m₀ := [.out, .media]) b v (by decide) (only_refl _ _)) (by decide) h₀

theorem Blk.effect_pin (b : Blk) (key v : Nat) (h₀ : FaultPinRight b) : FaultPinRight (Blk.effect b key v) := by
  unfold Blk.effect
  repeat (first | with_reducible assumption | (with_reducible apply Blk.onFelt_pin) | (with_reducible apply Blk.onTweed_pin) | (with_reducible apply Blk.applyMode_pin) | (with_reducible apply Blk.linkChange_pin) | (with_reducible apply Blk.linkFalls_pin) | (with_reducible apply Blk.writeTalrt_pin) | with_reducible apply pin_ite | extract_lets | (dsimp +zetaDelta only))

theorem Blk.calWrite_pin (b : Blk) (key v : Nat) (h₀ : FaultPinRight b) : FaultPinRight (Blk.calWrite b key v) :=
  keep_pin (Blk.calWrite_only (m₀ := [.gauze]) b key v (by decide) (only_refl _ _)) (by decide) h₀

theorem Blk.takeValue_pin (b : Blk) (key v : Nat) (h₀ : FaultPinRight b) : FaultPinRight (Blk.takeValue b key v) := by
  unfold Blk.takeValue
  repeat (first | with_reducible assumption | (with_reducible apply Blk.odSet_pin) | (with_reducible apply Blk.calWrite_pin) | (with_reducible apply Blk.effect_pin) | (exact h₀) | with_reducible apply pin_ite | exact h₀)

theorem Blk.takeDirect_pin (b : Blk) (key v : Nat) (h₀ : FaultPinRight b) : FaultPinRight (Blk.takeDirect b key v) := by
  unfold Blk.takeDirect
  repeat (first | with_reducible assumption | (with_reducible apply Blk.onGauze_pin) | (with_reducible apply Blk.odSet_pin) | (with_reducible apply Blk.effect_pin) | (exact h₀) | with_reducible apply pin_ite | extract_lets | (dsimp +zetaDelta only) | exact h₀)

theorem Blk.swapValues_pin (b : Blk) (noAck : List Dom) (h₀ : FaultPinRight b) : FaultPinRight (Blk.swapValues b noAck) := by
  unfold Blk.swapValues
  repeat (first | with_reducible assumption | (with_reducible apply Blk.takeValue_pin) | (exact h₀) | (with_reducible refine pin_foldl (fun c x hc => ?_) _ _ ?_) | with_reducible apply pin_ite | extract_lets | (dsimp +zetaDelta only) | exact h₀)

theorem Blk.commitCheckpoint_pin (b : Blk) (h₀ : FaultPinRight b) : FaultPinRight (Blk.commitCheckpoint b) :=
  keep_pin (Blk.commitCheckpoint_only (m₀ := [.out, .od, .hA, .hB, .can, .path, .lines, .twill, .linen, .tweed]) b (by decide) (only_refl _ _)) (by decide) h₀

theorem Blk.standbyDies_pin (b : Blk) (h₀ : FaultPinRight b) : FaultPinRight (Blk.standbyDies b) :=
  keep_pin (Blk.standbyDies_only (m₀ := [.out, .media]) b (by decide) (only_refl _ _)) (by decide) h₀

theorem Blk.fallAsleep_pin (b : Blk) (h₀ : FaultPinRight b) : FaultPinRight (Blk.fallAsleep b) := by
  unfold Blk.fallAsleep
  repeat (first | with_reducible assumption | (with_reducible refine onModes_pin (fun _ => ⟨rfl, rfl⟩) ?_) | (with_reducible apply Blk.onTweed_pin) | (with_reducible apply Blk.flushAll_pin) | (with_reducible apply Blk.beginCheckpoint_pin) | (with_reducible apply Blk.commitCheckpoint_pin) | (with_reducible apply Blk.standbyDies_pin))

theorem Blk.wakeDies_pin (b : Blk) (h₀ : FaultPinRight b) : FaultPinRight (Blk.wakeDies b) :=
  keep_pin (Blk.wakeDies_only (m₀ := [.out, .media]) b (by decide) (only_refl _ _)) (by decide) h₀

theorem Blk.wake_pin (b : Blk) (h₀ : FaultPinRight b) : FaultPinRight (Blk.wake b) := by
  unfold Blk.wake
  repeat (first | with_reducible assumption | (with_reducible apply Blk.setConditions_pin) | (with_reducible refine onModes_pin (fun _ => ⟨rfl, rfl⟩) ?_) | (with_reducible apply Blk.onTweed_pin) | (with_reducible apply Blk.setConditions_pin) | (with_reducible apply Blk.wakeDies_pin) | with_reducible apply pin_ite | extract_lets | (dsimp +zetaDelta only))

theorem Blk.powerCycled_pin (b : Blk) (h₀ : FaultPinRight b) : FaultPinRight (Blk.powerCycled b) := by
  unfold Blk.powerCycled
  repeat (first | with_reducible assumption | (with_reducible apply onMedia_pin <;> [(intro; rfl); skip]) | (with_reducible refine onClocks_pin (fun _ => rfl) ?_) | (with_reducible apply Blk.onHA_pin) | (with_reducible apply Blk.onHB_pin) | (exact h₀) | with_reducible apply onMedia_pin | with_reducible apply pin_ite | extract_lets | (dsimp +zetaDelta only) | exact h₀)

theorem Blk.onCanvas_pin (b : Blk) (f : Canvas → Canvas) (h₀ : FaultPinRight b) : FaultPinRight (Blk.onCanvas b f) :=
  keep_pin (Blk.onCanvas_only (m₀ := [.canvas]) b f (by decide) (only_refl _ _)) (by decide) h₀

theorem Blk.loseSwitched_pin (b : Blk) (keepLink : Bool) (h₀ : FaultPinRight b) : FaultPinRight (Blk.loseSwitched b keepLink) :=
  keep_pin (Blk.loseSwitched_only (m₀ := [.odOld, .direct, .regs, .due, .dueB, .hA, .hB, .sesA, .sesB, .sesC, .muslin, .can, .dev, .path, .poison, .media, .velvet, .twill, .gauze, .damask, .linen, .felt, .tweed, .thermal, .safety]) b keepLink (by decide) (only_refl _ _)) (by decide) h₀

theorem Blk.enterM1_pin (b : Blk) (h₀ : FaultPinRight b) : FaultPinRight (Blk.enterM1 b) := by
  unfold Blk.enterM1
  repeat (first | with_reducible assumption | (with_reducible apply pinSet) | (with_reducible apply Blk.setConditions_pin) | (with_reducible refine onModes_pin (fun _ => ⟨rfl, rfl⟩) ?_) | (with_reducible refine onClocks_pin (fun _ => rfl) ?_) | (with_reducible apply Blk.onCanvas_pin) | (with_reducible apply Blk.faultPin_pin) | (with_reducible apply Blk.setConditions_pin) | (with_reducible apply Blk.loseSwitched_pin) | (with_reducible apply Blk.powerCycled_pin) | (exact h₀) | with_reducible apply pin_ite | extract_lets | (dsimp +zetaDelta only) | exact h₀)

theorem Blk.startBoot_pin (b : Blk) (h₀ : FaultPinRight b) : FaultPinRight (Blk.startBoot b) := by
  unfold Blk.startBoot
  repeat (first | with_reducible assumption | (with_reducible apply Blk.setConditions_pin) | (with_reducible refine onModes_pin (fun _ => ⟨rfl, rfl⟩) ?_) | (with_reducible apply Blk.onCanvas_pin) | (with_reducible apply Blk.setConditions_pin) | (exact h₀) | with_reducible apply pin_ite | extract_lets | (dsimp +zetaDelta only) | exact h₀)

theorem Blk.lowerNext_pin (n : Nat) (b : Blk) (h₀ : FaultPinRight b) : FaultPinRight (Blk.lowerNext n b) := by
  induction n generalizing b with
  | zero => exact h₀
  | succ n ih =>
    unfold Blk.lowerNext
    split
    · exact Blk.startBoot_pin _ (Blk.onCanvas_pin _ _ h₀)
    · exact pin_ite (ih _ (keep_pin (Blk.onSlot_only (m₀ := [.canvas]) _ _ _ (by decide) (only_refl _ _)) (by decide) h₀)) (keep_pin (Blk.onSlot_only (m₀ := [.canvas]) _ _ _ (by decide) (only_refl _ _)) (by decide) h₀)

theorem Blk.powerDown_pin (b : Blk) (h₀ : FaultPinRight b) : FaultPinRight (Blk.powerDown b) := by
  unfold Blk.powerDown
  repeat (first | with_reducible assumption | (with_reducible apply Blk.lowerNext_pin) | (with_reducible apply Blk.onCanvas_pin) | (with_reducible apply Blk.enterM1_pin) | (exact h₀) | with_reducible apply pin_ite | extract_lets | exact h₀)

theorem Blk.tearPrograms_pin (b : Blk) (h₀ : FaultPinRight b) : FaultPinRight (Blk.tearPrograms b) :=
  keep_pin (Blk.tearPrograms_only (m₀ := [.free, .out, .od, .hA, .hB, .can, .lines, .media, .twill, .linen, .tweed]) b (by decide) (only_refl _ _)) (by decide) h₀

theorem Blk.dropRails_pin (b : Blk) (h₀ : FaultPinRight b) : FaultPinRight (Blk.dropRails b) := by
  unfold Blk.dropRails
  repeat (first | with_reducible assumption | (with_reducible apply Blk.onFelt_pin) | (with_reducible apply Blk.onCanvas_pin) | (with_reducible apply Blk.enterM1_pin) | (with_reducible apply Blk.tearPrograms_pin) | (exact h₀) | with_reducible apply pin_ite | extract_lets | (dsimp +zetaDelta only) | exact h₀)

theorem Blk.onSlot_pin (b : Blk) (s : Nat) (f : PSlot → PSlot) (h₀ : FaultPinRight b) : FaultPinRight (Blk.onSlot b s f) :=
  keep_pin (Blk.onSlot_only (m₀ := [.canvas]) b s f (by decide) (only_refl _ _)) (by decide) h₀

theorem Blk.allOff_pin (b : Blk) (code slot mv drops : Nat) (timeout : Bool) (h₀ : FaultPinRight b) : FaultPinRight (Blk.allOff b code slot mv drops timeout) := by
  unfold Blk.allOff
  repeat (first | with_reducible assumption | (with_reducible refine onModes_pin (fun _ => ⟨rfl, rfl⟩) ?_) | (with_reducible apply Blk.onCanvas_pin) | (with_reducible apply Blk.odSet_pin) | (with_reducible apply Blk.onSlot_pin) | (with_reducible apply Blk.dropRails_pin) | (exact h₀) | with_reducible apply pin_ite | extract_lets | (dsimp +zetaDelta only) | exact h₀)

theorem Blk.clearIngress_pin (b : Blk) (h : Head) (h₀ : FaultPinRight b) : FaultPinRight (Blk.clearIngress b h) :=
  keep_pin (Blk.clearIngress_only (m₀ := [.hA, .hB, .path]) b h (by decide) (only_refl _ _)) (by decide) h₀

theorem Blk.resumeAll_pin (b : Blk) (h₀ : FaultPinRight b) : FaultPinRight (Blk.resumeAll b) :=
  keep_pin (Blk.resumeAll_only (m₀ := [.out, .media]) b (by decide) (only_refl _ _)) (by decide) h₀

theorem Blk.beginFlush_pin (b : Blk) (cause : Nat) (h₀ : FaultPinRight b) : FaultPinRight (Blk.beginFlush b cause) := by
  unfold Blk.beginFlush
  repeat (first | with_reducible assumption | (with_reducible refine onModes_pin (fun _ => ⟨rfl, rfl⟩) ?_) | (with_reducible apply Blk.onTwill_pin) | (with_reducible apply Blk.enter_pin) | (with_reducible apply Blk.finishRead_pin) | (with_reducible apply Blk.clearIngress_pin) | (with_reducible apply Blk.wake_pin) | (with_reducible apply Blk.resumeAll_pin) | (with_reducible refine pin_foldl (fun c x hc => ?_) _ _ ?_) | with_reducible apply pin_ite | extract_lets | (dsimp +zetaDelta only))

theorem Blk.settle_pin (b : Blk) (h₀ : FaultPinRight b) : FaultPinRight (Blk.settle b) :=
  keep_pin (Blk.settle_only (m₀ := [.free, .out, .od, .hA, .hB, .can, .path, .linen, .tweed]) b (by decide) (only_refl _ _)) (by decide) h₀

theorem Blk.flushTags_pin (b : Blk) (h₀ : FaultPinRight b) : FaultPinRight (Blk.flushTags b) :=
  keep_pin (Blk.flushTags_only (m₀ := [.out, .od, .hA, .hB, .can, .lines, .twill, .damask, .linen, .tweed]) b (by decide) (only_refl _ _)) (by decide) h₀

theorem Blk.saveMedia_pin (b : Blk) (full : Bool) (h₀ : FaultPinRight b) : FaultPinRight (Blk.saveMedia b full) := by
  unfold Blk.saveMedia
  repeat (first | with_reducible assumption | (with_reducible apply Blk.issueRecords_pin) | (with_reducible apply Blk.endPrograms_pin) | (with_reducible apply Blk.flushAll_pin) | (with_reducible apply Blk.beginCheckpoint_pin) | (with_reducible apply Blk.commitCheckpoint_pin) | (with_reducible apply Blk.settle_pin) | (with_reducible apply Blk.flushTags_pin))

theorem Blk.saveCounters_pin (b : Blk) (exact : Bool) (h₀ : FaultPinRight b) : FaultPinRight (Blk.saveCounters b exact) :=
  keep_pin (Blk.saveCounters_only (m₀ := [.out, .od, .hA, .hB, .can, .linen, .felt]) b exact (by decide) (only_refl _ _)) (by decide) h₀

theorem Blk.settleRead_pin (b : Blk) (x : Acc) (h₀ : FaultPinRight b) : FaultPinRight (Blk.settleRead b x) :=
  keep_pin (Blk.settleRead_only (m₀ := [.free, .out, .od, .hA, .hB, .can, .path, .linen, .tweed]) b x (by decide) (only_refl _ _)) (by decide) h₀

theorem Blk.zeroize_pin (b : Blk) (h₀ : FaultPinRight b) : FaultPinRight (Blk.zeroize b) :=
  keep_pin (Blk.zeroize_only (m₀ := [.free, .out, .od, .hA, .hB, .can, .path, .velvet, .damask, .linen, .felt, .tweed]) b (by decide) (only_refl _ _)) (by decide) h₀

theorem Blk.stagingToRing_pin (b : Blk) (h₀ : FaultPinRight b) : FaultPinRight (Blk.stagingToRing b) :=
  keep_pin (Blk.stagingToRing_only (m₀ := [.out, .od, .hA, .hB, .can, .linen, .felt]) b (by decide) (only_refl _ _)) (by decide) h₀

theorem Blk.foldAll_pin (b : Blk) (h₀ : FaultPinRight b) : FaultPinRight (Blk.foldAll b) :=
  keep_pin (Blk.foldAll_only (m₀ := [.out, .od, .hA, .hB, .can, .twill, .linen]) b (by decide) (only_refl _ _)) (by decide) h₀

theorem Blk.endFlush_pin (b : Blk) (start lines : Nat) (h₀ : FaultPinRight b) : FaultPinRight (Blk.endFlush b start lines) := by
  unfold Blk.endFlush
  repeat (first | with_reducible assumption | (with_reducible apply Blk.onFelt_pin) | (with_reducible apply Blk.odSet_pin) | (with_reducible apply Blk.bump_pin) | (with_reducible apply Blk.report_pin) | (with_reducible apply Blk.saveCounters_pin) | (with_reducible apply Blk.settleRead_pin) | (with_reducible apply Blk.zeroize_pin) | (with_reducible apply Blk.powerDown_pin) | (with_reducible apply Blk.stagingToRing_pin) | (with_reducible apply Blk.foldAll_pin) | (with_reducible apply Blk.saveMedia_pin) | (with_reducible refine pin_foldl (fun c x hc => ?_) _ _ ?_) | with_reducible apply pin_ite | extract_lets | (dsimp +zetaDelta only))

theorem Blk.snapshot_pin (b : Blk) (h₀ : FaultPinRight b) : FaultPinRight (Blk.snapshot b) :=
  keep_pin (Blk.snapshot_only (m₀ := [.out, .od, .hA, .hB, .can, .lines, .twill, .gauze, .linen, .tweed]) b (by decide) (only_refl _ _)) (by decide) h₀

theorem Blk.abandonTest_pin (b : Blk) (h₀ : FaultPinRight b) : FaultPinRight (Blk.abandonTest b) :=
  keep_pin (Blk.abandonTest_only (m₀ := [.canvas]) b (by decide) (only_refl _ _)) (by decide) h₀

theorem Blk.orderlyStop_pin (b : Blk) (h₀ : FaultPinRight b) : FaultPinRight (Blk.orderlyStop b) := by
  unfold Blk.orderlyStop
  repeat (first | with_reducible assumption | (with_reducible refine onModes_pin (fun _ => ⟨rfl, rfl⟩) ?_) | (with_reducible apply Blk.onTwill_pin) | (with_reducible apply Blk.onFelt_pin) | (with_reducible apply Blk.clearIngress_pin) | (with_reducible apply Blk.saveCounters_pin) | (with_reducible apply Blk.snapshot_pin) | (with_reducible apply Blk.settle_pin) | (with_reducible apply Blk.powerDown_pin) | (with_reducible apply Blk.abandonTest_pin) | (with_reducible apply Blk.stagingToRing_pin) | (with_reducible apply Blk.foldAll_pin) | (with_reducible apply Blk.saveMedia_pin) | extract_lets | (dsimp +zetaDelta only))

theorem Blk.ringNewest_pin (b : Blk) (h₀ : FaultPinRight b) : FaultPinRight (Blk.ringNewest b) :=
  keep_pin (Blk.ringNewest_only (m₀ := [.od, .linen]) b (by decide) (only_refl _ _)) (by decide) h₀

theorem Blk.thermalShutdown_pin (b : Blk) (data : List Byte) (h₀ : FaultPinRight b) : FaultPinRight (Blk.thermalShutdown b data) := by
  unfold Blk.thermalShutdown
  repeat (first | with_reducible assumption | (with_reducible apply pinSet) | (with_reducible refine onModes_pin (fun _ => ⟨rfl, rfl⟩) ?_) | (with_reducible apply Blk.bump_pin) | (with_reducible apply Blk.report_pin) | (with_reducible apply Blk.faultPin_pin) | (with_reducible apply Blk.beginFlush_pin) | (with_reducible apply Blk.ringNewest_pin) | with_reducible apply pin_ite | extract_lets | (dsimp +zetaDelta only))

theorem Blk.retireDie_pin (b : Blk) (src : Src) (d : Nat) (h₀ : FaultPinRight b) : FaultPinRight (Blk.retireDie b src d) := by
  unfold Blk.retireDie
  repeat (first | with_reducible assumption | (with_reducible apply Blk.dieFail_pin) | (with_reducible apply Blk.wrote_pin) | with_reducible apply pin_ite)

theorem Blk.retireChannel_pin (b : Blk) (src : Src) (c : Nat) (h₀ : FaultPinRight b) : FaultPinRight (Blk.retireChannel b src c) := by
  unfold Blk.retireChannel
  repeat (first | with_reducible assumption | (with_reducible apply Blk.channelFail_pin) | (with_reducible apply Blk.wrote_pin))

theorem Blk.toStandby_pin (b : Blk) (src : Src) (h₀ : FaultPinRight b) : FaultPinRight (Blk.toStandby b src) := by
  unfold Blk.toStandby
  repeat (first | with_reducible assumption | (with_reducible refine onModes_pin (fun _ => ⟨rfl, rfl⟩) ?_) | (with_reducible apply Blk.wrote_pin) | (with_reducible apply Blk.orderlyStop_pin))

theorem Blk.odSetFor_pin (b : Blk) (t idx sub v : Nat) (h₀ : FaultPinRight b) : FaultPinRight (Blk.odSetFor b t idx sub v) :=
  keep_pin (Blk.odSetFor_only (m₀ := [.od]) b t idx sub v (by decide) (only_refl _ _)) (by decide) h₀

theorem Blk.startRange_pin (b : Blk) (src : Src) (code : Nat) (h₀ : FaultPinRight b) : FaultPinRight (Blk.startRange b src code) :=
  keep_pin (Blk.startRange_only (m₀ := [.out, .od, .can, .velvet]) b src code (by decide) (only_refl _ _)) (by decide) h₀

theorem Blk.byAddress_pin (b : Blk) (src : Src) (v : Nat) (h₀ : FaultPinRight b) : FaultPinRight (Blk.byAddress b src v) :=
  keep_pin (Blk.byAddress_only (m₀ := [.out, .od, .can, .velvet]) b src v (by decide) (only_refl _ _)) (by decide) h₀

theorem Blk.bySetWay_pin (b : Blk) (src : Src) (v : Nat) (h₀ : FaultPinRight b) : FaultPinRight (Blk.bySetWay b src v) :=
  keep_pin (Blk.bySetWay_only (m₀ := [.out, .od, .can, .velvet]) b src v (by decide) (only_refl _ _)) (by decide) h₀

theorem Blk.openBarrier_pin (b : Blk) (src : Src) (h₀ : FaultPinRight b) : FaultPinRight (Blk.openBarrier b src) :=
  keep_pin (Blk.openBarrier_only (m₀ := [.out, .od, .can, .path, .velvet]) b src (by decide) (only_refl _ _)) (by decide) h₀

theorem Blk.unlockRegion_pin (b : Blk) (src : Src) (r : Nat) (h₀ : FaultPinRight b) : FaultPinRight (Blk.unlockRegion b src r) :=
  keep_pin (Blk.unlockRegion_only (m₀ := [.out, .can, .damask]) b src r (by decide) (only_refl _ _)) (by decide) h₀

theorem Blk.resetCount_pin (b : Blk) (src : Src) (r : Nat) (h₀ : FaultPinRight b) : FaultPinRight (Blk.resetCount b src r) :=
  keep_pin (Blk.resetCount_only (m₀ := [.out, .can, .damask]) b src r (by decide) (only_refl _ _)) (by decide) h₀

theorem Blk.clearHistograms_pin (b : Blk) (src : Src) (h₀ : FaultPinRight b) : FaultPinRight (Blk.clearHistograms b src) :=
  keep_pin (Blk.clearHistograms_only (m₀ := [.out, .can, .gauze]) b src (by decide) (only_refl _ _)) (by decide) h₀

theorem Blk.addAction_pin (b : Blk) (src : Src) (h₀ : FaultPinRight b) : FaultPinRight (Blk.addAction b src) :=
  keep_pin (Blk.addAction_only (m₀ := [.free, .out, .od, .can, .dev, .twill]) b src (by decide) (only_refl _ _)) (by decide) h₀

theorem Blk.askRelease_pin (b : Blk) (g : Rgn) (h₀ : FaultPinRight b) : FaultPinRight (Blk.askRelease b g) :=
  keep_pin (Blk.askRelease_only (m₀ := [.out, .hA, .hB]) b g (by decide) (only_refl _ _)) (by decide) h₀

theorem Blk.forceRelease_pin (b : Blk) (g : Rgn) (h₀ : FaultPinRight b) : FaultPinRight (Blk.forceRelease b g) :=
  keep_pin (Blk.forceRelease_only (m₀ := [.out, .od, .hA, .hB, .can, .dev, .path, .linen, .tweed]) b g (by decide) (only_refl _ _)) (by decide) h₀

theorem Blk.defaultsAction_pin (b : Blk) (src : Src) (h₀ : FaultPinRight b) : FaultPinRight (Blk.defaultsAction b src) :=
  keep_pin (Blk.defaultsAction_only (m₀ := [.out, .muslin, .can]) b src (by decide) (only_refl _ _)) (by decide) h₀

theorem Blk.responseAction_pin (b : Blk) (src : Src) (v : BitVec 64) (h₀ : FaultPinRight b) : FaultPinRight (Blk.responseAction b src v) :=
  keep_pin (Blk.responseAction_only (m₀ := [.out, .od, .hA, .hB, .sesA, .sesB, .sesC, .can, .linen]) b src v (by decide) (only_refl _ _)) (by decide) h₀

theorem Blk.closeAction_pin (b : Blk) (src : Src) (h₀ : FaultPinRight b) : FaultPinRight (Blk.closeAction b src) :=
  keep_pin (Blk.closeAction_only (m₀ := [.out, .sesA, .sesB, .sesC, .can]) b src (by decide) (only_refl _ _)) (by decide) h₀

theorem Blk.askRetrain_pin (b : Blk) (src : Src) (ch : Nat) (h₀ : FaultPinRight b) : FaultPinRight (Blk.askRetrain b src ch) :=
  keep_pin (Blk.askRetrain_only (m₀ := [.out, .can, .media]) b src ch (by decide) (only_refl _ _)) (by decide) h₀

theorem Blk.askTest_pin (b : Blk) (src : Src) (h₀ : FaultPinRight b) : FaultPinRight (Blk.askTest b src) :=
  keep_pin (Blk.askTest_only (m₀ := [.out, .can, .canvas]) b src (by decide) (only_refl _ _)) (by decide) h₀

theorem Blk.clearTweed_pin (b : Blk) (src : Src) (h₀ : FaultPinRight b) : FaultPinRight (Blk.clearTweed b src) :=
  keep_pin (Blk.clearTweed_only (m₀ := [.out, .can, .tweed]) b src (by decide) (only_refl _ _)) (by decide) h₀

theorem Blk.action_pin (b : Blk) (src : Src) (idx sub v : Nat) (h₀ : FaultPinRight b) : FaultPinRight (Blk.action b src idx sub v) := by
  unfold Blk.action
  repeat (first | with_reducible assumption | (with_reducible apply Blk.odSetFor_pin) | (with_reducible apply Blk.wrote_pin) | (with_reducible apply Blk.startRange_pin) | (with_reducible apply Blk.byAddress_pin) | (with_reducible apply Blk.bySetWay_pin) | (with_reducible apply Blk.openBarrier_pin) | (with_reducible apply Blk.unlockRegion_pin) | (with_reducible apply Blk.resetCount_pin) | (with_reducible apply Blk.clearHistograms_pin) | (with_reducible apply Blk.addAction_pin) | (with_reducible apply Blk.releaseAction_pin <;> [(intros; try dsimp only); skip]) | (with_reducible apply Blk.askRelease_pin) | (with_reducible apply Blk.forceRelease_pin) | (with_reducible apply Blk.defaultsAction_pin) | (with_reducible apply Blk.responseAction_pin) | (with_reducible apply Blk.closeAction_pin) | (with_reducible apply Blk.retireDie_pin) | (with_reducible apply Blk.retireChannel_pin) | (with_reducible apply Blk.askRetrain_pin) | (with_reducible apply Blk.toStandby_pin) | (with_reducible apply Blk.askTest_pin) | (with_reducible apply Blk.clearTweed_pin) | with_reducible apply pin_ite | split)

theorem Blk.bulkReq_pin (b : Blk) (h : Head) (maint : Bool) (f : Blk → Blk) (hf : ∀ c, FaultPinRight c → FaultPinRight (f c)) (h₀ : FaultPinRight b) : FaultPinRight (Blk.bulkReq b h maint f) := by
  unfold Blk.bulkReq
  repeat (first | with_reducible assumption | (with_reducible apply Blk.touch_pin) | (with_reducible apply Blk.mbox_pin <;> [(intros; try dsimp only); skip]) | (with_reducible apply hf) | (with_reducible apply pin_ite) | extract_lets | split | (intro c hc))

theorem Blk.endTransfer_pin (b : Blk) (k : Bulk) (crc : BitVec 32) (h₀ : FaultPinRight b) : FaultPinRight (Blk.endTransfer b k crc).1 := by
  unfold Blk.endTransfer
  repeat (first | with_reducible assumption | (with_reducible apply Blk.onDamask_pin) | (with_reducible apply Blk.objectApply_pin) | with_reducible apply pin_ite | with_reducible apply pin_ite_fst | dsimp only)

theorem Blk.withTransfer_pin (b : Blk) (trans : BitVec 8) (op : Nat) (f : Bulk → Blk) (hf : ∀ k, FaultPinRight (f k)) (h₀ : FaultPinRight b) : FaultPinRight (Blk.withTransfer b trans op f) := by
  unfold Blk.withTransfer
  repeat (first | with_reducible assumption | (with_reducible apply Blk.onCan_pin) | (with_reducible apply Blk.canStatus_pin) | (exact h₀) | (with_reducible apply hf) | (with_reducible apply pin_ite) | extract_lets | split | (intro c hc) | exact h₀)

theorem Blk.clockSleep_pin (b : Blk) (h₀ : FaultPinRight b) : FaultPinRight (Blk.clockSleep b) := by
  unfold Blk.clockSleep
  repeat (first | with_reducible assumption | (with_reducible apply Blk.enter_pin) | (with_reducible apply Blk.fallAsleep_pin) | with_reducible apply pin_ite | extract_lets | (dsimp +zetaDelta only))

theorem Blk.clockFailure_pin (b : Blk) (h₀ : FaultPinRight b) : FaultPinRight (Blk.clockFailure b) := by
  unfold Blk.clockFailure
  repeat (first | with_reducible assumption | (with_reducible apply pinSet) | (with_reducible apply onClocks_pin <;> [(intro; first | exact fallBack_failed _ | exact onPll_failed _ _ _); skip]) | (with_reducible refine onClocks_pin (fun _ => rfl) ?_) | (with_reducible apply Blk.faultPin_pin) | (with_reducible apply Blk.clockSleep_pin) | with_reducible apply pin_ite)

theorem Blk.startReturn_pin (b : Blk) (h₀ : FaultPinRight b) : FaultPinRight (Blk.startReturn b) := by
  unfold Blk.startReturn
  repeat (first | with_reducible assumption | (with_reducible refine onClocks_pin (fun _ => rfl) ?_) | (exact h₀) | with_reducible apply pin_ite | extract_lets | (dsimp +zetaDelta only) | exact h₀)

theorem Blk.autoReturn_pin (b : Blk) (h₀ : FaultPinRight b) : FaultPinRight (Blk.autoReturn b) := by
  unfold Blk.autoReturn
  repeat (first | with_reducible assumption | (with_reducible apply Blk.startReturn_pin) | with_reducible apply pin_ite)

theorem Blk.pllFail_pin (b : Blk) (p : Pll) (stopped : Bool) (h₀ : FaultPinRight b) : FaultPinRight (Blk.pllFail b p stopped) := by
  unfold Blk.pllFail
  repeat (first | with_reducible assumption | (with_reducible refine keep_pin (Blk.forcedSwitches_only (m₀ := [.out, .od, .hA, .hB, .can, .linen]) _ _ (by decide) (only_refl _ _)) (by decide) ?_) | (with_reducible apply onClocks_pin <;> [(intro; first | exact fallBack_failed _ | exact onPll_failed _ _ _); skip]) | (with_reducible refine onClocks_pin (fun _ => rfl) ?_) | (with_reducible apply Blk.bump_pin) | (with_reducible apply Blk.report_pin) | (with_reducible apply Blk.detect_pin) | (with_reducible apply Blk.clockFailure_pin) | (exact h₀) | with_reducible apply pin_ite | extract_lets | (dsimp +zetaDelta only) | exact h₀)

theorem Blk.onSensor_pin (b : Blk) (i : Nat) (f : Sensor → Sensor) (h₀ : FaultPinRight b) : FaultPinRight (Blk.onSensor b i f) :=
  keep_pin (Blk.onSensor_only (m₀ := [.thermal]) b i f (by decide) (only_refl _ _)) (by decide) h₀

theorem Blk.sampleSensor_pin (b : Blk) (i : Nat) (raw : BitVec 16) (h₀ : FaultPinRight b) : FaultPinRight (Blk.sampleSensor b i raw) := by
  unfold Blk.sampleSensor
  repeat (first | with_reducible assumption | (with_reducible apply Blk.reportUnit_pin) | (with_reducible apply Blk.detect_pin) | (with_reducible apply Blk.onSensor_pin) | with_reducible apply pin_ite | extract_lets | (dsimp +zetaDelta only))

theorem Blk.throttle_pin (b : Blk) (h₀ : FaultPinRight b) : FaultPinRight (Blk.throttle b) := by
  unfold Blk.throttle
  repeat (first | with_reducible assumption | (with_reducible apply Blk.onThermal_pin) | (with_reducible apply Blk.bump_pin) | (with_reducible apply Blk.enter_pin) | (with_reducible apply Blk.healthCheck_pin) | with_reducible apply pin_ite)

theorem Blk.coolDown_pin (b : Blk) (h₀ : FaultPinRight b) : FaultPinRight (Blk.coolDown b) := by
  unfold Blk.coolDown
  repeat (first | with_reducible assumption | (with_reducible apply pinSet) | (with_reducible apply Blk.onThermal_pin) | (with_reducible apply Blk.faultPin_pin) | with_reducible apply pin_ite | extract_lets | split | (dsimp +zetaDelta only))

theorem Blk.sensorCount_pin (b : Blk) (before : Nat) (h₀ : FaultPinRight b) : FaultPinRight (Blk.sensorCount b before) := by
  unfold Blk.sensorCount
  repeat (first | with_reducible assumption | (with_reducible apply pinSet) | (with_reducible apply Blk.onThermal_pin) | (with_reducible apply Blk.report_pin) | (with_reducible apply Blk.faultPin_pin) | (with_reducible apply Blk.detect_pin) | (with_reducible apply Blk.throttle_pin) | with_reducible apply pin_ite | extract_lets | (dsimp +zetaDelta only))

theorem Blk.coolBoot_pin (b : Blk) (h₀ : FaultPinRight b) : FaultPinRight (Blk.coolBoot b) := by
  unfold Blk.coolBoot
  repeat (first | with_reducible assumption | (with_reducible apply pinSet) | (with_reducible refine onModes_pin (fun _ => ⟨rfl, rfl⟩) ?_) | (with_reducible apply Blk.faultPin_pin) | (with_reducible apply Blk.startBoot_pin) | with_reducible apply pin_ite | split)

theorem Blk.iTake_pin (b : Blk) (addr : BitVec 32) (width : Nat) (v : BitVec 64) (h₀ : FaultPinRight b) : FaultPinRight (Blk.iTake b addr width v) := by
  unfold Blk.iTake
  repeat (first | with_reducible assumption | (with_reducible apply Blk.takeDirect_pin) | (exact h₀) | split | exact h₀)

theorem Blk.onCtl_pin (b : Blk) (h : Head) (f : Ctl → Ctl) (h₀ : FaultPinRight b) : FaultPinRight (Blk.onCtl b h f) :=
  keep_pin (Blk.onCtl_only (m₀ := [.hA, .hB]) b h f (by decide) (only_refl _ _)) (by decide) h₀

theorem Blk.ackPosted_pin (b : Blk) (h : Head) (h₀ : FaultPinRight b) : FaultPinRight (Blk.ackPosted b h) := by
  unfold Blk.ackPosted
  repeat (first | with_reducible assumption | (with_reducible apply Blk.onCtl_pin) | (with_reducible apply Blk.iTake_pin) | (exact h₀) | split | exact h₀)

theorem Blk.ctlWord_pin (b : Blk) (h : Head) (off : Nat) (v : BitVec 32) (h₀ : FaultPinRight b) : FaultPinRight (Blk.ctlWord b h off v) := by
  unfold Blk.ctlWord
  repeat (first | with_reducible assumption | (with_reducible apply Blk.onSafety_pin) | (with_reducible apply Blk.onCtl_pin) | (with_reducible apply Blk.ackPosted_pin) | (exact h₀) | split | exact h₀)

theorem Blk.takeDue_pin (b : Blk) (target : Nat) (ok : Nat → Bool) (f : Nat → Blk → Blk) (hf : ∀ v c, FaultPinRight c → FaultPinRight (f v c)) (h₀ : FaultPinRight b) : FaultPinRight (Blk.takeDue b target ok f) := by
  unfold Blk.takeDue
  repeat (first | with_reducible assumption | (exact h₀) | (with_reducible apply hf) | (with_reducible apply pin_ite) | extract_lets | split | (intro c hc) | exact h₀)

theorem Blk.loseInput_pin (b : Blk) (cause : Nat) (h₀ : FaultPinRight b) : FaultPinRight (Blk.loseInput b cause) := by
  unfold Blk.loseInput
  repeat (first | with_reducible assumption | (with_reducible refine onModes_pin (fun _ => ⟨rfl, rfl⟩) ?_) | (with_reducible apply Blk.dropRails_pin) | (with_reducible apply Blk.beginFlush_pin) | with_reducible apply pin_ite)

theorem Blk.putCopies_pin (b : Blk) (f : Voted) (v : Nat) (h₀ : FaultPinRight b) : FaultPinRight (Blk.putCopies b f v) := by
  unfold Blk.putCopies
  repeat (first | with_reducible assumption | (with_reducible refine onModes_pin (fun _ => ⟨rfl, rfl⟩) ?_) | (with_reducible apply Blk.onVelvet_pin) | (with_reducible apply Blk.onDamask_pin) | (with_reducible apply Blk.onFelt_pin) | (with_reducible apply Blk.onSafety_pin) | split)

theorem Blk.renewPool_pin (b : Blk) (h₀ : FaultPinRight b) : FaultPinRight (Blk.renewPool b) := by
  unfold Blk.renewPool
  repeat (first | with_reducible assumption | (with_reducible apply Blk.resetRow_pin) | (with_reducible refine pin_foldl (fun c x hc => ?_) _ _ ?_) | extract_lets | (dsimp +zetaDelta only))

theorem Blk.velvetWord_pin (b : Blk) (slice word : Nat) (tx : MediaTx) (addr : Bool) (h₀ : FaultPinRight b) : FaultPinRight (Blk.velvetWord b slice word tx addr) := by
  unfold Blk.velvetWord
  repeat (first | with_reducible assumption | (with_reducible apply Blk.dropWay_pin) | (with_reducible apply Blk.loseHalf_pin) | with_reducible apply pin_ite | extract_lets | split | (dsimp +zetaDelta only))

theorem Blk.tagWord_pin (b : Blk) (n : Nat) (tx : MediaTx) (addr : Bool) (h₀ : FaultPinRight b) : FaultPinRight (Blk.tagWord b n tx addr) := by
  unfold Blk.tagWord
  repeat (first | with_reducible assumption | (with_reducible apply Blk.onDamask_pin) | (with_reducible apply Blk.poisonLine_pin) | (with_reducible apply Blk.damaskFailure_pin) | (with_reducible refine pin_foldl (fun c x hc => ?_) _ _ ?_) | with_reducible apply pin_ite | extract_lets | split | (dsimp +zetaDelta only))

theorem Blk.reqLost_pin (b : Blk) (x : Acc) (addr : Bool) (h₀ : FaultPinRight b) : FaultPinRight (Blk.reqLost b x addr) := by
  unfold Blk.reqLost
  repeat (first | with_reducible assumption | (with_reducible apply Blk.onPath_pin) | (with_reducible apply Blk.endAcc_pin) | (with_reducible apply Blk.finishRead_pin) | (with_reducible apply Blk.finishWrite_pin) | (with_reducible apply Blk.listInternal_pin) | with_reducible apply pin_ite)

theorem Blk.bufLost_pin (b : Blk) (n : Nat) (x : HBuf) (i : Bool) (tx : MediaTx) (addr : Bool) (h₀ : FaultPinRight b) : FaultPinRight (Blk.bufLost b n x i tx addr) := by
  unfold Blk.bufLost
  repeat (first | with_reducible assumption | (with_reducible apply Blk.listInternal_pin) | (with_reducible apply Blk.putBuf_pin))

theorem Blk.onLinen_pin (b : Blk) (f : Linen → Linen) (h₀ : FaultPinRight b) : FaultPinRight (Blk.onLinen b f) :=
  keep_pin (Blk.onLinen_only (m₀ := [.linen]) b f (by decide) (only_refl _ _)) (by decide) h₀

theorem Blk.drop_pin (b : Blk) (sev : Nat) (h₀ : FaultPinRight b) : FaultPinRight (Blk.drop b sev) :=
  keep_pin (Blk.drop_only (m₀ := [.od]) b sev (by decide) (only_refl _ _)) (by decide) h₀

theorem Blk.tableWord_pin (b : Blk) (key : Nat) (h₀ : FaultPinRight b) : FaultPinRight (Blk.tableWord b key) :=
  keep_pin (Blk.tableWord_only (m₀ := [.free, .regs, .hA, .hB, .media, .twill, .tweed]) b key (by decide) (only_refl _ _)) (by decide) h₀

theorem Blk.queueWord_pin (b : Blk) (word : Nat) (tx : MediaTx) (addr : Bool) (h₀ : FaultPinRight b) : FaultPinRight (Blk.queueWord b word tx addr) := by
  unfold Blk.queueWord
  repeat (first | with_reducible assumption | (with_reducible apply Blk.onLinen_pin) | (with_reducible apply Blk.onTweed_pin) | (with_reducible apply Blk.drop_pin) | (with_reducible apply Blk.discardStaged_pin) | (with_reducible apply Blk.reqLost_pin) | (with_reducible apply Blk.bufLost_pin) | (with_reducible apply Blk.tableWord_pin) | with_reducible apply pin_ite | extract_lets | split | (dsimp +zetaDelta only))

theorem Blk.gaugeWord_pin (b : Blk) (n : Nat) (h₀ : FaultPinRight b) : FaultPinRight (Blk.gaugeWord b n) :=
  keep_pin (Blk.gaugeWord_only (m₀ := [.gauze]) b n (by decide) (only_refl _ _)) (by decide) h₀

theorem Blk.sramLost_pin (b : Blk) (k word : Nat) (tx : MediaTx) (addr : Bool) (h₀ : FaultPinRight b) : FaultPinRight (Blk.sramLost b k word tx addr) := by
  unfold Blk.sramLost
  repeat (first | with_reducible assumption | (with_reducible apply Blk.onTwill_pin) | (with_reducible apply Blk.engineFail_pin) | (with_reducible apply Blk.velvetWord_pin) | (with_reducible apply Blk.tagWord_pin) | (with_reducible apply Blk.gaugeWord_pin) | (with_reducible apply Blk.queueWord_pin) | with_reducible apply pin_ite | extract_lets | split | (dsimp +zetaDelta only))

theorem Blk.failBank_pin (b : Blk) (k : Nat) (h₀ : FaultPinRight b) : FaultPinRight (Blk.failBank b k) := by
  unfold Blk.failBank
  repeat (first | with_reducible assumption | (with_reducible apply Blk.onBank_pin) | (with_reducible apply Blk.bankFail_pin) | with_reducible apply pin_ite)

theorem Blk.sramRead_pin (b : Blk) (k word : Nat) (e : SramErr) (tx : MediaTx) (h₀ : FaultPinRight b) : FaultPinRight (Blk.sramRead b k word e tx) := by
  unfold Blk.sramRead
  repeat (first | with_reducible assumption | (with_reducible apply Blk.bump_pin) | (with_reducible apply Blk.reportUnit_pin) | (with_reducible apply Blk.detect_pin) | (with_reducible apply Blk.onBank_pin) | (with_reducible apply Blk.sramLost_pin) | (with_reducible apply Blk.failBank_pin) | with_reducible apply pin_ite | extract_lets | split | (dsimp +zetaDelta only))

theorem Blk.scrubWord_pin (b : Blk) (k word : Nat) (e : SramErr) (h₀ : FaultPinRight b) : FaultPinRight (Blk.scrubWord b k word e) := by
  unfold Blk.scrubWord
  repeat (first | with_reducible assumption | (with_reducible apply onMedia_pin <;> [(intro; rfl); skip]) | (with_reducible apply Blk.healthCheck_pin) | (with_reducible apply Blk.sramRead_pin) | with_reducible apply onMedia_pin | with_reducible apply pin_ite | extract_lets | (dsimp +zetaDelta only))

theorem Blk.dieAnswers_pin (b : Blk) (d : Nat) (h₀ : FaultPinRight b) : FaultPinRight (Blk.dieAnswers b d) := by
  unfold Blk.dieAnswers
  repeat (first | with_reducible assumption | (with_reducible apply Blk.emit_pin) | (with_reducible apply Blk.dieStatus_pin) | with_reducible apply pin_ite)

theorem Blk.pollDies_pin (b : Blk) (h₀ : FaultPinRight b) : FaultPinRight (Blk.pollDies b) := by
  unfold Blk.pollDies
  repeat (first | with_reducible assumption | (with_reducible apply Blk.sendDie_pin) | (with_reducible apply Blk.dieAnswers_pin) | (with_reducible refine pin_foldl (fun c x hc => ?_) _ _ ?_))

theorem Blk.servePfail_pin (b : Blk) (d : Nat) (v : BitVec 256) (h₀ : FaultPinRight b) : FaultPinRight (Blk.servePfail b d v) := by
  unfold Blk.servePfail
  repeat (first | with_reducible assumption | (with_reducible apply Blk.programEnds_pin) | (with_reducible refine pin_foldl (fun c x hc => ?_) _ _ ?_))

theorem Blk.serveRfail_pin (b : Blk) (d : Nat) (v : BitVec 256) (h₀ : FaultPinRight b) : FaultPinRight (Blk.serveRfail b d v) := by
  unfold Blk.serveRfail
  repeat (first | with_reducible assumption | (with_reducible apply Blk.resetEnds_pin) | (with_reducible refine pin_foldl (fun c x hc => ?_) _ _ ?_))

theorem Blk.comesBack_pin (b : Blk) (d : Nat) (alrt : BitVec 7) (h₀ : FaultPinRight b) : FaultPinRight (Blk.comesBack b d alrt) := by
  unfold Blk.comesBack
  repeat (first | with_reducible assumption | (with_reducible apply Blk.onDie_pin) | (with_reducible apply Blk.dieFail_pin) | with_reducible apply pin_ite | extract_lets | (dsimp +zetaDelta only))

theorem Blk.maskTherm_pin (b : Blk) (d : Nat) (on : Bool) (h₀ : FaultPinRight b) : FaultPinRight (Blk.maskTherm b d on) :=
  keep_pin (Blk.maskTherm_only (m₀ := [.out, .media]) b d on (by decide) (only_refl _ _)) (by decide) h₀

theorem Blk.serveWdat_pin (b : Blk) (d : Nat) (v : BitVec 256) (h₀ : FaultPinRight b) : FaultPinRight (Blk.serveWdat b d v) :=
  keep_pin (Blk.serveWdat_only (m₀ := [.free, .out, .od, .hA, .hB, .can, .media, .twill, .linen, .tweed]) b d v (by decide) (only_refl _ _)) (by decide) h₀

theorem Blk.serveIdle_pin (b : Blk) (d : Nat) (v : BitVec 256) (h₀ : FaultPinRight b) : FaultPinRight (Blk.serveIdle b d v) :=
  keep_pin (Blk.serveIdle_only (m₀ := [.free, .out, .od, .hA, .hB, .can, .media, .twill, .linen, .tweed]) b d v (by decide) (only_refl _ _)) (by decide) h₀

theorem Blk.adopt_pin (b : Blk) (d : Nat) (v : BitVec 256) (h₀ : FaultPinRight b) : FaultPinRight (Blk.adopt b d v) :=
  keep_pin (Blk.adopt_only (m₀ := [.media]) b d v (by decide) (only_refl _ _)) (by decide) h₀

theorem Blk.serveDie_pin (b : Blk) (d : Nat) (v : BitVec 256) (h₀ : FaultPinRight b) : FaultPinRight (Blk.serveDie b d v) := by
  unfold Blk.serveDie
  repeat (first | with_reducible assumption | (with_reducible apply Blk.bump_pin) | (with_reducible apply Blk.onDie_pin) | (with_reducible apply Blk.reportUnit_pin) | (with_reducible apply Blk.twChan_pin) | (with_reducible apply Blk.sendDie_pin) | (with_reducible apply Blk.maskTherm_pin) | (with_reducible apply Blk.dieStatus_pin) | (with_reducible apply Blk.dieFail_pin) | (with_reducible apply Blk.serveWdat_pin) | (with_reducible apply Blk.serveIdle_pin) | (with_reducible apply Blk.adopt_pin) | (with_reducible apply Blk.servePfail_pin) | (with_reducible apply Blk.serveRfail_pin) | (with_reducible apply Blk.comesBack_pin) | with_reducible apply pin_ite | extract_lets | (dsimp +zetaDelta only))

theorem Blk.channelTrained_pin (b : Blk) (n : Nat) (ch : Nat) (o : TrainObs) (h₀ : FaultPinRight b) : FaultPinRight (Blk.channelTrained b n ch o) := by
  unfold Blk.channelTrained
  repeat (first | with_reducible assumption | (with_reducible apply Blk.onChan_pin) | (with_reducible apply Blk.onDie_pin) | (with_reducible apply Blk.dieFail_pin) | (with_reducible apply Blk.channelFail_pin) | (exact h₀) | (with_reducible refine pin_foldl (fun c x hc => ?_) _ _ ?_) | with_reducible apply pin_ite | extract_lets | (dsimp +zetaDelta only) | exact h₀)

theorem Blk.payOwed_pin (b : Blk) (ch : Nat) (h₀ : FaultPinRight b) : FaultPinRight (Blk.payOwed b ch) :=
  keep_pin (Blk.payOwed_only (m₀ := [.free, .out, .od, .hA, .hB, .can, .media, .twill, .linen, .tweed]) b ch (by decide) (only_refl _ _)) (by decide) h₀

theorem Blk.issueAgain_pin (b : Blk) (d : Nat) (h₀ : FaultPinRight b) : FaultPinRight (Blk.issueAgain b d) :=
  keep_pin (Blk.issueAgain_only (m₀ := [.free, .out, .od, .hA, .hB, .can, .media, .twill, .linen, .tweed]) b d (by decide) (only_refl _ _)) (by decide) h₀

theorem Blk.channelBack_pin (b : Blk) (ch timeUs : Nat) (h₀ : FaultPinRight b) : FaultPinRight (Blk.channelBack b ch timeUs) := by
  unfold Blk.channelBack
  repeat (first | with_reducible assumption | (with_reducible apply Blk.onChan_pin) | (with_reducible apply Blk.pump_pin) | (with_reducible apply Blk.drive_pin) | (with_reducible apply Blk.payOwed_pin) | (with_reducible apply Blk.issueAgain_pin) | (exact h₀) | (with_reducible refine pin_foldl (fun c x hc => ?_) _ _ ?_) | extract_lets | (dsimp +zetaDelta only) | exact h₀)

theorem Blk.headDown_pin (b : Blk) (h : Head) (h₀ : FaultPinRight b) : FaultPinRight (Blk.headDown b h) :=
  keep_pin (Blk.headDown_only (m₀ := [.out, .od, .hA, .hB, .sesA, .sesB, .sesC, .muslin, .can, .path, .velvet, .damask]) b h (by decide) (only_refl _ _)) (by decide) h₀

theorem Blk.headFail_pin (b : Blk) (h : Head) (h₀ : FaultPinRight b) : FaultPinRight (Blk.headFail b h) := by
  unfold Blk.headFail
  repeat (first | with_reducible assumption | (with_reducible apply Blk.report_pin) | (with_reducible apply Blk.degrade_pin) | (with_reducible apply Blk.healthCheck_pin) | (with_reducible apply Blk.headDown_pin))

theorem Blk.checkerFailed_pin (b : Blk) (k : Checker) (h₀ : FaultPinRight b) : FaultPinRight (Blk.checkerFailed b k) := by
  unfold Blk.checkerFailed
  repeat (first | with_reducible assumption | (with_reducible apply Blk.bump_pin) | (with_reducible apply Blk.reportUnit_pin) | (with_reducible apply Blk.detect_pin) | (with_reducible apply Blk.onEngine_pin) | (with_reducible apply Blk.bankFail_pin) | (with_reducible apply Blk.onSensor_pin) | (with_reducible apply Blk.sensorCount_pin) | (with_reducible apply Blk.headFail_pin) | with_reducible apply pin_ite | extract_lets | split | (dsimp +zetaDelta only))

theorem Blk.cycleUp_pin (b : Blk) (h₀ : FaultPinRight b) : FaultPinRight (Blk.cycleUp b) :=
  keep_pin (Blk.cycleUp_only (m₀ := [.out, .od, .hA, .hB, .can, .linen, .felt]) b (by decide) (only_refl _ _)) (by decide) h₀

theorem Blk.loadOd_pin (b : Blk) (keepAon : Bool) (h₀ : FaultPinRight b) : FaultPinRight (Blk.loadOd b keepAon) :=
  keep_pin (Blk.loadOd_only (m₀ := [.od, .felt, .tweed]) b keepAon (by decide) (only_refl _ _)) (by decide) h₀

theorem Blk.unknownFault_pin (b : Blk) (h₀ : FaultPinRight b) : FaultPinRight (Blk.unknownFault b) :=
  keep_pin (Blk.unknownFault_only (m₀ := [.canvas]) b (by decide) (only_refl _ _)) (by decide) h₀

theorem Blk.readAccess_pin (b : Blk) (v : Nat) (h₀ : FaultPinRight b) : FaultPinRight (Blk.readAccess b v) :=
  keep_pin (Blk.readAccess_only (m₀ := [.free, .out, .od, .hA, .hB, .can, .linen]) b v (by decide) (only_refl _ _)) (by decide) h₀

theorem Blk.aonReset_pin (b : Blk) (straps : List (Fin 4)) (pfailHigh testEn : Bool) (h₀ : FaultPinRight b) : FaultPinRight (Blk.aonReset b straps pfailHigh testEn) := by
  unfold Blk.aonReset
  repeat (first | with_reducible assumption | (with_reducible apply Blk.setConditions_pin) | (with_reducible refine onModes_pin (fun _ => ⟨rfl, rfl⟩) ?_) | (with_reducible apply Blk.onCan_pin) | (with_reducible apply Blk.onLinen_pin) | (with_reducible apply Blk.setConditions_pin) | (with_reducible apply Blk.newNonce_pin) | (with_reducible apply Blk.cycleUp_pin) | (with_reducible apply Blk.powerCycled_pin) | (with_reducible apply Blk.loadOd_pin) | (with_reducible apply Blk.unknownFault_pin) | (with_reducible apply Blk.readAccess_pin) | (exact h₀) | extract_lets | (dsimp +zetaDelta only) | exact h₀)

theorem Blk.dark_pin (b : Blk) (h₀ : FaultPinRight b) : FaultPinRight (Blk.dark b) := by
  unfold FaultPinRight Blk.dark; dsimp only; decide

theorem Blk.flushCheck_pin (b : Blk) (e : Nat × DpErr) (h₀ : FaultPinRight b) : FaultPinRight (Blk.flushCheck b e) := by
  unfold Blk.flushCheck
  repeat (first | with_reducible assumption | (with_reducible apply Blk.onVelvet_pin) | (with_reducible apply Blk.poisonLine_pin) | (with_reducible apply Blk.dropWay_pin) | with_reducible apply pin_ite | extract_lets | split | (dsimp +zetaDelta only))

theorem Blk.chatter_pin (b : Blk) (s : Nat) (timeout : Bool) (h₀ : FaultPinRight b) : FaultPinRight (Blk.chatter b s timeout) := by
  unfold Blk.chatter
  repeat (first | with_reducible assumption | (with_reducible apply Blk.bump_pin) | (with_reducible apply Blk.reportUnit_pin) | (with_reducible apply Blk.allOff_pin) | with_reducible apply pin_ite | extract_lets | (dsimp +zetaDelta only))

theorem Blk.stepChange_pin (b : Blk) (s : Nat) (was : Bool) (h₀ : FaultPinRight b) : FaultPinRight (Blk.stepChange b s was) := by
  unfold Blk.stepChange
  repeat (first | with_reducible assumption | (with_reducible apply Blk.onSlot_pin) | (with_reducible apply Blk.chatter_pin) | with_reducible apply pin_ite | extract_lets | (dsimp +zetaDelta only))

theorem Blk.orderEnds_pin (b : Blk) (h₀ : FaultPinRight b) : FaultPinRight (Blk.orderEnds b) := by
  unfold Blk.orderEnds
  repeat (first | with_reducible assumption | (with_reducible refine onModes_pin (fun _ => ⟨rfl, rfl⟩) ?_) | (with_reducible apply Blk.onCanvas_pin) | (with_reducible apply Blk.odSet_pin) | (exact h₀) | exact h₀)

theorem Blk.feltPowered_pin (b : Blk) (h₀ : FaultPinRight b) : FaultPinRight (Blk.feltPowered b) :=
  keep_pin (Blk.feltPowered_only (m₀ := [.out, .od, .hA, .hB, .can, .linen, .felt, .canvas]) b (by decide) (only_refl _ _)) (by decide) h₀

theorem Blk.mayTrain_pin (b : Blk) (h : Head) (h₀ : FaultPinRight b) : FaultPinRight (Blk.mayTrain b h) :=
  keep_pin (Blk.mayTrain_only (m₀ := [.od, .hA, .hB]) b h (by decide) (only_refl _ _)) (by decide) h₀

theorem Blk.qualified_pin (b : Blk) (s : Nat) (h₀ : FaultPinRight b) : FaultPinRight (Blk.qualified b s) := by
  unfold Blk.qualified
  repeat (first | with_reducible assumption | (with_reducible apply Blk.onSlot_pin) | (with_reducible apply Blk.powerDown_pin) | (with_reducible apply Blk.feltPowered_pin) | (with_reducible apply Blk.mayTrain_pin) | (with_reducible apply Blk.orderEnds_pin) | with_reducible apply pin_ite | extract_lets | (dsimp +zetaDelta only))

theorem Blk.reportEnergy_pin (b : Blk) (h₀ : FaultPinRight b) : FaultPinRight (Blk.reportEnergy b) := by
  unfold Blk.reportEnergy
  repeat (first | with_reducible assumption | (with_reducible refine onModes_pin (fun _ => ⟨rfl, rfl⟩) ?_) | (with_reducible apply Blk.onVelvet_pin) | (with_reducible apply Blk.onCanvas_pin) | (with_reducible apply Blk.energyReport_pin) | (exact h₀) | with_reducible apply pin_ite | extract_lets | (dsimp +zetaDelta only) | exact h₀)

theorem Blk.canvasLogged_pin (b : Blk) (r : List Nat) (h₀ : FaultPinRight b) : FaultPinRight (Blk.canvasLogged b r) :=
  keep_pin (Blk.canvasLogged_only (m₀ := [.out, .od, .hA, .hB, .can, .linen, .felt, .canvas]) b r (by decide) (only_refl _ _)) (by decide) h₀

theorem Blk.testResult_pin (b : Blk) (stepUv dv : Nat) (h₀ : FaultPinRight b) : FaultPinRight (Blk.testResult b stepUv dv) := by
  unfold Blk.testResult
  repeat (first | with_reducible assumption | (with_reducible apply Blk.onCanvas_pin) | (with_reducible apply Blk.odSet_pin) | (with_reducible apply Blk.report_pin) | (with_reducible apply Blk.detect_pin) | (with_reducible apply Blk.canvasLogged_pin) | (exact h₀) | with_reducible apply pin_ite | extract_lets | (dsimp +zetaDelta only) | exact h₀)

theorem Blk.newRates_pin (b : Blk) (h₀ : FaultPinRight b) : FaultPinRight (Blk.newRates b) :=
  keep_pin (Blk.newRates_only (m₀ := [.can]) b (by decide) (only_refl _ _)) (by decide) h₀

theorem Blk.fillBank_pin (b : Blk) (bad : List Nat) (k : Nat) (h₀ : FaultPinRight b) : FaultPinRight (Blk.fillBank b bad k) :=
  keep_pin (Blk.fillBank_only (m₀ := [.out, .od, .hA, .hB, .can, .linen, .safety]) b bad k (by decide) (only_refl _ _)) (by decide) h₀

theorem Blk.defaultsEvent_pin (b : Blk) (h₀ : FaultPinRight b) : FaultPinRight (Blk.defaultsEvent b) :=
  keep_pin (Blk.defaultsEvent_only (m₀ := [.out, .od, .hA, .hB, .can, .linen]) b (by decide) (only_refl _ _)) (by decide) h₀

theorem Blk.shutdownCheck_pin (b : Blk) (h₀ : FaultPinRight b) : FaultPinRight (Blk.shutdownCheck b) :=
  keep_pin (Blk.shutdownCheck_only (m₀ := [.out, .od, .hA, .hB, .can, .twill, .damask, .linen, .felt]) b (by decide) (only_refl _ _)) (by decide) h₀

theorem Blk.bootChecks_pin (b : Blk) (h₀ : FaultPinRight b) : FaultPinRight (Blk.bootChecks b) :=
  keep_pin (Blk.bootChecks_only (m₀ := [.out, .od, .hA, .hB, .can, .gauze, .linen, .felt]) b (by decide) (only_refl _ _)) (by decide) h₀

theorem Blk.freshSensors_pin (b : Blk) (h₀ : FaultPinRight b) : FaultPinRight (Blk.freshSensors b) :=
  keep_pin (Blk.freshSensors_only (m₀ := [.thermal]) b (by decide) (only_refl _ _)) (by decide) h₀

theorem Blk.bringUp_pin (b : Blk) (bad : List Nat) (h₀ : FaultPinRight b) : FaultPinRight (Blk.bringUp b bad) := by
  unfold Blk.bringUp
  repeat (first | with_reducible assumption | (with_reducible apply pinSet) | (with_reducible refine onModes_pin (fun _ => ⟨rfl, rfl⟩) ?_) | (with_reducible refine onClocks_pin (fun _ => rfl) ?_) | (with_reducible apply Blk.faultPin_pin) | (with_reducible apply Blk.newRates_pin) | (with_reducible apply Blk.loadOd_pin) | (with_reducible apply Blk.fillBank_pin) | (with_reducible apply Blk.defaultsEvent_pin) | (with_reducible apply Blk.shutdownCheck_pin) | (with_reducible apply Blk.bootChecks_pin) | (with_reducible apply Blk.freshSensors_pin) | (exact h₀) | (with_reducible refine pin_foldl (fun c x hc => ?_) _ _ ?_) | extract_lets | (dsimp +zetaDelta only) | exact h₀)

theorem Blk.dropCopies_pin (b : Blk) (item : Nat) (h₀ : FaultPinRight b) : FaultPinRight (Blk.dropCopies b item) :=
  keep_pin (Blk.dropCopies_only (m₀ := [.felt]) b item (by decide) (only_refl _ _)) (by decide) h₀

theorem Blk.itemAbsent_pin (b : Blk) (i : Nat) (h₀ : FaultPinRight b) : FaultPinRight (Blk.itemAbsent b i) :=
  keep_pin (Blk.itemAbsent_only (m₀ := [.can, .gauze, .damask, .felt]) b i (by decide) (only_refl _ _)) (by decide) h₀

theorem Blk.itemGone_pin (b : Blk) (i : Nat) (h₀ : FaultPinRight b) : FaultPinRight (Blk.itemGone b i) := by
  unfold Blk.itemGone
  repeat (first | with_reducible assumption | (with_reducible apply Blk.detect_pin) | (with_reducible apply Blk.dropCopies_pin) | (with_reducible apply Blk.itemAbsent_pin) | with_reducible apply pin_ite)

theorem Blk.twinConflict_pin (b : Blk) (i : Nat) (h₀ : FaultPinRight b) : FaultPinRight (Blk.twinConflict b i) :=
  keep_pin (Blk.twinConflict_only (m₀ := [.out, .od, .hA, .hB, .can, .linen]) b i (by decide) (only_refl _ _)) (by decide) h₀

theorem Blk.loadFelt_pin (b : Blk) (x : FeltObs) (h₀ : FaultPinRight b) : FaultPinRight (Blk.loadFelt b x) := by
  unfold Blk.loadFelt
  repeat (first | with_reducible assumption | (with_reducible apply Blk.twinConflict_pin) | (with_reducible apply Blk.itemGone_pin) | (with_reducible refine pin_foldl (fun c x hc => ?_) _ _ ?_))

theorem Blk.fillFails_pin (b : Blk) (bad : List Nat) (h₀ : FaultPinRight b) : FaultPinRight (Blk.fillFails b bad) := by
  unfold Blk.fillFails
  repeat (first | with_reducible assumption | (with_reducible refine onModes_pin (fun _ => ⟨rfl, rfl⟩) ?_) | (with_reducible apply Blk.useFree_pin) | (with_reducible apply Blk.report_pin) | (with_reducible apply Blk.onBank_pin) | (with_reducible apply Blk.ringNewest_pin) | (with_reducible refine pin_foldl (fun c x hc => ?_) _ _ ?_) | extract_lets | (dsimp +zetaDelta only))

theorem Blk.replaceDie_pin (b : Blk) (d : Nat) (id : BitVec 64) (h₀ : FaultPinRight b) : FaultPinRight (Blk.replaceDie b d id) := by
  unfold Blk.replaceDie
  repeat (first | with_reducible assumption | (with_reducible apply onMedia_pin <;> [(intro; rfl); skip]) | (with_reducible apply Blk.onDamask_pin) | (with_reducible apply Blk.onDie_pin) | (with_reducible apply Blk.reportUnit_pin) | (with_reducible apply Blk.dieFail_pin) | (with_reducible apply Blk.clearCells_pin) | with_reducible apply onMedia_pin | with_reducible apply pin_ite | extract_lets | (dsimp +zetaDelta only))

theorem Blk.checkDie_pin (ids : List (Nat × BitVec 64)) (b : Blk) (d : Nat) (h₀ : FaultPinRight b) : FaultPinRight (Blk.checkDie ids b d) := by
  unfold Blk.checkDie
  repeat (first | with_reducible assumption | (with_reducible apply Blk.dieFail_pin) | (with_reducible apply Blk.replaceDie_pin) | with_reducible apply pin_ite | split)

theorem Blk.ownMedia_pin (b : Blk) (ids : List (Nat × BitVec 64)) (h₀ : FaultPinRight b) : FaultPinRight (Blk.ownMedia b ids) := by
  unfold Blk.ownMedia
  repeat (first | with_reducible assumption | (with_reducible apply Blk.boundNow_pin) | (with_reducible apply Blk.checkDie_pin) | (with_reducible refine pin_foldl (fun c x hc => ?_) _ _ ?_))

theorem Blk.draw_pin (b : Blk) (h₀ : FaultPinRight b) : FaultPinRight (Blk.draw b) :=
  keep_pin (Blk.draw_only (m₀ := [.rng]) b (by decide) (only_refl _ _)) (by decide) h₀

theorem Blk.provisionSlots_pin (b : Blk) (h₀ : FaultPinRight b) : FaultPinRight (Blk.provisionSlots b) :=
  keep_pin (Blk.provisionSlots_only (m₀ := [.free, .media, .twill, .gauze]) b (by decide) (only_refl _ _)) (by decide) h₀

theorem Blk.firstProvision_pin (b : Blk) (h₀ : FaultPinRight b) : FaultPinRight (Blk.firstProvision b) := by
  unfold Blk.firstProvision
  repeat (first | with_reducible assumption | (with_reducible apply Blk.onDamask_pin) | (with_reducible apply Blk.onFelt_pin) | (with_reducible apply Blk.draw_pin) | (with_reducible apply Blk.itemWrite_pin) | (with_reducible apply Blk.bind_pin) | (with_reducible apply Blk.boundNow_pin) | (with_reducible apply Blk.provisionSlots_pin) | extract_lets | (dsimp +zetaDelta only))

theorem Blk.degradedNow_pin (b : Blk) (h₀ : FaultPinRight b) : FaultPinRight (Blk.degradedNow b) := by
  unfold Blk.degradedNow
  repeat (first | with_reducible assumption | (with_reducible apply Blk.enter_pin) | (with_reducible apply Blk.degrade_pin) | with_reducible apply pin_ite | extract_lets | (dsimp +zetaDelta only))

theorem Blk.modeNow_pin (b : Blk) (h₀ : FaultPinRight b) : FaultPinRight (Blk.modeNow b) := by
  unfold Blk.modeNow
  repeat (first | with_reducible assumption | (with_reducible apply Blk.onVelvet_pin) | (with_reducible apply Blk.report_pin) | (with_reducible apply Blk.energyReport_pin) | with_reducible apply pin_ite | extract_lets | (dsimp +zetaDelta only))

theorem Blk.planNow_pin (b : Blk) (h₀ : FaultPinRight b) : FaultPinRight (Blk.planNow b) := by
  unfold Blk.planNow
  repeat (first | with_reducible assumption | (with_reducible apply Blk.newPlan_pin) | (with_reducible apply Blk.openLanes_pin) | (with_reducible apply Blk.turnPlan_pin) | with_reducible apply pin_ite)

theorem Blk.fwTaken_pin (b : Blk) (h₀ : FaultPinRight b) : FaultPinRight (Blk.fwTaken b) :=
  keep_pin (Blk.fwTaken_only (m₀ := [.felt]) b (by decide) (only_refl _ _)) (by decide) h₀

theorem Blk.startLaps_pin (b : Blk) (h₀ : FaultPinRight b) : FaultPinRight (Blk.startLaps b) :=
  keep_pin (Blk.startLaps_only (m₀ := [.media]) b (by decide) (only_refl _ _)) (by decide) h₀

theorem Blk.activate_pin (b : Blk) (h₀ : FaultPinRight b) : FaultPinRight (Blk.activate b) := by
  unfold Blk.activate
  repeat (first | with_reducible assumption | (with_reducible apply Blk.setConditions_pin) | (with_reducible refine onModes_pin (fun _ => ⟨rfl, rfl⟩) ?_) | (with_reducible apply Blk.onHA_pin) | (with_reducible apply Blk.onHB_pin) | (with_reducible apply Blk.report_pin) | (with_reducible apply Blk.setConditions_pin) | (with_reducible apply Blk.lifeCheck_pin) | (with_reducible apply Blk.poisonWarn_pin) | (with_reducible apply Blk.retireWaiting_pin) | (with_reducible apply Blk.drive_pin) | (with_reducible apply Blk.payOwed_pin) | (with_reducible apply Blk.throttle_pin) | (with_reducible apply Blk.fwTaken_pin) | (with_reducible apply Blk.startLaps_pin) | (with_reducible apply Blk.degradedNow_pin) | (with_reducible apply Blk.modeNow_pin) | (with_reducible apply Blk.planNow_pin) | (with_reducible refine pin_foldl (fun c x hc => ?_) _ _ ?_) | with_reducible apply pin_ite | extract_lets | (dsimp +zetaDelta only))

theorem Blk.spdmReq_pin (b : Blk) (h : Head) (f : Blk → Blk) (hf : ∀ c, FaultPinRight c → FaultPinRight (f c)) (h₀ : FaultPinRight b) : FaultPinRight (Blk.spdmReq b h f) := by
  unfold Blk.spdmReq
  repeat (first | with_reducible assumption | (with_reducible apply hf) | (with_reducible apply pin_ite) | extract_lets | split | (intro c hc))

theorem Blk.spdmError_pin (b : Blk) (h : Head) (h₀ : FaultPinRight b) : FaultPinRight (Blk.spdmError b h) :=
  keep_pin (Blk.spdmError_only (m₀ := [.out]) b h (by decide) (only_refl _ _)) (by decide) h₀

theorem Blk.afterAlgs_pin (b : Blk) (h : Head) (f : Blk → Blk) (hf : ∀ c, FaultPinRight c → FaultPinRight (f c)) (h₀ : FaultPinRight b) : FaultPinRight (Blk.afterAlgs b h f) := by
  unfold Blk.afterAlgs
  repeat (first | with_reducible assumption | (with_reducible apply Blk.spdmError_pin) | (with_reducible apply hf) | (with_reducible apply pin_ite) | extract_lets | split | (intro c hc))

theorem Blk.inSession_pin (b : Blk) (h : Head) (f : Blk → Blk) (hf : ∀ c, FaultPinRight c → FaultPinRight (f c)) (h₀ : FaultPinRight b) : FaultPinRight (Blk.inSession b h f) := by
  unfold Blk.inSession
  repeat (first | with_reducible assumption | (with_reducible apply Blk.spdmError_pin) | (with_reducible apply hf) | (with_reducible apply pin_ite) | extract_lets | split | (intro c hc))

theorem Blk.issue_pin (b : Blk) (pid : Nat) (t : ReadTask) (h₀ : FaultPinRight b) : FaultPinRight (Blk.issue b pid t) :=
  keep_pin (Blk.issue_only (m₀ := [.free, .out, .od, .hA, .hB, .can, .path, .media, .twill, .gauze, .linen, .tweed]) b pid t (by decide) (only_refl _ _)) (by decide) h₀

theorem Blk.answerDeep_pin (b : Blk) (x : Acc) (h₀ : FaultPinRight b) : FaultPinRight (Blk.answerDeep b x) :=
  keep_pin (Blk.answerDeep_only (m₀ := [.free, .out, .od, .hA, .hB, .can, .path, .linen, .tweed]) b x (by decide) (only_refl _ _)) (by decide) h₀

theorem Blk.poisonFill_pin (b : Blk) (li : Nat) (h₀ : FaultPinRight b) : FaultPinRight (Blk.poisonFill b li) :=
  keep_pin (Blk.poisonFill_only (m₀ := [.free, .out, .od, .hA, .hB, .can, .path, .velvet, .linen, .tweed]) b li (by decide) (only_refl _ _)) (by decide) h₀

theorem Blk.dropDeep_pin (b : Blk) (d : Deep) (h₀ : FaultPinRight b) : FaultPinRight (Blk.dropDeep b d) :=
  keep_pin (Blk.dropDeep_only (m₀ := [.path]) b d (by decide) (only_refl _ _)) (by decide) h₀

theorem Blk.deepJobs_pin (b : Blk) (li : Nat) (f : Job → Job) (h₀ : FaultPinRight b) : FaultPinRight (Blk.deepJobs b li f) :=
  keep_pin (Blk.deepJobs_only (m₀ := [.twill]) b li f (by decide) (only_refl _ _)) (by decide) h₀

theorem Blk.writeBack_pin (b : Blk) (li : Nat) (line : Line) (h₀ : FaultPinRight b) : FaultPinRight (Blk.writeBack b li line) :=
  keep_pin (Blk.writeBack_only (m₀ := [.velvet]) b li line (by decide) (only_refl _ _)) (by decide) h₀

theorem Blk.unlistRecovered_pin (b : Blk) (key : Nat) (was : Bool) (h₀ : FaultPinRight b) : FaultPinRight (Blk.unlistRecovered b key was) :=
  keep_pin (Blk.unlistRecovered_only (m₀ := [.out, .od, .hA, .hB, .can, .poison, .media, .linen]) b key was (by decide) (only_refl _ _)) (by decide) h₀

theorem Blk.bgEnds_pin (b : Blk) (h₀ : FaultPinRight b) : FaultPinRight (Blk.bgEnds b) :=
  keep_pin (Blk.bgEnds_only (m₀ := [.out, .dev]) b (by decide) (only_refl _ _)) (by decide) h₀

theorem Blk.blankTables_pin (b0 : Blk) (h₀ : FaultPinRight b0) : FaultPinRight (Blk.blankTables b0) :=
  keep_pin (Blk.blankTables_only (m₀ := [.free, .dev, .path, .lines, .poison, .media, .twill, .gauze, .damask]) b0 (by decide) (only_refl _ _)) (by decide) h₀

theorem Blk.overwriteAll_pin (b : Blk) (h₀ : FaultPinRight b) : FaultPinRight (Blk.overwriteAll b) :=
  keep_pin (Blk.overwriteAll_only (m₀ := [.lines, .media]) b (by decide) (only_refl _ _)) (by decide) h₀

theorem Blk.mbReply_pin (b : Blk) (h : Head) (op : Nat) (rc : Rc) (out : List Nat) (h₀ : FaultPinRight b) : FaultPinRight (Blk.mbReply b h op rc out) :=
  keep_pin (Blk.mbReply_only (m₀ := [.out]) b h op rc out (by decide) (only_refl _ _)) (by decide) h₀

theorem Blk.failCommit_pin (b : Blk) (result rule : Nat) (h₀ : FaultPinRight b) : FaultPinRight (Blk.failCommit b result rule) :=
  keep_pin (Blk.failCommit_only (m₀ := [.out, .od, .muslin, .can]) b result rule (by decide) (only_refl _ _)) (by decide) h₀

theorem Blk.swapDone_pin (b : Blk) (pauseNs : Nat) (rwp cal : Bool) (src : Option Src) (h₀ : FaultPinRight b) : FaultPinRight (Blk.swapDone b pauseNs rwp cal src) :=
  keep_pin (Blk.swapDone_only (m₀ := [.free, .out, .od, .hA, .hB, .muslin, .can, .gauze, .linen, .tweed]) b pauseNs rwp cal src (by decide) (only_refl _ _)) (by decide) h₀

theorem Blk.putBulk_pin (b : Blk) (src : Src) (x : Option Bulk) (h₀ : FaultPinRight b) : FaultPinRight (Blk.putBulk b src x) :=
  keep_pin (Blk.putBulk_only (m₀ := [.hA, .hB, .can]) b src x (by decide) (only_refl _ _)) (by decide) h₀

theorem Blk.dropRegionLines_pin (b : Blk) (g : Rgn) (h₀ : FaultPinRight b) : FaultPinRight (Blk.dropRegionLines b g) :=
  keep_pin (Blk.dropRegionLines_only (m₀ := [.path, .velvet, .twill]) b g (by decide) (only_refl _ _)) (by decide) h₀

theorem Blk.dropRegionHot_pin (b : Blk) (g : Rgn) (h₀ : FaultPinRight b) : FaultPinRight (Blk.dropRegionHot b g) :=
  keep_pin (Blk.dropRegionHot_only (m₀ := [.media, .twill]) b g (by decide) (only_refl _ _)) (by decide) h₀

theorem Blk.clearRegionTags_pin (b : Blk) (g : Rgn) (h₀ : FaultPinRight b) : FaultPinRight (Blk.clearRegionTags b g) :=
  keep_pin (Blk.clearRegionTags_only (m₀ := [.out, .od, .hA, .hB, .can, .lines, .twill, .damask, .linen, .tweed]) b g (by decide) (only_refl _ _)) (by decide) h₀

theorem Blk.afterRead_pin (b : Blk) (h : Head) (h₀ : FaultPinRight b) : FaultPinRight (Blk.afterRead b h) :=
  keep_pin (Blk.afterRead_only (m₀ := [.hA, .hB]) b h (by decide) (only_refl _ _)) (by decide) h₀

theorem Blk.badRead_pin (b : Blk) (h : Head) (off bytes : Nat) (h₀ : FaultPinRight b) : FaultPinRight (Blk.badRead b h off bytes) :=
  keep_pin (Blk.badRead_only (m₀ := [.out, .hA, .hB]) b h off bytes (by decide) (only_refl _ _)) (by decide) h₀

theorem Blk.refuseWrite_pin (b : Blk) (h : Head) (addr : BitVec 32) (h₀ : FaultPinRight b) : FaultPinRight (Blk.refuseWrite b h addr) :=
  keep_pin (Blk.refuseWrite_only (m₀ := [.out, .od, .hA, .hB, .can, .linen]) b h addr (by decide) (only_refl _ _)) (by decide) h₀

theorem Blk.ringHint_pin (b : Blk) (h : Head) (r : BitVec 128) (h₀ : FaultPinRight b) : FaultPinRight (Blk.ringHint b h r) :=
  keep_pin (Blk.ringHint_only (m₀ := [.od, .hA, .hB, .tweed]) b h r (by decide) (only_refl _ _)) (by decide) h₀

theorem Blk.refuse_pin (b : Blk) (h : Head) (k : ReqKind) (tag : Nat) (h₀ : FaultPinRight b) : FaultPinRight (Blk.refuse b h k tag) :=
  keep_pin (Blk.refuse_only (m₀ := [.out, .tweed]) b h k tag (by decide) (only_refl _ _)) (by decide) h₀

theorem Blk.alertCheck_pin (b : Blk) (h₀ : FaultPinRight b) : FaultPinRight (Blk.alertCheck b) :=
  keep_pin (Blk.alertCheck_only (m₀ := [.out, .od, .hA, .hB, .can, .dev, .linen]) b (by decide) (only_refl _ _)) (by decide) h₀

theorem Blk.ageRegions_pin (b : Blk) (h₀ : FaultPinRight b) : FaultPinRight (Blk.ageRegions b) :=
  keep_pin (Blk.ageRegions_only (m₀ := [.twill]) b (by decide) (only_refl _ _)) (by decide) h₀

theorem Blk.ageSlots_pin (b : Blk) (h₀ : FaultPinRight b) : FaultPinRight (Blk.ageSlots b) :=
  keep_pin (Blk.ageSlots_only (m₀ := [.gauze]) b (by decide) (only_refl _ _)) (by decide) h₀

theorem Blk.heldImport_pin (b : Blk) (h₀ : FaultPinRight b) : FaultPinRight (Blk.heldImport b) :=
  keep_pin (Blk.heldImport_only (m₀ := [.free, .out, .od, .hA, .hB, .muslin, .can, .gauze, .linen, .tweed]) b (by decide) (only_refl _ _)) (by decide) h₀

theorem Blk.restoreMap_pin (b : Blk) (h₀ : FaultPinRight b) : FaultPinRight (Blk.restoreMap b) :=
  keep_pin (Blk.restoreMap_only (m₀ := [.twill, .safety]) b (by decide) (only_refl _ _)) (by decide) h₀

theorem Blk.startHomes_pin (b : Blk) (h₀ : FaultPinRight b) : FaultPinRight (Blk.startHomes b) :=
  keep_pin (Blk.startHomes_only (m₀ := [.free, .media, .twill, .tweed]) b (by decide) (only_refl _ _)) (by decide) h₀

theorem Blk.heatRegions_pin (b : Blk) (h₀ : FaultPinRight b) : FaultPinRight (Blk.heatRegions b) :=
  keep_pin (Blk.heatRegions_only (m₀ := [.twill]) b (by decide) (only_refl _ _)) (by decide) h₀

theorem Blk.commitDemotion_pin (b : Blk) (li : Nat) (h₀ : FaultPinRight b) : FaultPinRight (Blk.commitDemotion b li) :=
  keep_pin (Blk.commitDemotion_only (m₀ := [.free, .out, .od, .hA, .hB, .can, .path, .lines, .media, .velvet, .twill, .damask, .linen, .tweed]) b li (by decide) (only_refl _ _)) (by decide) h₀

theorem Blk.issueDemotions_pin (b : Blk) (h₀ : FaultPinRight b) : FaultPinRight (Blk.issueDemotions b) :=
  keep_pin (Blk.issueDemotions_only (m₀ := [.out, .od, .hA, .hB, .can, .lines, .twill, .linen]) b (by decide) (only_refl _ _)) (by decide) h₀

theorem Blk.metaFail_pin (b : Blk) (x : Mem) (h₀ : FaultPinRight b) : FaultPinRight (Blk.metaFail b x) := by
  unfold Blk.metaFail
  repeat (first | with_reducible assumption | (with_reducible apply onMedia_pin <;> [(intro; rfl); skip]) | (with_reducible apply Blk.reportUnit_pin) | (with_reducible apply Blk.countWrites_pin) | (with_reducible apply Blk.storeLine_pin) | (with_reducible apply Blk.useFree_pin) | (with_reducible apply Blk.tileFailure_pin) | with_reducible apply onMedia_pin | with_reducible apply pin_ite | extract_lets | (dsimp +zetaDelta only))

theorem Blk.issueFreed_pin (b : Blk) (h₀ : FaultPinRight b) : FaultPinRight (Blk.issueFreed b) :=
  keep_pin (Blk.issueFreed_only (m₀ := [.out, .od, .hA, .hB, .can, .lines, .twill, .linen]) b (by decide) (only_refl _ _)) (by decide) h₀

theorem Blk.takeRow_pin (b : Blk) (c : Cls) (h₀ : FaultPinRight b) : FaultPinRight (Blk.takeRow b c) :=
  keep_pin (Blk.takeRow_only (m₀ := [.twill]) b c (by decide) (only_refl _ _)) (by decide) h₀

theorem Blk.wearUp_pin (b : Blk) (slot : Nat) (h₀ : FaultPinRight b) : FaultPinRight (Blk.wearUp b slot) :=
  keep_pin (Blk.wearUp_only (m₀ := [.out, .od, .hA, .hB, .can, .twill, .linen]) b slot (by decide) (only_refl _ _)) (by decide) h₀

theorem Blk.foldCount_pin (b : Blk) (slot : Nat) (h₀ : FaultPinRight b) : FaultPinRight (Blk.foldCount b slot) :=
  keep_pin (Blk.foldCount_only (m₀ := [.out, .od, .hA, .hB, .can, .twill, .linen]) b slot (by decide) (only_refl _ _)) (by decide) h₀

theorem Blk.endPass_pin (b : Blk) (r n : Nat) (x : Rotation) (e : RegionEntry) (h₀ : FaultPinRight b) : FaultPinRight (Blk.endPass b r n x e) :=
  keep_pin (Blk.endPass_only (m₀ := [.out, .od, .hA, .hB, .can, .lines, .twill, .gauze, .linen]) b r n x e (by decide) (only_refl _ _)) (by decide) h₀

theorem Blk.startRefresh_pin (b : Blk) (area : Nat) (rest : List (Nat × Nat)) (h₀ : FaultPinRight b) : FaultPinRight (Blk.startRefresh b area rest) :=
  keep_pin (Blk.startRefresh_only (m₀ := [.twill]) b area rest (by decide) (only_refl _ _)) (by decide) h₀

theorem Blk.lapRead_pin (b : Blk) (c : Cls) (h₀ : FaultPinRight b) : FaultPinRight (Blk.lapRead b c) :=
  keep_pin (Blk.lapRead_only (m₀ := [.free, .out, .od, .hA, .hB, .can, .dev, .media, .twill, .linen, .tweed]) b c (by decide) (only_refl _ _)) (by decide) h₀

theorem Blk.scanNext_pin (b : Blk) (h₀ : FaultPinRight b) : FaultPinRight (Blk.scanNext b) :=
  keep_pin (Blk.scanNext_only (m₀ := [.free, .out, .dev, .media, .twill, .tweed]) b (by decide) (only_refl _ _)) (by decide) h₀

theorem Blk.evaluateArea_pin (b : Blk) (area : Nat) (h₀ : FaultPinRight b) : FaultPinRight (Blk.evaluateArea b area) :=
  keep_pin (Blk.evaluateArea_only (m₀ := [.twill]) b area (by decide) (only_refl _ _)) (by decide) h₀

theorem Blk.beginEvaluation_pin (b : Blk) (h₀ : FaultPinRight b) : FaultPinRight (Blk.beginEvaluation b) :=
  keep_pin (Blk.beginEvaluation_only (m₀ := [.gauze]) b (by decide) (only_refl _ _)) (by decide) h₀

theorem Blk.startTag_pin (b : Blk) (ti : Nat) (h₀ : FaultPinRight b) : FaultPinRight (Blk.startTag b ti) :=
  keep_pin (Blk.startTag_only (m₀ := [.free, .media, .twill, .tweed]) b ti (by decide) (only_refl _ _)) (by decide) h₀

theorem Blk.pinGroups_pin (b : Blk) (r : Nat) (h₀ : FaultPinRight b) : FaultPinRight (Blk.pinGroups b r) :=
  keep_pin (Blk.pinGroups_only (m₀ := [.out, .od, .hA, .hB, .can, .damask, .linen]) b r (by decide) (only_refl _ _)) (by decide) h₀

theorem Blk.findDies_pin (b : Blk) (ch : Nat) (o : TrainObs) (h₀ : FaultPinRight b) : FaultPinRight (Blk.findDies b ch o) :=
  keep_pin (Blk.findDies_only (m₀ := [.free, .out, .media]) b ch o (by decide) (only_refl _ _)) (by decide) h₀

theorem Blk.secondFault_pin (b : Blk) (slot code mv : Nat) (h₀ : FaultPinRight b) : FaultPinRight (Blk.secondFault b slot code mv) :=
  keep_pin (Blk.secondFault_only (m₀ := [.od, .canvas]) b slot code mv (by decide) (only_refl _ _)) (by decide) h₀

theorem Blk.fwRefused_pin (b : Blk) (slot : Nat) (h₀ : FaultPinRight b) : FaultPinRight (Blk.fwRefused b slot) :=
  keep_pin (Blk.fwRefused_only (m₀ := [.out, .od, .hA, .hB, .can, .linen]) b slot (by decide) (only_refl _ _)) (by decide) h₀

theorem Blk.fwLoad_pin (b : Blk) {r : Blk} (hr : (Blk.fwLoad b) = some r) (h₀ : FaultPinRight b) : FaultPinRight r :=
  keep_pin (Blk.fwLoad_only (m₀ := [.out, .od, .hA, .hB, .can, .linen, .felt]) b hr (by decide) (only_refl _ _)) (by decide) h₀

theorem Blk.readIds_pin (b : Blk) (ids : List (Nat × BitVec 64)) (h₀ : FaultPinRight b) : FaultPinRight (Blk.readIds b ids) :=
  keep_pin (Blk.readIds_only (m₀ := [.media]) b ids (by decide) (only_refl _ _)) (by decide) h₀

theorem Blk.heldMedia_pin (b : Blk) (state : Nat) (record : Option (BitVec 8 × BitVec 64 × BitVec 128 × Nat)) (h₀ : FaultPinRight b) : FaultPinRight (Blk.heldMedia b state record) :=
  keep_pin (Blk.heldMedia_only (m₀ := [.out, .od, .hA, .hB, .can, .damask, .linen]) b state record (by decide) (only_refl _ _)) (by decide) h₀

theorem Blk.loadSnapshot_pin (b : Blk) (h₀ : FaultPinRight b) : FaultPinRight (Blk.loadSnapshot b) :=
  keep_pin (Blk.loadSnapshot_only (m₀ := [.free, .out, .od, .hA, .hB, .can, .gauze, .linen]) b (by decide) (only_refl _ _)) (by decide) h₀

theorem Blk.trainDie_pin (b : Blk) (d : Nat) (fallback : Bool) (h₀ : FaultPinRight b) : FaultPinRight (Blk.trainDie b d fallback) :=
  keep_pin (Blk.trainDie_only (m₀ := [.free, .media]) b d fallback (by decide) (only_refl _ _)) (by decide) h₀

theorem Blk.fullTraining_pin (b : Blk) (ch : Nat) (dies : List Nat) (timeUs : Nat) (h₀ : FaultPinRight b) : FaultPinRight (Blk.fullTraining b ch dies timeUs) :=
  keep_pin (Blk.fullTraining_only (m₀ := [.free, .out, .media]) b ch dies timeUs (by decide) (only_refl _ _)) (by decide) h₀

theorem execAcceptance_pin (x0 x1 x2 x3) (s t : State) (h₀ : FaultPinRight (s.blk.at x0)) (h : execAcceptance x0 x1 x2 x3 s = .next t) : FaultPinRight t.blk := by
  unfold execAcceptance State.command at h
  cases h
  generalize s.blk.at x0 = b at h₀ ⊢
  dsimp only
  repeat (first | with_reducible assumption | (with_reducible apply Blk.tryAccept_pin) | with_reducible apply pin_ite | extract_lets | split | (intros; dsimp only))

theorem execReadIssue_pin (x0 x1 x2 x3) (s t : State) (h₀ : FaultPinRight (s.blk.at x0)) (h : execReadIssue x0 x1 x2 x3 s = .next t) : FaultPinRight t.blk := by
  unfold execReadIssue State.command at h
  cases h
  generalize s.blk.at x0 = b at h₀ ⊢
  dsimp only
  repeat (first | with_reducible assumption | (with_reducible apply Blk.onPart_pin) | (with_reducible apply Blk.issue_pin) | (with_reducible apply Blk.readOn_pin) | (with_reducible apply Blk.fromBuffer_pin) | with_reducible apply pin_ite | extract_lets | split | (intros; dsimp only))

theorem execReadTransfer_pin (x0 x1 x2 x3 x4) (s t : State) (h₀ : FaultPinRight (s.blk.at x0)) (h : execReadTransfer x0 x1 x2 x3 x4 s = .next t) : FaultPinRight t.blk := by
  unfold execReadTransfer State.command at h
  cases h
  generalize s.blk.at x0 = b at h₀ ⊢
  dsimp only
  repeat (first | with_reducible assumption | (with_reducible apply Blk.tw_pin) | (with_reducible apply Blk.onPart_pin) | (with_reducible apply Blk.dieStatus_pin) | (with_reducible apply Blk.readOn_pin) | (with_reducible apply Blk.transferFailed_pin) | (with_reducible apply Blk.transferred_pin) | (with_reducible apply Blk.phaseSeen_pin) | (with_reducible apply Blk.marginTransfer_pin) | with_reducible apply pin_ite | extract_lets | split | (intros; dsimp only))

theorem execReconstructionComplete_pin (x0 x1 x2 x3) (s t : State) (h₀ : FaultPinRight (s.blk.at x0)) (h : execReconstructionComplete x0 x1 x2 x3 s = .next t) : FaultPinRight t.blk := by
  unfold execReconstructionComplete State.command at h
  cases h
  generalize s.blk.at x0 = b at h₀ ⊢
  dsimp only
  repeat (first | with_reducible assumption | (with_reducible apply Blk.lineData_pin) | (with_reducible apply Blk.startDeep_pin) | (with_reducible apply Blk.settleTags_pin) | (with_reducible apply Blk.readOn_pin) | (with_reducible refine pin_foldl (fun c x hc => ?_) _ _ ?_) | with_reducible apply pin_ite | extract_lets | split | (intros; dsimp only))

theorem execFillReturn_pin (x0 x1) (s t : State) (h₀ : FaultPinRight (s.blk.at x0)) (h : execFillReturn x0 x1 s = .next t) : FaultPinRight t.blk := by
  unfold execFillReturn State.command at h
  cases h
  generalize s.blk.at x0 = b at h₀ ⊢
  dsimp only
  repeat (first | with_reducible assumption | (with_reducible apply Blk.onPath_pin) | (with_reducible apply Blk.applyFill_pin) | (with_reducible apply Blk.startFill_pin) | with_reducible apply pin_ite | extract_lets | split | (intros; dsimp only))

theorem execDeadlineExpiry_pin (x0 x1) (s t : State) (h₀ : FaultPinRight (s.blk.at x0)) (h : execDeadlineExpiry x0 x1 s = .next t) : FaultPinRight t.blk := by
  unfold execDeadlineExpiry State.command at h
  cases h
  generalize s.blk.at x0 = b at h₀ ⊢
  dsimp only
  repeat (first | with_reducible assumption | (with_reducible apply Blk.bump_pin) | (with_reducible apply Blk.answerDeep_pin) | (with_reducible apply Blk.deadlineList_pin) | with_reducible apply pin_ite | extract_lets | split | (intros; dsimp only))

theorem execDeepRecoveryTimeout_pin (x0 x1) (s t : State) (h₀ : FaultPinRight (s.blk.at x0)) (h : execDeepRecoveryTimeout x0 x1 s = .next t) : FaultPinRight t.blk := by
  unfold execDeepRecoveryTimeout State.command at h
  cases h
  generalize s.blk.at x0 = b at h₀ ⊢
  dsimp only
  repeat (first | with_reducible assumption | (with_reducible apply Blk.endAcc_pin) | (with_reducible apply Blk.poisonFill_pin) | (with_reducible apply Blk.damaskFailure_pin) | (with_reducible apply Blk.dropDeep_pin) | (with_reducible apply Blk.poisonRest_pin) | (with_reducible apply Blk.answerDeep_pin) | (with_reducible apply Blk.drive_pin) | (with_reducible apply Blk.deepJobs_pin) | (with_reducible refine pin_foldl (fun c x hc => ?_) _ _ ?_) | with_reducible apply pin_ite | extract_lets | split | (intros; dsimp only))

theorem execDeepRecoverySuccess_pin (x0 x1 x2 x3) (s t : State) (h₀ : FaultPinRight (s.blk.at x0)) (h : execDeepRecoverySuccess x0 x1 x2 x3 s = .next t) : FaultPinRight t.blk := by
  unfold execDeepRecoverySuccess State.command at h
  cases h
  generalize s.blk.at x0 = b at h₀ ⊢
  dsimp only
  repeat (first | with_reducible assumption | (with_reducible apply Blk.bump_pin) | (with_reducible apply Blk.report_pin) | (with_reducible apply Blk.applyFill_pin) | (with_reducible apply Blk.lineData_pin) | (with_reducible apply Blk.dropDeep_pin) | (with_reducible apply Blk.drive_pin) | (with_reducible apply Blk.deepJobs_pin) | (with_reducible apply Blk.writeBack_pin) | (with_reducible apply Blk.unlistRecovered_pin) | (with_reducible refine pin_foldl (fun c x hc => ?_) _ _ ?_) | with_reducible apply pin_ite | extract_lets | split | (intros; dsimp only))

theorem execColdPathWrite_pin (x0 x1 x2) (s t : State) (h₀ : FaultPinRight (s.blk.at x0)) (h : execColdPathWrite x0 x1 x2 s = .next t) : FaultPinRight t.blk := by
  unfold execColdPathWrite State.command at h
  cases h
  generalize s.blk.at x0 = b at h₀ ⊢
  dsimp only
  repeat (first | with_reducible assumption | (with_reducible apply Blk.drive_pin) | (with_reducible apply Blk.coldBuffer_pin) | (with_reducible apply Blk.coldThrough_pin) | with_reducible apply pin_ite | extract_lets | split | (intros; dsimp only))

theorem execHotAppend_pin (x0 x1 x2 x3) (s t : State) (h₀ : FaultPinRight (s.blk.at x0)) (h : execHotAppend x0 x1 x2 x3 s = .next t) : FaultPinRight t.blk := by
  unfold execHotAppend State.command at h
  cases h
  generalize s.blk.at x0 = b at h₀ ⊢
  dsimp only
  repeat (first | with_reducible assumption | (with_reducible apply Blk.egress_pin) | (with_reducible apply Blk.drive_pin) | (with_reducible apply Blk.hotWrite_pin) | with_reducible apply pin_ite | extract_lets | split | (intros; dsimp only))

theorem execProgramComplete_pin (x0 x1 x2 x3 x4) (s t : State) (h₀ : FaultPinRight (s.blk.at x0)) (h : execProgramComplete x0 x1 x2 x3 x4 s = .next t) : FaultPinRight t.blk := by
  unfold execProgramComplete State.command at h
  cases h
  generalize s.blk.at x0 = b at h₀ ⊢
  dsimp only
  repeat (first | with_reducible assumption | (with_reducible apply Blk.programEnds_pin) | (with_reducible apply Blk.goOn_pin) | with_reducible apply pin_ite | extract_lets | split | (intros; dsimp only))

theorem execTileResetComplete_pin (x0 x1 x2 x3 x4) (s t : State) (h₀ : FaultPinRight (s.blk.at x0)) (h : execTileResetComplete x0 x1 x2 x3 x4 s = .next t) : FaultPinRight t.blk := by
  unfold execTileResetComplete State.command at h
  cases h
  generalize s.blk.at x0 = b at h₀ ⊢
  dsimp only
  repeat (first | with_reducible assumption | (with_reducible apply Blk.goOn_pin) | (with_reducible apply Blk.resetEnds_pin) | with_reducible apply pin_ite | extract_lets | split | (intros; dsimp only))

theorem execWriteThroughWrite_pin (x0 x1 x2 x3) (s t : State) (h₀ : FaultPinRight (s.blk.at x0)) (h : execWriteThroughWrite x0 x1 x2 x3 s = .next t) : FaultPinRight t.blk := by
  unfold execWriteThroughWrite State.command at h
  cases h
  generalize s.blk.at x0 = b at h₀ ⊢
  dsimp only
  repeat (first | with_reducible assumption | (with_reducible apply Blk.onPath_pin) | (with_reducible apply Blk.tw_pin) | (with_reducible apply Blk.program_pin) | (with_reducible apply Blk.takePosition_pin) | (with_reducible apply Blk.egress_pin) | (with_reducible apply Blk.keepWay_pin) | with_reducible apply pin_ite | extract_lets | split | (intros; dsimp only))

theorem execPrefetchRead_pin (x0 x1) (s t : State) (h₀ : FaultPinRight (s.blk.at x0)) (h : execPrefetchRead x0 x1 s = .next t) : FaultPinRight t.blk := by
  unfold execPrefetchRead State.command at h
  cases h
  generalize s.blk.at x0 = b at h₀ ⊢
  dsimp only
  repeat (first | with_reducible assumption | (with_reducible apply Blk.onHead_pin) | (with_reducible refine Blk.allocate_pin _ _ _ _ (by assumption) ?_) | (with_reducible apply Blk.startFill_pin) | with_reducible apply pin_ite | extract_lets | split | (intros; dsimp only))

theorem execEraseComplete_pin (x0) (s t : State) (h₀ : FaultPinRight (s.blk.at x0)) (h : execEraseComplete x0 s = .next t) : FaultPinRight t.blk := by
  unfold execEraseComplete State.command at h
  cases h
  generalize s.blk.at x0 = b at h₀ ⊢
  dsimp only
  repeat (first | with_reducible assumption | (with_reducible apply Blk.onDamask_pin) | (with_reducible apply Blk.odSet_pin) | (with_reducible apply Blk.bgEnds_pin) | (with_reducible apply Blk.boundNow_pin) | (with_reducible apply Blk.blankTables_pin) | (with_reducible apply Blk.overwriteAll_pin) | (with_reducible apply Blk.renewPool_pin) | with_reducible apply pin_ite | extract_lets | split | (intros; dsimp only))

theorem execInjectPoison_pin (x0 x1 x2) (s t : State) (h₀ : FaultPinRight (s.blk.at x0)) (h : execInjectPoison x0 x1 x2 s = .next t) : FaultPinRight t.blk := by
  unfold execInjectPoison State.command at h
  cases h
  generalize s.blk.at x0 = b at h₀ ⊢
  dsimp only
  repeat (first | with_reducible assumption | (with_reducible apply Blk.mbReply_pin) | (with_reducible apply Blk.listHalf_pin) | (with_reducible apply Blk.mbox_pin <;> [(intros; try dsimp only); skip]) | (with_reducible apply Blk.dropHalf_pin) | with_reducible apply pin_ite | extract_lets | split | (intros; dsimp only))

theorem execWrite_pin (x0 x1 x2 x3 x4) (s t : State) (h₀ : FaultPinRight (s.blk.at x0)) (h : execWrite x0 x1 x2 x3 x4 s = .next t) : FaultPinRight t.blk := by
  unfold execWrite State.command at h
  cases h
  generalize s.blk.at x0 = b at h₀ ⊢
  dsimp only
  repeat (first | with_reducible assumption | (with_reducible apply Blk.writeReq_pin <;> [(intros; try dsimp only); skip]) | (with_reducible apply Blk.action_pin) | with_reducible apply pin_ite | extract_lets | split | (intros; dsimp only))

theorem execApplyInstant_pin (x0 x1 x2) (s t : State) (h₀ : FaultPinRight (s.blk.at x0)) (h : execApplyInstant x0 x1 x2 s = .next t) : FaultPinRight t.blk := by
  unfold execApplyInstant State.command at h
  cases h
  generalize s.blk.at x0 = b at h₀ ⊢
  dsimp only
  repeat (first | with_reducible assumption | (with_reducible refine onModes_pin (fun _ => ⟨rfl, rfl⟩) ?_) | (with_reducible apply Blk.onMuslin_pin) | (with_reducible apply Blk.report_pin) | (with_reducible apply Blk.reply_pin) | (with_reducible apply Blk.failCommit_pin) | (with_reducible apply Blk.swapValues_pin) | (with_reducible apply Blk.swapDone_pin) | with_reducible apply pin_ite | extract_lets | split | (intros; dsimp only))

theorem execApplyFault_pin (x0) (s t : State) (h₀ : FaultPinRight (s.blk.at x0)) (h : execApplyFault x0 s = .next t) : FaultPinRight t.blk := by
  unfold execApplyFault State.command at h
  cases h
  generalize s.blk.at x0 = b at h₀ ⊢
  dsimp only
  repeat (first | with_reducible assumption | (with_reducible refine onModes_pin (fun _ => ⟨rfl, rfl⟩) ?_) | (with_reducible apply Blk.bump_pin) | (with_reducible apply Blk.report_pin) | (with_reducible apply Blk.discardStaged_pin) | (with_reducible apply Blk.safeStop_pin) | (with_reducible apply Blk.detect_pin) | (with_reducible refine pin_foldl (fun c x hc => ?_) _ _ ?_) | with_reducible apply pin_ite | extract_lets | split | (intros; dsimp only))

theorem execClose_pin (x0 x1 x2 x3) (s t : State) (h₀ : FaultPinRight (s.blk.at x0)) (h : execClose x0 x1 x2 x3 s = .next t) : FaultPinRight t.blk := by
  unfold execClose State.command at h
  cases h
  generalize s.blk.at x0 = b at h₀ ⊢
  dsimp only
  repeat (first | with_reducible assumption | (with_reducible apply Blk.putBulk_pin) | (with_reducible apply Blk.bulkAnswer_pin) | (with_reducible apply Blk.bulkReq_pin <;> [(intros; try dsimp only); skip]) | (with_reducible apply Blk.endTransfer_pin) | with_reducible apply pin_ite | extract_lets | split | (intros; dsimp only))

theorem execBulkClose_pin (x0 x1 x2 x3 x4) (s t : State) (h₀ : FaultPinRight (s.blk.at x0)) (h : execBulkClose x0 x1 x2 x3 x4 s = .next t) : FaultPinRight t.blk := by
  unfold execBulkClose State.command at h
  cases h
  generalize s.blk.at x0 = b at h₀ ⊢
  dsimp only
  repeat (first | with_reducible assumption | (with_reducible apply Blk.onCan_pin) | (with_reducible apply Blk.canSend_pin) | (with_reducible apply Blk.reply_pin) | (with_reducible apply Blk.withMac_pin <;> [(intros; try dsimp only); skip]) | (with_reducible apply Blk.endTransfer_pin) | (with_reducible apply Blk.withTransfer_pin <;> [(intros; try dsimp only); skip]) | with_reducible apply pin_ite | extract_lets | split | (intros; dsimp only))

theorem execRegionTeardown_pin (x0 x1) (s t : State) (h₀ : FaultPinRight (s.blk.at x0)) (h : execRegionTeardown x0 x1 s = .next t) : FaultPinRight t.blk := by
  unfold execRegionTeardown State.command at h
  cases h
  generalize s.blk.at x0 = b at h₀ ⊢
  dsimp only
  repeat (first | with_reducible assumption | (with_reducible apply Blk.maintain_pin) | (with_reducible apply Blk.drive_pin) | (with_reducible apply Blk.dropRegionLines_pin) | (with_reducible apply Blk.dropRegionHot_pin) | (with_reducible apply Blk.clearRegionTags_pin) | (with_reducible apply Blk.freeRegion_pin) | with_reducible apply pin_ite | extract_lets | split | (intros; dsimp only))

theorem execEscrowImport_pin (x0 x1 x2) (s t : State) (h₀ : FaultPinRight (s.blk.at x0)) (h : execEscrowImport x0 x1 x2 s = .next t) : FaultPinRight t.blk := by
  unfold execEscrowImport State.command at h
  cases h
  generalize s.blk.at x0 = b at h₀ ⊢
  dsimp only
  repeat (first | with_reducible assumption | (with_reducible apply Blk.objectReq_pin <;> [(intros; try dsimp only); skip]) | (with_reducible apply Blk.applyEscrow_pin) | with_reducible apply pin_ite | extract_lets | split | (intros; dsimp only))

theorem execRetireDie_pin (x0 x1 x2) (s t : State) (h₀ : FaultPinRight (s.blk.at x0)) (h : execRetireDie x0 x1 x2 s = .next t) : FaultPinRight t.blk := by
  unfold execRetireDie State.command at h
  cases h
  generalize s.blk.at x0 = b at h₀ ⊢
  dsimp only
  repeat (first | with_reducible assumption | (with_reducible apply Blk.writeReq_pin <;> [(intros; try dsimp only); skip]) | (with_reducible apply Blk.retireDie_pin) | with_reducible apply pin_ite | extract_lets | split | (intros; dsimp only))

theorem execRetireChannel_pin (x0 x1 x2) (s t : State) (h₀ : FaultPinRight (s.blk.at x0)) (h : execRetireChannel x0 x1 x2 s = .next t) : FaultPinRight t.blk := by
  unfold execRetireChannel State.command at h
  cases h
  generalize s.blk.at x0 = b at h₀ ⊢
  dsimp only
  repeat (first | with_reducible assumption | (with_reducible apply Blk.writeReq_pin <;> [(intros; try dsimp only); skip]) | (with_reducible apply Blk.retireChannel_pin) | with_reducible apply pin_ite | extract_lets | split | (intros; dsimp only))

theorem execPowerDownToStandby_pin (x0 x1) (s t : State) (h₀ : FaultPinRight (s.blk.at x0)) (h : execPowerDownToStandby x0 x1 s = .next t) : FaultPinRight t.blk := by
  unfold execPowerDownToStandby State.command at h
  cases h
  generalize s.blk.at x0 = b at h₀ ⊢
  dsimp only
  repeat (first | with_reducible assumption | (with_reducible apply Blk.writeReq_pin <;> [(intros; try dsimp only); skip]) | (with_reducible apply Blk.toStandby_pin) | with_reducible apply pin_ite | extract_lets | split | (intros; dsimp only))

theorem execIdataRead_pin (x0 x1 x2) (s t : State) (h₀ : FaultPinRight (s.blk.at x0)) (h : execIdataRead x0 x1 x2 s = .next t) : FaultPinRight t.blk := by
  unfold execIdataRead State.command at h
  cases h
  generalize s.blk.at x0 = b at h₀ ⊢
  dsimp only
  repeat (first | with_reducible assumption | (with_reducible apply Blk.emit_pin) | (with_reducible apply Blk.useFree_pin) | (with_reducible apply Blk.onCtl_pin) | (with_reducible apply Blk.ackPosted_pin) | (with_reducible apply Blk.afterRead_pin) | (with_reducible apply Blk.badRead_pin) | with_reducible apply pin_ite | extract_lets | split | (intros; dsimp only))

theorem execIdataWrite_pin (x0 x1 x2 x3) (s t : State) (h₀ : FaultPinRight (s.blk.at x0)) (h : execIdataWrite x0 x1 x2 x3 s = .next t) : FaultPinRight t.blk := by
  unfold execIdataWrite State.command at h
  cases h
  generalize s.blk.at x0 = b at h₀ ⊢
  dsimp only
  repeat (first | with_reducible assumption | (with_reducible apply Blk.onCtl_pin) | (with_reducible apply Blk.refuseWrite_pin) | (with_reducible apply Blk.ackPosted_pin) | with_reducible apply pin_ite | extract_lets | split | (intros; dsimp only))

theorem execIndirectAcknowledge_pin (x0 x1) (s t : State) (h₀ : FaultPinRight (s.blk.at x0)) (h : execIndirectAcknowledge x0 x1 s = .next t) : FaultPinRight t.blk := by
  unfold execIndirectAcknowledge State.command at h
  cases h
  generalize s.blk.at x0 = b at h₀ ⊢
  dsimp only
  repeat (first | with_reducible assumption | (with_reducible apply Blk.ackPosted_pin) | with_reducible apply pin_ite | extract_lets | split | (intros; dsimp only))

theorem execIndirectTimeout_pin (x0 x1 x2) (s t : State) (h₀ : FaultPinRight (s.blk.at x0)) (h : execIndirectTimeout x0 x1 x2 s = .next t) : FaultPinRight t.blk := by
  unfold execIndirectTimeout State.command at h
  cases h
  generalize s.blk.at x0 = b at h₀ ⊢
  dsimp only
  repeat (first | with_reducible assumption | (with_reducible apply Blk.emit_pin) | (with_reducible apply Blk.onCtl_pin) | (with_reducible apply Blk.ackPosted_pin) | (with_reducible apply Blk.afterRead_pin) | (exact h₀) | with_reducible apply pin_ite | extract_lets | split | (intros; dsimp only))

theorem execRegisterWrite_pin (x0 x1 x2 x3 x4) (s t : State) (h₀ : FaultPinRight (s.blk.at x0)) (h : execRegisterWrite x0 x1 x2 x3 x4 s = .next t) : FaultPinRight t.blk := by
  unfold execRegisterWrite State.command at h
  cases h
  generalize s.blk.at x0 = b at h₀ ⊢
  dsimp only
  repeat (first | with_reducible assumption | (with_reducible apply Blk.ringHint_pin) | (with_reducible apply Blk.onCtl_pin) | (with_reducible apply Blk.ctlWord_pin) | with_reducible apply pin_ite | extract_lets | split | (intros; dsimp only))

theorem execSafeStopRelease_pin (x0) (s t : State) (h₀ : FaultPinRight (s.blk.at x0)) (h : execSafeStopRelease x0 s = .next t) : FaultPinRight t.blk := by
  unfold execSafeStopRelease State.command at h
  cases h
  generalize s.blk.at x0 = b at h₀ ⊢
  dsimp only
  repeat (first | with_reducible assumption | (with_reducible apply pinSet) | (with_reducible apply Blk.setConditions_pin) | (with_reducible refine onModes_pin (fun _ => ⟨rfl, rfl⟩) ?_) | (with_reducible apply Blk.faultPin_pin) | (with_reducible apply Blk.setConditions_pin) | (with_reducible apply Blk.loseSwitched_pin) | (with_reducible apply Blk.saveMedia_pin) | (with_reducible apply Blk.takeDue_pin <;> [(intros; try dsimp only); skip]) | with_reducible apply pin_ite | extract_lets | split | (intros; dsimp only))

theorem execForcedPowerCutInput_pin (x0) (s t : State) (h₀ : FaultPinRight (s.blk.at x0)) (h : execForcedPowerCutInput x0 s = .next t) : FaultPinRight t.blk := by
  unfold execForcedPowerCutInput State.command at h
  cases h
  generalize s.blk.at x0 = b at h₀ ⊢
  dsimp only
  repeat (first | with_reducible assumption | (with_reducible apply Blk.takeDue_pin <;> [(intros; try dsimp only); skip]) | (with_reducible apply Blk.loseInput_pin) | with_reducible apply pin_ite | extract_lets | split | (intros; dsimp only))

theorem execForcedPowerCutRail_pin (x0) (s t : State) (h₀ : FaultPinRight (s.blk.at x0)) (h : execForcedPowerCutRail x0 s = .next t) : FaultPinRight t.blk := by
  unfold execForcedPowerCutRail State.command at h
  cases h
  generalize s.blk.at x0 = b at h₀ ⊢
  dsimp only
  repeat (first | with_reducible assumption | (with_reducible apply Blk.allOff_pin) | (with_reducible apply Blk.takeDue_pin <;> [(intros; try dsimp only); skip]) | with_reducible apply pin_ite | extract_lets | split | (intros; dsimp only))

theorem execForcedClockSwitchIrc_pin (x0) (s t : State) (h₀ : FaultPinRight (s.blk.at x0)) (h : execForcedClockSwitchIrc x0 s = .next t) : FaultPinRight t.blk := by
  unfold execForcedClockSwitchIrc State.command at h
  cases h
  generalize s.blk.at x0 = b at h₀ ⊢
  dsimp only
  repeat (first | with_reducible assumption | (with_reducible apply onClocks_pin <;> [(intro; first | exact fallBack_failed _ | exact onPll_failed _ _ _); skip]) | (with_reducible refine onClocks_pin (fun _ => rfl) ?_) | (with_reducible apply Blk.report_pin) | (with_reducible apply Blk.takeDue_pin <;> [(intros; try dsimp only); skip]) | with_reducible apply pin_ite | extract_lets | split | (intros; dsimp only))

theorem execForcedClockSwitchRefclk_pin (x0) (s t : State) (h₀ : FaultPinRight (s.blk.at x0)) (h : execForcedClockSwitchRefclk x0 s = .next t) : FaultPinRight t.blk := by
  unfold execForcedClockSwitchRefclk State.command at h
  cases h
  generalize s.blk.at x0 = b at h₀ ⊢
  dsimp only
  repeat (first | with_reducible assumption | (with_reducible apply Blk.startReturn_pin) | (with_reducible apply Blk.takeDue_pin <;> [(intros; try dsimp only); skip]) | with_reducible apply pin_ite | extract_lets | split | (intros; dsimp only))

theorem execVoteCorrection_pin (x0 x1 x2 x3) (s t : State) (h₀ : FaultPinRight (s.blk.at x0)) (h : execVoteCorrection x0 x1 x2 x3 s = .next t) : FaultPinRight t.blk := by
  unfold execVoteCorrection State.command at h
  cases h
  generalize s.blk.at x0 = b at h₀ ⊢
  dsimp only
  repeat (first | with_reducible assumption | (with_reducible apply Blk.onSafety_pin) | (with_reducible apply Blk.report_pin) | (with_reducible apply Blk.detect_pin) | (with_reducible apply Blk.putCopies_pin) | with_reducible apply pin_ite | extract_lets | split | (intros; dsimp only))

theorem execVoteThreeWayDisagreement_pin (x0 x1 x2 x3) (s t : State) (h₀ : FaultPinRight (s.blk.at x0)) (h : execVoteThreeWayDisagreement x0 x1 x2 x3 s = .next t) : FaultPinRight t.blk := by
  unfold execVoteThreeWayDisagreement State.command at h
  cases h
  generalize s.blk.at x0 = b at h₀ ⊢
  dsimp only
  repeat (first | with_reducible assumption | (with_reducible apply Blk.onSafety_pin) | (with_reducible apply Blk.detect_pin) | (with_reducible apply Blk.putCopies_pin) | with_reducible apply pin_ite | extract_lets | split | (intros; dsimp only))

theorem execParityMismatch_pin (x0 x1 x2) (s t : State) (h₀ : FaultPinRight (s.blk.at x0)) (h : execParityMismatch x0 x1 x2 s = .next t) : FaultPinRight t.blk := by
  unfold execParityMismatch State.command at h
  cases h
  generalize s.blk.at x0 = b at h₀ ⊢
  dsimp only
  repeat (first | with_reducible assumption | (with_reducible apply Blk.onSafety_pin) | (with_reducible apply Blk.report_pin) | (with_reducible apply Blk.detect_pin) | (with_reducible apply Blk.reload_pin) | with_reducible apply pin_ite | extract_lets | split | (intros; dsimp only))

theorem execTelemetryWindowAccess_pin (x0 x1 x2 x3 x4) (s t : State) (h₀ : FaultPinRight (s.blk.at x0)) (h : execTelemetryWindowAccess x0 x1 x2 x3 x4 s = .next t) : FaultPinRight t.blk := by
  unfold execTelemetryWindowAccess State.command at h
  cases h
  generalize s.blk.at x0 = b at h₀ ⊢
  dsimp only
  repeat (first | with_reducible assumption | (with_reducible apply Blk.refuse_pin) | (with_reducible apply Blk.windowAccess_pin) | with_reducible apply pin_ite | extract_lets | split | (intros; dsimp only))

theorem execOperatingTimeTick_pin (x0) (s t : State) (h₀ : FaultPinRight (s.blk.at x0)) (h : execOperatingTimeTick x0 s = .next t) : FaultPinRight t.blk := by
  unfold execOperatingTimeTick State.command at h
  cases h
  generalize s.blk.at x0 = b at h₀ ⊢
  dsimp only
  repeat (first | with_reducible assumption | (with_reducible apply Blk.lifeCheck_pin) | (with_reducible apply Blk.alertCheck_pin) | (with_reducible apply Blk.ageRegions_pin) | (with_reducible apply Blk.ageSlots_pin) | (with_reducible apply Blk.heldImport_pin) | (with_reducible apply Blk.restoreMap_pin) | (with_reducible apply Blk.pollDies_pin) | (exact h₀) | with_reducible apply pin_ite | extract_lets | split | (intros; dsimp only))

theorem execHotEpochEnd_pin (x0) (s t : State) (h₀ : FaultPinRight (s.blk.at x0)) (h : execHotEpochEnd x0 s = .next t) : FaultPinRight t.blk := by
  unfold execHotEpochEnd State.command at h
  cases h
  generalize s.blk.at x0 = b at h₀ ⊢
  dsimp only
  repeat (first | with_reducible assumption | (with_reducible apply Blk.onVelvet_pin) | (with_reducible apply Blk.onTwill_pin) | (with_reducible apply Blk.startDemotion_pin) | (with_reducible apply Blk.startHomes_pin) | (with_reducible apply Blk.drive_pin) | (with_reducible apply Blk.heatRegions_pin) | (with_reducible refine pin_foldl (fun c x hc => ?_) _ _ ?_) | with_reducible apply pin_ite | extract_lets | split | (intros; dsimp only))

theorem execDemotionCommit_pin (x0 x1) (s t : State) (h₀ : FaultPinRight (s.blk.at x0)) (h : execDemotionCommit x0 x1 s = .next t) : FaultPinRight t.blk := by
  unfold execDemotionCommit State.command at h
  cases h
  generalize s.blk.at x0 = b at h₀ ⊢
  dsimp only
  repeat (first | with_reducible assumption | (with_reducible apply Blk.drive_pin) | (with_reducible apply Blk.commitDemotion_pin) | with_reducible apply pin_ite | extract_lets | split | (intros; dsimp only))

theorem execJournalRecordIssue_pin (x0 x1) (s t : State) (h₀ : FaultPinRight (s.blk.at x0)) (h : execJournalRecordIssue x0 x1 s = .next t) : FaultPinRight t.blk := by
  unfold execJournalRecordIssue State.command at h
  cases h
  generalize s.blk.at x0 = b at h₀ ⊢
  dsimp only
  repeat (first | with_reducible assumption | (with_reducible apply Blk.metaFail_pin) | (with_reducible refine pin_foldl (fun c x hc => ?_) _ _ ?_) | (with_reducible apply Blk.retireWaiting_pin) | (with_reducible apply Blk.startHomes_pin) | (with_reducible apply Blk.drive_pin) | (with_reducible apply Blk.issueDemotions_pin) | (with_reducible apply Blk.issueFreed_pin) | with_reducible apply pin_ite | extract_lets | split | (intros; dsimp only))

theorem execGarbageCollection_pin (x0 x1) (s t : State) (h₀ : FaultPinRight (s.blk.at x0)) (h : execGarbageCollection x0 x1 s = .next t) : FaultPinRight t.blk := by
  unfold execGarbageCollection State.command at h
  cases h
  generalize s.blk.at x0 = b at h₀ ⊢
  dsimp only
  repeat (first | with_reducible assumption | (with_reducible apply Blk.drive_pin) | (with_reducible apply Blk.collectRows_pin) | (with_reducible apply Blk.takeRow_pin) | with_reducible apply pin_ite | extract_lets | split | (intros; dsimp only))

theorem execWearIncrement_pin (x0 x1) (s t : State) (h₀ : FaultPinRight (s.blk.at x0)) (h : execWearIncrement x0 x1 s = .next t) : FaultPinRight t.blk := by
  unfold execWearIncrement State.command at h
  cases h
  generalize s.blk.at x0 = b at h₀ ⊢
  dsimp only
  repeat (first | with_reducible assumption | (with_reducible apply Blk.onTwill_pin) | (with_reducible apply Blk.lifeCheck_pin) | (with_reducible apply Blk.wearUp_pin) | (with_reducible apply Blk.retireWaiting_pin) | (with_reducible apply Blk.drive_pin) | with_reducible apply pin_ite | extract_lets | split | (intros; dsimp only))

theorem execTrackerFold_pin (x0 x1) (s t : State) (h₀ : FaultPinRight (s.blk.at x0)) (h : execTrackerFold x0 x1 s = .next t) : FaultPinRight t.blk := by
  unfold execTrackerFold State.command at h
  cases h
  generalize s.blk.at x0 = b at h₀ ⊢
  dsimp only
  repeat (first | with_reducible assumption | (with_reducible apply Blk.lifeCheck_pin) | (with_reducible apply Blk.foldCount_pin) | (with_reducible apply Blk.retireWaiting_pin) | (with_reducible apply Blk.drive_pin) | with_reducible apply pin_ite | extract_lets | split | (intros; dsimp only))

theorem execRotationPassEnd_pin (x0 x1) (s t : State) (h₀ : FaultPinRight (s.blk.at x0)) (h : execRotationPassEnd x0 x1 s = .next t) : FaultPinRight t.blk := by
  unfold execRotationPassEnd State.command at h
  cases h
  generalize s.blk.at x0 = b at h₀ ⊢
  dsimp only
  repeat (first | with_reducible assumption | (with_reducible apply Blk.endPass_pin) | (with_reducible apply Blk.drive_pin) | with_reducible apply pin_ite | extract_lets | split | (intros; dsimp only))

theorem execMigrationStart_pin (x0 x1) (s t : State) (h₀ : FaultPinRight (s.blk.at x0)) (h : execMigrationStart x0 x1 s = .next t) : FaultPinRight t.blk := by
  unfold execMigrationStart State.command at h
  cases h
  generalize s.blk.at x0 = b at h₀ ⊢
  dsimp only
  repeat (first | with_reducible assumption | (with_reducible apply Blk.useFree_pin) | (with_reducible apply Blk.widen_pin) | (with_reducible apply Blk.beginMigration_pin) | (with_reducible apply Blk.drive_pin) | with_reducible apply pin_ite | extract_lets | split | (intros; dsimp only))

theorem execMigrationEnd_pin (x0 x1) (s t : State) (h₀ : FaultPinRight (s.blk.at x0)) (h : execMigrationEnd x0 x1 s = .next t) : FaultPinRight t.blk := by
  unfold execMigrationEnd State.command at h
  cases h
  generalize s.blk.at x0 = b at h₀ ⊢
  dsimp only
  repeat (first | with_reducible assumption | (with_reducible apply Blk.startHomes_pin) | (with_reducible apply Blk.endMigration_pin) | (with_reducible apply Blk.drive_pin) | with_reducible apply pin_ite | extract_lets | split | (intros; dsimp only))

theorem execColdSwapCheck_pin (x0) (s t : State) (h₀ : FaultPinRight (s.blk.at x0)) (h : execColdSwapCheck x0 s = .next t) : FaultPinRight t.blk := by
  unfold execColdSwapCheck State.command at h
  cases h
  generalize s.blk.at x0 = b at h₀ ⊢
  dsimp only
  repeat (first | with_reducible assumption | (with_reducible apply Blk.drive_pin) | (with_reducible apply Blk.coldSwap_pin) | with_reducible apply pin_ite | extract_lets | split | (intros; dsimp only))

theorem execRefreshRegion_pin (x0) (s t : State) (h₀ : FaultPinRight (s.blk.at x0)) (h : execRefreshRegion x0 s = .next t) : FaultPinRight t.blk := by
  unfold execRefreshRegion State.command at h
  cases h
  generalize s.blk.at x0 = b at h₀ ⊢
  dsimp only
  repeat (first | with_reducible assumption | (with_reducible apply Blk.onTwill_pin) | (with_reducible apply Blk.drive_pin) | (with_reducible apply Blk.startRefresh_pin) | with_reducible apply pin_ite | extract_lets | split | (intros; dsimp only))

theorem execCheckpointStart_pin (x0 x1) (s t : State) (h₀ : FaultPinRight (s.blk.at x0)) (h : execCheckpointStart x0 x1 s = .next t) : FaultPinRight t.blk := by
  unfold execCheckpointStart State.command at h
  cases h
  generalize s.blk.at x0 = b at h₀ ⊢
  dsimp only
  repeat (first | with_reducible assumption | (with_reducible apply Blk.onTwill_pin) | (with_reducible apply Blk.drive_pin) | (with_reducible apply Blk.beginCheckpoint_pin) | with_reducible apply pin_ite | extract_lets | split | (intros; dsimp only))

theorem execCheckpointCommit_pin (x0 x1) (s t : State) (h₀ : FaultPinRight (s.blk.at x0)) (h : execCheckpointCommit x0 x1 s = .next t) : FaultPinRight t.blk := by
  unfold execCheckpointCommit State.command at h
  cases h
  generalize s.blk.at x0 = b at h₀ ⊢
  dsimp only
  repeat (first | with_reducible assumption | (with_reducible apply Blk.metaFail_pin) | (with_reducible refine pin_foldl (fun c x hc => ?_) _ _ ?_) | (with_reducible apply Blk.retireWaiting_pin) | (with_reducible apply Blk.drive_pin) | (with_reducible apply Blk.beginCheckpoint_pin) | (with_reducible apply Blk.commitCheckpoint_pin) | with_reducible apply pin_ite | extract_lets | split | (intros; dsimp only))

theorem execResync_pin (x0 x1) (s t : State) (h₀ : FaultPinRight (s.blk.at x0)) (h : execResync x0 x1 s = .next t) : FaultPinRight t.blk := by
  unfold execResync State.command at h
  cases h
  generalize s.blk.at x0 = b at h₀ ⊢
  dsimp only
  repeat (first | with_reducible assumption | (with_reducible apply Blk.onTwill_pin) | (with_reducible apply Blk.drive_pin) | with_reducible apply pin_ite | extract_lets | split | (intros; dsimp only))

theorem execWeakLineRewrite_pin (x0) (s t : State) (h₀ : FaultPinRight (s.blk.at x0)) (h : execWeakLineRewrite x0 s = .next t) : FaultPinRight t.blk := by
  unfold execWeakLineRewrite State.command at h
  cases h
  generalize s.blk.at x0 = b at h₀ ⊢
  dsimp only
  repeat (first | with_reducible assumption | (with_reducible apply onMedia_pin <;> [(intro; rfl); skip]) | (with_reducible apply Blk.startJob_pin) | (with_reducible apply Blk.drive_pin) | with_reducible apply pin_ite | extract_lets | split | (intros; dsimp only))

theorem execTerryStripeRead_pin (x0 x1) (s t : State) (h₀ : FaultPinRight (s.blk.at x0)) (h : execTerryStripeRead x0 x1 s = .next t) : FaultPinRight t.blk := by
  unfold execTerryStripeRead State.command at h
  cases h
  generalize s.blk.at x0 = b at h₀ ⊢
  dsimp only
  repeat (first | with_reducible assumption | (with_reducible apply Blk.drive_pin) | (with_reducible apply Blk.lapRead_pin) | (with_reducible apply Blk.scanNext_pin) | with_reducible apply pin_ite | extract_lets | split | (intros; dsimp only))

theorem execSramScrub_pin (x0 x1 x2 x3 x4) (s t : State) (h₀ : FaultPinRight (s.blk.at x0)) (h : execSramScrub x0 x1 x2 x3 x4 s = .next t) : FaultPinRight t.blk := by
  unfold execSramScrub State.command at h
  cases h
  generalize s.blk.at x0 = b at h₀ ⊢
  dsimp only
  repeat (first | with_reducible assumption | (with_reducible apply Blk.sramRead_pin) | (with_reducible apply Blk.scrubWord_pin) | with_reducible apply pin_ite | extract_lets | split | (intros; dsimp only))

theorem execMarginEvaluation_pin (x0) (s t : State) (h₀ : FaultPinRight (s.blk.at x0)) (h : execMarginEvaluation x0 s = .next t) : FaultPinRight t.blk := by
  unfold execMarginEvaluation State.command at h
  cases h
  generalize s.blk.at x0 = b at h₀ ⊢
  dsimp only
  repeat (first | with_reducible assumption | (with_reducible apply Blk.onGauze_pin) | (with_reducible apply Blk.drive_pin) | (with_reducible apply Blk.evaluateArea_pin) | (with_reducible apply Blk.beginEvaluation_pin) | with_reducible apply pin_ite | extract_lets | split | (intros; dsimp only))

theorem execTagWriteback_pin (x0) (s t : State) (h₀ : FaultPinRight (s.blk.at x0)) (h : execTagWriteback x0 s = .next t) : FaultPinRight t.blk := by
  unfold execTagWriteback State.command at h
  cases h
  generalize s.blk.at x0 = b at h₀ ⊢
  dsimp only
  repeat (first | with_reducible assumption | (with_reducible apply Blk.startTag_pin) | (with_reducible apply Blk.drive_pin) | (with_reducible refine pin_foldl (fun c x hc => ?_) _ _ ?_) | with_reducible apply pin_ite | extract_lets | split | (intros; dsimp only))

theorem execRekeyPass_pin (x0 x1) (s t : State) (h₀ : FaultPinRight (s.blk.at x0)) (h : execRekeyPass x0 x1 s = .next t) : FaultPinRight t.blk := by
  unfold execRekeyPass State.command at h
  cases h
  generalize s.blk.at x0 = b at h₀ ⊢
  dsimp only
  repeat (first | with_reducible assumption | (with_reducible apply Blk.onDamask_pin) | (with_reducible apply Blk.rekeyGroup_pin) | (with_reducible apply Blk.pinGroups_pin) | with_reducible apply pin_ite | extract_lets | split | (intros; dsimp only))

theorem execAlertService_pin (x0 x1 x2) (s t : State) (h₀ : FaultPinRight (s.blk.at x0)) (h : execAlertService x0 x1 x2 s = .next t) : FaultPinRight t.blk := by
  unfold execAlertService State.command at h
  cases h
  generalize s.blk.at x0 = b at h₀ ⊢
  dsimp only
  repeat (first | with_reducible assumption | (with_reducible apply Blk.bump_pin) | (with_reducible apply Blk.sendDie_pin) | (with_reducible apply Blk.serveDie_pin) | (with_reducible refine pin_foldl (fun c x hc => ?_) _ _ ?_) | with_reducible apply pin_ite | extract_lets | split | (intros; dsimp only))

theorem execChannelTraining_pin (x0 x1) (s t : State) (h₀ : FaultPinRight (s.blk.at x0)) (h : execChannelTraining x0 x1 s = .next t) : FaultPinRight t.blk := by
  unfold execChannelTraining State.command at h
  cases h
  generalize s.blk.at x0 = b at h₀ ⊢
  dsimp only
  repeat (first | with_reducible assumption | (with_reducible apply onMedia_pin <;> [(intro; rfl); skip]) | (with_reducible refine onModes_pin (fun _ => ⟨rfl, rfl⟩) ?_) | (with_reducible apply Blk.report_pin) | (with_reducible apply Blk.channelFail_pin) | (with_reducible apply Blk.findDies_pin) | (with_reducible apply Blk.channelTrained_pin) | (with_reducible refine pin_foldl (fun c x hc => ?_) _ _ ?_) | with_reducible apply pin_ite | extract_lets | split | (intros; dsimp only))

theorem execStr_pin (x0 x1 x2) (s t : State) (h₀ : FaultPinRight (s.blk.at x0)) (h : execStr x0 x1 x2 s = .next t) : FaultPinRight t.blk := by
  unfold execStr State.command at h
  cases h
  generalize s.blk.at x0 = b at h₀ ⊢
  dsimp only
  repeat (first | with_reducible assumption | (with_reducible apply Blk.sendDie_pin) | (with_reducible apply Blk.dieAnswers_pin) | with_reducible apply pin_ite | extract_lets | split | (intros; dsimp only))

theorem execRebuildPosition_pin (x0) (s t : State) (h₀ : FaultPinRight (s.blk.at x0)) (h : execRebuildPosition x0 s = .next t) : FaultPinRight t.blk := by
  unfold execRebuildPosition State.command at h
  cases h
  generalize s.blk.at x0 = b at h₀ ⊢
  dsimp only
  repeat (first | with_reducible assumption | (with_reducible apply Blk.onTwill_pin) | (with_reducible apply Blk.onSafety_pin) | (with_reducible apply Blk.useFree_pin) | (with_reducible apply Blk.lifeCheck_pin) | (with_reducible apply Blk.journalRec_pin) | (with_reducible apply Blk.rebuildOver_pin) | (with_reducible apply Blk.drive_pin) | with_reducible apply pin_ite | extract_lets | split | (intros; dsimp only))

theorem execReplacementCopyBack_pin (x0 x1) (s t : State) (h₀ : FaultPinRight (s.blk.at x0)) (h : execReplacementCopyBack x0 x1 s = .next t) : FaultPinRight t.blk := by
  unfold execReplacementCopyBack State.command at h
  cases h
  generalize s.blk.at x0 = b at h₀ ⊢
  dsimp only
  repeat (first | with_reducible assumption | (with_reducible apply Blk.onSafety_pin) | (with_reducible apply Blk.drive_pin) | with_reducible apply pin_ite | extract_lets | split | (intros; dsimp only))

theorem execEngineHeartbeatMiss_pin (x0 x1) (s t : State) (h₀ : FaultPinRight (s.blk.at x0)) (h : execEngineHeartbeatMiss x0 x1 s = .next t) : FaultPinRight t.blk := by
  unfold execEngineHeartbeatMiss State.command at h
  cases h
  generalize s.blk.at x0 = b at h₀ ⊢
  dsimp only
  repeat (first | with_reducible assumption | (with_reducible apply Blk.bump_pin) | (with_reducible apply Blk.engineFail_pin) | with_reducible apply pin_ite | extract_lets | split | (intros; dsimp only))

theorem execTakeoverComplete_pin (x0 x1) (s t : State) (h₀ : FaultPinRight (s.blk.at x0)) (h : execTakeoverComplete x0 x1 s = .next t) : FaultPinRight t.blk := by
  unfold execTakeoverComplete State.command at h
  cases h
  generalize s.blk.at x0 = b at h₀ ⊢
  dsimp only
  repeat (first | with_reducible assumption | (with_reducible apply Blk.onEngine_pin) | (with_reducible apply Blk.drive_pin) | (with_reducible apply Blk.payOwed_pin) | with_reducible apply pin_ite | extract_lets | split | (intros; dsimp only))

theorem execLockstepMismatch_pin (x0 x1) (s t : State) (h₀ : FaultPinRight (s.blk.at x0)) (h : execLockstepMismatch x0 x1 s = .next t) : FaultPinRight t.blk := by
  unfold execLockstepMismatch State.command at h
  cases h
  generalize s.blk.at x0 = b at h₀ ⊢
  dsimp only
  repeat (first | with_reducible assumption | (with_reducible apply Blk.detect_pin) | with_reducible apply pin_ite | extract_lets | split | (intros; dsimp only))

theorem execBankFailoverComplete_pin (x0) (s t : State) (h₀ : FaultPinRight (s.blk.at x0)) (h : execBankFailoverComplete x0 s = .next t) : FaultPinRight t.blk := by
  unfold execBankFailoverComplete State.command at h
  cases h
  generalize s.blk.at x0 = b at h₀ ⊢
  dsimp only
  repeat (first | with_reducible assumption | (with_reducible apply Blk.onSafety_pin) | (with_reducible apply Blk.reportUnit_pin) | (with_reducible apply Blk.degrade_pin) | (with_reducible apply Blk.onBank_pin) | (with_reducible apply Blk.bankFail_pin) | with_reducible apply pin_ite | extract_lets | split | (intros; dsimp only))

theorem execHeadFailure_pin (x0 x1) (s t : State) (h₀ : FaultPinRight (s.blk.at x0)) (h : execHeadFailure x0 x1 s = .next t) : FaultPinRight t.blk := by
  unfold execHeadFailure State.command at h
  cases h
  generalize s.blk.at x0 = b at h₀ ⊢
  dsimp only
  repeat (first | with_reducible assumption | (with_reducible apply Blk.useFree_pin) | (with_reducible apply Blk.detect_pin) | (with_reducible apply Blk.headFail_pin) | with_reducible apply pin_ite | extract_lets | split | (intros; dsimp only))

theorem execSelfTest_pin (x0 x1) (s t : State) (h₀ : FaultPinRight (s.blk.at x0)) (h : execSelfTest x0 x1 s = .next t) : FaultPinRight t.blk := by
  unfold execSelfTest State.command at h
  cases h
  generalize s.blk.at x0 = b at h₀ ⊢
  dsimp only
  repeat (first | with_reducible assumption | (with_reducible apply Blk.onSafety_pin) | (with_reducible apply Blk.odSet_pin) | (with_reducible apply Blk.checkerFailed_pin) | (with_reducible refine pin_foldl (fun c x hc => ?_) _ _ ?_) | with_reducible apply pin_ite | extract_lets | split | (intros; dsimp only))

theorem execSafeStopEntry_pin (x0) (s t : State) (h₀ : FaultPinRight (s.blk.at x0)) (h : execSafeStopEntry x0 s = .next t) : FaultPinRight t.blk := by
  unfold execSafeStopEntry State.command at h
  cases h
  generalize s.blk.at x0 = b at h₀ ⊢
  dsimp only
  repeat (first | with_reducible assumption | (with_reducible refine onModes_pin (fun _ => ⟨rfl, rfl⟩) ?_) | (with_reducible apply Blk.bump_pin) | (with_reducible apply Blk.report_pin) | (with_reducible apply Blk.enter_pin) | (with_reducible apply Blk.healthCheck_pin) | (with_reducible apply Blk.endPrograms_pin) | (with_reducible apply Blk.resumeAll_pin) | (with_reducible apply Blk.ringNewest_pin) | with_reducible apply pin_ite | extract_lets | split | (intros; dsimp only))

theorem execResidentRailsGood_pin (x0 x1 x2 x3) (s t : State) (h₀ : FaultPinRight (s.blk.at x0)) (h : execResidentRailsGood x0 x1 x2 x3 s = .next t) : FaultPinRight t.blk := by
  unfold execResidentRailsGood State.command at h
  cases h
  generalize s.blk.at x0 = b at h₀ ⊢
  dsimp only
  repeat (first | with_reducible assumption | (with_reducible apply Blk.startBoot_pin) | (with_reducible apply Blk.aonReset_pin) | with_reducible apply pin_ite | extract_lets | split | (intros; dsimp only))

theorem execResidentRailFall_pin (x0) (s t : State) (h₀ : FaultPinRight (s.blk.at x0)) (h : execResidentRailFall x0 s = .next t) : FaultPinRight t.blk := by
  unfold execResidentRailFall State.command at h
  cases h
  generalize s.blk.at x0 = b at h₀ ⊢
  dsimp only
  repeat (first | with_reducible assumption | (with_reducible apply Blk.onFelt_pin) | (with_reducible apply Blk.tearPrograms_pin) | (with_reducible apply Blk.dark_pin) | with_reducible apply pin_ite | extract_lets | split | (intros; dsimp only))

theorem execPfailNRise_pin (x0) (s t : State) (h₀ : FaultPinRight (s.blk.at x0)) (h : execPfailNRise x0 s = .next t) : FaultPinRight t.blk := by
  unfold execPfailNRise State.command at h
  cases h
  generalize s.blk.at x0 = b at h₀ ⊢
  dsimp only
  repeat (first | with_reducible assumption | (with_reducible apply pinSet) | (with_reducible refine onModes_pin (fun _ => ⟨rfl, rfl⟩) ?_) | (with_reducible apply Blk.onCanvas_pin) | (with_reducible apply Blk.faultPin_pin) | (with_reducible apply Blk.cycleUp_pin) | (with_reducible apply Blk.powerCycled_pin) | (with_reducible apply Blk.startBoot_pin) | (exact h₀) | with_reducible apply pin_ite | extract_lets | split | (intros; dsimp only))

theorem execInputPowerLoss_pin (x0) (s t : State) (h₀ : FaultPinRight (s.blk.at x0)) (h : execInputPowerLoss x0 s = .next t) : FaultPinRight t.blk := by
  unfold execInputPowerLoss State.command at h
  cases h
  generalize s.blk.at x0 = b at h₀ ⊢
  dsimp only
  repeat (first | with_reducible assumption | (with_reducible refine onModes_pin (fun _ => ⟨rfl, rfl⟩) ?_) | (with_reducible apply Blk.abandonTest_pin) | (with_reducible apply Blk.loseInput_pin) | with_reducible apply pin_ite | extract_lets | split | (intros; dsimp only))

theorem execFlushEnd_pin (x0 x1) (s t : State) (h₀ : FaultPinRight (s.blk.at x0)) (h : execFlushEnd x0 x1 s = .next t) : FaultPinRight t.blk := by
  unfold execFlushEnd State.command at h
  cases h
  generalize s.blk.at x0 = b at h₀ ⊢
  dsimp only
  repeat (first | with_reducible assumption | (with_reducible apply Blk.endFlush_pin) | (with_reducible apply Blk.flushCheck_pin) | (with_reducible refine pin_foldl (fun c x hc => ?_) _ _ ?_) | with_reducible apply pin_ite | extract_lets | split | (intros; dsimp only))

theorem execPseqPgChange_pin (x0 x1 x2 x3) (s t : State) (h₀ : FaultPinRight (s.blk.at x0)) (h : execPseqPgChange x0 x1 x2 x3 s = .next t) : FaultPinRight t.blk := by
  unfold execPseqPgChange State.command at h
  cases h
  generalize s.blk.at x0 = b at h₀ ⊢
  dsimp only
  repeat (first | with_reducible assumption | (with_reducible apply Blk.onSlot_pin) | (with_reducible apply Blk.stepChange_pin) | with_reducible apply pin_ite | extract_lets | split | (intros; dsimp only))

theorem execSlotQualified_pin (x0 x1) (s t : State) (h₀ : FaultPinRight (s.blk.at x0)) (h : execSlotQualified x0 x1 s = .next t) : FaultPinRight t.blk := by
  unfold execSlotQualified State.command at h
  cases h
  generalize s.blk.at x0 = b at h₀ ⊢
  dsimp only
  repeat (first | with_reducible assumption | (with_reducible apply Blk.qualified_pin) | with_reducible apply pin_ite | extract_lets | split | (intros; dsimp only))

theorem execSlotQualifyTimeout_pin (x0 x1) (s t : State) (h₀ : FaultPinRight (s.blk.at x0)) (h : execSlotQualifyTimeout x0 x1 s = .next t) : FaultPinRight t.blk := by
  unfold execSlotQualifyTimeout State.command at h
  cases h
  generalize s.blk.at x0 = b at h₀ ⊢
  dsimp only
  repeat (first | with_reducible assumption | (with_reducible apply Blk.onSlot_pin) | (with_reducible apply Blk.powerDown_pin) | (with_reducible apply Blk.chatter_pin) | with_reducible apply pin_ite | extract_lets | split | (intros; dsimp only))

theorem execSlotFallen_pin (x0 x1 x2) (s t : State) (h₀ : FaultPinRight (s.blk.at x0)) (h : execSlotFallen x0 x1 x2 s = .next t) : FaultPinRight t.blk := by
  unfold execSlotFallen State.command at h
  cases h
  generalize s.blk.at x0 = b at h₀ ⊢
  dsimp only
  repeat (first | with_reducible assumption | (with_reducible apply Blk.lowerNext_pin) | (with_reducible apply Blk.onSlot_pin) | with_reducible apply pin_ite | extract_lets | split | (intros; dsimp only))

theorem execSlotFallTimeout_pin (x0 x1) (s t : State) (h₀ : FaultPinRight (s.blk.at x0)) (h : execSlotFallTimeout x0 x1 s = .next t) : FaultPinRight t.blk := by
  unfold execSlotFallTimeout State.command at h
  cases h
  generalize s.blk.at x0 = b at h₀ ⊢
  dsimp only
  repeat (first | with_reducible assumption | (with_reducible apply Blk.lowerNext_pin) | (with_reducible apply Blk.onSlot_pin) | (with_reducible apply Blk.canvasLogged_pin) | with_reducible apply pin_ite | extract_lets | split | (intros; dsimp only))

theorem execRailFault_pin (x0 x1 x2 x3) (s t : State) (h₀ : FaultPinRight (s.blk.at x0)) (h : execRailFault x0 x1 x2 x3 s = .next t) : FaultPinRight t.blk := by
  unfold execRailFault State.command at h
  cases h
  generalize s.blk.at x0 = b at h₀ ⊢
  dsimp only
  repeat (first | with_reducible assumption | (with_reducible apply Blk.bump_pin) | (with_reducible apply Blk.detect_pin) | (with_reducible apply Blk.onSlot_pin) | (with_reducible apply Blk.allOff_pin) | (with_reducible apply Blk.secondFault_pin) | with_reducible apply pin_ite | extract_lets | split | (intros; dsimp only))

theorem execHuSenseSample_pin (x0 x1) (s t : State) (h₀ : FaultPinRight (s.blk.at x0)) (h : execHuSenseSample x0 x1 s = .next t) : FaultPinRight t.blk := by
  unfold execHuSenseSample State.command at h
  cases h
  generalize s.blk.at x0 = b at h₀ ⊢
  dsimp only
  repeat (first | with_reducible assumption | (with_reducible apply Blk.onCanvas_pin) | (with_reducible apply Blk.reportEnergy_pin) | (exact h₀) | with_reducible apply pin_ite | extract_lets | split | (intros; dsimp only))

theorem execHoldupReport_pin (x0) (s t : State) (h₀ : FaultPinRight (s.blk.at x0)) (h : execHoldupReport x0 s = .next t) : FaultPinRight t.blk := by
  unfold execHoldupReport State.command at h
  cases h
  generalize s.blk.at x0 = b at h₀ ⊢
  dsimp only
  repeat (first | with_reducible assumption | (with_reducible apply Blk.reportEnergy_pin) | with_reducible apply pin_ite | extract_lets | split | (intros; dsimp only))

theorem execWriteBackReturn_pin (x0) (s t : State) (h₀ : FaultPinRight (s.blk.at x0)) (h : execWriteBackReturn x0 s = .next t) : FaultPinRight t.blk := by
  unfold execWriteBackReturn State.command at h
  cases h
  generalize s.blk.at x0 = b at h₀ ⊢
  dsimp only
  repeat (first | with_reducible assumption | (with_reducible apply Blk.applyMode_pin) | with_reducible apply pin_ite | extract_lets | split | (intros; dsimp only))

theorem execHealthTestEnd_pin (x0 x1 x2) (s t : State) (h₀ : FaultPinRight (s.blk.at x0)) (h : execHealthTestEnd x0 x1 x2 s = .next t) : FaultPinRight t.blk := by
  unfold execHealthTestEnd State.command at h
  cases h
  generalize s.blk.at x0 = b at h₀ ⊢
  dsimp only
  repeat (first | with_reducible assumption | (with_reducible apply Blk.useFree_pin) | (with_reducible apply Blk.healthCheck_pin) | (with_reducible apply Blk.reportEnergy_pin) | (with_reducible apply Blk.testResult_pin) | with_reducible apply pin_ite | extract_lets | split | (intros; dsimp only))

theorem execBoot_pin (x0 x1 x2) (s t : State) (h₀ : FaultPinRight (s.blk.at x0)) (h : execBoot x0 x1 x2 s = .next t) : FaultPinRight t.blk := by
  unfold execBoot State.command at h
  cases h
  generalize s.blk.at x0 = b at h₀ ⊢
  dsimp only
  repeat (first | with_reducible assumption | (with_reducible apply Blk.fwRefused_pin) | (with_reducible refine Blk.fwLoad_pin _ (by assumption) ?_) | (with_reducible apply Blk.bringUp_pin) | (with_reducible apply Blk.loadFelt_pin) | (with_reducible apply Blk.fillFails_pin) | (with_reducible refine pin_foldl (fun c x hc => ?_) _ _ ?_) | with_reducible apply pin_ite | extract_lets | split | (intros; dsimp only))

theorem execBindingCheck_pin (x0 x1) (s t : State) (h₀ : FaultPinRight (s.blk.at x0)) (h : execBindingCheck x0 x1 s = .next t) : FaultPinRight t.blk := by
  unfold execBindingCheck State.command at h
  cases h
  generalize s.blk.at x0 = b at h₀ ⊢
  dsimp only
  repeat (first | with_reducible assumption | (with_reducible apply Blk.setConditions_pin) | (with_reducible apply Blk.onDamask_pin) | (with_reducible apply Blk.setConditions_pin) | (with_reducible apply Blk.readIds_pin) | (with_reducible apply Blk.ownMedia_pin) | (with_reducible apply Blk.firstProvision_pin) | (with_reducible apply Blk.heldMedia_pin) | with_reducible apply pin_ite | extract_lets | split | (intros; dsimp only))

theorem execMapRebuild_pin (x0 x1) (s t : State) (h₀ : FaultPinRight (s.blk.at x0)) (h : execMapRebuild x0 x1 s = .next t) : FaultPinRight t.blk := by
  unfold execMapRebuild State.command at h
  cases h
  generalize s.blk.at x0 = b at h₀ ⊢
  dsimp only
  repeat (first | with_reducible assumption | (with_reducible refine onModes_pin (fun _ => ⟨rfl, rfl⟩) ?_) | (with_reducible apply Blk.odSet_pin) | (with_reducible apply Blk.loadSnapshot_pin) | (with_reducible apply Blk.loadMap_pin) | (with_reducible apply Blk.mapReady_pin) | with_reducible apply pin_ite | extract_lets | split | (intros; dsimp only))

theorem execMemoryActive_pin (x0) (s t : State) (h₀ : FaultPinRight (s.blk.at x0)) (h : execMemoryActive x0 s = .next t) : FaultPinRight t.blk := by
  unfold execMemoryActive State.command at h
  cases h
  generalize s.blk.at x0 = b at h₀ ⊢
  dsimp only
  repeat (first | with_reducible assumption | (with_reducible apply Blk.activate_pin) | with_reducible apply pin_ite | extract_lets | split | (intros; dsimp only))

theorem execHoldupReportTimeout_pin (x0) (s t : State) (h₀ : FaultPinRight (s.blk.at x0)) (h : execHoldupReportTimeout x0 s = .next t) : FaultPinRight t.blk := by
  unfold execHoldupReportTimeout State.command at h
  cases h
  generalize s.blk.at x0 = b at h₀ ⊢
  dsimp only
  repeat (first | with_reducible assumption | (with_reducible apply Blk.report_pin) | (with_reducible apply Blk.activate_pin) | with_reducible apply pin_ite | extract_lets | split | (intros; dsimp only))

theorem execLightSleepEntry_pin (x0) (s t : State) (h₀ : FaultPinRight (s.blk.at x0)) (h : execLightSleepEntry x0 s = .next t) : FaultPinRight t.blk := by
  unfold execLightSleepEntry State.command at h
  cases h
  generalize s.blk.at x0 = b at h₀ ⊢
  dsimp only
  repeat (first | with_reducible assumption | (with_reducible apply Blk.enter_pin) | with_reducible apply pin_ite | extract_lets | split | (intros; dsimp only))

theorem execDeepSleepEntry_pin (x0) (s t : State) (h₀ : FaultPinRight (s.blk.at x0)) (h : execDeepSleepEntry x0 s = .next t) : FaultPinRight t.blk := by
  unfold execDeepSleepEntry State.command at h
  cases h
  generalize s.blk.at x0 = b at h₀ ⊢
  dsimp only
  repeat (first | with_reducible assumption | (with_reducible apply Blk.enter_pin) | (with_reducible apply Blk.fallAsleep_pin) | with_reducible apply pin_ite | extract_lets | split | (intros; dsimp only))

theorem execIdleEnd_pin (x0) (s t : State) (h₀ : FaultPinRight (s.blk.at x0)) (h : execIdleEnd x0 s = .next t) : FaultPinRight t.blk := by
  unfold execIdleEnd State.command at h
  cases h
  generalize s.blk.at x0 = b at h₀ ⊢
  dsimp only
  repeat (first | with_reducible assumption | (with_reducible apply Blk.wake_pin) | with_reducible apply pin_ite | extract_lets | split | (intros; dsimp only))

theorem execRefMonitorWindow_pin (x0 x1) (s t : State) (h₀ : FaultPinRight (s.blk.at x0)) (h : execRefMonitorWindow x0 x1 s = .next t) : FaultPinRight t.blk := by
  unfold execRefMonitorWindow State.command at h
  cases h
  generalize s.blk.at x0 = b at h₀ ⊢
  dsimp only
  repeat (first | with_reducible assumption | (with_reducible refine onClocks_pin (fun _ => rfl) ?_) | (with_reducible apply Blk.bump_pin) | (exact h₀) | with_reducible apply pin_ite | extract_lets | split | (intros; dsimp only))

theorem execRefclkLost_pin (x0 x1) (s t : State) (h₀ : FaultPinRight (s.blk.at x0)) (h : execRefclkLost x0 x1 s = .next t) : FaultPinRight t.blk := by
  unfold execRefclkLost State.command at h
  cases h
  generalize s.blk.at x0 = b at h₀ ⊢
  dsimp only
  repeat (first | with_reducible assumption | (with_reducible refine keep_pin (Blk.forcedSwitches_only (m₀ := [.out, .od, .hA, .hB, .can, .linen]) _ _ (by decide) (only_refl _ _)) (by decide) ?_) | (with_reducible refine onClocks_pin (fun _ => rfl) ?_) | (with_reducible apply Blk.bump_pin) | (with_reducible apply Blk.report_pin) | (with_reducible apply Blk.detect_pin) | (with_reducible apply Blk.linkFalls_pin) | (with_reducible apply Blk.clockFailure_pin) | (exact h₀) | with_reducible apply pin_ite | extract_lets | split | (intros; dsimp only))

theorem execRefclkGood_pin (x0) (s t : State) (h₀ : FaultPinRight (s.blk.at x0)) (h : execRefclkGood x0 s = .next t) : FaultPinRight t.blk := by
  unfold execRefclkGood State.command at h
  cases h
  generalize s.blk.at x0 = b at h₀ ⊢
  dsimp only
  repeat (first | with_reducible assumption | (with_reducible refine onClocks_pin (fun _ => rfl) ?_) | (with_reducible apply Blk.report_pin) | (with_reducible apply Blk.linkChange_pin) | (exact h₀) | with_reducible apply pin_ite | extract_lets | split | (intros; dsimp only))

theorem execPllJudgeWindow_pin (x0 x1 x2 x3) (s t : State) (h₀ : FaultPinRight (s.blk.at x0)) (h : execPllJudgeWindow x0 x1 x2 x3 s = .next t) : FaultPinRight t.blk := by
  unfold execPllJudgeWindow State.command at h
  cases h
  generalize s.blk.at x0 = b at h₀ ⊢
  dsimp only
  repeat (first | with_reducible assumption | (with_reducible apply onClocks_pin <;> [(intro; first | exact fallBack_failed _ | exact onPll_failed _ _ _); skip]) | (with_reducible refine onClocks_pin (fun _ => rfl) ?_) | (with_reducible apply Blk.autoReturn_pin) | (with_reducible apply Blk.pllFail_pin) | with_reducible apply pin_ite | extract_lets | split | (intros; dsimp only))

theorem execIrcTrimUpdate_pin (x0) (s t : State) (h₀ : FaultPinRight (s.blk.at x0)) (h : execIrcTrimUpdate x0 s = .next t) : FaultPinRight t.blk := by
  unfold execIrcTrimUpdate State.command at h
  cases h
  generalize s.blk.at x0 = b at h₀ ⊢
  dsimp only
  repeat (first | with_reducible assumption | (with_reducible refine onClocks_pin (fun _ => rfl) ?_) | (exact h₀) | with_reducible apply pin_ite | extract_lets | split | (intros; dsimp only))

theorem execGauzeSnapshot_pin (x0 x1) (s t : State) (h₀ : FaultPinRight (s.blk.at x0)) (h : execGauzeSnapshot x0 x1 s = .next t) : FaultPinRight t.blk := by
  unfold execGauzeSnapshot State.command at h
  cases h
  generalize s.blk.at x0 = b at h₀ ⊢
  dsimp only
  repeat (first | with_reducible assumption | (with_reducible apply Blk.metaFail_pin) | (with_reducible refine pin_foldl (fun c x hc => ?_) _ _ ?_) | (with_reducible apply Blk.snapshot_pin) | with_reducible apply pin_ite | extract_lets | split | (intros; dsimp only))

theorem execThermalSample_pin (x0 x1) (s t : State) (h₀ : FaultPinRight (s.blk.at x0)) (h : execThermalSample x0 x1 s = .next t) : FaultPinRight t.blk := by
  unfold execThermalSample State.command at h
  cases h
  generalize s.blk.at x0 = b at h₀ ⊢
  dsimp only
  repeat (first | with_reducible assumption | (with_reducible apply Blk.onThermal_pin) | (with_reducible apply Blk.slowDown_pin) | (with_reducible apply Blk.thermalShutdown_pin) | (with_reducible apply Blk.sampleSensor_pin) | (with_reducible apply Blk.coolDown_pin) | (with_reducible apply Blk.sensorCount_pin) | (with_reducible apply Blk.coolBoot_pin) | (with_reducible refine pin_foldl (fun c x hc => ?_) _ _ ?_) | with_reducible apply pin_ite | extract_lets | split | (intros; dsimp only))

theorem execThrottleEntry_pin (x0) (s t : State) (h₀ : FaultPinRight (s.blk.at x0)) (h : execThrottleEntry x0 s = .next t) : FaultPinRight t.blk := by
  unfold execThrottleEntry State.command at h
  cases h
  generalize s.blk.at x0 = b at h₀ ⊢
  dsimp only
  repeat (first | with_reducible assumption | (with_reducible apply Blk.throttle_pin) | with_reducible apply pin_ite | extract_lets | split | (intros; dsimp only))

theorem execThrottleStep_pin (x0) (s t : State) (h₀ : FaultPinRight (s.blk.at x0)) (h : execThrottleStep x0 s = .next t) : FaultPinRight t.blk := by
  unfold execThrottleStep State.command at h
  cases h
  generalize s.blk.at x0 = b at h₀ ⊢
  dsimp only
  repeat (first | with_reducible assumption | (with_reducible apply Blk.onThermal_pin) | (with_reducible apply Blk.leave_pin) | (with_reducible apply Blk.healthCheck_pin) | with_reducible apply pin_ite | extract_lets | split | (intros; dsimp only))

theorem execPerstDeassert_pin (x0 x1) (s t : State) (h₀ : FaultPinRight (s.blk.at x0)) (h : execPerstDeassert x0 x1 s = .next t) : FaultPinRight t.blk := by
  unfold execPerstDeassert State.command at h
  cases h
  generalize s.blk.at x0 = b at h₀ ⊢
  dsimp only
  repeat (first | with_reducible assumption | (with_reducible refine onModes_pin (fun _ => ⟨rfl, rfl⟩) ?_) | (with_reducible apply Blk.onHead_pin) | (with_reducible apply Blk.linkChange_pin) | (with_reducible apply Blk.startBoot_pin) | with_reducible apply pin_ite | extract_lets | split | (intros; dsimp only))

theorem execChannelRetrainEnd_pin (x0 x1 x2 x3) (s t : State) (h₀ : FaultPinRight (s.blk.at x0)) (h : execChannelRetrainEnd x0 x1 x2 x3 s = .next t) : FaultPinRight t.blk := by
  unfold execChannelRetrainEnd State.command at h
  cases h
  generalize s.blk.at x0 = b at h₀ ⊢
  dsimp only
  repeat (first | with_reducible assumption | (with_reducible apply Blk.onChan_pin) | (with_reducible apply Blk.channelFail_pin) | (with_reducible apply Blk.trainDie_pin) | (with_reducible apply Blk.channelBack_pin) | (with_reducible apply Blk.fullTraining_pin) | (exact h₀) | (with_reducible refine pin_foldl (fun c x hc => ?_) _ _ ?_) | with_reducible apply pin_ite | extract_lets | split | (intros; dsimp only))

theorem execReturnRampEnd_pin (x0) (s t : State) (h₀ : FaultPinRight (s.blk.at x0)) (h : execReturnRampEnd x0 s = .next t) : FaultPinRight t.blk := by
  unfold execReturnRampEnd State.command at h
  cases h
  generalize s.blk.at x0 = b at h₀ ⊢
  dsimp only
  repeat (first | with_reducible assumption | (with_reducible apply pinSet) | (with_reducible refine onClocks_pin (fun _ => rfl) ?_) | (with_reducible apply Blk.faultPin_pin) | (with_reducible apply Blk.leave_pin) | (with_reducible apply Blk.wake_pin) | (exact h₀) | with_reducible apply pin_ite | extract_lets | split | (intros; dsimp only))

theorem execRedistributionComplete_pin (x0) (s t : State) (h₀ : FaultPinRight (s.blk.at x0)) (h : execRedistributionComplete x0 s = .next t) : FaultPinRight t.blk := by
  unfold execRedistributionComplete State.command at h
  cases h
  generalize s.blk.at x0 = b at h₀ ⊢
  dsimp only
  repeat (first | with_reducible assumption | (with_reducible apply Blk.onSafety_pin) | (with_reducible apply Blk.degrade_pin) | with_reducible apply pin_ite | extract_lets | split | (intros; dsimp only))

theorem execTestEnRise_pin (x0) (s t : State) (h₀ : FaultPinRight (s.blk.at x0)) (h : execTestEnRise x0 s = .next t) : FaultPinRight t.blk := by
  unfold execTestEnRise State.command at h
  cases h
  generalize s.blk.at x0 = b at h₀ ⊢
  dsimp only
  repeat (first | with_reducible assumption | (with_reducible apply Blk.useFree_pin) | (with_reducible apply Blk.detect_pin) | with_reducible apply pin_ite | extract_lets | split | (intros; dsimp only))

end Sys2Proof.Machine
end

