-- ==== Sys2Proof/Laws/KeptQueues.lean ====
section
/-! SUPPORT. Every queue stays within its places: one lemma for each operation and each command that writes one. -/

set_option linter.all false
set_option Elab.async false

namespace Sys2Proof.Machine

open Sys2Proof.Safety

theorem keep_bnd {l : List Part} {b c : Blk} (h : Only l b c) (hl : Part.hA ∉ l ∧ Part.hB ∉ l ∧ Part.linen ∉ l ∧ Part.can ∉ l ∧ Part.felt ∉ l) (hb : QueuesFit b) : QueuesFit c := by
  obtain ⟨h1, h2, h3, h4, h5⟩ := hl
  replace h1 := h.same _ h1
  replace h2 := h.same _ h2
  replace h3 := h.same _ h3
  replace h4 := h.same _ h4
  replace h5 := h.same _ h5
  simp only [same] at h1 h2 h3 h4 h5
  exact ⟨by rw [h1]; exact hb.hA, by rw [h2]; exact hb.hB, by rw [h3]; exact hb.linen, by rw [h4]; exact hb.can, by rw [h5]; exact hb.felt⟩

theorem bnd_foldl {α : Type} {f : Blk → α → Blk} (hf : ∀ c x, QueuesFit c → QueuesFit (f c x)) (l : List α) (b : Blk) (hb : QueuesFit b) : QueuesFit (l.foldl f b) := by
  induction l generalizing b with
  | nil => exact hb
  | cons x l ih => exact ih _ (hf _ _ hb)

theorem bnd_ite {p : Prop} [Decidable p] {b c : Blk} (hb : QueuesFit b) (hc : QueuesFit c) : QueuesFit (if p then b else c) := by
  split <;> assumption

theorem bnd_ite_fst {α : Type} {p : Prop} [Decidable p] {b c : Blk × α} (hb : QueuesFit b.1) (hc : QueuesFit c.1) : QueuesFit (if p then b else c).1 := by
  split <;> assumption

theorem onMedia_bnd {b : Blk} {f : Media → Media} (_hf : ∀ m : Media, m = m) (hb : QueuesFit b) : QueuesFit (b.onMedia f) := ⟨hb.1, hb.2, hb.3, hb.4, hb.5⟩

theorem hA_bnd {b : Blk} {f : HeadSt → HeadSt} (hf : HeadFits b.hA → HeadFits (f b.hA)) (hb : QueuesFit b) : QueuesFit (b.onHA f) := ⟨hf hb.1, hb.2, hb.3, hb.4, hb.5⟩

theorem hB_bnd {b : Blk} {f : HeadSt → HeadSt} (hf : HeadFits b.hB → HeadFits (f b.hB)) (hb : QueuesFit b) : QueuesFit (b.onHB f) := ⟨hb.1, hf hb.2, hb.3, hb.4, hb.5⟩

theorem head_bnd {b : Blk} {h : Head} {f : HeadSt → HeadSt} (hf : HeadFits (b.head h) → HeadFits (f (b.head h))) (hb : QueuesFit b) : QueuesFit (b.onHead h f) := by
  cases h
  · exact hA_bnd hf hb
  · exact hB_bnd hf hb

theorem ctl_bnd {b : Blk} {h : Head} {f : Ctl → Ctl} (_hf : ∀ m : Ctl, m = m) (hb : QueuesFit b) : QueuesFit (b.onCtl h f) := head_bnd (fun h => h) hb

theorem spdm_bnd {b : Blk} {h : Head} {f : Spdm → Spdm} (_hf : ∀ m : Spdm, m = m) (hb : QueuesFit b) : QueuesFit (b.onSpdm h f) := head_bnd (fun h => h) hb

theorem can_bnd {b : Blk} {f : Can → Can} (hf : b.can.notes.length ≤ 64 → (f b.can).notes.length ≤ 64) (hb : QueuesFit b) : QueuesFit (b.onCan f) := ⟨hb.1, hb.2, hb.3, hf hb.4, hb.5⟩

theorem felt_bnd {b : Blk} {f : Felt → Felt} (hf : ∀ x : Felt, x.canvasLog.length ≤ 512 → (f x).canvasLog.length ≤ 512) (hb : QueuesFit b) : QueuesFit (b.onFelt f) := ⟨hb.1, hb.2, hb.3, hb.4, hf _ hb.5⟩

theorem linen_bnd {b : Blk} {f : Linen → Linen} (hf : LinenFits b.linen → LinenFits (f b.linen)) (hb : QueuesFit b) : QueuesFit (b.onLinen f) := ⟨hb.1, hb.2, hf hb.3, hb.4, hb.5⟩

theorem onLog_fits {s : HeadSt} {l : EvLog} {f : EvLogSt → EvLogSt} (hf : ∀ x, LogFits x → LogFits (f x)) (h : HeadFits s) : HeadFits (s.onLog l f) := by
  obtain ⟨h1, h2, h3, h4, h5, h6, h7⟩ := h
  cases l
  · exact ⟨h1, h2, hf _ h3, h4, h5, h6, h7⟩
  · exact ⟨h1, h2, h3, hf _ h4, h5, h6, h7⟩
  · exact ⟨h1, h2, h3, h4, hf _ h5, h6, h7⟩
  · exact ⟨h1, h2, h3, h4, h5, hf _ h6, h7⟩
  · exact ⟨h1, h2, h3, h4, h5, h6, hf _ h7⟩

theorem logPut_fits (r : EvRec) (x : EvLogSt) (h : LogFits x) : LogFits (logPut x r) := by
  unfold logPut LogFits at *
  split
  · simp only [List.length_append, List.length_singleton]; omega
  · exact h

theorem linkChange_bnd {b : Blk} {h : Head} {f : HeadSt → HeadSt} (hf : HeadFits (b.head h) → HeadFits (f (b.head h))) (hb : QueuesFit b) : QueuesFit (b.linkChange h f) := by
  unfold Blk.linkChange
  extract_lets c col
  refine bnd_foldl (fun x g hx => ?_) _ _ (head_bnd hf hb)
  extract_lets i
  exact bnd_ite hx (keep_bnd (Blk.bump_only (m₀ := [.od]) _ _ _ _ (by decide) (only_refl _ _)) (by decide) hx)

theorem canPump_fit (n : Nat) {b : Blk} (h₀ : QueuesFit b) : QueuesFit (Blk.canPump n b) := by
  induction n generalizing b with
  | zero => exact h₀
  | succ n ih =>
    unfold Blk.canPump
    extract_lets b1
    have h1 : QueuesFit b1 := bnd_ite (can_bnd (fun h => h) h₀) h₀
    clear_value b1
    split
    · exact h1
    · rename_i f rest hn
      refine bnd_ite (ih (keep_bnd (Blk.emit_only (m₀ := [.out]) _ _ (by decide) (only_refl _ _)) (by decide) (can_bnd (fun h => ?_) h1))) h1
      rw [hn] at h; simp only [List.length_cons] at h ⊢; omega

theorem find_mem_len {l : List LRec} {sev : Nat} {sp : List Nat} {v : LRec} (h : victimOf l sev sp = some v) : (dropSeq l v.seq).length < l.length := by
  have hm : v ∈ l := List.mem_of_find?_eq_some h
  unfold dropSeq
  exact List.length_filter_lt_length_iff_exists.2 ⟨v, hm, by simp⟩

theorem overwrote_fits {l : Linen} {n : Nat} (h : LinenFits l) : LinenFits (l.overwrote n) := by
  unfold Linen.overwrote; split <;> exact h

theorem bnd_ite' {p : Prop} [Decidable p] {b c : Blk} (hb : p → QueuesFit b) (hc : ¬ p → QueuesFit c) : QueuesFit (if p then b else c) := by
  split <;> simp_all

theorem passOver_fits (t : Tweed) (p : Nat) (s : HeadSt) (h : HeadFits s) : HeadFits (t.passOver p s) := by
  unfold Tweed.passOver; (try extract_lets); (repeat' split) <;> exact h

theorem place_fit {b : Blk} {h : Head} {r : Req} {n m : Nat} (hl : (b.head h).ingress.length < 1024) (h₀ : QueuesFit b) :
    QueuesFit (b.onHead h fun s => { s with ingress := s.ingress ++ [r], high := n, dlPeak := m }) :=
  head_bnd (fun h => ⟨by simp only [List.length_append, List.length_singleton]; omega, h.2⟩) h₀

theorem takes_room {b : Blk} {h : Head} (ht : b.takes h = true) : (b.head h).ingress.length < 1024 := by
  unfold Blk.takes at ht
  simp only [Bool.and_eq_true, decide_eq_true_eq] at ht
  exact ht.2

theorem bnd_foldl_pair {α β : Type} {f : Blk × β → α → Blk × β} (hf : ∀ c x, QueuesFit c.1 → QueuesFit (f c x).1) (l : List α) (b : Blk × β) (hb : QueuesFit b.1) : QueuesFit (l.foldl f b).1 := by
  induction l generalizing b with
  | nil => exact hb
  | cons x l ih => exact ih _ (hf _ _ hb)

theorem off_fits (x : HeadSt) (k : Bool) : HeadFits (x.off k) := by
  unfold HeadSt.off; split <;> exact ⟨Nat.zero_le _, Nat.zero_le _, Nat.zero_le _, Nat.zero_le _, Nat.zero_le _, Nat.zero_le _, Nat.zero_le _⟩

theorem nextHint_len {l rest : List (Nat × Nat)} {n : Nat} (h : nextHint l = some (n, rest)) : rest.length ≤ l.length := by
  unfold nextHint at h
  split at h
  · cases h
  · injection h with h; injection h with _ h; subst h; split <;> simp

theorem pumpSegments_fit (n : Nat) {b : Blk} (h₀ : QueuesFit b) : QueuesFit (Blk.pumpSegments n b) := by
  induction n generalizing b with
  | zero => exact h₀
  | succ n ih =>
    unfold Blk.pumpSegments
    split
    · exact h₀
    · extract_lets
      exact bnd_ite (ih (keep_bnd (Blk.canSend_only (m₀ := [.out]) _ _ (by decide) (only_refl _ _)) (by decide) (can_bnd (fun h => h) h₀))) h₀

theorem Blk.logTo_bnd (b : Blk) (h : Head) (l : EvLog) (r : EvRec) (h₀ : QueuesFit b) : QueuesFit (Blk.logTo b h l r) := by
  unfold Blk.logTo
  extract_lets n b1
  have h1 : QueuesFit b1 := head_bnd (fun h => onLog_fits (logPut_fits _) h) h₀
  clear_value b1
  split
  · exact keep_bnd (Blk.raise_only (m₀ := [.out]) _ _ _ (by decide) (only_refl _ _)) (by decide) h1
  · exact h1

theorem Blk.notify_bnd (b : Blk) (sev : Nat) (code : BitVec 16) (cls : BitVec 8) (unit : BitVec 16) (seq : Nat) (dpa : Option Nat) (h₀ : QueuesFit b) : QueuesFit (Blk.notify b sev code cls unit seq dpa) := by
  unfold Blk.notify
  split
  · extract_lets f b1
    refine canPump_fit _ ?_
    refine bnd_ite' (fun hl => ?_) (fun hl => ?_)
    · refine keep_bnd (Blk.bump_only (m₀ := [.od]) _ _ _ _ (by decide) (only_refl _ _)) (by decide) (can_bnd (fun h => ?_) h₀)
      simp only [List.length_append, List.length_tail, List.length_singleton]; omega
    · refine can_bnd (fun h => ?_) h₀
      simp only [List.length_append, List.length_singleton]; omega
  · exact h₀

theorem Blk.deliver_bnd (b : Blk) (r : LRec) (storm second : Nat) (h₀ : QueuesFit b) : QueuesFit (Blk.deliver b r storm second) := by
  unfold Blk.deliver
  repeat (first | with_reducible assumption | (with_reducible apply Blk.logTo_bnd) | (with_reducible apply Blk.notify_bnd) | (with_reducible refine bnd_foldl (fun c x hc => ?_) _ _ ?_) | extract_lets | split | (dsimp +zetaDelta only))

theorem Blk.stageRec_bnd (b : Blk) (r : LRec) (h₀ : QueuesFit b) : QueuesFit (Blk.stageRec b r) := by
  unfold Blk.stageRec
  split
  · rename_i hl
    exact linen_bnd (fun h => ⟨by simp only [List.length_append, List.length_singleton]; omega, h.2.1, h.2.2⟩) h₀
  · split
    · rename_i v hv
      refine linen_bnd (fun h => overwrote_fits ⟨?_, h.2.1, h.2.2⟩) h₀
      have := find_mem_len hv
      have := h.1
      simp only [List.length_append, List.length_singleton]; omega
    · exact keep_bnd (Blk.drop_only (m₀ := [.od]) _ _ (by decide) (only_refl _ _)) (by decide) h₀

theorem Blk.ringRec_bnd (b : Blk) (r : LRec) (h₀ : QueuesFit b) : QueuesFit (Blk.ringRec b r) := by
  unfold Blk.ringRec
  split
  · exact linen_bnd (fun h => h) h₀
  · split
    · exact linen_bnd (fun h => overwrote_fits h) h₀
    · exact keep_bnd (Blk.drop_only (m₀ := [.od]) _ _ (by decide) (only_refl _ _)) (by decide) h₀

theorem Blk.ringNext_bnd (b : Blk) (h₀ : QueuesFit b) : QueuesFit (Blk.ringNext b) := by
  unfold Blk.ringNext
  split
  · exact h₀
  · rename_i n rest hn
    extract_lets b1
    have h1 : QueuesFit b1 := linen_bnd (fun h => ⟨h.1, by have h2 := h.2.1; rw [hn] at h2; exact Nat.le_of_succ_le h2, h.2.2⟩) h₀
    split
    · exact Blk.ringRec_bnd _ _ h1
    · exact h1

theorem Blk.admitRec_bnd (b : Blk) (n : Nat) (h₀ : QueuesFit b) : QueuesFit (Blk.admitRec b n) := by
  unfold Blk.admitRec
  extract_lets b1
  have h1 : QueuesFit b1 := bnd_ite (Blk.ringNext_bnd _ h₀) h₀
  refine linen_bnd (fun h => ⟨h.1, ?_, h.2.2⟩) h1
  suffices b1.linen.waiting.length ≤ 31 by simp only [List.length_append, List.length_singleton]; omega
  have hw := h₀.3.2.1
  show (if 32 ≤ b.linen.waiting.length then b.ringNext else b).linen.waiting.length ≤ 31
  split
  · unfold Blk.ringNext
    split
    · rename_i h; simp only [h, List.length_nil]; omega
    · rename_i n rest hn
      have hr : ∀ (c : Blk) (r : LRec), (c.ringRec r).linen.waiting = c.linen.waiting := by
        intro c r
        unfold Blk.ringRec
        split
        · rfl
        · split
          · simp only [Blk.onLinen_linen, Linen.overwrote]; split <;> rfl
          · have h := (Blk.drop_only (m₀ := [.od]) c r.sev (by decide) (only_refl _ _)).same .linen (by decide)
            simp only [same] at h; rw [h]
      extract_lets b1
      have hb1 : b1.linen.waiting = rest := rfl
      rw [hn] at hw; simp only [List.length_cons] at hw
      split
      · rw [hr, hb1]; omega
      · rw [hb1]; omega
  · omega

theorem Blk.bump_bnd (b : Blk) (idx sub n : Nat) (h₀ : QueuesFit b) : QueuesFit (Blk.bump b idx sub n) :=
  keep_bnd (Blk.bump_only (m₀ := [.od]) b idx sub n (by decide) (only_refl _ _)) (by decide) h₀

theorem Blk.createRec_bnd (b : Blk) (r : LRec) (h₀ : QueuesFit b) : QueuesFit (Blk.createRec b r) := by
  unfold Blk.createRec
  extract_lets meets token toRing noTok n rec1 b1 b2 b3
  have h1 : QueuesFit b1 := linen_bnd (fun h => ⟨h.1, h.2.1, by
    have := h.2.2
    show (if token = true then b.linen.tokens - 1 else b.linen.tokens) ≤ 64
    split <;> omega⟩) h₀
  clear_value b1
  have h2 : QueuesFit b2 := bnd_ite (keep_bnd (Blk.bump_only (m₀ := [.od]) _ _ _ _ (by decide) (only_refl _ _)) (by decide) h1) h1
  clear_value b2
  have h3 : QueuesFit b3 := Blk.stageRec_bnd _ _ h2
  exact bnd_ite (Blk.admitRec_bnd _ _ h3) (bnd_ite (Blk.ringRec_bnd _ _ h3) h3)

theorem Blk.reportOnce_bnd (b : Blk) (q : Report) (h₀ : QueuesFit b) : QueuesFit (Blk.reportOnce b q) := by
  unfold Blk.reportOnce
  repeat (first | with_reducible assumption | ((with_reducible apply linen_bnd) <;> [(intro h; exact h); skip]) | (with_reducible apply Blk.bump_bnd) | (with_reducible apply Blk.deliver_bnd) | (with_reducible apply Blk.createRec_bnd) | with_reducible apply bnd_ite | extract_lets | split | (dsimp +zetaDelta only))

theorem Blk.report_bnd (b : Blk) (q : Report) (h₀ : QueuesFit b) : QueuesFit (Blk.report b q) := by
  unfold Blk.report
  repeat (first | with_reducible assumption | (with_reducible apply Blk.reportOnce_bnd) | with_reducible apply bnd_ite | extract_lets | (dsimp +zetaDelta only))

theorem Blk.reportUnit_bnd (b : Blk) (code : BitVec 16) (cls : BitVec 8) (unit : Nat) (dpa : Option Nat := none) (h₀ : QueuesFit b) : QueuesFit (Blk.reportUnit b code cls unit dpa) := by
  unfold Blk.reportUnit
  repeat (first | with_reducible assumption | (with_reducible apply Blk.report_bnd))

theorem Blk.closeWindow_bnd (b : Blk) (w : Window) (h₀ : QueuesFit b) : QueuesFit (Blk.closeWindow b w) := by
  unfold Blk.closeWindow
  repeat (first | with_reducible assumption | ((with_reducible apply linen_bnd) <;> [(intro h; exact h); skip]) | (with_reducible apply Blk.bump_bnd) | (with_reducible apply Blk.deliver_bnd) | (with_reducible apply Blk.createRec_bnd) | with_reducible apply bnd_ite | extract_lets | split | (dsimp +zetaDelta only))

theorem Blk.mbReply_bnd (b : Blk) (h : Head) (op : Nat) (rc : Rc) (out : List Nat) (h₀ : QueuesFit b) : QueuesFit (Blk.mbReply b h op rc out) :=
  keep_bnd (Blk.mbReply_only (m₀ := [.out]) b h op rc out (by decide) (only_refl _ _)) (by decide) h₀

theorem Blk.canSend_bnd (b : Blk) (f : BitVec 512) (h₀ : QueuesFit b) : QueuesFit (Blk.canSend b f) :=
  keep_bnd (Blk.canSend_only (m₀ := [.out]) b f (by decide) (only_refl _ _)) (by decide) h₀

theorem Blk.reply_bnd (b : Blk) (src : Src) (r : Reply) (h₀ : QueuesFit b) : QueuesFit (Blk.reply b src r) := by
  unfold Blk.reply
  repeat (first | with_reducible assumption | ((with_reducible apply can_bnd) <;> [(intro h; exact h); skip]) | (with_reducible apply Blk.mbReply_bnd) | (with_reducible apply Blk.canSend_bnd) | (exact ⟨h₀.1, h₀.2, h₀.3, h₀.4, h₀.5⟩) | with_reducible apply bnd_ite | extract_lets | split | (dsimp +zetaDelta only) | exact h₀)

theorem Blk.onTweed_bnd (b : Blk) (f : Tweed → Tweed) (h₀ : QueuesFit b) : QueuesFit (Blk.onTweed b f) :=
  keep_bnd (Blk.onTweed_only (m₀ := [.tweed]) b f (by decide) (only_refl _ _)) (by decide) h₀

theorem Blk.ringLine_bnd (b : Blk) (items : List (BitVec 32 × Bool)) (h₀ : QueuesFit b) : QueuesFit (Blk.ringLine b items) := by
  unfold Blk.ringLine
  extract_lets p b1 b2 hs
  have h1 : QueuesFit b1 := hB_bnd (fun h => passOver_fits _ _ _ h) (hA_bnd (fun h => passOver_fits _ _ _ h) h₀)
  clear_value b1
  repeat (first | with_reducible assumption | ((with_reducible apply hA_bnd) <;> [(intro h; exact h); skip]) | ((with_reducible apply hB_bnd) <;> [(intro h; exact h); skip]) | (with_reducible apply Blk.onTweed_bnd) | (with_reducible apply Blk.reportUnit_bnd) | (with_reducible refine bnd_foldl (fun c x hc => ?_) _ _ ?_) | with_reducible apply bnd_ite)

theorem drainItems_fit (n : Nat) {b : Blk} {l : List (BitVec 32 × Bool)} (h₀ : QueuesFit b) : QueuesFit (Blk.drainItems n b l) := by
  induction n generalizing b l with
  | zero => exact h₀
  | succ n ih =>
    cases l with
    | nil => exact h₀
    | cons x l => exact ih (Blk.ringLine_bnd _ _ h₀)

theorem Blk.bankSwap_bnd (b : Blk) (h₀ : QueuesFit b) : QueuesFit b.bankSwap := by
  unfold Blk.bankSwap
  exact drainItems_fit _ (keep_bnd (Blk.onTweed_only (m₀ := [.tweed]) _ _ (by decide) (only_refl _ _)) (by decide) h₀)

theorem Blk.pushItem_bnd (b : Blk) (x : BitVec 32 × Bool) (h₀ : QueuesFit b) : QueuesFit (Blk.pushItem b x) := by
  unfold Blk.pushItem
  repeat (first | with_reducible assumption | (with_reducible apply Blk.onTweed_bnd) | (with_reducible apply Blk.bankSwap_bnd) | with_reducible apply bnd_ite | extract_lets | (dsimp +zetaDelta only))

theorem Blk.pushPacket_bnd (b : Blk) (type source : Nat) (items : List (BitVec 32)) (h₀ : QueuesFit b) : QueuesFit (Blk.pushPacket b type source items) := by
  unfold Blk.pushPacket
  repeat (first | with_reducible assumption | (with_reducible apply Blk.pushItem_bnd) | (with_reducible refine bnd_foldl (fun c x hc => ?_) _ _ ?_))

theorem Blk.useFree_bnd (b : Blk) (h₀ : QueuesFit b) : QueuesFit (Blk.useFree b) :=
  keep_bnd (Blk.useFree_only (m₀ := [.free]) b (by decide) (only_refl _ _)) (by decide) h₀

theorem Blk.sampleOut_bnd (b : Blk) (x : Acc) (poison : Bool) (h₀ : QueuesFit b) : QueuesFit (Blk.sampleOut b x poison) := by
  unfold Blk.sampleOut
  repeat (first | with_reducible assumption | (with_reducible apply Blk.useFree_bnd) | (with_reducible apply Blk.bump_bnd) | (with_reducible apply Blk.pushPacket_bnd) | with_reducible apply bnd_ite | extract_lets | (dsimp +zetaDelta only))

theorem Blk.onMuslin_bnd (b : Blk) (f : Muslin → Muslin) (h₀ : QueuesFit b) : QueuesFit (Blk.onMuslin b f) :=
  keep_bnd (Blk.onMuslin_only (m₀ := [.muslin]) b f (by decide) (only_refl _ _)) (by decide) h₀

theorem Blk.odSet_bnd (b : Blk) (idx sub v : Nat) (h₀ : QueuesFit b) : QueuesFit (Blk.odSet b idx sub v) :=
  keep_bnd (Blk.odSet_only (m₀ := [.od]) b idx sub v (by decide) (only_refl _ _)) (by decide) h₀

theorem Blk.discardStaged_bnd (b : Blk) (result rule : Nat) (h₀ : QueuesFit b) : QueuesFit (Blk.discardStaged b result rule) := by
  unfold Blk.discardStaged
  repeat (first | with_reducible assumption | (with_reducible apply Blk.onMuslin_bnd) | (with_reducible apply Blk.odSet_bnd) | (with_reducible apply Blk.reply_bnd) | extract_lets | split | (dsimp +zetaDelta only))

theorem Blk.onModes_bnd (b : Blk) (f : Modes → Modes) (h₀ : QueuesFit b) : QueuesFit (Blk.onModes b f) :=
  keep_bnd (Blk.onModes_only (m₀ := [.modes]) b f (by decide) (only_refl _ _)) (by decide) h₀

theorem Blk.gateCount_bnd (b : Blk) (old new : Nat) (h₀ : QueuesFit b) : QueuesFit (Blk.gateCount b old new) :=
  keep_bnd (Blk.gateCount_only (m₀ := [.od]) b old new (by decide) (only_refl _ _)) (by decide) h₀

theorem Blk.faultPin_bnd (b : Blk) (h₀ : QueuesFit b) : QueuesFit (Blk.faultPin b) :=
  keep_bnd (Blk.faultPin_only (m₀ := [.modes]) b (by decide) (only_refl _ _)) (by decide) h₀

theorem Blk.setConditions_bnd (b : Blk) (f : BitVec 12 → BitVec 12) (h₀ : QueuesFit b) : QueuesFit (Blk.setConditions b f) := by
  unfold Blk.setConditions
  repeat (first | with_reducible assumption | (with_reducible apply Blk.onMuslin_bnd) | (with_reducible apply Blk.onModes_bnd) | (with_reducible apply Blk.report_bnd) | (with_reducible apply Blk.pushPacket_bnd) | (with_reducible apply Blk.discardStaged_bnd) | (with_reducible apply Blk.gateCount_bnd) | (with_reducible apply Blk.faultPin_bnd) | with_reducible apply bnd_ite | extract_lets | (dsimp +zetaDelta only))

theorem Blk.enter_bnd (b : Blk) (n : Nat) (h₀ : QueuesFit b) : QueuesFit (Blk.enter b n) := by
  unfold Blk.enter
  repeat (first | with_reducible assumption | (with_reducible apply Blk.setConditions_bnd))

theorem Blk.leave_bnd (b : Blk) (n : Nat) (h₀ : QueuesFit b) : QueuesFit (Blk.leave b n) := by
  unfold Blk.leave
  repeat (first | with_reducible assumption | (with_reducible apply Blk.setConditions_bnd))

theorem Blk.degrade_bnd (b : Blk) (bit : Nat) (on : Bool) (h₀ : QueuesFit b) : QueuesFit (Blk.degrade b bit on) := by
  unfold Blk.degrade
  repeat (first | with_reducible assumption | (with_reducible apply Blk.onModes_bnd) | (with_reducible apply Blk.enter_bnd) | (with_reducible apply Blk.leave_bnd) | with_reducible apply bnd_ite | extract_lets | (dsimp +zetaDelta only))

theorem Blk.onDev_bnd (b : Blk) (f : Device → Device) (h₀ : QueuesFit b) : QueuesFit (Blk.onDev b f) :=
  keep_bnd (Blk.onDev_only (m₀ := [.dev]) b f (by decide) (only_refl _ _)) (by decide) h₀

theorem Blk.healthCheck_bnd (b : Blk) (h₀ : QueuesFit b) : QueuesFit (Blk.healthCheck b) := by
  unfold Blk.healthCheck
  repeat (first | with_reducible assumption | (with_reducible apply Blk.onDev_bnd) | (with_reducible apply Blk.report_bnd) | with_reducible apply bnd_ite | extract_lets | (dsimp +zetaDelta only))

theorem Blk.onTwill_bnd (b : Blk) (f : Twill → Twill) (h₀ : QueuesFit b) : QueuesFit (Blk.onTwill b f) :=
  keep_bnd (Blk.onTwill_only (m₀ := [.twill]) b f (by decide) (only_refl _ _)) (by decide) h₀

theorem Blk.lifeCheck_bnd (b : Blk) (h₀ : QueuesFit b) : QueuesFit (Blk.lifeCheck b) := by
  unfold Blk.lifeCheck
  repeat (first | with_reducible assumption | (with_reducible apply Blk.onTwill_bnd) | (with_reducible apply Blk.report_bnd) | (with_reducible apply Blk.enter_bnd) | (with_reducible apply Blk.leave_bnd) | (with_reducible apply Blk.healthCheck_bnd) | with_reducible apply bnd_ite | extract_lets | (dsimp +zetaDelta only))

theorem Blk.twHead_bnd (b : Blk) (h : Head) (off c : Nat) (h₀ : QueuesFit b) : QueuesFit (Blk.twHead b h off c) :=
  keep_bnd (Blk.twHead_only (m₀ := [.tweed]) b h off c (by decide) (only_refl _ _)) (by decide) h₀

theorem Blk.twHost_bnd (b : Blk) (h : Head) (event c : Nat) (h₀ : QueuesFit b) : QueuesFit (Blk.twHost b h event c) :=
  keep_bnd (Blk.twHost_only (m₀ := [.tweed]) b h event c (by decide) (only_refl _ _)) (by decide) h₀

theorem Blk.endAcc_bnd (b : Blk) (x : Acc) (h₀ : QueuesFit b) : QueuesFit (Blk.endAcc b x) :=
  keep_bnd (Blk.endAcc_only (m₀ := [.path]) b x (by decide) (only_refl _ _)) (by decide) h₀

theorem Blk.respond_bnd (b : Blk) (x : Acc) (o : Output) (h₀ : QueuesFit b) : QueuesFit (Blk.respond b x o) :=
  keep_bnd (Blk.respond_only (m₀ := [.out, .od]) b x o (by decide) (only_refl _ _)) (by decide) h₀

theorem Blk.finishRead_bnd (b : Blk) (x : Acc) (data : Option Half) (h₀ : QueuesFit b) : QueuesFit (Blk.finishRead b x data) := by
  unfold Blk.finishRead
  repeat (first | with_reducible assumption | (with_reducible apply Blk.twHead_bnd) | (with_reducible apply Blk.twHost_bnd) | (with_reducible apply Blk.sampleOut_bnd) | (with_reducible apply Blk.endAcc_bnd) | (with_reducible apply Blk.respond_bnd) | with_reducible apply bnd_ite | extract_lets | (dsimp +zetaDelta only))

theorem Blk.finishWrite_bnd (b : Blk) (x : Acc) (h₀ : QueuesFit b) : QueuesFit (Blk.finishWrite b x) := by
  unfold Blk.finishWrite
  repeat (first | with_reducible assumption | (with_reducible apply Blk.mbReply_bnd) | (with_reducible apply Blk.twHead_bnd) | (with_reducible apply Blk.sampleOut_bnd) | (with_reducible apply Blk.endAcc_bnd) | (with_reducible apply Blk.respond_bnd) | with_reducible apply bnd_ite | extract_lets | (dsimp +zetaDelta only))

theorem Blk.onPath_bnd (b : Blk) (f : Path → Path) (h₀ : QueuesFit b) : QueuesFit (Blk.onPath b f) :=
  keep_bnd (Blk.onPath_only (m₀ := [.path]) b f (by decide) (only_refl _ _)) (by decide) h₀

theorem Blk.clearIngress_bnd (b : Blk) (h : Head) (h₀ : QueuesFit b) : QueuesFit (Blk.clearIngress b h) := by
  unfold Blk.clearIngress
  repeat (first | with_reducible assumption | ((with_reducible apply head_bnd) <;> [(intro h; first | exact h | exact ⟨h.1, h.2⟩ | exact ⟨h.1, h.2.1, h.2.2⟩ | exact ⟨Nat.zero_le _, h.2⟩ | exact ⟨h.1, Nat.zero_le _, h.2.2⟩ | exact Nat.zero_le _ | exact ⟨Nat.le_trans (List.length_filter_le _ _) h.1, h.2⟩ | exact ⟨h.1, Nat.le_trans (List.length_filter_le _ _) h.2.1, h.2.2⟩ | exact ⟨by simpa using h.1, h.2⟩ | exact ⟨Nat.zero_le _, Nat.zero_le _, h.2.2⟩ | exact ⟨Nat.le_trans (List.length_filter_le _ _) h.1, Nat.le_trans (List.length_filter_le _ _) h.2.1, h.2.2⟩ | exact ⟨h.1, h.2.1, Nat.min_le_left _ _⟩ | exact onLog_fits (fun _ _ => Nat.zero_le _) h | exact onLog_fits (fun _ h => Nat.le_trans (List.length_filter_le _ _) h) h | (simp only [List.length_take]; exact Nat.min_le_left _ _)); skip]) | (with_reducible apply Blk.onPath_bnd) | extract_lets | (dsimp +zetaDelta only))

theorem Blk.refuse_bnd (b : Blk) (h : Head) (k : ReqKind) (tag : Nat) (h₀ : QueuesFit b) : QueuesFit (Blk.refuse b h k tag) :=
  keep_bnd (Blk.refuse_only (m₀ := [.out, .tweed]) b h k tag (by decide) (only_refl _ _)) (by decide) h₀

theorem Blk.refuseIngress_bnd (b : Blk) (h : Head) (h₀ : QueuesFit b) : QueuesFit (Blk.refuseIngress b h) := by
  unfold Blk.refuseIngress
  repeat (first | with_reducible assumption | (with_reducible apply Blk.refuse_bnd) | (with_reducible apply Blk.clearIngress_bnd) | (with_reducible refine bnd_foldl (fun c x hc => ?_) _ _ ?_))

theorem Blk.stopServe_bnd (b : Blk) (h₀ : QueuesFit b) : QueuesFit (Blk.stopServe b) := by
  unfold Blk.stopServe
  repeat (first | with_reducible assumption | (with_reducible apply Blk.finishRead_bnd) | (with_reducible apply Blk.finishWrite_bnd) | (with_reducible apply Blk.refuseIngress_bnd) | (with_reducible refine bnd_foldl (fun c x hc => ?_) _ _ ?_) | with_reducible apply bnd_ite | extract_lets | (dsimp +zetaDelta only))

theorem Blk.safeStop_bnd (b : Blk) (cause : BitVec 16) (h₀ : QueuesFit b) : QueuesFit (Blk.safeStop b cause) := by
  unfold Blk.safeStop
  repeat (first | with_reducible assumption | (with_reducible apply Blk.onModes_bnd) | (with_reducible apply Blk.stopServe_bnd) | with_reducible apply bnd_ite)

theorem Blk.onSafety_bnd (b : Blk) (f : Safety → Safety) (h₀ : QueuesFit b) : QueuesFit (Blk.onSafety b f) :=
  keep_bnd (Blk.onSafety_only (m₀ := [.safety]) b f (by decide) (only_refl _ _)) (by decide) h₀

theorem Blk.detect_bnd (b : Blk) (mech : Nat) (uncontained : Bool) (h₀ : QueuesFit b) : QueuesFit (Blk.detect b mech uncontained) := by
  unfold Blk.detect
  repeat (first | with_reducible assumption | (with_reducible apply Blk.onSafety_bnd) | (with_reducible apply Blk.odSet_bnd) | (with_reducible apply Blk.bump_bnd) | (with_reducible apply Blk.report_bnd) | (with_reducible apply Blk.safeStop_bnd) | with_reducible apply bnd_ite | extract_lets | (dsimp +zetaDelta only))

theorem Blk.poisonWarn_bnd (b : Blk) (h₀ : QueuesFit b) : QueuesFit (Blk.poisonWarn b) := by
  unfold Blk.poisonWarn
  repeat (first | with_reducible assumption | (with_reducible apply onMedia_bnd <;> [(intro; rfl); skip]) | (with_reducible apply Blk.report_bnd) | with_reducible apply onMedia_bnd | with_reducible apply bnd_ite | extract_lets | (dsimp +zetaDelta only))

theorem Blk.noteChange_bnd (b : Blk) (key : Nat) (h₀ : QueuesFit b) : QueuesFit (Blk.noteChange b key) :=
  keep_bnd (Blk.noteChange_only (m₀ := [.media]) b key (by decide) (only_refl _ _)) (by decide) h₀

theorem Blk.listHalf_bnd (b : Blk) (key : Nat) (src : PSource) (h₀ : QueuesFit b) : QueuesFit (Blk.listHalf b key src) := by
  unfold Blk.listHalf
  repeat (first | with_reducible assumption | (with_reducible apply onMedia_bnd <;> [(intro; rfl); skip]) | (with_reducible apply Blk.bump_bnd) | (with_reducible apply Blk.report_bnd) | (with_reducible apply Blk.safeStop_bnd) | (with_reducible apply Blk.poisonWarn_bnd) | (with_reducible apply Blk.noteChange_bnd) | with_reducible apply onMedia_bnd | with_reducible apply bnd_ite)

theorem Blk.listInternal_bnd (b : Blk) (key : Nat) (code : BitVec 16) (tx : MediaTx := .internal) (addr : Bool := false) (h₀ : QueuesFit b) : QueuesFit (Blk.listInternal b key code tx addr) := by
  unfold Blk.listInternal
  repeat (first | with_reducible assumption | (with_reducible apply Blk.report_bnd) | (with_reducible apply Blk.listHalf_bnd) | with_reducible apply bnd_ite | extract_lets | (dsimp +zetaDelta only))

theorem Blk.poisonLine_bnd (b : Blk) (li : Nat) (code : BitVec 16) (tx : MediaTx := .internal) (addr : Bool := false) (h₀ : QueuesFit b) : QueuesFit (Blk.poisonLine b li code tx addr) := by
  unfold Blk.poisonLine
  repeat (first | with_reducible assumption | (with_reducible apply Blk.listInternal_bnd))

theorem Blk.unlistHalf_bnd (b : Blk) (key : Nat) (h₀ : QueuesFit b) : QueuesFit (Blk.unlistHalf b key) := by
  unfold Blk.unlistHalf
  repeat (first | with_reducible assumption | (with_reducible apply onMedia_bnd <;> [(intro; rfl); skip]) | (with_reducible apply Blk.poisonWarn_bnd) | (with_reducible apply Blk.noteChange_bnd) | with_reducible apply onMedia_bnd | with_reducible apply bnd_ite)

theorem Blk.dpCount_bnd (b : Blk) (d : Dp) (h₀ : QueuesFit b) : QueuesFit (Blk.dpCount b d) := by
  unfold Blk.dpCount
  repeat (first | with_reducible assumption | (with_reducible apply Blk.bump_bnd) | (with_reducible apply Blk.detect_bnd) | split)

theorem Blk.finishReadDp_bnd (b : Blk) (x : Acc) (data : Half) (d : Dp) (h₀ : QueuesFit b) : QueuesFit (Blk.finishReadDp b x data d) := by
  unfold Blk.finishReadDp
  repeat (first | with_reducible assumption | (with_reducible apply Blk.report_bnd) | (with_reducible apply Blk.finishRead_bnd) | (with_reducible apply Blk.dpCount_bnd) | with_reducible apply bnd_ite | extract_lets | (dsimp +zetaDelta only))

theorem Blk.onVelvet_bnd (b : Blk) (f : Velvet → Velvet) (h₀ : QueuesFit b) : QueuesFit (Blk.onVelvet b f) :=
  keep_bnd (Blk.onVelvet_only (m₀ := [.velvet]) b f (by decide) (only_refl _ _)) (by decide) h₀

theorem Blk.maintLine_bnd (b : Blk) (op li : Nat) (passed : Bool) (h₀ : QueuesFit b) : QueuesFit (Blk.maintLine b op li passed).1 :=
  keep_bnd (Blk.maintLine_only (m₀ := [.od, .velvet]) b op li passed (by decide) (only_refl _ _)) (by decide) h₀

theorem Blk.maintOps_bnd (b : Blk) (ops : List LineOp) (h₀ : QueuesFit b) : QueuesFit (Blk.maintOps b ops) := by
  unfold Blk.maintOps
  refine bnd_foldl (fun c x hc => ?_) _ _ h₀
  have h1 := Blk.maintLine_bnd c x.op x.li x.passed hc
  split <;> (rename_i heq; rw [heq] at h1) <;> repeat (first | with_reducible assumption | (with_reducible apply Blk.onVelvet_bnd) | (with_reducible apply Blk.reply_bnd) | (with_reducible apply Blk.maintLine_bnd) | with_reducible apply bnd_ite)

theorem Blk.maintRange_bnd (b : Blk) (op : Nat) (lines : List (Nat × Bool)) (h₀ : QueuesFit b) : QueuesFit (Blk.maintRange b op lines).1 :=
  keep_bnd (Blk.maintRange_only (m₀ := [.od, .velvet]) b op lines (by decide) (only_refl _ _)) (by decide) h₀

theorem Blk.maintain_bnd (b : Blk) (h₀ : QueuesFit b) : QueuesFit (Blk.maintain b) := by
  unfold Blk.maintain
  repeat (first | with_reducible assumption | (with_reducible apply Blk.onVelvet_bnd) | (with_reducible apply Blk.maintRange_bnd) | (with_reducible apply Blk.maintOps_bnd) | extract_lets | split | (dsimp +zetaDelta only))

theorem Blk.serveJoined_bnd (b : Blk) (li : Nat) (h₀ : QueuesFit b) : QueuesFit (Blk.serveJoined b li) := by
  unfold Blk.serveJoined
  repeat (first | with_reducible assumption | (with_reducible apply Blk.finishRead_bnd) | (with_reducible refine bnd_foldl (fun c x hc => ?_) _ _ ?_) | with_reducible apply bnd_ite | extract_lets | split | (dsimp +zetaDelta only))

theorem Blk.putWay_bnd (b : Blk) (key : Nat) (v : VWay) (h₀ : QueuesFit b) : QueuesFit (Blk.putWay b key v) :=
  keep_bnd (Blk.putWay_only (m₀ := [.velvet]) b key v (by decide) (only_refl _ _)) (by decide) h₀

theorem Blk.unqueue_bnd (b : Blk) (rid : Nat) (h₀ : QueuesFit b) : QueuesFit (Blk.unqueue b rid) :=
  keep_bnd (Blk.unqueue_only (m₀ := [.media]) b rid (by decide) (only_refl _ _)) (by decide) h₀

theorem Blk.cancelFill_bnd (b : Blk) (li : Nat) (h₀ : QueuesFit b) : QueuesFit (Blk.cancelFill b li) := by
  unfold Blk.cancelFill
  repeat (first | with_reducible assumption | (with_reducible apply Blk.endAcc_bnd) | (with_reducible apply Blk.putWay_bnd) | (with_reducible apply Blk.unqueue_bnd) | (with_reducible apply Blk.maintain_bnd) | (with_reducible apply Blk.serveJoined_bnd) | extract_lets | split | (dsimp +zetaDelta only))

theorem Blk.touchWay_bnd (b : Blk) (key : Nat) (h₀ : QueuesFit b) : QueuesFit (Blk.touchWay b key) :=
  keep_bnd (Blk.touchWay_only (m₀ := [.velvet]) b key (by decide) (only_refl _ _)) (by decide) h₀

theorem Blk.applyFill_bnd (b : Blk) (li : Nat) (data : Line) (h₀ : QueuesFit b) : QueuesFit (Blk.applyFill b li data) := by
  unfold Blk.applyFill
  repeat (first | with_reducible assumption | (with_reducible apply Blk.putWay_bnd) | (with_reducible apply Blk.touchWay_bnd) | (with_reducible apply Blk.maintain_bnd) | (with_reducible apply Blk.serveJoined_bnd) | with_reducible apply bnd_ite | split)

theorem Blk.dropWay_bnd (b : Blk) (key : Nat) (h₀ : QueuesFit b) : QueuesFit (Blk.dropWay b key) :=
  keep_bnd (Blk.dropWay_only (m₀ := [.velvet]) b key (by decide) (only_refl _ _)) (by decide) h₀

theorem Blk.poisonFill_bnd (b : Blk) (li : Nat) (h₀ : QueuesFit b) : QueuesFit (Blk.poisonFill b li) := by
  unfold Blk.poisonFill
  repeat (first | with_reducible assumption | (with_reducible apply Blk.finishRead_bnd) | (with_reducible apply Blk.putWay_bnd) | (with_reducible apply Blk.dropWay_bnd) | (with_reducible apply Blk.maintain_bnd) | (with_reducible apply Blk.serveJoined_bnd) | (with_reducible refine bnd_foldl (fun c x hc => ?_) _ _ ?_) | with_reducible apply bnd_ite | extract_lets | split | (dsimp +zetaDelta only))

theorem Blk.wearDue_bnd (b : Blk) (r : Nat) (e : RegionEntry) (h₀ : QueuesFit b) : QueuesFit (Blk.wearDue b r e) := by
  unfold Blk.wearDue
  repeat (first | with_reducible assumption | (with_reducible apply Blk.onTwill_bnd) | (with_reducible apply Blk.reportUnit_bnd) | with_reducible apply bnd_ite | extract_lets | split | (dsimp +zetaDelta only))

theorem Blk.setSlot_bnd (b : Blk) (slot : Nat) (x : SlotSt) (h₀ : QueuesFit b) : QueuesFit (Blk.setSlot b slot x) :=
  keep_bnd (Blk.setSlot_only (m₀ := [.twill]) b slot x (by decide) (only_refl _ _)) (by decide) h₀

theorem Blk.putRegion_bnd (b : Blk) (r : Nat) (e : RegionEntry) (h₀ : QueuesFit b) : QueuesFit (Blk.putRegion b r e) :=
  keep_bnd (Blk.putRegion_only (m₀ := [.twill]) b r e (by decide) (only_refl _ _)) (by decide) h₀

theorem Blk.wearUp_bnd (b : Blk) (slot : Nat) (h₀ : QueuesFit b) : QueuesFit (Blk.wearUp b slot) := by
  unfold Blk.wearUp
  repeat (first | with_reducible assumption | (with_reducible apply Blk.onTwill_bnd) | (with_reducible apply Blk.setSlot_bnd) | (with_reducible apply Blk.putRegion_bnd) | (with_reducible apply Blk.wearDue_bnd) | with_reducible apply bnd_ite | extract_lets | split | (dsimp +zetaDelta only))

theorem Blk.foldCount_bnd (b : Blk) (slot : Nat) (h₀ : QueuesFit b) : QueuesFit (Blk.foldCount b slot) := by
  unfold Blk.foldCount
  repeat (first | with_reducible assumption | (with_reducible apply Blk.onTwill_bnd) | (with_reducible apply Blk.putRegion_bnd) | (with_reducible apply Blk.wearUp_bnd) | with_reducible apply bnd_ite | extract_lets | split | (dsimp +zetaDelta only))

theorem Blk.countWrites_bnd (b : Blk) (slot n : Nat) (h₀ : QueuesFit b) : QueuesFit (Blk.countWrites b slot n) := by
  unfold Blk.countWrites
  repeat (first | with_reducible assumption | (with_reducible apply Blk.onTwill_bnd) | (with_reducible apply Blk.foldCount_bnd) | with_reducible apply bnd_ite | extract_lets | split | (dsimp +zetaDelta only))

theorem Blk.storeLine_bnd (b : Blk) (loc : Nat) (x : MLine) (h₀ : QueuesFit b) : QueuesFit (Blk.storeLine b loc x) :=
  keep_bnd (Blk.storeLine_only (m₀ := [.lines]) b loc x (by decide) (only_refl _ _)) (by decide) h₀

theorem Blk.journalRec_bnd (b : Blk) (type : Nat) (items : List Nat) (h₀ : QueuesFit b) : QueuesFit (Blk.journalRec b type items) := by
  unfold Blk.journalRec
  repeat (first | with_reducible assumption | (with_reducible apply Blk.onTwill_bnd) | (with_reducible apply Blk.storeLine_bnd) | (with_reducible apply Blk.countWrites_bnd) | extract_lets | (dsimp +zetaDelta only))

theorem Blk.retireSlot_bnd (b : Blk) (slot wear reason : Nat) (h₀ : QueuesFit b) : QueuesFit (Blk.retireSlot b slot wear reason) := by
  unfold Blk.retireSlot
  repeat (first | with_reducible assumption | (with_reducible apply Blk.onTwill_bnd) | (with_reducible apply Blk.reportUnit_bnd) | (with_reducible apply Blk.setSlot_bnd) | (with_reducible apply Blk.lifeCheck_bnd) | (with_reducible apply Blk.journalRec_bnd) | with_reducible apply bnd_ite)

theorem Blk.retireWaiting_bnd (b : Blk) (h₀ : QueuesFit b) : QueuesFit (Blk.retireWaiting b) := by
  unfold Blk.retireWaiting
  repeat (first | with_reducible assumption | (with_reducible apply Blk.onTwill_bnd) | (with_reducible apply Blk.retireSlot_bnd) | (with_reducible refine bnd_foldl (fun c x hc => ?_) _ _ ?_) | with_reducible apply bnd_ite)

theorem Blk.tw_bnd (b : Blk) (i c : Nat) (h₀ : QueuesFit b) : QueuesFit (Blk.tw b i c) :=
  keep_bnd (Blk.tw_only (m₀ := [.tweed]) b i c (by decide) (only_refl _ _)) (by decide) h₀

theorem Blk.twChan_bnd (b : Blk) (ch event : Nat) (h₀ : QueuesFit b) : QueuesFit (Blk.twChan b ch event) :=
  keep_bnd (Blk.twChan_only (m₀ := [.free, .tweed]) b ch event (by decide) (only_refl _ _)) (by decide) h₀

theorem Blk.onPart_bnd (b : Blk) (pid : Nat) (f : PartSt → PartSt) (h₀ : QueuesFit b) : QueuesFit (Blk.onPart b pid f) :=
  keep_bnd (Blk.onPart_only (m₀ := [.media]) b pid f (by decide) (only_refl _ _)) (by decide) h₀

theorem Blk.sendProgram_bnd (b : Blk) (pid line : Nat) (ovw : Bool) (h₀ : QueuesFit b) : QueuesFit (Blk.sendProgram b pid line ovw) :=
  keep_bnd (Blk.sendProgram_only (m₀ := [.out, .media]) b pid line ovw (by decide) (only_refl _ _)) (by decide) h₀

theorem Blk.startProgram_bnd (b : Blk) (x : Pend) (h₀ : QueuesFit b) : QueuesFit (Blk.startProgram b x) := by
  unfold Blk.startProgram
  repeat (first | with_reducible assumption | (with_reducible apply Blk.tw_bnd) | (with_reducible apply Blk.twChan_bnd) | (with_reducible apply Blk.onPart_bnd) | (with_reducible apply Blk.countWrites_bnd) | (with_reducible apply Blk.sendProgram_bnd) | with_reducible apply bnd_ite | extract_lets | (dsimp +zetaDelta only))

theorem Blk.countTransfers_bnd (b : Blk) (locs : List Nat) (h₀ : QueuesFit b) : QueuesFit (Blk.countTransfers b locs) :=
  keep_bnd (Blk.countTransfers_only (m₀ := [.tweed]) b locs (by decide) (only_refl _ _)) (by decide) h₀

theorem Blk.putOwnLine_bnd (b : Blk) (x : Mem) (type v : Nat) (bytes : List Byte) (h₀ : QueuesFit b) : QueuesFit (Blk.putOwnLine b x type v bytes) := by
  unfold Blk.putOwnLine
  repeat (first | with_reducible assumption | (with_reducible apply Blk.storeLine_bnd) | (with_reducible apply Blk.countWrites_bnd) | (with_reducible apply Blk.countTransfers_bnd) | extract_lets | (dsimp +zetaDelta only))

theorem Blk.program_bnd (b : Blk) (x : Pend) (h₀ : QueuesFit b) : QueuesFit (Blk.program b x) := by
  unfold Blk.program
  repeat (first | with_reducible assumption | (with_reducible apply onMedia_bnd <;> [(intro; rfl); skip]) | (with_reducible apply Blk.startProgram_bnd) | with_reducible apply onMedia_bnd | with_reducible apply bnd_ite)

theorem Blk.pump_bnd (b : Blk) (d : Nat) (h₀ : QueuesFit b) : QueuesFit (Blk.pump b d) := by
  unfold Blk.pump
  repeat (first | with_reducible assumption | (with_reducible apply onMedia_bnd <;> [(intro; rfl); skip]) | (with_reducible apply Blk.startProgram_bnd) | with_reducible apply onMedia_bnd | (with_reducible refine bnd_foldl (fun c x hc => ?_) _ _ ?_) | with_reducible apply bnd_ite)

theorem Blk.nextRow_bnd (b : Blk) (n : Nat) (h₀ : QueuesFit b) : QueuesFit (Blk.nextRow b n) :=
  keep_bnd (Blk.nextRow_only (m₀ := [.twill]) b n (by decide) (only_refl _ _)) (by decide) h₀

theorem Blk.closeStripe_bnd (b : Blk) (n : Nat) (now : Bool := false) (h₀ : QueuesFit b) : QueuesFit (Blk.closeStripe b n now) := by
  unfold Blk.closeStripe
  repeat (first | with_reducible assumption | (with_reducible apply Blk.onTwill_bnd) | (with_reducible apply Blk.storeLine_bnd) | (with_reducible apply Blk.countWrites_bnd) | (with_reducible apply Blk.countTransfers_bnd) | (with_reducible apply Blk.program_bnd) | (with_reducible apply Blk.nextRow_bnd) | (with_reducible refine bnd_foldl (fun c x hc => ?_) _ _ ?_) | with_reducible apply bnd_ite | extract_lets | split | (dsimp +zetaDelta only))

theorem Blk.closeFull_bnd (b : Blk) (slot stripe pos : Nat) (now : Bool := false) (h₀ : QueuesFit b) : QueuesFit (Blk.closeFull b slot stripe pos now) := by
  unfold Blk.closeFull
  repeat (first | with_reducible assumption | (with_reducible apply Blk.closeStripe_bnd) | with_reducible apply bnd_ite | split)

theorem Blk.takePosition_bnd (b : Blk) (li : Nat) (data : Line) (n : Nat) (l : Lane) (h₀ : QueuesFit b) : QueuesFit (Blk.takePosition b li data n l).1 :=
  keep_bnd (Blk.takePosition_only (m₀ := [.twill, .tweed]) b li data n l (by decide) (only_refl _ _)) (by decide) h₀

theorem Blk.setHot_bnd (b : Blk) (li slot stripe pos : Nat) (h₀ : QueuesFit b) : QueuesFit (Blk.setHot b li slot stripe pos) :=
  keep_bnd (Blk.setHot_only (m₀ := [.od, .twill, .damask, .tweed]) b li slot stripe pos (by decide) (only_refl _ _)) (by decide) h₀

theorem Blk.appendNow_bnd (b : Blk) (li : Nat) (data : Line) (n : Nat) (h₀ : QueuesFit b) : QueuesFit (Blk.appendNow b li data n) := by
  unfold Blk.appendNow
  repeat (first | with_reducible assumption | (with_reducible apply Blk.storeLine_bnd) | (with_reducible apply Blk.countWrites_bnd) | (with_reducible apply Blk.countTransfers_bnd) | (with_reducible apply Blk.closeFull_bnd) | (with_reducible apply Blk.takePosition_bnd) | (with_reducible apply Blk.setHot_bnd) | extract_lets | split | (dsimp +zetaDelta only))

theorem Blk.writeNow_bnd (b : Blk) (ws : Writes) (h₀ : QueuesFit b) : QueuesFit (Blk.writeNow b ws) := by
  unfold Blk.writeNow
  repeat (first | with_reducible assumption | (with_reducible apply Blk.storeLine_bnd) | (with_reducible apply Blk.countWrites_bnd) | (with_reducible apply Blk.countTransfers_bnd) | (with_reducible refine bnd_foldl (fun c x hc => ?_) _ _ ?_))

theorem Blk.cleanTag_bnd (b : Blk) (ti : Nat) (h₀ : QueuesFit b) : QueuesFit (Blk.cleanTag b ti) :=
  keep_bnd (Blk.cleanTag_only (m₀ := [.damask]) b ti (by decide) (only_refl _ _)) (by decide) h₀

theorem Blk.flushTag_bnd (b : Blk) (ti : Nat) (h₀ : QueuesFit b) : QueuesFit (Blk.flushTag b ti) := by
  unfold Blk.flushTag
  repeat (first | with_reducible assumption | (with_reducible apply Blk.cleanTag_bnd) | (with_reducible apply Blk.writeNow_bnd) | with_reducible apply bnd_ite)

theorem Blk.putTag_bnd (b : Blk) (ti : Nat) (t : TagLine) (h₀ : QueuesFit b) : QueuesFit (Blk.putTag b ti t) :=
  keep_bnd (Blk.putTag_only (m₀ := [.damask]) b ti t (by decide) (only_refl _ _)) (by decide) h₀

theorem Blk.useTag_bnd (b : Blk) (ti : Nat) (h₀ : QueuesFit b) : QueuesFit (Blk.useTag b ti) :=
  keep_bnd (Blk.useTag_only (m₀ := [.od, .damask, .tweed]) b ti (by decide) (only_refl _ _)) (by decide) h₀

theorem Blk.reencrypt_bnd (b : Blk) (ti : Nat) (epoch : BitVec 8) (major : BitVec 24) (new : Option (Nat × Line)) (h₀ : QueuesFit b) : QueuesFit (Blk.reencrypt b ti epoch major new) := by
  unfold Blk.reencrypt
  repeat (first | with_reducible assumption | (with_reducible apply Blk.putTag_bnd) | (with_reducible apply Blk.useTag_bnd) | (with_reducible apply Blk.poisonLine_bnd) | (with_reducible apply Blk.writeNow_bnd) | (with_reducible apply Blk.flushTag_bnd) | (with_reducible refine bnd_foldl (fun c x hc => ?_) _ _ ?_) | extract_lets | (dsimp +zetaDelta only))

theorem Blk.coldCipher_bnd (b : Blk) (li : Nat) (p : Place) (data : Line) (h₀ : QueuesFit b) : QueuesFit (Blk.coldCipher b li p data).1 :=
  keep_bnd (Blk.coldCipher_only (m₀ := [.od, .damask, .tweed]) b li p data (by decide) (only_refl _ _)) (by decide) h₀

theorem Blk.writeHomeNow_bnd (b : Blk) (li : Nat) (data : Line) (h₀ : QueuesFit b) : QueuesFit (Blk.writeHomeNow b li data) := by
  unfold Blk.writeHomeNow
  repeat (first | with_reducible assumption | (with_reducible apply Blk.bump_bnd) | (with_reducible apply Blk.tw_bnd) | (with_reducible apply Blk.writeNow_bnd) | (with_reducible apply Blk.reencrypt_bnd) | (with_reducible apply Blk.coldCipher_bnd) | with_reducible apply bnd_ite | extract_lets | split | (dsimp +zetaDelta only))

theorem Blk.issueRecord_bnd (b : Blk) (e : Nat × Option PSource) (h₀ : QueuesFit b) : QueuesFit (Blk.issueRecord b e) := by
  unfold Blk.issueRecord
  repeat (first | with_reducible assumption | (with_reducible apply onMedia_bnd <;> [(intro; rfl); skip]) | (with_reducible apply Blk.program_bnd) | with_reducible apply onMedia_bnd | extract_lets | (dsimp +zetaDelta only))

theorem Blk.issueRecords_bnd (b : Blk) (h₀ : QueuesFit b) : QueuesFit (Blk.issueRecords b) := by
  unfold Blk.issueRecords
  repeat (first | with_reducible assumption | (with_reducible apply onMedia_bnd <;> [(intro; rfl); skip]) | (with_reducible apply Blk.issueRecord_bnd) | with_reducible apply onMedia_bnd | (with_reducible refine bnd_foldl (fun c x hc => ?_) _ _ ?_))

theorem Blk.onAcc_bnd (b : Blk) (rid : Nat) (f : Acc → Acc) (h₀ : QueuesFit b) : QueuesFit (Blk.onAcc b rid f) :=
  keep_bnd (Blk.onAcc_only (m₀ := [.path]) b rid f (by decide) (only_refl _ _)) (by decide) h₀

theorem Blk.endWrite_bnd (b : Blk) (x : Acc) (h₀ : QueuesFit b) : QueuesFit (Blk.endWrite b x) := by
  unfold Blk.endWrite
  repeat (first | with_reducible assumption | (with_reducible apply Blk.onAcc_bnd) | (with_reducible apply Blk.finishWrite_bnd) | with_reducible apply bnd_ite)

theorem Blk.recordStored_bnd (b : Blk) (x : Mem) (h₀ : QueuesFit b) : QueuesFit (Blk.recordStored b x) := by
  unfold Blk.recordStored
  repeat (first | with_reducible assumption | (with_reducible apply onMedia_bnd <;> [(intro; rfl); skip]) | (with_reducible apply Blk.onAcc_bnd) | (with_reducible apply Blk.finishWrite_bnd) | with_reducible apply onMedia_bnd | (with_reducible refine bnd_foldl (fun c x hc => ?_) _ _ ?_) | with_reducible apply bnd_ite | extract_lets | (dsimp +zetaDelta only))

theorem Blk.recordAgain_bnd (b : Blk) (x : Mem) (c : MLine) (h₀ : QueuesFit b) : QueuesFit (Blk.recordAgain b x c) := by
  unfold Blk.recordAgain
  repeat (first | with_reducible assumption | (with_reducible apply onMedia_bnd <;> [(intro; rfl); skip]) | (with_reducible apply Blk.onPath_bnd) | (with_reducible apply Blk.program_bnd) | with_reducible apply onMedia_bnd | with_reducible apply bnd_ite | extract_lets | (dsimp +zetaDelta only))

theorem Blk.completeWrites_bnd (b : Blk) (li : Nat) (all : Bool) (h₀ : QueuesFit b) : QueuesFit (Blk.completeWrites b li all) := by
  unfold Blk.completeWrites
  repeat (first | with_reducible assumption | (with_reducible apply Blk.program_bnd) | (with_reducible apply Blk.endWrite_bnd) | (with_reducible refine bnd_foldl (fun c x hc => ?_) _ _ ?_))

theorem Blk.putBuf_bnd (b : Blk) (n : Nat) (x : HBuf) (h₀ : QueuesFit b) : QueuesFit (Blk.putBuf b n x) :=
  keep_bnd (Blk.putBuf_only (m₀ := [.velvet]) b n x (by decide) (only_refl _ _)) (by decide) h₀

theorem Blk.barriersDone_bnd (b : Blk) (li upto : Nat) (h₀ : QueuesFit b) : QueuesFit (Blk.barriersDone b li upto) :=
  keep_bnd (Blk.barriersDone_only (m₀ := [.path]) b li upto (by decide) (only_refl _ _)) (by decide) h₀

theorem Blk.bufferDone_bnd (b : Blk) (n : Nat) (h₀ : QueuesFit b) : QueuesFit (Blk.bufferDone b n) := by
  unfold Blk.bufferDone
  repeat (first | with_reducible assumption | (with_reducible apply Blk.onVelvet_bnd) | (with_reducible apply Blk.putWay_bnd) | (with_reducible apply Blk.putBuf_bnd) | (with_reducible apply Blk.maintain_bnd) | (with_reducible apply Blk.barriersDone_bnd) | (with_reducible apply Blk.completeWrites_bnd) | with_reducible apply bnd_ite | extract_lets | split | (dsimp +zetaDelta only))

theorem Blk.throughDone_bnd (b : Blk) (li since : Nat) (h₀ : QueuesFit b) : QueuesFit (Blk.throughDone b li since) := by
  unfold Blk.throughDone
  repeat (first | with_reducible assumption | (with_reducible apply Blk.putWay_bnd) | (with_reducible apply Blk.maintain_bnd) | (with_reducible apply Blk.program_bnd) | (with_reducible apply Blk.barriersDone_bnd) | (with_reducible apply Blk.completeWrites_bnd) | with_reducible apply bnd_ite | extract_lets | split | (dsimp +zetaDelta only))

theorem Blk.onThermal_bnd (b : Blk) (f : Thermal → Thermal) (h₀ : QueuesFit b) : QueuesFit (Blk.onThermal b f) :=
  keep_bnd (Blk.onThermal_only (m₀ := [.thermal]) b f (by decide) (only_refl _ _)) (by decide) h₀

theorem Blk.slowDown_bnd (b : Blk) (h₀ : QueuesFit b) : QueuesFit (Blk.slowDown b) := by
  unfold Blk.slowDown
  repeat (first | with_reducible assumption | ((with_reducible apply hA_bnd) <;> [(intro h; exact h); skip]) | ((with_reducible apply hB_bnd) <;> [(intro h; exact h); skip]) | (with_reducible apply Blk.onThermal_bnd) | (with_reducible apply Blk.bump_bnd) | (with_reducible apply Blk.report_bnd) | (with_reducible apply Blk.faultPin_bnd) | with_reducible apply bnd_ite)

theorem Blk.onDie_bnd (b : Blk) (d : Nat) (f : DieSt → DieSt) (h₀ : QueuesFit b) : QueuesFit (Blk.onDie b d f) :=
  keep_bnd (Blk.onDie_only (m₀ := [.media]) b d f (by decide) (only_refl _ _)) (by decide) h₀

theorem Blk.coolDie_bnd (b : Blk) (d : Nat) (h₀ : QueuesFit b) : QueuesFit (Blk.coolDie b d) :=
  keep_bnd (Blk.coolDie_only (m₀ := [.out, .media]) b d (by decide) (only_refl _ _)) (by decide) h₀

theorem Blk.dieStatus_bnd (b : Blk) (d : Nat) (alrt : BitVec 7) (tval : Bool) (temp : Int) (h₀ : QueuesFit b) : QueuesFit (Blk.dieStatus b d alrt tval temp) := by
  unfold Blk.dieStatus
  repeat (first | with_reducible assumption | (with_reducible apply Blk.onDie_bnd) | (with_reducible apply Blk.reportUnit_bnd) | (with_reducible apply Blk.slowDown_bnd) | (with_reducible apply Blk.coolDie_bnd) | with_reducible apply bnd_ite | extract_lets | (dsimp +zetaDelta only))

theorem Blk.onDamask_bnd (b : Blk) (f : Damask → Damask) (h₀ : QueuesFit b) : QueuesFit (Blk.onDamask b f) :=
  keep_bnd (Blk.onDamask_only (m₀ := [.damask]) b f (by decide) (only_refl _ _)) (by decide) h₀

theorem Blk.alarmReact_bnd (b : Blk) (r : Nat) (h₀ : QueuesFit b) : QueuesFit (Blk.alarmReact b r) := by
  unfold Blk.alarmReact
  repeat (first | with_reducible assumption | (with_reducible apply Blk.onDamask_bnd) | (with_reducible apply Blk.safeStop_bnd) | split)

theorem Blk.alarmEvent_bnd (b : Blk) (r dpa : Nat) (h₀ : QueuesFit b) : QueuesFit (Blk.alarmEvent b r dpa) := by
  unfold Blk.alarmEvent
  repeat (first | with_reducible assumption | (with_reducible apply Blk.bump_bnd) | (with_reducible apply Blk.report_bnd))

theorem Blk.damaskFailure_bnd (b : Blk) (li : Nat) (h₀ : QueuesFit b) : QueuesFit (Blk.damaskFailure b li) := by
  unfold Blk.damaskFailure
  extract_lets r t b0 slot
  rcases slot with _ | t1 <;> repeat (first | with_reducible assumption | (with_reducible apply Blk.onDamask_bnd) | (with_reducible apply Blk.bump_bnd) | (with_reducible apply Blk.alarmReact_bnd) | (with_reducible apply Blk.alarmEvent_bnd) | with_reducible apply bnd_ite | extract_lets)

theorem Blk.refillDue_bnd (b : Blk) (li : Nat) (h₀ : QueuesFit b) : QueuesFit (Blk.refillDue b li) :=
  keep_bnd (Blk.refillDue_only (m₀ := [.path, .velvet]) b li (by decide) (only_refl _ _)) (by decide) h₀

theorem Blk.lineData_bnd (b : Blk) (rid : Nat) (line : Line) (e : DpErr) (h₀ : QueuesFit b) : QueuesFit (Blk.lineData b rid line e) := by
  unfold Blk.lineData
  repeat (first | with_reducible assumption | (with_reducible apply Blk.onPath_bnd) | (with_reducible apply Blk.endAcc_bnd) | (with_reducible apply Blk.finishRead_bnd) | (with_reducible apply Blk.dpCount_bnd) | (with_reducible apply Blk.finishReadDp_bnd) | (with_reducible apply Blk.applyFill_bnd) | (with_reducible apply Blk.refillDue_bnd) | with_reducible apply bnd_ite | extract_lets | split | (dsimp +zetaDelta only))

theorem Blk.takeSlot_bnd (b : Blk) (x : Mem) (why : ReadFor) (h₀ : QueuesFit b) : QueuesFit (Blk.takeSlot b x why) :=
  keep_bnd (Blk.takeSlot_only (m₀ := [.free, .media, .tweed]) b x why (by decide) (only_refl _ _)) (by decide) h₀

theorem Blk.tagRecon_bnd (b : Blk) (rid ti : Nat) (h₀ : QueuesFit b) : QueuesFit (Blk.tagRecon b rid ti) := by
  unfold Blk.tagRecon
  repeat (first | with_reducible assumption | (with_reducible apply Blk.onAcc_bnd) | (with_reducible apply Blk.takeSlot_bnd) | (with_reducible refine bnd_foldl (fun c x hc => ?_) _ _ ?_) | with_reducible apply bnd_ite | extract_lets | (dsimp +zetaDelta only))

theorem Blk.readTag_bnd (b : Blk) (rid ti : Nat) (h₀ : QueuesFit b) : QueuesFit (Blk.readTag b rid ti) := by
  unfold Blk.readTag
  repeat (first | with_reducible assumption | (with_reducible apply Blk.takeSlot_bnd) | (with_reducible apply Blk.tagRecon_bnd) | with_reducible apply bnd_ite | extract_lets | (dsimp +zetaDelta only))

theorem Blk.awaitTag_bnd (b : Blk) (rid ti : Nat) (held : Bool) (h₀ : QueuesFit b) : QueuesFit (Blk.awaitTag b rid ti held) := by
  unfold Blk.awaitTag
  repeat (first | with_reducible assumption | (with_reducible apply Blk.onAcc_bnd) | (with_reducible apply Blk.readTag_bnd) | with_reducible apply bnd_ite | extract_lets | (dsimp +zetaDelta only))

theorem Blk.enqueue_bnd (b : Blk) (x : Mem) (why : ReadFor) (acceptedAt : Nat) (h₀ : QueuesFit b) : QueuesFit (Blk.enqueue b x why acceptedAt) :=
  keep_bnd (Blk.enqueue_only (m₀ := [.media]) b x why acceptedAt (by decide) (only_refl _ _)) (by decide) h₀

theorem Blk.startRecon_bnd (b : Blk) (rid : Nat) (p : Place) (h₀ : QueuesFit b) : QueuesFit (Blk.startRecon b rid p) :=
  keep_bnd (Blk.startRecon_only (m₀ := [.free, .od, .path, .media, .tweed]) b rid p (by decide) (only_refl _ _)) (by decide) h₀

theorem Blk.readList_bnd (b : Blk) (rid key : Nat) (h₀ : QueuesFit b) : QueuesFit (Blk.readList b rid key) :=
  keep_bnd (Blk.readList_only (m₀ := [.free, .path, .media, .tweed]) b rid key (by decide) (only_refl _ _)) (by decide) h₀

theorem Blk.startRead_bnd (b0 : Blk) (rid : Nat) (h₀ : QueuesFit b0) : QueuesFit (Blk.startRead b0 rid) := by
  unfold Blk.startRead
  repeat (first | with_reducible assumption | (with_reducible apply Blk.report_bnd) | (with_reducible apply Blk.useTag_bnd) | (with_reducible apply Blk.onAcc_bnd) | (with_reducible apply Blk.finishRead_bnd) | (with_reducible apply Blk.enqueue_bnd) | (with_reducible apply Blk.startRecon_bnd) | (with_reducible apply Blk.refillDue_bnd) | (with_reducible apply Blk.lineData_bnd) | (with_reducible apply Blk.awaitTag_bnd) | (with_reducible apply Blk.readList_bnd) | with_reducible apply bnd_ite | extract_lets | split | (dsimp +zetaDelta only))

theorem Blk.startFill_bnd (b : Blk) (h : Head) (li : Nat) (kind : ReqKind) (parts : List Nat) (h₀ : QueuesFit b) : QueuesFit (Blk.startFill b h li kind parts) := by
  unfold Blk.startFill
  repeat (first | with_reducible assumption | (with_reducible apply Blk.onPath_bnd) | (with_reducible apply Blk.startRead_bnd) | extract_lets | (dsimp +zetaDelta only))

theorem Blk.poisonRest_bnd (b : Blk) (d : Deep) (h₀ : QueuesFit b) : QueuesFit (Blk.poisonRest b d) := by
  unfold Blk.poisonRest
  repeat (first | with_reducible assumption | (with_reducible apply Blk.listInternal_bnd) | with_reducible apply bnd_ite | extract_lets | (dsimp +zetaDelta only))

theorem Blk.answerDeep_bnd (b : Blk) (x : Acc) (h₀ : QueuesFit b) : QueuesFit (Blk.answerDeep b x) := by
  unfold Blk.answerDeep
  repeat (first | with_reducible assumption | (with_reducible apply Blk.finishRead_bnd) | with_reducible apply bnd_ite | split)

theorem Blk.countHolds_bnd (b : Blk) (h : Head) (new : Nat) (h₀ : QueuesFit b) : QueuesFit (Blk.countHolds b h new) := by
  unfold Blk.countHolds
  repeat (first | with_reducible assumption | ((with_reducible apply head_bnd) <;> [(intro h; exact h); skip]) | (with_reducible apply Blk.bump_bnd) | (with_reducible apply Blk.twHead_bnd) | with_reducible apply bnd_ite | extract_lets | (dsimp +zetaDelta only))

theorem Blk.noteHolds_bnd (b : Blk) (h : Head) (r : Req) (h₀ : QueuesFit b) : QueuesFit (Blk.noteHolds b h r) := by
  unfold Blk.noteHolds
  repeat (first | with_reducible assumption | ((with_reducible apply head_bnd) <;> [(intro h; first | exact h | exact ⟨h.1, h.2⟩ | exact ⟨h.1, h.2.1, h.2.2⟩ | exact ⟨Nat.zero_le _, h.2⟩ | exact ⟨h.1, Nat.zero_le _, h.2.2⟩ | exact Nat.zero_le _ | exact ⟨Nat.le_trans (List.length_filter_le _ _) h.1, h.2⟩ | exact ⟨h.1, Nat.le_trans (List.length_filter_le _ _) h.2.1, h.2.2⟩ | exact ⟨by simpa using h.1, h.2⟩ | exact ⟨Nat.zero_le _, Nat.zero_le _, h.2.2⟩ | exact ⟨Nat.le_trans (List.length_filter_le _ _) h.1, Nat.le_trans (List.length_filter_le _ _) h.2.1, h.2.2⟩ | exact ⟨h.1, h.2.1, Nat.min_le_left _ _⟩ | exact onLog_fits (fun _ _ => Nat.zero_le _) h | exact onLog_fits (fun _ h => Nat.le_trans (List.length_filter_le _ _) h) h | (simp only [List.length_take]; exact Nat.min_le_left _ _)); skip]) | (with_reducible apply Blk.countHolds_bnd) | with_reducible apply bnd_ite | extract_lets | (dsimp +zetaDelta only))

theorem Blk.loseHalf_bnd (b : Blk) (k : Nat) (v : VWay) (i : Bool) (code : BitVec 16) (tx : MediaTx) (addr : Bool) (h₀ : QueuesFit b) : QueuesFit (Blk.loseHalf b k v i code tx addr) := by
  unfold Blk.loseHalf
  repeat (first | with_reducible assumption | (with_reducible apply Blk.onVelvet_bnd) | (with_reducible apply Blk.listInternal_bnd) | extract_lets | (dsimp +zetaDelta only))

theorem Blk.velvetCheck_bnd (b : Blk) (li : Nat) (e : DpErr) (h₀ : QueuesFit b) : QueuesFit (Blk.velvetCheck b li e) := by
  unfold Blk.velvetCheck
  repeat (first | with_reducible assumption | (with_reducible apply Blk.dpCount_bnd) | (with_reducible apply Blk.dropWay_bnd) | (with_reducible apply Blk.loseHalf_bnd) | with_reducible apply bnd_ite | extract_lets | split | (dsimp +zetaDelta only))

theorem Blk.egress_bnd (b : Blk) (li : Nat) (data : Line) (e : EgressErr) (h₀ : QueuesFit b) : QueuesFit (Blk.egress b li data e).1 := by
  unfold Blk.egress
  repeat (first | with_reducible assumption | (with_reducible apply Blk.listInternal_bnd) | (with_reducible apply Blk.dpCount_bnd) | with_reducible apply bnd_ite | extract_lets | with_reducible apply bnd_ite_fst | dsimp only | (dsimp +zetaDelta only))

theorem Blk.allocate_bnd (b : Blk) (li : Nat) (needClean : Bool) (v : VWay) {r : Blk} (hr : (Blk.allocate b li needClean v) = some r) (h₀ : QueuesFit b) : QueuesFit r :=
  keep_bnd (Blk.allocate_only (m₀ := [.velvet, .tweed]) b li needClean v hr (by decide) (only_refl _ _)) (by decide) h₀

theorem Blk.startDeep_bnd (b : Blk) (rid : Nat) (tagBad : Bool) (h₀ : QueuesFit b) : QueuesFit (Blk.startDeep b rid tagBad) :=
  keep_bnd (Blk.startDeep_only (m₀ := [.od, .path, .tweed]) b rid tagBad (by decide) (only_refl _ _)) (by decide) h₀

theorem Blk.acceptRead_bnd (b0 : Blk) (x : Acc) (e : DpErr) (h₀ : QueuesFit b0) : QueuesFit (Blk.acceptRead b0 x e) := by
  unfold Blk.acceptRead
  repeat (first | with_reducible assumption | (with_reducible apply Blk.bump_bnd) | (with_reducible apply Blk.report_bnd) | (with_reducible apply Blk.twHead_bnd) | (with_reducible apply Blk.twHost_bnd) | (with_reducible apply Blk.onAcc_bnd) | (with_reducible apply Blk.finishRead_bnd) | (with_reducible apply Blk.finishReadDp_bnd) | (with_reducible apply Blk.putWay_bnd) | (with_reducible apply Blk.touchWay_bnd) | (with_reducible refine Blk.allocate_bnd _ _ _ _ (by assumption) ?_) | (with_reducible apply Blk.startRead_bnd) | (with_reducible apply Blk.startDeep_bnd) | (with_reducible apply Blk.velvetCheck_bnd) | with_reducible apply bnd_ite | extract_lets | split | (dsimp +zetaDelta only))

theorem Blk.writePoison_bnd (b : Blk) (x : Acc) (h₀ : QueuesFit b) : QueuesFit (Blk.writePoison b x) := by
  unfold Blk.writePoison
  repeat (first | with_reducible assumption | (with_reducible apply Blk.listHalf_bnd) | (with_reducible apply Blk.unlistHalf_bnd) | with_reducible apply bnd_ite | extract_lets | (dsimp +zetaDelta only))

theorem Blk.mergeWrite_bnd (b : Blk) (x : Acc) (mark : Bool) (h₀ : QueuesFit b) : QueuesFit (Blk.mergeWrite b x mark) := by
  unfold Blk.mergeWrite
  repeat (first | with_reducible assumption | (with_reducible apply Blk.twHead_bnd) | (with_reducible apply Blk.onAcc_bnd) | (with_reducible apply Blk.putWay_bnd) | (with_reducible apply Blk.touchWay_bnd) | (with_reducible apply Blk.putBuf_bnd) | (with_reducible refine Blk.allocate_bnd _ _ _ _ (by assumption) ?_) | (with_reducible apply Blk.cancelFill_bnd) | (with_reducible apply Blk.startFill_bnd) | with_reducible apply bnd_ite | extract_lets | split | (dsimp +zetaDelta only))

theorem Blk.promoteWay_bnd (b : Blk) (li : Nat) (h₀ : QueuesFit b) : QueuesFit (Blk.promoteWay b li) :=
  keep_bnd (Blk.promoteWay_only (m₀ := [.twill]) b li (by decide) (only_refl _ _)) (by decide) h₀

theorem Blk.noteWrite_bnd (b : Blk) (li : Nat) (h₀ : QueuesFit b) : QueuesFit (Blk.noteWrite b li) :=
  keep_bnd (Blk.noteWrite_only (m₀ := [.velvet, .twill]) b li (by decide) (only_refl _ _)) (by decide) h₀

theorem Blk.countCandidate_bnd (b : Blk) (li : Nat) (h₀ : QueuesFit b) : QueuesFit (Blk.countCandidate b li) :=
  keep_bnd (Blk.countCandidate_only (m₀ := [.twill]) b li (by decide) (only_refl _ _)) (by decide) h₀

theorem Blk.deepWritten_bnd (b : Blk) (li : Nat) (i : Bool) (h₀ : QueuesFit b) : QueuesFit (Blk.deepWritten b li i) :=
  keep_bnd (Blk.deepWritten_only (m₀ := [.path]) b li i (by decide) (only_refl _ _)) (by decide) h₀

theorem Blk.acceptWrite_bnd (b : Blk) (x : Acc) (e : DpErr) (h₀ : QueuesFit b) : QueuesFit (Blk.acceptWrite b x e) := by
  unfold Blk.acceptWrite
  repeat (first | with_reducible assumption | (with_reducible apply Blk.report_bnd) | (with_reducible apply Blk.twHead_bnd) | (with_reducible apply Blk.onAcc_bnd) | (with_reducible apply Blk.finishWrite_bnd) | (with_reducible apply Blk.listInternal_bnd) | (with_reducible apply Blk.dpCount_bnd) | (with_reducible apply Blk.promoteWay_bnd) | (with_reducible apply Blk.noteWrite_bnd) | (with_reducible apply Blk.countCandidate_bnd) | (with_reducible apply Blk.program_bnd) | (with_reducible apply Blk.issueRecords_bnd) | (with_reducible apply Blk.endWrite_bnd) | (with_reducible apply Blk.deepWritten_bnd) | (with_reducible apply Blk.writePoison_bnd) | (with_reducible apply Blk.mergeWrite_bnd) | with_reducible apply bnd_ite | extract_lets | (dsimp +zetaDelta only))

theorem Blk.countAccepted_bnd (b : Blk) (h : Head) (r : Req) (h₀ : QueuesFit b) : QueuesFit (Blk.countAccepted b h r) := by
  unfold Blk.countAccepted
  repeat (first | with_reducible assumption | ((with_reducible apply head_bnd) <;> [(intro h; exact h); skip]) | (with_reducible apply Blk.tw_bnd) | (with_reducible apply Blk.twHead_bnd) | (with_reducible apply Blk.twHost_bnd) | with_reducible apply bnd_ite | extract_lets | split | (dsimp +zetaDelta only))

theorem Blk.acceptNow_bnd (b : Blk) (h : Head) (r : Req) (d : DpErr) (h₀ : QueuesFit b) : QueuesFit (Blk.acceptNow b h r d) := by
  unfold Blk.acceptNow
  repeat (first | with_reducible assumption | ((with_reducible apply head_bnd) <;> [(intro h; first | exact h | exact ⟨h.1, h.2⟩ | exact ⟨h.1, h.2.1, h.2.2⟩ | exact ⟨Nat.zero_le _, h.2⟩ | exact ⟨h.1, Nat.zero_le _, h.2.2⟩ | exact Nat.zero_le _ | exact ⟨Nat.le_trans (List.length_filter_le _ _) h.1, h.2⟩ | exact ⟨h.1, Nat.le_trans (List.length_filter_le _ _) h.2.1, h.2.2⟩ | exact ⟨by simpa using h.1, h.2⟩ | exact ⟨Nat.zero_le _, Nat.zero_le _, h.2.2⟩ | exact ⟨Nat.le_trans (List.length_filter_le _ _) h.1, Nat.le_trans (List.length_filter_le _ _) h.2.1, h.2.2⟩ | exact ⟨h.1, h.2.1, Nat.min_le_left _ _⟩ | exact onLog_fits (fun _ _ => Nat.zero_le _) h | exact onLog_fits (fun _ h => Nat.le_trans (List.length_filter_le _ _) h) h | (simp only [List.length_take]; exact Nat.min_le_left _ _)); skip]) | (with_reducible apply Blk.onPath_bnd) | (with_reducible apply Blk.acceptRead_bnd) | (with_reducible apply Blk.acceptWrite_bnd) | (with_reducible apply Blk.countAccepted_bnd) | with_reducible apply bnd_ite | extract_lets | split | (dsimp +zetaDelta only))

theorem Blk.probeFill_bnd (b : Blk) (h : Head) (li : Nat) (h₀ : QueuesFit b) : QueuesFit (Blk.probeFill b h li) := by
  unfold Blk.probeFill
  repeat (first | with_reducible assumption | (with_reducible refine Blk.allocate_bnd _ _ _ _ (by assumption) ?_) | (with_reducible apply Blk.startFill_bnd) | with_reducible apply bnd_ite | split)

theorem Blk.consumeTo_bnd (b : Blk) (h : Head) (v : Nat) (h₀ : QueuesFit b) : QueuesFit (Blk.consumeTo b h v) := by
  unfold Blk.consumeTo
  repeat (first | with_reducible assumption | ((with_reducible apply head_bnd) <;> [(intro h; exact h); skip]) | with_reducible apply bnd_ite)

theorem Blk.dropToHeader_bnd (b : Blk) (h : Head) (h₀ : QueuesFit b) : QueuesFit (Blk.dropToHeader b h) := by
  unfold Blk.dropToHeader
  repeat (first | with_reducible assumption | ((with_reducible apply head_bnd) <;> [(intro h; exact h); skip]) | (with_reducible refine bnd_foldl (fun c x hc => ?_) _ _ ?_) | split)

theorem Blk.emit_bnd (b : Blk) (o : Output) (h₀ : QueuesFit b) : QueuesFit (Blk.emit b o) :=
  keep_bnd (Blk.emit_only (m₀ := [.out]) b o (by decide) (only_refl _ _)) (by decide) h₀

theorem Blk.windowAccess_bnd (b : Blk) (h : Head) (tag off : Nat) (write : Option (HalfMask × Half)) (e : DpErr) (h₀ : QueuesFit b) : QueuesFit (Blk.windowAccess b h tag off write e) := by
  unfold Blk.windowAccess
  repeat (first | with_reducible assumption | (with_reducible apply Blk.emit_bnd) | (with_reducible apply Blk.dpCount_bnd) | (with_reducible apply Blk.consumeTo_bnd) | (with_reducible apply Blk.dropToHeader_bnd) | with_reducible apply bnd_ite | extract_lets | split | (dsimp +zetaDelta only))

theorem Blk.failCheck_bnd (b : Blk) (h : Head) (code : BitVec 16) (sub : Nat) (hpa : Nat) (dpa : Option Nat) (h₀ : QueuesFit b) : QueuesFit (Blk.failCheck b h code sub hpa dpa) := by
  unfold Blk.failCheck
  repeat (first | with_reducible assumption | ((with_reducible apply head_bnd) <;> [(intro h; exact h); skip]) | ((with_reducible apply linen_bnd) <;> [(intro h; exact h); skip]) | (with_reducible apply Blk.bump_bnd) | (with_reducible apply Blk.report_bnd) | with_reducible apply bnd_ite | extract_lets | split | (dsimp +zetaDelta only))

theorem Blk.failEarly_bnd (b : Blk) (h : Head) (hpa : Nat) (h₀ : QueuesFit b) : QueuesFit (Blk.failEarly b h hpa) := by
  unfold Blk.failEarly
  repeat (first | with_reducible assumption | ((with_reducible apply head_bnd) <;> [(intro h; exact h); skip]) | (with_reducible apply Blk.bump_bnd) | (with_reducible apply Blk.report_bnd) | with_reducible apply bnd_ite | extract_lets | (dsimp +zetaDelta only))

theorem Blk.place_bnd (b : Blk) (h : Head) (k : ReqKind) (hpa tag dpa : Nat) (data : Half) (mask : HalfMask) (poison : Bool) (hl : (b.head h).ingress.length < 1024) (h₀ : QueuesFit b) : QueuesFit (b.place h k hpa tag dpa data mask poison) := by
  unfold Blk.place
  extract_lets d o sync twin t r b0 b1 b2
  have hq : QueuesFit b0 ∧ (b0.head h).ingress.length < 1024 := by
    clear_value twin
    rcases twin with _ | q
    · exact ⟨h₀, hl⟩
    · refine ⟨hB_bnd (fun h => ⟨by simp only [List.length_map]; exact h.1, h.2⟩) h₀, ?_⟩
      cases h
      · exact hl
      · exact (List.length_map _).trans_lt hl
  have h0 := hq.1
  have hl0 := hq.2
  have h1 : QueuesFit b1 := keep_bnd (Blk.onPath_only (m₀ := [.path]) _ _ (by decide) (only_refl _ _)) (by decide) h0
  have hl1 : (b1.head h).ingress.length < 1024 := by cases h <;> exact hl0
  have h2 : QueuesFit b2 := head_bnd (fun h => ⟨by simp only [List.length_append, List.length_singleton]; omega, h.2⟩) h1
  exact bnd_ite h2 (Blk.noteHolds_bnd _ _ _ h2)

theorem Blk.arrive_bnd (b : Blk) (h : Head) (k : ReqKind) (hpa tag : Nat) (data : Half) (mask : HalfMask) (poison : Bool) (h₀ : QueuesFit b) : QueuesFit (Blk.arrive b h k hpa tag data mask poison) := by
  unfold Blk.arrive
  refine bnd_ite' (fun ht => ?_) (fun _ => h₀)
  have hl := takes_room ht
  repeat (first | with_reducible assumption | (with_reducible refine Blk.place_bnd _ _ _ _ _ _ _ _ _ hl ?_) | (with_reducible apply Blk.refuse_bnd) | (with_reducible apply Blk.failCheck_bnd) | (with_reducible apply Blk.failEarly_bnd) | (with_reducible apply Blk.place_bnd) | split | with_reducible apply bnd_ite)

theorem Blk.acceptWindow_bnd (b : Blk) (h : Head) (r : Req) (d : DpErr) (h₀ : QueuesFit b) : QueuesFit (Blk.acceptWindow b h r d) := by
  unfold Blk.acceptWindow
  repeat (first | with_reducible assumption | ((with_reducible apply head_bnd) <;> [(intro h; first | exact h | exact ⟨h.1, h.2⟩ | exact ⟨h.1, h.2.1, h.2.2⟩ | exact ⟨Nat.zero_le _, h.2⟩ | exact ⟨h.1, Nat.zero_le _, h.2.2⟩ | exact Nat.zero_le _ | exact ⟨Nat.le_trans (List.length_filter_le _ _) h.1, h.2⟩ | exact ⟨h.1, Nat.le_trans (List.length_filter_le _ _) h.2.1, h.2.2⟩ | exact ⟨by simpa using h.1, h.2⟩ | exact ⟨Nat.zero_le _, Nat.zero_le _, h.2.2⟩ | exact ⟨Nat.le_trans (List.length_filter_le _ _) h.1, Nat.le_trans (List.length_filter_le _ _) h.2.1, h.2.2⟩ | exact ⟨h.1, h.2.1, Nat.min_le_left _ _⟩ | exact onLog_fits (fun _ _ => Nat.zero_le _) h | exact onLog_fits (fun _ h => Nat.le_trans (List.length_filter_le _ _) h) h | (simp only [List.length_take]; exact Nat.min_le_left _ _)); skip]) | (with_reducible apply Blk.windowAccess_bnd) | with_reducible apply bnd_ite)

theorem Blk.probeWay_bnd (b : Blk) (li : Nat) (h₀ : QueuesFit b) : QueuesFit (Blk.probeWay b li) :=
  keep_bnd (Blk.probeWay_only (m₀ := [.twill]) b li (by decide) (only_refl _ _)) (by decide) h₀

theorem Blk.tryAccept_bnd (b : Blk) (h : Head) (r : Req) (d : DpErr) (h₀ : QueuesFit b) : QueuesFit (Blk.tryAccept b h r d) := by
  unfold Blk.tryAccept
  repeat (first | with_reducible assumption | (with_reducible apply Blk.noteHolds_bnd) | (with_reducible apply Blk.acceptNow_bnd) | (with_reducible apply Blk.probeWay_bnd) | (with_reducible apply Blk.probeFill_bnd) | (with_reducible apply Blk.acceptWindow_bnd) | with_reducible apply bnd_ite | extract_lets | (dsimp +zetaDelta only))

theorem Blk.gatherFreed_bnd (b : Blk) (slot : Nat) (h₀ : QueuesFit b) : QueuesFit (Blk.gatherFreed b slot) :=
  keep_bnd (Blk.gatherFreed_only (m₀ := [.twill]) b slot (by decide) (only_refl _ _)) (by decide) h₀

theorem Blk.slotFreed_bnd (b : Blk) (slot : Nat) (h₀ : QueuesFit b) : QueuesFit (Blk.slotFreed b slot) := by
  unfold Blk.slotFreed
  repeat (first | with_reducible assumption | (with_reducible apply Blk.setSlot_bnd) | (with_reducible apply Blk.lifeCheck_bnd) | (with_reducible apply Blk.retireSlot_bnd) | (with_reducible apply Blk.gatherFreed_bnd) | with_reducible apply bnd_ite | extract_lets | (dsimp +zetaDelta only))

theorem Blk.resetSlot_bnd (b : Blk) (slot : Nat) (h₀ : QueuesFit b) : QueuesFit (Blk.resetSlot b slot) :=
  keep_bnd (Blk.resetSlot_only (m₀ := [.media, .twill]) b slot (by decide) (only_refl _ _)) (by decide) h₀

theorem Blk.freeSlot_bnd (b : Blk) (slot wear : Nat) (h₀ : QueuesFit b) : QueuesFit (Blk.freeSlot b slot wear) := by
  unfold Blk.freeSlot
  repeat (first | with_reducible assumption | (with_reducible apply Blk.setSlot_bnd) | (with_reducible apply Blk.slotFreed_bnd) | (with_reducible apply Blk.resetSlot_bnd))

theorem Blk.giveUp_bnd (b : Blk) (slot wear : Nat) (h₀ : QueuesFit b) : QueuesFit (Blk.giveUp b slot wear) := by
  unfold Blk.giveUp
  repeat (first | with_reducible assumption | (with_reducible apply Blk.retireSlot_bnd) | (with_reducible apply Blk.freeSlot_bnd) | with_reducible apply bnd_ite | extract_lets | (dsimp +zetaDelta only))

theorem Blk.swapHot_bnd (b : Blk) (old new : Nat) (h₀ : QueuesFit b) : QueuesFit (Blk.swapHot b old new) := by
  unfold Blk.swapHot
  repeat (first | with_reducible assumption | (with_reducible apply Blk.onTwill_bnd) | (with_reducible apply Blk.setSlot_bnd) | (with_reducible apply Blk.journalRec_bnd) | (with_reducible apply Blk.resetSlot_bnd) | extract_lets | (dsimp +zetaDelta only))

theorem Blk.widen_bnd (b : Blk) (c : Cls) (h₀ : QueuesFit b) : QueuesFit (Blk.widen b c) :=
  keep_bnd (Blk.widen_only (m₀ := [.free, .twill]) b c (by decide) (only_refl _ _)) (by decide) h₀

theorem Blk.exchangeSlot_bnd (b : Blk) (slot reason : Nat) (h₀ : QueuesFit b) : QueuesFit (Blk.exchangeSlot b slot reason) := by
  unfold Blk.exchangeSlot
  repeat (first | with_reducible assumption | (with_reducible apply Blk.useFree_bnd) | (with_reducible apply Blk.widen_bnd) | (with_reducible apply Blk.retireSlot_bnd) | (with_reducible apply Blk.swapHot_bnd) | with_reducible apply bnd_ite | extract_lets | split | (dsimp +zetaDelta only))

theorem Blk.resetOver_bnd (b : Blk) (key : Nat) (h₀ : QueuesFit b) : QueuesFit (Blk.resetOver b key) := by
  unfold Blk.resetOver
  repeat (first | with_reducible assumption | (with_reducible apply Blk.onTwill_bnd) | (with_reducible apply Blk.setSlot_bnd) | (with_reducible apply Blk.slotFreed_bnd) | (with_reducible apply Blk.exchangeSlot_bnd) | with_reducible apply bnd_ite | extract_lets | (dsimp +zetaDelta only))

theorem Blk.queueReset_bnd (b : Blk) (key : Nat) (x : Nat × Nat) (h₀ : QueuesFit b) : QueuesFit (Blk.queueReset b key x) :=
  keep_bnd (Blk.queueReset_only (m₀ := [.media]) b key x (by decide) (only_refl _ _)) (by decide) h₀

theorem Blk.resetRow_bnd (b : Blk) (key : Nat) (x : TileRow) (h₀ : QueuesFit b) : QueuesFit (Blk.resetRow b key x) := by
  unfold Blk.resetRow
  repeat (first | with_reducible assumption | (with_reducible apply Blk.onTwill_bnd) | (with_reducible apply Blk.queueReset_bnd) | (with_reducible apply Blk.resetOver_bnd) | (with_reducible refine bnd_foldl (fun c x hc => ?_) _ _ ?_) | with_reducible apply bnd_ite | extract_lets | (dsimp +zetaDelta only))

theorem Blk.dropResets_bnd (b : Blk) (pid : Nat) (h₀ : QueuesFit b) : QueuesFit (Blk.dropResets b pid) := by
  unfold Blk.dropResets
  repeat (first | with_reducible assumption | (with_reducible apply Blk.onPart_bnd) | (with_reducible apply Blk.resetOver_bnd) | (with_reducible refine bnd_foldl (fun c x hc => ?_) _ _ ?_) | with_reducible apply bnd_ite | extract_lets | split | (dsimp +zetaDelta only))

theorem Blk.erase_bnd (b : Blk) (rid m : Nat) (h₀ : QueuesFit b) : QueuesFit (Blk.erase b rid m) :=
  keep_bnd (Blk.erase_only (m₀ := [.path]) b rid m (by decide) (only_refl _ _)) (by decide) h₀

theorem Blk.reconOnce_bnd (b : Blk) (rid : Nat) (h₀ : QueuesFit b) : QueuesFit (Blk.reconOnce b rid) :=
  keep_bnd (Blk.reconOnce_only (m₀ := [.free, .od, .path, .media, .tweed]) b rid (by decide) (only_refl _ _)) (by decide) h₀

theorem Blk.jobRead_bnd (b : Blk) (n : Nat) (x : Mem) (ok : Bool) (h₀ : QueuesFit b) : QueuesFit (Blk.jobRead b n x ok) :=
  keep_bnd (Blk.jobRead_only (m₀ := [.twill]) b n x ok (by decide) (only_refl _ _)) (by decide) h₀

theorem Blk.standIn_bnd (b : Blk) (t : ReadTask) (h₀ : QueuesFit b) : QueuesFit (Blk.standIn b t) := by
  unfold Blk.standIn
  repeat (first | with_reducible assumption | (with_reducible apply Blk.onPart_bnd) | (with_reducible apply Blk.onAcc_bnd) | (with_reducible apply Blk.readTag_bnd) | (with_reducible apply Blk.erase_bnd) | (with_reducible apply Blk.reconOnce_bnd) | (with_reducible apply Blk.jobRead_bnd) | split)

theorem Blk.reroute_bnd (b : Blk) (pid : Nat) (h₀ : QueuesFit b) : QueuesFit (Blk.reroute b pid) := by
  unfold Blk.reroute
  repeat (first | with_reducible assumption | (with_reducible apply Blk.onPart_bnd) | (with_reducible apply Blk.standIn_bnd) | (with_reducible refine bnd_foldl (fun c x hc => ?_) _ _ ?_) | extract_lets | (dsimp +zetaDelta only))

theorem Blk.rerouteDie_bnd (b : Blk) (d : Nat) (h₀ : QueuesFit b) : QueuesFit (Blk.rerouteDie b d) := by
  unfold Blk.rerouteDie
  repeat (first | with_reducible assumption | (with_reducible apply Blk.reroute_bnd) | (with_reducible refine bnd_foldl (fun c x hc => ?_) _ _ ?_))

theorem Blk.dropDieResets_bnd (b : Blk) (d : Nat) (h₀ : QueuesFit b) : QueuesFit (Blk.dropDieResets b d) := by
  unfold Blk.dropDieResets
  repeat (first | with_reducible assumption | (with_reducible apply Blk.dropResets_bnd) | (with_reducible refine bnd_foldl (fun c x hc => ?_) _ _ ?_))

theorem Blk.loseLine_bnd (b : Blk) (li : Nat) (p : Place) (h₀ : QueuesFit b) : QueuesFit (Blk.loseLine b li p) := by
  unfold Blk.loseLine
  repeat (first | with_reducible assumption | (with_reducible apply Blk.bump_bnd) | (with_reducible apply Blk.poisonLine_bnd) | with_reducible apply bnd_ite)

theorem Blk.lossCheck_bnd (b : Blk) (h₀ : QueuesFit b) : QueuesFit (Blk.lossCheck b) := by
  unfold Blk.lossCheck
  repeat (first | with_reducible assumption | (with_reducible apply Blk.loseLine_bnd) | (with_reducible refine bnd_foldl (fun c x hc => ?_) _ _ ?_) | with_reducible apply bnd_ite | extract_lets | split | (dsimp +zetaDelta only))

theorem Blk.dieFail_bnd (b : Blk) (d : Nat) (h₀ : QueuesFit b) : QueuesFit (Blk.dieFail b d) := by
  unfold Blk.dieFail
  repeat (first | with_reducible assumption | (with_reducible apply Blk.onSafety_bnd) | (with_reducible apply Blk.onDie_bnd) | (with_reducible apply Blk.reportUnit_bnd) | (with_reducible apply Blk.degrade_bnd) | (with_reducible apply Blk.rerouteDie_bnd) | (with_reducible apply Blk.dropDieResets_bnd) | (with_reducible apply Blk.lossCheck_bnd) | with_reducible apply bnd_ite | extract_lets | (dsimp +zetaDelta only))

theorem Blk.onChan_bnd (b : Blk) (c : Nat) (f : ChanSt → ChanSt) (h₀ : QueuesFit b) : QueuesFit (Blk.onChan b c f) :=
  keep_bnd (Blk.onChan_only (m₀ := [.media]) b c f (by decide) (only_refl _ _)) (by decide) h₀

theorem Blk.channelFail_bnd (b : Blk) (c : Nat) (h₀ : QueuesFit b) : QueuesFit (Blk.channelFail b c) := by
  unfold Blk.channelFail
  repeat (first | with_reducible assumption | (with_reducible apply Blk.onChan_bnd) | (with_reducible apply Blk.reportUnit_bnd) | (with_reducible apply Blk.degrade_bnd) | (with_reducible apply Blk.dieFail_bnd) | (with_reducible refine bnd_foldl (fun c x hc => ?_) _ _ ?_) | with_reducible apply bnd_ite | extract_lets | (dsimp +zetaDelta only))

theorem Blk.tileFailure_bnd (b : Blk) (d tile : Nat) (h₀ : QueuesFit b) : QueuesFit (Blk.tileFailure b d tile) := by
  unfold Blk.tileFailure
  repeat (first | with_reducible assumption | (with_reducible apply Blk.onDie_bnd) | (with_reducible apply Blk.dieFail_bnd) | with_reducible apply bnd_ite | extract_lets | (dsimp +zetaDelta only))

theorem Blk.onEngine_bnd (b : Blk) (e : Nat) (f : EngineSt → EngineSt) (h₀ : QueuesFit b) : QueuesFit (Blk.onEngine b e f) :=
  keep_bnd (Blk.onEngine_only (m₀ := [.safety]) b e f (by decide) (only_refl _ _)) (by decide) h₀

theorem Blk.engineFail_bnd (b : Blk) (e : Nat) (h₀ : QueuesFit b) : QueuesFit (Blk.engineFail b e) := by
  unfold Blk.engineFail
  repeat (first | with_reducible assumption | (with_reducible apply Blk.onSafety_bnd) | (with_reducible apply Blk.report_bnd) | (with_reducible apply Blk.reportUnit_bnd) | (with_reducible apply Blk.degrade_bnd) | (with_reducible apply Blk.detect_bnd) | (with_reducible apply Blk.rerouteDie_bnd) | (with_reducible apply Blk.channelFail_bnd) | (with_reducible apply Blk.onEngine_bnd) | (with_reducible refine bnd_foldl (fun c x hc => ?_) _ _ ?_) | with_reducible apply bnd_ite | extract_lets | split | (dsimp +zetaDelta only))

theorem Blk.onBank_bnd (b : Blk) (k : Nat) (f : BankSt → BankSt) (h₀ : QueuesFit b) : QueuesFit (Blk.onBank b k f) :=
  keep_bnd (Blk.onBank_only (m₀ := [.safety]) b k f (by decide) (only_refl _ _)) (by decide) h₀

theorem Blk.sliceOut_bnd (b : Blk) (slice : Nat) (h₀ : QueuesFit b) : QueuesFit (Blk.sliceOut b slice) :=
  keep_bnd (Blk.sliceOut_only (m₀ := [.velvet, .tweed, .safety]) b slice (by decide) (only_refl _ _)) (by decide) h₀

theorem Blk.bankLost_bnd (b : Blk) (k : Nat) (h₀ : QueuesFit b) : QueuesFit (Blk.bankLost b k) := by
  unfold Blk.bankLost
  repeat (first | with_reducible assumption | (with_reducible apply Blk.onDamask_bnd) | (with_reducible apply Blk.detect_bnd) | (with_reducible apply Blk.engineFail_bnd) | (with_reducible apply Blk.onBank_bnd) | (with_reducible apply Blk.sliceOut_bnd) | (with_reducible refine bnd_foldl (fun c x hc => ?_) _ _ ?_) | extract_lets | split | (dsimp +zetaDelta only))

theorem Blk.bankFail_bnd (b : Blk) (k : Nat) (h₀ : QueuesFit b) : QueuesFit (Blk.bankFail b k) := by
  unfold Blk.bankFail
  repeat (first | with_reducible assumption | (with_reducible apply Blk.onSafety_bnd) | (with_reducible apply Blk.degrade_bnd) | (with_reducible apply Blk.bankLost_bnd) | with_reducible apply bnd_ite | split)

theorem Blk.lapStep_bnd (b : Blk) (c : Cls) (n : Nat) (h₀ : QueuesFit b) : QueuesFit (Blk.lapStep b c n) := by
  unfold Blk.lapStep
  repeat (first | with_reducible assumption | (with_reducible apply onMedia_bnd <;> [(intro; rfl); skip]) | (with_reducible apply Blk.healthCheck_bnd) | with_reducible apply onMedia_bnd | with_reducible apply bnd_ite | extract_lets | (dsimp +zetaDelta only))

theorem Blk.onJob_bnd (b : Blk) (n : Nat) (f : Job → Job) (h₀ : QueuesFit b) : QueuesFit (Blk.onJob b n f) :=
  keep_bnd (Blk.onJob_only (m₀ := [.twill]) b n f (by decide) (only_refl _ _)) (by decide) h₀

theorem Blk.jobWrite_bnd (n : Nat) (ovw : Bool) (b : Blk × Nat) (w : Mem × MLine) (h₀ : QueuesFit b.1) : QueuesFit (Blk.jobWrite n ovw b w).1 := by
  unfold Blk.jobWrite
  have hs := Blk.storeLine_bnd b.1 (b.1.memLoc w.1) w.2 h₀
  exact bnd_ite_fst (bnd_ite hs (onMedia_bnd (fun _ => rfl) hs)) (Blk.program_bnd _ _ h₀)

theorem Blk.issueWrites_bnd (b : Blk) (n : Nat) (ph : Phase) (ovw : Bool) (ws : Writes) (h₀ : QueuesFit b) : QueuesFit (Blk.issueWrites b n ph ovw ws) := by
  unfold Blk.issueWrites
  exact Blk.onJob_bnd _ _ _ (bnd_foldl_pair (fun c x hc => Blk.jobWrite_bnd _ _ _ _ hc) _ (b, 0) h₀)

theorem Blk.dropJob_bnd (b : Blk) (n : Nat) (h₀ : QueuesFit b) : QueuesFit (Blk.dropJob b n) :=
  keep_bnd (Blk.dropJob_only (m₀ := [.twill]) b n (by decide) (only_refl _ _)) (by decide) h₀

theorem Blk.jobAppend_bnd (b : Blk) (n li : Nat) (data : Line) (h₀ : QueuesFit b) : QueuesFit (Blk.jobAppend b n li data) := by
  unfold Blk.jobAppend
  repeat (first | with_reducible assumption | (with_reducible apply Blk.onTwill_bnd) | (with_reducible apply Blk.storeLine_bnd) | (with_reducible apply Blk.program_bnd) | (with_reducible apply Blk.takePosition_bnd) | (with_reducible apply Blk.setHot_bnd) | (with_reducible apply Blk.onJob_bnd) | (with_reducible apply Blk.dropJob_bnd) | with_reducible apply bnd_ite | extract_lets | split | (dsimp +zetaDelta only))

theorem Blk.jobRegroup_bnd (b : Blk) (n : Nat) (j : Job) (ti : Nat) (epoch : BitVec 8) (major : BitVec 24) (new : Option (Nat × Line)) (h₀ : QueuesFit b) : QueuesFit (Blk.jobRegroup b n j ti epoch major new) := by
  unfold Blk.jobRegroup
  repeat (first | with_reducible assumption | (with_reducible apply Blk.putTag_bnd) | (with_reducible apply Blk.useTag_bnd) | (with_reducible apply Blk.onJob_bnd) | (with_reducible apply Blk.issueWrites_bnd) | (with_reducible refine bnd_foldl (fun c x hc => ?_) _ _ ?_) | extract_lets | (dsimp +zetaDelta only))

theorem Blk.jobCold_bnd (b : Blk) (n : Nat) (j : Job) (li : Nat) (data : Line) (h₀ : QueuesFit b) : QueuesFit (Blk.jobCold b n j li data) := by
  unfold Blk.jobCold
  repeat (first | with_reducible assumption | (with_reducible apply Blk.bump_bnd) | (with_reducible apply Blk.tw_bnd) | (with_reducible apply Blk.coldCipher_bnd) | (with_reducible apply Blk.dropJob_bnd) | (with_reducible apply Blk.issueWrites_bnd) | (with_reducible apply Blk.jobRegroup_bnd) | with_reducible apply bnd_ite | extract_lets | split | (dsimp +zetaDelta only))

theorem Blk.terryCheck_bnd (b : Blk) (c : Cls) (slot s : Nat) (h₀ : QueuesFit b) : QueuesFit (Blk.terryCheck b c slot s).1 := by
  unfold Blk.terryCheck
  repeat (first | with_reducible assumption | (with_reducible apply Blk.bump_bnd) | (with_reducible apply Blk.poisonLine_bnd) | (with_reducible apply Blk.damaskFailure_bnd) | (with_reducible refine bnd_foldl (fun c x hc => ?_) _ _ ?_) | with_reducible apply bnd_ite | extract_lets | split | with_reducible apply bnd_ite_fst | dsimp only | (dsimp +zetaDelta only))

theorem Blk.lockJob_bnd (b : Blk) (n : Nat) (ks : List Nat) (h₀ : QueuesFit b) : QueuesFit (Blk.lockJob b n ks) :=
  keep_bnd (Blk.lockJob_only (m₀ := [.twill]) b n ks (by decide) (only_refl _ _)) (by decide) h₀

theorem Blk.terryReady_bnd (b : Blk) (n : Nat) (j : Job) (c : Cls) (slot s : Nat) (h₀ : QueuesFit b) : QueuesFit (Blk.terryReady b n j c slot s) := by
  unfold Blk.terryReady
  refine bnd_ite ?_ ?_
  · repeat (first | with_reducible assumption | (with_reducible apply onMedia_bnd <;> [(intro; rfl); skip]) | (with_reducible apply Blk.dropJob_bnd) | (with_reducible apply Blk.issueWrites_bnd) | (with_reducible apply Blk.lockJob_bnd) | (with_reducible apply Blk.terryCheck_bnd) | (with_reducible apply onMedia_bnd))
  · refine Blk.issueWrites_bnd _ _ _ _ _ (Blk.lockJob_bnd _ _ _ (bnd_ite_fst ?_ h₀))
    repeat (first | with_reducible assumption | (with_reducible apply onMedia_bnd <;> [(intro; rfl); skip]) | (with_reducible apply Blk.dropJob_bnd) | (with_reducible apply Blk.issueWrites_bnd) | (with_reducible apply Blk.lockJob_bnd) | (with_reducible apply Blk.terryCheck_bnd))

theorem Blk.scanOver_bnd (b : Blk) (h₀ : QueuesFit b) : QueuesFit (Blk.scanOver b) :=
  keep_bnd (Blk.scanOver_only (m₀ := [.out, .dev, .media]) b (by decide) (only_refl _ _)) (by decide) h₀

theorem Blk.scanFind_bnd (b : Blk) (key n : Nat) (h₀ : QueuesFit b) : QueuesFit (Blk.scanFind b key n) :=
  keep_bnd (Blk.scanFind_only (m₀ := [.media]) b key n (by decide) (only_refl _ _)) (by decide) h₀

theorem Blk.scanReady_bnd (b : Blk) (n : Nat) (j : Job) (key k : Nat) (h₀ : QueuesFit b) : QueuesFit (Blk.scanReady b n j key k) := by
  unfold Blk.scanReady
  repeat (first | with_reducible assumption | (with_reducible apply Blk.dropJob_bnd) | (with_reducible apply Blk.issueWrites_bnd) | (with_reducible apply Blk.lockJob_bnd) | (with_reducible apply Blk.scanOver_bnd) | (with_reducible apply Blk.scanFind_bnd) | with_reducible apply bnd_ite | extract_lets | split | (dsimp +zetaDelta only))

theorem Blk.clearHot_bnd (b : Blk) (key : Nat) (h₀ : QueuesFit b) : QueuesFit (Blk.clearHot b key) :=
  keep_bnd (Blk.clearHot_only (m₀ := [.twill]) b key (by decide) (only_refl _ _)) (by decide) h₀

theorem Blk.abandonDemotion_bnd (b : Blk) (li : Nat) (h₀ : QueuesFit b) : QueuesFit (Blk.abandonDemotion b li) :=
  keep_bnd (Blk.abandonDemotion_only (m₀ := [.velvet, .twill]) b li (by decide) (only_refl _ _)) (by decide) h₀

theorem Blk.invalidate_bnd (b : Blk) (e : HotEntry) (h₀ : QueuesFit b) : QueuesFit (Blk.invalidate b e) :=
  keep_bnd (Blk.invalidate_only (m₀ := [.twill]) b e (by decide) (only_refl _ _)) (by decide) h₀

theorem Blk.jobReady_bnd (b : Blk) (n : Nat) (j : Job) (h₀ : QueuesFit b) : QueuesFit (Blk.jobReady b n j) := by
  unfold Blk.jobReady
  repeat (first | with_reducible assumption | (with_reducible apply onMedia_bnd <;> [(intro; rfl); skip]) | (with_reducible apply Blk.onPath_bnd) | (with_reducible apply Blk.onTwill_bnd) | (with_reducible apply Blk.bump_bnd) | (with_reducible apply Blk.tw_bnd) | (with_reducible apply Blk.clearHot_bnd) | (with_reducible apply Blk.putBuf_bnd) | (with_reducible apply Blk.abandonDemotion_bnd) | (with_reducible apply Blk.invalidate_bnd) | (with_reducible apply Blk.program_bnd) | (with_reducible apply Blk.onJob_bnd) | (with_reducible apply Blk.dropJob_bnd) | (with_reducible apply Blk.issueWrites_bnd) | (with_reducible apply Blk.jobAppend_bnd) | (with_reducible apply Blk.jobRegroup_bnd) | (with_reducible apply Blk.jobCold_bnd) | (with_reducible apply Blk.terryReady_bnd) | (with_reducible apply Blk.scanReady_bnd) | with_reducible apply onMedia_bnd | (with_reducible refine bnd_foldl (fun c x hc => ?_) _ _ ?_) | with_reducible apply bnd_ite | extract_lets | split | (dsimp +zetaDelta only))

theorem Blk.feedJob_bnd (b : Blk) (n : Nat) (h₀ : QueuesFit b) : QueuesFit (Blk.feedJob b n) :=
  keep_bnd (Blk.feedJob_only (m₀ := [.media, .twill]) b n (by decide) (only_refl _ _)) (by decide) h₀

theorem Blk.deepForJob_bnd (n : Nat) (b : Blk) (li : Nat) (h₀ : QueuesFit b) : QueuesFit (Blk.deepForJob n b li) :=
  keep_bnd (Blk.deepForJob_only (m₀ := [.od, .path, .twill, .tweed]) n b li (by decide) (only_refl _ _)) (by decide) h₀

theorem Blk.advanceJob_bnd (b : Blk) (n : Nat) (h₀ : QueuesFit b) : QueuesFit (Blk.advanceJob b n) := by
  unfold Blk.advanceJob
  repeat (first | with_reducible assumption | (with_reducible apply Blk.onJob_bnd) | (with_reducible apply Blk.feedJob_bnd) | (with_reducible apply Blk.deepForJob_bnd) | (with_reducible apply Blk.jobReady_bnd) | (with_reducible refine bnd_foldl (fun c x hc => ?_) _ _ ?_) | with_reducible apply bnd_ite | extract_lets | split | (dsimp +zetaDelta only))

theorem Blk.issueHeld_bnd (b : Blk) (n : Nat) (j : Job) (h₀ : QueuesFit b) : QueuesFit (Blk.issueHeld b n j) := by
  unfold Blk.issueHeld
  refine Blk.onJob_bnd _ _ _ (bnd_foldl_pair (fun c x hc => ?_) _ (b, 0) h₀)
  split
  · exact bnd_foldl_pair (fun c x hc => Blk.jobWrite_bnd _ _ _ _ hc) _ _ hc
  · exact hc

theorem Blk.throughAgain_bnd (b : Blk) (li : Nat) (h₀ : QueuesFit b) : QueuesFit (Blk.throughAgain b li) := by
  unfold Blk.throughAgain
  repeat (first | with_reducible assumption | (with_reducible apply Blk.onPath_bnd) | (with_reducible apply Blk.program_bnd) | with_reducible apply bnd_ite)

theorem Blk.shutdownLoss_bnd (b : Blk) (li : Nat) (h₀ : QueuesFit b) : QueuesFit (Blk.shutdownLoss b li) := by
  unfold Blk.shutdownLoss
  repeat (first | with_reducible assumption | (with_reducible apply Blk.onDamask_bnd) | (with_reducible apply Blk.bump_bnd) | (with_reducible apply Blk.report_bnd) | (with_reducible apply Blk.listHalf_bnd) | with_reducible apply bnd_ite | extract_lets | (dsimp +zetaDelta only))

theorem Blk.passRegion_bnd (b : Blk) (r : Nat) (h₀ : QueuesFit b) : QueuesFit (Blk.passRegion b r) := by
  unfold Blk.passRegion
  repeat (first | with_reducible assumption | (with_reducible apply Blk.onTwill_bnd) | (with_reducible apply Blk.onDamask_bnd) | (with_reducible apply Blk.shutdownLoss_bnd) | (with_reducible refine bnd_foldl (fun c x hc => ?_) _ _ ?_) | with_reducible apply bnd_ite | extract_lets | (dsimp +zetaDelta only))

theorem Blk.freshStep_bnd (b : Blk) (area : Nat) (c : Cls) (s : Nat) (h₀ : QueuesFit b) : QueuesFit (Blk.freshStep b area c s) :=
  keep_bnd (Blk.freshStep_only (m₀ := [.od, .twill, .gauze, .tweed]) b area c s (by decide) (only_refl _ _)) (by decide) h₀

theorem Blk.stripeDone_bnd (b : Blk) (r : Nat) (m : Move) (s : Nat) (h₀ : QueuesFit b) : QueuesFit (Blk.stripeDone b r m s) := by
  unfold Blk.stripeDone
  repeat (first | with_reducible assumption | (with_reducible apply Blk.onTwill_bnd) | (with_reducible apply Blk.putRegion_bnd) | (with_reducible apply Blk.journalRec_bnd) | (with_reducible apply Blk.passRegion_bnd) | (with_reducible apply Blk.freshStep_bnd) | with_reducible apply bnd_ite | extract_lets | split | (dsimp +zetaDelta only))

theorem Blk.tagWritten_bnd (b : Blk) (ti : Nat) (h₀ : QueuesFit b) : QueuesFit (Blk.tagWritten b ti) :=
  keep_bnd (Blk.tagWritten_only (m₀ := [.damask]) b ti (by decide) (only_refl _ _)) (by decide) h₀

theorem Blk.homeWritten_bnd (b : Blk) (li : Nat) (demoted stillHot stored : Blk → Blk) (h₀ : QueuesFit b) (h1 : ∀ c, QueuesFit c → QueuesFit (demoted c)) (h2 : ∀ c, QueuesFit c → QueuesFit (stillHot c)) (h3 : ∀ c, QueuesFit c → QueuesFit (stored c)) : QueuesFit (Blk.homeWritten b li demoted stillHot stored) := by
  unfold Blk.homeWritten
  refine bnd_ite (h3 _ h₀) ?_
  split
  · exact bnd_ite (h1 _ (keep_bnd (Blk.gatherDemotion_only (m₀ := [.twill]) _ _ (by decide) (only_refl _ _)) (by decide) (Blk.onTwill_bnd _ _ h₀))) (h2 _ h₀)
  · exact h2 _ h₀

theorem Blk.jobEffect_bnd (b : Blk) (j : Job) (h₀ : QueuesFit b) : QueuesFit (Blk.jobEffect b j) := by
  unfold Blk.jobEffect
  have hid (c : Blk) (hc : QueuesFit c) : QueuesFit (id c) := hc
  split
  · split
    · exact Blk.homeWritten_bnd _ _ _ _ _ h₀ (fun c hc => Blk.putBuf_bnd _ _ _ hc) (fun c hc => Blk.putBuf_bnd _ _ _ hc) (fun c hc => Blk.bufferDone_bnd _ _ hc)
    · exact h₀
  · exact Blk.homeWritten_bnd _ _ _ _ _ h₀ hid (fun c hc => Blk.throughAgain_bnd _ _ hc) (fun c hc => Blk.throughDone_bnd _ _ _ hc)
  · exact Blk.homeWritten_bnd _ _ _ _ _ h₀ hid hid hid
  all_goals (repeat (first | with_reducible assumption | (with_reducible apply Blk.onSafety_bnd) | (with_reducible apply Blk.bump_bnd) | (with_reducible apply Blk.putBuf_bnd) | (with_reducible apply Blk.bufferDone_bnd) | (with_reducible apply Blk.throughDone_bnd) | (with_reducible apply Blk.lapStep_bnd) | (with_reducible apply Blk.scanOver_bnd) | (with_reducible apply Blk.tagWritten_bnd) | (with_reducible apply Blk.throughAgain_bnd) | (with_reducible apply Blk.freshStep_bnd) | (with_reducible apply Blk.stripeDone_bnd) | split))

theorem Blk.jobOver_bnd (b : Blk) (n : Nat) (h₀ : QueuesFit b) : QueuesFit (Blk.jobOver b n) := by
  unfold Blk.jobOver
  repeat (first | with_reducible assumption | (with_reducible apply Blk.dropJob_bnd) | (with_reducible apply Blk.issueHeld_bnd) | (with_reducible apply Blk.tagWritten_bnd) | (with_reducible apply Blk.jobEffect_bnd) | with_reducible apply bnd_ite | split)

theorem Blk.advanceJobs_bnd (b : Blk) (h₀ : QueuesFit b) : QueuesFit (Blk.advanceJobs b) := by
  unfold Blk.advanceJobs
  repeat (first | with_reducible assumption | (with_reducible apply Blk.advanceJob_bnd) | (with_reducible apply Blk.jobOver_bnd) | (with_reducible refine bnd_foldl (fun c x hc => ?_) _ _ ?_))

theorem Blk.rebuildOver_bnd (b : Blk) (h₀ : QueuesFit b) : QueuesFit (Blk.rebuildOver b) := by
  unfold Blk.rebuildOver
  repeat (first | with_reducible assumption | (with_reducible apply Blk.onSafety_bnd) | (with_reducible apply Blk.degrade_bnd) | with_reducible apply bnd_ite)

theorem Blk.leaveSlot_bnd (b : Blk) (slot : Nat) (h₀ : QueuesFit b) : QueuesFit (Blk.leaveSlot b slot) :=
  keep_bnd (Blk.leaveSlot_only (m₀ := [.twill]) b slot (by decide) (only_refl _ _)) (by decide) h₀

theorem Blk.clearCells_bnd (b : Blk) (d : Nat) (h₀ : QueuesFit b) : QueuesFit (Blk.clearCells b d) :=
  keep_bnd (Blk.clearCells_only (m₀ := [.gauze]) b d (by decide) (only_refl _ _)) (by decide) h₀

theorem Blk.moveLines_bnd (b : Blk) (key : Nat) (h₀ : QueuesFit b) : QueuesFit (Blk.moveLines b key) :=
  keep_bnd (Blk.moveLines_only (m₀ := [.lines, .media]) b key (by decide) (only_refl _ _)) (by decide) h₀

theorem Blk.endRebuild_bnd (b : Blk) (key d : Nat) (h₀ : QueuesFit b) : QueuesFit (Blk.endRebuild b key d) := by
  unfold Blk.endRebuild
  repeat (first | with_reducible assumption | (with_reducible apply onMedia_bnd <;> [(intro; rfl); skip]) | (with_reducible apply Blk.onTwill_bnd) | (with_reducible apply Blk.onSafety_bnd) | (with_reducible apply Blk.bump_bnd) | (with_reducible apply Blk.journalRec_bnd) | (with_reducible apply Blk.leaveSlot_bnd) | (with_reducible apply Blk.clearCells_bnd) | (with_reducible apply Blk.rebuildOver_bnd) | (with_reducible apply Blk.moveLines_bnd) | with_reducible apply onMedia_bnd | with_reducible apply bnd_ite | extract_lets | (dsimp +zetaDelta only))

theorem Blk.startJob_bnd (b : Blk) (j : Job) (h₀ : QueuesFit b) : QueuesFit (Blk.startJob b j) :=
  keep_bnd (Blk.startJob_only (m₀ := [.free, .media, .twill, .tweed]) b j (by decide) (only_refl _ _)) (by decide) h₀

theorem Blk.stepRebuild_bnd (b : Blk) (h₀ : QueuesFit b) : QueuesFit (Blk.stepRebuild b) := by
  unfold Blk.stepRebuild
  repeat (first | with_reducible assumption | (with_reducible apply Blk.startJob_bnd) | (with_reducible apply Blk.endRebuild_bnd) | with_reducible apply bnd_ite | extract_lets | split | (dsimp +zetaDelta only))

theorem Blk.areaNew_bnd (b : Blk) (area : Nat) (h₀ : QueuesFit b) : QueuesFit (Blk.areaNew b area) :=
  keep_bnd (Blk.areaNew_only (m₀ := [.gauze]) b area (by decide) (only_refl _ _)) (by decide) h₀

theorem Blk.endPass_bnd (b : Blk) (r n : Nat) (x : Rotation) (e : RegionEntry) (h₀ : QueuesFit b) : QueuesFit (Blk.endPass b r n x e) := by
  unfold Blk.endPass
  repeat (first | with_reducible assumption | (with_reducible apply Blk.onTwill_bnd) | (with_reducible apply Blk.bump_bnd) | (with_reducible apply Blk.putRegion_bnd) | (with_reducible apply Blk.journalRec_bnd) | (with_reducible apply Blk.areaNew_bnd) | (with_reducible apply Blk.dropJob_bnd) | with_reducible apply bnd_ite | extract_lets | (dsimp +zetaDelta only))

theorem Blk.beginMigration_bnd (b : Blk) (r : Nat) (e : RegionEntry) (slot : Nat) (cold : Bool) (h₀ : QueuesFit b) : QueuesFit (Blk.beginMigration b r e slot cold) := by
  unfold Blk.beginMigration
  repeat (first | with_reducible assumption | (with_reducible apply Blk.onTwill_bnd) | (with_reducible apply Blk.setSlot_bnd) | (with_reducible apply Blk.putRegion_bnd) | (with_reducible apply Blk.lifeCheck_bnd) | (with_reducible apply Blk.journalRec_bnd) | (with_reducible apply Blk.resetSlot_bnd) | extract_lets | (dsimp +zetaDelta only))

theorem Blk.dropMigration_bnd (b : Blk) (r : Nat) (m : Migration) (e : RegionEntry) (h₀ : QueuesFit b) : QueuesFit (Blk.dropMigration b r m e) := by
  unfold Blk.dropMigration
  repeat (first | with_reducible assumption | (with_reducible apply onMedia_bnd <;> [(intro; rfl); skip]) | (with_reducible apply Blk.onTwill_bnd) | (with_reducible apply Blk.putRegion_bnd) | (with_reducible apply Blk.freeSlot_bnd) | (with_reducible apply Blk.dropJob_bnd) | with_reducible apply onMedia_bnd | (with_reducible refine bnd_foldl (fun c x hc => ?_) _ _ ?_) | with_reducible apply bnd_ite | extract_lets | split | (dsimp +zetaDelta only))

theorem Blk.startDemotion_bnd (b : Blk) (li : Nat) (cand : Option Nat) (h₀ : QueuesFit b) : QueuesFit (Blk.startDemotion b li cand) :=
  keep_bnd (Blk.startDemotion_only (m₀ := [.twill]) b li cand (by decide) (only_refl _ _)) (by decide) h₀

theorem Blk.endMigration_bnd (b : Blk) (r : Nat) (m : Migration) (e : RegionEntry) (h₀ : QueuesFit b) : QueuesFit (Blk.endMigration b r m e) := by
  unfold Blk.endMigration
  repeat (first | with_reducible assumption | (with_reducible apply Blk.onTwill_bnd) | (with_reducible apply Blk.bump_bnd) | (with_reducible apply Blk.putRegion_bnd) | (with_reducible apply Blk.startDemotion_bnd) | (with_reducible apply Blk.journalRec_bnd) | (with_reducible apply Blk.areaNew_bnd) | (with_reducible apply Blk.giveUp_bnd) | (with_reducible refine bnd_foldl (fun c x hc => ?_) _ _ ?_) | with_reducible apply bnd_ite | extract_lets | (dsimp +zetaDelta only))

theorem Blk.dropBroken_bnd (b : Blk) (h₀ : QueuesFit b) : QueuesFit (Blk.dropBroken b) := by
  unfold Blk.dropBroken
  repeat (first | with_reducible assumption | (with_reducible apply Blk.dropMigration_bnd) | (with_reducible refine bnd_foldl (fun c x hc => ?_) _ _ ?_) | with_reducible apply bnd_ite | split)

theorem Blk.startGroups_bnd (b : Blk) (h₀ : QueuesFit b) : QueuesFit (Blk.startGroups b) :=
  keep_bnd (Blk.startGroups_only (m₀ := [.free, .media, .twill, .damask, .tweed]) b (by decide) (only_refl _ _)) (by decide) h₀

theorem Blk.stepMove_bnd (b : Blk) (r : Nat) (h₀ : QueuesFit b) : QueuesFit (Blk.stepMove b r) :=
  keep_bnd (Blk.stepMove_only (m₀ := [.free, .media, .twill, .tweed]) b r (by decide) (only_refl _ _)) (by decide) h₀

theorem Blk.stepArea_bnd (b : Blk) (area : Nat) (h₀ : QueuesFit b) : QueuesFit (Blk.stepArea b area) :=
  keep_bnd (Blk.stepArea_only (m₀ := [.free, .media, .twill, .tweed]) b area (by decide) (only_refl _ _)) (by decide) h₀

theorem Blk.beginPasses_bnd (b : Blk) (h₀ : QueuesFit b) : QueuesFit (Blk.beginPasses b) :=
  keep_bnd (Blk.beginPasses_only (m₀ := [.free, .media, .twill, .tweed]) b (by decide) (only_refl _ _)) (by decide) h₀

theorem Blk.stepMoves_bnd (b : Blk) (h₀ : QueuesFit b) : QueuesFit (Blk.stepMoves b) := by
  unfold Blk.stepMoves
  repeat (first | with_reducible assumption | (with_reducible apply Blk.startGroups_bnd) | (with_reducible apply Blk.stepMove_bnd) | (with_reducible apply Blk.stepArea_bnd) | (with_reducible apply Blk.stepRebuild_bnd) | (with_reducible apply Blk.beginPasses_bnd) | (with_reducible apply Blk.dropBroken_bnd) | (with_reducible refine bnd_foldl (fun c x hc => ?_) _ _ ?_) | with_reducible apply bnd_ite | extract_lets | (dsimp +zetaDelta only))

theorem Blk.drive_bnd (b : Blk) (h₀ : QueuesFit b) : QueuesFit (Blk.drive b) := by
  unfold Blk.drive
  repeat (first | with_reducible assumption | (with_reducible apply Blk.issueRecords_bnd) | (with_reducible apply Blk.advanceJobs_bnd) | (with_reducible apply Blk.stepMoves_bnd) | with_reducible apply bnd_ite)

theorem Blk.cannotStore_bnd (b : Blk) (li : Nat) (h₀ : QueuesFit b) : QueuesFit (Blk.cannotStore b li) := by
  unfold Blk.cannotStore
  repeat (first | with_reducible assumption | (with_reducible apply Blk.onPath_bnd) | (with_reducible apply Blk.poisonLine_bnd) | with_reducible apply bnd_ite)

theorem Blk.startCold_bnd (b : Blk) (w : Work) (li : Nat) (more : List Mem) (h₀ : QueuesFit b) : QueuesFit (Blk.startCold b w li more) :=
  keep_bnd (Blk.startCold_only (m₀ := [.free, .media, .twill, .tweed]) b w li more (by decide) (only_refl _ _)) (by decide) h₀

theorem Blk.countStall_bnd (b : Blk) (stall : Bool) (h₀ : QueuesFit b) : QueuesFit (Blk.countStall b stall) :=
  keep_bnd (Blk.countStall_only (m₀ := [.od, .tweed]) b stall (by decide) (only_refl _ _)) (by decide) h₀

theorem Blk.coldBuffer_bnd (b0 : Blk) (n : Nat) (x : HBuf) (e : EgressErr) (h₀ : QueuesFit b0) : QueuesFit (Blk.coldBuffer b0 n x e) := by
  unfold Blk.coldBuffer
  repeat (first | with_reducible assumption | (with_reducible apply Blk.report_bnd) | (with_reducible apply Blk.bufferDone_bnd) | (with_reducible apply Blk.egress_bnd) | (with_reducible apply Blk.startCold_bnd) | (with_reducible apply Blk.cannotStore_bnd) | (with_reducible apply Blk.countStall_bnd) | with_reducible apply bnd_ite | extract_lets | split | (dsimp +zetaDelta only))

theorem Blk.coldThrough_bnd (b0 : Blk) (li : Nat) (e : EgressErr) (h₀ : QueuesFit b0) : QueuesFit (Blk.coldThrough b0 li e) := by
  unfold Blk.coldThrough
  repeat (first | with_reducible assumption | (with_reducible apply Blk.completeWrites_bnd) | (with_reducible apply Blk.egress_bnd) | (with_reducible apply Blk.throughAgain_bnd) | (with_reducible apply Blk.startCold_bnd) | (with_reducible apply Blk.cannotStore_bnd) | (with_reducible apply Blk.countStall_bnd) | with_reducible apply bnd_ite | extract_lets | split | (dsimp +zetaDelta only))

theorem Blk.markUsed_bnd (b : Blk) (li : Nat) (h₀ : QueuesFit b) : QueuesFit (Blk.markUsed b li) :=
  keep_bnd (Blk.markUsed_only (m₀ := [.velvet]) b li (by decide) (only_refl _ _)) (by decide) h₀

theorem Blk.wasteCopy_bnd (b : Blk) (slot stripe : Nat) (h₀ : QueuesFit b) : QueuesFit (Blk.wasteCopy b slot stripe) :=
  keep_bnd (Blk.wasteCopy_only (m₀ := [.twill]) b slot stripe (by decide) (only_refl _ _)) (by decide) h₀

theorem Blk.applySwitch_bnd (b : Blk) (li : Nat) (why : ProgFor) (since : Nat) (h₀ : QueuesFit b) : QueuesFit (Blk.applySwitch b li why since) := by
  unfold Blk.applySwitch
  repeat (first | with_reducible assumption | (with_reducible apply Blk.setHot_bnd) | (with_reducible apply Blk.bufferDone_bnd) | (with_reducible apply Blk.throughDone_bnd) | (with_reducible apply Blk.dropJob_bnd) | (with_reducible apply Blk.jobEffect_bnd) | (with_reducible apply Blk.markUsed_bnd) | (with_reducible apply Blk.wasteCopy_bnd) | split)

theorem Blk.switchLine_bnd (b : Blk) (li : Nat) (why : ProgFor) (since : Nat) (h₀ : QueuesFit b) : QueuesFit (Blk.switchLine b li why since) := by
  unfold Blk.switchLine
  repeat (first | with_reducible assumption | (with_reducible apply onMedia_bnd <;> [(intro; rfl); skip]) | (with_reducible apply Blk.applySwitch_bnd) | with_reducible apply onMedia_bnd | with_reducible apply bnd_ite)

theorem Blk.pumpSwitches_bnd (b : Blk) (h₀ : QueuesFit b) : QueuesFit (Blk.pumpSwitches b) := by
  unfold Blk.pumpSwitches
  repeat (first | with_reducible assumption | (with_reducible apply onMedia_bnd <;> [(intro; rfl); skip]) | (with_reducible apply Blk.switchLine_bnd) | with_reducible apply onMedia_bnd | (with_reducible refine bnd_foldl (fun c x hc => ?_) _ _ ?_))

theorem Blk.keepWay_bnd (b : Blk) (li : Nat) (h₀ : QueuesFit b) : QueuesFit (Blk.keepWay b li) :=
  keep_bnd (Blk.keepWay_only (m₀ := [.twill]) b li (by decide) (only_refl _ _)) (by decide) h₀

theorem Blk.hotWrite_bnd (b : Blk) (n : Nat) (x : HBuf) (lane : Nat) (l : Lane) (h₀ : QueuesFit b) : QueuesFit (Blk.hotWrite b n x lane l) := by
  unfold Blk.hotWrite
  repeat (first | with_reducible assumption | (with_reducible apply Blk.storeLine_bnd) | (with_reducible apply Blk.putBuf_bnd) | (with_reducible apply Blk.program_bnd) | (with_reducible apply Blk.closeFull_bnd) | (with_reducible apply Blk.takePosition_bnd) | (with_reducible apply Blk.keepWay_bnd) | (with_reducible apply Blk.switchLine_bnd) | with_reducible apply bnd_ite | extract_lets | (dsimp +zetaDelta only))

theorem Blk.closeAfter_bnd (b : Blk) (why : ProgFor) (h₀ : QueuesFit b) : QueuesFit (b.closeAfter why) := by
  cases why <;> first | exact h₀ | (apply Blk.closeFull_bnd; exact h₀)

theorem Blk.programStored_bnd (b : Blk) (why : ProgFor) (since : Nat) (h₀ : QueuesFit b) : QueuesFit (Blk.programStored b why since) := by
  unfold Blk.programStored
  extract_lets b1
  have hb : QueuesFit b1 := Blk.closeAfter_bnd b why h₀
  clear_value b1
  repeat (first | with_reducible assumption | (with_reducible apply onMedia_bnd <;> [(intro; rfl); skip]) | (with_reducible apply Blk.recordStored_bnd) | (with_reducible apply Blk.onJob_bnd) | (with_reducible apply Blk.dropJob_bnd) | (with_reducible apply Blk.wasteCopy_bnd) | (with_reducible apply Blk.switchLine_bnd) | (with_reducible apply Blk.closeAfter_bnd) | split)

theorem Blk.closeFailed_bnd (b : Blk) (slot stripe : Nat) (h₀ : QueuesFit b) : QueuesFit (Blk.closeFailed b slot stripe) := by
  unfold Blk.closeFailed
  repeat (first | with_reducible assumption | (with_reducible apply Blk.onTwill_bnd) | (with_reducible apply Blk.closeStripe_bnd) | extract_lets | split | (dsimp +zetaDelta only))

theorem Blk.saveLine_bnd (b : Blk) (loc : Nat) (c : MLine) (h₀ : QueuesFit b) : QueuesFit (Blk.saveLine b loc c) :=
  keep_bnd (Blk.saveLine_only (m₀ := [.twill]) b loc c (by decide) (only_refl _ _)) (by decide) h₀

theorem Blk.jobFailed_bnd (b : Blk) (j : Nat) (x : Mem) (loc : Nat) (c : MLine) (h₀ : QueuesFit b) : QueuesFit (Blk.jobFailed b j x loc c) := by
  unfold Blk.jobFailed
  repeat (first | with_reducible assumption | (with_reducible apply Blk.putBuf_bnd) | (with_reducible apply Blk.abandonDemotion_bnd) | (with_reducible apply Blk.onJob_bnd) | (with_reducible apply Blk.throughAgain_bnd) | (with_reducible apply Blk.leaveSlot_bnd) | (with_reducible apply Blk.saveLine_bnd) | with_reducible apply bnd_ite | extract_lets | split | (dsimp +zetaDelta only))

theorem Blk.retireLocation_bnd (b : Blk) (pid line : Nat) (c : MLine) (why : ProgFor) (h₀ : QueuesFit b) : QueuesFit (Blk.retireLocation b pid line c why) := by
  unfold Blk.retireLocation
  repeat (first | with_reducible assumption | (with_reducible apply onMedia_bnd <;> [(intro; rfl); skip]) | (with_reducible apply Blk.onTwill_bnd) | (with_reducible apply Blk.reportUnit_bnd) | (with_reducible apply Blk.storeLine_bnd) | (with_reducible apply Blk.putBuf_bnd) | (with_reducible apply Blk.recordAgain_bnd) | (with_reducible apply Blk.onJob_bnd) | (with_reducible apply Blk.tileFailure_bnd) | (with_reducible apply Blk.throughAgain_bnd) | (with_reducible apply Blk.leaveSlot_bnd) | (with_reducible apply Blk.closeFailed_bnd) | (with_reducible apply Blk.jobFailed_bnd) | with_reducible apply onMedia_bnd | with_reducible apply bnd_ite | extract_lets | split | (dsimp +zetaDelta only))

theorem Blk.reprogram_bnd (b : Blk) (pid line : Nat) (c : MLine) (why : ProgFor) (ovw : Bool) (tries : Nat) (h₀ : QueuesFit b) : QueuesFit (Blk.reprogram b pid line c why ovw tries) := by
  unfold Blk.reprogram
  repeat (first | with_reducible assumption | (with_reducible apply Blk.tw_bnd) | (with_reducible apply Blk.twChan_bnd) | (with_reducible apply Blk.onPart_bnd) | (with_reducible apply Blk.countWrites_bnd) | (with_reducible apply Blk.sendProgram_bnd) | (with_reducible apply Blk.program_bnd) | with_reducible apply bnd_ite)

theorem Blk.verifyEnds_bnd (b : Blk) (pid : Nat) (same : Bool) (h₀ : QueuesFit b) : QueuesFit (Blk.verifyEnds b pid same) := by
  unfold Blk.verifyEnds
  repeat (first | with_reducible assumption | (with_reducible apply Blk.onPart_bnd) | (with_reducible apply Blk.programStored_bnd) | (with_reducible apply Blk.retireLocation_bnd) | (with_reducible apply Blk.reprogram_bnd) | with_reducible apply bnd_ite | split)

theorem Blk.dieBusy_bnd (b : Blk) (d ns : Nat) (h₀ : QueuesFit b) : QueuesFit (Blk.dieBusy b d ns) :=
  keep_bnd (Blk.dieBusy_only (m₀ := [.media, .tweed]) b d ns (by decide) (only_refl _ _)) (by decide) h₀

theorem Blk.askVerify_bnd (b : Blk) (pid : Nat) (h₀ : QueuesFit b) : QueuesFit (Blk.askVerify b pid) :=
  keep_bnd (Blk.askVerify_only (m₀ := [.media]) b pid (by decide) (only_refl _ _)) (by decide) h₀

theorem Blk.programEnds_bnd (b0 : Blk) (pid : Nat) (ok : Bool) (h₀ : QueuesFit b0) : QueuesFit (Blk.programEnds b0 pid ok) := by
  unfold Blk.programEnds
  repeat (first | with_reducible assumption | (with_reducible apply onMedia_bnd <;> [(intro; rfl); skip]) | (with_reducible apply Blk.bump_bnd) | (with_reducible apply Blk.dieBusy_bnd) | (with_reducible apply Blk.onPart_bnd) | (with_reducible apply Blk.storeLine_bnd) | (with_reducible apply Blk.program_bnd) | (with_reducible apply Blk.programStored_bnd) | (with_reducible apply Blk.retireLocation_bnd) | (with_reducible apply Blk.askVerify_bnd) | with_reducible apply onMedia_bnd | (with_reducible refine bnd_foldl (fun c x hc => ?_) _ _ ?_) | with_reducible apply bnd_ite | extract_lets | split | (dsimp +zetaDelta only))

theorem Blk.goOn_bnd (b : Blk) (d : Nat) (h₀ : QueuesFit b) : QueuesFit (Blk.goOn b d) := by
  unfold Blk.goOn
  repeat (first | with_reducible assumption | (with_reducible apply Blk.pump_bnd) | (with_reducible apply Blk.drive_bnd) | (with_reducible apply Blk.pumpSwitches_bnd))

theorem Blk.payOwed_bnd (b : Blk) (ch : Nat) (h₀ : QueuesFit b) : QueuesFit (Blk.payOwed b ch) := by
  unfold Blk.payOwed
  repeat (first | with_reducible assumption | (with_reducible apply onMedia_bnd <;> [(intro; rfl); skip]) | (with_reducible apply Blk.program_bnd) | with_reducible apply onMedia_bnd | (with_reducible refine bnd_foldl (fun c x hc => ?_) _ _ ?_) | with_reducible apply bnd_ite | extract_lets | split | (dsimp +zetaDelta only))

theorem Blk.blankTiles_bnd (b : Blk) (pid tile count : Nat) (h₀ : QueuesFit b) : QueuesFit (Blk.blankTiles b pid tile count) :=
  keep_bnd (Blk.blankTiles_only (m₀ := [.lines, .media]) b pid tile count (by decide) (only_refl _ _)) (by decide) h₀

theorem Blk.retireTile_bnd (b : Blk) (key : Nat) (h₀ : QueuesFit b) : QueuesFit (Blk.retireTile b key) :=
  keep_bnd (Blk.retireTile_only (m₀ := [.twill]) b key (by decide) (only_refl _ _)) (by decide) h₀

theorem Blk.resetEnds_bnd (b : Blk) (pid : Nat) (ok : Bool) (h₀ : QueuesFit b) : QueuesFit (Blk.resetEnds b pid ok) := by
  unfold Blk.resetEnds
  repeat (first | with_reducible assumption | (with_reducible apply Blk.bump_bnd) | (with_reducible apply Blk.reportUnit_bnd) | (with_reducible apply Blk.dieBusy_bnd) | (with_reducible apply Blk.onPart_bnd) | (with_reducible apply Blk.resetOver_bnd) | (with_reducible apply Blk.tileFailure_bnd) | (with_reducible apply Blk.blankTiles_bnd) | (with_reducible apply Blk.retireTile_bnd) | with_reducible apply bnd_ite | extract_lets | split | (dsimp +zetaDelta only))

theorem Blk.sendDie_bnd (b : Blk) (d : Nat) (c : DieCmd) (h₀ : QueuesFit b) : QueuesFit (Blk.sendDie b d c) :=
  keep_bnd (Blk.sendDie_only (m₀ := [.out, .media]) b d c (by decide) (only_refl _ _)) (by decide) h₀

theorem Blk.makeWay_bnd (b : Blk) (pid : Nat) (h₀ : QueuesFit b) : QueuesFit (Blk.makeWay b pid).1 := by
  unfold Blk.makeWay
  repeat (first | with_reducible assumption | (with_reducible apply Blk.twChan_bnd) | (with_reducible apply Blk.onPart_bnd) | (with_reducible apply Blk.sendDie_bnd) | (with_reducible apply Blk.program_bnd) | with_reducible apply bnd_ite | extract_lets | split | with_reducible apply bnd_ite_fst | dsimp only | (dsimp +zetaDelta only))

theorem Blk.twDie_bnd (b : Blk) (d event c : Nat) (h₀ : QueuesFit b) : QueuesFit (Blk.twDie b d event c) :=
  keep_bnd (Blk.twDie_only (m₀ := [.tweed]) b d event c (by decide) (only_refl _ _)) (by decide) h₀

theorem Blk.openCells_bnd (b : Blk) (d a n : Nat) (h₀ : QueuesFit b) : QueuesFit (Blk.openCells b d a n) :=
  keep_bnd (Blk.openCells_only (m₀ := [.gauze]) b d a n (by decide) (only_refl _ _)) (by decide) h₀

theorem Blk.occupy_bnd (b : Blk) (pid line : Nat) (seq : BitVec 3) (t : Nat) (h₀ : QueuesFit b) : QueuesFit (Blk.occupy b pid line seq t) :=
  keep_bnd (Blk.occupy_only (m₀ := [.free, .media]) b pid line seq t (by decide) (only_refl _ _)) (by decide) h₀

theorem Blk.issue_bnd (b : Blk) (pid : Nat) (t : ReadTask) (h₀ : QueuesFit b) : QueuesFit (Blk.issue b pid t) := by
  unfold Blk.issue
  repeat (first | with_reducible assumption | (with_reducible apply Blk.tw_bnd) | (with_reducible apply Blk.twChan_bnd) | (with_reducible apply Blk.twDie_bnd) | (with_reducible apply Blk.dieBusy_bnd) | (with_reducible apply Blk.onPart_bnd) | (with_reducible apply Blk.onAcc_bnd) | (with_reducible apply Blk.sendDie_bnd) | (with_reducible apply Blk.program_bnd) | (with_reducible apply Blk.openCells_bnd) | (with_reducible apply Blk.makeWay_bnd) | (with_reducible apply Blk.occupy_bnd) | with_reducible apply bnd_ite | extract_lets | split | (dsimp +zetaDelta only))

theorem Blk.openOwn_bnd (b : Blk) (rid : Nat) (a : Acc) (p : Place) (e : DpErr) (h₀ : QueuesFit b) : QueuesFit (Blk.openOwn b rid a p e) := by
  unfold Blk.openOwn
  repeat (first | with_reducible assumption | (with_reducible apply Blk.onAcc_bnd) | (with_reducible apply Blk.lineData_bnd) | (with_reducible apply Blk.reconOnce_bnd) | with_reducible apply bnd_ite | split)

theorem Blk.resumeHeld_bnd (b : Blk) (x : Acc) (e : DpErr) (h₀ : QueuesFit b) : QueuesFit (Blk.resumeHeld b x e) := by
  unfold Blk.resumeHeld
  repeat (first | with_reducible assumption | (with_reducible apply Blk.onAcc_bnd) | (with_reducible apply Blk.lineData_bnd) | (with_reducible apply Blk.startRead_bnd) | (with_reducible apply Blk.openOwn_bnd) | with_reducible apply bnd_ite | split)

theorem Blk.tagArrives_bnd (b : Blk) (ti : Nat) (h₀ : QueuesFit b) : QueuesFit (Blk.tagArrives b ti) := by
  unfold Blk.tagArrives
  repeat (first | with_reducible assumption | (with_reducible apply Blk.onAcc_bnd) | (with_reducible apply Blk.resumeHeld_bnd) | (with_reducible refine bnd_foldl (fun c x hc => ?_) _ _ ?_) | extract_lets | split | (dsimp +zetaDelta only))

theorem Blk.settleTag_bnd (b : Blk) (rid : Nat) (h₀ : QueuesFit b) : QueuesFit (Blk.settleTag b rid) := by
  unfold Blk.settleTag
  repeat (first | with_reducible assumption | (with_reducible apply Blk.onAcc_bnd) | (with_reducible apply Blk.startDeep_bnd) | (with_reducible apply Blk.tagArrives_bnd) | (with_reducible refine bnd_foldl (fun c x hc => ?_) _ _ ?_) | with_reducible apply bnd_ite | split)

theorem Blk.settleLists_bnd (b : Blk) (h₀ : QueuesFit b) : QueuesFit (Blk.settleLists b) := by
  unfold Blk.settleLists
  repeat (first | with_reducible assumption | (with_reducible apply Blk.onAcc_bnd) | (with_reducible apply Blk.resumeHeld_bnd) | (with_reducible refine bnd_foldl (fun c x hc => ?_) _ _ ?_) | split)

theorem Blk.settleTags_bnd (b : Blk) (h₀ : QueuesFit b) : QueuesFit (Blk.settleTags b) := by
  unfold Blk.settleTags
  repeat (first | with_reducible assumption | (with_reducible apply Blk.settleTag_bnd) | (with_reducible apply Blk.settleLists_bnd) | (with_reducible refine bnd_foldl (fun c x hc => ?_) _ _ ?_))

theorem Blk.marginOn_bnd (b : Blk) (pid : Nat) (h₀ : QueuesFit b) : QueuesFit (Blk.marginOn b pid) :=
  keep_bnd (Blk.marginOn_only (m₀ := [.free, .out, .media, .gauze, .tweed]) b pid (by decide) (only_refl _ _)) (by decide) h₀

theorem Blk.readOn_bnd (b : Blk) (d : Nat) (h₀ : QueuesFit b) : QueuesFit (Blk.readOn b d) := by
  unfold Blk.readOn
  repeat (first | with_reducible assumption | (with_reducible apply Blk.askVerify_bnd) | (with_reducible apply Blk.goOn_bnd) | (with_reducible apply Blk.marginOn_bnd) | (with_reducible apply Blk.settleTags_bnd) | (with_reducible refine bnd_foldl (fun c x hc => ?_) _ _ ?_))

theorem Blk.fromBuffer_bnd (b : Blk) (t : ReadTask) (h₀ : QueuesFit b) : QueuesFit (Blk.fromBuffer b t) := by
  unfold Blk.fromBuffer
  repeat (first | with_reducible assumption | (with_reducible apply Blk.onAcc_bnd) | (with_reducible apply Blk.lineData_bnd) | (with_reducible apply Blk.startRead_bnd) | (with_reducible apply Blk.jobRead_bnd) | (with_reducible apply Blk.openOwn_bnd) | (with_reducible apply Blk.tagArrives_bnd) | with_reducible apply bnd_ite | split)

theorem Blk.replaysExhausted_bnd (b : Blk) (ch : Nat) (h₀ : QueuesFit b) : QueuesFit (Blk.replaysExhausted b ch) := by
  unfold Blk.replaysExhausted
  repeat (first | with_reducible assumption | (with_reducible apply Blk.bump_bnd) | (with_reducible apply Blk.onChan_bnd) | (with_reducible apply Blk.reportUnit_bnd) | (exact ⟨h₀.1, h₀.2, h₀.3, h₀.4, h₀.5⟩) | extract_lets | (dsimp +zetaDelta only) | exact h₀)

theorem Blk.besideReplay_bnd (b : Blk) (t : ReadTask) (h₀ : QueuesFit b) : QueuesFit (Blk.besideReplay b t) := by
  unfold Blk.besideReplay
  repeat (first | with_reducible assumption | (with_reducible apply Blk.tagRecon_bnd) | (with_reducible apply Blk.reconOnce_bnd) | split)

theorem Blk.readLost_bnd (b : Blk) (t : ReadTask) (h₀ : QueuesFit b) : QueuesFit (Blk.readLost b t) := by
  unfold Blk.readLost
  repeat (first | with_reducible assumption | (with_reducible apply Blk.onAcc_bnd) | (with_reducible apply Blk.tagRecon_bnd) | (with_reducible apply Blk.erase_bnd) | (with_reducible apply Blk.reconOnce_bnd) | (with_reducible apply Blk.jobRead_bnd) | (with_reducible apply Blk.verifyEnds_bnd) | split)

theorem Blk.transferFailed_bnd (b : Blk) (pid : Nat) (t : ReadTask) (strobe : Bool) (h₀ : QueuesFit b) : QueuesFit (Blk.transferFailed b pid t strobe) := by
  unfold Blk.transferFailed
  repeat (first | with_reducible assumption | (with_reducible apply Blk.bump_bnd) | (with_reducible apply Blk.twChan_bnd) | (with_reducible apply Blk.onPart_bnd) | (with_reducible apply Blk.sendDie_bnd) | (with_reducible apply Blk.replaysExhausted_bnd) | (with_reducible apply Blk.besideReplay_bnd) | (with_reducible apply Blk.readLost_bnd) | with_reducible apply bnd_ite | extract_lets | (dsimp +zetaDelta only))

theorem Blk.gauge_bnd (b : Blk) (d : Nat) (t : ReadTask) (sg : BitVec 72) (errs : Nat) (h₀ : QueuesFit b) : QueuesFit (Blk.gauge b d t sg errs) :=
  keep_bnd (Blk.gauge_only (m₀ := [.gauze]) b d t sg errs (by decide) (only_refl _ _)) (by decide) h₀

theorem Blk.hardFailure_bnd (b : Blk) (d area : Nat) (h₀ : QueuesFit b) : QueuesFit (Blk.hardFailure b d area) :=
  keep_bnd (Blk.hardFailure_only (m₀ := [.od, .gauze, .tweed]) b d area (by decide) (only_refl _ _)) (by decide) h₀

theorem Blk.weakLine_bnd (b : Blk) (d : Nat) (x : Mem) (h₀ : QueuesFit b) : QueuesFit (Blk.weakLine b d x) :=
  keep_bnd (Blk.weakLine_only (m₀ := [.od, .media, .gauze, .tweed]) b d x (by decide) (only_refl _ _)) (by decide) h₀

theorem Blk.checkLine_bnd (b : Blk) (t : ReadTask) (x : Xfer) (h₀ : QueuesFit b) : QueuesFit (Blk.checkLine b t x).1 := by
  unfold Blk.checkLine
  repeat (first | with_reducible assumption | (with_reducible apply Blk.bump_bnd) | (with_reducible apply Blk.reportUnit_bnd) | (with_reducible apply Blk.twChan_bnd) | (with_reducible apply Blk.gauge_bnd) | (with_reducible apply Blk.hardFailure_bnd) | (with_reducible apply Blk.weakLine_bnd) | with_reducible apply bnd_ite | extract_lets | split | with_reducible apply bnd_ite_fst | dsimp only | (dsimp +zetaDelta only))

theorem Blk.lineRead_bnd (b : Blk) (t : ReadTask) (e : DpErr) (h₀ : QueuesFit b) : QueuesFit (Blk.lineRead b t e) := by
  unfold Blk.lineRead
  repeat (first | with_reducible assumption | (with_reducible apply Blk.onAcc_bnd) | (with_reducible apply Blk.startRead_bnd) | (with_reducible apply Blk.jobRead_bnd) | (with_reducible apply Blk.verifyEnds_bnd) | (with_reducible apply Blk.openOwn_bnd) | (with_reducible apply Blk.tagArrives_bnd) | split)

theorem Blk.transferred_bnd (b : Blk) (t : ReadTask) (x : Xfer) (h₀ : QueuesFit b) : QueuesFit (Blk.transferred b t x) := by
  unfold Blk.transferred
  repeat (first | with_reducible assumption | (with_reducible apply Blk.startRead_bnd) | (with_reducible apply Blk.readLost_bnd) | (with_reducible apply Blk.checkLine_bnd) | (with_reducible apply Blk.lineRead_bnd) | with_reducible apply bnd_ite | extract_lets | split | (dsimp +zetaDelta only))

theorem Blk.phaseSeen_bnd (b : Blk) (d : Nat) (x : Xfer) (h₀ : QueuesFit b) : QueuesFit (Blk.phaseSeen b d x) :=
  keep_bnd (Blk.phaseSeen_only (m₀ := [.media]) b d x (by decide) (only_refl _ _)) (by decide) h₀

theorem Blk.softRead_bnd (b : Blk) (loc : Nat) (h₀ : QueuesFit b) : QueuesFit (Blk.softRead b loc) :=
  keep_bnd (Blk.softRead_only (m₀ := [.path]) b loc (by decide) (only_refl _ _)) (by decide) h₀

theorem Blk.marginTransfer_bnd (b0 : Blk) (pid : Nat) (x : Xfer) (h₀ : QueuesFit b0) : QueuesFit (Blk.marginTransfer b0 pid x) := by
  unfold Blk.marginTransfer
  repeat (first | with_reducible assumption | (with_reducible apply Blk.onPart_bnd) | (with_reducible apply Blk.dieStatus_bnd) | (with_reducible apply Blk.checkLine_bnd) | (with_reducible apply Blk.phaseSeen_bnd) | (with_reducible apply Blk.softRead_bnd) | with_reducible apply bnd_ite | extract_lets | split | (dsimp +zetaDelta only))

theorem Blk.deadlineList_bnd (b : Blk) (d : Deep) (h₀ : QueuesFit b) : QueuesFit (Blk.deadlineList b d) := by
  unfold Blk.deadlineList
  repeat (first | with_reducible assumption | (with_reducible apply Blk.onPath_bnd) | (with_reducible apply Blk.poisonRest_bnd) | with_reducible apply bnd_ite)

theorem Blk.unlistRecovered_bnd (b : Blk) (key : Nat) (was : Bool) (h₀ : QueuesFit b) : QueuesFit (Blk.unlistRecovered b key was) := by
  unfold Blk.unlistRecovered
  repeat (first | with_reducible assumption | (with_reducible apply Blk.unlistHalf_bnd) | with_reducible apply bnd_ite)

theorem Blk.newNonce_bnd (b : Blk) (h₀ : QueuesFit b) : QueuesFit (Blk.newNonce b) := by
  exact ⟨h₀.1, h₀.2, h₀.3, h₀.4, h₀.5⟩

theorem Blk.macFailed_bnd (b : Blk) (h₀ : QueuesFit b) : QueuesFit (Blk.macFailed b) := by
  unfold Blk.macFailed
  repeat (first | with_reducible assumption | ((with_reducible apply can_bnd) <;> [(intro h; exact h); skip]) | (with_reducible apply Blk.bump_bnd) | (with_reducible apply Blk.report_bnd) | (exact ⟨h₀.1, h₀.2, h₀.3, h₀.4, h₀.5⟩) | with_reducible apply bnd_ite | extract_lets | split | (dsimp +zetaDelta only) | exact h₀)

theorem Blk.withMac_bnd (b : Blk) (ctr : BitVec 32) (mac : BitVec 64) (op : Nat) (bytes : List Byte) (f : Blk → Blk) (hf : ∀ c, QueuesFit c → QueuesFit (f c)) (h₀ : QueuesFit b) : QueuesFit (Blk.withMac b ctr mac op bytes f) := by
  unfold Blk.withMac
  repeat (first | with_reducible assumption | ((with_reducible apply can_bnd) <;> [(intro h; exact h); skip]) | (with_reducible apply Blk.newNonce_bnd) | (with_reducible apply Blk.macFailed_bnd) | (exact ⟨h₀.1, h₀.2, h₀.3, h₀.4, h₀.5⟩) | (with_reducible apply hf) | (with_reducible apply bnd_ite) | extract_lets | split | (intro c hc) | exact h₀)

theorem Blk.canStatus_bnd (b : Blk) (tr : BitVec 8) (q : DReq) (st : Nat) (h₀ : QueuesFit b) : QueuesFit (Blk.canStatus b tr q st) :=
  keep_bnd (Blk.canStatus_only (m₀ := [.out]) b tr q st (by decide) (only_refl _ _)) (by decide) h₀

theorem Blk.canAdmit_bnd (b : Blk) (tr : BitVec 8) (maint : Bool) (ctr : BitVec 32) (mac : BitVec 64) (q : DReq) (f : Blk → Blk) (hf : ∀ c, QueuesFit c → QueuesFit (f c)) (h₀ : QueuesFit b) : QueuesFit (Blk.canAdmit b tr maint ctr mac q f) := by
  unfold Blk.canAdmit
  repeat (first | with_reducible assumption | ((with_reducible apply can_bnd) <;> [(intro h; exact h); skip]) | (with_reducible apply Blk.canSend_bnd) | (with_reducible apply Blk.reply_bnd) | (with_reducible apply Blk.withMac_bnd <;> [(intros; try dsimp only); skip]) | (with_reducible apply Blk.canStatus_bnd) | (exact ⟨h₀.1, h₀.2, h₀.3, h₀.4, h₀.5⟩) | (with_reducible apply hf) | (with_reducible apply bnd_ite) | extract_lets | split | (intro c hc) | exact h₀)

theorem Blk.twEngine_bnd (b : Blk) (base : Nat) (h₀ : QueuesFit b) : QueuesFit (Blk.twEngine b base) :=
  keep_bnd (Blk.twEngine_only (m₀ := [.free, .tweed]) b base (by decide) (only_refl _ _)) (by decide) h₀

theorem Blk.touch_bnd (b : Blk) (src : Src) (h₀ : QueuesFit b) : QueuesFit (Blk.touch b src) :=
  keep_bnd (Blk.touch_only (m₀ := [.sesA, .sesB, .sesC]) b src (by decide) (only_refl _ _)) (by decide) h₀

theorem Blk.admitReq_bnd (b : Blk) (src : Src) (q : DReq) (f : Blk → Blk) (hf : ∀ c, QueuesFit c → QueuesFit (f c)) (h₀ : QueuesFit b) : QueuesFit (Blk.admitReq b src q f) := by
  unfold Blk.admitReq
  repeat (first | with_reducible assumption | (with_reducible apply Blk.twEngine_bnd) | (with_reducible apply Blk.touch_bnd) | (with_reducible apply Blk.canAdmit_bnd <;> [(intros; try dsimp only); skip]) | (with_reducible apply hf) | (with_reducible apply bnd_ite) | extract_lets | split | (intro c hc))

theorem Blk.writeReq_bnd (b : Blk) (src : Src) (idx sub : Nat) (val : List Byte) (act : Nat → Blk → Blk) (hf : ∀ v c, QueuesFit c → QueuesFit (act v c)) (h₀ : QueuesFit b) : QueuesFit (Blk.writeReq b src idx sub val act) := by
  unfold Blk.writeReq
  repeat (first | with_reducible assumption | (with_reducible apply Blk.reply_bnd) | (with_reducible apply Blk.admitReq_bnd <;> [(intros; try dsimp only); skip]) | (with_reducible apply hf) | (with_reducible apply bnd_ite) | extract_lets | split | (intro c hc))

theorem Blk.wrote_bnd (b : Blk) (src : Src) (idx sub st : Nat) (h₀ : QueuesFit b) : QueuesFit (Blk.wrote b src idx sub st) := by
  unfold Blk.wrote
  repeat (first | with_reducible assumption | (with_reducible apply Blk.reply_bnd))

theorem Blk.putBulk_bnd (b : Blk) (src : Src) (x : Option Bulk) (h₀ : QueuesFit b) : QueuesFit (Blk.putBulk b src x) := by
  unfold Blk.putBulk
  repeat (first | with_reducible assumption | ((with_reducible apply head_bnd) <;> [(intro h; exact h); skip]) | ((with_reducible apply can_bnd) <;> [(intro h; exact h); skip]) | (exact ⟨h₀.1, h₀.2, h₀.3, h₀.4, h₀.5⟩) | split | exact h₀)

theorem Blk.bulkAnswer_bnd (b : Blk) (src : Src) (op idx sub st : Nat) (total crc : Nat := 0) (chunk : List Byte := []) (h₀ : QueuesFit b) : QueuesFit (Blk.bulkAnswer b src op idx sub st total crc chunk) := by
  unfold Blk.bulkAnswer
  repeat (first | with_reducible assumption | (with_reducible apply Blk.mbReply_bnd) | (with_reducible apply Blk.reply_bnd) | with_reducible apply bnd_ite | split)

theorem Blk.openRefused_bnd (b : Blk) (idx sub st : Nat) (h₀ : QueuesFit b) : QueuesFit (Blk.openRefused b idx sub st) :=
  keep_bnd (Blk.openRefused_only (m₀ := [.od]) b idx sub st (by decide) (only_refl _ _)) (by decide) h₀

theorem Blk.objectReq_bnd (b : Blk) (src : Src) (idx sub : Nat) (bytes : List Byte) (apply : Blk → Blk × Nat) (hf : ∀ c, QueuesFit c → QueuesFit (apply c).1) (h₀ : QueuesFit b) : QueuesFit (Blk.objectReq b src idx sub bytes apply) := by
  unfold Blk.objectReq
  repeat (first | with_reducible assumption | (with_reducible apply Blk.admitReq_bnd <;> [(intros; try dsimp only); skip]) | (with_reducible apply Blk.bulkAnswer_bnd) | (with_reducible apply Blk.openRefused_bnd) | (with_reducible apply hf) | (with_reducible apply bnd_ite) | extract_lets | split | (intro c hc))

theorem Blk.startRange_bnd (b : Blk) (src : Src) (code : Nat) (h₀ : QueuesFit b) : QueuesFit (Blk.startRange b src code) := by
  unfold Blk.startRange
  repeat (first | with_reducible assumption | (with_reducible apply Blk.onVelvet_bnd) | (with_reducible apply Blk.odSet_bnd) | (with_reducible apply Blk.maintain_bnd) | (with_reducible apply Blk.wrote_bnd) | with_reducible apply bnd_ite | extract_lets | (dsimp +zetaDelta only))

theorem Blk.startLine_bnd (b : Blk) (src : Src) (sub op : Nat) (li : Option Nat) (h₀ : QueuesFit b) : QueuesFit (Blk.startLine b src sub op li) := by
  unfold Blk.startLine
  repeat (first | with_reducible assumption | (with_reducible apply Blk.odSet_bnd) | (with_reducible apply Blk.maintOps_bnd) | (with_reducible apply Blk.wrote_bnd) | with_reducible apply bnd_ite | extract_lets | split | (dsimp +zetaDelta only))

theorem Blk.byAddress_bnd (b : Blk) (src : Src) (v : Nat) (h₀ : QueuesFit b) : QueuesFit (Blk.byAddress b src v) := by
  unfold Blk.byAddress
  repeat (first | with_reducible assumption | (with_reducible apply Blk.startLine_bnd))

theorem Blk.bySetWay_bnd (b : Blk) (src : Src) (v : Nat) (h₀ : QueuesFit b) : QueuesFit (Blk.bySetWay b src v) := by
  unfold Blk.bySetWay
  repeat (first | with_reducible assumption | (with_reducible apply Blk.startLine_bnd))

theorem Blk.ringHint_bnd (b : Blk) (h : Head) (r : BitVec 128) (h₀ : QueuesFit b) : QueuesFit (Blk.ringHint b h r) := by
  unfold Blk.ringHint
  extract_lets
  refine bnd_ite (head_bnd (fun h => ⟨h.1, Nat.le_trans (List.length_filter_le _ _) h.2.1, h.2.2⟩) h₀) (bnd_ite' (fun _ => ?_) (fun hn => ?_))
  · repeat (first | with_reducible assumption | ((with_reducible apply head_bnd) <;> [(intro h; exact h); skip]) | (with_reducible apply Blk.bump_bnd) | (with_reducible apply Blk.twHead_bnd))
  · have hh : (b.head h).hints.length < 256 := by omega
    have h1 : ∀ n : Nat × Nat, QueuesFit (b.onHead h fun s => { s with hints := s.hints ++ [n] }) := fun n =>
      head_bnd (fun hf => ⟨hf.1, by simp only [List.length_append, List.length_singleton]; omega, hf.2.2⟩) h₀
    repeat (first | with_reducible assumption | (with_reducible apply Blk.bump_bnd) | (with_reducible apply Blk.twHead_bnd) | exact h1 _)

theorem Blk.cleanCovered_bnd (b : Blk) (h₀ : QueuesFit b) : QueuesFit (Blk.cleanCovered b) :=
  keep_bnd (Blk.cleanCovered_only (m₀ := [.velvet]) b (by decide) (only_refl _ _)) (by decide) h₀

theorem Blk.openBarrier_bnd (b : Blk) (src : Src) (h₀ : QueuesFit b) : QueuesFit (Blk.openBarrier b src) := by
  unfold Blk.openBarrier
  repeat (first | with_reducible assumption | (with_reducible apply Blk.onPath_bnd) | (with_reducible apply Blk.odSet_bnd) | (with_reducible apply Blk.wrote_bnd) | (with_reducible apply Blk.cleanCovered_bnd) | with_reducible apply bnd_ite | extract_lets | (dsimp +zetaDelta only))

theorem Blk.mbox_bnd (b : Blk) (h : Head) (f : Blk → Blk) (hf : ∀ c, QueuesFit c → QueuesFit (f c)) (h₀ : QueuesFit b) : QueuesFit (Blk.mbox b h f) := by
  unfold Blk.mbox
  repeat (first | with_reducible assumption | (with_reducible apply hf) | (with_reducible apply bnd_ite) | extract_lets | split | (intro c hc))

theorem Blk.putInactive_bnd (b : Blk) (v : Option FwImage) (h₀ : QueuesFit b) : QueuesFit (Blk.putInactive b v) := by
  unfold Blk.putInactive
  repeat (first | with_reducible assumption | ((with_reducible apply felt_bnd) <;> [(intro _ h; exact h); skip]) | with_reducible apply bnd_ite)

theorem Blk.alertCheck_bnd (b : Blk) (h₀ : QueuesFit b) : QueuesFit (Blk.alertCheck b) := by
  unfold Blk.alertCheck
  repeat (first | with_reducible assumption | (with_reducible apply Blk.onDev_bnd) | (with_reducible apply Blk.report_bnd) | (with_reducible refine bnd_foldl (fun c x hc => ?_) _ _ ?_) | with_reducible apply bnd_ite | extract_lets | (dsimp +zetaDelta only))

theorem Blk.dropWayHalf_bnd (b : Blk) (h : Head) (key : Nat) (h₀ : QueuesFit b) : QueuesFit (Blk.dropWayHalf b h key) := by
  unfold Blk.dropWayHalf
  repeat (first | with_reducible assumption | (with_reducible apply Blk.putWay_bnd) | (with_reducible apply Blk.startFill_bnd) | with_reducible apply bnd_ite | extract_lets | split | (dsimp +zetaDelta only))

theorem Blk.dropBufHalf_bnd (b : Blk) (key : Nat) (h₀ : QueuesFit b) : QueuesFit (Blk.dropBufHalf b key) :=
  keep_bnd (Blk.dropBufHalf_only (m₀ := [.free, .velvet]) b key (by decide) (only_refl _ _)) (by decide) h₀

theorem Blk.dropHalf_bnd (b : Blk) (h : Head) (key : Nat) (h₀ : QueuesFit b) : QueuesFit (Blk.dropHalf b h key) := by
  unfold Blk.dropHalf
  repeat (first | with_reducible assumption | (with_reducible apply Blk.dropWayHalf_bnd) | (with_reducible apply Blk.dropBufHalf_bnd))

theorem Blk.feltRefused_bnd (b : Blk) (h₀ : QueuesFit b) : QueuesFit (Blk.feltRefused b) := by
  unfold Blk.feltRefused
  repeat (first | with_reducible assumption | (with_reducible apply Blk.bump_bnd) | (with_reducible apply Blk.report_bnd))

theorem Blk.putCopy_bnd (b : Blk) (item : Nat) (h₀ : QueuesFit b) : QueuesFit (Blk.putCopy b item) := by
  unfold Blk.putCopy
  repeat (first | with_reducible assumption | ((with_reducible apply felt_bnd) <;> [(intro _ h; exact h); skip]) | extract_lets | (dsimp +zetaDelta only))

theorem Blk.dropCopies_bnd (b : Blk) (item : Nat) (h₀ : QueuesFit b) : QueuesFit (Blk.dropCopies b item) := by
  unfold Blk.dropCopies
  repeat (first | with_reducible assumption | ((with_reducible apply felt_bnd) <;> [(intro _ h; exact h); skip]))

theorem Blk.directoryWrite_bnd (b : Blk) (h₀ : QueuesFit b) : QueuesFit (Blk.directoryWrite b) := by
  unfold Blk.directoryWrite
  repeat (first | with_reducible assumption | ((with_reducible apply felt_bnd) <;> [(intro _ h; exact h); skip]) | (with_reducible apply Blk.putCopy_bnd) | extract_lets | (dsimp +zetaDelta only))

theorem Blk.bump32_bnd (b : Blk) (idx sub n : Nat) (h₀ : QueuesFit b) : QueuesFit (Blk.bump32 b idx sub n) :=
  keep_bnd (Blk.bump32_only (m₀ := [.od]) b idx sub n (by decide) (only_refl _ _)) (by decide) h₀

theorem Blk.pageWrite_bnd (b : Blk) (key : Nat) (h₀ : QueuesFit b) : QueuesFit (Blk.pageWrite b key) := by
  unfold Blk.pageWrite
  repeat (first | with_reducible assumption | ((with_reducible apply felt_bnd) <;> [(intro _ h; exact h); skip]) | ((with_reducible apply linen_bnd) <;> [(intro h; exact h); skip]) | (with_reducible apply Blk.bump32_bnd) | (with_reducible apply Blk.report_bnd) | (with_reducible apply Blk.directoryWrite_bnd) | with_reducible apply bnd_ite | extract_lets | (dsimp +zetaDelta only))

theorem Blk.itemWrite_bnd (b : Blk) (item : Nat) (h₀ : QueuesFit b) : QueuesFit (Blk.itemWrite b item) := by
  unfold Blk.itemWrite
  repeat (first | with_reducible assumption | ((with_reducible apply felt_bnd) <;> [(intro _ h; exact h); skip]) | (with_reducible apply Blk.bump32_bnd) | (with_reducible apply Blk.report_bnd) | (with_reducible apply Blk.putCopy_bnd) | (with_reducible apply Blk.directoryWrite_bnd) | (with_reducible apply Blk.pageWrite_bnd) | with_reducible apply bnd_ite | extract_lets | (dsimp +zetaDelta only))

theorem Blk.saveCounters_bnd (b : Blk) (exact : Bool) (h₀ : QueuesFit b) : QueuesFit (Blk.saveCounters b exact) := by
  unfold Blk.saveCounters
  repeat (first | with_reducible assumption | ((with_reducible apply felt_bnd) <;> [(intro _ h; exact h); skip]) | (with_reducible apply Blk.itemWrite_bnd) | with_reducible apply bnd_ite)

theorem Blk.cycleUp_bnd (b : Blk) (h₀ : QueuesFit b) : QueuesFit (Blk.cycleUp b) := by
  unfold Blk.cycleUp
  repeat (first | with_reducible assumption | ((with_reducible apply felt_bnd) <;> [(intro _ h; exact h); skip]) | (with_reducible apply Blk.pageWrite_bnd) | extract_lets | (dsimp +zetaDelta only))

theorem Blk.dirtyUp_bnd (b : Blk) (h₀ : QueuesFit b) : QueuesFit (Blk.dirtyUp b) := by
  unfold Blk.dirtyUp
  repeat (first | with_reducible assumption | ((with_reducible apply felt_bnd) <;> [(intro _ h; exact h); skip]) | (with_reducible apply Blk.report_bnd) | (with_reducible apply Blk.pageWrite_bnd) | extract_lets | (dsimp +zetaDelta only))

theorem Blk.escrowChanged_bnd (b : Blk) (h₀ : QueuesFit b) : QueuesFit (Blk.escrowChanged b) := by
  unfold Blk.escrowChanged
  repeat (first | with_reducible assumption | (with_reducible apply Blk.report_bnd))

theorem Blk.putKek_bnd (b : Blk) (key : BitVec 256) (h₀ : QueuesFit b) : QueuesFit (Blk.putKek b key) := by
  unfold Blk.putKek
  repeat (first | with_reducible assumption | ((with_reducible apply hA_bnd) <;> [(intro h; exact h); skip]) | ((with_reducible apply hB_bnd) <;> [(intro h; exact h); skip]) | (with_reducible apply Blk.onDamask_bnd) | (with_reducible apply Blk.itemWrite_bnd) | (with_reducible apply Blk.escrowChanged_bnd) | with_reducible apply bnd_ite | extract_lets | (dsimp +zetaDelta only))

theorem Blk.applyKek_bnd (b : Blk) (bytes : List Byte) (h₀ : QueuesFit b) : QueuesFit (Blk.applyKek b bytes).1 := by
  unfold Blk.applyKek
  repeat (first | with_reducible assumption | (with_reducible apply Blk.putKek_bnd) | with_reducible apply bnd_ite | with_reducible apply bnd_ite_fst | dsimp only)

theorem Blk.bind_bnd (b : Blk) (h₀ : QueuesFit b) : QueuesFit (Blk.bind b) := by
  unfold Blk.bind
  repeat (first | with_reducible assumption | (with_reducible apply Blk.onDamask_bnd) | (with_reducible apply Blk.putOwnLine_bnd) | (with_reducible refine bnd_foldl (fun c x hc => ?_) _ _ ?_) | extract_lets | (dsimp +zetaDelta only))

theorem Blk.boundNow_bnd (b : Blk) (h₀ : QueuesFit b) : QueuesFit (Blk.boundNow b) :=
  keep_bnd (Blk.boundNow_only (m₀ := [.damask, .modes]) b (by decide) (only_refl _ _)) (by decide) h₀

theorem Blk.applyEscrow_bnd (b : Blk) (bytes : List Byte) (h₀ : QueuesFit b) : QueuesFit (Blk.applyEscrow b bytes).1 := by
  unfold Blk.applyEscrow
  repeat (first | with_reducible assumption | (with_reducible apply Blk.onDamask_bnd) | (with_reducible apply Blk.odSet_bnd) | (with_reducible apply Blk.report_bnd) | (with_reducible apply Blk.itemWrite_bnd) | (with_reducible apply Blk.escrowChanged_bnd) | (with_reducible apply Blk.bind_bnd) | (with_reducible apply Blk.boundNow_bnd) | with_reducible apply bnd_ite | extract_lets | with_reducible apply bnd_ite_fst | dsimp only | (dsimp +zetaDelta only))

theorem Blk.unlockRegion_bnd (b : Blk) (src : Src) (r : Nat) (h₀ : QueuesFit b) : QueuesFit (Blk.unlockRegion b src r) := by
  unfold Blk.unlockRegion
  repeat (first | with_reducible assumption | (with_reducible apply Blk.onDamask_bnd) | (with_reducible apply Blk.wrote_bnd))

theorem Blk.resetCount_bnd (b : Blk) (src : Src) (r : Nat) (h₀ : QueuesFit b) : QueuesFit (Blk.resetCount b src r) := by
  unfold Blk.resetCount
  repeat (first | with_reducible assumption | (with_reducible apply Blk.onDamask_bnd) | (with_reducible apply Blk.wrote_bnd) | split)

theorem Blk.rekeyGroup_bnd (b : Blk) (r e : Nat) (h₀ : QueuesFit b) : QueuesFit (Blk.rekeyGroup b r e) := by
  unfold Blk.rekeyGroup
  repeat (first | with_reducible assumption | (with_reducible apply Blk.onDamask_bnd) | (with_reducible apply Blk.bump_bnd) | (with_reducible apply Blk.drive_bnd) | with_reducible apply bnd_ite | split)

theorem Blk.pinGroups_bnd (b : Blk) (r : Nat) (h₀ : QueuesFit b) : QueuesFit (Blk.pinGroups b r) := by
  unfold Blk.pinGroups
  repeat (first | with_reducible assumption | (with_reducible apply Blk.onDamask_bnd) | (with_reducible apply Blk.report_bnd) | (with_reducible refine bnd_foldl (fun c x hc => ?_) _ _ ?_))

theorem Blk.onGauze_bnd (b : Blk) (f : Gauze → Gauze) (h₀ : QueuesFit b) : QueuesFit (Blk.onGauze b f) :=
  keep_bnd (Blk.onGauze_only (m₀ := [.gauze]) b f (by decide) (only_refl _ _)) (by decide) h₀

theorem Blk.keepCal_bnd (b : Blk) (h₀ : QueuesFit b) : QueuesFit (Blk.keepCal b) :=
  keep_bnd (Blk.keepCal_only (m₀ := [.gauze]) b (by decide) (only_refl _ _)) (by decide) h₀

theorem Blk.swapped_bnd (b : Blk) (pauseNs : Nat) (h₀ : QueuesFit b) : QueuesFit (Blk.swapped b pauseNs) :=
  keep_bnd (Blk.swapped_only (m₀ := [.od, .muslin, .tweed]) b pauseNs (by decide) (only_refl _ _)) (by decide) h₀

theorem Blk.calImport_bnd (b0 : Blk) (l : List Byte) (h₀ : QueuesFit b0) : QueuesFit (Blk.calImport b0 l) := by
  unfold Blk.calImport
  repeat (first | with_reducible assumption | (with_reducible apply Blk.onMuslin_bnd) | (with_reducible apply Blk.onGauze_bnd) | (with_reducible apply Blk.useFree_bnd) | (with_reducible apply Blk.odSet_bnd) | (with_reducible apply Blk.report_bnd) | (with_reducible apply Blk.keepCal_bnd) | (with_reducible apply Blk.swapped_bnd) | (with_reducible refine bnd_foldl (fun c x hc => ?_) _ _ ?_) | with_reducible apply bnd_ite | extract_lets | (dsimp +zetaDelta only))

theorem Blk.applyCal_bnd (b : Blk) (l : List Byte) (h₀ : QueuesFit b) : QueuesFit (Blk.applyCal b l).1 := by
  unfold Blk.applyCal
  repeat (first | with_reducible assumption | (with_reducible apply Blk.onMuslin_bnd) | (with_reducible apply Blk.odSet_bnd) | (with_reducible apply Blk.calImport_bnd) | with_reducible apply bnd_ite | with_reducible apply bnd_ite_fst | dsimp only)

theorem Blk.clearHistograms_bnd (b : Blk) (src : Src) (h₀ : QueuesFit b) : QueuesFit (Blk.clearHistograms b src) := by
  unfold Blk.clearHistograms
  repeat (first | with_reducible assumption | (with_reducible apply Blk.onGauze_bnd) | (with_reducible apply Blk.wrote_bnd))

theorem Blk.applyMaintKey_bnd (b : Blk) (l : List Byte) (h₀ : QueuesFit b) : QueuesFit (Blk.applyMaintKey b l).1 := by
  unfold Blk.applyMaintKey
  repeat (first | with_reducible assumption | ((with_reducible apply felt_bnd) <;> [(intro _ h; exact h); skip]) | (with_reducible apply Blk.itemWrite_bnd) | with_reducible apply bnd_ite | with_reducible apply bnd_ite_fst | dsimp only)

theorem Blk.applyMacKey_bnd (b : Blk) (l : List Byte) (h₀ : QueuesFit b) : QueuesFit (Blk.applyMacKey b l).1 := by
  unfold Blk.applyMacKey
  repeat (first | with_reducible assumption | ((with_reducible apply can_bnd) <;> [(intro h; exact h); skip]) | (with_reducible apply Blk.newNonce_bnd) | (with_reducible apply Blk.feltRefused_bnd) | (with_reducible apply Blk.itemWrite_bnd) | (exact ⟨h₀.1, h₀.2, h₀.3, h₀.4, h₀.5⟩) | with_reducible apply bnd_ite | with_reducible apply bnd_ite_fst | dsimp only | exact h₀)

theorem Blk.objectApply_bnd (b : Blk) (idx sub : Nat) (l : List Byte) (h₀ : QueuesFit b) : QueuesFit (Blk.objectApply b idx sub l).1 := by
  unfold Blk.objectApply
  repeat (first | with_reducible assumption | (with_reducible apply Blk.applyKek_bnd) | (with_reducible apply Blk.applyEscrow_bnd) | (with_reducible apply Blk.applyCal_bnd) | (with_reducible apply Blk.applyMaintKey_bnd) | (with_reducible apply Blk.applyMacKey_bnd) | split | with_reducible apply bnd_ite_fst | dsimp only)

theorem Blk.dcRecord_bnd (b : Blk) (type : Nat) (g : Rgn) (hs : List Head) (h₀ : QueuesFit b) : QueuesFit (Blk.dcRecord b type g hs) := by
  unfold Blk.dcRecord
  repeat (first | with_reducible assumption | (with_reducible apply Blk.logTo_bnd) | (with_reducible refine bnd_foldl (fun c x hc => ?_) _ _ ?_) | extract_lets | (dsimp +zetaDelta only))

theorem Blk.rgnEvent_bnd (b : Blk) (code : BitVec 16) (g : Rgn) (h₀ : QueuesFit b) : QueuesFit (Blk.rgnEvent b code g) := by
  unfold Blk.rgnEvent
  repeat (first | with_reducible assumption | (with_reducible apply Blk.reportUnit_bnd))

theorem Blk.makeRegion_bnd (b : Blk) (g : Rgn) (h₀ : QueuesFit b) : QueuesFit (Blk.makeRegion b g) :=
  keep_bnd (Blk.makeRegion_only (m₀ := [.free, .dev, .twill]) b g (by decide) (only_refl _ _)) (by decide) h₀

theorem Blk.addAction_bnd (b : Blk) (src : Src) (h₀ : QueuesFit b) : QueuesFit (Blk.addAction b src) := by
  unfold Blk.addAction
  repeat (first | with_reducible assumption | (with_reducible apply Blk.odSet_bnd) | (with_reducible apply Blk.wrote_bnd) | (with_reducible apply Blk.makeRegion_bnd) | with_reducible apply bnd_ite | extract_lets | (dsimp +zetaDelta only))

theorem Blk.onRgn_bnd (b : Blk) (id : Nat) (f : Rgn → Rgn) (h₀ : QueuesFit b) : QueuesFit (Blk.onRgn b id f) :=
  keep_bnd (Blk.onRgn_only (m₀ := [.dev]) b id f (by decide) (only_refl _ _)) (by decide) h₀

theorem Blk.withdraw_bnd (b : Blk) (h : Head) (id : Nat) (h₀ : QueuesFit b) : QueuesFit (Blk.withdraw b h id) := by
  unfold Blk.withdraw
  repeat (first | with_reducible assumption | ((with_reducible apply head_bnd) <;> [(intro h; exact h); skip]) | (with_reducible apply Blk.onRgn_bnd))

theorem Blk.takeOffer_bnd (b : Blk) (h : Head) (g : Rgn) (h₀ : QueuesFit b) : QueuesFit (Blk.takeOffer b h g) := by
  unfold Blk.takeOffer
  repeat (first | with_reducible assumption | ((with_reducible apply head_bnd) <;> [(intro h; exact h); skip]) | (with_reducible apply Blk.onRgn_bnd) | (with_reducible apply Blk.rgnEvent_bnd))

theorem Blk.expel_bnd (b : Blk) (h : Head) (h₀ : QueuesFit b) : QueuesFit (Blk.expel b h) := by
  unfold Blk.expel
  refine bnd_foldl (fun c x hc => ?_) _ _ h₀
  exact Blk.refuse_bnd _ _ _ _ (Blk.failCheck_bnd _ _ _ _ _ _ (Blk.onPath_bnd _ _ (head_bnd (fun h => ⟨Nat.le_trans (List.length_filter_le _ _) h.1, h.2⟩) hc)))

theorem Blk.releaseAt_bnd (b : Blk) (h : Head) (id : Nat) (h₀ : QueuesFit b) : QueuesFit (Blk.releaseAt b h id) := by
  unfold Blk.releaseAt
  repeat (first | with_reducible assumption | (with_reducible apply Blk.onRgn_bnd) | (with_reducible apply Blk.expel_bnd) | with_reducible apply bnd_ite)

theorem Blk.releaseAction_bnd (b : Blk) (src : Src) (sub : Nat) (f : Blk → Rgn → Blk) (hf : ∀ c g, QueuesFit c → QueuesFit (f c g)) (h₀ : QueuesFit b) : QueuesFit (Blk.releaseAction b src sub f) := by
  unfold Blk.releaseAction
  repeat (first | with_reducible assumption | (with_reducible apply Blk.odSet_bnd) | (with_reducible apply Blk.wrote_bnd) | (with_reducible apply hf) | (with_reducible apply bnd_ite) | extract_lets | split | (intro c hc))

theorem Blk.askRelease_bnd (b : Blk) (g : Rgn) (h₀ : QueuesFit b) : QueuesFit (Blk.askRelease b g) := by
  unfold Blk.askRelease
  repeat (first | with_reducible assumption | (with_reducible apply Blk.dcRecord_bnd))

theorem Blk.forceRelease_bnd (b : Blk) (g : Rgn) (h₀ : QueuesFit b) : QueuesFit (Blk.forceRelease b g) := by
  unfold Blk.forceRelease
  repeat (first | with_reducible assumption | ((with_reducible apply head_bnd) <;> [(intro h; exact h); skip]) | (with_reducible apply Blk.onDev_bnd) | (with_reducible apply Blk.onRgn_bnd) | (with_reducible apply Blk.dcRecord_bnd) | (with_reducible apply Blk.rgnEvent_bnd) | (with_reducible apply Blk.expel_bnd) | (with_reducible refine bnd_foldl (fun c x hc => ?_) _ _ ?_) | extract_lets | (dsimp +zetaDelta only))

theorem Blk.clearTagLine_bnd (b : Blk) (ti : Nat) (h₀ : QueuesFit b) : QueuesFit (Blk.clearTagLine b ti) := by
  unfold Blk.clearTagLine
  repeat (first | with_reducible assumption | (with_reducible apply Blk.onDamask_bnd) | (with_reducible apply Blk.putTag_bnd) | (with_reducible apply Blk.flushTag_bnd) | with_reducible apply bnd_ite | extract_lets | (dsimp +zetaDelta only))

theorem Blk.clearRegionTags_bnd (b : Blk) (g : Rgn) (h₀ : QueuesFit b) : QueuesFit (Blk.clearRegionTags b g) := by
  unfold Blk.clearRegionTags
  repeat (first | with_reducible assumption | (with_reducible apply Blk.onDamask_bnd) | (with_reducible apply Blk.clearTagLine_bnd) | (with_reducible refine bnd_foldl (fun c x hc => ?_) _ _ ?_) | extract_lets | (dsimp +zetaDelta only))

theorem Blk.clearUnit_bnd (b : Blk) (r : Nat) (h₀ : QueuesFit b) : QueuesFit (Blk.clearUnit b r) := by
  unfold Blk.clearUnit
  repeat (first | with_reducible assumption | (with_reducible apply Blk.onTwill_bnd) | (with_reducible apply Blk.areaNew_bnd) | (with_reducible apply Blk.giveUp_bnd) | (with_reducible apply Blk.dropMigration_bnd) | extract_lets | split | (dsimp +zetaDelta only))

theorem Blk.freeRegion_bnd (b : Blk) (g : Rgn) (h₀ : QueuesFit b) : QueuesFit (Blk.freeRegion b g) := by
  unfold Blk.freeRegion
  repeat (first | with_reducible assumption | (with_reducible apply onMedia_bnd <;> [(intro; rfl); skip]) | (with_reducible apply Blk.onDev_bnd) | (with_reducible apply Blk.unlistHalf_bnd) | (with_reducible apply Blk.issueRecords_bnd) | (with_reducible apply Blk.dcRecord_bnd) | (with_reducible apply Blk.rgnEvent_bnd) | (with_reducible apply Blk.clearUnit_bnd) | with_reducible apply onMedia_bnd | (with_reducible refine bnd_foldl (fun c x hc => ?_) _ _ ?_) | with_reducible apply bnd_ite | extract_lets | (dsimp +zetaDelta only))

theorem Blk.retag_bnd (b : Blk) (li : Nat) (h₀ : QueuesFit b) : QueuesFit (Blk.retag b li) :=
  keep_bnd (Blk.retag_only (m₀ := [.od, .damask, .tweed]) b li (by decide) (only_refl _ _)) (by decide) h₀

theorem Blk.endDemotion_bnd (b : Blk) (li key : Nat) (e : HotEntry) (h₀ : QueuesFit b) : QueuesFit (Blk.endDemotion b li key e) :=
  keep_bnd (Blk.endDemotion_only (m₀ := [.od, .twill]) b li key e (by decide) (only_refl _ _)) (by decide) h₀

theorem Blk.goHome_bnd (b : Blk) (li : Nat) (h₀ : QueuesFit b) : QueuesFit (Blk.goHome b li) := by
  unfold Blk.goHome
  repeat (first | with_reducible assumption | (with_reducible apply Blk.abandonDemotion_bnd) | (with_reducible apply Blk.program_bnd) | (with_reducible apply Blk.retag_bnd) | (with_reducible apply Blk.bufferDone_bnd) | (with_reducible apply Blk.throughDone_bnd) | (with_reducible apply Blk.wrote_bnd) | (with_reducible apply Blk.endDemotion_bnd) | with_reducible apply bnd_ite | extract_lets | split | (dsimp +zetaDelta only))

theorem Blk.commitDemotion_bnd (b : Blk) (li : Nat) (h₀ : QueuesFit b) : QueuesFit (Blk.commitDemotion b li) := by
  unfold Blk.commitDemotion
  repeat (first | with_reducible assumption | (with_reducible apply Blk.goHome_bnd) | with_reducible apply bnd_ite)

theorem Blk.sendHome_bnd (b : Blk) (li : Nat) (data : Line) (h₀ : QueuesFit b) : QueuesFit (Blk.sendHome b li data) := by
  unfold Blk.sendHome
  repeat (first | with_reducible assumption | (with_reducible apply Blk.journalRec_bnd) | (with_reducible apply Blk.writeHomeNow_bnd) | (with_reducible apply Blk.goHome_bnd) | with_reducible apply bnd_ite | extract_lets | (dsimp +zetaDelta only))

theorem Blk.placeLine_bnd (b : Blk) (li : Nat) (data : Line) (h₀ : QueuesFit b) : QueuesFit (Blk.placeLine b li data) := by
  unfold Blk.placeLine
  repeat (first | with_reducible assumption | (with_reducible apply Blk.appendNow_bnd) | (with_reducible apply Blk.sendHome_bnd) | with_reducible apply bnd_ite | split)

theorem Blk.endProgram_bnd (b : Blk) (pid : Nat) (h₀ : QueuesFit b) : QueuesFit (Blk.endProgram b pid) := by
  unfold Blk.endProgram
  repeat (first | with_reducible assumption | (with_reducible apply Blk.verifyEnds_bnd) | (with_reducible apply Blk.programEnds_bnd))

theorem Blk.endPrograms_bnd (b : Blk) (h₀ : QueuesFit b) : QueuesFit (Blk.endPrograms b) := by
  unfold Blk.endPrograms
  repeat (first | with_reducible assumption | (with_reducible apply onMedia_bnd <;> [(intro; rfl); skip]) | (with_reducible apply Blk.storeLine_bnd) | (with_reducible apply Blk.countWrites_bnd) | (with_reducible apply Blk.programStored_bnd) | (with_reducible apply Blk.endProgram_bnd) | with_reducible apply onMedia_bnd | (with_reducible refine bnd_foldl (fun c x hc => ?_) _ _ ?_) | extract_lets | (dsimp +zetaDelta only))

theorem Blk.endJob_bnd (b : Blk) (n : Nat) (h₀ : QueuesFit b) : QueuesFit (Blk.endJob b n) := by
  unfold Blk.endJob
  repeat (first | with_reducible assumption | (with_reducible apply Blk.writeNow_bnd) | (with_reducible apply Blk.dropJob_bnd) | (with_reducible apply Blk.tagWritten_bnd) | (with_reducible apply Blk.jobEffect_bnd) | (with_reducible refine bnd_foldl (fun c x hc => ?_) _ _ ?_) | with_reducible apply bnd_ite | extract_lets | split | (dsimp +zetaDelta only))

theorem Blk.endWork_bnd (b : Blk) (h₀ : QueuesFit b) : QueuesFit (Blk.endWork b) := by
  unfold Blk.endWork
  repeat (first | with_reducible assumption | (with_reducible apply onMedia_bnd <;> [(intro; rfl); skip]) | (with_reducible apply Blk.abandonDemotion_bnd) | (with_reducible apply Blk.applySwitch_bnd) | (with_reducible apply Blk.goHome_bnd) | (with_reducible apply Blk.endJob_bnd) | with_reducible apply onMedia_bnd | (with_reducible refine bnd_foldl (fun c x hc => ?_) _ _ ?_) | with_reducible apply bnd_ite | extract_lets | (dsimp +zetaDelta only))

theorem Blk.flushBuf_bnd (b : Blk) (n : Nat) (h₀ : QueuesFit b) : QueuesFit (Blk.flushBuf b n) := by
  unfold Blk.flushBuf
  repeat (first | with_reducible assumption | (with_reducible apply Blk.putBuf_bnd) | (with_reducible apply Blk.bufferDone_bnd) | (with_reducible apply Blk.placeLine_bnd) | split)

theorem Blk.wholeLine_bnd (b : Blk) (li : Nat) (v : VWay) (h₀ : QueuesFit b) : QueuesFit (Blk.wholeLine b li v).1 := by
  unfold Blk.wholeLine
  refine bnd_ite_fst h₀ ?_
  split
  · exact h₀
  · dsimp only
    repeat (first | with_reducible assumption | (with_reducible apply Blk.listInternal_bnd) | with_reducible apply bnd_ite)

theorem Blk.flushWay_bnd (b : Blk) (key : Nat) (h₀ : QueuesFit b) : QueuesFit (Blk.flushWay b key) := by
  unfold Blk.flushWay
  repeat (first | with_reducible assumption | (with_reducible apply Blk.putWay_bnd) | (with_reducible apply Blk.barriersDone_bnd) | (with_reducible apply Blk.completeWrites_bnd) | (with_reducible apply Blk.placeLine_bnd) | (with_reducible apply Blk.wholeLine_bnd) | with_reducible apply bnd_ite | extract_lets | split | (dsimp +zetaDelta only))

theorem Blk.flushAll_bnd (b : Blk) (h₀ : QueuesFit b) : QueuesFit (Blk.flushAll b) := by
  unfold Blk.flushAll
  repeat (first | with_reducible assumption | (with_reducible apply Blk.maintain_bnd) | (with_reducible apply Blk.endPrograms_bnd) | (with_reducible apply Blk.endWork_bnd) | (with_reducible apply Blk.flushBuf_bnd) | (with_reducible apply Blk.flushWay_bnd) | (with_reducible refine bnd_foldl (fun c x hc => ?_) _ _ ?_) | extract_lets | (dsimp +zetaDelta only))

theorem Blk.cleanBudget_bnd (b : Blk) (h₀ : QueuesFit b) : QueuesFit (Blk.cleanBudget b) :=
  keep_bnd (Blk.cleanBudget_only (m₀ := [.velvet]) b (by decide) (only_refl _ _)) (by decide) h₀

theorem Blk.applyMode_bnd (b : Blk) (h₀ : QueuesFit b) : QueuesFit (Blk.applyMode b) := by
  unfold Blk.applyMode
  repeat (first | with_reducible assumption | (with_reducible apply Blk.onVelvet_bnd) | (with_reducible apply Blk.bump_bnd) | (with_reducible apply Blk.report_bnd) | (with_reducible apply Blk.healthCheck_bnd) | (with_reducible apply Blk.cleanBudget_bnd) | (with_reducible apply Blk.flushAll_bnd) | with_reducible apply bnd_ite | extract_lets | (dsimp +zetaDelta only))

theorem Blk.energyReport_bnd (b : Blk) (eu : Nat) (h₀ : QueuesFit b) : QueuesFit (Blk.energyReport b eu) := by
  unfold Blk.energyReport
  repeat (first | with_reducible assumption | (with_reducible apply Blk.onVelvet_bnd) | (with_reducible apply Blk.applyMode_bnd) | with_reducible apply bnd_ite)

theorem Blk.dropRequests_bnd (b : Blk) (h : Head) (h₀ : QueuesFit b) : QueuesFit (Blk.dropRequests b h) := by
  unfold Blk.dropRequests
  repeat (first | with_reducible assumption | (with_reducible apply Blk.onPath_bnd) | (with_reducible apply Blk.clearIngress_bnd) | with_reducible apply bnd_ite)

theorem Blk.muteMailbox_bnd (b : Blk) (h : Head) (h₀ : QueuesFit b) : QueuesFit (Blk.muteMailbox b h) := by
  unfold Blk.muteMailbox
  repeat (first | with_reducible assumption | (with_reducible apply Blk.onMuslin_bnd) | (with_reducible apply Blk.onVelvet_bnd) | (with_reducible apply Blk.reply_bnd) | with_reducible apply bnd_ite | extract_lets | split | (dsimp +zetaDelta only))

theorem Blk.abortBulk_bnd (b : Blk) (h : Head) (h₀ : QueuesFit b) : QueuesFit (Blk.abortBulk b h) := by
  unfold Blk.abortBulk
  repeat (first | with_reducible assumption | ((with_reducible apply head_bnd) <;> [(intro h; exact h); skip]) | (with_reducible apply Blk.onDamask_bnd))

theorem Blk.resetOwner_bnd (b : Blk) (h : Head) (h₀ : QueuesFit b) : QueuesFit (Blk.resetOwner b h) := by
  unfold Blk.resetOwner
  repeat (first | with_reducible assumption | (with_reducible apply Blk.discardStaged_bnd) | with_reducible apply bnd_ite)

theorem Blk.linkFalls_bnd (b : Blk) (h : Head) (h₀ : QueuesFit b) : QueuesFit (Blk.linkFalls b h) := by
  unfold Blk.linkFalls
  repeat (first | with_reducible assumption | ((with_reducible apply head_bnd) <;> [(intro h; exact h); skip]) | ((with_reducible apply linkChange_bnd) <;> [(intro h; exact h); skip]) | (with_reducible apply Blk.bump_bnd) | (with_reducible apply Blk.report_bnd) | (with_reducible apply Blk.dropRequests_bnd) | with_reducible apply bnd_ite | extract_lets | (dsimp +zetaDelta only))

theorem Blk.closeStripes_bnd (b : Blk) (now : Bool) (h₀ : QueuesFit b) : QueuesFit (Blk.closeStripes b now) := by
  unfold Blk.closeStripes
  repeat (first | with_reducible assumption | (with_reducible apply Blk.closeStripe_bnd) | (with_reducible refine bnd_foldl (fun c x hc => ?_) _ _ ?_))

theorem Blk.swapClass_bnd (b : Blk) (c : Cls) (b1 : Blk) (h₀ : QueuesFit b) (h₁ : QueuesFit b1) : QueuesFit (Blk.swapClass b c b1) := by
  unfold Blk.swapClass
  split
  · split
    · exact h₀
    · exact Blk.freeSlot_bnd _ _ _ (Blk.swapHot_bnd _ _ _ (Blk.useFree_bnd _ h₁))
  · exact h₀

theorem Blk.balanceHot_bnd (b : Blk) (h₀ : QueuesFit b) : QueuesFit (Blk.balanceHot b) := by
  unfold Blk.balanceHot
  split
  · exact h₀
  · exact Blk.swapClass_bnd _ _ _ h₀ (Blk.widen_bnd _ _ h₀)

theorem Blk.balancePool_bnd (b : Blk) (h₀ : QueuesFit b) : QueuesFit (Blk.balancePool b) := by
  unfold Blk.balancePool
  repeat (first | with_reducible assumption | (with_reducible apply Blk.balanceHot_bnd) | (with_reducible refine bnd_foldl (fun c x hc => ?_) _ _ ?_))

theorem Blk.newPlan_bnd (b : Blk) (h₀ : QueuesFit b) : QueuesFit (Blk.newPlan b) :=
  keep_bnd (Blk.newPlan_only (m₀ := [.twill]) b (by decide) (only_refl _ _)) (by decide) h₀

theorem Blk.leaveRow_bnd (b : Blk) (n : Nat) (h₀ : QueuesFit b) : QueuesFit (Blk.leaveRow b n) :=
  keep_bnd (Blk.leaveRow_only (m₀ := [.twill]) b n (by decide) (only_refl _ _)) (by decide) h₀

theorem Blk.openLanes_bnd (b : Blk) (h₀ : QueuesFit b) : QueuesFit (Blk.openLanes b) :=
  keep_bnd (Blk.openLanes_only (m₀ := [.twill]) b (by decide) (only_refl _ _)) (by decide) h₀

theorem Blk.turnPlan_bnd (b : Blk) (now : Bool) (h₀ : QueuesFit b) : QueuesFit (Blk.turnPlan b now) := by
  unfold Blk.turnPlan
  repeat (first | with_reducible assumption | (with_reducible apply Blk.onTwill_bnd) | (with_reducible apply Blk.onGauze_bnd) | (with_reducible apply Blk.newPlan_bnd) | (with_reducible apply Blk.leaveRow_bnd) | (with_reducible apply Blk.closeStripes_bnd) | (with_reducible apply Blk.openLanes_bnd) | (with_reducible apply Blk.balancePool_bnd) | (with_reducible refine bnd_foldl (fun c x hc => ?_) _ _ ?_) | extract_lets | (dsimp +zetaDelta only))

theorem Blk.issueDemotions_bnd (b : Blk) (h₀ : QueuesFit b) : QueuesFit (Blk.issueDemotions b) := by
  unfold Blk.issueDemotions
  repeat (first | with_reducible assumption | (with_reducible apply Blk.onTwill_bnd) | (with_reducible apply Blk.journalRec_bnd) | with_reducible apply bnd_ite | extract_lets | (dsimp +zetaDelta only))

theorem Blk.metaFail_bnd (b : Blk) (x : Mem) (h₀ : QueuesFit b) : QueuesFit (Blk.metaFail b x) := by
  unfold Blk.metaFail
  repeat (first | with_reducible assumption | (with_reducible apply onMedia_bnd <;> [(intro; rfl); skip]) | (with_reducible apply Blk.reportUnit_bnd) | (with_reducible apply Blk.countWrites_bnd) | (with_reducible apply Blk.storeLine_bnd) | (with_reducible apply Blk.useFree_bnd) | (with_reducible apply Blk.tileFailure_bnd) | with_reducible apply onMedia_bnd | with_reducible apply bnd_ite | extract_lets | (dsimp +zetaDelta only))

theorem Blk.issueFreed_bnd (b : Blk) (h₀ : QueuesFit b) : QueuesFit (Blk.issueFreed b) := by
  unfold Blk.issueFreed
  repeat (first | with_reducible assumption | (with_reducible apply Blk.onTwill_bnd) | (with_reducible apply Blk.journalRec_bnd) | with_reducible apply bnd_ite | extract_lets | (dsimp +zetaDelta only))

theorem Blk.reclaimRow_bnd (b : Blk) (key : Nat) (x : TileRow) (h₀ : QueuesFit b) : QueuesFit (Blk.reclaimRow b key x) := by
  unfold Blk.reclaimRow
  repeat (first | with_reducible assumption | (with_reducible apply Blk.onTwill_bnd) | (with_reducible apply Blk.onGauze_bnd) | (with_reducible apply Blk.bump_bnd) | (with_reducible apply Blk.areaNew_bnd) | (with_reducible apply Blk.exchangeSlot_bnd) | (with_reducible apply Blk.resetRow_bnd) | with_reducible apply bnd_ite | extract_lets | split | (dsimp +zetaDelta only))

theorem Blk.copyRow_bnd (b : Blk) (key : Nat) (h₀ : QueuesFit b) : QueuesFit (Blk.copyRow b key) :=
  keep_bnd (Blk.copyRow_only (m₀ := [.free, .media, .twill, .tweed]) b key (by decide) (only_refl _ _)) (by decide) h₀

theorem Blk.collectRows_bnd (b : Blk) (c : Cls) (h₀ : QueuesFit b) : QueuesFit (Blk.collectRows b c) := by
  unfold Blk.collectRows
  repeat (first | with_reducible assumption | (with_reducible apply Blk.copyRow_bnd) | (with_reducible apply Blk.reclaimRow_bnd) | (with_reducible refine bnd_foldl (fun c x hc => ?_) _ _ ?_))

theorem Blk.coldSwap_bnd (b : Blk) (c : Cls) (h₀ : QueuesFit b) : QueuesFit (Blk.coldSwap b c) := by
  unfold Blk.coldSwap
  repeat (first | with_reducible assumption | (with_reducible apply Blk.useFree_bnd) | (with_reducible apply Blk.beginMigration_bnd) | with_reducible apply bnd_ite | extract_lets | split | (dsimp +zetaDelta only))

theorem Blk.putCkptLine_bnd (b : Blk) (i j seq : Nat) (bytes : List Byte) (h₀ : QueuesFit b) : QueuesFit (Blk.putCkptLine b i j seq bytes) := by
  unfold Blk.putCkptLine
  repeat (first | with_reducible assumption | (with_reducible apply Blk.putOwnLine_bnd))

theorem Blk.putCkpt_bnd (b : Blk) (k : Ckpt) (h₀ : QueuesFit b) : QueuesFit (Blk.putCkpt b k) := by
  unfold Blk.putCkpt
  repeat (first | with_reducible assumption | (with_reducible apply Blk.place_bnd) | (with_reducible apply Blk.putCkptLine_bnd) | (with_reducible refine bnd_foldl (fun c x hc => ?_) _ _ ?_) | extract_lets | (dsimp +zetaDelta only))

theorem Blk.beginCheckpoint_bnd (b : Blk) (full now : Bool) (h₀ : QueuesFit b) : QueuesFit (Blk.beginCheckpoint b full now) := by
  unfold Blk.beginCheckpoint
  repeat (first | with_reducible assumption | (with_reducible apply Blk.onTwill_bnd) | (with_reducible apply Blk.turnPlan_bnd) | with_reducible apply bnd_ite | extract_lets | split | (dsimp +zetaDelta only))

theorem Blk.commitCheckpoint_bnd (b : Blk) (h₀ : QueuesFit b) : QueuesFit (Blk.commitCheckpoint b) := by
  unfold Blk.commitCheckpoint
  repeat (first | with_reducible assumption | (with_reducible apply Blk.onTwill_bnd) | (with_reducible apply Blk.bump_bnd) | (with_reducible apply Blk.place_bnd) | (with_reducible apply Blk.putCkpt_bnd) | with_reducible apply bnd_ite | extract_lets | split | (dsimp +zetaDelta only))

theorem Blk.putSnapLine_bnd (b : Blk) (g j seq : Nat) (bytes : List Byte) (h₀ : QueuesFit b) : QueuesFit (Blk.putSnapLine b g j seq bytes) := by
  unfold Blk.putSnapLine
  repeat (first | with_reducible assumption | (with_reducible apply Blk.putOwnLine_bnd))

theorem Blk.putSnap_bnd (b : Blk) (x : Snap) (h₀ : QueuesFit b) : QueuesFit (Blk.putSnap b x) := by
  unfold Blk.putSnap
  repeat (first | with_reducible assumption | (with_reducible apply Blk.putSnapLine_bnd) | (with_reducible refine bnd_foldl (fun c x hc => ?_) _ _ ?_) | extract_lets | (dsimp +zetaDelta only))

theorem Blk.snapshot_bnd (b : Blk) (h₀ : QueuesFit b) : QueuesFit (Blk.snapshot b) := by
  unfold Blk.snapshot
  repeat (first | with_reducible assumption | (with_reducible apply Blk.onGauze_bnd) | (with_reducible apply Blk.odSet_bnd) | (with_reducible apply Blk.putSnap_bnd) | (with_reducible refine bnd_foldl (fun c x hc => ?_) _ _ ?_) | extract_lets | (dsimp +zetaDelta only))

theorem Blk.planTimes_bnd (b : Blk) (h₀ : QueuesFit b) : QueuesFit (Blk.planTimes b) :=
  keep_bnd (Blk.planTimes_only (m₀ := [.gauze]) b (by decide) (only_refl _ _)) (by decide) h₀

theorem Blk.unknownAges_bnd (b : Blk) (h₀ : QueuesFit b) : QueuesFit (Blk.unknownAges b) :=
  keep_bnd (Blk.unknownAges_only (m₀ := [.free, .gauze]) b (by decide) (only_refl _ _)) (by decide) h₀

theorem Blk.loadSnapshot_bnd (b : Blk) (h₀ : QueuesFit b) : QueuesFit (Blk.loadSnapshot b) := by
  unfold Blk.loadSnapshot
  repeat (first | with_reducible assumption | (with_reducible apply Blk.onGauze_bnd) | (with_reducible apply Blk.report_bnd) | (with_reducible apply Blk.planTimes_bnd) | (with_reducible apply Blk.unknownAges_bnd) | extract_lets | split | (dsimp +zetaDelta only))

theorem Blk.putHot_bnd (b : Blk) (key : Nat) (e : HotEntry) (h₀ : QueuesFit b) : QueuesFit (Blk.putHot b key e) :=
  keep_bnd (Blk.putHot_only (m₀ := [.twill]) b key e (by decide) (only_refl _ _)) (by decide) h₀

theorem Blk.replayLine_bnd (recs : List JRec) (rows : List Nat) (slot base : Nat) (b : Blk) (x : Nat × Nat) (h₀ : QueuesFit b) : QueuesFit (Blk.replayLine recs rows slot base b x) := by
  unfold Blk.replayLine
  repeat (first | with_reducible assumption | (with_reducible apply Blk.odSet_bnd) | (with_reducible apply Blk.bump_bnd) | (with_reducible apply Blk.putHot_bnd) | (with_reducible apply Blk.poisonLine_bnd) | with_reducible apply bnd_ite | extract_lets | split | (dsimp +zetaDelta only))

theorem Blk.replayPlans_bnd (b : Blk) (recs : List JRec) (plans : List (Nat × Nat)) (h₀ : QueuesFit b) : QueuesFit (Blk.replayPlans b recs plans) := by
  unfold Blk.replayPlans
  repeat (first | with_reducible assumption | (with_reducible apply Blk.onTwill_bnd) | (with_reducible apply Blk.replayLine_bnd) | (with_reducible refine bnd_foldl (fun c x hc => ?_) _ _ ?_) | extract_lets | (dsimp +zetaDelta only))

theorem Blk.closeOpen_bnd (base : Nat) (slot : Nat) (b : Blk) (s : Nat) (h₀ : QueuesFit b) : QueuesFit (Blk.closeOpen base slot b s) := by
  unfold Blk.closeOpen
  repeat (first | with_reducible assumption | (with_reducible apply Blk.writeNow_bnd) | (with_reducible refine bnd_foldl (fun c x hc => ?_) _ _ ?_) | with_reducible apply bnd_ite | extract_lets | (dsimp +zetaDelta only))

theorem Blk.dropMigrations_bnd (b : Blk) (h₀ : QueuesFit b) : QueuesFit (Blk.dropMigrations b) := by
  unfold Blk.dropMigrations
  repeat (first | with_reducible assumption | (with_reducible apply Blk.onTwill_bnd) | (with_reducible apply Blk.dropMigration_bnd) | (with_reducible refine bnd_foldl (fun c x hc => ?_) _ _ ?_) | extract_lets | split | (dsimp +zetaDelta only))

theorem Blk.giveUpUnmapped_bnd (b : Blk) (h₀ : QueuesFit b) : QueuesFit (Blk.giveUpUnmapped b) := by
  unfold Blk.giveUpUnmapped
  repeat (first | with_reducible assumption | (with_reducible apply Blk.onTwill_bnd) | (with_reducible apply Blk.freeSlot_bnd) | (with_reducible refine bnd_foldl (fun c x hc => ?_) _ _ ?_) | extract_lets | (dsimp +zetaDelta only))

theorem Blk.markMapped_bnd (b : Blk) (h₀ : QueuesFit b) : QueuesFit (Blk.markMapped b) :=
  keep_bnd (Blk.markMapped_only (m₀ := [.twill]) b (by decide) (only_refl _ _)) (by decide) h₀

theorem Blk.scanUnit_bnd (b : Blk) (g : Rgn) (c : Blk) (x : Nat × Nat) (h₀ : QueuesFit c) : QueuesFit (Blk.scanUnit b g c x) :=
  keep_bnd (Blk.scanUnit_only (m₀ := [.twill]) b g c x (by decide) (only_refl _ _)) (by decide) h₀

theorem Blk.fullScan_bnd (b : Blk) (h₀ : QueuesFit b) : QueuesFit (Blk.fullScan b) := by
  unfold Blk.fullScan
  repeat (first | with_reducible assumption | (with_reducible apply Blk.report_bnd) | (with_reducible apply Blk.markMapped_bnd) | (with_reducible apply Blk.replayPlans_bnd) | (with_reducible apply Blk.scanUnit_bnd) | (with_reducible refine bnd_foldl (fun c x hc => ?_) _ _ ?_) | extract_lets | (dsimp +zetaDelta only))

theorem Blk.loadImages_bnd (b : Blk) (f : Ckpt) (inc : Option Ckpt) (h₀ : QueuesFit b) : QueuesFit (Blk.loadImages b f inc) :=
  keep_bnd (Blk.loadImages_only (m₀ := [.twill, .safety]) b f inc (by decide) (only_refl _ _)) (by decide) h₀

theorem Blk.matchRegions_bnd (b : Blk) (known : List Nat) (h₀ : QueuesFit b) : QueuesFit (Blk.matchRegions b known) :=
  keep_bnd (Blk.matchRegions_only (m₀ := [.twill]) b known (by decide) (only_refl _ _)) (by decide) h₀

theorem Blk.rebuildRows_bnd (b : Blk) (plans : List (Nat × Nat)) (h₀ : QueuesFit b) : QueuesFit (Blk.rebuildRows b plans) :=
  keep_bnd (Blk.rebuildRows_only (m₀ := [.twill]) b plans (by decide) (only_refl _ _)) (by decide) h₀

theorem Blk.applyRecord_bnd (b : Blk) (x : JRec) (h₀ : QueuesFit b) : QueuesFit (Blk.applyRecord b x) :=
  keep_bnd (Blk.applyRecord_only (m₀ := [.twill, .safety]) b x (by decide) (only_refl _ _)) (by decide) h₀

theorem Blk.emptyMap_bnd (b : Blk) (h₀ : QueuesFit b) : QueuesFit (Blk.emptyMap b) :=
  keep_bnd (Blk.emptyMap_only (m₀ := [.twill]) b (by decide) (only_refl _ _)) (by decide) h₀

theorem Blk.mapOfAdds_bnd (b : Blk) (h₀ : QueuesFit b) : QueuesFit (Blk.mapOfAdds b) :=
  keep_bnd (Blk.mapOfAdds_only (m₀ := [.twill, .safety]) b (by decide) (only_refl _ _)) (by decide) h₀

theorem Blk.loadMap_bnd (b : Blk) (h₀ : QueuesFit b) : QueuesFit (Blk.loadMap b) := by
  unfold Blk.loadMap
  repeat (first | with_reducible assumption | (with_reducible apply Blk.loadImages_bnd) | (with_reducible apply Blk.matchRegions_bnd) | (with_reducible apply Blk.markMapped_bnd) | (with_reducible apply Blk.replayPlans_bnd) | (with_reducible apply Blk.closeOpen_bnd) | (with_reducible apply Blk.rebuildRows_bnd) | (with_reducible apply Blk.applyRecord_bnd) | (with_reducible apply Blk.fullScan_bnd) | (with_reducible apply Blk.emptyMap_bnd) | (with_reducible apply Blk.mapOfAdds_bnd) | (with_reducible refine bnd_foldl (fun c x hc => ?_) _ _ ?_) | with_reducible apply bnd_ite | extract_lets | split | (dsimp +zetaDelta only))

theorem Blk.resumePasses_bnd (b : Blk) (h₀ : QueuesFit b) : QueuesFit (Blk.resumePasses b) :=
  keep_bnd (Blk.resumePasses_only (m₀ := [.twill]) b (by decide) (only_refl _ _)) (by decide) h₀

theorem Blk.mapReady_bnd (b : Blk) (h₀ : QueuesFit b) : QueuesFit (Blk.mapReady b) := by
  unfold Blk.mapReady
  repeat (first | with_reducible assumption | (with_reducible apply Blk.onTwill_bnd) | (with_reducible apply Blk.markMapped_bnd) | (with_reducible apply Blk.resumePasses_bnd) | (with_reducible apply Blk.dropMigrations_bnd) | (with_reducible apply Blk.giveUpUnmapped_bnd) | extract_lets | (dsimp +zetaDelta only))

theorem Blk.writeTalrt_bnd (b : Blk) (v : Nat) (h₀ : QueuesFit b) : QueuesFit (Blk.writeTalrt b v) :=
  keep_bnd (Blk.writeTalrt_only (m₀ := [.out, .media]) b v (by decide) (only_refl _ _)) (by decide) h₀

theorem Blk.effect_bnd (b : Blk) (key v : Nat) (h₀ : QueuesFit b) : QueuesFit (Blk.effect b key v) := by
  unfold Blk.effect
  repeat (first | with_reducible assumption | ((with_reducible apply felt_bnd) <;> [(intro _ h; exact h); skip]) | ((with_reducible apply linkChange_bnd) <;> [(intro h; exact h); skip]) | (with_reducible apply Blk.onTweed_bnd) | (with_reducible apply Blk.applyMode_bnd) | (with_reducible apply Blk.linkFalls_bnd) | (with_reducible apply Blk.writeTalrt_bnd) | with_reducible apply bnd_ite | extract_lets | (dsimp +zetaDelta only))

theorem Blk.calWrite_bnd (b : Blk) (key v : Nat) (h₀ : QueuesFit b) : QueuesFit (Blk.calWrite b key v) :=
  keep_bnd (Blk.calWrite_only (m₀ := [.gauze]) b key v (by decide) (only_refl _ _)) (by decide) h₀

theorem Blk.takeValue_bnd (b : Blk) (key v : Nat) (h₀ : QueuesFit b) : QueuesFit (Blk.takeValue b key v) := by
  unfold Blk.takeValue
  repeat (first | with_reducible assumption | (with_reducible apply Blk.odSet_bnd) | (with_reducible apply Blk.calWrite_bnd) | (with_reducible apply Blk.effect_bnd) | (exact ⟨h₀.1, h₀.2, h₀.3, h₀.4, h₀.5⟩) | with_reducible apply bnd_ite | exact h₀)

theorem Blk.takeDirect_bnd (b : Blk) (key v : Nat) (h₀ : QueuesFit b) : QueuesFit (Blk.takeDirect b key v) := by
  unfold Blk.takeDirect
  repeat (first | with_reducible assumption | (with_reducible apply Blk.onGauze_bnd) | (with_reducible apply Blk.odSet_bnd) | (with_reducible apply Blk.effect_bnd) | (exact ⟨h₀.1, h₀.2, h₀.3, h₀.4, h₀.5⟩) | with_reducible apply bnd_ite | extract_lets | (dsimp +zetaDelta only) | exact h₀)

theorem Blk.newRates_bnd (b : Blk) (h₀ : QueuesFit b) : QueuesFit (Blk.newRates b) := by
  unfold Blk.newRates
  repeat (first | with_reducible assumption | ((with_reducible apply can_bnd) <;> [(intro h; exact h); skip]) | (exact ⟨h₀.1, h₀.2, h₀.3, h₀.4, h₀.5⟩) | with_reducible apply bnd_ite | exact h₀)

theorem Blk.stageAction_bnd (b : Blk) (src : Src) (idx sub : Nat) (val : List Byte) (h₀ : QueuesFit b) : QueuesFit (Blk.stageAction b src idx sub val) := by
  unfold Blk.stageAction
  repeat (first | with_reducible assumption | (with_reducible apply Blk.onMuslin_bnd) | (with_reducible apply Blk.reply_bnd) | with_reducible apply bnd_ite | extract_lets | split | (dsimp +zetaDelta only))

theorem Blk.defaultsAction_bnd (b : Blk) (src : Src) (h₀ : QueuesFit b) : QueuesFit (Blk.defaultsAction b src) := by
  unfold Blk.defaultsAction
  repeat (first | with_reducible assumption | (with_reducible apply Blk.onMuslin_bnd) | (with_reducible apply Blk.wrote_bnd) | (with_reducible refine bnd_foldl (fun c x hc => ?_) _ _ ?_) | with_reducible apply bnd_ite | extract_lets | (dsimp +zetaDelta only))

theorem Blk.failCommit_bnd (b : Blk) (result rule : Nat) (h₀ : QueuesFit b) : QueuesFit (Blk.failCommit b result rule) := by
  unfold Blk.failCommit
  repeat (first | with_reducible assumption | (with_reducible apply Blk.odSet_bnd) | (with_reducible apply Blk.bump_bnd) | (with_reducible apply Blk.discardStaged_bnd))

theorem Blk.swapValues_bnd (b : Blk) (noAck : List Dom) (h₀ : QueuesFit b) : QueuesFit (Blk.swapValues b noAck) := by
  unfold Blk.swapValues
  repeat (first | with_reducible assumption | (with_reducible apply Blk.takeValue_bnd) | (exact ⟨h₀.1, h₀.2, h₀.3, h₀.4, h₀.5⟩) | (with_reducible refine bnd_foldl (fun c x hc => ?_) _ _ ?_) | with_reducible apply bnd_ite | extract_lets | (dsimp +zetaDelta only) | exact h₀)

theorem Blk.heldImport_bnd (b : Blk) (h₀ : QueuesFit b) : QueuesFit (Blk.heldImport b) := by
  unfold Blk.heldImport
  repeat (first | with_reducible assumption | (with_reducible apply Blk.onMuslin_bnd) | (with_reducible apply Blk.odSet_bnd) | (with_reducible apply Blk.calImport_bnd) | with_reducible apply bnd_ite | extract_lets | split | (dsimp +zetaDelta only))

theorem Blk.swapDone_bnd (b : Blk) (pauseNs : Nat) (rwp cal : Bool) (src : Option Src) (h₀ : QueuesFit b) : QueuesFit (Blk.swapDone b pauseNs rwp cal src) := by
  unfold Blk.swapDone
  repeat (first | with_reducible assumption | (with_reducible apply Blk.onMuslin_bnd) | (with_reducible apply Blk.onGauze_bnd) | (with_reducible apply Blk.report_bnd) | (with_reducible apply Blk.reply_bnd) | (with_reducible apply Blk.swapped_bnd) | (with_reducible apply Blk.newRates_bnd) | (with_reducible apply Blk.heldImport_bnd) | with_reducible apply bnd_ite | extract_lets | split | (dsimp +zetaDelta only))

theorem Blk.persistFailed_bnd (b : Blk) (h₀ : QueuesFit b) : QueuesFit (Blk.persistFailed b) := by
  unfold Blk.persistFailed
  repeat (first | with_reducible assumption | (with_reducible apply Blk.bump32_bnd) | (with_reducible apply Blk.report_bnd))

theorem Blk.persistParams_bnd (b : Blk) (h₀ : QueuesFit b) : QueuesFit (Blk.persistParams b) := by
  unfold Blk.persistParams
  repeat (first | with_reducible assumption | ((with_reducible apply felt_bnd) <;> [(intro _ h; exact h); skip]) | (with_reducible apply Blk.onMuslin_bnd) | (with_reducible apply Blk.feltRefused_bnd) | (with_reducible apply Blk.itemWrite_bnd) | (with_reducible apply Blk.persistFailed_bnd) | with_reducible apply bnd_ite | extract_lets | split | (dsimp +zetaDelta only))

theorem Blk.persistCal_bnd (b : Blk) (h₀ : QueuesFit b) : QueuesFit (Blk.persistCal b) := by
  unfold Blk.persistCal
  repeat (first | with_reducible assumption | (with_reducible apply Blk.onMuslin_bnd) | (with_reducible apply Blk.onGauze_bnd) | (with_reducible apply Blk.feltRefused_bnd) | (with_reducible apply Blk.itemWrite_bnd) | (with_reducible apply Blk.persistFailed_bnd) | with_reducible apply bnd_ite | extract_lets | (dsimp +zetaDelta only))

theorem Blk.draw_bnd (b : Blk) (h₀ : QueuesFit b) : QueuesFit (Blk.draw b) :=
  keep_bnd (Blk.draw_only (m₀ := [.rng]) b (by decide) (only_refl _ _)) (by decide) h₀

theorem Blk.onSession_bnd (b : Blk) (t : Nat) (f : Session → Session) (h₀ : QueuesFit b) : QueuesFit (Blk.onSession b t f) :=
  keep_bnd (Blk.onSession_only (m₀ := [.sesA, .sesB, .sesC]) b t f (by decide) (only_refl _ _)) (by decide) h₀

theorem Blk.challengeAction_bnd (b : Blk) (src : Src) (h₀ : QueuesFit b) : QueuesFit (Blk.challengeAction b src) := by
  unfold Blk.challengeAction
  repeat (first | with_reducible assumption | (with_reducible apply Blk.draw_bnd) | (with_reducible apply Blk.reply_bnd) | (with_reducible apply Blk.onSession_bnd) | extract_lets | (dsimp +zetaDelta only))

theorem Blk.openSession_bnd (b : Blk) (src : Src) (h₀ : QueuesFit b) : QueuesFit (Blk.openSession b src) := by
  unfold Blk.openSession
  repeat (first | with_reducible assumption | (with_reducible apply Blk.report_bnd) | (with_reducible apply Blk.onSession_bnd) | (with_reducible apply Blk.wrote_bnd))

theorem Blk.wrongResponse_bnd (b : Blk) (src : Src) (h₀ : QueuesFit b) : QueuesFit (Blk.wrongResponse b src) := by
  unfold Blk.wrongResponse
  repeat (first | with_reducible assumption | (with_reducible apply Blk.onSession_bnd) | (with_reducible apply Blk.wrote_bnd) | with_reducible apply bnd_ite)

theorem Blk.responseAction_bnd (b : Blk) (src : Src) (v : BitVec 64) (h₀ : QueuesFit b) : QueuesFit (Blk.responseAction b src v) := by
  unfold Blk.responseAction
  repeat (first | with_reducible assumption | (with_reducible apply Blk.wrote_bnd) | (with_reducible apply Blk.openSession_bnd) | (with_reducible apply Blk.wrongResponse_bnd) | with_reducible apply bnd_ite | extract_lets | split | (dsimp +zetaDelta only))

theorem Blk.closeSession_bnd (b : Blk) (t : Nat) (h₀ : QueuesFit b) : QueuesFit (Blk.closeSession b t) :=
  keep_bnd (Blk.closeSession_only (m₀ := [.sesA, .sesB, .sesC]) b t (by decide) (only_refl _ _)) (by decide) h₀

theorem Blk.closeAction_bnd (b : Blk) (src : Src) (h₀ : QueuesFit b) : QueuesFit (Blk.closeAction b src) := by
  unfold Blk.closeAction
  repeat (first | with_reducible assumption | (with_reducible apply Blk.wrote_bnd) | (with_reducible apply Blk.closeSession_bnd))

theorem Blk.standbyDies_bnd (b : Blk) (h₀ : QueuesFit b) : QueuesFit (Blk.standbyDies b) :=
  keep_bnd (Blk.standbyDies_only (m₀ := [.out, .media]) b (by decide) (only_refl _ _)) (by decide) h₀

theorem Blk.fallAsleep_bnd (b : Blk) (h₀ : QueuesFit b) : QueuesFit (Blk.fallAsleep b) := by
  unfold Blk.fallAsleep
  repeat (first | with_reducible assumption | (with_reducible apply Blk.onTweed_bnd) | (with_reducible apply Blk.onModes_bnd) | (with_reducible apply Blk.flushAll_bnd) | (with_reducible apply Blk.beginCheckpoint_bnd) | (with_reducible apply Blk.commitCheckpoint_bnd) | (with_reducible apply Blk.standbyDies_bnd))

theorem Blk.wakeDies_bnd (b : Blk) (h₀ : QueuesFit b) : QueuesFit (Blk.wakeDies b) :=
  keep_bnd (Blk.wakeDies_only (m₀ := [.out, .media]) b (by decide) (only_refl _ _)) (by decide) h₀

theorem Blk.wake_bnd (b : Blk) (h₀ : QueuesFit b) : QueuesFit (Blk.wake b) := by
  unfold Blk.wake
  repeat (first | with_reducible assumption | (with_reducible apply Blk.onTweed_bnd) | (with_reducible apply Blk.onModes_bnd) | (with_reducible apply Blk.setConditions_bnd) | (with_reducible apply Blk.wakeDies_bnd) | with_reducible apply bnd_ite | extract_lets | (dsimp +zetaDelta only))

theorem Blk.settleRead_bnd (b : Blk) (x : Acc) (h₀ : QueuesFit b) : QueuesFit (Blk.settleRead b x) := by
  unfold Blk.settleRead
  repeat (first | with_reducible assumption | (with_reducible apply Blk.finishRead_bnd))

theorem Blk.settle_bnd (b : Blk) (h₀ : QueuesFit b) : QueuesFit (Blk.settle b) := by
  unfold Blk.settle
  repeat (first | with_reducible assumption | (with_reducible apply Blk.onPath_bnd) | (with_reducible apply Blk.finishWrite_bnd) | (with_reducible apply Blk.settleRead_bnd) | (with_reducible refine bnd_foldl (fun c x hc => ?_) _ _ ?_) | with_reducible apply bnd_ite | extract_lets | (dsimp +zetaDelta only))

theorem Blk.zeroize_bnd (b : Blk) (h₀ : QueuesFit b) : QueuesFit (Blk.zeroize b) := by
  unfold Blk.zeroize
  repeat (first | with_reducible assumption | (with_reducible apply Blk.onVelvet_bnd) | (with_reducible apply Blk.onDamask_bnd) | (with_reducible apply Blk.report_bnd) | (with_reducible apply Blk.itemWrite_bnd) | (with_reducible apply Blk.settle_bnd) | extract_lets | (dsimp +zetaDelta only))

theorem Blk.blankKeys_bnd (b : Blk) (h₀ : QueuesFit b) : QueuesFit (Blk.blankKeys b) := by
  unfold Blk.blankKeys
  repeat (first | with_reducible assumption | ((with_reducible apply can_bnd) <;> [(intro h; exact h); skip]) | ((with_reducible apply felt_bnd) <;> [(intro _ h; exact h); skip]) | (exact ⟨h₀.1, h₀.2, h₀.3, h₀.4, h₀.5⟩) | exact h₀)

theorem Blk.canvasWrite_bnd (b : Blk) (r : List Nat) (h₀ : QueuesFit b) : QueuesFit (Blk.canvasWrite b r) := by
  unfold Blk.canvasWrite
  repeat (first | with_reducible assumption | ((with_reducible apply felt_bnd) <;> [(intro _ h; first | exact h | exact ⟨h.1, h.2⟩ | exact ⟨h.1, h.2.1, h.2.2⟩ | exact ⟨Nat.zero_le _, h.2⟩ | exact ⟨h.1, Nat.zero_le _, h.2.2⟩ | exact Nat.zero_le _ | exact ⟨Nat.le_trans (List.length_filter_le _ _) h.1, h.2⟩ | exact ⟨h.1, Nat.le_trans (List.length_filter_le _ _) h.2.1, h.2.2⟩ | exact ⟨by simpa using h.1, h.2⟩ | exact ⟨Nat.zero_le _, Nat.zero_le _, h.2.2⟩ | exact ⟨Nat.le_trans (List.length_filter_le _ _) h.1, Nat.le_trans (List.length_filter_le _ _) h.2.1, h.2.2⟩ | exact ⟨h.1, h.2.1, Nat.min_le_left _ _⟩ | exact onLog_fits (fun _ _ => Nat.zero_le _) h | exact onLog_fits (fun _ h => Nat.le_trans (List.length_filter_le _ _) h) h | (simp only [List.length_take]; exact Nat.min_le_left _ _)); skip]) | (with_reducible apply Blk.pageWrite_bnd))

theorem Blk.onCanvas_bnd (b : Blk) (f : Canvas → Canvas) (h₀ : QueuesFit b) : QueuesFit (Blk.onCanvas b f) :=
  keep_bnd (Blk.onCanvas_only (m₀ := [.canvas]) b f (by decide) (only_refl _ _)) (by decide) h₀

theorem Blk.canvasLogged_bnd (b : Blk) (r : List Nat) (h₀ : QueuesFit b) : QueuesFit (Blk.canvasLogged b r) := by
  unfold Blk.canvasLogged
  repeat (first | with_reducible assumption | (with_reducible apply Blk.onCanvas_bnd) | (with_reducible apply Blk.odSet_bnd) | (with_reducible apply Blk.canvasWrite_bnd) | (exact ⟨h₀.1, h₀.2, h₀.3, h₀.4, h₀.5⟩) | with_reducible apply bnd_ite | extract_lets | (dsimp +zetaDelta only) | exact h₀)

theorem Blk.loseSwitched_bnd (b : Blk) (keepLink : Bool) (h₀ : QueuesFit b) : QueuesFit (Blk.loseSwitched b keepLink) := by
  unfold Blk.loseSwitched
  exact ⟨off_fits _ _, off_fits _ _, ⟨Nat.zero_le _, Nat.zero_le _, h₀.3.2.2⟩, h₀.4, h₀.5⟩

theorem Blk.onClocks_bnd (b : Blk) (f : Clocks → Clocks) (h₀ : QueuesFit b) : QueuesFit (Blk.onClocks b f) :=
  keep_bnd (Blk.onClocks_only (m₀ := [.clocks]) b f (by decide) (only_refl _ _)) (by decide) h₀

theorem Blk.powerCycled_bnd (b : Blk) (h₀ : QueuesFit b) : QueuesFit (Blk.powerCycled b) := by
  unfold Blk.powerCycled
  repeat (first | with_reducible assumption | ((with_reducible apply hA_bnd) <;> [(intro h; exact h); skip]) | ((with_reducible apply hB_bnd) <;> [(intro h; exact h); skip]) | (with_reducible apply onMedia_bnd <;> [(intro; rfl); skip]) | (with_reducible apply Blk.onClocks_bnd) | (exact ⟨h₀.1, h₀.2, h₀.3, h₀.4, h₀.5⟩) | with_reducible apply onMedia_bnd | with_reducible apply bnd_ite | extract_lets | (dsimp +zetaDelta only) | exact h₀)

theorem Blk.enterM1_bnd (b : Blk) (h₀ : QueuesFit b) : QueuesFit (Blk.enterM1 b) := by
  unfold Blk.enterM1
  repeat (first | with_reducible assumption | (with_reducible apply Blk.onCanvas_bnd) | (with_reducible apply Blk.onClocks_bnd) | (with_reducible apply Blk.onModes_bnd) | (with_reducible apply Blk.faultPin_bnd) | (with_reducible apply Blk.setConditions_bnd) | (with_reducible apply Blk.loseSwitched_bnd) | (with_reducible apply Blk.powerCycled_bnd) | (exact ⟨h₀.1, h₀.2, h₀.3, h₀.4, h₀.5⟩) | with_reducible apply bnd_ite | extract_lets | (dsimp +zetaDelta only) | exact h₀)

theorem Blk.startBoot_bnd (b : Blk) (h₀ : QueuesFit b) : QueuesFit (Blk.startBoot b) := by
  unfold Blk.startBoot
  repeat (first | with_reducible assumption | (with_reducible apply Blk.onCanvas_bnd) | (with_reducible apply Blk.onModes_bnd) | (with_reducible apply Blk.setConditions_bnd) | (exact ⟨h₀.1, h₀.2, h₀.3, h₀.4, h₀.5⟩) | with_reducible apply bnd_ite | extract_lets | (dsimp +zetaDelta only) | exact h₀)

theorem lowerNext_fit (n : Nat) {b : Blk} (h₀ : QueuesFit b) : QueuesFit (Blk.lowerNext n b) := by
  induction n generalizing b with
  | zero => exact h₀
  | succ n ih =>
    unfold Blk.lowerNext
    split
    · exact Blk.startBoot_bnd _ (keep_bnd (Blk.onCanvas_only (m₀ := [.canvas]) _ _ (by decide) (only_refl _ _)) (by decide) h₀)
    · exact bnd_ite (ih (keep_bnd (Blk.onSlot_only (m₀ := [.canvas]) _ _ _ (by decide) (only_refl _ _)) (by decide) h₀)) (keep_bnd (Blk.onSlot_only (m₀ := [.canvas]) _ _ _ (by decide) (only_refl _ _)) (by decide) h₀)

theorem Blk.powerDown_bnd (b : Blk) (h₀ : QueuesFit b) : QueuesFit (Blk.powerDown b) := by
  unfold Blk.powerDown
  repeat (first | with_reducible assumption | (with_reducible apply lowerNext_fit) | (with_reducible apply Blk.onCanvas_bnd) | (with_reducible apply Blk.enterM1_bnd) | (exact ⟨h₀.1, h₀.2, h₀.3, h₀.4, h₀.5⟩) | with_reducible apply bnd_ite | extract_lets)

theorem Blk.tearPrograms_bnd (b : Blk) (h₀ : QueuesFit b) : QueuesFit (Blk.tearPrograms b) := by
  unfold Blk.tearPrograms
  repeat (first | with_reducible assumption | (with_reducible apply Blk.useFree_bnd) | (with_reducible apply Blk.storeLine_bnd) | (with_reducible apply Blk.program_bnd) | (with_reducible refine bnd_foldl (fun c x hc => ?_) _ _ ?_) | split)

theorem Blk.dropRails_bnd (b : Blk) (h₀ : QueuesFit b) : QueuesFit (Blk.dropRails b) := by
  unfold Blk.dropRails
  repeat (first | with_reducible assumption | ((with_reducible apply felt_bnd) <;> [(intro _ h; exact h); skip]) | (with_reducible apply Blk.onCanvas_bnd) | (with_reducible apply Blk.enterM1_bnd) | (with_reducible apply Blk.tearPrograms_bnd) | (exact ⟨h₀.1, h₀.2, h₀.3, h₀.4, h₀.5⟩) | with_reducible apply bnd_ite | extract_lets | (dsimp +zetaDelta only) | exact h₀)

theorem Blk.onSlot_bnd (b : Blk) (s : Nat) (f : PSlot → PSlot) (h₀ : QueuesFit b) : QueuesFit (Blk.onSlot b s f) :=
  keep_bnd (Blk.onSlot_only (m₀ := [.canvas]) b s f (by decide) (only_refl _ _)) (by decide) h₀

theorem Blk.allOff_bnd (b : Blk) (code slot mv drops : Nat) (timeout : Bool) (h₀ : QueuesFit b) : QueuesFit (Blk.allOff b code slot mv drops timeout) := by
  unfold Blk.allOff
  repeat (first | with_reducible assumption | (with_reducible apply Blk.onCanvas_bnd) | (with_reducible apply Blk.onModes_bnd) | (with_reducible apply Blk.odSet_bnd) | (with_reducible apply Blk.onSlot_bnd) | (with_reducible apply Blk.dropRails_bnd) | (exact ⟨h₀.1, h₀.2, h₀.3, h₀.4, h₀.5⟩) | with_reducible apply bnd_ite | extract_lets | (dsimp +zetaDelta only) | exact h₀)

theorem Blk.resumeAll_bnd (b : Blk) (h₀ : QueuesFit b) : QueuesFit (Blk.resumeAll b) :=
  keep_bnd (Blk.resumeAll_only (m₀ := [.out, .media]) b (by decide) (only_refl _ _)) (by decide) h₀

theorem Blk.beginFlush_bnd (b : Blk) (cause : Nat) (h₀ : QueuesFit b) : QueuesFit (Blk.beginFlush b cause) := by
  unfold Blk.beginFlush
  repeat (first | with_reducible assumption | (with_reducible apply Blk.onTwill_bnd) | (with_reducible apply Blk.onModes_bnd) | (with_reducible apply Blk.enter_bnd) | (with_reducible apply Blk.finishRead_bnd) | (with_reducible apply Blk.clearIngress_bnd) | (with_reducible apply Blk.wake_bnd) | (with_reducible apply Blk.resumeAll_bnd) | (with_reducible refine bnd_foldl (fun c x hc => ?_) _ _ ?_) | with_reducible apply bnd_ite | extract_lets | (dsimp +zetaDelta only))

theorem Blk.stagingToRing_bnd (b : Blk) (h₀ : QueuesFit b) : QueuesFit (Blk.stagingToRing b) := by
  unfold Blk.stagingToRing
  repeat (first | with_reducible assumption | (with_reducible apply Blk.ringNext_bnd) | (with_reducible apply Blk.pageWrite_bnd) | (with_reducible refine bnd_foldl (fun c x hc => ?_) _ _ ?_))

theorem Blk.flushTags_bnd (b : Blk) (h₀ : QueuesFit b) : QueuesFit (Blk.flushTags b) := by
  unfold Blk.flushTags
  repeat (first | with_reducible assumption | (with_reducible apply Blk.flushTag_bnd) | (with_reducible refine bnd_foldl (fun c x hc => ?_) _ _ ?_))

theorem Blk.foldAll_bnd (b : Blk) (h₀ : QueuesFit b) : QueuesFit (Blk.foldAll b) := by
  unfold Blk.foldAll
  repeat (first | with_reducible assumption | (with_reducible apply Blk.foldCount_bnd) | (with_reducible refine bnd_foldl (fun c x hc => ?_) _ _ ?_))

theorem Blk.saveMedia_bnd (b : Blk) (full : Bool) (h₀ : QueuesFit b) : QueuesFit (Blk.saveMedia b full) := by
  unfold Blk.saveMedia
  repeat (first | with_reducible assumption | (with_reducible apply Blk.issueRecords_bnd) | (with_reducible apply Blk.endPrograms_bnd) | (with_reducible apply Blk.flushAll_bnd) | (with_reducible apply Blk.beginCheckpoint_bnd) | (with_reducible apply Blk.commitCheckpoint_bnd) | (with_reducible apply Blk.settle_bnd) | (with_reducible apply Blk.flushTags_bnd))

theorem Blk.endFlush_bnd (b : Blk) (start lines : Nat) (h₀ : QueuesFit b) : QueuesFit (Blk.endFlush b start lines) := by
  unfold Blk.endFlush
  repeat (first | with_reducible assumption | ((with_reducible apply felt_bnd) <;> [(intro _ h; exact h); skip]) | (with_reducible apply Blk.odSet_bnd) | (with_reducible apply Blk.bump_bnd) | (with_reducible apply Blk.report_bnd) | (with_reducible apply Blk.saveCounters_bnd) | (with_reducible apply Blk.settleRead_bnd) | (with_reducible apply Blk.zeroize_bnd) | (with_reducible apply Blk.powerDown_bnd) | (with_reducible apply Blk.stagingToRing_bnd) | (with_reducible apply Blk.foldAll_bnd) | (with_reducible apply Blk.saveMedia_bnd) | (with_reducible refine bnd_foldl (fun c x hc => ?_) _ _ ?_) | with_reducible apply bnd_ite | extract_lets | (dsimp +zetaDelta only))

theorem Blk.abandonTest_bnd (b : Blk) (h₀ : QueuesFit b) : QueuesFit (Blk.abandonTest b) :=
  keep_bnd (Blk.abandonTest_only (m₀ := [.canvas]) b (by decide) (only_refl _ _)) (by decide) h₀

theorem Blk.orderlyStop_bnd (b : Blk) (h₀ : QueuesFit b) : QueuesFit (Blk.orderlyStop b) := by
  unfold Blk.orderlyStop
  repeat (first | with_reducible assumption | ((with_reducible apply felt_bnd) <;> [(intro _ h; exact h); skip]) | (with_reducible apply Blk.onTwill_bnd) | (with_reducible apply Blk.onModes_bnd) | (with_reducible apply Blk.clearIngress_bnd) | (with_reducible apply Blk.saveCounters_bnd) | (with_reducible apply Blk.snapshot_bnd) | (with_reducible apply Blk.settle_bnd) | (with_reducible apply Blk.powerDown_bnd) | (with_reducible apply Blk.abandonTest_bnd) | (with_reducible apply Blk.stagingToRing_bnd) | (with_reducible apply Blk.foldAll_bnd) | (with_reducible apply Blk.saveMedia_bnd) | extract_lets | (dsimp +zetaDelta only))

theorem Blk.ringNewest_bnd (b : Blk) (h₀ : QueuesFit b) : QueuesFit (Blk.ringNewest b) := by
  unfold Blk.ringNewest
  split
  · exact bnd_ite (Blk.ringRec_bnd _ _ (linen_bnd (fun h => ⟨h.1, Nat.le_trans (List.length_filter_le _ _) h.2.1, h.2.2⟩) h₀)) h₀
  · exact h₀

theorem Blk.thermalShutdown_bnd (b : Blk) (data : List Byte) (h₀ : QueuesFit b) : QueuesFit (Blk.thermalShutdown b data) := by
  unfold Blk.thermalShutdown
  repeat (first | with_reducible assumption | (with_reducible apply Blk.onModes_bnd) | (with_reducible apply Blk.bump_bnd) | (with_reducible apply Blk.report_bnd) | (with_reducible apply Blk.faultPin_bnd) | (with_reducible apply Blk.beginFlush_bnd) | (with_reducible apply Blk.ringNewest_bnd) | with_reducible apply bnd_ite | extract_lets | (dsimp +zetaDelta only))

theorem Blk.retireDie_bnd (b : Blk) (src : Src) (d : Nat) (h₀ : QueuesFit b) : QueuesFit (Blk.retireDie b src d) := by
  unfold Blk.retireDie
  repeat (first | with_reducible assumption | (with_reducible apply Blk.dieFail_bnd) | (with_reducible apply Blk.wrote_bnd) | with_reducible apply bnd_ite)

theorem Blk.retireChannel_bnd (b : Blk) (src : Src) (c : Nat) (h₀ : QueuesFit b) : QueuesFit (Blk.retireChannel b src c) := by
  unfold Blk.retireChannel
  repeat (first | with_reducible assumption | (with_reducible apply Blk.channelFail_bnd) | (with_reducible apply Blk.wrote_bnd))

theorem Blk.askRetrain_bnd (b : Blk) (src : Src) (ch : Nat) (h₀ : QueuesFit b) : QueuesFit (Blk.askRetrain b src ch) := by
  unfold Blk.askRetrain
  repeat (first | with_reducible assumption | (with_reducible apply Blk.onChan_bnd) | (with_reducible apply Blk.wrote_bnd) | with_reducible apply bnd_ite | extract_lets | (dsimp +zetaDelta only))

theorem Blk.toStandby_bnd (b : Blk) (src : Src) (h₀ : QueuesFit b) : QueuesFit (Blk.toStandby b src) := by
  unfold Blk.toStandby
  repeat (first | with_reducible assumption | (with_reducible apply Blk.onModes_bnd) | (with_reducible apply Blk.wrote_bnd) | (with_reducible apply Blk.orderlyStop_bnd))

theorem Blk.beginTest_bnd (b : Blk) (h₀ : QueuesFit b) : QueuesFit (Blk.beginTest b) :=
  keep_bnd (Blk.beginTest_only (m₀ := [.canvas]) b (by decide) (only_refl _ _)) (by decide) h₀

theorem Blk.askTest_bnd (b : Blk) (src : Src) (h₀ : QueuesFit b) : QueuesFit (Blk.askTest b src) := by
  unfold Blk.askTest
  repeat (first | with_reducible assumption | (with_reducible apply Blk.wrote_bnd) | (with_reducible apply Blk.beginTest_bnd) | with_reducible apply bnd_ite)

theorem Blk.clearTweed_bnd (b : Blk) (src : Src) (h₀ : QueuesFit b) : QueuesFit (Blk.clearTweed b src) := by
  unfold Blk.clearTweed
  repeat (first | with_reducible assumption | (with_reducible apply Blk.onTweed_bnd) | (with_reducible apply Blk.wrote_bnd))

theorem Blk.odSetFor_bnd (b : Blk) (t idx sub v : Nat) (h₀ : QueuesFit b) : QueuesFit (Blk.odSetFor b t idx sub v) :=
  keep_bnd (Blk.odSetFor_only (m₀ := [.od]) b t idx sub v (by decide) (only_refl _ _)) (by decide) h₀

theorem Blk.action_bnd (b : Blk) (src : Src) (idx sub v : Nat) (h₀ : QueuesFit b) : QueuesFit (Blk.action b src idx sub v) := by
  unfold Blk.action
  repeat (first | with_reducible assumption | (with_reducible apply Blk.odSetFor_bnd) | (with_reducible apply Blk.wrote_bnd) | (with_reducible apply Blk.startRange_bnd) | (with_reducible apply Blk.byAddress_bnd) | (with_reducible apply Blk.bySetWay_bnd) | (with_reducible apply Blk.openBarrier_bnd) | (with_reducible apply Blk.unlockRegion_bnd) | (with_reducible apply Blk.resetCount_bnd) | (with_reducible apply Blk.clearHistograms_bnd) | (with_reducible apply Blk.addAction_bnd) | (with_reducible apply Blk.releaseAction_bnd <;> [(intros; try dsimp only); skip]) | (with_reducible apply Blk.askRelease_bnd) | (with_reducible apply Blk.forceRelease_bnd) | (with_reducible apply Blk.defaultsAction_bnd) | (with_reducible apply Blk.responseAction_bnd) | (with_reducible apply Blk.closeAction_bnd) | (with_reducible apply Blk.retireDie_bnd) | (with_reducible apply Blk.retireChannel_bnd) | (with_reducible apply Blk.askRetrain_bnd) | (with_reducible apply Blk.toStandby_bnd) | (with_reducible apply Blk.askTest_bnd) | (with_reducible apply Blk.clearTweed_bnd) | with_reducible apply bnd_ite | split)

theorem Blk.bulkReq_bnd (b : Blk) (h : Head) (maint : Bool) (f : Blk → Blk) (hf : ∀ c, QueuesFit c → QueuesFit (f c)) (h₀ : QueuesFit b) : QueuesFit (Blk.bulkReq b h maint f) := by
  unfold Blk.bulkReq
  repeat (first | with_reducible assumption | (with_reducible apply Blk.touch_bnd) | (with_reducible apply Blk.mbox_bnd <;> [(intros; try dsimp only); skip]) | (with_reducible apply hf) | (with_reducible apply bnd_ite) | extract_lets | split | (intro c hc))

theorem Blk.endTransfer_bnd (b : Blk) (k : Bulk) (crc : BitVec 32) (h₀ : QueuesFit b) : QueuesFit (Blk.endTransfer b k crc).1 := by
  unfold Blk.endTransfer
  repeat (first | with_reducible assumption | (with_reducible apply Blk.onDamask_bnd) | (with_reducible apply Blk.objectApply_bnd) | with_reducible apply bnd_ite | with_reducible apply bnd_ite_fst | dsimp only)

theorem Blk.withTransfer_bnd (b : Blk) (trans : BitVec 8) (op : Nat) (f : Bulk → Blk) (hf : ∀ k, QueuesFit (f k)) (h₀ : QueuesFit b) : QueuesFit (Blk.withTransfer b trans op f) := by
  unfold Blk.withTransfer
  repeat (first | with_reducible assumption | ((with_reducible apply can_bnd) <;> [(intro h; exact h); skip]) | (with_reducible apply Blk.canStatus_bnd) | (exact ⟨h₀.1, h₀.2, h₀.3, h₀.4, h₀.5⟩) | (with_reducible apply hf) | (with_reducible apply bnd_ite) | extract_lets | split | (intro c hc) | exact h₀)

theorem Blk.dump_bnd (b : Blk) (h₀ : QueuesFit b) : QueuesFit (Blk.dump b) := by
  unfold Blk.dump
  repeat (first | with_reducible assumption | (with_reducible apply Blk.onTweed_bnd) | (with_reducible apply Blk.bankSwap_bnd) | (with_reducible apply Blk.pushPacket_bnd) | extract_lets | (dsimp +zetaDelta only))

theorem Blk.clockSleep_bnd (b : Blk) (h₀ : QueuesFit b) : QueuesFit (Blk.clockSleep b) := by
  unfold Blk.clockSleep
  repeat (first | with_reducible assumption | (with_reducible apply Blk.enter_bnd) | (with_reducible apply Blk.fallAsleep_bnd) | with_reducible apply bnd_ite | extract_lets | (dsimp +zetaDelta only))

theorem Blk.clockFailure_bnd (b : Blk) (h₀ : QueuesFit b) : QueuesFit (Blk.clockFailure b) := by
  unfold Blk.clockFailure
  repeat (first | with_reducible assumption | (with_reducible apply Blk.onClocks_bnd) | (with_reducible apply Blk.faultPin_bnd) | (with_reducible apply Blk.clockSleep_bnd) | with_reducible apply bnd_ite)

theorem forcedSwitches_fit (n : Nat) {b : Blk} (h₀ : QueuesFit b) : QueuesFit (Blk.forcedSwitches n b) := by
  induction n generalizing b with
  | zero => exact h₀
  | succ n ih => exact ih (Blk.report_bnd _ _ (keep_bnd (Blk.bump_only (m₀ := [.od]) _ _ _ _ (by decide) (only_refl _ _)) (by decide) h₀))

theorem Blk.pllFail_bnd (b : Blk) (p : Pll) (stopped : Bool) (h₀ : QueuesFit b) : QueuesFit (Blk.pllFail b p stopped) := by
  unfold Blk.pllFail
  repeat (first | with_reducible assumption | (with_reducible apply forcedSwitches_fit) | (with_reducible apply Blk.onClocks_bnd) | (with_reducible apply Blk.bump_bnd) | (with_reducible apply Blk.report_bnd) | (with_reducible apply Blk.detect_bnd) | (with_reducible apply Blk.clockFailure_bnd) | (exact ⟨h₀.1, h₀.2, h₀.3, h₀.4, h₀.5⟩) | with_reducible apply bnd_ite | extract_lets)

theorem Blk.onSensor_bnd (b : Blk) (i : Nat) (f : Sensor → Sensor) (h₀ : QueuesFit b) : QueuesFit (Blk.onSensor b i f) :=
  keep_bnd (Blk.onSensor_only (m₀ := [.thermal]) b i f (by decide) (only_refl _ _)) (by decide) h₀

theorem Blk.sampleSensor_bnd (b : Blk) (i : Nat) (raw : BitVec 16) (h₀ : QueuesFit b) : QueuesFit (Blk.sampleSensor b i raw) := by
  unfold Blk.sampleSensor
  repeat (first | with_reducible assumption | (with_reducible apply Blk.reportUnit_bnd) | (with_reducible apply Blk.detect_bnd) | (with_reducible apply Blk.onSensor_bnd) | with_reducible apply bnd_ite | extract_lets | (dsimp +zetaDelta only))

theorem Blk.throttle_bnd (b : Blk) (h₀ : QueuesFit b) : QueuesFit (Blk.throttle b) := by
  unfold Blk.throttle
  repeat (first | with_reducible assumption | (with_reducible apply Blk.onThermal_bnd) | (with_reducible apply Blk.bump_bnd) | (with_reducible apply Blk.enter_bnd) | (with_reducible apply Blk.healthCheck_bnd) | with_reducible apply bnd_ite)

theorem Blk.sensorCount_bnd (b : Blk) (before : Nat) (h₀ : QueuesFit b) : QueuesFit (Blk.sensorCount b before) := by
  unfold Blk.sensorCount
  repeat (first | with_reducible assumption | (with_reducible apply Blk.onThermal_bnd) | (with_reducible apply Blk.report_bnd) | (with_reducible apply Blk.faultPin_bnd) | (with_reducible apply Blk.detect_bnd) | (with_reducible apply Blk.throttle_bnd) | with_reducible apply bnd_ite | extract_lets | (dsimp +zetaDelta only))

theorem Blk.coolBoot_bnd (b : Blk) (h₀ : QueuesFit b) : QueuesFit (Blk.coolBoot b) := by
  unfold Blk.coolBoot
  repeat (first | with_reducible assumption | (with_reducible apply Blk.onModes_bnd) | (with_reducible apply Blk.faultPin_bnd) | (with_reducible apply Blk.startBoot_bnd) | with_reducible apply bnd_ite | split)

theorem Blk.iTake_bnd (b : Blk) (addr : BitVec 32) (width : Nat) (v : BitVec 64) (h₀ : QueuesFit b) : QueuesFit (Blk.iTake b addr width v) := by
  unfold Blk.iTake
  repeat (first | with_reducible assumption | (with_reducible apply Blk.takeDirect_bnd) | (exact ⟨h₀.1, h₀.2, h₀.3, h₀.4, h₀.5⟩) | split | exact h₀)

theorem Blk.refuseWrite_bnd (b : Blk) (h : Head) (addr : BitVec 32) (h₀ : QueuesFit b) : QueuesFit (Blk.refuseWrite b h addr) := by
  unfold Blk.refuseWrite
  repeat (first | with_reducible assumption | (with_reducible apply ctl_bnd <;> [(intro; rfl); skip]) | (with_reducible apply Blk.report_bnd) | (exact ⟨h₀.1, h₀.2, h₀.3, h₀.4, h₀.5⟩) | with_reducible apply bnd_ite | extract_lets | split | (dsimp +zetaDelta only) | exact h₀)

theorem Blk.ackPosted_bnd (b : Blk) (h : Head) (h₀ : QueuesFit b) : QueuesFit (Blk.ackPosted b h) := by
  unfold Blk.ackPosted
  repeat (first | with_reducible assumption | (with_reducible apply ctl_bnd <;> [(intro; rfl); skip]) | (with_reducible apply Blk.iTake_bnd) | (exact ⟨h₀.1, h₀.2, h₀.3, h₀.4, h₀.5⟩) | split | exact h₀)

theorem Blk.afterRead_bnd (b : Blk) (h : Head) (h₀ : QueuesFit b) : QueuesFit (Blk.afterRead b h) := by
  unfold Blk.afterRead
  repeat (first | with_reducible assumption | (with_reducible apply ctl_bnd <;> [(intro; rfl); skip]) | with_reducible apply bnd_ite)

theorem Blk.badRead_bnd (b : Blk) (h : Head) (off bytes : Nat) (h₀ : QueuesFit b) : QueuesFit (Blk.badRead b h off bytes) := by
  unfold Blk.badRead
  repeat (first | with_reducible assumption | (with_reducible apply ctl_bnd <;> [(intro; rfl); skip]) | (with_reducible apply Blk.emit_bnd))

theorem Blk.ctlWord_bnd (b : Blk) (h : Head) (off : Nat) (v : BitVec 32) (h₀ : QueuesFit b) : QueuesFit (Blk.ctlWord b h off v) := by
  unfold Blk.ctlWord
  repeat (first | with_reducible assumption | (with_reducible apply ctl_bnd <;> [(intro; rfl); skip]) | (with_reducible apply Blk.onSafety_bnd) | (with_reducible apply Blk.ackPosted_bnd) | (exact ⟨h₀.1, h₀.2, h₀.3, h₀.4, h₀.5⟩) | split | exact h₀)

theorem Blk.guardEnd_bnd (b : Blk) (h : Head) (target : BitVec 16) (result : BitVec 4) (h₀ : QueuesFit b) : QueuesFit (Blk.guardEnd b h target result) := by
  unfold Blk.guardEnd
  repeat (first | with_reducible assumption | (with_reducible apply ctl_bnd <;> [(intro; rfl); skip]) | (with_reducible apply Blk.report_bnd) | (exact ⟨h₀.1, h₀.2, h₀.3, h₀.4, h₀.5⟩) | with_reducible apply bnd_ite | extract_lets | (dsimp +zetaDelta only) | exact h₀)

theorem Blk.takeDue_bnd (b : Blk) (target : Nat) (ok : Nat → Bool) (f : Nat → Blk → Blk) (hf : ∀ v c, QueuesFit c → QueuesFit (f v c)) (h₀ : QueuesFit b) : QueuesFit (Blk.takeDue b target ok f) := by
  unfold Blk.takeDue
  repeat (first | with_reducible assumption | (exact ⟨h₀.1, h₀.2, h₀.3, h₀.4, h₀.5⟩) | (with_reducible apply hf) | (with_reducible apply bnd_ite) | extract_lets | split | (intro c hc) | exact h₀)

theorem Blk.abortRecords_bnd (b : Blk) (h₀ : QueuesFit b) : QueuesFit (Blk.abortRecords b) := by
  unfold Blk.abortRecords
  repeat (first | with_reducible assumption | ((with_reducible apply hA_bnd) <;> [(intro h; exact h); skip]) | ((with_reducible apply hB_bnd) <;> [(intro h; exact h); skip]) | ((with_reducible apply can_bnd) <;> [(intro h; exact h); skip]) | (exact ⟨h₀.1, h₀.2, h₀.3, h₀.4, h₀.5⟩) | extract_lets | (dsimp +zetaDelta only) | exact h₀)

theorem Blk.formatArea_bnd (b : Blk) (i : Nat) (h₀ : QueuesFit b) : QueuesFit (Blk.formatArea b i) := by
  unfold Blk.formatArea
  split
  · have h1 := Blk.abortRecords_bnd b h₀
    exact ⟨h1.1, h1.2, ⟨Nat.zero_le _, Nat.zero_le _, h1.3.2.2⟩, h1.4, h1.5⟩
  · exact Blk.itemWrite_bnd _ _ (felt_bnd (fun _ h => h) ⟨h₀.1, h₀.2, h₀.3, h₀.4, h₀.5⟩)
  · exact felt_bnd (fun _ _ => Nat.zero_le _) h₀
  all_goals (repeat (first | with_reducible assumption | ((with_reducible apply felt_bnd) <;> [(intro _ h; exact h); skip]) | ((with_reducible apply linen_bnd) <;> [(intro h; exact h); skip]) | (with_reducible apply Blk.onGauze_bnd) | (with_reducible apply Blk.onDamask_bnd) | (with_reducible apply Blk.dropCopies_bnd) | (with_reducible apply Blk.itemWrite_bnd) | (with_reducible apply Blk.zeroize_bnd) | (with_reducible apply Blk.blankKeys_bnd) | (with_reducible apply Blk.abortRecords_bnd) | (exact ⟨h₀.1, h₀.2, h₀.3, h₀.4, h₀.5⟩) | with_reducible apply bnd_ite))

theorem Blk.loseInput_bnd (b : Blk) (cause : Nat) (h₀ : QueuesFit b) : QueuesFit (Blk.loseInput b cause) := by
  unfold Blk.loseInput
  repeat (first | with_reducible assumption | (with_reducible apply Blk.onModes_bnd) | (with_reducible apply Blk.dropRails_bnd) | (with_reducible apply Blk.beginFlush_bnd) | with_reducible apply bnd_ite)

theorem Blk.putCopies_bnd (b : Blk) (f : Voted) (v : Nat) (h₀ : QueuesFit b) : QueuesFit (Blk.putCopies b f v) := by
  unfold Blk.putCopies
  repeat (first | with_reducible assumption | ((with_reducible apply felt_bnd) <;> [(intro _ h; exact h); skip]) | (with_reducible apply Blk.onVelvet_bnd) | (with_reducible apply Blk.onDamask_bnd) | (with_reducible apply Blk.onModes_bnd) | (with_reducible apply Blk.onSafety_bnd) | split)

theorem Blk.reload_bnd (b : Blk) (d : Dom) (off : Nat) (h₀ : QueuesFit b) : QueuesFit (Blk.reload b d off) := by
  unfold Blk.reload
  repeat (first | with_reducible assumption | (with_reducible apply ctl_bnd <;> [(intro; rfl); skip]) | (exact ⟨h₀.1, h₀.2, h₀.3, h₀.4, h₀.5⟩) | with_reducible apply bnd_ite | extract_lets | split | (dsimp +zetaDelta only) | exact h₀)

theorem Blk.newKeys_bnd (b : Blk) (h₀ : QueuesFit b) : QueuesFit (Blk.newKeys b) := by
  unfold Blk.newKeys
  repeat (first | with_reducible assumption | (with_reducible apply Blk.onDamask_bnd) | (with_reducible apply Blk.draw_bnd) | (with_reducible apply Blk.itemWrite_bnd) | (with_reducible apply Blk.escrowChanged_bnd) | (with_reducible apply Blk.bind_bnd) | extract_lets | (dsimp +zetaDelta only))

theorem Blk.discardCaches_bnd (b : Blk) (h₀ : QueuesFit b) : QueuesFit (Blk.discardCaches b) :=
  keep_bnd (Blk.discardCaches_only (m₀ := [.path, .velvet, .damask]) b (by decide) (only_refl _ _)) (by decide) h₀

theorem Blk.dropScan_bnd (b : Blk) (h₀ : QueuesFit b) : QueuesFit (Blk.dropScan b) :=
  keep_bnd (Blk.dropScan_only (m₀ := [.media, .twill]) b (by decide) (only_refl _ _)) (by decide) h₀

theorem Blk.startErase_bnd (b0 : Blk) (h : Head) (op : Nat) (sanitize : Bool) (h₀ : QueuesFit b0) : QueuesFit (Blk.startErase b0 h op sanitize) := by
  unfold Blk.startErase
  repeat (first | with_reducible assumption | (with_reducible apply Blk.onDev_bnd) | (with_reducible apply Blk.onDamask_bnd) | (with_reducible apply Blk.odSet_bnd) | (with_reducible apply Blk.mbReply_bnd) | (with_reducible apply Blk.discardCaches_bnd) | (with_reducible apply Blk.newKeys_bnd) | (with_reducible apply Blk.dropScan_bnd) | with_reducible apply bnd_ite | extract_lets | (dsimp +zetaDelta only))

theorem Blk.renewPool_bnd (b : Blk) (h₀ : QueuesFit b) : QueuesFit (Blk.renewPool b) := by
  unfold Blk.renewPool
  repeat (first | with_reducible assumption | (with_reducible apply Blk.resetRow_bnd) | (with_reducible refine bnd_foldl (fun c x hc => ?_) _ _ ?_) | extract_lets | (dsimp +zetaDelta only))

theorem Blk.startTerry_bnd (b : Blk) (c : Cls) (k : Nat) (h₀ : QueuesFit b) : QueuesFit (Blk.startTerry b c k) :=
  keep_bnd (Blk.startTerry_only (m₀ := [.free, .media, .twill, .tweed]) b c k (by decide) (only_refl _ _)) (by decide) h₀

theorem Blk.lapRead_bnd (b : Blk) (c : Cls) (h₀ : QueuesFit b) : QueuesFit (Blk.lapRead b c) := by
  unfold Blk.lapRead
  repeat (first | with_reducible assumption | (with_reducible apply onMedia_bnd <;> [(intro; rfl); skip]) | (with_reducible apply Blk.lapStep_bnd) | (with_reducible apply Blk.startTerry_bnd) | with_reducible apply onMedia_bnd | with_reducible apply bnd_ite | extract_lets | split | (dsimp +zetaDelta only))

theorem Blk.velvetWord_bnd (b : Blk) (slice word : Nat) (tx : MediaTx) (addr : Bool) (h₀ : QueuesFit b) : QueuesFit (Blk.velvetWord b slice word tx addr) := by
  unfold Blk.velvetWord
  repeat (first | with_reducible assumption | (with_reducible apply Blk.dropWay_bnd) | (with_reducible apply Blk.loseHalf_bnd) | with_reducible apply bnd_ite | extract_lets | split | (dsimp +zetaDelta only))

theorem Blk.tagWord_bnd (b : Blk) (n : Nat) (tx : MediaTx) (addr : Bool) (h₀ : QueuesFit b) : QueuesFit (Blk.tagWord b n tx addr) := by
  unfold Blk.tagWord
  repeat (first | with_reducible assumption | (with_reducible apply Blk.onDamask_bnd) | (with_reducible apply Blk.poisonLine_bnd) | (with_reducible apply Blk.damaskFailure_bnd) | (with_reducible refine bnd_foldl (fun c x hc => ?_) _ _ ?_) | with_reducible apply bnd_ite | extract_lets | split | (dsimp +zetaDelta only))

theorem Blk.reqLost_bnd (b : Blk) (x : Acc) (addr : Bool) (h₀ : QueuesFit b) : QueuesFit (Blk.reqLost b x addr) := by
  unfold Blk.reqLost
  repeat (first | with_reducible assumption | (with_reducible apply Blk.onPath_bnd) | (with_reducible apply Blk.endAcc_bnd) | (with_reducible apply Blk.finishRead_bnd) | (with_reducible apply Blk.finishWrite_bnd) | (with_reducible apply Blk.listInternal_bnd) | with_reducible apply bnd_ite)

theorem Blk.bufLost_bnd (b : Blk) (n : Nat) (x : HBuf) (i : Bool) (tx : MediaTx) (addr : Bool) (h₀ : QueuesFit b) : QueuesFit (Blk.bufLost b n x i tx addr) := by
  unfold Blk.bufLost
  repeat (first | with_reducible assumption | (with_reducible apply Blk.listInternal_bnd) | (with_reducible apply Blk.putBuf_bnd))

theorem Blk.tableWord_bnd (b : Blk) (key : Nat) (h₀ : QueuesFit b) : QueuesFit (Blk.tableWord b key) := by
  unfold Blk.tableWord
  repeat (first | with_reducible assumption | (with_reducible apply onMedia_bnd <;> [(intro; rfl); skip]) | (with_reducible apply Blk.startJob_bnd) | (with_reducible apply Blk.reload_bnd) | with_reducible apply onMedia_bnd | with_reducible apply bnd_ite | extract_lets | (dsimp +zetaDelta only))

theorem Blk.drop_bnd (b : Blk) (sev : Nat) (h₀ : QueuesFit b) : QueuesFit (Blk.drop b sev) :=
  keep_bnd (Blk.drop_only (m₀ := [.od]) b sev (by decide) (only_refl _ _)) (by decide) h₀

theorem Blk.queueWord_bnd (b : Blk) (word : Nat) (tx : MediaTx) (addr : Bool) (h₀ : QueuesFit b) : QueuesFit (Blk.queueWord b word tx addr) := by
  unfold Blk.queueWord
  repeat (first | with_reducible assumption | ((with_reducible apply linen_bnd) <;> [(intro h; first | exact h | exact ⟨h.1, h.2⟩ | exact ⟨h.1, h.2.1, h.2.2⟩ | exact ⟨Nat.zero_le _, h.2⟩ | exact ⟨h.1, Nat.zero_le _, h.2.2⟩ | exact Nat.zero_le _ | exact ⟨Nat.le_trans (List.length_filter_le _ _) h.1, h.2⟩ | exact ⟨h.1, Nat.le_trans (List.length_filter_le _ _) h.2.1, h.2.2⟩ | exact ⟨by simpa using h.1, h.2⟩ | exact ⟨Nat.zero_le _, Nat.zero_le _, h.2.2⟩ | exact ⟨Nat.le_trans (List.length_filter_le _ _) h.1, Nat.le_trans (List.length_filter_le _ _) h.2.1, h.2.2⟩ | exact ⟨h.1, h.2.1, Nat.min_le_left _ _⟩ | exact onLog_fits (fun _ _ => Nat.zero_le _) h | exact onLog_fits (fun _ h => Nat.le_trans (List.length_filter_le _ _) h) h | (simp only [List.length_take]; exact Nat.min_le_left _ _)); skip]) | (with_reducible apply Blk.onTweed_bnd) | (with_reducible apply Blk.drop_bnd) | (with_reducible apply Blk.discardStaged_bnd) | (with_reducible apply Blk.reqLost_bnd) | (with_reducible apply Blk.bufLost_bnd) | (with_reducible apply Blk.tableWord_bnd) | with_reducible apply bnd_ite | extract_lets | split | (dsimp +zetaDelta only))

theorem Blk.gaugeWord_bnd (b : Blk) (n : Nat) (h₀ : QueuesFit b) : QueuesFit (Blk.gaugeWord b n) :=
  keep_bnd (Blk.gaugeWord_only (m₀ := [.gauze]) b n (by decide) (only_refl _ _)) (by decide) h₀

theorem Blk.sramLost_bnd (b : Blk) (k word : Nat) (tx : MediaTx) (addr : Bool) (h₀ : QueuesFit b) : QueuesFit (Blk.sramLost b k word tx addr) := by
  unfold Blk.sramLost
  repeat (first | with_reducible assumption | (with_reducible apply Blk.onTwill_bnd) | (with_reducible apply Blk.engineFail_bnd) | (with_reducible apply Blk.velvetWord_bnd) | (with_reducible apply Blk.tagWord_bnd) | (with_reducible apply Blk.gaugeWord_bnd) | (with_reducible apply Blk.queueWord_bnd) | with_reducible apply bnd_ite | extract_lets | split | (dsimp +zetaDelta only))

theorem Blk.failBank_bnd (b : Blk) (k : Nat) (h₀ : QueuesFit b) : QueuesFit (Blk.failBank b k) := by
  unfold Blk.failBank
  repeat (first | with_reducible assumption | (with_reducible apply Blk.onBank_bnd) | (with_reducible apply Blk.bankFail_bnd) | with_reducible apply bnd_ite)

theorem Blk.sramRead_bnd (b : Blk) (k word : Nat) (e : SramErr) (tx : MediaTx) (h₀ : QueuesFit b) : QueuesFit (Blk.sramRead b k word e tx) := by
  unfold Blk.sramRead
  repeat (first | with_reducible assumption | (with_reducible apply Blk.bump_bnd) | (with_reducible apply Blk.reportUnit_bnd) | (with_reducible apply Blk.detect_bnd) | (with_reducible apply Blk.onBank_bnd) | (with_reducible apply Blk.sramLost_bnd) | (with_reducible apply Blk.failBank_bnd) | with_reducible apply bnd_ite | extract_lets | split | (dsimp +zetaDelta only))

theorem Blk.scrubWord_bnd (b : Blk) (k word : Nat) (e : SramErr) (h₀ : QueuesFit b) : QueuesFit (Blk.scrubWord b k word e) := by
  unfold Blk.scrubWord
  repeat (first | with_reducible assumption | (with_reducible apply onMedia_bnd <;> [(intro; rfl); skip]) | (with_reducible apply Blk.healthCheck_bnd) | (with_reducible apply Blk.sramRead_bnd) | with_reducible apply onMedia_bnd | with_reducible apply bnd_ite | extract_lets | (dsimp +zetaDelta only))

theorem Blk.starve_bnd (b : Blk) (i : Nat) (l : Lap) (limit : Nat) (f : Media → Media) (h₀ : QueuesFit b) : QueuesFit (Blk.starve b i l limit f) := by
  unfold Blk.starve
  repeat (first | with_reducible assumption | (with_reducible apply onMedia_bnd <;> [(intro; rfl); skip]) | (with_reducible apply Blk.bump_bnd) | (with_reducible apply Blk.report_bnd) | (with_reducible apply Blk.healthCheck_bnd) | with_reducible apply onMedia_bnd | with_reducible apply bnd_ite)

theorem Blk.tearPart_bnd (b : Blk) (pid : Nat) (h₀ : QueuesFit b) : QueuesFit (Blk.tearPart b pid) := by
  unfold Blk.tearPart
  repeat (first | with_reducible assumption | (with_reducible apply Blk.useFree_bnd) | (with_reducible apply Blk.storeLine_bnd) | (with_reducible apply Blk.program_bnd) | (with_reducible refine bnd_foldl (fun c x hc => ?_) _ _ ?_) | split)

theorem Blk.alert_bnd (b : Blk) (d cause : Nat) (h₀ : QueuesFit b) : QueuesFit (Blk.alert b d cause) :=
  keep_bnd (Blk.alert_only (m₀ := [.media]) b d cause (by decide) (only_refl _ _)) (by decide) h₀

theorem Blk.dieRefuse_bnd (b : Blk) (d : Nat) (h₀ : QueuesFit b) : QueuesFit (Blk.dieRefuse b d) :=
  keep_bnd (Blk.dieRefuse_only (m₀ := [.media]) b d (by decide) (only_refl _ _)) (by decide) h₀

theorem Blk.dieProgram_bnd (b : Blk) (pid line : Nat) (content : BitVec 1152) (ovw accepted : Bool) (seq : BitVec 3) (h₀ : QueuesFit b) : QueuesFit (Blk.dieProgram b pid line content ovw accepted seq) := by
  unfold Blk.dieProgram
  repeat (first | with_reducible assumption | (with_reducible apply Blk.onDie_bnd) | (with_reducible apply Blk.onPart_bnd) | (with_reducible apply Blk.program_bnd) | (with_reducible apply Blk.alert_bnd) | (with_reducible apply Blk.dieRefuse_bnd) | with_reducible apply bnd_ite | extract_lets | (dsimp +zetaDelta only))

theorem Blk.dieAnswers_bnd (b : Blk) (d : Nat) (h₀ : QueuesFit b) : QueuesFit (Blk.dieAnswers b d) := by
  unfold Blk.dieAnswers
  repeat (first | with_reducible assumption | (with_reducible apply Blk.emit_bnd) | (with_reducible apply Blk.dieStatus_bnd) | with_reducible apply bnd_ite)

theorem Blk.pollDies_bnd (b : Blk) (h₀ : QueuesFit b) : QueuesFit (Blk.pollDies b) := by
  unfold Blk.pollDies
  repeat (first | with_reducible assumption | (with_reducible apply Blk.sendDie_bnd) | (with_reducible apply Blk.dieAnswers_bnd) | (with_reducible refine bnd_foldl (fun c x hc => ?_) _ _ ?_))

theorem Blk.resetParts_bnd (b : Blk) (d : Nat) (h₀ : QueuesFit b) : QueuesFit (Blk.resetParts b d) := by
  unfold Blk.resetParts
  repeat (first | with_reducible assumption | (with_reducible apply onMedia_bnd <;> [(intro; rfl); skip]) | (with_reducible apply Blk.onPart_bnd) | (with_reducible apply Blk.tearPart_bnd) | with_reducible apply onMedia_bnd | (with_reducible refine bnd_foldl (fun c x hc => ?_) _ _ ?_) | extract_lets | (dsimp +zetaDelta only))

theorem Blk.resend_bnd (b : Blk) (ch pid : Nat) (h₀ : QueuesFit b) : QueuesFit (Blk.resend b ch pid) := by
  unfold Blk.resend
  repeat (first | with_reducible assumption | (with_reducible apply Blk.bump_bnd) | (with_reducible apply Blk.onChan_bnd) | (with_reducible apply Blk.onPart_bnd) | (with_reducible apply Blk.sendProgram_bnd) | (with_reducible apply Blk.program_bnd) | (exact ⟨h₀.1, h₀.2, h₀.3, h₀.4, h₀.5⟩) | with_reducible apply bnd_ite | extract_lets | split | (dsimp +zetaDelta only) | exact h₀)

theorem Blk.serveWdat_bnd (b : Blk) (d : Nat) (v : BitVec 256) (h₀ : QueuesFit b) : QueuesFit (Blk.serveWdat b d v) := by
  unfold Blk.serveWdat
  repeat (first | with_reducible assumption | (with_reducible apply Blk.resend_bnd) | (with_reducible refine bnd_foldl (fun c x hc => ?_) _ _ ?_))

theorem Blk.serveIdle_bnd (b : Blk) (d : Nat) (v : BitVec 256) (h₀ : QueuesFit b) : QueuesFit (Blk.serveIdle b d v) := by
  unfold Blk.serveIdle
  repeat (first | with_reducible assumption | (with_reducible apply Blk.resend_bnd) | (with_reducible refine bnd_foldl (fun c x hc => ?_) _ _ ?_))

theorem Blk.servePfail_bnd (b : Blk) (d : Nat) (v : BitVec 256) (h₀ : QueuesFit b) : QueuesFit (Blk.servePfail b d v) := by
  unfold Blk.servePfail
  repeat (first | with_reducible assumption | (with_reducible apply Blk.programEnds_bnd) | (with_reducible refine bnd_foldl (fun c x hc => ?_) _ _ ?_))

theorem Blk.serveRfail_bnd (b : Blk) (d : Nat) (v : BitVec 256) (h₀ : QueuesFit b) : QueuesFit (Blk.serveRfail b d v) := by
  unfold Blk.serveRfail
  repeat (first | with_reducible assumption | (with_reducible apply Blk.resetEnds_bnd) | (with_reducible refine bnd_foldl (fun c x hc => ?_) _ _ ?_))

theorem Blk.comesBack_bnd (b : Blk) (d : Nat) (alrt : BitVec 7) (h₀ : QueuesFit b) : QueuesFit (Blk.comesBack b d alrt) := by
  unfold Blk.comesBack
  repeat (first | with_reducible assumption | (with_reducible apply Blk.onDie_bnd) | (with_reducible apply Blk.dieFail_bnd) | with_reducible apply bnd_ite | extract_lets | (dsimp +zetaDelta only))

theorem Blk.maskTherm_bnd (b : Blk) (d : Nat) (on : Bool) (h₀ : QueuesFit b) : QueuesFit (Blk.maskTherm b d on) :=
  keep_bnd (Blk.maskTherm_only (m₀ := [.out, .media]) b d on (by decide) (only_refl _ _)) (by decide) h₀

theorem Blk.adopt_bnd (b : Blk) (d : Nat) (v : BitVec 256) (h₀ : QueuesFit b) : QueuesFit (Blk.adopt b d v) :=
  keep_bnd (Blk.adopt_only (m₀ := [.media]) b d v (by decide) (only_refl _ _)) (by decide) h₀

theorem Blk.serveDie_bnd (b : Blk) (d : Nat) (v : BitVec 256) (h₀ : QueuesFit b) : QueuesFit (Blk.serveDie b d v) := by
  unfold Blk.serveDie
  repeat (first | with_reducible assumption | (with_reducible apply Blk.bump_bnd) | (with_reducible apply Blk.onDie_bnd) | (with_reducible apply Blk.reportUnit_bnd) | (with_reducible apply Blk.twChan_bnd) | (with_reducible apply Blk.sendDie_bnd) | (with_reducible apply Blk.maskTherm_bnd) | (with_reducible apply Blk.dieStatus_bnd) | (with_reducible apply Blk.dieFail_bnd) | (with_reducible apply Blk.serveWdat_bnd) | (with_reducible apply Blk.serveIdle_bnd) | (with_reducible apply Blk.adopt_bnd) | (with_reducible apply Blk.servePfail_bnd) | (with_reducible apply Blk.serveRfail_bnd) | (with_reducible apply Blk.comesBack_bnd) | with_reducible apply bnd_ite | extract_lets | (dsimp +zetaDelta only))

theorem Blk.channelTrained_bnd (b : Blk) (n : Nat) (ch : Nat) (o : TrainObs) (h₀ : QueuesFit b) : QueuesFit (Blk.channelTrained b n ch o) := by
  unfold Blk.channelTrained
  repeat (first | with_reducible assumption | (with_reducible apply Blk.onChan_bnd) | (with_reducible apply Blk.onDie_bnd) | (with_reducible apply Blk.dieFail_bnd) | (with_reducible apply Blk.channelFail_bnd) | (exact ⟨h₀.1, h₀.2, h₀.3, h₀.4, h₀.5⟩) | (with_reducible refine bnd_foldl (fun c x hc => ?_) _ _ ?_) | with_reducible apply bnd_ite | extract_lets | (dsimp +zetaDelta only) | exact h₀)

theorem Blk.issueAgain_bnd (b : Blk) (d : Nat) (h₀ : QueuesFit b) : QueuesFit (Blk.issueAgain b d) := by
  unfold Blk.issueAgain
  repeat (first | with_reducible assumption | (with_reducible apply Blk.onPart_bnd) | (with_reducible apply Blk.sendProgram_bnd) | (with_reducible apply Blk.program_bnd) | (with_reducible refine bnd_foldl (fun c x hc => ?_) _ _ ?_) | split)

theorem Blk.channelBack_bnd (b : Blk) (ch timeUs : Nat) (h₀ : QueuesFit b) : QueuesFit (Blk.channelBack b ch timeUs) := by
  unfold Blk.channelBack
  repeat (first | with_reducible assumption | (with_reducible apply Blk.onChan_bnd) | (with_reducible apply Blk.pump_bnd) | (with_reducible apply Blk.drive_bnd) | (with_reducible apply Blk.payOwed_bnd) | (with_reducible apply Blk.issueAgain_bnd) | (exact ⟨h₀.1, h₀.2, h₀.3, h₀.4, h₀.5⟩) | (with_reducible refine bnd_foldl (fun c x hc => ?_) _ _ ?_) | extract_lets | (dsimp +zetaDelta only) | exact h₀)

theorem Blk.headDown_bnd (b : Blk) (h : Head) (h₀ : QueuesFit b) : QueuesFit (Blk.headDown b h) := by
  unfold Blk.headDown
  repeat (first | with_reducible assumption | ((with_reducible apply head_bnd) <;> [(intro h; first | exact h | exact ⟨h.1, h.2⟩ | exact ⟨h.1, h.2.1, h.2.2⟩ | exact ⟨Nat.zero_le _, h.2⟩ | exact ⟨h.1, Nat.zero_le _, h.2.2⟩ | exact Nat.zero_le _ | exact ⟨Nat.le_trans (List.length_filter_le _ _) h.1, h.2⟩ | exact ⟨h.1, Nat.le_trans (List.length_filter_le _ _) h.2.1, h.2.2⟩ | exact ⟨by simpa using h.1, h.2⟩ | exact ⟨Nat.zero_le _, Nat.zero_le _, h.2.2⟩ | exact ⟨Nat.le_trans (List.length_filter_le _ _) h.1, Nat.le_trans (List.length_filter_le _ _) h.2.1, h.2.2⟩ | exact ⟨h.1, h.2.1, Nat.min_le_left _ _⟩ | exact onLog_fits (fun _ _ => Nat.zero_le _) h | exact onLog_fits (fun _ h => Nat.le_trans (List.length_filter_le _ _) h) h | (simp only [List.length_take]; exact Nat.min_le_left _ _)); skip]) | ((with_reducible apply linkChange_bnd) <;> [(intro h; first | exact h | exact ⟨h.1, h.2⟩ | exact ⟨h.1, h.2.1, h.2.2⟩ | exact ⟨Nat.zero_le _, h.2⟩ | exact ⟨h.1, Nat.zero_le _, h.2.2⟩ | exact Nat.zero_le _ | exact ⟨Nat.le_trans (List.length_filter_le _ _) h.1, h.2⟩ | exact ⟨h.1, Nat.le_trans (List.length_filter_le _ _) h.2.1, h.2.2⟩ | exact ⟨by simpa using h.1, h.2⟩ | exact ⟨Nat.zero_le _, Nat.zero_le _, h.2.2⟩ | exact ⟨Nat.le_trans (List.length_filter_le _ _) h.1, Nat.le_trans (List.length_filter_le _ _) h.2.1, h.2.2⟩ | exact ⟨h.1, h.2.1, Nat.min_le_left _ _⟩ | exact onLog_fits (fun _ _ => Nat.zero_le _) h | exact onLog_fits (fun _ h => Nat.le_trans (List.length_filter_le _ _) h) h | (simp only [List.length_take]; exact Nat.min_le_left _ _)); skip]) | (with_reducible apply Blk.onMuslin_bnd) | (with_reducible apply Blk.dropRequests_bnd) | (with_reducible apply Blk.muteMailbox_bnd) | (with_reducible apply Blk.closeSession_bnd) | (with_reducible apply Blk.abortBulk_bnd) | (with_reducible apply Blk.resetOwner_bnd) | extract_lets | (dsimp +zetaDelta only))

theorem Blk.headFail_bnd (b : Blk) (h : Head) (h₀ : QueuesFit b) : QueuesFit (Blk.headFail b h) := by
  unfold Blk.headFail
  repeat (first | with_reducible assumption | (with_reducible apply Blk.report_bnd) | (with_reducible apply Blk.degrade_bnd) | (with_reducible apply Blk.healthCheck_bnd) | (with_reducible apply Blk.headDown_bnd))

theorem Blk.checkerFailed_bnd (b : Blk) (k : Checker) (h₀ : QueuesFit b) : QueuesFit (Blk.checkerFailed b k) := by
  unfold Blk.checkerFailed
  repeat (first | with_reducible assumption | (with_reducible apply Blk.bump_bnd) | (with_reducible apply Blk.reportUnit_bnd) | (with_reducible apply Blk.detect_bnd) | (with_reducible apply Blk.onEngine_bnd) | (with_reducible apply Blk.bankFail_bnd) | (with_reducible apply Blk.onSensor_bnd) | (with_reducible apply Blk.sensorCount_bnd) | (with_reducible apply Blk.headFail_bnd) | with_reducible apply bnd_ite | extract_lets | split | (dsimp +zetaDelta only))

theorem Blk.loadOd_bnd (b : Blk) (keepAon : Bool) (h₀ : QueuesFit b) : QueuesFit (Blk.loadOd b keepAon) := by
  unfold Blk.loadOd
  repeat (first | with_reducible assumption | ((with_reducible apply felt_bnd) <;> [(intro _ h; exact h); skip]) | (with_reducible apply Blk.onTweed_bnd) | (exact ⟨h₀.1, h₀.2, h₀.3, h₀.4, h₀.5⟩) | (with_reducible refine bnd_foldl (fun c x hc => ?_) _ _ ?_) | with_reducible apply bnd_ite | extract_lets | split | (dsimp +zetaDelta only) | exact h₀)

theorem Blk.readAccess_bnd (b : Blk) (v : Nat) (h₀ : QueuesFit b) : QueuesFit (Blk.readAccess b v) := by
  unfold Blk.readAccess
  repeat (first | with_reducible assumption | ((with_reducible apply can_bnd) <;> [(intro h; exact h); skip]) | (with_reducible apply Blk.useFree_bnd) | (with_reducible apply Blk.report_bnd) | (exact ⟨h₀.1, h₀.2, h₀.3, h₀.4, h₀.5⟩) | with_reducible apply bnd_ite | exact h₀)

theorem Blk.unknownFault_bnd (b : Blk) (h₀ : QueuesFit b) : QueuesFit (Blk.unknownFault b) :=
  keep_bnd (Blk.unknownFault_only (m₀ := [.canvas]) b (by decide) (only_refl _ _)) (by decide) h₀

theorem Blk.aonReset_bnd (b : Blk) (straps : List (Fin 4)) (pfailHigh testEn : Bool) (h₀ : QueuesFit b) : QueuesFit (Blk.aonReset b straps pfailHigh testEn) := by
  unfold Blk.aonReset
  extract_lets v b1 b2 b3 b4
  have h1 : QueuesFit b1 := keep_bnd (Blk.onModes_only (m₀ := [.modes]) _ _ (by decide) (only_refl _ _)) (by decide) h₀
  clear_value b1
  have h2 : QueuesFit b2 := ⟨h1.1, h1.2, h1.3, h1.4, h1.5⟩
  clear_value b2
  have h3 : QueuesFit b3 := Blk.loadOd_bnd _ _ (linen_bnd (fun h => ⟨h.1, h.2.1, Nat.le_refl _⟩) h2)
  clear_value b3
  have h4 : QueuesFit b4 := Blk.newNonce_bnd _ (can_bnd (fun _ => Nat.zero_le _) h3)
  clear_value b4
  repeat (first | with_reducible assumption | ((with_reducible apply can_bnd) <;> [(intro h; exact h); skip]) | ((with_reducible apply linen_bnd) <;> [(intro h; exact h); skip]) | (with_reducible apply Blk.onModes_bnd) | (with_reducible apply Blk.setConditions_bnd) | (with_reducible apply Blk.newNonce_bnd) | (with_reducible apply Blk.cycleUp_bnd) | (with_reducible apply Blk.powerCycled_bnd) | (with_reducible apply Blk.loadOd_bnd) | (with_reducible apply Blk.unknownFault_bnd) | (with_reducible apply Blk.readAccess_bnd) | (exact ⟨h₀.1, h₀.2, h₀.3, h₀.4, h₀.5⟩))

theorem Blk.dark_bnd (b : Blk) (h₀ : QueuesFit b) : QueuesFit (Blk.dark b) := by
  unfold Blk.dark
  extract_lets b1
  have h1 : QueuesFit b1 := Blk.loseSwitched_bnd _ _ h₀
  exact ⟨h1.1, h1.2, ⟨Nat.zero_le _, Nat.zero_le _, Nat.le_refl _⟩, Nat.zero_le _, h1.5⟩

theorem Blk.flushCheck_bnd (b : Blk) (e : Nat × DpErr) (h₀ : QueuesFit b) : QueuesFit (Blk.flushCheck b e) := by
  unfold Blk.flushCheck
  repeat (first | with_reducible assumption | (with_reducible apply Blk.onVelvet_bnd) | (with_reducible apply Blk.poisonLine_bnd) | (with_reducible apply Blk.dropWay_bnd) | with_reducible apply bnd_ite | extract_lets | split | (dsimp +zetaDelta only))

theorem Blk.chatter_bnd (b : Blk) (s : Nat) (timeout : Bool) (h₀ : QueuesFit b) : QueuesFit (Blk.chatter b s timeout) := by
  unfold Blk.chatter
  repeat (first | with_reducible assumption | (with_reducible apply Blk.bump_bnd) | (with_reducible apply Blk.reportUnit_bnd) | (with_reducible apply Blk.allOff_bnd) | with_reducible apply bnd_ite | extract_lets | (dsimp +zetaDelta only))

theorem Blk.stepChange_bnd (b : Blk) (s : Nat) (was : Bool) (h₀ : QueuesFit b) : QueuesFit (Blk.stepChange b s was) := by
  unfold Blk.stepChange
  repeat (first | with_reducible assumption | (with_reducible apply Blk.onSlot_bnd) | (with_reducible apply Blk.chatter_bnd) | with_reducible apply bnd_ite | extract_lets | (dsimp +zetaDelta only))

theorem Blk.feltPowered_bnd (b : Blk) (h₀ : QueuesFit b) : QueuesFit (Blk.feltPowered b) := by
  unfold Blk.feltPowered
  repeat (first | with_reducible assumption | ((with_reducible apply felt_bnd) <;> [(intro _ h; exact h); skip]) | (with_reducible apply Blk.onCanvas_bnd) | (with_reducible apply Blk.reportUnit_bnd) | (with_reducible apply Blk.itemWrite_bnd) | (with_reducible apply Blk.canvasWrite_bnd) | (exact ⟨h₀.1, h₀.2, h₀.3, h₀.4, h₀.5⟩) | with_reducible apply bnd_ite | extract_lets | split | (dsimp +zetaDelta only) | exact h₀)

theorem Blk.mayTrain_bnd (b : Blk) (h : Head) (h₀ : QueuesFit b) : QueuesFit (Blk.mayTrain b h) := by
  unfold Blk.mayTrain
  repeat (first | with_reducible assumption | ((with_reducible apply linkChange_bnd) <;> [(intro h; exact h); skip]) | with_reducible apply bnd_ite)

theorem Blk.orderEnds_bnd (b : Blk) (h₀ : QueuesFit b) : QueuesFit (Blk.orderEnds b) :=
  keep_bnd (Blk.orderEnds_only (m₀ := [.od, .canvas, .modes]) b (by decide) (only_refl _ _)) (by decide) h₀

theorem Blk.qualified_bnd (b : Blk) (s : Nat) (h₀ : QueuesFit b) : QueuesFit (Blk.qualified b s) := by
  unfold Blk.qualified
  repeat (first | with_reducible assumption | (with_reducible apply Blk.onSlot_bnd) | (with_reducible apply Blk.powerDown_bnd) | (with_reducible apply Blk.feltPowered_bnd) | (with_reducible apply Blk.mayTrain_bnd) | (with_reducible apply Blk.orderEnds_bnd) | with_reducible apply bnd_ite | extract_lets | (dsimp +zetaDelta only))

theorem Blk.reportEnergy_bnd (b : Blk) (h₀ : QueuesFit b) : QueuesFit (Blk.reportEnergy b) := by
  unfold Blk.reportEnergy
  repeat (first | with_reducible assumption | (with_reducible apply Blk.onVelvet_bnd) | (with_reducible apply Blk.onCanvas_bnd) | (with_reducible apply Blk.onModes_bnd) | (with_reducible apply Blk.energyReport_bnd) | (exact ⟨h₀.1, h₀.2, h₀.3, h₀.4, h₀.5⟩) | with_reducible apply bnd_ite | extract_lets | (dsimp +zetaDelta only) | exact h₀)

theorem Blk.testResult_bnd (b : Blk) (stepUv dv : Nat) (h₀ : QueuesFit b) : QueuesFit (Blk.testResult b stepUv dv) := by
  unfold Blk.testResult
  repeat (first | with_reducible assumption | (with_reducible apply Blk.onCanvas_bnd) | (with_reducible apply Blk.odSet_bnd) | (with_reducible apply Blk.report_bnd) | (with_reducible apply Blk.detect_bnd) | (with_reducible apply Blk.canvasLogged_bnd) | (exact ⟨h₀.1, h₀.2, h₀.3, h₀.4, h₀.5⟩) | with_reducible apply bnd_ite | extract_lets | (dsimp +zetaDelta only) | exact h₀)

theorem Blk.fwRefused_bnd (b : Blk) (slot : Nat) (h₀ : QueuesFit b) : QueuesFit (Blk.fwRefused b slot) := by
  unfold Blk.fwRefused
  repeat (first | with_reducible assumption | (with_reducible apply Blk.report_bnd))

theorem Blk.fwRevert_bnd (b : Blk) (h₀ : QueuesFit b) : QueuesFit (Blk.fwRevert b) := by
  unfold Blk.fwRevert
  repeat (first | with_reducible assumption | ((with_reducible apply felt_bnd) <;> [(intro _ h; exact h); skip]) | (with_reducible apply Blk.report_bnd) | with_reducible apply bnd_ite)

theorem Blk.fwActive_bnd (b : Blk) {r : Blk} (hr : (Blk.fwActive b) = some r) (h₀ : QueuesFit b) : QueuesFit r := by
  unfold Blk.fwActive at hr
  dsimp only at hr
  split at hr
  · cases hr; exact h₀
  · split at hr
    · cases hr; exact Blk.fwRefused_bnd _ _ h₀
    · cases hr

theorem Blk.fwLoad_bnd (b : Blk) {r : Blk} (hr : (Blk.fwLoad b) = some r) (h₀ : QueuesFit b) : QueuesFit r := by
  unfold Blk.fwLoad at hr
  dsimp only at hr
  split at hr
  · split at hr
    · cases hr; repeat (first | with_reducible assumption | ((with_reducible apply felt_bnd) <;> [(intro _ h; exact h); skip]) | (with_reducible apply Blk.fwRefused_bnd) | (with_reducible apply Blk.fwRevert_bnd) | (with_reducible refine Blk.fwActive_bnd _ (by assumption) ?_))
    · split at hr
      · cases hr; repeat (first | with_reducible assumption | ((with_reducible apply felt_bnd) <;> [(intro _ h; exact h); skip]) | (with_reducible apply Blk.fwRefused_bnd) | (with_reducible apply Blk.fwRevert_bnd) | (with_reducible refine Blk.fwActive_bnd _ (by assumption) ?_))
      · cases hr
  · refine Blk.fwActive_bnd _ hr ?_
    repeat (first | with_reducible assumption | ((with_reducible apply felt_bnd) <;> [(intro _ h; exact h); skip]) | (with_reducible apply Blk.fwRefused_bnd) | (with_reducible apply Blk.fwRevert_bnd) | (with_reducible refine Blk.fwActive_bnd _ (by assumption) ?_))

theorem Blk.fillBank_bnd (b : Blk) (bad : List Nat) (k : Nat) (h₀ : QueuesFit b) : QueuesFit (Blk.fillBank b bad k) := by
  unfold Blk.fillBank
  repeat (first | with_reducible assumption | (with_reducible apply Blk.reportUnit_bnd) | (with_reducible apply Blk.onBank_bnd) | with_reducible apply bnd_ite | extract_lets | split | (dsimp +zetaDelta only))

theorem Blk.defaultsEvent_bnd (b : Blk) (h₀ : QueuesFit b) : QueuesFit (Blk.defaultsEvent b) := by
  unfold Blk.defaultsEvent
  repeat (first | with_reducible assumption | (with_reducible apply Blk.report_bnd) | with_reducible apply bnd_ite | extract_lets | (dsimp +zetaDelta only))

theorem Blk.shutdownCheck_bnd (b : Blk) (h₀ : QueuesFit b) : QueuesFit (Blk.shutdownCheck b) := by
  unfold Blk.shutdownCheck
  repeat (first | with_reducible assumption | ((with_reducible apply felt_bnd) <;> [(intro _ h; exact h); skip]) | (with_reducible apply Blk.onTwill_bnd) | (with_reducible apply Blk.onDamask_bnd) | (with_reducible apply Blk.dirtyUp_bnd) | with_reducible apply bnd_ite | extract_lets | (dsimp +zetaDelta only))

theorem Blk.bootChecks_bnd (b : Blk) (h₀ : QueuesFit b) : QueuesFit (Blk.bootChecks b) := by
  unfold Blk.bootChecks
  repeat (first | with_reducible assumption | ((with_reducible apply felt_bnd) <;> [(intro _ h; exact h); skip]) | (with_reducible apply Blk.onGauze_bnd) | (with_reducible apply Blk.report_bnd) | with_reducible apply bnd_ite | extract_lets | (dsimp +zetaDelta only))

theorem Blk.freshSensors_bnd (b : Blk) (h₀ : QueuesFit b) : QueuesFit (Blk.freshSensors b) :=
  keep_bnd (Blk.freshSensors_only (m₀ := [.thermal]) b (by decide) (only_refl _ _)) (by decide) h₀

theorem Blk.bringUp_bnd (b : Blk) (bad : List Nat) (h₀ : QueuesFit b) : QueuesFit (Blk.bringUp b bad) := by
  unfold Blk.bringUp
  repeat (first | with_reducible assumption | (with_reducible apply Blk.onClocks_bnd) | (with_reducible apply Blk.onModes_bnd) | (with_reducible apply Blk.faultPin_bnd) | (with_reducible apply Blk.newRates_bnd) | (with_reducible apply Blk.loadOd_bnd) | (with_reducible apply Blk.fillBank_bnd) | (with_reducible apply Blk.defaultsEvent_bnd) | (with_reducible apply Blk.shutdownCheck_bnd) | (with_reducible apply Blk.bootChecks_bnd) | (with_reducible apply Blk.freshSensors_bnd) | (exact ⟨h₀.1, h₀.2, h₀.3, h₀.4, h₀.5⟩) | (with_reducible refine bnd_foldl (fun c x hc => ?_) _ _ ?_) | extract_lets | (dsimp +zetaDelta only) | exact h₀)

theorem Blk.itemAbsent_bnd (b : Blk) (i : Nat) (h₀ : QueuesFit b) : QueuesFit (Blk.itemAbsent b i) := by
  unfold Blk.itemAbsent
  repeat (first | with_reducible assumption | ((with_reducible apply felt_bnd) <;> [(intro _ h; exact h); skip]) | (with_reducible apply Blk.onGauze_bnd) | (with_reducible apply Blk.onDamask_bnd) | (with_reducible apply Blk.blankKeys_bnd) | split)

theorem Blk.twinConflict_bnd (b : Blk) (i : Nat) (h₀ : QueuesFit b) : QueuesFit (Blk.twinConflict b i) := by
  unfold Blk.twinConflict
  repeat (first | with_reducible assumption | (with_reducible apply Blk.bump_bnd) | (with_reducible apply Blk.report_bnd) | with_reducible apply bnd_ite)

theorem Blk.itemGone_bnd (b : Blk) (i : Nat) (h₀ : QueuesFit b) : QueuesFit (Blk.itemGone b i) := by
  unfold Blk.itemGone
  repeat (first | with_reducible assumption | (with_reducible apply Blk.detect_bnd) | (with_reducible apply Blk.dropCopies_bnd) | (with_reducible apply Blk.itemAbsent_bnd) | with_reducible apply bnd_ite)

theorem Blk.loadFelt_bnd (b : Blk) (x : FeltObs) (h₀ : QueuesFit b) : QueuesFit (Blk.loadFelt b x) := by
  unfold Blk.loadFelt
  repeat (first | with_reducible assumption | (with_reducible apply Blk.twinConflict_bnd) | (with_reducible apply Blk.itemGone_bnd) | (with_reducible refine bnd_foldl (fun c x hc => ?_) _ _ ?_))

theorem Blk.fillFails_bnd (b : Blk) (bad : List Nat) (h₀ : QueuesFit b) : QueuesFit (Blk.fillFails b bad) := by
  unfold Blk.fillFails
  repeat (first | with_reducible assumption | (with_reducible apply Blk.onModes_bnd) | (with_reducible apply Blk.useFree_bnd) | (with_reducible apply Blk.report_bnd) | (with_reducible apply Blk.onBank_bnd) | (with_reducible apply Blk.ringNewest_bnd) | (with_reducible refine bnd_foldl (fun c x hc => ?_) _ _ ?_) | extract_lets | (dsimp +zetaDelta only))

theorem Blk.replaceDie_bnd (b : Blk) (d : Nat) (id : BitVec 64) (h₀ : QueuesFit b) : QueuesFit (Blk.replaceDie b d id) := by
  unfold Blk.replaceDie
  repeat (first | with_reducible assumption | (with_reducible apply onMedia_bnd <;> [(intro; rfl); skip]) | (with_reducible apply Blk.onDamask_bnd) | (with_reducible apply Blk.onDie_bnd) | (with_reducible apply Blk.reportUnit_bnd) | (with_reducible apply Blk.dieFail_bnd) | (with_reducible apply Blk.clearCells_bnd) | with_reducible apply onMedia_bnd | with_reducible apply bnd_ite | extract_lets | (dsimp +zetaDelta only))

theorem Blk.checkDie_bnd (ids : List (Nat × BitVec 64)) (b : Blk) (d : Nat) (h₀ : QueuesFit b) : QueuesFit (Blk.checkDie ids b d) := by
  unfold Blk.checkDie
  repeat (first | with_reducible assumption | (with_reducible apply Blk.dieFail_bnd) | (with_reducible apply Blk.replaceDie_bnd) | with_reducible apply bnd_ite | split)

theorem Blk.ownMedia_bnd (b : Blk) (ids : List (Nat × BitVec 64)) (h₀ : QueuesFit b) : QueuesFit (Blk.ownMedia b ids) := by
  unfold Blk.ownMedia
  repeat (first | with_reducible assumption | (with_reducible apply Blk.boundNow_bnd) | (with_reducible apply Blk.checkDie_bnd) | (with_reducible refine bnd_foldl (fun c x hc => ?_) _ _ ?_))

theorem Blk.provisionSlots_bnd (b : Blk) (h₀ : QueuesFit b) : QueuesFit (Blk.provisionSlots b) :=
  keep_bnd (Blk.provisionSlots_only (m₀ := [.free, .media, .twill, .gauze]) b (by decide) (only_refl _ _)) (by decide) h₀

theorem Blk.firstProvision_bnd (b : Blk) (h₀ : QueuesFit b) : QueuesFit (Blk.firstProvision b) := by
  unfold Blk.firstProvision
  repeat (first | with_reducible assumption | ((with_reducible apply felt_bnd) <;> [(intro _ h; exact h); skip]) | (with_reducible apply Blk.onDamask_bnd) | (with_reducible apply Blk.draw_bnd) | (with_reducible apply Blk.itemWrite_bnd) | (with_reducible apply Blk.bind_bnd) | (with_reducible apply Blk.boundNow_bnd) | (with_reducible apply Blk.provisionSlots_bnd) | extract_lets | (dsimp +zetaDelta only))

theorem Blk.heldMedia_bnd (b : Blk) (state : Nat) (record : Option (BitVec 8 × BitVec 64 × BitVec 128 × Nat)) (h₀ : QueuesFit b) : QueuesFit (Blk.heldMedia b state record) := by
  unfold Blk.heldMedia
  repeat (first | with_reducible assumption | (with_reducible apply Blk.onDamask_bnd) | (with_reducible apply Blk.report_bnd) | with_reducible apply bnd_ite | extract_lets | (dsimp +zetaDelta only))

theorem Blk.fwTaken_bnd (b : Blk) (h₀ : QueuesFit b) : QueuesFit (Blk.fwTaken b) := by
  unfold Blk.fwTaken
  repeat (first | with_reducible assumption | ((with_reducible apply felt_bnd) <;> [(intro _ h; exact h); skip]) | (with_reducible apply Blk.directoryWrite_bnd) | with_reducible apply bnd_ite | extract_lets | (dsimp +zetaDelta only))

theorem Blk.degradedNow_bnd (b : Blk) (h₀ : QueuesFit b) : QueuesFit (Blk.degradedNow b) := by
  unfold Blk.degradedNow
  repeat (first | with_reducible assumption | (with_reducible apply Blk.enter_bnd) | (with_reducible apply Blk.degrade_bnd) | with_reducible apply bnd_ite | extract_lets | (dsimp +zetaDelta only))

theorem Blk.modeNow_bnd (b : Blk) (h₀ : QueuesFit b) : QueuesFit (Blk.modeNow b) := by
  unfold Blk.modeNow
  repeat (first | with_reducible assumption | (with_reducible apply Blk.onVelvet_bnd) | (with_reducible apply Blk.report_bnd) | (with_reducible apply Blk.energyReport_bnd) | with_reducible apply bnd_ite | extract_lets | (dsimp +zetaDelta only))

theorem Blk.planNow_bnd (b : Blk) (h₀ : QueuesFit b) : QueuesFit (Blk.planNow b) := by
  unfold Blk.planNow
  repeat (first | with_reducible assumption | (with_reducible apply Blk.newPlan_bnd) | (with_reducible apply Blk.openLanes_bnd) | (with_reducible apply Blk.turnPlan_bnd) | with_reducible apply bnd_ite)

theorem Blk.startLaps_bnd (b : Blk) (h₀ : QueuesFit b) : QueuesFit (Blk.startLaps b) :=
  keep_bnd (Blk.startLaps_only (m₀ := [.media]) b (by decide) (only_refl _ _)) (by decide) h₀

theorem Blk.activate_bnd (b : Blk) (h₀ : QueuesFit b) : QueuesFit (Blk.activate b) := by
  unfold Blk.activate
  repeat (first | with_reducible assumption | ((with_reducible apply hA_bnd) <;> [(intro h; exact h); skip]) | ((with_reducible apply hB_bnd) <;> [(intro h; exact h); skip]) | (with_reducible apply Blk.onModes_bnd) | (with_reducible apply Blk.report_bnd) | (with_reducible apply Blk.setConditions_bnd) | (with_reducible apply Blk.lifeCheck_bnd) | (with_reducible apply Blk.poisonWarn_bnd) | (with_reducible apply Blk.retireWaiting_bnd) | (with_reducible apply Blk.drive_bnd) | (with_reducible apply Blk.payOwed_bnd) | (with_reducible apply Blk.throttle_bnd) | (with_reducible apply Blk.fwTaken_bnd) | (with_reducible apply Blk.startLaps_bnd) | (with_reducible apply Blk.degradedNow_bnd) | (with_reducible apply Blk.modeNow_bnd) | (with_reducible apply Blk.planNow_bnd) | (with_reducible refine bnd_foldl (fun c x hc => ?_) _ _ ?_) | with_reducible apply bnd_ite | extract_lets | (dsimp +zetaDelta only))

theorem Blk.spdmReq_bnd (b : Blk) (h : Head) (f : Blk → Blk) (hf : ∀ c, QueuesFit c → QueuesFit (f c)) (h₀ : QueuesFit b) : QueuesFit (Blk.spdmReq b h f) := by
  unfold Blk.spdmReq
  repeat (first | with_reducible assumption | (with_reducible apply hf) | (with_reducible apply bnd_ite) | extract_lets | split | (intro c hc))

theorem Blk.spdmError_bnd (b : Blk) (h : Head) (h₀ : QueuesFit b) : QueuesFit (Blk.spdmError b h) :=
  keep_bnd (Blk.spdmError_only (m₀ := [.out]) b h (by decide) (only_refl _ _)) (by decide) h₀

theorem Blk.afterAlgs_bnd (b : Blk) (h : Head) (f : Blk → Blk) (hf : ∀ c, QueuesFit c → QueuesFit (f c)) (h₀ : QueuesFit b) : QueuesFit (Blk.afterAlgs b h f) := by
  unfold Blk.afterAlgs
  repeat (first | with_reducible assumption | (with_reducible apply Blk.spdmError_bnd) | (with_reducible apply hf) | (with_reducible apply bnd_ite) | extract_lets | split | (intro c hc))

theorem Blk.inSession_bnd (b : Blk) (h : Head) (f : Blk → Blk) (hf : ∀ c, QueuesFit c → QueuesFit (f c)) (h₀ : QueuesFit b) : QueuesFit (Blk.inSession b h f) := by
  unfold Blk.inSession
  repeat (first | with_reducible assumption | (with_reducible apply Blk.spdmError_bnd) | (with_reducible apply hf) | (with_reducible apply bnd_ite) | extract_lets | split | (intro c hc))

theorem Blk.dropDeep_bnd (b : Blk) (d : Deep) (h₀ : QueuesFit b) : QueuesFit (Blk.dropDeep b d) :=
  keep_bnd (Blk.dropDeep_only (m₀ := [.path]) b d (by decide) (only_refl _ _)) (by decide) h₀

theorem Blk.deepJobs_bnd (b : Blk) (li : Nat) (f : Job → Job) (h₀ : QueuesFit b) : QueuesFit (Blk.deepJobs b li f) :=
  keep_bnd (Blk.deepJobs_only (m₀ := [.twill]) b li f (by decide) (only_refl _ _)) (by decide) h₀

theorem Blk.writeBack_bnd (b : Blk) (li : Nat) (line : Line) (h₀ : QueuesFit b) : QueuesFit (Blk.writeBack b li line) :=
  keep_bnd (Blk.writeBack_only (m₀ := [.velvet]) b li line (by decide) (only_refl _ _)) (by decide) h₀

theorem Blk.bgEnds_bnd (b : Blk) (h₀ : QueuesFit b) : QueuesFit (Blk.bgEnds b) :=
  keep_bnd (Blk.bgEnds_only (m₀ := [.out, .dev]) b (by decide) (only_refl _ _)) (by decide) h₀

theorem Blk.blankTables_bnd (b0 : Blk) (h₀ : QueuesFit b0) : QueuesFit (Blk.blankTables b0) :=
  keep_bnd (Blk.blankTables_only (m₀ := [.free, .dev, .path, .lines, .poison, .media, .twill, .gauze, .damask]) b0 (by decide) (only_refl _ _)) (by decide) h₀

theorem Blk.overwriteAll_bnd (b : Blk) (h₀ : QueuesFit b) : QueuesFit (Blk.overwriteAll b) :=
  keep_bnd (Blk.overwriteAll_only (m₀ := [.lines, .media]) b (by decide) (only_refl _ _)) (by decide) h₀

theorem Blk.markExport_bnd (b : Blk) (idx sub : Nat) (h₀ : QueuesFit b) : QueuesFit (Blk.markExport b idx sub) :=
  keep_bnd (Blk.markExport_only (m₀ := [.damask]) b idx sub (by decide) (only_refl _ _)) (by decide) h₀

theorem Blk.dropRegionLines_bnd (b : Blk) (g : Rgn) (h₀ : QueuesFit b) : QueuesFit (Blk.dropRegionLines b g) :=
  keep_bnd (Blk.dropRegionLines_only (m₀ := [.path, .velvet, .twill]) b g (by decide) (only_refl _ _)) (by decide) h₀

theorem Blk.dropRegionHot_bnd (b : Blk) (g : Rgn) (h₀ : QueuesFit b) : QueuesFit (Blk.dropRegionHot b g) :=
  keep_bnd (Blk.dropRegionHot_only (m₀ := [.media, .twill]) b g (by decide) (only_refl _ _)) (by decide) h₀

theorem Blk.dueAdd_bnd (b : Blk) (h : Head) (e : BitVec 16 × BitVec 32) (h₀ : QueuesFit b) : QueuesFit (Blk.dueAdd b h e) :=
  keep_bnd (Blk.dueAdd_only (m₀ := [.due, .dueB]) b h e (by decide) (only_refl _ _)) (by decide) h₀

theorem Blk.ageRegions_bnd (b : Blk) (h₀ : QueuesFit b) : QueuesFit (Blk.ageRegions b) :=
  keep_bnd (Blk.ageRegions_only (m₀ := [.twill]) b (by decide) (only_refl _ _)) (by decide) h₀

theorem Blk.ageSlots_bnd (b : Blk) (h₀ : QueuesFit b) : QueuesFit (Blk.ageSlots b) :=
  keep_bnd (Blk.ageSlots_only (m₀ := [.gauze]) b (by decide) (only_refl _ _)) (by decide) h₀

theorem Blk.restoreMap_bnd (b : Blk) (h₀ : QueuesFit b) : QueuesFit (Blk.restoreMap b) :=
  keep_bnd (Blk.restoreMap_only (m₀ := [.twill, .safety]) b (by decide) (only_refl _ _)) (by decide) h₀

theorem Blk.startHomes_bnd (b : Blk) (h₀ : QueuesFit b) : QueuesFit (Blk.startHomes b) :=
  keep_bnd (Blk.startHomes_only (m₀ := [.free, .media, .twill, .tweed]) b (by decide) (only_refl _ _)) (by decide) h₀

theorem Blk.heatRegions_bnd (b : Blk) (h₀ : QueuesFit b) : QueuesFit (Blk.heatRegions b) :=
  keep_bnd (Blk.heatRegions_only (m₀ := [.twill]) b (by decide) (only_refl _ _)) (by decide) h₀

theorem Blk.takeRow_bnd (b : Blk) (c : Cls) (h₀ : QueuesFit b) : QueuesFit (Blk.takeRow b c) :=
  keep_bnd (Blk.takeRow_only (m₀ := [.twill]) b c (by decide) (only_refl _ _)) (by decide) h₀

theorem Blk.startRefresh_bnd (b : Blk) (area : Nat) (rest : List (Nat × Nat)) (h₀ : QueuesFit b) : QueuesFit (Blk.startRefresh b area rest) :=
  keep_bnd (Blk.startRefresh_only (m₀ := [.twill]) b area rest (by decide) (only_refl _ _)) (by decide) h₀

theorem Blk.scanNext_bnd (b : Blk) (h₀ : QueuesFit b) : QueuesFit (Blk.scanNext b) :=
  keep_bnd (Blk.scanNext_only (m₀ := [.free, .out, .dev, .media, .twill, .tweed]) b (by decide) (only_refl _ _)) (by decide) h₀

theorem Blk.putCell_bnd (b : Blk) (d k n j : Nat) (c : GCell) (h₀ : QueuesFit b) : QueuesFit (Blk.putCell b d k n j c) :=
  keep_bnd (Blk.putCell_only (m₀ := [.gauze]) b d k n j c (by decide) (only_refl _ _)) (by decide) h₀

theorem Blk.evaluateArea_bnd (b : Blk) (area : Nat) (h₀ : QueuesFit b) : QueuesFit (Blk.evaluateArea b area) :=
  keep_bnd (Blk.evaluateArea_only (m₀ := [.twill]) b area (by decide) (only_refl _ _)) (by decide) h₀

theorem Blk.beginEvaluation_bnd (b : Blk) (h₀ : QueuesFit b) : QueuesFit (Blk.beginEvaluation b) :=
  keep_bnd (Blk.beginEvaluation_only (m₀ := [.gauze]) b (by decide) (only_refl _ _)) (by decide) h₀

theorem Blk.startTag_bnd (b : Blk) (ti : Nat) (h₀ : QueuesFit b) : QueuesFit (Blk.startTag b ti) :=
  keep_bnd (Blk.startTag_only (m₀ := [.free, .media, .twill, .tweed]) b ti (by decide) (only_refl _ _)) (by decide) h₀

theorem Blk.findDies_bnd (b : Blk) (ch : Nat) (o : TrainObs) (h₀ : QueuesFit b) : QueuesFit (Blk.findDies b ch o) :=
  keep_bnd (Blk.findDies_only (m₀ := [.free, .out, .media]) b ch o (by decide) (only_refl _ _)) (by decide) h₀

theorem Blk.sendTo_bnd (b : Blk) (ch : Nat) (cs : BitVec 8) (c : DieCmd) (h₀ : QueuesFit b) : QueuesFit (Blk.sendTo b ch cs c) :=
  keep_bnd (Blk.sendTo_only (m₀ := [.out, .media]) b ch cs c (by decide) (only_refl _ _)) (by decide) h₀

theorem Blk.secondFault_bnd (b : Blk) (slot code mv : Nat) (h₀ : QueuesFit b) : QueuesFit (Blk.secondFault b slot code mv) :=
  keep_bnd (Blk.secondFault_only (m₀ := [.od, .canvas]) b slot code mv (by decide) (only_refl _ _)) (by decide) h₀

theorem Blk.readIds_bnd (b : Blk) (ids : List (Nat × BitVec 64)) (h₀ : QueuesFit b) : QueuesFit (Blk.readIds b ids) :=
  keep_bnd (Blk.readIds_only (m₀ := [.media]) b ids (by decide) (only_refl _ _)) (by decide) h₀

theorem Blk.autoReturn_bnd (b : Blk) (h₀ : QueuesFit b) : QueuesFit (Blk.autoReturn b) :=
  keep_bnd (Blk.autoReturn_only (m₀ := [.clocks]) b (by decide) (only_refl _ _)) (by decide) h₀

theorem Blk.coolDown_bnd (b : Blk) (h₀ : QueuesFit b) : QueuesFit (Blk.coolDown b) :=
  keep_bnd (Blk.coolDown_only (m₀ := [.thermal, .modes]) b (by decide) (only_refl _ _)) (by decide) h₀

theorem Blk.spdmSay_bnd (b : Blk) (h : Head) (code : Nat) (out : List Nat) (h₀ : QueuesFit b) : QueuesFit (Blk.spdmSay b h code out) :=
  keep_bnd (Blk.spdmSay_only (m₀ := [.out]) b h code out (by decide) (only_refl _ _)) (by decide) h₀

theorem Blk.trainDie_bnd (b : Blk) (d : Nat) (fallback : Bool) (h₀ : QueuesFit b) : QueuesFit (Blk.trainDie b d fallback) :=
  keep_bnd (Blk.trainDie_only (m₀ := [.free, .media]) b d fallback (by decide) (only_refl _ _)) (by decide) h₀

theorem Blk.fullTraining_bnd (b : Blk) (ch : Nat) (dies : List Nat) (timeUs : Nat) (h₀ : QueuesFit b) : QueuesFit (Blk.fullTraining b ch dies timeUs) :=
  keep_bnd (Blk.fullTraining_only (m₀ := [.free, .out, .media]) b ch dies timeUs (by decide) (only_refl _ _)) (by decide) h₀

theorem execMemRd_bnd (x0 x1 x2 x3) (s t : State) (h₀ : QueuesFit (s.blk.at x0)) (h : execMemRd x0 x1 x2 x3 s = .next t) : QueuesFit t.blk := by
  unfold execMemRd State.command at h
  cases h
  generalize s.blk.at x0 = b at h₀ ⊢
  dsimp only
  repeat (first | with_reducible assumption | (with_reducible apply Blk.arrive_bnd) | with_reducible apply bnd_ite | extract_lets | split | (intros; dsimp only))

theorem execMemRdData_bnd (x0 x1 x2 x3) (s t : State) (h₀ : QueuesFit (s.blk.at x0)) (h : execMemRdData x0 x1 x2 x3 s = .next t) : QueuesFit t.blk := by
  unfold execMemRdData State.command at h
  cases h
  generalize s.blk.at x0 = b at h₀ ⊢
  dsimp only
  repeat (first | with_reducible assumption | (with_reducible apply Blk.arrive_bnd) | with_reducible apply bnd_ite | extract_lets | split | (intros; dsimp only))

theorem execMemWr_bnd (x0 x1 x2 x3 x4 x5) (s t : State) (h₀ : QueuesFit (s.blk.at x0)) (h : execMemWr x0 x1 x2 x3 x4 x5 s = .next t) : QueuesFit t.blk := by
  unfold execMemWr State.command at h
  cases h
  generalize s.blk.at x0 = b at h₀ ⊢
  dsimp only
  repeat (first | with_reducible assumption | (with_reducible apply Blk.arrive_bnd) | with_reducible apply bnd_ite | extract_lets | split | (intros; dsimp only))

theorem execMemWrPtl_bnd (x0 x1 x2 x3 x4 x5 x6) (s t : State) (h₀ : QueuesFit (s.blk.at x0)) (h : execMemWrPtl x0 x1 x2 x3 x4 x5 x6 s = .next t) : QueuesFit t.blk := by
  unfold execMemWrPtl State.command at h
  cases h
  generalize s.blk.at x0 = b at h₀ ⊢
  dsimp only
  repeat (first | with_reducible assumption | (with_reducible apply Blk.arrive_bnd) | with_reducible apply bnd_ite | extract_lets | split | (intros; dsimp only))

theorem execUnsupportedRequest_bnd (x0 x1 x2 x3 x4) (s t : State) (h₀ : QueuesFit (s.blk.at x0)) (h : execUnsupportedRequest x0 x1 x2 x3 x4 s = .next t) : QueuesFit t.blk := by
  unfold execUnsupportedRequest State.command at h
  cases h
  generalize s.blk.at x0 = b at h₀ ⊢
  dsimp only
  repeat (first | with_reducible assumption | (with_reducible apply Blk.bump_bnd) | (with_reducible apply Blk.report_bnd) | (with_reducible apply Blk.refuse_bnd) | with_reducible apply bnd_ite | extract_lets | split | (intros; dsimp only))

theorem execAcceptance_bnd (x0 x1 x2 x3) (s t : State) (h₀ : QueuesFit (s.blk.at x0)) (h : execAcceptance x0 x1 x2 x3 s = .next t) : QueuesFit t.blk := by
  unfold execAcceptance State.command at h
  cases h
  generalize s.blk.at x0 = b at h₀ ⊢
  dsimp only
  repeat (first | with_reducible assumption | (with_reducible apply Blk.tryAccept_bnd) | with_reducible apply bnd_ite | extract_lets | split | (intros; dsimp only))

theorem execReadIssue_bnd (x0 x1 x2 x3) (s t : State) (h₀ : QueuesFit (s.blk.at x0)) (h : execReadIssue x0 x1 x2 x3 s = .next t) : QueuesFit t.blk := by
  unfold execReadIssue State.command at h
  cases h
  generalize s.blk.at x0 = b at h₀ ⊢
  dsimp only
  repeat (first | with_reducible assumption | (with_reducible apply Blk.onPart_bnd) | (with_reducible apply Blk.issue_bnd) | (with_reducible apply Blk.readOn_bnd) | (with_reducible apply Blk.fromBuffer_bnd) | with_reducible apply bnd_ite | extract_lets | split | (intros; dsimp only))

theorem execReadTransfer_bnd (x0 x1 x2 x3 x4) (s t : State) (h₀ : QueuesFit (s.blk.at x0)) (h : execReadTransfer x0 x1 x2 x3 x4 s = .next t) : QueuesFit t.blk := by
  unfold execReadTransfer State.command at h
  cases h
  generalize s.blk.at x0 = b at h₀ ⊢
  dsimp only
  repeat (first | with_reducible assumption | (with_reducible apply Blk.tw_bnd) | (with_reducible apply Blk.onPart_bnd) | (with_reducible apply Blk.dieStatus_bnd) | (with_reducible apply Blk.readOn_bnd) | (with_reducible apply Blk.transferFailed_bnd) | (with_reducible apply Blk.transferred_bnd) | (with_reducible apply Blk.phaseSeen_bnd) | (with_reducible apply Blk.marginTransfer_bnd) | with_reducible apply bnd_ite | extract_lets | split | (intros; dsimp only))

theorem execReconstructionComplete_bnd (x0 x1 x2 x3) (s t : State) (h₀ : QueuesFit (s.blk.at x0)) (h : execReconstructionComplete x0 x1 x2 x3 s = .next t) : QueuesFit t.blk := by
  unfold execReconstructionComplete State.command at h
  cases h
  generalize s.blk.at x0 = b at h₀ ⊢
  dsimp only
  repeat (first | with_reducible assumption | (with_reducible apply Blk.lineData_bnd) | (with_reducible apply Blk.startDeep_bnd) | (with_reducible apply Blk.settleTags_bnd) | (with_reducible apply Blk.readOn_bnd) | (with_reducible refine bnd_foldl (fun c x hc => ?_) _ _ ?_) | with_reducible apply bnd_ite | extract_lets | split | (intros; dsimp only))

theorem execFillReturn_bnd (x0 x1) (s t : State) (h₀ : QueuesFit (s.blk.at x0)) (h : execFillReturn x0 x1 s = .next t) : QueuesFit t.blk := by
  unfold execFillReturn State.command at h
  cases h
  generalize s.blk.at x0 = b at h₀ ⊢
  dsimp only
  repeat (first | with_reducible assumption | (with_reducible apply Blk.onPath_bnd) | (with_reducible apply Blk.applyFill_bnd) | (with_reducible apply Blk.startFill_bnd) | with_reducible apply bnd_ite | extract_lets | split | (intros; dsimp only))

theorem execDeadlineExpiry_bnd (x0 x1) (s t : State) (h₀ : QueuesFit (s.blk.at x0)) (h : execDeadlineExpiry x0 x1 s = .next t) : QueuesFit t.blk := by
  unfold execDeadlineExpiry State.command at h
  cases h
  generalize s.blk.at x0 = b at h₀ ⊢
  dsimp only
  repeat (first | with_reducible assumption | (with_reducible apply Blk.bump_bnd) | (with_reducible apply Blk.answerDeep_bnd) | (with_reducible apply Blk.deadlineList_bnd) | with_reducible apply bnd_ite | extract_lets | split | (intros; dsimp only))

theorem execDeepRecoveryTimeout_bnd (x0 x1) (s t : State) (h₀ : QueuesFit (s.blk.at x0)) (h : execDeepRecoveryTimeout x0 x1 s = .next t) : QueuesFit t.blk := by
  unfold execDeepRecoveryTimeout State.command at h
  cases h
  generalize s.blk.at x0 = b at h₀ ⊢
  dsimp only
  repeat (first | with_reducible assumption | (with_reducible apply Blk.endAcc_bnd) | (with_reducible apply Blk.poisonFill_bnd) | (with_reducible apply Blk.damaskFailure_bnd) | (with_reducible apply Blk.dropDeep_bnd) | (with_reducible apply Blk.poisonRest_bnd) | (with_reducible apply Blk.answerDeep_bnd) | (with_reducible apply Blk.drive_bnd) | (with_reducible apply Blk.deepJobs_bnd) | (with_reducible refine bnd_foldl (fun c x hc => ?_) _ _ ?_) | with_reducible apply bnd_ite | extract_lets | split | (intros; dsimp only))

theorem execDeepRecoverySuccess_bnd (x0 x1 x2 x3) (s t : State) (h₀ : QueuesFit (s.blk.at x0)) (h : execDeepRecoverySuccess x0 x1 x2 x3 s = .next t) : QueuesFit t.blk := by
  unfold execDeepRecoverySuccess State.command at h
  cases h
  generalize s.blk.at x0 = b at h₀ ⊢
  dsimp only
  repeat (first | with_reducible assumption | (with_reducible apply Blk.bump_bnd) | (with_reducible apply Blk.report_bnd) | (with_reducible apply Blk.applyFill_bnd) | (with_reducible apply Blk.lineData_bnd) | (with_reducible apply Blk.dropDeep_bnd) | (with_reducible apply Blk.drive_bnd) | (with_reducible apply Blk.deepJobs_bnd) | (with_reducible apply Blk.writeBack_bnd) | (with_reducible apply Blk.unlistRecovered_bnd) | (with_reducible refine bnd_foldl (fun c x hc => ?_) _ _ ?_) | with_reducible apply bnd_ite | extract_lets | split | (intros; dsimp only))

theorem execProgramGuard_bnd (x0 x1 x2 x3) (s t : State) (h₀ : QueuesFit (s.blk.at x0)) (h : execProgramGuard x0 x1 x2 x3 s = .next t) : QueuesFit t.blk := by
  unfold execProgramGuard State.command at h
  cases h
  generalize s.blk.at x0 = b at h₀ ⊢
  dsimp only
  repeat (first | with_reducible assumption | (with_reducible apply Blk.tw_bnd) | (with_reducible apply Blk.onPart_bnd) | (with_reducible apply Blk.program_bnd) | with_reducible apply bnd_ite | extract_lets | split | (intros; dsimp only))

theorem execColdPathWrite_bnd (x0 x1 x2) (s t : State) (h₀ : QueuesFit (s.blk.at x0)) (h : execColdPathWrite x0 x1 x2 s = .next t) : QueuesFit t.blk := by
  unfold execColdPathWrite State.command at h
  cases h
  generalize s.blk.at x0 = b at h₀ ⊢
  dsimp only
  repeat (first | with_reducible assumption | (with_reducible apply Blk.drive_bnd) | (with_reducible apply Blk.coldBuffer_bnd) | (with_reducible apply Blk.coldThrough_bnd) | with_reducible apply bnd_ite | extract_lets | split | (intros; dsimp only))

theorem execHotAppend_bnd (x0 x1 x2 x3) (s t : State) (h₀ : QueuesFit (s.blk.at x0)) (h : execHotAppend x0 x1 x2 x3 s = .next t) : QueuesFit t.blk := by
  unfold execHotAppend State.command at h
  cases h
  generalize s.blk.at x0 = b at h₀ ⊢
  dsimp only
  repeat (first | with_reducible assumption | (with_reducible apply Blk.egress_bnd) | (with_reducible apply Blk.drive_bnd) | (with_reducible apply Blk.hotWrite_bnd) | with_reducible apply bnd_ite | extract_lets | split | (intros; dsimp only))

theorem execProgramComplete_bnd (x0 x1 x2 x3 x4) (s t : State) (h₀ : QueuesFit (s.blk.at x0)) (h : execProgramComplete x0 x1 x2 x3 x4 s = .next t) : QueuesFit t.blk := by
  unfold execProgramComplete State.command at h
  cases h
  generalize s.blk.at x0 = b at h₀ ⊢
  dsimp only
  repeat (first | with_reducible assumption | (with_reducible apply Blk.programEnds_bnd) | (with_reducible apply Blk.goOn_bnd) | with_reducible apply bnd_ite | extract_lets | split | (intros; dsimp only))

theorem execTileResetComplete_bnd (x0 x1 x2 x3 x4) (s t : State) (h₀ : QueuesFit (s.blk.at x0)) (h : execTileResetComplete x0 x1 x2 x3 x4 s = .next t) : QueuesFit t.blk := by
  unfold execTileResetComplete State.command at h
  cases h
  generalize s.blk.at x0 = b at h₀ ⊢
  dsimp only
  repeat (first | with_reducible assumption | (with_reducible apply Blk.goOn_bnd) | (with_reducible apply Blk.resetEnds_bnd) | with_reducible apply bnd_ite | extract_lets | split | (intros; dsimp only))

theorem execWriteThroughWrite_bnd (x0 x1 x2 x3) (s t : State) (h₀ : QueuesFit (s.blk.at x0)) (h : execWriteThroughWrite x0 x1 x2 x3 s = .next t) : QueuesFit t.blk := by
  unfold execWriteThroughWrite State.command at h
  cases h
  generalize s.blk.at x0 = b at h₀ ⊢
  dsimp only
  repeat (first | with_reducible assumption | (with_reducible apply Blk.onPath_bnd) | (with_reducible apply Blk.tw_bnd) | (with_reducible apply Blk.program_bnd) | (with_reducible apply Blk.takePosition_bnd) | (with_reducible apply Blk.egress_bnd) | (with_reducible apply Blk.keepWay_bnd) | with_reducible apply bnd_ite | extract_lets | split | (intros; dsimp only))

theorem execRangeClean_bnd (x0 x1) (s t : State) (h₀ : QueuesFit (s.blk.at x0)) (h : execRangeClean x0 x1 s = .next t) : QueuesFit t.blk := by
  unfold execRangeClean State.command at h
  cases h
  generalize s.blk.at x0 = b at h₀ ⊢
  dsimp only
  repeat (first | with_reducible assumption | (with_reducible apply Blk.writeReq_bnd <;> [(intros; try dsimp only); skip]) | (with_reducible apply Blk.startRange_bnd) | with_reducible apply bnd_ite | extract_lets | split | (intros; dsimp only))

theorem execRangeInvalidate_bnd (x0 x1) (s t : State) (h₀ : QueuesFit (s.blk.at x0)) (h : execRangeInvalidate x0 x1 s = .next t) : QueuesFit t.blk := by
  unfold execRangeInvalidate State.command at h
  cases h
  generalize s.blk.at x0 = b at h₀ ⊢
  dsimp only
  repeat (first | with_reducible assumption | (with_reducible apply Blk.writeReq_bnd <;> [(intros; try dsimp only); skip]) | (with_reducible apply Blk.startRange_bnd) | with_reducible apply bnd_ite | extract_lets | split | (intros; dsimp only))

theorem execRangeCleanAndInvalidate_bnd (x0 x1) (s t : State) (h₀ : QueuesFit (s.blk.at x0)) (h : execRangeCleanAndInvalidate x0 x1 s = .next t) : QueuesFit t.blk := by
  unfold execRangeCleanAndInvalidate State.command at h
  cases h
  generalize s.blk.at x0 = b at h₀ ⊢
  dsimp only
  repeat (first | with_reducible assumption | (with_reducible apply Blk.writeReq_bnd <;> [(intros; try dsimp only); skip]) | (with_reducible apply Blk.startRange_bnd) | with_reducible apply bnd_ite | extract_lets | split | (intros; dsimp only))

theorem execRangeOperationEnd_bnd (x0) (s t : State) (h₀ : QueuesFit (s.blk.at x0)) (h : execRangeOperationEnd x0 s = .next t) : QueuesFit t.blk := by
  unfold execRangeOperationEnd State.command at h
  cases h
  generalize s.blk.at x0 = b at h₀ ⊢
  dsimp only
  repeat (first | with_reducible assumption | (with_reducible apply Blk.onVelvet_bnd) | (with_reducible apply Blk.odSet_bnd) | (with_reducible apply Blk.maintain_bnd) | with_reducible apply bnd_ite | extract_lets | split | (intros; dsimp only))

theorem execLineCleanByAddress_bnd (x0 x1 x2) (s t : State) (h₀ : QueuesFit (s.blk.at x0)) (h : execLineCleanByAddress x0 x1 x2 s = .next t) : QueuesFit t.blk := by
  unfold execLineCleanByAddress State.command at h
  cases h
  generalize s.blk.at x0 = b at h₀ ⊢
  dsimp only
  repeat (first | with_reducible assumption | (with_reducible apply Blk.writeReq_bnd <;> [(intros; try dsimp only); skip]) | (with_reducible apply Blk.byAddress_bnd) | with_reducible apply bnd_ite | extract_lets | split | (intros; dsimp only))

theorem execLineInvalidateByAddress_bnd (x0 x1 x2) (s t : State) (h₀ : QueuesFit (s.blk.at x0)) (h : execLineInvalidateByAddress x0 x1 x2 s = .next t) : QueuesFit t.blk := by
  unfold execLineInvalidateByAddress State.command at h
  cases h
  generalize s.blk.at x0 = b at h₀ ⊢
  dsimp only
  repeat (first | with_reducible assumption | (with_reducible apply Blk.writeReq_bnd <;> [(intros; try dsimp only); skip]) | (with_reducible apply Blk.byAddress_bnd) | with_reducible apply bnd_ite | extract_lets | split | (intros; dsimp only))

theorem execLineCleanInvalidateByAddress_bnd (x0 x1 x2) (s t : State) (h₀ : QueuesFit (s.blk.at x0)) (h : execLineCleanInvalidateByAddress x0 x1 x2 s = .next t) : QueuesFit t.blk := by
  unfold execLineCleanInvalidateByAddress State.command at h
  cases h
  generalize s.blk.at x0 = b at h₀ ⊢
  dsimp only
  repeat (first | with_reducible assumption | (with_reducible apply Blk.writeReq_bnd <;> [(intros; try dsimp only); skip]) | (with_reducible apply Blk.byAddress_bnd) | with_reducible apply bnd_ite | extract_lets | split | (intros; dsimp only))

theorem execLineCleanBySetAndWay_bnd (x0 x1 x2 x3) (s t : State) (h₀ : QueuesFit (s.blk.at x0)) (h : execLineCleanBySetAndWay x0 x1 x2 x3 s = .next t) : QueuesFit t.blk := by
  unfold execLineCleanBySetAndWay State.command at h
  cases h
  generalize s.blk.at x0 = b at h₀ ⊢
  dsimp only
  repeat (first | with_reducible assumption | (with_reducible apply Blk.writeReq_bnd <;> [(intros; try dsimp only); skip]) | (with_reducible apply Blk.bySetWay_bnd) | with_reducible apply bnd_ite | extract_lets | split | (intros; dsimp only))

theorem execLineInvalidateBySetAndWay_bnd (x0 x1 x2 x3) (s t : State) (h₀ : QueuesFit (s.blk.at x0)) (h : execLineInvalidateBySetAndWay x0 x1 x2 x3 s = .next t) : QueuesFit t.blk := by
  unfold execLineInvalidateBySetAndWay State.command at h
  cases h
  generalize s.blk.at x0 = b at h₀ ⊢
  dsimp only
  repeat (first | with_reducible assumption | (with_reducible apply Blk.writeReq_bnd <;> [(intros; try dsimp only); skip]) | (with_reducible apply Blk.bySetWay_bnd) | with_reducible apply bnd_ite | extract_lets | split | (intros; dsimp only))

theorem execLineCleanInvalidateBySetAndWay_bnd (x0 x1 x2 x3) (s t : State) (h₀ : QueuesFit (s.blk.at x0)) (h : execLineCleanInvalidateBySetAndWay x0 x1 x2 x3 s = .next t) : QueuesFit t.blk := by
  unfold execLineCleanInvalidateBySetAndWay State.command at h
  cases h
  generalize s.blk.at x0 = b at h₀ ⊢
  dsimp only
  repeat (first | with_reducible assumption | (with_reducible apply Blk.writeReq_bnd <;> [(intros; try dsimp only); skip]) | (with_reducible apply Blk.bySetWay_bnd) | with_reducible apply bnd_ite | extract_lets | split | (intros; dsimp only))

theorem execHint_bnd (x0 x1 x2) (s t : State) (h₀ : QueuesFit (s.blk.at x0)) (h : execHint x0 x1 x2 s = .next t) : QueuesFit t.blk := by
  unfold execHint State.command at h
  cases h
  generalize s.blk.at x0 = b at h₀ ⊢
  dsimp only
  repeat (first | with_reducible assumption | ((with_reducible apply head_bnd) <;> [(intro h; exact h); skip]) | (with_reducible apply Blk.ringHint_bnd) | with_reducible apply bnd_ite | extract_lets | split | (intros; dsimp only))

theorem execHintCancel_bnd (x0 x1 x2) (s t : State) (h₀ : QueuesFit (s.blk.at x0)) (h : execHintCancel x0 x1 x2 s = .next t) : QueuesFit t.blk := by
  unfold execHintCancel State.command at h
  cases h
  generalize s.blk.at x0 = b at h₀ ⊢
  dsimp only
  repeat (first | with_reducible assumption | ((with_reducible apply head_bnd) <;> [(intro h; exact h); skip]) | (with_reducible apply Blk.ringHint_bnd) | with_reducible apply bnd_ite | extract_lets | split | (intros; dsimp only))

theorem execPrefetchRead_bnd (x0 x1) (s t : State) (h₀ : QueuesFit (s.blk.at x0)) (h : execPrefetchRead x0 x1 s = .next t) : QueuesFit t.blk := by
  unfold execPrefetchRead State.command at h
  cases h
  generalize s.blk.at x0 = b at h₀ ⊢
  dsimp only
  split
  · exact h₀
  · rename_i li rest hn
    have hr := nextHint_len hn
    have h1 : QueuesFit (b.onHead x1 fun x => { x with hints := rest }) := head_bnd (fun h => ⟨h.1, Nat.le_trans hr h.2.1, h.2.2⟩) h₀
    generalize (b.onHead x1 fun x => { x with hints := rest }) = b1 at h1 ⊢
    repeat (first | with_reducible assumption | (with_reducible refine Blk.allocate_bnd _ _ _ _ (by assumption) ?_) | (with_reducible apply Blk.startFill_bnd) | with_reducible apply bnd_ite | split)

theorem execStartBarrier_bnd (x0 x1) (s t : State) (h₀ : QueuesFit (s.blk.at x0)) (h : execStartBarrier x0 x1 s = .next t) : QueuesFit t.blk := by
  unfold execStartBarrier State.command at h
  cases h
  generalize s.blk.at x0 = b at h₀ ⊢
  dsimp only
  repeat (first | with_reducible assumption | (with_reducible apply Blk.writeReq_bnd <;> [(intros; try dsimp only); skip]) | (with_reducible apply Blk.openBarrier_bnd) | with_reducible apply bnd_ite | extract_lets | split | (intros; dsimp only))

theorem execBarrierCompletion_bnd (x0) (s t : State) (h₀ : QueuesFit (s.blk.at x0)) (h : execBarrierCompletion x0 s = .next t) : QueuesFit t.blk := by
  unfold execBarrierCompletion State.command at h
  cases h
  generalize s.blk.at x0 = b at h₀ ⊢
  dsimp only
  repeat (first | with_reducible assumption | (with_reducible apply Blk.onPath_bnd) | (with_reducible apply Blk.odSet_bnd) | (with_reducible apply Blk.bump_bnd) | (with_reducible apply Blk.report_bnd) | with_reducible apply bnd_ite | extract_lets | split | (intros; dsimp only))

theorem execGpfPhase2_bnd (x0 x1) (s t : State) (h₀ : QueuesFit (s.blk.at x0)) (h : execGpfPhase2 x0 x1 s = .next t) : QueuesFit t.blk := by
  unfold execGpfPhase2 State.command at h
  cases h
  generalize s.blk.at x0 = b at h₀ ⊢
  dsimp only
  repeat (first | with_reducible assumption | ((with_reducible apply head_bnd) <;> [(intro h; exact h); skip]) | with_reducible apply bnd_ite | extract_lets | split | (intros; dsimp only))

theorem execGpfPhase2Complete_bnd (x0 x1) (s t : State) (h₀ : QueuesFit (s.blk.at x0)) (h : execGpfPhase2Complete x0 x1 s = .next t) : QueuesFit t.blk := by
  unfold execGpfPhase2Complete State.command at h
  cases h
  generalize s.blk.at x0 = b at h₀ ⊢
  dsimp only
  repeat (first | with_reducible assumption | ((with_reducible apply head_bnd) <;> [(intro h; exact h); skip]) | (with_reducible apply Blk.emit_bnd) | with_reducible apply bnd_ite | extract_lets | split | (intros; dsimp only))

theorem execClearEventRecords_bnd (x0 x1 x2 x3 x4) (s t : State) (h₀ : QueuesFit (s.blk.at x0)) (h : execClearEventRecords x0 x1 x2 x3 x4 s = .next t) : QueuesFit t.blk := by
  unfold execClearEventRecords State.command at h
  cases h
  generalize s.blk.at x0 = b at h₀ ⊢
  dsimp only
  repeat (first | with_reducible assumption | ((with_reducible apply head_bnd) <;> [(intro h; first | exact h | exact ⟨h.1, h.2⟩ | exact ⟨h.1, h.2.1, h.2.2⟩ | exact ⟨Nat.zero_le _, h.2⟩ | exact ⟨h.1, Nat.zero_le _, h.2.2⟩ | exact Nat.zero_le _ | exact ⟨Nat.le_trans (List.length_filter_le _ _) h.1, h.2⟩ | exact ⟨h.1, Nat.le_trans (List.length_filter_le _ _) h.2.1, h.2.2⟩ | exact ⟨by simpa using h.1, h.2⟩ | exact ⟨Nat.zero_le _, Nat.zero_le _, h.2.2⟩ | exact ⟨Nat.le_trans (List.length_filter_le _ _) h.1, Nat.le_trans (List.length_filter_le _ _) h.2.1, h.2.2⟩ | exact ⟨h.1, h.2.1, Nat.min_le_left _ _⟩ | exact onLog_fits (fun _ _ => Nat.zero_le _) h | exact onLog_fits (fun _ h => Nat.le_trans (List.length_filter_le _ _) h) h | (simp only [List.length_take]; exact Nat.min_le_left _ _)); skip]) | (with_reducible apply Blk.mbReply_bnd) | (with_reducible apply Blk.mbox_bnd <;> [(intros; try dsimp only); skip]) | with_reducible apply bnd_ite | extract_lets | split | (intros; dsimp only))

theorem execSetEventInterruptPolicy_bnd (x0 x1 x2) (s t : State) (h₀ : QueuesFit (s.blk.at x0)) (h : execSetEventInterruptPolicy x0 x1 x2 s = .next t) : QueuesFit t.blk := by
  unfold execSetEventInterruptPolicy State.command at h
  cases h
  generalize s.blk.at x0 = b at h₀ ⊢
  dsimp only
  repeat (first | with_reducible assumption | ((with_reducible apply head_bnd) <;> [(intro h; exact h); skip]) | (with_reducible apply Blk.mbReply_bnd) | (with_reducible apply Blk.mbox_bnd <;> [(intros; try dsimp only); skip]) | with_reducible apply bnd_ite | extract_lets | split | (intros; dsimp only))

theorem execTransferFw_bnd (x0 x1 x2 x3) (s t : State) (h₀ : QueuesFit (s.blk.at x0)) (h : execTransferFw x0 x1 x2 x3 s = .next t) : QueuesFit t.blk := by
  unfold execTransferFw State.command at h
  cases h
  generalize s.blk.at x0 = b at h₀ ⊢
  dsimp only
  repeat (first | with_reducible assumption | ((with_reducible apply head_bnd) <;> [(intro h; exact h); skip]) | (with_reducible apply Blk.mbReply_bnd) | (with_reducible apply Blk.mbox_bnd <;> [(intros; try dsimp only); skip]) | (with_reducible apply Blk.putInactive_bnd) | with_reducible apply bnd_ite | extract_lets | split | (intros; dsimp only))

theorem execActivateFw_bnd (x0 x1 x2 x3) (s t : State) (h₀ : QueuesFit (s.blk.at x0)) (h : execActivateFw x0 x1 x2 x3 s = .next t) : QueuesFit t.blk := by
  unfold execActivateFw State.command at h
  cases h
  generalize s.blk.at x0 = b at h₀ ⊢
  dsimp only
  repeat (first | with_reducible assumption | ((with_reducible apply felt_bnd) <;> [(intro _ h; exact h); skip]) | (with_reducible apply Blk.mbReply_bnd) | (with_reducible apply Blk.mbox_bnd <;> [(intros; try dsimp only); skip]) | with_reducible apply bnd_ite | extract_lets | split | (intros; dsimp only))

theorem execSetShutdownState_bnd (x0 x1 x2) (s t : State) (h₀ : QueuesFit (s.blk.at x0)) (h : execSetShutdownState x0 x1 x2 s = .next t) : QueuesFit t.blk := by
  unfold execSetShutdownState State.command at h
  cases h
  generalize s.blk.at x0 = b at h₀ ⊢
  dsimp only
  repeat (first | with_reducible assumption | ((with_reducible apply felt_bnd) <;> [(intro _ h; exact h); skip]) | (with_reducible apply Blk.mbReply_bnd) | (with_reducible apply Blk.mbox_bnd <;> [(intros; try dsimp only); skip]) | with_reducible apply bnd_ite | extract_lets | split | (intros; dsimp only))

theorem execSanitize_bnd (x0 x1) (s t : State) (h₀ : QueuesFit (s.blk.at x0)) (h : execSanitize x0 x1 s = .next t) : QueuesFit t.blk := by
  unfold execSanitize State.command at h
  cases h
  generalize s.blk.at x0 = b at h₀ ⊢
  dsimp only
  repeat (first | with_reducible assumption | (with_reducible apply Blk.mbox_bnd <;> [(intros; try dsimp only); skip]) | (with_reducible apply Blk.startErase_bnd) | with_reducible apply bnd_ite | extract_lets | split | (intros; dsimp only))

theorem execSecureErase_bnd (x0 x1) (s t : State) (h₀ : QueuesFit (s.blk.at x0)) (h : execSecureErase x0 x1 s = .next t) : QueuesFit t.blk := by
  unfold execSecureErase State.command at h
  cases h
  generalize s.blk.at x0 = b at h₀ ⊢
  dsimp only
  repeat (first | with_reducible assumption | (with_reducible apply Blk.mbox_bnd <;> [(intros; try dsimp only); skip]) | (with_reducible apply Blk.startErase_bnd) | with_reducible apply bnd_ite | extract_lets | split | (intros; dsimp only))

theorem execEraseComplete_bnd (x0) (s t : State) (h₀ : QueuesFit (s.blk.at x0)) (h : execEraseComplete x0 s = .next t) : QueuesFit t.blk := by
  unfold execEraseComplete State.command at h
  cases h
  generalize s.blk.at x0 = b at h₀ ⊢
  dsimp only
  repeat (first | with_reducible assumption | (with_reducible apply Blk.onDamask_bnd) | (with_reducible apply Blk.odSet_bnd) | (with_reducible apply Blk.bgEnds_bnd) | (with_reducible apply Blk.boundNow_bnd) | (with_reducible apply Blk.blankTables_bnd) | (with_reducible apply Blk.overwriteAll_bnd) | (with_reducible apply Blk.renewPool_bnd) | with_reducible apply bnd_ite | extract_lets | split | (intros; dsimp only))

theorem execAddDynamicCapacityResponse_bnd (x0 x1 x2) (s t : State) (h₀ : QueuesFit (s.blk.at x0)) (h : execAddDynamicCapacityResponse x0 x1 x2 s = .next t) : QueuesFit t.blk := by
  unfold execAddDynamicCapacityResponse State.command at h
  cases h
  generalize s.blk.at x0 = b at h₀ ⊢
  dsimp only
  repeat (first | with_reducible assumption | (with_reducible apply Blk.mbReply_bnd) | (with_reducible apply Blk.mbox_bnd <;> [(intros; try dsimp only); skip]) | (with_reducible apply Blk.withdraw_bnd) | (with_reducible apply Blk.takeOffer_bnd) | with_reducible apply bnd_ite | extract_lets | split | (intros; dsimp only))

theorem execReleaseDynamicCapacity_bnd (x0 x1 x2) (s t : State) (h₀ : QueuesFit (s.blk.at x0)) (h : execReleaseDynamicCapacity x0 x1 x2 s = .next t) : QueuesFit t.blk := by
  unfold execReleaseDynamicCapacity State.command at h
  cases h
  generalize s.blk.at x0 = b at h₀ ⊢
  dsimp only
  repeat (first | with_reducible assumption | (with_reducible apply Blk.mbReply_bnd) | (with_reducible apply Blk.mbox_bnd <;> [(intros; try dsimp only); skip]) | (with_reducible apply Blk.releaseAt_bnd) | (with_reducible refine bnd_foldl (fun c x hc => ?_) _ _ ?_) | with_reducible apply bnd_ite | extract_lets | split | (intros; dsimp only))

theorem execGetPoisonList_bnd (x0 x1 x2 x3) (s t : State) (h₀ : QueuesFit (s.blk.at x0)) (h : execGetPoisonList x0 x1 x2 x3 s = .next t) : QueuesFit t.blk := by
  unfold execGetPoisonList State.command at h
  cases h
  generalize s.blk.at x0 = b at h₀ ⊢
  dsimp only
  repeat (first | with_reducible assumption | ((with_reducible apply head_bnd) <;> [(intro h; exact h); skip]) | (with_reducible apply Blk.mbReply_bnd) | (with_reducible apply Blk.mbox_bnd <;> [(intros; try dsimp only); skip]) | with_reducible apply bnd_ite | extract_lets | split | (intros; dsimp only))

theorem execInjectPoison_bnd (x0 x1 x2) (s t : State) (h₀ : QueuesFit (s.blk.at x0)) (h : execInjectPoison x0 x1 x2 s = .next t) : QueuesFit t.blk := by
  unfold execInjectPoison State.command at h
  cases h
  generalize s.blk.at x0 = b at h₀ ⊢
  dsimp only
  repeat (first | with_reducible assumption | (with_reducible apply Blk.mbReply_bnd) | (with_reducible apply Blk.listHalf_bnd) | (with_reducible apply Blk.mbox_bnd <;> [(intros; try dsimp only); skip]) | (with_reducible apply Blk.dropHalf_bnd) | with_reducible apply bnd_ite | extract_lets | split | (intros; dsimp only))

theorem execClearPoison_bnd (x0 x1 x2 x3) (s t : State) (h₀ : QueuesFit (s.blk.at x0)) (h : execClearPoison x0 x1 x2 x3 s = .next t) : QueuesFit t.blk := by
  unfold execClearPoison State.command at h
  cases h
  generalize s.blk.at x0 = b at h₀ ⊢
  dsimp only
  refine Blk.mbox_bnd _ _ _ (fun c hc => ?_) h₀
  refine bnd_ite (keep_bnd (Blk.mbReply_only (m₀ := [.out]) _ _ _ _ _ (by decide) (only_refl _ _)) (by decide) hc) (bnd_ite ?_ (bnd_ite' (fun ht => Blk.place_bnd _ _ _ _ _ _ _ _ _ (takes_room ht) hc) (fun _ => hc)))
  repeat (first | with_reducible assumption | (with_reducible apply Blk.mbReply_bnd) | (with_reducible apply Blk.refuse_bnd) | (with_reducible apply Blk.place_bnd) | (with_reducible apply Blk.mbox_bnd <;> [(intros; try dsimp only); skip]))

theorem execRead_bnd (x0 x1 x2 x3) (s t : State) (h₀ : QueuesFit (s.blk.at x0)) (h : execRead x0 x1 x2 x3 s = .next t) : QueuesFit t.blk := by
  unfold execRead State.command at h
  cases h
  generalize s.blk.at x0 = b at h₀ ⊢
  dsimp only
  repeat (first | with_reducible assumption | (with_reducible apply Blk.reply_bnd) | (with_reducible apply Blk.admitReq_bnd <;> [(intros; try dsimp only); skip]) | (with_reducible apply Blk.challengeAction_bnd) | with_reducible apply bnd_ite | extract_lets | split | (intros; dsimp only))

theorem execWrite_bnd (x0 x1 x2 x3 x4) (s t : State) (h₀ : QueuesFit (s.blk.at x0)) (h : execWrite x0 x1 x2 x3 x4 s = .next t) : QueuesFit t.blk := by
  unfold execWrite State.command at h
  cases h
  generalize s.blk.at x0 = b at h₀ ⊢
  dsimp only
  repeat (first | with_reducible assumption | (with_reducible apply Blk.writeReq_bnd <;> [(intros; try dsimp only); skip]) | (with_reducible apply Blk.action_bnd) | with_reducible apply bnd_ite | extract_lets | split | (intros; dsimp only))

theorem execStage_bnd (x0 x1 x2 x3 x4) (s t : State) (h₀ : QueuesFit (s.blk.at x0)) (h : execStage x0 x1 x2 x3 x4 s = .next t) : QueuesFit t.blk := by
  unfold execStage State.command at h
  cases h
  generalize s.blk.at x0 = b at h₀ ⊢
  dsimp only
  repeat (first | with_reducible assumption | (with_reducible apply Blk.reply_bnd) | (with_reducible apply Blk.admitReq_bnd <;> [(intros; try dsimp only); skip]) | (with_reducible apply Blk.stageAction_bnd) | with_reducible apply bnd_ite | extract_lets | split | (intros; dsimp only))

theorem execCommit_bnd (x0 x1 x2 x3) (s t : State) (h₀ : QueuesFit (s.blk.at x0)) (h : execCommit x0 x1 x2 x3 s = .next t) : QueuesFit t.blk := by
  unfold execCommit State.command at h
  cases h
  generalize s.blk.at x0 = b at h₀ ⊢
  dsimp only
  repeat (first | with_reducible assumption | (with_reducible apply Blk.onMuslin_bnd) | (with_reducible apply Blk.reply_bnd) | (with_reducible apply Blk.admitReq_bnd <;> [(intros; try dsimp only); skip]) | with_reducible apply bnd_ite | extract_lets | split | (intros; dsimp only))

theorem execAbort_bnd (x0 x1) (s t : State) (h₀ : QueuesFit (s.blk.at x0)) (h : execAbort x0 x1 s = .next t) : QueuesFit t.blk := by
  unfold execAbort State.command at h
  cases h
  generalize s.blk.at x0 = b at h₀ ⊢
  dsimp only
  repeat (first | with_reducible assumption | (with_reducible apply Blk.reply_bnd) | (with_reducible apply Blk.discardStaged_bnd) | (with_reducible apply Blk.admitReq_bnd <;> [(intros; try dsimp only); skip]) | with_reducible apply bnd_ite | extract_lets | split | (intros; dsimp only))

theorem execStatus_bnd (x0 x1) (s t : State) (h₀ : QueuesFit (s.blk.at x0)) (h : execStatus x0 x1 s = .next t) : QueuesFit t.blk := by
  unfold execStatus State.command at h
  cases h
  generalize s.blk.at x0 = b at h₀ ⊢
  dsimp only
  repeat (first | with_reducible assumption | (with_reducible apply Blk.reply_bnd) | (with_reducible apply Blk.admitReq_bnd <;> [(intros; try dsimp only); skip]) | with_reducible apply bnd_ite | extract_lets | split | (intros; dsimp only))

theorem execCommitCheckEnd_bnd (x0 x1) (s t : State) (h₀ : QueuesFit (s.blk.at x0)) (h : execCommitCheckEnd x0 x1 s = .next t) : QueuesFit t.blk := by
  unfold execCommitCheckEnd State.command at h
  cases h
  generalize s.blk.at x0 = b at h₀ ⊢
  dsimp only
  repeat (first | with_reducible assumption | (with_reducible apply Blk.onMuslin_bnd) | (with_reducible apply Blk.reply_bnd) | (with_reducible apply Blk.failCommit_bnd) | with_reducible apply bnd_ite | extract_lets | split | (intros; dsimp only))

theorem execApplyInstant_bnd (x0 x1 x2) (s t : State) (h₀ : QueuesFit (s.blk.at x0)) (h : execApplyInstant x0 x1 x2 s = .next t) : QueuesFit t.blk := by
  unfold execApplyInstant State.command at h
  cases h
  generalize s.blk.at x0 = b at h₀ ⊢
  dsimp only
  repeat (first | with_reducible assumption | (with_reducible apply Blk.onMuslin_bnd) | (with_reducible apply Blk.onModes_bnd) | (with_reducible apply Blk.report_bnd) | (with_reducible apply Blk.reply_bnd) | (with_reducible apply Blk.failCommit_bnd) | (with_reducible apply Blk.swapValues_bnd) | (with_reducible apply Blk.swapDone_bnd) | with_reducible apply bnd_ite | extract_lets | split | (intros; dsimp only))

theorem execApplyFault_bnd (x0) (s t : State) (h₀ : QueuesFit (s.blk.at x0)) (h : execApplyFault x0 s = .next t) : QueuesFit t.blk := by
  unfold execApplyFault State.command at h
  cases h
  generalize s.blk.at x0 = b at h₀ ⊢
  dsimp only
  repeat (first | with_reducible assumption | (with_reducible apply Blk.onModes_bnd) | (with_reducible apply Blk.bump_bnd) | (with_reducible apply Blk.report_bnd) | (with_reducible apply Blk.discardStaged_bnd) | (with_reducible apply Blk.safeStop_bnd) | (with_reducible apply Blk.detect_bnd) | (with_reducible refine bnd_foldl (fun c x hc => ?_) _ _ ?_) | with_reducible apply bnd_ite | extract_lets | split | (intros; dsimp only))

theorem execStagingTimeout_bnd (x0) (s t : State) (h₀ : QueuesFit (s.blk.at x0)) (h : execStagingTimeout x0 s = .next t) : QueuesFit t.blk := by
  unfold execStagingTimeout State.command at h
  cases h
  generalize s.blk.at x0 = b at h₀ ⊢
  dsimp only
  repeat (first | with_reducible assumption | (with_reducible apply Blk.discardStaged_bnd) | with_reducible apply bnd_ite | extract_lets | split | (intros; dsimp only))

theorem execParameterPersist_bnd (x0) (s t : State) (h₀ : QueuesFit (s.blk.at x0)) (h : execParameterPersist x0 s = .next t) : QueuesFit t.blk := by
  unfold execParameterPersist State.command at h
  cases h
  generalize s.blk.at x0 = b at h₀ ⊢
  dsimp only
  repeat (first | with_reducible assumption | (with_reducible apply Blk.heldImport_bnd) | (with_reducible apply Blk.persistParams_bnd) | (with_reducible apply Blk.persistCal_bnd) | with_reducible apply bnd_ite | extract_lets | split | (intros; dsimp only))

theorem execOpenRead_bnd (x0 x1 x2 x3 x4) (s t : State) (h₀ : QueuesFit (s.blk.at x0)) (h : execOpenRead x0 x1 x2 x3 x4 s = .next t) : QueuesFit t.blk := by
  unfold execOpenRead State.command at h
  cases h
  generalize s.blk.at x0 = b at h₀ ⊢
  dsimp only
  repeat (first | with_reducible assumption | (with_reducible apply Blk.putBulk_bnd) | (with_reducible apply Blk.bulkAnswer_bnd) | (with_reducible apply Blk.bulkReq_bnd <;> [(intros; try dsimp only); skip]) | (with_reducible apply Blk.markExport_bnd) | with_reducible apply bnd_ite | extract_lets | split | (intros; dsimp only))

theorem execOpenWrite_bnd (x0 x1 x2 x3 x4 x5) (s t : State) (h₀ : QueuesFit (s.blk.at x0)) (h : execOpenWrite x0 x1 x2 x3 x4 x5 s = .next t) : QueuesFit t.blk := by
  unfold execOpenWrite State.command at h
  cases h
  generalize s.blk.at x0 = b at h₀ ⊢
  dsimp only
  repeat (first | with_reducible assumption | (with_reducible apply Blk.putBulk_bnd) | (with_reducible apply Blk.bulkAnswer_bnd) | (with_reducible apply Blk.openRefused_bnd) | (with_reducible apply Blk.bulkReq_bnd <;> [(intros; try dsimp only); skip]) | with_reducible apply bnd_ite | extract_lets | split | (intros; dsimp only))

theorem execData_bnd (x0 x1 x2 x3 x4 x5) (s t : State) (h₀ : QueuesFit (s.blk.at x0)) (h : execData x0 x1 x2 x3 x4 x5 s = .next t) : QueuesFit t.blk := by
  unfold execData State.command at h
  cases h
  generalize s.blk.at x0 = b at h₀ ⊢
  dsimp only
  repeat (first | with_reducible assumption | (with_reducible apply Blk.putBulk_bnd) | (with_reducible apply Blk.bulkAnswer_bnd) | (with_reducible apply Blk.bulkReq_bnd <;> [(intros; try dsimp only); skip]) | with_reducible apply bnd_ite | extract_lets | split | (intros; dsimp only))

theorem execClose_bnd (x0 x1 x2 x3) (s t : State) (h₀ : QueuesFit (s.blk.at x0)) (h : execClose x0 x1 x2 x3 s = .next t) : QueuesFit t.blk := by
  unfold execClose State.command at h
  cases h
  generalize s.blk.at x0 = b at h₀ ⊢
  dsimp only
  repeat (first | with_reducible assumption | (with_reducible apply Blk.putBulk_bnd) | (with_reducible apply Blk.bulkAnswer_bnd) | (with_reducible apply Blk.bulkReq_bnd <;> [(intros; try dsimp only); skip]) | (with_reducible apply Blk.endTransfer_bnd) | with_reducible apply bnd_ite | extract_lets | split | (intros; dsimp only))

theorem execBulkAbort_bnd (x0 x1) (s t : State) (h₀ : QueuesFit (s.blk.at x0)) (h : execBulkAbort x0 x1 s = .next t) : QueuesFit t.blk := by
  unfold execBulkAbort State.command at h
  cases h
  generalize s.blk.at x0 = b at h₀ ⊢
  dsimp only
  repeat (first | with_reducible assumption | (with_reducible apply Blk.bulkAnswer_bnd) | (with_reducible apply Blk.mbox_bnd <;> [(intros; try dsimp only); skip]) | (with_reducible apply Blk.abortBulk_bnd) | with_reducible apply bnd_ite | extract_lets | split | (intros; dsimp only))

theorem execBulkTransferTimeout_bnd (x0 x1) (s t : State) (h₀ : QueuesFit (s.blk.at x0)) (h : execBulkTransferTimeout x0 x1 s = .next t) : QueuesFit t.blk := by
  unfold execBulkTransferTimeout State.command at h
  cases h
  generalize s.blk.at x0 = b at h₀ ⊢
  dsimp only
  repeat (first | with_reducible assumption | (with_reducible apply Blk.abortBulk_bnd) | with_reducible apply bnd_ite | extract_lets | split | (intros; dsimp only))

theorem execBulkOpenRead_bnd (x0 x1 x2 x3 x4) (s t : State) (h₀ : QueuesFit (s.blk.at x0)) (h : execBulkOpenRead x0 x1 x2 x3 x4 s = .next t) : QueuesFit t.blk := by
  unfold execBulkOpenRead State.command at h
  cases h
  generalize s.blk.at x0 = b at h₀ ⊢
  dsimp only
  repeat (first | with_reducible assumption | (with_reducible apply pumpSegments_fit) | (with_reducible apply Blk.touch_bnd) | (with_reducible apply Blk.canAdmit_bnd <;> [(intros; try dsimp only); skip]) | (with_reducible apply Blk.putBulk_bnd) | (with_reducible apply Blk.bulkAnswer_bnd) | with_reducible apply bnd_ite | extract_lets | split | (intros; dsimp only))

theorem execBulkOpenWrite_bnd (x0 x1 x2 x3 x4 x5 x6 x7) (s t : State) (h₀ : QueuesFit (s.blk.at x0)) (h : execBulkOpenWrite x0 x1 x2 x3 x4 x5 x6 x7 s = .next t) : QueuesFit t.blk := by
  unfold execBulkOpenWrite State.command at h
  cases h
  generalize s.blk.at x0 = b at h₀ ⊢
  dsimp only
  repeat (first | with_reducible assumption | (with_reducible apply Blk.touch_bnd) | (with_reducible apply Blk.canAdmit_bnd <;> [(intros; try dsimp only); skip]) | (with_reducible apply Blk.putBulk_bnd) | (with_reducible apply Blk.bulkAnswer_bnd) | (with_reducible apply Blk.openRefused_bnd) | with_reducible apply bnd_ite | extract_lets | split | (intros; dsimp only))

theorem execSegment_bnd (x0 x1 x2 x3 x4 x5) (s t : State) (h₀ : QueuesFit (s.blk.at x0)) (h : execSegment x0 x1 x2 x3 x4 x5 s = .next t) : QueuesFit t.blk := by
  unfold execSegment State.command at h
  cases h
  generalize s.blk.at x0 = b at h₀ ⊢
  dsimp only
  repeat (first | with_reducible assumption | ((with_reducible apply can_bnd) <;> [(intro h; exact h); skip]) | (with_reducible apply Blk.canSend_bnd) | (with_reducible apply Blk.touch_bnd) | (with_reducible apply Blk.withMac_bnd <;> [(intros; try dsimp only); skip]) | (with_reducible apply Blk.withTransfer_bnd <;> [(intros; try dsimp only); skip]) | with_reducible apply bnd_ite | extract_lets | split | (intros; dsimp only))

theorem execSegmentAcknowledge_bnd (x0 x1 x2) (s t : State) (h₀ : QueuesFit (s.blk.at x0)) (h : execSegmentAcknowledge x0 x1 x2 s = .next t) : QueuesFit t.blk := by
  unfold execSegmentAcknowledge State.command at h
  cases h
  generalize s.blk.at x0 = b at h₀ ⊢
  dsimp only
  repeat (first | with_reducible assumption | ((with_reducible apply can_bnd) <;> [(intro h; exact h); skip]) | (with_reducible apply pumpSegments_fit) | (with_reducible apply Blk.withTransfer_bnd <;> [(intros; try dsimp only); skip]) | (exact ⟨h₀.1, h₀.2, h₀.3, h₀.4, h₀.5⟩) | with_reducible apply bnd_ite | extract_lets | split | (intros; dsimp only))

theorem execBulkClose_bnd (x0 x1 x2 x3 x4) (s t : State) (h₀ : QueuesFit (s.blk.at x0)) (h : execBulkClose x0 x1 x2 x3 x4 s = .next t) : QueuesFit t.blk := by
  unfold execBulkClose State.command at h
  cases h
  generalize s.blk.at x0 = b at h₀ ⊢
  dsimp only
  repeat (first | with_reducible assumption | ((with_reducible apply can_bnd) <;> [(intro h; exact h); skip]) | (with_reducible apply Blk.canSend_bnd) | (with_reducible apply Blk.reply_bnd) | (with_reducible apply Blk.withMac_bnd <;> [(intros; try dsimp only); skip]) | (with_reducible apply Blk.endTransfer_bnd) | (with_reducible apply Blk.withTransfer_bnd <;> [(intros; try dsimp only); skip]) | with_reducible apply bnd_ite | extract_lets | split | (intros; dsimp only))

theorem execCanBulkAbort_bnd (x0 x1 x2 x3) (s t : State) (h₀ : QueuesFit (s.blk.at x0)) (h : execCanBulkAbort x0 x1 x2 x3 s = .next t) : QueuesFit t.blk := by
  unfold execCanBulkAbort State.command at h
  cases h
  generalize s.blk.at x0 = b at h₀ ⊢
  dsimp only
  repeat (first | with_reducible assumption | ((with_reducible apply can_bnd) <;> [(intro h; exact h); skip]) | (with_reducible apply Blk.reply_bnd) | (with_reducible apply Blk.withMac_bnd <;> [(intros; try dsimp only); skip]) | (with_reducible apply Blk.withTransfer_bnd <;> [(intros; try dsimp only); skip]) | with_reducible apply bnd_ite | extract_lets | split | (intros; dsimp only))

theorem execCanTransferTimeout_bnd (x0) (s t : State) (h₀ : QueuesFit (s.blk.at x0)) (h : execCanTransferTimeout x0 s = .next t) : QueuesFit t.blk := by
  unfold execCanTransferTimeout State.command at h
  cases h
  generalize s.blk.at x0 = b at h₀ ⊢
  dsimp only
  repeat (first | with_reducible assumption | ((with_reducible apply can_bnd) <;> [(intro h; exact h); skip]) | (exact ⟨h₀.1, h₀.2, h₀.3, h₀.4, h₀.5⟩) | with_reducible apply bnd_ite | extract_lets | split | (intros; dsimp only))

theorem execBusOffRecovery_bnd (x0) (s t : State) (h₀ : QueuesFit (s.blk.at x0)) (h : execBusOffRecovery x0 s = .next t) : QueuesFit t.blk := by
  unfold execBusOffRecovery State.command at h
  cases h
  generalize s.blk.at x0 = b at h₀ ⊢
  dsimp only
  repeat (first | with_reducible assumption | ((with_reducible apply can_bnd) <;> [(intro h; exact h); skip]) | (with_reducible apply Blk.bump_bnd) | (with_reducible apply Blk.report_bnd) | (exact ⟨h₀.1, h₀.2, h₀.3, h₀.4, h₀.5⟩) | with_reducible apply bnd_ite | extract_lets | split | (intros; dsimp only))

theorem execChallengeRead_bnd (x0 x1) (s t : State) (h₀ : QueuesFit (s.blk.at x0)) (h : execChallengeRead x0 x1 s = .next t) : QueuesFit t.blk := by
  unfold execChallengeRead State.command at h
  cases h
  generalize s.blk.at x0 = b at h₀ ⊢
  dsimp only
  repeat (first | with_reducible assumption | (with_reducible apply Blk.admitReq_bnd <;> [(intros; try dsimp only); skip]) | (with_reducible apply Blk.challengeAction_bnd) | with_reducible apply bnd_ite | extract_lets | split | (intros; dsimp only))

theorem execResponse_bnd (x0 x1 x2) (s t : State) (h₀ : QueuesFit (s.blk.at x0)) (h : execResponse x0 x1 x2 s = .next t) : QueuesFit t.blk := by
  unfold execResponse State.command at h
  cases h
  generalize s.blk.at x0 = b at h₀ ⊢
  dsimp only
  repeat (first | with_reducible assumption | (with_reducible apply Blk.writeReq_bnd <;> [(intros; try dsimp only); skip]) | (with_reducible apply Blk.responseAction_bnd) | with_reducible apply bnd_ite | extract_lets | split | (intros; dsimp only))

theorem execCloseMaintenance_bnd (x0 x1) (s t : State) (h₀ : QueuesFit (s.blk.at x0)) (h : execCloseMaintenance x0 x1 s = .next t) : QueuesFit t.blk := by
  unfold execCloseMaintenance State.command at h
  cases h
  generalize s.blk.at x0 = b at h₀ ⊢
  dsimp only
  repeat (first | with_reducible assumption | (with_reducible apply Blk.writeReq_bnd <;> [(intros; try dsimp only); skip]) | (with_reducible apply Blk.closeAction_bnd) | with_reducible apply bnd_ite | extract_lets | split | (intros; dsimp only))

theorem execMaintenanceKey_bnd (x0 x1 x2) (s t : State) (h₀ : QueuesFit (s.blk.at x0)) (h : execMaintenanceKey x0 x1 x2 s = .next t) : QueuesFit t.blk := by
  unfold execMaintenanceKey State.command at h
  cases h
  generalize s.blk.at x0 = b at h₀ ⊢
  dsimp only
  repeat (first | with_reducible assumption | (with_reducible apply Blk.objectReq_bnd <;> [(intros; try dsimp only); skip]) | (with_reducible apply Blk.applyMaintKey_bnd) | with_reducible apply bnd_ite | extract_lets | split | (intros; dsimp only))

theorem execFrameMacKey_bnd (x0 x1 x2) (s t : State) (h₀ : QueuesFit (s.blk.at x0)) (h : execFrameMacKey x0 x1 x2 s = .next t) : QueuesFit t.blk := by
  unfold execFrameMacKey State.command at h
  cases h
  generalize s.blk.at x0 = b at h₀ ⊢
  dsimp only
  repeat (first | with_reducible assumption | (with_reducible apply Blk.objectReq_bnd <;> [(intros; try dsimp only); skip]) | (with_reducible apply Blk.applyMacKey_bnd) | with_reducible apply bnd_ite | extract_lets | split | (intros; dsimp only))

theorem execStageDefaults_bnd (x0 x1) (s t : State) (h₀ : QueuesFit (s.blk.at x0)) (h : execStageDefaults x0 x1 s = .next t) : QueuesFit t.blk := by
  unfold execStageDefaults State.command at h
  cases h
  generalize s.blk.at x0 = b at h₀ ⊢
  dsimp only
  repeat (first | with_reducible assumption | (with_reducible apply Blk.writeReq_bnd <;> [(intros; try dsimp only); skip]) | (with_reducible apply Blk.defaultsAction_bnd) | with_reducible apply bnd_ite | extract_lets | split | (intros; dsimp only))

theorem execAdd_bnd (x0 x1) (s t : State) (h₀ : QueuesFit (s.blk.at x0)) (h : execAdd x0 x1 s = .next t) : QueuesFit t.blk := by
  unfold execAdd State.command at h
  cases h
  generalize s.blk.at x0 = b at h₀ ⊢
  dsimp only
  repeat (first | with_reducible assumption | (with_reducible apply Blk.writeReq_bnd <;> [(intros; try dsimp only); skip]) | (with_reducible apply Blk.addAction_bnd) | with_reducible apply bnd_ite | extract_lets | split | (intros; dsimp only))

theorem execReleaseRequest_bnd (x0 x1) (s t : State) (h₀ : QueuesFit (s.blk.at x0)) (h : execReleaseRequest x0 x1 s = .next t) : QueuesFit t.blk := by
  unfold execReleaseRequest State.command at h
  cases h
  generalize s.blk.at x0 = b at h₀ ⊢
  dsimp only
  repeat (first | with_reducible assumption | (with_reducible apply Blk.writeReq_bnd <;> [(intros; try dsimp only); skip]) | (with_reducible apply Blk.releaseAction_bnd <;> [(intros; try dsimp only); skip]) | (with_reducible apply Blk.askRelease_bnd) | with_reducible apply bnd_ite | extract_lets | split | (intros; dsimp only))

theorem execForcedRelease_bnd (x0 x1) (s t : State) (h₀ : QueuesFit (s.blk.at x0)) (h : execForcedRelease x0 x1 s = .next t) : QueuesFit t.blk := by
  unfold execForcedRelease State.command at h
  cases h
  generalize s.blk.at x0 = b at h₀ ⊢
  dsimp only
  repeat (first | with_reducible assumption | (with_reducible apply Blk.writeReq_bnd <;> [(intros; try dsimp only); skip]) | (with_reducible apply Blk.releaseAction_bnd <;> [(intros; try dsimp only); skip]) | (with_reducible apply Blk.forceRelease_bnd) | with_reducible apply bnd_ite | extract_lets | split | (intros; dsimp only))

theorem execAddResponseTimeout_bnd (x0 x1) (s t : State) (h₀ : QueuesFit (s.blk.at x0)) (h : execAddResponseTimeout x0 x1 s = .next t) : QueuesFit t.blk := by
  unfold execAddResponseTimeout State.command at h
  cases h
  generalize s.blk.at x0 = b at h₀ ⊢
  dsimp only
  repeat (first | with_reducible assumption | (with_reducible apply Blk.withdraw_bnd) | (with_reducible refine bnd_foldl (fun c x hc => ?_) _ _ ?_) | with_reducible apply bnd_ite | extract_lets | split | (intros; dsimp only))

theorem execRegionTeardown_bnd (x0 x1) (s t : State) (h₀ : QueuesFit (s.blk.at x0)) (h : execRegionTeardown x0 x1 s = .next t) : QueuesFit t.blk := by
  unfold execRegionTeardown State.command at h
  cases h
  generalize s.blk.at x0 = b at h₀ ⊢
  dsimp only
  repeat (first | with_reducible assumption | (with_reducible apply Blk.maintain_bnd) | (with_reducible apply Blk.drive_bnd) | (with_reducible apply Blk.dropRegionLines_bnd) | (with_reducible apply Blk.dropRegionHot_bnd) | (with_reducible apply Blk.clearRegionTags_bnd) | (with_reducible apply Blk.freeRegion_bnd) | with_reducible apply bnd_ite | extract_lets | split | (intros; dsimp only))

theorem execHistogramClear_bnd (x0 x1) (s t : State) (h₀ : QueuesFit (s.blk.at x0)) (h : execHistogramClear x0 x1 s = .next t) : QueuesFit t.blk := by
  unfold execHistogramClear State.command at h
  cases h
  generalize s.blk.at x0 = b at h₀ ⊢
  dsimp only
  repeat (first | with_reducible assumption | (with_reducible apply Blk.writeReq_bnd <;> [(intros; try dsimp only); skip]) | (with_reducible apply Blk.clearHistograms_bnd) | with_reducible apply bnd_ite | extract_lets | split | (intros; dsimp only))

theorem execCalibrationImport_bnd (x0 x1 x2) (s t : State) (h₀ : QueuesFit (s.blk.at x0)) (h : execCalibrationImport x0 x1 x2 s = .next t) : QueuesFit t.blk := by
  unfold execCalibrationImport State.command at h
  cases h
  generalize s.blk.at x0 = b at h₀ ⊢
  dsimp only
  repeat (first | with_reducible assumption | (with_reducible apply Blk.objectReq_bnd <;> [(intros; try dsimp only); skip]) | (with_reducible apply Blk.applyCal_bnd) | with_reducible apply bnd_ite | extract_lets | split | (intros; dsimp only))

theorem execKeyEncryptionKey_bnd (x0 x1 x2) (s t : State) (h₀ : QueuesFit (s.blk.at x0)) (h : execKeyEncryptionKey x0 x1 x2 s = .next t) : QueuesFit t.blk := by
  unfold execKeyEncryptionKey State.command at h
  cases h
  generalize s.blk.at x0 = b at h₀ ⊢
  dsimp only
  repeat (first | with_reducible assumption | (with_reducible apply Blk.objectReq_bnd <;> [(intros; try dsimp only); skip]) | (with_reducible apply Blk.applyKek_bnd) | with_reducible apply bnd_ite | extract_lets | split | (intros; dsimp only))

theorem execEscrowExport_bnd (x0 x1) (s t : State) (h₀ : QueuesFit (s.blk.at x0)) (h : execEscrowExport x0 x1 s = .next t) : QueuesFit t.blk := by
  unfold execEscrowExport State.command at h
  cases h
  generalize s.blk.at x0 = b at h₀ ⊢
  dsimp only
  repeat (first | with_reducible assumption | (with_reducible apply Blk.admitReq_bnd <;> [(intros; try dsimp only); skip]) | (with_reducible apply Blk.bulkAnswer_bnd) | with_reducible apply bnd_ite | extract_lets | split | (intros; dsimp only))

theorem execEscrowImport_bnd (x0 x1 x2) (s t : State) (h₀ : QueuesFit (s.blk.at x0)) (h : execEscrowImport x0 x1 x2 s = .next t) : QueuesFit t.blk := by
  unfold execEscrowImport State.command at h
  cases h
  generalize s.blk.at x0 = b at h₀ ⊢
  dsimp only
  repeat (first | with_reducible assumption | (with_reducible apply Blk.objectReq_bnd <;> [(intros; try dsimp only); skip]) | (with_reducible apply Blk.applyEscrow_bnd) | with_reducible apply bnd_ite | extract_lets | split | (intros; dsimp only))

theorem execUnlockRegion_bnd (x0 x1 x2) (s t : State) (h₀ : QueuesFit (s.blk.at x0)) (h : execUnlockRegion x0 x1 x2 s = .next t) : QueuesFit t.blk := by
  unfold execUnlockRegion State.command at h
  cases h
  generalize s.blk.at x0 = b at h₀ ⊢
  dsimp only
  repeat (first | with_reducible assumption | (with_reducible apply Blk.writeReq_bnd <;> [(intros; try dsimp only); skip]) | (with_reducible apply Blk.unlockRegion_bnd) | with_reducible apply bnd_ite | extract_lets | split | (intros; dsimp only))

theorem execResetRegionCount_bnd (x0 x1 x2) (s t : State) (h₀ : QueuesFit (s.blk.at x0)) (h : execResetRegionCount x0 x1 x2 s = .next t) : QueuesFit t.blk := by
  unfold execResetRegionCount State.command at h
  cases h
  generalize s.blk.at x0 = b at h₀ ⊢
  dsimp only
  repeat (first | with_reducible assumption | (with_reducible apply Blk.writeReq_bnd <;> [(intros; try dsimp only); skip]) | (with_reducible apply Blk.resetCount_bnd) | with_reducible apply bnd_ite | extract_lets | split | (intros; dsimp only))

theorem execRetireDie_bnd (x0 x1 x2) (s t : State) (h₀ : QueuesFit (s.blk.at x0)) (h : execRetireDie x0 x1 x2 s = .next t) : QueuesFit t.blk := by
  unfold execRetireDie State.command at h
  cases h
  generalize s.blk.at x0 = b at h₀ ⊢
  dsimp only
  repeat (first | with_reducible assumption | (with_reducible apply Blk.writeReq_bnd <;> [(intros; try dsimp only); skip]) | (with_reducible apply Blk.retireDie_bnd) | with_reducible apply bnd_ite | extract_lets | split | (intros; dsimp only))

theorem execRetireChannel_bnd (x0 x1 x2) (s t : State) (h₀ : QueuesFit (s.blk.at x0)) (h : execRetireChannel x0 x1 x2 s = .next t) : QueuesFit t.blk := by
  unfold execRetireChannel State.command at h
  cases h
  generalize s.blk.at x0 = b at h₀ ⊢
  dsimp only
  repeat (first | with_reducible assumption | (with_reducible apply Blk.writeReq_bnd <;> [(intros; try dsimp only); skip]) | (with_reducible apply Blk.retireChannel_bnd) | with_reducible apply bnd_ite | extract_lets | split | (intros; dsimp only))

theorem execRetrainRequest_bnd (x0 x1 x2) (s t : State) (h₀ : QueuesFit (s.blk.at x0)) (h : execRetrainRequest x0 x1 x2 s = .next t) : QueuesFit t.blk := by
  unfold execRetrainRequest State.command at h
  cases h
  generalize s.blk.at x0 = b at h₀ ⊢
  dsimp only
  repeat (first | with_reducible assumption | (with_reducible apply Blk.writeReq_bnd <;> [(intros; try dsimp only); skip]) | (with_reducible apply Blk.askRetrain_bnd) | with_reducible apply bnd_ite | extract_lets | split | (intros; dsimp only))

theorem execPowerDownToStandby_bnd (x0 x1) (s t : State) (h₀ : QueuesFit (s.blk.at x0)) (h : execPowerDownToStandby x0 x1 s = .next t) : QueuesFit t.blk := by
  unfold execPowerDownToStandby State.command at h
  cases h
  generalize s.blk.at x0 = b at h₀ ⊢
  dsimp only
  repeat (first | with_reducible assumption | (with_reducible apply Blk.writeReq_bnd <;> [(intros; try dsimp only); skip]) | (with_reducible apply Blk.toStandby_bnd) | with_reducible apply bnd_ite | extract_lets | split | (intros; dsimp only))

theorem execStartHealthTest_bnd (x0 x1) (s t : State) (h₀ : QueuesFit (s.blk.at x0)) (h : execStartHealthTest x0 x1 s = .next t) : QueuesFit t.blk := by
  unfold execStartHealthTest State.command at h
  cases h
  generalize s.blk.at x0 = b at h₀ ⊢
  dsimp only
  repeat (first | with_reducible assumption | (with_reducible apply Blk.writeReq_bnd <;> [(intros; try dsimp only); skip]) | (with_reducible apply Blk.askTest_bnd) | with_reducible apply bnd_ite | extract_lets | split | (intros; dsimp only))

theorem execClearCounters_bnd (x0 x1) (s t : State) (h₀ : QueuesFit (s.blk.at x0)) (h : execClearCounters x0 x1 s = .next t) : QueuesFit t.blk := by
  unfold execClearCounters State.command at h
  cases h
  generalize s.blk.at x0 = b at h₀ ⊢
  dsimp only
  repeat (first | with_reducible assumption | (with_reducible apply Blk.writeReq_bnd <;> [(intros; try dsimp only); skip]) | (with_reducible apply Blk.clearTweed_bnd) | with_reducible apply bnd_ite | extract_lets | split | (intros; dsimp only))

theorem execIdataRead_bnd (x0 x1 x2) (s t : State) (h₀ : QueuesFit (s.blk.at x0)) (h : execIdataRead x0 x1 x2 s = .next t) : QueuesFit t.blk := by
  unfold execIdataRead State.command at h
  cases h
  generalize s.blk.at x0 = b at h₀ ⊢
  dsimp only
  repeat (first | with_reducible assumption | (with_reducible apply ctl_bnd <;> [(intro; rfl); skip]) | (with_reducible apply Blk.emit_bnd) | (with_reducible apply Blk.useFree_bnd) | (with_reducible apply Blk.ackPosted_bnd) | (with_reducible apply Blk.afterRead_bnd) | (with_reducible apply Blk.badRead_bnd) | with_reducible apply bnd_ite | extract_lets | split | (intros; dsimp only))

theorem execIdataWrite_bnd (x0 x1 x2 x3) (s t : State) (h₀ : QueuesFit (s.blk.at x0)) (h : execIdataWrite x0 x1 x2 x3 s = .next t) : QueuesFit t.blk := by
  unfold execIdataWrite State.command at h
  cases h
  generalize s.blk.at x0 = b at h₀ ⊢
  dsimp only
  repeat (first | with_reducible assumption | (with_reducible apply ctl_bnd <;> [(intro; rfl); skip]) | (with_reducible apply Blk.refuseWrite_bnd) | (with_reducible apply Blk.ackPosted_bnd) | with_reducible apply bnd_ite | extract_lets | split | (intros; dsimp only))

theorem execIndirectAcknowledge_bnd (x0 x1) (s t : State) (h₀ : QueuesFit (s.blk.at x0)) (h : execIndirectAcknowledge x0 x1 s = .next t) : QueuesFit t.blk := by
  unfold execIndirectAcknowledge State.command at h
  cases h
  generalize s.blk.at x0 = b at h₀ ⊢
  dsimp only
  repeat (first | with_reducible assumption | (with_reducible apply Blk.ackPosted_bnd) | with_reducible apply bnd_ite | extract_lets | split | (intros; dsimp only))

theorem execIndirectTimeout_bnd (x0 x1 x2) (s t : State) (h₀ : QueuesFit (s.blk.at x0)) (h : execIndirectTimeout x0 x1 x2 s = .next t) : QueuesFit t.blk := by
  unfold execIndirectTimeout State.command at h
  cases h
  generalize s.blk.at x0 = b at h₀ ⊢
  dsimp only
  repeat (first | with_reducible assumption | (with_reducible apply ctl_bnd <;> [(intro; rfl); skip]) | (with_reducible apply Blk.emit_bnd) | (with_reducible apply Blk.ackPosted_bnd) | (with_reducible apply Blk.afterRead_bnd) | (exact ⟨h₀.1, h₀.2, h₀.3, h₀.4, h₀.5⟩) | with_reducible apply bnd_ite | extract_lets | split | (intros; dsimp only))

theorem execRegisterWrite_bnd (x0 x1 x2 x3 x4) (s t : State) (h₀ : QueuesFit (s.blk.at x0)) (h : execRegisterWrite x0 x1 x2 x3 x4 s = .next t) : QueuesFit t.blk := by
  unfold execRegisterWrite State.command at h
  cases h
  generalize s.blk.at x0 = b at h₀ ⊢
  dsimp only
  repeat (first | with_reducible assumption | (with_reducible apply ctl_bnd <;> [(intro; rfl); skip]) | (with_reducible apply Blk.ringHint_bnd) | (with_reducible apply Blk.ctlWord_bnd) | with_reducible apply bnd_ite | extract_lets | split | (intros; dsimp only))

theorem execGval_bnd (x0 x1 x2 x3) (s t : State) (h₀ : QueuesFit (s.blk.at x0)) (h : execGval x0 x1 x2 x3 s = .next t) : QueuesFit t.blk := by
  unfold execGval State.command at h
  cases h
  generalize s.blk.at x0 = b at h₀ ⊢
  dsimp only
  repeat (first | with_reducible assumption | (with_reducible apply ctl_bnd <;> [(intro; rfl); skip]) | (with_reducible apply Blk.guardEnd_bnd) | (exact ⟨h₀.1, h₀.2, h₀.3, h₀.4, h₀.5⟩) | with_reducible apply bnd_ite | extract_lets | split | (intros; dsimp only))

theorem execGcmp_bnd (x0 x1 x2 x3) (s t : State) (h₀ : QueuesFit (s.blk.at x0)) (h : execGcmp x0 x1 x2 x3 s = .next t) : QueuesFit t.blk := by
  unfold execGcmp State.command at h
  cases h
  generalize s.blk.at x0 = b at h₀ ⊢
  dsimp only
  refine bnd_ite h₀ (bnd_ite ?_ ?_)
  · repeat (first | with_reducible assumption | (with_reducible apply ctl_bnd <;> [(intro; rfl); skip]) | (with_reducible apply Blk.guardEnd_bnd) | (with_reducible apply Blk.dueAdd_bnd))
  · split
    · repeat (first | with_reducible assumption | (with_reducible apply ctl_bnd <;> [(intro; rfl); skip]) | (with_reducible apply Blk.guardEnd_bnd) | (with_reducible apply Blk.dueAdd_bnd))
    · rename_i w t hw
      have hg : ∀ r : BitVec 4, QueuesFit (b.guardEnd x1 (BitVec.extractLsb' 48 16 w) r) := fun r => by repeat (first | with_reducible assumption | (with_reducible apply ctl_bnd <;> [(intro; rfl); skip]) | (with_reducible apply Blk.guardEnd_bnd) | (with_reducible apply Blk.dueAdd_bnd))
      exact bnd_ite (Blk.dueAdd_bnd _ _ _ (hg _)) (hg _)

theorem execKeyZeroize_bnd (x0) (s t : State) (h₀ : QueuesFit (s.blk.at x0)) (h : execKeyZeroize x0 s = .next t) : QueuesFit t.blk := by
  unfold execKeyZeroize State.command at h
  cases h
  generalize s.blk.at x0 = b at h₀ ⊢
  dsimp only
  repeat (first | with_reducible assumption | (with_reducible apply Blk.onDamask_bnd) | (with_reducible apply Blk.zeroize_bnd) | (with_reducible apply Blk.takeDue_bnd <;> [(intros; try dsimp only); skip]) | with_reducible apply bnd_ite | extract_lets | split | (intros; dsimp only))

theorem execFeltFormat_bnd (x0) (s t : State) (h₀ : QueuesFit (s.blk.at x0)) (h : execFeltFormat x0 s = .next t) : QueuesFit t.blk := by
  unfold execFeltFormat State.command at h
  cases h
  generalize s.blk.at x0 = b at h₀ ⊢
  dsimp only
  repeat (first | with_reducible assumption | (with_reducible apply Blk.report_bnd) | (with_reducible apply Blk.takeDue_bnd <;> [(intros; try dsimp only); skip]) | (with_reducible apply Blk.formatArea_bnd) | (with_reducible refine bnd_foldl (fun c x hc => ?_) _ _ ?_) | with_reducible apply bnd_ite | extract_lets | split | (intros; dsimp only))

theorem execSafeStopRelease_bnd (x0) (s t : State) (h₀ : QueuesFit (s.blk.at x0)) (h : execSafeStopRelease x0 s = .next t) : QueuesFit t.blk := by
  unfold execSafeStopRelease State.command at h
  cases h
  generalize s.blk.at x0 = b at h₀ ⊢
  dsimp only
  repeat (first | with_reducible assumption | (with_reducible apply Blk.onModes_bnd) | (with_reducible apply Blk.faultPin_bnd) | (with_reducible apply Blk.setConditions_bnd) | (with_reducible apply Blk.loseSwitched_bnd) | (with_reducible apply Blk.saveMedia_bnd) | (with_reducible apply Blk.takeDue_bnd <;> [(intros; try dsimp only); skip]) | with_reducible apply bnd_ite | extract_lets | split | (intros; dsimp only))

theorem execForcedPowerCutInput_bnd (x0) (s t : State) (h₀ : QueuesFit (s.blk.at x0)) (h : execForcedPowerCutInput x0 s = .next t) : QueuesFit t.blk := by
  unfold execForcedPowerCutInput State.command at h
  cases h
  generalize s.blk.at x0 = b at h₀ ⊢
  dsimp only
  repeat (first | with_reducible assumption | (with_reducible apply Blk.takeDue_bnd <;> [(intros; try dsimp only); skip]) | (with_reducible apply Blk.loseInput_bnd) | with_reducible apply bnd_ite | extract_lets | split | (intros; dsimp only))

theorem execForcedPowerCutRail_bnd (x0) (s t : State) (h₀ : QueuesFit (s.blk.at x0)) (h : execForcedPowerCutRail x0 s = .next t) : QueuesFit t.blk := by
  unfold execForcedPowerCutRail State.command at h
  cases h
  generalize s.blk.at x0 = b at h₀ ⊢
  dsimp only
  repeat (first | with_reducible assumption | (with_reducible apply Blk.allOff_bnd) | (with_reducible apply Blk.takeDue_bnd <;> [(intros; try dsimp only); skip]) | with_reducible apply bnd_ite | extract_lets | split | (intros; dsimp only))

theorem execForcedClockSwitchIrc_bnd (x0) (s t : State) (h₀ : QueuesFit (s.blk.at x0)) (h : execForcedClockSwitchIrc x0 s = .next t) : QueuesFit t.blk := by
  unfold execForcedClockSwitchIrc State.command at h
  cases h
  generalize s.blk.at x0 = b at h₀ ⊢
  dsimp only
  repeat (first | with_reducible assumption | (with_reducible apply Blk.onClocks_bnd) | (with_reducible apply Blk.report_bnd) | (with_reducible apply Blk.takeDue_bnd <;> [(intros; try dsimp only); skip]) | with_reducible apply bnd_ite | extract_lets | split | (intros; dsimp only))

theorem execVoteCorrection_bnd (x0 x1 x2 x3) (s t : State) (h₀ : QueuesFit (s.blk.at x0)) (h : execVoteCorrection x0 x1 x2 x3 s = .next t) : QueuesFit t.blk := by
  unfold execVoteCorrection State.command at h
  cases h
  generalize s.blk.at x0 = b at h₀ ⊢
  dsimp only
  repeat (first | with_reducible assumption | (with_reducible apply Blk.onSafety_bnd) | (with_reducible apply Blk.report_bnd) | (with_reducible apply Blk.detect_bnd) | (with_reducible apply Blk.putCopies_bnd) | with_reducible apply bnd_ite | extract_lets | split | (intros; dsimp only))

theorem execVoteThreeWayDisagreement_bnd (x0 x1 x2 x3) (s t : State) (h₀ : QueuesFit (s.blk.at x0)) (h : execVoteThreeWayDisagreement x0 x1 x2 x3 s = .next t) : QueuesFit t.blk := by
  unfold execVoteThreeWayDisagreement State.command at h
  cases h
  generalize s.blk.at x0 = b at h₀ ⊢
  dsimp only
  repeat (first | with_reducible assumption | (with_reducible apply Blk.onSafety_bnd) | (with_reducible apply Blk.detect_bnd) | (with_reducible apply Blk.putCopies_bnd) | with_reducible apply bnd_ite | extract_lets | split | (intros; dsimp only))

theorem execParityMismatch_bnd (x0 x1 x2) (s t : State) (h₀ : QueuesFit (s.blk.at x0)) (h : execParityMismatch x0 x1 x2 s = .next t) : QueuesFit t.blk := by
  unfold execParityMismatch State.command at h
  cases h
  generalize s.blk.at x0 = b at h₀ ⊢
  dsimp only
  repeat (first | with_reducible assumption | (with_reducible apply Blk.onSafety_bnd) | (with_reducible apply Blk.report_bnd) | (with_reducible apply Blk.detect_bnd) | (with_reducible apply Blk.reload_bnd) | with_reducible apply bnd_ite | extract_lets | split | (intros; dsimp only))

theorem execConsume_bnd (x0 x1 x2) (s t : State) (h₀ : QueuesFit (s.blk.at x0)) (h : execConsume x0 x1 x2 s = .next t) : QueuesFit t.blk := by
  unfold execConsume State.command at h
  cases h
  generalize s.blk.at x0 = b at h₀ ⊢
  dsimp only
  repeat (first | with_reducible assumption | (with_reducible apply Blk.consumeTo_bnd) | with_reducible apply bnd_ite | extract_lets | split | (intros; dsimp only))

theorem execDrop_bnd (x0 x1) (s t : State) (h₀ : QueuesFit (s.blk.at x0)) (h : execDrop x0 x1 s = .next t) : QueuesFit t.blk := by
  unfold execDrop State.command at h
  cases h
  generalize s.blk.at x0 = b at h₀ ⊢
  dsimp only
  repeat (first | with_reducible assumption | (with_reducible apply Blk.dropToHeader_bnd) | with_reducible apply bnd_ite | extract_lets | split | (intros; dsimp only))

theorem execTelemetryWindowAccess_bnd (x0 x1 x2 x3 x4) (s t : State) (h₀ : QueuesFit (s.blk.at x0)) (h : execTelemetryWindowAccess x0 x1 x2 x3 x4 s = .next t) : QueuesFit t.blk := by
  unfold execTelemetryWindowAccess State.command at h
  cases h
  generalize s.blk.at x0 = b at h₀ ⊢
  dsimp only
  repeat (first | with_reducible assumption | (with_reducible apply Blk.refuse_bnd) | (with_reducible apply Blk.windowAccess_bnd) | with_reducible apply bnd_ite | extract_lets | split | (intros; dsimp only))

theorem execTelemetryDump_bnd (x0) (s t : State) (h₀ : QueuesFit (s.blk.at x0)) (h : execTelemetryDump x0 s = .next t) : QueuesFit t.blk := by
  unfold execTelemetryDump State.command at h
  cases h
  generalize s.blk.at x0 = b at h₀ ⊢
  dsimp only
  repeat (first | with_reducible assumption | (with_reducible apply Blk.dump_bnd) | with_reducible apply bnd_ite | extract_lets | split | (intros; dsimp only))

theorem execQueueBankSwap_bnd (x0) (s t : State) (h₀ : QueuesFit (s.blk.at x0)) (h : execQueueBankSwap x0 s = .next t) : QueuesFit t.blk := by
  unfold execQueueBankSwap State.command at h
  cases h
  generalize s.blk.at x0 = b at h₀ ⊢
  dsimp only
  repeat (first | with_reducible assumption | (with_reducible apply Blk.bankSwap_bnd) | with_reducible apply bnd_ite | extract_lets | split | (intros; dsimp only))

theorem execLinenReport_bnd (x0 x1 x2 x3 x4 x5 x6) (s t : State) (h₀ : QueuesFit (s.blk.at x0)) (h : execLinenReport x0 x1 x2 x3 x4 x5 x6 s = .next t) : QueuesFit t.blk := by
  unfold execLinenReport State.command at h
  cases h
  generalize s.blk.at x0 = b at h₀ ⊢
  dsimp only
  repeat (first | with_reducible assumption | (with_reducible apply Blk.report_bnd) | with_reducible apply bnd_ite | extract_lets | split | (intros; dsimp only))

theorem execStormWindowClose_bnd (x0 x1 x2 x3) (s t : State) (h₀ : QueuesFit (s.blk.at x0)) (h : execStormWindowClose x0 x1 x2 x3 s = .next t) : QueuesFit t.blk := by
  unfold execStormWindowClose State.command at h
  cases h
  generalize s.blk.at x0 = b at h₀ ⊢
  dsimp only
  repeat (first | with_reducible assumption | (with_reducible apply Blk.closeWindow_bnd) | with_reducible apply bnd_ite | extract_lets | split | (intros; dsimp only))

theorem execTokenGain_bnd (x0) (s t : State) (h₀ : QueuesFit (s.blk.at x0)) (h : execTokenGain x0 s = .next t) : QueuesFit t.blk := by
  unfold execTokenGain State.command at h
  cases h
  generalize s.blk.at x0 = b at h₀ ⊢
  dsimp only
  repeat (first | with_reducible assumption | ((with_reducible apply linen_bnd) <;> [(intro h; first | exact h | exact ⟨h.1, h.2⟩ | exact ⟨h.1, h.2.1, h.2.2⟩ | exact ⟨Nat.zero_le _, h.2⟩ | exact ⟨h.1, Nat.zero_le _, h.2.2⟩ | exact Nat.zero_le _ | exact ⟨Nat.le_trans (List.length_filter_le _ _) h.1, h.2⟩ | exact ⟨h.1, Nat.le_trans (List.length_filter_le _ _) h.2.1, h.2.2⟩ | exact ⟨by simpa using h.1, h.2⟩ | exact ⟨Nat.zero_le _, Nat.zero_le _, h.2.2⟩ | exact ⟨Nat.le_trans (List.length_filter_le _ _) h.1, Nat.le_trans (List.length_filter_le _ _) h.2.1, h.2.2⟩ | exact ⟨h.1, h.2.1, Nat.min_le_left _ _⟩ | exact onLog_fits (fun _ _ => Nat.zero_le _) h | exact onLog_fits (fun _ h => Nat.le_trans (List.length_filter_le _ _) h) h | (simp only [List.length_take]; exact Nat.min_le_left _ _)); skip]) | with_reducible apply bnd_ite | extract_lets | split | (intros; dsimp only))

theorem execRingWrite_bnd (x0) (s t : State) (h₀ : QueuesFit (s.blk.at x0)) (h : execRingWrite x0 s = .next t) : QueuesFit t.blk := by
  unfold execRingWrite State.command at h
  cases h
  generalize s.blk.at x0 = b at h₀ ⊢
  dsimp only
  repeat (first | with_reducible assumption | (with_reducible apply Blk.ringNext_bnd) | (with_reducible apply Blk.pageWrite_bnd) | with_reducible apply bnd_ite | extract_lets | split | (intros; dsimp only))

theorem execCounterRecordWrite_bnd (x0) (s t : State) (h₀ : QueuesFit (s.blk.at x0)) (h : execCounterRecordWrite x0 s = .next t) : QueuesFit t.blk := by
  unfold execCounterRecordWrite State.command at h
  cases h
  generalize s.blk.at x0 = b at h₀ ⊢
  dsimp only
  repeat (first | with_reducible assumption | (with_reducible apply Blk.saveCounters_bnd) | with_reducible apply bnd_ite | extract_lets | split | (intros; dsimp only))

theorem execOperatingTimeTick_bnd (x0) (s t : State) (h₀ : QueuesFit (s.blk.at x0)) (h : execOperatingTimeTick x0 s = .next t) : QueuesFit t.blk := by
  unfold execOperatingTimeTick State.command at h
  cases h
  generalize s.blk.at x0 = b at h₀ ⊢
  dsimp only
  repeat (first | with_reducible assumption | (with_reducible apply Blk.lifeCheck_bnd) | (with_reducible apply Blk.alertCheck_bnd) | (with_reducible apply Blk.ageRegions_bnd) | (with_reducible apply Blk.ageSlots_bnd) | (with_reducible apply Blk.heldImport_bnd) | (with_reducible apply Blk.restoreMap_bnd) | (with_reducible apply Blk.pollDies_bnd) | (exact ⟨h₀.1, h₀.2, h₀.3, h₀.4, h₀.5⟩) | with_reducible apply bnd_ite | extract_lets | split | (intros; dsimp only))

theorem execHotEpochEnd_bnd (x0) (s t : State) (h₀ : QueuesFit (s.blk.at x0)) (h : execHotEpochEnd x0 s = .next t) : QueuesFit t.blk := by
  unfold execHotEpochEnd State.command at h
  cases h
  generalize s.blk.at x0 = b at h₀ ⊢
  dsimp only
  repeat (first | with_reducible assumption | (with_reducible apply Blk.onVelvet_bnd) | (with_reducible apply Blk.onTwill_bnd) | (with_reducible apply Blk.startDemotion_bnd) | (with_reducible apply Blk.startHomes_bnd) | (with_reducible apply Blk.drive_bnd) | (with_reducible apply Blk.heatRegions_bnd) | (with_reducible refine bnd_foldl (fun c x hc => ?_) _ _ ?_) | with_reducible apply bnd_ite | extract_lets | split | (intros; dsimp only))

theorem execDemotionCommit_bnd (x0 x1) (s t : State) (h₀ : QueuesFit (s.blk.at x0)) (h : execDemotionCommit x0 x1 s = .next t) : QueuesFit t.blk := by
  unfold execDemotionCommit State.command at h
  cases h
  generalize s.blk.at x0 = b at h₀ ⊢
  dsimp only
  repeat (first | with_reducible assumption | (with_reducible apply Blk.drive_bnd) | (with_reducible apply Blk.commitDemotion_bnd) | with_reducible apply bnd_ite | extract_lets | split | (intros; dsimp only))

theorem execJournalRecordIssue_bnd (x0 x1) (s t : State) (h₀ : QueuesFit (s.blk.at x0)) (h : execJournalRecordIssue x0 x1 s = .next t) : QueuesFit t.blk := by
  unfold execJournalRecordIssue State.command at h
  cases h
  generalize s.blk.at x0 = b at h₀ ⊢
  dsimp only
  repeat (first | with_reducible assumption | (with_reducible apply Blk.metaFail_bnd) | (with_reducible refine bnd_foldl (fun c x hc => ?_) _ _ ?_) | (with_reducible apply Blk.retireWaiting_bnd) | (with_reducible apply Blk.startHomes_bnd) | (with_reducible apply Blk.drive_bnd) | (with_reducible apply Blk.issueDemotions_bnd) | (with_reducible apply Blk.issueFreed_bnd) | with_reducible apply bnd_ite | extract_lets | split | (intros; dsimp only))

theorem execGarbageCollection_bnd (x0 x1) (s t : State) (h₀ : QueuesFit (s.blk.at x0)) (h : execGarbageCollection x0 x1 s = .next t) : QueuesFit t.blk := by
  unfold execGarbageCollection State.command at h
  cases h
  generalize s.blk.at x0 = b at h₀ ⊢
  dsimp only
  repeat (first | with_reducible assumption | (with_reducible apply Blk.drive_bnd) | (with_reducible apply Blk.collectRows_bnd) | (with_reducible apply Blk.takeRow_bnd) | with_reducible apply bnd_ite | extract_lets | split | (intros; dsimp only))

theorem execWearIncrement_bnd (x0 x1) (s t : State) (h₀ : QueuesFit (s.blk.at x0)) (h : execWearIncrement x0 x1 s = .next t) : QueuesFit t.blk := by
  unfold execWearIncrement State.command at h
  cases h
  generalize s.blk.at x0 = b at h₀ ⊢
  dsimp only
  repeat (first | with_reducible assumption | (with_reducible apply Blk.onTwill_bnd) | (with_reducible apply Blk.lifeCheck_bnd) | (with_reducible apply Blk.wearUp_bnd) | (with_reducible apply Blk.retireWaiting_bnd) | (with_reducible apply Blk.drive_bnd) | with_reducible apply bnd_ite | extract_lets | split | (intros; dsimp only))

theorem execTrackerFold_bnd (x0 x1) (s t : State) (h₀ : QueuesFit (s.blk.at x0)) (h : execTrackerFold x0 x1 s = .next t) : QueuesFit t.blk := by
  unfold execTrackerFold State.command at h
  cases h
  generalize s.blk.at x0 = b at h₀ ⊢
  dsimp only
  repeat (first | with_reducible assumption | (with_reducible apply Blk.lifeCheck_bnd) | (with_reducible apply Blk.foldCount_bnd) | (with_reducible apply Blk.retireWaiting_bnd) | (with_reducible apply Blk.drive_bnd) | with_reducible apply bnd_ite | extract_lets | split | (intros; dsimp only))

theorem execRotationPassEnd_bnd (x0 x1) (s t : State) (h₀ : QueuesFit (s.blk.at x0)) (h : execRotationPassEnd x0 x1 s = .next t) : QueuesFit t.blk := by
  unfold execRotationPassEnd State.command at h
  cases h
  generalize s.blk.at x0 = b at h₀ ⊢
  dsimp only
  repeat (first | with_reducible assumption | (with_reducible apply Blk.endPass_bnd) | (with_reducible apply Blk.drive_bnd) | with_reducible apply bnd_ite | extract_lets | split | (intros; dsimp only))

theorem execMigrationStart_bnd (x0 x1) (s t : State) (h₀ : QueuesFit (s.blk.at x0)) (h : execMigrationStart x0 x1 s = .next t) : QueuesFit t.blk := by
  unfold execMigrationStart State.command at h
  cases h
  generalize s.blk.at x0 = b at h₀ ⊢
  dsimp only
  repeat (first | with_reducible assumption | (with_reducible apply Blk.useFree_bnd) | (with_reducible apply Blk.widen_bnd) | (with_reducible apply Blk.beginMigration_bnd) | (with_reducible apply Blk.drive_bnd) | with_reducible apply bnd_ite | extract_lets | split | (intros; dsimp only))

theorem execMigrationEnd_bnd (x0 x1) (s t : State) (h₀ : QueuesFit (s.blk.at x0)) (h : execMigrationEnd x0 x1 s = .next t) : QueuesFit t.blk := by
  unfold execMigrationEnd State.command at h
  cases h
  generalize s.blk.at x0 = b at h₀ ⊢
  dsimp only
  repeat (first | with_reducible assumption | (with_reducible apply Blk.startHomes_bnd) | (with_reducible apply Blk.endMigration_bnd) | (with_reducible apply Blk.drive_bnd) | with_reducible apply bnd_ite | extract_lets | split | (intros; dsimp only))

theorem execColdSwapCheck_bnd (x0) (s t : State) (h₀ : QueuesFit (s.blk.at x0)) (h : execColdSwapCheck x0 s = .next t) : QueuesFit t.blk := by
  unfold execColdSwapCheck State.command at h
  cases h
  generalize s.blk.at x0 = b at h₀ ⊢
  dsimp only
  repeat (first | with_reducible assumption | (with_reducible apply Blk.drive_bnd) | (with_reducible apply Blk.coldSwap_bnd) | with_reducible apply bnd_ite | extract_lets | split | (intros; dsimp only))

theorem execRefreshRegion_bnd (x0) (s t : State) (h₀ : QueuesFit (s.blk.at x0)) (h : execRefreshRegion x0 s = .next t) : QueuesFit t.blk := by
  unfold execRefreshRegion State.command at h
  cases h
  generalize s.blk.at x0 = b at h₀ ⊢
  dsimp only
  repeat (first | with_reducible assumption | (with_reducible apply Blk.onTwill_bnd) | (with_reducible apply Blk.drive_bnd) | (with_reducible apply Blk.startRefresh_bnd) | with_reducible apply bnd_ite | extract_lets | split | (intros; dsimp only))

theorem execRefreshBacklog_bnd (x0 x1) (s t : State) (h₀ : QueuesFit (s.blk.at x0)) (h : execRefreshBacklog x0 x1 s = .next t) : QueuesFit t.blk := by
  unfold execRefreshBacklog State.command at h
  cases h
  generalize s.blk.at x0 = b at h₀ ⊢
  dsimp only
  repeat (first | with_reducible assumption | (with_reducible apply Blk.onTwill_bnd) | (with_reducible apply Blk.bump_bnd) | (with_reducible apply Blk.reportUnit_bnd) | with_reducible apply bnd_ite | extract_lets | split | (intros; dsimp only))

theorem execCheckpointStart_bnd (x0 x1) (s t : State) (h₀ : QueuesFit (s.blk.at x0)) (h : execCheckpointStart x0 x1 s = .next t) : QueuesFit t.blk := by
  unfold execCheckpointStart State.command at h
  cases h
  generalize s.blk.at x0 = b at h₀ ⊢
  dsimp only
  repeat (first | with_reducible assumption | (with_reducible apply Blk.onTwill_bnd) | (with_reducible apply Blk.drive_bnd) | (with_reducible apply Blk.beginCheckpoint_bnd) | with_reducible apply bnd_ite | extract_lets | split | (intros; dsimp only))

theorem execCheckpointCommit_bnd (x0 x1) (s t : State) (h₀ : QueuesFit (s.blk.at x0)) (h : execCheckpointCommit x0 x1 s = .next t) : QueuesFit t.blk := by
  unfold execCheckpointCommit State.command at h
  cases h
  generalize s.blk.at x0 = b at h₀ ⊢
  dsimp only
  repeat (first | with_reducible assumption | (with_reducible apply Blk.metaFail_bnd) | (with_reducible refine bnd_foldl (fun c x hc => ?_) _ _ ?_) | (with_reducible apply Blk.retireWaiting_bnd) | (with_reducible apply Blk.drive_bnd) | (with_reducible apply Blk.beginCheckpoint_bnd) | (with_reducible apply Blk.commitCheckpoint_bnd) | with_reducible apply bnd_ite | extract_lets | split | (intros; dsimp only))

theorem execResync_bnd (x0 x1) (s t : State) (h₀ : QueuesFit (s.blk.at x0)) (h : execResync x0 x1 s = .next t) : QueuesFit t.blk := by
  unfold execResync State.command at h
  cases h
  generalize s.blk.at x0 = b at h₀ ⊢
  dsimp only
  repeat (first | with_reducible assumption | (with_reducible apply Blk.onTwill_bnd) | (with_reducible apply Blk.drive_bnd) | with_reducible apply bnd_ite | extract_lets | split | (intros; dsimp only))

theorem execWeakLineRewrite_bnd (x0) (s t : State) (h₀ : QueuesFit (s.blk.at x0)) (h : execWeakLineRewrite x0 s = .next t) : QueuesFit t.blk := by
  unfold execWeakLineRewrite State.command at h
  cases h
  generalize s.blk.at x0 = b at h₀ ⊢
  dsimp only
  repeat (first | with_reducible assumption | (with_reducible apply onMedia_bnd <;> [(intro; rfl); skip]) | (with_reducible apply Blk.startJob_bnd) | (with_reducible apply Blk.drive_bnd) | with_reducible apply bnd_ite | extract_lets | split | (intros; dsimp only))

theorem execTerryStripeRead_bnd (x0 x1) (s t : State) (h₀ : QueuesFit (s.blk.at x0)) (h : execTerryStripeRead x0 x1 s = .next t) : QueuesFit t.blk := by
  unfold execTerryStripeRead State.command at h
  cases h
  generalize s.blk.at x0 = b at h₀ ⊢
  dsimp only
  repeat (first | with_reducible assumption | (with_reducible apply Blk.drive_bnd) | (with_reducible apply Blk.lapRead_bnd) | (with_reducible apply Blk.scanNext_bnd) | with_reducible apply bnd_ite | extract_lets | split | (intros; dsimp only))

theorem execSramScrub_bnd (x0 x1 x2 x3 x4) (s t : State) (h₀ : QueuesFit (s.blk.at x0)) (h : execSramScrub x0 x1 x2 x3 x4 s = .next t) : QueuesFit t.blk := by
  unfold execSramScrub State.command at h
  cases h
  generalize s.blk.at x0 = b at h₀ ⊢
  dsimp only
  repeat (first | with_reducible assumption | (with_reducible apply Blk.sramRead_bnd) | (with_reducible apply Blk.scrubWord_bnd) | with_reducible apply bnd_ite | extract_lets | split | (intros; dsimp only))

theorem execScrubStarved_bnd (x0 x1) (s t : State) (h₀ : QueuesFit (s.blk.at x0)) (h : execScrubStarved x0 x1 s = .next t) : QueuesFit t.blk := by
  unfold execScrubStarved State.command at h
  cases h
  generalize s.blk.at x0 = b at h₀ ⊢
  dsimp only
  repeat (first | with_reducible assumption | (with_reducible apply Blk.starve_bnd) | with_reducible apply bnd_ite | extract_lets | split | (intros; dsimp only))

theorem execCellStale_bnd (x0 x1 x2 x3 x4) (s t : State) (h₀ : QueuesFit (s.blk.at x0)) (h : execCellStale x0 x1 x2 x3 x4 s = .next t) : QueuesFit t.blk := by
  unfold execCellStale State.command at h
  cases h
  generalize s.blk.at x0 = b at h₀ ⊢
  dsimp only
  repeat (first | with_reducible assumption | (with_reducible apply Blk.onGauze_bnd) | (with_reducible apply Blk.reportUnit_bnd) | (with_reducible apply Blk.putCell_bnd) | (exact ⟨h₀.1, h₀.2, h₀.3, h₀.4, h₀.5⟩) | with_reducible apply bnd_ite | extract_lets | split | (intros; dsimp only))

theorem execMarginEvaluation_bnd (x0) (s t : State) (h₀ : QueuesFit (s.blk.at x0)) (h : execMarginEvaluation x0 s = .next t) : QueuesFit t.blk := by
  unfold execMarginEvaluation State.command at h
  cases h
  generalize s.blk.at x0 = b at h₀ ⊢
  dsimp only
  repeat (first | with_reducible assumption | (with_reducible apply Blk.onGauze_bnd) | (with_reducible apply Blk.drive_bnd) | (with_reducible apply Blk.evaluateArea_bnd) | (with_reducible apply Blk.beginEvaluation_bnd) | with_reducible apply bnd_ite | extract_lets | split | (intros; dsimp only))

theorem execGauzeSnapshot_bnd (x0 x1) (s t : State) (h₀ : QueuesFit (s.blk.at x0)) (h : execGauzeSnapshot x0 x1 s = .next t) : QueuesFit t.blk := by
  unfold execGauzeSnapshot State.command at h
  cases h
  generalize s.blk.at x0 = b at h₀ ⊢
  dsimp only
  repeat (first | with_reducible assumption | (with_reducible apply Blk.metaFail_bnd) | (with_reducible refine bnd_foldl (fun c x hc => ?_) _ _ ?_) | (with_reducible apply Blk.snapshot_bnd) | with_reducible apply bnd_ite | extract_lets | split | (intros; dsimp only))

theorem execTagWriteback_bnd (x0) (s t : State) (h₀ : QueuesFit (s.blk.at x0)) (h : execTagWriteback x0 s = .next t) : QueuesFit t.blk := by
  unfold execTagWriteback State.command at h
  cases h
  generalize s.blk.at x0 = b at h₀ ⊢
  dsimp only
  repeat (first | with_reducible assumption | (with_reducible apply Blk.startTag_bnd) | (with_reducible apply Blk.drive_bnd) | (with_reducible refine bnd_foldl (fun c x hc => ?_) _ _ ?_) | with_reducible apply bnd_ite | extract_lets | split | (intros; dsimp only))

theorem execRekeyPass_bnd (x0 x1) (s t : State) (h₀ : QueuesFit (s.blk.at x0)) (h : execRekeyPass x0 x1 s = .next t) : QueuesFit t.blk := by
  unfold execRekeyPass State.command at h
  cases h
  generalize s.blk.at x0 = b at h₀ ⊢
  dsimp only
  repeat (first | with_reducible assumption | (with_reducible apply Blk.onDamask_bnd) | (with_reducible apply Blk.rekeyGroup_bnd) | (with_reducible apply Blk.pinGroups_bnd) | with_reducible apply bnd_ite | extract_lets | split | (intros; dsimp only))

theorem execAlertService_bnd (x0 x1 x2) (s t : State) (h₀ : QueuesFit (s.blk.at x0)) (h : execAlertService x0 x1 x2 s = .next t) : QueuesFit t.blk := by
  unfold execAlertService State.command at h
  cases h
  generalize s.blk.at x0 = b at h₀ ⊢
  dsimp only
  repeat (first | with_reducible assumption | (with_reducible apply Blk.bump_bnd) | (with_reducible apply Blk.sendDie_bnd) | (with_reducible apply Blk.serveDie_bnd) | (with_reducible refine bnd_foldl (fun c x hc => ?_) _ _ ?_) | with_reducible apply bnd_ite | extract_lets | split | (intros; dsimp only))

theorem execChannelTraining_bnd (x0 x1) (s t : State) (h₀ : QueuesFit (s.blk.at x0)) (h : execChannelTraining x0 x1 s = .next t) : QueuesFit t.blk := by
  unfold execChannelTraining State.command at h
  cases h
  generalize s.blk.at x0 = b at h₀ ⊢
  dsimp only
  repeat (first | with_reducible assumption | (with_reducible apply onMedia_bnd <;> [(intro; rfl); skip]) | (with_reducible apply Blk.onModes_bnd) | (with_reducible apply Blk.report_bnd) | (with_reducible apply Blk.channelFail_bnd) | (with_reducible apply Blk.findDies_bnd) | (with_reducible apply Blk.channelTrained_bnd) | (with_reducible refine bnd_foldl (fun c x hc => ?_) _ _ ?_) | with_reducible apply bnd_ite | extract_lets | split | (intros; dsimp only))

theorem execChannelRetrain_bnd (x0 x1) (s t : State) (h₀ : QueuesFit (s.blk.at x0)) (h : execChannelRetrain x0 x1 s = .next t) : QueuesFit t.blk := by
  unfold execChannelRetrain State.command at h
  cases h
  generalize s.blk.at x0 = b at h₀ ⊢
  dsimp only
  repeat (first | with_reducible assumption | (with_reducible apply Blk.bump32_bnd) | (with_reducible apply Blk.onChan_bnd) | (with_reducible apply Blk.reportUnit_bnd) | (with_reducible apply Blk.rerouteDie_bnd) | (exact ⟨h₀.1, h₀.2, h₀.3, h₀.4, h₀.5⟩) | (with_reducible refine bnd_foldl (fun c x hc => ?_) _ _ ?_) | with_reducible apply bnd_ite | extract_lets | split | (intros; dsimp only))

theorem execPgm_bnd (x0 x1 x2 x3 x4 x5 x6) (s t : State) (h₀ : QueuesFit (s.blk.at x0)) (h : execPgm x0 x1 x2 x3 x4 x5 x6 s = .next t) : QueuesFit t.blk := by
  unfold execPgm State.command at h
  cases h
  generalize s.blk.at x0 = b at h₀ ⊢
  dsimp only
  repeat (first | with_reducible assumption | (with_reducible apply Blk.twChan_bnd) | (with_reducible apply Blk.sendDie_bnd) | (with_reducible apply Blk.dieProgram_bnd) | with_reducible apply bnd_ite | extract_lets | split | (intros; dsimp only))

theorem execOvw_bnd (x0 x1 x2 x3 x4 x5 x6) (s t : State) (h₀ : QueuesFit (s.blk.at x0)) (h : execOvw x0 x1 x2 x3 x4 x5 x6 s = .next t) : QueuesFit t.blk := by
  unfold execOvw State.command at h
  cases h
  generalize s.blk.at x0 = b at h₀ ⊢
  dsimp only
  repeat (first | with_reducible assumption | (with_reducible apply Blk.twChan_bnd) | (with_reducible apply Blk.sendDie_bnd) | (with_reducible apply Blk.dieProgram_bnd) | with_reducible apply bnd_ite | extract_lets | split | (intros; dsimp only))

theorem execSus_bnd (x0 x1 x2 x3) (s t : State) (h₀ : QueuesFit (s.blk.at x0)) (h : execSus x0 x1 x2 x3 s = .next t) : QueuesFit t.blk := by
  unfold execSus State.command at h
  cases h
  generalize s.blk.at x0 = b at h₀ ⊢
  dsimp only
  repeat (first | with_reducible assumption | (with_reducible apply onMedia_bnd <;> [(intro; rfl); skip]) | (with_reducible apply Blk.twChan_bnd) | (with_reducible apply Blk.onPart_bnd) | (with_reducible apply Blk.sendDie_bnd) | (with_reducible apply Blk.program_bnd) | (with_reducible apply Blk.dieRefuse_bnd) | with_reducible apply bnd_ite | extract_lets | split | (intros; dsimp only))

theorem execStr_bnd (x0 x1 x2) (s t : State) (h₀ : QueuesFit (s.blk.at x0)) (h : execStr x0 x1 x2 s = .next t) : QueuesFit t.blk := by
  unfold execStr State.command at h
  cases h
  generalize s.blk.at x0 = b at h₀ ⊢
  dsimp only
  repeat (first | with_reducible assumption | (with_reducible apply Blk.sendDie_bnd) | (with_reducible apply Blk.dieAnswers_bnd) | with_reducible apply bnd_ite | extract_lets | split | (intros; dsimp only))

theorem execRst_bnd (x0 x1 x2) (s t : State) (h₀ : QueuesFit (s.blk.at x0)) (h : execRst x0 x1 x2 s = .next t) : QueuesFit t.blk := by
  unfold execRst State.command at h
  cases h
  generalize s.blk.at x0 = b at h₀ ⊢
  dsimp only
  repeat (first | with_reducible assumption | (with_reducible apply Blk.onDie_bnd) | (with_reducible apply Blk.sendTo_bnd) | (with_reducible apply Blk.resetParts_bnd) | (with_reducible refine bnd_foldl (fun c x hc => ?_) _ _ ?_) | with_reducible apply bnd_ite | extract_lets | split | (intros; dsimp only))

theorem execRebuildPosition_bnd (x0) (s t : State) (h₀ : QueuesFit (s.blk.at x0)) (h : execRebuildPosition x0 s = .next t) : QueuesFit t.blk := by
  unfold execRebuildPosition State.command at h
  cases h
  generalize s.blk.at x0 = b at h₀ ⊢
  dsimp only
  repeat (first | with_reducible assumption | (with_reducible apply Blk.onTwill_bnd) | (with_reducible apply Blk.onSafety_bnd) | (with_reducible apply Blk.useFree_bnd) | (with_reducible apply Blk.lifeCheck_bnd) | (with_reducible apply Blk.journalRec_bnd) | (with_reducible apply Blk.rebuildOver_bnd) | (with_reducible apply Blk.drive_bnd) | with_reducible apply bnd_ite | extract_lets | split | (intros; dsimp only))

theorem execReplacementCopyBack_bnd (x0 x1) (s t : State) (h₀ : QueuesFit (s.blk.at x0)) (h : execReplacementCopyBack x0 x1 s = .next t) : QueuesFit t.blk := by
  unfold execReplacementCopyBack State.command at h
  cases h
  generalize s.blk.at x0 = b at h₀ ⊢
  dsimp only
  repeat (first | with_reducible assumption | (with_reducible apply Blk.onSafety_bnd) | (with_reducible apply Blk.drive_bnd) | with_reducible apply bnd_ite | extract_lets | split | (intros; dsimp only))

theorem execEngineHeartbeatMiss_bnd (x0 x1) (s t : State) (h₀ : QueuesFit (s.blk.at x0)) (h : execEngineHeartbeatMiss x0 x1 s = .next t) : QueuesFit t.blk := by
  unfold execEngineHeartbeatMiss State.command at h
  cases h
  generalize s.blk.at x0 = b at h₀ ⊢
  dsimp only
  repeat (first | with_reducible assumption | (with_reducible apply Blk.bump_bnd) | (with_reducible apply Blk.engineFail_bnd) | with_reducible apply bnd_ite | extract_lets | split | (intros; dsimp only))

theorem execTakeoverComplete_bnd (x0 x1) (s t : State) (h₀ : QueuesFit (s.blk.at x0)) (h : execTakeoverComplete x0 x1 s = .next t) : QueuesFit t.blk := by
  unfold execTakeoverComplete State.command at h
  cases h
  generalize s.blk.at x0 = b at h₀ ⊢
  dsimp only
  repeat (first | with_reducible assumption | (with_reducible apply Blk.onEngine_bnd) | (with_reducible apply Blk.drive_bnd) | (with_reducible apply Blk.payOwed_bnd) | with_reducible apply bnd_ite | extract_lets | split | (intros; dsimp only))

theorem execLockstepMismatch_bnd (x0 x1) (s t : State) (h₀ : QueuesFit (s.blk.at x0)) (h : execLockstepMismatch x0 x1 s = .next t) : QueuesFit t.blk := by
  unfold execLockstepMismatch State.command at h
  cases h
  generalize s.blk.at x0 = b at h₀ ⊢
  dsimp only
  repeat (first | with_reducible assumption | (with_reducible apply Blk.detect_bnd) | with_reducible apply bnd_ite | extract_lets | split | (intros; dsimp only))

theorem execBankFailoverComplete_bnd (x0) (s t : State) (h₀ : QueuesFit (s.blk.at x0)) (h : execBankFailoverComplete x0 s = .next t) : QueuesFit t.blk := by
  unfold execBankFailoverComplete State.command at h
  cases h
  generalize s.blk.at x0 = b at h₀ ⊢
  dsimp only
  repeat (first | with_reducible assumption | (with_reducible apply Blk.onSafety_bnd) | (with_reducible apply Blk.reportUnit_bnd) | (with_reducible apply Blk.degrade_bnd) | (with_reducible apply Blk.onBank_bnd) | (with_reducible apply Blk.bankFail_bnd) | with_reducible apply bnd_ite | extract_lets | split | (intros; dsimp only))

theorem execHeadFailure_bnd (x0 x1) (s t : State) (h₀ : QueuesFit (s.blk.at x0)) (h : execHeadFailure x0 x1 s = .next t) : QueuesFit t.blk := by
  unfold execHeadFailure State.command at h
  cases h
  generalize s.blk.at x0 = b at h₀ ⊢
  dsimp only
  repeat (first | with_reducible assumption | (with_reducible apply Blk.useFree_bnd) | (with_reducible apply Blk.detect_bnd) | (with_reducible apply Blk.headFail_bnd) | with_reducible apply bnd_ite | extract_lets | split | (intros; dsimp only))

theorem execSelfTest_bnd (x0 x1) (s t : State) (h₀ : QueuesFit (s.blk.at x0)) (h : execSelfTest x0 x1 s = .next t) : QueuesFit t.blk := by
  unfold execSelfTest State.command at h
  cases h
  generalize s.blk.at x0 = b at h₀ ⊢
  dsimp only
  repeat (first | with_reducible assumption | (with_reducible apply Blk.onSafety_bnd) | (with_reducible apply Blk.odSet_bnd) | (with_reducible apply Blk.checkerFailed_bnd) | (with_reducible refine bnd_foldl (fun c x hc => ?_) _ _ ?_) | with_reducible apply bnd_ite | extract_lets | split | (intros; dsimp only))

theorem execSafeStopEntry_bnd (x0) (s t : State) (h₀ : QueuesFit (s.blk.at x0)) (h : execSafeStopEntry x0 s = .next t) : QueuesFit t.blk := by
  unfold execSafeStopEntry State.command at h
  cases h
  generalize s.blk.at x0 = b at h₀ ⊢
  dsimp only
  repeat (first | with_reducible assumption | (with_reducible apply Blk.onModes_bnd) | (with_reducible apply Blk.bump_bnd) | (with_reducible apply Blk.report_bnd) | (with_reducible apply Blk.enter_bnd) | (with_reducible apply Blk.healthCheck_bnd) | (with_reducible apply Blk.endPrograms_bnd) | (with_reducible apply Blk.resumeAll_bnd) | (with_reducible apply Blk.ringNewest_bnd) | with_reducible apply bnd_ite | extract_lets | split | (intros; dsimp only))

theorem execResidentRailsGood_bnd (x0 x1 x2 x3) (s t : State) (h₀ : QueuesFit (s.blk.at x0)) (h : execResidentRailsGood x0 x1 x2 x3 s = .next t) : QueuesFit t.blk := by
  unfold execResidentRailsGood State.command at h
  cases h
  generalize s.blk.at x0 = b at h₀ ⊢
  dsimp only
  repeat (first | with_reducible assumption | (with_reducible apply Blk.startBoot_bnd) | (with_reducible apply Blk.aonReset_bnd) | with_reducible apply bnd_ite | extract_lets | split | (intros; dsimp only))

theorem execResidentRailFall_bnd (x0) (s t : State) (h₀ : QueuesFit (s.blk.at x0)) (h : execResidentRailFall x0 s = .next t) : QueuesFit t.blk := by
  unfold execResidentRailFall State.command at h
  cases h
  generalize s.blk.at x0 = b at h₀ ⊢
  dsimp only
  repeat (first | with_reducible assumption | ((with_reducible apply felt_bnd) <;> [(intro _ h; exact h); skip]) | (with_reducible apply Blk.tearPrograms_bnd) | (with_reducible apply Blk.dark_bnd) | with_reducible apply bnd_ite | extract_lets | split | (intros; dsimp only))

theorem execPfailNRise_bnd (x0) (s t : State) (h₀ : QueuesFit (s.blk.at x0)) (h : execPfailNRise x0 s = .next t) : QueuesFit t.blk := by
  unfold execPfailNRise State.command at h
  cases h
  generalize s.blk.at x0 = b at h₀ ⊢
  dsimp only
  repeat (first | with_reducible assumption | (with_reducible apply Blk.onCanvas_bnd) | (with_reducible apply Blk.onModes_bnd) | (with_reducible apply Blk.faultPin_bnd) | (with_reducible apply Blk.cycleUp_bnd) | (with_reducible apply Blk.powerCycled_bnd) | (with_reducible apply Blk.startBoot_bnd) | (exact ⟨h₀.1, h₀.2, h₀.3, h₀.4, h₀.5⟩) | with_reducible apply bnd_ite | extract_lets | split | (intros; dsimp only))

theorem execInputPowerLoss_bnd (x0) (s t : State) (h₀ : QueuesFit (s.blk.at x0)) (h : execInputPowerLoss x0 s = .next t) : QueuesFit t.blk := by
  unfold execInputPowerLoss State.command at h
  cases h
  generalize s.blk.at x0 = b at h₀ ⊢
  dsimp only
  repeat (first | with_reducible assumption | (with_reducible apply Blk.onModes_bnd) | (with_reducible apply Blk.abandonTest_bnd) | (with_reducible apply Blk.loseInput_bnd) | with_reducible apply bnd_ite | extract_lets | split | (intros; dsimp only))

theorem execFlushEnd_bnd (x0 x1) (s t : State) (h₀ : QueuesFit (s.blk.at x0)) (h : execFlushEnd x0 x1 s = .next t) : QueuesFit t.blk := by
  unfold execFlushEnd State.command at h
  cases h
  generalize s.blk.at x0 = b at h₀ ⊢
  dsimp only
  repeat (first | with_reducible assumption | (with_reducible apply Blk.endFlush_bnd) | (with_reducible apply Blk.flushCheck_bnd) | (with_reducible refine bnd_foldl (fun c x hc => ?_) _ _ ?_) | with_reducible apply bnd_ite | extract_lets | split | (intros; dsimp only))

theorem execPseqPgChange_bnd (x0 x1 x2 x3) (s t : State) (h₀ : QueuesFit (s.blk.at x0)) (h : execPseqPgChange x0 x1 x2 x3 s = .next t) : QueuesFit t.blk := by
  unfold execPseqPgChange State.command at h
  cases h
  generalize s.blk.at x0 = b at h₀ ⊢
  dsimp only
  repeat (first | with_reducible assumption | (with_reducible apply Blk.onSlot_bnd) | (with_reducible apply Blk.stepChange_bnd) | with_reducible apply bnd_ite | extract_lets | split | (intros; dsimp only))

theorem execSlotQualified_bnd (x0 x1) (s t : State) (h₀ : QueuesFit (s.blk.at x0)) (h : execSlotQualified x0 x1 s = .next t) : QueuesFit t.blk := by
  unfold execSlotQualified State.command at h
  cases h
  generalize s.blk.at x0 = b at h₀ ⊢
  dsimp only
  repeat (first | with_reducible assumption | (with_reducible apply Blk.qualified_bnd) | with_reducible apply bnd_ite | extract_lets | split | (intros; dsimp only))

theorem execSlotQualifyTimeout_bnd (x0 x1) (s t : State) (h₀ : QueuesFit (s.blk.at x0)) (h : execSlotQualifyTimeout x0 x1 s = .next t) : QueuesFit t.blk := by
  unfold execSlotQualifyTimeout State.command at h
  cases h
  generalize s.blk.at x0 = b at h₀ ⊢
  dsimp only
  repeat (first | with_reducible assumption | (with_reducible apply Blk.onSlot_bnd) | (with_reducible apply Blk.powerDown_bnd) | (with_reducible apply Blk.chatter_bnd) | with_reducible apply bnd_ite | extract_lets | split | (intros; dsimp only))

theorem execSlotFallen_bnd (x0 x1 x2) (s t : State) (h₀ : QueuesFit (s.blk.at x0)) (h : execSlotFallen x0 x1 x2 s = .next t) : QueuesFit t.blk := by
  unfold execSlotFallen State.command at h
  cases h
  generalize s.blk.at x0 = b at h₀ ⊢
  dsimp only
  repeat (first | with_reducible assumption | (with_reducible apply lowerNext_fit) | (with_reducible apply Blk.onSlot_bnd) | with_reducible apply bnd_ite | extract_lets | split | (intros; dsimp only))

theorem execSlotFallTimeout_bnd (x0 x1) (s t : State) (h₀ : QueuesFit (s.blk.at x0)) (h : execSlotFallTimeout x0 x1 s = .next t) : QueuesFit t.blk := by
  unfold execSlotFallTimeout State.command at h
  cases h
  generalize s.blk.at x0 = b at h₀ ⊢
  dsimp only
  repeat (first | with_reducible assumption | (with_reducible apply lowerNext_fit) | (with_reducible apply Blk.onSlot_bnd) | (with_reducible apply Blk.canvasLogged_bnd) | with_reducible apply bnd_ite | extract_lets | split | (intros; dsimp only))

theorem execRailFault_bnd (x0 x1 x2 x3) (s t : State) (h₀ : QueuesFit (s.blk.at x0)) (h : execRailFault x0 x1 x2 x3 s = .next t) : QueuesFit t.blk := by
  unfold execRailFault State.command at h
  cases h
  generalize s.blk.at x0 = b at h₀ ⊢
  dsimp only
  repeat (first | with_reducible assumption | (with_reducible apply Blk.bump_bnd) | (with_reducible apply Blk.detect_bnd) | (with_reducible apply Blk.onSlot_bnd) | (with_reducible apply Blk.allOff_bnd) | (with_reducible apply Blk.secondFault_bnd) | with_reducible apply bnd_ite | extract_lets | split | (intros; dsimp only))

theorem execHuSenseSample_bnd (x0 x1) (s t : State) (h₀ : QueuesFit (s.blk.at x0)) (h : execHuSenseSample x0 x1 s = .next t) : QueuesFit t.blk := by
  unfold execHuSenseSample State.command at h
  cases h
  generalize s.blk.at x0 = b at h₀ ⊢
  dsimp only
  repeat (first | with_reducible assumption | (with_reducible apply Blk.onCanvas_bnd) | (with_reducible apply Blk.reportEnergy_bnd) | (exact ⟨h₀.1, h₀.2, h₀.3, h₀.4, h₀.5⟩) | with_reducible apply bnd_ite | extract_lets | split | (intros; dsimp only))

theorem execHoldupReport_bnd (x0) (s t : State) (h₀ : QueuesFit (s.blk.at x0)) (h : execHoldupReport x0 s = .next t) : QueuesFit t.blk := by
  unfold execHoldupReport State.command at h
  cases h
  generalize s.blk.at x0 = b at h₀ ⊢
  dsimp only
  repeat (first | with_reducible assumption | (with_reducible apply Blk.reportEnergy_bnd) | with_reducible apply bnd_ite | extract_lets | split | (intros; dsimp only))

theorem execWriteBackReturn_bnd (x0) (s t : State) (h₀ : QueuesFit (s.blk.at x0)) (h : execWriteBackReturn x0 s = .next t) : QueuesFit t.blk := by
  unfold execWriteBackReturn State.command at h
  cases h
  generalize s.blk.at x0 = b at h₀ ⊢
  dsimp only
  repeat (first | with_reducible assumption | (with_reducible apply Blk.applyMode_bnd) | with_reducible apply bnd_ite | extract_lets | split | (intros; dsimp only))

theorem execHealthTestEnd_bnd (x0 x1 x2) (s t : State) (h₀ : QueuesFit (s.blk.at x0)) (h : execHealthTestEnd x0 x1 x2 s = .next t) : QueuesFit t.blk := by
  unfold execHealthTestEnd State.command at h
  cases h
  generalize s.blk.at x0 = b at h₀ ⊢
  dsimp only
  repeat (first | with_reducible assumption | (with_reducible apply Blk.useFree_bnd) | (with_reducible apply Blk.healthCheck_bnd) | (with_reducible apply Blk.reportEnergy_bnd) | (with_reducible apply Blk.testResult_bnd) | with_reducible apply bnd_ite | extract_lets | split | (intros; dsimp only))

theorem execBoot_bnd (x0 x1 x2) (s t : State) (h₀ : QueuesFit (s.blk.at x0)) (h : execBoot x0 x1 x2 s = .next t) : QueuesFit t.blk := by
  unfold execBoot State.command at h
  cases h
  generalize s.blk.at x0 = b at h₀ ⊢
  dsimp only
  repeat (first | with_reducible assumption | (with_reducible apply Blk.fwRefused_bnd) | (with_reducible refine Blk.fwLoad_bnd _ (by assumption) ?_) | (with_reducible apply Blk.bringUp_bnd) | (with_reducible apply Blk.loadFelt_bnd) | (with_reducible apply Blk.fillFails_bnd) | (with_reducible refine bnd_foldl (fun c x hc => ?_) _ _ ?_) | with_reducible apply bnd_ite | extract_lets | split | (intros; dsimp only))

theorem execBindingCheck_bnd (x0 x1) (s t : State) (h₀ : QueuesFit (s.blk.at x0)) (h : execBindingCheck x0 x1 s = .next t) : QueuesFit t.blk := by
  unfold execBindingCheck State.command at h
  cases h
  generalize s.blk.at x0 = b at h₀ ⊢
  dsimp only
  repeat (first | with_reducible assumption | (with_reducible apply Blk.onDamask_bnd) | (with_reducible apply Blk.setConditions_bnd) | (with_reducible apply Blk.readIds_bnd) | (with_reducible apply Blk.ownMedia_bnd) | (with_reducible apply Blk.firstProvision_bnd) | (with_reducible apply Blk.heldMedia_bnd) | with_reducible apply bnd_ite | extract_lets | split | (intros; dsimp only))

theorem execMapRebuild_bnd (x0 x1) (s t : State) (h₀ : QueuesFit (s.blk.at x0)) (h : execMapRebuild x0 x1 s = .next t) : QueuesFit t.blk := by
  unfold execMapRebuild State.command at h
  cases h
  generalize s.blk.at x0 = b at h₀ ⊢
  dsimp only
  repeat (first | with_reducible assumption | (with_reducible apply Blk.onModes_bnd) | (with_reducible apply Blk.odSet_bnd) | (with_reducible apply Blk.loadSnapshot_bnd) | (with_reducible apply Blk.loadMap_bnd) | (with_reducible apply Blk.mapReady_bnd) | with_reducible apply bnd_ite | extract_lets | split | (intros; dsimp only))

theorem execMemoryActive_bnd (x0) (s t : State) (h₀ : QueuesFit (s.blk.at x0)) (h : execMemoryActive x0 s = .next t) : QueuesFit t.blk := by
  unfold execMemoryActive State.command at h
  cases h
  generalize s.blk.at x0 = b at h₀ ⊢
  dsimp only
  repeat (first | with_reducible assumption | (with_reducible apply Blk.activate_bnd) | with_reducible apply bnd_ite | extract_lets | split | (intros; dsimp only))

theorem execHoldupReportTimeout_bnd (x0) (s t : State) (h₀ : QueuesFit (s.blk.at x0)) (h : execHoldupReportTimeout x0 s = .next t) : QueuesFit t.blk := by
  unfold execHoldupReportTimeout State.command at h
  cases h
  generalize s.blk.at x0 = b at h₀ ⊢
  dsimp only
  repeat (first | with_reducible assumption | (with_reducible apply Blk.report_bnd) | (with_reducible apply Blk.activate_bnd) | with_reducible apply bnd_ite | extract_lets | split | (intros; dsimp only))

theorem execLightSleepEntry_bnd (x0) (s t : State) (h₀ : QueuesFit (s.blk.at x0)) (h : execLightSleepEntry x0 s = .next t) : QueuesFit t.blk := by
  unfold execLightSleepEntry State.command at h
  cases h
  generalize s.blk.at x0 = b at h₀ ⊢
  dsimp only
  repeat (first | with_reducible assumption | (with_reducible apply Blk.enter_bnd) | with_reducible apply bnd_ite | extract_lets | split | (intros; dsimp only))

theorem execDeepSleepEntry_bnd (x0) (s t : State) (h₀ : QueuesFit (s.blk.at x0)) (h : execDeepSleepEntry x0 s = .next t) : QueuesFit t.blk := by
  unfold execDeepSleepEntry State.command at h
  cases h
  generalize s.blk.at x0 = b at h₀ ⊢
  dsimp only
  repeat (first | with_reducible assumption | (with_reducible apply Blk.enter_bnd) | (with_reducible apply Blk.fallAsleep_bnd) | with_reducible apply bnd_ite | extract_lets | split | (intros; dsimp only))

theorem execIdleEnd_bnd (x0) (s t : State) (h₀ : QueuesFit (s.blk.at x0)) (h : execIdleEnd x0 s = .next t) : QueuesFit t.blk := by
  unfold execIdleEnd State.command at h
  cases h
  generalize s.blk.at x0 = b at h₀ ⊢
  dsimp only
  repeat (first | with_reducible assumption | (with_reducible apply Blk.wake_bnd) | with_reducible apply bnd_ite | extract_lets | split | (intros; dsimp only))

theorem execRefclkLost_bnd (x0 x1) (s t : State) (h₀ : QueuesFit (s.blk.at x0)) (h : execRefclkLost x0 x1 s = .next t) : QueuesFit t.blk := by
  unfold execRefclkLost State.command at h
  cases h
  generalize s.blk.at x0 = b at h₀ ⊢
  dsimp only
  repeat (first | with_reducible assumption | (with_reducible apply forcedSwitches_fit) | (with_reducible apply Blk.onClocks_bnd) | (with_reducible apply Blk.bump_bnd) | (with_reducible apply Blk.report_bnd) | (with_reducible apply Blk.detect_bnd) | (with_reducible apply Blk.linkFalls_bnd) | (with_reducible apply Blk.clockFailure_bnd) | (exact ⟨h₀.1, h₀.2, h₀.3, h₀.4, h₀.5⟩) | with_reducible apply bnd_ite | extract_lets | split | (intros; dsimp only))

theorem execRefclkGood_bnd (x0) (s t : State) (h₀ : QueuesFit (s.blk.at x0)) (h : execRefclkGood x0 s = .next t) : QueuesFit t.blk := by
  unfold execRefclkGood State.command at h
  cases h
  generalize s.blk.at x0 = b at h₀ ⊢
  dsimp only
  repeat (first | with_reducible assumption | ((with_reducible apply linkChange_bnd) <;> [(intro h; exact h); skip]) | (with_reducible apply Blk.onClocks_bnd) | (with_reducible apply Blk.report_bnd) | (exact ⟨h₀.1, h₀.2, h₀.3, h₀.4, h₀.5⟩) | with_reducible apply bnd_ite | extract_lets | split | (intros; dsimp only))

theorem execPllJudgeWindow_bnd (x0 x1 x2 x3) (s t : State) (h₀ : QueuesFit (s.blk.at x0)) (h : execPllJudgeWindow x0 x1 x2 x3 s = .next t) : QueuesFit t.blk := by
  unfold execPllJudgeWindow State.command at h
  cases h
  generalize s.blk.at x0 = b at h₀ ⊢
  dsimp only
  repeat (first | with_reducible assumption | (with_reducible apply Blk.onClocks_bnd) | (with_reducible apply Blk.autoReturn_bnd) | (with_reducible apply Blk.pllFail_bnd) | with_reducible apply bnd_ite | extract_lets | split | (intros; dsimp only))

theorem execThermalSample_bnd (x0 x1) (s t : State) (h₀ : QueuesFit (s.blk.at x0)) (h : execThermalSample x0 x1 s = .next t) : QueuesFit t.blk := by
  unfold execThermalSample State.command at h
  cases h
  generalize s.blk.at x0 = b at h₀ ⊢
  dsimp only
  repeat (first | with_reducible assumption | (with_reducible apply Blk.onThermal_bnd) | (with_reducible apply Blk.slowDown_bnd) | (with_reducible apply Blk.thermalShutdown_bnd) | (with_reducible apply Blk.sampleSensor_bnd) | (with_reducible apply Blk.coolDown_bnd) | (with_reducible apply Blk.sensorCount_bnd) | (with_reducible apply Blk.coolBoot_bnd) | (with_reducible refine bnd_foldl (fun c x hc => ?_) _ _ ?_) | with_reducible apply bnd_ite | extract_lets | split | (intros; dsimp only))

theorem execThrottleEntry_bnd (x0) (s t : State) (h₀ : QueuesFit (s.blk.at x0)) (h : execThrottleEntry x0 s = .next t) : QueuesFit t.blk := by
  unfold execThrottleEntry State.command at h
  cases h
  generalize s.blk.at x0 = b at h₀ ⊢
  dsimp only
  repeat (first | with_reducible assumption | (with_reducible apply Blk.throttle_bnd) | with_reducible apply bnd_ite | extract_lets | split | (intros; dsimp only))

theorem execThrottleStep_bnd (x0) (s t : State) (h₀ : QueuesFit (s.blk.at x0)) (h : execThrottleStep x0 s = .next t) : QueuesFit t.blk := by
  unfold execThrottleStep State.command at h
  cases h
  generalize s.blk.at x0 = b at h₀ ⊢
  dsimp only
  repeat (first | with_reducible assumption | (with_reducible apply Blk.onThermal_bnd) | (with_reducible apply Blk.leave_bnd) | (with_reducible apply Blk.healthCheck_bnd) | with_reducible apply bnd_ite | extract_lets | split | (intros; dsimp only))

theorem execDevloadWindow_bnd (x0 x1) (s t : State) (h₀ : QueuesFit (s.blk.at x0)) (h : execDevloadWindow x0 x1 s = .next t) : QueuesFit t.blk := by
  unfold execDevloadWindow State.command at h
  cases h
  generalize s.blk.at x0 = b at h₀ ⊢
  dsimp only
  repeat (first | with_reducible assumption | ((with_reducible apply head_bnd) <;> [(intro h; exact h); skip]) | (with_reducible apply Blk.tw_bnd) | with_reducible apply bnd_ite | extract_lets | split | (intros; dsimp only))

theorem execPerstAssert_bnd (x0 x1 x2) (s t : State) (h₀ : QueuesFit (s.blk.at x0)) (h : execPerstAssert x0 x1 x2 s = .next t) : QueuesFit t.blk := by
  unfold execPerstAssert State.command at h
  cases h
  generalize s.blk.at x0 = b at h₀ ⊢
  dsimp only
  repeat (first | with_reducible assumption | ((with_reducible apply head_bnd) <;> [(intro h; exact h); skip]) | ((with_reducible apply linkChange_bnd) <;> [(intro h; exact h); skip]) | (with_reducible apply Blk.dropRequests_bnd) | (with_reducible apply Blk.muteMailbox_bnd) | (with_reducible apply Blk.closeSession_bnd) | (with_reducible apply Blk.abortBulk_bnd) | (with_reducible apply Blk.resetOwner_bnd) | with_reducible apply bnd_ite | extract_lets | split | (intros; dsimp only))

theorem execPerstDeassert_bnd (x0 x1) (s t : State) (h₀ : QueuesFit (s.blk.at x0)) (h : execPerstDeassert x0 x1 s = .next t) : QueuesFit t.blk := by
  unfold execPerstDeassert State.command at h
  cases h
  generalize s.blk.at x0 = b at h₀ ⊢
  dsimp only
  repeat (first | with_reducible assumption | ((with_reducible apply head_bnd) <;> [(intro h; exact h); skip]) | ((with_reducible apply linkChange_bnd) <;> [(intro h; exact h); skip]) | (with_reducible apply Blk.onModes_bnd) | (with_reducible apply Blk.startBoot_bnd) | with_reducible apply bnd_ite | extract_lets | split | (intros; dsimp only))

theorem execFunctionLevelReset_bnd (x0 x1) (s t : State) (h₀ : QueuesFit (s.blk.at x0)) (h : execFunctionLevelReset x0 x1 s = .next t) : QueuesFit t.blk := by
  unfold execFunctionLevelReset State.command at h
  cases h
  generalize s.blk.at x0 = b at h₀ ⊢
  dsimp only
  repeat (first | with_reducible assumption | (with_reducible apply Blk.muteMailbox_bnd) | (with_reducible apply Blk.abortBulk_bnd) | with_reducible apply bnd_ite | extract_lets | split | (intros; dsimp only))

theorem execLinkDown_bnd (x0 x1) (s t : State) (h₀ : QueuesFit (s.blk.at x0)) (h : execLinkDown x0 x1 s = .next t) : QueuesFit t.blk := by
  unfold execLinkDown State.command at h
  cases h
  generalize s.blk.at x0 = b at h₀ ⊢
  dsimp only
  repeat (first | with_reducible assumption | (with_reducible apply Blk.linkFalls_bnd) | with_reducible apply bnd_ite | extract_lets | split | (intros; dsimp only))

theorem execLinkUp_bnd (x0 x1 x2 x3 x4) (s t : State) (h₀ : QueuesFit (s.blk.at x0)) (h : execLinkUp x0 x1 x2 x3 x4 s = .next t) : QueuesFit t.blk := by
  unfold execLinkUp State.command at h
  cases h
  generalize s.blk.at x0 = b at h₀ ⊢
  dsimp only
  repeat (first | with_reducible assumption | ((with_reducible apply linkChange_bnd) <;> [(intro h; exact h); skip]) | with_reducible apply bnd_ite | extract_lets | split | (intros; dsimp only))

theorem execL1Entry_bnd (x0 x1) (s t : State) (h₀ : QueuesFit (s.blk.at x0)) (h : execL1Entry x0 x1 s = .next t) : QueuesFit t.blk := by
  unfold execL1Entry State.command at h
  cases h
  generalize s.blk.at x0 = b at h₀ ⊢
  dsimp only
  repeat (first | with_reducible assumption | ((with_reducible apply linkChange_bnd) <;> [(intro h; exact h); skip]) | with_reducible apply bnd_ite | extract_lets | split | (intros; dsimp only))

theorem execL1Exit_bnd (x0 x1) (s t : State) (h₀ : QueuesFit (s.blk.at x0)) (h : execL1Exit x0 x1 s = .next t) : QueuesFit t.blk := by
  unfold execL1Exit State.command at h
  cases h
  generalize s.blk.at x0 = b at h₀ ⊢
  dsimp only
  repeat (first | with_reducible assumption | ((with_reducible apply linkChange_bnd) <;> [(intro h; exact h); skip]) | with_reducible apply bnd_ite | extract_lets | split | (intros; dsimp only))

theorem execGetVersion_bnd (x0 x1) (s t : State) (h₀ : QueuesFit (s.blk.at x0)) (h : execGetVersion x0 x1 s = .next t) : QueuesFit t.blk := by
  unfold execGetVersion State.command at h
  cases h
  generalize s.blk.at x0 = b at h₀ ⊢
  dsimp only
  repeat (first | with_reducible assumption | (with_reducible apply spdm_bnd <;> [(intro; rfl); skip]) | (with_reducible apply Blk.spdmReq_bnd <;> [(intros; try dsimp only); skip]) | (with_reducible apply Blk.spdmSay_bnd) | with_reducible apply bnd_ite | extract_lets | split | (intros; dsimp only))

theorem execGetCapabilities_bnd (x0 x1) (s t : State) (h₀ : QueuesFit (s.blk.at x0)) (h : execGetCapabilities x0 x1 s = .next t) : QueuesFit t.blk := by
  unfold execGetCapabilities State.command at h
  cases h
  generalize s.blk.at x0 = b at h₀ ⊢
  dsimp only
  repeat (first | with_reducible assumption | (with_reducible apply spdm_bnd <;> [(intro; rfl); skip]) | (with_reducible apply Blk.spdmReq_bnd <;> [(intros; try dsimp only); skip]) | (with_reducible apply Blk.spdmSay_bnd) | (with_reducible apply Blk.spdmError_bnd) | with_reducible apply bnd_ite | extract_lets | split | (intros; dsimp only))

theorem execNegotiateAlgorithms_bnd (x0 x1 x2) (s t : State) (h₀ : QueuesFit (s.blk.at x0)) (h : execNegotiateAlgorithms x0 x1 x2 s = .next t) : QueuesFit t.blk := by
  unfold execNegotiateAlgorithms State.command at h
  cases h
  generalize s.blk.at x0 = b at h₀ ⊢
  dsimp only
  repeat (first | with_reducible assumption | (with_reducible apply spdm_bnd <;> [(intro; rfl); skip]) | (with_reducible apply Blk.spdmReq_bnd <;> [(intros; try dsimp only); skip]) | (with_reducible apply Blk.spdmSay_bnd) | (with_reducible apply Blk.spdmError_bnd) | with_reducible apply bnd_ite | extract_lets | split | (intros; dsimp only))

theorem execKeyExchange_bnd (x0 x1 x2) (s t : State) (h₀ : QueuesFit (s.blk.at x0)) (h : execKeyExchange x0 x1 x2 s = .next t) : QueuesFit t.blk := by
  unfold execKeyExchange State.command at h
  cases h
  generalize s.blk.at x0 = b at h₀ ⊢
  dsimp only
  repeat (first | with_reducible assumption | (with_reducible apply spdm_bnd <;> [(intro; rfl); skip]) | (with_reducible apply Blk.draw_bnd) | (with_reducible apply Blk.spdmReq_bnd <;> [(intros; try dsimp only); skip]) | (with_reducible apply Blk.spdmSay_bnd) | (with_reducible apply Blk.spdmError_bnd) | (with_reducible apply Blk.afterAlgs_bnd <;> [(intros; try dsimp only); skip]) | with_reducible apply bnd_ite | extract_lets | split | (intros; dsimp only))

theorem execFinish_bnd (x0 x1 x2) (s t : State) (h₀ : QueuesFit (s.blk.at x0)) (h : execFinish x0 x1 x2 s = .next t) : QueuesFit t.blk := by
  unfold execFinish State.command at h
  cases h
  generalize s.blk.at x0 = b at h₀ ⊢
  dsimp only
  repeat (first | with_reducible assumption | (with_reducible apply spdm_bnd <;> [(intro; rfl); skip]) | (with_reducible apply Blk.spdmReq_bnd <;> [(intros; try dsimp only); skip]) | (with_reducible apply Blk.spdmSay_bnd) | (with_reducible apply Blk.spdmError_bnd) | with_reducible apply bnd_ite | extract_lets | split | (intros; dsimp only))

theorem execKeyUpdate_bnd (x0 x1) (s t : State) (h₀ : QueuesFit (s.blk.at x0)) (h : execKeyUpdate x0 x1 s = .next t) : QueuesFit t.blk := by
  unfold execKeyUpdate State.command at h
  cases h
  generalize s.blk.at x0 = b at h₀ ⊢
  dsimp only
  repeat (first | with_reducible assumption | (with_reducible apply spdm_bnd <;> [(intro; rfl); skip]) | (with_reducible apply Blk.spdmReq_bnd <;> [(intros; try dsimp only); skip]) | (with_reducible apply Blk.spdmSay_bnd) | (with_reducible apply Blk.inSession_bnd <;> [(intros; try dsimp only); skip]) | with_reducible apply bnd_ite | extract_lets | split | (intros; dsimp only))

theorem execEndSession_bnd (x0 x1) (s t : State) (h₀ : QueuesFit (s.blk.at x0)) (h : execEndSession x0 x1 s = .next t) : QueuesFit t.blk := by
  unfold execEndSession State.command at h
  cases h
  generalize s.blk.at x0 = b at h₀ ⊢
  dsimp only
  repeat (first | with_reducible assumption | (with_reducible apply spdm_bnd <;> [(intro; rfl); skip]) | (with_reducible apply Blk.spdmReq_bnd <;> [(intros; try dsimp only); skip]) | (with_reducible apply Blk.spdmSay_bnd) | (with_reducible apply Blk.inSession_bnd <;> [(intros; try dsimp only); skip]) | with_reducible apply bnd_ite | extract_lets | split | (intros; dsimp only))

theorem execIdeKeyManagement_bnd (x0 x1 x2 x3 x4) (s t : State) (h₀ : QueuesFit (s.blk.at x0)) (h : execIdeKeyManagement x0 x1 x2 x3 x4 s = .next t) : QueuesFit t.blk := by
  unfold execIdeKeyManagement State.command at h
  cases h
  generalize s.blk.at x0 = b at h₀ ⊢
  dsimp only
  repeat (first | with_reducible assumption | ((with_reducible apply head_bnd) <;> [(intro h; exact h); skip]) | (with_reducible apply Blk.emit_bnd) | (with_reducible apply Blk.spdmReq_bnd <;> [(intros; try dsimp only); skip]) | (with_reducible apply Blk.inSession_bnd <;> [(intros; try dsimp only); skip]) | with_reducible apply bnd_ite | extract_lets | split | (intros; dsimp only))

theorem execIdeFailure_bnd (x0 x1 x2) (s t : State) (h₀ : QueuesFit (s.blk.at x0)) (h : execIdeFailure x0 x1 x2 s = .next t) : QueuesFit t.blk := by
  unfold execIdeFailure State.command at h
  cases h
  generalize s.blk.at x0 = b at h₀ ⊢
  dsimp only
  repeat (first | with_reducible assumption | ((with_reducible apply head_bnd) <;> [(intro h; exact h); skip]) | (with_reducible apply Blk.report_bnd) | with_reducible apply bnd_ite | extract_lets | split | (intros; dsimp only))

theorem execChannelRetrainEnd_bnd (x0 x1 x2 x3) (s t : State) (h₀ : QueuesFit (s.blk.at x0)) (h : execChannelRetrainEnd x0 x1 x2 x3 s = .next t) : QueuesFit t.blk := by
  unfold execChannelRetrainEnd State.command at h
  cases h
  generalize s.blk.at x0 = b at h₀ ⊢
  dsimp only
  repeat (first | with_reducible assumption | (with_reducible apply Blk.onChan_bnd) | (with_reducible apply Blk.channelFail_bnd) | (with_reducible apply Blk.trainDie_bnd) | (with_reducible apply Blk.channelBack_bnd) | (with_reducible apply Blk.fullTraining_bnd) | (exact ⟨h₀.1, h₀.2, h₀.3, h₀.4, h₀.5⟩) | (with_reducible refine bnd_foldl (fun c x hc => ?_) _ _ ?_) | with_reducible apply bnd_ite | extract_lets | split | (intros; dsimp only))

theorem execReturnRampEnd_bnd (x0) (s t : State) (h₀ : QueuesFit (s.blk.at x0)) (h : execReturnRampEnd x0 s = .next t) : QueuesFit t.blk := by
  unfold execReturnRampEnd State.command at h
  cases h
  generalize s.blk.at x0 = b at h₀ ⊢
  dsimp only
  repeat (first | with_reducible assumption | (with_reducible apply Blk.onClocks_bnd) | (with_reducible apply Blk.faultPin_bnd) | (with_reducible apply Blk.leave_bnd) | (with_reducible apply Blk.wake_bnd) | (exact ⟨h₀.1, h₀.2, h₀.3, h₀.4, h₀.5⟩) | with_reducible apply bnd_ite | extract_lets | split | (intros; dsimp only))

theorem execRedistributionComplete_bnd (x0) (s t : State) (h₀ : QueuesFit (s.blk.at x0)) (h : execRedistributionComplete x0 s = .next t) : QueuesFit t.blk := by
  unfold execRedistributionComplete State.command at h
  cases h
  generalize s.blk.at x0 = b at h₀ ⊢
  dsimp only
  repeat (first | with_reducible assumption | (with_reducible apply Blk.onSafety_bnd) | (with_reducible apply Blk.degrade_bnd) | with_reducible apply bnd_ite | extract_lets | split | (intros; dsimp only))

theorem execAddCapacityOffer_bnd (x0) (s t : State) (h₀ : QueuesFit (s.blk.at x0)) (h : execAddCapacityOffer x0 s = .next t) : QueuesFit t.blk := by
  unfold execAddCapacityOffer State.command at h
  cases h
  generalize s.blk.at x0 = b at h₀ ⊢
  dsimp only
  repeat (first | with_reducible assumption | ((with_reducible apply head_bnd) <;> [(intro h; exact h); skip]) | (with_reducible apply Blk.onDev_bnd) | (with_reducible apply Blk.dcRecord_bnd) | (with_reducible refine bnd_foldl (fun c x hc => ?_) _ _ ?_) | with_reducible apply bnd_ite | extract_lets | split | (intros; dsimp only))

theorem execTestEnRise_bnd (x0) (s t : State) (h₀ : QueuesFit (s.blk.at x0)) (h : execTestEnRise x0 s = .next t) : QueuesFit t.blk := by
  unfold execTestEnRise State.command at h
  cases h
  generalize s.blk.at x0 = b at h₀ ⊢
  dsimp only
  repeat (first | with_reducible assumption | (with_reducible apply Blk.useFree_bnd) | (with_reducible apply Blk.detect_bnd) | with_reducible apply bnd_ite | extract_lets | split | (intros; dsimp only))

theorem execCanBusJoin_bnd (x0) (s t : State) (h₀ : QueuesFit (s.blk.at x0)) (h : execCanBusJoin x0 s = .next t) : QueuesFit t.blk := by
  unfold execCanBusJoin State.command at h
  cases h
  generalize s.blk.at x0 = b at h₀ ⊢
  dsimp only
  repeat (first | with_reducible assumption | ((with_reducible apply can_bnd) <;> [(intro h; exact h); skip]) | (with_reducible apply canPump_fit) | (exact ⟨h₀.1, h₀.2, h₀.3, h₀.4, h₀.5⟩) | with_reducible apply bnd_ite | extract_lets | split | (intros; dsimp only))

theorem execComponentRegisterWrite_bnd (x0 x1 x2) (s t : State) (h₀ : QueuesFit (s.blk.at x0)) (h : execComponentRegisterWrite x0 x1 x2 s = .next t) : QueuesFit t.blk := by
  unfold execComponentRegisterWrite State.command at h
  cases h
  generalize s.blk.at x0 = b at h₀ ⊢
  dsimp only
  repeat (first | with_reducible assumption | ((with_reducible apply head_bnd) <;> [(intro h; exact h); skip]) | with_reducible apply bnd_ite | extract_lets | split | (intros; dsimp only))

theorem execConfigurationRequest_bnd (x0 x1 x2) (s t : State) (h₀ : QueuesFit (s.blk.at x0)) (h : execConfigurationRequest x0 x1 x2 s = .next t) : QueuesFit t.blk := by
  unfold execConfigurationRequest State.command at h
  cases h
  generalize s.blk.at x0 = b at h₀ ⊢
  dsimp only
  repeat (first | with_reducible assumption | ((with_reducible apply head_bnd) <;> [(intro h; exact h); skip]) | (with_reducible apply Blk.emit_bnd) | with_reducible apply bnd_ite | extract_lets | split | (intros; dsimp only))

end Sys2Proof.Machine
end

