-- ==== Sys2Proof/Laws/PerInstr.lean ====
section
/-! SUPPORT. A family over all commands: the parts that a command's frame names leave out the time and the level of NVWP_N, which its stamp alone gives, and name no part twice. -/

namespace Sys2Proof.Laws.Touches

set_option Elab.async false

open Sys2Proof Sys2Proof.Safety

/-- A command's parts leave out the time and the level of NVWP_N, and none stands twice. -/
def Statement (i : Instr) : Prop := Part.now ∉ touches i ∧ Part.nvwp ∉ touches i ∧ (touches i).Nodup

/-- The statement from its decision. -/
theorem kept {i : Instr} (h : decide (Part.now ∉ touches i ∧ Part.nvwp ∉ touches i ∧ (touches i).Nodup) = true) : Statement i := by
  unfold Statement
  exact of_decide_eq_true h

theorem memRd (x0 x1 x2 x3) : Statement (.memRd x0 x1 x2 x3) := kept rfl

theorem memRdData (x0 x1 x2 x3) : Statement (.memRdData x0 x1 x2 x3) := kept rfl

theorem memSpecRd (x0 x1 x2 x3) : Statement (.memSpecRd x0 x1 x2 x3) := kept rfl

theorem memWr (x0 x1 x2 x3 x4 x5) : Statement (.memWr x0 x1 x2 x3 x4 x5) := kept rfl

theorem memWrPtl (x0 x1 x2 x3 x4 x5 x6) : Statement (.memWrPtl x0 x1 x2 x3 x4 x5 x6) := kept rfl

theorem unsupportedRequest (x0 x1 x2 x3 x4) : Statement (.unsupportedRequest x0 x1 x2 x3 x4) := kept rfl

theorem acceptance (x0 x1 x2 x3) : Statement (.acceptance x0 x1 x2 x3) := kept rfl

theorem readIssue (x0 x1 x2 x3) : Statement (.readIssue x0 x1 x2 x3) := kept rfl

theorem programResume (x0 x1 x2 x3) : Statement (.programResume x0 x1 x2 x3) := kept rfl

theorem readTransfer (x0 x1 x2 x3 x4) : Statement (.readTransfer x0 x1 x2 x3 x4) := kept rfl

theorem reconstructionComplete (x0 x1 x2 x3) : Statement (.reconstructionComplete x0 x1 x2 x3) := kept rfl

theorem fillReturn (x0 x1) : Statement (.fillReturn x0 x1) := kept rfl

theorem deadlineExpiry (x0 x1) : Statement (.deadlineExpiry x0 x1) := kept rfl

theorem deepRecoveryTimeout (x0 x1) : Statement (.deepRecoveryTimeout x0 x1) := kept rfl

theorem deepRecoverySuccess (x0 x1 x2 x3) : Statement (.deepRecoverySuccess x0 x1 x2 x3) := kept rfl

theorem programGuard (x0 x1 x2 x3) : Statement (.programGuard x0 x1 x2 x3) := kept rfl

theorem resetGuard (x0 x1 x2 x3) : Statement (.resetGuard x0 x1 x2 x3) := kept rfl

theorem coldPathWrite (x0 x1 x2) : Statement (.coldPathWrite x0 x1 x2) := kept rfl

theorem hotAppend (x0 x1 x2 x3) : Statement (.hotAppend x0 x1 x2 x3) := kept rfl

theorem programComplete (x0 x1 x2 x3 x4) : Statement (.programComplete x0 x1 x2 x3 x4) := kept rfl

theorem tileResetStart (x0 x1 x2 x3) : Statement (.tileResetStart x0 x1 x2 x3) := kept rfl

theorem tileResetComplete (x0 x1 x2 x3 x4) : Statement (.tileResetComplete x0 x1 x2 x3 x4) := kept rfl

theorem writeThroughWrite (x0 x1 x2 x3) : Statement (.writeThroughWrite x0 x1 x2 x3) := kept rfl

theorem dirtyCleaning (x0) : Statement (.dirtyCleaning x0) := kept rfl

theorem rangeClean (x0 x1) : Statement (.rangeClean x0 x1) := kept rfl

theorem rangeInvalidate (x0 x1) : Statement (.rangeInvalidate x0 x1) := kept rfl

theorem rangeCleanAndInvalidate (x0 x1) : Statement (.rangeCleanAndInvalidate x0 x1) := kept rfl

theorem rangeOperationEnd (x0) : Statement (.rangeOperationEnd x0) := kept rfl

theorem lineCleanByAddress (x0 x1 x2) : Statement (.lineCleanByAddress x0 x1 x2) := kept rfl

theorem lineInvalidateByAddress (x0 x1 x2) : Statement (.lineInvalidateByAddress x0 x1 x2) := kept rfl

theorem lineCleanInvalidateByAddress (x0 x1 x2) : Statement (.lineCleanInvalidateByAddress x0 x1 x2) := kept rfl

theorem lineCleanBySetAndWay (x0 x1 x2 x3) : Statement (.lineCleanBySetAndWay x0 x1 x2 x3) := kept rfl

theorem lineInvalidateBySetAndWay (x0 x1 x2 x3) : Statement (.lineInvalidateBySetAndWay x0 x1 x2 x3) := kept rfl

theorem lineCleanInvalidateBySetAndWay (x0 x1 x2 x3) : Statement (.lineCleanInvalidateBySetAndWay x0 x1 x2 x3) := kept rfl

theorem hint (x0 x1 x2) : Statement (.hint x0 x1 x2) := kept rfl

theorem hintCancel (x0 x1 x2) : Statement (.hintCancel x0 x1 x2) := kept rfl

theorem prefetchRead (x0 x1) : Statement (.prefetchRead x0 x1) := kept rfl

theorem startBarrier (x0 x1) : Statement (.startBarrier x0 x1) := kept rfl

theorem barrierCompletion (x0) : Statement (.barrierCompletion x0) := kept rfl

theorem gpfPhase1 (x0 x1) : Statement (.gpfPhase1 x0 x1) := kept rfl

theorem gpfPhase2 (x0 x1) : Statement (.gpfPhase2 x0 x1) := kept rfl

theorem gpfPhase2Complete (x0 x1) : Statement (.gpfPhase2Complete x0 x1) := kept rfl

theorem identify (x0 x1) : Statement (.identify x0 x1) := kept rfl

theorem backgroundOperationStatus (x0 x1) : Statement (.backgroundOperationStatus x0 x1) := kept rfl

theorem getEventRecords (x0 x1 x2) : Statement (.getEventRecords x0 x1 x2) := kept rfl

theorem clearEventRecords (x0 x1 x2 x3 x4) : Statement (.clearEventRecords x0 x1 x2 x3 x4) := kept rfl

theorem getEventInterruptPolicy (x0 x1) : Statement (.getEventInterruptPolicy x0 x1) := kept rfl

theorem setEventInterruptPolicy (x0 x1 x2) : Statement (.setEventInterruptPolicy x0 x1 x2) := kept rfl

theorem getFwInfo (x0 x1) : Statement (.getFwInfo x0 x1) := kept rfl

theorem transferFw (x0 x1 x2 x3) : Statement (.transferFw x0 x1 x2 x3) := kept rfl

theorem activateFw (x0 x1 x2 x3) : Statement (.activateFw x0 x1 x2 x3) := kept rfl

theorem getTimestamp (x0 x1) : Statement (.getTimestamp x0 x1) := kept rfl

theorem setTimestamp (x0 x1 x2) : Statement (.setTimestamp x0 x1 x2) := kept rfl

theorem getSupportedLogs (x0 x1) : Statement (.getSupportedLogs x0 x1) := kept rfl

theorem getLog (x0 x1 x2) : Statement (.getLog x0 x1 x2) := kept rfl

theorem identifyMemoryDevice (x0 x1) : Statement (.identifyMemoryDevice x0 x1) := kept rfl

theorem getHealthInfo (x0 x1) : Statement (.getHealthInfo x0 x1) := kept rfl

theorem getAlertConfiguration (x0 x1) : Statement (.getAlertConfiguration x0 x1) := kept rfl

theorem setAlertConfiguration (x0 x1 x2) : Statement (.setAlertConfiguration x0 x1 x2) := kept rfl

theorem getShutdownState (x0 x1) : Statement (.getShutdownState x0 x1) := kept rfl

theorem setShutdownState (x0 x1 x2) : Statement (.setShutdownState x0 x1 x2) := kept rfl

theorem sanitize (x0 x1) : Statement (.sanitize x0 x1) := kept rfl

theorem secureErase (x0 x1) : Statement (.secureErase x0 x1) := kept rfl

theorem eraseComplete (x0) : Statement (.eraseComplete x0) := kept rfl

theorem getDynamicCapacityConfiguration (x0 x1) : Statement (.getDynamicCapacityConfiguration x0 x1) := kept rfl

theorem getDynamicCapacityExtentList (x0 x1) : Statement (.getDynamicCapacityExtentList x0 x1) := kept rfl

theorem addDynamicCapacityResponse (x0 x1 x2) : Statement (.addDynamicCapacityResponse x0 x1 x2) := kept rfl

theorem releaseDynamicCapacity (x0 x1 x2) : Statement (.releaseDynamicCapacity x0 x1 x2) := kept rfl

theorem getPoisonList (x0 x1 x2 x3) : Statement (.getPoisonList x0 x1 x2 x3) := kept rfl

theorem injectPoison (x0 x1 x2) : Statement (.injectPoison x0 x1 x2) := kept rfl

theorem clearPoison (x0 x1 x2 x3) : Statement (.clearPoison x0 x1 x2 x3) := kept rfl

theorem getScanMediaCapabilities (x0 x1 x2 x3) : Statement (.getScanMediaCapabilities x0 x1 x2 x3) := kept rfl

theorem scanMedia (x0 x1 x2 x3) : Statement (.scanMedia x0 x1 x2 x3) := kept rfl

theorem getScanMediaResults (x0 x1) : Statement (.getScanMediaResults x0 x1) := kept rfl

theorem read (x0 x1 x2 x3) : Statement (.read x0 x1 x2 x3) := kept rfl

theorem write (x0 x1 x2 x3 x4) : Statement (.write x0 x1 x2 x3 x4) := kept rfl

theorem stage (x0 x1 x2 x3 x4) : Statement (.stage x0 x1 x2 x3 x4) := kept rfl

theorem commit (x0 x1 x2 x3) : Statement (.commit x0 x1 x2 x3) := kept rfl

theorem abort (x0 x1) : Statement (.abort x0 x1) := kept rfl

theorem status (x0 x1) : Statement (.status x0 x1) := kept rfl

theorem commitCheckEnd (x0 x1) : Statement (.commitCheckEnd x0 x1) := kept rfl

theorem applyInstant (x0 x1 x2) : Statement (.applyInstant x0 x1 x2) := kept rfl

theorem applyFault (x0) : Statement (.applyFault x0) := kept rfl

theorem stagingTimeout (x0) : Statement (.stagingTimeout x0) := kept rfl

theorem parameterPersist (x0) : Statement (.parameterPersist x0) := kept rfl

theorem openRead (x0 x1 x2 x3 x4) : Statement (.openRead x0 x1 x2 x3 x4) := kept rfl

theorem openWrite (x0 x1 x2 x3 x4 x5) : Statement (.openWrite x0 x1 x2 x3 x4 x5) := kept rfl

theorem data (x0 x1 x2 x3 x4 x5) : Statement (.data x0 x1 x2 x3 x4 x5) := kept rfl

theorem close (x0 x1 x2 x3) : Statement (.close x0 x1 x2 x3) := kept rfl

theorem bulkAbort (x0 x1) : Statement (.bulkAbort x0 x1) := kept rfl

theorem bulkTransferTimeout (x0 x1) : Statement (.bulkTransferTimeout x0 x1) := kept rfl

theorem bulkOpenRead (x0 x1 x2 x3 x4) : Statement (.bulkOpenRead x0 x1 x2 x3 x4) := kept rfl

theorem bulkOpenWrite (x0 x1 x2 x3 x4 x5 x6 x7) : Statement (.bulkOpenWrite x0 x1 x2 x3 x4 x5 x6 x7) := kept rfl

theorem segment (x0 x1 x2 x3 x4 x5) : Statement (.segment x0 x1 x2 x3 x4 x5) := kept rfl

theorem segmentAcknowledge (x0 x1 x2) : Statement (.segmentAcknowledge x0 x1 x2) := kept rfl

theorem bulkClose (x0 x1 x2 x3 x4) : Statement (.bulkClose x0 x1 x2 x3 x4) := kept rfl

theorem canBulkAbort (x0 x1 x2 x3) : Statement (.canBulkAbort x0 x1 x2 x3) := kept rfl

theorem canFrameIgnored (x0) : Statement (.canFrameIgnored x0) := kept rfl

theorem canTransferTimeout (x0) : Statement (.canTransferTimeout x0) := kept rfl

theorem heartbeat (x0) : Statement (.heartbeat x0) := kept rfl

theorem busOffRecovery (x0) : Statement (.busOffRecovery x0) := kept rfl

theorem challengeRead (x0 x1) : Statement (.challengeRead x0 x1) := kept rfl

theorem response (x0 x1 x2) : Statement (.response x0 x1 x2) := kept rfl

theorem closeMaintenance (x0 x1) : Statement (.closeMaintenance x0 x1) := kept rfl

theorem maintenanceIdleTimeout (x0 x1) : Statement (.maintenanceIdleTimeout x0 x1) := kept rfl

theorem responseLockoutEnd (x0 x1) : Statement (.responseLockoutEnd x0 x1) := kept rfl

theorem maintenanceKey (x0 x1 x2) : Statement (.maintenanceKey x0 x1 x2) := kept rfl

theorem frameMacKey (x0 x1 x2) : Statement (.frameMacKey x0 x1 x2) := kept rfl

theorem stageDefaults (x0 x1) : Statement (.stageDefaults x0 x1) := kept rfl

theorem add (x0 x1) : Statement (.add x0 x1) := kept rfl

theorem releaseRequest (x0 x1) : Statement (.releaseRequest x0 x1) := kept rfl

theorem forcedRelease (x0 x1) : Statement (.forcedRelease x0 x1) := kept rfl

theorem addResponseTimeout (x0 x1) : Statement (.addResponseTimeout x0 x1) := kept rfl

theorem regionTeardown (x0 x1) : Statement (.regionTeardown x0 x1) := kept rfl

theorem histogramClear (x0 x1) : Statement (.histogramClear x0 x1) := kept rfl

theorem calibrationImport (x0 x1 x2) : Statement (.calibrationImport x0 x1 x2) := kept rfl

theorem keyEncryptionKey (x0 x1 x2) : Statement (.keyEncryptionKey x0 x1 x2) := kept rfl

theorem escrowExport (x0 x1) : Statement (.escrowExport x0 x1) := kept rfl

theorem escrowImport (x0 x1 x2) : Statement (.escrowImport x0 x1 x2) := kept rfl

theorem unlockRegion (x0 x1 x2) : Statement (.unlockRegion x0 x1 x2) := kept rfl

theorem resetRegionCount (x0 x1 x2) : Statement (.resetRegionCount x0 x1 x2) := kept rfl

theorem retireDie (x0 x1 x2) : Statement (.retireDie x0 x1 x2) := kept rfl

theorem retireChannel (x0 x1 x2) : Statement (.retireChannel x0 x1 x2) := kept rfl

theorem retrainRequest (x0 x1 x2) : Statement (.retrainRequest x0 x1 x2) := kept rfl

theorem powerDownToStandby (x0 x1) : Statement (.powerDownToStandby x0 x1) := kept rfl

theorem startHealthTest (x0 x1) : Statement (.startHealthTest x0 x1) := kept rfl

theorem clearCounters (x0 x1) : Statement (.clearCounters x0 x1) := kept rfl

theorem idataRead (x0 x1 x2) : Statement (.idataRead x0 x1 x2) := kept rfl

theorem idataWrite (x0 x1 x2 x3) : Statement (.idataWrite x0 x1 x2 x3) := kept rfl

theorem indirectAcknowledge (x0 x1) : Statement (.indirectAcknowledge x0 x1) := kept rfl

theorem indirectTimeout (x0 x1 x2) : Statement (.indirectTimeout x0 x1 x2) := kept rfl

theorem registerWrite (x0 x1 x2 x3 x4) : Statement (.registerWrite x0 x1 x2 x3 x4) := kept rfl

theorem gval (x0 x1 x2 x3) : Statement (.gval x0 x1 x2 x3) := kept rfl

theorem gcmp (x0 x1 x2 x3) : Statement (.gcmp x0 x1 x2 x3) := kept rfl

theorem keyZeroize (x0) : Statement (.keyZeroize x0) := kept rfl

theorem calibrationWriteEnableOpen (x0) : Statement (.calibrationWriteEnableOpen x0) := kept rfl

theorem calibrationWriteEnableClose (x0) : Statement (.calibrationWriteEnableClose x0) := kept rfl

theorem calibrationEnableExpiry (x0) : Statement (.calibrationEnableExpiry x0) := kept rfl

theorem feltFormat (x0) : Statement (.feltFormat x0) := kept rfl

theorem safeStopRelease (x0) : Statement (.safeStopRelease x0) := kept rfl

theorem forcedPowerCutInput (x0) : Statement (.forcedPowerCutInput x0) := kept rfl

theorem forcedPowerCutRail (x0) : Statement (.forcedPowerCutRail x0) := kept rfl

theorem forcedClockSwitchIrc (x0) : Statement (.forcedClockSwitchIrc x0) := kept rfl

theorem forcedClockSwitchRefclk (x0) : Statement (.forcedClockSwitchRefclk x0) := kept rfl

theorem voteCorrection (x0 x1 x2 x3) : Statement (.voteCorrection x0 x1 x2 x3) := kept rfl

theorem voteThreeWayDisagreement (x0 x1 x2 x3) : Statement (.voteThreeWayDisagreement x0 x1 x2 x3) := kept rfl

theorem parityMismatch (x0 x1 x2) : Statement (.parityMismatch x0 x1 x2) := kept rfl

theorem consume (x0 x1 x2) : Statement (.consume x0 x1 x2) := kept rfl

theorem drop (x0 x1) : Statement (.drop x0 x1) := kept rfl

theorem telemetryWindowAccess (x0 x1 x2 x3 x4) : Statement (.telemetryWindowAccess x0 x1 x2 x3 x4) := kept rfl

theorem telemetryDump (x0) : Statement (.telemetryDump x0) := kept rfl

theorem queueBankSwap (x0) : Statement (.queueBankSwap x0) := kept rfl

theorem linenReport (x0 x1 x2 x3 x4 x5 x6) : Statement (.linenReport x0 x1 x2 x3 x4 x5 x6) := kept rfl

theorem stormWindowClose (x0 x1 x2 x3) : Statement (.stormWindowClose x0 x1 x2 x3) := kept rfl

theorem tokenGain (x0) : Statement (.tokenGain x0) := kept rfl

theorem ringWrite (x0) : Statement (.ringWrite x0) := kept rfl

theorem feltMarginPass (x0 x1) : Statement (.feltMarginPass x0 x1) := kept rfl

theorem counterRecordWrite (x0) : Statement (.counterRecordWrite x0) := kept rfl

theorem operatingTimeTick (x0) : Statement (.operatingTimeTick x0) := kept rfl

theorem hotEpochEnd (x0) : Statement (.hotEpochEnd x0) := kept rfl

theorem demotionCommit (x0 x1) : Statement (.demotionCommit x0 x1) := kept rfl

theorem promotionWayTimeout (x0 x1) : Statement (.promotionWayTimeout x0 x1) := kept rfl

theorem journalRecordIssue (x0 x1) : Statement (.journalRecordIssue x0 x1) := kept rfl

theorem garbageCollection (x0 x1) : Statement (.garbageCollection x0 x1) := kept rfl

theorem wearIncrement (x0 x1) : Statement (.wearIncrement x0 x1) := kept rfl

theorem trackerFold (x0 x1) : Statement (.trackerFold x0 x1) := kept rfl

theorem rotationPassEnd (x0 x1) : Statement (.rotationPassEnd x0 x1) := kept rfl

theorem migrationStart (x0 x1) : Statement (.migrationStart x0 x1) := kept rfl

theorem migrationEnd (x0 x1) : Statement (.migrationEnd x0 x1) := kept rfl

theorem coldSwapCheck (x0) : Statement (.coldSwapCheck x0) := kept rfl

theorem refreshRegion (x0) : Statement (.refreshRegion x0) := kept rfl

theorem refreshBacklog (x0 x1) : Statement (.refreshBacklog x0 x1) := kept rfl

theorem checkpointStart (x0 x1) : Statement (.checkpointStart x0 x1) := kept rfl

theorem checkpointCommit (x0 x1) : Statement (.checkpointCommit x0 x1) := kept rfl

theorem resync (x0 x1) : Statement (.resync x0 x1) := kept rfl

theorem weakLineRewrite (x0) : Statement (.weakLineRewrite x0) := kept rfl

theorem terryStripeRead (x0 x1) : Statement (.terryStripeRead x0 x1) := kept rfl

theorem sramScrub (x0 x1 x2 x3 x4) : Statement (.sramScrub x0 x1 x2 x3 x4) := kept rfl

theorem scrubStarved (x0 x1) : Statement (.scrubStarved x0 x1) := kept rfl

theorem cellEvaluation (x0 x1 x2 x3 x4) : Statement (.cellEvaluation x0 x1 x2 x3 x4) := kept rfl

theorem cellStale (x0 x1 x2 x3 x4) : Statement (.cellStale x0 x1 x2 x3 x4) := kept rfl

theorem probeBatch (x0 x1 x2 x3 x4) : Statement (.probeBatch x0 x1 x2 x3 x4) := kept rfl

theorem weakRegionOffer (x0 x1) : Statement (.weakRegionOffer x0 x1) := kept rfl

theorem trendFit (x0 x1) : Statement (.trendFit x0 x1) := kept rfl

theorem marginEvaluation (x0) : Statement (.marginEvaluation x0) := kept rfl

theorem gauzeSnapshot (x0 x1) : Statement (.gauzeSnapshot x0 x1) := kept rfl

theorem tagWriteback (x0) : Statement (.tagWriteback x0) := kept rfl

theorem rekeyPass (x0 x1) : Statement (.rekeyPass x0 x1) := kept rfl

theorem alertService (x0 x1 x2) : Statement (.alertService x0 x1 x2) := kept rfl

theorem channelTraining (x0 x1) : Statement (.channelTraining x0 x1) := kept rfl

theorem channelRetrain (x0 x1) : Statement (.channelRetrain x0 x1) := kept rfl

theorem zqcShortPeriod (x0 x1) : Statement (.zqcShortPeriod x0 x1) := kept rfl

theorem writeDeskewCheck (x0 x1 x2 x3) : Statement (.writeDeskewCheck x0 x1 x2 x3) := kept rfl

theorem rd (x0 x1 x2 x3 x4 x5 x6 x7) : Statement (.rd x0 x1 x2 x3 x4 x5 x6 x7) := kept rfl

theorem mrd (x0 x1 x2 x3 x4 x5 x6 x7) : Statement (.mrd x0 x1 x2 x3 x4 x5 x6 x7) := kept rfl

theorem rrs (x0 x1 x2 x3) : Statement (.rrs x0 x1 x2 x3) := kept rfl

theorem pgm (x0 x1 x2 x3 x4 x5 x6) : Statement (.pgm x0 x1 x2 x3 x4 x5 x6) := kept rfl

theorem ovw (x0 x1 x2 x3 x4 x5 x6) : Statement (.ovw x0 x1 x2 x3 x4 x5 x6) := kept rfl

theorem trs (x0 x1 x2 x3 x4 x5) : Statement (.trs x0 x1 x2 x3 x4 x5) := kept rfl

theorem sus (x0 x1 x2 x3) : Statement (.sus x0 x1 x2 x3) := kept rfl

theorem rsm (x0 x1 x2 x3) : Statement (.rsm x0 x1 x2 x3) := kept rfl

theorem str (x0 x1 x2) : Statement (.str x0 x1 x2) := kept rfl

theorem alc (x0 x1 x2 x3) : Statement (.alc x0 x1 x2 x3) := kept rfl

theorem mrw (x0 x1 x2 x3 x4) : Statement (.mrw x0 x1 x2 x3 x4) := kept rfl

theorem mrr (x0 x1 x2 x3) : Statement (.mrr x0 x1 x2 x3) := kept rfl

theorem idr (x0 x1 x2) : Statement (.idr x0 x1 x2) := kept rfl

theorem zqc (x0 x1 x2 x3) : Statement (.zqc x0 x1 x2 x3) := kept rfl

theorem trn (x0 x1 x2 x3 x4) : Statement (.trn x0 x1 x2 x3 x4) := kept rfl

theorem tbw (x0 x1 x2 x3) : Statement (.tbw x0 x1 x2 x3) := kept rfl

theorem sby (x0 x1 x2) : Statement (.sby x0 x1 x2) := kept rfl

theorem wak (x0 x1 x2) : Statement (.wak x0 x1 x2) := kept rfl

theorem rst (x0 x1 x2) : Statement (.rst x0 x1 x2) := kept rfl

theorem rebuildPosition (x0) : Statement (.rebuildPosition x0) := kept rfl

theorem replacementCopyBack (x0 x1) : Statement (.replacementCopyBack x0 x1) := kept rfl

theorem engineHeartbeatMiss (x0 x1) : Statement (.engineHeartbeatMiss x0 x1) := kept rfl

theorem takeoverComplete (x0 x1) : Statement (.takeoverComplete x0 x1) := kept rfl

theorem lockstepMismatch (x0 x1) : Statement (.lockstepMismatch x0 x1) := kept rfl

theorem bankFailoverComplete (x0) : Statement (.bankFailoverComplete x0) := kept rfl

theorem headFailure (x0 x1) : Statement (.headFailure x0 x1) := kept rfl

theorem selfTest (x0 x1) : Statement (.selfTest x0 x1) := kept rfl

theorem safeStopEntry (x0) : Statement (.safeStopEntry x0) := kept rfl

theorem residentRailsGood (x0 x1 x2 x3) : Statement (.residentRailsGood x0 x1 x2 x3) := kept rfl

theorem residentRailFall (x0) : Statement (.residentRailFall x0) := kept rfl

theorem pfailNRise (x0) : Statement (.pfailNRise x0) := kept rfl

theorem inputPowerLoss (x0) : Statement (.inputPowerLoss x0) := kept rfl

theorem flushEnd (x0 x1) : Statement (.flushEnd x0 x1) := kept rfl

theorem slotStepStart (x0 x1) : Statement (.slotStepStart x0 x1) := kept rfl

theorem pseqPgChange (x0 x1 x2 x3) : Statement (.pseqPgChange x0 x1 x2 x3) := kept rfl

theorem slotQualified (x0 x1) : Statement (.slotQualified x0 x1) := kept rfl

theorem slotQualifyTimeout (x0 x1) : Statement (.slotQualifyTimeout x0 x1) := kept rfl

theorem slotFallen (x0 x1 x2) : Statement (.slotFallen x0 x1 x2) := kept rfl

theorem slotFallTimeout (x0 x1) : Statement (.slotFallTimeout x0 x1) := kept rfl

theorem railFault (x0 x1 x2 x3) : Statement (.railFault x0 x1 x2 x3) := kept rfl

theorem huSenseSample (x0 x1) : Statement (.huSenseSample x0 x1) := kept rfl

theorem holdupReport (x0) : Statement (.holdupReport x0) := kept rfl

theorem writeBackReturn (x0) : Statement (.writeBackReturn x0) := kept rfl

theorem healthTest (x0) : Statement (.healthTest x0) := kept rfl

theorem healthTestEnd (x0 x1 x2) : Statement (.healthTestEnd x0 x1 x2) := kept rfl

theorem boot (x0 x1 x2) : Statement (.boot x0 x1 x2) := kept rfl

theorem bindingCheck (x0 x1) : Statement (.bindingCheck x0 x1) := kept rfl

theorem mapRebuild (x0 x1) : Statement (.mapRebuild x0 x1) := kept rfl

theorem memoryActive (x0) : Statement (.memoryActive x0) := kept rfl

theorem holdupReportTimeout (x0) : Statement (.holdupReportTimeout x0) := kept rfl

theorem lightSleepEntry (x0) : Statement (.lightSleepEntry x0) := kept rfl

theorem deepSleepEntry (x0) : Statement (.deepSleepEntry x0) := kept rfl

theorem idleEnd (x0) : Statement (.idleEnd x0) := kept rfl

theorem refMonitorWindow (x0 x1) : Statement (.refMonitorWindow x0 x1) := kept rfl

theorem refclkLost (x0 x1) : Statement (.refclkLost x0 x1) := kept rfl

theorem refclkGood (x0) : Statement (.refclkGood x0) := kept rfl

theorem pllJudgeWindow (x0 x1 x2 x3) : Statement (.pllJudgeWindow x0 x1 x2 x3) := kept rfl

theorem ircTrimUpdate (x0) : Statement (.ircTrimUpdate x0) := kept rfl

theorem thermalSample (x0 x1) : Statement (.thermalSample x0 x1) := kept rfl

theorem throttleEntry (x0) : Statement (.throttleEntry x0) := kept rfl

theorem throttleStep (x0) : Statement (.throttleStep x0) := kept rfl

theorem devloadWindow (x0 x1) : Statement (.devloadWindow x0 x1) := kept rfl

theorem perstAssert (x0 x1 x2) : Statement (.perstAssert x0 x1 x2) := kept rfl

theorem perstDeassert (x0 x1) : Statement (.perstDeassert x0 x1) := kept rfl

theorem functionLevelReset (x0 x1) : Statement (.functionLevelReset x0 x1) := kept rfl

theorem linkDown (x0 x1) : Statement (.linkDown x0 x1) := kept rfl

theorem linkUp (x0 x1 x2 x3 x4) : Statement (.linkUp x0 x1 x2 x3 x4) := kept rfl

theorem l1Entry (x0 x1) : Statement (.l1Entry x0 x1) := kept rfl

theorem l1Exit (x0 x1) : Statement (.l1Exit x0 x1) := kept rfl

theorem getVersion (x0 x1) : Statement (.getVersion x0 x1) := kept rfl

theorem getCapabilities (x0 x1) : Statement (.getCapabilities x0 x1) := kept rfl

theorem negotiateAlgorithms (x0 x1 x2) : Statement (.negotiateAlgorithms x0 x1 x2) := kept rfl

theorem getDigests (x0 x1) : Statement (.getDigests x0 x1) := kept rfl

theorem getCertificate (x0 x1 x2) : Statement (.getCertificate x0 x1 x2) := kept rfl

theorem challenge (x0 x1 x2 x3) : Statement (.challenge x0 x1 x2 x3) := kept rfl

theorem getMeasurements (x0 x1 x2 x3) : Statement (.getMeasurements x0 x1 x2 x3) := kept rfl

theorem keyExchange (x0 x1 x2) : Statement (.keyExchange x0 x1 x2) := kept rfl

theorem finish (x0 x1 x2) : Statement (.finish x0 x1 x2) := kept rfl

theorem keyUpdate (x0 x1) : Statement (.keyUpdate x0 x1) := kept rfl

theorem spdmHeartbeat (x0 x1) : Statement (.spdmHeartbeat x0 x1) := kept rfl

theorem endSession (x0 x1) : Statement (.endSession x0 x1) := kept rfl

theorem ideKeyManagement (x0 x1 x2 x3 x4) : Statement (.ideKeyManagement x0 x1 x2 x3 x4) := kept rfl

theorem ideFailure (x0 x1 x2) : Statement (.ideFailure x0 x1 x2) := kept rfl

theorem cdatRead (x0 x1) : Statement (.cdatRead x0 x1) := kept rfl

theorem channelRetrainEnd (x0 x1 x2 x3) : Statement (.channelRetrainEnd x0 x1 x2 x3) := kept rfl

theorem returnRampEnd (x0) : Statement (.returnRampEnd x0) := kept rfl

theorem redistributionComplete (x0) : Statement (.redistributionComplete x0) := kept rfl

theorem addCapacityOffer (x0) : Statement (.addCapacityOffer x0) := kept rfl

theorem testEnRise (x0) : Statement (.testEnRise x0) := kept rfl

theorem tapInstruction (x0 x1) : Statement (.tapInstruction x0 x1) := kept rfl

theorem canBusJoin (x0) : Statement (.canBusJoin x0) := kept rfl

theorem cxlComplianceRequest (x0 x1) : Statement (.cxlComplianceRequest x0 x1) := kept rfl

theorem componentRegisterWrite (x0 x1 x2) : Statement (.componentRegisterWrite x0 x1 x2) := kept rfl

theorem configurationRequest (x0 x1 x2) : Statement (.configurationRequest x0 x1 x2) := kept rfl

end Sys2Proof.Laws.Touches
end

