-- ==== Sys2Proof/Laws/Requests.lean ====
section
/-! SUPPORT. How an admitted dictionary request passes its checks, and what the forms of the cache maintenance entries spell. -/

namespace Sys2Proof.Machine

open Sys2Proof.Safety

/-- An admitted write whose checks pass runs its action. -/
theorem writes_of {b c : Blk} {src : Src} {idx sub : Nat} {val : List Byte}
    (h : Requests b src { op := 2, idx := idx, sub := sub, w67 := val.length, data := val } c) (hc : c.checkWrite src false idx sub val = 0) :
    WriteRuns b src idx sub val c := fun _ => (h _).trans (if_pos hc)

/-- An admitted object whose checks pass is applied and answered. -/
theorem opensWrite_of {b c : Blk} {src : Src} {idx sub : Nat} {bytes : List Byte}
    (h : Requests b src { op := 8, idx := idx, sub := sub, data := leBytes 4 bytes.length } c) (hb : c.bulkOf src = none)
    (hc : c.checkOpenWrite src idx sub = 0) : OpensWrite b src idx sub bytes c := fun f => by
  unfold Blk.objectReq
  rw [h]
  simp [hb, hc]

/-- The address form's operation and line. -/
theorem addressForm_fields (line : BitVec 57) {op : Nat} (h : op < 4) :
    fld (leNat (addressForm line op)) 0 2 = op ∧ fld (leNat (addressForm line op)) 7 57 = line.toNat := by
  have hl := line.isLt
  have h1 : line.toNat <<< 7 ||| op < 256 ^ 8 := by
    have : line.toNat <<< 7 ||| op < 2 ^ 64 := Nat.or_lt_two_pow (by rw [Nat.shiftLeft_eq]; omega) (by omega)
    simpa using this
  rw [addressForm, leNat_leBytes, Nat.mod_eq_of_lt h1]
  refine ⟨fld_or_shift (by omega) (by omega), ?_⟩
  rw [fld_shift_or (by omega), Nat.mod_eq_of_lt hl]

/-- The set and way form's operation, set and way. -/
theorem setWayForm_fields (set : Fin 16384) (way : Fin 16) {op : Nat} (h : op < 4) :
    fld (leNat (setWayForm set way op)) 30 2 = op ∧ fld (leNat (setWayForm set way op)) 16 14 = set.val ∧ fld (leNat (setWayForm set way op)) 0 4 = way.val := by
  have hs := set.isLt
  have hw := way.isLt
  have low : set.val <<< 16 ||| way.val < 2 ^ 30 := Nat.or_lt_two_pow (by rw [Nat.shiftLeft_eq]; omega) (by omega)
  have h1 : op <<< 30 ||| set.val <<< 16 ||| way.val < 2 ^ 32 :=
    Nat.or_lt_two_pow (Nat.or_lt_two_pow (by rw [Nat.shiftLeft_eq]; omega) (by rw [Nat.shiftLeft_eq]; omega)) (by omega)
  have e : leNat (setWayForm set way op) = op <<< 30 ||| set.val <<< 16 ||| way.val := by
    rw [setWayForm, leNat_leBytes, Nat.mod_eq_of_lt]
    simpa using h1
  have up : op <<< 30 ||| set.val <<< 16 = ((op <<< 14 ||| set.val) <<< 16) := by
    rw [Nat.shiftLeft_or_distrib, ← Nat.shiftLeft_add]
  rw [e]
  refine ⟨?_, ?_, ?_⟩
  · rw [Nat.or_assoc, fld_shift_or low]
    exact Nat.mod_eq_of_lt h
  · rw [up, fld_shift_or (by omega), Nat.or_mod_two_pow, Nat.shiftLeft_eq, Nat.mul_mod_left, Nat.zero_or]
    exact Nat.mod_eq_of_lt hs
  · rw [up, fld_or_shift hw (by omega)]

end Sys2Proof.Machine
end

