-- ==== Sys2Proof/WellFormed.lean ====
section
/-! DEFINITION. Well-formed commands: operands that the wires and fields of the spec can carry (R24, R52, R91, R116, R183, R210, R280, R285, R304, R358, R365). What a well-formed command asks for may still be refused by the device, with the status or event that the spec gives it. -/

namespace Sys2Proof

/-- A number fits a field of `w` bits. -/
def fits (w n : Nat) : Bool := decide (n < 2 ^ w)

/-- The address of a 64-B half (R210): 8 B wide, as event records carry it (R365). -/
def halfAddr (n : Nat) : Bool := n % 64 == 0 && fits 64 n

/-- The size of a register access in bytes (R292). -/
def sized (n : Nat) : Bool := decide (1 ≤ n) && decide (n ≤ 64)

/-- Width of a voted field (R304). -/
def fieldWidth : Voted → Nat
  | .mode => 16
  | .damask _ => 1
  | .persistence => 2
  | .domains => 26
  | .feltPolicy => 4

/-- A copy of a voted field fits it. -/
def fieldFits (f : Voted) (v : Nat) : Bool := fits (fieldWidth f) v

/-- A well-formed command. -/
def wellFormed (i : Instr) : Bool :=
  match i with
  | .memRd _ _ hpa tag => halfAddr hpa && fits 16 tag
  | .memRdData _ _ hpa tag => halfAddr hpa && fits 16 tag
  | .memSpecRd _ _ hpa tag => halfAddr hpa && fits 16 tag
  | .memWr _ _ hpa tag _ _ => halfAddr hpa && fits 16 tag
  | .memWrPtl _ _ hpa tag _ _ _ => halfAddr hpa && fits 16 tag
  | .unsupportedRequest _ _ hpa tag _ => halfAddr hpa && fits 16 tag
  | .acceptance _ _ i _ => decide (i < 1024)
  | .readIssue _ _ _ _ => true
  | .programResume _ _ _ _ => true
  | .readTransfer _ _ _ _ _ => true
  | .reconstructionComplete _ _ _ _ => true
  | .fillReturn _ _ => true
  | .deadlineExpiry _ _ => true
  | .deepRecoveryTimeout _ _ => true
  | .deepRecoverySuccess _ _ _ _ => true
  | .programGuard _ _ _ _ => true
  | .resetGuard _ _ _ _ => true
  | .coldPathWrite _ _ e => decide (e.keystreams ≤ 3)
  | .hotAppend _ _ _ e => decide (e.keystreams ≤ 3)
  | .programComplete _ _ _ _ _ => true
  | .tileResetStart _ _ _ _ => true
  | .tileResetComplete _ _ _ _ _ => true
  | .writeThroughWrite _ _ _ e => decide (e.keystreams ≤ 3)
  | .dirtyCleaning _ => true
  | .rangeClean _ _ => true
  | .rangeInvalidate _ _ => true
  | .rangeCleanAndInvalidate _ _ => true
  | .rangeOperationEnd _ => true
  | .lineCleanByAddress _ _ _ => true
  | .lineInvalidateByAddress _ _ _ => true
  | .lineCleanInvalidateByAddress _ _ _ => true
  | .lineCleanBySetAndWay _ _ _ _ => true
  | .lineInvalidateBySetAndWay _ _ _ _ => true
  | .lineCleanInvalidateBySetAndWay _ _ _ _ => true
  | .hint _ _ _ => true
  | .hintCancel _ _ _ => true
  | .prefetchRead _ _ => true
  | .startBarrier _ _ => true
  | .barrierCompletion _ => true
  | .gpfPhase1 _ _ => true
  | .gpfPhase2 _ _ => true
  | .gpfPhase2Complete _ _ => true
  | .identify _ _ => true
  | .backgroundOperationStatus _ _ => true
  | .getEventRecords _ _ _ => true
  | .clearEventRecords _ _ _ _ handles => handles.all (fits 16)
  | .getEventInterruptPolicy _ _ => true
  | .setEventInterruptPolicy _ _ policy => policy.all fun p => p.2.all fun e => decide (e < 8)
  | .getFwInfo _ _ => true
  | .transferFw _ _ _ img => fits 32 img.length
  | .activateFw _ _ slot _ => fits 8 slot
  | .getTimestamp _ _ => true
  | .setTimestamp _ _ _ => true
  | .getSupportedLogs _ _ => true
  | .getLog _ _ _ => true
  | .identifyMemoryDevice _ _ => true
  | .getHealthInfo _ _ => true
  | .getAlertConfiguration _ _ => true
  | .setAlertConfiguration _ _ _ => true
  | .getShutdownState _ _ => true
  | .setShutdownState _ _ _ => true
  | .sanitize _ _ => true
  | .secureErase _ _ => true
  | .eraseComplete _ => true
  | .getDynamicCapacityConfiguration _ _ => true
  | .getDynamicCapacityExtentList _ _ => true
  | .addDynamicCapacityResponse _ _ extents => extents.all fun e => fits 64 e.1 && fits 64 e.2
  | .releaseDynamicCapacity _ _ extents => extents.all fun e => fits 64 e.1 && fits 64 e.2
  | .getPoisonList _ _ dpa len => halfAddr dpa && fits 64 len
  | .injectPoison _ _ dpa => halfAddr dpa
  | .clearPoison _ _ dpa _ => halfAddr dpa
  | .getScanMediaCapabilities _ _ dpa len => halfAddr dpa && fits 64 len
  | .scanMedia _ _ dpa len => halfAddr dpa && fits 64 len
  | .getScanMediaResults _ _ => true
  | .read _ _ _ _ => true
  | .write _ _ _ _ val => fits 32 val.length
  | .stage _ _ _ _ val => fits 32 val.length
  | .commit _ _ _ _ => true
  | .abort _ _ => true
  | .status _ _ => true
  | .commitCheckEnd _ _ => true
  | .applyInstant _ _ pauseNs => fits 32 pauseNs
  | .applyFault _ => true
  | .stagingTimeout _ => true
  | .parameterPersist _ => true
  | .openRead _ _ _ _ _ => true
  | .openWrite _ _ _ _ _ total => fits 32 total
  | .data _ _ _ off len chunk => fits 32 off && fits 32 len && fits 32 chunk.length
  | .close _ _ _ _ => true
  | .bulkAbort _ _ => true
  | .bulkTransferTimeout _ _ => true
  | .bulkOpenRead _ _ _ _ _ => true
  | .bulkOpenWrite _ _ _ _ _ _ _ total => fits 32 total
  | .segment _ _ _ _ num chunk => fits 16 num && decide (chunk.length ≤ 56)
  | .segmentAcknowledge _ _ num => fits 16 num
  | .bulkClose _ _ _ _ _ => true
  | .canBulkAbort _ _ _ _ => true
  | .canFrameIgnored _ => true
  | .canTransferTimeout _ => true
  | .heartbeat _ => true
  | .busOffRecovery _ => true
  | .challengeRead _ _ => true
  | .response _ _ _ => true
  | .closeMaintenance _ _ => true
  | .maintenanceIdleTimeout _ _ => true
  | .responseLockoutEnd _ _ => true
  | .maintenanceKey _ _ _ => true
  | .frameMacKey _ _ _ => true
  | .stageDefaults _ _ => true
  | .add _ _ => true
  | .releaseRequest _ _ => true
  | .forcedRelease _ _ => true
  | .addResponseTimeout _ _ => true
  | .regionTeardown _ _ => true
  | .histogramClear _ _ => true
  | .calibrationImport _ _ blob => fits 32 blob.length
  | .keyEncryptionKey _ _ _ => true
  | .escrowExport _ _ => true
  | .escrowImport _ _ blob => fits 32 blob.length
  | .unlockRegion _ _ _ => true
  | .resetRegionCount _ _ _ => true
  | .retireDie _ _ _ => true
  | .retireChannel _ _ _ => true
  | .retrainRequest _ _ _ => true
  | .powerDownToStandby _ _ => true
  | .startHealthTest _ _ => true
  | .clearCounters _ _ => true
  | .idataRead _ _ bytes => sized bytes
  | .idataWrite _ _ bytes _ => sized bytes
  | .indirectAcknowledge _ _ => true
  | .indirectTimeout _ _ _ => true
  | .registerWrite _ _ _ bytes _ => sized bytes
  | .gval _ _ bytes _ => sized bytes
  | .gcmp _ _ bytes _ => sized bytes
  | .keyZeroize _ => true
  | .calibrationWriteEnableOpen _ => true
  | .calibrationWriteEnableClose _ => true
  | .calibrationEnableExpiry _ => true
  | .feltFormat _ => true
  | .safeStopRelease _ => true
  | .forcedPowerCutInput _ => true
  | .forcedPowerCutRail _ => true
  | .forcedClockSwitchIrc _ => true
  | .forcedClockSwitchRefclk _ => true
  | .voteCorrection _ f _ v => fieldFits f v
  | .voteThreeWayDisagreement _ f v1 v2 => fieldFits f v1 && fieldFits f v2
  | .parityMismatch _ _ _ => true
  | .consume _ _ _ => true
  | .drop _ _ => true
  | .telemetryWindowAccess _ _ tag _ _ => fits 16 tag
  | .telemetryDump _ => true
  | .queueBankSwap _ => true
  | .linenReport _ _ _ _ dpa hpa data => dpa.all (fits 64) && hpa.all (fits 64) && decide (data.length ≤ 192)
  | .stormWindowClose _ _ _ _ => true
  | .tokenGain _ => true
  | .ringWrite _ => true
  | .feltMarginPass _ weakWords => fits 32 weakWords
  | .counterRecordWrite _ => true
  | .operatingTimeTick _ => true
  | .hotEpochEnd _ => true
  | .demotionCommit _ _ => true
  | .promotionWayTimeout _ _ => true
  | .journalRecordIssue _ _ => true
  | .garbageCollection _ _ => true
  | .wearIncrement _ slot => fits 22 slot
  | .trackerFold _ slot => fits 22 slot
  | .rotationPassEnd _ r => fits 22 r
  | .migrationStart _ r => fits 22 r
  | .migrationEnd _ r => fits 22 r
  | .coldSwapCheck _ => true
  | .refreshRegion _ => true
  | .refreshBacklog _ r => fits 22 r
  | .checkpointStart _ _ => true
  | .checkpointCommit _ _ => true
  | .resync _ r => fits 22 r
  | .weakLineRewrite _ => true
  | .terryStripeRead _ _ => true
  | .sramScrub _ _ word _ _ => fits 18 word
  | .scrubStarved _ _ => true
  | .cellEvaluation _ _ _ _ _ => true
  | .cellStale _ _ _ _ _ => true
  | .probeBatch _ _ _ _ _ => true
  | .weakRegionOffer _ area => fits 28 area
  | .trendFit _ _ => true
  | .marginEvaluation _ => true
  | .gauzeSnapshot _ _ => true
  | .tagWriteback _ => true
  | .rekeyPass _ r => fits 22 r
  | .alertService _ _ reports => decide (reports.length ≤ 8)
  | .channelTraining _ obs => obs.length == 32
  | .channelRetrain _ _ => true
  | .zqcShortPeriod _ _ => true
  | .writeDeskewCheck _ _ _ _ => true
  | .rd _ _ _ _ _ _ _ _ => true
  | .mrd _ _ _ _ _ _ _ _ => true
  | .rrs _ _ _ _ => true
  | .pgm _ _ _ _ _ _ _ => true
  | .ovw _ _ _ _ _ _ _ => true
  | .trs _ _ _ _ _ _ => true
  | .sus _ _ _ _ => true
  | .rsm _ _ _ _ => true
  | .str _ _ _ => true
  | .alc _ _ _ _ => true
  | .mrw _ _ _ _ _ => true
  | .mrr _ _ _ _ => true
  | .idr _ _ _ => true
  | .zqc _ _ _ _ => true
  | .trn _ _ _ _ _ => true
  | .tbw _ _ _ _ => true
  | .sby _ _ _ => true
  | .wak _ _ _ => true
  | .rst _ _ _ => true
  | .rebuildPosition _ => true
  | .replacementCopyBack _ pos => decide (pos < 18 * 4194304)
  | .engineHeartbeatMiss _ _ => true
  | .takeoverComplete _ _ => true
  | .lockstepMismatch _ _ => true
  | .bankFailoverComplete _ => true
  | .headFailure _ _ => true
  | .selfTest _ _ => true
  | .safeStopEntry _ => true
  | .residentRailsGood _ straps _ _ => straps.length == 4
  | .residentRailFall _ => true
  | .pfailNRise _ => true
  | .inputPowerLoss _ => true
  | .flushEnd _ errs => errs.all fun x => fits 36 x.1
  | .slotStepStart _ _ => true
  | .pseqPgChange _ _ _ mv => fits 16 mv
  | .slotQualified _ _ => true
  | .slotQualifyTimeout _ _ => true
  | .slotFallen _ _ mv => fits 16 mv
  | .slotFallTimeout _ _ => true
  | .railFault _ _ _ mv => fits 16 mv
  | .huSenseSample _ _ => true
  | .holdupReport _ => true
  | .writeBackReturn _ => true
  | .healthTest _ => true
  | .healthTestEnd _ stepUv totalUv => fits 32 stepUv && fits 32 totalUv
  | .boot _ _ _ => true
  | .bindingCheck _ obs => obs.dieIds.all fun d => decide (d.1 < 256)
  | .mapRebuild _ timeUs => fits 32 timeUs
  | .memoryActive _ => true
  | .holdupReportTimeout _ => true
  | .lightSleepEntry _ => true
  | .deepSleepEntry _ => true
  | .idleEnd _ => true
  | .refMonitorWindow _ edges => fits 32 edges
  | .refclkLost _ _ => true
  | .refclkGood _ => true
  | .pllJudgeWindow _ _ count cref => fits 32 count && fits 32 cref
  | .ircTrimUpdate _ => true
  | .thermalSample _ raw => raw.length == 16
  | .throttleEntry _ => true
  | .throttleStep _ => true
  | .devloadWindow _ _ => true
  | .perstAssert _ _ _ => true
  | .perstDeassert _ _ => true
  | .functionLevelReset _ _ => true
  | .linkDown _ _ => true
  | .linkUp _ _ _ _ _ => true
  | .l1Entry _ _ => true
  | .l1Exit _ _ => true
  | .getVersion _ _ => true
  | .getCapabilities _ _ => true
  | .negotiateAlgorithms _ _ _ => true
  | .getDigests _ _ => true
  | .getCertificate _ _ _ => true
  | .challenge _ _ _ _ => true
  | .getMeasurements _ _ _ _ => true
  | .keyExchange _ _ _ => true
  | .finish _ _ _ => true
  | .keyUpdate _ _ => true
  | .spdmHeartbeat _ _ => true
  | .endSession _ _ => true
  | .ideKeyManagement _ _ _ _ _ => true
  | .ideFailure _ _ _ => true
  | .cdatRead _ _ => true
  | .channelRetrainEnd _ _ _ timeUs => fits 32 timeUs
  | .returnRampEnd _ => true
  | .redistributionComplete _ => true
  | .addCapacityOffer _ => true
  | .testEnRise _ => true
  | .tapInstruction _ _ => true
  | .canBusJoin _ => true
  | .cxlComplianceRequest _ _ => true
  | .componentRegisterWrite _ _ _ => true
  | .configurationRequest _ _ _ => true

end Sys2Proof
end

