-- ==== Sys2Proof/Tests/Slice0.lean ====
section
/-! SUPPORT. The model's own tests: ill-formed commands refused, a few results worked out from the spec by hand, and for every statement a state and operands that meet its hypotheses. -/

namespace Sys2Proof.Tests

set_option linter.all false
set_option Elab.async false

open Sys2Proof Sys2Proof.Machine Sys2Proof.Safety

/-! ### Small states -/

def tRgn : Rgn := { id := 1, base := 0, length := 2097152, cls := .voile, tag := 0, idxA := some 0, idxB := none, stA := .added, everA := true }
def tEntry : RegionEntry := { slot := 0, cls := .voile }
def tDecoder : Decoder := { base := 0, size := 2 ^ 41, skip := 0, ways := 1, gran := 256, pos := 0, lock := false }
def tRun : Blk :=
  { modes := { cond := 16, rails := true, pfailHigh := true, step := 11 }
    dev := { rgns := [tRgn], nextRgn := 2 }
    hA := { link := 2, perst := false, memActive := true, decoders := [(0, tDecoder)] }
    twill := { regions := [(0, tEntry)] }
    safety := { subst := ((List.range 17).map fun m => (m, 8 * m)) ++ (List.range 17).map fun m => (54 + m, 8 * m) } }
def tReq : Req := { kind := .rd, tag := 5, hpa := 64, dpa := 64, order := .plain }
def tMem : Mem := { cls := .voile, slot := 0, stripe := 0, m := 0 }
def tTask : ReadTask := { why := .job 0, loc := 802 * 2 ^ 23 + 5, mem := tMem, queuedAt := 0 }
def tAccR : Acc := { rid := 7, h := .A, req := tReq, accAt := 0, stage := .recon }
def tDeep : Deep := { li := 0, start := 0, rids := [7], num := 7 }
def tPlace : Place := tRun.homePlace 0 0 tEntry
def tDeepS : Deep := { tDeep with soft := [tPlace.loc] }
def tXfer : Xfer := { strobe := true, crcOk := true, st := BitVec.ofNat 64 (2 * 65536), sg := 0 }
def tRecon : Blk := tRun.onPath fun x => { x with acc := [tAccR] }
def tDeepRun : Blk := ((tRun.onPath fun x => { x with deeps := [tDeepS] }).onMedia fun x => { x with lines := [(tPlace.loc, { data := 0, md := homeMd 0 })] }).onDamask fun x => { x with
  tagDirty := [(0, { tags := [tRun.tagOf (tRun.nonceAt 0 tPlace) 0 0] })] }
def tDeepListed : Blk := tDeepRun.onPath fun x => { x with deeps := [{ tDeepS with listed0 := true }] }
theorem deepRun_place : tDeepRun.lookup 0 = some tPlace := rfl
theorem deepListed_place : tDeepListed.lookup 0 = some tPlace := rfl
theorem deepRun_opens : tDeepRun.openLine 0 tPlace 0 = some (tRun.crypt (dieOfLoc tPlace.loc / 8) (tRun.nonceAt 0 tPlace) 0 0) := if_pos rfl
theorem deepListed_opens : tDeepListed.openLine 0 tPlace 0 = some (tRun.crypt (dieOfLoc tPlace.loc / 8) (tRun.nonceAt 0 tPlace) 0 0) := if_pos rfl
theorem deepRun_line : tDeepRun.media.lines.find tPlace.loc = some { data := 0, md := homeMd 0 } := by
  show NMap.find [(tPlace.loc, _)] tPlace.loc = _
  simp [NMap.find]
theorem deepRun_recovered : tDeepRun.recovered tDeepS .own = some 0 := by
  have hs : tDeepRun.stored tPlace.loc = 0 := by
    show ((tDeepRun.media.lines.find tPlace.loc).map MLine.data).getD 0 = 0
    rw [deepRun_line]; rfl
  have hm : tDeepRun.memLost tPlace.mem = false := rfl
  show Option.filter (fun c => (tDeepRun.openLine 0 tPlace c).isSome) (if ([tPlace.loc].contains tPlace.loc && !tDeepRun.memLost tPlace.mem && (tDeepRun.media.lines.find tPlace.loc).map MLine.md == some (placeMd 0 tPlace)) then some (tDeepRun.stored tPlace.loc) else none) = some 0
  rw [hs, hm, deepRun_line, show ([tPlace.loc].contains tPlace.loc) = true by simp]
  simp only [Option.filter]
  show (if (tDeepRun.openLine 0 tPlace 0).isSome = true then some (0 : Line) else none) = some 0
  rw [deepRun_opens]
  rfl
theorem deepListed_recovered : tDeepListed.recovered { tDeepS with listed0 := true } .own = some 0 := deepRun_recovered
def tDeepL : Deep := { tDeepS with listed0 := true }
theorem deepRun_found : (tDeepRun.path.deeps.find? fun d => d.num == 7) = some tDeepS := rfl
theorem deepListed_found : (tDeepListed.path.deeps.find? fun d => d.num == 7) = some tDeepL := rfl
def tBuf : HBuf := { li := 0, data := 0 }
def tLane : Lane := { cls := .voile, slot := 3, row := 0, base := 64 }
def tBuffered : Blk := tRun.onVelvet fun x => { x with bufs := [(5, tBuf)] }
def tBufferedHot : Blk := (tRun.onVelvet fun x => { x with bufs := [(5, ({ tBuf with hotPath := true } : HBuf))] }).onTwill fun x => { x with lanes := [(9, tLane)] }
def tThrough : Blk := ((tRun.onVelvet fun x => { x with ways := [(0, { tag := 0, wt := true, dirty := true })] }).onTwill fun x => { x with lanes := [(9, tLane)] }).onPath fun x =>
  { x with acc := [{ tAccR with stage := .program, req := { tReq with kind := .wr } }] }
def tThroughCold : Blk := tThrough.onTwill fun x => { x with lanes := [] }
def tMgr : Blk := tRun.onSession 1 fun x => { x with maint := true }
def tRange : Blk := tMgr.odSet 0x6010 0x02 256
def tDirty : Blk := tMgr.onVelvet fun x => { x with ways := [(0, { tag := 0, dirty := true })] }
def tHinted : Blk := tRun.onHead .A fun x => { x with hints := [(3, 1)] }
def tImage : FwImage := { version := [], secVer := 0, length := 0, sigOk := true }
def tStaged : Blk := tMgr.onMuslin fun m => { m with state := 1, owner := 1 }
def tChal : Blk := tRun.at { t := 0, nvwp := true }
def tProv : Blk := ((tMgr.at { t := 0, nvwp := true }).onDamask fun d => { d with state := 2, kek := some 0, mkey := some 0 })
def tBulk : Bulk := { write := true, od := odKey 0x5080 1, maint := true, total := 64, bytes := [], last := 0 }
def tCan : Blk := ((tProv.onSession 3 fun x => { x with maint := true }).onCan fun x => { x with joined := true, access := 2 }).odSet 0x1230 5 0
def tCanBulk : Blk := tCan.onCan fun x => { x with bulk := some { tBulk with trans := 4, next := 1 } }
def tCanOpen : Blk := tCan.onCan fun x => { x with busy := some 4, lastReq := some ((tCan.canBytes 4 true 0 0 { op := 7, idx := 0x5080, sub := 1 }).map BitVec.toNat) }
def tCanOpenW : Blk := tCan.onCan fun x => { x with busy := some 4, lastReq := some ((tCan.canBytes 4 true 0 0 { op := 8, idx := 0x5080, sub := 1, data := leBytes 4 16596 }).map BitVec.toNat) }
def tFree : Rgn := { tRgn with stA := .free }
def tAdd : Blk := (((tMgr.odSetFor 1 0x4800 1 1).odSetFor 1 0x4800 4 (2 ^ 21)).odSetFor 1 0x4800 2 1).onMedia fun m => { m with perChan := 1 }
def tBig : Blk := tRun.onMedia fun m => { m with perChan := 1 }
def tMig : Blk := tBig.onTwill fun t => { t with migDue := [0], freePos := 8000000 }
theorem pickOf_some {l : List Nat} {i : Nat} (h : l ≠ []) : (pickOf l i).isSome = true := by
  have h1 : l.length ≠ 0 := fun e => h (List.length_eq_zero_iff.1 e)
  rw [pickOf, if_neg h1, List.getElem?_eq_getElem (Nat.mod_lt _ (Nat.pos_of_ne_zero h1))]
  rfl
/-- The bound that the fold reaches is the wear of one of the slots. -/
theorem best_reached (most : Bool) (l : List (Nat × Nat)) (w : Nat) :
    l.foldl (fun w y => if most then max w y.2 else min w y.2) w = w ∨ ∃ y ∈ l, y.2 = l.foldl (fun w y => if most then max w y.2 else min w y.2) w := by
  induction l generalizing w with
  | nil => exact Or.inl rfl
  | cons y l ih =>
    rcases ih (if most then max w y.2 else min w y.2) with h | ⟨z, hz, h⟩
    · cases most
      · rcases Nat.le_total w y.2 with hl | hl
        · left; simpa [hl] using h
        · right; exact ⟨y, List.mem_cons_self, by simpa [hl] using h.symm⟩
      · rcases Nat.le_total w y.2 with hl | hl
        · right; exact ⟨y, List.mem_cons_self, by simpa [hl] using h.symm⟩
        · left; simpa [hl] using h
    · exact Or.inr ⟨z, List.mem_cons_of_mem _ hz, h⟩
theorem extreme_some {most : Bool} {l : List (Nat × Nat)} (h : l ≠ []) : extreme most l ≠ [] := by
  cases l with
  | nil => exact absurd rfl h
  | cons x l =>
    rcases best_reached most l x.2 with e | ⟨y, hy, e⟩
    · exact List.ne_nil_of_mem (List.mem_filter.2 ⟨List.mem_cons_self, by simp [e]⟩)
    · exact List.ne_nil_of_mem (List.mem_filter.2 ⟨List.mem_cons_of_mem _ hy, by simp [e]⟩)
/-- With a free slot of the width there is a least-worn one, and no group changes its width. -/
theorem leastFree_some {b : Blk} {c : Cls} (n : Nat) (h1 : n < slotsV b.dieCount) (h2 : (b.isSlot n && b.slotCls n == c && b.isFree n) = true) :
    (b.widen c).leastFree c = some (((b.widen c).leastFree c).getD (0, 0)) := by
  have hm : (n, b.slotWear n) ∈ b.freeSlots c := List.mem_map.2 ⟨n, List.mem_filter.2 ⟨List.mem_range.2 h1, h2⟩, rfl⟩
  have hw : b.widen c = b := by
    rw [Blk.widen, if_neg]
    cases hf : b.freeSlots c with
    | nil => rw [hf] at hm; cases hm
    | cons => simp
  rw [hw]
  have := pickOf_some (i := b.freeNum) (l := (extreme false (b.freeSlots c)).map Prod.fst) (by
    intro e
    exact extreme_some (List.ne_nil_of_mem hm) (List.map_eq_nil_iff.1 e))
  obtain ⟨y, hy⟩ := Option.isSome_iff_exists.1 this
  simp [Blk.leastFree, hy]
theorem mig_free : (tMig.widen .voile).leastFree .voile = some (((tMig.widen .voile).leastFree .voile).getD (0, 0)) :=
  leastFree_some 400000 (by decide +kernel) (by decide +kernel)
def tAddC : Blk := tAdd.touch (.mb .A true)
def tAddG : Rgn := tAddC.addWants 1
theorem takeUnit_some {b : Blk} {c : Cls} {r : Nat} {x : Nat × Nat} (h : (b.widen c).leastFree c = some x) : (Blk.takeUnit c (some b) r).isNone = false := by
  rw [Blk.takeUnit, Option.bind_some, Blk.takeRegionSlot, h]
  rfl
theorem add_units : ({ tAddG with base := (tAddC.lowestRange tAddG.length).getD 0 } : Rgn).units = [1] := by decide +kernel
theorem add_cls : tAddG.cls = .voile := by decide +kernel
theorem add_taken : (tAddC.takeUnits tAddG).isNone = false := by
  have hf := leastFree_some (b := tAddC) (c := .voile) 400000 (by decide +kernel) (by decide +kernel)
  have hu : tAddC.takeUnits tAddG = [1].foldl (Blk.takeUnit .voile) (some tAddC) := by
    rw [← add_units, ← add_cls]; rfl
  rw [hu, List.foldl_cons, List.foldl_nil]
  exact takeUnit_some hf
theorem add_ok : tAddC.addCheck tAddG = 0 := by
  unfold Blk.addCheck
  rw [add_taken]
  decide +kernel
def tNamed : Blk := tMgr.odSetFor 1 0x4800 1 1
def tWindow : Window := { code := 0x2002, cls := 1, unit := 0, opened := 0, first := none, sev := 0, count := 0, second := 0 }
def tCkpt : Ckpt := { seq := 0, full := true, gen := 0, inc := 0, base := 0, jseq := 0, opTime := 0, start := 0 }
def tRow : TileRow := { invalid := 1024, closed := true, gc := true }
def tSlot : SlotSt := { use := .free }
def tPass : Blk := tRun.onTwill fun t => { t with regions := [(0, { tEntry with rotp := true })], rot := [(0, { cursor := -1, park := 1 })], jobs := [(4, { work := .stripe 0 .unpark 1023, phase := .writing })] }
def tTrain : Blk := ((tRun.onHead .A fun x => { x with link := 1 }).onClocks fun x => { x with ref := 1 }).onCanvas fun c => { c with slots := [(3, { state := 2 }), (4, { state := 2 })] }
def tTrim : Blk := (tRun.onGauze fun g => { g with calPresent := true, ircTrim := some [0, 0, 0, 0, 0, 0x5249] }).onThermal fun x => { x with sensors := [(0, { temp := some 0 })] }
def tReg : Blk := tMgr.onCtl .A fun c => { c with iaddr := 0 }
def tGated : Blk := (tMgr.onEngine 0 fun x => { x with state := 2 }).onCtl .A fun c => { c with iaddr := 0x10000000 }
def tVoted : Blk := tRun.onModes fun m => { m with voted := [4, 4, 4] }
def tDie : Blk := tRun.onDie 24 fun x => { x with state := 1 }
def tDieRead : Blk := tDie.onMedia fun m => { m with dparts := [(770, { until_ := 0, out := some (5, 0, 1, 0, 0) })] }
def tDieProg : Blk := tDie.onPart 770 fun p => { p with op := .program 5 { data := 0, md := 0 } (.record tMem) false false 0 }
def tDieMargin : Blk := tDie.onPart 770 fun p => { p with op := .marginRead { line := 5, o2 := 0, o1 := 0, o0 := 0, probe := none } }
def tDieReset : Blk := tDie.onPart 770 fun p => { p with op := .reset 5 0 none }
theorem mrd_noProbe : tDie.probeOf (partOf (3 : Fin 32) (0 : Fin 8) (2 : Fin 32)) (5 : BitVec 23).toNat 0 0 0 = none := by decide +kernel
def tDieSusp : Blk := tDieProg.onPart 770 fun p => { p with suspended := true }
def tCell : Blk := (({ (tRun.onDie 8 fun x => { x with state := 1 }) with opTime := 100000000 }).onTwill fun t => { t with regions := [(0, { tEntry with age := 4 })] }).onGauze fun g => { g with cells := [(cellKey 8 1 0 0, {})] }
def tFitted : Blk := (tRun.onDie 3 fun x => { x with state := 1 }).onGauze fun g => { g with cells := [(cellKey 3 0 0 0, { evals := 1, state := 1, cbar := 0 }), (cellKey 3 1 0 0, { evals := 1, state := 1, cbar := 4000 }), (cellKey 3 4 0 0, { evals := 1, state := 1, cbar := 16000 })] }
def tLap : Blk := tRun
def tRebuild : Blk := (((tRun.onSafety fun s => { s with rebuild := [5 * 18], subst := (List.range 17).map fun m => (90 + m, 8 * m) }).onTwill fun t => { t with freePos := 1 }).onMedia fun m => { m with perChan := 1 }).onDie 160 fun x => { x with state := 1 }
def tCopyBack : Blk := (tRun.onSafety fun s => { s with subst := [(90, 8)] }).onMedia fun m => { m with perChan := 1, dies := (List.range 32).map fun k => (8 * k, { state := 1, replacement := true }) }
theorem gf32_lt : ∀ (n x y : Nat), x < 32 → gf32Mul n x y < 32
  | 0, _, _, _ => Nat.zero_lt_succ 31
  | n + 1, x, y, h => by
    have hs : ∀ x : Fin 32, (if x.val.testBit 4 then (2 * x.val) ^^^ 0x25 else 2 * x.val) < 32 := by decide
    exact Nat.xor_lt_two_pow (n := 5) (by split <;> omega) (gf32_lt n _ _ (hs ⟨x, h⟩))
theorem run_lt (pick : Nat → Nat) (n : Nat) : ∀ x ∈ channelRun pick n, x < 32 := by
  induction n with
  | zero => intro x h; cases h
  | succ n ih =>
    intro x h
    rcases List.mem_cons.1 h with h | h
    · subst h
      rw [List.getD_eq_getElem?_getD]
      rcases hq : (List.filter _ (List.range 32))[_]? with _ | y
      · decide
      · exact List.mem_range.1 (List.mem_filter.1 (List.mem_of_getElem? hq)).1
    · exact ih x h
theorem channel_lt (n g j : Nat) : groupChannel n g j < 32 := by
  unfold groupChannel
  split
  · unfold ownChannel
    rw [List.getD_eq_getElem?_getD]
    rcases hq : ((channelRun (Config.pickChannel g) 306).reverse)[j]? with _ | y
    · decide
    · exact run_lt _ _ _ (List.mem_reverse.1 (List.mem_of_getElem? hq))
  · exact Nat.xor_lt_two_pow (n := 5) (gf32_lt _ _ _ (by omega)) (Nat.mod_lt _ (by decide))
theorem homeDie_channel (b : Blk) (key : Nat) (h1 : (b.safety.subst.del key).find (key / 18 * 18 + key % 18) = none) (h2 : b.media.perChan = 1) :
    ∃ k : Fin 32, b.homeDie key = 8 * k.val := by
  refine ⟨⟨_, channel_lt b.patternDies (key / 18 / 18) (widthOf (b.slotCls (key / 18)) * (key / 18 % 18) + key % 18)⟩, ?_⟩
  unfold Blk.homeDie Blk.positionDie Blk.memberDie
  split
  · rename_i h3
    exact absurd (h3.symm.trans h1) (by simp)
  · rename_i h3
    clear h3
    have h4 : (b.onSafety fun s => { s with subst := s.subst.del key }).media.perChan = 1 := h2
    dsimp only
    rw [if_neg (by rw [h4]; decide), h4, Nat.mod_one, Nat.add_zero]
    rfl
theorem copyBack_home : ∃ k : Fin 32, tCopyBack.homeDie (5 * 18) = 8 * k.val :=
  homeDie_channel tCopyBack (5 * 18) (by decide +kernel) rfl
theorem copyBack_all : ∀ k : Fin 32, (tCopyBack.die (8 * k.val)).replacement = true ∧ (tCopyBack.die (8 * k.val)).state = 1 ∧ tCopyBack.dieFailed (8 * k.val) = false := by decide +kernel
theorem copyBack_die : (tCopyBack.die (tCopyBack.homeDie (5 * 18))).replacement = true ∧ (tCopyBack.die (tCopyBack.homeDie (5 * 18))).state = 1 ∧ tCopyBack.dieFailed (tCopyBack.homeDie (5 * 18)) = false := by
  obtain ⟨k, h⟩ := copyBack_home
  rw [h]
  exact copyBack_all k
def tIdle : Blk := tRun.onHead .A fun x => { x with link := 3 }
def tFail : Blk := tRun.onSafety fun s => { s with failover := some (3, 64) }
def tFailWait : Blk := tRun.onSafety fun s => { s with failover := some (3, 64), failoverWait := [7] }
def tTestDue : Blk := (tRun.at { t := 10000000000000000, nvwp := true }).onModes fun m => { m with reported := true }
def tOff : Blk := tRun.onModes fun m => { m with cond := 2 }
def tBoot : Blk := ((tRun.onFelt fun f => { f with fw := { slotA := some tImage, minSec := 0 } }).onModes fun m => { m with cond := 4, step := 2 }).onClocks fun c => { c with ref := 1, fab := { locked := true }, eng := { locked := true }, cry := { locked := true }, jch := { locked := true } }
def tBootNoFw : Blk := tBoot.onFelt fun f => { f with fw := { slotA := none, minSec := 0 } }
def tBind : Blk := (tRun.onModes fun m => { m with cond := 4, step := 6 }).onDamask fun d => { d with mkey := some 0 }
def tBlank : Blk := (tRun.onModes fun m => { m with cond := 4, step := 6 }).onDamask fun d => { d with mkey := none }

def t0 : Stamp := { t := 0, nvwp := true }
def tObs : TrainObs := { caOk := true, present := 0, pass := 0, timeUs := 0 }

/-! ### Results worked out from the spec -/

/-- The worked example after R213: offset 0x12345680 in decoder 1's window is DPA 0x0840_1234_5680. -/
theorem test_threeWindows :
    decodeHpa [(0, { base := 0, size := 0x1000000000, skip := 0x4000000000, ways := 1, gran := 256, pos := 0, lock := false }),
      (1, { base := 0x1000000000, size := 0x1000000000, skip := 0x7F000000000, ways := 1, gran := 256, pos := 0, lock := false })]
      0 0x1012345680 = some 0x84012345680 := by decide +kernel

/-- R144 and R145: the budget at 40 mJ and 98.1 mJ, and the weak bank's at 60 mJ. -/
theorem test_budget : budgetOf 40000 = 24671 ∧ budgetOf 98100 = 196608 ∧ budgetOf 60000 = 83881 := by decide +kernel

/-- R145: write-back from 40 mJ, write-through below, unprotected below 32 mJ or after a failed health test. -/
theorem test_mode : modeByEnergy 40000 false = 0 ∧ modeByEnergy 39999 false = 1 ∧ modeByEnergy 31999 false = 2 ∧ modeByEnergy 98100 true = 2 := by
  decide +kernel

/-- R35: the table of C, in hundredths of a GiB. -/
theorem test_capacity : [64, 96, 128, 160, 192, 224, 256].map (fun n => (capacityUnits n * 100 + 256) / 512) =
    [164322, 246483, 328644, 410805, 492966, 575127, 657288] := by decide +kernel

/-- CRC-32 of IEEE 802.3 over the nine digits, the check value of that standard. -/
theorem test_crc32 : crc32 [0x31, 0x32, 0x33, 0x34, 0x35, 0x36, 0x37, 0x38, 0x39] = 0xCBF43926 := by decide +kernel

/-- The Stage frame of the worked example after R288. -/
theorem test_stageFrame : (canHead 0x17 false { op := 3, idx := 0x5810, sub := 2, w67 := 4, data := leBytes 4 20000 } 56).take 13 =
    [0x03, 0x17, 0x10, 0x58, 0x02, 0x00, 0x04, 0x00, 0x20, 0x4E, 0x00, 0x00, 0x00] := by decide +kernel

/-- R312: with the conditions of M4 and M11 the word shows M11 and the flag of M4; with none it shows M0. -/
theorem test_modeWord : modeWord 0x810 = 0xB010 ∧ modeWord 1 = 0 := by decide +kernel


/-! ### Ill-formed commands are refused -/

theorem test_wf_memRd : wellFormed (.memRd t0 .A 0 0) = true ∧ wellFormed (.memRd t0 .A 32 0) = false ∧ wellFormed (.memRd t0 .A (2 ^ 64) 0) = false ∧ wellFormed (.memRd t0 .A 0 65536) = false := by
  simp +contextual [wellFormed, fits, halfAddr, sized, fieldFits, fieldWidth, tXfer, tImage]

theorem test_wf_memRdData : wellFormed (.memRdData t0 .A 0 0) = true ∧ wellFormed (.memRdData t0 .A 32 0) = false ∧ wellFormed (.memRdData t0 .A (2 ^ 64) 0) = false ∧ wellFormed (.memRdData t0 .A 0 65536) = false := by
  simp +contextual [wellFormed, fits, halfAddr, sized, fieldFits, fieldWidth, tXfer, tImage]

theorem test_wf_memSpecRd : wellFormed (.memSpecRd t0 .A 0 0) = true ∧ wellFormed (.memSpecRd t0 .A 32 0) = false ∧ wellFormed (.memSpecRd t0 .A (2 ^ 64) 0) = false ∧ wellFormed (.memSpecRd t0 .A 0 65536) = false := by
  simp +contextual [wellFormed, fits, halfAddr, sized, fieldFits, fieldWidth, tXfer, tImage]

theorem test_wf_memWr : wellFormed (.memWr t0 .A 0 0 0 false) = true ∧ wellFormed (.memWr t0 .A 32 0 0 false) = false ∧ wellFormed (.memWr t0 .A (2 ^ 64) 0 0 false) = false ∧ wellFormed (.memWr t0 .A 0 65536 0 false) = false := by
  simp +contextual [wellFormed, fits, halfAddr, sized, fieldFits, fieldWidth, tXfer, tImage]

theorem test_wf_memWrPtl : wellFormed (.memWrPtl t0 .A 0 0 0 0 false) = true ∧ wellFormed (.memWrPtl t0 .A 32 0 0 0 false) = false ∧ wellFormed (.memWrPtl t0 .A (2 ^ 64) 0 0 0 false) = false ∧ wellFormed (.memWrPtl t0 .A 0 65536 0 0 false) = false := by
  simp +contextual [wellFormed, fits, halfAddr, sized, fieldFits, fieldWidth, tXfer, tImage]

theorem test_wf_unsupportedRequest : wellFormed (.unsupportedRequest t0 .A 0 0 false) = true ∧ wellFormed (.unsupportedRequest t0 .A 32 0 false) = false ∧ wellFormed (.unsupportedRequest t0 .A (2 ^ 64) 0 false) = false ∧ wellFormed (.unsupportedRequest t0 .A 0 65536 false) = false := by
  simp +contextual [wellFormed, fits, halfAddr, sized, fieldFits, fieldWidth, tXfer, tImage]

theorem test_wf_acceptance : wellFormed (.acceptance t0 .A 0 {}) = true ∧ wellFormed (.acceptance t0 .A 1024 {}) = false := by
  simp +contextual [wellFormed, fits, halfAddr, sized, fieldFits, fieldWidth, tXfer, tImage]

theorem test_wf_coldPathWrite : wellFormed (.coldPathWrite t0 (.buffer 0) {}) = true ∧ wellFormed (.coldPathWrite t0 (.buffer 0) { keystreams := 4 }) = false := by
  simp +contextual [wellFormed, fits, halfAddr, sized, fieldFits, fieldWidth, tXfer, tImage]

theorem test_wf_hotAppend : wellFormed (.hotAppend t0 0 0 {}) = true ∧ wellFormed (.hotAppend t0 0 0 { keystreams := 4 }) = false := by
  simp +contextual [wellFormed, fits, halfAddr, sized, fieldFits, fieldWidth, tXfer, tImage]

theorem test_wf_writeThroughWrite : wellFormed (.writeThroughWrite t0 0 0 {}) = true ∧ wellFormed (.writeThroughWrite t0 0 0 { keystreams := 4 }) = false := by
  simp +contextual [wellFormed, fits, halfAddr, sized, fieldFits, fieldWidth, tXfer, tImage]

theorem test_wf_clearEventRecords : wellFormed (.clearEventRecords t0 .A .informational false []) = true ∧ wellFormed (.clearEventRecords t0 .A .informational false [65536]) = false := by
  simp +contextual [wellFormed, fits, halfAddr, sized, fieldFits, fieldWidth, tXfer, tImage]

theorem test_wf_setEventInterruptPolicy : wellFormed (.setEventInterruptPolicy t0 .A []) = true ∧ wellFormed (.setEventInterruptPolicy t0 .A [(.informational, some 8)]) = false := by
  simp +contextual [wellFormed, fits, halfAddr, sized, fieldFits, fieldWidth, tXfer, tImage]

theorem test_wf_transferFw : wellFormed (.transferFw t0 .A .full tImage) = true ∧ wellFormed (.transferFw t0 .A .full { tImage with length := 2 ^ 32 }) = false := by
  simp +contextual [wellFormed, fits, halfAddr, sized, fieldFits, fieldWidth, tXfer, tImage]

theorem test_wf_activateFw : wellFormed (.activateFw t0 .A 0 false) = true ∧ wellFormed (.activateFw t0 .A 256 false) = false := by
  simp +contextual [wellFormed, fits, halfAddr, sized, fieldFits, fieldWidth, tXfer, tImage]

theorem test_wf_addDynamicCapacityResponse : wellFormed (.addDynamicCapacityResponse t0 .A []) = true ∧ wellFormed (.addDynamicCapacityResponse t0 .A [(2 ^ 64, 0)]) = false ∧ wellFormed (.addDynamicCapacityResponse t0 .A [(0, 2 ^ 64)]) = false := by
  simp +contextual [wellFormed, fits, halfAddr, sized, fieldFits, fieldWidth, tXfer, tImage]

theorem test_wf_releaseDynamicCapacity : wellFormed (.releaseDynamicCapacity t0 .A []) = true ∧ wellFormed (.releaseDynamicCapacity t0 .A [(2 ^ 64, 0)]) = false ∧ wellFormed (.releaseDynamicCapacity t0 .A [(0, 2 ^ 64)]) = false := by
  simp +contextual [wellFormed, fits, halfAddr, sized, fieldFits, fieldWidth, tXfer, tImage]

theorem test_wf_getPoisonList : wellFormed (.getPoisonList t0 .A 0 0) = true ∧ wellFormed (.getPoisonList t0 .A 1 0) = false ∧ wellFormed (.getPoisonList t0 .A 0 (2 ^ 64)) = false := by
  simp +contextual [wellFormed, fits, halfAddr, sized, fieldFits, fieldWidth, tXfer, tImage]

theorem test_wf_injectPoison : wellFormed (.injectPoison t0 .A 0) = true ∧ wellFormed (.injectPoison t0 .A 1) = false := by
  simp +contextual [wellFormed, fits, halfAddr, sized, fieldFits, fieldWidth, tXfer, tImage]

theorem test_wf_clearPoison : wellFormed (.clearPoison t0 .A 0 0) = true ∧ wellFormed (.clearPoison t0 .A 1 0) = false := by
  simp +contextual [wellFormed, fits, halfAddr, sized, fieldFits, fieldWidth, tXfer, tImage]

theorem test_wf_getScanMediaCapabilities : wellFormed (.getScanMediaCapabilities t0 .A 0 0) = true ∧ wellFormed (.getScanMediaCapabilities t0 .A 1 0) = false ∧ wellFormed (.getScanMediaCapabilities t0 .A 0 (2 ^ 64)) = false := by
  simp +contextual [wellFormed, fits, halfAddr, sized, fieldFits, fieldWidth, tXfer, tImage]

theorem test_wf_scanMedia : wellFormed (.scanMedia t0 .A 0 0) = true ∧ wellFormed (.scanMedia t0 .A 1 0) = false ∧ wellFormed (.scanMedia t0 .A 0 (2 ^ 64)) = false := by
  simp +contextual [wellFormed, fits, halfAddr, sized, fieldFits, fieldWidth, tXfer, tImage]

theorem test_wf_write : wellFormed (.write t0 (.mb .A true) 0 0 []) = true ∧ (∀ v : List Byte, v.length = 2 ^ 32 → wellFormed (.write t0 (.mb .A true) 0 0 v) = false) := by
  simp +contextual [wellFormed, fits, halfAddr, sized, fieldFits, fieldWidth, tXfer, tImage]

theorem test_wf_stage : wellFormed (.stage t0 (.mb .A true) 0 0 []) = true ∧ (∀ v : List Byte, v.length = 2 ^ 32 → wellFormed (.stage t0 (.mb .A true) 0 0 v) = false) := by
  simp +contextual [wellFormed, fits, halfAddr, sized, fieldFits, fieldWidth, tXfer, tImage]

theorem test_wf_applyInstant : wellFormed (.applyInstant t0 [] 0) = true ∧ wellFormed (.applyInstant t0 [] (2 ^ 32)) = false := by
  simp +contextual [wellFormed, fits, halfAddr, sized, fieldFits, fieldWidth, tXfer, tImage]

theorem test_wf_openWrite : wellFormed (.openWrite t0 .A false 0 0 0) = true ∧ wellFormed (.openWrite t0 .A false 0 0 (2 ^ 32)) = false := by
  simp +contextual [wellFormed, fits, halfAddr, sized, fieldFits, fieldWidth, tXfer, tImage]

theorem test_wf_data : wellFormed (.data t0 .A false 0 0 []) = true ∧ wellFormed (.data t0 .A false (2 ^ 32) 0 []) = false ∧ wellFormed (.data t0 .A false 0 (2 ^ 32) []) = false ∧ (∀ v : List Byte, v.length = 2 ^ 32 → wellFormed (.data t0 .A false 0 0 v) = false) := by
  simp +contextual [wellFormed, fits, halfAddr, sized, fieldFits, fieldWidth, tXfer, tImage]

theorem test_wf_bulkOpenWrite : wellFormed (.bulkOpenWrite t0 0 false 0 0 0 0 0) = true ∧ wellFormed (.bulkOpenWrite t0 0 false 0 0 0 0 (2 ^ 32)) = false := by
  simp +contextual [wellFormed, fits, halfAddr, sized, fieldFits, fieldWidth, tXfer, tImage]

theorem test_wf_segment : wellFormed (.segment t0 0 0 0 0 []) = true ∧ wellFormed (.segment t0 0 0 0 65536 []) = false ∧ (∀ v : List Byte, v.length = 57 → wellFormed (.segment t0 0 0 0 0 v) = false) := by
  simp +contextual [wellFormed, fits, halfAddr, sized, fieldFits, fieldWidth, tXfer, tImage]

theorem test_wf_segmentAcknowledge : wellFormed (.segmentAcknowledge t0 0 0) = true ∧ wellFormed (.segmentAcknowledge t0 0 65536) = false := by
  simp +contextual [wellFormed, fits, halfAddr, sized, fieldFits, fieldWidth, tXfer, tImage]

theorem test_wf_calibrationImport : wellFormed (.calibrationImport t0 (.mb .A true) []) = true ∧ (∀ v : List Byte, v.length = 2 ^ 32 → wellFormed (.calibrationImport t0 (.mb .A true) v) = false) := by
  simp +contextual [wellFormed, fits, halfAddr, sized, fieldFits, fieldWidth, tXfer, tImage]

theorem test_wf_escrowImport : wellFormed (.escrowImport t0 (.mb .A true) []) = true ∧ (∀ v : List Byte, v.length = 2 ^ 32 → wellFormed (.escrowImport t0 (.mb .A true) v) = false) := by
  simp +contextual [wellFormed, fits, halfAddr, sized, fieldFits, fieldWidth, tXfer, tImage]

theorem test_wf_idataRead : wellFormed (.idataRead t0 .A 4) = true ∧ wellFormed (.idataRead t0 .A 0) = false ∧ wellFormed (.idataRead t0 .A 65) = false := by
  simp +contextual [wellFormed, fits, halfAddr, sized, fieldFits, fieldWidth, tXfer, tImage]

theorem test_wf_idataWrite : wellFormed (.idataWrite t0 .A 4 0) = true ∧ wellFormed (.idataWrite t0 .A 0 0) = false ∧ wellFormed (.idataWrite t0 .A 65 0) = false := by
  simp +contextual [wellFormed, fits, halfAddr, sized, fieldFits, fieldWidth, tXfer, tImage]

theorem test_wf_registerWrite : wellFormed (.registerWrite t0 .A 0 8 0) = true ∧ wellFormed (.registerWrite t0 .A 0 0 0) = false ∧ wellFormed (.registerWrite t0 .A 0 65 0) = false := by
  simp +contextual [wellFormed, fits, halfAddr, sized, fieldFits, fieldWidth, tXfer, tImage]

theorem test_wf_gval : wellFormed (.gval t0 .A 4 0) = true ∧ wellFormed (.gval t0 .A 0 0) = false ∧ wellFormed (.gval t0 .A 65 0) = false := by
  simp +contextual [wellFormed, fits, halfAddr, sized, fieldFits, fieldWidth, tXfer, tImage]

theorem test_wf_gcmp : wellFormed (.gcmp t0 .A 4 0) = true ∧ wellFormed (.gcmp t0 .A 0 0) = false ∧ wellFormed (.gcmp t0 .A 65 0) = false := by
  simp +contextual [wellFormed, fits, halfAddr, sized, fieldFits, fieldWidth, tXfer, tImage]

theorem test_wf_voteCorrection : wellFormed (.voteCorrection t0 .mode 0 0) = true ∧ wellFormed (.voteCorrection t0 .mode 0 65536) = false := by
  simp +contextual [wellFormed, fits, halfAddr, sized, fieldFits, fieldWidth, tXfer, tImage]

theorem test_wf_voteThreeWayDisagreement : wellFormed (.voteThreeWayDisagreement t0 .mode 0 0) = true ∧ wellFormed (.voteThreeWayDisagreement t0 .mode 65536 0) = false ∧ wellFormed (.voteThreeWayDisagreement t0 .mode 0 65536) = false := by
  simp +contextual [wellFormed, fits, halfAddr, sized, fieldFits, fieldWidth, tXfer, tImage]

theorem test_wf_telemetryWindowAccess : wellFormed (.telemetryWindowAccess t0 .A 0 0 false) = true ∧ wellFormed (.telemetryWindowAccess t0 .A 65536 0 false) = false := by
  simp +contextual [wellFormed, fits, halfAddr, sized, fieldFits, fieldWidth, tXfer, tImage]

theorem test_wf_linenReport : wellFormed (.linenReport t0 0 0 0 none none []) = true ∧ wellFormed (.linenReport t0 0 0 0 (some (2 ^ 64)) none []) = false ∧ wellFormed (.linenReport t0 0 0 0 none (some (2 ^ 64)) []) = false ∧ (∀ v : List Byte, v.length = 193 → wellFormed (.linenReport t0 0 0 0 none none v) = false) := by
  simp +contextual [wellFormed, fits, halfAddr, sized, fieldFits, fieldWidth, tXfer, tImage]

theorem test_wf_feltMarginPass : wellFormed (.feltMarginPass t0 0) = true ∧ wellFormed (.feltMarginPass t0 (2 ^ 32)) = false := by
  simp +contextual [wellFormed, fits, halfAddr, sized, fieldFits, fieldWidth, tXfer, tImage]

theorem test_wf_wearIncrement : wellFormed (.wearIncrement t0 0) = true ∧ wellFormed (.wearIncrement t0 (2 ^ 22)) = false := by
  simp +contextual [wellFormed, fits, halfAddr, sized, fieldFits, fieldWidth, tXfer, tImage]

theorem test_wf_trackerFold : wellFormed (.trackerFold t0 0) = true ∧ wellFormed (.trackerFold t0 (2 ^ 22)) = false := by
  simp +contextual [wellFormed, fits, halfAddr, sized, fieldFits, fieldWidth, tXfer, tImage]

theorem test_wf_rotationPassEnd : wellFormed (.rotationPassEnd t0 0) = true ∧ wellFormed (.rotationPassEnd t0 (2 ^ 22)) = false := by
  simp +contextual [wellFormed, fits, halfAddr, sized, fieldFits, fieldWidth, tXfer, tImage]

theorem test_wf_migrationStart : wellFormed (.migrationStart t0 0) = true ∧ wellFormed (.migrationStart t0 (2 ^ 22)) = false := by
  simp +contextual [wellFormed, fits, halfAddr, sized, fieldFits, fieldWidth, tXfer, tImage]

theorem test_wf_migrationEnd : wellFormed (.migrationEnd t0 0) = true ∧ wellFormed (.migrationEnd t0 (2 ^ 22)) = false := by
  simp +contextual [wellFormed, fits, halfAddr, sized, fieldFits, fieldWidth, tXfer, tImage]

theorem test_wf_refreshBacklog : wellFormed (.refreshBacklog t0 0) = true ∧ wellFormed (.refreshBacklog t0 (2 ^ 22)) = false := by
  simp +contextual [wellFormed, fits, halfAddr, sized, fieldFits, fieldWidth, tXfer, tImage]

theorem test_wf_resync : wellFormed (.resync t0 0) = true ∧ wellFormed (.resync t0 (2 ^ 22)) = false := by
  simp +contextual [wellFormed, fits, halfAddr, sized, fieldFits, fieldWidth, tXfer, tImage]

theorem test_wf_sramScrub : wellFormed (.sramScrub t0 0 0 .read {}) = true ∧ wellFormed (.sramScrub t0 0 (2 ^ 18) .read {}) = false := by
  simp +contextual [wellFormed, fits, halfAddr, sized, fieldFits, fieldWidth, tXfer, tImage]

theorem test_wf_weakRegionOffer : wellFormed (.weakRegionOffer t0 0) = true ∧ wellFormed (.weakRegionOffer t0 (2 ^ 28)) = false := by
  simp +contextual [wellFormed, fits, halfAddr, sized, fieldFits, fieldWidth, tXfer, tImage]

theorem test_wf_rekeyPass : wellFormed (.rekeyPass t0 0) = true ∧ wellFormed (.rekeyPass t0 (2 ^ 22)) = false := by
  simp +contextual [wellFormed, fits, halfAddr, sized, fieldFits, fieldWidth, tXfer, tImage]

theorem test_wf_alertService : wellFormed (.alertService t0 0 []) = true ∧ wellFormed (.alertService t0 0 (List.replicate 9 (0, 0))) = false := by
  simp +contextual [wellFormed, fits, halfAddr, sized, fieldFits, fieldWidth, tXfer, tImage]

theorem test_wf_channelTraining : wellFormed (.channelTraining t0 (List.replicate 32 tObs)) = true ∧ wellFormed (.channelTraining t0 []) = false := by
  simp +contextual [wellFormed, fits, halfAddr, sized, fieldFits, fieldWidth, tXfer, tImage]

theorem test_wf_replacementCopyBack : wellFormed (.replacementCopyBack t0 0) = true ∧ wellFormed (.replacementCopyBack t0 (18 * 2 ^ 22)) = false := by
  simp +contextual [wellFormed, fits, halfAddr, sized, fieldFits, fieldWidth, tXfer, tImage]

theorem test_wf_residentRailsGood : wellFormed (.residentRailsGood t0 [0, 0, 0, 0] false false) = true ∧ wellFormed (.residentRailsGood t0 [] false false) = false := by
  simp +contextual [wellFormed, fits, halfAddr, sized, fieldFits, fieldWidth, tXfer, tImage]

theorem test_wf_flushEnd : wellFormed (.flushEnd t0 []) = true ∧ wellFormed (.flushEnd t0 [(2 ^ 36, {})]) = false := by
  simp +contextual [wellFormed, fits, halfAddr, sized, fieldFits, fieldWidth, tXfer, tImage]

theorem test_wf_pseqPgChange : wellFormed (.pseqPgChange t0 0 false 0) = true ∧ wellFormed (.pseqPgChange t0 0 false 65536) = false := by
  simp +contextual [wellFormed, fits, halfAddr, sized, fieldFits, fieldWidth, tXfer, tImage]

theorem test_wf_slotFallen : wellFormed (.slotFallen t0 0 0) = true ∧ wellFormed (.slotFallen t0 0 65536) = false := by
  simp +contextual [wellFormed, fits, halfAddr, sized, fieldFits, fieldWidth, tXfer, tImage]

theorem test_wf_railFault : wellFormed (.railFault t0 0 .uv 0) = true ∧ wellFormed (.railFault t0 0 .uv 65536) = false := by
  simp +contextual [wellFormed, fits, halfAddr, sized, fieldFits, fieldWidth, tXfer, tImage]

theorem test_wf_healthTestEnd : wellFormed (.healthTestEnd t0 0 0) = true ∧ wellFormed (.healthTestEnd t0 (2 ^ 32) 0) = false ∧ wellFormed (.healthTestEnd t0 0 (2 ^ 32)) = false := by
  simp +contextual [wellFormed, fits, halfAddr, sized, fieldFits, fieldWidth, tXfer, tImage]

theorem test_wf_bindingCheck : wellFormed (.bindingCheck t0 { mediaBlank := true, record := none, dieIds := [] }) = true ∧ wellFormed (.bindingCheck t0 { mediaBlank := true, record := none, dieIds := [(256, 0)] }) = false := by
  simp +contextual [wellFormed, fits, halfAddr, sized, fieldFits, fieldWidth, tXfer, tImage]

theorem test_wf_mapRebuild : wellFormed (.mapRebuild t0 0) = true ∧ wellFormed (.mapRebuild t0 (2 ^ 32)) = false := by
  simp +contextual [wellFormed, fits, halfAddr, sized, fieldFits, fieldWidth, tXfer, tImage]

theorem test_wf_refMonitorWindow : wellFormed (.refMonitorWindow t0 0) = true ∧ wellFormed (.refMonitorWindow t0 (2 ^ 32)) = false := by
  simp +contextual [wellFormed, fits, halfAddr, sized, fieldFits, fieldWidth, tXfer, tImage]

theorem test_wf_pllJudgeWindow : wellFormed (.pllJudgeWindow t0 .fab 0 0) = true ∧ wellFormed (.pllJudgeWindow t0 .fab (2 ^ 32) 0) = false ∧ wellFormed (.pllJudgeWindow t0 .fab 0 (2 ^ 32)) = false := by
  simp +contextual [wellFormed, fits, halfAddr, sized, fieldFits, fieldWidth, tXfer, tImage]

theorem test_wf_thermalSample : wellFormed (.thermalSample t0 (List.replicate 16 0)) = true ∧ wellFormed (.thermalSample t0 []) = false := by
  simp +contextual [wellFormed, fits, halfAddr, sized, fieldFits, fieldWidth, tXfer, tImage]

theorem test_wf_channelRetrainEnd : wellFormed (.channelRetrainEnd t0 0 false 0) = true ∧ wellFormed (.channelRetrainEnd t0 0 false (2 ^ 32)) = false := by
  simp +contextual [wellFormed, fits, halfAddr, sized, fieldFits, fieldWidth, tXfer, tImage]

/-! ### States and operands that meet the hypotheses of the statements -/

theorem witness_IdleStepChangesNothing :
    State.reset.pending = [] := by
  decide +kernel

theorem witness_EveryCommandAnswersANextState1 :
    ({ State.reset with pending := [.hotEpochEnd { t := 0, nvwp := true }] } : State).pending = .hotEpochEnd { t := 0, nvwp := true } :: [] :=
  rfl

theorem witness_OnlyTheNamedPartsChange1 :
    ∃ t, exec (.cdatRead { t := 0, nvwp := true } .A) State.reset = .next t :=
  ⟨_, rfl⟩

theorem witness_TimeAndWritePinFollowTheStamp1 :
    ∃ t, exec (.hotEpochEnd { t := 0, nvwp := true }) State.reset = .next t :=
  ⟨_, rfl⟩

theorem witness_StoredLinesKeepTheirForm1 :
    MediaForm State.reset.blk ∧ ∃ t, step State.reset = .next t :=
  ⟨rfl, _, rfl⟩

theorem witness_FaultPinShowsStopAndFallback1 :
    FaultPinRight State.reset.blk ∧ ∃ t, step State.reset = .next t :=
  ⟨rfl, _, rfl⟩

theorem witness_QueuesStayWithinTheirPlaces1 :
    QueuesFit State.reset.blk ∧ ∃ t, step State.reset = .next t :=
  ⟨⟨by unfold HeadFits LogFits; decide +kernel, by unfold HeadFits LogFits; decide +kernel, by unfold LinenFits; decide +kernel, by decide +kernel, by decide +kernel⟩, _, rfl⟩

theorem witness_DieWordFields :
    (0 : BitVec 64).extractLsb' 59 5 = 0 ∧ 0x14 ≤ ((0xA000000000000000 : BitVec 64).extractLsb' 59 5).toNat := by
  decide +kernel

theorem witness_StripesAreLaidOutOnTheirMembers :
    (3 : Nat) < 17 ∧ (3 : Nat) < 1024 ∧ (4 : Nat) < 1024 ∧ (3 : Nat) ≠ 4 ∧ State.reset.blk.safety.subst = [] ∧ State.reset.blk.media.perChan ≤ 8 ∧ 16 < widthOf .voile ∧ 17 < widthOf .denim ∧ 17 % 18 < slotsOfGroup .voile ∧ 16 % 18 < slotsOfGroup .denim := by
  decide +kernel

theorem witness_TheInterleaveIsABijection :
    (16383 : Nat) < 16384 ∧ tEntry.rotp = false := by
  decide +kernel

theorem witness_DieStatusWord :
    (tDie.sendDie (dieOf 3 0) .str).dieAwake (dieOf 3 0) = true ∧ (tDie.sendDie (dieOf 3 0) (.mrr 5)).dieAwake (dieOf 3 0) = true ∧ (tDie.sendDie (dieOf 3 0) .idr).dieAwake (dieOf 3 0) = true ∧ (4 : BitVec 7).getLsbD 2 = true ∧ (8 : BitVec 7).getLsbD 3 = true := by
  decide +kernel

theorem witness_LinesReadAsWritten1 :
    MediaForm tDeepRun ∧ tPlace.loc + 1 ≠ tPlace.loc :=
  ⟨rfl, Nat.succ_ne_self _⟩

theorem witness_RequestsAreAdmittedAtAnOpenMailbox :
    (tMgr.head .A).link = 2 ∧ (tMgr.head .A).failed = false ∧ tMgr.mgmt = true ∧ (tMgr.head .B).link ≠ 2 ∧ (tMgr.touch (.mb .A true)).bulkOf (.mb .A true) = none ∧ tRun.level (.mb .A true) ≠ 2 := by
  decide +kernel

theorem witness_RequestsAreAdmittedAtAnOpenMailbox1 :
    Requests tMgr (.mb .A true) { op := 2, idx := 0x1200, sub := 0x0D, w67 := [(1 : Byte)].length, data := [1] } (tMgr.touch (.mb .A true)) ∧ (tMgr.touch (.mb .A true)).checkWrite (.mb .A true) false 0x1200 0x0D [1] = 0 :=
  ⟨fun _ => rfl, by decide +kernel⟩

theorem witness_RefusedRequestsAreAnsweredAlone :
    tRun.mailboxOpen .B = false := by
  decide +kernel

theorem witness_RefusedRequestsAreAnsweredAlone1 :
    Requests tRun (.mb .A true) { op := 1, idx := (0x2 : BitVec 16).toNat, sub := (1 : BitVec 8).toNat } (tRun.touch (.mb .A true)) ∧ (tRun.touch (.mb .A true)).checkRead (.mb .A true) (0x2 : BitVec 16).toNat (1 : BitVec 8).toNat ≠ 0 :=
  ⟨fun _ => rfl, by decide +kernel⟩

theorem witness_RefusedRequestsAreAnsweredAlone2 :
    Requests tRun (.mb .A true) { op := 2, idx := (0x1000 : BitVec 16).toNat, sub := (1 : BitVec 8).toNat, w67 := [(0 : Byte)].length, data := [0] } (tRun.touch (.mb .A true)) ∧ (tRun.touch (.mb .A true)).checkWrite (.mb .A true) false (0x1000 : BitVec 16).toNat (1 : BitVec 8).toNat [0] ≠ 0 :=
  ⟨fun _ => rfl, by decide +kernel⟩

theorem witness_RefusedRequestsAreAnsweredAlone3 :
    Requests tRun (.mb .A true) { op := 3, idx := (0x1000 : BitVec 16).toNat, sub := (1 : BitVec 8).toNat, w67 := [(0 : Byte)].length, data := [0] } (tRun.touch (.mb .A true)) ∧ (tRun.touch (.mb .A true)).checkWrite (.mb .A true) true (0x1000 : BitVec 16).toNat (1 : BitVec 8).toNat [0] ≠ 0 :=
  ⟨fun _ => rfl, by decide +kernel⟩

theorem witness_HostRequestsTurnedAway :
    (tRun.takes .A = true ∧ tRun.takes .B = false ∧ decodeHpa (tRun.head .A).decoders 0 (2 ^ 45) = none) ∧
    (decodeHpa [(0, { tDecoder with skip := 3 * 2 ^ 43 })] 0 64 = some (3 * 2 ^ 43 + 64) ∧ fld (3 * 2 ^ 43 + 64) 43 2 = 3) ∧
    (decodeHpa (tRun.head .A).decoders 0 (2 ^ 40) = some (2 ^ 40) ∧ fld (2 ^ 40) 43 2 ≠ 3 ∧ tRun.hasCapacity .A (2 ^ 40 % 2 ^ 43) = false ∧ decodeHpa (tRun.head .A).decoders 0 64 = some 64 ∧ tRun.hasCapacity .A 64 = true) := by
  decide +kernel

theorem witness_HostRequestsTurnedAwayA :
    (let c := tRun.onModes fun m => { m with step := 9 }; c.takes .A = true ∧ c.hasCapacity .A 64 = true ∧ c.memoryActive = false) ∧
    (let c := tRun.onModes fun m => { m with cond := 0x810 }; c.takes .A = true ∧ c.hasCapacity .A 64 = true ∧ c.memoryActive = true ∧ c.stopped = true) := by
  decide +kernel

theorem witness_KeyEncryptionKeyRule1 :
    tProv.checkOpenWrite (.mb .A true) 0x6820 0x01 = 0 ∧ OpensWrite tProv (.mb .A true) 0x6820 0x01 (leBytes 32 (5 : BitVec 256).toNat) (tProv.touch (.mb .A true)) :=
  ⟨by decide +kernel, opensWrite_of (fun _ => rfl) rfl (by decide +kernel)⟩

theorem witness_MaintenanceAccessGuardsRegisters :
    let b := tRun.onCtl .A fun c => { c with iaddr := 0 }; b.barOpen .A = true ∧ (b.head .A).ctl.width ≤ 8 ∧ iValid (b.head .A).ctl.iaddr (b.head .A).ctl.width = true ∧ (b.ackPosted .A).iGated (b.head .A).ctl.iaddr = false ∧ (b.ackPosted .A).maintAt .A = false ∧ (b.head .A).ctl.posted = none := by
  decide +kernel

theorem witness_HostRequestsEnterIngress :
    (((tRun).takes (Head.A) = true) ∧ (decodeHpa ((tRun).head (Head.A)).decoders 0 (64) = some (64)) ∧ (fld (64) 43 2 < 3) ∧ ((tRun).hasCapacity (Head.A) ((64) % 2 ^ 43) = true) ∧ ((tRun).memoryActive = true) ∧ ((tRun).stopped = false)) ∧
    (((tRun).takes (Head.A) = true) ∧ (decodeHpa ((tRun).head (Head.A)).decoders 0 (64) = some (64)) ∧ (fld (64) 43 2 < 3) ∧ ((tRun).hasCapacity (Head.A) ((64) % 2 ^ 43) = true) ∧ ((tRun).memoryActive = true) ∧ ((tRun).stopped = false)) := by
  decide +kernel

theorem witness_HostRequestsEnterIngressA :
    (((tRun).takes (Head.A) = true) ∧ (decodeHpa ((tRun).head (Head.A)).decoders 0 (64) = some (64)) ∧ (fld (64) 43 2 < 3) ∧ ((tRun).hasCapacity (Head.A) ((64) % 2 ^ 43) = true) ∧ ((tRun).memoryActive = true) ∧ ((tRun).stopped = false)) ∧
    (((tRun).takes (Head.A) = true) ∧ (decodeHpa ((tRun).head (Head.A)).decoders 0 (64) = some (64)) ∧ (fld (64) 43 2 < 3) ∧ ((tRun).hasCapacity (Head.A) ((64) % 2 ^ 43) = true) ∧ ((tRun).memoryActive = true) ∧ ((tRun).stopped = false)) := by
  decide +kernel

theorem witness_HostRequestsEnterIngressB :
    ((tRun).takes (Head.A) = true) := by
  decide +kernel

theorem witness_AcceptanceAndWindow :
    ((((tRun.onHead .A fun x => { x with ingress := [tReq] }).head (Head.A)).ingress[(0)]? = some (tReq)) ∧ (inWindow (tReq).dpa = false) ∧ ((tRun.onHead .A fun x => { x with ingress := [tReq] }).mayAccept (Head.A) (tReq) = true)) ∧
    ((((tRun.onHead .A fun x => { x with ingress := [{ tReq with dpa := 0x7FFFC000000 }] }).head (Head.A)).ingress[(0)]? = some (({ tReq with dpa := 0x7FFFC000000 } : Req))) ∧ (inWindow (({ tReq with dpa := 0x7FFFC000000 } : Req)).dpa = true) ∧ ((tRun.onHead .A fun x => { x with ingress := [{ tReq with dpa := 0x7FFFC000000 }] }).serving = true)) ∧
    (((tRun).takes (Head.A) = true) ∧ ((tRun).serving = true)) ∧
    (((tRun.onModes fun m => { m with cond := 0x810 }).takes (Head.A) = true) ∧ ((tRun.onModes fun m => { m with cond := 0x810 }).memoryActive = true) ∧ ((tRun.onModes fun m => { m with cond := 0x810 }).stopped = true)) := by
  decide +kernel

theorem witness_ReadsIssueAndReturn :
    ((((tRun.onPart 802 fun _ => { queue := [tTask] }).part (partOf ((3 : Fin 32)) ((1 : Fin 8)) ((2 : Fin 32)))).next = some (tTask)) ∧ ((tRun.onPart 802 fun _ => { queue := [tTask] }).freeForRead (partOf ((3 : Fin 32)) ((1 : Fin 8)) ((2 : Fin 32))) = true) ∧ ((tRun.onPart 802 fun _ => { queue := [tTask] }).firstInOrder (partOf ((3 : Fin 32)) ((1 : Fin 8)) ((2 : Fin 32))) (tTask) = true)) ∧
    ((((tRun.onPart 802 fun _ => { sent := some { tTask with loc := 802 * 2 ^ 23 } }).part (partOf ((3 : Fin 32)) ((1 : Fin 8)) ((2 : Fin 32)))).sent = some ({ tTask with loc := 802 * 2 ^ 23 })) ∧ (({ tTask with loc := 802 * 2 ^ 23 }).due ≤ (tRun.onPart 802 fun _ => { sent := some { tTask with loc := 802 * 2 ^ 23 } }).now) ∧ ((tXfer).strobe = true) ∧ ((tXfer).crcOk = true) ∧ (stSeq (tXfer).st = ({ tTask with loc := 802 * 2 ^ 23 }).seq) ∧ ((stPart (tXfer).st).toNat = ((2 : Fin 32)).val) ∧ ((stLine (tXfer).st).toNat = ({ tTask with loc := 802 * 2 ^ 23 }).loc % 2 ^ 23)) := by
  decide +kernel

theorem witness_ReadsIssueAndReturnA :
    ((((tRun.onPart 802 fun _ => { sent := some { tTask with loc := 802 * 2 ^ 23 } }).part (partOf ((3 : Fin 32)) ((1 : Fin 8)) ((2 : Fin 32)))).sent = some ({ tTask with loc := 802 * 2 ^ 23 })) ∧ (({ tTask with loc := 802 * 2 ^ 23 }).due ≤ (tRun.onPart 802 fun _ => { sent := some { tTask with loc := 802 * 2 ^ 23 } }).now) ∧ ((({ tXfer with crcOk := false }).strobe = false ∨ ({ tXfer with crcOk := false }).crcOk = false ∨ stSeq ({ tXfer with crcOk := false }).st ≠ ({ tTask with loc := 802 * 2 ^ 23 }).seq ∨ (stPart ({ tXfer with crcOk := false }).st).toNat ≠ ((2 : Fin 32)).val ∨ (stLine ({ tXfer with crcOk := false }).st).toNat ≠ ({ tTask with loc := 802 * 2 ^ 23 }).loc % 2 ^ 23))) ∧
    (((tRun.onPath fun x => { x with fills := [(3, false, 1)] }).path.fills.find ((3 : BitVec 36)).toNat = some ((false), (1)))) := by
  decide +kernel

theorem witness_ReadsIssueAndReturn1 :
    (((tRecon).settleTags = (tRecon))) ∧ (((tRecon).accOf (7) = some (tAccR))) ∧ (((tAccR).stage = .recon)) ∧ (((tAccR).tagWait = false)) ∧ (((tAccR).listWait = false)) ∧ (((tRecon).membersHome (7) = true)) ∧ (((tRecon).lookup (tAccR).line = some (tRun.homePlace 0 0 tEntry))) ∧ (((([] : List (Fin 18))).foldl (fun l m => insUniq m.val l) (tAccR).erased = (([] : List Nat)))) ∧ (((([] : List Nat)).length < toleranceOf (tRun.homePlace 0 0 tEntry).cls)) :=
  ⟨rfl, rfl, rfl, rfl, rfl, rfl, rfl, rfl, by show 0 < 1; decide⟩

theorem witness_GuardsResumeAndDeepRecovery :
    ((((tRun.onPart 802 fun _ => { suspended := true }).part (partOf ((3 : Fin 32)) ((1 : Fin 8)) ((2 : Fin 32)))).suspended = true) ∧ (((tRun.onPart 802 fun _ => { suspended := true }).part (partOf ((3 : Fin 32)) ((1 : Fin 8)) ((2 : Fin 32)))).queue = []) ∧ (((tRun.onPart 802 fun _ => { suspended := true }).part (partOf ((3 : Fin 32)) ((1 : Fin 8)) ((2 : Fin 32)))).prio = none) ∧ (((tRun.onPart 802 fun _ => { suspended := true }).part (partOf ((3 : Fin 32)) ((1 : Fin 8)) ((2 : Fin 32)))).sent = none)) ∧
    ((((tRun.onPart 802 fun _ => { op := .program 9 { data := 0, md := 0 } (.record tMem) false false 0, suspTotal := 20000 }).part (partOf ((3 : Fin 32)) ((1 : Fin 8)) ((2 : Fin 32)))).op = .program (9) (({ data := 0, md := 0 } : MLine)) (ProgFor.record tMem) (false) (false) (0)) ∧ (20000 ≤ ((tRun.onPart 802 fun _ => { op := .program 9 { data := 0, md := 0 } (.record tMem) false false 0, suspTotal := 20000 }).part (partOf ((3 : Fin 32)) ((1 : Fin 8)) ((2 : Fin 32)))).suspTotal + (if ((tRun.onPart 802 fun _ => { op := .program 9 { data := 0, md := 0 } (.record tMem) false false 0, suspTotal := 20000 }).part (partOf ((3 : Fin 32)) ((1 : Fin 8)) ((2 : Fin 32)))).suspended then (tRun.onPart 802 fun _ => { op := .program 9 { data := 0, md := 0 } (.record tMem) false false 0, suspTotal := 20000 }).now - ((tRun.onPart 802 fun _ => { op := .program 9 { data := 0, md := 0 } (.record tMem) false false 0, suspTotal := 20000 }).part (partOf ((3 : Fin 32)) ((1 : Fin 8)) ((2 : Fin 32)))).suspSince else 0)) ∧ (((tRun.onPart 802 fun _ => { op := .program 9 { data := 0, md := 0 } (.record tMem) false false 0, suspTotal := 20000 }).part (partOf ((3 : Fin 32)) ((1 : Fin 8)) ((2 : Fin 32)))).progGuard = false)) ∧
    ((((((tRun.at { t := 20000, nvwp := true }).onPart 802 fun _ => { resetWait := [(4, 0, 0, none)] }).onPath fun x => { x with acc := [{ tAccR with stage := .queued, parts := [802] }] }).part (partOf ((3 : Fin 32)) ((1 : Fin 8)) ((2 : Fin 32)))).resetWait = ((4), (0), (0), ((none : Option Nat))) :: (([] : List (Nat × Nat × Nat × Option Nat)))) ∧ ((((tRun.at { t := 20000, nvwp := true }).onPart 802 fun _ => { resetWait := [(4, 0, 0, none)] }).onPath fun x => { x with acc := [{ tAccR with stage := .queued, parts := [802] }] }).reserved (partOf ((3 : Fin 32)) ((1 : Fin 8)) ((2 : Fin 32))) = true) ∧ (20000 ≤ (((tRun.at { t := 20000, nvwp := true }).onPart 802 fun _ => { resetWait := [(4, 0, 0, none)] }).onPath fun x => { x with acc := [{ tAccR with stage := .queued, parts := [802] }] }).since (0))) := by
  decide +kernel

theorem witness_GuardsResumeAndDeepRecoveryA :
    (((((tRun.at { t := 1000000, nvwp := true }).odSet 0x5810 1 1).onPath fun x => { x with acc := [{ tAccR with stage := .deep }], deeps := [tDeep] }).accOf (7) = some ({ tAccR with stage := .deep })) ∧ ((((tRun.at { t := 1000000, nvwp := true }).odSet 0x5810 1 1).onPath fun x => { x with acc := [{ tAccR with stage := .deep }], deeps := [tDeep] }).waitsDeep ({ tAccR with stage := .deep }) = some (tDeep)) ∧ ((((tRun.at { t := 1000000, nvwp := true }).odSet 0x5810 1 1).onPath fun x => { x with acc := [{ tAccR with stage := .deep }], deeps := [tDeep] }).cfgFor ({ tAccR with stage := .deep }).epoch 0x5810 0x01 = 1) ∧ (({ tAccR with stage := .deep }).req.kind.isRead = true) ∧ (({ tAccR with stage := .deep }).accAt + (((tRun.at { t := 1000000, nvwp := true }).odSet 0x5810 1 1).onPath fun x => { x with acc := [{ tAccR with stage := .deep }], deeps := [tDeep] }).cfgFor ({ tAccR with stage := .deep }).epoch 0x5810 0x02 ≤ (((tRun.at { t := 1000000, nvwp := true }).odSet 0x5810 1 1).onPath fun x => { x with acc := [{ tAccR with stage := .deep }], deeps := [tDeep] }).now)) ∧
    (((((tRun.at { t := 200000, nvwp := true }).onPath fun x => { x with deeps := [tDeep] }).path.deeps.find? fun y => y.num == (7)) = some (tDeep)) ∧ (200000 ≤ ((tRun.at { t := 200000, nvwp := true }).onPath fun x => { x with deeps := [tDeep] }).since (tDeep).start)) := by
  decide +kernel

theorem witness_GuardsResumeAndDeepRecovery1 :
    ((((tDeepRun).path.deeps.find? fun y => y.num == (7)) = some (tDeepS))) ∧ (((tDeepRun).recovered (tDeepS) (RecoveryStep.own) = some ((0 : Line)))) ∧ (((tDeepRun).lookup (tDeepS).li = some (tPlace))) ∧ (((tDeepRun).openLine (tDeepS).li (tPlace) ((0 : Line)) = some (tRun.crypt (dieOfLoc tPlace.loc / 8) (tRun.nonceAt 0 tPlace) 0 0))) ∧ ((((tDeepS).listed0 || (tDeepS).listed1) = false)) :=
  ⟨rfl, deepRun_recovered, deepRun_place, deepRun_opens, rfl⟩

theorem witness_GuardsResumeAndDeepRecovery2 :
    (((tDeepListed).freeBuf.isNone = false)) ∧ ((((tDeepListed).path.deeps.find? fun y => y.num == (7)) = some (tDeepL))) ∧ (((tDeepListed).recovered (tDeepL) (RecoveryStep.own) = some ((0 : Line)))) ∧ (((tDeepListed).lookup (tDeepL).li = some (tPlace))) ∧ (((tDeepListed).openLine (tDeepL).li (tPlace) ((0 : Line)) = some (tRun.crypt (dieOfLoc tPlace.loc / 8) (tRun.nonceAt 0 tPlace) 0 0))) ∧ ((((tDeepL).listed0 || (tDeepL).listed1) = true)) :=
  ⟨by decide +kernel, rfl, deepListed_recovered, deepListed_place, deepListed_opens, rfl⟩

theorem witness_WritesProgramsAndTileResets :
    ((((tRun.onPart 802 fun _ => { resetWait := [(4, 0, 0, none)] }).part (partOf ((3 : Fin 32)) ((1 : Fin 8)) ((2 : Fin 32)))).resetWait = ((4), (0), (0), ((none : Option Nat))) :: (([] : List (Nat × Nat × Nat × Option Nat)))) ∧ ((tRun.onPart 802 fun _ => { resetWait := [(4, 0, 0, none)] }).mayReset (partOf ((3 : Fin 32)) ((1 : Fin 8)) ((2 : Fin 32))) = true)) ∧
    ((((tRun.onPart 802 fun _ => { op := .reset 4 0 none }).part (partOf ((3 : Fin 32)) ((1 : Fin 8)) ((2 : Fin 32)))).op = .reset (4) (0) none) ∧ ((true) = true)) ∧
    ((((tRun.onPart 802 fun _ => { op := .reset 4 0 (some 0) }).part (partOf ((3 : Fin 32)) ((1 : Fin 8)) ((2 : Fin 32)))).op = .reset (4) (0) (some (0))) ∧ ((true) = true)) ∧
    ((((tRun.onPart 802 fun _ => { op := .reset 4 0 none }).part (partOf ((3 : Fin 32)) ((1 : Fin 8)) ((2 : Fin 32)))).op = .reset (4) (0) none) ∧ ((false) = false)) ∧
    ((((tRun.onPart 802 fun _ => { op := .reset 4 0 (some 0) }).part (partOf ((3 : Fin 32)) ((1 : Fin 8)) ((2 : Fin 32)))).op = .reset (4) (0) (some (0))) ∧ ((false) = false)) := by
  decide +kernel

theorem witness_WritesProgramsAndTileResets1 :
    (((tBuffered).works = true)) ∧ (((tBuffered).velvet.bufs.find ((5 : Fin 4096)).val = some (tBuf))) ∧ (((tBuf).issued = false)) ∧ (((tBuffered).pathFor (tBuf).li (tBuf).hotPath = .cold)) ∧ (((tBuffered).egress (tBuf).li (tBuf).data (({} : EgressErr)) = ((tBuffered), true))) ∧ (((tBuffered).homeOf (tBuf).li = some (tPlace))) ∧ (((tBuffered).pastTolerance (tPlace) = false)) ∧ (((tBuffered).coldOpen (tBuf).li (tPlace) = true)) ∧ (((tBuffered).doing (.cold ((5 : Fin 4096)).val) = false)) :=
  ⟨rfl, rfl, rfl, rfl, rfl, rfl, rfl, rfl, rfl⟩

theorem witness_WritesProgramsAndTileResets2 :
    (((tThroughCold).works = true)) ∧ (((tThroughCold).resident ((0 : BitVec 36)).toNat = some ((0), (({ tag := 0, wt := true, dirty := true } : VWay))))) ∧ (((tThroughCold).homeOf ((0 : BitVec 36)).toNat = some (tPlace))) ∧ (((tThroughCold).throughWaiting ((0 : BitVec 36)).toNat ≠ 0)) ∧ (((tThroughCold).throughRuns ((0 : BitVec 36)).toNat = false)) ∧ (((({ tag := 0, wt := true, dirty := true } : VWay)).wt = true)) ∧ (((({ tag := 0, wt := true, dirty := true } : VWay)).whole = true)) ∧ (((tThroughCold).pathFor ((0 : BitVec 36)).toNat true = .cold)) ∧ (((tThroughCold).egress ((0 : BitVec 36)).toNat (({ tag := 0, wt := true, dirty := true } : VWay)).data (({} : EgressErr)) = ((tThroughCold), true))) ∧ (((tThroughCold).pastTolerance (tPlace) = false)) ∧ (((tThroughCold).coldOpen ((0 : BitVec 36)).toNat (tPlace) = true)) :=
  ⟨rfl, rfl, rfl, by decide, rfl, rfl, rfl, rfl, rfl, rfl, rfl⟩

theorem witness_WritesProgramsAndTileResets3 :
    (((tBufferedHot).velvet.bufs.find ((5 : Fin 4096)).val = some (({ tBuf with hotPath := true } : HBuf)))) ∧ (((tBufferedHot).twill.lanes.find ((9 : Fin 256)).val = some (tLane))) ∧ (((({ tBuf with hotPath := true } : HBuf)).issued = false)) ∧ (((tBufferedHot).works = true)) ∧ (((tBufferedHot).pathFor (({ tBuf with hotPath := true } : HBuf)).li (({ tBuf with hotPath := true } : HBuf)).hotPath = .hot)) ∧ (((tBufferedHot).egress (({ tBuf with hotPath := true } : HBuf)).li (({ tBuf with hotPath := true } : HBuf)).data (({} : EgressErr)) = ((tBufferedHot), true))) ∧ (((tBufferedHot).laneQualifies (({ tBuf with hotPath := true } : HBuf)).li (tLane) = true)) ∧ (((tBufferedHot).laneChosen ((9 : Fin 256)).val = false)) ∧ (((tBufferedHot).tagRoom (({ tBuf with hotPath := true } : HBuf)).li = true)) ∧ ((((tBufferedHot).hotWayFor (({ tBuf with hotPath := true } : HBuf)).li).isNone = false)) ∧ (((tBufferedHot).lineGone ((tBufferedHot).laneLoc (tLane)) = false)) :=
  ⟨rfl, rfl, rfl, rfl, rfl, rfl, rfl, rfl, rfl, rfl, rfl⟩

theorem witness_WritesProgramsAndTileResets4 :
    (((tThrough).chosenLane ((0 : BitVec 36)).toNat = none)) ∧ (((tThrough).resident ((0 : BitVec 36)).toNat = some ((0), (({ tag := 0, wt := true, dirty := true } : VWay))))) ∧ (((tThrough).twill.lanes.find ((9 : Fin 256)).val = some (tLane))) ∧ (((tThrough).throughWaiting ((0 : BitVec 36)).toNat ≠ 0)) ∧ (((tThrough).throughRuns ((0 : BitVec 36)).toNat = false)) ∧ (((({ tag := 0, wt := true, dirty := true } : VWay)).wt = true)) ∧ (((({ tag := 0, wt := true, dirty := true } : VWay)).whole = true)) ∧ (((tThrough).works = true)) ∧ (((tThrough).pathFor ((0 : BitVec 36)).toNat true = .hot)) ∧ (((tThrough).throughLane ((0 : BitVec 36)).toNat (tLane) = true)) ∧ (((tThrough).tagRoom ((0 : BitVec 36)).toNat = true)) ∧ (((tThrough).egress ((0 : BitVec 36)).toNat (({ tag := 0, wt := true, dirty := true } : VWay)).data (({} : EgressErr)) = ((tThrough), true))) :=
  ⟨rfl, rfl, rfl, by decide, rfl, rfl, rfl, rfl, rfl, rfl, rfl, rfl⟩

theorem witness_WritesProgramsAndTileResets5 :
    (((((tRun.onPart 802 fun _ => { op := .program 9 { data := 0, md := 0 } (.record tMem) false false 0 }).part (partOf ((3 : Fin 32)) ((1 : Fin 8)) ((2 : Fin 32)))).suspended = false)) ∧ ((((tRun.onPart 802 fun _ => { op := .program 9 { data := 0, md := 0 } (.record tMem) false false 0 }).part (partOf ((3 : Fin 32)) ((1 : Fin 8)) ((2 : Fin 32)))).op = .program (9) (({ data := 0, md := 0 } : MLine)) (ProgFor.record tMem) (false) (false) (0))) ∧ ((((tRun.onPart 802 fun _ => { op := .program 9 { data := 0, md := 0 } (.record tMem) false false 0 }).dieBusy (partOf (3 : Fin 32) (1 : Fin 8) (2 : Fin 32) / 32) ((tRun.onPart 802 fun _ => { op := .program 9 { data := 0, md := 0 } (.record tMem) false false 0 }).since ((tRun.onPart 802 fun _ => { op := .program 9 { data := 0, md := 0 } (.record tMem) false false 0 }).part (partOf (3 : Fin 32) (1 : Fin 8) (2 : Fin 32))).since)).dieFailed (partOf ((3 : Fin 32)) ((1 : Fin 8)) ((2 : Fin 32)) / 32) = false)) ∧ (((((tRun.onPart 802 fun _ => { op := .program 9 { data := 0, md := 0 } (.record tMem) false false 0 }).dieBusy (partOf (3 : Fin 32) (1 : Fin 8) (2 : Fin 32) / 32) ((tRun.onPart 802 fun _ => { op := .program 9 { data := 0, md := 0 } (.record tMem) false false 0 }).since ((tRun.onPart 802 fun _ => { op := .program 9 { data := 0, md := 0 } (.record tMem) false false 0 }).part (partOf (3 : Fin 32) (1 : Fin 8) (2 : Fin 32))).since)).part (partOf ((3 : Fin 32)) ((1 : Fin 8)) ((2 : Fin 32)))).op = .program (9) (({ data := 0, md := 0 } : MLine)) (ProgFor.record tMem) (false) (false) (0)))) ∧ (((tRun.onPart 802 fun _ => { op := .program 9 { data := 0, md := 0 } (.record tMem) false false 0 }).dieBusy (partOf ((3 : Fin 32)) ((1 : Fin 8)) ((2 : Fin 32)) / 32) ((tRun.onPart 802 fun _ => { op := .program 9 { data := 0, md := 0 } (.record tMem) false false 0 }).since ((tRun.onPart 802 fun _ => { op := .program 9 { data := 0, md := 0 } (.record tMem) false false 0 }).part (partOf ((3 : Fin 32)) ((1 : Fin 8)) ((2 : Fin 32)))).since) = ((tRun.onPart 802 fun _ => { op := .program 9 { data := 0, md := 0 } (.record tMem) false false 0 }).dieBusy (partOf (3 : Fin 32) (1 : Fin 8) (2 : Fin 32) / 32) ((tRun.onPart 802 fun _ => { op := .program 9 { data := 0, md := 0 } (.record tMem) false false 0 }).since ((tRun.onPart 802 fun _ => { op := .program 9 { data := 0, md := 0 } (.record tMem) false false 0 }).part (partOf (3 : Fin 32) (1 : Fin 8) (2 : Fin 32))).since)))) ∧ (((true) = true)) ∧ (((false) = false)) :=
  ⟨by decide +kernel, rfl, rfl, rfl⟩

theorem witness_WritesProgramsAndTileResets6 :
    (((((tRun.onPart 802 fun _ => { op := .program 9 { data := 0, md := 0 } (.record tMem) false true 0 }).part (partOf ((3 : Fin 32)) ((1 : Fin 8)) ((2 : Fin 32)))).suspended = false)) ∧ ((((tRun.onPart 802 fun _ => { op := .program 9 { data := 0, md := 0 } (.record tMem) false true 0 }).part (partOf ((3 : Fin 32)) ((1 : Fin 8)) ((2 : Fin 32)))).op = .program (9) (({ data := 0, md := 0 } : MLine)) (ProgFor.record tMem) (false) (true) (0))) ∧ ((((tRun.onPart 802 fun _ => { op := .program 9 { data := 0, md := 0 } (.record tMem) false true 0 }).dieBusy (partOf (3 : Fin 32) (1 : Fin 8) (2 : Fin 32) / 32) ((tRun.onPart 802 fun _ => { op := .program 9 { data := 0, md := 0 } (.record tMem) false true 0 }).since ((tRun.onPart 802 fun _ => { op := .program 9 { data := 0, md := 0 } (.record tMem) false true 0 }).part (partOf (3 : Fin 32) (1 : Fin 8) (2 : Fin 32))).since)).dieFailed (partOf ((3 : Fin 32)) ((1 : Fin 8)) ((2 : Fin 32)) / 32) = false)) ∧ (((((tRun.onPart 802 fun _ => { op := .program 9 { data := 0, md := 0 } (.record tMem) false true 0 }).dieBusy (partOf (3 : Fin 32) (1 : Fin 8) (2 : Fin 32) / 32) ((tRun.onPart 802 fun _ => { op := .program 9 { data := 0, md := 0 } (.record tMem) false true 0 }).since ((tRun.onPart 802 fun _ => { op := .program 9 { data := 0, md := 0 } (.record tMem) false true 0 }).part (partOf (3 : Fin 32) (1 : Fin 8) (2 : Fin 32))).since)).part (partOf ((3 : Fin 32)) ((1 : Fin 8)) ((2 : Fin 32)))).op = .program (9) (({ data := 0, md := 0 } : MLine)) (ProgFor.record tMem) (false) (true) (0)))) ∧ (((tRun.onPart 802 fun _ => { op := .program 9 { data := 0, md := 0 } (.record tMem) false true 0 }).dieBusy (partOf ((3 : Fin 32)) ((1 : Fin 8)) ((2 : Fin 32)) / 32) ((tRun.onPart 802 fun _ => { op := .program 9 { data := 0, md := 0 } (.record tMem) false true 0 }).since ((tRun.onPart 802 fun _ => { op := .program 9 { data := 0, md := 0 } (.record tMem) false true 0 }).part (partOf ((3 : Fin 32)) ((1 : Fin 8)) ((2 : Fin 32)))).since) = ((tRun.onPart 802 fun _ => { op := .program 9 { data := 0, md := 0 } (.record tMem) false true 0 }).dieBusy (partOf (3 : Fin 32) (1 : Fin 8) (2 : Fin 32) / 32) ((tRun.onPart 802 fun _ => { op := .program 9 { data := 0, md := 0 } (.record tMem) false true 0 }).since ((tRun.onPart 802 fun _ => { op := .program 9 { data := 0, md := 0 } (.record tMem) false true 0 }).part (partOf (3 : Fin 32) (1 : Fin 8) (2 : Fin 32))).since)))) ∧ (((true) = true)) ∧ (((true) = true)) :=
  ⟨by decide +kernel, rfl, rfl, rfl⟩

theorem witness_WritesProgramsAndTileResets7 :
    (((((tRun.onPart 802 fun _ => { op := .program 9 { data := 0, md := 0 } (.record tMem) false false 0 }).part (partOf ((3 : Fin 32)) ((1 : Fin 8)) ((2 : Fin 32)))).suspended = false)) ∧ ((((tRun.onPart 802 fun _ => { op := .program 9 { data := 0, md := 0 } (.record tMem) false false 0 }).part (partOf ((3 : Fin 32)) ((1 : Fin 8)) ((2 : Fin 32)))).op = .program (9) (({ data := 0, md := 0 } : MLine)) (ProgFor.record tMem) (false) (false) (0))) ∧ ((((tRun.onPart 802 fun _ => { op := .program 9 { data := 0, md := 0 } (.record tMem) false false 0 }).dieBusy (partOf (3 : Fin 32) (1 : Fin 8) (2 : Fin 32) / 32) ((tRun.onPart 802 fun _ => { op := .program 9 { data := 0, md := 0 } (.record tMem) false false 0 }).since ((tRun.onPart 802 fun _ => { op := .program 9 { data := 0, md := 0 } (.record tMem) false false 0 }).part (partOf (3 : Fin 32) (1 : Fin 8) (2 : Fin 32))).since)).dieFailed (partOf ((3 : Fin 32)) ((1 : Fin 8)) ((2 : Fin 32)) / 32) = false)) ∧ (((((tRun.onPart 802 fun _ => { op := .program 9 { data := 0, md := 0 } (.record tMem) false false 0 }).dieBusy (partOf (3 : Fin 32) (1 : Fin 8) (2 : Fin 32) / 32) ((tRun.onPart 802 fun _ => { op := .program 9 { data := 0, md := 0 } (.record tMem) false false 0 }).since ((tRun.onPart 802 fun _ => { op := .program 9 { data := 0, md := 0 } (.record tMem) false false 0 }).part (partOf (3 : Fin 32) (1 : Fin 8) (2 : Fin 32))).since)).part (partOf ((3 : Fin 32)) ((1 : Fin 8)) ((2 : Fin 32)))).op = .program (9) (({ data := 0, md := 0 } : MLine)) (ProgFor.record tMem) (false) (false) (0)))) ∧ (((tRun.onPart 802 fun _ => { op := .program 9 { data := 0, md := 0 } (.record tMem) false false 0 }).dieBusy (partOf ((3 : Fin 32)) ((1 : Fin 8)) ((2 : Fin 32)) / 32) ((tRun.onPart 802 fun _ => { op := .program 9 { data := 0, md := 0 } (.record tMem) false false 0 }).since ((tRun.onPart 802 fun _ => { op := .program 9 { data := 0, md := 0 } (.record tMem) false false 0 }).part (partOf ((3 : Fin 32)) ((1 : Fin 8)) ((2 : Fin 32)))).since) = ((tRun.onPart 802 fun _ => { op := .program 9 { data := 0, md := 0 } (.record tMem) false false 0 }).dieBusy (partOf (3 : Fin 32) (1 : Fin 8) (2 : Fin 32) / 32) ((tRun.onPart 802 fun _ => { op := .program 9 { data := 0, md := 0 } (.record tMem) false false 0 }).since ((tRun.onPart 802 fun _ => { op := .program 9 { data := 0, md := 0 } (.record tMem) false false 0 }).part (partOf (3 : Fin 32) (1 : Fin 8) (2 : Fin 32))).since)))) ∧ (((false) = false)) :=
  ⟨by decide +kernel, rfl, rfl⟩

theorem witness_CacheMaintenanceByRequest1 :
    (WriteRuns (tRange) (Src.mb Head.A true) 0x6010 0x03 [1] (((tRange).touch (Src.mb Head.A true)))) ∧ ((((tRange).touch (Src.mb Head.A true))).velvet.rangeOp = none) ∧ ((((tRange).touch (Src.mb Head.A true))).cfg 0x6010 0x02 ≠ 0) ∧ ((((tRange).touch (Src.mb Head.A true))).addedBytes ((((tRange).touch (Src.mb Head.A true))).cfg 0x6010 0x01 / 128 * 128) (((((tRange).touch (Src.mb Head.A true))).cfg 0x6010 0x01 + (((tRange).touch (Src.mb Head.A true))).cfg 0x6010 0x02 + 127) / 128 * 128) = (((((tRange).touch (Src.mb Head.A true))).cfg 0x6010 0x01 + (((tRange).touch (Src.mb Head.A true))).cfg 0x6010 0x02 + 127) / 128 * 128) - ((((tRange).touch (Src.mb Head.A true))).cfg 0x6010 0x01 / 128 * 128)) :=
  ⟨(writes_of (fun _ => rfl) (by decide +kernel)), by decide +kernel⟩

theorem witness_CacheMaintenanceByRequest2 :
    (WriteRuns (tRange) (Src.mb Head.A true) 0x6010 0x03 [2] (((tRange).touch (Src.mb Head.A true)))) ∧ ((((tRange).touch (Src.mb Head.A true))).velvet.rangeOp = none) ∧ ((((tRange).touch (Src.mb Head.A true))).cfg 0x6010 0x02 ≠ 0) ∧ ((((tRange).touch (Src.mb Head.A true))).addedBytes ((((tRange).touch (Src.mb Head.A true))).cfg 0x6010 0x01 / 128 * 128) (((((tRange).touch (Src.mb Head.A true))).cfg 0x6010 0x01 + (((tRange).touch (Src.mb Head.A true))).cfg 0x6010 0x02 + 127) / 128 * 128) = (((((tRange).touch (Src.mb Head.A true))).cfg 0x6010 0x01 + (((tRange).touch (Src.mb Head.A true))).cfg 0x6010 0x02 + 127) / 128 * 128) - ((((tRange).touch (Src.mb Head.A true))).cfg 0x6010 0x01 / 128 * 128)) :=
  ⟨(writes_of (fun _ => rfl) (by decide +kernel)), by decide +kernel⟩

theorem witness_CacheMaintenanceByRequest3 :
    (WriteRuns (tRange) (Src.mb Head.A true) 0x6010 0x03 [3] (((tRange).touch (Src.mb Head.A true)))) ∧ ((((tRange).touch (Src.mb Head.A true))).velvet.rangeOp = none) ∧ ((((tRange).touch (Src.mb Head.A true))).cfg 0x6010 0x02 ≠ 0) ∧ ((((tRange).touch (Src.mb Head.A true))).addedBytes ((((tRange).touch (Src.mb Head.A true))).cfg 0x6010 0x01 / 128 * 128) (((((tRange).touch (Src.mb Head.A true))).cfg 0x6010 0x01 + (((tRange).touch (Src.mb Head.A true))).cfg 0x6010 0x02 + 127) / 128 * 128) = (((((tRange).touch (Src.mb Head.A true))).cfg 0x6010 0x01 + (((tRange).touch (Src.mb Head.A true))).cfg 0x6010 0x02 + 127) / 128 * 128) - ((((tRange).touch (Src.mb Head.A true))).cfg 0x6010 0x01 / 128 * 128)) :=
  ⟨(writes_of (fun _ => rfl) (by decide +kernel)), by decide +kernel⟩

theorem witness_CacheMaintenanceByRequest4 :
    (WriteRuns (tDirty) (Src.mb Head.A true) 0x6020 0x01 (addressForm ((0 : BitVec 57)) 1) (((tDirty).touch (Src.mb Head.A true)))) ∧ ((((tDirty).touch (Src.mb Head.A true))).velvet.rangeOp = none) ∧ ((((tDirty).touch (Src.mb Head.A true))).lineNamed ((0 : BitVec 57)).toNat = some (0)) :=
  ⟨(writes_of (fun _ => rfl) (by decide +kernel)), by decide +kernel⟩

theorem witness_CacheMaintenanceByRequest5 :
    (WriteRuns (tDirty) (Src.mb Head.A true) 0x6020 0x01 (addressForm ((0 : BitVec 57)) 2) (((tDirty).touch (Src.mb Head.A true)))) ∧ ((((tDirty).touch (Src.mb Head.A true))).velvet.rangeOp = none) ∧ ((((tDirty).touch (Src.mb Head.A true))).lineNamed ((0 : BitVec 57)).toNat = some (0)) :=
  ⟨(writes_of (fun _ => rfl) (by decide +kernel)), by decide +kernel⟩

theorem witness_CacheMaintenanceByRequest6 :
    (WriteRuns (tDirty) (Src.mb Head.A true) 0x6020 0x01 (addressForm ((0 : BitVec 57)) 3) (((tDirty).touch (Src.mb Head.A true)))) ∧ ((((tDirty).touch (Src.mb Head.A true))).velvet.rangeOp = none) ∧ ((((tDirty).touch (Src.mb Head.A true))).lineNamed ((0 : BitVec 57)).toNat = some (0)) :=
  ⟨(writes_of (fun _ => rfl) (by decide +kernel)), by decide +kernel⟩

theorem witness_CacheMaintenanceByRequest7 :
    (WriteRuns (tDirty) (Src.mb Head.A true) 0x6020 0x02 (setWayForm ((0 : Fin 16384)) ((0 : Fin 16)) 1) (((tDirty).touch (Src.mb Head.A true)))) ∧ ((((tDirty).touch (Src.mb Head.A true))).velvet.rangeOp = none) ∧ ((((tDirty).touch (Src.mb Head.A true))).wayNamed ((0 : Fin 16384)).val ((0 : Fin 16)).val = some (0)) :=
  ⟨(writes_of (fun _ => rfl) (by decide +kernel)), by decide +kernel⟩

theorem witness_CacheMaintenanceByRequest8 :
    (WriteRuns (tDirty) (Src.mb Head.A true) 0x6020 0x02 (setWayForm ((0 : Fin 16384)) ((0 : Fin 16)) 2) (((tDirty).touch (Src.mb Head.A true)))) ∧ ((((tDirty).touch (Src.mb Head.A true))).velvet.rangeOp = none) ∧ ((((tDirty).touch (Src.mb Head.A true))).wayNamed ((0 : Fin 16384)).val ((0 : Fin 16)).val = some (0)) :=
  ⟨(writes_of (fun _ => rfl) (by decide +kernel)), by decide +kernel⟩

theorem witness_CacheMaintenanceByRequest9 :
    (WriteRuns (tDirty) (Src.mb Head.A true) 0x6020 0x02 (setWayForm ((0 : Fin 16384)) ((0 : Fin 16)) 3) (((tDirty).touch (Src.mb Head.A true)))) ∧ ((((tDirty).touch (Src.mb Head.A true))).velvet.rangeOp = none) ∧ ((((tDirty).touch (Src.mb Head.A true))).wayNamed ((0 : Fin 16384)).val ((0 : Fin 16)).val = some (0)) :=
  ⟨(writes_of (fun _ => rfl) (by decide +kernel)), by decide +kernel⟩

theorem witness_CleaningHintsBarriersAndFlush :
    (((tRun).works = true)) ∧
    (((tRun.onVelvet fun x => { x with rangeOp := some { code := 1, lines := [] } }).maintain.velvet.rangeOp = some (({ code := 1, lines := [] } : RangeOp))) ∧ ((({ code := 1, lines := [] } : RangeOp)).lines = [])) ∧
    (((tRun).barOpen (Head.A) = true) ∧ (((BitVec.ofNat 128 (4096 * 2 ^ 64 + 128))).getLsbD 96 = false) ∧ (fld ((BitVec.ofNat 128 (4096 * 2 ^ 64 + 128))).toNat 64 32 ≠ 0) ∧ (fld ((BitVec.ofNat 128 (4096 * 2 ^ 64 + 128))).toNat 64 32 ≤ 4096) ∧ (((tRun).head (Head.A)).hints.length < 256)) ∧
    (((tRun).barOpen (Head.A) = true) ∧ (((BitVec.ofNat 128 128)).getLsbD 96 = false) ∧ ((fld ((BitVec.ofNat 128 128)).toNat 64 32 = 0 ∨ 4096 < fld ((BitVec.ofNat 128 128)).toNat 64 32 ∨ 256 ≤ ((tRun).head (Head.A)).hints.length))) ∧
    (((tRun).barOpen (Head.A) = true)) := by
  decide +kernel

theorem witness_CleaningHintsBarriersAndFlushA :
    ((nextHint ((tHinted).head (Head.A)).hints = some ((3), (([] : List (Nat × Nat))))) ∧ ((tHinted).works = true) ∧ ((tHinted).hintSkips (3) = false) ∧ ((tHinted).gateOpen (3) = true) ∧ ((((tHinted).onHead (Head.A) fun x => { x with hints := (([] : List (Nat × Nat))) }).allocate (3) true { tag := 0, fillp := true, pf := true, mask := 0 }).isSome = true)) ∧
    ((nextHint (((tRun.onHead .A fun x => { x with hints := [(2 ^ 40, 1)] })).head (Head.A)).hints = some ((2 ^ 40), (([] : List (Nat × Nat))))) ∧ (((tRun.onHead .A fun x => { x with hints := [(2 ^ 40, 1)] })).works = true) ∧ (((tRun.onHead .A fun x => { x with hints := [(2 ^ 40, 1)] })).hintSkips (2 ^ 40) = true)) ∧
    (((tRun.onPath fun x => { x with barriers := [{ num := 1, start := 0, lines := [] }] }).path.barriers = (({ num := 1, start := 0, lines := [] } : Barrier)) :: (([] : List Barrier))) ∧ ((({ num := 1, start := 0, lines := [] } : Barrier)).lines = []) ∧ ((({ num := 1, start := 0, lines := [] } : Barrier)).lost = [])) := by
  decide +kernel

theorem witness_CleaningHintsBarriersAndFlushB :
    (((tRun.onPath fun x => { x with barriers := [{ num := 1, start := 0, lines := [], lost := [5] }] }).path.barriers = (({ num := 1, start := 0, lines := [], lost := [5] } : Barrier)) :: (([] : List Barrier))) ∧ ((({ num := 1, start := 0, lines := [], lost := [5] } : Barrier)).lines = []) ∧ ((({ num := 1, start := 0, lines := [], lost := [5] } : Barrier)).lost ≠ [])) ∧
    (((tRun).barOpen (Head.A) = true)) ∧
    (((tRun).barOpen (Head.A) = true) ∧ (((tRun).head (Head.A)).gpf = none)) ∧
    ((((tRun.onHead .A fun x => { x with gpf := some (0, []) }).head (Head.A)).gpf = some ((0), (([] : List Nat)))) ∧ ((((([] : List Nat)).all fun r => !(tRun.onHead .A fun x => { x with gpf := some (0, []) }).openWrites.contains r) || decide ((0) + 10000 ≤ (tRun.onHead .A fun x => { x with gpf := some (0, []) }).now)) = true)) := by
  decide +kernel

theorem witness_CleaningHintsBarriersAndFlush1 :
    (((((tMgr).touch (Src.mb Head.A true))).path.barriers.length < 8)) ∧ ((WriteRuns (tMgr) (Src.mb Head.A true) 0x6040 0x01 [1] (((tMgr).touch (Src.mb Head.A true))))) :=
  ⟨by decide +kernel, (writes_of (fun _ => rfl) (by decide +kernel))⟩

theorem witness_MailboxReports :
    (((tRun).mailboxOpen (Head.A) = true)) ∧
    (((tRun).mailboxOpen (Head.A) = true)) ∧
    (((tRun).mailboxOpen (Head.A) = true)) ∧
    (((tRun).mailboxOpen (Head.A) = true)) ∧
    (((tRun).mailboxOpen (Head.A) = true)) ∧
    (((tRun).mailboxOpen (Head.A) = true)) ∧
    (((tRun).mailboxOpen (Head.A) = true)) ∧
    (((tRun).mailboxOpen (Head.A) = true)) ∧
    (((tRun).mailboxOpen (Head.A) = true)) ∧
    (((tRun).mailboxOpen (Head.A) = true)) ∧
    (((tRun).mailboxOpen (Head.A) = true)) ∧
    (((tRun).mailboxOpen (Head.A) = true)) := by
  decide +kernel

theorem witness_MailboxSettingsPoisonAndScan :
    (((tRun).mailboxOpen (Head.A) = true) ∧ (((([] : List Nat)).all fun n => (((tRun).head (Head.A)).log (EvLog.warning)).recs.any fun r => r.handle == n) = true)) ∧
    (((tRun).mailboxOpen (Head.A) = true) ∧ ((([(EvLog.warning, some 7)]).all fun p => (p.2.getD 0) < 8) = true)) ∧
    (((tRun.at { t := 0, nvwp := true }).mailboxOpen (Head.A) = true) ∧ (((tRun.at { t := 0, nvwp := true }).head (otherHead (Head.A))).fwOpen = false) ∧ ((tRun.at { t := 0, nvwp := true }).nvwp = true)) ∧
    (((tRun.onFelt fun f => { f with fw := { f.fw with slotB := some tImage } }).mailboxOpen (Head.A) = true) ∧ ((if (2) = 1 then (tRun.onFelt fun f => { f with fw := { f.fw with slotB := some tImage } }).felt.fw.slotA else if (2) = 2 then (tRun.onFelt fun f => { f with fw := { f.fw with slotB := some tImage } }).felt.fw.slotB else none) = some (tImage))) ∧
    (((tRun).mailboxOpen (Head.A) = true)) ∧
    (((tRun).mailboxOpen (Head.A) = true)) ∧
    (((tRun).mailboxOpen (Head.A) = true)) := by
  decide +kernel

theorem witness_MailboxSettingsPoisonAndScanA :
    (((tRun).mailboxOpen (Head.A) = true) ∧ (((tRun).head (Head.A)).poisonPos = none)) ∧
    (((tRun.odSet 0x5830 3 1).mailboxOpen (Head.A) = true) ∧ ((tRun.odSet 0x5830 3 1).cfg 0x5830 0x03 ≠ 0) ∧ ((tRun.odSet 0x5830 3 1).regionEntry (regionOfLine (lineOf (64))) = some (tEntry))) ∧
    (((tRun).mailboxOpen (Head.A) = true) ∧ ((tRun).memoryActive = true) ∧ ((tRun).hasCapacity (Head.A) ((64) % 2 ^ 43) = true) ∧ (inWindow ((64) % 2 ^ 43) = false) ∧ ((tRun).stopped = false) ∧ ((tRun).takes (Head.A) = true)) ∧
    (((tRun).mailboxOpen (Head.A) = true)) := by
  decide +kernel

theorem witness_MailboxSettingsPoisonAndScanB :
    (((tRun).mailboxOpen (Head.A) = true) ∧ ((tRun).bgRuns = false)) ∧
    (((tRun).mailboxOpen (Head.A) = true)) := by
  decide +kernel

theorem witness_DictionaryReadAndWrite1 :
    (Requests (tMgr) (Src.mb Head.A true) { op := 1, idx := ((0x1100 : BitVec 16)).toNat, sub := ((1 : BitVec 8)).toNat } (((tMgr).touch (Src.mb Head.A true)))) ∧ ((((tMgr).touch (Src.mb Head.A true))).checkRead (Src.mb Head.A true) ((0x1100 : BitVec 16)).toNat ((1 : BitVec 8)).toNat = 0) ∧ (¬ (((0x1100 : BitVec 16)) = 0x1210 ∧ ((1 : BitVec 8)) = 2)) :=
  ⟨(fun _ => rfl), by decide +kernel⟩

theorem witness_DictionaryReadAndWrite2 :
    (WriteRuns (tMgr) (Src.mb Head.A true) ((0x7002 : BitVec 16)).toNat ((6 : BitVec 8)).toNat (([1] : List Byte)) (((tMgr).touch (Src.mb Head.A true)))) :=
  (writes_of (fun _ => rfl) (by decide +kernel))

theorem witness_DictionaryReadAndWrite3 :
    (Requests (tMgr) (Src.mb Head.A true) { op := 3, idx := ((0x1200 : BitVec 16)).toNat, sub := ((0xC : BitVec 8)).toNat, w67 := (([60, 0, 0, 0] : List Byte)).length, data := (([60, 0, 0, 0] : List Byte)) } (((tMgr).touch (Src.mb Head.A true)))) ∧ ((((tMgr).touch (Src.mb Head.A true))).checkWrite (Src.mb Head.A true) true ((0x1200 : BitVec 16)).toNat ((0xC : BitVec 8)).toNat (([60, 0, 0, 0] : List Byte)) = 0) ∧ (stageRange ((0x1200 : BitVec 16)).toNat (leNat (([60, 0, 0, 0] : List Byte))) = true) ∧ ((((tMgr).touch (Src.mb Head.A true))).muslin.mayStage (transOf (Src.mb Head.A true)) = true) ∧ ((((tMgr).touch (Src.mb Head.A true))).muslin.stagePut (odKey ((0x1200 : BitVec 16)).toNat ((0xC : BitVec 8)).toNat) (([60, 0, 0, 0] : List Byte)) = some ([(odKey 0x1200 0xC, ([60, 0, 0, 0] : List Byte))])) :=
  ⟨(fun _ => rfl), by decide +kernel⟩

theorem witness_DictionaryReadAndWrite4 :
    (Requests (tMgr) (Src.mb Head.A true) { op := 6 } (((tMgr).touch (Src.mb Head.A true)))) :=
  (fun _ => rfl)

theorem witness_DictionaryReadAndWrite5 :
    (WriteRuns (tMgr) (Src.mb Head.A true) 0x1200 0x0D [1] (((tMgr).touch (Src.mb Head.A true)))) ∧ ((((tMgr).touch (Src.mb Head.A true))).muslin.mayStage (transOf (Src.mb Head.A true)) = true) ∧ ((stagedDefaults.foldl (fun m e => m.put e.1 e.2) (((tMgr).touch (Src.mb Head.A true))).muslin.staged).length ≤ 1024) ∧ (({ (((tMgr).touch (Src.mb Head.A true))).muslin with staged := stagedDefaults.foldl (fun m e => m.put e.1 e.2) (((tMgr).touch (Src.mb Head.A true))).muslin.staged } : Muslin).bytes ≤ 65536) :=
  ⟨(writes_of (fun _ => rfl) (by decide +kernel)), by decide +kernel⟩

theorem witness_StagedSets :
    (((tStaged.at { t := 10000000000000, nvwp := true }).muslin.state = 1) ∧ ((tStaged.at { t := 10000000000000, nvwp := true }).cfg 0x1200 0x0C * 1000000000 ≤ (tStaged.at { t := 10000000000000, nvwp := true }).since (tStaged.at { t := 10000000000000, nvwp := true }).muslin.lastAct)) ∧
    (((tRun.onMuslin fun m => { m with state := 2 }).muslin.state = 2) ∧ ((tRun.onMuslin fun m => { m with state := 2 }).brokenRule (true) [1, 2, 3, 4, 5, 6, 7, 8, 9, 10, 11] = none)) ∧
    (((tRun.onMuslin fun m => { m with state := 3 }).muslin.state = 3) ∧ ((tRun.onMuslin fun m => { m with state := 3 }).instantReached = true) ∧ ((tRun.onMuslin fun m => { m with state := 3 }).applyOpen = true) ∧ ((tRun.onMuslin fun m => { m with state := 3 }).brokenRule true [1, 2, 3, 4, 7] = none) ∧ ((([] : List Dom)) = [])) ∧
    ((((tRun.at { t := 1500, nvwp := true }).onMuslin fun m => { m with state := 4, stuck := some (0, []) }).muslin.stuck = some ((0), (([] : List Dom)))) ∧ (1500 ≤ ((tRun.at { t := 1500, nvwp := true }).onMuslin fun m => { m with state := 4, stuck := some (0, []) }).since (0))) ∧
    (((tRun).running = true)) := by
  decide +kernel

theorem witness_StagedSets1 :
    (Requests (tStaged) (Src.mb Head.A true) { op := 4, data := leBytes 1 ((0 : BitVec 8)).toNat ++ leBytes 6 ((0 : BitVec 48)).toNat } (((tStaged).touch (Src.mb Head.A true)))) ∧ (applyAtOf ((0 : BitVec 8)).toNat ((0 : BitVec 48)).toNat = some (ApplyAt.immediate)) ∧ ((((tStaged).touch (Src.mb Head.A true))).muslin.state = 1) ∧ ((((tStaged).touch (Src.mb Head.A true))).muslin.owner = transOf (Src.mb Head.A true)) :=
  ⟨(fun _ => rfl), by decide +kernel⟩

theorem witness_StagedSets2 :
    (Requests (tStaged) (Src.mb Head.A true) { op := 5 } (((tStaged).touch (Src.mb Head.A true)))) ∧ ((((tStaged).touch (Src.mb Head.A true))).muslin.owner = transOf (Src.mb Head.A true)) ∧ (((((tStaged).touch (Src.mb Head.A true))).muslin.state = 1 ∨ (((tStaged).touch (Src.mb Head.A true))).muslin.state = 3)) :=
  ⟨(fun _ => rfl), by decide +kernel⟩

theorem witness_MaintenanceSessions :
    ((((tMgr.at { t := 10000000000000, nvwp := true }).session (transOf (Src.mb Head.A true))).maint = true) ∧ ((tMgr.at { t := 10000000000000, nvwp := true }).cfg 0x1210 0x07 * 1000000000 ≤ (tMgr.at { t := 10000000000000, nvwp := true }).since ((tMgr.at { t := 10000000000000, nvwp := true }).session (transOf (Src.mb Head.A true))).lastReq)) ∧
    ((((tRun.onSession 1 fun x => { x with lockout := some 0 }).session (transOf (Src.mb Head.A true))).lockout = some (0)) ∧ ((0) ≤ (tRun.onSession 1 fun x => { x with lockout := some 0 }).now)) := by
  decide +kernel

theorem witness_MaintenanceSessions1 :
    (Requests (tMgr) (Src.mb Head.A true) { op := 1, idx := 0x1210, sub := 2 } (((tMgr).touch (Src.mb Head.A true)))) :=
  (fun _ => rfl)

theorem witness_MaintenanceSessions2 :
    (((¬ (transOf (Src.mb Head.A true) = 3 ∧ (((tChal).touch (Src.mb Head.A true))).can.access ≠ 2))) ∧ ((((((tChal).touch (Src.mb Head.A true))).session (transOf (Src.mb Head.A true))).lockout = none)) ∧ ((((((tChal).touch (Src.mb Head.A true))).felt.maintKey = none → (((tChal).touch (Src.mb Head.A true))).nvwp = true)))) ∧ ((WriteRuns (tChal) (Src.mb Head.A true) 0x1210 0x03 (leBytes 8 ((5 : BitVec 64)).toNat) (((tChal).touch (Src.mb Head.A true))))) ∧ (((∀ k, (((tChal).touch (Src.mb Head.A true))).felt.maintKey = some k → (((tChal).touch (Src.mb Head.A true))).responseRight (transOf (Src.mb Head.A true)) k ((5 : BitVec 64)) = true))) :=
  ⟨by decide +kernel, (writes_of (fun _ => rfl) (by decide +kernel)), by intro k h; exact absurd (show none = some k from h) (by simp)⟩

theorem witness_MaintenanceSessions3 :
    (WriteRuns (tMgr) (Src.mb Head.A true) 0x1210 0x04 [1] (((tMgr).touch (Src.mb Head.A true)))) :=
  (writes_of (fun _ => rfl) (by decide +kernel))

theorem witness_KeysAndObjects1 :
    (OpensWrite (tProv) (Src.mb Head.A true) 0x1210 0x05 (leBytes 32 ((7 : BitVec 256)).toNat) (((tProv).touch (Src.mb Head.A true)))) :=
  (opensWrite_of (fun _ => rfl) rfl (by decide +kernel))

theorem witness_KeysAndObjects2 :
    (((((tProv).touch (Src.mb Head.A true))).feltProtected 2 = false)) ∧ ((OpensWrite (tProv) (Src.mb Head.A true) 0x1230 0x06 (leBytes 32 ((7 : BitVec 256)).toNat) (((tProv).touch (Src.mb Head.A true))))) :=
  ⟨by decide +kernel, (opensWrite_of (fun _ => rfl) rfl (by decide +kernel))⟩

theorem witness_KeysAndObjects3 :
    (OpensWrite (tProv) (Src.mb Head.A true) 0x6820 0x01 (leBytes 32 ((7 : BitVec 256)).toNat) (((tProv).touch (Src.mb Head.A true)))) :=
  (opensWrite_of (fun _ => rfl) rfl (by decide +kernel))

theorem witness_KeysAndObjects4 :
    (OpensWrite (tProv) (Src.mb Head.A true) 0x5080 0x01 (([1] : List Byte)) (((tProv).touch (Src.mb Head.A true)))) :=
  (opensWrite_of (fun _ => rfl) rfl (by decide +kernel))

theorem witness_KeysAndObjects5 :
    (OpensWrite (tProv) (Src.mb Head.A true) 0x6820 0x03 (([1] : List Byte)) (((tProv).touch (Src.mb Head.A true)))) :=
  (opensWrite_of (fun _ => rfl) rfl (by decide +kernel))

theorem witness_KeysAndObjects6 :
    (Requests (tProv) (Src.mb Head.A true) { op := 7, idx := 0x6820, sub := 0x03 } (((tProv).touch (Src.mb Head.A true)))) ∧ ((((tProv).touch (Src.mb Head.A true))).checkOpenRead (Src.mb Head.A true) 0x6820 0x03 = 0) ∧ ((((tProv).touch (Src.mb Head.A true))).bulkOf (Src.mb Head.A true) = none) ∧ ((((tProv).touch (Src.mb Head.A true))).damask.kek = some (0)) :=
  ⟨(fun _ => rfl), by decide +kernel⟩

theorem witness_MailboxBulkTransfers :
    (((tProv).mailboxOpen (Head.A) = true) ∧ ((((tProv).touch (.mb (Head.A) (true))).head (Head.A)).bulk = none) ∧ (((tProv).touch (.mb (Head.A) (true))).checkOpenRead (.mb (Head.A) (true)) ((0x6820 : BitVec 16)).toNat ((3 : BitVec 8)).toNat = 0)) ∧
    (((tProv).mailboxOpen (Head.A) = true) ∧ ((((tProv).touch (.mb (Head.A) (true))).head (Head.A)).bulk = none) ∧ (((tProv).touch (.mb (Head.A) (true))).checkOpenWrite (.mb (Head.A) (true)) ((0x6820 : BitVec 16)).toNat ((1 : BitVec 8)).toNat = 0)) ∧
    (((tRun.onHead .A fun x => { x with bulk := some tBulk }).mailboxOpen (Head.A) = true) ∧ ((((tRun.onHead .A fun x => { x with bulk := some tBulk }).touch (.mb (Head.A) (true))).head (Head.A)).bulk = some (tBulk)) ∧ ((tBulk).write = true) ∧ (chunkOk ((List.replicate 64 0 : List Byte)).length = true) ∧ ((0) = (tBulk).bytes.length) ∧ ((0) + ((List.replicate 64 0 : List Byte)).length ≤ (tBulk).total)) := by
  decide +kernel

theorem witness_MailboxBulkTransfersA :
    (((tRun.onHead .A fun x => { x with bulk := some { tBulk with write := false, bytes := [0] } }).mailboxOpen (Head.A) = true) ∧ ((((tRun.onHead .A fun x => { x with bulk := some { tBulk with write := false, bytes := [0] } }).touch (.mb (Head.A) (true))).head (Head.A)).bulk = some (({ tBulk with write := false, bytes := [0] } : Bulk))) ∧ ((({ tBulk with write := false, bytes := [0] } : Bulk)).write = false) ∧ (chunkOk (64) = true) ∧ ((0) < (({ tBulk with write := false, bytes := [0] } : Bulk)).total)) ∧
    (((tRun.onHead .A fun x => { x with bulk := some tBulk }).mailboxOpen (Head.A) = true) ∧ ((((tRun.onHead .A fun x => { x with bulk := some tBulk }).touch (.mb (Head.A) (true))).head (Head.A)).bulk = some (tBulk))) ∧
    (((tRun.onHead .A fun x => { x with bulk := some tBulk }).mailboxOpen (Head.A) = true) ∧ (((tRun.onHead .A fun x => { x with bulk := some tBulk }).head (Head.A)).bulk.isSome = true)) ∧
    (((((tRun.at { t := 10000000000, nvwp := true }).onHead .A fun x => { x with bulk := some tBulk }).head (Head.A)).bulk = some (tBulk)) ∧ (10000000000 ≤ ((tRun.at { t := 10000000000, nvwp := true }).onHead .A fun x => { x with bulk := some tBulk }).since (tBulk).last)) := by
  decide +kernel

theorem witness_CanBusAndTransfers :
    (((tCan).can.joined = true)) ∧
    (((tCan).can.joined = true) ∧ ((tCan).cfg 0x1230 0x03 ≠ 0)) ∧
    (((tRun).powered = true) ∧ ((match (tRun).can.busWarn with | some t => decide ((tRun).now < t + 10000000000) | none => false) = false)) ∧
    (((tRun.onClocks fun x => { x with ref := 1 }).powered = true) ∧ (((tRun.onClocks fun x => { x with ref := 1 }).clocks.ref == 1 || (tRun.onClocks fun x => { x with ref := 1 }).ircTrimmed) = true)) := by
  decide +kernel

theorem witness_CanBusAndTransfersA :
    (((tCan.onCan fun x => { x with bulk := some { tBulk with write := false, trans := 4, next := 1 } }).can.joined = true) ∧ ((tCan.onCan fun x => { x with bulk := some { tBulk with write := false, trans := 4, next := 1 } }).can.bulk = some (({ tBulk with write := false, trans := 4, next := 1 } : Bulk))) ∧ ((({ tBulk with write := false, trans := 4, next := 1 } : Bulk)).trans = ((4 : BitVec 8))) ∧ ((({ tBulk with write := false, trans := 4, next := 1 } : Bulk)).write = false) ∧ ((({ tBulk with write := false, trans := 4, next := 1 } : Bulk)).acked ≤ (0)) ∧ ((0) < (({ tBulk with write := false, trans := 4, next := 1 } : Bulk)).next)) ∧
    ((((tRun.at { t := 10000000000, nvwp := true }).onCan fun x => { x with bulk := some tBulk }).can.bulk = some (tBulk)) ∧ (1000000000 ≤ ((tRun.at { t := 10000000000, nvwp := true }).onCan fun x => { x with bulk := some tBulk }).since (tBulk).last)) := by
  decide +kernel

theorem witness_CanBusAndTransfers1 :
    (FrameAdmitted (tCan) ((4 : BitVec 8)) (true) 0 0 { op := 7, idx := ((0x5080 : BitVec 16)).toNat, sub := ((1 : BitVec 8)).toNat } (tCanOpen)) ∧ (((tCanOpen).touch (.can ((4 : BitVec 8)) (true) 0 0)).checkOpenRead (.can ((4 : BitVec 8)) (true) 0 0) ((0x5080 : BitVec 16)).toNat ((1 : BitVec 8)).toNat = 0) ∧ (segmentsOf (((tCanOpen).touch (.can ((4 : BitVec 8)) (true) 0 0)).objectOf 3 ((0x5080 : BitVec 16)).toNat ((1 : BitVec 8)).toNat).length ≤ 65535) :=
  ⟨fun _ => rfl, by decide +kernel⟩

theorem witness_CanBusAndTransfers2 :
    (FrameAdmitted (tCan) ((4 : BitVec 8)) (true) (0) (0) { op := 8, idx := ((0x5080 : BitVec 16)).toNat, sub := ((1 : BitVec 8)).toNat, data := leBytes 4 (16596) } (tCanOpenW)) ∧ (((tCanOpenW).touch (.can ((4 : BitVec 8)) (true) (0) (0))).checkOpenWrite (.can ((4 : BitVec 8)) (true) (0) (0)) ((0x5080 : BitVec 16)).toNat ((1 : BitVec 8)).toNat = 0) ∧ ((16596) ≤ 65535 * ((tCanOpenW).touch (.can ((4 : BitVec 8)) (true) (0) (0))).segmentRoom) :=
  ⟨fun _ => rfl, by decide +kernel⟩

theorem witness_CanBusAndTransfers3 :
    (((([] : List Byte)).length ≤ (tCanBulk).segmentRoom)) ∧ (((tCanBulk).can.joined = true)) ∧ (((tCanBulk).can.bulk = some ({ tBulk with trans := 4, next := 1 }))) ∧ ((({ tBulk with trans := 4, next := 1 }).trans = ((4 : BitVec 8)))) ∧ ((({ tBulk with trans := 4, next := 1 }).write = true)) ∧ ((Authentic (tCanBulk) ((0 : BitVec 32)) ((0 : BitVec 64)) 9 ((tCanBulk).frameOf ({ tBulk with trans := 4, next := 1 }) 9 (1) (!decide (({ tBulk with trans := 4, next := 1 }).total ≤ ((({ tBulk with trans := 4, next := 1 }).bytes ++ (([] : List Byte))).take ({ tBulk with trans := 4, next := 1 }).total).length)) ((0 : BitVec 32)) ((0 : BitVec 64)) (([] : List Byte))) (tCanBulk))) ∧ (((1) = ({ tBulk with trans := 4, next := 1 }).next)) :=
  ⟨by decide +kernel, rfl, rfl, rfl, rfl, fun _ => rfl, rfl⟩

theorem witness_CanBusAndTransfers4 :
    (((tCanBulk).can.joined = true)) ∧ (((tCanBulk).can.bulk = some ({ tBulk with trans := 4, next := 1 }))) ∧ ((({ tBulk with trans := 4, next := 1 }).trans = ((4 : BitVec 8)))) ∧ ((((tCanBulk).can.bulk.isNone && (tCanBulk).can.lastReq == some ([BitVec.ofNat 8 0x0B, ((4 : BitVec 8))].map BitVec.toNat ++ [((0 : BitVec 32)).toNat, ((0 : BitVec 64)).toNat, ((0 : BitVec 32)).toNat])) = false)) ∧ ((Authentic (tCanBulk) ((0 : BitVec 32)) ((0 : BitVec 64)) 0x0B ((tCanBulk).frameOf ({ tBulk with trans := 4, next := 1 }) 0x0B 0 false ((0 : BitVec 32)) ((0 : BitVec 64)) (leBytes 4 ((0 : BitVec 32)).toNat)) (tCanBulk))) :=
  ⟨rfl, rfl, rfl, rfl, fun _ => rfl⟩

theorem witness_CanBusAndTransfers5 :
    (((tCanBulk).can.joined = true)) ∧ (((tCanBulk).can.bulk = some ({ tBulk with trans := 4, next := 1 }))) ∧ ((({ tBulk with trans := 4, next := 1 }).trans = ((4 : BitVec 8)))) ∧ ((Authentic (tCanBulk) ((0 : BitVec 32)) ((0 : BitVec 64)) 0x0C ((tCanBulk).frameOf ({ tBulk with trans := 4, next := 1 }) 0x0C 0 false ((0 : BitVec 32)) ((0 : BitVec 64)) []) (tCanBulk))) :=
  ⟨rfl, rfl, rfl, fun _ => rfl⟩

theorem witness_DynamicCapacity :
    ((((tRun.onDev fun d => { d with adding := some 1 }).dev.adding.bind fun id => (tRun.onDev fun d => { d with adding := some 1 }).rgn id) = some (tRgn))) ∧
    (((tRun.onHead .A fun x => { x with offers := [(1, 0)] }).mailboxOpen (Head.A) = true) ∧ ((((tRun.onHead .A fun x => { x with offers := [(1, 0)] }).head (Head.A)).offers.head?.bind fun o => (tRun.onHead .A fun x => { x with offers := [(1, 0)] }).rgn o.1) = some (tRgn)) ∧ (([(tRgn.base, tRgn.length)]) = [((tRgn).base, (tRgn).length)])) ∧
    (((tRun.onHead .A fun x => { x with offers := [(1, 0)] }).mailboxOpen (Head.A) = true) ∧ ((((tRun.onHead .A fun x => { x with offers := [(1, 0)] }).head (Head.A)).offers.head?.bind fun o => (tRun.onHead .A fun x => { x with offers := [(1, 0)] }).rgn o.1) = some (tRgn)) ∧ ((([] : List (Nat × Nat))) = [])) ∧
    ((((((tRun.at { t := 10000000000000, nvwp := true }).onHead .A fun x => { x with offers := [(1, 0)] }).head (Head.A)).offers.filter fun o => decide (o.2 + 1000000 * ((tRun.at { t := 10000000000000, nvwp := true }).onHead .A fun x => { x with offers := [(1, 0)] }).cfg 0x4800 0x0A ≤ ((tRun.at { t := 10000000000000, nvwp := true }).onHead .A fun x => { x with offers := [(1, 0)] }).now)) = ([(1, 0)]))) ∧
    (((tRun).mailboxOpen (Head.A) = true) ∧ (([(tRgn.base, tRgn.length)]) ≠ []) ∧ ((([(tRgn.base, tRgn.length)]).filterMap fun x => (tRun).wholeExtent (Head.A) x).length = ([(tRgn.base, tRgn.length)]).length)) := by
  decide +kernel

theorem witness_DynamicCapacityA :
    (((tRun.onDev fun d => { d with rgns := [tFree] }).rgn (1) = some (tFree)) ∧ ((tRun.onDev fun d => { d with rgns := [tFree] }).tearable (tFree) = true) ∧ ((tRun.onDev fun d => { d with rgns := [tFree] }).works = true)) ∧
    (((tRun).mailboxOpen (Head.A) = true)) ∧
    (((tRun).mailboxOpen (Head.A) = true)) := by
  decide +kernel

theorem witness_DynamicCapacity1 :
    (((((tAdd).touch (Src.mb Head.A true))).regionBusy = false)) ∧ ((WriteRuns (tAdd) (Src.mb Head.A true) 0x4800 0x07 [1] (((tAdd).touch (Src.mb Head.A true))))) ∧ (((((tAdd).touch (Src.mb Head.A true))).addCheck ((((tAdd).touch (Src.mb Head.A true))).addWants (transOf (Src.mb Head.A true))) = 0)) :=
  ⟨by decide +kernel, (writes_of (fun _ => rfl) (by decide +kernel)), add_ok⟩

theorem witness_DynamicCapacity2 :
    (WriteRuns (tNamed) (Src.mb Head.A true) 0x4800 0x08 [1] (((tNamed).touch (Src.mb Head.A true)))) ∧ ((((tNamed).touch (Src.mb Head.A true))).regionBusy = false) ∧ (((((tNamed).touch (Src.mb Head.A true))).addWants (transOf (Src.mb Head.A true))).heads ≠ []) ∧ ((((tNamed).touch (Src.mb Head.A true))).namedRegion (transOf (Src.mb Head.A true)) = some (tRgn)) :=
  ⟨(writes_of (fun _ => rfl) (by decide +kernel)), by decide +kernel⟩

theorem witness_DynamicCapacity3 :
    (WriteRuns (tNamed) (Src.mb Head.A true) 0x4800 0x0B [1] (((tNamed).touch (Src.mb Head.A true)))) ∧ ((((tNamed).touch (Src.mb Head.A true))).regionBusy = false) ∧ (((((tNamed).touch (Src.mb Head.A true))).addWants (transOf (Src.mb Head.A true))).heads ≠ []) ∧ ((((tNamed).touch (Src.mb Head.A true))).namedRegion (transOf (Src.mb Head.A true)) = some (tRgn)) :=
  ⟨(writes_of (fun _ => rfl) (by decide +kernel)), by decide +kernel⟩

theorem witness_RegionSecurity :
    (((tRun).works = true)) ∧
    (((tRun.onDamask fun d => { d with rekey := [(0, 1)] }).works = true) ∧ ((tRun.onDamask fun d => { d with rekey := [(0, 1)] }).damask.rekey.find (0) = some (1))) ∧
    (((tRun.onDamask fun d => { d with tagDirty := [(0, { major := BitVec.allOnes 24, minor := List.replicate 16 63 })] }).works = true) ∧ ((tRun.onDamask fun d => { d with tagDirty := [(0, { major := BitVec.allOnes 24, minor := List.replicate 16 63 })] }).damask.rekey.find (0) = none) ∧ (((regionTags (0)).any fun ti => (tRun.onDamask fun d => { d with tagDirty := [(0, { major := BitVec.allOnes 24, minor := List.replicate 16 63 })] }).groupExhausted ti) = true) ∧ ((tRun.onDamask fun d => { d with tagDirty := [(0, { major := BitVec.allOnes 24, minor := List.replicate 16 63 })] }).topEpoch (0) ≠ 255) ∧ ((tRun.onDamask fun d => { d with tagDirty := [(0, { major := BitVec.allOnes 24, minor := List.replicate 16 63 })] }).damask.rekey.length < 4)) := by
  decide +kernel

theorem witness_RegionSecurity1 :
    (WriteRuns (tMgr) (Src.mb Head.A true) 0x6810 0x05 (leBytes 4 ((1 : BitVec 32)).toNat) (((tMgr).touch (Src.mb Head.A true)))) :=
  (writes_of (fun _ => rfl) (by decide +kernel))

theorem witness_RegionSecurity2 :
    (WriteRuns (tMgr) (Src.mb Head.A true) 0x6810 0x06 (leBytes 4 ((1 : BitVec 32)).toNat) (((tMgr).touch (Src.mb Head.A true)))) :=
  (writes_of (fun _ => rfl) (by decide +kernel))

theorem witness_ManagementActions1 :
    (WriteRuns (tMgr) (Src.mb Head.A true) 0x5010 0x02 [1] (((tMgr).touch (Src.mb Head.A true)))) :=
  (writes_of (fun _ => rfl) (by decide +kernel))

theorem witness_ManagementActions2 :
    (((((((tMgr.onDie 3 fun x => { x with state := 1 }).touch (Src.mb Head.A true))).die ((3 : BitVec 16)).toNat).state = 1 ∨ ((((tMgr.onDie 3 fun x => { x with state := 1 }).touch (Src.mb Head.A true))).die ((3 : BitVec 16)).toNat).state = 2))) ∧ ((WriteRuns (tMgr.onDie 3 fun x => { x with state := 1 }) (Src.mb Head.A true) 0x7C10 0x04 (leBytes 2 ((3 : BitVec 16)).toNat) (((tMgr.onDie 3 fun x => { x with state := 1 }).touch (Src.mb Head.A true))))) :=
  ⟨by decide +kernel, (writes_of (fun _ => rfl) (by decide +kernel))⟩

theorem witness_ManagementActions3 :
    (WriteRuns (tMgr) (Src.mb Head.A true) 0x7C10 0x05 (leBytes 1 ((3 : BitVec 8)).toNat) (((tMgr).touch (Src.mb Head.A true)))) :=
  (writes_of (fun _ => rfl) (by decide +kernel))

theorem witness_ManagementActions4 :
    (WriteRuns (tMgr.onChan 3 fun x => { x with state := 2 }) (Src.mb Head.A true) (0x3000 + 0x20 * ((3 : Fin 32)).val) 0x0C [1] (((tMgr.onChan 3 fun x => { x with state := 2 }).touch (Src.mb Head.A true)))) ∧ ((((((tMgr.onChan 3 fun x => { x with state := 2 }).touch (Src.mb Head.A true))).chan ((3 : Fin 32)).val).state = 2 ∨ ((((tMgr.onChan 3 fun x => { x with state := 2 }).touch (Src.mb Head.A true))).chan ((3 : Fin 32)).val).state = 3)) ∧ (((((tMgr.onChan 3 fun x => { x with state := 2 }).touch (Src.mb Head.A true))).chan ((3 : Fin 32)).val).retrain = false) :=
  ⟨(writes_of (fun _ => rfl) (by decide +kernel)), by decide +kernel⟩

theorem witness_ManagementActions5 :
    (WriteRuns (tMgr) (Src.mb Head.A true) 0x1100 0x07 [1] (((tMgr).touch (Src.mb Head.A true)))) :=
  (writes_of (fun _ => rfl) (by decide +kernel))

theorem witness_ManagementActions6 :
    (((((tMgr).touch (Src.mb Head.A true))).canvas.test = none)) ∧ ((WriteRuns (tMgr) (Src.mb Head.A true) 0x7002 0x06 [1] (((tMgr).touch (Src.mb Head.A true))))) :=
  ⟨by decide +kernel, (writes_of (fun _ => rfl) (by decide +kernel))⟩

theorem witness_ManagementActions7 :
    (WriteRuns (tMgr) (Src.mb Head.A true) 0x8800 0x0E [1] (((tMgr).touch (Src.mb Head.A true)))) :=
  (writes_of (fun _ => rfl) (by decide +kernel))

theorem witness_EventLogAndTelemetry :
    (((((tRun.at { t := 10000000, nvwp := true }).onLinen fun l => { l with windows := [tWindow] }).linen.windows.find? fun (tWindow) => (tWindow).isFor ((0x2002 : BitVec 16)) ((1 : BitVec 8)) ((0 : BitVec 16))) = some (tWindow)) ∧ ((tWindow).opened + 10000000 ≤ ((tRun.at { t := 10000000, nvwp := true }).onLinen fun l => { l with windows := [tWindow] }).now)) ∧
    (((tRun).running = true)) ∧
    (((tRun.onLinen fun l => { l with waiting := [0] }).linen.waiting = (0) :: (([] : List Nat))) ∧ ((tRun.onLinen fun l => { l with waiting := [0] }).powered = true)) ∧
    (((tRun).running = true)) ∧
    (((tRun).running = true)) ∧
    (((tRun).running = true)) ∧
    (((tRun).memoryActive = true) ∧ ((tRun).stopped = false)) ∧
    (((tRun).memoryActive = true) ∧ ((tRun).stopped = false)) := by
  decide +kernel

theorem witness_EventLogAndTelemetryA :
    (((tRun).running = true) ∧ ((tRun).tweed.paused = false) ∧ ((tRun).modes.flush = none)) ∧
    ((4096 ≤ (tRun.onTweed fun t => { t with bank := List.replicate 4096 (0, false) }).tweed.bank.length) ∧ ((tRun.onTweed fun t => { t with bank := List.replicate 4096 (0, false) }).tweed.paused = false)) := by
  decide +kernel

theorem witness_CheckpointsHeatAndDemotion :
    (((tRun.at { t := 250000000, nvwp := true }).works = true) ∧ ((tRun.at { t := 250000000, nvwp := true }).triggerMet (CkptTrigger.time) = true) ∧ ((tRun.at { t := 250000000, nvwp := true }).twill.writing = none)) ∧
    ((((tRun.at { t := 250000000, nvwp := true }).onTwill fun t => { t with writing := some tCkpt }).works = true) ∧ (((tRun.at { t := 250000000, nvwp := true }).onTwill fun t => { t with writing := some tCkpt }).triggerMet (CkptTrigger.time) = true) ∧ (((tRun.at { t := 250000000, nvwp := true }).onTwill fun t => { t with writing := some tCkpt }).twill.writing = some (tCkpt))) ∧
    (((tRun.onTwill fun t => { t with writing := some tCkpt }).works = true) ∧ ((tRun.onTwill fun t => { t with writing := some tCkpt }).twill.writing = some (tCkpt))) ∧
    (((tRun).works = true)) ∧
    (((tRun).works = true)) := by
  decide +kernel

theorem witness_CheckpointsHeatAndDemotionA :
    (((tRun.onTwill fun t => { t with demote := [(3, { step := 4, since := 0 })] }).twill.demote.find ((3 : BitVec 36)).toNat = some (({ step := 4, since := 0 } : Demotion))) ∧ ((({ step := 4, since := 0 } : Demotion)).step = 4) ∧ ((tRun.onTwill fun t => { t with demote := [(3, { step := 4, since := 0 })] }).works = true)) ∧
    ((((tRun.at { t := 2000001, nvwp := true }).onTwill fun y => { y with wants := [(3, 0)] }).twill.wants.find ((3 : BitVec 36)).toNat = some (0)) ∧ ((0) + 2000000 < ((tRun.at { t := 2000001, nvwp := true }).onTwill fun y => { y with wants := [(3, 0)] }).now)) ∧
    (((tRun).works = true)) := by
  decide +kernel

theorem witness_WearMovesAndRefresh :
    (((tRun.onTwill fun y => { y with tracker := [(7, 65536, 0)] }).twill.tracker.find (7) = some ((65536), (0))) ∧ (65536 ≤ (65536))) ∧
    ((((tRun.at { t := 60000000000, nvwp := true }).onTwill fun y => { y with tracker := [(7, 5, 0)] }).twill.tracker.find (7) = some ((5), (0))) ∧ ((0) + 60000000000 ≤ ((tRun.at { t := 60000000000, nvwp := true }).onTwill fun y => { y with tracker := [(7, 5, 0)] }).now)) := by
  decide +kernel

theorem witness_WearMovesAndRefreshA :
    (((tRun.onTwill fun y => { y with mig := [(0, { old := 0, new := 3, next := 1024 })] }).twill.mig.find (0) = some (({ old := 0, new := 3, next := 1024 } : Migration))) ∧ ((tRun.onTwill fun y => { y with mig := [(0, { old := 0, new := 3, next := 1024 })] }).regionEntry (0) = some (tEntry)) ∧ ((tRun.onTwill fun y => { y with mig := [(0, { old := 0, new := 3, next := 1024 })] }).works = true) ∧ (1024 ≤ (({ old := 0, new := 3, next := 1024 } : Migration)).next) ∧ ((tRun.onTwill fun y => { y with mig := [(0, { old := 0, new := 3, next := 1024 })] }).regionMoving (0) = false) ∧ ((tRun.onTwill fun y => { y with mig := [(0, { old := 0, new := 3, next := 1024 })] }).slotHeld (({ old := 0, new := 3, next := 1024 } : Migration)).old = false) ∧ ((tRun.onTwill fun y => { y with mig := [(0, { old := 0, new := 3, next := 1024 })] }).slotHeld (({ old := 0, new := 3, next := 1024 } : Migration)).new = false) ∧ ((tRun.onTwill fun y => { y with mig := [(0, { old := 0, new := 3, next := 1024 })] }).journalWait = false) ∧ ((tRun.onTwill fun y => { y with mig := [(0, { old := 0, new := 3, next := 1024 })] }).twillPaused (0) = false) ∧ ((tRun.onTwill fun y => { y with mig := [(0, { old := 0, new := 3, next := 1024 })] }).regionReserved (0) = false)) ∧
    (((tRun).works = true) ∧ ((tRun).holds 9 = false)) := by
  decide +kernel

theorem witness_WearMovesAndRefreshB :
    (((tRun.onTwill fun y => { y with refresh := [(0, 5)] }).twill.refresh = ((0), (5)) :: (([] : List (Nat × Nat)))) ∧ ((tRun.onTwill fun y => { y with refresh := [(0, 5)] }).works = true) ∧ ((tRun.onTwill fun y => { y with refresh := [(0, 5)] }).regionEntry (0) = some (tEntry)) ∧ ((tEntry).rotp = false) ∧ ((tEntry).mig = false) ∧ ((tRun.onTwill fun y => { y with refresh := [(0, 5)] }).twillPaused (0) = false) ∧ ((tRun.onTwill fun y => { y with refresh := [(0, 5)] }).leaving (0) = false)) ∧
    (((tRun.onTwill fun y => { y with refresh := [(134217728, 5)] }).twill.refresh = ((134217728), (5)) :: (([] : List (Nat × Nat)))) ∧ ((tRun.onTwill fun y => { y with refresh := [(134217728, 5)] }).works = true) ∧ ((tRun.onTwill fun y => { y with refresh := [(134217728, 5)] }).regionEntry (134217728) = none) ∧ (134217728 ≤ (134217728))) := by
  decide +kernel

theorem witness_WearMovesAndRefreshC :
    ((((({ tRun with opTime := 6000 } : Blk).onTwill fun y => { y with refresh := [(0, 5)] }).twill.refresh.find? fun y => y.1 == (0)) = some ((0), (5))) ∧ ((5) < (({ tRun with opTime := 6000 } : Blk).onTwill fun y => { y with refresh := [(0, 5)] }).opSec) ∧ ((({ tRun with opTime := 6000 } : Blk).onTwill fun y => { y with refresh := [(0, 5)] }).twill.backlog.contains (0) = false)) ∧
    (((tRun.onDamask fun d => { d with resynced := some [] }).works = true) ∧ ((tRun.onDamask fun d => { d with resynced := some [] }).damask.resynced.isSome = true) ∧ ((tRun.onDamask fun d => { d with resynced := some [] }).beforeResync ((0) * 16384) = true) ∧ (((tRun.onDamask fun d => { d with resynced := some [] }).regionEntry (0)).isSome = true) ∧ ((tRun.onDamask fun d => { d with resynced := some [] }).twill.resyncAt.has (0) = false) ∧ (((tRun.onDamask fun d => { d with resynced := some [] }).resyncNext = [] ∨ (0) ∈ (tRun.onDamask fun d => { d with resynced := some [] }).resyncNext))) ∧
    (((tRun.onMedia fun m => { m with weak := [tMem] }).media.weak = (tMem) :: (([] : List Mem))) ∧ ((tRun.onMedia fun m => { m with weak := [tMem] }).works = true) ∧ ((tRun.onMedia fun m => { m with weak := [tMem] }).unlocked [(tMem).lock] = true)) := by
  decide +kernel

theorem witness_WearMovesAndRefresh1 :
    (((tPass).twill.rot.find (0) = some (({ cursor := -1, park := 1 } : Rotation)))) ∧ (((tPass).regionEntry (0) = some ({ tEntry with rotp := true }))) ∧ (((tPass).unparkJob (0) = some (4))) ∧ (((tPass).works = true)) ∧ (((tPass).journalWait = false)) ∧ (((tPass).twillPaused (0) = false)) ∧ (((((tPass).stripeLines (0) ({ tEntry with rotp := true }) .unpark 1023).any fun y => (tPass).lineReserved y.1 && ((tPass).hotFind y.1).isNone) = false)) :=
  ⟨rfl, rfl, rfl, rfl, rfl, rfl, rfl⟩

theorem witness_WearMovesAndRefresh2 :
    (((tMig).mayMigrate (0) (tEntry) = true)) ∧ (((tMig).regionEntry (0) = some (tEntry))) ∧ (((tMig).works = true)) ∧ (((tMig).twill.migDue.contains (0) = true)) ∧ ((((tMig).widen (tEntry).cls).leastFree (tEntry).cls = some (((tMig.widen .voile).leastFree .voile).getD (0, 0)))) :=
  ⟨by decide +kernel, rfl, rfl, rfl, mig_free⟩

theorem witness_LinksAndResets :
    (((tRun).powered = true)) ∧
    (((tRun.onModes fun m => { m with rails := false }).powered = false)) ∧
    (((tRun).running = true)) ∧
    (((((tRun).head (Head.A)).link = 2 ∨ ((tRun).head (Head.A)).link = 3))) ∧
    (((tTrain).trainable (Head.A) = true) ∧ (((tTrain).head (Head.A)).link ≠ 2) ∧ (((tTrain).head (Head.A)).link ≠ 3) ∧ (((4 : Fin 5)).val ≠ 0) ∧ (((16 : Fin 17)).val = 1 ∨ ((16 : Fin 17)).val = 2 ∨ ((16 : Fin 17)).val = 4 ∨ ((16 : Fin 17)).val = 8 ∨ ((16 : Fin 17)).val = 16) ∧ (¬ (((1 : Fin 3)).val = 0 ∧ ((4 : Fin 5)).val = 4))) ∧
    ((((tRun).head (Head.A)).link = 2)) := by
  decide +kernel

theorem witness_LinksAndResetsA :
    ((((tRun.onHead .A fun x => { x with link := 3 }).head (Head.A)).link = 3)) ∧
    ((((tRun.onHead .A fun x => { x with perst := true }).head (Head.A)).perst = true)) := by
  decide +kernel

theorem witness_LinkRegisters :
    (((tRun).configOpen (Head.A) = true)) ∧
    (((tRun).configOpen (Head.A) = true)) ∧
    (((tRun).configOpen (Head.A) = true)) ∧
    (((tRun).configOpen (Head.A) = true) ∧ (((4 : BitVec 12)).toNat / 4 * 4 ≠ 0) ∧ (((4 : BitVec 12)).toNat / 4 * 4 ≠ 8)) ∧
    (((tRun).configOpen (Head.A) = true) ∧ (((tRun).head (Head.A)).mayCommit ((1 : Fin 8)).val (0) (0x10000000) (0) (1) (256) = true)) ∧
    (((tRun).configOpen (Head.A) = true) ∧ (((((tRun).head (Head.A)).decoders.find ((0 : Fin 8)).val).map Decoder.lock).getD true = false) ∧ ((((tRun).head (Head.A)).decoders.any fun e => decide (((0 : Fin 8)).val < e.1)) = false)) ∧
    (((tRun).configOpen (Head.A) = true)) := by
  decide +kernel

theorem witness_LinkRegistersA :
    (((tRun).running = true)) ∧
    (((tRun).configOpen (Head.A) = true)) ∧
    (((tRun).configOpen (Head.A) = true)) := by
  decide +kernel

theorem witness_ClocksAndTemperature :
    (((tRun).powered = true) ∧ ((tRun).windowPasses (256) = true)) ∧
    (((tRun).powered = true) ∧ ((tRun).windowPasses (0) = false)) ∧
    (((tRun.onClocks fun x => { x with ref := 1, fail := 2 }).powered = true) ∧ ((tRun.onClocks fun x => { x with ref := 1, fail := 2 }).clocks.ref ≠ 2) ∧ (2 ≤ (tRun.onClocks fun x => { x with ref := 1, fail := 2 }).clocks.fail)) ∧
    (((tRun.onClocks fun x => { x with pass := 16 }).powered = true) ∧ ((tRun.onClocks fun x => { x with pass := 16 }).clocks.ref ≠ 1) ∧ (16 ≤ (tRun.onClocks fun x => { x with pass := 16 }).clocks.pass)) := by
  decide +kernel

theorem witness_ClocksAndTemperatureA :
    (((tRun.onClocks fun x => { x with fab := { locked := true } }).running = true) ∧ (((tRun.onClocks fun x => { x with fab := { locked := true } }).clocks.pll (Pll.fab)).locked = true) ∧ (pllWithin (8192) (pllExpect4 (Pll.fab) (8192) true) 20 = true) ∧ (0 < (8192))) ∧
    (((tRun).running = true) ∧ (((tRun).clocks.pll (Pll.fallback)).locked = false) ∧ (((tRun).clocks.ref = 1 ∨ (Pll.fallback) = .fallback))) ∧
    (((tRun.onClocks fun x => { x with fab := { locked := true } }).running = true) ∧ (((tRun.onClocks fun x => { x with fab := { locked := true } }).clocks.pll (Pll.fab)).locked = true) ∧ ((pllWithin (0) (pllExpect4 (Pll.fab) (8192) true) 20 = false ∨ (0) = 0)) ∧ (((tRun.onClocks fun x => { x with fab := { locked := true } }).clocks.pll (Pll.fab)).fail = 0)) := by
  decide +kernel

theorem witness_ClocksAndTemperatureB :
    (((tRun.onClocks fun x => { x with fab := { locked := true, fail := 1 } }).running = true) ∧ (((tRun.onClocks fun x => { x with fab := { locked := true, fail := 1 } }).clocks.pll (Pll.fab)).locked = true) ∧ ((pllWithin (0) (pllExpect4 (Pll.fab) (8192) true) 20 = false ∨ (0) = 0)) ∧ (1 ≤ ((tRun.onClocks fun x => { x with fab := { locked := true, fail := 1 } }).clocks.pll (Pll.fab)).fail)) ∧
    (((tRun.onClocks fun x => { x with ramp := true }).clocks.ramp = true) ∧ ((tRun.onClocks fun x => { x with ramp := true }).clocks.failed = false)) ∧
    (((tRun.onClocks fun x => { x with ramp := true, failed := true }).clocks.ramp = true) ∧ ((tRun.onClocks fun x => { x with ramp := true, failed := true }).clocks.failed = true) ∧ ((tRun.onClocks fun x => { x with ramp := true, failed := true }).modes.flush = none) ∧ ((tRun.onClocks fun x => { x with ramp := true, failed := true }).stopped = false)) := by
  decide +kernel

theorem witness_ClocksAndTemperatureC :
    ((((tRun.onClocks fun x => { x with ramp := true, failed := true }).onModes fun m => { m with flush := some (0, 0, 0) }).clocks.ramp = true) ∧ (((tRun.onClocks fun x => { x with ramp := true, failed := true }).onModes fun m => { m with flush := some (0, 0, 0) }).clocks.failed = true) ∧ ((((tRun.onClocks fun x => { x with ramp := true, failed := true }).onModes fun m => { m with flush := some (0, 0, 0) }).modes.flush.isSome = true ∨ ((tRun.onClocks fun x => { x with ramp := true, failed := true }).onModes fun m => { m with flush := some (0, 0, 0) }).stopped = true))) ∧
    (((tTrim).powered = true) ∧ ((tTrim).ircTrimmed = true) ∧ (((tTrim).sensor 0).temp = some (0))) ∧
    (((tTrim.onThermal fun x => { x with sensors := [] }).powered = true) ∧ ((tTrim.onThermal fun x => { x with sensors := [] }).ircTrimmed = true) ∧ (((tTrim.onThermal fun x => { x with sensors := [] }).sensor 0).temp = none)) ∧
    (((tRun.onGauze fun g => { g with calPresent := false }).powered = true) ∧ ((tRun.onGauze fun g => { g with calPresent := false }).ircTrimmed = false)) := by
  decide +kernel

theorem witness_ClocksAndTemperatureD :
    ((((tRun.at { t := 10000000000000, nvwp := true }).onThermal fun x => { x with req := some 0 }).thermal.req = some (0)) ∧ (((tRun.at { t := 10000000000000, nvwp := true }).onThermal fun x => { x with req := some 0 }).memoryActive = true) ∧ ((0) + 1000000 * ((tRun.at { t := 10000000000000, nvwp := true }).onThermal fun x => { x with req := some 0 }).cfg 0x7800 0x02 ≤ ((tRun.at { t := 10000000000000, nvwp := true }).onThermal fun x => { x with req := some 0 }).now)) ∧
    ((((tRun.at { t := 250000000, nvwp := true }).onModes fun m => { m with cond := 0x90 }).holds 7 = true) ∧ (((tRun.at { t := 250000000, nvwp := true }).onModes fun m => { m with cond := 0x90 }).thermal.stepAt + 250000000 ≤ ((tRun.at { t := 250000000, nvwp := true }).onModes fun m => { m with cond := 0x90 }).now)) ∧
    (((tRun).powered = true) ∧ ((tRun).running = true)) ∧
    (((tRun.onModes fun m => { m with cond := 2 }).powered = true) ∧ ((tRun.onModes fun m => { m with cond := 2 }).running = false)) := by
  decide +kernel

theorem witness_IndirectAccessAndRegisterFaults :
    (((tReg).barOpen (Head.A) = true) ∧ (((8) = 4 ∨ (8) = 8)) ∧ (((tReg).head (Head.A)).ctl.width ≤ (8)) ∧ (iValid ((tReg).head (Head.A)).ctl.iaddr ((tReg).head (Head.A)).ctl.width = true) ∧ (((tReg).ackPosted (Head.A)).iGated ((tReg).head (Head.A)).ctl.iaddr = false)) ∧
    (((tMgr.onCtl .A fun c => { c with iaddr := 0xFFFFFFFF }).barOpen (Head.A) = true) ∧ (((8) = 4 ∨ (8) = 8)) ∧ (((tMgr.onCtl .A fun c => { c with iaddr := 0xFFFFFFFF }).head (Head.A)).ctl.width ≤ (8)) ∧ (iValid ((tMgr.onCtl .A fun c => { c with iaddr := 0xFFFFFFFF }).head (Head.A)).ctl.iaddr ((tMgr.onCtl .A fun c => { c with iaddr := 0xFFFFFFFF }).head (Head.A)).ctl.width = false)) := by
  decide +kernel

theorem witness_IndirectAccessAndRegisterFaultsA :
    (((tMgr.onCtl .A fun c => { c with iaddr := 0xFFFFFFFF }).barOpen (Head.A) = true) ∧ (((8) = 4 ∨ (8) = 8)) ∧ (((tMgr.onCtl .A fun c => { c with iaddr := 0xFFFFFFFF }).head (Head.A)).ctl.width ≤ (8)) ∧ (iValid ((tMgr.onCtl .A fun c => { c with iaddr := 0xFFFFFFFF }).head (Head.A)).ctl.iaddr ((tMgr.onCtl .A fun c => { c with iaddr := 0xFFFFFFFF }).head (Head.A)).ctl.width = false)) ∧
    (((tGated).barOpen (Head.A) = true) ∧ (((8) = 4 ∨ (8) = 8)) ∧ (((tGated).head (Head.A)).ctl.width ≤ (8)) ∧ (iValid ((tGated).head (Head.A)).ctl.iaddr ((tGated).head (Head.A)).ctl.width = true) ∧ (((tGated).ackPosted (Head.A)).iGated ((tGated).head (Head.A)).ctl.iaddr = true)) := by
  decide +kernel

theorem witness_IndirectAccessAndRegisterFaultsB :
    (((tGated).barOpen (Head.A) = true) ∧ (((8) = 4 ∨ (8) = 8)) ∧ (((tGated).head (Head.A)).ctl.width ≤ (8)) ∧ (iValid ((tGated).head (Head.A)).ctl.iaddr ((tGated).head (Head.A)).ctl.width = true) ∧ (((tGated).ackPosted (Head.A)).iGated ((tGated).head (Head.A)).ctl.iaddr = true)) ∧
    (((tReg).barOpen (Head.A) = true) ∧ (((8) = 4 ∨ (8) = 8)) ∧ (((tReg).head (Head.A)).ctl.width ≤ (8)) ∧ (iValid ((tReg).head (Head.A)).ctl.iaddr ((tReg).head (Head.A)).ctl.width = true) ∧ (((tReg).ackPosted (Head.A)).iGated ((tReg).head (Head.A)).ctl.iaddr = false)) ∧
    (((tRun).running = true) ∧ ((tRun).modes.closed = false)) := by
  decide +kernel

theorem witness_IndirectAccessAndRegisterFaultsC :
    (((((tRun.at { t := 1000, nvwp := true }).onCtl .A fun c => { c with posted := some (0, 4, 0, 0) }).head (Head.A)).ctl.posted = some (((0 : BitVec 32)), (4), ((0 : BitVec 64)), (0))) ∧ ((0) + 1000 ≤ ((tRun.at { t := 1000, nvwp := true }).onCtl .A fun c => { c with posted := some (0, 4, 0, 0) }).now)) ∧
    ((((tRun).head (Head.A)).ctl.posted = none) ∧ ((tRun).barOpen (Head.A) = true)) ∧
    (((tRun).barOpen (Head.A) = true) ∧ (((8) = 4 ∨ (8) = 8)) ∧ (((0x20 : BitVec 12)).toNat % (8) = 0) ∧ (¬ (0x040 ≤ ((0x20 : BitVec 12)).toNat ∧ ((0x20 : BitVec 12)).toNat < 0x050 ∧ (8) = 4)) ∧ (((0x20 : BitVec 12)).toNat ≠ 0x088)) := by
  decide +kernel

theorem witness_IndirectAccessAndRegisterFaultsD :
    (((tVoted).votes (Voted.mode) = true) ∧ (majority (((tVoted).copies (Voted.mode)).set ((0 : Fin 3)).val ((1) % 2 ^ votedWidth (Voted.mode))) = some ((tVoted).votedValue (Voted.mode))) ∧ ((1) % 2 ^ votedWidth (Voted.mode) ≠ (tVoted).votedValue (Voted.mode)) ∧ ((((tVoted).safety.votes.getD (votedBit (Voted.mode)) []).filter fun t => decide ((tVoted).now - t < 1000000000)).length < 3)) ∧
    (((tVoted).votes (Voted.mode) = true) ∧ ((1) % 2 ^ votedWidth (Voted.mode) ≠ (tVoted).votedValue (Voted.mode)) ∧ ((3) % 2 ^ votedWidth (Voted.mode) ≠ (tVoted).votedValue (Voted.mode)) ∧ ((1) % 2 ^ votedWidth (Voted.mode) ≠ (3) % 2 ^ votedWidth (Voted.mode))) ∧
    ((((tRun).running || ((Dom.aon) == .aon && (tRun).powered)) = true) ∧ ((tRun).safety.parity.find (domCode (Dom.aon) * 2 ^ 24 + ((0 : BitVec 24)).toNat) = none)) := by
  decide +kernel

theorem witness_GuardedWrites :
    (((tRun).barOpen (Head.A) = true) ∧ ((8) = 8) ∧ (((tRun).head (Head.A)).ctl.held = none)) ∧
    (((tRun.onCtl .A fun c => { c with held := some (0, 0) }).barOpen (Head.A) = true) ∧ ((8) = 8) ∧ (((tRun.onCtl .A fun c => { c with held := some (0, 0) }).head (Head.A)).ctl.held = some (((0 : BitVec 64)), (0)))) ∧
    (((tRun.onCtl .A fun c => { c with held := some (0, 0) }).barOpen (Head.A) = true) ∧ ((8) = 8) ∧ (((tRun.onCtl .A fun c => { c with held := some (0, 0) }).head (Head.A)).ctl.held = some (((0 : BitVec 64)), (0))) ∧ ((tRun.onCtl .A fun c => { c with held := some (0, 0) }).now ≤ (0) + 1280) ∧ (((BitVec.allOnes 64)) = ~~~((0 : BitVec 64)))) := by
  decide +kernel

theorem witness_GuardedWritesA :
    ((((tRun.at { t := 1281, nvwp := true }).onCtl .A fun c => { c with held := some (0, 0) }).barOpen (Head.A) = true) ∧ ((8) = 8) ∧ ((((tRun.at { t := 1281, nvwp := true }).onCtl .A fun c => { c with held := some (0, 0) }).head (Head.A)).ctl.held = some (((0 : BitVec 64)), (0))) ∧ ((0) + 1280 < ((tRun.at { t := 1281, nvwp := true }).onCtl .A fun c => { c with held := some (0, 0) }).now)) ∧
    (((tRun.onCtl .A fun c => { c with held := some (0, 0) }).barOpen (Head.A) = true) ∧ ((8) = 8) ∧ (((tRun.onCtl .A fun c => { c with held := some (0, 0) }).head (Head.A)).ctl.held = some (((0 : BitVec 64)), (0))) ∧ ((tRun.onCtl .A fun c => { c with held := some (0, 0) }).now ≤ (0) + 1280) ∧ (((5 : BitVec 64)) ≠ ~~~((0 : BitVec 64)))) ∧
    (((tRun).barOpen (Head.A) = true) ∧ ((8) = 8) ∧ (((tRun).head (Head.A)).ctl.held = none)) := by
  decide +kernel

theorem witness_GuardedWritesB :
    (((({ tRun with due := [(1, 0)] }).due.find? fun x => x.1.toNat == 1 && true) = some (((1, 0) : BitVec 16 × BitVec 32)))) ∧
    (((({ tRun with due := [(2, 1)] }).due.find? fun x => x.1.toNat == 2 && x.2.toNat == 1) = some (((2, 1) : BitVec 16 × BitVec 32)))) ∧
    (((({ tRun with due := [(2, 0)] }).due.find? fun x => x.1.toNat == 2 && x.2.toNat == 0) = some (((2, 0) : BitVec 16 × BitVec 32)))) ∧
    (((({ tRun with due := [(3, 0)] }).due.find? fun x => x.1.toNat == 3 && true) = some (((3, 0) : BitVec 16 × BitVec 32)))) ∧
    (((({ (tRun.onModes fun m => { m with cond := 0x800 }) with due := [(4, 0)] }).due.find? fun x => x.1.toNat == 4 && true) = some (((4, 0) : BitVec 16 × BitVec 32))) ∧ (({ (tRun.onModes fun m => { m with cond := 0x800 }) with due := [(4, 0)] }).holds 11 = true)) ∧
    (((({ tRun with due := [(5, 1)] }).due.find? fun x => x.1.toNat == 5 && x.2.toNat == 1) = some (((5, 1) : BitVec 16 × BitVec 32))) ∧ (({ tRun with due := [(5, 1)] }).running = true) ∧ (({ tRun with due := [(5, 1)] }).modes.flush = none)) ∧
    (((({ tRun with due := [(5, 2)] }).due.find? fun x => x.1.toNat == 5 && x.2.toNat == 2) = some (((5, 2) : BitVec 16 × BitVec 32))) ∧ (({ tRun with due := [(5, 2)] }).running = true)) ∧
    (((({ tRun with due := [(6, 0)] }).due.find? fun x => x.1.toNat == 6 && x.2.toNat == 0) = some (((6, 0) : BitVec 16 × BitVec 32)))) := by
  decide +kernel

theorem witness_GuardedWritesC :
    (((({ tRun with due := [(6, 1)] }).due.find? fun x => x.1.toNat == 6 && x.2.toNat == 1) = some (((6, 1) : BitVec 16 × BitVec 32))) ∧ (({ tRun with due := [(6, 1)] }).clocks.failed = false)) ∧
    ((((tRun.at { t := 600000000000, nvwp := true }).onGauze fun g => { g with calOpen := some 0 }).gauze.calOpen = some (0)) ∧ ((0) + 600000000000 ≤ ((tRun.at { t := 600000000000, nvwp := true }).onGauze fun g => { g with calOpen := some 0 }).now)) := by
  decide +kernel

theorem witness_ErasesAndScrub :
    (((tRun.onDev fun d => { d with rgns := [] }).mailboxOpen (Head.A) = true) ∧ ((tRun.onDev fun d => { d with rgns := [] }).bgRuns = false) ∧ ((tRun.onDev fun d => { d with rgns := [] }).noRegionStands = true) ∧ ((tRun.onDev fun d => { d with rgns := [] }).media.scan = none)) ∧
    ((((tRun.onDev fun d => { d with rgns := [] }).onMedia fun m => { m with scan := some (0, 1) }).mailboxOpen (Head.A) = true) ∧ (((tRun.onDev fun d => { d with rgns := [] }).onMedia fun m => { m with scan := some (0, 1) }).noRegionStands = true) ∧ (((tRun.onDev fun d => { d with rgns := [] }).onMedia fun m => { m with scan := some (0, 1) }).media.scan.isSome = true) ∧ (((tRun.onDev fun d => { d with rgns := [] }).onMedia fun m => { m with scan := some (0, 1) }).dropScan.noRegionStands = true)) ∧
    (((tRun.onDev fun d => { d with rgns := [] }).mailboxOpen (Head.A) = true) ∧ ((tRun.onDev fun d => { d with rgns := [] }).bgRuns = false) ∧ ((tRun.onDev fun d => { d with rgns := [] }).noRegionStands = true)) := by
  decide +kernel

theorem witness_ErasesAndScrubA :
    (((tRun).mailboxOpen (Head.A) = true) ∧ ((tRun).noRegionStands = false)) ∧
    (((tRun).mailboxOpen (Head.A) = true) ∧ ((tRun).noRegionStands = false)) ∧
    (((tRun.onDamask fun d => { d with erase := some { sanitize := true, step := 3 } }).damask.erase = some (({ sanitize := true, step := 3 } : Erase))) ∧ ((tRun.onDamask fun d => { d with erase := some { sanitize := true, step := 3 } }).mgmt = true) ∧ (6 ≤ (tRun.onDamask fun d => { d with erase := some { sanitize := true, step := 3 } }).modes.step)) ∧
    (((tRun).works = true)) := by
  decide +kernel

theorem witness_ErasesAndScrubB :
    (((({ tRun with opTime := 100000 } : Blk).onMedia fun m => { m with lapS := { total := sramWords } }).mgmt = true) ∧ ((SramAccess.scrub) = .scrub) ∧ ((({ tRun with opTime := 100000 } : Blk).onMedia fun m => { m with lapS := { total := sramWords } }).media.lapS.lines = ((0 : Fin 66)).val * 262144 + (0) % 262144) ∧ ((({ tRun with opTime := 100000 } : Blk).onMedia fun m => { m with lapS := { total := sramWords } }).media.lapS.behind (({ tRun with opTime := 100000 } : Blk).onMedia fun m => { m with lapS := { total := sramWords } }).opTime 20000 = true) ∧ (((({ tRun with opTime := 100000 } : Blk).onMedia fun m => { m with lapS := { total := sramWords } }).bank ((0 : Fin 66)).val).state ≠ 2)) ∧
    (((tRun).mgmt = true) ∧ ((SramAccess.read) ≠ .scrub) ∧ (((tRun).bank ((3 : Fin 66)).val).state ≠ 2)) ∧
    (((tRun).works = true) ∧ (((0 : Fin 3)).val = 0)) ∧
    (((tRun).works = true) ∧ (((1 : Fin 3)).val = 1)) := by
  decide +kernel

theorem witness_ErasesAndScrubC :
    ((tRun).works = true) ∧ (((2 : Fin 3)).val = 2) := by
  decide +kernel

theorem witness_GauzeEvaluations :
    ((4096 ≤ ((tRun.onGauze fun g => { g with cells := [(cellKey 8 1 0 0, { reads := 4096 })] }).cell ((8 : Fin 256)).val ((1 : Fin 16)).val ((0 : Fin 4)).val ((0 : Fin 3)).val).reads) ∧ ((tRun.onGauze fun g => { g with cells := [(cellKey 8 1 0 0, { reads := 4096 })] }).gauzeFrozen = false)) ∧
    (((tCell).cellInUse ((8 : Fin 256)) ((1 : Fin 16)) ((0 : Fin 4)) = true) ∧ (((tCell).cell ((8 : Fin 256)).val ((1 : Fin 16)).val ((0 : Fin 4)).val ((0 : Fin 3)).val).state ≠ 2) ∧ (((tCell).cell ((8 : Fin 256)).val ((1 : Fin 16)).val ((0 : Fin 4)).val ((0 : Fin 3)).val).last + staleInterval ((1 : Fin 16)) < (tCell).opSec) ∧ ((tCell).gauze.staleAt.find ((8 : Fin 256)) = none)) ∧
    (((tCell).cellInUse ((8 : Fin 256)) ((1 : Fin 16)) ((0 : Fin 4)) = true) ∧ (4 * ((tCell).cell ((8 : Fin 256)).val ((1 : Fin 16)).val ((0 : Fin 4)).val ((0 : Fin 3)).val).last + 3 * staleInterval ((1 : Fin 16)) ≤ 4 * (tCell).opSec) ∧ ((tCell).gauze.probes.has (cellKey ((8 : Fin 256)) ((1 : Fin 16)) ((0 : Fin 4)) ((0 : Fin 3))) = false)) ∧
    ((32 ≤ (tRun.onGauze fun g => { g with weakRgn := [(3, 32)] }).gauze.weakRgn.getD (3) 0)) := by
  decide +kernel

theorem witness_GauzeEvaluationsA :
    (((tCell.onGauze fun g => { g with staleAt := [(8, 100000)] }).cellInUse ((8 : Fin 256)) ((1 : Fin 16)) ((0 : Fin 4)) = true) ∧ (((tCell.onGauze fun g => { g with staleAt := [(8, 100000)] }).cell ((8 : Fin 256)).val ((1 : Fin 16)).val ((0 : Fin 4)).val ((0 : Fin 3)).val).state ≠ 2) ∧ (((tCell.onGauze fun g => { g with staleAt := [(8, 100000)] }).cell ((8 : Fin 256)).val ((1 : Fin 16)).val ((0 : Fin 4)).val ((0 : Fin 3)).val).last + staleInterval ((1 : Fin 16)) < (tCell.onGauze fun g => { g with staleAt := [(8, 100000)] }).opSec) ∧ ((tCell.onGauze fun g => { g with staleAt := [(8, 100000)] }).gauze.staleAt.find ((8 : Fin 256)) = some (100000)) ∧ ((tCell.onGauze fun g => { g with staleAt := [(8, 100000)] }).opSec < (100000) + 86400)) ∧
    ((((tFitted).die ((3 : Fin 256))).state = 1)) ∧
    (((tRun).works = true) ∧ ((tRun).beginEvaluation.areaFrom (tRun).beginEvaluation.gauze.evalNext = some (0))) ∧
    (((tRun).works = true)) := by
  decide +kernel

theorem witness_JoernChannels :
    ((((tRun.onChan 3 fun x => { x with state := 2 }).chan ((3 : Fin 32))).state = 2)) ∧
    (((tRun.onModes fun m => { m with cond := 4, step := 5 }).eff = 2) ∧ ((tRun.onModes fun m => { m with cond := 4, step := 5 }).modes.step = 5) ∧ ((tRun.onModes fun m => { m with cond := 4, step := 5 }).counting ([({ caOk := true, present := 15, pass := 15, timeUs := 5 } : TrainObs)]) = ([(0, ({ caOk := true, present := 15, pass := 15, timeUs := 5 } : TrainObs))])) ∧ ((([(0, ({ caOk := true, present := 15, pass := 15, timeUs := 5 } : TrainObs))]).map fun e => dieRun e.2.present) = ([4]))) ∧
    ((((tRun.onChan 3 fun x => { x with state := 2, retrain := true }).chan ((3 : Fin 32))).retrain = true) ∧ (((tRun.onChan 3 fun x => { x with state := 2, retrain := true }).chan ((3 : Fin 32))).state = 2) ∧ ((tRun.onChan 3 fun x => { x with state := 2, retrain := true }).aloneToRetrain ((3 : Fin 32)) = true) ∧ ((tRun.onChan 3 fun x => { x with state := 2, retrain := true }).resetsClear ((3 : Fin 32)) = true)) ∧
    ((((tRun.onChan 3 fun x => { x with state := 4 }).chan ((3 : Fin 32))).state = 4) ∧ ((true) = true)) := by
  decide +kernel

theorem witness_JoernChannelsA :
    ((((tRun.onChan 3 fun x => { x with state := 1 }).chan ((3 : Fin 32))).state = 1) ∧ ((tRun.onChan 3 fun x => { x with state := 1 }).memoryActive = true) ∧ ((true) = true)) ∧
    ((((tRun.onChan 3 fun x => { x with state := 4 }).chan ((3 : Fin 32))).state = 4) ∧ ((false) = false)) ∧
    ((((tRun.onChan 3 fun x => { x with state := 1 }).chan ((3 : Fin 32))).state = 1) ∧ ((tRun.onChan 3 fun x => { x with state := 1 }).memoryActive = true) ∧ ((false) = false)) ∧
    ((((tRun.onChan 3 fun x => { x with state := 2 }).chan ((3 : Fin 32))).state = 2) ∧ ((tRun.onChan 3 fun x => { x with state := 2 }).modes.deep = false)) := by
  decide +kernel

theorem witness_JoernChannelsB :
    ((((tRun.onChan 3 fun x => { x with state := 2 }).onDie 24 fun x => { x with state := 1 }).chan ((3 : Fin 32))).state = 2) ∧ ((((tRun.onChan 3 fun x => { x with state := 2 }).onDie 24 fun x => { x with state := 1 }).die (dieOf ((3 : Fin 32)) ((0 : Fin 8)))).state = 1) ∧ (((tRun.onChan 3 fun x => { x with state := 2 }).onDie 24 fun x => { x with state := 1 }).modes.deep = false) := by
  decide +kernel

theorem witness_DieArrayCommands1 :
    (((((((tDie).sendDie (partOf ((3 : Fin 32)) ((0 : Fin 8)) ((2 : Fin 32)) / 32) (.rd (BitVec.ofNat 5 ((2 : Fin 32)).val) ((5 : BitVec 23)) ((0 : BitVec 9)) ((0 : BitVec 9)) ((0 : BitVec 9)))).twChan ((3 : Fin 32)).val 1)).dieAwake (partOf ((3 : Fin 32)) ((0 : Fin 8)) ((2 : Fin 32)) / 32) = true)) ∧ ((((((tDie).sendDie (partOf ((3 : Fin 32)) ((0 : Fin 8)) ((2 : Fin 32)) / 32) (.rd (BitVec.ofNat 5 ((2 : Fin 32)).val) ((5 : BitVec 23)) ((0 : BitVec 9)) ((0 : BitVec 9)) ((0 : BitVec 9)))).twChan ((3 : Fin 32)).val 1)).takesRead (partOf ((3 : Fin 32)) ((0 : Fin 8)) ((2 : Fin 32))) = true))) ∧ (((((tDie).sendDie (partOf ((3 : Fin 32)) ((0 : Fin 8)) ((2 : Fin 32)) / 32) (.rd (BitVec.ofNat 5 ((2 : Fin 32)).val) ((5 : BitVec 23)) ((0 : BitVec 9)) ((0 : BitVec 9)) ((0 : BitVec 9)))).twChan ((3 : Fin 32)).val 1) = ((((tDie).sendDie (partOf ((3 : Fin 32)) ((0 : Fin 8)) ((2 : Fin 32)) / 32) (.rd (BitVec.ofNat 5 ((2 : Fin 32)).val) ((5 : BitVec 23)) ((0 : BitVec 9)) ((0 : BitVec 9)) ((0 : BitVec 9)))).twChan ((3 : Fin 32)).val 1)))) ∧ ((((((((tDie).sendDie (partOf ((3 : Fin 32)) ((0 : Fin 8)) ((2 : Fin 32)) / 32) (.rd (BitVec.ofNat 5 ((2 : Fin 32)).val) ((5 : BitVec 23)) ((0 : BitVec 9)) ((0 : BitVec 9)) ((0 : BitVec 9)))).twChan ((3 : Fin 32)).val 1)).occupy (partOf ((3 : Fin 32)) ((0 : Fin 8)) ((2 : Fin 32))) ((5 : BitVec 23)).toNat (((tDie).die (partOf ((3 : Fin 32)) ((0 : Fin 8)) ((2 : Fin 32)) / 32)).seq) 250).dpart (partOf ((3 : Fin 32)) ((0 : Fin 8)) ((2 : Fin 32)))).out = some (((5 : BitVec 23)), ((0 : BitVec 3)), ((1 : BitVec 3)), ((0 : BitVec 72)), ((((((tDie).sendDie (partOf ((3 : Fin 32)) ((0 : Fin 8)) ((2 : Fin 32)) / 32) (.rd (BitVec.ofNat 5 ((2 : Fin 32)).val) ((5 : BitVec 23)) ((0 : BitVec 9)) ((0 : BitVec 9)) ((0 : BitVec 9)))).twChan ((3 : Fin 32)).val 1)).freeVal 1152))))) :=
  ⟨by decide +kernel, rfl, rfl⟩

theorem witness_DieArrayCommands2 :
    (((((((tDieMargin).sendDie (partOf ((3 : Fin 32)) ((0 : Fin 8)) ((2 : Fin 32)) / 32) (.rd (BitVec.ofNat 5 ((2 : Fin 32)).val) ((5 : BitVec 23)) ((0 : BitVec 9)) ((0 : BitVec 9)) ((0 : BitVec 9)))).twChan ((3 : Fin 32)).val 1)).dieAwake (partOf ((3 : Fin 32)) ((0 : Fin 8)) ((2 : Fin 32)) / 32) = true)) ∧ ((((((tDieMargin).sendDie (partOf ((3 : Fin 32)) ((0 : Fin 8)) ((2 : Fin 32)) / 32) (.rd (BitVec.ofNat 5 ((2 : Fin 32)).val) ((5 : BitVec 23)) ((0 : BitVec 9)) ((0 : BitVec 9)) ((0 : BitVec 9)))).twChan ((3 : Fin 32)).val 1)).takesRead (partOf ((3 : Fin 32)) ((0 : Fin 8)) ((2 : Fin 32))) = false))) ∧ (((((tDieMargin).sendDie (partOf ((3 : Fin 32)) ((0 : Fin 8)) ((2 : Fin 32)) / 32) (.rd (BitVec.ofNat 5 ((2 : Fin 32)).val) ((5 : BitVec 23)) ((0 : BitVec 9)) ((0 : BitVec 9)) ((0 : BitVec 9)))).twChan ((3 : Fin 32)).val 1) = ((((tDieMargin).sendDie (partOf ((3 : Fin 32)) ((0 : Fin 8)) ((2 : Fin 32)) / 32) (.rd (BitVec.ofNat 5 ((2 : Fin 32)).val) ((5 : BitVec 23)) ((0 : BitVec 9)) ((0 : BitVec 9)) ((0 : BitVec 9)))).twChan ((3 : Fin 32)).val 1)))) :=
  ⟨by decide +kernel, rfl⟩

theorem witness_DieArrayCommands3 :
    ((((((tDie).sendDie (partOf ((3 : Fin 32)) ((0 : Fin 8)) ((2 : Fin 32)) / 32) (.mrd (BitVec.ofNat 5 ((2 : Fin 32)).val) ((5 : BitVec 23)) ((0 : BitVec 9)) ((0 : BitVec 9)) ((0 : BitVec 9))))).dieAwake (partOf ((3 : Fin 32)) ((0 : Fin 8)) ((2 : Fin 32)) / 32) = true)) ∧ (((((tDie).sendDie (partOf ((3 : Fin 32)) ((0 : Fin 8)) ((2 : Fin 32)) / 32) (.mrd (BitVec.ofNat 5 ((2 : Fin 32)).val) ((5 : BitVec 23)) ((0 : BitVec 9)) ((0 : BitVec 9)) ((0 : BitVec 9))))).takesWrite (partOf ((3 : Fin 32)) ((0 : Fin 8)) ((2 : Fin 32))) = true)) ∧ (((((tDie).sendDie (partOf ((3 : Fin 32)) ((0 : Fin 8)) ((2 : Fin 32)) / 32) (.mrd (BitVec.ofNat 5 ((2 : Fin 32)).val) ((5 : BitVec 23)) ((0 : BitVec 9)) ((0 : BitVec 9)) ((0 : BitVec 9))))).takesRead (partOf ((3 : Fin 32)) ((0 : Fin 8)) ((2 : Fin 32))) = true))) ∧ ((((tDie).sendDie (partOf ((3 : Fin 32)) ((0 : Fin 8)) ((2 : Fin 32)) / 32) (.mrd (BitVec.ofNat 5 ((2 : Fin 32)).val) ((5 : BitVec 23)) ((0 : BitVec 9)) ((0 : BitVec 9)) ((0 : BitVec 9)))) = (((tDie).sendDie (partOf ((3 : Fin 32)) ((0 : Fin 8)) ((2 : Fin 32)) / 32) (.mrd (BitVec.ofNat 5 ((2 : Fin 32)).val) ((5 : BitVec 23)) ((0 : BitVec 9)) ((0 : BitVec 9)) ((0 : BitVec 9))))))) ∧ (((match (tDie).probeOf (partOf ((3 : Fin 32)) ((0 : Fin 8)) ((2 : Fin 32))) ((5 : BitVec 23)).toNat ((0 : BitVec 9)) ((0 : BitVec 9)) ((0 : BitVec 9)) with | some (y, n) => (((tDie).sendDie (partOf ((3 : Fin 32)) ((0 : Fin 8)) ((2 : Fin 32)) / 32) (.mrd (BitVec.ofNat 5 ((2 : Fin 32)).val) ((5 : BitVec 23)) ((0 : BitVec 9)) ((0 : BitVec 9)) ((0 : BitVec 9))))).probeSent (partOf ((3 : Fin 32)) ((0 : Fin 8)) ((2 : Fin 32)) / 32) y n | none => (((tDie).sendDie (partOf ((3 : Fin 32)) ((0 : Fin 8)) ((2 : Fin 32)) / 32) (.mrd (BitVec.ofNat 5 ((2 : Fin 32)).val) ((5 : BitVec 23)) ((0 : BitVec 9)) ((0 : BitVec 9)) ((0 : BitVec 9)))))) = (((tDie).sendDie (partOf ((3 : Fin 32)) ((0 : Fin 8)) ((2 : Fin 32)) / 32) (.mrd (BitVec.ofNat 5 ((2 : Fin 32)).val) ((5 : BitVec 23)) ((0 : BitVec 9)) ((0 : BitVec 9)) ((0 : BitVec 9))))))) ∧ (((((((tDie).sendDie (partOf ((3 : Fin 32)) ((0 : Fin 8)) ((2 : Fin 32)) / 32) (.mrd (BitVec.ofNat 5 ((2 : Fin 32)).val) ((5 : BitVec 23)) ((0 : BitVec 9)) ((0 : BitVec 9)) ((0 : BitVec 9))))).occupy (partOf ((3 : Fin 32)) ((0 : Fin 8)) ((2 : Fin 32))) ((5 : BitVec 23)).toNat (((tDie).die (partOf ((3 : Fin 32)) ((0 : Fin 8)) ((2 : Fin 32)) / 32)).seq) 400).dpart (partOf ((3 : Fin 32)) ((0 : Fin 8)) ((2 : Fin 32)))).out = some (((5 : BitVec 23)), ((0 : BitVec 3)), ((1 : BitVec 3)), ((0 : BitVec 72)), (((((tDie).sendDie (partOf ((3 : Fin 32)) ((0 : Fin 8)) ((2 : Fin 32)) / 32) (.mrd (BitVec.ofNat 5 ((2 : Fin 32)).val) ((5 : BitVec 23)) ((0 : BitVec 9)) ((0 : BitVec 9)) ((0 : BitVec 9))))).freeVal 1152))))) :=
  ⟨by decide +kernel, rfl, by rw [mrd_noProbe], rfl⟩

theorem witness_DieArrayCommands4 :
    ((((((tDieProg).sendDie (partOf ((3 : Fin 32)) ((0 : Fin 8)) ((2 : Fin 32)) / 32) (.mrd (BitVec.ofNat 5 ((2 : Fin 32)).val) ((5 : BitVec 23)) ((0 : BitVec 9)) ((0 : BitVec 9)) ((0 : BitVec 9))))).dieAwake (partOf ((3 : Fin 32)) ((0 : Fin 8)) ((2 : Fin 32)) / 32) = true)) ∧ (((((tDieProg).sendDie (partOf ((3 : Fin 32)) ((0 : Fin 8)) ((2 : Fin 32)) / 32) (.mrd (BitVec.ofNat 5 ((2 : Fin 32)).val) ((5 : BitVec 23)) ((0 : BitVec 9)) ((0 : BitVec 9)) ((0 : BitVec 9))))).takesWrite (partOf ((3 : Fin 32)) ((0 : Fin 8)) ((2 : Fin 32))) = false)) ∧ (((((tDieProg).sendDie (partOf ((3 : Fin 32)) ((0 : Fin 8)) ((2 : Fin 32)) / 32) (.mrd (BitVec.ofNat 5 ((2 : Fin 32)).val) ((5 : BitVec 23)) ((0 : BitVec 9)) ((0 : BitVec 9)) ((0 : BitVec 9))))).takesRead (partOf ((3 : Fin 32)) ((0 : Fin 8)) ((2 : Fin 32))) = false))) ∧ ((((tDieProg).sendDie (partOf ((3 : Fin 32)) ((0 : Fin 8)) ((2 : Fin 32)) / 32) (.mrd (BitVec.ofNat 5 ((2 : Fin 32)).val) ((5 : BitVec 23)) ((0 : BitVec 9)) ((0 : BitVec 9)) ((0 : BitVec 9)))) = (((tDieProg).sendDie (partOf ((3 : Fin 32)) ((0 : Fin 8)) ((2 : Fin 32)) / 32) (.mrd (BitVec.ofNat 5 ((2 : Fin 32)).val) ((5 : BitVec 23)) ((0 : BitVec 9)) ((0 : BitVec 9)) ((0 : BitVec 9))))))) :=
  ⟨by decide +kernel, rfl⟩

theorem witness_DieArrayCommands5 :
    (((((((tDieReset).sendDie (partOf ((3 : Fin 32)) ((0 : Fin 8)) ((2 : Fin 32)) / 32) (.rrs (BitVec.ofNat 5 ((2 : Fin 32)).val))).twChan ((3 : Fin 32)).val 6)).dieAwake (partOf ((3 : Fin 32)) ((0 : Fin 8)) ((2 : Fin 32)) / 32) = true)) ∧ ((((((tDieReset).sendDie (partOf ((3 : Fin 32)) ((0 : Fin 8)) ((2 : Fin 32)) / 32) (.rrs (BitVec.ofNat 5 ((2 : Fin 32)).val))).twChan ((3 : Fin 32)).val 6)).takesRead (partOf ((3 : Fin 32)) ((0 : Fin 8)) ((2 : Fin 32))) = false))) ∧ (((((tDieReset).sendDie (partOf ((3 : Fin 32)) ((0 : Fin 8)) ((2 : Fin 32)) / 32) (.rrs (BitVec.ofNat 5 ((2 : Fin 32)).val))).twChan ((3 : Fin 32)).val 6) = ((((tDieReset).sendDie (partOf ((3 : Fin 32)) ((0 : Fin 8)) ((2 : Fin 32)) / 32) (.rrs (BitVec.ofNat 5 ((2 : Fin 32)).val))).twChan ((3 : Fin 32)).val 6)))) :=
  ⟨by decide +kernel, rfl⟩

theorem witness_DieArrayCommands6 :
    (((((((tDieRead).sendDie (partOf ((3 : Fin 32)) ((0 : Fin 8)) ((2 : Fin 32)) / 32) (.rrs (BitVec.ofNat 5 ((2 : Fin 32)).val))).twChan ((3 : Fin 32)).val 6)).dieAwake (partOf ((3 : Fin 32)) ((0 : Fin 8)) ((2 : Fin 32)) / 32) = true)) ∧ ((((((tDieRead).sendDie (partOf ((3 : Fin 32)) ((0 : Fin 8)) ((2 : Fin 32)) / 32) (.rrs (BitVec.ofNat 5 ((2 : Fin 32)).val))).twChan ((3 : Fin 32)).val 6)).takesRead (partOf ((3 : Fin 32)) ((0 : Fin 8)) ((2 : Fin 32))) = true))) ∧ (((((tDieRead).sendDie (partOf ((3 : Fin 32)) ((0 : Fin 8)) ((2 : Fin 32)) / 32) (.rrs (BitVec.ofNat 5 ((2 : Fin 32)).val))).twChan ((3 : Fin 32)).val 6) = ((((tDieRead).sendDie (partOf ((3 : Fin 32)) ((0 : Fin 8)) ((2 : Fin 32)) / 32) (.rrs (BitVec.ofNat 5 ((2 : Fin 32)).val))).twChan ((3 : Fin 32)).val 6)))) ∧ (((((((tDieRead).sendDie (partOf ((3 : Fin 32)) ((0 : Fin 8)) ((2 : Fin 32)) / 32) (.rrs (BitVec.ofNat 5 ((2 : Fin 32)).val))).twChan ((3 : Fin 32)).val 6)).dpart (partOf ((3 : Fin 32)) ((0 : Fin 8)) ((2 : Fin 32)))).out = some (((5 : BitVec 23)), ((0 : BitVec 3)), ((1 : BitVec 3)), ((0 : BitVec 72)), ((0 : BitVec 1152))))) :=
  ⟨by decide +kernel, rfl, rfl⟩

theorem witness_DieArrayCommands7 :
    (((((((tDie).sendDie (partOf ((3 : Fin 32)) ((0 : Fin 8)) ((2 : Fin 32)) / 32) (.pgm (BitVec.ofNat 5 ((2 : Fin 32)).val) ((5 : BitVec 23)))).twChan ((3 : Fin 32)).val 2)).dieAwake (partOf ((3 : Fin 32)) ((0 : Fin 8)) ((2 : Fin 32)) / 32) = true)) ∧ ((((((tDie).sendDie (partOf ((3 : Fin 32)) ((0 : Fin 8)) ((2 : Fin 32)) / 32) (.pgm (BitVec.ofNat 5 ((2 : Fin 32)).val) ((5 : BitVec 23)))).twChan ((3 : Fin 32)).val 2)).takesWrite (partOf ((3 : Fin 32)) ((0 : Fin 8)) ((2 : Fin 32))) = true)) ∧ ((((((tDie).sendDie (partOf ((3 : Fin 32)) ((0 : Fin 8)) ((2 : Fin 32)) / 32) (.pgm (BitVec.ofNat 5 ((2 : Fin 32)).val) ((5 : BitVec 23)))).twChan ((3 : Fin 32)).val 2)).dieWrites (partOf ((3 : Fin 32)) ((0 : Fin 8)) ((2 : Fin 32)) / 32) < 8)) ∧ ((((((tDie).sendDie (partOf ((3 : Fin 32)) ((0 : Fin 8)) ((2 : Fin 32)) / 32) (.pgm (BitVec.ofNat 5 ((2 : Fin 32)).val) ((5 : BitVec 23)))).twChan ((3 : Fin 32)).val 2)).media.lines.find (locOf (partOf ((3 : Fin 32)) ((0 : Fin 8)) ((2 : Fin 32))) ((5 : BitVec 23)).toNat) = none)) ∧ (((true) = true))) ∧ (((((tDie).sendDie (partOf ((3 : Fin 32)) ((0 : Fin 8)) ((2 : Fin 32)) / 32) (.pgm (BitVec.ofNat 5 ((2 : Fin 32)).val) ((5 : BitVec 23)))).twChan ((3 : Fin 32)).val 2) = ((((tDie).sendDie (partOf ((3 : Fin 32)) ((0 : Fin 8)) ((2 : Fin 32)) / 32) (.pgm (BitVec.ofNat 5 ((2 : Fin 32)).val) ((5 : BitVec 23)))).twChan ((3 : Fin 32)).val 2)))) :=
  ⟨by decide +kernel, rfl⟩

theorem witness_DieArrayCommands8 :
    (((((((tDie).sendDie (partOf ((3 : Fin 32)) ((0 : Fin 8)) ((2 : Fin 32)) / 32) (.pgm (BitVec.ofNat 5 ((2 : Fin 32)).val) ((5 : BitVec 23)))).twChan ((3 : Fin 32)).val 2)).dieAwake (partOf ((3 : Fin 32)) ((0 : Fin 8)) ((2 : Fin 32)) / 32) = true)) ∧ ((((((tDie).sendDie (partOf ((3 : Fin 32)) ((0 : Fin 8)) ((2 : Fin 32)) / 32) (.pgm (BitVec.ofNat 5 ((2 : Fin 32)).val) ((5 : BitVec 23)))).twChan ((3 : Fin 32)).val 2)).takesWrite (partOf ((3 : Fin 32)) ((0 : Fin 8)) ((2 : Fin 32))) = true)) ∧ ((((((tDie).sendDie (partOf ((3 : Fin 32)) ((0 : Fin 8)) ((2 : Fin 32)) / 32) (.pgm (BitVec.ofNat 5 ((2 : Fin 32)).val) ((5 : BitVec 23)))).twChan ((3 : Fin 32)).val 2)).dieWrites (partOf ((3 : Fin 32)) ((0 : Fin 8)) ((2 : Fin 32)) / 32) < 8)) ∧ ((((((tDie).sendDie (partOf ((3 : Fin 32)) ((0 : Fin 8)) ((2 : Fin 32)) / 32) (.pgm (BitVec.ofNat 5 ((2 : Fin 32)).val) ((5 : BitVec 23)))).twChan ((3 : Fin 32)).val 2)).media.lines.find (locOf (partOf ((3 : Fin 32)) ((0 : Fin 8)) ((2 : Fin 32))) ((5 : BitVec 23)).toNat) = none)) ∧ (((false) = false))) ∧ (((((tDie).sendDie (partOf ((3 : Fin 32)) ((0 : Fin 8)) ((2 : Fin 32)) / 32) (.pgm (BitVec.ofNat 5 ((2 : Fin 32)).val) ((5 : BitVec 23)))).twChan ((3 : Fin 32)).val 2) = ((((tDie).sendDie (partOf ((3 : Fin 32)) ((0 : Fin 8)) ((2 : Fin 32)) / 32) (.pgm (BitVec.ofNat 5 ((2 : Fin 32)).val) ((5 : BitVec 23)))).twChan ((3 : Fin 32)).val 2)))) :=
  ⟨by decide +kernel, rfl⟩

theorem witness_DieArrayCommands9 :
    (((((((tDie).sendDie (partOf ((3 : Fin 32)) ((0 : Fin 8)) ((2 : Fin 32)) / 32) (.ovw (BitVec.ofNat 5 ((2 : Fin 32)).val) ((5 : BitVec 23)))).twChan ((3 : Fin 32)).val 3)).dieAwake (partOf ((3 : Fin 32)) ((0 : Fin 8)) ((2 : Fin 32)) / 32) = true)) ∧ ((((((tDie).sendDie (partOf ((3 : Fin 32)) ((0 : Fin 8)) ((2 : Fin 32)) / 32) (.ovw (BitVec.ofNat 5 ((2 : Fin 32)).val) ((5 : BitVec 23)))).twChan ((3 : Fin 32)).val 3)).takesWrite (partOf ((3 : Fin 32)) ((0 : Fin 8)) ((2 : Fin 32))) = true)) ∧ ((((((tDie).sendDie (partOf ((3 : Fin 32)) ((0 : Fin 8)) ((2 : Fin 32)) / 32) (.ovw (BitVec.ofNat 5 ((2 : Fin 32)).val) ((5 : BitVec 23)))).twChan ((3 : Fin 32)).val 3)).dieWrites (partOf ((3 : Fin 32)) ((0 : Fin 8)) ((2 : Fin 32)) / 32) < 8)) ∧ (((true) = true))) ∧ (((((tDie).sendDie (partOf ((3 : Fin 32)) ((0 : Fin 8)) ((2 : Fin 32)) / 32) (.ovw (BitVec.ofNat 5 ((2 : Fin 32)).val) ((5 : BitVec 23)))).twChan ((3 : Fin 32)).val 3) = ((((tDie).sendDie (partOf ((3 : Fin 32)) ((0 : Fin 8)) ((2 : Fin 32)) / 32) (.ovw (BitVec.ofNat 5 ((2 : Fin 32)).val) ((5 : BitVec 23)))).twChan ((3 : Fin 32)).val 3)))) :=
  ⟨by decide +kernel, rfl⟩

theorem witness_DieArrayCommands10 :
    (((((((tDie).sendDie (partOf ((3 : Fin 32)) ((0 : Fin 8)) ((2 : Fin 32)) / 32) (.ovw (BitVec.ofNat 5 ((2 : Fin 32)).val) ((5 : BitVec 23)))).twChan ((3 : Fin 32)).val 3)).dieAwake (partOf ((3 : Fin 32)) ((0 : Fin 8)) ((2 : Fin 32)) / 32) = true)) ∧ ((((((tDie).sendDie (partOf ((3 : Fin 32)) ((0 : Fin 8)) ((2 : Fin 32)) / 32) (.ovw (BitVec.ofNat 5 ((2 : Fin 32)).val) ((5 : BitVec 23)))).twChan ((3 : Fin 32)).val 3)).takesWrite (partOf ((3 : Fin 32)) ((0 : Fin 8)) ((2 : Fin 32))) = true)) ∧ ((((((tDie).sendDie (partOf ((3 : Fin 32)) ((0 : Fin 8)) ((2 : Fin 32)) / 32) (.ovw (BitVec.ofNat 5 ((2 : Fin 32)).val) ((5 : BitVec 23)))).twChan ((3 : Fin 32)).val 3)).dieWrites (partOf ((3 : Fin 32)) ((0 : Fin 8)) ((2 : Fin 32)) / 32) < 8)) ∧ (((false) = false))) ∧ (((((tDie).sendDie (partOf ((3 : Fin 32)) ((0 : Fin 8)) ((2 : Fin 32)) / 32) (.ovw (BitVec.ofNat 5 ((2 : Fin 32)).val) ((5 : BitVec 23)))).twChan ((3 : Fin 32)).val 3) = ((((tDie).sendDie (partOf ((3 : Fin 32)) ((0 : Fin 8)) ((2 : Fin 32)) / 32) (.ovw (BitVec.ofNat 5 ((2 : Fin 32)).val) ((5 : BitVec 23)))).twChan ((3 : Fin 32)).val 3)))) :=
  ⟨by decide +kernel, rfl⟩

theorem witness_DieArrayCommands11 :
    (((((((tDie).sendDie (partOf ((3 : Fin 32)) ((0 : Fin 8)) ((2 : Fin 32)) / 32) (.trs (BitVec.ofNat 5 ((2 : Fin 32)).val) ((5 : BitVec 17)) (BitVec.ofNat 2 ((1 : Fin 4)).val))).twChan ((3 : Fin 32)).val 4)).dieAwake (partOf ((3 : Fin 32)) ((0 : Fin 8)) ((2 : Fin 32)) / 32) = true)) ∧ ((((((tDie).sendDie (partOf ((3 : Fin 32)) ((0 : Fin 8)) ((2 : Fin 32)) / 32) (.trs (BitVec.ofNat 5 ((2 : Fin 32)).val) ((5 : BitVec 17)) (BitVec.ofNat 2 ((1 : Fin 4)).val))).twChan ((3 : Fin 32)).val 4)).takesWrite (partOf ((3 : Fin 32)) ((0 : Fin 8)) ((2 : Fin 32))) = true)) ∧ ((((((tDie).sendDie (partOf ((3 : Fin 32)) ((0 : Fin 8)) ((2 : Fin 32)) / 32) (.trs (BitVec.ofNat 5 ((2 : Fin 32)).val) ((5 : BitVec 17)) (BitVec.ofNat 2 ((1 : Fin 4)).val))).twChan ((3 : Fin 32)).val 4)).resets (partOf ((3 : Fin 32)) ((0 : Fin 8)) ((2 : Fin 32)) / 32) < 4)) ∧ ((((5 : BitVec 17)).toNat + ((1 : Fin 4)).val < 131072))) ∧ (((((tDie).sendDie (partOf ((3 : Fin 32)) ((0 : Fin 8)) ((2 : Fin 32)) / 32) (.trs (BitVec.ofNat 5 ((2 : Fin 32)).val) ((5 : BitVec 17)) (BitVec.ofNat 2 ((1 : Fin 4)).val))).twChan ((3 : Fin 32)).val 4) = ((((tDie).sendDie (partOf ((3 : Fin 32)) ((0 : Fin 8)) ((2 : Fin 32)) / 32) (.trs (BitVec.ofNat 5 ((2 : Fin 32)).val) ((5 : BitVec 17)) (BitVec.ofNat 2 ((1 : Fin 4)).val))).twChan ((3 : Fin 32)).val 4)))) :=
  ⟨by decide +kernel, rfl⟩

theorem witness_DieArrayCommands12 :
    (((((((tDieReset).sendDie (partOf ((3 : Fin 32)) ((0 : Fin 8)) ((2 : Fin 32)) / 32) (.trs (BitVec.ofNat 5 ((2 : Fin 32)).val) ((5 : BitVec 17)) (BitVec.ofNat 2 ((1 : Fin 4)).val))).twChan ((3 : Fin 32)).val 4)).dieAwake (partOf ((3 : Fin 32)) ((0 : Fin 8)) ((2 : Fin 32)) / 32) = true)) ∧ (((((((tDieReset).sendDie (partOf ((3 : Fin 32)) ((0 : Fin 8)) ((2 : Fin 32)) / 32) (.trs (BitVec.ofNat 5 ((2 : Fin 32)).val) ((5 : BitVec 17)) (BitVec.ofNat 2 ((1 : Fin 4)).val))).twChan ((3 : Fin 32)).val 4)).takesWrite (partOf ((3 : Fin 32)) ((0 : Fin 8)) ((2 : Fin 32))) = false ∨ 4 ≤ ((((tDieReset).sendDie (partOf ((3 : Fin 32)) ((0 : Fin 8)) ((2 : Fin 32)) / 32) (.trs (BitVec.ofNat 5 ((2 : Fin 32)).val) ((5 : BitVec 17)) (BitVec.ofNat 2 ((1 : Fin 4)).val))).twChan ((3 : Fin 32)).val 4)).resets (partOf ((3 : Fin 32)) ((0 : Fin 8)) ((2 : Fin 32)) / 32) ∨ 131072 ≤ ((5 : BitVec 17)).toNat + ((1 : Fin 4)).val)))) ∧ (((((tDieReset).sendDie (partOf ((3 : Fin 32)) ((0 : Fin 8)) ((2 : Fin 32)) / 32) (.trs (BitVec.ofNat 5 ((2 : Fin 32)).val) ((5 : BitVec 17)) (BitVec.ofNat 2 ((1 : Fin 4)).val))).twChan ((3 : Fin 32)).val 4) = ((((tDieReset).sendDie (partOf ((3 : Fin 32)) ((0 : Fin 8)) ((2 : Fin 32)) / 32) (.trs (BitVec.ofNat 5 ((2 : Fin 32)).val) ((5 : BitVec 17)) (BitVec.ofNat 2 ((1 : Fin 4)).val))).twChan ((3 : Fin 32)).val 4)))) :=
  ⟨by decide +kernel, rfl⟩

theorem witness_DieArrayCommands13 :
    (((((((tDieReset).sendDie (partOf ((3 : Fin 32)) ((0 : Fin 8)) ((2 : Fin 32)) / 32) (.pgm (BitVec.ofNat 5 ((2 : Fin 32)).val) ((5 : BitVec 23)))).twChan ((3 : Fin 32)).val 2)).dieAwake (partOf ((3 : Fin 32)) ((0 : Fin 8)) ((2 : Fin 32)) / 32) = true)) ∧ (((((((tDieReset).sendDie (partOf ((3 : Fin 32)) ((0 : Fin 8)) ((2 : Fin 32)) / 32) (.pgm (BitVec.ofNat 5 ((2 : Fin 32)).val) ((5 : BitVec 23)))).twChan ((3 : Fin 32)).val 2)).takesWrite (partOf ((3 : Fin 32)) ((0 : Fin 8)) ((2 : Fin 32))) = false ∨ 8 ≤ ((((tDieReset).sendDie (partOf ((3 : Fin 32)) ((0 : Fin 8)) ((2 : Fin 32)) / 32) (.pgm (BitVec.ofNat 5 ((2 : Fin 32)).val) ((5 : BitVec 23)))).twChan ((3 : Fin 32)).val 2)).dieWrites (partOf ((3 : Fin 32)) ((0 : Fin 8)) ((2 : Fin 32)) / 32) ∨ (((((tDieReset).sendDie (partOf ((3 : Fin 32)) ((0 : Fin 8)) ((2 : Fin 32)) / 32) (.pgm (BitVec.ofNat 5 ((2 : Fin 32)).val) ((5 : BitVec 23)))).twChan ((3 : Fin 32)).val 2)).media.lines.find (locOf (partOf ((3 : Fin 32)) ((0 : Fin 8)) ((2 : Fin 32))) ((5 : BitVec 23)).toNat)).isSome = true)))) ∧ (((((tDieReset).sendDie (partOf ((3 : Fin 32)) ((0 : Fin 8)) ((2 : Fin 32)) / 32) (.pgm (BitVec.ofNat 5 ((2 : Fin 32)).val) ((5 : BitVec 23)))).twChan ((3 : Fin 32)).val 2) = ((((tDieReset).sendDie (partOf ((3 : Fin 32)) ((0 : Fin 8)) ((2 : Fin 32)) / 32) (.pgm (BitVec.ofNat 5 ((2 : Fin 32)).val) ((5 : BitVec 23)))).twChan ((3 : Fin 32)).val 2)))) :=
  ⟨by decide +kernel, rfl⟩

theorem witness_DieArrayCommands14 :
    (((((((tDieReset).sendDie (partOf ((3 : Fin 32)) ((0 : Fin 8)) ((2 : Fin 32)) / 32) (.ovw (BitVec.ofNat 5 ((2 : Fin 32)).val) ((5 : BitVec 23)))).twChan ((3 : Fin 32)).val 3)).dieAwake (partOf ((3 : Fin 32)) ((0 : Fin 8)) ((2 : Fin 32)) / 32) = true)) ∧ (((((((tDieReset).sendDie (partOf ((3 : Fin 32)) ((0 : Fin 8)) ((2 : Fin 32)) / 32) (.ovw (BitVec.ofNat 5 ((2 : Fin 32)).val) ((5 : BitVec 23)))).twChan ((3 : Fin 32)).val 3)).takesWrite (partOf ((3 : Fin 32)) ((0 : Fin 8)) ((2 : Fin 32))) = false ∨ 8 ≤ ((((tDieReset).sendDie (partOf ((3 : Fin 32)) ((0 : Fin 8)) ((2 : Fin 32)) / 32) (.ovw (BitVec.ofNat 5 ((2 : Fin 32)).val) ((5 : BitVec 23)))).twChan ((3 : Fin 32)).val 3)).dieWrites (partOf ((3 : Fin 32)) ((0 : Fin 8)) ((2 : Fin 32)) / 32))))) ∧ (((((tDieReset).sendDie (partOf ((3 : Fin 32)) ((0 : Fin 8)) ((2 : Fin 32)) / 32) (.ovw (BitVec.ofNat 5 ((2 : Fin 32)).val) ((5 : BitVec 23)))).twChan ((3 : Fin 32)).val 3) = ((((tDieReset).sendDie (partOf ((3 : Fin 32)) ((0 : Fin 8)) ((2 : Fin 32)) / 32) (.ovw (BitVec.ofNat 5 ((2 : Fin 32)).val) ((5 : BitVec 23)))).twChan ((3 : Fin 32)).val 3)))) :=
  ⟨by decide +kernel, rfl⟩

theorem witness_DieArrayCommands15 :
    (((((((tDieProg).sendDie (partOf ((3 : Fin 32)) ((0 : Fin 8)) ((2 : Fin 32)) / 32) (.sus (BitVec.ofNat 5 ((2 : Fin 32)).val))).twChan ((3 : Fin 32)).val 5)).dieAwake (partOf ((3 : Fin 32)) ((0 : Fin 8)) ((2 : Fin 32)) / 32) = true)) ∧ (((((((tDieProg).sendDie (partOf ((3 : Fin 32)) ((0 : Fin 8)) ((2 : Fin 32)) / 32) (.sus (BitVec.ofNat 5 ((2 : Fin 32)).val))).twChan ((3 : Fin 32)).val 5)).part (partOf ((3 : Fin 32)) ((0 : Fin 8)) ((2 : Fin 32)))).op = .program (5) (({ data := 0, md := 0 } : MLine)) (ProgFor.record tMem) (false) (false) (0))) ∧ (((((((tDieProg).sendDie (partOf ((3 : Fin 32)) ((0 : Fin 8)) ((2 : Fin 32)) / 32) (.sus (BitVec.ofNat 5 ((2 : Fin 32)).val))).twChan ((3 : Fin 32)).val 5)).part (partOf ((3 : Fin 32)) ((0 : Fin 8)) ((2 : Fin 32)))).suspended = false)) ∧ (((((((tDieProg).sendDie (partOf ((3 : Fin 32)) ((0 : Fin 8)) ((2 : Fin 32)) / 32) (.sus (BitVec.ofNat 5 ((2 : Fin 32)).val))).twChan ((3 : Fin 32)).val 5)).part (partOf ((3 : Fin 32)) ((0 : Fin 8)) ((2 : Fin 32)))).readyAt ≤ ((((tDieProg).sendDie (partOf ((3 : Fin 32)) ((0 : Fin 8)) ((2 : Fin 32)) / 32) (.sus (BitVec.ofNat 5 ((2 : Fin 32)).val))).twChan ((3 : Fin 32)).val 5)).now))) ∧ (((((tDieProg).sendDie (partOf ((3 : Fin 32)) ((0 : Fin 8)) ((2 : Fin 32)) / 32) (.sus (BitVec.ofNat 5 ((2 : Fin 32)).val))).twChan ((3 : Fin 32)).val 5) = ((((tDieProg).sendDie (partOf ((3 : Fin 32)) ((0 : Fin 8)) ((2 : Fin 32)) / 32) (.sus (BitVec.ofNat 5 ((2 : Fin 32)).val))).twChan ((3 : Fin 32)).val 5)))) :=
  ⟨by decide +kernel, rfl⟩

theorem witness_DieArrayCommands16 :
    (((((((tDieReset).sendDie (partOf ((3 : Fin 32)) ((0 : Fin 8)) ((2 : Fin 32)) / 32) (.sus (BitVec.ofNat 5 ((2 : Fin 32)).val))).twChan ((3 : Fin 32)).val 5)).dieAwake (partOf ((3 : Fin 32)) ((0 : Fin 8)) ((2 : Fin 32)) / 32) = true)) ∧ (((((((tDieReset).sendDie (partOf ((3 : Fin 32)) ((0 : Fin 8)) ((2 : Fin 32)) / 32) (.sus (BitVec.ofNat 5 ((2 : Fin 32)).val))).twChan ((3 : Fin 32)).val 5)).part (partOf ((3 : Fin 32)) ((0 : Fin 8)) ((2 : Fin 32)))).op = .reset (5) (0) ((none : Option Nat))))) ∧ (((((tDieReset).sendDie (partOf ((3 : Fin 32)) ((0 : Fin 8)) ((2 : Fin 32)) / 32) (.sus (BitVec.ofNat 5 ((2 : Fin 32)).val))).twChan ((3 : Fin 32)).val 5) = ((((tDieReset).sendDie (partOf ((3 : Fin 32)) ((0 : Fin 8)) ((2 : Fin 32)) / 32) (.sus (BitVec.ofNat 5 ((2 : Fin 32)).val))).twChan ((3 : Fin 32)).val 5)))) :=
  ⟨by decide +kernel, rfl⟩

theorem witness_DieArrayCommands17 :
    (((((((tDieMargin).sendDie (partOf ((3 : Fin 32)) ((0 : Fin 8)) ((2 : Fin 32)) / 32) (.sus (BitVec.ofNat 5 ((2 : Fin 32)).val))).twChan ((3 : Fin 32)).val 5)).dieAwake (partOf ((3 : Fin 32)) ((0 : Fin 8)) ((2 : Fin 32)) / 32) = true)) ∧ (((((((tDieMargin).sendDie (partOf ((3 : Fin 32)) ((0 : Fin 8)) ((2 : Fin 32)) / 32) (.sus (BitVec.ofNat 5 ((2 : Fin 32)).val))).twChan ((3 : Fin 32)).val 5)).part (partOf ((3 : Fin 32)) ((0 : Fin 8)) ((2 : Fin 32)))).op = .marginRead ({ line := 5, o2 := 0, o1 := 0, o0 := 0, probe := none })))) ∧ (((((tDieMargin).sendDie (partOf ((3 : Fin 32)) ((0 : Fin 8)) ((2 : Fin 32)) / 32) (.sus (BitVec.ofNat 5 ((2 : Fin 32)).val))).twChan ((3 : Fin 32)).val 5) = ((((tDieMargin).sendDie (partOf ((3 : Fin 32)) ((0 : Fin 8)) ((2 : Fin 32)) / 32) (.sus (BitVec.ofNat 5 ((2 : Fin 32)).val))).twChan ((3 : Fin 32)).val 5)))) :=
  ⟨by decide +kernel, rfl⟩

theorem witness_DieArrayCommands18 :
    ((((((tDieSusp).sendDie (partOf ((3 : Fin 32)) ((0 : Fin 8)) ((2 : Fin 32)) / 32) (.rsm (BitVec.ofNat 5 ((2 : Fin 32)).val)))).dieAwake (partOf ((3 : Fin 32)) ((0 : Fin 8)) ((2 : Fin 32)) / 32) = true)) ∧ ((((((tDieSusp).sendDie (partOf ((3 : Fin 32)) ((0 : Fin 8)) ((2 : Fin 32)) / 32) (.rsm (BitVec.ofNat 5 ((2 : Fin 32)).val)))).part (partOf ((3 : Fin 32)) ((0 : Fin 8)) ((2 : Fin 32)))).suspended = true))) ∧ ((((tDieSusp).sendDie (partOf ((3 : Fin 32)) ((0 : Fin 8)) ((2 : Fin 32)) / 32) (.rsm (BitVec.ofNat 5 ((2 : Fin 32)).val))) = (((tDieSusp).sendDie (partOf ((3 : Fin 32)) ((0 : Fin 8)) ((2 : Fin 32)) / 32) (.rsm (BitVec.ofNat 5 ((2 : Fin 32)).val)))))) :=
  ⟨by decide +kernel, rfl⟩

theorem witness_DieRegisterCommands1 :
    ((((tDie.sendDie (dieOf (3 : Fin 32) (0 : Fin 8)) (.str))).dieAwake (dieOf ((3 : Fin 32)) ((0 : Fin 8))) = true)) ∧ (((tDie).sendDie (dieOf ((3 : Fin 32)) ((0 : Fin 8))) (.str) = ((tDie.sendDie (dieOf (3 : Fin 32) (0 : Fin 8)) (.str))))) :=
  ⟨by decide +kernel, rfl⟩

theorem witness_DieRegisterCommands2 :
    ((((tDie.sendDie (dieOf (3 : Fin 32) (0 : Fin 8)) (.mrr (3 : BitVec 8)))).dieAwake (dieOf ((3 : Fin 32)) ((0 : Fin 8))) = true)) ∧ (((tDie).sendDie (dieOf ((3 : Fin 32)) ((0 : Fin 8))) (.mrr ((3 : BitVec 8))) = ((tDie.sendDie (dieOf (3 : Fin 32) (0 : Fin 8)) (.mrr (3 : BitVec 8)))))) :=
  ⟨by decide +kernel, rfl⟩

theorem witness_DieRegisterCommands3 :
    ((((tDie.sendDie (dieOf (3 : Fin 32) (0 : Fin 8)) (.idr))).dieAwake (dieOf ((3 : Fin 32)) ((0 : Fin 8))) = true)) ∧ (((tDie).sendDie (dieOf ((3 : Fin 32)) ((0 : Fin 8))) (.idr) = ((tDie.sendDie (dieOf (3 : Fin 32) (0 : Fin 8)) (.idr))))) :=
  ⟨by decide +kernel, rfl⟩

theorem witness_DieRegisterCommands4 :
    ((((tDie.sendDie (dieOf (3 : Fin 32) (0 : Fin 8)) (.tbw))).dieAwake (dieOf ((3 : Fin 32)) ((0 : Fin 8))) = true)) ∧ (((tDie).sendDie (dieOf ((3 : Fin 32)) ((0 : Fin 8))) (.tbw) = ((tDie.sendDie (dieOf (3 : Fin 32) (0 : Fin 8)) (.tbw))))) :=
  ⟨by decide +kernel, rfl⟩

theorem witness_DieRegisterCommands5 :
    ((((tDie.sendDie (dieOf (3 : Fin 32) (0 : Fin 8)) (.trn true (1 : BitVec 8)))).dieAwake (dieOf ((3 : Fin 32)) ((0 : Fin 8))) = true)) ∧ (((tDie).sendDie (dieOf ((3 : Fin 32)) ((0 : Fin 8))) (.trn (true) ((1 : BitVec 8))) = ((tDie.sendDie (dieOf (3 : Fin 32) (0 : Fin 8)) (.trn true (1 : BitVec 8)))))) :=
  ⟨by decide +kernel, rfl⟩

theorem witness_RepairAndFailover :
    (((tRebuild).safety.rebuild = (5 * 18) :: (([] : List Nat))) ∧ ((tRebuild).safety.rebuildAt = none) ∧ ((tRebuild).substitutes ((tRebuild).slotCls ((5 * 18) / 18)) ((5 * 18) / 18) = ([160])) ∧ ((tRebuild).works = true) ∧ ((tRebuild).journalWait = false) ∧ (([160]) ≠ []) ∧ ((tRebuild).twill.freePos ≠ 0) ∧ ((tRebuild).safety.subst.length < 4096)) ∧
    (((tRebuild.onSafety fun s => { s with rebuildAt := some (5 * 18, 160, 0) }).safety.rebuild = (5 * 18) :: (([] : List Nat))) ∧ ((tRebuild.onSafety fun s => { s with rebuildAt := some (5 * 18, 160, 0) }).safety.rebuildAt = some (((5 * 18, 160, 0) : Nat × Nat × Nat)))) ∧
    (((tRun).mgmt = true) ∧ (((tRun).engine ((3 : Fin 64))).state = 0)) := by
  decide +kernel

theorem witness_RepairAndFailoverA :
    ((((List.range 56).find? fun x => ((tRun.onEngine 3 fun x => { x with state := 1, by_ := some 60 }).engine x).by_ == some ((60 : Fin 64)).val) = some (3))) ∧
    (((tRun.onSafety fun s => { s with redist := [3] }).safety.redist ≠ [])) ∧
    (((tRun).mgmt = true)) ∧
    (((tRun).running = true) ∧ (((tRun).head (Head.A)).failed = false) ∧ (((tRun).head (otherHead (Head.A))).failed = false)) ∧
    (((tRun.onHead .B fun x => { x with failed := true }).running = true) ∧ (((tRun.onHead .B fun x => { x with failed := true }).head (Head.A)).failed = false) ∧ (((tRun.onHead .B fun x => { x with failed := true }).head (otherHead (Head.A))).failed = true)) ∧
    (((({ tRun with opTime := 28800000 } : Blk)).mgmt = true) ∧ ((({ tRun with opTime := 28800000 } : Blk)).selfTestDue = true)) ∧
    (((tRun.onModes fun m => { m with safe := some (0, 4) }).modes.safe = some ((0), ((4 : BitVec 16))))) := by
  decide +kernel

theorem witness_RepairAndFailoverB :
    (((tRun).powered = true) ∧ ((tRun).modes.testEn = false)) ∧
    (((tRun).powered = true) ∧ ((if testOnly (TapInstr.idcode) && (tRun).eff != 1 then .bypass else (TapInstr.idcode)) = (TapInstr.idcode))) := by
  decide +kernel

theorem witness_RepairAndFailover1 :
    ((((tCopyBack).works = true)) ∧ (((tCopyBack).safety.subst.has (5 * 18) = true)) ∧ (((tCopyBack).safety.rebuild = [])) ∧ (((tCopyBack).safety.rebuildAt = none))) ∧ (((tCopyBack).homeDie (5 * 18) = (tCopyBack.homeDie (5 * 18)))) ∧ ((((tCopyBack).die (tCopyBack.homeDie (5 * 18))).replacement = true)) ∧ ((((tCopyBack).die (tCopyBack.homeDie (5 * 18))).state = 1)) ∧ (((tCopyBack).dieFailed (tCopyBack.homeDie (5 * 18)) = false)) :=
  ⟨by decide +kernel, rfl, copyBack_die.1, copyBack_die.2.1, copyBack_die.2.2⟩

theorem witness_RepairAndFailover2 :
    ((((tFail).safety.failover = some ((3), (64)))) ∧ ((((((((tFail.onBank 3 fun x => { x with state := 2, use := 8 }).onBank 64 fun x => { x with state := 0, use := (tFail.bank 3).use, repl := tFail.bankBase 3 }).onSafety fun s => { s with failover := none }).reportUnit 0xA003 5 3).degrade 4 false)).safety.failoverWait = []))) ∧ ((((((((tFail).onBank (3) fun x => { x with state := 2, use := 8 }).onBank (64) fun x => { x with state := 0, use := ((tFail).bank (3)).use, repl := (tFail).bankBase (3) }).onSafety fun s => { s with failover := none }).reportUnit 0xA003 5 (3)).degrade 4 false) = ((((((tFail.onBank 3 fun x => { x with state := 2, use := 8 }).onBank 64 fun x => { x with state := 0, use := (tFail.bank 3).use, repl := tFail.bankBase 3 }).onSafety fun s => { s with failover := none }).reportUnit 0xA003 5 3).degrade 4 false)))) :=
  ⟨by decide +kernel, rfl⟩

theorem witness_RepairAndFailover3 :
    ((((tFailWait).safety.failover = some ((3), (64)))) ∧ ((((((((tFailWait.onBank 3 fun x => { x with state := 2, use := 8 }).onBank 64 fun x => { x with state := 0, use := (tFailWait.bank 3).use, repl := tFailWait.bankBase 3 }).onSafety fun s => { s with failover := none }).reportUnit 0xA003 5 3).degrade 4 false)).safety.failoverWait = (7) :: (([] : List Nat))))) ∧ ((((((((tFailWait).onBank (3) fun x => { x with state := 2, use := 8 }).onBank (64) fun x => { x with state := 0, use := ((tFailWait).bank (3)).use, repl := (tFailWait).bankBase (3) }).onSafety fun s => { s with failover := none }).reportUnit 0xA003 5 (3)).degrade 4 false) = ((((((tFailWait.onBank 3 fun x => { x with state := 2, use := 8 }).onBank 64 fun x => { x with state := 0, use := (tFailWait.bank 3).use, repl := tFailWait.bankBase 3 }).onSafety fun s => { s with failover := none }).reportUnit 0xA003 5 3).degrade 4 false)))) :=
  ⟨by decide +kernel, rfl⟩

theorem witness_InputPowerAndRails :
    (((tRun.onModes fun m => { m with rails := false }).powered = false)) ∧
    (((tRun).powered = true) ∧ ((tRun).running = true)) ∧
    (((tRun.onModes fun m => { m with cond := 2 }).powered = true) ∧ ((tRun.onModes fun m => { m with cond := 2 }).running = false)) ∧
    (((tRun.onModes fun m => { m with cond := 2, pfailHigh := false }).powered = true) ∧ ((tRun.onModes fun m => { m with cond := 2, pfailHigh := false }).modes.pfailHigh = false) ∧ ((tRun.onModes fun m => { m with cond := 2, pfailHigh := false }).running = false)) ∧
    (((tRun.onModes fun m => { m with pfailHigh := false }).powered = true) ∧ ((tRun.onModes fun m => { m with pfailHigh := false }).modes.pfailHigh = false) ∧ ((tRun.onModes fun m => { m with pfailHigh := false }).running = true)) := by
  decide +kernel

theorem witness_InputPowerAndRailsA :
    (((tRun.onModes fun m => { m with flush := some (0, 0, 0) }).modes.flush = some ((0), (0), (0))) ∧ ((tRun.onModes fun m => { m with flush := some (0, 0, 0) }).canvas.off = false) ∧ ((tRun.onModes fun m => { m with flush := some (0, 0, 0) }).holds 11 = false)) ∧
    (((tRun.onModes fun m => { m with cond := 0x800, flush := some (0, 0, 0) }).modes.flush = some ((0), (0), (0))) ∧ ((tRun.onModes fun m => { m with cond := 0x800, flush := some (0, 0, 0) }).canvas.off = false) ∧ ((tRun.onModes fun m => { m with cond := 0x800, flush := some (0, 0, 0) }).holds 11 = true)) := by
  decide +kernel

theorem witness_InputPowerAndRails1 :
    ((((tRun).powered = true)) ∧ (((tRun).modes.pfailHigh = true)) ∧ (((((tRun.onModes fun m => { m with pfailHigh := false, standby := false }).abandonTest)).running = true)) ∧ (((((tRun.onModes fun m => { m with pfailHigh := false, standby := false }).abandonTest)).modes.flush = none))) ∧ (((((tRun).onModes fun m => { m with pfailHigh := false, standby := false }).abandonTest) = (((tRun.onModes fun m => { m with pfailHigh := false, standby := false }).abandonTest)))) :=
  ⟨by decide +kernel, rfl⟩

theorem witness_InputPowerAndRails2 :
    ((((tOff).powered = true)) ∧ (((tOff).modes.pfailHigh = true)) ∧ (((((tOff.onModes fun m => { m with pfailHigh := false, standby := false }).abandonTest)).running = false))) ∧ (((((tOff).onModes fun m => { m with pfailHigh := false, standby := false }).abandonTest) = (((tOff.onModes fun m => { m with pfailHigh := false, standby := false }).abandonTest)))) :=
  ⟨by decide +kernel, rfl⟩

theorem witness_HoldUpAndPowerSequence :
    (((tRun.onModes fun m => { m with reported := true }).running = true) ∧ ((tRun.onModes fun m => { m with reported := true }).modes.flush = none) ∧ (((tRun.onModes fun m => { m with reported := true }).modes.reported = true ∨ (tRun.onModes fun m => { m with reported := true }).canvas.health ≠ 0))) ∧
    ((((tRun.at { t := 60000000000, nvwp := true }).onVelvet fun v => { v with span := some 0, onEnergy := true }).velvet.span = some (0)) ∧ (((tRun.at { t := 60000000000, nvwp := true }).onVelvet fun v => { v with span := some 0, onEnergy := true }).running = true) ∧ (((tRun.at { t := 60000000000, nvwp := true }).onVelvet fun v => { v with span := some 0, onEnergy := true }).velvet.onEnergy = true) ∧ ((0) + 60000000000 ≤ ((tRun.at { t := 60000000000, nvwp := true }).onVelvet fun v => { v with span := some 0, onEnergy := true }).now)) ∧
    (((tTestDue).running = true) ∧ ((tTestDue).modes.flush = none) ∧ ((tTestDue).canvas.test = none) ∧ ((tTestDue).testDue = true)) := by
  decide +kernel

theorem witness_HoldUpAndPowerSequenceA :
    (((tRun.onCanvas fun c => { c with state := 1, slots := [(0, { mode := 1 })] }).canvas.state = 1) ∧ ((tRun.onCanvas fun c => { c with state := 1, slots := [(0, { mode := 1 })] }).canvas.off = false) ∧ ((tRun.onCanvas fun c => { c with state := 1, slots := [(0, { mode := 1 })] }).turnCome ((0 : Fin 12)) = true)) ∧
    (((tRun).powered = true) ∧ (((tRun).slot ((0 : Fin 12))).state ≠ 1)) ∧
    (((tRun.onCanvas fun c => { c with slots := [(0, { state := 1 })] }).powered = true) ∧ (((tRun.onCanvas fun c => { c with slots := [(0, { state := 1 })] }).slot ((0 : Fin 12))).state = 1)) ∧
    (((((tRun.at { t := 10000000000, nvwp := true }).onCanvas fun c => { c with slots := [(0, { state := 1, goodAt := some 0 })] }).slot ((0 : Fin 12))).goodAt = some (0)) ∧ ((((tRun.at { t := 10000000000, nvwp := true }).onCanvas fun c => { c with slots := [(0, { state := 1, goodAt := some 0 })] }).slot ((0 : Fin 12))).state = 1) ∧ ((0) + 100000 ≤ ((tRun.at { t := 10000000000, nvwp := true }).onCanvas fun c => { c with slots := [(0, { state := 1, goodAt := some 0 })] }).now)) := by
  decide +kernel

theorem witness_HoldUpAndPowerSequenceB :
    (((((tRun.at { t := 10000000000, nvwp := true }).onCanvas fun c => { c with slots := [(0, { state := 1 })] }).slot ((0 : Fin 12))).state = 1) ∧ ((((tRun.at { t := 10000000000, nvwp := true }).onCanvas fun c => { c with slots := [(0, { state := 1 })] }).slot ((0 : Fin 12))).since + 10000000 ≤ ((tRun.at { t := 10000000000, nvwp := true }).onCanvas fun c => { c with slots := [(0, { state := 1 })] }).now) ∧ (((tRun.at { t := 10000000000, nvwp := true }).onCanvas fun c => { c with slots := [(0, { state := 1 })] }).canvas.off = false)) ∧
    (((((tRun.at { t := 10000000000, nvwp := true }).onCanvas fun c => { c with off := true, slots := [(0, { state := 1 })] }).slot ((0 : Fin 12))).state = 1) ∧ ((((tRun.at { t := 10000000000, nvwp := true }).onCanvas fun c => { c with off := true, slots := [(0, { state := 1 })] }).slot ((0 : Fin 12))).since + 10000000 ≤ ((tRun.at { t := 10000000000, nvwp := true }).onCanvas fun c => { c with off := true, slots := [(0, { state := 1 })] }).now) ∧ (((tRun.at { t := 10000000000, nvwp := true }).onCanvas fun c => { c with off := true, slots := [(0, { state := 1 })] }).canvas.off = true)) ∧
    (((((tRun.at { t := 10000000000, nvwp := true }).onCanvas fun c => { c with slots := [(0, { state := 3 })] }).slot ((0 : Fin 12))).state = 3) ∧ ((((tRun.at { t := 10000000000, nvwp := true }).onCanvas fun c => { c with slots := [(0, { state := 3 })] }).slot ((0 : Fin 12))).since + 50000000 ≤ ((tRun.at { t := 10000000000, nvwp := true }).onCanvas fun c => { c with slots := [(0, { state := 3 })] }).now)) ∧
    (((tRun.onCanvas fun c => { c with slots := [(0, { state := 2, en := true })] }).railFaulty ((0 : Fin 12)) (RailKind.pg) (0) = true) ∧ (((tRun.onCanvas fun c => { c with slots := [(0, { state := 2, en := true })] }).slot ((0 : Fin 12))).state = 2) ∧ (((tRun.onCanvas fun c => { c with slots := [(0, { state := 2, en := true })] }).slot ((0 : Fin 12))).en = true)) := by
  decide +kernel

theorem witness_HoldUpAndPowerSequenceC :
    ((tRun.onCanvas fun c => { c with slots := [(0, { mode := 1 })] }).railFaulty ((0 : Fin 12)) (RailKind.pg) (0) = true) ∧ (((tRun.onCanvas fun c => { c with slots := [(0, { mode := 1 })] }).slot ((0 : Fin 12))).state = 0) ∧ ((tRun.onCanvas fun c => { c with slots := [(0, { mode := 1 })] }).powered = true) ∧ (((tRun.onCanvas fun c => { c with slots := [(0, { mode := 1 })] }).slot ((0 : Fin 12))).mode ≠ 0) ∧ ((tRun.onCanvas fun c => { c with slots := [(0, { mode := 1 })] }).canvas.state = 0) := by
  decide +kernel

theorem witness_HoldUpAndPowerSequence1 :
    (((tRun).powered = true)) ∧ ((((tRun).onCanvas fun c => { c with hu := ((5 : BitVec 12)) }) = (tRun.onCanvas fun c => { c with hu := (5 : BitVec 12) }))) :=
  ⟨by decide +kernel, rfl⟩

theorem witness_HoldUpAndPowerSequence2 :
    (((((tRun.at { t := 10000000000, nvwp := true }).onCanvas fun c => { c with test := some 0 }).canvas.test = some (0))) ∧ (((0) + 1000 * ((tRun.at { t := 10000000000, nvwp := true }).onCanvas fun c => { c with test := some 0 }).cfg 0x7001 0x06 ≤ ((tRun.at { t := 10000000000, nvwp := true }).onCanvas fun c => { c with test := some 0 }).now)) ∧ (((100) - (10) ≠ 0))) ∧ ((((tRun.at { t := 10000000000, nvwp := true }).onCanvas fun c => { c with test := some 0 }).testResult (10) ((100) - (10)) = (((tRun.at { t := 10000000000, nvwp := true }).onCanvas fun c => { c with test := some 0 }).testResult 10 (100 - 10)))) :=
  ⟨by decide +kernel, rfl⟩

theorem witness_HoldUpAndPowerSequence3 :
    (((((tRun.onCanvas fun c => { c with slots := [(0, { state := 3 })] }).slot ((0 : Fin 12))).state = 3)) ∧ ((((tRun.onCanvas fun c => { c with slots := [(0, { state := 3 })] }).onSlot (0 : Fin 12).val fun x => { x with mv := 0 }).hasFallen ((0 : Fin 12)) = true))) ∧ ((((tRun.onCanvas fun c => { c with slots := [(0, { state := 3 })] }).onSlot ((0 : Fin 12)) fun x => { x with mv := (0) }) = ((tRun.onCanvas fun c => { c with slots := [(0, { state := 3 })] }).onSlot (0 : Fin 12).val fun x => { x with mv := 0 }))) :=
  ⟨by decide +kernel, rfl⟩

theorem witness_BootAndSleep :
    (((tRun.onModes fun m => { m with cond := 8, step := 7 }).eff = 3) ∧ ((tRun.onModes fun m => { m with cond := 8, step := 7 }).modes.step = 7)) ∧
    (((tRun.onModes fun m => { m with cond := 8, step := 9, reported := true }).loaded = true) ∧ ((tRun.onModes fun m => { m with cond := 8, step := 9, reported := true }).modes.reported = true)) ∧
    ((((tRun.at { t := 560000000, nvwp := true }).onModes fun m => { m with cond := 8, step := 9 }).loaded = true) ∧ (((tRun.at { t := 560000000, nvwp := true }).onModes fun m => { m with cond := 8, step := 9 }).modes.reported = false) ∧ (((tRun.at { t := 560000000, nvwp := true }).onModes fun m => { m with cond := 8, step := 9 }).modes.t0 + 560000000 ≤ ((tRun.at { t := 560000000, nvwp := true }).onModes fun m => { m with cond := 8, step := 9 }).now)) ∧
    (((tIdle).eff = 4) ∧ ((tIdle).stopped = false) ∧ ((tIdle).idle = true) ∧ ((tIdle).cfg 0x1100 0x08 ≠ 0)) := by
  decide +kernel

theorem witness_BootAndSleepA :
    ((((tIdle).eff = 4 ∨ (tIdle).eff = 5)) ∧ ((tIdle).stopped = false) ∧ ((tIdle).idle = true) ∧ ((tIdle).cfg 0x1100 0x09 ≠ 0)) ∧
    ((((tRun.onModes fun m => { m with cond := 32 }).eff = 5 ∨ (tRun.onModes fun m => { m with cond := 32 }).eff = 6)) ∧ ((tRun.onModes fun m => { m with cond := 32 }).clocks.failed = false)) := by
  decide +kernel

theorem witness_BootAndSleep1 :
    ((((tBoot).eff = 2)) ∧ (((tBoot).modes.step = 2)) ∧ (((tBoot).clocks.judged = true)) ∧ ((((([] : List Nat)).filter fun k => decide (k < 64)).length ≤ ([64, 65].filter fun k => !(([] : List Nat)).contains k).length))) ∧ ((((([] : List (Fin 66))).foldl (fun l k => insUniq k.val l) []) = (([] : List Nat)))) ∧ ((((tBoot).loadFelt (({ twin := 0, gone := 0 } : FeltObs))).fwLoad = some (tBoot))) :=
  ⟨by decide +kernel, rfl, rfl⟩

theorem witness_BootAndSleep2 :
    ((((tBootNoFw).eff = 2)) ∧ (((tBootNoFw).modes.step = 2)) ∧ (((tBootNoFw).clocks.judged = true)) ∧ ((((([] : List Nat)).filter fun k => decide (k < 64)).length ≤ ([64, 65].filter fun k => !(([] : List Nat)).contains k).length))) ∧ ((((([] : List (Fin 66))).foldl (fun l k => insUniq k.val l) []) = (([] : List Nat)))) ∧ ((((tBootNoFw).loadFelt (({ twin := 0, gone := 0 } : FeltObs))).fwLoad = none)) :=
  ⟨by decide +kernel, rfl, rfl⟩

theorem witness_BootAndSleep3 :
    ((((tBoot).eff = 2)) ∧ (((tBoot).modes.step = 2)) ∧ (((tBoot).clocks.judged = true)) ∧ ((([64, 65].filter fun k => !((([0, 1, 2] : List (Fin 66)).foldl (fun l k => insUniq k.val l) [])).contains k).length < (((([0, 1, 2] : List (Fin 66)).foldl (fun l k => insUniq k.val l) [])).filter fun k => decide (k < 64)).length))) ∧ ((((([0, 1, 2] : List (Fin 66))).foldl (fun l k => insUniq k.val l) []) = ((([0, 1, 2] : List (Fin 66)).foldl (fun l k => insUniq k.val l) [])))) :=
  ⟨by decide +kernel, rfl⟩

theorem witness_BootAndSleep4 :
    ((((tBind).eff = 2)) ∧ (((tBind).modes.step = 6))) ∧ (((((tBind).readIds (({ mediaBlank := false, record := some (1, bindingCheck 0, 0, 0), dieIds := [] } : BindObs)).dieIds).setConditions fun _ => 8) = ((tBind.readIds []).setConditions fun _ => 8))) ∧ (((({ mediaBlank := false, record := some (1, bindingCheck 0, 0, 0), dieIds := [] } : BindObs)).record = some (((1, bindingCheck 0, 0, 0) : BitVec 8 × BitVec 64 × BitVec 128 × Nat)))) ∧ ((((tBind.readIds []).setConditions fun _ => 8).checkMatches (((1, bindingCheck 0, 0, 0) : BitVec 8 × BitVec 64 × BitVec 128 × Nat)) = true)) :=
  ⟨by decide +kernel, rfl, rfl, beq_self_eq_true _⟩

theorem witness_BootAndSleep5 :
    ((((tBlank).eff = 2)) ∧ (((tBlank).modes.step = 6)) ∧ ((((tBlank.readIds []).setConditions fun _ => 8).damask.mkey = none))) ∧ (((((tBlank).readIds (({ mediaBlank := true, record := none, dieIds := [] } : BindObs)).dieIds).setConditions fun _ => 8) = ((tBlank.readIds []).setConditions fun _ => 8))) ∧ (((({ mediaBlank := true, record := none, dieIds := [] } : BindObs)).record = none)) ∧ (((({ mediaBlank := true, record := none, dieIds := [] } : BindObs)).mediaBlank = true)) :=
  ⟨by decide +kernel, rfl, rfl, rfl⟩

theorem witness_BootAndSleep6 :
    ((((tBlank).eff = 2)) ∧ (((tBlank).modes.step = 6))) ∧ (((((tBlank).readIds (({ mediaBlank := false, record := some (1, 0, 0, 0), dieIds := [] } : BindObs)).dieIds).setConditions fun _ => 8) = ((tBlank.readIds []).setConditions fun _ => 8))) ∧ (((({ mediaBlank := false, record := some (1, 0, 0, 0), dieIds := [] } : BindObs)).record = some (((1, 0, 0, 0) : BitVec 8 × BitVec 64 × BitVec 128 × Nat)))) ∧ ((((tBlank.readIds []).setConditions fun _ => 8).checkMatches (((1, 0, 0, 0) : BitVec 8 × BitVec 64 × BitVec 128 × Nat)) = false)) :=
  ⟨by decide +kernel, rfl, rfl, rfl⟩

theorem witness_BootAndSleep7 :
    ((((tBlank).eff = 2)) ∧ (((tBlank).modes.step = 6))) ∧ (((((tBlank).readIds (({ mediaBlank := false, record := none, dieIds := [] } : BindObs)).dieIds).setConditions fun _ => 8) = ((tBlank.readIds []).setConditions fun _ => 8))) ∧ (((({ mediaBlank := false, record := none, dieIds := [] } : BindObs)).record = none)) ∧ (((({ mediaBlank := false, record := none, dieIds := [] } : BindObs)).mediaBlank = false)) :=
  ⟨by decide +kernel, rfl, rfl, rfl⟩

theorem witness_BootAndSleep8 :
    ((((tBind).eff = 2)) ∧ (((tBind).modes.step = 6)) ∧ ((((tBind.readIds []).setConditions fun _ => 8).damask.mkey.isSome = true))) ∧ (((((tBind).readIds (({ mediaBlank := true, record := none, dieIds := [] } : BindObs)).dieIds).setConditions fun _ => 8) = ((tBind.readIds []).setConditions fun _ => 8))) ∧ (((({ mediaBlank := true, record := none, dieIds := [] } : BindObs)).record = none)) ∧ (((({ mediaBlank := true, record := none, dieIds := [] } : BindObs)).mediaBlank = true)) :=
  ⟨by decide +kernel, rfl, rfl, rfl⟩

theorem witness_SpdmAndIde :
    (((tRun).configOpen (Head.A) = true) ∧ ((tRun).mgmt = true)) ∧
    (((tRun.onHead .A fun x => { x with spdm := { version := true, caps := true, algs := true } }).configOpen (Head.A) = true) ∧ ((tRun.onHead .A fun x => { x with spdm := { version := true, caps := true, algs := true } }).mgmt = true) ∧ (((tRun.onHead .A fun x => { x with spdm := { version := true, caps := true, algs := true } }).head (Head.A)).spdm.version = true)) ∧
    (((tRun.onHead .A fun x => { x with spdm := { version := true, caps := true, algs := true } }).configOpen (Head.A) = true) ∧ ((tRun.onHead .A fun x => { x with spdm := { version := true, caps := true, algs := true } }).mgmt = true) ∧ (((tRun.onHead .A fun x => { x with spdm := { version := true, caps := true, algs := true } }).head (Head.A)).spdm.caps = true) ∧ ((true) = true)) ∧
    (((tRun.onHead .A fun x => { x with spdm := { version := true, caps := true, algs := true } }).configOpen (Head.A) = true) ∧ ((tRun.onHead .A fun x => { x with spdm := { version := true, caps := true, algs := true } }).mgmt = true) ∧ (((tRun.onHead .A fun x => { x with spdm := { version := true, caps := true, algs := true } }).head (Head.A)).spdm.algs = true)) := by
  decide +kernel

theorem witness_SpdmAndIdeA :
    (((tRun.onHead .A fun x => { x with spdm := { version := true, caps := true, algs := true } }).configOpen (Head.A) = true) ∧ ((tRun.onHead .A fun x => { x with spdm := { version := true, caps := true, algs := true } }).mgmt = true) ∧ (((tRun.onHead .A fun x => { x with spdm := { version := true, caps := true, algs := true } }).head (Head.A)).spdm.algs = true) ∧ (((0 : Fin 8)).val = 0)) ∧
    (((tRun.onHead .A fun x => { x with spdm := { version := true, caps := true, algs := true } }).configOpen (Head.A) = true) ∧ ((tRun.onHead .A fun x => { x with spdm := { version := true, caps := true, algs := true } }).mgmt = true) ∧ (((tRun.onHead .A fun x => { x with spdm := { version := true, caps := true, algs := true } }).head (Head.A)).spdm.algs = true) ∧ (((0 : Fin 8)).val = 0)) ∧
    (((tRun.onHead .A fun x => { x with spdm := { version := true, caps := true, algs := true } }).configOpen (Head.A) = true) ∧ ((tRun.onHead .A fun x => { x with spdm := { version := true, caps := true, algs := true } }).mgmt = true) ∧ (((tRun.onHead .A fun x => { x with spdm := { version := true, caps := true, algs := true } }).head (Head.A)).spdm.algs = true) ∧ ((tRun.onHead .A fun x => { x with spdm := { version := true, caps := true, algs := true } }).measurements ((0 : BitVec 8)).toNat ((0 : BitVec 256)) = some ([6]))) := by
  decide +kernel

theorem witness_SpdmAndIdeB :
    (((tRun.onHead .A fun x => { x with spdm := { version := true, caps := true, algs := true } }).configOpen (Head.A) = true) ∧ ((tRun.onHead .A fun x => { x with spdm := { version := true, caps := true, algs := true } }).mgmt = true) ∧ (((tRun.onHead .A fun x => { x with spdm := { version := true, caps := true, algs := true } }).head (Head.A)).spdm.algs = true) ∧ (((tRun.onHead .A fun x => { x with spdm := { version := true, caps := true, algs := true } }).head (Head.A)).spdm.secret = none)) ∧
    (((tRun.onHead .A fun x => { x with spdm := { version := true, secret := some 0 } }).configOpen (Head.A) = true) ∧ ((tRun.onHead .A fun x => { x with spdm := { version := true, secret := some 0 } }).mgmt = true) ∧ (((tRun.onHead .A fun x => { x with spdm := { version := true, secret := some 0 } }).head (Head.A)).spdm.secret = some ((0 : BitVec 256))) ∧ (((tRun.onHead .A fun x => { x with spdm := { version := true, secret := some 0 } }).head (Head.A)).spdm.up = false)) ∧
    (((tRun.onHead .A fun x => { x with spdm := { version := true, caps := true, algs := true, secret := some 0, up := true } }).configOpen (Head.A) = true) ∧ ((tRun.onHead .A fun x => { x with spdm := { version := true, caps := true, algs := true, secret := some 0, up := true } }).mgmt = true) ∧ (((tRun.onHead .A fun x => { x with spdm := { version := true, caps := true, algs := true, secret := some 0, up := true } }).head (Head.A)).spdm.up = true)) := by
  decide +kernel

theorem witness_SpdmAndIdeC :
    (((tRun.onHead .A fun x => { x with spdm := { version := true, caps := true, algs := true, secret := some 0, up := true } }).configOpen (Head.A) = true) ∧ ((tRun.onHead .A fun x => { x with spdm := { version := true, caps := true, algs := true, secret := some 0, up := true } }).mgmt = true) ∧ (((tRun.onHead .A fun x => { x with spdm := { version := true, caps := true, algs := true, secret := some 0, up := true } }).head (Head.A)).spdm.up = true)) ∧
    (((tRun.onHead .A fun x => { x with spdm := { version := true, caps := true, algs := true, secret := some 0, up := true } }).configOpen (Head.A) = true) ∧ ((tRun.onHead .A fun x => { x with spdm := { version := true, caps := true, algs := true, secret := some 0, up := true } }).mgmt = true) ∧ (((tRun.onHead .A fun x => { x with spdm := { version := true, caps := true, algs := true, secret := some 0, up := true } }).head (Head.A)).spdm.up = true)) ∧
    (((tRun.onHead .A fun x => { x with spdm := { version := true, caps := true, algs := true, secret := some 0, up := true } }).configOpen (Head.A) = true) ∧ ((tRun.onHead .A fun x => { x with spdm := { version := true, caps := true, algs := true, secret := some 0, up := true } }).mgmt = true) ∧ (((tRun.onHead .A fun x => { x with spdm := { version := true, caps := true, algs := true, secret := some 0, up := true } }).head (Head.A)).spdm.up = true)) ∧
    (((((tRun.onHead .A fun x => { x with ideMem := { key := some 0 } }).head (Head.A)).link = 2 ∨ ((tRun.onHead .A fun x => { x with ideMem := { key := some 0 } }).head (Head.A)).link = 3)) ∧ ((if (false) then ((tRun.onHead .A fun x => { x with ideMem := { key := some 0 } }).head (Head.A)).ideIo.key else ((tRun.onHead .A fun x => { x with ideMem := { key := some 0 } }).head (Head.A)).ideMem.key) = some ((0 : BitVec 256)))) := by
  decide +kernel

end Sys2Proof.Tests
end

section
/-! SUPPORT. Every command is a change of the block at the command's stamp; the statements of the family 00_scope. -/

namespace Sys2Proof.Machine

open Sys2Proof.Safety

/-- Every arm of `exec` is the effect of a command at the stamp that the command carries (logs 1 and 2): the effect sees the block alone, so it can neither fault, nor be refused, nor reach the queue. -/
theorem exec_eq_command (c : Instr) : ∃ f : Blk → Blk, ∀ s : State, exec c s = s.command (stampOf c) f := by
  unfold exec stampOf
  cases c <;> exact ⟨_, fun _ => rfl⟩

/-- No row faults and none is refused (log 2), and a command leaves the queue as it is (log 1). -/
theorem exec_answers_next (c : Instr) (s : State) : ∃ t, exec c s = .next t ∧ t.pending = s.pending := by
  obtain ⟨f, hf⟩ := exec_eq_command c
  have hnext : exec c s = .next { s with blk := f (s.blk.at (stampOf c)) } := (hf s).trans (s.command_eq (stampOf c) f)
  exact ⟨_, hnext, State.command_pending ((hf s).symm.trans hnext)⟩

theorem step_answers_next_of_cons {c : Instr} {rest : List Instr} {s : State} (h : s.pending = c :: rest) :
    ∃ t, step s = .next t ∧ t.pending = rest := by
  rw [step_cons c rest s h]
  exact exec_answers_next c { s with pending := rest }

theorem step_completes (s : State) : Completes s := by
  cases h : s.pending with
  | nil => exact ⟨s, step_nil s h⟩
  | cons c rest =>
    obtain ⟨t, ht, _⟩ := step_answers_next_of_cons h
    exact ⟨t, ht⟩

/-- Settles O1: the front of the queue that the statement writes is the one that `step` takes off (log 1). -/
theorem stepRunsTheFrontCommand : Obligations.StepRunsTheFrontCommand :=
  fun c rest s => step_cons c rest { s with pending := c :: rest } rfl

/-- Settles O3: every command is a change of the block alone (`exec_eq_command`), for the queue is the model's own (log 1) and a row whose condition does not hold leaves the block as it is (log 2). -/
theorem everyCommandAnswersANextState : Obligations.EveryCommandAnswersANextState :=
  ⟨exec_answers_next, fun _ _ _ => step_answers_next_of_cons, step_completes⟩

end Sys2Proof.Machine
end

section
/-! SUPPORT. The frame of every command, and the form of the stored lines; the statements of the family 02_media_organisation. -/

namespace Sys2Proof.Machine

open Sys2Proof.Safety

/-- What a command's frame does not name it leaves as it was: the frames of the 287 rows together. -/
theorem exec_only (c : Instr) (s t : State) (h : exec c s = .next t) : Only (touches c) (s.blk.at (stampOf c)) t.blk := by
  cases c with
  | memRd => exact execMemRd_frame (h := h)
  | memRdData => exact execMemRdData_frame (h := h)
  | memSpecRd a x hpa tag => exact execMemSpecRd_frame a x hpa tag s t h
  | memWr => exact execMemWr_frame (h := h)
  | memWrPtl => exact execMemWrPtl_frame (h := h)
  | unsupportedRequest => exact execUnsupportedRequest_frame (h := h)
  | acceptance => exact execAcceptance_frame (h := h)
  | readIssue => exact execReadIssue_frame (h := h)
  | programResume => exact execProgramResume_frame (h := h)
  | readTransfer => exact execReadTransfer_frame (h := h)
  | reconstructionComplete => exact execReconstructionComplete_frame (h := h)
  | fillReturn => exact execFillReturn_frame (h := h)
  | deadlineExpiry => exact execDeadlineExpiry_frame (h := h)
  | deepRecoveryTimeout => exact execDeepRecoveryTimeout_frame (h := h)
  | deepRecoverySuccess => exact execDeepRecoverySuccess_frame (h := h)
  | programGuard => exact execProgramGuard_frame (h := h)
  | resetGuard => exact execResetGuard_frame (h := h)
  | coldPathWrite => exact execColdPathWrite_frame (h := h)
  | hotAppend => exact execHotAppend_frame (h := h)
  | programComplete => exact execProgramComplete_frame (h := h)
  | tileResetStart => exact execTileResetStart_frame (h := h)
  | tileResetComplete => exact execTileResetComplete_frame (h := h)
  | writeThroughWrite => exact execWriteThroughWrite_frame (h := h)
  | dirtyCleaning => exact execDirtyCleaning_frame (h := h)
  | rangeClean => exact execRangeClean_frame (h := h)
  | rangeInvalidate => exact execRangeInvalidate_frame (h := h)
  | rangeCleanAndInvalidate => exact execRangeCleanAndInvalidate_frame (h := h)
  | rangeOperationEnd => exact execRangeOperationEnd_frame (h := h)
  | lineCleanByAddress => exact execLineCleanByAddress_frame (h := h)
  | lineInvalidateByAddress => exact execLineInvalidateByAddress_frame (h := h)
  | lineCleanInvalidateByAddress => exact execLineCleanInvalidateByAddress_frame (h := h)
  | lineCleanBySetAndWay => exact execLineCleanBySetAndWay_frame (h := h)
  | lineInvalidateBySetAndWay => exact execLineInvalidateBySetAndWay_frame (h := h)
  | lineCleanInvalidateBySetAndWay => exact execLineCleanInvalidateBySetAndWay_frame (h := h)
  | hint => exact execHint_frame (h := h)
  | hintCancel => exact execHintCancel_frame (h := h)
  | prefetchRead => exact execPrefetchRead_frame (h := h)
  | startBarrier => exact execStartBarrier_frame (h := h)
  | barrierCompletion => exact execBarrierCompletion_frame (h := h)
  | gpfPhase1 => exact execGpfPhase1_frame (h := h)
  | gpfPhase2 => exact execGpfPhase2_frame (h := h)
  | gpfPhase2Complete => exact execGpfPhase2Complete_frame (h := h)
  | identify => exact execIdentify_frame (h := h)
  | backgroundOperationStatus => exact execBackgroundOperationStatus_frame (h := h)
  | getEventRecords => exact execGetEventRecords_frame (h := h)
  | clearEventRecords => exact execClearEventRecords_frame (h := h)
  | getEventInterruptPolicy => exact execGetEventInterruptPolicy_frame (h := h)
  | setEventInterruptPolicy => exact execSetEventInterruptPolicy_frame (h := h)
  | getFwInfo => exact execGetFwInfo_frame (h := h)
  | transferFw => exact execTransferFw_frame (h := h)
  | activateFw => exact execActivateFw_frame (h := h)
  | getTimestamp => exact execGetTimestamp_frame (h := h)
  | setTimestamp => exact execSetTimestamp_frame (h := h)
  | getSupportedLogs => exact execGetSupportedLogs_frame (h := h)
  | getLog => exact execGetLog_frame (h := h)
  | identifyMemoryDevice => exact execIdentifyMemoryDevice_frame (h := h)
  | getHealthInfo => exact execGetHealthInfo_frame (h := h)
  | getAlertConfiguration => exact execGetAlertConfiguration_frame (h := h)
  | setAlertConfiguration => exact execSetAlertConfiguration_frame (h := h)
  | getShutdownState => exact execGetShutdownState_frame (h := h)
  | setShutdownState => exact execSetShutdownState_frame (h := h)
  | sanitize => exact execSanitize_frame (h := h)
  | secureErase => exact execSecureErase_frame (h := h)
  | eraseComplete => exact execEraseComplete_frame (h := h)
  | getDynamicCapacityConfiguration => exact execGetDynamicCapacityConfiguration_frame (h := h)
  | getDynamicCapacityExtentList => exact execGetDynamicCapacityExtentList_frame (h := h)
  | addDynamicCapacityResponse => exact execAddDynamicCapacityResponse_frame (h := h)
  | releaseDynamicCapacity => exact execReleaseDynamicCapacity_frame (h := h)
  | getPoisonList => exact execGetPoisonList_frame (h := h)
  | injectPoison => exact execInjectPoison_frame (h := h)
  | clearPoison => exact execClearPoison_frame (h := h)
  | getScanMediaCapabilities a x dpa len => exact execGetScanMediaCapabilities_frame a x dpa len s t h
  | scanMedia => exact execScanMedia_frame (h := h)
  | getScanMediaResults => exact execGetScanMediaResults_frame (h := h)
  | read => exact execRead_frame (h := h)
  | write => exact execWrite_frame (h := h)
  | stage => exact execStage_frame (h := h)
  | commit => exact execCommit_frame (h := h)
  | abort => exact execAbort_frame (h := h)
  | status => exact execStatus_frame (h := h)
  | commitCheckEnd => exact execCommitCheckEnd_frame (h := h)
  | applyInstant => exact execApplyInstant_frame (h := h)
  | applyFault => exact execApplyFault_frame (h := h)
  | stagingTimeout => exact execStagingTimeout_frame (h := h)
  | parameterPersist => exact execParameterPersist_frame (h := h)
  | openRead => exact execOpenRead_frame (h := h)
  | openWrite => exact execOpenWrite_frame (h := h)
  | data => exact execData_frame (h := h)
  | close => exact execClose_frame (h := h)
  | bulkAbort => exact execBulkAbort_frame (h := h)
  | bulkTransferTimeout => exact execBulkTransferTimeout_frame (h := h)
  | bulkOpenRead => exact execBulkOpenRead_frame (h := h)
  | bulkOpenWrite => exact execBulkOpenWrite_frame (h := h)
  | segment => exact execSegment_frame (h := h)
  | segmentAcknowledge => exact execSegmentAcknowledge_frame (h := h)
  | bulkClose => exact execBulkClose_frame (h := h)
  | canBulkAbort => exact execCanBulkAbort_frame (h := h)
  | canFrameIgnored => exact execCanFrameIgnored_frame (h := h)
  | canTransferTimeout => exact execCanTransferTimeout_frame (h := h)
  | heartbeat => exact execHeartbeat_frame (h := h)
  | busOffRecovery => exact execBusOffRecovery_frame (h := h)
  | challengeRead => exact execChallengeRead_frame (h := h)
  | response => exact execResponse_frame (h := h)
  | closeMaintenance => exact execCloseMaintenance_frame (h := h)
  | maintenanceIdleTimeout => exact execMaintenanceIdleTimeout_frame (h := h)
  | responseLockoutEnd => exact execResponseLockoutEnd_frame (h := h)
  | maintenanceKey => exact execMaintenanceKey_frame (h := h)
  | frameMacKey => exact execFrameMacKey_frame (h := h)
  | stageDefaults => exact execStageDefaults_frame (h := h)
  | add => exact execAdd_frame (h := h)
  | releaseRequest => exact execReleaseRequest_frame (h := h)
  | forcedRelease => exact execForcedRelease_frame (h := h)
  | addResponseTimeout => exact execAddResponseTimeout_frame (h := h)
  | regionTeardown => exact execRegionTeardown_frame (h := h)
  | histogramClear => exact execHistogramClear_frame (h := h)
  | calibrationImport => exact execCalibrationImport_frame (h := h)
  | keyEncryptionKey => exact execKeyEncryptionKey_frame (h := h)
  | escrowExport => exact execEscrowExport_frame (h := h)
  | escrowImport => exact execEscrowImport_frame (h := h)
  | unlockRegion => exact execUnlockRegion_frame (h := h)
  | resetRegionCount => exact execResetRegionCount_frame (h := h)
  | retireDie => exact execRetireDie_frame (h := h)
  | retireChannel => exact execRetireChannel_frame (h := h)
  | retrainRequest => exact execRetrainRequest_frame (h := h)
  | powerDownToStandby => exact execPowerDownToStandby_frame (h := h)
  | startHealthTest => exact execStartHealthTest_frame (h := h)
  | clearCounters => exact execClearCounters_frame (h := h)
  | idataRead => exact execIdataRead_frame (h := h)
  | idataWrite => exact execIdataWrite_frame (h := h)
  | indirectAcknowledge => exact execIndirectAcknowledge_frame (h := h)
  | indirectTimeout => exact execIndirectTimeout_frame (h := h)
  | registerWrite => exact execRegisterWrite_frame (h := h)
  | gval => exact execGval_frame (h := h)
  | gcmp => exact execGcmp_frame (h := h)
  | keyZeroize => exact execKeyZeroize_frame (h := h)
  | calibrationWriteEnableOpen => exact execCalibrationWriteEnableOpen_frame (h := h)
  | calibrationWriteEnableClose => exact execCalibrationWriteEnableClose_frame (h := h)
  | calibrationEnableExpiry => exact execCalibrationEnableExpiry_frame (h := h)
  | feltFormat => exact execFeltFormat_frame (h := h)
  | safeStopRelease => exact execSafeStopRelease_frame (h := h)
  | forcedPowerCutInput => exact execForcedPowerCutInput_frame (h := h)
  | forcedPowerCutRail => exact execForcedPowerCutRail_frame (h := h)
  | forcedClockSwitchIrc => exact execForcedClockSwitchIrc_frame (h := h)
  | forcedClockSwitchRefclk => exact execForcedClockSwitchRefclk_frame (h := h)
  | voteCorrection => exact execVoteCorrection_frame (h := h)
  | voteThreeWayDisagreement => exact execVoteThreeWayDisagreement_frame (h := h)
  | parityMismatch => exact execParityMismatch_frame (h := h)
  | consume => exact execConsume_frame (h := h)
  | drop => exact execDrop_frame (h := h)
  | telemetryWindowAccess => exact execTelemetryWindowAccess_frame (h := h)
  | telemetryDump => exact execTelemetryDump_frame (h := h)
  | queueBankSwap => exact execQueueBankSwap_frame (h := h)
  | linenReport => exact execLinenReport_frame (h := h)
  | stormWindowClose => exact execStormWindowClose_frame (h := h)
  | tokenGain => exact execTokenGain_frame (h := h)
  | ringWrite => exact execRingWrite_frame (h := h)
  | feltMarginPass => exact execFeltMarginPass_frame (h := h)
  | counterRecordWrite => exact execCounterRecordWrite_frame (h := h)
  | operatingTimeTick => exact execOperatingTimeTick_frame (h := h)
  | hotEpochEnd => exact execHotEpochEnd_frame (h := h)
  | demotionCommit => exact execDemotionCommit_frame (h := h)
  | promotionWayTimeout => exact execPromotionWayTimeout_frame (h := h)
  | journalRecordIssue => exact execJournalRecordIssue_frame (h := h)
  | garbageCollection => exact execGarbageCollection_frame (h := h)
  | wearIncrement => exact execWearIncrement_frame (h := h)
  | trackerFold => exact execTrackerFold_frame (h := h)
  | rotationPassEnd => exact execRotationPassEnd_frame (h := h)
  | migrationStart => exact execMigrationStart_frame (h := h)
  | migrationEnd => exact execMigrationEnd_frame (h := h)
  | coldSwapCheck => exact execColdSwapCheck_frame (h := h)
  | refreshRegion => exact execRefreshRegion_frame (h := h)
  | refreshBacklog => exact execRefreshBacklog_frame (h := h)
  | checkpointStart => exact execCheckpointStart_frame (h := h)
  | checkpointCommit => exact execCheckpointCommit_frame (h := h)
  | resync => exact execResync_frame (h := h)
  | weakLineRewrite => exact execWeakLineRewrite_frame (h := h)
  | terryStripeRead => exact execTerryStripeRead_frame (h := h)
  | sramScrub => exact execSramScrub_frame (h := h)
  | scrubStarved => exact execScrubStarved_frame (h := h)
  | cellEvaluation => exact execCellEvaluation_frame (h := h)
  | cellStale => exact execCellStale_frame (h := h)
  | probeBatch => exact execProbeBatch_frame (h := h)
  | weakRegionOffer => exact execWeakRegionOffer_frame (h := h)
  | trendFit => exact execTrendFit_frame (h := h)
  | marginEvaluation => exact execMarginEvaluation_frame (h := h)
  | gauzeSnapshot => exact execGauzeSnapshot_frame (h := h)
  | tagWriteback => exact execTagWriteback_frame (h := h)
  | rekeyPass => exact execRekeyPass_frame (h := h)
  | alertService => exact execAlertService_frame (h := h)
  | channelTraining => exact execChannelTraining_frame (h := h)
  | channelRetrain => exact execChannelRetrain_frame (h := h)
  | zqcShortPeriod => exact execZqcShortPeriod_frame (h := h)
  | writeDeskewCheck => exact execWriteDeskewCheck_frame (h := h)
  | rd => exact execRd_frame (h := h)
  | mrd => exact execMrd_frame (h := h)
  | rrs => exact execRrs_frame (h := h)
  | pgm => exact execPgm_frame (h := h)
  | ovw => exact execOvw_frame (h := h)
  | trs => exact execTrs_frame (h := h)
  | sus => exact execSus_frame (h := h)
  | rsm => exact execRsm_frame (h := h)
  | str => exact execStr_frame (h := h)
  | alc => exact execAlc_frame (h := h)
  | mrw => exact execMrw_frame (h := h)
  | mrr => exact execMrr_frame (h := h)
  | idr => exact execIdr_frame (h := h)
  | zqc => exact execZqc_frame (h := h)
  | trn => exact execTrn_frame (h := h)
  | tbw => exact execTbw_frame (h := h)
  | sby => exact execSby_frame (h := h)
  | wak => exact execWak_frame (h := h)
  | rst => exact execRst_frame (h := h)
  | rebuildPosition => exact execRebuildPosition_frame (h := h)
  | replacementCopyBack => exact execReplacementCopyBack_frame (h := h)
  | engineHeartbeatMiss => exact execEngineHeartbeatMiss_frame (h := h)
  | takeoverComplete => exact execTakeoverComplete_frame (h := h)
  | lockstepMismatch => exact execLockstepMismatch_frame (h := h)
  | bankFailoverComplete => exact execBankFailoverComplete_frame (h := h)
  | headFailure => exact execHeadFailure_frame (h := h)
  | selfTest => exact execSelfTest_frame (h := h)
  | safeStopEntry => exact execSafeStopEntry_frame (h := h)
  | residentRailsGood => exact execResidentRailsGood_frame (h := h)
  | residentRailFall => exact execResidentRailFall_frame (h := h)
  | pfailNRise => exact execPfailNRise_frame (h := h)
  | inputPowerLoss => exact execInputPowerLoss_frame (h := h)
  | flushEnd => exact execFlushEnd_frame (h := h)
  | slotStepStart => exact execSlotStepStart_frame (h := h)
  | pseqPgChange => exact execPseqPgChange_frame (h := h)
  | slotQualified => exact execSlotQualified_frame (h := h)
  | slotQualifyTimeout => exact execSlotQualifyTimeout_frame (h := h)
  | slotFallen => exact execSlotFallen_frame (h := h)
  | slotFallTimeout => exact execSlotFallTimeout_frame (h := h)
  | railFault => exact execRailFault_frame (h := h)
  | huSenseSample => exact execHuSenseSample_frame (h := h)
  | holdupReport => exact execHoldupReport_frame (h := h)
  | writeBackReturn => exact execWriteBackReturn_frame (h := h)
  | healthTest => exact execHealthTest_frame (h := h)
  | healthTestEnd => exact execHealthTestEnd_frame (h := h)
  | boot => exact execBoot_frame (h := h)
  | bindingCheck => exact execBindingCheck_frame (h := h)
  | mapRebuild => exact execMapRebuild_frame (h := h)
  | memoryActive => exact execMemoryActive_frame (h := h)
  | holdupReportTimeout => exact execHoldupReportTimeout_frame (h := h)
  | lightSleepEntry => exact execLightSleepEntry_frame (h := h)
  | deepSleepEntry => exact execDeepSleepEntry_frame (h := h)
  | idleEnd => exact execIdleEnd_frame (h := h)
  | refMonitorWindow => exact execRefMonitorWindow_frame (h := h)
  | refclkLost => exact execRefclkLost_frame (h := h)
  | refclkGood => exact execRefclkGood_frame (h := h)
  | pllJudgeWindow => exact execPllJudgeWindow_frame (h := h)
  | ircTrimUpdate => exact execIrcTrimUpdate_frame (h := h)
  | thermalSample => exact execThermalSample_frame (h := h)
  | throttleEntry => exact execThrottleEntry_frame (h := h)
  | throttleStep => exact execThrottleStep_frame (h := h)
  | devloadWindow => exact execDevloadWindow_frame (h := h)
  | perstAssert => exact execPerstAssert_frame (h := h)
  | perstDeassert => exact execPerstDeassert_frame (h := h)
  | functionLevelReset => exact execFunctionLevelReset_frame (h := h)
  | linkDown => exact execLinkDown_frame (h := h)
  | linkUp => exact execLinkUp_frame (h := h)
  | l1Entry => exact execL1Entry_frame (h := h)
  | l1Exit => exact execL1Exit_frame (h := h)
  | getVersion => exact execGetVersion_frame (h := h)
  | getCapabilities => exact execGetCapabilities_frame (h := h)
  | negotiateAlgorithms => exact execNegotiateAlgorithms_frame (h := h)
  | getDigests => exact execGetDigests_frame (h := h)
  | getCertificate => exact execGetCertificate_frame (h := h)
  | challenge => exact execChallenge_frame (h := h)
  | getMeasurements => exact execGetMeasurements_frame (h := h)
  | keyExchange => exact execKeyExchange_frame (h := h)
  | finish => exact execFinish_frame (h := h)
  | keyUpdate => exact execKeyUpdate_frame (h := h)
  | spdmHeartbeat => exact execSpdmHeartbeat_frame (h := h)
  | endSession => exact execEndSession_frame (h := h)
  | ideKeyManagement => exact execIdeKeyManagement_frame (h := h)
  | ideFailure => exact execIdeFailure_frame (h := h)
  | cdatRead => exact execCdatRead_frame (h := h)
  | channelRetrainEnd => exact execChannelRetrainEnd_frame (h := h)
  | returnRampEnd => exact execReturnRampEnd_frame (h := h)
  | redistributionComplete => exact execRedistributionComplete_frame (h := h)
  | addCapacityOffer => exact execAddCapacityOffer_frame (h := h)
  | testEnRise => exact execTestEnRise_frame (h := h)
  | tapInstruction => exact execTapInstruction_frame (h := h)
  | canBusJoin => exact execCanBusJoin_frame (h := h)
  | cxlComplianceRequest => exact execCxlComplianceRequest_frame (h := h)
  | componentRegisterWrite => exact execComponentRegisterWrite_frame (h := h)
  | configurationRequest => exact execConfigurationRequest_frame (h := h)

/-- A command whose frame leaves out the stored lines keeps their form with them; the others write lines by operations that keep the keys rising. -/
theorem exec_keeps_form (c : Instr) (s t : State) (h₀ : MediaForm (s.blk.at (stampOf c))) (h : exec c s = .next t) : MediaForm t.blk := by
  cases c with
  | acceptance => exact execAcceptance_form (h₀ := h₀) (h := h)
  | readIssue => exact execReadIssue_form (h₀ := h₀) (h := h)
  | readTransfer => exact execReadTransfer_form (h₀ := h₀) (h := h)
  | reconstructionComplete => exact execReconstructionComplete_form (h₀ := h₀) (h := h)
  | fillReturn => exact execFillReturn_form (h₀ := h₀) (h := h)
  | deepRecoveryTimeout => exact execDeepRecoveryTimeout_form (h₀ := h₀) (h := h)
  | deepRecoverySuccess => exact execDeepRecoverySuccess_form (h₀ := h₀) (h := h)
  | coldPathWrite => exact execColdPathWrite_form (h₀ := h₀) (h := h)
  | hotAppend => exact execHotAppend_form (h₀ := h₀) (h := h)
  | programComplete => exact execProgramComplete_form (h₀ := h₀) (h := h)
  | tileResetComplete => exact execTileResetComplete_form (h₀ := h₀) (h := h)
  | prefetchRead => exact execPrefetchRead_form (h₀ := h₀) (h := h)
  | sanitize => exact execSanitize_form (h₀ := h₀) (h := h)
  | secureErase => exact execSecureErase_form (h₀ := h₀) (h := h)
  | eraseComplete => exact execEraseComplete_form (h₀ := h₀) (h := h)
  | injectPoison => exact execInjectPoison_form (h₀ := h₀) (h := h)
  | write => exact execWrite_form (h₀ := h₀) (h := h)
  | applyInstant => exact execApplyInstant_form (h₀ := h₀) (h := h)
  | close => exact execClose_form (h₀ := h₀) (h := h)
  | bulkClose => exact execBulkClose_form (h₀ := h₀) (h := h)
  | regionTeardown => exact execRegionTeardown_form (h₀ := h₀) (h := h)
  | escrowImport => exact execEscrowImport_form (h₀ := h₀) (h := h)
  | retireDie => exact execRetireDie_form (h₀ := h₀) (h := h)
  | retireChannel => exact execRetireChannel_form (h₀ := h₀) (h := h)
  | powerDownToStandby => exact execPowerDownToStandby_form (h₀ := h₀) (h := h)
  | idataRead => exact execIdataRead_form (h₀ := h₀) (h := h)
  | idataWrite => exact execIdataWrite_form (h₀ := h₀) (h := h)
  | indirectAcknowledge => exact execIndirectAcknowledge_form (h₀ := h₀) (h := h)
  | indirectTimeout => exact execIndirectTimeout_form (h₀ := h₀) (h := h)
  | registerWrite => exact execRegisterWrite_form (h₀ := h₀) (h := h)
  | safeStopRelease => exact execSafeStopRelease_form (h₀ := h₀) (h := h)
  | forcedPowerCutInput => exact execForcedPowerCutInput_form (h₀ := h₀) (h := h)
  | forcedPowerCutRail => exact execForcedPowerCutRail_form (h₀ := h₀) (h := h)
  | hotEpochEnd => exact execHotEpochEnd_form (h₀ := h₀) (h := h)
  | demotionCommit => exact execDemotionCommit_form (h₀ := h₀) (h := h)
  | journalRecordIssue => exact execJournalRecordIssue_form (h₀ := h₀) (h := h)
  | garbageCollection => exact execGarbageCollection_form (h₀ := h₀) (h := h)
  | wearIncrement => exact execWearIncrement_form (h₀ := h₀) (h := h)
  | trackerFold => exact execTrackerFold_form (h₀ := h₀) (h := h)
  | rotationPassEnd => exact execRotationPassEnd_form (h₀ := h₀) (h := h)
  | migrationStart => exact execMigrationStart_form (h₀ := h₀) (h := h)
  | migrationEnd => exact execMigrationEnd_form (h₀ := h₀) (h := h)
  | coldSwapCheck => exact execColdSwapCheck_form (h₀ := h₀) (h := h)
  | refreshRegion => exact execRefreshRegion_form (h₀ := h₀) (h := h)
  | checkpointStart => exact execCheckpointStart_form (h₀ := h₀) (h := h)
  | checkpointCommit => exact execCheckpointCommit_form (h₀ := h₀) (h := h)
  | resync => exact execResync_form (h₀ := h₀) (h := h)
  | weakLineRewrite => exact execWeakLineRewrite_form (h₀ := h₀) (h := h)
  | terryStripeRead => exact execTerryStripeRead_form (h₀ := h₀) (h := h)
  | sramScrub => exact execSramScrub_form (h₀ := h₀) (h := h)
  | marginEvaluation => exact execMarginEvaluation_form (h₀ := h₀) (h := h)
  | gauzeSnapshot => exact execGauzeSnapshot_form (h₀ := h₀) (h := h)
  | tagWriteback => exact execTagWriteback_form (h₀ := h₀) (h := h)
  | rekeyPass => exact execRekeyPass_form (h₀ := h₀) (h := h)
  | alertService => exact execAlertService_form (h₀ := h₀) (h := h)
  | channelTraining => exact execChannelTraining_form (h₀ := h₀) (h := h)
  | channelRetrain => exact execChannelRetrain_form (h₀ := h₀) (h := h)
  | rst => exact execRst_form (h₀ := h₀) (h := h)
  | rebuildPosition => exact execRebuildPosition_form (h₀ := h₀) (h := h)
  | replacementCopyBack => exact execReplacementCopyBack_form (h₀ := h₀) (h := h)
  | engineHeartbeatMiss => exact execEngineHeartbeatMiss_form (h₀ := h₀) (h := h)
  | takeoverComplete => exact execTakeoverComplete_form (h₀ := h₀) (h := h)
  | bankFailoverComplete => exact execBankFailoverComplete_form (h₀ := h₀) (h := h)
  | selfTest => exact execSelfTest_form (h₀ := h₀) (h := h)
  | safeStopEntry => exact execSafeStopEntry_form (h₀ := h₀) (h := h)
  | residentRailFall => exact execResidentRailFall_form (h₀ := h₀) (h := h)
  | inputPowerLoss => exact execInputPowerLoss_form (h₀ := h₀) (h := h)
  | flushEnd => exact execFlushEnd_form (h₀ := h₀) (h := h)
  | pseqPgChange => exact execPseqPgChange_form (h₀ := h₀) (h := h)
  | slotQualifyTimeout => exact execSlotQualifyTimeout_form (h₀ := h₀) (h := h)
  | railFault => exact execRailFault_form (h₀ := h₀) (h := h)
  | huSenseSample => exact execHuSenseSample_form (h₀ := h₀) (h := h)
  | holdupReport => exact execHoldupReport_form (h₀ := h₀) (h := h)
  | writeBackReturn => exact execWriteBackReturn_form (h₀ := h₀) (h := h)
  | healthTestEnd => exact execHealthTestEnd_form (h₀ := h₀) (h := h)
  | bindingCheck => exact execBindingCheck_form (h₀ := h₀) (h := h)
  | mapRebuild => exact execMapRebuild_form (h₀ := h₀) (h := h)
  | memoryActive => exact execMemoryActive_form (h₀ := h₀) (h := h)
  | holdupReportTimeout => exact execHoldupReportTimeout_form (h₀ := h₀) (h := h)
  | deepSleepEntry => exact execDeepSleepEntry_form (h₀ := h₀) (h := h)
  | refclkLost => exact execRefclkLost_form (h₀ := h₀) (h := h)
  | pllJudgeWindow => exact execPllJudgeWindow_form (h₀ := h₀) (h := h)
  | channelRetrainEnd => exact execChannelRetrainEnd_form (h₀ := h₀) (h := h)
  | _ => exact keep_form (exec_only _ s t h) (of_decide_eq_true rfl) h₀

/-- Settles O9 (the canonical form is log 5): an idle step changes nothing, and any other runs the front command, which keeps the form. -/
theorem storedLinesKeepTheirForm : Obligations.StoredLinesKeepTheirForm := by
  intro s t hs h
  cases hp : s.pending with
  | nil =>
    rw [step_nil s hp] at h
    cases h
    exact hs
  | cons c rest =>
    rw [step_cons c rest s hp] at h
    exact exec_keeps_form c { s with pending := rest } t hs h

end Sys2Proof.Machine
end

section
/-! SUPPORT. The keyed interleave is a bijection (R30). -/

namespace Sys2Proof.Machine

open Sys2Proof.Safety

/-- What a round mixes into the half that it changes: 7 bits of the other half and the round's part of the key (R30). -/
def roundMask (k : BitVec 64) (i r : Nat) : Nat :=
  let ki := fld k.toNat (16 * i) 16
  let t := ((r ^^^ (ki &&& 0x7F)) * ((ki >>> 7) ||| 1)) &&& 0xFFFF
  (t ^^^ (t >>> 7)) &&& 0x7F

theorem feistelRound_eq (k : BitVec 64) (i : Nat) (p : Nat × Nat) : feistelRound k i p = (p.2, p.1 ^^^ roundMask k i p.2) := rfl

theorem roundMask_lt (k : BitVec 64) (i r : Nat) : roundMask k i r < 2 ^ 7 := Nat.and_lt_two_pow _ (by decide)

/-- A round undone. -/
def feistelUnround (k : BitVec 64) (i : Nat) (p : Nat × Nat) : Nat × Nat := (p.2 ^^^ roundMask k i p.1, p.1)

@[simp] theorem feistelUnround_feistelRound (k : BitVec 64) (i : Nat) (p : Nat × Nat) : feistelUnround k i (feistelRound k i p) = p := by
  simp [feistelRound_eq, feistelUnround]

@[simp] theorem feistelRound_feistelUnround (k : BitVec 64) (i : Nat) (p : Nat × Nat) : feistelRound k i (feistelUnround k i p) = p := by
  simp [feistelRound_eq, feistelUnround]

/-- Both halves have 7 bits. -/
def Halves (p : Nat × Nat) : Prop := p.1 < 2 ^ 7 ∧ p.2 < 2 ^ 7

theorem feistelRound_halves {k : BitVec 64} {i : Nat} {p : Nat × Nat} (h : Halves p) : Halves (feistelRound k i p) :=
  ⟨h.2, Nat.xor_lt_two_pow h.1 (roundMask_lt k i p.2)⟩

theorem feistelUnround_halves {k : BitVec 64} {i : Nat} {p : Nat × Nat} (h : Halves p) : Halves (feistelUnround k i p) :=
  ⟨Nat.xor_lt_two_pow h.2 (roundMask_lt k i p.1), h.1⟩

/-- The rounds of a list, first to last. -/
def rounds (k : BitVec 64) (l : List Nat) (p : Nat × Nat) : Nat × Nat := l.foldl (fun q i => feistelRound k i q) p

/-- The rounds of a list undone, last to first. -/
def unrounds (k : BitVec 64) (l : List Nat) (p : Nat × Nat) : Nat × Nat := l.foldr (feistelUnround k) p

theorem rounds_halves {k : BitVec 64} (l : List Nat) {p : Nat × Nat} (h : Halves p) : Halves (rounds k l p) := by
  induction l generalizing p with
  | nil => exact h
  | cons i l ih => exact ih (feistelRound_halves h)

theorem unrounds_halves {k : BitVec 64} (l : List Nat) {p : Nat × Nat} (h : Halves p) : Halves (unrounds k l p) := by
  induction l with
  | nil => exact h
  | cons i l ih => exact feistelUnround_halves ih

theorem unrounds_rounds (k : BitVec 64) (l : List Nat) (p : Nat × Nat) : unrounds k l (rounds k l p) = p := by
  induction l generalizing p with
  | nil => rfl
  | cons i l ih =>
    calc unrounds k (i :: l) (rounds k (i :: l) p)
        = feistelUnround k i (unrounds k l (rounds k l (feistelRound k i p))) := rfl
      _ = p := by rw [ih, feistelUnround_feistelRound]

theorem rounds_unrounds (k : BitVec 64) (l : List Nat) (p : Nat × Nat) : rounds k l (unrounds k l p) = p := by
  induction l with
  | nil => rfl
  | cons i l ih =>
    calc rounds k (i :: l) (unrounds k (i :: l) p)
        = rounds k l (feistelRound k i (feistelUnround k i (unrounds k l p))) := rfl
      _ = p := by rw [feistelRound_feistelUnround, ih]

/-- The halves of an offset. -/
def splitHalves (x : Nat) : Nat × Nat := (x >>> 7, x &&& 0x7F)

/-- The offset of two halves. -/
def joinHalves (p : Nat × Nat) : Nat := (p.1 <<< 7) ||| p.2

theorem splitHalves_eq (x : Nat) : splitHalves x = (x / 2 ^ 7, x % 2 ^ 7) :=
  Prod.ext (Nat.shiftRight_eq_div_pow x 7) (Nat.and_two_pow_sub_one_eq_mod x 7)

theorem joinHalves_eq {p : Nat × Nat} (h : Halves p) : joinHalves p = p.1 * 2 ^ 7 + p.2 := by
  rw [joinHalves, ← Nat.shiftLeft_add_eq_or_of_lt h.2, Nat.shiftLeft_eq]

theorem splitHalves_halves {x : Nat} (h : x < 16384) : Halves (splitHalves x) := by
  rw [splitHalves_eq]
  exact ⟨by dsimp only; omega, by dsimp only; omega⟩

theorem joinHalves_lt {p : Nat × Nat} (h : Halves p) : joinHalves p < 16384 := by
  obtain ⟨h1, h2⟩ := h
  rw [joinHalves_eq ⟨h1, h2⟩]
  omega

theorem joinHalves_splitHalves {x : Nat} (h : x < 16384) : joinHalves (splitHalves x) = x := by
  rw [joinHalves_eq (splitHalves_halves h), splitHalves_eq]
  dsimp only
  omega

theorem splitHalves_joinHalves {p : Nat × Nat} (h : Halves p) : splitHalves (joinHalves p) = p := by
  obtain ⟨h1, h2⟩ := h
  rw [joinHalves_eq ⟨h1, h2⟩, splitHalves_eq]
  exact Prod.ext (by dsimp only; omega) (by dsimp only; omega)

theorem interleave_eq_rounds (x : Nat) (k : BitVec 64) : interleave x k = joinHalves (rounds k (List.range 4) (splitHalves x)) := rfl

/-- The offset that the interleave carries to a result. -/
def deinterleave (y : Nat) (k : BitVec 64) : Nat := joinHalves (unrounds k (List.range 4) (splitHalves y))

theorem deinterleave_lt {y : Nat} (k : BitVec 64) (h : y < 16384) : deinterleave y k < 16384 :=
  joinHalves_lt (unrounds_halves _ (splitHalves_halves h))

theorem interleave_deinterleave {y : Nat} (k : BitVec 64) (h : y < 16384) : interleave (deinterleave y k) k = y := by
  rw [interleave_eq_rounds, deinterleave, splitHalves_joinHalves (unrounds_halves _ (splitHalves_halves h)), rounds_unrounds,
    joinHalves_splitHalves h]

theorem deinterleave_interleave {x : Nat} (k : BitVec 64) (h : x < 16384) : deinterleave (interleave x k) k = x := by
  rw [interleave_eq_rounds, deinterleave, splitHalves_joinHalves (rounds_halves _ (splitHalves_halves h)), unrounds_rounds,
    joinHalves_splitHalves h]

/-- With no rotation in progress a home place is the entry's slot, the stripe and position that the interleaved offset and the rotation offset give (R57). -/
theorem homePlace_of_no_rotation (b : Blk) (r li : Nat) (e : RegionEntry) (h : e.rotp = false) :
    b.homePlace r li e =
      (let s := (interleave (li % 16384) b.key / 16 + e.rot.toNat) % 1024
       let p := interleave (li % 16384) b.key % 16
       { cls := e.cls, slot := e.slot.toNat, stripe := s, pos := p, hot := false, loc := b.slotLine e.cls e.slot.toNat s p }) := by
  have hx : li &&& 0x3FFF = li % 16384 := Nat.and_two_pow_sub_one_eq_mod li 14
  have hs (n : Nat) : n &&& 0x3FF = n % 1024 := Nat.and_two_pow_sub_one_eq_mod n 10
  have hp (n : Nat) : n &&& 0xF = n % 16 := Nat.and_two_pow_sub_one_eq_mod n 4
  have hd (n : Nat) : n >>> 4 = n / 16 := Nat.shiftRight_eq_div_pow n 4
  simp [Blk.homePlace, h, hx, hs, hp, hd]

/-- Settles O16: the four rounds are the listing's, each is undone by `feistelUnround`, and halves of 7 bits stay such halves. -/
theorem theInterleaveIsABijection : Obligations.TheInterleaveIsABijection := by
  refine ⟨fun x k => ?_, fun k y hy => ?_, fun b r li e h => ?_⟩
  · have hfld (lo : Nat) : fld k.toNat lo 16 = (k.toNat >>> lo) &&& 0xFFFF := (Nat.and_two_pow_sub_one_eq_mod _ 16).symm
    simp only [← hfld]
    rfl
  · exact ⟨deinterleave y k, deinterleave_lt k hy, interleave_deinterleave k hy,
      fun x' hx' h => by rw [← h, deinterleave_interleave k hx']⟩
  · rw [homePlace_of_no_rotation b r li e h]
    exact ⟨rfl, rfl, rfl, rfl, rfl, rfl⟩

end Sys2Proof.Machine
end

section
/-! SUPPORT. Where the lines of a stripe stand: members, channels, partitions and tiles (R28, R29, R55). -/

namespace Sys2Proof.Machine

open Sys2Proof.Safety

/-! ### The channels of a slot's members (R28, R29, R55) -/

/-- A channel that the last 17 positions have not is left: there are 32. -/
theorem exists_channel_not_in_window (l : List Nat) : ∃ c, c < 32 ∧ c ∉ l.take 17 := by
  by_contra hnone
  push Not at hnone
  have hsub : List.range 32 ⊆ l.take 17 := fun c hc => hnone c (List.mem_range.1 hc)
  have hle := (List.nodup_range.subperm hsub).length_le
  simp only [List.length_range, List.length_take] at hle
  omega

/-- Channel of position j of a run. -/
def channelAt (pick : Nat → Nat) (j : Nat) : Nat := (channelRun pick (j + 1)).headD 0

theorem channelRun_succ (pick : Nat → Nat) (n : Nat) : channelRun pick (n + 1) = channelAt pick n :: channelRun pick n := rfl

/-- A channel of a run is one of the 32, and not one of the 17 before it. -/
theorem channelAt_fresh (pick : Nat → Nat) (j : Nat) : channelAt pick j < 32 ∧ channelAt pick j ∉ (channelRun pick j).take 17 := by
  let rest := (List.range 32).filter fun c => !((channelRun pick j).take 17).contains c
  have hpos : 0 < rest.length := by
    obtain ⟨c, hc, hfree⟩ := exists_channel_not_in_window (channelRun pick j)
    exact List.length_pos_of_mem (a := c) (by simp [rest, hc, hfree])
  have hlt : pick j % max 1 rest.length < rest.length := by
    rw [Nat.max_eq_right hpos]
    exact Nat.mod_lt _ hpos
  have hmem : channelAt pick j ∈ rest := by
    have : channelAt pick j = rest.getD (pick j % max 1 rest.length) 0 := rfl
    rw [this, List.getD_eq_getElem _ _ hlt]
    exact List.getElem_mem hlt
  simpa [rest] using hmem

theorem length_channelRun (pick : Nat → Nat) (n : Nat) : (channelRun pick n).length = n := by
  induction n with
  | zero => rfl
  | succ n ih => rw [channelRun_succ, List.length_cons, ih]

/-- Reversed, a run lists its positions in order. -/
theorem getD_reverse_channelRun (pick : Nat → Nat) {n j : Nat} (h : j < n) : (channelRun pick n).reverse.getD j 0 = channelAt pick j := by
  induction n with
  | zero => omega
  | succ n ih =>
    rw [channelRun_succ, List.reverse_cons]
    rcases Nat.lt_succ_iff_lt_or_eq.1 h with hj | rfl
    · rw [List.getD_append _ _ _ _ (by simpa [length_channelRun] using hj), ih hj]
    · rw [List.getD_append_right _ _ _ _ (by simp [length_channelRun])]
      simp [length_channelRun]

/-- The d + 1 newest of a run hold the channel of the position d before the newest. -/
theorem channelAt_mem_take (pick : Nat → Nat) (i d : Nat) : channelAt pick i ∈ (channelRun pick (i + 1 + d)).take (d + 1) := by
  induction d with
  | zero => simp [channelRun_succ]
  | succ d ih =>
    rw [← Nat.add_assoc, channelRun_succ, List.take_succ_cons]
    exact List.mem_cons_of_mem _ ih

theorem channelAt_ne (pick : Nat → Nat) {i j : Nat} (hij : i < j) (hd : j - i ≤ 17) : channelAt pick i ≠ channelAt pick j := by
  intro heq
  have hmem := channelAt_mem_take pick i (j - i - 1)
  rw [show i + 1 + (j - i - 1) = j by omega, heq] at hmem
  exact (channelAt_fresh pick j).2 (List.take_subset_take_left _ (by omega) hmem)

theorem gf32Mul_xor (n x y z : Nat) : gf32Mul n x (y ^^^ z) = gf32Mul n x y ^^^ gf32Mul n x z := by
  induction n generalizing x y z with
  | zero => simp [gf32Mul]
  | succ n ih =>
    simp only [gf32Mul, Nat.testBit_xor, Nat.xor_div_two, ih]
    cases y.testBit 0 <;> cases z.testBit 0 <;> simp [Nat.xor_assoc, Nat.xor_left_comm]

/-- The products of a number of GF(2^5) that is not 0: in the field, and 0 for 0 alone. -/
theorem gf32Mul_regular : ∀ a < 31, ∀ y < 32, gf32Mul 5 (1 + a) y < 32 ∧ (gf32Mul 5 (1 + a) y = 0 → y = 0) := by
  decide +kernel

theorem affineChannel_lt (g j : Nat) : affineChannel g j < 32 :=
  Nat.xor_lt_two_pow (n := 5) (gf32Mul_regular _ (Nat.mod_lt _ (by decide)) _ (Nat.mod_lt _ (by decide))).1 (Nat.mod_lt _ (by decide))

/-- The affine map of a group tells positions within 17 of each other apart: it is one to one on residues modulo 32. -/
theorem affineChannel_ne (g : Nat) {i j : Nat} (hij : i < j) (hd : j - i ≤ 17) : affineChannel g i ≠ affineChannel g j := by
  intro heq
  have hmul : gf32Mul 5 (1 + g % 31) (i % 32) = gf32Mul 5 (1 + g % 31) (j % 32) := Nat.xor_left_injective heq
  have hzero : gf32Mul 5 (1 + g % 31) (i % 32 ^^^ j % 32) = 0 := by rw [gf32Mul_xor, hmul, Nat.xor_self]
  have hx : i % 32 ^^^ j % 32 < 32 := Nat.xor_lt_two_pow (n := 5) (Nat.mod_lt _ (by decide)) (Nat.mod_lt _ (by decide))
  have hsame := Nat.xor_eq_zero_iff.1 ((gf32Mul_regular _ (Nat.mod_lt _ (by decide)) _ hx).2 hzero)
  omega

theorem groupChannel_lt (n g : Nat) {j : Nat} (hj : j < 306) : groupChannel n g j < 32 := by
  unfold groupChannel
  split
  · rw [ownChannel, getD_reverse_channelRun _ hj]
    exact (channelAt_fresh _ j).1
  · exact affineChannel_lt g j

/-- Under either pattern any 18 positions of a group in a row lie on different channels (R28, R55). -/
theorem groupChannel_ne (n g : Nat) {i j : Nat} (hij : i < j) (hd : j - i ≤ 17) (hj : j < 306) : groupChannel n g i ≠ groupChannel n g j := by
  unfold groupChannel
  split
  · rw [ownChannel, ownChannel, getD_reverse_channelRun _ hj, getD_reverse_channelRun _ (by omega)]
    exact channelAt_ne _ hij hd
  · exact affineChannel_ne g hij hd

/-- A slot's positions are positions of its group. -/
theorem slotPosition_lt {c : Cls} {slot m : Nat} (hs : slot % 18 < slotsOfGroup c) (hm : m < widthOf c) : widthOf c * (slot % 18) + m < 306 := by
  cases c <;> simp only [widthOf, slotsOfGroup] at * <;> omega

/-- With no substitution a member's channel is the pattern's. -/
theorem memberDie_channel (b : Blk) (slot w m : Nat) (hsub : b.safety.subst = []) (hper : b.media.perChan ≤ 8) :
    b.memberDie slot w m / 8 = groupChannel b.patternDies (slot / 18) (w * (slot % 18) + m) := by
  have hdie : (if b.media.perChan = 0 then 0 else Config.pickDie (slot / 18) (w * (slot % 18) + m) % b.media.perChan) < 8 := by
    split
    · decide
    · next h => exact lt_of_lt_of_le (Nat.mod_lt _ (Nat.pos_of_ne_zero h)) hper
  simp only [Blk.memberDie, hsub, NMap.find_nil]
  omega

theorem memberDie_channel_ne (b : Blk) {c : Cls} {slot m m' : Nat} (hs : slot % 18 < slotsOfGroup c) (hsub : b.safety.subst = [])
    (hper : b.media.perChan ≤ 8) (hm' : m' < widthOf c) (h : m < m') :
    b.memberDie slot (widthOf c) m / 8 ≠ b.memberDie slot (widthOf c) m' / 8 := by
  have hw : widthOf c ≤ 18 := by cases c <;> decide
  rw [memberDie_channel b slot _ m hsub hper, memberDie_channel b slot _ m' hsub hper]
  exact groupChannel_ne _ _ (by omega) (by omega) (slotPosition_lt hs hm')

/-! ### The place of a stripe on a member (R28) -/

theorem pidOf_locOf {pid line : Nat} (h : line < 2 ^ 23) : pidOf (locOf pid line) = pid := by
  unfold pidOf locOf
  omega

theorem partitionOf_lt (slot t : Nat) : partitionOf slot t < 32 := Nat.mod_lt _ (by decide)

theorem partitionOf_ne (slot : Nat) {t t' : Nat} (ht : t < 16) (ht' : t' < 16) (h : t ≠ t') : partitionOf slot t ≠ partitionOf slot t' := by
  unfold partitionOf
  omega

theorem pidOf_memberLine (b : Blk) (c : Cls) (slot s m : Nat) :
    pidOf (b.memberLine c slot s m) = partId (b.memberDie slot (widthOf c) m) (partitionOf slot (s / 64)) :=
  pidOf_locOf (by omega)

theorem memberLine_mod_tile (b : Blk) (c : Cls) (slot s m : Nat) : b.memberLine c slot s m % 64 = s % 64 := by
  simp only [Blk.memberLine, locOf]
  omega

theorem pidOf_memberLine_partition (b : Blk) (c : Cls) (slot s m : Nat) : pidOf (b.memberLine c slot s m) % 32 = partitionOf slot (s / 64) := by
  have := partitionOf_lt slot (s / 64)
  rw [pidOf_memberLine, partId]
  omega

theorem dieOfLoc_memberLine (b : Blk) (c : Cls) (slot s m : Nat) : dieOfLoc (b.memberLine c slot s m) = b.memberDie slot (widthOf c) m := by
  have := partitionOf_lt slot (s / 64)
  rw [dieOfLoc, pidOf_memberLine, partId]
  omega

/-- Stripes of different tile rows differ in the partition, and of one tile row in the line of the tile. -/
theorem memberLine_ne (b : Blk) (c : Cls) (slot m : Nat) {s s' : Nat} (hs : s < 1024) (hs' : s' < 1024) (h : s ≠ s') :
    b.memberLine c slot s m ≠ b.memberLine c slot s' m := by
  intro heq
  have hline := congrArg (· % 64) heq
  have hpart := congrArg (fun l => pidOf l % 32) heq
  simp only [memberLine_mod_tile, pidOf_memberLine_partition] at hline hpart
  by_cases ht : s / 64 = s' / 64
  · omega
  · exact partitionOf_ne slot (by omega) (by omega) ht hpart

/-- Of 17 consecutive residues the first is the parity's, and each other one is one data position's. -/
theorem voile_members (s m : Nat) (hm : m < 17) :
    (m = parityMember .voile s 0 ∧ ∀ p < 16, dataMember .voile s p ≠ m) ∨
      (m ≠ parityMember .voile s 0 ∧ ∃ p < 16, dataMember .voile s p = m ∧ ∀ q < 16, dataMember .voile s q = m → q = p) := by
  simp only [parityMember, dataMember]
  by_cases h : m = s % 17
  · exact .inl ⟨h, fun p hp => by omega⟩
  · exact .inr ⟨h, (m + 16 - s % 17) % 17, by omega, by omega, fun q hq hqm => by omega⟩

/-- Of 18 consecutive residues the first two are the parities', and each other one is one data position's. -/
theorem denim_members (s m : Nat) (hm : m < 18) :
    ((m = parityMember .denim s 0 ∨ m = parityMember .denim s 1) ∧ ∀ p < 16, dataMember .denim s p ≠ m) ∨
      (m ≠ parityMember .denim s 0 ∧ m ≠ parityMember .denim s 1 ∧
        ∃ p < 16, dataMember .denim s p = m ∧ ∀ q < 16, dataMember .denim s q = m → q = p) := by
  simp only [parityMember, dataMember]
  by_cases h : m = (s + 0) % 18 ∨ m = (s + 1) % 18
  · exact .inl ⟨h, fun p hp => by omega⟩
  · exact .inr ⟨fun h0 => h (.inl h0), fun h1 => h (.inr h1), (m + 16 - s % 18) % 18, by omega, by omega, fun q hq hqm => by omega⟩

/-- Settles O15: the members from residues, the place on a member from the parts of its location, the channels from the two patterns. -/
theorem stripesAreLaidOutOnTheirMembers : Obligations.StripesAreLaidOutOnTheirMembers := by
  refine ⟨fun s p _ => ⟨rfl, rfl⟩, fun s => ⟨rfl, rfl, rfl⟩, voile_members, denim_members, fun b c slot s m _ => ?_, fun b c slot s s' m => ?_,
    fun slot t t' => partitionOf_ne slot, fun b c slot s p => rfl, fun b c slot m m' hs hsub hper hm hm' hne => ⟨?_, ?_⟩⟩
  · exact ⟨dieOfLoc_memberLine b c slot s m, pidOf_memberLine_partition b c slot s m, memberLine_mod_tile b c slot s m⟩
  · exact memberLine_ne b c slot m
  · rw [memberDie_channel b slot _ m hsub hper]
    exact groupChannel_lt _ _ (slotPosition_lt hs hm)
  · rcases Nat.lt_or_gt_of_ne hne with h | h
    · exact memberDie_channel_ne b hs hsub hper hm' h
    · exact (memberDie_channel_ne b hs hsub hper hm h).symm

end Sys2Proof.Machine
end

section
/-! SUPPORT. Reads of stored lines after a store and after blanking (R24, R191, R193). -/

namespace Sys2Proof.Machine

open Sys2Proof.Safety

theorem Blk.storeLine_lines (b : Blk) (loc : Nat) (x : MLine) : (b.storeLine loc x).media.lines = b.media.lines.put loc x := rfl

theorem Blk.blankLine_lines (b : Blk) (loc : Nat) : (b.blankLine loc).media.lines = b.media.lines.del loc := rfl

/-- Blanking tiles leaves exactly the locations outside them (R191). -/
theorem Blk.find_blankTiles {b : Blk} (h : MediaForm b) (pid tile count l : Nat) :
    (b.blankTiles pid tile count).media.lines.find l =
      if locOf pid (tile * 64) ≤ l ∧ l < locOf pid (tile * 64) + 64 * (count + 1) then none else b.media.lines.find l := by
  have hf := NMap.find_filter (fun loc => decide (loc < locOf pid (tile * 64)) || decide (locOf pid (tile * 64) + 64 * (count + 1) ≤ loc)) h l
  refine hf.trans ?_
  by_cases hin : locOf pid (tile * 64) ≤ l ∧ l < locOf pid (tile * 64) + 64 * (count + 1)
  · simp [hin]
  · rw [if_neg hin, if_pos (by simp; omega)]

/-- Settles O18: a read after a `put`, a `del` and a filter of a table whose keys rise. -/
theorem linesReadAsWritten : Obligations.LinesReadAsWritten := by
  refine ⟨fun b loc x h => ⟨?_, fun l hl => ?_⟩, fun b loc h => ⟨?_, fun l hl => ?_⟩,
    fun b pid tile count h => ⟨b.blankTiles_form pid tile count h, b.find_blankTiles h pid tile count⟩⟩
  · rw [Blk.storeLine_lines, NMap.find_put_same]
  · rw [Blk.storeLine_lines, NMap.find_put_other x hl]
  · rw [Blk.blankLine_lines, NMap.find_del_same loc h]
  · rw [Blk.blankLine_lines, NMap.find_del_other h hl]

end Sys2Proof.Machine
end

section
/-! SUPPORT. Requests accepted, reads, guards and deep recovery, command by command (R37 to R51, R102, R161 to R163, R194). -/

namespace Sys2Proof.Machine

open Sys2Proof.Safety

/-- A command at a stamp, from the block there and what its effect makes of it. -/
theorem State.command_at {s : State} {a : Stamp} {f : Blk → Blk} {b c : Blk} (hb : s.blk.at a = b) (hf : f b = c) :
    s.command a f = .next { s with blk := c } := by
  rw [State.command_eq, hb, hf]

/-! ### Acceptance (R37, R161 to R163, R213, R383) -/

theorem Blk.stopped_of_serving {b : Blk} (h : b.serving = true) : b.stopped = false := by
  simp only [Blk.serving, Bool.and_eq_true, Bool.not_eq_true'] at h
  obtain ⟨⟨⟨⟨_, hs⟩, _⟩, _⟩, _⟩ := h
  exact hs

theorem Blk.tryAccept_of_mayAccept {b : Blk} {h : Head} {r : Req} (d : DpErr) (hw : inWindow r.dpa = false) (hm : b.mayAccept h r = true) :
    b.tryAccept h r d = b.acceptNow h r d := by
  simp only [Blk.tryAccept, hw, hm, if_true, Bool.false_eq_true, if_false]

theorem Blk.tryAccept_of_window {b : Blk} {h : Head} {r : Req} (d : DpErr) (hw : inWindow r.dpa = true) (hs : b.serving = true) :
    b.tryAccept h r d = b.acceptWindow h r d := by
  simp only [Blk.tryAccept, hw, hs, if_true]

/-- ACCEPTANCE with a request at its place. -/
theorem exec_acceptance_of_ingress {a : Stamp} {h : Head} {i : Nat} {r : Req} {s : State} {b : Blk} (dp : DpErr) (hb : s.blk.at a = b)
    (hr : (b.head h).ingress[i]? = some r) : exec (.acceptance a h i dp) s = .next { s with blk := b.tryAccept h r dp } :=
  (exec_acceptance a h i dp s).trans (State.command_at hb (by simp only [hr]))

/-- Settles O26: the request at the place is tried, and each condition chooses the branch of `tryAccept`; requests are served in no stop. -/
theorem acceptanceAndWindow : Obligations.AcceptanceAndWindow := by
  refine ⟨fun a h i dp r s b hb hr hw hm => ?_, fun a h i dp r s b hb hr hw hs => ?_, fun a h tag off isWrite s b hb ht hs => ?_,
    fun a h tag off isWrite s b hb ht hm hst => ?_⟩
  · rw [exec_acceptance_of_ingress dp hb hr, Blk.tryAccept_of_mayAccept dp hw hm]
  · rw [exec_acceptance_of_ingress dp hb hr, Blk.tryAccept_of_window dp hw hs]
  · rw [exec_telemetryWindowAccess]
    exact State.command_at hb (by simp only [ht, hs, Blk.stopped_of_serving hs, Bool.and_false, Bool.and_self, Bool.false_eq_true, if_false, if_true])
  · rw [exec_telemetryWindowAccess]
    exact State.command_at hb (by simp only [ht, hm, hst, Bool.and_self, if_true])

/-! ### Reads (R40, R43 to R45, R47, R180, R194) -/

/-- A transfer does not fit its command: no strobe, a wrong CRC, or another SEQ, partition or line (R185, R194). -/
def transferMisfits (x : Xfer) (t : ReadTask) (part : Nat) : Bool :=
  !x.strobe || !x.crcOk || stSeq x.st != t.seq || (stPart x.st).toNat != part || (stLine x.st).toNat != t.loc % 2 ^ 23

theorem transferMisfits_iff (x : Xfer) (t : ReadTask) (part : Nat) :
    transferMisfits x t part = true ↔
      x.strobe = false ∨ x.crcOk = false ∨ stSeq x.st ≠ t.seq ∨ (stPart x.st).toNat ≠ part ∨ (stLine x.st).toNat ≠ t.loc % 2 ^ 23 := by
  simp only [transferMisfits, Bool.or_eq_true, Bool.not_eq_true', bne_iff_ne, or_assoc]

/-- READ_ISSUE of a read that may go out. -/
theorem exec_readIssue_of_next {a : Stamp} {ch : Fin 32} {die : Fin 8} {part : Fin 32} {t : ReadTask} {s : State} {b : Blk} (hb : s.blk.at a = b)
    (ht : (b.part (partOf ch die part)).next = some t) (hfree : b.freeForRead (partOf ch die part) = true)
    (hfirst : b.firstInOrder (partOf ch die part) t = true) :
    exec (.readIssue a ch die part) s = .next { s with
      blk := (if b.buffered t then (b.onPart (partOf ch die part) PartSt.taken).fromBuffer t else b.issue (partOf ch die part) t).readOn (partOf ch die part / 32) } := by
  rw [exec_readIssue]
  exact State.command_at hb (by simp only [ht, hfree, hfirst, Bool.not_true, Bool.or_self, Bool.false_eq_true, if_false])

theorem exec_readTransfer_of_good {a : Stamp} {ch : Fin 32} {die : Fin 8} {part : Fin 32} {x : Xfer} {t : ReadTask} {s : State} {b : Blk}
    (hb : s.blk.at a = b) (ht : (b.part (partOf ch die part)).sent = some t) (hdue : t.due ≤ b.now)
    (hgood : transferMisfits x t part.val = false) :
    exec (.readTransfer a ch die part x) s = .next { s with
      blk := (((((b.tw (32 + ch.val) 1).phaseSeen (partOf ch die part / 32) x).onPart (partOf ch die part) fun p => { p with sent := none }).dieStatus
          (partOf ch die part / 32) (stAlrt x.st) (stTval x.st) (stTemp x.st)).transferred t x).readOn (partOf ch die part / 32) } := by
  rw [exec_readTransfer]
  unfold transferMisfits at hgood
  exact State.command_at hb (by simp only [ht, Nat.not_lt.2 hdue, if_false, hgood, Bool.false_eq_true])

theorem exec_readTransfer_of_bad {a : Stamp} {ch : Fin 32} {die : Fin 8} {part : Fin 32} {x : Xfer} {t : ReadTask} {s : State} {b : Blk}
    (hb : s.blk.at a = b) (ht : (b.part (partOf ch die part)).sent = some t) (hdue : t.due ≤ b.now)
    (hbad : transferMisfits x t part.val = true) :
    exec (.readTransfer a ch die part x) s = .next { s with
      blk := ((b.tw (32 + ch.val) 1).phaseSeen (partOf ch die part / 32) x).transferFailed (partOf ch die part) t x.strobe } := by
  rw [exec_readTransfer]
  unfold transferMisfits at hbad
  exact State.command_at hb (by simp only [ht, Nat.not_lt.2 hdue, if_false, hbad, if_true])

/-- Settles O27: each hypothesis chooses the branch of its command; a transfer is good exactly when `transferMisfits_iff` has no alternative. -/
theorem readsIssueAndReturn : Obligations.ReadsIssueAndReturn := by
  refine ⟨fun a ch die part t s b hb ht hfree hfirst => exec_readIssue_of_next hb ht hfree hfirst,
    fun a ch die part x t s b hb ht hdue hst hcrc hseq hpart hline => ?_,
    fun a ch die part x t s b hb ht hdue hbad => exec_readTransfer_of_bad hb ht hdue ((transferMisfits_iff x t part.val).2 hbad),
    fun a rid lost dp c x p erased s b hb hc hx hstage htag hlist hhome hp he htol => ?_, fun a li bad line s b hb hf => ?_⟩
  · refine exec_readTransfer_of_good hb ht hdue (Bool.eq_false_iff.2 fun h => ?_)
    have hsome := (transferMisfits_iff x t part.val).1 h
    simp [hst, hcrc, hseq, hpart, hline] at hsome
  · rw [exec_reconstructionComplete]
    have hfew : ¬toleranceOf p.cls < erased.length + 1 := by omega
    refine State.command_at hb ?_
    rcases hsol : c.solve p erased with _ | cipher
    · simp [hc, hx, hstage, htag, hlist, hhome, hp, he, hfew, hsol]
    · rcases hopen : c.openLine x.line p cipher with _ | line <;>
        simp [hc, hx, hstage, htag, hlist, hhome, hp, he, hfew, hsol, hopen]
  · rw [exec_fillReturn]
    exact State.command_at hb (by simp only [hf])

/-! ### Suspended programs, guards and deep recovery (R41, R42, R47 to R49, R102) -/

/-- DEEP_RECOVERY_SUCCESS of a recovery whose step yields a ciphertext that opens: with no half listed at a deadline, or with a holding buffer free, it ends. -/
theorem exec_deepRecoverySuccess_of_recovered {a : Stamp} {rid : Nat} {step : RecoveryStep} {d : Deep} {x : Line} {p : Place} {line : Line} {s : State} {b : Blk}
    (dp : DpErr) (hb : s.blk.at a = b) (hd : (b.path.deeps.find? fun y => y.num == rid) = some d) (hx : b.recovered d step = some x)
    (hp : b.lookup d.li = some p) (hopen : b.openLine d.li p x = some line) (hroom : ((d.listed0 || d.listed1) && b.freeBuf.isNone) = false) :
    exec (.deepRecoverySuccess a rid step dp) s = .next { s with
      blk := (let b1 := ((b.dropDeep d).bump 0x5810 0x04 1).deepJobs d.li fun j => { j with held := j.held.put d.li x }
          let b2 := (b1.unlistRecovered (2 * d.li) d.listed0).unlistRecovered (2 * d.li + 1) d.listed1
          let b3 := ((b.deepAccs d).foldl (fun b x => if d.rids.contains x.rid then b.lineData x.rid line dp else b) b2).applyFill d.li line
          (if d.listed0 || d.listed1 then ((b3.writeBack d.li line).bump 0x5810 0x06 1).report { code := 0x5802, dpa := some (dpaOfLine d.li) } else b3).drive) } := by
  rw [exec_deepRecoverySuccess]
  exact State.command_at hb (by simp only [hd, hx, hp, hopen, Option.bind_some, Option.map_some, hroom, Bool.false_eq_true, if_false])

/-- Settles O28 (the deadline is that of R48 and R49): each hypothesis chooses the branch of its command, and a recovery that ends has listed no half or has a holding buffer free. -/
theorem guardsResumeAndDeepRecovery : Obligations.GuardsResumeAndDeepRecovery := by
  refine ⟨fun a ch die part s b hb hsusp hq hprio hsent => ?_, fun a ch die part line content why ovw denim tries s b hb hop htotal hguard => ?_,
    fun a ch die part tile count t o rest s b hb hwait hres hage => ?_, fun a rid x d s b hb hx hd hpolicy hread hlate => ?_,
    fun a rid d s b hb hd hage => ?_, fun a rid step dp d x p line s b hb hd hx hp hopen hlist => ?_,
    fun a rid step dp d x p line s b hb hd hx hp hopen hlist hbuf => ?_⟩
  · rw [exec_programResume]
    exact State.command_at hb (by simp only [hsusp, hq, hprio, hsent, List.isEmpty_nil, Option.isNone_none, Bool.and_self, if_true])
  · rw [exec_programGuard]
    exact State.command_at hb (by simp only [hop, htotal, hguard, Bool.not_false, and_self, if_true])
  · rw [exec_resetGuard]
    exact State.command_at hb (by simp only [hwait, hres, hage, decide_true, Bool.and_self, if_true])
  · rw [exec_deadlineExpiry]
    exact State.command_at hb (by simp only [hx, hd, hpolicy, hread, hlate, and_self, if_true])
  · rw [exec_deepRecoveryTimeout]
    exact State.command_at hb (by simp only [hd, Nat.not_lt.2 hage, if_false])
  · rw [exec_deepRecoverySuccess_of_recovered dp hb hd hx hp hopen (by simp only [hlist, Bool.false_and])]
    simp only [hlist, Bool.false_eq_true, if_false]
  · rw [exec_deepRecoverySuccess_of_recovered dp hb hd hx hp hopen (by simp only [hbuf, Bool.and_false])]
    simp only [hlist, if_true]

end Sys2Proof.Machine
end

section
/-! SUPPORT. Cold writes, appends, programs and tile resets, command by command (R57 to R62, R148, R189 to R196, R434). -/

namespace Sys2Proof.Machine

open Sys2Proof.Safety

/-! ### The cold path and appends (R57 to R62, R90, R148) -/

theorem Blk.coldBuffer_of_open {b c : Blk} {n : Nat} {x : HBuf} {e : EgressErr} {p : Place} (hissued : x.issued = false)
    (hpath : b.pathFor x.li x.hotPath = .cold) (he : b.egress x.li x.data e = (c, true)) (hp : c.homeOf x.li = some p)
    (htol : c.pastTolerance p = false) (hopen : c.coldOpen x.li p = true) (hdoing : c.doing (.cold n) = false) :
    b.coldBuffer n x e = (c.startCold (.cold n) x.li []).countStall (c.stallsAppend x.li x.hotPath) := by
  simp [Blk.coldBuffer, hissued, hpath, he, hp, htol, hopen, hdoing]

theorem Blk.coldThrough_of_open {b c : Blk} {li k : Nat} {v : VWay} {e : EgressErr} {p : Place} (hres : b.resident li = some (k, v))
    (hp : b.homeOf li = some p) (hwait : b.throughWaiting li ≠ 0) (hruns : b.throughRuns li = false) (hwt : v.wt = true) (hwhole : v.whole = true)
    (hpath : b.pathFor li true = .cold) (he : b.egress li v.data e = (c, true)) (htol : c.pastTolerance p = false) (hopen : c.coldOpen li p = true) :
    b.coldThrough li e = (c.startCold (.through li) li []).countStall (c.stallsAppend li true) := by
  simp [Blk.coldThrough, hres, hp, hwait, hruns, hwt, hwhole, hpath, he, htol, hopen]

theorem Blk.hotWrite_of_qualifies {b : Blk} {n lane : Nat} {x : HBuf} {l : Lane} (hq : b.laneQualifies x.li l = true) (hc : b.laneChosen lane = false)
    (ht : b.tagRoom x.li = true) (hw : (b.hotWayFor x.li).isNone = false) (hg : b.lineGone (b.laneLoc l) = false) :
    b.hotWrite n x lane l =
      (((b.keepWay x.li).takePosition x.li x.data lane l).1.putBuf n { x with issued := true, again := false, hotPath := true }).program
        { loc := ((b.keepWay x.li).takePosition x.li x.data lane l).2.1, c := ((b.keepWay x.li).takePosition x.li x.data lane l).2.2,
          why := .append n l.slot l.stripeNo l.pos, ovw := false, denim := l.cls == .denim } := by
  simp only [Blk.hotWrite, hq, hc, ht, hw, hg, Bool.not_true, Bool.or_self, Bool.false_eq_true, if_false]

/-! ### The end of a program (R189, R192 to R194, R434) -/

section
variable {b c : Blk} {pid line : Nat} {content : MLine} {why : ProgFor} {ovw denim : Bool} {tries : Nat}
  (hop : (b.part pid).op = .program line content why ovw denim tries) (hbusy : b.dieBusy (pid / 32) (b.since (b.part pid).since) = c)
  (hdie : c.dieFailed (pid / 32) = false) (hopc : (c.part pid).op = .program line content why ovw denim tries)
include hop hbusy hdie hopc

theorem Blk.programEnds_stored (hd : denim = false) :
    b.programEnds pid true = ((c.storeLine (locOf pid line) content).onPart pid PartSt.ended).programStored why (c.part pid).since := by
  simp [Blk.programEnds, hop, hbusy, hdie, hopc, hd]

theorem Blk.programEnds_verify (hd : denim = true) :
    b.programEnds pid true =
      ((c.storeLine (locOf pid line) content).onPart pid fun p => { p with op := .verify line content why ovw tries false }).askVerify pid := by
  simp [Blk.programEnds, hop, hbusy, hdie, hopc, hd]

theorem Blk.programEnds_failed :
    b.programEnds pid false = ((c.onPart pid PartSt.ended).bump (0x3800 + pid / 32) 0x04 1).retireLocation pid line content why := by
  simp [Blk.programEnds, hop, hbusy, hdie, hopc]

end

/-- PROGRAM_COMPLETE of an operation that is not suspended. -/
theorem exec_programComplete_of_running {a : Stamp} {ch : Fin 32} {die : Fin 8} {part : Fin 32} {s : State} {b : Blk} (ok : Bool) (hb : s.blk.at a = b)
    (h : (b.part (partOf ch die part)).suspended = false) :
    exec (.programComplete a ch die part ok) s = .next { s with blk := (b.programEnds (partOf ch die part) ok).goOn (partOf ch die part / 32) } := by
  rw [exec_programComplete]
  exact State.command_at hb (by simp only [h, Bool.false_and, Bool.false_eq_true, if_false])

/-! ### Tile resets (R25, R38, R191) -/

/-- A partition's tile reset is over and its die's time is counted. -/
def Blk.resetOff (b : Blk) (pid : Nat) : Blk := (b.onPart pid fun p => { p with op := .idle }).dieBusy (pid / 32) (b.since (b.part pid).since)

/-- A failed tile reset is counted, reported and its tile noted (R191, R405). -/
def Blk.resetFailed (b : Blk) (pid tile : Nat) : Blk :=
  (((b.resetOff pid).bump (0x3800 + pid / 32) 0x05 1).reportUnit 0x3803 3 (pid / 32)).tileFailure (pid / 32) ((pid % 32) * 131072 + tile)

/-- How a tile reset ends, by its outcome and its owner. -/
theorem Blk.resetEnds_eq {b : Blk} {pid tile count : Nat} {owner : Option Nat} (ok : Bool) (hop : (b.part pid).op = .reset tile count owner) :
    b.resetEnds pid ok = match ok, owner with
      | true, none => (b.resetOff pid).blankTiles pid tile count
      | true, some k => ((b.resetOff pid).blankTiles pid tile count).resetOver k
      | false, none => b.resetFailed pid tile
      | false, some k => ((b.resetFailed pid tile).retireTile k).resetOver k := by
  cases ok <;> cases owner <;> simp only [Blk.resetEnds, hop, Blk.resetFailed, Blk.resetOff, Bool.false_eq_true, if_false, if_true]

/-- Settles O29: each hypothesis chooses the branch of its command, whose effect the lemmas above give by the operation that it calls. -/
theorem writesProgramsAndTileResets : Obligations.WritesProgramsAndTileResets := by
  refine ⟨fun a e n x c p s b hb hworks hx hissued hpath he hp htol hopen hdoing => ?_,
    fun a e li k v c p s b hb hworks hres hp hwait hruns hwt hwhole hpath he htol hopen => ?_,
    fun a n lane e x l c s b hb hx hl hissued hworks hpath he hq hc ht hw hg => ?_,
    fun a li lane e k v l c s b hb hchosen hres hl hwait hruns hwt hwhole hworks hpath hlane ht he => ?_,
    fun a ch die part ok line content why ovw denim tries c s b hb hsusp hop hbusy hdie hopc hok hd => ?_,
    fun a ch die part ok line content why ovw denim tries c s b hb hsusp hop hbusy hdie hopc hok hd => ?_,
    fun a ch die part ok line content why ovw denim tries c s b hb hsusp hop hbusy hdie hopc hok => ?_,
    fun a ch die part tile count t o rest s b hb hwait hmay => ?_, fun a ch die part ok tile count s b hb hop hok => ?_,
    fun a ch die part ok tile count k s b hb hop hok => ?_, fun a ch die part ok tile count s b hb hop hok => ?_,
    fun a ch die part ok tile count k s b hb hop hok => ?_⟩
  · rw [exec_coldPathWrite]
    exact State.command_at hb (by
      simp only [hworks, hx, Blk.coldBuffer_of_open hissued hpath he hp htol hopen hdoing, Bool.not_true, Bool.false_eq_true, if_false])
  · rw [exec_coldPathWrite]
    exact State.command_at hb (by
      simp only [hworks, Blk.coldThrough_of_open hres hp hwait hruns hwt hwhole hpath he htol hopen, Bool.not_true, Bool.false_eq_true, if_false])
  · rw [exec_hotAppend]
    exact State.command_at hb (by
      simp [hx, hl, hissued, hworks, hpath, he, Blk.hotWrite_of_qualifies hq hc ht hw hg])
  · rw [exec_writeThroughWrite]
    exact State.command_at hb (by
      simp [hchosen, hres, hl, hwait, hruns, hwt, hwhole, hworks, hpath, hlane, ht, he])
  · subst hok
    rw [exec_programComplete_of_running true hb hsusp, Blk.programEnds_stored hop hbusy hdie hopc hd]
  · subst hok
    rw [exec_programComplete_of_running true hb hsusp, Blk.programEnds_verify hop hbusy hdie hopc hd]
  · subst hok
    rw [exec_programComplete_of_running false hb hsusp, Blk.programEnds_failed hop hbusy hdie hopc]
  · rw [exec_tileResetStart]
    exact State.command_at hb (by simp only [hwait, hmay, if_true])
  all_goals
    subst hok
    rw [exec_tileResetComplete]
    exact State.command_at hb (by rw [Blk.resetEnds_eq _ hop]; rfl)

end Sys2Proof.Machine
end

section
/-! SUPPORT. Checkpoints, heat and demotion, wear and moves, and refresh, command by command (R52, R60, R63 to R73, R75, R78, R79, R82, R97, R141, R434). -/

namespace Sys2Proof.Machine

/-- A command that runs under one condition, where the condition holds. -/
theorem State.command_of_pos {s : State} {a : Stamp} {p : Blk → Prop} [DecidablePred p] {f g : Blk → Blk} {b : Blk} (hb : s.blk.at a = b) (hp : p b) :
    s.command a (fun x => if p x then f x else g x) = .next { s with blk := f b } :=
  State.command_at hb (if_pos hp)

/-- A command that is held back under one condition, where the condition does not hold. -/
theorem State.command_of_neg {s : State} {a : Stamp} {p : Blk → Prop} [DecidablePred p] {f g : Blk → Blk} {b : Blk} (hb : s.blk.at a = b) (hp : ¬p b) :
    s.command a (fun x => if p x then f x else g x) = .next { s with blk := g b } :=
  State.command_at hb (if_neg hp)

/-! ### Checkpoints, heat and demotion (R52, R63 to R66, R78, R79, R82, R141) -/

/-- CHECKPOINT_START at its trigger: a checkpoint that is being written makes the trigger wait (R79). -/
theorem exec_checkpointStart_of_trigger {a : Stamp} {trigger : CkptTrigger} {s : State} {b : Blk} (hb : s.blk.at a = b) (hworks : b.works = true)
    (htrigger : b.triggerMet trigger = true) :
    exec (.checkpointStart a trigger) s = .next { s with
      blk := if b.twill.writing.isSome then b.onTwill fun t => { t with trigger := true } else (b.beginCheckpoint (trigger == .full) false).drive } :=
  (exec_checkpointStart a trigger s).trans (State.command_of_neg hb (by simp only [hworks, htrigger, Bool.not_true, Bool.or_self, Bool.false_eq_true, not_false_eq_true]))

/-- Settles O44 (the lines that fail as operands are log 41): each hypothesis chooses the branch of its command. -/
theorem checkpointsHeatAndDemotion : Obligations.CheckpointsHeatAndDemotion := by
  refine ⟨fun a trigger s b hb hworks htrigger hnone => ?_, fun a trigger k s b hb hworks htrigger hk => ?_, fun a failed k s b hb hworks hk => ?_,
    fun a failed s b hb hworks => ?_, fun a s b hb hworks => ?_, fun a li d s b hb hd hstep hworks => ?_, fun a li t s b hb ht hlate => ?_,
    fun a cls s b hb hworks => ?_⟩
  · rw [exec_checkpointStart_of_trigger hb hworks htrigger]
    simp only [hnone, Option.isSome_none, Bool.false_eq_true, if_false]
  · rw [exec_checkpointStart_of_trigger hb hworks htrigger]
    simp only [hk, Option.isSome_some, if_true]
  · rw [exec_checkpointCommit]
    exact State.command_at hb (by simp only [hk, hworks, if_true])
  · rw [exec_journalRecordIssue]
    exact State.command_of_neg hb (by simp only [hworks, Bool.not_true, Bool.false_eq_true, not_false_eq_true])
  · rw [exec_hotEpochEnd]
    exact State.command_of_neg hb (by simp only [hworks, Bool.not_true, Bool.false_eq_true, not_false_eq_true])
  · rw [exec_demotionCommit]
    exact State.command_at hb (by simp only [hd, hstep, hworks, decide_true, Bool.and_self, if_true])
  · rw [exec_promotionWayTimeout]
    exact State.command_at hb (by simp only [ht, hlate, if_true])
  · rw [exec_garbageCollection]
    exact State.command_of_pos hb hworks

/-! ### Wear, moves and refresh (R60, R67 to R73, R75, R97) -/

/-- Settles O45: each hypothesis chooses the branch of its command. -/
theorem wearMovesAndRefresh : Obligations.WearMovesAndRefresh := by
  refine ⟨fun a slot n t s b hb htracked hfull => ?_, fun a slot n t s b hb htracked hold => ?_,
    fun a r x e n s b hb hx he hn hworks hjournal hpaused hread => ?_,
    fun a r e x s b hb he hworks hdue hmay hfree => ?_,
    fun a r m e s b hb hm he hworks hcopied hmoving hold hnew hjournal hpaused hreserved => ?_,
    fun a s b hb hworks hnine => ?_, fun a r sec rest e s b hb hq hworks he hrot hmig hpaused hleaving => ?_,
    fun a r sec rest s b hb hq hworks he hslot => ?_, fun a r r1 sec s b hb hq hpast hnew => ?_,
    fun a r s b hb hworks hresync hbefore hregion hnew hnext => ?_, fun a x rest s b hb hq hworks hfree => ?_⟩
  · rw [exec_wearIncrement]
    exact State.command_at hb (by simp only [htracked, hfull, if_true])
  · rw [exec_trackerFold]
    exact State.command_at hb (by simp only [htracked, hold, if_true])
  · rw [exec_rotationPassEnd]
    exact State.command_at hb (by simp only [hx, he, hn, hworks, hjournal, hpaused, hread, Bool.not_true, Bool.or_self, Bool.false_eq_true, if_false])
  · rw [exec_migrationStart]
    exact State.command_at hb (by simp only [he, hworks, hdue, hmay, hfree, Bool.and_self, if_true])
  · rw [exec_migrationEnd]
    exact State.command_at hb (by
      simp only [hm, he, hworks, Nat.not_lt.2 hcopied, hmoving, hold, hnew, hjournal, hpaused, hreserved, Bool.not_true, decide_false, Bool.or_self,
        Bool.false_eq_true, if_false])
  · rw [exec_coldSwapCheck]
    exact State.command_of_pos hb (by simp only [hworks, hnine, Bool.not_false, Bool.and_self])
  · rw [exec_refreshRegion]
    exact State.command_at hb (by simp only [hq, hworks, he, hrot, hmig, hpaused, hleaving, Bool.not_true, Bool.or_self, Bool.false_eq_true, if_false])
  · rw [exec_refreshRegion]
    exact State.command_at hb (by simp only [hq, hworks, he, hslot, Bool.not_true, Bool.false_eq_true, if_false, if_true])
  · rw [exec_refreshBacklog]
    exact State.command_at hb (by simp only [hq, hpast, hnew, Bool.not_false, and_self, if_true])
  · have hturn : (b.resyncNext.isEmpty || b.resyncNext.contains r) = true := by
      rw [Bool.or_eq_true, List.isEmpty_iff, List.contains_iff_mem]
      exact hnext
    rw [exec_resync]
    exact State.command_of_pos hb (by simp only [hworks, hresync, hbefore, hregion, hnew, hturn, Bool.not_false, Bool.and_self])
  · rw [exec_weakLineRewrite]
    exact State.command_at hb (by simp only [hq, hworks, hfree, Bool.not_true, Bool.or_self, Bool.false_eq_true, if_false])

end Sys2Proof.Machine
end

section
/-! SUPPORT. Boot, binding, Memory Active, sleep and wake, command by command (R83 to R85, R254, R314, R316 to R319, R374). -/

namespace Sys2Proof.Machine

/-- BOOT at its step with the clocks judged: whether a spare stands for every bad bank decides whether the boot goes on (R94, R315), and the images in Felt decide how (R314). -/
theorem exec_boot_at_step {a : Stamp} {badBanks : List (Fin 66)} {bad : List Nat} {s : State} {b : Blk} (felt : FeltObs) (hb : s.blk.at a = b)
    (hmode : b.eff = 2) (hstep : b.modes.step = 2) (hjudged : b.clocks.judged = true) (hbad : badBanks.foldl (fun l k => insUniq k.val l) [] = bad) :
    exec (.boot a badBanks felt) s = .next { s with
      blk := if ([64, 65].filter fun k => !bad.contains k).length < (bad.filter fun k => decide (k < 64)).length then b.fillFails bad
        else match (b.loadFelt felt).fwLoad with
          | some c => c.bringUp bad
          | none => ((b.loadFelt felt).fwRefused 0).fwRefused 1 } := by
  subst hbad
  rw [exec_boot]
  exact State.command_of_neg hb (by simp [hmode, hstep, hjudged])

/-- BINDING_CHECK at its step answers by the record and the media that it finds (R254). -/
theorem exec_bindingCheck_at_step {a : Stamp} {obs : BindObs} {e : Blk} {s : State} {b : Blk} (hb : s.blk.at a = b) (hmode : b.eff = 2)
    (hstep : b.modes.step = 6) (he : ((b.readIds obs.dieIds).setConditions fun _ => 8) = e) :
    exec (.bindingCheck a obs) s = .next { s with
      blk := match obs.record with
        | some r => if e.checkMatches r then (e.onDamask fun d => { d with binding := some r }).ownMedia obs.dieIds else e.heldMedia 2 (some r)
        | none => if !obs.mediaBlank then e.heldMedia 2 none else if e.damask.mkey.isSome then e.heldMedia 0 none else e.firstProvision } := by
  subst he
  rw [exec_bindingCheck]
  exact State.command_of_neg hb (by simp [hmode, hstep])

/-- Settles O59 (the idle time that a sleep's arrival stands for is log 46, the refusal of both images log 61): each hypothesis chooses the branch of its command. -/
theorem bootAndSleep : Obligations.BootAndSleep := by
  refine ⟨fun a badBanks felt bad c s b hb hmode hstep hjudged hbad hspares hload => ?_,
    fun a badBanks felt bad s b hb hmode hstep hjudged hbad hspares hload => ?_, fun a badBanks felt bad s b hb hmode hstep hjudged hbad hfew => ?_,
    fun a obs e r s b hb hmode hstep he hrec hmatch => ?_, fun a obs e s b hb hmode hstep he hrec hblank hkey => ?_,
    fun a obs e r s b hb hmode hstep he hrec hmatch => ?_, fun a obs e s b hb hmode hstep he hrec hblank => ?_,
    fun a obs e s b hb hmode hstep he hrec hblank hkey => ?_, fun a timeUs s b hb hmode hstep => ?_, fun a s b hb hloaded hreported => ?_,
    fun a s b hb hloaded hreported hlate => ?_, fun a s b hb hmode hstop hidle hcfg => ?_, fun a s b hb hmode hstop hidle hcfg => ?_,
    fun a s b hb hmode hclocks => ?_⟩
  · rw [exec_boot_at_step felt hb hmode hstep hjudged hbad, if_neg (Nat.not_lt.2 hspares), hload]
  · rw [exec_boot_at_step felt hb hmode hstep hjudged hbad, if_neg (Nat.not_lt.2 hspares), hload]
  · rw [exec_boot_at_step felt hb hmode hstep hjudged hbad, if_pos hfew]
  · rw [exec_bindingCheck_at_step hb hmode hstep he, hrec]
    simp only [hmatch, if_true]
  · rw [exec_bindingCheck_at_step hb hmode hstep he, hrec]
    simp only [hblank, hkey, Bool.not_true, Option.isSome_none, Bool.false_eq_true, if_false]
  · rw [exec_bindingCheck_at_step hb hmode hstep he, hrec]
    simp only [hmatch, Bool.false_eq_true, if_false]
  · rw [exec_bindingCheck_at_step hb hmode hstep he, hrec]
    simp only [hblank, Bool.not_false, if_true]
  · rw [exec_bindingCheck_at_step hb hmode hstep he, hrec]
    simp only [hblank, hkey, Bool.not_true, Bool.false_eq_true, if_false, if_true]
  · rw [exec_mapRebuild]
    exact State.command_of_neg hb (by simp [hmode, hstep])
  · rw [exec_memoryActive]
    exact State.command_of_pos hb (by simp only [hloaded, hreported, Bool.and_self])
  · rw [exec_holdupReportTimeout]
    exact State.command_of_pos hb (by simp only [hloaded, hreported, hlate, Bool.not_false, decide_true, Bool.and_self])
  · rw [exec_lightSleepEntry]
    exact State.command_of_pos hb (by simp [hmode, hstop, hidle, hcfg])
  · rw [exec_deepSleepEntry]
    exact State.command_of_pos hb (by simp [hmode, hstop, hidle, hcfg])
  · rw [exec_idleEnd]
    exact State.command_of_pos hb (by simp [hmode, hclocks])

end Sys2Proof.Machine
end

section
/-! SUPPORT. The mailbox commands that set and those of poison and media scan, the erases, and the scrubs, command by command; the statements of the family 04_data_protection (R91 to R93, R102 to R113, R221, R226 to R229, R259, R325, R399). -/

namespace Sys2Proof.Machine

/-! ### Mailbox commands (R104, R219, R221, R226 to R229, R325) -/

theorem Blk.mbox_of_open {b : Blk} {h : Head} (f : Blk → Blk) (hopen : b.mailboxOpen h = true) : b.mbox h f = f b := if_pos hopen

/-- A command at an open mailbox, from the block at its stamp and what its effect makes of it. -/
theorem State.command_mbox_at {s : State} {a : Stamp} {h : Head} {f : Blk → Blk} {b c : Blk} (hb : s.blk.at a = b) (hopen : b.mailboxOpen h = true)
    (hf : f b = c) : (s.command a fun x => x.mbox h f) = .next { s with blk := c } :=
  State.command_at hb ((Blk.mbox_of_open f hopen).trans hf)

/-- Settles O33 (the payloads are log 31, the scan's estimate log 4): with the mailbox open, each hypothesis chooses the branch of its command. -/
theorem mailboxSettingsPoisonAndScan : Obligations.MailboxSettingsPoisonAndScan := by
  refine ⟨fun a h log handles s b hb hopen hheld => ?_, fun a h policy s b hb hopen hentries => ?_, fun a h img s b hb hopen hother hnvwp => ?_,
    fun a h slot img s b hb hopen himg => ?_, fun a h v s b hb hopen => ?_, fun a h cfg s b hb hopen => ?_, fun a h v s b hb hopen => ?_,
    fun a h dpa len s b hb hopen hpos => ?_, fun a h dpa e s b hb hopen henabled hentry => ?_,
    fun a h dpa data s b hb hopen hactive hcap hwin hstop htakes => ?_, fun a h dpa len s b hb hopen => ?_, fun a h dpa len s b hb hopen hbg => ?_,
    fun a h s b hb hopen => ?_⟩
  · rw [exec_clearEventRecords]
    exact State.command_mbox_at hb hopen (by simp only [hheld, Bool.false_eq_true, if_false, if_true])
  · rw [exec_setEventInterruptPolicy]
    exact State.command_mbox_at hb hopen (if_pos hentries)
  · rw [exec_transferFw]
    exact State.command_mbox_at hb hopen (by simp only [hother, hnvwp, Bool.not_true, Bool.false_eq_true, if_false])
  · rw [exec_activateFw]
    exact State.command_mbox_at hb hopen (by simp only [himg, Option.isNone_some, Bool.or_self, Bool.false_eq_true, if_false])
  · rw [exec_setTimestamp]
    exact State.command_mbox_at hb hopen rfl
  · rw [exec_setAlertConfiguration]
    exact State.command_mbox_at hb hopen rfl
  · rw [exec_setShutdownState]
    exact State.command_mbox_at hb hopen rfl
  · rw [exec_getPoisonList]
    exact State.command_mbox_at hb hopen (by simp only [hpos])
  · rw [exec_injectPoison]
    exact State.command_mbox_at hb hopen (by simp only [henabled, hentry, Option.isNone_some, Bool.false_eq_true, if_false])
  · rw [exec_clearPoison]
    exact State.command_mbox_at hb hopen (by
      simp only [hactive, hcap, hwin, hstop, htakes, Bool.not_true, Bool.or_self, Bool.false_eq_true, if_false, if_true])
  · rw [exec_getScanMediaCapabilities]
    exact State.command_mbox_at hb hopen rfl
  · rw [exec_scanMedia]
    exact State.command_mbox_at hb hopen (if_neg (Bool.eq_false_iff.1 hbg))
  · rw [exec_getScanMediaResults]
    exact State.command_mbox_at hb hopen rfl

/-! ### Erases (R112, R220, R221, R259) -/

/-- An erase that is accepted: the caches are discarded and the keys replaced, and it runs as a background operation. -/
def Blk.eraseStarted (b : Blk) (h : Head) (op : Nat) (sanitize : Bool) : Blk :=
  let b1 := (b.discardCaches.newKeys).odSet 0x6830 0x02 0
  ((b1.onDamask fun d => { d with erase := some { sanitize := sanitize, step := 3 } }).onDev fun d => { d with bg := some (op, h, false) }).mbReply h op .backgroundStarted []

theorem Blk.startErase_of_idle {b : Blk} {sanitize : Bool} (h : Head) (op : Nat) (hbg : b.bgRuns = false) (hregions : b.noRegionStands = true)
    (hscan : (sanitize && b.media.scan.isSome) = false) : b.startErase h op sanitize = b.eraseStarted h op sanitize := by
  simp only [Blk.startErase, hscan, hbg, hregions, Bool.false_and, Bool.not_true, Bool.or_self, Bool.false_eq_true, if_false, Blk.eraseStarted]

/-- A Sanitize ends a media scan that runs and takes its place (R112). -/
theorem Blk.startErase_of_scan {b : Blk} (h : Head) (op : Nat) (hregions : b.noRegionStands = true) (hscan : b.media.scan.isSome = true)
    (hdropped : b.dropScan.noRegionStands = true) : b.startErase h op true = b.dropScan.eraseStarted h op true := by
  simp only [Blk.startErase, hscan, hregions, hdropped, Bool.and_self, Bool.not_true, Bool.and_false, Bool.or_self, Bool.false_eq_true, if_true, if_false,
    Blk.eraseStarted]

theorem Blk.startErase_of_region {b : Blk} (h : Head) (op : Nat) (sanitize : Bool) (hregions : b.noRegionStands = false) :
    b.startErase h op sanitize = b.mbReply h op .busy [] := by
  simp only [Blk.startErase, hregions, Bool.and_false, Bool.false_eq_true, if_false, Bool.not_false, Bool.or_true, if_true]

theorem exec_sanitize_of_open {a : Stamp} {h : Head} {s : State} {b : Blk} (hb : s.blk.at a = b) (hopen : b.mailboxOpen h = true) :
    exec (.sanitize a h) s = .next { s with blk := b.startErase h 0x4400 true } :=
  (exec_sanitize a h s).trans (State.command_mbox_at hb hopen rfl)

theorem exec_secureErase_of_open {a : Stamp} {h : Head} {s : State} {b : Blk} (hb : s.blk.at a = b) (hopen : b.mailboxOpen h = true) :
    exec (.secureErase a h) s = .next { s with blk := b.startErase h 0x4401 false } :=
  (exec_secureErase a h s).trans (State.command_mbox_at hb hopen rfl)

/-! ### Scrubs (R91, R110, R111) -/

/-- The scrub reads the word at its cursor while its lap is behind its pace, and the lap goes on or ends with its last word (R110). -/
theorem Blk.scrubWord_at_cursor {b : Blk} {k word : Nat} (e : SramErr) (hcursor : b.media.lapS.lines = k * 262144 + word)
    (hbehind : b.media.lapS.behind b.opTime 20000 = true) (hbank : (b.bank k).state ≠ 2) :
    b.scrubWord k word e = (let b1 := b.sramRead k word e .scrub
      (b1.onMedia fun m => { m with lapS := if sramWords ≤ b.media.lapS.lines + 1 then b.media.lapS.ended b.opTime 60000 sramWords else { b.media.lapS with lines := b.media.lapS.lines + 1 } }).healthCheck) := by
  simp only [Blk.scrubWord, hcursor, hbehind, hbank, ne_eq, not_true_eq_false, decide_false, Bool.not_true, Bool.or_self, Bool.false_eq_true, if_false]

/-- Settles O51 (a new k at a Secure Erase too is log 90, SRAM_SCRUB as every access of a word log 68): an erase's start and the word at the scrub's cursor by the lemmas above, the others by their conditions. -/
theorem erasesAndScrub : Obligations.ErasesAndScrub := by
  refine ⟨fun a h s b hb hopen hbg hregions hscan => ?_, fun a h s b hb hopen hregions hscan hdropped => ?_, fun a h s b hb hopen hbg hregions => ?_,
    fun a h s b hb hopen hregions => ?_, fun a h s b hb hopen hregions => ?_, fun a e s b hb herase hmgmt hstep => ?_, fun a cls s b hb hworks => ?_,
    fun a bank word how e s b hb hmgmt hhow hcursor hbehind hbank => ?_, fun a bank word how e s b hb hmgmt hhow hbank => ?_,
    fun a lap s b hb hworks hlap => ?_, fun a lap s b hb hworks hlap => ?_, fun a lap s b hb hworks hlap => ?_⟩
  · rw [exec_sanitize_of_open hb hopen, Blk.startErase_of_idle h 0x4400 hbg hregions (by simp only [hscan, Option.isSome_none, Bool.and_false])]
    rfl
  · rw [exec_sanitize_of_open hb hopen, Blk.startErase_of_scan h 0x4400 hregions hscan hdropped]
    rfl
  · rw [exec_secureErase_of_open hb hopen, Blk.startErase_of_idle h 0x4401 hbg hregions (Bool.false_and _)]
    rfl
  · rw [exec_sanitize_of_open hb hopen, Blk.startErase_of_region h 0x4400 true hregions]
  · rw [exec_secureErase_of_open hb hopen, Blk.startErase_of_region h 0x4401 false hregions]
  · rw [exec_eraseComplete]
    exact State.command_at hb (by simp only [herase, hmgmt, Nat.not_lt.2 hstep, Bool.not_true, decide_false, Bool.or_self, Bool.false_eq_true, if_false])
  · rw [exec_terryStripeRead]
    exact State.command_of_pos hb hworks
  · subst hhow
    rw [exec_sramScrub]
    exact State.command_at hb (by
      simp only [hmgmt, Bool.not_true, Bool.false_eq_true, if_false, Blk.scrubWord_at_cursor e.outcome hcursor hbehind hbank])
  · rw [exec_sramScrub]
    refine State.command_at hb ?_
    cases how with
    | scrub => exact absurd rfl hhow
    | _ => simp only [hmgmt, hbank, Bool.not_true, Bool.false_eq_true, if_false]
  all_goals
    rw [exec_scrubStarved]
    exact State.command_at hb (by simp only [hworks, hlap, Bool.not_true, Bool.false_eq_true, if_false])

end Sys2Proof.Machine
end

section
/-! SUPPORT. Gauze's cells, offers, trend fits, margin evaluations and snapshots, command by command; the statement of the family 05_gauze_calibration (R120, R122 to R125, R127 to R130, R434). -/

namespace Sys2Proof.Machine

/-- CELL_STALE of a cell in use that outlasts its interval: what stands in Gauze of the last event of its die decides whether the die is reported again (R124). -/
theorem exec_cellStale_of_outlasted {a : Stamp} {d : Fin 256} {k : Fin 16} {n : Fin 4} {j : Fin 3} {s : State} {b c : Blk} (hb : s.blk.at a = b)
    (huse : b.cellInUse d k n = true) (hfresh : (b.cell d k n j).state ≠ 2) (hpast : (b.cell d k n j).last + staleInterval k < b.opSec)
    (hc : b.putCell d k n j { b.cell d k n j with state := 2 } = c) :
    exec (.cellStale a d k n j) s = .next { s with
      blk := if (b.gauze.staleAt.find d).all fun t => decide (t + 86400 ≤ b.opSec) then
          (c.onGauze fun g => { g with staleAt := g.staleAt.put d b.opSec }).reportUnit 0x5001 3 d
        else c } := by
  subst hc
  rw [exec_cellStale]
  refine (State.command_of_pos hb ⟨huse, hfresh, hpast⟩).trans ?_
  cases b.gauze.staleAt.find d <;> rfl

/-- Settles O52 (the lines that fail as an operand of GAUZE_SNAPSHOT are log 41, the temperature sample at a trend fit log 92): a stale cell by the lemma above, the others by their conditions. -/
theorem gauzeEvaluations : Obligations.GauzeEvaluations := by
  refine ⟨fun a d k n j s b hb hreads hfrozen => ?_, fun a d k n j s b hb huse hfresh hpast hnone => ?_, fun a d k n j s b hb huse hage hprobes => ?_,
    fun a area s b hb hweak => ?_, fun a d k n j t s b hb huse hfresh hpast ht hday => ?_, fun a d s b hb hdie => ?_, fun a area s b hb hworks harea => ?_,
    fun a failed s b hb hworks => ?_⟩
  · rw [exec_cellEvaluation]
    exact State.command_of_pos hb ⟨hreads, by simp only [hfrozen, Bool.not_false]⟩
  · rw [exec_cellStale_of_outlasted hb huse hfresh hpast rfl, hnone]
    rfl
  · rw [exec_probeBatch]
    exact State.command_of_pos hb (by simp only [huse, hage, hprobes, decide_true, Bool.not_false, Bool.and_self])
  · rw [exec_weakRegionOffer]
    exact State.command_of_pos hb hweak
  · have hearly : ¬ t + 86400 ≤ b.opSec := Nat.not_le.2 hday
    rw [exec_cellStale_of_outlasted hb huse hfresh hpast rfl, ht]
    simp only [Option.all_some, hearly, decide_false, Bool.false_eq_true, if_false]
  · rw [exec_trendFit]
    exact State.command_of_pos hb hdie
  · rw [exec_marginEvaluation]
    exact State.command_at hb (by simp only [hworks, harea, Bool.not_true, Bool.false_eq_true, if_false])
  · rw [exec_gauzeSnapshot]
    exact State.command_of_pos hb hworks

end Sys2Proof.Machine
end

section
/-! SUPPORT. Every queue stays within its places, whatever the command, and the invariants hold at reset; the statements of the family 06_velvet_cache (R152, R211, R226, R288, R339, R366, R367). -/

namespace Sys2Proof.Machine

open Sys2Proof.Safety

/-- A command whose frame leaves out the heads, Linen, CAN FD and Felt keeps their queues with them; the others keep each queue in its places operation by operation. -/
theorem exec_keeps_queues (c : Instr) (s t : State) (h₀ : QueuesFit (s.blk.at (stampOf c))) (h : exec c s = .next t) : QueuesFit t.blk := by
  cases c with
  | memRd => exact execMemRd_bnd (h₀ := h₀) (h := h)
  | memRdData => exact execMemRdData_bnd (h₀ := h₀) (h := h)
  | memWr => exact execMemWr_bnd (h₀ := h₀) (h := h)
  | memWrPtl => exact execMemWrPtl_bnd (h₀ := h₀) (h := h)
  | unsupportedRequest => exact execUnsupportedRequest_bnd (h₀ := h₀) (h := h)
  | acceptance => exact execAcceptance_bnd (h₀ := h₀) (h := h)
  | readIssue => exact execReadIssue_bnd (h₀ := h₀) (h := h)
  | readTransfer => exact execReadTransfer_bnd (h₀ := h₀) (h := h)
  | reconstructionComplete => exact execReconstructionComplete_bnd (h₀ := h₀) (h := h)
  | fillReturn => exact execFillReturn_bnd (h₀ := h₀) (h := h)
  | deadlineExpiry => exact execDeadlineExpiry_bnd (h₀ := h₀) (h := h)
  | deepRecoveryTimeout => exact execDeepRecoveryTimeout_bnd (h₀ := h₀) (h := h)
  | deepRecoverySuccess => exact execDeepRecoverySuccess_bnd (h₀ := h₀) (h := h)
  | programGuard => exact execProgramGuard_bnd (h₀ := h₀) (h := h)
  | coldPathWrite => exact execColdPathWrite_bnd (h₀ := h₀) (h := h)
  | hotAppend => exact execHotAppend_bnd (h₀ := h₀) (h := h)
  | programComplete => exact execProgramComplete_bnd (h₀ := h₀) (h := h)
  | tileResetComplete => exact execTileResetComplete_bnd (h₀ := h₀) (h := h)
  | writeThroughWrite => exact execWriteThroughWrite_bnd (h₀ := h₀) (h := h)
  | rangeClean => exact execRangeClean_bnd (h₀ := h₀) (h := h)
  | rangeInvalidate => exact execRangeInvalidate_bnd (h₀ := h₀) (h := h)
  | rangeCleanAndInvalidate => exact execRangeCleanAndInvalidate_bnd (h₀ := h₀) (h := h)
  | rangeOperationEnd => exact execRangeOperationEnd_bnd (h₀ := h₀) (h := h)
  | lineCleanByAddress => exact execLineCleanByAddress_bnd (h₀ := h₀) (h := h)
  | lineInvalidateByAddress => exact execLineInvalidateByAddress_bnd (h₀ := h₀) (h := h)
  | lineCleanInvalidateByAddress => exact execLineCleanInvalidateByAddress_bnd (h₀ := h₀) (h := h)
  | lineCleanBySetAndWay => exact execLineCleanBySetAndWay_bnd (h₀ := h₀) (h := h)
  | lineInvalidateBySetAndWay => exact execLineInvalidateBySetAndWay_bnd (h₀ := h₀) (h := h)
  | lineCleanInvalidateBySetAndWay => exact execLineCleanInvalidateBySetAndWay_bnd (h₀ := h₀) (h := h)
  | hint => exact execHint_bnd (h₀ := h₀) (h := h)
  | hintCancel => exact execHintCancel_bnd (h₀ := h₀) (h := h)
  | prefetchRead => exact execPrefetchRead_bnd (h₀ := h₀) (h := h)
  | startBarrier => exact execStartBarrier_bnd (h₀ := h₀) (h := h)
  | barrierCompletion => exact execBarrierCompletion_bnd (h₀ := h₀) (h := h)
  | gpfPhase2 => exact execGpfPhase2_bnd (h₀ := h₀) (h := h)
  | gpfPhase2Complete => exact execGpfPhase2Complete_bnd (h₀ := h₀) (h := h)
  | clearEventRecords => exact execClearEventRecords_bnd (h₀ := h₀) (h := h)
  | setEventInterruptPolicy => exact execSetEventInterruptPolicy_bnd (h₀ := h₀) (h := h)
  | transferFw => exact execTransferFw_bnd (h₀ := h₀) (h := h)
  | activateFw => exact execActivateFw_bnd (h₀ := h₀) (h := h)
  | setShutdownState => exact execSetShutdownState_bnd (h₀ := h₀) (h := h)
  | sanitize => exact execSanitize_bnd (h₀ := h₀) (h := h)
  | secureErase => exact execSecureErase_bnd (h₀ := h₀) (h := h)
  | eraseComplete => exact execEraseComplete_bnd (h₀ := h₀) (h := h)
  | addDynamicCapacityResponse => exact execAddDynamicCapacityResponse_bnd (h₀ := h₀) (h := h)
  | releaseDynamicCapacity => exact execReleaseDynamicCapacity_bnd (h₀ := h₀) (h := h)
  | getPoisonList => exact execGetPoisonList_bnd (h₀ := h₀) (h := h)
  | injectPoison => exact execInjectPoison_bnd (h₀ := h₀) (h := h)
  | clearPoison => exact execClearPoison_bnd (h₀ := h₀) (h := h)
  | read => exact execRead_bnd (h₀ := h₀) (h := h)
  | write => exact execWrite_bnd (h₀ := h₀) (h := h)
  | stage => exact execStage_bnd (h₀ := h₀) (h := h)
  | commit => exact execCommit_bnd (h₀ := h₀) (h := h)
  | abort => exact execAbort_bnd (h₀ := h₀) (h := h)
  | status => exact execStatus_bnd (h₀ := h₀) (h := h)
  | commitCheckEnd => exact execCommitCheckEnd_bnd (h₀ := h₀) (h := h)
  | applyInstant => exact execApplyInstant_bnd (h₀ := h₀) (h := h)
  | applyFault => exact execApplyFault_bnd (h₀ := h₀) (h := h)
  | stagingTimeout => exact execStagingTimeout_bnd (h₀ := h₀) (h := h)
  | parameterPersist => exact execParameterPersist_bnd (h₀ := h₀) (h := h)
  | openRead => exact execOpenRead_bnd (h₀ := h₀) (h := h)
  | openWrite => exact execOpenWrite_bnd (h₀ := h₀) (h := h)
  | data => exact execData_bnd (h₀ := h₀) (h := h)
  | close => exact execClose_bnd (h₀ := h₀) (h := h)
  | bulkAbort => exact execBulkAbort_bnd (h₀ := h₀) (h := h)
  | bulkTransferTimeout => exact execBulkTransferTimeout_bnd (h₀ := h₀) (h := h)
  | bulkOpenRead => exact execBulkOpenRead_bnd (h₀ := h₀) (h := h)
  | bulkOpenWrite => exact execBulkOpenWrite_bnd (h₀ := h₀) (h := h)
  | segment => exact execSegment_bnd (h₀ := h₀) (h := h)
  | segmentAcknowledge => exact execSegmentAcknowledge_bnd (h₀ := h₀) (h := h)
  | bulkClose => exact execBulkClose_bnd (h₀ := h₀) (h := h)
  | canBulkAbort => exact execCanBulkAbort_bnd (h₀ := h₀) (h := h)
  | canTransferTimeout => exact execCanTransferTimeout_bnd (h₀ := h₀) (h := h)
  | busOffRecovery => exact execBusOffRecovery_bnd (h₀ := h₀) (h := h)
  | challengeRead => exact execChallengeRead_bnd (h₀ := h₀) (h := h)
  | response => exact execResponse_bnd (h₀ := h₀) (h := h)
  | closeMaintenance => exact execCloseMaintenance_bnd (h₀ := h₀) (h := h)
  | maintenanceKey => exact execMaintenanceKey_bnd (h₀ := h₀) (h := h)
  | frameMacKey => exact execFrameMacKey_bnd (h₀ := h₀) (h := h)
  | stageDefaults => exact execStageDefaults_bnd (h₀ := h₀) (h := h)
  | add => exact execAdd_bnd (h₀ := h₀) (h := h)
  | releaseRequest => exact execReleaseRequest_bnd (h₀ := h₀) (h := h)
  | forcedRelease => exact execForcedRelease_bnd (h₀ := h₀) (h := h)
  | addResponseTimeout => exact execAddResponseTimeout_bnd (h₀ := h₀) (h := h)
  | regionTeardown => exact execRegionTeardown_bnd (h₀ := h₀) (h := h)
  | histogramClear => exact execHistogramClear_bnd (h₀ := h₀) (h := h)
  | calibrationImport => exact execCalibrationImport_bnd (h₀ := h₀) (h := h)
  | keyEncryptionKey => exact execKeyEncryptionKey_bnd (h₀ := h₀) (h := h)
  | escrowExport => exact execEscrowExport_bnd (h₀ := h₀) (h := h)
  | escrowImport => exact execEscrowImport_bnd (h₀ := h₀) (h := h)
  | unlockRegion => exact execUnlockRegion_bnd (h₀ := h₀) (h := h)
  | resetRegionCount => exact execResetRegionCount_bnd (h₀ := h₀) (h := h)
  | retireDie => exact execRetireDie_bnd (h₀ := h₀) (h := h)
  | retireChannel => exact execRetireChannel_bnd (h₀ := h₀) (h := h)
  | retrainRequest => exact execRetrainRequest_bnd (h₀ := h₀) (h := h)
  | powerDownToStandby => exact execPowerDownToStandby_bnd (h₀ := h₀) (h := h)
  | startHealthTest => exact execStartHealthTest_bnd (h₀ := h₀) (h := h)
  | clearCounters => exact execClearCounters_bnd (h₀ := h₀) (h := h)
  | idataRead => exact execIdataRead_bnd (h₀ := h₀) (h := h)
  | idataWrite => exact execIdataWrite_bnd (h₀ := h₀) (h := h)
  | indirectAcknowledge => exact execIndirectAcknowledge_bnd (h₀ := h₀) (h := h)
  | indirectTimeout => exact execIndirectTimeout_bnd (h₀ := h₀) (h := h)
  | registerWrite => exact execRegisterWrite_bnd (h₀ := h₀) (h := h)
  | gval => exact execGval_bnd (h₀ := h₀) (h := h)
  | gcmp => exact execGcmp_bnd (h₀ := h₀) (h := h)
  | keyZeroize => exact execKeyZeroize_bnd (h₀ := h₀) (h := h)
  | feltFormat => exact execFeltFormat_bnd (h₀ := h₀) (h := h)
  | safeStopRelease => exact execSafeStopRelease_bnd (h₀ := h₀) (h := h)
  | forcedPowerCutInput => exact execForcedPowerCutInput_bnd (h₀ := h₀) (h := h)
  | forcedPowerCutRail => exact execForcedPowerCutRail_bnd (h₀ := h₀) (h := h)
  | forcedClockSwitchIrc => exact execForcedClockSwitchIrc_bnd (h₀ := h₀) (h := h)
  | voteCorrection => exact execVoteCorrection_bnd (h₀ := h₀) (h := h)
  | voteThreeWayDisagreement => exact execVoteThreeWayDisagreement_bnd (h₀ := h₀) (h := h)
  | parityMismatch => exact execParityMismatch_bnd (h₀ := h₀) (h := h)
  | consume => exact execConsume_bnd (h₀ := h₀) (h := h)
  | drop => exact execDrop_bnd (h₀ := h₀) (h := h)
  | telemetryWindowAccess => exact execTelemetryWindowAccess_bnd (h₀ := h₀) (h := h)
  | telemetryDump => exact execTelemetryDump_bnd (h₀ := h₀) (h := h)
  | queueBankSwap => exact execQueueBankSwap_bnd (h₀ := h₀) (h := h)
  | linenReport => exact execLinenReport_bnd (h₀ := h₀) (h := h)
  | stormWindowClose => exact execStormWindowClose_bnd (h₀ := h₀) (h := h)
  | tokenGain => exact execTokenGain_bnd (h₀ := h₀) (h := h)
  | ringWrite => exact execRingWrite_bnd (h₀ := h₀) (h := h)
  | counterRecordWrite => exact execCounterRecordWrite_bnd (h₀ := h₀) (h := h)
  | operatingTimeTick => exact execOperatingTimeTick_bnd (h₀ := h₀) (h := h)
  | hotEpochEnd => exact execHotEpochEnd_bnd (h₀ := h₀) (h := h)
  | demotionCommit => exact execDemotionCommit_bnd (h₀ := h₀) (h := h)
  | journalRecordIssue => exact execJournalRecordIssue_bnd (h₀ := h₀) (h := h)
  | garbageCollection => exact execGarbageCollection_bnd (h₀ := h₀) (h := h)
  | wearIncrement => exact execWearIncrement_bnd (h₀ := h₀) (h := h)
  | trackerFold => exact execTrackerFold_bnd (h₀ := h₀) (h := h)
  | rotationPassEnd => exact execRotationPassEnd_bnd (h₀ := h₀) (h := h)
  | migrationStart => exact execMigrationStart_bnd (h₀ := h₀) (h := h)
  | migrationEnd => exact execMigrationEnd_bnd (h₀ := h₀) (h := h)
  | coldSwapCheck => exact execColdSwapCheck_bnd (h₀ := h₀) (h := h)
  | refreshRegion => exact execRefreshRegion_bnd (h₀ := h₀) (h := h)
  | refreshBacklog => exact execRefreshBacklog_bnd (h₀ := h₀) (h := h)
  | checkpointStart => exact execCheckpointStart_bnd (h₀ := h₀) (h := h)
  | checkpointCommit => exact execCheckpointCommit_bnd (h₀ := h₀) (h := h)
  | resync => exact execResync_bnd (h₀ := h₀) (h := h)
  | weakLineRewrite => exact execWeakLineRewrite_bnd (h₀ := h₀) (h := h)
  | terryStripeRead => exact execTerryStripeRead_bnd (h₀ := h₀) (h := h)
  | sramScrub => exact execSramScrub_bnd (h₀ := h₀) (h := h)
  | scrubStarved => exact execScrubStarved_bnd (h₀ := h₀) (h := h)
  | cellStale => exact execCellStale_bnd (h₀ := h₀) (h := h)
  | marginEvaluation => exact execMarginEvaluation_bnd (h₀ := h₀) (h := h)
  | gauzeSnapshot => exact execGauzeSnapshot_bnd (h₀ := h₀) (h := h)
  | tagWriteback => exact execTagWriteback_bnd (h₀ := h₀) (h := h)
  | rekeyPass => exact execRekeyPass_bnd (h₀ := h₀) (h := h)
  | alertService => exact execAlertService_bnd (h₀ := h₀) (h := h)
  | channelTraining => exact execChannelTraining_bnd (h₀ := h₀) (h := h)
  | channelRetrain => exact execChannelRetrain_bnd (h₀ := h₀) (h := h)
  | pgm => exact execPgm_bnd (h₀ := h₀) (h := h)
  | ovw => exact execOvw_bnd (h₀ := h₀) (h := h)
  | sus => exact execSus_bnd (h₀ := h₀) (h := h)
  | str => exact execStr_bnd (h₀ := h₀) (h := h)
  | rst => exact execRst_bnd (h₀ := h₀) (h := h)
  | rebuildPosition => exact execRebuildPosition_bnd (h₀ := h₀) (h := h)
  | replacementCopyBack => exact execReplacementCopyBack_bnd (h₀ := h₀) (h := h)
  | engineHeartbeatMiss => exact execEngineHeartbeatMiss_bnd (h₀ := h₀) (h := h)
  | takeoverComplete => exact execTakeoverComplete_bnd (h₀ := h₀) (h := h)
  | lockstepMismatch => exact execLockstepMismatch_bnd (h₀ := h₀) (h := h)
  | bankFailoverComplete => exact execBankFailoverComplete_bnd (h₀ := h₀) (h := h)
  | headFailure => exact execHeadFailure_bnd (h₀ := h₀) (h := h)
  | selfTest => exact execSelfTest_bnd (h₀ := h₀) (h := h)
  | safeStopEntry => exact execSafeStopEntry_bnd (h₀ := h₀) (h := h)
  | residentRailsGood => exact execResidentRailsGood_bnd (h₀ := h₀) (h := h)
  | residentRailFall => exact execResidentRailFall_bnd (h₀ := h₀) (h := h)
  | pfailNRise => exact execPfailNRise_bnd (h₀ := h₀) (h := h)
  | inputPowerLoss => exact execInputPowerLoss_bnd (h₀ := h₀) (h := h)
  | flushEnd => exact execFlushEnd_bnd (h₀ := h₀) (h := h)
  | pseqPgChange => exact execPseqPgChange_bnd (h₀ := h₀) (h := h)
  | slotQualified => exact execSlotQualified_bnd (h₀ := h₀) (h := h)
  | slotQualifyTimeout => exact execSlotQualifyTimeout_bnd (h₀ := h₀) (h := h)
  | slotFallen => exact execSlotFallen_bnd (h₀ := h₀) (h := h)
  | slotFallTimeout => exact execSlotFallTimeout_bnd (h₀ := h₀) (h := h)
  | railFault => exact execRailFault_bnd (h₀ := h₀) (h := h)
  | huSenseSample => exact execHuSenseSample_bnd (h₀ := h₀) (h := h)
  | holdupReport => exact execHoldupReport_bnd (h₀ := h₀) (h := h)
  | writeBackReturn => exact execWriteBackReturn_bnd (h₀ := h₀) (h := h)
  | healthTestEnd => exact execHealthTestEnd_bnd (h₀ := h₀) (h := h)
  | boot => exact execBoot_bnd (h₀ := h₀) (h := h)
  | bindingCheck => exact execBindingCheck_bnd (h₀ := h₀) (h := h)
  | mapRebuild => exact execMapRebuild_bnd (h₀ := h₀) (h := h)
  | memoryActive => exact execMemoryActive_bnd (h₀ := h₀) (h := h)
  | holdupReportTimeout => exact execHoldupReportTimeout_bnd (h₀ := h₀) (h := h)
  | lightSleepEntry => exact execLightSleepEntry_bnd (h₀ := h₀) (h := h)
  | deepSleepEntry => exact execDeepSleepEntry_bnd (h₀ := h₀) (h := h)
  | idleEnd => exact execIdleEnd_bnd (h₀ := h₀) (h := h)
  | refclkLost => exact execRefclkLost_bnd (h₀ := h₀) (h := h)
  | refclkGood => exact execRefclkGood_bnd (h₀ := h₀) (h := h)
  | pllJudgeWindow => exact execPllJudgeWindow_bnd (h₀ := h₀) (h := h)
  | thermalSample => exact execThermalSample_bnd (h₀ := h₀) (h := h)
  | throttleEntry => exact execThrottleEntry_bnd (h₀ := h₀) (h := h)
  | throttleStep => exact execThrottleStep_bnd (h₀ := h₀) (h := h)
  | devloadWindow => exact execDevloadWindow_bnd (h₀ := h₀) (h := h)
  | perstAssert => exact execPerstAssert_bnd (h₀ := h₀) (h := h)
  | perstDeassert => exact execPerstDeassert_bnd (h₀ := h₀) (h := h)
  | functionLevelReset => exact execFunctionLevelReset_bnd (h₀ := h₀) (h := h)
  | linkDown => exact execLinkDown_bnd (h₀ := h₀) (h := h)
  | linkUp => exact execLinkUp_bnd (h₀ := h₀) (h := h)
  | l1Entry => exact execL1Entry_bnd (h₀ := h₀) (h := h)
  | l1Exit => exact execL1Exit_bnd (h₀ := h₀) (h := h)
  | getVersion => exact execGetVersion_bnd (h₀ := h₀) (h := h)
  | getCapabilities => exact execGetCapabilities_bnd (h₀ := h₀) (h := h)
  | negotiateAlgorithms => exact execNegotiateAlgorithms_bnd (h₀ := h₀) (h := h)
  | keyExchange => exact execKeyExchange_bnd (h₀ := h₀) (h := h)
  | finish => exact execFinish_bnd (h₀ := h₀) (h := h)
  | keyUpdate => exact execKeyUpdate_bnd (h₀ := h₀) (h := h)
  | endSession => exact execEndSession_bnd (h₀ := h₀) (h := h)
  | ideKeyManagement => exact execIdeKeyManagement_bnd (h₀ := h₀) (h := h)
  | ideFailure => exact execIdeFailure_bnd (h₀ := h₀) (h := h)
  | channelRetrainEnd => exact execChannelRetrainEnd_bnd (h₀ := h₀) (h := h)
  | returnRampEnd => exact execReturnRampEnd_bnd (h₀ := h₀) (h := h)
  | redistributionComplete => exact execRedistributionComplete_bnd (h₀ := h₀) (h := h)
  | addCapacityOffer => exact execAddCapacityOffer_bnd (h₀ := h₀) (h := h)
  | testEnRise => exact execTestEnRise_bnd (h₀ := h₀) (h := h)
  | canBusJoin => exact execCanBusJoin_bnd (h₀ := h₀) (h := h)
  | componentRegisterWrite => exact execComponentRegisterWrite_bnd (h₀ := h₀) (h := h)
  | configurationRequest => exact execConfigurationRequest_bnd (h₀ := h₀) (h := h)
  | _ => exact keep_bnd (exec_only _ s t h) (of_decide_eq_true rfl) h₀

theorem stamp_keeps_queues {b : Blk} (a : Stamp) (h : QueuesFit b) : QueuesFit (b.at a) := ⟨h.hA, h.hB, h.linen, h.can, h.felt⟩

/-- Settles O11: an idle step changes nothing, and any other runs the front command, which keeps every queue within its places. -/
theorem queuesStayWithinTheirPlaces : Obligations.QueuesStayWithinTheirPlaces := by
  intro s t hs h
  cases hp : s.pending with
  | nil =>
    rw [step_nil s hp] at h
    cases h
    exact hs
  | cons c rest =>
    rw [step_cons c rest s hp] at h
    exact exec_keeps_queues c { s with pending := rest } t (stamp_keeps_queues (stampOf c) hs) h

theorem headFits_reset : HeadFits {} :=
  ⟨Nat.zero_le _, Nat.zero_le _, Nat.zero_le _, Nat.zero_le _, Nat.zero_le _, Nat.zero_le _, Nat.zero_le _⟩

theorem linenFits_reset : LinenFits {} := ⟨Nat.zero_le _, Nat.zero_le _, by decide⟩

/-- Settles O8 (the canonical form is log 5): right after reset nothing is stored, queued or logged, and FAULT_N is released. -/
theorem invariantsHoldAtReset : Obligations.InvariantsHoldAtReset :=
  ⟨rfl, rfl, { hA := headFits_reset, hB := headFits_reset, linen := linenFits_reset, can := Nat.zero_le _, felt := Nat.zero_le _ }⟩

end Sys2Proof.Machine
end

section
/-! SUPPORT. Cache maintenance, cleaning, hints, drain barriers and Global Persistent Flush, command by command (R143, R150 to R153, R169 to R173). -/

namespace Sys2Proof.Machine

open Sys2Proof.Safety

/-- A direct write that is admitted, from the block that its action runs on and what it makes of it. -/
theorem State.command_write {s : State} {a : Stamp} {src : Src} {idx sub : Nat} {val : List Byte} {act : Nat → Blk → Blk} {b c d : Blk}
    (hb : s.blk.at a = b) (hw : WriteRuns b src idx sub val c) (hact : act (leNat val) c = d) :
    s.command a (fun x => x.writeReq src idx sub val act) = .next { s with blk := d } :=
  State.command_at hb ((hw act).trans hact)

/-! ### Range and single-line operations (R150, R151) -/

/-- First byte of the range of OD 0x6010.01 and .02, rounded outward to whole lines. -/
def Blk.rangeBase (b : Blk) : Nat := b.cfg 0x6010 0x01 / 128 * 128

/-- First byte past that range. -/
def Blk.rangeTop (b : Blk) : Nat := (b.cfg 0x6010 0x01 + b.cfg 0x6010 0x02 + 127) / 128 * 128

/-- An invalidate starts its count of dirty lines discarded at 0; the other operations leave it. -/
def Blk.countsDiscards (b : Blk) (code : Nat) : Blk := if code = 2 then b.odSet 0x6010 0x06 0 else b

/-- A range operation starts where none runs and the range lies in added regions. -/
theorem Blk.startRange_of_added {b : Blk} (src : Src) (code : Nat) (hidle : b.velvet.rangeOp = none) (hlen : b.cfg 0x6010 0x02 ≠ 0)
    (hadded : b.addedBytes b.rangeBase b.rangeTop = b.rangeTop - b.rangeBase) :
    b.startRange src code = (((b.countsDiscards code).onVelvet fun v =>
      { v with rangeOp := some { code := code, lines := b.rangeLines code b.rangeBase b.rangeTop } }).maintain).wrote src 0x6010 0x03 0 := by
  unfold Blk.rangeBase Blk.rangeTop at hadded
  simp only [Blk.startRange, hidle, hlen, hadded, Option.isSome_none, ne_eq, not_true_eq_false, Bool.false_eq_true, if_false, Blk.countsDiscards, Blk.rangeBase, Blk.rangeTop]

/-- A single-line operation of R150's codes starts on its line where no range operation runs. -/
theorem Blk.startLine_of_idle {b : Blk} {op li : Nat} {line : Option Nat} (src : Src) (sub : Nat) (hop : op ≠ 0) (hidle : b.velvet.rangeOp = none)
    (hline : line = some li) : b.startLine src sub op line = (b.countsDiscards op).maintOps [{ src := src, sub := sub, op := op, li := li }] := by
  subst hline
  simp only [Blk.startLine, hop, hidle, Option.isSome_none, Bool.false_eq_true, if_false, Blk.countsDiscards]

theorem Blk.byAddress_of_named {b : Blk} {line : BitVec 57} {op li : Nat} (src : Src) (hop : op ≠ 0) (hcode : op < 4) (hidle : b.velvet.rangeOp = none)
    (hline : b.lineNamed line.toNat = some li) :
    b.byAddress src (leNat (addressForm line op)) = (b.countsDiscards op).maintOps [{ src := src, sub := 0x01, op := op, li := li }] := by
  obtain ⟨hfop, hfline⟩ := addressForm_fields line hcode
  rw [Blk.byAddress, hfop, hfline]
  exact Blk.startLine_of_idle src 0x01 hop hidle hline

theorem Blk.bySetWay_of_named {b : Blk} {set : Fin 16384} {way : Fin 16} {op li : Nat} (src : Src) (hop : op ≠ 0) (hcode : op < 4)
    (hidle : b.velvet.rangeOp = none) (hline : b.wayNamed set.val way.val = some li) :
    b.bySetWay src (leNat (setWayForm set way op)) = (b.countsDiscards op).maintOps [{ src := src, sub := 0x02, op := op, li := li }] := by
  obtain ⟨hfop, hfset, hfway⟩ := setWayForm_fields set way hcode
  rw [Blk.bySetWay, hfop, hfset, hfway]
  exact Blk.startLine_of_idle src 0x02 hop hidle hline

/-- Settles O30: an admitted write runs its action, which starts the operation that its value names. -/
theorem cacheMaintenanceByRequest : Obligations.CacheMaintenanceByRequest := by
  refine ⟨fun a src c s b hb hw hidle hlen hadded => ?_, fun a src c s b hb hw hidle hlen hadded => ?_, fun a src c s b hb hw hidle hlen hadded => ?_,
    fun a src line c li s b hb hw hidle hline => ?_, fun a src line c li s b hb hw hidle hline => ?_, fun a src line c li s b hb hw hidle hline => ?_,
    fun a src set way c li s b hb hw hidle hline => ?_, fun a src set way c li s b hb hw hidle hline => ?_, fun a src set way c li s b hb hw hidle hline => ?_⟩
  · rw [exec_rangeClean]
    exact State.command_write hb hw (Blk.startRange_of_added src 1 hidle hlen hadded)
  · rw [exec_rangeInvalidate]
    exact State.command_write hb hw (Blk.startRange_of_added src 2 hidle hlen hadded)
  · rw [exec_rangeCleanAndInvalidate]
    exact State.command_write hb hw (Blk.startRange_of_added src 3 hidle hlen hadded)
  · rw [exec_lineCleanByAddress]
    exact State.command_write hb hw (Blk.byAddress_of_named src (by decide) (by decide) hidle hline)
  · rw [exec_lineInvalidateByAddress]
    exact State.command_write hb hw (Blk.byAddress_of_named src (by decide) (by decide) hidle hline)
  · rw [exec_lineCleanInvalidateByAddress]
    exact State.command_write hb hw (Blk.byAddress_of_named src (by decide) (by decide) hidle hline)
  · rw [exec_lineCleanBySetAndWay]
    exact State.command_write hb hw (Blk.bySetWay_of_named src (by decide) (by decide) hidle hline)
  · rw [exec_lineInvalidateBySetAndWay]
    exact State.command_write hb hw (Blk.bySetWay_of_named src (by decide) (by decide) hidle hline)
  · rw [exec_lineCleanInvalidateBySetAndWay]
    exact State.command_write hb hw (Blk.bySetWay_of_named src (by decide) (by decide) hidle hline)

/-! ### Hints and prefetch (R141, R152, R308) -/

/-- A head's doorbell takes the 16 B of a hint record. -/
def Blk.hintWritten (b : Blk) (h : Head) (r : BitVec 128) : Blk :=
  b.onHead h fun x => { x with ctl := { x.ctl with hint0 := r.setWidth 64, hint1 := r.extractLsb' 64 64 } }

@[simp] theorem Blk.hintWritten_hints (b : Blk) (h : Head) (r : BitVec 128) : ((b.hintWritten h r).head h).hints = (b.head h).hints := by
  rw [Blk.hintWritten, Blk.onHead_head]

theorem exec_hint_of_open {a : Stamp} {h : Head} {r : BitVec 128} {s : State} {b : Blk} (hb : s.blk.at a = b) (hopen : b.barOpen h = true) :
    exec (.hint a h r) s = .next { s with blk := (b.hintWritten h r).ringHint h r } :=
  (exec_hint a h r s).trans (State.command_of_pos hb hopen)

theorem exec_hintCancel_of_open {a : Stamp} {h : Head} {r : BitVec 128} {s : State} {b : Blk} (hb : s.blk.at a = b) (hopen : b.barOpen h = true) :
    exec (.hintCancel a h r) s = .next { s with blk := (b.hintWritten h (r ||| (1 <<< 96))).ringHint h (r ||| (1 <<< 96)) } :=
  (exec_hintCancel a h r s).trans (State.command_of_pos hb hopen)

theorem Blk.ringHint_queued {b : Blk} {h : Head} {r : BitVec 128} (hflag : r.getLsbD 96 = false) (hpos : fld r.toNat 64 32 ≠ 0)
    (hmax : fld r.toNat 64 32 ≤ 4096) (hroom : (b.head h).hints.length < 256) :
    b.ringHint h r = ((b.onHead h fun x => { x with hints := x.hints ++ [(fld r.toNat 7 57, fld r.toNat 64 32)] }).bump 0x6030 0x01 1).twHead h 15 1 := by
  simp only [Blk.ringHint, hflag, hpos, Nat.not_lt.2 hmax, Nat.not_le.2 hroom, or_self, Bool.false_eq_true, if_false]

theorem Blk.ringHint_dropped {b : Blk} {h : Head} {r : BitVec 128} (hflag : r.getLsbD 96 = false)
    (hbad : fld r.toNat 64 32 = 0 ∨ 4096 < fld r.toNat 64 32 ∨ 256 ≤ (b.head h).hints.length) : b.ringHint h r = b.bump 0x6030 0x02 1 := by
  simp only [Blk.ringHint, hflag, hbad, Bool.false_eq_true, if_false, if_true]

theorem Blk.ringHint_cancels {b : Blk} {h : Head} {r : BitVec 128} (hflag : r.getLsbD 96 = true) :
    b.ringHint h r = b.onHead h fun x =>
      { x with hints := x.hints.filter fun y => !(decide (y.1 < fld r.toNat 7 57 + fld r.toNat 64 32) && decide (fld r.toNat 7 57 < y.1 + y.2)) } :=
  if_pos hflag

theorem cancelFlag_set (r : BitVec 128) : (r ||| (1 <<< 96)).getLsbD 96 = true := by
  rw [BitVec.getLsbD_or]
  simp

/-! ### Drain barriers (R170 to R172) -/

theorem Blk.openBarrier_of_room {b : Blk} (src : Src) (hroom : b.path.barriers.length < 8) :
    b.openBarrier src = (let n := (b.cfg 0x6040 0x02 + 1) % 2 ^ 32
      let b1 := (b.onPath fun p => { p with barriers := p.barriers ++ [{ num := n, start := b.now, lines := b.barrierLines }] }).odSet 0x6040 0x02 n
      (if b.works then b1.cleanCovered else b1).wrote src 0x6040 0x01 0) :=
  if_neg (Nat.not_le.2 hroom)

/-- Settles O31 (the event data of a barrier with loss are log 96, the effect of a cancelling hint log 99): hints by what the doorbell makes of them, a barrier's start by the room for it, the others by their conditions. -/
theorem cleaningHintsBarriersAndFlush : Obligations.CleaningHintsBarriersAndFlush := by
  refine ⟨fun a s b hb hworks => ?_, fun a o s b hb ho hnone => ?_, fun a h r s b hb hopen hflag hpos hmax hroom => ?_,
    fun a h r s b hb hopen hflag hbad => ?_, fun a h r s b hb hopen => ?_, fun a h li rest s b hb hnext hworks hskip hgate hway => ?_,
    fun a h li rest s b hb hnext hworks hskip => ?_, fun a src c s b hb hw hroom => ?_, fun a x rest s b hb hfirst hdone hkept => ?_,
    fun a x rest s b hb hfirst hdone hlost => ?_, fun a h s b hb hopen => ?_, fun a h s b hb hopen hgpf => ?_, fun a h t rids s b hb hgpf hover => ?_⟩
  · rw [exec_dirtyCleaning]
    exact State.command_of_pos hb hworks
  · rw [exec_rangeOperationEnd]
    exact State.command_at hb (by simp only [ho, hnone, List.isEmpty_nil, if_true])
  · rw [exec_hint_of_open hb hopen, Blk.ringHint_queued hflag hpos hmax (by rwa [Blk.hintWritten_hints])]
    rfl
  · rw [exec_hint_of_open hb hopen, Blk.ringHint_dropped hflag (by rwa [Blk.hintWritten_hints])]
    rfl
  · rw [exec_hintCancel_of_open hb hopen, Blk.ringHint_cancels (cancelFlag_set r)]
    rfl
  · rw [exec_prefetchRead]
    obtain ⟨c, hc⟩ := Option.isSome_iff_exists.1 hway
    exact State.command_at hb (by simp only [hnext, hworks, hskip, hgate, hc, Bool.not_true, Bool.false_eq_true, if_false, Option.getD_some])
  · rw [exec_prefetchRead]
    exact State.command_at hb (by simp only [hnext, hworks, hskip, Bool.not_true, Bool.false_eq_true, if_false, if_true])
  · rw [exec_startBarrier]
    exact State.command_write hb hw (Blk.openBarrier_of_room src hroom)
  · rw [exec_barrierCompletion]
    exact State.command_at hb (by simp only [hfirst, hdone, hkept, List.isEmpty_nil, if_true]; rfl)
  · rw [exec_barrierCompletion]
    have hsome : x.lost.isEmpty = false := List.isEmpty_eq_false_iff.2 hlost
    exact State.command_at hb (by simp only [hfirst, hdone, hsome, List.isEmpty_nil, if_true, Bool.false_eq_true, if_false]; rfl)
  · rw [exec_gpfPhase1]
    exact State.command_of_pos hb hopen
  · rw [exec_gpfPhase2]
    exact State.command_of_pos hb (by simp only [hopen, hgpf, Option.isNone_none, Bool.and_self])
  · rw [exec_gpfPhase2Complete]
    exact State.command_at hb (by simp only [hgpf, hover, if_true])

end Sys2Proof.Machine
end

section
/-! SUPPORT. The hold-up bank and the sequence of the slots, command by command (R145, R331, R332, R335 to R341). -/

namespace Sys2Proof.Machine

/-- Settles O58: each hypothesis chooses the branch of its command. -/
theorem holdUpAndPowerSequence : Obligations.HoldUpAndPowerSequence := by
  refine ⟨fun a code e s b hb hpower he => ?_, fun a s b hb hruns hflush hor => ?_, fun a t s b hb hspan hruns henergy hlate => ?_,
    fun a s b hb hruns hflush htest hdue => ?_, fun a stepUv totalUv t e s b hb htest hlate hfall he => ?_, fun a slot s b hb hstate hoff hturn => ?_,
    fun a slot level mv s b hb hpower hstate => ?_, fun a slot level mv s b hb hpower hstate => ?_, fun a slot t s b hb hgood hstate hlate => ?_,
    fun a slot s b hb hstate hlate hoff => ?_, fun a slot s b hb hstate hlate hoff => ?_, fun a slot mv e s b hb hstate he hfell => ?_,
    fun a slot s b hb hstate hlate => ?_, fun a slot kind mv s b hb hfault hstate hen => ?_,
    fun a slot kind mv s b hb hfault hstate hpower hmode hoff => ?_⟩
  · subst he
    rw [exec_huSenseSample]
    exact State.command_of_neg hb (by simp only [hpower, Bool.not_true, Bool.false_eq_true, not_false_eq_true])
  · rw [exec_holdupReport]
    have hreport : (b.modes.reported || b.canvas.health != 0) = true := by simpa only [Bool.or_eq_true, bne_iff_ne] using hor
    exact State.command_of_pos hb (by simp only [hruns, hflush, hreport, Option.isNone_none, Bool.and_self])
  · rw [exec_writeBackReturn]
    exact State.command_at hb (by simp only [hspan, hruns, henergy, hlate, decide_true, Bool.and_self, if_true])
  · rw [exec_healthTest]
    exact State.command_of_pos hb (by simp only [hruns, hflush, htest, hdue, Option.isNone_none, Bool.and_self])
  · subst he
    rw [exec_healthTestEnd]
    exact State.command_at hb (by simp only [htest, hlate, hfall, if_true, if_false])
  · rw [exec_slotStepStart]
    exact State.command_of_pos hb ⟨hstate, by simp only [hoff, Bool.not_false], hturn⟩
  · rw [exec_pseqPgChange]
    exact State.command_at hb (by simp only [hpower, hstate, Bool.not_true, Bool.false_eq_true, if_false])
  · rw [exec_pseqPgChange]
    exact State.command_at hb (by simp only [hpower, hstate, Bool.not_true, Bool.false_eq_true, if_false, if_true])
  · rw [exec_slotQualified]
    exact State.command_at hb (by simp only [hgood, hstate, hlate, and_self, if_true])
  · rw [exec_slotQualifyTimeout]
    exact State.command_at hb (by simp only [hstate, hlate, hoff, and_self, Bool.false_eq_true, if_false, if_true])
  · rw [exec_slotQualifyTimeout]
    exact State.command_at hb (by simp only [hstate, hlate, hoff, and_self, if_true])
  · subst he
    rw [exec_slotFallen]
    exact State.command_at hb (by simp only [hstate, hfell, if_true])
  · rw [exec_slotFallTimeout]
    exact State.command_of_pos hb ⟨hstate, hlate⟩
  · rw [exec_railFault]
    exact State.command_at hb (by simp only [hfault, hstate, hen, Bool.not_true, Bool.false_eq_true, and_self, if_false, if_true])
  · rw [exec_railFault]
    exact State.command_at hb (by simp [hfault, hstate, hpower, hmode, hoff])

end Sys2Proof.Machine
end

section
/-! SUPPORT. Host requests at a head: the checks of R213 in the order of the table, and the place at ingress (R155, R210 to R213, R216, R311, R402). -/

namespace Sys2Proof.Machine

theorem fld_lt (w lo n : Nat) : fld w lo n < 2 ^ n := Nat.mod_lt _ (Nat.two_pow_pos n)

/-- DPA[44:43] is a field of two bits (R155): 3 is its only reserved value. -/
theorem fld_alias_lt_three {dpa : Nat} (hne : fld dpa 43 2 ≠ 3) : fld dpa 43 2 < 3 := by
  have hlt := fld_lt dpa 43 2
  omega

/-! ### The five checks and the place, whatever the kind of the request (R213) -/

section
variable {b : Blk} {h : Head} {hpa : Nat} (k : ReqKind) (tag : Nat) (data : Half) (mask : HalfMask) (poison : Bool)

/-- A request at a head that takes none has no effect (log 2). -/
theorem Blk.arrive_of_not_takes (ht : b.takes h = false) : b.arrive h k hpa tag data mask poison = b := by
  simp only [Blk.arrive, ht, Bool.false_eq_true, if_false]

theorem Blk.arrive_of_unmapped (ht : b.takes h = true) (hd : decodeHpa (b.head h).decoders 0 hpa = none) :
    b.arrive h k hpa tag data mask poison = (b.failCheck h 0x2002 0x0A hpa none).refuse h k tag := by
  simp only [Blk.arrive, ht, if_true, hd]

variable {dpa : Nat} (ht : b.takes h = true) (hd : decodeHpa (b.head h).decoders 0 hpa = some dpa)
include ht hd

theorem Blk.arrive_of_reserved_alias (ha : fld dpa 43 2 = 3) :
    b.arrive h k hpa tag data mask poison = (b.failCheck h 0x2003 0x0B hpa none).refuse h k tag := by
  simp only [Blk.arrive, ht, hd, ha, Nat.le_refl, if_true]

/-- A request that a decoder maps, with no reserved alias bits, meets the three checks that are left. -/
theorem Blk.arrive_of_mapped (ha : fld dpa 43 2 < 3) :
    b.arrive h k hpa tag data mask poison =
      if !b.hasCapacity h (dpa % 2 ^ 43) then (b.failCheck h 0x2004 0x0C hpa (some (dpa % 2 ^ 43))).refuse h k tag
      else if !b.memoryActive then (b.failEarly h hpa).refuse h k tag
      else if b.stopped then b.refuse h k tag
      else b.place h k hpa tag dpa data mask poison := by
  simp only [Blk.arrive, ht, if_true, hd, Nat.not_le.2 ha, if_false]

variable (ha : fld dpa 43 2 < 3)
include ha

theorem Blk.arrive_of_no_capacity (hc : b.hasCapacity h (dpa % 2 ^ 43) = false) :
    b.arrive h k hpa tag data mask poison = (b.failCheck h 0x2004 0x0C hpa (some (dpa % 2 ^ 43))).refuse h k tag := by
  simp only [Blk.arrive_of_mapped k tag data mask poison ht hd ha, hc, Bool.not_false, if_true]

variable (hc : b.hasCapacity h (dpa % 2 ^ 43) = true)
include hc

theorem Blk.arrive_of_not_memoryActive (hm : b.memoryActive = false) :
    b.arrive h k hpa tag data mask poison = (b.failEarly h hpa).refuse h k tag := by
  simp only [Blk.arrive_of_mapped k tag data mask poison ht hd ha, hc, hm, Bool.not_true, Bool.not_false, Bool.false_eq_true, if_false, if_true]

variable (hm : b.memoryActive = true)
include hm

theorem Blk.arrive_of_stopped (hs : b.stopped = true) : b.arrive h k hpa tag data mask poison = b.refuse h k tag := by
  simp only [Blk.arrive_of_mapped k tag data mask poison ht hd ha, hc, hm, hs, Bool.not_true, Bool.false_eq_true, if_false, if_true]

theorem Blk.arrive_of_checks (hs : b.stopped = false) :
    b.arrive h k hpa tag data mask poison = b.place h k hpa tag dpa data mask poison := by
  simp only [Blk.arrive_of_mapped k tag data mask poison ht hd ha, hc, hm, hs, Bool.not_true, Bool.false_eq_true, if_false]

end

/-! ### The commands (R210) -/

/-- MEM_RD and MEM_WR whose arrival has the same effect but for the kind of the request. -/
theorem exec_memRd_memWr_of_arrive {a : Stamp} {h : Head} {hpa tag : Nat} {data : Half} {poison : Bool} {s : State} {b : Blk} {c : ReqKind → Blk}
    (hb : s.blk.at a = b) (hc : ∀ k data mask poison, b.arrive h k hpa tag data mask poison = c k) :
    exec (.memRd a h hpa tag) s = .next { s with blk := c .rd } ∧ exec (.memWr a h hpa tag data poison) s = .next { s with blk := c .wr } :=
  ⟨(exec_memRd a h hpa tag s).trans (State.command_at hb (hc ..)), (exec_memWr a h hpa tag data poison s).trans (State.command_at hb (hc ..))⟩

/-- Settles O22 (that a request has no effect at a head that takes none is log 2): the first check that fails gives the effect of the arrival, for a read as for a write. -/
theorem hostRequestsTurnedAway : Obligations.HostRequestsTurnedAway := by
  intro a h hpa tag data poison s b hb
  refine ⟨fun ht => ?_, fun ht => ⟨fun hd => ?_, fun dpa hd => ?_⟩⟩
  · exact exec_memRd_memWr_of_arrive (c := fun _ => b) hb fun k d m p => Blk.arrive_of_not_takes k tag d m p ht
  · exact exec_memRd_memWr_of_arrive (c := fun k => Blk.refuse _ h k tag) hb fun k d m p => Blk.arrive_of_unmapped k tag d m p ht hd
  refine ⟨fun ha => ?_, fun hne hc => ?_, fun hne hc hm => ?_, fun hne hc hm hs => ?_⟩ <;>
    refine exec_memRd_memWr_of_arrive (c := fun k => Blk.refuse _ h k tag) hb fun k d m p => ?_
  · exact Blk.arrive_of_reserved_alias k tag d m p ht hd ha
  · exact Blk.arrive_of_no_capacity k tag d m p ht hd (fld_alias_lt_three hne) hc
  · exact Blk.arrive_of_not_memoryActive k tag d m p ht hd (fld_alias_lt_three hne) hc hm
  · exact Blk.arrive_of_stopped k tag d m p ht hd (fld_alias_lt_three hne) hc hm hs

/-- Settles O25: a request that passes every check is placed, whatever its kind; MEM_SPEC_RD is dropped, and an unsupported request is refused at a head that takes it. -/
theorem hostRequestsEnterIngress : Obligations.HostRequestsEnterIngress := by
  refine ⟨fun a h hpa tag dpa s b hb ht hd ha hc hm hs => ?_, fun a h hpa tag dpa s b hb ht hd ha hc hm hs => ?_,
    fun a h hpa tag data poison dpa s b hb ht hd ha hc hm hs => ?_, fun a h hpa tag data mask poison dpa s b hb ht hd ha hc hm hs => ?_,
    fun a h hpa tag s b hb => ?_, fun a h hpa tag isRead s b hb ht => ?_⟩
  · rw [exec_memRd]
    exact State.command_at hb (Blk.arrive_of_checks _ _ _ _ _ ht hd ha hc hm hs)
  · rw [exec_memRdData]
    exact State.command_at hb (Blk.arrive_of_checks _ _ _ _ _ ht hd ha hc hm hs)
  · rw [exec_memWr]
    exact State.command_at hb (Blk.arrive_of_checks _ _ _ _ _ ht hd ha hc hm hs)
  · rw [exec_memWrPtl]
    exact State.command_at hb (Blk.arrive_of_checks _ _ _ _ _ ht hd ha hc hm hs)
  · rw [exec_memSpecRd]
    exact State.command_at hb rfl
  · rw [exec_unsupportedRequest]
    exact State.command_of_pos hb ht

end Sys2Proof.Machine
end

section
/-! SUPPORT. The words of the die commands: where their fields stand, their parity, and what a die reads back (R180 to R182). -/

namespace Sys2Proof.Machine

/-! ### Parts of joined vectors -/

/- The model writes the width of a joined vector as a literal: `no_index` keeps it out of the key by which `simp` finds these lemmas. -/

@[simp] theorem extractLsb'_append_above {v w start len : Nat} {x : BitVec v} {y : BitVec w} (h : w ≤ start) :
    BitVec.extractLsb' start len (no_index (x ++ y)) = x.extractLsb' (start - w) len :=
  BitVec.extractLsb'_append_eq_of_le h

@[simp] theorem extractLsb'_append_within {v w start len : Nat} {x : BitVec v} {y : BitVec w} (h : start + len ≤ w) :
    BitVec.extractLsb' start len (no_index (x ++ y)) = y.extractLsb' start len :=
  BitVec.extractLsb'_append_eq_of_add_le h

@[simp] theorem getLsbD_append_above {v w i : Nat} {x : BitVec v} {y : BitVec w} (h : w ≤ i) : BitVec.getLsbD (no_index (x ++ y)) i = x.getLsbD (i - w) :=
  BitVec.getLsbD_append.trans (if_neg (Nat.not_lt.2 h))

@[simp] theorem getLsbD_append_within {v w i : Nat} {x : BitVec v} {y : BitVec w} (h : i < w) : BitVec.getLsbD (no_index (x ++ y)) i = y.getLsbD i :=
  BitVec.getLsbD_append.trans (if_pos h)

/-! ### Parity (R180) -/

theorem parityBelow_succ (w : BitVec 64) (n : Nat) : parityBelow w (n + 1) = (w.getLsbD n ^^ parityBelow w n) := rfl

/-- The lowest bit of a vector adds to the parity of the bits above it. -/
theorem parityBelow_append_bit (x : BitVec 63) (p : Bool) (n : Nat) :
    parityBelow (x ++ BitVec.ofBool p) (n + 1) = (p ^^ parityBelow (x ++ (0 : BitVec 1)) (n + 1)) := by
  have above (n : Nat) (y : BitVec 1) : (x ++ y : BitVec 64).getLsbD (n + 1) = x.getLsbD n := getLsbD_append_above (Nat.le_add_left 1 n)
  induction n with
  | zero => cases p <;> simp [parityBelow, -BitVec.getLsbD_eq_getElem]
  | succ n ih => rw [parityBelow_succ _ (n + 1), ih, parityBelow_succ _ (n + 1), above, above, Bool.xor_left_comm]

/-- A vector with its own parity below it has an even number of ones. -/
theorem oddOnes_append_parity (x : BitVec 63) : oddOnes (x ++ BitVec.ofBool (oddOnes (x ++ (0 : BitVec 1)))) = false :=
  (parityBelow_append_bit x _ 63).trans (Bool.xor_self _)

namespace DieCmd

/-! ### The parts of a command's word (R180, R182) -/

variable (c : DieCmd) (seq : BitVec 3)

@[simp] theorem oddOnes_word : oddOnes (c.word seq) = false := oddOnes_append_parity _

@[simp] theorem extractLsb'_word_op : (c.word seq).extractLsb' 59 5 = c.op := by
  simp [word]

@[simp] theorem extractLsb'_word_seq : (c.word seq).extractLsb' 1 3 = seq := by
  simp [word]

variable {c seq}

/-- The fields stand from bit 4 up to the opcode. -/
@[simp] theorem extractLsb'_word_fields {start len : Nat} (hlo : 4 ≤ start) (hhi : start + len ≤ 59) :
    (c.word seq).extractLsb' start len = c.fields.extractLsb' (start - 4) len := by
  rw [word, extractLsb'_append_above (by omega), extractLsb'_append_above (by omega), extractLsb'_append_within (by omega)]
  rfl

@[simp] theorem getLsbD_word_fields {i : Nat} (hlo : 4 ≤ i) (hhi : i < 59) : (c.word seq).getLsbD i = c.fields.getLsbD (i - 4) := by
  rw [word, getLsbD_append_above (by omega), getLsbD_append_above (by omega), getLsbD_append_within (by omega)]
  rfl

end DieCmd

/-! ### What a die reads (R180, R181, R196) -/

/-- Every command is read back from its opcode and fields. -/
@[simp] theorem dieCmdOf_op_fields (c : DieCmd) : dieCmdOf c.op c.fields = some c := by
  cases c <;> simp [DieCmd.op, DieCmd.fields, dieCmdOf, -BitVec.getLsbD_eq_getElem]

theorem dieDecode_word (c : DieCmd) (seq : BitVec 3) : dieDecode (c.word seq) = some (c, seq) := by
  have hf : (c.word seq).extractLsb' 4 55 = c.fields := (DieCmd.extractLsb'_word_fields (by decide) (by decide)).trans BitVec.extractLsb'_eq_self
  simp [dieDecode, hf]

theorem dieCmdOf_of_no_opcode {op : BitVec 5} (f : BitVec 55) (h : op.toNat = 0 ∨ 0x14 ≤ op.toNat) : dieCmdOf op f = none := by
  unfold dieCmdOf
  split
  case h_20 => rfl
  all_goals omega

/-- Settles O12: the parity bit makes the number of ones even, and the opcode and the fields that a die takes from the word are the command's. -/
theorem dieWordsReadBack : Obligations.DieWordsReadBack :=
  fun c seq => ⟨c.oddOnes_word seq, dieDecode_word c seq⟩

open DieCmd in
/-- Settles O13: opcode and SEQ stand as in every command's word, and each field of the word is the part of the command's fields at its place. -/
theorem dieWordFields : Obligations.DieWordFields := by
  refine ⟨fun part line o2 o1 o0 seq margin => ?_, fun part line seq inPlace => ?_, fun part tile count seq => ?_, fun part seq c hc => ?_,
    fun mask seq => ?_, fun addr v seq => ?_, fun addr seq => ?_, fun long seq => ?_, fun buffer seed seq => ?_, fun seq c hc => ?_, fun w h => ?_⟩
  · cases margin <;> simp [op, fields]
  · cases inPlace <;> simp [op, fields]
  · simp [op, fields]
  · fin_cases hc <;> simp [op, fields]
  · simp [op, fields]
  · simp [op, fields]
  · simp [op, fields]
  · simp [op, fields, -BitVec.getLsbD_eq_getElem]
  · simp [op, fields, -BitVec.getLsbD_eq_getElem]
  · fin_cases hc <;> simp [op, fields]
  · have hop : (w.extractLsb' 59 5).toNat = 0 ∨ 0x14 ≤ (w.extractLsb' 59 5).toNat := h.imp_left fun h0 => congrArg BitVec.toNat h0
    simp [dieDecode, dieCmdOf_of_no_opcode _ hop]

/-- Settles O14: the example's word by its bits, the command from it as from every word; the next word has an odd number of ones. -/
theorem workedReadCommand : Obligations.WorkedReadCommand := by
  have hword : (DieCmd.rd 12 0x123456 12 509 0).word 5 = 0x0B091A2B033FA00A := by
    simp [DieCmd.word, DieCmd.op, DieCmd.fields, oddOnes, parityBelow]
  have hodd : oddOnes 0x0B091A2B033FA00B = true := by simp [oddOnes, parityBelow]
  refine ⟨hword, ?_, if_pos hodd⟩
  rw [← hword]
  exact dieDecode_word _ _

end Sys2Proof.Machine
end

section
/-! SUPPORT. The register commands of the dies and the die status (R180, R185 to R187, R197, R198, R204, R205). -/

namespace Sys2Proof.Machine

/-! ### The die status (R187) -/

/-- A number written by its digits to the base 4, the lowest first. -/
def ofDigits4 (f : Nat → Nat) (n : Nat) : Nat := (List.range n).foldl (fun s q => s + f q * 4 ^ q) 0

theorem ofDigits4_succ (f : Nat → Nat) (n : Nat) : ofDigits4 f (n + 1) = ofDigits4 f n + f n * 4 ^ n := by
  simp [ofDigits4, List.range_succ]

theorem ofDigits4_lt {f : Nat → Nat} (hf : ∀ q, f q < 4) (n : Nat) : ofDigits4 f n < 4 ^ n := by
  induction n with
  | zero => exact Nat.zero_lt_one
  | succ n ih =>
    have hdigit : f n * 4 ^ n ≤ 3 * 4 ^ n := Nat.mul_le_mul_right _ (Nat.le_of_lt_succ (hf n))
    rw [ofDigits4_succ, pow_succ]
    omega

theorem ofDigits4_digit {f : Nat → Nat} (hf : ∀ q, f q < 4) {n q : Nat} (hq : q < n) : ofDigits4 f n / 4 ^ q % 4 = f q := by
  induction n with
  | zero => exact absurd hq (Nat.not_lt_zero q)
  | succ n ih =>
    rw [ofDigits4_succ]
    rcases Nat.lt_succ_iff_lt_or_eq.1 hq with hlt | rfl
    · obtain ⟨k, rfl⟩ := Nat.exists_eq_add_of_lt hlt
      have hpow : f (q + k + 1) * 4 ^ (q + k + 1) = 4 ^ q * (4 * (f (q + k + 1) * 4 ^ k)) := by ring
      rw [hpow, Nat.add_mul_div_left _ _ (by positivity), Nat.add_mul_mod_self_left, ih hlt]
    · rw [Nat.add_mul_div_right _ _ (by positivity), Nat.div_eq_of_lt (ofDigits4_lt hf q), Nat.zero_add, Nat.mod_eq_of_lt (hf q)]

theorem PartSt.code_lt (p : PartSt) : p.code < 4 := by
  unfold PartSt.code
  split
  case h_2 => split <;> decide
  all_goals decide

/-- PSTATE of partition q stands in bits [2q + 1:2q]. -/
theorem extractLsb'_ofDigits4 {f : Nat → Nat} (hf : ∀ q, f q < 4) {q : Nat} (hq : q < 32) :
    (BitVec.ofNat 64 (ofDigits4 f 32)).extractLsb' (2 * q) 2 = BitVec.ofNat 2 (f q) := by
  have hlt : ofDigits4 f 32 < 2 ^ 64 := ofDigits4_lt hf 32
  apply BitVec.eq_of_toNat_eq
  rw [BitVec.extractLsb'_toNat, BitVec.toNat_ofNat, BitVec.toNat_ofNat, Nat.mod_eq_of_lt hlt, Nat.shiftRight_eq_div_pow, Nat.pow_mul]
  exact (ofDigits4_digit hf hq).trans (Nat.mod_eq_of_lt (hf q)).symm

/-- The status word with its PSTATE field as digits. -/
theorem Blk.dieStatusWord_eq (b : Blk) (d : Nat) :
    b.dieStatusWord d = strWord (b.die d).wseq (b.resets d) (b.dieWrites d) (b.die d).astat (b.die d).tval (BitVec.ofInt 12 (b.die d).temp) (b.die d).pfail
      (BitVec.ofNat 64 (ofDigits4 (fun q => (b.part (partId d q)).code) 32)) := rfl

theorem Blk.dieStatusWord_pstate (b : Blk) (d : Nat) {q : Nat} (hq : q < 32) :
    (b.dieStatusWord d).extractLsb' (2 * q) 2 = BitVec.ofNat 2 (b.part (partId d q)).code := by
  rw [dieStatusWord_eq, strWord, extractLsb'_append_within (by omega)]
  exact extractLsb'_ofDigits4 (fun q => (b.part (partId d q)).code_lt) hq

/-! ### Commands to one die (R186 to R188, R198) -/

theorem dieOf_div (ch : Fin 32) (die : Fin 8) : dieOf ch die / 8 = ch.val := by
  unfold dieOf
  omega

theorem dieOf_mod (ch : Fin 32) (die : Fin 8) : dieOf ch die % 8 = die.val := by
  unfold dieOf
  omega

section
variable {a : Stamp} {ch : Fin 32} {die : Fin 8} {s : State} {b c : Blk} (hb : s.blk.at a = b)
include hb

theorem exec_str_of_awake (hc : b.sendDie (dieOf ch die) .str = c) (hawake : c.dieAwake (dieOf ch die) = true) :
    exec (.str a ch die) s = .next { s with
      blk := (c.emit (.short ch.val die.val (c.dieStatusWord (dieOf ch die)))).dieStatus (dieOf ch die) (c.die (dieOf ch die)).astat (c.die (dieOf ch die)).tval (c.die (dieOf ch die)).temp } := by
  rw [exec_str]
  exact State.command_at hb (by simp only [hc, Blk.dieAnswers, hawake, if_true, dieOf_div, dieOf_mod])

theorem exec_mrr_of_awake {addr : BitVec 8} (hc : b.sendDie (dieOf ch die) (.mrr addr) = c) (hawake : c.dieAwake (dieOf ch die) = true) :
    exec (.mrr a ch die addr) s = .next { s with blk := c.useFree.emit (.short ch.val die.val ((c.readMr (dieOf ch die) addr.toNat).setWidth 256)) } := by
  rw [exec_mrr]
  exact State.command_at hb (by simp only [hc, hawake, if_true])

theorem exec_idr_of_awake (hc : b.sendDie (dieOf ch die) .idr = c) (hawake : c.dieAwake (dieOf ch die) = true) :
    exec (.idr a ch die) s = .next { s with blk := c.emit (.short ch.val die.val ((c.die (dieOf ch die)).id.setWidth 256)) } := by
  rw [exec_idr]
  exact State.command_at hb (by simp only [hc, hawake, if_true])

end

/-- A value in the low bits of a short transfer leaves the other bits zero. -/
theorem extractLsb'_setWidth_above {w n : Nat} (x : BitVec w) (len : Nat) : (x.setWidth n).extractLsb' w len = 0 := by
  ext i hi
  simp

/-- Settles O17: the word that the die answers with, field by field, and PSTATE as the partitions' digits to the base 4. -/
theorem dieStatusWord : Obligations.DieStatusWord := by
  refine ⟨fun a ch die s c hc hawake => ⟨_, exec_str_of_awake rfl hc hawake, ?_⟩,
    fun a ch die addr s c hc hawake => ⟨_, exec_mrr_of_awake rfl hc hawake, ?_, extractLsb'_setWidth_above _ _⟩,
    fun a ch die s c hc hawake => ⟨_, exec_idr_of_awake rfl hc hawake, ?_, extractLsb'_setWidth_above _ _⟩, fun x mask now h => ?_⟩
  · refine ⟨?_, ?_, ?_, ?_, ?_, ?_, ?_, ?_, ?_, ?_, fun q hq => c.dieStatusWord_pstate _ hq⟩ <;>
      simp [Blk.dieStatusWord, strWord, -BitVec.getLsbD_eq_getElem]
  · simp [BitVec.extractLsb'_setWidth_of_le]
  · simp [BitVec.extractLsb'_setWidth_of_le]
  · exact if_pos (Bool.or_eq_true_iff.2 h)

/-! ### Commands to the dies that the chip selects address (R197, R198, R204, R205) -/

/-- Settles O55: the commands to one die that is awake by their condition; those to several say what they do to each die. -/
theorem dieRegisterCommands : Obligations.DieRegisterCommands := by
  refine ⟨fun a ch die c s b hb hc hawake => ?_, fun a ch die addr c s b hb hc hawake => exec_mrr_of_awake hb hc hawake,
    fun a ch die c s b hb hc hawake => exec_idr_of_awake hb hc hawake, fun a ch die content c s b hb hc hawake => ?_,
    fun a ch die buffer seed c s b hb hc hawake => ?_, fun a ch cs mask s b hb => ?_, fun a ch cs addr v s b hb => ?_, fun a ch cs long s b hb => ?_,
    fun a ch cs s b hb => ?_, fun a ch cs s b hb => ?_, fun a ch cs s b hb => ?_⟩
  · rw [dieOf_div, dieOf_mod]
    exact exec_str_of_awake hb hc hawake
  · rw [exec_tbw]
    exact State.command_at hb (by simp only [hc, hawake, if_true])
  · rw [exec_trn]
    exact State.command_at hb (by simp only [hc, hawake, if_true])
  · rw [exec_alc]
    exact State.command_at hb rfl
  · rw [exec_mrw]
    exact State.command_at hb rfl
  · rw [exec_zqc]
    exact State.command_at hb rfl
  · rw [exec_sby]
    exact State.command_at hb rfl
  · rw [exec_wak]
    exact State.command_at hb rfl
  · rw [exec_rst]
    exact State.command_at hb rfl

end Sys2Proof.Machine
end

section
/-! SUPPORT. The array commands of the dies (R180, R188 to R192, R194). -/

namespace Sys2Proof.Machine

/-! ### Reads at a die (R188, R192) -/

/-- A partition that takes no read refuses it, with RSTAT 2 and data 0. -/
theorem Blk.dieRead_of_refused {b : Blk} {pid : Nat} (line : Nat) (seq : BitVec 3) (t : Nat) (h : b.takesRead pid = false) :
    b.dieRead pid line seq t =
      (b.dieRefuse (pid / 32)).useFree.emit (.dq (pid / 32 / 8) (pid / 32 % 8)
        ((b.dieRefuse (pid / 32)).dieSt (pid / 32) (BitVec.ofNat 23 line) 2 (pid % 32) seq) ((b.dieRefuse (pid / 32)).freeVal 72) 0) := by
  simp only [Blk.dieRead, h, Bool.false_eq_true, if_false]

/-- A partition that takes a read returns what it has sensed into its output buffer. -/
theorem Blk.dieRead_of_taken {b : Blk} {pid line t : Nat} {seq q r : BitVec 3} {l : BitVec 23} {sg : BitVec 72} {w : BitVec 1152}
    (h : b.takesRead pid = true) (hout : ((b.occupy pid line seq t).dpart pid).out = some (l, q, r, sg, w)) :
    b.dieRead pid line seq t =
      (b.occupy pid line seq t).emit (.dq (pid / 32 / 8) (pid / 32 % 8) (b.dieSt (pid / 32) l r (pid % 32) seq) sg w) := by
  simp only [Blk.dieRead, h, hout, if_true]

/-! ### Programs at a die (R189, R192) -/

/-- A program is refused at a partition that takes none, past the die's 8 operations, and, unless it overwrites, on a line that is not blank. -/
theorem Blk.dieProgram_of_refused {b : Blk} {pid line : Nat} {ovw : Bool} (content : BitVec 1152) (accepted : Bool) (seq : BitVec 3)
    (h : b.takesWrite pid = false ∨ 8 ≤ b.dieWrites (pid / 32) ∨ ovw = false ∧ (b.media.lines.find (locOf pid line)).isSome = true) :
    b.dieProgram pid line content ovw accepted seq = b.dieRefuse (pid / 32) := by
  have hrefused : (!b.takesWrite pid || decide (8 ≤ b.dieWrites (pid / 32)) || (!ovw && !(b.media.lines.find (locOf pid line)).isNone)) = true := by
    simpa [or_assoc] using h
  simp only [Blk.dieProgram, hrefused, if_true]

/-- A program within its rules goes by whether the die accepts its data. -/
theorem Blk.dieProgram_of_taken {b : Blk} {pid line : Nat} {ovw : Bool} (content : BitVec 1152) (accepted : Bool) (seq : BitVec 3)
    (htakes : b.takesWrite pid = true) (hroom : b.dieWrites (pid / 32) < 8) (hblank : ovw = false → b.media.lines.find (locOf pid line) = none) :
    b.dieProgram pid line content ovw accepted seq =
      if accepted = true then b.onPart pid fun p => { p with
          op := .program line { data := content.setWidth 1024, md := content.extractLsb' 1024 40 }
            (.rewrite ((b.memAt (locOf pid line)).getD { cls := .voile, slot := slotsV b.dieCount, stripe := 0, m := 0 })) ovw false 0,
          suspended := false, suspTotal := 0, suspCount := 0, since := b.now, pseq := seq }
      else (b.alert (pid / 32) 0).onDie (pid / 32) fun x => { x with wseq := some seq } := by
  have htaken : (!b.takesWrite pid || decide (8 ≤ b.dieWrites (pid / 32)) || (!ovw && !(b.media.lines.find (locOf pid line)).isNone)) = false := by
    cases ovw <;> simp [htakes, hroom, hblank]
  cases accepted <;> simp only [Blk.dieProgram, htaken, Bool.false_eq_true, Bool.not_true, Bool.not_false, if_true, if_false]

/-! ### The commands -/

section
variable {a : Stamp} {ch : Fin 32} {die : Fin 8} {part : Fin 32} {s : State} {b c : Blk} (hb : s.blk.at a = b)
include hb

theorem exec_rd_of_awake {line : BitVec 23} {o2 o1 o0 : BitVec 9}
    (hc : (b.sendDie (partOf ch die part / 32) (.rd (BitVec.ofNat 5 part.val) line o2 o1 o0)).twChan ch.val 1 = c)
    (hawake : c.dieAwake (partOf ch die part / 32) = true) :
    exec (.rd a ch die part line o2 o1 o0) s = .next { s with blk := c.dieRead (partOf ch die part) line.toNat (b.die (partOf ch die part / 32)).seq 250 } := by
  rw [exec_rd]
  exact State.command_at hb (by simp only [hc, hawake, if_true])

theorem exec_pgm_of_awake {line : BitVec 23} {content : BitVec 1152} {accepted : Bool}
    (hc : (b.sendDie (partOf ch die part / 32) (.pgm (BitVec.ofNat 5 part.val) line)).twChan ch.val 2 = c)
    (hawake : c.dieAwake (partOf ch die part / 32) = true) :
    exec (.pgm a ch die part line content accepted) s = .next { s with
      blk := c.dieProgram (partOf ch die part) line.toNat content false accepted (b.die (partOf ch die part / 32)).seq } := by
  rw [exec_pgm]
  exact State.command_at hb (by simp only [hc, hawake, if_true])

theorem exec_ovw_of_awake {line : BitVec 23} {content : BitVec 1152} {accepted : Bool}
    (hc : (b.sendDie (partOf ch die part / 32) (.ovw (BitVec.ofNat 5 part.val) line)).twChan ch.val 3 = c)
    (hawake : c.dieAwake (partOf ch die part / 32) = true) :
    exec (.ovw a ch die part line content accepted) s = .next { s with
      blk := c.dieProgram (partOf ch die part) line.toNat content true accepted (b.die (partOf ch die part / 32)).seq } := by
  rw [exec_ovw]
  exact State.command_at hb (by simp only [hc, hawake, if_true])

end

/-- Settles O54 (that a refused RRS returns no transfer is log 100): a read and a program by what the die makes of them, the others by their conditions. -/
theorem dieArrayCommands : Obligations.DieArrayCommands := by
  refine ⟨fun a ch die part line o2 o1 o0 c l q r sg w s b hb hc hawake htakes hout => ?_, fun a ch die part line o2 o1 o0 c s b hb hc hawake htakes => ?_,
    fun a ch die part line o2 o1 o0 c e l q r sg w s b hb hc hawake htakes he hread hout => ?_,
    fun a ch die part line o2 o1 o0 c s b hb hc hawake hwrite hread => ?_, fun a ch die part c s b hb hc hawake htakes => ?_,
    fun a ch die part c l q r sg w s b hb hc hawake htakes hout => ?_,
    fun a ch die part line content accepted c s b hb hc hawake htakes hroom hblank hacc => ?_,
    fun a ch die part line content accepted c s b hb hc hawake htakes hroom hblank hacc => ?_,
    fun a ch die part line content accepted c s b hb hc hawake htakes hroom hacc => ?_,
    fun a ch die part line content accepted c s b hb hc hawake htakes hroom hacc => ?_,
    fun a ch die part tile count c s b hb hc hawake htakes hroom hlast => ?_, fun a ch die part tile count c s b hb hc hawake hrefused => ?_,
    fun a ch die part line content accepted c s b hb hc hawake hrefused => ?_, fun a ch die part line content accepted c s b hb hc hawake hrefused => ?_,
    fun a ch die part c ln x why ov ck k s b hb hc hawake hop hsusp hready => ?_, fun a ch die part c tile count o s b hb hc hawake hop => ?_,
    fun a ch die part c ln s b hb hc hawake hop => ?_, fun a ch die part c s b hb hc hawake hsusp => ?_⟩
  · rw [exec_rd_of_awake hb hc hawake, Blk.dieRead_of_taken htakes hout]
  · rw [exec_rd_of_awake hb hc hawake, Blk.dieRead_of_refused _ _ _ htakes]
  · rw [exec_mrd]
    refine State.command_at hb ?_
    cases hp : b.probeOf (partOf ch die part) line.toNat o2 o1 o0 with
    | none =>
      have he : c = e := by simpa only [hp] using he
      subst he
      simp only [hc, hawake, htakes, hp, Bool.not_true, Bool.false_eq_true, if_false, Blk.dieRead_of_taken hread hout]
    | some probe =>
      obtain ⟨y, n⟩ := probe
      have he : c.probeSent (partOf ch die part / 32) y n = e := by simpa only [hp] using he
      subst he
      simp only [hc, hawake, htakes, hp, Bool.not_true, Bool.false_eq_true, if_false, Blk.dieRead_of_taken hread hout]
  · rw [exec_mrd]
    exact State.command_at hb (by
      simp only [hc, hawake, hwrite, Bool.not_true, Bool.not_false, Bool.false_eq_true, if_false, if_true, Blk.dieRead_of_refused _ _ _ hread])
  · rw [exec_rrs]
    exact State.command_at hb (by simp only [hc, hawake, htakes, Bool.not_true, Bool.not_false, Bool.false_eq_true, if_false, if_true])
  · rw [exec_rrs]
    exact State.command_at hb (by simp only [hc, hawake, htakes, hout, Bool.not_true, Bool.false_eq_true, if_false])
  · rw [exec_pgm_of_awake hb hc hawake, Blk.dieProgram_of_taken content accepted _ htakes hroom (fun _ => hblank), if_pos hacc]
  · rw [exec_pgm_of_awake hb hc hawake, Blk.dieProgram_of_taken content accepted _ htakes hroom (fun _ => hblank), if_neg (Bool.eq_false_iff.1 hacc)]
  · rw [exec_ovw_of_awake hb hc hawake, Blk.dieProgram_of_taken (ovw := true) content accepted _ htakes hroom nofun, if_pos hacc]
  · rw [exec_ovw_of_awake hb hc hawake, Blk.dieProgram_of_taken (ovw := true) content accepted _ htakes hroom nofun, if_neg (Bool.eq_false_iff.1 hacc)]
  · rw [exec_trs]
    exact State.command_at hb (by
      simp only [hc, hawake, htakes, Nat.not_le.2 hroom, Nat.not_le.2 hlast, Bool.not_true, decide_false, Bool.or_self, Bool.false_eq_true, if_false])
  · have hor : (!c.takesWrite (partOf ch die part) || decide (4 ≤ c.resets (partOf ch die part / 32)) || decide (131072 ≤ tile.toNat + count.val)) = true := by
      simpa [or_assoc] using hrefused
    rw [exec_trs]
    exact State.command_at hb (by simp only [hc, hawake, hor, Bool.not_true, Bool.false_eq_true, if_false, if_true])
  · rw [exec_pgm_of_awake hb hc hawake, Blk.dieProgram_of_refused content accepted _ (by simpa using hrefused)]
  · rw [exec_ovw_of_awake hb hc hawake, Blk.dieProgram_of_refused content accepted _ (by simpa using hrefused)]
  · rw [exec_sus]
    exact State.command_at hb (by simp only [hc, hawake, hop, hsusp, Nat.not_lt.2 hready, Bool.not_true, Bool.false_eq_true, if_false])
  · rw [exec_sus]
    exact State.command_at hb (by simp only [hc, hawake, hop, Bool.not_true, Bool.false_eq_true, if_false])
  · rw [exec_sus]
    exact State.command_at hb (by simp only [hc, hawake, hop, Bool.not_true, Bool.false_eq_true, if_false])
  · rw [exec_rsm]
    exact State.command_at hb (by simp only [hc, hawake, hsusp, Bool.and_self, if_true])

end Sys2Proof.Machine
end

section
/-! SUPPORT. The Joern channels and the management actions, command by command (R131, R197, R199 to R202, R207, R321, R341, R389, R395, R396, R405, R407, R408). -/

namespace Sys2Proof.Machine

/-! ### Alert service, training, retrains and calibration (R197, R199 to R202) -/

/-- Settles O53: each hypothesis chooses the branch of its command. -/
theorem joernChannels : Obligations.JoernChannels := by
  refine ⟨fun a ch reports s b hb hstate => ?_, fun a obs live counts s b hb hmode hstep hlive hcounts => ?_,
    fun a ch s b hb hretrain hstate halone hclear => ?_, fun a ch ok timeUs s b hb hstate hok => ?_, fun a ch ok timeUs s b hb hstate hactive hok => ?_,
    fun a ch ok timeUs s b hb hstate hok => ?_, fun a ch ok timeUs s b hb hstate hactive hok => ?_, fun a ch s b hb hstate hdeep => ?_,
    fun a ch die moved s b hb hstate hdie hdeep => ?_⟩
  · rw [exec_alertService]
    exact State.command_of_neg hb (not_not_intro hstate)
  · subst hlive hcounts
    rw [exec_channelTraining]
    exact State.command_of_neg hb (by simp [hmode, hstep])
  · rw [exec_channelRetrain]
    exact State.command_at hb (by simp [hretrain, hstate, halone, hclear])
  · rw [exec_channelRetrainEnd]
    exact State.command_at hb (by simp [hstate, hok])
  · rw [exec_channelRetrainEnd]
    exact State.command_at hb (by simp [hstate, hactive, hok])
  · rw [exec_channelRetrainEnd]
    exact State.command_at hb (by simp [hstate, hok])
  · rw [exec_channelRetrainEnd]
    exact State.command_at hb (by simp [hstate, hactive, hok])
  · rw [exec_zqcShortPeriod]
    exact State.command_of_neg hb (by simp [hstate, hdeep])
  · rw [exec_writeDeskewCheck]
    exact State.command_at hb (by simp [hstate, hdie, hdeep])

/-! ### Management actions (R131, R202, R321, R341, R396, R405, R408) -/

/-- Settles O42 (the answer before the orderly stop is log 54): an admitted write runs its action, and each hypothesis chooses the action's branch. -/
theorem managementActions : Obligations.ManagementActions := by
  refine ⟨fun a src c s b hb hw => ?_, fun a src d c s b hb hw hdie => ?_, fun a src ch c s b hb hw => ?_,
    fun a src ch c s b hb hw hstate hretrain => ?_, fun a src c s b hb hw => ?_, fun a src c s b hb hw htest => ?_, fun a src c s b hb hw => ?_⟩
  · rw [exec_histogramClear]
    exact State.command_write hb hw rfl
  · have hd : leNat (leBytes 2 d.toNat) = d.toNat := (leNat_leBytes 2 d.toNat).trans (Nat.mod_eq_of_lt d.isLt)
    rw [exec_retireDie]
    exact State.command_write hb hw (by simp only [hd, Blk.retireDie, hdie, if_true])
  · have hch : leNat (leBytes 1 ch.toNat) = ch.toNat := (leNat_leBytes 1 ch.toNat).trans (Nat.mod_eq_of_lt ch.isLt)
    rw [exec_retireChannel]
    exact State.command_write hb hw (by rw [hch, Blk.retireChannel])
  · have hidle : ¬((c.chan ch.val).state = 4 ∨ (c.chan ch.val).retrain = true) := by
      rcases hstate with h | h <;> simp [h, hretrain]
    rw [exec_retrainRequest]
    exact State.command_write hb hw (by simp only [Blk.askRetrain, hidle, hstate, if_false, if_true])
  · rw [exec_powerDownToStandby]
    exact State.command_write hb hw rfl
  · rw [exec_startHealthTest]
    exact State.command_write hb hw (by simp only [Blk.askTest, htest, Option.isSome_none, Bool.false_eq_true, if_false])
  · rw [exec_clearCounters]
    exact State.command_write hb hw rfl

end Sys2Proof.Machine
end

section
/-! SUPPORT. The queue and the frame of every command, and dictionary requests at a mailbox: which are taken up, at which level, and what a refused one does; statements of the family 09_cxl_ports (R210, R219, R223, R263, R265, R266, R270 to R272). -/

namespace Sys2Proof.Machine

open Sys2Proof.Safety

/-! ### The queue and the frame -/

/-- Each step takes one command off the queue, so as many steps as commands wait empty it. -/
theorem steps_empty_queue (cs : List Instr) : ∀ s : State, s.pending = cs → ∃ t, Steps cs.length s t ∧ t.pending = [] := by
  induction cs with
  | nil => exact fun s hs => ⟨s, .zero s, hs⟩
  | cons c rest ih =>
    intro s hs
    obtain ⟨u, hstep, hu⟩ := step_answers_next_of_cons hs
    obtain ⟨t, hsteps, ht⟩ := ih u hu
    exact ⟨t, .more hstep hsteps, ht⟩

/-- Settles O4 (the queue is log 1; that no command faults or is refused, so that each ends, is log 2), by induction on the queue. -/
theorem theQueueDrains : Obligations.TheQueueDrains :=
  fun s => steps_empty_queue s.pending s rfl

/-- Settles O5: the frames of the rows, put together in `exec_only`. -/
theorem onlyTheNamedPartsChange : Obligations.OnlyTheNamedPartsChange := exec_only

/-! ### Where a mailbox takes requests, and at which level (R219, R223, R265) -/

theorem Blk.mailboxOpen_iff {b : Blk} {h : Head} : b.mailboxOpen h = true ↔ (b.head h).link = 2 ∧ (b.head h).failed = false ∧ b.mgmt = true := by
  simp [Blk.mailboxOpen, and_assoc]

theorem Blk.mailboxOpen_eq_false_iff {b : Blk} {h : Head} :
    b.mailboxOpen h = false ↔ (b.head h).link ≠ 2 ∨ (b.head h).failed = true ∨ b.mgmt = false := by
  rw [← Bool.not_eq_true, Blk.mailboxOpen_iff]
  simp [imp_iff_not_or]

/-- A request taken up is an item of E56 and of E57 (log 106). -/
theorem requests_of_open {b : Blk} {h : Head} (hopen : b.mailboxOpen h = true) (m : Bool) (q : DReq) :
    Requests b (.mb h m) q (((b.twEngine 56).twEngine 57).touch (.mb h m)) := fun _ => if_pos hopen

/-- A request at a mailbox that takes none has no effect (logs 2 and 70). -/
theorem Blk.admitReq_of_closed {b : Blk} {h : Head} (hclosed : b.mailboxOpen h = false) (m : Bool) (q : DReq) (f : Blk → Blk) :
    b.admitReq (.mb h m) q f = b := if_neg (Bool.eq_false_iff.1 hclosed)

theorem Blk.level_eq_two_iff {b : Blk} {src : Src} : b.level src = 2 ↔ srcMaint src = true ∧ (b.session (transOf src)).maint = true := by
  rw [Blk.level.eq_def, ← Bool.and_eq_true]
  split
  case isTrue hmaint => exact iff_of_true rfl hmaint
  case isFalse hbase =>
    refine iff_of_false ?_ hbase
    cases src with
    | mb => simp
    | can =>
      dsimp only
      split <;> simp

theorem Blk.level_mailbox {b : Blk} {h : Head} {m : Bool} (hbase : b.level (.mb h m) ≠ 2) : b.level (.mb h m) = 1 := by
  rw [ne_eq, Blk.level_eq_two_iff, ← Bool.and_eq_true] at hbase
  exact if_neg hbase

/-- Settles O20 (the items of E56 and E57 are log 106, no effect at a closed mailbox logs 2 and 70): the mailbox that is open, the one that is not, the two levels, and the checks that pass. -/
theorem requestsAreAdmittedAtAnOpenMailbox : Obligations.RequestsAreAdmittedAtAnOpenMailbox :=
  ⟨fun _ _ m q hlink hfailed hmgmt => requests_of_open (Blk.mailboxOpen_iff.2 ⟨hlink, hfailed, hmgmt⟩) m q,
    fun _ _ m q f hclosed => Blk.admitReq_of_closed (Blk.mailboxOpen_eq_false_iff.2 hclosed) m q f,
    fun _ _ => Blk.level_eq_two_iff, fun _ _ _ => Blk.level_mailbox, fun _ _ _ _ _ _ => writes_of, fun _ _ _ _ _ _ => opensWrite_of⟩

/-! ### Requests that a check refuses (R270 to R272) -/

/-- A request that is taken up, from the block that it goes on from and what it makes of it. -/
theorem State.command_request {s : State} {a : Stamp} {src : Src} {q : DReq} {f : Blk → Blk} {b c d : Blk} (hb : s.blk.at a = b)
    (hreq : Requests b src q c) (hf : f c = d) : s.command a (fun x => x.admitReq src q f) = .next { s with blk := d } :=
  State.command_at hb ((hreq f).trans hf)

/-- A request at a mailbox that takes none leaves the block as it is, whatever it would do. -/
theorem State.command_request_closed {s : State} {a : Stamp} {h : Head} {m : Bool} {q : DReq} {f : Blk → Blk} {b : Blk} (hb : s.blk.at a = b)
    (hclosed : b.mailboxOpen h = false) : s.command a (fun x => x.admitReq (.mb h m) q f) = .next { s with blk := b } :=
  State.command_at hb (Blk.admitReq_of_closed hclosed m q f)

/-- Settles O21 (that a closed mailbox takes none is logs 2 and 70): the check that fails chooses the answer. -/
theorem refusedRequestsAreAnsweredAlone : Obligations.RefusedRequestsAreAnsweredAlone := by
  refine ⟨fun a src idx sub c s b hb hreq hst => ?_, fun a src idx sub val c s b hb hreq hst => ?_,
    fun a src idx sub val c s b hb hreq hst => ?_, fun a h m idx sub val s b hb hclosed => ⟨?_, ?_, ?_⟩⟩
  · rw [exec_read]
    exact State.command_request hb hreq (if_pos hst)
  · rw [exec_write]
    exact State.command_request hb hreq (if_neg hst)
  · rw [exec_stage]
    exact State.command_request hb hreq (if_neg hst)
  · rw [exec_write]
    exact State.command_request_closed hb hclosed
  · rw [exec_read]
    exact State.command_request_closed hb hclosed
  · rw [exec_stage]
    exact State.command_request_closed hb hclosed

end Sys2Proof.Machine
end

section
/-! SUPPORT. The mailbox commands that report, bulk transfers and dynamic capacity, command by command (R214 to R228, R268, R269, R284). -/

namespace Sys2Proof.Machine

/-! ### Reports (R219 to R228) -/

/-- Settles O32 (the payload lists are log 31): an open mailbox runs the command, which is its report; the one log is the command effects log. -/
theorem mailboxReports : Obligations.MailboxReports :=
  ⟨fun a h s _ hb hopen => (exec_identify a h s).trans (State.command_mbox_at hb hopen rfl),
    fun a h s _ hb hopen => (exec_backgroundOperationStatus a h s).trans (State.command_mbox_at hb hopen rfl),
    fun a h log s _ hb hopen => (exec_getEventRecords a h log s).trans (State.command_mbox_at hb hopen rfl),
    fun a h s _ hb hopen => (exec_getEventInterruptPolicy a h s).trans (State.command_mbox_at hb hopen rfl),
    fun a h s _ hb hopen => (exec_getFwInfo a h s).trans (State.command_mbox_at hb hopen rfl),
    fun a h s _ hb hopen => (exec_getTimestamp a h s).trans (State.command_mbox_at hb hopen rfl),
    fun a h s _ hb hopen => (exec_getSupportedLogs a h s).trans (State.command_mbox_at hb hopen rfl),
    fun a h s _ hb hopen => (exec_getLog a h celUuid s).trans (State.command_mbox_at hb hopen (if_pos rfl)),
    fun a h s _ hb hopen => (exec_identifyMemoryDevice a h s).trans (State.command_mbox_at hb hopen rfl),
    fun a h s _ hb hopen => (exec_getHealthInfo a h s).trans (State.command_mbox_at hb hopen rfl),
    fun a h s _ hb hopen => (exec_getAlertConfiguration a h s).trans (State.command_mbox_at hb hopen rfl),
    fun a h s _ hb hopen => (exec_getShutdownState a h s).trans (State.command_mbox_at hb hopen rfl)⟩

/-! ### Bulk transfers (R225, R268, R284) -/

/-- A bulk sub-operation at an open mailbox, from the block that it goes on from and what it makes of it. -/
theorem State.command_bulk {s : State} {a : Stamp} {h : Head} {maint : Bool} {f : Blk → Blk} {b c : Blk} (hb : s.blk.at a = b)
    (hopen : b.mailboxOpen h = true) (hf : f (b.touch (.mb h maint)) = c) : s.command a (fun x => x.bulkReq h maint f) = .next { s with blk := c } :=
  State.command_mbox_at hb hopen hf

/-- Settles O38: the transfer that is open, or that none is, and the checks choose the branch of each sub-operation. -/
theorem mailboxBulkTransfers : Obligations.MailboxBulkTransfers := by
  refine ⟨fun a h maint idx sub s b hb hopen hnone hst => ?_, fun a h maint idx sub total s b hb hopen hnone hst => ?_,
    fun a h maint off len chunk k s b hb hopen hk hwrite hchunk hoff hroom => ?_,
    fun a h maint off len chunk k s b hb hopen hk hread hlen hoff => ?_, fun a h maint crc k s b hb hopen hk => ?_,
    fun a h s b hb hopen hsome => ?_, fun a h k s b hb hk hsilent => ?_⟩
  · rw [exec_openRead]
    exact State.command_bulk hb hopen (by simp only [hnone, hst, Option.isSome_none, ne_eq, not_true_eq_false, Bool.false_eq_true, if_false])
  · rw [exec_openWrite]
    exact State.command_bulk hb hopen (by simp only [hnone, hst, Option.isSome_none, ne_eq, not_true_eq_false, Bool.false_eq_true, if_false])
  · rw [exec_data]
    subst hoff
    exact State.command_bulk hb hopen (by simp only [hk, hwrite, hchunk, hroom, beq_self_eq_true, decide_true, Bool.and_self, if_true])
  · rw [exec_data]
    exact State.command_bulk hb hopen (by simp only [hk, hread, hlen, hoff, decide_true, Bool.and_self, Bool.false_eq_true, if_false, if_true])
  · rw [exec_close]
    exact State.command_bulk hb hopen (by simp only [hk])
  · rw [exec_bulkAbort]
    exact State.command_mbox_at hb hopen (if_pos hsome)
  · rw [exec_bulkTransferTimeout]
    exact State.command_at hb (by simp only [hk, hsilent, if_true])

/-! ### Dynamic capacity (R214 to R217, R221) -/

/-- An Add whose checks pass makes the region (R216). -/
theorem Blk.addAction_of_checks {b : Blk} {src : Src} (hidle : b.regionBusy = false) (hst : b.addCheck (b.addWants (transOf src)) = 0) :
    b.addAction src = ((b.makeRegion (b.addWants (transOf src))).odSet 0x4800 0x09 0).wrote src 0x4800 0x07 0 := by
  simp only [Blk.addAction, hidle, hst, Bool.false_eq_true, if_false, if_true]

/-- A release action of a region that it names is done on it (R217). -/
theorem Blk.releaseAction_of_named {b : Blk} {src : Src} {g : Rgn} (sub : Nat) (f : Blk → Rgn → Blk) (hidle : b.regionBusy = false)
    (hheads : (b.addWants (transOf src)).heads ≠ []) (hg : b.namedRegion (transOf src) = some g) :
    b.releaseAction src sub f = ((f b g).odSet 0x4800 0x09 0).wrote src 0x4800 sub 0 := by
  simp only [Blk.releaseAction, hidle, hheads, hg, Bool.false_eq_true, if_false]

/-- Settles O40 (the payloads are log 31, the capacity report log 84): an admitted write runs its action, and each hypothesis chooses the branch of its command. -/
theorem dynamicCapacity : Obligations.DynamicCapacity := by
  refine ⟨fun a src c s b hb hw hidle hst => ?_, fun a g s b hb hg => ?_, fun a h extents g s b hb hopen hg hext => ?_,
    fun a h extents g s b hb hopen hg hext => ?_, fun a h late s b hb hlate => ?_, fun a h extents s b hb hopen hne hwhole => ?_,
    fun a src c g s b hb hw hidle hheads hg => ?_, fun a src c g s b hb hw hidle hheads hg => ?_, fun a rgn g s b hb hg htear hworks => ?_,
    fun a h s b hb hopen => ?_, fun a h s b hb hopen => ?_⟩
  · rw [exec_add]
    exact State.command_write hb hw (Blk.addAction_of_checks hidle hst)
  · rw [exec_addCapacityOffer]
    exact State.command_at hb (by simp only [hg])
  · subst hext
    rw [exec_addDynamicCapacityResponse]
    exact State.command_mbox_at hb hopen (by simp only [hg, and_self, if_true])
  · subst hext
    rw [exec_addDynamicCapacityResponse]
    exact State.command_mbox_at hb hopen (by simp only [hg])
  · subst hlate
    rw [exec_addResponseTimeout]
    exact State.command_at hb rfl
  · rw [exec_releaseDynamicCapacity]
    exact State.command_mbox_at hb hopen (by simp only [hne, hwhole, if_false, if_true])
  · rw [exec_releaseRequest]
    exact State.command_write hb hw (Blk.releaseAction_of_named 0x08 Blk.askRelease hidle hheads hg)
  · rw [exec_forcedRelease]
    exact State.command_write hb hw (Blk.releaseAction_of_named 0x0B Blk.forceRelease hidle hheads hg)
  · rw [exec_regionTeardown]
    exact State.command_at hb (by simp only [hg, htear, hworks, Bool.and_self, if_true])
  · rw [exec_getDynamicCapacityConfiguration]
    exact State.command_mbox_at hb hopen rfl
  · rw [exec_getDynamicCapacityExtentList]
    exact State.command_mbox_at hb hopen rfl

end Sys2Proof.Machine
end

section
/-! SUPPORT. The links: resets, training and power states, configuration space, component registers, DevLoad, CDAT and compliance, command by command (R208, R209, R212, R215, R229 to R231, R233 to R235). -/

namespace Sys2Proof.Machine

/-- A command that does `g` alone unless a check passes, where it passes: from the block at its stamp and what its effect makes of it. -/
theorem State.command_of_check {s : State} {a : Stamp} {p : Blk → Bool} {f g : Blk → Blk} {b c : Blk} (hb : s.blk.at a = b) (hp : p b = true)
    (hf : f b = c) : s.command a (fun x => if !p x then g x else f x) = .next { s with blk := c } :=
  State.command_at hb ((if_neg (by simp only [hp, Bool.not_true, Bool.false_eq_true, not_false_eq_true])).trans hf)

/-! ### Links and resets (R208, R209, R231, R233 to R235) -/

/-- Settles O46: each hypothesis chooses the branch of its command. -/
theorem linksAndResets : Obligations.LinksAndResets := by
  refine ⟨fun a h kind s b hb hpow => ?_, fun a h kind s b hb hpow => ?_, fun a h s b hb hrun => ?_, fun a h s b hb hlink => ?_,
    fun a h rate width flit s b hb htrain hdown hawake hrate hwidth hflit => ?_, fun a h s b hb hlink => ?_, fun a h s b hb hlink => ?_,
    fun a h s b hb hperst => ?_⟩
  · rw [exec_perstAssert]
    exact State.command_of_check hb hpow rfl
  · rw [exec_perstAssert]
    exact State.command_of_pos hb (by simp only [hpow, Bool.not_false])
  · rw [exec_functionLevelReset]
    exact State.command_of_pos hb hrun
  · rw [exec_linkDown]
    exact State.command_of_pos hb hlink
  · rw [exec_linkUp]
    have hwide : [1, 2, 4, 8, 16].contains width.val = true := by simpa using hwidth
    have hmode : (flit.val == 0 && rate.val == 4) = false := by rwa [← Bool.not_eq_true, Bool.and_eq_true, beq_iff_eq, beq_iff_eq]
    exact State.command_of_pos hb (by
      simp only [htrain, bne_iff_ne.2 hdown, bne_iff_ne.2 hawake, bne_iff_ne.2 hrate, hwide, hmode, Bool.not_false, Bool.and_self])
  · rw [exec_l1Entry]
    exact State.command_of_pos hb hlink
  · rw [exec_l1Exit]
    exact State.command_of_pos hb hlink
  · rw [exec_perstDeassert]
    exact State.command_of_pos hb hperst

/-! ### Configuration space and component registers (R208, R212, R215, R229, R230) -/

/-- Settles O47 (fields of configuration space that keep what is written are log 26, the compliance answer is log 4; the CDAT is R215's): the form of the request, and where a check stands its hypothesis, choose the branch. -/
theorem linkRegisters : Obligations.LinkRegisters := by
  refine ⟨fun a h off s b hb hopen => ?_, fun a h bar v s b hb hopen => ?_, fun a h e addr data masked s b hb hopen => ?_,
    fun a h off v s b hb hopen hid hclass => ?_, fun a h n base size skip ways gran pos lock s b hb hopen hcommit => ?_,
    fun a h n s b hb hopen hlock hlast => ?_, fun a h db bg s b hb hopen => ?_, fun a h s b hb hrun => ?_, fun a h s b hb hopen => ?_,
    fun a h s b hb hopen => ?_⟩
  · rw [exec_configurationRequest]
    exact State.command_of_check hb hopen rfl
  · rw [exec_configurationRequest]
    exact State.command_of_check hb hopen rfl
  · rw [exec_configurationRequest]
    exact State.command_of_check hb hopen rfl
  · rw [exec_configurationRequest]
    exact State.command_of_check hb hopen (if_neg (not_or.2 ⟨hid, hclass⟩))
  · rw [exec_componentRegisterWrite]
    exact State.command_of_check hb hopen (if_pos hcommit)
  · rw [exec_componentRegisterWrite]
    exact State.command_of_check hb hopen (by simp only [hlock, hlast, Bool.or_self, Bool.false_eq_true, if_false])
  · rw [exec_componentRegisterWrite]
    exact State.command_of_check hb hopen rfl
  · rw [exec_devloadWindow]
    exact State.command_of_check hb hrun rfl
  · rw [exec_cxlComplianceRequest]
    exact State.command_of_pos hb hopen
  · rw [exec_cdatRead]
    exact State.command_of_pos hb hopen

end Sys2Proof.Machine
end

section
/-! SUPPORT. Keys, calibration sets and escrow blobs as objects, the regions' locks and re-key passes, SPDM and IDE, command by command; the statements of the family 10_damask_security (R135, R244 to R247, R249 to R252, R256, R257, R266, R287, R289). -/

namespace Sys2Proof.Machine

open Sys2Proof.Safety

/-! ### Words as bytes (R4) -/

/-- A word of n bytes reads back whole from its bytes. -/
theorem leNat_leBytes_toNat {n w : Nat} (hw : w = 8 * n) (x : BitVec w) : leNat (leBytes n x.toNat) = x.toNat := by
  have hlt : x.toNat < 256 ^ n := x.isLt.trans_eq (hw ▸ pow_mul 2 8 n)
  rw [leNat_leBytes, Nat.mod_eq_of_lt hlt]

theorem packBytes_leBytes_toNat {n w : Nat} (hw : w = 8 * n) (x : BitVec w) : packBytes w (leBytes n x.toNat) = x := by
  rw [packBytes, leNat_leBytes_toNat hw, BitVec.ofNat_toNat, BitVec.setWidth_eq]

/-! ### Objects applied (R135, R225, R250 to R252, R266, R287, R289) -/

/-- An object's transfer that is admitted, from the block that the object is applied to and what that gives. -/
theorem State.command_object {s : State} {a : Stamp} {src : Src} {idx sub st : Nat} {bytes : List Byte} {f : Blk → Blk × Nat} {b c d : Blk}
    (hb : s.blk.at a = b) (hw : OpensWrite b src idx sub bytes c) (hf : f c = (d, st)) :
    s.command a (fun x => x.objectReq src idx sub bytes f) = .next { s with blk := d.bulkAnswer src 11 idx sub st } :=
  State.command_at hb ((hw f).trans (by rw [hf]))

theorem exec_keyEncryptionKey_of_admitted {a : Stamp} {src : Src} {key : BitVec 256} {c : Blk} {s : State} {b : Blk} (hb : s.blk.at a = b)
    (hw : OpensWrite b src 0x6820 0x01 (leBytes 32 key.toNat) c) :
    exec (.keyEncryptionKey a src key) s = .next { s with blk := (c.putKek (packBytes 256 (leBytes 32 key.toNat))).bulkAnswer src 11 0x6820 0x01 0 } :=
  (exec_keyEncryptionKey a src key s).trans (State.command_object hb hw (if_neg (not_not_intro (length_leBytes 32 key.toNat))))

/-- Settles O37: an admitted transfer applies its object, whose checks choose the branch; the escrow blob goes out under the KEK. -/
theorem keysAndObjects : Obligations.KeysAndObjects := by
  refine ⟨fun a src key c s b hb hw => ?_, fun a src key c s b hb hw hopen => ?_, fun a src key c s b hb hw => exec_keyEncryptionKey_of_admitted hb hw,
    fun a src blob c s b hb hw => ?_, fun a src blob c s b hb hw => ?_, fun a src c kek s b hb hreq hst hnone hkek => ?_⟩
  · rw [exec_maintenanceKey]
    exact State.command_object hb hw (if_neg (not_not_intro (length_leBytes 32 key.toNat)))
  · rw [exec_frameMacKey]
    exact State.command_object hb hw ((if_neg (not_not_intro (length_leBytes 32 key.toNat))).trans (if_neg (Bool.eq_false_iff.1 hopen)))
  · rw [exec_calibrationImport]
    exact State.command_object hb hw rfl
  · rw [exec_escrowImport]
    exact State.command_object hb hw rfl
  · rw [exec_escrowExport]
    exact State.command_request hb hreq (by simp only [hst, hnone, hkek, Option.isSome_none, ne_eq, not_true_eq_false, Bool.false_eq_true, if_false])

/-! ### The KEK (R250) -/

theorem Blk.report_damask (b : Blk) (q : Report) : (b.report q).damask = b.damask :=
  (Blk.report_only (m₀ := [.out, .od, .hA, .hB, .can, .linen]) b q (by decide) (only_refl _ _)).same .damask (by decide)

theorem Blk.itemWrite_damask (b : Blk) (item : Nat) : (b.itemWrite item).damask = b.damask :=
  (Blk.itemWrite_only (m₀ := [.out, .od, .hA, .hB, .can, .linen, .felt]) b item (by decide) (only_refl _ _)).same .damask (by decide)

theorem Blk.bulkAnswer_damask (b : Blk) (src : Src) (op idx sub st total crc : Nat) (chunk : List Byte) :
    (b.bulkAnswer src op idx sub st total crc chunk).damask = b.damask :=
  (Blk.bulkAnswer_only (m₀ := [.out, .can]) b src op idx sub st total crc chunk (by decide) (only_refl _ _)).same .damask (by decide)

/-- A new KEK replaces the old one, whether or not the escrow blob changes with it. -/
theorem Blk.putKek_kek (b : Blk) (key : BitVec 256) : (b.putKek key).damask.kek = some key := by
  unfold Blk.putKek Blk.escrowChanged
  dsimp only
  split <;> simp only [Blk.report_damask, Blk.onHB_damask, Blk.onHA_damask, Blk.itemWrite_damask, Blk.onDamask_damask]

/-- The dictionary's row of the KEK: a BLOB written at maintenance level, over the mailboxes only. -/
theorem odRow_kek : odRow? 0x6820 0x01 = some ⟨0x6820, 1, 1, 0x01, .blob, .blob, 0, 2, 0, 0, 0, false, 3, false⟩ := by decide +kernel

theorem odRow_kekCheck : odRow? 0x6820 0x02 = some ⟨0x6820, 1, 1, 0x02, .u64, .ro, 0, 3, 0, 0, 18446744073709551615, false, 7, false⟩ := by decide +kernel

/-- OD 0x6820.02 reads the check value of the KEK that is held. -/
theorem Blk.odBytes_kekCheck {b : Blk} {key : BitVec 256} (t : Nat) (hkek : b.damask.kek = some key) :
    b.odBytes t 0x6820 0x02 = leBytes 8 (kekCheck key).toNat := by
  have hvalue : b.odNumber t 0x6820 0x02 = (kekCheck key).toNat := by
    simp [Blk.odNumber, Blk.computed, Blk.damaskValue, hkek]
  simp [Blk.odBytes, odRow_kekCheck, odTypeLen, hvalue]

/-- A write level and a transport that pass: the level is reached and the transport permitted. -/
theorem Blk.rights_of_checkRights {b : Blk} {src : Src} {r : OdRow} (hlevel : r.wlevel ≠ 3) (h : b.checkRights src r = 0) :
    r.wlevel ≤ b.level src ∧ r.permits src = true := by
  rw [Blk.checkRights, if_neg hlevel] at h
  split_ifs at h with hlow hdenied
  exact ⟨not_lt.1 hlow, by simpa using hdenied⟩

theorem Blk.level_le_two (b : Blk) (src : Src) : b.level src ≤ 2 := by
  unfold Blk.level
  split
  · exact le_rfl
  · cases src with
    | mb => exact one_le_two
    | can => dsimp only; split <;> decide

/-- An Open write whose checks pass has passed those of its level and transport, and that of NVWP_N where the entry has one. -/
theorem Blk.checkOpenWrite_passed {b : Blk} {src : Src} {idx sub : Nat} {r : OdRow} (hrow : odRow? idx sub = some r)
    (h : b.checkOpenWrite src idx sub = 0) : b.checkRights src r = 0 ∧ (entryProtected idx sub = true → b.nvwp = true) := by
  have hrights : b.checkRights src r = 0 := by
    by_contra hfail
    simp [Blk.checkOpenWrite, hrow, hfail] at h
  refine ⟨hrights, fun hentry => ?_⟩
  by_contra hnvwp
  have hlow : b.nvwp = false := Bool.eq_false_iff.2 hnvwp
  simp only [Blk.checkOpenWrite, hrow, hrights, hentry, hlow, ne_eq, not_true_eq_false, Bool.not_false, Bool.and_self, if_false, if_true] at h
  split_ifs at h

/-- Settles O23: the checks of the KEK's row say who may write it; the KEK then held is the one that its check value is read of. -/
theorem keyEncryptionKeyRule : Obligations.KeyEncryptionKeyRule := by
  refine ⟨fun b src hst => ?_, fun a src key s b c hb hw => ⟨_, exec_keyEncryptionKey_of_admitted hb hw, ?_⟩⟩
  · obtain ⟨hrights, hprot⟩ := Blk.checkOpenWrite_passed odRow_kek hst
    obtain ⟨hlevel, htrans⟩ := Blk.rights_of_checkRights (by decide) hrights
    refine ⟨?_, (b.level_le_two src).antisymm hlevel, hprot rfl⟩
    cases src with
    | mb h m => exact ⟨h, m, rfl⟩
    | can =>
      have hbit : Nat.testBit 3 2 = true := htrans
      exact absurd hbit (by decide)
  · have hkek : ((c.putKek (packBytes 256 (leBytes 32 key.toNat))).bulkAnswer src 11 0x6820 0x01 0).damask.kek = some key := by
      rw [Blk.bulkAnswer_damask, Blk.putKek_kek, packBytes_leBytes_toNat (n := 32) rfl]
    exact ⟨hkek, Blk.odBytes_kekCheck _ hkek⟩

/-! ### Region locks, tag lines and re-key passes (R244 to R247, R249) -/

/-- Settles O41: an admitted write names its region by the number that its bytes spell; the others by their conditions. -/
theorem regionSecurity : Obligations.RegionSecurity := by
  refine ⟨fun a src r c s b hb hw => ?_, fun a src r c s b hb hw => ?_, fun a s b hb hworks => ?_, fun a r e s b hb hworks he => ?_,
    fun a r s b hb hworks hnone hexhausted htop hroom => ?_⟩
  · rw [exec_unlockRegion]
    exact State.command_write hb hw (congrArg (c.unlockRegion src) (leNat_leBytes_toNat (n := 4) rfl r))
  · rw [exec_resetRegionCount]
    exact State.command_write hb hw (congrArg (c.resetCount src) (leNat_leBytes_toNat (n := 4) rfl r))
  · rw [exec_tagWriteback]
    exact State.command_of_pos hb hworks
  · rw [exec_rekeyPass]
    exact State.command_of_check hb hworks (by simp only [he])
  · rw [exec_rekeyPass]
    exact State.command_of_check hb hworks (by
      simp only [hnone, hexhausted, htop, not_le.2 hroom, Bool.not_true, Bool.false_eq_true, if_false])

/-! ### SPDM and IDE (R256, R257) -/

section
variable {s : State} {a : Stamp} {h : Head} {f : Blk → Blk} {b c : Blk} (hb : s.blk.at a = b) (hopen : b.configOpen h = true) (hmgmt : b.mgmt = true)
include hb hopen hmgmt

/-- A message that reaches a head's responder, from the block at its stamp and what its effect makes of it. -/
theorem State.command_spdm (hf : f b = c) : (s.command a fun x => x.spdmReq h f) = .next { s with blk := c } :=
  State.command_at hb ((if_pos (Bool.and_eq_true_iff.2 ⟨hopen, hmgmt⟩)).trans hf)

/-- A message that needs the negotiation, once it has ended. -/
theorem State.command_afterAlgs (halgs : (b.head h).spdm.algs = true) (hf : f b = c) :
    (s.command a fun x => x.spdmReq h fun y => y.afterAlgs h f) = .next { s with blk := c } :=
  State.command_spdm hb hopen hmgmt ((if_pos halgs).trans hf)

/-- A message of a secured session, while it is up. -/
theorem State.command_inSession (hup : (b.head h).spdm.up = true) (hf : f b = c) :
    (s.command a fun x => x.spdmReq h fun y => y.inSession h f) = .next { s with blk := c } :=
  State.command_spdm hb hopen hmgmt ((if_pos hup).trans hf)

end

/-- Settles O60 (the response codes and the order of messages are log 35): the connection's state admits each message, and where the message has a form of its own its hypothesis chooses the branch. -/
theorem spdmAndIde : Obligations.SpdmAndIde := by
  refine ⟨fun a h s b hb hopen hmgmt => ?_, fun a h s b hb hopen hmgmt hversion => ?_, fun a h offered s b hb hopen hmgmt hcaps hoffered => ?_,
    fun a h s b hb hopen hmgmt halgs => ?_, fun a h slot s b hb hopen hmgmt halgs hslot => ?_, fun a h slot nonce s b hb hopen hmgmt halgs hslot => ?_,
    fun a h index nonce m s b hb hopen hmgmt halgs hm => ?_, fun a h exchange s b hb hopen hmgmt halgs hsecret => ?_,
    fun a h verify k s b hb hopen hmgmt hsecret hdown => ?_, fun a h s b hb hopen hmgmt hup => ?_, fun a h s b hb hopen hmgmt hup => ?_,
    fun a h s b hb hopen hmgmt hup => ?_, fun a h pcie key skid s b hb hopen hmgmt hup => ?_, fun a h pcie k s b hb hlink hkey => ?_⟩
  · rw [exec_getVersion]
    exact State.command_spdm hb hopen hmgmt rfl
  · rw [exec_getCapabilities]
    exact State.command_spdm hb hopen hmgmt (if_pos hversion)
  · rw [exec_negotiateAlgorithms]
    exact State.command_spdm hb hopen hmgmt (if_pos (Bool.and_eq_true_iff.2 ⟨hcaps, hoffered⟩))
  · rw [exec_getDigests]
    exact State.command_afterAlgs hb hopen hmgmt halgs rfl
  · rw [exec_getCertificate]
    exact State.command_afterAlgs hb hopen hmgmt halgs (if_pos hslot)
  · rw [exec_challenge]
    exact State.command_afterAlgs hb hopen hmgmt halgs (if_pos hslot)
  · rw [exec_getMeasurements]
    exact State.command_afterAlgs hb hopen hmgmt halgs (by simp only [hm])
  · rw [exec_keyExchange]
    exact State.command_afterAlgs hb hopen hmgmt halgs (by simp only [hsecret, Option.isSome_none, Bool.false_eq_true, if_false])
  · rw [exec_finish]
    exact State.command_spdm hb hopen hmgmt (by simp only [hsecret, hdown, Bool.false_eq_true, if_false])
  · rw [exec_keyUpdate]
    exact State.command_inSession hb hopen hmgmt hup rfl
  · rw [exec_spdmHeartbeat]
    exact State.command_inSession hb hopen hmgmt hup rfl
  · rw [exec_endSession]
    exact State.command_inSession hb hopen hmgmt hup rfl
  · rw [exec_ideKeyManagement]
    exact State.command_inSession hb hopen hmgmt hup rfl
  · rw [exec_ideFailure]
    exact State.command_of_pos hb ⟨hlink, Option.isSome_of_eq_some hkey⟩

end Sys2Proof.Machine
end

section
/-! SUPPORT. Register writes without maintenance access, dictionary requests that pass their checks, staged sets and maintenance sessions, command by command; the statements of the family 11_object_dictionary (R9, R266 to R279, R298, R299). -/

namespace Sys2Proof.Machine

open Sys2Proof.Safety

/-! ### Register writes without maintenance access (R9, R267, R298, R299) -/

/-- Without maintenance access every register refuses a direct write. -/
theorem Blk.iRefused_of_no_access {b : Blk} {h : Head} (addr : BitVec 32) (hmaint : b.maintAt h = false) : b.iRefused h addr = true := by
  simp only [Blk.iRefused, hmaint, Bool.not_false, Bool.or_true, Bool.true_or]

/-- A write of IDATA that the register refuses: after the acknowledgement of the posted write REFUSED is set, and the window moves where INCW is set (R296, log 29). -/
theorem exec_idataWrite_of_refused {a : Stamp} {h : Head} {bytes : Nat} {v : BitVec 64} {s : State} {b : Blk} (hb : s.blk.at a = b)
    (hopen : b.barOpen h = true) (hbytes : bytes = 4 ∨ bytes = 8) (hwidth : (b.head h).ctl.width ≤ bytes)
    (hvalid : iValid (b.head h).ctl.iaddr (b.head h).ctl.width = true) (hgated : (b.ackPosted h).iGated (b.head h).ctl.iaddr = false)
    (hrefused : (b.ackPosted h).iRefused h (b.head h).ctl.iaddr = true) :
    exec (.idataWrite a h bytes v) s = .next { s with
      blk := ((b.ackPosted h).refuseWrite h (b.head h).ctl.iaddr).onCtl h fun c => if c.ictl.getLsbD 3 then c.advance else c } := by
  have hsize : ¬((bytes ≠ 4 ∧ bytes ≠ 8) ∨ bytes < (b.head h).ctl.width) := by omega
  rw [exec_idataWrite]
  exact State.command_at hb (by
    simp only [hopen, hsize, hvalid, hgated, hrefused, Bool.not_true, Bool.false_eq_true, if_false, if_true])

/-- With no write posted there is nothing to acknowledge. -/
theorem Blk.ackPosted_of_none {b : Blk} {h : Head} (hnone : (b.head h).ctl.posted = none) : b.ackPosted h = b := by
  simp only [Blk.ackPosted, hnone]

theorem Blk.onCtl_regs (b : Blk) (h : Head) (f : Ctl → Ctl) : (b.onCtl h f).regs = b.regs :=
  (Blk.onCtl_only (m₀ := [.hA, .hB]) b h f (by decide) (only_refl _ _)).same .regs (by decide)

theorem Blk.refuseWrite_regs (b : Blk) (h : Head) (addr : BitVec 32) : (b.refuseWrite h addr).regs = b.regs :=
  (Blk.refuseWrite_only (m₀ := [.out, .od, .hA, .hB, .can, .linen]) b h addr (by decide) (only_refl _ _)).same .regs (by decide)

/-- Settles O24 (that REFUSED is decided at the access, after the acknowledgement of R298, is log 29): without maintenance access the register refuses, and a refusal leaves the registers. -/
theorem maintenanceAccessGuardsRegisters : Obligations.MaintenanceAccessGuardsRegisters := by
  refine ⟨fun _ => ⟨Iff.rfl, Iff.rfl⟩, fun a h bytes v s b hb hopen hbytes hwidth hvalid hgated hmaint => ?_⟩
  have hexec := exec_idataWrite_of_refused (v := v) hb hopen hbytes hwidth hvalid hgated (Blk.iRefused_of_no_access _ hmaint)
  refine ⟨hexec, fun hnone => ⟨_, hexec, ?_⟩⟩
  rw [Blk.onCtl_regs, Blk.refuseWrite_regs, Blk.ackPosted_of_none hnone]

/-! ### Requests that pass their checks (R268, R270 to R272) -/

/-- A value that the set may take is staged (R272). -/
theorem Blk.stageAction_of_room {b : Blk} {src : Src} {idx sub : Nat} {val : List Byte} {l : NMap (List Byte)} (hrange : stageRange idx (leNat val) = true)
    (hmay : b.muslin.mayStage (transOf src) = true) (hput : b.muslin.stagePut (odKey idx sub) val = some l) :
    b.stageAction src idx sub val = (b.onMuslin fun m => { m with state := 1, owner := transOf src, staged := l, lastAct := b.now }).reply src
      { op := 3, idx := idx, sub := sub, st := 0 } := by
  simp only [Blk.stageAction, hrange, hmay, hput, Bool.not_true, Bool.false_eq_true, if_false]

/-- The defaults enter a set that has room for them (R268). -/
theorem Blk.defaultsAction_of_room {b : Blk} {src : Src} {l : NMap (List Byte)} (hl : stagedDefaults.foldl (fun m e => m.put e.1 e.2) b.muslin.staged = l)
    (hmay : b.muslin.mayStage (transOf src) = true) (hroom : l.length ≤ 1024 ∧ ({ b.muslin with staged := l } : Muslin).bytes ≤ 65536) :
    b.defaultsAction src =
      (b.onMuslin fun m => { m with state := 1, owner := transOf src, staged := l, lastAct := b.now }).wrote src 0x1200 0x0D 0 := by
  simp only [Blk.defaultsAction, hl, hmay, hroom, and_self, Bool.not_true, Bool.false_eq_true, if_false, if_true]

/-- Settles O34: an admitted request goes on from its block, and the checks that pass choose the branch. -/
theorem dictionaryReadAndWrite : Obligations.DictionaryReadAndWrite := by
  refine ⟨fun a src idx sub c s b hb hreq hst hchal => ?_, fun a src idx sub val c s b hb hw => ?_,
    fun a src idx sub val c l s b hb hreq hst hrange hmay hput => ?_, fun a src c s b hb hreq => ?_, fun a src c s b hb hw hmay hlen hsize => ?_⟩
  · rw [exec_read]
    exact State.command_request hb hreq ((if_neg (not_not_intro hst)).trans (if_neg hchal))
  · rw [exec_write]
    exact State.command_write hb hw rfl
  · rw [exec_stage]
    exact State.command_request hb hreq ((if_pos hst).trans (Blk.stageAction_of_room hrange hmay hput))
  · rw [exec_status]
    exact State.command_request hb hreq rfl
  · rw [exec_stageDefaults]
    exact State.command_write hb hw (Blk.defaultsAction_of_room rfl hmay ⟨hlen, hsize⟩)

/-! ### Staged sets (R272 to R279) -/

/-- Settles O35: each hypothesis chooses the branch of its command. -/
theorem stagedSets : Obligations.StagedSets := by
  refine ⟨fun a src inst tick c w s b hb hreq hw hstate howner => ?_, fun a src c s b hb hreq howner hstate => ?_, fun a s b hb hstate hsilent => ?_,
    fun a shadowOk s b hb hstate hrules => ?_, fun a noAck pauseNs s b hb hstate hinstant hopen hrules hack => ?_,
    fun a t ds s b hb hstuck hlate => ?_, fun a s b hb hrun => ?_⟩
  · rw [exec_commit]
    exact State.command_request hb hreq (by simp only [hw, hstate, howner, one_ne_zero, ne_eq, not_true_eq_false, or_self, if_false])
  · have hbusy : c.muslin.state ≠ 0 := by omega
    rw [exec_abort]
    exact State.command_request hb hreq ((if_neg hbusy).trans (if_pos ⟨howner, hstate⟩))
  · rw [exec_stagingTimeout]
    exact State.command_of_pos hb ⟨hstate, hsilent⟩
  · rw [exec_commitCheckEnd]
    refine State.command_at hb ((if_neg (not_not_intro hstate)).trans ?_)
    split
    next n hbroken => exact absurd (hrules.symm.trans hbroken) (Option.some_ne_none n).symm
    next => rfl
  · subst hack
    rw [exec_applyInstant]
    exact State.command_at hb (by
      simp only [hstate, hinstant, hopen, hrules, ne_eq, not_true_eq_false, Bool.not_true, Bool.false_eq_true, or_self, if_false, if_true])
  · rw [exec_applyFault]
    exact State.command_at hb (by simp only [hstuck, Nat.not_lt.2 hlate, if_false])
  · rw [exec_parameterPersist]
    exact State.command_of_pos hb hrun

/-! ### Maintenance sessions (R265 to R267) -/

/-- A response opens a session when no lockout holds: under a key when it is right for it, with no key while NVWP_N is high (R266). -/
theorem Blk.responseAction_of_right {b : Blk} {src : Src} {v : BitVec 64} (haccess : ¬(transOf src = 3 ∧ b.can.access ≠ 2))
    (hlock : (b.session (transOf src)).lockout = none) (hnokey : b.felt.maintKey = none → b.nvwp = true)
    (hkey : ∀ k, b.felt.maintKey = some k → b.responseRight (transOf src) k v = true) : b.responseAction src v = b.openSession src := by
  cases hmaint : b.felt.maintKey with
  | none => simp only [Blk.responseAction, haccess, hlock, hmaint, hnokey hmaint, Bool.false_eq_true, if_false, if_true]
  | some k => simp only [Blk.responseAction, haccess, hlock, hmaint, hkey k hmaint, Bool.false_eq_true, if_false, if_true]

/-- Settles O36: the response is the number that its bytes spell; the others by their conditions. -/
theorem maintenanceSessions : Obligations.MaintenanceSessions := by
  refine ⟨fun a src c s b hb hreq => ?_, fun a src v c s b hb hw haccess hlock hnokey hkey => ?_, fun a src c s b hb hw => ?_,
    fun a src s b hb hmaint hidle => ?_, fun a src e s b hb hlock hend => ?_⟩
  · rw [exec_challengeRead]
    exact State.command_request hb hreq rfl
  · have hv : BitVec.ofNat 64 (leNat (leBytes 8 v.toNat)) = v := packBytes_leBytes_toNat (n := 8) rfl v
    rw [exec_response]
    exact State.command_write hb hw (by rw [hv, Blk.responseAction_of_right haccess hlock hnokey hkey])
  · rw [exec_closeMaintenance]
    exact State.command_write hb hw rfl
  · rw [exec_maintenanceIdleTimeout]
    exact State.command_of_pos hb (Bool.and_eq_true_iff.2 ⟨hmaint, decide_eq_true hidle⟩)
  · rw [exec_responseLockoutEnd]
    exact State.command_at hb (by simp only [hlock, hend, if_true])

end Sys2Proof.Machine
end

section
/-! SUPPORT. The idle step, the time and NVWP_N, the effective mode and FAULT_N, over every step; the statements of the family 13_modes_boot (R311, R312, R354, R379, R403, R418). -/

namespace Sys2Proof.Machine

open Sys2Proof.Safety

/-! ### The idle step, the time and NVWP_N (R379, R418) -/

/-- Settles O2 (the idle step is log 1). -/
theorem idleStepChangesNothing : Obligations.IdleStepChangesNothing := step_nil

/-- No command's frame names the time or NVWP_N: both come from the stamp alone (log 1). -/
theorem stamp_parts_not_touched (c : Instr) : Part.now ∉ touches c ∧ Part.nvwp ∉ touches c := by
  cases c <;> exact of_decide_eq_true rfl

/-- Settles O6 (the model's time is log 1): a command's frame leaves out what its stamp gives. -/
theorem timeAndWritePinFollowTheStamp : Obligations.TimeAndWritePinFollowTheStamp := by
  intro c s t h
  obtain ⟨hnow, hnvwp⟩ := stamp_parts_not_touched c
  have htime : t.blk.now = max s.blk.now (stampOf c).t := (exec_only c s t h).same .now hnow
  have hpin : t.blk.nvwp = (stampOf c).nvwp := (exec_only c s t h).same .nvwp hnvwp
  exact ⟨htime, hpin, htime ▸ Nat.le_max_left ..⟩

/-! ### The effective mode and the flags (R311, R312) -/

theorem topBit_le (n w : Nat) : topBit n w ≤ n := by
  induction n with
  | zero => exact Nat.le_refl 0
  | succ n ih =>
    unfold topBit
    split
    · exact Nat.le_refl _
    · exact Nat.le_succ_of_le ih

theorem testBit_topBit {n w : Nat} (h : topBit n w ≠ 0) : w.testBit (topBit n w) = true := by
  induction n with
  | zero => exact absurd rfl h
  | succ n ih =>
    unfold topBit at h ⊢
    split at h
    next hbit => rwa [if_pos hbit]
    next hbit => rw [if_neg hbit]; exact ih h

theorem le_topBit_of_testBit {n m w : Nat} (hm : m ≤ n) (h : w.testBit m = true) : m ≤ topBit n w := by
  induction n with
  | zero => exact hm
  | succ n ih =>
    unfold topBit
    split
    next => exact hm
    next hbit =>
      have hne : m ≠ n + 1 := by
        rintro rfl
        exact hbit h
      exact ih (by omega)

/-- A mode other than M0 is in effect only while its condition holds (R312). -/
theorem Blk.holds_eff {b : Blk} (h : b.eff ≠ 0) : b.holds b.eff = true := testBit_topBit h

/-- No mode above the effective one has its condition (R312). -/
theorem Blk.holds_above_eff {b : Blk} {n : Nat} (h : b.eff < n) : b.holds n = false := by
  rcases Nat.lt_or_ge n 12 with hn | hn
  · exact Bool.eq_false_iff.2 fun hbit => absurd (le_topBit_of_testBit (Nat.le_of_lt_succ hn) hbit) (Nat.not_le.2 h)
  · exact BitVec.getLsbD_of_ge _ _ hn

/-- M11 has no mode above it, so that it is in effect exactly while its condition holds. -/
theorem Blk.eff_eq_eleven_iff {b : Blk} : b.eff = 11 ↔ b.holds 11 = true := by
  constructor
  · intro h
    have heff := Blk.holds_eff (b := b) (by omega)
    rwa [h] at heff
  · intro h
    exact Nat.le_antisymm (topBit_le 11 _) (le_topBit_of_testBit (Nat.le_refl 11) h)

theorem flagsOf_testBit (c : BitVec 12) {n : Nat} (hn : n < 12) :
    (flagsOf c).testBit n = (decide (1 ≤ n) && c.getLsbD n && decide (n ≠ effOf c)) := by
  have hmodes : (0xFFE : Nat).testBit n = decide (1 ≤ n) := by
    revert n
    decide
  have hall : (0xFFF : Nat).testBit n = true := by
    revert n
    decide
  simp only [flagsOf, Nat.testBit_and, Nat.testBit_xor, Nat.one_shiftLeft, Nat.testBit_two_pow, BitVec.testBit_toNat, hmodes, hall, Bool.true_xor,
    ← decide_not, ne_eq, eq_comm (a := n), Bool.and_comm (c.getLsbD n)]

theorem flagsOf_lt (c : BitVec 12) : flagsOf c < 4096 :=
  Nat.lt_of_le_of_lt (Nat.and_le_left.trans Nat.and_le_right) (by decide)

/-- The parts of the voted word: the effective mode in [15:12], the flags in [11:0] (R312). -/
theorem modeWord_parts (c : BitVec 12) : modeWord c / 4096 = effOf c ∧ modeWord c % 4096 = flagsOf c ∧ modeWord c < 65536 := by
  have hflags := flagsOf_lt c
  have heff : effOf c ≤ 11 := topBit_le 11 _
  unfold modeWord
  omega

/-- Settles O19: `topBit` finds the highest bit that is set, and the flags are the other bits of M1 to M11. -/
theorem theHighestConditionIsInEffect : Obligations.TheHighestConditionIsInEffect :=
  ⟨fun _ => ⟨topBit_le 11 _, Blk.holds_eff, fun _ => Blk.holds_above_eff⟩, fun c _ => flagsOf_testBit c, modeWord_parts⟩

/-! ### FAULT_N (R354, R403) -/

/-- A command whose frame leaves out the modes and the clocks keeps FAULT_N with them; the others set it again wherever they change what it follows. -/
theorem exec_keeps_fault_pin (c : Instr) (s t : State) (h₀ : FaultPinRight (s.blk.at (stampOf c))) (h : exec c s = .next t) : FaultPinRight t.blk := by
  cases c with
  | acceptance => exact execAcceptance_pin (h₀ := h₀) (h := h)
  | readIssue => exact execReadIssue_pin (h₀ := h₀) (h := h)
  | readTransfer => exact execReadTransfer_pin (h₀ := h₀) (h := h)
  | reconstructionComplete => exact execReconstructionComplete_pin (h₀ := h₀) (h := h)
  | fillReturn => exact execFillReturn_pin (h₀ := h₀) (h := h)
  | deadlineExpiry => exact execDeadlineExpiry_pin (h₀ := h₀) (h := h)
  | deepRecoveryTimeout => exact execDeepRecoveryTimeout_pin (h₀ := h₀) (h := h)
  | deepRecoverySuccess => exact execDeepRecoverySuccess_pin (h₀ := h₀) (h := h)
  | coldPathWrite => exact execColdPathWrite_pin (h₀ := h₀) (h := h)
  | hotAppend => exact execHotAppend_pin (h₀ := h₀) (h := h)
  | programComplete => exact execProgramComplete_pin (h₀ := h₀) (h := h)
  | tileResetComplete => exact execTileResetComplete_pin (h₀ := h₀) (h := h)
  | writeThroughWrite => exact execWriteThroughWrite_pin (h₀ := h₀) (h := h)
  | prefetchRead => exact execPrefetchRead_pin (h₀ := h₀) (h := h)
  | eraseComplete => exact execEraseComplete_pin (h₀ := h₀) (h := h)
  | injectPoison => exact execInjectPoison_pin (h₀ := h₀) (h := h)
  | write => exact execWrite_pin (h₀ := h₀) (h := h)
  | applyInstant => exact execApplyInstant_pin (h₀ := h₀) (h := h)
  | applyFault => exact execApplyFault_pin (h₀ := h₀) (h := h)
  | close => exact execClose_pin (h₀ := h₀) (h := h)
  | bulkClose => exact execBulkClose_pin (h₀ := h₀) (h := h)
  | regionTeardown => exact execRegionTeardown_pin (h₀ := h₀) (h := h)
  | escrowImport => exact execEscrowImport_pin (h₀ := h₀) (h := h)
  | retireDie => exact execRetireDie_pin (h₀ := h₀) (h := h)
  | retireChannel => exact execRetireChannel_pin (h₀ := h₀) (h := h)
  | powerDownToStandby => exact execPowerDownToStandby_pin (h₀ := h₀) (h := h)
  | idataRead => exact execIdataRead_pin (h₀ := h₀) (h := h)
  | idataWrite => exact execIdataWrite_pin (h₀ := h₀) (h := h)
  | indirectAcknowledge => exact execIndirectAcknowledge_pin (h₀ := h₀) (h := h)
  | indirectTimeout => exact execIndirectTimeout_pin (h₀ := h₀) (h := h)
  | registerWrite => exact execRegisterWrite_pin (h₀ := h₀) (h := h)
  | safeStopRelease => exact execSafeStopRelease_pin (h₀ := h₀) (h := h)
  | forcedPowerCutInput => exact execForcedPowerCutInput_pin (h₀ := h₀) (h := h)
  | forcedPowerCutRail => exact execForcedPowerCutRail_pin (h₀ := h₀) (h := h)
  | forcedClockSwitchIrc => exact execForcedClockSwitchIrc_pin (h₀ := h₀) (h := h)
  | forcedClockSwitchRefclk => exact execForcedClockSwitchRefclk_pin (h₀ := h₀) (h := h)
  | voteCorrection => exact execVoteCorrection_pin (h₀ := h₀) (h := h)
  | voteThreeWayDisagreement => exact execVoteThreeWayDisagreement_pin (h₀ := h₀) (h := h)
  | parityMismatch => exact execParityMismatch_pin (h₀ := h₀) (h := h)
  | telemetryWindowAccess => exact execTelemetryWindowAccess_pin (h₀ := h₀) (h := h)
  | operatingTimeTick => exact execOperatingTimeTick_pin (h₀ := h₀) (h := h)
  | hotEpochEnd => exact execHotEpochEnd_pin (h₀ := h₀) (h := h)
  | demotionCommit => exact execDemotionCommit_pin (h₀ := h₀) (h := h)
  | journalRecordIssue => exact execJournalRecordIssue_pin (h₀ := h₀) (h := h)
  | garbageCollection => exact execGarbageCollection_pin (h₀ := h₀) (h := h)
  | wearIncrement => exact execWearIncrement_pin (h₀ := h₀) (h := h)
  | trackerFold => exact execTrackerFold_pin (h₀ := h₀) (h := h)
  | rotationPassEnd => exact execRotationPassEnd_pin (h₀ := h₀) (h := h)
  | migrationStart => exact execMigrationStart_pin (h₀ := h₀) (h := h)
  | migrationEnd => exact execMigrationEnd_pin (h₀ := h₀) (h := h)
  | coldSwapCheck => exact execColdSwapCheck_pin (h₀ := h₀) (h := h)
  | refreshRegion => exact execRefreshRegion_pin (h₀ := h₀) (h := h)
  | checkpointStart => exact execCheckpointStart_pin (h₀ := h₀) (h := h)
  | checkpointCommit => exact execCheckpointCommit_pin (h₀ := h₀) (h := h)
  | resync => exact execResync_pin (h₀ := h₀) (h := h)
  | weakLineRewrite => exact execWeakLineRewrite_pin (h₀ := h₀) (h := h)
  | terryStripeRead => exact execTerryStripeRead_pin (h₀ := h₀) (h := h)
  | sramScrub => exact execSramScrub_pin (h₀ := h₀) (h := h)
  | marginEvaluation => exact execMarginEvaluation_pin (h₀ := h₀) (h := h)
  | gauzeSnapshot => exact execGauzeSnapshot_pin (h₀ := h₀) (h := h)
  | tagWriteback => exact execTagWriteback_pin (h₀ := h₀) (h := h)
  | rekeyPass => exact execRekeyPass_pin (h₀ := h₀) (h := h)
  | alertService => exact execAlertService_pin (h₀ := h₀) (h := h)
  | channelTraining => exact execChannelTraining_pin (h₀ := h₀) (h := h)
  | str => exact execStr_pin (h₀ := h₀) (h := h)
  | rebuildPosition => exact execRebuildPosition_pin (h₀ := h₀) (h := h)
  | replacementCopyBack => exact execReplacementCopyBack_pin (h₀ := h₀) (h := h)
  | engineHeartbeatMiss => exact execEngineHeartbeatMiss_pin (h₀ := h₀) (h := h)
  | takeoverComplete => exact execTakeoverComplete_pin (h₀ := h₀) (h := h)
  | lockstepMismatch => exact execLockstepMismatch_pin (h₀ := h₀) (h := h)
  | bankFailoverComplete => exact execBankFailoverComplete_pin (h₀ := h₀) (h := h)
  | headFailure => exact execHeadFailure_pin (h₀ := h₀) (h := h)
  | selfTest => exact execSelfTest_pin (h₀ := h₀) (h := h)
  | safeStopEntry => exact execSafeStopEntry_pin (h₀ := h₀) (h := h)
  | residentRailsGood => exact execResidentRailsGood_pin (h₀ := h₀) (h := h)
  | residentRailFall => exact execResidentRailFall_pin (h₀ := h₀) (h := h)
  | pfailNRise => exact execPfailNRise_pin (h₀ := h₀) (h := h)
  | inputPowerLoss => exact execInputPowerLoss_pin (h₀ := h₀) (h := h)
  | flushEnd => exact execFlushEnd_pin (h₀ := h₀) (h := h)
  | pseqPgChange => exact execPseqPgChange_pin (h₀ := h₀) (h := h)
  | slotQualified => exact execSlotQualified_pin (h₀ := h₀) (h := h)
  | slotQualifyTimeout => exact execSlotQualifyTimeout_pin (h₀ := h₀) (h := h)
  | slotFallen => exact execSlotFallen_pin (h₀ := h₀) (h := h)
  | slotFallTimeout => exact execSlotFallTimeout_pin (h₀ := h₀) (h := h)
  | railFault => exact execRailFault_pin (h₀ := h₀) (h := h)
  | huSenseSample => exact execHuSenseSample_pin (h₀ := h₀) (h := h)
  | holdupReport => exact execHoldupReport_pin (h₀ := h₀) (h := h)
  | writeBackReturn => exact execWriteBackReturn_pin (h₀ := h₀) (h := h)
  | healthTestEnd => exact execHealthTestEnd_pin (h₀ := h₀) (h := h)
  | boot => exact execBoot_pin (h₀ := h₀) (h := h)
  | bindingCheck => exact execBindingCheck_pin (h₀ := h₀) (h := h)
  | mapRebuild => exact execMapRebuild_pin (h₀ := h₀) (h := h)
  | memoryActive => exact execMemoryActive_pin (h₀ := h₀) (h := h)
  | holdupReportTimeout => exact execHoldupReportTimeout_pin (h₀ := h₀) (h := h)
  | lightSleepEntry => exact execLightSleepEntry_pin (h₀ := h₀) (h := h)
  | deepSleepEntry => exact execDeepSleepEntry_pin (h₀ := h₀) (h := h)
  | idleEnd => exact execIdleEnd_pin (h₀ := h₀) (h := h)
  | refMonitorWindow => exact execRefMonitorWindow_pin (h₀ := h₀) (h := h)
  | refclkLost => exact execRefclkLost_pin (h₀ := h₀) (h := h)
  | refclkGood => exact execRefclkGood_pin (h₀ := h₀) (h := h)
  | pllJudgeWindow => exact execPllJudgeWindow_pin (h₀ := h₀) (h := h)
  | ircTrimUpdate => exact execIrcTrimUpdate_pin (h₀ := h₀) (h := h)
  | thermalSample => exact execThermalSample_pin (h₀ := h₀) (h := h)
  | throttleEntry => exact execThrottleEntry_pin (h₀ := h₀) (h := h)
  | throttleStep => exact execThrottleStep_pin (h₀ := h₀) (h := h)
  | perstDeassert => exact execPerstDeassert_pin (h₀ := h₀) (h := h)
  | channelRetrainEnd => exact execChannelRetrainEnd_pin (h₀ := h₀) (h := h)
  | returnRampEnd => exact execReturnRampEnd_pin (h₀ := h₀) (h := h)
  | redistributionComplete => exact execRedistributionComplete_pin (h₀ := h₀) (h := h)
  | testEnRise => exact execTestEnRise_pin (h₀ := h₀) (h := h)
  | _ => exact keep_pin (exec_only _ s t h) (of_decide_eq_true rfl) h₀

/-- Where FAULT_N is as R403 says, it is low exactly in M11 or on a fallback clock after a failure. -/
theorem FaultPinRight.low_iff {b : Blk} (h : FaultPinRight b) : b.modes.faultN = false ↔ b.eff = 11 ∨ b.clocks.failed = true := by
  rw [h, Bool.not_eq_false', Bool.or_eq_true, Blk.eff_eq_eleven_iff]
  rfl

/-- Settles O10: an idle step changes nothing, and any other runs the front command, which keeps FAULT_N right; the stamp sets neither the modes nor the clocks. -/
theorem faultPinShowsStopAndFallback : Obligations.FaultPinShowsStopAndFallback := by
  refine ⟨fun s t hs h => ?_, fun _ => FaultPinRight.low_iff⟩
  cases hp : s.pending with
  | nil =>
    rw [step_nil s hp] at h
    cases h
    exact hs
  | cons c rest =>
    rw [step_cons c rest s hp] at h
    exact exec_keeps_fault_pin c { s with pending := rest } t hs h

end Sys2Proof.Machine
end

section
/-! SUPPORT. Guarded writes and the effects that wait for them, command by command; the statement of the family 12_register_interface (R133, R252, R300 to R303, R335, R356, R370, R402). -/

namespace Sys2Proof.Machine

/-- The first applied write of a target that waits for its effect runs it, and waits no longer (R303). -/
theorem Blk.takeDue_of_due {b : Blk} {target : Nat} {ok : Nat → Bool} {e : BitVec 16 × BitVec 32} (f : Nat → Blk → Blk)
    (he : (b.due.find? fun x => x.1.toNat == target && ok x.2.toNat) = some e) :
    b.takeDue target ok f = f e.2.toNat { b with due := b.due.erase e, dueB := none } := by
  simp only [Blk.takeDue, he]

/-- A command that carries out the effect of an applied write, where one waits: from the block at its stamp and what the effect makes of it. -/
theorem State.command_due {s : State} {a : Stamp} {target : Nat} {ok : Nat → Bool} {f : Nat → Blk → Blk} {e : BitVec 16 × BitVec 32} {b c : Blk}
    (hb : s.blk.at a = b) (he : (b.due.find? fun x => x.1.toNat == target && ok x.2.toNat) = some e)
    (hf : f e.2.toNat { b with due := b.due.erase e, dueB := none } = c) :
    (s.command a fun x => x.takeDue target ok f) = .next { s with blk := c } :=
  State.command_at hb ((Blk.takeDue_of_due f he).trans hf)

/-- Settles O50 (the list of effects that wait is log 30, LTARGET kept at result 4 log 29): the held value and the instant choose the result of an attempt; an effect that waits is taken up, and where the device must run for it that hypothesis chooses the branch. -/
theorem guardedWrites : Obligations.GuardedWrites := by
  refine ⟨fun a h bytes v s b hb hopen hbytes hheld => ?_, fun a h bytes v w t s b hb hopen hbytes hheld => ?_,
    fun a h bytes v w t s b hb hopen hbytes hheld hsoon hv => ?_, fun a h bytes v w t s b hb hopen hbytes hheld hlate => ?_,
    fun a h bytes v w t s b hb hopen hbytes hheld hsoon hv => ?_, fun a h bytes v s b hb hopen hbytes hheld => ?_,
    fun a e s b hb he => ?_, fun a e s b hb he => ?_, fun a e s b hb he => ?_, fun a e s b hb he => ?_, fun a e s b hb he hstop => ?_,
    fun a e s b hb he hruns hflush => ?_, fun a e s b hb he hruns => ?_, fun a e s b hb he => ?_, fun a e s b hb he hclocks => ?_,
    fun a t s b hb hcal hlate => ?_⟩
  · rw [exec_gval]
    exact State.command_at hb (by simp only [hopen, hbytes, hheld, Bool.not_true, Bool.false_eq_true, ne_eq, not_true_eq_false, if_false])
  · rw [exec_gval]
    exact State.command_at hb (by simp only [hopen, hbytes, hheld, Bool.not_true, Bool.false_eq_true, ne_eq, not_true_eq_false, if_false])
  · rw [exec_gcmp]
    exact State.command_at hb (by
      simp only [hopen, hbytes, hheld, hv, Nat.not_lt.2 hsoon, Bool.not_true, Bool.false_eq_true, ne_eq, not_true_eq_false, if_false])
  · rw [exec_gcmp]
    exact State.command_at hb (by
      simp only [hopen, hbytes, hheld, hlate, Bool.not_true, Bool.false_eq_true, ne_eq, not_true_eq_false, if_false, if_true, BitVec.reduceEq])
  · rw [exec_gcmp]
    exact State.command_at hb (by
      simp only [hopen, hbytes, hheld, hv, Nat.not_lt.2 hsoon, Bool.not_true, Bool.false_eq_true, ne_eq, not_true_eq_false, not_false_eq_true, if_false,
        if_true, BitVec.reduceEq])
  · rw [exec_gcmp]
    exact State.command_at hb (by simp only [hopen, hbytes, hheld, Bool.not_true, Bool.false_eq_true, ne_eq, not_true_eq_false, if_false])
  · rw [exec_keyZeroize]
    exact State.command_due hb he rfl
  · rw [exec_calibrationWriteEnableOpen]
    exact State.command_due hb he rfl
  · rw [exec_calibrationWriteEnableClose]
    exact State.command_due hb he rfl
  · rw [exec_feltFormat]
    exact State.command_due hb he rfl
  · rw [exec_safeStopRelease]
    exact State.command_due hb he (if_pos hstop)
  · rw [exec_forcedPowerCutInput]
    exact State.command_due hb he (if_pos (Bool.and_eq_true_iff.2 ⟨hruns, Option.isNone_iff_eq_none.2 hflush⟩))
  · rw [exec_forcedPowerCutRail]
    exact State.command_due hb he (if_pos hruns)
  · rw [exec_forcedClockSwitchIrc]
    exact State.command_due hb he rfl
  · rw [exec_forcedClockSwitchRefclk]
    exact State.command_due hb he (if_neg (Bool.eq_false_iff.1 hclocks))
  · rw [exec_calibrationEnableExpiry]
    exact State.command_at hb (by simp only [hcal, hlate, if_true])

end Sys2Proof.Machine
end

section
/-! SUPPORT. Input power and the resident rails, clocks and temperature, command by command; statements of the families 14_power_supervision and 15_clocks_thermal (R219, R313, R320, R321, R333, R346 to R363, R378, R403). -/

namespace Sys2Proof.Machine

/-! ### Input power and the resident rails (R219, R313, R320, R321, R378) -/

/-- FLUSH_END of a flush that runs while Canvas has no off request: in M11 the errors of its lines are judged first (R320, R323). -/
theorem exec_flushEnd_of_flush {a : Stamp} {start lines x : Nat} {s : State} {b : Blk} (errs : List (Nat × DpErr)) (hb : s.blk.at a = b)
    (hflush : b.modes.flush = some (start, lines, x)) (hoff : b.canvas.off = false) :
    exec (.flushEnd a errs) s = .next { s with
      blk := if b.holds 11 then (errs.foldl Blk.flushCheck b).endFlush start (min lines (errs.foldl Blk.flushCheck b).dirtyCount) else b.endFlush start lines } := by
  rw [exec_flushEnd]
  exact State.command_at hb (by simp only [hflush, hoff, Bool.false_eq_true, if_false])

/-- Settles O57 (that only M11 judges the errors of FLUSH_END's operand is log 55, a rise of PFAIL_N while running log 60): each hypothesis chooses the branch of its command. -/
theorem inputPowerAndRails : Obligations.InputPowerAndRails := by
  refine ⟨fun a straps pfailHigh testEn s b hb hpower => ?_, fun a s b hb hpower hruns => ?_, fun a s b hb hpower hruns => ?_,
    fun a s b hb hpower hpfail hruns => ?_, fun a s b hb hpower hpfail hruns => ?_, fun a e s b hb hpower hpfail he hruns hflush => ?_,
    fun a e s b hb hpower hpfail he hruns => ?_, fun a errs start lines x s b hb hflush hoff hstop => ?_,
    fun a errs start lines x s b hb hflush hoff hstop => ?_⟩
  · rw [exec_residentRailsGood]
    exact State.command_of_neg hb (Bool.eq_false_iff.1 hpower)
  · rw [exec_residentRailFall]
    exact State.command_of_check hb hpower (by simp only [hruns, if_true])
  · rw [exec_residentRailFall]
    exact State.command_of_check hb hpower (by simp only [hruns, Bool.false_eq_true, if_false])
  · rw [exec_pfailNRise]
    exact State.command_at hb (by simp only [hpower, hpfail, hruns, Bool.not_true, Bool.or_self, Bool.false_eq_true, if_false])
  · rw [exec_pfailNRise]
    exact State.command_at hb (by simp only [hpower, hpfail, hruns, Bool.not_true, Bool.or_self, Bool.false_eq_true, if_false, if_true])
  · subst he
    rw [exec_inputPowerLoss]
    exact State.command_at hb (by
      simp only [hpower, hpfail, hruns, hflush, Option.isNone_none, Bool.and_self, Bool.not_true, Bool.or_self, Bool.false_eq_true, if_false, if_true])
  · subst he
    rw [exec_inputPowerLoss]
    exact State.command_at hb (by
      simp only [hpower, hpfail, hruns, Bool.false_and, Bool.not_true, Bool.or_self, Bool.false_eq_true, if_false])
  · rw [exec_flushEnd_of_flush errs hb hflush hoff, if_neg (Bool.eq_false_iff.1 hstop)]
  · rw [exec_flushEnd_of_flush errs hb hflush hoff, if_pos hstop]

/-! ### Clocks (R333, R346 to R356, R403) -/

/-- A window that is too far off, or in which nothing was counted, does not pass (R353). -/
theorem pll_window_fails {within : Bool} {count : Nat} (h : within = false ∨ count = 0) : (within && decide (0 < count)) = false := by
  rcases h with rfl | rfl
  · rfl
  · exact Bool.and_false within

/-- PLL_JUDGE_WINDOW of a locked PLL whose window does not pass: the second in a row is the PLL's failure (R353). -/
theorem exec_pllJudgeWindow_of_failing {a : Stamp} {pll : Pll} {count cref : Nat} {s : State} {b : Blk} (hb : s.blk.at a = b) (hruns : b.running = true)
    (hlocked : (b.clocks.pll pll).locked = true) (hfails : pllWithin count (pllExpect4 pll cref true) 20 = false ∨ count = 0) :
    exec (.pllJudgeWindow a pll count cref) s = .next { s with
      blk := if 1 ≤ (b.clocks.pll pll).fail then b.pllFail pll (count == 0) else b.onClocks fun c => c.onPll pll fun x => { x with fail := 1 } } := by
  rw [exec_pllJudgeWindow]
  exact State.command_of_check hb hruns (by simp only [hlocked, pll_window_fails hfails, Bool.false_eq_true, if_true, if_false])

/-- RETURN_RAMP_END of a ramp: after a clock failure the device wakes, or stays out of M6 where a flush or a stop forbids it (R356, R403). -/
theorem exec_returnRampEnd_of_ramp {a : Stamp} {s : State} {b : Blk} (hb : s.blk.at a = b) (hramp : b.clocks.ramp = true) :
    exec (.returnRampEnd a) s = .next { s with
      blk := (let b1 := (b.onClocks fun c => { c with ramp := false, nFab := 8, nEng := 8, nCry := 8, failed := false, forced := false }).faultPin
          if b.clocks.failed && b.modes.flush.isNone && !b.stopped then b1.wake else if b.clocks.failed then b1.leave 6 else b1) } :=
  (exec_returnRampEnd a s).trans (State.command_of_pos hb hramp)

/-- Settles O48 (the reference monitor is R352's, what a lost reference does R354's, the return ramp R356's): each hypothesis chooses the branch of its command. -/
theorem clocksAndTemperature : Obligations.ClocksAndTemperature := by
  refine ⟨fun a edges s b hb hpower hpass => ?_, fun a edges s b hb hpower hpass => ?_, fun a stopped s b hb hpower href hfail => ?_,
    fun a s b hb hpower href hpass => ?_, fun a pll count cref s b hb hruns hlocked hwithin hcount => ?_, fun a pll count cref s b hb hruns hlocked href => ?_,
    fun a pll count cref s b hb hruns hlocked hfails hfirst => ?_, fun a pll count cref s b hb hruns hlocked hfails hsecond => ?_,
    fun a s b hb hramp hfailed => ?_, fun a s b hb hramp hfailed hflush hstop => ?_, fun a s b hb hramp hfailed hforbids => ?_,
    fun a t s b hb hpower htrim ht => ?_, fun a s b hb hpower htrim ht => ?_, fun a s b hb hpower htrim => ?_, fun a t s b hb hreq hactive hgrace => ?_,
    fun a s b hb hheat hstep => ?_, fun a raw s b hb hpower hruns => ?_, fun a raw s b hb hpower hruns => ?_⟩
  · rw [exec_refMonitorWindow]
    exact State.command_of_check hb hpower (if_pos hpass)
  · rw [exec_refMonitorWindow]
    exact State.command_of_check hb hpower (if_neg (Bool.eq_false_iff.1 hpass))
  · rw [exec_refclkLost]
    exact State.command_of_pos hb (by simp only [hpower, bne_iff_ne.2 href, hfail, decide_true, Bool.and_self])
  · rw [exec_refclkGood]
    exact State.command_of_pos hb (by simp only [hpower, bne_iff_ne.2 href, hpass, decide_true, Bool.and_self])
  · rw [exec_pllJudgeWindow]
    exact State.command_of_check hb hruns (by simp only [hlocked, hwithin, hcount, decide_true, Bool.and_self, if_true])
  · rw [exec_pllJudgeWindow]
    exact State.command_of_check hb hruns (by simp only [hlocked, href, Bool.false_eq_true, if_false, if_true])
  · rw [exec_pllJudgeWindow_of_failing hb hruns hlocked hfails, if_neg (by omega)]
  · rw [exec_pllJudgeWindow_of_failing hb hruns hlocked hfails, if_pos hsecond]
  · rw [exec_returnRampEnd_of_ramp hb hramp]
    simp only [hfailed, Bool.false_and, Bool.false_eq_true, if_false]
  · rw [exec_returnRampEnd_of_ramp hb hramp]
    simp only [hfailed, hflush, hstop, Option.isNone_none, Bool.not_false, Bool.and_self, if_true]
  · have hsleeps : (b.modes.flush.isNone && !b.stopped) = false := by
      rcases hforbids with h | h
      · simp only [Option.isNone_eq_false_iff.2 h, Bool.false_and]
      · simp only [h, Bool.not_true, Bool.and_false]
    rw [exec_returnRampEnd_of_ramp hb hramp]
    simp only [hfailed, Bool.true_and, hsleeps, Bool.false_eq_true, if_false, if_true]
  · rw [exec_ircTrimUpdate]
    exact State.command_of_check hb hpower (by simp only [htrim, ht, Bool.not_true, Bool.false_eq_true, if_false])
  · rw [exec_ircTrimUpdate]
    exact State.command_of_check hb hpower (by simp only [htrim, ht, Bool.not_true, Bool.false_eq_true, if_false])
  · rw [exec_ircTrimUpdate]
    exact State.command_of_check hb hpower (by simp only [htrim, Bool.not_false, if_true])
  · rw [exec_throttleEntry]
    exact State.command_at hb (by simp only [hreq, hactive, hgrace, decide_true, Bool.and_self, if_true])
  · rw [exec_throttleStep]
    exact State.command_of_pos hb (by simp only [hheat, hstep, decide_true, Bool.and_self])
  · rw [exec_thermalSample]
    exact State.command_of_check hb hpower (by rw [hruns]; rfl)
  · rw [exec_thermalSample]
    exact State.command_of_check hb hpower (by simp only [hruns, Bool.not_false, Bool.false_eq_true, if_false, if_true])

end Sys2Proof.Machine
end

section
/-! SUPPORT. Linen, Felt and Tweed, repair and failover, command by command; statements of the families 16_linen_felt and 18_safety_service (R366 to R377, R389 to R394, R399 to R401, R406 to R412, R429). -/

namespace Sys2Proof.Machine

/-! ### Linen's records and Tweed's telemetry (R366 to R377, R389 to R394) -/

/-- The words CONSUME and DROP are taken from Memory Active on, outside a stop (R394). -/
theorem Blk.active_and_not_stopped {b : Blk} (hactive : b.memoryActive = true) (hstop : b.stopped = false) : (b.memoryActive && !b.stopped) = true := by
  simp only [hactive, hstop, Bool.not_false, Bool.and_self]

/-- Settles O43 (a value of CONSUME behind the read position is ignored, R394): each hypothesis chooses the branch of its command. -/
theorem eventLogAndTelemetry : Obligations.EventLogAndTelemetry := by
  refine ⟨fun a code cls unit dpa hpa data s b hb => ?_, fun a code cls unit w s b hb hw hage => ?_, fun a s b hb hruns => ?_,
    fun a n rest s b hb hwait hpower => ?_, fun a weakWords s b hb hruns => ?_, fun a s b hb hruns => ?_, fun a s b hb hruns => ?_,
    fun a h v s b hb hactive hstop => ?_, fun a h s b hb hactive hstop => ?_, fun a s b hb hruns hpaused hflush => ?_, fun a s b hb hfull hpaused => ?_⟩
  · rw [exec_linenReport]
    exact State.command_at hb rfl
  · rw [exec_stormWindowClose]
    exact State.command_at hb (by simp only [hw, hage, if_true])
  · rw [exec_tokenGain]
    exact State.command_of_pos hb hruns
  · rw [exec_ringWrite]
    exact State.command_at hb (by simp only [hwait, hpower, if_true])
  · rw [exec_feltMarginPass]
    exact State.command_of_pos hb hruns
  · rw [exec_counterRecordWrite]
    exact State.command_of_pos hb hruns
  · rw [exec_operatingTimeTick]
    exact State.command_of_pos hb hruns
  · rw [exec_consume]
    exact State.command_of_pos hb (Blk.active_and_not_stopped hactive hstop)
  · rw [exec_drop]
    exact State.command_of_pos hb (Blk.active_and_not_stopped hactive hstop)
  · rw [exec_telemetryDump]
    exact State.command_of_pos hb (by simp only [hruns, hpaused, hflush, Option.isNone_none, Bool.not_false, Bool.and_self])
  · rw [exec_queueBankSwap]
    exact State.command_of_pos hb ⟨hfull, by simp only [hpaused, Bool.not_false]⟩

/-! ### Repair and failover (R399 to R401, R406 to R412, R429) -/

/-- Settles O56 (the free mechanism number of a second head failure and of TEST_EN is log 4; the TAP is R429's): each hypothesis chooses the branch of its command. -/
theorem repairAndFailover : Obligations.RepairAndFailover := by
  refine ⟨fun a pos rest cand s b hb hlist hat hcand hworks hjournal hsome hfree hroom => ?_, fun a pos rest x s b hb hlist hat => ?_,
    fun a pos d s b hb hd hworks hsubst hlist hat hrepl hstate hgood => ?_, fun a e s b hb hmgmt hstate => ?_, fun a e base s b hb hbase => ?_,
    fun a s b hb hredist => ?_, fun a pair s b hb hmgmt => ?_, fun a k sp e s b hb hover he hwait => ?_, fun a k sp n rest e s b hb hover he hwait => ?_,
    fun a h s b hb hruns hhead hother => ?_, fun a h s b hb hruns hhead hother => ?_, fun a failed s b hb hmgmt hdue => ?_,
    fun a m cause s b hb hsafe => ?_, fun a s b hb hpower htest => ?_, fun a i j s b hb hpower hj => ?_⟩
  · subst hcand
    have hroom' : ¬4096 ≤ b.safety.subst.length := Nat.not_le.2 hroom
    rw [exec_rebuildPosition]
    exact State.command_at hb (by simp [hlist, hat, hworks, hjournal, hsome, hfree, hroom'])
  · rw [exec_rebuildPosition]
    exact State.command_at hb (by simp only [hlist, hat])
  · subst hd
    rw [exec_replacementCopyBack]
    exact State.command_of_pos hb (by
      simp only [hworks, hsubst, hlist, hat, hrepl, hstate, hgood, List.isEmpty_nil, Option.isNone_none, beq_self_eq_true, Bool.not_false, Bool.and_self])
  · rw [exec_engineHeartbeatMiss]
    exact State.command_of_pos hb (by simp only [hmgmt, hstate, beq_self_eq_true, Bool.and_self])
  · rw [exec_takeoverComplete]
    exact State.command_at hb (by simp only [hbase])
  · rw [exec_redistributionComplete]
    exact State.command_of_neg hb (by rwa [List.isEmpty_iff])
  · rw [exec_lockstepMismatch]
    exact State.command_of_pos hb ⟨hmgmt, pair.isLt⟩
  · subst he
    rw [exec_bankFailoverComplete]
    exact State.command_at hb (by simp only [hover, hwait])
  · subst he
    rw [exec_bankFailoverComplete]
    exact State.command_at hb (by simp only [hover, hwait])
  · rw [exec_headFailure]
    exact State.command_at hb (by simp only [hruns, hhead, hother, Bool.not_true, Bool.or_self, Bool.false_eq_true, if_false])
  · rw [exec_headFailure]
    exact State.command_at hb (by simp only [hruns, hhead, hother, Bool.not_true, Bool.or_self, Bool.false_eq_true, if_false, if_true])
  · rw [exec_selfTest]
    exact State.command_of_pos hb (by simp only [hmgmt, hdue, Bool.and_self])
  · rw [exec_safeStopEntry]
    exact State.command_at hb (by simp only [hsafe])
  · rw [exec_testEnRise]
    exact State.command_of_pos hb (by simp only [hpower, htest, Bool.not_false, Bool.and_self])
  · subst hj
    rw [exec_tapInstruction]
    exact State.command_of_check hb hpower rfl

end Sys2Proof.Machine
end
